-- ==== Sys2Proof/Word.lean ====
section
/-! DEFINITION. The word and byte types of the ODX-8 (spec/00_scope.md R13) and the index types that its names range over (R22). -/
namespace Sys2Proof

/-- R13: every register is 32 bits wide. -/
abbrev Word := BitVec 32

/-- One byte of an image, a format or a memory. -/
abbrev Byte := BitVec 8

/-- R22: a field, F0 to F7. -/
abbrev FieldId := Fin 8
/-- R22: a lane by its package lane number 16n + k. -/
abbrev LaneId := Fin 128
/-- R22: a quad by 4n + m. -/
abbrev QuadId := Fin 32
/-- R467: an engine by its package engine number 32n + 8c + e. -/
abbrev EngId := Fin 256
/-- A Rill cluster by 4n + c. -/
abbrev ClusterId := Fin 32
/-- A reservoir by 4n + r. -/
abbrev RsvId := Fin 32
/-- R34: a Flume site, 0 to 7 for N0-N3 and S0-S3, 8 for T0, 9 for T1. -/
abbrev SiteId := Fin 10
/-- R26: an HBM controller. -/
abbrev HmcId := Fin 4
/-- R117: a cistern. -/
abbrev CistId := Fin 64

/-- Bits [lo + n - 1 : lo] of a number. -/
def bitsOf (x lo n : Nat) : Nat := x / 2 ^ lo % 2 ^ n

/-- Bit b of a number. -/
def bitOf (x b : Nat) : Bool := x / 2 ^ b % 2 == 1

/-- The number with bit b set. -/
def setBit (x b : Nat) : Nat := if bitOf x b then x else x + 2 ^ b

/-- The number with bit b clear. -/
def clearBit (x b : Nat) : Nat := if bitOf x b then x - 2 ^ b else x

/-- The signed reading of the low n bits of a number. -/
def signedOf (x n : Nat) : Int :=
  if bitOf x (n - 1) then (x % 2 ^ n : Nat) - (2 ^ n : Nat) else (x % 2 ^ n : Nat)

/-- The n-bit two's complement pattern of an integer. -/
def patternOf (v : Int) (n : Nat) : Nat := (v % (2 ^ n : Nat)).toNat

/-- How many of bits [n - 1 : 0] are set. -/
def countBits (x : Nat) : Nat → Nat
  | 0 => 0
  | n + 1 => countBits x n + (if bitOf x n then 1 else 0)

end Sys2Proof
end

