-- ==== Sys2Proof/Kinds.lean ====
section
/-! DEFINITION. The kinds of event and operand that commands name. -/
namespace Sys2Proof

/-- R264, R314: the access that the other QDR user port issues in the same cycle. -/
structure QdrAcc where
  we : Bool
  addr : Fin 4194304
  data : BitVec 64
  deriving DecidableEq, Repr

/-- R166: of the header of a PTP message: its transport (UDP/IPv4, else IEEE 802.3), its domain, the identity of its sender's port and the
logarithm of its message interval. -/
structure PtpHdr where
  udp : Bool
  domain : Nat
  source : Nat
  log : Int
  deriving DecidableEq, Repr

/-- R166: what an Announce says of a grandmaster, as the default BMCA compares it: the clock quality (class, accuracy and variance) as one
number, smaller being better. -/
structure PtpDataset where
  prio1 : Nat
  quality : Nat
  prio2 : Nat
  identity : Nat
  steps : Nat
  deriving DecidableEq, Repr

/-- R166: a PTP message that reaches the balls of the time port now. -/
inductive PtpMsg
  /-- a Sync: its departure by the source, in 2^-8 ns; none in a two-step Sync, whose Follow_Up gives it -/
  | sync (h : PtpHdr) (origin : Option Nat)
  | followUp (h : PtpHdr) (origin : Nat)
  /-- the last message of a delay exchange (peer: of a peer-delay exchange): the mean path delay between the balls, in 2^-8 ns -/
  | delay (h : PtpHdr) (peer : Bool) (mpd : Int)
  | delayReq (h : PtpHdr)
  | pdelayReq (h : PtpHdr)
  /-- an Announce: the UTC offset in seconds and whether it is valid -/
  | announce (h : PtpHdr) (d : PtpDataset) (utc : Int) (valid : Bool)
  /-- a message the device ignores: management, unicast, another profile, a security TLV -/
  | ignored
  deriving DecidableEq, Repr

/-- R166: a PTP message that the time port sends; times are those of R162 in units of 2^-32 ns. -/
inductive PtpSend
  /-- a Sync with its departure; none in two-step, where a Follow_Up carries it -/
  | sync (ts : Option Nat)
  | followUp (ts : Nat)
  | announce (d : PtpDataset)
  /-- to a sender, with the arrival of its request -/
  | delayResp (dest rx : Nat)
  /-- the same for peer delay, with the response's own departure; none in two-step -/
  | pdelayResp (dest rx : Nat) (tx : Option Nat)
  | pdelayFollowUp (dest tx : Nat)
  deriving DecidableEq, Repr

/-- R56, R67: the receive set and the frequency offset that a lane's adaptation reached. -/
structure AdaptVals where
  ctle : Nat
  vga : Nat
  alpha : Nat
  beta : Int
  /-- the twelve DFE taps -/
  taps : List Int
  /-- in units of 0.1 ppm -/
  ppm : Int
  deriving DecidableEq, Repr, Inhabited

/-- R86, R88: what a PCS signals to fabric. -/
inductive PcsSignal
  | rxValid (on : Bool)
  | elecIdle (on : Bool)
  | localFault (on : Bool)
  | remoteFault
  deriving DecidableEq, Repr

/-- R34, R46: what a guest die at a turnout answers to an access of its window: ST of R190 and the data. -/
structure Guest where
  st : Fin 6 := 0
  data : BitVec 32 := 0
  deriving DecidableEq, Repr

/-- R181, R192: what the checks of a head flit's header on its way find. -/
inductive Hdr
  | good
  /-- a single-bit error is corrected -/
  | corrected
  /-- an uncorrectable error, an undefined VC and OP, or an illegal PORT: discarded at a port -/
  | bad (port : Fin 177)
  deriving DecidableEq, Repr

/-- R251, R252: a report of the training firmware on a controller. -/
inductive HbmTrain
  /-- training starts -/
  | start
  /-- one operating point is trained -/
  | point (r : Fin 4)
  /-- every point is trained -/
  | done
  /-- training fails: the pseudo-channel and the bits, as the event record names them -/
  | fail (pc : Fin 32) (bits : BitVec 39)
  deriving DecidableEq, Repr

/-- R99: a frame at a lane's fabric capture port. -/
structure FabFrame where
  bytes : List Byte
  /-- the error bit, which counts as an FCS error -/
  err : Bool
  deriving DecidableEq, Repr

/-- R84: what the IEEE 802.3 PCS and FEC of a port make of the blocks that a lane receives. -/
inductive EthRx
  /-- the lane gains or loses block or codeword lock -/
  | lock (on : Bool)
  /-- the port's PCS lanes are aligned -/
  | align
  /-- alignment is lost -/
  | misalign
  /-- IEEE 802.3's high bit error ratio begins or ends -/
  | hiber (on : Bool)
  /-- a codeword with errors, which the FEC can correct or not -/
  | codeword (correctable : Bool)
  /-- a frame from its destination address through its FCS; bad: it holds uncorrectable symbols or a coding violation -/
  | frame (bytes : List Byte) (bad : Bool)
  /-- a frame begins, and more of its bytes arrive; it ends by `frame`, whose bytes are the rest -/
  | start
  | data (bytes : List Byte)
  /-- a control block that passes to fabric, low-power idle among them: the eight control characters -/
  | control (chars : List Byte)
  /-- the local or the remote fault sequence of the partner -/
  | fault (remote : Bool)
  deriving DecidableEq, Repr

/-- R87: what the 128b/130b receiver of a lane makes of what it receives. -/
inductive PcieRx
  | lock (on : Bool)
  /-- a block as received: its sync header (1 an ordered set, 2 data) and its sixteen bytes, still scrambled -/
  | block (sync : Fin 4) (bytes : List Byte)
  deriving DecidableEq, Repr

/-- R86: what a training frame of IEEE 802.3 asks of a lane, or how its training ends. -/
inductive IeeeTrain
  /-- the coefficients c(-3) to c(1) that a request leads to -/
  | request (pre3 pre2 pre1 main post1 : Int)
  | done
  | fail
  deriving DecidableEq, Repr

/-- R142, R143: a pattern instruction. -/
inductive FurInstr
  | nop
  | send (desc : Nat) (more cur : Bool) (off len : Nat)
  | repeat_ (count : Nat)
  | waitTime (abs : Bool) (dur : Nat)
  | waitFloat (line toaddr timeout : Nat)
  | jump (target : Nat)
  | loop (lc target count : Nat)
  | insertCounter (slot : Nat) (en load : Bool) (width : Nat) (be : Bool) (off step : Nat)
  | insertTs (en : Bool) (format off : Nat)
  | fcs (mode : Nat)
  | inject (kind pos count bit skew : Nat)
  | halt
  deriving DecidableEq, Repr

/-- R290: what the configuration-frame scanner finds in a frame. -/
inductive FrameFound
  | dynamic | clean | single | bad
  deriving DecidableEq, Repr

/-- R334: who presents a request on a master port of a reservoir. -/
inductive RsvPort
  /-- port 0: the Furrow sequencer of lane k of the field -/
  | lane (k : Fin 16)
  /-- port 1: a Canal source -/
  | canal (src : Fin 4096)
  /-- ports 2 and 3: engine e of Rill cluster c -/
  | ril (c : Fin 4) (e : Fin 8)
  /-- ports 4 to 7 -/
  | fab (f : Fin 4)
  deriving DecidableEq, Repr

/-- R335: a word access that a master port presents to its bank: a read where no byte is enabled; an atomic operation takes
two cycles. -/
structure RsvBusy where
  port : Fin 8
  word : Fin 524288
  en : BitVec 8
  amo : Bool
  deriving DecidableEq, Repr

/-- R335: a write that a master port presents: a byte offset, and a byte for each place from there that it enables. -/
structure RsvWrite where
  port : RsvPort
  off : Fin 4194304
  bytes : List (Option Byte)
  deriving DecidableEq, Repr

/-- R335, R338: the writes presented in one cycle, and the word accesses that the other ports newly present in that cycle and
in each one after it. -/
structure RsvCycle where
  writes : List RsvWrite
  busy : List (List RsvBusy)
  deriving DecidableEq, Repr

/-- R325: an access of a basin-block port: its address, and for a write its enables (lane i at bit i; codeword i in Code L)
and its lanes of data. -/
structure BasinPort where
  addr : Nat
  we : Bool
  en : Nat
  data : List Nat
  deriving DecidableEq, Repr

/-- R226, R228: what the training of a turnout gives: the rates that both ends reach (bit r: rate r of MAXRATE), the widths of
modules 0 and 1 (0 none, 1 x16, 2 x32, 3 x64) and the lanes repaired, and the identity record. -/
structure GuestTrain where
  rates : Nat
  w0 : Nat
  w1 : Nat
  rep0 : Nat
  rep1 : Nat
  vendor : Nat
  design : Nat
  rev : Nat
  serial : Nat
  deriving DecidableEq, Repr

/-- R503: what the sensors read: the temperatures of Headworks, and by field those of its four columns; the words of
PWR_SUPV, and by field those of FPW_SUPV. -/
structure Sensors where
  hw : List Byte
  fld : List (List Byte)
  hwSup : List Word
  fldSup : List (List Word)
  deriving DecidableEq, Repr

end Sys2Proof
end

