-- ==== Sys2Proof/Syntax.lean ====
section
/-! DEFINITION. The commands of the ODX-8 model: one constructor for each row of spec/opcode_table.json, in the table's
 order. Operands are what the sender of the command or the event outside the part supplies. -/
namespace Sys2Proof

/-- The commands (the rows of the table). -/
inductive Instr
  /-- `REGISTER_WRITE` (R17). A write to a register that has no row of its own sets its fields by their access codes; narrow, unaligned or undefined encodings are refused as R14 and R16 state. -/
  | registerWrite (o : Fin 0x10100000) (bytes : List Byte) (src : Fin 4096) (guest : Guest)
  /-- `BAR4_WINDOW_SELECT` (R40). A write to CXL_B4WIN changes the BAR4 target for accesses accepted after it takes effect. -/
  | bar4WindowSelect (v : Word)
  /-- `SERVICE_ENTRY` (R44). GLB_SERV.STATE becomes SERVICE when the service conditions first hold after a package reset. -/
  | serviceEntry
  /-- `RECOVERY_ACCESS_ENTRY` (R45). The part enters recovery access when roll call ends without admitting a field and the first four service conditions hold. -/
  | recoveryAccessEntry
  /-- `PLL_ENABLE` (R72). Setting a PLL enable bit in LNQ_CTRL starts the quad PLL. -/
  | pllEnable (q : QuadId) (b : Bool)
  /-- `PLL_DISABLE` (R72). Clearing a PLL enable bit stops the PLL and sends every enabled lane that uses it to WAITPLL. -/
  | pllDisable (q : QuadId) (b : Bool)
  /-- `PLL_DIVIDER_WRITE` (R72). A write to LNQ_PLLx_N or LNQ_PLLx_F is accepted only while the PLL is disabled and NNUM is below NDEN. -/
  | pllDividerWrite (q : QuadId) (b : Bool) (f : Bool) (v : Word)
  /-- `PLL_LOCK` (R72). A quad PLL locks, and each lane waiting on it moves from WAITPLL to CAL. -/
  | pllLock (q : QuadId) (b : Bool)
  /-- `PLL_UNLOCK` (R72). An enabled PLL loses lock, sets UNLKA or UNLKB and sends its lanes to WAITPLL. -/
  | pllUnlock (q : QuadId) (b : Bool)
  /-- `LANE_ENABLE` (R67). A write that sets LN_CTRL.EN from 0 to 1 checks the rate class and starts the bring-up sequence, or enters REFUSED. -/
  | laneEnable (l : LaneId) (v : Word)
  /-- `LANE_DISABLE` (R67). Clearing LN_CTRL.EN returns the lane to OFF within 1 µs and fails any queued or running calibration. -/
  | laneDisable (l : LaneId)
  /-- `CAL_DONE` (R67). The CAL phase of a lane ends, the start values are loaded as R532 states, and the lane enters ACQ. -/
  | calDone (l : LaneId)
  /-- `ACQ_COMPLETE` (R67). Adaptation converges with the eye open, and the lane enters TRAIN or READY. -/
  | acqComplete (l : LaneId) (a : AdaptVals)
  /-- `ACQ_TIMEOUT` (R68). The lane does not reach READY within ADPTIME, reloads its receive start values, counts ACQFAIL and restarts ACQ. -/
  | acqTimeout (l : LaneId)
  /-- `LOSS_OF_SIGNAL` (R69). Signal detect or clock lock is lost in READY; the lane enters ACQ, sets LOS_EVT and counts LOSCNT. -/
  | lossOfSignal (l : LaneId) (clock : Bool)
  /-- `ADAPT_LIMIT_HOLD` (R60). A parameter stays at its limit for more than 1 ms of adaptation and the lane sets ADPLIM. -/
  | adaptLimitHold (l : LaneId)
  /-- `TXFIR_STAGE` (R55). A write to LN_TXFIR0 stages PRE3, PRE2, PRE1 and MAIN. -/
  | txfirStage (l : LaneId) (v : Word)
  /-- `TXFIR_COMMIT` (R55). A write to LN_TXFIR1 stages POST1, POST2 and AMP and commits a valid set at a symbol boundary, or sets FIRERR. -/
  | txfirCommit (l : LaneId) (v : Word)
  /-- `RXEQ_WRITE` (R60). A software write to the live receive registers with ADAPT = FIXED is accepted only within the entry's limits. -/
  | rxeqWrite (l : LaneId) (r : Fin 5) (v : Word)
  /-- `TRAIN_REQUEST` (R71). A write that changes LN_CTRL.TRAIN sends a READY lane back to ACQ, or takes effect at the end of ACQ or training. -/
  | trainRequest (l : LaneId) (t : Bool)
  /-- `RXCAL` (R75). A calibration request of KIND RXCAL calibrates the receiver and reacquires from the values held. -/
  | rxcal (l : LaneId) (src : Fin 4096) (intr : Bool) (e : Fin 1024)
  /-- `FULL_CAL` (R75). A calibration request of KIND FULL calibrates receiver and transmitter and reacquires from the entry's start values. -/
  | fullCal (l : LaneId) (src : Fin 4096) (intr : Bool) (e : Fin 1024)
  /-- `READAPT` (R75). A calibration request of KIND READAPT reacquires from the receive start values without CAL. -/
  | readapt (l : LaneId) (src : Fin 4096) (intr : Bool) (e : Fin 1024)
  /-- `QUEUED_CAL_START` (R74). A calibration queued during TRAIN starts when training ends in READY or fallback. -/
  | queuedCalStart (l : LaneId)
  /-- `LOOP_SELECT` (R77). A change of LN_CTRL.LOOP takes effect at once and the receiver re-enters ACQ. -/
  | loopSelect (l : LaneId) (m : Fin 4)
  /-- `PORT_ENABLE` (R80). A write that sets PCS_CTRL.EN from 0 to 1 checks the port configuration and starts the port, or sets CFGERR. -/
  | portEnable (l : LaneId) (v : Word)
  /-- `PORT_DISABLE` (R88). Clearing PCS_CTRL.EN stops the port, ends a frame in progress as truncated and faults running sequencers with BAD_MODE. -/
  | portDisable (l : LaneId)
  /-- `WRAW_BLOCK_RECEIVE` (R83). A 66-bit WRAW block is received, checked for its header, descrambled, deskewed and delineated into frames. -/
  | wrawBlockReceive (l : LaneId) (hdr : Fin 4) (payload : BitVec 64)
  /-- `AUTONEG_RESOLVED` (R85). Clause 73 negotiation resolves a common PHY, rewrites the lanes' configuration and restarts them, or sets AN_NOCOMMON. -/
  | autonegResolved (a : LaneId) (partner : Fin 32768) (prec : Bool)
  /-- `PCIE_RATE_CHANGE` (R87). A rate-change request from fabric idles the port's transmitters, rewrites DIV and RCLASS and restarts the lanes from CAL. -/
  | pcieRateChange (a : LaneId) (r : Fin 3)
  /-- `TRAINING_FRAME_RECEIVE` (R92). A Welisko training frame is received and checked; a new request is acted on and countdown conditions are judged. -/
  | trainingFrameReceive (l : LaneId) (cell : BitVec 64) (marker : Bool)
  /-- `TRAINING_FRAME_SEND` (R89). The lane sends a training frame carrying its requests, status and countdown, with any new transmit set in force. -/
  | trainingFrameSend (l : LaneId) (req : Option (Fin 128)) (ready : Bool)
  /-- `TRAIN_NO_FRAME_TIMEOUT` (R94). No valid training frame arrives within 10 ms of entering TRAIN, and training fails. -/
  | trainNoFrameTimeout (l : LaneId)
  /-- `TRAIN_TMAX_TIMEOUT` (R94). PCS_TRNCFG.TMAX expires before both countdowns complete, and training fails. -/
  | trainTmaxTimeout (l : LaneId)
  /-- `FABRIC_TRAIN_STROBE` (R86). Fabric strobes a six-tap set on the training port; it is applied if valid, or rejected for one cycle. -/
  | fabricTrainStrobe (l : LaneId) (pre3 : Int) (pre2 : Int) (pre1 : Int) (main : Int) (post1 : Int) (post2 : Int)
  /-- `FABRIC_TRAIN_DONE` (R86). Fabric raises the done input and FABRIC training ends. -/
  | fabricTrainDone (l : LaneId)
  /-- `FABRIC_TRAIN_FAIL` (R86). Fabric raises the fail input and FABRIC training fails. -/
  | fabricTrainFail (l : LaneId)
  /-- `PRBS_INJECT` (R95). A write of PCS_PRBS.INJ inverts one transmitted pattern bit. -/
  | prbsInject (l : LaneId)
  /-- `PRBS_CLEAR` (R95). A write of PCS_PRBS.CLR clears the PRBS bit and error counters and SAT. -/
  | prbsClear (l : LaneId)
  /-- `PRBS_CHECK` (R95). The checker takes received pattern bits, gains or loses sync and counts bits and errors until saturation. -/
  | prbsCheck (l : LaneId) (v : List Int)
  /-- `EYE_SCAN_START` (R96). A write of PCS_EYE.GO decides an eye-margin scan in its ledger entry. -/
  | eyeScanStart (l : LaneId) (src : Fin 4096) (v : Word)
  /-- `EYE_COLUMN_DONE` (R96). A phase column of an eye scan completes; the entry becomes PARTIAL or DONE. -/
  | eyeColumnDone (l : LaneId) (counts : List Nat)
  /-- `HIST_CLEAR` (R97). A write of PCS_HIST.CLR clears all sixteen path-metric bins. -/
  | histClear (l : LaneId)
  /-- `CFE_ENABLE` (R113). A write that sets CFE_CTRL.EN from 0 to 1 starts the CFE with a full meter and SEQ 0, or sets CFGERR when its lane share is 0. -/
  | cfeEnable (l : LaneId) (v : Word)
  /-- `CFE_COUNTER_CLEAR` (R130). A write of CFE_STAT.CNTCLR clears the four 48-bit CFE counters. -/
  | cfeCounterClear (l : LaneId) (v : Word)
  /-- `CFE_FRAME` (R99). A frame reaches the CFE from the PCS or the fabric capture port and is decided by the sieve. -/
  | cfeFrame (l : LaneId) (f : Option FabFrame)
  /-- `RECORD_JUDGE` (R105). The decision delay of a record expires; the capture window and the meter and space checks then emit or drop it. -/
  | recordJudge (l : LaneId)
  /-- `GAP_EMIT` (R116). Once the meter allows, a CFE with a gap pending takes a reserve descriptor, closes its segments and emits a GAP record. -/
  | gapEmit (l : LaneId)
  /-- `SEGMENT_LEND` (R110). The hub lends a free lane-pool segment to a CFE that holds fewer than LOAN segments. -/
  | segmentLend (l : LaneId)
  /-- `SEGMENT_CLOSE` (R111). A loaned segment closes when full or 1 µs after its first record, and passes to the drain. -/
  | segmentClose (l : LaneId)
  /-- `SEGMENT_DRAIN` (R111). The drain copies a closed segment's records into their cisterns, inserting PAD records at ring ends. -/
  | segmentDrain
  /-- `SEGMENT_RETURN` (R111). A drained segment returns to the lane pool once its HBM writes complete. -/
  | segmentReturn (i : Fin 64)
  /-- `LANE_SHARE_WRITE` (R114). A write to CAP_LSH is checked against the share limit and rejected with OVERCOMMIT if it breaks it. -/
  | laneShareWrite (l : LaneId) (v : Word)
  /-- `CISTERN_ARM` (R118). A write of CAP_CCTRL.ARM decides arming of a cistern in its ledger entry. -/
  | cisternArm (c : CistId) (src : Fin 4096) (v : Word)
  /-- `CISTERN_DISARM` (R119). A write of CAP_CCTRL.DISARM stops the cistern at once and discards its staged records. -/
  | cisternDisarm (c : CistId) (src : Fin 4096) (v : Word)
  /-- `SWSTART` (R125). A write of CAP_CCTRL.SWSTART issues a START action to the cistern, stamped at acceptance. -/
  | swstart (c : CistId) (src : Fin 4096) (v : Word)
  /-- `SWSTOP` (R125). A write of CAP_CCTRL.SWSTOP issues a STOP action to the cistern, stamped at acceptance. -/
  | swstop (c : CistId) (src : Fin 4096) (v : Word)
  /-- `FLOAT_PULSE` (R123). A float line pulse reaches the float sequencer and counts in the current state's counter. -/
  | floatPulse (m : BitVec 64)
  /-- `SOFTWARE_FLOAT` (R123). A write to FLT_SWF pulses the selected floats in the next sequencer cycle. -/
  | softwareFloat (hi : Bool) (v : Word)
  /-- `SEQUENCER_ENABLE` (R124). Setting FLT_CTRL.EN enters state INIT with its counter and timer cleared. -/
  | sequencerEnable (v : Word)
  /-- `SEQUENCER_DISABLE` (R124). Clearing FLT_CTRL.EN stops the sequencer and holds its state, counters and timers. -/
  | sequencerDisable (v : Word)
  /-- `EVENT_TRANSITION` (R124). A state's counter reaches CMP; the sequencer enters NEXT_EV and issues ACT_EV to its groups. -/
  | eventTransition
  /-- `TIMER_TRANSITION` (R124). A state's timer reaches TLIM; the sequencer enters NEXT_TM and issues ACT_TM to its groups. -/
  | timerTransition
  /-- `CFE_STOP_ACK` (R125). A CFE acknowledges a STOP or FREEZE once its DTC passes the stamp plus 48 ns; the entry ends DONE when all have. -/
  | cfeStopAck (l : LaneId)
  /-- `CISTERN_PUBLISH` (R129). Every 4 µs while records arrive, the hub updates the cistern's ledger entry with its publish point. -/
  | cisternPublish (c : CistId)
  /-- `FLOAT_STAMP_CAPTURE` (R132). A read of FLT_TS_LO captures the last transition stamp into TS_MID and TS_HI. -/
  | floatStampCapture
  /-- `FURROW_OWN_SELECT` (R133). A write of FUR_CTRL.OWN chooses the PCS transmit source, refused while the sequencer is priming, armed or running. -/
  | furrowOwnSelect (l : LaneId) (own : Bool)
  /-- `FURROW_LOAD` (R138). A LOAD command copies FUR_PLEN instructions from FUR_PSRC into program memory and starts LOADING. -/
  | furrowLoad (l : LaneId)
  /-- `FURROW_LOAD_DONE` (R138). Loading ends with the checks passed in LOADED, or in IDLE with ERR. -/
  | furrowLoadDone (l : LaneId)
  /-- `FURROW_ARM` (R138). An ARM command checks descriptors and HBM, resets the sequencer and starts priming. -/
  | furrowArm (l : LaneId)
  /-- `FURROW_PRIMED` (R138). Priming ends with the prefetch full; the sequencer enters ARMED, or LOADED with ERR such as LATE. -/
  | furrowPrimed (l : LaneId)
  /-- `FURROW_GO` (R137). A GO command starts an ARMED untimed sequencer. -/
  | furrowGo (l : LaneId)
  /-- `FURROW_STOP` (R137). A STOP command ends a running sequencer at the end of the frame in progress. -/
  | furrowStop (l : LaneId)
  /-- `FURROW_ABORT` (R137). An ABORT command ends a running sequencer at once, breaking any frame in progress. -/
  | furrowAbort (l : LaneId)
  /-- `FURROW_DISARM` (R137). A DISARM command returns a priming, armed or done sequencer to LOADED. -/
  | furrowDisarm (l : LaneId)
  /-- `FURROW_LAUNCH` (R151). An ARMED timed sequencer enters RUNNING at its launch instant on the slave DTC. -/
  | furrowLaunch (l : LaneId)
  /-- `FURROW_DONE` (R137). After HALT or the last instruction, the sequencer enters DONE once its last frame has left the PCS. -/
  | furrowDone (l : LaneId)
  /-- `FURROW_SOURCE_ERROR` (R139). A source read receives an error response and the sequencer enters FAULT with SRC_ERR. -/
  | furrowSourceError (l : LaneId)
  /-- `NOP` (R142). Furrow instruction NOP does nothing. -/
  | furNop (l : LaneId)
  /-- `SEND` (R141). Furrow instruction SEND appends bytes from a descriptor, at an offset or its cursor, to the frame. -/
  | furSend (l : LaneId) (data : List Byte)
  /-- `REPEAT` (R143). Furrow instruction REPEAT executes the next instruction COUNT times. -/
  | furRepeat (l : LaneId)
  /-- `WAIT_TIME` (R146). Furrow instruction WAIT-TIME holds the next frame until a DTC instant. -/
  | waitTime (l : LaneId)
  /-- `WAIT_TIME_ELAPSED` (R146). The DTC passes the instant of a WAIT-TIME and the next frame may start. -/
  | waitTimeElapsed (l : LaneId)
  /-- `WAIT_FLOAT` (R146). Furrow instruction WAIT-FLOAT waits for a pulse of a float line. -/
  | waitFloat (l : LaneId)
  /-- `WAIT_FLOAT_TIMEOUT` (R146). A WAIT-FLOAT timeout expires; execution continues at TOADDR and WFTO is set. -/
  | waitFloatTimeout (l : LaneId)
  /-- `JUMP` (R143). Furrow instruction JUMP continues at TARGET. -/
  | jump (l : LaneId)
  /-- `LOOP` (R144). Furrow instruction LOOP decrements its counter and branches to TARGET. -/
  | loop (l : LaneId)
  /-- `INSERT_COUNTER` (R147). Furrow instruction INSERT-COUNTER programs a counter slot. -/
  | insertCounter (l : LaneId)
  /-- `INSERT_TIMESTAMP` (R148). Furrow instruction INSERT-TIMESTAMP programs the timestamp slot. -/
  | insertTimestamp (l : LaneId)
  /-- `RECOMPUTE_FCS` (R149). Furrow instruction RECOMPUTE-FCS sets the check-sequence mode. -/
  | recomputeFcs (l : LaneId)
  /-- `INJECT` (R150). Furrow instruction INJECT arms a bit, symbol, code-violation or skew injection. -/
  | inject (l : LaneId)
  /-- `HALT` (R137). Furrow instruction HALT ends the program. -/
  | furHalt (l : LaneId)
  /-- `FRAME_START` (R152). A frame starts once the prefetch buffer holds its start threshold, with insertions and check sequence applied. -/
  | frameStart (l : LaneId)
  /-- `UNDERRUN` (R153). A byte is due and the prefetch buffer does not hold it; the frame starts late or is broken. -/
  | underrun (l : LaneId) (mid : Bool)
  /-- `TCLK_LOST` (R157). TCLK stops; the DTC counts in keep-alive and the slaves and TCLK-derived field clocks stop. -/
  | tclkLost
  /-- `TCLK_RESTORED` (R157). TCLK returns and the DTC leaves keep-alive, setting KALOG. -/
  | tclkRestored
  /-- `DTC_SNAPSHOT` (R158). A read of DTC_RD_FRAC captures the whole DTC into the snapshot set. -/
  | dtcSnapshot (mc : Bool)
  /-- `DTC_SET` (R159). A DTC_CMD write with SET schedules loading of DTC_SET at the apply instant. -/
  | dtcSet
  /-- `DTC_ADJ` (R159). A DTC_CMD write with ADJ schedules adding DTC_ADJ at the apply instant. -/
  | dtcAdj
  /-- `DTC_APPLY` (R159). At the apply instant the master and admitted slaves apply the pending command and DTC_APPLY records the old value. -/
  | dtcApply
  /-- `DTC_INCR_COMMIT` (R167). A write of DTC_INCR_HI commits the increment in FREE mode, or sets CMDERR otherwise. -/
  | dtcIncrCommit (v : Word)
  /-- `BEACON` (R161). A time beacon reaches a slave, which computes its offset and slews, steps and judges LOCK. -/
  | beacon (n : FieldId) (flight : Nat) (bad : Bool)
  /-- `DELAY` (R161). The sideband DELAY round trip measures the sideband delay d every 1 ms. -/
  | delay (n : FieldId) (t1 : Nat) (s2 : Nat) (s3 : Nat) (t4 : Nat) (bad : Bool)
  /-- `TIME_CAL_REQUEST` (R165). A write of FTS_CAL.GO decides a time calibration in its ledger entry. -/
  | timeCalRequest (n : FieldId) (src : Fin 4096) (v : Word)
  /-- `TIME_CAL_DONE` (R165). A time calibration completes and its entry ends DONE. -/
  | timeCalDone (n : FieldId) (temp : Byte)
  /-- `PTP_MESSAGE` (R166). A PTP message arrives on the time port; a Sync gives the servo one sample. -/
  | ptpMessage (m : PtpMsg)
  /-- `SERVO_HOLDOVER` (R168). HOLDN sample intervals pass without a valid sample and the servo enters HOLDOVER. -/
  | servoHoldover
  /-- `PPS_IN_EDGE` (R170). A PPS_IN rising edge is captured unless the set is held, sets PPSSEEN and feeds the servo in PPS mode. -/
  | ppsInEdge
  /-- `PPSI_CAPTURE_START` (R170). A read of DTC_PPSI_FRAC starts a capture that holds the PPS_IN set. -/
  | ppsiCaptureStart
  /-- `PPSI_CAPTURE_TIMEOUT` (R170). 1 ms after the read of DTC_PPSI_FRAC the capture completes. -/
  | ppsiCaptureTimeout
  /-- `PPS_OUT_RISE` (R170). NS passes DTC_PPSO.OFS and PPS_OUT rises. -/
  | ppsOutRise
  /-- `PPS_OUT_FALL` (R170). PPS_OUT falls after DTC_PPSO.WIDTH µs. -/
  | ppsOutFall
  /-- `RD` (R179). A Canal RD request reaches its target, takes a tag and is answered with RDATA. -/
  | rd (t : Fin 262144) (src : Fin 4096) (oc : Fin 4) (addr : BitVec 48) (len : Fin 256) (h : Hdr)
  /-- `WR` (R188). A Canal non-posted write reaches its target and is answered with CPL when visible. -/
  | wr (t : Fin 262144) (src : Fin 4096) (oc : Fin 4) (addr : BitVec 48) (len : Fin 256) (pois : Bool) (data : List Byte) (h : Hdr)
  /-- `AMO` (R189). A Canal atomic operation performs a read-modify-write at its target and returns the old value. -/
  | amo (t : Fin 262144) (src : Fin 4096) (oc : Fin 4) (addr : BitVec 48) (len : Fin 256) (aop : Fin 16) (data : List Byte) (h : Hdr)
  /-- `FLUSH` (R188). A Canal FLUSH is answered once earlier requests of its source and class have taken effect. -/
  | flush (t : Fin 262144) (src : Fin 4096) (oc : Fin 4) (h : Hdr)
  /-- `PWR` (R191). A Canal posted write is performed, or dropped and logged if the target cannot perform it. -/
  | pwrPost (src : Fin 4096) (oc : Fin 4) (addr : BitVec 48) (len : Fin 256) (pois : Bool) (data : List Byte) (h : Hdr)
  /-- `RDATA` (R190). A read response reaches the tracker and the source, freeing the tag. -/
  | rdata (own : Option FieldId) (t : Fin 262144) (h : Hdr)
  /-- `CPL` (R190). A completion reaches the tracker and the source, freeing the tag. -/
  | cpl (own : Option FieldId) (t : Fin 262144) (h : Hdr)
  /-- `CRD` (R179). A CSR read on MGT reaches its block and is answered with CRSP. -/
  | crd (t : Fin 262144) (src : Fin 4096) (x : Fin 0x10000000) (len : Fin 256) (h : Hdr)
  /-- `CWR` (R179). A CSR write on MGT reaches its block and is answered with CRSP. -/
  | cwr (t : Fin 262144) (src : Fin 4096) (x : Fin 0x10000000) (len : Fin 256) (data : List Byte) (h : Hdr)
  /-- `CRSP` (R179). A CSR response reaches the tracker and the source. -/
  | crsp (own : Option FieldId) (t : Fin 262144) (guest : Guest) (h : Hdr)
  /-- `AUDIT` (R185). An AUDIT flit after a link retrain resets the sender's credits to the receiver's free count. -/
  | audit (p : Fin 177) (vc : Fin 4) (free : Byte)
  /-- `CREDIT_RETURN` (R183). A credit return reaches the sender and restores one credit. -/
  | creditReturn (up : Bool) (p : Fin 177) (vc : Fin 4)
  /-- `TAG_TIMEOUT` (R195). A tag older than CTO is answered with TIMEOUT and quarantined. -/
  | tagTimeout (t : Fin 262144)
  /-- `QUARANTINE_END` (R195). A quarantined tag is freed at the end of its quarantine. -/
  | quarantineEnd (t : Fin 262144)
  /-- `FENCE_WALK_STEP` (R196). The tracker walks one tag of a fence walk, answering FENCED or marking orphan, and ends the walk after the last. -/
  | fenceWalkStep
  /-- `SHARE_WINDOW_START` (R200). At each 256-slot window each class's remainder is reset to its shares less any deficit. -/
  | shareWindowStart (u : Fin 305)
  /-- `SHARE_TABLE_WRITE` (R198). A write to SHR_TBL or SHR_UPL is checked and rejected with OVERCOMMIT if it over-commits. -/
  | shareTableWrite (upl : Bool) (p : Fin 177) (r : Fin 16) (v : Word)
  /-- `SHARE_MAP_WRITE` (R197). A write to SHR_MAP maps sources to classes, refused with MAPERR for class 1. -/
  | shareMapWrite (d : Fin 11) (i : Fin 64) (v : Word)
  /-- `QUOTA_WRITE` (R194). A write to TRK_QUOTA is rejected with QERR if the quotas would exceed 261,120. -/
  | quotaWrite (d : Fin 11) (v : Word)
  /-- `CANAL_COUNTER_CLEAR` (R204). A write of CNL_CTRL.CNTCLR clears the FLITS and BE counters of every port. -/
  | canalCounterClear (v : Word)
  /-- `REPLAY` (R209). A Flume slot fails its CRC and the sender replays from its buffer. -/
  | replay (n : FieldId) (m : Fin 8) (atField : Bool) (again : Bool)
  /-- `MODULE_RETRAIN` (R209). A Flume module retrains after eight failed replays or a lost lane, freezing its credits. -/
  | moduleRetrain (i : SiteId) (m : Fin 8) (lost : Bool)
  /-- `RETRAIN_COMMAND` (R209). A write of FLH_MCTRL.RETRAIN retrains an UP module, or sets CMDERR. -/
  | retrainCommand (i : SiteId) (m : Fin 8)
  /-- `RETRAIN_LANE_TEST_DONE` (R221). The lane test of a retrain ends and Headworks runs the width authority. -/
  | retrainLaneTestDone (n : FieldId) (m : Fin 8) (hw : BitVec 88) (fd : BitVec 88)
  /-- `WREPORT` (R221). A field's WREPORT gives its widest width and passing combinations. -/
  | wreport (n : FieldId) (m : Fin 8)
  /-- `WIDTH` (R221). A WIDTH message reaches the field, which answers ADOPT or UNABLE. -/
  | width (n : FieldId) (m : Fin 8)
  /-- `ADOPT` (R221). The field's ADOPT reaches Headworks, which records the width and trains the link. -/
  | adopt (n : FieldId) (m : Fin 8)
  /-- `UNABLE` (R221). The field's UNABLE reaches Headworks, which narrows further or fences the module. -/
  | unable (n : FieldId) (m : Fin 8)
  /-- `WIDTH_REPLY_TIMEOUT` (R221). No reply to WIDTH arrives within 4 µs. -/
  | widthReplyTimeout (n : FieldId) (m : Fin 8)
  /-- `RETRAIN_COMPLETE` (R220). A retraining module's link comes up with replay complete and the credit audit runs. -/
  | retrainComplete (n : FieldId) (m : Fin 8)
  /-- `ROLL_CALL_START` (R213). The MC0 firmware starts and roll call begins for every site. -/
  | rollCallStart
  /-- `SIDEBAND_UP` (R213). A site's sideband comes up, or fails with SB_NORESP. -/
  | sidebandUp (n : FieldId) (ok : Bool)
  /-- `ROLL` (R213). A ROLL message reads a field's identity, revision, strap, image identity and repair maps, with the checks of R214. -/
  | roll (n : FieldId) (dtype : Fin 16) (rev : Fin 16) (strap : Fin 8) (serial : BitVec 64) (rep : List Word)
  /-- `MODULES_TRAINED` (R213). A field's Flume modules finish training, or fail with NO_WIDTH or WIRE_LIMIT. -/
  | modulesTrained (n : FieldId) (hw : List (BitVec 88)) (fd : List (BitVec 88))
  /-- `KEY` (R416). A KEY message delivers the image key and slots to the FCC and starts field copy-in. -/
  | key (n : FieldId) (ok : Bool)
  /-- `FIELD_READY` (R213). A field reports ready; it is ADMITTED and its FREADY bit is set. -/
  | fieldReady (n : FieldId)
  /-- `ADMIT_TIMEOUT` (R213). A field not admitted by t0 + 100 ms is fenced with ADMIT_TIMEOUT. -/
  | admitTimeout (n : FieldId)
  /-- `HEARTBEAT_LOSS` (R212). Four HBEAT replies in a row are missed and the field is fenced with HEARTBEAT. -/
  | heartbeatLoss (n : FieldId)
  /-- `ALARM_LOW` (R222). Two low samples of a field's alarm line decide a fence. -/
  | alarmLow (n : FieldId)
  /-- `ALARM_CAUSE` (R215). A cause message within 2 µs refines ALARM to LOST_POWER, LOST_CLOCK or BROWNOUT. -/
  | alarmCause (n : FieldId) (c : Fin 3)
  /-- `FENCE` (R224). A FENCE message reaches a running field, which idles its lanes, stops capture and replay and sets FLF_FSTAT.FENCED. -/
  | fence (n : FieldId)
  /-- `SW_FENCE` (R225). A write of FLH_CTRL.FENCE fences an admitted or training die with SW_FENCE. -/
  | swFence (i : SiteId)
  /-- `TURNOUT_TRAIN` (R228). A turnout's UCIe link trains and the guest identity is checked against TRN_ALLOW. -/
  | turnoutTrain (t : Fin 2) (g : GuestTrain)
  /-- `TURNOUT_UNIT` (R227). A 336-byte turnout unit arrives and its slots, acknowledgement and credits are taken. -/
  | turnoutUnit (t : Fin 2) (m : Fin 2) (b : List Byte)
  /-- `TURNOUT_LINK_TIMEOUT` (R228). A turnout link stays down for 10 µs and the turnout is fenced. -/
  | turnoutLinkTimeout (t : Fin 2)
  /-- `LOOPBACK_TEST` (R229). A write of FLH_MCTRL.LBGO on a fenced or absent module sends PRBS31 on all lanes. -/
  | loopbackTest (n : FieldId) (m : Fin 8) (near : Bool)
  /-- `LOOPBACK_DONE` (R229). After 1 ms the loop-back test ends and LBDONE is set. -/
  | loopbackDone (n : FieldId) (m : Fin 8) (errs : Nat) (bad : BitVec 88)
  /-- `HBM_COMMAND_ISSUE` (R242). A pseudo-channel issues the first ready command of its priority list. -/
  | hbmCommandIssue (m : HmcId) (p : Fin 32) (rfm : Option (Fin 48)) (retry : Bool)
  /-- `REFRESH_DUE` (R245). A per-bank refresh falls due and is issued, postponed or starts a forced burst. -/
  | refreshDue (m : HmcId) (p : Fin 32)
  /-- `ROW_IDLE_CLOSE` (R243). A bank's idle timer expires and its row is precharged. -/
  | rowIdleClose (m : HmcId) (p : Fin 32) (b : Fin 48)
  /-- `HBM_TEMP_READ` (R244). The controller reads the stack temperature every 1 ms and sets the refresh interval. -/
  | hbmTempRead (m : HmcId) (t : Byte)
  /-- `SHADOW_WRITE` (R248). A write to the HMC shadow set sets SHVALID. -/
  | shadowWrite (m : HmcId) (r : Fin 4) (v : Word)
  /-- `FREQ_CHANGE` (R249). A write of HMC_FCHG.GO is checked and starts a change of operating point, or sets ERR. -/
  | freqChange (m : HmcId) (v : Word)
  /-- `FREQ_CHANGE_DONE` (R250). Self-refresh exit ends a frequency change and the controller returns to ACTIVE. -/
  | freqChangeDone (m : HmcId)
  /-- `HBM_TRAIN` (R251). Training firmware on MC1 trains a controller's operating points after a package reset. -/
  | hbmTrain (m : HmcId) (t : HbmTrain)
  /-- `HELPER_CA` (R251). A training helper command of OP CA runs on the pseudo-channels. -/
  | helperCa (m : HmcId) (pc : Fin 32) (all : Bool)
  /-- `HELPER_RD` (R251). A training helper command of OP RD runs on the pseudo-channels. -/
  | helperRd (m : HmcId) (pc : Fin 32) (all : Bool)
  /-- `HELPER_WRRD` (R251). A training helper command of OP WRRD runs on the pseudo-channels. -/
  | helperWrrd (m : HmcId) (pc : Fin 32) (all : Bool)
  /-- `HELPER_WDQS` (R251). A training helper command of OP WDQS runs on the pseudo-channels. -/
  | helperWdqs (m : HmcId) (pc : Fin 32) (all : Bool)
  /-- `HELPER_DONE` (R251). A helper command completes and HMC_TCMD.DONE is set. -/
  | helperDone (m : HmcId) (dq : Word) (extra : Fin 128) (ca : Bool) (cnt : Word)
  /-- `HBM_FREEZE` (R254). A parity error freezes a controller, which captures it, self-refreshes and poisons new requests. -/
  | hbmFreeze (m : HmcId) (cause : Fin 3) (p : Fin 32) (i : Option (Fin 32)) (bank : Fin 48) (row : Fin 24576)
  /-- `QDR_TRAIN_DONE` (R266). QDR training ends in READY, or in FAILED with its code. -/
  | qdrTrainDone (n : FieldId) (fail : Fin 6) (res : Word)
  /-- `QDR_FREEZE` (R268). The QDR device reports an address parity error and the port freezes. -/
  | qdrFreeze (n : FieldId) (portB : Bool) (write : Bool) (client : Fin 3) (addr : Fin 4194304)
  /-- `QDR_USER_REQUEST` (R314). A fabric QDR user port request is taken and answered in order. ready: the other clients that have accesses ready on the device port,
  cycle by cycle (R260). -/
  | qdrUserRequest (n : FieldId) (portB : Bool) (we : Bool) (addr : Fin 4194304) (data : BitVec 64) (ready : List (List (Fin 3))) (other : Option QdrAcc)
  /-- `WALK_STEP` (R284). A ditch-rider walker reads the next checked word, correcting or counting it. -/
  | walkStep (k : Fin 26)
  /-- `WALKER_WRITE_BACK` (R285). A walker write-back is issued when its path has room, or discarded after a later write. -/
  | walkerWriteBack (k : Fin 26)
  /-- `WALK_EPOCH` (R286). At each 1 s epoch an adaptive walker halves or doubles its interval. -/
  | walkEpoch (k : Fin 26)
  /-- `CHECK` (R287). A range pass of MODE CHECK reads and decodes a range. -/
  | check (u : Fin 9) (mem : Fin 4) (e : Fin 1024) (src : Fin 4096)
  /-- `SCRUB` (R287). A range pass of MODE SCRUB walks a range as the background walk. -/
  | scrub (u : Fin 9) (mem : Fin 4) (e : Fin 1024) (src : Fin 4096)
  /-- `INIT` (R287). A range pass of MODE INIT writes zeros with check bits and makes its regions CHECKED. -/
  | init (u : Fin 9) (mem : Fin 4) (e : Fin 1024) (src : Fin 4096)
  /-- `RANGE_PASS_STEP` (R287). A range pass completes 1/64 of its range, becoming PARTIAL, or ends DONE. -/
  | rangePassStep (u : Fin 9)
  /-- `REGION_CODE_WRITE` (R281). A region-table write changes region codes, making changed regions UNCHECKED or setting REGERR. -/
  | regionCodeWrite (b : Fin 17) (i : Fin 288) (v : Word)
  /-- `FRAME_SCAN` (R290). The configuration-frame scanner checks the next frame, correcting or recording it. -/
  | frameScan (n : FieldId) (f : FrameFound) (p : Fin 13)
  /-- `TMR_VOTE` (R289). A copy of hardened state disagrees and is rewritten, or the field is reloaded with TMRFAIL. -/
  | tmrVote (u : Fin 9) (ofs : Fin 65536) (lo : Option (Fin 32))
  /-- `FABRIC_FLOAT_OUT` (R316). A rising edge on a fabric float output pulses its field float line. -/
  | fabricFloatOut (n : FieldId) (j : Fin 8)
  /-- `USER_REG_IN` (R322). A host write to FLD_USRIN is presented to fabric whole with a strobe. -/
  | userRegIn (n : FieldId) (i : Fin 16) (v : Word)
  /-- `USER_REG_OUT` (R323). A fabric write to FLD_USROUT takes effect at once. -/
  | userRegOut (n : FieldId) (i : Fin 16) (v : Word) (p : Fin 13)
  /-- `FABRIC_PLL_UNLOCK` (R306). A field PLL loses lock and sets UNLK and PLLUNLK. -/
  | fabricPllUnlock (n : FieldId) (i : Fin 6)
  /-- `WCLK_LOSS` (R307). WCLK is lost in a field; WCLKLOST is set and destination endpoints present defaults. -/
  | wclkLoss (n : FieldId)
  /-- `BASIN_ACCESS` (R325). A basin-block port performs a read or write, resolving collisions with the other port. -/
  | basinAccess (n : FieldId) (r : Fin 16) (i : Fin 84) (a : Option BasinPort) (b : Option BasinPort)
  /-- `RESERVOIR_READ` (R335). A reservoir master port presents a read that banks grant by priority. -/
  | reservoirRead (i : RsvId) (p : RsvPort) (x : Fin 4194304) (len : Fin 64) (busy : List (List RsvBusy))
  /-- `RESERVOIR_WRITE` (R338). A reservoir master port presents a write, merged with same-word writes by priority. -/
  | reservoirWrite (i : RsvId) (c : RsvCycle)
  /-- `RESERVOIR_LL` (R341). LL on a reservoir port reads a word and sets the holder's reservation. -/
  | reservoirLl (i : RsvId) (p : RsvPort) (w : Fin 524288) (h : Fin 3) (busy : List (List RsvBusy))
  /-- `RESERVOIR_SC` (R341). SC on a reservoir port writes only if the reservation holds, and clears it. -/
  | reservoirSc (i : RsvId) (p : RsvPort) (w : Fin 524288) (h : Fin 3) (data : BitVec 64) (busy : List (List RsvBusy))
  /-- `RESERVOIR_FETCH` (R343). A reservoir read marked as an instruction fetch is checked against XN. -/
  | reservoirFetch (i : RsvId) (p : RsvPort) (x : Fin 4194304) (len : Fin 64) (busy : List (List RsvBusy))
  /-- `RESERVOIR_LOCK` (R345). A write of RSV_CTRL.LOCK locks the reservoir's port and region registers until FAD. -/
  | reservoirLock (i : RsvId)
  /-- `ENGINE_START` (R348). RIL_ECTRL.START starts an IDLE or STOPPED engine at ENTRY, or sets CMDERR. -/
  | engineStart (g : EngId) (entry : Fin 32768)
  /-- `ENGINE_RESET` (R366). RIL_ECTRL.ENR stops an engine issuing and waits for its outstanding accesses. -/
  | engineReset (g : EngId) (entry : Fin 32768)
  /-- `ENGINE_RESET_DONE` (R366). An engine's outstanding accesses complete and the reset makes it IDLE. -/
  | engineResetDone (g : EngId)
  /-- `ENGINE_RESET_WEDGED` (R366). Requests remain outstanding 1 ms after ENR; the engine faults WEDGED. -/
  | engineResetWedged (g : EngId)
  /-- `PATCH_LOAD` (R350). RIL_PLCMD.GO starts the patch loader, or sets PLERR. -/
  | patchLoad (k : ClusterId) (v : Word)
  /-- `PATCH_LOAD_DONE` (R350). The patch loader writes its last word, or stops on a refused read. -/
  | patchLoadDone (k : ClusterId)
  /-- `WATCHDOG_EXPIRY` (R367). An engine watchdog reaches 0 and the engine faults with WDOG. -/
  | watchdogExpiry (g : EngId)
  /-- `CLUSTER_CLOCK_STOP` (R501). The power manager stops the Rill clock of a cluster idle for CHOLD. -/
  | clusterClockStop (k : ClusterId)
  /-- `XY_EXTERNAL_ACCESS` (R351). An external access to an engine's X or Y memory takes a free cycle or forces one after 16. -/
  | xyExternalAccess (g : EngId) (forced : Bool)
  /-- `RILL_NOP` (R374). Rill instruction NOP performs only its moves. -/
  | rillNop (g : EngId) (held : Nat)
  /-- `CMAC` (R355). Rill instruction CMAC accumulates a complex product. -/
  | cmac (g : EngId) (held : Nat)
  /-- `DMAC` (R374). Rill instruction DMAC accumulates two real products. -/
  | dmac (g : EngId) (held : Nat)
  /-- `BFLY` (R374). Rill instruction BFLY forms a radix-2 butterfly into an accumulator pair. -/
  | bfly (g : EngId) (held : Nat)
  /-- `AOP` (R374). Rill instruction AOP clears, moves, adds, subtracts or loads an accumulator. -/
  | aop (g : EngId) (held : Nat)
  /-- `AST` (R358). Rill instruction AST stores an accumulator with rounding and saturation. -/
  | ast (g : EngId) (held : Nat)
  /-- `CALU` (R375). Rill instruction CALU performs a complex per-part operation. -/
  | calu (g : EngId) (held : Nat)
  /-- `RALU` (R375). Rill instruction RALU performs a 32-bit operation. -/
  | ralu (g : EngId) (held : Nat)
  /-- `ACS` (R360). Rill instruction ACS performs two add-compare-select butterflies. -/
  | acs (g : EngId) (held : Nat)
  /-- `BEXP` (R359). Rill instruction BEXP updates the block exponent. -/
  | bexp (g : EngId) (held : Nat)
  /-- `SCALE` (R359). Rill instruction SCALE shifts a register by the block exponent. -/
  | scale (g : EngId) (held : Nat)
  /-- `LDI` (R376). Rill instruction LDI loads an immediate. -/
  | ldi (g : EngId) (held : Nat)
  /-- `MOVR` (R379). Rill instruction MOVR copies a register. -/
  | movr (g : EngId) (held : Nat)
  /-- `STB` (R376). Rill instruction STB sets or clears ST bits. -/
  | stb (g : EngId) (held : Nat)
  /-- `BR` (R377). Rill instruction BR branches on a condition. -/
  | br (g : EngId) (held : Nat)
  /-- `CALL` (R376). Rill instruction CALL saves the return PC and jumps. -/
  | call (g : EngId) (held : Nat)
  /-- `JMPR` (R376). Rill instruction JMPR jumps to a register. -/
  | jmpr (g : EngId) (held : Nat)
  /-- `DO` (R378). Rill instruction DO starts a zero-overhead loop. -/
  | doLoop (g : EngId) (held : Nat)
  /-- `RILL_STOP` (R376). Rill instruction STOP enters STOPPED once earlier instructions complete. -/
  | rillStop (g : EngId) (held : Nat)
  /-- `WDR` (R376). Rill instruction WDR reloads the watchdog. -/
  | wdr (g : EngId) (held : Nat)
  /-- `RILL_LOAD` (R381). Rill instruction LOAD issues a load by the reservoir port or Canal. -/
  | rillLoad (g : EngId) (held : Nat)
  /-- `STORE` (R381). Rill instruction STORE issues a store by the reservoir port or a Canal PWR. -/
  | store (g : EngId) (held : Nat)
  /-- `RILL_LL` (R381). Rill instruction LL issues a load-linked to its own reservoir. -/
  | rillLl (g : EngId) (held : Nat)
  /-- `RILL_SC` (R381). Rill instruction SC issues a store-conditional to its own reservoir. -/
  | rillSc (g : EngId) (held : Nat)
  /-- `RILL_AMO` (R364). Rill instruction AMO issues a Canal AMO after earlier reservoir stores. -/
  | rillAmo (g : EngId) (held : Nat)
  /-- `BLK` (R382). Rill instruction BLK issues a 64-byte block transfer. -/
  | blk (g : EngId) (held : Nat)
  /-- `RILL_FLUSH` (R381). Rill instruction FLUSH issues a Canal FLUSH and waits for its CPL. -/
  | rillFlush (g : EngId) (held : Nat)
  /-- `BWAIT` (R381). Rill instruction BWAIT waits until every block transfer has completed. -/
  | bwait (g : EngId) (held : Nat)
  /-- `RILL_ACCESS_RETURN` (R365). A load, SC, AMO or FLUSH response returns to an engine, writing its destination or faulting. -/
  | rillAccessReturn (g : EngId) (k : Fin 64) (guest : Guest)
  /-- `BLOCK_TRANSFER_DONE` (R363). A block transfer completes in issue order. -/
  | blockTransferDone (g : EngId)
  /-- `LINK_TRAIN` (R388). The CXL link trains to the widest width and highest rate allowed. -/
  | linkTrain (widths : Fin 32) (rates : Fin 32) (alt : Bool)
  /-- `LINK_DOWN` (R395). The CXL link goes down without reset, sets LNKDN and retrains. -/
  | linkDown
  /-- `PERST_ASSERT` (R395). PERST# is asserted, holding the package in PKR or waking it from Dormant. -/
  | perstAssert
  /-- `PERST_RELEASE` (R397). PERST# is released and the package reset ends. -/
  | perstRelease (loader : Bool)
  /-- `HOT_RESET` (R395). A hot reset from the host causes a PKR. -/
  | hotReset
  /-- `CONFIG_REQUEST` (R390). A configuration request reaches the function's configuration space. -/
  | configRequest (ready : Bool) (w : Fin 1024) (write : Option (Fin 16 × Word))
  /-- `DECODER_COMMIT` (R393). A commit of HDM decoder 0 succeeds within its limits, or sets Error Not Committed. -/
  | decoderCommit (base : BitVec 64) (size : BitVec 64) (iw : Fin 16) (ttype : Bool) (lock : Bool)
  /-- `BAR0_READ` (R391). A host BAR0 read becomes CRD requests and completes as R392 states. -/
  | bar0Read (t : Fin 262144) (x : Fin 0x10100000) (len : Fin 4096) (h : Hdr)
  /-- `BAR0_WRITE` (R391). A host BAR0 write waits for earlier BAR4 writes and becomes CWR requests. -/
  | bar0Write (t : Fin 262144) (x : Fin 0x10100000) (data : List Byte) (h : Hdr)
  /-- `BAR4_READ` (R391). A host BAR4 read becomes RD requests to the selected window. -/
  | bar4Read (t : Fin 262144) (x : Fin 0x40000000) (len : Fin 4096) (h : Hdr)
  /-- `BAR4_WRITE` (R391). A host BAR4 write becomes PWR requests to the selected window. -/
  | bar4Write (x : Fin 0x40000000) (data : List Byte) (h : Hdr)
  /-- `MEMRD` (R391). A CXL.mem MemRd becomes a 64-byte RD of HBM. -/
  | memrd (t : Fin 262144) (l : Fin 0x90000000) (h : Hdr)
  /-- `MEMWR` (R391). A CXL.mem MemWr becomes a 64-byte WR and returns Cmp on its CPL. -/
  | memwr (t : Fin 262144) (l : Fin 0x90000000) (data : List Byte) (h : Hdr)
  /-- `LEDGER_ENTRY_WRITE` (R400). The device writes a ledger entry's merged change, at most once per 4 µs, with mirror, ring and change vector. -/
  | ledgerEntryWrite (i : Fin 1024) (ok : Bool)
  /-- `LEDGER_RELEASE` (R399). A write of CXL_LREL.GO returns a finished entry to IDLE, or sets RELERR. -/
  | ledgerRelease (v : Word)
  /-- `MIRROR_ENABLE` (R402). A write of an EN bit of the mirror or ring is accepted only with Cache_Enable and CXL mode. -/
  | mirrorEnable (ring : Bool) (v : Word)
  /-- `COMPLETION_RING_RESET` (R403). A write to CXL_LCR resets PROD and CONS. -/
  | completionRingReset (hi : Bool) (v : Word)
  /-- `LEDGER_VECTOR` (R404). A CXL_LCHG bit set while armed sends the MSI-X message and clears ARMED, subject to HOLDOFF. -/
  | ledgerVector (i : Fin 1024)
  /-- `VECTOR_ARM` (R404). A write of 1 to CXL_LIRQ.ARMED arms the vector and sends at once if any change is pending. -/
  | vectorArm (v : Word)
  /-- `GET_TIMESTAMP` (R406). Mailbox command Get Timestamp returns the DTC in nanoseconds. -/
  | getTimestamp (p : List Byte)
  /-- `SET_TIMESTAMP` (R406). Mailbox command Set Timestamp returns Unsupported. -/
  | setTimestamp (p : List Byte)
  /-- `GET_SUPPORTED_LOGS` (R406). Mailbox command Get Supported Logs lists the Command Effects Log. -/
  | getSupportedLogs (p : List Byte)
  /-- `GET_LOG` (R406). Mailbox command Get Log returns the Command Effects Log. -/
  | getLog (p : List Byte)
  /-- `GET_ROLLCALL` (R407). Mailbox command GET_ROLLCALL returns the roll-call registers of every FLH instance. -/
  | getRollcall (p : List Byte)
  /-- `GET_EVENTS` (R407). Mailbox command GET_EVENTS returns event-log records from an index. -/
  | getEvents (p : List Byte)
  /-- `COPY` (R408). Mailbox command COPY decides a copy between DPA ranges in its ledger entry. -/
  | copyCmd (p : List Byte)
  /-- `COPY_STEP` (R408). The copy engine completes 1/64 of the copy or ends DONE or FAILED with COPY_ERR. -/
  | copyStep
  /-- `BUNDLE_BEGIN` (R446). Mailbox command BUNDLE_BEGIN starts a STAGE operation for a new bundle. -/
  | bundleBegin (p : List Byte)
  /-- `BUNDLE_DATA` (R446). Mailbox command BUNDLE_DATA delivers consecutive bundle bytes for checking, decryption and writing. -/
  | bundleData (p : List Byte)
  /-- `BUNDLE_PART_WRITTEN` (R446). A bundle part is written to its target store; the entry becomes PARTIAL or, for the last, DONE and STAGED. -/
  | bundlePartWritten (ok : Bool)
  /-- `BUNDLE_END` (R448). Mailbox command BUNDLE_END writes the pending map and makes the update PENDING. -/
  | bundleEnd (p : List Byte)
  /-- `FIELD_LOAD_DONE` (R419). A field's payload load and tag check end, and settings, PLLs and initialisation follow, or copy-in fails. -/
  | fieldLoadDone (n : FieldId) (us : Fin 65536) (storeOk : Bool) (det : List (Fin 8))
  /-- `RELEASE_POINT` (R424). The package reaches its release point on readiness or SYNC and records the release instant. -/
  | releasePoint (level : Bool)
  /-- `SYNC_TIMEOUT` (R424). TIMEOUT ms pass after readiness without SYNC; the package releases and sets SYNCTMO. -/
  | syncTimeout
  /-- `STARTUP_STEP` (R425). A field runs its next start-up step at the release instant or 1 µs after the previous step. -/
  | startupStep (n : FieldId)
  /-- `PARCEL_SWAP` (R429). A write of FCC_PCMD.GO decides a parcel swap and engages its check gates. -/
  | parcelSwap (n : FieldId) (v : Word) (src : Fin 4096)
  /-- `PARCEL_DRAINED` (R430). A parcel's outstanding accesses drain; its clocks gate and its header is checked again. -/
  | parcelDrained (n : FieldId)
  /-- `PARCEL_WRITTEN` (R430). A parcel's frames and basin blocks are written and its tag checked, or it becomes BLANK. -/
  | parcelWritten (n : FieldId) (ok : Bool)
  /-- `PARCEL_ACTIVE` (R430). A parcel's clocks and gates are released and its swap ends DONE. -/
  | parcelActive (n : FieldId)
  /-- `PARCEL_WEDGED` (R431). A parcel's drain is not complete 1 ms after the swap and it becomes WEDGED. -/
  | parcelWedged (n : FieldId)
  /-- `OWNER_ENROL` (R436). A write of HDG_OCMD.GO programs the owner key digest and makes the part OWNED, or sets OCERR. -/
  | ownerEnrol (v : Word)
  /-- `CANCEL` (R449). A write of FWU_CTRL.CANCEL discards a staged or pending update. -/
  | cancel
  /-- `ABORT` (R447). A write of FWU_CTRL.ABORT in RECEIVING ends STAGE with ABORTED. -/
  | abortStage
  /-- `SETTINGS_MIGRATION` (R457). At first start in TRIAL the firmware migrates settings and sets MIGOK or MIGFAIL. -/
  | settingsMigration (ok : Bool)
  /-- `CONFIRM` (R452). A write of FWU_CONFIRM with the key confirms the trial and raises the counters, or sets CFERR. -/
  | confirm (v : Word)
  /-- `TRIAL_WINDOW_EXPIRY` (R453). The confirmation window ends unconfirmed and the trial reverts with a PKR. -/
  | trialWindowExpiry
  /-- `OPEN` (R464). Watermaster command OPEN opens a debug session. -/
  | wmOpen (x : Bool) (seq : Fin 65536) (p : List Byte)
  /-- `CLOSE` (R464). Watermaster command CLOSE ends the session. -/
  | wmClose (x : Bool) (seq : Fin 65536) (sid : Word) (p : List Byte)
  /-- `PING` (R467). Watermaster command PING echoes its payload. -/
  | wmPing (x : Bool) (seq : Fin 65536) (sid : Word) (p : List Byte)
  /-- `WM_RD` (R469). Watermaster command RD reads words, through the peek path for CSRs. -/
  | wmRd (x : Bool) (seq : Fin 65536) (sid : Word) (p : List Byte) (guest : Guest)
  /-- `WM_WR` (R467). Watermaster command WR writes words as ordinary writes. -/
  | wmWr (x : Bool) (seq : Fin 65536) (sid : Word) (p : List Byte) (guest : Guest)
  /-- `MRD` (R467). Watermaster command MRD reads memory outside the CSR region. -/
  | mrd (x : Bool) (seq : Fin 65536) (sid : Word) (p : List Byte)
  /-- `MWR` (R467). Watermaster command MWR writes memory outside the CSR region. -/
  | mwr (x : Bool) (seq : Fin 65536) (sid : Word) (p : List Byte)
  /-- `WM_HALT` (R467). Watermaster command HALT halts engines. -/
  | wmHalt (x : Bool) (seq : Fin 65536) (sid : Word) (p : List Byte)
  /-- `WM_RESUME` (R467). Watermaster command RESUME resumes engines. -/
  | wmResume (x : Bool) (seq : Fin 65536) (sid : Word) (p : List Byte)
  /-- `WM_STEP` (R467). Watermaster command STEP steps one halted engine. -/
  | wmStep (x : Bool) (seq : Fin 65536) (sid : Word) (p : List Byte)
  /-- `RREG` (R467). Watermaster command RREG reads a register of a halted engine. -/
  | rreg (x : Bool) (seq : Fin 65536) (sid : Word) (p : List Byte)
  /-- `WREG` (R467). Watermaster command WREG writes a register of a halted engine. -/
  | wreg (x : Bool) (seq : Fin 65536) (sid : Word) (p : List Byte)
  /-- `LOG` (R467). Watermaster command LOG returns event-log records. -/
  | wmLog (x : Bool) (seq : Fin 65536) (sid : Word) (p : List Byte)
  /-- `GUNLOCK` (R467). Watermaster command GUNLOCK presents a gauge token. -/
  | gunlock (x : Bool) (seq : Fin 65536) (sid : Word) (p : List Byte)
  /-- `MSP_GAP_TIMEOUT` (R463). A gap of more than 1 ms between MSP bytes discards the partial frame. -/
  | mspGapTimeout
  /-- `WHC_REQUEST` (R485). A write of WHC_DOOR.REQ submits the request frame in the host channel. -/
  | whcRequest (guest : Guest)
  /-- `RSPACK` (R485). A write of WHC_DOOR.RSPACK frees the response buffer. -/
  | rspack
  /-- `EVTACK` (R485). A write of WHC_DOOR.EVTACK frees the event buffer. -/
  | evtack
  /-- `PEEK_READ` (R469). A read of PEEKD returns the register at PEEKA without side effect, or sets NOPEEK. -/
  | peekRead (die : Fin 9)
  /-- `DEBUG_UNIT_WRITE` (R470). A write to FDB_DU configures a comparator or patch unit, refused with DUERR where the rules forbid. -/
  | debugUnitWrite (n : FieldId) (c : Fin 4) (u : Fin 8) (r : Fin 4) (v : Word)
  /-- `ENGINE_HALT` (R473). An FDB_HCMD HALT bit requests a halt at the engine's next instruction boundary. -/
  | engineHalt (g : EngId)
  /-- `ENGINE_RESUME` (R473). An FDB_HCMD RESUME bit returns a halted engine to RUN. -/
  | engineResume (g : EngId)
  /-- `ENGINE_STEP` (R473). An FDB_HCMD STEP bit issues one instruction of a halted engine. -/
  | engineStep (g : EngId)
  /-- `HALT_DEFER_TIMEOUT` (R474). A deferred halt waits 64 Rill cycles; the reservation is broken and the halt taken with LOCKBROKEN. -/
  | haltDeferTimeout (g : EngId)
  /-- `STIMULUS_WRITE` (R476). A write to an engine stimulus port emits a trace packet. -/
  | stimulusWrite (n : FieldId) (e : Fin 32) (p : Fin 32) (v : Word)
  /-- `FABRIC_STIMULUS` (R476). Fabric presents a stimulus packet with SPVALID and SPREADY. -/
  | fabricStimulus (n : FieldId) (port : Fin 256) (size : Fin 16) (data : BitVec 128)
  /-- `TRACE_PACKET_WRITE` (R478). A trace packet leaves the FIFO for the trace ring, or is dropped or stops a full ring. -/
  | tracePacketWrite (u : Fin 9)
  /-- `TRACE_ENABLE` (R478). A write of TCFG.EN starts a trace ring, or REFUSED without HBM or with a bad base. -/
  | traceEnable (u : Fin 9) (v : Word)
  /-- `GAUGE_CHALLENGE` (R482). A read of GAU_CHAL[0] creates a fresh nonce. -/
  | gaugeChallenge
  /-- `GAUGE_UNLOCK` (R482). A write of GAU_CMD.GO checks the token and unlocks the gauge mux, or sets TOKERR. -/
  | gaugeUnlock
  /-- `RELOCK` (R482). A write of GAU_CMD.RELOCK locks the gauge mux at once. -/
  | relock
  /-- `GAUGE_EXPIRY` (R482). The gauge unlock lifetime ends and every EN bit is cleared. -/
  | gaugeExpiry
  /-- `GAUGE_SELECT` (R481). A write to GAU_SEL or GAU_FSEL routes a probe, ignored with LOCKERR while locked. -/
  | gaugeSelect (i : Fin 48) (v : Word)
  /-- `BYPASS` (R484). JTAG instruction BYPASS. -/
  | bypass (die : Fin 9)
  /-- `IDCODE` (R484). JTAG instruction IDCODE. -/
  | idcode (die : Fin 9)
  /-- `SAMPLE_PRELOAD` (R484). JTAG instruction SAMPLE/PRELOAD. -/
  | samplePreload (die : Fin 9) (captured : List Bool) (shifted : List Bool)
  /-- `EXTEST` (R484). JTAG instruction EXTEST, needing TEST_EN. -/
  | extest (die : Fin 9)
  /-- `EXTEST_PULSE` (R484). JTAG instruction EXTEST_PULSE, needing TEST_EN. -/
  | extestPulse (die : Fin 9)
  /-- `EXTEST_TRAIN` (R484). JTAG instruction EXTEST_TRAIN, needing TEST_EN. -/
  | extestTrain (die : Fin 9)
  /-- `CLAMP` (R484). JTAG instruction CLAMP, needing TEST_EN. -/
  | clamp (die : Fin 9)
  /-- `HIGHZ` (R484). JTAG instruction HIGHZ, needing TEST_EN. -/
  | highz (die : Fin 9)
  /-- `STANDALONE` (R230). JTAG instruction STANDALONE enters stand-alone test with all links looped. -/
  | standalone (die : Fin 9)
  /-- `LBRESULT` (R484). JTAG instruction LBRESULT reads the per-link error counts. -/
  | lbresult (die : Fin 9) (errs : List Word)
  /-- `TEST_EN_CHANGE` (R484). TEST_EN rises, holding the package in PKR, or falls, causing a PKR. -/
  | testEnChange (level : Bool)
  /-- `DORMANT` (R499). PWR_CMD OP DORMANT, if accepted, takes the package into Dormant. -/
  | dormant (key : BitVec 16)
  /-- `FALLOW` (R497). PWR_CMD OP FALLOW, if accepted, fences a field and powers it off. -/
  | fallow (n : FieldId) (key : BitVec 16)
  /-- `FALLOW_ATPKR_WRITE` (R497). A write of PWR_FALLOW.ATPKR is accepted unless it would leave no field outside Fallow. -/
  | fallowAtpkrWrite (v : Word)
  /-- `DWAKE` (R500). DWAKE_N low for 100 µs wakes the package from Dormant with a PKR. -/
  | dwake
  /-- `WAKE_TIMER` (R500). The wake timer reaches 0 and wakes the package from Dormant. -/
  | wakeTimer
  /-- `HBM_OP_CHANGE` (R502). A write of PWR_HBMOP.GO asks the power manager to change all four HBM controllers' operating point. -/
  | hbmOpChange (v : Word)
  /-- `QUAD_GATE` (R501). A quad idle for QHOLD ms is powered down by the power manager. -/
  | quadGate (q : QuadId)
  /-- `QUAD_WAKE` (R501). A waking write powers a gated quad up and is then performed. -/
  | quadWake (l : LaneId) (k : Fin 4) (v : Word)
  /-- `BANK_GATE` (R501). A reservoir bank without an operation for BHOLD has its clock stopped. -/
  | bankGate (i : RsvId) (b : Fin 16)
  /-- `SENSOR_READ` (R503). Every 100 µs the temperature and supply sensors are read and their limits judged. -/
  | sensorRead (r : Sensors)
  /-- `FIELD_TRIP` (R504). A field sensor stays at Ttrip for 100 µs; the field powers off and is fenced. -/
  | fieldTrip (n : FieldId)
  /-- `PACKAGE_TRIP` (R504). A Headworks or HBM sensor stays over its limit for 100 µs and the package enters Dormant. -/
  | packageTrip
  /-- `POWER_LIMIT` (R504). PWR_PKG exceeds PWR_LIMIT for 10 ms and PLIM is set. -/
  | powerLimit
  /-- `SUPPLY_WARN` (R505). A supply is out of its recommended range for 10 µs and SUPWARN is set. -/
  | supplyWarn (die : Fin 9) (ch : Fin 6)
  /-- `BROWN_OUT` (R517). A supply stays below its brown-out level for 0.5 µs, causing POR, PKR or a field reset and fence. -/
  | brownOut (die : Fin 9) (ch : Fin 6)
  /-- `POR` (R508). Power-on reset clears the DTC, starts the island and proceeds to PKR release. -/
  | por (ball : Bool) (slow : Bool) (reff : Bool)
  /-- `PKR_RELEASE` (R508). A package reset is released and domains, generators and Headworks copy-in start. -/
  | pkrRelease (loader : Bool) (ok : Bool)
  /-- `PACKAGE_RESET_COMMAND` (R513). A write of RST_CMD.PKR with its key causes a PKR with source 0x05. -/
  | packageResetCommand (v : Word)
  /-- `MC_WATCHDOG` (R507). A firmware watchdog of MC0 or MC1 expires and causes a PKR. -/
  | mcWatchdog
  /-- `REFCLK_LOST` (R495). HW_REFCLK or system generator lock is lost, causing a PKR held until relock. -/
  | refclkLost
  /-- `HBM_CLOCK_LOST` (R495). An HBM clock generator is lost and the controller freezes with CAUSE 0x1. -/
  | hbmClockLost (m : HmcId) (p : Fin 32) (i : Option (Fin 32)) (bank : Fin 48) (row : Fin 24576)
  /-- `FLUME_CLOCK_LOST` (R495). A Flume clock generator is lost and the site's modules retrain. -/
  | flumeClockLost (i : SiteId)
  /-- `ETH_BLOCK_RECEIVE` (R84). An ETH port receives a block or codeword, which is decoded and FEC-corrected or counted, its PCS lanes aligned, LINK reported and frames delineated. -/
  | ethBlockReceive (l : LaneId) (e : EthRx)
  /-- `PCIE_BLOCK_RECEIVE` (R87). A PCIE port receives a 128b/130b block, which is aligned, descrambled and passed through the elastic buffer with SKP handling. -/
  | pcieBlockReceive (l : LaneId) (e : PcieRx)
  /-- `IEEE_TRAINING_FRAME_RECEIVE` (R86). A lane training with TPROTO IEEE receives a Clause 72 or 136 training frame, applies or refuses the coefficient request and judges completion or failure. -/
  | ieeeTrainingFrameReceive (l : LaneId) (e : IeeeTrain)
  /-- `HOLDOFF_EXPIRY` (R404). The HOLDOFF interval after the last ledger-changed message ends, and a message held back by it is sent. -/
  | holdoffExpiry
  /-- `AUTOMATIC_INIT_REGION_DONE` (R280). An automatic INIT finishes one region, which becomes CHECKED, the next region starts, and INITDONE is set after the last. -/
  | automaticInitRegionDone (b : Fin 17)
  /-- `FABRIC_PLL_LOCK` (R306). A field fabric PLL locks or relocks: LOCKED rises, and in the LOCK start-up step the clock buffers it drives are enabled. -/
  | fabricPllLock (n : FieldId) (i : Fin 6)
  /-- `FABRIC_PLL_LOCK_TIMEOUT` (R422). A used fabric PLL has not locked 1 ms after it was started, failing copy-in with PLL_LOCK or completing the LOCK step with LOCKLATE. -/
  | fabricPllLockTimeout (n : FieldId)
  /-- `WCLK_RESTORED` (R307). WCLK is present and aligned again in a field, WCLKLOCK returns to 1 and destination endpoints resume live values. -/
  | wclkRestored (n : FieldId)
  deriving DecidableEq, Repr

end Sys2Proof
end

