-- ==== Sys2Proof/Decode.lean ====
section
/-! DEFINITION. Decoding of command words. spec/opcode_table.json gives no row any bits: the part takes commands, not
words, so no word spells one. -/
namespace Sys2Proof

/-- The command that a word of nbits bits spells: none, since no row of the table has bits (DESIGN CHOICE, log entry 53). -/
def decodeTableWord (_nbits _w : Nat) : Option Instr := none

end Sys2Proof
end

