-- ==== Sys2Proof/Machine/Store.lean ====
section
/-! DEFINITION. Sparse keyed storage: a list of (key, value) pairs in one canonical form, keys strictly rising and no
entry equal to what an unlisted key reads as. Registers, memories and every repeated unit of the part are kept in it. -/
namespace Sys2Proof.Machine.Store

variable {α : Type}

/-- The value listed under a key. -/
def find (k : Nat) : List (Nat × α) → Option α
  | [] => none
  | (a, v) :: t => if k = a then some v else find k t

/-- List the value under the key, in key order, in place of any value listed there. -/
def put (k : Nat) (v : α) : List (Nat × α) → List (Nat × α)
  | [] => [(k, v)]
  | (a, x) :: t => if k < a then (k, v) :: (a, x) :: t else if k = a then (k, v) :: t else (a, x) :: put k v t

/-- Remove every entry of a key. -/
def drop (k : Nat) : List (Nat × α) → List (Nat × α)
  | [] => []
  | (a, x) :: t => if k = a then drop k t else (a, x) :: drop k t

/-- What a key reads as: the listed value, or d. -/
def get (d : α) (k : Nat) (m : List (Nat × α)) : α := (find k m).getD d

/-- Make a key read as v, keeping the canonical form for default d. -/
def set [DecidableEq α] (d : α) (k : Nat) (v : α) (m : List (Nat × α)) : List (Nat × α) :=
  if v = d then drop k m else put k v m

/-- Keys strictly rising. -/
def sorted : List (Nat × α) → Bool
  | [] => true
  | [_] => true
  | (a, _) :: (b, y) :: t => decide (a < b) && sorted ((b, y) :: t)

/-- The canonical form for default d: keys strictly rising and no entry equal to d. -/
def wf [DecidableEq α] (d : α) (m : List (Nat × α)) : Bool :=
  sorted m && m.all (fun e => decide (e.2 ≠ d))

/-- Remove every entry whose key the test selects (a reset of a group of keys). -/
def clear (p : Nat → Bool) : List (Nat × α) → List (Nat × α)
  | [] => []
  | (a, x) :: t => if p a then clear p t else (a, x) :: clear p t

/-- Change every listed value, keeping the canonical form for default d. -/
def mapAll [DecidableEq α] (d : α) (f : Nat → α → α) : List (Nat × α) → List (Nat × α)
  | [] => []
  | (a, x) :: t => if f a x = d then mapAll d f t else (a, f a x) :: mapAll d f t

end Sys2Proof.Machine.Store
end

