-- ==== Sys2Proof/Machine/Field.lean ====
section
/-! DEFINITION. What a field of a register is: the block that holds it, where its bits lie, its access code (R17), its
reset value and the weakest reset class that restores it (R20), and the encodings its table defines (R16). -/
namespace Sys2Proof.Machine

/-- The register blocks of R34 and R35, and the host channel of R38. -/
inductive Blk
  | GLB | CNL | SHR | TRK | FLH | HMC | DRH | CAP | FLT | DTC | CXL | LGR | HDG | FWU | PWR | CLK | RST | DBG | TRN | GAU
  | FLD | FLF | LNQ | LN | PCS | CFE | FUR | QDR | RSV | RIL | FCC | DRF | FPW | FDB | FTS
  | WHC
  deriving DecidableEq, Repr

/-- R17: the access codes. -/
inductive Acc
  | RW | RO | WO | W1C | W1S | RC | RSE | RWL
  deriving DecidableEq, Repr

/-- R20: the reset classes, strongest first. -/
inductive Cls
  | POR | PKR | FAD | PRS | ENR
  deriving DecidableEq, Repr

/-- R20: rank of a class; a reset of rank r restores every field whose class has rank at least r. -/
def Cls.rank : Cls → Nat
  | .POR => 0 | .PKR => 1 | .FAD => 2 | .PRS => 3 | .ENR => 4

/-- Where a field's value at reset comes from. -/
inductive Src
  /-- the value of the Reset column -/
  | val
  /-- fixed in silicon, one-time programmable or held in a store: no reset changes it -/
  | fixed
  /-- the field number of the block's own site (FLD_ID.SITE) -/
  | site
  /-- copied from the settings area of the seed store at each copy-in (NV of R20) -/
  | nv
  /-- learned at roll call -/
  | rollCall
  /-- learned from the image at copy-in -/
  | image
  /-- region 0 takes the value, the other regions 0 (R346) -/
  | region0
  /-- the quota of the die (R206) -/
  | quota
  deriving DecidableEq, Repr

/-- R16: the encodings that a field's table defines. -/
inductive Dom
  | all
  | leq (n : Nat)
  | geq (n : Nat)
  | range (a b : Nat)
  /-- 0 to 304, or 0x1FF (SLICEOV of R130) -/
  | sliceov
  /-- sixteen codes of two bits, none of them 3 (R260) -/
  | slots
  deriving DecidableEq, Repr

/-- R16: does the domain define the encoding v? (DEDUCED, log entry 11; DEDUCED, log entry 12). -/
def Dom.allows : Dom → Nat → Bool
  | .all, _ => true
  | .leq n, v => decide (v ≤ n)
  | .geq n, v => decide (n ≤ v)
  | .range a b, v => decide (a ≤ v ∧ v ≤ b)
  | .sliceov, v => decide (v ≤ 304 ∨ v = 0x1FF)
  | .slots, v => (List.range 16).all fun i => v / 4 ^ i % 4 != 3

/-- One field of the register tables. Strides are in bits; a count of 1 is no array. -/
structure Field where
  blk : Blk
  /-- byte offset of the register of element 0 in its block -/
  off : Nat
  /-- lowest bit and width in the register -/
  lo : Nat
  w : Nat
  acc : Acc
  rst : Nat
  src : Src
  cls : Cls
  /-- first and second array index: stride in bits and count -/
  s1 : Nat
  n1 : Nat
  s2 : Nat
  n2 : Nat
  dom : Dom
  deriving DecidableEq, Repr

/-- Blocks of the Headworks window with one instance: their arrays take the first index. -/
def Blk.single : Blk → Bool
  | .FLH | .HMC | .FLD | .FLF | .LNQ | .LN | .PCS | .CFE | .FUR | .QDR | .RSV | .RIL | .FCC | .DRF | .FPW | .FDB | .FTS => false
  | _ => true

/-- How many instances a block has in one window, and how far apart they lie (R34, R35). -/
def Blk.layout : Blk → Nat × Nat
  | .FLH => (10, 0x4000) | .HMC => (4, 0x10000)
  | .FLF => (8, 0x2000) | .LNQ => (4, 0x4000)
  | .LN | .PCS | .CFE | .FUR => (16, 0x1000)
  | .RSV | .RIL => (4, 0x4000)
  | _ => (1, 0x10000)

/-- R34, R35: where a block starts in its window. The host channel lies in BAR2 (R38), beyond the CSR region. -/
def Blk.offset : Blk → Nat
  | .GLB => 0x000000 | .CNL => 0x010000 | .SHR => 0x020000 | .TRK => 0x030000 | .FLH => 0x040000 | .HMC => 0x080000
  | .DRH => 0x0C0000 | .CAP => 0x0D0000 | .FLT => 0x0E0000 | .DTC => 0x0F0000 | .CXL => 0x100000 | .LGR => 0x110000
  | .HDG => 0x120000 | .FWU => 0x130000 | .PWR => 0x140000 | .CLK => 0x150000 | .RST => 0x160000 | .DBG => 0x170000
  | .TRN => 0x180000 | .GAU => 0x190000
  | .FLD => 0x00000 | .FLF => 0x10000 | .LNQ => 0x20000 | .LN => 0x30000 | .PCS => 0x40000 | .CFE => 0x50000
  | .FUR => 0x60000 | .QDR => 0x70000 | .RSV => 0x80000 | .RIL => 0x90000 | .FCC => 0xA0000 | .DRF => 0xB0000
  | .FPW => 0xC0000 | .FDB => 0xD0000 | .FTS => 0xE0000
  | .WHC => 0x10020000

/-- Is the block in the field windows of R33? -/
def Blk.inField : Blk → Bool
  | .FLD | .FLF | .LNQ | .LN | .PCS | .CFE | .FUR | .QDR | .RSV | .RIL | .FCC | .DRF | .FPW | .FDB | .FTS => true
  | _ => false

/-- R33-R35: CSR offset of instance i of a block. A field block counts its instances over the package:
instance i of a block with c instances a field belongs to field i / c. -/
def Blk.base (b : Blk) (i : Nat) : Nat :=
  if b.inField then (i / b.layout.1 + 1) * 0x1000000 + b.offset + (i % b.layout.1) * b.layout.2
  else if b.single then b.offset
  else b.offset + i * b.layout.2

/-- The bit address of a field: eight times the CSR byte offset of its register, plus its lowest bit. In a block
with one instance the indices i and j run over the arrays; in any other, i is the instance and j and k do. -/
def Field.key (f : Field) (i j k : Nat) : Nat :=
  if f.blk.single then 8 * (f.blk.base 0 + f.off) + f.lo + i * f.s1 + j * f.s2
  else 8 * (f.blk.base i + f.off) + f.lo + j * f.s1 + k * f.s2

/-- R20: the value of the Reset column for one element of a field (DESIGN CHOICE, log entry 2; DESIGN CHOICE, log entry 6). -/
def Field.resetAt (f : Field) (i _j k : Nat) : Nat :=
  match f.src with
  | .region0 => if k = 0 then f.rst else 0
  | .quota => if i < 8 then f.rst else if i = 8 then 0x5C00 else 0x1000
  | .site => i
  | _ => f.rst

end Sys2Proof.Machine
end

