-- ==== Sys2Proof/Machine/Net.lean ====
section
/-! DEFINITION. The configuration and the state of a field's fabric (spec/12_fabric.md R296-R318): cells, MAC slices, clocks, endpoints
and pins. Fields are of a parcel or of the static region by their clock region: region x + 4 y holds parcel x + 4 y - 4 (R427). -/
namespace Sys2Proof.Machine

/-- Where a signal of the fabric comes from. -/
inductive Net
  | const (b : Bool)
  /-- R296: the outputs of LUT l and of flip-flop i of a cell block -/
  | o6 (blk l : Nat)
  | o5 (blk l : Nat)
  | q (blk i : Nat)
  /-- R298: bit i of a cell block's sum, and its carry-out -/
  | sum (blk i : Nat)
  | carry (blk : Nat)
  /-- R308, R309: bit i of P of a MAC slice, and OVF -/
  | mac (m i : Nat)
  | ovf (m : Nat)
  /-- R310, R312: destination endpoint e of module m, and WOK of the module -/
  | wire (m e : Nat)
  | wok (m : Nat)
  /-- R316: float input f -/
  | float (f : Nat)
  /-- R317: bit i of the time bus -/
  | time (i : Nat)
  /-- R322: bit i of user register r, and its strobe -/
  | usr (r i : Nat)
  | strobe (r : Nat)
  /-- R318: pin p of bank b behind its input delay, and bit i of its deserialiser's word -/
  | pin (b p : Nat)
  | des (b p i : Nat)
  /-- R306: LOCKED of FPLL i -/
  | locked (i : Nat)
  /-- R428: signal k of the check gates -/
  | gate (k : Nat)
  /-- any other signal of a hard block: what it presents is open here (DESIGN CHOICE, log entry 60) -/
  | ext (k : Nat)
  /-- R310: source endpoint e of module m where the image drives it with nothing -/
  | undriven (m e : Nat)
  deriving DecidableEq, Repr, Inhabited

/-- R303-R305: where a clock comes from. -/
inductive ClkSrc
  /-- output o of FPLL i -/
  | pll (i o : Nat)
  | fref
  /-- pair i (0 to 3) of bank b -/
  | pair (b i : Nat)
  | wclk
  | tclk
  /-- the word clocks of the port of lane l -/
  | rxWord (l : Nat)
  | txWord (l : Nat)
  | gclk (i : Nat)
  /-- R316: the 1.0 GHz of the field float register -/
  | sample
  deriving DecidableEq, Repr, Inhabited

/-- R296, R297: a LUT. -/
structure LutCfg where
  /-- A1 to A6 -/
  ins : List Net := []
  split : Bool := false
  /-- the function: bit a is the value at A6 … A1 = a; of a storage LUT, its initial contents -/
  table : Nat := 0
  /-- 0 a function, 1 a 64 x 1 RAM, 2 a 32-stage shift register -/
  ram : Nat := 0
  we : Net := .const false
  din : Net := .const false
  deriving DecidableEq, Repr, Inhabited

/-- R296, R299: a flip-flop; bypass: its bypass input in place of O6 or O5. -/
structure FfCfg where
  bypass : Option Net := none
  srval : Bool := false
  init : Bool := false
  deriving DecidableEq, Repr, Inhabited

/-- R296-R299: a cell block. -/
structure BlkCfg where
  blk : Nat
  region : Nat
  luts : List LutCfg := []
  ffs : List FfCfg := []
  /-- R298: subtract; carry-in: 0, 1, or 2 from the block below -/
  sub : Bool := false
  cin : Nat := 0
  below : Nat := 0
  /-- R299: 0 to 7 GCLK, 8 to 39 RCLK -/
  clk : Nat := 0
  inv : Bool := false
  ce0 : Net := .const true
  ce1 : Net := .const true
  sr : Net := .const false
  srAsync : Bool := false
  deriving DecidableEq, Repr, Inhabited

/-- R308, R309: a MAC slice. Operands are nets, bit 0 first. -/
structure MacCfg where
  mac : Nat
  region : Nat
  a : List Net := []
  d : List Net := []
  b : List Net := []
  c : List Net := []
  /-- the signs: of D, of the product and of Z -/
  subD : Net := .const false
  neg : Net := .const false
  negZ : Net := .const false
  /-- the opmode: two nets for Z: 0 zero, 1 P, 2 C, 3 the cascade from below -/
  op : List Net := []
  below : Nat := 0
  sat : Bool := false
  /-- registers of A, B and D (0 to 2), of the product and of P -/
  na : Nat := 0
  nb : Nat := 0
  nd : Nat := 0
  nm : Bool := false
  np : Bool := true
  clk : Nat := 0
  deriving DecidableEq, Repr, Inhabited

/-- R303: the buffer of a global clock. -/
structure GbufCfg where
  src0 : Option ClkSrc := none
  src1 : Option ClkSrc := none
  sel : Net := .const false
  en : Net := .const true
  deriving DecidableEq, Repr, Inhabited

/-- R305: an FPLL: its reference and the divider before the phase detector; the feedback divider in 2^-24; the dividers and phases (in eighths of the VCO
period) of its outputs; hold: outputs are held low while it is not locked. -/
structure PllCfg where
  ref : ClkSrc := .fref
  div : Nat := 1
  fb : Nat := 0
  outs : List (Nat × Nat) := []
  hold : Bool := false
  deriving DecidableEq, Repr, Inhabited

/-- R318, R321: a pin: the nets that it sends (as many as its serialiser's ratio, first bit first), its output enable, its pull before OUT
(0 none, 1 down, 2 up), its input delay in taps, the ratio of its deserialiser (0 for none), and its clock. diff: the pin of an output pair, whose N pin sends the
inverse. -/
structure PinCfg where
  pin : Nat
  outs : List Net := []
  oe : Net := .const false
  pull : Nat := 1
  taps : Nat := 0
  ratio : Nat := 0
  clk : Nat := 0
  diff : Bool := false
  deriving DecidableEq, Repr, Inhabited

/-- R323: logic that writes user register reg with a strobe. -/
structure UsrCfg where
  reg : Nat
  region : Nat
  bits : List Net := []
  strobe : Net := .const false
  clk : Nat := 0
  deriving DecidableEq, Repr, Inhabited

/-- R428: a signal at a check gate: the parcel, whether it leaves it, the signal, and its default: 0, 1, or 2 for hold-last. -/
structure GateCfg where
  parcel : Nat
  leaves : Bool := true
  net : Net
  dflt : Nat := 0
  deriving DecidableEq, Repr, Inhabited

/-- What an image configures in the fabric. -/
structure FabCfg where
  blks : List BlkCfg := []
  macs : List MacCfg := []
  gbufs : List (Nat × GbufCfg) := []
  rclks : List (Nat × ClkSrc) := []
  plls : List (Nat × PllCfg) := []
  /-- the frequencies of FREFCLK and of the clock-capable pairs (pair i of bank b at 4 b + i, plus 1; FREFCLK at 0), in kHz -/
  freqs : List (Nat × Nat) := []
  pins : List PinCfg := []
  gates : List GateCfg := []
  /-- R310: the net that source endpoint e of module m captures, at 2048 m + e -/
  wires : List (Nat × Net) := []
  /-- R316: the nets of float outputs; the clocks of float inputs -/
  floatOut : List (Nat × Net) := []
  floatClk : List (Nat × Nat) := []
  /-- R317: the clock of the time bus -/
  timeClk : Option Nat := none
  /-- R322: the clocks in which user registers are read, and the clock regions of the logic that reads them -/
  usrIn : List (Nat × Nat) := []
  usrOut : List UsrCfg := []
  deriving DecidableEq, Repr, Inhabited

/-- R308: the registers of a MAC slice: the pipelines of A, B and D, newest first, the product and P with its OVF. -/
structure MacSt where
  a : List Int := []
  b : List Int := []
  d : List Int := []
  m : Int := 0
  p : Int := 0
  ovf : Bool := false
  deriving DecidableEq, Repr, Inhabited

/-- R303: a global clock's buffer: enabled, and the source that it passes, none while it changes over. -/
structure GbufSt where
  on : Bool := false
  cur : Option Bool := some false
  deriving DecidableEq, Repr, Inhabited

/-- R321: what a pin does: unpowered; high impedance with a pull (0 none, 1 down, 2 up); or driven, with the bits that it sends in this cycle of its clock. -/
inductive PinState
  | unpowered
  | highZ (pull : Nat)
  | driven (bits : List Bool)
  deriving DecidableEq, Repr, Inhabited

/-- The fabric of a field. -/
structure FabSt where
  cfg : FabCfg := {}
  /-- flip-flop i of block k at 16 k + i; one that is not listed is at INIT -/
  ffs : List (Nat × Bool) := []
  /-- R297: storage LUT l of block k at 8 k + l; one that is not listed holds its initial contents -/
  rams : List (Nat × Nat) := []
  macs : List (Nat × MacSt) := []
  gbufs : List (Nat × GbufSt) := []
  /-- R428: what hold-last gates hold, by gate -/
  held : List (Nat × Bool) := []
  /-- R316: float pulses that wait for a float input's clock, and what the inputs present -/
  floatPend : Nat := 0
  floatNow : Nat := 0
  /-- R316: the float outputs as last sampled -/
  floatOut : Nat := 0
  /-- R317: what the time bus presents -/
  time : Nat := 0
  /-- R322: user registers written and not yet presented, as a mask; what is presented, and whose strobe is up -/
  usrPend : Nat := 0
  usrVal : List (Nat × Nat) := []
  usrStrobe : Nat := 0
  /-- R318: the words of the deserialisers, by pin (48 b + p) -/
  des : List (Nat × List Bool) := []
  /-- R318: what the output registers of the pins send in this cycle of their clocks, and what the pins do -/
  ser : List (Nat × List Bool) := []
  pins : List (Nat × PinState) := []
  deriving DecidableEq, Repr, Inhabited

/-- R217, R310, R312: a wire of the crossbar: what its source has captured at the last eight WCLK edges, newest first (none where the wire was not
fed), and what its destination endpoint presents. -/
structure WireSt where
  hist : List (Option Bool) := []
  val : Bool := false
  deriving DecidableEq, Repr, Inhabited

end Sys2Proof.Machine
end

