-- ==== Sys2Proof/Machine/State.lean ====
section
/-! DEFINITION. The state of the ODX-8: every register field, memory, queue, counter, mode and pin that the spec gives the
part, as plain data; the reasons a step can stop; and the state after reset. Repeated units are kept in sparse lists
(Store): a unit that is not listed is in its initial state. -/
namespace Sys2Proof.Machine

/-- Why a step faults. No command faults: the spec answers every bad access with a response (R32, R36, R190), and a command that
cannot be carried out leaves its reason in a register, a ledger entry or the response. -/
inductive Fault
  /-- raised by no meaning; safe -/
  | neverRaised
  deriving DecidableEq, Repr

/-- Why a step is refused. -/
inductive Refusal
  /-- the command has no meaning in this model yet: answered by no arm, since every row has its meaning; safe -/
  | notModelled (mnemonic : String)
  deriving DecidableEq, Repr

/-- R101, R102: what the sieve has decided of a frame: the last entry of the matching chain, whether the frame is accepted and has pulsed the
float, the slice in bytes and the tag. -/
structure SieveDec where
  hit : Option Nat
  accept : Bool
  float : Bool
  slice : Nat
  tag : Nat
  deriving DecidableEq, Repr

/-- A received frame as a PCS or a capture port delivers it (R83, R84, R88, R99). -/
structure RxFrame where
  bytes : List Byte
  codeViol : Bool := false
  trunc : Bool := false
  fcsErr : Bool := false
  /-- the slave's time at the timestamp point of R163, user offset included, in units of 2^-32 ns -/
  ts : Nat := 0
  /-- R102: the decision taken at its 128th byte -/
  dec : Option SieveDec := none
  deriving DecidableEq, Repr

/-- R74, R75: a requested calibration of a lane. -/
structure CalReq where
  kind : Nat
  entry : Nat
  /-- QUEUED: waits for training to end -/
  queued : Bool
  deriving DecidableEq, Repr

/-- R89-R94: the Welisko training of a lane. -/
structure TrainSt where
  /-- the protocol that the lane entered TRAIN with: PCS_CTRL.TPROTO of its port -/
  proto : Nat := 0
  /-- a valid frame has been received since TRAIN was entered -/
  seen : Bool := false
  /-- consecutive invalid frames after the first valid one -/
  badRun : Nat := 0
  /-- R91: SEQ of the last request of the partner acted on, and its RESULT -/
  ackSeq : Nat := 0
  ackRes : Nat := 0
  /-- R92: the partner asks for precoding -/
  partnerPrec : Bool := false
  /-- R90: the request that this end repeats until it is answered: control bits [6:0], and its SEQ -/
  req : Nat := 0
  reqSeq : Nat := 0
  /-- SEQ of the last status received -/
  gotSeq : Nat := 0
  /-- R93: this end's RXREADY has been sent, and consecutive valid frames received with the partner's -/
  rxReady : Bool := false
  readyRun : Nat := 0
  /-- R93: this end's countdown (the value of the next frame), and whether both have completed -/
  cd : Option Nat := none
  ownDone : Bool := false
  partnerDone : Bool := false
  /-- R92: a changed transmit set (the six taps), in force from the next frame sent -/
  newSet : Option (List Int) := none
  deriving DecidableEq, Repr

/-- What a lane holds beside its registers. -/
structure LaneSt where
  /-- R55: the word staged by LN_TXFIR0 and not yet committed -/
  stage0 : Option Nat := none
  /-- why the lane is in CAL: 0 the sequence of R67, 1 a FULL calibration, 2 an RXCAL -/
  calMode : Nat := 0
  cal : Option CalReq := none
  /-- R67: training has ended, so the ACQ in progress leads to READY -/
  trained : Bool := false
  /-- R92: the precoding agreed by training, transmit and receive, in place of LN_CTRL.PRECODE -/
  precTx : Option Bool := none
  precRx : Option Bool := none
  train : TrainSt := {}
  /-- R83: consecutive valid headers, and the last 64 header validities while locked, newest first -/
  hdrRun : Nat := 0
  hdrWin : List Bool := []
  /-- R83: blocks received, and the numbers of those among the last 8,192 whose header was invalid, newest first -/
  hiBlk : Nat := 0
  hiBad : List Nat := []
  /-- R83: the last 58 scrambled bits received, the newest at bit 0 -/
  scram : Nat := 0
  /-- R83: the lane has found its ALIGN slot, and the blocks that wait for deskew, oldest first -/
  synced : Bool := false
  fifo : List (Nat × Nat × Nat) := []
  /-- R100: frames dealt to this lane's CFE and not yet taken, oldest first -/
  rx : List RxFrame := []
  /-- R53: the last precoded symbol received, 0 to 3 for -3 to +3 -/
  rxPrev : Nat := 0
  /-- line bits received and not yet taken as blocks or words, oldest first: those of NEAR loop-back in WRAW, and those of BYPASS -/
  rxBits : List Bool := []
  /-- the levels at the transmit balls in the present cycle of the DTC's clock, oldest first: -3, -1, 1, 3, or 0 where a symbol is missing;
  none at common mode or electrical idle -/
  tx : List Int := []
  /-- R50: the part of a symbol that was left at the end of the last cycle -/
  txFrac : Nat := 0
  /-- the line bits that the PCS has presented and that have not left, oldest first -/
  txBits : List Bool := []
  /-- R83, R87: the transmit scrambler -/
  txScr : Nat := 0
  /-- R53: the last precoded symbol sent -/
  txPrev : Nat := 0
  /-- R150: line bits to be inverted, symbols to be moved and skews to be made, each at a bit of txBits, with their count or change -/
  flips : List (Nat × Nat) := []
  moves : List (Nat × Nat) := []
  skews : List (Nat × Int) := []
  /-- R150: the skew in force on the lane -/
  skew : Nat := 0
  /-- R77: the symbols that wait for retransmission in FAR loop-back, oldest first; 0 for a symbol period without one -/
  echo : List Int := []
  /-- R95: the generator's register (bits sent for SSPRQ), and whether INJ inverts its next bit -/
  gen : Nat := 0
  genInj : Bool := false
  /-- R97: symbols since the last sampled decision -/
  histAcc : Nat := 0
  /-- R95: checker register (last bits, newest at bit 0), bits loaded, error-free run, and the last 256 comparisons -/
  prbsReg : Nat := 0
  prbsLoaded : Nat := 0
  prbsRun : Nat := 0
  prbsWin : List Bool := []
  /-- R96: a scan in progress: its ledger entry, the columns completed and the buffer -/
  eye : Option (Nat × Nat × Nat) := none
  deriving DecidableEq, Repr

/-- A block that a port sends: its sync header and payload before scrambling (R83, R84, R87), or 8 bits as they stand in BYPASS
(hdr 4); the injections of R150 that it carries, each at a line bit of the block with its count. -/
structure TxBlk where
  hdr : Nat
  payload : Nat
  flip : Option (Nat × Nat) := none
  move : Option (Nat × Nat) := none
  deriving DecidableEq, Repr

/-- What a port holds beside the registers of its anchor. -/
structure PortSt where
  /-- blocks that follow before anything else: the end of a broken frame (R153), the gap after a frame in ETH (R134) -/
  txq : List TxBlk := []
  /-- blocks per lane since the port was enabled (R83) -/
  txBlk : Nat := 0
  /-- R84: the part of a 66-bit block that was left at the end of the last cycle, in 1/(34 x 66) of one -/
  txAcc : Nat := 0
  /-- R83: the lane whose block comes next -/
  nextLane : Nat := 0
  /-- the frame being received: its bytes and its timestamp -/
  frame : Option (List Byte × Nat) := none
  /-- R102: what the sieve of the CFE whose turn it is decided at its 128th byte -/
  dec : Option SieveDec := none
  /-- R157: it began while TCLK was stopped, so that it has no timestamp -/
  unstamped : Bool := false
  /-- R100: frames dealt since alignment -/
  dealt : Nat := 0
  /-- R135: the lane of the port whose sequencer has the next turn -/
  txTurn : Nat := 0
  deriving DecidableEq, Repr

/-- The parts of a field that no register shows. -/
structure FieldSt where
  /-- R64: the channel table of the last copy-in passed its checks -/
  chanOk : Bool := false
  /-- R428: the parcel that holds the logic behind a fabric port, as the image places it: port f of reservoir r at 4 r + f, QDR
  user ports FA and FB at 16 and 17, Canal endpoint e at 32 + e, the stimulus port at 18; a port that is not listed lies in the static region -/
  place : List (Nat × Nat) := []
  /-- R290: when the next frame is due, on State.elapsed -/
  scanAt : Nat := 0
  deriving DecidableEq, Repr

/-- R143, R147: a counter slot of a sequencer. -/
structure CtrSlot where
  en : Bool := false
  width : Nat := 0
  be : Bool := false
  offset : Nat := 0
  step : Nat := 0
  value : Nat := 0
  deriving DecidableEq, Repr

/-- R143, R148: the timestamp slot of a sequencer. -/
structure TsSlot where
  en : Bool := false
  format : Nat := 0
  offset : Nat := 0
  deriving DecidableEq, Repr

/-- R150: an armed injection: POS, COUNT and BIT. -/
structure Inject where
  pos : Nat
  count : Nat
  bit : Nat
  deriving DecidableEq, Repr

/-- R153: a frame on the line: the bytes read so far, whether they are all, the insertions (offset and bytes, a later one over an
earlier), the check-sequence mode, the bytes and blocks handed to the PCS, the timestamp of its first byte in units of 2^-32 ns, and the
injections BIT, SYMBOL and CODEVIOL that apply to it. -/
structure TxFrame where
  bytes : List Byte
  whole : Bool
  patches : List (Nat × List Byte) := []
  fcs : Nat := 0
  sent : Nat := 0
  blks : Nat := 0
  ts : Nat := 0
  injBit : Option Inject := none
  injSym : Option Inject := none
  injCode : Option Inject := none
  deriving DecidableEq, Repr

/-- R138, R141-R150: what the instructions of a program set, and what ARM resets beside the PC and the loop counters. -/
structure FurRegs where
  /-- R141: the descriptor cursors that are not 0, by descriptor -/
  cursors : List (Nat × Nat) := []
  slots : List (Nat × CtrSlot) := []
  tsSlot : TsSlot := {}
  /-- R149 -/
  fcsMode : Nat := 0
  /-- R150: the armed injections and the skew in force -/
  injBit : Option Inject := none
  injSym : Option Inject := none
  injCode : Option Inject := none
  skew : Nat := 0
  deriving DecidableEq, Repr

/-- What a Furrow sequencer holds beside its registers (R137-R153). -/
structure FurSt where
  /-- R138: the program memory, one 64-bit instruction a place -/
  prog : List Nat := []
  regs : FurRegs := {}
  /-- R142, R152: the bytes in the prefetch buffer for a frame that has not started, and whether they are all of it -/
  build : List Byte := []
  whole : Bool := false
  /-- R152: bytes already read of the SEND at PC -/
  got : Nat := 0
  /-- the frame on the line -/
  sending : Option TxFrame := none
  /-- R142: REPEAT in force: executions left of the instruction at PC; none inside for no end -/
  rep : Option (Option Nat) := none
  /-- R146: WAIT-TIME: ABS and DUR -/
  waitTime : Option (Bool × Nat) := none
  /-- R146: WAIT-FLOAT: line, TOADDR, and whether it has a timeout; and what the prefetch beyond it has changed, as it stood: the
  registers of the program and the loop counters -/
  waitFloat : Option (Nat × Nat × Bool) := none
  save : Option (FurRegs × List Nat) := none
  /-- R151: the launch instant, and R146: the end of the last frame's last byte, in units of 2^-32 ns -/
  launch : Nat := 0
  prevEnd : Nat := 0
  /-- R151: nothing has been sent since the launch -/
  first : Bool := true
  /-- R137: STOP accepted: end at the end of the frame in progress -/
  stop : Bool := false
  /-- R137: HALT executed, or execution past the last instruction -/
  halted : Bool := false
  deriving DecidableEq, Repr

/-- R159: a pending DTC command with the value taken at the write. -/
inductive DtcCmd
  /-- SET: the value, in units of 2^-32 ns -/
  | set (t : Nat)
  /-- ADJ: the signed amount, in units of 2^-16 ns -/
  | adj (d : Int)
  deriving DecidableEq, Repr

/-- The master DTC and its servo (R155-R170). -/
structure TimeSt where
  /-- R155, R156: the DTC with its 16 hidden bits, in units of 2^-32 ns -/
  dtc : Nat := 0
  /-- R156: the increment in force, in units of 2^-32 ns per TCLK cycle -/
  incr : Nat := 0x400000000
  /-- R159: the command awaiting its apply instant -/
  pend : Option DtcCmd := none
  /-- TCLK runs; when it does not, the DTC counts in keep-alive (R157) -/
  tclk : Bool := true
  /-- R157: the last measured period of the always-on oscillator, in units of 2^-32 ns -/
  kaPeriod : Nat := 40 * 2 ^ 32
  /-- R168: the servo's integral term, in units of 2^-16 ppb -/
  integ : Int := 0
  /-- consecutive samples with an offset below LOCKTHR -/
  good : Nat := 0
  /-- R168: (second, increment) of the samples that the HOLDOVER mean runs over, newest first -/
  hist : List (Nat × Nat) := []
  /-- R170: a capture of the PPS_IN set is open, and which of NS, SECLO, SECHI were read after it -/
  ppsiHeld : Bool := false
  ppsiRead : Nat := 0
  /-- R170: the level of PPS_OUT -/
  ppsOut : Bool := false
  /-- R166: the sender of the best Announce heard, and what it says; a two-step Sync that waits for its Follow_Up: its sender, and its arrival in
  2^-8 ns -/
  ptpBest : Option (Nat × PtpDataset) := none
  ptpWait : Option (Nat × Int) := none
  deriving DecidableEq, Repr

/-- R161: the slave DTC of one field. -/
structure SlaveSt where
  /-- the slave's value, in units of 2^-32 ns -/
  t : Nat := 0
  /-- loaded from the first beacon since admission -/
  loaded : Bool := false
  /-- an offset being slewed out, in units of 2^-32 ns, and the TCLK cycles left for it -/
  slew : Int := 0
  slewN : Nat := 0
  /-- consecutive beacons with an offset of at most 50 ps -/
  good : Nat := 0
  /-- R212: HBEAT replies missed in a row -/
  missed : Nat := 0
  /-- R165: the ledger entry of a time calibration that runs; the calibration of the admission has none -/
  cal : Option (Option Nat) := none
  deriving DecidableEq, Repr

/-- R325-R331: a basin block as its image configures it, and its contents. -/
structure BasinSt where
  /-- log2 of the lanes per access of ports A and B -/
  kA : Nat := 5
  kB : Nat := 5
  /-- R326: port modes: 0 WRITE_FIRST, 1 READ_FIRST, 2 NO_CHANGE -/
  modeA : Nat := 0
  modeB : Nat := 0
  codeL : Bool := false
  /-- the read outputs of ports A and B -/
  outA : List Nat := []
  outB : List Nat := []
  /-- R325: output registers of ports A and B, and what the last read of each holds back: lanes, SBE, DBE, COLL -/
  regA : Bool := false
  regB : Bool := false
  heldA : Option (List Nat × Bool × Bool × Bool) := none
  heldB : Option (List Nat × Bool × Bool × Bool) := none
  /-- the 9-bit lanes that are not 0: row r and lane l at 32 r + l -/
  cells : List (Nat × Nat) := []
  deriving DecidableEq, Repr

/-- R217, R218: a wire of the crossbar map: destination and source wires, each 2048 (8 n + m) + w for wire w of module m of
field n, and its default: 0, 1, or 2 for hold-last. -/
structure Wire where
  dst : Nat
  src : Nat
  dflt : Nat
  deriving DecidableEq, Repr


/-- R208, R221: a Flume module in a retrain. Combinations of width and group are numbered in the order of R208: 0 (64, 0),
1 and 2 (32, 0) and (32, 1), 3 to 6 (16, 0) to (16, 3). -/
structure ModSt where
  /-- R209: consecutive failed replays of one slot -/
  failed : Nat := 0
  /-- 0 before the lane test, 1 it has ended, 2 WIDTH with the record has been sent, 3 WIDTH with a narrower combination, 4 the
  link trains at the record -/
  stage : Nat := 0
  /-- combinations that passed at Headworks and at the field, and the lanes that failed at each (bit for lane) -/
  hw : List Nat := []
  fd : List Nat := []
  hwFail : Nat := 0
  fdFail : Nat := 0
  /-- the combination that WIDTH names, and the field's answer to it: ADOPT or UNABLE -/
  asked : Nat := 0
  reply : Option Bool := none
  /-- R229: the state that a loop-back test returns to -/
  back : Nat := 0
  deriving DecidableEq, Repr

/-- R226, R227: a module of a turnout port: module m of turnout t at 2 t + m. -/
structure TurnSt where
  /-- SEQ expected next -/
  seq : Nat := 0
  /-- flits taken from units and not yet switched: the channel of the port (0 to 3) and the 80 bytes, oldest first -/
  flits : List (Nat × List Byte) := []
  /-- R183: credits of freed entries that go back with the next unit: channel c of the module and virtual channel v at 4 c + v -/
  ret : List (Nat × Nat) := []
  /-- flits that wait to be sent, as above, oldest first -/
  tx : List (Nat × List Byte) := []
  /-- SEQ of the next unit sent, and the units sent and not acknowledged, oldest first -/
  txSeq : Nat := 0
  replay : List (Nat × List Byte) := []
  deriving DecidableEq, Repr

/-- R429-R432: a parcel swap that runs in a field. -/
structure SwapSt where
  parcel : Nat
  src : Nat
  entry : Nat
  /-- when it was accepted, on State.elapsed; the drain time in microseconds once drained, and when that was -/
  t0 : Nat
  drained : Option Nat := none
  drainedAt : Nat := 0
  /-- R430: 64ths of the payload written, and when the next one is -/
  pieces : Nat := 0
  pieceAt : Nat := 0
  /-- the frames are written and the tag is good, and when that was -/
  written : Bool := false
  writtenAt : Nat := 0
  deriving DecidableEq, Repr

/-- What the payload of a full field image or of a parcel image sets (R416): opaque in the spec, produced by Yegrim. -/
structure ImgBody where
  /-- FPLLs in use, the VCCIO declared for each bank, and the Canal endpoints in use -/
  pll : Nat := 0
  decl : List Nat := []
  cep : Nat := 0
  /-- R470: the debug units that are patch units: unit u of cluster c at bit 8 c + u -/
  patches : Nat := 0
  /-- basin blocks: block i of region r of a field at 84 r + i -/
  basins : List (Nat × BasinSt) := []
  /-- the parcels of the fabric ports' logic, as FieldSt.place -/
  place : List (Nat × Nat) := []
  /-- the fabric -/
  fab : FabCfg := {}
  deriving DecidableEq, Repr, Inhabited

/-- What a Headworks firmware image sets (R217, R413). -/
structure FwBody where
  xbar : List Wire := []
  mhz : Nat := 0
  deriving DecidableEq, Repr, Inhabited

/-- Roll call and release (R213, R424, R425). -/
structure BootSt where
  /-- R507: a PKR holds the package, and the sources that persist -/
  inReset : Bool := true
  hold : List Nat := []
  /-- R414: the next Headworks copy-in follows a POR -/
  afterPor : Bool := true
  /-- R213: roll call has started; it has ended -/
  rolling : Bool := false
  ended : Bool := false
  /-- R44: a field has been admitted since the package reset -/
  admitted : Bool := false
  /-- R424: DTC at readiness -/
  readyAt : Option Nat := none
  /-- R422: the startup steps each field has run: field and count -/
  steps : List (Nat × Nat) := []
  /-- R425: DTC at which the last step of a field completed -/
  stepAt : List (Nat × Nat) := []
  /-- R422: fields whose LOCK step waits for a PLL -/
  lockWait : List Nat := []
  deriving DecidableEq, Repr

/-- R446-R457: one part of the bundle that is being received, staged or on trial: KIND, TARGET, VERSION and SVN. -/
structure PartRec where
  kind : Nat
  target : Nat
  version : Nat
  svn : Nat
  deriving DecidableEq, Repr

/-- R448: the slot map: the bits of FWU_ACT. -/
structure SlotMap where
  hwfw : Nat := 0
  loader : Nat := 0
  hbmfw : Nat := 0
  lanemc : Nat := 0
  hwset : Nat := 0
  fimg : Nat := 0
  fset : Nat := 0
  deriving DecidableEq, Repr

/-- The update path (R435-R457): what the Headworks store directory and Headgate hold beside their registers. -/
structure UpdSt where
  /-- R446: the bytes of the bundle received so far -/
  rx : List Byte := []
  /-- R446: the bundle received so far has passed its manifest checks -/
  manOk : Bool := false
  entry : Nat := 0
  /-- R446: the length that BUNDLE_BEGIN gave, and STATE before it -/
  total : Nat := 0
  was : Nat := 0
  /-- parts written, in order, and the parts of the staged, pending or trial bundle -/
  done : Nat := 0
  parts : List PartRec := []
  window : Nat := 0
  /-- R454: DTC at the start of MC0 in a trial -/
  begun : Nat := 0
  /-- R451: the state that STATE takes from the directory at copy-in, and the map to be restored -/
  prev : SlotMap := {}
  /-- R456: the migration parts: TARGET and content -/
  migs : List (Nat × List Byte) := []
  /-- R457: settings slots written during the trial: die and slot; the firmware has migrated -/
  migrated : List (Nat × Nat) := []
  migDone : Bool := false
  /-- R452: counters still to be programmed: counter and value -/
  raise : List (Nat × Nat) := []
  /-- R446: targets whose directory entries read invalid: KIND and TARGET -/
  invalid : List (Nat × Nat) := []
  deriving DecidableEq, Repr

/-- R490-R500: power state. -/
structure PowSt where
  /-- R499: in Dormant or entering it, since -/
  dormant : Option Nat := none
  /-- R500: after a package trip no sensor reading has yet been 20 degrees below the trip temperature; the wake that waits -/
  tripped : Bool := false
  pendWake : Option Nat := none
  /-- R497: a FALLOW command runs for this field -/
  fallow : Option Nat := none
  /-- R503: the last ten sums of the channels' power, newest first, in units of 10 microwatts -/
  sums : List Nat := []
  deriving DecidableEq, Repr

/-- R362-R364, R381: an access that an engine has issued and that has not returned. -/
structure RilAcc where
  /-- 0 LOAD, 1 STORE, 2 LL, 3 SC, 4 AMO, 5 FLUSH -/
  kind : Nat
  /-- its stream: 0 to 3 a Canal order class, 4 the reservoir port, 5 the MGT class of the CSR region -/
  stream : Nat
  addr : Nat := 0
  /-- bytes: 4 or 8 -/
  len : Nat := 0
  /-- destination register; data written, or the AMO's operand; AOP and the swap value -/
  reg : Nat := 0
  data : Nat := 0
  aop : Nat := 0
  swap : Nat := 0
  deriving DecidableEq, Repr

/-- R363, R382: a block transfer: out of X or Y, which memory (0 X, 1 Y), its first word and the DPA of the block. -/
structure RilBlk where
  out : Bool
  mem : Nat
  word : Nat
  addr : Nat
  deriving DecidableEq, Repr

/-- R378: an active loop: its counter, and the first and last PC of its body. -/
structure RilLoop where
  lc : Nat
  first : Nat
  last : Nat
  deriving DecidableEq, Repr

/-- R386: a result of an issued instruction whose consumers are held: a d register, by its producer (1 move load; 2 CALU,
RALU, LDI, SCALE, MOVR and INC; 3 ACS and AST), an accumulator, a pointer or a modifier written by MOVR, bits of ST written by
MOVR or STB, AOV, SAT, BE by BEXP or by AST, and a word of X or Y that a move stored. -/
inductive RilRes
  | d (n i : Nat)
  | acc (i : Nat)
  | ptr (k : Nat)
  | modifier (k : Nat)
  | st (mask : Nat)
  | aov
  | sat
  | bexp
  | beAst
  | word (mem w : Nat)
  deriving DecidableEq, Repr

/-- What a Rill engine holds beside its registers in RIL, where its PC (RIL_EPC), ST, BE and watchdog count live (R352). -/
structure EngSt where
  /-- d0 to d15; px0 to px3 at 0 to 3 and py0 to py3 at 4 to 7; m0 to m3 as 16-bit patterns; lc0 and lc1 -/
  d : List (Nat × Nat) := []
  ptr : List (Nat × Nat) := []
  m : List (Nat × Nat) := []
  lc : List (Nat × Nat) := []
  /-- the accumulators: re of acc i at 2 i, im at 2 i + 1 -/
  acc : List (Nat × Int) := []
  /-- active loops, innermost first -/
  loops : List RilLoop := []
  /-- R362, R363: outstanding accesses and block transfers, oldest first -/
  outs : List RilAcc := []
  blks : List RilBlk := []
  /-- R381: issue waits for: 1 a FLUSH, 2 every block transfer -/
  wait : Nat := 0
  /-- R366: an ENR waits for the outstanding accesses -/
  resetting : Bool := false
  /-- R473, R474: a halt that is due: CAUSE and unit; and whether it waits for what has been issued -/
  halt : Option (Nat × Nat) := none
  draining : Bool := false
  /-- R473: a STEP waits to issue -/
  stepDue : Bool := false
  /-- R474: cycles for which the halt that is due has been deferred -/
  defer : Nat := 0
  /-- R471: an EXEC comparator ignores the next issue -/
  skip : Bool := false
  /-- R367: Rill cycles since the watchdog last counted -/
  wdSub : Nat := 0
  /-- R386: results of the last instructions, and the cycles since each was issued -/
  recent : List (RilRes × Nat) := []
  deriving DecidableEq, Repr

/-- R350: a patch load that runs: engine, first index, words, reservoir and byte offset. -/
structure PatchLd where
  eng : Nat
  dest : Nat
  words : Nat
  rsv : Nat
  off : Nat
  deriving DecidableEq, Repr

/-- R478: a trace ring: the packets in its FIFO, oldest first, and those dropped since it was last full. -/
structure RingSt where
  fifo : List (List Byte) := []
  dropped : Nat := 0
  deriving DecidableEq, Repr
/-- R190: the status of a Canal response; `waits`: none yet, the access waits for its region to be CHECKED (R279). -/
inductive RStat
  | ok | err | poison | timeout | fenced | refused | waits
  deriving DecidableEq, Repr, Inhabited

/-- The response that the sender of the last access or mailbox command received. -/
structure Resp where
  st : RStat := .ok
  /-- bytes returned, byte 0 first -/
  data : List Byte := []
  /-- a code beside the status: a mailbox return code (R406), a Watermaster status (R468) -/
  code : Nat := 0
  deriving DecidableEq, Repr

/-- R398-R400: the operation that owns a ledger entry, as it stands now. The entry's registers (LGR) follow it at the
next write of the entry. -/
structure Op where
  opcode : Nat := 0
  /-- R398: 0 IDLE, 1 QUEUED, 2 RUNNING, 3 PARTIAL, 4 DONE, 5 FAILED, 6 BUSY -/
  state : Nat := 0
  error : Nat := 0
  progress : Nat := 0
  reqsrc : Nat := 0
  result : Nat := 0
  opspec : List Nat := []
  /-- a change is waiting to be written (R400) -/
  due : Bool := false
  /-- the waiting change replaces the entry or changes STATE (R404) -/
  stateDue : Bool := false
  /-- R400: when the entry may next be written, on State.elapsed -/
  notBefore : Nat := 0
  deriving DecidableEq, Repr

/-- R479: one record of the persistent event log. -/
structure Event where
  code : Nat
  die : Nat
  seq : Nat
  ts : Nat
  arg : Nat
  rep : Nat
  deriving DecidableEq, Repr

/-- R479: the log's bookkeeping for one CODE and DIE: when a record was last written, and how many were suppressed. -/
structure EvBook where
  written : Bool := false
  lastTs : Nat := 0
  supp : Nat := 0
  deriving DecidableEq, Repr

/-- The CXL port (R387-R397) and the parts of its configuration space that change what the device does. -/
structure CxlSt where
  /-- R395: PERST# held low -/
  perst : Bool := false
  /-- R397: configuration requests are still completed with retry status -/
  crs : Bool := true
  /-- R390: power state D3hot -/
  d3hot : Bool := false
  /-- DVSEC: Cache_Enable and Mem_Enable -/
  cacheEn : Bool := false
  memEn : Bool := false
  /-- R393: HDM decoder 0 committed, its base, its lock and Error Not Committed -/
  hdmOk : Bool := false
  hdmBase : Nat := 0
  hdmLock : Bool := false
  hdmErr : Bool := false
  /-- configuration space words that software wrote and that no rule gives a meaning, by offset -/
  cfg : List (Nat × Word) := []
  /-- R409: words of the MSI-X table and of the component registers that software wrote, by offset in the block -/
  comp : List (Nat × Word) := []
  /-- MSI-X enable, function mask, vector mask and pending bit (R404) -/
  msixEn : Bool := false
  msixFmask : Bool := false
  msixMask : Bool := true
  msixPend : Bool := false
  /-- R395: host requests whose completions are no longer owed, by their place in the order of arrival (Req.ord) -/
  lost : List Nat := []
  /-- R405: the mailbox: its command register, the return code of the last command, and the payload area; bytes past its
  end are 0 -/
  mbCmd : Nat := 0
  mbCode : Nat := 0
  mbOut : List Byte := []
  /-- a ledger-changed message is held back by HOLDOFF (R404) -/
  held : Bool := false
  /-- the HOLDOFF interval after the last message still runs -/
  holdoff : Bool := false
  deriving DecidableEq, Repr

/-- R408: the copy engine. -/
structure CopySt where
  active : Bool := false
  entry : Nat := 0
  src : Nat := 0
  dst : Nat := 0
  len : Nat := 0
  /-- 64ths completed -/
  step : Nat := 0
  deriving DecidableEq, Repr

/-- R179: the operations of a request: read, non-posted write, posted write, atomic, FLUSH, CSR read, CSR write. -/
inductive ReqOp
  | rd | wr | pwr | amo | flush | crd | cwr
  deriving DecidableEq, Repr

/-- R177: a request as its target sees it. -/
structure Req where
  op : ReqOp
  src : Nat
  oc : Nat
  addr : Nat
  /-- bytes: LEN + 1 -/
  len : Nat
  aop : Nat := 0
  pois : Bool := false
  data : List Byte := []
  /-- the tag that answers it (State.tags); a posted write has none -/
  tag : Option Nat := none
  /-- R177, R193: the source tag: that of the adapter of its field, or the TAG of a guest's header -/
  stag : Nat := 0
  /-- the write of a drained segment that it is part of (Closed.id, plus 1), 0 for none -/
  job : Nat := 0
  /-- its place in the order of arrival at the switch or adapter -/
  ord : Nat := 0
  deriving DecidableEq, Repr

/-- R193: a tag in use. Tags below 2^18 are the tracker's; 2^18 + 2^14 n + t is tag t of the adapter of field n, for a
request that the adapter turns round (R175). -/
structure Tag where
  req : Req
  /-- R193: target die: 0-7 a field, 8 Headworks, 9 and 10 a turnout -/
  die : Nat
  /-- DTC value when the tag was taken -/
  since : Nat
  /-- the response that the target has given and that has not yet left for the source -/
  resp : Option Resp := none
  /-- R195: quarantined since -/
  quar : Option Nat := none
  /-- R196: the source's field has been fenced -/
  orphan : Bool := false
  deriving DecidableEq, Repr

/-- R183, R194: a request that waits at ingress for a credit or a tag: the tag it asks for, and the switch port at whose receive buffer
it holds its flits' entries; none while it has not crossed its channel. R209: link: the channel on whose module it is held, sent and not
yet received. -/
structure Held where
  req : Req
  t : Nat
  port : Option Nat := none
  link : Option Nat := none
  deriving DecidableEq, Repr

/-- R183: a response that waits for a credit at a switch port, the port at whose receive buffer it holds its flits' entries (none where
the switch or the tracker made it), and the tag that it frees when it leaves. -/
structure Owed where
  port : Nat
  inp : Option Nat
  req : Req
  a : Resp
  key : Option Nat := none
  deriving DecidableEq, Repr

/-- R240, R241: a request in the queue of a pseudo-channel, with the DTC value when it entered. -/
structure QReq where
  req : Req
  since : Nat
  deriving DecidableEq, Repr

/-- R260, R261: what the controller of a QDR port holds of a device port. -/
structure QdrSt where
  /-- R257: FREQ as training read it -/
  freq : Nat := 0
  /-- the client at which the rotation stands -/
  rot : Nat := 0
  /-- the last access was a read -/
  lastRead : Bool := false
  /-- the first cycle in which the port is free -/
  busy : Nat := 0
  /-- the slot table before the last write to it, and the cycle of that write -/
  old : Nat := 0
  since : Nat := 0
  deriving DecidableEq, Repr

/-- R241-R247: what a pseudo-channel holds beside its registers. -/
structure PcSt where
  /-- the queue (the first 32) and the merge stage behind it, oldest first -/
  q : List QReq := []
  /-- R250: requests that wait in the merge stage through a change of operating point -/
  wait : List QReq := []
  /-- R242: the batch in progress is one of writes, and writes issued in it -/
  writing : Bool := false
  batch : Nat := 0
  /-- R245: a forced burst runs -/
  burst : Bool := false
  /-- R244: the bank whose refresh comes next -/
  rot : Nat := 0
  /-- R242, R244: refreshes that are due and not postponed, and when the next falls due, on State.elapsed -/
  due : Nat := 0
  dueAt : Nat := 0
  /-- R243: the open row of each bank that has one, and when each bank was last accessed, on State.elapsed -/
  rows : List (Nat × Nat) := []
  used : List (Nat × Nat) := []
  /-- R247: activates of each bank since its last refresh management -/
  acts : List (Nat × Nat) := []
  /-- R246: the neighbour queue: (bank, row), oldest first -/
  nbr : List (Nat × Nat) := []
  deriving DecidableEq, Repr

/-- What a controller holds beside its registers. -/
structure HmcSt where
  /-- R246: the LFSR -/
  lfsr : Nat := 1
  /-- R251: the word of the helper command that runs -/
  helper : Nat := 0
  /-- R250, R251: the delays of HMC_TDLY that are not 0, for each RATE: a delay of pseudo-channel k at
  (64 rate + bit) 64 + 2 k, plus 1 for a write delay; that of the command bus as bit 63 -/
  dly : List (Nat × Nat) := []
  deriving DecidableEq, Repr

/-- R284-R286: what a memory walker holds beside its registers. -/
structure WalkSt where
  /-- R276: the repair queue: word addresses, oldest first -/
  repair : List Nat := []
  /-- R285: write-backs waiting for room: word address, and whether a later write has been accepted -/
  wb : List (Nat × Bool) := []
  /-- R286: corrections in the current epoch, and consecutive calm epochs -/
  corr : Nat := 0
  calm : Nat := 0
  /-- a pass is in progress, and the words to be walked when it started (W) -/
  running : Bool := false
  words : Nat := 0
  /-- R284, R286: when the next step is due and when the epoch ends, on State.elapsed; the last test found no word to walk -/
  nextAt : Nat := 0
  epochAt : Nat := 0
  dry : Bool := false
  deriving DecidableEq, Repr

/-- R287: a range pass in progress. -/
structure RangeSt where
  entry : Nat
  mode : Nat
  mem : Nat
  base : Nat
  len : Nat
  /-- 64ths completed -/
  step : Nat := 0
  words : Nat := 0
  corr : Nat := 0
  unc : Nat := 0
  pois : Nat := 0
  firstBad : Option Nat := none
  deriving DecidableEq, Repr

/-- A capture record in staging (R108-R111): its cistern, the arming of it that it belongs to, its bytes and its time. -/
structure StRec where
  cist : Nat
  gen : Nat
  bytes : List Byte
  /-- in units of 2^-32 ns -/
  ts : Nat
  deriving DecidableEq, Repr

/-- R110: a segment on loan: the bytes used and the records that end in it, oldest first. -/
structure Seg where
  used : Nat := 0
  recs : List StRec := []
  deriving DecidableEq, Repr

/-- R105: a record that waits for its decision delay or, passed, for the uplinks: its header fields and the bytes stored. -/
structure PendRec where
  cist : Nat
  ts : Nat
  length : Nat
  sieve : Nat
  flags : Nat
  anchor : Nat
  mode : Nat
  tag : Nat
  data : List Byte
  /-- R106: its SEQ, once it has one -/
  seq : Nat := 0
  /-- the arming of its cistern at its judgement (StRec.gen) -/
  gen : Nat := 0
  /-- R219: once it has passed R115, the flits of its packets that have not left for Headworks, and the modules that hold one of them -/
  left : List Nat := []
  hung : List Nat := []
  deriving DecidableEq, Repr

/-- R116: a gap that is pending: records and bytes dropped, the first one's time and SEQ, and the cause bits of R109. -/
structure Gap where
  recs : Nat
  bytes : Nat
  ts : Nat
  seq : Nat
  cause : Nat
  deriving DecidableEq, Repr

/-- What a capture front-end holds beside its registers. -/
structure CfeSt where
  /-- R113: the meter M in units of 2^-33 bytes, at slave time meterAt -/
  meter : Nat := 0
  meterAt : Nat := 0
  /-- R105: records in frame order -/
  pend : List PendRec := []
  /-- R219: the record in hand that waits for the uplinks -/
  hand : Option PendRec := none
  /-- R110: segments on loan, oldest first -/
  segs : List Seg := []
  gap : Option Gap := none
  deriving DecidableEq, Repr

/-- R111: a closed segment, or a reserve descriptor, that waits for the drain or for its HBM writes. -/
structure Closed where
  id : Nat
  reserve : Bool
  recs : List StRec
  deriving DecidableEq, Repr

/-- What a cistern holds beside its registers. -/
structure CistSt where
  /-- armings so far -/
  gen : Nat := 0
  /-- R125: the stamps of START and of STOP or FREEZE, in units of 2^-32 ns -/
  start : Option Nat := none
  stop : Option Nat := none
  /-- R108: MARK actions applied since the arming -/
  marks : Nat := 0
  /-- R129: post-trigger bytes, and the ring's records oldest first: (offset, size) -/
  post : Nat := 0
  ring : List (Nat × Nat) := []
  /-- R129: WPTR, RCNT, OLD, the post-trigger bytes and TRIG when the last HBM write reported had completed -/
  pub : Nat × Nat × Nat × Nat × Nat := (0, 0, 0, 0, 2 ^ 36 - 1)
  /-- R125: lanes whose acknowledgement of a STOP or FREEZE is due -/
  acks : List Nat := []
  /-- the ledger entry in use; none once it has ended -/
  entry : Option Nat := none
  deriving DecidableEq, Repr

/-- What the float sequencer holds beside its registers (R124-R126). -/
structure FltSt where
  /-- the counter has reached CMP, the timer has reached TLIM -/
  evDue : Bool := false
  tmDue : Bool := false
  /-- ns of the current TUNIT that have passed -/
  sub : Nat := 0
  /-- stamp of the last transition -/
  stamp : Nat := 0
  deriving DecidableEq, Repr


/-- R463: a request that Watermaster has taken and that waits for a region or for the network. -/
structure WmReq where
  /-- it came by the host channel -/
  chan : Bool
  cmd : Nat
  seq : Nat
  sid : Nat
  payload : List Byte
  /-- what a guest die answers -/
  guest : Guest
  deriving DecidableEq, Repr

/-- Watermaster (R461-R469): what it holds beside DBG_SESS and the host channel's registers. -/
structure WmSt where
  /-- R463: SEQ of the last request answered in the session, and the response -/
  last : Option (Nat × List Byte) := none
  /-- R463: bytes of a partial frame on the MSP, and when the last one came, on State.elapsed -/
  rx : List Byte := []
  rxAt : Nat := 0
  /-- R463: the request that waits -/
  pend : Option WmReq := none
  /-- R485: a response that waits for the host channel's response buffer -/
  held : Option (List Byte) := none
  /-- R468: events that wait for the host channel, oldest first: SID, CMD and payload; those dropped since; Watermaster's count -/
  events : List (Nat × Nat × List Byte) := []
  lost : Nat := 0
  evSeq : Nat := 0
  deriving DecidableEq, Repr

/-- R481, R482: the gauge mux: the nonce may be used, and the DTC at which it was drawn and at which the unlock ends. -/
structure GauSt where
  nonce : Bool := false
  drawn : Nat := 0
  ends : Nat := 0
  /-- R481: the gauge pins that are high: 0 to 15 of Headworks, 16 + 4 n + j of field n -/
  levels : Nat := 0
  deriving DecidableEq, Repr

/-- R483, R484: test access: TEST_EN, the instruction of each TAP (8 Headworks, 0 to 7 fields). -/
structure TapSt where
  testEn : Bool := false
  inst : List (Nat × Nat) := []
  /-- boundary registers: what SAMPLE/PRELOAD captured or shifted in -/
  cells : List (Nat × List Bool) := []
  deriving DecidableEq, Repr
/-- R4-R8, R47: what the ordering code and the package fix, and the identity that roll call reads. -/
structure Part where
  /-- R4: the number of populated fields, 8, 6, 4 or 2 -/
  pop : Nat
  /-- R7: guest dies fitted at T0 and T1 -/
  guest0 : Bool
  guest1 : Bool
  deriving DecidableEq, Repr

/-- The part that State.reset describes: an ODX-8-F8 without guest dies (log entry 2). -/
def Part.initial : Part := ⟨8, false, false⟩

/-- What the part sends out of the package or across a boundary that this model does not hold. -/
inductive Out
  /-- R404: the MSI-X message of the ledger-changed vector: the address and the data of its table entry -/
  | msix (addr data : Nat)
  /-- R402, R403: a 64-byte line written to host memory -/
  | hostLine (addr : Nat) (bytes : List Byte)
  /-- a frame or block handed to fabric by a PCS -/
  | toFabric (lane : Nat) (bytes : List Byte)
  /-- R86, R88: the signals of a PCS to fabric on lane l: receive-valid in WRAW and BYPASS, electrical idle in PCIE, the local and remote
  fault sequences in ETH -/
  | pcsSignal (lane : Nat) (sig : PcsSignal)
  /-- R89: a Welisko training frame: the levels at the transmit balls -/
  | trainFrame (lane : Nat) (levels : List Int)
  /-- R86: the reject output of a lane's training port, raised for one cycle -/
  | trainReject (lane : Nat)
  /-- R86: the answer to a coefficient request of the standard's training: applied, or at limit -/
  | coefStatus (lane : Nat) (applied : Bool)
  /-- R134, R148: the PCS has taken the last byte of a frame from a sequencer: its bytes, and the DTC at its timestamp point in units of 2^-32 ns -/
  | furFrame (lane : Nat) (bytes : List Byte) (ts : Nat)
  /-- R153: the frame on the line ends with a code violation after this many bytes -/
  | furBroken (lane : Nat) (sent : Nat)
  /-- R123, R316: the floats whose pulses reach the 64 float inputs of fabric in every field -/
  | floats (mask : Nat)
  /-- R140: a BASIN read presented on the fabric pattern port of a lane: address and byte count -/
  | patternRead (lane addr len : Nat)
  /-- R338: the response on a master port of a reservoir to a write: its status, its cause (1 REFUSED, 2 REGION, 3 alignment) and WLOST -/
  | portResp (rsv port : Nat) (st : RStat) (cause : Nat) (wlost : Bool)
  /-- R481: a gauge pin changes: 0 to 15 of Headworks, 16 + 4 n + j of field n -/
  | gauge (pin : Nat) (level : Bool)
  /-- R325-R330: the outputs of a port of a basin block in its read-latency slot: data lanes, SBE, DBE and COLL -/
  | basin (block : Nat) (portB : Bool) (lanes : List Nat) (sbe dbe coll : Bool)
  /-- R321: what pin p (48 b + p) of a field does from here on -/
  | pin (field pin : Nat) (st : PinState)
  /-- R264, R314: the answer of the other QDR user port of a field to its access of the same cycle -/
  | qdrUser (field : Nat) (portB : Bool) (st : RStat) (data : List Byte)
  /-- R322: a value of FLD_USRIN presented to fabric with its strobe -/
  | usrIn (field reg value : Nat)
  /-- R227: a turnout unit sent on module m of turnout t -/
  | turnUnit (t m : Nat) (bytes : List Byte)
  /-- R166: a PTP message sent on the time port -/
  | ptp (m : PtpSend)
  /-- R461, R462: a Watermaster frame sent on the MSP -/
  | msp (bytes : List Byte)
  /-- R484: a TAP instruction applies the boundary cells of a die to its balls; HIGHZ applies none -/
  | balls (die inst : Nat) (cells : List Bool)
  deriving DecidableEq, Repr

/-- The machine. -/
structure State where
  /-- the commands that wait, first in first out -/
  pending : List Instr := []
  /-- R4-R9, R47: the part, its identity and what is fitted -/
  part : Part := Part.initial
  /-- every register field, by bit address in the CSR region (Field.key); an unlisted field holds its reset value -/
  csr : List (Nat × Word) := []
  /-- the settings area (R413, R420): the NV fields that a settings record sets, by bit address; a field that none sets takes the default of its table -/
  settings : List (Nat × Word) := []
  /-- R30: the bytes of the memories, by DPA -/
  mem : List Host.Cell := []
  /-- the response to the last access -/
  resp : Resp := {}
  /-- outputs of the part, oldest first -/
  out : List Out := []
  /-- the model's own counter, to which each value that the spec leaves open is applied (Config.openValue) -/
  free : Nat := 0
  /-- R398-R400: the operations of the ledger, by entry; an unlisted entry is IDLE -/
  ledg : List (Nat × Op) := []
  /-- R479: the records of the persistent event log, oldest first -/
  events : List Event := []
  /-- R479: SEQ of the next record -/
  evSeq : Nat := 0
  /-- R479: of each CODE and DIE, at 16 CODE + DIE: when its last record was written, and how many have been left out since -/
  evBook : List (Nat × EvBook) := []
  /-- R387-R397, R404, R409: the CXL port -/
  cxl : CxlSt := {}
  /-- R408: the copy engine -/
  copy : CopySt := {}
  /-- R155-R170: the master DTC and its servo -/
  time : TimeSt := {}
  /-- R161-R165: the slave DTCs, by field -/
  slaves : List (Nat × SlaveSt) := []
  /-- R66-R97: the lanes -/
  lanes : List (Nat × LaneSt) := []
  /-- R80-R88: the ports, by anchor lane -/
  ports : List (Nat × PortSt) := []
  /-- R64, R428: the fields -/
  fields : List (Nat × FieldSt) := []
  /-- R61: the words of each field's channel table, at 1040 n + word -/
  chan : List (Nat × Word) := []
  /-- R133-R153: the sequencers, by lane -/
  furs : List (Nat × FurSt) := []
  /-- R30: the word whose check bits differ from those its code computes from the stored data, by word address (DPA / 8): the XOR of the two -/
  chk : List (Nat × Nat) := []
  /-- R281: regions whose contents are undefined: the model's counter when they became so, plus 1, by region number (Place.region) -/
  fog : List (Nat × Nat) := []
  /-- R193: tags in use -/
  tags : List (Nat × Tag) := []
  /-- the place in the order of arrival of the next request that takes a tag -/
  nextOrd : Nat := 0
  /-- R279: requests that wait for their region to be CHECKED, oldest first -/
  waiting : List Req := []
  /-- R183, R194: requests that wait at ingress, oldest first -/
  ingress : List Held := []
  /-- R183, R201: responses that wait for a credit, oldest first -/
  owed : List Owed := []
  /-- R185: credits whose audit is due after a retrain: virtual channel v of switch port p at 4 p + v -/
  unaudited : List Nat := []
  /-- R201, R211: the last turn of each round-robin, plus 1: source of class c on channel u at 64 u + c, class on channel u at 64 u + 32,
  best-effort source on channel u at 64 u + 33 (u as for remain); the channel of field n's last capture packet at 2^16 + n -/
  served : List (Nat × Nat) := []
  /-- R200: what is left of each class's shares in the current window: output channel p and class c at 32 p + c, uplink u at 32 (177 + u) + c -/
  remain : List (Nat × Int) := []
  /-- R183: credits that the sender at a port has spent toward the switch: port p and virtual channel v at 4 p + v -/
  upSpent : List (Nat × Nat) := []
  /-- R196: fence walks: the dies to walk, the first in progress, and its next tag -/
  walk : List Nat := []
  walkTag : Nat := 0
  /-- R241-R247: the pseudo-channels: p of controller m at 32 m + p -/
  pcs : List (Nat × PcSt) := []
  /-- R259-R261: the device ports of the QDR ports: A of field n at 2 n, B at 2 n + 1 -/
  qdrs : List (Nat × QdrSt) := []
  /-- R246-R251: the HBM controllers -/
  hmcs : List (Nat × HmcSt) := []
  /-- R283: the walkers: 0 and 1 of DRH, 2 + 3 n + w of the DRF of field n -/
  walkers : List (Nat × WalkSt) := []
  /-- R287: the range pass of each block: 0 DRH, 1 + n the DRF of field n -/
  ranges : List (Nat × RangeSt) := []
  /-- R280: the automatic INITs in progress: block 0 DRH, 1 + n the reservoirs and 9 + n the QDR port of field n, with the region being initialised -/
  autoInit : List (Nat × Nat) := []
  /-- R341: the word (DPA / 8, plus 1) that each holder has reserved: engine e, or 256 + 4 i + f for fabric port f of reservoir i -/
  resv : List (Nat × Nat) := []
  /-- R325: the basin blocks: block i of region r of field n at 1344 n + 84 r + i -/
  basins : List (Nat × BasinSt) := []
  /-- R217: the crossbar map -/
  xbar : List Wire := []
  /-- R217, R310: the wires that carry values, by destination wire -/
  pipes : List (Nat × WireSt) := []
  /-- R296-R318: the fabric of each field that has an image -/
  fabs : List (Nat × FabSt) := []
  /-- the time in 10^-15 s, which no write steps and no reset clears: clock edges of fabric and intervals of refresh lie on it -/
  elapsed : Nat := 0
  /-- R349, R421: the code stores: word w of engine e at 16384 e + w; an unlisted word is 0 -/
  code : List (Nat × Nat) := []
  /-- R411-R413: the bytes of the seed stores: byte a of field n's store at n * 2^32 + a, of the Headworks store at 8 * 2^32 + a; an unlisted byte reads 0 -/
  stores : List Host.Cell := []
  /-- R205-R221: the Flume modules: module m of field n at 8 n + m -/
  mods : List (Nat × ModSt) := []
  /-- R226, R227: the modules of the turnout ports: m of turnout t at 2 t + m -/
  turns : List (Nat × TurnSt) := []
  /-- R429-R432: the parcel swap of each field in which one runs -/
  swaps : List (Nat × SwapSt) := []
  /-- R213, R422-R425, R507: roll call, release and resets -/
  boot : BootSt := {}
  /-- R435-R457: the update path -/
  upd : UpdSt := {}
  /-- R490-R503: power states -/
  pow : PowSt := {}
  /-- R347: the engines, by package engine number -/
  engs : List (Nat × EngSt) := []
  /-- R349: patch RAM: word w of engine e at 256 e + w; an unlisted word is 0 -/
  patchRam : List (Nat × Nat) := []
  /-- R350: the patch loaders that run, by cluster -/
  loaders : List (Nat × PatchLd) := []
  /-- R478: the trace rings: those of fields at 0 to 7, that of Headworks at 8 -/
  rings : List (Nat × RingSt) := []
  /-- R99-R116: the capture front-ends, by lane -/
  cfes : List (Nat × CfeSt) := []
  /-- R117-R129: the cisterns -/
  cists : List (Nat × CistSt) := []
  /-- R111: closed segments and filled reserve descriptors, in closing order, and the number of the next -/
  closed : List Closed := []
  nextClosed : Nat := 0
  /-- R111: those in the write pipeline -/
  draining : List Closed := []
  /-- R124-R126: the float sequencer -/
  flt : FltSt := {}
  /-- R461-R469: Watermaster -/
  wm : WmSt := {}
  /-- R481, R482: the gauge mux -/
  gau : GauSt := {}
  /-- R483, R484: test access -/
  tap : TapSt := {}
  deriving DecidableEq, Repr

/-- The machine right after reset: every register at its reset value, memory with nothing listed, no command waiting. -/
def State.reset : State := {}

end Sys2Proof.Machine
end

