-- ==== Sys2Proof/Config.lean ====
section
/-! DEFINITION. The values that the spec leaves open, and what only Headgate's keys and Yegrim's formats determine. Each is
an opaque constant: nothing in Lean can evaluate it or prove a value of it, so every claim that mentions one holds for
every value. -/
namespace Sys2Proof.Config

/-- The values that the spec leaves open, by name; the assumption log's entry 5 says which rule leaves each open. -/
inductive Open
  /-- SEV of an event record where no rule states it (R479, R480) -/
  | eventSeverity
  /-- the difference of the candidate metrics at a sampled decision of the sequence detector (R97) -/
  | histogram
  /-- what fabric presents at the transmit port of a lane: a block or a word (R81, R82, R133) -/
  | fabricTx
  /-- a byte of a region whose contents a code write made undefined (R281) -/
  | memory
  /-- the unit that the error log of R291 names for a fabric port, which has no source ID (R182) -/
  | portSource
  /-- the device port of a QDR port on which an access of Furrow or Canal is issued (R259) -/
  | qdrPort
  /-- the ARG of an event whose rule gives none (R504) -/
  | eventArg
  /-- the SIZE of a RESUME packet, which carries no data (R477) -/
  | resumeSize
  /-- the bytes of a trace packet's DATA beyond its SIZE (R477) -/
  | tracePad
  /-- the phase of a time-to-digital converter within a TCLK cycle, in 2^-8 ns (R162) -/
  | phase
  /-- the lane of a port whose balls carry the first bit of a transmitted frame (R162) -/
  | txLane
  /-- the oscillator period that the DTC last measured (R157) -/
  | kaPeriod
  /-- the error of a switch into or out of keep-alive (R157) -/
  | kaSwitch
  /-- the walk interval that CUR shows where it exceeds 32 bits (R286, R291) -/
  | walkCur
  /-- how long a 64th of a parcel's payload takes to write (R430) -/
  | loadStep
  /-- a number that Headgate's random generator draws: a nonce (R482), a session ID (R464) -/
  | random
  deriving DecidableEq, Repr

/-- The open value of a name at the model's counter. -/
opaque openValue : Open → Nat → Nat

/-- R390, R409: the words of configuration space and of the component registers as the PCI Express and CXL specifications and
Welisko's identity have them, from what software wrote: a configuration offset, or 65536 plus an offset in the CXL block. -/
opaque cfgWord : Nat → List (Nat × BitVec 32) → BitVec 32

/-- R84: the line bits that IEEE 802.3's transcoding, PCS lanes, alignment markers, FEC and scrambling make of the 66-bit blocks of a PHY on
a lane of the port: PHY, lane, blocks sent before, the blocks (header and payload) and the number of bits. -/
opaque ethLine (phy lane before : Nat) (blocks : List (Nat × Nat)) (bits : Nat) : List Bool

/-- R150: where that coding puts a bit of a 66-bit block: PHY, blocks sent before and the bit; the lane of the port and the bit of it. -/
opaque ethPlace (phy before bit : Nat) : Nat × Nat

/-- R95: the short-stress pattern SSPRQ of IEEE 802.3, by bit. -/
opaque ssprq : Nat → Bool

/-- R59: the receive set that adaptation has reached in READY, at the model's counter. -/
opaque adapted : Nat → AdaptVals

/-- R177: the SEC-DED check HECC over bits [119:0] of a flit header, whose code the spec does not give. -/
opaque hecc : Nat → Byte

/-- R406: the Command Effect of a mailbox opcode. -/
opaque commandEffect : Nat → BitVec 16

/-- R161: the per-die asymmetry trim of the sideband delay, set at manufacture, in 2^-8 ns. -/
opaque asymTrim : Nat → Int

/-- R166: what this clock announces of its quality, and the logarithm of its Sync and Announce intervals, 0 to 11 for -7 to +4. -/
opaque ptpQuality : Nat
opaque ptpInterval : Fin 12

/-! Fabric (R296-R318): what the fabric of a field meets at a time in 10^-15 s (DESIGN CHOICE, log entry 60). -/

/-- A signal that a hard block or an ignored input presents, or that no rule states, in field n. -/
opaque fabricIn (n : Nat) (x : Machine.Net) (t : Nat) : Bool

/-- The level at pin p (48 b + p) of field n, the time in 10^-12 s. -/
opaque pinLevel (n p t : Nat) : Bool

/-- R461: the byte that arrives on MSP_RX at a time on State.elapsed, if one does. -/
opaque mspByte : Nat → Option Byte

/-- R481: the level of a probe point: die (8 Headworks), probe, and a time on State.elapsed. -/
opaque probe (die p t : Nat) : Bool

/-- The time of the first rising edge of a clock of field n (8: of the package). -/
opaque clockPhase (n : Nat) (c : Machine.ClkSrc) : Nat

/-! Images (R416, R439): a payload is given as its stored bytes by offset, an unlisted one being 0, and its length. -/

/-- R416, R439: does the GCM tag of an image match under the image key of SITE, KIND and SLOT? -/
opaque imageAuth (site kind slot : Nat) (header : List (BitVec 8)) (payload : List Host.Cell) (len : Nat) : Bool

/-- R416: what the payload of a field image or a parcel image sets, in Yegrim's format. -/
opaque imageBody (payload : List Host.Cell) (len : Nat) : Machine.ImgBody

/-- R413: what a Headworks firmware image sets. -/
opaque firmwareBody (payload : List Host.Cell) (len : Nat) : Machine.FwBody

/-! Cryptography (R437-R445, R482). -/

/-- The SHA-384 digest of bytes, byte 0 at [7:0], as HDG_ROOTH and HDG_OWNH hold one. -/
opaque sha384 (bytes : List (BitVec 8)) : Nat

/-- Is sig the ECDSA P-384 signature, with SHA-384, over bytes under a public key? -/
opaque signed (key sig bytes : List (BitVec 8)) : Bool

/-- R445: the plaintext of a part that is encrypted to this device, where its tag matches: from EPK, BUNDLEID, the part's
entry with its IV and TAG, and the part's bytes. -/
opaque transit (epk : List (BitVec 8)) (bundle : Nat) (entry part : List (BitVec 8)) : Option (List (BitVec 8))

/-- R439: the fresh IV of an image, at the model's counter. -/
opaque imageIv (n : Nat) : BitVec 96

/-- R439: the payload encrypted under the image key of SITE, KIND and SLOT, with the IV and header bytes 0 to 39, and the tag. -/
opaque imageSeal (site kind slot : Nat) (iv : BitVec 96) (header payload : List (BitVec 8)) : List (BitVec 8) × BitVec 128

/-- R483: Welisko's JEP106 manufacturer code, as IDCODE holds it. -/
opaque jep106 : BitVec 11

/-- R251: does the compare helper find no error, in the training of an operating point r on pseudo-channel pc of controller m, with the repairs of the
word rep in force, for kind 0 the command bus, 1 reads or 2 writes of a bit, at a delay? -/
opaque hbmEye (m r pc rep kind bit delay : Nat) : Bool

/-- R247: the activates of a bank after which the mode registers of stack m require refresh management. -/
opaque rfmLimit (m : Nat) : Nat

/-- R502: the timing set that the training firmware found for an operating point of a controller: the words of HMC_SHD. -/
opaque trainedSet (m rate r : Nat) : Nat

end Sys2Proof.Config
end

