-- ==== Sys2Proof/Machine/RegsField.lean ====
section
/-! DEFINITION. The register fields of the field windows (R35). One definition per field, from the register tables of spec/; one list per block. -/

namespace Sys2Proof.Machine.FLD

-- `FLD_ID` at 0x0000, spec/12_fabric.md R324
def ID_REV : Field := ⟨.FLD, 0x0, 0, 4, .RO, 0x4, .fixed, .POR, 0, 1, 0, 1, .all⟩
def ID_SITE : Field := ⟨.FLD, 0x0, 8, 3, .RO, 0x0, .site, .POR, 0, 1, 0, 1, .all⟩
def ID_FAMILY : Field := ⟨.FLD, 0x0, 16, 16, .RO, 0xD8A, .val, .POR, 0, 1, 0, 1, .all⟩
-- `FLD_STAT` at 0x0004, spec/12_fabric.md R324
def STAT_IOBERR : Field := ⟨.FLD, 0x4, 0, 1, .W1C, 0x0, .val, .FAD, 0, 1, 0, 1, .all⟩
def STAT_PLLUNLK : Field := ⟨.FLD, 0x4, 1, 1, .W1C, 0x0, .val, .FAD, 0, 1, 0, 1, .all⟩
def STAT_WCLKLOCK : Field := ⟨.FLD, 0x4, 2, 1, .RO, 0x0, .val, .FAD, 0, 1, 0, 1, .all⟩
def STAT_WCLKLOST : Field := ⟨.FLD, 0x4, 3, 1, .W1C, 0x0, .val, .FAD, 0, 1, 0, 1, .all⟩
-- `FLD_PLL` at 0x0008, spec/12_fabric.md R324
def PLL_LOCK : Field := ⟨.FLD, 0x8, 0, 6, .RO, 0x0, .val, .FAD, 0, 1, 0, 1, .all⟩
def PLL_UNLK : Field := ⟨.FLD, 0x8, 8, 6, .W1C, 0x0, .val, .FAD, 0, 1, 0, 1, .all⟩
def PLL_USED : Field := ⟨.FLD, 0x8, 16, 6, .RO, 0x0, .image, .FAD, 0, 1, 0, 1, .all⟩
-- `FLD_IOB` at 0x0010, spec/12_fabric.md R324
def IOB_DECL : Field := ⟨.FLD, 0x10, 0, 3, .RO, 0x0, .image, .FAD, 32, 4, 0, 1, .all⟩
def IOB_DET : Field := ⟨.FLD, 0x10, 3, 3, .RO, 0x0, .val, .FAD, 32, 4, 0, 1, .all⟩
def IOB_HIZ : Field := ⟨.FLD, 0x10, 6, 1, .RO, 0x0, .val, .FAD, 32, 4, 0, 1, .all⟩
-- `FLD_WSTAT` at 0x0020, spec/12_fabric.md R324
def WSTAT_WMODE : Field := ⟨.FLD, 0x20, 0, 8, .RO, 0x0, .image, .FAD, 0, 1, 0, 1, .all⟩
def WSTAT_WOK : Field := ⟨.FLD, 0x20, 8, 8, .RO, 0x0, .val, .FAD, 0, 1, 0, 1, .all⟩
def WSTAT_WDFLT : Field := ⟨.FLD, 0x20, 16, 8, .W1C, 0x0, .val, .FAD, 0, 1, 0, 1, .all⟩
-- `FLD_FLOAT` at 0x0024, spec/12_fabric.md R324
def FLOAT_FOUT : Field := ⟨.FLD, 0x24, 0, 8, .RC, 0x0, .val, .FAD, 0, 1, 0, 1, .all⟩
-- `FLD_CEPEN` at 0x0028, spec/12_fabric.md R324
def CEPEN_LO : Field := ⟨.FLD, 0x28, 0, 32, .RO, 0x0, .image, .FAD, 0, 1, 0, 1, .all⟩
-- `FLD_CEPEN` at 0x002C, spec/12_fabric.md R324
def CEPEN_HI : Field := ⟨.FLD, 0x2C, 0, 32, .RO, 0x0, .image, .FAD, 0, 1, 0, 1, .all⟩
-- `FLD_CEPERR` at 0x0030, spec/12_fabric.md R324
def CEPERR_LO : Field := ⟨.FLD, 0x30, 0, 32, .W1C, 0x0, .val, .FAD, 0, 1, 0, 1, .all⟩
-- `FLD_CEPERR` at 0x0034, spec/12_fabric.md R324
def CEPERR_HI : Field := ⟨.FLD, 0x34, 0, 32, .W1C, 0x0, .val, .FAD, 0, 1, 0, 1, .all⟩
-- `FLD_USRIN` at 0x0100, spec/12_fabric.md R324
def USRIN : Field := ⟨.FLD, 0x100, 0, 32, .RW, 0x0, .val, .FAD, 32, 16, 0, 1, .all⟩
-- `FLD_USROUT` at 0x0140, spec/12_fabric.md R324
def USROUT : Field := ⟨.FLD, 0x140, 0, 32, .RO, 0x0, .val, .FAD, 32, 16, 0, 1, .all⟩

/-- The fields of the FLD block. -/
def fields : List Field :=
  [ID_REV, ID_SITE, ID_FAMILY, STAT_IOBERR, STAT_PLLUNLK, STAT_WCLKLOCK, STAT_WCLKLOST, PLL_LOCK, PLL_UNLK, PLL_USED, IOB_DECL, IOB_DET] ++
  [IOB_HIZ, WSTAT_WMODE, WSTAT_WOK, WSTAT_WDFLT, FLOAT_FOUT, CEPEN_LO, CEPEN_HI, CEPERR_LO, CEPERR_HI, USRIN, USROUT]

end Sys2Proof.Machine.FLD

namespace Sys2Proof.Machine.FLF

-- `FLF_MSTAT` at 0x0000, spec/08_flume.md R232
def MSTAT_STATE : Field := ⟨.FLF, 0x0, 0, 3, .RO, 0x0, .val, .FAD, 0, 1, 0, 1, .all⟩
def MSTAT_WIDTH : Field := ⟨.FLF, 0x0, 3, 2, .RO, 0x0, .val, .FAD, 0, 1, 0, 1, .all⟩
def MSTAT_GROUP : Field := ⟨.FLF, 0x0, 5, 2, .RO, 0x0, .val, .FAD, 0, 1, 0, 1, .all⟩
def MSTAT_WIRE : Field := ⟨.FLF, 0x0, 7, 1, .RO, 0x0, .val, .FAD, 0, 1, 0, 1, .all⟩
def MSTAT_ADOPTFAIL : Field := ⟨.FLF, 0x0, 8, 1, .W1C, 0x0, .val, .FAD, 0, 1, 0, 1, .all⟩
-- `FLF_CAP` at 0x0004, spec/08_flume.md R232
def CAP_MAXW : Field := ⟨.FLF, 0x4, 0, 2, .RO, 0x0, .val, .FAD, 0, 1, 0, 1, .all⟩
-- `FLF_REPAIR` at 0x0008, spec/08_flume.md R232
def REPAIR : Field := ⟨.FLF, 0x8, 0, 32, .RO, 0x0, .val, .FAD, 0, 1, 0, 1, .all⟩
-- `FLF_MCNT0` at 0x000C, spec/08_flume.md R232
def MCNT0_REPLAY : Field := ⟨.FLF, 0xC, 0, 16, .RC, 0x0, .val, .FAD, 0, 1, 0, 1, .all⟩
def MCNT0_RETRN : Field := ⟨.FLF, 0xC, 16, 16, .RC, 0x0, .val, .FAD, 0, 1, 0, 1, .all⟩
-- `FLF_MCNT1` at 0x0010, spec/08_flume.md R232
def MCNT1_CRCERR : Field := ⟨.FLF, 0x10, 0, 32, .RC, 0x0, .val, .FAD, 0, 1, 0, 1, .all⟩
-- `FLF_LIVE` at 0x1000, spec/08_flume.md R232
def LIVE : Field := ⟨.FLF, 0x1000, 0, 16, .RO, 0x0, .val, .FAD, 0, 1, 0, 1, .all⟩
def LIVE_HCH : Field := ⟨.FLF, 0x1000, 16, 6, .RO, 0x0, .val, .FAD, 0, 1, 0, 1, .all⟩
-- `FLF_FSTAT` at 0x1004, spec/08_flume.md R232
def FSTAT_FENCED : Field := ⟨.FLF, 0x1004, 0, 1, .RO, 0x0, .val, .PKR, 0, 1, 0, 1, .all⟩

/-- The fields of the FLF block. -/
def fields : List Field :=
  [MSTAT_STATE, MSTAT_WIDTH, MSTAT_GROUP, MSTAT_WIRE, MSTAT_ADOPTFAIL, CAP_MAXW, REPAIR, MCNT0_REPLAY, MCNT0_RETRN, MCNT1_CRCERR, LIVE, LIVE_HCH] ++
  [FSTAT_FENCED]

end Sys2Proof.Machine.FLF

namespace Sys2Proof.Machine.LNQ

-- `LNQ_CTRL` at 0x0000, spec/02_lanes.md R78
def CTRL_PLLA_EN : Field := ⟨.LNQ, 0x0, 0, 1, .RW, 0x0, .val, .PKR, 0, 1, 0, 1, .all⟩
def CTRL_PLLB_EN : Field := ⟨.LNQ, 0x0, 1, 1, .RW, 0x0, .val, .PKR, 0, 1, 0, 1, .all⟩
def CTRL_REFA : Field := ⟨.LNQ, 0x0, 2, 1, .RW, 0x0, .val, .PKR, 0, 1, 0, 1, .all⟩
def CTRL_REFB : Field := ⟨.LNQ, 0x0, 3, 1, .RW, 0x0, .val, .PKR, 0, 1, 0, 1, .all⟩
-- `LNQ_PLLA_N` at 0x0004, spec/02_lanes.md R78
def PLLA_N_NINT : Field := ⟨.LNQ, 0x4, 0, 10, .RW, 0x0, .val, .PKR, 0, 1, 0, 1, .all⟩
-- `LNQ_PLLA_F` at 0x0008, spec/02_lanes.md R78
def PLLA_F_NNUM : Field := ⟨.LNQ, 0x8, 0, 16, .RW, 0x0, .val, .PKR, 0, 1, 0, 1, .all⟩
def PLLA_F_NDEN : Field := ⟨.LNQ, 0x8, 16, 16, .RW, 0x1, .val, .PKR, 0, 1, 0, 1, (.geq 1)⟩
-- `LNQ_PLLB_N` at 0x000C, spec/02_lanes.md R78
def PLLB_N_NINT : Field := ⟨.LNQ, 0xC, 0, 10, .RW, 0x0, .val, .PKR, 0, 1, 0, 1, .all⟩
-- `LNQ_PLLB_F` at 0x0010, spec/02_lanes.md R78
def PLLB_F_NNUM : Field := ⟨.LNQ, 0x10, 0, 16, .RW, 0x0, .val, .PKR, 0, 1, 0, 1, .all⟩
def PLLB_F_NDEN : Field := ⟨.LNQ, 0x10, 16, 16, .RW, 0x1, .val, .PKR, 0, 1, 0, 1, (.geq 1)⟩
-- `LNQ_STAT` at 0x0014, spec/02_lanes.md R78
def STAT_LOCKA : Field := ⟨.LNQ, 0x14, 0, 1, .RO, 0x0, .val, .PKR, 0, 1, 0, 1, .all⟩
def STAT_LOCKB : Field := ⟨.LNQ, 0x14, 1, 1, .RO, 0x0, .val, .PKR, 0, 1, 0, 1, .all⟩
def STAT_UNLKA : Field := ⟨.LNQ, 0x14, 2, 1, .W1C, 0x0, .val, .PKR, 0, 1, 0, 1, .all⟩
def STAT_UNLKB : Field := ⟨.LNQ, 0x14, 3, 1, .W1C, 0x0, .val, .PKR, 0, 1, 0, 1, .all⟩
def STAT_RANGEA : Field := ⟨.LNQ, 0x14, 4, 1, .RO, 0x0, .val, .PKR, 0, 1, 0, 1, .all⟩
def STAT_RANGEB : Field := ⟨.LNQ, 0x14, 5, 1, .RO, 0x0, .val, .PKR, 0, 1, 0, 1, .all⟩

/-- The fields of the LNQ block. -/
def fields : List Field :=
  [CTRL_PLLA_EN, CTRL_PLLB_EN, CTRL_REFA, CTRL_REFB, PLLA_N_NINT, PLLA_F_NNUM, PLLA_F_NDEN, PLLB_N_NINT, PLLB_F_NNUM, PLLB_F_NDEN, STAT_LOCKA, STAT_LOCKB] ++
  [STAT_UNLKA, STAT_UNLKB, STAT_RANGEA, STAT_RANGEB]

end Sys2Proof.Machine.LNQ

namespace Sys2Proof.Machine.LN

-- `LN_CTRL` at 0x0000, spec/02_lanes.md R79
def CTRL_EN : Field := ⟨.LN, 0x0, 0, 1, .RW, 0x0, .val, .PKR, 0, 1, 0, 1, .all⟩
def CTRL_TXEN : Field := ⟨.LN, 0x0, 1, 1, .RW, 0x0, .val, .PKR, 0, 1, 0, 1, .all⟩
def CTRL_RXEN : Field := ⟨.LN, 0x0, 2, 1, .RW, 0x0, .val, .PKR, 0, 1, 0, 1, .all⟩
def CTRL_PLLSEL : Field := ⟨.LN, 0x0, 3, 1, .RW, 0x0, .val, .PKR, 0, 1, 0, 1, .all⟩
def CTRL_DIV : Field := ⟨.LN, 0x0, 4, 3, .RW, 0x0, .val, .PKR, 0, 1, 0, 1, (.leq 6)⟩
def CTRL_MOD : Field := ⟨.LN, 0x0, 7, 1, .RW, 0x0, .val, .PKR, 0, 1, 0, 1, .all⟩
def CTRL_RCLASS : Field := ⟨.LN, 0x0, 8, 3, .RW, 0x0, .val, .PKR, 0, 1, 0, 1, (.leq 6)⟩
def CTRL_ADAPT : Field := ⟨.LN, 0x0, 11, 2, .RW, 0x0, .val, .PKR, 0, 1, 0, 1, (.leq 2)⟩
def CTRL_MLSE_DIS : Field := ⟨.LN, 0x0, 13, 1, .RW, 0x0, .val, .PKR, 0, 1, 0, 1, .all⟩
def CTRL_TRAIN : Field := ⟨.LN, 0x0, 14, 1, .RW, 0x0, .val, .PKR, 0, 1, 0, 1, .all⟩
def CTRL_PRECODE : Field := ⟨.LN, 0x0, 15, 1, .RW, 0x0, .val, .PKR, 0, 1, 0, 1, .all⟩
def CTRL_LOOP : Field := ⟨.LN, 0x0, 16, 2, .RW, 0x0, .val, .PKR, 0, 1, 0, 1, (.leq 2)⟩
-- `LN_STAT` at 0x0004, spec/02_lanes.md R79
def STAT_STATE : Field := ⟨.LN, 0x4, 0, 3, .RO, 0x0, .val, .PKR, 0, 1, 0, 1, .all⟩
def STAT_SIGDET : Field := ⟨.LN, 0x4, 3, 1, .RO, 0x0, .val, .PKR, 0, 1, 0, 1, .all⟩
def STAT_CDRLOCK : Field := ⟨.LN, 0x4, 4, 1, .RO, 0x0, .val, .PKR, 0, 1, 0, 1, .all⟩
def STAT_DPACT : Field := ⟨.LN, 0x4, 5, 1, .RO, 0x0, .val, .PKR, 0, 1, 0, 1, .all⟩
def STAT_CFGERR : Field := ⟨.LN, 0x4, 6, 1, .RO, 0x0, .val, .PKR, 0, 1, 0, 1, .all⟩
def STAT_TBLDEF : Field := ⟨.LN, 0x4, 7, 1, .RO, 0x0, .val, .PKR, 0, 1, 0, 1, .all⟩
def STAT_TRAIN_FALLBACK : Field := ⟨.LN, 0x4, 8, 1, .W1C, 0x0, .val, .PKR, 0, 1, 0, 1, .all⟩
def STAT_ADPLIM : Field := ⟨.LN, 0x4, 9, 1, .W1C, 0x0, .val, .PKR, 0, 1, 0, 1, .all⟩
def STAT_LOS_EVT : Field := ⟨.LN, 0x4, 10, 1, .W1C, 0x0, .val, .PKR, 0, 1, 0, 1, .all⟩
def STAT_CALDISC : Field := ⟨.LN, 0x4, 11, 1, .W1C, 0x0, .val, .PKR, 0, 1, 0, 1, .all⟩
def STAT_FIRERR : Field := ⟨.LN, 0x4, 12, 1, .W1C, 0x0, .val, .PKR, 0, 1, 0, 1, .all⟩
def STAT_CALERR : Field := ⟨.LN, 0x4, 13, 1, .W1C, 0x0, .val, .PKR, 0, 1, 0, 1, .all⟩
-- `LN_TXFIR0` at 0x0008, spec/02_lanes.md R79
def TXFIR0_PRE3 : Field := ⟨.LN, 0x8, 0, 8, .RW, 0x0, .val, .PKR, 0, 1, 0, 1, .all⟩
def TXFIR0_PRE2 : Field := ⟨.LN, 0x8, 8, 8, .RW, 0x0, .val, .PKR, 0, 1, 0, 1, .all⟩
def TXFIR0_PRE1 : Field := ⟨.LN, 0x8, 16, 8, .RW, 0x0, .val, .PKR, 0, 1, 0, 1, .all⟩
def TXFIR0_MAIN : Field := ⟨.LN, 0x8, 24, 8, .RW, 0x0, .val, .PKR, 0, 1, 0, 1, .all⟩
-- `LN_TXFIR1` at 0x000C, spec/02_lanes.md R79
def TXFIR1_POST1 : Field := ⟨.LN, 0xC, 0, 8, .RW, 0x0, .val, .PKR, 0, 1, 0, 1, .all⟩
def TXFIR1_POST2 : Field := ⟨.LN, 0xC, 8, 8, .RW, 0x0, .val, .PKR, 0, 1, 0, 1, .all⟩
def TXFIR1_AMP : Field := ⟨.LN, 0xC, 16, 3, .RW, 0x0, .val, .PKR, 0, 1, 0, 1, .all⟩
-- `LN_RXEQ` at 0x0010, spec/02_lanes.md R79
def RXEQ_CTLE : Field := ⟨.LN, 0x10, 0, 5, .RW, 0x0, .val, .PKR, 0, 1, 0, 1, .all⟩
def RXEQ_VGA : Field := ⟨.LN, 0x10, 8, 6, .RW, 0x0, .val, .PKR, 0, 1, 0, 1, .all⟩
-- `LN_DFE0` at 0x0014, spec/02_lanes.md R79
def DFE0_TAP1 : Field := ⟨.LN, 0x14, 0, 8, .RW, 0x0, .val, .PKR, 0, 1, 0, 1, .all⟩
def DFE0_TAP2 : Field := ⟨.LN, 0x14, 8, 8, .RW, 0x0, .val, .PKR, 0, 1, 0, 1, .all⟩
def DFE0_TAP3 : Field := ⟨.LN, 0x14, 16, 8, .RW, 0x0, .val, .PKR, 0, 1, 0, 1, .all⟩
def DFE0_TAP4 : Field := ⟨.LN, 0x14, 24, 8, .RW, 0x0, .val, .PKR, 0, 1, 0, 1, .all⟩
-- `LN_DFE1` at 0x0018, spec/02_lanes.md R79
def DFE1_TAP5 : Field := ⟨.LN, 0x18, 0, 8, .RW, 0x0, .val, .PKR, 0, 1, 0, 1, .all⟩
def DFE1_TAP6 : Field := ⟨.LN, 0x18, 8, 8, .RW, 0x0, .val, .PKR, 0, 1, 0, 1, .all⟩
def DFE1_TAP7 : Field := ⟨.LN, 0x18, 16, 8, .RW, 0x0, .val, .PKR, 0, 1, 0, 1, .all⟩
def DFE1_TAP8 : Field := ⟨.LN, 0x18, 24, 8, .RW, 0x0, .val, .PKR, 0, 1, 0, 1, .all⟩
-- `LN_DFE2` at 0x001C, spec/02_lanes.md R79
def DFE2_TAP9 : Field := ⟨.LN, 0x1C, 0, 8, .RW, 0x0, .val, .PKR, 0, 1, 0, 1, .all⟩
def DFE2_TAP10 : Field := ⟨.LN, 0x1C, 8, 8, .RW, 0x0, .val, .PKR, 0, 1, 0, 1, .all⟩
def DFE2_TAP11 : Field := ⟨.LN, 0x1C, 16, 8, .RW, 0x0, .val, .PKR, 0, 1, 0, 1, .all⟩
def DFE2_TAP12 : Field := ⟨.LN, 0x1C, 24, 8, .RW, 0x0, .val, .PKR, 0, 1, 0, 1, .all⟩
-- `LN_MLSE` at 0x0020, spec/02_lanes.md R79
def MLSE_ALPHA : Field := ⟨.LN, 0x20, 0, 8, .RW, 0x0, .val, .PKR, 0, 1, 0, 1, .all⟩
def MLSE_BETA : Field := ⟨.LN, 0x20, 8, 8, .RW, 0x0, .val, .PKR, 0, 1, 0, 1, .all⟩
-- `LN_CDR` at 0x0024, spec/02_lanes.md R79
def CDR_PPM : Field := ⟨.LN, 0x24, 0, 16, .RO, 0x0, .val, .PKR, 0, 1, 0, 1, .all⟩
-- `LN_CAL` at 0x0028, spec/02_lanes.md R79
def CAL_GO : Field := ⟨.LN, 0x28, 0, 1, .WO, 0x0, .val, .PKR, 0, 1, 0, 1, .all⟩
def CAL_INTR : Field := ⟨.LN, 0x28, 1, 1, .WO, 0x0, .val, .PKR, 0, 1, 0, 1, .all⟩
def CAL_KIND : Field := ⟨.LN, 0x28, 2, 2, .WO, 0x0, .val, .PKR, 0, 1, 0, 1, .all⟩
def CAL_ENTRY : Field := ⟨.LN, 0x28, 16, 10, .WO, 0x0, .val, .PKR, 0, 1, 0, 1, .all⟩
-- `LN_EVCNT` at 0x002C, spec/02_lanes.md R79
def EVCNT_LOSCNT : Field := ⟨.LN, 0x2C, 0, 16, .RC, 0x0, .val, .PKR, 0, 1, 0, 1, .all⟩
def EVCNT_ACQFAIL : Field := ⟨.LN, 0x2C, 16, 16, .RC, 0x0, .val, .PKR, 0, 1, 0, 1, .all⟩
-- `LN_TBL` at 0x0100, spec/02_lanes.md R79
def TBL_ENT : Field := ⟨.LN, 0x100, 0, 32, .RO, 0x0, .val, .PKR, 32, 8, 0, 1, .all⟩

/-- The fields of the LN block. -/
def fields : List Field :=
  [CTRL_EN, CTRL_TXEN, CTRL_RXEN, CTRL_PLLSEL, CTRL_DIV, CTRL_MOD, CTRL_RCLASS, CTRL_ADAPT, CTRL_MLSE_DIS, CTRL_TRAIN, CTRL_PRECODE, CTRL_LOOP] ++
  [STAT_STATE, STAT_SIGDET, STAT_CDRLOCK, STAT_DPACT, STAT_CFGERR, STAT_TBLDEF, STAT_TRAIN_FALLBACK, STAT_ADPLIM, STAT_LOS_EVT, STAT_CALDISC, STAT_FIRERR, STAT_CALERR] ++
  [TXFIR0_PRE3, TXFIR0_PRE2, TXFIR0_PRE1, TXFIR0_MAIN, TXFIR1_POST1, TXFIR1_POST2, TXFIR1_AMP, RXEQ_CTLE, RXEQ_VGA, DFE0_TAP1, DFE0_TAP2, DFE0_TAP3] ++
  [DFE0_TAP4, DFE1_TAP5, DFE1_TAP6, DFE1_TAP7, DFE1_TAP8, DFE2_TAP9, DFE2_TAP10, DFE2_TAP11, DFE2_TAP12, MLSE_ALPHA, MLSE_BETA, CDR_PPM] ++
  [CAL_GO, CAL_INTR, CAL_KIND, CAL_ENTRY, EVCNT_LOSCNT, EVCNT_ACQFAIL, TBL_ENT]

end Sys2Proof.Machine.LN

namespace Sys2Proof.Machine.PCS

-- `PCS_CTRL` at 0x0000, spec/03_lane_coding.md R98
def CTRL_EN : Field := ⟨.PCS, 0x0, 0, 1, .RW, 0x0, .val, .PKR, 0, 1, 0, 1, .all⟩
def CTRL_MODE : Field := ⟨.PCS, 0x0, 1, 2, .RW, 0x0, .val, .PKR, 0, 1, 0, 1, .all⟩
def CTRL_WIDTH : Field := ⟨.PCS, 0x0, 3, 3, .RW, 0x0, .val, .PKR, 0, 1, 0, 1, (.leq 4)⟩
def CTRL_ETHPHY : Field := ⟨.PCS, 0x0, 8, 4, .RW, 0x0, .val, .PKR, 0, 1, 0, 1, (.leq 14)⟩
def CTRL_FECBYP : Field := ⟨.PCS, 0x0, 12, 1, .RW, 0x0, .val, .PKR, 0, 1, 0, 1, .all⟩
def CTRL_AN : Field := ⟨.PCS, 0x0, 13, 1, .RW, 0x0, .val, .PKR, 0, 1, 0, 1, .all⟩
def CTRL_TPROTO : Field := ⟨.PCS, 0x0, 14, 2, .RW, 0x0, .val, .PKR, 0, 1, 0, 1, (.leq 2)⟩
def CTRL_SCRBYP : Field := ⟨.PCS, 0x0, 16, 1, .RW, 0x0, .val, .PKR, 0, 1, 0, 1, .all⟩
-- `PCS_STAT` at 0x0004, spec/03_lane_coding.md R98
def STAT_BLOCK_LOCK : Field := ⟨.PCS, 0x4, 0, 1, .RO, 0x0, .val, .PKR, 0, 1, 0, 1, .all⟩
def STAT_ALIGN : Field := ⟨.PCS, 0x4, 1, 1, .RO, 0x0, .val, .PKR, 0, 1, 0, 1, .all⟩
def STAT_LINK : Field := ⟨.PCS, 0x4, 2, 1, .RO, 0x0, .val, .PKR, 0, 1, 0, 1, .all⟩
def STAT_CFGERR : Field := ⟨.PCS, 0x4, 3, 1, .RO, 0x0, .val, .PKR, 0, 1, 0, 1, .all⟩
def STAT_LOCKLOST : Field := ⟨.PCS, 0x4, 4, 1, .W1C, 0x0, .val, .PKR, 0, 1, 0, 1, .all⟩
def STAT_HIBER : Field := ⟨.PCS, 0x4, 5, 1, .RO, 0x0, .val, .PKR, 0, 1, 0, 1, .all⟩
def STAT_AN_DONE : Field := ⟨.PCS, 0x4, 6, 1, .RO, 0x0, .val, .PKR, 0, 1, 0, 1, .all⟩
def STAT_AN_NOCOMMON : Field := ⟨.PCS, 0x4, 7, 1, .W1C, 0x0, .val, .PKR, 0, 1, 0, 1, .all⟩
def STAT_ADVDROP : Field := ⟨.PCS, 0x4, 8, 1, .W1C, 0x0, .val, .PKR, 0, 1, 0, 1, .all⟩
def STAT_EYEERR : Field := ⟨.PCS, 0x4, 9, 1, .W1C, 0x0, .val, .PKR, 0, 1, 0, 1, .all⟩
def STAT_TRNST : Field := ⟨.PCS, 0x4, 12, 3, .RO, 0x0, .val, .PKR, 0, 1, 0, 1, .all⟩
def STAT_RES_PHY : Field := ⟨.PCS, 0x4, 16, 4, .RO, 0x0, .val, .PKR, 0, 1, 0, 1, .all⟩
-- `PCS_ANADV` at 0x0008, spec/03_lane_coding.md R98
def ANADV : Field := ⟨.PCS, 0x8, 0, 15, .RW, 0x0, .val, .PKR, 0, 1, 0, 1, .all⟩
-- `PCS_CNT0` at 0x000C, spec/03_lane_coding.md R98
def CNT0_FECCOR : Field := ⟨.PCS, 0xC, 0, 32, .RC, 0x0, .val, .PKR, 0, 1, 0, 1, .all⟩
-- `PCS_CNT1` at 0x0010, spec/03_lane_coding.md R98
def CNT1_FECUNC : Field := ⟨.PCS, 0x10, 0, 32, .RC, 0x0, .val, .PKR, 0, 1, 0, 1, .all⟩
-- `PCS_CNT2` at 0x0014, spec/03_lane_coding.md R98
def CNT2_BADHDR : Field := ⟨.PCS, 0x14, 0, 16, .RC, 0x0, .val, .PKR, 0, 1, 0, 1, .all⟩
def CNT2_LOCKCNT : Field := ⟨.PCS, 0x14, 16, 16, .RC, 0x0, .val, .PKR, 0, 1, 0, 1, .all⟩
-- `PCS_TRNCFG` at 0x0018, spec/03_lane_coding.md R98
def TRNCFG_TMAX : Field := ⟨.PCS, 0x18, 0, 16, .RW, 0x1F4, .val, .PKR, 0, 1, 0, 1, (.geq 1)⟩
def TRNCFG_PRECREQ : Field := ⟨.PCS, 0x18, 16, 1, .RW, 0x0, .val, .PKR, 0, 1, 0, 1, .all⟩
-- `PCS_PRBS` at 0x0020, spec/03_lane_coding.md R98
def PRBS_GENPAT : Field := ⟨.PCS, 0x20, 0, 3, .RW, 0x0, .val, .PKR, 0, 1, 0, 1, (.leq 6)⟩
def PRBS_GENEN : Field := ⟨.PCS, 0x20, 3, 1, .RW, 0x0, .val, .PKR, 0, 1, 0, 1, .all⟩
def PRBS_CHKPAT : Field := ⟨.PCS, 0x20, 4, 3, .RW, 0x0, .val, .PKR, 0, 1, 0, 1, (.leq 6)⟩
def PRBS_CHKEN : Field := ⟨.PCS, 0x20, 7, 1, .RW, 0x0, .val, .PKR, 0, 1, 0, 1, .all⟩
def PRBS_INJ : Field := ⟨.PCS, 0x20, 8, 1, .WO, 0x0, .val, .PKR, 0, 1, 0, 1, .all⟩
def PRBS_CLR : Field := ⟨.PCS, 0x20, 9, 1, .WO, 0x0, .val, .PKR, 0, 1, 0, 1, .all⟩
-- `PCS_PRBSST` at 0x0024, spec/03_lane_coding.md R98
def PRBSST_SYNC : Field := ⟨.PCS, 0x24, 0, 1, .RO, 0x0, .val, .PKR, 0, 1, 0, 1, .all⟩
def PRBSST_SAT : Field := ⟨.PCS, 0x24, 1, 1, .RO, 0x0, .val, .PKR, 0, 1, 0, 1, .all⟩
def PRBSST_SYNCLOST : Field := ⟨.PCS, 0x24, 2, 1, .W1C, 0x0, .val, .PKR, 0, 1, 0, 1, .all⟩
-- `PCS_PERR` at 0x0028, spec/03_lane_coding.md R98
def PERR_LO : Field := ⟨.PCS, 0x28, 0, 32, .RO, 0x0, .val, .PKR, 0, 1, 0, 1, .all⟩
-- `PCS_PERR` at 0x002C, spec/03_lane_coding.md R98
def PERR_HI : Field := ⟨.PCS, 0x2C, 0, 16, .RO, 0x0, .val, .PKR, 0, 1, 0, 1, .all⟩
-- `PCS_PBIT` at 0x0030, spec/03_lane_coding.md R98
def PBIT_LO : Field := ⟨.PCS, 0x30, 0, 32, .RO, 0x0, .val, .PKR, 0, 1, 0, 1, .all⟩
-- `PCS_PBIT` at 0x0034, spec/03_lane_coding.md R98
def PBIT_HI : Field := ⟨.PCS, 0x34, 0, 16, .RO, 0x0, .val, .PKR, 0, 1, 0, 1, .all⟩
-- `PCS_EYE` at 0x0040, spec/03_lane_coding.md R98
def EYE_GO : Field := ⟨.PCS, 0x40, 0, 1, .WO, 0x0, .val, .PKR, 0, 1, 0, 1, .all⟩
def EYE : Field := ⟨.PCS, 0x40, 1, 2, .WO, 0x0, .val, .PKR, 0, 1, 0, 1, .all⟩
def EYE_DWELL : Field := ⟨.PCS, 0x40, 4, 4, .WO, 0x0, .val, .PKR, 0, 1, 0, 1, .all⟩
def EYE_ENTRY : Field := ⟨.PCS, 0x40, 16, 10, .WO, 0x0, .val, .PKR, 0, 1, 0, 1, .all⟩
-- `PCS_EYEBUF` at 0x0044, spec/03_lane_coding.md R98
def EYEBUF_BUF_LO : Field := ⟨.PCS, 0x44, 0, 32, .RW, 0x0, .val, .PKR, 0, 1, 0, 1, .all⟩
-- `PCS_EYEBUF` at 0x0048, spec/03_lane_coding.md R98
def EYEBUF_BUF_HI : Field := ⟨.PCS, 0x48, 0, 16, .RW, 0x0, .val, .PKR, 0, 1, 0, 1, .all⟩
-- `PCS_HIST` at 0x0050, spec/03_lane_coding.md R98
def HIST_EN : Field := ⟨.PCS, 0x50, 0, 1, .RW, 0x0, .val, .PKR, 0, 1, 0, 1, .all⟩
def HIST_FRZ : Field := ⟨.PCS, 0x50, 1, 1, .RW, 0x0, .val, .PKR, 0, 1, 0, 1, .all⟩
def HIST_CLR : Field := ⟨.PCS, 0x50, 2, 1, .WO, 0x0, .val, .PKR, 0, 1, 0, 1, .all⟩
-- `PCS_HBIN` at 0x0080, spec/03_lane_coding.md R98
def HBIN : Field := ⟨.PCS, 0x80, 0, 32, .RO, 0x0, .val, .PKR, 32, 16, 0, 1, .all⟩

/-- The fields of the PCS block. -/
def fields : List Field :=
  [CTRL_EN, CTRL_MODE, CTRL_WIDTH, CTRL_ETHPHY, CTRL_FECBYP, CTRL_AN, CTRL_TPROTO, CTRL_SCRBYP, STAT_BLOCK_LOCK, STAT_ALIGN, STAT_LINK, STAT_CFGERR] ++
  [STAT_LOCKLOST, STAT_HIBER, STAT_AN_DONE, STAT_AN_NOCOMMON, STAT_ADVDROP, STAT_EYEERR, STAT_TRNST, STAT_RES_PHY, ANADV, CNT0_FECCOR, CNT1_FECUNC, CNT2_BADHDR] ++
  [CNT2_LOCKCNT, TRNCFG_TMAX, TRNCFG_PRECREQ, PRBS_GENPAT, PRBS_GENEN, PRBS_CHKPAT, PRBS_CHKEN, PRBS_INJ, PRBS_CLR, PRBSST_SYNC, PRBSST_SAT, PRBSST_SYNCLOST] ++
  [PERR_LO, PERR_HI, PBIT_LO, PBIT_HI, EYE_GO, EYE, EYE_DWELL, EYE_ENTRY, EYEBUF_BUF_LO, EYEBUF_BUF_HI, HIST_EN, HIST_FRZ] ++
  [HIST_CLR, HBIN]

end Sys2Proof.Machine.PCS

namespace Sys2Proof.Machine.CFE

-- `CFE_CTRL` at 0x0000, spec/04_cistern.md R130
def CTRL_EN : Field := ⟨.CFE, 0x0, 0, 1, .RW, 0x0, .val, .PKR, 0, 1, 0, 1, .all⟩
def CTRL_CIST : Field := ⟨.CFE, 0x0, 1, 6, .RW, 0x0, .val, .PKR, 0, 1, 0, 1, .all⟩
def CTRL_SLICE : Field := ⟨.CFE, 0x0, 7, 9, .RW, 0x0, .val, .PKR, 0, 1, 0, 1, (.leq 304)⟩
def CTRL_DEFACC : Field := ⟨.CFE, 0x0, 16, 1, .RW, 0x0, .val, .PKR, 0, 1, 0, 1, .all⟩
def CTRL_SRC : Field := ⟨.CFE, 0x0, 17, 1, .RW, 0x0, .val, .PKR, 0, 1, 0, 1, .all⟩
def CTRL_FLINE : Field := ⟨.CFE, 0x0, 18, 3, .RW, 0x0, .val, .PKR, 0, 1, 0, 1, .all⟩
def CTRL_FLTFCS : Field := ⟨.CFE, 0x0, 21, 1, .RW, 0x0, .val, .PKR, 0, 1, 0, 1, .all⟩
def CTRL_FLTLOCK : Field := ⟨.CFE, 0x0, 22, 1, .RW, 0x0, .val, .PKR, 0, 1, 0, 1, .all⟩
def CTRL_KEEPERR : Field := ⟨.CFE, 0x0, 23, 1, .RW, 0x0, .val, .PKR, 0, 1, 0, 1, .all⟩
-- `CFE_STAT` at 0x0004, spec/04_cistern.md R130
def STAT_CFGERR : Field := ⟨.CFE, 0x4, 0, 1, .RO, 0x0, .val, .PKR, 0, 1, 0, 1, .all⟩
def STAT_SHRDROP : Field := ⟨.CFE, 0x4, 1, 1, .W1C, 0x0, .val, .PKR, 0, 1, 0, 1, .all⟩
def STAT_STGDROP : Field := ⟨.CFE, 0x4, 2, 1, .W1C, 0x0, .val, .PKR, 0, 1, 0, 1, .all⟩
def STAT_GAPPEND : Field := ⟨.CFE, 0x4, 3, 1, .RO, 0x0, .val, .PKR, 0, 1, 0, 1, .all⟩
def STAT_CNTCLR : Field := ⟨.CFE, 0x4, 8, 1, .WO, 0x0, .val, .PKR, 0, 1, 0, 1, .all⟩
-- `CFE_METER` at 0x0008, spec/04_cistern.md R130
def METER_DEPTH : Field := ⟨.CFE, 0x8, 0, 7, .RW, 0x10, .val, .PKR, 0, 1, 0, 1, (.range 10 64)⟩
-- `CFE_SEQ` at 0x000C, spec/04_cistern.md R130
def SEQ : Field := ⟨.CFE, 0xC, 0, 24, .RO, 0x0, .val, .PKR, 0, 1, 0, 1, .all⟩
-- `CFE_FRAMES` at 0x0010, spec/04_cistern.md R130
def FRAMES_LO : Field := ⟨.CFE, 0x10, 0, 32, .RO, 0x0, .val, .PKR, 0, 1, 0, 1, .all⟩
-- `CFE_FRAMES` at 0x0014, spec/04_cistern.md R130
def FRAMES_HI : Field := ⟨.CFE, 0x14, 0, 16, .RO, 0x0, .val, .PKR, 0, 1, 0, 1, .all⟩
-- `CFE_RECS` at 0x0018, spec/04_cistern.md R130
def RECS_LO : Field := ⟨.CFE, 0x18, 0, 32, .RO, 0x0, .val, .PKR, 0, 1, 0, 1, .all⟩
-- `CFE_RECS` at 0x001C, spec/04_cistern.md R130
def RECS_HI : Field := ⟨.CFE, 0x1C, 0, 16, .RO, 0x0, .val, .PKR, 0, 1, 0, 1, .all⟩
-- `CFE_DROPS` at 0x0020, spec/04_cistern.md R130
def DROPS_LO : Field := ⟨.CFE, 0x20, 0, 32, .RO, 0x0, .val, .PKR, 0, 1, 0, 1, .all⟩
-- `CFE_DROPS` at 0x0024, spec/04_cistern.md R130
def DROPS_HI : Field := ⟨.CFE, 0x24, 0, 16, .RO, 0x0, .val, .PKR, 0, 1, 0, 1, .all⟩
-- `CFE_DBYTES` at 0x0028, spec/04_cistern.md R130
def DBYTES_LO : Field := ⟨.CFE, 0x28, 0, 32, .RO, 0x0, .val, .PKR, 0, 1, 0, 1, .all⟩
-- `CFE_DBYTES` at 0x002C, spec/04_cistern.md R130
def DBYTES_HI : Field := ⟨.CFE, 0x2C, 0, 16, .RO, 0x0, .val, .PKR, 0, 1, 0, 1, .all⟩
-- `CFE_SV` at 0x0800, spec/04_cistern.md R130
def SV_VALUE : Field := ⟨.CFE, 0x800, 0, 32, .RW, 0x0, .val, .PKR, 128, 128, 0, 1, .all⟩
-- `CFE_SV` at 0x0804, spec/04_cistern.md R130
def SV_MASK : Field := ⟨.CFE, 0x804, 0, 32, .RW, 0x0, .val, .PKR, 128, 128, 0, 1, .all⟩
-- `CFE_SV` at 0x0808, spec/04_cistern.md R130
def SV_OFFSET : Field := ⟨.CFE, 0x808, 0, 7, .RW, 0x0, .val, .PKR, 128, 128, 0, 1, (.leq 124)⟩
def SV_V : Field := ⟨.CFE, 0x808, 7, 1, .RW, 0x0, .val, .PKR, 128, 128, 0, 1, .all⟩
def SV_LINK : Field := ⟨.CFE, 0x808, 8, 1, .RW, 0x0, .val, .PKR, 128, 128, 0, 1, .all⟩
def SV_DISP : Field := ⟨.CFE, 0x808, 9, 1, .RW, 0x0, .val, .PKR, 128, 128, 0, 1, .all⟩
def SV_FLOAT : Field := ⟨.CFE, 0x808, 10, 1, .RW, 0x0, .val, .PKR, 128, 128, 0, 1, .all⟩
def SV_SLICEOV : Field := ⟨.CFE, 0x808, 16, 9, .RW, 0x1FF, .val, .PKR, 128, 128, 0, 1, .sliceov⟩
-- `CFE_SV` at 0x080C, spec/04_cistern.md R130
def SV_TAG : Field := ⟨.CFE, 0x80C, 0, 32, .RW, 0x0, .val, .PKR, 128, 128, 0, 1, .all⟩

/-- The fields of the CFE block. -/
def fields : List Field :=
  [CTRL_EN, CTRL_CIST, CTRL_SLICE, CTRL_DEFACC, CTRL_SRC, CTRL_FLINE, CTRL_FLTFCS, CTRL_FLTLOCK, CTRL_KEEPERR, STAT_CFGERR, STAT_SHRDROP, STAT_STGDROP] ++
  [STAT_GAPPEND, STAT_CNTCLR, METER_DEPTH, SEQ, FRAMES_LO, FRAMES_HI, RECS_LO, RECS_HI, DROPS_LO, DROPS_HI, DBYTES_LO, DBYTES_HI] ++
  [SV_VALUE, SV_MASK, SV_OFFSET, SV_V, SV_LINK, SV_DISP, SV_FLOAT, SV_SLICEOV, SV_TAG]

end Sys2Proof.Machine.CFE

namespace Sys2Proof.Machine.FUR

-- `FUR_CTRL` at 0x0000, spec/05_furrow.md R154
def CTRL_LOAD : Field := ⟨.FUR, 0x0, 0, 1, .WO, 0x0, .val, .PKR, 0, 1, 0, 1, .all⟩
def CTRL_ARM : Field := ⟨.FUR, 0x0, 1, 1, .WO, 0x0, .val, .PKR, 0, 1, 0, 1, .all⟩
def CTRL_GO : Field := ⟨.FUR, 0x0, 2, 1, .WO, 0x0, .val, .PKR, 0, 1, 0, 1, .all⟩
def CTRL_STOP : Field := ⟨.FUR, 0x0, 3, 1, .WO, 0x0, .val, .PKR, 0, 1, 0, 1, .all⟩
def CTRL_ABORT : Field := ⟨.FUR, 0x0, 4, 1, .WO, 0x0, .val, .PKR, 0, 1, 0, 1, .all⟩
def CTRL_DISARM : Field := ⟨.FUR, 0x0, 5, 1, .WO, 0x0, .val, .PKR, 0, 1, 0, 1, .all⟩
def CTRL_TIMED : Field := ⟨.FUR, 0x0, 8, 1, .RW, 0x0, .val, .PKR, 0, 1, 0, 1, .all⟩
def CTRL_OWN : Field := ⟨.FUR, 0x0, 9, 1, .RW, 0x0, .val, .PKR, 0, 1, 0, 1, .all⟩
-- `FUR_STAT` at 0x0004, spec/05_furrow.md R154
def STAT_STATE : Field := ⟨.FUR, 0x4, 0, 3, .RO, 0x0, .val, .PKR, 0, 1, 0, 1, .all⟩
def STAT_ERR : Field := ⟨.FUR, 0x4, 3, 4, .RO, 0x0, .val, .PKR, 0, 1, 0, 1, .all⟩
def STAT_UNDERRUN : Field := ⟨.FUR, 0x4, 7, 1, .W1C, 0x0, .val, .PKR, 0, 1, 0, 1, .all⟩
def STAT_CMDERR : Field := ⟨.FUR, 0x4, 8, 1, .W1C, 0x0, .val, .PKR, 0, 1, 0, 1, .all⟩
def STAT_INJNA : Field := ⟨.FUR, 0x4, 9, 1, .W1C, 0x0, .val, .PKR, 0, 1, 0, 1, .all⟩
def STAT_WFTO : Field := ⟨.FUR, 0x4, 10, 1, .W1C, 0x0, .val, .PKR, 0, 1, 0, 1, .all⟩
-- `FUR_PF` at 0x0008, spec/05_furrow.md R154
def PF_STARTTH : Field := ⟨.FUR, 0x8, 0, 6, .RW, 0x8, .val, .PKR, 0, 1, 0, 1, (.range 1 32)⟩
-- `FUR_PC` at 0x000C, spec/05_furrow.md R154
def PC : Field := ⟨.FUR, 0xC, 0, 10, .RO, 0x0, .val, .PKR, 0, 1, 0, 1, .all⟩
-- `FUR_PSRC` at 0x0010, spec/05_furrow.md R154
def PSRC_LO : Field := ⟨.FUR, 0x10, 0, 32, .RW, 0x0, .val, .PKR, 0, 1, 0, 1, .all⟩
-- `FUR_PSRC` at 0x0014, spec/05_furrow.md R154
def PSRC_HI : Field := ⟨.FUR, 0x14, 0, 16, .RW, 0x0, .val, .PKR, 0, 1, 0, 1, .all⟩
-- `FUR_PLEN` at 0x0018, spec/05_furrow.md R154
def PLEN : Field := ⟨.FUR, 0x18, 0, 11, .RW, 0x1, .val, .PKR, 0, 1, 0, 1, (.range 1 1024)⟩
-- `FUR_LT` at 0x0020, spec/05_furrow.md R154
def LT_FRAC : Field := ⟨.FUR, 0x20, 0, 16, .RW, 0x0, .val, .PKR, 0, 1, 0, 1, .all⟩
-- `FUR_LT` at 0x0024, spec/05_furrow.md R154
def LT_NS : Field := ⟨.FUR, 0x24, 0, 32, .RW, 0x0, .val, .PKR, 0, 1, 0, 1, (.leq 999999999)⟩
-- `FUR_LT` at 0x0028, spec/05_furrow.md R154
def LT_SEC_LO : Field := ⟨.FUR, 0x28, 0, 32, .RW, 0x0, .val, .PKR, 0, 1, 0, 1, .all⟩
-- `FUR_LT` at 0x002C, spec/05_furrow.md R154
def LT_SEC_HI : Field := ⟨.FUR, 0x2C, 0, 16, .RW, 0x0, .val, .PKR, 0, 1, 0, 1, .all⟩
-- `FUR_FRAMES` at 0x0030, spec/05_furrow.md R154
def FRAMES_LO : Field := ⟨.FUR, 0x30, 0, 32, .RO, 0x0, .val, .PKR, 0, 1, 0, 1, .all⟩
-- `FUR_FRAMES` at 0x0034, spec/05_furrow.md R154
def FRAMES_HI : Field := ⟨.FUR, 0x34, 0, 16, .RO, 0x0, .val, .PKR, 0, 1, 0, 1, .all⟩
-- `FUR_BYTES` at 0x0038, spec/05_furrow.md R154
def BYTES_LO : Field := ⟨.FUR, 0x38, 0, 32, .RO, 0x0, .val, .PKR, 0, 1, 0, 1, .all⟩
-- `FUR_BYTES` at 0x003C, spec/05_furrow.md R154
def BYTES_HI : Field := ⟨.FUR, 0x3C, 0, 16, .RO, 0x0, .val, .PKR, 0, 1, 0, 1, .all⟩
-- `FUR_EVCNT` at 0x0040, spec/05_furrow.md R154
def EVCNT_UNDR : Field := ⟨.FUR, 0x40, 0, 16, .RC, 0x0, .val, .PKR, 0, 1, 0, 1, .all⟩
def EVCNT_BROKEN : Field := ⟨.FUR, 0x40, 16, 16, .RC, 0x0, .val, .PKR, 0, 1, 0, 1, .all⟩
-- `FUR_SKIP` at 0x0044, spec/05_furrow.md R154
def SKIP_INSSKIP : Field := ⟨.FUR, 0x44, 0, 16, .RC, 0x0, .val, .PKR, 0, 1, 0, 1, .all⟩
def SKIP_INJSKIP : Field := ⟨.FUR, 0x44, 16, 16, .RC, 0x0, .val, .PKR, 0, 1, 0, 1, .all⟩
-- `FUR_LC` at 0x0050, spec/05_furrow.md R154
def LC : Field := ⟨.FUR, 0x50, 0, 32, .RO, 0x0, .val, .PKR, 32, 4, 0, 1, .all⟩
-- `FUR_CINIT` at 0x0060, spec/05_furrow.md R154
def CINIT_LO : Field := ⟨.FUR, 0x60, 0, 32, .RW, 0x0, .val, .PKR, 64, 4, 0, 1, .all⟩
-- `FUR_CINIT` at 0x0064, spec/05_furrow.md R154
def CINIT_HI : Field := ⟨.FUR, 0x64, 0, 32, .RW, 0x0, .val, .PKR, 64, 4, 0, 1, .all⟩
-- `FUR_DESC` at 0x0100, spec/05_furrow.md R154
def DESC_BASE_LO : Field := ⟨.FUR, 0x100, 0, 32, .RW, 0x0, .val, .PKR, 128, 16, 0, 1, .all⟩
-- `FUR_DESC` at 0x0104, spec/05_furrow.md R154
def DESC_BASE_HI : Field := ⟨.FUR, 0x104, 0, 16, .RW, 0x0, .val, .PKR, 128, 16, 0, 1, .all⟩
def DESC_KIND : Field := ⟨.FUR, 0x104, 16, 2, .RW, 0x0, .val, .PKR, 128, 16, 0, 1, .all⟩
-- `FUR_DESC` at 0x0108, spec/05_furrow.md R154
def DESC_LEN_LO : Field := ⟨.FUR, 0x108, 0, 32, .RW, 0x0, .val, .PKR, 128, 16, 0, 1, .all⟩
-- `FUR_DESC` at 0x010C, spec/05_furrow.md R154
def DESC_LEN_HI : Field := ⟨.FUR, 0x10C, 0, 4, .RW, 0x0, .val, .PKR, 128, 16, 0, 1, .all⟩

/-- The fields of the FUR block. -/
def fields : List Field :=
  [CTRL_LOAD, CTRL_ARM, CTRL_GO, CTRL_STOP, CTRL_ABORT, CTRL_DISARM, CTRL_TIMED, CTRL_OWN, STAT_STATE, STAT_ERR, STAT_UNDERRUN, STAT_CMDERR] ++
  [STAT_INJNA, STAT_WFTO, PF_STARTTH, PC, PSRC_LO, PSRC_HI, PLEN, LT_FRAC, LT_NS, LT_SEC_LO, LT_SEC_HI, FRAMES_LO] ++
  [FRAMES_HI, BYTES_LO, BYTES_HI, EVCNT_UNDR, EVCNT_BROKEN, SKIP_INSSKIP, SKIP_INJSKIP, LC, CINIT_LO, CINIT_HI, DESC_BASE_LO, DESC_BASE_HI] ++
  [DESC_KIND, DESC_LEN_LO, DESC_LEN_HI]

end Sys2Proof.Machine.FUR

namespace Sys2Proof.Machine.QDR

-- `QDR_CFG` at 0x0000, spec/10_qdr.md R269
def CFG_PRESENT : Field := ⟨.QDR, 0x0, 0, 1, .RW, 0x1, .nv, .FAD, 0, 1, 0, 1, .all⟩
def CFG_FREQ : Field := ⟨.QDR, 0x0, 1, 2, .RW, 0x0, .nv, .FAD, 0, 1, 0, 1, .all⟩
def CFG_RL : Field := ⟨.QDR, 0x0, 3, 4, .RW, 0x8, .nv, .FAD, 0, 1, 0, 1, (.range 4 15)⟩
def CFG_WL : Field := ⟨.QDR, 0x0, 7, 4, .RW, 0x5, .nv, .FAD, 0, 1, 0, 1, (.range 2 7)⟩
def CFG_DINV : Field := ⟨.QDR, 0x0, 11, 1, .RW, 0x0, .nv, .FAD, 0, 1, 0, 1, .all⟩
def CFG_ODT : Field := ⟨.QDR, 0x0, 12, 2, .RW, 0x2, .nv, .FAD, 0, 1, 0, 1, .all⟩
-- `QDR_STAT` at 0x0004, spec/10_qdr.md R269
def STAT_STATE : Field := ⟨.QDR, 0x4, 0, 3, .RO, 0x0, .val, .PKR, 0, 1, 0, 1, .all⟩
def STAT_FAIL : Field := ⟨.QDR, 0x4, 3, 4, .RO, 0x0, .val, .PKR, 0, 1, 0, 1, .all⟩
-- `QDR_SLOTA` at 0x0008, spec/10_qdr.md R269
def SLOTA : Field := ⟨.QDR, 0x8, 0, 32, .RW, 0x0, .val, .PKR, 0, 1, 0, 1, .slots⟩
-- `QDR_SLOTB` at 0x000C, spec/10_qdr.md R269
def SLOTB : Field := ⟨.QDR, 0xC, 0, 32, .RW, 0x0, .val, .PKR, 0, 1, 0, 1, .slots⟩
-- `QDR_ACCA` at 0x0010, spec/10_qdr.md R269
def ACCA_LO : Field := ⟨.QDR, 0x10, 0, 32, .RO, 0x0, .val, .PKR, 0, 1, 0, 1, .all⟩
-- `QDR_ACCA` at 0x0014, spec/10_qdr.md R269
def ACCA_HI : Field := ⟨.QDR, 0x14, 0, 16, .RO, 0x0, .val, .PKR, 0, 1, 0, 1, .all⟩
-- `QDR_ACCB` at 0x0018, spec/10_qdr.md R269
def ACCB_LO : Field := ⟨.QDR, 0x18, 0, 32, .RO, 0x0, .val, .PKR, 0, 1, 0, 1, .all⟩
-- `QDR_ACCB` at 0x001C, spec/10_qdr.md R269
def ACCB_HI : Field := ⟨.QDR, 0x1C, 0, 16, .RO, 0x0, .val, .PKR, 0, 1, 0, 1, .all⟩
-- `QDR_STFUR` at 0x0020, spec/10_qdr.md R269
def STFUR : Field := ⟨.QDR, 0x20, 0, 32, .RC, 0x0, .val, .PKR, 0, 1, 0, 1, .all⟩
-- `QDR_STFAB` at 0x0024, spec/10_qdr.md R269
def STFAB : Field := ⟨.QDR, 0x24, 0, 32, .RC, 0x0, .val, .PKR, 0, 1, 0, 1, .all⟩
-- `QDR_STCNL` at 0x0028, spec/10_qdr.md R269
def STCNL : Field := ⟨.QDR, 0x28, 0, 32, .RC, 0x0, .val, .PKR, 0, 1, 0, 1, .all⟩
-- `QDR_TURN` at 0x002C, spec/10_qdr.md R269
def TURN : Field := ⟨.QDR, 0x2C, 0, 32, .RC, 0x0, .val, .PKR, 0, 1, 0, 1, .all⟩
-- `QDR_FRZ` at 0x0030, spec/10_qdr.md R269
def FRZ_PORT : Field := ⟨.QDR, 0x30, 0, 1, .RO, 0x0, .val, .PKR, 0, 1, 0, 1, .all⟩
def FRZ_OP : Field := ⟨.QDR, 0x30, 1, 1, .RO, 0x0, .val, .PKR, 0, 1, 0, 1, .all⟩
def FRZ_CLIENT : Field := ⟨.QDR, 0x30, 2, 2, .RO, 0x0, .val, .PKR, 0, 1, 0, 1, .all⟩
def FRZ_ADDR : Field := ⟨.QDR, 0x30, 4, 22, .RO, 0x0, .val, .PKR, 0, 1, 0, 1, .all⟩
def FRZ_VALID : Field := ⟨.QDR, 0x30, 31, 1, .RO, 0x0, .val, .PKR, 0, 1, 0, 1, .all⟩
-- `QDR_FRZ_TS` at 0x0034, spec/10_qdr.md R269
def FRZ_TS_FRAC : Field := ⟨.QDR, 0x34, 0, 16, .RO, 0x0, .val, .PKR, 0, 1, 0, 1, .all⟩
-- `QDR_FRZ_TS` at 0x0038, spec/10_qdr.md R269
def FRZ_TS_NS : Field := ⟨.QDR, 0x38, 0, 32, .RO, 0x0, .val, .PKR, 0, 1, 0, 1, .all⟩
-- `QDR_FRZ_TS` at 0x003C, spec/10_qdr.md R269
def FRZ_TS_SECLO : Field := ⟨.QDR, 0x3C, 0, 32, .RO, 0x0, .val, .PKR, 0, 1, 0, 1, .all⟩
-- `QDR_FRZ_TS` at 0x0040, spec/10_qdr.md R269
def FRZ_TS_SECHI : Field := ⟨.QDR, 0x40, 0, 16, .RO, 0x0, .val, .PKR, 0, 1, 0, 1, .all⟩
-- `QDR_POISCNT` at 0x0044, spec/10_qdr.md R269
def POISCNT : Field := ⟨.QDR, 0x44, 0, 32, .RO, 0x0, .val, .PKR, 0, 1, 0, 1, .all⟩
-- `QDR_TRES` at 0x0050, spec/10_qdr.md R269
def TRES_RXEYEA : Field := ⟨.QDR, 0x50, 0, 8, .RO, 0x0, .val, .PKR, 0, 1, 0, 1, .all⟩
def TRES_TXEYEA : Field := ⟨.QDR, 0x50, 8, 8, .RO, 0x0, .val, .PKR, 0, 1, 0, 1, .all⟩
def TRES_RXEYEB : Field := ⟨.QDR, 0x50, 16, 8, .RO, 0x0, .val, .PKR, 0, 1, 0, 1, .all⟩
def TRES_TXEYEB : Field := ⟨.QDR, 0x50, 24, 8, .RO, 0x0, .val, .PKR, 0, 1, 0, 1, .all⟩

/-- The fields of the QDR block. -/
def fields : List Field :=
  [CFG_PRESENT, CFG_FREQ, CFG_RL, CFG_WL, CFG_DINV, CFG_ODT, STAT_STATE, STAT_FAIL, SLOTA, SLOTB, ACCA_LO, ACCA_HI] ++
  [ACCB_LO, ACCB_HI, STFUR, STFAB, STCNL, TURN, FRZ_PORT, FRZ_OP, FRZ_CLIENT, FRZ_ADDR, FRZ_VALID, FRZ_TS_FRAC] ++
  [FRZ_TS_NS, FRZ_TS_SECLO, FRZ_TS_SECHI, POISCNT, TRES_RXEYEA, TRES_TXEYEA, TRES_RXEYEB, TRES_TXEYEB]

end Sys2Proof.Machine.QDR

namespace Sys2Proof.Machine.RSV

-- `RSV_CTRL` at 0x0000, spec/13_basins_reservoirs.md R346
def CTRL_LOCK : Field := ⟨.RSV, 0x0, 0, 1, .W1S, 0x0, .val, .FAD, 0, 1, 0, 1, .all⟩
-- `RSV_STAT` at 0x0004, spec/13_basins_reservoirs.md R346
def STAT_VIOL : Field := ⟨.RSV, 0x4, 0, 1, .W1C, 0x0, .val, .FAD, 0, 1, 0, 1, .all⟩
def STAT_WLOST : Field := ⟨.RSV, 0x4, 1, 1, .W1C, 0x0, .val, .FAD, 0, 1, 0, 1, .all⟩
-- `RSV_VIOLCNT` at 0x0008, spec/13_basins_reservoirs.md R346
def VIOLCNT : Field := ⟨.RSV, 0x8, 0, 32, .RC, 0x0, .val, .FAD, 0, 1, 0, 1, .all⟩
-- `RSV_ELOG0` at 0x0010, spec/13_basins_reservoirs.md R346
def ELOG0_OFS : Field := ⟨.RSV, 0x10, 0, 22, .RO, 0x0, .val, .FAD, 0, 1, 0, 1, .all⟩
def ELOG0_KIND : Field := ⟨.RSV, 0x10, 22, 2, .RO, 0x0, .val, .FAD, 0, 1, 0, 1, .all⟩
def ELOG0_PORT : Field := ⟨.RSV, 0x10, 24, 3, .RO, 0x0, .val, .FAD, 0, 1, 0, 1, .all⟩
def ELOG0_VALID : Field := ⟨.RSV, 0x10, 31, 1, .W1C, 0x0, .val, .FAD, 0, 1, 0, 1, .all⟩
-- `RSV_ELOG1` at 0x0014, spec/13_basins_reservoirs.md R346
def ELOG1_SRC : Field := ⟨.RSV, 0x14, 0, 12, .RO, 0x0, .val, .FAD, 0, 1, 0, 1, .all⟩
-- `RSV_PCFG` at 0x0020, spec/13_basins_reservoirs.md R346
def PCFG_ROT : Field := ⟨.RSV, 0x20, 0, 1, .RWL, 0x0, .val, .FAD, 32, 8, 0, 1, .all⟩
-- `RSV_STALL` at 0x0040, spec/13_basins_reservoirs.md R346
def STALL : Field := ⟨.RSV, 0x40, 0, 32, .RC, 0x0, .val, .FAD, 32, 8, 0, 1, .all⟩
-- `RSV_PCNT` at 0x0060, spec/13_basins_reservoirs.md R346
def PCNT_WLOST : Field := ⟨.RSV, 0x60, 0, 16, .RC, 0x0, .val, .FAD, 32, 8, 0, 1, .all⟩
def PCNT_SCFAIL : Field := ⟨.RSV, 0x60, 16, 16, .RC, 0x0, .val, .FAD, 32, 8, 0, 1, .all⟩
-- `RSV_RGN` at 0x0400, spec/13_basins_reservoirs.md R346
def RGN_BASE : Field := ⟨.RSV, 0x400, 8, 14, .RWL, 0x0, .val, .FAD, 2048, 8, 128, 8, .all⟩
-- `RSV_RGN` at 0x0404, spec/13_basins_reservoirs.md R346
def RGN_LIMIT : Field := ⟨.RSV, 0x404, 8, 14, .RWL, 0x3FFF, .region0, .FAD, 2048, 8, 128, 8, .all⟩
-- `RSV_RGN` at 0x0408, spec/13_basins_reservoirs.md R346
def RGN_V : Field := ⟨.RSV, 0x408, 0, 1, .RWL, 0x1, .region0, .FAD, 2048, 8, 128, 8, .all⟩
def RGN_R : Field := ⟨.RSV, 0x408, 1, 1, .RWL, 0x1, .region0, .FAD, 2048, 8, 128, 8, .all⟩
def RGN_W : Field := ⟨.RSV, 0x408, 2, 1, .RWL, 0x1, .region0, .FAD, 2048, 8, 128, 8, .all⟩
def RGN_XN : Field := ⟨.RSV, 0x408, 3, 1, .RWL, 0x0, .val, .FAD, 2048, 8, 128, 8, .all⟩

/-- The fields of the RSV block. -/
def fields : List Field :=
  [CTRL_LOCK, STAT_VIOL, STAT_WLOST, VIOLCNT, ELOG0_OFS, ELOG0_KIND, ELOG0_PORT, ELOG0_VALID, ELOG1_SRC, PCFG_ROT, STALL, PCNT_WLOST] ++
  [PCNT_SCFAIL, RGN_BASE, RGN_LIMIT, RGN_V, RGN_R, RGN_W, RGN_XN]

end Sys2Proof.Machine.RSV

namespace Sys2Proof.Machine.RIL

-- `RIL_CSTAT` at 0x0000, spec/14_rill_engine.md R368
def CSTAT_RUN : Field := ⟨.RIL, 0x0, 0, 8, .RO, 0x0, .val, .FAD, 0, 1, 0, 1, .all⟩
def CSTAT_FAULT : Field := ⟨.RIL, 0x0, 8, 8, .RO, 0x0, .val, .FAD, 0, 1, 0, 1, .all⟩
def CSTAT_CLKOFF : Field := ⟨.RIL, 0x0, 16, 1, .RO, 0x0, .val, .FAD, 0, 1, 0, 1, .all⟩
-- `RIL_PLSRC` at 0x0010, spec/14_rill_engine.md R368
def PLSRC_OFFSET : Field := ⟨.RIL, 0x10, 3, 19, .RW, 0x0, .val, .FAD, 0, 1, 0, 1, .all⟩
def PLSRC_RSV : Field := ⟨.RIL, 0x10, 22, 2, .RW, 0x0, .val, .FAD, 0, 1, 0, 1, .all⟩
-- `RIL_PLCMD` at 0x0014, spec/14_rill_engine.md R368
def PLCMD_GO : Field := ⟨.RIL, 0x14, 0, 1, .WO, 0x0, .val, .FAD, 0, 1, 0, 1, .all⟩
def PLCMD_ENG : Field := ⟨.RIL, 0x14, 1, 3, .RW, 0x0, .val, .FAD, 0, 1, 0, 1, .all⟩
def PLCMD_COUNT : Field := ⟨.RIL, 0x14, 8, 8, .RW, 0x0, .val, .FAD, 0, 1, 0, 1, .all⟩
def PLCMD_DEST : Field := ⟨.RIL, 0x14, 16, 8, .RW, 0x0, .val, .FAD, 0, 1, 0, 1, .all⟩
def PLCMD_BUSY : Field := ⟨.RIL, 0x14, 24, 1, .RO, 0x0, .val, .FAD, 0, 1, 0, 1, .all⟩
def PLCMD_PLERR : Field := ⟨.RIL, 0x14, 25, 1, .W1C, 0x0, .val, .FAD, 0, 1, 0, 1, .all⟩
-- `RIL_ECTRL` at 0x0100, spec/14_rill_engine.md R368
def ECTRL_START : Field := ⟨.RIL, 0x100, 0, 1, .WO, 0x0, .val, .FAD, 1024, 8, 0, 1, .all⟩
def ECTRL_ENR : Field := ⟨.RIL, 0x100, 1, 1, .WO, 0x0, .val, .FAD, 1024, 8, 0, 1, .all⟩
def ECTRL_ENTRY : Field := ⟨.RIL, 0x100, 16, 15, .RW, 0x0, .val, .FAD, 1024, 8, 0, 1, .all⟩
-- `RIL_ESTAT` at 0x0104, spec/14_rill_engine.md R368
def ESTAT_STATE : Field := ⟨.RIL, 0x104, 0, 3, .RO, 0x0, .val, .FAD, 1024, 8, 0, 1, .all⟩
def ESTAT_CMDERR : Field := ⟨.RIL, 0x104, 3, 1, .W1C, 0x0, .val, .FAD, 1024, 8, 0, 1, .all⟩
def ESTAT_CAUSE : Field := ⟨.RIL, 0x104, 4, 4, .RO, 0x0, .val, .ENR, 1024, 8, 0, 1, .all⟩
def ESTAT_WEDGED : Field := ⟨.RIL, 0x104, 8, 1, .RO, 0x0, .val, .PKR, 1024, 8, 0, 1, .all⟩
-- `RIL_EPC` at 0x0108, spec/14_rill_engine.md R368
def EPC : Field := ⟨.RIL, 0x108, 0, 15, .RO, 0x0, .val, .ENR, 1024, 8, 0, 1, .all⟩
-- `RIL_EST` at 0x010C, spec/14_rill_engine.md R368
def EST : Field := ⟨.RIL, 0x10C, 0, 32, .RO, 0x0, .val, .ENR, 1024, 8, 0, 1, .all⟩
-- `RIL_EBE` at 0x0110, spec/14_rill_engine.md R368
def EBE : Field := ⟨.RIL, 0x110, 0, 5, .RO, 0x1F, .val, .ENR, 1024, 8, 0, 1, .all⟩
-- `RIL_WDRL` at 0x0114, spec/14_rill_engine.md R368
def WDRL_RELOAD : Field := ⟨.RIL, 0x114, 0, 24, .RW, 0xFFFFFF, .val, .FAD, 1024, 8, 0, 1, (.geq 1)⟩
def WDRL_WDEN : Field := ⟨.RIL, 0x114, 31, 1, .RW, 0x0, .val, .FAD, 1024, 8, 0, 1, .all⟩
-- `RIL_WDCNT` at 0x0118, spec/14_rill_engine.md R368
def WDCNT : Field := ⟨.RIL, 0x118, 0, 24, .RO, 0x0, .val, .ENR, 1024, 8, 0, 1, .all⟩
-- `RIL_ECNT` at 0x011C, spec/14_rill_engine.md R368
def ECNT_XYSTALL : Field := ⟨.RIL, 0x11C, 0, 16, .RC, 0x0, .val, .FAD, 1024, 8, 0, 1, .all⟩
-- `RIL_CYC` at 0x0120, spec/14_rill_engine.md R368
def CYC_LO : Field := ⟨.RIL, 0x120, 0, 32, .RO, 0x0, .val, .ENR, 1024, 8, 0, 1, .all⟩
-- `RIL_CYC` at 0x0124, spec/14_rill_engine.md R368
def CYC_HI : Field := ⟨.RIL, 0x124, 0, 16, .RO, 0x0, .val, .ENR, 1024, 8, 0, 1, .all⟩
-- `RIL_FADDR` at 0x0128, spec/14_rill_engine.md R368
def FADDR_LO : Field := ⟨.RIL, 0x128, 0, 32, .RO, 0x0, .val, .ENR, 1024, 8, 0, 1, .all⟩
-- `RIL_FADDR` at 0x012C, spec/14_rill_engine.md R368
def FADDR_HI : Field := ⟨.RIL, 0x12C, 0, 16, .RO, 0x0, .val, .ENR, 1024, 8, 0, 1, .all⟩

/-- The fields of the RIL block. -/
def fields : List Field :=
  [CSTAT_RUN, CSTAT_FAULT, CSTAT_CLKOFF, PLSRC_OFFSET, PLSRC_RSV, PLCMD_GO, PLCMD_ENG, PLCMD_COUNT, PLCMD_DEST, PLCMD_BUSY, PLCMD_PLERR, ECTRL_START] ++
  [ECTRL_ENR, ECTRL_ENTRY, ESTAT_STATE, ESTAT_CMDERR, ESTAT_CAUSE, ESTAT_WEDGED, EPC, EST, EBE, WDRL_RELOAD, WDRL_WDEN, WDCNT] ++
  [ECNT_XYSTALL, CYC_LO, CYC_HI, FADDR_LO, FADDR_HI]

end Sys2Proof.Machine.RIL

namespace Sys2Proof.Machine.FCC

-- `FCC_STAT` at 0x0000, spec/17_configuration.md R433
def STAT_PHASE : Field := ⟨.FCC, 0x0, 0, 4, .RO, 0x0, .val, .PKR, 0, 1, 0, 1, .all⟩
def STAT_IMGERR : Field := ⟨.FCC, 0x0, 4, 8, .RO, 0x0, .val, .PKR, 0, 1, 0, 1, .all⟩
def STAT_SLOT : Field := ⟨.FCC, 0x0, 12, 1, .RO, 0x0, .val, .PKR, 0, 1, 0, 1, .all⟩
def STAT_SETDEF : Field := ⟨.FCC, 0x0, 13, 1, .RO, 0x0, .val, .PKR, 0, 1, 0, 1, .all⟩
def STAT_LOCKLATE : Field := ⟨.FCC, 0x0, 14, 1, .W1C, 0x0, .val, .PKR, 0, 1, 0, 1, .all⟩
def STAT_PCMDERR : Field := ⟨.FCC, 0x0, 15, 1, .W1C, 0x0, .val, .PKR, 0, 1, 0, 1, .all⟩
-- `FCC_STEP` at 0x0004, spec/17_configuration.md R433
def STEP_DONE : Field := ⟨.FCC, 0x4, 0, 4, .RO, 0x0, .val, .PKR, 0, 1, 0, 1, .all⟩
def STEP_ORDER : Field := ⟨.FCC, 0x4, 8, 8, .RO, 0x0, .image, .PKR, 0, 1, 0, 1, .all⟩
-- `FCC_IMGVER` at 0x0008, spec/17_configuration.md R433
def IMGVER : Field := ⟨.FCC, 0x8, 0, 32, .RO, 0x0, .image, .PKR, 0, 1, 0, 1, .all⟩
-- `FCC_SCHEMA` at 0x000C, spec/17_configuration.md R433
def SCHEMA : Field := ⟨.FCC, 0xC, 0, 16, .RO, 0x0, .image, .PKR, 0, 1, 0, 1, .all⟩
def SCHEMA_SETSCHEMA : Field := ⟨.FCC, 0xC, 16, 16, .RO, 0x0, .val, .PKR, 0, 1, 0, 1, .all⟩
-- `FCC_SETCNT` at 0x0010, spec/17_configuration.md R433
def SETCNT_APPLIED : Field := ⟨.FCC, 0x10, 0, 16, .RO, 0x0, .val, .PKR, 0, 1, 0, 1, .all⟩
def SETCNT_IGNORED : Field := ⟨.FCC, 0x10, 16, 16, .RO, 0x0, .val, .PKR, 0, 1, 0, 1, .all⟩
-- `FCC_LOADT` at 0x0014, spec/17_configuration.md R433
def LOADT_LOADUS : Field := ⟨.FCC, 0x14, 0, 16, .RO, 0x0, .val, .PKR, 0, 1, 0, 1, .all⟩
-- `FCC_PCMD` at 0x0020, spec/17_configuration.md R433
def PCMD_GO : Field := ⟨.FCC, 0x20, 0, 1, .WO, 0x0, .val, .PKR, 0, 1, 0, 1, .all⟩
def PCMD_PARCEL : Field := ⟨.FCC, 0x20, 1, 4, .WO, 0x0, .val, .PKR, 0, 1, 0, 1, .all⟩
def PCMD_SRC : Field := ⟨.FCC, 0x20, 5, 4, .WO, 0x0, .val, .PKR, 0, 1, 0, 1, .all⟩
def PCMD_ENTRY : Field := ⟨.FCC, 0x20, 16, 10, .WO, 0x0, .val, .PKR, 0, 1, 0, 1, .all⟩
-- `FCC_PSTAT` at 0x0040, spec/17_configuration.md R433
def PSTAT_STATE : Field := ⟨.FCC, 0x40, 0, 2, .RO, 0x0, .val, .PKR, 32, 12, 0, 1, .all⟩
def PSTAT_SRC : Field := ⟨.FCC, 0x40, 2, 4, .RO, 0xF, .val, .PKR, 32, 12, 0, 1, .all⟩
def PSTAT_SWAPS : Field := ⟨.FCC, 0x40, 16, 16, .RO, 0x0, .val, .PKR, 32, 12, 0, 1, .all⟩
-- `FCC_PVER` at 0x0080, spec/17_configuration.md R433
def PVER : Field := ⟨.FCC, 0x80, 0, 32, .RO, 0x0, .image, .PKR, 32, 12, 0, 1, .all⟩
-- `FCC_SLOT` at 0x00C0, spec/17_configuration.md R433
def SLOT_PARCEL : Field := ⟨.FCC, 0xC0, 0, 4, .RO, 0x0, .fixed, .PKR, 32, 12, 0, 1, .all⟩
def SLOT_VALID : Field := ⟨.FCC, 0xC0, 4, 1, .RO, 0x0, .fixed, .PKR, 32, 12, 0, 1, .all⟩
-- `FCC_SVER` at 0x0100, spec/17_configuration.md R433
def SVER : Field := ⟨.FCC, 0x100, 0, 32, .RO, 0x0, .fixed, .PKR, 32, 12, 0, 1, .all⟩

/-- The fields of the FCC block. -/
def fields : List Field :=
  [STAT_PHASE, STAT_IMGERR, STAT_SLOT, STAT_SETDEF, STAT_LOCKLATE, STAT_PCMDERR, STEP_DONE, STEP_ORDER, IMGVER, SCHEMA, SCHEMA_SETSCHEMA, SETCNT_APPLIED] ++
  [SETCNT_IGNORED, LOADT_LOADUS, PCMD_GO, PCMD_PARCEL, PCMD_SRC, PCMD_ENTRY, PSTAT_STATE, PSTAT_SRC, PSTAT_SWAPS, PVER, SLOT_PARCEL, SLOT_VALID] ++
  [SVER]

end Sys2Proof.Machine.FCC

namespace Sys2Proof.Machine.DRF

-- `DRF_CTRL` at 0x0000, spec/11_ecc.md R292
def CTRL_AUTOINIT : Field := ⟨.DRF, 0x0, 0, 1, .RW, 0x1, .nv, .FAD, 0, 1, 0, 1, .all⟩
-- `DRF_STAT` at 0x0004, spec/11_ecc.md R292
def STAT_INITDONE : Field := ⟨.DRF, 0x4, 0, 1, .RO, 0x0, .val, .FAD, 0, 1, 0, 1, .all⟩
def STAT_RPERR : Field := ⟨.DRF, 0x4, 1, 1, .W1C, 0x0, .val, .FAD, 0, 1, 0, 1, .all⟩
def STAT_REGERR : Field := ⟨.DRF, 0x4, 2, 1, .W1C, 0x0, .val, .FAD, 0, 1, 0, 1, .all⟩
def STAT_TMRFAIL : Field := ⟨.DRF, 0x4, 3, 1, .W1C, 0x0, .val, .FAD, 0, 1, 0, 1, .all⟩
def STAT_RQDROP : Field := ⟨.DRF, 0x4, 4, 1, .W1C, 0x0, .val, .FAD, 0, 1, 0, 1, .all⟩
-- `DRF_TMR` at 0x0008, spec/11_ecc.md R292
def TMR_VOTES : Field := ⟨.DRF, 0x8, 0, 16, .RC, 0x0, .val, .FAD, 0, 1, 0, 1, .all⟩
def TMR_LASTOFS : Field := ⟨.DRF, 0x8, 16, 16, .RO, 0x0, .val, .FAD, 0, 1, 0, 1, .all⟩
-- `DRF_RPBASE` at 0x0010, spec/11_ecc.md R292
def RPBASE_LO : Field := ⟨.DRF, 0x10, 0, 32, .RW, 0x0, .val, .FAD, 0, 1, 0, 1, .all⟩
-- `DRF_RPBASE` at 0x0014, spec/11_ecc.md R292
def RPBASE_HI : Field := ⟨.DRF, 0x14, 0, 16, .RW, 0x0, .val, .FAD, 0, 1, 0, 1, .all⟩
-- `DRF_RPLEN` at 0x0018, spec/11_ecc.md R292
def RPLEN_LO : Field := ⟨.DRF, 0x18, 0, 32, .RW, 0x0, .val, .FAD, 0, 1, 0, 1, .all⟩
-- `DRF_RPLEN` at 0x001C, spec/11_ecc.md R292
def RPLEN_HI : Field := ⟨.DRF, 0x1C, 0, 16, .RW, 0x0, .val, .FAD, 0, 1, 0, 1, .all⟩
-- `DRF_RP` at 0x0020, spec/11_ecc.md R292
def RP_GO : Field := ⟨.DRF, 0x20, 0, 1, .WO, 0x0, .val, .FAD, 0, 1, 0, 1, .all⟩
def RP_MODE : Field := ⟨.DRF, 0x20, 1, 2, .WO, 0x0, .val, .FAD, 0, 1, 0, 1, .all⟩
def RP_MEM : Field := ⟨.DRF, 0x20, 3, 2, .WO, 0x0, .val, .FAD, 0, 1, 0, 1, .all⟩
def RP_ENTRY : Field := ⟨.DRF, 0x20, 16, 10, .WO, 0x0, .val, .FAD, 0, 1, 0, 1, .all⟩
-- `DRF_MC` at 0x0040, spec/11_ecc.md R292
def MC_RDCORR : Field := ⟨.DRF, 0x40, 0, 32, .RC, 0x0, .val, .FAD, 128, 6, 0, 1, .all⟩
-- `DRF_MC` at 0x0044, spec/11_ecc.md R292
def MC_RDUNC : Field := ⟨.DRF, 0x44, 0, 32, .RC, 0x0, .val, .FAD, 128, 6, 0, 1, .all⟩
-- `DRF_MC` at 0x0048, spec/11_ecc.md R292
def MC_PWMERGE : Field := ⟨.DRF, 0x48, 0, 32, .RC, 0x0, .val, .FAD, 128, 6, 0, 1, .all⟩
-- `DRF_MC` at 0x004C, spec/11_ecc.md R292
def MC_PWREF : Field := ⟨.DRF, 0x4C, 0, 32, .RC, 0x0, .val, .FAD, 128, 6, 0, 1, .all⟩
-- `DRF_ELOG0` at 0x00A0, spec/11_ecc.md R292
def ELOG0_DPA_LO : Field := ⟨.DRF, 0xA0, 0, 32, .RO, 0x0, .val, .FAD, 0, 1, 0, 1, .all⟩
-- `DRF_ELOG1` at 0x00A4, spec/11_ecc.md R292
def ELOG1_DPA_HI : Field := ⟨.DRF, 0xA4, 0, 16, .RO, 0x0, .val, .FAD, 0, 1, 0, 1, .all⟩
def ELOG1_SRC : Field := ⟨.DRF, 0xA4, 16, 12, .RO, 0x0, .val, .FAD, 0, 1, 0, 1, .all⟩
def ELOG1_KIND : Field := ⟨.DRF, 0xA4, 28, 3, .RO, 0x0, .val, .FAD, 0, 1, 0, 1, .all⟩
def ELOG1_VALID : Field := ⟨.DRF, 0xA4, 31, 1, .W1C, 0x0, .val, .FAD, 0, 1, 0, 1, .all⟩
-- `DRF_TS` at 0x00A8, spec/11_ecc.md R292
def TS_FRAC : Field := ⟨.DRF, 0xA8, 0, 16, .RO, 0x0, .val, .FAD, 0, 1, 0, 1, .all⟩
-- `DRF_TS` at 0x00AC, spec/11_ecc.md R292
def TS_NS : Field := ⟨.DRF, 0xAC, 0, 32, .RO, 0x0, .val, .FAD, 0, 1, 0, 1, .all⟩
-- `DRF_TS` at 0x00B0, spec/11_ecc.md R292
def TS_SECLO : Field := ⟨.DRF, 0xB0, 0, 32, .RO, 0x0, .val, .FAD, 0, 1, 0, 1, .all⟩
-- `DRF_TS` at 0x00B4, spec/11_ecc.md R292
def TS_SECHI : Field := ⟨.DRF, 0xB4, 0, 16, .RO, 0x0, .val, .FAD, 0, 1, 0, 1, .all⟩
-- `DRF_FM` at 0x0100, spec/11_ecc.md R292
def FM_DATA_LO : Field := ⟨.DRF, 0x100, 0, 32, .RW, 0x0, .val, .FAD, 256, 6, 0, 1, .all⟩
-- `DRF_FM` at 0x0104, spec/11_ecc.md R292
def FM_DATA_HI : Field := ⟨.DRF, 0x104, 0, 32, .RW, 0x0, .val, .FAD, 256, 6, 0, 1, .all⟩
-- `DRF_FM` at 0x0108, spec/11_ecc.md R292
def FM_CHK : Field := ⟨.DRF, 0x108, 0, 15, .RW, 0x0, .val, .FAD, 256, 6, 0, 1, .all⟩
def FM_ARM : Field := ⟨.DRF, 0x108, 16, 1, .RW, 0x0, .val, .FAD, 256, 6, 0, 1, .all⟩
def FM_MATCH : Field := ⟨.DRF, 0x108, 17, 1, .RW, 0x0, .val, .FAD, 256, 6, 0, 1, .all⟩
-- `DRF_FM` at 0x010C, spec/11_ecc.md R292
def FM_ADDR_LO : Field := ⟨.DRF, 0x10C, 0, 32, .RW, 0x0, .val, .FAD, 256, 6, 0, 1, .all⟩
-- `DRF_FM` at 0x0110, spec/11_ecc.md R292
def FM_ADDR_HI : Field := ⟨.DRF, 0x110, 0, 16, .RW, 0x0, .val, .FAD, 256, 6, 0, 1, .all⟩
-- `DRF_WK` at 0x0200, spec/11_ecc.md R292
def WK_EN : Field := ⟨.DRF, 0x200, 0, 1, .RW, 0x1, .nv, .FAD, 512, 3, 0, 1, .all⟩
def WK_MODE : Field := ⟨.DRF, 0x200, 1, 1, .RW, 0x1, .nv, .FAD, 512, 3, 0, 1, .all⟩
def WK_ADAPT : Field := ⟨.DRF, 0x200, 2, 1, .RW, 0x1, .nv, .FAD, 512, 3, 0, 1, .all⟩
-- `DRF_WK` at 0x0204, spec/11_ecc.md R292
def WK_IVAL : Field := ⟨.DRF, 0x204, 0, 32, .RW, 0x3E8, .nv, .FAD, 512, 3, 0, 1, (.geq 1)⟩
-- `DRF_WK` at 0x0208, spec/11_ecc.md R292
def WK_PASS : Field := ⟨.DRF, 0x208, 0, 32, .RW, 0x15180, .nv, .FAD, 512, 3, 0, 1, (.geq 1)⟩
-- `DRF_WK` at 0x020C, spec/11_ecc.md R292
def WK_CEIL : Field := ⟨.DRF, 0x20C, 0, 32, .RW, 0x2, .nv, .FAD, 512, 3, 0, 1, (.geq 1)⟩
-- `DRF_WK` at 0x0210, spec/11_ecc.md R292
def WK_RAISETHR : Field := ⟨.DRF, 0x210, 0, 16, .RW, 0x40, .nv, .FAD, 512, 3, 0, 1, (.geq 4)⟩
-- `DRF_WK` at 0x0214, spec/11_ecc.md R292
def WK_CUR : Field := ⟨.DRF, 0x214, 0, 32, .RO, 0x0, .val, .FAD, 512, 3, 0, 1, .all⟩
-- `DRF_WK` at 0x0218, spec/11_ecc.md R292
def WK_POS_LO : Field := ⟨.DRF, 0x218, 0, 32, .RO, 0x0, .val, .FAD, 512, 3, 0, 1, .all⟩
-- `DRF_WK` at 0x021C, spec/11_ecc.md R292
def WK_POS_HI : Field := ⟨.DRF, 0x21C, 0, 16, .RO, 0x0, .val, .FAD, 512, 3, 0, 1, .all⟩
-- `DRF_WK` at 0x0220, spec/11_ecc.md R292
def WK_PASSES : Field := ⟨.DRF, 0x220, 0, 32, .RO, 0x0, .val, .FAD, 512, 3, 0, 1, .all⟩
-- `DRF_WK` at 0x0224, spec/11_ecc.md R292
def WK_CORR : Field := ⟨.DRF, 0x224, 0, 32, .RC, 0x0, .val, .FAD, 512, 3, 0, 1, .all⟩
-- `DRF_WK` at 0x0228, spec/11_ecc.md R292
def WK_UNC : Field := ⟨.DRF, 0x228, 0, 32, .RC, 0x0, .val, .FAD, 512, 3, 0, 1, .all⟩
-- `DRF_WK` at 0x022C, spec/11_ecc.md R292
def WK_POIS : Field := ⟨.DRF, 0x22C, 0, 32, .RC, 0x0, .val, .FAD, 512, 3, 0, 1, .all⟩
-- `DRF_WK` at 0x0230, spec/11_ecc.md R292
def WK_RAISED : Field := ⟨.DRF, 0x230, 0, 16, .RC, 0x0, .val, .FAD, 512, 3, 0, 1, .all⟩
-- `DRF_FS` at 0x02C4, spec/11_ecc.md R292
def FS_IVAL : Field := ⟨.DRF, 0x2C4, 0, 16, .RW, 0x64, .nv, .FAD, 0, 1, 0, 1, (.range 20 65535)⟩
-- `DRF_FS` at 0x02D4, spec/11_ecc.md R292
def FS_CUR : Field := ⟨.DRF, 0x2D4, 0, 32, .RO, 0x0, .val, .FAD, 0, 1, 0, 1, .all⟩
-- `DRF_FS` at 0x02D8, spec/11_ecc.md R292
def FS_POS : Field := ⟨.DRF, 0x2D8, 0, 18, .RO, 0x0, .val, .FAD, 0, 1, 0, 1, .all⟩
-- `DRF_FS` at 0x02E0, spec/11_ecc.md R292
def FS_PASSES : Field := ⟨.DRF, 0x2E0, 0, 32, .RO, 0x0, .val, .FAD, 0, 1, 0, 1, .all⟩
-- `DRF_FS` at 0x02E4, spec/11_ecc.md R292
def FS_CORRFR : Field := ⟨.DRF, 0x2E4, 0, 32, .RC, 0x0, .val, .FAD, 0, 1, 0, 1, .all⟩
-- `DRF_FS` at 0x02E8, spec/11_ecc.md R292
def FS_UNCFR : Field := ⟨.DRF, 0x2E8, 0, 32, .RC, 0x0, .val, .FAD, 0, 1, 0, 1, .all⟩
-- `DRF_FS` at 0x02EC, spec/11_ecc.md R292
def FS_UNCPARCEL : Field := ⟨.DRF, 0x2EC, 0, 13, .W1C, 0x0, .val, .FAD, 0, 1, 0, 1, .all⟩
-- `DRF_FS` at 0x02F0, spec/11_ecc.md R292
def FS_FIRSTUNC : Field := ⟨.DRF, 0x2F0, 0, 18, .RO, 0x0, .val, .FAD, 0, 1, 0, 1, .all⟩
def FS_VALID : Field := ⟨.DRF, 0x2F0, 31, 1, .W1C, 0x0, .val, .FAD, 0, 1, 0, 1, .all⟩
-- `DRF_RTBL` at 0x1000, spec/11_ecc.md R292
def RTBL_CODE : Field := ⟨.DRF, 0x1000, 0, 2, .RW, 0x1, .nv, .FAD, 4, 256, 0, 1, (.leq 2)⟩
def RTBL_STATE : Field := ⟨.DRF, 0x1000, 2, 2, .RO, 0x0, .val, .FAD, 4, 256, 0, 1, .all⟩
-- `DRF_QTBL` at 0x1100, spec/11_ecc.md R292
def QTBL_CODE : Field := ⟨.DRF, 0x1100, 0, 2, .RW, 0x1, .nv, .FAD, 4, 32, 0, 1, (.leq 1)⟩
def QTBL_STATE : Field := ⟨.DRF, 0x1100, 2, 2, .RO, 0x0, .val, .FAD, 4, 32, 0, 1, .all⟩

/-- The fields of the DRF block. -/
def fields : List Field :=
  [CTRL_AUTOINIT, STAT_INITDONE, STAT_RPERR, STAT_REGERR, STAT_TMRFAIL, STAT_RQDROP, TMR_VOTES, TMR_LASTOFS, RPBASE_LO, RPBASE_HI, RPLEN_LO, RPLEN_HI] ++
  [RP_GO, RP_MODE, RP_MEM, RP_ENTRY, MC_RDCORR, MC_RDUNC, MC_PWMERGE, MC_PWREF, ELOG0_DPA_LO, ELOG1_DPA_HI, ELOG1_SRC, ELOG1_KIND] ++
  [ELOG1_VALID, TS_FRAC, TS_NS, TS_SECLO, TS_SECHI, FM_DATA_LO, FM_DATA_HI, FM_CHK, FM_ARM, FM_MATCH, FM_ADDR_LO, FM_ADDR_HI] ++
  [WK_EN, WK_MODE, WK_ADAPT, WK_IVAL, WK_PASS, WK_CEIL, WK_RAISETHR, WK_CUR, WK_POS_LO, WK_POS_HI, WK_PASSES, WK_CORR] ++
  [WK_UNC, WK_POIS, WK_RAISED, FS_IVAL, FS_CUR, FS_POS, FS_PASSES, FS_CORRFR, FS_UNCFR, FS_UNCPARCEL, FS_FIRSTUNC, FS_VALID] ++
  [RTBL_CODE, RTBL_STATE, QTBL_CODE, QTBL_STATE]

end Sys2Proof.Machine.DRF

namespace Sys2Proof.Machine.FPW

-- `FPW_DON` at 0x0000, spec/20_power_reset.md R514
def DON : Field := ⟨.FPW, 0x0, 0, 20, .RO, 0x0, .val, .FAD, 0, 1, 0, 1, .all⟩
-- `FPW_GATE` at 0x0004, spec/20_power_reset.md R514
def GATE_QOFF : Field := ⟨.FPW, 0x4, 0, 4, .RO, 0x0, .val, .FAD, 0, 1, 0, 1, .all⟩
def GATE_COFF : Field := ⟨.FPW, 0x4, 4, 4, .RO, 0x0, .val, .FAD, 0, 1, 0, 1, .all⟩
-- `FPW_BGATE` at 0x0008, spec/20_power_reset.md R514
def BGATE_BOFF_LO : Field := ⟨.FPW, 0x8, 0, 32, .RO, 0x0, .val, .FAD, 0, 1, 0, 1, .all⟩
-- `FPW_BGATE` at 0x000C, spec/20_power_reset.md R514
def BGATE_BOFF_HI : Field := ⟨.FPW, 0xC, 0, 32, .RO, 0x0, .val, .FAD, 0, 1, 0, 1, .all⟩
-- `FPW_TEMP` at 0x0010, spec/20_power_reset.md R514
def TEMP : Field := ⟨.FPW, 0x10, 0, 8, .RO, 0x0, .val, .FAD, 32, 4, 0, 1, .all⟩
def TEMP_PEAK : Field := ⟨.FPW, 0x10, 8, 8, .RC, 0x0, .val, .FAD, 32, 4, 0, 1, .all⟩
-- `FPW_CLK` at 0x0020, spec/20_power_reset.md R514
def CLK_ADPLOCK : Field := ⟨.FPW, 0x20, 0, 1, .RO, 0x0, .val, .FAD, 0, 1, 0, 1, .all⟩
def CLK_RSVLOCK : Field := ⟨.FPW, 0x20, 1, 1, .RO, 0x0, .val, .FAD, 0, 1, 0, 1, .all⟩
def CLK_RILLOCK : Field := ⟨.FPW, 0x20, 2, 4, .RO, 0x0, .val, .FAD, 0, 1, 0, 1, .all⟩
def CLK_LOST : Field := ⟨.FPW, 0x20, 8, 1, .W1C, 0x0, .val, .FAD, 0, 1, 0, 1, .all⟩
-- `FPW_SUPV` at 0x0030, spec/20_power_reset.md R514
def SUPV_MV : Field := ⟨.FPW, 0x30, 0, 16, .RO, 0x0, .val, .FAD, 32, 5, 0, 1, .all⟩
def SUPV_CUR : Field := ⟨.FPW, 0x30, 16, 16, .RO, 0x0, .val, .FAD, 32, 5, 0, 1, .all⟩
-- `FPW_WAKE` at 0x0050, spec/20_power_reset.md R514
def WAKE_QWAKE : Field := ⟨.FPW, 0x50, 0, 16, .RC, 0x0, .val, .FAD, 0, 1, 0, 1, .all⟩
def WAKE_CWAKE : Field := ⟨.FPW, 0x50, 16, 16, .RC, 0x0, .val, .FAD, 0, 1, 0, 1, .all⟩

/-- The fields of the FPW block. -/
def fields : List Field :=
  [DON, GATE_QOFF, GATE_COFF, BGATE_BOFF_LO, BGATE_BOFF_HI, TEMP, TEMP_PEAK, CLK_ADPLOCK, CLK_RSVLOCK, CLK_RILLOCK, CLK_LOST, SUPV_MV] ++
  [SUPV_CUR, WAKE_QWAKE, WAKE_CWAKE]

end Sys2Proof.Machine.FPW

namespace Sys2Proof.Machine.FDB

-- `FDB_STAT` at 0x0000, spec/19_debug.md R487
def STAT_DUERR : Field := ⟨.FDB, 0x0, 0, 1, .W1C, 0x0, .val, .FAD, 0, 1, 0, 1, .all⟩
def STAT_HCMDERR : Field := ⟨.FDB, 0x0, 1, 1, .W1C, 0x0, .val, .FAD, 0, 1, 0, 1, .all⟩
-- `FDB_HCMD` at 0x0010, spec/19_debug.md R487
def HCMD_HALT : Field := ⟨.FDB, 0x10, 0, 8, .WO, 0x0, .val, .FAD, 32, 4, 0, 1, .all⟩
def HCMD_RESUME : Field := ⟨.FDB, 0x10, 8, 8, .WO, 0x0, .val, .FAD, 32, 4, 0, 1, .all⟩
def HCMD_STEP : Field := ⟨.FDB, 0x10, 16, 8, .WO, 0x0, .val, .FAD, 32, 4, 0, 1, .all⟩
-- `FDB_PEEKA` at 0x0020, spec/19_debug.md R487
def PEEKA : Field := ⟨.FDB, 0x20, 0, 24, .RW, 0x0, .val, .FAD, 0, 1, 0, 1, .all⟩
-- `FDB_PEEKD` at 0x0024, spec/19_debug.md R487
def PEEKD : Field := ⟨.FDB, 0x24, 0, 32, .RO, 0x0, .val, .FAD, 0, 1, 0, 1, .all⟩
-- `FDB_PSTAT` at 0x0028, spec/19_debug.md R487
def PSTAT_NOPEEK : Field := ⟨.FDB, 0x28, 0, 1, .W1C, 0x0, .val, .FAD, 0, 1, 0, 1, .all⟩
-- `FDB_TBASE` at 0x0100, spec/19_debug.md R487
def TBASE_LO : Field := ⟨.FDB, 0x100, 0, 32, .RW, 0x0, .val, .FAD, 0, 1, 0, 1, .all⟩
-- `FDB_TBASE` at 0x0104, spec/19_debug.md R487
def TBASE_HI : Field := ⟨.FDB, 0x104, 0, 16, .RW, 0x0, .val, .FAD, 0, 1, 0, 1, .all⟩
-- `FDB_TCFG` at 0x0108, spec/19_debug.md R487
def TCFG_EN : Field := ⟨.FDB, 0x108, 0, 1, .RW, 0x0, .val, .FAD, 0, 1, 0, 1, .all⟩
def TCFG_WRAP : Field := ⟨.FDB, 0x108, 1, 1, .RW, 0x0, .val, .FAD, 0, 1, 0, 1, .all⟩
def TCFG_LOG2 : Field := ⟨.FDB, 0x108, 2, 6, .RW, 0x14, .val, .FAD, 0, 1, 0, 1, (.range 20 34)⟩
-- `FDB_TSTAT` at 0x010C, spec/19_debug.md R487
def TSTAT_STATE : Field := ⟨.FDB, 0x10C, 0, 2, .RO, 0x0, .val, .FAD, 0, 1, 0, 1, .all⟩
-- `FDB_TWPTR` at 0x0110, spec/19_debug.md R487
def TWPTR_WPTR_LO : Field := ⟨.FDB, 0x110, 0, 32, .RO, 0x0, .val, .FAD, 0, 1, 0, 1, .all⟩
-- `FDB_TWPTR` at 0x0114, spec/19_debug.md R487
def TWPTR_WPTR_HI : Field := ⟨.FDB, 0x114, 0, 2, .RO, 0x0, .val, .FAD, 0, 1, 0, 1, .all⟩
-- `FDB_TDROP` at 0x0118, spec/19_debug.md R487
def TDROP : Field := ⟨.FDB, 0x118, 0, 32, .RC, 0x0, .val, .FAD, 0, 1, 0, 1, .all⟩
-- `FDB_DU` at 0x0400, spec/19_debug.md R487
def DU_EN : Field := ⟨.FDB, 0x400, 0, 1, .RW, 0x0, .val, .FAD, 1024, 4, 128, 8, .all⟩
def DU_MODE : Field := ⟨.FDB, 0x400, 1, 1, .RW, 0x0, .image, .FAD, 1024, 4, 128, 8, .all⟩
def DU_ENG : Field := ⟨.FDB, 0x400, 2, 3, .RW, 0x0, .val, .FAD, 1024, 4, 128, 8, .all⟩
def DU_KIND : Field := ⟨.FDB, 0x400, 5, 3, .RW, 0x0, .val, .FAD, 1024, 4, 128, 8, (.leq 5)⟩
def DU_HALT : Field := ⟨.FDB, 0x400, 8, 1, .RW, 0x0, .val, .FAD, 1024, 4, 128, 8, .all⟩
def DU_TRACE : Field := ⟨.FDB, 0x400, 9, 1, .RW, 0x0, .val, .FAD, 1024, 4, 128, 8, .all⟩
def DU_DCEN : Field := ⟨.FDB, 0x400, 10, 1, .RW, 0x0, .val, .FAD, 1024, 4, 128, 8, .all⟩
-- `FDB_DU` at 0x0404, spec/19_debug.md R487
def DU_ADDR : Field := ⟨.FDB, 0x404, 0, 15, .RW, 0x0, .val, .FAD, 1024, 4, 128, 8, .all⟩
-- `FDB_DU` at 0x0408, spec/19_debug.md R487
def DU_MASK : Field := ⟨.FDB, 0x408, 0, 15, .RW, 0x7FFF, .val, .FAD, 1024, 4, 128, 8, .all⟩
-- `FDB_DU` at 0x040C, spec/19_debug.md R487
def DU_DATA : Field := ⟨.FDB, 0x40C, 0, 32, .RW, 0x0, .val, .FAD, 1024, 4, 128, 8, .all⟩
-- `FDB_SP` at 0x8000, spec/19_debug.md R487
def SP : Field := ⟨.FDB, 0x8000, 0, 32, .WO, 0x0, .val, .FAD, 1024, 32, 32, 32, .all⟩

/-- The fields of the FDB block. -/
def fields : List Field :=
  [STAT_DUERR, STAT_HCMDERR, HCMD_HALT, HCMD_RESUME, HCMD_STEP, PEEKA, PEEKD, PSTAT_NOPEEK, TBASE_LO, TBASE_HI, TCFG_EN, TCFG_WRAP] ++
  [TCFG_LOG2, TSTAT_STATE, TWPTR_WPTR_LO, TWPTR_WPTR_HI, TDROP, DU_EN, DU_MODE, DU_ENG, DU_KIND, DU_HALT, DU_TRACE, DU_DCEN] ++
  [DU_ADDR, DU_MASK, DU_DATA, SP]

end Sys2Proof.Machine.FDB

namespace Sys2Proof.Machine.FTS

-- `FTS_STAT` at 0x0000, spec/06_time.md R172
def STAT_LOCK : Field := ⟨.FTS, 0x0, 0, 1, .RO, 0x0, .val, .FAD, 0, 1, 0, 1, .all⟩
def STAT_LOCKLOST : Field := ⟨.FTS, 0x0, 1, 1, .W1C, 0x0, .val, .FAD, 0, 1, 0, 1, .all⟩
def STAT_TDRIFT : Field := ⟨.FTS, 0x0, 2, 1, .RO, 0x0, .val, .FAD, 0, 1, 0, 1, .all⟩
def STAT_CALDONE : Field := ⟨.FTS, 0x0, 3, 1, .RO, 0x0, .val, .FAD, 0, 1, 0, 1, .all⟩
def STAT_CALERR : Field := ⟨.FTS, 0x0, 4, 1, .W1C, 0x0, .val, .FAD, 0, 1, 0, 1, .all⟩
-- `FTS_OFFS` at 0x0004, spec/06_time.md R172
def OFFS : Field := ⟨.FTS, 0x4, 0, 32, .RO, 0x0, .val, .FAD, 0, 1, 0, 1, .all⟩
-- `FTS_LDLY` at 0x0008, spec/06_time.md R172
def LDLY : Field := ⟨.FTS, 0x8, 0, 32, .RO, 0x0, .val, .FAD, 0, 1, 0, 1, .all⟩
-- `FTS_CAL` at 0x000C, spec/06_time.md R172
def CAL_GO : Field := ⟨.FTS, 0xC, 0, 1, .WO, 0x0, .val, .FAD, 0, 1, 0, 1, .all⟩
def CAL_ENTRY : Field := ⟨.FTS, 0xC, 16, 10, .WO, 0x0, .val, .FAD, 0, 1, 0, 1, .all⟩
-- `FTS_CALTEMP` at 0x0010, spec/06_time.md R172
def CALTEMP : Field := ⟨.FTS, 0x10, 0, 8, .RO, 0x0, .val, .FAD, 0, 1, 0, 1, .all⟩
-- `FTS_RD` at 0x0020, spec/06_time.md R172
def RD_FRAC : Field := ⟨.FTS, 0x20, 0, 16, .RSE, 0x0, .val, .FAD, 0, 1, 0, 1, .all⟩
-- `FTS_RD` at 0x0024, spec/06_time.md R172
def RD_NS : Field := ⟨.FTS, 0x24, 0, 32, .RO, 0x0, .val, .FAD, 0, 1, 0, 1, .all⟩
-- `FTS_RD` at 0x0028, spec/06_time.md R172
def RD_SECLO : Field := ⟨.FTS, 0x28, 0, 32, .RO, 0x0, .val, .FAD, 0, 1, 0, 1, .all⟩
-- `FTS_RD` at 0x002C, spec/06_time.md R172
def RD_SECHI : Field := ⟨.FTS, 0x2C, 0, 16, .RO, 0x0, .val, .FAD, 0, 1, 0, 1, .all⟩
-- `FTS_FABOFS` at 0x0040, spec/06_time.md R172
def FABOFS : Field := ⟨.FTS, 0x40, 0, 16, .RW, 0x0, .nv, .FAD, 0, 1, 0, 1, .all⟩
-- `FTS_TXOFS` at 0x0080, spec/06_time.md R172
def TXOFS : Field := ⟨.FTS, 0x80, 0, 16, .RW, 0x0, .nv, .FAD, 64, 16, 0, 1, .all⟩
-- `FTS_RXOFS` at 0x0084, spec/06_time.md R172
def RXOFS : Field := ⟨.FTS, 0x84, 0, 16, .RW, 0x0, .nv, .FAD, 64, 16, 0, 1, .all⟩

/-- The fields of the FTS block. -/
def fields : List Field :=
  [STAT_LOCK, STAT_LOCKLOST, STAT_TDRIFT, STAT_CALDONE, STAT_CALERR, OFFS, LDLY, CAL_GO, CAL_ENTRY, CALTEMP, RD_FRAC, RD_NS] ++
  [RD_SECLO, RD_SECHI, FABOFS, TXOFS, RXOFS]

end Sys2Proof.Machine.FTS
end

