-- ==== Sys2Proof/Machine/RegsHeadworks.lean ====
section
/-! DEFINITION. The register fields of the Headworks window (R34) and of the host channel. One definition per field, from the register tables of spec/; one list per block. -/

namespace Sys2Proof.Machine.GLB

-- `GLB_ID` at 0x0000, spec/01_package_architecture.md R47
def ID_HREV : Field := ⟨.GLB, 0x0, 0, 4, .RO, 0x4, .fixed, .POR, 0, 1, 0, 1, .all⟩
def ID_PART : Field := ⟨.GLB, 0x0, 8, 8, .RO, 0x8, .val, .POR, 0, 1, 0, 1, .all⟩
def ID_FAMILY : Field := ⟨.GLB, 0x0, 16, 16, .RO, 0xD8A, .val, .POR, 0, 1, 0, 1, .all⟩
-- `GLB_PART` at 0x0004, spec/01_package_architecture.md R47
def PART_FPRES : Field := ⟨.GLB, 0x4, 0, 8, .RO, 0x0, .rollCall, .PKR, 0, 1, 0, 1, .all⟩
def PART_TPRES : Field := ⟨.GLB, 0x4, 8, 2, .RO, 0x0, .rollCall, .PKR, 0, 1, 0, 1, .all⟩
def PART_GRADE : Field := ⟨.GLB, 0x4, 12, 2, .RO, 0x3, .fixed, .POR, 0, 1, 0, 1, .all⟩
def PART_TEMP : Field := ⟨.GLB, 0x4, 14, 1, .RO, 0x1, .fixed, .POR, 0, 1, 0, 1, .all⟩
-- `GLB_FREV` at 0x0008, spec/01_package_architecture.md R47
def FREV : Field := ⟨.GLB, 0x8, 0, 32, .RO, 0x0, .rollCall, .PKR, 0, 1, 0, 1, .all⟩
-- `GLB_AVAIL` at 0x000C, spec/01_package_architecture.md R47
def AVAIL_FREADY : Field := ⟨.GLB, 0xC, 0, 8, .RO, 0x0, .val, .PKR, 0, 1, 0, 1, .all⟩
def AVAIL_FFENCED : Field := ⟨.GLB, 0xC, 8, 8, .RO, 0x0, .val, .PKR, 0, 1, 0, 1, .all⟩
def AVAIL_HBMTRN : Field := ⟨.GLB, 0xC, 16, 4, .RO, 0x0, .val, .PKR, 0, 1, 0, 1, .all⟩
def AVAIL_HBMUP : Field := ⟨.GLB, 0xC, 20, 1, .RO, 0x0, .val, .PKR, 0, 1, 0, 1, .all⟩
def AVAIL_TPSYNC : Field := ⟨.GLB, 0xC, 21, 1, .RO, 0x0, .val, .PKR, 0, 1, 0, 1, .all⟩
def AVAIL_TRDY : Field := ⟨.GLB, 0xC, 22, 2, .RO, 0x0, .val, .PKR, 0, 1, 0, 1, .all⟩
def AVAIL_QDRUP : Field := ⟨.GLB, 0xC, 24, 8, .RO, 0x0, .val, .PKR, 0, 1, 0, 1, .all⟩
-- `GLB_SERV` at 0x0010, spec/01_package_architecture.md R47
def SERV_STATE : Field := ⟨.GLB, 0x10, 0, 2, .RO, 0x0, .val, .PKR, 0, 1, 0, 1, .all⟩
-- `GLB_SERIAL` at 0x0014, spec/01_package_architecture.md R47
def SERIAL_LO : Field := ⟨.GLB, 0x14, 0, 32, .RO, 0x0, .fixed, .POR, 0, 1, 0, 1, .all⟩
-- `GLB_SERIAL` at 0x0018, spec/01_package_architecture.md R47
def SERIAL_HI : Field := ⟨.GLB, 0x18, 0, 32, .RO, 0x0, .fixed, .POR, 0, 1, 0, 1, .all⟩
-- `GLB_SCRATCH` at 0x001C, spec/01_package_architecture.md R47
def SCRATCH : Field := ⟨.GLB, 0x1C, 0, 32, .RW, 0x0, .val, .PKR, 0, 1, 0, 1, .all⟩

/-- The fields of the GLB block. -/
def fields : List Field :=
  [ID_HREV, ID_PART, ID_FAMILY, PART_FPRES, PART_TPRES, PART_GRADE, PART_TEMP, FREV, AVAIL_FREADY, AVAIL_FFENCED, AVAIL_HBMTRN, AVAIL_HBMUP] ++
  [AVAIL_TPSYNC, AVAIL_TRDY, AVAIL_QDRUP, SERV_STATE, SERIAL_LO, SERIAL_HI, SCRATCH]

end Sys2Proof.Machine.GLB

namespace Sys2Proof.Machine.CNL

-- `CNL_CTRL` at 0x0000, spec/07_canal.md R204
def CTRL_CNTCLR : Field := ⟨.CNL, 0x0, 0, 1, .WO, 0x0, .val, .PKR, 0, 1, 0, 1, .all⟩
-- `CNL_STAT` at 0x0004, spec/07_canal.md R204
def STAT_HDRCOR : Field := ⟨.CNL, 0x4, 0, 1, .W1C, 0x0, .val, .PKR, 0, 1, 0, 1, .all⟩
def STAT_HDRUNC : Field := ⟨.CNL, 0x4, 1, 1, .W1C, 0x0, .val, .PKR, 0, 1, 0, 1, .all⟩
def STAT_AUDITFIX : Field := ⟨.CNL, 0x4, 2, 1, .W1C, 0x0, .val, .PKR, 0, 1, 0, 1, .all⟩
def STAT_PWDROP : Field := ⟨.CNL, 0x4, 3, 1, .W1C, 0x0, .val, .PKR, 0, 1, 0, 1, .all⟩
-- `CNL_ECNT` at 0x0008, spec/07_canal.md R204
def ECNT_HDRCOR : Field := ⟨.CNL, 0x8, 0, 16, .RC, 0x0, .val, .PKR, 0, 1, 0, 1, .all⟩
def ECNT_HDRUNC : Field := ⟨.CNL, 0x8, 16, 16, .RC, 0x0, .val, .PKR, 0, 1, 0, 1, .all⟩
-- `CNL_PWDROP` at 0x000C, spec/07_canal.md R204
def PWDROP : Field := ⟨.CNL, 0xC, 0, 32, .RC, 0x0, .val, .PKR, 0, 1, 0, 1, .all⟩
-- `CNL_ELOG0` at 0x0010, spec/07_canal.md R204
def ELOG0_SRC : Field := ⟨.CNL, 0x10, 0, 12, .RO, 0x0, .val, .PKR, 0, 1, 0, 1, .all⟩
def ELOG0_PORT : Field := ⟨.CNL, 0x10, 12, 8, .RO, 0x0, .val, .PKR, 0, 1, 0, 1, .all⟩
def ELOG0_VC : Field := ⟨.CNL, 0x10, 20, 2, .RO, 0x0, .val, .PKR, 0, 1, 0, 1, .all⟩
def ELOG0_KIND : Field := ⟨.CNL, 0x10, 22, 3, .RO, 0x0, .val, .PKR, 0, 1, 0, 1, .all⟩
-- `CNL_ELOG1` at 0x0014, spec/07_canal.md R204
def ELOG1_ADDR_LO : Field := ⟨.CNL, 0x14, 0, 32, .RO, 0x0, .val, .PKR, 0, 1, 0, 1, .all⟩
-- `CNL_ELOG2` at 0x0018, spec/07_canal.md R204
def ELOG2_ADDR_HI : Field := ⟨.CNL, 0x18, 0, 16, .RO, 0x0, .val, .PKR, 0, 1, 0, 1, .all⟩
def ELOG2_VALID : Field := ⟨.CNL, 0x18, 31, 1, .W1C, 0x0, .val, .PKR, 0, 1, 0, 1, .all⟩
-- `CNL_FLITS` at 0x1000, spec/07_canal.md R204
def FLITS_LO : Field := ⟨.CNL, 0x1000, 0, 32, .RO, 0x0, .val, .PKR, 256, 177, 0, 1, .all⟩
-- `CNL_FLITS` at 0x1004, spec/07_canal.md R204
def FLITS_HI : Field := ⟨.CNL, 0x1004, 0, 16, .RO, 0x0, .val, .PKR, 256, 177, 0, 1, .all⟩
-- `CNL_BE` at 0x1008, spec/07_canal.md R204
def BE_LO : Field := ⟨.CNL, 0x1008, 0, 32, .RO, 0x0, .val, .PKR, 256, 177, 0, 1, .all⟩
-- `CNL_BE` at 0x100C, spec/07_canal.md R204
def BE_HI : Field := ⟨.CNL, 0x100C, 0, 16, .RO, 0x0, .val, .PKR, 256, 177, 0, 1, .all⟩
-- `CNL_STALL` at 0x1010, spec/07_canal.md R204
def STALL : Field := ⟨.CNL, 0x1010, 0, 32, .RC, 0x0, .val, .PKR, 256, 177, 0, 1, .all⟩
-- `CNL_CREDIT` at 0x1014, spec/07_canal.md R204
def CREDIT_CRD_REQ : Field := ⟨.CNL, 0x1014, 0, 8, .RO, 0x30, .val, .PKR, 256, 177, 0, 1, .all⟩
def CREDIT_CRD_RSP : Field := ⟨.CNL, 0x1014, 8, 8, .RO, 0x60, .val, .PKR, 256, 177, 0, 1, .all⟩
def CREDIT_CRD_POST : Field := ⟨.CNL, 0x1014, 16, 8, .RO, 0x60, .val, .PKR, 256, 177, 0, 1, .all⟩
def CREDIT_CRD_MGT : Field := ⟨.CNL, 0x1014, 24, 8, .RO, 0x8, .val, .PKR, 256, 177, 0, 1, .all⟩
-- `CNL_AUDCNT` at 0x1018, spec/07_canal.md R204
def AUDCNT : Field := ⟨.CNL, 0x1018, 0, 16, .RC, 0x0, .val, .PKR, 256, 177, 0, 1, .all⟩

/-- The fields of the CNL block. -/
def fields : List Field :=
  [CTRL_CNTCLR, STAT_HDRCOR, STAT_HDRUNC, STAT_AUDITFIX, STAT_PWDROP, ECNT_HDRCOR, ECNT_HDRUNC, PWDROP, ELOG0_SRC, ELOG0_PORT, ELOG0_VC, ELOG0_KIND] ++
  [ELOG1_ADDR_LO, ELOG2_ADDR_HI, ELOG2_VALID, FLITS_LO, FLITS_HI, BE_LO, BE_HI, STALL, CREDIT_CRD_REQ, CREDIT_CRD_RSP, CREDIT_CRD_POST, CREDIT_CRD_MGT] ++
  [AUDCNT]

end Sys2Proof.Machine.CNL

namespace Sys2Proof.Machine.SHR

-- `SHR_STAT` at 0x0000, spec/07_canal.md R205
def STAT_OVERCOMMIT : Field := ⟨.SHR, 0x0, 0, 1, .W1C, 0x0, .val, .PKR, 0, 1, 0, 1, .all⟩
def STAT_MAPERR : Field := ⟨.SHR, 0x0, 1, 1, .W1C, 0x0, .val, .PKR, 0, 1, 0, 1, .all⟩
def STAT_OCPORT : Field := ⟨.SHR, 0x0, 8, 8, .RO, 0x0, .val, .PKR, 0, 1, 0, 1, .all⟩
def STAT_OCSRC : Field := ⟨.SHR, 0x0, 16, 2, .RO, 0x0, .val, .PKR, 0, 1, 0, 1, .all⟩
-- `SHR_DMIN` at 0x0004, spec/07_canal.md R205
def DMIN : Field := ⟨.SHR, 0x4, 0, 9, .RO, 0x0, .val, .PKR, 0, 1, 0, 1, .all⟩
-- `SHR_LSUM` at 0x0008, spec/07_canal.md R205
def LSUM : Field := ⟨.SHR, 0x8, 0, 14, .RO, 0x0, .val, .PKR, 0, 1, 0, 1, .all⟩
-- `SHR_FREE` at 0x0400, spec/07_canal.md R205
def FREE : Field := ⟨.SHR, 0x400, 0, 9, .RO, 0x100, .val, .PKR, 32, 177, 0, 1, .all⟩
-- `SHR_TBL` at 0x1000, spec/07_canal.md R205
def TBL_SHA : Field := ⟨.SHR, 0x1000, 0, 9, .RW, 0x0, .val, .PKR, 512, 177, 32, 16, (.leq 256)⟩
def TBL_SHB : Field := ⟨.SHR, 0x1000, 16, 9, .RW, 0x0, .val, .PKR, 512, 177, 32, 16, (.leq 256)⟩
-- `SHR_UPL` at 0x4000, spec/07_canal.md R205
def UPL_SHA : Field := ⟨.SHR, 0x4000, 0, 9, .RW, 0x0, .val, .PKR, 512, 8, 32, 16, (.leq 256)⟩
def UPL_SHB : Field := ⟨.SHR, 0x4000, 16, 9, .RW, 0x0, .val, .PKR, 512, 8, 32, 16, (.leq 256)⟩
-- `SHR_MAP` at 0x8000, spec/07_canal.md R205
def MAP : Field := ⟨.SHR, 0x8000, 0, 5, .RW, 0x0, .val, .PKR, 2048, 11, 8, 256, .all⟩

/-- The fields of the SHR block. -/
def fields : List Field :=
  [STAT_OVERCOMMIT, STAT_MAPERR, STAT_OCPORT, STAT_OCSRC, DMIN, LSUM, FREE, TBL_SHA, TBL_SHB, UPL_SHA, UPL_SHB, MAP]

end Sys2Proof.Machine.SHR

namespace Sys2Proof.Machine.TRK

-- `TRK_CTRL` at 0x0000, spec/07_canal.md R206
def CTRL_CTO : Field := ⟨.TRK, 0x0, 0, 10, .RW, 0xA, .val, .PKR, 0, 1, 0, 1, (.range 1 1000)⟩
-- `TRK_STAT` at 0x0004, spec/07_canal.md R206
def STAT_INUSE : Field := ⟨.TRK, 0x4, 0, 19, .RO, 0x0, .val, .PKR, 0, 1, 0, 1, .all⟩
def STAT_WALK : Field := ⟨.TRK, 0x4, 19, 1, .RO, 0x0, .val, .PKR, 0, 1, 0, 1, .all⟩
def STAT_WALKDIE : Field := ⟨.TRK, 0x4, 20, 4, .RO, 0x0, .val, .PKR, 0, 1, 0, 1, .all⟩
def STAT_QERR : Field := ⟨.TRK, 0x4, 24, 1, .W1C, 0x0, .val, .PKR, 0, 1, 0, 1, .all⟩
-- `TRK_FREE` at 0x0008, spec/07_canal.md R206
def FREE : Field := ⟨.TRK, 0x8, 0, 19, .RO, 0x40000, .val, .PKR, 0, 1, 0, 1, .all⟩
-- `TRK_HWM` at 0x000C, spec/07_canal.md R206
def HWM : Field := ⟨.TRK, 0xC, 0, 19, .RC, 0x0, .val, .PKR, 0, 1, 0, 1, .all⟩
-- `TRK_TOCNT` at 0x0010, spec/07_canal.md R206
def TOCNT : Field := ⟨.TRK, 0x10, 0, 32, .RC, 0x0, .val, .PKR, 0, 1, 0, 1, .all⟩
-- `TRK_LATE` at 0x0014, spec/07_canal.md R206
def LATE : Field := ⟨.TRK, 0x14, 0, 32, .RC, 0x0, .val, .PKR, 0, 1, 0, 1, .all⟩
-- `TRK_SYNTH` at 0x0018, spec/07_canal.md R206
def SYNTH : Field := ⟨.TRK, 0x18, 0, 32, .RC, 0x0, .val, .PKR, 0, 1, 0, 1, .all⟩
-- `TRK_QUOTA` at 0x0100, spec/07_canal.md R206
def QUOTA : Field := ⟨.TRK, 0x100, 0, 19, .RW, 0x7000, .quota, .PKR, 32, 11, 0, 1, .all⟩
-- `TRK_USED` at 0x0140, spec/07_canal.md R206
def USED : Field := ⟨.TRK, 0x140, 0, 19, .RO, 0x0, .val, .PKR, 32, 11, 0, 1, .all⟩

/-- The fields of the TRK block. -/
def fields : List Field :=
  [CTRL_CTO, STAT_INUSE, STAT_WALK, STAT_WALKDIE, STAT_QERR, FREE, HWM, TOCNT, LATE, SYNTH, QUOTA, USED]

end Sys2Proof.Machine.TRK

namespace Sys2Proof.Machine.FLH

-- `FLH_RC` at 0x0000, spec/08_flume.md R231
def RC_STATUS : Field := ⟨.FLH, 0x0, 0, 4, .RO, 0x0, .rollCall, .PKR, 0, 1, 0, 1, .all⟩
def RC_FAIL : Field := ⟨.FLH, 0x0, 4, 8, .RO, 0x0, .val, .PKR, 0, 1, 0, 1, .all⟩
def RC_IMGERR : Field := ⟨.FLH, 0x0, 12, 8, .RO, 0x0, .val, .PKR, 0, 1, 0, 1, .all⟩
def RC_DTYPE : Field := ⟨.FLH, 0x0, 20, 4, .RO, 0x0, .rollCall, .PKR, 0, 1, 0, 1, .all⟩
def RC_REV : Field := ⟨.FLH, 0x0, 24, 4, .RO, 0x0, .rollCall, .PKR, 0, 1, 0, 1, .all⟩
-- `FLH_CTRL` at 0x0004, spec/08_flume.md R231
def CTRL_FENCE : Field := ⟨.FLH, 0x4, 0, 1, .W1S, 0x0, .val, .PKR, 0, 1, 0, 1, .all⟩
-- `FLH_SERIAL` at 0x0008, spec/08_flume.md R231
def SERIAL_LO : Field := ⟨.FLH, 0x8, 0, 32, .RO, 0x0, .rollCall, .PKR, 0, 1, 0, 1, .all⟩
-- `FLH_SERIAL` at 0x000C, spec/08_flume.md R231
def SERIAL_HI : Field := ⟨.FLH, 0xC, 0, 32, .RO, 0x0, .rollCall, .PKR, 0, 1, 0, 1, .all⟩
-- `FLH_IMGVER` at 0x0010, spec/08_flume.md R231
def IMGVER : Field := ⟨.FLH, 0x10, 0, 32, .RO, 0x0, .rollCall, .PKR, 0, 1, 0, 1, .all⟩
-- `FLH_IMG` at 0x0014, spec/08_flume.md R231
def IMG_SCHEMA : Field := ⟨.FLH, 0x14, 0, 16, .RO, 0x0, .rollCall, .PKR, 0, 1, 0, 1, .all⟩
def IMG_SLOT : Field := ⟨.FLH, 0x14, 16, 1, .RO, 0x0, .rollCall, .PKR, 0, 1, 0, 1, .all⟩
-- `FLH_MODES` at 0x0018, spec/08_flume.md R231
def MODES_WMODE : Field := ⟨.FLH, 0x18, 0, 8, .RO, 0x0, .rollCall, .PKR, 0, 1, 0, 1, .all⟩
def MODES_HCH : Field := ⟨.FLH, 0x18, 8, 6, .RO, 0x0, .val, .PKR, 0, 1, 0, 1, .all⟩
-- `FLH_FENCE_TS` at 0x0020, spec/08_flume.md R231
def FENCE_TS_FRAC : Field := ⟨.FLH, 0x20, 0, 16, .RO, 0x0, .val, .PKR, 0, 1, 0, 1, .all⟩
-- `FLH_FENCE_TS` at 0x0024, spec/08_flume.md R231
def FENCE_TS_NS : Field := ⟨.FLH, 0x24, 0, 32, .RO, 0x0, .val, .PKR, 0, 1, 0, 1, .all⟩
-- `FLH_FENCE_TS` at 0x0028, spec/08_flume.md R231
def FENCE_TS_SECLO : Field := ⟨.FLH, 0x28, 0, 32, .RO, 0x0, .val, .PKR, 0, 1, 0, 1, .all⟩
-- `FLH_FENCE_TS` at 0x002C, spec/08_flume.md R231
def FENCE_TS_SECHI : Field := ⟨.FLH, 0x2C, 0, 16, .RO, 0x0, .val, .PKR, 0, 1, 0, 1, .all⟩
-- `FLH_SB` at 0x0030, spec/08_flume.md R231
def SB_UP : Field := ⟨.FLH, 0x30, 0, 1, .RO, 0x0, .val, .PKR, 0, 1, 0, 1, .all⟩
def SB_HBLOST : Field := ⟨.FLH, 0x30, 1, 1, .W1C, 0x0, .val, .PKR, 0, 1, 0, 1, .all⟩
def SB_ALARM : Field := ⟨.FLH, 0x30, 2, 1, .RO, 0x0, .val, .PKR, 0, 1, 0, 1, .all⟩
def SB_SBERR : Field := ⟨.FLH, 0x30, 16, 16, .RC, 0x0, .val, .PKR, 0, 1, 0, 1, .all⟩
-- `FLH_MCTRL` at 0x1000, spec/08_flume.md R231
def MCTRL_RETRAIN : Field := ⟨.FLH, 0x1000, 0, 1, .WO, 0x0, .val, .PKR, 2048, 8, 0, 1, .all⟩
def MCTRL_LBNEAR : Field := ⟨.FLH, 0x1000, 1, 1, .RW, 0x0, .val, .PKR, 2048, 8, 0, 1, .all⟩
def MCTRL_LBGO : Field := ⟨.FLH, 0x1000, 2, 1, .WO, 0x0, .val, .PKR, 2048, 8, 0, 1, .all⟩
-- `FLH_MSTAT` at 0x1004, spec/08_flume.md R231
def MSTAT_STATE : Field := ⟨.FLH, 0x1004, 0, 3, .RO, 0x0, .val, .PKR, 2048, 8, 0, 1, .all⟩
def MSTAT_WIDTH : Field := ⟨.FLH, 0x1004, 3, 2, .RO, 0x0, .val, .PKR, 2048, 8, 0, 1, .all⟩
def MSTAT_GROUP : Field := ⟨.FLH, 0x1004, 5, 2, .RO, 0x0, .val, .PKR, 2048, 8, 0, 1, .all⟩
def MSTAT_WIRE : Field := ⟨.FLH, 0x1004, 7, 1, .RO, 0x0, .rollCall, .PKR, 2048, 8, 0, 1, .all⟩
def MSTAT_WIREDFLT : Field := ⟨.FLH, 0x1004, 8, 1, .RO, 0x0, .val, .PKR, 2048, 8, 0, 1, .all⟩
def MSTAT_DISAGREE : Field := ⟨.FLH, 0x1004, 9, 1, .W1C, 0x0, .val, .PKR, 2048, 8, 0, 1, .all⟩
def MSTAT_NARROWED : Field := ⟨.FLH, 0x1004, 10, 1, .W1C, 0x0, .val, .PKR, 2048, 8, 0, 1, .all⟩
def MSTAT_CMDERR : Field := ⟨.FLH, 0x1004, 11, 1, .W1C, 0x0, .val, .PKR, 2048, 8, 0, 1, .all⟩
def MSTAT_LBDONE : Field := ⟨.FLH, 0x1004, 12, 1, .RO, 0x0, .val, .PKR, 2048, 8, 0, 1, .all⟩
-- `FLH_REPAIR` at 0x1008, spec/08_flume.md R231
def REPAIR : Field := ⟨.FLH, 0x1008, 0, 32, .RO, 0x0, .rollCall, .PKR, 2048, 8, 0, 1, .all⟩
-- `FLH_MCNT0` at 0x100C, spec/08_flume.md R231
def MCNT0_REPLAY : Field := ⟨.FLH, 0x100C, 0, 16, .RC, 0x0, .val, .PKR, 2048, 8, 0, 1, .all⟩
def MCNT0_RETRN : Field := ⟨.FLH, 0x100C, 16, 16, .RC, 0x0, .val, .PKR, 2048, 8, 0, 1, .all⟩
-- `FLH_MCNT1` at 0x1010, spec/08_flume.md R231
def MCNT1_CRCERR : Field := ⟨.FLH, 0x1010, 0, 32, .RC, 0x0, .val, .PKR, 2048, 8, 0, 1, .all⟩
-- `FLH_LBERR` at 0x1014, spec/08_flume.md R231
def LBERR : Field := ⟨.FLH, 0x1014, 0, 32, .RC, 0x0, .val, .PKR, 2048, 8, 0, 1, .all⟩
-- `FLH_LBLANE0` at 0x1018, spec/08_flume.md R231
def LBLANE0 : Field := ⟨.FLH, 0x1018, 0, 32, .RO, 0x0, .val, .PKR, 2048, 8, 0, 1, .all⟩
-- `FLH_LBLANE1` at 0x101C, spec/08_flume.md R231
def LBLANE1 : Field := ⟨.FLH, 0x101C, 0, 32, .RO, 0x0, .val, .PKR, 2048, 8, 0, 1, .all⟩
-- `FLH_LBLANE2` at 0x1020, spec/08_flume.md R231
def LBLANE2 : Field := ⟨.FLH, 0x1020, 0, 24, .RO, 0x0, .val, .PKR, 2048, 8, 0, 1, .all⟩

/-- The fields of the FLH block. -/
def fields : List Field :=
  [RC_STATUS, RC_FAIL, RC_IMGERR, RC_DTYPE, RC_REV, CTRL_FENCE, SERIAL_LO, SERIAL_HI, IMGVER, IMG_SCHEMA, IMG_SLOT, MODES_WMODE] ++
  [ MODES_HCH, FENCE_TS_FRAC, FENCE_TS_NS, FENCE_TS_SECLO, FENCE_TS_SECHI, SB_UP, SB_HBLOST, SB_ALARM, SB_SBERR, MCTRL_RETRAIN, MCTRL_LBNEAR, MCTRL_LBGO] ++
  [MSTAT_STATE, MSTAT_WIDTH, MSTAT_GROUP, MSTAT_WIRE, MSTAT_WIREDFLT, MSTAT_DISAGREE, MSTAT_NARROWED, MSTAT_CMDERR, MSTAT_LBDONE, REPAIR, MCNT0_REPLAY, MCNT0_RETRN] ++
  [MCNT1_CRCERR, LBERR, LBLANE0, LBLANE1, LBLANE2]

end Sys2Proof.Machine.FLH

namespace Sys2Proof.Machine.HMC

-- `HMC_CTRL` at 0x0000, spec/09_hbm.md R255
def CTRL_RTPOST : Field := ⟨.HMC, 0x0, 0, 1, .RW, 0x1, .nv, .PKR, 0, 1, 0, 1, .all⟩
def CTRL_NRREN : Field := ⟨.HMC, 0x0, 1, 1, .RW, 0x1, .nv, .PKR, 0, 1, 0, 1, .all⟩
def CTRL_NRRK : Field := ⟨.HMC, 0x0, 2, 4, .RW, 0xA, .nv, .PKR, 0, 1, 0, 1, (.range 6 14)⟩
def CTRL_OPMASK : Field := ⟨.HMC, 0x0, 6, 4, .RW, 0x1, .nv, .PKR, 0, 1, 0, 1, .all⟩
def CTRL_START : Field := ⟨.HMC, 0x0, 10, 2, .RW, 0x0, .nv, .PKR, 0, 1, 0, 1, .all⟩
-- `HMC_STAT` at 0x0004, spec/09_hbm.md R255
def STAT_STATE : Field := ⟨.HMC, 0x4, 0, 3, .RO, 0x0, .val, .PKR, 0, 1, 0, 1, .all⟩
def STAT_RATE : Field := ⟨.HMC, 0x4, 3, 2, .RO, 0x0, .val, .PKR, 0, 1, 0, 1, .all⟩
def STAT_HOT : Field := ⟨.HMC, 0x4, 5, 1, .RO, 0x0, .val, .PKR, 0, 1, 0, 1, .all⟩
def STAT_OPTRAINED : Field := ⟨.HMC, 0x4, 6, 4, .RO, 0x0, .val, .PKR, 0, 1, 0, 1, .all⟩
-- `HMC_TEMP` at 0x0008, spec/09_hbm.md R255
def TEMP : Field := ⟨.HMC, 0x8, 0, 8, .RO, 0x0, .val, .PKR, 0, 1, 0, 1, .all⟩
-- `HMC_NRRSEED` at 0x000C, spec/09_hbm.md R255
def NRRSEED : Field := ⟨.HMC, 0xC, 0, 32, .RW, 0x1, .val, .PKR, 0, 1, 0, 1, .all⟩
-- `HMC_FCHG` at 0x0010, spec/09_hbm.md R255
def FCHG_GO : Field := ⟨.HMC, 0x10, 0, 1, .WO, 0x0, .val, .PKR, 0, 1, 0, 1, .all⟩
def FCHG_ALL : Field := ⟨.HMC, 0x10, 1, 1, .WO, 0x0, .val, .PKR, 0, 1, 0, 1, .all⟩
def FCHG_BUSY : Field := ⟨.HMC, 0x10, 2, 1, .RO, 0x0, .val, .PKR, 0, 1, 0, 1, .all⟩
def FCHG_SHVALID : Field := ⟨.HMC, 0x10, 3, 1, .RO, 0x0, .val, .PKR, 0, 1, 0, 1, .all⟩
def FCHG_ERR : Field := ⟨.HMC, 0x10, 4, 1, .W1C, 0x0, .val, .PKR, 0, 1, 0, 1, .all⟩
-- `HMC_TIM0` at 0x0020, spec/09_hbm.md R255
def TIM0_RATE : Field := ⟨.HMC, 0x20, 0, 2, .RW, 0x0, .val, .PKR, 0, 1, 0, 1, .all⟩
def TIM0_CL : Field := ⟨.HMC, 0x20, 2, 6, .RW, 0x0, .val, .PKR, 0, 1, 0, 1, .all⟩
def TIM0_WL : Field := ⟨.HMC, 0x20, 8, 6, .RW, 0x0, .val, .PKR, 0, 1, 0, 1, .all⟩
def TIM0_TRCD : Field := ⟨.HMC, 0x20, 14, 6, .RW, 0x0, .val, .PKR, 0, 1, 0, 1, .all⟩
def TIM0_TRP : Field := ⟨.HMC, 0x20, 20, 6, .RW, 0x0, .val, .PKR, 0, 1, 0, 1, .all⟩
def TIM0_TRTP : Field := ⟨.HMC, 0x20, 26, 6, .RW, 0x0, .val, .PKR, 0, 1, 0, 1, .all⟩
-- `HMC_TIM1` at 0x0024, spec/09_hbm.md R255
def TIM1_TRAS : Field := ⟨.HMC, 0x24, 0, 8, .RW, 0x0, .val, .PKR, 0, 1, 0, 1, .all⟩
def TIM1_TRC : Field := ⟨.HMC, 0x24, 8, 8, .RW, 0x0, .val, .PKR, 0, 1, 0, 1, .all⟩
def TIM1_TWR : Field := ⟨.HMC, 0x24, 16, 6, .RW, 0x0, .val, .PKR, 0, 1, 0, 1, .all⟩
def TIM1_TWTR : Field := ⟨.HMC, 0x24, 22, 6, .RW, 0x0, .val, .PKR, 0, 1, 0, 1, .all⟩
def TIM1_TRRD : Field := ⟨.HMC, 0x24, 28, 4, .RW, 0x0, .val, .PKR, 0, 1, 0, 1, .all⟩
-- `HMC_TIM2` at 0x0028, spec/09_hbm.md R255
def TIM2_TFAW : Field := ⟨.HMC, 0x28, 0, 8, .RW, 0x0, .val, .PKR, 0, 1, 0, 1, .all⟩
def TIM2_TXS : Field := ⟨.HMC, 0x28, 8, 12, .RW, 0x0, .val, .PKR, 0, 1, 0, 1, .all⟩
def TIM2_TRREFD : Field := ⟨.HMC, 0x28, 20, 6, .RW, 0x0, .val, .PKR, 0, 1, 0, 1, .all⟩
-- `HMC_TIM3` at 0x002C, spec/09_hbm.md R255
def TIM3_TREFI : Field := ⟨.HMC, 0x2C, 0, 16, .RW, 0x0, .val, .PKR, 0, 1, 0, 1, .all⟩
def TIM3_TRFCPB : Field := ⟨.HMC, 0x2C, 16, 12, .RW, 0x0, .val, .PKR, 0, 1, 0, 1, .all⟩
-- `HMC_SHD0` at 0x0040, spec/09_hbm.md R255
def SHD0_RATE : Field := ⟨.HMC, 0x40, 0, 2, .RW, 0x0, .val, .PKR, 0, 1, 0, 1, .all⟩
def SHD0_CL : Field := ⟨.HMC, 0x40, 2, 6, .RW, 0x0, .val, .PKR, 0, 1, 0, 1, .all⟩
def SHD0_WL : Field := ⟨.HMC, 0x40, 8, 6, .RW, 0x0, .val, .PKR, 0, 1, 0, 1, .all⟩
def SHD0_TRCD : Field := ⟨.HMC, 0x40, 14, 6, .RW, 0x0, .val, .PKR, 0, 1, 0, 1, .all⟩
def SHD0_TRP : Field := ⟨.HMC, 0x40, 20, 6, .RW, 0x0, .val, .PKR, 0, 1, 0, 1, .all⟩
def SHD0_TRTP : Field := ⟨.HMC, 0x40, 26, 6, .RW, 0x0, .val, .PKR, 0, 1, 0, 1, .all⟩
-- `HMC_SHD1` at 0x0044, spec/09_hbm.md R255
def SHD1_TRAS : Field := ⟨.HMC, 0x44, 0, 8, .RW, 0x0, .val, .PKR, 0, 1, 0, 1, .all⟩
def SHD1_TRC : Field := ⟨.HMC, 0x44, 8, 8, .RW, 0x0, .val, .PKR, 0, 1, 0, 1, .all⟩
def SHD1_TWR : Field := ⟨.HMC, 0x44, 16, 6, .RW, 0x0, .val, .PKR, 0, 1, 0, 1, .all⟩
def SHD1_TWTR : Field := ⟨.HMC, 0x44, 22, 6, .RW, 0x0, .val, .PKR, 0, 1, 0, 1, .all⟩
def SHD1_TRRD : Field := ⟨.HMC, 0x44, 28, 4, .RW, 0x0, .val, .PKR, 0, 1, 0, 1, .all⟩
-- `HMC_SHD2` at 0x0048, spec/09_hbm.md R255
def SHD2_TFAW : Field := ⟨.HMC, 0x48, 0, 8, .RW, 0x0, .val, .PKR, 0, 1, 0, 1, .all⟩
def SHD2_TXS : Field := ⟨.HMC, 0x48, 8, 12, .RW, 0x0, .val, .PKR, 0, 1, 0, 1, .all⟩
def SHD2_TRREFD : Field := ⟨.HMC, 0x48, 20, 6, .RW, 0x0, .val, .PKR, 0, 1, 0, 1, .all⟩
-- `HMC_SHD3` at 0x004C, spec/09_hbm.md R255
def SHD3_TREFI : Field := ⟨.HMC, 0x4C, 0, 16, .RW, 0x0, .val, .PKR, 0, 1, 0, 1, .all⟩
def SHD3_TRFCPB : Field := ⟨.HMC, 0x4C, 16, 12, .RW, 0x0, .val, .PKR, 0, 1, 0, 1, .all⟩
-- `HMC_TPAT` at 0x0200, spec/09_hbm.md R255
def TPAT_MODE : Field := ⟨.HMC, 0x200, 0, 2, .RW, 0x0, .val, .PKR, 0, 1, 0, 1, .all⟩
-- `HMC_TSEED` at 0x0204, spec/09_hbm.md R255
def TSEED : Field := ⟨.HMC, 0x204, 0, 32, .RW, 0x0, .val, .PKR, 0, 1, 0, 1, .all⟩
-- `HMC_TCMD` at 0x0208, spec/09_hbm.md R255
def TCMD_GO : Field := ⟨.HMC, 0x208, 0, 1, .WO, 0x0, .val, .PKR, 0, 1, 0, 1, .all⟩
def TCMD_OP : Field := ⟨.HMC, 0x208, 1, 2, .WO, 0x0, .val, .PKR, 0, 1, 0, 1, .all⟩
def TCMD_PC : Field := ⟨.HMC, 0x208, 3, 5, .WO, 0x0, .val, .PKR, 0, 1, 0, 1, .all⟩
def TCMD_ALLPC : Field := ⟨.HMC, 0x208, 8, 1, .WO, 0x0, .val, .PKR, 0, 1, 0, 1, .all⟩
def TCMD_DONE : Field := ⟨.HMC, 0x208, 9, 1, .RO, 0x0, .val, .PKR, 0, 1, 0, 1, .all⟩
def TCMD_BUSY : Field := ⟨.HMC, 0x208, 10, 1, .RO, 0x0, .val, .PKR, 0, 1, 0, 1, .all⟩
-- `HMC_TLEN` at 0x020C, spec/09_hbm.md R255
def TLEN_BURSTS : Field := ⟨.HMC, 0x20C, 0, 16, .RW, 0x1, .val, .PKR, 0, 1, 0, 1, (.geq 1)⟩
-- `HMC_TERR0` at 0x0210, spec/09_hbm.md R255
def TERR0_DQ : Field := ⟨.HMC, 0x210, 0, 32, .RO, 0x0, .val, .PKR, 0, 1, 0, 1, .all⟩
-- `HMC_TERR1` at 0x0214, spec/09_hbm.md R255
def TERR1_EXTRA : Field := ⟨.HMC, 0x214, 0, 7, .RO, 0x0, .val, .PKR, 0, 1, 0, 1, .all⟩
def TERR1_CAERR : Field := ⟨.HMC, 0x214, 7, 1, .RO, 0x0, .val, .PKR, 0, 1, 0, 1, .all⟩
-- `HMC_TCNT` at 0x0218, spec/09_hbm.md R255
def TCNT : Field := ⟨.HMC, 0x218, 0, 32, .RO, 0x0, .val, .PKR, 0, 1, 0, 1, .all⟩
-- `HMC_FRZ0` at 0x0300, spec/09_hbm.md R255
def FRZ0_CAUSE : Field := ⟨.HMC, 0x300, 0, 3, .RO, 0x0, .val, .PKR, 0, 1, 0, 1, .all⟩
def FRZ0_PC : Field := ⟨.HMC, 0x300, 3, 5, .RO, 0x0, .val, .PKR, 0, 1, 0, 1, .all⟩
def FRZ0_BANK : Field := ⟨.HMC, 0x300, 8, 6, .RO, 0x0, .val, .PKR, 0, 1, 0, 1, .all⟩
def FRZ0_VALID : Field := ⟨.HMC, 0x300, 31, 1, .RO, 0x0, .val, .PKR, 0, 1, 0, 1, .all⟩
-- `HMC_FRZ1` at 0x0304, spec/09_hbm.md R255
def FRZ1_ROW : Field := ⟨.HMC, 0x304, 0, 15, .RO, 0x0, .val, .PKR, 0, 1, 0, 1, .all⟩
def FRZ1_QTR : Field := ⟨.HMC, 0x304, 15, 2, .RO, 0x0, .val, .PKR, 0, 1, 0, 1, .all⟩
-- `HMC_FRZ2` at 0x0308, spec/09_hbm.md R255
def FRZ2_SRC : Field := ⟨.HMC, 0x308, 0, 12, .RO, 0x0, .val, .PKR, 0, 1, 0, 1, .all⟩
def FRZ2_OP : Field := ⟨.HMC, 0x308, 12, 2, .RO, 0x0, .val, .PKR, 0, 1, 0, 1, .all⟩
-- `HMC_FRZ3` at 0x030C, spec/09_hbm.md R255
def FRZ3_DPA_LO : Field := ⟨.HMC, 0x30C, 0, 32, .RO, 0x0, .val, .PKR, 0, 1, 0, 1, .all⟩
-- `HMC_FRZ4` at 0x0310, spec/09_hbm.md R255
def FRZ4_DPA_HI : Field := ⟨.HMC, 0x310, 0, 16, .RO, 0x0, .val, .PKR, 0, 1, 0, 1, .all⟩
-- `HMC_FRZ_TS` at 0x0320, spec/09_hbm.md R255
def FRZ_TS_FRAC : Field := ⟨.HMC, 0x320, 0, 16, .RO, 0x0, .val, .PKR, 0, 1, 0, 1, .all⟩
-- `HMC_FRZ_TS` at 0x0324, spec/09_hbm.md R255
def FRZ_TS_NS : Field := ⟨.HMC, 0x324, 0, 32, .RO, 0x0, .val, .PKR, 0, 1, 0, 1, .all⟩
-- `HMC_FRZ_TS` at 0x0328, spec/09_hbm.md R255
def FRZ_TS_SECLO : Field := ⟨.HMC, 0x328, 0, 32, .RO, 0x0, .val, .PKR, 0, 1, 0, 1, .all⟩
-- `HMC_FRZ_TS` at 0x032C, spec/09_hbm.md R255
def FRZ_TS_SECHI : Field := ⟨.HMC, 0x32C, 0, 16, .RO, 0x0, .val, .PKR, 0, 1, 0, 1, .all⟩
-- `HMC_POISCNT` at 0x0330, spec/09_hbm.md R255
def POISCNT : Field := ⟨.HMC, 0x330, 0, 32, .RO, 0x0, .val, .PKR, 0, 1, 0, 1, .all⟩
-- `HMC_PCCFG` at 0x1000, spec/09_hbm.md R255
def PCCFG_IDLE : Field := ⟨.HMC, 0x1000, 0, 12, .RW, 0x30, .val, .PKR, 512, 32, 0, 1, .all⟩
-- `HMC_PCSTAT` at 0x1004, spec/09_hbm.md R255
def PCSTAT_OWED : Field := ⟨.HMC, 0x1004, 0, 4, .RO, 0x0, .val, .PKR, 512, 32, 0, 1, .all⟩
def PCSTAT_HELD : Field := ⟨.HMC, 0x1004, 4, 1, .RO, 0x0, .val, .PKR, 512, 32, 0, 1, .all⟩
def PCSTAT_FORCED : Field := ⟨.HMC, 0x1004, 5, 1, .W1C, 0x0, .val, .PKR, 512, 32, 0, 1, .all⟩
def PCSTAT_NRRFULL : Field := ⟨.HMC, 0x1004, 6, 1, .W1C, 0x0, .val, .PKR, 512, 32, 0, 1, .all⟩
-- `HMC_PCCNT0` at 0x1008, spec/09_hbm.md R255
def PCCNT0_ACTS : Field := ⟨.HMC, 0x1008, 0, 32, .RC, 0x0, .val, .PKR, 512, 32, 0, 1, .all⟩
-- `HMC_PCCNT1` at 0x100C, spec/09_hbm.md R255
def PCCNT1_NRROWS : Field := ⟨.HMC, 0x100C, 0, 32, .RC, 0x0, .val, .PKR, 512, 32, 0, 1, .all⟩
-- `HMC_PCCNT2` at 0x1010, spec/09_hbm.md R255
def PCCNT2_FBURST : Field := ⟨.HMC, 0x1010, 0, 16, .RC, 0x0, .val, .PKR, 512, 32, 0, 1, .all⟩
def PCCNT2_PRETRY : Field := ⟨.HMC, 0x1010, 16, 16, .RC, 0x0, .val, .PKR, 512, 32, 0, 1, .all⟩
-- `HMC_PCREP` at 0x1014, spec/09_hbm.md R255
def PCREP_RD0 : Field := ⟨.HMC, 0x1014, 0, 6, .RW, 0x0, .val, .PKR, 512, 32, 0, 1, .all⟩
def PCREP_V0 : Field := ⟨.HMC, 0x1014, 6, 1, .RW, 0x0, .val, .PKR, 512, 32, 0, 1, .all⟩
def PCREP_RD1 : Field := ⟨.HMC, 0x1014, 8, 6, .RW, 0x0, .val, .PKR, 512, 32, 0, 1, .all⟩
def PCREP_V1 : Field := ⟨.HMC, 0x1014, 14, 1, .RW, 0x0, .val, .PKR, 512, 32, 0, 1, .all⟩
-- `HMC_PCQ` at 0x1018, spec/09_hbm.md R255
def PCQ_QOCC : Field := ⟨.HMC, 0x1018, 0, 6, .RO, 0x0, .val, .PKR, 512, 32, 0, 1, .all⟩
-- `HMC_TDLY` at 0x2000, spec/09_hbm.md R255
def TDLY_RXDLY : Field := ⟨.HMC, 0x2000, 0, 7, .RW, 0x0, .val, .PKR, 2048, 32, 32, 39, .all⟩
def TDLY_TXDLY : Field := ⟨.HMC, 0x2000, 8, 7, .RW, 0x0, .val, .PKR, 2048, 32, 32, 39, .all⟩
-- `HMC_TDLY_CA` at 0x20FC, spec/09_hbm.md R255
def TDLY_CA_CADLY : Field := ⟨.HMC, 0x20FC, 0, 7, .RW, 0x0, .val, .PKR, 2048, 32, 0, 1, .all⟩
-- `HMC_QDUMP` at 0x8000, spec/09_hbm.md R255
def QDUMP_W0 : Field := ⟨.HMC, 0x8000, 0, 32, .RO, 0x0, .val, .PKR, 4096, 32, 128, 32, .all⟩
-- `HMC_QDUMP` at 0x8004, spec/09_hbm.md R255
def QDUMP_W1 : Field := ⟨.HMC, 0x8004, 0, 32, .RO, 0x0, .val, .PKR, 4096, 32, 128, 32, .all⟩
-- `HMC_QDUMP` at 0x8008, spec/09_hbm.md R255
def QDUMP_W2 : Field := ⟨.HMC, 0x8008, 0, 32, .RO, 0x0, .val, .PKR, 4096, 32, 128, 32, .all⟩
-- `HMC_QDUMP` at 0x800C, spec/09_hbm.md R255
def QDUMP_W3 : Field := ⟨.HMC, 0x800C, 0, 32, .RO, 0x0, .val, .PKR, 4096, 32, 128, 32, .all⟩

/-- The fields of the HMC block. -/
def fields : List Field :=
  [CTRL_RTPOST, CTRL_NRREN, CTRL_NRRK, CTRL_OPMASK, CTRL_START, STAT_STATE, STAT_RATE, STAT_HOT, STAT_OPTRAINED, TEMP, NRRSEED, FCHG_GO] ++
  [FCHG_ALL, FCHG_BUSY, FCHG_SHVALID, FCHG_ERR, TIM0_RATE, TIM0_CL, TIM0_WL, TIM0_TRCD, TIM0_TRP, TIM0_TRTP, TIM1_TRAS, TIM1_TRC] ++
  [TIM1_TWR, TIM1_TWTR, TIM1_TRRD, TIM2_TFAW, TIM2_TXS, TIM2_TRREFD, TIM3_TREFI, TIM3_TRFCPB, SHD0_RATE, SHD0_CL, SHD0_WL, SHD0_TRCD] ++
  [SHD0_TRP, SHD0_TRTP, SHD1_TRAS, SHD1_TRC, SHD1_TWR, SHD1_TWTR, SHD1_TRRD, SHD2_TFAW, SHD2_TXS, SHD2_TRREFD, SHD3_TREFI, SHD3_TRFCPB] ++
  [TPAT_MODE, TSEED, TCMD_GO, TCMD_OP, TCMD_PC, TCMD_ALLPC, TCMD_DONE, TCMD_BUSY, TLEN_BURSTS, TERR0_DQ, TERR1_EXTRA, TERR1_CAERR] ++
  [TCNT, FRZ0_CAUSE, FRZ0_PC, FRZ0_BANK, FRZ0_VALID, FRZ1_ROW, FRZ1_QTR, FRZ2_SRC, FRZ2_OP, FRZ3_DPA_LO, FRZ4_DPA_HI, FRZ_TS_FRAC] ++
  [FRZ_TS_NS, FRZ_TS_SECLO, FRZ_TS_SECHI, POISCNT, PCCFG_IDLE, PCSTAT_OWED, PCSTAT_HELD, PCSTAT_FORCED, PCSTAT_NRRFULL, PCCNT0_ACTS, PCCNT1_NRROWS, PCCNT2_FBURST] ++
  [PCCNT2_PRETRY, PCREP_RD0, PCREP_V0, PCREP_RD1, PCREP_V1, PCQ_QOCC, TDLY_RXDLY, TDLY_TXDLY, TDLY_CA_CADLY, QDUMP_W0, QDUMP_W1, QDUMP_W2] ++
  [QDUMP_W3]

end Sys2Proof.Machine.HMC

namespace Sys2Proof.Machine.DRH

-- `DRH_CTRL` at 0x0000, spec/11_ecc.md R291
def CTRL_AUTOINIT : Field := ⟨.DRH, 0x0, 0, 1, .RW, 0x1, .nv, .PKR, 0, 1, 0, 1, .all⟩
-- `DRH_STAT` at 0x0004, spec/11_ecc.md R291
def STAT_INITDONE : Field := ⟨.DRH, 0x4, 0, 1, .RO, 0x0, .val, .PKR, 0, 1, 0, 1, .all⟩
def STAT_RPERR : Field := ⟨.DRH, 0x4, 1, 1, .W1C, 0x0, .val, .PKR, 0, 1, 0, 1, .all⟩
def STAT_REGERR : Field := ⟨.DRH, 0x4, 2, 1, .W1C, 0x0, .val, .PKR, 0, 1, 0, 1, .all⟩
def STAT_TMRFAIL : Field := ⟨.DRH, 0x4, 3, 1, .W1C, 0x0, .val, .PKR, 0, 1, 0, 1, .all⟩
def STAT_RQDROP : Field := ⟨.DRH, 0x4, 4, 1, .W1C, 0x0, .val, .PKR, 0, 1, 0, 1, .all⟩
-- `DRH_TMR` at 0x0008, spec/11_ecc.md R291
def TMR_VOTES : Field := ⟨.DRH, 0x8, 0, 16, .RC, 0x0, .val, .PKR, 0, 1, 0, 1, .all⟩
def TMR_LASTOFS : Field := ⟨.DRH, 0x8, 16, 16, .RO, 0x0, .val, .PKR, 0, 1, 0, 1, .all⟩
-- `DRH_RPBASE` at 0x0010, spec/11_ecc.md R291
def RPBASE_LO : Field := ⟨.DRH, 0x10, 0, 32, .RW, 0x0, .val, .PKR, 0, 1, 0, 1, .all⟩
-- `DRH_RPBASE` at 0x0014, spec/11_ecc.md R291
def RPBASE_HI : Field := ⟨.DRH, 0x14, 0, 16, .RW, 0x0, .val, .PKR, 0, 1, 0, 1, .all⟩
-- `DRH_RPLEN` at 0x0018, spec/11_ecc.md R291
def RPLEN_LO : Field := ⟨.DRH, 0x18, 0, 32, .RW, 0x0, .val, .PKR, 0, 1, 0, 1, .all⟩
-- `DRH_RPLEN` at 0x001C, spec/11_ecc.md R291
def RPLEN_HI : Field := ⟨.DRH, 0x1C, 0, 16, .RW, 0x0, .val, .PKR, 0, 1, 0, 1, .all⟩
-- `DRH_RP` at 0x0020, spec/11_ecc.md R291
def RP_GO : Field := ⟨.DRH, 0x20, 0, 1, .WO, 0x0, .val, .PKR, 0, 1, 0, 1, .all⟩
def RP_MODE : Field := ⟨.DRH, 0x20, 1, 2, .WO, 0x0, .val, .PKR, 0, 1, 0, 1, .all⟩
def RP_MEM : Field := ⟨.DRH, 0x20, 3, 1, .WO, 0x0, .val, .PKR, 0, 1, 0, 1, .all⟩
def RP_ENTRY : Field := ⟨.DRH, 0x20, 16, 10, .WO, 0x0, .val, .PKR, 0, 1, 0, 1, .all⟩
-- `DRH_MC` at 0x0040, spec/11_ecc.md R291
def MC_RDCORR : Field := ⟨.DRH, 0x40, 0, 32, .RC, 0x0, .val, .PKR, 128, 5, 0, 1, .all⟩
-- `DRH_MC` at 0x0044, spec/11_ecc.md R291
def MC_RDUNC : Field := ⟨.DRH, 0x44, 0, 32, .RC, 0x0, .val, .PKR, 128, 5, 0, 1, .all⟩
-- `DRH_MC` at 0x0048, spec/11_ecc.md R291
def MC_PWMERGE : Field := ⟨.DRH, 0x48, 0, 32, .RC, 0x0, .val, .PKR, 128, 5, 0, 1, .all⟩
-- `DRH_MC` at 0x004C, spec/11_ecc.md R291
def MC_PWREF : Field := ⟨.DRH, 0x4C, 0, 32, .RC, 0x0, .val, .PKR, 128, 5, 0, 1, .all⟩
-- `DRH_ELOG0` at 0x0090, spec/11_ecc.md R291
def ELOG0_DPA_LO : Field := ⟨.DRH, 0x90, 0, 32, .RO, 0x0, .val, .PKR, 0, 1, 0, 1, .all⟩
-- `DRH_ELOG1` at 0x0094, spec/11_ecc.md R291
def ELOG1_DPA_HI : Field := ⟨.DRH, 0x94, 0, 16, .RO, 0x0, .val, .PKR, 0, 1, 0, 1, .all⟩
def ELOG1_SRC : Field := ⟨.DRH, 0x94, 16, 12, .RO, 0x0, .val, .PKR, 0, 1, 0, 1, .all⟩
def ELOG1_KIND : Field := ⟨.DRH, 0x94, 28, 3, .RO, 0x0, .val, .PKR, 0, 1, 0, 1, .all⟩
def ELOG1_VALID : Field := ⟨.DRH, 0x94, 31, 1, .W1C, 0x0, .val, .PKR, 0, 1, 0, 1, .all⟩
-- `DRH_TS` at 0x0098, spec/11_ecc.md R291
def TS_FRAC : Field := ⟨.DRH, 0x98, 0, 16, .RO, 0x0, .val, .PKR, 0, 1, 0, 1, .all⟩
-- `DRH_TS` at 0x009C, spec/11_ecc.md R291
def TS_NS : Field := ⟨.DRH, 0x9C, 0, 32, .RO, 0x0, .val, .PKR, 0, 1, 0, 1, .all⟩
-- `DRH_TS` at 0x00A0, spec/11_ecc.md R291
def TS_SECLO : Field := ⟨.DRH, 0xA0, 0, 32, .RO, 0x0, .val, .PKR, 0, 1, 0, 1, .all⟩
-- `DRH_TS` at 0x00A4, spec/11_ecc.md R291
def TS_SECHI : Field := ⟨.DRH, 0xA4, 0, 16, .RO, 0x0, .val, .PKR, 0, 1, 0, 1, .all⟩
-- `DRH_FM` at 0x0100, spec/11_ecc.md R291
def FM_DATA_LO : Field := ⟨.DRH, 0x100, 0, 32, .RW, 0x0, .val, .PKR, 256, 5, 0, 1, .all⟩
-- `DRH_FM` at 0x0104, spec/11_ecc.md R291
def FM_DATA_HI : Field := ⟨.DRH, 0x104, 0, 32, .RW, 0x0, .val, .PKR, 256, 5, 0, 1, .all⟩
-- `DRH_FM` at 0x0108, spec/11_ecc.md R291
def FM_CHK : Field := ⟨.DRH, 0x108, 0, 15, .RW, 0x0, .val, .PKR, 256, 5, 0, 1, .all⟩
def FM_ARM : Field := ⟨.DRH, 0x108, 16, 1, .RW, 0x0, .val, .PKR, 256, 5, 0, 1, .all⟩
def FM_MATCH : Field := ⟨.DRH, 0x108, 17, 1, .RW, 0x0, .val, .PKR, 256, 5, 0, 1, .all⟩
-- `DRH_FM` at 0x010C, spec/11_ecc.md R291
def FM_ADDR_LO : Field := ⟨.DRH, 0x10C, 0, 32, .RW, 0x0, .val, .PKR, 256, 5, 0, 1, .all⟩
-- `DRH_FM` at 0x0110, spec/11_ecc.md R291
def FM_ADDR_HI : Field := ⟨.DRH, 0x110, 0, 16, .RW, 0x0, .val, .PKR, 256, 5, 0, 1, .all⟩
-- `DRH_WK` at 0x0200, spec/11_ecc.md R291
def WK_EN : Field := ⟨.DRH, 0x200, 0, 1, .RW, 0x1, .nv, .PKR, 512, 2, 0, 1, .all⟩
def WK_MODE : Field := ⟨.DRH, 0x200, 1, 1, .RW, 0x1, .nv, .PKR, 512, 2, 0, 1, .all⟩
def WK_ADAPT : Field := ⟨.DRH, 0x200, 2, 1, .RW, 0x1, .nv, .PKR, 512, 2, 0, 1, .all⟩
-- `DRH_WK` at 0x0204, spec/11_ecc.md R291
def WK_IVAL : Field := ⟨.DRH, 0x204, 0, 32, .RW, 0x3E8, .nv, .PKR, 512, 2, 0, 1, (.geq 1)⟩
-- `DRH_WK` at 0x0208, spec/11_ecc.md R291
def WK_PASS : Field := ⟨.DRH, 0x208, 0, 32, .RW, 0x15180, .nv, .PKR, 512, 2, 0, 1, (.geq 1)⟩
-- `DRH_WK` at 0x020C, spec/11_ecc.md R291
def WK_CEIL : Field := ⟨.DRH, 0x20C, 0, 32, .RW, 0x2, .nv, .PKR, 512, 2, 0, 1, (.geq 1)⟩
-- `DRH_WK` at 0x0210, spec/11_ecc.md R291
def WK_RAISETHR : Field := ⟨.DRH, 0x210, 0, 16, .RW, 0x40, .nv, .PKR, 512, 2, 0, 1, (.geq 4)⟩
-- `DRH_WK` at 0x0214, spec/11_ecc.md R291
def WK_CUR : Field := ⟨.DRH, 0x214, 0, 32, .RO, 0x0, .val, .PKR, 512, 2, 0, 1, .all⟩
-- `DRH_WK` at 0x0218, spec/11_ecc.md R291
def WK_POS_LO : Field := ⟨.DRH, 0x218, 0, 32, .RO, 0x0, .val, .PKR, 512, 2, 0, 1, .all⟩
-- `DRH_WK` at 0x021C, spec/11_ecc.md R291
def WK_POS_HI : Field := ⟨.DRH, 0x21C, 0, 16, .RO, 0x0, .val, .PKR, 512, 2, 0, 1, .all⟩
-- `DRH_WK` at 0x0220, spec/11_ecc.md R291
def WK_PASSES : Field := ⟨.DRH, 0x220, 0, 32, .RO, 0x0, .val, .PKR, 512, 2, 0, 1, .all⟩
-- `DRH_WK` at 0x0224, spec/11_ecc.md R291
def WK_CORR : Field := ⟨.DRH, 0x224, 0, 32, .RC, 0x0, .val, .PKR, 512, 2, 0, 1, .all⟩
-- `DRH_WK` at 0x0228, spec/11_ecc.md R291
def WK_UNC : Field := ⟨.DRH, 0x228, 0, 32, .RC, 0x0, .val, .PKR, 512, 2, 0, 1, .all⟩
-- `DRH_WK` at 0x022C, spec/11_ecc.md R291
def WK_POIS : Field := ⟨.DRH, 0x22C, 0, 32, .RC, 0x0, .val, .PKR, 512, 2, 0, 1, .all⟩
-- `DRH_WK` at 0x0230, spec/11_ecc.md R291
def WK_RAISED : Field := ⟨.DRH, 0x230, 0, 16, .RC, 0x0, .val, .PKR, 512, 2, 0, 1, .all⟩
-- `DRH_RTBL` at 0x1000, spec/11_ecc.md R291
def RTBL_CODE : Field := ⟨.DRH, 0x1000, 0, 2, .RW, 0x1, .nv, .PKR, 4, 2304, 0, 1, (.leq 2)⟩
def RTBL_STATE : Field := ⟨.DRH, 0x1000, 2, 2, .RO, 0x0, .val, .PKR, 4, 2304, 0, 1, .all⟩

/-- The fields of the DRH block. -/
def fields : List Field :=
  [CTRL_AUTOINIT, STAT_INITDONE, STAT_RPERR, STAT_REGERR, STAT_TMRFAIL, STAT_RQDROP, TMR_VOTES, TMR_LASTOFS, RPBASE_LO, RPBASE_HI, RPLEN_LO, RPLEN_HI] ++
  [RP_GO, RP_MODE, RP_MEM, RP_ENTRY, MC_RDCORR, MC_RDUNC, MC_PWMERGE, MC_PWREF, ELOG0_DPA_LO, ELOG1_DPA_HI, ELOG1_SRC, ELOG1_KIND] ++
  [ELOG1_VALID, TS_FRAC, TS_NS, TS_SECLO, TS_SECHI, FM_DATA_LO, FM_DATA_HI, FM_CHK, FM_ARM, FM_MATCH, FM_ADDR_LO, FM_ADDR_HI] ++
  [WK_EN, WK_MODE, WK_ADAPT, WK_IVAL, WK_PASS, WK_CEIL, WK_RAISETHR, WK_CUR, WK_POS_LO, WK_POS_HI, WK_PASSES, WK_CORR] ++
  [WK_UNC, WK_POIS, WK_RAISED, RTBL_CODE, RTBL_STATE]

end Sys2Proof.Machine.DRH

namespace Sys2Proof.Machine.CAP

-- `CAP_SCFG` at 0x0000, spec/04_cistern.md R131
def SCFG_LOAN : Field := ⟨.CAP, 0x0, 0, 7, .RW, 0x10, .val, .PKR, 0, 1, 0, 1, (.range 12 64)⟩
-- `CAP_SBOOK0` at 0x0004, spec/04_cistern.md R131
def SBOOK0_LFREE : Field := ⟨.CAP, 0x4, 0, 16, .RO, 0xF500, .val, .PKR, 0, 1, 0, 1, .all⟩
def SBOOK0_LOANED : Field := ⟨.CAP, 0x4, 16, 16, .RO, 0x0, .val, .PKR, 0, 1, 0, 1, .all⟩
-- `CAP_SBOOK1` at 0x0008, spec/04_cistern.md R131
def SBOOK1_FILLED : Field := ⟨.CAP, 0x8, 0, 16, .RO, 0x0, .val, .PKR, 0, 1, 0, 1, .all⟩
def SBOOK1_RFREE : Field := ⟨.CAP, 0x8, 16, 12, .RO, 0xB00, .val, .PKR, 0, 1, 0, 1, .all⟩
-- `CAP_SBOOK2` at 0x000C, spec/04_cistern.md R131
def SBOOK2_RUSED : Field := ⟨.CAP, 0xC, 0, 12, .RO, 0x0, .val, .PKR, 0, 1, 0, 1, .all⟩
-- `CAP_STAT` at 0x0010, spec/04_cistern.md R131
def STAT_FULL : Field := ⟨.CAP, 0x10, 0, 1, .RO, 0x0, .val, .PKR, 0, 1, 0, 1, .all⟩
def STAT_FULLEVT : Field := ⟨.CAP, 0x10, 1, 1, .W1C, 0x0, .val, .PKR, 0, 1, 0, 1, .all⟩
def STAT_MARKLOST : Field := ⟨.CAP, 0x10, 2, 1, .W1C, 0x0, .val, .PKR, 0, 1, 0, 1, .all⟩
-- `CAP_LSH` at 0x0400, spec/04_cistern.md R131
def LSH : Field := ⟨.CAP, 0x400, 0, 7, .RW, 0x0, .val, .PKR, 32, 128, 0, 1, .all⟩
-- `CAP_CCTRL` at 0x1000, spec/04_cistern.md R131
def CCTRL_ARM : Field := ⟨.CAP, 0x1000, 0, 1, .WO, 0x0, .val, .PKR, 2048, 64, 0, 1, .all⟩
def CCTRL_DISARM : Field := ⟨.CAP, 0x1000, 1, 1, .WO, 0x0, .val, .PKR, 2048, 64, 0, 1, .all⟩
def CCTRL_SWSTART : Field := ⟨.CAP, 0x1000, 2, 1, .WO, 0x0, .val, .PKR, 2048, 64, 0, 1, .all⟩
def CCTRL_SWSTOP : Field := ⟨.CAP, 0x1000, 3, 1, .WO, 0x0, .val, .PKR, 2048, 64, 0, 1, .all⟩
def CCTRL_GRP : Field := ⟨.CAP, 0x1000, 4, 2, .RW, 0x0, .val, .PKR, 2048, 64, 0, 1, .all⟩
def CCTRL_FLTEN : Field := ⟨.CAP, 0x1000, 6, 1, .RW, 0x0, .val, .PKR, 2048, 64, 0, 1, .all⟩
def CCTRL_FULLACT : Field := ⟨.CAP, 0x1000, 7, 1, .RW, 0x0, .val, .PKR, 2048, 64, 0, 1, .all⟩
-- `CAP_CSTAT` at 0x1004, spec/04_cistern.md R131
def CSTAT_STATE : Field := ⟨.CAP, 0x1004, 0, 3, .RO, 0x0, .val, .PKR, 2048, 64, 0, 1, .all⟩
def CSTAT_WRAPPED : Field := ⟨.CAP, 0x1004, 3, 1, .W1C, 0x0, .val, .PKR, 2048, 64, 0, 1, .all⟩
def CSTAT_LANELOST : Field := ⟨.CAP, 0x1004, 4, 1, .W1C, 0x0, .val, .PKR, 2048, 64, 0, 1, .all⟩
def CSTAT_ARMERR : Field := ⟨.CAP, 0x1004, 5, 1, .W1C, 0x0, .val, .PKR, 2048, 64, 0, 1, .all⟩
-- `CAP_CBASE` at 0x1008, spec/04_cistern.md R131
def CBASE_BASE_LO : Field := ⟨.CAP, 0x1008, 0, 32, .RW, 0x0, .val, .PKR, 2048, 64, 0, 1, .all⟩
-- `CAP_CBASE` at 0x100C, spec/04_cistern.md R131
def CBASE_BASE_HI : Field := ⟨.CAP, 0x100C, 0, 16, .RW, 0x0, .val, .PKR, 2048, 64, 0, 1, .all⟩
-- `CAP_CSIZE` at 0x1010, spec/04_cistern.md R131
def CSIZE_LOG2 : Field := ⟨.CAP, 0x1010, 0, 6, .RW, 0x14, .val, .PKR, 2048, 64, 0, 1, .all⟩
-- `CAP_CENTRY` at 0x1014, spec/04_cistern.md R131
def CENTRY : Field := ⟨.CAP, 0x1014, 0, 10, .RW, 0x0, .val, .PKR, 2048, 64, 0, 1, .all⟩
-- `CAP_CPRE` at 0x1018, spec/04_cistern.md R131
def CPRE_PRE_LO : Field := ⟨.CAP, 0x1018, 0, 32, .RW, 0x0, .val, .PKR, 2048, 64, 0, 1, .all⟩
-- `CAP_CPRE` at 0x101C, spec/04_cistern.md R131
def CPRE_PRE_HI : Field := ⟨.CAP, 0x101C, 0, 4, .RW, 0x0, .val, .PKR, 2048, 64, 0, 1, .all⟩
-- `CAP_CWPTR` at 0x1020, spec/04_cistern.md R131
def CWPTR_WPTR_LO : Field := ⟨.CAP, 0x1020, 0, 32, .RO, 0x0, .val, .PKR, 2048, 64, 0, 1, .all⟩
-- `CAP_CWPTR` at 0x1024, spec/04_cistern.md R131
def CWPTR_WPTR_HI : Field := ⟨.CAP, 0x1024, 0, 4, .RO, 0x0, .val, .PKR, 2048, 64, 0, 1, .all⟩
-- `CAP_CRCNT` at 0x1028, spec/04_cistern.md R131
def CRCNT_RCNT_LO : Field := ⟨.CAP, 0x1028, 0, 32, .RO, 0x0, .val, .PKR, 2048, 64, 0, 1, .all⟩
-- `CAP_CRCNT` at 0x102C, spec/04_cistern.md R131
def CRCNT_RCNT_HI : Field := ⟨.CAP, 0x102C, 0, 32, .RO, 0x0, .val, .PKR, 2048, 64, 0, 1, .all⟩
-- `CAP_CTRIG` at 0x1030, spec/04_cistern.md R131
def CTRIG_TRIG_LO : Field := ⟨.CAP, 0x1030, 0, 32, .RO, 0xFFFFFFFF, .val, .PKR, 2048, 64, 0, 1, .all⟩
-- `CAP_CTRIG` at 0x1034, spec/04_cistern.md R131
def CTRIG_TRIG_HI : Field := ⟨.CAP, 0x1034, 0, 4, .RO, 0xF, .val, .PKR, 2048, 64, 0, 1, .all⟩
-- `CAP_COLD` at 0x1038, spec/04_cistern.md R131
def COLD_OLD_LO : Field := ⟨.CAP, 0x1038, 0, 32, .RO, 0x0, .val, .PKR, 2048, 64, 0, 1, .all⟩
-- `CAP_COLD` at 0x103C, spec/04_cistern.md R131
def COLD_OLD_HI : Field := ⟨.CAP, 0x103C, 0, 4, .RO, 0x0, .val, .PKR, 2048, 64, 0, 1, .all⟩
-- `CAP_CDISC` at 0x1040, spec/04_cistern.md R131
def CDISC : Field := ⟨.CAP, 0x1040, 0, 32, .RC, 0x0, .val, .PKR, 2048, 64, 0, 1, .all⟩

/-- The fields of the CAP block. -/
def fields : List Field :=
  [SCFG_LOAN, SBOOK0_LFREE, SBOOK0_LOANED, SBOOK1_FILLED, SBOOK1_RFREE, SBOOK2_RUSED, STAT_FULL, STAT_FULLEVT, STAT_MARKLOST, LSH, CCTRL_ARM, CCTRL_DISARM] ++
  [CCTRL_SWSTART, CCTRL_SWSTOP, CCTRL_GRP, CCTRL_FLTEN, CCTRL_FULLACT, CSTAT_STATE, CSTAT_WRAPPED, CSTAT_LANELOST, CSTAT_ARMERR, CBASE_BASE_LO, CBASE_BASE_HI, CSIZE_LOG2] ++
  [CENTRY, CPRE_PRE_LO, CPRE_PRE_HI, CWPTR_WPTR_LO, CWPTR_WPTR_HI, CRCNT_RCNT_LO, CRCNT_RCNT_HI, CTRIG_TRIG_LO, CTRIG_TRIG_HI, COLD_OLD_LO, COLD_OLD_HI, CDISC]

end Sys2Proof.Machine.CAP

namespace Sys2Proof.Machine.FLT

-- `FLT_CTRL` at 0x0000, spec/04_cistern.md R132
def CTRL_EN : Field := ⟨.FLT, 0x0, 0, 1, .RW, 0x0, .val, .PKR, 0, 1, 0, 1, .all⟩
def CTRL_INIT : Field := ⟨.FLT, 0x0, 1, 3, .RW, 0x0, .val, .PKR, 0, 1, 0, 1, .all⟩
-- `FLT_STAT` at 0x0004, spec/04_cistern.md R132
def STAT_STATE : Field := ⟨.FLT, 0x4, 0, 3, .RO, 0x0, .val, .PKR, 0, 1, 0, 1, .all⟩
def STAT_RUN : Field := ⟨.FLT, 0x4, 3, 1, .RO, 0x0, .val, .PKR, 0, 1, 0, 1, .all⟩
def STAT_FROZEN : Field := ⟨.FLT, 0x4, 4, 1, .RO, 0x0, .val, .PKR, 0, 1, 0, 1, .all⟩
def STAT_OVLAP : Field := ⟨.FLT, 0x4, 5, 1, .W1C, 0x0, .val, .PKR, 0, 1, 0, 1, .all⟩
-- `FLT_SWF` at 0x0008, spec/04_cistern.md R132
def SWF_LO : Field := ⟨.FLT, 0x8, 0, 32, .WO, 0x0, .val, .PKR, 0, 1, 0, 1, .all⟩
-- `FLT_SWF` at 0x000C, spec/04_cistern.md R132
def SWF_HI : Field := ⟨.FLT, 0xC, 0, 32, .WO, 0x0, .val, .PKR, 0, 1, 0, 1, .all⟩
-- `FLT_SEEN` at 0x0010, spec/04_cistern.md R132
def SEEN_LO : Field := ⟨.FLT, 0x10, 0, 32, .RC, 0x0, .val, .PKR, 0, 1, 0, 1, .all⟩
-- `FLT_SEEN` at 0x0014, spec/04_cistern.md R132
def SEEN_HI : Field := ⟨.FLT, 0x14, 0, 32, .RC, 0x0, .val, .PKR, 0, 1, 0, 1, .all⟩
-- `FLT_TS` at 0x0018, spec/04_cistern.md R132
def TS_LO : Field := ⟨.FLT, 0x18, 0, 32, .RSE, 0x0, .val, .PKR, 0, 1, 0, 1, .all⟩
-- `FLT_TS` at 0x001C, spec/04_cistern.md R132
def TS_MID : Field := ⟨.FLT, 0x1C, 0, 32, .RO, 0x0, .val, .PKR, 0, 1, 0, 1, .all⟩
-- `FLT_TS` at 0x0020, spec/04_cistern.md R132
def TS_HI : Field := ⟨.FLT, 0x20, 0, 16, .RO, 0x0, .val, .PKR, 0, 1, 0, 1, .all⟩
-- `FLT_TCNT` at 0x0024, spec/04_cistern.md R132
def TCNT : Field := ⟨.FLT, 0x24, 0, 32, .RO, 0x0, .val, .PKR, 0, 1, 0, 1, .all⟩
-- `FLT_EVM` at 0x0100, spec/04_cistern.md R132
def EVM_LO : Field := ⟨.FLT, 0x100, 0, 32, .RW, 0x0, .val, .PKR, 512, 8, 0, 1, .all⟩
-- `FLT_EVM` at 0x0104, spec/04_cistern.md R132
def EVM_HI : Field := ⟨.FLT, 0x104, 0, 32, .RW, 0x0, .val, .PKR, 512, 8, 0, 1, .all⟩
-- `FLT_CMP` at 0x0108, spec/04_cistern.md R132
def CMP : Field := ⟨.FLT, 0x108, 0, 32, .RW, 0x0, .val, .PKR, 512, 8, 0, 1, .all⟩
-- `FLT_TLIM` at 0x010C, spec/04_cistern.md R132
def TLIM : Field := ⟨.FLT, 0x10C, 0, 32, .RW, 0x0, .val, .PKR, 512, 8, 0, 1, .all⟩
-- `FLT_TRN` at 0x0110, spec/04_cistern.md R132
def TRN_NEXT_EV : Field := ⟨.FLT, 0x110, 0, 3, .RW, 0x0, .val, .PKR, 512, 8, 0, 1, .all⟩
def TRN_ACT_EV : Field := ⟨.FLT, 0x110, 4, 4, .RW, 0x0, .val, .PKR, 512, 8, 0, 1, .all⟩
def TRN_GRP_EV : Field := ⟨.FLT, 0x110, 8, 4, .RW, 0x0, .val, .PKR, 512, 8, 0, 1, .all⟩
def TRN_NEXT_TM : Field := ⟨.FLT, 0x110, 16, 3, .RW, 0x0, .val, .PKR, 512, 8, 0, 1, .all⟩
def TRN_ACT_TM : Field := ⟨.FLT, 0x110, 20, 4, .RW, 0x0, .val, .PKR, 512, 8, 0, 1, .all⟩
def TRN_GRP_TM : Field := ⟨.FLT, 0x110, 24, 4, .RW, 0x0, .val, .PKR, 512, 8, 0, 1, .all⟩
def TRN_TUNIT : Field := ⟨.FLT, 0x110, 28, 1, .RW, 0x0, .val, .PKR, 512, 8, 0, 1, .all⟩
-- `FLT_CNT` at 0x0114, spec/04_cistern.md R132
def CNT : Field := ⟨.FLT, 0x114, 0, 32, .RO, 0x0, .val, .PKR, 512, 8, 0, 1, .all⟩
-- `FLT_TMR` at 0x0118, spec/04_cistern.md R132
def TMR : Field := ⟨.FLT, 0x118, 0, 32, .RO, 0x0, .val, .PKR, 512, 8, 0, 1, .all⟩

/-- The fields of the FLT block. -/
def fields : List Field :=
  [CTRL_EN, CTRL_INIT, STAT_STATE, STAT_RUN, STAT_FROZEN, STAT_OVLAP, SWF_LO, SWF_HI, SEEN_LO, SEEN_HI, TS_LO, TS_MID] ++
  [TS_HI, TCNT, EVM_LO, EVM_HI, CMP, TLIM, TRN_NEXT_EV, TRN_ACT_EV, TRN_GRP_EV, TRN_NEXT_TM, TRN_ACT_TM, TRN_GRP_TM] ++
  [TRN_TUNIT, CNT, TMR]

end Sys2Proof.Machine.FLT

namespace Sys2Proof.Machine.DTC

-- `DTC_CTRL` at 0x0000, spec/06_time.md R171
def CTRL_MODE : Field := ⟨.DTC, 0x0, 0, 2, .RW, 0x0, .nv, .PKR, 0, 1, 0, 1, .all⟩
def CTRL_STEPBUSY : Field := ⟨.DTC, 0x0, 2, 1, .RW, 0x0, .nv, .PKR, 0, 1, 0, 1, .all⟩
def CTRL_PPSOEN : Field := ⟨.DTC, 0x0, 3, 1, .RW, 0x0, .nv, .PKR, 0, 1, 0, 1, .all⟩
-- `DTC_SSTAT` at 0x0004, spec/06_time.md R171
def SSTAT_STATE : Field := ⟨.DTC, 0x4, 0, 2, .RO, 0x0, .val, .PKR, 0, 1, 0, 1, .all⟩
def SSTAT_STEPPED : Field := ⟨.DTC, 0x4, 2, 1, .W1C, 0x0, .val, .PKR, 0, 1, 0, 1, .all⟩
def SSTAT_STEPHELD : Field := ⟨.DTC, 0x4, 3, 1, .W1C, 0x0, .val, .PKR, 0, 1, 0, 1, .all⟩
def SSTAT_CMDERR : Field := ⟨.DTC, 0x4, 4, 1, .W1C, 0x0, .val, .PKR, 0, 1, 0, 1, .all⟩
def SSTAT_PPSSEEN : Field := ⟨.DTC, 0x4, 5, 1, .W1C, 0x0, .val, .PKR, 0, 1, 0, 1, .all⟩
def SSTAT_KALOG : Field := ⟨.DTC, 0x4, 6, 1, .W1C, 0x0, .val, .POR, 0, 1, 0, 1, .all⟩
-- `DTC_INCR` at 0x0008, spec/06_time.md R171
def INCR_LO : Field := ⟨.DTC, 0x8, 0, 32, .RW, 0x0, .val, .POR, 0, 1, 0, 1, .all⟩
-- `DTC_INCR` at 0x000C, spec/06_time.md R171
def INCR_HI : Field := ⟨.DTC, 0xC, 0, 4, .RW, 0x4, .val, .POR, 0, 1, 0, 1, .all⟩
-- `DTC_TPLL` at 0x0010, spec/06_time.md R171
def TPLL_REFSEL : Field := ⟨.DTC, 0x10, 0, 2, .RW, 0x0, .nv, .PKR, 0, 1, 0, 1, (.leq 2)⟩
def TPLL_LOCK : Field := ⟨.DTC, 0x10, 2, 1, .RO, 0x0, .val, .PKR, 0, 1, 0, 1, .all⟩
-- `DTC_RD` at 0x0020, spec/06_time.md R171
def RD_FRAC : Field := ⟨.DTC, 0x20, 0, 16, .RSE, 0x0, .val, .PKR, 0, 1, 0, 1, .all⟩
-- `DTC_RD` at 0x0024, spec/06_time.md R171
def RD_NS : Field := ⟨.DTC, 0x24, 0, 32, .RO, 0x0, .val, .PKR, 0, 1, 0, 1, .all⟩
-- `DTC_RD` at 0x0028, spec/06_time.md R171
def RD_SECLO : Field := ⟨.DTC, 0x28, 0, 32, .RO, 0x0, .val, .PKR, 0, 1, 0, 1, .all⟩
-- `DTC_RD` at 0x002C, spec/06_time.md R171
def RD_SECHI : Field := ⟨.DTC, 0x2C, 0, 16, .RO, 0x0, .val, .PKR, 0, 1, 0, 1, .all⟩
-- `DTC_MCRD` at 0x0030, spec/06_time.md R171
def MCRD_FRAC : Field := ⟨.DTC, 0x30, 0, 16, .RSE, 0x0, .val, .PKR, 0, 1, 0, 1, .all⟩
-- `DTC_MCRD` at 0x0034, spec/06_time.md R171
def MCRD_NS : Field := ⟨.DTC, 0x34, 0, 32, .RO, 0x0, .val, .PKR, 0, 1, 0, 1, .all⟩
-- `DTC_MCRD` at 0x0038, spec/06_time.md R171
def MCRD_SECLO : Field := ⟨.DTC, 0x38, 0, 32, .RO, 0x0, .val, .PKR, 0, 1, 0, 1, .all⟩
-- `DTC_MCRD` at 0x003C, spec/06_time.md R171
def MCRD_SECHI : Field := ⟨.DTC, 0x3C, 0, 16, .RO, 0x0, .val, .PKR, 0, 1, 0, 1, .all⟩
-- `DTC_SET` at 0x0040, spec/06_time.md R171
def SET_FRAC : Field := ⟨.DTC, 0x40, 0, 16, .RW, 0x0, .val, .PKR, 0, 1, 0, 1, .all⟩
-- `DTC_SET` at 0x0044, spec/06_time.md R171
def SET_NS : Field := ⟨.DTC, 0x44, 0, 32, .RW, 0x0, .val, .PKR, 0, 1, 0, 1, .all⟩
-- `DTC_SET` at 0x0048, spec/06_time.md R171
def SET_SECLO : Field := ⟨.DTC, 0x48, 0, 32, .RW, 0x0, .val, .PKR, 0, 1, 0, 1, .all⟩
-- `DTC_SET` at 0x004C, spec/06_time.md R171
def SET_SECHI : Field := ⟨.DTC, 0x4C, 0, 16, .RW, 0x0, .val, .PKR, 0, 1, 0, 1, .all⟩
-- `DTC_CMD` at 0x0050, spec/06_time.md R171
def CMD_SET : Field := ⟨.DTC, 0x50, 0, 1, .WO, 0x0, .val, .PKR, 0, 1, 0, 1, .all⟩
def CMD_ADJ : Field := ⟨.DTC, 0x50, 1, 1, .WO, 0x0, .val, .PKR, 0, 1, 0, 1, .all⟩
def CMD_PEND : Field := ⟨.DTC, 0x50, 2, 1, .RO, 0x0, .val, .PKR, 0, 1, 0, 1, .all⟩
-- `DTC_ADJ` at 0x0058, spec/06_time.md R171
def ADJ_LO : Field := ⟨.DTC, 0x58, 0, 32, .RW, 0x0, .val, .PKR, 0, 1, 0, 1, .all⟩
-- `DTC_ADJ` at 0x005C, spec/06_time.md R171
def ADJ_HI : Field := ⟨.DTC, 0x5C, 0, 32, .RW, 0x0, .val, .PKR, 0, 1, 0, 1, .all⟩
-- `DTC_PPSO` at 0x0060, spec/06_time.md R171
def PPSO_OFS : Field := ⟨.DTC, 0x60, 0, 30, .RW, 0x0, .nv, .PKR, 0, 1, 0, 1, (.leq 999999999)⟩
-- `DTC_PPSO` at 0x0064, spec/06_time.md R171
def PPSO_WIDTH : Field := ⟨.DTC, 0x64, 0, 19, .RW, 0x186A0, .nv, .PKR, 0, 1, 0, 1, (.range 1 500000)⟩
-- `DTC_PPSI` at 0x0068, spec/06_time.md R171
def PPSI_FRAC : Field := ⟨.DTC, 0x68, 0, 16, .RSE, 0x0, .val, .PKR, 0, 1, 0, 1, .all⟩
-- `DTC_PPSI` at 0x006C, spec/06_time.md R171
def PPSI_NS : Field := ⟨.DTC, 0x6C, 0, 32, .RO, 0x0, .val, .PKR, 0, 1, 0, 1, .all⟩
-- `DTC_PPSI` at 0x0070, spec/06_time.md R171
def PPSI_SECLO : Field := ⟨.DTC, 0x70, 0, 32, .RO, 0x0, .val, .PKR, 0, 1, 0, 1, .all⟩
-- `DTC_PPSI` at 0x0074, spec/06_time.md R171
def PPSI_SECHI : Field := ⟨.DTC, 0x74, 0, 16, .RO, 0x0, .val, .PKR, 0, 1, 0, 1, .all⟩
-- `DTC_APPLY` at 0x0078, spec/06_time.md R171
def APPLY_FRAC : Field := ⟨.DTC, 0x78, 0, 16, .RO, 0x0, .val, .PKR, 0, 1, 0, 1, .all⟩
-- `DTC_APPLY` at 0x007C, spec/06_time.md R171
def APPLY_NS : Field := ⟨.DTC, 0x7C, 0, 32, .RO, 0x0, .val, .PKR, 0, 1, 0, 1, .all⟩
-- `DTC_APPLY` at 0x0080, spec/06_time.md R171
def APPLY_SECLO : Field := ⟨.DTC, 0x80, 0, 32, .RO, 0x0, .val, .PKR, 0, 1, 0, 1, .all⟩
-- `DTC_APPLY` at 0x0084, spec/06_time.md R171
def APPLY_SECHI : Field := ⟨.DTC, 0x84, 0, 16, .RO, 0x0, .val, .PKR, 0, 1, 0, 1, .all⟩
-- `DTC_KP` at 0x0088, spec/06_time.md R171
def KP : Field := ⟨.DTC, 0x88, 0, 16, .RW, 0xB3, .nv, .PKR, 0, 1, 0, 1, .all⟩
-- `DTC_KI` at 0x008C, spec/06_time.md R171
def KI : Field := ⟨.DTC, 0x8C, 0, 16, .RW, 0x4D, .nv, .PKR, 0, 1, 0, 1, .all⟩
-- `DTC_STEPTHR` at 0x0090, spec/06_time.md R171
def STEPTHR : Field := ⟨.DTC, 0x90, 0, 32, .RW, 0x3E8, .nv, .PKR, 0, 1, 0, 1, .all⟩
-- `DTC_SERVO0` at 0x0094, spec/06_time.md R171
def SERVO0_LOCKTHR : Field := ⟨.DTC, 0x94, 0, 16, .RW, 0x64, .nv, .PKR, 0, 1, 0, 1, .all⟩
def SERVO0_LOCKN : Field := ⟨.DTC, 0x94, 16, 8, .RW, 0x10, .nv, .PKR, 0, 1, 0, 1, (.geq 1)⟩
def SERVO0_HOLDN : Field := ⟨.DTC, 0x94, 24, 8, .RW, 0x8, .nv, .PKR, 0, 1, 0, 1, (.geq 1)⟩
-- `DTC_SERVO1` at 0x0098, spec/06_time.md R171
def SERVO1_HOLDAVG : Field := ⟨.DTC, 0x98, 0, 16, .RW, 0x3C, .nv, .PKR, 0, 1, 0, 1, (.geq 1)⟩
def SERVO1_MAXADJ : Field := ⟨.DTC, 0x98, 16, 16, .RW, 0x64, .nv, .PKR, 0, 1, 0, 1, (.range 1 500)⟩
-- `DTC_OFFS` at 0x00A0, spec/06_time.md R171
def OFFS : Field := ⟨.DTC, 0xA0, 0, 32, .RO, 0x0, .val, .PKR, 0, 1, 0, 1, .all⟩
-- `DTC_MPD` at 0x00A4, spec/06_time.md R171
def MPD : Field := ⟨.DTC, 0xA4, 0, 32, .RO, 0x0, .val, .PKR, 0, 1, 0, 1, .all⟩
-- `DTC_UTCOFS` at 0x00A8, spec/06_time.md R171
def UTCOFS : Field := ⟨.DTC, 0xA8, 0, 16, .RO, 0x0, .val, .PKR, 0, 1, 0, 1, .all⟩
def UTCOFS_UTCVAL : Field := ⟨.DTC, 0xA8, 16, 1, .RO, 0x0, .val, .PKR, 0, 1, 0, 1, .all⟩
-- `DTC_PTPCFG` at 0x00C0, spec/06_time.md R171
def PTPCFG_DELAYM : Field := ⟨.DTC, 0xC0, 0, 1, .RW, 0x0, .nv, .PKR, 0, 1, 0, 1, .all⟩
def PTPCFG_TWOSTEP : Field := ⟨.DTC, 0xC0, 1, 1, .RW, 0x0, .nv, .PKR, 0, 1, 0, 1, .all⟩
def PTPCFG_UDP : Field := ⟨.DTC, 0xC0, 2, 1, .RW, 0x0, .nv, .PKR, 0, 1, 0, 1, .all⟩
def PTPCFG_SGMII : Field := ⟨.DTC, 0xC0, 3, 1, .RW, 0x0, .nv, .PKR, 0, 1, 0, 1, .all⟩
def PTPCFG_MASTEROK : Field := ⟨.DTC, 0xC0, 4, 1, .RW, 0x0, .nv, .PKR, 0, 1, 0, 1, .all⟩
def PTPCFG_DOMAIN : Field := ⟨.DTC, 0xC0, 5, 7, .RW, 0x0, .nv, .PKR, 0, 1, 0, 1, .all⟩
def PTPCFG_PRIO1 : Field := ⟨.DTC, 0xC0, 12, 8, .RW, 0x0, .nv, .PKR, 0, 1, 0, 1, .all⟩
def PTPCFG_PRIO2 : Field := ⟨.DTC, 0xC0, 20, 8, .RW, 0x0, .nv, .PKR, 0, 1, 0, 1, .all⟩
-- `DTC_IPV4` at 0x00C4, spec/06_time.md R171
def IPV4 : Field := ⟨.DTC, 0xC4, 0, 32, .RW, 0x0, .nv, .PKR, 0, 1, 0, 1, .all⟩
-- `DTC_MAC` at 0x00C8, spec/06_time.md R171
def MAC_LO : Field := ⟨.DTC, 0xC8, 0, 32, .RW, 0x0, .nv, .PKR, 0, 1, 0, 1, .all⟩
-- `DTC_MAC` at 0x00CC, spec/06_time.md R171
def MAC_HI : Field := ⟨.DTC, 0xCC, 0, 16, .RW, 0x0, .nv, .PKR, 0, 1, 0, 1, .all⟩
-- `DTC_TPOFS` at 0x00D0, spec/06_time.md R171
def TPOFS_TX : Field := ⟨.DTC, 0xD0, 0, 16, .RW, 0x0, .nv, .PKR, 0, 1, 0, 1, .all⟩
def TPOFS_RX : Field := ⟨.DTC, 0xD0, 16, 16, .RW, 0x0, .nv, .PKR, 0, 1, 0, 1, .all⟩

/-- The fields of the DTC block. -/
def fields : List Field :=
  [CTRL_MODE, CTRL_STEPBUSY, CTRL_PPSOEN, SSTAT_STATE, SSTAT_STEPPED, SSTAT_STEPHELD, SSTAT_CMDERR, SSTAT_PPSSEEN, SSTAT_KALOG, INCR_LO, INCR_HI, TPLL_REFSEL] ++
  [TPLL_LOCK, RD_FRAC, RD_NS, RD_SECLO, RD_SECHI, MCRD_FRAC, MCRD_NS, MCRD_SECLO, MCRD_SECHI, SET_FRAC, SET_NS, SET_SECLO] ++
  [SET_SECHI, CMD_SET, CMD_ADJ, CMD_PEND, ADJ_LO, ADJ_HI, PPSO_OFS, PPSO_WIDTH, PPSI_FRAC, PPSI_NS, PPSI_SECLO, PPSI_SECHI] ++
  [APPLY_FRAC, APPLY_NS, APPLY_SECLO, APPLY_SECHI, KP, KI, STEPTHR, SERVO0_LOCKTHR, SERVO0_LOCKN, SERVO0_HOLDN, SERVO1_HOLDAVG, SERVO1_MAXADJ] ++
  [OFFS, MPD, UTCOFS, UTCOFS_UTCVAL, PTPCFG_DELAYM, PTPCFG_TWOSTEP, PTPCFG_UDP, PTPCFG_SGMII, PTPCFG_MASTEROK, PTPCFG_DOMAIN, PTPCFG_PRIO1, PTPCFG_PRIO2] ++
  [IPV4, MAC_LO, MAC_HI, TPOFS_TX, TPOFS_RX]

end Sys2Proof.Machine.DTC

namespace Sys2Proof.Machine.CXL

-- `CXL_LSTAT` at 0x0000, spec/16_cxl.md R409
def LSTAT_MODE : Field := ⟨.CXL, 0x0, 0, 2, .RO, 0x0, .val, .PKR, 0, 1, 0, 1, .all⟩
def LSTAT_WIDTH : Field := ⟨.CXL, 0x0, 2, 3, .RO, 0x0, .val, .PKR, 0, 1, 0, 1, .all⟩
def LSTAT_RATE : Field := ⟨.CXL, 0x0, 5, 3, .RO, 0x0, .val, .PKR, 0, 1, 0, 1, .all⟩
def LSTAT_CACHE : Field := ⟨.CXL, 0x0, 8, 1, .RO, 0x0, .val, .PKR, 0, 1, 0, 1, .all⟩
def LSTAT_MEM : Field := ⟨.CXL, 0x0, 9, 1, .RO, 0x0, .val, .PKR, 0, 1, 0, 1, .all⟩
def LSTAT_DEGRADED : Field := ⟨.CXL, 0x0, 10, 1, .RO, 0x0, .val, .PKR, 0, 1, 0, 1, .all⟩
-- `CXL_LCFG` at 0x0004, spec/16_cxl.md R409
def LCFG_MAXRATE : Field := ⟨.CXL, 0x4, 0, 3, .RW, 0x4, .nv, .PKR, 0, 1, 0, 1, (.range 2 4)⟩
def LCFG_MAXW : Field := ⟨.CXL, 0x4, 3, 3, .RW, 0x4, .nv, .PKR, 0, 1, 0, 1, (.range 2 4)⟩
-- `CXL_ERR` at 0x0008, spec/16_cxl.md R409
def ERR_WRDROP : Field := ⟨.CXL, 0x8, 0, 1, .W1C, 0x0, .val, .PKR, 0, 1, 0, 1, .all⟩
def ERR_RDERR : Field := ⟨.CXL, 0x8, 1, 1, .W1C, 0x0, .val, .PKR, 0, 1, 0, 1, .all⟩
def ERR_RDPOIS : Field := ⟨.CXL, 0x8, 2, 1, .W1C, 0x0, .val, .PKR, 0, 1, 0, 1, .all⟩
def ERR_MEMPOIS : Field := ⟨.CXL, 0x8, 3, 1, .W1C, 0x0, .val, .PKR, 0, 1, 0, 1, .all⟩
def ERR_LNKDN : Field := ⟨.CXL, 0x8, 4, 1, .W1C, 0x0, .val, .POR, 0, 1, 0, 1, .all⟩
-- `CXL_ECNT0` at 0x000C, spec/16_cxl.md R409
def ECNT0_WRDROP : Field := ⟨.CXL, 0xC, 0, 16, .RC, 0x0, .val, .PKR, 0, 1, 0, 1, .all⟩
def ECNT0_RDERR : Field := ⟨.CXL, 0xC, 16, 16, .RC, 0x0, .val, .PKR, 0, 1, 0, 1, .all⟩
-- `CXL_ECNT1` at 0x0010, spec/16_cxl.md R409
def ECNT1_RDPOIS : Field := ⟨.CXL, 0x10, 0, 16, .RC, 0x0, .val, .PKR, 0, 1, 0, 1, .all⟩
def ECNT1_MEMPOIS : Field := ⟨.CXL, 0x10, 16, 16, .RC, 0x0, .val, .PKR, 0, 1, 0, 1, .all⟩
-- `CXL_ELOG0` at 0x0014, spec/16_cxl.md R409
def ELOG0_ADDR_LO : Field := ⟨.CXL, 0x14, 0, 32, .RO, 0x0, .val, .PKR, 0, 1, 0, 1, .all⟩
-- `CXL_ELOG1` at 0x0018, spec/16_cxl.md R409
def ELOG1_ADDR_HI : Field := ⟨.CXL, 0x18, 0, 16, .RO, 0x0, .val, .PKR, 0, 1, 0, 1, .all⟩
def ELOG1_ST : Field := ⟨.CXL, 0x18, 16, 3, .RO, 0x0, .val, .PKR, 0, 1, 0, 1, .all⟩
def ELOG1_KIND : Field := ⟨.CXL, 0x18, 19, 2, .RO, 0x0, .val, .PKR, 0, 1, 0, 1, .all⟩
def ELOG1_VALID : Field := ⟨.CXL, 0x18, 31, 1, .W1C, 0x0, .val, .PKR, 0, 1, 0, 1, .all⟩
-- `CXL_LIRQ` at 0x0200, spec/16_cxl.md R409
def LIRQ_EN : Field := ⟨.CXL, 0x200, 0, 1, .RW, 0x0, .val, .PKR, 0, 1, 0, 1, .all⟩
def LIRQ_ARMED : Field := ⟨.CXL, 0x200, 1, 1, .W1S, 0x0, .val, .PKR, 0, 1, 0, 1, .all⟩
def LIRQ_HOLDOFF : Field := ⟨.CXL, 0x200, 16, 16, .RW, 0x0, .val, .PKR, 0, 1, 0, 1, .all⟩
-- `CXL_LREL` at 0x0204, spec/16_cxl.md R409
def LREL_ENTRY : Field := ⟨.CXL, 0x204, 0, 10, .WO, 0x0, .val, .PKR, 0, 1, 0, 1, .all⟩
def LREL_GO : Field := ⟨.CXL, 0x204, 10, 1, .WO, 0x0, .val, .PKR, 0, 1, 0, 1, .all⟩
-- `CXL_LGST` at 0x0208, spec/16_cxl.md R409
def LGST_RELERR : Field := ⟨.CXL, 0x208, 0, 1, .W1C, 0x0, .val, .PKR, 0, 1, 0, 1, .all⟩
def LGST_MIRERR : Field := ⟨.CXL, 0x208, 1, 1, .W1C, 0x0, .val, .PKR, 0, 1, 0, 1, .all⟩
def LGST_CROVF : Field := ⟨.CXL, 0x208, 2, 1, .W1C, 0x0, .val, .PKR, 0, 1, 0, 1, .all⟩
-- `CXL_LCRDROP` at 0x020C, spec/16_cxl.md R409
def LCRDROP : Field := ⟨.CXL, 0x20C, 0, 32, .RC, 0x0, .val, .PKR, 0, 1, 0, 1, .all⟩
-- `CXL_LMIR` at 0x0220, spec/16_cxl.md R409
def LMIR_EN : Field := ⟨.CXL, 0x220, 0, 1, .RW, 0x0, .val, .PKR, 0, 1, 0, 1, .all⟩
def LMIR_BASE : Field := ⟨.CXL, 0x220, 16, 16, .RW, 0x0, .val, .PKR, 0, 1, 0, 1, .all⟩
-- `CXL_LMIR` at 0x0224, spec/16_cxl.md R409
def LMIR_BASE_HI : Field := ⟨.CXL, 0x224, 0, 32, .RW, 0x0, .val, .PKR, 0, 1, 0, 1, .all⟩
-- `CXL_LCR` at 0x0230, spec/16_cxl.md R409
def LCR_EN : Field := ⟨.CXL, 0x230, 0, 1, .RW, 0x0, .val, .PKR, 0, 1, 0, 1, .all⟩
def LCR_LOG2 : Field := ⟨.CXL, 0x230, 1, 5, .RW, 0x6, .val, .PKR, 0, 1, 0, 1, (.range 6 16)⟩
def LCR_BASE : Field := ⟨.CXL, 0x230, 12, 20, .RW, 0x0, .val, .PKR, 0, 1, 0, 1, .all⟩
-- `CXL_LCR` at 0x0234, spec/16_cxl.md R409
def LCR_BASE_HI : Field := ⟨.CXL, 0x234, 0, 32, .RW, 0x0, .val, .PKR, 0, 1, 0, 1, .all⟩
-- `CXL_LCRPROD` at 0x0238, spec/16_cxl.md R409
def LCRPROD : Field := ⟨.CXL, 0x238, 0, 32, .RO, 0x0, .val, .PKR, 0, 1, 0, 1, .all⟩
-- `CXL_LCRCONS` at 0x023C, spec/16_cxl.md R409
def LCRCONS : Field := ⟨.CXL, 0x23C, 0, 32, .RW, 0x0, .val, .PKR, 0, 1, 0, 1, .all⟩
-- `CXL_LCHG` at 0x0280, spec/16_cxl.md R409
def LCHG : Field := ⟨.CXL, 0x280, 0, 32, .W1C, 0x0, .val, .PKR, 32, 32, 0, 1, .all⟩
-- `CXL_B4WIN` at 0x0400, spec/01_package_architecture.md R39
def B4WIN_SEL : Field := ⟨.CXL, 0x400, 0, 2, .RW, 0x0, .val, .PKR, 0, 1, 0, 1, .all⟩

/-- The fields of the CXL block. -/
def fields : List Field :=
  [LSTAT_MODE, LSTAT_WIDTH, LSTAT_RATE, LSTAT_CACHE, LSTAT_MEM, LSTAT_DEGRADED, LCFG_MAXRATE, LCFG_MAXW, ERR_WRDROP, ERR_RDERR, ERR_RDPOIS, ERR_MEMPOIS] ++
  [ERR_LNKDN, ECNT0_WRDROP, ECNT0_RDERR, ECNT1_RDPOIS, ECNT1_MEMPOIS, ELOG0_ADDR_LO, ELOG1_ADDR_HI, ELOG1_ST, ELOG1_KIND, ELOG1_VALID, LIRQ_EN, LIRQ_ARMED] ++
  [LIRQ_HOLDOFF, LREL_ENTRY, LREL_GO, LGST_RELERR, LGST_MIRERR, LGST_CROVF, LCRDROP, LMIR_EN, LMIR_BASE, LMIR_BASE_HI, LCR_EN, LCR_LOG2] ++
  [LCR_BASE, LCR_BASE_HI, LCRPROD, LCRCONS, LCHG, B4WIN_SEL]

end Sys2Proof.Machine.CXL

namespace Sys2Proof.Machine.LGR

-- `LGR_W0` at 0x0000, spec/16_cxl.md R410
def UPD : Field := ⟨.LGR, 0x0, 0, 16, .RO, 0x0, .val, .PKR, 512, 1024, 0, 1, .all⟩
def OPCODE : Field := ⟨.LGR, 0x0, 16, 16, .RO, 0x0, .val, .PKR, 512, 1024, 0, 1, .all⟩
-- `LGR_W1` at 0x0004, spec/16_cxl.md R410
def STATE : Field := ⟨.LGR, 0x4, 0, 3, .RO, 0x0, .val, .PKR, 512, 1024, 0, 1, .all⟩
def PHASE : Field := ⟨.LGR, 0x4, 8, 8, .RO, 0x0, .val, .PKR, 512, 1024, 0, 1, .all⟩
def ERROR : Field := ⟨.LGR, 0x4, 16, 16, .RO, 0x0, .val, .PKR, 512, 1024, 0, 1, .all⟩
-- `LGR_W2` at 0x0008, spec/16_cxl.md R410
def PROGRESS : Field := ⟨.LGR, 0x8, 0, 32, .RO, 0x0, .val, .PKR, 512, 1024, 0, 1, .all⟩
-- `LGR_W3` at 0x000C, spec/16_cxl.md R410
def REQSRC : Field := ⟨.LGR, 0xC, 0, 12, .RO, 0x0, .val, .PKR, 512, 1024, 0, 1, .all⟩
def TS0 : Field := ⟨.LGR, 0xC, 16, 16, .RO, 0x0, .val, .PKR, 512, 1024, 0, 1, .all⟩
-- `LGR_W4` at 0x0010, spec/16_cxl.md R410
def TS1 : Field := ⟨.LGR, 0x10, 0, 32, .RO, 0x0, .val, .PKR, 512, 1024, 0, 1, .all⟩
-- `LGR_W5` at 0x0014, spec/16_cxl.md R410
def TS2 : Field := ⟨.LGR, 0x14, 0, 32, .RO, 0x0, .val, .PKR, 512, 1024, 0, 1, .all⟩
-- `LGR_W6` at 0x0018, spec/16_cxl.md R410
def RESULT_LO : Field := ⟨.LGR, 0x18, 0, 32, .RO, 0x0, .val, .PKR, 512, 1024, 0, 1, .all⟩
-- `LGR_W7` at 0x001C, spec/16_cxl.md R410
def RESULT_HI : Field := ⟨.LGR, 0x1C, 0, 32, .RO, 0x0, .val, .PKR, 512, 1024, 0, 1, .all⟩
-- `LGR_OPSPEC` at 0x0020, spec/16_cxl.md R410
def OPSPEC : Field := ⟨.LGR, 0x20, 0, 32, .RO, 0x0, .val, .PKR, 512, 1024, 32, 8, .all⟩

/-- The fields of the LGR block. -/
def fields : List Field :=
  [UPD, OPCODE, STATE, PHASE, ERROR, PROGRESS, REQSRC, TS0, TS1, TS2, RESULT_LO, RESULT_HI] ++
  [OPSPEC]

end Sys2Proof.Machine.LGR

namespace Sys2Proof.Machine.HDG

-- `HDG_LCS` at 0x0000, spec/18_security_update.md R459
def LCS : Field := ⟨.HDG, 0x0, 0, 2, .RO, 0x0, .fixed, .POR, 0, 1, 0, 1, .all⟩
def LCS_WELOK : Field := ⟨.HDG, 0x0, 2, 1, .RO, 0x0, .fixed, .POR, 0, 1, 0, 1, .all⟩
-- `HDG_STAT` at 0x0004, spec/18_security_update.md R459
def STAT_KEYOK : Field := ⟨.HDG, 0x4, 0, 1, .RO, 0x0, .val, .PKR, 0, 1, 0, 1, .all⟩
def STAT_BOOTALT : Field := ⟨.HDG, 0x4, 1, 1, .W1C, 0x0, .val, .POR, 0, 1, 0, 1, .all⟩
def STAT_OCERR : Field := ⟨.HDG, 0x4, 2, 1, .W1C, 0x0, .val, .PKR, 0, 1, 0, 1, .all⟩
-- `HDG_DPUB` at 0x0100, spec/18_security_update.md R459
def DPUB : Field := ⟨.HDG, 0x100, 0, 32, .RO, 0x0, .fixed, .POR, 32, 24, 0, 1, .all⟩
-- `HDG_ROOTH` at 0x0200, spec/18_security_update.md R459
def ROOTH : Field := ⟨.HDG, 0x200, 0, 32, .RO, 0x0, .fixed, .POR, 32, 12, 0, 1, .all⟩
-- `HDG_OWNH` at 0x0240, spec/18_security_update.md R459
def OWNH : Field := ⟨.HDG, 0x240, 0, 32, .RO, 0x0, .fixed, .POR, 32, 12, 0, 1, .all⟩
-- `HDG_OKEY` at 0x0280, spec/18_security_update.md R459
def OKEY : Field := ⟨.HDG, 0x280, 0, 32, .RW, 0x0, .val, .PKR, 32, 12, 0, 1, .all⟩
-- `HDG_OCMD` at 0x02B0, spec/18_security_update.md R459
def OCMD_GO : Field := ⟨.HDG, 0x2B0, 0, 1, .WO, 0x0, .val, .PKR, 0, 1, 0, 1, .all⟩
def OCMD_CODE : Field := ⟨.HDG, 0x2B0, 16, 16, .WO, 0x0, .val, .PKR, 0, 1, 0, 1, .all⟩
-- `HDG_ARB` at 0x0300, spec/18_security_update.md R459
def ARB : Field := ⟨.HDG, 0x300, 0, 8, .RO, 0x0, .fixed, .POR, 32, 8, 0, 1, .all⟩

/-- The fields of the HDG block. -/
def fields : List Field :=
  [LCS, LCS_WELOK, STAT_KEYOK, STAT_BOOTALT, STAT_OCERR, DPUB, ROOTH, OWNH, OKEY, OCMD_GO, OCMD_CODE, ARB]

end Sys2Proof.Machine.HDG

namespace Sys2Proof.Machine.FWU

-- `FWU_STAT` at 0x0000, spec/18_security_update.md R460
def STAT_STATE : Field := ⟨.FWU, 0x0, 0, 3, .RO, 0x0, .fixed, .PKR, 0, 1, 0, 1, .all⟩
def STAT_MIGOK : Field := ⟨.FWU, 0x0, 3, 1, .RO, 0x0, .val, .PKR, 0, 1, 0, 1, .all⟩
def STAT_MIGFAIL : Field := ⟨.FWU, 0x0, 4, 1, .W1S, 0x0, .val, .PKR, 0, 1, 0, 1, .all⟩
def STAT_CFERR : Field := ⟨.FWU, 0x0, 5, 1, .W1C, 0x0, .val, .PKR, 0, 1, 0, 1, .all⟩
def STAT_PRIV : Field := ⟨.FWU, 0x0, 6, 1, .RO, 0x0, .fixed, .PKR, 0, 1, 0, 1, .all⟩
def STAT_LASTRES : Field := ⟨.FWU, 0x0, 8, 2, .RO, 0x0, .fixed, .PKR, 0, 1, 0, 1, .all⟩
def STAT_REVCAUSE : Field := ⟨.FWU, 0x0, 10, 3, .RO, 0x0, .fixed, .PKR, 0, 1, 0, 1, .all⟩
-- `FWU_CONFIRM` at 0x0004, spec/18_security_update.md R460
def CONFIRM_KEY : Field := ⟨.FWU, 0x4, 0, 16, .WO, 0x0, .val, .PKR, 0, 1, 0, 1, .all⟩
-- `FWU_WIN` at 0x0008, spec/18_security_update.md R460
def WIN_REMAIN : Field := ⟨.FWU, 0x8, 0, 32, .RO, 0x0, .val, .PKR, 0, 1, 0, 1, .all⟩
-- `FWU_WINSET` at 0x000C, spec/18_security_update.md R460
def WINSET_LEN : Field := ⟨.FWU, 0xC, 0, 12, .RO, 0x0, .fixed, .PKR, 0, 1, 0, 1, .all⟩
-- `FWU_CTRL` at 0x0010, spec/18_security_update.md R460
def CTRL_CANCEL : Field := ⟨.FWU, 0x10, 0, 1, .WO, 0x0, .val, .PKR, 0, 1, 0, 1, .all⟩
def CTRL_ABORT : Field := ⟨.FWU, 0x10, 1, 1, .WO, 0x0, .val, .PKR, 0, 1, 0, 1, .all⟩
-- `FWU_ACT` at 0x0020, spec/18_security_update.md R460
def ACT_HWFW : Field := ⟨.FWU, 0x20, 0, 1, .RO, 0x0, .fixed, .PKR, 0, 1, 0, 1, .all⟩
def ACT_LOADER : Field := ⟨.FWU, 0x20, 1, 1, .RO, 0x0, .fixed, .PKR, 0, 1, 0, 1, .all⟩
def ACT_HBMFW : Field := ⟨.FWU, 0x20, 2, 1, .RO, 0x0, .fixed, .PKR, 0, 1, 0, 1, .all⟩
def ACT_LANEMC : Field := ⟨.FWU, 0x20, 3, 1, .RO, 0x0, .fixed, .PKR, 0, 1, 0, 1, .all⟩
def ACT_HWSET : Field := ⟨.FWU, 0x20, 4, 1, .RO, 0x0, .fixed, .PKR, 0, 1, 0, 1, .all⟩
def ACT_FIMG : Field := ⟨.FWU, 0x20, 8, 8, .RO, 0x0, .fixed, .PKR, 0, 1, 0, 1, .all⟩
def ACT_FSET : Field := ⟨.FWU, 0x20, 16, 8, .RO, 0x0, .fixed, .PKR, 0, 1, 0, 1, .all⟩
-- `FWU_FWVER` at 0x0030, spec/18_security_update.md R460
def FWVER : Field := ⟨.FWU, 0x30, 0, 32, .RO, 0x0, .fixed, .PKR, 0, 1, 0, 1, .all⟩
-- `FWU_LDRVER` at 0x0034, spec/18_security_update.md R460
def LDRVER : Field := ⟨.FWU, 0x34, 0, 32, .RO, 0x0, .fixed, .PKR, 0, 1, 0, 1, .all⟩
-- `FWU_HBMVER` at 0x0038, spec/18_security_update.md R460
def HBMVER : Field := ⟨.FWU, 0x38, 0, 32, .RO, 0x0, .fixed, .PKR, 0, 1, 0, 1, .all⟩
-- `FWU_LANEVER` at 0x003C, spec/18_security_update.md R460
def LANEVER : Field := ⟨.FWU, 0x3C, 0, 32, .RO, 0x0, .fixed, .PKR, 0, 1, 0, 1, .all⟩
-- `FWU_BID` at 0x0040, spec/18_security_update.md R460
def BID_LO : Field := ⟨.FWU, 0x40, 0, 32, .RO, 0x0, .fixed, .PKR, 0, 1, 0, 1, .all⟩
-- `FWU_BID` at 0x0044, spec/18_security_update.md R460
def BID_HI : Field := ⟨.FWU, 0x44, 0, 32, .RO, 0x0, .fixed, .PKR, 0, 1, 0, 1, .all⟩
-- `FWU_RX` at 0x0048, spec/18_security_update.md R460
def RX_LO : Field := ⟨.FWU, 0x48, 0, 32, .RO, 0x0, .val, .PKR, 0, 1, 0, 1, .all⟩
-- `FWU_RX` at 0x004C, spec/18_security_update.md R460
def RX_HI : Field := ⟨.FWU, 0x4C, 0, 32, .RO, 0x0, .val, .PKR, 0, 1, 0, 1, .all⟩
-- `FWU_ERR` at 0x0050, spec/18_security_update.md R460
def ERR_CODE : Field := ⟨.FWU, 0x50, 0, 16, .RO, 0x0, .val, .PKR, 0, 1, 0, 1, .all⟩
def ERR_PART : Field := ⟨.FWU, 0x50, 16, 8, .RO, 0x0, .val, .PKR, 0, 1, 0, 1, .all⟩

/-- The fields of the FWU block. -/
def fields : List Field :=
  [STAT_STATE, STAT_MIGOK, STAT_MIGFAIL, STAT_CFERR, STAT_PRIV, STAT_LASTRES, STAT_REVCAUSE, CONFIRM_KEY, WIN_REMAIN, WINSET_LEN, CTRL_CANCEL, CTRL_ABORT] ++
  [ACT_HWFW, ACT_LOADER, ACT_HBMFW, ACT_LANEMC, ACT_HWSET, ACT_FIMG, ACT_FSET, FWVER, LDRVER, HBMVER, LANEVER, BID_LO] ++
  [BID_HI, RX_LO, RX_HI, ERR_CODE, ERR_PART]

end Sys2Proof.Machine.FWU

namespace Sys2Proof.Machine.PWR

-- `PWR_STAT` at 0x0000, spec/20_power_reset.md R511
def STAT_TWARN : Field := ⟨.PWR, 0x0, 0, 1, .RO, 0x0, .val, .PKR, 0, 1, 0, 1, .all⟩
def STAT_TWARNEVT : Field := ⟨.PWR, 0x0, 1, 1, .W1C, 0x0, .val, .PKR, 0, 1, 0, 1, .all⟩
def STAT_PLIM : Field := ⟨.PWR, 0x0, 2, 1, .RO, 0x0, .val, .PKR, 0, 1, 0, 1, .all⟩
def STAT_PLIMEVT : Field := ⟨.PWR, 0x0, 3, 1, .W1C, 0x0, .val, .PKR, 0, 1, 0, 1, .all⟩
def STAT_SUPWARN : Field := ⟨.PWR, 0x0, 4, 1, .W1C, 0x0, .val, .PKR, 0, 1, 0, 1, .all⟩
def STAT_FTRIP : Field := ⟨.PWR, 0x0, 8, 8, .W1C, 0x0, .val, .POR, 0, 1, 0, 1, .all⟩
-- `PWR_CMD` at 0x0004, spec/20_power_reset.md R511
def CMD_OP : Field := ⟨.PWR, 0x4, 0, 2, .WO, 0x0, .val, .PKR, 0, 1, 0, 1, .all⟩
def CMD_FIELD : Field := ⟨.PWR, 0x4, 2, 3, .WO, 0x0, .val, .PKR, 0, 1, 0, 1, .all⟩
def CMD_KEY : Field := ⟨.PWR, 0x4, 16, 16, .WO, 0x0, .val, .PKR, 0, 1, 0, 1, .all⟩
-- `PWR_CSTAT` at 0x0008, spec/20_power_reset.md R511
def CSTAT_CODE : Field := ⟨.PWR, 0x8, 0, 3, .RO, 0x0, .val, .PKR, 0, 1, 0, 1, .all⟩
def CSTAT_CMDERR : Field := ⟨.PWR, 0x8, 3, 1, .W1C, 0x0, .val, .PKR, 0, 1, 0, 1, .all⟩
def CSTAT_BUSY : Field := ⟨.PWR, 0x8, 4, 1, .RO, 0x0, .val, .PKR, 0, 1, 0, 1, .all⟩
-- `PWR_FALLOW` at 0x000C, spec/20_power_reset.md R511
def FALLOW_ATPKR : Field := ⟨.PWR, 0xC, 0, 8, .RW, 0x0, .nv, .POR, 0, 1, 0, 1, .all⟩
def FALLOW : Field := ⟨.PWR, 0xC, 8, 8, .RO, 0x0, .val, .PKR, 0, 1, 0, 1, .all⟩
-- `PWR_POL` at 0x0010, spec/20_power_reset.md R511
def POL_QGATE : Field := ⟨.PWR, 0x10, 0, 1, .RW, 0x1, .nv, .PKR, 0, 1, 0, 1, .all⟩
def POL_CGATE : Field := ⟨.PWR, 0x10, 1, 1, .RW, 0x1, .nv, .PKR, 0, 1, 0, 1, .all⟩
def POL_BGATE : Field := ⟨.PWR, 0x10, 2, 1, .RW, 0x1, .nv, .PKR, 0, 1, 0, 1, .all⟩
def POL_CHOLD : Field := ⟨.PWR, 0x10, 8, 8, .RW, 0xA, .nv, .PKR, 0, 1, 0, 1, (.geq 1)⟩
def POL_BHOLD : Field := ⟨.PWR, 0x10, 16, 8, .RW, 0xA, .nv, .PKR, 0, 1, 0, 1, (.geq 1)⟩
def POL_QHOLD : Field := ⟨.PWR, 0x10, 24, 8, .RW, 0x64, .nv, .PKR, 0, 1, 0, 1, (.geq 1)⟩
-- `PWR_HBMOP` at 0x0014, spec/20_power_reset.md R511
def HBMOP_RATE : Field := ⟨.PWR, 0x14, 0, 2, .RW, 0x0, .val, .PKR, 0, 1, 0, 1, .all⟩
def HBMOP_GO : Field := ⟨.PWR, 0x14, 2, 1, .WO, 0x0, .val, .PKR, 0, 1, 0, 1, .all⟩
def HBMOP_BUSY : Field := ⟨.PWR, 0x14, 3, 1, .RO, 0x0, .val, .PKR, 0, 1, 0, 1, .all⟩
def HBMOP_ERR : Field := ⟨.PWR, 0x14, 4, 1, .W1C, 0x0, .val, .PKR, 0, 1, 0, 1, .all⟩
-- `PWR_TLIM` at 0x0018, spec/20_power_reset.md R511
def TLIM_WARN : Field := ⟨.PWR, 0x18, 0, 8, .RW, 0x5A, .nv, .PKR, 0, 1, 0, 1, (.leq 114)⟩
def TLIM_TRIP : Field := ⟨.PWR, 0x18, 8, 8, .RO, 0x73, .fixed, .POR, 0, 1, 0, 1, .all⟩
-- `PWR_LIMIT` at 0x001C, spec/20_power_reset.md R511
def LIMIT : Field := ⟨.PWR, 0x1C, 0, 16, .RW, 0x36B0, .nv, .PKR, 0, 1, 0, 1, .all⟩
-- `PWR_PKG` at 0x0020, spec/20_power_reset.md R511
def PKG : Field := ⟨.PWR, 0x20, 0, 16, .RO, 0x0, .val, .PKR, 0, 1, 0, 1, .all⟩
-- `PWR_WAKE` at 0x0024, spec/20_power_reset.md R511
def WAKE : Field := ⟨.PWR, 0x24, 0, 2, .RO, 0x0, .val, .POR, 0, 1, 0, 1, .all⟩
def WAKE_ENTRY : Field := ⟨.PWR, 0x24, 2, 2, .RO, 0x0, .val, .POR, 0, 1, 0, 1, .all⟩
-- `PWR_WTMR` at 0x0028, spec/20_power_reset.md R511
def WTMR : Field := ⟨.PWR, 0x28, 0, 32, .RW, 0x0, .val, .POR, 0, 1, 0, 1, .all⟩
-- `PWR_TSENS` at 0x0100, spec/20_power_reset.md R511
def TSENS_TEMP : Field := ⟨.PWR, 0x100, 0, 8, .RO, 0x0, .val, .PKR, 32, 8, 0, 1, .all⟩
def TSENS_PEAK : Field := ⟨.PWR, 0x100, 8, 8, .RC, 0x0, .val, .PKR, 32, 8, 0, 1, .all⟩
-- `PWR_SUPV` at 0x0200, spec/20_power_reset.md R511
def SUPV_MV : Field := ⟨.PWR, 0x200, 0, 16, .RO, 0x0, .val, .PKR, 32, 6, 0, 1, .all⟩
def SUPV_CUR : Field := ⟨.PWR, 0x200, 16, 16, .RO, 0x0, .val, .PKR, 32, 6, 0, 1, .all⟩
-- `PWR_DON` at 0x0300, spec/20_power_reset.md R511
def DON_LO : Field := ⟨.PWR, 0x300, 0, 32, .RO, 0x0, .val, .PKR, 0, 1, 0, 1, .all⟩
-- `PWR_DON` at 0x0304, spec/20_power_reset.md R511
def DON_HI : Field := ⟨.PWR, 0x304, 0, 16, .RO, 0x0, .val, .PKR, 0, 1, 0, 1, .all⟩

/-- The fields of the PWR block. -/
def fields : List Field :=
  [STAT_TWARN, STAT_TWARNEVT, STAT_PLIM, STAT_PLIMEVT, STAT_SUPWARN, STAT_FTRIP, CMD_OP, CMD_FIELD, CMD_KEY, CSTAT_CODE, CSTAT_CMDERR, CSTAT_BUSY] ++
  [FALLOW_ATPKR, FALLOW, POL_QGATE, POL_CGATE, POL_BGATE, POL_CHOLD, POL_BHOLD, POL_QHOLD, HBMOP_RATE, HBMOP_GO, HBMOP_BUSY, HBMOP_ERR] ++
  [TLIM_WARN, TLIM_TRIP, LIMIT, PKG, WAKE, WAKE_ENTRY, WTMR, TSENS_TEMP, TSENS_PEAK, SUPV_MV, SUPV_CUR, DON_LO] ++
  [DON_HI]

end Sys2Proof.Machine.PWR

namespace Sys2Proof.Machine.CLK

-- `CLK_STAT` at 0x0000, spec/20_power_reset.md R512
def STAT_REFF : Field := ⟨.CLK, 0x0, 0, 1, .RO, 0x0, .val, .POR, 0, 1, 0, 1, .all⟩
def STAT_SLOWINT : Field := ⟨.CLK, 0x0, 1, 1, .RO, 0x0, .val, .POR, 0, 1, 0, 1, .all⟩
def STAT_REFLOST : Field := ⟨.CLK, 0x0, 2, 1, .W1C, 0x0, .val, .POR, 0, 1, 0, 1, .all⟩
-- `CLK_LOCK` at 0x0004, spec/20_power_reset.md R512
def LOCK : Field := ⟨.CLK, 0x4, 0, 18, .RO, 0x0, .val, .PKR, 0, 1, 0, 1, .all⟩
-- `CLK_UNLK` at 0x0008, spec/20_power_reset.md R512
def UNLK : Field := ⟨.CLK, 0x8, 0, 18, .W1C, 0x0, .val, .PKR, 0, 1, 0, 1, .all⟩
-- `CLK_ON` at 0x000C, spec/20_power_reset.md R512
def ON : Field := ⟨.CLK, 0xC, 0, 18, .RO, 0x0, .val, .PKR, 0, 1, 0, 1, .all⟩
-- `CLK_WCLK` at 0x0010, spec/20_power_reset.md R512
def WCLK_WMHZ : Field := ⟨.CLK, 0x10, 0, 10, .RO, 0x0, .val, .PKR, 0, 1, 0, 1, .all⟩

/-- The fields of the CLK block. -/
def fields : List Field :=
  [STAT_REFF, STAT_SLOWINT, STAT_REFLOST, LOCK, UNLK, ON, WCLK_WMHZ]

end Sys2Proof.Machine.CLK

namespace Sys2Proof.Machine.RST

-- `RST_CAUSE` at 0x0000, spec/20_power_reset.md R513
def CAUSE_SRC : Field := ⟨.RST, 0x0, 0, 5, .RO, 0x1, .val, .POR, 0, 1, 0, 1, .all⟩
-- `RST_CNT` at 0x0004, spec/20_power_reset.md R513
def CNT_COUNT : Field := ⟨.RST, 0x4, 0, 16, .RO, 0x0, .val, .POR, 0, 1, 0, 1, .all⟩
-- `RST_TS` at 0x0010, spec/20_power_reset.md R513
def TS_FRAC : Field := ⟨.RST, 0x10, 0, 16, .RO, 0x0, .val, .POR, 0, 1, 0, 1, .all⟩
-- `RST_TS` at 0x0014, spec/20_power_reset.md R513
def TS_NS : Field := ⟨.RST, 0x14, 0, 32, .RO, 0x0, .val, .POR, 0, 1, 0, 1, .all⟩
-- `RST_TS` at 0x0018, spec/20_power_reset.md R513
def TS_SECLO : Field := ⟨.RST, 0x18, 0, 32, .RO, 0x0, .val, .POR, 0, 1, 0, 1, .all⟩
-- `RST_TS` at 0x001C, spec/20_power_reset.md R513
def TS_SECHI : Field := ⟨.RST, 0x1C, 0, 16, .RO, 0x0, .val, .POR, 0, 1, 0, 1, .all⟩
-- `RST_CMD` at 0x0020, spec/20_power_reset.md R513
def CMD_PKR : Field := ⟨.RST, 0x20, 0, 1, .WO, 0x0, .val, .PKR, 0, 1, 0, 1, .all⟩
def CMD_KEY : Field := ⟨.RST, 0x20, 16, 16, .WO, 0x0, .val, .PKR, 0, 1, 0, 1, .all⟩
-- `RST_SYNC` at 0x0800, spec/17_configuration.md R434
def SYNC_SYNCEN : Field := ⟨.RST, 0x800, 0, 1, .RW, 0x0, .nv, .PKR, 0, 1, 0, 1, .all⟩
def SYNC_LEVEL : Field := ⟨.RST, 0x800, 1, 1, .RO, 0x0, .val, .PKR, 0, 1, 0, 1, .all⟩
def SYNC_DRIVE : Field := ⟨.RST, 0x800, 2, 1, .RO, 0x1, .val, .PKR, 0, 1, 0, 1, .all⟩
def SYNC_RELEASED : Field := ⟨.RST, 0x800, 3, 1, .RO, 0x0, .val, .PKR, 0, 1, 0, 1, .all⟩
def SYNC_SYNCTMO : Field := ⟨.RST, 0x800, 4, 1, .W1C, 0x0, .val, .PKR, 0, 1, 0, 1, .all⟩
def SYNC_TIMEOUT : Field := ⟨.RST, 0x800, 16, 16, .RW, 0x0, .nv, .PKR, 0, 1, 0, 1, .all⟩
-- `RST_RELTS` at 0x0810, spec/17_configuration.md R434
def RELTS_FRAC : Field := ⟨.RST, 0x810, 0, 16, .RO, 0x0, .val, .PKR, 0, 1, 0, 1, .all⟩
-- `RST_RELTS` at 0x0814, spec/17_configuration.md R434
def RELTS_NS : Field := ⟨.RST, 0x814, 0, 32, .RO, 0x0, .val, .PKR, 0, 1, 0, 1, .all⟩
-- `RST_RELTS` at 0x0818, spec/17_configuration.md R434
def RELTS_SECLO : Field := ⟨.RST, 0x818, 0, 32, .RO, 0x0, .val, .PKR, 0, 1, 0, 1, .all⟩
-- `RST_RELTS` at 0x081C, spec/17_configuration.md R434
def RELTS_SECHI : Field := ⟨.RST, 0x81C, 0, 16, .RO, 0x0, .val, .PKR, 0, 1, 0, 1, .all⟩

/-- The fields of the RST block. -/
def fields : List Field :=
  [CAUSE_SRC, CNT_COUNT, TS_FRAC, TS_NS, TS_SECLO, TS_SECHI, CMD_PKR, CMD_KEY, SYNC_SYNCEN, SYNC_LEVEL, SYNC_DRIVE, SYNC_RELEASED] ++
  [SYNC_SYNCTMO, SYNC_TIMEOUT, RELTS_FRAC, RELTS_NS, RELTS_SECLO, RELTS_SECHI]

end Sys2Proof.Machine.RST

namespace Sys2Proof.Machine.DBG

-- `DBG_CTRL` at 0x0000, spec/19_debug.md R486
def CTRL_MSPEN : Field := ⟨.DBG, 0x0, 0, 1, .RW, 0x1, .nv, .PKR, 0, 1, 0, 1, .all⟩
def CTRL_HCEN : Field := ⟨.DBG, 0x0, 1, 1, .RW, 0x1, .nv, .PKR, 0, 1, 0, 1, .all⟩
-- `DBG_MSP` at 0x0004, spec/19_debug.md R486
def MSP_DIV : Field := ⟨.DBG, 0x4, 0, 16, .RW, 0x1A0, .nv, .PKR, 0, 1, 0, 1, (.range 4 65535)⟩
-- `DBG_SESS` at 0x0008, spec/19_debug.md R486
def SESS_ACTIVE : Field := ⟨.DBG, 0x8, 0, 1, .RO, 0x0, .val, .PKR, 0, 1, 0, 1, .all⟩
def SESS_XPORT : Field := ⟨.DBG, 0x8, 1, 1, .RO, 0x0, .val, .PKR, 0, 1, 0, 1, .all⟩
-- `DBG_SID` at 0x000C, spec/19_debug.md R486
def SID : Field := ⟨.DBG, 0xC, 0, 32, .RO, 0x0, .val, .PKR, 0, 1, 0, 1, .all⟩
-- `DBG_PEEKA` at 0x0010, spec/19_debug.md R486
def PEEKA : Field := ⟨.DBG, 0x10, 0, 24, .RW, 0x0, .val, .PKR, 0, 1, 0, 1, .all⟩
-- `DBG_PEEKD` at 0x0014, spec/19_debug.md R486
def PEEKD : Field := ⟨.DBG, 0x14, 0, 32, .RO, 0x0, .val, .PKR, 0, 1, 0, 1, .all⟩
-- `DBG_PSTAT` at 0x0018, spec/19_debug.md R486
def PSTAT_NOPEEK : Field := ⟨.DBG, 0x18, 0, 1, .W1C, 0x0, .val, .PKR, 0, 1, 0, 1, .all⟩
-- `DBG_TBASE` at 0x0100, spec/19_debug.md R486
def TBASE_LO : Field := ⟨.DBG, 0x100, 0, 32, .RW, 0x0, .val, .PKR, 0, 1, 0, 1, .all⟩
-- `DBG_TBASE` at 0x0104, spec/19_debug.md R486
def TBASE_HI : Field := ⟨.DBG, 0x104, 0, 16, .RW, 0x0, .val, .PKR, 0, 1, 0, 1, .all⟩
-- `DBG_TCFG` at 0x0108, spec/19_debug.md R486
def TCFG_EN : Field := ⟨.DBG, 0x108, 0, 1, .RW, 0x0, .val, .PKR, 0, 1, 0, 1, .all⟩
def TCFG_WRAP : Field := ⟨.DBG, 0x108, 1, 1, .RW, 0x0, .val, .PKR, 0, 1, 0, 1, .all⟩
def TCFG_LOG2 : Field := ⟨.DBG, 0x108, 2, 6, .RW, 0x14, .val, .PKR, 0, 1, 0, 1, (.range 20 34)⟩
-- `DBG_TSTAT` at 0x010C, spec/19_debug.md R486
def TSTAT_STATE : Field := ⟨.DBG, 0x10C, 0, 2, .RO, 0x0, .val, .PKR, 0, 1, 0, 1, .all⟩
-- `DBG_TWPTR` at 0x0110, spec/19_debug.md R486
def TWPTR_WPTR_LO : Field := ⟨.DBG, 0x110, 0, 32, .RO, 0x0, .val, .PKR, 0, 1, 0, 1, .all⟩
-- `DBG_TWPTR` at 0x0114, spec/19_debug.md R486
def TWPTR_WPTR_HI : Field := ⟨.DBG, 0x114, 0, 2, .RO, 0x0, .val, .PKR, 0, 1, 0, 1, .all⟩
-- `DBG_TDROP` at 0x0118, spec/19_debug.md R486
def TDROP : Field := ⟨.DBG, 0x118, 0, 32, .RC, 0x0, .val, .PKR, 0, 1, 0, 1, .all⟩
-- `DBG_HSTAT` at 0x1000, spec/19_debug.md R486
def HSTAT_STATE : Field := ⟨.DBG, 0x1000, 0, 2, .RO, 0x0, .val, .PKR, 32, 256, 0, 1, .all⟩
def HSTAT_CAUSE : Field := ⟨.DBG, 0x1000, 2, 3, .RO, 0x0, .val, .PKR, 32, 256, 0, 1, .all⟩
def HSTAT_DU : Field := ⟨.DBG, 0x1000, 5, 3, .RO, 0x0, .val, .PKR, 32, 256, 0, 1, .all⟩
def HSTAT_LOCKBROKEN : Field := ⟨.DBG, 0x1000, 8, 1, .W1C, 0x0, .val, .PKR, 32, 256, 0, 1, .all⟩
def HSTAT_DEFERCYC : Field := ⟨.DBG, 0x1000, 9, 7, .RO, 0x0, .val, .PKR, 32, 256, 0, 1, .all⟩
def HSTAT_PC : Field := ⟨.DBG, 0x1000, 16, 15, .RO, 0x0, .val, .PKR, 32, 256, 0, 1, .all⟩

/-- The fields of the DBG block. -/
def fields : List Field :=
  [CTRL_MSPEN, CTRL_HCEN, MSP_DIV, SESS_ACTIVE, SESS_XPORT, SID, PEEKA, PEEKD, PSTAT_NOPEEK, TBASE_LO, TBASE_HI, TCFG_EN] ++
  [TCFG_WRAP, TCFG_LOG2, TSTAT_STATE, TWPTR_WPTR_LO, TWPTR_WPTR_HI, TDROP, HSTAT_STATE, HSTAT_CAUSE, HSTAT_DU, HSTAT_LOCKBROKEN, HSTAT_DEFERCYC, HSTAT_PC]

end Sys2Proof.Machine.DBG

namespace Sys2Proof.Machine.TRN

-- `TRN_CTRL` at 0x0000, spec/08_flume.md R233
def CTRL_EN : Field := ⟨.TRN, 0x0, 0, 1, .RW, 0x0, .nv, .PKR, 2048, 2, 0, 1, .all⟩
def CTRL_X16OK : Field := ⟨.TRN, 0x0, 1, 1, .RW, 0x0, .nv, .PKR, 2048, 2, 0, 1, .all⟩
def CTRL_MAXRATE : Field := ⟨.TRN, 0x0, 2, 3, .RW, 0x5, .nv, .PKR, 2048, 2, 0, 1, (.leq 5)⟩
-- `TRN_STAT` at 0x0004, spec/08_flume.md R233
def STAT_STATE : Field := ⟨.TRN, 0x4, 0, 3, .RO, 0x0, .val, .PKR, 2048, 2, 0, 1, .all⟩
def STAT_RATE : Field := ⟨.TRN, 0x4, 3, 3, .RO, 0x0, .val, .PKR, 2048, 2, 0, 1, .all⟩
def STAT_W0 : Field := ⟨.TRN, 0x4, 6, 2, .RO, 0x0, .val, .PKR, 2048, 2, 0, 1, .all⟩
def STAT_W1 : Field := ⟨.TRN, 0x4, 8, 2, .RO, 0x0, .val, .PKR, 2048, 2, 0, 1, .all⟩
def STAT_IDERR : Field := ⟨.TRN, 0x4, 10, 1, .W1C, 0x0, .val, .PKR, 2048, 2, 0, 1, .all⟩
-- `TRN_GID` at 0x0008, spec/08_flume.md R233
def GID_VENDOR : Field := ⟨.TRN, 0x8, 0, 16, .RO, 0x0, .rollCall, .PKR, 2048, 2, 0, 1, .all⟩
def GID_DESIGN : Field := ⟨.TRN, 0x8, 16, 8, .RO, 0x0, .rollCall, .PKR, 2048, 2, 0, 1, .all⟩
def GID_REV : Field := ⟨.TRN, 0x8, 24, 4, .RO, 0x0, .rollCall, .PKR, 2048, 2, 0, 1, .all⟩
-- `TRN_GSER` at 0x000C, spec/08_flume.md R233
def GSER_LO : Field := ⟨.TRN, 0xC, 0, 32, .RO, 0x0, .rollCall, .PKR, 2048, 2, 0, 1, .all⟩
-- `TRN_GSER` at 0x0010, spec/08_flume.md R233
def GSER_HI : Field := ⟨.TRN, 0x10, 0, 32, .RO, 0x0, .rollCall, .PKR, 2048, 2, 0, 1, .all⟩
-- `TRN_ALLOW` at 0x0014, spec/08_flume.md R233
def ALLOW_VENDOR : Field := ⟨.TRN, 0x14, 0, 16, .RW, 0x0, .nv, .PKR, 2048, 2, 0, 1, .all⟩
def ALLOW_DESIGN : Field := ⟨.TRN, 0x14, 16, 8, .RW, 0x0, .nv, .PKR, 2048, 2, 0, 1, .all⟩
-- `TRN_CNT` at 0x0018, spec/08_flume.md R233
def CNT_RETRN : Field := ⟨.TRN, 0x18, 0, 16, .RC, 0x0, .val, .PKR, 2048, 2, 0, 1, .all⟩
def CNT_CRCERR : Field := ⟨.TRN, 0x18, 16, 16, .RC, 0x0, .val, .PKR, 2048, 2, 0, 1, .all⟩
-- `TRN_REPAIR` at 0x001C, spec/08_flume.md R233
def REPAIR_REP0 : Field := ⟨.TRN, 0x1C, 0, 8, .RO, 0x0, .val, .PKR, 2048, 2, 0, 1, .all⟩
def REPAIR_REP1 : Field := ⟨.TRN, 0x1C, 8, 8, .RO, 0x0, .val, .PKR, 2048, 2, 0, 1, .all⟩

/-- The fields of the TRN block. -/
def fields : List Field :=
  [CTRL_EN, CTRL_X16OK, CTRL_MAXRATE, STAT_STATE, STAT_RATE, STAT_W0, STAT_W1, STAT_IDERR, GID_VENDOR, GID_DESIGN, GID_REV, GSER_LO] ++
  [GSER_HI, ALLOW_VENDOR, ALLOW_DESIGN, CNT_RETRN, CNT_CRCERR, REPAIR_REP0, REPAIR_REP1]

end Sys2Proof.Machine.TRN

namespace Sys2Proof.Machine.GAU

-- `GAU_STAT` at 0x0000, spec/19_debug.md R488
def STAT_UNLOCKED : Field := ⟨.GAU, 0x0, 0, 1, .RO, 0x0, .val, .PKR, 0, 1, 0, 1, .all⟩
def STAT_LOCKERR : Field := ⟨.GAU, 0x0, 1, 1, .W1C, 0x0, .val, .PKR, 0, 1, 0, 1, .all⟩
def STAT_TOKERR : Field := ⟨.GAU, 0x0, 2, 1, .W1C, 0x0, .val, .PKR, 0, 1, 0, 1, .all⟩
def STAT_SCOPE : Field := ⟨.GAU, 0x0, 3, 2, .RO, 0x0, .val, .PKR, 0, 1, 0, 1, .all⟩
-- `GAU_REMAIN` at 0x0004, spec/19_debug.md R488
def REMAIN : Field := ⟨.GAU, 0x4, 0, 32, .RO, 0x0, .val, .PKR, 0, 1, 0, 1, .all⟩
-- `GAU_CHAL` at 0x0010, spec/19_debug.md R488
def CHAL : Field := ⟨.GAU, 0x10, 0, 32, .RSE, 0x0, .val, .PKR, 32, 8, 0, 1, .all⟩
-- `GAU_TOK` at 0x0100, spec/19_debug.md R488
def TOK : Field := ⟨.GAU, 0x100, 0, 32, .RW, 0x0, .val, .PKR, 32, 64, 0, 1, .all⟩
-- `GAU_CMD` at 0x0200, spec/19_debug.md R488
def CMD_GO : Field := ⟨.GAU, 0x200, 0, 1, .WO, 0x0, .val, .PKR, 0, 1, 0, 1, .all⟩
def CMD_RELOCK : Field := ⟨.GAU, 0x200, 1, 1, .WO, 0x0, .val, .PKR, 0, 1, 0, 1, .all⟩
-- `GAU_SEL` at 0x0300, spec/19_debug.md R488
def SEL_EN : Field := ⟨.GAU, 0x300, 0, 1, .RW, 0x0, .val, .PKR, 32, 16, 0, 1, .all⟩
def SEL_PROBE : Field := ⟨.GAU, 0x300, 1, 10, .RW, 0x0, .val, .PKR, 32, 16, 0, 1, .all⟩
-- `GAU_FSEL` at 0x0400, spec/19_debug.md R488
def FSEL_EN : Field := ⟨.GAU, 0x400, 0, 1, .RW, 0x0, .val, .PKR, 128, 8, 32, 4, .all⟩
def FSEL_PROBE : Field := ⟨.GAU, 0x400, 1, 9, .RW, 0x0, .val, .PKR, 128, 8, 32, 4, (.leq 383)⟩

/-- The fields of the GAU block. -/
def fields : List Field :=
  [STAT_UNLOCKED, STAT_LOCKERR, STAT_TOKERR, STAT_SCOPE, REMAIN, CHAL, TOK, CMD_GO, CMD_RELOCK, SEL_EN, SEL_PROBE, FSEL_EN] ++
  [FSEL_PROBE]

end Sys2Proof.Machine.GAU

namespace Sys2Proof.Machine.WHC

-- `WHC_DOOR` at 0x0000, spec/19_debug.md R485
def DOOR_REQ : Field := ⟨.WHC, 0x0, 0, 1, .WO, 0x0, .val, .PKR, 0, 1, 0, 1, .all⟩
def DOOR_RSPACK : Field := ⟨.WHC, 0x0, 1, 1, .WO, 0x0, .val, .PKR, 0, 1, 0, 1, .all⟩
def DOOR_EVTACK : Field := ⟨.WHC, 0x0, 2, 1, .WO, 0x0, .val, .PKR, 0, 1, 0, 1, .all⟩
-- `WHC_STAT` at 0x0004, spec/19_debug.md R485
def STAT_UP : Field := ⟨.WHC, 0x4, 0, 1, .RO, 0x0, .val, .PKR, 0, 1, 0, 1, .all⟩
def STAT_REQBUSY : Field := ⟨.WHC, 0x4, 1, 1, .RO, 0x0, .val, .PKR, 0, 1, 0, 1, .all⟩
def STAT_RSPV : Field := ⟨.WHC, 0x4, 2, 1, .RO, 0x0, .val, .PKR, 0, 1, 0, 1, .all⟩
def STAT_EVTV : Field := ⟨.WHC, 0x4, 3, 1, .RO, 0x0, .val, .PKR, 0, 1, 0, 1, .all⟩
-- `WHC_REQBUF` at 0x1000, spec/19_debug.md R485
def REQBUF : Field := ⟨.WHC, 0x1000, 0, 32, .RW, 0x0, .val, .PKR, 32, 1024, 0, 1, .all⟩
-- `WHC_RSPBUF` at 0x2000, spec/19_debug.md R485
def RSPBUF : Field := ⟨.WHC, 0x2000, 0, 32, .RO, 0x0, .val, .PKR, 32, 1024, 0, 1, .all⟩
-- `WHC_EVTBUF` at 0x3000, spec/19_debug.md R485
def EVTBUF : Field := ⟨.WHC, 0x3000, 0, 32, .RO, 0x0, .val, .PKR, 32, 1024, 0, 1, .all⟩

/-- The fields of the WHC block. -/
def fields : List Field :=
  [DOOR_REQ, DOOR_RSPACK, DOOR_EVTACK, STAT_UP, STAT_REQBUSY, STAT_RSPV, STAT_EVTV, REQBUF, RSPBUF, EVTBUF]

end Sys2Proof.Machine.WHC
end

