-- ==== Sys2Proof/Machine/Ops.lean ====
section
/-! DEFINITION. The named operations over the state that every meaning uses: reading and writing a register field, the
response to an access, outputs, the population, the DTC's value and formats, and the event log. -/
namespace Sys2Proof.Machine

/-- What every meaning answers. -/
abbrev Result := Host.Outcome State Fault Refusal

/-! Register fields. -/

/-- The value of a field (R17: what a read returns, before any side effect). -/
def State.get (s : State) (f : Field) (i : Nat := 0) (j : Nat := 0) (k : Nat := 0) : Nat :=
  (Store.get (BitVec.ofNat 32 (f.resetAt i j k)) (f.key i j k) s.csr).toNat

/-- Give a field a value, cut to its width. -/
def State.set (s : State) (f : Field) (v : Nat) (i : Nat := 0) (j : Nat := 0) (k : Nat := 0) : State :=
  { s with csr := Store.set (BitVec.ofNat 32 (f.resetAt i j k)) (f.key i j k) (BitVec.ofNat 32 (v % 2 ^ f.w)) s.csr }

/-- A one-bit field as a Bool. -/
def State.flag (s : State) (f : Field) (i : Nat := 0) (j : Nat := 0) (k : Nat := 0) : Bool := s.get f i j k == 1

/-- Set a one-bit field. -/
def State.raise (s : State) (f : Field) (i : Nat := 0) (j : Nat := 0) (k : Nat := 0) : State := s.set f 1 i j k

/-- Clear a field. -/
def State.lower (s : State) (f : Field) (i : Nat := 0) (j : Nat := 0) (k : Nat := 0) : State := s.set f 0 i j k

/-- Set a one-bit field to a Bool. -/
def State.setB (s : State) (f : Field) (b : Bool) (i : Nat := 0) (j : Nat := 0) (k : Nat := 0) : State :=
  s.set f (if b then 1 else 0) i j k

/-- Restore a field to its reset value. -/
def State.clearField (s : State) (f : Field) (i : Nat := 0) (j : Nat := 0) (k : Nat := 0) : State :=
  s.set f (f.resetAt i j k) i j k

/-- Add n to a counter that saturates at its width. -/
def State.count (s : State) (f : Field) (n : Nat := 1) (i : Nat := 0) (j : Nat := 0) (k : Nat := 0) : State :=
  s.set f (min (s.get f i j k + n) (2 ^ f.w - 1)) i j k

/-- Add n to a counter that wraps at its width. -/
def State.wrap (s : State) (f : Field) (n : Nat := 1) (i : Nat := 0) (j : Nat := 0) (k : Nat := 0) : State :=
  s.set f (s.get f i j k + n) i j k

/-- R21: the value that spans a _LO and a _HI register. -/
def State.get2 (s : State) (lo hi : Field) (i : Nat := 0) (j : Nat := 0) (k : Nat := 0) : Nat :=
  s.get lo i j k + s.get hi i j k * 2 ^ 32

/-- R21: give the value that spans a _LO and a _HI register. -/
def State.set2 (s : State) (lo hi : Field) (v : Nat) (i : Nat := 0) (j : Nat := 0) (k : Nat := 0) : State :=
  (s.set lo v i j k).set hi (v / 2 ^ 32) i j k

/-- Add n to a counter of lo.w + hi.w bits that wraps. -/
def State.wrap2 (s : State) (lo hi : Field) (n : Nat) (i : Nat := 0) (j : Nat := 0) (k : Nat := 0) : State :=
  s.set2 lo hi (s.get2 lo hi i j k + n) i j k

/-- One bit of a field. -/
def State.bit (s : State) (f : Field) (b : Nat) (i : Nat := 0) (j : Nat := 0) (k : Nat := 0) : Bool :=
  bitOf (s.get f i j k) b

/-- Set one bit of a field. -/
def State.setBitOf (s : State) (f : Field) (b : Nat) (i : Nat := 0) (j : Nat := 0) (k : Nat := 0) : State :=
  s.set f (setBit (s.get f i j k) b) i j k

/-- Clear one bit of a field. -/
def State.clearBitOf (s : State) (f : Field) (b : Nat) (i : Nat := 0) (j : Nat := 0) (k : Nat := 0) : State :=
  s.set f (clearBit (s.get f i j k) b) i j k

/-- R16: is an encoding one that the field's table defines? PWR_TLIM.WARN goes up to the trip temperature less one (R511). -/
def State.defines (s : State) (f : Field) (x : Nat) : Bool := f.dom.allows x && (f != PWR.TLIM_WARN || decide (x < s.get PWR.TLIM_TRIP))

/-- R16, R17: a write of the word v to an RW field, which an undefined encoding leaves unchanged. -/
def State.wr (s : State) (v : Nat) (f : Field) (i : Nat := 0) (j : Nat := 0) (k : Nat := 0) : State :=
  if f.dom.allows (bitsOf v f.lo f.w) then s.set f (bitsOf v f.lo f.w) i j k else s

/-- A write of the word v to several RW fields of one register. -/
def State.wrAll (s : State) (v : Nat) (fs : List Field) (i : Nat := 0) (j : Nat := 0) (k : Nat := 0) : State :=
  fs.foldl (fun s f => s.wr v f i j k) s

/-- R17: a write of the word v to a W1C field. -/
def State.w1c (s : State) (v : Nat) (f : Field) (i : Nat := 0) (j : Nat := 0) (k : Nat := 0) : State :=
  s.set f (s.get f i j k ^^^ (s.get f i j k &&& bitsOf v f.lo f.w)) i j k

/-- The W1C fields of one register. -/
def State.w1cAll (s : State) (v : Nat) (fs : List Field) (i : Nat := 0) (j : Nat := 0) (k : Nat := 0) : State :=
  fs.foldl (fun s f => s.w1c v f i j k) s

/-! Reset values and the fields of a register. -/

/-- R20: the value that a reset gives a field: the settings area's for an NV field that it sets, else the Reset column's. -/
def State.resetVal (s : State) (f : Field) (i : Nat := 0) (j : Nat := 0) (k : Nat := 0) : Nat :=
  match f.src with
  | .nv => match Store.find (f.key i j k) s.settings with
    | some v => v.toNat
    | none => f.rst
  | _ => f.resetAt i j k

/-- The array indices of the elements of a field that lie in the register at byte offset ofs of the block, each with its
lowest bit there. -/
def Field.inWord (f : Field) (ofs : Nat) : List (Nat × Nat × Nat) :=
  if ofs < f.off ∨ f.off + (f.n1 - 1) * f.s1 / 8 + (f.n2 - 1) * f.s2 / 8 < ofs then []
  else
    (List.range f.n1).flatMap fun j =>
      if f.n2 = 1 then
        let b := 8 * f.off + f.lo + j * f.s1
        if 8 * ofs ≤ b ∧ b < 8 * ofs + 32 then [(j, 0, b - 8 * ofs)] else []
      else (List.range f.n2).filterMap fun k =>
        let b := 8 * f.off + f.lo + j * f.s1 + k * f.s2
        if 8 * ofs ≤ b ∧ b < 8 * ofs + 32 then some (j, k, b - 8 * ofs) else none

/-! Values that the spec leaves open. -/

/-- The open value of a name at this state (DESIGN CHOICE, log entry 5). -/
def State.openValue (s : State) (o : Config.Open) : Nat := Config.openValue o s.free

/-- Advance the model's counter, so that the next open value is another one (DESIGN CHOICE, log entry 5). -/
def State.used (s : State) : State := { s with free := s.free + 1 }

/-! Responses and outputs. -/

/-- Answer an access with a status and no data (DESIGN CHOICE, log entry 49). -/
def State.answer (s : State) (st : RStat) : State := { s with resp := { st := st } }

/-- Answer an access with data. -/
def State.answerData (s : State) (d : List Byte) : State := { s with resp := { st := .ok, data := d } }

/-- Send something out of the part (DESIGN CHOICE, log entry 49). -/
def State.emit (s : State) (o : Out) : State := { s with out := s.out ++ [o] }

/-! The population (R4-R7) and who serves (R32). -/

/-- R5: is the site of field n populated? -/
def State.present (s : State) (n : Nat) : Bool :=
  if s.part.pop = 8 then decide (n < 8)
  else if s.part.pop = 6 then n == 0 || n == 1 || n == 2 || n == 4 || n == 5 || n == 6
  else if s.part.pop = 4 then n == 0 || n == 1 || n == 4 || n == 5
  else n == 0 || n == 4

/-- R32: a field serves while its FREADY bit is set. -/
def State.serves (s : State) (n : Nat) : Bool := s.bit GLB.AVAIL_FREADY n

/-- The hidden state of a field's parcel swap. -/
def State.swap (s : State) (n : Nat) : Option SwapSt := Store.find n s.swaps
def State.setSwap (s : State) (n : Nat) (v : SwapSt) : State := { s with swaps := Store.put n v s.swaps }
def State.endSwap (s : State) (n : Nat) : State := { s with swaps := Store.drop n s.swaps }

/-- The fabric of field n. -/
def State.fab (s : State) (n : Nat) : FabSt := Store.get {} n s.fabs

/-- Update the fabric of field n. -/
def State.setFab (s : State) (n : Nat) (f : FabSt) : State := { s with fabs := Store.put n f s.fabs }

/-- R419: field n has no fabric image. -/
def State.dropFab (s : State) (n : Nat) : State := { s with fabs := Store.drop n s.fabs }

/-- R316: float pulses reach the fabric of every field, where each float input waits for its clock. -/
def State.fabFloats (s : State) (m : Nat) : State :=
  { s with fabs := s.fabs.map fun e => (e.1, { e.2 with floatPend := e.2.floatPend ||| m }) }

/-- R428: the check gates of parcel p of field n are engaged. -/
def State.gated (s : State) (n p : Nat) : Bool := s.get FCC.PSTAT_STATE n p != 0

/-- R422, R428: a fabric port of field n takes requests: WEN has run, and the parcel of its logic, if it has one, is not gated
(ports numbered as FieldSt.place). -/
def State.fabricOpen (s : State) (n x : Nat) : Bool :=
  s.bit FCC.STEP_DONE 3 n && match Store.find x (Store.get {} n s.fields).place with
    | some p => !s.gated n p
    | none => true

/-- R45: the part is in recovery access. -/
def State.inRecovery (s : State) : Bool := s.get GLB.SERV_STATE == 1

/-- R45: the blocks that work in recovery access. -/
def Blk.inRecovery : Blk → Bool
  | .GLB | .LGR | .HDG | .FWU | .DBG | .WHC => true
  | _ => false

/-- R32, R45, R157: the error response that an access to a block receives instead of reaching it, if any; n is the field
of a field block, whose clocks stop with TCLK (DEDUCED, log entry 8). -/
def State.barred (s : State) (b : Blk) (n : Nat) : Option RStat :=
  if s.inRecovery && !b.inRecovery then some .poison
  else if b.inField && !s.serves n then some .poison
  else if b.inField && !s.time.tclk then some .timeout
  else none

/-- R195: TRK_TOCNT counts an access that the tracker answers with TIMEOUT. -/
def State.timedOut (s : State) (st : RStat) : State := if st = .timeout then s.count TRK.TOCNT else s

/-- A register access to a block: its effect where the block is reached, else the error response and no effect (R32)
(DEDUCED, log entry 8). -/
def State.access (s : State) (b : Blk) (n : Nat) (f : State → State) : State :=
  match s.barred b n with
  | some st => (s.timedOut st).answer st
  | none => (f s).answer .ok

/-! The DTC's formats (R155, R108). -/

/-- Units of 2^-32 ns in one second. -/
def secUnits : Nat := 1000000000 * 2 ^ 32

/-- A microsecond and a millisecond in units of 2^-32 ns. -/
def usUnits : Nat := 1000 * 2 ^ 32
/-- A microsecond on State.elapsed. -/
def usFs : Nat := 10 ^ 9
def msUnits : Nat := 1000000 * 2 ^ 32

/-- R155: the DTC wraps with SEC at 2^48. -/
def dtcModulus : Nat := secUnits * 2 ^ 48

/-- R155: FRAC, NS and SEC of a time in units of 2^-32 ns. -/
def fracOf (t : Nat) : Nat := t / 2 ^ 16 % 2 ^ 16
def nsOf (t : Nat) : Nat := t / 2 ^ 32 % 1000000000
def secOf (t : Nat) : Nat := t / secUnits

/-- A time from SEC, NS and FRAC, in units of 2^-32 ns. -/
def timeOf (sec ns frac : Nat) : Nat := sec * secUnits + ns * 2 ^ 32 + frac * 2 ^ 16

/-- R108: the 80-bit TS format: FRAC with [7:0] zero, NS, SEC [31:0]. -/
def tsOf (t : Nat) : Nat := fracOf t / 256 * 256 + nsOf t * 2 ^ 16 + secOf t % 2 ^ 32 * 2 ^ 48

/-- A register set laid out as DTC_RD (R171): FRAC, NS, SECLO, SECHI. -/
structure StampRegs where
  frac : Field
  ns : Field
  seclo : Field
  sechi : Field

/-- Record a time in a register set laid out as DTC_RD. -/
def State.setStamp (s : State) (r : StampRegs) (t : Nat) (i : Nat := 0) : State :=
  (((s.set r.frac (fracOf t) i).set r.ns (nsOf t) i).set r.seclo (secOf t) i).set r.sechi (secOf t / 2 ^ 32) i

/-- The time that a register set laid out as DTC_RD holds. -/
def State.stampOf (s : State) (r : StampRegs) (i : Nat := 0) : Nat :=
  timeOf (s.get2 r.seclo r.sechi i) (s.get r.ns i) (s.get r.frac i)

/-- The master DTC now, in units of 2^-32 ns (DESIGN CHOICE, log entry 9). -/
def State.now (s : State) : Nat := s.time.dtc

/-- The slave of field n. -/
def State.slave (s : State) (n : Nat) : SlaveSt := Store.get {} n s.slaves

/-- Update the slave of field n. -/
def State.setSlave (s : State) (n : Nat) (v : SlaveSt) : State := { s with slaves := Store.set {} n v s.slaves }

/-- The slave DTC of field n now, in units of 2^-32 ns. -/
def State.fieldNow (s : State) (n : Nat) : Nat := (s.slave n).t

/-- R155: a time reduced to the DTC's range. -/
def wrapTime (t : Int) : Nat := (t % (dtcModulus : Int)).toNat

/-- R162: a timestamp formed at time t of a DTC, to the granularity of 2^-8 ns: the phase within the TCLK cycle is open, ofs is the
user offset in 2^-8 ns (DESIGN CHOICE, log entry 5). -/
def State.stampAt (s : State) (t : Nat) (ofs : Int) : Nat :=
  wrapTime (((t / 2 ^ 24 + s.openValue .phase % 1024 : Nat) + ofs) * 2 ^ 24)

/-- R162, R163: the timestamp of a bit that crosses the receive balls of lane l now. -/
def State.rxStamp (s : State) (l : Nat) : Nat :=
  s.stampAt (s.fieldNow (l / 16)) (signedOf (s.get FTS.RXOFS (l / 16) (l % 16)) 16)

/-- R162, R163: the timestamp of a bit that leaves the transmit balls of lane l now. -/
def State.txStamp (s : State) (l : Nat) : Nat :=
  s.stampAt (s.fieldNow (l / 16)) (signedOf (s.get FTS.TXOFS (l / 16) (l % 16)) 16)

/-- R157: a switch into (on) or out of keep-alive: it adds an open error of at most 2 ns to the DTC and sets KALOG. The period
that keep-alive adds is the one last measured, of an oscillator of 25 MHz within 2 ppm (R492), and open within that
(DESIGN CHOICE, log entry 5). -/
def State.keepAlive (s : State) (on : Bool) : State :=
  let e : Int := (s.openValue .kaSwitch % (4 * 2 ^ 32 + 1) : Nat) - (2 * 2 ^ 32 : Nat)
  let p := 40 * 2 ^ 32 - 343597 + s.openValue .kaPeriod % 687195
  { (s.raise DTC.SSTAT_KALOG).used with
    time := { s.time with dtc := wrapTime (s.time.dtc + e), tclk := !on, kaPeriod := if on then p else s.time.kaPeriod } }

/-- Little-endian bytes of a number (R13). -/
def bytesLE : Nat → Nat → List Byte
  | 0, _ => []
  | n + 1, v => BitVec.ofNat 8 v :: bytesLE n (v / 256)

/-- The number that little-endian bytes spell (R13). -/
def natLE : List Byte → Nat
  | [] => 0
  | b :: t => b.toNat + 256 * natLE t

/-! The event log (R479). -/

/-- R479: the log holds 131,072 records; the newest replaces the oldest. -/
def logCapacity : Nat := 131072

/-- R479: Watermaster writes at most one record per second for each CODE and DIE and counts the rest in REPEAT. -/
def State.logEvent (s : State) (code die arg : Nat) : State :=
  let k := code * 16 + die
  let b := Store.get {} k s.evBook
  if b.written && decide (s.elapsed < b.lastTs + 10 ^ 15) then
    { s with evBook := Store.set {} k { b with supp := b.supp + 1 } s.evBook }
  else
    let r : Event := ⟨code, die, s.evSeq, s.now, arg, b.supp⟩
    let l := s.events ++ [r]
    { s with
      events := if logCapacity < l.length then l.drop 1 else l
      evSeq := s.evSeq + 1
      evBook := Store.set {} k ⟨true, s.elapsed, 0⟩ s.evBook }

end Sys2Proof.Machine
end

