-- ==== Sys2Proof/Machine/Ledger.lean ====
section
/-! DEFINITION. The ledger (R398-R404): the operations that own its entries, the write of an entry with its mirror, its
completion record and its change bit, the release, and the ledger-changed vector. -/
namespace Sys2Proof.Machine

/-- The operation that owns entry i. -/
def State.op (s : State) (i : Nat) : Op := Store.get {} i s.ledg

/-- Update the operation of entry i. -/
def State.setOp (s : State) (i : Nat) (o : Op) : State := { s with ledg := Store.set {} i o s.ledg }

/-- R399: an entry in QUEUED, RUNNING or PARTIAL, which a request may not name. -/
def State.opBusy (s : State) (i : Nat) : Bool := decide (1 ≤ (s.op i).state ∧ (s.op i).state ≤ 3)

/-- R398: all ones, the RESULT of an operation that has none. -/
def noResult : Nat := 2 ^ 64 - 1

/-- R399: a request replaces the entry (DESIGN CHOICE, log entry 13). -/
def State.opBegin (s : State) (i opcode state error src result : Nat) : State :=
  s.setOp i { opcode := opcode, state := state, error := error, reqsrc := src, result := result, due := true, stateDue := true,
                  notBefore := (s.op i).notBefore }

/-- R399: the entry takes BUSY for a refused request: PROGRESS and ERROR 0. -/
def State.opRefuse (s : State) (i opcode src : Nat) : State := s.opBegin i opcode 6 0 src noResult

/-- The operation moves on: a change of state, progress or words, due for the next write of the entry (R400). -/
def State.opMove (s : State) (i state progress : Nat) (opspec : List Nat) : State :=
  let o := s.op i
  s.setOp i { o with state := state, progress := max o.progress progress, opspec := opspec, due := true,
                     stateDue := o.stateDue || decide (state ≠ o.state) }

/-- The operation ends DONE. -/
def State.opDone (s : State) (i : Nat) : State := s.opMove i 4 65536 (s.op i).opspec

/-- The operation ends FAILED with an error code. -/
def State.opFail (s : State) (i error : Nat) : State :=
  let o := s.op i
  s.setOp i { o with state := 5, error := error, due := true, stateDue := true }

/-- R409: a word of the MSI-X table or of the component registers. -/
def State.compWord (s : State) (o : Nat) : Nat := (Store.get 0 o s.cxl.comp).toNat

/-- R404: the message goes out under the MSI-X rules: never while MSI-X is not enabled or the link is down; a mask leaves
it pending (DEDUCED, log entry 44). -/
def State.sendMsix (s : State) : State :=
  if !s.cxl.msixEn || s.get CXL.LSTAT_MODE == 0 then s
  else if s.cxl.msixFmask || s.cxl.msixMask then { s with cxl := { s.cxl with msixPend := true } }
  else ({ s with cxl := { s.cxl with msixPend := false } }).emit (.msix (s.compWord 0x800 + s.compWord 0x804 * 2 ^ 32) (s.compWord 0x808))

/-- R404: the ledger-changed message goes out, and HOLDOFF starts. -/
def State.sendNow (s : State) : State :=
  ({ s with cxl := { s.cxl with holdoff := decide (s.get CXL.LIRQ_HOLDOFF ≠ 0), held := false } }).sendMsix

/-- R404: ARMED is cleared and the ledger-changed message sent, subject to HOLDOFF. -/
def State.sendVector (s : State) : State :=
  let s := s.lower CXL.LIRQ_ARMED
  if s.cxl.holdoff then { s with cxl := { s.cxl with held := true } } else s.sendNow

/-- R404: set the entry's bit of CXL_LCHG; an armed vector is sent. -/
def State.entryChanged (s : State) (i : Nat) : State :=
  let s := s.setBitOf CXL.LCHG (i % 32) (i / 32)
  if s.flag CXL.LIRQ_EN && s.flag CXL.LIRQ_ARMED then s.sendVector else s

/-- The 64 bytes of entry i as its registers hold them, with PHASE given (R398). -/
def State.entryBytes (s : State) (i phase : Nat) : List Byte :=
  bytesLE 4 (s.get LGR.UPD i + s.get LGR.OPCODE i * 2 ^ 16) ++
  bytesLE 4 (s.get LGR.STATE i + phase * 2 ^ 8 + s.get LGR.ERROR i * 2 ^ 16) ++
  bytesLE 4 (s.get LGR.PROGRESS i) ++
  bytesLE 4 (s.get LGR.REQSRC i + s.get LGR.TS0 i * 2 ^ 16) ++
  bytesLE 4 (s.get LGR.TS1 i) ++ bytesLE 4 (s.get LGR.TS2 i) ++
  bytesLE 4 (s.get LGR.RESULT_LO i) ++ bytesLE 4 (s.get LGR.RESULT_HI i) ++
  (List.range 8).flatMap (fun k => bytesLE 4 (s.get LGR.OPSPEC i k))

/-- Both copies in host memory stop and MIRERR is set (R402). -/
def State.mirrorFail (s : State) : State :=
  ((s.lower CXL.LMIR_EN).lower CXL.LCR_EN).raise CXL.LGST_MIRERR

/-- R402: the mirror copy of entry i; ok tells whether the write into host memory succeeds. -/
def State.mirrorEntry (s : State) (i : Nat) (ok : Bool) : State :=
  if s.flag CXL.LMIR_EN then
    if ok then s.emit (.hostLine (s.get CXL.LMIR_BASE * 2 ^ 16 + s.get CXL.LMIR_BASE_HI * 2 ^ 32 + 64 * i) (s.entryBytes i 0))
    else s.mirrorFail
  else s

/-- R403: the completion record of entry i. -/
def State.completionRecord (s : State) (i : Nat) (ok : Bool) : State :=
  if s.flag CXL.LCR_EN then
    let prod := s.get CXL.LCRPROD
    let lg := s.get CXL.LCR_LOG2
    if (prod + 2 ^ 32 - s.get CXL.LCRCONS) % 2 ^ 32 < 2 ^ lg then
      if ok then
        let phase := 1 - prod / 2 ^ lg % 2
        (s.emit (.hostLine (s.get CXL.LCR_BASE * 2 ^ 12 + s.get CXL.LCR_BASE_HI * 2 ^ 32 + 64 * (prod % 2 ^ lg)) (s.entryBytes i phase))).wrap CXL.LCRPROD
      else s.mirrorFail
    else (s.raise CXL.LGST_CROVF).count CXL.LCRDROP
  else s

/-- R398: write the registers of entry i from an operation, stamped with the DTC; UPD rises by 1. -/
def State.writeEntry (s : State) (i : Nat) (o : Op) : State :=
  let ts := tsOf s.now
  let s := (((((s.wrap LGR.UPD 1 i).set LGR.OPCODE o.opcode i).set LGR.STATE o.state i).set LGR.ERROR o.error i).set LGR.PROGRESS o.progress i).set LGR.REQSRC o.reqsrc i
  let s := ((s.set LGR.TS0 ts i).set LGR.TS1 (ts / 2 ^ 16) i).set LGR.TS2 (ts / 2 ^ 48) i
  let s := s.set2 LGR.RESULT_LO LGR.RESULT_HI o.result i
  (List.range 8).foldl (fun s k => s.set LGR.OPSPEC (o.opspec.getD k 0) i k) s

/-- R400: 4 us on State.elapsed. -/
def entryGap : Nat := 4 * usFs

/-- R400, R402-R404: the device writes entry i where a change of it is due and 4 us have passed since it last wrote the entry
(DESIGN CHOICE, log entry 13). -/
def execLedgerEntryWrite (i : Fin 1024) (ok : Bool) (s : State) : Result :=
  let o := s.op i
  .next (if o.due ∧ o.notBefore ≤ s.elapsed then
    let s := s.setOp i { o with due := false, stateDue := false, notBefore := s.elapsed + entryGap }
    let s := (s.writeEntry i o).mirrorEntry i ok
    if o.stateDue then
      let s := if 4 ≤ o.state then s.completionRecord i ok else s
      s.entryChanged i
    else s
  else s)

/-- R399: release an entry in DONE, FAILED or BUSY to IDLE, or set RELERR. -/
def State.releaseEntry (s : State) (i : Nat) : State :=
  if decide (4 ≤ s.get LGR.STATE i) && decide (4 ≤ (s.op i).state) then
    let s := s.setOp i { notBefore := s.elapsed + entryGap }
    let s := (s.writeEntry i {}).clearBitOf CXL.LCHG (i % 32) (i / 32)
    s.mirrorEntry i true
  else s.raise CXL.LGST_RELERR

/-- R399: a write of CXL_LREL with the word v. -/
def execLedgerRelease (v : Word) (s : State) : Result :=
  .next (s.access .CXL 0 fun s => if bitOf v.toNat 10 then s.releaseEntry (bitsOf v.toNat 0 10) else s)

/-- R402: EN of the mirror or the ring may be set only with Cache_Enable and the link in CXL mode. -/
def State.copiesAllowed (s : State) : Bool := s.cxl.cacheEn && s.get CXL.LSTAT_MODE == 2

/-- R402: a write of CXL_LMIR_LO. -/
def State.writeLmirLo (s : State) (v : Nat) : State :=
  let s := s.set CXL.LMIR_BASE (bitsOf v 16 16)
  if bitOf v 0 then
    if s.copiesAllowed then s.raise CXL.LMIR_EN else (s.lower CXL.LMIR_EN).raise CXL.LGST_MIRERR
  else s.lower CXL.LMIR_EN

/-- R402, R403: a write of CXL_LCR_LO, which also resets PROD and CONS. An undefined LOG2 leaves the field (R16). -/
def State.writeLcrLo (s : State) (v : Nat) : State :=
  let s := (s.lower CXL.LCRPROD).lower CXL.LCRCONS
  let s := s.set CXL.LCR_BASE (bitsOf v 12 20)
  let s := if CXL.LCR_LOG2.dom.allows (bitsOf v 1 5) then s.set CXL.LCR_LOG2 (bitsOf v 1 5) else s
  if bitOf v 0 then
    if s.copiesAllowed then s.raise CXL.LCR_EN else (s.lower CXL.LCR_EN).raise CXL.LGST_MIRERR
  else s.lower CXL.LCR_EN

/-- R403: a write of CXL_LCR_HI, which also resets PROD and CONS. -/
def State.writeLcrHi (s : State) (v : Nat) : State :=
  ((s.lower CXL.LCRPROD).lower CXL.LCRCONS).set CXL.LCR_BASE_HI v

/-- R409: a write of CXL_LCRCONS; a value that would make PROD - CONS exceed the ring is ignored. -/
def State.writeLcrCons (s : State) (v : Nat) : State :=
  if (s.get CXL.LCRPROD + 2 ^ 32 - v) % 2 ^ 32 ≤ 2 ^ s.get CXL.LCR_LOG2 then s.set CXL.LCRCONS v else s

/-- R402: a write of the word v to CXL_LMIR_LO, or of its EN bit in CXL_LCR_LO where ring holds. -/
def execMirrorEnable (ring : Bool) (v : Word) (s : State) : Result :=
  .next (s.access .CXL 0 fun s => if ring then s.writeLcrLo v.toNat else s.writeLmirLo v.toNat)

/-- R403: a write of the word v to CXL_LCR_LO, or to CXL_LCR_HI where hi holds. -/
def execCompletionRingReset (hi : Bool) (v : Word) (s : State) : Result :=
  .next (s.access .CXL 0 fun s => if hi then s.writeLcrHi v.toNat else s.writeLcrLo v.toNat)

/-- R404: the interrupt condition of CXL_LCHG where entry i's change is pending: the message is sent while enabled and armed. -/
def execLedgerVector (i : Fin 1024) (s : State) : Result := .next (s.entryChanged i)

/-- R404: is any bit of CXL_LCHG set? -/
def State.anyChange (s : State) : Bool := (List.range 32).any fun j => s.get CXL.LCHG j != 0

/-- R404, R409: a write of CXL_LIRQ: EN and HOLDOFF as written; 1 to ARMED arms, and sends at once if a change is pending. -/
def State.writeLirq (s : State) (v : Nat) : State :=
  let s := (s.setB CXL.LIRQ_EN (bitOf v 0)).set CXL.LIRQ_HOLDOFF (bitsOf v 16 16)
  if bitOf v 1 then
    let s := s.raise CXL.LIRQ_ARMED
    if s.flag CXL.LIRQ_EN && s.anyChange then s.sendVector else s
  else s

/-- R404: a write of the word v to CXL_LIRQ. -/
def execVectorArm (v : Word) (s : State) : Result :=
  .next (s.access .CXL 0 fun s => s.writeLirq v.toNat)

/-- R404: the HOLDOFF interval ends, and a message held back by it is sent. -/
def execHoldoffExpiry (s : State) : Result :=
  let h := s.cxl.held
  let s := { s with cxl := { s.cxl with holdoff := false, held := false } }
  .next (if h then s.sendNow else s)

end Sys2Proof.Machine
end

