-- ==== Sys2Proof/Machine/Hub.lean ====
section
/-! DEFINITION. The cistern hub and the float sequencer (spec/04_cistern.md R110-R113, R117-R126): segments, meters, the
actions on cisterns and their ledger entries, float pulses and transitions. -/
namespace Sys2Proof.Machine

/-- The hidden state of a CFE, a cistern and a sequencer. -/
def State.cfe (s : State) (l : Nat) : CfeSt := Store.get {} l s.cfes
def State.setCfe (s : State) (l : Nat) (v : CfeSt) : State := { s with cfes := Store.set {} l v s.cfes }
def State.cist (s : State) (c : Nat) : CistSt := Store.get {} c s.cists
def State.setCist (s : State) (c : Nat) (v : CistSt) : State := { s with cists := Store.set {} c v s.cists }

/-- The hidden state of a Flume module: m of field n at 8 n + m, turnouts from 64 on. -/
def State.mod (s : State) (i m : Nat) : ModSt := Store.get {} (8 * i + m) s.mods
def State.setMod (s : State) (i m : Nat) (v : ModSt) : State := { s with mods := Store.set {} (8 * i + m) v s.mods }

/-- R210: does module m of field n, as its record has it, carry channel c of the pair (0 or 1), in packet mode? -/
def State.carriesAs (s : State) (n m c : Nat) : Bool :=
  !s.flag FLH.MSTAT_WIRE n m && (if c = 0 then s.get FLH.MSTAT_WIDTH n m != 0 else s.get FLH.MSTAT_WIDTH n m == 3)

/-- R210: the channel is live: the module is up. -/
def State.carries (s : State) (n m c : Nat) : Bool := s.get FLH.MSTAT_STATE n m == 2 && s.carriesAs n m c

/-- R209: module m of field n holds what is sent on it: the replays of a slot fail, or it retrains. -/
def State.modHolds (s : State) (n m : Nat) : Bool := decide (0 < (s.mod n m).failed) || s.get FLH.MSTAT_STATE n m == 3

/-- R108: the TS granule: times are compared as the TS format holds them. -/
def tsTicks (t : Nat) : Nat := t / 2 ^ 24

/-- R113, R224: a CFE runs: enabled, with a share when it was, and not stopped by a FENCE message. -/
def State.cfeOn (s : State) (l : Nat) : Bool :=
  s.flag CFE.CTRL_EN l && !s.flag CFE.STAT_CFGERR l && !s.flag FLF.FSTAT_FENCED (8 * (l / 16))

/-! The books of R112. -/

/-- Add to and take from the books of the lane pool and the reserve. -/
def State.book (s : State) (f : Field) (d : Int) : State := s.set f ((s.get f : Int) + d).toNat

/-- R131: FULL follows the lane pool, and FULLEVT remembers it. -/
def State.poolFull (s : State) : State :=
  if s.get CAP.SBOOK0_LFREE = 0 then (s.raise CAP.STAT_FULL).raise CAP.STAT_FULLEVT else s.lower CAP.STAT_FULL

/-- R110: lend one segment of the lane pool to a CFE. -/
def State.lend (s : State) (l : Nat) : State :=
  if s.get CAP.SBOOK0_LFREE = 0 then s
  else
    let s := s.setCfe l { s.cfe l with segs := (s.cfe l).segs ++ [{}] }
    ((s.book CAP.SBOOK0_LFREE (-1)).book CAP.SBOOK0_LOANED 1).poolFull

/-- Put a closed segment or a reserve record at the end of the drain's queue. -/
def State.enqueueClosed (s : State) (reserve : Bool) (recs : List StRec) : State :=
  { s with closed := s.closed ++ [⟨s.nextClosed, reserve, recs⟩], nextClosed := s.nextClosed + 1 }

/-- R111: close the oldest loaned segment of a CFE, where it holds bytes. -/
def State.closeFirst (s : State) (l : Nat) : State :=
  match (s.cfe l).segs with
  | g :: t =>
    if g.used = 0 then s
    else (((s.setCfe l { s.cfe l with segs := t }).enqueueClosed false g.recs).book CAP.SBOOK0_LOANED (-1)).book CAP.SBOOK1_FILLED 1
  | [] => s

/-- R116: close every loaned segment of a CFE that holds bytes. -/
def State.closeAll (s : State) (l : Nat) : State :=
  (s.cfe l).segs.foldl (fun s _ => s.closeFirst l) s

/-- R110: the unused segments of a CFE return to the lane pool. -/
def State.returnSegs (s : State) (l : Nat) : State :=
  let n := (s.cfe l).segs.length
  (((s.setCfe l { s.cfe l with segs := [] }).book CAP.SBOOK0_LFREE n).book CAP.SBOOK0_LOANED (-(n : Int))).poolFull

/-- R113: the meter now: it gains SH times 0.5 bytes per ns up to DEPTH KiB (DESIGN CHOICE, log entry 22). -/
def State.meter (s : State) (l : Nat) : Nat :=
  let c := s.cfe l
  min (s.get CFE.METER_DEPTH l * 1024 * 2 ^ 33) (c.meter + s.get CAP.LSH l * (s.fieldNow (l / 16) - c.meterAt))

/-- Take b bytes off the meter, and bring it up to the present. -/
def State.spend (s : State) (l b : Nat) : State :=
  s.setCfe l { s.cfe l with meter := s.meter l - b * 2 ^ 33, meterAt := s.fieldNow (l / 16) }

/-! Cisterns (R117-R122, R125, R129). -/

/-- R129: the publish point follows the ring while no HBM write of the cistern is outstanding. -/
def State.snap (s : State) (c : Nat) : State :=
  if s.draining.any fun d => d.recs.any fun r => r.cist == c then s
  else
    let v := s.cist c
    s.setCist c { v with pub := (s.get2 CAP.CWPTR_WPTR_LO CAP.CWPTR_WPTR_HI c, s.get2 CAP.CRCNT_RCNT_LO CAP.CRCNT_RCNT_HI c, s.get2 CAP.COLD_OLD_LO CAP.COLD_OLD_HI c, v.post,
      s.get2 CAP.CTRIG_TRIG_LO CAP.CTRIG_TRIG_HI c) }

/-- R129: the ledger entry of a cistern takes its publish point, its progress and its words. -/
def State.publish (s : State) (c state error : Nat) : State :=
  let s := s.snap c
  let v := s.cist c
  match v.entry with
  | none => s
  | some e =>
    let size := 2 ^ s.get CAP.CSIZE_LOG2 c
    let pre := s.get2 CAP.CPRE_PRE_LO CAP.CPRE_PRE_HI c
    let base := s.get2 CAP.CBASE_BASE_LO CAP.CBASE_BASE_HI c
    let (wptr, rc, old, post, trig) := v.pub
    let trig64 := if trig = 2 ^ 36 - 1 then 2 ^ 64 - 1 else trig
    let prog := 65536 * post / (size - pre)
    let s := s.opMove e state (if state = 4 then min 65536 prog else min 65535 prog)
      [rc % 2 ^ 32, rc / 2 ^ 32, old % 2 ^ 32, old / 2 ^ 32, trig64 % 2 ^ 32, trig64 / 2 ^ 32]
    s.setOp e { s.op e with result := base + wptr, error := error }

/-- The ledger entry of a cistern ends (DESIGN CHOICE, log entry 22). -/
def State.endCist (s : State) (c state error : Nat) : State :=
  let s := s.publish c state error
  s.setCist c { s.cist c with entry := none }

/-- R125: the lanes of a cistern whose CFEs are enabled. -/
def State.cistLanes (s : State) (c : Nat) : List Nat :=
  (List.range 128).filter fun l => s.cfeOn l && s.get CFE.CTRL_CIST l == c

/-- Is the cistern ARMED or RUNNING? -/
def State.cistLive (s : State) (c : Nat) : Bool := s.get CAP.CSTAT_STATE c == 1 || s.get CAP.CSTAT_STATE c == 2

/-- Does a record of this cistern and arming wait in staging, or in hand for the uplinks? -/
def State.staged (s : State) (c gen : Nat) : Bool :=
  (s.closed ++ s.draining).any (fun d => d.recs.any fun r => r.cist == c && r.gen == gen) ||
  s.cfes.any fun e => (e.2.segs.any fun g => g.recs.any fun r => r.cist == c && r.gen == gen) || e.2.hand.any fun r => r.cist == c && r.gen == gen

/-- R121, R125, R129: the entry ends DONE: after a STOP or FREEZE when every CFE has acknowledged and the last record has been written; in FULL
when the HBM writes of its last record have completed. -/
def State.maybeDone (s : State) (c : Nat) : State :=
  let v := s.cist c
  let st := s.get CAP.CSTAT_STATE c
  if v.entry ≠ none ∧ (((st = 3 ∨ st = 5) ∧ v.acks = [] ∧ s.staged c v.gen = false) ∨
      (st = 4 ∧ s.draining.all fun d => d.recs.all fun r => r.cist != c)) then s.endCist c 4 0
  else s

/-- R118: arm a cistern; the request is decided at the write. An earlier arming that still drains ends its own entry DONE at the progress
reached (DESIGN CHOICE, log entry 22). -/
def State.arm (s : State) (c src : Nat) : State :=
  let e := s.get CAP.CENTRY c
  let lg := s.get CAP.CSIZE_LOG2 c
  let base := s.get2 CAP.CBASE_BASE_LO CAP.CBASE_BASE_HI c
  let pre := s.get2 CAP.CPRE_PRE_LO CAP.CPRE_PRE_HI c
  if s.opBusy e then s.raise CAP.CSTAT_ARMERR c
  else if s.cistLive c then s.opRefuse e 0x0201 src
  else if s.flag GLB.AVAIL_HBMUP = false then s.opBegin e 0x0201 5 0x0201 src noResult
  else if lg < 20 ∨ 36 < lg ∨ base % 2 ^ lg ≠ 0 ∨ 0x002400000000 < base + 2 ^ lg ∨ pre % 32 ≠ 0 ∨ 2 ^ lg ≤ pre then
    s.opBegin e 0x0201 5 0x0202 src noResult
  else
    let s := s.endCist c 4 0
    let s := s.setCist c { gen := (s.cist c).gen + 1, entry := some e }
    let s := ((s.set2 CAP.CWPTR_WPTR_LO CAP.CWPTR_WPTR_HI 0 c).set2 CAP.CRCNT_RCNT_LO CAP.CRCNT_RCNT_HI 0 c).set2 CAP.COLD_OLD_LO CAP.COLD_OLD_HI 0 c
    let s := ((s.set CAP.CTRIG_TRIG_LO (2 ^ 32 - 1) c).set CAP.CTRIG_TRIG_HI 15 c).set CAP.CSTAT_STATE 1 c
    (s.opBegin e 0x0201 2 0 src noResult).publish c 2 0

/-- The records of a CFE's loaned segments without those that the test selects. -/
def CfeSt.withoutRecs (v : CfeSt) (p : StRec → Bool) : CfeSt :=
  { v with segs := v.segs.map fun g => { g with recs := g.recs.filter fun r => !p r } }

/-- R119: disarm: the cistern stops at once, its staged records are discarded, the entry ends DONE. -/
def State.disarm (s : State) (c : Nat) : State :=
  if s.get CAP.CSTAT_STATE c = 0 then s
  else
    let s := s.endCist c 4 0
    let v := s.cist c
    let mine (r : StRec) : Bool := r.cist == c && r.gen == v.gen
    let n := (s.closed.flatMap (·.recs) ++ s.cfes.flatMap fun e => e.2.segs.flatMap (·.recs)).countP mine
    let s := s.count CAP.CDISC n c
    let s := { s with
      closed := s.closed.map fun (d : Closed) => ({ d with recs := d.recs.filter fun r => !mine r } : Closed)
      cfes := Store.mapAll {} (fun _ x => x.withoutRecs mine) s.cfes }
    (s.setCist c { v with gen := v.gen + 1, start := none, stop := none, acks := [], entry := none }).set CAP.CSTAT_STATE 0 c

/-- R109, R125: a MARK record of cistern c: the transition's states, cause, actions and count, and the stamp. Its SIEVE, ANCHOR and PCSMODE
are 0 (DESIGN CHOICE, log entry 22: R108 gives them no value). -/
def State.mark (s : State) (c stamp from_ toSt cause acts count : Nat) : State :=
  let v := s.cist c
  let s := s.setCist c { v with marks := (v.marks + 1) % 2 ^ 24 }
  if s.get CAP.SBOOK1_RFREE = 0 then s.raise CAP.STAT_MARKLOST
  else
    let ts := bytesLE 10 (tsOf stamp)
    let bytes := ts ++ bytesLE 2 0xFFFF ++ bytesLE 3 0 ++ [0] ++ bytesLE 2 32 ++ bytesLE 3 v.marks ++ [0x20, 0, 0] ++ bytesLE 8 0 ++
      [BitVec.ofNat 8 from_, BitVec.ofNat 8 toSt, BitVec.ofNat 8 cause, BitVec.ofNat 8 acts] ++ bytesLE 4 count ++ ts ++ bytesLE 14 0
    ((s.enqueueClosed true [⟨c, v.gen, bytes, stamp⟩]).book CAP.SBOOK1_RFREE (-1)).book CAP.SBOOK2_RUSED 1

/-- R125, R126: the actions of one transition on one cistern: bit 0 START, 1 STOP, 2 MARK, 3 FREEZE. STOP and FREEZE, which acts as STOP,
prevail over START. -/
def State.actOn (s : State) (c stamp from_ toSt cause acts count : Nat) : State :=
  let s := if bitOf acts 0 && !bitOf acts 1 && !bitOf acts 3 && s.get CAP.CSTAT_STATE c == 1 then
    ((s.setCist c { s.cist c with start := some stamp }).set CAP.CSTAT_STATE 2 c).publish c 3 0 else s
  let s := if bitOf acts 2 && s.cistLive c then s.mark c stamp from_ toSt cause acts count else s
  if (bitOf acts 1 || bitOf acts 3) && s.cistLive c then
    let s := s.setCist c { s.cist c with stop := some stamp, acks := s.cistLanes c }
    (s.set CAP.CSTAT_STATE (if bitOf acts 3 then 5 else 3) c).maybeDone c
  else s

/-- R125: the actions of a transition on every cistern that follows the sequencer and whose group the mask names. -/
def State.act (s : State) (groups stamp from_ toSt cause acts count : Nat) : State :=
  (List.range 64).foldl (fun s c =>
    if s.flag CAP.CCTRL_FLTEN c && bitOf groups (s.get CAP.CCTRL_GRP c) then s.actOn c stamp from_ toSt cause acts count else s) s

/-- R122: an HBM controller freezes: every ARMED or RUNNING cistern is FAILED and its staged records are discarded. -/
def State.cistsFrozen (s : State) : State :=
  (List.range 64).foldl (fun s c =>
    if s.cistLive c then
      let s := (s.endCist c 5 0x0203).set CAP.CSTAT_STATE 6 c
      s.setCist c { s.cist c with gen := (s.cist c).gen + 1, acks := [] }
    else s) s

/-- R122: field n is fenced: its cisterns lose lanes, and its segments are closed or returned. LANELOST is set for a cistern that is ARMED or
RUNNING, not for one that only drains (DESIGN CHOICE, log entry 22). -/
def State.cistsLost (s : State) (n : Nat) : State :=
  (List.range 16).foldl (fun s k =>
    let l := 16 * n + k
    if s.cfeOn l then
      let c := s.get CFE.CTRL_CIST l
      let s := if s.cistLive c then s.raise CAP.CSTAT_LANELOST c else s
      let s := s.setCist c { s.cist c with acks := (s.cist c).acks.filter fun x => x != l }
      let s := (s.closeAll l).returnSegs l
      (s.setCfe l { s.cfe l with pend := [], hand := none, gap := none }).maybeDone c
    else s) s

/-! The float sequencer (R123-R126). -/

/-- R124: enter a state with its counter and timer cleared. -/
def State.enterFlt (s : State) (q : Nat) : State :=
  let s := ((s.set FLT.STAT_STATE q).set FLT.CNT 0 q).set FLT.TMR 0 q
  { s with flt := { s.flt with evDue := false, tmDue := false, sub := 0 } }

/-- R124-R126: take the event transition (cause 0) or the timer transition (cause 1) of the current state. -/
def State.transition (s : State) (cause : Nat) : State :=
  let q := s.get FLT.STAT_STATE
  let next := if cause = 0 then s.get FLT.TRN_NEXT_EV q else s.get FLT.TRN_NEXT_TM q
  let acts := if cause = 0 then s.get FLT.TRN_ACT_EV q else s.get FLT.TRN_ACT_TM q
  let groups := if cause = 0 then s.get FLT.TRN_GRP_EV q else s.get FLT.TRN_GRP_TM q
  let count := s.get FLT.CNT q
  let s := (s.enterFlt next).wrap FLT.TCNT
  let s := { s with flt := { s.flt with stamp := s.now } }
  let s := s.act groups s.now q next cause acts count
  if bitOf acts 3 then (s.lower FLT.STAT_RUN).raise FLT.STAT_FROZEN else s

/-- R126: take the transition that is due; where both are, the event transition, with OVLAP. -/
def State.settleFlt (s : State) : State :=
  if s.flag FLT.STAT_RUN then
    if s.flt.evDue then (if s.flt.tmDue then s.raise FLT.STAT_OVLAP else s).transition 0
    else if s.flt.tmDue then s.transition 1
    else s
  else s

/-- R124: floats pulse in one sequencer cycle (a mask of 64): they are seen, they count once, and CMP may be reached. -/
def State.countPulse (s : State) (m : Nat) : State :=
  let s := (s.set FLT.SEEN_LO (s.get FLT.SEEN_LO ||| bitsOf m 0 32)).set FLT.SEEN_HI (s.get FLT.SEEN_HI ||| bitsOf m 32 32)
  let s := s.settleFlt
  let q := s.get FLT.STAT_STATE
  if s.flag FLT.STAT_RUN && (s.get2 FLT.EVM_LO FLT.EVM_HI q &&& m) != 0 then
    let s := s.wrap FLT.CNT 1 q
    if s.get FLT.CMP q ≠ 0 ∧ s.get FLT.CNT q = s.get FLT.CMP q then { s with flt := { s.flt with evDue := true } } else s
  else s

/-- R146: the sequencers that wait for one of the floats go on. -/
def State.wakeFurs (s : State) (m : Nat) : State :=
  { s with furs := Store.mapAll {} (fun _ v =>
      match v.waitFloat with
      | some (line, _, _) => if bitOf m line then { v with waitFloat := none, save := none } else v
      | none => v) s.furs }

/-- R123, R223, R316: a pulse on the floats of the mask, which reaches the float sequencer, the sequencers and fabric; those of an empty site or a
fenced field are dropped. -/
def State.pulse (s : State) (m : Nat) : State :=
  let live := (List.range 64).foldl (fun a f => if bitOf m f && s.serves (f / 8) then a + 2 ^ f else a) 0
  if live = 0 then s else (((s.countPulse live).wakeFurs live).fabFloats live).emit (.floats live)

/-- R124: the timer of the current state runs for ns nanoseconds. -/
def State.runTimer (s : State) (ns : Nat) : State :=
  if s.flag FLT.STAT_RUN then
    let q := s.get FLT.STAT_STATE
    let t := s.flt.sub + ns
    let unit := if s.flag FLT.TRN_TUNIT q then 1000 else 1
    let s := { s with flt := { s.flt with sub := t % unit } }
    let lim := s.get FLT.TLIM q
    let now := s.get FLT.TMR q + t / unit
    if lim ≠ 0 ∧ s.get FLT.TMR q < lim ∧ lim ≤ now then { s.set FLT.TMR lim q with flt := { s.flt with tmDue := true } }
    else s.set FLT.TMR now q
  else s

end Sys2Proof.Machine
end

