-- ==== Sys2Proof/Machine/Mem.lean ====
section
/-! DEFINITION. The memories of the device physical address space (spec/01_package_architecture.md R30-R32,
spec/09_hbm.md R236-R238, spec/11_ecc.md R270-R281, R288, spec/13_basins_reservoirs.md R343, R344): where an address lies,
the check codes, and reading and writing words with their checks. -/
namespace Sys2Proof.Machine

/-! Addresses (R30, R31). -/

/-- The memories of the DPA space. -/
inductive Place
  | hbm
  | scratch
  /-- reservoir r of field n: 4 n + r -/
  | rsv (i : Nat)
  | qdr (n : Nat)
  /-- the Rill X and Y memories of field n -/
  | rill (n : Nat)
  deriving DecidableEq, Repr

def rsvBase : Nat := 0x004000000000
def qdrBase : Nat := 0x006000000000
def rillBase : Nat := 0x007000000000
def scratchBase : Nat := 0x007800000000
def csrBase : Nat := 0x00FF00000000

/-- R30, R31: the memory that holds a DPA; none outside the used parts of the windows. -/
def placeOf (a : Nat) : Option Place :=
  if a < 0x002400000000 then some .hbm
  else if rsvBase ≤ a ∧ a < rsvBase + 0x20000000 then
    if (a - rsvBase) % 0x4000000 < 0x1000000 then some (.rsv ((a - rsvBase) / 0x4000000 * 4 + (a - rsvBase) % 0x4000000 / 0x400000)) else none
  else if qdrBase ≤ a ∧ a < qdrBase + 0x20000000 then
    if (a - qdrBase) % 0x4000000 < 0x2000000 then some (.qdr ((a - qdrBase) / 0x4000000)) else none
  else if rillBase ≤ a ∧ a < rillBase + 0x8000000 then
    if (a - rillBase) % 0x1000000 < 0x400000 then some (.rill ((a - rillBase) / 0x1000000)) else none
  else if scratchBase ≤ a ∧ a < scratchBase + 0x800000 then some .scratch
  else none

/-- R30: the field whose window, used or not, holds a DPA outside the CSR region. -/
def windowField (a : Nat) : Option Nat :=
  if rsvBase ≤ a ∧ a < rsvBase + 0x20000000 then some ((a - rsvBase) / 0x4000000)
  else if qdrBase ≤ a ∧ a < qdrBase + 0x20000000 then some ((a - qdrBase) / 0x4000000)
  else if rillBase ≤ a ∧ a < rillBase + 0x8000000 then some ((a - rillBase) / 0x1000000)
  else none

/-- R29: does the DPA lie in the CSR region? -/
def inCsr (a : Nat) : Bool := decide (csrBase ≤ a ∧ a < csrBase + 0x10000000)

/-- R236: the pseudo-channel, 0 to 127, of an HBM address. -/
def hbmChannel (a : Nat) : Nat :=
  let b := bitsOf a 8 30
  bitsOf b 0 7 ^^^ bitsOf b 7 7 ^^^ bitsOf b 14 7 ^^^ bitsOf b 21 7 ^^^ bitsOf b 28 2

/-- R236: the controller of an HBM address. -/
def hbmStack (a : Nat) : Nat := hbmChannel a / 32

/-- R236: the address within the pseudo-channel. -/
def hbmLocal (a : Nat) : Nat := bitsOf a 8 30 / 128 * 256 + a % 256

/-- R237: the bank, 0 to 47, the row and the quarter of an HBM address. -/
def hbmBank (a : Nat) : Nat :=
  let l := hbmLocal a / 256
  16 * (l / 64 % 3) + bitsOf l 2 4
def hbmRow (a : Nat) : Nat := hbmLocal a / 256 / 64 / 3
def hbmQuarter (a : Nat) : Nat := hbmLocal a / 256 % 4

/-- R238: the switch port of an HBM address. -/
def hbmPort (a : Nat) : Nat := 128 + 10 * hbmStack a + bitsOf a 8 30 % 10

/-! Codes (R270-R275). -/

/-- R273: the columns of Code L: the 56 values of weight 3 in ascending order, then the first eight of weight 5. -/
def columnsL : List Nat :=
  (List.range 256).filter (fun v => countBits v 8 == 3) ++ ((List.range 256).filter (fun v => countBits v 8 == 5)).take 8

/-- R274: x^(14 + i) mod g(x), with g(x) = (x^7 + x^3 + 1)(x^7 + x^3 + x^2 + x + 1) = 0x4377. -/
def bchPower : Nat → Nat
  | 0 => 0x0377
  | i + 1 => if bitOf (2 * bchPower i) 14 then 2 * bchPower i ^^^ 0x4377 else 2 * bchPower i

/-- R274: the columns of Code S: the remainder in [13:0] and in [14] the parity that makes the XOR of all 79 bits 0. -/
def columnsS : List Nat :=
  (List.range 64).map fun i => bchPower i + (if countBits (bchPower i) 14 % 2 = 0 then 2 ^ 14 else 0)

/-- The columns of the data bits of a code: 1 L, 2 S; Code N (0) has none. -/
def columnsOf (code : Nat) : List Nat := if code = 1 then columnsL else if code = 2 then columnsS else []

/-- R273, R274: the check field of a data word. -/
def checkOf (code data : Nat) : Nat :=
  (List.range 64).foldl (fun c i => if bitOf data i then c ^^^ (columnsOf code).getD i 0 else c) 0

/-- How many check bits a code has (R270). -/
def checkBits (code : Nat) : Nat := if code = 1 then 8 else if code = 2 then 15 else 0

/-- R270, R273, R274: the data bits to invert for a syndrome that the code can correct. -/
def correctOf (code syn : Nat) : Option Nat :=
  let cols := (columnsOf code ++ (List.range (checkBits code)).map fun j => 2 ^ j).zipIdx
  let bit (i : Nat) : Nat := if i < 64 then 2 ^ i else 0
  match cols.find? fun c => c.1 == syn with
  | some (_, i) => some (bit i)
  | none =>
    if code = 2 then
      cols.findSome? fun c => (cols.find? fun d => c.2 < d.2 && (c.1 ^^^ d.1) == syn).map fun d => bit c.2 ^^^ bit d.2
    else none

/-- R275: the check field of the poison pattern. -/
def poisonCheck (code : Nat) : Nat := 2 ^ checkBits code - 1

/-- What decoding a stored word finds (R273-R275). -/
inductive WordState
  | clean | correctable | uncorrectable | poisoned
  deriving DecidableEq, Repr

/-- R273-R275: decode a word from its stored data and the XOR of its stored check field and the one that its code computes
from that data. -/
def decodeWord (code data syn : Nat) : WordState × Nat :=
  if code = 0 then (.clean, data)
  else if data = 0 ∧ syn = poisonCheck code then (.poisoned, 0)
  else if syn = 0 then (.clean, data)
  else match correctOf code syn with
    | some m => (.correctable, data ^^^ m)
    | none => (.uncorrectable, data)

/-! Regions (R271, R279). -/

/-- The number of the region that holds a DPA: HBM from 0, the reservoirs of field n from 4096 + 256 n, its QDR port from
8192 + 32 n; the memories without a region table have none. -/
def regionOf (a : Nat) : Option Nat :=
  match placeOf a with
  | some .hbm => some (a / 2 ^ 26)
  | some (.rsv i) => some (4096 + 64 * i + a % 0x400000 / 2 ^ 16)
  | some (.qdr n) => some (8192 + 32 * n + (a - qdrBase) % 0x2000000 / 2 ^ 20)
  | _ => none

/-- The CODE and STATE registers of a region. -/
def State.regionGet (s : State) (r : Nat) : Nat × Nat :=
  if r < 4096 then (s.get DRH.RTBL_CODE r, s.get DRH.RTBL_STATE r)
  else if r < 8192 then (s.get DRF.RTBL_CODE ((r - 4096) / 256) (r % 256), s.get DRF.RTBL_STATE ((r - 4096) / 256) (r % 256))
  else (s.get DRF.QTBL_CODE ((r - 8192) / 32) (r % 32), s.get DRF.QTBL_STATE ((r - 8192) / 32) (r % 32))

/-- Set the STATE of a region. -/
def State.setRegion (s : State) (r st : Nat) : State :=
  if r < 4096 then s.set DRH.RTBL_STATE st r
  else if r < 8192 then s.set DRF.RTBL_STATE st ((r - 4096) / 256) (r % 256)
  else s.set DRF.QTBL_STATE st ((r - 8192) / 32) (r % 32)

/-- Where a region starts and how many bytes it covers (R271). -/
def regionRange (r : Nat) : Nat × Nat :=
  if r < 4096 then (r * 2 ^ 26, 2 ^ 26)
  else if r < 8192 then (rsvBase + (r - 4096) / 256 * 0x4000000 + r % 256 * 2 ^ 16, 2 ^ 16)
  else (qdrBase + (r - 8192) / 32 * 0x4000000 + r % 32 * 2 ^ 20, 2 ^ 20)

/-- The code under which a DPA is checked, 0 where it is not (R271, R276-R280). -/
def State.checkCode (s : State) (a : Nat) : Nat :=
  match placeOf a with
  | some .scratch => 2
  | some (.rill _) => 1
  | _ => match regionOf a with
    | some r => if (s.regionGet r).2 = 2 then (s.regionGet r).1 else 0
    | none => 0

/-- R272: is the DPA in a hole of a Code S region of HBM? -/
def State.inHole (s : State) (a : Nat) : Bool :=
  decide (placeOf a = some .hbm) && s.get DRH.RTBL_CODE (a / 2 ^ 26) == 2 && bitsOf a 15 2 == 3

/-! Stored bytes and words. -/

/-- What a byte that is not listed reads as: 0, or an open value where a code write made the region's contents undefined
(DESIGN CHOICE, log entry 3). -/
def State.memDefault (s : State) (a : Nat) : Byte :=
  match regionOf a with
  | some r =>
    match Store.get 0 r s.fog with
    | 0 => 0
    | e + 1 => BitVec.ofNat 8 (Config.openValue .memory (e * 2 ^ 48 + a))
  | none => 0

/-- The stored byte at a DPA (DESIGN CHOICE, log entry 3). -/
def State.memByte (s : State) (a : Nat) : Byte := Store.get (s.memDefault a) a s.mem

/-- Store a byte. -/
def State.setByte (s : State) (a : Nat) (b : Byte) : State := { s with mem := Store.set (s.memDefault a) a b s.mem }

/-- Store bytes at consecutive addresses. -/
def State.setBytes (s : State) (a : Nat) : List Byte → State
  | [] => s
  | b :: t => (s.setByte a b).setBytes (a + 1) t

/-- The stored bytes at consecutive addresses. -/
def State.memBytes (s : State) (a : Nat) : Nat → List Byte
  | 0 => []
  | n + 1 => s.memByte a :: s.memBytes (a + 1) n

/-- The stored data of word w (DPA / 8). -/
def State.wordData (s : State) (w : Nat) : Nat := natLE (s.memBytes (8 * w) 8)

/-- The XOR of the stored and the computed check field of word w (DESIGN CHOICE, log entry 24). -/
def State.wordSyn (s : State) (w : Nat) : Nat := Store.get 0 w s.chk

/-- Decode word w under the code that its region is checked under. -/
def State.readWord (s : State) (w : Nat) : WordState × Nat := decodeWord (s.checkCode (8 * w)) (s.wordData w) (s.wordSyn w)

/-- Store a word with the given difference of its check field. -/
def State.putWord (s : State) (w data syn : Nat) : State :=
  let s := s.setBytes (8 * w) (bytesLE 8 data)
  { s with chk := Store.set 0 w syn s.chk }

/-- R275: store the poison pattern in word w, or zeros under Code N. -/
def State.poisonWord (s : State) (w : Nat) : State :=
  let code := match placeOf (8 * w) with
    | some .scratch => 2
    | some (.rill _) => 1
    | _ => match regionOf (8 * w) with
      | some r => (s.regionGet r).1
      | none => 0
  s.putWord w 0 (if code = 0 then 0 else poisonCheck code)

/-! Counters, logs and flip masks (R276-R278, R288). -/

/-- R291, R292: the ECC registers of a memory: those of DRH, or of DRF n, and its index m there. -/
structure EccMem where
  field : Option Nat
  m : Nat
  deriving DecidableEq, Repr

/-- The memory of R291 and R292 that holds a DPA. -/
def eccMemOf (a : Nat) : EccMem :=
  match placeOf a with
  | some .scratch => ⟨none, 4⟩
  | some (.rsv i) => ⟨some (i / 4), i % 4⟩
  | some (.qdr n) => ⟨some n, 4⟩
  | some (.rill n) => ⟨some n, 5⟩
  | _ => ⟨none, hbmStack a⟩

/-- A register of a memory: h in DRH, f in DRF. -/
def State.eccGet (s : State) (u : EccMem) (h f : Field) : Nat :=
  match u.field with
  | none => s.get h u.m
  | some n => s.get f n u.m
def State.eccSet (s : State) (u : EccMem) (h f : Field) (v : Nat) : State :=
  match u.field with
  | none => s.set h v u.m
  | some n => s.set f v n u.m
def State.eccCount (s : State) (u : EccMem) (h f : Field) (k : Nat := 1) : State :=
  match u.field with
  | none => s.count h k u.m
  | some n => s.count f k n u.m

/-- R291: the time stamp of the error log of DRH or of DRF n. -/
def eccStamp (field : Option Nat) : StampRegs :=
  match field with
  | none => ⟨DRH.TS_FRAC, DRH.TS_NS, DRH.TS_SECLO, DRH.TS_SECHI⟩
  | some _ => ⟨DRF.TS_FRAC, DRF.TS_NS, DRF.TS_SECLO, DRF.TS_SECHI⟩

/-- R276, R277, R284: log the first bad word: its address, the source and the kind of R291. -/
def State.eccLog (s : State) (field : Option Nat) (dpa src kind : Nat) : State :=
  match field with
  | none =>
    if s.flag DRH.ELOG1_VALID then s
    else (((((s.set DRH.ELOG0_DPA_LO dpa).set DRH.ELOG1_DPA_HI (dpa / 2 ^ 32)).set DRH.ELOG1_SRC src).set DRH.ELOG1_KIND kind).raise
      DRH.ELOG1_VALID).setStamp (eccStamp none) s.now
  | some n =>
    if s.flag DRF.ELOG1_VALID n then s
    else (((((s.set DRF.ELOG0_DPA_LO dpa n).set DRF.ELOG1_DPA_HI (dpa / 2 ^ 32) n).set DRF.ELOG1_SRC src n).set DRF.ELOG1_KIND kind n).raise
      DRF.ELOG1_VALID n).setStamp (eccStamp (some n)) s.now n

/-- R283: the walker of the memory that holds a DPA. -/
def walkerOf (a : Nat) : Nat :=
  match placeOf a with
  | some .scratch => 1
  | some (.rsv i) => 2 + 3 * (i / 4)
  | some (.qdr n) => 3 + 3 * n
  | some (.rill n) => 4 + 3 * n
  | _ => 0

def State.walker (s : State) (k : Nat) : WalkSt := Store.get {} k s.walkers
def State.setWalker (s : State) (k : Nat) (v : WalkSt) : State := { s with walkers := Store.set {} k v s.walkers }

/-- R276: enter a correctable word in the repair queue, or set RQDROP when it is full. -/
def State.enterRepair (s : State) (w : Nat) : State :=
  let k := walkerOf (8 * w)
  let v := s.walker k
  if v.repair.length < 16 then s.setWalker k { v with repair := v.repair ++ [w] }
  else if k < 2 then s.raise DRH.STAT_RQDROP else s.raise DRF.STAT_RQDROP ((k - 2) / 3)

/-- R285: a write to word w has been accepted: a write-back of an earlier reading of it is to be discarded. -/
def State.staleWrite (s : State) (w : Nat) : State :=
  let k := walkerOf (8 * w)
  let v := s.walker k
  if v.wb.any fun e => e.1 == w then s.setWalker k { v with wb := v.wb.map fun e => if e.1 = w then (w, true) else e } else s

/-- R341: a performed write to word w clears the reservations of every holder but its own on it. -/
def State.clearResv (s : State) (w : Nat) (holder : Option Nat) : State :=
  { s with resv := s.resv.filter fun e => e.2 != w + 1 || some e.1 == holder }

/-- R288: a full-word write of word w, with the flip mask where it applies. -/
def State.fullWrite (s : State) (w data : Nat) : State :=
  let u := eccMemOf (8 * w)
  let code := s.checkCode (8 * w)
  let match_ := s.eccGet u DRH.FM_MATCH DRF.FM_MATCH == 0 ||
    (s.eccGet u DRH.FM_ADDR_LO DRF.FM_ADDR_LO + s.eccGet u DRH.FM_ADDR_HI DRF.FM_ADDR_HI * 2 ^ 32) / 8 == w
  if code ≠ 0 ∧ s.eccGet u DRH.FM_ARM DRF.FM_ARM = 1 ∧ match_ then
    let m := s.eccGet u DRH.FM_DATA_LO DRF.FM_DATA_LO + s.eccGet u DRH.FM_DATA_HI DRF.FM_DATA_HI * 2 ^ 32
    let c := s.eccGet u DRH.FM_CHK DRF.FM_CHK % 2 ^ checkBits code
    (s.putWord w (data ^^^ m) (c ^^^ checkOf code m)).eccSet u DRH.FM_ARM DRF.FM_ARM 0
  else s.putWord w data 0

/-! Who may reach an address (R32, R45, R46, R272, R279, R343). -/

/-- R343: does a region of port p of reservoir i permit the access? kind: 0 read, 1 write or SC, 2 fetch, 3 AMO. -/
def State.rsvAllows (s : State) (i p off len kind : Nat) : Bool :=
  (List.range 8).any fun r =>
    s.flag RSV.RGN_V i p r && decide (s.get RSV.RGN_BASE i p r * 256 ≤ off ∧ off + len ≤ s.get RSV.RGN_LIMIT i p r * 256 + 256) &&
    (if kind = 1 then s.flag RSV.RGN_W i p r
     else if kind = 2 then s.flag RSV.RGN_R i p r && !s.flag RSV.RGN_XN i p r
     else if kind = 3 then s.flag RSV.RGN_R i p r && s.flag RSV.RGN_W i p r
     else s.flag RSV.RGN_R i p r)

/-- R344: count, flag and log a violation; src is 0 for a direct port. -/
def State.rsvViolate (s : State) (i p off kind src : Nat) : State :=
  let s := (s.count RSV.VIOLCNT 1 i).raise RSV.STAT_VIOL i
  if s.flag RSV.ELOG0_VALID i then s
  else ((((s.set RSV.ELOG0_OFS off i).set RSV.ELOG0_KIND (if kind = 3 then 1 else kind) i).set RSV.ELOG0_PORT p i).raise
    RSV.ELOG0_VALID i).set RSV.ELOG1_SRC src i

/-- R46, R252-R254, R266-R268: an access that reaches an unavailable memory: its status, with the count of a frozen one. -/
def State.memoryDown (s : State) (a : Nat) : Option (RStat × State) :=
  match placeOf a with
  | some .hbm =>
    if s.flag GLB.AVAIL_HBMUP then none
    else some (.poison, if s.get HMC.STAT_STATE (hbmStack a) = 4 then s.count HMC.POISCNT 1 (hbmStack a) else s)
  | some (.qdr n) =>
    if s.get QDR.STAT_STATE n = 2 then none
    else if s.get QDR.STAT_STATE n = 4 then some (.poison, s.count QDR.POISCNT 1 n)
    else some (.err, s)
  | _ => none

/-- The die of a source ID and its unit (R182). -/
def dieOf (src : Nat) : Nat := src / 256
def unitOf (src : Nat) : Nat := src % 256

/-- R32, R45: in recovery access every DPA window answers POISON; a DPA outside all of them is no window. -/
def State.recoveryBars (s : State) (a : Nat) : Bool := s.inRecovery && ((placeOf a).isSome || (windowField a).isSome)

/-- What an access of len bytes at a meets before the word rules: kind 0 read, 1 write, 2 fetch, 3 AMO; port: the direct
reservoir port, or none for Canal, whose reservoir port is 1. A fenced field's own initiators still reach its memories
(R175, R224), and its adapter answers what lies beyond. While TCLK is stopped a field sends nothing and does not answer (R157).
Answers the status where the access is not performed (DESIGN
CHOICE, log entry 3). -/
def State.reach (s : State) (src : Nat) (port : Option Nat) (a len kind : Nat) : Option (RStat × State) :=
  if s.recoveryBars a then some (.poison, s)
  else if decide (dieOf src < 8) && !s.time.tclk then some (.waits, s)
  else if (windowField a).any (fun n => !s.serves n && dieOf src != n) then some (.poison, s)
  else if (windowField a).isSome && !s.time.tclk then some (.timeout, s.timedOut .timeout)
  else if decide (dieOf src < 8) && s.flag FLF.FSTAT_FENCED (8 * dieOf src) && windowField a != some (dieOf src) then some (.poison, s)
  else match placeOf a with
  | none => some (.err, s)
  | some p =>
    if placeOf (a + len - 1) ≠ some p then some (.err, s)
    else match s.memoryDown a with
    | some r => some r
    | none =>
      if s.inHole a || s.inHole (a + len - 1) then some (.err, s)
      else match p with
      | .rsv i =>
        if (port ≠ none ∨ unitOf src ≠ 0x81) ∧ s.rsvAllows i (port.getD 1) (a % 0x400000) len kind = false then
          some (.refused, s.rsvViolate i (port.getD 1) (a % 0x400000) kind (if port = none then src else 0))
        else if (s.regionGet ((regionOf a).getD 0)).2 = 1 ∧ (s.regionGet ((regionOf a).getD 0)).1 ≠ 0 then some (.waits, s)
        else none
      | _ => match regionOf a with
        | some r => if (s.regionGet r).2 = 1 ∧ (s.regionGet r).1 ≠ 0 then some (.waits, s) else none
        | none => none

/-! Reading and writing (R276-R278). -/

/-- R332, R501: the bank of a reservoir word, and the wake of its clock by an access. -/
def bankOf (w : Nat) : Nat := w % 16 ^^^ w / 16 % 16
def State.wakeBank (s : State) (w : Nat) : State :=
  match placeOf (8 * w) with
  | some (.rsv i) =>
    if i % 4 < 2 then s.clearBitOf FPW.BGATE_BOFF_LO (16 * (i % 4) + bankOf w) (i / 4)
    else s.clearBitOf FPW.BGATE_BOFF_HI (16 * (i % 4 - 2) + bankOf w) (i / 4)
  | _ => s

/-- R276: read the words w, w + 1, ...: the data, whether any is unusable, and the state with corrections counted (DESIGN
CHOICE, log entry 23). -/
def State.readWords (s : State) (src w : Nat) : Nat → State × Option (List Byte)
  | 0 => (s, some [])
  | n + 1 =>
    let s := s.wakeBank w
    let u := eccMemOf (8 * w)
    let r := s.readWord w
    let s := match r.1 with
      | .correctable => (s.eccCount u DRH.MC_RDCORR DRF.MC_RDCORR).enterRepair w
      | .clean => s
      | _ => s.eccLog u.field (8 * w) src 1
    let t := s.readWords src (w + 1) n
    match r.1, t.2 with
    | .clean, some l => (t.1, some (bytesLE 8 r.2 ++ l))
    | .correctable, some l => (t.1, some (bytesLE 8 r.2 ++ l))
    | _, _ => (t.1, none)

/-- How many words the bytes a to a + len - 1 touch. -/
def wordSpan (a len : Nat) : Nat := (a + len - 1) / 8 - a / 8 + 1

/-- R257: the clock of the QDR port of field n in MHz, as its training read it. -/
def State.qdrMhz (s : State) (n : Nat) : Nat := [1066, 933, 800, 667].getD (Store.get {} (2 * n) s.qdrs).freq 1066

/-- The cycle of the QDR port of field n now. -/
def State.qdrNow (s : State) (n : Nat) : Nat := s.elapsed * s.qdrMhz n / 10 ^ 9

/-- A device port of the QDR port of field n. -/
def State.qdr (s : State) (n : Nat) (portB : Bool) : QdrSt := Store.get {} (2 * n + portB.toNat) s.qdrs
def State.setQdr (s : State) (n : Nat) (portB : Bool) (v : QdrSt) : State := { s with qdrs := Store.set {} (2 * n + portB.toNat) v s.qdrs }

/-- R260: the owner of the slot of cycle c of a device port: a write to the table takes effect at the next cycle with i = 0. -/
def State.slotOwner (s : State) (n : Nat) (portB : Bool) (c : Nat) : Nat :=
  let v := s.qdr n portB
  bitsOf (if v.since / 16 < c / 16 then s.get (if portB then QDR.SLOTB else QDR.SLOTA) n else v.old) (2 * (c % 16)) 2

/-- R260: a write of the word v to a slot table. -/
def State.writeSlots (s : State) (n : Nat) (portB : Bool) (v : Nat) : State :=
  let f := if portB then QDR.SLOTB else QDR.SLOTA
  let c := s.qdrNow n
  let q := s.qdr n portB
  let old := if q.since / 16 < c / 16 then s.get f n else q.old
  if f.dom.allows v then (s.set f v n).setQdr n portB { q with old := old, since := c } else s

/-- R260: the cycle in which a client is served that is ready from cycle c on, and where the rotation then stands, with the other clients that are
ready cycle by cycle: the slot's owner, else the first ready client of the rotation, which then advances. -/
def State.qdrServe (s : State) (n : Nat) (portB : Bool) (client rot : Nat) : Nat → List (List (Fin 3)) → Nat × Nat
  | c, [] => (c, if s.slotOwner n portB c = client then rot else (rot + 1) % 3)
  | c, l :: t =>
    let ready (x : Nat) : Bool := x == client || l.any fun y => y.val == x
    let o := s.slotOwner n portB c
    if ready o then (if o = client then (c, rot) else s.qdrServe n portB client rot (c + 1) t)
    else match ([rot, (rot + 1) % 3, (rot + 2) % 3]).find? ready with
      | some x => if x = client then (c, (rot + 1) % 3) else s.qdrServe n portB client ((rot + 1) % 3) (c + 1) t
      | none => (c, rot)

/-- R259-R261, R269: a client (0 Furrow, 1 fabric, 2 Canal) issues an access on a device port: it is counted, with the cycles for which it was ready and not served
and the turnaround of a write after a read. -/
def State.qdrAccess (s : State) (n : Nat) (portB : Bool) (client : Nat) (write : Bool) (ready : List (List (Fin 3))) : State :=
  let v := s.qdr n portB
  let now := s.qdrNow n
  let r := s.qdrServe n portB client v.rot (max now v.busy) ready
  let turn := write && v.lastRead
  let s := if portB then s.wrap2 QDR.ACCB_LO QDR.ACCB_HI 1 n else s.wrap2 QDR.ACCA_LO QDR.ACCA_HI 1 n
  let s := s.count (if client = 0 then QDR.STFUR else if client = 1 then QDR.STFAB else QDR.STCNL) (r.1 - now) n
  let s := if turn then s.count QDR.TURN 1 n else s
  s.setQdr n portB { v with rot := r.2, lastRead := !write, busy := r.1 + 1 + turn.toNat }

/-- R259, R262: Furrow or Canal issues the reads and writes of an access, a read before the write that merges it, each on either device port, a read and its write on one.
The fabric's ports (1) issue their own. No other client is taken to be ready (DESIGN CHOICE, log entry 27). -/
def State.qdrIssues (s : State) (client n reads writes : Nat) : Nat → State
  | 0 => s
  | fuel + 1 =>
    if reads + writes = 0 then s
    else
      let b := s.openValue .qdrPort % 2 == 1
      let s := s.used
      let s := if reads = 0 then s else s.qdrAccess n b client false []
      let s := if writes = 0 then s else s.qdrAccess n b client true []
      s.qdrIssues client n (reads - 1) (writes - 1) fuel

/-- R259-R262, R269: an access of reads and writes at a, where that lies in a QDR window. -/
def State.qdrIssued (s : State) (client a reads writes : Nat) : State :=
  match placeOf a with
  | some (.qdr n) => if client = 1 then s else s.qdrIssues client n reads writes (reads + writes)
  | _ => s

/-- R262: the reads and writes that n words of a write issue, from word w, eight byte places a word: a word that it covers in
part is read first, and not written where R277 refuses it. -/
def State.writeIssues (s : State) (pois : Bool) : Nat → Nat → List (Option Byte) → Nat × Nat
  | _, 0, _ => (0, 0)
  | w, n + 1, l =>
    let c := s.writeIssues pois (w + 1) n (l.drop 8)
    let b := (l ++ List.replicate 8 none).take 8
    if b.all (·.isNone) then c
    else if pois || b.all (·.isSome) then (c.1, c.2 + 1)
    else if (s.readWord w).1 = .clean ∨ (s.readWord w).1 = .correctable then (c.1 + 1, c.2 + 1)
    else (c.1 + 1, c.2)

/-- R276: a read of len bytes at a (DEDUCED, log entry 25). -/
def State.readMem (s : State) (src : Nat) (port : Option Nat) (a len : Nat) (fetch : Bool := false) (client : Nat := 2) : State × RStat × List Byte :=
  match s.reach src port a len (if fetch then 2 else 0) with
  | some (st, s) => (s, st, [])
  | none =>
    let t := (s.qdrIssued client a (wordSpan a len) 0).readWords src (a / 8) (wordSpan a len)
    match t.2 with
    | some l => (t.1, .ok, (l.drop (a % 8)).take len)
    | none => ((t.1.eccCount (eccMemOf a) DRH.MC_RDUNC DRF.MC_RDUNC), .poison, [])

/-- One word of a write: the bytes given replace those of the word (R277). Answers whether the word was refused. -/
def State.writeWord (s : State) (src : Nat) (holder : Option Nat) (w : Nat) (bytes : List (Option Byte)) (pois : Bool) : State × Bool :=
  let u := eccMemOf (8 * w)
  if bytes.all (·.isNone) then (s, false) else
  let s := s.wakeBank w
  if pois then (((s.poisonWord w).staleWrite w).clearResv w holder, false)
  else if bytes.all (·.isSome) then
    (((s.fullWrite w (natLE (bytes.map fun b => b.getD 0))).staleWrite w).clearResv w holder, false)
  else
    let r := s.readWord w
    let merged (v : Nat) : Nat := natLE ((bytesLE 8 v).zip bytes |>.map fun e => e.2.getD e.1)
    match r.1 with
    | .clean => (((s.putWord w (merged r.2) 0).staleWrite w).clearResv w holder, false)
    | .correctable =>
      let s := (s.eccCount u DRH.MC_PWMERGE DRF.MC_PWMERGE).eccCount u DRH.MC_RDCORR DRF.MC_RDCORR
      (((s.putWord w (merged r.2) 0).staleWrite w).clearResv w holder, false)
    | _ => ((s.eccCount u DRH.MC_PWREF DRF.MC_PWREF).eccLog u.field (8 * w) src 3, true)

/-- R277: the words of a write, from word w, eight byte places a word. -/
def State.writeWords (s : State) (src : Nat) (holder : Option Nat) (pois : Bool) : Nat → Nat → List (Option Byte) → State × Bool
  | _, 0, _ => (s, false)
  | w, n + 1, l =>
    let t := s.writeWord src holder w ((l ++ List.replicate 8 none).take 8) pois
    let r := t.1.writeWords src holder pois (w + 1) n (l.drop 8)
    (r.1, t.2 || r.2)

/-- R277: a write at a; a place with no byte is left as it is. REFUSED where a word was refused. -/
def State.writeMem (s : State) (src : Nat) (port holder : Option Nat) (a : Nat) (bytes : List (Option Byte)) (pois : Bool := false)
    (client : Nat := 2) : State × RStat :=
  match s.reach src port a bytes.length 1 with
  | some (st, s) => (s, st)
  | none =>
    let l := List.replicate (a % 8) none ++ bytes
    let c := s.writeIssues pois (a / 8) (wordSpan a bytes.length) l
    let t := (s.qdrIssued client a c.1 c.2).writeWords src holder pois (a / 8) (wordSpan a bytes.length) l
    (t.1, if t.2 then .refused else .ok)

/-- A write of whole bytes (DEDUCED, log entry 25). -/
def State.storeMem (s : State) (src a : Nat) (bytes : List Byte) : State × RStat :=
  s.writeMem src none none a (bytes.map some)

/-- R189: the value that an atomic operation stores, on an operand of n bytes. -/
def atomicOf (aop n old operand swap : Nat) : Nat :=
  match aop with
  | 0 => (old + operand) % 2 ^ (8 * n)
  | 1 => operand
  | 2 => if old = operand then swap else old
  | 3 => old &&& operand
  | 4 => old ||| operand
  | 5 => old ^^^ operand
  | 6 => max old operand
  | _ => min old operand

/-- R189: are the size, the alignment, the operation and the window of an AMO good? -/
def atomicOk (a len aop : Nat) : Bool :=
  (len == 4 || len == 8) && a % len == 0 && decide (aop ≤ 7) &&
  match placeOf a with
  | some .hbm => true
  | some .scratch => true
  | some (.rsv _) => true
  | _ => false

/-- R189, R278: an AMO (DEDUCED, log entry 23): the old value, with the memory changed; data holds the operand at 0 and the swap value at 32. -/
def State.atomicMem (s : State) (src a len aop : Nat) (data : List Byte) : State × RStat × List Byte :=
  if (windowField a).any (fun n => !s.serves n && dieOf src != n) || s.recoveryBars a then (s, .poison, [])
  else if atomicOk a len aop = false then (s, .err, [])
  else match s.reach src none a len 3 with
  | some (st, s) => (s, st, [])
  | none =>
    let w := a / 8
    let u := eccMemOf a
    let s := s.wakeBank w
    let r := s.readWord w
    match r.1 with
    | .uncorrectable => (s.eccLog u.field (8 * w) src 4, .poison, [])
    | .poisoned => (s.eccLog u.field (8 * w) src 4, .poison, [])
    | _ =>
      let old := bitsOf r.2 (8 * (a % 8)) (8 * len)
      let new := atomicOf aop len old (natLE (data.take len)) (natLE ((data.drop 32).take len))
      let v := r.2 - old * 2 ^ (8 * (a % 8)) + new * 2 ^ (8 * (a % 8))
      (((s.putWord w v 0).staleWrite w).clearResv w none, .ok, bytesLE len old)

end Sys2Proof.Machine
end

