-- ==== Sys2Proof/Machine/Codes.lean ====
section
/-! DEFINITION. Check sequences: the CRC-32 of IEEE 802.3 (R62, R149, R479) and the CRC-16 of the Welisko training frame (R89). -/
namespace Sys2Proof.Machine

/-- One bit through the reflected CRC-32 register. -/
def crc32Bit (c : Nat) : Nat := if c % 2 = 1 then (c / 2) ^^^ 0xEDB88320 else c / 2

/-- One byte through the CRC-32 register. -/
def crc32Byte (c : Nat) (b : Byte) : Nat :=
  crc32Bit (crc32Bit (crc32Bit (crc32Bit (crc32Bit (crc32Bit (crc32Bit (crc32Bit (c ^^^ b.toNat))))))))

/-- The CRC-32 with the IEEE 802.3 polynomial over bytes. -/
def crc32 (l : List Byte) : Nat := (l.foldl crc32Byte 0xFFFFFFFF) ^^^ 0xFFFFFFFF

/-- R149: the FCS-32, in the order its bytes are sent. -/
def fcsBytes (l : List Byte) : List Byte :=
  let c := crc32 l
  [BitVec.ofNat 8 c, BitVec.ofNat 8 (c / 2 ^ 8), BitVec.ofNat 8 (c / 2 ^ 16), BitVec.ofNat 8 (c / 2 ^ 24)]

/-- R89: one bit through the CRC x^16 + x^12 + x^5 + 1. -/
def crc16Bit (c : Nat) (b : Bool) : Nat :=
  let f := bitOf c 15 != b
  let c := c * 2 % 65536
  if f then c ^^^ 0x1021 else c

/-- R89: the CRC of the 48 control and status bits, in the order sent. -/
def trainCrc (cell : Nat) : Nat :=
  (List.range 48).foldl (fun c i => crc16Bit c (bitOf cell i)) 0xFFFF

/-- R89: the cell that carries a control word, a status word and their CRC, bit i sent i-th; the CRC is sent from bit 15 down. -/
def trainCell (control status : Nat) : Nat :=
  let body := control % 2 ^ 24 + status % 2 ^ 24 * 2 ^ 24
  let crc := trainCrc body
  body + (List.range 16).foldl (fun a j => if bitOf crc (15 - j) then a + 2 ^ (48 + j) else a) 0

end Sys2Proof.Machine
end

