-- ==== Sys2Proof/Machine/Rings.lean ====
section
/-! DEFINITION. Trace packets and the FIFOs of the trace rings (spec/19_debug.md R477, R478), and the frames and events of
Watermaster (R462, R468, R485). -/
namespace Sys2Proof.Machine

/-- The registers of a trace ring. -/
structure RingRegs where
  baseLo : Field
  baseHi : Field
  en : Field
  wrap : Field
  log2 : Field
  state : Field
  wptrLo : Field
  wptrHi : Field
  drop : Field

/-- R478: the registers of ring u: of the FDB of field u, or of DBG for 8. -/
def ringRegs (u : Nat) : RingRegs :=
  if u < 8 then ⟨FDB.TBASE_LO, FDB.TBASE_HI, FDB.TCFG_EN, FDB.TCFG_WRAP, FDB.TCFG_LOG2, FDB.TSTAT_STATE, FDB.TWPTR_WPTR_LO, FDB.TWPTR_WPTR_HI, FDB.TDROP⟩
  else ⟨DBG.TBASE_LO, DBG.TBASE_HI, DBG.TCFG_EN, DBG.TCFG_WRAP, DBG.TCFG_LOG2, DBG.TSTAT_STATE, DBG.TWPTR_WPTR_LO, DBG.TWPTR_WPTR_HI, DBG.TDROP⟩

/-- The instance of the ring's block. -/
def ringIx (u : Nat) : Nat := if u < 8 then u else 0

def State.ring (s : State) (u : Nat) : RingSt := Store.get {} u s.rings
def State.setRing (s : State) (u : Nat) (r : RingSt) : State := { s with rings := Store.set {} u r s.rings }

/-- R477: a packet: kind, unit, port, SIZE and its data bytes, followed by those of pad, which SIZE leaves out. -/
def tracePacket (ts die kind unit port size : Nat) (data : List Byte) (pad : Nat) : List Byte :=
  bytesLE 10 (tsOf ts) ++ bytesLE 6 (die + kind * 2 ^ 8 + unit * 2 ^ 16 + port * 2 ^ 24 + size * 2 ^ 32) ++ (data ++ bytesLE 16 pad).take 16

/-- R478: a packet is dropped. -/
def State.traceDrop (s : State) (u : Nat) : State :=
  (s.count (ringRegs u).drop 1 (ringIx u)).setRing u { s.ring u with dropped := (s.ring u).dropped + 1 }

/-- The time at which die u stamps a packet. -/
def State.traceNow (s : State) (u : Nat) : Nat := if u < 8 then s.fieldNow u else s.now

/-- R478: a packet enters the FIFO of 512 of a running ring, behind an OVERFLOW packet after drops, or is dropped. -/
def State.trace (s : State) (u kind unit port size : Nat) (data : List Byte) : State :=
  let st := s.get (ringRegs u).state (ringIx u)
  if st = 1 then
    let s := s.used
    let r := s.ring u
    let p := tracePacket (s.traceNow u) u kind unit port size data (s.openValue .tracePad)
    if r.dropped = 0 then
      if r.fifo.length < 512 then s.setRing u { r with fifo := r.fifo ++ [p] } else s.traceDrop u
    else if r.fifo.length < 511 then
      s.setRing u { fifo := r.fifo ++ [tracePacket (s.traceNow u) u 5 0 0 8 (bytesLE 8 r.dropped) (s.openValue .tracePad), p], dropped := 0 }
    else s.traceDrop u
  else if st = 2 then s.traceDrop u
  else s

/-- R478: a frozen HBM controller or a fence stops a ring and discards its FIFO (DEDUCED, log entry 40). -/
def State.stopRing (s : State) (u : Nat) : State :=
  if s.get (ringRegs u).state (ringIx u) = 1 ∨ s.get (ringRegs u).state (ringIx u) = 2 then
    (s.set (ringRegs u).state 0 (ringIx u)).setRing u {}
  else s

/-- The same for every ring (DEDUCED, log entry 34). -/
def State.stopRings (s : State) : State := (List.range 9).foldl (fun s u => s.stopRing u) s

/-! Watermaster frames and events. -/

/-- R462: a frame: TYPE, SEQ, CMD, STATUS, SID and payload. -/
def wmFrame (ty seq cmd status sid : Nat) (payload : List Byte) : List Byte :=
  let b := [0xA5, 0x5A, 0x01] ++ bytesLE 1 ty ++ bytesLE 2 seq ++ bytesLE 2 cmd ++ bytesLE 2 payload.length ++ bytesLE 2 status ++
    bytesLE 4 sid ++ payload
  b ++ bytesLE 4 (crc32 b)

/-- Put a frame into a buffer of the host channel. -/
def State.setBuf (s : State) (f : Field) (i : Nat) : List Byte → State
  | [] => s
  | [a] => s.set f (natLE [a]) i
  | [a, b] => s.set f (natLE [a, b]) i
  | [a, b, c] => s.set f (natLE [a, b, c]) i
  | a :: b :: c :: d :: t => (s.set f (natLE [a, b, c, d]) i).setBuf f (i + 1) t

/-- R468: send one event of session sid on transport x (true: the host channel). -/
def State.sendEvent (s : State) (x : Bool) (sid cmd : Nat) (payload : List Byte) : State :=
  let b := wmFrame 3 (s.wm.evSeq % 2 ^ 16) cmd 0 sid payload
  let s := { s with wm := { s.wm with evSeq := s.wm.evSeq + 1 } }
  if x then (s.setBuf WHC.EVTBUF 0 b).raise WHC.STAT_EVTV else s.emit (.msp b)

/-- R468, R485: the next event that waits goes to the free event buffer, after LOST where events were dropped. -/
def State.nextEvent (s : State) : State :=
  if s.flag WHC.STAT_EVTV then s
  else if s.wm.lost ≠ 0 then ({ s with wm := { s.wm with lost := 0 } }).sendEvent true (s.get DBG.SID) 0x8003 (bytesLE 4 s.wm.lost)
  else match s.wm.events with
  | e :: t => ({ s with wm := { s.wm with events := t } }).sendEvent true e.1 e.2.1 e.2.2
  | [] => s

/-- R468: an event of the open session; up to 64 wait. -/
def State.wmEvent (s : State) (cmd : Nat) (payload : List Byte) : State :=
  if !s.flag DBG.SESS_ACTIVE then s
  else if s.flag DBG.SESS_XPORT && s.flag WHC.STAT_EVTV then
    if s.wm.events.length < 64 then { s with wm := { s.wm with events := s.wm.events ++ [(s.get DBG.SID, cmd, payload)] } }
    else { s with wm := { s.wm with lost := s.wm.lost + 1 } }
  else s.sendEvent (s.flag DBG.SESS_XPORT) (s.get DBG.SID) cmd payload

end Sys2Proof.Machine
end

