-- ==== Sys2Proof/Machine/Hbm.lean ====
section
/-! DEFINITION. The HBM controllers (spec/09_hbm.md R234-R255): pseudo-channel queues and their commands, refresh, change of
operating point, training and freeze; and how a request reaches a memory and is answered. -/
namespace Sys2Proof.Machine

/-! The answer to a request. -/

/-- R211, R220: the channels of a field on which streams are placed, in ascending order: the live ones, and those of a module that
retrains, whose streams hold (DEDUCED, log entry 29). -/
def State.liveChannels (s : State) (n : Nat) : List Nat := (List.range 16).filter fun c =>
  s.carriesAs n (c / 2) (c % 2) && (s.get FLH.MSTAT_STATE n (c / 2) == 2 || s.get FLH.MSTAT_STATE n (c / 2) == 3)

/-- R211: the channel of field n that the stream of a source in a class takes; R204: channel 0 where none is live. -/
def State.fieldChannel (s : State) (n src cls : Nat) : Nat :=
  let l := s.liveChannels n
  l.getD ((5 * src + cls) % l.length) 0

/-- R174, R211, R238: the output port toward a DPA; none for a target in Headworks (PRESUMED, log entry 30). -/
def State.outPort (s : State) (src oc a : Nat) : Option Nat :=
  if inCsr a then
    let w := (a - csrBase) / 0x1000000
    if 1 ≤ w ∧ w ≤ 8 then some (16 * (w - 1) + s.fieldChannel (w - 1) src 4)
    else if w = 9 then some (169 + (5 * src + 4) % 4)
    else if w = 10 then some (173 + (5 * src + 4) % 4)
    else none
  else if placeOf a = some .hbm then some (hbmPort a)
  else (windowField a).map fun n => 16 * n + s.fieldChannel n src oc

/-- R191, R204: a posted write that cannot be performed is dropped, counted and logged. -/
def State.dropPosted (s : State) (r : Req) (st : RStat) : State :=
  let s := (s.raise CNL.STAT_PWDROP).count CNL.PWDROP
  if s.flag CNL.ELOG2_VALID then s
  else
    let kind := match st with
      | .err => 2
      | .refused => 4
      | _ => 3
    ((((((s.set CNL.ELOG0_SRC r.src).set CNL.ELOG0_PORT ((s.outPort r.src r.oc r.addr).getD 0)).set CNL.ELOG0_VC 2).set
      CNL.ELOG0_KIND kind).set CNL.ELOG1_ADDR_LO r.addr).set CNL.ELOG2_ADDR_HI (r.addr / 2 ^ 32)).raise CNL.ELOG2_VALID

/-- The tag under a key. -/
def State.tagAt (s : State) (t : Nat) : Option Tag := Store.find t s.tags

/-- The target gives its response to a request. -/
def State.respond (s : State) (r : Req) (st : RStat) (data : List Byte) : State :=
  match r.tag with
  | some t =>
    match s.tagAt t with
    | some e => if e.req.ord = r.ord then { s with tags := Store.put t { e with resp := some { st := st, data := data } } s.tags } else s
    | none => s
  | none => if st = .ok then s else s.dropPosted r st

/-- Is the request of the MGT virtual channel? -/
def Req.mgt (r : Req) : Bool := r.op == .crd || r.op == .cwr

/-- R211: the class of its stream. -/
def Req.cls (r : Req) : Nat := if r.mgt then 4 else r.oc

/-- R186, R187: the same order class of the same source. -/
def Req.sameStream (a b : Req) : Bool := a.src == b.src && a.cls == b.cls

/-- R187: the target unit of a DPA outside the CSR region: a number for each pseudo-channel, reservoir, QDR port, field's Rill
memories and the scratch. -/
def memTarget (a : Nat) : Nat :=
  match placeOf a with
  | some .hbm => 1000 + hbmChannel a
  | some .scratch => 1
  | some (.rsv i) => 100 + i
  | some (.qdr n) => 200 + n
  | some (.rill n) => 300 + n
  | none => 2

/-- R186, R187: an earlier request of the same stream to the same target unit still waits for its region. -/
def State.blocked (s : State) (r : Req) : Bool :=
  s.waiting.any fun q => q.sameStream r && memTarget q.addr == memTarget r.addr

/-- R188-R190, R276-R278: a request is performed at its target and answered; one whose region is being initialised waits, and so
does one behind it. -/
def State.perform (s : State) (r : Req) : State :=
  if s.blocked r then { s with waiting := s.waiting ++ [r] }
  else match r.op with
  | .rd =>
    let t := s.readMem r.src none r.addr r.len
    if t.2.1 = .waits then { t.1 with waiting := t.1.waiting ++ [r] } else t.1.respond r t.2.1 t.2.2
  | .wr =>
    let t := s.writeMem r.src none none r.addr (r.data.map some) r.pois
    if t.2 = .waits then { t.1 with waiting := t.1.waiting ++ [r] } else t.1.respond r t.2 []
  | .pwr =>
    let t := s.writeMem r.src none none r.addr (r.data.map some) r.pois
    if t.2 = .waits then { t.1 with waiting := t.1.waiting ++ [r] } else t.1.respond r t.2 []
  | .amo =>
    let t := s.atomicMem r.src r.addr r.len r.aop r.data
    if t.2.1 = .waits then { t.1 with waiting := t.1.waiting ++ [r] } else t.1.respond r t.2.1 t.2.2
  | _ => s

/-! Pseudo-channel queues (R240-R243). -/

def State.pc (s : State) (k : Nat) : PcSt := Store.get {} k s.pcs
def State.hmc (s : State) (m : Nat) : HmcSt := Store.get {} m s.hmcs
def State.setHmc (s : State) (m : Nat) (v : HmcSt) : State := { s with hmcs := Store.set {} m v s.hmcs }

/-- R245: is a pseudo-channel held by the real-time class? -/
def State.pcHeld (s : State) (k : Nat) (v : PcSt) : Bool :=
  s.flag HMC.CTRL_RTPOST (k / 32) && (v.q.take 32).any fun e => e.req.src == 0x804 && (e.req.op == .wr || e.req.op == .pwr)

/-- Update pseudo-channel k, 0 to 127, with the registers that show its queue. -/
def State.setPc (s : State) (k : Nat) (v : PcSt) : State :=
  let s := { s with pcs := Store.set {} k v s.pcs }
  (s.set HMC.PCQ_QOCC (min 32 v.q.length) (k / 32) (k % 32)).setB HMC.PCSTAT_HELD (s.pcHeld k v) (k / 32) (k % 32)

/-- R241, R250: a request enters its pseudo-channel, or waits in the merge stage through a change of operating point. -/
def State.enqueue (s : State) (r : Req) : State :=
  let k := hbmChannel r.addr
  let v := s.pc k
  if s.get HMC.STAT_STATE (k / 32) = 3 then s.setPc k { v with wait := v.wait ++ [⟨r, s.now⟩] }
  else s.setPc k { v with q := v.q ++ [⟨r, s.now⟩] }

/-- A request arrives at the memory that holds its address: an HBM request that its controller can take is queued, any other
is performed or answered at once. -/
def State.arrive (s : State) (r : Req) : State :=
  if placeOf r.addr = some .hbm ∧ s.flag GLB.AVAIL_HBMUP ∧ s.inRecovery = false ∧ (r.op ≠ .amo ∨ atomicOk r.addr r.len r.aop) then s.enqueue r
  else s.perform r

/-- R241: is the request a write for the batches and the block rules? -/
def Req.writes (r : Req) : Bool := r.op == .wr || r.op == .pwr || r.op == .amo

/-- Do two requests overlap in bytes? -/
def Req.overlaps (a b : Req) : Bool := decide (a.addr < b.addr + b.len ∧ b.addr < a.addr + a.len)

/-- R241: the earlier queued writes that a read overlaps. -/
def olderWrites (older : List QReq) (r : Req) : List Req := (older.map (·.req)).filter fun w => w.writes && w.overlaps r

/-- R241: is every byte of a read held by earlier queued writes? -/
def coveredBy (older : List Req) (r : Req) : Bool :=
  (List.range r.len).all fun i => older.any fun w => w.op != .amo && decide (w.addr ≤ r.addr + i ∧ r.addr + i < w.addr + w.len)

/-- R186, R187, R241: may a request be issued ahead of the older ones? It passes no request of its own stream, but for writes that
answer it; a write passes nothing in its block (DESIGN CHOICE, log entry 26). -/
def mayIssue (older : List QReq) (r : Req) : Bool :=
  older.all fun e =>
    let b := e.req
    let held := !r.writes && b.writes && b.overlaps r && coveredBy (olderWrites older r) r
    if held then true
    else if b.sameStream r then false
    else if b.addr / 256 = r.addr / 256 then !r.writes && !(b.writes && b.overlaps r)
    else true

/-- R242, R246: does a request need an activate that the neighbour queue forbids? -/
def PcSt.rowReady (v : PcSt) (r : Req) : Bool :=
  Store.find (hbmBank r.addr) v.rows == some (hbmRow r.addr) ||
  (decide (v.nbr.length < 4) && v.nbr.all fun e => e.1 != hbmBank r.addr)

/-- The positions in the queue of the requests that are ready. -/
def PcSt.ready (v : PcSt) : List Nat :=
  (List.range (min 32 v.q.length)).filter fun i =>
    match v.q[i]? with
    | some e => mayIssue (v.q.take i) e.req && v.rowReady e.req
    | none => false

/-- R246: one step of the LFSR x^32 + x^22 + x^2 + x + 1. -/
def lfsrStep (x : Nat) : Nat :=
  x * 2 % 2 ^ 32 + (bitOf x 31 != (bitOf x 21 != (bitOf x 1 != bitOf x 0))).toNat

/-- R246, R247: an activate of a row: it is counted, for its bank too, the LFSR is clocked, and the row may enter the neighbour queue (DESIGN
CHOICE, log entry 26). -/
def State.activate (s : State) (k bank row : Nat) : State :=
  let m := k / 32
  let s := s.setPc k { s.pc k with acts := Store.put bank (Store.get 0 bank (s.pc k).acts + 1) (s.pc k).acts }
  let s := s.count HMC.PCCNT0_ACTS 1 m (k % 32)
  if s.flag HMC.CTRL_NRREN m then
    let x := lfsrStep (s.hmc m).lfsr
    let s := s.setHmc m { s.hmc m with lfsr := x }
    let v := s.pc k
    if x % 2 ^ s.get HMC.CTRL_NRRK m = 0 ∧ v.nbr.length < 4 then
      let s := s.setPc k { v with nbr := v.nbr ++ [(bank, row)] }
      if v.nbr.length = 3 then s.raise HMC.PCSTAT_NRRFULL m (k % 32) else s
    else s
  else s

/-- Close the row of a bank. -/
def State.closeRow (s : State) (k bank : Nat) : State :=
  s.setPc k { s.pc k with rows := Store.drop bank (s.pc k).rows }

/-- R242, R243: the row of a request is opened where it is not, and left open unless IDLE is 0; the bank's idle timer starts again. -/
def State.openRow (s : State) (k : Nat) (r : Req) : State :=
  let bank := hbmBank r.addr
  let row := hbmRow r.addr
  let s := if Store.find bank (s.pc k).rows = some row then s
    else (s.activate k bank row).setPc k { (s.activate k bank row).pc k with rows := Store.put bank row ((s.activate k bank row).pc k).rows }
  let s := s.setPc k { s.pc k with used := Store.put bank s.elapsed (s.pc k).used }
  if s.get HMC.PCCFG_IDLE (k / 32) (k % 32) = 0 then s.closeRow k bank else s

/-- R241: issue the request at position i of the queue; a read that older queued writes hold is answered from them, and stays in
the queue while its region is being initialised. -/
def State.issueAt (s : State) (k i : Nat) : State :=
  let v := s.pc k
  match v.q[i]? with
  | none => s
  | some e =>
    let held := olderWrites (v.q.take i) e.req
    let s' := s.setPc k { v with q := v.q.eraseIdx i, batch := v.batch + 1 }
    if e.req.writes = false ∧ held ≠ [] then
      let t := (held.foldl (fun s w => s.perform { w with tag := none }) s').readMem e.req.src none e.req.addr e.req.len
      if t.2.1 = .waits then s else s'.respond e.req t.2.1 t.2.2
    else (s'.openRow k e.req).perform e.req

/-- R244, R245: one per-bank refresh, in rotation: one that is due, else an owed one is paid. -/
def State.refresh (s : State) (k : Nat) : State :=
  let v := s.pc k
  let m := k / 32
  let owed := s.get HMC.PCSTAT_OWED m (k % 32) - if v.due = 0 then 1 else 0
  (s.set HMC.PCSTAT_OWED owed m (k % 32)).setPc k
    { v with due := v.due - 1, rows := Store.drop v.rot v.rows, rot := (v.rot + 1) % 48, burst := v.burst && owed != 0 }

/-- R246: the entries of the neighbour queue that may be served: while it is full, the oldest alone. -/
def PcSt.servable (v : PcSt) : List (Nat × Nat) := if v.nbr.length < 4 then v.nbr else v.nbr.take 1

/-- R246: serve the neighbour queue's first entry whose bank is closed. -/
def State.serveNeighbour (s : State) (k : Nat) (e : Nat × Nat) : State :=
  let v := s.pc k
  let s := s.setPc k { v with nbr := v.nbr.erase e }
  let rows := (if e.2 = 0 then [] else [e.2 - 1]) ++ (if e.2 = 24575 then [] else [e.2 + 1])
  (rows.foldl (fun s r => s.activate k e.1 r) s).count HMC.PCCNT1_NRROWS rows.length (k / 32) (k % 32)

/-- R242: the direction of the batch now (DESIGN CHOICE, log entry 26). -/
def PcSt.direction (v : PcSt) (ready : List Nat) : Bool :=
  let q := v.q.take 32
  let writes := q.countP fun e => e.req.writes
  let readReady := ready.any fun i => (v.q[i]?).any fun e => !e.req.writes
  if v.writing then decide (0 < writes ∧ v.batch < 32) else decide (16 ≤ writes) || (!readReady && decide (0 < writes))

/-- R247: the bank that needs refresh management: one with as many activates as the stack's mode registers allow, or one for which the stack requires it. -/
def PcSt.needsRfm (v : PcSt) (m : Nat) (rfm : Option Nat) : Option Nat :=
  match v.acts.find? fun e => decide (Config.rfmLimit m ≤ e.2 ∧ 0 < e.2) with
  | some e => some e.1
  | none => rfm

/-- R247: refresh management of a bank, whose row is closed for it. -/
def State.rfm (s : State) (k bank : Nat) : State :=
  let s := s.closeRow k bank
  s.setPc k { s.pc k with acts := Store.drop bank (s.pc k).acts }

/-- R242: the first ready command of the priority list; rfm names the bank for which the stack requires refresh
management (DESIGN CHOICE, log entry 26). -/
def State.issue (s : State) (k : Nat) (rfm : Option Nat) : State :=
  let v := s.pc k
  let owed := s.get HMC.PCSTAT_OWED (k / 32) (k % 32)
  if v.burst then s.refresh k
  else match v.needsRfm (k / 32) rfm with
  | some b => s.rfm k b
  | none =>
    match v.servable.find? fun e => (Store.find e.1 v.rows).isNone with
    | some e => s.serveNeighbour k e
    | none =>
      let ready := v.ready
      let dir := v.direction ready
      let v' : PcSt := { v with writing := dir, batch := if dir = v.writing then v.batch else 0 }
      let s := s.setPc k v'
      let old := ready.find? fun i => (v.q[i]?).any fun e => decide (e.since + 2000 * 2 ^ 32 < s.now)
      let inDir := ready.filter fun i => (v.q[i]?).any fun e => e.req.writes == dir
      let hit := inDir.find? fun i => (v.q[i]?).any fun e => Store.find (hbmBank e.req.addr) v.rows == some (hbmRow e.req.addr)
      match old, hit with
      | some i, _ => s.issueAt k i
      | none, some i => s.issueAt k i
      | none, none =>
        if v.due ≠ 0 ∨ (owed ≠ 0 ∧ s.pcHeld k v = false) then s.refresh k
        else match inDir with
          | i :: _ => s.issueAt k i
          | [] => s

/-- The reads in the queue of a pseudo-channel. -/
def State.queuedReads (s : State) (k : Nat) : Nat := (s.pc k).q.countP fun e => !e.req.writes

/-- R253: where a read has left the queue of pseudo-channel k since s0, its retry succeeded. -/
def State.retried (s s0 : State) (k : Nat) : State :=
  if s.queuedReads k < s0.queuedReads k then s.count HMC.PCCNT2_PRETRY 1 (k / 32) (k % 32) else s

/-- R242: a pseudo-channel issues a command; rfm: a bank for which the stack's mode registers require refresh management (R247);
retry: a read that it issues returns with a data parity error, and its one automatic retry succeeds (R253). -/
def execHbmCommandIssue (m : HmcId) (p : Fin 32) (rfm : Option (Fin 48)) (retry : Bool) (s : State) : Result :=
  .next (if s.get HMC.STAT_STATE m = 2 ∨ s.get HMC.STAT_STATE m = 3 then
    let t := s.issue (32 * m + p) (rfm.map (·.val))
    if retry then t.retried s (32 * m + p) else t
  else s)

/-- R235: the CK frequency of an operating point, in MHz. -/
def ckMhz (rate : Nat) : Nat := [2400, 2000, 1600, 800].getD rate 2400

/-- R244: the time from one per-bank refresh to the next, in 10^-15 s: TREFI / 48 CK, half of it above 85 °C. -/
def State.refreshInterval (s : State) (m : Nat) : Nat :=
  s.get HMC.TIM3_TREFI m * 10 ^ 9 / (48 * ckMhz (s.get HMC.STAT_RATE m) * if s.flag HMC.STAT_HOT m then 2 else 1)

/-- R244, R245: a refresh falls due in pseudo-channel k: it joins a forced burst; in a held pseudo-channel it is postponed, and the eighth begins a
forced burst; else it is issued in its turn. -/
def State.refreshDue (s : State) (k : Nat) : State :=
  let m := k / 32
  let p := k % 32
  let owed := s.get HMC.PCSTAT_OWED m p
  let s := s.setPc k { s.pc k with dueAt := (s.pc k).dueAt + s.refreshInterval m }
  if (s.pc k).burst then s.count HMC.PCSTAT_OWED 1 m p
  else if s.pcHeld k (s.pc k) then
    if owed + 1 < 8 then s.set HMC.PCSTAT_OWED (owed + 1) m p
    else
      let s := ((s.set HMC.PCSTAT_OWED (owed + 1) m p).raise HMC.PCSTAT_FORCED m p).count HMC.PCCNT2_FBURST 1 m p
      s.setPc k { s.pc k with burst := true }
  else s.setPc k { s.pc k with due := (s.pc k).due + 1 }

/-- R244, R245: a per-bank refresh falls due, once its time has come. -/
def execRefreshDue (m : HmcId) (p : Fin 32) (s : State) : Result :=
  .next (if s.get HMC.STAT_STATE m = 2 ∧ (s.pc (32 * m + p)).dueAt ≤ s.elapsed then s.refreshDue (32 * m + p) else s)

/-- R243: the idle timer of a bank of pseudo-channel k has expired: IDLE units of 16 CK have passed since its last access; with IDLE = 0xFFF it never does. -/
def State.idleOver (s : State) (k bank : Nat) : Bool :=
  let v := s.get HMC.PCCFG_IDLE (k / 32) (k % 32)
  v != 0xFFF && decide (Store.get 0 bank (s.pc k).used + v * 16 * 10 ^ 9 / ckMhz (s.get HMC.STAT_RATE (k / 32)) ≤ s.elapsed)

/-- R243: a bank's idle timer expires and its row is precharged. -/
def execRowIdleClose (m : HmcId) (p : Fin 32) (b : Fin 48) (s : State) : Result :=
  .next (if s.idleOver (32 * m + p) b then s.closeRow (32 * m + p) b else s)

/-- R244: the controller reads its stack's temperature, in degrees Celsius. -/
def execHbmTempRead (m : HmcId) (t : Byte) (s : State) : Result :=
  .next ((s.set HMC.TEMP t.toNat m).setB HMC.STAT_HOT (decide (85 < signedOf t.toNat 8)) m)

/-! Change of operating point (R248-R250). -/

/-- The live and the shadow set, register by register. -/
def shadowPairs : List (Field × Field) :=
  [(HMC.TIM0_RATE, HMC.SHD0_RATE), (HMC.TIM0_CL, HMC.SHD0_CL), (HMC.TIM0_WL, HMC.SHD0_WL), (HMC.TIM0_TRCD, HMC.SHD0_TRCD),
   (HMC.TIM0_TRP, HMC.SHD0_TRP), (HMC.TIM0_TRTP, HMC.SHD0_TRTP), (HMC.TIM1_TRAS, HMC.SHD1_TRAS), (HMC.TIM1_TRC, HMC.SHD1_TRC),
   (HMC.TIM1_TWR, HMC.SHD1_TWR), (HMC.TIM1_TWTR, HMC.SHD1_TWTR), (HMC.TIM1_TRRD, HMC.SHD1_TRRD), (HMC.TIM2_TFAW, HMC.SHD2_TFAW),
   (HMC.TIM2_TXS, HMC.SHD2_TXS), (HMC.TIM2_TRREFD, HMC.SHD2_TRREFD), (HMC.TIM3_TREFI, HMC.SHD3_TREFI), (HMC.TIM3_TRFCPB, HMC.SHD3_TRFCPB)]

/-- The fields of shadow register r. -/
def shadowFields (r : Nat) : List Field := (shadowPairs.map (·.2)).filter fun f => f.off == 0x40 + 4 * r

/-- R248: a write of the word v to HMC_SHD r. -/
def State.writeShadow (s : State) (m r v : Nat) : State := (s.wrAll v (shadowFields r) m).raise HMC.FCHG_SHVALID m

/-- R248: a write to the shadow set. -/
def execShadowWrite (m : HmcId) (r : Fin 4) (v : Word) (s : State) : Result :=
  .next (s.access .HMC 0 fun s => s.writeShadow m r v.toNat)

/-- R249: may controller m start a change? -/
def State.fchgOk (s : State) (m : Nat) : Bool :=
  s.flag HMC.FCHG_SHVALID m && s.bit HMC.STAT_OPTRAINED (s.get HMC.SHD0_RATE m) m && s.get HMC.STAT_STATE m == 2

/-- R250: a change starts. -/
def State.fchgStart (s : State) (m : Nat) : State := (s.set HMC.STAT_STATE 3 m).raise HMC.FCHG_BUSY m

/-- R248, R249: a write of the word v to HMC_FCHG. -/
def State.writeFchg (s : State) (m v : Nat) : State :=
  let s := s.w1c v HMC.FCHG_ERR m
  if bitOf v 0 then
    if bitOf v 1 then
      if (List.range 4).all fun k => s.fchgOk k then (List.range 4).foldl (fun s k => s.fchgStart k) s else s.raise HMC.FCHG_ERR m
    else if s.fchgOk m then s.fchgStart m else s.raise HMC.FCHG_ERR m
  else s

/-- R248: a write of HMC_FCHG. -/
def execFreqChange (m : HmcId) (v : Word) (s : State) : Result :=
  .next (s.access .HMC 0 fun s => s.writeFchg m v.toNat)

/-- R250: issue every request of a queue, oldest first. -/
def State.drainPc (s : State) (k : Nat) : State :=
  (s.pc k).q.foldl (fun s _ => s.issueAt k 0) s

/-- R241: an access of an engine inside the part comes behind the requests that the pseudo-channels of its blocks already hold:
they are issued first (DEDUCED, log entry 25). -/
def State.drainAt (s : State) (a len : Nat) : State :=
  if placeOf a = some .hbm then
    (List.range ((a % 256 + len + 255) / 256)).foldl (fun (s : State) i =>
      let k := hbmChannel (a + 256 * i)
      if s.get HMC.STAT_STATE (k / 32) = 2 then s.drainPc k else s) s
  else s

/-- R250: what a pseudo-channel does before the stack enters self-refresh: its queue is issued, and the refreshes that it owes run as a forced
burst. -/
def State.quiesce (s : State) (k : Nat) : State :=
  let s := s.drainPc k
  if s.get HMC.PCSTAT_OWED (k / 32) (k % 32) = 0 then s
  else ((s.set HMC.PCSTAT_OWED 0 (k / 32) (k % 32)).raise HMC.PCSTAT_FORCED (k / 32) (k % 32)).count HMC.PCCNT2_FBURST 1 (k / 32) (k % 32)

/-- R250, R502: a change ends: queues empty, refreshes paid, the shadow set live, refresh rotation and idle timers restarted, waiting requests queued. -/
def State.fchgEnd (s : State) (m : Nat) : State :=
  let s := (List.range 32).foldl (fun s p =>
    let k := 32 * m + p
    let s := s.quiesce k
    s.setPc k { s.pc k with
      q := (s.pc k).wait, wait := [], rows := [], burst := false, rot := 0, due := 0, dueAt := s.elapsed, used := [], writing := false, batch := 0 }) s
  let s := shadowPairs.foldl (fun s e => s.set e.1 (s.get e.2 m) m) s
  let s := (((s.set HMC.STAT_RATE (s.get HMC.TIM0_RATE m) m).lower HMC.FCHG_SHVALID m).lower HMC.FCHG_BUSY m).set HMC.STAT_STATE 2 m
  if (List.range 4).any fun k => s.flag HMC.FCHG_BUSY k then s else s.lower PWR.HBMOP_BUSY

/-- R250: a frequency change of controller m ends. -/
def execFreqChangeDone (m : HmcId) (s : State) : Result :=
  .next (if s.get HMC.STAT_STATE m = 3 then s.fchgEnd m else s)

/-! Training (R251, R252). -/

/-- R47: HBMUP: all four stacks trained and no controller frozen. -/
def State.hbmUpdate (s : State) : State :=
  s.setB GLB.AVAIL_HBMUP ((List.range 4).all fun m => s.bit GLB.AVAIL_HBMTRN m && s.get HMC.STAT_STATE m != 4)

/-- R280: a region enters INITIALISING for the automatic INIT of a block, or none is left and INITDONE is set. Regions of
Code N are passed over, and so are those whose code a write has changed (R281). fuel bounds the search. -/
def State.autoNext (s : State) (block r : Nat) : Nat → State
  | 0 => s
  | fuel + 1 =>
    let last := if block = 0 then 2304 else if block ≤ 8 then 4096 + 256 * block else 8192 + 32 * (block - 8)
    if last ≤ r then
      let s := { s with autoInit := Store.drop block s.autoInit }
      if block = 0 then s.raise DRH.STAT_INITDONE
      else
        let n := if block ≤ 8 then block - 1 else block - 9
        if (Store.find (1 + n) s.autoInit).isSome ∨ (Store.find (9 + n) s.autoInit).isSome ∨ s.get QDR.STAT_STATE n = 1 then s
        else s.raise DRF.STAT_INITDONE n
    else if (s.regionGet r).1 = 0 ∨ Store.get 0 r s.fog ≠ 0 then s.autoNext block (r + 1) fuel
    else { (s.setRegion r 1) with autoInit := Store.put block r s.autoInit }

/-- R280: every Code L and Code S region of a range becomes UNCHECKED. -/
def State.uncheck (s : State) (first n : Nat) : State :=
  (List.range n).foldl (fun s i => if (s.regionGet (first + i)).1 = 0 then s.setRegion (first + i) 2 else s.setRegion (first + i) 0) s

/-- R280: HBM becomes available: its regions are UNCHECKED, and the automatic INIT starts where it is enabled. -/
def State.hbmInit (s : State) : State :=
  let s := s.uncheck 0 2304
  if s.flag DRH.CTRL_AUTOINIT then s.autoNext 0 0 2305 else s

/-- R251: the index at the middle of the longest run of 1 in a list (the first such run, rounded down: DESIGN CHOICE, log entry 26); none where there is no 1.
at, len: the run that ends here; best: the longest so far. -/
def centreFrom (i len : Nat) (best : Nat × Nat) : List Bool → Option Nat
  | [] => if best.2 = 0 then none else some (best.1 + (best.2 - 1) / 2)
  | true :: t => centreFrom (i + 1) (len + 1) (if best.2 < len + 1 then (i - len, len + 1) else best) t
  | false :: t => centreFrom (i + 1) 0 best t
def centre (l : List Bool) : Option Nat := centreFrom 0 0 (0, 0) l

/-- R251: the delays at which a test passes. -/
def State.eye (_s : State) (m r pc rep kind bit : Nat) : Option Nat := centre ((List.range 128).map fun d => Config.hbmEye m r pc rep kind bit d)

/-- R251: put a delay into the set of an operating point: bit of pseudo-channel pc (63 the command bus), tx its write delay. -/
def State.setDelay (s : State) (m r pc bit tx d : Nat) : State :=
  s.setHmc m { s.hmc m with dly := Store.set 0 ((64 * r + bit) * 64 + 2 * pc + tx) d (s.hmc m).dly }

/-- R251: the word of HMC_PCREP of a pseudo-channel. -/
def State.repairs (s : State) (m pc : Nat) : Nat :=
  s.get HMC.PCREP_RD0 m pc + s.get HMC.PCREP_V0 m pc * 2 ^ 6 + s.get HMC.PCREP_RD1 m pc * 2 ^ 8 + s.get HMC.PCREP_V1 m pc * 2 ^ 14

/-- R251: the delays of pseudo-channel pc for operating point r, and the bits for which none passes; none where the command bus passes at none. -/
def State.sweepPc (s : State) (m r pc : Nat) : Option (State × List Nat) :=
  let rep := s.repairs m pc
  match s.eye m r pc rep 0 0 with
  | none => none
  | some ca =>
    let s := s.setDelay m r pc 63 0 ca
    some ((List.range 2).foldl (fun a tx => (List.range 39).foldl (fun (a : State × List Nat) bit =>
      match a.1.eye m r pc rep (1 + tx) bit with
      | some d => (a.1.setDelay m r pc bit tx d, a.2)
      | none => (a.1, if a.2.contains bit then a.2 else a.2 ++ [bit])) a) (s, []))

/-- R251: pseudo-channel pc is trained for operating point r: marked bits go to the redundant lanes, and it is repeated once where any did; with more than two,
or with a redundant lane marked, training fails, with the bits that failed. again: the repeat. -/
def State.trainPc (s : State) (m r pc : Nat) (again : Bool) : State × Option Nat × Bool :=
  match s.sweepPc m r pc with
  | none => (s, some 0, false)
  | some (s, bad) =>
    if 2 < bad.length ∨ bad.any (fun b => decide (37 ≤ b)) then (s, some (bad.foldl (fun a b => a + 2 ^ b) 0), false)
    else if bad.isEmpty then (s, none, false)
    else
      let s := (s.set HMC.PCREP_RD0 (bad.getD 0 0) m pc).raise HMC.PCREP_V0 m pc
      let s := match bad[1]? with
        | some b => (s.set HMC.PCREP_RD1 b m pc).raise HMC.PCREP_V1 m pc
        | none => s
      (s, none, !again)

/-- R251: an operating point is trained, pseudo-channel by pseudo-channel; the one at which it fails, with the bits that failed (DESIGN CHOICE, log entry 26). -/
def State.trainPoint (s : State) (m r : Nat) : List Nat → State × Option (Nat × Nat)
  | [] => (s, none)
  | pc :: l =>
    let a := s.trainPc m r pc false
    let b := if a.2.2 then a.1.trainPc m r pc true else a
    match b.2.1 with
    | some bits => (b.1, some (pc, bits))
    | none => b.1.trainPoint m r l

/-- R251: the live set of an operating point. -/
def State.loadSet (s : State) (m r : Nat) : State :=
  let w (j : Nat) := Config.trainedSet m r j
  let s := shadowPairs.foldl (fun s e => s.set e.1 (bitsOf (w ((e.1.off - 0x20) / 4)) e.1.lo e.1.w) m) s
  s.set HMC.TIM0_RATE r m

/-- R252, R480: training fails at bits of a pseudo-channel. -/
def State.trainLost (s : State) (m pc bits : Nat) : State := (s.set HMC.STAT_STATE 5 m).logEvent 0x0301 8 (m + pc * 2 ^ 8 + bits * 2 ^ 16)

/-- R251: every point that is to be trained is: the controller runs at START. -/
def State.trained (s : State) (m : Nat) : State :=
  let s := (s.set HMC.STAT_STATE 2 m).set HMC.STAT_RATE (s.get HMC.CTRL_START m) m
  let s := (s.loadSet m (s.get HMC.CTRL_START m)).setHmc m { s.hmc m with lfsr := s.get HMC.NRRSEED m }
  let s := (s.setBitOf GLB.AVAIL_HBMTRN m).hbmUpdate
  if s.flag GLB.AVAIL_HBMUP then s.hbmInit else s

/-- R251, R252: a report of the training firmware: training starts; it has run for an operating point; it ends with every point trained; it fails for another reason.
The operating point after training is that of START. -/
def State.hbmTrain (s : State) (m : Nat) (t : HbmTrain) : State :=
  match t with
  | .start => if s.get HMC.STAT_STATE m = 0 then s.set HMC.STAT_STATE 1 m else s
  | .point r =>
    if s.get HMC.STAT_STATE m = 1 ∧ (s.bit HMC.CTRL_OPMASK r m ∨ r.val = s.get HMC.CTRL_START m) then
      match ((s.loadSet m r).set HMC.TPAT_MODE 1 m).trainPoint m r (List.range 32) with
      | (s, none) => s.setBitOf HMC.STAT_OPTRAINED r m
      | (s, some e) => s.trainLost m e.1 e.2
    else s
  | .done =>
    if s.get HMC.STAT_STATE m = 1 ∧ (List.range 4).all (fun r => s.bit HMC.STAT_OPTRAINED r m || !(s.bit HMC.CTRL_OPMASK r m || r == s.get HMC.CTRL_START m)) then s.trained m
    else s
  | .fail pc bits => if s.get HMC.STAT_STATE m = 1 then s.trainLost m pc bits.toNat else s

/-- R251: a report of the training firmware on controller m. -/
def execHbmTrain (m : HmcId) (t : HbmTrain) (s : State) : Result := .next (s.hbmTrain m t)

/-- R251: a write of HMC_TCMD with GO and an operation, accepted only in TRAINING. -/
def State.helper (s : State) (m : Nat) : State :=
  if s.get HMC.STAT_STATE m = 1 ∧ s.flag HMC.TCMD_BUSY m = false then (s.raise HMC.TCMD_BUSY m).lower HMC.TCMD_DONE m else s

/-- R251: a write of the word v to HMC_TCMD. -/
def State.writeTcmd (s : State) (m v : Nat) : State :=
  if bitOf v 0 && s.get HMC.STAT_STATE m == 1 && !s.flag HMC.TCMD_BUSY m then
    { s.helper m with hmcs := Store.set {} m { s.hmc m with helper := bitsOf v 0 9 } s.hmcs }
  else s

/-- R251: the word that runs a helper command of operation op on pseudo-channel pc, or on all. -/
def helperWord (op : Nat) (pc : Fin 32) (all : Bool) : Nat := 1 + op * 2 + pc * 8 + all.toNat * 256

/-- R251: the helper command CA. -/
def execHelperCa (m : HmcId) (pc : Fin 32) (all : Bool) (s : State) : Result :=
  .next (s.access .HMC 0 fun s => s.writeTcmd m (helperWord 0 pc all))
/-- R251: the helper command RD. -/
def execHelperRd (m : HmcId) (pc : Fin 32) (all : Bool) (s : State) : Result :=
  .next (s.access .HMC 0 fun s => s.writeTcmd m (helperWord 1 pc all))
/-- R251: the helper command WRRD. -/
def execHelperWrrd (m : HmcId) (pc : Fin 32) (all : Bool) (s : State) : Result :=
  .next (s.access .HMC 0 fun s => s.writeTcmd m (helperWord 2 pc all))
/-- R251: the helper command WDQS. -/
def execHelperWdqs (m : HmcId) (pc : Fin 32) (all : Bool) (s : State) : Result :=
  .next (s.access .HMC 0 fun s => s.writeTcmd m (helperWord 3 pc all))

/-- R251: a helper command completes: the error flags of the bits, of the command bus in a CA command, and the bit errors. -/
def execHelperDone (m : HmcId) (dq : Word) (extra : Fin 128) (ca : Bool) (cnt : Word) (s : State) : Result :=
  .next (if s.flag HMC.TCMD_BUSY m then
    let op := (s.hmc m).helper / 2 % 4
    (((((s.lower HMC.TCMD_BUSY m).raise HMC.TCMD_DONE m).set HMC.TERR0_DQ dq.toNat m).set HMC.TERR1_EXTRA extra m).setB
      HMC.TERR1_CAERR (ca && op == 0) m).set HMC.TCNT cnt.toNat m
  else s)

/-! Freeze (R253, R254). -/

/-- R287: the range pass of a block is lost with its memory. -/
def State.loseRange (s : State) (u : Nat) : State :=
  match Store.find u s.ranges with
  | some p => { s with ranges := Store.drop u s.ranges }.opFail p.entry 0x0403
  | none => s

/-- R287: the range pass of DRH, where it runs over HBM, is lost. -/
def State.loseHbmRange (s : State) : State :=
  match Store.find 0 s.ranges with
  | some p => if p.mem = 0 then s.loseRange 0 else s
  | none => s

/-- R47, R253, R254: controller m freezes with a cause, at a bank, row and quarter of a pseudo-channel, for a request or none. -/
def State.hbmFreeze (s : State) (m cause pc bank row qtr : Nat) (r : Option Req) : State :=
  let s := if s.flag HMC.FRZ0_VALID m then s
    else
      let op := match r with
        | some q => if q.op = .wr then 1 else if q.op = .pwr then 2 else if q.op = .amo then 3 else 0
        | none => 0
      let s := (((s.set HMC.FRZ0_CAUSE cause m).set HMC.FRZ0_PC pc m).set HMC.FRZ0_BANK bank m).raise HMC.FRZ0_VALID m
      let s := ((s.set HMC.FRZ1_ROW row m).set HMC.FRZ1_QTR qtr m).set HMC.FRZ2_OP op m
      let s := s.set HMC.FRZ2_SRC ((r.map (·.src)).getD 0xFFF) m
      let s := (s.set HMC.FRZ3_DPA_LO ((r.map (·.addr)).getD 0) m).set HMC.FRZ4_DPA_HI ((r.map (·.addr)).getD 0 / 2 ^ 32) m
      s.setStamp ⟨HMC.FRZ_TS_FRAC, HMC.FRZ_TS_NS, HMC.FRZ_TS_SECLO, HMC.FRZ_TS_SECHI⟩ s.now m
  let s := (List.range 32).foldl (fun s p => s.setPc (32 * m + p) { s.pc (32 * m + p) with rows := [], burst := false }) s
  let s := ((s.set HMC.STAT_STATE 4 m).lower HMC.FCHG_BUSY m).hbmUpdate
  (s.cistsFrozen.loseHbmRange.stopRings).logEvent 0x0302 8 (m + cause * 256)

/-- R253, R254: a parity error; the request at position i of the pseudo-channel's queue, or a refresh or RFM command at a bank and row. -/
def execHbmFreeze (m : HmcId) (cause : Fin 3) (p : Fin 32) (i : Option (Fin 32)) (bank : Fin 48) (row : Fin 24576) (s : State) : Result :=
  .next (if s.get HMC.STAT_STATE m = 2 ∨ s.get HMC.STAT_STATE m = 3 then
    match i.bind fun j => (s.pc (32 * m + p)).q[j.val]? with
    | some e => s.hbmFreeze m (cause + 1) p (hbmBank e.req.addr) (hbmRow e.req.addr) (hbmQuarter e.req.addr) (some e.req)
    | none => s.hbmFreeze m (cause + 1) p bank row 0 none
  else s)

/-- R254: word j of entry i of pseudo-channel p in the queue dump, 0 unless the controller is FROZEN. -/
def State.queueDump (s : State) (m p i j : Nat) : Nat :=
  if s.get HMC.STAT_STATE m = 4 then
    match ((s.pc (32 * m + p)).q)[i]? with
    | some e =>
      let r := e.req
      let op := if r.op = .wr then 1 else if r.op = .pwr then 2 else if r.op = .amo then 3 else 0
      if j = 0 then r.src + op * 2 ^ 12 + r.oc * 2 ^ 14 + (r.len - 1) * 2 ^ 16 + 2 ^ 31
      else if j = 1 then r.addr % 2 ^ 32
      else if j = 2 then r.addr / 2 ^ 32
      else r.tag.getD 0 % 2 ^ 18
    | none => 0
  else 0

end Sys2Proof.Machine
end

