-- ==== Sys2Proof/Machine/RegMap.lean ====
section
/-! DEFINITION. Which register fields lie at an offset of a die's CSR window (spec/01_package_architecture.md R33-R36), and
the fields that a reset keeps (spec/20_power_reset.md R510). -/
namespace Sys2Proof.Machine

/-- The fields of a block. -/
def Blk.fields : Blk → List Field
  | .GLB => GLB.fields | .CNL => CNL.fields | .SHR => SHR.fields | .TRK => TRK.fields | .FLH => FLH.fields
  | .HMC => HMC.fields | .DRH => DRH.fields | .CAP => CAP.fields | .FLT => FLT.fields | .DTC => DTC.fields
  | .CXL => CXL.fields | .LGR => LGR.fields | .HDG => HDG.fields | .FWU => FWU.fields | .PWR => PWR.fields
  | .CLK => CLK.fields | .RST => RST.fields | .DBG => DBG.fields | .TRN => TRN.fields | .GAU => GAU.fields
  | .FLD => FLD.fields | .FLF => FLF.fields | .LNQ => LNQ.fields | .LN => LN.fields | .PCS => PCS.fields
  | .CFE => CFE.fields | .FUR => FUR.fields | .QDR => QDR.fields | .RSV => RSV.fields | .RIL => RIL.fields
  | .FCC => FCC.fields | .DRF => DRF.fields | .FPW => FPW.fields | .FDB => FDB.fields | .FTS => FTS.fields
  | .WHC => WHC.fields

/-- R34: the blocks of the Headworks window. -/
def hwBlocks : List Blk :=
  [.GLB, .CNL, .SHR, .TRK, .FLH, .HMC, .DRH, .CAP, .FLT, .DTC, .CXL, .LGR, .HDG, .FWU, .PWR, .CLK, .RST, .DBG, .TRN, .GAU]

/-- R35: the blocks of a field's window. -/
def fieldBlocks : List Blk := [.FLD, .FLF, .LNQ, .LN, .PCS, .CFE, .FUR, .QDR, .RSV, .RIL, .FCC, .DRF, .FPW, .FDB, .FTS]

/-- The block, the instance in the window and the offset in the instance of an offset of a die's window (die 8: Headworks). -/
def blockAt (die o : Nat) : Option (Blk × Nat × Nat) :=
  (if die = 8 then hwBlocks else fieldBlocks).findSome? fun b =>
    if b.offset ≤ o ∧ o < b.offset + b.layout.1 * b.layout.2 then
      some (b, (o - b.offset) / b.layout.2, (o - b.offset) % b.layout.2)
    else none

/-- The die whose window holds an offset of the CSR region: 0 to 7 a field, 8 Headworks, 9 and 10 the turnouts, 11 none. -/
def csrDie (x : Nat) : Nat :=
  let w := x / 0x1000000
  if w = 0 then 8 else if w ≤ 8 then w - 1 else if w ≤ 10 then w else 11

/-- One element of a field, and its lowest bit in the register at hand. -/
structure Elem where
  f : Field
  i : Nat
  j : Nat
  k : Nat
  lo : Nat
  deriving DecidableEq, Repr

/-- The elements in the register at offset ofs of an instance of a block; n is the field of a field block. The field-level
registers of FLF lie in instance 0 alone (R232), and a turnout's FLH instance has modules 0 and 1 alone (R231). -/
def Blk.elems (b : Blk) (n inst ofs : Nat) : List Elem :=
  if b = .FLF ∧ inst ≠ 0 ∧ 0x1000 ≤ ofs then []
  else if b = .FLH ∧ 8 ≤ inst ∧ 0x1200 ≤ ofs then []
  else b.fields.flatMap fun f => (f.inWord ofs).map fun e =>
    if b.single then ⟨f, e.1, e.2.1, 0, e.2.2⟩ else ⟨f, (if b.inField then n * b.layout.1 else 0) + inst, e.1, e.2.1, e.2.2⟩

/-- The elements in the register at offset o of a die's window. -/
def elemsAt (die o : Nat) : List Elem :=
  match blockAt die o with
  | some (b, inst, ofs) => b.elems die inst ofs
  | none => []

/-- Every element of a field over the package. -/
def Field.elems (f : Field) : List (Nat × Nat × Nat) :=
  if f.blk.single then (List.range f.n1).flatMap fun i => (List.range f.n2).map fun j => (i, j, 0)
  else
    let c := if f.blk.inField then 8 * f.blk.layout.1 else f.blk.layout.1
    (List.range c).flatMap fun i => (List.range f.n1).flatMap fun j => (List.range f.n2).map fun k => (i, j, k)

/-- R510: a PKR keeps the registers of reset class POR and what a store, an OTP cell or the silicon holds. -/
def Field.kept (f : Field) : Bool := f.cls == .POR || f.src == .fixed

/-- The bit addresses of the elements that a PKR keeps; a POR keeps only those that no reset changes. -/
def keptKeys (por : Bool) : List Nat :=
  (hwBlocks ++ fieldBlocks).flatMap fun b =>
    b.fields.flatMap fun f => if (if por then f.src == .fixed else f.kept) then f.elems.map fun e => f.key e.1 e.2.1 e.2.2 else []

/-- R506: the registers of the blocks of field n whose class a reset of class FAD reaches return to their reset values; those
that show the Flume modules, which have trained by then, keep showing them (R213, R232). -/
def State.resetField (s : State) (n : Nat) : State :=
  let ks := fieldBlocks.flatMap fun b => b.fields.flatMap fun f =>
    if (f.cls == .FAD || f.cls == .ENR) && !(f.blk == .FLF && f.acc == .RO) then
      (f.elems.filter fun e => e.1 / b.layout.1 == n).map fun e => f.key e.1 e.2.1 e.2.2
    else []
  { s with csr := Store.clear (fun a => ks.contains a) s.csr }

end Sys2Proof.Machine
end

