-- ==== Sys2Proof/Machine/Switch.lean ====
section
/-! DEFINITION. The Canal switch (spec/07_canal.md R173-R202): packets and their flits, share classes, windows and charges, credits and
their audit, the tables of shares and their checks, and the books of an access that an engine makes. -/
namespace Sys2Proof.Machine

/-- R197: the share class of a source. -/
def State.classOfSrc (s : State) (src : Nat) : Nat := if src = 0x804 then 1 else s.get SHR.MAP (dieOf src) (unitOf src)

/-- R198: the shares of a class in the table of a channel: output channel 0 to 176, uplink 177 + 16 n + c. -/
def State.sharesOf (s : State) (u c : Nat) : Nat :=
  if u < 177 then (if c % 2 = 0 then s.get SHR.TBL_SHA u (c / 2) else s.get SHR.TBL_SHB u (c / 2))
  else (if c % 2 = 0 then s.get SHR.UPL_SHA ((u - 177) / 16) (c / 2) else s.get SHR.UPL_SHB ((u - 177) / 16) (c / 2))

/-- R201: the round-robin turns of channel u: the source last served in class c, the class last served, and the source last served
as best effort. -/
def State.lastInClass (s : State) (u c : Nat) : Nat := Store.get 4095 (64 * u + c) s.served
def State.lastClass (s : State) (u : Nat) : Nat := Store.get 31 (64 * u + 32) s.served
def State.lastBest (s : State) (u : Nat) : Nat := Store.get 4095 (64 * u + 33) s.served

/-- R199-R201: charge a packet to its class on a channel, whose round-robin turn it takes; answers whether it is metered. -/
def State.charge (s : State) (u src amount : Nat) : State × Bool :=
  let c := s.classOfSrc src
  let k := 32 * u + c
  let r := Store.get 0 k s.remain
  if 1 ≤ r then
    ({ s with remain := Store.set 0 k (r - amount) s.remain
              served := Store.set 31 (64 * u + 32) c (Store.set 4095 (64 * u + c) src s.served) }, true)
  else ({ s with served := Store.set 4095 (64 * u + 33) src s.served }, false)

/-- R201: how far a value stands from the one last served in a round of m. -/
def roundOf (last x m : Nat) : Nat := (x + 2 * m - last - 1) % m

/-- R200, R201, R204: a packet of some flits leaves on output port p: it is charged, and its flits are counted. -/
def State.sendPacket (s : State) (p src flits amount : Nat) : State :=
  let t := s.charge p src amount
  let s := t.1.wrap2 CNL.FLITS_LO CNL.FLITS_HI flits p
  if t.2 then s else s.wrap2 CNL.BE_LO CNL.BE_HI flits p

/-- R180: flits of a packet with len bytes of data at a. -/
def flitsOf (a len : Nat) : Nat := (a % 64 + len + 63) / 64

/-- R199: the flits of a request, and what it is charged. -/
def Req.flits (r : Req) : Nat :=
  match r.op with
  | .wr => flitsOf r.addr r.len
  | .pwr => flitsOf r.addr r.len
  | _ => 1
def Req.cost (r : Req) : Nat :=
  match r.op with
  | .rd => flitsOf r.addr r.len
  | _ => r.flits

/-! Packets and flits (R176-R180). -/

/-- R177: VC of a request, and of its response. -/
def Req.vc (r : Req) : Nat := if r.mgt then 3 else if r.op = .pwr then 2 else 0
def Req.rspVc (r : Req) : Nat := if r.mgt then 3 else 1

/-- The flits of a response. -/
def Req.rspFlits (r : Req) : Nat := if r.op = .rd then flitsOf r.addr r.len else 1

/-- R179: OP of a request, and of its response. -/
def Req.opCode (r : Req) : Nat :=
  match r.op with
  | .wr => 1
  | .amo => 2
  | .flush => 3
  | .cwr => 1
  | _ => 0
def Req.rspOp (r : Req) : Nat := if r.mgt then 2 else if r.op = .rd ∨ r.op = .amo then 0 else 1

/-- R190: the statuses that are poisoned. -/
def RStat.poisoned : RStat → Bool
  | .poison | .timeout | .fenced => true
  | _ => false

/-- R190: ST. -/
def RStat.code : RStat → Nat
  | .ok => 0 | .err => 1 | .poison => 2 | .timeout => 3 | .fenced => 4 | .refused => 5 | .waits => 6

/-- R177: a flit header with its check: VC, HEAD, LAST, POIS and the other fields of the body, which starts at bit 5. -/
def flitHeader (vc : Nat) (head last pois : Bool) (body : Nat) : Nat :=
  let h := vc + head.toNat * 4 + last.toNat * 8 + pois.toNat * 16 + body % 2 ^ 115 * 32
  h + (Config.hecc h).toNat * 2 ^ 120

/-- R177: the fields from OC on: OC, OP, SRC, TAG, PORT, LEN, ADDR, AOP and ST. -/
def headBody (oc op src tag port len addr aop st : Nat) : Nat :=
  oc + op * 2 ^ 3 + src * 2 ^ 7 + tag % 2 ^ 18 * 2 ^ 19 + port % 2 ^ 8 * 2 ^ 37 + len % 2 ^ 8 * 2 ^ 45 + addr % 2 ^ 48 * 2 ^ 53 + aop * 2 ^ 101 + st * 2 ^ 105

/-- R180: data-lane byte j of flit i of a packet with data at a. -/
def laneByte (a : Nat) (data : List Byte) (i j : Nat) : Byte :=
  let x := (a / 64 + i) * 64 + j
  if a ≤ x then data.getD (x - a) 0 else 0

/-- R176-R178: the flits of a packet of n flits, 80 bytes each: the header of the head flit with the given body, those of the
continuation flits, and the data lane. -/
def packetOf (vc n : Nat) (pois : Bool) (body : Nat) (lane : Nat → Nat → Byte) : List (List Byte) :=
  (List.range n).map fun i =>
    bytesLE 16 (flitHeader vc (i == 0) (i + 1 == n) pois (if i = 0 then body else 0)) ++ (List.range 64).map (lane i)

/-- R177, R189: the packet of a request with its tag toward an output port; the operand of an AMO starts at data byte 0. -/
def Req.packet (r : Req) (tag port : Nat) : List (List Byte) :=
  packetOf r.vc r.flits r.pois (headBody r.oc r.opCode r.src tag port (if r.op = .flush then 0 else r.len - 1) r.addr
    (if r.op = .amo then r.aop else 0) 0) (if r.op = .amo then fun i j => if i = 0 then r.data.getD j 0 else 0 else laneByte r.addr r.data)

/-- R190, R191: the packet of a response. -/
def Req.rspPacket (r : Req) (a : Resp) (port : Nat) : List (List Byte) :=
  packetOf r.rspVc r.rspFlits a.st.poisoned (headBody r.oc r.rspOp r.src r.stag port (r.len - 1) 0 0 a.st.code)
    (if r.op = .amo then fun i j => if i = 0 then a.data.getD j 0 else 0 else laneByte r.addr a.data)

/-- R178: is this the header of a continuation flit of virtual channel vc, the last one or not? -/
def contHeader (vc : Nat) (last : Bool) (h : Nat) : Bool :=
  bitsOf h 0 2 == vc && !bitOf h 2 && bitOf h 3 == last && bitsOf h 5 115 == 0

/-- R190, R191: what the source of a request receives with a status and data: a poisoned RDATA carries zeros. -/
def Req.answered (r : Req) (st : RStat) (data : List Byte) : Resp :=
  { st := st, data := if st.poisoned && (r.op == .rd || r.op == .amo) then List.replicate r.len 0 else data }

/-! Where a request goes (R174, R175, R179). -/

/-- R193: the target die: 0 to 7 a field, 8 Headworks, 9 and 10 a turnout. A FLUSH goes to no window. -/
def Req.die (r : Req) : Nat :=
  if r.op = .flush then 8
  else if inCsr r.addr then (if csrDie (r.addr - csrBase) = 11 then 8 else csrDie (r.addr - csrBase))
  else (windowField r.addr).getD 8

/-- R175: turned round in the adapter of its source's field. -/
def Req.own (r : Req) : Bool := decide (dieOf r.src < 8) && r.die == dieOf r.src && r.op != .flush

/-- R182: the source IDs of the host: CXL.io and CXL.mem. -/
def isHost (src : Nat) : Bool := src == 0x802 || src == 0x803

/-- R174: the output port of a request; none where its target is in Headworks. -/
def State.reqPort (s : State) (r : Req) : Option Nat := if r.op = .flush then none else s.outPort r.src r.oc r.addr

/-- R174: the switch port of the source of a request, by which it enters and its response leaves; none for a Headworks unit but the
host's (PRESUMED, log entry 30). -/
def State.backPort (s : State) (r : Req) : Option Nat :=
  let d := dieOf r.src
  if d < 8 then some (16 * d + s.fieldChannel d r.src r.cls)
  else if d = 8 then (if isHost r.src then some 168 else none)
  else some (169 + 4 * (d - 9) + (5 * r.src + r.cls) % 4)

/-- R183: the switch port at which the channel that a request enters by ends; a guest's channel has its credits in its units (R227). -/
def State.inPort (s : State) (r : Req) : Option Nat := if 9 ≤ dieOf r.src then none else s.backPort r

/-- R196, R32, R46: the target's windows do not serve, so the switch answers at ingress. -/
def State.targetDead (s : State) (r : Req) : Bool :=
  if r.die < 8 then !s.serves r.die else decide (9 ≤ r.die) && !s.bit GLB.AVAIL_TRDY (r.die - 9)

/-- R224: the source's field has taken the FENCE message, and its adapter answers what lies beyond the field. -/
def State.cutOff (s : State) (r : Req) : Bool := decide (dieOf r.src < 8) && s.flag FLF.FSTAT_FENCED (8 * dieOf r.src) && !r.own

/-- R200: a channel's window of 256 slots starts: each class's remainder is its shares less its deficit. -/
def State.windowStart (s : State) (u : Nat) : State :=
  (List.range 32).foldl (fun s c =>
    let k := 32 * u + c
    { s with remain := Store.set 0 k ((s.sharesOf u c : Int) + min 0 (Store.get 0 k s.remain)) s.remain }) s

/-- R200: the window of channel u starts: output channels 0 to 176, uplinks 177 + 16 n + c. -/
def execShareWindowStart (u : Fin 305) (s : State) : Result := .next (s.windowStart u)

/-! Tables (R114, R197, R198, R205). -/

/-- R198: the sum of the shares of a table. -/
def State.shareSum (s : State) (a b : Field) (i : Nat) : Nat :=
  (List.range 16).foldl (fun x r => x + s.get a i r + s.get b i r) 0

/-- R114: D, the smallest number of shares of the hub on a channel toward HBM. -/
def State.hubShares (s : State) : Nat :=
  (List.range 40).foldl (fun d i => min d (s.get SHR.TBL_SHB (128 + i) 0)) 256

/-- R114: the sum of all lane shares. -/
def State.laneShares (s : State) : Nat := (List.range 128).foldl (fun x l => x + s.get CAP.LSH l) 0

/-- R198: reject a write: OVERCOMMIT with the table and the port. -/
def State.overcommit (s : State) (src port : Nat) : State :=
  ((s.raise SHR.STAT_OVERCOMMIT).set SHR.STAT_OCSRC src).set SHR.STAT_OCPORT port

/-- R205: the registers that show sums: SHR_FREE of a port, SHR_DMIN and SHR_LSUM. -/
def State.showShares (s : State) (p : Nat) : State :=
  ((s.set SHR.FREE (256 - s.shareSum SHR.TBL_SHA SHR.TBL_SHB p) p).set SHR.DMIN s.hubShares).set SHR.LSUM s.laneShares

/-- R198: a write of the word v to SHR_TBL[p] register r. -/
def State.writeShareTable (s : State) (p r v : Nat) : State :=
  let t := (s.wr v SHR.TBL_SHA p r).wr v SHR.TBL_SHB p r
  if 256 < t.shareSum SHR.TBL_SHA SHR.TBL_SHB p ∨ (t.hubShares ≠ s.hubShares ∧ 40 * t.hubShares < s.laneShares) then s.overcommit 0 p
  else t.showShares p

/-- R198: a write of the word v to SHR_UPL[n] register r. -/
def State.writeUplinkTable (s : State) (n r v : Nat) : State :=
  let t := (s.wr v SHR.UPL_SHA n r).wr v SHR.UPL_SHB n r
  if 256 < t.shareSum SHR.UPL_SHA SHR.UPL_SHB n then s.overcommit 1 n else t

/-- R114: a write of the word v to CAP_LSH[l]; the meter so far has gained the old share. -/
def State.writeLaneShare (s : State) (l v : Nat) : State :=
  let t := (s.spend l 0).wr v CAP.LSH l
  if 40 * s.hubShares < t.laneShares ∧ s.get CAP.LSH l ≠ t.get CAP.LSH l then s.overcommit 2 l
  else t.set SHR.LSUM t.laneShares

/-- R197: a write of the word v to SHR_MAP[d][4 i]: the hub drain's entry is fixed, and class 1 is refused to others. -/
def State.writeShareMap (s : State) (d i v : Nat) : State :=
  (List.range 4).foldl (fun s b =>
    let c := bitsOf v (8 * b) 5
    if d = 8 ∧ 4 * i + b = 4 then s
    else if c = 1 then s.raise SHR.STAT_MAPERR
    else s.set SHR.MAP c d (4 * i + b)) s

/-- R198: a write to SHR_TBL[p], or to SHR_UPL[n] where upl holds. -/
def execShareTableWrite (upl : Bool) (p : Fin 177) (r : Fin 16) (v : Word) (s : State) : Result :=
  .next (s.access .SHR 0 fun s => if upl then s.writeUplinkTable (p % 8) r v.toNat else s.writeShareTable p r v.toNat)

/-- R114: a write to CAP_LSH[l]. -/
def execLaneShareWrite (l : LaneId) (v : Word) (s : State) : Result :=
  .next (s.access .CAP 0 fun s => s.writeLaneShare l v.toNat)

/-- R197: a write to SHR_MAP of die d, units 4 i to 4 i + 3. -/
def execShareMapWrite (d : Fin 11) (i : Fin 64) (v : Word) (s : State) : Result :=
  .next (s.access .SHR 0 fun s => s.writeShareMap d i v.toNat)

/-- R194: the sum of the quotas. -/
def State.quotaSum (s : State) : Nat := (List.range 11).foldl (fun x d => x + s.get TRK.QUOTA d) 0

/-- R194: a write of the word v to TRK_QUOTA[d]. -/
def State.writeQuota (s : State) (d v : Nat) : State :=
  let t := s.wr v TRK.QUOTA d
  if 261120 < t.quotaSum then s.raise TRK.STAT_QERR else t

/-- R204: a write of the word v to CNL_CTRL. -/
def State.writeCnlCtrl (s : State) (v : Nat) : State :=
  if bitOf v 0 then
    (List.range 177).foldl (fun s p => (s.set2 CNL.FLITS_LO CNL.FLITS_HI 0 p).set2 CNL.BE_LO CNL.BE_HI 0 p) s
  else s

/-- R204: a write of CNL_CTRL. -/
def execCanalCounterClear (v : Word) (s : State) : Result :=
  .next (s.access .CNL 0 fun s => s.writeCnlCtrl v.toNat)

/-! Credits (R183-R185). -/

/-- R183: the buffer depth of a virtual channel, and the register of its credits toward a port. -/
def creditDepth (vc : Nat) : Nat := if vc = 0 then 48 else if vc = 3 then 8 else 96
def creditField (vc : Nat) : Field :=
  if vc = 0 then CNL.CREDIT_CRD_REQ else if vc = 1 then CNL.CREDIT_CRD_RSP else if vc = 2 then CNL.CREDIT_CRD_POST else CNL.CREDIT_CRD_MGT

/-- R185: the Flume module that carries a switch port of a field retrains, so its credits are frozen; or the audit of a virtual
channel of the port is still due after a retrain. -/
def State.portFrozen (s : State) (p : Nat) : Bool := decide (p < 128) && s.get FLH.MSTAT_STATE (p / 16) (p % 16 / 2) == 3
def State.auditDue (s : State) (p vc : Nat) : Bool := s.unaudited.contains (4 * p + vc)

/-- R185: the credits of the channels of module m of a port group that starts at port p: the audit of every virtual channel becomes due. -/
def State.dueAudits (s : State) (p : Nat) : State :=
  { s with unaudited := s.unaudited ++ ((List.range 8).map fun i => 4 * p + i).filter fun k => !s.unaudited.contains k }

/-- R183: enough credits for some flits toward a port, on a module that does not retrain. -/
def State.creditFree (s : State) (p vc flits : Nat) : Bool :=
  decide (flits ≤ s.get (creditField vc) p) && !s.portFrozen p && !s.auditDue p vc

/-- R183: spend credits toward a port. -/
def State.spendCredit (s : State) (p vc flits : Nat) : State := s.set (creditField vc) (s.get (creditField vc) p - flits) p

/-- R184: CS of the sender at a port toward the switch; OCC of the receiver there: the entries of requests and responses
that wait at ingress; INF: the flits that a module holds; and RET, the credits of freed entries that have not come back. -/
def State.spentUp (s : State) (p vc : Nat) : Nat := Store.get 0 (4 * p + vc) s.upSpent
def State.credUp (s : State) (p vc : Nat) : Nat := creditDepth vc - s.spentUp p vc
def State.occUp (s : State) (p vc : Nat) : Nat :=
  ((s.ingress.filter fun h => h.port == some p && h.req.vc == vc).map fun h => h.req.flits).sum +
  ((s.owed.filter fun w => w.inp == some p && w.req.rspVc == vc).map fun w => w.req.rspFlits).sum
def State.infUp (s : State) (p vc : Nat) : Nat :=
  ((s.ingress.filter fun h => h.link == some p && h.req.vc == vc).map fun h => h.req.flits).sum
def State.retUp (s : State) (p vc : Nat) : Nat := s.spentUp p vc - s.occUp p vc - s.infUp p vc

/-- R184: the same in the direction that leaves the switch, where the receiver frees each entry as it takes it. -/
def State.retDown (s : State) (p vc : Nat) : Nat := creditDepth vc - s.get (creditField vc) p

/-- R183: enough credits for some flits from the sender at a port toward the switch, and their spending. -/
def State.creditUp (s : State) (p vc flits : Nat) : Bool :=
  decide (s.spentUp p vc + flits ≤ creditDepth vc) && !s.portFrozen p && !s.auditDue p vc
def State.spendUp (s : State) (p vc flits : Nat) : State :=
  { s with upSpent := Store.set 0 (4 * p + vc) (s.spentUp p vc + flits) s.upSpent }

/-- R183, R185: a returned credit reaches the sender toward switch port p, or, where up holds, the sender at port p toward the
switch; none is on its way unless an entry has been freed. -/
def State.creditBack (s : State) (up : Bool) (p vc : Nat) : State :=
  if s.portFrozen p || s.auditDue p vc then s
  else if up then
    if s.retUp p vc = 0 then s else { s with upSpent := Store.set 0 (4 * p + vc) (s.spentUp p vc - 1) s.upSpent }
  else if s.retDown p vc = 0 then s
  else s.set (creditField vc) (s.get (creditField vc) p + 1) p

/-- R185: the audit of one virtual channel of switch port p: on both ends the sender's credits become what the receiver has free;
toward the port that is the number its AUDIT carries. -/
def State.auditPort (s : State) (p vc free : Nat) : State :=
  let s := { s with
    unaudited := s.unaudited.filter fun k => k != 4 * p + vc
    upSpent := Store.set 0 (4 * p + vc) (s.occUp p vc + s.infUp p vc) s.upSpent }
  let n := min free (creditDepth vc)
  if s.get (creditField vc) p = n then s
  else ((s.set (creditField vc) n p).raise CNL.STAT_AUDITFIX).count CNL.AUDCNT 1 p

/-- R183, R204: a flit waits for a credit at port p. -/
def State.stalled (s : State) (p : Nat) : Bool :=
  s.owed.any (fun w => w.port == p) ||
  s.ingress.any fun h => (h.port.isSome || (s.inPort h.req).isNone) && s.reqPort h.req == some p && !s.creditFree p h.req.vc h.req.flits

/-- R204: STALL counts the Canal cycles of one cycle of the clock that the DTC counts on: 8 of 2.0 GHz in 4 ns, 80 in the 40 ns of an
oscillator cycle. -/
def State.countStalls (s : State) : State :=
  if s.owed.isEmpty && s.ingress.isEmpty then s
  else (List.range 177).foldl (fun (s : State) p => if s.stalled p then s.count CNL.STALL (if s.time.tclk then 8 else 80) p else s) s

/-! Tags (R193, R194). -/

/-- R206: the registers that show the tracker's tags. -/
def State.showTags (s : State) : State :=
  let l := (s.tags.filter fun e => decide (e.1 < 2 ^ 18)).map (·.2.req)
  let s := (s.set TRK.STAT_INUSE l.length).set TRK.FREE (2 ^ 18 - l.length)
  let s := s.set TRK.HWM (max (s.get TRK.HWM) l.length)
  (List.range 11).foldl (fun (s : State) d => s.set TRK.USED (l.countP fun r => dieOf r.src == d && !r.mgt) d) s

/-- R193: tags of the adapter of field d in use: one for each request of an initiator of the field that has had no response. -/
def State.adapterUse (s : State) (d : Nat) : Nat :=
  s.tags.countP (fun e => dieOf e.2.req.src == d && e.2.quar.isNone && !e.2.orphan) +
  s.ingress.countP fun h => dieOf h.req.src == d && h.req.op != .pwr

/-- R193, R194: has the tracker, for a request that passes the switch, a tag for it, within the quota of its die? -/
def State.trackerRoom (s : State) (r : Req) : Bool :=
  let l := (s.tags.filter fun e => decide (e.1 < 2 ^ 18)).map (·.2.req)
  let d := dieOf r.src
  r.own || (if r.mgt then decide (l.countP (·.mgt) < 1024)
    else decide (l.countP (fun q => !q.mgt) < 261120) && decide (l.countP (fun q => dieOf q.src == d && !q.mgt) < s.get TRK.QUOTA d))

/-- R193: has the adapter of the source's field a tag for one more request? -/
def State.adapterRoom (s : State) (r : Req) : Bool := decide (8 ≤ dieOf r.src) || decide (s.adapterUse (dieOf r.src) < 16384)

/-! The books of an access that an engine makes (R27, R43, R175, R193, R199, R204). The engines of the part (Rill engines, Furrow
sequencers, COPY, trace writers) make each access within their command (DEDUCED, log entry 25): its request and its response pass
the network at once, so that every credit and tag that they take comes back with the response. -/

/-- The request can pass now: credits on the channels that it and its response take, and tags for it. -/
def State.netPasses (s : State) (r : Req) : Bool :=
  if r.own then r.op == .pwr || s.adapterRoom r
  else if s.cutOff r then true
  else
    (match s.inPort r with
     | some u => s.creditUp u r.vc r.flits
     | none => true) &&
    (s.targetDead r ||
      ((r.op == .pwr || (s.adapterRoom r && s.trackerRoom r)) &&
       (match s.reqPort r with
        | some p => s.creditFree p r.vc r.flits && (r.op == .pwr || s.creditUp p r.rspVc r.rspFlits)
        | none => true) &&
       (match s.backPort r with
        | some b => r.op == .pwr || s.creditFree b r.rspVc r.rspFlits
        | none => true)))

/-- R199, R200, R202: a request is charged on its field's uplink. -/
def State.chargeUp (s : State) (r : Req) : State :=
  match s.inPort r with
  | some u => if r.mgt || decide (8 ≤ dieOf r.src) then s else (s.charge (177 + u) r.src r.cost).1
  | none => s

/-- R199, R201, R204: a request leaves on its output port. -/
def State.leavePort (s : State) (r : Req) (p : Nat) : State :=
  if r.mgt then s.wrap2 CNL.FLITS_LO CNL.FLITS_HI r.flits p else s.sendPacket p r.src r.flits r.cost

/-- R206: a tag of the tracker is taken and freed within a command. -/
def State.brushTag (s : State) : State := s.set TRK.HWM (max (s.get TRK.HWM) (s.get TRK.STAT_INUSE + 1))

/-- The request and its response pass. -/
def State.pass (s : State) (r : Req) : State :=
  if r.own || s.cutOff r then s
  else
    let s := s.chargeUp r
    if s.targetDead r then s
    else
      let s := match s.reqPort r with
        | some p => s.leavePort r p
        | none => s
      if r.op = .pwr then s
      else match s.backPort r with
        | some b => s.brushTag.wrap2 CNL.FLITS_LO CNL.FLITS_HI r.rspFlits b
        | none => s.brushTag

/-- R176: the requests that an access becomes: one for each 256-byte block; n bounds their number. -/
def blockReqs (r : Req) : Nat → Nat → Nat → List Req
  | 0, _, _ => []
  | n + 1, a, len =>
    if len = 0 then []
    else { r with addr := a, len := min len (256 - a % 256) } :: blockReqs r n (a + (256 - a % 256)) (len - (256 - a % 256))

/-- Every request of an access passes, each after the one before it has been answered; none where one of them has to wait. -/
def State.passAll (s : State) : List Req → Option State
  | [] => some s
  | r :: l => if s.netPasses r then (s.pass r).passAll l else none

/-- R27, R29: a read by an engine: its requests pass, the older requests of the memory's queue are performed, and it is read;
`waits` where a request has to wait. -/
def State.netRead (s : State) (src oc : Nat) (port : Option Nat) (a len : Nat) (client : Nat := 2) : State × RStat × List Byte :=
  match (if port.isSome then some s else s.passAll (blockReqs { op := .rd, src := src, oc := oc, addr := a, len := len } (len / 256 + 2) a len)) with
  | none => (s, .waits, [])
  | some t => (t.drainAt a len).readMem src port a len false client

/-- R27, R29: a write by an engine. -/
def State.netStore (s : State) (op : ReqOp) (src oc a : Nat) (bytes : List Byte) : State × RStat :=
  match s.passAll (blockReqs { op := op, src := src, oc := oc, addr := a, len := bytes.length } (bytes.length / 256 + 2) a bytes.length) with
  | none => (s, .waits)
  | some t => (t.drainAt a bytes.length).storeMem src a bytes

/-- R27, R189: an atomic operation by an engine. -/
def State.netAtomic (s : State) (src oc a len aop : Nat) (data : List Byte) : State × RStat × List Byte :=
  match s.passAll [{ op := .amo, src := src, oc := oc, addr := a, len := len, aop := aop }] with
  | none => (s, .waits, [])
  | some t => (t.drainAt a len).atomicMem src a len aop data

/-! Turnout units (R227). -/

def State.turn (s : State) (t m : Nat) : TurnSt := Store.get {} (2 * t + m) s.turns
def State.setTurn (s : State) (t m : Nat) (v : TurnSt) : State := { s with turns := Store.set {} (2 * t + m) v s.turns }

/-- The first flit of a channel, and the flits without it. -/
def firstOf (c : Nat) : List (Nat × List Byte) → Option (List Byte × List (Nat × List Byte))
  | [] => none
  | f :: t => if f.1 = c then some (f.2, t) else (firstOf c t).map fun r => (r.1, f :: r.2)

/-- R227: fill the slots of a unit of module m, from slot i on: slots 0 and 2 with flits of its lower channel, 1 and 3 with those of
its upper one; n slots are left. -/
def fillSlots (m : Nat) : Nat → Nat → List (Nat × List Byte) → List Byte × Nat × List (Nat × List Byte)
  | 0, _, l => ([], 0, l)
  | n + 1, i, l =>
    match firstOf (2 * m + i % 2) l with
    | some (f, rest) =>
      let r := fillSlots m n (i + 1) rest
      (f ++ r.1, 1 + 2 * r.2.1, r.2.2)
    | none =>
      let r := fillSlots m n (i + 1) l
      (List.replicate 80 0 ++ r.1, 2 * r.2.1, r.2.2)

/-- R227: the CREDIT word: at most 15 for each virtual channel of the module's two channels. -/
def creditWord (ret : List (Nat × Nat)) : Nat :=
  (List.range 8).foldl (fun a i => a + min 15 (Store.get 0 i ret) * 2 ^ (4 * i)) 0

/-- R227: one unit is sent on module m: what waits in its slots, the acknowledgement (with NAK where nak holds) and the credits. -/
def State.sendUnit (s : State) (t m : Nat) (nak : Bool) : State :=
  let v := s.turn t m
  let r := fillSlots m 4 0 v.tx
  let body := r.1 ++ bytesLE 2 (v.txSeq + r.2.1 * 2 ^ 12) ++ bytesLE 2 ((v.seq + 4095) % 4096 + nak.toNat * 2 ^ 12) ++
    bytesLE 4 (creditWord v.ret) ++ bytesLE 4 0
  let unit := body ++ bytesLE 4 (crc32 body)
  let ret := (List.range 8).foldl (fun l i => Store.set 0 i (Store.get 0 i l - 15) l) v.ret
  (s.setTurn t m { v with tx := r.2.2, txSeq := (v.txSeq + 1) % 4096, replay := v.replay ++ [(v.txSeq, unit)], ret := ret }).emit (.turnUnit t m unit)

/-- R227: units go out while flits wait and at most 64 are unacknowledged; n bounds them. -/
def State.sendUnits (s : State) (t m : Nat) : Nat → State
  | 0 => s
  | n + 1 => if (s.turn t m).tx.isEmpty ∨ 64 ≤ (s.turn t m).replay.length then s else (s.sendUnit t m false).sendUnits t m n

/-- R227: flits leave on a port of a turnout. -/
def State.toGuest (s : State) (p : Nat) (flits : List (List Byte)) : State :=
  if p < 169 then s
  else
    let t := (p - 169) / 4
    let c := (p - 169) % 4
    let v := s.turn t (c / 2)
    let s := s.setTurn t (c / 2) { v with tx := v.tx ++ flits.map fun f => (c, f) }
    s.sendUnits t (c / 2) (flits.length + v.tx.length)

end Sys2Proof.Machine
end

