-- ==== Sys2Proof/Machine/Ecc.lean ====
section
/-! DEFINITION. The ditch riders, range passes, initialisation of regions, their codes, the configuration-frame scanner
and the votes of the hardened logic (spec/11_ecc.md R280-R290). -/
namespace Sys2Proof.Machine

/-! Walks (R283-R286). Walker 0 is DRH's for HBM, 1 its scratch; 2 + 3 n + w is walker w of the DRF of field n. -/

/-- The field of a walker. -/
def walkField (k : Nat) : Nat := (k - 2) / 3

/-- First DPA and length of a walker's memory. -/
def walkSpan (k : Nat) : Nat × Nat :=
  if k = 0 then (0, 0x002400000000)
  else if k = 1 then (scratchBase, 0x800000)
  else if (k - 2) % 3 = 0 then (rsvBase + walkField k * 0x4000000, 0x1000000)
  else if (k - 2) % 3 = 1 then (qdrBase + walkField k * 0x4000000, 0x2000000)
  else (rillBase + walkField k * 0x1000000, 0x400000)

/-- A register of a walker: h in DRH, f in DRF. -/
def State.wkGet (s : State) (k : Nat) (h f : Field) : Nat := if k < 2 then s.get h k else s.get f (walkField k) ((k - 2) % 3)
def State.wkSet (s : State) (k : Nat) (h f : Field) (v : Nat) : State :=
  if k < 2 then s.set h v k else s.set f v (walkField k) ((k - 2) % 3)
def State.wkCount (s : State) (k : Nat) (h f : Field) : State :=
  if k < 2 then s.count h 1 k else s.count f 1 (walkField k) ((k - 2) % 3)

/-- R276: is the word at a DPA checked, and no hole? -/
def State.checkedAt (s : State) (a : Nat) : Bool := s.checkCode a != 0 && !s.inHole a

/-- Where the region, or the run of a Code S region of HBM, that holds a DPA ends. -/
def State.runEnd (s : State) (a : Nat) : Nat :=
  if s.inHole a then a / 0x20000 * 0x20000 + 0x20000
  else match regionOf a with
  | some r =>
    let e := (regionRange r).1 + (regionRange r).2
    if s.regionGet r = (2, 2) ∧ placeOf a = some .hbm then min e (a / 0x20000 * 0x20000 + 0x18000) else e
  | none => a + 0x800000

/-- R284: the first checked word from a DPA on, below an end. fuel bounds the search. -/
def State.nextChecked (s : State) (a fin : Nat) : Nat → Option Nat
  | 0 => none
  | fuel + 1 => if fin ≤ a then none else if s.checkedAt a then some a else s.nextChecked (s.runEnd a) fin fuel

/-- Bytes of the runs of a Code S region of HBM below an offset that is aligned to 128 KiB regions. -/
def runBytes (x : Nat) : Nat := x / 0x20000 * 0x18000 + min (x % 0x20000) 0x18000

/-- The checked words of a range that lies in one region, or in a memory without regions. -/
def State.checkedIn (s : State) (a b : Nat) : Nat :=
  if b ≤ a ∨ s.checkCode a = 0 then 0
  else if placeOf a = some .hbm ∧ s.checkCode a = 2 then (runBytes b - runBytes a) / 8
  else (b - a) / 8

/-- The regions, whole or in part, of a range of a memory: their bounds within it. -/
def regionParts (a b : Nat) : List (Nat × Nat) :=
  match regionOf a with
  | some r =>
    let size := (regionRange r).2
    (List.range ((b - 1 - (regionRange r).1) / size + 1)).map fun i =>
      (max a ((regionRange r).1 + i * size), min b ((regionRange r).1 + (i + 1) * size))
  | none => [(a, b)]

/-- R284, R287: the checked words of a range. -/
def State.checkedWords (s : State) (a b : Nat) : Nat :=
  if b ≤ a then 0 else (regionParts a b).foldl (fun n e => n + s.checkedIn e.1 e.2) 0

/-- R284: may the walker walk: enabled, its memory there? -/
def State.walkOn (s : State) (k : Nat) : Bool :=
  s.wkGet k DRH.WK_EN DRF.WK_EN == 1 &&
  (if k = 0 then s.flag GLB.AVAIL_HBMUP
   else if k = 1 then true
   else s.serves (walkField k) && ((k - 2) % 3 != 1 || s.get QDR.STAT_STATE (walkField k) == 2))

/-- R286: the base interval of a walker for W words. -/
def State.walkBase (s : State) (k words : Nat) : Nat :=
  if s.wkGet k DRH.WK_MODE DRF.WK_MODE = 0 then s.wkGet k DRH.WK_IVAL DRF.WK_IVAL
  else s.wkGet k DRH.WK_PASS DRF.WK_PASS * 1000000000 / words

/-- The position of a walker. -/
def State.walkPos (s : State) (k : Nat) : Nat := s.wkGet k DRH.WK_POS_LO DRF.WK_POS_LO + s.wkGet k DRH.WK_POS_HI DRF.WK_POS_HI * 2 ^ 32
def State.setWalkPos (s : State) (k a : Nat) : State :=
  (s.wkSet k DRH.WK_POS_LO DRF.WK_POS_LO a).wkSet k DRH.WK_POS_HI DRF.WK_POS_HI (a / 2 ^ 32)

/-- R286: the interval in force, which CUR shows; one that CUR cannot hold is open (DESIGN CHOICE, log entry 5). -/
def State.setCur (s : State) (k v : Nat) : State :=
  if v < 2 ^ 32 then s.wkSet k DRH.WK_CUR DRF.WK_CUR v else s.used.wkSet k DRH.WK_CUR DRF.WK_CUR (s.openValue .walkCur)

/-- R286: a pass starts, unless there is no word to walk. -/
def State.walkStart (s : State) (k : Nat) : State :=
  let a := (walkSpan k).1
  let w := s.checkedWords a (a + (walkSpan k).2)
  if w = 0 then (s.wkSet k DRH.WK_CUR DRF.WK_CUR 0).setWalker k { s.walker k with running := false, words := 0, dry := true }
  else
    let cur := max (s.wkGet k DRH.WK_CEIL DRF.WK_CEIL) (s.walkBase k w)
    ((s.setCur k cur).setWalkPos k ((s.nextChecked a (a + (walkSpan k).2) 8192).getD a)).setWalker k { s.walker k with running := true, words := w, dry := false }

/-- The source that a walker's log entries name: 0x805 for DRH, unit 0x81 of the field for DRF (R283). -/
def walkSrc (k : Nat) : Nat := if k < 2 then 0x805 else walkField k * 256 + 0x81
/-- The DRF whose error log a walker uses, none for DRH. -/
def walkLog (k : Nat) : Option Nat := if k < 2 then none else some (walkField k)

/-- R284: the walker judges word w. -/
def State.walkWord (s : State) (k w : Nat) : State :=
  let s := s.qdrIssued 2 (8 * w) 1 0
  match (s.readWord w).1 with
  | .clean => s
  | .correctable =>
    let v := s.walker k
    (s.wkCount k DRH.WK_CORR DRF.WK_CORR).setWalker k { v with wb := v.wb ++ [(w, false)], corr := v.corr + 1 }
  | .uncorrectable => (s.wkCount k DRH.WK_UNC DRF.WK_UNC).eccLog (walkLog k) (8 * w) (walkSrc k) 2
  | .poisoned => (s.wkCount k DRH.WK_POIS DRF.WK_POIS).eccLog (walkLog k) (8 * w) (walkSrc k) 2

/-- R284: how many words a step reads. -/
def walkWords (k : Nat) : Nat := if k = 0 then 8 else 1

/-- R284: one step of the walk at its position; the last word ends the pass. -/
def State.walkOn1 (s : State) (k : Nat) : State :=
  let a := (walkSpan k).1
  let fin := a + (walkSpan k).2
  match s.nextChecked (s.walkPos k) fin 8192 with
  | some p =>
    let s := (List.range (walkWords k)).foldl (fun s i => s.walkWord k (p / 8 + i)) s
    let s := s.setWalkPos k (p + 8 * walkWords k)
    match s.nextChecked (p + 8 * walkWords k) fin 8192 with
    | some q => s.setWalkPos k q
    | none => ((s.setWalkPos k ((s.nextChecked a fin 8192).getD a)).wkSet k DRH.WK_PASSES DRF.WK_PASSES (s.wkGet k DRH.WK_PASSES DRF.WK_PASSES + 1)).setWalker k
        { s.walker k with running := false }
  | none => (s.setWalkPos k a).setWalker k { s.walker k with running := false }

/-- R284, R286: one step of walker k: a repair-queue entry first; else a step of the walk, once the interval in force has passed. Where the last test found no word
to walk, no pass starts before the next epoch. -/
def State.walkStep (s : State) (k : Nat) : State :=
  if s.walkOn k then
    match (s.walker k).repair with
    | w :: rest => (s.setWalker k { s.walker k with repair := rest }).walkWord k w
    | [] =>
      let s := if (s.walker k).running || (s.walker k).dry then s else s.walkStart k
      if (s.walker k).running ∧ (s.walker k).nextAt ≤ s.elapsed then
        (s.walkOn1 k).setWalker k { (s.walkOn1 k).walker k with nextAt := s.elapsed + walkWords k * s.wkGet k DRH.WK_CUR DRF.WK_CUR * 1000000 }
      else s
  else s

/-- R284: a walker reads the next checked word. -/
def execWalkStep (k : Fin 26) (s : State) : Result := .next (s.walkStep k)

/-- R285: the path has room for the oldest write-back; one that a later write has overtaken is discarded. -/
def State.writeBack (s : State) (k : Nat) : State :=
  match (s.walker k).wb with
  | [] => s
  | (w, stale) :: rest =>
    let s := s.setWalker k { s.walker k with wb := rest }
    match stale, s.readWord w with
    | false, (.correctable, v) => (s.qdrIssued 2 (8 * w) 0 1).putWord w v 0
    | _, _ => s

/-- R285: a write-back. -/
def execWalkerWriteBack (k : Fin 26) (s : State) : Result := .next (if s.walkOn k then s.writeBack k else s)

/-- R286: a 1 s epoch ends (DESIGN CHOICE, log entry 23). -/
def State.walkEpoch (s : State) (k : Nat) : State :=
  let v := s.walker k
  let s := s.setWalker k { v with corr := 0 }
  if v.running then
    if s.wkGet k DRH.WK_ADAPT DRF.WK_ADAPT = 1 then
      let thr := s.wkGet k DRH.WK_RAISETHR DRF.WK_RAISETHR
      let cur := s.wkGet k DRH.WK_CUR DRF.WK_CUR
      if thr ≤ v.corr then
        let new := max (s.wkGet k DRH.WK_CEIL DRF.WK_CEIL) (cur / 2)
        let s := (s.wkSet k DRH.WK_CUR DRF.WK_CUR new).setWalker k { s.walker k with calm := 0 }
        if new = cur then s else s.wkCount k DRH.WK_RAISED DRF.WK_RAISED
      else if v.corr < thr / 4 then
        if v.calm + 1 = 16 then
          (s.setCur k (min (s.walkBase k v.words) (2 * cur))).setWalker k { s.walker k with calm := 0 }
        else s.setWalker k { s.walker k with calm := v.calm + 1 }
      else s.setWalker k { s.walker k with calm := 0 }
    else s
  else s.walkStart k

/-- R286: an epoch, 1 s after the last. -/
def execWalkEpoch (k : Fin 26) (s : State) : Result :=
  .next (if s.walkOn k ∧ (s.walker k).epochAt ≤ s.elapsed then
    (s.walkEpoch k).setWalker k { (s.walkEpoch k).walker k with epochAt := s.elapsed + 10 ^ 15 } else s)

/-! Initialising regions (R279, R280). -/

/-- R279: the requests that waited for a region are performed, in the order they came; others wait on. -/
def State.retryWaiting (s : State) : State := s.waiting.foldl (fun s r => s.perform r) { s with waiting := [] }

/-- Write zeros with good check bits over a range, at once. -/
def State.zeroRange (s : State) (a b : Nat) : State :=
  { s with
    mem := Store.clear (fun x => decide (a ≤ x ∧ x < b)) s.mem
    chk := Store.clear (fun w => decide (a ≤ 8 * w ∧ 8 * w < b)) s.chk
    resv := s.resv.filter fun e => !decide (a ≤ 8 * (e.2 - 1) ∧ 8 * (e.2 - 1) < b) }

/-- R280, R287: an INIT finishes a region: zeros, CHECKED, and the waiting requests go on (DESIGN CHOICE, log entry 23). -/
def State.finishRegion (s : State) (r : Nat) : State :=
  let a := (regionRange r).1
  let s := { s with fog := Store.drop r s.fog }
  ((s.zeroRange a (a + (regionRange r).2)).setRegion r 2).retryWaiting

/-- R280: the automatic INIT of a block finishes a region, and the next one starts. -/
def execAutomaticInitRegionDone (b : Fin 17) (s : State) : Result :=
  .next (match Store.find b.val s.autoInit with
  | some r => ((s.qdrIssued 2 (regionRange r).1 0 ((regionRange r).2 / 8)).finishRegion r).autoNext b (r + 1) 2305
  | none => s)

/-! Range passes (R287). Block 0 is DRH, 1 + n the DRF of field n. -/

/-- First DPA and length of memory MEM of a block. -/
def rangeMem (u mem : Nat) : Nat × Nat := if u = 0 then walkSpan mem else walkSpan (2 + 3 * (u - 1) + mem)

/-- R287: is memory MEM of a block available? -/
def State.rangeUp (s : State) (u mem : Nat) : Bool :=
  if u = 0 then mem != 0 || s.flag GLB.AVAIL_HBMUP else mem != 1 || s.get QDR.STAT_STATE (u - 1) == 2

/-- R287: may a range pass of the mode run over the range? -/
def State.rangeOk (s : State) (u mode mem base len : Nat) : Bool :=
  let m := rangeMem u mem
  let grain := if u = 0 ∧ mem = 0 then 64 else 8
  decide (len ≠ 0 ∧ m.1 ≤ base ∧ base + len ≤ m.1 + m.2) && base % grain == 0 && len % grain == 0 &&
  (mode != 2 ||
    match regionOf base with
    | some r =>
      base % (regionRange r).2 == 0 && len % (regionRange r).2 == 0 &&
      (List.range (len / (regionRange r).2)).all fun i => (s.regionGet (r + i)).2 != 1
    | none => base == m.1 && len == m.2)

/-- R287: a request for a range pass, decided at the write. -/
def State.rangePass (s : State) (u mode mem entry src : Nat) : State :=
  let rperr (s : State) : State := if u = 0 then s.raise DRH.STAT_RPERR else s.raise DRF.STAT_RPERR (u - 1)
  let base := if u = 0 then s.get2 DRH.RPBASE_LO DRH.RPBASE_HI else s.get2 DRF.RPBASE_LO DRF.RPBASE_HI (u - 1)
  let len := if u = 0 then s.get2 DRH.RPLEN_LO DRH.RPLEN_HI else s.get2 DRF.RPLEN_LO DRF.RPLEN_HI (u - 1)
  if mode = 3 ∨ mem = 3 then rperr s
  else if s.opBusy entry then rperr s
  else if (Store.find u s.ranges).isSome then s.opRefuse entry 0x0401 src
  else if s.rangeUp u mem = false then s.opBegin entry 0x0401 5 0x0401 src noResult
  else if s.rangeOk u mode mem base len = false then s.opBegin entry 0x0401 5 0x0402 src noResult
  else
    let s := s.opBegin entry 0x0401 2 0 src noResult
    let s := match mode, regionOf base with
      | 2, some r => if (s.regionGet r).1 = 0 then s else s.setRegion r 1
      | _, _ => s
    { s with ranges := Store.put u { entry := entry, mode := mode, mem := mem, base := base, len := len } s.ranges }

/-- R287: a write of the word v to DRH_RP (u = 0) or to DRF_RP of field u - 1, from a source. -/
def State.writeRp (s : State) (u v src : Nat) : State :=
  if bitOf v 0 then s.rangePass u (bitsOf v 1 2) (if u = 0 then bitsOf v 3 1 else bitsOf v 3 2) (bitsOf v 16 10) src else s

/-- A write of DRH_RP or DRF_RP with GO and a mode. -/
def State.rangeCmd (s : State) (u : Fin 9) (mode : Nat) (mem : Fin 4) (e : Fin 1024) (src : Nat) : Result :=
  .next (s.access (if u.val = 0 then .DRH else .DRF) (u.val - 1) fun s =>
    s.rangePass u mode (if u.val = 0 then mem.val % 2 else mem.val) e src)

/-- R287: a range pass of MODE CHECK. -/
def execCheck (u : Fin 9) (mem : Fin 4) (e : Fin 1024) (src : Fin 4096) (s : State) : Result := s.rangeCmd u 0 mem e src
/-- R287: a range pass of MODE SCRUB. -/
def execScrub (u : Fin 9) (mem : Fin 4) (e : Fin 1024) (src : Fin 4096) (s : State) : Result := s.rangeCmd u 1 mem e src
/-- R287: a range pass of MODE INIT. -/
def execInit (u : Fin 9) (mem : Fin 4) (e : Fin 1024) (src : Fin 4096) (s : State) : Result := s.rangeCmd u 2 mem e src

/-- R287: the walker beside which a range pass over memory MEM of a block runs. -/
def rangeWalker (u mem : Nat) : Nat := if u = 0 then mem else 2 + 3 * (u - 1) + mem

/-- R287: a CHECK or SCRUB pass judges one word that does not read clean (DESIGN CHOICE, log entry 23). -/
def State.rangeWord (s : State) (u w : Nat) (p : RangeSt) : State × RangeSt :=
  let k := rangeWalker u p.mem
  let bad : RangeSt := { p with firstBad := some (p.firstBad.getD (8 * w)) }
  match s.readWord w with
  | (.clean, _) => (s, p)
  | (.correctable, v) =>
    (if p.mode = 1 then ((s.qdrIssued 2 (8 * w) 0 1).putWord w v 0).wkCount k DRH.WK_CORR DRF.WK_CORR else s, { p with corr := p.corr + 1 })
  | (.uncorrectable, _) =>
    (if p.mode = 1 then (s.wkCount k DRH.WK_UNC DRF.WK_UNC).eccLog (walkLog k) (8 * w) (walkSrc k) 2 else s, { bad with unc := bad.unc + 1 })
  | (.poisoned, _) =>
    (if p.mode = 1 then (s.wkCount k DRH.WK_POIS DRF.WK_POIS).eccLog (walkLog k) (8 * w) (walkSrc k) 2 else s, { bad with pois := bad.pois + 1 })

/-- R287: the operation-specific words of a range pass. -/
def RangeSt.words8 (p : RangeSt) : List Nat :=
  let f := p.firstBad.getD (2 ^ 64 - 1)
  [p.words % 2 ^ 32, p.words / 2 ^ 32, p.corr % 2 ^ 32, p.unc % 2 ^ 32, p.pois % 2 ^ 32, f % 2 ^ 32, f / 2 ^ 32]

/-- R287: bounds of the next 64th of a range, in whole words. -/
def RangeSt.bounds (p : RangeSt) : Nat × Nat :=
  (p.base + p.len / 8 * p.step / 64 * 8, p.base + p.len / 8 * (p.step + 1) / 64 * 8)

/-- R287: an INIT pass covers a 64th: regions that it completes become CHECKED, and the one it enters INITIALISING. -/
def State.rangeInit (s : State) (a b : Nat) : State :=
  match regionOf a with
  | none => (s.zeroRange a b)
  | some _ =>
    (regionParts a b).foldl (fun s e =>
      match regionOf e.1 with
      | some r =>
        if e.2 = (regionRange r).1 + (regionRange r).2 then s.finishRegion r
        else if (s.regionGet r).1 = 0 then s else s.setRegion r 1
      | none => s) s

/-- R287: a range pass completes 1/64 of its range. -/
def State.rangeStep (s : State) (u : Nat) (p : RangeSt) : State :=
  let (a, b) := p.bounds
  let s := if p.mode = 2 then s.qdrIssued 2 a 0 ((b - a) / 8) else s.qdrIssued 2 a (s.checkedWords a b) 0
  let t : State × RangeSt := if p.mode = 2 then (if a < b then s.rangeInit a b else s, p)
    else
      let q := { p with words := p.words + s.checkedWords a b }
      (s.chk.filter fun e => decide (a ≤ 8 * e.1 ∧ 8 * e.1 < b)).foldl (fun t e =>
        if t.1.checkedAt (8 * e.1) then t.1.rangeWord u e.1 t.2 else t) (s, q)
  let s := t.1
  let p : RangeSt := { t.2 with step := t.2.step + 1 }
  if p.step = 64 then { s.opMove p.entry 4 65536 p.words8 with ranges := Store.drop u s.ranges }
  else { s.opMove p.entry 3 (1024 * p.step) p.words8 with ranges := Store.put u p s.ranges }

/-- R287: a step of the range pass of a block. -/
def execRangePassStep (u : Fin 9) (s : State) : Result :=
  .next (match Store.find u.val s.ranges with
  | some p => s.rangeStep u p
  | none => s)

/-! Region codes (R281). -/

/-- R281: the contents of a region become undefined (DESIGN CHOICE, log entry 24). -/
def State.fogRegion (s : State) (r : Nat) : State :=
  let a := (regionRange r).1
  let b := a + (regionRange r).2
  { s with
    mem := Store.clear (fun x => decide (a ≤ x ∧ x < b)) s.mem
    chk := Store.clear (fun w => decide (a ≤ 8 * w ∧ 8 * w < b)) s.chk
    fog := Store.put r (s.free + 1) s.fog
    free := s.free + 1 }

/-- Set the CODE of a region. -/
def State.setCode (s : State) (r c : Nat) : State :=
  if r < 4096 then s.set DRH.RTBL_CODE c r
  else if r < 8192 then s.set DRF.RTBL_CODE c ((r - 4096) / 256) (r % 256)
  else s.set DRF.QTBL_CODE c ((r - 8192) / 32) (r % 32)

/-- R281: a write of one region's CODE. A Code N region reports CHECKED (R279). -/
def State.writeCode (s : State) (b r c : Nat) : State :=
  let now := s.regionGet r
  if c = 3 ∨ (8192 ≤ r ∧ c = 2) ∨ c = now.1 then s
  else if now.2 = 1 then
    if b = 0 then s.raise DRH.STAT_REGERR else s.raise DRF.STAT_REGERR ((b - 1) % 8)
  else ((s.fogRegion r).setCode r c).setRegion r (if c = 0 then 2 else 0)

/-- The first region of a block's table: block 0 DRH, 1 + n the reservoirs and 9 + n the QDR port of field n. -/
def regionBase (b : Nat) : Nat := if b = 0 then 0 else if b ≤ 8 then 4096 + 256 * (b - 1) else 8192 + 32 * (b - 9)

/-- How many region-table registers a block has (R291, R292). -/
def regionRegs (b : Nat) : Nat := if b = 0 then 288 else if b ≤ 8 then 32 else 4

/-- R281: a write of the word v to region-table register i of a block. -/
def State.writeRegion (s : State) (b i v : Nat) : State :=
  (List.range 8).foldl (fun s j => s.writeCode b (regionBase b + 8 * i + j) (bitsOf v (4 * j) 2)) s

/-- R281: a write of DRH_RTBL[i], DRF_RTBL[i] or DRF_QTBL[i]; i counts modulo the registers of the block. -/
def execRegionCodeWrite (b : Fin 17) (i : Fin 288) (v : Word) (s : State) : Result :=
  .next (s.access (if b.val = 0 then .DRH else .DRF) ((b.val - 1) % 8) fun s => s.writeRegion b (i % regionRegs b) v.toNat)

/-! The configuration-frame scanner (R290). -/

/-- R290: what the scanner finds in the next frame, which belongs to parcel p (12: the static region). -/
def State.frameScan (s : State) (n : Nat) (f : FrameFound) (p : Nat) : State :=
  let pos := s.get DRF.FS_POS n
  let s := s.set DRF.FS_CUR (s.get DRF.FS_IVAL n) n
  let s := if p < 12 ∧ s.gated n p then s
    else match f with
    | .dynamic => s
    | .clean => s
    | .single => s.count DRF.FS_CORRFR 1 n
    | .bad =>
      let s := (s.count DRF.FS_UNCFR 1 n).setBitOf DRF.FS_UNCPARCEL p n
      if s.flag DRF.FS_VALID n then s else (s.set DRF.FS_FIRSTUNC pos n).raise DRF.FS_VALID n
  if pos + 1 = 229376 then (s.set DRF.FS_POS 0 n).wrap DRF.FS_PASSES 1 n else s.set DRF.FS_POS (pos + 1) n

/-- R290: the scanner of field n checks the next frame, IVAL ns after the last, from admission until the field is fenced (DESIGN CHOICE, log
entry 23). -/
def execFrameScan (n : FieldId) (f : FrameFound) (p : Fin 13) (s : State) : Result :=
  let v := Store.get {} n.val s.fields
  .next (if s.serves n ∧ v.scanAt ≤ s.elapsed then
    { s.frameScan n f p with fields := Store.set {} n.val { Store.get {} n.val (s.frameScan n f p).fields with scanAt := s.elapsed + s.get DRF.FS_IVAL n * 1000000 } (s.frameScan n f p).fields } else s)

/-! Votes (R289). -/

/-- R289: all copies of a field disagree: the field at bit lo of the register at offset ofs takes its reset value (DESIGN
CHOICE, log entry 23). -/
def State.reload (s : State) (fs : List Field) (n ofs lo : Nat) : State :=
  fs.foldl (fun s f => (f.inWord ofs).foldl (fun s e =>
    if e.2.2 = lo then
      if f.blk.single then s.set f (s.resetVal f e.1 e.2.1) e.1 e.2.1 else s.set f (s.resetVal f n e.1 e.2.1) n e.1 e.2.1
    else s) s) s

/-- R289: a disagreement in block u (0 DRH, 1 + n the DRF of field n) at a register offset, 0xFFFF for internal state; lo
names the field whose three copies all disagree. -/
def State.tmrVote (s : State) (u ofs : Nat) (lo : Option Nat) : State :=
  let s := if u = 0 then (s.count DRH.TMR_VOTES).set DRH.TMR_LASTOFS ofs
    else (s.count DRF.TMR_VOTES 1 (u - 1)).set DRF.TMR_LASTOFS ofs (u - 1)
  let die := if u = 0 then 8 else u - 1
  match lo with
  | none => s.logEvent 0x0401 die (min u 1 + ofs * 2 ^ 16)
  | some b =>
    let s := if u = 0 then (s.reload DRH.fields 0 ofs b).raise DRH.STAT_TMRFAIL else (s.reload DRF.fields (u - 1) ofs b).raise DRF.STAT_TMRFAIL (u - 1)
    s.logEvent 0x0402 die (min u 1 + ofs * 2 ^ 16)

/-- R289: a vote. -/
def execTmrVote (u : Fin 9) (ofs : Fin 65536) (lo : Option (Fin 32)) (s : State) : Result :=
  .next (s.tmrVote u ofs (lo.map (·.val)))

end Sys2Proof.Machine
end

