-- ==== Sys2Proof/Machine/Line.lean ====
section
/-! DEFINITION. The coding of a lane's line (spec/02_lanes.md R53, spec/03_lane_coding.md R83, R84, R87, R89, R95,
spec/05_furrow.md R134): levels, precoding, scramblers, blocks of frames, patterns and training frames. -/
namespace Sys2Proof.Machine

/-! Levels (R53). -/

/-- R53: the place of a bit pair among the four levels, the first bit the more significant. -/
def grayOf (a b : Bool) : Nat := match a, b with
  | false, false => 0
  | false, true => 1
  | true, true => 2
  | true, false => 3

/-- R53: the bit pair of a place. -/
def grayBits : Nat → List Bool
  | 0 => [false, false]
  | 1 => [false, true]
  | 2 => [true, true]
  | _ => [true, false]

/-- R53: the places of line bits: pairs in PAM4, single bits (0 and 1) in NRZ. A last odd bit of PAM4 is paired with 0. -/
def places (pam4 : Bool) : List Bool → List Nat
  | [] => []
  | a :: t =>
    if pam4 then match t with
      | [] => [grayOf a false]
      | b :: t => grayOf a b :: places pam4 t
    else a.toNat :: places pam4 t

/-- The line bits of places. -/
def bitsOfPlaces (pam4 : Bool) (l : List Nat) : List Bool := l.flatMap fun x => if pam4 then grayBits x else [x != 0]

/-- R53: the level of a place: -3, -1, +1 and +3 in PAM4; -1 and +1 in NRZ, whose levels the spec does not give (DESIGN CHOICE, log
entry 59). -/
def levelOf (pam4 : Bool) (x : Nat) : Int := if pam4 then 2 * (x : Int) - 3 else if x = 0 then -1 else 1

/-- The place of a received level: the nearest. -/
def placeOfLevel (pam4 : Bool) (v : Int) : Nat :=
  if pam4 then (if v ≤ -2 then 0 else if v < 0 then 1 else if v < 2 then 2 else 3) else if v < 0 then 0 else 1

/-- R53: 1/(1+D) precoding of PAM4 places after the place prev: the precoded places and the last (the rule of IEEE 802.3: PRESUMED, log
entry 59). -/
def precode (prev : Nat) : List Nat → List Nat × Nat
  | [] => ([], prev)
  | g :: t =>
    let p := (g + 4 - prev % 4) % 4
    let r := precode p t
    (p :: r.1, r.2)

/-- R53: the decoding that matches. -/
def unprecode (prev : Nat) : List Nat → List Nat × Nat
  | [] => ([], prev)
  | p :: t =>
    let r := unprecode p t
    ((p + prev) % 4 :: r.1, r.2)

/-- The bits i to i + n - 1 of a number, the lowest first. -/
def bitList (v i : Nat) : Nat → List Bool
  | 0 => []
  | n + 1 => bitOf v i :: bitList v (i + 1) n

/-- The number that bits spell, the lowest first. -/
def natOfBits : List Bool → Nat
  | [] => 0
  | b :: t => b.toNat + 2 * natOfBits t

/-- Bytes as line bits, bit 0 first (DESIGN CHOICE, log entry 59). -/
def lineBits (l : List Byte) : List Bool := l.flatMap fun b => bitList b.toNat 0 8

/-- Whole bytes of line bits. -/
def bytesOfBits (n : Nat) (l : List Bool) : List Byte := bytesLE n (natOfBits l)

/-! Scramblers (R83, R87). -/

/-- R83: the self-synchronous descrambler over the bits i to i + n - 1 of a payload: the register afterwards and the bits. -/
def descramble (reg payload i : Nat) : Nat → Nat × Nat
  | 0 => (reg, 0)
  | n + 1 =>
    let b := bitOf payload i
    let o := b != (bitOf reg 38 != bitOf reg 57)
    let r := descramble (reg * 2 % 2 ^ 58 + b.toNat) payload (i + 1) n
    (r.1, (if o then 2 ^ i else 0) + r.2)

/-- R83: the self-synchronous scrambler over the bits i to i + n - 1 of a payload: the register afterwards and the bits. -/
def scramble (reg payload i : Nat) : Nat → Nat × Nat
  | 0 => (reg, 0)
  | n + 1 =>
    let o := bitOf payload i != (bitOf reg 38 != bitOf reg 57)
    let r := scramble (reg * 2 % 2 ^ 58 + o.toNat) payload (i + 1) n
    (r.1, (if o then 2 ^ i else 0) + r.2)

/-- R87: the seed of the scrambler of a lane of a PCIE port (PCI Express 3.0: PRESUMED, log entry 59). -/
def pcieSeed (lane : Nat) : Nat :=
  [0x1DBFBC, 0x0607BB, 0x1EC760, 0x18C0DB, 0x010F12, 0x19CFC9, 0x0277CE, 0x1BB807].getD (lane % 8) 0x1DBFBC

/-- R87: one step of the scrambler x^23 + x^21 + x^16 + x^8 + x^5 + x^2 + 1: its output and the register afterwards. -/
def pcieStep (reg : Nat) : Bool × Nat :=
  let o := bitOf reg 22
  (o, if o then (reg * 2 % 2 ^ 23) ^^^ 0x210125 else reg * 2 % 2 ^ 23)

/-- R87: n bits of a number, the lowest first, through the scrambler or, being its own inverse, the descrambler; only where on holds
are they changed. -/
def pcieScramble (on : Bool) (reg v i : Nat) : Nat → Nat × Nat
  | 0 => (reg, 0)
  | n + 1 =>
    let t := pcieStep reg
    let b := bitOf v i != (on && t.1)
    let r := pcieScramble on t.2 v (i + 1) n
    (r.1, (if b then 2 ^ i else 0) + r.2)

/-- R87: a block of 128 bits through the scrambler of a lane (PRESUMED, log entry 59): data (2) is scrambled; of an ordered set (1) the TS1
(0x1E) and TS2 (0x2D) are but for symbol 0, and after the EIEOS (0x00) the scrambler starts again from its seed; a SKP (0xAA) leaves it. -/
def pcieBlock (lane reg sync v : Nat) : Nat × Nat :=
  if sync = 2 then pcieScramble true reg v 0 128
  else
    let first := v % 256
    if first = 0xAA then (reg, v)
    else if first = 0x00 then (pcieSeed lane, v)
    else if first = 0x1E ∨ first = 0x2D then
      let a := pcieScramble false reg v 0 8
      let b := pcieScramble true a.1 v 8 120
      (b.1, a.2 + b.2)
    else pcieScramble false reg v 0 128

/-- R82, R87: is a block an SKP ordered set? -/
def isSkp (sync v : Nat) : Bool := sync == 1 && v % 256 == 0xAA

/-- R87: an SKP ordered set as it is sent: four groups 0xAA, then SKP_END and three symbols (PRESUMED, log entry 59). -/
def skpBlock : Nat := natLE (List.replicate 12 0xAA ++ [0xE1, 0, 0, 0])

/-! Blocks of frames (R83, R134). -/

/-- R83: the blocks IDLE and ALIGN of WRAW; R84: the idle and the error block of ETH (IEEE 802.3: PRESUMED, log entry 59). -/
def idleBlock : TxBlk := { hdr := 2, payload := 0 }
def alignBlock (i : Nat) : TxBlk := { hdr := 2, payload := 0x4B + i * 256 }
def ethIdle : TxBlk := { hdr := 2, payload := 0x1E }
def ethError : TxBlk := { hdr := 2, payload := 0x1E + (List.range 8).foldl (fun a i => a + 0x1E * 2 ^ (8 + 7 * i)) 0 }

/-- R84: the type of the block that ends a frame with n data bytes, and of the one that starts it (IEEE 802.3: PRESUMED, log
entry 59). -/
def ethEndType (n : Nat) : Nat := [0x87, 0x99, 0xAA, 0xB4, 0xCC, 0xD2, 0xE1, 0xFF].getD n 0xFF
def ethStart : TxBlk := { hdr := 2, payload := natLE [0x78, 0x55, 0x55, 0x55, 0x55, 0x55, 0x55, 0xD5] }

/-- R134: the idle blocks that keep the inter-packet gap of 12 after a frame whose last block holds n data bytes. -/
def ethGap (n : Nat) : List TxBlk := List.replicate (if n ≤ 4 then 1 else 2) ethIdle

/-- R150: the injections that meet a block whose payload carries frame bytes i to i + k - 1 from its byte o on. -/
def TxBlk.inject (b : TxBlk) (f : TxFrame) (i k o : Nat) : TxBlk :=
  let hit (j : Option Inject) : Option (Nat × Nat) := match j with
    | some x => if i ≤ x.pos ∧ x.pos < i + k then some (8 * (o + (x.pos - i)), x.count) else none
    | none => none
  let base := if b.hdr = 4 then 0 else 2
  { b with
    flip := (hit f.injBit).map fun e => (base + e.1 + (f.injBit.map (·.bit)).getD 0, e.2)
    move := (hit f.injSym).map fun e => (base + e.1, e.2) }

/-- R150: does CODEVIOL meet frame bytes i to i + k - 1? -/
def TxFrame.violates (f : TxFrame) (i k : Nat) : Bool := f.injCode.any fun x => decide (i ≤ x.pos ∧ x.pos < i + k)

/-- R147: byte i of a frame after the insertions. -/
def patched (ps : List (Nat × List Byte)) (i : Nat) (b : Byte) : Byte :=
  ps.foldl (fun b p => if p.1 ≤ i then p.2.getD (i - p.1) b else b) b

/-- R149: the check sequence. -/
def fcsFrame (mode : Nat) (f : List Byte) : List Byte :=
  if mode = 0 ∨ f.length < 5 then f
  else
    let body := f.take (f.length - 4)
    let c := fcsBytes body
    body ++ (if mode = 2 then c.map fun b => b ^^^ 0xFF else c)

/-- R134, R147, R149: the bytes of a frame as the PCS gets them, as far as they are known: a frame still being read keeps back the last four where
a check sequence may replace them; in WRAW a whole frame is padded to 7 bytes. -/
def TxFrame.line (f : TxFrame) (mode : Nat) : List Byte :=
  let p := f.bytes.mapIdx fun i b => patched f.patches i b
  if f.whole then
    let g := fcsFrame f.fcs p
    if mode = 1 then g ++ List.replicate (7 - g.length) 0 else g
  else if f.fcs = 0 then p else p.take (p.length - 4)

/-- R153: what ends a broken frame: a control block other than END in WRAW, an error termination in ETH, nothing but idle in BYPASS. -/
def brokenEnd (mode : Nat) : List TxBlk :=
  if mode = 1 then [idleBlock]
  else if mode = 2 then [ethError, { hdr := 2, payload := ethEndType 0 }, ethIdle]
  else []

/-- R83, R134: the next block of a frame: the block, the bytes it takes, and whether it ends the frame; none where a byte is due that has
not been read (R153). -/
def TxFrame.block (f : TxFrame) (mode : Nat) : Option (TxBlk × Nat × Bool) :=
  let line := f.line mode
  let rest := line.drop f.sent
  let n := rest.length
  let mark (b : TxBlk) (k o : Nat) : TxBlk :=
    let b := b.inject f f.sent k o
    if f.violates f.sent k then (if mode = 1 then { b with hdr := 0 } else if mode = 2 then ethError else b) else b
  if mode = 0 then
    match rest with
    | b :: _ => some (mark { hdr := 4, payload := b.toNat } 1 0, 1, f.whole && n == 1)
    | [] => none
  else if f.blks = 0 then
    if mode = 2 then some (ethStart, 0, false)
    else if 7 ≤ n then some (mark { hdr := 2, payload := natLE (0xA5 :: rest.take 7) } 7 1, 7, false)
    else none
  else if f.whole && decide (n ≤ 7) then
    some (mark { hdr := 2, payload := natLE (BitVec.ofNat 8 (if mode = 1 then 0xC0 + n else ethEndType n) :: rest) } n 1, n, true)
  else if 8 ≤ n then some (mark { hdr := 1, payload := natLE (rest.take 8) } 8 0, 8, false)
  else none

/-! Patterns and training frames (R89, R95). -/

/-- R95: taps of a pattern: its order and the bits of the register that feed it, 0 the newest. -/
def prbsTaps : Nat → Nat × List Nat
  | 0 => (7, [6, 5])
  | 1 => (9, [8, 4])
  | 2 => (13, [12, 11, 1, 0])
  | 3 => (15, [14, 13])
  | 4 => (23, [22, 17])
  | _ => (31, [30, 27])

/-- R95: the next bit of a pattern after the bits that a register holds. -/
def prbsNext (pat reg : Nat) : Bool := (prbsTaps pat).2.foldl (fun x k => x != bitOf reg k) false

/-- R95: n bits of a pattern: of SSPRQ from bit reg of it on, of the others after a register (0 stands for one of all ones, DESIGN CHOICE, log
entry 59); and the register afterwards. -/
def prbsBits (pat reg : Nat) : Nat → List Bool × Nat
  | 0 => ([], reg)
  | n + 1 =>
    if pat = 6 then
      let r := prbsBits pat ((reg + 1) % 131070) n
      (Config.ssprq reg :: r.1, r.2)
    else
      let reg := if reg = 0 then 2 ^ (prbsTaps pat).1 - 1 else reg
      let b := prbsNext pat reg
      let r := prbsBits pat (reg * 2 % 2 ^ (prbsTaps pat).1 + b.toNat) n
      (b :: r.1, r.2)

/-- R89: the 64 symbols of the marker, and the symbols of a cell, bit i of it sent i-th. -/
def trainMarker : List Int := List.replicate 32 3 ++ List.replicate 32 (-3)
def cellSymbols (cell : Nat) : List Int := (bitList cell 0 64).flatMap fun b => if b then [3, 3, -3, -3] else [-3, -3, 3, 3]

/-- R89: the pattern of symbols 320 to 8,191: PRBS13 from all ones, two bits a symbol, Gray-coded. -/
def trainPattern : List Int := (places true (prbsBits 2 (2 ^ 13 - 1) 15744).1).map (levelOf true)

/-- R89: the symbols of a training frame. -/
def trainSymbols (cell : Nat) : List Int := trainMarker ++ cellSymbols cell ++ trainPattern

end Sys2Proof.Machine
end

