-- ==== Sys2Proof/Machine/Sieve.lean ====
section
/-! DEFINITION. The sieve of a capture front-end (spec/04_cistern.md R99, R101-R103): its entries and chains, its decision and the float
line it pulses. -/
namespace Sys2Proof.Machine

/-- R101, R102: does sieve entry i match a frame? -/
def State.entryMatch (s : State) (l i : Nat) (bytes : List Byte) : Bool :=
  let o := s.get CFE.SV_OFFSET l i
  let w := natLE ((bytes.drop o).take 4)
  decide (o + 4 ≤ bytes.length) && (w &&& s.get CFE.SV_MASK l i) == (s.get CFE.SV_VALUE l i &&& s.get CFE.SV_MASK l i)

/-- R101: the last entry of the first matching chain, from entry i, where ok tells that the entries of the present chain so
far match; fuel counts the entries left. -/
def State.sieve (s : State) (l : Nat) (bytes : List Byte) (i : Nat) (ok : Bool) : Nat → Option Nat
  | 0 => none
  | fuel + 1 =>
    if s.flag CFE.SV_V l i then
      let m := ok && s.entryMatch l i bytes
      if s.flag CFE.SV_LINK l i && decide (i < 127) && s.flag CFE.SV_V l (i + 1) then s.sieve l bytes (i + 1) m fuel
      else if m then some i
      else s.sieve l bytes (i + 1) true fuel
    else s.sieve l bytes (i + 1) true fuel

/-- R103: a CFE pulses its float line. -/
def State.cfePulse (s : State) (l : Nat) : State := s.pulse (2 ^ (8 * (l / 16) + s.get CFE.CTRL_FLINE l))

/-- R101, R104: what the sieve of lane l decides of a frame with these bytes, as its entries stand. -/
def State.decideFrame (s : State) (l : Nat) (bytes : List Byte) : SieveDec :=
  let hit := s.sieve l bytes 0 true 128
  match hit with
  | some i => {
      hit := hit
      accept := s.flag CFE.SV_DISP l i
      float := s.flag CFE.SV_FLOAT l i
      slice := 32 * (if s.get CFE.SV_SLICEOV l i = 0x1FF then s.get CFE.CTRL_SLICE l else s.get CFE.SV_SLICEOV l i)
      tag := s.get CFE.SV_TAG l i }
  | none => { hit := hit, accept := s.flag CFE.CTRL_DEFACC l, float := false, slice := 32 * s.get CFE.CTRL_SLICE l, tag := 0 }

/-- R99, R157: the CFE of lane l takes the frames that the PCS deals to it. -/
def State.cfeTakes (s : State) (l : Nat) : Bool := s.cfeOn l && !s.flag CFE.CTRL_SRC l && s.time.tclk

end Sys2Proof.Machine
end

