-- ==== Sys2Proof/Machine/Ports.lean ====
section
/-! DEFINITION. Lanes and ports as the PCS sees them (R80-R86, R88): the hidden state of lanes and ports, which port a lane
belongs to, what a port allows of a lane, and what a port does when a lane leaves READY. -/
namespace Sys2Proof.Machine

/-- The hidden state of a lane. -/
def State.lane (s : State) (l : Nat) : LaneSt := Store.get {} l s.lanes
def State.setLane (s : State) (l : Nat) (v : LaneSt) : State := { s with lanes := Store.set {} l v s.lanes }

/-- The hidden state of the port of an anchor. -/
def State.port (s : State) (a : Nat) : PortSt := Store.get {} a s.ports
def State.setPort (s : State) (a : Nat) (v : PortSt) : State := { s with ports := Store.set {} a v s.ports }

/-- The hidden state of a field. -/
def State.field (s : State) (n : Nat) : FieldSt := Store.get {} n s.fields
def State.setField (s : State) (n : Nat) (v : FieldSt) : State := { s with fields := Store.set {} n v s.fields }

/-- The hidden state of a sequencer. -/
def State.fur (s : State) (l : Nat) : FurSt := Store.get {} l s.furs
def State.setFur (s : State) (l : Nat) (v : FurSt) : State := { s with furs := Store.set {} l v s.furs }

/-- The field and quad of a lane (R22). -/
def fieldOf (l : Nat) : Nat := l / 16
def quadOf (l : Nat) : Nat := l / 4

/-- R72, R501: an enable in a gated quad wakes the quad, whose PLLs then lock anew. -/
def State.wakeQuad (s : State) (q : Nat) : State :=
  if s.bit FPW.GATE_QOFF (q % 4) (q / 4) then
    let s := (s.lower LNQ.STAT_LOCKA q).lower LNQ.STAT_LOCKB q
    ((s.clearBitOf FPW.GATE_QOFF (q % 4) (q / 4)).setBitOf FPW.DON (5 + q % 4) (q / 4)).count FPW.WAKE_QWAKE 1 (q / 4)
  else s

/-- R80: lanes of the port that an anchor's PCS_CTRL describes. -/
def State.portSize (s : State) (a : Nat) : Nat := 2 ^ s.get PCS.CTRL_WIDTH a

/-- R80: the lanes of a field, in order. -/
def lanesOf (n : Nat) : List Nat := (List.range 16).map fun k => 16 * n + k

/-- R80: the anchor of the enabled port that lane l belongs to. -/
def State.anchorOf (s : State) (l : Nat) : Option Nat :=
  (lanesOf (fieldOf l)).find? fun a => s.flag PCS.CTRL_EN a && decide (a ≤ l ∧ l < a + s.portSize a)

/-- The lanes of the port of an anchor. -/
def State.portLanes (s : State) (a : Nat) : List Nat := (List.range (s.portSize a)).map fun i => a + i

/-- R84: lanes, lane rate in kbit/s, modulation (1: PAM4), class and whether the PHY has an RS FEC. -/
structure Phy where
  lanes : Nat
  rate : Nat
  pam4 : Nat
  cls : Nat
  rs : Bool

/-- R84: the PHYs by ETHPHY. -/
def phyOf : Nat → Option Phy
  | 0x0 => some ⟨1, 10312500, 0, 1, false⟩
  | 0x1 => some ⟨1, 25781250, 0, 2, false⟩
  | 0x2 => some ⟨1, 25781250, 0, 2, true⟩
  | 0x3 => some ⟨4, 10312500, 0, 1, false⟩
  | 0x4 => some ⟨1, 53125000, 1, 4, true⟩
  | 0x5 => some ⟨4, 25781250, 0, 2, true⟩
  | 0x6 => some ⟨2, 53125000, 1, 4, true⟩
  | 0x7 => some ⟨1, 106250000, 1, 5, true⟩
  | 0x8 => some ⟨4, 53125000, 1, 4, true⟩
  | 0x9 => some ⟨2, 106250000, 1, 5, true⟩
  | 0xA => some ⟨8, 53125000, 1, 4, true⟩
  | 0xB => some ⟨4, 106250000, 1, 5, true⟩
  | 0xC => some ⟨2, 212500000, 1, 6, true⟩
  | 0xD => some ⟨8, 106250000, 1, 5, true⟩
  | 0xE => some ⟨4, 212500000, 1, 6, true⟩
  | _ => none

/-- R80, R81, R84, R86: does the port of anchor a allow lane l as LN_CTRL holds it? -/
def State.laneAllowed (s : State) (a l : Nat) : Bool :=
  let mode := s.get PCS.CTRL_MODE a
  let cls := s.get LN.CTRL_RCLASS l
  let pam := s.get LN.CTRL_MOD l
  let proto := s.get PCS.CTRL_TPROTO a
  let modeOk :=
    if mode = 2 then
      if s.flag PCS.CTRL_AN a then cls == 1 || cls == 2 || cls == 4 || cls == 5 || cls == 6
      else match phyOf (s.get PCS.CTRL_ETHPHY a) with
        | some p => p.cls == cls && p.pam4 == pam && p.lanes == s.portSize a
        | none => false
    else if mode = 3 then (cls == 1 || cls == 2 || cls == 3) && pam == 0
    else true
  let trainOk :=
    if s.flag LN.CTRL_TRAIN l then
      if proto = 0 then mode == 2 && (cls == 1 || cls == 2 || cls == 4 || cls == 5)
      else if proto = 1 then (mode == 2 || mode == 1) && cls == 6
      else proto == 2
    else true
  modeOk && trainOk

/-- R80: PCS_STAT.CFGERR of an enabled port is 1 while a lane of it is REFUSED. -/
def State.portCfgerr (s : State) (a : Nat) : State :=
  s.setB PCS.STAT_CFGERR ((s.portLanes a).any fun l => s.get LN.STAT_STATE l == 6) a

/-- R100: the lane whose CFE has the next turn in a port. -/
def State.dealLane (s : State) (a : Nat) : Nat := a + (s.port a).dealt % s.portSize a

/-- R99, R100: a received frame ends: it goes to fabric, and to the CFE whose turn it is where that takes frames. -/
def State.dealFrame (s : State) (a : Nat) (f : RxFrame) : State :=
  let p := s.port a
  let l := s.dealLane a
  let s := s.setPort a { p with dealt := p.dealt + 1, frame := none, dec := none, unstamped := false }
  let s := if s.cfeTakes l && !p.unstamped then s.setLane l { s.lane l with rx := (s.lane l).rx ++ [{ f with dec := p.dec }] } else s
  s.emit (.toFabric a f.bytes)

/-- R157, R163: a frame begins, with its timestamp; while TCLK is stopped it gets none, and no CFE takes it. -/
def State.startFrame (s : State) (a : Nat) (bytes : List Byte) (ts : Nat) : State :=
  s.setPort a { s.port a with frame := some (bytes, ts), dec := none, unstamped := !s.time.tclk }

/-- R102, R103: the frame being received has these bytes; with its 128th byte the sieve of the CFE whose turn it is decides it. -/
def State.growFrame (s : State) (a : Nat) (bytes : List Byte) (ts : Nat) : State :=
  let p := s.port a
  let l := s.dealLane a
  if 128 ≤ bytes.length ∧ p.dec = none ∧ s.cfeTakes l then
    let d := s.decideFrame l bytes
    let s := s.setPort a { p with frame := some (bytes, ts), dec := some d }
    if d.float then s.cfePulse l else s
  else s.setPort a { p with frame := some (bytes, ts) }

/-- R88: end a frame in progress on the port as truncated. -/
def State.truncateRx (s : State) (a : Nat) : State :=
  match (s.port a).frame with
  | some (bytes, ts) => s.dealFrame a { bytes := bytes, trunc := true, ts := ts }
  | none => s

/-- R103, R124: ports lose lock in one cycle: the CFEs of their lanes that ask for it pulse their float lines, once. -/
def State.lockFloats (s : State) (anchors : List Nat) : State :=
  let m := (anchors.flatMap fun a => s.portLanes a).foldl (fun m l =>
    if s.cfeOn l && s.flag CFE.CTRL_FLTLOCK l then m ||| 2 ^ (8 * (l / 16) + s.get CFE.CTRL_FLINE l) else m) 0
  if m = 0 then s else s.pulse m

/-- R103, R124: the same for the ports of lanes that are READY and leave it together. -/
def State.lanesFloat (s : State) (ls : List Nat) : State :=
  s.lockFloats (ls.filterMap fun l => if s.get LN.STAT_STATE l = 5 then s.anchorOf l else none)

/-- R88: what the PCS signals to fabric when the port of anchor a begins (on) or ceases to deliver data. -/
def State.linkSignal (s : State) (a : Nat) (on : Bool) : State :=
  let mode := s.get PCS.CTRL_MODE a
  s.emit (.pcsSignal a (if mode = 2 then .localFault !on else if mode = 3 then .elecIdle !on else .rxValid on))

/-- R83, R84, R87, R98: the port of anchor a is aligned and delivers data. -/
def State.portUp (s : State) (a : Nat) : State := ((s.raise PCS.STAT_ALIGN a).raise PCS.STAT_LINK a).linkSignal a true

/-- R81, R98: a port in BYPASS has no alignment to wait for: it delivers data, and sets ALIGN and LINK, once every lane is READY (DESIGN
CHOICE, log entry 59). -/
def State.bypassUp (s : State) (a : Nat) : State :=
  if s.get PCS.CTRL_MODE a = 0 ∧ ((s.portLanes a).all fun l => s.get LN.STAT_STATE l == 5) then s.portUp a else s

/-- R88: a lane of the port leaves READY or loses lock or alignment. The count of dealt frames and the deskew restart
at the next alignment (R100). quiet: the floats have been pulsed. -/
def State.portLost (s : State) (a : Nat) (quiet : Bool := false) : State :=
  let s := s.truncateRx a
  let s := ((if quiet then s else s.lockFloats [a]).raise PCS.STAT_LOCKLOST a).count PCS.CNT2_LOCKCNT 1 a
  let s := ((s.lower PCS.STAT_ALIGN a).lower PCS.STAT_LINK a).linkSignal a false
  let s := s.setPort a { s.port a with nextLane := 0, dealt := 0 }
  (s.portLanes a).foldl (fun s l => s.setLane l { s.lane l with synced := false, fifo := [] }) s

/-- R88, R96: lane l leaves READY: its port sees the loss, and an eye scan of it ends FAILED, 0x0104. Where several lanes of one port leave
READY together, as when a PLL unlocks, each is one event of LOCKCNT (DESIGN CHOICE, log entry 59). -/
def State.leaveReady (s : State) (l : Nat) (quiet : Bool := false) : State :=
  let v := s.lane l
  let s := match v.eye with
    | some (e, _, _) => (s.setLane l { v with eye := none }).opFail e 0x0104
    | none => s
  let s := s.lower PCS.STAT_BLOCK_LOCK l
  let s := s.setLane l { s.lane l with hdrRun := 0, hdrWin := [], rxBits := [], rxPrev := 0 }
  match s.anchorOf l with
  | some a => s.portLost a quiet
  | none => s

/-- R137, R139, R153: a frame in progress of a sequencer is broken: it ends with a code violation, the rest of its bytes are discarded, and
it counts in BROKEN. -/
def State.furBreak (s : State) (l : Nat) : State :=
  match (s.fur l).sending with
  | some f =>
    let s := match s.anchorOf l with
      | some a => s.setPort a { s.port a with txq := (s.port a).txq ++ brokenEnd (s.get PCS.CTRL_MODE a) }
      | none => s
    let v := s.fur l
    ((s.setFur l { v with sending := none, prevEnd := s.fieldNow (fieldOf l) }).emit (.furBroken l f.sent)).count FUR.EVCNT_BROKEN 1 l
  | none => s

/-- R139: a running sequencer enters FAULT with an error code. -/
def State.furFault (s : State) (l err : Nat) : State :=
  if s.get FUR.STAT_STATE l = 4 then ((s.furBreak l).set FUR.STAT_STATE 6 l).set FUR.STAT_ERR err l else s

end Sys2Proof.Machine
end

