-- ==== Sys2Proof/Machine/Lanes.lean ====
section
/-! DEFINITION. Transceiver lanes (spec/02_lanes.md): PLLs, rate classes, the channel table, bring-up, equalisers,
calibration and loop-back. -/
namespace Sys2Proof.Machine

/-! The channel table (R61-R64). -/

/-- R64: the words of the default entry. -/
def defaultEntry : Nat → Nat
  | 0 => 1 + 5 * 2 ^ 8
  | 1 => 64 * 2 ^ 24
  | 2 => 24 * 2 ^ 16 + 16 * 2 ^ 24
  | 3 => 12 + 31 * 2 ^ 16
  | 4 => 12 + 48 * 2 ^ 16
  | 5 => 127 + 63 * 2 ^ 8 + 192 * 2 ^ 24
  | 6 => 16 + 50 * 2 ^ 8
  | _ => 0

/-- R61: word w of field n's channel table. -/
def State.chanWord (s : State) (n w : Nat) : Nat := (Store.get 0 (1040 * n + w) s.chan).toNat

/-- R61, R64: word w of the entry of lane l for class c in force. -/
def State.entryWord (s : State) (l c w : Nat) : Nat :=
  if (s.field (fieldOf l)).chanOk then s.chanWord (fieldOf l) (16 + 8 * (8 * (l % 16) + c) + w) else defaultEntry w

/-- R62, R64: the frequency of a field's reference input, in kHz. -/
def State.refKhz (s : State) (n input : Nat) : Nat :=
  if (s.field n).chanOk then s.chanWord n (3 + input) else 156250

/-- R54: validity of a transmit set against TXLIM and MAINMIN. -/
def firValid (pre3 pre2 pre1 main post1 post2 : Int) (txlim mainmin : Nat) : Bool :=
  decide (pre3.natAbs ≤ 12 ∧ pre2.natAbs ≤ 12 ∧ post2.natAbs ≤ 12 ∧ pre1.natAbs ≤ 24 ∧ post1.natAbs ≤ 24) &&
  decide (16 ≤ main ∧ main ≤ 64 ∧ (mainmin : Int) ≤ main) &&
  decide (pre3.natAbs ≤ txlim ∧ pre2.natAbs ≤ txlim ∧ pre1.natAbs ≤ txlim ∧ post1.natAbs ≤ txlim ∧ post2.natAbs ≤ txlim) &&
  decide (pre3.natAbs + pre2.natAbs + pre1.natAbs + main.natAbs + post1.natAbs + post2.natAbs = 64)

/-- A transmit set: PRE3, PRE2, PRE1, MAIN, POST1, POST2. -/
structure TxSet where
  pre3 : Int
  pre2 : Int
  pre1 : Int
  main : Int
  post1 : Int
  post2 : Int
  deriving DecidableEq, Repr

/-- R54, R65: is the set valid for lane l in its current class? -/
def State.txOk (s : State) (l : Nat) (t : TxSet) : Bool :=
  let w2 := s.entryWord l (s.get LN.CTRL_RCLASS l) 2
  firValid t.pre3 t.pre2 t.pre1 t.main t.post1 t.post2 (bitsOf w2 16 8) (bitsOf w2 24 8)

/-- The start values of an entry's words 1 and 2. -/
def txStart (w1 w2 : Nat) : TxSet :=
  ⟨signedOf (bitsOf w1 0 8) 8, signedOf (bitsOf w1 8 8) 8, signedOf (bitsOf w1 16 8) 8, bitsOf w1 24 8,
   signedOf (bitsOf w2 0 8) 8, signedOf (bitsOf w2 8 8) 8⟩

/-- R64: the checks of one entry with VALID = 1, by its words. -/
def entryOk (w : Nat → Nat) : Bool :=
  let t := txStart (w 1) (w 2)
  bitsOf (w 0) 3 5 == 0 && bitsOf (w 0) 11 21 == 0 && bitsOf (w 6) 16 16 == 0 && w 7 == 0 &&
  bitsOf (w 3) 5 3 == 0 && bitsOf (w 3) 13 3 == 0 && bitsOf (w 3) 21 11 == 0 &&
  bitsOf (w 4) 6 2 == 0 && bitsOf (w 4) 14 2 == 0 && bitsOf (w 4) 22 10 == 0 &&
  decide (bitsOf (w 2) 16 8 ≤ 24 ∧ 16 ≤ bitsOf (w 2) 24 8 ∧ bitsOf (w 2) 24 8 ≤ 64) &&
  decide (bitsOf (w 3) 8 5 ≤ bitsOf (w 3) 0 5 ∧ bitsOf (w 3) 0 5 ≤ bitsOf (w 3) 16 5) &&
  decide (bitsOf (w 4) 8 6 ≤ bitsOf (w 4) 0 6 ∧ bitsOf (w 4) 0 6 ≤ bitsOf (w 4) 16 6 ∧ bitsOf (w 4) 16 6 ≤ 48) &&
  decide (bitsOf (w 5) 0 8 ≤ 127 ∧ bitsOf (w 5) 8 8 ≤ 63 ∧ bitsOf (w 5) 16 8 ≤ bitsOf (w 5) 24 8 ∧ bitsOf (w 5) 24 8 ≤ 192) &&
  decide (1 ≤ bitsOf (w 6) 8 8) &&
  firValid t.pre3 t.pre2 t.pre1 t.main t.post1 t.post2 (bitsOf (w 2) 16 8) (bitsOf (w 2) 24 8)

/-- R64: the checks of field n's channel table. -/
def State.tableOk (s : State) (n : Nat) : Bool :=
  let w := s.chanWord n
  let bytes := (List.range 15).flatMap (fun i => bytesLE 4 (w i)) ++ (List.range 1024).flatMap (fun i => bytesLE 4 (w (16 + i)))
  w 0 == 0x4C544231 && bitsOf (w 1) 0 16 == 1 && bitsOf (w 1) 16 8 == n && bitsOf (w 1) 24 8 == 0x80 &&
  (w 3 == 100000 || w 3 == 156250) && (w 4 == 100000 || w 4 == 156250) && w 15 == crc32 bytes &&
  (List.range 128).all fun e =>
    if e % 8 = 7 then (List.range 8).all fun i => w (16 + 8 * e + i) == 0
    else w (16 + 8 * e) % 2 == 0 || entryOk fun i => w (16 + 8 * e + i)

/-- R79: LN_TBL shows the entry of the lane's current class. -/
def State.showEntry (s : State) (l : Nat) : State :=
  (List.range 8).foldl (fun s w => s.set LN.TBL_ENT (s.entryWord l (s.get LN.CTRL_RCLASS l) w) l w) s

/-- R64: at copy-in, check field n's table and report TBLDEF on every lane. -/
def State.checkTable (s : State) (n : Nat) : State :=
  let ok := s.tableOk n
  let s := s.setField n { s.field n with chanOk := ok }
  (lanesOf n).foldl (fun s l => (s.setB LN.STAT_TBLDEF (!ok) l).showEntry l) s

/-! PLLs (R48-R50, R72). -/

/-- The registers of PLL A or B of a quad. -/
structure PllRegs where
  en : Field
  ref : Field
  nint : Field
  nnum : Field
  nden : Field
  lock : Field
  unlk : Field
  range : Field

def pllRegs (b : Bool) : PllRegs :=
  if b then ⟨LNQ.CTRL_PLLB_EN, LNQ.CTRL_REFB, LNQ.PLLB_N_NINT, LNQ.PLLB_F_NNUM, LNQ.PLLB_F_NDEN, LNQ.STAT_LOCKB, LNQ.STAT_UNLKB, LNQ.STAT_RANGEB⟩
  else ⟨LNQ.CTRL_PLLA_EN, LNQ.CTRL_REFA, LNQ.PLLA_N_NINT, LNQ.PLLA_F_NNUM, LNQ.PLLA_F_NDEN, LNQ.STAT_LOCKA, LNQ.STAT_UNLKA, LNQ.STAT_RANGEA⟩

/-- R49: NDEN times the PLL's frequency, in kHz. -/
def State.pllFreq (s : State) (q : Nat) (b : Bool) : Nat :=
  let r := pllRegs b
  s.refKhz (q / 4) (s.get r.ref q) * (s.get r.nint q * s.get r.nden q + s.get r.nnum q)

/-- R49: does the programmed frequency lie in the PLL's range? -/
def State.pllInRange (s : State) (q : Nat) (b : Bool) : Bool :=
  let f := s.pllFreq q b
  let d := s.get (pllRegs b).nden q
  if b then decide (14000000 * d ≤ f ∧ f ≤ 25000000 * d) else decide (25000000 * d ≤ f ∧ f ≤ 28125000 * d)

/-- R50, R51: the class of a rate: num / den kbit/s. -/
def classOf (num den : Nat) (pam4 : Bool) : Option Nat :=
  if pam4 then
    if 53125000 * den ≤ num ∧ num < 106000000 * den then some 4
    else if 106000000 * den ≤ num ∧ num < 160000000 * den then some 5
    else if 160000000 * den ≤ num ∧ num ≤ 224000000 * den then some 6
    else none
  else
    if 1250000 * den ≤ num ∧ num < 8000000 * den then some 0
    else if 8000000 * den ≤ num ∧ num < 16000000 * den then some 1
    else if 16000000 * den ≤ num ∧ num < 32000000 * den then some 2
    else if 32000000 * den ≤ num ∧ num ≤ 56000000 * den then some 3
    else none

/-- R51: the rate class that lane l computes. -/
def State.laneClass (s : State) (l : Nat) : Option Nat :=
  let b := s.flag LN.CTRL_PLLSEL l
  let q := quadOf l
  classOf (s.pllFreq q b * 4 * (1 + s.get LN.CTRL_MOD l)) (s.get (pllRegs b).nden q * 2 ^ s.get LN.CTRL_DIV l) (s.flag LN.CTRL_MOD l)

/-- The lanes of a quad. -/
def quadLanes (q : Nat) : List Nat := (List.range 4).map fun k => 4 * q + k

/-- R72: a lane enters WAITPLL, from where it repeats the sequence; a training in progress is over, and the next ACQ may lead to one. -/
def State.waitPll (s : State) (l : Nat) (quiet : Bool := false) : State :=
  let s := if s.get LN.STAT_STATE l = 5 then s.leaveReady l quiet else s
  let s := (((s.set LN.STAT_STATE 1 l).lower LN.STAT_SIGDET l).lower LN.STAT_CDRLOCK l).set PCS.STAT_TRNST 0 l
  s.setLane l { s.lane l with trained := false, train := {} }

/-- R72: the enabled lanes that use a PLL enter WAITPLL; a REFUSED lane uses none. -/
def State.dropLanes (s : State) (q : Nat) (b : Bool) : State :=
  let ls := (quadLanes q).filter fun l => s.flag LN.CTRL_EN l && s.flag LN.CTRL_PLLSEL l == b && s.get LN.STAT_STATE l != 6
  ls.foldl (fun s l => s.waitPll l true) (s.lanesFloat ls)

/-- R49, R72: the enable bit of a PLL is set: it starts, unless programmed outside its range (DEDUCED, log entry 15). -/
def State.pllEnable (s : State) (q : Nat) (b : Bool) : State :=
  if s.flag (pllRegs b).en q then s
  else (s.raise (pllRegs b).en q).setB (pllRegs b).range (!s.pllInRange q b) q

/-- R72: the enable bit of a PLL is cleared. -/
def State.pllDisable (s : State) (q : Nat) (b : Bool) : State :=
  if s.flag (pllRegs b).en q then ((s.lower (pllRegs b).en q).lower (pllRegs b).lock q).dropLanes q b else s

/-- R72: an enabled PLL that had locked loses lock. -/
def State.pllUnlock (s : State) (q : Nat) (b : Bool) : State :=
  if s.flag (pllRegs b).en q && s.flag (pllRegs b).lock q then
    ((s.lower (pllRegs b).lock q).raise (pllRegs b).unlk q).dropLanes q b else s

/-- R49, R78: REFA or REFB is given a value. An enabled PLL whose reference changes loses lock, and its range is judged anew (DESIGN
CHOICE, log entry 59: the spec lets the reference change under an enabled PLL and does not say what follows). -/
def State.writeRef (s : State) (q : Nat) (b v : Bool) : State :=
  let r := pllRegs b
  if s.flag r.ref q = v then s
  else
    let s := s.setB r.ref v q
    if s.flag r.en q then (s.pllUnlock q b).setB r.range (!s.pllInRange q b) q else s

/-- R78: a write of LNQ_CTRL. -/
def State.writeLnqCtrl (s : State) (q v : Nat) : State :=
  let s := (s.writeRef q false (bitOf v 2)).writeRef q true (bitOf v 3)
  let s := if bitOf v 0 then s.pllEnable q false else s.pllDisable q false
  if bitOf v 1 then s.pllEnable q true else s.pllDisable q true

/-- R72, R78: a write of PLL word 0 (LNQ_PLLx_N) or 1 (LNQ_PLLx_F); NNUM not below NDEN is ignored, and so is NDEN = 0 (R16). -/
def State.writePllWord (s : State) (q : Nat) (b f : Bool) (v : Nat) : State :=
  let r := pllRegs b
  if s.flag r.en q then s
  else if f then
    let den := if bitsOf v 16 16 = 0 then s.get r.nden q else bitsOf v 16 16
    if bitsOf v 0 16 < den then (s.set r.nnum (bitsOf v 0 16) q).set r.nden den q else s
  else s.set r.nint (bitsOf v 0 10) q

/-- R72: setting a PLL enable bit; b names PLL B. -/
def execPllEnable (q : QuadId) (b : Bool) (s : State) : Result :=
  .next (s.access .LNQ (q / 4) fun s => s.pllEnable q b)

/-- R72: clearing a PLL enable bit. -/
def execPllDisable (q : QuadId) (b : Bool) (s : State) : Result :=
  .next (s.access .LNQ (q / 4) fun s => s.pllDisable q b)

/-- R72: a write of the word v to LNQ_PLLx_N, or to LNQ_PLLx_F where f holds. -/
def execPllDividerWrite (q : QuadId) (b f : Bool) (v : Word) (s : State) : Result :=
  .next (s.access .LNQ (q / 4) fun s => s.writePllWord q b f v.toNat)

/-- R67: the lanes that wait for a PLL that has locked go to CAL. -/
def State.startWaiting (s : State) (q : Nat) (b : Bool) : State :=
  (quadLanes q).foldl (fun s l =>
    if s.flag LN.CTRL_EN l && s.flag LN.CTRL_PLLSEL l == b && s.get LN.STAT_STATE l == 1 then
      (s.set LN.STAT_STATE 2 l).setLane l { s.lane l with calMode := 0 } else s) s

/-- R72: an enabled PLL within its range locks. -/
def execPllLock (q : QuadId) (b : Bool) (s : State) : Result :=
  .next (if s.flag (pllRegs b).en q && !s.flag (pllRegs b).range q then (s.raise (pllRegs b).lock q).startWaiting q b else s)

/-- R72: an enabled PLL that had locked loses lock. -/
def execPllUnlock (q : QuadId) (b : Bool) (s : State) : Result :=
  .next (s.pllUnlock q b)

/-! Live sets (R532, R55, R60). -/

/-- R532: load the transmit set and AMP from the entry. -/
def State.loadTx (s : State) (l : Nat) : State :=
  let e := s.entryWord l (s.get LN.CTRL_RCLASS l)
  ((((((s.set LN.TXFIR0_PRE3 (bitsOf (e 1) 0 8) l).set LN.TXFIR0_PRE2 (bitsOf (e 1) 8 8) l).set LN.TXFIR0_PRE1 (bitsOf (e 1) 16 8) l).set
    LN.TXFIR0_MAIN (bitsOf (e 1) 24 8) l).set LN.TXFIR1_POST1 (bitsOf (e 2) 0 8) l).set LN.TXFIR1_POST2 (bitsOf (e 2) 8 8) l).set
    LN.TXFIR1_AMP (bitsOf (e 0) 8 3) l

/-- The twelve DFE taps. -/
def dfeTaps : List Field :=
  [LN.DFE0_TAP1, LN.DFE0_TAP2, LN.DFE0_TAP3, LN.DFE0_TAP4, LN.DFE1_TAP5, LN.DFE1_TAP6, LN.DFE1_TAP7, LN.DFE1_TAP8,
   LN.DFE2_TAP9, LN.DFE2_TAP10, LN.DFE2_TAP11, LN.DFE2_TAP12]

/-- R532: load the receive set from the entry, unless ADAPT = FIXED. -/
def State.loadRx (s : State) (l : Nat) : State :=
  if s.get LN.CTRL_ADAPT l = 2 then s
  else
    let e := s.entryWord l (s.get LN.CTRL_RCLASS l)
    let s := ((s.set LN.RXEQ_CTLE (bitsOf (e 3) 0 5) l).set LN.RXEQ_VGA (bitsOf (e 4) 0 6) l).set LN.MLSE_ALPHA (bitsOf (e 5) 16 8) l
    dfeTaps.foldl (fun s f => s.set f 0 l) (s.set LN.MLSE_BETA 0 l)

/-- The transmit set in force. -/
def State.txSet (s : State) (l : Nat) : TxSet :=
  ⟨signedOf (s.get LN.TXFIR0_PRE3 l) 8, signedOf (s.get LN.TXFIR0_PRE2 l) 8, signedOf (s.get LN.TXFIR0_PRE1 l) 8,
   s.get LN.TXFIR0_MAIN l, signedOf (s.get LN.TXFIR1_POST1 l) 8, signedOf (s.get LN.TXFIR1_POST2 l) 8⟩

/-- Put a transmit set in force. -/
def State.setTx (s : State) (l : Nat) (t : TxSet) : State :=
  (((((s.set LN.TXFIR0_PRE3 (patternOf t.pre3 8) l).set LN.TXFIR0_PRE2 (patternOf t.pre2 8) l).set LN.TXFIR0_PRE1 (patternOf t.pre1 8) l).set
    LN.TXFIR0_MAIN (patternOf t.main 8) l).set LN.TXFIR1_POST1 (patternOf t.post1 8) l).set LN.TXFIR1_POST2 (patternOf t.post2 8) l

/-- R55: a write of LN_TXFIR0 stages four taps; in TRAIN it is ignored with FIRERR (DEDUCED, log entry 15). -/
def State.stageFir (s : State) (l v : Nat) : State :=
  if s.get LN.STAT_STATE l = 4 then s.raise LN.STAT_FIRERR l
  else s.setLane l { s.lane l with stage0 := some v }

/-- R55: a write of LN_TXFIR1 commits the staged values with its own, or refuses an invalid set with FIRERR (DEDUCED, log
entry 15). -/
def State.commitFir (s : State) (l v : Nat) : State :=
  if s.get LN.STAT_STATE l = 4 then s.raise LN.STAT_FIRERR l
  else
    let cur := s.txSet l
    let t : TxSet := match (s.lane l).stage0 with
      | some w => { txStart w v with post1 := signedOf (bitsOf v 0 8) 8, post2 := signedOf (bitsOf v 8 8) 8 }
      | none => { cur with post1 := signedOf (bitsOf v 0 8) 8, post2 := signedOf (bitsOf v 8 8) 8 }
    if s.txOk l t then
      ((s.setTx l t).set LN.TXFIR1_AMP (bitsOf v 16 3) l).setLane l { s.lane l with stage0 := none }
    else s.raise LN.STAT_FIRERR l

/-- R55: a write of the word v to LN_TXFIR0. -/
def execTxfirStage (l : LaneId) (v : Word) (s : State) : Result :=
  .next (s.access .LN (fieldOf l) fun s => s.stageFir l v.toNat)

/-- R55: a write of the word v to LN_TXFIR1. -/
def execTxfirCommit (l : LaneId) (v : Word) (s : State) : Result :=
  .next (s.access .LN (fieldOf l) fun s => s.commitFir l v.toNat)

/-- R56, R60: do four DFE taps starting at tap first lie within the entry's limits and the hardware's range? -/
def tapsOk (v first d1 dn : Nat) : Bool :=
  (List.range 4).all fun i => decide ((signedOf (bitsOf v (8 * i) 8) 8).natAbs ≤ (if first + i = 1 then min d1 127 else min dn 63))

/-- R56, R60: a software write of a receive register: 0 LN_RXEQ, 1-3 LN_DFE0-LN_DFE2, 4 LN_MLSE. Outside FIXED it is ignored;
outside the entry's limits or the hardware's range (which an entry with VALID = 0 may exceed, R64) the register is unchanged and FIRERR
is set. -/
def State.writeRx (s : State) (l r v : Nat) : State :=
  if s.get LN.CTRL_ADAPT l ≠ 2 then s
  else
    let e := s.entryWord l (s.get LN.CTRL_RCLASS l)
    let d1 := bitsOf (e 5) 0 8
    let dn := bitsOf (e 5) 8 8
    if r = 0 then
      if bitsOf (e 3) 8 5 ≤ bitsOf v 0 5 ∧ bitsOf v 0 5 ≤ bitsOf (e 3) 16 5 ∧ bitsOf (e 4) 8 6 ≤ bitsOf v 8 6 ∧ bitsOf v 8 6 ≤ min (bitsOf (e 4) 16 6) 48 then
        (s.set LN.RXEQ_CTLE (bitsOf v 0 5) l).set LN.RXEQ_VGA (bitsOf v 8 6) l
      else s.raise LN.STAT_FIRERR l
    else if r = 4 then
      if bitsOf v 0 8 ≤ min (bitsOf (e 5) 24 8) 192 ∧ (signedOf (bitsOf v 8 8) 8).natAbs ≤ min dn 63 then
        (s.set LN.MLSE_ALPHA (bitsOf v 0 8) l).set LN.MLSE_BETA (bitsOf v 8 8) l
      else s.raise LN.STAT_FIRERR l
    else
      let first := 4 * (r - 1)
      if tapsOk v (first + 1) d1 dn then
        (List.range 4).foldl (fun s i => s.set (dfeTaps.getD (first + i) LN.DFE0_TAP1) (bitsOf v (8 * i) 8) l) s
      else s.raise LN.STAT_FIRERR l

/-- R60: a software write of a live receive register. -/
def execRxeqWrite (l : LaneId) (r : Fin 5) (v : Word) (s : State) : Result :=
  .next (s.access .LN (fieldOf l) fun s => s.writeRx l r v.toNat)

/-! The lane's states (R66-R71). -/

/-- R73: a lane is idle unless its PCS is enabled, its CFE is enabled or its sequencer is running (R136). -/
def State.dpact (s : State) (l : Nat) : Bool :=
  (s.anchorOf l).isSome || s.flag CFE.CTRL_EN l ||
  s.get FUR.STAT_STATE l == 2 || s.get FUR.STAT_STATE l == 3 || s.get FUR.STAT_STATE l == 4

/-- R75: a running calibration of lane l reaches half of its progress. -/
def State.calHalf (s : State) (l : Nat) : State :=
  match (s.lane l).cal with
  | some c => if c.queued then s else s.opMove c.entry 2 32768 []
  | none => s

/-- R75, R81: the lane reaches READY; a running calibration ends DONE, and a port in BYPASS may now deliver data. -/
def State.laneReady (s : State) (l : Nat) : State :=
  let s := s.set LN.STAT_STATE 5 l
  let s := match s.anchorOf l with
    | some a => s.bypassUp a
    | none => s
  let v := s.lane l
  match v.cal with
  | some c => if c.queued then s.setLane l { v with trained := false }
    else (s.setLane l { v with trained := false, cal := none }).opDone c.entry
  | none => s.setLane l { v with trained := false }

/-- R75: a queued or running calibration ends FAILED with an error. -/
def State.calFail (s : State) (l err : Nat) : State :=
  match (s.lane l).cal with
  | some c => (s.setLane l { s.lane l with cal := none }).opFail c.entry err
  | none => s

/-- R58: the receive data latency of a lane, in symbol periods. -/
def State.rxLatency (s : State) (l : Nat) : Nat :=
  if 5 ≤ s.get LN.CTRL_RCLASS l ∧ s.flag LN.CTRL_MLSE_DIS l = false then 160 else 96

/-- R51, R67, R80: the checks of an enable and the start of the sequence. -/
def State.startLane (s : State) (l : Nat) : State :=
  let s := s.wakeQuad (quadOf l)
  let classOk := decide (s.laneClass l = some (s.get LN.CTRL_RCLASS l)) && bitOf (s.entryWord l (s.get LN.CTRL_RCLASS l) 0) 0
  let portOk := match s.anchorOf l with
    | some a => s.laneAllowed a l
    | none => true
  let s := s.setLane l { s.lane l with
    trained := false, precTx := none, precRx := none, train := {}, txFrac := 0, txPrev := 0, rxPrev := 0, rxBits := []
    echo := if s.get LN.CTRL_LOOP l = 2 then List.replicate (s.rxLatency l + 24) 0 else [] }
  let s := s.set PCS.STAT_TRNST 0 l
  if classOk && portOk then
    let s := (s.lower LN.STAT_CFGERR l).set LN.STAT_STATE 1 l
    let s := if s.flag (pllRegs (s.flag LN.CTRL_PLLSEL l)).lock (quadOf l) then
      (s.set LN.STAT_STATE 2 l).setLane l { s.lane l with calMode := 0 } else s
    match s.anchorOf l with
    | some a => s.portCfgerr a
    | none => s
  else
    let s := (s.raise LN.STAT_CFGERR l).set LN.STAT_STATE 6 l
    match s.anchorOf l with
    | some a => s.portCfgerr a
    | none => s

/-- R67, R75: clearing EN returns the lane to OFF and fails its calibration with LANE_OFF. -/
def State.stopLane (s : State) (l : Nat) : State :=
  let s := if s.get LN.STAT_STATE l = 5 then s.leaveReady l else s
  let s := s.calFail l 0x0101
  let s := (((s.set LN.STAT_STATE 0 l).lower LN.STAT_CFGERR l).lower LN.STAT_SIGDET l).lower LN.STAT_CDRLOCK l
  let s := (s.setLane l { s.lane l with trained := false, train := {} }).set PCS.STAT_TRNST 0 l
  match s.anchorOf l with
  | some a => s.portCfgerr a
  | none => s

/-- R70: the rate fields of LN_CTRL, written only while EN is 0; undefined encodings leave them (R16). -/
def State.writeRate (s : State) (l v : Nat) : State :=
  let s := s.setB LN.CTRL_PLLSEL (bitOf v 3) l
  let s := if bitsOf v 4 3 ≤ 6 then s.set LN.CTRL_DIV (bitsOf v 4 3) l else s
  let s := s.setB LN.CTRL_MOD (bitOf v 7) l
  let s := if bitsOf v 8 3 ≤ 6 then s.set LN.CTRL_RCLASS (bitsOf v 8 3) l else s
  (s.setB LN.CTRL_PRECODE (bitOf v 15) l).showEntry l

/-- R71: TRAIN is set from 0 to 1: the ACQ in progress, if any, leads to TRAIN. -/
def State.wantTrain (s : State) (l : Nat) : State := s.setLane l { s.lane l with trained := false }

/-- R77: LOOP has changed: the receiver of a lane that runs re-enters ACQ; in FAR the first symbol received is retransmitted after the
latency of R58 and 24 periods more. -/
def State.loopChanged (s : State) (l : Nat) : State :=
  let st := s.get LN.STAT_STATE l
  let s := if 3 ≤ st ∧ st ≤ 5 then (if st = 5 then s.leaveReady l else s).set LN.STAT_STATE 3 l else s
  s.setLane l { s.lane l with rxBits := [], echo := if s.get LN.CTRL_LOOP l = 2 then List.replicate (s.rxLatency l + 24) 0 else [] }

/-- R67, R70, R71, R77: a write of LN_CTRL. -/
def State.writeLnCtrl (s : State) (l v : Nat) : State :=
  let was := s.flag LN.CTRL_EN l
  let oldTrain := s.flag LN.CTRL_TRAIN l
  let oldLoop := s.get LN.CTRL_LOOP l
  let s := if was then s else s.writeRate l v
  let s := ((s.setB LN.CTRL_EN (bitOf v 0) l).setB LN.CTRL_TXEN (bitOf v 1) l).setB LN.CTRL_RXEN (bitOf v 2) l
  let s := if bitsOf v 11 2 ≤ 2 then s.set LN.CTRL_ADAPT (bitsOf v 11 2) l else s
  let s := (s.setB LN.CTRL_MLSE_DIS (bitOf v 13) l).setB LN.CTRL_TRAIN (bitOf v 14) l
  let s := if bitsOf v 16 2 ≤ 2 then s.set LN.CTRL_LOOP (bitsOf v 16 2) l else s
  if !was then (if bitOf v 0 then s.startLane l else s)
  else if !bitOf v 0 then s.stopLane l
  else
    let s := if !oldTrain && bitOf v 14 then s.wantTrain l else s
    let s := if !oldTrain && bitOf v 14 && s.get LN.STAT_STATE l == 5 then (s.leaveReady l).set LN.STAT_STATE 3 l else s
    if oldLoop = s.get LN.CTRL_LOOP l then s else s.loopChanged l

/-- R67: a write of LN_CTRL with the word v and EN = 1. -/
def execLaneEnable (l : LaneId) (v : Word) (s : State) : Result :=
  .next (s.access .LN (fieldOf l) fun s => s.writeLnCtrl l (setBit v.toNat 0))

/-- R67: clearing LN_CTRL.EN, the other fields as they stand. -/
def execLaneDisable (l : LaneId) (s : State) : Result :=
  .next (s.access .LN (fieldOf l) fun s => if s.flag LN.CTRL_EN l then (s.lower LN.CTRL_EN l).stopLane l else s)

/-- R71: a write that gives LN_CTRL.TRAIN the value t, the other fields as they stand. -/
def execTrainRequest (l : LaneId) (t : Bool) (s : State) : Result :=
  .next (s.access .LN (fieldOf l) fun s =>
    let old := s.flag LN.CTRL_TRAIN l
    let s := s.setB LN.CTRL_TRAIN t l
    let s := if !old && t then s.wantTrain l else s
    if s.flag LN.CTRL_EN l && !old && t && s.get LN.STAT_STATE l == 5 then (s.leaveReady l).set LN.STAT_STATE 3 l else s)

/-- R77: a write that gives LN_CTRL.LOOP the value m; 0x3 is not defined and leaves it (R16). -/
def execLoopSelect (l : LaneId) (m : Fin 4) (s : State) : Result :=
  .next (s.access .LN (fieldOf l) fun s =>
    let old := s.get LN.CTRL_LOOP l
    if m.val = 3 ∨ m.val = old then s
    else
      (s.set LN.CTRL_LOOP m l).loopChanged l)

/-- R67, R75, R532: the CAL phase ends: the loads of its cause, then ACQ, or READY where RXEN = 0. -/
def execCalDone (l : LaneId) (s : State) : Result :=
  .next (if s.get LN.STAT_STATE l = 2 then
    let s := if (s.lane l).calMode = 2 then s else (s.loadTx l).loadRx l
    let s := s.calHalf l
    if s.flag LN.CTRL_RXEN l then s.set LN.STAT_STATE 3 l else s.laneReady l
  else s)

/-- R60: a value kept within the entry's limits. -/
def clampNat (lo hi v : Nat) : Nat := max lo (min hi v)
def clampInt (m : Nat) (v : Int) : Int := max (-(m : Int)) (min m v)

/-- R56, R60: the receive set that adaptation reached, kept within the entry's limits; FIXED adapts nothing. -/
def State.adapt (s : State) (l : Nat) (a : AdaptVals) : State :=
  let s := ((s.raise LN.STAT_SIGDET l).raise LN.STAT_CDRLOCK l).set LN.CDR_PPM (patternOf a.ppm 16) l
  if s.get LN.CTRL_ADAPT l = 2 then s
  else
    let e := s.entryWord l (s.get LN.CTRL_RCLASS l)
    let d1 := bitsOf (e 5) 0 8
    let dn := bitsOf (e 5) 8 8
    let seq := decide (5 ≤ s.get LN.CTRL_RCLASS l) && !s.flag LN.CTRL_MLSE_DIS l
    let s := (s.set LN.RXEQ_CTLE (clampNat (bitsOf (e 3) 8 5) (bitsOf (e 3) 16 5) a.ctle) l).set LN.RXEQ_VGA
      (clampNat (bitsOf (e 4) 8 6) (bitsOf (e 4) 16 6) a.vga) l
    let s := if seq then (s.set LN.MLSE_ALPHA (min (bitsOf (e 5) 24 8) a.alpha) l).set LN.MLSE_BETA (patternOf (clampInt dn a.beta) 8) l else s
    (List.range 12).foldl (fun s i => s.set (dfeTaps.getD i LN.DFE0_TAP1)
      (if seq && decide (i < 2) then 0 else patternOf (clampInt (if i = 0 then d1 else dn) (a.taps.getD i 0)) 8) l) s

/-- R67, R71, R86: adaptation converges with the eye open: TRAIN if the lane is to train in a port, else READY. -/
def execAcqComplete (l : LaneId) (a : AdaptVals) (s : State) : Result :=
  .next (if s.get LN.STAT_STATE l = 3 then
    let s := s.adapt l a
    match s.anchorOf l with
    | some p =>
      if s.flag LN.CTRL_TRAIN l && !(s.lane l).trained then
        ((s.set LN.STAT_STATE 4 l).set PCS.STAT_TRNST 1 l).setLane l { s.lane l with train := { proto := s.get PCS.CTRL_TPROTO p } }
      else s.laneReady l
    | none => s.laneReady l
  else s)

/-- R68, R75: the lane does not reach READY within ADPTIME. -/
def execAcqTimeout (l : LaneId) (s : State) : Result :=
  .next (if s.get LN.STAT_STATE l = 3 then
    let s := (s.loadRx l).count LN.EVCNT_ACQFAIL 1 l
    match (s.lane l).cal with
    | some c => if c.queued then s else s.calFail l 0x0102
    | none => s
  else s)

/-- R69: signal detect, or clock lock where clock holds, is lost in READY. -/
def execLossOfSignal (l : LaneId) (clock : Bool) (s : State) : Result :=
  .next (if s.get LN.STAT_STATE l = 5 then
    let s := (s.leaveReady l).set LN.STAT_STATE 3 l
    let s := (s.raise LN.STAT_LOS_EVT l).count LN.EVCNT_LOSCNT 1 l
    if clock then s.lower LN.STAT_CDRLOCK l else (s.lower LN.STAT_SIGDET l).lower LN.STAT_CDRLOCK l
  else s)

/-- R60: a parameter stays at its limit for more than 1 ms of continuous adaptation. -/
def execAdaptLimitHold (l : LaneId) (s : State) : Result :=
  let st := s.get LN.STAT_STATE l
  let ad := s.get LN.CTRL_ADAPT l
  .next (if ad ≠ 2 ∧ (st = 3 ∨ (st = 5 ∧ ad = 0)) then s.raise LN.STAT_ADPLIM l else s)

/-! What a lane hears (R53, R67, R77). -/

/-- R66, R67: does lane l deliver received symbols to the PCS, and does it take them from its receive balls (R77: not in NEAR)? -/
def State.hears (s : State) (l : Nat) : Bool := s.get LN.STAT_STATE l == 5 && s.flag LN.CTRL_RXEN l
def State.fromBalls (s : State) (l : Nat) : Bool := s.hears l && s.get LN.CTRL_LOOP l != 1

/-- R53, R92: does lane l precode what it sends, and decode what it receives? As agreed in training, else by LN_CTRL.PRECODE. -/
def State.precodesTx (s : State) (l : Nat) : Bool := s.flag LN.CTRL_MOD l && (s.lane l).precTx.getD (s.flag LN.CTRL_PRECODE l)
def State.precodesRx (s : State) (l : Nat) : Bool := s.flag LN.CTRL_MOD l && (s.lane l).precRx.getD (s.flag LN.CTRL_PRECODE l)

/-- R53, R63: TXINV and RXINV of the entry of the lane's class. -/
def State.txInv (s : State) (l : Nat) : Bool := bitOf (s.entryWord l (s.get LN.CTRL_RCLASS l) 0) 1
def State.rxInv (s : State) (l : Nat) : Bool := bitOf (s.entryWord l (s.get LN.CTRL_RCLASS l) 0) 2

/-- R77: in FAR the symbols that the receiver decided (places) are retransmitted. -/
def State.echoPlaces (s : State) (l : Nat) (ps : List Nat) : State :=
  if s.get LN.CTRL_LOOP l = 2 then
    s.setLane l { s.lane l with echo := (s.lane l).echo ++ ps.map (levelOf (s.flag LN.CTRL_MOD l)) } else s

/-- R77: the same for line bits as they are delivered to the PCS. -/
def State.echoBits (s : State) (l : Nat) (b : List Bool) : State :=
  let ps := places (s.flag LN.CTRL_MOD l) b
  if s.precodesRx l then
    let r := precode (s.lane l).rxPrev ps
    (s.echoPlaces l r.1).setLane l { (s.echoPlaces l r.1).lane l with rxPrev := r.2 }
  else s.echoPlaces l ps

/-! Calibration in service (R73-R76). -/

/-- R75, R76: a calibration runs: CAL for RXCAL (0) and FULL (1); READAPT (2) reacquires from the start values at once. The PCS presents symbols
throughout, were they the idle pattern of R81, and a FULL calibration discards them. One requested while the lane is still in the CAL
of the sequence of R67 takes that CAL over: RXCAL ends it without a load of the entry, and READAPT goes to ACQ at once with the
transmit set in force (DESIGN CHOICE, log entry 59: the spec is silent on it). -/
def State.runCal (s : State) (l kind : Nat) : State :=
  let s := if s.get LN.STAT_STATE l = 5 then s.leaveReady l else s
  if kind = 2 then ((s.loadRx l).set LN.STAT_STATE 3 l).calHalf l
  else
    let s := (s.set LN.STAT_STATE 2 l).setLane l { s.lane l with calMode := if kind = 1 then 1 else 2 }
    if kind = 1 then s.raise LN.STAT_CALDISC l else s

/-- R74: a request for calibration of kind from source src, decided at the write (DEDUCED, log entry 15). -/
def State.requestCal (s : State) (l kind : Nat) (intr : Bool) (e src : Nat) : State :=
  if s.opBusy e then s.raise LN.STAT_CALERR l
  else if (s.lane l).cal.isSome then s.opRefuse e 0x0102 src
  else if s.dpact l && !intr then s.opRefuse e 0x0102 src
  else
    let st := s.get LN.STAT_STATE l
    if st = 0 ∨ st = 1 ∨ st = 6 then s.opBegin e 0x0102 5 0x0101 src noResult
    else if st = 4 then
      (s.opBegin e 0x0102 1 0 src noResult).setLane l { s.lane l with cal := some ⟨kind, e, true⟩ }
    else
      ((s.opBegin e 0x0102 2 0 src noResult).setLane l { s.lane l with cal := some ⟨kind, e, false⟩ }).runCal l kind

/-- R74, R79: a write of LN_CAL; KIND 0x3 is ignored. -/
def State.writeLnCal (s : State) (l v src : Nat) : State :=
  if bitOf v 0 && bitsOf v 2 2 != 3 then s.requestCal l (bitsOf v 2 2) (bitOf v 1) (bitsOf v 16 10) src else s

/-- R75: a request of KIND RXCAL. -/
def execRxcal (l : LaneId) (src : Fin 4096) (intr : Bool) (e : Fin 1024) (s : State) : Result :=
  .next (s.access .LN (fieldOf l) fun s => s.requestCal l 0 intr e src)

/-- R75: a request of KIND FULL. -/
def execFullCal (l : LaneId) (src : Fin 4096) (intr : Bool) (e : Fin 1024) (s : State) : Result :=
  .next (s.access .LN (fieldOf l) fun s => s.requestCal l 1 intr e src)

/-- R75: a request of KIND READAPT. -/
def execReadapt (l : LaneId) (src : Fin 4096) (intr : Bool) (e : Fin 1024) (s : State) : Result :=
  .next (s.access .LN (fieldOf l) fun s => s.requestCal l 2 intr e src)

/-- R74: a calibration queued during TRAIN starts when training has ended in READY, or in fallback (TRNST 5) (DEDUCED,
log entry 15). -/
def execQueuedCalStart (l : LaneId) (s : State) : Result :=
  .next (match (s.lane l).cal with
  | some c =>
    if c.queued && (s.get LN.STAT_STATE l == 5 || (s.get LN.STAT_STATE l == 3 && s.get PCS.STAT_TRNST l == 5)) then
      ((s.setLane l { s.lane l with cal := some { c with queued := false } }).opMove c.entry 2 0 []).runCal l c.kind
    else s
  | none => s)

end Sys2Proof.Machine
end

