-- ==== Sys2Proof/Machine/Wires.lean ====
section
/-! DEFINITION. The package wires (spec/08_flume.md R216-R218, spec/12_fabric.md R307, R310-R312): when a wire carries a
live value, and the registers that show it. -/
namespace Sys2Proof.Machine

/-- The destination module 8 n + m of a wire, and its source module. -/
def Wire.dstModule (w : Wire) : Nat := w.dst / 2048
def Wire.srcModule (w : Wire) : Nat := w.src / 2048

/-- R216, R220: module 8 n + m is up in wire mode. -/
def State.wireUp (s : State) (x : Nat) : Bool := s.flag FLH.MSTAT_WIRE (x / 8) (x % 8) && s.get FLH.MSTAT_STATE (x / 8) (x % 8) == 2

/-- R218: the source of a wire gives it values: its site is populated and its field not fenced, and its module is up. -/
def State.wireFed (s : State) (w : Wire) : Bool :=
  s.present (w.srcModule / 8) && !s.bit GLB.AVAIL_FFENCED (w.srcModule / 8) && s.wireUp w.srcModule

/-- R218, R312: a wire carries a live value. -/
def State.wireLive (s : State) (w : Wire) : Bool :=
  s.wireFed w && s.wireUp w.dstModule && s.flag FLD.STAT_WCLKLOCK (w.dstModule / 8)

/-- R218, R310: what was captured seven WCLK edges before the last one reaches the destination endpoint of a wire; a value captured while the wire was not live
is none. -/
def WireSt.arrived (v : WireSt) : Option Bool := v.hist.getD 7 none

/-- R218, R312: what the destination endpoint of a wire presents: the value that arrives, else the default. -/
def State.wireVal (s : State) (w : Wire) : Bool :=
  let v := Store.get {} w.dst s.pipes
  match v.arrived with
  | some b => if s.wireLive w then b else if w.dflt = 2 then v.val else w.dflt == 1
  | none => if w.dflt = 2 then v.val else w.dflt == 1

/-- R312: no condition holds under which an endpoint of a destination module presents its default. -/
def State.wiresFed (s : State) (x : Nat) : Bool := s.xbar.all fun w => w.dstModule != x || s.wireLive w

/-- R217, R312: every connected endpoint of a destination module carries a live value: seven WCLK cycles after the last such condition. -/
def State.wiresOk (s : State) (x : Nat) : Bool :=
  s.wiresFed x && s.xbar.all fun w => w.dstModule != x || (Store.get {} w.dst s.pipes).arrived.isSome

/-- R216, R218, R231: wires into module m of field n are at their defaults: the module itself is not up, or the source of one of its wires gives
none (DEDUCED, log entry 31). -/
def State.wiresDefault (s : State) (n m : Nat) : Bool :=
  s.get FLH.MSTAT_STATE n m != 2 || s.bit GLB.AVAIL_FFENCED n || s.xbar.any fun w => w.dstModule == 8 * n + m && !s.wireFed w

/-- R218, R312: WIREDFLT, WOK and WDFLT of module m of field n follow its wires. -/
def State.showWires (s : State) (n m : Nat) : State :=
  let s := s.setB FLH.MSTAT_WIREDFLT (s.flag FLH.MSTAT_WIRE n m && s.wiresDefault n m) n m
  if s.bit FLD.WSTAT_WMODE m n && decide (5 ≤ s.get FCC.STAT_PHASE n ∧ s.get FCC.STAT_PHASE n ≤ 7) then
    let s := if s.wiresOk (8 * n + m) then s.setBitOf FLD.WSTAT_WOK m n else s.clearBitOf FLD.WSTAT_WOK m n
    if s.wiresFed (8 * n + m) then s else s.setBitOf FLD.WSTAT_WDFLT m n
  else s.clearBitOf FLD.WSTAT_WOK m n

/-- R218: what is on the way on a wire that is not live never arrives. -/
def State.flushWires (s : State) : State :=
  { s with pipes := s.pipes.map fun e =>
      if s.xbar.any fun w => w.dst == e.1 && !s.wireLive w then (e.1, { e.2 with hist := [] }) else e }

/-- The registers of every module of the package follow its wires (DEDUCED, log entry 31). -/
def State.wires (s : State) : State := (List.range 64).foldl (fun s x => s.showWires (x / 8) (x % 8)) s.flushWires

end Sys2Proof.Machine
end

