-- ==== Sys2Proof/Machine/Fabric.lean ====
section
/-! DEFINITION. The fabric of a field (spec/12_fabric.md R296-R299, R302-R318, R321-R323; spec/17_configuration.md R422, R428-R432): what its
cells, MAC slices, clocks, endpoints and pins do, as the image configures them. What an image leaves unsaid of them is marked DESIGN CHOICE, log entry 60. -/
namespace Sys2Proof.Machine

/-! Signals. -/

/-- A code of start-up step c has run in field n (R422). -/
def State.stepRun (s : State) (n c : Nat) : Bool := s.bit FCC.STEP_DONE c n

def FabCfg.blk (c : FabCfg) (k : Nat) : Option BlkCfg := c.blks.find? fun b => b.blk == k
def FabCfg.mac (c : FabCfg) (k : Nat) : Option MacCfg := c.macs.find? fun b => b.mac == k
def FabCfg.pin (c : FabCfg) (k : Nat) : PinCfg := (c.pins.find? fun p => p.pin == k).getD { pin := k }

/-- How deep a signal can lie behind others without a loop. -/
def FabCfg.depth (c : FabCfg) : Nat := 16 * (c.blks.length + c.macs.length) + c.gates.length + 4

/-- The value of a bit list, bit 0 first, as a signed number of w bits; missing bits are 0. -/
def intOf (w : Nat) (l : List Bool) : Int := signedOf (natOfBits (l.take w)) w

/-- R308: a number wrapped to w bits. -/
def wrapInt (w : Nat) (v : Int) : Int := signedOf (patternOf v w) w

/-- R296, R297: the contents of LUT l of a block: the function, or what a storage LUT holds. -/
def FabSt.lut (f : FabSt) (b : BlkCfg) (l : Nat) : Nat :=
  let c := b.luts.getD l {}
  if c.ram = 0 then c.table else Store.get c.table (8 * b.blk + l) f.rams

/-- R296: O6: any function of A1 to A6; split, A6 is high. -/
def lutO6 (c : LutCfg) (table : Nat) (ins : List Bool) : Bool :=
  bitOf table (natOfBits (ins.take 5) + if c.split || ins.getD 5 false then 32 else 0)

/-- R296: O5: of a split LUT the second function of A1 to A5; else the value that O6 has with A6 low (PRESUMED, log entry 60). -/
def lutO5 (table : Nat) (ins : List Bool) : Bool := bitOf table (natOfBits (ins.take 5))

/-- R298: the sum of two operands of eight bits with the carry-in, nine bits; subtracting adds the inverse. -/
def carrySum (sub : Bool) (a b : List Bool) (cin : Bool) : Nat :=
  natOfBits (a.take 8) + natOfBits ((b.take 8).map fun x => x != sub) + cin.toNat

/-- R308: an operand behind its pipeline registers. -/
def staged (n : Nat) (pipe : List Int) (now : Int) : Int := if n = 0 then now else pipe.getD (n - 1) 0

/-- R308: A ± D, wrapped at 27 bits, times B, from the registers and the signals as they stand. -/
def macProduct (c : MacCfg) (v : MacSt) (ev : Net → Bool) : Int :=
  let a := staged c.na v.a (intOf 27 (c.a.map ev))
  let d := staged c.nd v.d (intOf 27 (c.d.map ev))
  let b := staged c.nb v.b (intOf 24 (c.b.map ev))
  wrapInt 27 (if ev c.subD then a - d else a + d) * b

/-- R308: the exact result ±(A ± D) × B ± Z. P of a slice without its register reads as 0 as Z (DESIGN CHOICE, log entry 60). -/
def macExact (c : MacCfg) (v : MacSt) (ev : Net → Bool) : Int :=
  let m := if c.nm then v.m else macProduct c v ev
  let z := match natOfBits (c.op.map ev) % 4 with
    | 0 => 0
    | 1 => v.p
    | 2 => intOf 58 (c.c.map ev)
    | _ => intOf 58 ((List.range 58).map fun i => ev (.mac c.below i))
  (if ev c.neg then -m else m) + (if ev c.negZ then -z else z)

/-- R309: P and OVF of an exact result. -/
def macResult (sat : Bool) (v : Int) : Int × Bool :=
  if v < -2 ^ 57 then (if sat then -2 ^ 57 else wrapInt 58 v, true)
  else if 2 ^ 57 ≤ v then (if sat then 2 ^ 57 - 1 else wrapInt 58 v, true)
  else (v, false)

/-- R427: the parcel that holds a clock region; row 0 is of the static region. -/
def parcelOf (region : Nat) : Option Nat := if 4 ≤ region ∧ region < 16 then some (region - 4) else none

/-- R427, R428: the logic of a clock region lies in a parcel under reconfiguration. -/
def State.gatedAt (s : State) (n region : Nat) : Bool :=
  match parcelOf region with
  | some p => s.gated n p
  | none => false

/-- The value of a signal in field n (R296-R299, R306-R318, R428). fuel bounds its depth; a loop through LUTs alone has an open value. -/
def State.net (s : State) (n : Nat) (f : FabSt) : Nat → Net → Bool
  | 0, x => Config.fabricIn n x s.elapsed
  | fuel + 1, x =>
    let ev := s.net n f fuel
    match x with
    | .const b => b
    | .o6 k l => match f.cfg.blk k with
      | some b => let c := b.luts.getD l {}; lutO6 c (f.lut b l) (c.ins.map ev)
      | none => false
    | .o5 k l => match f.cfg.blk k with
      | some b => lutO5 (f.lut b l) ((b.luts.getD l {}).ins.map ev)
      | none => false
    | .q k i => match f.cfg.blk k with
      | some b =>
        let c := b.ffs.getD i {}
        if s.stepRun n 2 = false then c.init
        else if b.srAsync && ev b.sr then c.srval
        else (Store.find (16 * k + i) f.ffs).getD c.init
      | none => false
    | .sum k i => match f.cfg.blk k with
      | some b =>
        let cin := if b.cin = 2 then ev (.carry b.below) else b.cin == 1
        bitOf (carrySum b.sub ((List.range 8).map fun l => ev (.o6 k l)) ((List.range 8).map fun l => ev (.o5 k l)) cin) i
      | none => false
    | .carry k => match f.cfg.blk k with
      | some b =>
        let cin := if b.cin = 2 then ev (.carry b.below) else b.cin == 1
        bitOf (carrySum b.sub ((List.range 8).map fun l => ev (.o6 k l)) ((List.range 8).map fun l => ev (.o5 k l)) cin) 8
      | none => false
    | .mac k i => match f.cfg.mac k with
      | some c =>
        let v := Store.get {} k f.macs
        bitOf (patternOf (if c.np then v.p else (macResult c.sat (macExact c v ev)).1) 58) i
      | none => false
    | .ovf k => match f.cfg.mac k with
      | some c =>
        let v := Store.get {} k f.macs
        if c.np then v.ovf else (macResult c.sat (macExact c v ev)).2
      | none => false
    | .wire m e => match s.xbar.find? fun w => w.dst == 2048 * (8 * n + m) + e with
      | some w => s.wireVal w
      | none => Config.fabricIn n x s.elapsed
    | .wok m => s.bit FLD.WSTAT_WOK m n
    | .float i => bitOf f.floatNow i
    | .time i => bitOf f.time i
    | .usr r i => bitOf (Store.get 0 r f.usrVal) i
    | .strobe r => bitOf f.usrStrobe r
    | .pin b p =>
      !s.flag FLD.IOB_HIZ n b && Config.pinLevel n (48 * b + p) (s.elapsed / 1000 - 4 * (f.cfg.pin (48 * b + p)).taps)
    | .des b p i => !s.flag FLD.IOB_HIZ n b && (Store.get [] (48 * b + p) f.des).getD i false
    | .locked i => s.bit FLD.PLL_LOCK i n
    | .gate k => match f.cfg.gates[k]? with
      | some g =>
        if s.gated n g.parcel = false then ev g.net
        else if g.leaves = false then Config.fabricIn n x s.elapsed
        else if g.dflt = 2 then Store.get false k f.held
        else g.dflt == 1
      | none => false
    | .ext _ => Config.fabricIn n x s.elapsed
    | .undriven _ _ => Config.fabricIn n x s.elapsed

/-- A signal of field n now. -/
def State.sig (s : State) (n : Nat) (f : FabSt) (x : Net) : Bool := s.net n f f.cfg.depth x

/-! Clocks (R302-R307, R422). -/

/-- R303: what may drive a global clock. -/
def gclkOk : ClkSrc → Bool
  | .gclk _ | .sample => false
  | _ => true

/-- R304: what may drive a regional clock of row y; banks 0 and 2 lie beside row 1, banks 1 and 3 beside row 2 (R295). -/
def rclkOk (y : Nat) : ClkSrc → Bool
  | .pll _ _ | .gclk _ => true
  | .pair b _ => 1 + b % 2 == y
  | .rxWord _ | .txWord _ => decide (2 ≤ y)
  | _ => false

/-- R82, R304: the word clock of lane l: its bit rate over the fabric word width, in Hz. -/
def State.wordClock (s : State) (l : Nat) : Nat × Nat :=
  let b := s.flag LN.CTRL_PLLSEL l
  (4000 * s.pllFreq (quadOf l) b * (1 + s.get LN.CTRL_MOD l),
    s.get (pllRegs b).nden (quadOf l) * 2 ^ s.get LN.CTRL_DIV l * if 5 ≤ s.get LN.CTRL_RCLASS l then 512 else 128)

/-- R305: the VCO frequency of an FPLL from its reference frequency. -/
def PllCfg.vco (c : PllCfg) (r : Nat × Nat) : Nat × Nat := (r.1 * c.fb, r.2 * c.div * 2 ^ 24)

/-- R303-R307: the frequency of a clock source of field n in Hz, as numerator and denominator; none where it does not run. fuel bounds a chain of
FPLLs. An FPLL that is not locked runs on, or is held low, as the image chooses. -/
def State.clkHz (s : State) (n : Nat) (f : FabSt) : Nat → ClkSrc → Option (Nat × Nat)
  | 0, _ => none
  | fuel + 1, c =>
    match c with
    | .pll i o => match Store.find i f.cfg.plls with
      | some p =>
        if p.hold && !s.bit FLD.PLL_LOCK i n then none
        else match s.clkHz n f fuel p.ref with
          | some r => (p.outs[o]?).map fun d => ((p.vco r).1, (p.vco r).2 * d.1)
          | none => none
      | none => none
    | .fref => (Store.find 0 f.cfg.freqs).map fun k => (1000 * k, 1)
    | .pair b i => (Store.find (4 * b + i + 1) f.cfg.freqs).map fun k => (1000 * k, 1)
    | .wclk => if s.flag FLD.STAT_WCLKLOCK n then some (1000000 * s.get CLK.WCLK_WMHZ, 1) else none
    | .tclk => if s.time.tclk then some (250000000, 1) else none
    | .rxWord l => if s.get LN.STAT_STATE (16 * n + l) = 5 then some (s.wordClock (16 * n + l)) else none
    | .txWord l => if decide (2 ≤ s.get LN.STAT_STATE (16 * n + l)) then some (s.wordClock (16 * n + l)) else none
    | .gclk _ => none
    | .sample => some (1000000000, 1)

/-- R305: when a source's first rising edge lies, in 10^-15 s: an FPLL output's phase shift is in eighths of the VCO period. -/
def State.clkPhase (s : State) (n : Nat) (f : FabSt) (c : ClkSrc) : Nat :=
  match c with
  | .pll i o => match Store.find i f.cfg.plls with
    | some p => match s.clkHz n f 7 p.ref with
      | some r => Config.clockPhase n (.pll i 0) + (p.outs.getD o (1, 0)).2 * (p.vco r).2 * 10 ^ 15 / (8 * (p.vco r).1)
      | none => 0
    | none => 0
  | .wclk => Config.clockPhase 8 .wclk
  | .sample => 0
  | _ => Config.clockPhase n c

/-- The edges of a clock of hz.1 / hz.2 Hz with a phase after time a and up to time b, in 10^-15 s: the time, and whether it rises. -/
def edgesIn (hz : Nat × Nat) (phase a b : Nat) : List (Nat × Bool) :=
  let k (t : Nat) := (t - phase) * 2 * hz.1 / (hz.2 * 10 ^ 15)
  (List.range (k b - k a)).map fun j => ((k a + 1 + j) * hz.2 * 10 ^ 15 / (2 * hz.1) + phase, (k a + 1 + j) % 2 == 0)

/-- The clock sources that field n uses. -/
def FabCfg.sources (c : FabCfg) : List ClkSrc :=
  let l := c.gbufs.flatMap (fun g => g.2.src0.toList ++ g.2.src1.toList) ++ c.rclks.map fun r => r.2
  (ClkSrc.sample :: (l.filter fun x => gclkOk x)).eraseDups

/-- An edge: when, in which field (8: the package's WCLK), of what, and whether it rises. -/
structure FabEvt where
  time : Nat
  field : Nat
  src : ClkSrc
  rise : Bool
  deriving DecidableEq, Repr

/-- Put an edge into a list in order of time. -/
def FabEvt.insert (e : FabEvt) : List FabEvt → List FabEvt
  | [] => [e]
  | x :: t => if e.time ≤ x.time then e :: x :: t else x :: FabEvt.insert e t

/-- R217, R303, R307: the edges of every clock of the package's fabric in ns nanoseconds, in order of time: none of a field before its LOCK step. -/
def State.fabEdges (s : State) (ns : Nat) : List FabEvt :=
  let a := s.elapsed
  let b := a + ns * 1000000
  let w := if s.xbar.isEmpty || !s.bit CLK.LOCK 2 then []
    else (edgesIn (1000000 * s.get CLK.WCLK_WMHZ, 1) (Config.clockPhase 8 .wclk) a b).map fun e => FabEvt.mk e.1 8 .wclk e.2
  let l := s.fabs.flatMap fun x =>
    if s.stepRun x.1 0 then x.2.cfg.sources.flatMap fun c => match s.clkHz x.1 x.2 8 c with
      | some hz => (edgesIn hz (s.clkPhase x.1 x.2 c) a b).map fun e => FabEvt.mk e.1 x.1 c e.2
      | none => []
    else []
  (w ++ l).foldr FabEvt.insert []

/-- R303: the source of a global clock's buffer. -/
def GbufCfg.src (g : GbufCfg) (b : Bool) : Option ClkSrc := (if b then g.src1 else g.src0).filter gclkOk

/-- R303: does the buffer of GCLK i pass an edge? -/
def FabSt.gclkEdge (f : FabSt) (es : List (ClkSrc × Bool)) (i : Nat) : Option Bool :=
  match Store.find i f.cfg.gbufs with
  | some g =>
    let v := Store.get {} i f.gbufs
    if v.on then match v.cur with
      | some b => (es.find? fun e => g.src b == some e.1).map fun e => e.2
      | none => none
    else none
  | none => none

/-- R299, R303, R304: the edge of a clock as the logic of a clock region sees it: 0 to 7 GCLK, 8 to 39 RCLK, which reach the regions of their row. -/
def FabSt.clkEdge (f : FabSt) (es : List (ClkSrc × Bool)) (region c : Nat) : Option Bool :=
  if c < 8 then f.gclkEdge es c
  else if (c - 8) / 8 ≠ region / 4 then none
  else match Store.find (c - 8) f.cfg.rclks with
    | some src =>
      if rclkOk (region / 4) src then match src with
        | .gclk i => f.gclkEdge es i
        | _ => (es.find? fun e => e.1 == src).map fun e => e.2
      else none
    | none => none

/-- R303: a buffer changes only while its output is low: it takes its enable at a falling edge of the source that it passes, and changes over at falling
edges of the one and then of the other; a source that does not run is left at once (DESIGN CHOICE, log entry 60). -/
def State.gbufNext (s : State) (n : Nat) (f : FabSt) (es : List (ClkSrc × Bool)) (g : GbufCfg) (v : GbufSt) : GbufSt :=
  let sel := s.sig n f g.sel
  let en := s.sig n f g.en
  let falls (b : Bool) : Bool := es.any fun e => g.src b == some e.1 && !e.2
  match v.cur with
  | some b =>
    if falls b then (if sel = b then { v with on := en } else { on := false, cur := none })
    else if sel ≠ b ∧ ((g.src b).bind fun c => s.clkHz n f 8 c) = none then { on := false, cur := none }
    else v
  | none => if falls sel then { on := en, cur := some sel } else v

/-- R430, R431: the clocks of a clock region's parcel run: they are gated from the end of the drain until 1 us after the frames are written, and while the parcel is
BLANK or WEDGED. -/
def State.clocksRun (s : State) (n region : Nat) : Bool :=
  match parcelOf region with
  | none => true
  | some p =>
    !s.gated n p || match s.swap n with
      | some w => w.parcel == p && (w.drained.isNone || (w.written && decide (w.writtenAt + usFs ≤ s.elapsed)))
      | none => false

/-- The edge that clocks logic in a region of field n. -/
def State.edgeAt (s : State) (n : Nat) (f : FabSt) (es : List (ClkSrc × Bool)) (region c : Nat) : Option Bool :=
  if s.clocksRun n region then f.clkEdge es region c else none

/-! What an edge does. -/

/-- R299: flip-flop i of a block at an edge of its clock. -/
def State.ffNext (s : State) (n : Nat) (f : FabSt) (b : BlkCfg) (i : Nat) : Bool :=
  let c := b.ffs.getD i {}
  if s.stepRun n 2 = false then c.init
  else if s.sig n f b.sr then c.srval
  else if s.sig n f (if i < 8 then b.ce0 else b.ce1) then
    match c.bypass with
    | some x => s.sig n f x
    | none => s.sig n f (if i % 2 = 0 then .o6 b.blk (i / 2) else .o5 b.blk (i / 2))
  else s.sig n f (.q b.blk i)

/-- R297: storage LUT l of a block at an edge: a RAM writes the bit at A1 to A6, a shift register moves in a bit; only after WEN. -/
def State.ramNext (s : State) (n : Nat) (f : FabSt) (b : BlkCfg) (l : Nat) : Nat :=
  let c := b.luts.getD l {}
  let v := f.lut b l
  if !s.stepRun n 3 || !s.sig n f c.we then v
  else if c.ram = 2 then (2 * v + (s.sig n f c.din).toNat) % 2 ^ 32
  else
    let a := natOfBits ((c.ins.take 6).map (s.sig n f))
    if s.sig n f c.din then setBit v a else clearBit v a

/-- R296-R299: a block at an edge of its clock: s holds what stood before the edge, f' what the edge has brought so far. -/
def State.blkNext (s : State) (n : Nat) (f f' : FabSt) (b : BlkCfg) : FabSt :=
  let f' := (List.range b.ffs.length).foldl (fun f' i => { f' with ffs := Store.put (16 * b.blk + i) (s.ffNext n f b i) f'.ffs }) f'
  (List.range b.luts.length).foldl (fun f' l =>
    if (b.luts.getD l {}).ram = 0 then f' else { f' with rams := Store.put (8 * b.blk + l) (s.ramNext n f b l) f'.rams }) f'

/-- R308, R309: a MAC slice at an edge of its clock; global set/reset holds its registers at 0 (DESIGN CHOICE, log entry 60). -/
def State.macNext (s : State) (n : Nat) (f : FabSt) (c : MacCfg) : MacSt :=
  if s.stepRun n 2 = false then {}
  else
    let v := Store.get {} c.mac f.macs
    let ev := s.sig n f
    let r := macResult c.sat (macExact c v ev)
    { a := (intOf 27 (c.a.map ev) :: v.a).take c.na, b := (intOf 24 (c.b.map ev) :: v.b).take c.nb, d := (intOf 27 (c.d.map ev) :: v.d).take c.nd
      m := if c.nm then macProduct c v ev else 0
      p := if c.np then r.1 else 0
      ovf := c.np && r.2 }

/-- R318: the word of a pin's deserialiser at an edge of its clock: ratio samples over the clock's period, first bit first, behind the input
delay. -/
def State.desWord (s : State) (n : Nat) (f : FabSt) (p : PinCfg) : List Bool :=
  let src : Option ClkSrc := if p.clk < 8 then (Store.find p.clk f.cfg.gbufs).bind fun g => ((Store.get {} p.clk f.gbufs).cur).bind g.src
    else Store.find (p.clk - 8) f.cfg.rclks
  match src.bind fun c => s.clkHz n f 8 c with
  | some hz =>
    let period := hz.2 * 10 ^ 12 / hz.1
    (List.range p.ratio).map fun j => Config.pinLevel n p.pin (s.elapsed / 1000 - (p.ratio - 1 - j) * period / p.ratio - 4 * p.taps)
  | none => []

/-- R318: serialisers and deserialisers of a pin at an edge of its clock. -/
def State.pinNext (s : State) (n : Nat) (f f' : FabSt) (p : PinCfg) : FabSt :=
  let f' := if 2 ≤ p.outs.length then { f' with ser := Store.put p.pin (p.outs.map (s.sig n f)) f'.ser } else f'
  if 2 ≤ p.ratio then { f' with des := Store.put p.pin (s.desWord n f p) f'.des } else f'

/-- The clock region of a pin's bank (R295). -/
def bankRegion (b : Nat) : Nat := 4 * (1 + b % 2) + if b < 2 then 0 else 3

/-- The fabric of field n after the edges es of one instant, from the state before it (R296-R299, R303, R308, R316-R318, R322). -/
def State.fabNext (s : State) (n : Nat) (f : FabSt) (es : List (ClkSrc × Bool)) : FabSt :=
  let rises (region c : Nat) : Bool := f.clkEdge es region c == some true
  let f' := f.cfg.blks.foldl (fun f' b => if s.edgeAt n f es b.region b.clk == some (!b.inv) then s.blkNext n f f' b else f') f
  let f' := f.cfg.macs.foldl (fun f' c => if s.edgeAt n f es c.region c.clk == some true then { f' with macs := Store.put c.mac (s.macNext n f c) f'.macs } else f') f'
  let f' := f.cfg.pins.foldl (fun f' p => if rises (bankRegion (p.pin / 48)) p.clk then s.pinNext n f f' p else f') f'
  let f' := f.cfg.gbufs.foldl (fun f' g => { f' with gbufs := Store.put g.1 (s.gbufNext n f es g.2 (Store.get {} g.1 f.gbufs)) f'.gbufs }) f'
  let f' := f.cfg.floatClk.foldl (fun f' e =>
    if rises 0 e.2 then { f' with
      floatNow := if bitOf f.floatPend e.1 then setBit f'.floatNow e.1 else clearBit f'.floatNow e.1
      floatPend := clearBit f'.floatPend e.1 } else f') f'
  let f' := match f.cfg.timeClk with
    | some c => if rises 0 c then { f' with time := tsOf (s.fieldNow n) } else f'
    | none => f'
  f.cfg.usrIn.foldl (fun f' e =>
    if rises 0 e.2 then { f' with
      usrVal := if bitOf f.usrPend e.1 then Store.set 0 e.1 (s.get FLD.USRIN n e.1) f'.usrVal else f'.usrVal
      usrStrobe := if bitOf f.usrPend e.1 then setBit f'.usrStrobe e.1 else clearBit f'.usrStrobe e.1
      usrPend := clearBit f'.usrPend e.1 } else f') f'

/-- R299: asynchronous set/reset holds: what it has set stays when it is released. -/
def State.settleSr (s : State) (n : Nat) (f : FabSt) : FabSt :=
  f.cfg.blks.foldl (fun f' b =>
    if b.srAsync && s.stepRun n 2 && s.sig n f b.sr then
      (List.range b.ffs.length).foldl (fun f' i => { f' with ffs := Store.put (16 * b.blk + i) (b.ffs.getD i {}).srval f'.ffs }) f'
    else f') f

/-- R217, R218, R310: a wire at a WCLK edge: the source endpoint captures, the value of seven edges ago arrives. A source endpoint whose field has lost
WCLK captures nothing new (DESIGN CHOICE, log entry 60). -/
def State.wireNext (s : State) (w : Wire) : WireSt :=
  let v := Store.get {} w.dst s.pipes
  let n := w.srcModule / 8
  let k := w.src % (2048 * 8)
  let f := s.fab n
  let cap := if !s.wireLive w then none
    else if !s.flag FLD.STAT_WCLKLOCK n then v.hist.headD none
    else some (s.sig n f ((Store.find k f.cfg.wires).getD (.undriven (k / 2048) (k % 2048))))
  let v : WireSt := { v with hist := (cap :: v.hist).take 8 }
  { v with val := match v.arrived with
    | some b => if s.wireLive w then b else if w.dflt = 2 then v.val else w.dflt == 1
    | none => if w.dflt = 2 then v.val else w.dflt == 1 }

/-! Pins (R318, R320, R321). -/

/-- R321: what pin p (48 b + p) of field n does. -/
def State.pinState (s : State) (n p : Nat) : PinState :=
  let f := s.fab n
  let c := f.cfg.pin p
  if !s.bit FPW.DON 0 n then .unpowered
  else if s.flag FLD.IOB_HIZ n (p / 48) then .highZ 1
  else if !s.stepRun n 1 then .highZ c.pull
  else
    let d := f.cfg.pin (p - 1)
    let c := if p % 2 = 1 ∧ d.diff then { d with pin := p } else c
    if !s.sig n f c.oe || c.outs.isEmpty then .highZ c.pull
    else
      let bits := if 2 ≤ c.outs.length then Store.get [] (if c.diff then p - p % 2 else p) f.ser else c.outs.map (s.sig n f)
      .driven (if p % 2 = 1 ∧ c.diff then bits.map fun b => !b else bits)

/-- R321: the pins of field n as they now are: those that have changed are put out. -/
def State.showPins (s : State) (n : Nat) : State :=
  (List.range 192).foldl (fun s p =>
    let v := s.pinState n p
    if Store.get (.highZ 1) p (s.fab n).pins = v then s
    else (s.setFab n { s.fab n with pins := Store.set (.highZ 1) p v (s.fab n).pins }).emit (.pin n p v)) s

/-! Instants. -/

/-- The edges of field n among those of one instant. -/
def edgesOf (g : List FabEvt) (n : Nat) : List (ClkSrc × Bool) := (g.filter fun e => e.field == n).map fun e => (e.src, e.rise)

/-- R323: user registers that the logic of field n writes at the edges of an instant: not from a parcel under reconfiguration. -/
def State.usrWrites (s : State) (n : Nat) (f : FabSt) (es : List (ClkSrc × Bool)) : List (Nat × Nat) :=
  (f.cfg.usrOut.filter fun u => s.edgeAt n f es u.region u.clk == some true && !s.gatedAt n u.region && s.sig n f u.strobe).map fun u =>
    (u.reg, natOfBits (u.bits.map (s.sig n f)))

/-- R316: float output j of field n rises. -/
def State.floatOutput (s : State) (n j : Nat) : State := (s.setBitOf FLD.FLOAT_FOUT j n).pulse (2 ^ (8 * n + j))

/-- R316: the float outputs of field n, as a mask. -/
def State.floatOuts (s : State) (n : Nat) (f : FabSt) : Nat :=
  f.cfg.floatOut.foldl (fun a e => if s.sig n f e.2 then setBit a e.1 else a) 0

/-- R316: the field float register samples at 1.0 GHz: an output that has risen since the last sample pulses. -/
def State.sampleFloats (s : State) (n : Nat) : State :=
  let f := s.fab n
  let v := s.floatOuts n f
  let s := s.setFab n { f with floatOut := v }
  (List.range 8).foldl (fun s j => if bitOf v j && !bitOf f.floatOut j then s.floatOutput n j else s) s

/-- What the edges of one instant do, all from the state before it: fields, wires, user registers, pins and floats. -/
def State.instant (s : State) (g : List FabEvt) : State :=
  let w := g.any fun e => e.field == 8 && e.rise
  let fabs := s.fabs.map fun x => (x.1, s.fabNext x.1 x.2 (edgesOf g x.1))
  let writes := s.fabs.flatMap fun x => (s.usrWrites x.1 x.2 (edgesOf g x.1)).map fun u => (x.1, u.1, u.2)
  let pipes := if w then s.xbar.foldl (fun m x => Store.put x.dst (s.wireNext x) m) s.pipes else s.pipes
  let s : State := { s with fabs := fabs, pipes := pipes }
  let s : State := { s with fabs := s.fabs.map fun x => (x.1, s.settleSr x.1 x.2) }
  let s := writes.foldl (fun s u => s.set FLD.USROUT u.2.2 u.1 u.2.1) s
  let s := if w then s.wires else s
  s.fabs.foldl (fun s x =>
    let s := s.showPins x.1
    if (edgesOf g x.1).contains (.sample, true) then s.sampleFloats x.1 else s) s

/-- Instants in order of time: edges at one time are one instant. fuel bounds their number. -/
def State.instants (s : State) : Nat → List FabEvt → State
  | 0, _ => s
  | _, [] => s
  | fuel + 1, e :: t =>
    (({ s with elapsed := e.time } : State).instant ((e :: t).filter fun x => x.time == e.time)).instants fuel (t.filter fun x => x.time != e.time)

/-- What the fabric of the package does in ns nanoseconds. -/
def State.fabCycle (s : State) (ns : Nat) : State :=
  let es := s.fabEdges ns
  { s.instants es.length es with elapsed := s.elapsed + ns * 1000000 }

/-! Images and parcels (R416, R419, R428-R432). -/

/-- R416, R419: field n takes the fabric of an image: flip-flops at INIT. -/
def State.loadFab (s : State) (n : Nat) (c : FabCfg) : State := s.setFab n { cfg := c }

/-- R427: the logic of parcel p. -/
def inParcel (p region : Nat) : Bool := parcelOf region == some p

/-- R430, R432: the cells of parcel p of field n give way to those of an image (none: its frames are cleared), with flip-flops at INIT. -/
def State.swapFab (s : State) (n p : Nat) (c : FabCfg) : State :=
  let f := s.fab n
  let gone := (f.cfg.blks.filter fun b => inParcel p b.region).map fun b => b.blk
  let macs := (f.cfg.macs.filter fun m => inParcel p m.region).map fun m => m.mac
  s.setFab n { f with
    cfg := { f.cfg with
      blks := (f.cfg.blks.filter fun b => !inParcel p b.region) ++ (c.blks.filter fun b => inParcel p b.region)
      macs := (f.cfg.macs.filter fun b => !inParcel p b.region) ++ (c.macs.filter fun b => inParcel p b.region)
      usrOut := (f.cfg.usrOut.filter fun b => !inParcel p b.region) ++ (c.usrOut.filter fun b => inParcel p b.region) }
    ffs := f.ffs.filter fun e => !gone.contains (e.1 / 16)
    rams := f.rams.filter fun e => !gone.contains (e.1 / 8)
    macs := f.macs.filter fun e => !macs.contains e.1 }

/-- R428: as the gates of parcel p of field n engage, hold-last gates take the values that their signals have. -/
def State.engage (s : State) (n p : Nat) : State :=
  let f := s.fab n
  let held := (List.range f.cfg.gates.length).foldl (fun m k =>
    match f.cfg.gates[k]? with
    | some g => if g.parcel = p ∧ g.leaves ∧ g.dflt = 2 then Store.put k (s.sig n f g.net) m else m
    | none => m) f.held
  s.setFab n { f with held := held }

/-- R322: a write of user register i of field n waits for the clock in which fabric reads it. -/
def State.usrWritten (s : State) (n i : Nat) : State :=
  match Store.find n s.fabs with
  | some f => s.setFab n { f with usrPend := setBit f.usrPend i }
  | none => s

end Sys2Proof.Machine
end

