-- ==== Sys2Proof/Machine/FurCode.lean ====
section
/-! DEFINITION. The pattern instructions of a Furrow sequencer (spec/05_furrow.md R138-R143): their encodings and the checks
of a program and its descriptors. -/
namespace Sys2Proof.Machine

/-- R142: are all reserved bits of an instruction word 0? used: the fields, each with its lowest bit and width. -/
def furReserved (w : Nat) (fields : List (Nat × Nat)) : Bool :=
  (List.range 58).all fun b => !bitOf w b || fields.any fun e => decide (e.1 ≤ b ∧ b < e.1 + e.2)

/-- R142, R143: the instruction that a word encodes; none where it is BAD_INSTR. -/
def decodeFur (w : Nat) : Option FurInstr :=
  match bitsOf w 58 6 with
  | 0x00 => if furReserved w [] then some .nop else none
  | 0x01 =>
    if furReserved w [(54, 4), (53, 1), (52, 1), (24, 24), (0, 24)] ∧ bitsOf w 0 24 ≠ 0 then
      some (.send (bitsOf w 54 4) (bitOf w 53) (bitOf w 52) (bitsOf w 24 24) (bitsOf w 0 24)) else none
  | 0x02 => if furReserved w [(0, 32)] then some (.repeat_ (bitsOf w 0 32)) else none
  | 0x03 => if furReserved w [(57, 1), (0, 48)] then some (.waitTime (bitOf w 57) (bitsOf w 0 48)) else none
  | 0x04 =>
    if furReserved w [(50, 6), (32, 10), (0, 32)] then some (.waitFloat (bitsOf w 50 6) (bitsOf w 32 10) (bitsOf w 0 32)) else none
  | 0x05 => if furReserved w [(32, 10)] then some (.jump (bitsOf w 32 10)) else none
  | 0x06 => if furReserved w [(56, 2), (32, 10), (0, 32)] then some (.loop (bitsOf w 56 2) (bitsOf w 32 10) (bitsOf w 0 32)) else none
  | 0x07 =>
    if furReserved w [(56, 2), (55, 1), (54, 1), (51, 3), (50, 1), (32, 16), (0, 32)] then
      some (.insertCounter (bitsOf w 56 2) (bitOf w 55) (bitOf w 54) (bitsOf w 51 3) (bitOf w 50) (bitsOf w 32 16) (bitsOf w 0 32)) else none
  | 0x08 =>
    if furReserved w [(57, 1), (48, 4), (32, 16)] ∧ bitsOf w 48 4 ≤ 2 then
      some (.insertTs (bitOf w 57) (bitsOf w 48 4) (bitsOf w 32 16)) else none
  | 0x09 => if furReserved w [(56, 2)] ∧ bitsOf w 56 2 ≠ 3 then some (.fcs (bitsOf w 56 2)) else none
  | 0x0A =>
    let kind := bitsOf w 55 3
    let i : FurInstr := .inject kind (bitsOf w 24 24) (bitsOf w 16 8) (bitsOf w 0 3) (bitsOf w 0 6)
    if kind = 3 then if furReserved w [(55, 3), (24, 24), (0, 6)] then some i else none
    else if kind < 3 ∧ furReserved w [(55, 3), (24, 24), (16, 8), (0, 3)] ∧ (kind = 2 ∨ bitsOf w 16 8 ≠ 0) then some i
    else none
  | 0x3F => if furReserved w [] then some .halt else none
  | _ => none

/-- The program of a sequencer, decoded. -/
def State.furProg (s : State) (l : Nat) : List FurInstr := (s.fur l).prog.filterMap decodeFur

/-- R139: BAD_INSTR: a word without an instruction, or a REPEAT before anything but SEND and WAIT-TIME (DESIGN CHOICE,
log entry 20). -/
def furBadInstr : List Nat → Bool
  | [] => false
  | w :: t =>
    match decodeFur w with
    | none => true
    | some (.repeat_ _) =>
      (match t with
       | [] => false
       | v :: _ =>
         match decodeFur v with
         | some (.send ..) => false
         | some (.waitTime ..) => false
         | _ => true) || furBadInstr t
    | some _ => furBadInstr t

/-- R139: BAD_TARGET. -/
def FurInstr.badTarget (plen : Nat) : FurInstr → Bool
  | .jump t => decide (plen ≤ t)
  | .loop _ t _ => decide (plen ≤ t)
  | .waitFloat _ t _ => decide (plen ≤ t)
  | _ => false

/-- R140: base and length of a descriptor. -/
def State.descBase (s : State) (l d : Nat) : Nat := s.get2 FUR.DESC_BASE_LO FUR.DESC_BASE_HI l d
def State.descLen (s : State) (l d : Nat) : Nat := s.get2 FUR.DESC_LEN_LO FUR.DESC_LEN_HI l d

/-- R140: does a descriptor keep the limits of its kind? -/
def State.descOk (s : State) (l d : Nat) : Bool :=
  let a := s.descBase l d
  let n := s.descLen l d
  let inside (base size : Nat) : Bool := decide (base ≤ a ∧ a + n ≤ base + size)
  n != 0 &&
  match s.get FUR.DESC_KIND l d with
  | 0 => inside 0 0x002400000000
  | 1 => inside (0x006000000000 + fieldOf l * 0x4000000) 0x2000000
  | 2 => inside (0x004000000000 + fieldOf l * 0x4000000) 0x1000000
  | _ => true

/-- R139, R141: BAD_DESC for one instruction. -/
def State.furBadDesc (s : State) (l : Nat) : FurInstr → Bool
  | .send d _ cur off _ => !s.descOk l d || (!cur && decide (s.descLen l d ≤ off))
  | _ => false

/-- Does a SEND of the program name a descriptor of a kind? -/
def State.furNames (s : State) (l kind : Nat) : Bool :=
  (s.furProg l).any fun i => match i with
    | .send d _ _ _ _ => s.get FUR.DESC_KIND l d == kind
    | _ => false

/-- R138, R139: the checks of a program at LOAD: the code of ERR, 0 for none (DESIGN CHOICE, log entry 20). -/
def State.furCheckLoad (s : State) (l : Nat) : Nat :=
  let p := (s.fur l).prog
  if furBadInstr p then 1
  else if (s.furProg l).any (FurInstr.badTarget p.length) then 2
  else if (s.furProg l).any (s.furBadDesc l) then 3
  else if s.furNames l 1 && !s.bit GLB.AVAIL_QDRUP (fieldOf l) then 4
  else 0

end Sys2Proof.Machine
end

