-- ==== Sys2Proof/Machine/Qdr.lean ====
section
/-! DEFINITION. The QDR ports (spec/10_qdr.md) and the fabric's own registers, floats and clocks (spec/12_fabric.md
R306-R307, R316, R322, R323). -/
namespace Sys2Proof.Machine

/-! QDR ports (R256-R268). -/

/-- R280: the automatic INIT of a field may have ended with its QDR port out of the count. -/
def State.initSettle (s : State) (n : Nat) : State :=
  if s.flag DRF.CTRL_AUTOINIT n && (Store.find (1 + n) s.autoInit).isNone && (Store.find (9 + n) s.autoInit).isNone && s.serves n then
    s.raise DRF.STAT_INITDONE n
  else s

/-- R257, R266, R280: the port of field n is READY, at the clock of FREQ: its regions are UNCHECKED, and the automatic INIT of them starts. -/
def State.qdrReady (s : State) (n : Nat) : State :=
  let s := s.setQdr n false { s.qdr n false with freq := s.get QDR.CFG_FREQ n }
  let s := ((s.set QDR.STAT_STATE 2 n).setBitOf GLB.AVAIL_QDRUP n).uncheck (8192 + 32 * n) 32
  if s.flag DRF.CTRL_AUTOINIT n then s.autoNext (9 + n) (8192 + 32 * n) 33 else s

/-- R266, R267: training ends: fail is 0 for READY, else the code of FAIL; res is what QDR_TRES shows. -/
def execQdrTrainDone (n : FieldId) (fail : Fin 6) (res : Word) (s : State) : Result :=
  .next (if s.get QDR.STAT_STATE n = 1 then
    let s := ((((s.set QDR.STAT_FAIL fail n).set QDR.TRES_RXEYEA (bitsOf res.toNat 0 8) n).set QDR.TRES_TXEYEA (bitsOf res.toNat 8 8) n).set
      QDR.TRES_RXEYEB (bitsOf res.toNat 16 8) n).set QDR.TRES_TXEYEB (bitsOf res.toNat 24 8) n
    if fail.val = 0 then s.qdrReady n else (s.set QDR.STAT_STATE 3 n).initSettle n
  else s)

/-- R287: the range pass of field n, where it runs over memory MEM, is lost. -/
def State.loseFieldRange (s : State) (n mem : Nat) : State :=
  match Store.find (1 + n) s.ranges with
  | some p => if p.mem = mem then s.loseRange (1 + n) else s
  | none => s

/-- R268: the port of field n freezes (DESIGN CHOICE, log entry 27). -/
def State.qdrFreeze (s : State) (n port op client addr : Nat) : State :=
  let s := if s.flag QDR.FRZ_VALID n then s
    else (((((s.set QDR.FRZ_PORT port n).set QDR.FRZ_OP op n).set QDR.FRZ_CLIENT client n).set QDR.FRZ_ADDR addr n).raise QDR.FRZ_VALID n).setStamp
      ⟨QDR.FRZ_TS_FRAC, QDR.FRZ_TS_NS, QDR.FRZ_TS_SECLO, QDR.FRZ_TS_SECHI⟩ s.now n
  let s := ((s.set QDR.STAT_STATE 4 n).clearBitOf GLB.AVAIL_QDRUP n).loseFieldRange n 1
  let s := { s with autoInit := Store.drop (9 + n) s.autoInit }
  let s := (lanesOf n).foldl (fun s l => if s.furNames l 1 then s.furFault l 9 else s) s
  (s.initSettle n).retryWaiting

/-- R268: the device reports an address parity error on an access of a client. -/
def execQdrFreeze (n : FieldId) (portB write : Bool) (client : Fin 3) (addr : Fin 4194304) (s : State) : Result :=
  .next (if s.get QDR.STAT_STATE n = 2 then s.qdrFreeze n portB.toNat write.toNat client addr else s)

/-- A source of field n without a source ID, as an error log shows it (R182). -/
def State.nameless (s : State) (n : Nat) : Nat := n * 256 + s.openValue .portSource % 256

/-- R314: a request on user port FA, or FB where portB holds: for the word at addr, with the data of a write; ready: the other clients that are ready
on its device port, cycle by cycle. -/
def State.qdrUser (s : State) (n : Nat) (portB we : Bool) (addr data : Nat) (ready : List (List (Fin 3))) : State :=
  if s.get QDR.STAT_STATE n ≠ 2 then s.answer (if we then .ok else .poison)
  else
    let a := qdrBase + n * 0x4000000 + 8 * addr
    let src := s.nameless n
    let s := s.used
    let r := if we then let t := s.writeMem src none none a ((bytesLE 8 data).map some) false 1; (t.1, t.2, []) else s.readMem src none a 8 false 1
    if r.2.1 = .waits then s.answer .waits
    else { r.1.qdrAccess n portB 1 we ready with resp := { st := r.2.1, data := if r.2.1 = .poison then bytesLE 8 0 else r.2.2 } }

/-- R264: port B's access is held for one cycle. -/
def State.holdB (s : State) (n : Nat) : State := s.setQdr n true { s.qdr n true with busy := (s.qdr n true).busy + 1 }

/-- R264, R314: both user ports access in one cycle: of two accesses to one word port A's is performed first, and port B's is held for one cycle and keeps its grant. The
answer of the port that portB names is the command's, the other's goes out beside it. -/
def State.qdrBoth (s : State) (n : Nat) (portB : Bool) (a b : QdrAcc) (ra rb : List (List (Fin 3))) : State :=
  let s := s.qdrUser n false a.we a.addr a.data.toNat ra
  let x := s.resp
  let s := s.qdrUser n true b.we b.addr b.data.toNat rb
  let s := if a.addr = b.addr then s.holdB n else s
  if portB then s.emit (.qdrUser n false x.st x.data) else ({ s with resp := x } : State).emit (.qdrUser n true s.resp.st s.resp.data)

/-- R264, R314: a request on a user port, alone or with one on the other user port in the same cycle; a port that takes no request (R422, R428) issues
none. -/
def execQdrUserRequest (n : FieldId) (portB we : Bool) (addr : Fin 4194304) (data : BitVec 64) (ready : List (List (Fin 3))) (other : Option QdrAcc)
    (s : State) : Result :=
  .next (if s.fabricOpen n (16 + portB.toNat) then
    match other.filter fun _ => s.fabricOpen n (16 + (!portB).toNat) with
    | some x => if portB then s.qdrBoth n true x ⟨we, addr, data⟩ [] ready else s.qdrBoth n false ⟨we, addr, data⟩ x ready []
    | none => s.qdrUser n portB we addr data.toNat ready
  else s)

/-! Fabric (R306, R307, R316, R322, R323). -/

/-- R316: a rising edge on fabric float output j of field n. -/
def execFabricFloatOut (n : FieldId) (j : Fin 8) (s : State) : Result :=
  .next (s.floatOutput n j)

/-- R322: a write of the word v to FLD_USRIN[i]. -/
def State.writeUsrIn (s : State) (n i v : Nat) : State := ((s.set FLD.USRIN v n i).usrWritten n i).emit (.usrIn n i v)

/-- R322: a host write to FLD_USRIN[i]. -/
def execUserRegIn (n : FieldId) (i : Fin 16) (v : Word) (s : State) : Result :=
  .next (s.access .FLD n fun s => s.writeUsrIn n i v.toNat)

/-- R323: a fabric write to FLD_USROUT[i] from logic in parcel p (12: the static region); under reconfiguration the register holds. -/
def execUserRegOut (n : FieldId) (i : Fin 16) (v : Word) (p : Fin 13) (s : State) : Result :=
  .next (if p.val < 12 ∧ s.gated n p then s else s.set FLD.USROUT v.toNat n i)

/-- R306: FPLL i of field n loses lock. -/
def execFabricPllUnlock (n : FieldId) (i : Fin 6) (s : State) : Result :=
  .next (if s.bit FLD.PLL_LOCK i n then
    ((s.clearBitOf FLD.PLL_LOCK i n).setBitOf FLD.PLL_UNLK i n).raise FLD.STAT_PLLUNLK n else s)

/-- R307: WCLK is lost in field n. -/
def execWclkLoss (n : FieldId) (s : State) : Result :=
  .next (if s.flag FLD.STAT_WCLKLOCK n then ((s.lower FLD.STAT_WCLKLOCK n).raise FLD.STAT_WCLKLOST n).wires else s)

/-- R307: WCLK is present and aligned again in field n. -/
def execWclkRestored (n : FieldId) (s : State) : Result :=
  .next (if s.flag FLD.STAT_WCLKLOCK n then s else (s.raise FLD.STAT_WCLKLOCK n).wires)

end Sys2Proof.Machine
end

