-- ==== Sys2Proof/Machine/Reservoir.lean ====
section
/-! DEFINITION. Basin blocks and reservoirs (spec/13_basins_reservoirs.md): the two ports of a basin block, and the master
ports of a reservoir with their requests, merged writes, reservations and regions. -/
namespace Sys2Proof.Machine

/-! Basin blocks (R325-R331). -/

/-- R325: first lane of an access: 32 times the row, plus the lane in it. -/
def basinLane (k a : Nat) : Nat := a / 2 ^ (5 - k) % 1024 * 32 + 2 ^ k * (a % 2 ^ (5 - k))

/-- The lanes of an access as they stand. -/
def BasinSt.lanes (b : BasinSt) (k a : Nat) : List Nat := (List.range (2 ^ k)).map fun i => Store.get 0 (basinLane k a + i) b.cells

/-- R330: the eight lanes of a codeword that carries a data word. -/
def codeLanes (data : Nat) : List Nat :=
  let c := checkOf 1 data
  (List.range 8).map fun i => bitsOf data (8 * i) 8 + (if bitOf c i then 256 else 0)

/-- R325, R330: the writes that a port makes: lane and value. In Code L an enable covers a codeword, and the check bits are
those of its data. -/
def BasinSt.writes (b : BasinSt) (k : Nat) (p : BasinPort) : List (Nat × Nat) :=
  if p.we then
    (List.range (2 ^ k)).filterMap fun i =>
      let v := if b.codeL then (codeLanes (natLE ((List.range 8).map fun j => BitVec.ofNat 8 (p.data.getD (8 * (i / 8) + j) 0)))).getD (i % 8) 0
        else p.data.getD i 0 % 512
      if bitOf p.en (if b.codeL then i / 8 else i) then some (basinLane k p.addr + i, v) else none
  else []

/-- R330: the lanes of a read under Code L, eight to a codeword, corrected where they can be, with SBE and DBE. -/
def decodeLanes : Nat → List Nat → List Nat × Bool × Bool
  | 0, _ => ([], false, false)
  | n + 1, l =>
    let g := l.take 8
    let data := natLE (g.map fun v => BitVec.ofNat 8 v)
    let chk := (List.range 8).foldl (fun c i => if bitOf (g.getD i 0) 8 then setBit c i else c) 0
    let r := decodeWord 1 data (chk ^^^ checkOf 1 data)
    let t := decodeLanes n (l.drop 8)
    match r.1 with
    | .clean => (g ++ t.1, t.2)
    | .correctable => (codeLanes r.2 ++ t.1, true, t.2.2)
    | _ => (g ++ t.1, t.2.1, true)

/-- R326, R327, R330: the read output of a port: the value before the cycle, save for the lanes that the port itself writes
in WRITE_FIRST; NO_CHANGE keeps the last one in a write cycle (DESIGN CHOICE, log entry 27). -/
def BasinSt.output (b : BasinSt) (k mode : Nat) (last : List Nat) (p : BasinPort) (after : List (Nat × Nat)) : List Nat × Bool × Bool :=
  let own := (b.writes k p).map (·.1)
  if p.we ∧ mode = 2 then (last, false, false)
  else
    let base := basinLane k p.addr
    let v := (b.lanes k p.addr).zipIdx.map fun e =>
      if p.we ∧ mode = 0 ∧ (base + e.2) ∈ own then Store.get 0 (base + e.2) after else e.1
    if b.codeL then decodeLanes (2 ^ k / 8) v else (v, false, false)

/-- R328: COLL: a lane, or in Code L a codeword, enabled at both ports with different data. -/
def basinColl (codeL : Bool) (a b : List (Nat × Nat)) : Bool :=
  let unit (x : Nat) : Nat := if codeL then x / 8 else x
  b.any fun e => (a.any fun f => unit f.1 == unit e.1) && a.any fun f => f.1 == e.1 && f.2 != e.2

/-- R325: what stands at a port in a cycle of its clock: this access, or with its output register the one before. -/
def basinSlot (reg : Bool) (held now : Option (List Nat × Bool × Bool × Bool)) : Option (List Nat × Bool × Bool × Bool) :=
  if reg then now.bind fun _ => held else now

/-- The outputs of port A or B of block k in a read-latency slot. -/
def State.basinOut (s : State) (k : Nat) (portB : Bool) : Option (List Nat × Bool × Bool × Bool) → State
  | some o => s.emit (.basin k portB o.1 o.2.1 o.2.2.1 o.2.2.2)
  | none => s

/-- R325-R331: one cycle of a basin block: the accesses of its ports, none for an idle port. Engaged check gates hold the
write enables at 0. -/
def State.basinCycle (s : State) (k : Nat) (gated : Bool) (a b : Option BasinPort) : State :=
  let x := Store.get {} k s.basins
  let hold (p : BasinPort) : BasinPort := if gated then { p with en := 0 } else p
  let a := a.map hold
  let b := b.map hold
  let wa := (a.map (x.writes x.kA)).getD []
  let wb := (b.map (x.writes x.kB)).getD []
  let cells := wa.foldl (fun m e => Store.set 0 e.1 e.2 m) (wb.foldl (fun m e => Store.set 0 e.1 e.2 m) x.cells)
  let oa := a.map fun p => x.output x.kA x.modeA x.outA p cells
  let ob := b.map fun p => x.output x.kB x.modeB x.outB p cells
  let na := oa.map fun o => (o.1, o.2.1, o.2.2, false)
  let nb := ob.map fun o => (o.1, o.2.1, o.2.2, basinColl x.codeL wa wb)
  let x' := { x with
    cells := cells
    outA := (oa.map (·.1)).getD x.outA
    outB := (ob.map (·.1)).getD x.outB
    heldA := if x.regA ∧ na.isSome then na else x.heldA
    heldB := if x.regB ∧ nb.isSome then nb else x.heldB }
  let s := ({ s with basins := Store.set {} k x' s.basins }).basinOut k false (basinSlot x.regA x.heldA na)
  s.basinOut k true (basinSlot x.regB x.heldB nb)

/-- R295, R427: the parcel of a clock region 4 y + x; row 0 is static. -/
def regionGated (s : State) (n r : Nat) : Bool := decide (4 ≤ r) && s.gated n (r - 4)

/-- R325, R422, R430: accesses of one cycle to block i of clock region r of field n, none while no clock of the region runs;
before WEN fabric writes nothing. -/
def execBasinAccess (n : FieldId) (r : Fin 16) (i : Fin 84) (a b : Option BasinPort) (s : State) : Result :=
  .next (if s.stepRun n 0 ∧ s.clocksRun n r then
    s.basinCycle (1344 * n.val + 84 * r.val + i.val) (regionGated s n r || !s.bit FCC.STEP_DONE 3 n) a b
  else s)

/-! Reservoirs (R332-R345). -/

/-- R334: the number of a master port, and of the holder of a reservation on it (R341). -/
def rsvNum : RsvPort → Nat
  | .lane _ => 0
  | .canal _ => 1
  | .ril c _ => 2 + c.val / 2
  | .fab f => 4 + f.val
def rsvHolder (i : Nat) : RsvPort → Option Nat
  | .ril c e => some (32 * (i / 4) + 8 * c.val + e.val)
  | .fab f => some (256 + 4 * i + f.val)
  | _ => none

/-- The source ID that a log shows for a port. -/
def State.rsvSrc (s : State) (i : Nat) : RsvPort → Nat
  | .lane k => i / 4 * 256 + 0x10 + k.val
  | .canal src => src.val
  | .ril c e => i / 4 * 256 + 0x20 + 8 * c.val + e.val
  | .fab _ => s.nameless (i / 4)

/-- The port by which an access is checked: none for Canal (R343). -/
def rsvDirect (p : RsvPort) : Option Nat :=
  match p with
  | .canal _ => none
  | p => some (rsvNum p)

/-- s with the last response of another state: an access that the part makes itself shows none. -/
def State.keepResp (s old : State) : State := { s with resp := old.resp }

/-- A byte offset within one reservoir (R31). -/
def rsvOfs (x : Nat) : Fin 4194304 := ⟨x % 4194304, Nat.mod_lt _ (by decide)⟩

/-- R31: DPA of byte offset x of reservoir i. -/
def rsvAddr (i x : Nat) : Nat := rsvBase + i / 4 * 0x4000000 + i % 4 * 0x400000 + x

/-- R335, R337: may a request of len bytes at offset x be presented: within one aligned 64 bytes, or one access of up to 8
bytes that stays in a word unless the port rotates? (DESIGN CHOICE, log entry 27). -/
def State.rsvShape (s : State) (i p x len : Nat) : Bool :=
  decide (1 ≤ len ∧ x + len ≤ 0x400000) &&
  (if len ≤ 8 then decide (x % 8 + len ≤ 8) || decide (p ≤ 1) || s.flag RSV.PCFG_ROT i p
   else decide (x % 64 + len ≤ 64))

/-- R342, R344: the response on a direct port to a status, with its cause: 1 REFUSED, 2 REGION, 3 alignment. -/
def State.rsvAnswer (s : State) (p : RsvPort) (st : RStat) (cause : Nat) (data : List Byte) : State :=
  match p with
  | .canal _ => { s with resp := { st := st, data := data } }
  | _ => { s with resp := { st := if st = .refused then .err else st, data := data, code := cause } }

/-- R332: the bank of a word. -/
def rsvBank (w : Nat) : Nat := w % 16 ^^^ w / 16 % 16
def busyBank (r : RsvBusy) : Nat := rsvBank r.word

/-- R335, R337: what bank b grants of the pending word accesses: of each port the first to the bank, that of the
lowest-numbered port, and with it the others that read, or write, the same word. -/
def bankGrant (pend : List RsvBusy) (b : Nat) : List RsvBusy :=
  let c := (List.range 8).filterMap fun p => pend.find? fun r => r.port.val == p && busyBank r == b
  match c with
  | [] => []
  | w :: t => w :: t.filter fun r => r.word == w.word && !r.amo && !w.amo && (r.en == 0) == (w.en == 0)

/-- R332, R338: does an operation take two cycles of its bank: an atomic one, or a partial write in a checked region? -/
def bankTwo (checked : Nat → Bool) (g : List RsvBusy) : Bool :=
  let en := g.foldl (fun e r => e ||| r.en) 0
  g.any fun r => r.amo || (checked r.word && en != 0 && en != 255)

/-- R335, R336: n cycles of the banks, of which held ones still work: the operations granted, in order, and for each stall
cycle the port that stalls. Each element of busy is newly presented in its cycle. -/
def bankRun (checked : Nat → Bool) : Nat → List (List RsvBusy) → List RsvBusy → List Nat → List (List RsvBusy) × List Nat
  | 0, _, _, _ => ([], [])
  | n + 1, busy, pend, held =>
    let pend := pend ++ busy.headD []
    let g := (((List.range 16).filter fun b => !held.contains b).map (bankGrant pend)).filter fun l => !l.isEmpty
    let left := pend.filter fun r => !(g.any fun l => l.contains r)
    let next := bankRun checked n busy.tail left ((g.filter (bankTwo checked)).filterMap fun l => l.head?.map busyBank)
    (g ++ next.1, ((List.range 8).filter fun p => left.any fun r => r.port.val == p) ++ next.2)

/-- R271: is word w of reservoir i in a region that carries a code? -/
def State.rsvChecked (s : State) (i w : Nat) : Bool :=
  match regionOf (rsvAddr i (8 * w)) with
  | some r => (s.regionGet r).1 != 0
  | none => false

/-- The banks of reservoir i until nothing of own and busy is pending. -/
def State.rsvBanks (s : State) (i : Nat) (own : List RsvBusy) (busy : List (List RsvBusy)) : List (List RsvBusy) × List Nat :=
  bankRun (s.rsvChecked i) (busy.length + 2 * (own.length + busy.flatten.length) + 1) busy own []

/-- The word accesses of a request of port p on len bytes at offset x, with the bytes of each that a write enables. -/
def rsvAccs (p x len : Nat) (en : Nat → BitVec 8) : List RsvBusy :=
  (List.range (wordSpan x (max 1 len))).map fun k =>
    ⟨⟨p % 8, Nat.mod_lt _ (by decide)⟩, ⟨(x / 8 + k) % 524288, Nat.mod_lt _ (by decide)⟩, en (x / 8 + k), false⟩

/-- R336: count the stall cycles of port p of reservoir i. -/
def State.rsvStalls (s : State) (i p : Nat) (stalls : List Nat) : State := s.count RSV.STALL (stalls.filter (· == p)).length i p

/-- R335, R336, R344: a read or a fetch of len bytes at offset x on a port, against what the other ports present; one that
is not performed takes no bank cycle. -/
def State.rsvRead (s : State) (i : Nat) (p : RsvPort) (x len : Nat) (busy : List (List RsvBusy)) (fetch : Bool) : State :=
  if s.rsvShape i (rsvNum p) x len = false then s.rsvAnswer p .err 3 []
  else
    let src := s.rsvSrc i p
    let t := s.used.readMem src (rsvDirect p) (rsvAddr i x) len fetch
    if t.2.1 = .waits then s.answer .waits
    else
      let s := if t.2.1 = .ok ∨ t.2.1 = .poison then
          t.1.rsvStalls i (rsvNum p) (s.rsvBanks i (rsvAccs (rsvNum p) x len fun _ => 0) busy).2
        else t.1
      s.rsvAnswer p t.2.1 (if t.2.1 = .refused then 2 else 0) (if t.2.1 = .poison then List.replicate len 0 else t.2.2)

/-- R157, R422, R428: does the port take a request of this master? -/
def State.rsvTakes (s : State) (i : Nat) (p : RsvPort) : Bool :=
  s.time.tclk && match p with
  | .fab f => s.fabricOpen (i / 4) (4 * (i % 4) + f)
  | _ => true

/-- R335: a read. -/
def execReservoirRead (i : RsvId) (p : RsvPort) (x : Fin 4194304) (len : Fin 64) (busy : List (List RsvBusy)) (s : State) : Result :=
  .next (if s.rsvTakes i p then s.rsvRead i p x (len + 1) busy false else s)

/-- R343: a read that a Rill or fabric port marks as an instruction fetch; Canal and port 0 never fetch, and read. -/
def execReservoirFetch (i : RsvId) (p : RsvPort) (x : Fin 4194304) (len : Fin 64) (busy : List (List RsvBusy)) (s : State) : Result :=
  .next (if s.rsvTakes i p then s.rsvRead i p x (len + 1) busy (decide (2 ≤ rsvNum p)) else s)

/-- The byte that a write enables at a byte offset of the reservoir. -/
def rsvByte (w : RsvWrite) (x : Nat) : Option Byte :=
  if w.off ≤ x then (w.bytes.getD (x - w.off) none) else none

/-- The words that a write enables a byte of. -/
def rsvWords (w : RsvWrite) : List Nat :=
  ((List.range (wordSpan w.off (max 1 w.bytes.length))).map fun k => w.off.val / 8 + k).filter fun k =>
    (List.range 8).any fun b => (rsvByte w (8 * k + b)).isSome

/-- The bytes of word k that a write enables. -/
def rsvEn (w : RsvWrite) (k : Nat) : BitVec 8 :=
  (List.range 8).foldl (fun e b => if (rsvByte w (8 * k + b)).isSome then e ||| BitVec.ofNat 8 (2 ^ b) else e) 0

/-- R338: the byte of a merged write: that of the lowest-numbered port; the list is in port order. -/
def mergedByte (l : List RsvWrite) (x : Nat) : Option Byte := l.findSome? fun w => rsvByte w x

/-- R344, R277, R343: what a write meets before the banks: none where it is performed. -/
def State.rsvStop (s : State) (i : Nat) (w : RsvWrite) : Option (RStat × Nat × State) :=
  if rsvNum w.port = 0 ∨ s.rsvShape i (rsvNum w.port) w.off w.bytes.length = false then some (.err, 3, s)
  else match s.reach (s.rsvSrc i w.port) (rsvDirect w.port) (rsvAddr i w.off) w.bytes.length 1 with
  | some (st, t) => some (st, if st = .refused then 2 else 0, t)
  | none => none

/-- R338: the response to a write on its port. -/
def State.rsvRespond (s : State) (i : Nat) (w : RsvWrite) (st : RStat) (cause : Nat) (wlost : Bool) : State :=
  let p := rsvNum w.port
  let s := if wlost then (s.count RSV.PCNT_WLOST 1 i p).raise RSV.STAT_WLOST i else s
  let s := s.rsvAnswer w.port st cause []
  s.emit (.portResp i p s.resp.st cause wlost)

/-- R338: one merged write of word k; the writer's own reservation outlives its write. Answers whether it was refused
(DESIGN CHOICE, log entry 27). -/
def State.rsvMerge (s : State) (i : Nat) (joined : List RsvWrite) (k : Nat) : State × Bool :=
  let holder := match joined with
    | [w] => rsvHolder i w.port
    | _ => none
  let src := match joined with
    | w :: _ => s.rsvSrc i w.port
    | [] => 0
  s.writeWord src holder (rsvAddr i (8 * k) / 8) ((List.range 8).map fun b => mergedByte joined (8 * k + b)) false

/-- R335, R338: the writes of which the banks grant a word together. -/
def joinedIn (good : List RsvWrite) (g : List RsvBusy) : List RsvWrite :=
  good.filter fun w => g.any fun r => r.port.val == rsvNum w.port && r.en != 0 && r.en == rsvEn w r.word

/-- R338: does a byte that a write enables come from another write of the group? -/
def bytesLost (joined : List RsvWrite) (w : RsvWrite) (k : Nat) : Bool :=
  (List.range 8).any fun b => (rsvByte w (8 * k + b)).isSome && rsvByte w (8 * k + b) != mergedByte joined (8 * k + b)

/-- R335, R338: the writes that the ports present in one cycle, in port order, against what other ports present; the words
take effect in the order in which the banks grant them. -/
def State.rsvWrites (s : State) (i : Nat) (l : List RsvWrite) (busy : List (List RsvBusy)) : State :=
  let good := l.filter fun w => (s.rsvStop i w).isNone
  let s := l.foldl (fun s w => match s.rsvStop i w with
    | some (st, c, t) => t.rsvRespond i w st c false
    | none => s) s
  let run := s.rsvBanks i (good.flatMap fun w => (rsvAccs (rsvNum w.port) w.off w.bytes.length (rsvEn w)).filter fun r => r.en != 0) busy
  let groups := run.1.filterMap fun g => g.head?.map fun r => (joinedIn good g, r.word.val)
  let groups := groups.filter fun g => !g.1.isEmpty
  let t := groups.foldl (fun t g => let r := t.1.rsvMerge i g.1 g.2; (r.1, if r.2 then g :: t.2 else t.2)) (s, [])
  good.foldl (fun s w =>
    let bad := t.2.any fun g => g.1.contains w
    let lost := decide (2 ≤ rsvNum w.port) && groups.any fun g => g.1.contains w && !(t.2.contains g) && bytesLost g.1 w g.2
    (s.rsvStalls i (rsvNum w.port) run.2).rsvRespond i w (if bad then .refused else .ok) (if bad then 1 else 0) lost) t.1

/-- R338: the writes presented in one cycle, at most one a port. -/
def execReservoirWrite (i : RsvId) (c : RsvCycle) (s : State) : Result :=
  .next (s.used.rsvWrites i ((List.range 8).filterMap fun p => c.writes.find? fun w => rsvNum w.port == p && s.rsvTakes i w.port) c.busy)

/-- R341: the bytes that LL and SC act on: word w whole, or its low or high half. -/
def halfOf (w : Nat) (h : Fin 3) : Nat × Nat := if h.val = 0 then (8 * w, 8) else if h.val = 1 then (8 * w, 4) else (8 * w + 4, 4)

/-- R341: LL; the ports of Furrow and Canal have none. -/
def State.rsvLl (s : State) (i : Nat) (p : RsvPort) (w : Nat) (h : Fin 3) (busy : List (List RsvBusy)) : State :=
  match rsvHolder i p with
  | none => s.rsvAnswer p .err 3 []
  | some k =>
    let s := s.rsvRead i p (halfOf w h).1 (halfOf w h).2 busy false
    if s.resp.st = .ok then { s with resv := Store.put k (rsvAddr i (8 * w) / 8 + 1) s.resv } else s

/-- R341: LL. -/
def execReservoirLl (i : RsvId) (p : RsvPort) (w : Fin 524288) (h : Fin 3) (busy : List (List RsvBusy)) (s : State) : Result :=
  .next (if s.rsvTakes i p then s.rsvLl i p w h busy else s)

/-- R341: SC: code 0 success, 1 failure (cause in resp.code + 16 where it is an ERR). -/
def State.rsvSc (s : State) (i : Nat) (p : RsvPort) (w : Nat) (h : Fin 3) (data : Nat) (busy : List (List RsvBusy)) : State :=
  match rsvHolder i p with
  | none => s.rsvAnswer p .err 3 []
  | some k =>
    let a := rsvAddr i (halfOf w h).1
    let len := (halfOf w h).2
    let src := s.rsvSrc i p
    let s := s.used
    match s.reach src (some (rsvNum p)) a len 1 with
    | some (.waits, _) => s.answer .waits
    | some (st, t) => t.rsvAnswer p st 2 []
    | none =>
      let held := Store.get 0 k s.resv == rsvAddr i (8 * w) / 8 + 1
      let run := s.rsvBanks i (rsvAccs (rsvNum p) (halfOf w h).1 len fun _ => if h.val = 0 then 255 else if h.val = 1 then 15 else 240) busy
      let s := ({ s with resv := Store.drop k s.resv }).rsvStalls i (rsvNum p) run.2
      if held then
        let t := s.writeMem src (some (rsvNum p)) none a ((bytesLE len data).map some)
        if t.2 = .ok then t.1.rsvAnswer p .ok 0 [] else (t.1.count RSV.PCNT_SCFAIL 1 i (rsvNum p)).rsvAnswer p t.2 1 []
      else (s.count RSV.PCNT_SCFAIL 1 i (rsvNum p)).rsvAnswer p .ok 1 []

/-- R341: SC. -/
def execReservoirSc (i : RsvId) (p : RsvPort) (w : Fin 524288) (h : Fin 3) (data : BitVec 64) (busy : List (List RsvBusy)) (s : State) : Result :=
  .next (if s.rsvTakes i p then s.rsvSc i p w h data.toNat busy else s)

/-- R345: LOCK. -/
def execReservoirLock (i : RsvId) (s : State) : Result :=
  .next (s.access .RSV (i / 4) fun s => s.raise RSV.CTRL_LOCK i)

end Sys2Proof.Machine
end

