-- ==== Sys2Proof/Machine/RillCode.lean ====
section
/-! DEFINITION. Rill instruction words (spec/15_rill_isa.md R369-R382): which are legal, which d registers they touch, and the
arithmetic of the compute instructions (spec/14_rill_engine.md R353-R360). -/
namespace Sys2Proof.Machine

/-- R369: the opcode of a word. -/
def rilOp (w : Nat) : Nat := bitsOf w 42 6

/-- R371: a move: KIND, D, K and MODE. -/
structure RilMove where
  kind : Nat
  d : Nat
  k : Nat
  mode : Nat

/-- R371: the X move (lo = 11) or the Y move (lo = 0) of a compute word. -/
def rilMove (w lo : Nat) : RilMove := ⟨bitsOf w (lo + 9) 2, bitsOf w (lo + 5) 4, bitsOf w (lo + 3) 2, bitsOf w lo 3⟩

/-- R370, R371: a move that the chapter defines. -/
def RilMove.ok (m : RilMove) : Bool := if m.kind = 0 then m.d == 0 && m.k == 0 && m.mode == 0 else decide (m.kind ≤ 2 ∧ m.mode ≤ 5)

/-- R376, R380: a base register pair. -/
def rilPair (sz r : Nat) : List Nat := if sz = 1 then [r, r + 1] else [r]

/-- The d registers that a compute word's operation writes. -/
def rilWrites (w : Nat) : List Nat :=
  match rilOp w with
  | 0x05 => [bitsOf w 36 4]
  | 0x06 => [bitsOf w 38 4]
  | 0x07 => [bitsOf w 38 4]
  | 0x08 => [bitsOf w 38 4, bitsOf w 34 4, bitsOf w 26 4]
  | 0x0A => [bitsOf w 38 4]
  | _ => []

/-- R370, R373: the operand fields of a compute word are defined. -/
def rilComputeOk (w : Nat) : Bool :=
  match rilOp w with
  | 0x00 => bitsOf w 22 20 == 0
  | 0x01 => bitsOf w 22 8 == 0
  | 0x02 => bitsOf w 22 8 == 0 && bitsOf w 31 1 == 0
  | 0x03 => bitsOf w 22 5 == 0 && bitsOf w 40 1 == 0
  | 0x04 =>
    let fn := bitsOf w 35 3
    decide (fn ≤ 4) && bitsOf w 22 4 == 0 && (decide (1 ≤ fn ∧ fn ≤ 3) || bitsOf w 38 2 == 0) && (fn == 4 || bitsOf w 26 9 == 0)
  | 0x05 => bitsOf w 34 2 != 3 && bitsOf w 22 2 == 0 && (if bitOf w 28 then bitsOf w 29 5 == 0 else bitsOf w 24 4 == 0)
  | 0x06 => bitsOf w 22 5 == 0 && (decide (bitsOf w 27 3 < 6) || bitsOf w 30 4 == 0)
  | 0x07 => bitsOf w 22 4 == 0
  | 0x08 => bitsOf w 22 4 == 0
  | 0x09 => bitsOf w 22 15 == 0
  | 0x0A => bitsOf w 22 11 == 0
  | _ => false

/-- R354, R370: no register is named twice. -/
def distinct : List Nat → Bool
  | [] => true
  | a :: t => !t.contains a && distinct t

/-- R370: a compute word is legal. -/
def rilCompute (w : Nat) : Bool :=
  let x := rilMove w 11
  let y := rilMove w 0
  rilComputeOk w && x.ok && y.ok &&
  distinct (rilWrites w ++ (if x.kind = 1 then [x.d] else []) ++ (if y.kind = 1 then [y.d] else []))

/-- R370, R376-R382: a control or memory word at a PC is legal. -/
def rilControl (w pc : Nat) : Bool :=
  let sz := bitsOf w 33 1
  let mem := bitsOf w 12 11 == 0 && bitsOf w 34 1 == 0 && (sz == 0 || bitsOf w 38 1 == 0)
  match rilOp w with
  | 0x20 => bitsOf w 32 6 == 0
  | 0x21 => bitsOf w 0 32 == 0
  | 0x22 => bitsOf w 11 30 == 0
  | 0x23 =>
    let c := bitsOf w 38 4
    decide (c ≤ 8) && bitsOf w 15 19 == 0 && (decide (1 ≤ c ∧ c ≤ 4) || bitsOf w 34 4 == 0)
  | 0x24 => bitsOf w 15 27 == 0
  | 0x25 => bitsOf w 0 38 == 0
  | 0x26 =>
    bitsOf w 32 4 == 0 && bitsOf w 15 1 == 0 && (bitOf w 40 || bitsOf w 36 4 == 0) && decide (pc + 1 ≤ bitsOf w 0 15 ∧ bitsOf w 0 15 < 0x4100)
  | 0x27 => bitsOf w 0 42 == 0
  | 0x28 => bitsOf w 0 42 == 0
  | 0x29 =>
    let b := bitsOf w 34 4
    mem && bitsOf w 23 7 == 0 && (!bitOf w 30 || (rilPair sz (bitsOf w 38 4)).all fun r => r != b && r != b + 1)
  | 0x2A => mem && bitsOf w 23 7 == 0
  | 0x2B => mem && bitsOf w 23 8 == 0
  | 0x2C => mem && bitsOf w 23 8 == 0
  | 0x2D => mem && !bitOf w 30 && (if bitsOf w 27 3 = 2 then sz == 0 || bitsOf w 23 1 == 0 else bitsOf w 23 4 == 0)
  | 0x2E => bitsOf w 31 2 == 0 && bitsOf w 12 18 == 0 && bitsOf w 34 1 == 0
  | 0x2F => bitsOf w 0 31 == 0 && bitsOf w 33 9 == 0
  | 0x30 => bitsOf w 0 42 == 0
  | _ => false

/-- R370: a word at a PC is legal. -/
def rilLegal (w pc : Nat) : Bool := if rilOp w ≤ 0x0A then rilCompute w else rilControl w pc

/-- R369: the word has an opcode of the table. -/
def rilKnown (w : Nat) : Bool := decide (rilOp w ≤ 0x0A) || decide (0x20 ≤ rilOp w ∧ rilOp w ≤ 0x30)

/-- R383: the d registers that a legal word reads or writes. -/
def rilRegs (w : Nat) : List Nat :=
  let a (lo : Nat) : Nat := bitsOf w lo 4
  let mv := ([rilMove w 11, rilMove w 0].filter fun m => m.kind != 0).map fun m => m.d
  let base := [a 34, a 34 + 1]
  let data := rilPair (bitsOf w 33 1) (a 38)
  match rilOp w with
  | 0x00 => mv
  | 0x01 => [a 36, a 32] ++ mv
  | 0x02 => [a 36, a 32] ++ mv
  | 0x03 => [a 36, a 32, a 28] ++ mv
  | 0x04 => (if bitsOf w 35 3 = 4 then [a 31] else []) ++ mv
  | 0x05 => [a 36] ++ (if bitOf w 28 then [a 24] else []) ++ mv
  | 0x06 => [a 38, a 34] ++ (if bitsOf w 27 3 < 6 then [a 30] else []) ++ mv
  | 0x07 => [a 38, a 34] ++ (if bitOf w 29 then [] else [a 30]) ++ mv
  | 0x08 => [a 38, a 34, a 30, a 26] ++ mv
  | 0x09 => [a 38] ++ mv
  | 0x0A => [a 38, a 34] ++ mv
  | 0x20 => [a 38]
  | 0x21 => [bitsOf w 37 5, bitsOf w 32 5].filter fun r => decide (r < 16)
  | 0x23 => if 1 ≤ a 38 ∧ a 38 ≤ 4 then [a 34] else []
  | 0x24 => [15]
  | 0x25 => [a 38]
  | 0x26 => if bitOf w 40 then [a 36] else []
  | 0x29 => data ++ base
  | 0x2A => data ++ base
  | 0x2B => data ++ base
  | 0x2C => data ++ base
  | 0x2D => data ++ base ++ (if bitsOf w 27 3 = 2 then rilPair (bitsOf w 33 1) (a 23) else [])
  | 0x2E => base
  | _ => []

/-! Interlocks (R386). -/

/-- R374: an accumulating operation. -/
def rilAccumulates (w : Nat) : Bool :=
  rilOp w == 0x01 || rilOp w == 0x02 || (rilOp w == 0x04 && (bitsOf w 35 3 == 2 || bitsOf w 35 3 == 3))

/-- R386: the d registers that a word reads in AG, one stage early: BR, JMPR, DO, and the base of a memory instruction. -/
def rilEarly (w : Nat) : List Nat :=
  match rilOp w with
  | 0x23 => if 1 ≤ bitsOf w 38 4 ∧ bitsOf w 38 4 ≤ 4 then [bitsOf w 34 4] else []
  | 0x25 => [bitsOf w 38 4]
  | 0x26 => if bitOf w 40 then [bitsOf w 36 4] else []
  | _ => if 0x29 ≤ rilOp w ∧ rilOp w ≤ 0x2E then [bitsOf w 34 4, bitsOf w 34 4 + 1] else []

/-- The d registers that a word reads later. -/
def rilReads (w : Nat) : List Nat :=
  let a (lo : Nat) : Nat := bitsOf w lo 4
  let mv := ([rilMove w 11, rilMove w 0].filter fun m => m.kind == 2).map fun m => m.d
  match rilOp w with
  | 0x00 => mv
  | 0x01 => [a 36, a 32] ++ mv
  | 0x02 => [a 36, a 32] ++ mv
  | 0x03 => [a 36, a 32, a 28] ++ mv
  | 0x04 => (if bitsOf w 35 3 = 4 then [a 31] else []) ++ mv
  | 0x05 => (if bitOf w 28 then [a 24] else []) ++ mv
  | 0x06 => [a 34] ++ (if bitsOf w 27 3 < 6 then [a 30] else []) ++ mv
  | 0x07 => [a 34] ++ (if bitOf w 29 then [] else [a 30]) ++ mv
  | 0x08 => [a 38, a 34, a 30, a 26] ++ mv
  | 0x09 => [a 38] ++ mv
  | 0x0A => [a 34] ++ mv
  | 0x21 => if bitsOf w 32 5 < 16 then [bitsOf w 32 5] else []
  | 0x2A => rilPair (bitsOf w 33 1) (a 38)
  | 0x2C => rilPair (bitsOf w 33 1) (a 38)
  | 0x2D => rilPair (bitsOf w 33 1) (a 38) ++ (if bitsOf w 27 3 = 2 then rilPair (bitsOf w 33 1) (a 23) else [])
  | _ => []

/-- The moves of a compute word, the memory of each (0 X, 1 Y) first. -/
def rilMoves (w : Nat) : List (Nat × RilMove) :=
  if rilOp w ≤ 0x0A then [(0, rilMove w 11), (1, rilMove w 0)].filter fun m => m.2.kind != 0 else []

/-- R386: the results of a legal word for which consumers are held; at: the word that each move addresses; bet: ST.BET. -/
def rilResults (w : Nat) (at_ : Nat × RilMove → Nat) (bet : Bool) : List RilRes :=
  let a (lo : Nat) : Nat := bitsOf w lo 4
  let acc := bitsOf w 40 2
  let mv := (rilMoves w).map fun m => if m.2.kind = 1 then RilRes.d 1 m.2.d else .word m.1 (at_ m)
  mv ++ (if rilAccumulates w then [.aov] else []) ++
  match rilOp w with
  | 0x01 => [.acc acc]
  | 0x02 => [.acc acc]
  | 0x03 => [.acc acc, .acc (acc + 1)]
  | 0x04 => [.acc acc]
  | 0x05 => [.d 3 (a 36), .sat] ++ (if bet then [.beAst] else [])
  | 0x06 => [.d 2 (a 38)]
  | 0x07 => [.d 2 (a 38)]
  | 0x08 => [.d 3 (a 38), .d 3 (a 34), .d 3 (a 26)]
  | 0x09 => [.bexp]
  | 0x0A => [.d 2 (a 38)]
  | 0x20 => [.d 2 (a 38)]
  | 0x21 =>
    let c := bitsOf w 37 5
    if c < 0x10 then [.d 2 c] else if c < 0x18 then [.ptr (c - 0x10)] else if c < 0x1C then [.modifier (c - 0x18)]
    else if c = 0x1E then [.st 0x7FF] else []
  | 0x22 => [.st (bitsOf w 0 11)]
  | _ => if (rilOp w = 0x29 ∨ rilOp w = 0x2A ∨ rilOp w = 0x2E) ∧ bitOf w 30 then [.d 2 (a 34), .d 2 (a 34 + 1)] else []

/-- R386: two results of one place: a consumer of it stands behind the later producer only. -/
def RilRes.same : RilRes → RilRes → Bool
  | .d _ i, .d _ j => i == j
  | a, b => a == b

/-- R386: the distance at which a word must stand behind the producer of a result; 0 where it does not consume it. -/
def rilDistance (w : Nat) (at_ : Nat × RilMove → Nat) (r : RilRes) : Nat :=
  let isMovr (c : Nat) : Bool := rilOp w == 0x21 && bitsOf w 32 5 == c
  let brOn (lo : Nat) : Bool := rilOp w == 0x23 && (bitsOf w 38 4 == lo || bitsOf w 38 4 == lo + 1)
  match r with
  | .d n i => if (rilEarly w).contains i then n + 1 else if (rilReads w).contains i then n else 0
  | .acc i =>
    if (rilOp w = 0x05 ∧ bitsOf w 40 2 = i) ∨ (rilOp w = 0x04 ∧ 1 ≤ bitsOf w 35 3 ∧ bitsOf w 35 3 ≤ 3 ∧ bitsOf w 38 2 = i) then 2 else 0
  | .ptr k => if (rilMoves w).any fun m => 4 * m.1 + m.2.k == k then 5 else 0
  | .modifier k => if (rilMoves w).any fun m => m.2.k == k && decide (3 ≤ m.2.mode) then 5 else 0
  | .st mask =>
    if (brOn 7 && bitOf mask 0) || (brOn 5 && bitOf mask 10) || (isMovr 0x1E && mask != 0) then 5
    else if (rilAccumulates w && bitOf mask 5) || (rilOp w == 0x05 && bitOf mask 8) || (rilOp w == 0x08 && bitOf mask 9) then 2
    else 0
  | .aov => if brOn 7 || isMovr 0x1E then 4 else 0
  | .sat => if isMovr 0x1E then 4 else 0
  | .bexp => if rilOp w = 0x0A then 2 else 0
  | .beAst => if rilOp w = 0x0A ∨ isMovr 0x1F then 3 else 0
  | .word mem v => if (rilMoves w).any fun m => m.1 == mem && m.2.kind == 1 && at_ m == v then 4 else 0

/-- R386: the cycles for which a word stalls behind the results of the last instructions. -/
def rilStall (w : Nat) (at_ : Nat × RilMove → Nat) (recent : List (RilRes × Nat)) : Nat :=
  recent.foldl (fun n r => max n (rilDistance w at_ r.1 - r.2)) 0

/-! Arithmetic. -/

/-- R352: the parts of a complex value. -/
def reOf (v : Nat) : Int := signedOf v 16
def imOf (v : Nat) : Int := signedOf (v / 2 ^ 16) 16
/-- A complex value from its parts, each modulo 2^16. -/
def complexOf (re im : Int) : Nat := patternOf re 16 + patternOf im 16 * 2 ^ 16

/-- R355: a complex product; conj: the second operand is conjugated. -/
def complexMul (a b : Nat) (conj : Bool) : Int × Int :=
  let bi := if conj then -imOf b else imOf b
  (reOf a * reOf b - imOf a * bi, reOf a * bi + imOf a * reOf b)

/-- The limits of an accumulator part (R356). -/
def accMax : Int := 2 ^ 47 - 1
def accMin : Int := -2 ^ 47

/-- Accumulator i of an engine, and its update. -/
def EngSt.accOf (e : EngSt) (i : Nat) : Int × Int := (Store.get 0 (2 * i) e.acc, Store.get 0 (2 * i + 1) e.acc)
def EngSt.setAcc (e : EngSt) (i : Nat) (v : Int × Int) : EngSt := { e with acc := Store.set 0 (2 * i + 1) v.2 (Store.set 0 (2 * i) v.1 e.acc) }

/-- A d register of an engine, and its update, cut to 32 bits. -/
def EngSt.reg (e : EngSt) (i : Nat) : Nat := Store.get 0 i e.d
def EngSt.setReg (e : EngSt) (i v : Nat) : EngSt := { e with d := Store.set 0 i (v % 2 ^ 32) e.d }

/-- R356, R357: an accumulating operation: acc i takes the exact result v, under ST. Answers the engine and ST (DEDUCED,
log entry 34). -/
def EngSt.accumulate (e : EngSt) (st i : Nat) (v : Int × Int) : EngSt × Nat :=
  if bitOf st (1 + i) then (e, st)
  else
    let past (x : Int) : Bool := decide (x < accMin ∨ accMax < x)
    if bitOf st 5 then
      (e.setAcc i (signedOf (patternOf v.1 48) 48, signedOf (patternOf v.2 48) 48), if past v.1 || past v.2 then setBit st 6 else st)
    else
      let cl (x : Int) : Int := max accMin (min accMax x)
      (e.setAcc i (cl v.1, cl v.2), if past v.1 || past v.2 then setBit (setBit st (1 + i)) 0 else st)

/-- R356: an accumulator written without accumulating, which clears its ACL bit. -/
def EngSt.loadAcc (e : EngSt) (st i : Nat) (v : Int × Int) : EngSt × Nat := (e.setAcc i v, clearBit st (1 + i))

/-- R358: a store of a part with a shift to W bits: the value, and whether it saturated. -/
def storePart (x : Int) (sh w : Nat) : Int × Bool :=
  let h : Int := if sh = 0 then 0 else 2 ^ (sh - 1)
  let y := (x + h).fdiv (2 ^ sh)
  let m : Int := 2 ^ (w - 1) - 1
  if m < y then (m, true) else if y < -m - 1 then (-m - 1, true) else (y, false)

/-- R359: redundant sign bits of an n-bit value. -/
def redundant (v n : Nat) : Nat :=
  let top := bitOf v (n - 1)
  ((List.range (n - 1)).takeWhile fun i => bitOf v (n - 2 - i) == top).length

/-- R359: rsb of a register as a real or a complex value. -/
def rsb (v : Nat) (real : Bool) : Nat := if real then redundant v 32 else min (redundant (v % 2 ^ 16) 16) (redundant (v / 2 ^ 16) 16)

/-- R374: the products that CMAC and DMAC add. -/
def dualMul (a b : Nat) : Int × Int := (reOf a * reOf b, imOf a * imOf b)

/-- A pair of integers added to or subtracted from another. -/
def addPair (a b : Int × Int) (sub : Bool) : Int × Int := if sub then (a.1 - b.1, a.2 - b.2) else (a.1 + b.1, a.2 + b.2)

/-- R375: CALU. -/
def caluOf (fn a b : Nat) : Nat :=
  match fn with
  | 0 => complexOf (reOf a + reOf b) (imOf a + imOf b)
  | 1 => complexOf (reOf a - reOf b) (imOf a - imOf b)
  | 2 => complexOf ((reOf a + reOf b).fdiv 2) ((imOf a + imOf b).fdiv 2)
  | 3 => complexOf ((reOf a - reOf b).fdiv 2) ((imOf a - imOf b).fdiv 2)
  | 4 => complexOf (reOf a) (reOf b)
  | 5 => complexOf (imOf a) (imOf b)
  | 6 => complexOf (reOf a) (-imOf a)
  | _ => complexOf (imOf a) (reOf a)

/-- R375: RALU; shifts use bits [4:0] of the second operand. -/
def raluOf (fn a b : Nat) : Nat :=
  match fn with
  | 0 => (a + b) % 2 ^ 32
  | 1 => (a + 2 ^ 32 - b) % 2 ^ 32
  | 2 => a &&& b
  | 3 => a ||| b
  | 4 => a ^^^ b
  | 5 => a * 2 ^ (b % 32) % 2 ^ 32
  | 6 => patternOf ((signedOf a 32).fdiv (2 ^ (b % 32))) 32
  | _ => a / 2 ^ (b % 32)

/-- R360: one butterfly: the lower and the upper output and their decision bits. -/
def acsFly (p q l : Int) (larger : Bool) : (Int × Nat) × (Int × Nat) :=
  let better (a b : Int) : Bool := let d := signedOf (patternOf (a - b) 16) 16; if larger then decide (0 < d) else decide (d < 0)
  let pick (a b : Int) : Int × Nat := if better b a then (b, 1) else (a, 0)
  (pick (p + l) (q - l), pick (p - l) (q + l))

/-- R359: SCALE. -/
def scaleOf (v be : Nat) (real : Bool) : Nat :=
  if real then v * 2 ^ be % 2 ^ 32
  else v % 2 ^ 16 * 2 ^ min be 15 % 2 ^ 16 + v / 2 ^ 16 * 2 ^ min be 15 % 2 ^ 16 * 2 ^ 16

/-- What a compute operation gives: accumulators, ST, BE, and the d registers written. -/
structure RilOut where
  eng : EngSt
  st : Nat
  be : Nat
  d : List (Nat × Nat)

/-- R374: a CMAC or DMAC of a product. -/
def rilMac (w : Nat) (e : EngSt) (st be : Nat) (p : Int × Int) : RilOut :=
  let i := bitsOf w 40 2
  let r := e.accumulate st i (addPair (e.accOf i) p (bitOf w 30))
  ⟨r.1, r.2, be, []⟩

/-- R374: BFLY. -/
def rilBfly (w : Nat) (e : EngSt) (st be : Nat) : RilOut :=
  let i := bitsOf w 40 2
  let a := e.reg (bitsOf w 36 4)
  let t := complexMul (e.reg (bitsOf w 28 4)) (e.reg (bitsOf w 32 4)) (bitOf w 27)
  let x : Int × Int := (reOf a * 2 ^ 15, imOf a * 2 ^ 15)
  let r := e.loadAcc st i (addPair x t false)
  let r := r.1.loadAcc r.2 (i + 1) (addPair x t true)
  ⟨r.1, r.2, be, []⟩

/-- R374: AOP. -/
def rilAop (w : Nat) (e : EngSt) (st be : Nat) : RilOut :=
  let i := bitsOf w 40 2
  let src := e.accOf (bitsOf w 38 2)
  let a := e.reg (bitsOf w 31 4)
  let sh : Int := 2 ^ bitsOf w 26 5
  let r := match bitsOf w 35 3 with
    | 0 => e.loadAcc st i (0, 0)
    | 1 => e.loadAcc st i src
    | 2 => e.accumulate st i (addPair (e.accOf i) src false)
    | 3 => e.accumulate st i (addPair (e.accOf i) src true)
    | _ => e.loadAcc st i (reOf a * sh, imOf a * sh)
  ⟨r.1, r.2, be, []⟩

/-- R358, R359, R374: AST. -/
def rilAst (w : Nat) (e : EngSt) (st be : Nat) : RilOut :=
  let x := e.accOf (bitsOf w 40 2)
  let form := bitsOf w 34 2
  let sh := if bitOf w 28 then e.reg (bitsOf w 24 4) % 32 else bitsOf w 29 5
  let re := storePart x.1 sh (if form = 0 then 16 else 32)
  let im := storePart x.2 sh (if form = 0 then 16 else 32)
  let v := if form = 0 then complexOf re.1 im.1 else patternOf (if form = 1 then re.1 else im.1) 32
  let sat := if form = 0 then re.2 || im.2 else if form = 1 then re.2 else im.2
  ⟨e, if sat then setBit st 7 else st, if bitOf st 8 then min be (rsb v (form != 0)) else be, [(bitsOf w 36 4, v)]⟩

/-- R360: ACS. -/
def rilAcs (w : Nat) (e : EngSt) (st be : Nat) : RilOut :=
  let s := e.reg (bitsOf w 38 4)
  let t := e.reg (bitsOf w 34 4)
  let l := e.reg (bitsOf w 30 4)
  let dd := bitsOf w 26 4
  let f0 := acsFly (reOf s) (imOf s) (reOf l) (bitOf st 9)
  let f1 := acsFly (reOf t) (imOf t) (imOf l) (bitOf st 9)
  let dec := f0.1.2 * 8 + f0.2.2 * 4 + f1.1.2 * 2 + f1.2.2
  ⟨e, st, be, [(bitsOf w 38 4, complexOf f0.1.1 f0.2.1), (bitsOf w 34 4, complexOf f1.1.1 f1.2.1), (dd, (e.reg dd * 16 + dec) % 2 ^ 32)]⟩

/-- R374: the operation of a legal compute word. -/
def rilComputeOp (w : Nat) (e : EngSt) (st be : Nat) : RilOut :=
  let a := e.reg (bitsOf w 36 4)
  let b := e.reg (bitsOf w 32 4)
  match rilOp w with
  | 0x01 => rilMac w e st be (complexMul a b (bitOf w 31))
  | 0x02 => rilMac w e st be (dualMul a b)
  | 0x03 => rilBfly w e st be
  | 0x04 => rilAop w e st be
  | 0x05 => rilAst w e st be
  | 0x06 => ⟨e, st, be, [(bitsOf w 38 4, caluOf (bitsOf w 27 3) (e.reg (bitsOf w 34 4)) (e.reg (bitsOf w 30 4)))]⟩
  | 0x07 => ⟨e, st, be, [(bitsOf w 38 4, raluOf (bitsOf w 26 3) (e.reg (bitsOf w 34 4)) (if bitOf w 29 then bitsOf w 30 4 else e.reg (bitsOf w 30 4)))]⟩
  | 0x08 => rilAcs w e st be
  | 0x09 => ⟨e, st, min be (rsb (e.reg (bitsOf w 38 4)) (bitOf w 37)), []⟩
  | 0x0A => ⟨e, st, be, [(bitsOf w 38 4, scaleOf (e.reg (bitsOf w 34 4)) be (bitOf w 33))]⟩
  | _ => ⟨e, st, be, []⟩

/-- R372: a 14-bit value reversed. -/
def rev14 (v : Nat) : Nat := (List.range 14).foldl (fun a i => if bitOf v i then a + 2 ^ (13 - i) else a) 0

/-- R371, R372: the word that a move addresses and the pointer afterwards. -/
def moveAddr (mode p m : Nat) : Nat × Nat :=
  let m := m % 2 ^ 14
  match mode with
  | 0 => (p, p)
  | 1 => (p, (p + 1) % 2 ^ 14)
  | 2 => (p, (p + 2 ^ 14 - 1) % 2 ^ 14)
  | 3 => (p, (p + m) % 2 ^ 14)
  | 4 => (p, rev14 ((rev14 p + rev14 m) % 2 ^ 14))
  | _ => ((p + m) % 2 ^ 14, p)

/-- R371: the word that a move of an engine addresses. -/
def EngSt.moveWord (e : EngSt) (m : Nat × RilMove) : Nat := (moveAddr m.2.mode (Store.get 0 (4 * m.1 + m.2.k) e.ptr) (Store.get 0 m.2.k e.m)).1

/-- R376, R380: the DPA of a memory instruction's base and offset, before alignment. -/
def rilAddr (w : Nat) (e : EngSt) : Nat :=
  let b := bitsOf w 34 4
  ((((e.reg b + e.reg (b + 1) % 2 ^ 16 * 2 ^ 32 : Nat) : Int) + signedOf w 12) % 2 ^ 48).toNat

/-- R380, R382: the base pair moved on by n bytes. -/
def EngSt.incBase (e : EngSt) (b n : Nat) : EngSt :=
  let v := (e.reg b + e.reg (b + 1) % 2 ^ 16 * 2 ^ 32 + n) % 2 ^ 48
  (e.setReg b v).setReg (b + 1) (v / 2 ^ 32)

end Sys2Proof.Machine
end

