-- ==== Sys2Proof/Machine/Rill.lean ====
section
/-! DEFINITION. Rill engines (spec/14_rill_engine.md, spec/15_rill_isa.md): states, faults, halts, moves, memory accesses as
they are issued, loops, and the issue of an instruction. -/
namespace Sys2Proof.Machine

/-! An engine g = 32 n + 8 c + e, its registers in RIL of cluster 4 n + c = g / 8, engine g % 8. -/

/-- The engine. -/
def State.eng (s : State) (g : Nat) : EngSt := Store.get {} g s.engs
def State.setEng (s : State) (g : Nat) (e : EngSt) : State := { s with engs := Store.set {} g e s.engs }

/-- A register of engine g in RIL. -/
def State.rget (s : State) (f : Field) (g : Nat) : Nat := s.get f (g / 8) (g % 8)
def State.rset (s : State) (f : Field) (v g : Nat) : State := s.set f v (g / 8) (g % 8)

/-- R182, R347: Canal source ID of an engine. -/
def rilSrc (g : Nat) : Nat := g / 32 * 256 + 0x20 + g % 32

/-- R348, R368: the state of an engine, with RUN and FAULT of RIL_CSTAT. -/
def State.setRilState (s : State) (g v : Nat) : State :=
  let s := s.rset RIL.ESTAT_STATE v g
  let s := if v = 1 then s.setBitOf RIL.CSTAT_RUN (g % 8) (g / 8) else s.clearBitOf RIL.CSTAT_RUN (g % 8) (g / 8)
  if v = 4 then s.setBitOf RIL.CSTAT_FAULT (g % 8) (g / 8) else s.clearBitOf RIL.CSTAT_FAULT (g % 8) (g / 8)

/-- R473: DBG_HSTAT follows an engine's halt status; that of a fenced field keeps its last value. -/
def State.setHstat (s : State) (g state cause du pc : Nat) : State :=
  if s.bit GLB.AVAIL_FFENCED (g / 32) then s
  else (((s.set DBG.HSTAT_STATE state g).set DBG.HSTAT_CAUSE cause g).set DBG.HSTAT_DU du g).set DBG.HSTAT_PC pc g

/-- The halt status reads 0 again where a halt was pending or held. -/
def State.clearHstat (s : State) (g : Nat) : State :=
  if s.bit GLB.AVAIL_FFENCED (g / 32) then s else s.set DBG.HSTAT_STATE 0 g

/-- R365, R384, R475: an engine faults: a halt that was due is discarded (DEDUCED, log entry 34). -/
def State.rilFault (s : State) (g cause pc faddr : Nat) : State :=
  let e := s.eng g
  let s := if e.halt.isSome then s.clearHstat g else s
  let s := s.setEng g { e with halt := none, draining := false, stepDue := false, wait := 0 }
  let s := ((s.rset RIL.ESTAT_CAUSE cause g).rset RIL.EPC pc g).setRilState g 4
  (s.rset RIL.FADDR_LO faddr g).rset RIL.FADDR_HI (faddr / 2 ^ 32) g

/-- R341: an engine holds a reservation. -/
def State.holdsResv (s : State) (g : Nat) : Bool := (Store.find g s.resv).isSome

/-- R474: a halt is deferred while a reservation is held or an AMO is outstanding. -/
def State.haltDeferred (s : State) (g : Nat) : Bool := s.holdsResv g || (s.eng g).outs.any fun a => a.kind == 4

/-- The words of DBG_HSTAT of engine g. -/
def State.hstat (s : State) (g : Nat) : Nat :=
  s.get DBG.HSTAT_STATE g + s.get DBG.HSTAT_CAUSE g * 2 ^ 2 + s.get DBG.HSTAT_DU g * 2 ^ 5 + s.get DBG.HSTAT_LOCKBROKEN g * 2 ^ 8 +
  s.get DBG.HSTAT_DEFERCYC g * 2 ^ 9 + s.get DBG.HSTAT_PC g * 2 ^ 16

/-- R473: an engine enters HALTED. -/
def State.enterHalted (s : State) (g : Nat) (h : Nat × Nat) : State :=
  let s := (s.setRilState g 3).setEng g { s.eng g with halt := none, draining := false, skip := false, recent := [] }
  let s := s.setHstat g 2 h.1 h.2 (s.rget RIL.EPC g)
  (s.trace (g / 32) 3 (g % 32) 0 4 (bytesLE 4 (s.hstat g))).wmEvent 0x8001 (bytesLE 2 g ++ bytesLE 4 (s.hstat g))

/-- R473: the engine stops issuing, and halts when what it has issued has completed (DEDUCED, log entry 35). -/
def State.drainHalt (s : State) (g : Nat) : State :=
  let e := s.eng g
  match e.halt with
  | some h => if e.draining && e.outs.isEmpty && e.blks.isEmpty then s.enterHalted g h else s
  | none => s

/-- R473, R474: a halt that is due is taken at this instruction boundary, unless it is deferred. -/
def State.tryHalt (s : State) (g : Nat) : State :=
  let e := s.eng g
  match e.halt with
  | some _ => if s.haltDeferred g then s.setHstat g 1 (s.get DBG.HSTAT_CAUSE g) (s.get DBG.HSTAT_DU g) (s.get DBG.HSTAT_PC g)
    else (s.setEng g { e with draining := true }).drainHalt g
  | none => s

/-- R473, R474: a halt of a running engine is requested; it merges with one that is due (DEDUCED, log entry 35). -/
def State.requestHalt (s : State) (g cause du : Nat) : State :=
  let e := s.eng g
  if e.halt.isSome then s
  else
    let s := if s.bit GLB.AVAIL_FFENCED (g / 32) then s else s.set DBG.HSTAT_DEFERCYC 0 g
    (s.setEng g { e with halt := some (cause, du), defer := 0 }).tryHalt g

/-- R474: a deferred halt is taken at once: the reservation is cleared and LOCKBROKEN set. -/
def State.breakLock (s : State) (g : Nat) : State :=
  match (s.eng g).halt with
  | some h =>
    let s := { s with resv := Store.drop g s.resv }
    let s := if s.bit GLB.AVAIL_FFENCED (g / 32) then s else s.raise DBG.HSTAT_LOCKBROKEN g
    s.enterHalted g h
  | none => s

/-- R367: the engine's watchdog takes RELOAD. -/
def State.rilReload (s : State) (g : Nat) : State :=
  (s.rset RIL.WDCNT (s.rget RIL.WDRL_RELOAD g) g).setEng g { s.eng g with wdSub := 0 }

/-- R348: an engine enters RUN at a PC. -/
def State.rilRun (s : State) (g pc : Nat) : State :=
  let s := s.setEng g { s.eng g with recent := [] }
  ((s.rset RIL.EPC pc g).setRilState g 1).rilReload g

/-- R347, R501: the Rill clock of cluster 4 n + c runs. -/
def State.wakeCluster (s : State) (k : Nat) : State :=
  if s.flag RIL.CSTAT_CLKOFF k then
    ((s.lower RIL.CSTAT_CLKOFF k).clearBitOf FPW.GATE_COFF (k % 4) (k / 4)).count FPW.WAKE_CWAKE 1 (k / 4)
  else s

/-- R352, R366: an engine's registers after ENR. -/
def State.rilClear (s : State) (g : Nat) : State :=
  let s := { (s.setEng g {}).clearHstat g with resv := Store.drop g s.resv }
  let s := ((s.setRilState g 0).rset RIL.ESTAT_CAUSE 0 g).rset RIL.EPC 0 g
  let s := ((s.rset RIL.EST 0 g).rset RIL.EBE 31 g).rset RIL.WDCNT 0 g
  let s := (s.rset RIL.CYC_LO 0 g).rset RIL.CYC_HI 0 g
  (s.rset RIL.FADDR_LO 0 g).rset RIL.FADDR_HI 0 g

/-- R366: nothing that the engine has issued is outstanding. -/
def State.rilQuiet (s : State) (g : Nat) : Bool := (s.eng g).outs.isEmpty && (s.eng g).blks.isEmpty

/-- R366: an ENR that waits ends where nothing is outstanding. -/
def State.rilResetEnd (s : State) (g : Nat) : State := if (s.eng g).resetting && s.rilQuiet g then s.rilClear g else s

/-- R366, R475: ENR; it discards a halt that is due (DEDUCED, log entry 34). -/
def State.rilReset (s : State) (g : Nat) : State :=
  if s.get RIL.ESTAT_WEDGED (g / 8) (g % 8) = 1 then s
  else (s.setEng g { s.eng g with resetting := true, halt := none, draining := false, stepDue := false }).clearHstat g

/-- R348: START (DEDUCED, log entry 34). -/
def State.rilStart (s : State) (g : Nat) : State :=
  let st := s.rget RIL.ESTAT_STATE g
  if (st = 0 ∨ st = 2) ∧ (s.eng g).resetting = false then (s.wakeCluster (g / 8)).rilRun g (s.rget RIL.ECTRL_ENTRY g)
  else s.rset RIL.ESTAT_CMDERR 1 g

/-- R19, R348, R366: a write of the word v to RIL_ECTRL of engine g. -/
def State.writeEctrl (s : State) (g v : Nat) : State :=
  let s := s.rset RIL.ECTRL_ENTRY (bitsOf v 16 15) g
  if bitOf v 0 && bitOf v 1 then s.rset RIL.ESTAT_CMDERR 1 g
  else if bitOf v 0 then s.rilStart g
  else if bitOf v 1 then s.rilReset g
  else s

/-! X and Y memories (R351). -/

/-- R31: DPA of 32-bit word w of the X (0) or Y (1) memory of an engine. -/
def xyAddr (g mem w : Nat) : Nat := rillBase + g / 32 * 0x1000000 + g % 32 * 0x20000 + mem * 0x10000 + 4 * w

/-- R354, R365: a move load: the word, and whether it is unusable. -/
def State.moveLoad (s : State) (g a : Nat) : State × Nat × Bool :=
  let t := s.readWords (rilSrc g) (a / 8) 1
  match t.2 with
  | some l => (t.1, natLE ((l.drop (a % 8)).take 4), false)
  | none => (t.1.eccCount (eccMemOf a) DRH.MC_RDUNC DRF.MC_RDUNC, 0, true)

/-- R351, R277: a move store: whether it was refused. -/
def State.moveStore (s : State) (g a v : Nat) : State × Bool :=
  s.writeWord (rilSrc g) none (a / 8) (List.replicate (a % 8) none ++ (bytesLE 4 v).map some ++ List.replicate (4 - a % 8) none) false

/-- What the two moves of an instruction did: the state, the d registers loaded, the first fault (cause and address), and
what a comparator sees: KIND of R471, word and data. -/
structure MoveOut where
  s : State
  d : List (Nat × Nat) := []
  fault : Option (Nat × Nat) := none
  seen : List (Nat × Nat × Nat) := []

/-- R371, R471: after the read of a load move at word p (DPA a) of X or Y: what it loaded into D register m, and its fault. -/
def MoveOut.loaded (o : MoveOut) (mem d p a : Nat) (r : State × Nat × Bool) : MoveOut :=
  { s := r.1, d := o.d ++ [(d, r.2.1)], seen := o.seen ++ [(1 + 2 * mem, p, r.2.1)]
    fault := match o.fault with
      | some f => if f.1 = 4 ∧ r.2.2 = true then some (3, a) else some f
      | none => if r.2.2 then some (3, a) else none }

/-- R371, R471: after the write of a store move of v at word p (DPA a) of X or Y. -/
def MoveOut.stored (o : MoveOut) (mem v p a : Nat) (r : State × Bool) : MoveOut :=
  { s := r.1, d := o.d, seen := o.seen ++ [(2 + 2 * mem, p, v)]
    fault := if o.fault.isSome then o.fault else if r.2 then some (4, a) else none }

/-- The P register k of an engine takes a value. -/
def State.setPtr (s : State) (g k v : Nat) : State := s.setEng g { s.eng g with ptr := Store.set 0 k v (s.eng g).ptr }

/-- R371: the access of a move to word p of X or Y, in state s (DEDUCED, log entry 34). -/
def MoveOut.access (o : MoveOut) (g mem : Nat) (m : RilMove) (old : EngSt) (s : State) (p : Nat) : MoveOut :=
  if m.kind = 1 then o.loaded mem m.d p (xyAddr g mem p) (s.moveLoad g (xyAddr g mem p))
  else o.stored mem (old.reg m.d) p (xyAddr g mem p) (s.moveStore g (xyAddr g mem p) (old.reg m.d))

/-- R371: one move; old: the engine before the instruction. -/
def MoveOut.move (o : MoveOut) (g mem : Nat) (m : RilMove) (old : EngSt) : MoveOut :=
  if m.kind = 0 then o
  else
    let t := moveAddr m.mode (Store.get 0 (4 * mem + m.k) old.ptr) (Store.get 0 m.k old.m)
    o.access g mem m old (o.s.setPtr g (4 * mem + m.k) t.2) t.1

/-! Fetch and loops (R349, R378, R472). -/

/-- R472: the lowest-numbered patch unit that replaces a fetch of code-store address pc by engine g. -/
def State.patchUnit (s : State) (g pc : Nat) : Option Nat :=
  let n := g / 32
  (List.range 8).find? fun u => s.get FDB.DU_EN n (g / 8 % 4) u == 1 && s.get FDB.DU_MODE n (g / 8 % 4) u == 1 &&
    s.get FDB.DU_ENG n (g / 8 % 4) u == g % 8 && s.get FDB.DU_ADDR n (g / 8 % 4) u == pc

/-- R349, R472: the instruction word at a PC. -/
def State.fetch (s : State) (g pc : Nat) : Nat :=
  if pc < 0x4000 then
    match s.patchUnit g pc with
    | some u => Store.get 0 (256 * g + s.get FDB.DU_DATA (g / 32) (g / 8 % 4) u % 256) s.patchRam
    | none => Store.get 0 (16384 * g + pc) s.code
  else Store.get 0 (256 * g + (pc - 0x4000)) s.patchRam

/-- R378: what the fetch of pc does to active loops: the loops and counters, and the next PC. -/
def loopFetch (pc : Nat) : List RilLoop → List (Nat × Nat) → List RilLoop × List (Nat × Nat) × Nat
  | [], lc => ([], lc, (pc + 1) % 2 ^ 15)
  | l :: t, lc =>
    if l.last = pc then
      if 1 < Store.get 0 l.lc lc then (l :: t, Store.set 0 l.lc (Store.get 0 l.lc lc - 1) lc, l.first)
      else loopFetch pc t (Store.set 0 l.lc 0 lc)
    else
      let r := loopFetch pc t lc
      (l :: r.1, r.2.1, r.2.2)

/-- R378: an instruction that may not stand at the end of an active loop. -/
def endBarred (w : Nat) : Bool := decide (0x23 ≤ rilOp w ∧ rilOp w ≤ 0x27)

/-- R378: a taken BR or JMPR leaves every loop whose body does not hold the target. -/
def EngSt.branch (e : EngSt) (t : Nat) : EngSt := { e with loops := e.loops.filter fun l => decide (l.first ≤ t ∧ t ≤ l.last) }

/-! Registers by code (R379). -/

/-- R379: the value of a register by code. -/
def State.rilReg (s : State) (g c : Nat) : Nat :=
  let e := s.eng g
  if c < 0x10 then e.reg c
  else if c < 0x18 then Store.get 0 (c - 0x10) e.ptr
  else if c < 0x1C then patternOf (signedOf (Store.get 0 (c - 0x18) e.m) 16) 32
  else if c < 0x1E then Store.get 0 (c - 0x1C) e.lc
  else if c = 0x1E then s.rget RIL.EST g
  else s.rget RIL.EBE g

/-- R379: a register by code takes the low bits of a value. -/
def State.setRilReg (s : State) (g c v : Nat) : State :=
  let e := s.eng g
  if c < 0x10 then s.setEng g (e.setReg c v)
  else if c < 0x18 then s.setEng g { e with ptr := Store.set 0 (c - 0x10) (v % 2 ^ 14) e.ptr }
  else if c < 0x1C then s.setEng g { e with m := Store.set 0 (c - 0x18) (v % 2 ^ 16) e.m }
  else if c < 0x1E then s.setEng g { e with lc := Store.set 0 (c - 0x1C) (v % 2 ^ 16) e.lc }
  else if c = 0x1E then s.rset RIL.EST (v % 2 ^ 11) g
  else s.rset RIL.EBE (v % 32) g

/-! Memory accesses (R362-R364, R380-R383). -/

/-- R362: does a DPA lie in the reservoir window of the engine's own field? -/
def ownRsv (g a : Nat) : Bool := decide (rsvBase + g / 32 * 0x4000000 ≤ a ∧ a < rsvBase + (g / 32 + 1) * 0x4000000)

/-- The stream of an access (RilAcc.stream). -/
def rilStream (g a oc : Nat) : Nat := if ownRsv g a then 4 else if inCsr a then 5 else oc

/-- The master port of an engine, as a presenter of requests. -/
def rilPort (g : Nat) : RsvPort := .ril ⟨g / 8 % 4, Nat.mod_lt _ (by decide)⟩ ⟨g % 8, Nat.mod_lt _ (by decide)⟩

/-- R362: the reservoir 4 n + r and offset of an own-window DPA; none in the unused part. -/
def rilRsv (g a : Nat) : Option (Nat × Nat) :=
  match placeOf a with
  | some (.rsv i) => if i / 4 = g / 32 then some (i, a % 0x400000) else none
  | _ => none

/-- What the reservoir port answers to an access: the state (with the sender's response kept), its status, its data, and
whether an SC succeeded. -/
def State.rsvDo (s : State) (g : Nat) (a : RilAcc) : State × RStat × List Byte × Bool :=
  match rilRsv g a.addr with
  | none => (s, .err, [], false)
  | some (i, x) =>
    let h : Fin 3 := if a.len = 8 then 0 else if x % 8 = 0 then 1 else 2
    let t := match a.kind with
      | 1 => s.used.rsvWrites i [⟨rilPort g, rsvOfs x, (bytesLE a.len a.data).map some⟩] []
      | 2 => s.rsvLl i (rilPort g) (x / 8) h []
      | 3 => s.rsvSc i (rilPort g) (x / 8) h a.data []
      | _ => s.rsvRead i (rilPort g) x a.len [] false
    ({ t with resp := s.resp }, t.resp.st, t.resp.data, t.resp.code == 0)

/-- R186: an access that no earlier one of its stream holds back: its position. -/
def headOf (l : List RilAcc) (k : Nat) : Bool :=
  match l[k]? with
  | some a => (l.take k).all fun b => b.stream != a.stream
  | none => false

/-- R348: an engine that an access which returns can still stop: in RUN or HALTED. -/
def State.rilActive (s : State) (g : Nat) : Bool := s.rget RIL.ESTAT_STATE g == 1 || s.rget RIL.ESTAT_STATE g == 3

/-- R362, R191: perform the stores that nothing holds back; a reservoir store answered with ERR faults. fuel bounds the
search (DESIGN CHOICE, log entry 33). -/
def State.settle (s : State) (g : Nat) : Nat → State
  | 0 => s
  | fuel + 1 =>
    let e := s.eng g
    match (List.range e.outs.length).find? fun k => headOf e.outs k && (e.outs.getD k ⟨9, 9, 0, 0, 0, 0, 0, 0⟩).kind == 1 &&
        (e.outs.getD k ⟨9, 9, 0, 0, 0, 0, 0, 0⟩).stream != 5 with
    | none => s
    | some k =>
      let a := e.outs.getD k ⟨9, 9, 0, 0, 0, 0, 0, 0⟩
      if a.stream = 4 then
        let t := s.rsvDo g a
        if t.2.1 = .waits then s
        else
          let s := t.1.setEng g { t.1.eng g with outs := e.outs.eraseIdx k }
          let s := if t.2.1 ≠ .ok ∧ s.rilActive g then s.rilFault g 6 (s.rget RIL.EPC g) a.addr else s
          s.settle g fuel
      else
        let r : Req := { op := .pwr, src := rilSrc g, oc := a.stream, addr := a.addr, len := a.len, data := bytesLE a.len a.data }
        match s.passAll [r] with
        | none => s
        | some t => (((t.setEng g { e with outs := e.outs.eraseIdx k }).drainAt a.addr a.len).perform r).settle g fuel

/-- R380: what a memory word asks for. -/
def State.rilAccess (s : State) (g w : Nat) : RilAcc :=
  let e := s.eng g
  let sz := bitsOf w 33 1
  let len := 4 + 4 * sz
  let a := rilAddr w e / len * len
  let val (r : Nat) : Nat := if sz = 1 then e.reg r + e.reg (r + 1) * 2 ^ 32 else e.reg r
  { kind := rilOp w - 0x29, stream := if rilOp w = 0x2D then (if inCsr a then 5 else bitsOf w 31 2) else rilStream g a (bitsOf w 31 2)
    addr := a, len := len, reg := bitsOf w 38 4, data := val (bitsOf w 38 4), aop := bitsOf w 27 3, swap := val (bitsOf w 23 4) }

/-- Does a store wait for a response: every store but a posted one that has been performed. -/
def canalCount (l : List RilAcc) : Nat := l.countP fun a => a.stream != 4

/-- R362, R364, R381, R383: must the instruction wait before it issues? -/
def State.rilHeld (s : State) (g w : Nat) : Bool :=
  let e := s.eng g
  let dests := e.outs.flatMap fun a => if a.kind == 0 || a.kind == 2 || a.kind == 4 then (if a.len = 8 then [a.reg, a.reg + 1] else [a.reg]) else []
  let amo := e.outs.any fun a => a.kind == 4
  (rilRegs w).any (fun r => dests.contains r) ||
  (match rilOp w with
   | 0x23 => (bitsOf w 38 4 == 5 || bitsOf w 38 4 == 6) && e.outs.any fun a => a.kind == 3
   | 0x2D => decide (16 ≤ canalCount e.outs) || e.outs.any fun a => a.stream == 4 && (a.kind == 1 || a.kind == 3)
   | 0x2E => decide (16 ≤ e.blks.length) || amo
   | 0x2F => false
   | _ => if 0x29 ≤ rilOp w ∧ rilOp w ≤ 0x2C then
       let a := s.rilAccess g w
       if a.stream = 4 then amo || (decide (rilOp w = 0x29) && decide (8 ≤ e.outs.countP fun b => b.stream == 4 && (b.kind == 0 || b.kind == 2)))
       else decide (16 ≤ canalCount e.outs)
     else false)

/-! Comparators (R471). -/

/-- R471: the comparators that match something of engine g: kind 0 for a PC, else the KIND of a move, with its word and data. -/
def State.duHits (s : State) (g kind a data : Nat) : List Nat :=
  let n := g / 32
  let c := g / 8 % 4
  (List.range 8).filter fun u =>
    let k := s.get FDB.DU_KIND n c u
    s.get FDB.DU_EN n c u == 1 && s.get FDB.DU_MODE n c u == 0 && s.get FDB.DU_ENG n c u == g % 8 &&
    (if kind = 0 then k == 0 else k == kind || k == 5) &&
    (a &&& s.get FDB.DU_MASK n c u) == (s.get FDB.DU_ADDR n c u &&& s.get FDB.DU_MASK n c u) &&
    (kind == 0 || s.get FDB.DU_DCEN n c u == 0 || s.get FDB.DU_DATA n c u == data)

/-- R471, R477: HIT packets of the comparators that ask for them. -/
def State.duTrace (s : State) (g pc kind a data : Nat) (us : List Nat) : State :=
  us.foldl (fun s u => if s.get FDB.DU_TRACE (g / 32) (g / 8 % 4) u = 1 then
      s.trace (g / 32) 2 (g % 32) u (if kind = 0 then 2 else 8) (bytesLE 2 pc ++ (if kind = 0 then [] else bytesLE 2 a ++ bytesLE 4 data))
    else s) s

/-- R475: the lowest-numbered unit among those that hit which requests a halt. -/
def State.duHalt (s : State) (g : Nat) (us : List Nat) : Option Nat :=
  us.find? fun u => s.get FDB.DU_HALT (g / 32) (g / 8 % 4) u == 1

/-! The issue of an instruction. -/

/-- R367, R474: the watchdog count of a running engine has reached 0: a halt that is due is taken in its place. -/
def State.rilExpire (s : State) (g : Nat) : State :=
  if s.rget RIL.ESTAT_STATE g = 1 ∧ s.rget RIL.WDRL_WDEN g = 1 ∧ s.rget RIL.WDCNT g = 0 then
    if (s.eng g).halt.isSome then s.breakLock g else s.rilFault g 7 (s.rget RIL.EPC g) 0
  else s

/-- R385, R386: n cycles of RUN pass: RIL_CYC, the watchdog and DEFERCYC count, and results age. -/
def State.rilCycles (s : State) (g n : Nat) : State :=
  let s := s.wrap2 RIL.CYC_LO RIL.CYC_HI n (g / 8) (g % 8)
  let e := s.eng g
  let e := { e with recent := (e.recent.map fun r => (r.1, r.2 + n)).filter fun r => decide (r.2 < 6) }
  let s := s.setEng g e
  let s := if s.rget RIL.WDRL_WDEN g = 1 then
      (s.rset RIL.WDCNT (s.rget RIL.WDCNT g - (e.wdSub + n) / 1024) g).setEng g { e with wdSub := (e.wdSub + n) % 1024 }
    else s
  if (s.eng g).halt.isSome && !(s.eng g).draining then
    let k := min 64 ((s.eng g).defer + n)
    let s := s.setEng g { s.eng g with defer := k }
    if s.bit GLB.AVAIL_FFENCED (g / 32) then s else s.set DBG.HSTAT_DEFERCYC k g
  else s

/-- R474: a halt that has been deferred for 64 cycles is taken at once. -/
def State.rilBreak (s : State) (g : Nat) : State :=
  if s.rget RIL.ESTAT_STATE g = 1 ∧ (s.eng g).halt.isSome ∧ (s.eng g).draining = false ∧ s.haltDeferred g ∧ (s.eng g).defer = 64 then s.breakLock g
  else s

/-- R354, R371, R374: a compute instruction with its moves: the state, its fault, and the moves seen. -/
def State.rilDoCompute (s : State) (g w : Nat) : State × Option (Nat × Nat) × List (Nat × Nat × Nat) :=
  let e := s.eng g
  let r := rilComputeOp w e (s.rget RIL.EST g) (s.rget RIL.EBE g)
  let s := ((s.setEng g r.eng).rset RIL.EST r.st g).rset RIL.EBE r.be g
  let o := ((MoveOut.mk s [] none []).move g 0 (rilMove w 11) e).move g 1 (rilMove w 0) e
  ((r.d ++ o.d).foldl (fun s x => s.setEng g ((s.eng g).setReg x.1 x.2)) o.s, o.fault, o.seen)

/-- R377: BR's condition. -/
def State.rilCond (s : State) (g w : Nat) : Bool :=
  let a := (s.eng g).reg (bitsOf w 34 4)
  let st := s.rget RIL.EST g
  match bitsOf w 38 4 with
  | 0 => true
  | 1 => a == 0
  | 2 => a != 0
  | 3 => bitOf a 31
  | 4 => !bitOf a 31
  | 5 => bitOf st 10
  | 6 => !bitOf st 10
  | 7 => bitOf st 0
  | _ => !bitOf st 0

/-- R378: DO at pc: the state, and the next PC; with a count of 0 it is a taken branch, which leaves the loops that do not hold
its target (DEDUCED, log entry 34). -/
def State.rilDo (s : State) (g w pc next : Nat) : State × Nat :=
  let e := s.eng g
  let c := bitsOf w 41 1
  let fin := bitsOf w 0 15
  let n := if bitOf w 40 then e.reg (bitsOf w 36 4) % 2 ^ 16 else bitsOf w 16 16
  if n = 0 then (s.setEng g (e.branch (fin + 1)), fin + 1)
  else (s.setEng g { e with lc := Store.set 0 c n e.lc, loops := ⟨c, pc + 1, fin⟩ :: e.loops.filter fun l => l.lc != c }, next)

/-- R363, R382: BLK; none where its DPA lies outside the own window. -/
def State.rilBlk (s : State) (g w : Nat) : Option State :=
  let e := s.eng g
  let a := rilAddr w e / 64 * 64
  let mem := bitsOf w 40 1
  let pk := 4 * mem + bitsOf w 38 2
  let p := Store.get 0 pk e.ptr
  if ownRsv g a = false then none
  else
    let e := { e with blks := e.blks ++ [⟨bitOf w 41, mem, p / 16 * 16, a⟩] }
    let e := if bitOf w 33 then { e with ptr := Store.set 0 pk ((p + 16) % 2 ^ 14) e.ptr } else e
    some (s.setEng g (if bitOf w 30 then e.incBase (bitsOf w 34 4) 64 else e))

/-- R362, R380, R381: LOAD, STORE, LL, SC or AMO is issued; none for an LL or SC outside the own window. -/
def State.rilMem (s : State) (g w : Nat) : Option State :=
  let a := s.rilAccess g w
  if (a.kind = 2 ∨ a.kind = 3) ∧ a.stream ≠ 4 then none
  else
    let e := s.eng g
    let e := { e with outs := e.outs ++ [a] }
    some (s.setEng g (if a.kind ≤ 1 ∧ bitOf w 30 then e.incBase (bitsOf w 34 4) a.len else e))

/-- The effect of a legal control or memory instruction at pc, whose next PC would be next: the state, the next PC, its cycles,
and a fault (cause and address) that stops it before any effect. -/
def State.rilDoControl (s : State) (g w pc next : Nat) : State × Nat × Nat × Option (Nat × Nat) :=
  let e := s.eng g
  match rilOp w with
  | 0x20 => (s.setEng g (e.setReg (bitsOf w 38 4) (bitsOf w 0 32)), next, 1, none)
  | 0x21 => (s.setRilReg g (bitsOf w 37 5) (s.rilReg g (bitsOf w 32 5)), next, 1, none)
  | 0x22 =>
    let st := s.rget RIL.EST g
    let m := bitsOf w 0 11
    (s.rset RIL.EST (if bitOf w 41 then st - (st &&& m) else st ||| m) g, next, 1, none)
  | 0x23 =>
    let t := bitsOf w 0 15
    if s.rilCond g w then (s.setEng g (e.branch t), t, 3, none) else (s, next, 1, none)
  | 0x24 => (s.setEng g (e.setReg 15 (pc + 1)), bitsOf w 0 15, 3, none)
  | 0x25 =>
    let t := e.reg (bitsOf w 38 4) % 2 ^ 15
    (s.setEng g (e.branch t), t, 3, none)
  | 0x26 =>
    let r := s.rilDo g w pc next
    (r.1, r.2, if r.2 = next then 1 else 3, none)
  | 0x27 => (s.setRilState g 2, next, 1, none)
  | 0x28 => (s.rilReload g, next, 1, none)
  | 0x2E =>
    match s.rilBlk g w with
    | some s => (s, next, 1, none)
    | none => (s, pc, 1, some (5, rilAddr w e / 64 * 64))
  | 0x2F => (s.setEng g { e with outs := e.outs ++ [{ kind := 5, stream := bitsOf w 31 2 }], wait := 1 }, next, 1, none)
  | 0x30 => (if e.blks.isEmpty then s else s.setEng g { e with wait := 2 }, next, 1, none)
  | _ =>
    match s.rilMem g w with
    | some s => (s, next, 1, none)
    | none => (s, pc, 1, some (5, (s.rilAccess g w).addr))

/-- R365, R378, R386: a legal instruction at pc is taken: what its fetch does to the active loops, and the results it will give are
noted for those after it. -/
def State.rilTaken (s : State) (g w pc : Nat) : State :=
  let e := s.eng g
  let lf := loopFetch pc e.loops e.lc
  let got := (rilResults w e.moveWord (bitOf (s.rget RIL.EST g) 8)).map fun r => (r, 0)
  s.setEng g { e with loops := lf.1, lc := lf.2.1, skip := false, recent := (e.recent.filter fun r => !(got.any fun q => q.1.same r.1)) ++ got }

/-- R378: the PC after an instruction at pc that does not branch. -/
def State.rilNext (s : State) (g pc : Nat) : Nat := (loopFetch pc (s.eng g).loops (s.eng g).lc).2.2

/-- R354, R365, R378, R384: a legal instruction at pc runs: its effect, the loops' and the PC, a fault of its moves, the moves
that comparators see, and its cycles. -/
def State.rilExec (s : State) (g w pc : Nat) : State × List (Nat × Nat × Nat) × Nat :=
  let next := s.rilNext g pc
  let s0 := s
  let s := s.rilTaken g w pc
  if rilOp w ≤ 0x0A then
    let t := s.rilDoCompute g w
    match t.2.1 with
    | some f => (t.1.rilFault g f.1 pc f.2, t.2.2, 1)
    | none => (t.1.rset RIL.EPC next g, t.2.2, 1)
  else
    let t := s.rilDoControl g w pc next
    match t.2.2.2 with
    | some f => (s0.rilFault g f.1 pc f.2, [], 1)
    | none => ((t.1.rset RIL.EPC t.2.1 g).settle g 40, [], t.2.2.1)

/-- R471, R473, R474: the boundary after an instruction: comparators of its moves, and a halt that is due. -/
def State.rilBoundary (s : State) (g pc : Nat) (seen : List (Nat × Nat × Nat)) : State :=
  let hits := seen.map fun m => (m, s.duHits g m.1 m.2.1 m.2.2)
  let s := hits.foldl (fun s h => s.duTrace g pc h.1.1 h.1.2.1 h.1.2.2 h.2) s
  if s.rget RIL.ESTAT_STATE g = 1 then
    match s.duHalt g ((List.range 8).filter fun u => hits.any fun h => h.2.contains u) with
    | some u => if (s.eng g).halt.isSome then s.tryHalt g else s.requestHalt g 1 u
    | none => s.tryHalt g
  else if (s.eng g).halt.isSome then (s.setEng g { s.eng g with halt := none, draining := false }).clearHstat g
  else s

/-- R157, R363, R364, R381, R383: the engine must wait before it issues the instruction at its PC. -/
def State.rilBlocked (s : State) (g : Nat) : Bool :=
  let e := s.eng g
  let pc := s.rget RIL.EPC g
  let w := s.fetch g pc
  !s.time.tclk || e.wait != 0 || e.resetting || e.draining ||
  (decide (pc < 0x4100) && rilLegal w pc && !(endBarred w && e.loops.any fun l => l.last == pc) && s.rilHeld g w)

/-- R384, R385, R471, R474: n cycles of an instruction that was at pc pass, and its boundary follows: comparators of its moves, a halt that
is due, and the watchdog. -/
def State.rilClose (s : State) (g pc n : Nat) (seen : List (Nat × Nat × Nat)) : State :=
  (((s.rilCycles g n).rilBoundary g pc seen).rilBreak g).rilExpire g

/-- R349, R365, R370, R384, R385, R471: an engine issues the instruction at its PC, if op is none or its opcode; step: under
STEP of R473. It does nothing while the instruction must wait (DESIGN CHOICE, log entry 33). -/
def State.rilIssue (s : State) (g : Nat) (op : Option Nat) (step : Bool) : State :=
  let e := s.eng g
  let pc := s.rget RIL.EPC g
  let w := s.fetch g pc
  if s.rilBlocked g then s
  else if 0x4100 ≤ pc then s.rilFault g 2 pc 0
  else if rilKnown w && op.any (fun o => o != rilOp w) then s
  else if !rilLegal w pc || (endBarred w && e.loops.any fun l => l.last == pc) then s.rilFault g 1 pc 0
  else
    let us := if e.skip then [] else s.duHits g 0 pc 0
    let s := s.duTrace g pc 0 0 0 us
    let s := if step then s else match s.duHalt g us with
      | some u => if (s.eng g).halt.isSome then s else s.requestHalt g 1 u
      | none => s
    if (s.eng g).draining || (!step && s.rget RIL.ESTAT_STATE g != 1) then s
    else
      let t := s.rilExec g w pc
      if step then
        let hits := t.2.1.map fun m => (m, t.1.duHits g m.1 m.2.1 m.2.2)
        hits.foldl (fun s h => s.duTrace g pc h.1.1 h.1.2.1 h.1.2.2 h.2) t.1
      else t.1.rilClose g pc t.2.2 t.2.1

/-- R473: a STEP issues one instruction, once it can (DESIGN CHOICE, log entry 33). -/
def State.rilStep (s : State) (g : Nat) : State :=
  if s.rilBlocked g then s.setEng g { s.eng g with stepDue := true }
  else
    let s := (s.setEng g { s.eng g with stepDue := false }).rilIssue g none true
    if s.rget RIL.ESTAT_STATE g = 3 then s.setHstat g 2 2 0 (s.rget RIL.EPC g) else s.clearHstat g

/-- R473, R474: an access of an engine has completed: a halt or a STEP that waited for it goes on. -/
def State.rilAfter (s : State) (g : Nat) : State :=
  let s := s.settle g 40
  if s.rget RIL.ESTAT_STATE g = 1 then (if (s.eng g).draining then s.drainHalt g else s.tryHalt g)
  else if s.rget RIL.ESTAT_STATE g = 3 ∧ (s.eng g).stepDue = true then s.rilStep g
  else s

/-- R386: the cycles for which the instruction at the PC of an engine stalls behind those before it; one that faults before
any effect stalls for none. -/
def State.rilStalls (s : State) (g : Nat) : Nat :=
  let e := s.eng g
  let pc := s.rget RIL.EPC g
  let w := s.fetch g pc
  if pc < 0x4100 ∧ rilLegal w pc then rilStall w e.moveWord e.recent else 0

/-- R364, R381, R383, R386: the stall cycles of the instruction at the PC of an engine pass, or the cycles for which it is held, where they are
more. -/
def State.rilPaused (s : State) (g held : Nat) : State := ((s.rilCycles g (max held (s.rilStalls g))).rilBreak g).rilExpire g

/-- A running engine issues an instruction of opcode op after its stall cycles and after the cycles for which R364, R381 or R383
held it; where its watchdog expires in them, it issues nothing (DESIGN CHOICE, log entry 33). -/
def State.rilRow (s : State) (g op held : Nat) : State :=
  if s.rget RIL.ESTAT_STATE g = 1 ∧ s.rilBlocked g = false ∧ (rilOp (s.fetch g (s.rget RIL.EPC g)) = op ∨ !rilKnown (s.fetch g (s.rget RIL.EPC g)) ∨ 0x4100 ≤ s.rget RIL.EPC g) then
    let s := s.rilPaused g held
    if s.rget RIL.ESTAT_STATE g = 1 then s.rilIssue g (some op) false else s
  else s

end Sys2Proof.Machine
end

