-- ==== Sys2Proof/Machine/Cistern.lean ====
section
/-! DEFINITION. Cistern capture (spec/04_cistern.md R99-R132): the front-ends and their sieve, records, gaps, the drain, the
rings, the commands of a cistern and the float sequencer. -/
namespace Sys2Proof.Machine

/-! The front-end (R99-R107, R113). -/

/-! Records on their way to Headworks (R104, R115, R116, R183, R211, R219). -/

/-- R104: the size of the record of s bytes stored. -/
def recordSize (n : Nat) : Nat := 32 + 32 * ((n + 31) / 32)

/-- R108, R109: a record: its header and its payload, padded to a multiple of 32. -/
def recordBytes (ts lane length sieve slice seq flags anchor mode tag : Nat) (payload : List Byte) : List Byte :=
  bytesLE 10 (tsOf ts) ++ bytesLE 2 lane ++ bytesLE 3 length ++ bytesLE 1 sieve ++ bytesLE 2 slice ++ bytesLE 3 seq ++
  bytesLE 1 flags ++ bytesLE 1 anchor ++ bytesLE 1 mode ++ bytesLE 4 tag ++ bytesLE 4 0 ++
  payload ++ List.replicate (32 * ((payload.length + 31) / 32) - payload.length) 0

/-- R108: the bytes of a data record. -/
def PendRec.bytes (r : PendRec) (l : Nat) : List Byte :=
  recordBytes r.ts l r.length r.sieve r.data.length r.seq r.flags r.anchor r.mode r.tag r.data

/-- R110, R115: bytes that a CFE can still write: what its segments hold free and what the hub can lend. -/
def State.roomOf (s : State) (l : Nat) : Nat :=
  let v := s.cfe l
  let free := v.segs.foldl (fun a g => a + (1024 - g.used)) 0
  free + 1024 * min (s.get CAP.SCFG_LOAN - v.segs.length) (s.get CAP.SBOOK0_LFREE)

/-- R110: put the bytes of a record into the segments; the record is kept with the segment in which it ends. -/
def fillSegs (r : StRec) : Nat → List Seg → List Seg
  | _, [] => []
  | 0, l => l
  | n + 1, g :: t =>
    let k := min (n + 1) (1024 - g.used)
    if k = n + 1 then { g with used := g.used + k, recs := g.recs ++ [r] } :: t
    else { g with used := g.used + k } :: fillSegs r (n + 1 - k) t

/-- R110, R115: write a record into the CFE's segments, lending as many as it needs. -/
def State.stageRecord (s : State) (l : Nat) (r : StRec) : State :=
  let need := r.bytes.length
  let have_ := (s.cfe l).segs.foldl (fun a g => a + (1024 - g.used)) 0
  let s := (List.range ((need - have_ + 1023) / 1024)).foldl (fun s _ => s.lend l) s
  (s.setCfe l { s.cfe l with segs := fillSegs r need (s.cfe l).segs }).wrap2 CFE.RECS_LO CFE.RECS_HI 1 l

/-- R115, R116: drop a record: cause bit 0 shares, bit 1 staging. -/
def State.dropRecord (s : State) (l : Nat) (r : PendRec) (cause : Nat) : State :=
  let size := recordSize r.data.length
  let s := if bitOf cause 0 then s.raise CFE.STAT_SHRDROP l else s
  let s := if bitOf cause 1 then s.raise CFE.STAT_STGDROP l else s
  let s := (s.wrap2 CFE.DROPS_LO CFE.DROPS_HI 1 l).wrap2 CFE.DBYTES_LO CFE.DBYTES_HI size l
  let g := match (s.cfe l).gap with
    | some g => { g with recs := min (g.recs + 1) (2 ^ 32 - 1), bytes := g.bytes + size, cause := g.cause ||| cause }
    | none => ⟨1, size, r.ts, r.seq, cause⟩
  (s.setCfe l { s.cfe l with gap := some g }).raise CFE.STAT_GAPPEND l

/-- R176, R180, R182: the flits of the packets in which a record of n bytes leaves lane l, from the place in the segments at which it begins. -/
def State.capturePackets (s : State) (l n : Nat) : List Nat :=
  let a := (((s.cfe l).segs.find? fun g => decide (g.used < 1024)).map (·.used)).getD 0
  (blockReqs { op := .pwr, src := 256 * (l / 16) + l % 16, oc := 0, addr := a, len := n } (n / 256 + 2) a n).map Req.flits

/-- R211: the channel of field n that a capture packet takes: the next live one, in round-robin, that has credits. -/
def State.captureChannel (s : State) (n flits : Nat) : Option Nat :=
  let last := Store.get 15 (2 ^ 16 + n) s.served
  ((List.range 16).map fun i => (last + 1 + i) % 16).find? fun c => s.bit FLF.LIVE c (8 * n) && s.creditUp (16 * n + c) 2 flits

/-- R183, R202, R211: packets of a record leave while there are credits: the state, the packets left and the modules that hold some. -/
def State.sendCapture (s : State) (n : Nat) : List Nat → State × List Nat × List Nat
  | [] => (s, [], [])
  | f :: t =>
    match s.captureChannel n f with
    | none => (s, f :: t, [])
    | some c =>
      let s' := { s.spendUp (16 * n + c) 2 f with served := Store.set 15 (2 ^ 16 + n) c s.served }
      let r := s'.sendCapture n t
      (r.1, r.2.1, if s.modHolds n (c / 2) then c / 2 :: r.2.2 else r.2.2)

/-- R211, R219: the record in hand of lane l leaves as far as the uplinks take it; once every byte has arrived it is in staging. -/
def State.pushHand (s : State) (l : Nat) : State :=
  match (s.cfe l).hand with
  | none => s
  | some r =>
    let t := s.sendCapture (l / 16) r.left
    let s := t.1
    let r := { r with left := t.2.1, hung := (r.hung ++ t.2.2).filter fun m => s.modHolds (l / 16) m }
    if r.left.isEmpty && r.hung.isEmpty then
      let s := s.setCfe l { s.cfe l with hand := none }
      if s.roomOf l < recordSize r.data.length then s.dropRecord l r 2 else s.stageRecord l ⟨r.cist, r.gen, r.bytes l, r.ts⟩
    else s.setCfe l { s.cfe l with hand := some r }

/-- R219: the records in hand of every lane go on. -/
def State.pushHands (s : State) : State := (s.cfes.map (·.1)).foldl (fun s l => s.pushHand l) s

/-- R116, R211, R219: the record in hand of lane l is dropped, for staging. -/
def State.dropHand (s : State) (l : Nat) : State :=
  match (s.cfe l).hand with
  | none => s
  | some r => (s.setCfe l { s.cfe l with hand := none }).dropRecord l r 2

/-- R211: module m of field n is fenced: a record with a packet on it is withdrawn, and counts as a drop for staging. -/
def State.withdraw (s : State) (n m : Nat) : State :=
  (lanesOf n).foldl (fun s l => if (s.cfe l).hand.any fun r => r.hung.contains m then s.dropHand l else s) s

/-! The front-end (R99-R107, R113). -/

/-- R113, R130: a write of the word v to CFE_CTRL. CIST and SRC take effect only where EN was 0. Clearing EN discards the records that
wait, a record in hand being counted as dropped, and a pending gap, and lowers GAPPEND, so that the losses of that gap are in
the counters alone (DESIGN CHOICE, log entry 22). -/
def State.writeCfeCtrl (s : State) (l v : Nat) : State :=
  let was := s.flag CFE.CTRL_EN l
  let s := if was then s else s.wrAll v [CFE.CTRL_CIST, CFE.CTRL_SRC] l
  let s := s.wrAll v [CFE.CTRL_SLICE, CFE.CTRL_DEFACC, CFE.CTRL_FLINE, CFE.CTRL_FLTFCS, CFE.CTRL_FLTLOCK, CFE.CTRL_KEEPERR] l
  if bitOf v 0 then
    if was then s
    else
      let s := ((s.wakeQuad (quadOf l)).raise CFE.CTRL_EN l).lower CFE.SEQ l
      let s := s.setLane l { s.lane l with rx := [] }
      if s.get CAP.LSH l = 0 then s.raise CFE.STAT_CFGERR l
      else
        let s := s.setCfe l { meter := s.get CFE.METER_DEPTH l * 1024 * 2 ^ 33, meterAt := s.fieldNow (l / 16) }
        s.lower CFE.STAT_GAPPEND l
  else if was then
    let s := (((s.dropHand l).closeAll l).returnSegs l).lower CFE.CTRL_EN l
    let s := s.setLane l { s.lane l with rx := [] }
    ((s.lower CFE.STAT_CFGERR l).lower CFE.STAT_GAPPEND l).setCfe l { s.cfe l with pend := [], hand := none, gap := none }
  else s

/-- R113: a write of the word v to CFE_CTRL. -/
def execCfeEnable (l : LaneId) (v : Word) (s : State) : Result :=
  .next (s.access .CFE (l / 16) fun s => s.writeCfeCtrl l v.toNat)

/-- R130: a write of the word v to CFE_STAT. -/
def State.writeCfeStat (s : State) (l v : Nat) : State :=
  let s := s.w1cAll v [CFE.STAT_SHRDROP, CFE.STAT_STGDROP] l
  if bitOf v 8 then
    (((s.set2 CFE.FRAMES_LO CFE.FRAMES_HI 0 l).set2 CFE.RECS_LO CFE.RECS_HI 0 l).set2 CFE.DROPS_LO CFE.DROPS_HI 0 l).set2 CFE.DBYTES_LO CFE.DBYTES_HI 0 l
  else s

/-- R130: a write of the word v to CFE_STAT. -/
def execCfeCounterClear (l : LaneId) (v : Word) (s : State) : Result :=
  .next (s.access .CFE (l / 16) fun s => s.writeCfeStat l v.toNat)

/-- R104: the largest frame length. -/
def maxFrame : Nat := 16777215

/-- R101-R105: a frame reaches a running CFE: the sieve decides it, if it has not at its 128th byte, the float line pulses, and an
accepted frame waits for its decision delay. Where the lane belongs to no enabled port, ANCHOR is the lane itself and PCSMODE 0
(DESIGN CHOICE, log entry 22: R108 gives no value then). -/
def State.takeFrame (s : State) (l : Nat) (f : RxFrame) : State :=
  let s := s.wrap2 CFE.FRAMES_LO CFE.FRAMES_HI 1 l
  let d := f.dec.getD (s.decideFrame l f.bytes)
  let s := if (d.float && f.dec.isNone) || (f.fcsErr && s.flag CFE.CTRL_FLTFCS l) then s.cfePulse l else s
  if d.accept && (!f.fcsErr || s.flag CFE.CTRL_KEEPERR l) then
    let len := min f.bytes.length maxFrame
    let anchor := (s.anchorOf l).getD l
    let r : PendRec := {
      cist := s.get CFE.CTRL_CIST l
      ts := f.ts
      length := len
      sieve := d.hit.getD 0x80
      flags := f.fcsErr.toNat + 2 * f.codeViol.toNat + 4 * (f.trunc || decide (maxFrame < f.bytes.length)).toNat + 16 * d.float.toNat
      anchor := anchor
      mode := if (s.anchorOf l).isSome then s.get PCS.CTRL_MODE anchor else 0
      tag := d.tag
      data := f.bytes.take (min d.slice len) }
    s.setCfe l { s.cfe l with pend := (s.cfe l).pend ++ [r] }
  else s

/-- R99, R100: a frame reaches the CFE of lane l: with SRC = 0 the oldest that the PCS has dealt to it, with SRC = 1 the frame
given at the fabric capture port, stamped with the slave's time less FTS_FABOFS (R163). While TCLK is stopped it takes none
(R157). A PCS deals frames only in WRAW and ETH (State.dealFrame). -/
def execCfeFrame (l : LaneId) (f : Option FabFrame) (s : State) : Result :=
  .next (if s.flag CFE.CTRL_SRC l then
    match f with
    | some g =>
      if s.cfeOn l && s.time.tclk then
        let t := s.stampAt (s.fieldNow (l / 16)) (-signedOf (s.get FTS.FABOFS (l / 16)) 16)
        s.used.takeFrame l { bytes := g.bytes, fcsErr := g.err, ts := t }
      else s
    | none => s
  else
    match (s.lane l).rx with
    | r :: t => if s.cfeOn l && s.time.tclk then (s.setLane l { s.lane l with rx := t }).takeFrame l r else s
    | [] => s)

/-! Records (R105-R109, R115, R116). -/

/-- R106, R125: does a record of cistern c with time ts form, at its judgement: the cistern is ARMED or RUNNING, and the capture window
takes it (DEDUCED, log entry 21). -/
def State.inWindow (s : State) (c ts : Nat) : Bool :=
  let v := s.cist c
  let st := s.get CAP.CSTAT_STATE c
  (st == 1 || st == 2) &&
  (match v.stop with
   | some t => decide (tsTicks ts < tsTicks t)
   | none => true) &&
  (match v.start with
   | some t => decide (tsTicks t ≤ tsTicks ts) || s.get2 CAP.CPRE_PRE_LO CAP.CPRE_PRE_HI c != 0
   | none => s.get2 CAP.CPRE_PRE_LO CAP.CPRE_PRE_HI c != 0)

/-- R116: can the pending gap be ended now? -/
def State.gapReady (s : State) (l : Nat) : Bool := decide (64 * 2 ^ 33 ≤ s.meter l) && s.get CAP.SBOOK1_RFREE != 0

/-- R109, R116: emit the GAP record of a pending gap, after closing the CFE's segments. It goes whole; its SIEVE is 0, and its ANCHOR and
PCSMODE are those of State.takeFrame (DESIGN CHOICE, log entry 22). -/
def State.emitGap (s : State) (l : Nat) : State :=
  match (s.cfe l).gap with
  | none => s
  | some g =>
    let s := (s.spend l 64).closeAll l
    let anchor := (s.anchorOf l).getD l
    let mode := if (s.anchorOf l).isSome then s.get PCS.CTRL_MODE anchor else 0
    let c := s.get CFE.CTRL_CIST l
    let ts := s.fieldNow (l / 16)
    let pay := bytesLE 4 g.recs ++ bytesLE 8 g.bytes ++ bytesLE 10 (tsOf g.ts) ++ bytesLE 1 g.cause ++ bytesLE 9 0
    let s := s.enqueueClosed true [⟨c, (s.cist c).gen, recordBytes ts l 0 0 32 g.seq 0x08 anchor mode 0 pay, ts⟩]
    let s := (s.book CAP.SBOOK1_RFREE (-1)).book CAP.SBOOK2_RUSED 1
    ((s.setCfe l { s.cfe l with gap := none }).lower CFE.STAT_GAPPEND l).wrap2 CFE.RECS_LO CFE.RECS_HI 1 l

/-- R219: hand a record that has passed R115 to the uplinks, where what they do not take at once stays in hand. -/
def State.handRecord (s : State) (l : Nat) (r : PendRec) : State :=
  (s.setCfe l { s.cfe l with
    hand := some { r with gen := (s.cist r.cist).gen, left := s.capturePackets l (recordSize r.data.length), hung := [] } }).pushHand l

/-- R219: the record in hand leaves, or is dropped for staging, when the next one is judged. -/
def State.settleHand (s : State) (l : Nat) : State := (s.pushHand l).dropHand l

/-- R105, R106, R115, R116: judge a record (DEDUCED, log entry 21). A record that drops only because a pending gap cannot be emitted yet
drops for shares while the meter is below 64 bytes, and else for staging, the reserve being empty (DESIGN CHOICE, log entry 22). -/
def State.judge (s : State) (l : Nat) (r : PendRec) : State :=
  if s.inWindow r.cist r.ts = false then s
  else
    let s := s.settleHand l
    let r := { r with seq := s.get CFE.SEQ l }
    let s := s.wrap CFE.SEQ 1 l
    let s := if (s.cfe l).gap.isSome && s.gapReady l then s.emitGap l else s
    let size := recordSize r.data.length
    if (s.cfe l).gap.isSome then s.dropRecord l r (if s.meter l < 64 * 2 ^ 33 then 1 else 2)
    else
      let shr := decide (s.meter l < size * 2 ^ 33)
      let stg := decide (s.roomOf l < size)
      if shr || stg then s.dropRecord l r (shr.toNat + 2 * stg.toNat)
      else (s.spend l size).handRecord l r

/-- R105: the decision delay of the oldest record of lane l: 48 ns. -/
def decisionDelay : Nat := 48 * 2 ^ 32

/-- R105: the oldest waiting record of lane l has passed its decision delay on the slave DTC, and is judged (DEDUCED, log
entry 21). -/
def execRecordJudge (l : LaneId) (s : State) : Result :=
  .next (match (s.cfe l).pend with
    | r :: t =>
      if r.ts + decisionDelay < s.fieldNow (l / 16) ∧ s.time.tclk = true then (s.setCfe l { s.cfe l with pend := t }).judge l r else s
    | [] => s)

/-- R116: the meter and the reserve allow the pending gap of lane l to end. -/
def execGapEmit (l : LaneId) (s : State) : Result :=
  .next (if s.cfeOn l && (s.cfe l).gap.isSome && s.gapReady l && s.time.tclk then s.emitGap l else s)

/-! Segments and the drain (R110-R112, R120, R121). -/

/-- R110: the hub lends a segment to the CFE of lane l. -/
def execSegmentLend (l : LaneId) (s : State) : Result :=
  .next (if s.cfeOn l ∧ (s.cfe l).segs.length < s.get CAP.SCFG_LOAN then s.lend l else s)

/-- R111: the oldest loaned segment of lane l closes. -/
def execSegmentClose (l : LaneId) (s : State) : Result := .next (s.closeFirst l)

/-- Split n bytes from address a at 256-byte boundaries (R176); fuel bounds the pieces. -/
def splitBlocks (a : Nat) (bytes : List Byte) : Nat → List (Nat × List Byte)
  | 0 => []
  | fuel + 1 =>
    if bytes.isEmpty then []
    else (a, bytes.take (256 - a % 256)) :: splitBlocks (a + (256 - a % 256)) (bytes.drop (256 - a % 256)) fuel

/-- R183, R199: a posted write of the hub drain leaves for HBM, or waits at ingress for credits and for those before it. -/
def State.drainSend (s : State) (r : Req) : State :=
  let p := hbmPort r.addr
  if (s.ingress.any fun h => h.req.src == 0x804 && hbmPort h.req.addr == p) || !s.creditFree p 2 r.flits then
    { s with ingress := s.ingress ++ [{ req := r, t := 0 }] }
  else ((s.spendCredit p 2 r.flits).leavePort r p).arrive r

/-- R128, R182: the hub drain writes bytes into HBM as posted writes of source 0x804 (DESIGN CHOICE, log entry 22). -/
def State.drainWrite (s : State) (a : Nat) (bytes : List Byte) (job : Nat) : State :=
  (splitBlocks a bytes (bytes.length / 256 + 2)).foldl (fun s e =>
    s.drainSend { op := .pwr, src := 0x804, oc := 0, addr := e.1, len := e.2.length, data := e.2, job := job }) s

/-- R120: write a record or a PAD at the ring's write offset; the records it overwrites leave, and OLD follows. -/
def State.ringWrite (s : State) (c : Nat) (bytes : List Byte) (job : Nat) : State :=
  let size := 2 ^ s.get CAP.CSIZE_LOG2 c
  let w := s.get2 CAP.CWPTR_WPTR_LO CAP.CWPTR_WPTR_HI c
  let n := bytes.length
  let s := s.drainWrite (s.get2 CAP.CBASE_BASE_LO CAP.CBASE_BASE_HI c + w) bytes job
  let ring := (s.cist c).ring.dropWhile (fun e => decide (w ≤ e.1 ∧ e.1 < w + n)) ++ [(w, n)]
  let s := s.setCist c { s.cist c with ring := ring }
  (s.set2 CAP.CWPTR_WPTR_LO CAP.CWPTR_WPTR_HI ((w + n) % size) c).set2 CAP.COLD_OLD_LO CAP.COLD_OLD_HI ((ring.head?.map (·.1)).getD 0) c

/-- R108, R109: a PAD record of n bytes. Its SIEVE, ANCHOR and PCSMODE are 0 (DESIGN CHOICE, log entry 22: R108 gives them no value). -/
def padRecord (n : Nat) : List Byte := recordBytes 0 0xFFFF 0 0 (n - 32) 0 0x40 0 0 0 (List.replicate (n - 32) 0)

/-- R120, R121: a record reaches its ring. A PAD before a record that makes the cistern FULL is not written (DESIGN CHOICE, log entry 22). -/
def State.ringPut (s : State) (r : StRec) (job : Nat) : State :=
  let c := r.cist
  let v := s.cist c
  let st := s.get CAP.CSTAT_STATE c
  if r.gen ≠ v.gen ∨ st = 0 ∨ st = 6 then s
  else if st = 4 then s.count CAP.CDISC 1 c
  else
    let size := 2 ^ s.get CAP.CSIZE_LOG2 c
    let pre := s.get2 CAP.CPRE_PRE_LO CAP.CPRE_PRE_HI c
    let w := s.get2 CAP.CWPTR_WPTR_LO CAP.CWPTR_WPTR_HI c
    let b := r.bytes.length
    let pad := if size < w + b then size - w else 0
    let trig := s.get2 CAP.CTRIG_TRIG_LO CAP.CTRIG_TRIG_HI c ≠ 2 ^ 36 - 1
    let here := !decide trig && v.start.any fun t => decide (tsTicks t ≤ tsTicks r.ts)
    let post := if here then b else v.post + pad + b
    let past := (decide trig || here) && decide (size - pre < post)
    if past && !s.flag CAP.CCTRL_FULLACT c then
      let s := s.count CAP.CDISC 1 c
      if st = 2 then ((s.setCist c { v with stop := some r.ts }).set CAP.CSTAT_STATE 4 c).publish c 3 0 else s
    else
      let s := if past then s.raise CAP.CSTAT_WRAPPED c else s
      let s := if pad = 0 then s else s.ringWrite c (padRecord pad) job
      let s := if here then s.set2 CAP.CTRIG_TRIG_LO CAP.CTRIG_TRIG_HI (s.get2 CAP.CWPTR_WPTR_LO CAP.CWPTR_WPTR_HI c) c else s
      let s := (s.ringWrite c r.bytes job).wrap2 CAP.CRCNT_RCNT_LO CAP.CRCNT_RCNT_HI 1 c
      if decide trig || here then s.setCist c { s.cist c with post := post } else s

/-- R111: the drain takes the next closed segment, with at most 64 in the write pipeline. -/
def execSegmentDrain (s : State) : Result :=
  .next (match s.closed with
    | d :: t =>
      if s.draining.length < 64 then
        let s := { s with closed := t, draining := s.draining ++ [d] }
        d.recs.foldl (fun s r => s.ringPut r (d.id + 1)) s
      else s
    | [] => s)

/-- R111: does an HBM write of a drained segment remain? -/
def State.jobOpen (s : State) (job : Nat) : Bool :=
  s.waiting.any (fun r => r.job == job) || s.ingress.any (fun h => h.req.job == job) || s.pcs.any fun e => (e.2.q ++ e.2.wait).any fun q => q.req.job == job

/-- R111: the HBM writes of the segment in place i of the write pipeline have completed; it returns to its pool. -/
def execSegmentReturn (i : Fin 64) (s : State) : Result :=
  .next (match s.draining[i.val]? with
    | some d =>
      if s.jobOpen (d.id + 1) then s
      else
        let s := { s with draining := s.draining.eraseIdx i }
        let s := if d.reserve then (s.book CAP.SBOOK1_RFREE 1).book CAP.SBOOK2_RUSED (-1)
          else ((s.book CAP.SBOOK0_LFREE 1).book CAP.SBOOK1_FILLED (-1)).poolFull
        d.recs.foldl (fun s r => (s.snap r.cist).maybeDone r.cist) s
    | none => s)

/-! The commands of a cistern (R118, R119, R125, R129). -/

/-- R19, R131: a write of the word v to CAP_CCTRL of cistern c, by source src. -/
def State.writeCctrl (s : State) (c src v : Nat) : State :=
  let s := s.wrAll v [CAP.CCTRL_GRP, CAP.CCTRL_FLTEN, CAP.CCTRL_FULLACT] c
  if 1 < countBits v 4 then s.raise CAP.CSTAT_ARMERR c
  else if bitOf v 0 then s.arm c src
  else if bitOf v 1 then s.disarm c
  else if bitOf v 2 then s.actOn c s.now 0 0 0 1 0
  else if bitOf v 3 then s.actOn c s.now 0 0 0 2 0
  else s

/-- The word v with its four action bits replaced by one (R131). -/
def actionWord (v : Word) (b : Nat) : Nat := v.toNat / 16 * 16 + 2 ^ b

/-- R118: a write of CAP_CCTRL with ARM. -/
def execCisternArm (c : CistId) (src : Fin 4096) (v : Word) (s : State) : Result :=
  .next (s.access .CAP 0 fun s => s.writeCctrl c src (actionWord v 0))
/-- R119: a write of CAP_CCTRL with DISARM. -/
def execCisternDisarm (c : CistId) (src : Fin 4096) (v : Word) (s : State) : Result :=
  .next (s.access .CAP 0 fun s => s.writeCctrl c src (actionWord v 1))
/-- R125: a write of CAP_CCTRL with SWSTART. -/
def execSwstart (c : CistId) (src : Fin 4096) (v : Word) (s : State) : Result :=
  .next (s.access .CAP 0 fun s => s.writeCctrl c src (actionWord v 2))
/-- R125: a write of CAP_CCTRL with SWSTOP. -/
def execSwstop (c : CistId) (src : Fin 4096) (v : Word) (s : State) : Result :=
  .next (s.access .CAP 0 fun s => s.writeCctrl c src (actionWord v 3))

/-- R125: the CFE of lane l acknowledges the STOP or FREEZE of its cistern, once its DTC has passed the stamp plus 48 ns. -/
def execCfeStopAck (l : LaneId) (s : State) : Result :=
  let c := s.get CFE.CTRL_CIST l
  let v := s.cist c
  .next (match v.stop with
    | some t =>
      if l.val ∈ v.acks ∧ t + decisionDelay < s.fieldNow (l / 16) ∧ (s.cfe l).pend.all (fun r => decide (t ≤ r.ts)) then
        (s.setCist c { v with acks := v.acks.filter fun x => x != l.val }).maybeDone c
      else s
    | none => s)

/-- R129: the hub updates the entry of a cistern. -/
def execCisternPublish (c : CistId) (s : State) : Result :=
  .next (if s.get CAP.CSTAT_STATE c = 1 then s.publish c 2 0 else if s.get CAP.CSTAT_STATE c = 2 then s.publish c 3 0
    else s.publish c (s.op ((s.cist c).entry.getD 0)).state 0)

/-! Floats (R123-R126, R132). -/

/-- R123: pulses on a mask of float lines in one sequencer cycle. -/
def execFloatPulse (m : BitVec 64) (s : State) : Result := .next (s.pulse m.toNat)

/-- R123, R316: software pulses reach the sequencer, the Furrow sequencers and fabric whatever the state of their fields. -/
def State.writeSwf (s : State) (hi : Bool) (v : Nat) : State :=
  let m := if hi then v * 2 ^ 32 else v
  if m = 0 then s else (((s.countPulse m).wakeFurs m).fabFloats m).emit (.floats m)

/-- R123: a write of the word v to FLT_SWF_LO, or to FLT_SWF_HI where hi holds. -/
def execSoftwareFloat (hi : Bool) (v : Word) (s : State) : Result :=
  .next (s.access .FLT 0 fun s => s.writeSwf hi v.toNat)

/-- R124, R126: a write of the word v to FLT_CTRL. -/
def State.writeFltCtrl (s : State) (v : Nat) : State :=
  let was := s.flag FLT.CTRL_EN
  let s := s.wrAll v [FLT.CTRL_EN, FLT.CTRL_INIT]
  if bitOf v 0 then
    if was then s else ((s.enterFlt (s.get FLT.CTRL_INIT)).raise FLT.STAT_RUN).lower FLT.STAT_FROZEN
  else s.lower FLT.STAT_RUN

/-- R124: a write of FLT_CTRL that sets EN. -/
def execSequencerEnable (v : Word) (s : State) : Result :=
  .next (s.access .FLT 0 fun s => s.writeFltCtrl (setBit v.toNat 0))
/-- R124: a write of FLT_CTRL that clears EN. -/
def execSequencerDisable (v : Word) (s : State) : Result :=
  .next (s.access .FLT 0 fun s => s.writeFltCtrl (clearBit v.toNat 0))

/-- R124, R126: the counter of the current state has reached CMP: the event transition is taken. -/
def execEventTransition (s : State) : Result :=
  .next (if s.flag FLT.STAT_RUN && s.flt.evDue then s.settleFlt else s)

/-- R124, R126: the timer of the current state reaches TLIM: the timer transition is taken, unless the event transition is due. -/
def execTimerTransition (s : State) : Result :=
  .next (if s.flag FLT.STAT_RUN ∧ s.get FLT.TLIM (s.get FLT.STAT_STATE) ≠ 0 then
    let s := s.set FLT.TMR (s.get FLT.TLIM (s.get FLT.STAT_STATE)) (s.get FLT.STAT_STATE)
    { s with flt := { s.flt with tmDue := true } }.settleFlt
  else s)

/-- R132: a read of FLT_TS_LO captures the rest of the stamp of the last transition. -/
def State.readFltTs (s : State) : State :=
  let t := tsOf s.flt.stamp
  (((s.set FLT.TS_LO t).set FLT.TS_MID (t / 2 ^ 32)).set FLT.TS_HI (t / 2 ^ 64)).answerData (bytesLE 4 t)

/-- R132: a read of FLT_TS_LO. -/
def execFloatStampCapture (s : State) : Result :=
  .next (match s.barred .FLT 0 with
    | some st => s.answer st
    | none => s.readFltTs)

end Sys2Proof.Machine
end

