-- ==== Sys2Proof/Machine/Pcs.lean ====
section
/-! DEFINITION. Ports and line coding (spec/03_lane_coding.md): port enables, the WRAW receiver, IEEE 802.3 and PCIe events,
auto-negotiation, training, PRBS patterns and the eye scan. -/
namespace Sys2Proof.Machine

/-! Ports (R80, R88). -/

/-- R80: the ports of a field that are enabled. -/
def State.portCount (s : State) (n : Nat) : Nat := (lanesOf n).countP fun l => s.flag PCS.CTRL_EN l

/-- R80: may the port of anchor a, as its fields stand, be enabled? -/
def State.portOk (s : State) (a : Nat) : Bool :=
  let lanes := s.portLanes a
  let on := lanes.filter fun l => s.flag LN.CTRL_EN l
  decide (s.portCount (fieldOf a) < 8) && a % s.portSize a == 0 &&
  (lanes.all fun l => !s.flag PCS.CTRL_EN l && (s.anchorOf l).isNone) &&
  (on.all fun l => s.laneAllowed a l) &&
  ((on.all fun l => s.flag LN.CTRL_TRAIN l) || on.all fun l => !s.flag LN.CTRL_TRAIN l)

/-- What the PCS of lane l begins with as its port, of anchor a, starts or stops; the scramblers start from all ones, which is the model's
choice in WRAW (DESIGN CHOICE, log entry 59), and in PCIE from the lane's seed. -/
def State.pcsClear (s : State) (a l : Nat) : State :=
  let seed := if s.get PCS.CTRL_MODE a = 3 then pcieSeed (l - a) else 2 ^ 58 - 1
  ((s.lower PCS.STAT_BLOCK_LOCK l).lower PCS.STAT_HIBER l).setLane l { s.lane l with
    hdrRun := 0, hdrWin := [], hiBlk := 0, hiBad := [], synced := false, fifo := [], rxBits := [], scram := seed, txScr := seed
    txBits := [], flips := [], moves := [], skews := [] }

/-! Auto-negotiation: what a port may advertise (R85). -/

/-- R85: the PLL and divider by which a quad produces a lane rate, if any: the lane rate is 4 (1 + MOD) f / 2^D. A PLL counts where it is
enabled and within its range (R49); of several PLLs and dividers that give the rate, PLL A comes first, and the smallest D (DESIGN CHOICE,
log entry 59). -/
def State.rateOf (s : State) (q : Nat) (p : Phy) : Option (Bool × Nat) :=
  let fits (b : Bool) (d : Nat) : Bool :=
    s.flag (pllRegs b).en q && s.pllInRange q b && s.pllFreq q b * 4 * (1 + p.pam4) == p.rate * s.get (pllRegs b).nden q * 2 ^ d
  ([false, true].flatMap fun b => (List.range 7).map fun d => (b, d)).find? fun e => fits e.1 e.2

/-- R85: can the port of anchor a run a PHY? (PRESUMED, log entry 17). -/
def State.phyFits (s : State) (a : Nat) (p : Phy) : Bool :=
  p.lanes == s.portSize a && (s.portLanes a).all fun l => (s.rateOf (quadOf l) p).isSome

/-- R85: a port with AN = 1 withdraws from its advertisement the PHYs that it cannot run, and sets ADVDROP: when it is enabled, at each write
of PCS_ANADV, and when negotiation ends. -/
def State.advertise (s : State) (a : Nat) : State :=
  if s.flag PCS.CTRL_EN a && s.get PCS.CTRL_MODE a == 2 && s.flag PCS.CTRL_AN a &&
      (List.range 15).any fun i => bitOf (s.get PCS.ANADV a) i && !(phyOf i).any fun p => s.phyFits a p then
    s.raise PCS.STAT_ADVDROP a else s

/-- R80: the write that would set EN: the port starts, or is refused with CFGERR (DEDUCED, log entry 55). -/
def State.portStart (s : State) (a : Nat) : State :=
  if s.portOk a then
    let s := ((s.raise PCS.CTRL_EN a).setPort a {}).portCfgerr a
    let s := (s.portLanes a).foldl (fun s l => s.pcsClear a l) s
    (s.advertise a).bypassUp a
  else s.raise PCS.STAT_CFGERR a

/-- R80: the port fields of PCS_CTRL; an undefined encoding leaves a field (R16) (DEDUCED, log entry 16). -/
def State.writePort (s : State) (a v : Nat) : State :=
  s.wrAll v [PCS.CTRL_MODE, PCS.CTRL_WIDTH, PCS.CTRL_ETHPHY, PCS.CTRL_FECBYP, PCS.CTRL_AN, PCS.CTRL_TPROTO, PCS.CTRL_SCRBYP] a

/-- R88, R139: EN is cleared: a frame in progress ends as truncated, and the running sequencers of the port end in FAULT. AN_DONE falls,
and RES_PHY keeps its value, which then is not valid (DESIGN CHOICE, log entry 59: the spec does not say). -/
def State.portStop (s : State) (a : Nat) : State :=
  let s := (s.portLanes a).foldl (fun s l => s.furFault l 6) (s.truncateRx a)
  let s := (s.portLanes a).foldl (fun s l => s.pcsClear a l) s
  (((s.lower PCS.STAT_ALIGN a).lower PCS.STAT_LINK a).lower PCS.STAT_AN_DONE a).lower PCS.CTRL_EN a

/-- R80: a write of the word v to PCS_CTRL. -/
def State.writePcsCtrl (s : State) (a v : Nat) : State :=
  if s.flag PCS.CTRL_EN a then if bitOf v 0 then s else s.portStop a
  else
    let s := s.writePort a v
    if bitOf v 0 then s.portStart a else s

/-- R80: a write of the word v to PCS_CTRL with EN = 1. -/
def execPortEnable (l : LaneId) (v : Word) (s : State) : Result :=
  .next (s.access .PCS (fieldOf l) fun s => s.writePcsCtrl l (setBit v.toNat 0))

/-- R88: a write that clears PCS_CTRL.EN. -/
def execPortDisable (l : LaneId) (s : State) : Result :=
  .next (s.access .PCS (fieldOf l) fun s => if s.flag PCS.CTRL_EN l then s.portStop l else s)

/-! The WRAW receiver (R83). -/

/-- R83: BADHDR and HIBER follow a received header. -/
def State.seeHeader (s : State) (l : Nat) (bad : Bool) : State :=
  let v := s.lane l
  let blk := v.hiBlk + 1
  let recent := (if bad then [blk] else []) ++ v.hiBad.filter fun b => decide (blk < b + 8192)
  let s := s.setLane l { v with hiBlk := blk, hiBad := recent }
  (if bad then s.count PCS.CNT2_BADHDR 1 l else s).setB PCS.STAT_HIBER (decide (16 ≤ recent.length)) l

/-- R83: block lock: gained after 64 consecutive valid headers, lost after 16 invalid ones among 64. -/
def State.blockLock (s : State) (a l : Nat) (bad : Bool) : State :=
  let v := s.lane l
  if s.flag PCS.STAT_BLOCK_LOCK l then
    let win := (bad :: v.hdrWin).take 64
    if 16 ≤ win.countP (· == true) then
      ((s.setLane l { v with hdrRun := 0, hdrWin := [] }).lower PCS.STAT_BLOCK_LOCK l).portLost a
    else s.setLane l { v with hdrWin := win }
  else if bad then s.setLane l { v with hdrRun := 0 }
  else if v.hdrRun + 1 = 64 then (s.setLane l { v with hdrRun := 0, hdrWin := [] }).raise PCS.STAT_BLOCK_LOCK l
  else s.setLane l { v with hdrRun := v.hdrRun + 1 }

/-- R83: the frame in progress ends with a code violation. -/
def State.violate (s : State) (a : Nat) : State :=
  match (s.port a).frame with
  | some (bytes, ts) => s.dealFrame a { bytes := bytes, codeViol := true, ts := ts }
  | none => s

/-- R83: one block of an aligned port: its header, its payload and its time (DEDUCED, log entry 16). -/
def State.wrawBlock (s : State) (a hdr payload ts : Nat) : State :=
  let b := bytesLE 8 payload
  let t := payload % 256
  let p := s.port a
  if hdr = 1 then
    match p.frame with
    | some (bytes, t0) => s.growFrame a (bytes ++ b) t0
    | none => s.emit (.toFabric a b)
  else if hdr = 2 then
    if t = 0xA5 then
      let s := s.violate a
      s.startFrame a (b.drop 1) ts
    else if 0xC0 ≤ t ∧ t ≤ 0xC7 then
      match p.frame with
      | some (bytes, t0) => s.dealFrame a { bytes := bytes ++ (b.drop 1).take (t - 0xC0), ts := t0 }
      | none => s
    else
      let s := s.violate a
      if t = 0 then s else s.emit (.toFabric a b)
  else s.violate a

/-- R83: take the blocks of an aligned port in order, lane after lane. fuel bounds them. -/
def State.takeBlocks (s : State) (a : Nat) : Nat → State
  | 0 => s
  | fuel + 1 =>
    let p := s.port a
    let l := a + p.nextLane
    match (s.lane l).fifo with
    | (hdr, payload, ts) :: rest =>
      let s := s.setLane l { s.lane l with fifo := rest }
      let s := s.setPort a { s.port a with nextLane := (p.nextLane + 1) % s.portSize a }
      (s.wrawBlock a hdr payload ts).takeBlocks a fuel
    | [] => s

/-- R83: the port is aligned once every lane has lock, has met its ALIGN block and is READY. -/
def State.tryAlign (s : State) (a : Nat) : State :=
  if (s.portLanes a).all fun l => (s.lane l).synced && s.flag PCS.STAT_BLOCK_LOCK l && s.get LN.STAT_STATE l == 5 then
    s.portUp a
  else s

/-- R83: a descrambled block of a locked lane: an ALIGN block marks the slot and is removed; the others wait for deskew. -/
def State.deskew (s : State) (a l hdr payload : Nat) : State :=
  let v := s.lane l
  if hdr = 2 ∧ payload % 256 = 0x4B then
    if v.synced then s
    else if bitsOf payload 8 8 = l - a then (s.setLane l { v with synced := true, fifo := [] }).tryAlign a
    else s
  else if v.synced then
    let s := (s.setLane l { v with fifo := v.fifo ++ [(hdr, payload, s.rxStamp l)] }).used
    if 32 < (s.lane l).fifo.length then
      if s.flag PCS.STAT_ALIGN a then s.portLost a else s.setLane l { v with synced := false, fifo := [] }
    else if s.flag PCS.STAT_ALIGN a then s.takeBlocks a (s.portSize a * 40) else s
  else s

/-- R83: a 66-bit block reaches lane l of a WRAW port. -/
def State.wrawReceive (s : State) (a l hdr payload : Nat) : State :=
  let bad := hdr == 0 || hdr == 3
  let s := (s.seeHeader l bad).blockLock a l bad
  let r := descramble (s.lane l).scram payload 0 64
  let s := s.setLane l { s.lane l with scram := r.1 }
  if s.flag PCS.STAT_BLOCK_LOCK l then s.deskew a l hdr (if s.flag PCS.CTRL_SCRBYP a then payload else r.2) else s

/-- R67, R77, R83: a block is received from the balls. -/
def execWrawBlockReceive (l : LaneId) (hdr : Fin 4) (payload : BitVec 64) (s : State) : Result :=
  .next (match s.anchorOf l with
  | some a =>
    if s.get PCS.CTRL_MODE a = 1 ∧ s.fromBalls l then
      (s.echoBits l (bitList hdr 0 2 ++ bitList payload.toNat 0 64)).wrawReceive a l hdr payload.toNat
    else s
  | none => s)

/-- R77, R83: the line bits that wait in a lane of a WRAW port in NEAR loop-back are taken as blocks; a lane without lock moves on by one bit
where it finds no valid header. fuel bounds the bits. -/
def State.wrawStream (s : State) (a l : Nat) : Nat → State
  | 0 => s
  | fuel + 1 =>
    let b := (s.lane l).rxBits
    if b.length < 66 then s
    else
      let hdr := natOfBits (b.take 2)
      if (hdr = 0 ∨ hdr = 3) ∧ s.flag PCS.STAT_BLOCK_LOCK l = false then
        (((s.setLane l { s.lane l with rxBits := b.drop 1 }).seeHeader l true).blockLock a l true).wrawStream a l fuel
      else
        ((s.setLane l { s.lane l with rxBits := b.drop 66 }).wrawReceive a l hdr (natOfBits ((b.drop 2).take 64))).wrawStream a l fuel

/-! IEEE 802.3 and PCIe (R84, R87). -/

/-- R84: is the FCS of a frame wrong? -/
def fcsWrong (f : List Byte) : Bool := decide (f.length < 4) || f.drop (f.length - 4) != fcsBytes (f.take (f.length - 4))

/-- R84, R85: the PHY of a port has an RS FEC. -/
def State.hasFec (s : State) (a : Nat) : Bool :=
  (phyOf (if s.flag PCS.CTRL_AN a then s.get PCS.STAT_RES_PHY a else s.get PCS.CTRL_ETHPHY a)).any fun p => p.rs

/-- R84: what a port in ETH makes of what lane l receives (DEDUCED, log entry 16). -/
def State.ethReceive (s : State) (a l : Nat) (e : EthRx) : State :=
  match e with
  | .lock true => s.raise PCS.STAT_BLOCK_LOCK l
  | .lock false => if s.flag PCS.STAT_BLOCK_LOCK l then (s.lower PCS.STAT_BLOCK_LOCK l).portLost a else s
  | .align => if (s.portLanes a).all fun l => s.get LN.STAT_STATE l == 5 then s.portUp a else s
  | .misalign => if s.flag PCS.STAT_ALIGN a then s.portLost a else s
  | .hiber on => s.setB PCS.STAT_HIBER on a
  | .codeword ok => if !s.hasFec a then s else if ok && !s.flag PCS.CTRL_FECBYP a then s.count PCS.CNT0_FECCOR 1 a else s.count PCS.CNT1_FECUNC 1 a
  | .frame bytes bad =>
    if s.flag PCS.STAT_LINK a then
      let s := if (s.port a).frame.isSome then s else s.startFrame a [] (s.rxStamp l)
      let f := (s.port a).frame.getD ([], 0)
      (s.dealFrame a { bytes := f.1 ++ bytes, codeViol := bad, fcsErr := fcsWrong (f.1 ++ bytes), ts := f.2 }).used else s
  | .start => if s.flag PCS.STAT_LINK a then ((s.violate a).startFrame a [] (s.rxStamp l)).used else s
  | .data bytes =>
    match (s.port a).frame with
    | some (b, ts) => s.growFrame a (b ++ bytes) ts
    | none => s
  | .control chars => if s.flag PCS.STAT_LINK a then s.emit (.toFabric a chars) else s
  | .fault remote => if s.flag PCS.STAT_LINK a then s.emit (.pcsSignal a (if remote then .remoteFault else .localFault true)) else s

/-- R84: an ETH port receives. -/
def execEthBlockReceive (l : LaneId) (e : EthRx) (s : State) : Result :=
  .next (match s.anchorOf l with
  | some a => if s.get PCS.CTRL_MODE a = 2 ∧ s.hears l then s.ethReceive a l e else s
  | none => s)

/-- R82, R87: a block of lane l of a PCIE port is descrambled; SKP ordered sets go no further than the elastic buffer, and an invalid sync
header counts. Fabric gets the sync header and the sixteen bytes. -/
def State.pcieReceive (s : State) (a l sync : Nat) (bytes : List Byte) : State :=
  if sync = 0 ∨ sync = 3 then s.count PCS.CNT2_BADHDR 1 l
  else
    let v := natLE (bytes.take 16)
    let r := pcieBlock (l - a) (s.lane l).scram sync v
    let s := s.setLane l { s.lane l with scram := r.1 }
    if s.flag PCS.STAT_LINK a && !isSkp sync v then s.emit (.toFabric l (BitVec.ofNat 8 sync :: bytesLE 16 r.2)) else s

/-- R87: a PCIE port receives. It sets ALIGN and LINK once every lane has block lock (DESIGN CHOICE, log entry 59: the spec does not say
when). -/
def execPcieBlockReceive (l : LaneId) (e : PcieRx) (s : State) : Result :=
  .next (match s.anchorOf l with
  | some a =>
    if s.get PCS.CTRL_MODE a = 3 ∧ s.hears l then
      match e with
      | .lock true =>
        let s := s.raise PCS.STAT_BLOCK_LOCK l
        if (s.portLanes a).all fun k => s.flag PCS.STAT_BLOCK_LOCK k then s.portUp a else s
      | .lock false => if s.flag PCS.STAT_BLOCK_LOCK l then (s.lower PCS.STAT_BLOCK_LOCK l).portLost a else s
      | .block sync bytes => (s.echoBits l (bitList sync 0 2 ++ bitList (natLE bytes) 0 128)).pcieReceive a l sync bytes
    else s
  | none => s)

/-- Give lane l a divider, a modulation, a class, a PLL and precoding, and restart it where it is enabled (R85, R87); the floats of its port
have been pulsed. -/
def State.relane (s : State) (l div mod cls : Nat) (pllB prec : Bool) : State :=
  let s := if s.get LN.STAT_STATE l = 5 then s.leaveReady l true else s
  let s := ((((s.set LN.CTRL_DIV div l).set LN.CTRL_MOD mod l).set LN.CTRL_RCLASS cls l).setB LN.CTRL_PLLSEL pllB l).setB LN.CTRL_PRECODE prec l
  let s := s.showEntry l
  if s.flag LN.CTRL_EN l then s.startLane l else s

/-- R87: fabric asks port a for rate r: 0 8 GT/s, 1 16 GT/s, 2 32 GT/s. -/
def execPcieRateChange (a : LaneId) (r : Fin 3) (s : State) : Result :=
  .next (if s.flag PCS.CTRL_EN a && s.get PCS.CTRL_MODE a == 3 then
    (s.portLanes a).foldl (fun s l => s.relane l (3 - r) (s.get LN.CTRL_MOD l) (r + 1) (s.flag LN.CTRL_PLLSEL l) (s.flag LN.CTRL_PRECODE l))
      (s.lanesFloat (s.portLanes a))
  else s)

/-! Auto-negotiation (R85). -/

/-- R85: negotiation ends against a partner that advertises a set of PHYs; prec is the precoding it agreed. PHYs of 200 Gbit/s
a lane are not advertised. The highest code of a width is the highest in the priority order of IEEE 802.3 (PRESUMED)
(PRESUMED, log entry 17). -/
def State.autoneg (s : State) (a partner : Nat) (prec : Bool) : State :=
  let adv := s.get PCS.ANADV a
  let wanted := (List.range 15).filter fun i => bitOf adv i && i != 0xC && i != 0xE
  let fit (i : Nat) : Bool := (phyOf i).any fun p => s.phyFits a p
  let s := s.advertise a
  match ((wanted.filter fun i => fit i && bitOf partner i).reverse).head? with
  | none => (s.raise PCS.STAT_AN_NOCOMMON a).lower PCS.STAT_AN_DONE a
  | some i =>
    let s := (s.set PCS.STAT_RES_PHY i a).raise PCS.STAT_AN_DONE a
    match phyOf i with
    | none => s
    | some p => (s.portLanes a).foldl (fun s l =>
        match s.rateOf (quadOf l) p with
        | some (b, d) => s.relane l d p.pam4 p.cls b prec
        | none => s) (s.lanesFloat (s.portLanes a))

/-- R85: negotiation resolves. -/
def execAutonegResolved (a : LaneId) (partner : Fin 32768) (prec : Bool) (s : State) : Result :=
  .next (if s.flag PCS.CTRL_EN a && s.get PCS.CTRL_MODE a == 2 && s.flag PCS.CTRL_AN a then s.autoneg a partner prec else s)

/-! Training (R86, R89-R94). -/

/-- The training protocol of a lane in TRAIN, which it keeps where its port is disabled meanwhile: 0 IEEE, 1 WELISKO, 2 FABRIC. -/
def State.trainProto (s : State) (l : Nat) : Option Nat :=
  if s.get LN.STAT_STATE l = 4 then some (s.lane l).train.proto else none

/-- R65, R94: training fails: the table's start coefficients and AMP, and ACQ. -/
def State.trainFail (s : State) (l : Nat) : State :=
  let s := (((s.loadTx l).raise LN.STAT_TRAIN_FALLBACK l).set LN.STAT_STATE 3 l).set PCS.STAT_TRNST 5 l
  s.setLane l { s.lane l with trained := true, train := {} }

/-- R86, R93: training ends, and the lane goes through ACQ to READY. -/
def State.trainDone (s : State) (l : Nat) (prec : Option (Bool × Bool)) : State :=
  let s := (s.set LN.STAT_STATE 3 l).set PCS.STAT_TRNST 4 l
  s.setLane l { s.lane l with trained := true, train := {}, precTx := prec.map (·.1), precRx := prec.map (·.2) }

/-- R93: both countdowns have completed. -/
def State.trainSettle (s : State) (l : Nat) : State :=
  let t := (s.lane l).train
  if t.ownDone && t.partnerDone then s.trainDone l (some (t.partnerPrec, s.flag PCS.TRNCFG_PRECREQ l)) else s

def State.setTrain (s : State) (l : Nat) (t : TrainSt) : State := s.setLane l { s.lane l with train := t }

/-- A transmit set as six taps, and back. -/
def TxSet.taps (t : TxSet) : List Int := [t.pre3, t.pre2, t.pre1, t.main, t.post1, t.post2]
def ofTaps (l : List Int) : TxSet := ⟨l.getD 0 0, l.getD 1 0, l.getD 2 0, l.getD 3 0, l.getD 4 0, l.getD 5 0⟩

/-- R92: the set that a request leads to: none where its code is invalid, the present one for hold. -/
def State.requested (s : State) (l ctl : Nat) (now : TxSet) : Option TxSet :=
  let sel := bitsOf ctl 0 3
  let req := bitsOf ctl 3 2
  match bitsOf ctl 5 2 with
  | 1 => let e := s.entryWord l (s.get LN.CTRL_RCLASS l); some (txStart (e 1) (e 2))
  | 2 => some ⟨0, 0, 0, 64, 0, 0⟩
  | 3 => none
  | _ =>
    if req = 0 then some now
    else if req = 3 ∨ sel = 3 ∨ 6 ≤ sel then none
    else
      let old := now.taps.getD sel 0
      let new := if req = 1 then old + 1 else old - 1
      some (ofTaps ((now.taps.set sel new).set 3 (now.main + old.natAbs - new.natAbs)))

/-- R92: act on the partner's request of a control word (DEDUCED, log entry 16). -/
def State.actOnRequest (s : State) (l ctl : Nat) : State :=
  let t := (s.lane l).train
  if bitsOf ctl 8 4 = t.ackSeq ∨ t.cd.isSome ∨ t.ownDone then s
  else
    let t : TrainSt := { t with ackSeq := bitsOf ctl 8 4 }
    let now := (t.newSet.map ofTaps).getD (s.txSet l)
    match s.requested l ctl now with
    | none => s.setTrain l { t with ackRes := 3 }
    | some w =>
      if w = now then s.setTrain l { t with ackRes := 1 }
      else if s.txOk l w then s.setTrain l { t with ackRes := 1, newSet := some w.taps }
      else s.setTrain l { t with ackRes := 2 }

/-- R92-R94: a valid frame with its control and status words. -/
def State.trainFrame (s : State) (l ctl st : Nat) : State :=
  if bitsOf st 13 3 ≠ 1 then s.trainFail l
  else
    let t := (s.lane l).train
    let s := s.setTrain l { t with
      seen := true
      badRun := 0
      partnerPrec := bitOf ctl 12
      gotSeq := bitsOf st 0 4
      readyRun := if bitOf ctl 7 then t.readyRun + 1 else 0
      partnerDone := t.partnerDone || (bitOf st 12 && bitsOf st 8 4 == 0) }
    let s := if s.get PCS.STAT_TRNST l = 1 then s.set PCS.STAT_TRNST 2 l else s
    (s.actOnRequest l ctl).trainSettle l

/-- R89, R94: an invalid frame. -/
def State.trainBad (s : State) (l : Nat) : State :=
  let t := (s.lane l).train
  if t.seen then
    if t.badRun + 1 = 64 then s.trainFail l else s.setTrain l { t with badRun := t.badRun + 1, readyRun := 0 }
  else s

/-- R89, R92: a training frame with its cell, bit i received i-th, and whether its marker was found. -/
def execTrainingFrameReceive (l : LaneId) (cell : BitVec 64) (marker : Bool) (s : State) : Result :=
  .next (if s.trainProto l = some 1 then
    let c := cell.toNat
    if marker && trainCell (bitsOf c 0 24) (bitsOf c 24 24) == c then s.trainFrame l (bitsOf c 0 24) (bitsOf c 24 24) else s.trainBad l
  else s)

/-- R53, R67, R77, R89: a training frame leaves by the balls, with its polarity; in NEAR loop-back it comes back to the lane's receiver, and with
TXEN = 0 nothing is sent. -/
def State.trainEmit (s : State) (l ctl st : Nat) : State :=
  if s.flag LN.CTRL_TXEN l = false then s
  else if s.get LN.CTRL_LOOP l = 1 then s.trainFrame l ctl st
  else s.emit (.trainFrame l ((trainSymbols (trainCell ctl st)).map fun v => if s.txInv l then -v else v))

/-- R93: once RXREADY = 1 has been sent and the partner's has come in 16 consecutive valid frames, the next frame sent carries CD = 15. -/
def State.trainCount (s : State) (l : Nat) : State :=
  let t := (s.lane l).train
  if t.rxReady && decide (16 ≤ t.readyRun) && t.cd.isNone then
    (s.setTrain l { t with cd := some 15 }).set PCS.STAT_TRNST 3 l else s

/-- R89-R93: the lane sends a frame; req is the request that its receiver issues next, and ready tells that the receiver is
trained. After its frame with CD = 0 a lane sends the PCS stream, and no more frames. -/
def State.trainSend (s : State) (l : Nat) (req : Option Nat) (ready : Bool) : State :=
  if (s.lane l).train.ownDone then s
  else
  let s := s.trainCount l
  let t := (s.lane l).train
  let s := match t.newSet with
    | some w => s.setTx l (ofTaps w)
    | none => s
  let t : TrainSt := { t with newSet := none, rxReady := ready }
  let t : TrainSt := match req with
    | some r => if t.gotSeq = t.reqSeq then { t with req := r % 128, reqSeq := (t.reqSeq + 1) % 16 } else t
    | none => t
  let ctl := t.req + ready.toNat * 2 ^ 7 + t.reqSeq * 2 ^ 8 + s.get PCS.TRNCFG_PRECREQ l * 2 ^ 12
  let st := t.ackSeq + t.ackRes * 2 ^ 4 + t.partnerPrec.toNat * 2 ^ 6 + t.cd.getD 0 * 2 ^ 8 + t.cd.isSome.toNat * 2 ^ 12 + 2 ^ 13
  let t : TrainSt := match t.cd with
    | some 0 => { t with cd := none, ownDone := true }
    | some (c + 1) => { t with cd := some c }
    | none => t
  ((s.setTrain l t).trainEmit l ctl st).trainSettle l

/-- R89: a training frame is sent. -/
def execTrainingFrameSend (l : LaneId) (req : Option (Fin 128)) (ready : Bool) (s : State) : Result :=
  .next (if s.trainProto l = some 1 then s.trainSend l (req.map (·.val)) ready else s)

/-- R94: 10 ms without a valid frame. -/
def execTrainNoFrameTimeout (l : LaneId) (s : State) : Result :=
  .next (if s.trainProto l = some 1 ∧ (s.lane l).train.seen = false then s.trainFail l else s)

/-- R86, R94: TMAX expires. -/
def execTrainTmaxTimeout (l : LaneId) (s : State) : Result :=
  .next (if s.trainProto l = some 1 ∨ s.trainProto l = some 2 then s.trainFail l else s)

/-- R86: fabric strobes a six-tap set. -/
def execFabricTrainStrobe (l : LaneId) (pre3 pre2 pre1 main post1 post2 : Int) (s : State) : Result :=
  .next (if s.trainProto l = some 2 then
    let t : TxSet := ⟨pre3, pre2, pre1, main, post1, post2⟩
    if s.txOk l t then s.setTx l t else s.emit (.trainReject l)
  else s)

/-- R86: fabric raises the done input. -/
def execFabricTrainDone (l : LaneId) (s : State) : Result :=
  .next (if s.trainProto l = some 2 then s.trainDone l none else s)

/-- R86: fabric raises the fail input. -/
def execFabricTrainFail (l : LaneId) (s : State) : Result :=
  .next (if s.trainProto l = some 2 then s.trainFail l else s)

/-- R86: training by IEEE 802.3. POST2 keeps its table start value (DEDUCED, log entry 16). -/
def execIeeeTrainingFrameReceive (l : LaneId) (e : IeeeTrain) (s : State) : Result :=
  .next (if s.trainProto l = some 0 then
    match e with
    | .request pre3 pre2 pre1 main post1 =>
      let w := s.entryWord l (s.get LN.CTRL_RCLASS l)
      let t : TxSet := ⟨pre3, pre2, pre1, main, post1, (txStart (w 1) (w 2)).post2⟩
      if s.txOk l t then (s.setTx l t).emit (.coefStatus l true) else s.emit (.coefStatus l false)
    | .done => s.trainDone l none
    | .fail => s.trainFail l
  else s)

/-! PRBS (R95). -/

/-- R95: the checker of lane l is on, and its pattern suits the modulation. -/
def State.prbsOn (s : State) (l : Nat) : Bool :=
  s.flag PCS.PRBS_CHKEN l && (s.get PCS.PRBS_CHKPAT l != 6 || s.flag LN.CTRL_MOD l)

/-- R95: count checked bits and errors, until PBIT is full. -/
def State.prbsCount (s : State) (l : Nat) (err : Bool) : State :=
  if s.get LN.STAT_STATE l ≠ 5 ∨ s.flag PCS.PRBSST_SAT l then s
  else
    let s := s.wrap2 PCS.PBIT_LO PCS.PBIT_HI 1 l
    let s := if err then s.wrap2 PCS.PERR_LO PCS.PERR_HI 1 l else s
    if s.get2 PCS.PBIT_LO PCS.PBIT_HI l = 2 ^ 48 - 1 then s.raise PCS.PRBSST_SAT l else s

/-- R95: one bit at the checker of SSPRQ, which finds its place in the pattern by search: without sync, an error moves it on by one bit. -/
def State.ssprqBit (s : State) (l : Nat) (b : Bool) : State :=
  let v := s.lane l
  let err := b != Config.ssprq v.prbsReg
  if s.flag PCS.PRBSST_SYNC l then
    let v := { v with prbsReg := (v.prbsReg + 1) % 131070 }
    let win := (err :: v.prbsWin).take 256
    let s := s.prbsCount l err
    if 32 ≤ win.countP (· == true) then
      ((s.setLane l { v with prbsRun := 0, prbsWin := [] }).lower PCS.PRBSST_SYNC l).raise PCS.PRBSST_SYNCLOST l
    else s.setLane l { v with prbsWin := win }
  else if err then s.setLane l { v with prbsReg := (v.prbsReg + 2) % 131070, prbsRun := 0 }
  else if v.prbsRun + 1 = 64 then (s.setLane l { v with prbsReg := (v.prbsReg + 1) % 131070, prbsRun := 0, prbsWin := [] }).raise PCS.PRBSST_SYNC l
  else s.setLane l { v with prbsReg := (v.prbsReg + 1) % 131070, prbsRun := v.prbsRun + 1 }

/-- R95: one bit at the checker. Without sync, an error makes it load its register anew from that bit (DESIGN CHOICE, log entry 59). -/
def State.prbsBit (s : State) (l : Nat) (b : Bool) : State :=
  let v := s.lane l
  let pat := s.get PCS.PRBS_CHKPAT l
  let order := (prbsTaps pat).1
  let ready := decide (order ≤ v.prbsLoaded)
  let want := prbsNext pat v.prbsReg
  let err := b != want
  let feed := if s.flag PCS.PRBSST_SYNC l then want else b
  let v : LaneSt := { v with prbsReg := v.prbsReg * 2 % 2 ^ order + feed.toNat, prbsLoaded := v.prbsLoaded + 1 }
  if s.flag PCS.PRBSST_SYNC l then
    let win := (err :: v.prbsWin).take 256
    let s := s.prbsCount l err
    if 32 ≤ win.countP (· == true) then
      ((s.setLane l { v with prbsLoaded := 0, prbsRun := 0, prbsWin := [] }).lower PCS.PRBSST_SYNC l).raise PCS.PRBSST_SYNCLOST l
    else s.setLane l { v with prbsWin := win }
  else if !ready then s.setLane l v
  else if err then s.setLane l { v with prbsLoaded := 1, prbsRun := 0 }
  else if v.prbsRun + 1 = 64 then (s.setLane l { v with prbsRun := 0, prbsWin := [] }).raise PCS.PRBSST_SYNC l
  else s.setLane l { v with prbsRun := v.prbsRun + 1 }

/-- R82: the line bits of lane l of a BYPASS port go to fabric in words of 128 bits, or of 512 in classes 5 and 6. fuel bounds the words. -/
def State.fabricWords (s : State) (l : Nat) : Nat → State
  | 0 => s
  | fuel + 1 =>
    let b := (s.lane l).rxBits
    let w := if 5 ≤ s.get LN.CTRL_RCLASS l then 512 else 128
    if b.length < w then s
    else ((s.setLane l { s.lane l with rxBits := b.drop w }).emit (.toFabric l (bytesOfBits (w / 8) b))).fabricWords l fuel

/-- R53, R82, R95: symbols (places on the line) are delivered to the PCS of lane l: the checker takes their bits as they stand (precoding is
not applied to patterns); in a BYPASS port they go to fabric, decoded where the lane decodes precoding. -/
def State.hearPlaces (s : State) (l : Nat) (ps : List Nat) : State :=
  let pam := s.flag LN.CTRL_MOD l
  let s := if s.prbsOn l then (bitsOfPlaces pam ps).foldl (fun s b => if s.get PCS.PRBS_CHKPAT l = 6 then s.ssprqBit l b else s.prbsBit l b) s else s
  match s.anchorOf l with
  | some a =>
    if s.get PCS.CTRL_MODE a = 0 && s.flag PCS.STAT_LINK a then
      let r := if s.precodesRx l then unprecode (s.lane l).rxPrev ps else (ps, (s.lane l).rxPrev)
      let b := (s.lane l).rxBits ++ bitsOfPlaces pam r.1
      (s.setLane l { s.lane l with rxBits := b, rxPrev := r.2 }).fabricWords l b.length
    else s
  | none => s

/-- R53, R77, R95: the receiver decides symbols by the levels at the receive balls, with its polarity: they are delivered, and retransmitted in
FAR (DEDUCED, log entry 16). -/
def execPrbsCheck (l : LaneId) (v : List Int) (s : State) : Result :=
  .next (if s.fromBalls l then
    let ps := v.map fun x => placeOfLevel (s.flag LN.CTRL_MOD l) (if s.rxInv l then -x else x)
    (s.echoPlaces l ps).hearPlaces l ps
  else s)

/-- R95: the generator of lane l runs: it is on, and its pattern suits the modulation. -/
def State.genOn (s : State) (l : Nat) : Bool :=
  s.flag PCS.PRBS_GENEN l && (s.get PCS.PRBS_GENPAT l != 6 || s.flag LN.CTRL_MOD l)

/-- R95: INJ: the next transmitted pattern bit is inverted where the generator sends. -/
def State.prbsInject (s : State) (l : Nat) : State :=
  if s.genOn l && s.get LN.STAT_STATE l != 4 then s.setLane l { s.lane l with genInj := true } else s

/-- R95: CLR. -/
def State.prbsClear (s : State) (l : Nat) : State :=
  ((s.set2 PCS.PERR_LO PCS.PERR_HI 0 l).set2 PCS.PBIT_LO PCS.PBIT_HI 0 l).lower PCS.PRBSST_SAT l

/-- R95, R98: a write of the word v to PCS_PRBS. A checker that is switched on or off or given another pattern loses SYNC and its place, and
a generator so changed starts its pattern anew (DESIGN CHOICE, log entry 59: the spec says neither). -/
def State.writePrbs (s : State) (l v : Nat) : State :=
  let old := (s.get PCS.PRBS_CHKPAT l, s.get PCS.PRBS_CHKEN l)
  let gen := (s.get PCS.PRBS_GENPAT l, s.get PCS.PRBS_GENEN l)
  let s := s.wrAll v [PCS.PRBS_GENPAT, PCS.PRBS_GENEN, PCS.PRBS_CHKPAT, PCS.PRBS_CHKEN] l
  let s := if (s.get PCS.PRBS_GENPAT l, s.get PCS.PRBS_GENEN l) = gen then s else s.setLane l { s.lane l with gen := 0, genInj := false }
  let s := if (s.get PCS.PRBS_CHKPAT l, s.get PCS.PRBS_CHKEN l) = old then s
    else (s.lower PCS.PRBSST_SYNC l).setLane l { s.lane l with prbsReg := 0, prbsLoaded := 0, prbsRun := 0, prbsWin := [] }
  let s := if bitOf v 8 then s.prbsInject l else s
  if bitOf v 9 then s.prbsClear l else s

/-- R95: a write of INJ. -/
def execPrbsInject (l : LaneId) (s : State) : Result := .next (s.access .PCS (fieldOf l) fun s => s.prbsInject l)

/-- R95: a write of CLR. -/
def execPrbsClear (l : LaneId) (s : State) : Result := .next (s.access .PCS (fieldOf l) fun s => s.prbsClear l)

/-! Signal quality (R96, R97). -/

/-- R96: a request for an eye scan, decided at the write. -/
def State.eyeScan (s : State) (l e src : Nat) : State :=
  let buf := s.get2 PCS.EYEBUF_BUF_LO PCS.EYEBUF_BUF_HI l
  if s.opBusy e then s.raise PCS.STAT_EYEERR l
  else if (s.lane l).eye.isSome then s.opRefuse e 0x0103 src
  else if s.get LN.STAT_STATE l ≠ 5 then s.opBegin e 0x0103 5 0x0103 src noResult
  else if buf % 256 ≠ 0 then s.opBegin e 0x0103 5 0x0105 src noResult
  else (s.opBegin e 0x0103 2 0 src noResult).setLane l { s.lane l with eye := some (e, 0, buf) }

/-- R96, R98: a write of the word v to PCS_EYE; a request with EYE 0x3 is ignored, on an NRZ lane too, although EYE itself is ignored there
(DESIGN CHOICE, log entry 59). -/
def State.writeEye (s : State) (l v src : Nat) : State :=
  if bitOf v 0 && bitsOf v 1 2 != 3 then s.eyeScan l (bitsOf v 16 10) src else s

/-- R96: a write of the word v to PCS_EYE with GO = 1. -/
def execEyeScanStart (l : LaneId) (src : Fin 4096) (v : Word) (s : State) : Result :=
  .next (s.access .PCS (fieldOf l) fun s => s.writeEye l (setBit v.toNat 0) src)

/-- R96: a phase column is complete, with the error counts of its 64 thresholds; the source is the FCC of the field
(PRESUMED) (PRESUMED, log entry 18). -/
def State.eyeColumn (s : State) (l : Nat) (counts : List Nat) : State :=
  match (s.lane l).eye with
  | none => s
  | some (e, done, buf) =>
    let bytes := (List.range 64).flatMap fun v => bytesLE 4 (min 0xFFFFFF (counts.getD v 0))
    let t := s.netStore .wr (fieldOf l * 256 + 0x80) 0 (buf + 256 * done) bytes
    if t.2 = .waits then s
    else if t.2 ≠ .ok then (t.1.setLane l { t.1.lane l with eye := none }).opFail e 0x0105
    else
      let s := t.1.opMove e (if done = 63 then 4 else 3) (1024 * (done + 1)) []
      let s := s.setOp e { s.op e with result := buf }
      s.setLane l { s.lane l with eye := if done = 63 then none else some (e, done + 1, buf) }

/-- R96: a phase column is complete (PRESUMED, log entry 18). -/
def execEyeColumnDone (l : LaneId) (counts : List Nat) (s : State) : Result := .next (s.eyeColumn l counts)

/-- R97: CLR. -/
def State.histClear (s : State) (l : Nat) : State := (List.range 16).foldl (fun s b => s.set PCS.HBIN 0 l b) s

/-- R97, R98: a write of the word v to PCS_HIST. -/
def State.writeHist (s : State) (l v : Nat) : State :=
  let s := s.wrAll v [PCS.HIST_EN, PCS.HIST_FRZ] l
  if bitOf v 2 then s.histClear l else s

/-- R97: a write of CLR. -/
def execHistClear (l : LaneId) (s : State) : Result := .next (s.access .PCS (fieldOf l) fun s => s.histClear l)

/-- R97: lane l samples one decision for each 32 of the n symbols that it receives in a cycle; the difference of the candidate metrics is
open, and counts in the bin of its quarter, bin 15 from 60 on. -/
def State.histSample (s : State) (l n : Nat) : State :=
  if decide (5 ≤ s.get LN.CTRL_RCLASS l) && !s.flag LN.CTRL_MLSE_DIS l && s.hears l then
    let acc := (s.lane l).histAcc + n
    let s := s.setLane l { s.lane l with histAcc := acc % 32 }
    if s.flag PCS.HIST_EN l && !s.flag PCS.HIST_FRZ l then
      (List.range (acc / 32)).foldl (fun s _ => (s.count PCS.HBIN 1 l (min 15 (s.openValue .histogram / 4))).used) s
    else s
  else s

end Sys2Proof.Machine
end

