-- ==== Sys2Proof/Machine/Furrow.lean ====
section
/-! DEFINITION. Furrow sequencers (spec/05_furrow.md): their states and commands, the pattern instructions, and the frames
that they send. -/
namespace Sys2Proof.Machine

/-! States and commands (R133-R139). -/

/-- The source ID of a sequencer (R182). -/
def furSrc (l : Nat) : Nat := fieldOf l * 256 + 0x10 + l % 16

/-- R137: a command written in a state that does not list it. -/
def State.furRefuse (s : State) (l : Nat) : State := s.raise FUR.STAT_CMDERR l

/-- Is the state one of LOADED, DONE and FAULT? -/
def furRested (st : Nat) : Bool := st == 1 || st == 5 || st == 6

/-- R133: a write of OWN. -/
def State.furOwn (s : State) (l : Nat) (own : Bool) : State :=
  let st := s.get FUR.STAT_STATE l
  if own = s.flag FUR.CTRL_OWN l then s
  else if st = 2 ∨ st = 3 ∨ st = 4 then s.furRefuse l
  else s.setB FUR.CTRL_OWN own l

/-- R138: LOAD. -/
def State.furLoad (s : State) (l : Nat) : State :=
  let s := s.wakeQuad (quadOf l)
  let st := s.get FUR.STAT_STATE l
  if st = 0 ∨ furRested st then (s.set FUR.STAT_STATE 7 l).set FUR.STAT_ERR 0 l else s.furRefuse l

/-- R138: the state to which ARM resets a sequencer, its program kept. -/
def FurSt.armed (v : FurSt) : FurSt := { prog := v.prog }

/-- R134: the PCS mode of the lane's port, where it belongs to one: 0 BYPASS, 1 WRAW, 2 ETH, 3 PCIE. -/
def State.furMode (s : State) (l : Nat) : Option Nat := (s.anchorOf l).map fun a => s.get PCS.CTRL_MODE a

/-- R138, R139: the checks of an ARM: the code of ERR, 0 for none. -/
def State.furCheckArm (s : State) (l : Nat) : Nat :=
  if (s.furProg l).any (s.furBadDesc l) then 3
  else if s.furNames l 1 && !s.bit GLB.AVAIL_QDRUP (fieldOf l) then 4
  else if s.furNames l 0 && !s.flag GLB.AVAIL_HBMUP then 5
  else if s.furMode l = none ∨ s.furMode l = some 3 then 6
  else 0

/-- R138: the resets of an ARM: PC, loop counters, cursors, slots, check-sequence mode and skew. -/
def State.furReset (s : State) (l : Nat) : State :=
  let s := (List.range 4).foldl (fun s c => s.set FUR.LC 0 l c) (s.set FUR.PC 0 l)
  s.setFur l (s.fur l).armed

/-- R138: ARM: the descriptor and HBM checks, which one that fails leaves in LOADED with the program's state as it was, and then the resets. A
fenced field's sequencers stay where they are (R224). -/
def State.furArm (s : State) (l : Nat) : State :=
  let s := s.wakeQuad (quadOf l)
  if s.flag FLF.FSTAT_FENCED (8 * fieldOf l) then s
  else if furRested (s.get FUR.STAT_STATE l) then
    let e := s.furCheckArm l
    if e = 0 then ((s.set FUR.STAT_STATE 2 l).set FUR.STAT_ERR 0 l).furReset l
    else (s.set FUR.STAT_STATE 1 l).set FUR.STAT_ERR e l
  else s.furRefuse l

/-- Enter RUNNING with a launch instant. -/
def State.furRun (s : State) (l launch : Nat) : State :=
  (s.set FUR.STAT_STATE 4 l).setFur l { s.fur l with launch := launch, first := true, prevEnd := launch }

/-- R137: GO. -/
def State.furGo (s : State) (l : Nat) : State :=
  if s.get FUR.STAT_STATE l = 3 ∧ s.flag FUR.CTRL_TIMED l = false then s.furRun l (s.fieldNow (fieldOf l)) else s.furRefuse l

/-- R137: to DONE: nothing more is sent. -/
def State.furEnd (s : State) (l : Nat) : State :=
  (s.set FUR.STAT_STATE 5 l).setFur l { s.fur l with
    build := [], whole := false, got := 0, sending := none, rep := none, waitTime := none, waitFloat := none, save := none, stop := false }

/-- R137: STOP: DONE at the end of the frame in progress. -/
def State.furStop (s : State) (l : Nat) : State :=
  if s.get FUR.STAT_STATE l = 4 then
    if (s.fur l).sending.isNone then s.furEnd l else s.setFur l { s.fur l with stop := true }
  else s.furRefuse l

/-- R137: ABORT: DONE at once; a frame in progress is broken. -/
def State.furAbort (s : State) (l : Nat) : State :=
  if s.get FUR.STAT_STATE l = 4 then (s.furBreak l).furEnd l else s.furRefuse l

/-- R137: DISARM: to LOADED (DESIGN CHOICE, log entry 20). -/
def State.furDisarm (s : State) (l : Nat) : State :=
  let st := s.get FUR.STAT_STATE l
  if st = 2 ∨ st = 3 ∨ st = 5 ∨ st = 6 then s.set FUR.STAT_STATE 1 l else s.furRefuse l

/-- R19, R133, R137, R154: a write of FUR_CTRL; more than one command is refused. -/
def State.writeFurCtrl (s : State) (l v : Nat) : State :=
  let s := (s.setB FUR.CTRL_TIMED (bitOf v 8) l).furOwn l (bitOf v 9)
  match bitsOf v 0 6 with
  | 0 => s
  | 1 => s.furLoad l
  | 2 => s.furArm l
  | 4 => s.furGo l
  | 8 => s.furStop l
  | 16 => s.furAbort l
  | 32 => s.furDisarm l
  | _ => s.furRefuse l

/-- R133: a write that gives OWN a value. -/
def execFurrowOwnSelect (l : LaneId) (own : Bool) (s : State) : Result := .next (s.access .FUR (fieldOf l) fun s => s.furOwn l own)
/-- R138: a write of LOAD. -/
def execFurrowLoad (l : LaneId) (s : State) : Result := .next (s.access .FUR (fieldOf l) fun s => s.furLoad l)
/-- R138: a write of ARM. -/
def execFurrowArm (l : LaneId) (s : State) : Result := .next (s.access .FUR (fieldOf l) fun s => s.furArm l)
/-- R137: a write of GO. -/
def execFurrowGo (l : LaneId) (s : State) : Result := .next (s.access .FUR (fieldOf l) fun s => s.furGo l)
/-- R137: a write of STOP. -/
def execFurrowStop (l : LaneId) (s : State) : Result := .next (s.access .FUR (fieldOf l) fun s => s.furStop l)
/-- R137: a write of ABORT. -/
def execFurrowAbort (l : LaneId) (s : State) : Result := .next (s.access .FUR (fieldOf l) fun s => s.furAbort l)
/-- R137: a write of DISARM. -/
def execFurrowDisarm (l : LaneId) (s : State) : Result := .next (s.access .FUR (fieldOf l) fun s => s.furDisarm l)

/-- R138: read n instructions from a DPA: their words, or the status of the read that failed. -/
def State.furFetch (s : State) (l a : Nat) : Nat → State × Option RStat × List Nat
  | 0 => (s, none, [])
  | n + 1 =>
    let t := s.netRead (furSrc l) 0 none a 8
    if t.2.1 = .ok then
      let r := t.1.furFetch l (a + 8) n
      (r.1, r.2.1, natLE t.2.2 :: r.2.2)
    else (t.1, some t.2.1, [])

/-- R138, R139: LOADING ends: the program is copied and checked. -/
def State.furLoadDone (s : State) (l : Nat) : State :=
  let t := s.furFetch l (s.get2 FUR.PSRC_LO FUR.PSRC_HI l) (s.get FUR.PLEN l)
  match t.2.1 with
  | some .waits => s
  | some _ => (t.1.set FUR.STAT_STATE 0 l).set FUR.STAT_ERR 7 l
  | none =>
    let s := t.1.setFur l { t.1.fur l with prog := t.2.2 }
    let e := s.furCheckLoad l
    (s.set FUR.STAT_STATE (if e = 0 then 1 else 0) l).set FUR.STAT_ERR e l

/-- R138: LOADING ends. -/
def execFurrowLoadDone (l : LaneId) (s : State) : Result := .next (if s.get FUR.STAT_STATE l = 7 then s.furLoadDone l else s)

/-- R151: the launch instant, FRAC [7:0] ignored. -/
def State.furLaunch (s : State) (l : Nat) : Nat :=
  timeOf (s.get2 FUR.LT_SEC_LO FUR.LT_SEC_HI l) (s.get FUR.LT_NS l) (s.get FUR.LT_FRAC l / 256 * 256)

/-- R138, R139: the check at the end of priming: the code of ERR, 0 for none. -/
def State.furCheckPrimed (s : State) (l : Nat) : Nat :=
  if s.flag FUR.CTRL_TIMED l && decide (s.furLaunch l < s.fieldNow (fieldOf l) + 1000 * 2 ^ 32) then 8 else 0

/-- R138: PRIMING ends, the prefetch buffer full, in ARMED, or in LOADED with ERR. -/
def execFurrowPrimed (l : LaneId) (s : State) : Result :=
  .next (if s.get FUR.STAT_STATE l = 2 then
    let e := s.furCheckPrimed l
    (s.set FUR.STAT_STATE (if e = 0 then 3 else 1) l).set FUR.STAT_ERR e l
  else s)

/-- R151: the slave DTC reaches the launch instant (DESIGN CHOICE, log entry 9). -/
def execFurrowLaunch (l : LaneId) (s : State) : Result :=
  .next (if s.get FUR.STAT_STATE l = 3 ∧ s.flag FUR.CTRL_TIMED l ∧ s.furLaunch l ≤ s.fieldNow (fieldOf l) then s.furRun l (s.furLaunch l) else s)

/-- R137, R146: has the program of lane l run to its end: HALT or the last instruction, no wait pending and no frame to be sent? -/
def FurSt.ended (v : FurSt) : Bool := v.halted && !v.whole && v.waitTime.isNone && v.waitFloat.isNone

/-- R137: the last frame has left the PCS: after HALT, after the end of the program, or after STOP. -/
def execFurrowDone (l : LaneId) (s : State) : Result :=
  .next (if s.get FUR.STAT_STATE l = 4 ∧ (s.fur l).sending = none ∧ ((s.fur l).stop ∨ (s.fur l).ended) then s.furEnd l else s)

/-- R139: a source read of a running sequencer receives an error response. -/
def execFurrowSourceError (l : LaneId) (s : State) : Result := .next (s.furFault l 9)

/-! Execution (R141-R150). -/

/-- R138, R145, R152: may the sequencer take its next instruction, ahead of the line: RUNNING, or filling its buffer from PRIMING on; not at its end,
and no complete frame that waits to start? An instruction that waits needs RUNNING, and an earlier wait to be over. -/
def State.furReady (s : State) (l : Nat) (waits : Bool) : Bool :=
  let v := s.fur l
  let st := s.get FUR.STAT_STATE l
  (st == 4 || (!waits && (st == 2 || st == 3))) && !v.halted && !v.stop && !v.whole && (!waits || (v.waitTime.isNone && v.waitFloat.isNone))

/-- The instruction at PC. -/
def State.furInstr (s : State) (l : Nat) : Option FurInstr := ((s.fur l).prog[s.get FUR.PC l]?).bind decodeFur

/-- R137: continue at an instruction; past the last one the program ends. -/
def State.furGoto (s : State) (l pc : Nat) : State :=
  if pc < (s.fur l).prog.length then s.set FUR.PC pc l else s.setFur l { s.fur l with halted := true }

/-- R142: an instruction completes: one execution of a REPEAT is used up, and the next instruction follows. -/
def State.furNext (s : State) (l : Nat) : State :=
  let v := s.fur l
  match v.rep with
  | some none => s
  | some (some c) =>
    if c ≤ 1 then (s.setFur l { v with rep := none }).furGoto l (s.get FUR.PC l + 1)
    else s.setFur l { v with rep := some (some (c - 1)) }
  | none => s.furGoto l (s.get FUR.PC l + 1)

/-- Execute the instruction at PC where it is one that f takes (DESIGN CHOICE, log entry 20). -/
def State.furStep (s : State) (l : Nat) (f : FurInstr → Option State) (waits : Bool := false) : Result :=
  .next (if s.furReady l waits then ((s.furInstr l).bind f).getD s else s)

/-- Change what the instructions of a program set. -/
def State.setFurRegs (s : State) (l : Nat) (r : FurRegs) : State := s.setFur l { s.fur l with regs := r }

/-- R142: NOP. -/
def execFurNop (l : LaneId) (s : State) : Result :=
  s.furStep l fun
    | .nop => some (s.furNext l)
    | _ => none

/-- R140: one piece of a source read, within one 256-byte block: the bytes, or the status of the error. -/
def State.furPiece (s : State) (l d a len : Nat) : State × RStat × List Byte :=
  let kind := s.get FUR.DESC_KIND l d
  if kind = 1 ∧ s.get QDR.STAT_STATE (fieldOf l) = 4 then (s, .poison, [])
  else
    s.netRead (furSrc l) 0 (if kind = 2 then some 0 else none) a len 0

/-- R141: read len bytes from offset off of a descriptor, wrapping at its end. fuel bounds the pieces. -/
def State.furRead (s : State) (l d off len : Nat) : Nat → State × RStat × List Byte
  | 0 => (s, .ok, [])
  | fuel + 1 =>
    if len = 0 then (s, .ok, [])
    else
      let a := s.descBase l d + off
      let n := min len (min (s.descLen l d - off) (256 - a % 256))
      let t := s.furPiece l d a n
      if t.2.1 = .ok then
        let r := t.1.furRead l d ((off + n) % s.descLen l d) (len - n) fuel
        (r.1, r.2.1, t.2.2 ++ r.2.2)
      else t

/-- R152: the bytes that the prefetch buffer of 32 KiB has room for: it holds what is read and not handed to the PCS. -/
def FurSt.room (v : FurSt) : Nat := 32768 - (v.build.length + (match v.sending with
  | some f => f.bytes.length - f.sent
  | none => 0))

/-- R140: a BASIN read of n bytes from offset off of a descriptor is presented on the fabric pattern port; one that passes the descriptor's end
is presented in two parts. -/
def State.furPattern (s : State) (l d off n : Nat) : State :=
  let k := min n (s.descLen l d - off)
  let s := s.emit (.patternRead l (s.descBase l d + off) k)
  if k < n then s.emit (.patternRead l (s.descBase l d) (n - k)) else s

/-- R142, R152: n bytes that a SEND has read go to the frame: that on the line where it is still being read, else the one being built; whole
where they end it. -/
def FurSt.append (v : FurSt) (b : List Byte) (whole : Bool) : FurSt :=
  match v.sending with
  | some f => if f.whole then { v with build := v.build ++ b, whole := whole }
    else { v with sending := some { f with bytes := f.bytes ++ b, whole := whole } }
  | none => { v with build := v.build ++ b, whole := whole }

/-- R141, R142, R152: SEND reads as much of its bytes as the buffer has room for, and completes once it has read them all; data holds the bytes
that fabric returns for a BASIN descriptor (DESIGN CHOICE, log entry 20). -/
def State.furSendAt (s : State) (l d : Nat) (more cur : Bool) (off len : Nat) (data : List Byte) : State :=
  let v := s.fur l
  let start := ((if cur then Store.get 0 d v.regs.cursors else off) + v.got) % s.descLen l d
  let n := min (len - v.got) v.room
  if n = 0 then s
  else
  let t := if s.get FUR.DESC_KIND l d = 3 then (s.furPattern l d start n, if data.length = n then RStat.ok else .waits, data)
    else s.furRead l d start n (n + 1)
  match t.2.1 with
  | .ok =>
    let s := t.1
    let all := v.got + n == len
    let v := (s.fur l).append t.2.2 (all && !more)
    if all then
      let r : FurRegs := if cur then { v.regs with cursors := Store.set 0 d ((start + n) % s.descLen l d) v.regs.cursors } else v.regs
      (s.setFur l { v with regs := r, got := 0 }).furNext l
    else s.setFur l { v with got := v.got + n }
  | .waits => t.1
  | _ => t.1.furFault l 9

/-- R141: SEND. -/
def execFurSend (l : LaneId) (data : List Byte) (s : State) : Result :=
  s.furStep l fun
    | .send d more cur off len => some (s.furSendAt l d more cur off len data)
    | _ => none

/-- R142: REPEAT; COUNT 0 has no end. -/
def execFurRepeat (l : LaneId) (s : State) : Result :=
  s.furStep l fun
    | .repeat_ count => some ((s.setFur l { s.fur l with rep := some (if count = 0 then none else some count) }).furGoto l (s.get FUR.PC l + 1))
    | _ => none

/-- R146: WAIT-TIME: the next frame is held until DUR past the end of the previous frame's last byte (of the launch, where there is none:
DESIGN CHOICE, log entry 20), or past the launch instant. -/
def execWaitTime (l : LaneId) (s : State) : Result :=
  s.furStep l (waits := true) fun
    | .waitTime abs dur => some ((s.setFur l { s.fur l with waitTime := some (abs, dur), first := false }).furNext l)
    | _ => none

/-- R146: has the DTC passed the instant of a WAIT-TIME? With ABS = 0 the previous frame must have left. -/
def State.waitOver (s : State) (l : Nat) (abs : Bool) (dur : Nat) : Bool :=
  let v := s.fur l
  (abs || v.sending.isNone) && decide ((if abs then v.launch else v.prevEnd) + dur * 2 ^ 24 ≤ s.fieldNow (fieldOf l))

/-- R146: the DTC has passed the instant of a WAIT-TIME. -/
def execWaitTimeElapsed (l : LaneId) (s : State) : Result :=
  .next (match (s.fur l).waitTime with
  | some (abs, dur) =>
    if s.waitOver l abs dur ∧ s.get FUR.STAT_STATE l = 4 then s.setFur l { s.fur l with waitTime := none } else s
  | none => s)

/-- R146, R152: WAIT-FLOAT; what the instructions beyond it change is kept as it stands. -/
def execWaitFloat (l : LaneId) (s : State) : Result :=
  s.furStep l (waits := true) fun
    | .waitFloat line toaddr timeout =>
      let s := s.furNext l
      some (s.setFur l { s.fur l with
        waitFloat := some (line, toaddr, decide (timeout ≠ 0)), save := some ((s.fur l).regs, (List.range 4).map fun c => s.get FUR.LC l c)
        first := false })
    | _ => none

/-- R146, R152: TIMEOUT ns have passed: what was read and executed beyond the wait is discarded, and execution continues at TOADDR. -/
def execWaitFloatTimeout (l : LaneId) (s : State) : Result :=
  .next (match (s.fur l).waitFloat with
  | some (_, toaddr, true) =>
    if s.get FUR.STAT_STATE l = 4 then
      let v := s.fur l
      let r := v.save.getD (v.regs, (List.range 4).map fun c => s.get FUR.LC l c)
      let s := (List.range 4).foldl (fun s c => s.set FUR.LC (r.2.getD c 0) l c) s
      ((s.setFur l { v with
        regs := r.1, waitFloat := none, save := none, halted := false, build := [], whole := false, got := 0, rep := none }).raise
        FUR.STAT_WFTO l).furGoto l toaddr
    else s
  | _ => s)

/-- R143: JUMP. -/
def execJump (l : LaneId) (s : State) : Result :=
  s.furStep l fun
    | .jump target => some (s.furGoto l target)
    | _ => none

/-- R144: LOOP. -/
def execLoop (l : LaneId) (s : State) : Result :=
  s.furStep l fun
    | .loop c target count =>
      let lc := if s.get FUR.LC l c = 0 then count else s.get FUR.LC l c
      if count = 0 then some ((s.set FUR.LC lc l c).furGoto l target)
      else
        let s := s.set FUR.LC (lc - 1) l c
        some (if lc - 1 ≠ 0 then s.furGoto l target else s.furGoto l (s.get FUR.PC l + 1))
    | _ => none

/-- R143, R147: INSERT-COUNTER. -/
def execInsertCounter (l : LaneId) (s : State) : Result :=
  s.furStep l fun
    | .insertCounter slot en load width be off step =>
      let r := (s.fur l).regs
      let old := Store.get {} slot r.slots
      let value := (if load then s.get2 FUR.CINIT_LO FUR.CINIT_HI l slot else old.value) % 2 ^ (8 * (width + 1))
      let c : CtrSlot := { en := en, width := width, be := be, offset := off, step := step, value := value }
      some ((s.setFurRegs l { r with slots := Store.set {} slot c r.slots }).furNext l)
    | _ => none

/-- R143, R148: INSERT-TIMESTAMP. -/
def execInsertTimestamp (l : LaneId) (s : State) : Result :=
  s.furStep l fun
    | .insertTs en format off => some ((s.setFurRegs l { (s.fur l).regs with tsSlot := { en := en, format := format, offset := off } }).furNext l)
    | _ => none

/-- R149: RECOMPUTE-FCS. -/
def execRecomputeFcs (l : LaneId) (s : State) : Result :=
  s.furStep l fun
    | .fcs mode => some ((s.setFurRegs l { (s.fur l).regs with fcsMode := mode }).furNext l)
    | _ => none

/-- R150: INJECT; a second one of a kind replaces the first. -/
def execInject (l : LaneId) (s : State) : Result :=
  s.furStep l fun
    | .inject kind pos count bit skew =>
      let r := (s.fur l).regs
      let j : Inject := { pos := pos, count := count, bit := bit }
      let r : FurRegs := if kind = 0 then { r with injBit := some j } else if kind = 1 then { r with injSym := some j }
        else if kind = 2 then { r with injCode := some j } else { r with skew := skew }
      some ((s.setFurRegs l r).furNext l)
    | _ => none

/-- R137: HALT. -/
def execFurHalt (l : LaneId) (s : State) : Result :=
  s.furStep l fun
    | .halt => some (s.setFur l { s.fur l with halted := true })
    | _ => none

/-! Frames (R134, R135, R147-R153). -/

/-- R147: counter slots c, c + 1, ... of n, for a frame of len bytes: the insertions, the slots and the insertions skipped. -/
def insertSlots (slots : List (Nat × CtrSlot)) (len c : Nat) : Nat → List (Nat × List Byte) × List (Nat × CtrSlot) × Nat
  | 0 => ([], slots, 0)
  | n + 1 =>
    let v := Store.get {} c slots
    let w := v.width + 1
    if v.en = false then insertSlots slots len (c + 1) n
    else if len < v.offset + w then
      let r := insertSlots slots len (c + 1) n
      (r.1, r.2.1, r.2.2 + 1)
    else
      let b := bytesLE w v.value
      let next := (v.value + (signedOf v.step 32 % (2 ^ (8 * w) : Nat)).toNat) % 2 ^ (8 * w)
      let r := insertSlots (Store.set {} c { v with value := next } slots) len (c + 1) n
      ((v.offset, if v.be then b.reverse else b) :: r.1, r.2.1, r.2.2)

/-- R143: the bytes of a timestamp. -/
def stampBytes (format t : Nat) : List Byte :=
  if format = 0 then bytesLE 10 (tsOf t)
  else if format = 1 then (bytesLE 6 (secOf t)).reverse ++ (bytesLE 4 (nsOf t)).reverse
  else bytesLE 8 ((secOf t * 1000000000 + nsOf t) % 2 ^ 64)

/-- R150: an armed injection meets its frame of n bytes: it applies, or its position lies beyond the end (DESIGN CHOICE, log entry
20). -/
def injectAt (n : Nat) (j : Option Inject) : Option Inject × Nat :=
  match j with
  | none => (none, 0)
  | some i => if i.pos < n then (some i, 0) else (none, 1)

/-- R142, R147: the bytes that the SENDs still to come add to the frame, from an instruction on: of that SEND, got have been read; rep and lc
are the REPEAT in force and the loop counters. fuel bounds the instructions; beyond it nothing is added, which only the last offsets of
an insertion could notice (DESIGN CHOICE, log entry 20). -/
def frameRest (prog : List Nat) (pc got : Nat) (rep : Option (Option Nat)) (lc : List Nat) : Nat → Nat
  | 0 => 0
  | fuel + 1 =>
    match (prog[pc]?).bind decodeFur with
    | some (.send _ more _ _ len) =>
      if more then
        len - got + match rep with
          | some none => frameRest prog pc 0 rep lc fuel
          | some (some c) => if c ≤ 1 then frameRest prog (pc + 1) 0 none lc fuel else frameRest prog pc 0 (some (some (c - 1))) lc fuel
          | none => frameRest prog (pc + 1) 0 none lc fuel
      else len - got
    | some (.jump t) => frameRest prog t 0 none lc fuel
    | some (.loop c t count) =>
      let k := if lc.getD c 0 = 0 then count else lc.getD c 0
      if count = 0 then frameRest prog t 0 none (lc.set c k) fuel
      else if k - 1 ≠ 0 then frameRest prog t 0 none (lc.set c (k - 1)) fuel
      else frameRest prog (pc + 1) 0 none (lc.set c 0) fuel
    | some (.repeat_ count) => frameRest prog (pc + 1) 0 (some (if count = 0 then none else some count)) lc fuel
    | some .halt => 0
    | some _ => frameRest prog (pc + 1) 0 none lc fuel
    | none => 0

/-- R147, R152: the length of the frame that lane l builds, before any padding. -/
def State.frameLen (s : State) (l : Nat) : Nat :=
  let v := s.fur l
  if v.whole then v.build.length
  else v.build.length + frameRest v.prog (s.get FUR.PC l) v.got v.rep ((List.range 4).map fun c => s.get FUR.LC l c) 131072

/-- R134, R147-R150, R152: the frame that lane l has built so far starts, with its first byte's timestamp point at t: the insertions and
injections that meet it are settled. -/
def State.furStart (s : State) (l mode t : Nat) : State :=
  let v := s.fur l
  let r := v.regs
  let n := s.frameLen l
  let c := insertSlots r.slots n 0 4
  let w := if r.tsSlot.format = 2 then 8 else 10
  let tsFits := decide (r.tsSlot.offset + w ≤ n)
  let ps := c.1 ++ if r.tsSlot.en && tsFits then [(r.tsSlot.offset, stampBytes r.tsSlot.format t)] else []
  let s := s.count FUR.SKIP_INSSKIP (c.2.2 + (if r.tsSlot.en && !tsFits then 1 else 0)) l
  let m := if mode = 1 then max n 7 else n
  let ib := injectAt m r.injBit
  let is_ := injectAt m r.injSym
  let ic := if mode = 0 then (none, 0) else injectAt m r.injCode
  let s := if mode = 0 ∧ r.injCode.isSome then s.raise FUR.STAT_INJNA l else s
  let s := s.count FUR.SKIP_INJSKIP (ib.2 + is_.2 + ic.2) l
  let f : TxFrame := {
    bytes := v.build, whole := v.whole, patches := ps, fcs := r.fcsMode, ts := t, injBit := ib.1, injSym := is_.1, injCode := ic.1 }
  (s.wrap2 FUR.FRAMES_LO FUR.FRAMES_HI 1 l).setFur l { v with
    regs := { r with slots := c.2.1, injBit := none, injSym := none, injCode := none }
    build := [], whole := false, sending := some f, first := false }

/-- R152: does the prefetch buffer of lane l hold what a frame needs to start: all of it, or STARTTH KiB? -/
def State.startable (s : State) (l : Nat) : Bool :=
  let v := s.fur l
  v.whole || decide (s.get FUR.PF_STARTTH l * 1024 ≤ v.build.length)

/-- R133, R146, R224: has the sequencer of lane l a frame that may start? -/
def State.furOffers (s : State) (l : Nat) : Bool :=
  let v := s.fur l
  s.get FUR.STAT_STATE l == 4 && s.flag FUR.CTRL_OWN l && s.startable l && v.waitTime.isNone && v.waitFloat.isNone && !v.stop &&
  !s.flag FLF.FSTAT_FENCED (8 * fieldOf l)

/-- R135: the first lane of the port, from the one whose turn it is, that has a frame ready. -/
def State.furTurn (s : State) (a : Nat) : Option Nat :=
  let n := s.portSize a
  (((List.range n).map fun i => a + ((s.port a).txTurn + i) % n).find? fun l => s.furOffers l)

/-- R134, R135: the line of the port is free for the next frame: the one before it and what follows it have left. -/
def State.lineFree (s : State) (a : Nat) : Bool :=
  (s.port a).txq.isEmpty && (s.portLanes a).all fun l => (s.fur l).sending.isNone

/-- R148, R151: the timestamp of a frame's first byte that starts now, its first bit on lane k: the launch instant where the first frame of a
TIMED sequencer starts in its cycle, else as the lane measures it. -/
def State.startStamp (s : State) (l k : Nat) : Nat :=
  let v := s.fur l
  if v.first && s.flag FUR.CTRL_TIMED l && decide (v.launch ≤ s.fieldNow (fieldOf l) ∧ s.fieldNow (fieldOf l) < v.launch + s.time.incr) then v.launch
  else s.txStamp k

/-- R135, R152, R162: the PCS takes the next frame from the sequencer of lane l, once the line is free. Which lane of the port carries its first
bit is open. While TCLK is stopped none starts (R157). -/
def execFrameStart (l : LaneId) (s : State) : Result :=
  .next (match s.anchorOf l with
  | none => s
  | some a =>
    if s.furTurn a = some l.val ∧ s.lineFree a ∧ s.get PCS.CTRL_MODE a ≠ 3 ∧ s.time.tclk = true then
      let s := s.setPort a { s.port a with txTurn := (l - a + 1) % s.portSize a }
      let k := a + s.openValue .txLane % s.portSize a
      s.used.furStart l (s.get PCS.CTRL_MODE a) (s.startStamp l k)
    else s)

/-! Underrun (R145, R153). -/

/-- R145: the instructions that may follow an instruction. -/
def FurInstr.targets (pc : Nat) : FurInstr → List Nat
  | .jump t => [t]
  | .loop _ t count => if count = 0 then [t] else [t, pc + 1]
  | .halt => []
  | _ => [pc + 1]

/-- R145: does a SEND follow from one of some instructions, with no wait before it? fuel bounds the steps. -/
def sendAhead (prog : List Nat) (pcs : List Nat) : Nat → Bool
  | 0 => false
  | fuel + 1 =>
    let is := pcs.filterMap fun pc => ((prog[pc]?).bind decodeFur).map fun i => (pc, i)
    (is.any fun e => match e.2 with | .send .. => true | _ => false) ||
    sendAhead prog ((is.flatMap fun e => match e.2 with
      | .waitTime .. => []
      | .waitFloat .. => []
      | i => FurInstr.targets e.1 i).eraseDups) fuel

/-- R145, R153: is a frame of lane l due at a free line that its buffer does not hold as R152 asks? -/
def State.startLate (s : State) (l : Nat) : Bool :=
  let v := s.fur l
  match s.anchorOf l with
  | some a =>
    s.get FUR.STAT_STATE l == 4 && s.flag FUR.CTRL_OWN l && s.lineFree a && !v.stop && v.waitTime.isNone && v.waitFloat.isNone && !s.startable l &&
    (!v.build.isEmpty || (!v.halted && sendAhead v.prog [s.get FUR.PC l] v.prog.length))
  | none => false

/-- R153: is a byte of the frame on the line of lane l due that its buffer does not hold? -/
def State.midLate (s : State) (l : Nat) : Bool :=
  match (s.fur l).sending, s.furMode l with
  | some f, some mode => (f.block mode).isNone
  | _, _ => false

/-- R153: an underrun counts; in mid-frame it breaks the frame. -/
def State.furUnderrun (s : State) (l : Nat) (mid : Bool) : State :=
  let s := (s.count FUR.EVCNT_UNDR 1 l).raise FUR.STAT_UNDERRUN l
  if mid then s.furBreak l else s

/-- R153: an underrun at the start of a frame, or in mid-frame. -/
def execUnderrun (l : LaneId) (mid : Bool) (s : State) : Result :=
  .next (if (if mid then s.midLate l else s.startLate l) then s.furUnderrun l mid else s)

end Sys2Proof.Machine
end

