-- ==== Sys2Proof/Machine/Transmit.lean ====
section
/-! DEFINITION. The transmit side of the lanes in one cycle of the DTC's clock (spec/02_lanes.md R50, R53, R66, R67, R76, R77;
spec/03_lane_coding.md R81-R84, R87, R95, R97; spec/05_furrow.md R133-R135, R150, R153): what each PCS presents, what leaves by the
balls, and what loops back. -/
namespace Sys2Proof.Machine

/-! Symbols (R50). -/

/-- R66, R224: the transmitter of lane l has a clock: it is in CAL, ACQ, TRAIN or READY, and its field does not idle its lanes. -/
def State.clocked (s : State) (l : Nat) : Bool :=
  decide (2 ≤ s.get LN.STAT_STATE l ∧ s.get LN.STAT_STATE l ≤ 5) && !s.flag FLF.FSTAT_FENCED (8 * fieldOf l)

/-- R50: the symbols of lane l in ns nanoseconds, and the part of one that is left, in 1/(NDEN 2^D 10^6) of it. -/
def State.symbolsIn (s : State) (l ns : Nat) : Nat × Nat :=
  let b := s.flag LN.CTRL_PLLSEL l
  let den := s.get (pllRegs b).nden (quadOf l) * 2 ^ s.get LN.CTRL_DIV l * 1000000
  let a := (s.lane l).txFrac + 4 * s.pllFreq (quadOf l) b * ns
  (a / den, a % den)

/-- Line bits of a symbol: 1 in NRZ, 2 in PAM4. -/
def State.symBits (s : State) (l : Nat) : Nat := 1 + s.get LN.CTRL_MOD l

/-- The line bits that lane l sends in ns nanoseconds. -/
def State.needs (s : State) (l ns : Nat) : Nat := (s.symbolsIn l ns).1 * s.symBits l

/-! What the PCS presents (R81-R84, R87, R133-R135, R150). -/

/-- R150: line bits go to lane l at a block boundary, where a new skew takes effect, with the injections of their block. -/
def State.putBits (s : State) (l : Nat) (b : TxBlk) (bits : List Bool) : State :=
  let v := s.lane l
  let pos := v.txBits.length
  let skew := (s.fur l).regs.skew
  s.setLane l { v with
    txBits := v.txBits ++ bits
    flips := v.flips ++ (b.flip.map fun e => (pos + e.1, e.2)).toList
    moves := v.moves ++ (b.move.map fun e => (pos + e.1, e.2)).toList
    skews := if skew = v.skew then v.skews else v.skews ++ [(pos, (skew : Int) - v.skew)]
    skew := skew }

/-- R134, R146: the last byte of the frame f of lane l leaves; an ETH port owes the gap after it. -/
def State.frameOut (s : State) (l mode k : Nat) (f : TxFrame) : State :=
  let s := (s.setFur l { s.fur l with sending := none, prevEnd := s.fieldNow (fieldOf l) }).emit (.furFrame l (f.line mode) f.ts)
  match s.anchorOf l with
  | some a => if mode = 2 then s.setPort a { s.port a with txq := ethGap k } else s
  | none => s

/-- R134, R137, R142, R153: the next block of the frame f of lane l: what it takes leaves the buffer, and the last one ends the frame. -/
def State.takeBlock (s : State) (l mode : Nat) (f : TxFrame) : State × TxBlk :=
  match f.block mode with
  | some (b, k, last) =>
    let s := s.wrap2 FUR.BYTES_LO FUR.BYTES_HI k l
    let f' : TxFrame := { f with sent := f.sent + k, blks := f.blks + 1 }
    if last then (s.frameOut l mode k f, b)
    else (s.setFur l { s.fur l with sending := some f' }, b)
  | none =>
    let s := s.furUnderrun l true
    match s.anchorOf l with
    | some a => (s.setPort a { s.port a with txq := (s.port a).txq.drop 1 }, (s.port a).txq.headD { hdr := 4, payload := 0 })
    | none => (s, { hdr := 4, payload := 0 })

/-- R81, R83, R133: the block that a PCS sends where there is no frame: fabric's, an open one, where the lane's transmit input is fabric's
and fabric runs; else the idle pattern of the mode. A port of several lanes takes fabric's blocks at its anchor (DESIGN CHOICE, log entry 59). -/
def State.idleOrFabric (s : State) (l mode : Nat) : State × TxBlk :=
  let v := s.openValue .fabricTx
  if s.flag FUR.CTRL_OWN l = false ∧ s.bit FCC.STEP_DONE 3 (fieldOf l) then
    (s.used, if mode = 0 then { hdr := 4, payload := v % 256 } else { hdr := 1 + v % 2, payload := v / 2 % 2 ^ 128 })
  else (s, if mode = 1 then idleBlock else if mode = 2 then ethIdle else if mode = 3 then { hdr := 2, payload := 0 } else { hdr := 4, payload := 0 })

/-- R133-R135: the next block of a port in WRAW or ETH. -/
def State.nextBlock (s : State) (a mode : Nat) : State × TxBlk :=
  match (s.port a).txq with
  | b :: rest => (s.setPort a { s.port a with txq := rest }, b)
  | [] =>
    match (s.portLanes a).find? fun l => (s.fur l).sending.isSome with
    | some l => match (s.fur l).sending with
      | some f => s.takeBlock l mode f
      | none => (s, idleBlock)
    | none => s.idleOrFabric a mode

/-- R83: a block goes to lane l of a WRAW port of anchor a, scrambled unless SCRBYP is set. -/
def State.putWraw (s : State) (a l : Nat) (b : TxBlk) : State :=
  let r := scramble (s.lane l).txScr (b.payload % 2 ^ 64) 0 64
  let p := if s.flag PCS.CTRL_SCRBYP a then b.payload % 2 ^ 64 else r.2
  (s.setLane l { s.lane l with txScr := r.1 }).putBits l b (bitList b.hdr 0 2 ++ bitList p 0 64)

/-- R83: one block to each lane of a WRAW port, block i to lane i mod N: every 16,384 blocks an ALIGN block. -/
def State.wrawRound (s : State) (a : Nat) : State :=
  let k := (s.port a).txBlk
  let s := (List.range (s.portSize a)).foldl (fun s i =>
    let t := if k % 16384 = 0 then (s, alignBlock i) else s.nextBlock a 1
    if t.1.clocked (a + i) then t.1.putWraw a (a + i) t.2 else t.1) s
  s.setPort a { s.port a with txBlk := k + 1 }

/-- R83: rounds until lane l holds the line bits that it needs. fuel bounds them. -/
def State.wrawFill (s : State) (a l need : Nat) : Nat → State
  | 0 => s
  | fuel + 1 => if need ≤ (s.lane l).txBits.length then s else (s.wrawRound a).wrawFill a l need fuel

/-- R84: n blocks of an ETH port. -/
def State.ethBlocks (s : State) (a : Nat) : Nat → State × List TxBlk
  | 0 => (s, [])
  | n + 1 =>
    let t := s.nextBlock a 2
    let r := t.1.ethBlocks a n
    (r.1, t.2 :: r.2)

/-- R84, R150: what an ETH port sends while lane l sends need line bits: 64/66 blocks for 33/34 of the bits with RS(544,514), for all of them
otherwise; the coding below the blocks is that of IEEE 802.3 and puts their injections where it puts their bits. -/
def State.ethTx (s : State) (a ns need : Nat) : State :=
  let phy := if s.flag PCS.CTRL_AN a then s.get PCS.STAT_RES_PHY a else s.get PCS.CTRL_ETHPHY a
  let acc := (s.port a).txAcc + s.portSize a * need * (if (phyOf phy).any fun p => p.pam4 == 1 then 33 else 34)
  let k := (s.port a).txBlk
  let t := s.ethBlocks a (acc / 2244)
  let s := t.1.setPort a { t.1.port a with txBlk := k + t.2.length, txAcc := acc % 2244 }
  let blocks := t.2.map fun b => (b.hdr, b.payload)
  let s := (List.range (s.portSize a)).foldl (fun s i =>
    if s.clocked (a + i) then s.putBits (a + i) ⟨0, 0, none, none⟩ (Config.ethLine phy i k blocks (s.needs (a + i) ns)) else s) s
  (List.range t.2.length).foldl (fun s j =>
    let b := t.2.getD j idleBlock
    let mark (s : State) (e : Option (Nat × Nat)) (isFlip : Bool) : State := match e with
      | none => s
      | some (bit, n) =>
        let w := Config.ethPlace phy (k + j) bit
        let l := a + w.1 % s.portSize a
        let v := s.lane l
        s.setLane l (if isFlip then { v with flips := v.flips ++ [(w.2, n)] } else { v with moves := v.moves ++ [(w.2, n)] })
    mark (mark s b.flip true) b.move false) s

/-- R87: blocks of 130 bits until lane l of a PCIE port holds the line bits that it needs: fabric's, and an SKP ordered set every 370 (PRESUMED, log entry
59). fuel bounds them; k counts the blocks. -/
def State.pcieFill (s : State) (a l need k : Nat) : Nat → State
  | 0 => s
  | fuel + 1 =>
    if need ≤ (s.lane l).txBits.length then s
    else
      let t := if k % 370 = 369 then (s, { hdr := 1, payload := skpBlock }) else s.idleOrFabric l 3
      let r := pcieBlock (l - a) (t.1.lane l).txScr t.2.hdr (t.2.payload % 2 ^ 128)
      let s := (t.1.setLane l { t.1.lane l with txScr := r.1 }).putBits l ⟨0, 0, none, none⟩ (bitList t.2.hdr 0 2 ++ bitList r.2 0 128)
      let s := if l = a then s.setPort a { s.port a with txBlk := k + 1 } else s
      s.pcieFill a l need (k + 1) fuel

/-- R81, R134: bytes until lane l of a BYPASS port holds the line bits that it needs. fuel bounds them. -/
def State.bypassFill (s : State) (l need : Nat) : Nat → State
  | 0 => s
  | fuel + 1 =>
    if need ≤ (s.lane l).txBits.length then s
    else
      let t := match (s.fur l).sending with
        | some f => s.takeBlock l 0 f
        | none => s.idleOrFabric l 0
      (t.1.putBits l t.2 (bitList t.2.payload 0 8)).bypassFill l need fuel

/-- R81-R84, R87: what the port of anchor a presents in ns nanoseconds. A WRAW or ETH port goes at the rate of its first lane that has a clock
(DESIGN CHOICE, log entry 59: lanes of one port at different rates do not align). -/
def State.portTx (s : State) (ns a : Nat) : State :=
  if s.flag PCS.CTRL_EN a = false then s
  else
    let mode := s.get PCS.CTRL_MODE a
    let on := (s.portLanes a).filter fun l => s.clocked l
    if mode = 0 then on.foldl (fun s l => s.bypassFill l (s.needs l ns) (s.needs l ns)) s
    else if mode = 3 then
      let k := (s.port a).txBlk
      on.foldl (fun s l => s.pcieFill a l (s.needs l ns) k (s.needs l ns)) s
    else match on with
      | [] => s
      | l :: _ => if mode = 1 then s.wrawFill a l (s.needs l ns) (s.needs l ns) else s.ethTx a ns (s.needs l ns)

/-! What leaves by the balls (R53, R66, R67, R77, R95, R150). -/

/-- R150: invert the line bits that some injections name. -/
def flipBits (fl : List (Nat × Nat)) (l : List Bool) : List Bool :=
  l.mapIdx fun i b => if fl.any fun e => decide (e.1 ≤ i ∧ i < e.1 + e.2) then !b else b

/-- What is left of injections once n places have passed. -/
def afterPlaces (n : Nat) (fl : List (Nat × Nat)) : List (Nat × Nat) :=
  (fl.filter fun e => decide (n < e.1 + e.2)).map fun e => (max e.1 n - n, e.1 + e.2 - max e.1 n)

/-- R150: the adjacent level; in NRZ, the inverse. -/
def moveLevel (pam4 : Bool) (v : Int) : Int := if !pam4 then -v else if v = -3 then -1 else if v = -1 then 1 else if v = 1 then -1 else 1

/-- R150: skews: an increase at a symbol repeats the one before it, a decrease drops symbols; drop counts those still to be dropped, which are
answered as well. -/
def skewed (sk : List (Nat × Int)) (i : Nat) (prev : Int) (drop : Nat) : List Int → List Int × Nat
  | [] => ([], drop)
  | v :: t =>
    let d := (sk.filter fun e => e.1 == i).foldl (fun a e => a + e.2) 0
    let drop := drop + (-d).toNat
    if 0 < drop then skewed sk (i + 1) prev (drop - 1) t
    else
      let r := skewed sk (i + 1) v 0 t
      (List.replicate d.toNat prev ++ v :: r.1, r.2)

/-- R53, R76, R150: n symbols of what the PCS of lane l has presented leave its queue (zeros where it has presented less): their levels,
precoded where the lane precodes, with the injections of R150, before the polarity. -/
def State.pcsLevels (s : State) (l n : Nat) : State × List Int :=
  let v := s.lane l
  let pam := s.flag LN.CTRL_MOD l
  let k := s.symBits l
  let bits := v.txBits.take (n * k) ++ List.replicate (n * k - v.txBits.length) false
  let r := if s.precodesTx l then precode v.txPrev (places pam bits) else (places pam bits, v.txPrev)
  let ps := places pam (flipBits v.flips (bitsOfPlaces pam r.1))
  let mv := v.moves.map fun e => (e.1 / k, e.2)
  let lv := (ps.map (levelOf pam)).mapIdx fun i x => if mv.any fun e => decide (e.1 ≤ i ∧ i < e.1 + e.2) then moveLevel pam x else x
  let out := skewed (v.skews.map fun e => (e.1 / k, e.2)) 0 0 0 lv
  (s.setLane l { v with
    txBits := v.txBits.drop (n * k), txPrev := r.2, flips := afterPlaces (n * k) v.flips
    moves := (afterPlaces n mv).map fun e => (e.1 * k, e.2)
    skews := (if out.2 = 0 then [] else [(0, -(out.2 : Int))]) ++ ((v.skews.filter fun e => decide (n * k ≤ e.1)).map fun e => (e.1 - n * k, e.2)) }, out.1)

/-- R95: n symbols of the pattern of lane l, Gray-coded and not precoded; INJ inverts the first bit. -/
def State.genLevels (s : State) (l n : Nat) : State × List Int :=
  let v := s.lane l
  let pam := s.flag LN.CTRL_MOD l
  let r := prbsBits (s.get PCS.PRBS_GENPAT l) v.gen (n * s.symBits l)
  let bits := match r.1 with
    | b :: t => (b != v.genInj) :: t
    | [] => []
  (s.setLane l { v with gen := r.2, genInj := v.genInj && r.1.isEmpty }, (places pam bits).map (levelOf pam))

/-- R66, R76, R77, R93, R95: the n symbols that the transmitter of lane l sends, before the polarity: none at electrical idle and while training
frames are sent; in FAR the echo; the pattern where the generator runs; else the PCS stream. What the PCS has presented leaves its queue in
every case, and under a FULL calibration CALDISC says so. -/
def State.txLevels (s : State) (l n : Nat) : State × List Int :=
  let st := s.get LN.STAT_STATE l
  let p := s.pcsLevels l n
  let s := p.1
  if st = 2 ∧ (s.lane l).calMode ≠ 2 then (if (s.lane l).calMode = 1 then s.raise LN.STAT_CALDISC l else s, [])
  else if st = 4 ∧ (s.lane l).train.ownDone = false then (s, [])
  else if s.get LN.CTRL_LOOP l = 2 then
    (s.setLane l { s.lane l with echo := (s.lane l).echo.drop n }, (s.lane l).echo.take n)
  else if s.genOn l then s.genLevels l n
  else (s, p.2)

/-- R77: NEAR: the levels sent reach the lane's own receiver. In a WRAW port they are taken as blocks. -/
def State.nearBack (s : State) (l : Nat) (lv : List Int) : State :=
  if s.hears l = false then s
  else
    let pam := s.flag LN.CTRL_MOD l
    let ps := lv.map fun x => placeOfLevel pam (if s.rxInv l then -x else x)
    let s := s.hearPlaces l ps
    match s.anchorOf l with
    | some a =>
      if s.get PCS.CTRL_MODE a = 1 then
        let r := if s.precodesRx l then unprecode (s.lane l).rxPrev ps else (ps, (s.lane l).rxPrev)
        let b := (s.lane l).rxBits ++ bitsOfPlaces pam r.1
        (s.setLane l { s.lane l with rxBits := b, rxPrev := r.2 }).wrawStream a l b.length
      else s
    | none => s

/-- R59: in READY with ADAPT = CONT the receiver keeps adapting: the set that it has reached is open within the entry's limits. -/
def State.keepAdapting (s : State) (l : Nat) : State :=
  if s.hears l && s.get LN.CTRL_ADAPT l == 0 then (s.adapt l (Config.adapted s.free)).used else s

/-- R53, R67, R77: what lane l does in ns nanoseconds: it sends, by the balls with its polarity, or in NEAR to its own receiver, with the balls at common mode;
with TXEN = 0 nothing leaves. Its receiver adapts and samples. -/
def State.laneCycle (s : State) (ns l : Nat) : State :=
  if s.clocked l then
    let n := s.symbolsIn l ns
    let s := s.setLane l { s.lane l with txFrac := n.2 }
    let t := s.txLevels l n.1
    let lv := if s.flag LN.CTRL_TXEN l then t.2.map fun v => if s.txInv l then -v else v else []
    let near := s.get LN.CTRL_LOOP l == 1
    let s := t.1.setLane l { t.1.lane l with tx := if near then [] else lv }
    let s := if near then s.nearBack l lv else s
    (s.keepAdapting l).histSample l n.1
  else if (s.lane l).tx = [] then s else s.setLane l { s.lane l with tx := [] }

/-- What the ports and lanes do in ns nanoseconds. -/
def State.lineCycle (s : State) (ns : Nat) : State :=
  (List.range 128).foldl (fun s l => s.laneCycle ns l) ((List.range 128).foldl (fun s a => s.portTx ns a) s)

end Sys2Proof.Machine
end

