-- ==== Sys2Proof/Machine/Fence.lean ====
section
/-! DEFINITION. Fencing a die (spec/08_flume.md R214, R222-R225, R228), with what the fence does elsewhere (R75, R122, R196,
R287, R341, R432, R478), and the switch ports and live channels of a field (R210). -/
namespace Sys2Proof.Machine

/-- FLH_FENCE_TS (R231). -/
def fenceTs : StampRegs := ⟨FLH.FENCE_TS_FRAC, FLH.FENCE_TS_NS, FLH.FENCE_TS_SECLO, FLH.FENCE_TS_SECHI⟩

/-- R213: the die of site i is in roll call or admitted. -/
def State.siteLive (s : State) (i : Nat) : Bool := decide (1 ≤ s.get FLH.RC_STATUS i ∧ s.get FLH.RC_STATUS i ≤ 5)

/-- R210: half-channels of live capacity that module m of field n gives. -/
def State.modHch (s : State) (n m : Nat) : Nat :=
  if s.carries n m 0 then (if s.get FLH.MSTAT_WIDTH n m = 3 then 4 else s.get FLH.MSTAT_WIDTH n m) else 0

/-- R210, R232: the live list and the live capacity of field n follow its modules. -/
def State.relive (s : State) (n : Nat) : State :=
  let live := (List.range 16).foldl (fun a c => if s.carries n (c / 2) (c % 2) then a + 2 ^ c else a) 0
  let h := (List.range 8).foldl (fun a m => a + s.modHch n m) 0
  ((s.set FLF.LIVE live (8 * n)).set FLF.LIVE_HCH h (8 * n)).set FLH.MODES_HCH h n

/-- R75, R122, R196, R280, R287, R341, R432, R478: what the fence of field n ends in its units. -/
def State.fieldLost (s : State) (n : Nat) : State :=
  let s := (lanesOf n).foldl (fun s l => s.calFail l 0x0101) s
  let s := ((s.cistsLost n).loseRange (1 + n)).stopRing n
  let s := match s.swap n with
    | some w => (s.endSwap n).opFail w.entry 0x0607
    | none => s
  { s with
    autoInit := Store.drop (1 + n) (Store.drop (9 + n) s.autoInit)
    resv := s.resv.filter fun e => !(decide (e.1 < 256) && e.1 / 32 == n) && !(decide (256 ≤ e.1) && (e.1 - 256) / 16 == n) }

/-- R196: queue the tracker's walk of a die. -/
def State.startWalk (s : State) (die : Nat) : State :=
  let s := { s with walk := s.walk ++ [die], walkTag := if s.walk = [] then 0 else s.walkTag }
  if s.walk.length = 1 then (s.raise TRK.STAT_WALK).set TRK.STAT_WALKDIE die else s

/-- R209, R210: the modules of a fenced site are FENCED and carry no channel (DEDUCED, log entry 29); a loop-back test of one
goes on. -/
def State.fenceModules (s : State) (n : Nat) : State :=
  ((List.range 8).foldl (fun s m => if s.get FLH.MSTAT_STATE n m = 5 then s
    else ((s.set FLH.MSTAT_STATE 4 n m).set FLF.MSTAT_STATE 4 (8 * n + m)).setMod n m {}) s).relive n

/-- R223: Headworks fences the die of site i with a FAIL code (site 8 + t: turnout t). FAIL is recorded once (R215). -/
def State.fence (s : State) (i fail : Nat) : State :=
  if !s.siteLive i then s
  else
    let s := ((s.set FLH.RC_STATUS 8 i).set FLH.RC_FAIL fail i).setStamp fenceTs s.now i
    let die := if i < 8 then i else i + 1
    let s := s.logEvent 0x0204 die (i + fail * 2 ^ 8)
    if i < 8 then
      ((((((s.setBitOf GLB.AVAIL_FFENCED i).clearBitOf GLB.AVAIL_FREADY i).fenceModules i).fieldLost i).startWalk i).wires).retryWaiting
    else
      let s := ((s.set TRN.STAT_STATE 5 (i - 8)).clearBitOf GLB.AVAIL_TRDY (i - 8)).startWalk die
      (s.set FLH.MSTAT_STATE 4 i 0).set FLH.MSTAT_STATE 4 i 1

/-- R224: the FENCE message reaches field n: its lanes idle and its CFEs stop while FENCED reads 1; its sequencers stop. -/
def State.fenceMessage (s : State) (n : Nat) : State :=
  (lanesOf n).foldl (fun s l => if s.get FUR.STAT_STATE l = 4 then s.furAbort l
    else if s.get FUR.STAT_STATE l = 2 ∨ s.get FUR.STAT_STATE l = 3 then s.furDisarm l else s) (s.raise FLF.FSTAT_FENCED (8 * n))

end Sys2Proof.Machine
end

