-- ==== Sys2Proof/Machine/Image.lean ====
section
/-! DEFINITION. Seed stores, image headers and settings slots (spec/17_configuration.md R411-R421). -/
namespace Sys2Proof.Machine

/-! Stores (R411-R413). Die 8 is Headworks. -/

/-- A byte of a die's seed store (DESIGN CHOICE, log entry 28). -/
def State.storeByte (s : State) (die a : Nat) : Byte := Store.get 0 (die * 2 ^ 32 + a) s.stores

/-- Consecutive bytes of a store. -/
def State.storeBytes (s : State) (die a : Nat) : Nat → List Byte
  | 0 => []
  | n + 1 => s.storeByte die a :: s.storeBytes die (a + 1) n

/-- A little-endian field of n bytes of a store. -/
def State.storeNat (s : State) (die a n : Nat) : Nat := natLE (s.storeBytes die a n)

/-- The listed bytes of a range of a store, by their offset in it. -/
def State.storeSlice (s : State) (die a len : Nat) : List Host.Cell :=
  (s.stores.filter fun c => decide (die * 2 ^ 32 + a ≤ c.1 ∧ c.1 < die * 2 ^ 32 + a + len)).map fun c => (c.1 - (die * 2 ^ 32 + a), c.2)

/-- Write a byte of a store, and consecutive bytes. -/
def State.setStore (s : State) (die a : Nat) (b : Byte) : State := { s with stores := Store.set 0 (die * 2 ^ 32 + a) b s.stores }
def State.setStores (s : State) (die a : Nat) : List Byte → State
  | [] => s
  | b :: t => (s.setStore die a b).setStores die (a + 1) t

/-- Erase a range of a store. -/
def State.eraseStore (s : State) (die a len : Nat) : State :=
  { s with stores := Store.clear (fun k => decide (die * 2 ^ 32 + a ≤ k ∧ k < die * 2 ^ 32 + a + len)) s.stores }

/-- R412, R413: where the slots lie. -/
def imageSlot (slot : Nat) : Nat := if slot = 0 then 0x100000 else 0x7900000
def imageSize : Nat := 0x7800000
def parcelSlot (k : Nat) : Nat := 0xF100000 + k * 0xC00000
def parcelSize : Nat := 0xC00000
def codeArea (slot : Nat) : Nat := 0x18100000 + slot * 0x400000
def settingsSlot (die slot : Nat) : Nat := (if die = 8 then 0x2B00000 else 0x18900000) + slot * 0x400000
def settingsSize : Nat := 0x400000
def loaderSlot (slot : Nat) : Nat := 0x100000 + slot * 0x100000
def firmwareSlot (slot : Nat) : Nat := 0x300000 + slot * 0x1000000
def hbmSlot (slot : Nat) : Nat := 0x2300000 + slot * 0x200000
def laneSlot (slot : Nat) : Nat := 0x2700000 + slot * 0x200000

/-! Image headers (R415, R417, R423). -/

/-- The fields of the header at an offset of a store. -/
def State.hdrKind (s : State) (die a : Nat) : Nat := s.storeNat die (a + 6) 1
def State.hdrParcel (s : State) (die a : Nat) : Nat := s.storeNat die (a + 7) 1
def State.hdrStartup (s : State) (die a : Nat) : Nat := s.storeNat die (a + 14) 1
def State.hdrWmode (s : State) (die a : Nat) : Nat := s.storeNat die (a + 15) 1
def State.hdrVer (s : State) (die a : Nat) : Nat := s.storeNat die (a + 16) 4
def State.hdrSchema (s : State) (die a : Nat) : Nat := s.storeNat die (a + 20) 2
def State.hdrSvn (s : State) (die a : Nat) : Nat := s.storeNat die (a + 24) 4
def State.hdrPaylen (s : State) (die a : Nat) : Nat := s.storeNat die (a + 28) 4
def State.hdrStatic (s : State) (die a : Nat) : Nat := s.storeNat die (a + 32) 8

/-- R417: checks 0x02 to 0x0A on the header at offset a of field n's store: the first that fails, 0 for none (DEDUCED,
log entry 31). -/
def State.headerError (s : State) (n a kind size : Nat) : Nat :=
  if s.storeNat n a 4 ≠ 0x44454553 ∨ s.storeNat n (a + 4) 2 ≠ 1 then 0x02
  else if crc32 (s.storeBytes n a 252) ≠ s.storeNat n (a + 252) 4 then 0x03
  else if s.hdrKind n a ≠ kind then 0x04
  else if s.storeNat n (a + 8) 2 ≠ 0x0D8A then 0x05
  else if s.storeNat n (a + 10) 1 ≠ s.part.pop then 0x06
  else if s.storeNat n (a + 11) 1 ≠ s.get FLD.ID_SITE n then 0x07
  else if s.storeNat n (a + 12) 1 ≠ s.get FLD.ID_REV n then 0x08
  else if s.get GLB.PART_GRADE < s.storeNat n (a + 13) 1 then 0x09
  else if s.hdrPaylen n a = 0 ∨ size < s.hdrPaylen n a then 0x0A
  else 0

/-- R423: the code of step i of a start-up order. -/
def stepCode (order i : Nat) : Nat := bitsOf order (2 * i) 2

/-- R423: a start-up order is a permutation. -/
def startupOk (order : Nat) : Bool := (List.range 4).all fun c => (List.range 4).any fun i => stepCode order i == c

/-- R217, R417: the modules of field n that the crossbar map names. -/
def State.xbarModes (s : State) (n : Nat) : Nat :=
  (List.range 8).foldl (fun a m => if s.xbar.any fun w => w.dst / 2048 == 8 * n + m || w.src / 2048 == 8 * n + m then a + 2 ^ m else a) 0

/-- R417: the checks of a full image's header. -/
def State.fullHeaderError (s : State) (n a : Nat) : Nat :=
  match s.headerError n a 1 imageSize with
  | 0 =>
    if !startupOk (s.hdrStartup n a) then 0x0B
    else if s.hdrWmode n a ≠ s.xbarModes n then 0x0C
    else 0
  | e => e

/-- R416, R439: the tag of the image at offset a of a store, under the key of SLOT. -/
def State.tagOk (s : State) (n a kind slot : Nat) : Bool :=
  Config.imageAuth (if n = 8 then 0xFF else n) kind slot (s.storeBytes n a 68) (s.storeSlice n (a + 256) (s.hdrPaylen n a)) (s.hdrPaylen n a)

/-- R416: what the payload of the image at offset a sets. -/
def State.bodyAt (s : State) (n a : Nat) : ImgBody := Config.imageBody (s.storeSlice n (a + 256) (s.hdrPaylen n a)) (s.hdrPaylen n a)

/-! Code stores (R421). -/

/-- R421: the code-store area of a slot fails a check. -/
def State.codeBad (s : State) (n slot ver : Nat) : Bool :=
  (List.range 32).any fun e =>
    s.storeNat n (codeArea slot + 0x300000 + 8 * e) 4 != crc32 (s.storeBytes n (codeArea slot + 98304 * e) 98304) ||
    s.storeNat n (codeArea slot + 0x300000 + 8 * e + 4) 4 != ver

/-- R421: the code stores of field n filled from the area of a slot. -/
def State.loadCode (s : State) (n slot : Nat) : State :=
  let base := Store.clear (fun k => k / 16384 / 32 == n) s.code
  { s with code := (s.storeSlice n (codeArea slot) (32 * 98304)).foldl (fun m c =>
      let k := 16384 * (32 * n + c.1 / 98304) + c.1 % 98304 / 6
      Store.set 0 k (Store.get 0 k m + c.2.toNat * 2 ^ (8 * (c.1 % 98304 % 6))) m) base }

/-! Settings (R414, R420). -/

/-- R420: the records between two offsets: type, offset of the body and its length; none where they do not end at the end
(DEDUCED, log entry 31). -/
def State.records (s : State) (die a fin : Nat) : Nat → Option (List (Nat × Nat × Nat))
  | 0 => none
  | fuel + 1 =>
    if a = fin then some []
    else if fin < a + 4 then none
    else
      let len := s.storeNat die (a + 2) 2
      if fin < a + 4 + len then none
      else (s.records die (a + 4 + len) fin fuel).map fun l => (s.storeNat die a 2, a + 4, len) :: l

/-- R420: the records of a settings slot that passes its checks; a schema of none is not compared. -/
def State.settingsOf (s : State) (die slot : Nat) (schema : Option Nat) : Option (List (Nat × Nat × Nat)) :=
  let a := settingsSlot die slot
  let len := s.storeNat die (a + 12) 4
  if s.storeNat die a 4 ≠ 0x53544553 ∨ settingsSize < 64 + len then none
  else if crc32 (s.storeBytes die a 60 ++ s.storeBytes die (a + 64) len) ≠ s.storeNat die (a + 60) 4 then none
  else if schema.any fun x => s.storeNat die (a + 4) 2 != x then none
  else s.records die (a + 64) (a + 64 + len) (len + 1)

/-- R497: would an ATPKR leave no populated site outside Fallow? -/
def State.lastField (s : State) (v : Nat) : Bool := (List.range 8).all fun n => !s.present n || bitOf v n

/-- R497: a refused ATPKR. -/
def State.atpkrRefused (s : State) : State := (s.set PWR.CSTAT_CODE 3).raise PWR.CSTAT_CMDERR

/-- R20: give an NV element its value of the settings area. -/
def State.setNv (s : State) (e : Elem) (v : Nat) : State :=
  { s.set e.f (bitsOf v e.lo e.f.w) e.i e.j e.k with
    settings := Store.put (e.f.key e.i e.j e.k) (BitVec.ofNat 32 (bitsOf v e.lo e.f.w)) s.settings }

/-- R420, R497, R511: a REG record for the register at offset o of a die's window; none where it is ignored. por: the copy-in
follows a POR, and ATPKR is copied too. -/
def State.applyReg (s : State) (die o v : Nat) (por : Bool) : Option State :=
  let l := (elemsAt die o).filter fun e => e.f.src == .nv
  if l.isEmpty || l.any (fun e => !s.defines e.f (bitsOf v e.lo e.f.w)) then none
  else
    let l := l.filter fun e => por || e.f != PWR.FALLOW_ATPKR
    if l.any (fun e => e.f == PWR.FALLOW_ATPKR) && s.lastField (bitsOf v 0 8) then some s.atpkrRefused
    else some (l.foldl (fun s e => s.setNv e v) s)

/-- R61, R420: a CHANNEL record. -/
def State.applyChannel (s : State) (n a : Nat) : State :=
  (List.range 1040).foldl (fun s w => { s with chan := Store.set 0 (1040 * n + w) (BitVec.ofNat 32 (s.storeNat n (a + 4 * w) 4)) s.chan }) s

/-- R420: apply records in order; counts those applied and those ignored (DEDUCED, log entry 31). -/
def State.applyRecords (s : State) (die : Nat) (por : Bool) : List (Nat × Nat × Nat) → State × Nat × Nat
  | [] => (s, 0, 0)
  | (ty, a, len) :: t =>
    let r : Option State :=
      if ty = 1 ∧ len = 8 then s.applyReg die (s.storeNat die a 4) (s.storeNat die (a + 4) 4) por
      else if ty = 2 ∧ len = 4160 ∧ die < 8 then some (s.applyChannel die a)
      else none
    match r with
    | some s =>
      let q := s.applyRecords die por t
      (q.1, q.2.1 + 1, q.2.2)
    | none =>
      let q := s.applyRecords die por t
      (q.1, q.2.1, q.2.2 + 1)

/-- R168: after a PKR the servo restarts in ACQ where the settings select a mode; a mode PTP10M without REF10M_IN sets CMDERR
(R167). -/
def State.servoRestart (s : State) : State :=
  if s.get DTC.CTRL_MODE = 0 then s.set DTC.SSTAT_STATE 0
  else
    let s := if s.get DTC.SSTAT_STATE = 0 then s.set DTC.SSTAT_STATE 1 else s
    if s.get DTC.CTRL_MODE = 2 ∧ s.get DTC.TPLL_REFSEL ≠ 1 then s.raise DTC.SSTAT_CMDERR else s

/-- R414, R451: the NV fields of Headworks take the active settings slot's values. -/
def State.headworksSettings (s : State) (por : Bool) : State :=
  match s.settingsOf 8 (s.get FWU.ACT_HWSET) (some (s.hdrSchema 8 (firmwareSlot (s.get FWU.ACT_HWFW)))) with
  | some l => (s.applyRecords 8 por l).1.servoRestart
  | none => s

/-- R64, R414, R420: settings of field n at its copy-in. -/
def State.fieldSettings (s : State) (n : Nat) : State :=
  let slot := if s.bit FWU.ACT_FSET n then 1 else 0
  let s := s.set FCC.SCHEMA_SETSCHEMA (s.storeNat n (settingsSlot n slot + 4) 2) n
  let s := match s.settingsOf n slot (some (s.get FCC.SCHEMA n)) with
    | some l =>
      let q := s.applyRecords n true l
      (q.1.set FCC.SETCNT_APPLIED (min q.2.1 0xFFFF) n).set FCC.SETCNT_IGNORED (min q.2.2 0xFFFF) n
    | none => s.raise FCC.STAT_SETDEF n
  s.checkTable n

end Sys2Proof.Machine
end

