-- ==== Sys2Proof/Machine/Reset.lean ====
section
/-! DEFINITION. Package resets (spec/20_power_reset.md R506-R510), Headworks copy-in (spec/17_configuration.md R414) and the
directory at copy-in, with the revert of a trial (spec/18_security_update.md R451, R453). -/
namespace Sys2Proof.Machine

/-! The slot map (R448, R460). -/

/-- The map in force, as FWU_ACT shows it. -/
def State.slotMap (s : State) : SlotMap :=
  { hwfw := s.get FWU.ACT_HWFW, loader := s.get FWU.ACT_LOADER, hbmfw := s.get FWU.ACT_HBMFW, lanemc := s.get FWU.ACT_LANEMC,
    hwset := s.get FWU.ACT_HWSET, fimg := s.get FWU.ACT_FIMG, fset := s.get FWU.ACT_FSET }

/-- Put a map in force: FWU_ACT, and the versions of the active parts. -/
def State.setMap (s : State) (m : SlotMap) : State :=
  let s := (((s.set FWU.ACT_HWFW m.hwfw).set FWU.ACT_LOADER m.loader).set FWU.ACT_HBMFW m.hbmfw).set FWU.ACT_LANEMC m.lanemc
  let s := ((s.set FWU.ACT_HWSET m.hwset).set FWU.ACT_FIMG m.fimg).set FWU.ACT_FSET m.fset
  (((s.set FWU.FWVER (s.hdrVer 8 (firmwareSlot m.hwfw))).set FWU.LDRVER (s.hdrVer 8 (loaderSlot m.loader))).set
    FWU.HBMVER (s.hdrVer 8 (hbmSlot m.hbmfw))).set FWU.LANEVER (s.hdrVer 8 (laneSlot m.lanemc))

/-- BUNDLEID of the last bundle. -/
def State.bundleId (s : State) : Nat := s.get2 FWU.BID_LO FWU.BID_HI

/-- R448: a part of a bundle exchanges the slot that it was written to for the other. -/
def SlotMap.exchange (m : SlotMap) (p : PartRec) : SlotMap :=
  match p.kind with
  | 0x01 => { m with hwfw := 1 - m.hwfw }
  | 0x02 => { m with fimg := m.fimg ^^^ 2 ^ p.target }
  | 0x05 => { m with lanemc := 1 - m.lanemc }
  | 0x06 => { m with hbmfw := 1 - m.hbmfw }
  | 0x07 => { m with loader := 1 - m.loader }
  | _ => m

/-- R453: a trial is reverted for a cause: the old map, the migrated settings discarded, and the event. -/
def State.revert (s : State) (cause : Nat) : State :=
  let s := s.upd.migrated.foldl (fun s e => s.eraseStore e.1 (settingsSlot e.1 e.2) 4) s
  let s := s.setMap s.upd.prev
  let s := ((s.set FWU.STAT_STATE 0).set FWU.STAT_LASTRES 2).set FWU.STAT_REVCAUSE cause
  let s := ((s.lower FWU.STAT_PRIV).lower FWU.WIN_REMAIN).logEvent 0x0705 8 (cause + s.bundleId * 2 ^ 8 % 2 ^ 64)
  { s with upd := { s.upd with parts := [], migs := [], migrated := [], migDone := false } }

/-- R446, R449: the targets of the parts written so far read invalid in their directories. -/
def State.invalidate (s : State) : State :=
  { s with upd := { s.upd with invalid := (s.upd.parts.take s.upd.done).map (fun p => (p.kind, p.target)) ++ s.upd.invalid } }

/-- R447, R458: a bundle is refused: the error and the part, 0xFF for none (DEDUCED, log entry 31). -/
def State.bundleLog (s : State) (err part : Nat) : State :=
  ((s.set FWU.ERR_CODE err).set FWU.ERR_PART part).logEvent 0x0707 8 (err + part * 2 ^ 16)

/-- R451: Headgate reads the directory. -/
def State.readDirectory (s : State) : State :=
  match s.get FWU.STAT_STATE with
  | 1 =>
    let s := (s.invalidate.set FWU.STAT_STATE 6).bundleLog 0x070F 0xFF
    { s with upd := { s.upd with parts := [] } }
  | 4 =>
    let m := s.slotMap
    let s := { s with upd := { s.upd with prev := m, migrated := [], migDone := false } }
    let s := (s.setMap (s.upd.parts.foldl (fun m p => m.exchange p) m)).set FWU.STAT_STATE 5
    let s := (s.set FWU.WINSET_LEN s.upd.window).set FWU.WIN_REMAIN (s.upd.window * 1000)
    s.logEvent 0x0703 8 s.bundleId
  | 5 => s.revert 2
  | _ => s

/-- R438, R452: raise a counter, with its event. -/
def State.raiseCounter (s : State) (c v : Nat) : State :=
  if s.get HDG.ARB c < v then (s.set HDG.ARB v c).logEvent 0x0708 8 (c + v * 2 ^ 8) else s

/-- R452: counters still to be programmed are programmed (DEDUCED, log entry 38). -/
def State.raiseCounters (s : State) : State :=
  let s := s.upd.raise.foldl (fun s e => s.raiseCounter e.1 e.2) s
  { s with upd := { s.upd with raise := [] } }

/-! Power domains (R490) and generators (R494). -/

/-- The Headworks domains that are on, as a mask of 48. -/
def State.domains (s : State) : Nat := s.get2 PWR.DON_LO PWR.DON_HI
def State.setDomains (s : State) (m : Nat) : State := s.set2 PWR.DON_LO PWR.DON_HI m

/-- A mask of bit numbers. -/
def maskOf (l : List Nat) : Nat := l.foldl (fun a b => a ||| 2 ^ b) 0

/-- R494: a generator is started, and locks. -/
def State.startClock (s : State) (i : Nat) : State := (s.setBitOf CLK.ON i).setBitOf CLK.LOCK i

/-! Resets. -/

/-- R510: what a PKR leaves, or with por a POR: stores, the event log and what no reset changes, the island's registers and
the counting DTC; everything else is as State.reset has it. -/
def State.wiped (s : State) (por : Bool) : State :=
  let ks := keptKeys por
  { ({} : State) with
    pending := s.pending
    part := s.part
    csr := Store.clear (fun a => !ks.contains a) s.csr
    out := s.out
    free := s.free
    elapsed := s.elapsed
    events := s.events
    evSeq := s.evSeq
    evBook := s.evBook
    stores := s.stores
    upd := { s.upd with rx := [], manOk := false, entry := 0 }
    cxl := { ({} : CxlSt) with perst := s.cxl.perst }
    time := if por then {} else { ({} : TimeSt) with dtc := s.time.dtc, incr := s.time.incr, tclk := s.time.tclk, kaPeriod := s.time.kaPeriod }
    tap := s.tap
    boot := { ({} : BootSt) with hold := s.boot.hold, afterPor := por || s.boot.afterPor } }

/-- RST_TS (R513). -/
def rstTs : StampRegs := ⟨RST.TS_FRAC, RST.TS_NS, RST.TS_SECLO, RST.TS_SECHI⟩

/-- R506, R507: a PKR with a source runs. -/
def State.pkrRun (s : State) (src : Nat) : State :=
  let s := s.logEvent 0x0A06 8 src
  (((s.wiped false).set RST.CAUSE_SRC src).count RST.CNT_COUNT).setStamp rstTs s.now

/-- R157: TCLK starts again after the fast clocks were stopped. -/
def State.restartTclk (s : State) : State :=
  if s.time.tclk then s else s.keepAlive false

/-- R499, R507, R509: a source of a PKR. Several sources give one PKR; one within 1 ms of the entry to Dormant abandons the
entry, and in Dormant a source causes none by itself. -/
def State.pkr (s : State) (src : Nat) : State :=
  match s.pow.dormant with
  | some t => if s.now < t + msUnits then s.restartTclk.pkrRun src else s
  | none => if s.boot.inReset then s else s.pkrRun src

/-- R507: a PKR that is held while its source persists (DEDUCED, log entry 37). -/
def State.pkrHeld (s : State) (src : Nat) : State :=
  let s := s.pkr src
  { s with boot := { s.boot with hold := if s.boot.hold.contains src then s.boot.hold else s.boot.hold ++ [src] } }

/-- R507: a source of a PKR ends. -/
def State.unhold (s : State) (src : Nat) : State := { s with boot := { s.boot with hold := s.boot.hold.filter fun x => x != src } }

/-! The end of roll call (R213, R424, R453). -/

/-- R497: a populated site whose field is not Fallow. -/
def State.siteIn (s : State) (n : Nat) : Bool := s.present n && !s.bit PWR.FALLOW n

/-- R7: a guest die is fitted at turnout t. -/
def State.guest (s : State) (t : Nat) : Bool := if t = 0 then s.part.guest0 else s.part.guest1

/-- R426, R453: a part of the trial is for field n. -/
def PartRec.forField (p : PartRec) (n : Nat) : Bool :=
  ((p.kind == 2 || p.kind == 4 || p.kind == 8) && p.target == n) || (p.kind == 3 && p.target / 16 == n)

/-- R453: at the end of roll call a field that the trial targets is FENCED with FAIL = IMAGE (DESIGN CHOICE, log entry 32). -/
def State.trialImage (s : State) : Bool :=
  s.get FWU.STAT_STATE == 5 &&
  (List.range 8).any fun n => s.get FLH.RC_STATUS n == 8 && s.get FLH.RC_FAIL n == 7 && s.upd.parts.any fun p => p.forField n

/-- R213, R424, R490: roll call ends when no populated site is left to be handled; the package is ready, domains that no die
uses go off, and a trial whose image failed is reverted (DESIGN CHOICE, log entry 32). -/
def State.rollEnd (s : State) : State :=
  let past := (List.range 8).all fun n => s.get FLH.RC_STATUS n == 0 || s.get FLH.RC_STATUS n == 5 || s.get FLH.RC_STATUS n == 8
  if !s.boot.rolling || s.boot.ended || !past then s
  else
    let off := ((List.range 8).filter fun n => !s.siteIn n).map (27 + ·) ++ ((List.range 2).filter fun t => !s.guest t).map (35 + ·)
    let s := (s.setDomains (s.domains - (s.domains &&& maskOf off))).lower RST.SYNC_DRIVE
    let s := { s with boot := { s.boot with ended := true, readyAt := some s.now } }
    if s.trialImage then (s.revert 3).pkr 7 else s

/-- A fence in roll call, and what it ends. -/
def State.rollFence (s : State) (n fail : Nat) : State := (s.fence n fail).rollEnd

/-! Power-on and release. -/

/-- R508, R511: POR with its source; it replaces any other reset. slow: no SLOWCLK edge came; reff: HW_REFCLK at 156.25 MHz. -/
def State.por (s : State) (src : Nat) (slow reff : Bool) : State :=
  let s := (s.wiped true).set RST.CAUSE_SRC src
  (s.setB CLK.STAT_SLOWINT slow).setB CLK.STAT_REFF reff

/-- R217: the wires of a crossbar map that can be: each destination once, and from another field. -/
def mapOf : List Wire → List Wire
  | [] => []
  | w :: l => if w.srcModule / 8 = w.dstModule / 8 ∨ 64 ≤ w.srcModule ∨ 64 ≤ w.dstModule then mapOf l
    else w :: (mapOf l).filter fun x => x.dst != w.dst

/-- R217, R414, R450, R451: Headworks copy-in. A WCLK outside the range of R8 is not taken (DESIGN CHOICE, log entry 31); loader tells whether the stage-1 loader copy that the map names passes its check. -/
def State.headworksCopyIn (s : State) (loader : Bool) : State :=
  let s := s.readDirectory.raiseCounters
  let s := if loader then s else
    let s := s.raise HDG.STAT_BOOTALT
    if s.get FWU.STAT_STATE == 5 then s.revert 5 else s
  let s := s.raise HDG.STAT_KEYOK
  let fw := firmwareSlot (s.get FWU.ACT_HWFW)
  let b := Config.firmwareBody (s.storeSlice 8 (fw + 256) (s.hdrPaylen 8 fw)) (s.hdrPaylen 8 fw)
  let s := { s.set CLK.WCLK_WMHZ (if 200 ≤ b.mhz ∧ b.mhz ≤ 900 then b.mhz else 0) with xbar := mapOf b.xbar }
  let s := if s.get FWU.STAT_STATE == 5 then s else s.headworksSettings s.boot.afterPor
  { s with boot := { s.boot with afterPor := false } }

/-- R171, R490, R494, R508: the release of a package reset. The time PLL, whose TCLK runs, is locked. -/
def State.pkrRelease (s : State) (loader : Bool) : State :=
  if !s.boot.inReset || !s.boot.hold.isEmpty || s.pow.dormant.isSome then s
  else
    let s := { s with boot := { s.boot with inReset := false } }
    let s := s.setDomains (maskOf [0, 1, 2, 37, 38, 44])
    let s := (s.startClock 0).startClock 3
    let s := if s.time.tclk then (s.startClock 1).raise DTC.TPLL_LOCK else s.setBitOf CLK.ON 1
    let s := s.headworksCopyIn loader
    s.setB WHC.STAT_UP (s.flag DBG.CTRL_HCEN)

end Sys2Proof.Machine
end

