-- ==== Sys2Proof/Machine/Time.lean ====
section
/-! DEFINITION. Device time (spec/06_time.md): the master DTC and its commands, the slaves and their beacons, time
calibration, the servo, PPS and the passing of time. -/
namespace Sys2Proof.Machine

/-- R171: the register sets laid out as DTC_RD. -/
def dtcRd : StampRegs := ⟨DTC.RD_FRAC, DTC.RD_NS, DTC.RD_SECLO, DTC.RD_SECHI⟩
def dtcMcRd : StampRegs := ⟨DTC.MCRD_FRAC, DTC.MCRD_NS, DTC.MCRD_SECLO, DTC.MCRD_SECHI⟩
def dtcSetRegs : StampRegs := ⟨DTC.SET_FRAC, DTC.SET_NS, DTC.SET_SECLO, DTC.SET_SECHI⟩
def dtcApplyRegs : StampRegs := ⟨DTC.APPLY_FRAC, DTC.APPLY_NS, DTC.APPLY_SECLO, DTC.APPLY_SECHI⟩
def dtcPpsi : StampRegs := ⟨DTC.PPSI_FRAC, DTC.PPSI_NS, DTC.PPSI_SECLO, DTC.PPSI_SECHI⟩
def ftsRd : StampRegs := ⟨FTS.RD_FRAC, FTS.RD_NS, FTS.RD_SECLO, FTS.RD_SECHI⟩

/-- Give the master DTC a value. -/
def State.setDtc (s : State) (t : Int) : State := { s with time := { s.time with dtc := wrapTime t } }

/-- Every field, for the operations that run over all of them. -/
def allFields : List Nat := [0, 1, 2, 3, 4, 5, 6, 7]

/-- Change the slave of every field that the test selects. -/
def State.mapSlaves (s : State) (p : Nat → Bool) (f : SlaveSt → SlaveSt) : State :=
  allFields.foldl (fun s n => if p n then s.setSlave n (f (s.slave n)) else s) s

/-! The passing of time. -/

/-- R156, R161: one TCLK cycle of a slave: the increment, less its share of an offset that is slewed out (DESIGN CHOICE,
log entry 4). -/
def SlaveSt.cycle (v : SlaveSt) (incr : Nat) : SlaveSt :=
  if v.slewN = 0 then { v with t := wrapTime (v.t + incr) }
  else
    let c := v.slew / v.slewN
    { v with t := wrapTime ((v.t : Int) + incr - c), slew := v.slew - c, slewN := v.slewN - 1 }

/-- R156, R157: one cycle of the clock that the DTC counts on. While TCLK runs, the master and every slave that has
been loaded add DTC_INCR; in keep-alive the master alone adds the last measured oscillator period (DESIGN CHOICE, log
entry 4). -/
def State.tick (s : State) : State :=
  if s.time.tclk then
    let s := s.setDtc (s.time.dtc + s.time.incr)
    s.mapSlaves (fun n => (s.slave n).loaded) (fun v => v.cycle s.time.incr)
  else s.setDtc (s.time.dtc + s.time.kaPeriod)

/-- R157, R494, R495: TCLK stops: keep-alive begins, and the slaves hold. -/
def execTclkLost (s : State) : Result :=
  .next (if s.time.tclk then
    (((s.keepAlive true).lower DTC.TPLL_LOCK).clearBitOf CLK.LOCK 1).setBitOf CLK.UNLK 1 else s)

/-- R157: TCLK returns: the DTC leaves keep-alive; each slave waits for its first beacon. -/
def execTclkRestored (s : State) : Result :=
  .next (if s.time.tclk then s else ((s.keepAlive false).raise DTC.TPLL_LOCK).setBitOf CLK.LOCK 1)

/-! Snapshots (R158). -/

/-- R158: a read of RD_FRAC captures the whole DTC, into the management cores' set where mc holds. -/
def State.snapshot (s : State) (mc : Bool) : State := s.setStamp (if mc then dtcMcRd else dtcRd) s.now

/-- R158: a read of a field's FTS RD_FRAC captures that field's slave. -/
def State.slaveSnapshot (s : State) (n : Nat) : State := s.setStamp ftsRd (s.fieldNow n) n

/-- R158: a read of DTC_RD_FRAC, of the host's set or of the management cores'. -/
def execDtcSnapshot (mc : Bool) (s : State) : Result :=
  .next (match s.barred .DTC 0 with
    | some st => s.answer st
    | none => (s.snapshot mc).answerData (bytesLE 4 (fracOf s.now)))

/-! Commands (R159). -/

/-- R159: accept a command, unless one is pending. -/
def State.dtcCommand (s : State) (c : DtcCmd) : State :=
  if s.flag DTC.CMD_PEND then s.raise DTC.SSTAT_CMDERR
  else { s.raise DTC.CMD_PEND with time := { s.time with pend := some c } }

/-- R159: the signed 64-bit DTC_ADJ, in 2^-16 ns. -/
def State.adjValue (s : State) : Int := signedOf (s.get2 DTC.ADJ_LO DTC.ADJ_HI) 64

/-- R159, R19: a write of DTC_CMD. -/
def State.writeDtcCmd (s : State) (v : Nat) : State :=
  match bitOf v 0, bitOf v 1 with
  | true, true => s.raise DTC.SSTAT_CMDERR
  | true, false => s.dtcCommand (.set (s.stampOf dtcSetRegs % dtcModulus))
  | false, true => s.dtcCommand (.adj s.adjValue)
  | false, false => s

/-- R159: DTC_CMD with SET. -/
def execDtcSet (s : State) : Result := .next (s.access .DTC 0 fun s => s.writeDtcCmd 1)

/-- R159: DTC_CMD with ADJ. -/
def execDtcAdj (s : State) : Result := .next (s.access .DTC 0 fun s => s.writeDtcCmd 2)

/-- R159: what a command makes of a counter's value. -/
def DtcCmd.apply : DtcCmd → Nat → Nat
  | .set t, _ => t
  | .adj d, t => wrapTime ((t : Int) + d * 2 ^ 16)

/-- R159, R160: the apply instant, an edge of TCLK: while TCLK is stopped there is none. -/
def execDtcApply (s : State) : Result :=
  .next (match s.time.pend with
  | none => s
  | some c =>
    if !s.time.tclk then s else
    let s := ((s.setStamp dtcApplyRegs s.now).lower DTC.CMD_PEND).raise DTC.SSTAT_STEPPED
    let s := { s with time := { s.time with dtc := c.apply s.time.dtc, pend := none } }
    s.mapSlaves s.serves (fun v => { v with t := c.apply v.t }))

/-- R167, R171: a write of DTC_INCR_HI: in FREE it commits both halves, otherwise it is ignored with CMDERR. -/
def State.writeIncrHi (s : State) (v : Nat) : State :=
  if s.get DTC.CTRL_MODE = 0 then
    let s := s.set DTC.INCR_HI v
    { s with time := { s.time with incr := s.get2 DTC.INCR_LO DTC.INCR_HI } }
  else s.raise DTC.SSTAT_CMDERR

/-- R167: a write of DTC_INCR_LO: staged in FREE, otherwise ignored with CMDERR. -/
def State.writeIncrLo (s : State) (v : Nat) : State :=
  if s.get DTC.CTRL_MODE = 0 then s.set DTC.INCR_LO v else s.raise DTC.SSTAT_CMDERR

/-- R167: a write of the word v to DTC_INCR_HI. -/
def execDtcIncrCommit (v : Word) (s : State) : Result :=
  .next (s.access .DTC 0 fun s => s.writeIncrHi v.toNat)

/-- R167: a write of DTC_CTRL. Leaving FREE starts the servo in ACQ; entering FREE stops it. PTP10M without REF10M_IN sets
CMDERR. -/
def State.writeDtcCtrl (s : State) (v : Nat) : State :=
  let m := bitsOf v 0 2
  let old := s.get DTC.CTRL_MODE
  let s := ((s.set DTC.CTRL_MODE m).setB DTC.CTRL_STEPBUSY (bitOf v 2)).setB DTC.CTRL_PPSOEN (bitOf v 3)
  let s := if bitOf v 3 then s else { s with time := { s.time with ppsOut := false } }
  let s := if m = 2 ∧ s.get DTC.TPLL_REFSEL ≠ 1 then s.raise DTC.SSTAT_CMDERR else s
  if m = old then s
  else
    let s := { s with time := { s.time with integ := 0, good := 0 } }
    (s.set DTC.SSTAT_STATE (if m = 0 then 0 else 1)).lower GLB.AVAIL_TPSYNC

/-- R167, R171: a write of DTC_TPLL. In PTP10M, leaving REF10M_IN returns the servo to ACQ, with CMDERR. -/
def State.writeTpll (s : State) (v : Nat) : State :=
  let s := s.wr v DTC.TPLL_REFSEL
  if s.get DTC.CTRL_MODE = 2 ∧ s.get DTC.TPLL_REFSEL ≠ 1 then
    let s := { s with time := { s.time with good := 0 } }
    ((s.set DTC.SSTAT_STATE 1).lower GLB.AVAIL_TPSYNC).raise DTC.SSTAT_CMDERR
  else s

/-! Slaves (R161). -/

/-- 50 ps and 1 ns in units of 2^-8 ns: 12.8 and 256. -/
def fiftyPs : Nat := 12
def oneNs : Nat := 256

/-- R161, R419: field n's slave is corrected: its copy-in has reached TIMECAL and has not failed. -/
def State.fieldTimed (s : State) (n : Nat) : Bool := decide (4 ≤ s.get FCC.STAT_PHASE n ∧ s.get FCC.STAT_PHASE n ≤ 7)

/-- R161: a beacon reaches the slave of field n. flight is the sideband's actual delay for it, in 2^-8 ns; the slave
stamps the arrival S and computes S - (T + d) with the d last measured. A fenced field receives no beacons. -/
def State.beacon (s : State) (n : Nat) (flight : Nat) : State :=
  let v := s.slave n
  let d := signedOf (s.get FTS.LDLY n) 32
  if !s.present n || s.bit GLB.AVAIL_FFENCED n || !s.time.tclk || !s.fieldTimed n then s
  else if !v.loaded then
    s.setSlave n { v with t := wrapTime ((s.now : Int) + (d - flight) * 2 ^ 24), loaded := true, good := 0, slewN := 0, cal := some none }
  else
    let off : Int := ((v.t : Int) - s.now + (flight - d) * 2 ^ 24) / (2 ^ 24 : Int)
    let s := s.set FTS.OFFS (patternOf off 32) n
    if off.natAbs ≤ oneNs then
      let g := if off.natAbs ≤ fiftyPs then min 16 (v.good + 1) else 0
      let s := s.setSlave n { v with slew := off * 2 ^ 24, slewN := 4000, good := g }
      if g = 16 then s.raise FTS.STAT_LOCK n else s
    else
      let s := if s.flag FTS.STAT_LOCK n then (s.raise FTS.STAT_LOCKLOST n).lower FTS.STAT_LOCK n else s
      s.setSlave n { v with t := wrapTime ((v.t : Int) - off * 2 ^ 24), slewN := 0, good := 0 }

/-- R212, R231: a reply on the sideband of field n with a bad check is counted. -/
def State.badReply (s : State) (n : Nat) (bad : Bool) : State :=
  if bad && s.present n && !s.bit GLB.AVAIL_FFENCED n then s.count FLH.SB_SBERR 1 n else s

/-- R161, R212: the round trip of DELAY. Stamps in 2^-8 ns; d is half the difference plus the die's trim. A reply with a bad
check measures nothing (DESIGN CHOICE, log entry 14). -/
def execDelay (n : FieldId) (t1 s2 s3 t4 : Nat) (bad : Bool) (s : State) : Result :=
  .next (if bad then s.badReply n true
  else if s.present n && !s.bit GLB.AVAIL_FFENCED n && s.time.tclk then
    s.set FTS.LDLY (patternOf ((((t4 : Int) - t1) - ((s3 : Int) - s2)) / 2 + Config.asymTrim n) 32) n.val
  else s)

/-! Time calibration (R165). -/

/-- R165: a write of FTS_CAL with GO, from source src. -/
def State.timeCal (s : State) (n : Nat) (v src : Nat) : State :=
  let e := bitsOf v 16 10
  if !bitOf v 0 then s
  else if s.opBusy e then s.raise FTS.STAT_CALERR n
  else if (s.slave n).cal.isSome then s.opRefuse e 0x0301 src
  else (s.opBegin e 0x0301 2 0 src noResult).setSlave n { s.slave n with cal := some (some e) }

/-- R165: a request for a time calibration. -/
def execTimeCalRequest (n : FieldId) (src : Fin 4096) (v : Word) (s : State) : Result :=
  .next (s.access .FTS n fun s => s.timeCal n v.toNat src)

/-- R165: a time calibration ends: CALDONE, the temperature it was made at, and its entry DONE. -/
def execTimeCalDone (n : FieldId) (temp : Byte) (s : State) : Result :=
  .next (match (s.slave n).cal with
  | none => s
  | some e =>
    let s := s.setSlave n { s.slave n with cal := none }
    let s := ((s.raise FTS.STAT_CALDONE n).lower FTS.STAT_TDRIFT n).set FTS.CALTEMP temp.toNat n
    match e with
    | some e => s.opDone e
    | none => s)

/-! The servo (R167-R169). -/

/-- R119, R137: a cistern ARMED or RUNNING, or a sequencer PRIMING, ARMED or RUNNING. -/
def State.timeUsers (s : State) : Bool :=
  ((List.range 64).any fun c => s.get CAP.CSTAT_STATE c == 1 || s.get CAP.CSTAT_STATE c == 2) ||
  ((List.range 128).any fun l => s.get FUR.STAT_STATE l == 2 || s.get FUR.STAT_STATE l == 3 || s.get FUR.STAT_STATE l == 4)

/-- R169: may the servo step? -/
def State.stepAllowed (s : State) : Bool := s.flag DTC.CTRL_STEPBUSY || !s.timeUsers

/-- The integer nearest to a / b, halves upward (DESIGN CHOICE, log entry 14). -/
def roundDiv (a : Int) (b : Nat) : Int := (2 * a + b) / (2 * b)

/-- R168: the increment for a rate in units of 2^-16 ppb: 0x4_0000_0000 + round(0x4_0000_0000 * ppb * 1e-9). -/
def incrOf (ppb : Int) : Nat := (0x400000000 + roundDiv (ppb * 2 ^ 18) 1000000000).toNat % 2 ^ 36

/-- Put an increment in force, in the registers too. -/
def State.setIncr (s : State) (v : Nat) : State :=
  { s.set2 DTC.INCR_LO DTC.INCR_HI v with time := { s.time with incr := v } }

/-- The servo's state, with TPSYNC exactly in LOCKED (R168). -/
def State.servoState (s : State) (st : Nat) : State :=
  (s.set DTC.SSTAT_STATE st).setB GLB.AVAIL_TPSYNC (decide (st = 2))

/-- R168: clamp a rate to MAXADJ; units of 2^-16 ppb. -/
def State.clampPpb (s : State) (x : Int) : Int :=
  let m : Int := s.get DTC.SERVO1_MAXADJ * 1000 * 65536
  max (-m) (min m x)

/-- R168: the rate update of a sample: off in 2^-8 ns, KP and KI in 8.8, so products are in 2^-16 ppb. -/
def State.servoRate (s : State) (off : Int) : State :=
  let i := s.time.integ + s.get DTC.KI * off
  let s := { s with time := { s.time with integ := i } }
  let s := s.setIncr (incrOf (s.clampPpb (-(s.get DTC.KP * off + i))))
  { s with time := { s.time with hist := (secOf s.now, s.time.incr) :: s.time.hist } }

/-- R168, R169: one sample with offset off in 2^-8 ns (DESIGN CHOICE, log entry 14). -/
def State.servoSample (s : State) (off : Int) : State :=
  let s := s.set DTC.OFFS (patternOf off 32)
  let big := decide (s.get DTC.STEPTHR * 256 < off.natAbs)
  let s := if s.get DTC.SSTAT_STATE = 3 ∧ big then s.servoState 1 else s
  let step := decide (s.get DTC.SSTAT_STATE = 1) && big
  let s : State :=
    if step && s.stepAllowed then
      let s := s.dtcCommand (.adj (-off * 2 ^ 8))
      { s with time := { s.time with integ := 0 } }
    else if step then
      let s := (s.servoRate off).raise DTC.SSTAT_STEPHELD
      let m : Int := s.get DTC.SERVO1_MAXADJ * 1000 * 65536
      s.setIncr (incrOf (if off < 0 then m else -m))
    else s.servoRate off
  let g := if off.natAbs < s.get DTC.SERVO0_LOCKTHR * 256 then s.time.good + 1 else 0
  let s := { s with time := { s.time with good := g } }
  if s.get DTC.SERVO0_LOCKN ≤ g then
    if s.get DTC.CTRL_MODE = 2 ∧ s.get DTC.TPLL_REFSEL ≠ 1 then s.raise DTC.SSTAT_CMDERR
    else s.servoState 2
  else s

/-- R162: the user offsets of the time port, in 2^-8 ns. -/
def State.tpRx (s : State) : Int := signedOf (s.get DTC.TPOFS_RX) 16
def State.tpTx (s : State) : Int := signedOf (s.get DTC.TPOFS_TX) 16

/-- R162: the timestamps of a PTP event message that arrives at, and of one that leaves, the balls of the time port now. -/
def State.tpRxStamp (s : State) : Nat := s.stampAt s.now s.tpRx
def State.tpTxStamp (s : State) : Nat := s.stampAt s.now s.tpTx

/-- R166: does the port take a message? Its transport and its domain are those of DTC_PTPCFG, and its interval is one of those supported. -/
def State.ptpTakes (s : State) (h : PtpHdr) : Bool :=
  h.udp == s.flag DTC.PTPCFG_UDP && h.domain == s.get DTC.PTPCFG_DOMAIN && decide (-7 ≤ h.log ∧ h.log ≤ 4)

/-- R166: the default BMCA: is the first of two data sets the better? -/
def ptpBetter (a b : PtpDataset) : Bool :=
  if a.identity = b.identity then decide (a.steps < b.steps)
  else if a.prio1 ≠ b.prio1 then decide (a.prio1 < b.prio1)
  else if a.quality ≠ b.quality then decide (a.quality < b.quality)
  else if a.prio2 ≠ b.prio2 then decide (a.prio2 < b.prio2)
  else decide (a.identity < b.identity)

/-- R166: what this clock announces of itself; its identity is made from the MAC address as IEEE 1588 does (PRESUMED, log entry 57). -/
def State.ptpOwn (s : State) : PtpDataset :=
  let m := s.get2 DTC.MAC_LO DTC.MAC_HI
  { prio1 := s.get DTC.PTPCFG_PRIO1, quality := Config.ptpQuality, prio2 := s.get DTC.PTPCFG_PRIO2
    identity := m / 2 ^ 24 * 2 ^ 40 + 0xFFFE * 2 ^ 24 + m % 2 ^ 24, steps := 0 }

/-- R166: is the clock the master: MASTEROK = 1, in a PTP mode, and no better clock heard (PRESUMED, log entry 57). -/
def State.ptpMaster (s : State) : Bool :=
  s.flag DTC.PTPCFG_MASTEROK && (s.get DTC.CTRL_MODE == 1 || s.get DTC.CTRL_MODE == 2) &&
  match s.time.ptpBest with
  | none => true
  | some (_, d) => ptpBetter s.ptpOwn d

/-- R166: is the sender the clock that this one follows? Before an Announce has been heard, any sender is (PRESUMED, log entry 57). -/
def State.ptpParent (s : State) (src : Nat) : Bool :=
  !s.ptpMaster && match s.time.ptpBest with
  | none => true
  | some (p, _) => p == src

/-- R168: one sample: the arrival of a Sync and its departure, in 2^-8 ns; the offset from the source is their difference less the mean path delay
(PRESUMED, log entry 57). The servo runs in the PTP modes only. -/
def State.ptpSample (s : State) (arrive : Int) (origin : Nat) : State :=
  if s.get DTC.CTRL_MODE = 1 ∨ s.get DTC.CTRL_MODE = 2 then s.servoSample (arrive - origin - signedOf (s.get DTC.MPD) 32) else s

/-- R166: an Announce: the best clock heard, and the UTC offset of the one that this clock follows. -/
def State.ptpAnnounce (s : State) (src : Nat) (d : PtpDataset) (utc : Int) (valid : Bool) : State :=
  let take : Bool := match s.time.ptpBest with
    | none => true
    | some (p, b) => p == src || ptpBetter d b
  let s := if take then { s with time := { s.time with ptpBest := some (src, d) } } else s
  if s.ptpParent src then (s.set DTC.UTCOFS (patternOf utc 16)).setB DTC.UTCOFS_UTCVAL valid else s

/-- R166: a message that the port takes. -/
def State.ptpTake (s : State) (m : PtpMsg) : State :=
  match m with
  | .sync h origin =>
    let t : Int := s.tpRxStamp / 2 ^ 24
    let s := s.used
    if s.ptpParent h.source then
      match origin with
      | some o => s.ptpSample t o
      | none => { s with time := { s.time with ptpWait := some (h.source, t) } }
    else s
  | .followUp h origin =>
    match s.time.ptpWait with
    | some (p, t) =>
      if p = h.source ∧ s.ptpParent p then ({ s with time := { s.time with ptpWait := none } }).ptpSample t origin else s
    | none => s
  | .delay h peer mpd =>
    if peer = s.flag DTC.PTPCFG_DELAYM ∧ (peer ∨ s.ptpParent h.source) then s.set DTC.MPD (patternOf (mpd + (s.tpRx - s.tpTx) / 2) 32) else s
  | .delayReq h =>
    if s.flag DTC.PTPCFG_DELAYM = false ∧ s.ptpMaster then (s.emit (.ptp (.delayResp h.source s.tpRxStamp))).used else s
  | .pdelayReq h =>
    if s.flag DTC.PTPCFG_DELAYM then
      let rx := s.tpRxStamp
      let s := s.used
      let tx := s.tpTxStamp
      if s.flag DTC.PTPCFG_TWOSTEP then ((s.emit (.ptp (.pdelayResp h.source rx none))).emit (.ptp (.pdelayFollowUp h.source tx))).used
      else (s.emit (.ptp (.pdelayResp h.source rx (some tx)))).used
    else s
  | .announce h d utc valid => s.ptpAnnounce h.source d utc valid
  | .ignored => s

/-- The header of a message. -/
def ptpHdr : PtpMsg → Option PtpHdr
  | .sync h _ => some h
  | .followUp h _ => some h
  | .delay h _ _ => some h
  | .delayReq h => some h
  | .pdelayReq h => some h
  | .announce h _ _ _ => some h
  | .ignored => none

/-- R162, R166, R168: a PTP message on the time port; each stamp has its user offset added. -/
def execPtpMessage (m : PtpMsg) (s : State) : Result :=
  .next (if (ptpHdr m).any fun h => s.ptpTakes h then s.ptpTake m else s)

/-- R166: the master announces itself and sends a Sync, in one step or in two, at each interval of its DTC; was: the DTC before the cycle. The
interval is the model's (DESIGN CHOICE, log entry 57: no register holds it). -/
def State.ptpCycle (s : State) (was : Nat) : State :=
  if s.ptpMaster then
    let period := secUnits * 2 ^ Config.ptpInterval.val / 128
    if was / period = s.now / period then s
    else
      let t := s.tpTxStamp
      let s := (s.emit (.ptp (.announce s.ptpOwn))).used
      if s.flag DTC.PTPCFG_TWOSTEP then (s.emit (.ptp (.sync none))).emit (.ptp (.followUp t)) else s.emit (.ptp (.sync (some t)))
  else s

/-- R168: the mean of the increments of the last HOLDAVG seconds; the increment in force where there is no sample (DESIGN
CHOICE, log entry 14). -/
def State.holdIncr (s : State) : Nat :=
  let l := s.time.hist.filter fun e => secOf s.now ≤ e.1 + s.get DTC.SERVO1_HOLDAVG
  if l.isEmpty then s.time.incr else (l.map Prod.snd).sum / l.length

/-- R168: HOLDN sample intervals without a valid sample. -/
def execServoHoldover (s : State) : Result :=
  .next (if s.get DTC.SSTAT_STATE = 2 then
    let s := (s.setIncr s.holdIncr).servoState 3
    { s with time := { s.time with good := 0 } }
  else s)

/-! PPS (R170). -/

/-- R168: the offset of the DTC's second boundary from a PPS edge at time t, in 2^-8 ns: positive where the DTC is ahead. -/
def ppsOffset (t : Nat) : Int :=
  let x : Int := (t % secUnits : Nat) / 2 ^ 24
  let h : Int := 1000000000 * 256
  if 2 * x < h then x else x - h

/-- R162, R170: a PPS_IN rising edge. -/
def execPpsInEdge (s : State) : Result :=
  let t := s.stampAt s.now 0
  let s := s.used
  let s := if s.time.ppsiHeld then s else s.setStamp dtcPpsi t
  let s := s.raise DTC.SSTAT_PPSSEEN
  .next (if s.get DTC.CTRL_MODE = 3 then s.servoSample (ppsOffset t) else s)

/-- R170: a read of DTC_PPSI_FRAC starts a capture. -/
def State.ppsiStart (s : State) : State := { s with time := { s.time with ppsiHeld := true, ppsiRead := 0 } }

/-- R170: a read of NS (0), SECLO (1) or SECHI (2) of the set; the capture completes once each has been read. -/
def State.ppsiReadPart (s : State) (k : Nat) : State :=
  let r := setBit s.time.ppsiRead k
  { s with time := { s.time with ppsiRead := r, ppsiHeld := s.time.ppsiHeld && r != 7 } }

/-- R170: a read of DTC_PPSI_FRAC. -/
def execPpsiCaptureStart (s : State) : Result :=
  .next (match s.barred .DTC 0 with
    | some st => s.answer st
    | none => s.ppsiStart.answerData (bytesLE 4 (s.get DTC.PPSI_FRAC)))

/-- R170: 1 ms after the read of DTC_PPSI_FRAC. -/
def execPpsiCaptureTimeout (s : State) : Result :=
  .next { s with time := { s.time with ppsiHeld := false } }

/-- R170: NS passes DTC_PPSO.OFS: PPS_OUT rises while PPSOEN = 1. -/
def execPpsOutRise (s : State) : Result :=
  .next (if s.flag DTC.CTRL_PPSOEN && decide (s.get DTC.PPSO_OFS ≤ nsOf s.now) then
    { s with time := { s.time with ppsOut := true } } else s)

/-- R170: PPS_OUT falls after WIDTH us. -/
def execPpsOutFall (s : State) : Result := .next { s with time := { s.time with ppsOut := false } }

end Sys2Proof.Machine
end

