-- ==== Sys2Proof/Machine/Flume.lean ====
section
/-! DEFINITION. Flume modules and turnouts in service (spec/08_flume.md R207-R212, R216-R229): lane tests, replays,
retrains, the width authority, fences, turnout training and units, and the loop-back test. -/
namespace Sys2Proof.Machine

/-! Lane tests (R208). -/

/-- R208: width code (3: 64, 2: 32, 1: 16) and group of a combination, numbered as ModSt states. -/
def comboWidth (c : Nat) : Nat := if c = 0 then 3 else if c ≤ 2 then 2 else 1
def comboGroup (c : Nat) : Nat := if c = 0 then 0 else if c ≤ 2 then c - 1 else c - 3

/-- The combination of a width code and a group. -/
def comboOf (w g : Nat) : Nat := if w = 3 then 0 else if w = 2 then 1 + g else 3 + g

/-- R208: the lanes that a combination uses, 0 to 83. -/
def comboLanes (c : Nat) : List Nat :=
  let d := 16 * 2 ^ (comboWidth c - 1)
  let g := comboGroup c
  ((List.range d).map fun i => d * g + i) ++ ((List.range (d / 4)).map fun i => 64 + d / 4 * g + i) ++ [80, 81, 82, 83]

/-- The failing lanes of a combination. -/
def comboFails (c fail : Nat) : List Nat := (comboLanes c).filter fun l => bitOf fail l

/-- R208: the spare lanes 84 to 87 that pass. -/
def sparesLeft (fail : Nat) : Nat := ([84, 85, 86, 87].filter fun l => !bitOf fail l).length

/-- R208: the combinations that pass at an end whose failing lanes are given, widest first and lowest group first. -/
def passes (fail : Nat) : List Nat := (List.range 7).filter fun c => decide ((comboFails c fail).length ≤ sparesLeft fail)

/-- R208, R231: the repair map of a combination: a slot for each lane replaced (DEDUCED, log entry 29). -/
def repairMap (c fail : Nat) : Nat := (comboFails c fail).zipIdx.foldl (fun a e => a + (e.1 + 128) * 2 ^ (8 * e.2)) 0

/-- The module trains at a combination: the record, both ends' states and repair maps. -/
def State.moduleUp (s : State) (n m c hwFail fdFail : Nat) : State :=
  let s := (((s.set FLH.MSTAT_STATE 2 n m).set FLH.MSTAT_WIDTH (comboWidth c) n m).set FLH.MSTAT_GROUP (comboGroup c) n m).set
    FLH.REPAIR (repairMap c hwFail) n m
  (((s.set FLF.MSTAT_STATE 2 (8 * n + m)).set FLF.MSTAT_WIDTH (comboWidth c) (8 * n + m)).set FLF.MSTAT_GROUP (comboGroup c) (8 * n + m)).set
    FLF.REPAIR (repairMap c fdFail) (8 * n + m)

/-- R211, R216, R221: module m of field n is fenced. A capture record with a packet on it is withdrawn; requests that it holds are lost at
the next step of the network (State.dropLost). The last packet module takes the field with it (LINK_LOST); one in a loop-back test was
fenced before. -/
def State.fenceModule (s : State) (n m : Nat) : State :=
  let s := ((s.set FLH.MSTAT_STATE 4 n m).set FLF.MSTAT_STATE 4 (8 * n + m)).setMod n m {}
  let s := (((s.withdraw n m).logEvent 0x0203 n (n + m * 2 ^ 8)).relive n).wires
  if (List.range 8).all fun k => s.flag FLH.MSTAT_WIRE n k || s.get FLH.MSTAT_STATE n k == 4 || s.get FLH.MSTAT_STATE n k == 5 then
    s.rollFence n 0x10 else s

/-! Replays and retrains (R209, R220). -/

/-- R209, R231, R232: a slot of module m fails its CRC at the receiver of the field or of Headworks and is replayed; again:
the replay of the same slot failed (DEDUCED, log entry 29). -/
def execReplay (n : FieldId) (m : Fin 8) (atField again : Bool) (s : State) : Result :=
  .next (if s.get FLH.MSTAT_STATE n m = 2 then
    let s := (s.count FLH.MCNT0_REPLAY 1 n m).count FLF.MCNT0_REPLAY 1 (8 * n.val + m)
    let s := if atField then s.count FLF.MCNT1_CRCERR 1 (8 * n.val + m) else s.count FLH.MCNT1_CRCERR 1 n m
    let v := s.mod n m
    s.setMod n m { v with failed := if again then v.failed + 1 else 0 }
  else s)

/-- R185, R209, R220, R227: module m of site i begins to retrain (a turnout retrains its link); the audits of its channels become due. -/
def State.retrain (s : State) (i m : Nat) : State :=
  if s.get FLH.MSTAT_STATE i m ≠ 2 then s
  else if i < 8 then
    let s := ((s.set FLH.MSTAT_STATE 3 i m).set FLF.MSTAT_STATE 3 (8 * i + m)).setMod i m {}
    let s := if s.flag FLH.MSTAT_WIRE i m then s else s.dueAudits (16 * i + 2 * m)
    (((s.count FLH.MCNT0_RETRN 1 i m).count FLF.MCNT0_RETRN 1 (8 * i + m)).relive i).wires
  else
    let s := (s.dueAudits (169 + 4 * (i - 8))).dueAudits (171 + 4 * (i - 8))
    let s := ((s.set FLH.MSTAT_STATE 3 i m).count FLH.MCNT0_RETRN 1 i m).count TRN.CNT_RETRN 1 (i - 8)
    (s.set TRN.STAT_STATE 4 (i - 8)).clearBitOf GLB.AVAIL_TRDY (i - 8)

/-- R209: a module retrains after eight failed replays of a slot, or for a lane that is lost. -/
def execModuleRetrain (i : SiteId) (m : Fin 8) (lost : Bool) (s : State) : Result :=
  .next (if lost || decide (8 ≤ (s.mod i m).failed) then s.retrain i m else s)

/-- R229: the loop-back bits are accepted while the module is FENCED or its site is absent. -/
def State.loopOk (s : State) (i m : Nat) : Bool := s.get FLH.MSTAT_STATE i m == 4 || s.get FLH.RC_STATUS i == 0

/-- R229: the test runs. -/
def State.loopStart (s : State) (i m : Nat) : State :=
  ((s.setMod i m { s.mod i m with back := s.get FLH.MSTAT_STATE i m }).set FLH.MSTAT_STATE 5 i m).lower FLH.MSTAT_LBDONE i m

/-- R19, R209, R229: a write of FLH_MCTRL of module m of site i (DEDUCED, log entry 29). -/
def State.writeMctrl (s : State) (i m v : Nat) : State :=
  let near := bitOf v 1
  let loop := decide (i < 8) && (bitOf v 2 || near != s.flag FLH.MCTRL_LBNEAR i m)
  if bitOf v 0 && bitOf v 2 then
    let s := s.raise FLH.MSTAT_CMDERR i m
    if i < 8 ∧ s.loopOk i m then s.setB FLH.MCTRL_LBNEAR near i m else s
  else if loop && !s.loopOk i m then s.raise FLH.MSTAT_CMDERR i m
  else
    let s := if i < 8 then s.setB FLH.MCTRL_LBNEAR near i m else s
    if bitOf v 0 then
      if s.get FLH.MSTAT_STATE i m = 2 then s.retrain i m else s.raise FLH.MSTAT_CMDERR i m
    else if bitOf v 2 && decide (i < 8) then s.loopStart i m
    else s

/-- R209: a write of 1 to FLH_MCTRL.RETRAIN. -/
def execRetrainCommand (i : SiteId) (m : Fin 8) (s : State) : Result :=
  .next (s.access .FLH 0 fun s => s.writeMctrl i m (1 + 2 * s.get FLH.MCTRL_LBNEAR i m))

/-! The width authority (R221). -/

/-- R221, R232: the lane test of a retrain ends; the lanes that failed at each end's receivers. -/
def execRetrainLaneTestDone (n : FieldId) (m : Fin 8) (hw fd : BitVec 88) (s : State) : Result :=
  .next (if s.get FLH.MSTAT_STATE n m = 3 ∧ (s.mod n m).stage = 0 then
    let f := passes fd.toNat
    let s := s.set FLF.CAP_MAXW (match f with | c :: _ => comboWidth c | [] => 0) (8 * n.val + m)
    s.setMod n m { s.mod n m with stage := 1, hw := passes hw.toNat, fd := f, hwFail := hw.toNat, fdFail := fd.toNat }
  else s)

/-- The combination of module m's record. -/
def State.record (s : State) (n m : Nat) : Nat := comboOf (s.get FLH.MSTAT_WIDTH n m) (s.get FLH.MSTAT_GROUP n m)

/-- R221: Headworks sends WIDTH with a combination. -/
def State.sendWidth (s : State) (n m c stage : Nat) : State :=
  s.setMod n m { s.mod n m with stage := stage, asked := c, reply := none }

/-- R216, R221: the widest combination that both ends pass and that is no wider than the record; a wire module takes width 64. -/
def State.choose (s : State) (n m : Nat) (mf : List Nat) : State :=
  let rec_ := s.record n m
  let c := (s.mod n m).hw.find? fun c => mf.contains c && decide (comboWidth c ≤ comboWidth rec_)
  match c with
  | none => s.fenceModule n m
  | some c =>
    if s.flag FLH.MSTAT_WIRE n m && c != 0 then s.fenceModule n m
    else if c = rec_ then s.setMod n m { s.mod n m with stage := 4, fd := mf }
    else (s.setMod n m { s.mod n m with fd := mf }).sendWidth n m c 3

/-- R221: WREPORT: the field's widest width (FLF_CAP.MAXW) and its combinations. -/
def execWreport (n : FieldId) (m : Fin 8) (s : State) : Result :=
  .next (if s.get FLH.MSTAT_STATE n m = 3 ∧ (s.mod n m).stage = 1 then
    if s.get FLF.CAP_MAXW (8 * n.val + m) = s.get FLH.MSTAT_WIDTH n m then s.choose n m (s.mod n m).fd
    else (s.raise FLH.MSTAT_DISAGREE n m).sendWidth n m (s.record n m) 2
  else s)

/-- R221: does Headworks wait for a reply to WIDTH? -/
def State.asking (s : State) (n m : Nat) : Bool :=
  s.get FLH.MSTAT_STATE n m == 3 && ((s.mod n m).stage == 2 || (s.mod n m).stage == 3)

/-- R221: WIDTH reaches the field, which answers ADOPT exactly when the combination passed at its receivers. -/
def execWidth (n : FieldId) (m : Fin 8) (s : State) : Result :=
  .next (if s.asking n m && (s.mod n m).reply.isNone then
    let v := s.mod n m
    if v.fd.contains v.asked then
      ((s.setMod n m { v with reply := some true }).set FLF.MSTAT_WIDTH (comboWidth v.asked) (8 * n.val + m)).set
        FLF.MSTAT_GROUP (comboGroup v.asked) (8 * n.val + m)
    else (s.setMod n m { v with reply := some false }).raise FLF.MSTAT_ADOPTFAIL (8 * n.val + m)
  else s)

/-- R221: ADOPT: to the record, it counts as passed at the field; to a narrower combination, that becomes the record. -/
def State.adopt (s : State) (n m : Nat) : State :=
  let v := s.mod n m
  if v.stage = 2 then s.choose n m (v.fd ++ [v.asked])
  else
    let s := ((s.set FLH.MSTAT_WIDTH (comboWidth v.asked) n m).set FLH.MSTAT_GROUP (comboGroup v.asked) n m).raise FLH.MSTAT_NARROWED n m
    let s := s.logEvent 0x0202 n (n + m * 2 ^ 8 + 8 * 2 ^ comboWidth v.asked * 2 ^ 16)
    s.setMod n m { v with stage := 4 }

/-- R221: UNABLE, or no reply in 4 µs: the record does not count as passed, or the module is fenced. -/
def State.unable (s : State) (n m : Nat) : State :=
  let v := s.mod n m
  if v.stage = 2 then s.choose n m (v.fd.filter fun c => c != v.asked) else s.fenceModule n m

/-- R221: the field's ADOPT reaches Headworks. -/
def execAdopt (n : FieldId) (m : Fin 8) (s : State) : Result :=
  .next (if s.asking n m && (s.mod n m).reply == some true then s.adopt n m else s)

/-- R221: the field's UNABLE reaches Headworks. -/
def execUnable (n : FieldId) (m : Fin 8) (s : State) : Result :=
  .next (if s.asking n m && (s.mod n m).reply == some false then s.unable n m else s)

/-- R221: no reply to WIDTH in 4 µs. -/
def execWidthReplyTimeout (n : FieldId) (m : Fin 8) (s : State) : Result :=
  .next (if s.asking n m then s.unable n m else s)

/-- R220, R221, R494: the link is up at the record with its replay complete, and so is the generator it runs on (DEDUCED, log entry 37). -/
def execRetrainComplete (n : FieldId) (m : Fin 8) (s : State) : Result :=
  .next (if s.get FLH.MSTAT_STATE n m = 3 ∧ (s.mod n m).stage = 4 then
    let v := s.mod n m
    ((((s.moduleUp n m (s.record n m) v.hwFail v.fdFail).setMod n m {}).relive n).setBitOf CLK.LOCK (8 + n)).wires
  else s)

/-- R495: a Flume generator is lost: the modules of site i that are up retrain. -/
def execFlumeClockLost (i : SiteId) (s : State) : Result :=
  let s := (s.clearBitOf CLK.LOCK (8 + i)).setBitOf CLK.UNLK (8 + i)
  .next ((List.range 8).foldl (fun s m => if i.val < 8 ∨ m < 2 then s.retrain i m else s) s)

/-! Fences (R212, R222-R225). -/

/-- R212, R231: an HBEAT reply of field n has come, or is missed; the fourth miss in a row fences the field. -/
def State.hbeat (s : State) (n : Nat) (miss : Bool) : State :=
  if !s.siteLive n then s
  else
    let k := if miss then (s.slave n).missed + 1 else 0
    let s := s.setSlave n { s.slave n with missed := k }
    if miss then
      let s := s.raise FLH.SB_HBLOST n
      if 4 ≤ k then s.rollFence n 0x0D else s
    else s

/-- R161, R212: a beacon; bad: its HBEAT reply has a bad check, so that it is missed. -/
def execBeacon (n : FieldId) (flight : Nat) (bad : Bool) (s : State) : Result :=
  .next (((s.beacon n flight).badReply n bad).hbeat n bad)

/-- R212: four HBEAT replies in a row are missed. -/
def execHeartbeatLoss (n : FieldId) (s : State) : Result :=
  .next (if s.siteLive n then (s.raise FLH.SB_HBLOST n).rollFence n 0x0D else s)

/-- R222: two consecutive low samples of the alarm line. -/
def execAlarmLow (n : FieldId) (s : State) : Result := .next ((s.raise FLH.SB_ALARM n).rollFence n 0x0C)

/-- R215, R222: a cause message (0 supply, 1 clock, 2 brown-out) within 2 µs refines ALARM. A field that tells of a brown-out is out of its reset,
and drives its alarm line high again (DESIGN CHOICE, log entry 29: the spec gives no other event for it). -/
def execAlarmCause (n : FieldId) (c : Fin 3) (s : State) : Result :=
  let t := s.stampOf fenceTs n
  let s := if c.val = 2 then s.lower FLH.SB_ALARM n else s
  .next (if s.get FLH.RC_STATUS n = 8 ∧ s.get FLH.RC_FAIL n = 0x0C ∧ s.now / 2 ^ 16 ≤ t / 2 ^ 16 + 2000 * 2 ^ 16 then s.set FLH.RC_FAIL (9 + c.val) n else s)

/-- R224: a FENCE message reaches a field that Headworks has fenced. -/
def execFence (n : FieldId) (s : State) : Result :=
  .next (if s.get FLH.RC_STATUS n = 8 then s.fenceMessage n else s)

/-- R225: a write of the word v to FLH_CTRL of site i; a turnout is fenced once it trains. -/
def State.writeFlhCtrl (s : State) (i v : Nat) : State :=
  if bitOf v 0 then
    let s := s.raise FLH.CTRL_FENCE i
    if i < 8 ∨ s.get TRN.STAT_STATE (i - 8) ≠ 0 then s.rollFence i 0x0E else s
  else s

/-- R225: a write of 1 to FLH_CTRL.FENCE (DEDUCED, log entry 29). -/
def execSwFence (i : SiteId) (s : State) : Result := .next (s.access .FLH 0 fun s => s.writeFlhCtrl i 1)

/-! Turnouts (R226-R228). -/

/-- R226: the highest rate that the guest offers (bit r: rate r) and MAXRATE allows. -/
def bestRate (offer : Nat) : Nat → Option Nat
  | 0 => if bitOf offer 0 then some 0 else none
  | n + 1 => if bitOf offer (n + 1) then some (n + 1) else bestRate offer n

/-- R226: the width that a module reaches from what passes at both ends (1 x16, 2 x32, 3 x64). -/
def turnWidth (x16 : Bool) (w : Nat) : Nat := if w = 1 && !x16 then 0 else w

/-- R226, R228, R233: a turnout's link trains; g is what the training and the identity record give. -/
def State.turnTrain (s : State) (t : Nat) (g : GuestTrain) : State :=
  let again := s.get TRN.STAT_STATE t == 4
  let x := s.flag TRN.CTRL_X16OK t
  let w0 := turnWidth x g.w0
  let w1 := turnWidth x g.w1
  match bestRate g.rates (s.get TRN.CTRL_MAXRATE t) with
  | none => if again then s.fence (8 + t) 0x10 else s.set TRN.STAT_STATE 0 t
  | some r =>
    if w0 = 0 ∧ w1 = 0 then (if again then s.fence (8 + t) 0x10 else s.set TRN.STAT_STATE 0 t)
    else
      let s := ((((s.set TRN.STAT_RATE r t).set TRN.STAT_W0 w0 t).set TRN.STAT_W1 w1 t).set TRN.REPAIR_REP0 g.rep0 t).set TRN.REPAIR_REP1 g.rep1 t
      let up (s : State) : State :=
        let s := (s.set TRN.STAT_STATE 3 t).setBitOf GLB.AVAIL_TRDY t
        [(0, w0), (1, w1)].foldl (fun s e => (s.set FLH.MSTAT_STATE (if e.2 = 0 then 4 else 2) (8 + t) e.1).set FLH.MSTAT_WIDTH e.2 (8 + t) e.1) s
      if again then up s
      else
        let s := (((s.set TRN.GID_VENDOR g.vendor t).set TRN.GID_DESIGN g.design t).set TRN.GID_REV g.rev t).set2 TRN.GSER_LO TRN.GSER_HI g.serial t
        let s := ((s.set FLH.RC_DTYPE 3 (8 + t)).set FLH.RC_REV g.rev (8 + t)).set2 FLH.SERIAL_LO FLH.SERIAL_HI g.serial (8 + t)
        let av := s.get TRN.ALLOW_VENDOR t
        let ad := s.get TRN.ALLOW_DESIGN t
        if (av = 0 ∧ ad = 0) ∨ g.vendor % 2 ^ 16 ≠ av ∨ g.design % 2 ^ 8 ≠ ad then (s.raise TRN.STAT_IDERR t).fence (8 + t) 0x0F
        else (up s).set FLH.RC_STATUS 5 (8 + t)

/-- R228: a turnout in discovery, negotiation or a retrain trains. -/
def execTurnoutTrain (t : Fin 2) (g : GuestTrain) (s : State) : Result :=
  let st := s.get TRN.STAT_STATE t
  .next (if (st = 1 ∨ st = 2 ∨ st = 4) ∧ s.siteLive (8 + t.val) then s.turnTrain t g else s)

/-- R183, R185, R227: the credits of a unit return to the two channels of module m, as far as their depths go; none before the audit that a
retrain made due. -/
def State.turnCredits (s : State) (t m w : Nat) : State :=
  (List.range 8).foldl (fun s i =>
    let p := 169 + 4 * t + 2 * m + i / 4
    if s.auditDue p (i % 4) then s
    else s.set (creditField (i % 4)) (min (creditDepth (i % 4)) (s.get (creditField (i % 4)) p + bitsOf w (4 * i) 4)) p) s

/-- R227: the units that are still unacknowledged once the guest has received the unit of SEQ ack. -/
def unacked (ack : Nat) (l : List (Nat × List Byte)) : List (Nat × List Byte) :=
  if l.any fun u => u.1 == ack then (l.dropWhile fun u => u.1 != ack).drop 1 else l

/-- R227: the guest acknowledges, and with nak asks for a replay of what follows. -/
def State.turnAck (s : State) (t m ack : Nat) (nak : Bool) : State :=
  let l := unacked ack (s.turn t m).replay
  let s := s.setTurn t m { s.turn t m with replay := l }
  let s := if nak then l.foldl (fun s u => s.emit (.turnUnit t m u.2)) s else s
  s.sendUnits t m (s.turn t m).tx.length

/-- R227: a turnout unit of 336 bytes arrives on module m. One with a bad CRC or out of sequence is answered with a NAK; one that has been
received before is passed over; one with flits is acknowledged by a unit of its own (DESIGN CHOICE, log entry 29). -/
def State.turnUnit (s : State) (t m : Nat) (b : List Byte) : State :=
  if b.length ≠ 336 ∨ natLE (b.drop 332) ≠ crc32 (b.take 332) then (s.count TRN.CNT_CRCERR 1 t).sendUnit t m true
  else
    let word (o n : Nat) : Nat := natLE ((b.drop o).take n)
    let s := s.turnAck t m (bitsOf (word 322 2) 0 12) (bitOf (word 322 2) 12)
    let v := s.turn t m
    let seq := bitsOf (word 320 2) 0 12
    if seq = v.seq then
      let slots := (List.range 4).filterMap fun i => if bitOf (word 320 2) (12 + i) then some (2 * m + i % 2, (b.drop (80 * i)).take 80) else none
      let s := (s.turnCredits t m (word 324 4)).setTurn t m { v with seq := (v.seq + 1) % 4096, flits := v.flits ++ slots }
      if slots.isEmpty then s else s.sendUnit t m false
    else if (v.seq + 4096 - seq) % 4096 ≤ 2048 then s
    else s.sendUnit t m true

/-- R227: a turnout unit arrives while the link is up. -/
def execTurnoutUnit (t m : Fin 2) (b : List Byte) (s : State) : Result :=
  .next (if s.get TRN.STAT_STATE t = 3 then s.turnUnit t m b else s)

/-- R228: the link has been down for 10 µs (DEDUCED, log entry 29). -/
def execTurnoutLinkTimeout (t : Fin 2) (s : State) : Result := .next (s.fence (8 + t.val) 0x10)

/-! Loop-back (R229). -/

/-- R229: a write of 1 to FLH_MCTRL.LBGO, with LBNEAR as given. -/
def execLoopbackTest (n : FieldId) (m : Fin 8) (near : Bool) (s : State) : Result :=
  .next (s.access .FLH 0 fun s => s.writeMctrl n m (4 + 2 * near.toNat))

/-- R229: the test ends after 1 ms: bit errors, and the lanes that had at least one. -/
def execLoopbackDone (n : FieldId) (m : Fin 8) (errs : Nat) (bad : BitVec 88) (s : State) : Result :=
  .next (if s.get FLH.MSTAT_STATE n m = 5 then
    let s := ((s.count FLH.LBERR errs n m).raise FLH.MSTAT_LBDONE n m).set FLH.MSTAT_STATE (s.mod n m).back n m
    ((s.set FLH.LBLANE0 bad.toNat n m).set FLH.LBLANE1 (bad.toNat / 2 ^ 32) n m).set FLH.LBLANE2 (bad.toNat / 2 ^ 64) n m
  else s)

end Sys2Proof.Machine
end

