-- ==== Sys2Proof/Machine/RollCall.lean ====
section
/-! DEFINITION. Roll call and service (spec/08_flume.md R213-R216, spec/01_package_architecture.md R44, R45), field copy-in,
release and parcels (spec/17_configuration.md R414-R432). -/
namespace Sys2Proof.Machine

/-! Roll call. -/

/-- R213, R490, R494, R497: the sites are found, clocks and domains go on, and the sites in turn take part. -/
def State.rollStart (s : State) : State :=
  let pres := maskOf ((List.range 8).filter fun n => s.present n)
  let s := ({ s with boot := { s.boot with rolling := true }, upd := { s.upd with begun := s.now } }).setDomains (2 ^ 48 - 1)
  let s := (s.set GLB.PART_FPRES pres).set GLB.PART_TPRES (maskOf ((List.range 2).filter fun t => s.guest t))
  let s := s.set PWR.FALLOW (s.get PWR.FALLOW_ATPKR &&& pres)
  let s := ([2, 4, 5, 6, 7] : List Nat).foldl (fun s i => s.startClock i) s
  let s := (List.range 8).foldl (fun s n =>
    if s.siteIn n then ((s.set FLH.RC_STATUS 1 n).setBitOf FPW.DON 0 n).startClock (8 + n)
    else (s.set FLH.RC_REV 0xF n).set GLB.FREV (s.get GLB.FREV ||| 0xF * 2 ^ (4 * n))) s
  let s := (List.range 2).foldl (fun s t =>
    let s := if s.flag TRN.CTRL_EN t then s.startClock (16 + t) else s
    if !s.guest t then s.set FLH.RC_REV 0xF (8 + t)
    else if s.flag TRN.CTRL_EN t then (s.set FLH.RC_STATUS 3 (8 + t)).set TRN.STAT_STATE 1 t
    else s.set FLH.RC_STATUS 1 (8 + t)) s
  s.rollEnd

/-- R213, R215, R490, R494, R497: roll call starts. -/
def execRollCallStart (s : State) : Result :=
  .next (if s.boot.inReset || s.boot.rolling then s else s.rollStart)

/-- R213: the sideband of a site comes up, or stays silent (DESIGN CHOICE, log entry 32). -/
def execSidebandUp (n : FieldId) (ok : Bool) (s : State) : Result :=
  .next (if s.get FLH.RC_STATUS n = 1 then
    if ok then (s.set FLH.RC_STATUS 2 n).raise FLH.SB_UP n else s.rollFence n 1
  else s)

/-- The active image slot of field n (R416). -/
def State.activeSlot (s : State) (n : Nat) : Nat := if s.bit FWU.ACT_FIMG n then 1 else 0

/-- R213-R215, R231: what ROLL of field n records, and the checks of the identity. -/
def State.rollDie (s : State) (n dtype rev strap serial : Nat) (rep : List Word) : State :=
  let a := imageSlot (s.activeSlot n)
  let s := (((s.set FLH.RC_DTYPE dtype n).set FLH.RC_REV rev n).set2 FLH.SERIAL_LO FLH.SERIAL_HI serial n)
  let s := s.set GLB.FREV (s.get GLB.FREV - bitsOf (s.get GLB.FREV) (4 * n) 4 * 2 ^ (4 * n) + rev * 2 ^ (4 * n))
  let s := (((s.set FLH.IMGVER (s.hdrVer n a) n).set FLH.IMG_SCHEMA (s.hdrSchema n a) n).set FLH.IMG_SLOT (s.activeSlot n) n).set
    FLH.MODES_WMODE (s.hdrWmode n a) n
  let s := (List.range 8).foldl (fun s m =>
    ((s.setB FLH.MSTAT_WIRE (bitOf (s.hdrWmode n a) m) n m).setB FLF.MSTAT_WIRE (bitOf (s.hdrWmode n a) m) (8 * n + m)).set
      FLH.REPAIR (rep.getD m 0).toNat n m) s
  if dtype ≠ 2 then s.rollFence n 2
  else if rev ≠ s.get GLB.ID_HREV then s.rollFence n 3
  else if strap ≠ n then s.rollFence n 4
  else
    (List.range 8).foldl (fun s m => (s.set FLH.MSTAT_STATE 1 n m).set FLF.MSTAT_STATE 1 (8 * n + m)) (s.set FLH.RC_STATUS 3 n)

/-- R213, R215, R231: ROLL reads the identity of a die, its image header and its repair maps; the checks of R214 follow
(DESIGN CHOICE, log entry 32). -/
def execRoll (n : FieldId) (dtype rev : Fin 16) (strap : Fin 8) (serial : BitVec 64) (rep : List Word) (s : State) : Result :=
  .next (if s.get FLH.RC_STATUS n = 2 then s.rollDie n dtype rev strap serial.toNat rep else s)

/-- R208, R216: the widest combination that both ends of a module pass, lowest group first; a wire module takes width 64 alone. -/
def trainCombo (wire : Bool) (hw fd : Nat) : Option Nat :=
  (passes hw).find? fun c => (passes fd).contains c && (!wire || c == 0)

/-- R208, R216: every module of field n takes the combination that both ends pass, or is fenced. -/
def State.trainModules (s : State) (n : Nat) (hw fd : List (BitVec 88)) : State :=
  if 6 < countBits (s.get FLH.MODES_WMODE n) 8 then s.rollFence n 6
  else
    let s := (List.range 8).foldl (fun s m =>
      let h := (hw.getD m 0).toNat
      let f := (fd.getD m 0).toNat
      let s := s.set FLF.CAP_MAXW (match passes f with | c :: _ => comboWidth c | [] => 0) (8 * n + m)
      match trainCombo (s.flag FLH.MSTAT_WIRE n m) h f with
      | some c => s.moduleUp n m c h f
      | none => (((s.set FLH.MSTAT_STATE 4 n m).set FLF.MSTAT_STATE 4 (8 * n + m)).logEvent 0x0203 n (n + m * 2 ^ 8))) s
    if (List.range 8).any fun m => !s.flag FLH.MSTAT_WIRE n m && s.get FLH.MSTAT_STATE n m == 2 then
      ((s.set FLH.RC_STATUS 4 n).relive n).wires
    else s.rollFence n 5

/-- R208, R213, R216: the lane tests of every module of a field end; the lanes that failed at the receivers of Headworks and of
the field, by module. -/
def execModulesTrained (n : FieldId) (hw fd : List (BitVec 88)) (s : State) : Result :=
  .next (if s.get FLH.RC_STATUS n = 3 then s.trainModules n hw fd else s)

/-- R214: a field not admitted by t0 + 100 ms. -/
def execAdmitTimeout (n : FieldId) (s : State) : Result :=
  .next (if decide (1 ≤ s.get FLH.RC_STATUS n) && decide (s.get FLH.RC_STATUS n ≤ 4) then s.rollFence n 8 else s)

/-! Field copy-in (R416-R421). -/

/-- The basin blocks of a range of field n read as zero with no configuration. -/
def State.clearBasins (s : State) (n first count : Nat) : State :=
  { s with basins := Store.clear (fun k => decide (1344 * n + first ≤ k ∧ k < 1344 * n + first + count)) s.basins }

/-- The basin blocks of a range of field n take an image's contents. -/
def State.loadBasins (s : State) (n first count : Nat) (b : ImgBody) : State :=
  (b.basins.filter fun e => decide (first ≤ e.1 ∧ e.1 < first + count)).foldl
    (fun s e => { s with basins := Store.set {} (1344 * n + e.1) e.2 s.basins }) (s.clearBasins n first count)

/-- R417, R418: copy-in fails. -/
def State.copyInFail (s : State) (n err : Nat) : State :=
  let s := ((s.set FCC.STAT_IMGERR err n).set FLH.RC_IMGERR err n).set FCC.STAT_PHASE 0xF n
  let s := (s.clearBasins n 0 1344).dropFab n
  ({ s with code := Store.clear (fun k => k / 16384 / 32 == n) s.code }).rollFence n 7

/-- R433: what FCC_SLOT and FCC_SVER show of the parcel slots of field n. -/
def State.showSlots (s : State) (n : Nat) : State :=
  let st := s.hdrStatic n (imageSlot (s.get FCC.STAT_SLOT n))
  (List.range 12).foldl (fun s k =>
    let a := parcelSlot k
    ((s.set FCC.SLOT_PARCEL (s.hdrParcel n a) n k).setB FCC.SLOT_VALID (s.headerError n a 2 parcelSize == 0 && s.hdrStatic n a == st) n k).set
      FCC.SVER (s.hdrVer n a) n k) s

/-- R416, R417: copy-in of field n starts: its reset, its key and its header. -/
def State.keyArrives (s : State) (n : Nat) (ok : Bool) : State :=
  let slot := s.activeSlot n
  let a := imageSlot slot
  let s := ((((s.resetField n).dropFab n).set FPW.DON (2 ^ 18 - 1) n).raise FPW.CLK_ADPLOCK n).raise FPW.CLK_RSVLOCK n
  let s := ((s.set FPW.CLK_RILLOCK 0xF n).set FCC.STAT_PHASE 1 n).set FCC.STAT_SLOT slot n
  if !ok then s.copyInFail n 1
  else
    let e := s.fullHeaderError n a
    if e ≠ 0 then s.copyInFail n e
    else
      let s := ((s.set FCC.STEP_ORDER (s.hdrStartup n a) n).set FCC.IMGVER (s.hdrVer n a) n).set FCC.SCHEMA (s.hdrSchema n a) n
      let s := (List.range 12).foldl (fun s k => s.set FCC.PVER (s.hdrVer n a) n k) s
      (s.showSlots n).set FCC.STAT_PHASE 2 n

/-- R416, R417, R419, R506: KEY reaches the FCC and copy-in starts; ok tells whether Headgate gives the key. In a trial the
firmware migrates first (R451). -/
def execKey (n : FieldId) (ok : Bool) (s : State) : Result :=
  .next (if s.get FLH.RC_STATUS n = 4 ∧ s.get FCC.STAT_PHASE n = 0 ∧ (s.get FWU.STAT_STATE ≠ 5 ∨ s.upd.migDone = true) then s.keyArrives n ok else s)

/-- R322, R416, R470: what the payload sets: the fabric, basin blocks, PLLs, banks, endpoints, modes, debug units and the parcels of ports; det
is the VCCIO that each bank detects (R320) (DEDUCED, log entry 31). -/
def State.applyBody (s : State) (n : Nat) (b : ImgBody) (det : List (Fin 8)) : State :=
  let s := ((s.loadBasins n 0 1344 b).loadFab n b.fab).set FLD.PLL_USED b.pll n
  let s := (s.set2 FLD.CEPEN_LO FLD.CEPEN_HI b.cep n).set FLD.WSTAT_WMODE (s.get FLH.MODES_WMODE n) n
  let s := (List.range 4).foldl (fun s i =>
    let d := b.decl.getD i 0
    let v := (det.getD i 0).val
    let s := ((s.set FLD.IOB_DECL d n i).set FLD.IOB_DET v n i).setB FLD.IOB_HIZ (d != 0 && d != v) n i
    let s := if d != 0 && d != v then s.raise FLD.STAT_IOBERR n else s
    if d ≠ 0 then s.setBitOf FPW.DON (18 + i / 2) n else s) s
  let s := (List.range 32).foldl (fun s u => s.setB FDB.DU_MODE (bitOf b.patches u) n (u / 8) (u % 8)) s
  { s with fields := Store.set {} n { Store.get {} n s.fields with place := b.place } s.fields }

/-- R417: every FPLL that the image of field n uses is locked. -/
def State.pllsLocked (s : State) (n : Nat) : Bool := s.get FLD.PLL_USED n &&& s.get FLD.PLL_LOCK n == s.get FLD.PLL_USED n

/-- R417-R421: the checks and the effects of the payload of field n (DESIGN CHOICE, log entry 32). -/
def State.fieldLoaded (s : State) (n us : Nat) (storeOk : Bool) (det : List (Fin 8)) : State :=
  let slot := s.get FCC.STAT_SLOT n
  let a := imageSlot slot
  let s := s.set FCC.LOADT_LOADUS us n
  if !storeOk then s.copyInFail n 0x0D
  else if !s.tagOk n a 1 slot then s.copyInFail n 0x0E
  else if s.codeBad n slot (s.get FCC.IMGVER n) then s.copyInFail n 0x0F
  else
    let s := (((s.loadCode n slot).applyBody n (s.bodyAt n a) det).fieldSettings n).uncheck (4096 + 256 * n) 256
    let s := if s.flag DRF.CTRL_AUTOINIT n then s.autoNext (1 + n) (4096 + 256 * n) 257 else s
    s.set FCC.STAT_PHASE (if s.pllsLocked n then 4 else 3) n

/-- R224, R280, R417-R421: a field that has had the FENCE message loads no image; the payload has been read in us microseconds; storeOk: no read of the store failed. -/
def execFieldLoadDone (n : FieldId) (us : Fin 65536) (storeOk : Bool) (det : List (Fin 8)) (s : State) : Result :=
  .next (if s.get FCC.STAT_PHASE n = 2 ∧ s.flag FLF.FSTAT_FENCED (8 * n.val) = false then s.fieldLoaded n us storeOk det else s)

/-- R32, R213: field n is admitted. -/
def State.admitField (s : State) (n : Nat) : State :=
  let s := ((s.set FLH.RC_STATUS 5 n).set FCC.STAT_PHASE 5 n).setBitOf GLB.AVAIL_FREADY n
  let s := { s with boot := { s.boot with admitted := true } }
  let s := if s.bit CLK.LOCK 2 then s.raise FLD.STAT_WCLKLOCK n else s
  let s := if s.flag QDR.CFG_PRESENT n then (s.set QDR.STAT_STATE 1 n).lower DRF.STAT_INITDONE n else s
  (s.wires).rollEnd

/-- R32, R161, R213, R266, R307: field n reports ready and is admitted. -/
def execFieldReady (n : FieldId) (s : State) : Result :=
  .next (if s.get FLH.RC_STATUS n = 4 ∧ s.get FCC.STAT_PHASE n = 4 ∧ s.flag FTS.STAT_LOCK n = true ∧ s.flag FTS.STAT_CALDONE n = true then s.admitField n else s)

/-! Release and start-up (R422-R426). -/

/-- R434: RST_RELTS. -/
def relTs : StampRegs := ⟨RST.RELTS_FRAC, RST.RELTS_NS, RST.RELTS_SECLO, RST.RELTS_SECHI⟩

/-- R424: a ready package that is not released and has an admitted field. -/
def State.mayRelease (s : State) : Bool := s.boot.readyAt.isSome && s.get GLB.AVAIL_FREADY != 0 && !s.flag RST.SYNC_RELEASED

/-- R425: the release point; the release instant is 20 us later. -/
def State.releaseAt (s : State) (t : Nat) : State := (s.raise RST.SYNC_RELEASED).setStamp relTs ((t + 20 * usUnits) % dtcModulus)

/-- R424: SYNC has read level for two TCLK cycles; with SYNCEN = 0 the release point is the moment of readiness. -/
def execReleasePoint (level : Bool) (s : State) : Result :=
  let s := s.setB RST.SYNC_LEVEL level
  .next (if !s.mayRelease then s
  else if !s.flag RST.SYNC_SYNCEN then s.releaseAt (s.boot.readyAt.getD 0)
  else if level then s.releaseAt s.now
  else s)

/-- R424: TIMEOUT ms have passed since readiness without the edge. -/
def execSyncTimeout (s : State) : Result :=
  let t := s.boot.readyAt.getD 0 + s.get RST.SYNC_TIMEOUT * msUnits
  .next (if s.mayRelease && s.flag RST.SYNC_SYNCEN && s.get RST.SYNC_TIMEOUT != 0 && decide (t ≤ s.now) then
    (s.releaseAt t).raise RST.SYNC_SYNCTMO
  else s)

/-- How many start-up steps field n has run. -/
def State.stepsDone (s : State) (n : Nat) : Nat := Store.get 0 n s.boot.steps

/-- R321, R422, R425: the next step of field n completes (DESIGN CHOICE, log entry 32). -/
def State.stepDone (s : State) (n : Nat) : State :=
  let i := s.stepsDone n
  let s := { s with boot := { s.boot with
    steps := Store.put n (i + 1) s.boot.steps
    stepAt := Store.put n (s.fieldNow n) s.boot.stepAt
    lockWait := s.boot.lockWait.filter fun x => x != n } }
  ((s.setBitOf FCC.STEP_DONE (stepCode (s.get FCC.STEP_ORDER n) i) n).set FCC.STAT_PHASE (if i = 3 then 7 else 6) n).showPins n

/-- R422, R425: field n runs its next start-up step, when its time has come. -/
def execStartupStep (n : FieldId) (s : State) : Result :=
  let i := s.stepsDone n
  let due := if i = 0 then s.serves n && decide (s.stampOf relTs ≤ s.fieldNow n)
    else decide (Store.get 0 n s.boot.stepAt + usUnits ≤ s.fieldNow n)
  .next (if s.flag RST.SYNC_RELEASED && s.bit FPW.DON 0 n && (s.get FCC.STAT_PHASE n == 5 || s.get FCC.STAT_PHASE n == 6) && due && !s.boot.lockWait.contains n.val then
    if stepCode (s.get FCC.STEP_ORDER n) i = 0 ∧ s.pllsLocked n = false then
      { s with boot := { s.boot with lockWait := s.boot.lockWait ++ [n.val] } }
    else s.stepDone n
  else s)

/-- R306, R419, R422: FPLL i of field n locks. -/
def execFabricPllLock (n : FieldId) (i : Fin 6) (s : State) : Result :=
  .next (if s.bit FLD.PLL_USED i n && (decide (3 ≤ s.get FCC.STAT_PHASE n) && decide (s.get FCC.STAT_PHASE n ≤ 7)) then
    let s := s.setBitOf FLD.PLL_LOCK i n
    if !s.pllsLocked n then s
    else if s.get FCC.STAT_PHASE n = 3 then s.set FCC.STAT_PHASE 4 n
    else if s.boot.lockWait.contains n.val then s.stepDone n
    else s
  else s)

/-- R417, R422: an FPLL in use has not locked 1 ms after it was started. -/
def execFabricPllLockTimeout (n : FieldId) (s : State) : Result :=
  .next (if s.pllsLocked n then s
  else if s.get FCC.STAT_PHASE n = 3 then s.copyInFail n 0x10
  else if s.boot.lockWait.contains n.val then ((s.raise FCC.STAT_LOCKLATE n).raise FLD.STAT_PLLUNLK n).stepDone n
  else s)

/-! Service and recovery access (R44, R45). -/

/-- R44: the first four conditions of service: Headgate and MC0 run and the CXL link is trained. -/
def State.hostReady (s : State) : Bool :=
  s.flag HDG.STAT_KEYOK && s.boot.rolling && s.get CXL.LSTAT_MODE != 0 && s.get GLB.SERV_STATE == 0

/-- R44: the conditions of service hold for the first time since the package reset. -/
def execServiceEntry (s : State) : Result :=
  .next (if s.hostReady && s.boot.admitted then s.set GLB.SERV_STATE 2 else s)

/-- R45: roll call has ended without an admitted field and the first four conditions of service hold. -/
def execRecoveryAccessEntry (s : State) : Result :=
  .next (if s.hostReady && s.boot.ended && !s.boot.admitted then s.set GLB.SERV_STATE 1 else s)

/-! Parcels (R427-R432). -/

/-- R429: a source of a swap: its store offset, the KIND and SLOT of its key (R439), its size. Source 0xF is HOME. -/
def State.swapSource (s : State) (n src : Nat) : Nat × Nat × Nat × Nat :=
  if src = 15 then (imageSlot (s.get FCC.STAT_SLOT n), 1, s.get FCC.STAT_SLOT n, imageSize)
  else (parcelSlot src, 2, 0x10 + src, parcelSize)

/-- R429: the error of a swap's source: 0x0603, 0x0604, or 0. -/
def State.swapError (s : State) (n p src : Nat) : Nat :=
  if src = 15 then 0
  else
    let a := parcelSlot src
    if s.headerError n a 2 parcelSize ≠ 0 then 0x0603
    else if s.hdrParcel n a ≠ p ∨ s.hdrStatic n a ≠ s.hdrStatic n (imageSlot (s.get FCC.STAT_SLOT n)) then 0x0604
    else 0

/-- The fabric ports whose logic lies in parcel p of field n, numbered as FieldSt.place. -/
def State.portsIn (s : State) (n p : Nat) : List Nat :=
  ((Store.get {} n s.fields).place.filter fun e => e.2 == p).map fun e => e.1

/-- R429, R430: a write of FCC_PCMD of field n. -/
def State.writePcmd (s : State) (n v src : Nat) : State :=
  let p := bitsOf v 1 4
  let c := bitsOf v 5 4
  let e := bitsOf v 16 10
  if !bitOf v 0 || decide (12 ≤ p) || (decide (12 ≤ c) && c != 15) then s
  else if s.opBusy e then s.raise FCC.STAT_PCMDERR n
  else if (s.swap n).isSome then s.opRefuse e 0x0601 src
  else
    let fail := fun (s : State) (err : Nat) => s.opBegin e 0x0601 5 err src noResult
    if !s.flag RST.SYNC_RELEASED then fail s 0x0601
    else if s.get FCC.PSTAT_STATE n p = 3 then fail s 0x0602
    else if s.swapError n p c ≠ 0 then fail s (s.swapError n p c)
    else
      let ps := s.portsIn n p
      let s := (s.opBegin e 0x0601 2 0 src noResult).opMove e 2 0 [s.hdrVer n (s.swapSource n c).1, p + c * 2 ^ 8, 0]
      let s := ((s.engage n p).set FCC.PSTAT_STATE 1 n p).setSwap n { parcel := p, src := c, entry := e, t0 := s.elapsed }
      { s with resv := s.resv.filter fun r => !(decide (256 ≤ r.1) && (r.1 - 256) / 16 == n && ps.contains ((r.1 - 256) % 16)) }

/-- R429: a write of the word v to FCC_PCMD. -/
def execParcelSwap (n : FieldId) (v : Word) (src : Fin 4096) (s : State) : Result :=
  .next (s.access .FCC n fun s => s.writePcmd n v.toNat src)

/-- R432: a swap ends FAILED with its parcel BLANK. -/
def State.swapBlank (s : State) (n : Nat) (w : SwapSt) (err : Nat) : State :=
  (((((s.clearBasins n (84 * (4 + w.parcel)) 84).swapFab n w.parcel {}).set FCC.PSTAT_STATE 2 n w.parcel).endSwap n).opFail w.entry err)

/-- R430: nothing is outstanding at the parcel's Canal endpoints: no tag, and no request or response of theirs under way. -/
def State.parcelQuiet (s : State) (n p : Nat) : Bool :=
  (s.portsIn n p).all fun x => decide (x < 32) ||
    let own (r : Req) : Bool := r.src == n * 256 + 0x40 + (x - 32)
    !(s.tags.any (fun t => own t.2.req) || s.ingress.any (fun h => own h.req) || s.waiting.any own || s.owed.any fun w => own w.req)

/-- R430: the parcel's drain is complete: its header is read and checked again (DESIGN CHOICE, log entry 9; DESIGN
CHOICE, log entry 32). -/
def execParcelDrained (n : FieldId) (s : State) : Result :=
  .next (match s.swap n with
  | some w =>
    if w.drained.isSome || decide (s.elapsed < w.t0 + usFs) || !s.parcelQuiet n w.parcel then s
    else
      let us := (s.elapsed - w.t0 - usFs) / usFs
      let o := (s.op w.entry).opspec
      let s := s.opMove w.entry 2 0 [o.getD 0 0, o.getD 1 0, us]
      let err := s.swapError n w.parcel w.src
      if err ≠ 0 then s.swapBlank n w err else s.setSwap n { w with drained := some us, drainedAt := s.elapsed, pieceAt := s.elapsed + 10 * usFs }
  | none => s)

/-- R430: the next 64th of the payload of a parcel swap of field n is written: at most 1.40 ms for all of them. -/
def State.swapPiece (s : State) (n : Nat) (w : SwapSt) : State :=
  if w.drained.isSome ∧ w.written = false ∧ w.pieces < 64 ∧ w.pieceAt ≤ s.elapsed then
    let t := (1 + s.openValue .loadStep % 21875) * 1000000
    (s.used.opMove w.entry 2 (1024 * (w.pieces + 1)) (s.op w.entry).opspec).setSwap n { w with pieces := w.pieces + 1, pieceAt := w.pieceAt + t }
  else s

/-- R430: the parcel swaps that run go on. -/
def State.swapCycle (s : State) : State :=
  if s.swaps.isEmpty then s else (List.range 8).foldl (fun s n => match s.swap n with
    | some w => s.swapPiece n w
    | none => s) s

/-- R430, R432: the frames and basin blocks of the parcel are written, its flip-flops are at INIT and the tag checked; ok: no read of the store failed. -/
def execParcelWritten (n : FieldId) (ok : Bool) (s : State) : Result :=
  .next (match s.swap n with
  | some w =>
    if w.drained.isNone || w.written || decide (s.elapsed < w.drainedAt + 10 * usFs) then s
    else
      let q := s.swapSource n w.src
      if !ok then s.swapBlank n w 0x0605
      else if !s.tagOk n q.1 q.2.1 q.2.2.1 then s.swapBlank n w 0x0606
      else
        (((s.loadBasins n (84 * (4 + w.parcel)) 84 (s.bodyAt n q.1)).swapFab n w.parcel (s.bodyAt n q.1).fab).opMove w.entry 2 65536
          (s.op w.entry).opspec).setSwap n { w with written := true, writtenAt := s.elapsed }
  | none => s)

/-- The ports of parcel p of field n lie where the image of the swap places them. -/
def State.replace (s : State) (n p : Nat) (b : ImgBody) : State :=
  let f := Store.get {} n s.fields
  { s with fields := Store.set {} n { f with
      place := (b.place.filter fun e => e.2 == p).foldl (fun m e => Store.put e.1 e.2 m) (f.place.filter fun e => e.2 != p) } s.fields }

/-- R430: clocks and gates of the parcel are released and the swap ends DONE. -/
def execParcelActive (n : FieldId) (s : State) : Result :=
  .next (match s.swap n with
  | some w =>
    if !w.written || decide (s.elapsed < w.writtenAt + 2 * usFs) then s
    else
      let a := (s.swapSource n w.src).1
      let s := (s.replace n w.parcel (s.bodyAt n a)).set FCC.PVER (s.hdrVer n a) n w.parcel
      let s := ((s.set FCC.PSTAT_STATE 0 n w.parcel).set FCC.PSTAT_SRC w.src n w.parcel).wrap FCC.PSTAT_SWAPS 1 n w.parcel
      (s.endSwap n).opDone w.entry
  | none => s)

/-- R431: the drain is not complete 1 ms after the swap was accepted. -/
def execParcelWedged (n : FieldId) (s : State) : Result :=
  .next (match s.swap n with
  | some w =>
    if w.drained.isNone && decide (w.t0 + 1000 * usFs ≤ s.elapsed) then
      ((s.set FCC.PSTAT_STATE 3 n w.parcel).endSwap n).opFail w.entry 0x0602
    else s
  | none => s)

end Sys2Proof.Machine
end

