-- ==== Sys2Proof/Machine/Update.lean ====
section
/-! DEFINITION. Security and firmware update (spec/18_security_update.md R435-R460): owner enrolment, bundles, activation,
confirmation, reversion and settings migration, with the mailbox commands of R407 that carry bundles. -/
namespace Sys2Proof.Machine

/-! The mailbox (R405, R407). -/

/-- R405, R407: the mailbox answers a return code with an output payload, which stands at the start of the payload area
(PRESUMED, log entry 47; DESIGN CHOICE, log entry 52). -/
def State.mailbox (s : State) (code : Nat) (data : List Byte := []) : State :=
  { s with resp := { st := .ok, data := data, code := code }, cxl := { s.cxl with mbCode := code, mbCmd := s.cxl.mbCmd % 2 ^ 16 + data.length * 2 ^ 16, mbOut := data ++ s.cxl.mbOut.drop data.length } }

/-- Success, Invalid Input, Unsupported and Busy (R406-R408). -/
def mbSuccess : Nat := 0
def mbInvalid : Nat := 2
def mbUnsupported : Nat := 3
def mbBusy : Nat := 6

/-- R398: the source of a mailbox command. -/
def mbSource : Nat := 0x802

/-! Bundles (R441-R444). -/

/-- A little-endian field of n bytes of bytes given. -/
def fieldAt (l : List Byte) (a n : Nat) : Nat := natLE ((l.drop a).take n)

/-- R441: PARTS, MANLEN, TOTAL, BUNDLEID and SIGNER of a bundle header. -/
def bunParts (l : List Byte) : Nat := fieldAt l 6 2
def bunManlen (l : List Byte) : Nat := fieldAt l 8 4
def bunTotal (l : List Byte) : Nat := fieldAt l 16 8
def bunId (l : List Byte) : Nat := fieldAt l 24 8
def bunSigner (l : List Byte) : Nat := fieldAt l 132 1

/-- R442, R443: entry i of the manifest. -/
def bunEntry (l : List Byte) (i : Nat) : List Byte := (l.drop (512 + 64 + 128 * i)).take 128

/-- R442: the signer's public key. -/
def bunKey (l : List Byte) : List Byte := (l.drop (512 + 64 + 128 * bunParts l)).take 97

/-- R443: the fields of a part entry. -/
def entLength (e : List Byte) : Nat := fieldAt e 12 4
def entOffset (e : List Byte) : Nat := fieldAt e 16 8
def partOf (e : List Byte) : PartRec := { kind := fieldAt e 0 1, target := fieldAt e 1 1, version := fieldAt e 4 4, svn := fieldAt e 8 4 }

/-- The part entries of a bundle. -/
def bunEntries (l : List Byte) : List (List Byte) := (List.range (bunParts l)).map fun i => bunEntry l i

/-- R444: lane microcode, HBM training firmware and the stage-1 loader are privileged. -/
def PartRec.priv (p : PartRec) : Bool := p.kind == 5 || p.kind == 6 || p.kind == 7

/-- R444: the anti-rollback counter of a kind. -/
def PartRec.counter (p : PartRec) : Option Nat :=
  if p.kind = 7 then some 0 else if 1 ≤ p.kind ∧ p.kind ≤ 6 then some p.kind else none

/-- R438, R444: the SVN of a part; a code-store area has that of the full image for its site. -/
def svnOf (ps : List PartRec) (p : PartRec) : Nat :=
  if p.kind = 4 then ((ps.find? fun q => q.kind == 2 && q.target == p.target).map (·.svn)).getD 0 else p.svn

/-- R444: the die whose store holds the part (8 Headworks), and the site that its TARGET names. -/
def PartRec.die (p : PartRec) : Nat :=
  if p.kind = 2 ∨ p.kind = 4 then p.target else if p.kind = 3 then p.target / 16 else if p.kind = 8 ∧ p.target ≠ 0x80 then p.target else 8

/-- R444, R447: does the TARGET suit the KIND and name a populated site? -/
def State.targetOk (s : State) (p : PartRec) : Bool :=
  if p.kind = 2 ∨ p.kind = 4 then decide (p.target < 8) && s.present p.target
  else if p.kind = 3 then decide (p.target / 16 < 8) && decide (p.target % 16 < 12) && s.present (p.target / 16)
  else if p.kind = 8 then p.target == 0x80 || (decide (p.target < 8) && s.present p.target)
  else (p.kind == 1 || p.priv) && p.target == 0xFF

/-- R444: where the part is written: the offset in the store of its die, the size there, and KIND and SLOT of its image key. -/
def State.targetOf (s : State) (p : PartRec) : Nat × Nat × Nat × Nat :=
  match p.kind with
  | 1 => let k := 1 - s.get FWU.ACT_HWFW; (firmwareSlot k, 0x1000000, 3, k)
  | 2 => let k := if s.bit FWU.ACT_FIMG p.target then 0 else 1; (imageSlot k, imageSize, 1, k)
  | 3 => (parcelSlot (p.target % 16), parcelSize, 2, 0x10 + p.target % 16)
  | 4 => (codeArea (if s.bit FWU.ACT_FIMG p.target then 0 else 1), 0x400000, 0, 0)
  | 5 => let k := 1 - s.get FWU.ACT_LANEMC; (laneSlot k, 0x200000, 4, k)
  | 6 => let k := 1 - s.get FWU.ACT_HBMFW; (hbmSlot k, 0x200000, 5, k)
  | _ => let k := 1 - s.get FWU.ACT_LOADER; (loaderSlot k, 0x100000, 6, k)

/-! The checks of R447. -/

/-- R447: BAD_HEADER as far as the header tells. -/
def State.headerBad (s : State) (l : List Byte) : Bool :=
  fieldAt l 0 4 != 0x4C444E42 || fieldAt l 4 2 != 1 || fieldAt l 508 4 != crc32 (l.take 508) ||
  bunParts l == 0 || decide (64 < bunParts l) || bunManlen l != 64 + 128 * bunParts l + 97 || bunTotal l != s.upd.total

/-- R443: the parts follow the manifest contiguously, in order, to the end of the bundle. -/
def contiguous (total : Nat) : Nat → List (List Byte) → Bool
  | a, [] => a == total
  | a, e :: t => entOffset e == a && contiguous total (a + entLength e) t

/-- A digest that registers hold, twelve words. -/
def State.digest (s : State) (f : Field) : Nat := (List.range 12).foldl (fun a i => a + s.get f i * 2 ^ (32 * i)) 0

/-- R437: may the signer sign a part of the kind? -/
def State.signerOk (s : State) (signer : Nat) (p : PartRec) : Bool :=
  if p.priv || s.get HDG.LCS != 2 then signer == 1
  else if s.flag HDG.LCS_WELOK then signer == 1 || signer == 2
  else signer == 2

/-- R437, R441, R447: SIGNATURE. -/
def State.signatureBad (s : State) (l : List Byte) (ps : List PartRec) : Bool :=
  let key := bunKey l
  let held := if bunSigner l = 1 then s.digest HDG.ROOTH else s.digest HDG.OWNH
  !(ps.all fun p => s.signerOk (bunSigner l) p) || Config.sha384 key != held ||
  !Config.signed key ((l.drop 136).take 96) (l.take 136 ++ (l.drop 512).take (bunManlen l))

/-- R447: IDENTITY. -/
def State.identityBad (s : State) (l : List Byte) (ps : List PartRec) : Bool :=
  fieldAt l 512 2 != 0x0D8A || fieldAt l 514 1 != s.part.pop || fieldAt l 515 1 != s.get GLB.ID_HREV || !(ps.all fun p => s.targetOk p)

/-- R438: ROLLBACK. -/
def State.rollback (s : State) (ps : List PartRec) : Bool :=
  ps.any fun p => match p.counter with
    | some c => decide (svnOf ps p < s.get HDG.ARB c) || decide (255 < svnOf ps p)
    | none => false

/-- R442: COMPAT: an active version outside its range (DEDUCED, log entry 38). -/
def State.compatBad (s : State) (l : List Byte) : Bool :=
  [(0, FWU.LDRVER), (1, FWU.FWVER), (2, FWU.HBMVER), (3, FWU.LANEVER)].any fun e =>
    let lo := fieldAt l (528 + 8 * e.1) 4
    let hi := fieldAt l (532 + 8 * e.1) 4
    decide (s.get e.2 < lo) || (hi != 0xFFFFFFFF && decide (hi < s.get e.2))

/-- R447: MISSING. -/
def partsMissing (ps : List PartRec) : Bool :=
  (ps.any fun p => (p.kind == 2 || p.kind == 4) && !ps.any fun q => q.kind == 6 - p.kind && q.target == p.target) ||
  ps.any fun p => decide (1 < ps.countP fun q => q.kind == p.kind && q.target == p.target)

/-- R447: the first check of the manifest that fails, 0 for none (DEDUCED, log entry 38). -/
def State.manifestError (s : State) (l : List Byte) : Nat :=
  let es := bunEntries l
  let ps := es.map partOf
  if !contiguous (bunTotal l) (512 + bunManlen l) es then 0x0702
  else if (ps.any fun p => p.priv) && !(s.upd.was == 0 || s.upd.was == 6) then 0x0701
  else if s.signatureBad l ps then 0x0703
  else if s.identityBad l ps then 0x0704
  else if s.rollback ps then 0x0705
  else if s.compatBad l then 0x0706
  else if (ps.any fun p => p.priv) && ps.length != 1 then 0x0707
  else if partsMissing ps then 0x0708
  else 0

/-- R447: STAGE ends FAILED with a code, naming a part or 0xFF (DEDUCED, log entry 38). -/
def State.stageFail (s : State) (err part : Nat) : State :=
  let s := ((s.opFail s.upd.entry err).invalidate.set FWU.STAT_STATE 6).bundleLog err part
  { s with upd := { s.upd with rx := [], manOk := false, parts := [], migs := [], done := 0 } }

/-! Receiving (R446). -/

/-- R446, R447: BUNDLE_BEGIN. -/
def State.bundleBegin (s : State) (len e : Nat) : State :=
  if s.opBusy e then s.mailbox mbBusy
  else
    let st := s.get FWU.STAT_STATE
    if st = 0 ∨ st = 2 ∨ st = 6 then
      let s := ((s.opBegin e 0x0701 2 0 mbSource noResult).set FWU.STAT_STATE 1).set2 FWU.RX_LO FWU.RX_HI 0
      ({ s with upd := { s.upd with rx := [], manOk := false, entry := e, total := len, was := st, done := 0, parts := [], migs := [] } }).mailbox mbSuccess
    else ((s.opBegin e 0x0701 5 0x0701 mbSource noResult).bundleLog 0x0701 0xFF).mailbox mbSuccess

/-- R407, R446: mailbox command BUNDLE_BEGIN with its input payload. -/
def execBundleBegin (p : List Byte) (s : State) : Result :=
  .next (if p.length ≠ 10 ∨ 1023 < fieldAt p 8 2 then s.mailbox mbInvalid else s.bundleBegin (fieldAt p 0 8) (fieldAt p 8 2))

/-- R446, R447: the header, and then the manifest, when they are complete. -/
def State.judgeBundle (s : State) : State :=
  let l := s.upd.rx
  if s.upd.manOk || decide (l.length < 512) then s
  else if s.headerBad l then s.stageFail 0x0702 0xFF
  else
    let s := s.set2 FWU.BID_LO FWU.BID_HI (bunId l)
    if l.length < 512 + bunManlen l then s
    else
      match s.manifestError l with
      | 0 =>
        let w := fieldAt l 516 4
        { s with upd := { s.upd with manOk := true, parts := (bunEntries l).map partOf, window := if w = 0 then 120 else w } }
      | e => s.stageFail e 0xFF

/-- R407, R446: mailbox command BUNDLE_DATA with its input payload: an offset and 1 to 8,184 bytes (DEDUCED, log entry
38; DESIGN CHOICE, log entry 52). -/
def execBundleData (p : List Byte) (s : State) : Result :=
  .next (if p.length < 9 ∨ 8192 < p.length ∨ s.get FWU.STAT_STATE ≠ 1 ∨ fieldAt p 0 8 ≠ s.upd.rx.length ∨
      s.upd.total < s.upd.rx.length + (p.length - 8) then s.mailbox mbInvalid
  else
    let s := { s with upd := { s.upd with rx := s.upd.rx ++ p.drop 8 } }
    ((s.set2 FWU.RX_LO FWU.RX_HI s.upd.rx.length).judgeBundle).mailbox mbSuccess)

/-- R439, R440: an image as it is stored: Headgate writes IV, TAG and HCRC into the header and encrypts the payload
(DEDUCED, log entry 38). -/
def State.sealImage (s : State) (site kind slot : Nat) (plain : List Byte) : List Byte :=
  let iv := Config.imageIv s.free
  let q := Config.imageSeal site kind slot iv (plain.take 40) (plain.drop 256)
  let h := plain.take 40 ++ bytesLE 12 iv.toNat ++ bytesLE 16 q.2.toNat ++ (plain.drop 68).take 184
  h ++ bytesLE 4 (crc32 h) ++ q.1

/-- R446: write a part to its target; parcel slots show what they hold. -/
def State.writePart (s : State) (p : PartRec) (plain : List Byte) : State :=
  if p.kind = 8 then { s with upd := { s.upd with migs := s.upd.migs ++ [(p.target, plain)] } }
  else
    let q := s.targetOf p
    let site := if p.die = 8 then 0xFF else p.die
    let bytes := if p.kind = 4 then plain else s.sealImage site q.2.2.1 q.2.2.2 plain
    let s := (s.used.eraseStore p.die q.1 q.2.1).setStores p.die q.1 bytes
    if p.kind = 3 then s.showSlots p.die else s

/-- R446: the plaintext bytes of the first k parts. -/
def plainBytes (es : List (List Byte)) (k : Nat) : Nat := (es.take k).foldl (fun a e => a + entLength e) 0

/-- R447: the first check of a part that fails, and its plaintext; ok: no write of a store failed (DEDUCED, log entry 38). -/
def State.partError (s : State) (l e : List Byte) (ok : Bool) : Nat × List Byte :=
  let p := partOf e
  match Config.transit ((l.drop 32).take 97) (bunId l) e ((l.drop (entOffset e)).take (entLength e)) with
  | none => (0x0709, [])
  | some plain =>
    if Config.sha384 plain ≠ fieldAt e 52 48 then (0x070A, [])
    else if p.kind ≠ 4 ∧ p.kind ≠ 8 ∧ Config.signed (bunKey l) ((plain.drop 68).take 96) (plain.take 40 ++ plain.drop 256) = false then (0x070B, [])
    else if p.kind ≠ 8 ∧ (s.targetOf p).2.1 < plain.length then (0x070C, [])
    else if p.kind ≠ 8 ∧ p.die < 8 ∧ s.flag FLH.SB_UP p.die = false then (0x070E, [])
    else if !ok then (0x070D, [])
    else (0, plain)

/-- R446-R448: the next part has been checked and written. -/
def execBundlePartWritten (ok : Bool) (s : State) : Result :=
  .next (let l := s.upd.rx
  let es := bunEntries l
  match es[s.upd.done]? with
  | some e =>
    if s.get FWU.STAT_STATE ≠ 1 ∨ s.upd.manOk = false ∨ l.length < entOffset e + entLength e then s
    else
      match s.partError l e ok with
      | (0, plain) =>
        let s := s.writePart (partOf e) plain
        let k := s.upd.done + 1
        let s := { s with upd := { s.upd with done := k } }
        let prog := 1024 * (64 * plainBytes es k / max 1 (plainBytes es es.length))
        if k = es.length then
          let s := (s.opDone s.upd.entry).set FWU.STAT_STATE 2
          let s := (s.setB FWU.STAT_PRIV (s.upd.parts.any fun p => p.priv)).logEvent 0x0701 8 s.bundleId
          { s with upd := { s.upd with rx := [], manOk := false } }
        else s.opMove s.upd.entry 3 prog []
      | (err, _) => s.stageFail err s.upd.done
  | none => s)

/-- R447: a write of FWU_CTRL with ABORT in RECEIVING. -/
def State.abortBundle (s : State) : State := if s.get FWU.STAT_STATE = 1 then s.stageFail 0x070F 0xFF else s

/-- R449: a write of FWU_CTRL with CANCEL. -/
def State.cancelBundle (s : State) : State :=
  let st := s.get FWU.STAT_STATE
  if st = 2 ∨ st = 4 then
    let s := ((s.invalidate.set FWU.STAT_STATE 0).lower FWU.STAT_PRIV).logEvent 0x070A 8 s.bundleId
    { s with upd := { s.upd with parts := [], migs := [], done := 0 } }
  else s

/-- R19, R447, R449: a write of the word v to FWU_CTRL; one with both bits is ignored. -/
def State.writeFwuCtrl (s : State) (v : Nat) : State :=
  match bitOf v 0, bitOf v 1 with
  | true, false => s.cancelBundle
  | false, true => s.abortBundle
  | _, _ => s

/-- R449: a write of FWU_CTRL.CANCEL. -/
def execCancel (s : State) : Result := .next (s.access .FWU 0 fun s => s.writeFwuCtrl 1)
/-- R447: a write of FWU_CTRL.ABORT. -/
def execAbort (s : State) : Result := .next (s.access .FWU 0 fun s => s.writeFwuCtrl 2)

/-! Activation, confirmation, reversion (R448-R454). -/

/-- R448: BUNDLE_END. -/
def State.bundleEnd (s : State) (e : Nat) : State :=
  if s.opBusy e then s.mailbox mbBusy
  else if s.get FWU.STAT_STATE = 2 then
    ((((s.opBegin e 0x0702 2 0 mbSource noResult).opDone e).set FWU.STAT_STATE 4).logEvent 0x0702 8 s.bundleId).mailbox mbSuccess
  else (s.opBegin e 0x0702 5 0x0701 mbSource noResult).mailbox mbSuccess

/-- R407, R448: mailbox command BUNDLE_END with its input payload. -/
def execBundleEnd (p : List Byte) (s : State) : Result :=
  .next (if p.length ≠ 2 ∨ 1023 < fieldAt p 0 2 then s.mailbox mbInvalid else s.bundleEnd (fieldAt p 0 2))

/-- R438, R452: what confirmation raises: each counter to the highest SVN among the parts of its kind. -/
def raises (ps : List PartRec) : List (Nat × Nat) :=
  (List.range 7).filterMap fun c =>
    match (ps.filter fun p => p.counter == some c).map fun p => svnOf ps p with
    | [] => none
    | l => some (c, l.foldl max 0)

/-- R452: a write of the word v to FWU_CONFIRM. -/
def State.writeConfirm (s : State) (v : Nat) : State :=
  if bitsOf v 0 16 = 0xC0F1 ∧ s.get FWU.STAT_STATE = 5 ∧ s.flag FWU.STAT_MIGFAIL = false then
    let s := (((s.set FWU.STAT_STATE 0).lower FWU.STAT_PRIV).lower FWU.WIN_REMAIN)
    let s := ({ s with upd := { s.upd with raise := raises s.upd.parts, parts := [], migs := [], migrated := [], done := 0 } }).raiseCounters
    (s.logEvent 0x0704 8 s.bundleId).set FWU.STAT_LASTRES 1
  else s.raise FWU.STAT_CFERR

/-- R452: a write of the word v to FWU_CONFIRM. -/
def execConfirm (v : Word) (s : State) : Result := .next (s.access .FWU 0 fun s => s.writeConfirm v.toNat)

/-- R454: when the window of a trial ends, in units of 2^-32 ns. -/
def State.windowEnd (s : State) : Nat := s.upd.begun + s.get FWU.WINSET_LEN * secUnits

/-- R460: FWU_WIN: ms left in the window. -/
def State.windowRemain (s : State) : Nat :=
  if s.get FWU.STAT_STATE ≠ 5 then 0
  else if s.boot.rolling then (s.windowEnd - s.now) / msUnits
  else s.get FWU.WINSET_LEN * 1000

/-- R453, R454: the window ends unconfirmed (DESIGN CHOICE, log entry 9). -/
def execTrialWindowExpiry (s : State) : Result :=
  .next (if s.get FWU.STAT_STATE = 5 ∧ s.boot.rolling = true ∧ s.windowEnd ≤ s.now then (s.revert 1).pkr 7 else s)

/-- R453, R460: a write of the word v to FWU_STAT: MIGFAIL, set, reverts a trial; CFERR is cleared. -/
def State.writeFwuStat (s : State) (v : Nat) : State :=
  let s := s.w1c v FWU.STAT_CFERR
  if bitOf v 4 then
    let s := s.raise FWU.STAT_MIGFAIL
    if s.get FWU.STAT_STATE = 5 then (s.revert 4).pkr 7 else s
  else s

/-! Owner enrolment (R436). -/

/-- R436: a write of the word v to HDG_OCMD. -/
def State.writeOcmd (s : State) (v : Nat) : State :=
  if !bitOf v 0 then s
  else if s.get HDG.LCS ≠ 1 ∨ bitsOf v 16 16 ≠ 0x4F57 ∨ s.digest HDG.OKEY = 0 then s.raise HDG.STAT_OCERR
  else
    let s := (List.range 12).foldl (fun s i => s.set HDG.OWNH (s.get HDG.OKEY i) i) s
    (s.set HDG.LCS 2).logEvent 0x0709 8 0

/-- R436: a write of the word v to HDG_OCMD. -/
def execOwnerEnrol (v : Word) (s : State) : Result := .next (s.access .HDG 0 fun s => s.writeOcmd v.toNat)

/-! Settings migration (R456, R457). -/

/-- R456: a rule: OP, TYPE, A, B, C. -/
structure MigRule where
  op : Nat
  type : Nat
  a : Nat
  b : Nat
  c : Nat
  deriving DecidableEq, Repr

/-- R456: the rules of a migration part. -/
def migRules (m : List Byte) : List MigRule :=
  (List.range (fieldAt m 6 2)).map fun i =>
    ⟨fieldAt m (16 + 16 * i) 2, fieldAt m (18 + 16 * i) 2, fieldAt m (20 + 16 * i) 4, fieldAt m (24 + 16 * i) 4, fieldAt m (28 + 16 * i) 4⟩

/-- R456: does a rule name a record of a TYPE with a body? -/
def MigRule.names (r : MigRule) (ty : Nat) (body : List Byte) : Bool :=
  if r.op = 1 ∨ r.op = 2 then r.type == ty
  else if r.op = 3 ∨ r.op = 4 then ty == 1 && fieldAt body 0 4 == r.a
  else false

/-- R420: a record's bytes. -/
def recordOf (ty : Nat) (body : List Byte) : List Byte := bytesLE 2 ty ++ bytesLE 2 body.length ++ body

/-- R456: what the rules make of a record. -/
def migRecord (rs : List MigRule) (ty : Nat) (body : List Byte) : List Byte :=
  match rs.find? fun r => r.names ty body with
  | some r =>
    if r.op = 2 then []
    else if r.op = 3 then recordOf ty (bytesLE 4 r.b ++ body.drop 4)
    else if r.op = 4 then recordOf ty (body.take 4 ++ bytesLE 4 ((fieldAt body 4 4 &&& r.b) ||| r.c) ++ body.drop 8)
    else recordOf ty body
  | none => recordOf ty body

/-- R456: the records that ADD rules append. -/
def migAdds (rs : List MigRule) : List Byte :=
  (rs.filter fun r => r.op == 5).flatMap fun r => recordOf 1 (bytesLE 4 r.a ++ bytesLE 4 r.b)

/-- R420: a settings slot: SCHEMA, SEQ and records under their header. -/
def settingsBytes (schema seq : Nat) (recs : List Byte) : List Byte :=
  let h := bytesLE 4 0x53544553 ++ bytesLE 2 schema ++ bytesLE 2 0 ++ bytesLE 4 seq ++ bytesLE 4 recs.length ++ List.replicate 44 0
  h ++ bytesLE 4 (crc32 (h ++ recs)) ++ recs

/-- The active settings slot of a die (8 Headworks). -/
def State.setSlot (s : State) (die : Nat) : Nat := if die = 8 then s.get FWU.ACT_HWSET else if s.bit FWU.ACT_FSET die then 1 else 0

/-- R457: migrate the settings of one die; none where migration fails (DEDUCED, log entry 38). -/
def State.migrateDie (s : State) (die : Nat) (m : List Byte) (ok : Bool) : Option State :=
  let old := s.setSlot die
  let a := settingsSlot die old
  let recs := s.settingsOf die old none
  let schema := s.storeNat die (a + 4) 2
  let out := (recs.getD []).flatMap (fun r => migRecord (migRules m) r.1 (s.storeBytes die r.2.1 r.2.2)) ++ migAdds (migRules m)
  if (recs.isSome && (decide (schema < fieldAt m 0 2) || decide (fieldAt m 2 2 < schema))) || decide (settingsSize < 64 + out.length) || !ok then none
  else
    let b := settingsSlot die (1 - old)
    let s := (s.eraseStore die b settingsSize).setStores die b (settingsBytes (fieldAt m 4 2) (s.storeNat die (a + 8) 4 + 1) out)
    let s := if die = 8 then s.set FWU.ACT_HWSET (1 - old)
      else if old = 0 then s.setBitOf FWU.ACT_FSET die else s.clearBitOf FWU.ACT_FSET die
    some { s with upd := { s.upd with migrated := s.upd.migrated ++ [(die, 1 - old)] } }

/-- R457: migrate the dies in turn; the TARGET at which migration fails. -/
def State.migrateAll (s : State) (ok : Bool) : List (Nat × List Byte) → State × Option Nat
  | [] => (s, none)
  | (t, m) :: l =>
    match s.migrateDie (if t = 0x80 then 8 else t) m ok with
    | some s => s.migrateAll ok l
    | none => (s, some t)

/-- R451, R457: the new firmware migrates at its first start in TRIAL; ok: no write of a settings slot failed. -/
def execSettingsMigration (ok : Bool) (s : State) : Result :=
  .next (if s.get FWU.STAT_STATE = 5 ∧ s.upd.migDone = false ∧ s.boot.inReset = false then
    match s.migrateAll ok s.upd.migs with
    | (s, none) =>
      let s := { s.raise FWU.STAT_MIGOK with upd := { s.upd with migDone := true } }
      s.headworksSettings false
    | (s, some t) => (((s.raise FWU.STAT_MIGFAIL).logEvent 0x0706 8 t).revert 4).pkr 7
  else s)

end Sys2Proof.Machine
end

