-- ==== Sys2Proof/Machine/Debug.lean ====
section
/-! DEFINITION. Debug hardware (spec/19_debug.md R470-R488, R230): debug units, halt commands, stimulus ports, trace rings, the
gauge mux, and test access. -/
namespace Sys2Proof.Machine

/-! Debug units (R470, R472). -/

/-- R470: how many units of cluster c of field n are patch units. -/
def State.patchUnits (s : State) (n c : Nat) : Nat := (List.range 8).countP fun u => s.flag FDB.DU_MODE n c u

/-- R472: unit u is a patch unit whose engine is in RUN. -/
def State.patchBusy (s : State) (n c u : Nat) : Bool :=
  s.flag FDB.DU_MODE n c u && s.rget RIL.ESTAT_STATE (32 * n + 8 * c + s.get FDB.DU_ENG n c u) == 1

/-- R470, R472: a write of the word v to word r of FDB_DU[c][u] of field n (DEDUCED, log entry 35). -/
def State.writeDu (s : State) (n c u r v : Nat) : State :=
  let mode := bitOf v 1
  let refused := s.patchBusy n c u || r == 0 && mode != s.flag FDB.DU_MODE n c u &&
    (s.flag FDB.DU_EN n c u || mode && decide (6 ≤ s.patchUnits n c))
  if refused then s.raise FDB.STAT_DUERR n
  else match r with
    | 0 => s.wrAll v [FDB.DU_EN, FDB.DU_MODE, FDB.DU_ENG, FDB.DU_KIND, FDB.DU_HALT, FDB.DU_TRACE, FDB.DU_DCEN] n c u
    | 1 => s.wr v FDB.DU_ADDR n c u
    | 2 => s.wr v FDB.DU_MASK n c u
    | _ => s.wr v FDB.DU_DATA n c u

/-- R470: a write of a word of FDB_DU. -/
def execDebugUnitWrite (n : FieldId) (c : Fin 4) (u : Fin 8) (r : Fin 4) (v : Word) (s : State) : Result :=
  .next (s.access .FDB n fun s => s.writeDu n c u r v.toNat)

/-! Halting, stepping and resuming (R473, R474). -/

/-- R473: RESUME of a HALTED engine. -/
def State.resumeEngine (s : State) (g : Nat) : State :=
  let s := ((s.setRilState g 1).rilReload g).clearHstat g
  let s := (s.setEng g { s.eng g with skip := true, stepDue := false }).used
  s.trace (g / 32) 4 (g % 32) 0 (1 + s.openValue .resumeSize % 16) []

/-- R473: the bits of one FDB_HCMD write for engine g. -/
def State.haltCommand (s : State) (g : Nat) (halt resume step : Bool) : State :=
  let st := s.rget RIL.ESTAT_STATE g
  let err := s.raise FDB.STAT_HCMDERR (g / 32)
  if halt && resume then err
  else
    let s := if !halt then s else if st = 1 then s.requestHalt g 0 0 else s.raise FDB.STAT_HCMDERR (g / 32)
    let s := if !resume then s else if st = 3 then s.resumeEngine g else s.raise FDB.STAT_HCMDERR (g / 32)
    if !step then s else if st = 3 ∧ resume = false then s.rilStep g else s.raise FDB.STAT_HCMDERR (g / 32)

/-- R473: a write of the word v to FDB_HCMD[c] of field n. -/
def State.writeHcmd (s : State) (n c v : Nat) : State :=
  (List.range 8).foldl (fun (s : State) e =>
    if bitOf v e || bitOf v (8 + e) || bitOf v (16 + e) then
      s.haltCommand (32 * n + 8 * c + e) (bitOf v e) (bitOf v (8 + e)) (bitOf v (16 + e))
    else s) s

/-- R473: a write of FDB_HCMD with the HALT bit of an engine. -/
def execEngineHalt (g : EngId) (s : State) : Result :=
  .next (s.access .FDB (g / 32) fun s => s.writeHcmd (g / 32) (g / 8 % 4) (2 ^ (g.val % 8)))

/-- R473: a write of FDB_HCMD with the RESUME bit of an engine. -/
def execEngineResume (g : EngId) (s : State) : Result :=
  .next (s.access .FDB (g / 32) fun s => s.writeHcmd (g / 32) (g / 8 % 4) (2 ^ (8 + g.val % 8)))

/-- R473: a write of FDB_HCMD with the STEP bit of an engine. -/
def execEngineStep (g : EngId) (s : State) : Result :=
  .next (s.access .FDB (g / 32) fun s => s.writeHcmd (g / 32) (g / 8 % 4) (2 ^ (16 + g.val % 8)))

/-- R474: the cycles pass for which a halt may still be deferred, 64 in all. -/
def execHaltDeferTimeout (g : EngId) (s : State) : Result :=
  .next (if s.rget RIL.ESTAT_STATE g == 1 && (s.eng g).halt.isSome && !(s.eng g).draining && s.haltDeferred g then
    (s.rilCycles g (64 - (s.eng g).defer)).rilBreak g
  else s)

/-! Stimulus ports (R476). -/

/-- R476: a write of the word v to stimulus port p of engine e (0 to 31) of field n. -/
def State.writeSp (s : State) (n e p v : Nat) : State := s.trace n 0 e p 4 (bytesLE 4 v)

/-- R476: a write of FDB_SP. -/
def execStimulusWrite (n : FieldId) (e p : Fin 32) (v : Word) (s : State) : Result :=
  .next (s.access .FDB n fun s => s.writeSp n e p v.toNat)

/-- R428, R476: fabric presents a packet at its stimulus port; SPSIZE 0 means 16 bytes. -/
def execFabricStimulus (n : FieldId) (port : Fin 256) (size : Fin 16) (data : BitVec 128) (s : State) : Result :=
  let k := if size = 0 then 16 else size.val
  .next (if s.fabricOpen n 18 then s.trace n 1 0 port k ((bytesLE 16 data.toNat).take k) else s)

/-! Trace rings (R478). -/

/-- Base, size and offset of ring u. -/
def State.ringBase (s : State) (u : Nat) : Nat := s.get2 (ringRegs u).baseLo (ringRegs u).baseHi (ringIx u)
def State.ringSize (s : State) (u : Nat) : Nat := 2 ^ s.get (ringRegs u).log2 (ringIx u)
def State.ringPtr (s : State) (u : Nat) : Nat := s.get2 (ringRegs u).wptrLo (ringRegs u).wptrHi (ringIx u)

/-- R478: a write of the word v to TCFG of ring u (DEDUCED, log entry 40). -/
def State.writeTcfg (s : State) (u v : Nat) : State :=
  let r := ringRegs u
  let s := s.wrAll v [r.en, r.wrap, r.log2] (ringIx u)
  if !bitOf v 0 then (s.set r.state 0 (ringIx u)).setRing u {}
  else if s.flag GLB.AVAIL_HBMUP = false ∨ s.ringBase u % s.ringSize u ≠ 0 ∨ 0x002400000000 < s.ringBase u + s.ringSize u then
    (s.set r.state 3 (ringIx u)).setRing u {}
  else if s.get r.state (ringIx u) = 1 then s
  else ((s.set r.state 1 (ringIx u)).set2 r.wptrLo r.wptrHi 0 (ringIx u)).setRing u {}

/-- R478: a write of FDB_TCFG or DBG_TCFG. -/
def execTraceEnable (u : Fin 9) (v : Word) (s : State) : Result :=
  .next (s.access (if u.val < 8 then .FDB else .DBG) u fun s => s.writeTcfg u v.toNat)

/-- R478: the source of a ring's writes. -/
def ringSrc (u : Nat) : Nat := if u < 8 then u * 256 + 0x82 else 0x806

/-- R478: the ring's offset moves past a packet; without WRAP the ring stops at its end, and what waits counts as dropped
(DEDUCED, log entry 40). -/
def State.ringAdvance (s : State) (u : Nat) (rest : List (List Byte)) : State :=
  let r := ringRegs u
  let s := s.setRing u { s.ring u with fifo := rest }
  let p := s.ringPtr u + 32
  if p < s.ringSize u then s.set2 r.wptrLo r.wptrHi p (ringIx u)
  else if s.flag r.wrap (ringIx u) then s.set2 r.wptrLo r.wptrHi 0 (ringIx u)
  else
    let s := (s.set2 r.wptrLo r.wptrHi p (ringIx u)).set r.state 2 (ringIx u)
    (s.count r.drop rest.length (ringIx u)).setRing u { fifo := [], dropped := (s.ring u).dropped + rest.length }

/-- R478: after the write of a packet at a, answered by w; rest waits behind it. -/
def State.ringWritten (s : State) (u a : Nat) (rest : List (List Byte)) (w : State × RStat) : State :=
  if w.2 = .ok then w.1.ringAdvance u rest
  else if w.2 = .waits then s
  else (w.1.dropPosted { op := .pwr, src := ringSrc u, oc := 0, addr := a, len := 32 } w.2).ringAdvance u rest

/-- R478, R191: the oldest packet of a running ring is written by a posted write of its source. -/
def execTracePacketWrite (u : Fin 9) (s : State) : Result :=
  .next (if s.get (ringRegs u).state (ringIx u) = 1 then
    match (s.ring u).fifo with
    | [] => s
    | p :: t =>
      let a := s.ringBase u + s.ringPtr u
      s.ringWritten u a t (s.netStore .pwr (ringSrc u) 0 a p)
  else s)

/-! The gauge mux (R481, R482). -/

/-- R482: a read of GAU_CHAL[0] draws a nonce. -/
def State.gaugeChallenge (s : State) : State :=
  let s := s.used
  let v := s.openValue .random
  let s := (List.range 8).foldl (fun (s : State) i => s.set GAU.CHAL (bitsOf v (32 * i) 32) i) s
  { s with gau := { s.gau with nonce := true, drawn := s.now } }

/-- R482: a read of GAU_CHAL[0]. -/
def execGaugeChallenge (s : State) : Result :=
  .next (match s.barred .GAU 0 with
    | some st => s.answer st
    | none => let s := s.gaugeChallenge; s.answerData (bytesLE 4 (s.get GAU.CHAL 0)))

/-- R482: the unlock ends: every EN bit is cleared. -/
def State.gaugeLock (s : State) : State :=
  let s := ((s.lower GAU.STAT_UNLOCKED).set GAU.STAT_SCOPE 0).lower GAU.REMAIN
  let s := (List.range 16).foldl (fun (s : State) i => s.lower GAU.SEL_EN i) s
  (List.range 32).foldl (fun (s : State) i => s.lower GAU.FSEL_EN (i / 4) (i % 4)) s

/-- R482: the 256 bytes of the token, and the nonce. -/
def State.token (s : State) : List Byte := (List.range 64).flatMap fun i => bytesLE 4 (s.get GAU.TOK i)
def State.nonce (s : State) : List Byte := (List.range 8).flatMap fun i => bytesLE 4 (s.get GAU.CHAL i)

/-- R482: is the token good? -/
def State.tokenOk (s : State) : Bool :=
  let t := s.token
  let signer := fieldAt t 40 1
  let life := fieldAt t 44 4
  let key := (t.drop 48).take 97
  s.gau.nonce && decide (s.now < s.gau.drawn + 60 * secUnits) &&
  fieldAt t 0 8 == s.get2 GLB.SERIAL_LO GLB.SERIAL_HI && (t.drop 8).take 32 == s.nonce &&
  (signer == 1 || signer == 2 && s.get HDG.LCS == 2) && decide (1 ≤ life ∧ life ≤ 86400) &&
  Config.sha384 key == (if signer = 1 then s.digest HDG.ROOTH else s.digest HDG.OWNH) &&
  Config.signed key ((t.drop 145).take 96) (t.take 145)

/-- R482: GO: the token is checked, and the nonce is spent (DEDUCED, log entry 40). -/
def State.gaugeGo (s : State) : State :=
  let t := s.token
  let ok := s.tokenOk
  let s := { s with gau := { s.gau with nonce := false } }
  if ok then
    let scope := fieldAt t 41 1 % 4
    let life := fieldAt t 44 4
    let s := (((s.raise GAU.STAT_UNLOCKED).set GAU.STAT_SCOPE scope).set GAU.REMAIN life).logEvent 0x0902 8 (fieldAt t 40 1 + scope * 2 ^ 8)
    { s with gau := { s.gau with ends := s.now + life * secUnits } }
  else (s.raise GAU.STAT_TOKERR).logEvent 0x0903 8 (fieldAt t 40 1)

/-- R19, R482: a write of the word v to GAU_CMD (DEDUCED, log entry 40). -/
def State.writeGauCmd (s : State) (v : Nat) : State :=
  if bitOf v 0 && bitOf v 1 then s.raise GAU.STAT_LOCKERR
  else if bitOf v 0 then s.gaugeGo
  else if bitOf v 1 then s.gaugeLock
  else s

/-- R482: GO. -/
def execGaugeUnlock (s : State) : Result := .next (s.access .GAU 0 fun s => s.writeGauCmd 1)

/-- R482: RELOCK. -/
def execRelock (s : State) : Result := .next (s.access .GAU 0 fun s => s.writeGauCmd 2)

/-- R482, R488: GAU_REMAIN: the seconds left, a started one counted (DEDUCED, log entry 40). -/
def State.gaugeRemain (s : State) : Nat :=
  if s.flag GAU.STAT_UNLOCKED then (s.gau.ends - s.now + secUnits - 1) / secUnits else 0

/-- R482: the unlock expires (DESIGN CHOICE, log entry 9). -/
def execGaugeExpiry (s : State) : Result :=
  .next (if s.flag GAU.STAT_UNLOCKED ∧ s.gau.ends ≤ s.now then s.gaugeLock else s)

/-- R481: a write of the word v to GAU_SEL[i] for pin i below 16, else to GAU_FSEL[n][j] for pin 16 + 4 n + j. -/
def State.writeGauge (s : State) (i v : Nat) : State :=
  if !s.flag GAU.STAT_UNLOCKED || !s.bit GAU.STAT_SCOPE (if i < 16 then 0 else 1) then s.raise GAU.STAT_LOCKERR
  else if i < 16 then s.wrAll v [GAU.SEL_EN, GAU.SEL_PROBE] i
  else s.wrAll v [GAU.FSEL_EN, GAU.FSEL_PROBE] ((i - 16) / 4) ((i - 16) % 4)

/-- R481: a write of GAU_SEL or GAU_FSEL. -/
def execGaugeSelect (i : Fin 48) (v : Word) (s : State) : Result := .next (s.access .GAU 0 fun s => s.writeGauge i v.toNat)

/-- R481: does a gauge pin show its probe? -/
def State.gaugeShows (s : State) (i : Nat) : Bool :=
  s.flag GAU.STAT_UNLOCKED && (if i < 16 then s.flag GAU.SEL_EN i
    else s.flag GAU.FSEL_EN ((i - 16) / 4) ((i - 16) % 4) && s.present ((i - 16) / 4) && !s.bit GLB.AVAIL_FFENCED ((i - 16) / 4))

/-- R481: the level of a gauge pin: that of its probe, else 0. -/
def State.gaugeLevel (s : State) (i : Nat) : Bool :=
  s.gaugeShows i && (if i < 16 then Config.probe 8 (s.get GAU.SEL_PROBE i) s.elapsed
    else Config.probe ((i - 16) / 4) (s.get GAU.FSEL_PROBE ((i - 16) / 4) ((i - 16) % 4)) s.elapsed)

/-- R481: the gauge pins follow their probes. -/
def State.gaugeCycle (s : State) : State :=
  if s.gau.levels = 0 ∧ s.flag GAU.STAT_UNLOCKED = false then s
  else (List.range 48).foldl (fun s i =>
    let v := s.gaugeLevel i
    if v == bitOf s.gau.levels i then s
    else ({ s with gau := { s.gau with levels := if v then setBit s.gau.levels i else clearBit s.gau.levels i } }).emit (.gauge i v)) s

/-! Test access (R483, R484, R230): die 8 is Headworks, 0 to 7 the fields. -/

/-- R483: a die in the chain. -/
def State.inChain (s : State) (die : Nat) : Bool := die == 8 || s.present die

/-- R484: the TAP of a die takes an instruction: without TEST_EN one that needs it acts as BYPASS. -/
def State.tapTakes (s : State) (die code : Nat) (needs : Bool) : State :=
  let code := if needs && !s.tap.testEn then 0xFF else code
  { s with tap := { s.tap with inst := Store.put die code s.tap.inst } }

/-- A TAP instruction of a die that is in the chain; f is its effect (PRESUMED, log entry 41; DESIGN CHOICE, log entry 52). -/
def State.tapRow (s : State) (die code : Nat) (needs : Bool) (f : State → State) : State :=
  if !s.inChain die then s
  else if needs && !s.tap.testEn then (s.tapTakes die code needs).answer .ok
  else f ((s.tapTakes die code needs).answer .ok)

/-- The boundary cells of a die, and what drives its balls from them. -/
def State.cells (s : State) (die : Nat) : List Bool := Store.get [] die s.tap.cells
def State.drive (s : State) (die code : Nat) : State := s.emit (.balls die code (s.cells die))

/-- BYPASS. -/
def execBypass (die : Fin 9) (s : State) : Result := .next (s.tapRow die 0xFF false id)

/-- R483: IDCODE (PRESUMED, log entry 41). -/
def State.idcode (s : State) (die : Nat) : Nat :=
  1 + Config.jep106.toNat * 2 + (if die = 8 then 0x0D88 else 0x0D89) * 2 ^ 12 +
  (if die = 8 then s.get GLB.ID_HREV else s.get FLD.ID_REV die) * 2 ^ 28
def execIdcode (die : Fin 9) (s : State) : Result :=
  .next (s.tapRow die 0x01 false fun s => s.answerData (bytesLE 4 (s.idcode die)))

/-- SAMPLE/PRELOAD: the balls' values are captured and shifted out, and new values are shifted in. -/
def execSamplePreload (die : Fin 9) (captured shifted : List Bool) (s : State) : Result :=
  .next (s.tapRow die 0x02 false fun s =>
    ({ s with tap := { s.tap with cells := Store.put die shifted s.tap.cells } }).answerData (captured.map fun (b : Bool) => if b then (1 : Byte) else 0))

/-- EXTEST (IEEE 1149.1): the boundary cells drive the balls. -/
def execExtest (die : Fin 9) (s : State) : Result := .next (s.tapRow die 0x03 true fun s => s.drive die 0x03)
/-- EXTEST_PULSE (IEEE 1149.6). -/
def execExtestPulse (die : Fin 9) (s : State) : Result := .next (s.tapRow die 0x04 true fun s => s.drive die 0x04)
/-- EXTEST_TRAIN (IEEE 1149.6). -/
def execExtestTrain (die : Fin 9) (s : State) : Result := .next (s.tapRow die 0x05 true fun s => s.drive die 0x05)
/-- CLAMP: the boundary cells drive the balls while the bypass register is selected. -/
def execClamp (die : Fin 9) (s : State) : Result := .next (s.tapRow die 0x06 true fun s => s.drive die 0x06)
/-- HIGHZ: the balls are not driven. -/
def execHighz (die : Fin 9) (s : State) : Result := .next (s.tapRow die 0x07 true fun s => s.emit (.balls die 0x07 []))

/-- R230: STANDALONE: every link of the die loops back and sends PRBS31. -/
def execStandalone (die : Fin 9) (s : State) : Result := .next (s.tapRow die 0x40 true id)

/-- R484: LBRESULT: the error counts of the die's ten links, module 0 at bit 0 (PRESUMED, log entry 41). -/
def execLbresult (die : Fin 9) (errs : List Word) (s : State) : Result :=
  .next (s.tapRow die 0x41 true fun s =>
    s.answerData ((List.range 10).flatMap fun i => bytesLE 4 (errs.getD i 0).toNat))

/-- R484, R507: TEST_EN rises and holds the package in PKR, or falls and causes one (PRESUMED, log entry 41). -/
def execTestEnChange (level : Bool) (s : State) : Result :=
  .next (if level = s.tap.testEn then s
  else if level then ({ s with tap := { s.tap with testEn := true } }).pkrHeld 6
  else (({ s with tap := { s.tap with testEn := false } }).unhold 6).pkr 6)

end Sys2Proof.Machine
end

