-- ==== Sys2Proof/Machine/Engine.lean ====
section
/-! DEFINITION. The Rill commands (spec/14_rill_engine.md R347-R368, spec/15_rill_isa.md): starting and resetting engines, the
patch loader, the watchdog, the cluster clock, the issue of each instruction, and block transfers. Engine g is named by its
package engine number; an instruction command acts where the engine is in RUN and the instruction is the one at its PC. held:
the cycles for which a wait of R364, R381 or R383 held the issue. -/
namespace Sys2Proof.Machine

/-- R348: a write of RIL_ECTRL with START and an ENTRY. -/
def execEngineStart (g : EngId) (entry : Fin 32768) (s : State) : Result :=
  .next (s.access .RIL (g / 32) fun s => s.writeEctrl g (1 + entry * 2 ^ 16))

/-- R366: a write of RIL_ECTRL with ENR and an ENTRY. -/
def execEngineReset (g : EngId) (entry : Fin 32768) (s : State) : Result :=
  .next (s.access .RIL (g / 32) fun s => s.writeEctrl g (2 + entry * 2 ^ 16))

/-- R366: the outstanding accesses have completed. -/
def execEngineResetDone (g : EngId) (s : State) : Result := .next (s.rilResetEnd g)

/-- R366: requests are still outstanding 1 ms after ENR. -/
def execEngineResetWedged (g : EngId) (s : State) : Result :=
  .next (if (s.eng g).resetting && !s.rilQuiet g then
    let s := s.setEng g { s.eng g with resetting := false }
    (s.rilFault g 8 (s.rget RIL.EPC g) 0).rset RIL.ESTAT_WEDGED 1 g
  else s)

/-- R350: a write of the word v to RIL_PLCMD of cluster k (DEDUCED, log entry 35). -/
def State.writePlcmd (s : State) (k v : Nat) : State :=
  let s := s.w1c v RIL.PLCMD_PLERR k
  if bitOf v 0 && s.flag RIL.PLCMD_BUSY k then s.raise RIL.PLCMD_PLERR k
  else
    let s := s.wrAll v [RIL.PLCMD_ENG, RIL.PLCMD_COUNT, RIL.PLCMD_DEST] k
    if !bitOf v 0 then s
    else
      let g := 8 * k + s.get RIL.PLCMD_ENG k
      let n := s.get RIL.PLCMD_COUNT k
      let d := s.get RIL.PLCMD_DEST k
      if s.rget RIL.ESTAT_STATE g = 1 ∨ 255 < d + n then s.raise RIL.PLCMD_PLERR k
      else
        let p : PatchLd := ⟨g, d, n + 1, 4 * (k / 4) + s.get RIL.PLSRC_RSV k, 8 * s.get RIL.PLSRC_OFFSET k⟩
        let s := s.raise RIL.PLCMD_BUSY k
        { s with loaders := Store.put k p s.loaders }

/-- R350: a write of RIL_PLCMD. -/
def execPatchLoad (k : ClusterId) (v : Word) (s : State) : Result :=
  .next (s.access .RIL (k / 4) fun s => s.writePlcmd k v.toNat)

/-- R350: the loader ends: nothing is left to copy, or a read was refused or poisoned (err). -/
def State.patchEnd (s : State) (k : Nat) (err : Bool) : State :=
  let s := { s with loaders := Store.drop k s.loaders }.lower RIL.PLCMD_BUSY k
  if err then s.raise RIL.PLCMD_PLERR k else s

/-- R350: the loader copies n more words; where a read waits (R279), what is left to copy waits with it. -/
def State.patchWords (s : State) (k : Nat) (p : PatchLd) : Nat → State
  | 0 => s.patchEnd k false
  | n + 1 =>
    let i := p.words - (n + 1)
    let t := s.rsvRead p.rsv (rilPort (8 * k)) (p.off + 8 * i) 8 [] true
    if t.resp.st = .waits then
      { s with loaders := Store.put k { p with dest := p.dest + i, words := n + 1, off := p.off + 8 * i } s.loaders }
    else
      let s' := t.keepResp s
      if t.resp.st = .ok then
        { s' with patchRam := Store.set 0 (256 * p.eng + p.dest + i) (natLE (t.resp.data.take 6)) s'.patchRam }.patchWords k p n
      else s'.patchEnd k true

/-- R350: the patch loader of a cluster ends (DEDUCED, log entry 35). -/
def execPatchLoadDone (k : ClusterId) (s : State) : Result :=
  .next (match Store.find k.val s.loaders with
  | some p => s.patchWords k p p.words
  | none => s)

/-- R367, R474: the cycles that remain of the watchdog count of a running engine pass, and it expires; a halt that is deferred
is taken in its place. -/
def execWatchdogExpiry (g : EngId) (s : State) : Result :=
  .next (if s.rget RIL.ESTAT_STATE g = 1 ∧ s.rget RIL.WDRL_WDEN g = 1 then
    (s.rilCycles g (1024 * s.rget RIL.WDCNT g - (s.eng g).wdSub)).rilExpire g
  else s)

/-- R347: no engine of a cluster is in RUN or HALTED. -/
def State.clusterIdle (s : State) (k : Nat) : Bool :=
  (List.range 8).all fun j => s.get RIL.ESTAT_STATE k j != 1 && s.get RIL.ESTAT_STATE k j != 3

/-- R347, R501: the power manager stops the Rill clock of a cluster that has been idle for CHOLD us. -/
def execClusterClockStop (k : ClusterId) (s : State) : Result :=
  .next (if s.flag PWR.POL_CGATE && s.clusterIdle k && (Store.find k.val s.loaders).isNone && !s.flag RIL.CSTAT_CLKOFF k then
    (s.raise RIL.CSTAT_CLKOFF k).setBitOf FPW.GATE_COFF (k % 4) (k / 4)
  else s)

/-- R351, R501: an external access to X or Y takes a free cycle; forced: after 16 cycles it takes one from a move. -/
def execXyExternalAccess (g : EngId) (forced : Bool) (s : State) : Result :=
  let s := s.wakeCluster (g / 8)
  .next (if forced && s.rget RIL.ESTAT_STATE g == 1 then ((s.count RIL.ECNT_XYSTALL 1 (g / 8) (g % 8)).rilCycles g 1).rilBreak g |>.rilExpire g else s)

/-! Compute instructions (R374). -/

/-- NOP: its moves only. -/
def execRillNop (g : EngId) (held : Nat) (s : State) : Result := .next (s.rilRow g 0x00 held)
/-- CMAC: acc plus or minus a complex product (R355). -/
def execCmac (g : EngId) (held : Nat) (s : State) : Result := .next (s.rilRow g 0x01 held)
/-- DMAC: each part of acc plus or minus the product of the parts. -/
def execDmac (g : EngId) (held : Nat) (s : State) : Result := .next (s.rilRow g 0x02 held)
/-- BFLY: a radix-2 butterfly into an accumulator pair. -/
def execBfly (g : EngId) (held : Nat) (s : State) : Result := .next (s.rilRow g 0x03 held)
/-- AOP: clear, move, add, subtract or load an accumulator. -/
def execAop (g : EngId) (held : Nat) (s : State) : Result := .next (s.rilRow g 0x04 held)
/-- AST: store an accumulator (R358). -/
def execAst (g : EngId) (held : Nat) (s : State) : Result := .next (s.rilRow g 0x05 held)
/-- CALU: a complex operation (R375). -/
def execCalu (g : EngId) (held : Nat) (s : State) : Result := .next (s.rilRow g 0x06 held)
/-- RALU: a 32-bit operation (R375). -/
def execRalu (g : EngId) (held : Nat) (s : State) : Result := .next (s.rilRow g 0x07 held)
/-- ACS: two add-compare-select butterflies (R360). -/
def execAcs (g : EngId) (held : Nat) (s : State) : Result := .next (s.rilRow g 0x08 held)
/-- BEXP: BE takes the minimum with the redundant sign bits (R359). -/
def execBexp (g : EngId) (held : Nat) (s : State) : Result := .next (s.rilRow g 0x09 held)
/-- SCALE: a register shifted by BE (R359). -/
def execScale (g : EngId) (held : Nat) (s : State) : Result := .next (s.rilRow g 0x0A held)

/-! Control instructions (R376). -/

/-- LDI: a register takes an immediate. -/
def execLdi (g : EngId) (held : Nat) (s : State) : Result := .next (s.rilRow g 0x20 held)
/-- MOVR: a register copy (R379). -/
def execMovr (g : EngId) (held : Nat) (s : State) : Result := .next (s.rilRow g 0x21 held)
/-- STB: bits of ST set or cleared. -/
def execStb (g : EngId) (held : Nat) (s : State) : Result := .next (s.rilRow g 0x22 held)
/-- BR: a branch on a condition (R377). -/
def execBr (g : EngId) (held : Nat) (s : State) : Result := .next (s.rilRow g 0x23 held)
/-- CALL: d15 takes the return PC. -/
def execCall (g : EngId) (held : Nat) (s : State) : Result := .next (s.rilRow g 0x24 held)
/-- JMPR: a jump to a register. -/
def execJmpr (g : EngId) (held : Nat) (s : State) : Result := .next (s.rilRow g 0x25 held)
/-- DO: a loop (R378). -/
def execDo (g : EngId) (held : Nat) (s : State) : Result := .next (s.rilRow g 0x26 held)
/-- STOP: the engine enters STOPPED. -/
def execRillStop (g : EngId) (held : Nat) (s : State) : Result := .next (s.rilRow g 0x27 held)
/-- WDR: the watchdog count is reloaded (R367). -/
def execWdr (g : EngId) (held : Nat) (s : State) : Result := .next (s.rilRow g 0x28 held)

/-! Memory instructions (R381). -/

/-- LOAD. -/
def execRillLoad (g : EngId) (held : Nat) (s : State) : Result := .next (s.rilRow g 0x29 held)
/-- STORE. -/
def execStore (g : EngId) (held : Nat) (s : State) : Result := .next (s.rilRow g 0x2A held)
/-- LL, in the own field's reservoirs. -/
def execRillLl (g : EngId) (held : Nat) (s : State) : Result := .next (s.rilRow g 0x2B held)
/-- SC, in the own field's reservoirs. -/
def execRillSc (g : EngId) (held : Nat) (s : State) : Result := .next (s.rilRow g 0x2C held)
/-- AMO, on Canal (R364). -/
def execRillAmo (g : EngId) (held : Nat) (s : State) : Result := .next (s.rilRow g 0x2D held)
/-- BLK: a block transfer (R382). -/
def execBlk (g : EngId) (held : Nat) (s : State) : Result := .next (s.rilRow g 0x2E held)
/-- FLUSH: a Canal FLUSH, waited for. -/
def execRillFlush (g : EngId) (held : Nat) (s : State) : Result := .next (s.rilRow g 0x2F held)
/-- BWAIT: a wait for every block transfer. -/
def execBwait (g : EngId) (held : Nat) (s : State) : Result := .next (s.rilRow g 0x30 held)

/-! Block transfers (R363). -/

/-- The eight words of a block of X or Y. -/
def State.putXy (s : State) (g a : Nat) : Nat → List Byte → State
  | 0, _ => s
  | n + 1, l => ((s.writeWord (rilSrc g) none (a / 8) ((l.take 8).map some) false).1).putXy g (a + 8) n (l.drop 8)

/-- The eight words of a 64-byte transfer (R363). -/
def State.readLine (s : State) (src w : Nat) : State × Option (List Byte) := s.readWords src w 8
def State.putLine (s : State) (g a : Nat) (l : List Byte) : State := s.putXy g a 8 l

/-- R363: a block transfer from X or Y at xy to offset x of reservoir i: its state and status. -/
def State.blockOut (s : State) (g xy i x : Nat) : State × RStat :=
  let t := s.readLine (rilSrc g) (xy / 8)
  match t.2 with
  | none => (t.1.eccCount (eccMemOf xy) DRH.MC_RDUNC DRF.MC_RDUNC, .poison)
  | some l =>
    let u := t.1.used.rsvWrites i [⟨rilPort g, rsvOfs x, l.map some⟩] []
    (u.keepResp s, u.resp.st)

/-- R363: a block transfer from offset x of reservoir i to X or Y at xy. -/
def State.blockIn (s : State) (g xy i x : Nat) : State × RStat :=
  let t := s.rsvRead i (rilPort g) x 64 [] false
  if t.resp.st = .ok then ((t.keepResp s).putLine g xy t.resp.data, .ok) else (t.keepResp s, t.resp.st)

/-- R363: one block transfer between X or Y and the own reservoir (DEDUCED, log entry 34). -/
def State.doBlock (s : State) (g : Nat) (b : RilBlk) : State × RStat :=
  match rilRsv g b.addr with
  | none => (s, .err)
  | some p =>
    if b.out then s.blockOut g (xyAddr g b.mem b.word) p.1 p.2 else s.blockIn g (xyAddr g b.mem b.word) p.1 p.2

/-- R363, R365: the oldest block transfer of an engine completes. -/
def execBlockTransferDone (g : EngId) (s : State) : Result :=
  .next (match (s.eng g).blks with
  | [] => s
  | b :: t =>
    let r := s.doBlock g b
    if r.2 = .waits then s
    else
      let e := r.1.eng g
      let s := r.1.setEng g { e with blks := t, wait := if e.wait = 2 ∧ t.isEmpty = true then 0 else e.wait }
      let s := if r.2 ≠ .ok ∧ s.rilActive g then s.rilFault g 5 (s.rget RIL.EPC g) b.addr else s
      s.rilAfter g)

end Sys2Proof.Machine
end

