-- ==== Sys2Proof/Machine/HostPort.lean ====
section
/-! DEFINITION. The CXL port (spec/16_cxl.md R387-R395, R409): the link, configuration space, the MSI-X table and the component
registers, the HDM decoder, and what a host access is answered. -/
namespace Sys2Proof.Machine

/-! The link (R388, R389, R395). -/

/-- R409: CXL_LSTAT.CACHE and MEM follow the link's mode, the enables of the DVSEC and the decoder. -/
def State.showLink (s : State) : State :=
  let cxl := s.get CXL.LSTAT_MODE == 2
  (s.setB CXL.LSTAT_CACHE (cxl && s.cxl.cacheEn)).setB CXL.LSTAT_MEM (cxl && s.cxl.memEn && s.cxl.hdmOk)

/-- The highest number up to a limit whose bit a mask holds. -/
def highestOf (mask : Nat) : Nat → Option Nat
  | 0 => if bitOf mask 0 then some 0 else none
  | n + 1 => if bitOf mask (n + 1) then some (n + 1) else highestOf mask n

/-- R388, R389: the link trains with a partner that supports the widths and rates of the masks (bit w: the width coded w, or x1
and x2 at 0 and 1; bit r: the rate coded r) and accepts the CXL alternate protocol or not; it reaches L0 only at x4 or
wider (DEDUCED, log entry 44). -/
def State.linkTrain (s : State) (widths rates : Nat) (alt : Bool) : State :=
  if s.get CXL.LSTAT_MODE ≠ 0 ∨ s.boot.inReset ∨ s.cxl.perst ∨ s.pow.dormant ≠ none then s
  else match highestOf widths (s.get CXL.LCFG_MAXW), highestOf rates (s.get CXL.LCFG_MAXRATE) with
  | some w, some r =>
    if w < 2 then s
    else ((((s.set CXL.LSTAT_MODE (if alt && decide (2 ≤ r) then 2 else 1)).set CXL.LSTAT_WIDTH w).set CXL.LSTAT_RATE r).setB
      CXL.LSTAT_DEGRADED (decide (w < 4 ∨ r < 4))).showLink
  | _, _ => s

/-- R388, R389. -/
def execLinkTrain (widths rates : Fin 32) (alt : Bool) (s : State) : Result := .next (s.linkTrain widths rates alt)

/-- R395, R402: the link goes down without a reset: LNKDN is set, owed completions are lost, the copies in host memory
stop (DEDUCED, log entry 44). -/
def State.linkDown (s : State) : State :=
  if s.get CXL.LSTAT_MODE = 0 then s
  else
    let s := ((((s.raise CXL.ERR_LNKDN).lower CXL.LSTAT_MODE).lower CXL.LSTAT_WIDTH).lower CXL.LSTAT_RATE).lower CXL.LSTAT_DEGRADED
    let owed := ((s.tags.filter fun e => isHost e.2.req.src && e.2.quar.isNone).map fun e => e.2.req.ord) ++
      (s.ingress.filter fun h => isHost h.req.src && h.req.op != .pwr).map fun h => h.req.ord
    ({ s with cxl := { s.cxl with lost := owed } }).mirrorFail.showLink

/-- R395. -/
def execLinkDown (s : State) : Result := .next s.linkDown

/-! Results of host accesses (R392). -/

/-- R392: a result other than OK: kind 0 CXL.io read, 1 CXL.io write, 2 MemRd, 3 MemWr. -/
def State.hostError (s : State) (kind : Nat) (st : RStat) (code a : Nat) : State :=
  let s :=
    if kind = 0 then
      if st = .poison ∨ st = .timeout ∨ st = .fenced then (s.raise CXL.ERR_RDPOIS).count CXL.ECNT1_RDPOIS
      else (s.raise CXL.ERR_RDERR).count CXL.ECNT0_RDERR
    else if kind = 1 then (s.raise CXL.ERR_WRDROP).count CXL.ECNT0_WRDROP
    else (s.raise CXL.ERR_MEMPOIS).count CXL.ECNT1_MEMPOIS
  if s.flag CXL.ELOG1_VALID then s
  else ((((s.set CXL.ELOG0_ADDR_LO a).set CXL.ELOG1_ADDR_HI (a / 2 ^ 32)).set CXL.ELOG1_ST code).set CXL.ELOG1_KIND kind).raise CXL.ELOG1_VALID

/-- The codes of what the host receives (R392, R397): a successful completion, a write performed, data or Cmp; a UR completion; a
completion with EP = 1; a write dropped; data 0 with Poison = 1; Cmp of a write not performed; retry status. -/
def hostOk : Nat := 0
def hostUR : Nat := 1
def hostEP : Nat := 2
def hostDropped : Nat := 3
def hostPoison : Nat := 4
def hostCmp : Nat := 5
def hostRetry : Nat := 6

/-- R392: the kind of a request of the host. -/
def Req.hostKind (r : Req) : Nat :=
  if r.src = 0x803 then (if r.op = .rd then 2 else 3) else if r.op = .rd ∨ r.op = .crd then 0 else 1

/-- R392: what the host receives for a status. -/
def hostAnswer (kind : Nat) (st : RStat) (len : Nat) : Resp :=
  if kind = 0 then
    if st = .poison ∨ st = .timeout ∨ st = .fenced then { st := st, data := List.replicate len 0xFF, code := hostEP }
    else { st := st, code := hostUR }
  else if kind = 1 then { st := st, code := hostDropped }
  else if kind = 2 then { st := st, data := List.replicate len 0, code := hostPoison }
  else { st := st, code := hostCmp }

/-- R392, R395: the host port receives the response to a request of the host. -/
def State.hostReceive (s : State) (r : Req) (a : Resp) : State :=
  if s.cxl.lost.contains r.ord then { s with cxl := { s.cxl with lost := s.cxl.lost.filter fun x => x != r.ord } }
  else if a.st = .ok then { s with resp := a }
  else { (s.hostError r.hostKind a.st a.st.code r.addr) with resp := hostAnswer r.hostKind a.st r.len }

/-! MSI-X table and component registers (R393, R404, R409). -/

/-- R404: the vector's masks change: a pending message goes out once no mask holds it. -/
def State.unmask (s : State) : State := if s.cxl.msixPend then s.sendMsix else s

/-- R393: HBM of 144 GiB. -/
def hbmSize : Nat := 0x2400000000

/-- R393: a commit of decoder 0 with the values in its registers. -/
def State.commit (s : State) : State :=
  let base := s.compWord 0x1210 / 2 ^ 28 * 2 ^ 28 + s.compWord 0x1214 * 2 ^ 32
  let size := s.compWord 0x1218 / 2 ^ 28 * 2 ^ 28 + s.compWord 0x121C * 2 ^ 32
  let c := s.compWord 0x1220
  let ok := size == hbmSize && bitsOf c 4 4 == 0 && !bitOf c 12
  ({ s with cxl := { s.cxl with hdmOk := ok, hdmErr := !ok, hdmBase := if ok then base else s.cxl.hdmBase, hdmLock := ok && bitOf c 8 } }).showLink

/-- R409: a write of the word v to the MSI-X table or to a component register; a locked decoder takes none (R393)
(PRESUMED, log entry 45). -/
def State.writeComp (s : State) (o v : Nat) : State :=
  let put (s : State) : State := { s with cxl := { s.cxl with comp := Store.set 0 o (BitVec.ofNat 32 v) s.cxl.comp } }
  if o = 0x80C then ({ s with cxl := { s.cxl with msixMask := bitOf v 0 } }).unmask
  else if 0x900 ≤ o ∧ o < 0x1000 then s
  else if 0x1210 ≤ o ∧ o < 0x1224 then
    if s.cxl.hdmLock then s
    else if o = 0x1220 then
      if bitOf v 9 then (put s).commit
      else ({ put s with cxl := { (put s).cxl with hdmOk := false, hdmErr := false } }).showLink
    else put s
  else put s

/-- The offsets of the CXL block that writeComp serves: the MSI-X table and PBA, and the component registers. -/
def isComp (o : Nat) : Bool := decide (0x800 ≤ o ∧ o < 0x810) || decide (0x900 ≤ o ∧ o < 0x908) || decide (0x1000 ≤ o ∧ o < 0x2000)

/-- A word with n bits at lo replaced. -/
def withBits (x lo n v : Nat) : Nat := x - bitsOf x lo n * 2 ^ lo + v % 2 ^ n * 2 ^ lo

/-- R41, R409: what they read as: one decoder and no interleave; those that only the CXL specification lays out hold an open value (PRESUMED, log entry 45). -/
def State.readComp (s : State) (o : Nat) : Nat :=
  if o = 0x80C then s.cxl.msixMask.toNat
  else if o < 0x80C then s.compWord o
  else if o = 0x900 then s.cxl.msixPend.toNat
  else if o < 0x1000 then 0
  else if o = 0x1200 then withBits (withBits (Config.cfgWord (2 ^ 16 + o) s.cxl.comp).toNat 0 4 0) 8 2 0
  else if o = 0x1210 ∨ o = 0x1218 then s.compWord o / 2 ^ 28 * 2 ^ 28
  else if o = 0x1214 ∨ o = 0x121C then s.compWord o
  else if o = 0x1220 then
    let c := s.compWord o
    c % 2 ^ 10 + s.cxl.hdmOk.toNat * 2 ^ 10 + s.cxl.hdmErr.toNat * 2 ^ 11 + bitsOf c 12 1 * 2 ^ 12
  else (Config.cfgWord (2 ^ 16 + o) s.cxl.comp).toNat

/-- R393: a commit of decoder 0 with a base, a size, interleave ways, a Target Device Type and Lock On Commit. -/
def execDecoderCommit (base size : BitVec 64) (iw : Fin 16) (ttype lock : Bool) (s : State) : Result :=
  .next (s.access .CXL 0 fun s =>
    let s := (s.writeComp 0x1210 (base.toNat % 2 ^ 32)).writeComp 0x1214 (base.toNat / 2 ^ 32)
    let s := (s.writeComp 0x1218 (size.toNat % 2 ^ 32)).writeComp 0x121C (size.toNat / 2 ^ 32)
    if base.toNat % 2 ^ 28 ≠ 0 ∨ size.toNat % 2 ^ 28 ≠ 0 then
      if s.cxl.hdmLock then s else ({ s with cxl := { s.cxl with hdmOk := false, hdmErr := true } }).showLink
    else s.writeComp 0x1220 (2 ^ 9 + iw * 16 + lock.toNat * 2 ^ 8 + ttype.toNat * 2 ^ 12))

/-! Configuration space (R390, R393, R397), in the layouts of the PCI Express and CXL 2.0 specifications. -/

/-- R393: Memory_Active (PRESUMED, log entry 45). -/
def State.memoryActive (s : State) : Bool :=
  s.flag GLB.AVAIL_HBMUP && (!s.flag DRH.CTRL_AUTOINIT || s.flag DRH.STAT_INITDONE) && !s.inRecovery

/-- R37: what software wrote to a base address register; 0 before it writes (PRESUMED, log entry 45). -/
def State.barWord (s : State) (o : Nat) : Nat := ((Store.find o s.cxl.cfg).map (·.toNat)).getD 0

/-- R390: the header of an extended capability: its ID and the offset of the next one (PRESUMED, log entry 45). -/
def extCap (w id next : Nat) : Nat := withBits (withBits w 0 16 id) 20 12 next

/-- R37, R390, R393: the word at an offset of configuration space (PRESUMED, log entry 45). -/
def State.cfgRead (s : State) (o : Nat) : Nat :=
  let w := (Config.cfgWord o s.cxl.cfg).toNat
  match o with
  | 0x000 => withBits w 16 16 0x0D88
  | 0x008 => 0x12000000 + withBits (w % 2 ^ 8) 0 4 (s.get GLB.ID_HREV)
  | 0x034 => withBits w 0 8 0x40
  | 0x040 => withBits w 0 16 0x5001
  | 0x050 => withBits (withBits w 0 16 0xB010) 20 4 0
  | 0x100 => extCap w 0x0001 0x148
  | 0x148 => extCap w 0x0019 0x168
  | 0x168 => extCap w 0x0025 0x178
  | 0x178 => extCap w 0x0026 0x1A8
  | 0x1A8 => extCap w 0x002A 0x1C8
  | 0x1C8 => extCap w 0x0027 0x200
  | 0x200 => extCap w 0x0023 0x240
  | 0x240 => extCap w 0x0023 0x260
  | 0x260 => extCap w 0x0023 0x280
  | 0x280 => extCap w 0x0023 0
  | 0x010 => s.barWord o / 2 ^ 28 * 2 ^ 28 + 0x4
  | 0x014 => s.barWord o
  | 0x018 => s.barWord o / 2 ^ 20 * 2 ^ 20
  | 0x01C => 0
  | 0x020 => s.barWord o / 2 ^ 30 * 2 ^ 30 + 0xC
  | 0x024 => s.barWord o
  | 0x044 => withBits (withBits w 0 2 (if s.cxl.d3hot then 3 else 0)) 3 1 1
  | 0x054 => withBits (withBits w 0 3 2) 28 1 0
  | 0x0B0 => withBits (withBits (withBits w 0 16 0x0011) 16 11 0) 30 2 (s.cxl.msixFmask.toNat + 2 * s.cxl.msixEn.toNat)
  | 0x0B4 => 0x00100800
  | 0x0B8 => 0x00100900
  | 0x208 => withBits (withBits (withBits w 0 16 0) 16 3 7) 20 2 1
  | 0x20C => withBits w 0 3 (s.cxl.cacheEn.toNat + 2 + 4 * s.cxl.memEn.toNat)
  | 0x218 => 0x24
  | 0x21C => withBits (withBits (withBits (w % 2 ^ 28) 0 1 1) 1 1 s.memoryActive.toNat) 13 3 1
  | 0x248 => withBits (withBits w 0 16 5) 16 4 0
  | 0x268 => withBits w 0 16 7
  | 0x288 => withBits w 0 16 8
  | 0x28C => 0x00100100
  | 0x290 => 0
  | 0x294 => 0x00010302
  | 0x298 => 0
  | _ => w

/-- R390, R402, R404: a write of the word v to an offset of configuration space (PRESUMED, log entry 45). -/
def State.cfgWrite (s : State) (o v : Nat) : State :=
  match o with
  | 0x044 => if bitsOf v 0 2 = 0 ∨ bitsOf v 0 2 = 3 then { s with cxl := { s.cxl with d3hot := bitOf v 0 } } else s
  | 0x0B0 => ({ s with cxl := { s.cxl with msixFmask := bitOf v 30, msixEn := bitOf v 31 } }).unmask
  | 0x20C => ({ s with cxl := { s.cxl with cacheEn := bitOf v 0, memEn := bitOf v 2 } }).showLink
  | _ => { s with cxl := { s.cxl with cfg := Store.put o (BitVec.ofNat 32 v) s.cxl.cfg } }

/-- The bytes of a word that byte enables select, in place of those of another. -/
def mergeBytes (old new be : Nat) : Nat :=
  natLE ((List.range 4).map fun i => if bitOf be i then BitVec.ofNat 8 (new / 2 ^ (8 * i)) else BitVec.ofNat 8 (old / 2 ^ (8 * i)))

/-- R390, R397: a configuration request for the word w of configuration space; a write has byte enables. Until the function is
ready, which it stays, requests are completed with retry status. -/
def execConfigRequest (ready : Bool) (w : Fin 1024) (write : Option (Fin 16 × Word)) (s : State) : Result :=
  .next (if s.get CXL.LSTAT_MODE = 0 then s
  else if s.cxl.crs && !ready then { s with resp := { st := .waits, code := hostRetry } }
  else
    let s := { s with cxl := { s.cxl with crs := false } }
    let old := s.cfgRead (4 * w)
    match write with
    | none => s.answerData (bytesLE 4 old)
    | some (be, v) => (s.cfgWrite (4 * w) (mergeBytes old v.toNat be)).answer .ok)

end Sys2Proof.Machine
end

