-- ==== Sys2Proof/Machine/Power.lean ====
section
/-! DEFINITION. Power, clocks and resets (spec/20_power_reset.md R489-R514, spec/21_electrical.md R517): the power states, the
commands of PWR, gating, telemetry and its limits, and the sources of resets. -/
namespace Sys2Proof.Machine

/-! Dormant and wake (R496, R498-R500). -/

/-- R395, R465, R499: entry to Dormant: Watermaster sends CLOSED, the host sees a link down, everything but the island loses its
state, TCLK stops (DESIGN CHOICE, log entry 36). -/
def State.enterDormant (s : State) (entry : Nat) : State :=
  let s := s.wmEvent 0x8002 [2]
  let s := if s.time.tclk then s.keepAlive true else s
  let s := if s.get CXL.LSTAT_MODE = 0 then s else s.raise CXL.ERR_LNKDN
  let s := (s.wiped false).set PWR.WAKE_ENTRY entry
  { s with pow := { dormant := some s.now, tripped := entry == 2 } }

/-- R500, R507: a wake ends Dormant with a PKR of source 0x08. -/
def State.wake (s : State) (src : Nat) : State := (s.restartTclk.pkrRun 8).set PWR.WAKE src

/-- R500: a wake event (1 PERST#, 2 DWAKE_N, 3 the timer). The wake logic is armed 1 ms after the entry; after a package trip
the wake is held pending. -/
def State.wakeEvent (s : State) (src : Nat) : State :=
  match s.pow.dormant with
  | some t =>
    if s.now < t + msUnits then s
    else if s.pow.tripped then { s with pow := { s.pow with pendWake := some (s.pow.pendWake.getD src) } }
    else s.wake src
  | none => s

/-- R500: DWAKE_N has been low for 100 µs (DESIGN CHOICE, log entry 36). -/
def execDwake (s : State) : Result := .next (s.wakeEvent 2)

/-- R500: the wake timer reaches 0. -/
def execWakeTimer (s : State) : Result := .next (if s.get PWR.WTMR = 0 then s else s.wakeEvent 3)

/-- R395, R500, R507: PERST# is asserted: it wakes the package from Dormant or causes a PKR, which it holds. -/
def execPerstAssert (s : State) : Result :=
  let s := { s with cxl := { s.cxl with perst := true } }
  let s := (s.pkr 3).wakeEvent 1
  .next { s with boot := { s.boot with hold := if s.boot.hold.contains 3 then s.boot.hold else s.boot.hold ++ [3] } }

/-- R397, R507: PERST# is released; a PKR that nothing else holds is released (DEDUCED, log entry 37). -/
def execPerstRelease (loader : Bool) (s : State) : Result :=
  .next ((({ s with cxl := { s.cxl with perst := false } }).unhold 3).pkrRelease loader)

/-! Fallow (R497, R498). -/

/-- R497, R504, R510: field n is switched off or reset: what its units hold is lost. -/
def State.fieldOff (s : State) (n : Nat) : State :=
  let s := ((s.resetField n).clearBasins n 0 1344).dropFab n
  ({ s with
    engs := Store.clear (fun k => k / 32 == n) s.engs
    patchRam := Store.clear (fun k => k / 256 / 32 == n) s.patchRam
    code := Store.clear (fun k => k / 16384 / 32 == n) s.code
    loaders := Store.clear (fun k => k / 4 == n) s.loaders
    lanes := Store.clear (fun k => k / 16 == n) s.lanes
    ports := Store.clear (fun k => k / 16 == n) s.ports
    furs := Store.clear (fun k => k / 16 == n) s.furs
    cfes := Store.clear (fun k => k / 16 == n) s.cfes
    slaves := Store.drop n s.slaves
    chan := Store.clear (fun k => k / 1040 == n) s.chan
    rings := Store.drop n s.rings } : State).showPins n

/-- R497: when the tracker's walk of the field has ended, the power manager switches off its domains, the Flume-end domain of
its site and its Flume clock generator. -/
def State.fallowEnd (s : State) : State :=
  match s.pow.fallow with
  | some n =>
    if s.walk.contains n then s
    else
      let s := (s.fieldOff n).setDomains (s.domains - (s.domains &&& 2 ^ (27 + n)))
      let s := ((s.clearBitOf CLK.ON (8 + n)).clearBitOf CLK.LOCK (8 + n)).setBitOf PWR.FALLOW n
      { s.lower PWR.CSTAT_BUSY with pow := { s.pow with fallow := none } }
  | none => s

/-- R498: a power command is refused with a code (DESIGN CHOICE, log entry 36). -/
def State.pwrRefuse (s : State) (code : Nat) : State := (s.set PWR.CSTAT_CODE code).raise PWR.CSTAT_CMDERR

/-- R497, R498: a write of the word v to PWR_CMD; the codes are judged in the order of R498's table. -/
def State.writePwrCmd (s : State) (v : Nat) : State :=
  let op := bitsOf v 0 2
  let n := bitsOf v 2 3
  let st := s.get FWU.STAT_STATE
  if bitsOf v 16 16 ≠ 0x5057 ∨ op = 0 ∨ op = 3 then s.pwrRefuse 1
  else if s.flag PWR.CSTAT_BUSY || st == 1 || st == 3 || (op == 2 && (s.swap n).isSome) then s.pwrRefuse 2
  else if op = 1 then s.enterDormant 1
  else if (List.range 8).all fun m => m == n || !s.bit GLB.AVAIL_FREADY m then s.pwrRefuse 3
  else if !s.siteIn n || !(s.get FLH.RC_STATUS n == 5 || s.get FLH.RC_STATUS n == 8) then s.pwrRefuse 4
  else
    let s := (if s.get FLH.RC_STATUS n = 5 then s.writeFlhCtrl n 1 else s).raise PWR.CSTAT_BUSY
    ({ s with pow := { s.pow with fallow := some n } }).fallowEnd

/-- R499: PWR_CMD with OP DORMANT and the KEY given. -/
def execDormant (key : BitVec 16) (s : State) : Result :=
  .next (s.access .PWR 0 fun s => s.writePwrCmd (1 + key.toNat * 2 ^ 16))

/-- R497: PWR_CMD with OP FALLOW and the KEY given. -/
def execFallow (n : FieldId) (key : BitVec 16) (s : State) : Result :=
  .next (s.access .PWR 0 fun s => s.writePwrCmd (2 + n * 4 + key.toNat * 2 ^ 16))

/-- R497, R511: a write of the word v to PWR_FALLOW. -/
def State.writeAtpkr (s : State) (v : Nat) : State :=
  if s.lastField (bitsOf v 0 8) then s.atpkrRefused else s.set PWR.FALLOW_ATPKR (bitsOf v 0 8)

/-- R497: a write of the word v to PWR_FALLOW. -/
def execFallowAtpkrWrite (v : Word) (s : State) : Result := .next (s.access .PWR 0 fun s => s.writeAtpkr v.toNat)

/-! The power manager (R501, R502). -/

/-- R502: does a sequencer with an HBM descriptor prime, wait or run? -/
def State.furUsesHbm (s : State) : Bool :=
  (List.range 128).any fun l => s.furNames l 0 && (s.get FUR.STAT_STATE l == 2 || s.get FUR.STAT_STATE l == 3 || s.get FUR.STAT_STATE l == 4)

/-- R249, R502: may all four controllers change to a rate? -/
def State.hbmopOk (s : State) (rate : Nat) : Bool :=
  !((List.range 64).any fun c => s.cistLive c) && !s.furUsesHbm &&
  (List.range 4).all fun m => s.bit HMC.STAT_OPTRAINED rate m && s.get HMC.STAT_STATE m == 2

/-- R502: a write of the word v to PWR_HBMOP. The shadow sets take what training found for the point (DESIGN CHOICE, log
entry 26). -/
def State.writeHbmop (s : State) (v : Nat) : State :=
  let s := (s.w1c v PWR.HBMOP_ERR).set PWR.HBMOP_RATE (bitsOf v 0 2)
  if !bitOf v 2 then s
  else if s.hbmopOk (bitsOf v 0 2) then
    let s := (List.range 4).foldl (fun s m =>
      (List.range 4).foldl (fun s r => s.writeShadow m r (Config.trainedSet m (bitsOf v 0 2) r)) s) s
    let s := (List.range 4).foldl (fun s m => s.set HMC.SHD0_RATE (bitsOf v 0 2) m) s
    (s.writeFchg 0 3).raise PWR.HBMOP_BUSY
  else s.raise PWR.HBMOP_ERR

/-- R502: a write of the word v to PWR_HBMOP. -/
def execHbmOpChange (v : Word) (s : State) : Result := .next (s.access .PWR 0 fun s => s.writeHbmop v.toNat)

/-- R136, R501: is the quad idle: its lanes OFF or REFUSED, its CFEs disabled, no sequencer running? -/
def State.quadIdle (s : State) (q : Nat) : Bool :=
  (quadLanes q).all fun l => (s.get LN.STAT_STATE l == 0 || s.get LN.STAT_STATE l == 6) && !s.flag CFE.CTRL_EN l && !s.dpact l

/-- R501: a quad has been idle for QHOLD ms. -/
def execQuadGate (q : QuadId) (s : State) : Result :=
  .next (if s.flag PWR.POL_QGATE && s.serves (q / 4) && s.quadIdle q then
    (s.setBitOf FPW.GATE_QOFF (q % 4) (q / 4)).clearBitOf FPW.DON (5 + q % 4) (q / 4)
  else s)

/-- R501: a waking write to a lane of a gated quad: of the word v, with the bit that wakes set, to LN_CTRL (0), CFE_CTRL (1),
FUR_CTRL with LOAD (2) or with ARM (3). It is performed once the domain is on (DESIGN CHOICE, log entry 36). -/
def execQuadWake (l : LaneId) (k : Fin 4) (v : Word) (s : State) : Result :=
  .next (if s.bit FPW.GATE_QOFF (quadOf l % 4) (fieldOf l) then
    s.access .LN (fieldOf l) fun s =>
      let s := s.wakeQuad (quadOf l)
      match k.val with
      | 0 => s.writeLnCtrl l (setBit v.toNat 0)
      | 1 => s.writeCfeCtrl l (setBit v.toNat 0)
      | 2 => s.writeFurCtrl l (setBit v.toNat 0)
      | _ => s.writeFurCtrl l (setBit v.toNat 1)
  else s)

/-- R501: a bank has had no operation for BHOLD. -/
def execBankGate (i : RsvId) (b : Fin 16) (s : State) : Result :=
  .next (if s.flag PWR.POL_BGATE && s.serves (i / 4) then
    if i % 4 < 2 then s.setBitOf FPW.BGATE_BOFF_LO (16 * (i % 4) + b) (i / 4)
    else s.setBitOf FPW.BGATE_BOFF_HI (16 * (i % 4 - 2) + b) (i / 4)
  else s)

/-! Telemetry and protection (R503-R505, R517). -/

/-- A sensor's reading, with the highest since the last read (DESIGN CHOICE, log entry 36). -/
def State.readTemp (s : State) (temp peak : Field) (t : Byte) (i j : Nat) : State :=
  let s := s.set temp t.toNat i j
  if signedOf (s.get peak i j) 8 < signedOf t.toNat 8 then s.set peak t.toNat i j else s

/-- R503: the fields whose sensors are read. -/
def State.powered (s : State) (n : Nat) : Bool := s.bit FPW.DON 0 n

/-- R504: some temperature is at or above WARN. -/
def State.hot (s : State) : Bool :=
  let warn : Int := s.get PWR.TLIM_WARN
  ((List.range 8).any fun i => decide (warn ≤ signedOf (s.get PWR.TSENS_TEMP i) 8)) ||
  ((List.range 8).any fun n => s.powered n && (List.range 4).any fun j => decide (warn ≤ signedOf (s.get FPW.TEMP n j) 8)) ||
  ((List.range 4).any fun m => decide (warn ≤ signedOf (s.get HMC.TEMP m) 8))

/-- R503: the power of every channel of the package, in units of 10 microwatts (DESIGN CHOICE, log entry 36). -/
def State.powerSum (s : State) : Nat :=
  (List.range 6).foldl (fun a g => a + s.get PWR.SUPV_MV g * s.get PWR.SUPV_CUR g) 0 +
  (List.range 8).foldl (fun a n => a +
    (if s.powered n then (List.range 5).foldl (fun a g => a + s.get FPW.SUPV_MV n g * s.get FPW.SUPV_CUR n g) 0 else 0)) 0

/-- R504, R500: in Dormant the readings only end the hold of a wake after a package trip. -/
def State.dormantSensors (s : State) (r : Sensors) : State :=
  if s.pow.tripped && (List.range 8).all fun i => decide (signedOf (r.hw.getD i 0).toNat 8 + 20 ≤ s.get PWR.TLIM_TRIP) then
    let s : State := { s with pow := { s.pow with tripped := false } }
    match s.pow.pendWake with
    | some w => s.wake w
    | none => s
  else s

/-- R165: TDRIFT follows the sensors of field n, once it has been calibrated: some column lies more than 20 degrees from the
temperature of the last calibration (DESIGN CHOICE, log entry 54). -/
def State.showDrift (s : State) (n : Nat) : State :=
  let cal := signedOf (s.get FTS.CALTEMP n) 8
  if s.flag FTS.STAT_CALDONE n then
    s.setB FTS.STAT_TDRIFT ((List.range 4).any fun j => decide (20 < (signedOf (s.get FPW.TEMP n j) 8 - cal).natAbs)) n
  else s

/-- R503, R504: the readings are shown, and their limits judged (DESIGN CHOICE, log entry 54). -/
def State.readSensors (s : State) (r : Sensors) : State :=
  let s : State := (List.range 8).foldl (fun s i => s.readTemp PWR.TSENS_TEMP PWR.TSENS_PEAK (r.hw.getD i 0) i 0) s
  let s : State := (List.range 6).foldl (fun s g =>
    (s.set PWR.SUPV_MV (bitsOf (r.hwSup.getD g 0).toNat 0 16) g).set PWR.SUPV_CUR (bitsOf (r.hwSup.getD g 0).toNat 16 16) g) s
  let s : State := (List.range 8).foldl (fun s n =>
    if s.powered n then
      let s : State := (List.range 4).foldl (fun s j => s.readTemp FPW.TEMP FPW.TEMP_PEAK ((r.fld.getD n []).getD j 0) n j) s
      let s := s.showDrift n
      (List.range 5).foldl (fun s g =>
        let w := ((r.fldSup.getD n []).getD g 0).toNat
        (s.set FPW.SUPV_MV (bitsOf w 0 16) n g).set FPW.SUPV_CUR (bitsOf w 16 16) n g) s
    else s) s
  let sums := (s.powerSum :: s.pow.sums).take 10
  let s : State := { s with pow := { s.pow with sums := sums } }
  let s : State := s.set PWR.PKG (min 65535 (sums.foldl (· + ·) 0 / sums.length / 10000))
  let s : State := if s.get PWR.PKG ≤ s.get PWR.LIMIT then s.lower PWR.STAT_PLIM else s
  if s.hot then
    if s.flag PWR.STAT_TWARN then s
    else ((s.raise PWR.STAT_TWARN).raise PWR.STAT_TWARNEVT).used.logEvent 0x0A01 8 (s.openValue .eventArg % 2 ^ 64)
  else s.lower PWR.STAT_TWARN

/-- R503, R504: the sensors and monitors are read. -/
def execSensorRead (r : Sensors) (s : State) : Result :=
  .next (match s.pow.dormant with
  | some _ => s.dormantSensors r
  | none => if s.boot.inReset then s else s.readSensors r)

/-- R504: a sensor of field n has been at or above the trip temperature for 100 µs. -/
def execFieldTrip (n : FieldId) (s : State) : Result :=
  .next (if s.powered n && (List.range 4).any fun j => decide ((s.get PWR.TLIM_TRIP : Int) ≤ signedOf (s.get FPW.TEMP n j) 8) then
    let s := (s.setBitOf PWR.STAT_FTRIP n).used.logEvent 0x0A02 n (s.openValue .eventArg % 2 ^ 64)
    (s.rollFence n 9).fieldOff n
  else s)

/-- R504, R509: a Headworks or HBM sensor has been over its limit for 100 µs. During the entry to Dormant, whose reset has
cleared the readings, the trip is the sender's statement. -/
def execPackageTrip (s : State) : Result :=
  .next (match s.pow.dormant with
  | some t =>
    if s.now < t + msUnits then
      let s := (s.used.logEvent 0x0A03 8 (s.openValue .eventArg % 2 ^ 64)).set PWR.WAKE_ENTRY 2
      { s with pow := { s.pow with tripped := true } }
    else s
  | none =>
    if ((List.range 8).any fun i => decide ((s.get PWR.TLIM_TRIP : Int) ≤ signedOf (s.get PWR.TSENS_TEMP i) 8)) ||
        ((List.range 4).any fun m => decide (105 ≤ signedOf (s.get HMC.TEMP m) 8)) then
      (s.used.logEvent 0x0A03 8 (s.openValue .eventArg % 2 ^ 64)).enterDormant 2
    else s)

/-- R504: PWR_PKG has been above PWR_LIMIT for 10 ms. -/
def execPowerLimit (s : State) : Result :=
  .next (if s.get PWR.LIMIT < s.get PWR.PKG ∧ s.flag PWR.STAT_PLIM = false then
    ((s.raise PWR.STAT_PLIM).raise PWR.STAT_PLIMEVT).used.logEvent 0x0A04 8 (s.openValue .eventArg % 2 ^ 64)
  else s)

/-- R503: is ch a supply channel of a die (8 Headworks)? -/
def channelOk (die ch : Nat) : Bool := if die = 8 then decide (ch < 6) else decide (ch < 5)

/-- R505: a supply has been outside its recommended range for 10 µs. -/
def execSupplyWarn (die : Fin 9) (ch : Fin 6) (s : State) : Result :=
  .next (if channelOk die ch then (s.raise PWR.STAT_SUPWARN).logEvent 0x0A05 die ch else s)

/-- R517: is the channel of field n monitored: QDR while one is present, a GPIO pair while the image uses a bank of it?
(DESIGN CHOICE, log entry 36). -/
def State.monitored (s : State) (n ch : Nat) : Bool :=
  if ch = 2 then s.flag QDR.CFG_PRESENT n
  else if ch = 3 then s.get FLD.IOB_DECL n 0 != 0 || s.get FLD.IOB_DECL n 1 != 0
  else if ch = 4 then s.get FLD.IOB_DECL n 2 != 0 || s.get FLD.IOB_DECL n 3 != 0
  else true

/-- R505, R517: a brown-out detector trips. The POR of the island lasts until the POR command (DESIGN CHOICE, log entry
36). -/
def execBrownOut (die : Fin 9) (ch : Fin 6) (s : State) : Result :=
  .next (if !channelOk die ch then s
  else if die.val = 8 then
    if ch.val = 0 then
      let s := s.por 1 false false
      { s with boot := { s.boot with hold := [1] } }
    else s.pkrHeld 9
  else if s.powered die && s.monitored die ch then ((s.raise FLH.SB_ALARM die).rollFence die 0x0C).fieldOff die
  else s)

/-! Resets and clocks (R495, R506-R509, R513). -/

/-- R492, R493, R508: the always-on supply is in range and POR_N high: the POR was caused by the ball or the supply; slow: no
edge came on SLOWCLK within 1 ms; reff: HW_REFCLK is 156.25 MHz. -/
def execPor (ball slow reff : Bool) (s : State) : Result := .next ((s.por (if ball then 2 else 1) slow reff).unhold 1)

/-- R495, R505, R508: a package reset ends; ok: the Headworks supplies are in range and the reference has been back for 1
ms (DEDUCED, log entry 37). -/
def execPkrRelease (loader ok : Bool) (s : State) : Result :=
  .next ((if ok then (s.unhold 9).unhold 0xA else s).pkrRelease loader)

/-- R513: a write of the word v to RST_CMD. -/
def State.writeRstCmd (s : State) (v : Nat) : State := if bitOf v 0 && bitsOf v 16 16 == 0x524B then s.pkr 5 else s

/-- R513: a write of the word v to RST_CMD. -/
def execPackageResetCommand (v : Word) (s : State) : Result := .next (s.access .RST 0 fun s => s.writeRstCmd v.toNat)

/-- R507: a firmware watchdog of MC0 or MC1 expires. -/
def execMcWatchdog (s : State) : Result := .next (s.pkr 0xB)

/-- R395: a hot reset from the host. -/
def execHotReset (s : State) : Result := .next (s.pkr 4)

/-- R495: HW_REFCLK or the lock of the system generator is lost (DEDUCED, log entry 37). -/
def execRefclkLost (s : State) : Result := .next ((s.raise CLK.STAT_REFLOST).pkrHeld 0xA)

/-- R495: the generator of an HBM controller is lost: it freezes as on a command/address parity error, with the request at
position i of a pseudo-channel's queue, or a refresh or RFM command at a bank and row (DEDUCED, log entry 37). -/
def execHbmClockLost (m : HmcId) (p : Fin 32) (i : Option (Fin 32)) (bank : Fin 48) (row : Fin 24576) (s : State) : Result :=
  let s := (s.clearBitOf CLK.LOCK (4 + m)).setBitOf CLK.UNLK (4 + m)
  .next (if s.get HMC.STAT_STATE m = 2 ∨ s.get HMC.STAT_STATE m = 3 then
    match i.bind fun j => (s.pc (32 * m + p)).q[j.val]? with
    | some e => s.hbmFreeze m 1 p (hbmBank e.req.addr) (hbmRow e.req.addr) (hbmQuarter e.req.addr) (some e.req)
    | none => s.hbmFreeze m 1 p bank row 0 none
  else s)

/-! The clock of an idle step. -/

end Sys2Proof.Machine
end

