-- ==== Sys2Proof/Machine/Csr.lean ====
section
/-! DEFINITION. Accesses to the CSR region (spec/00_scope.md R13-R21, spec/01_package_architecture.md R32-R36, R45, R46): what a
read of a register returns, with and without its side effect, and what a write does, by the access codes of its fields or by
the rule of its own that governs the register. -/
namespace Sys2Proof.Machine

/-! Status codes (R190). -/

/-- The status of an ST. -/
def RStat.ofCode : Nat → RStat
  | 0 => .ok | 1 => .err | 2 => .poison | 3 => .timeout | 4 => .fenced | _ => .refused

/-! Reading a register. -/

/-- The place of a delay among those of a RATE (HmcSt.dly). -/
def dlyKey (rate : Nat) (e : Elem) : Nat :=
  (64 * rate + if e.f = HMC.TDLY_CA_CADLY then 63 else e.k) * 64 + 2 * e.j + if e.f = HMC.TDLY_TXDLY then 1 else 0

/-- What one element of a register reads as: its field's value, or what the rule of the field gives; WO reads 0 (R17). -/
def State.elemRead (s : State) (e : Elem) : Nat :=
  if e.f.acc = .WO then 0
  else if e.f = LN.STAT_DPACT then (s.dpact e.i).toNat
  else if (e.f = LN.DFE0_TAP1 ∨ e.f = LN.DFE0_TAP2) ∧ 5 ≤ s.get LN.CTRL_RCLASS e.i ∧ s.flag LN.CTRL_MLSE_DIS e.i = false then 0
  else if e.f = SHR.MAP ∧ e.i = 8 ∧ e.j = 4 then 1
  else if e.f = RSV.PCFG_ROT ∧ e.j < 2 then 1
  else if e.f = FWU.WIN_REMAIN then s.windowRemain
  else if e.f = GAU.REMAIN then s.gaugeRemain
  else if e.f = HMC.TDLY_RXDLY ∨ e.f = HMC.TDLY_TXDLY ∨ e.f = HMC.TDLY_CA_CADLY then
    Store.get 0 (dlyKey (s.get HMC.TIM0_RATE e.i) e) (s.hmc e.i).dly
  else if e.f = HMC.QDUMP_W0 then s.queueDump e.i e.j e.k 0
  else if e.f = HMC.QDUMP_W1 then s.queueDump e.i e.j e.k 1
  else if e.f = HMC.QDUMP_W2 then s.queueDump e.i e.j e.k 2
  else if e.f = HMC.QDUMP_W3 then s.queueDump e.i e.j e.k 3
  else s.get e.f e.i e.j e.k

/-- The word that the register at offset o of a die's window holds; bits of no field read 0 (R15, R36). -/
def State.wordAt (s : State) (die o : Nat) : Nat :=
  if die = 8 ∧ o / 2 ^ 16 = 0x10 ∧ isComp (o % 2 ^ 16) then s.readComp (o % 2 ^ 16)
  else (elemsAt die o).foldl (fun a e => a + s.elemRead e * 2 ^ e.lo) 0

/-- R469: a register with an RSE field has no peek. -/
def hasRse (die o : Nat) : Bool := (elemsAt die o).any fun e => e.f.acc == .RSE

/-- R36: an offset beyond the last block of a window is unmapped. -/
def mappedOfs (die o : Nat) : Bool := decide (o < if die = 8 then 0x1A0000 else 0xF0000)

/-- R469: what PEEKD of a die (8 Headworks) reads for an offset, and NOPEEK where there is no peek (DEDUCED, log entry 42). -/
def State.peek (s : State) (die o : Nat) : State × Nat :=
  if hasRse die o || !mappedOfs die o then
    (if die = 8 then s.raise DBG.PSTAT_NOPEEK else s.raise FDB.PSTAT_NOPEEK die, 0)
  else (s, s.wordAt die o)

/-- R17: an RC field clears after its read. -/
def State.clearRead (s : State) (l : List Elem) : State :=
  l.foldl (fun (s : State) e => if e.f.acc = .RC then s.set e.f 0 e.i e.j e.k else s) s

/-- R17, R206: a read of the register at offset o of a die's window, with its side effect; from the read on TRK_HWM holds the highest
INUSE, of which INUSE now is the first. -/
def State.readReg (s : State) (die o : Nat) : State × Nat :=
  match blockAt die o with
  | some (b, _, ofs) =>
    let s : State := match b, ofs with
      | .DTC, 0x20 => s.snapshot false
      | .DTC, 0x30 => s.snapshot true
      | .DTC, 0x68 => s.ppsiStart
      | .DTC, 0x6C => s.ppsiReadPart 0
      | .DTC, 0x70 => s.ppsiReadPart 1
      | .DTC, 0x74 => s.ppsiReadPart 2
      | .FTS, 0x20 => s.slaveSnapshot die
      | .FLT, 0x18 => { s.readFltTs with resp := s.resp }
      | .GAU, 0x10 => s.gaugeChallenge
      | _, _ => s
    if (b = .DBG ∧ ofs = 0x14) then s.peek 8 (s.get DBG.PEEKA / 4 * 4)
    else if (b = .FDB ∧ ofs = 0x24) then s.peek die (s.get FDB.PEEKA die / 4 * 4)
    else
      let t := s.clearRead (elemsAt die o)
      (if b = .TRK ∧ ofs = 0x0C then t.set TRK.HWM (t.get TRK.STAT_INUSE) else t, s.wordAt die o)
  | none => (s, 0)

/-! Writing a register. -/

/-- R17: a write of the word v to one element by its access code; RWL fields are locked by RSV_CTRL.LOCK (R345), and the first
two ports of a reservoir rotate for ever (R337). -/
def State.writeElem (s : State) (v : Nat) (e : Elem) : State :=
  let x := bitsOf v e.lo e.f.w
  match e.f.acc with
  | .RW => if s.defines e.f x then s.set e.f x e.i e.j e.k else s
  | .W1C => s.set e.f (s.get e.f e.i e.j e.k ^^^ (s.get e.f e.i e.j e.k &&& x)) e.i e.j e.k
  | .W1S => s.set e.f (s.get e.f e.i e.j e.k ||| x) e.i e.j e.k
  | .RWL => if s.flag RSV.CTRL_LOCK e.i ∨ (e.f = RSV.PCFG_ROT ∧ e.j < 2) ∨ e.f.dom.allows x = false then s else s.set e.f x e.i e.j e.k
  | _ => s

/-- A write by the access codes alone. -/
def State.writePlain (s : State) (die o v : Nat) : State := (elemsAt die o).foldl (fun s e => s.writeElem v e) s

/-- R251: the registers of a controller that accept writes only in TRAINING: the helper registers, the delays, the
repairs (DEDUCED, log entry 42). -/
def hmcTraining (ofs : Nat) : Bool :=
  ofs == 0x200 || ofs == 0x204 || ofs == 0x20C || decide (0x1000 ≤ ofs ∧ ofs < 0x1800 ∧ ofs % 64 = 0x14) ||
  decide (0x2000 ≤ ofs ∧ ofs < 0x4000)

/-- R251: a write of a delay, in the set of the RATE in TIM0. -/
def State.writeDelay (s : State) (m die o v : Nat) : State :=
  (elemsAt die o).foldl (fun (s : State) e =>
    let h := s.hmc m
    s.setHmc m { h with dly := Store.set 0 (dlyKey (s.get HMC.TIM0_RATE m) e) (bitsOf v e.lo e.f.w) h.dly }) s

/-- R251: a write to a controller's registers (DEDUCED, log entry 42). -/
def State.writeHmc (s : State) (m ofs o v : Nat) : State :=
  if ofs = 0 then (List.range 32).foldl (fun s p => s.setPc (32 * m + p) (s.pc (32 * m + p))) (s.writePlain 8 o v)
  else if ofs = 0x0C then (if v = 0 then s else s.writePlain 8 o v)
  else if ofs = 0x10 then s.writeFchg m v
  else if 0x40 ≤ ofs ∧ ofs < 0x50 then s.writeShadow m ((ofs - 0x40) / 4) v
  else if ofs = 0x208 then s.writeTcmd m v
  else if hmcTraining ofs && s.get HMC.STAT_STATE m != 1 then s
  else if 0x2000 ≤ ofs ∧ ofs < 0x4000 then s.writeDelay m 8 o v
  else s.writePlain 8 o v

/-- A write to the registers of a lane: LNQ and LN. -/
def State.writeLane (s : State) (b : Blk) (i ofs die o v src : Nat) : State :=
  match b, ofs with
  | .LNQ, 0x00 => s.writeLnqCtrl i v
  | .LNQ, 0x04 => s.writePllWord i false false v
  | .LNQ, 0x08 => s.writePllWord i false true v
  | .LNQ, 0x0C => s.writePllWord i true false v
  | .LNQ, 0x10 => s.writePllWord i true true v
  | .LN, 0x00 => s.writeLnCtrl i v
  | .LN, 0x08 => s.stageFir i v
  | .LN, 0x0C => s.commitFir i v
  | .LN, 0x10 => s.writeRx i 0 v
  | .LN, 0x14 => s.writeRx i 1 v
  | .LN, 0x18 => s.writeRx i 2 v
  | .LN, 0x1C => s.writeRx i 3 v
  | .LN, 0x20 => s.writeRx i 4 v
  | .LN, 0x28 => s.writeLnCal i v src
  | .PCS, 0x00 => s.writePcsCtrl i v
  | .PCS, 0x08 => (s.writePlain die o v).advertise i
  | .PCS, 0x20 => s.writePrbs i v
  | .PCS, 0x40 => s.writeEye i v src
  | .PCS, 0x50 => s.writeHist i v
  | .CFE, 0x00 => s.writeCfeCtrl i v
  | .CFE, 0x04 => s.writeCfeStat i v
  | .CFE, 0x08 => (s.spend i 0).writePlain die o v
  | .FUR, 0x00 => s.writeFurCtrl i v
  | _, _ =>
    if b = .FUR ∧ (ofs = 0x10 ∨ ofs = 0x14 ∨ ofs = 0x18 ∨ (0x100 ≤ ofs ∧ ofs < 0x200)) ∧
        s.get FUR.STAT_STATE i ≠ 0 ∧ furRested (s.get FUR.STAT_STATE i) = false then s.furRefuse i
    else s.writePlain die o v

/-- R131: a write to the cistern hub's registers. -/
def State.writeCap (s : State) (ofs o v src : Nat) : State :=
  let c := (ofs - 0x1000) / 0x100
  let r := ofs % 0x100
  if 0x400 ≤ ofs ∧ ofs < 0x600 then s.writeLaneShare ((ofs - 0x400) / 4) v
  else if 0x1000 ≤ ofs ∧ ofs < 0x5000 then
    if r = 0 then s.writeCctrl c src v
    else if 0x08 ≤ r ∧ r ≤ 0x1C ∧ s.cistLive c then s
    else s.writePlain 8 o v
  else s.writePlain 8 o v

/-- R205: a write to the share tables. -/
def State.writeShr (s : State) (ofs o v : Nat) : State :=
  if 0x1000 ≤ ofs ∧ ofs < 0x1000 + 177 * 64 then s.writeShareTable ((ofs - 0x1000) / 64) (ofs % 64 / 4) v
  else if 0x4000 ≤ ofs ∧ ofs < 0x4200 then s.writeUplinkTable ((ofs - 0x4000) / 64) (ofs % 64 / 4) v
  else if 0x8000 ≤ ofs ∧ ofs < 0x8000 + 11 * 256 then s.writeShareMap ((ofs - 0x8000) / 256) (ofs % 256 / 4) v
  else s.writePlain 8 o v

/-- R486-R488: a write to the debug blocks. -/
def State.writeDbg (s : State) (b : Blk) (ofs die o v : Nat) : State :=
  if b = .DBG then
    if ofs = 0x108 then s.writeTcfg 8 v
    else if ofs = 0 then
      let s := s.writePlain die o v
      s.setB WHC.STAT_UP (s.flag DBG.CTRL_HCEN)
    else s.writePlain die o v
  else if b = .GAU then
    if ofs = 0x200 then s.writeGauCmd v
    else if 0x300 ≤ ofs ∧ ofs < 0x340 then s.writeGauge ((ofs - 0x300) / 4) v
    else if 0x400 ≤ ofs ∧ ofs < 0x480 then s.writeGauge (16 + (ofs - 0x400) / 4) v
    else s.writePlain die o v
  else if ofs = 0x108 then s.writeTcfg die v
  else if 0x10 ≤ ofs ∧ ofs < 0x20 then s.writeHcmd die ((ofs - 0x10) / 4) v
  else if 0x400 ≤ ofs ∧ ofs < 0x600 then s.writeDu die ((ofs - 0x400) / 0x80) (ofs % 0x80 / 0x10) (ofs % 0x10 / 4) v
  else if 0x8000 ≤ ofs ∧ ofs < 0x9000 then s.writeSp die ((ofs - 0x8000) / 0x80) (ofs % 0x80 / 4) v
  else s.writePlain die o v

/-- A write to the registers of the Headworks blocks whose rules are their own. -/
def State.writeHw (s : State) (b : Blk) (inst ofs o v src : Nat) : State :=
  match b, ofs with
  | .CNL, 0x00 => s.writeCnlCtrl v
  | .FLT, 0x00 => s.writeFltCtrl v
  | .FLT, 0x08 => s.writeSwf false v
  | .FLT, 0x0C => s.writeSwf true v
  | .DTC, 0x00 => s.writeDtcCtrl v
  | .DTC, 0x08 => s.writeIncrLo v
  | .DTC, 0x0C => s.writeIncrHi v
  | .DTC, 0x10 => s.writeTpll v
  | .DTC, 0x50 => s.writeDtcCmd v
  | .DRH, 0x20 => s.writeRp 0 v src
  | .CXL, 0x200 => s.writeLirq v
  | .CXL, 0x204 => if bitOf v 10 then s.releaseEntry (bitsOf v 0 10) else s
  | .CXL, 0x220 => s.writeLmirLo v
  | .CXL, 0x230 => s.writeLcrLo v
  | .CXL, 0x234 => s.writeLcrHi v
  | .CXL, 0x23C => s.writeLcrCons v
  | .RST, 0x20 => s.writeRstCmd v
  | .HDG, 0x2B0 => s.writeOcmd v
  | .FWU, 0x00 => s.writeFwuStat v
  | .FWU, 0x04 => s.writeConfirm v
  | .FWU, 0x10 => s.writeFwuCtrl v
  | .PWR, 0x04 => s.writePwrCmd v
  | .PWR, 0x0C => s.writeAtpkr v
  | .PWR, 0x14 => s.writeHbmop v
  | .FLH, 0x04 => s.writeFlhCtrl inst v
  | .HMC, _ => s.writeHmc inst ofs o v
  | .CAP, _ => s.writeCap ofs o v src
  | .SHR, _ => s.writeShr ofs o v
  | .DBG, _ => s.writeDbg .DBG ofs 8 o v
  | .GAU, _ => s.writeDbg .GAU ofs 8 o v
  | _, _ =>
    if b = .TRK ∧ 0x100 ≤ ofs ∧ ofs < 0x12C then s.writeQuota ((ofs - 0x100) / 4) v
    else if b = .FLH ∧ 0x1000 ≤ ofs ∧ ofs < (if inst < 8 then 0x1800 else 0x1200) ∧ ofs % 0x100 = 0 then s.writeMctrl inst ((ofs - 0x1000) / 0x100) v
    else if b = .DRH ∧ 0x1000 ≤ ofs ∧ ofs < 0x1480 then s.writeRegion 0 ((ofs - 0x1000) / 4) v
    else if b = .CXL ∧ isComp ofs then s.writeComp ofs v
    else s.writePlain 8 o v

/-- A write to the registers of a field's blocks beside those of its lanes. -/
def State.writeField (s : State) (b : Blk) (i ofs die o v src : Nat) : State :=
  match b, ofs with
  | .FTS, 0x0C => s.timeCal die v src
  | .FCC, 0x20 => s.writePcmd die v src
  | .DRF, 0x20 => s.writeRp (1 + die) v src
  | .RIL, 0x14 => s.writePlcmd i v
  | .QDR, 0x08 => s.writeSlots i false v
  | .QDR, 0x0C => s.writeSlots i true v
  | .FDB, _ => s.writeDbg .FDB ofs die o v
  | _, _ =>
    if b = .FLD ∧ 0x100 ≤ ofs ∧ ofs < 0x140 then s.writeUsrIn die ((ofs - 0x100) / 4) v
    else if b = .DRF ∧ 0x1000 ≤ ofs ∧ ofs < 0x1080 then s.writeRegion (1 + die) ((ofs - 0x1000) / 4) v
    else if b = .DRF ∧ 0x1100 ≤ ofs ∧ ofs < 0x1110 then s.writeRegion (9 + die) ((ofs - 0x1100) / 4) v
    else if b = .RIL ∧ 0x100 ≤ ofs ∧ ofs < 0x500 ∧ ofs % 0x80 = 0 then s.writeEctrl (8 * i + (ofs - 0x100) / 0x80) v
    else s.writePlain die o v

/-- A write of the word v to the register at offset o of a die's window, by source src (DEDUCED, log entry 8). -/
def State.writeReg (s : State) (die o v src : Nat) : State :=
  match blockAt die o with
  | some (b, inst, ofs) =>
    let i := if b.inField then die * b.layout.1 + inst else inst
    if b = .LNQ ∨ b = .LN ∨ b = .PCS ∨ b = .CFE ∨ b = .FUR then s.writeLane b i ofs die o v src
    else if b.inField then s.writeField b i ofs die o v src
    else s.writeHw b inst ofs o v src
  | none => s

/-! Accesses (R14, R32, R36, R45, R46). -/

/-- The error response that an access by src at offset o of a die's window receives instead of reaching a register
(DEDUCED, log entry 42). -/
def State.csrBarred (s : State) (src die o : Nat) : Option RStat :=
  if decide (dieOf src < 8) && s.flag FLF.FSTAT_FENCED (8 * dieOf src) && die != dieOf src then some .poison
  else if die < 8 then
    if s.inRecovery || (!s.serves die && dieOf src != die) then some .poison
    else if !s.time.tclk then some .timeout
    else if mappedOfs die o then none else some .err
  else if die = 8 then
    if !mappedOfs 8 o then some .err
    else match blockAt 8 o with
      | some (b, _, _) => s.barred b 0
      | none => none
  else if die ≤ 10 then (if s.inRecovery || !s.bit GLB.AVAIL_TRDY (die - 9) then some .poison else none)
  else some .err

/-- One 32-bit read at offset x of the CSR region; guest is what the guest die at a turnout answers (DEDUCED, log entry
42). -/
def State.csrReadWord (s : State) (src x : Nat) (guest : Guest) : State × RStat × Nat :=
  let die := csrDie x
  let o := x % 0x1000000 / 4 * 4
  match s.csrBarred src die o with
  | some st => (s.timedOut st, st, 0)
  | none =>
    if 9 ≤ die then (s, .ofCode guest.st, guest.data.toNat)
    else
      let t := s.readReg die o
      (t.1, .ok, t.2)

/-- R14: a read of len bytes at offset x of the CSR region (DEDUCED, log entry 42). -/
def State.csrRead (s : State) (src x len : Nat) (guest : Guest) : State × RStat × List Byte :=
  if len = 8 ∧ x % 4 = 0 then
    let a := s.csrReadWord src x guest
    let b := a.1.csrReadWord src (x + 4) guest
    (b.1, if a.2.1 = .ok then b.2.1 else a.2.1, bytesLE 4 a.2.2 ++ bytesLE 4 b.2.2)
  else if len ≤ 4 ∧ x % 4 + len ≤ 4 then
    let a := s.csrReadWord src x guest
    (a.1, a.2.1, ((bytesLE 4 a.2.2).drop (x % 4)).take len)
  else match s.csrBarred src (csrDie x) (x % 0x1000000) with
    | some st => (s, st, [])
    | none => (s, .err, [])

/-- One 32-bit write at offset x of the CSR region; one to a guest window goes to the guest die. -/
def State.csrWriteWord (s : State) (src x v : Nat) (guest : Guest) : State × RStat :=
  let die := csrDie x
  match s.csrBarred src die (x % 0x1000000) with
  | some st => (s.timedOut st, st)
  | none =>
    if 9 ≤ die then (s, .ofCode guest.st)
    else (s.writeReg die (x % 0x1000000) v src, .ok)

/-- R14: a write of bytes at offset x of the CSR region; a narrow or unaligned one changes nothing (DEDUCED, log entry 8). -/
def State.csrWrite (s : State) (src x : Nat) (bytes : List Byte) (guest : Guest) : State × RStat :=
  if bytes.length = 4 ∧ x % 4 = 0 then s.csrWriteWord src x (natLE bytes) guest
  else if bytes.length = 8 ∧ x % 4 = 0 then
    let a := s.csrWriteWord src x (natLE (bytes.take 4)) guest
    let b := a.1.csrWriteWord src (x + 4) (natLE (bytes.drop 4)) guest
    (b.1, if a.2 = .ok then b.2 else a.2)
  else match s.csrBarred src (csrDie x) (x % 0x1000000) with
    | some st => (s, st)
    | none => (s, .err)

/-- R27, R193: a CSR read of an engine or a management core, and a write: its requests pass the network first; `waits` where one has to
wait. An access of 8 bytes is one request for each word. -/
def csrReqs (op : ReqOp) (src x len : Nat) : List Req :=
  if len = 8 then [{ op := op, src := src, oc := 0, addr := csrBase + x, len := 4 }, { op := op, src := src, oc := 0, addr := csrBase + x + 4, len := 4 }]
  else [{ op := op, src := src, oc := 0, addr := csrBase + x, len := len }]
def State.netCsrRead (s : State) (src x len : Nat) (guest : Guest) : State × RStat × List Byte :=
  match s.passAll (csrReqs .crd src x len) with
  | none => (s, .waits, [])
  | some t => t.csrRead src x len guest
def State.netCsrWrite (s : State) (src x : Nat) (bytes : List Byte) (guest : Guest) : State × RStat :=
  match s.passAll (csrReqs .cwr src x bytes.length) with
  | none => (s, .waits)
  | some t => t.csrWrite src x bytes guest

/-- R40: a write of CXL_B4WIN. -/
def execBar4WindowSelect (v : Word) (s : State) : Result := .next (s.access .CXL 0 fun s => s.wr v.toNat CXL.B4WIN_SEL)

/-- R469: a read of DBG_PEEKD (die 8) or FDB_PEEKD. -/
def execPeekRead (die : Fin 9) (s : State) : Result :=
  let t := s.csrReadWord 0x802 (if die = 8 then 0x170014 else (die + 1) * 0x1000000 + 0xD0024) {}
  .next { t.1 with resp := { st := t.2.1, data := if t.2.1 = .ok then bytesLE 4 t.2.2 else [] } }

end Sys2Proof.Machine
end

