-- ==== Sys2Proof/Machine/Canal.lean ====
section
/-! DEFINITION. Canal requests and responses (spec/07_canal.md R173-R206): a request's way from its source to its target with its
tag, credits and charges; the way of its response back; what waits at ingress; header errors; timeouts, quarantine and fence
walks. -/
namespace Sys2Proof.Machine

/-! Where a request goes (R187). -/

/-- R187: the target unit: a number for each pseudo-channel, reservoir, QDR port, field's Rill memories, scratch and CSR block. -/
def Req.target (r : Req) : Nat :=
  if r.op = .flush then 0
  else if inCsr r.addr then
    let x := r.addr - csrBase
    2 ^ 32 + x / 0x1000000 * 0x1000000 + ((blockAt (csrDie x) (x % 0x1000000)).map fun e => e.1.offset).getD 0xFFFFFF
  else memTarget r.addr

/-- The tag's key: the tracker's tag t, or tag t of the adapter that turns the request round. -/
def Req.tagKey (r : Req) (t : Nat) : Nat := if r.own then 2 ^ 18 + 2 ^ 14 * dieOf r.src + t % 2 ^ 14 else t

/-! Sources (R175, R182, R224, R315). -/

/-- The requests of a source that have no response yet. -/
def State.openOf (s : State) (src : Nat) : List Req :=
  (s.tags.filter fun e => e.2.req.src == src && e.2.quar.isNone).map (fun e => e.2.req) ++
  (s.ingress.filter fun h => h.req.src == src && h.req.op != .pwr).map fun h => h.req

/-- R315: endpoint e of field n takes a request: in use, not gated, below 128 non-posted requests, with room for the response. -/
def State.endpointTakes (s : State) (n e : Nat) (r : Req) : Bool :=
  let l := s.openOf r.src
  bitOf (s.get2 FLD.CEPEN_LO FLD.CEPEN_HI n) e && s.fabricOpen n (32 + e) &&
  (r.op == .pwr || decide (l.length < 128)) &&
  (!(r.op == .rd || r.op == .amo) ||
    decide (((l.filter fun q => q.op == .rd || q.op == .amo).map (·.len)).sum + r.len ≤ 16384))

/-- R182: can the source send the request? The units of a field that R182 does not list are not used. -/
def State.sourceSends (s : State) (r : Req) : Bool :=
  let d := dieOf r.src
  let u := unitOf r.src
  if d < 8 then
    decide (u ≤ 0x82) && s.time.tclk && (s.serves d || s.flag FLF.FSTAT_FENCED (8 * d)) &&
    (!(0x40 ≤ u ∧ u < 0x80) || s.endpointTakes d (u - 0x40) r)
  else if d = 8 then decide (u < 10) && (!isHost r.src || s.get CXL.LSTAT_MODE != 0)
  else decide (d ≤ 10) && s.bit GLB.AVAIL_TRDY (d - 9)

/-- R176: a packet that a source may send: 1 to 256 bytes within one 256-byte block. -/
def Req.wf (r : Req) : Bool := r.op == .flush || decide (1 ≤ r.len ∧ r.addr % 256 + r.len ≤ 256 ∧ r.addr < 2 ^ 48)

/-! Packets of a guest (R176-R178, R227). -/

/-- R177: do the fields of a head flit name the request? -/
def Req.headBits (r : Req) (h : Nat) : Bool :=
  bitsOf h 0 2 == r.vc && bitOf h 2 && bitsOf h 5 2 == r.oc && bitsOf h 12 12 == r.src && bitsOf h 8 4 == r.opCode &&
  (r.op == .flush || (bitsOf h 50 8 + 1 == r.len && bitsOf h 58 48 == r.addr))

/-- The flits of a channel, oldest first, and all the others. -/
def flitsAt (c : Nat) (l : List (Nat × List Byte)) : List (List Byte) := (l.filter fun f => f.1 == c).map (·.2)

/-- Drop the first n flits of a channel. -/
def dropFlits (c : Nat) : Nat → List (Nat × List Byte) → List (Nat × List Byte)
  | _, [] => []
  | 0, l => l
  | n + 1, f :: t => if f.1 = c then dropFlits c n t else f :: dropFlits c (n + 1) t

/-- R180: the bytes of a packet at a from its flits' data lanes. -/
def laneData (a len : Nat) (flits : List (List Byte)) : List Byte :=
  ((flits.flatMap fun f => f.drop 16).drop (a % 64)).take len

/-- R176-R178: the flits are one packet of virtual channel vc: LAST in the last of them alone, and continuation headers. -/
def packetOk (vc : Nat) (flits : List (List Byte)) : Bool :=
  (List.range flits.length).all fun i =>
    let h := natLE ((flits.getD i []).take 16)
    if i = 0 then bitOf h 3 == (flits.length == 1) else contHeader vc (i + 1 == flits.length) h

/-- R177: the request with the fields that only its flits hold: TAG, AOP, POIS and the data. -/
def Req.fromFlits (r : Req) (flits : List (List Byte)) : Req :=
  let h := natLE ((flits.getD 0 []).take 16)
  { r with
    stag := bitsOf h 24 18
    aop := if r.op = .amo then bitsOf h 106 4 else r.aop
    pois := flits.any fun f => bitOf (natLE (f.take 16)) 4
    data := if r.op = .amo then (flits.getD 0 []).drop 16
      else if r.op = .wr ∨ r.op = .pwr ∨ r.op = .cwr then laneData r.addr r.len flits else r.data }

/-- R227: the entries of n flits that leave the receive buffer of channel c of turnout t go back with the next unit. -/
def State.freeGuest (s : State) (t c vc n : Nat) : State :=
  let v := s.turn t (c / 2)
  s.setTurn t (c / 2) { v with
    flits := dropFlits c n v.flits
    ret := Store.set 0 (4 * (c % 2) + vc) (Store.get 0 (4 * (c % 2) + vc) v.ret + n) v.ret }

/-- R227: the channel of turnout t on which the packet of a request comes next, with all its flits. -/
def State.guestPacket (s : State) (r : Req) : Option (Nat × List (List Byte)) :=
  let t := dieOf r.src - 9
  (List.range 4).findSome? fun c =>
    let l := (flitsAt c (s.turn t (c / 2)).flits).take r.flits
    if l.length = r.flits ∧ r.headBits (natLE ((l.getD 0 []).take 16)) then some (c, l) else none

/-! Tags (R193, R194). -/

/-- The first number from t on, of m, that a list does not hold; n bounds the search. -/
def nextFree (used : List Nat) (m : Nat) : Nat → Nat → Nat
  | 0, t => t
  | n + 1, t => if used.contains t then nextFree used m n ((t + 1) % m) else t

/-- R193: the tags of the adapter of field d in use. -/
def State.adapterTags (s : State) (d : Nat) : List Nat :=
  (s.tags.filter fun e => dieOf e.2.req.src == d && e.2.quar.isNone && !e.2.orphan).map (fun e => e.2.req.stag) ++
  (s.ingress.filter fun h => dieOf h.req.src == d && h.req.op != .pwr).map fun h => h.req.stag

/-- R177, R193: the source tag of a request that asks for tag t; only field adapters give one. -/
def State.sourceTag (s : State) (r : Req) (t : Nat) : Nat :=
  if 8 ≤ dieOf r.src ∨ r.op = .pwr then r.stag
  else nextFree (s.adapterTags (dieOf r.src)) (2 ^ 14) (s.adapterTags (dieOf r.src)).length (t % 2 ^ 14)

/-- R193: the key of the tag that a request takes: that of its adapter where it is turned round, else the tracker's tag t or the
next free one (DESIGN CHOICE, log entry 58). -/
def State.keyFor (s : State) (r : Req) (t : Nat) : Nat :=
  if r.own then r.tagKey r.stag else nextFree (s.tags.map (·.1)) (2 ^ 18) s.tags.length t

/-- A tag is freed. -/
def State.freeTag (s : State) (key : Nat) : State := ({ s with tags := Store.drop key s.tags }).showTags

/-- R193: a request takes its tag. -/
def State.takeTag (s : State) (r : Req) (key : Nat) : State :=
  if r.op = .pwr then s
  else ({ s with tags := Store.put key { req := r, die := r.die, since := s.now } s.tags }).showTags

/-! Headers (R181, R192). -/

/-- R181, R204: a corrected header (DEDUCED, log entry 43). -/
def State.countHeader (s : State) (h : Hdr) : State :=
  match h with
  | .corrected => (s.raise CNL.STAT_HDRCOR).count CNL.ECNT_HDRCOR
  | _ => s

/-- R192, R204: a packet with a bad header is discarded at a port. -/
def State.discard (s : State) (src vc port : Nat) : State :=
  let s := (s.raise CNL.STAT_HDRUNC).count CNL.ECNT_HDRUNC
  if s.flag CNL.ELOG2_VALID then s
  else ((((((s.set CNL.ELOG0_SRC src).set CNL.ELOG0_PORT port).set CNL.ELOG0_VC vc).set CNL.ELOG0_KIND 1).set CNL.ELOG1_ADDR_LO 0).set
    CNL.ELOG2_ADDR_HI 0).raise CNL.ELOG2_VALID

/-! A response reaches its source (R190, R191, R315, R392). -/

/-- R315: an endpoint that receives a status other than OK. -/
def State.endpointSees (s : State) (src : Nat) (st : RStat) : State :=
  let n := dieOf src
  let e := unitOf src - 0x40
  if n < 8 ∧ 0x40 ≤ unitOf src ∧ unitOf src < 0x80 ∧ st ≠ .ok ∧ s.fabricOpen n (32 + e) then
    if e < 32 then s.setBitOf FLD.CEPERR_LO e n else s.setBitOf FLD.CEPERR_HI (e - 32) n
  else s

/-- The source of a request receives the response. -/
def State.receive (s : State) (r : Req) (a : Resp) : State :=
  let a := { a with data := (r.answered a.st a.data).data }
  if isHost r.src then s.hostReceive r a else ({ s with resp := a }).endpointSees r.src a.st

/-- The tag of a response is freed as it leaves. -/
def State.freeKey (s : State) (key : Option Nat) : State :=
  match key with
  | some k => s.freeTag k
  | none => s

/-- R183, R193, R204: a response leaves on port p, and its source receives it. -/
def State.leaveRsp (s : State) (w : Owed) : State :=
  let s := (s.spendCredit w.port w.req.rspVc w.req.rspFlits).wrap2 CNL.FLITS_LO CNL.FLITS_HI w.req.rspFlits w.port
  ((s.freeKey w.key).toGuest w.port (w.req.rspPacket (w.req.answered w.a.st w.a.data) w.port)).receive w.req w.a

/-- R176, R183: a response may leave: credits at its port, and no earlier one of its virtual channel waits there. -/
def rspTurn (l : List Owed) (w : Owed) : Bool := !l.any fun q => q.port == w.port && q.req.rspVc == w.req.rspVc

/-- R183, R190: a response goes to its source by its port, or waits there for credits; inp is the port at which it came in. -/
def State.sendRsp (s : State) (r : Req) (a : Resp) (key inp : Option Nat) : State :=
  match s.backPort r with
  | none => (s.freeKey key).receive r a
  | some p =>
    let w : Owed := { port := p, inp := inp, req := r, a := a, key := key }
    if s.creditFree p r.rspVc r.rspFlits && rspTurn s.owed w then s.leaveRsp w else { s with owed := s.owed ++ [w] }

/-- R191, R196, R224: a request that no target will perform is answered with POISON, or dropped where it is a posted write
(DEDUCED, log entry 43). -/
def State.turnAway (s : State) (r : Req) : State :=
  if r.op = .pwr then s.dropPosted r .poison
  else if s.cutOff r then s.receive r { st := .poison }
  else s.sendRsp r { st := .poison } none none

/-! A request (R175-R196). -/

/-- R157, R188-R191: the request takes effect at its target, or waits there for its turn; a field takes none while TCLK is
stopped: R195 answers it, and a posted write is dropped. -/
def State.deliver (s : State) (r : Req) : State :=
  if decide (r.die < 8) && !s.time.tclk then (if r.op = .pwr then s.dropPosted r .poison else s)
  else match r.op with
  | .crd =>
    if 9 ≤ r.die then s
    else
      let t := s.csrRead r.src (r.addr - csrBase) r.len {}
      t.1.respond r t.2.1 t.2.2
  | .cwr =>
    if 9 ≤ r.die then s
    else
      let t := s.csrWrite r.src (r.addr - csrBase) r.data {}
      t.1.respond r t.2 []
  | .flush => s
  | _ => s.arrive r

/-- The request takes a tag and goes to its target. -/
def State.enter (s : State) (r : Req) (t : Nat) : State :=
  let key := s.keyFor r t
  let q := if r.op = .pwr then r else { r with tag := some key }
  (s.takeTag q key).deliver q

/-- R194-R201: a request at ingress of the switch leaves for its target, or is answered there; none where it has to wait for a
tag or for credits. -/
def State.leave (s : State) (r : Req) (t : Nat) : Option State :=
  if s.targetDead r then some (s.turnAway r)
  else if r.op != .pwr && !s.trackerRoom r then none
  else match s.reqPort r with
  | none => some (s.enter r t)
  | some p =>
    if s.creditFree p r.vc r.flits then
      some ((((s.spendCredit p r.vc r.flits).leavePort r p).toGuest p (r.packet (s.keyFor r t) p)).enter r t)
    else none

/-- R183, R187, R188: a request waits behind an earlier one of its stream that waits in the same virtual channel or for the same
target unit; a FLUSH waits behind all of them. -/
def follows (l : List Held) (r : Req) : Bool :=
  l.any fun h => h.req.sameStream r && (h.req.vc == r.vc || h.req.target == r.target || r.op == .flush)

/-- R211: a packet of a stream whose channel has changed waits while an earlier one is held on the old channel. -/
def moved (l : List Held) (r : Req) (u : Option Nat) : Bool := l.any fun h => h.req.sameStream r && h.link.isSome && h.link != u

/-- Put an entry in the place of another. -/
def replaceHeld (h h' : Held) : List Held → List Held
  | [] => []
  | x :: l => if x = h then h' :: l else x :: replaceHeld h h' l

/-- R391: a BAR0 write of the host waits while a BAR4 write that it sent earlier has not taken effect. -/
def State.bar4Waits (s : State) (r : Req) : Bool :=
  let earlier (q : Req) : Bool := q.src == 0x802 && q.op == .pwr && decide (q.ord < r.ord)
  r.src == 0x802 && r.op == .cwr && (s.waiting.any earlier || s.ingress.any fun h => earlier h.req)

/-- R183, R201: the next step that a request at ingress can take, given those before it: over its channel to the switch, or from
the switch to its target. None where it has to wait. -/
def State.advance (s : State) (before : List Held) (h : Held) : Option State :=
  let r := h.req
  if follows before r || moved before r (s.inPort r) || s.bar4Waits r then none
  else match h.port, s.inPort r with
  | none, some u =>
    match h.link with
    | some w =>
      if s.modHolds (w / 16) (w % 16 / 2) then none
      else some { s with ingress := replaceHeld h { h with link := none, port := some w } s.ingress }
    | none =>
      if s.creditUp u r.vc r.flits then
        let h' : Held := if decide (u < 128) && s.modHolds (u / 16) (u % 16 / 2) then { h with link := some u } else { h with port := some u }
        some (({ s with ingress := replaceHeld h h' s.ingress }.spendUp u r.vc r.flits).chargeUp r)
      else none
  | _, _ => ({ s with ingress := s.ingress.erase h }).leave r h.t

/-- The requests at ingress, each with those before it. -/
def withBefore (before : List Held) : List Held → List (List Held × Held)
  | [] => []
  | h :: l => (before, h) :: withBefore (before ++ [h]) l

/-- The channel that a request at ingress waits for: an output port, or 177 and more for an uplink. -/
def State.channelOf (s : State) (h : Held) : Nat :=
  match h.port, s.inPort h.req with
  | none, some u => 177 + u
  | _, _ => (s.reqPort h.req).getD 305

/-- R201: the rank of a request on channel u, the smallest first: MGT, then metered in round-robin over classes and over the sources of
a class, then best effort in round-robin over sources. -/
def State.rank (s : State) (u : Nat) (r : Req) : Nat :=
  let c := s.classOfSrc r.src
  if r.mgt then 0
  else if 1 ≤ Store.get 0 (32 * u + c) s.remain then
    1 + roundOf (s.lastClass u) c 32 * 4096 + roundOf (s.lastInClass u c) r.src 4096
  else 1 + 32 * 4096 + roundOf (s.lastBest u) r.src 4096

/-- Of two candidates, the one that ranks first on the channel of the first. -/
def State.firstOf (s : State) (a b : State × Held) : State × Held :=
  let u := s.channelOf a.2
  if s.channelOf b.2 = u ∧ s.rank u b.2.req < s.rank u a.2.req then b else a

/-- R201: the state after the next step at ingress, if there is one. -/
def State.nextMove (s : State) : Option State :=
  match (withBefore [] s.ingress).filterMap fun e => (s.advance e.1 e.2).map fun t => (t, e.2) with
  | [] => none
  | a :: l => some (l.foldl (fun x y => s.firstOf x y) a).1

/-- Requests at ingress move on while any can; n bounds the steps. -/
def State.moveIngress : Nat → State → State
  | 0, s => s
  | n + 1, s =>
    match s.nextMove with
    | some t => t.moveIngress n
    | none => s

/-- Responses that wait leave where they can now, oldest first. -/
def State.moveOwed (s : State) : State :=
  s.owed.foldl (fun s w =>
    if s.creditFree w.port w.req.rspVc w.req.rspFlits && rspTurn (s.owed.takeWhile fun q => q != w) w then
      ({ s with owed := s.owed.erase w }).leaveRsp w
    else s) s

/-- R196: what a fenced field had sent and still waits is discarded, and what waits to go to it; an orphan's response counts as
late. -/
def State.dropFenced (s : State) : State :=
  let dead (r : Req) : Bool := decide (dieOf r.src < 8) && s.flag FLF.FSTAT_FENCED (8 * dieOf r.src)
  let s := { s with ingress := s.ingress.filter fun h => !dead h.req }
  (s.owed.filter fun w => dead w.req).foldl (fun s w =>
    let s := { s with owed := s.owed.erase w }
    if w.key.isSome then (s.freeKey w.key).count TRK.LATE else s) s

/-- R195, R211: what a fenced module holds is discarded: a posted write counts in PWDROP, another request takes the tag whose timeout answers it. -/
def State.dropLost (s : State) : State :=
  (s.ingress.filter fun h => h.link.any fun u => s.get FLH.MSTAT_STATE (u / 16) (u % 16 / 2) == 4).foldl (fun s h =>
    let s := { s with ingress := s.ingress.erase h }
    let key := s.keyFor h.req h.t
    if h.req.op = .pwr then s.dropPosted h.req .poison
    else if s.trackerRoom h.req then s.takeTag { h.req with tag := some key } key else s) s

/-- R183, R194, R201: what waits at the ports of the switch moves on as far as its tags and credits let it. -/
def State.settleNet (s : State) : State :=
  let s := s.dropFenced.dropLost.moveOwed
  s.moveIngress (2 * s.ingress.length)

/-- R192, R193, R195: a packet of a request whose header is bad at port p is discarded; the request has its tag, whose timeout answers
it (DEDUCED, log entry 43). -/
def State.lose (s : State) (r : Req) (t p : Nat) : State :=
  let key := s.keyFor r t
  let s := match s.inPort r with
    | some u => if s.creditUp u r.vc r.flits && !r.own then (s.spendUp u r.vc r.flits).chargeUp r else s
    | none => s
  let s := if s.reqPort r = some p ∧ s.creditFree p r.vc r.flits ∧ r.own = false then (s.spendCredit p r.vc r.flits).leavePort r p else s
  (if r.op = .pwr || !s.trackerRoom r then s else s.takeTag { r with tag := some key } key).discard r.src r.vc p

/-- R175, R183, R194: a well-formed request goes on its way, or waits at ingress. -/
def State.submit (s : State) (r : Req) (t : Nat) : State :=
  if r.own then s.enter r t
  else if s.cutOff r then s.turnAway r
  else ({ s with ingress := s.ingress ++ [({ req := r, t := t } : Held)] } : State).settleNet

/-- R227: the request of a guest whose packet comes next on one of its channels leaves the units it came in; where it has to wait
for a tag or for credits, its flits stay there (DEDUCED, log entry 43). -/
def State.guestRequest (s : State) (r : Req) (t : Nat) (h : Hdr) : State :=
  match s.guestPacket r with
  | none => s
  | some (c, l) =>
    let p := 169 + 4 * (dieOf r.src - 9) + c
    let q := r.fromFlits l
    let s' := (s.countHeader h).freeGuest (dieOf r.src - 9) c r.vc r.flits
    if packetOk r.vc l = false ∨ bitsOf (natLE ((l.getD 0 []).take 16)) 42 8 = 0xFF then s'.discard r.src r.vc p
    else match h with
    | .bad p => s'.lose q t p
    | _ => (s'.leave q t).getD s

/-- A request that its source sends, with tag t and the state h of its header: it goes to its target, or waits at ingress
(DEDUCED, log entry 43). -/
def State.request (s : State) (r : Req) (t : Nat) (h : Hdr) : State :=
  let q := { r with ord := s.nextOrd + 1, stag := s.sourceTag r t }
  let s' := { s with nextOrd := s.nextOrd + 1 }
  if !r.wf || !s.sourceSends r || !(r.op == .pwr || s.adapterRoom r) then s
  else if 9 ≤ dieOf r.src then s'.guestRequest q t h
  else match h with
  | .bad p => s'.lose q t p
  | h => (s'.countHeader h).submit q t

/-! A response (R186-R191, R195, R196, R315). -/

/-- R188: every earlier request of the source and order class has taken effect: none waits at a memory. -/
def State.flushed (s : State) (r : Req) : Bool :=
  let early (q : Req) : Bool := q.sameStream r && decide (q.ord < r.ord)
  !s.waiting.any early && !s.pcs.any fun e => (e.2.q ++ e.2.wait).any fun q => early q.req

/-- R187: no earlier request of the same order class to the same target unit is still to be answered (DEDUCED, log entry
43). -/
def State.inOrder (s : State) (r : Req) : Bool :=
  s.tags.all fun e => e.2.quar.isSome || e.2.orphan || !e.2.req.sameStream r || e.2.req.target != r.target || decide (r.ord ≤ e.2.req.ord)

/-- R227, R228: the channel of its turnout on which a guest's answer to the CSR access of tag t comes next: OP, TAG and ST, and the data. -/
def State.guestAnswer (s : State) (r : Req) (t : Nat) (g : Guest) : Option Nat :=
  (List.range 4).find? fun c =>
    match flitsAt c (s.turn (r.die - 9) (c / 2)).flits with
    | [] => false
    | f :: _ =>
      let h := natLE (f.take 16)
      bitsOf h 0 4 == 0xF && bitsOf h 8 4 == 2 && bitsOf h 24 18 == t % 2 ^ 18 && bitsOf h 110 3 == g.st.val &&
      (r.op == .cwr || g.st.val != 0 || laneData r.addr 4 [f] == bytesLE 4 g.data.toNat)

/-- The response that the target has given to the request of a tag; a FLUSH is answered once it is due, a guest's CSR access as
the guest answers it. -/
def State.responseOf (s : State) (key : Nat) (e : Tag) (guest : Guest) : Option Resp :=
  if e.req.op = .flush then (if s.flushed e.req then some {} else none)
  else if e.req.mgt && decide (9 ≤ e.die) then
    (s.guestAnswer e.req key guest).map fun _ => { st := .ofCode guest.st, data := if e.req.op = .crd then bytesLE 4 guest.data.toNat else [] }
  else e.resp

/-- The flit of a guest's answer leaves its turnout's buffer. -/
def State.takeAnswer (s : State) (key : Nat) (e : Tag) (guest : Guest) : State :=
  if e.req.mgt && decide (9 ≤ e.die) then
    match s.guestAnswer e.req key guest with
    | some c => s.freeGuest (e.die - 9) c 3 1
    | none => s
  else s

/-- R183: the port at which the response to a request enters the switch; a guest's comes with its units. -/
def State.rspIn (s : State) (r : Req) : Option Nat := (s.reqPort r).filter fun p => decide (p < 169)

/-- A response of one of the given kinds reaches the tracker, or the adapter that turned its request round, and its source;
none leaves or reaches a field while TCLK is stopped (R157). -/
def State.reply (s : State) (key : Nat) (ops : List ReqOp) (h : Hdr) (guest : Guest) : State :=
  match s.tagAt key with
  | none => s
  | some e =>
    let r := e.req
    if !ops.contains r.op || ((decide (e.die < 8) || decide (dieOf r.src < 8)) && !s.time.tclk) || s.owed.any (fun w => w.key == some key) then s
    else match s.responseOf key e guest with
    | none => s
    | some a =>
      let crosses := match s.rspIn r with
        | some u => r.own || s.creditUp u r.rspVc r.rspFlits
        | none => true
      let viaUp (s : State) : State := match s.rspIn r with
        | some u => if r.own then s else s.spendUp u r.rspVc r.rspFlits
        | none => s
      if !crosses then s
      else match h with
      | .bad p =>
        let s' : State := viaUp (s.takeAnswer key e guest)
        (({ s' with tags := Store.put key { e with resp := none } s'.tags }).discard r.src r.rspVc p).settleNet
      | h =>
        if e.quar.isSome || e.orphan then ((((viaUp (s.takeAnswer key e guest)).countHeader h).freeTag key).count TRK.LATE).settleNet
        else if !s.inOrder r then s
        else if r.own then (((s.countHeader h).freeTag key).receive r a).settleNet
        else (((viaUp (s.takeAnswer key e guest)).countHeader h).sendRsp r a (some key) (s.rspIn r)).settleNet

/-! The commands: the requests. -/


/-- The payload of len bytes. -/
def payload (data : List Byte) (len : Nat) : List Byte := (data ++ List.replicate len 0).take len

/-- R179: RD. -/
def execRd (t : Fin 262144) (src : Fin 4096) (oc : Fin 4) (addr : BitVec 48) (len : Fin 256) (h : Hdr) (s : State) : Result :=
  .next (s.request { op := .rd, src := src, oc := oc, addr := addr.toNat, len := len + 1 } t h)

/-- R188: WR. -/
def execWr (t : Fin 262144) (src : Fin 4096) (oc : Fin 4) (addr : BitVec 48) (len : Fin 256) (pois : Bool) (data : List Byte) (h : Hdr) (s : State) : Result :=
  .next (s.request { op := .wr, src := src, oc := oc, addr := addr.toNat, len := len + 1, pois := pois, data := payload data (len + 1) } t h)

/-- R189: AMO. -/
def execAmo (t : Fin 262144) (src : Fin 4096) (oc : Fin 4) (addr : BitVec 48) (len : Fin 256) (aop : Fin 16) (data : List Byte) (h : Hdr) (s : State) : Result :=
  .next (s.request { op := .amo, src := src, oc := oc, addr := addr.toNat, len := len + 1, aop := aop, data := payload data 64 } t h)

/-- R188: FLUSH. -/
def execFlush (t : Fin 262144) (src : Fin 4096) (oc : Fin 4) (h : Hdr) (s : State) : Result :=
  .next (s.request { op := .flush, src := src, oc := oc, addr := 0, len := 0 } t h)

/-- R191: PWR. -/
def execPwr (src : Fin 4096) (oc : Fin 4) (addr : BitVec 48) (len : Fin 256) (pois : Bool) (data : List Byte) (h : Hdr) (s : State) : Result :=
  .next (s.request { op := .pwr, src := src, oc := oc, addr := addr.toNat, len := len + 1, pois := pois, data := payload data (len + 1) } 0 h)

/-- R179: CRD, to an address in the CSR region. -/
def execCrd (t : Fin 262144) (src : Fin 4096) (x : Fin 0x10000000) (len : Fin 256) (h : Hdr) (s : State) : Result :=
  .next (s.request { op := .crd, src := src, oc := 0, addr := csrBase + x, len := len + 1 } t h)

/-- R179: CWR, to an address in the CSR region. -/
def execCwr (t : Fin 262144) (src : Fin 4096) (x : Fin 0x10000000) (len : Fin 256) (data : List Byte) (h : Hdr) (s : State) : Result :=
  .next (s.request { op := .cwr, src := src, oc := 0, addr := csrBase + x, len := len + 1, data := payload data (len + 1) } t h)

/-! The responses; own names the adapter that turned the request round, none the tracker. -/

/-- The key of tag t of the tracker, or of the adapter of a field. -/
def replyKey (own : Option FieldId) (t : Nat) : Nat :=
  match own with
  | none => t
  | some n => 2 ^ 18 + 2 ^ 14 * n.val + t % 2 ^ 14

/-- R190: RDATA. -/
def execRdata (own : Option FieldId) (t : Fin 262144) (h : Hdr) (s : State) : Result := .next (s.reply (replyKey own t) [.rd, .amo] h {})

/-- R190: CPL. -/
def execCpl (own : Option FieldId) (t : Fin 262144) (h : Hdr) (s : State) : Result := .next (s.reply (replyKey own t) [.wr, .flush] h {})

/-- R179: CRSP. -/
def execCrsp (own : Option FieldId) (t : Fin 262144) (guest : Guest) (h : Hdr) (s : State) : Result :=
  .next (s.reply (replyKey own t) [.crd, .cwr] h guest)

/-! Credits, audits and quotas (R183-R185, R194). -/

/-- R183: a returned credit reaches the sender toward switch port p, or, where up holds, the one at port p toward the switch; what waits
there moves on. -/
def execCreditReturn (up : Bool) (p : Fin 177) (vc : Fin 4) (s : State) : Result := .next (s.creditBack up p vc).settleNet

/-- R185: an AUDIT of a virtual channel of port p is due after a retrain of its module; free is FREE that it carries. -/
def execAudit (p : Fin 177) (vc : Fin 4) (free : Byte) (s : State) : Result :=
  .next (if s.portFrozen p || !s.auditDue p vc then s else (s.auditPort p vc free.toNat).settleNet)

/-- R194: a write to TRK_QUOTA[d]. -/
def execQuotaWrite (d : Fin 11) (v : Word) (s : State) : Result :=
  .next (s.access .TRK 0 fun s => (s.writeQuota d v.toNat).settleNet)

/-! Timeout and fence walk (R195, R196). -/

/-- R195: CTO. -/
def State.cto (s : State) : Nat := s.get TRK.CTRL_CTO * msUnits

/-- R195: tag t is older than CTO, and no response to it waits in the switch (DEDUCED, log entry 43). -/
def execTagTimeout (t : Fin 262144) (s : State) : Result :=
  .next (match s.tagAt t with
  | none => s
  | some e =>
    if e.quar.isNone && decide (e.since + s.cto < s.now) && !s.owed.any (fun w => w.key == some t.val) then
      let s := ({ s with tags := Store.put t.val { e with quar := some s.now } s.tags }).count TRK.TOCNT
      if e.orphan then s else (s.sendRsp e.req { st := .timeout } none none).settleNet
    else s)

/-- R195: the quarantine of tag t ends. -/
def execQuarantineEnd (t : Fin 262144) (s : State) : Result :=
  .next (match s.tagAt t with
  | none => s
  | some e =>
    match e.quar with
    | some q => if q + s.cto ≤ s.now then (s.freeTag t).settleNet else s
    | none => s)

/-- R196: one tag of a walk of die d; a response that already waits in the switch keeps its tag. -/
def State.walkOne (s : State) (d t : Nat) : State :=
  match s.tagAt t with
  | none => s
  | some e =>
    if e.die = d then
      if s.owed.any fun w => w.key == some t then s
      else
        let s := s.freeTag t
        if e.quar.isSome || e.orphan then s.settleNet else ((s.count TRK.SYNTH).sendRsp e.req { st := .fenced } none none).settleNet
    else if dieOf e.req.src = d then ({ s with tags := Store.put t { e with orphan := true } s.tags }).settleNet
    else s

/-- R196: the walk of a die ends; the next that waits begins. -/
def State.walkEnd (s : State) (rest : List Nat) : State :=
  let s := { s with walk := rest, walkTag := 0 }
  let s := match rest with
    | [] => s.lower TRK.STAT_WALK
    | d :: _ => s.set TRK.STAT_WALKDIE d
  s.fallowEnd.settleNet

/-- R196: the tracker walks one tag (DEDUCED, log entry 43). -/
def execFenceWalkStep (s : State) : Result :=
  .next (match s.walk with
  | [] => s
  | d :: rest =>
    let t := s.walkTag
    let s := s.walkOne d t
    if t + 1 < 2 ^ 18 then { s with walkTag := t + 1 } else s.walkEnd rest)

end Sys2Proof.Machine
end

