-- ==== Sys2Proof/Machine/Mailbox.lean ====
section
/-! DEFINITION. Mailbox commands (spec/16_cxl.md R405-R408, spec/19_debug.md R479): the standard commands, roll call, events, and the
copy engine. -/
namespace Sys2Proof.Machine

/-! Standard commands (R406). -/

/-- R406: the opcodes of the Command Effects Log. -/
def mbOpcodes : List Nat := [0x0300, 0x0301, 0x0400, 0x0401, 0xC000, 0xC001, 0xC002, 0xC003, 0xC004, 0xC005]

/-- R406: the Command Effects Log: each opcode with its effect. -/
def effectsLog : List Byte := mbOpcodes.flatMap fun c => bytesLE 2 c ++ bytesLE 2 (Config.commandEffect c).toNat

/-- The identifier of the Command Effects Log in the CXL 2.0 specification (PRESUMED, log entry 47). -/
def effectsUuid : List Byte := [0x0D, 0xA9, 0xC0, 0xB5, 0xBF, 0x41, 0x4B, 0x78, 0x8F, 0x79, 0x96, 0xB1, 0x62, 0x3B, 0x3F, 0x17]

/-- R406: Get Timestamp. -/
def execGetTimestamp (p : List Byte) (s : State) : Result :=
  .next (if p ≠ [] then s.mailbox mbInvalid else s.mailbox mbSuccess (bytesLE 8 (secOf s.now * 1000000000 + nsOf s.now)))

/-- R406: Set Timestamp. -/
def execSetTimestamp (_p : List Byte) (s : State) : Result := .next (s.mailbox mbUnsupported)

/-- R406: Get Supported Logs (PRESUMED, log entry 47). -/
def execGetSupportedLogs (p : List Byte) (s : State) : Result :=
  .next (if p ≠ [] then s.mailbox mbInvalid
  else s.mailbox mbSuccess (bytesLE 2 1 ++ bytesLE 6 0 ++ effectsUuid ++ bytesLE 4 effectsLog.length))

/-- R406: Get Log: identifier, offset and length (PRESUMED, log entry 47). -/
def execGetLog (p : List Byte) (s : State) : Result :=
  .next (if p.length ≠ 24 ∨ p.take 16 ≠ effectsUuid ∨ effectsLog.length < fieldAt p 16 4 + fieldAt p 20 4 then s.mailbox mbInvalid
  else s.mailbox mbSuccess ((effectsLog.drop (fieldAt p 16 4)).take (fieldAt p 20 4)))

/-! Roll call and events (R407, R479). -/

/-- R231, R407: bytes 0 to 31 of FLH instance i. -/
def State.rollRecord (s : State) (i : Nat) : List Byte := (List.range 8).flatMap fun k => bytesLE 4 (s.wordAt 8 (0x40000 + 0x4000 * i + 4 * k))

/-- R407: GET_ROLLCALL. -/
def execGetRollcall (p : List Byte) (s : State) : Result :=
  .next (if p ≠ [] then s.mailbox mbInvalid else s.mailbox mbSuccess ((List.range 10).flatMap fun i => s.rollRecord i))

/-- R479: the 64 bytes of a record. -/
def Event.bytes (e : Event) : List Byte :=
  let b := bytesLE 2 e.code ++ bytesLE 1 (Config.openValue .eventSeverity e.seq % 4) ++ bytesLE 1 e.die ++ bytesLE 8 e.seq ++
    bytesLE 10 (tsOf e.ts) ++ bytesLE 2 0 ++ bytesLE 8 e.arg ++ bytesLE 4 e.rep ++ bytesLE 24 0
  b ++ bytesLE 4 (crc32 b)

/-- R407, R479: at most n records with SEQ at or above the first index: the next index, the count, the records. -/
def State.eventList (s : State) (first n : Nat) : List Byte :=
  let l := (s.events.filter fun e => decide (first ≤ e.seq)).take n
  let next := match l.getLast? with
    | some e => e.seq + 1
    | none => first
  bytesLE 8 next ++ bytesLE 2 l.length ++ l.flatMap Event.bytes

/-- R407: GET_EVENTS (DEDUCED, log entry 46). -/
def execGetEvents (p : List Byte) (s : State) : Result :=
  .next (if p.length ≠ 10 ∨ fieldAt p 8 2 = 0 ∨ 127 < fieldAt p 8 2 then s.mailbox mbInvalid
  else s.mailbox mbSuccess (s.eventList (fieldAt p 0 8) (fieldAt p 8 2)))

/-! COPY (R408). -/

/-- R30, R408: the used part of a window that holds a DPA: the reservoirs of one field are one part (DEDUCED, log entry
46). -/
def usedPart (a : Nat) : Option Place :=
  match placeOf a with
  | some (.rsv i) => some (.rsv (i / 4 * 4))
  | p => p

/-- R408: does a range lie wholly inside one used part? -/
def inOnePart (a len : Nat) : Bool := (usedPart a).isSome && usedPart a == usedPart (a + len - 1) &&
  decide (windowField a = windowField (a + len - 1))

/-- R401: the words of COPY's OPSPEC: bytes copied, and the DPA of the first failed access. -/
def copyWords (bytes bad : Nat) : List Nat := [bytes % 2 ^ 32, bytes / 2 ^ 32, bad % 2 ^ 32, bad / 2 ^ 32]

/-- R408: a COPY is decided (DEDUCED, log entry 46). -/
def State.copyBegin (s : State) (src dst len e : Nat) : State :=
  let words (s : State) : State := s.setOp e { s.op e with opspec := copyWords 0 noResult }
  if s.copy.active then s.opRefuse e 0x0501 mbSource
  else if !inOnePart src len || !inOnePart dst len then words (s.opBegin e 0x0501 5 0x0501 mbSource dst)
  else if src < dst + len ∧ dst < src + len then words (s.opBegin e 0x0501 5 0x0502 mbSource dst)
  else { words (s.opBegin e 0x0501 2 0 mbSource dst) with copy := ⟨true, e, src, dst, len, 0⟩ }

/-- R408: COPY. -/
def execCopy (p : List Byte) (s : State) : Result :=
  let len := fieldAt p 16 8
  let e := fieldAt p 24 2
  .next (if p.length ≠ 32 ∨ len = 0 ∨ 2 ^ 40 < len ∨ 1023 < e ∨ fieldAt p 26 6 ≠ 0 then s.mailbox mbInvalid
  else if s.opBusy e then s.mailbox mbBusy
  else (s.copyBegin (fieldAt p 0 8) (fieldAt p 8 8) len e).mailbox mbSuccess)

/-- R408: copy len bytes from a to b, in pieces within the 256-byte blocks of both (R176); n bounds their number. Answers the
bytes copied and the DPA of an access that failed; an access that waits for its region (R279), or for a credit, stops the copy for now. -/
def State.copyBytes (s : State) : Nat → Nat → Nat → Nat → State × Nat × Option Nat
  | 0, _, _, _ => (s, 0, none)
  | n + 1, a, b, len =>
    if len = 0 then (s, 0, none)
    else
      let k := min len (min (256 - a % 256) (256 - b % 256))
      let r := s.netRead 0x809 0 none a k
      if r.2.1 = .waits then (s, 0, none)
      else if r.2.1 ≠ .ok then (r.1, 0, some a)
      else
        let w := r.1.netStore .wr 0x809 0 b r.2.2
        if w.2 = .waits then (s, 0, none)
        else if w.2 ≠ .ok then (w.1, 0, some b)
        else
          let t := w.1.copyBytes n (a + k) (b + k) (len - k)
          (t.1, t.2.1 + k, t.2.2)

/-- R408: the copy engine copies the next 1/64 of LENGTH (DEDUCED, log entry 46). -/
def execCopyStep (s : State) : Result :=
  let c := s.copy
  let lo := c.len * c.step / 64
  let hi := c.len * (c.step + 1) / 64
  .next (if !c.active then s
  else
    let t := s.copyBytes (hi - lo) (c.src + lo) (c.dst + lo) (hi - lo)
    match t.2.2 with
    | some bad =>
      let s := t.1.setOp c.entry { t.1.op c.entry with opspec := copyWords (lo + t.2.1) bad }
      { (s.opFail c.entry 0x0503) with copy := {} }
    | none =>
      if t.2.1 < hi - lo then s
      else if c.step = 63 then { (t.1.opMove c.entry 4 65536 (copyWords c.len noResult)) with copy := {} }
      else { (t.1.opMove c.entry 3 (1024 * (c.step + 1)) (copyWords hi noResult)) with copy := { c with step := c.step + 1 } })

/-! The mailbox registers (R405), in the layout of the CXL 2.0 primary mailbox: the doorbell at 0x04, the command register at
0x08, the status at 0x10, the payload area at 0x20 (PRESUMED, log entry 47). -/

/-- The next state of a command that always has one. -/
def nextOr (s : State) : Result → State
  | .next t => t
  | _ => s

/-- R405-R407: the mailbox runs the command of an opcode on an input payload. -/
def State.runMailbox (s : State) (code : Nat) (p : List Byte) : State :=
  match code with
  | 0x0300 => nextOr s (execGetTimestamp p s)
  | 0x0301 => nextOr s (execSetTimestamp p s)
  | 0x0400 => nextOr s (execGetSupportedLogs p s)
  | 0x0401 => nextOr s (execGetLog p s)
  | 0xC000 => nextOr s (execGetRollcall p s)
  | 0xC001 => nextOr s (execGetEvents p s)
  | 0xC002 => nextOr s (execCopy p s)
  | 0xC003 => nextOr s (execBundleBegin p s)
  | 0xC004 => nextOr s (execBundleData p s)
  | 0xC005 => nextOr s (execBundleEnd p s)
  | _ => s.mailbox mbUnsupported

/-- R405: the payload that the command register counts. -/
def State.mbPayload (s : State) : List Byte :=
  let n := min 8192 (bitsOf s.cxl.mbCmd 16 21)
  s.cxl.mbOut.take n ++ List.replicate (n - s.cxl.mbOut.length) 0

/-- R405: a write of the word v at offset m of the mailbox; a doorbell runs the command, which completes and clears it at once. -/
def State.mailboxWord (s : State) (m v : Nat) : State :=
  if m = 4 then (if bitOf v 0 then s.runMailbox (s.cxl.mbCmd % 2 ^ 16) s.mbPayload else s)
  else if m = 8 then { s with cxl := { s.cxl with mbCmd := s.cxl.mbCmd / 2 ^ 32 * 2 ^ 32 + v % 2 ^ 32 } }
  else if m = 0xC then { s with cxl := { s.cxl with mbCmd := s.cxl.mbCmd % 2 ^ 32 + v % 2 ^ 5 * 2 ^ 32 } }
  else if 0x20 ≤ m ∧ m < 0x2020 then
    let l := s.cxl.mbOut ++ List.replicate (m - 0x1C - s.cxl.mbOut.length) 0
    { s with cxl := { s.cxl with mbOut := l.take (m - 0x20) ++ bytesLE 4 v ++ l.drop (m - 0x1C) } }
  else s

/-- R14, R405: a write of one or two words at offset m of the mailbox. -/
def State.mailboxWrite (s : State) (m : Nat) (bytes : List Byte) : State :=
  let s := s.mailboxWord m (fieldAt bytes 0 4)
  if bytes.length = 8 then s.mailboxWord (m + 4) (fieldAt bytes 4 4) else s

end Sys2Proof.Machine
end

