-- ==== Sys2Proof/Machine/Watermaster.lean ====
section
/-! DEFINITION. Watermaster (spec/19_debug.md R461-R469, R485): its transports, the session, its commands and the host channel. -/
namespace Sys2Proof.Machine

/-! Statuses (R468). -/

def wmOk : Nat := 0
def wmBadCmd : Nat := 1
def wmBadArg : Nat := 2
def wmBadSession : Nat := 3
def wmBusy : Nat := 4
def wmAccess : Nat := 5
def wmSideEffect : Nat := 6
def wmNotHalted : Nat := 7
def wmAbsent : Nat := 8
def wmToken : Nat := 9

/-- R398: the source of Watermaster's accesses: MC0. -/
def wmSource : Nat := 0x800

/-- What a command comes to: the state after it, the STATUS and the payload of its response; none while an access of it waits for a
region to be CHECKED (R279). -/
structure WmDone where
  st : State
  status : Nat := 0
  payload : List Byte := []

/-- R468: an access received a status other than OK. -/
def accessBytes (st : RStat) (dpa : Nat) : List Byte := bytesLE 8 st.code ++ bytesLE 8 dpa

/-- R468: the target of an access lies in an empty site or a fenced field. -/
def State.siteGone (s : State) (n : Nat) : Bool := decide (n < 8) && (!s.present n || s.bit GLB.AVAIL_FFENCED n)
def State.targetGone (s : State) (a : Nat) : Bool :=
  if inCsr a then s.siteGone (csrDie (a - csrBase))
  else match windowField a with
    | some n => s.siteGone n
    | none => false

/-! RD and WR (R467, R469). -/

/-- R467: a word of the CSR region is read or written through the network; `waits` where its request has to wait. -/
def State.wmCsrRead (s : State) (x : Nat) (guest : Guest) : State × RStat × Nat :=
  let t := s.netCsrRead wmSource x 4 guest
  (t.1, t.2.1, natLE t.2.2)
def State.wmCsrWrite (s : State) (x v : Nat) (guest : Guest) : State × RStat := s.netCsrWrite wmSource x (bytesLE 4 v) guest

/-- R469: PEEKA of a die. -/
def peekReg (d : Nat) : Nat := if d = 8 then 0x170010 else (d + 1) * 0x1000000 + 0xD0020

/-- R469: the read of PEEKD, after the write of PEEKA at b. -/
def State.peekData (w : State × RStat) (b : Nat) : State × RStat × Nat :=
  if w.2 = .ok then w.1.wmCsrRead (b + 4) {} else (w.1, w.2, 0)

/-- R469: the word of a CSR read at a DPA through the peek path of its die. -/
def State.peekRead (s : State) (a : Nat) : State × RStat × Nat :=
  if 9 ≤ csrDie (a - csrBase) then s.wmCsrRead (a - csrBase) {}
  else State.peekData (s.wmCsrWrite (peekReg (csrDie (a - csrBase))) ((a - csrBase) % 0x1000000) {}) (peekReg (csrDie (a - csrBase)))

/-- R469: an RD of the word at a DPA has a side effect, or may have. -/
def sideEffect (a : Nat) : Bool :=
  inCsr a && (csrDie (a - csrBase) == 9 || csrDie (a - csrBase) == 10 ||
    decide (csrDie (a - csrBase) ≤ 8) && hasRse (csrDie (a - csrBase)) ((a - csrBase) % 0x1000000))

/-- R467, R469: read one word; force performs a CSR read as an ordinary CRD. -/
def State.wmReadWord (s : State) (a : Nat) (force : Bool) (guest : Guest) : State × RStat × List Byte :=
  if inCsr a then
    let t := if force then s.wmCsrRead (a - csrBase) guest else s.peekRead a
    (t.1, t.2.1, bytesLE 4 t.2.2)
  else s.netRead wmSource 0 none a 4

/-- R467: read n words from a. -/
def State.wmReadWords (s : State) (force : Bool) (guest : Guest) : Nat → Nat → List Byte → Option WmDone
  | 0, _, got => some ⟨s, wmOk, got⟩
  | n + 1, a, got =>
    let t := s.wmReadWord a force guest
    if t.2.1 = .ok then t.1.wmReadWords force guest n (a + 4) (got ++ t.2.2)
    else if t.2.1 = .waits then none
    else some ⟨t.1, wmAccess, accessBytes t.2.1 a⟩

/-- The DPAs of n words from a. -/
def wordDpas (a n : Nat) : List Nat := (List.range n).map fun i => a + 4 * i

/-- R467, R469: RD (DEDUCED, log entry 48). -/
def State.wmRd (s : State) (p : List Byte) (guest : Guest) : Option WmDone :=
  let a := fieldAt p 0 8
  let n := fieldAt p 8 4
  let se := (wordDpas a n).any sideEffect
  if p.length ≠ 13 ∨ a % 4 ≠ 0 ∨ n = 0 ∨ 1018 < n then some ⟨s, wmBadArg, []⟩
  else if (wordDpas a n).any s.targetGone then some ⟨s, wmAbsent, []⟩
  else if se && !bitOf (fieldAt p 12 1) 0 then some ⟨s, wmSideEffect, []⟩
  else s.wmReadWords se guest n a []

/-- R467: WR of one word at a DPA. -/
def State.wmWriteWord (s : State) (guest : Guest) (l : List Byte) (a : Nat) : State × RStat :=
  if inCsr a then s.wmCsrWrite (a - csrBase) (fieldAt l 0 4) guest else s.netStore .wr wmSource 0 a (l.take 4)

/-- R467: write words from a. -/
def State.wmWriteWords (s : State) (guest : Guest) : Nat → List Byte → Nat → Option WmDone
  | 0, _, _ => some ⟨s, wmOk, []⟩
  | n + 1, l, a =>
    let t := s.wmWriteWord guest l a
    if t.2 = .ok then t.1.wmWriteWords guest n (l.drop 4) (a + 4)
    else if t.2 = .waits then none
    else some ⟨t.1, wmAccess, accessBytes t.2 a⟩

/-- R467: WR. -/
def State.wmWr (s : State) (p : List Byte) (guest : Guest) : Option WmDone :=
  let a := fieldAt p 0 8
  let n := (p.length - 8) / 4
  if p.length < 12 ∨ 8 + 4 * 1016 < p.length ∨ p.length % 4 ≠ 0 ∨ a % 4 ≠ 0 then some ⟨s, wmBadArg, []⟩
  else if (wordDpas a n).any s.targetGone then some ⟨s, wmAbsent, []⟩
  else s.wmWriteWords guest n (p.drop 8) a

/-! MRD and MWR (R467). -/

/-- R176: read len bytes from a in parts within 256-byte blocks; n bounds their number. -/
def State.wmReadBytes (s : State) : Nat → Nat → Nat → List Byte → Option WmDone
  | 0, _, _, got => some ⟨s, wmOk, got⟩
  | n + 1, a, len, got =>
    if len = 0 then some ⟨s, wmOk, got⟩
    else
      let k := min len (256 - a % 256)
      let t := s.netRead wmSource 0 none a k
      if t.2.1 = .ok then t.1.wmReadBytes n (a + k) (len - k) (got ++ t.2.2)
      else if t.2.1 = .waits then none
      else some ⟨t.1, wmAccess, accessBytes t.2.1 a⟩

/-- R176: write bytes from a in the same parts. -/
def State.wmWriteBytes (s : State) : Nat → Nat → List Byte → Option WmDone
  | 0, _, _ => some ⟨s, wmOk, []⟩
  | n + 1, a, l =>
    if l = [] then some ⟨s, wmOk, []⟩
    else
      let k := min l.length (256 - a % 256)
      let t := s.netStore .wr wmSource 0 a (l.take k)
      if t.2 = .ok then t.1.wmWriteBytes n (a + k) (l.drop k)
      else if t.2 = .waits then none
      else some ⟨t.1, wmAccess, accessBytes t.2 a⟩

/-- Some byte of a range lies in the CSR region. -/
def touchesCsr (a len : Nat) : Bool := decide (a < csrBase + 0x10000000 ∧ csrBase < a + len)

/-- R467: MRD (DEDUCED, log entry 48). -/
def State.wmMrd (s : State) (p : List Byte) : Option WmDone :=
  let a := fieldAt p 0 8
  let n := fieldAt p 8 4
  if p.length ≠ 12 ∨ n = 0 ∨ 4072 < n ∨ touchesCsr a n then some ⟨s, wmBadArg, []⟩
  else if s.targetGone a || s.targetGone (a + n - 1) then some ⟨s, wmAbsent, []⟩
  else s.wmReadBytes 17 a n []

/-- R467: MWR. -/
def State.wmMwr (s : State) (p : List Byte) : Option WmDone :=
  let a := fieldAt p 0 8
  let n := p.length - 8
  if p.length < 9 ∨ 4072 < p.length ∨ touchesCsr a n then some ⟨s, wmBadArg, []⟩
  else if s.targetGone a || s.targetGone (a + n - 1) then some ⟨s, wmAbsent, []⟩
  else s.wmWriteBytes 17 a (p.drop 8)

/-! Engines (R467). -/

/-- R467: the answer to a command that writes a control register at CSR offset x, after the write. -/
def State.wmWritten (t : State × RStat) (x : Nat) : WmDone :=
  if t.2 = .ok then ⟨t.1, wmOk, []⟩ else ⟨t.1, wmAccess, accessBytes t.2 (csrBase + x)⟩

/-- R473: FDB_HCMD of cluster c of field n. -/
def haltReg (n c : Nat) : Nat := (n + 1) * 0x1000000 + 0xD0010 + 4 * c

/-- R467, R473: HALT, or RESUME where up is 8: a write of FDB_HCMD. -/
def State.wmHalt (s : State) (p : List Byte) (up : Nat) : WmDone :=
  let n := fieldAt p 0 1
  let c := fieldAt p 1 1
  if p.length ≠ 3 ∨ 8 ≤ n ∨ 4 ≤ c then ⟨s, wmBadArg, []⟩
  else if s.siteGone n then ⟨s, wmAbsent, []⟩
  else State.wmWritten (s.wmCsrWrite (haltReg n c) (fieldAt p 2 1 * 2 ^ up) {}) (haltReg n c)

/-- R467: a command for one engine that is to be HALTED: its payload is good, its site is there, it is HALTED. -/
def State.wmEngine (s : State) (good : Bool) (g : Nat) : Option WmDone :=
  if !good || decide (256 ≤ g) then some ⟨s, wmBadArg, []⟩
  else if s.siteGone (g / 32) then some ⟨s, wmAbsent, []⟩
  else if !s.serves (g / 32) then some ⟨s, wmAccess, accessBytes .poison (csrBase + (g / 32 + 1) * 0x1000000)⟩
  else if !s.time.tclk then some ⟨s.timedOut .timeout, wmAccess, accessBytes .timeout (csrBase + (g / 32 + 1) * 0x1000000)⟩
  else if s.rget RIL.ESTAT_STATE g ≠ 3 then some ⟨s, wmNotHalted, []⟩
  else none

/-- R467: STEP. -/
def State.wmStep (s : State) (p : List Byte) : WmDone :=
  let g := fieldAt p 0 2
  match s.wmEngine (p.length == 2) g with
  | some d => d
  | none =>
    let s := s.writeHcmd (g / 32) (g / 8 % 4) (2 ^ (16 + g % 8))
    ⟨s, wmOk, bytesLE 4 (s.hstat g)⟩

/-- R467: a register code: one of R379, or an accumulator. -/
def wmRegister (r : Nat) : Bool := decide (r < 0x20) || decide (0x20 ≤ r ∧ r < 0x24)

/-- R467: RREG. -/
def State.wmRreg (s : State) (p : List Byte) : WmDone :=
  let g := fieldAt p 0 2
  let r := fieldAt p 2 1
  match s.wmEngine (p.length == 3 && wmRegister r) g with
  | some d => d
  | none =>
    if r < 0x20 then ⟨s, wmOk, bytesLE 4 (s.rilReg g r)⟩
    else
      let v := (s.eng g).accOf (r - 0x20)
      ⟨s, wmOk, bytesLE 8 (patternOf v.1 64) ++ bytesLE 8 (patternOf v.2 64)⟩

/-- R467: WREG. An accumulator takes the low 48 bits of each half (R354) (DEDUCED, log entry 48). -/
def State.wmWreg (s : State) (p : List Byte) : WmDone :=
  let g := fieldAt p 0 2
  let r := fieldAt p 2 1
  match s.wmEngine (wmRegister r && p.length == (if r < 0x20 then 8 else 20)) g with
  | some d => d
  | none =>
    if r < 0x20 then ⟨s.setRilReg g r (fieldAt p 4 4), wmOk, []⟩
    else ⟨s.setEng g ((s.eng g).setAcc (r - 0x20) (signedOf (fieldAt p 4 8) 48, signedOf (fieldAt p 12 8) 48)), wmOk, []⟩

/-! LOG and GUNLOCK (R467, R482). -/

/-- R467: LOG: as GET_EVENTS, with as many records as a frame holds (DEDUCED, log entry 48). -/
def State.wmLogRead (s : State) (p : List Byte) : WmDone :=
  if p.length ≠ 10 ∨ fieldAt p 8 2 = 0 ∨ 127 < fieldAt p 8 2 then ⟨s, wmBadArg, []⟩
  else ⟨s, wmOk, s.eventList (fieldAt p 0 8) (min 63 (fieldAt p 8 2))⟩

/-- R467, R482: GUNLOCK. -/
def State.wmGunlock (s : State) (p : List Byte) : WmDone :=
  if p.length ≠ 256 then ⟨s, wmBadArg, []⟩
  else match s.barred .GAU 0 with
  | some st => ⟨s, wmAccess, accessBytes st (csrBase + 0x190000)⟩
  | none =>
    let s := (List.range 64).foldl (fun (s : State) i => s.set GAU.TOK (fieldAt p (4 * i) 4) i) s
    let ok := s.tokenOk
    let s := s.gaugeGo
    if ok then ⟨s, wmOk, bytesLE 4 s.gaugeRemain⟩ else ⟨s, wmToken, []⟩

/-! The session (R464). -/

/-- R464: how many engines are halted, and how many debug units are enabled. -/
def State.haltedCount (s : State) : Nat := (List.range 256).countP fun g => s.rget RIL.ESTAT_STATE g == 3
def State.unitsOn (s : State) : Nat :=
  (List.range 256).countP fun i => s.flag FDB.DU_EN (i / 32) (i / 8 % 4) (i % 8)

/-- R464: OPEN on transport x (true: the host channel) (DEDUCED, log entry 48). -/
def State.wmOpen (s : State) (x : Bool) (p : List Byte) : WmDone :=
  let force := bitOf (fieldAt p 0 4) 0
  if p.length ≠ 4 then ⟨s, wmBadArg, []⟩
  else if s.flag DBG.SESS_ACTIVE && !force then ⟨s, wmBusy, []⟩
  else
    let s := if s.flag DBG.SESS_ACTIVE then s.wmEvent 0x8002 [1] else s
    let s := s.used
    let sid := 1 + s.openValue .random % (2 ^ 32 - 1)
    let s := ((s.raise DBG.SESS_ACTIVE).setB DBG.SESS_XPORT x).set DBG.SID sid
    let s := { s with wm := { s.wm with last := none } }
    let s := s.logEvent 0x0901 8 (x.toNat + force.toNat * 2 ^ 32)
    ⟨s, wmOk, bytesLE 4 sid ++ bytesLE 4 (s.hdrVer 8 (firmwareSlot (s.get FWU.ACT_HWFW))) ++ bytesLE 2 s.haltedCount ++ bytesLE 2 s.unitsOn⟩

/-- R464: CLOSE. -/
def State.wmClose (s : State) (p : List Byte) : WmDone :=
  if p ≠ [] then ⟨s, wmBadArg, []⟩
  else ⟨{ ((s.lower DBG.SESS_ACTIVE).lower DBG.SESS_XPORT).lower DBG.SID with wm := { s.wm with last := none, events := [], lost := 0 } }, wmOk, []⟩

/-! Requests and responses (R463, R477, R485). -/

/-- R467: the command with a CMD, in the open session. -/
def State.wmCommand (s : State) (x : Bool) (cmd : Nat) (p : List Byte) (guest : Guest) : Option WmDone :=
  match cmd with
  | 0x0001 => some (s.wmOpen x p)
  | 0x0002 => some (s.wmClose p)
  | 0x0003 => some ⟨s, wmOk, p⟩
  | 0x0010 => s.wmRd p guest
  | 0x0011 => s.wmWr p guest
  | 0x0012 => s.wmMrd p
  | 0x0013 => s.wmMwr p
  | 0x0020 => some (s.wmHalt p 0)
  | 0x0021 => some (s.wmHalt p 8)
  | 0x0022 => some (s.wmStep p)
  | 0x0023 => some (s.wmRreg p)
  | 0x0024 => some (s.wmWreg p)
  | 0x0030 => some (s.wmLogRead p)
  | 0x0040 => some (s.wmGunlock p)
  | _ => some ⟨s, wmBadCmd, []⟩

/-- R477: the DPA or the engine that a DEBUGGER packet names for a command. -/
def wmNames (cmd : Nat) (p : List Byte) : Nat :=
  if 0x0010 ≤ cmd ∧ cmd ≤ 0x0013 then fieldAt p 0 8
  else if 0x0020 ≤ cmd ∧ cmd ≤ 0x0021 then 32 * fieldAt p 0 1 + 8 * fieldAt p 1 1
  else if 0x0022 ≤ cmd ∧ cmd ≤ 0x0024 then fieldAt p 0 2
  else 0

/-- R485: a response goes to its transport; on the host channel it waits while the buffer holds another (DEDUCED, log
entry 48). -/
def State.wmAnswer (s : State) (x : Bool) (b : List Byte) : State :=
  if !x then s.emit (.msp b)
  else if s.flag WHC.STAT_RSPV then { s.raise WHC.STAT_REQBUSY with wm := { s.wm with held := some b } }
  else ((s.setBuf WHC.RSPBUF 0 b).raise WHC.STAT_RSPV).lower WHC.STAT_REQBUSY

/-- R461: the transport is enabled, and Watermaster runs. -/
def State.wmListens (s : State) (x : Bool) : Bool :=
  !s.boot.inReset && s.pow.dormant.isNone && (if x then s.flag DBG.CTRL_HCEN else s.flag DBG.CTRL_MSPEN)

/-- R464, R467, R477: a command is done: its packet of the debugger's trace, the answer kept for a repeat of the request, and the
answer itself. -/
def WmDone.report (d : WmDone) (x : Bool) (cmd seq sid : Nat) (p : List Byte) : State :=
  let s := d.st
  let s := if d.status = wmBadCmd then s else s.trace 8 6 0 0 12 (bytesLE 2 cmd ++ bytesLE 2 seq ++ bytesLE 8 (wmNames cmd p))
  let b := wmFrame 2 seq cmd d.status (if cmd = 1 ∧ d.status = wmOk then s.get DBG.SID else sid) d.payload
  let s := if s.flag DBG.SESS_ACTIVE && d.status != wmBusy then { s with wm := { s.wm with last := some (seq, b) } } else s
  s.wmAnswer x b

/-- R463: a request with a CMD, a SEQ and a SID on transport x (DEDUCED, log entry 48; DESIGN CHOICE, log entry 52). -/
def State.wmRequest (s : State) (x : Bool) (cmd seq sid : Nat) (p : List Byte) (guest : Guest) : State :=
  if !s.wmListens x || decide (4072 < p.length) then s
  else if s.flag WHC.STAT_REQBUSY || s.wm.pend.isSome then
    (if x && s.flag WHC.STAT_REQBUSY then s else s.wmAnswer x (wmFrame 2 seq cmd wmBusy sid []))
  else
    let again := s.flag DBG.SESS_ACTIVE && (match s.wm.last with
      | some l => l.1 == seq && (sid == s.get DBG.SID || (cmd == 1 && fieldAt l.2 6 2 == 1))
      | none => false)
    if again then s.wmAnswer x ((s.wm.last.map (·.2)).getD [])
    else if cmd ≠ 1 ∧ (s.flag DBG.SESS_ACTIVE = false ∨ sid ≠ s.get DBG.SID) then
      s.wmAnswer x (wmFrame 2 seq cmd wmBadSession sid [])
    else match s.wmCommand x cmd p guest with
    | none => { (if x then s.raise WHC.STAT_REQBUSY else s) with wm := { s.wm with pend := some ⟨x, cmd, seq, sid, p, guest⟩ } }
    | some d => d.report x cmd seq sid p

/-- R463: a request that waits goes on where it can, and is answered. -/
def State.wmRetry (s : State) : State :=
  match s.wm.pend with
  | none => s
  | some ⟨x, cmd, seq, sid, p, guest⟩ =>
    match s.wmCommand x cmd p guest with
    | none => s
    | some d => ({ d with st := { d.st with wm := { d.st.wm with pend := none } } } : WmDone).report x cmd seq sid p

/-- R464: OPEN. -/
def execOpen (x : Bool) (seq : Fin 65536) (p : List Byte) (s : State) : Result := .next (s.wmRequest x 0x0001 seq 0 p {})

/-- R464: CLOSE. -/
def execClose (x : Bool) (seq : Fin 65536) (sid : Word) (p : List Byte) (s : State) : Result := .next (s.wmRequest x 0x0002 seq sid.toNat p {})

/-- R467: PING. -/
def execPing (x : Bool) (seq : Fin 65536) (sid : Word) (p : List Byte) (s : State) : Result := .next (s.wmRequest x 0x0003 seq sid.toNat p {})

/-- R469: RD. -/
def execWmRd (x : Bool) (seq : Fin 65536) (sid : Word) (p : List Byte) (guest : Guest) (s : State) : Result :=
  .next (s.wmRequest x 0x0010 seq sid.toNat p guest)

/-- R467: WR. -/
def execWmWr (x : Bool) (seq : Fin 65536) (sid : Word) (p : List Byte) (guest : Guest) (s : State) : Result :=
  .next (s.wmRequest x 0x0011 seq sid.toNat p guest)

/-- R467: MRD. -/
def execMrd (x : Bool) (seq : Fin 65536) (sid : Word) (p : List Byte) (s : State) : Result := .next (s.wmRequest x 0x0012 seq sid.toNat p {})

/-- R467: MWR. -/
def execMwr (x : Bool) (seq : Fin 65536) (sid : Word) (p : List Byte) (s : State) : Result := .next (s.wmRequest x 0x0013 seq sid.toNat p {})

/-- R467: HALT. -/
def execWmHalt (x : Bool) (seq : Fin 65536) (sid : Word) (p : List Byte) (s : State) : Result := .next (s.wmRequest x 0x0020 seq sid.toNat p {})

/-- R467: RESUME. -/
def execWmResume (x : Bool) (seq : Fin 65536) (sid : Word) (p : List Byte) (s : State) : Result := .next (s.wmRequest x 0x0021 seq sid.toNat p {})

/-- R467: STEP. -/
def execWmStep (x : Bool) (seq : Fin 65536) (sid : Word) (p : List Byte) (s : State) : Result := .next (s.wmRequest x 0x0022 seq sid.toNat p {})

/-- R467: RREG. -/
def execRreg (x : Bool) (seq : Fin 65536) (sid : Word) (p : List Byte) (s : State) : Result := .next (s.wmRequest x 0x0023 seq sid.toNat p {})

/-- R467: WREG. -/
def execWreg (x : Bool) (seq : Fin 65536) (sid : Word) (p : List Byte) (s : State) : Result := .next (s.wmRequest x 0x0024 seq sid.toNat p {})

/-- R467: LOG. -/
def execLog (x : Bool) (seq : Fin 65536) (sid : Word) (p : List Byte) (s : State) : Result := .next (s.wmRequest x 0x0030 seq sid.toNat p {})

/-- R467: GUNLOCK. -/
def execGunlock (x : Bool) (seq : Fin 65536) (sid : Word) (p : List Byte) (s : State) : Result := .next (s.wmRequest x 0x0040 seq sid.toNat p {})

/-- R462, R463: a frame that is a request with a right SYNC, VER, LEN and CRC. -/
def frameOk (b : List Byte) : Bool :=
  let len := fieldAt b 8 2
  b.take 4 == [0xA5, 0x5A, 0x01, 0x01] && decide (len ≤ 4072) && fieldAt b (16 + len) 4 == crc32 (b.take (16 + len))

/-- R463: what is received holds a whole frame, by its LEN, or cannot become one: the receiver starts again. -/
def frameEnds (b : List Byte) : Bool :=
  (b.take 2 != ([0xA5, 0x5A] : List Byte).take b.length) || (decide (16 ≤ b.length) && (decide (4072 < fieldAt b 8 2) || decide (20 + fieldAt b 8 2 ≤ b.length)))

/-- R461: ten bit times of the MSP on State.elapsed, at 48 MHz. -/
def State.mspByteTime (s : State) : Nat := s.get DBG.MSP_DIV * 208333333

/-- R461-R463: a byte arrives on the MSP: after a gap of more than 1 ms it starts a frame anew. A byte that cannot continue a SYNC pair may be
the first of one. -/
def State.mspReceive (s : State) (b : Byte) : State :=
  let l := (if s.wm.rxAt + 1000 * usFs < s.elapsed then [] else s.wm.rx) ++ [b]
  let keep (s : State) (l : List Byte) : State := { s with wm := { s.wm with rx := l, rxAt := s.elapsed } }
  if !frameEnds l then keep s l
  else if l.length ≤ 2 then keep s (if b = 0xA5 then [b] else [])
  else if frameOk l then (keep s []).wmRequest false (fieldAt l 6 2) (fieldAt l 4 2) (fieldAt l 12 4) ((l.drop 16).take (fieldAt l 8 2)) {}
  else keep s []

/-- R461, R463: Watermaster in a cycle: a request that waits, and a byte on the MSP, which takes ten bit times. -/
def State.wmCycle (s : State) : State :=
  let s := s.wmRetry
  match Config.mspByte s.elapsed with
  | some b => if s.wmListens false && decide (s.wm.rxAt + s.mspByteTime ≤ s.elapsed) then s.mspReceive b else s
  | none => s

/-- R463: a gap of more than 1 ms between bytes on the MSP. -/
def execMspGapTimeout (s : State) : Result := .next { s with wm := { s.wm with rx := [] } }

/-! The host channel (R485). -/

/-- R485: the bytes in the request buffer. -/
def State.reqBytes (s : State) : List Byte := (List.range 1024).flatMap fun i => bytesLE 4 (s.get WHC.REQBUF i)

/-- R485: REQ: the request frame in the buffer (DEDUCED, log entry 48). -/
def State.hostRequest (s : State) (guest : Guest) : State :=
  let b := s.reqBytes
  if frameOk b then s.wmRequest true (fieldAt b 6 2) (fieldAt b 4 2) (fieldAt b 12 4) ((b.drop 16).take (fieldAt b 8 2)) guest else s

/-- R485: RSPACK: the response buffer is free, and takes a response that waits. -/
def State.rspAck (s : State) : State :=
  let s := s.lower WHC.STAT_RSPV
  match s.wm.held with
  | some b => ({ s with wm := { s.wm with held := none } }).wmAnswer true b
  | none => s

/-- R485: EVTACK: the event buffer is free, and takes the next event. -/
def State.evtAck (s : State) : State := (s.lower WHC.STAT_EVTV).nextEvent

/-- R485: a write of the word v to the host channel at an offset. -/
def State.writeWhc (s : State) (o v : Nat) (guest : Guest) : State :=
  if o = 0 then
    let s := if bitOf v 1 then s.rspAck else s
    let s := if bitOf v 2 then s.evtAck else s
    if bitOf v 0 then s.hostRequest guest else s
  else if 0x1000 ≤ o ∧ o < 0x2000 then (if s.flag WHC.STAT_REQBUSY then s else s.set WHC.REQBUF v ((o - 0x1000) / 4))
  else s

/-- R485: a write of WHC_DOOR.REQ. -/
def execWhcRequest (guest : Guest) (s : State) : Result := .next ((s.writeWhc 0 1 guest).answer .ok)

/-- R485: a write of WHC_DOOR.RSPACK. -/
def execRspack (s : State) : Result := .next ((s.writeWhc 0 2 {}).answer .ok)

/-- R485: a write of WHC_DOOR.EVTACK. -/
def execEvtack (s : State) : Result := .next ((s.writeWhc 0 4 {}).answer .ok)

/-! Writes of registers that no other command covers (R14-R17, R38). -/

/-- R14-R17, R38: a write of bytes at an offset of the CSR region, or, from 0x10000000 on, of BAR2: the ledger ignores writes
(R410), the mailbox follows R405, the host channel R485, and the rest is unmapped. -/
def State.regWrite (s : State) (o : Nat) (bytes : List Byte) (src : Nat) (guest : Guest) : State × RStat :=
  if o < 0x10000000 then s.csrWrite src o bytes guest
  else
    let x := o - 0x10000000
    if 0x30000 ≤ x ∨ ¬ (bytes.length = 4 ∨ bytes.length = 8) ∨ x % 4 ≠ 0 then (s, .err)
    else if 0x20000 ≤ x then
      let s := s.writeWhc (x - 0x20000) (fieldAt bytes 0 4) guest
      (if bytes.length = 8 then s.writeWhc (x + 4 - 0x20000) (fieldAt bytes 4 4) guest else s, .ok)
    else if 0x10000 ≤ x then (s.mailboxWrite (x - 0x10000) bytes, .ok)
    else (s, .ok)

/-- R14-R17: a write by source src to a register. -/
def execRegisterWrite (o : Fin 0x10100000) (bytes : List Byte) (src : Fin 4096) (guest : Guest) (s : State) : Result :=
  let t := s.regWrite o bytes src guest
  .next (t.1.answer t.2)

end Sys2Proof.Machine
end

