-- ==== Sys2Proof/Machine/Clock.lean ====
section
/-! DEFINITION. What the part does by itself in one cycle of the clock that the DTC counts on. -/
namespace Sys2Proof.Machine

/-- R201, R219: records in hand and what waits at the Canal switch go on; STALL counts what cannot. -/
def State.netCycle (s : State) : State :=
  let s := if s.cfes.isEmpty then s else s.pushHands
  (if s.ingress.isEmpty && s.owed.isEmpty then s else s.settleNet).countStalls

/-- R97, R124, R156, R157, R166, R302: one cycle of the clock that the DTC counts on; the float sequencer's timer and the clocks of the fabric run for the 4 ns
of a TCLK cycle or the 40 ns of an oscillator cycle, and the lanes send, adapt and sample for as long (DESIGN CHOICE, log entry 4). -/
def State.cycle (s : State) : State :=
  let ns := if s.time.tclk then 4 else 40
  (((((s.tick.runTimer ns).lineCycle ns).ptpCycle s.now).fabCycle ns).swapCycle).netCycle.wmCycle.gaugeCycle

end Sys2Proof.Machine
end

