-- ==== Sys2Proof/Machine/Cxl.lean ====
section
/-! DEFINITION. Host accesses (spec/01_package_architecture.md R37-R41, spec/16_cxl.md R391-R393, R405, spec/19_debug.md R485): BAR0, BAR2,
BAR4 and CXL.mem accesses and the
Canal requests that they become. Each response of those requests (rows RDATA, CPL, CRSP) completes its part of the access as
R392 states (State.hostReceive). -/
namespace Sys2Proof.Machine

/-- R176, R391: the parts of a range that is split at boundaries of size b; n bounds their number. -/
def splitAt (b : Nat) : Nat → Nat → Nat → List (Nat × Nat)
  | 0, _, _ => []
  | n + 1, a, len => if len = 0 then [] else (a, min len (b - a % b)) :: splitAt b n (a + min len (b - a % b)) (len - min len (b - a % b))

/-- Requests that a host access becomes, each with its tag from t on. -/
def State.requests (s : State) (h : Hdr) : Nat → List Req → State
  | _, [] => s
  | t, r :: l => (s.request r (t % 2 ^ 18) h).requests h (t + 1) l

/-- R390: the BARs decode: the link is up and the function is not in D3hot. -/
def State.linkUp (s : State) : Bool := s.get CXL.LSTAT_MODE != 0
def State.decodes (s : State) : Bool := !s.cxl.d3hot

/-- A BAR access that no BAR decodes, or that R391 does not forward: a UR completion, or a write dropped. -/
def State.refuseRead (s : State) : State := { s with resp := { st := .err, code := hostUR } }
def State.refuseWrite (s : State) : State := { s with resp := { st := .err, code := hostDropped } }

/-- R38, R405, R485: the word at an offset of BAR2: the ledger, the mailbox, the host channel; the mailbox's words that only the
CXL specification lays out hold an open value (PRESUMED, log entry 45). -/
def State.bar2Word (s : State) (o : Nat) : Nat :=
  if o < 0x10000 then s.wordAt 8 (0x110000 + o)
  else if o < 0x20000 then
    let m := o - 0x10000
    let open_ := (Config.cfgWord (2 ^ 17 + m) s.cxl.comp).toNat
    if m = 0 then withBits (open_ / 2 ^ 7 * 2 ^ 7) 0 5 13
    else if m = 4 ∨ m = 0x10 then 0
    else if m = 8 ∨ m = 0xC then s.cxl.mbCmd / 2 ^ (8 * (m - 8))
    else if m = 0x14 then withBits open_ 0 16 s.cxl.mbCode
    else if 0x20 ≤ m ∧ m < 0x2020 then fieldAt s.cxl.mbOut (m - 0x20) 4
    else open_
  else (Blk.elems .WHC 8 0 (o - 0x20000)).foldl (fun a e => a + s.elemRead e * 2 ^ e.lo) 0

/-- R14, R38: a read of n bytes at offset x of BAR2; what is unmapped, or no access of R14, receives an error completion. -/
def State.bar2Read (s : State) (x n : Nat) : State :=
  if x < 0x30000 ∧ x % 4 + n ≤ 4 then s.answerData (((bytesLE 4 (s.bar2Word (x / 4 * 4))).drop (x % 4)).take n)
  else if x < 0x30000 ∧ x % 4 = 0 ∧ n = 8 then s.answerData (bytesLE 4 (s.bar2Word x) ++ bytesLE 4 (s.bar2Word (x + 4)))
  else (s.hostError 0 .err 1 x).refuseRead

/-- R14, R38: a write at offset x of BAR2; what is unmapped, or no access of R14, is dropped. -/
def State.bar2Write (s : State) (x : Nat) (data : List Byte) : State :=
  let t := s.regWrite (0x10000000 + x) data 0x802 {}
  if t.2 = .ok then t.1.answer .ok else (s.hostError 1 .err 1 x).refuseWrite

/-- R14, R38, R391: a BAR0 read of len + 1 bytes at offset x, or, from 0x10000000 on, a BAR2 read (DEDUCED, log entry 44). -/
def execBar0Read (t : Fin 262144) (x : Fin 0x10100000) (len : Fin 4096) (h : Hdr) (s : State) : Result :=
  let n := len.val + 1
  .next (if !s.linkUp then s
  else if !s.decodes then s.refuseRead
  else if 0x10000000 ≤ x.val then s.bar2Read (x - 0x10000000) n
  else if 8 < n then (s.hostError 0 .err 1 (csrBase + x)).refuseRead
  else s.requests h t ((splitAt 4 8 x n).map fun p => { op := .crd, src := 0x802, oc := 0, addr := csrBase + p.1, len := p.2 }))

/-- R14, R38, R391: a BAR0 write of data at offset x, or, from 0x10000000 on, a BAR2 write. A BAR0 write waits
at ingress for every earlier BAR4 write (State.bar4Waits) (DEDUCED, log entry 44). -/
def execBar0Write (t : Fin 262144) (x : Fin 0x10100000) (data : List Byte) (h : Hdr) (s : State) : Result :=
  let n := data.length
  let cwr (a : Nat) (d : List Byte) : Req := { op := .cwr, src := 0x802, oc := 0, addr := csrBase + a, len := d.length, data := d }
  .next (if !s.linkUp || n == 0 then s
  else if !s.decodes then s.refuseWrite
  else if 0x10000000 ≤ x.val then s.bar2Write (x - 0x10000000) data
  else if 8 < n then (s.hostError 1 .err 1 (csrBase + x)).refuseWrite
  else if n = 8 ∧ x.val % 4 = 0 then s.requests h t [cwr x (data.take 4), cwr (x + 4) (data.drop 4)]
  else s.requests h t [cwr x data])

/-- R39: the base of the window that CXL_B4WIN selects. -/
def State.bar4Base (s : State) : Nat :=
  match s.get CXL.B4WIN_SEL with
  | 0 => rsvBase
  | 1 => qdrBase
  | 2 => rillBase
  | _ => scratchBase

/-- R39, R391: a BAR4 read of len + 1 bytes at offset x. -/
def execBar4Read (t : Fin 262144) (x : Fin 0x40000000) (len : Fin 4096) (h : Hdr) (s : State) : Result :=
  let n := min (len.val + 1) (0x40000000 - x.val)
  .next (if !s.linkUp then s
  else if !s.decodes then s.refuseRead
  else s.requests h t ((splitAt 256 17 (s.bar4Base + x) n).map fun p => { op := .rd, src := 0x802, oc := 0, addr := p.1, len := p.2 }))

/-- R39, R391: a BAR4 write of data at offset x (DEDUCED, log entry 44). -/
def execBar4Write (x : Fin 0x40000000) (data : List Byte) (h : Hdr) (s : State) : Result :=
  let n := min data.length (0x40000000 - x.val)
  let a := s.bar4Base + x
  .next (if !s.linkUp then s
  else if !s.decodes then s.refuseWrite
  else (s.requests h 0 ((splitAt 256 (n + 1) a n).map fun p =>
    { op := .pwr, src := 0x802, oc := 0, addr := p.1, len := p.2, data := (data.drop (p.1 - a)).take p.2 })).answer .ok)

/-- R393: CXL.mem reaches HBM only in CXL mode, with Mem_Enable and the decoder committed; otherwise each request is answered as
ERR. A link in PCI Express mode carries none (R389) (DEDUCED, log entry 44). -/
def State.memAccess (s : State) (r : Req) (t : Nat) (h : Hdr) : State :=
  if s.get CXL.LSTAT_MODE ≠ 2 then s
  else if s.flag CXL.LSTAT_MEM then s.request r t h
  else { s.hostError r.hostKind .err 1 r.addr with resp := hostAnswer r.hostKind .err r.len }

/-- R41, R391: a MemRd of line l of the HDM range. -/
def execMemrd (t : Fin 262144) (l : Fin 0x90000000) (h : Hdr) (s : State) : Result :=
  .next (s.memAccess { op := .rd, src := 0x803, oc := 0, addr := 64 * l, len := 64 } t h)

/-- R41, R391: a MemWr of line l of the HDM range. -/
def execMemwr (t : Fin 262144) (l : Fin 0x90000000) (data : List Byte) (h : Hdr) (s : State) : Result :=
  .next (s.memAccess { op := .wr, src := 0x803, oc := 0, addr := 64 * l, len := 64, data := payload data 64 } t h)

end Sys2Proof.Machine
end

