-- ==== Sys2Proof/Machine/RillMem.lean ====
section
/-! DEFINITION. The responses to the memory accesses of Rill engines (spec/14_rill_engine.md R362-R365, spec/15_rill_isa.md
R381, R384). -/
namespace Sys2Proof.Machine

/-- R27, R362, R364: an access passes the network and is performed at its target: the state, its status, its data, and whether an SC succeeded. -/
def State.rilPerform (s : State) (g : Nat) (a : RilAcc) (guest : Guest) : State × RStat × List Byte × Bool :=
  if a.kind = 5 then (s, .ok, [], true)
  else if a.stream = 4 then s.rsvDo g a
  else if a.stream = 5 then
    match a.kind with
    | 0 => let t := s.netCsrRead (rilSrc g) (a.addr - csrBase) a.len guest; (t.1, t.2.1, t.2.2, true)
    | 1 => let t := s.netCsrWrite (rilSrc g) (a.addr - csrBase) (bytesLE a.len a.data) guest; (t.1, t.2, [], true)
    | _ => (s, .err, [], true)
  else match a.kind with
    | 0 => let t := s.netRead (rilSrc g) a.stream none a.addr a.len; (t.1, t.2.1, t.2.2, true)
    | 1 => let t := s.netStore .wr (rilSrc g) a.stream a.addr (bytesLE a.len a.data); (t.1, t.2, [], true)
    | _ =>
      let t := s.netAtomic (rilSrc g) a.stream a.addr a.len a.aop (bytesLE 32 a.data ++ bytesLE a.len a.swap)
      (t.1, t.2.1, t.2.2, true)

/-- The register or the pair that an access loads takes its value. -/
def State.rilLoaded (s : State) (g : Nat) (a : RilAcc) (data : List Byte) : State :=
  let s := s.setEng g ((s.eng g).setReg a.reg (natLE (data.take 4)))
  if a.len = 8 then s.setEng g ((s.eng g).setReg (a.reg + 1) (natLE (data.drop 4))) else s

/-- R365: the cause of the fault that an access answered with a status other than OK raises, if it raises one. -/
def rilCause (a : RilAcc) : Option Nat :=
  match a.kind with
  | 1 => if a.stream = 4 then some 6 else none
  | 3 => some 6
  | _ => some 5

/-- R365: access k of an engine, which none of its stream holds back, is performed and its response returns (DEDUCED, log
entry 34). -/
def State.rilReturn (s : State) (g k : Nat) (guest : Guest) : State :=
  match (s.eng g).outs[k]? with
  | none => s
  | some a =>
    if headOf (s.eng g).outs k = false then s
    else
      let r := s.rilPerform g a guest
      if r.2.1 = .waits then s
      else
        let e := r.1.eng g
        let s := r.1.setEng g { e with outs := (s.eng g).outs.eraseIdx k, wait := if a.kind = 5 ∧ e.wait = 1 then 0 else e.wait }
        let s := if a.kind = 3 then s.rset RIL.EST (if r.2.2.2 && r.2.1 == .ok then setBit (s.rget RIL.EST g) 10 else clearBit (s.rget RIL.EST g) 10) g else s
        let s := if a.kind = 0 ∨ a.kind = 2 ∨ a.kind = 4 then
            (if r.2.1 = .ok then s.rilLoaded g a r.2.2.1 else if r.2.1.poisoned then s.rilLoaded g a [] else s)
          else s
        let s := if r.2.1 ≠ .ok ∧ s.rilActive g then
            (match rilCause a with
             | some c => s.rilFault g c (s.rget RIL.EPC g) a.addr
             | none => s)
          else s
        s.rilAfter g

/-- R365: a load, SC, AMO, FLUSH or CSR store of an engine returns (DESIGN CHOICE, log entry 33). -/
def execRillAccessReturn (g : EngId) (k : Fin 64) (guest : Guest) (s : State) : Result :=
  .next (if s.time.tclk then s.rilReturn g k guest else s)

end Sys2Proof.Machine
end

