-- ==== Sys2Proof/Machine/Dispatch.lean ====
section
/-! DEFINITION. The dispatch of the commands to their meanings: one arm per constructor. -/
namespace Sys2Proof.Machine

def exec (i : Instr) (s : State) : Host.Outcome State Fault Refusal :=
  match i with
  | .registerWrite o bytes src guest => Sys2Proof.Machine.execRegisterWrite o bytes src guest s
  | .bar4WindowSelect v => Sys2Proof.Machine.execBar4WindowSelect v s
  | .serviceEntry => Sys2Proof.Machine.execServiceEntry s
  | .recoveryAccessEntry => Sys2Proof.Machine.execRecoveryAccessEntry s
  | .pllEnable q b => Sys2Proof.Machine.execPllEnable q b s
  | .pllDisable q b => Sys2Proof.Machine.execPllDisable q b s
  | .pllDividerWrite q b f v => Sys2Proof.Machine.execPllDividerWrite q b f v s
  | .pllLock q b => Sys2Proof.Machine.execPllLock q b s
  | .pllUnlock q b => Sys2Proof.Machine.execPllUnlock q b s
  | .laneEnable l v => Sys2Proof.Machine.execLaneEnable l v s
  | .laneDisable l => Sys2Proof.Machine.execLaneDisable l s
  | .calDone l => Sys2Proof.Machine.execCalDone l s
  | .acqComplete l a => Sys2Proof.Machine.execAcqComplete l a s
  | .acqTimeout l => Sys2Proof.Machine.execAcqTimeout l s
  | .lossOfSignal l clock => Sys2Proof.Machine.execLossOfSignal l clock s
  | .adaptLimitHold l => Sys2Proof.Machine.execAdaptLimitHold l s
  | .txfirStage l v => Sys2Proof.Machine.execTxfirStage l v s
  | .txfirCommit l v => Sys2Proof.Machine.execTxfirCommit l v s
  | .rxeqWrite l r v => Sys2Proof.Machine.execRxeqWrite l r v s
  | .trainRequest l t => Sys2Proof.Machine.execTrainRequest l t s
  | .rxcal l src intr e => Sys2Proof.Machine.execRxcal l src intr e s
  | .fullCal l src intr e => Sys2Proof.Machine.execFullCal l src intr e s
  | .readapt l src intr e => Sys2Proof.Machine.execReadapt l src intr e s
  | .queuedCalStart l => Sys2Proof.Machine.execQueuedCalStart l s
  | .loopSelect l m => Sys2Proof.Machine.execLoopSelect l m s
  | .portEnable l v => Sys2Proof.Machine.execPortEnable l v s
  | .portDisable l => Sys2Proof.Machine.execPortDisable l s
  | .wrawBlockReceive l hdr payload => Sys2Proof.Machine.execWrawBlockReceive l hdr payload s
  | .autonegResolved a partner prec => Sys2Proof.Machine.execAutonegResolved a partner prec s
  | .pcieRateChange a r => Sys2Proof.Machine.execPcieRateChange a r s
  | .trainingFrameReceive l cell marker => Sys2Proof.Machine.execTrainingFrameReceive l cell marker s
  | .trainingFrameSend l req ready => Sys2Proof.Machine.execTrainingFrameSend l req ready s
  | .trainNoFrameTimeout l => Sys2Proof.Machine.execTrainNoFrameTimeout l s
  | .trainTmaxTimeout l => Sys2Proof.Machine.execTrainTmaxTimeout l s
  | .fabricTrainStrobe l pre3 pre2 pre1 main post1 post2 => Sys2Proof.Machine.execFabricTrainStrobe l pre3 pre2 pre1 main post1 post2 s
  | .fabricTrainDone l => Sys2Proof.Machine.execFabricTrainDone l s
  | .fabricTrainFail l => Sys2Proof.Machine.execFabricTrainFail l s
  | .prbsInject l => Sys2Proof.Machine.execPrbsInject l s
  | .prbsClear l => Sys2Proof.Machine.execPrbsClear l s
  | .prbsCheck l b => Sys2Proof.Machine.execPrbsCheck l b s
  | .eyeScanStart l src v => Sys2Proof.Machine.execEyeScanStart l src v s
  | .eyeColumnDone l counts => Sys2Proof.Machine.execEyeColumnDone l counts s
  | .histClear l => Sys2Proof.Machine.execHistClear l s
  | .cfeEnable l v => Sys2Proof.Machine.execCfeEnable l v s
  | .cfeCounterClear l v => Sys2Proof.Machine.execCfeCounterClear l v s
  | .cfeFrame l f => Sys2Proof.Machine.execCfeFrame l f s
  | .recordJudge l => Sys2Proof.Machine.execRecordJudge l s
  | .gapEmit l => Sys2Proof.Machine.execGapEmit l s
  | .segmentLend l => Sys2Proof.Machine.execSegmentLend l s
  | .segmentClose l => Sys2Proof.Machine.execSegmentClose l s
  | .segmentDrain => Sys2Proof.Machine.execSegmentDrain s
  | .segmentReturn ix => Sys2Proof.Machine.execSegmentReturn ix s
  | .laneShareWrite l v => Sys2Proof.Machine.execLaneShareWrite l v s
  | .cisternArm c src v => Sys2Proof.Machine.execCisternArm c src v s
  | .cisternDisarm c src v => Sys2Proof.Machine.execCisternDisarm c src v s
  | .swstart c src v => Sys2Proof.Machine.execSwstart c src v s
  | .swstop c src v => Sys2Proof.Machine.execSwstop c src v s
  | .floatPulse m => Sys2Proof.Machine.execFloatPulse m s
  | .softwareFloat hi v => Sys2Proof.Machine.execSoftwareFloat hi v s
  | .sequencerEnable v => Sys2Proof.Machine.execSequencerEnable v s
  | .sequencerDisable v => Sys2Proof.Machine.execSequencerDisable v s
  | .eventTransition => Sys2Proof.Machine.execEventTransition s
  | .timerTransition => Sys2Proof.Machine.execTimerTransition s
  | .cfeStopAck l => Sys2Proof.Machine.execCfeStopAck l s
  | .cisternPublish c => Sys2Proof.Machine.execCisternPublish c s
  | .floatStampCapture => Sys2Proof.Machine.execFloatStampCapture s
  | .furrowOwnSelect l own => Sys2Proof.Machine.execFurrowOwnSelect l own s
  | .furrowLoad l => Sys2Proof.Machine.execFurrowLoad l s
  | .furrowLoadDone l => Sys2Proof.Machine.execFurrowLoadDone l s
  | .furrowArm l => Sys2Proof.Machine.execFurrowArm l s
  | .furrowPrimed l => Sys2Proof.Machine.execFurrowPrimed l s
  | .furrowGo l => Sys2Proof.Machine.execFurrowGo l s
  | .furrowStop l => Sys2Proof.Machine.execFurrowStop l s
  | .furrowAbort l => Sys2Proof.Machine.execFurrowAbort l s
  | .furrowDisarm l => Sys2Proof.Machine.execFurrowDisarm l s
  | .furrowLaunch l => Sys2Proof.Machine.execFurrowLaunch l s
  | .furrowDone l => Sys2Proof.Machine.execFurrowDone l s
  | .furrowSourceError l => Sys2Proof.Machine.execFurrowSourceError l s
  | .furNop l => Sys2Proof.Machine.execFurNop l s
  | .furSend l data => Sys2Proof.Machine.execFurSend l data s
  | .furRepeat l => Sys2Proof.Machine.execFurRepeat l s
  | .waitTime l => Sys2Proof.Machine.execWaitTime l s
  | .waitTimeElapsed l => Sys2Proof.Machine.execWaitTimeElapsed l s
  | .waitFloat l => Sys2Proof.Machine.execWaitFloat l s
  | .waitFloatTimeout l => Sys2Proof.Machine.execWaitFloatTimeout l s
  | .jump l => Sys2Proof.Machine.execJump l s
  | .loop l => Sys2Proof.Machine.execLoop l s
  | .insertCounter l => Sys2Proof.Machine.execInsertCounter l s
  | .insertTimestamp l => Sys2Proof.Machine.execInsertTimestamp l s
  | .recomputeFcs l => Sys2Proof.Machine.execRecomputeFcs l s
  | .inject l => Sys2Proof.Machine.execInject l s
  | .furHalt l => Sys2Proof.Machine.execFurHalt l s
  | .frameStart l => Sys2Proof.Machine.execFrameStart l s
  | .underrun l mid => Sys2Proof.Machine.execUnderrun l mid s
  | .tclkLost => Sys2Proof.Machine.execTclkLost s
  | .tclkRestored => Sys2Proof.Machine.execTclkRestored s
  | .dtcSnapshot mc => Sys2Proof.Machine.execDtcSnapshot mc s
  | .dtcSet => Sys2Proof.Machine.execDtcSet s
  | .dtcAdj => Sys2Proof.Machine.execDtcAdj s
  | .dtcApply => Sys2Proof.Machine.execDtcApply s
  | .dtcIncrCommit v => Sys2Proof.Machine.execDtcIncrCommit v s
  | .beacon n flight bad => Sys2Proof.Machine.execBeacon n flight bad s
  | .delay n t1 s2 s3 t4 bad => Sys2Proof.Machine.execDelay n t1 s2 s3 t4 bad s
  | .timeCalRequest n src v => Sys2Proof.Machine.execTimeCalRequest n src v s
  | .timeCalDone n temp => Sys2Proof.Machine.execTimeCalDone n temp s
  | .ptpMessage m => Sys2Proof.Machine.execPtpMessage m s
  | .servoHoldover => Sys2Proof.Machine.execServoHoldover s
  | .ppsInEdge => Sys2Proof.Machine.execPpsInEdge s
  | .ppsiCaptureStart => Sys2Proof.Machine.execPpsiCaptureStart s
  | .ppsiCaptureTimeout => Sys2Proof.Machine.execPpsiCaptureTimeout s
  | .ppsOutRise => Sys2Proof.Machine.execPpsOutRise s
  | .ppsOutFall => Sys2Proof.Machine.execPpsOutFall s
  | .rd t src oc addr len h => Sys2Proof.Machine.execRd t src oc addr len h s
  | .wr t src oc addr len pois data h => Sys2Proof.Machine.execWr t src oc addr len pois data h s
  | .amo t src oc addr len aop data h => Sys2Proof.Machine.execAmo t src oc addr len aop data h s
  | .flush t src oc h => Sys2Proof.Machine.execFlush t src oc h s
  | .pwrPost src oc addr len pois data h => Sys2Proof.Machine.execPwr src oc addr len pois data h s
  | .rdata own t h => Sys2Proof.Machine.execRdata own t h s
  | .cpl own t h => Sys2Proof.Machine.execCpl own t h s
  | .crd t src x len h => Sys2Proof.Machine.execCrd t src x len h s
  | .cwr t src x len data h => Sys2Proof.Machine.execCwr t src x len data h s
  | .crsp own t guest h => Sys2Proof.Machine.execCrsp own t guest h s
  | .audit p vc free => Sys2Proof.Machine.execAudit p vc free s
  | .creditReturn up p vc => Sys2Proof.Machine.execCreditReturn up p vc s
  | .tagTimeout t => Sys2Proof.Machine.execTagTimeout t s
  | .quarantineEnd t => Sys2Proof.Machine.execQuarantineEnd t s
  | .fenceWalkStep => Sys2Proof.Machine.execFenceWalkStep s
  | .shareWindowStart u => Sys2Proof.Machine.execShareWindowStart u s
  | .shareTableWrite upl p r v => Sys2Proof.Machine.execShareTableWrite upl p r v s
  | .shareMapWrite d ix v => Sys2Proof.Machine.execShareMapWrite d ix v s
  | .quotaWrite d v => Sys2Proof.Machine.execQuotaWrite d v s
  | .canalCounterClear v => Sys2Proof.Machine.execCanalCounterClear v s
  | .replay n m atField again => Sys2Proof.Machine.execReplay n m atField again s
  | .moduleRetrain ix m lost => Sys2Proof.Machine.execModuleRetrain ix m lost s
  | .retrainCommand ix m => Sys2Proof.Machine.execRetrainCommand ix m s
  | .retrainLaneTestDone n m hw fd => Sys2Proof.Machine.execRetrainLaneTestDone n m hw fd s
  | .wreport n m => Sys2Proof.Machine.execWreport n m s
  | .width n m => Sys2Proof.Machine.execWidth n m s
  | .adopt n m => Sys2Proof.Machine.execAdopt n m s
  | .unable n m => Sys2Proof.Machine.execUnable n m s
  | .widthReplyTimeout n m => Sys2Proof.Machine.execWidthReplyTimeout n m s
  | .retrainComplete n m => Sys2Proof.Machine.execRetrainComplete n m s
  | .rollCallStart => Sys2Proof.Machine.execRollCallStart s
  | .sidebandUp n ok => Sys2Proof.Machine.execSidebandUp n ok s
  | .roll n dtype rev strap serial rep => Sys2Proof.Machine.execRoll n dtype rev strap serial rep s
  | .modulesTrained n hw fd => Sys2Proof.Machine.execModulesTrained n hw fd s
  | .key n ok => Sys2Proof.Machine.execKey n ok s
  | .fieldReady n => Sys2Proof.Machine.execFieldReady n s
  | .admitTimeout n => Sys2Proof.Machine.execAdmitTimeout n s
  | .heartbeatLoss n => Sys2Proof.Machine.execHeartbeatLoss n s
  | .alarmLow n => Sys2Proof.Machine.execAlarmLow n s
  | .alarmCause n c => Sys2Proof.Machine.execAlarmCause n c s
  | .fence n => Sys2Proof.Machine.execFence n s
  | .swFence ix => Sys2Proof.Machine.execSwFence ix s
  | .turnoutTrain t g => Sys2Proof.Machine.execTurnoutTrain t g s
  | .turnoutUnit t m b => Sys2Proof.Machine.execTurnoutUnit t m b s
  | .turnoutLinkTimeout t => Sys2Proof.Machine.execTurnoutLinkTimeout t s
  | .loopbackTest n m near => Sys2Proof.Machine.execLoopbackTest n m near s
  | .loopbackDone n m errs bad => Sys2Proof.Machine.execLoopbackDone n m errs bad s
  | .hbmCommandIssue m p rfm retry => Sys2Proof.Machine.execHbmCommandIssue m p rfm retry s
  | .refreshDue m p => Sys2Proof.Machine.execRefreshDue m p s
  | .rowIdleClose m p b => Sys2Proof.Machine.execRowIdleClose m p b s
  | .hbmTempRead m t => Sys2Proof.Machine.execHbmTempRead m t s
  | .shadowWrite m r v => Sys2Proof.Machine.execShadowWrite m r v s
  | .freqChange m v => Sys2Proof.Machine.execFreqChange m v s
  | .freqChangeDone m => Sys2Proof.Machine.execFreqChangeDone m s
  | .hbmTrain m t => Sys2Proof.Machine.execHbmTrain m t s
  | .helperCa m pc all => Sys2Proof.Machine.execHelperCa m pc all s
  | .helperRd m pc all => Sys2Proof.Machine.execHelperRd m pc all s
  | .helperWrrd m pc all => Sys2Proof.Machine.execHelperWrrd m pc all s
  | .helperWdqs m pc all => Sys2Proof.Machine.execHelperWdqs m pc all s
  | .helperDone m dq extra ca cnt => Sys2Proof.Machine.execHelperDone m dq extra ca cnt s
  | .hbmFreeze m cause p ix bank row => Sys2Proof.Machine.execHbmFreeze m cause p ix bank row s
  | .qdrTrainDone n fail res => Sys2Proof.Machine.execQdrTrainDone n fail res s
  | .qdrFreeze n portB write client addr => Sys2Proof.Machine.execQdrFreeze n portB write client addr s
  | .qdrUserRequest n portB we addr data ready other => Sys2Proof.Machine.execQdrUserRequest n portB we addr data ready other s
  | .walkStep k => Sys2Proof.Machine.execWalkStep k s
  | .walkerWriteBack k => Sys2Proof.Machine.execWalkerWriteBack k s
  | .walkEpoch k => Sys2Proof.Machine.execWalkEpoch k s
  | .check u mem e src => Sys2Proof.Machine.execCheck u mem e src s
  | .scrub u mem e src => Sys2Proof.Machine.execScrub u mem e src s
  | .init u mem e src => Sys2Proof.Machine.execInit u mem e src s
  | .rangePassStep u => Sys2Proof.Machine.execRangePassStep u s
  | .regionCodeWrite b ix v => Sys2Proof.Machine.execRegionCodeWrite b ix v s
  | .frameScan n f p => Sys2Proof.Machine.execFrameScan n f p s
  | .tmrVote u ofs lo => Sys2Proof.Machine.execTmrVote u ofs lo s
  | .fabricFloatOut n j => Sys2Proof.Machine.execFabricFloatOut n j s
  | .userRegIn n ix v => Sys2Proof.Machine.execUserRegIn n ix v s
  | .userRegOut n ix v p => Sys2Proof.Machine.execUserRegOut n ix v p s
  | .fabricPllUnlock n ix => Sys2Proof.Machine.execFabricPllUnlock n ix s
  | .wclkLoss n => Sys2Proof.Machine.execWclkLoss n s
  | .basinAccess n r ix a b => Sys2Proof.Machine.execBasinAccess n r ix a b s
  | .reservoirRead ix p x len busy => Sys2Proof.Machine.execReservoirRead ix p x len busy s
  | .reservoirWrite ix c => Sys2Proof.Machine.execReservoirWrite ix c s
  | .reservoirLl ix p w h busy => Sys2Proof.Machine.execReservoirLl ix p w h busy s
  | .reservoirSc ix p w h data busy => Sys2Proof.Machine.execReservoirSc ix p w h data busy s
  | .reservoirFetch ix p x len busy => Sys2Proof.Machine.execReservoirFetch ix p x len busy s
  | .reservoirLock ix => Sys2Proof.Machine.execReservoirLock ix s
  | .engineStart g entry => Sys2Proof.Machine.execEngineStart g entry s
  | .engineReset g entry => Sys2Proof.Machine.execEngineReset g entry s
  | .engineResetDone g => Sys2Proof.Machine.execEngineResetDone g s
  | .engineResetWedged g => Sys2Proof.Machine.execEngineResetWedged g s
  | .patchLoad k v => Sys2Proof.Machine.execPatchLoad k v s
  | .patchLoadDone k => Sys2Proof.Machine.execPatchLoadDone k s
  | .watchdogExpiry g => Sys2Proof.Machine.execWatchdogExpiry g s
  | .clusterClockStop k => Sys2Proof.Machine.execClusterClockStop k s
  | .xyExternalAccess g forced => Sys2Proof.Machine.execXyExternalAccess g forced s
  | .rillNop g stall => Sys2Proof.Machine.execRillNop g stall s
  | .cmac g stall => Sys2Proof.Machine.execCmac g stall s
  | .dmac g stall => Sys2Proof.Machine.execDmac g stall s
  | .bfly g stall => Sys2Proof.Machine.execBfly g stall s
  | .aop g stall => Sys2Proof.Machine.execAop g stall s
  | .ast g stall => Sys2Proof.Machine.execAst g stall s
  | .calu g stall => Sys2Proof.Machine.execCalu g stall s
  | .ralu g stall => Sys2Proof.Machine.execRalu g stall s
  | .acs g stall => Sys2Proof.Machine.execAcs g stall s
  | .bexp g stall => Sys2Proof.Machine.execBexp g stall s
  | .scale g stall => Sys2Proof.Machine.execScale g stall s
  | .ldi g stall => Sys2Proof.Machine.execLdi g stall s
  | .movr g stall => Sys2Proof.Machine.execMovr g stall s
  | .stb g stall => Sys2Proof.Machine.execStb g stall s
  | .br g stall => Sys2Proof.Machine.execBr g stall s
  | .call g stall => Sys2Proof.Machine.execCall g stall s
  | .jmpr g stall => Sys2Proof.Machine.execJmpr g stall s
  | .doLoop g stall => Sys2Proof.Machine.execDo g stall s
  | .rillStop g stall => Sys2Proof.Machine.execRillStop g stall s
  | .wdr g stall => Sys2Proof.Machine.execWdr g stall s
  | .rillLoad g stall => Sys2Proof.Machine.execRillLoad g stall s
  | .store g stall => Sys2Proof.Machine.execStore g stall s
  | .rillLl g stall => Sys2Proof.Machine.execRillLl g stall s
  | .rillSc g stall => Sys2Proof.Machine.execRillSc g stall s
  | .rillAmo g stall => Sys2Proof.Machine.execRillAmo g stall s
  | .blk g stall => Sys2Proof.Machine.execBlk g stall s
  | .rillFlush g stall => Sys2Proof.Machine.execRillFlush g stall s
  | .bwait g stall => Sys2Proof.Machine.execBwait g stall s
  | .rillAccessReturn g k guest => Sys2Proof.Machine.execRillAccessReturn g k guest s
  | .blockTransferDone g => Sys2Proof.Machine.execBlockTransferDone g s
  | .linkTrain widths rates alt => Sys2Proof.Machine.execLinkTrain widths rates alt s
  | .linkDown => Sys2Proof.Machine.execLinkDown s
  | .perstAssert => Sys2Proof.Machine.execPerstAssert s
  | .perstRelease loader => Sys2Proof.Machine.execPerstRelease loader s
  | .hotReset => Sys2Proof.Machine.execHotReset s
  | .configRequest ready w write => Sys2Proof.Machine.execConfigRequest ready w write s
  | .decoderCommit base size iw ttype lock => Sys2Proof.Machine.execDecoderCommit base size iw ttype lock s
  | .bar0Read t x len h => Sys2Proof.Machine.execBar0Read t x len h s
  | .bar0Write t x data h => Sys2Proof.Machine.execBar0Write t x data h s
  | .bar4Read t x len h => Sys2Proof.Machine.execBar4Read t x len h s
  | .bar4Write x data h => Sys2Proof.Machine.execBar4Write x data h s
  | .memrd t l h => Sys2Proof.Machine.execMemrd t l h s
  | .memwr t l data h => Sys2Proof.Machine.execMemwr t l data h s
  | .ledgerEntryWrite ix ok => Sys2Proof.Machine.execLedgerEntryWrite ix ok s
  | .ledgerRelease v => Sys2Proof.Machine.execLedgerRelease v s
  | .mirrorEnable ring v => Sys2Proof.Machine.execMirrorEnable ring v s
  | .completionRingReset hi v => Sys2Proof.Machine.execCompletionRingReset hi v s
  | .ledgerVector ix => Sys2Proof.Machine.execLedgerVector ix s
  | .vectorArm v => Sys2Proof.Machine.execVectorArm v s
  | .getTimestamp p => Sys2Proof.Machine.execGetTimestamp p s
  | .setTimestamp p => Sys2Proof.Machine.execSetTimestamp p s
  | .getSupportedLogs p => Sys2Proof.Machine.execGetSupportedLogs p s
  | .getLog p => Sys2Proof.Machine.execGetLog p s
  | .getRollcall p => Sys2Proof.Machine.execGetRollcall p s
  | .getEvents p => Sys2Proof.Machine.execGetEvents p s
  | .copyCmd p => Sys2Proof.Machine.execCopy p s
  | .copyStep => Sys2Proof.Machine.execCopyStep s
  | .bundleBegin p => Sys2Proof.Machine.execBundleBegin p s
  | .bundleData p => Sys2Proof.Machine.execBundleData p s
  | .bundlePartWritten ok => Sys2Proof.Machine.execBundlePartWritten ok s
  | .bundleEnd p => Sys2Proof.Machine.execBundleEnd p s
  | .fieldLoadDone n us storeOk det => Sys2Proof.Machine.execFieldLoadDone n us storeOk det s
  | .releasePoint level => Sys2Proof.Machine.execReleasePoint level s
  | .syncTimeout => Sys2Proof.Machine.execSyncTimeout s
  | .startupStep n => Sys2Proof.Machine.execStartupStep n s
  | .parcelSwap n v src => Sys2Proof.Machine.execParcelSwap n v src s
  | .parcelDrained n => Sys2Proof.Machine.execParcelDrained n s
  | .parcelWritten n ok => Sys2Proof.Machine.execParcelWritten n ok s
  | .parcelActive n => Sys2Proof.Machine.execParcelActive n s
  | .parcelWedged n => Sys2Proof.Machine.execParcelWedged n s
  | .ownerEnrol v => Sys2Proof.Machine.execOwnerEnrol v s
  | .cancel => Sys2Proof.Machine.execCancel s
  | .abortStage => Sys2Proof.Machine.execAbort s
  | .settingsMigration ok => Sys2Proof.Machine.execSettingsMigration ok s
  | .confirm v => Sys2Proof.Machine.execConfirm v s
  | .trialWindowExpiry => Sys2Proof.Machine.execTrialWindowExpiry s
  | .wmOpen x seq p => Sys2Proof.Machine.execOpen x seq p s
  | .wmClose x seq sid p => Sys2Proof.Machine.execClose x seq sid p s
  | .wmPing x seq sid p => Sys2Proof.Machine.execPing x seq sid p s
  | .wmRd x seq sid p guest => Sys2Proof.Machine.execWmRd x seq sid p guest s
  | .wmWr x seq sid p guest => Sys2Proof.Machine.execWmWr x seq sid p guest s
  | .mrd x seq sid p => Sys2Proof.Machine.execMrd x seq sid p s
  | .mwr x seq sid p => Sys2Proof.Machine.execMwr x seq sid p s
  | .wmHalt x seq sid p => Sys2Proof.Machine.execWmHalt x seq sid p s
  | .wmResume x seq sid p => Sys2Proof.Machine.execWmResume x seq sid p s
  | .wmStep x seq sid p => Sys2Proof.Machine.execWmStep x seq sid p s
  | .rreg x seq sid p => Sys2Proof.Machine.execRreg x seq sid p s
  | .wreg x seq sid p => Sys2Proof.Machine.execWreg x seq sid p s
  | .wmLog x seq sid p => Sys2Proof.Machine.execLog x seq sid p s
  | .gunlock x seq sid p => Sys2Proof.Machine.execGunlock x seq sid p s
  | .mspGapTimeout => Sys2Proof.Machine.execMspGapTimeout s
  | .whcRequest guest => Sys2Proof.Machine.execWhcRequest guest s
  | .rspack => Sys2Proof.Machine.execRspack s
  | .evtack => Sys2Proof.Machine.execEvtack s
  | .peekRead die => Sys2Proof.Machine.execPeekRead die s
  | .debugUnitWrite n c u r v => Sys2Proof.Machine.execDebugUnitWrite n c u r v s
  | .engineHalt g => Sys2Proof.Machine.execEngineHalt g s
  | .engineResume g => Sys2Proof.Machine.execEngineResume g s
  | .engineStep g => Sys2Proof.Machine.execEngineStep g s
  | .haltDeferTimeout g => Sys2Proof.Machine.execHaltDeferTimeout g s
  | .stimulusWrite n e p v => Sys2Proof.Machine.execStimulusWrite n e p v s
  | .fabricStimulus n port size data => Sys2Proof.Machine.execFabricStimulus n port size data s
  | .tracePacketWrite u => Sys2Proof.Machine.execTracePacketWrite u s
  | .traceEnable u v => Sys2Proof.Machine.execTraceEnable u v s
  | .gaugeChallenge => Sys2Proof.Machine.execGaugeChallenge s
  | .gaugeUnlock => Sys2Proof.Machine.execGaugeUnlock s
  | .relock => Sys2Proof.Machine.execRelock s
  | .gaugeExpiry => Sys2Proof.Machine.execGaugeExpiry s
  | .gaugeSelect ix v => Sys2Proof.Machine.execGaugeSelect ix v s
  | .bypass die => Sys2Proof.Machine.execBypass die s
  | .idcode die => Sys2Proof.Machine.execIdcode die s
  | .samplePreload die captured shifted => Sys2Proof.Machine.execSamplePreload die captured shifted s
  | .extest die => Sys2Proof.Machine.execExtest die s
  | .extestPulse die => Sys2Proof.Machine.execExtestPulse die s
  | .extestTrain die => Sys2Proof.Machine.execExtestTrain die s
  | .clamp die => Sys2Proof.Machine.execClamp die s
  | .highz die => Sys2Proof.Machine.execHighz die s
  | .standalone die => Sys2Proof.Machine.execStandalone die s
  | .lbresult die errs => Sys2Proof.Machine.execLbresult die errs s
  | .testEnChange level => Sys2Proof.Machine.execTestEnChange level s
  | .dormant key => Sys2Proof.Machine.execDormant key s
  | .fallow n key => Sys2Proof.Machine.execFallow n key s
  | .fallowAtpkrWrite v => Sys2Proof.Machine.execFallowAtpkrWrite v s
  | .dwake => Sys2Proof.Machine.execDwake s
  | .wakeTimer => Sys2Proof.Machine.execWakeTimer s
  | .hbmOpChange v => Sys2Proof.Machine.execHbmOpChange v s
  | .quadGate q => Sys2Proof.Machine.execQuadGate q s
  | .quadWake l k v => Sys2Proof.Machine.execQuadWake l k v s
  | .bankGate ix b => Sys2Proof.Machine.execBankGate ix b s
  | .sensorRead r => Sys2Proof.Machine.execSensorRead r s
  | .fieldTrip n => Sys2Proof.Machine.execFieldTrip n s
  | .packageTrip => Sys2Proof.Machine.execPackageTrip s
  | .powerLimit => Sys2Proof.Machine.execPowerLimit s
  | .supplyWarn die ch => Sys2Proof.Machine.execSupplyWarn die ch s
  | .brownOut die ch => Sys2Proof.Machine.execBrownOut die ch s
  | .por ball slow reff => Sys2Proof.Machine.execPor ball slow reff s
  | .pkrRelease loader ok => Sys2Proof.Machine.execPkrRelease loader ok s
  | .packageResetCommand v => Sys2Proof.Machine.execPackageResetCommand v s
  | .mcWatchdog => Sys2Proof.Machine.execMcWatchdog s
  | .refclkLost => Sys2Proof.Machine.execRefclkLost s
  | .hbmClockLost m p ix bank row => Sys2Proof.Machine.execHbmClockLost m p ix bank row s
  | .flumeClockLost ix => Sys2Proof.Machine.execFlumeClockLost ix s
  | .ethBlockReceive l e => Sys2Proof.Machine.execEthBlockReceive l e s
  | .pcieBlockReceive l e => Sys2Proof.Machine.execPcieBlockReceive l e s
  | .ieeeTrainingFrameReceive l e => Sys2Proof.Machine.execIeeeTrainingFrameReceive l e s
  | .holdoffExpiry => Sys2Proof.Machine.execHoldoffExpiry s
  | .automaticInitRegionDone b => Sys2Proof.Machine.execAutomaticInitRegionDone b s
  | .fabricPllLock n ix => Sys2Proof.Machine.execFabricPllLock n ix s
  | .fabricPllLockTimeout n => Sys2Proof.Machine.execFabricPllLockTimeout n s
  | .wclkRestored n => Sys2Proof.Machine.execWclkRestored n s

end Sys2Proof.Machine
end

