-- ==== Sys2Proof/Safety.lean ====
section
/-! DEFINITION. What the statements call a good state: an outcome that is a next state, the plain issue of a Rill instruction,
and the invariant of the model's own books. -/
namespace Sys2Proof.Machine

/-- The outcome is a next state. -/
def Completes (r : Result) : Prop := ∃ t, r = .next t

/-- R349, R365, R378, R381, R471: engine g runs with word w, which is legal, at PC pc, nothing makes it wait, it does not end a loop that it
may not end, and no comparator matches the PC. -/
def State.rilPlain (s : State) (g pc w : Nat) : Bool :=
  s.rget RIL.ESTAT_STATE g == 1 && s.rget RIL.EPC g == pc && decide (pc < 0x4100) && s.fetch g pc == w && rilLegal w pc &&
  !s.rilBlocked g && !(endBarred w && (s.eng g).loops.any fun l => l.last == pc) && ((s.eng g).skip || (s.duHits g 0 pc 0).isEmpty)

/-- R371: a compute word without moves. -/
def rilNoMoves (w : Nat) : Bool := bitsOf w 20 2 == 0 && bitsOf w 9 2 == 0

/-- R369: the engine, the cycles of holding and the opcode of a Rill instruction row. -/
def rilRowOf : Instr → Option (EngId × Nat × Nat)
  | .rillNop g h => some (g, h, 0x00)
  | .cmac g h => some (g, h, 0x01)
  | .dmac g h => some (g, h, 0x02)
  | .bfly g h => some (g, h, 0x03)
  | .aop g h => some (g, h, 0x04)
  | .ast g h => some (g, h, 0x05)
  | .calu g h => some (g, h, 0x06)
  | .ralu g h => some (g, h, 0x07)
  | .acs g h => some (g, h, 0x08)
  | .bexp g h => some (g, h, 0x09)
  | .scale g h => some (g, h, 0x0A)
  | .ldi g h => some (g, h, 0x20)
  | .movr g h => some (g, h, 0x21)
  | .stb g h => some (g, h, 0x22)
  | .br g h => some (g, h, 0x23)
  | .call g h => some (g, h, 0x24)
  | .jmpr g h => some (g, h, 0x25)
  | .doLoop g h => some (g, h, 0x26)
  | .rillStop g h => some (g, h, 0x27)
  | .wdr g h => some (g, h, 0x28)
  | .rillLoad g h => some (g, h, 0x29)
  | .store g h => some (g, h, 0x2A)
  | .rillLl g h => some (g, h, 0x2B)
  | .rillSc g h => some (g, h, 0x2C)
  | .rillAmo g h => some (g, h, 0x2D)
  | .blk g h => some (g, h, 0x2E)
  | .rillFlush g h => some (g, h, 0x2F)
  | .bwait g h => some (g, h, 0x30)
  | _ => none

/-- R374, R378, R385: after a compute instruction without moves at pc: its accumulators, ST, BE and registers, the next PC and
the cycles. -/
def State.rilWrote (s : State) (g pc next : Nat) (r : RilOut) : State :=
  ((r.d.foldl (fun s x => s.setEng g ((s.eng g).setReg x.1 x.2))
    (((s.setEng g r.eng).rset RIL.EST r.st g).rset RIL.EBE r.be g)).rset RIL.EPC next g).rilClose g pc 1 []

/-- R362, R376, R378, R385: after a control or memory instruction at pc that leaves the state t, of n cycles: the next PC, and the stores that
nothing holds back. -/
def State.rilWent (t : State) (g pc next n : Nat) : State := ((t.rset RIL.EPC next g).settle g 40).rilClose g pc n []

/-- The memory is in its one canonical form: addresses strictly rising, and no byte listed that reads as an unlisted one. -/
def Memory.wf (s : State) : Bool := Store.sorted s.mem && s.mem.all fun e => decide (e.2 ≠ s.memDefault e.1)

/-- The records bear the numbers n, n + 1, ... in the order of the log. -/
def numbered : Nat → List Event → Bool
  | _, [] => true
  | n, e :: t => e.seq == n && numbered (n + 1) t

/-- R479: the log holds at most 131,072 records, and they are the newest: the last numbers given, without a gap. -/
def logWf (l : List Event) (n : Nat) : Bool := decide (l.length ≤ logCapacity ∧ l.length ≤ n) && numbered (n - l.length) l

/-- The invariant of the model's books: the register store lists no field twice, the memory and the check bits are in canonical
form, the event log holds the newest records (R479), and no tag is in use twice (R193). -/
def State.inv (s : State) : Bool :=
  Store.sorted s.csr && Memory.wf s && Store.wf 0 s.chk && logWf s.events s.evSeq && Store.sorted s.tags

/-! What the statements say of words, records and regions. -/

/-- R270: a word stored with its check field under a code, with the bits at the given places turned over (0 to 63 the data bits, from 64
the check bits): what is stored as data, and the XOR of its stored check field with the one computed from it. -/
def damaged (code data : Nat) (flips : List Nat) : Nat × Nat :=
  let d := flips.foldl (fun d i => if i < 64 then d ^^^ 2 ^ i else d) data
  let c := flips.foldl (fun c i => if i < 64 then c else c ^^^ 2 ^ (i - 64)) (checkOf code data)
  (d, c ^^^ checkOf code d)

/-- R479: a record of a CODE and DIE was written less than a second ago. -/
def State.logLimited (s : State) (code die : Nat) : Bool :=
  let b := Store.get {} (code * 16 + die) s.evBook
  b.written && decide (b.lastTs ≤ s.now) && decide (s.now < b.lastTs + secUnits)

/-- R271, R275: the code of the region that holds a DPA, whatever its state. -/
def State.codeAt (s : State) (a : Nat) : Nat :=
  match placeOf a with
  | some .scratch => 2
  | some (.rill _) => 1
  | _ => match regionOf a with
    | some r => (s.regionGet r).1
    | none => 0

/-! Kinds of state, and what a command may change. -/

/-- The kinds of state beside the registers and the queue. -/
inductive StateKind
  /-- R30: the bytes of the memories, their check bits and the regions of undefined contents -/
  | memory
  /-- R341: the reservations -/
  | reservations
  /-- R411-R413: the seed stores and the settings -/
  | stores
  /-- R349, R421: code stores, patch RAM and what waits to be loaded there -/
  | programs
  /-- R347: the Rill engines: their registers, loops and accesses -/
  | engines
  /-- R190-R196, R279: tags, requests that wait at a target, responses owed, audits due, and fence walks -/
  | requests
  /-- R183, R194, R201: the requests that wait at ingress -/
  | ingress
  /-- R183, R200, R201: what is left of the shares, credits spent, and the turns of the arbiters -/
  | shares
  /-- R241-R253: the queues, counters and training of the HBM controllers -/
  | hbm
  /-- R261-R264: the accesses of user logic that wait in the QDR controllers -/
  | qdr
  /-- R280-R287: walkers, range passes and automatic INITs -/
  | walkers
  /-- R205-R229: Flume modules, turnouts, swaps and the crossbar map -/
  | flume
  /-- R217, R295-R325: basin blocks, the fabric of each field and its user logic, wire values under way, and drains -/
  | fabric
  /-- R47-R100: lanes and ports -/
  | lanes
  /-- R105-R132: capture front-ends, cisterns, closed segments, channel tables and floats -/
  | capture
  /-- R133-R151: the Furrow sequencers -/
  | sequencers
  /-- R155-R170: the DTC and its slaves, and the time that has passed -/
  | clocks
  /-- R398: the operations of the ledger -/
  | ledger
  /-- R479: the event log -/
  | log
  /-- R386-R410: the CXL port and the copy engine -/
  | host
  /-- R462-R484: Watermaster, gauge mux, test access and trace rings -/
  | debug
  /-- R414-R457, R490-R513: roll call and resets, updates, and power -/
  | management
  /-- what the part has sent -/
  | outputs
  /-- the response to the last access -/
  | answer
  /-- the model's own counter of open values -/
  | counter
  deriving DecidableEq, Repr

/-- t has the state of a kind that s has. -/
def State.same (g : StateKind) (s t : State) : Prop :=
  match g with
  | .memory => (t.mem, t.chk, t.fog) = (s.mem, s.chk, s.fog)
  | .reservations => t.resv = s.resv
  | .stores => (t.stores, t.settings) = (s.stores, s.settings)
  | .programs => (t.code, t.patchRam, t.loaders) = (s.code, s.patchRam, s.loaders)
  | .engines => t.engs = s.engs
  | .requests => (t.tags, t.nextOrd, t.waiting, t.owed, t.unaudited, t.walk, t.walkTag) =
    (s.tags, s.nextOrd, s.waiting, s.owed, s.unaudited, s.walk, s.walkTag)
  | .ingress => t.ingress = s.ingress
  | .shares => (t.remain, t.upSpent, t.served) = (s.remain, s.upSpent, s.served)
  | .hbm => t.hmcs = s.hmcs
  | .qdr => t.qdrs = s.qdrs
  | .walkers => (t.walkers, t.ranges, t.autoInit) = (s.walkers, s.ranges, s.autoInit)
  | .flume => (t.mods, t.turns, t.swaps, t.xbar) = (s.mods, s.turns, s.swaps, s.xbar)
  | .fabric => (t.basins, t.fields, t.fabs, t.pipes, t.draining) = (s.basins, s.fields, s.fabs, s.pipes, s.draining)
  | .lanes => (t.lanes, t.ports, t.pcs) = (s.lanes, s.ports, s.pcs)
  | .capture => (t.cfes, t.cists, t.closed, t.nextClosed, t.chan, t.flt) = (s.cfes, s.cists, s.closed, s.nextClosed, s.chan, s.flt)
  | .sequencers => t.furs = s.furs
  | .clocks => (t.time, t.slaves, t.elapsed) = (s.time, s.slaves, s.elapsed)
  | .ledger => t.ledg = s.ledg
  | .log => (t.events, t.evSeq, t.evBook) = (s.events, s.evSeq, s.evBook)
  | .host => (t.cxl, t.copy) = (s.cxl, s.copy)
  | .debug => (t.wm, t.gau, t.tap, t.rings) = (s.wm, s.gau, s.tap, s.rings)
  | .management => (t.boot, t.upd, t.pow) = (s.boot, s.upd, s.pow)
  | .outputs => t.out = s.out
  | .answer => t.resp = s.resp
  | .counter => t.free = s.free

/-- May a command change a kind of state? A command that writes an arbitrary register, sends a request to an arbitrary address or
causes a reset may change every kind. -/
def mayChange (g : StateKind) (c : Instr) : Bool :=
  match c with
  | .registerWrite .. => true
  | .bar4WindowSelect .. => g == .answer
  | .serviceEntry => false
  | .recoveryAccessEntry => false
  | .pllEnable .. => g == .answer
  | .pllDisable .. => [StateKind.fabric, .lanes, .capture, .sequencers, .ledger, .outputs, .answer].contains g
  | .pllDividerWrite .. => g == .answer
  | .pllLock .. => g == .lanes
  | .pllUnlock .. => [StateKind.fabric, .lanes, .capture, .sequencers, .ledger, .outputs].contains g
  | .laneEnable .. => [StateKind.fabric, .lanes, .capture, .sequencers, .ledger, .outputs, .answer].contains g
  | .laneDisable .. => [StateKind.fabric, .lanes, .capture, .sequencers, .ledger, .outputs, .answer].contains g
  | .calDone .. => [StateKind.lanes, .ledger, .outputs].contains g
  | .acqComplete .. => [StateKind.lanes, .ledger, .outputs].contains g
  | .acqTimeout .. => [StateKind.lanes, .ledger].contains g
  | .lossOfSignal .. => [StateKind.fabric, .lanes, .capture, .sequencers, .ledger, .outputs].contains g
  | .adaptLimitHold .. => false
  | .txfirStage .. => [StateKind.lanes, .answer].contains g
  | .txfirCommit .. => [StateKind.lanes, .answer].contains g
  | .rxeqWrite .. => g == .answer
  | .trainRequest .. => [StateKind.fabric, .lanes, .capture, .sequencers, .ledger, .outputs, .answer].contains g
  | .rxcal .. => [StateKind.fabric, .lanes, .capture, .sequencers, .ledger, .outputs, .answer].contains g
  | .fullCal .. => [StateKind.fabric, .lanes, .capture, .sequencers, .ledger, .outputs, .answer].contains g
  | .readapt .. => [StateKind.fabric, .lanes, .capture, .sequencers, .ledger, .outputs, .answer].contains g
  | .queuedCalStart .. => [StateKind.fabric, .lanes, .capture, .sequencers, .ledger, .outputs].contains g
  | .loopSelect .. => [StateKind.fabric, .lanes, .capture, .sequencers, .ledger, .outputs, .answer].contains g
  | .portEnable .. => [StateKind.lanes, .sequencers, .outputs, .answer].contains g
  | .portDisable .. => [StateKind.lanes, .sequencers, .outputs, .answer].contains g
  | .wrawBlockReceive .. => [StateKind.fabric, .lanes, .capture, .sequencers, .ledger, .outputs, .counter].contains g
  | .autonegResolved .. => [StateKind.fabric, .lanes, .capture, .sequencers, .ledger, .outputs].contains g
  | .pcieRateChange .. => [StateKind.fabric, .lanes, .capture, .sequencers, .ledger, .outputs].contains g
  | .trainingFrameReceive .. => g == .lanes
  | .trainingFrameSend .. => [StateKind.lanes, .outputs].contains g
  | .trainNoFrameTimeout .. => g == .lanes
  | .trainTmaxTimeout .. => g == .lanes
  | .fabricTrainStrobe .. => g == .outputs
  | .fabricTrainDone .. => g == .lanes
  | .fabricTrainFail .. => g == .lanes
  | .prbsInject .. => [StateKind.lanes, .answer].contains g
  | .prbsClear .. => g == .answer
  | .prbsCheck .. => [StateKind.lanes, .outputs].contains g
  | .eyeScanStart .. => [StateKind.lanes, .ledger, .answer].contains g
  | .eyeColumnDone .. => [StateKind.memory, .reservations, .requests, .shares, .hbm, .qdr, .walkers, .lanes, .ledger, .counter].contains g
  | .histClear .. => g == .answer
  | .cfeEnable .. => [StateKind.lanes, .capture, .answer].contains g
  | .cfeCounterClear .. => g == .answer
  | .cfeFrame .. => [StateKind.fabric, .lanes, .capture, .sequencers, .ledger, .outputs, .counter].contains g
  | .recordJudge .. => [StateKind.shares, .capture].contains g
  | .gapEmit .. => g == .capture
  | .segmentLend .. => g == .capture
  | .segmentClose .. => g == .capture
  | .segmentDrain => [StateKind.memory, .reservations, .requests, .ingress, .shares, .qdr, .walkers, .fabric, .lanes, .capture, .ledger, .counter].contains g
  | .segmentReturn .. => [StateKind.fabric, .capture, .ledger].contains g
  | .laneShareWrite .. => [StateKind.capture, .answer].contains g
  | .cisternArm .. => [StateKind.capture, .ledger, .answer].contains g
  | .cisternDisarm .. => [StateKind.capture, .ledger, .answer].contains g
  | .swstart .. => [StateKind.capture, .ledger, .answer].contains g
  | .swstop .. => [StateKind.capture, .ledger, .answer].contains g
  | .floatPulse .. => [StateKind.fabric, .capture, .sequencers, .ledger, .outputs].contains g
  | .softwareFloat .. => [StateKind.fabric, .capture, .sequencers, .ledger, .outputs, .answer].contains g
  | .sequencerEnable .. => [StateKind.capture, .answer].contains g
  | .sequencerDisable .. => [StateKind.capture, .answer].contains g
  | .eventTransition => [StateKind.capture, .ledger].contains g
  | .timerTransition => [StateKind.capture, .ledger].contains g
  | .cfeStopAck .. => [StateKind.capture, .ledger].contains g
  | .cisternPublish .. => [StateKind.capture, .ledger].contains g
  | .floatStampCapture => g == .answer
  | .furrowOwnSelect .. => g == .answer
  | .furrowLoad .. => g == .answer
  | .furrowLoadDone .. => [StateKind.memory, .reservations, .requests, .shares, .hbm, .qdr, .walkers, .lanes, .sequencers, .counter].contains g
  | .furrowArm .. => [StateKind.sequencers, .answer].contains g
  | .furrowPrimed .. => false
  | .furrowGo .. => [StateKind.sequencers, .answer].contains g
  | .furrowStop .. => [StateKind.sequencers, .answer].contains g
  | .furrowAbort .. => [StateKind.lanes, .sequencers, .outputs, .answer].contains g
  | .furrowDisarm .. => g == .answer
  | .furrowLaunch .. => g == .sequencers
  | .furrowDone .. => g == .sequencers
  | .furrowSourceError .. => [StateKind.lanes, .sequencers, .outputs].contains g
  | .furNop .. => g == .sequencers
  | .furSend .. => [StateKind.memory, .reservations, .requests, .shares, .hbm, .qdr, .walkers, .lanes, .sequencers, .outputs, .counter].contains g
  | .furRepeat .. => g == .sequencers
  | .waitTime .. => g == .sequencers
  | .waitTimeElapsed .. => g == .sequencers
  | .waitFloat .. => g == .sequencers
  | .waitFloatTimeout .. => g == .sequencers
  | .jump .. => g == .sequencers
  | .loop .. => g == .sequencers
  | .insertCounter .. => g == .sequencers
  | .insertTimestamp .. => g == .sequencers
  | .recomputeFcs .. => g == .sequencers
  | .inject .. => g == .sequencers
  | .furHalt .. => g == .sequencers
  | .frameStart .. => [StateKind.lanes, .sequencers, .counter].contains g
  | .underrun .. => [StateKind.lanes, .sequencers, .outputs].contains g
  | .tclkLost => [StateKind.clocks, .counter].contains g
  | .tclkRestored => [StateKind.clocks, .counter].contains g
  | .dtcSnapshot .. => g == .answer
  | .dtcSet => [StateKind.clocks, .answer].contains g
  | .dtcAdj => [StateKind.clocks, .answer].contains g
  | .dtcApply => g == .clocks
  | .dtcIncrCommit .. => [StateKind.clocks, .answer].contains g
  | .beacon _ _ bad => bad || g == .clocks
  | .delay .. => false
  | .timeCalRequest .. => [StateKind.clocks, .ledger, .answer].contains g
  | .timeCalDone .. => [StateKind.clocks, .ledger].contains g
  | .ptpMessage .. => [StateKind.clocks, .outputs, .counter].contains g
  | .servoHoldover => g == .clocks
  | .ppsInEdge => [StateKind.clocks, .counter].contains g
  | .ppsiCaptureStart => [StateKind.clocks, .answer].contains g
  | .ppsiCaptureTimeout => g == .clocks
  | .ppsOutRise => g == .clocks
  | .ppsOutFall => g == .clocks
  | .rd .. => true
  | .wr .. => true
  | .amo .. => true
  | .flush .. => true
  | .pwrPost .. => true
  | .rdata .. => true
  | .cpl .. => true
  | .crd .. => true
  | .cwr .. => true
  | .crsp .. => true
  | .audit .. => true
  | .creditReturn .. => true
  | .tagTimeout .. => true
  | .quarantineEnd .. => true
  | .fenceWalkStep => true
  | .shareWindowStart .. => g == .shares
  | .shareTableWrite .. => g == .answer
  | .shareMapWrite .. => g == .answer
  | .quotaWrite .. => true
  | .canalCounterClear .. => g == .answer
  | .replay .. => g == .flume
  | .moduleRetrain .. => [StateKind.requests, .flume, .fabric].contains g
  | .retrainCommand .. => [StateKind.requests, .flume, .fabric, .answer].contains g
  | .retrainLaneTestDone .. => g == .flume
  | .wreport .. => true
  | .width .. => g == .flume
  | .adopt .. => true
  | .unable .. => true
  | .widthReplyTimeout .. => true
  | .retrainComplete .. => [StateKind.flume, .fabric].contains g
  | .rollCallStart => true
  | .sidebandUp .. => true
  | .roll .. => true
  | .modulesTrained .. => true
  | .key .. => true
  | .fieldReady .. => true
  | .admitTimeout .. => true
  | .heartbeatLoss .. => true
  | .alarmLow .. => true
  | .alarmCause .. => false
  | .fence .. => [StateKind.lanes, .sequencers, .outputs].contains g
  | .swFence .. => true
  | .turnoutTrain .. => [StateKind.memory, .reservations, .requests, .qdr, .walkers, .flume, .fabric, .lanes, .capture, .ledger, .log, .debug, .counter].contains g
  | .turnoutUnit .. => [StateKind.flume, .outputs].contains g
  | .turnoutLinkTimeout .. => [StateKind.memory, .reservations, .requests, .qdr, .walkers, .flume, .fabric, .lanes, .capture, .ledger, .log, .debug, .counter].contains g
  | .loopbackTest .. => [StateKind.requests, .flume, .fabric, .answer].contains g
  | .loopbackDone .. => false
  | .hbmCommandIssue .. => [StateKind.memory, .reservations, .requests, .hbm, .qdr, .walkers, .lanes, .counter].contains g
  | .refreshDue .. => g == .lanes
  | .rowIdleClose .. => g == .lanes
  | .hbmTempRead .. => false
  | .shadowWrite .. => g == .answer
  | .freqChange .. => g == .answer
  | .freqChangeDone .. => [StateKind.memory, .reservations, .requests, .hbm, .qdr, .walkers, .lanes, .counter].contains g
  | .hbmTrain .. => [StateKind.hbm, .walkers, .log].contains g
  | .helperCa .. => [StateKind.hbm, .answer].contains g
  | .helperRd .. => [StateKind.hbm, .answer].contains g
  | .helperWrrd .. => [StateKind.hbm, .answer].contains g
  | .helperWdqs .. => [StateKind.hbm, .answer].contains g
  | .helperDone .. => false
  | .hbmFreeze .. => [StateKind.walkers, .lanes, .capture, .ledger, .log, .debug].contains g
  | .qdrTrainDone .. => [StateKind.qdr, .walkers].contains g
  | .qdrFreeze .. => [StateKind.memory, .reservations, .requests, .qdr, .walkers, .lanes, .sequencers, .ledger, .outputs, .counter].contains g
  | .qdrUserRequest .. => [StateKind.memory, .reservations, .qdr, .walkers, .outputs, .answer, .counter].contains g
  | .walkStep .. => [StateKind.qdr, .walkers, .counter].contains g
  | .walkerWriteBack .. => [StateKind.memory, .qdr, .walkers, .counter].contains g
  | .walkEpoch .. => [StateKind.walkers, .counter].contains g
  | .check .. => [StateKind.walkers, .ledger, .answer].contains g
  | .scrub .. => [StateKind.walkers, .ledger, .answer].contains g
  | .init .. => [StateKind.walkers, .ledger, .answer].contains g
  | .rangePassStep .. => [StateKind.memory, .reservations, .requests, .qdr, .walkers, .ledger, .counter].contains g
  | .regionCodeWrite .. => [StateKind.memory, .answer, .counter].contains g
  | .frameScan .. => g == .fabric
  | .tmrVote .. => g == .log
  | .fabricFloatOut .. => [StateKind.fabric, .capture, .sequencers, .ledger, .outputs].contains g
  | .userRegIn .. => [StateKind.fabric, .outputs, .answer].contains g
  | .userRegOut .. => false
  | .fabricPllUnlock .. => false
  | .wclkLoss .. => g == .fabric
  | .basinAccess .. => [StateKind.fabric, .outputs].contains g
  | .reservoirRead .. => [StateKind.qdr, .walkers, .answer, .counter].contains g
  | .reservoirWrite .. => [StateKind.memory, .reservations, .walkers, .outputs, .answer, .counter].contains g
  | .reservoirLl .. => [StateKind.reservations, .qdr, .walkers, .answer, .counter].contains g
  | .reservoirSc .. => [StateKind.memory, .reservations, .qdr, .walkers, .answer, .counter].contains g
  | .reservoirFetch .. => [StateKind.qdr, .walkers, .answer, .counter].contains g
  | .reservoirLock .. => g == .answer
  | .engineStart .. => [StateKind.engines, .answer].contains g
  | .engineReset .. => [StateKind.engines, .answer].contains g
  | .engineResetDone .. => [StateKind.reservations, .engines].contains g
  | .engineResetWedged .. => g == .engines
  | .patchLoad .. => [StateKind.programs, .answer].contains g
  | .patchLoadDone .. => [StateKind.programs, .qdr, .walkers, .answer, .counter].contains g
  | .watchdogExpiry .. => [StateKind.reservations, .engines, .debug, .outputs, .counter].contains g
  | .clusterClockStop .. => false
  | .xyExternalAccess .. => [StateKind.reservations, .engines, .debug, .outputs, .counter].contains g
  | .rillNop .. => [StateKind.memory, .reservations, .engines, .requests, .shares, .hbm, .qdr, .walkers, .lanes, .debug, .outputs, .answer, .counter].contains g
  | .cmac .. => [StateKind.memory, .reservations, .engines, .requests, .shares, .hbm, .qdr, .walkers, .lanes, .debug, .outputs, .answer, .counter].contains g
  | .dmac .. => [StateKind.memory, .reservations, .engines, .requests, .shares, .hbm, .qdr, .walkers, .lanes, .debug, .outputs, .answer, .counter].contains g
  | .bfly .. => [StateKind.memory, .reservations, .engines, .requests, .shares, .hbm, .qdr, .walkers, .lanes, .debug, .outputs, .answer, .counter].contains g
  | .aop .. => [StateKind.memory, .reservations, .engines, .requests, .shares, .hbm, .qdr, .walkers, .lanes, .debug, .outputs, .answer, .counter].contains g
  | .ast .. => [StateKind.memory, .reservations, .engines, .requests, .shares, .hbm, .qdr, .walkers, .lanes, .debug, .outputs, .answer, .counter].contains g
  | .calu .. => [StateKind.memory, .reservations, .engines, .requests, .shares, .hbm, .qdr, .walkers, .lanes, .debug, .outputs, .answer, .counter].contains g
  | .ralu .. => [StateKind.memory, .reservations, .engines, .requests, .shares, .hbm, .qdr, .walkers, .lanes, .debug, .outputs, .answer, .counter].contains g
  | .acs .. => [StateKind.memory, .reservations, .engines, .requests, .shares, .hbm, .qdr, .walkers, .lanes, .debug, .outputs, .answer, .counter].contains g
  | .bexp .. => [StateKind.memory, .reservations, .engines, .requests, .shares, .hbm, .qdr, .walkers, .lanes, .debug, .outputs, .answer, .counter].contains g
  | .scale .. => [StateKind.memory, .reservations, .engines, .requests, .shares, .hbm, .qdr, .walkers, .lanes, .debug, .outputs, .answer, .counter].contains g
  | .ldi .. => [StateKind.memory, .reservations, .engines, .requests, .shares, .hbm, .qdr, .walkers, .lanes, .debug, .outputs, .answer, .counter].contains g
  | .movr .. => [StateKind.memory, .reservations, .engines, .requests, .shares, .hbm, .qdr, .walkers, .lanes, .debug, .outputs, .answer, .counter].contains g
  | .stb .. => [StateKind.memory, .reservations, .engines, .requests, .shares, .hbm, .qdr, .walkers, .lanes, .debug, .outputs, .answer, .counter].contains g
  | .br .. => [StateKind.memory, .reservations, .engines, .requests, .shares, .hbm, .qdr, .walkers, .lanes, .debug, .outputs, .answer, .counter].contains g
  | .call .. => [StateKind.memory, .reservations, .engines, .requests, .shares, .hbm, .qdr, .walkers, .lanes, .debug, .outputs, .answer, .counter].contains g
  | .jmpr .. => [StateKind.memory, .reservations, .engines, .requests, .shares, .hbm, .qdr, .walkers, .lanes, .debug, .outputs, .answer, .counter].contains g
  | .doLoop .. => [StateKind.memory, .reservations, .engines, .requests, .shares, .hbm, .qdr, .walkers, .lanes, .debug, .outputs, .answer, .counter].contains g
  | .rillStop .. => [StateKind.memory, .reservations, .engines, .requests, .shares, .hbm, .qdr, .walkers, .lanes, .debug, .outputs, .answer, .counter].contains g
  | .wdr .. => [StateKind.memory, .reservations, .engines, .requests, .shares, .hbm, .qdr, .walkers, .lanes, .debug, .outputs, .answer, .counter].contains g
  | .rillLoad .. => [StateKind.memory, .reservations, .engines, .requests, .shares, .hbm, .qdr, .walkers, .lanes, .debug, .outputs, .answer, .counter].contains g
  | .store .. => [StateKind.memory, .reservations, .engines, .requests, .shares, .hbm, .qdr, .walkers, .lanes, .debug, .outputs, .answer, .counter].contains g
  | .rillLl .. => [StateKind.memory, .reservations, .engines, .requests, .shares, .hbm, .qdr, .walkers, .lanes, .debug, .outputs, .answer, .counter].contains g
  | .rillSc .. => [StateKind.memory, .reservations, .engines, .requests, .shares, .hbm, .qdr, .walkers, .lanes, .debug, .outputs, .answer, .counter].contains g
  | .rillAmo .. => [StateKind.memory, .reservations, .engines, .requests, .shares, .hbm, .qdr, .walkers, .lanes, .debug, .outputs, .answer, .counter].contains g
  | .blk .. => [StateKind.memory, .reservations, .engines, .requests, .shares, .hbm, .qdr, .walkers, .lanes, .debug, .outputs, .answer, .counter].contains g
  | .rillFlush .. => [StateKind.memory, .reservations, .engines, .requests, .shares, .hbm, .qdr, .walkers, .lanes, .debug, .outputs, .answer, .counter].contains g
  | .bwait .. => [StateKind.memory, .reservations, .engines, .requests, .shares, .hbm, .qdr, .walkers, .lanes, .debug, .outputs, .answer, .counter].contains g
  | .rillAccessReturn .. => true
  | .blockTransferDone .. => [StateKind.memory, .reservations, .engines, .requests, .shares, .hbm, .qdr, .walkers, .lanes, .debug, .outputs, .answer, .counter].contains g
  | .linkTrain .. => false
  | .linkDown => g == .host
  | .perstAssert => true
  | .perstRelease .. => [StateKind.stores, .flume, .capture, .log, .host, .management].contains g
  | .hotReset => true
  | .configRequest .. => [StateKind.host, .outputs, .answer].contains g
  | .decoderCommit .. => [StateKind.host, .outputs, .answer].contains g
  | .bar0Read .. => true
  | .bar0Write .. => true
  | .bar4Read .. => true
  | .bar4Write .. => true
  | .memrd .. => true
  | .memwr .. => true
  | .ledgerEntryWrite .. => [StateKind.ledger, .host, .outputs].contains g
  | .ledgerRelease .. => [StateKind.ledger, .outputs, .answer].contains g
  | .mirrorEnable .. => g == .answer
  | .completionRingReset .. => g == .answer
  | .ledgerVector .. => [StateKind.host, .outputs].contains g
  | .vectorArm .. => [StateKind.host, .outputs, .answer].contains g
  | .getTimestamp .. => [StateKind.host, .answer].contains g
  | .setTimestamp .. => [StateKind.host, .answer].contains g
  | .getSupportedLogs .. => [StateKind.host, .answer].contains g
  | .getLog .. => [StateKind.host, .answer].contains g
  | .getRollcall .. => [StateKind.host, .answer].contains g
  | .getEvents .. => [StateKind.host, .answer].contains g
  | .copyCmd .. => [StateKind.ledger, .host, .answer].contains g
  | .copyStep => [StateKind.memory, .reservations, .requests, .shares, .hbm, .qdr, .walkers, .lanes, .ledger, .host, .counter].contains g
  | .bundleBegin .. => [StateKind.ledger, .log, .host, .management, .answer].contains g
  | .bundleData .. => [StateKind.ledger, .log, .host, .management, .answer].contains g
  | .bundlePartWritten .. => [StateKind.stores, .ledger, .log, .management, .counter].contains g
  | .bundleEnd .. => [StateKind.ledger, .log, .host, .answer].contains g
  | .fieldLoadDone .. => true
  | .releasePoint .. => false
  | .syncTimeout => false
  | .startupStep .. => [StateKind.fabric, .management, .outputs].contains g
  | .parcelSwap .. => [StateKind.reservations, .flume, .fabric, .ledger, .answer].contains g
  | .parcelDrained .. => [StateKind.flume, .fabric, .ledger].contains g
  | .parcelWritten .. => [StateKind.flume, .fabric, .ledger].contains g
  | .parcelActive .. => [StateKind.flume, .fabric, .ledger].contains g
  | .parcelWedged .. => [StateKind.flume, .ledger].contains g
  | .ownerEnrol .. => [StateKind.log, .answer].contains g
  | .cancel => [StateKind.ledger, .log, .management, .answer].contains g
  | .abortStage => [StateKind.ledger, .log, .management, .answer].contains g
  | .settingsMigration .. => true
  | .confirm .. => [StateKind.log, .management, .answer].contains g
  | .trialWindowExpiry => true
  | .wmOpen .. => true
  | .wmClose .. => true
  | .wmPing .. => true
  | .wmRd .. => true
  | .wmWr .. => true
  | .mrd .. => true
  | .mwr .. => true
  | .wmHalt .. => true
  | .wmResume .. => true
  | .wmStep .. => true
  | .rreg .. => true
  | .wreg .. => true
  | .wmLog .. => true
  | .gunlock .. => true
  | .mspGapTimeout => g == .debug
  | .whcRequest .. => true
  | .rspack => true
  | .evtack => true
  | .peekRead .. => [StateKind.clocks, .debug, .answer, .counter].contains g
  | .debugUnitWrite .. => g == .answer
  | .engineHalt .. => [StateKind.memory, .reservations, .engines, .requests, .shares, .hbm, .qdr, .walkers, .lanes, .debug, .outputs, .answer, .counter].contains g
  | .engineResume .. => [StateKind.memory, .reservations, .engines, .requests, .shares, .hbm, .qdr, .walkers, .lanes, .debug, .outputs, .answer, .counter].contains g
  | .engineStep .. => [StateKind.memory, .reservations, .engines, .requests, .shares, .hbm, .qdr, .walkers, .lanes, .debug, .outputs, .answer, .counter].contains g
  | .haltDeferTimeout .. => [StateKind.reservations, .engines, .debug, .outputs, .counter].contains g
  | .stimulusWrite .. => [StateKind.debug, .answer, .counter].contains g
  | .fabricStimulus .. => [StateKind.debug, .counter].contains g
  | .tracePacketWrite .. => [StateKind.memory, .reservations, .requests, .shares, .hbm, .qdr, .walkers, .lanes, .debug, .counter].contains g
  | .traceEnable .. => [StateKind.debug, .answer].contains g
  | .gaugeChallenge => [StateKind.debug, .answer, .counter].contains g
  | .gaugeUnlock => [StateKind.log, .debug, .answer].contains g
  | .relock => [StateKind.log, .debug, .answer].contains g
  | .gaugeExpiry => false
  | .gaugeSelect .. => g == .answer
  | .bypass .. => [StateKind.debug, .answer].contains g
  | .idcode .. => [StateKind.debug, .answer].contains g
  | .samplePreload .. => [StateKind.debug, .answer].contains g
  | .extest .. => [StateKind.debug, .outputs, .answer].contains g
  | .extestPulse .. => [StateKind.debug, .outputs, .answer].contains g
  | .extestTrain .. => [StateKind.debug, .outputs, .answer].contains g
  | .clamp .. => [StateKind.debug, .outputs, .answer].contains g
  | .highz .. => [StateKind.debug, .outputs, .answer].contains g
  | .standalone .. => [StateKind.debug, .answer].contains g
  | .lbresult .. => [StateKind.debug, .answer].contains g
  | .testEnChange .. => true
  | .dormant .. => true
  | .fallow .. => true
  | .fallowAtpkrWrite .. => g == .answer
  | .dwake => true
  | .wakeTimer => true
  | .hbmOpChange .. => g == .answer
  | .quadGate .. => false
  | .quadWake .. => [StateKind.fabric, .lanes, .capture, .sequencers, .ledger, .outputs, .answer].contains g
  | .bankGate .. => false
  | .sensorRead .. => true
  | .fieldTrip .. => true
  | .packageTrip => true
  | .powerLimit => [StateKind.log, .counter].contains g
  | .supplyWarn .. => g == .log
  | .brownOut .. => true
  | .por .. => true
  | .pkrRelease .. => [StateKind.stores, .flume, .capture, .log, .management].contains g
  | .packageResetCommand .. => true
  | .mcWatchdog => true
  | .refclkLost => true
  | .hbmClockLost .. => [StateKind.walkers, .lanes, .capture, .ledger, .log, .debug].contains g
  | .flumeClockLost .. => [StateKind.requests, .flume, .fabric].contains g
  | .ethBlockReceive .. => [StateKind.fabric, .lanes, .capture, .sequencers, .ledger, .outputs, .counter].contains g
  | .pcieBlockReceive .. => [StateKind.fabric, .lanes, .capture, .sequencers, .ledger, .outputs].contains g
  | .ieeeTrainingFrameReceive .. => [StateKind.lanes, .outputs].contains g
  | .holdoffExpiry => [StateKind.host, .outputs].contains g
  | .automaticInitRegionDone .. => [StateKind.memory, .reservations, .requests, .qdr, .walkers, .counter].contains g
  | .fabricPllLock .. => [StateKind.fabric, .management, .outputs].contains g
  | .fabricPllLockTimeout .. => true
  | .wclkRestored .. => g == .fabric

/-- The same in a state in which no request waits at ingress, which a freed tag or credit could let move on (R183, R194), and roll call does not
run, which the fence of its last site would end (R213). -/
def quietChange (g : StateKind) (c : Instr) : Bool :=
  match c with
  | .beacon _ _ bad => if bad then [StateKind.memory, .reservations, .requests, .qdr, .walkers, .flume, .fabric, .lanes, .capture, .clocks, .ledger, .log, .debug, .counter].contains g else g == .clocks
  | .rdata .. => [StateKind.requests, .ingress, .shares, .flume, .host, .outputs, .answer].contains g
  | .cpl .. => [StateKind.requests, .ingress, .shares, .flume, .host, .outputs, .answer].contains g
  | .crsp .. => [StateKind.requests, .ingress, .shares, .flume, .host, .outputs, .answer].contains g
  | .audit .. => [StateKind.requests, .ingress, .shares, .flume, .host, .outputs, .answer].contains g
  | .creditReturn .. => [StateKind.requests, .ingress, .shares, .flume, .host, .outputs, .answer].contains g
  | .tagTimeout .. => [StateKind.requests, .ingress, .flume, .host, .outputs, .answer].contains g
  | .quarantineEnd .. => [StateKind.requests, .ingress, .flume, .host, .outputs, .answer].contains g
  | .fenceWalkStep => [StateKind.programs, .engines, .requests, .ingress, .flume, .fabric, .lanes, .capture, .sequencers, .clocks, .host, .debug, .management, .outputs, .answer].contains g
  | .quotaWrite .. => [StateKind.requests, .ingress, .flume, .host, .outputs, .answer].contains g
  | .wreport .. => [StateKind.memory, .reservations, .requests, .qdr, .walkers, .flume, .fabric, .lanes, .capture, .ledger, .log, .debug, .counter].contains g
  | .adopt .. => [StateKind.memory, .reservations, .requests, .qdr, .walkers, .flume, .fabric, .lanes, .capture, .ledger, .log, .debug, .counter].contains g
  | .unable .. => [StateKind.memory, .reservations, .requests, .qdr, .walkers, .flume, .fabric, .lanes, .capture, .ledger, .log, .debug, .counter].contains g
  | .widthReplyTimeout .. => [StateKind.memory, .reservations, .requests, .qdr, .walkers, .flume, .fabric, .lanes, .capture, .ledger, .log, .debug, .counter].contains g
  | .sidebandUp .. => [StateKind.memory, .reservations, .requests, .qdr, .walkers, .flume, .fabric, .lanes, .capture, .ledger, .log, .debug, .counter].contains g
  | .roll .. => [StateKind.memory, .reservations, .requests, .qdr, .walkers, .flume, .fabric, .lanes, .capture, .ledger, .log, .debug, .counter].contains g
  | .modulesTrained .. => [StateKind.memory, .reservations, .requests, .qdr, .walkers, .flume, .fabric, .lanes, .capture, .ledger, .log, .debug, .counter].contains g
  | .key .. => [StateKind.memory, .reservations, .programs, .requests, .qdr, .walkers, .flume, .fabric, .lanes, .capture, .ledger, .log, .debug, .counter].contains g
  | .admitTimeout .. => [StateKind.memory, .reservations, .requests, .qdr, .walkers, .flume, .fabric, .lanes, .capture, .ledger, .log, .debug, .counter].contains g
  | .heartbeatLoss .. => [StateKind.memory, .reservations, .requests, .qdr, .walkers, .flume, .fabric, .lanes, .capture, .ledger, .log, .debug, .counter].contains g
  | .alarmLow .. => [StateKind.memory, .reservations, .requests, .qdr, .walkers, .flume, .fabric, .lanes, .capture, .ledger, .log, .debug, .counter].contains g
  | .swFence .. => [StateKind.memory, .reservations, .requests, .qdr, .walkers, .flume, .fabric, .lanes, .capture, .ledger, .log, .debug, .answer, .counter].contains g
  | .fieldLoadDone .. => [StateKind.memory, .reservations, .stores, .programs, .requests, .qdr, .walkers, .flume, .fabric, .lanes, .capture, .ledger, .log, .debug, .counter].contains g
  | .fieldTrip .. => [StateKind.memory, .reservations, .programs, .engines, .requests, .qdr, .walkers, .flume, .fabric, .lanes, .capture, .sequencers, .clocks, .ledger, .log, .debug, .outputs, .counter].contains g
  | c => mayChange g c


end Sys2Proof.Machine
end

