-- ==== Sys2Proof/Certificates/Slice0/Obligations.lean ====
section
/-! DEFINITION. The statements for the provers. Those named ...Commands, ...Rows and ...Results say of each command of a family
in which states it completes and the next state it gives. -/
open Sys2Proof Sys2Proof.Machine
set_option linter.unusedVariables false

/-- A step runs the command at the front of the queue (spec/95_what_each_step_holds.md, R157). For every command c, queue l and state
s whose queue is c followed by l, a step of s is exec of c on s with the queue l; on an empty queue a step is one cycle of the
clock that the DTC counts on (the queue and the cycle are the model's own: log entries 1 and 4). -/
def Obligations.StepRunsTheFrontCommand : Prop :=
  (∀ (c : Instr) (l : List Instr) (s : State), s.pending = c :: l → step s = exec c { s with pending := l }) ∧
  (∀ s : State, s.pending = [] → step s = .next s.cycle)

/-- What reset leaves (R20, R206, R44). After reset every element of every register field reads its reset value; the tracker quotas
are 0x7000 for fields, 0x5C00 for Headworks and 0x1000 for a turnout, the host link is off and no service state is entered; no
command waits, no tag is in use, no ledger operation runs, the event log and the outputs are empty, and no byte of memory is
listed (that an unlisted byte reads 0 is the model's choice: log entry 3). -/
def Obligations.ResetState : Prop :=
  (∀ (f : Field) (i j k : Nat), State.reset.get f i j k = f.resetAt i j k % 2 ^ 32) ∧
  (State.reset.get TRK.QUOTA 3 = 0x7000 ∧ State.reset.get TRK.QUOTA 8 = 0x5C00 ∧ State.reset.get TRK.QUOTA 9 = 0x1000 ∧ State.reset.get CXL.LSTAT_MODE = 0 ∧
    State.reset.get GLB.SERV_STATE = 0) ∧
  (State.reset.pending = [] ∧ State.reset.tags = [] ∧ State.reset.ledg = [] ∧ State.reset.events = [] ∧ State.reset.out = [] ∧ State.reset.mem = [])

/-- The invariant of the books holds at reset (R20, R479, R193). The state right after reset has the invariant that StepKeepsInvariant
speaks of. -/
def Obligations.ResetHasInvariant : Prop :=
  (State.reset.inv = true)

/-- Every step keeps the invariant of the books (R479, R193, R30, R270). From every state in which the register store lists no field
twice, the memory and its check bits are in canonical form, the event log holds at most 131,072 records and they are the newest
without a gap (R479), and no tag is in use twice (R193), every step that gives a next state gives one in which all this holds
again. -/
def Obligations.StepKeepsInvariant : Prop :=
  (∀ s t : State, s.inv = true → step s = .next t → t.inv = true)

/-- A command changes neither the queue nor the part, and takes back no output (R4, R5, R7, R479). For every command c and states s
and t, if exec of c on s gives t, then the commands that wait are the same, the part's population and guest dies are the same
(R4-R7), everything sent out of the part before is still the beginning of what has been sent, and the count of event records has
not fallen. -/
def Obligations.CommandsKeepQueueAndPart : Prop :=
  (∀ (c : Instr) (s t : State), exec c s = .next t →
    t.pending = s.pending ∧ t.part = s.part ∧ s.out <+: t.out ∧ s.evSeq ≤ t.evSeq)

/-- What each command leaves unchanged (spec/95_what_each_step_holds.md, R30). For every command c and every kind of state that c is
not listed in mayChange as able to change (memories, reservations, seed stores, programs, Rill engines, requests, ingress, shares,
HBM and QDR controllers, walkers, the Flume, the fabric, lanes, capture, sequencers, clocks, the ledger, the event log, the host port, debug,
management, outputs, the answer), the state of that kind is as before whenever exec of c gives a next state; and where the kind is
the memory, every byte reads as before. mayChange names every kind for a
command that writes an arbitrary register, sends a request to an arbitrary address, lets requests that wait at ingress move on,
fences a die or causes a reset; quietChange says what those of them may change that free a tag or a credit or fence a die while no
request waits at ingress and roll call does not run. -/
def Obligations.CommandFrames : Prop :=
  (∀ (g : StateKind) (c : Instr) (s t : State), mayChange g c = false → exec c s = .next t → s.same g t) ∧
  (∀ (g : StateKind) (c : Instr) (s t : State), quietChange g c = false → s.ingress = [] → s.boot.rolling = false → exec c s = .next t → s.same g t) ∧
  (∀ (c : Instr) (s t : State) (a : Nat), mayChange .memory c = false → exec c s = .next t → t.memByte a = s.memByte a)

/-- Every command completes in every state (R17, R32). For every command and every state, exec answers a next state: the spec gives
each command an effect or an error response, and the model stops on none. -/
def Obligations.CommandsComplete : Prop :=
  (∀ (c : Instr) (s : State), Completes (exec c s))

/-- The event log takes a record in place of its oldest one (R479). In a state whose log holds at most 131,072 records, an event of a
CODE and DIE that has had no record within the last second adds one record with the next SEQ, the time now, ARG and the count of
those left out (in REPEAT) at the end of the log, and the oldest record leaves a full log; an event within the second changes
neither log nor SEQ. -/
def Obligations.EventLogRecords : Prop :=
  (∀ (s : State) (code die arg : Nat), s.events.length ≤ 131072 → s.logLimited code die = false →
    (s.logEvent code die arg).events = (if s.events.length < 131072 then s.events else s.events.drop 1) ++
      [⟨code, die, s.evSeq, s.now, arg, (Store.get {} (code * 16 + die) s.evBook).supp⟩] ∧
    (s.logEvent code die arg).evSeq = s.evSeq + 1) ∧
  (∀ (s : State) (code die arg : Nat), s.logLimited code die = true →
    (s.logEvent code die arg).events = s.events ∧ (s.logEvent code die arg).evSeq = s.evSeq)

/-- A register field holds what was last written, and no other field changes (R13, R17). A field of at most 32 bits that is given a
value reads that value cut to its width; every field at another bit address reads as before; and nothing but the register store
changes. -/
def Obligations.RegisterFields : Prop :=
  (∀ (s : State) (f : Field) (v i j k : Nat), f.w ≤ 32 → (s.set f v i j k).get f i j k = v % 2 ^ f.w) ∧
  (∀ (s : State) (f g : Field) (v i j k a b c : Nat), g.key a b c ≠ f.key i j k → (s.set f v i j k).get g a b c = s.get g a b c) ∧
  (∀ (s : State) (f : Field) (v i j k : Nat), ({ s.set f v i j k with csr := s.csr } : State) = s)

/-- A write of an undefined encoding leaves the field unchanged and updates the others (R16). For every RW field and written word:
where the field's table does not define the encoding that the word places in the field, the write leaves the state as it is; in a
write to several fields of a register that field is as if it were not among them; and where the encoding is defined, the field
takes it. -/
def Obligations.UndefinedEncodings : Prop :=
  (∀ (s : State) (v : Nat) (f : Field) (i j k : Nat), f.dom.allows (bitsOf v f.lo f.w) = false → s.wr v f i j k = s) ∧
  (∀ (s : State) (v : Nat) (f : Field) (l m : List Field) (i j k : Nat), f.dom.allows (bitsOf v f.lo f.w) = false →
    s.wrAll v (l ++ f :: m) i j k = s.wrAll v (l ++ m) i j k) ∧
  (∀ (s : State) (v : Nat) (f : Field) (i j k : Nat), f.w ≤ 32 → f.dom.allows (bitsOf v f.lo f.w) = true →
    (s.wr v f i j k).get f i j k = bitsOf v f.lo f.w)

/-- The windows of the CSR region (R33). An offset of the CSR region lies in the Headworks window below 0x0100_0000, in the window of
field n from (n + 1) x 0x0100_0000, in the guest window of T0 or T1 at 0x0900_0000 or 0x0A00_0000, and in no window from
0x0B00_0000 up. -/
def Obligations.CsrWindows : Prop :=
  (∀ x : Nat, x < 0x1000000 → csrDie x = 8) ∧
  (∀ n x : Nat, n < 8 → (n + 1) * 0x1000000 ≤ x → x < (n + 2) * 0x1000000 → csrDie x = n) ∧
  (∀ x : Nat, 0x9000000 ≤ x → x < 0xA000000 → csrDie x = 9) ∧
  (∀ x : Nat, 0xA000000 ≤ x → x < 0xB000000 → csrDie x = 10) ∧
  (∀ x : Nat, 0xB000000 ≤ x → csrDie x = 11) ∧
  (csrBase = 0xFF00000000)

/-- A host write to FLD_USRIN reaches fabric as one 32-bit value (R322). In every state in which the field's registers are reached, a
host write of v to FLD_USRIN[i] of field n completes: the register reads v, and the part has presented v to fabric, whole, as one
value. -/
def Obligations.UserRegisterIn : Prop :=
  (∀ (n : FieldId) (i : Fin 16) (v : Word) (s : State), s.barred .FLD n = none →
    ∃ t, exec (.userRegIn n i v) s = .next t ∧ t.get FLD.USRIN n i = v.toNat ∧ t.out = s.out ++ [.usrIn n i v.toNat])

/-- The pseudo-channel and the local address of an HBM access (R236). With b = A[37:8], the pseudo-channel is b[6:0] xor b[13:7] xor
b[20:14] xor b[27:21] xor (0b00000 : b[29:28]), the stack is its bits [6:5], and the local address is (b >> 7) x 256 + A[7:0]. For
fixed b[29:7] the map from b[6:0] is one-to-one, every aligned 32 KiB covers each of the 128 pseudo-channels exactly once, and the
local address of an address of HBM lies below 1.125 GiB. -/
def Obligations.HbmPlacement : Prop :=
  (∀ a : Nat, hbmChannel a = a / 2 ^ 8 % 2 ^ 7 ^^^ a / 2 ^ 15 % 2 ^ 7 ^^^ a / 2 ^ 22 % 2 ^ 7 ^^^ a / 2 ^ 29 % 2 ^ 7 ^^^ a / 2 ^ 36 % 2 ^ 2) ∧
  (∀ a : Nat, hbmStack a = hbmChannel a / 2 ^ 5 ∧ hbmLocal a = a / 2 ^ 8 % 2 ^ 30 / 2 ^ 7 * 256 + a % 256) ∧
  (∀ a b : Nat, a / 2 ^ 15 % 2 ^ 23 = b / 2 ^ 15 % 2 ^ 23 → hbmChannel a = hbmChannel b → a / 2 ^ 8 % 2 ^ 7 = b / 2 ^ 8 % 2 ^ 7) ∧
  (∀ k p : Nat, p < 128 → ∃ i, i < 128 ∧ hbmChannel (k * 2 ^ 15 + i * 2 ^ 8) = p ∧
    ∀ j, j < 128 → hbmChannel (k * 2 ^ 15 + j * 2 ^ 8) = p → j = i) ∧
  (∀ a : Nat, a < 0x2400000000 → hbmLocal a < 1207959552)

/-- The quarter, the bank and the row of an HBM access (R237). With L = local >> 8 and Q = L >> 6, L[1:0] is the quarter of the row,
the bank number is 16 x (Q mod 3) + 4 x L[5:4] + L[3:2], and the row is Q / 3, rounded down. -/
def Obligations.HbmBankAndRow : Prop :=
  (∀ a : Nat, hbmQuarter a = hbmLocal a / 2 ^ 8 % 4) ∧
  (∀ a : Nat, hbmBank a = 16 * (hbmLocal a / 2 ^ 14 % 3) + 4 * (hbmLocal a / 2 ^ 12 % 4) + hbmLocal a / 2 ^ 10 % 4) ∧
  (∀ a : Nat, hbmRow a = hbmLocal a / 2 ^ 14 / 3)

/-- What the codes correct and detect (R270). Codes N, L and S have 0, 8 and 15 check bits. For every 64-bit word stored with its
check field: under every code a word whose bits are as stored reads clean, with its data; under Code L a word with any one of its
72 bits turned over is corrected to its data, and any two bits are detected; under Code S any one or two of its 79 bits are
corrected to its data, and any three are detected. A detected word is uncorrectable, or matches the poison pattern, which is
tested first (R275). Under Code N nothing is checked. -/
def Obligations.CodesCorrectAndDetect : Prop :=
  (checkBits 0 = 0 ∧ checkBits 1 = 8 ∧ checkBits 2 = 15) ∧
  (∀ code data : Nat, code ≤ 2 → data < 2 ^ 64 → decodeWord code (damaged code data []).1 (damaged code data []).2 = (.clean, data)) ∧
  (∀ data i : Nat, data < 2 ^ 64 → i < 72 → decodeWord 1 (damaged 1 data [i]).1 (damaged 1 data [i]).2 = (.correctable, data)) ∧
  (∀ data i j : Nat, data < 2 ^ 64 → i < j → j < 72 →
    (decodeWord 1 (damaged 1 data [i, j]).1 (damaged 1 data [i, j]).2).1 ∈ [WordState.uncorrectable, .poisoned]) ∧
  (∀ data i : Nat, data < 2 ^ 64 → i < 79 → decodeWord 2 (damaged 2 data [i]).1 (damaged 2 data [i]).2 = (.correctable, data)) ∧
  (∀ data i j : Nat, data < 2 ^ 64 → i < j → j < 79 →
    decodeWord 2 (damaged 2 data [i, j]).1 (damaged 2 data [i, j]).2 = (.correctable, data)) ∧
  (∀ data i j k : Nat, data < 2 ^ 64 → i < j → j < k → k < 79 →
    (decodeWord 2 (damaged 2 data [i, j, k]).1 (damaged 2 data [i, j, k]).2).1 ∈ [WordState.uncorrectable, .poisoned]) ∧
  (∀ data syn : Nat, decodeWord 0 data syn = (.clean, data))

/-- Bytes of memory read back as they were stored (R13, R30). Bytes stored at consecutive addresses read back as they were stored, and
every byte outside them reads as before (what a byte that nothing has written reads as is the model's choice: log entry 3). -/
def Obligations.BytesReadBack : Prop :=
  (∀ (s : State) (a : Nat) (l : List Byte), (s.setBytes a l).memBytes a l.length = l) ∧
  (∀ (s : State) (a x : Nat) (l : List Byte), x < a ∨ a + l.length ≤ x → (s.setBytes a l).memByte x = s.memByte x)

/-- A read changes no byte of memory, and a write none outside its words (R276, R277, R275). A read of any memory, by any source, with
or without corrected or unusable words, changes no stored byte and no stored check bits. A write, whole or partial, poisoned or
refused, changes no byte outside the 64-bit words that its bytes touch. -/
def Obligations.MemoryFrames : Prop :=
  (∀ (s : State) (src a len x client : Nat) (port : Option Nat) (fetch : Bool),
    (s.readMem src port a len fetch client).1.memByte x = s.memByte x ∧ (s.readMem src port a len fetch client).1.wordSyn x = s.wordSyn x) ∧
  (∀ (s : State) (src a x client : Nat) (port holder : Option Nat) (l : List (Option Byte)) (pois : Bool),
    x / 8 < a / 8 ∨ a / 8 + wordSpan a l.length ≤ x / 8 → (s.writeMem src port holder a l pois client).1.memByte x = s.memByte x)

/-- The poison pattern (R275). The pattern is data 0 with check field 0xFF in Code L and 0x7FFF in Code S; a word that matches it
reads as poisoned. A write with POIS = 1 that touches a word leaves data 0 in it, with the pattern's check field under the
region's code L or S, and with no check bits set under Code N; where the word is checked it then reads as poisoned. -/
def Obligations.PoisonPattern : Prop :=
  (poisonCheck 1 = 0xFF ∧ poisonCheck 2 = 0x7FFF) ∧
  (decodeWord 1 0 0xFF = (.poisoned, 0) ∧ decodeWord 2 0 0x7FFF = (.poisoned, 0)) ∧
  (∀ (s : State) (src w : Nat) (holder : Option Nat) (l : List (Option Byte)), l.any Option.isSome = true →
    (s.writeWord src holder w l true).1.wordData w = 0 ∧
    (s.writeWord src holder w l true).1.wordSyn w =
      if (s.writeWord src holder w l true).1.codeAt (8 * w) = 0 then 0 else poisonCheck ((s.writeWord src holder w l true).1.codeAt (8 * w))) ∧
  (∀ (s : State) (src w : Nat) (holder : Option Nat) (l : List (Option Byte)), l.any Option.isSome = true →
    (s.writeWord src holder w l true).1.checkCode (8 * w) ≠ 0 →
    (s.writeWord src holder w l true).1.readWord w = (.poisoned, 0))

/-- A word stored with good check bits reads back clean (R13, R270, R277). A 64-bit word that is stored with the check field of its
data reads back as stored and decodes as clean under the code of its region, which is N, L or S; every other word keeps its data
and its check bits. -/
def Obligations.FullWordsReadBack : Prop :=
  (∀ (s : State) (w data : Nat), data < 2 ^ 64 → (s.putWord w data 0).wordData w = data) ∧
  (∀ (s : State) (w data : Nat), data < 2 ^ 64 → s.checkCode (8 * w) ≤ 2 → (s.putWord w data 0).readWord w = (.clean, data)) ∧
  (∀ (s : State) (w x data syn : Nat), x ≠ w → (s.putWord w data syn).wordData x = s.wordData x ∧ (s.putWord w data syn).wordSyn x = s.wordSyn x)

/-- Capture front-ends: frames, records, gaps and segments (R99, R105, R110, R111, R113, R116, R125, R130). Each of these commands
completes, in every state and with all operands that meet the conditions of one of its clauses, with exactly the next state that
the clause writes, so that nothing else changes: cfeEnable, cfeCounterClear, cfeFrame, recordJudge, gapEmit, segmentLend,
segmentClose, segmentDrain, segmentReturn, cfeStopAck. What the commands of a capture front-end do (R99 to R101, R105, R110, R111,
R113, R116, R125, R130); the phase in a stamp is an open value (log entry 5). -/
def Obligations.CaptureCommands : Prop :=
  (∀ (l : LaneId), ∀ (v : Word), ∀ (s : State), s.barred .CFE (l.val / 16) = none → exec (.cfeEnable l v) s = .next ((s.writeCfeCtrl l v.toNat).answer .ok)) ∧
  (∀ (l : LaneId), ∀ (v : Word), ∀ (s : State), s.barred .CFE (l.val / 16) = none → bitOf v.toNat 8 = true → exec (.cfeCounterClear l v) s = .next ((((((s.w1cAll v.toNat [CFE.STAT_SHRDROP, CFE.STAT_STGDROP] l).set2 CFE.FRAMES_LO CFE.FRAMES_HI 0 l).set2 CFE.RECS_LO CFE.RECS_HI 0 l).set2 CFE.DROPS_LO CFE.DROPS_HI 0 l).set2 CFE.DBYTES_LO CFE.DBYTES_HI 0 l).answer .ok)) ∧
  (∀ (l : LaneId), ∀ (v : Word), ∀ (s : State), s.barred .CFE (l.val / 16) = none → bitOf v.toNat 8 = false → exec (.cfeCounterClear l v) s = .next ((s.w1cAll v.toNat [CFE.STAT_SHRDROP, CFE.STAT_STGDROP] l).answer .ok)) ∧
  (∀ (l : LaneId), ∀ (g : FabFrame), ∀ (s : State), s.flag CFE.CTRL_SRC l = true → s.cfeOn l = true → s.time.tclk = true → exec (.cfeFrame l (some g)) s = .next (s.used.takeFrame l { bytes := g.bytes, fcsErr := g.err, ts := s.stampAt (s.fieldNow (l / 16)) (-signedOf (s.get FTS.FABOFS (l / 16)) 16) })) ∧
  (∀ (l : LaneId), ∀ (f : Option FabFrame), ∀ (r : RxFrame), ∀ (t : List RxFrame), ∀ (s : State), s.flag CFE.CTRL_SRC l = false → (s.lane l).rx = r :: t → s.cfeOn l = true → s.time.tclk = true → exec (.cfeFrame l f) s = .next ((s.setLane l { s.lane l with rx := t }).takeFrame l r)) ∧
  (∀ (l : LaneId), ∀ (f : Option FabFrame), ∀ (s : State), s.time.tclk = false → exec (.cfeFrame l f) s = .next s) ∧
  (∀ (l : LaneId), ∀ (r : PendRec), ∀ (t : List PendRec), ∀ (s : State), (s.cfe l).pend = r :: t → r.ts + decisionDelay < s.fieldNow (l / 16) → s.time.tclk = true → exec (.recordJudge l) s = .next ((s.setCfe l { s.cfe l with pend := t }).judge l r)) ∧
  (∀ (l : LaneId), ∀ (s : State), (s.cfe l).pend = [] → exec (.recordJudge l) s = .next (s)) ∧
  (∀ (l : LaneId), ∀ (s : State), s.cfeOn l = true → (s.cfe l).gap.isSome = true → s.gapReady l = true → s.time.tclk = true → exec (.gapEmit l) s = .next (s.emitGap l)) ∧
  (∀ (l : LaneId), ∀ (s : State), s.cfeOn l = true → (s.cfe l).segs.length < s.get CAP.SCFG_LOAN → exec (.segmentLend l) s = .next (s.lend l)) ∧
  (∀ (l : LaneId), ∀ (s : State), exec (.segmentClose l) s = .next (s.closeFirst l)) ∧
  (∀ (d : Closed), ∀ (t : List Closed), ∀ (s : State), s.closed = d :: t → s.draining.length < 64 → exec .segmentDrain s = .next (d.recs.foldl (fun s r => s.ringPut r (d.id + 1)) { s with closed := t, draining := s.draining ++ [d] })) ∧
  (∀ (s : State), s.closed = [] → exec .segmentDrain s = .next (s)) ∧
  (∀ (i : Fin 64), ∀ (d : Closed), ∀ (s : State), s.draining[i.val]? = some d → s.jobOpen (d.id + 1) = true → exec (.segmentReturn i) s = .next (s)) ∧
  (∀ (i : Fin 64), ∀ (d : Closed), ∀ (s : State), s.draining[i.val]? = some d → s.jobOpen (d.id + 1) = false → d.reserve = true → exec (.segmentReturn i) s = .next (d.recs.foldl (fun s r => (s.snap r.cist).maybeDone r.cist) (({ s with draining := s.draining.eraseIdx i }.book CAP.SBOOK1_RFREE 1).book CAP.SBOOK2_RUSED (-1)))) ∧
  (∀ (l : LaneId), ∀ (t : Nat), ∀ (s : State), (s.cist (s.get CFE.CTRL_CIST l)).stop = some t → l.val ∈ (s.cist (s.get CFE.CTRL_CIST l)).acks → t + decisionDelay < s.fieldNow (l / 16) → (s.cfe l).pend.all (fun r => decide (t ≤ r.ts)) = true → exec (.cfeStopAck l) s = .next ((s.setCist (s.get CFE.CTRL_CIST l) { s.cist (s.get CFE.CTRL_CIST l) with acks := (s.cist (s.get CFE.CTRL_CIST l)).acks.filter fun x => x != l.val }).maybeDone (s.get CFE.CTRL_CIST l)))

/-- Cisterns and the float sequencer (R118, R119, R123, R124, R125, R126, R129, R131, R132). Each of these commands completes, in
every state and with all operands that meet the conditions of one of its clauses, with exactly the next state that the clause
writes, so that nothing else changes: cisternArm, cisternDisarm, swstart, swstop, cisternPublish, floatPulse, softwareFloat,
sequencerEnable, sequencerDisable, eventTransition, timerTransition, floatStampCapture. What arming, disarming, software START and
STOP, float pulses and the sequencer do (R118, R119, R123 to R126, R129, R131, R132). -/
def Obligations.CisternAndFloatCommands : Prop :=
  (∀ (c : CistId), ∀ (src : Fin 4096), ∀ (v : Word), ∀ (s : State), s.barred .CAP 0 = none → countBits (actionWord v 0) 4 = 1 → bitOf (actionWord v 0) 0 = true → exec (.cisternArm c src v) s = .next (((s.wrAll (actionWord v 0) [CAP.CCTRL_GRP, CAP.CCTRL_FLTEN, CAP.CCTRL_FULLACT] c).arm c src).answer .ok)) ∧
  (∀ (c : CistId), ∀ (src : Fin 4096), ∀ (v : Word), ∀ (s : State), s.barred .CAP 0 = none → countBits (actionWord v 1) 4 = 1 → bitOf (actionWord v 1) 0 = false → bitOf (actionWord v 1) 1 = true → exec (.cisternDisarm c src v) s = .next (((s.wrAll (actionWord v 1) [CAP.CCTRL_GRP, CAP.CCTRL_FLTEN, CAP.CCTRL_FULLACT] c).disarm c).answer .ok)) ∧
  (∀ (c : CistId), ∀ (src : Fin 4096), ∀ (v : Word), ∀ (s : State), s.barred .CAP 0 = none → exec (.swstart c src v) s = .next ((s.writeCctrl c src (actionWord v 2)).answer .ok)) ∧
  (∀ (c : CistId), ∀ (src : Fin 4096), ∀ (v : Word), ∀ (s : State), s.barred .CAP 0 = none → exec (.swstop c src v) s = .next ((s.writeCctrl c src (actionWord v 3)).answer .ok)) ∧
  (∀ (c : CistId), ∀ (s : State), s.get CAP.CSTAT_STATE c = 1 → exec (.cisternPublish c) s = .next (s.publish c 2 0)) ∧
  (∀ (c : CistId), ∀ (s : State), s.get CAP.CSTAT_STATE c = 2 → exec (.cisternPublish c) s = .next (s.publish c 3 0)) ∧
  (∀ (m : BitVec 64), ∀ (s : State), exec (.floatPulse m) s = .next (s.pulse m.toNat)) ∧
  (∀ (hi : Bool), ∀ (v : Word), ∀ (m : Nat), ∀ (s : State), s.barred .FLT 0 = none → v.toNat ≠ 0 → m = (if hi then v.toNat * 2 ^ 32 else v.toNat) → exec (.softwareFloat hi v) s = .next (((((s.countPulse m).wakeFurs m).fabFloats m).emit (.floats m)).answer .ok)) ∧
  (∀ (hi : Bool), ∀ (v : Word), ∀ (s : State), s.barred .FLT 0 = none → v.toNat = 0 → exec (.softwareFloat hi v) s = .next (s.answer .ok)) ∧
  (∀ (v : Word), ∀ (s : State), s.barred .FLT 0 = none → s.flag FLT.CTRL_EN = false → bitOf (setBit v.toNat 0) 0 = true → exec (.sequencerEnable v) s = .next ((((((s.wrAll (setBit v.toNat 0) [FLT.CTRL_EN, FLT.CTRL_INIT]).enterFlt ((s.wrAll (setBit v.toNat 0) [FLT.CTRL_EN, FLT.CTRL_INIT]).get FLT.CTRL_INIT)).set FLT.STAT_RUN 1).set FLT.STAT_FROZEN 0)).answer .ok)) ∧
  (∀ (v : Word), ∀ (s : State), s.barred .FLT 0 = none → bitOf (clearBit v.toNat 0) 0 = false → exec (.sequencerDisable v) s = .next (((s.wrAll (clearBit v.toNat 0) [FLT.CTRL_EN, FLT.CTRL_INIT]).set FLT.STAT_RUN 0).answer .ok)) ∧
  (∀ (s : State), s.flag FLT.STAT_RUN = true → s.flt.evDue = true → exec .eventTransition s = .next (s.settleFlt)) ∧
  (∀ (s : State), s.flt.evDue = false → exec .eventTransition s = .next (s)) ∧
  (∀ (s : State), s.flag FLT.STAT_RUN = true → s.get FLT.TLIM (s.get FLT.STAT_STATE) ≠ 0 → exec .timerTransition s = .next (({ s.set FLT.TMR (s.get FLT.TLIM (s.get FLT.STAT_STATE)) (s.get FLT.STAT_STATE) with flt := { (s.set FLT.TMR (s.get FLT.TLIM (s.get FLT.STAT_STATE)) (s.get FLT.STAT_STATE)).flt with tmDue := true } }).settleFlt)) ∧
  (∀ (s : State), s.barred .FLT 0 = none → exec .floatStampCapture s = .next ((((s.set FLT.TS_LO (tsOf s.flt.stamp)).set FLT.TS_MID (tsOf s.flt.stamp / 2 ^ 32)).set FLT.TS_HI (tsOf s.flt.stamp / 2 ^ 64)).answerData (bytesLE 4 (tsOf s.flt.stamp))))

/-- Walkers, range passes, regions, the frame scanner and votes (R280, R281, R284, R285, R286, R287, R289, R290). Each of these
commands completes, in every state and with all operands that meet the conditions of one of its clauses, with exactly the next
state that the clause writes, so that nothing else changes: walkStep, walkerWriteBack, walkEpoch, check, scrub, init,
rangePassStep, automaticInitRegionDone, regionCodeWrite, frameScan, tmrVote. What the commands of the ditch riders, the range
passes, the region tables, the configuration-frame scanner and the hardened logic do (R280, R281, R284 to R287, R289, R290). -/
def Obligations.WalkAndRegionCommands : Prop :=
  (∀ (k : Fin 26), ∀ (s : State), s.walkOn k = false → exec (.walkStep k) s = .next (s)) ∧
  (∀ (k : Fin 26), ∀ (w : Nat), ∀ (rest : List Nat), ∀ (s : State), s.walkOn k = true → (s.walker k).repair = w :: rest → exec (.walkStep k) s = .next ((s.setWalker k { s.walker k with repair := rest }).walkWord k w)) ∧
  (∀ (k : Fin 26), ∀ (s : State), s.walkOn k = true → (s.walker k).repair = [] → (s.walker k).running = true → exec (.walkStep k) s = .next (s.walkOn1 k)) ∧
  (∀ (k : Fin 26), ∀ (s : State), s.walkOn k = true → exec (.walkerWriteBack k) s = .next (s.writeBack k)) ∧
  (∀ (k : Fin 26), ∀ (s : State), s.walkOn k = true → (s.walker k).epochAt ≤ s.elapsed → exec (.walkEpoch k) s = .next ((s.walkEpoch k).setWalker k { (s.walkEpoch k).walker k with epochAt := s.elapsed + 10 ^ 15 })) ∧
  (∀ (k : Fin 26), ∀ (s : State), s.elapsed < (s.walker k).epochAt → exec (.walkEpoch k) s = .next (s)) ∧
  (∀ (u : Fin 9), ∀ (m : Fin 4), ∀ (e : Fin 1024), ∀ (src : Fin 4096), ∀ (s : State), s.barred (if u.val = 0 then .DRH else .DRF) (u.val - 1) = none → exec (.check u m e src) s = .next ((s.rangePass u 0 (if u.val = 0 then m.val % 2 else m.val) e src).answer .ok)) ∧
  (∀ (u : Fin 9), ∀ (m : Fin 4), ∀ (e : Fin 1024), ∀ (src : Fin 4096), ∀ (s : State), s.barred (if u.val = 0 then .DRH else .DRF) (u.val - 1) = none → exec (.scrub u m e src) s = .next ((s.rangePass u 1 (if u.val = 0 then m.val % 2 else m.val) e src).answer .ok)) ∧
  (∀ (u : Fin 9), ∀ (m : Fin 4), ∀ (e : Fin 1024), ∀ (src : Fin 4096), ∀ (s : State), s.barred (if u.val = 0 then .DRH else .DRF) (u.val - 1) = none → exec (.init u m e src) s = .next ((s.rangePass u 2 (if u.val = 0 then m.val % 2 else m.val) e src).answer .ok)) ∧
  (∀ (u : Fin 9), ∀ (p : RangeSt), ∀ (s : State), Store.find u.val s.ranges = some p → exec (.rangePassStep u) s = .next (s.rangeStep u p)) ∧
  (∀ (b : Fin 17), ∀ (r : Nat), ∀ (s : State), Store.find b.val s.autoInit = some r → exec (.automaticInitRegionDone b) s = .next (((s.qdrIssued 2 (regionRange r).1 0 ((regionRange r).2 / 8)).finishRegion r).autoNext b (r + 1) 2305)) ∧
  (∀ (b : Fin 17), ∀ (i : Fin 288), ∀ (v : Word), ∀ (s : State), s.barred (if b.val = 0 then .DRH else .DRF) ((b.val - 1) % 8) = none → exec (.regionCodeWrite b i v) s = .next ((s.writeRegion b (i % regionRegs b) v.toNat).answer .ok)) ∧
  (∀ (n : FieldId), ∀ (f : FrameFound), ∀ (p : Fin 13), ∀ (s : State), s.serves n = true → (Store.get {} n.val s.fields).scanAt ≤ s.elapsed → let t := s.frameScan n f p; exec (.frameScan n f p) s = .next { t with fields := Store.set {} n.val { Store.get {} n.val t.fields with scanAt := s.elapsed + s.get DRF.FS_IVAL n * 1000000 } t.fields }) ∧
  (∀ (n : FieldId), ∀ (f : FrameFound), ∀ (p : Fin 13), ∀ (s : State), s.serves n = false → exec (.frameScan n f p) s = .next (s)) ∧
  (∀ (n : FieldId), ∀ (f : FrameFound), ∀ (p : Fin 13), ∀ (s : State), s.elapsed < (Store.get {} n.val s.fields).scanAt → exec (.frameScan n f p) s = .next (s)) ∧
  (∀ (u : Fin 9), ∀ (ofs : Fin 65536), ∀ (s : State), u.val = 0 → exec (.tmrVote u ofs none) s = .next (((s.count DRH.TMR_VOTES).set DRH.TMR_LASTOFS ofs).logEvent 0x0401 8 (ofs.val * 2 ^ 16))) ∧
  (∀ (u : Fin 9), ∀ (ofs : Fin 65536), ∀ (s : State), u.val ≠ 0 → exec (.tmrVote u ofs none) s = .next (((s.count DRF.TMR_VOTES 1 (u.val - 1)).set DRF.TMR_LASTOFS ofs (u.val - 1)).logEvent 0x0401 (u.val - 1) (min u.val 1 + ofs.val * 2 ^ 16))) ∧
  (∀ (u : Fin 9), ∀ (ofs : Fin 65536), ∀ (b : Fin 32), ∀ (s : State), u.val = 0 → exec (.tmrVote u ofs (some b)) s = .next (((((s.count DRH.TMR_VOTES).set DRH.TMR_LASTOFS ofs).reload DRH.fields 0 ofs b).set DRH.STAT_TMRFAIL 1).logEvent 0x0402 8 (ofs.val * 2 ^ 16))) ∧
  (∀ (u : Fin 9), ∀ (ofs : Fin 65536), ∀ (b : Fin 32), ∀ (s : State), u.val ≠ 0 → exec (.tmrVote u ofs (some b)) s = .next (((((s.count DRF.TMR_VOTES 1 (u.val - 1)).set DRF.TMR_LASTOFS ofs (u.val - 1)).reload DRF.fields (u.val - 1) ofs b).set DRF.STAT_TMRFAIL 1 (u.val - 1)).logEvent 0x0402 (u.val - 1) (min u.val 1 + ofs.val * 2 ^ 16)))

/-- Basin blocks and reservoirs (R325, R335, R336, R338, R341, R343, R345). Each of these commands completes, in every state and with
all operands that meet the conditions of one of its clauses, with exactly the next state that the clause writes, so that nothing
else changes: basinAccess, reservoirRead, reservoirFetch, reservoirWrite, reservoirLl, reservoirSc, reservoirLock. What accesses
of a basin block and reads, writes, LL, SC, fetches and LOCK of a reservoir do (R325 to R345). -/
def Obligations.ReservoirAndBasinCommands : Prop :=
  (∀ (n : FieldId), ∀ (r : Fin 16), ∀ (i : Fin 84), ∀ (a : Option BasinPort), ∀ (b : Option BasinPort), ∀ (s : State), s.stepRun n 0 = true → s.clocksRun n r = true → (regionGated s n r || !s.bit FCC.STEP_DONE 3 n) = false → exec (.basinAccess n r i a b) s = .next (s.basinCycle (1344 * n.val + 84 * r.val + i.val) false a b)) ∧
  (∀ (n : FieldId), ∀ (r : Fin 16), ∀ (i : Fin 84), ∀ (a : Option BasinPort), ∀ (b : Option BasinPort), ∀ (s : State), s.stepRun n 0 = true → s.clocksRun n r = true → (regionGated s n r || !s.bit FCC.STEP_DONE 3 n) = true → exec (.basinAccess n r i a b) s = .next (s.basinCycle (1344 * n.val + 84 * r.val + i.val) true a b)) ∧
  (∀ (n : FieldId), ∀ (r : Fin 16), ∀ (i : Fin 84), ∀ (a : Option BasinPort), ∀ (b : Option BasinPort), ∀ (s : State), s.clocksRun n r = false → exec (.basinAccess n r i a b) s = .next s) ∧
  (∀ (i : RsvId), ∀ (p : RsvPort), ∀ (x : Fin 4194304), ∀ (len : Fin 64), ∀ (st : List (List RsvBusy)), ∀ (s : State), s.rsvTakes i p = true → exec (.reservoirRead i p x len st) s = .next (s.rsvRead i p x (len + 1) st false)) ∧
  (∀ (i : RsvId), ∀ (p : RsvPort), ∀ (x : Fin 4194304), ∀ (len : Fin 64), ∀ (st : List (List RsvBusy)), ∀ (s : State), s.rsvTakes i p = true → exec (.reservoirFetch i p x len st) s = .next (s.rsvRead i p x (len + 1) st (decide (2 ≤ rsvNum p)))) ∧
  (∀ (i : RsvId), ∀ (c : RsvCycle), ∀ (s : State), exec (.reservoirWrite i c) s = .next (s.used.rsvWrites i ((List.range 8).filterMap fun p => c.writes.find? fun w => rsvNum w.port == p && s.rsvTakes i w.port) c.busy)) ∧
  (∀ (i : RsvId), ∀ (p : RsvPort), ∀ (w : Fin 524288), ∀ (h : Fin 3), ∀ (st : List (List RsvBusy)), ∀ (s : State), s.rsvTakes i p = true → exec (.reservoirLl i p w h st) s = .next (s.rsvLl i p w h st)) ∧
  (∀ (i : RsvId), ∀ (p : RsvPort), ∀ (w : Fin 524288), ∀ (h : Fin 3), ∀ (d : BitVec 64), ∀ (st : List (List RsvBusy)), ∀ (s : State), s.rsvTakes i p = true → exec (.reservoirSc i p w h d st) s = .next (s.rsvSc i p w h d.toNat st)) ∧
  (∀ (i : RsvId), ∀ (s : State), s.barred .RSV (i.val / 4) = none → exec (.reservoirLock i) s = .next ((s.set RSV.CTRL_LOCK 1 i).answer .ok))

/-- Debug units, halts, stimulus ports and trace rings (R470, R473, R474, R476, R478). Each of these commands completes, in every
state and with all operands that meet the conditions of one of its clauses, with exactly the next state that the clause writes, so
that nothing else changes: debugUnitWrite, engineHalt, engineResume, engineStep, haltDeferTimeout, stimulusWrite, fabricStimulus,
traceEnable, tracePacketWrite. What the commands of a field debug block and the trace rings do (R470, R473, R474, R476, R478). -/
def Obligations.DebugCommands : Prop :=
  (∀ (n : FieldId), ∀ (c : Fin 4), ∀ (u : Fin 8), ∀ (r : Fin 4), ∀ (v : Word), ∀ (s : State), s.barred .FDB n = none → exec (.debugUnitWrite n c u r v) s = .next ((s.writeDu n c u r v.toNat).answer .ok)) ∧
  (∀ (g : EngId), ∀ (s : State), s.barred .FDB (g.val / 32) = none → exec (.engineHalt g) s = .next ((s.writeHcmd (g / 32) (g / 8 % 4) (2 ^ (g.val % 8))).answer .ok)) ∧
  (∀ (g : EngId), ∀ (s : State), s.barred .FDB (g.val / 32) = none → exec (.engineResume g) s = .next ((s.writeHcmd (g / 32) (g / 8 % 4) (2 ^ (8 + g.val % 8))).answer .ok)) ∧
  (∀ (g : EngId), ∀ (s : State), s.barred .FDB (g.val / 32) = none → exec (.engineStep g) s = .next ((s.writeHcmd (g / 32) (g / 8 % 4) (2 ^ (16 + g.val % 8))).answer .ok)) ∧
  (∀ (g : EngId), ∀ (t : State), ∀ (s : State), s.rget RIL.ESTAT_STATE g = 1 → (s.eng g).halt.isSome = true → (s.eng g).draining = false → s.haltDeferred g = true → t = s.rilCycles g (64 - (s.eng g).defer) → t.rget RIL.ESTAT_STATE g = 1 → (t.eng g).halt.isSome = true → (t.eng g).draining = false → t.haltDeferred g = true → (t.eng g).defer = 64 → exec (.haltDeferTimeout g) s = .next (t.breakLock g)) ∧
  (∀ (g : EngId), ∀ (s : State), (s.eng g).halt = none → exec (.haltDeferTimeout g) s = .next (s)) ∧
  (∀ (n : FieldId), ∀ (e : Fin 32), ∀ (p : Fin 32), ∀ (v : Word), ∀ (s : State), s.barred .FDB n = none → exec (.stimulusWrite n e p v) s = .next ((s.trace n 0 e p 4 (bytesLE 4 v.toNat)).answer .ok)) ∧
  (∀ (n : FieldId), ∀ (p : Fin 256), ∀ (k : Fin 16), ∀ (d : BitVec 128), ∀ (s : State), s.fabricOpen n 18 = true → k.val ≠ 0 → exec (.fabricStimulus n p k d) s = .next (s.trace n 1 0 p k ((bytesLE 16 d.toNat).take k))) ∧
  (∀ (n : FieldId), ∀ (p : Fin 256), ∀ (d : BitVec 128), ∀ (s : State), s.fabricOpen n 18 = true → exec (.fabricStimulus n p 0 d) s = .next (s.trace n 1 0 p 16 ((bytesLE 16 d.toNat).take 16))) ∧
  (∀ (u : Fin 9), ∀ (v : Word), ∀ (s : State), s.barred (if u.val < 8 then .FDB else .DBG) u = none → exec (.traceEnable u v) s = .next ((s.writeTcfg u v.toNat).answer .ok)) ∧
  (∀ (u : Fin 9), ∀ (s : State), (s.ring u).fifo = [] → exec (.tracePacketWrite u) s = .next (s)) ∧
  (∀ (u : Fin 9), ∀ (p : List Byte), ∀ (rest : List (List Byte)), ∀ (s : State), s.get (ringRegs u).state (ringIx u) = 1 → (s.ring u).fifo = p :: rest → (s.netStore .pwr (ringSrc u) 0 (s.ringBase u + s.ringPtr u) p).2 = .ok → exec (.tracePacketWrite u) s = .next ((s.netStore .pwr (ringSrc u) 0 (s.ringBase u + s.ringPtr u) p).1.ringAdvance u rest)) ∧
  (∀ (u : Fin 9), ∀ (p : List Byte), ∀ (rest : List (List Byte)), ∀ (s : State), s.get (ringRegs u).state (ringIx u) = 1 → (s.ring u).fifo = p :: rest → (s.netStore .pwr (ringSrc u) 0 (s.ringBase u + s.ringPtr u) p).2 = .waits → exec (.tracePacketWrite u) s = .next (s))

/-- The gauge mux (R481, R482). Each of these commands completes, in every state and with all operands that meet the conditions of one
of its clauses, with exactly the next state that the clause writes, so that nothing else changes: gaugeChallenge, gaugeUnlock,
relock, gaugeExpiry, gaugeSelect. What the challenge, GO, RELOCK, the expiry and a selection do (R481, R482). -/
def Obligations.GaugeCommands : Prop :=
  (∀ (s : State), s.barred .GAU 0 = none → exec .gaugeChallenge s = .next (s.gaugeChallenge.answerData (bytesLE 4 (s.gaugeChallenge.get GAU.CHAL 0)))) ∧
  (∀ (s : State), s.barred .GAU 0 = none → let t : State := { s with gau := { s.gau with nonce := false } }; let scope := fieldAt s.token 41 1 % 4; let u := (((t.set GAU.STAT_UNLOCKED 1).set GAU.STAT_SCOPE scope).set GAU.REMAIN (fieldAt s.token 44 4)).logEvent 0x0902 8 (fieldAt s.token 40 1 + scope * 2 ^ 8); exec .gaugeUnlock s = .next ((if s.tokenOk then { u with gau := { u.gau with ends := u.now + fieldAt s.token 44 4 * secUnits } } else (t.set GAU.STAT_TOKERR 1).logEvent 0x0903 8 (fieldAt s.token 40 1)).answer .ok)) ∧
  (∀ (s : State), s.barred .GAU 0 = none → exec .relock s = .next (s.gaugeLock.answer .ok)) ∧
  (∀ (s : State), s.flag GAU.STAT_UNLOCKED = true → s.gau.ends ≤ s.now → exec .gaugeExpiry s = .next (s.gaugeLock)) ∧
  (∀ (s : State), s.flag GAU.STAT_UNLOCKED = false → exec .gaugeExpiry s = .next (s)) ∧
  (∀ (i : Fin 48), ∀ (v : Word), ∀ (s : State), s.barred .GAU 0 = none → s.flag GAU.STAT_UNLOCKED = false → exec (.gaugeSelect i v) s = .next ((s.set GAU.STAT_LOCKERR 1).answer .ok)) ∧
  (∀ (i : Fin 48), ∀ (v : Word), ∀ (s : State), s.barred .GAU 0 = none → s.flag GAU.STAT_UNLOCKED = true → s.bit GAU.STAT_SCOPE 0 = true → i.val < 16 → exec (.gaugeSelect i v) s = .next ((s.wrAll v.toNat [GAU.SEL_EN, GAU.SEL_PROBE] i).answer .ok))

/-- Test access (R230, R483, R484). Each of these commands completes, in every state and with all operands that meet the conditions of
one of its clauses, with exactly the next state that the clause writes, so that nothing else changes: bypass, idcode,
samplePreload, extest, extestPulse, extestTrain, clamp, highz, standalone, lbresult. What the instructions of a TAP do with and
without TEST_EN (R230, R483, R484). -/
def Obligations.TestAccessCommands : Prop :=
  (∀ (d : Fin 9), ∀ (s : State), s.inChain d = true → exec (.bypass d) s = .next (((s.tapTakes d 0xFF false).answer .ok))) ∧
  (∀ (d : Fin 9), ∀ (s : State), s.inChain d = true → exec (.idcode d) s = .next ((((s.tapTakes d 0x01 false).answer .ok).answerData (bytesLE 4 (((s.tapTakes d 0x01 false).answer .ok).idcode d))))) ∧
  (∀ (d : Fin 9), ∀ (a : List Bool), ∀ (b : List Bool), ∀ (s : State), s.inChain d = true → exec (.samplePreload d a b) s = .next (({ ((s.tapTakes d 0x02 false).answer .ok) with tap := { ((s.tapTakes d 0x02 false).answer .ok).tap with cells := Store.put d b ((s.tapTakes d 0x02 false).answer .ok).tap.cells } }).answerData (a.map fun (b : Bool) => if b then (1 : Byte) else 0))) ∧
  (∀ (d : Fin 9), ∀ (s : State), s.inChain d = true → s.tap.testEn = true → exec (.extest d) s = .next (((s.tapTakes d 0x03 true).answer .ok).drive d 0x03)) ∧
  (∀ (d : Fin 9), ∀ (s : State), s.inChain d = true → s.tap.testEn = false → exec (.extest d) s = .next ((s.tapTakes d 0x03 true).answer .ok)) ∧
  (∀ (d : Fin 9), ∀ (s : State), s.inChain d = true → s.tap.testEn = true → exec (.extestPulse d) s = .next (((s.tapTakes d 0x04 true).answer .ok).drive d 0x04)) ∧
  (∀ (d : Fin 9), ∀ (s : State), s.inChain d = true → s.tap.testEn = false → exec (.extestPulse d) s = .next ((s.tapTakes d 0x04 true).answer .ok)) ∧
  (∀ (d : Fin 9), ∀ (s : State), s.inChain d = true → s.tap.testEn = true → exec (.extestTrain d) s = .next (((s.tapTakes d 0x05 true).answer .ok).drive d 0x05)) ∧
  (∀ (d : Fin 9), ∀ (s : State), s.inChain d = true → s.tap.testEn = false → exec (.extestTrain d) s = .next ((s.tapTakes d 0x05 true).answer .ok)) ∧
  (∀ (d : Fin 9), ∀ (s : State), s.inChain d = true → s.tap.testEn = true → exec (.clamp d) s = .next (((s.tapTakes d 0x06 true).answer .ok).drive d 0x06)) ∧
  (∀ (d : Fin 9), ∀ (s : State), s.inChain d = true → s.tap.testEn = false → exec (.clamp d) s = .next ((s.tapTakes d 0x06 true).answer .ok)) ∧
  (∀ (d : Fin 9), ∀ (s : State), s.inChain d = true → s.tap.testEn = true → exec (.highz d) s = .next (((s.tapTakes d 0x07 true).answer .ok).emit (.balls d 0x07 []))) ∧
  (∀ (d : Fin 9), ∀ (s : State), s.inChain d = true → s.tap.testEn = false → exec (.highz d) s = .next ((s.tapTakes d 0x07 true).answer .ok)) ∧
  (∀ (d : Fin 9), ∀ (s : State), s.inChain d = true → s.tap.testEn = true → exec (.standalone d) s = .next (((s.tapTakes d 0x40 true).answer .ok))) ∧
  (∀ (d : Fin 9), ∀ (s : State), s.inChain d = true → s.tap.testEn = false → exec (.standalone d) s = .next ((s.tapTakes d 0x40 true).answer .ok)) ∧
  (∀ (d : Fin 9), ∀ (e : List Word), ∀ (s : State), s.inChain d = true → s.tap.testEn = true → exec (.lbresult d e) s = .next (((s.tapTakes d 0x41 true).answer .ok).answerData ((List.range 10).flatMap fun i => bytesLE 4 (e.getD i 0).toNat))) ∧
  (∀ (d : Fin 9), ∀ (e : List Word), ∀ (s : State), s.inChain d = true → s.tap.testEn = false → exec (.lbresult d e) s = .next ((s.tapTakes d 0x41 true).answer .ok)) ∧
  (∀ (d : Fin 9), ∀ (s : State), s.inChain d = false → exec (.bypass d) s = .next (s))

/-- Modules of a Flume: replays, retrains and the width authority (R209, R220, R221, R229). Each of these commands completes, in every
state and with all operands that meet the conditions of one of its clauses, with exactly the next state that the clause writes, so
that nothing else changes: replay, moduleRetrain, retrainCommand, retrainLaneTestDone, wreport, width, adopt, unable,
widthReplyTimeout, retrainComplete, flumeClockLost, loopbackTest, loopbackDone. What a replay, a retrain, the lane test, WREPORT,
WIDTH, ADOPT, UNABLE and their timeouts do (R209, R220, R221, R229). -/
def Obligations.FlumeModuleCommands : Prop :=
  (∀ (n : FieldId), ∀ (m : Fin 8), ∀ (again : Bool), ∀ (s : State), s.get FLH.MSTAT_STATE n m = 2 → let t := ((s.count FLH.MCNT0_REPLAY 1 n m).count FLF.MCNT0_REPLAY 1 (8 * n.val + m)).count FLF.MCNT1_CRCERR 1 (8 * n.val + m); exec (.replay n m true again) s = .next (t.setMod n m { t.mod n m with failed := if again then (t.mod n m).failed + 1 else 0 })) ∧
  (∀ (n : FieldId), ∀ (m : Fin 8), ∀ (again : Bool), ∀ (s : State), s.get FLH.MSTAT_STATE n m = 2 → let t := ((s.count FLH.MCNT0_REPLAY 1 n m).count FLF.MCNT0_REPLAY 1 (8 * n.val + m)).count FLH.MCNT1_CRCERR 1 n m; exec (.replay n m false again) s = .next (t.setMod n m { t.mod n m with failed := if again then (t.mod n m).failed + 1 else 0 })) ∧
  (∀ (i : SiteId), ∀ (m : Fin 8), ∀ (lost : Bool), ∀ (s : State), lost = true ∨ 8 ≤ (s.mod i m).failed → exec (.moduleRetrain i m lost) s = .next (s.retrain i m)) ∧
  (∀ (i : SiteId), ∀ (m : Fin 8), ∀ (s : State), (s.mod i m).failed < 8 → exec (.moduleRetrain i m false) s = .next (s)) ∧
  (∀ (i : SiteId), ∀ (m : Fin 8), ∀ (s : State), s.barred .FLH 0 = none → exec (.retrainCommand i m) s = .next ((s.writeMctrl i m (1 + 2 * s.get FLH.MCTRL_LBNEAR i m)).answer .ok)) ∧
  (∀ (n : FieldId), ∀ (m : Fin 8), ∀ (hw : BitVec 88), ∀ (fd : BitVec 88), ∀ (s : State), s.get FLH.MSTAT_STATE n m = 3 → (s.mod n m).stage = 0 → let t := s.set FLF.CAP_MAXW (match passes fd.toNat with | c :: _ => comboWidth c | [] => 0) (8 * n.val + m); exec (.retrainLaneTestDone n m hw fd) s = .next (t.setMod n m { t.mod n m with stage := 1, hw := passes hw.toNat, fd := passes fd.toNat, hwFail := hw.toNat, fdFail := fd.toNat })) ∧
  (∀ (n : FieldId), ∀ (m : Fin 8), ∀ (s : State), s.get FLH.MSTAT_STATE n m = 3 → (s.mod n m).stage = 1 → s.get FLF.CAP_MAXW (8 * n.val + m) = s.get FLH.MSTAT_WIDTH n m → exec (.wreport n m) s = .next (s.choose n m (s.mod n m).fd)) ∧
  (∀ (n : FieldId), ∀ (m : Fin 8), ∀ (s : State), s.get FLH.MSTAT_STATE n m = 3 → (s.mod n m).stage = 1 → s.get FLF.CAP_MAXW (8 * n.val + m) ≠ s.get FLH.MSTAT_WIDTH n m → exec (.wreport n m) s = .next ((s.set FLH.MSTAT_DISAGREE 1 n m).sendWidth n m (s.record n m) 2)) ∧
  (∀ (n : FieldId), ∀ (m : Fin 8), ∀ (s : State), s.asking n m = true → (s.mod n m).reply = none → (s.mod n m).fd.contains (s.mod n m).asked = true → exec (.width n m) s = .next (((s.setMod n m { s.mod n m with reply := some true }).set FLF.MSTAT_WIDTH (comboWidth (s.mod n m).asked) (8 * n.val + m)).set FLF.MSTAT_GROUP (comboGroup (s.mod n m).asked) (8 * n.val + m))) ∧
  (∀ (n : FieldId), ∀ (m : Fin 8), ∀ (s : State), s.asking n m = true → (s.mod n m).reply = none → (s.mod n m).fd.contains (s.mod n m).asked = false → exec (.width n m) s = .next ((s.setMod n m { s.mod n m with reply := some false }).set FLF.MSTAT_ADOPTFAIL 1 (8 * n.val + m))) ∧
  (∀ (n : FieldId), ∀ (m : Fin 8), ∀ (s : State), s.asking n m = true → (s.mod n m).reply = some true → exec (.adopt n m) s = .next (s.adopt n m)) ∧
  (∀ (n : FieldId), ∀ (m : Fin 8), ∀ (s : State), s.asking n m = true → (s.mod n m).reply = some false → exec (.unable n m) s = .next (s.unable n m)) ∧
  (∀ (n : FieldId), ∀ (m : Fin 8), ∀ (s : State), s.asking n m = true → exec (.widthReplyTimeout n m) s = .next (s.unable n m)) ∧
  (∀ (n : FieldId), ∀ (m : Fin 8), ∀ (s : State), s.asking n m = false → exec (.widthReplyTimeout n m) s = .next (s)) ∧
  (∀ (n : FieldId), ∀ (m : Fin 8), ∀ (s : State), s.get FLH.MSTAT_STATE n m = 3 → (s.mod n m).stage = 4 → exec (.retrainComplete n m) s = .next (((((s.moduleUp n m (s.record n m) (s.mod n m).hwFail (s.mod n m).fdFail).setMod n m {}).relive n).setBitOf CLK.LOCK (8 + n)).wires)) ∧
  (∀ (i : SiteId), ∀ (s : State), exec (.flumeClockLost i) s = .next ((List.range 8).foldl (fun s m => if i.val < 8 ∨ m < 2 then s.retrain i m else s) ((s.clearBitOf CLK.LOCK (8 + i)).setBitOf CLK.UNLK (8 + i)))) ∧
  (∀ (n : FieldId), ∀ (m : Fin 8), ∀ (near : Bool), ∀ (s : State), s.barred .FLH 0 = none → exec (.loopbackTest n m near) s = .next ((s.writeMctrl n m (4 + 2 * near.toNat)).answer .ok)) ∧
  (∀ (n : FieldId), ∀ (m : Fin 8), ∀ (errs : Nat), ∀ (bad : BitVec 88), ∀ (s : State), s.get FLH.MSTAT_STATE n m = 5 → let t := (s.count FLH.LBERR errs n m).set FLH.MSTAT_LBDONE 1 n m; exec (.loopbackDone n m errs bad) s = .next ((((t.set FLH.MSTAT_STATE (t.mod n m).back n m).set FLH.LBLANE0 bad.toNat n m).set FLH.LBLANE1 (bad.toNat / 2 ^ 32) n m).set FLH.LBLANE2 (bad.toNat / 2 ^ 64) n m))

/-- Fences, the heartbeat, the alarm line and turnouts (R212, R215, R222, R224, R225, R226, R227, R228). Each of these commands
completes, in every state and with all operands that meet the conditions of one of its clauses, with exactly the next state that
the clause writes, so that nothing else changes: heartbeatLoss, alarmLow, alarmCause, fence, swFence, turnoutTrain, turnoutUnit,
turnoutLinkTimeout. What a lost heartbeat, a low alarm line, a cause message, the FENCE message, a software fence and the events
of a turnout do (R212, R215, R222 to R228). -/
def Obligations.FenceAndTurnoutCommands : Prop :=
  (∀ (n : FieldId), ∀ (s : State), s.siteLive n = true → exec (.heartbeatLoss n) s = .next ((s.set FLH.SB_HBLOST 1 n).rollFence n 0x0D)) ∧
  (∀ (n : FieldId), ∀ (s : State), s.siteLive n = false → exec (.heartbeatLoss n) s = .next (s)) ∧
  (∀ (n : FieldId), ∀ (s : State), exec (.alarmLow n) s = .next ((s.set FLH.SB_ALARM 1 n).rollFence n 0x0C)) ∧
  (∀ (n : FieldId), ∀ (c : Fin 3), ∀ (s : State), c.val < 2 → s.get FLH.RC_STATUS n = 8 → s.get FLH.RC_FAIL n = 0x0C → s.now / 2 ^ 16 ≤ s.stampOf fenceTs n / 2 ^ 16 + 2000 * 2 ^ 16 → exec (.alarmCause n c) s = .next (s.set FLH.RC_FAIL (9 + c.val) n)) ∧
  (∀ (n : FieldId), ∀ (s : State), let t := s.set FLH.SB_ALARM 0 n; t.get FLH.RC_STATUS n = 8 → t.get FLH.RC_FAIL n = 0x0C → t.now / 2 ^ 16 ≤ s.stampOf fenceTs n / 2 ^ 16 + 2000 * 2 ^ 16 → exec (.alarmCause n 2) s = .next (t.set FLH.RC_FAIL 0x0B n)) ∧
  (∀ (n : FieldId), ∀ (c : Fin 3), ∀ (s : State), c.val < 2 → s.get FLH.RC_FAIL n ≠ 0x0C → exec (.alarmCause n c) s = .next s) ∧
  (∀ (n : FieldId), ∀ (s : State), s.get FLH.RC_STATUS n = 8 → exec (.fence n) s = .next (s.fenceMessage n)) ∧
  (∀ (n : FieldId), ∀ (s : State), s.get FLH.RC_STATUS n ≠ 8 → exec (.fence n) s = .next (s)) ∧
  (∀ (i : SiteId), ∀ (s : State), s.barred .FLH 0 = none → i.val < 8 → exec (.swFence i) s = .next (((s.set FLH.CTRL_FENCE 1 i).rollFence i 0x0E).answer .ok)) ∧
  (∀ (i : SiteId), ∀ (s : State), let t := s.set FLH.CTRL_FENCE 1 i; s.barred .FLH 0 = none → 8 ≤ i.val → t.get TRN.STAT_STATE (i - 8) ≠ 0 → exec (.swFence i) s = .next ((t.rollFence i 0x0E).answer .ok)) ∧
  (∀ (i : SiteId), ∀ (s : State), let t := s.set FLH.CTRL_FENCE 1 i; s.barred .FLH 0 = none → 8 ≤ i.val → t.get TRN.STAT_STATE (i - 8) = 0 → exec (.swFence i) s = .next (t.answer .ok)) ∧
  (∀ (t : Fin 2), ∀ (g : GuestTrain), ∀ (s : State), s.get TRN.STAT_STATE t = 1 ∨ s.get TRN.STAT_STATE t = 2 ∨ s.get TRN.STAT_STATE t = 4 → s.siteLive (8 + t.val) = true → exec (.turnoutTrain t g) s = .next (s.turnTrain t g)) ∧
  (∀ (t : Fin 2), ∀ (m : Fin 2), ∀ (b : List Byte), ∀ (s : State), s.get TRN.STAT_STATE t = 3 → exec (.turnoutUnit t m b) s = .next (s.turnUnit t m b)) ∧
  (∀ (t : Fin 2), ∀ (m : Fin 2), ∀ (b : List Byte), ∀ (s : State), s.get TRN.STAT_STATE t ≠ 3 → exec (.turnoutUnit t m b) s = .next (s)) ∧
  (∀ (t : Fin 2), ∀ (s : State), exec (.turnoutLinkTimeout t) s = .next (s.fence (8 + t.val) 0x10))

/-- Roll call, copy-in, release and start-up (R44, R45, R213, R214, R216, R416, R417, R419, R422, R424, R425). Each of these commands
completes, in every state and with all operands that meet the conditions of one of its clauses, with exactly the next state that
the clause writes, so that nothing else changes: serviceEntry, recoveryAccessEntry, sidebandUp, rollCallStart, roll,
modulesTrained, key, fieldLoadDone, fieldReady, admitTimeout, releasePoint, syncTimeout, startupStep, fabricPllLock,
fabricPllLockTimeout. What the steps of roll call, field copy-in, the release point, the start-up steps and entry into service do
(R44, R45, R213 to R216, R416 to R425). -/
def Obligations.RollCallCommands : Prop :=
  (∀ (s : State), s.hostReady = true → s.boot.admitted = true → exec .serviceEntry s = .next (s.set GLB.SERV_STATE 2)) ∧
  (∀ (s : State), s.hostReady = false → exec .serviceEntry s = .next (s)) ∧
  (∀ (s : State), s.hostReady = true → s.boot.ended = true → s.boot.admitted = false → exec .recoveryAccessEntry s = .next (s.set GLB.SERV_STATE 1)) ∧
  (∀ (n : FieldId), ∀ (s : State), s.get FLH.RC_STATUS n = 1 → exec (.sidebandUp n true) s = .next ((s.set FLH.RC_STATUS 2 n).set FLH.SB_UP 1 n)) ∧
  (∀ (n : FieldId), ∀ (s : State), s.get FLH.RC_STATUS n = 1 → exec (.sidebandUp n false) s = .next ((s.fence n 1).rollEnd)) ∧
  (∀ (s : State), s.boot.rolling = true → exec .rollCallStart s = .next (s)) ∧
  (∀ (s : State), s.boot.inReset = false → s.boot.rolling = false → exec .rollCallStart s = .next (s.rollStart)) ∧
  (∀ (n : FieldId), ∀ (d : Fin 16), ∀ (r : Fin 16), ∀ (st : Fin 8), ∀ (ser : BitVec 64), ∀ (rep : List Word), ∀ (s : State), s.get FLH.RC_STATUS n = 2 → exec (.roll n d r st ser rep) s = .next (s.rollDie n d r st ser.toNat rep)) ∧
  (∀ (n : FieldId), ∀ (hw : List (BitVec 88)), ∀ (fd : List (BitVec 88)), ∀ (s : State), s.get FLH.RC_STATUS n = 3 → countBits (s.get FLH.MODES_WMODE n) 8 ≤ 6 → exec (.modulesTrained n hw fd) s = .next (s.trainModules n hw fd)) ∧
  (∀ (n : FieldId), ∀ (ok : Bool), ∀ (s : State), s.get FLH.RC_STATUS n = 4 → s.get FCC.STAT_PHASE n = 0 → s.get FWU.STAT_STATE ≠ 5 → exec (.key n ok) s = .next (s.keyArrives n ok)) ∧
  (∀ (n : FieldId), ∀ (us : Fin 65536), ∀ (ok : Bool), ∀ (det : List (Fin 8)), ∀ (s : State), s.get FCC.STAT_PHASE n = 2 → s.flag FLF.FSTAT_FENCED (8 * n.val) = false → exec (.fieldLoadDone n us ok det) s = .next (s.fieldLoaded n us ok det)) ∧
  (∀ (n : FieldId), ∀ (s : State), s.get FLH.RC_STATUS n = 4 → s.get FCC.STAT_PHASE n = 4 → s.flag FTS.STAT_LOCK n = true → s.flag FTS.STAT_CALDONE n = true → exec (.fieldReady n) s = .next (s.admitField n)) ∧
  (∀ (n : FieldId), ∀ (s : State), 1 ≤ s.get FLH.RC_STATUS n → s.get FLH.RC_STATUS n ≤ 4 → exec (.admitTimeout n) s = .next ((s.fence n 8).rollEnd)) ∧
  (∀ (n : FieldId), ∀ (s : State), s.get FLH.RC_STATUS n ≠ 4 → exec (.fieldReady n) s = .next (s)) ∧
  (∀ (level : Bool), ∀ (s : State), (s.setB RST.SYNC_LEVEL level).mayRelease = false → exec (.releasePoint level) s = .next (s.setB RST.SYNC_LEVEL level)) ∧
  (∀ (level : Bool), ∀ (s : State), (s.setB RST.SYNC_LEVEL level).mayRelease = true → (s.setB RST.SYNC_LEVEL level).flag RST.SYNC_SYNCEN = false → exec (.releasePoint level) s = .next ((s.setB RST.SYNC_LEVEL level).releaseAt ((s.setB RST.SYNC_LEVEL level).boot.readyAt.getD 0))) ∧
  (∀ (s : State), (s.setB RST.SYNC_LEVEL true).mayRelease = true → (s.setB RST.SYNC_LEVEL true).flag RST.SYNC_SYNCEN = true → exec (.releasePoint true) s = .next ((s.setB RST.SYNC_LEVEL true).releaseAt s.now)) ∧
  (∀ (s : State), s.mayRelease = true → s.flag RST.SYNC_SYNCEN = true → s.get RST.SYNC_TIMEOUT ≠ 0 → s.boot.readyAt.getD 0 + s.get RST.SYNC_TIMEOUT * msUnits ≤ s.now → exec .syncTimeout s = .next ((s.releaseAt (s.boot.readyAt.getD 0 + s.get RST.SYNC_TIMEOUT * msUnits)).set RST.SYNC_SYNCTMO 1)) ∧
  (∀ (n : FieldId), ∀ (s : State), s.flag RST.SYNC_RELEASED = false → exec (.startupStep n) s = .next (s)) ∧
  (∀ (n : FieldId), ∀ (s : State), s.flag RST.SYNC_RELEASED = true → s.bit FPW.DON 0 n = true → s.get FCC.STAT_PHASE n = 6 → s.stepsDone n ≠ 0 → Store.get 0 n s.boot.stepAt + usUnits ≤ s.fieldNow n → s.boot.lockWait.contains n.val = false → stepCode (s.get FCC.STEP_ORDER n) (s.stepsDone n) ≠ 0 → exec (.startupStep n) s = .next (s.stepDone n)) ∧
  (∀ (n : FieldId), ∀ (i : Fin 6), ∀ (s : State), s.bit FLD.PLL_USED i n = true → s.get FCC.STAT_PHASE n = 3 → (s.setBitOf FLD.PLL_LOCK i n).pllsLocked n = true → (s.setBitOf FLD.PLL_LOCK i n).get FCC.STAT_PHASE n = 3 → exec (.fabricPllLock n i) s = .next ((s.setBitOf FLD.PLL_LOCK i n).set FCC.STAT_PHASE 4 n)) ∧
  (∀ (n : FieldId), ∀ (i : Fin 6), ∀ (s : State), s.bit FLD.PLL_USED i n = true → 3 ≤ s.get FCC.STAT_PHASE n → s.get FCC.STAT_PHASE n ≤ 7 → (s.setBitOf FLD.PLL_LOCK i n).pllsLocked n = false → exec (.fabricPllLock n i) s = .next (s.setBitOf FLD.PLL_LOCK i n)) ∧
  (∀ (n : FieldId), ∀ (s : State), s.pllsLocked n = true → exec (.fabricPllLockTimeout n) s = .next (s)) ∧
  (∀ (n : FieldId), ∀ (s : State), s.pllsLocked n = false → s.get FCC.STAT_PHASE n = 3 → exec (.fabricPllLockTimeout n) s = .next (s.copyInFail n 0x10)) ∧
  (∀ (n : FieldId), ∀ (s : State), s.pllsLocked n = false → s.get FCC.STAT_PHASE n ≠ 3 → s.boot.lockWait.contains n.val = true → exec (.fabricPllLockTimeout n) s = .next (((s.set FCC.STAT_LOCKLATE 1 n).set FLD.STAT_PLLUNLK 1 n).stepDone n))

/-- Swaps of a parcel (R429, R430, R431, R432). Each of these commands completes, in every state and with all operands that meet the
conditions of one of its clauses, with exactly the next state that the clause writes, so that nothing else changes: parcelSwap,
parcelDrained, parcelWritten, parcelActive, parcelWedged. What the commands of a parcel swap do (R429 to R432). -/
def Obligations.ParcelCommands : Prop :=
  (∀ (n : FieldId), ∀ (v : Word), ∀ (src : Fin 4096), ∀ (s : State), s.barred .FCC n = none → exec (.parcelSwap n v src) s = .next ((s.writePcmd n v.toNat src).answer .ok)) ∧
  (∀ (n : FieldId), ∀ (w : SwapSt), ∀ (s : State), s.swap n = some w → w.drained = none → w.t0 + usFs ≤ s.elapsed → s.parcelQuiet n w.parcel = true → let us := (s.elapsed - w.t0 - usFs) / usFs; let t := s.opMove w.entry 2 0 [(s.op w.entry).opspec.getD 0 0, (s.op w.entry).opspec.getD 1 0, us]; exec (.parcelDrained n) s = .next (if t.swapError n w.parcel w.src ≠ 0 then t.swapBlank n w (t.swapError n w.parcel w.src) else t.setSwap n { w with drained := some us, drainedAt := s.elapsed, pieceAt := s.elapsed + 10 * usFs })) ∧
  (∀ (n : FieldId), ∀ (w : SwapSt), ∀ (s : State), s.swap n = some w → w.drained.isSome = true → w.written = false → w.drainedAt + 10 * usFs ≤ s.elapsed → exec (.parcelWritten n false) s = .next (s.swapBlank n w 0x0605)) ∧
  (∀ (n : FieldId), ∀ (w : SwapSt), ∀ (s : State), s.swap n = some w → w.drained.isSome = true → w.written = false → w.drainedAt + 10 * usFs ≤ s.elapsed → let q := s.swapSource n w.src; let t := (s.loadBasins n (84 * (4 + w.parcel)) 84 (s.bodyAt n q.1)).swapFab n w.parcel (s.bodyAt n q.1).fab; exec (.parcelWritten n true) s = .next (if s.tagOk n q.1 q.2.1 q.2.2.1 then (t.opMove w.entry 2 65536 (s.op w.entry).opspec).setSwap n { w with written := true, writtenAt := s.elapsed } else s.swapBlank n w 0x0606)) ∧
  (∀ (n : FieldId), ∀ (w : SwapSt), ∀ (s : State), s.swap n = some w → w.written = true → w.writtenAt + 2 * usFs ≤ s.elapsed → let a := (s.swapSource n w.src).1; let t := (s.replace n w.parcel (s.bodyAt n a)).set FCC.PVER (s.hdrVer n a) n w.parcel; exec (.parcelActive n) s = .next (((((t.set FCC.PSTAT_STATE 0 n w.parcel).set FCC.PSTAT_SRC w.src n w.parcel).wrap FCC.PSTAT_SWAPS 1 n w.parcel).endSwap n).opDone w.entry)) ∧
  (∀ (n : FieldId), ∀ (w : SwapSt), ∀ (s : State), s.swap n = some w → w.drained = none → w.t0 + 1000 * usFs ≤ s.elapsed → exec (.parcelWedged n) s = .next (((s.set FCC.PSTAT_STATE 3 n w.parcel).endSwap n).opFail w.entry 0x0602))

/-- Commands and states of a Furrow sequencer (R133, R137, R138, R139, R151). Each of these commands completes, in every state and
with all operands that meet the conditions of one of its clauses, with exactly the next state that the clause writes, so that
nothing else changes: furrowOwnSelect, furrowLoad, furrowArm, furrowGo, furrowStop, furrowAbort, furrowDisarm, furrowLoadDone,
furrowPrimed, furrowLaunch, furrowDone, furrowSourceError. What OWN, LOAD, ARM, GO, STOP, ABORT and DISARM do in the states that
list them, and what a state that does not list them answers (R133, R137 to R139, R151). -/
def Obligations.FurrowCommands : Prop :=
  (∀ (l : LaneId), ∀ (own : Bool), ∀ (s : State), s.barred .FUR (fieldOf l) = none → own ≠ s.flag FUR.CTRL_OWN l → ¬ (s.get FUR.STAT_STATE l = 2 ∨ s.get FUR.STAT_STATE l = 3 ∨ s.get FUR.STAT_STATE l = 4) → exec (.furrowOwnSelect l own) s = .next ((s.setB FUR.CTRL_OWN own l).answer .ok)) ∧
  (∀ (l : LaneId), ∀ (own : Bool), ∀ (s : State), s.barred .FUR (fieldOf l) = none → own ≠ s.flag FUR.CTRL_OWN l → s.get FUR.STAT_STATE l = 4 → exec (.furrowOwnSelect l own) s = .next ((s.set FUR.STAT_CMDERR 1 l).answer .ok)) ∧
  (∀ (l : LaneId), ∀ (s : State), s.barred .FUR (fieldOf l) = none → (s.wakeQuad (quadOf l)).get FUR.STAT_STATE l = 0 → exec (.furrowLoad l) s = .next ((((s.wakeQuad (quadOf l)).set FUR.STAT_STATE 7 l).set FUR.STAT_ERR 0 l).answer .ok)) ∧
  (∀ (l : LaneId), ∀ (s : State), s.barred .FUR (fieldOf l) = none → (s.wakeQuad (quadOf l)).get FUR.STAT_STATE l = 4 → exec (.furrowLoad l) s = .next (((s.wakeQuad (quadOf l)).set FUR.STAT_CMDERR 1 l).answer .ok)) ∧
  (∀ (l : LaneId), ∀ (s : State), s.barred .FUR (fieldOf l) = none → (s.wakeQuad (quadOf l)).flag FLF.FSTAT_FENCED (8 * fieldOf l) = false → furRested ((s.wakeQuad (quadOf l)).get FUR.STAT_STATE l) = true → (s.wakeQuad (quadOf l)).furCheckArm l = 0 → exec (.furrowArm l) s = .next ((((((s.wakeQuad (quadOf l)).set FUR.STAT_STATE 2 l).set FUR.STAT_ERR 0 l).furReset l)).answer .ok)) ∧
  (∀ (l : LaneId), ∀ (s : State), s.barred .FUR (fieldOf l) = none → (s.wakeQuad (quadOf l)).flag FLF.FSTAT_FENCED (8 * fieldOf l) = false → furRested ((s.wakeQuad (quadOf l)).get FUR.STAT_STATE l) = true → (s.wakeQuad (quadOf l)).furCheckArm l ≠ 0 → exec (.furrowArm l) s = .next ((((s.wakeQuad (quadOf l)).set FUR.STAT_STATE 1 l).set FUR.STAT_ERR ((s.wakeQuad (quadOf l)).furCheckArm l) l).answer .ok)) ∧
  (∀ (l : LaneId), ∀ (s : State), s.barred .FUR (fieldOf l) = none → (s.wakeQuad (quadOf l)).flag FLF.FSTAT_FENCED (8 * fieldOf l) = false → furRested ((s.wakeQuad (quadOf l)).get FUR.STAT_STATE l) = false → exec (.furrowArm l) s = .next (((s.wakeQuad (quadOf l)).set FUR.STAT_CMDERR 1 l).answer .ok)) ∧
  (∀ (l : LaneId), ∀ (s : State), s.barred .FUR (fieldOf l) = none → (s.wakeQuad (quadOf l)).flag FLF.FSTAT_FENCED (8 * fieldOf l) = true → exec (.furrowArm l) s = .next ((s.wakeQuad (quadOf l)).answer .ok)) ∧
  (∀ (l : LaneId), ∀ (s : State), s.barred .FUR (fieldOf l) = none → s.get FUR.STAT_STATE l = 3 → s.flag FUR.CTRL_TIMED l = false → exec (.furrowGo l) s = .next ((s.furRun l (s.fieldNow (fieldOf l))).answer .ok)) ∧
  (∀ (l : LaneId), ∀ (s : State), s.barred .FUR (fieldOf l) = none → s.get FUR.STAT_STATE l ≠ 3 → exec (.furrowGo l) s = .next ((s.set FUR.STAT_CMDERR 1 l).answer .ok)) ∧
  (∀ (l : LaneId), ∀ (s : State), s.barred .FUR (fieldOf l) = none → s.get FUR.STAT_STATE l = 4 → (s.fur l).sending = none → exec (.furrowStop l) s = .next ((s.furEnd l).answer .ok)) ∧
  (∀ (l : LaneId), ∀ (s : State), s.barred .FUR (fieldOf l) = none → s.get FUR.STAT_STATE l = 4 → (s.fur l).sending.isSome = true → exec (.furrowStop l) s = .next ((s.setFur l { s.fur l with stop := true }).answer .ok)) ∧
  (∀ (l : LaneId), ∀ (s : State), s.barred .FUR (fieldOf l) = none → s.get FUR.STAT_STATE l ≠ 4 → exec (.furrowStop l) s = .next ((s.set FUR.STAT_CMDERR 1 l).answer .ok)) ∧
  (∀ (l : LaneId), ∀ (s : State), s.barred .FUR (fieldOf l) = none → s.get FUR.STAT_STATE l = 4 → exec (.furrowAbort l) s = .next (((s.furBreak l).furEnd l).answer .ok)) ∧
  (∀ (l : LaneId), ∀ (s : State), s.barred .FUR (fieldOf l) = none → s.get FUR.STAT_STATE l ≠ 4 → exec (.furrowAbort l) s = .next ((s.set FUR.STAT_CMDERR 1 l).answer .ok)) ∧
  (∀ (l : LaneId), ∀ (s : State), s.barred .FUR (fieldOf l) = none → s.get FUR.STAT_STATE l = 2 ∨ s.get FUR.STAT_STATE l = 3 ∨ s.get FUR.STAT_STATE l = 5 ∨ s.get FUR.STAT_STATE l = 6 → exec (.furrowDisarm l) s = .next ((s.set FUR.STAT_STATE 1 l).answer .ok)) ∧
  (∀ (l : LaneId), ∀ (s : State), s.barred .FUR (fieldOf l) = none → ¬ (s.get FUR.STAT_STATE l = 2 ∨ s.get FUR.STAT_STATE l = 3 ∨ s.get FUR.STAT_STATE l = 5 ∨ s.get FUR.STAT_STATE l = 6) → exec (.furrowDisarm l) s = .next ((s.set FUR.STAT_CMDERR 1 l).answer .ok)) ∧
  (∀ (l : LaneId), ∀ (s : State), s.get FUR.STAT_STATE l = 7 → exec (.furrowLoadDone l) s = .next (s.furLoadDone l)) ∧
  (∀ (l : LaneId), ∀ (s : State), s.get FUR.STAT_STATE l = 2 → s.furCheckPrimed l = 0 → exec (.furrowPrimed l) s = .next ((s.set FUR.STAT_STATE 3 l).set FUR.STAT_ERR 0 l)) ∧
  (∀ (l : LaneId), ∀ (s : State), s.get FUR.STAT_STATE l = 2 → s.furCheckPrimed l = 8 → exec (.furrowPrimed l) s = .next ((s.set FUR.STAT_STATE 1 l).set FUR.STAT_ERR 8 l)) ∧
  (∀ (l : LaneId), ∀ (s : State), s.get FUR.STAT_STATE l = 3 → s.flag FUR.CTRL_TIMED l = true → s.furLaunch l ≤ s.fieldNow (fieldOf l) → exec (.furrowLaunch l) s = .next (s.furRun l (s.furLaunch l))) ∧
  (∀ (l : LaneId), ∀ (s : State), s.get FUR.STAT_STATE l = 4 → (s.fur l).sending = none → (s.fur l).stop = true ∨ (s.fur l).ended = true → exec (.furrowDone l) s = .next (s.furEnd l)) ∧
  (∀ (l : LaneId), ∀ (f : TxFrame), ∀ (s : State), (s.fur l).sending = some f → exec (.furrowDone l) s = .next (s)) ∧
  (∀ (l : LaneId), ∀ (s : State), s.get FUR.STAT_STATE l = 4 → exec (.furrowSourceError l) s = .next (((s.furBreak l).set FUR.STAT_STATE 6 l).set FUR.STAT_ERR 9 l))

/-- Pattern instructions (R141, R142, R143, R144, R146, R147, R148, R149, R150). Each of these commands completes, in every state and
with all operands that meet the conditions of one of its clauses, with exactly the next state that the clause writes, so that
nothing else changes: furNop, furSend, furRepeat, waitTime, waitFloat, jump, loop, insertCounter, insertTimestamp, recomputeFcs,
inject, furHalt, waitTimeElapsed, waitFloatTimeout, frameStart, underrun. What each pattern instruction does when a running
sequencer is ready and it stands at PC (R141 to R150). -/
def Obligations.FurrowInstructions : Prop :=
  (∀ (l : LaneId), ∀ (s : State), s.furReady l false = true → s.furInstr l = some (.nop) → exec (.furNop l) s = .next (s.furNext l)) ∧
  (∀ (l : LaneId), ∀ (data : List Byte), ∀ (d : Nat), ∀ (more : Bool), ∀ (cur : Bool), ∀ (off : Nat), ∀ (len : Nat), ∀ (s : State), s.furReady l false = true → s.furInstr l = some (.send d more cur off len) → exec (.furSend l data) s = .next (s.furSendAt l d more cur off len data)) ∧
  (∀ (l : LaneId), ∀ (c : Nat), ∀ (s : State), s.furReady l false = true → s.furInstr l = some (.repeat_ c) → exec (.furRepeat l) s = .next ((s.setFur l { s.fur l with rep := some (if c = 0 then none else some c) }).furGoto l (s.get FUR.PC l + 1))) ∧
  (∀ (l : LaneId), ∀ (abs : Bool), ∀ (dur : Nat), ∀ (s : State), s.furReady l true = true → s.furInstr l = some (.waitTime abs dur) → exec (.waitTime l) s = .next ((s.setFur l { s.fur l with waitTime := some (abs, dur), first := false }).furNext l)) ∧
  (∀ (l : LaneId), ∀ (line : Nat), ∀ (goal : Nat), ∀ (tm : Nat), ∀ (s : State), s.furReady l true = true → s.furInstr l = some (.waitFloat line goal tm) → exec (.waitFloat l) s = .next ((s.furNext l).setFur l { (s.furNext l).fur l with waitFloat := some (line, goal, decide (tm ≠ 0)), save := some (((s.furNext l).fur l).regs, (List.range 4).map fun c => (s.furNext l).get FUR.LC l c), first := false })) ∧
  (∀ (l : LaneId), ∀ (t : Nat), ∀ (s : State), s.furReady l false = true → s.furInstr l = some (.jump t) → exec (.jump l) s = .next (s.furGoto l t)) ∧
  (∀ (l : LaneId), ∀ (c : Nat), ∀ (t : Nat), ∀ (s : State), s.furReady l false = true → s.furInstr l = some (.loop c t 0) → exec (.loop l) s = .next ((s.set FUR.LC (if s.get FUR.LC l c = 0 then 0 else s.get FUR.LC l c) l c).furGoto l t)) ∧
  (∀ (l : LaneId), ∀ (c : Nat), ∀ (t : Nat), ∀ (n : Nat), ∀ (s : State), s.furReady l false = true → s.furInstr l = some (.loop c t n) → n ≠ 0 → (if s.get FUR.LC l c = 0 then n else s.get FUR.LC l c) - 1 ≠ 0 → exec (.loop l) s = .next ((s.set FUR.LC ((if s.get FUR.LC l c = 0 then n else s.get FUR.LC l c) - 1) l c).furGoto l t)) ∧
  (∀ (l : LaneId), ∀ (c : Nat), ∀ (t : Nat), ∀ (n : Nat), ∀ (s : State), s.furReady l false = true → s.furInstr l = some (.loop c t n) → n ≠ 0 → (if s.get FUR.LC l c = 0 then n else s.get FUR.LC l c) - 1 = 0 → exec (.loop l) s = .next ((s.set FUR.LC 0 l c).furGoto l ((s.set FUR.LC 0 l c).get FUR.PC l + 1))) ∧
  (∀ (l : LaneId), ∀ (k : Nat), ∀ (en : Bool), ∀ (w : Nat), ∀ (be : Bool), ∀ (off : Nat), ∀ (sp : Nat), ∀ (s : State), s.furReady l false = true → s.furInstr l = some (.insertCounter k en true w be off sp) → exec (.insertCounter l) s = .next ((s.setFurRegs l { (s.fur l).regs with slots := Store.set {} k ⟨en, w, be, off, sp, s.get2 FUR.CINIT_LO FUR.CINIT_HI l k % 2 ^ (8 * (w + 1))⟩ (s.fur l).regs.slots }).furNext l)) ∧
  (∀ (l : LaneId), ∀ (k : Nat), ∀ (en : Bool), ∀ (w : Nat), ∀ (be : Bool), ∀ (off : Nat), ∀ (sp : Nat), ∀ (s : State), s.furReady l false = true → s.furInstr l = some (.insertCounter k en false w be off sp) → exec (.insertCounter l) s = .next ((s.setFurRegs l { (s.fur l).regs with slots := Store.set {} k ⟨en, w, be, off, sp, (Store.get {} k (s.fur l).regs.slots).value % 2 ^ (8 * (w + 1))⟩ (s.fur l).regs.slots }).furNext l)) ∧
  (∀ (l : LaneId), ∀ (en : Bool), ∀ (f : Nat), ∀ (off : Nat), ∀ (s : State), s.furReady l false = true → s.furInstr l = some (.insertTs en f off) → exec (.insertTimestamp l) s = .next ((s.setFurRegs l { (s.fur l).regs with tsSlot := ⟨en, f, off⟩ }).furNext l)) ∧
  (∀ (l : LaneId), ∀ (m : Nat), ∀ (s : State), s.furReady l false = true → s.furInstr l = some (.fcs m) → exec (.recomputeFcs l) s = .next ((s.setFurRegs l { (s.fur l).regs with fcsMode := m }).furNext l)) ∧
  (∀ (l : LaneId), ∀ (p : Nat), ∀ (n : Nat), ∀ (b : Nat), ∀ (k : Nat), ∀ (s : State), s.furReady l false = true → s.furInstr l = some (.inject 0 p n b k) → exec (.inject l) s = .next ((s.setFurRegs l { (s.fur l).regs with injBit := some ⟨p, n, b⟩ }).furNext l)) ∧
  (∀ (l : LaneId), ∀ (p : Nat), ∀ (n : Nat), ∀ (b : Nat), ∀ (k : Nat), ∀ (s : State), s.furReady l false = true → s.furInstr l = some (.inject 3 p n b k) → exec (.inject l) s = .next ((s.setFurRegs l { (s.fur l).regs with skew := k }).furNext l)) ∧
  (∀ (l : LaneId), ∀ (s : State), s.furReady l false = true → s.furInstr l = some (.halt) → exec (.furHalt l) s = .next (s.setFur l { s.fur l with halted := true })) ∧
  (∀ (l : LaneId), ∀ (abs : Bool), ∀ (dur : Nat), ∀ (s : State), (s.fur l).waitTime = some (abs, dur) → s.waitOver l abs dur = true → s.get FUR.STAT_STATE l = 4 → exec (.waitTimeElapsed l) s = .next (s.setFur l { s.fur l with waitTime := none })) ∧
  (∀ (l : LaneId), ∀ (abs : Bool), ∀ (dur : Nat), ∀ (s : State), (s.fur l).waitTime = some (abs, dur) → s.fieldNow (fieldOf l) < (if abs then (s.fur l).launch else (s.fur l).prevEnd) + dur * 2 ^ 24 → exec (.waitTimeElapsed l) s = .next (s)) ∧
  (∀ (l : LaneId), ∀ (a : Nat), ∀ (t : Nat), ∀ (r : FurRegs), ∀ (lcs : List Nat), ∀ (s : State), (s.fur l).waitFloat = some (a, t, true) → (s.fur l).save = some (r, lcs) → s.get FUR.STAT_STATE l = 4 → exec (.waitFloatTimeout l) s = .next (((((List.range 4).foldl (fun s c => s.set FUR.LC (lcs.getD c 0) l c) s).setFur l { s.fur l with regs := r, waitFloat := none, save := none, halted := false, build := [], whole := false, got := 0, rep := none }).set FUR.STAT_WFTO 1 l).furGoto l t)) ∧
  (∀ (l : LaneId), ∀ (s : State), s.anchorOf l = none → exec (.frameStart l) s = .next (s)) ∧
  (∀ (l : LaneId), ∀ (a : Nat), ∀ (t : State), ∀ (s : State), s.anchorOf l = some a → s.furTurn a = some l.val → s.lineFree a = true → s.get PCS.CTRL_MODE a ≠ 3 → s.time.tclk = true → t = s.setPort a { s.port a with txTurn := (l - a + 1) % s.portSize a } → exec (.frameStart l) s = .next (t.used.furStart l (t.get PCS.CTRL_MODE a) (t.startStamp l (a + t.openValue .txLane % t.portSize a)))) ∧
  (∀ (l : LaneId), ∀ (s : State), s.startLate l = true → exec (.underrun l false) s = .next ((s.count FUR.EVCNT_UNDR 1 l).set FUR.STAT_UNDERRUN 1 l)) ∧
  (∀ (l : LaneId), ∀ (s : State), s.midLate l = true → exec (.underrun l true) s = .next (((s.count FUR.EVCNT_UNDR 1 l).set FUR.STAT_UNDERRUN 1 l).furBreak l)) ∧
  (∀ (l : LaneId), ∀ (s : State), s.furReady l false = false → exec (.furSend l []) s = .next (s) ∧ exec (.furNop l) s = .next (s) ∧ exec (.jump l) s = .next (s) ∧ exec (.furHalt l) s = .next (s)) ∧
  (∀ (l : LaneId), ∀ (a : Nat), ∀ (s : State), s.anchorOf l = some a → s.time.tclk = false → exec (.frameStart l) s = .next (s))

/-- Commands, refresh, rows, temperature and freeze of an HBM controller (R241, R243, R244, R245, R253). Each of these commands
completes, in every state and with all operands that meet the conditions of one of its clauses, with exactly the next state that
the clause writes, so that nothing else changes: hbmCommandIssue, refreshDue, rowIdleClose, hbmTempRead, hbmFreeze. What the issue
of a request, a refresh that falls due, an expired idle timer, a temperature reading and a parity error do (R241, R243 to R245,
R253). -/
def Obligations.HbmServiceCommands : Prop :=
  (∀ (m : HmcId), ∀ (p : Fin 32), ∀ (rfm : Option (Fin 48)), ∀ (retry : Bool), ∀ (s : State), s.get HMC.STAT_STATE m = 2 → exec (.hbmCommandIssue m p rfm retry) s = .next (if retry then (s.issue (32 * m + p) (rfm.map (·.val))).retried s (32 * m + p) else s.issue (32 * m + p) (rfm.map (·.val)))) ∧
  (∀ (m : HmcId), ∀ (p : Fin 32), ∀ (rfm : Option (Fin 48)), ∀ (retry : Bool), ∀ (s : State), s.get HMC.STAT_STATE m = 4 → exec (.hbmCommandIssue m p rfm retry) s = .next (s)) ∧
  (∀ (m : HmcId), ∀ (p : Fin 32), ∀ (t : State), ∀ (s : State), s.get HMC.STAT_STATE m = 2 → (s.pc (32 * m + p)).dueAt ≤ s.elapsed → t = s.setPc (32 * m + p) { s.pc (32 * m + p) with dueAt := (s.pc (32 * m + p)).dueAt + s.refreshInterval m } → (t.pc (32 * m + p)).burst = false → t.pcHeld (32 * m + p) (t.pc (32 * m + p)) = false → exec (.refreshDue m p) s = .next (t.setPc (32 * m + p) { (t.pc (32 * m + p)) with due := (t.pc (32 * m + p)).due + 1 })) ∧
  (∀ (m : HmcId), ∀ (p : Fin 32), ∀ (t : State), ∀ (s : State), s.get HMC.STAT_STATE m = 2 → (s.pc (32 * m + p)).dueAt ≤ s.elapsed → t = s.setPc (32 * m + p) { s.pc (32 * m + p) with dueAt := (s.pc (32 * m + p)).dueAt + s.refreshInterval m } → (t.pc (32 * m + p)).burst = false → t.pcHeld (32 * m + p) (t.pc (32 * m + p)) = true → t.get HMC.PCSTAT_OWED m p + 1 < 8 → exec (.refreshDue m p) s = .next (t.set HMC.PCSTAT_OWED (t.get HMC.PCSTAT_OWED m p + 1) m p)) ∧
  (∀ (m : HmcId), ∀ (p : Fin 32), ∀ (t : State), ∀ (s : State), s.get HMC.STAT_STATE m = 2 → (s.pc (32 * m + p)).dueAt ≤ s.elapsed → t = s.setPc (32 * m + p) { s.pc (32 * m + p) with dueAt := (s.pc (32 * m + p)).dueAt + s.refreshInterval m } → (t.pc (32 * m + p)).burst = false → t.pcHeld (32 * m + p) (t.pc (32 * m + p)) = true → t.get HMC.PCSTAT_OWED m p = 7 → let u := ((t.set HMC.PCSTAT_OWED 8 m p).set HMC.PCSTAT_FORCED 1 m p).count HMC.PCCNT2_FBURST 1 m p; exec (.refreshDue m p) s = .next (u.setPc (32 * m + p) { u.pc (32 * m + p) with burst := true })) ∧
  (∀ (m : HmcId), ∀ (p : Fin 32), ∀ (b : Fin 48), ∀ (s : State), s.get HMC.PCCFG_IDLE m p ≠ 0xFFF → Store.get 0 b (s.pc (32 * m + p)).used + s.get HMC.PCCFG_IDLE m p * 16 * 10 ^ 9 / ckMhz (s.get HMC.STAT_RATE m) ≤ s.elapsed → exec (.rowIdleClose m p b) s = .next (s.closeRow (32 * m + p) b)) ∧
  (∀ (m : HmcId), ∀ (p : Fin 32), ∀ (b : Fin 48), ∀ (s : State), s.get HMC.PCCFG_IDLE m p = 0xFFF → exec (.rowIdleClose m p b) s = .next (s)) ∧
  (∀ (m : HmcId), ∀ (t : Byte), ∀ (s : State), exec (.hbmTempRead m t) s = .next ((s.set HMC.TEMP t.toNat m).setB HMC.STAT_HOT (decide (85 < signedOf t.toNat 8)) m)) ∧
  (∀ (m : HmcId), ∀ (c : Fin 3), ∀ (p : Fin 32), ∀ (b : Fin 48), ∀ (r : Fin 24576), ∀ (s : State), s.get HMC.STAT_STATE m = 2 → exec (.hbmFreeze m c p none b r) s = .next (s.hbmFreeze m (c + 1) p b r 0 none)) ∧
  (∀ (m : HmcId), ∀ (c : Fin 3), ∀ (p : Fin 32), ∀ (i : Fin 32), ∀ (b : Fin 48), ∀ (r : Fin 24576), ∀ (e : QReq), ∀ (s : State), s.get HMC.STAT_STATE m = 2 → (s.pc (32 * m + p)).q[i.val]? = some e → exec (.hbmFreeze m c p (some i) b r) s = .next (s.hbmFreeze m (c + 1) p (hbmBank e.req.addr) (hbmRow e.req.addr) (hbmQuarter e.req.addr) (some e.req)))

/-- Training, helper commands and frequency change of an HBM controller (R248, R249, R250, R251, R252). Each of these commands
completes, in every state and with all operands that meet the conditions of one of its clauses, with exactly the next state that
the clause writes, so that nothing else changes: shadowWrite, freqChange, freqChangeDone, hbmTrain, helperCa, helperRd,
helperWrrd, helperWdqs, helperDone. What the shadow set, FCHG, the end of a change, the training reports and the helper commands
do (R248 to R252). -/
def Obligations.HbmChangeAndTraining : Prop :=
  (∀ (m : HmcId), ∀ (r : Fin 4), ∀ (v : Word), ∀ (s : State), s.barred .HMC 0 = none → exec (.shadowWrite m r v) s = .next (((s.wrAll v.toNat (shadowFields r) m).set HMC.FCHG_SHVALID 1 m).answer .ok)) ∧
  (∀ (m : HmcId), ∀ (v : Word), ∀ (s : State), s.barred .HMC 0 = none → bitOf v.toNat 0 = true → bitOf v.toNat 1 = false → (s.w1c v.toNat HMC.FCHG_ERR m).fchgOk m = true → exec (.freqChange m v) s = .next (((((s.w1c v.toNat HMC.FCHG_ERR m).set HMC.STAT_STATE 3 m).set HMC.FCHG_BUSY 1 m)).answer .ok)) ∧
  (∀ (m : HmcId), ∀ (v : Word), ∀ (s : State), s.barred .HMC 0 = none → bitOf v.toNat 0 = true → bitOf v.toNat 1 = false → (s.w1c v.toNat HMC.FCHG_ERR m).fchgOk m = false → exec (.freqChange m v) s = .next (((s.w1c v.toNat HMC.FCHG_ERR m).set HMC.FCHG_ERR 1 m).answer .ok)) ∧
  (∀ (m : HmcId), ∀ (s : State), s.get HMC.STAT_STATE m = 3 → exec (.freqChangeDone m) s = .next (s.fchgEnd m)) ∧
  (∀ (m : HmcId), ∀ (s : State), s.get HMC.STAT_STATE m = 0 → exec (.hbmTrain m .start) s = .next (s.set HMC.STAT_STATE 1 m)) ∧
  (∀ (m : HmcId), ∀ (r : Fin 4), ∀ (t : State × Option (Nat × Nat)), ∀ (s : State), s.get HMC.STAT_STATE m = 1 → s.bit HMC.CTRL_OPMASK r m = true → t = ((s.loadSet m r).set HMC.TPAT_MODE 1 m).trainPoint m r (List.range 32) → exec (.hbmTrain m (.point r)) s = .next (match t.2 with | none => t.1.setBitOf HMC.STAT_OPTRAINED r m | some e => t.1.trainLost m e.1 e.2)) ∧
  (∀ (m : HmcId), ∀ (pc : Fin 32), ∀ (bits : BitVec 39), ∀ (s : State), s.get HMC.STAT_STATE m = 1 → exec (.hbmTrain m (.fail pc bits)) s = .next (s.trainLost m pc bits.toNat)) ∧
  (∀ (m : HmcId), ∀ (pc : Fin 32), ∀ (all : Bool), ∀ (s : State), s.barred .HMC 0 = none → exec (.helperCa m pc all) s = .next ((s.writeTcmd m (helperWord 0 pc all)).answer .ok)) ∧
  (∀ (m : HmcId), ∀ (pc : Fin 32), ∀ (all : Bool), ∀ (s : State), s.barred .HMC 0 = none → exec (.helperRd m pc all) s = .next ((s.writeTcmd m (helperWord 1 pc all)).answer .ok)) ∧
  (∀ (m : HmcId), ∀ (pc : Fin 32), ∀ (all : Bool), ∀ (s : State), s.barred .HMC 0 = none → exec (.helperWrrd m pc all) s = .next ((s.writeTcmd m (helperWord 2 pc all)).answer .ok)) ∧
  (∀ (m : HmcId), ∀ (pc : Fin 32), ∀ (all : Bool), ∀ (s : State), s.barred .HMC 0 = none → exec (.helperWdqs m pc all) s = .next ((s.writeTcmd m (helperWord 3 pc all)).answer .ok)) ∧
  (∀ (m : HmcId), ∀ (dq : Word), ∀ (extra : Fin 128), ∀ (ca : Bool), ∀ (cnt : Word), ∀ (s : State), s.flag HMC.TCMD_BUSY m = true → exec (.helperDone m dq extra ca cnt) s = .next ((((((s.set HMC.TCMD_BUSY 0 m).set HMC.TCMD_DONE 1 m).set HMC.TERR0_DQ dq.toNat m).set HMC.TERR1_EXTRA extra m).setB HMC.TERR1_CAERR (ca && (s.hmc m).helper / 2 % 4 == 0) m).set HMC.TCNT cnt.toNat m))

/-- Shares, quotas and credits of the Canal (R114, R183, R185, R194, R197, R198, R200, R204). Each of these commands completes, in
every state and with all operands that meet the conditions of one of its clauses, with exactly the next state that the clause
writes, so that nothing else changes: shareWindowStart, shareTableWrite, laneShareWrite, shareMapWrite, quotaWrite,
canalCounterClear, creditReturn, audit. What writes of the share tables, the map, the quotas and the lane shares, the start of a
window, a returned credit, an AUDIT and a clear of the counters do (R114, R183, R185, R194, R197, R198, R200, R204). -/
def Obligations.CanalShareCommands : Prop :=
  (∀ (u : Fin 305), ∀ (s : State), exec (.shareWindowStart u) s = .next (s.windowStart u)) ∧
  (∀ (p : Fin 177), ∀ (r : Fin 16), ∀ (v : Word), ∀ (s : State), s.barred .SHR 0 = none → exec (.shareTableWrite false p r v) s = .next ((s.writeShareTable p r v.toNat).answer .ok)) ∧
  (∀ (p : Fin 177), ∀ (r : Fin 16), ∀ (v : Word), ∀ (s : State), s.barred .SHR 0 = none → exec (.shareTableWrite true p r v) s = .next ((s.writeUplinkTable (p % 8) r v.toNat).answer .ok)) ∧
  (∀ (l : LaneId), ∀ (v : Word), ∀ (s : State), s.barred .CAP 0 = none → exec (.laneShareWrite l v) s = .next ((s.writeLaneShare l v.toNat).answer .ok)) ∧
  (∀ (d : Fin 11), ∀ (i : Fin 64), ∀ (v : Word), ∀ (s : State), s.barred .SHR 0 = none → exec (.shareMapWrite d i v) s = .next ((s.writeShareMap d i v.toNat).answer .ok)) ∧
  (∀ (d : Fin 11), ∀ (v : Word), ∀ (s : State), s.barred .TRK 0 = none → (s.wr v.toNat TRK.QUOTA d).quotaSum ≤ 261120 → exec (.quotaWrite d v) s = .next ((s.wr v.toNat TRK.QUOTA d).settleNet.answer .ok)) ∧
  (∀ (d : Fin 11), ∀ (v : Word), ∀ (s : State), s.barred .TRK 0 = none → 261120 < (s.wr v.toNat TRK.QUOTA d).quotaSum → exec (.quotaWrite d v) s = .next ((s.set TRK.STAT_QERR 1).settleNet.answer .ok)) ∧
  (∀ (v : Word), ∀ (s : State), s.barred .CNL 0 = none → bitOf v.toNat 0 = true → exec (.canalCounterClear v) s = .next (((List.range 177).foldl (fun s p => (s.set2 CNL.FLITS_LO CNL.FLITS_HI 0 p).set2 CNL.BE_LO CNL.BE_HI 0 p) s).answer .ok)) ∧
  (∀ (v : Word), ∀ (s : State), s.barred .CNL 0 = none → bitOf v.toNat 0 = false → exec (.canalCounterClear v) s = .next (s.answer .ok)) ∧
  (∀ (p : Fin 177), ∀ (vc : Fin 4), ∀ (s : State), s.portFrozen p = false → s.auditDue p vc = false → s.retDown p vc ≠ 0 → exec (.creditReturn false p vc) s = .next (s.set (creditField vc) (s.get (creditField vc) p + 1) p).settleNet) ∧
  (∀ (p : Fin 177), ∀ (vc : Fin 4), ∀ (s : State), s.portFrozen p = false → s.auditDue p vc = false → s.retUp p vc ≠ 0 → exec (.creditReturn true p vc) s = .next ({ s with upSpent := Store.set 0 (4 * p.val + vc.val) (s.spentUp p vc - 1) s.upSpent } : State).settleNet) ∧
  (∀ (up : Bool), ∀ (p : Fin 177), ∀ (vc : Fin 4), ∀ (s : State), s.portFrozen p = true ∨ s.auditDue p vc = true → exec (.creditReturn up p vc) s = .next s.settleNet) ∧
  (∀ (p : Fin 177), ∀ (vc : Fin 4), ∀ (f : Byte), ∀ (s : State), s.portFrozen p = false → s.auditDue p vc = true → exec (.audit p vc f) s = .next (s.auditPort p vc f.toNat).settleNet) ∧
  (∀ (p : Fin 177), ∀ (vc : Fin 4), ∀ (f : Byte), ∀ (s : State), let t : State := { s with unaudited := s.unaudited.filter fun k => k != 4 * p.val + vc.val, upSpent := Store.set 0 (4 * p.val + vc.val) (s.occUp p vc + s.infUp p vc) s.upSpent }; t.get (creditField vc) p ≠ min f.toNat (creditDepth vc) → s.auditPort p vc f.toNat = ((t.set (creditField vc) (min f.toNat (creditDepth vc)) p).set CNL.STAT_AUDITFIX 1).count CNL.AUDCNT 1 p) ∧
  (∀ (p : Fin 177), ∀ (vc : Fin 4), ∀ (f : Byte), ∀ (s : State), s.auditDue p vc = false → exec (.audit p vc f) s = .next s)

/-- QDR ports, user registers, floats, clocks, flip-flops and MAC results of a fabric (R266, R268, R299, R306, R307, R309, R314, R316, R322,
R323). Each of these commands completes, in every state and with all operands that meet the conditions of one of its clauses, with exactly
the next state that the clause writes, so that nothing else changes: qdrTrainDone, qdrFreeze, qdrUserRequest, fabricFloatOut, userRegIn,
userRegOut, fabricPllUnlock, wclkLoss, wclkRestored. What the end of QDR training, a device parity error, a user request, the user
registers, a float output and the loss of a fabric clock do (R266, R268, R306, R307, R314, R316, R322, R323). The last five clauses say what
a flip-flop of a cell block takes at an edge where global set/reset is held, SR is asserted or CE is 0 (R299), and what P and OVF of a MAC
slice are for every exact result (R309). -/
def Obligations.QdrAndFabricCommands : Prop :=
  (∀ (n : FieldId), ∀ (w : Word), ∀ (s : State), s.get QDR.STAT_STATE n = 1 → exec (.qdrTrainDone n 0 w) s = .next ((((((s.set QDR.STAT_FAIL 0 n).set QDR.TRES_RXEYEA (bitsOf w.toNat 0 8) n).set QDR.TRES_TXEYEA (bitsOf w.toNat 8 8) n).set QDR.TRES_RXEYEB (bitsOf w.toNat 16 8) n).set QDR.TRES_TXEYEB (bitsOf w.toNat 24 8) n).qdrReady n)) ∧
  (∀ (n : FieldId), ∀ (f : Fin 6), ∀ (w : Word), ∀ (s : State), s.get QDR.STAT_STATE n = 1 → f.val ≠ 0 → exec (.qdrTrainDone n f w) s = .next (((((((s.set QDR.STAT_FAIL f n).set QDR.TRES_RXEYEA (bitsOf w.toNat 0 8) n).set QDR.TRES_TXEYEA (bitsOf w.toNat 8 8) n).set QDR.TRES_RXEYEB (bitsOf w.toNat 16 8) n).set QDR.TRES_TXEYEB (bitsOf w.toNat 24 8) n).set QDR.STAT_STATE 3 n).initSettle n)) ∧
  (∀ (n : FieldId), ∀ (b : Bool), ∀ (w : Bool), ∀ (c : Fin 3), ∀ (a : Fin 4194304), ∀ (s : State), s.get QDR.STAT_STATE n = 2 → exec (.qdrFreeze n b w c a) s = .next (s.qdrFreeze n b.toNat w.toNat c a)) ∧
  (∀ (n : FieldId), ∀ (b : Bool), ∀ (we : Bool), ∀ (a : Fin 4194304), ∀ (d : BitVec 64), ∀ (r : List (List (Fin 3))), ∀ (s : State), s.fabricOpen n (16 + b.toNat) = true → exec (.qdrUserRequest n b we a d r none) s = .next (s.qdrUser n b we a d.toNat r)) ∧
  (∀ (n : FieldId), ∀ (we : Bool), ∀ (a : Fin 4194304), ∀ (d : BitVec 64), ∀ (r : List (List (Fin 3))), ∀ (x : QdrAcc), ∀ (s : State), s.fabricOpen n 16 = true → s.fabricOpen n 17 = true → exec (.qdrUserRequest n false we a d r (some x)) s = .next (s.qdrBoth n false ⟨we, a, d⟩ x r []) ∧ exec (.qdrUserRequest n true we a d r (some x)) s = .next (s.qdrBoth n true x ⟨we, a, d⟩ [] r)) ∧
  (∀ (n : FieldId), ∀ (j : Fin 8), ∀ (s : State), exec (.fabricFloatOut n j) s = .next ((s.setBitOf FLD.FLOAT_FOUT j n).pulse (2 ^ (8 * n.val + j.val)))) ∧
  (∀ (n : FieldId), ∀ (i : Fin 16), ∀ (v : Word), ∀ (s : State), s.barred .FLD n = none → exec (.userRegIn n i v) s = .next ((((s.set FLD.USRIN v.toNat n i).usrWritten n i).emit (.usrIn n i v.toNat)).answer .ok)) ∧
  (∀ (n : FieldId), ∀ (i : Fin 16), ∀ (v : Word), ∀ (p : Fin 13), ∀ (s : State), ¬ (p.val < 12 ∧ s.gated n p = true) → exec (.userRegOut n i v p) s = .next (s.set FLD.USROUT v.toNat n i)) ∧
  (∀ (n : FieldId), ∀ (i : Fin 16), ∀ (v : Word), ∀ (p : Fin 13), ∀ (s : State), p.val < 12 → s.gated n p = true → exec (.userRegOut n i v p) s = .next (s)) ∧
  (∀ (n : FieldId), ∀ (i : Fin 6), ∀ (s : State), s.bit FLD.PLL_LOCK i n = true → exec (.fabricPllUnlock n i) s = .next (((s.clearBitOf FLD.PLL_LOCK i n).setBitOf FLD.PLL_UNLK i n).set FLD.STAT_PLLUNLK 1 n)) ∧
  (∀ (n : FieldId), ∀ (s : State), s.flag FLD.STAT_WCLKLOCK n = true → exec (.wclkLoss n) s = .next (((s.set FLD.STAT_WCLKLOCK 0 n).set FLD.STAT_WCLKLOST 1 n).wires)) ∧
  (∀ (n : FieldId), ∀ (s : State), s.flag FLD.STAT_WCLKLOCK n = false → exec (.wclkRestored n) s = .next ((s.set FLD.STAT_WCLKLOCK 1 n).wires)) ∧
  (∀ (n : FieldId), ∀ (f : FabSt), ∀ (b : BlkCfg), ∀ (i : Fin 16), ∀ (s : State), s.stepRun n 2 = false → s.ffNext n f b i = (b.ffs.getD i {}).init) ∧
  (∀ (n : FieldId), ∀ (f : FabSt), ∀ (b : BlkCfg), ∀ (i : Fin 16), ∀ (s : State), s.stepRun n 2 = true → s.sig n f b.sr = true → s.ffNext n f b i = (b.ffs.getD i {}).srval) ∧
  (∀ (n : FieldId), ∀ (f : FabSt), ∀ (b : BlkCfg), ∀ (i : Fin 16), ∀ (s : State), s.stepRun n 2 = true → s.sig n f b.sr = false → s.sig n f (if i.val < 8 then b.ce0 else b.ce1) = false → s.ffNext n f b i = s.sig n f (.q b.blk i)) ∧
  (∀ (sat : Bool), ∀ (v : Int), -2 ^ 57 ≤ v → v < 2 ^ 57 → macResult sat v = (v, false)) ∧
  (∀ (v : Int), v < -2 ^ 57 ∨ 2 ^ 57 ≤ v → macResult true v = (if v < 0 then -2 ^ 57 else 2 ^ 57 - 1, true) ∧ macResult false v = (signedOf (patternOf v 58) 58, true))

/-- Requests, responses, timeouts and walks of the Canal (R179, R188, R189, R190, R191, R195, R196). Each of these commands completes,
in every state and with all operands that meet the conditions of one of its clauses, with exactly the next state that the clause
writes, so that nothing else changes: rd, wr, amo, flush, pwrPost, crd, cwr, rdata, cpl, crsp, tagTimeout, quarantineEnd,
fenceWalkStep. What the Canal packets, the timeout of a tag, its quarantine and the walk of a fenced die do (R179, R188 to R191,
R195, R196). -/
def Obligations.CanalCommands : Prop :=
  (∀ (t : Fin 262144), ∀ (a : Fin 4096), ∀ (oc : Fin 4), ∀ (x : BitVec 48), ∀ (len : Fin 256), ∀ (h : Hdr), ∀ (s : State), exec (.rd t a oc x len h) s = .next (s.request { op := .rd, src := a, oc := oc, addr := x.toNat, len := len + 1 } t h)) ∧
  (∀ (t : Fin 262144), ∀ (a : Fin 4096), ∀ (oc : Fin 4), ∀ (x : BitVec 48), ∀ (len : Fin 256), ∀ (p : Bool), ∀ (d : List Byte), ∀ (h : Hdr), ∀ (s : State), exec (.wr t a oc x len p d h) s = .next (s.request { op := .wr, src := a, oc := oc, addr := x.toNat, len := len + 1, pois := p, data := payload d (len + 1) } t h)) ∧
  (∀ (t : Fin 262144), ∀ (a : Fin 4096), ∀ (oc : Fin 4), ∀ (x : BitVec 48), ∀ (len : Fin 256), ∀ (op : Fin 16), ∀ (d : List Byte), ∀ (h : Hdr), ∀ (s : State), exec (.amo t a oc x len op d h) s = .next (s.request { op := .amo, src := a, oc := oc, addr := x.toNat, len := len + 1, aop := op, data := payload d 64 } t h)) ∧
  (∀ (t : Fin 262144), ∀ (a : Fin 4096), ∀ (oc : Fin 4), ∀ (h : Hdr), ∀ (s : State), exec (.flush t a oc h) s = .next (s.request { op := .flush, src := a, oc := oc, addr := 0, len := 0 } t h)) ∧
  (∀ (a : Fin 4096), ∀ (oc : Fin 4), ∀ (x : BitVec 48), ∀ (len : Fin 256), ∀ (p : Bool), ∀ (d : List Byte), ∀ (h : Hdr), ∀ (s : State), exec (.pwrPost a oc x len p d h) s = .next (s.request { op := .pwr, src := a, oc := oc, addr := x.toNat, len := len + 1, pois := p, data := payload d (len + 1) } 0 h)) ∧
  (∀ (t : Fin 262144), ∀ (a : Fin 4096), ∀ (x : Fin 0x10000000), ∀ (len : Fin 256), ∀ (h : Hdr), ∀ (s : State), exec (.crd t a x len h) s = .next (s.request { op := .crd, src := a, oc := 0, addr := csrBase + x, len := len + 1 } t h)) ∧
  (∀ (t : Fin 262144), ∀ (a : Fin 4096), ∀ (x : Fin 0x10000000), ∀ (len : Fin 256), ∀ (d : List Byte), ∀ (h : Hdr), ∀ (s : State), exec (.cwr t a x len d h) s = .next (s.request { op := .cwr, src := a, oc := 0, addr := csrBase + x, len := len + 1, data := payload d (len + 1) } t h)) ∧
  (∀ (o : Option FieldId), ∀ (t : Fin 262144), ∀ (h : Hdr), ∀ (s : State), exec (.rdata o t h) s = .next (s.reply (replyKey o t) [.rd, .amo] h {})) ∧
  (∀ (o : Option FieldId), ∀ (t : Fin 262144), ∀ (h : Hdr), ∀ (s : State), exec (.cpl o t h) s = .next (s.reply (replyKey o t) [.wr, .flush] h {})) ∧
  (∀ (o : Option FieldId), ∀ (t : Fin 262144), ∀ (g : Guest), ∀ (h : Hdr), ∀ (s : State), exec (.crsp o t g h) s = .next (s.reply (replyKey o t) [.crd, .cwr] h g)) ∧
  (∀ (t : Fin 262144), ∀ (e : Tag), ∀ (s : State), s.tagAt t = some e → e.quar = none → e.orphan = false → e.since + s.cto < s.now → s.owed.any (fun w => w.key == some t.val) = false → exec (.tagTimeout t) s = .next (((({ s with tags := Store.put t.val { e with quar := some s.now } s.tags }).count TRK.TOCNT).sendRsp e.req { st := .timeout } none none).settleNet)) ∧
  (∀ (t : Fin 262144), ∀ (e : Tag), ∀ (s : State), s.tagAt t = some e → e.quar = none → e.orphan = true → e.since + s.cto < s.now → s.owed.any (fun w => w.key == some t.val) = false → exec (.tagTimeout t) s = .next (({ s with tags := Store.put t.val { e with quar := some s.now } s.tags }).count TRK.TOCNT)) ∧
  (∀ (t : Fin 262144), ∀ (s : State), s.tagAt t = none → exec (.tagTimeout t) s = .next (s)) ∧
  (∀ (t : Fin 262144), ∀ (e : Tag), ∀ (q : Nat), ∀ (s : State), s.tagAt t = some e → e.quar = some q → q + s.cto ≤ s.now → exec (.quarantineEnd t) s = .next (s.freeTag t).settleNet) ∧
  (∀ (t : Fin 262144), ∀ (s : State), s.tagAt t = none → exec (.quarantineEnd t) s = .next (s)) ∧
  (∀ (s : State), s.walk = [] → exec .fenceWalkStep s = .next (s)) ∧
  (∀ (d : Nat), ∀ (r : List Nat), ∀ (s : State), s.walk = d :: r → s.walkTag + 1 < 2 ^ 18 → exec .fenceWalkStep s = .next ({ s.walkOne d s.walkTag with walkTag := s.walkTag + 1 })) ∧
  (∀ (d : Nat), ∀ (r : List Nat), ∀ (s : State), s.walk = d :: r → s.walkTag + 1 = 2 ^ 18 → exec .fenceWalkStep s = .next ((s.walkOne d s.walkTag).walkEnd r))

/-- The path of a request through its adapter and the switch (R174, R175, R183, R187, R193, R196, R224). Each of these commands completes, in
every state and with all operands that meet the conditions of one of its clauses, with exactly the next state that the clause writes, so
that nothing else changes: rd, wr. A read that is not well formed changes nothing; a well-formed read or write that its source can send,
with room in its adapter, takes the next place in the order of arrival and is submitted. A submitted request for its own field enters it;
one cut off by a fence is turned away; any other waits at ingress, from where it leaves as far as it can go. It leaves as turned away where
its target is dead, waits where the tracker has no tag or the port no credit, and otherwise is delivered under its tag. -/
def Obligations.CanalRequestPath : Prop :=
  (∀ (t : Fin 262144), ∀ (a : Fin 4096), ∀ (oc : Fin 4), ∀ (x : BitVec 48), ∀ (len : Fin 256), ∀ (h : Hdr), ∀ (s : State), ({ op := .rd, src := a, oc := oc, addr := x.toNat, len := len + 1 } : Req).wf = false → exec (.rd t a oc x len h) s = .next s) ∧
  (∀ (t : Fin 262144), ∀ (a : Fin 4096), ∀ (oc : Fin 4), ∀ (x : BitVec 48), ∀ (len : Fin 256), ∀ (r : Req), ∀ (s : State), r = { op := .rd, src := a, oc := oc, addr := x.toNat, len := len + 1 } → r.wf = true → dieOf a ≤ 8 → s.sourceSends r = true → s.adapterRoom r = true → exec (.rd t a oc x len .good) s = .next (({ s with nextOrd := s.nextOrd + 1 } : State).submit { r with ord := s.nextOrd + 1, stag := s.sourceTag r t } t)) ∧
  (∀ (t : Fin 262144), ∀ (a : Fin 4096), ∀ (oc : Fin 4), ∀ (x : BitVec 48), ∀ (len : Fin 256), ∀ (p : Bool), ∀ (d : List Byte), ∀ (r : Req), ∀ (s : State), r = { op := .wr, src := a, oc := oc, addr := x.toNat, len := len + 1, pois := p, data := payload d (len + 1) } → r.wf = true → dieOf a ≤ 8 → s.sourceSends r = true → s.adapterRoom r = true → exec (.wr t a oc x len p d .good) s = .next (({ s with nextOrd := s.nextOrd + 1 } : State).submit { r with ord := s.nextOrd + 1, stag := s.sourceTag r t } t)) ∧
  (∀ (t : Nat), ∀ (r : Req), ∀ (s : State), r.own = true → s.submit r t = s.enter r t) ∧
  (∀ (t : Nat), ∀ (r : Req), ∀ (s : State), r.own = false → s.cutOff r = true → s.submit r t = s.turnAway r) ∧
  (∀ (t : Nat), ∀ (r : Req), ∀ (s : State), r.own = false → s.cutOff r = false → s.submit r t = ({ s with ingress := s.ingress ++ [({ req := r, t := t } : Held)] } : State).settleNet) ∧
  (∀ (t : Nat), ∀ (r : Req), ∀ (s : State), s.targetDead r = true → s.leave r t = some (s.turnAway r)) ∧
  (∀ (t : Nat), ∀ (r : Req), ∀ (s : State), s.targetDead r = false → r.op ≠ .pwr → s.trackerRoom r = false → s.leave r t = none) ∧
  (∀ (t : Nat), ∀ (r : Req), ∀ (s : State), s.targetDead r = false → r.op ≠ .pwr → s.trackerRoom r = true → s.reqPort r = none → s.leave r t = some ((s.takeTag { r with tag := some (s.keyFor r t) } (s.keyFor r t)).deliver { r with tag := some (s.keyFor r t) })) ∧
  (∀ (t p : Nat), ∀ (r : Req), ∀ (s : State), s.targetDead r = false → r.op ≠ .pwr → s.trackerRoom r = true → s.reqPort r = some p → s.creditFree p r.vc r.flits = false → s.leave r t = none)

/-- Accesses of the host and the link (R39, R388, R390, R391, R393, R395). Each of these commands completes, in every state and with
all operands that meet the conditions of one of its clauses, with exactly the next state that the clause writes, so that nothing
else changes: bar0Read, bar0Write, bar4Read, bar4Write, memrd, memwr, linkTrain, linkDown, configRequest, decoderCommit,
bar4WindowSelect, peekRead. What BAR0, BAR2, BAR4 and CXL.mem accesses, configuration requests, a decoder commit, the training and the
loss of the link and the selection of the BAR4 window do (R39, R388, R390, R391, R393, R395). -/
def Obligations.HostAccessCommands : Prop :=
  (∀ (t : Fin 262144), ∀ (x : Fin 0x10100000), ∀ (len : Fin 4096), ∀ (h : Hdr), ∀ (s : State), s.linkUp = true → s.decodes = true → x.val < 0x10000000 → len.val + 1 ≤ 8 → exec (.bar0Read t x len h) s = .next (s.requests h t ((splitAt 4 8 x (len.val + 1)).map fun p => { op := .crd, src := 0x802, oc := 0, addr := csrBase + p.1, len := p.2 }))) ∧
  (∀ (t : Fin 262144), ∀ (x : Fin 0x10100000), ∀ (len : Fin 4096), ∀ (h : Hdr), ∀ (s : State), s.linkUp = false → exec (.bar0Read t x len h) s = .next (s)) ∧
  (∀ (t : Fin 262144), ∀ (x : Fin 0x10100000), ∀ (len : Fin 4096), ∀ (h : Hdr), ∀ (s : State), s.linkUp = true → s.decodes = true → 0x10000000 ≤ x.val → exec (.bar0Read t x len h) s = .next (s.bar2Read (x - 0x10000000) (len.val + 1))) ∧
  (∀ (t : Fin 262144), ∀ (x : Fin 0x10100000), ∀ (d : List Byte), ∀ (h : Hdr), ∀ (s : State), s.linkUp = true → s.decodes = true → x.val < 0x10000000 → d.length = 4 → exec (.bar0Write t x d h) s = .next (s.requests h t [{ op := .cwr, src := 0x802, oc := 0, addr := csrBase + x, len := 4, data := d }])) ∧
  (∀ (t : Fin 262144), ∀ (x : Fin 0x10100000), ∀ (d : List Byte), ∀ (h : Hdr), ∀ (s : State), s.linkUp = true → s.decodes = true → 0x10000000 ≤ x.val → d ≠ [] → exec (.bar0Write t x d h) s = .next (s.bar2Write (x - 0x10000000) d)) ∧
  (∀ (t : Fin 262144), ∀ (x : Fin 0x40000000), ∀ (len : Fin 4096), ∀ (h : Hdr), ∀ (s : State), s.linkUp = true → s.decodes = true → exec (.bar4Read t x len h) s = .next (s.requests h t ((splitAt 256 17 (s.bar4Base + x) (min (len.val + 1) (0x40000000 - x.val))).map fun p => { op := .rd, src := 0x802, oc := 0, addr := p.1, len := p.2 }))) ∧
  (∀ (x : Fin 0x40000000), ∀ (d : List Byte), ∀ (h : Hdr), ∀ (s : State), s.linkUp = true → s.decodes = true → exec (.bar4Write x d h) s = .next ((s.requests h 0 ((splitAt 256 (min d.length (0x40000000 - x.val) + 1) (s.bar4Base + x) (min d.length (0x40000000 - x.val))).map fun p => { op := .pwr, src := 0x802, oc := 0, addr := p.1, len := p.2, data := (d.drop (p.1 - (s.bar4Base + x))).take p.2 })).answer .ok)) ∧
  (∀ (t : Fin 262144), ∀ (l : Fin 0x90000000), ∀ (h : Hdr), ∀ (s : State), s.get CXL.LSTAT_MODE = 2 → s.flag CXL.LSTAT_MEM = true → exec (.memrd t l h) s = .next (s.request { op := .rd, src := 0x803, oc := 0, addr := 64 * l, len := 64 } t h)) ∧
  (∀ (t : Fin 262144), ∀ (l : Fin 0x90000000), ∀ (h : Hdr), ∀ (s : State), s.get CXL.LSTAT_MODE ≠ 2 → exec (.memrd t l h) s = .next (s)) ∧
  (∀ (t : Fin 262144), ∀ (l : Fin 0x90000000), ∀ (d : List Byte), ∀ (h : Hdr), ∀ (s : State), s.get CXL.LSTAT_MODE = 2 → s.flag CXL.LSTAT_MEM = true → exec (.memwr t l d h) s = .next (s.request { op := .wr, src := 0x803, oc := 0, addr := 64 * l, len := 64, data := payload d 64 } t h)) ∧
  (∀ (w : Fin 32), ∀ (r : Fin 32), ∀ (alt : Bool), ∀ (i : Nat), ∀ (j : Nat), ∀ (s : State), s.get CXL.LSTAT_MODE = 0 → s.boot.inReset = false → s.cxl.perst = false → s.pow.dormant = none → highestOf w (s.get CXL.LCFG_MAXW) = some i → highestOf r (s.get CXL.LCFG_MAXRATE) = some j → 2 ≤ i → exec (.linkTrain w r alt) s = .next (((((s.set CXL.LSTAT_MODE (if alt && decide (2 ≤ j) then 2 else 1)).set CXL.LSTAT_WIDTH i).set CXL.LSTAT_RATE j).setB CXL.LSTAT_DEGRADED (decide (i < 4 ∨ j < 4))).showLink)) ∧
  (∀ (s : State), s.get CXL.LSTAT_MODE = 0 → exec .linkDown s = .next (s)) ∧
  (∀ (s : State), s.get CXL.LSTAT_MODE ≠ 0 → let t := ((((s.set CXL.ERR_LNKDN 1).set CXL.LSTAT_MODE 0).set CXL.LSTAT_WIDTH 0).set CXL.LSTAT_RATE 0).set CXL.LSTAT_DEGRADED 0; exec .linkDown s = .next (({ t with cxl := { t.cxl with lost := (s.tags.filter fun e : Nat × Tag => isHost e.2.req.src && e.2.quar.isNone).map fun e : Nat × Tag => e.2.req.ord } }).mirrorFail.showLink)) ∧
  (∀ (rd : Bool), ∀ (w : Fin 1024), ∀ (s : State), s.get CXL.LSTAT_MODE ≠ 0 → (s.cxl.crs && !rd) = false → let t : State := { s with cxl := { s.cxl with crs := false } }; exec (.configRequest rd w none) s = .next (t.answerData (bytesLE 4 (t.cfgRead (4 * w))))) ∧
  (∀ (rd : Bool), ∀ (w : Fin 1024), ∀ (be : Fin 16), ∀ (v : Word), ∀ (s : State), s.get CXL.LSTAT_MODE ≠ 0 → (s.cxl.crs && !rd) = false → let t : State := { s with cxl := { s.cxl with crs := false } }; exec (.configRequest rd w (some (be, v))) s = .next ((t.cfgWrite (4 * w) (mergeBytes (t.cfgRead (4 * w)) v.toNat be)).answer .ok)) ∧
  (∀ (b : BitVec 64), ∀ (z : BitVec 64), ∀ (iw : Fin 16), ∀ (tt : Bool), ∀ (lk : Bool), ∀ (s : State), s.barred .CXL 0 = none → b.toNat % 2 ^ 28 = 0 → z.toNat % 2 ^ 28 = 0 → exec (.decoderCommit b z iw tt lk) s = .next ((((((s.writeComp 0x1210 (b.toNat % 2 ^ 32)).writeComp 0x1214 (b.toNat / 2 ^ 32)).writeComp 0x1218 (z.toNat % 2 ^ 32)).writeComp 0x121C (z.toNat / 2 ^ 32)).writeComp 0x1220 (2 ^ 9 + iw * 16 + lk.toNat * 2 ^ 8 + tt.toNat * 2 ^ 12)).answer .ok)) ∧
  (∀ (v : Word), ∀ (s : State), s.barred .CXL 0 = none → exec (.bar4WindowSelect v) s = .next ((s.wr v.toNat CXL.B4WIN_SEL).answer .ok)) ∧
  (∀ (d : Fin 9), ∀ (s : State), let t := s.csrReadWord 0x802 (if d = 8 then 0x170014 else (d + 1) * 0x1000000 + 0xD0024) {}; exec (.peekRead d) s = .next { t.1 with resp := { st := t.2.1, data := if t.2.1 = .ok then bytesLE 4 t.2.2 else [] } })

/-- Mailbox commands (R406, R407, R408, R479). Each of these commands completes, in every state and with all operands that meet the
conditions of one of its clauses, with exactly the next state that the clause writes, so that nothing else changes: getTimestamp,
setTimestamp, getSupportedLogs, getLog, getRollcall, getEvents, copyCmd, copyStep. What the standard commands, GET_ROLLCALL,
GET_EVENTS, COPY and a step of the copy engine answer (R406 to R408, R479). -/
def Obligations.MailboxCommands : Prop :=
  (∀ (s : State), exec (.getTimestamp []) s = .next (s.mailbox 0 (bytesLE 8 (secOf s.now * 1000000000 + nsOf s.now)))) ∧
  (∀ (p : List Byte), ∀ (s : State), exec (.setTimestamp p) s = .next (s.mailbox 3)) ∧
  (∀ (s : State), exec (.getSupportedLogs []) s = .next (s.mailbox 0 (bytesLE 2 1 ++ bytesLE 6 0 ++ effectsUuid ++ bytesLE 4 effectsLog.length))) ∧
  (∀ (p : List Byte), ∀ (s : State), p.length = 24 → p.take 16 = effectsUuid → fieldAt p 16 4 + fieldAt p 20 4 ≤ effectsLog.length → exec (.getLog p) s = .next (s.mailbox 0 ((effectsLog.drop (fieldAt p 16 4)).take (fieldAt p 20 4)))) ∧
  (∀ (s : State), exec (.getRollcall []) s = .next (s.mailbox 0 ((List.range 10).flatMap fun i => s.rollRecord i))) ∧
  (∀ (p : List Byte), ∀ (s : State), p.length = 10 → fieldAt p 8 2 ≠ 0 → fieldAt p 8 2 ≤ 127 → exec (.getEvents p) s = .next (s.mailbox 0 (s.eventList (fieldAt p 0 8) (fieldAt p 8 2)))) ∧
  (∀ (p : List Byte), ∀ (s : State), p.length = 32 → fieldAt p 16 8 ≠ 0 → fieldAt p 16 8 ≤ 2 ^ 40 → fieldAt p 24 2 ≤ 1023 → fieldAt p 26 6 = 0 → s.opBusy (fieldAt p 24 2) = false → exec (.copyCmd p) s = .next ((s.copyBegin (fieldAt p 0 8) (fieldAt p 8 8) (fieldAt p 16 8) (fieldAt p 24 2)).mailbox 0)) ∧
  (∀ (p : List Byte), ∀ (s : State), p.length ≠ 32 → exec (.copyCmd p) s = .next (s.mailbox 2)) ∧
  (∀ (s : State), s.copy.active = false → exec .copyStep s = .next (s)) ∧
  (∀ (s : State), s.copy.active = true → s.copy.step < 63 → (s.copyBytes (s.copy.len * (s.copy.step + 1) / 64 - s.copy.len * s.copy.step / 64) (s.copy.src + s.copy.len * s.copy.step / 64) (s.copy.dst + s.copy.len * s.copy.step / 64) (s.copy.len * (s.copy.step + 1) / 64 - s.copy.len * s.copy.step / 64)).2 = (s.copy.len * (s.copy.step + 1) / 64 - s.copy.len * s.copy.step / 64, none) → let lo := s.copy.len * s.copy.step / 64; let hi := s.copy.len * (s.copy.step + 1) / 64; let t := (s.copyBytes (hi - lo) (s.copy.src + lo) (s.copy.dst + lo) (hi - lo)).1; exec .copyStep s = .next { (t.opMove s.copy.entry 3 (1024 * (s.copy.step + 1)) (copyWords hi noResult)) with copy := { s.copy with step := s.copy.step + 1 } })

/-- Watermaster requests, the host channel and register writes (R463, R464, R467, R485). Each of these commands completes, in every
state and with all operands that meet the conditions of one of its clauses, with exactly the next state that the clause writes, so
that nothing else changes: wmOpen, wmClose, wmPing, mrd, mwr, wmHalt, wmResume, wmStep, rreg, wreg, wmLog, gunlock, wmRd, wmWr,
mspGapTimeout, whcRequest, rspack, evtack, registerWrite. Each Watermaster command is a request of its CMD on its transport; what
the doorbells of the host channel and a write of a register do (R463, R464, R467, R485). -/
def Obligations.WatermasterCommands : Prop :=
  (∀ (x : Bool), ∀ (q : Fin 65536), ∀ (p : List Byte), ∀ (s : State), exec (.wmOpen x q p) s = .next (s.wmRequest x 0x0001 q 0 p {})) ∧
  (∀ (x : Bool), ∀ (q : Fin 65536), ∀ (i : Word), ∀ (p : List Byte), ∀ (s : State), exec (.wmClose x q i p) s = .next (s.wmRequest x 0x0002 q i.toNat p {})) ∧
  (∀ (x : Bool), ∀ (q : Fin 65536), ∀ (i : Word), ∀ (p : List Byte), ∀ (s : State), exec (.wmPing x q i p) s = .next (s.wmRequest x 0x0003 q i.toNat p {})) ∧
  (∀ (x : Bool), ∀ (q : Fin 65536), ∀ (i : Word), ∀ (p : List Byte), ∀ (s : State), exec (.mrd x q i p) s = .next (s.wmRequest x 0x0012 q i.toNat p {})) ∧
  (∀ (x : Bool), ∀ (q : Fin 65536), ∀ (i : Word), ∀ (p : List Byte), ∀ (s : State), exec (.mwr x q i p) s = .next (s.wmRequest x 0x0013 q i.toNat p {})) ∧
  (∀ (x : Bool), ∀ (q : Fin 65536), ∀ (i : Word), ∀ (p : List Byte), ∀ (s : State), exec (.wmHalt x q i p) s = .next (s.wmRequest x 0x0020 q i.toNat p {})) ∧
  (∀ (x : Bool), ∀ (q : Fin 65536), ∀ (i : Word), ∀ (p : List Byte), ∀ (s : State), exec (.wmResume x q i p) s = .next (s.wmRequest x 0x0021 q i.toNat p {})) ∧
  (∀ (x : Bool), ∀ (q : Fin 65536), ∀ (i : Word), ∀ (p : List Byte), ∀ (s : State), exec (.wmStep x q i p) s = .next (s.wmRequest x 0x0022 q i.toNat p {})) ∧
  (∀ (x : Bool), ∀ (q : Fin 65536), ∀ (i : Word), ∀ (p : List Byte), ∀ (s : State), exec (.rreg x q i p) s = .next (s.wmRequest x 0x0023 q i.toNat p {})) ∧
  (∀ (x : Bool), ∀ (q : Fin 65536), ∀ (i : Word), ∀ (p : List Byte), ∀ (s : State), exec (.wreg x q i p) s = .next (s.wmRequest x 0x0024 q i.toNat p {})) ∧
  (∀ (x : Bool), ∀ (q : Fin 65536), ∀ (i : Word), ∀ (p : List Byte), ∀ (s : State), exec (.wmLog x q i p) s = .next (s.wmRequest x 0x0030 q i.toNat p {})) ∧
  (∀ (x : Bool), ∀ (q : Fin 65536), ∀ (i : Word), ∀ (p : List Byte), ∀ (s : State), exec (.gunlock x q i p) s = .next (s.wmRequest x 0x0040 q i.toNat p {})) ∧
  (∀ (x : Bool), ∀ (q : Fin 65536), ∀ (i : Word), ∀ (p : List Byte), ∀ (g : Guest), ∀ (s : State), exec (.wmRd x q i p g) s = .next (s.wmRequest x 0x0010 q i.toNat p g)) ∧
  (∀ (x : Bool), ∀ (q : Fin 65536), ∀ (i : Word), ∀ (p : List Byte), ∀ (g : Guest), ∀ (s : State), exec (.wmWr x q i p g) s = .next (s.wmRequest x 0x0011 q i.toNat p g)) ∧
  (∀ (s : State), exec .mspGapTimeout s = .next ({ s with wm := { s.wm with rx := [] } })) ∧
  (∀ (g : Guest), ∀ (s : State), exec (.whcRequest g) s = .next ((s.hostRequest g).answer .ok)) ∧
  (∀ (s : State), exec .rspack s = .next (s.rspAck.answer .ok)) ∧
  (∀ (s : State), exec .evtack s = .next (s.evtAck.answer .ok)) ∧
  (∀ (o : Fin 0x10100000), ∀ (b : List Byte), ∀ (a : Fin 4096), ∀ (g : Guest), ∀ (s : State), o.val < 0x10000000 → exec (.registerWrite o b a g) s = .next ((s.csrWrite a o b g).1.answer (s.csrWrite a o b g).2)) ∧
  (∀ (o : Fin 0x10100000), ∀ (b : List Byte), ∀ (a : Fin 4096), ∀ (g : Guest), ∀ (s : State), 0x10000000 ≤ o.val → o.val < 0x10010000 → b.length = 4 ∨ b.length = 8 → o.val % 4 = 0 → exec (.registerWrite o b a g) s = .next (s.answer .ok)) ∧
  (∀ (o : Fin 0x10100000), ∀ (b : List Byte), ∀ (a : Fin 4096), ∀ (g : Guest), ∀ (s : State), 0x10010000 ≤ o.val → o.val < 0x10020000 → b.length = 4 ∨ b.length = 8 → o.val % 4 = 0 → exec (.registerWrite o b a g) s = .next ((s.mailboxWrite (o - 0x10010000) b).answer .ok)) ∧
  (∀ (o : Fin 0x10100000), ∀ (b : List Byte), ∀ (a : Fin 4096), ∀ (g : Guest), ∀ (s : State), 0x10020000 ≤ o.val → o.val < 0x10030000 → b.length = 4 → o.val % 4 = 0 → exec (.registerWrite o b a g) s = .next ((s.writeWhc (o - 0x10020000) (fieldAt b 0 4) g).answer .ok)) ∧
  (∀ (o : Fin 0x10100000), ∀ (b : List Byte), ∀ (a : Fin 4096), ∀ (g : Guest), ∀ (s : State), 0x10020000 ≤ o.val → o.val < 0x10030000 → b.length = 8 → o.val % 4 = 0 → exec (.registerWrite o b a g) s = .next (((s.writeWhc (o - 0x10020000) (fieldAt b 0 4) g).writeWhc (o - 0x1001FFFC) (fieldAt b 4 4) g).answer .ok)) ∧
  (∀ (o : Fin 0x10100000), ∀ (b : List Byte), ∀ (a : Fin 4096), ∀ (g : Guest), ∀ (s : State), 0x10030000 ≤ o.val ∨ (0x10000000 ≤ o.val ∧ (o.val % 4 ≠ 0 ∨ (b.length ≠ 4 ∧ b.length ≠ 8))) → exec (.registerWrite o b a g) s = .next (s.answer .err))

/-- Sessions of Watermaster (R462, R463, R464). Each of these commands completes, in every state and with all operands that meet the
conditions of one of its clauses, with exactly the next state that the clause writes, so that nothing else changes: wmPing. In an
open session a command whose answer is d is performed and answered with a response frame of the same SEQ, CMD and SID, which is
kept for a repeat; outside it the command is answered BADSESSION with no effect; a repeat of the last SEQ gets the kept response
again. -/
def Obligations.WatermasterSession : Prop :=
  (∀ (q : Fin 65536), ∀ (i : Word), ∀ (p : List Byte), ∀ (s : State), s.wmListens false = true → p.length ≤ 4072 → s.flag WHC.STAT_REQBUSY = false → s.wm.pend = none → s.flag DBG.SESS_ACTIVE = true → i.toNat = s.get DBG.SID → s.wm.last = none → let b := wmFrame 2 q 3 wmOk i.toNat p; let t := s.trace 8 6 0 0 12 (bytesLE 2 3 ++ bytesLE 2 q ++ bytesLE 8 0); exec (.wmPing false q i p) s = .next (({ t with wm := { t.wm with last := some (q.val, b) } }).emit (.msp b))) ∧
  (∀ (q : Fin 65536), ∀ (i : Word), ∀ (p : List Byte), ∀ (s : State), s.wmListens false = true → p.length ≤ 4072 → s.flag WHC.STAT_REQBUSY = false → s.wm.pend = none → s.flag DBG.SESS_ACTIVE = false → exec (.wmPing false q i p) s = .next (s.emit (.msp (wmFrame 2 q 3 wmBadSession i.toNat [])))) ∧
  (∀ (q : Fin 65536), ∀ (i : Word), ∀ (p : List Byte), ∀ (b : List Byte), ∀ (s : State), s.wmListens false = true → p.length ≤ 4072 → s.flag WHC.STAT_REQBUSY = false → s.wm.pend = none → s.flag DBG.SESS_ACTIVE = true → i.toNat = s.get DBG.SID → s.wm.last = some (q.val, b) → exec (.wmPing false q i p) s = .next (s.emit (.msp b))) ∧
  (∀ (q : Fin 65536), ∀ (i : Word), ∀ (p : List Byte), ∀ (s : State), s.wmListens false = true → p.length ≤ 4072 → s.wm.pend.isSome = true → exec (.wmPing false q i p) s = .next (s.emit (.msp (wmFrame 2 q 3 wmBusy i.toNat [])))) ∧
  (∀ (q : Fin 65536), ∀ (i : Word), ∀ (p : List Byte), ∀ (s : State), s.wmListens true = true → p.length ≤ 4072 → s.flag WHC.STAT_REQBUSY = true → exec (.wmPing true q i p) s = .next s) ∧
  (∀ (x : Bool), ∀ (q : Fin 65536), ∀ (i : Word), ∀ (p : List Byte), ∀ (s : State), s.wmListens x = false → exec (.wmPing x q i p) s = .next (s)) ∧
  (∀ (w : WmReq), ∀ (d : WmDone), ∀ (s : State), s.wm.pend = some w → s.wmCommand w.chan w.cmd w.payload w.guest = some d → s.wmRetry = ({ d with st := { d.st with wm := { d.st.wm with pend := none } } } : WmDone).report w.chan w.cmd w.seq w.sid w.payload)

/-- PLLs of a quad and the transmit and receive sets of a lane (R49, R72, R55, R60). Each of these commands completes, in every state
and with all operands that meet the conditions of one of its clauses, with exactly the next state that the clause writes, so that
nothing else changes: pllEnable, pllDisable, pllDividerWrite, pllLock, pllUnlock, txfirStage, txfirCommit, rxeqWrite,
adaptLimitHold. What enabling, disabling, programming, locking and unlocking a PLL do (R49, R72), and what writes of the equaliser
registers and a parameter at its limit do (R55, R60). -/
def Obligations.PllAndEqualiserCommands : Prop :=
  (∀ (q : QuadId), ∀ (b : Bool), ∀ (s : State), s.barred .LNQ (q.val / 4) = none → s.flag (pllRegs b).en q = false → exec (.pllEnable q b) s = .next (((s.set (pllRegs b).en 1 q).set (pllRegs b).range (if (s.set (pllRegs b).en 1 q).pllInRange q b then 0 else 1) q).answer .ok)) ∧
  (∀ (q : QuadId), ∀ (b : Bool), ∀ (s : State), s.barred .LNQ (q.val / 4) = none → s.flag (pllRegs b).en q = true → exec (.pllEnable q b) s = .next (s.answer .ok)) ∧
  (∀ (q : QuadId), ∀ (b : Bool), ∀ (s : State), s.barred .LNQ (q.val / 4) = none → s.flag (pllRegs b).en q = true → exec (.pllDisable q b) s = .next ((((s.set (pllRegs b).en 0 q).set (pllRegs b).lock 0 q).dropLanes q b).answer .ok)) ∧
  (∀ (q : QuadId), ∀ (b : Bool), ∀ (f : Bool), ∀ (v : Word), ∀ (s : State), s.barred .LNQ (q.val / 4) = none → s.flag (pllRegs b).en q = true → exec (.pllDividerWrite q b f v) s = .next (s.answer .ok)) ∧
  (∀ (q : QuadId), ∀ (b : Bool), ∀ (v : Word), ∀ (s : State), s.barred .LNQ (q.val / 4) = none → s.flag (pllRegs b).en q = false → exec (.pllDividerWrite q b false v) s = .next ((s.set (pllRegs b).nint (bitsOf v.toNat 0 10) q).answer .ok)) ∧
  (∀ (q : QuadId), ∀ (b : Bool), ∀ (s : State), s.flag (pllRegs b).en q = true → s.flag (pllRegs b).range q = false → exec (.pllLock q b) s = .next ((s.set (pllRegs b).lock 1 q).startWaiting q b)) ∧
  (∀ (q : QuadId), ∀ (b : Bool), ∀ (s : State), s.flag (pllRegs b).range q = true → exec (.pllLock q b) s = .next (s)) ∧
  (∀ (q : QuadId), ∀ (b : Bool), ∀ (s : State), s.flag (pllRegs b).en q = true → s.flag (pllRegs b).lock q = true → exec (.pllUnlock q b) s = .next (((s.set (pllRegs b).lock 0 q).set (pllRegs b).unlk 1 q).dropLanes q b)) ∧
  (∀ (l : LaneId), ∀ (v : Word), ∀ (s : State), s.barred .LN (fieldOf l) = none → s.get LN.STAT_STATE l ≠ 4 → exec (.txfirStage l v) s = .next ((s.setLane l { s.lane l with stage0 := some v.toNat }).answer .ok)) ∧
  (∀ (l : LaneId), ∀ (v : Word), ∀ (s : State), s.barred .LN (fieldOf l) = none → s.get LN.STAT_STATE l = 4 → exec (.txfirStage l v) s = .next ((s.set LN.STAT_FIRERR 1 l).answer .ok)) ∧
  (∀ (l : LaneId), ∀ (v : Word), ∀ (w : Nat), ∀ (s : State), s.barred .LN (fieldOf l) = none → s.get LN.STAT_STATE l ≠ 4 → (s.lane l).stage0 = some w → s.txOk l { txStart w v.toNat with post1 := signedOf (bitsOf v.toNat 0 8) 8, post2 := signedOf (bitsOf v.toNat 8 8) 8 } = true → exec (.txfirCommit l v) s = .next ((((s.setTx l { txStart w v.toNat with post1 := signedOf (bitsOf v.toNat 0 8) 8, post2 := signedOf (bitsOf v.toNat 8 8) 8 }).set LN.TXFIR1_AMP (bitsOf v.toNat 16 3) l).setLane l { s.lane l with stage0 := none }).answer .ok)) ∧
  (∀ (l : LaneId), ∀ (r : Fin 5), ∀ (v : Word), ∀ (s : State), s.barred .LN (fieldOf l) = none → s.get LN.CTRL_ADAPT l ≠ 2 → exec (.rxeqWrite l r v) s = .next (s.answer .ok)) ∧
  (∀ (l : LaneId), ∀ (v : Word), ∀ (s : State), s.barred .LN (fieldOf l) = none → s.get LN.CTRL_ADAPT l = 2 → bitsOf v.toNat 0 8 ≤ bitsOf (s.entryWord l (s.get LN.CTRL_RCLASS l) 5) 24 8 → bitsOf v.toNat 0 8 ≤ 192 → (signedOf (bitsOf v.toNat 8 8) 8).natAbs ≤ bitsOf (s.entryWord l (s.get LN.CTRL_RCLASS l) 5) 8 8 → (signedOf (bitsOf v.toNat 8 8) 8).natAbs ≤ 63 → exec (.rxeqWrite l 4 v) s = .next (((s.set LN.MLSE_ALPHA (bitsOf v.toNat 0 8) l).set LN.MLSE_BETA (bitsOf v.toNat 8 8) l).answer .ok)) ∧
  (∀ (l : LaneId), ∀ (v : Word), ∀ (s : State), s.barred .LN (fieldOf l) = none → s.get LN.CTRL_ADAPT l = 2 → 192 < bitsOf v.toNat 0 8 → exec (.rxeqWrite l 4 v) s = .next ((s.set LN.STAT_FIRERR 1 l).answer .ok)) ∧
  (∀ (l : LaneId), ∀ (s : State), s.get LN.CTRL_ADAPT l ≠ 2 → s.get LN.STAT_STATE l = 3 → exec (.adaptLimitHold l) s = .next (s.set LN.STAT_ADPLIM 1 l))

/-- Bring-up and loss of a lane (R67, R68, R69, R71, R77). Each of these commands completes, in every state and with all operands that
meet the conditions of one of its clauses, with exactly the next state that the clause writes, so that nothing else changes:
laneDisable, laneEnable, trainRequest, loopSelect, calDone, acqComplete, acqTimeout, lossOfSignal. What enabling, disabling,
training requests, loop-back, the end of CAL and ACQ and a loss of signal do to a lane (R67 to R71, R77). -/
def Obligations.LaneStateCommands : Prop :=
  (∀ (l : LaneId), ∀ (s : State), s.barred .LN (fieldOf l) = none → s.flag LN.CTRL_EN l = true → exec (.laneDisable l) s = .next (((s.set LN.CTRL_EN 0 l).stopLane l).answer .ok)) ∧
  (∀ (l : LaneId), ∀ (v : Word), ∀ (s : State), s.barred .LN (fieldOf l) = none → exec (.laneEnable l v) s = .next ((s.writeLnCtrl l (setBit v.toNat 0)).answer .ok)) ∧
  (∀ (l : LaneId), ∀ (t : Bool), ∀ (s : State), s.barred .LN (fieldOf l) = none → t = false ∨ s.flag LN.CTRL_TRAIN l = true → exec (.trainRequest l t) s = .next ((s.set LN.CTRL_TRAIN (if t then 1 else 0) l).answer .ok)) ∧
  (∀ (l : LaneId), ∀ (u : State), ∀ (s : State), s.barred .LN (fieldOf l) = none → s.flag LN.CTRL_TRAIN l = false → u = (s.set LN.CTRL_TRAIN 1 l).setLane l { (s.set LN.CTRL_TRAIN 1 l).lane l with trained := false } → exec (.trainRequest l true) s = .next ((if u.flag LN.CTRL_EN l = true ∧ u.get LN.STAT_STATE l = 5 then (u.leaveReady l).set LN.STAT_STATE 3 l else u).answer .ok)) ∧
  (∀ (l : LaneId), ∀ (m : Fin 4), ∀ (u : State), ∀ (s : State), s.barred .LN (fieldOf l) = none → m.val ≠ 3 → m.val ≠ s.get LN.CTRL_LOOP l → u = s.set LN.CTRL_LOOP m l → u.get LN.STAT_STATE l < 3 → m.val ≠ 2 → u.get LN.CTRL_LOOP l = m.val → exec (.loopSelect l m) s = .next ((u.setLane l { u.lane l with rxBits := [], echo := [] }).answer .ok)) ∧
  (∀ (l : LaneId), ∀ (m : Fin 4), ∀ (u : State), ∀ (s : State), s.barred .LN (fieldOf l) = none → m.val ≠ 3 → m.val ≠ s.get LN.CTRL_LOOP l → u = ((s.set LN.CTRL_LOOP m l).leaveReady l).set LN.STAT_STATE 3 l → (s.set LN.CTRL_LOOP m l).get LN.STAT_STATE l = 5 → u.get LN.CTRL_LOOP l = m.val → exec (.loopSelect l m) s = .next ((u.setLane l { u.lane l with rxBits := [], echo := if m.val = 2 then List.replicate (u.rxLatency l + 24) 0 else [] }).answer .ok)) ∧
  (∀ (l : LaneId), ∀ (m : Fin 4), ∀ (s : State), s.barred .LN (fieldOf l) = none → m.val = 3 → exec (.loopSelect l m) s = .next (s.answer .ok)) ∧
  (∀ (l : LaneId), ∀ (s : State), s.get LN.STAT_STATE l = 2 → (s.lane l).calMode = 2 → (s.calHalf l).flag LN.CTRL_RXEN l = true → exec (.calDone l) s = .next ((s.calHalf l).set LN.STAT_STATE 3 l)) ∧
  (∀ (l : LaneId), ∀ (s : State), s.get LN.STAT_STATE l ≠ 2 → exec (.calDone l) s = .next (s)) ∧
  (∀ (l : LaneId), ∀ (a : AdaptVals), ∀ (s : State), s.get LN.STAT_STATE l = 3 → (s.adapt l a).flag LN.CTRL_TRAIN l = false → exec (.acqComplete l a) s = .next ((s.adapt l a).laneReady l)) ∧
  (∀ (l : LaneId), ∀ (s : State), s.get LN.STAT_STATE l = 3 → s.get LN.CTRL_ADAPT l = 2 → (s.lane l).cal = none → exec (.acqTimeout l) s = .next (s.set LN.EVCNT_ACQFAIL (min (s.get LN.EVCNT_ACQFAIL l + 1) (2 ^ LN.EVCNT_ACQFAIL.w - 1)) l)) ∧
  (∀ (l : LaneId), ∀ (s : State), s.get LN.STAT_STATE l = 5 → exec (.lossOfSignal l true) s = .next (((((s.leaveReady l).set LN.STAT_STATE 3 l).set LN.STAT_LOS_EVT 1 l).count LN.EVCNT_LOSCNT 1 l).set LN.STAT_CDRLOCK 0 l)) ∧
  (∀ (l : LaneId), ∀ (s : State), s.get LN.STAT_STATE l ≠ 5 → exec (.lossOfSignal l false) s = .next (s))

/-- Calibration of a lane in service (R74, R75). Each of these commands completes, in every state and with all operands that meet the
conditions of one of its clauses, with exactly the next state that the clause writes, so that nothing else changes: rxcal,
fullCal, readapt, queuedCalStart. What requests for the three kinds of calibration do, decided at the write (R74, R75). -/
def Obligations.LaneCalibrationCommands : Prop :=
  (∀ (l : LaneId), ∀ (src : Fin 4096), ∀ (intr : Bool), ∀ (e : Fin 1024), ∀ (s : State), s.barred .LN (fieldOf l) = none → s.opBusy e = true → exec (.rxcal l src intr e) s = .next ((s.set LN.STAT_CALERR 1 l).answer .ok)) ∧
  (∀ (l : LaneId), ∀ (src : Fin 4096), ∀ (intr : Bool), ∀ (e : Fin 1024), ∀ (s : State), s.barred .LN (fieldOf l) = none → s.opBusy e = false → (s.lane l).cal = none → s.dpact l = false → s.get LN.STAT_STATE l = 4 → exec (.rxcal l src intr e) s = .next (((s.opBegin e 0x0102 1 0 src noResult).setLane l { s.lane l with cal := some ⟨0, e, true⟩ }).answer .ok)) ∧
  (∀ (l : LaneId), ∀ (src : Fin 4096), ∀ (intr : Bool), ∀ (e : Fin 1024), ∀ (s : State), s.barred .LN (fieldOf l) = none → s.opBusy e = true → exec (.fullCal l src intr e) s = .next ((s.set LN.STAT_CALERR 1 l).answer .ok)) ∧
  (∀ (l : LaneId), ∀ (src : Fin 4096), ∀ (intr : Bool), ∀ (e : Fin 1024), ∀ (s : State), s.barred .LN (fieldOf l) = none → s.opBusy e = false → (s.lane l).cal = none → s.dpact l = false → s.get LN.STAT_STATE l = 4 → exec (.fullCal l src intr e) s = .next (((s.opBegin e 0x0102 1 0 src noResult).setLane l { s.lane l with cal := some ⟨1, e, true⟩ }).answer .ok)) ∧
  (∀ (l : LaneId), ∀ (src : Fin 4096), ∀ (intr : Bool), ∀ (e : Fin 1024), ∀ (s : State), s.barred .LN (fieldOf l) = none → s.opBusy e = true → exec (.readapt l src intr e) s = .next ((s.set LN.STAT_CALERR 1 l).answer .ok)) ∧
  (∀ (l : LaneId), ∀ (src : Fin 4096), ∀ (intr : Bool), ∀ (e : Fin 1024), ∀ (s : State), s.barred .LN (fieldOf l) = none → s.opBusy e = false → (s.lane l).cal = none → s.dpact l = false → s.get LN.STAT_STATE l = 4 → exec (.readapt l src intr e) s = .next (((s.opBegin e 0x0102 1 0 src noResult).setLane l { s.lane l with cal := some ⟨2, e, true⟩ }).answer .ok)) ∧
  (∀ (l : LaneId), ∀ (c : CalReq), ∀ (s : State), (s.lane l).cal = some c → c.queued = true → s.get LN.STAT_STATE l = 5 → exec (.queuedCalStart l) s = .next (((s.setLane l { s.lane l with cal := some { c with queued := false } }).opMove c.entry 2 0 []).runCal l c.kind))

/-- The commands of the ledger, the mirror, the completion ring and the ledger-changed vector (R398, R399, R400, R402, R403, R404).
Each of these commands completes, in every state and with all operands that meet the conditions of one of its clauses, with
exactly the next state that the clause writes, so that nothing else changes: ledgerEntryWrite, ledgerRelease, mirrorEnable,
completionRingReset, ledgerVector, vectorArm, holdoffExpiry. What the commands of R398 to R404 do to the ledger entry, the copies
in host memory and the vector. -/
def Obligations.LedgerCommands : Prop :=
  (∀ (i : Fin 1024), ∀ (ok : Bool), ∀ (s : State), (s.op i).due = false → exec (.ledgerEntryWrite i ok) s = .next (s)) ∧
  (∀ (i : Fin 1024), ∀ (ok : Bool), ∀ (s : State), (s.op i).due = true → (s.op i).notBefore ≤ s.elapsed → (s.op i).stateDue = false → exec (.ledgerEntryWrite i ok) s = .next (((s.setOp i { s.op i with due := false, stateDue := false, notBefore := s.elapsed + entryGap }).writeEntry i (s.op i)).mirrorEntry i ok)) ∧
  (∀ (i : Fin 1024), ∀ (ok : Bool), ∀ (s : State), (s.op i).due = true → (s.op i).notBefore ≤ s.elapsed → (s.op i).stateDue = true → (s.op i).state < 4 → exec (.ledgerEntryWrite i ok) s = .next ((((s.setOp i { s.op i with due := false, stateDue := false, notBefore := s.elapsed + entryGap }).writeEntry i (s.op i)).mirrorEntry i ok).entryChanged i)) ∧
  (∀ (i : Fin 1024), ∀ (ok : Bool), ∀ (s : State), s.elapsed < (s.op i).notBefore → exec (.ledgerEntryWrite i ok) s = .next (s)) ∧
  (∀ (i : Fin 1024), ∀ (v : Word), ∀ (s : State), s.barred .CXL 0 = none → bitOf v.toNat 10 = true → bitsOf v.toNat 0 10 = i.val → 4 ≤ s.get LGR.STATE i → 4 ≤ (s.op i).state → exec (.ledgerRelease v) s = .next (((((s.setOp i { notBefore := s.elapsed + entryGap }).writeEntry i {}).clearBitOf CXL.LCHG (i % 32) (i / 32)).mirrorEntry i true).answer .ok)) ∧
  (∀ (i : Fin 1024), ∀ (v : Word), ∀ (s : State), s.barred .CXL 0 = none → bitOf v.toNat 10 = true → bitsOf v.toNat 0 10 = i.val → s.get LGR.STATE i < 4 → exec (.ledgerRelease v) s = .next ((s.set CXL.LGST_RELERR 1).answer .ok)) ∧
  (∀ (v : Word), ∀ (s : State), s.barred .CXL 0 = none → bitOf v.toNat 0 = true → s.cxl.cacheEn = true → s.get CXL.LSTAT_MODE = 2 → exec (.mirrorEnable false v) s = .next (((s.set CXL.LMIR_BASE (bitsOf v.toNat 16 16)).set CXL.LMIR_EN 1).answer .ok)) ∧
  (∀ (v : Word), ∀ (s : State), s.barred .CXL 0 = none → bitOf v.toNat 0 = true → s.cxl.cacheEn = false → exec (.mirrorEnable false v) s = .next ((((s.set CXL.LMIR_BASE (bitsOf v.toNat 16 16)).set CXL.LMIR_EN 0).set CXL.LGST_MIRERR 1).answer .ok)) ∧
  (∀ (v : Word), ∀ (s : State), s.barred .CXL 0 = none → exec (.completionRingReset true v) s = .next ((((s.set CXL.LCRPROD 0).set CXL.LCRCONS 0).set CXL.LCR_BASE_HI v.toNat).answer .ok)) ∧
  (∀ (i : Fin 1024), ∀ (s : State), (s.setBitOf CXL.LCHG (i % 32) (i / 32)).flag CXL.LIRQ_EN = false → exec (.ledgerVector i) s = .next (s.setBitOf CXL.LCHG (i % 32) (i / 32))) ∧
  (∀ (i : Fin 1024), ∀ (s : State), (s.setBitOf CXL.LCHG (i % 32) (i / 32)).flag CXL.LIRQ_EN = true → (s.setBitOf CXL.LCHG (i % 32) (i / 32)).flag CXL.LIRQ_ARMED = true → exec (.ledgerVector i) s = .next ((s.setBitOf CXL.LCHG (i % 32) (i / 32)).sendVector)) ∧
  (∀ (v : Word), ∀ (s : State), s.barred .CXL 0 = none → bitOf v.toNat 0 = false → exec (.vectorArm v) s = .next ((if bitOf v.toNat 1 then ((s.set CXL.LIRQ_EN 0).set CXL.LIRQ_HOLDOFF (bitsOf v.toNat 16 16)).set CXL.LIRQ_ARMED 1 else (s.set CXL.LIRQ_EN 0).set CXL.LIRQ_HOLDOFF (bitsOf v.toNat 16 16)).answer .ok)) ∧
  (∀ (s : State), s.cxl.held = false → exec .holdoffExpiry s = .next ({ s with cxl := { s.cxl with holdoff := false, held := false } })) ∧
  (∀ (s : State), s.cxl.held = true → exec .holdoffExpiry s = .next (({ s with cxl := { s.cxl with holdoff := false, held := false } }).sendNow))

/-- Ports and their receivers (R80, R83, R84, R85, R87, R88, R95, R96, R97). Each of these commands completes, in every state and with
all operands that meet the conditions of one of its clauses, with exactly the next state that the clause writes, so that nothing
else changes: portEnable, portDisable, wrawBlockReceive, ethBlockReceive, pcieBlockReceive, pcieRateChange, autonegResolved,
prbsInject, prbsClear, prbsCheck, eyeScanStart, eyeColumnDone, histClear. What a port enable and disable, received blocks,
negotiation, a PCIe rate change, PRBS and the eye scan do (R80, R83 to R85, R87, R88, R95 to R97). -/
def Obligations.PortAndReceiveCommands : Prop :=
  (∀ (l : LaneId), ∀ (v : Word), ∀ (s : State), s.barred .PCS (fieldOf l) = none → exec (.portEnable l v) s = .next ((s.writePcsCtrl l (setBit v.toNat 0)).answer .ok)) ∧
  (∀ (l : LaneId), ∀ (s : State), s.barred .PCS (fieldOf l) = none → s.flag PCS.CTRL_EN l = true → exec (.portDisable l) s = .next ((s.portStop l).answer .ok)) ∧
  (∀ (l : LaneId), ∀ (s : State), s.barred .PCS (fieldOf l) = none → s.flag PCS.CTRL_EN l = false → exec (.portDisable l) s = .next (s.answer .ok)) ∧
  (∀ (l : LaneId), ∀ (h : Fin 4), ∀ (p : BitVec 64), ∀ (a : Nat), ∀ (s : State), s.anchorOf l = some a → s.get PCS.CTRL_MODE a = 1 → s.get LN.STAT_STATE l = 5 → s.flag LN.CTRL_RXEN l = true → s.get LN.CTRL_LOOP l ≠ 1 → exec (.wrawBlockReceive l h p) s = .next ((s.echoBits l (bitList h 0 2 ++ bitList p.toNat 0 64)).wrawReceive a l h p.toNat)) ∧
  (∀ (l : LaneId), ∀ (h : Fin 4), ∀ (p : BitVec 64), ∀ (s : State), s.anchorOf l = none → exec (.wrawBlockReceive l h p) s = .next (s)) ∧
  (∀ (l : LaneId), ∀ (e : EthRx), ∀ (a : Nat), ∀ (s : State), s.anchorOf l = some a → s.get PCS.CTRL_MODE a = 2 → s.get LN.STAT_STATE l = 5 → s.flag LN.CTRL_RXEN l = true → exec (.ethBlockReceive l e) s = .next (s.ethReceive a l e)) ∧
  (∀ (l : LaneId), ∀ (sync : Fin 4), ∀ (b : List Byte), ∀ (a : Nat), ∀ (s : State), s.anchorOf l = some a → s.get PCS.CTRL_MODE a = 3 → s.get LN.STAT_STATE l = 5 → s.flag LN.CTRL_RXEN l = true → s.get LN.CTRL_LOOP l ≠ 1 → exec (.pcieBlockReceive l (.block sync b)) s = .next ((s.echoBits l (bitList sync 0 2 ++ bitList (natLE b) 0 128)).pcieReceive a l sync b)) ∧
  (∀ (l : LaneId), ∀ (a : Nat), ∀ (s : State), s.anchorOf l = some a → s.get PCS.CTRL_MODE a = 3 → s.get LN.STAT_STATE l = 5 → s.flag LN.CTRL_RXEN l = true → s.flag PCS.STAT_BLOCK_LOCK l = true → exec (.pcieBlockReceive l (.lock false)) s = .next ((s.set PCS.STAT_BLOCK_LOCK 0 l).portLost a)) ∧
  (∀ (a : LaneId), ∀ (r : Fin 3), ∀ (s : State), s.flag PCS.CTRL_EN a = true → s.get PCS.CTRL_MODE a = 3 → exec (.pcieRateChange a r) s = .next ((s.portLanes a).foldl (fun s l => s.relane l (3 - r) (s.get LN.CTRL_MOD l) (r + 1) (s.flag LN.CTRL_PLLSEL l) (s.flag LN.CTRL_PRECODE l)) (s.lanesFloat (s.portLanes a)))) ∧
  (∀ (a : LaneId), ∀ (p : Fin 32768), ∀ (prec : Bool), ∀ (s : State), s.flag PCS.CTRL_EN a = true → s.get PCS.CTRL_MODE a = 2 → s.flag PCS.CTRL_AN a = true → exec (.autonegResolved a p prec) s = .next (s.autoneg a p prec)) ∧
  (∀ (l : LaneId), ∀ (s : State), s.barred .PCS (fieldOf l) = none → s.genOn l = true → s.get LN.STAT_STATE l ≠ 4 → exec (.prbsInject l) s = .next ((s.setLane l { s.lane l with genInj := true }).answer .ok)) ∧
  (∀ (l : LaneId), ∀ (s : State), s.barred .PCS (fieldOf l) = none → s.flag PCS.PRBS_GENEN l = false → exec (.prbsInject l) s = .next (s.answer .ok)) ∧
  (∀ (l : LaneId), ∀ (s : State), s.barred .PCS (fieldOf l) = none → exec (.prbsClear l) s = .next ((((s.set2 PCS.PERR_LO PCS.PERR_HI 0 l).set2 PCS.PBIT_LO PCS.PBIT_HI 0 l).set PCS.PRBSST_SAT 0 l).answer .ok)) ∧
  (∀ (l : LaneId), ∀ (v : List Int), ∀ (s : State), s.get LN.STAT_STATE l = 5 → s.flag LN.CTRL_RXEN l = true → s.get LN.CTRL_LOOP l = 0 → s.prbsOn l = true → s.get PCS.PRBS_CHKPAT l ≠ 6 → s.anchorOf l = none → let ps := v.map fun x => placeOfLevel (s.flag LN.CTRL_MOD l) (if s.rxInv l then -x else x); let t := (bitsOfPlaces (s.flag LN.CTRL_MOD l) ps).foldl (fun s b => if s.get PCS.PRBS_CHKPAT l = 6 then s.ssprqBit l b else s.prbsBit l b) s; t.anchorOf l = none → exec (.prbsCheck l v) s = .next (t)) ∧
  (∀ (l : LaneId), ∀ (v : List Int), ∀ (s : State), s.get LN.STAT_STATE l ≠ 5 ∨ s.flag LN.CTRL_RXEN l = false ∨ s.get LN.CTRL_LOOP l = 1 → exec (.prbsCheck l v) s = .next (s)) ∧
  (∀ (l : LaneId), ∀ (src : Fin 4096), ∀ (v : Word), ∀ (s : State), s.barred .PCS (fieldOf l) = none → exec (.eyeScanStart l src v) s = .next ((s.writeEye l (setBit v.toNat 0) src).answer .ok)) ∧
  (∀ (l : LaneId), ∀ (c : List Nat), ∀ (s : State), (s.lane l).eye = none → exec (.eyeColumnDone l c) s = .next (s)) ∧
  (∀ (l : LaneId), ∀ (c : List Nat), ∀ (e : Nat), ∀ (k : Nat), ∀ (buf : Nat), ∀ (s : State), (s.lane l).eye = some (e, k, buf) → k < 63 → (s.netStore .wr (fieldOf l * 256 + 0x80) 0 (buf + 256 * k) ((List.range 64).flatMap fun v => bytesLE 4 (min 0xFFFFFF (c.getD v 0)))).2 = .ok → let t := (s.netStore .wr (fieldOf l * 256 + 0x80) 0 (buf + 256 * k) ((List.range 64).flatMap fun v => bytesLE 4 (min 0xFFFFFF (c.getD v 0)))).1.opMove e 3 (1024 * (k + 1)) []; let u := t.setOp e { t.op e with result := buf }; exec (.eyeColumnDone l c) s = .next (u.setLane l { u.lane l with eye := some (e, k + 1, buf) })) ∧
  (∀ (l : LaneId), ∀ (s : State), s.barred .PCS (fieldOf l) = none → exec (.histClear l) s = .next (((List.range 16).foldl (fun s b => s.set PCS.HBIN 0 l b) s).answer .ok))

/-- Training of a lane (R65, R86, R89, R92, R93, R94). Each of these commands completes, in every state and with all operands that
meet the conditions of one of its clauses, with exactly the next state that the clause writes, so that nothing else changes:
trainingFrameReceive, trainingFrameSend, trainNoFrameTimeout, trainTmaxTimeout, fabricTrainStrobe, fabricTrainDone,
fabricTrainFail, ieeeTrainingFrameReceive. What training frames, timeouts and the fabric and IEEE protocols do to a lane in TRAIN
(R65, R86, R89, R92 to R94). -/
def Obligations.TrainingCommands : Prop :=
  (∀ (l : LaneId), ∀ (cell : BitVec 64), ∀ (s : State), s.trainProto l = some 1 → trainCell (bitsOf cell.toNat 0 24) (bitsOf cell.toNat 24 24) = cell.toNat → exec (.trainingFrameReceive l cell true) s = .next (s.trainFrame l (bitsOf cell.toNat 0 24) (bitsOf cell.toNat 24 24))) ∧
  (∀ (l : LaneId), ∀ (cell : BitVec 64), ∀ (s : State), s.trainProto l = some 1 → exec (.trainingFrameReceive l cell false) s = .next (s.trainBad l)) ∧
  (∀ (l : LaneId), ∀ (r : Option (Fin 128)), ∀ (d : Bool), ∀ (s : State), s.trainProto l = some 1 → exec (.trainingFrameSend l r d) s = .next (s.trainSend l (r.map (·.val)) d)) ∧
  (∀ (l : LaneId), ∀ (s : State), s.trainProto l = some 1 → (s.lane l).train.seen = false → exec (.trainNoFrameTimeout l) s = .next (s.trainFail l)) ∧
  (∀ (l : LaneId), ∀ (s : State), s.trainProto l = some 1 ∨ s.trainProto l = some 2 → exec (.trainTmaxTimeout l) s = .next (s.trainFail l)) ∧
  (∀ (l : LaneId), ∀ (s : State), s.trainProto l = none → exec (.trainTmaxTimeout l) s = .next (s)) ∧
  (∀ (l : LaneId), ∀ (a : Int), ∀ (b : Int), ∀ (c : Int), ∀ (d : Int), ∀ (e : Int), ∀ (f : Int), ∀ (s : State), s.trainProto l = some 2 → s.txOk l ⟨a, b, c, d, e, f⟩ = true → exec (.fabricTrainStrobe l a b c d e f) s = .next (s.setTx l ⟨a, b, c, d, e, f⟩)) ∧
  (∀ (l : LaneId), ∀ (a : Int), ∀ (b : Int), ∀ (c : Int), ∀ (d : Int), ∀ (e : Int), ∀ (f : Int), ∀ (s : State), s.trainProto l = some 2 → s.txOk l ⟨a, b, c, d, e, f⟩ = false → exec (.fabricTrainStrobe l a b c d e f) s = .next (s.emit (.trainReject l))) ∧
  (∀ (l : LaneId), ∀ (s : State), s.trainProto l = some 2 → exec (.fabricTrainDone l) s = .next (s.trainDone l none)) ∧
  (∀ (l : LaneId), ∀ (s : State), s.trainProto l = some 2 → exec (.fabricTrainFail l) s = .next (s.trainFail l)) ∧
  (∀ (l : LaneId), ∀ (s : State), s.trainProto l = some 0 → exec (.ieeeTrainingFrameReceive l .done) s = .next (s.trainDone l none)) ∧
  (∀ (l : LaneId), ∀ (s : State), s.trainProto l = some 0 → exec (.ieeeTrainingFrameReceive l .fail) s = .next (s.trainFail l)) ∧
  (∀ (l : LaneId), ∀ (a : Int), ∀ (b : Int), ∀ (c : Int), ∀ (d : Int), ∀ (e : Int), ∀ (s : State), s.trainProto l = some 0 → s.txOk l ⟨a, b, c, d, e, (txStart (s.entryWord l (s.get LN.CTRL_RCLASS l) 1) (s.entryWord l (s.get LN.CTRL_RCLASS l) 2)).post2⟩ = true → exec (.ieeeTrainingFrameReceive l (.request a b c d e)) s = .next ((s.setTx l ⟨a, b, c, d, e, (txStart (s.entryWord l (s.get LN.CTRL_RCLASS l) 1) (s.entryWord l (s.get LN.CTRL_RCLASS l) 2)).post2⟩).emit (.coefStatus l true)))

/-- Sources of resets and their end (R395, R397, R495, R500, R507, R508, R513). Each of these commands completes, in every state and
with all operands that meet the conditions of one of its clauses, with exactly the next state that the clause writes, so that
nothing else changes: perstAssert, perstRelease, hotReset, mcWatchdog, packageResetCommand, por, pkrRelease, refclkLost,
hbmClockLost, testEnChange. What the sources of a PKR and a POR, their end and the loss of the reference clock do (R395, R397,
R495, R500, R506 to R508, R513). -/
def Obligations.ResetCommands : Prop :=
  (∀ (s : State), let t := (({ s with cxl := { s.cxl with perst := true } }).pkr 3).wakeEvent 1; exec .perstAssert s = .next ({ t with boot := { t.boot with hold := if t.boot.hold.contains 3 then t.boot.hold else t.boot.hold ++ [3] } })) ∧
  (∀ (ld : Bool), ∀ (s : State), exec (.perstRelease ld) s = .next ((({ s with cxl := { s.cxl with perst := false } }).unhold 3).pkrRelease ld)) ∧
  (∀ (s : State), s.pow.dormant = none → s.boot.inReset = false → exec .hotReset s = .next (s.pkrRun 4)) ∧
  (∀ (s : State), s.pow.dormant = none → s.boot.inReset = true → exec .hotReset s = .next (s)) ∧
  (∀ (s : State), s.pow.dormant = none → s.boot.inReset = false → exec .mcWatchdog s = .next (s.pkrRun 0xB)) ∧
  (∀ (v : Word), ∀ (s : State), s.barred .RST 0 = none → bitOf v.toNat 0 = true → bitsOf v.toNat 16 16 = 0x524B → s.pow.dormant = none → s.boot.inReset = false → exec (.packageResetCommand v) s = .next ((s.pkrRun 5).answer .ok)) ∧
  (∀ (v : Word), ∀ (s : State), s.barred .RST 0 = none → bitsOf v.toNat 16 16 ≠ 0x524B → exec (.packageResetCommand v) s = .next (s.answer .ok)) ∧
  (∀ (ball : Bool), ∀ (slow : Bool), ∀ (reff : Bool), ∀ (s : State), exec (.por ball slow reff) s = .next ((s.por (if ball then 2 else 1) slow reff).unhold 1)) ∧
  (∀ (ld : Bool), ∀ (s : State), exec (.pkrRelease ld true) s = .next (((s.unhold 9).unhold 0xA).pkrRelease ld)) ∧
  (∀ (ld : Bool), ∀ (s : State), exec (.pkrRelease ld false) s = .next (s.pkrRelease ld)) ∧
  (∀ (s : State), exec .refclkLost s = .next ((s.set CLK.STAT_REFLOST 1).pkrHeld 0xA)) ∧
  (∀ (m : HmcId), ∀ (p : Fin 32), ∀ (b : Fin 48), ∀ (r : Fin 24576), ∀ (s : State), ((s.clearBitOf CLK.LOCK (4 + m)).setBitOf CLK.UNLK (4 + m)).get HMC.STAT_STATE m = 2 → exec (.hbmClockLost m p none b r) s = .next (((s.clearBitOf CLK.LOCK (4 + m)).setBitOf CLK.UNLK (4 + m)).hbmFreeze m 1 p b r 0 none)) ∧
  (∀ (m : HmcId), ∀ (p : Fin 32), ∀ (i : Option (Fin 32)), ∀ (b : Fin 48), ∀ (r : Fin 24576), ∀ (s : State), ((s.clearBitOf CLK.LOCK (4 + m)).setBitOf CLK.UNLK (4 + m)).get HMC.STAT_STATE m = 4 → exec (.hbmClockLost m p i b r) s = .next ((s.clearBitOf CLK.LOCK (4 + m)).setBitOf CLK.UNLK (4 + m))) ∧
  (∀ (s : State), s.tap.testEn = false → exec (.testEnChange true) s = .next (({ s with tap := { s.tap with testEn := true } }).pkrHeld 6)) ∧
  (∀ (s : State), s.tap.testEn = true → exec (.testEnChange false) s = .next ((({ s with tap := { s.tap with testEn := false } }).unhold 6).pkr 6)) ∧
  (∀ (b : Bool), ∀ (s : State), b = s.tap.testEn → exec (.testEnChange b) s = .next (s))

/-- Dormant, Fallow, wake and gating (R497, R498, R499, R500, R501, R502). Each of these commands completes, in every state and with
all operands that meet the conditions of one of its clauses, with exactly the next state that the clause writes, so that nothing
else changes: dormant, fallow, fallowAtpkrWrite, dwake, wakeTimer, hbmOpChange, quadGate, quadWake, bankGate. What the power
commands, the wake events and the power manager do (R496 to R502). -/
def Obligations.PowerStateCommands : Prop :=
  (∀ (s : State), s.barred .PWR 0 = none → s.flag PWR.CSTAT_BUSY = false → s.get FWU.STAT_STATE = 0 → exec (.dormant 0x5057#16) s = .next ((s.enterDormant 1).answer .ok)) ∧
  (∀ (k : BitVec 16), ∀ (s : State), s.barred .PWR 0 = none → k ≠ 0x5057#16 → exec (.dormant k) s = .next (((s.set PWR.CSTAT_CODE 1).set PWR.CSTAT_CMDERR 1).answer .ok)) ∧
  (∀ (n : FieldId), ∀ (k : BitVec 16), ∀ (s : State), s.barred .PWR 0 = none → exec (.fallow n k) s = .next ((s.writePwrCmd (2 + n * 4 + k.toNat * 2 ^ 16)).answer .ok)) ∧
  (∀ (v : Word), ∀ (s : State), s.barred .PWR 0 = none → s.lastField (bitsOf v.toNat 0 8) = false → exec (.fallowAtpkrWrite v) s = .next ((s.set PWR.FALLOW_ATPKR (bitsOf v.toNat 0 8)).answer .ok)) ∧
  (∀ (t : Nat), ∀ (s : State), s.pow.dormant = some t → t + msUnits ≤ s.now → s.pow.tripped = false → exec .dwake s = .next ((s.restartTclk.pkrRun 8).set PWR.WAKE 2)) ∧
  (∀ (s : State), s.pow.dormant = none → exec .dwake s = .next (s)) ∧
  (∀ (t : Nat), ∀ (s : State), s.get PWR.WTMR ≠ 0 → s.pow.dormant = some t → t + msUnits ≤ s.now → s.pow.tripped = false → exec .wakeTimer s = .next ((s.restartTclk.pkrRun 8).set PWR.WAKE 3)) ∧
  (∀ (v : Word), ∀ (s : State), s.barred .PWR 0 = none → exec (.hbmOpChange v) s = .next ((s.writeHbmop v.toNat).answer .ok)) ∧
  (∀ (q : QuadId), ∀ (s : State), s.flag PWR.POL_QGATE = true → s.serves (q.val / 4) = true → s.quadIdle q = true → exec (.quadGate q) s = .next ((s.setBitOf FPW.GATE_QOFF (q % 4) (q / 4)).clearBitOf FPW.DON (5 + q % 4) (q / 4))) ∧
  (∀ (l : LaneId), ∀ (v : Word), ∀ (s : State), s.bit FPW.GATE_QOFF (quadOf l % 4) (fieldOf l) = true → s.barred .LN (fieldOf l) = none → exec (.quadWake l 0 v) s = .next (((s.wakeQuad (quadOf l)).writeLnCtrl l (setBit v.toNat 0)).answer .ok)) ∧
  (∀ (l : LaneId), ∀ (k : Fin 4), ∀ (v : Word), ∀ (s : State), s.bit FPW.GATE_QOFF (quadOf l % 4) (fieldOf l) = false → exec (.quadWake l k v) s = .next (s)) ∧
  (∀ (i : RsvId), ∀ (b : Fin 16), ∀ (s : State), s.flag PWR.POL_BGATE = true → s.serves (i.val / 4) = true → i.val % 4 < 2 → exec (.bankGate i b) s = .next (s.setBitOf FPW.BGATE_BOFF_LO (16 * (i % 4) + b) (i / 4))) ∧
  (∀ (i : RsvId), ∀ (b : Fin 16), ∀ (s : State), s.flag PWR.POL_BGATE = true → s.serves (i.val / 4) = true → 2 ≤ i.val % 4 → exec (.bankGate i b) s = .next (s.setBitOf FPW.BGATE_BOFF_HI (16 * (i % 4 - 2) + b) (i / 4)))

/-- Telemetry and protection (R503, R504, R505, R517). Each of these commands completes, in every state and with all operands that
meet the conditions of one of its clauses, with exactly the next state that the clause writes, so that nothing else changes:
sensorRead, fieldTrip, packageTrip, powerLimit, supplyWarn, brownOut. What sensor readings, trips, the power limit, supply
warnings and brown-outs do (R503 to R505, R517). -/
def Obligations.TelemetryCommands : Prop :=
  (∀ (r : Sensors), ∀ (s : State), s.pow.dormant = none → s.boot.inReset = false → exec (.sensorRead r) s = .next (s.readSensors r)) ∧
  (∀ (r : Sensors), ∀ (t : Nat), ∀ (s : State), s.pow.dormant = some t → exec (.sensorRead r) s = .next (s.dormantSensors r)) ∧
  (∀ (n : FieldId), ∀ (s : State), s.powered n = true → (List.range 4).any (fun j => decide ((s.get PWR.TLIM_TRIP : Int) ≤ signedOf (s.get FPW.TEMP n j) 8)) = true → exec (.fieldTrip n) s = .next ((((s.setBitOf PWR.STAT_FTRIP n).used.logEvent 0x0A02 n (s.openValue .eventArg % 2 ^ 64)).fence n 9).rollEnd.fieldOff n)) ∧
  (∀ (n : FieldId), ∀ (s : State), s.powered n = false → exec (.fieldTrip n) s = .next (s)) ∧
  (∀ (s : State), s.pow.dormant = none → (List.range 8).any (fun i => decide ((s.get PWR.TLIM_TRIP : Int) ≤ signedOf (s.get PWR.TSENS_TEMP i) 8)) = true → exec .packageTrip s = .next ((s.used.logEvent 0x0A03 8 (s.openValue .eventArg % 2 ^ 64)).enterDormant 2)) ∧
  (∀ (s : State), s.get PWR.LIMIT < s.get PWR.PKG → s.flag PWR.STAT_PLIM = false → let t := ((s.set PWR.STAT_PLIM 1).set PWR.STAT_PLIMEVT 1).used; exec .powerLimit s = .next (t.logEvent 0x0A04 8 (s.openValue .eventArg % 2 ^ 64))) ∧
  (∀ (d : Fin 9), ∀ (c : Fin 6), ∀ (s : State), channelOk d c = true → exec (.supplyWarn d c) s = .next ((s.set PWR.STAT_SUPWARN 1).logEvent 0x0A05 d c)) ∧
  (∀ (d : Fin 9), ∀ (c : Fin 6), ∀ (s : State), channelOk d c = false → exec (.supplyWarn d c) s = .next (s)) ∧
  (∀ (d : Fin 9), ∀ (c : Fin 6), ∀ (s : State), channelOk d c = true → d.val = 8 → c.val ≠ 0 → exec (.brownOut d c) s = .next (s.pkrHeld 9)) ∧
  (∀ (d : Fin 9), ∀ (c : Fin 6), ∀ (s : State), channelOk d c = true → d.val = 8 → c.val = 0 → exec (.brownOut d c) s = .next ({ s.por 1 false false with boot := { (s.por 1 false false).boot with hold := [1] } })) ∧
  (∀ (d : Fin 9), ∀ (c : Fin 6), ∀ (s : State), channelOk d c = true → d.val ≠ 8 → s.powered d = true → s.monitored d c = true → exec (.brownOut d c) s = .next (((s.set FLH.SB_ALARM 1 d).fence d 0x0C).rollEnd.fieldOff d))

/-- Starting, resetting, loading and clocking Rill engines (R347, R348, R350, R351, R362, R363, R365, R366, R367). Each of these
commands completes, in every state and with all operands that meet the conditions of one of its clauses, with exactly the next
state that the clause writes, so that nothing else changes: engineStart, engineReset, engineResetDone, engineResetWedged,
patchLoad, patchLoadDone, watchdogExpiry, clusterClockStop, xyExternalAccess, blockTransferDone, rillAccessReturn. What START, ENR
and its end, the patch loader, the watchdog, the cluster clock, external X/Y accesses, block transfers and returning accesses do
(R347, R348, R350, R351, R362 to R367). -/
def Obligations.RillEngineCommands : Prop :=
  (∀ (g : EngId), ∀ (e : Fin 32768), ∀ (s : State), s.barred .RIL (g.val / 32) = none → exec (.engineStart g e) s = .next ((s.writeEctrl g (1 + e * 2 ^ 16)).answer .ok)) ∧
  (∀ (g : EngId), ∀ (e : Fin 32768), ∀ (s : State), s.barred .RIL (g.val / 32) = none → exec (.engineReset g e) s = .next ((s.writeEctrl g (2 + e * 2 ^ 16)).answer .ok)) ∧
  (∀ (g : EngId), ∀ (s : State), (s.eng g).resetting = true → s.rilQuiet g = true → exec (.engineResetDone g) s = .next (s.rilClear g)) ∧
  (∀ (g : EngId), ∀ (s : State), (s.eng g).resetting = true → s.rilQuiet g = false → let t := s.setEng g { s.eng g with resetting := false }; exec (.engineResetWedged g) s = .next ((t.rilFault g 8 (t.rget RIL.EPC g) 0).rset RIL.ESTAT_WEDGED 1 g)) ∧
  (∀ (k : ClusterId), ∀ (v : Word), ∀ (s : State), s.barred .RIL (k.val / 4) = none → exec (.patchLoad k v) s = .next ((s.writePlcmd k v.toNat).answer .ok)) ∧
  (∀ (k : ClusterId), ∀ (p : PatchLd), ∀ (s : State), Store.find k.val s.loaders = some p → exec (.patchLoadDone k) s = .next (s.patchWords k p p.words)) ∧
  (∀ (g : EngId), ∀ (t : State), ∀ (s : State), s.rget RIL.ESTAT_STATE g = 1 → s.rget RIL.WDRL_WDEN g = 1 → t = s.rilCycles g (1024 * s.rget RIL.WDCNT g - (s.eng g).wdSub) → t.rget RIL.ESTAT_STATE g = 1 → t.rget RIL.WDRL_WDEN g = 1 → t.rget RIL.WDCNT g = 0 → (t.eng g).halt = none → exec (.watchdogExpiry g) s = .next (t.rilFault g 7 (t.rget RIL.EPC g) 0)) ∧
  (∀ (g : EngId), ∀ (t : State), ∀ (s : State), s.rget RIL.ESTAT_STATE g = 1 → s.rget RIL.WDRL_WDEN g = 1 → t = s.rilCycles g (1024 * s.rget RIL.WDCNT g - (s.eng g).wdSub) → t.rget RIL.ESTAT_STATE g = 1 → t.rget RIL.WDRL_WDEN g = 1 → t.rget RIL.WDCNT g = 0 → (t.eng g).halt.isSome = true → exec (.watchdogExpiry g) s = .next (t.breakLock g)) ∧
  (∀ (g : EngId), ∀ (s : State), s.rget RIL.ESTAT_STATE g ≠ 1 → exec (.watchdogExpiry g) s = .next (s)) ∧
  (∀ (k : ClusterId), ∀ (s : State), s.flag PWR.POL_CGATE = true → s.clusterIdle k = true → Store.find k.val s.loaders = none → s.flag RIL.CSTAT_CLKOFF k = false → exec (.clusterClockStop k) s = .next ((s.set RIL.CSTAT_CLKOFF 1 k).setBitOf FPW.GATE_COFF (k % 4) (k / 4))) ∧
  (∀ (g : EngId), ∀ (s : State), exec (.xyExternalAccess g false) s = .next (s.wakeCluster (g / 8))) ∧
  (∀ (g : EngId), ∀ (s : State), (s.wakeCluster (g / 8)).rget RIL.ESTAT_STATE g = 1 → exec (.xyExternalAccess g true) s = .next (((s.wakeCluster (g / 8)).count RIL.ECNT_XYSTALL 1 (g / 8) (g % 8)).rilCycles g 1 |>.rilBreak g |>.rilExpire g)) ∧
  (∀ (g : EngId), ∀ (s : State), (s.eng g).blks = [] → exec (.blockTransferDone g) s = .next (s)) ∧
  (∀ (g : EngId), ∀ (b : RilBlk), ∀ (t : List RilBlk), ∀ (s : State), (s.eng g).blks = b :: t → (s.doBlock g b).2 = .ok → let r := (s.doBlock g b).1; exec (.blockTransferDone g) s = .next ((r.setEng g { r.eng g with blks := t, wait := if (r.eng g).wait = 2 ∧ t.isEmpty = true then 0 else (r.eng g).wait }).rilAfter g)) ∧
  (∀ (g : EngId), ∀ (k : Fin 64), ∀ (gu : Guest), ∀ (s : State), s.time.tclk = true → exec (.rillAccessReturn g k gu) s = .next (s.rilReturn g k gu))

/-- The rows of the Rill instructions (R369, R374, R376, R381). Each of these commands completes, in every state and with all operands
that meet the conditions of one of its clauses, with exactly the next state that the clause writes, so that nothing else changes:
rillNop, cmac, dmac, bfly, aop, ast, calu, ralu, acs, bexp, scale, ldi, movr, stb, br, call, jmpr, doLoop, rillStop, wdr,
rillLoad, store, rillLl, rillSc, rillAmo, blk, rillFlush, bwait. Each Rill instruction row
answers with the issue of its opcode on the engine; an engine that does not run or must wait is left as it is; a word that is not
legal faults with cause 1 and a PC beyond the patch memory with cause 2. -/
def Obligations.RillInstructionRows : Prop :=
  (∀ (g : EngId), ∀ (st : Nat), ∀ (s : State), exec (.rillNop g st) s = .next (s.rilRow g 0x00 st)) ∧
  (∀ (g : EngId), ∀ (st : Nat), ∀ (s : State), exec (.cmac g st) s = .next (s.rilRow g 0x01 st)) ∧
  (∀ (g : EngId), ∀ (st : Nat), ∀ (s : State), exec (.dmac g st) s = .next (s.rilRow g 0x02 st)) ∧
  (∀ (g : EngId), ∀ (st : Nat), ∀ (s : State), exec (.bfly g st) s = .next (s.rilRow g 0x03 st)) ∧
  (∀ (g : EngId), ∀ (st : Nat), ∀ (s : State), exec (.aop g st) s = .next (s.rilRow g 0x04 st)) ∧
  (∀ (g : EngId), ∀ (st : Nat), ∀ (s : State), exec (.ast g st) s = .next (s.rilRow g 0x05 st)) ∧
  (∀ (g : EngId), ∀ (st : Nat), ∀ (s : State), exec (.calu g st) s = .next (s.rilRow g 0x06 st)) ∧
  (∀ (g : EngId), ∀ (st : Nat), ∀ (s : State), exec (.ralu g st) s = .next (s.rilRow g 0x07 st)) ∧
  (∀ (g : EngId), ∀ (st : Nat), ∀ (s : State), exec (.acs g st) s = .next (s.rilRow g 0x08 st)) ∧
  (∀ (g : EngId), ∀ (st : Nat), ∀ (s : State), exec (.bexp g st) s = .next (s.rilRow g 0x09 st)) ∧
  (∀ (g : EngId), ∀ (st : Nat), ∀ (s : State), exec (.scale g st) s = .next (s.rilRow g 0x0A st)) ∧
  (∀ (g : EngId), ∀ (st : Nat), ∀ (s : State), exec (.ldi g st) s = .next (s.rilRow g 0x20 st)) ∧
  (∀ (g : EngId), ∀ (st : Nat), ∀ (s : State), exec (.movr g st) s = .next (s.rilRow g 0x21 st)) ∧
  (∀ (g : EngId), ∀ (st : Nat), ∀ (s : State), exec (.stb g st) s = .next (s.rilRow g 0x22 st)) ∧
  (∀ (g : EngId), ∀ (st : Nat), ∀ (s : State), exec (.br g st) s = .next (s.rilRow g 0x23 st)) ∧
  (∀ (g : EngId), ∀ (st : Nat), ∀ (s : State), exec (.call g st) s = .next (s.rilRow g 0x24 st)) ∧
  (∀ (g : EngId), ∀ (st : Nat), ∀ (s : State), exec (.jmpr g st) s = .next (s.rilRow g 0x25 st)) ∧
  (∀ (g : EngId), ∀ (st : Nat), ∀ (s : State), exec (.doLoop g st) s = .next (s.rilRow g 0x26 st)) ∧
  (∀ (g : EngId), ∀ (st : Nat), ∀ (s : State), exec (.rillStop g st) s = .next (s.rilRow g 0x27 st)) ∧
  (∀ (g : EngId), ∀ (st : Nat), ∀ (s : State), exec (.wdr g st) s = .next (s.rilRow g 0x28 st)) ∧
  (∀ (g : EngId), ∀ (st : Nat), ∀ (s : State), exec (.rillLoad g st) s = .next (s.rilRow g 0x29 st)) ∧
  (∀ (g : EngId), ∀ (st : Nat), ∀ (s : State), exec (.store g st) s = .next (s.rilRow g 0x2A st)) ∧
  (∀ (g : EngId), ∀ (st : Nat), ∀ (s : State), exec (.rillLl g st) s = .next (s.rilRow g 0x2B st)) ∧
  (∀ (g : EngId), ∀ (st : Nat), ∀ (s : State), exec (.rillSc g st) s = .next (s.rilRow g 0x2C st)) ∧
  (∀ (g : EngId), ∀ (st : Nat), ∀ (s : State), exec (.rillAmo g st) s = .next (s.rilRow g 0x2D st)) ∧
  (∀ (g : EngId), ∀ (st : Nat), ∀ (s : State), exec (.blk g st) s = .next (s.rilRow g 0x2E st)) ∧
  (∀ (g : EngId), ∀ (st : Nat), ∀ (s : State), exec (.rillFlush g st) s = .next (s.rilRow g 0x2F st)) ∧
  (∀ (g : EngId), ∀ (st : Nat), ∀ (s : State), exec (.bwait g st) s = .next (s.rilRow g 0x30 st)) ∧
  (∀ (g : EngId), ∀ (held : Nat), ∀ (op : Nat), ∀ (i : Instr), ∀ (s : State), rilRowOf i = some (g, held, op) → s.rget RIL.ESTAT_STATE g ≠ 1 ∨ s.rilBlocked g = true → exec i s = .next (s)) ∧
  (∀ (g : EngId), ∀ (held : Nat), ∀ (op : Nat), ∀ (w : Nat), ∀ (p : State), ∀ (i : Instr), ∀ (s : State), rilRowOf i = some (g, held, op) → s.rget RIL.ESTAT_STATE g = 1 → s.rilBlocked g = false → s.rget RIL.EPC g < 0x4100 → w = s.fetch g (s.rget RIL.EPC g) → rilOp w = op → rilLegal w (s.rget RIL.EPC g) = false → p = s.rilPaused g held → p.rget RIL.ESTAT_STATE g = 1 → p.rilBlocked g = false → p.rget RIL.EPC g = s.rget RIL.EPC g → p.fetch g (p.rget RIL.EPC g) = w → exec i s = .next (p.rilFault g 1 (p.rget RIL.EPC g) 0)) ∧
  (∀ (g : EngId), ∀ (held : Nat), ∀ (op : Nat), ∀ (p : State), ∀ (i : Instr), ∀ (s : State), rilRowOf i = some (g, held, op) → s.rget RIL.ESTAT_STATE g = 1 → s.rilBlocked g = false → 0x4100 ≤ s.rget RIL.EPC g → p = s.rilPaused g held → p.rget RIL.ESTAT_STATE g = 1 → p.rilBlocked g = false → p.rget RIL.EPC g = s.rget RIL.EPC g → exec i s = .next (p.rilFault g 2 (p.rget RIL.EPC g) 0))

/-- Results of the compute instructions of a Rill engine (R353, R355, R356, R358, R359, R360, R374, R375, R385). Each of these
commands completes, in every state and with all operands that meet the conditions of one of its clauses, with exactly the next
state that the clause writes, so that nothing else changes: rillNop, cmac, dmac, bfly, aop, ast, calu, ralu, acs, bexp, scale. A
running engine at whose PC the word stands takes the stall cycles of R386, then writes the accumulators, ST, BE and registers that
R374 gives, and goes to the next word, which inside a loop is the one of R378; the last two clauses say the same of words with
moves (R371, R384). The cycles end as the boundary of R474 says. -/
def Obligations.RillComputeResults : Prop :=
  (∀ (g : EngId), ∀ (held : Nat), ∀ (pc : Nat), ∀ (w : Nat), ∀ (p : State), ∀ (q : State), ∀ (s : State), s.rilPlain g pc w = true → p = s.rilPaused g held → p.rilPlain g pc w = true → q = p.rilTaken g w pc → rilOp w = 0 → rilNoMoves w = true → exec (.rillNop g held) s = .next (q.rilWrote g pc (p.rilNext g pc) (⟨q.eng g, q.rget RIL.EST g, q.rget RIL.EBE g, []⟩))) ∧
  (∀ (g : EngId), ∀ (held : Nat), ∀ (pc : Nat), ∀ (w : Nat), ∀ (p : State), ∀ (q : State), ∀ (s : State), s.rilPlain g pc w = true → p = s.rilPaused g held → p.rilPlain g pc w = true → q = p.rilTaken g w pc → rilOp w = 1 → rilNoMoves w = true → exec (.cmac g held) s = .next (q.rilWrote g pc (p.rilNext g pc) (rilMac w (q.eng g) (q.rget RIL.EST g) (q.rget RIL.EBE g) (complexMul ((q.eng g).reg (bitsOf w 36 4)) ((q.eng g).reg (bitsOf w 32 4)) (bitOf w 31))))) ∧
  (∀ (g : EngId), ∀ (held : Nat), ∀ (pc : Nat), ∀ (w : Nat), ∀ (p : State), ∀ (q : State), ∀ (s : State), s.rilPlain g pc w = true → p = s.rilPaused g held → p.rilPlain g pc w = true → q = p.rilTaken g w pc → rilOp w = 2 → rilNoMoves w = true → exec (.dmac g held) s = .next (q.rilWrote g pc (p.rilNext g pc) (rilMac w (q.eng g) (q.rget RIL.EST g) (q.rget RIL.EBE g) (dualMul ((q.eng g).reg (bitsOf w 36 4)) ((q.eng g).reg (bitsOf w 32 4)))))) ∧
  (∀ (g : EngId), ∀ (held : Nat), ∀ (pc : Nat), ∀ (w : Nat), ∀ (p : State), ∀ (q : State), ∀ (s : State), s.rilPlain g pc w = true → p = s.rilPaused g held → p.rilPlain g pc w = true → q = p.rilTaken g w pc → rilOp w = 3 → rilNoMoves w = true → exec (.bfly g held) s = .next (q.rilWrote g pc (p.rilNext g pc) (rilBfly w (q.eng g) (q.rget RIL.EST g) (q.rget RIL.EBE g)))) ∧
  (∀ (g : EngId), ∀ (held : Nat), ∀ (pc : Nat), ∀ (w : Nat), ∀ (p : State), ∀ (q : State), ∀ (s : State), s.rilPlain g pc w = true → p = s.rilPaused g held → p.rilPlain g pc w = true → q = p.rilTaken g w pc → rilOp w = 4 → rilNoMoves w = true → exec (.aop g held) s = .next (q.rilWrote g pc (p.rilNext g pc) (rilAop w (q.eng g) (q.rget RIL.EST g) (q.rget RIL.EBE g)))) ∧
  (∀ (g : EngId), ∀ (held : Nat), ∀ (pc : Nat), ∀ (w : Nat), ∀ (p : State), ∀ (q : State), ∀ (s : State), s.rilPlain g pc w = true → p = s.rilPaused g held → p.rilPlain g pc w = true → q = p.rilTaken g w pc → rilOp w = 5 → rilNoMoves w = true → exec (.ast g held) s = .next (q.rilWrote g pc (p.rilNext g pc) (rilAst w (q.eng g) (q.rget RIL.EST g) (q.rget RIL.EBE g)))) ∧
  (∀ (g : EngId), ∀ (held : Nat), ∀ (pc : Nat), ∀ (w : Nat), ∀ (p : State), ∀ (q : State), ∀ (s : State), s.rilPlain g pc w = true → p = s.rilPaused g held → p.rilPlain g pc w = true → q = p.rilTaken g w pc → rilOp w = 6 → rilNoMoves w = true → exec (.calu g held) s = .next (q.rilWrote g pc (p.rilNext g pc) (⟨q.eng g, q.rget RIL.EST g, q.rget RIL.EBE g, [(bitsOf w 38 4, caluOf (bitsOf w 27 3) ((q.eng g).reg (bitsOf w 34 4)) ((q.eng g).reg (bitsOf w 30 4)))]⟩))) ∧
  (∀ (g : EngId), ∀ (held : Nat), ∀ (pc : Nat), ∀ (w : Nat), ∀ (p : State), ∀ (q : State), ∀ (s : State), s.rilPlain g pc w = true → p = s.rilPaused g held → p.rilPlain g pc w = true → q = p.rilTaken g w pc → rilOp w = 7 → rilNoMoves w = true → exec (.ralu g held) s = .next (q.rilWrote g pc (p.rilNext g pc) (⟨q.eng g, q.rget RIL.EST g, q.rget RIL.EBE g, [(bitsOf w 38 4, raluOf (bitsOf w 26 3) ((q.eng g).reg (bitsOf w 34 4)) (if bitOf w 29 then bitsOf w 30 4 else (q.eng g).reg (bitsOf w 30 4)))]⟩))) ∧
  (∀ (g : EngId), ∀ (held : Nat), ∀ (pc : Nat), ∀ (w : Nat), ∀ (p : State), ∀ (q : State), ∀ (s : State), s.rilPlain g pc w = true → p = s.rilPaused g held → p.rilPlain g pc w = true → q = p.rilTaken g w pc → rilOp w = 8 → rilNoMoves w = true → exec (.acs g held) s = .next (q.rilWrote g pc (p.rilNext g pc) (rilAcs w (q.eng g) (q.rget RIL.EST g) (q.rget RIL.EBE g)))) ∧
  (∀ (g : EngId), ∀ (held : Nat), ∀ (pc : Nat), ∀ (w : Nat), ∀ (p : State), ∀ (q : State), ∀ (s : State), s.rilPlain g pc w = true → p = s.rilPaused g held → p.rilPlain g pc w = true → q = p.rilTaken g w pc → rilOp w = 9 → rilNoMoves w = true → exec (.bexp g held) s = .next (q.rilWrote g pc (p.rilNext g pc) (⟨q.eng g, q.rget RIL.EST g, min (q.rget RIL.EBE g) (rsb ((q.eng g).reg (bitsOf w 38 4)) (bitOf w 37)), []⟩))) ∧
  (∀ (g : EngId), ∀ (held : Nat), ∀ (pc : Nat), ∀ (w : Nat), ∀ (p : State), ∀ (q : State), ∀ (s : State), s.rilPlain g pc w = true → p = s.rilPaused g held → p.rilPlain g pc w = true → q = p.rilTaken g w pc → rilOp w = 10 → rilNoMoves w = true → exec (.scale g held) s = .next (q.rilWrote g pc (p.rilNext g pc) (⟨q.eng g, q.rget RIL.EST g, q.rget RIL.EBE g, [(bitsOf w 38 4, scaleOf ((q.eng g).reg (bitsOf w 34 4)) (q.rget RIL.EBE g) (bitOf w 33))]⟩))) ∧
  (∀ (g : EngId), ∀ (held : Nat), ∀ (pc : Nat), ∀ (w : Nat), ∀ (i : Instr), ∀ (p : State), ∀ (q : State), ∀ (s : State), rilRowOf i = some (g, held, rilOp w) → rilOp w ≤ 0x0A → s.rilPlain g pc w = true → p = s.rilPaused g held → p.rilPlain g pc w = true → q = p.rilTaken g w pc → (q.rilDoCompute g w).2.1 = none → exec i s = .next (((q.rilDoCompute g w).1.rset RIL.EPC (p.rilNext g pc) g).rilClose g pc 1 (q.rilDoCompute g w).2.2)) ∧
  (∀ (g : EngId), ∀ (held : Nat), ∀ (pc : Nat), ∀ (w : Nat), ∀ (i : Instr), ∀ (p : State), ∀ (q : State), ∀ (f : Nat × Nat), ∀ (s : State), rilRowOf i = some (g, held, rilOp w) → rilOp w ≤ 0x0A → s.rilPlain g pc w = true → p = s.rilPaused g held → p.rilPlain g pc w = true → q = p.rilTaken g w pc → (q.rilDoCompute g w).2.1 = some f → exec i s = .next (((q.rilDoCompute g w).1.rilFault g f.1 pc f.2).rilClose g pc 1 (q.rilDoCompute g w).2.2))

/-- Results of the control instructions of a Rill engine (R367, R376, R377, R378, R379, R385). Each of these commands completes, in
every state and with all operands that meet the conditions of one of its clauses, with exactly the next state that the clause
writes, so that nothing else changes: ldi, movr, stb, br, call, jmpr, doLoop, rillStop, wdr. What LDI, MOVR, STB, BR, CALL, JMPR,
DO, STOP and WDR leave in a running engine after the stall cycles of R386: the register, ST, PC, loop, state or watchdog that R376
to R379 give, the next PC, which inside a loop is the one of R378, and the cycles; nothing else changes. -/
def Obligations.RillControlResults : Prop :=
  (∀ (g : EngId), ∀ (held : Nat), ∀ (pc : Nat), ∀ (w : Nat), ∀ (p : State), ∀ (q : State), ∀ (s : State), s.rilPlain g pc w = true → p = s.rilPaused g held → p.rilPlain g pc w = true → q = p.rilTaken g w pc → rilOp w = 32 → exec (.ldi g held) s = .next ((q.setEng g ((q.eng g).setReg (bitsOf w 38 4) (bitsOf w 0 32))).rilWent g pc (p.rilNext g pc) 1)) ∧
  (∀ (g : EngId), ∀ (held : Nat), ∀ (pc : Nat), ∀ (w : Nat), ∀ (p : State), ∀ (q : State), ∀ (s : State), s.rilPlain g pc w = true → p = s.rilPaused g held → p.rilPlain g pc w = true → q = p.rilTaken g w pc → rilOp w = 33 → exec (.movr g held) s = .next ((q.setRilReg g (bitsOf w 37 5) (q.rilReg g (bitsOf w 32 5))).rilWent g pc (p.rilNext g pc) 1)) ∧
  (∀ (g : EngId), ∀ (held : Nat), ∀ (pc : Nat), ∀ (w : Nat), ∀ (p : State), ∀ (q : State), ∀ (s : State), s.rilPlain g pc w = true → p = s.rilPaused g held → p.rilPlain g pc w = true → q = p.rilTaken g w pc → rilOp w = 34 → exec (.stb g held) s = .next ((q.rset RIL.EST (if bitOf w 41 then q.rget RIL.EST g - (q.rget RIL.EST g &&& bitsOf w 0 11) else q.rget RIL.EST g ||| bitsOf w 0 11) g).rilWent g pc (p.rilNext g pc) 1)) ∧
  (∀ (g : EngId), ∀ (held : Nat), ∀ (pc : Nat), ∀ (w : Nat), ∀ (p : State), ∀ (q : State), ∀ (s : State), s.rilPlain g pc w = true → p = s.rilPaused g held → p.rilPlain g pc w = true → q = p.rilTaken g w pc → rilOp w = 35 → q.rilCond g w = true → exec (.br g held) s = .next ((q.setEng g ((q.eng g).branch (bitsOf w 0 15))).rilWent g pc (bitsOf w 0 15) 3)) ∧
  (∀ (g : EngId), ∀ (held : Nat), ∀ (pc : Nat), ∀ (w : Nat), ∀ (p : State), ∀ (q : State), ∀ (s : State), s.rilPlain g pc w = true → p = s.rilPaused g held → p.rilPlain g pc w = true → q = p.rilTaken g w pc → rilOp w = 35 → q.rilCond g w = false → exec (.br g held) s = .next ((q).rilWent g pc (p.rilNext g pc) 1)) ∧
  (∀ (g : EngId), ∀ (held : Nat), ∀ (pc : Nat), ∀ (w : Nat), ∀ (p : State), ∀ (q : State), ∀ (s : State), s.rilPlain g pc w = true → p = s.rilPaused g held → p.rilPlain g pc w = true → q = p.rilTaken g w pc → rilOp w = 36 → exec (.call g held) s = .next ((q.setEng g ((q.eng g).setReg 15 (pc + 1))).rilWent g pc (bitsOf w 0 15) 3)) ∧
  (∀ (g : EngId), ∀ (held : Nat), ∀ (pc : Nat), ∀ (w : Nat), ∀ (p : State), ∀ (q : State), ∀ (s : State), s.rilPlain g pc w = true → p = s.rilPaused g held → p.rilPlain g pc w = true → q = p.rilTaken g w pc → rilOp w = 37 → exec (.jmpr g held) s = .next ((q.setEng g ((q.eng g).branch ((q.eng g).reg (bitsOf w 38 4) % 2 ^ 15))).rilWent g pc ((q.eng g).reg (bitsOf w 38 4) % 2 ^ 15) 3)) ∧
  (∀ (g : EngId), ∀ (held : Nat), ∀ (pc : Nat), ∀ (w : Nat), ∀ (n : Nat), ∀ (p : State), ∀ (q : State), ∀ (s : State), s.rilPlain g pc w = true → p = s.rilPaused g held → p.rilPlain g pc w = true → q = p.rilTaken g w pc → rilOp w = 38 → n = (if bitOf w 40 then (q.eng g).reg (bitsOf w 36 4) % 2 ^ 16 else bitsOf w 16 16) → n ≠ 0 → exec (.doLoop g held) s = .next ((q.setEng g { q.eng g with lc := Store.set 0 (bitsOf w 41 1) n (q.eng g).lc, loops := ⟨bitsOf w 41 1, pc + 1, bitsOf w 0 15⟩ :: (q.eng g).loops.filter fun l => l.lc != bitsOf w 41 1 }).rilWent g pc (p.rilNext g pc) 1)) ∧
  (∀ (g : EngId), ∀ (held : Nat), ∀ (pc : Nat), ∀ (w : Nat), ∀ (n : Nat), ∀ (p : State), ∀ (q : State), ∀ (s : State), s.rilPlain g pc w = true → p = s.rilPaused g held → p.rilPlain g pc w = true → q = p.rilTaken g w pc → rilOp w = 38 → n = (if bitOf w 40 then (q.eng g).reg (bitsOf w 36 4) % 2 ^ 16 else bitsOf w 16 16) → n = 0 → bitsOf w 0 15 + 1 ≠ p.rilNext g pc → exec (.doLoop g held) s = .next ((q.setEng g ((q.eng g).branch (bitsOf w 0 15 + 1))).rilWent g pc (bitsOf w 0 15 + 1) 3)) ∧
  (∀ (g : EngId), ∀ (held : Nat), ∀ (pc : Nat), ∀ (w : Nat), ∀ (p : State), ∀ (q : State), ∀ (s : State), s.rilPlain g pc w = true → p = s.rilPaused g held → p.rilPlain g pc w = true → q = p.rilTaken g w pc → rilOp w = 39 → exec (.rillStop g held) s = .next ((q.setRilState g 2).rilWent g pc (p.rilNext g pc) 1)) ∧
  (∀ (g : EngId), ∀ (held : Nat), ∀ (pc : Nat), ∀ (w : Nat), ∀ (p : State), ∀ (q : State), ∀ (s : State), s.rilPlain g pc w = true → p = s.rilPaused g held → p.rilPlain g pc w = true → q = p.rilTaken g w pc → rilOp w = 40 → exec (.wdr g held) s = .next ((q.rilReload g).rilWent g pc (p.rilNext g pc) 1))

/-- Issue of the memory instructions of a Rill engine (R362, R363, R364, R380, R381, R382). Each of these commands completes, in every
state and with all operands that meet the conditions of one of its clauses, with exactly the next state that the clause writes, so
that nothing else changes: rillLoad, store, rillLl, rillSc, rillAmo, rillFlush, bwait, blk. What LOAD, STORE, LL, SC,
AMO, BLK, FLUSH and BWAIT leave when they issue on a running engine after the stall cycles of R386: the access or transfer queued in
its stream behind those outstanding, the base pair moved on where the word asks for it, the next PC and one cycle; LL, SC and BLK
outside the own window fault with cause 5. -/
def Obligations.RillMemoryIssue : Prop :=
  (∀ (g : EngId), ∀ (held : Nat), ∀ (pc : Nat), ∀ (w : Nat), ∀ (p : State), ∀ (q : State), ∀ (s : State), s.rilPlain g pc w = true → p = s.rilPaused g held → p.rilPlain g pc w = true → q = p.rilTaken g w pc → rilOp w = 41 → exec (.rillLoad g held) s = .next ((q.setEng g (if bitOf w 30 then EngSt.incBase { q.eng g with outs := (q.eng g).outs ++ [q.rilAccess g w] } (bitsOf w 34 4) (q.rilAccess g w).len else { q.eng g with outs := (q.eng g).outs ++ [q.rilAccess g w] })).rilWent g pc (p.rilNext g pc) 1)) ∧
  (∀ (g : EngId), ∀ (held : Nat), ∀ (pc : Nat), ∀ (w : Nat), ∀ (p : State), ∀ (q : State), ∀ (s : State), s.rilPlain g pc w = true → p = s.rilPaused g held → p.rilPlain g pc w = true → q = p.rilTaken g w pc → rilOp w = 42 → exec (.store g held) s = .next ((q.setEng g (if bitOf w 30 then EngSt.incBase { q.eng g with outs := (q.eng g).outs ++ [q.rilAccess g w] } (bitsOf w 34 4) (q.rilAccess g w).len else { q.eng g with outs := (q.eng g).outs ++ [q.rilAccess g w] })).rilWent g pc (p.rilNext g pc) 1)) ∧
  (∀ (g : EngId), ∀ (held : Nat), ∀ (pc : Nat), ∀ (w : Nat), ∀ (p : State), ∀ (q : State), ∀ (s : State), s.rilPlain g pc w = true → p = s.rilPaused g held → p.rilPlain g pc w = true → q = p.rilTaken g w pc → rilOp w = 43 → (q.rilAccess g w).stream = 4 → exec (.rillLl g held) s = .next ((q.setEng g { q.eng g with outs := (q.eng g).outs ++ [q.rilAccess g w] }).rilWent g pc (p.rilNext g pc) 1)) ∧
  (∀ (g : EngId), ∀ (held : Nat), ∀ (pc : Nat), ∀ (w : Nat), ∀ (p : State), ∀ (q : State), ∀ (s : State), s.rilPlain g pc w = true → p = s.rilPaused g held → p.rilPlain g pc w = true → q = p.rilTaken g w pc → rilOp w = 43 → (q.rilAccess g w).stream ≠ 4 → exec (.rillLl g held) s = .next ((p.rilFault g 5 pc (q.rilAccess g w).addr).rilClose g pc 1 [])) ∧
  (∀ (g : EngId), ∀ (held : Nat), ∀ (pc : Nat), ∀ (w : Nat), ∀ (p : State), ∀ (q : State), ∀ (s : State), s.rilPlain g pc w = true → p = s.rilPaused g held → p.rilPlain g pc w = true → q = p.rilTaken g w pc → rilOp w = 44 → (q.rilAccess g w).stream = 4 → exec (.rillSc g held) s = .next ((q.setEng g { q.eng g with outs := (q.eng g).outs ++ [q.rilAccess g w] }).rilWent g pc (p.rilNext g pc) 1)) ∧
  (∀ (g : EngId), ∀ (held : Nat), ∀ (pc : Nat), ∀ (w : Nat), ∀ (p : State), ∀ (q : State), ∀ (s : State), s.rilPlain g pc w = true → p = s.rilPaused g held → p.rilPlain g pc w = true → q = p.rilTaken g w pc → rilOp w = 44 → (q.rilAccess g w).stream ≠ 4 → exec (.rillSc g held) s = .next ((p.rilFault g 5 pc (q.rilAccess g w).addr).rilClose g pc 1 [])) ∧
  (∀ (g : EngId), ∀ (held : Nat), ∀ (pc : Nat), ∀ (w : Nat), ∀ (p : State), ∀ (q : State), ∀ (s : State), s.rilPlain g pc w = true → p = s.rilPaused g held → p.rilPlain g pc w = true → q = p.rilTaken g w pc → rilOp w = 45 → exec (.rillAmo g held) s = .next ((q.setEng g { q.eng g with outs := (q.eng g).outs ++ [q.rilAccess g w] }).rilWent g pc (p.rilNext g pc) 1)) ∧
  (∀ (g : EngId), ∀ (held : Nat), ∀ (pc : Nat), ∀ (w : Nat), ∀ (p : State), ∀ (q : State), ∀ (s : State), s.rilPlain g pc w = true → p = s.rilPaused g held → p.rilPlain g pc w = true → q = p.rilTaken g w pc → rilOp w = 47 → exec (.rillFlush g held) s = .next ((q.setEng g { q.eng g with outs := (q.eng g).outs ++ [{ kind := 5, stream := bitsOf w 31 2 }], wait := 1 }).rilWent g pc (p.rilNext g pc) 1)) ∧
  (∀ (g : EngId), ∀ (held : Nat), ∀ (pc : Nat), ∀ (w : Nat), ∀ (p : State), ∀ (q : State), ∀ (s : State), s.rilPlain g pc w = true → p = s.rilPaused g held → p.rilPlain g pc w = true → q = p.rilTaken g w pc → rilOp w = 48 → exec (.bwait g held) s = .next ((if (q.eng g).blks.isEmpty then q else q.setEng g { q.eng g with wait := 2 }).rilWent g pc (p.rilNext g pc) 1)) ∧
  (∀ (g : EngId), ∀ (held : Nat), ∀ (pc : Nat), ∀ (w : Nat), ∀ (p : State), ∀ (q : State), ∀ (s : State), s.rilPlain g pc w = true → p = s.rilPaused g held → p.rilPlain g pc w = true → q = p.rilTaken g w pc → rilOp w = 46 → ownRsv g (rilAddr w (q.eng g) / 64 * 64) = true → bitOf w 33 = false → bitOf w 30 = false → exec (.blk g held) s = .next ((q.setEng g { q.eng g with blks := (q.eng g).blks ++ [⟨bitOf w 41, bitsOf w 40 1, Store.get 0 (4 * bitsOf w 40 1 + bitsOf w 38 2) (q.eng g).ptr / 16 * 16, rilAddr w (q.eng g) / 64 * 64⟩] }).rilWent g pc (p.rilNext g pc) 1)) ∧
  (∀ (g : EngId), ∀ (held : Nat), ∀ (pc : Nat), ∀ (w : Nat), ∀ (p : State), ∀ (q : State), ∀ (s : State), s.rilPlain g pc w = true → p = s.rilPaused g held → p.rilPlain g pc w = true → q = p.rilTaken g w pc → rilOp w = 46 → ownRsv g (rilAddr w (q.eng g) / 64 * 64) = true → exec (.blk g held) s = .next (((q.rilBlk g w).getD q).rilWent g pc (p.rilNext g pc) 1)) ∧
  (∀ (g : EngId), ∀ (held : Nat), ∀ (pc : Nat), ∀ (w : Nat), ∀ (p : State), ∀ (q : State), ∀ (s : State), s.rilPlain g pc w = true → p = s.rilPaused g held → p.rilPlain g pc w = true → q = p.rilTaken g w pc → rilOp w = 46 → ownRsv g (rilAddr w (q.eng g) / 64 * 64) = false → exec (.blk g held) s = .next ((p.rilFault g 5 pc (rilAddr w (q.eng g) / 64 * 64)).rilClose g pc 1 []))

/-- Commands of the master DTC and its time base (R157, R158, R159, R167). Each of these commands completes, in every state and with
all operands that meet the conditions of one of its clauses, with exactly the next state that the clause writes, so that nothing
else changes: tclkLost, tclkRestored, dtcSnapshot, dtcSet, dtcAdj, dtcApply, dtcIncrCommit. What TCLK loss, snapshots, SET, ADJ,
the apply instant and increment writes do (R157 to R160, R167); the error of a switch of keep-alive and its period are open values
(log entry 5). -/
def Obligations.TimeCommands : Prop :=
  (∀ (s : State), s.time.tclk = true → exec .tclkLost s = .next ((((s.keepAlive true).set DTC.TPLL_LOCK 0).clearBitOf CLK.LOCK 1).setBitOf CLK.UNLK 1)) ∧
  (∀ (s : State), s.time.tclk = false → exec .tclkRestored s = .next (((s.keepAlive false).set DTC.TPLL_LOCK 1).setBitOf CLK.LOCK 1)) ∧
  (∀ (mc : Bool), ∀ (s : State), s.barred .DTC 0 = none → exec (.dtcSnapshot mc) s = .next ((s.setStamp (if mc then dtcMcRd else dtcRd) s.time.dtc).answerData (bytesLE 4 (fracOf s.time.dtc)))) ∧
  (∀ (s : State), s.barred .DTC 0 = none → s.flag DTC.CMD_PEND = false → exec .dtcSet s = .next (({ s.set DTC.CMD_PEND 1 with time := { s.time with pend := some (.set (s.stampOf dtcSetRegs % dtcModulus)) } }).answer .ok)) ∧
  (∀ (s : State), s.barred .DTC 0 = none → s.flag DTC.CMD_PEND = false → exec .dtcAdj s = .next (({ s.set DTC.CMD_PEND 1 with time := { s.time with pend := some (.adj (signedOf (s.get2 DTC.ADJ_LO DTC.ADJ_HI) 64)) } }).answer .ok)) ∧
  (∀ (s : State), s.barred .DTC 0 = none → s.flag DTC.CMD_PEND = true → exec .dtcAdj s = .next ((s.set DTC.SSTAT_CMDERR 1).answer .ok)) ∧
  (∀ (c : DtcCmd), ∀ (s : State), s.time.pend = some c → s.time.tclk = true → exec .dtcApply s = .next (((({ ((s.setStamp dtcApplyRegs s.time.dtc).set DTC.CMD_PEND 0).set DTC.SSTAT_STEPPED 1 with
    time := { s.time with dtc := c.apply s.time.dtc, pend := none } }))).mapSlaves
    (({ ((s.setStamp dtcApplyRegs s.time.dtc).set DTC.CMD_PEND 0).set DTC.SSTAT_STEPPED 1 with
    time := { s.time with dtc := c.apply s.time.dtc, pend := none } } : State)).serves (fun v => { v with t := c.apply v.t }))) ∧
  (∀ (s : State), s.time.tclk = false → exec .dtcApply s = .next (s)) ∧
  (∀ (v : Word), ∀ (s : State), s.barred .DTC 0 = none → s.get DTC.CTRL_MODE = 0 → exec (.dtcIncrCommit v) s = .next (({ s.set DTC.INCR_HI v.toNat with time := { s.time with incr := (s.set DTC.INCR_HI v.toNat).get2 DTC.INCR_LO DTC.INCR_HI } }).answer .ok)) ∧
  (∀ (v : Word), ∀ (s : State), s.barred .DTC 0 = none → s.get DTC.CTRL_MODE ≠ 0 → exec (.dtcIncrCommit v) s = .next ((s.set DTC.SSTAT_CMDERR 1).answer .ok))

/-- Beacons, delay measurements and time calibrations (R161, R165, R212). Each of these commands completes, in every state and with
all operands that meet the conditions of one of its clauses, with exactly the next state that the clause writes, so that nothing
else changes: beacon, delay, timeCalRequest, timeCalDone. What a beacon, a delay measurement and a time calibration do to the
slave of a field (R161, R165, R212). -/
def Obligations.SlaveTimeCommands : Prop :=
  (∀ (n : FieldId), ∀ (flight : Nat), ∀ (t : State), ∀ (s : State), s.present n = true → s.bit GLB.AVAIL_FFENCED n = false → s.time.tclk = true → s.fieldTimed n = true → (s.slave n).loaded = false → t = s.setSlave n { s.slave n with t := wrapTime ((s.time.dtc : Int) + (signedOf (s.get FTS.LDLY n) 32 - flight) * 2 ^ 24), loaded := true, good := 0, slewN := 0, cal := some none } → t.siteLive n = true → exec (.beacon n flight false) s = .next (t.setSlave n { t.slave n with missed := 0 })) ∧
  (∀ (n : FieldId), ∀ (flight : Nat), ∀ (t : State), ∀ (s : State), (s.beacon n flight).bit GLB.AVAIL_FFENCED n = false → (s.beacon n flight).present n = true → t = (s.beacon n flight).count FLH.SB_SBERR 1 n → t.siteLive n = true → (t.slave n).missed < 3 → exec (.beacon n flight true) s = .next ((t.setSlave n { t.slave n with missed := (t.slave n).missed + 1 }).set FLH.SB_HBLOST 1 n)) ∧
  (∀ (n : FieldId), ∀ (flight : Nat), ∀ (t : State), ∀ (s : State), (s.beacon n flight).bit GLB.AVAIL_FFENCED n = false → (s.beacon n flight).present n = true → t = (s.beacon n flight).count FLH.SB_SBERR 1 n → t.siteLive n = true → 3 ≤ (t.slave n).missed → exec (.beacon n flight true) s = .next (((((t.setSlave n { t.slave n with missed := (t.slave n).missed + 1 }).set FLH.SB_HBLOST 1 n).fence n 0x0D).rollEnd))) ∧
  (∀ (n : FieldId), ∀ (flight : Nat), ∀ (bad : Bool), ∀ (s : State), s.bit GLB.AVAIL_FFENCED n = true → s.siteLive n = false → exec (.beacon n flight bad) s = .next (s)) ∧
  (∀ (n : FieldId), ∀ (t1 : Nat), ∀ (s2 : Nat), ∀ (s3 : Nat), ∀ (t4 : Nat), ∀ (s : State), s.present n = true → s.bit GLB.AVAIL_FFENCED n = false → exec (.delay n t1 s2 s3 t4 true) s = .next (s.count FLH.SB_SBERR 1 n)) ∧
  (∀ (n : FieldId), ∀ (t1 : Nat), ∀ (s2 : Nat), ∀ (s3 : Nat), ∀ (t4 : Nat), ∀ (s : State), s.present n = true → s.bit GLB.AVAIL_FFENCED n = false → s.time.tclk = true → exec (.delay n t1 s2 s3 t4 false) s = .next (s.set FTS.LDLY (patternOf ((((t4 : Int) - t1) - ((s3 : Int) - s2)) / 2 + Config.asymTrim n) 32) n)) ∧
  (∀ (n : FieldId), ∀ (t1 : Nat), ∀ (s2 : Nat), ∀ (s3 : Nat), ∀ (t4 : Nat), ∀ (s : State), s.time.tclk = false → exec (.delay n t1 s2 s3 t4 false) s = .next (s)) ∧
  (∀ (n : FieldId), ∀ (src : Fin 4096), ∀ (v : Word), ∀ (s : State), s.barred .FTS n = none → bitOf v.toNat 0 = true → s.opBusy (bitsOf v.toNat 16 10) = false → (s.slave n).cal = none → exec (.timeCalRequest n src v) s = .next (((s.opBegin (bitsOf v.toNat 16 10) 0x0301 2 0 src noResult).setSlave n { s.slave n with cal := some (some (bitsOf v.toNat 16 10)) }).answer .ok)) ∧
  (∀ (n : FieldId), ∀ (src : Fin 4096), ∀ (v : Word), ∀ (s : State), s.barred .FTS n = none → bitOf v.toNat 0 = true → s.opBusy (bitsOf v.toNat 16 10) = true → exec (.timeCalRequest n src v) s = .next ((s.set FTS.STAT_CALERR 1 n).answer .ok)) ∧
  (∀ (n : FieldId), ∀ (temp : Byte), ∀ (s : State), (s.slave n).cal = some none → exec (.timeCalDone n temp) s = .next ((((s.setSlave n { s.slave n with cal := none }).set FTS.STAT_CALDONE 1 n).set FTS.STAT_TDRIFT 0 n).set FTS.CALTEMP temp.toNat n)) ∧
  (∀ (n : FieldId), ∀ (temp : Byte), ∀ (e : Nat), ∀ (s : State), (s.slave n).cal = some (some e) → exec (.timeCalDone n temp) s = .next (((((s.setSlave n { s.slave n with cal := none }).set FTS.STAT_CALDONE 1 n).set FTS.STAT_TDRIFT 0 n).set FTS.CALTEMP temp.toNat n).opDone e))

/-- The servo and the pulse per second (R166, R168, R170). Each of these commands completes, in every state and with all operands that
meet the conditions of one of its clauses, with exactly the next state that the clause writes, so that nothing else changes:
ptpMessage, servoHoldover, ppsInEdge, ppsiCaptureStart, ppsiCaptureTimeout, ppsOutRise, ppsOutFall. What time-port messages,
holdover and the PPS events do (R166 to R170); how the time port's user offsets enter its samples is the model's presumption (log
entry 57), and the phase of a stamp is open (log entry 5). -/
def Obligations.ServoCommands : Prop :=
  (∀ (h : PtpHdr), ∀ (o : Nat), ∀ (s : State), s.ptpTakes h = true → s.used.ptpParent h.source = true → s.used.get DTC.CTRL_MODE = 1 ∨ s.used.get DTC.CTRL_MODE = 2 → exec (.ptpMessage (.sync h (some o))) s = .next (s.used.servoSample (((s.tpRxStamp : Int) / 2 ^ 24) - o - signedOf (s.used.get DTC.MPD) 32))) ∧
  (∀ (h : PtpHdr), ∀ (s : State), s.ptpTakes h = true → s.used.ptpParent h.source = true → exec (.ptpMessage (.sync h none)) s = .next ({ s.used with time := { s.used.time with ptpWait := some (h.source, (s.tpRxStamp : Int) / 2 ^ 24) } })) ∧
  (∀ (h : PtpHdr), ∀ (o : Nat), ∀ (t : Int), ∀ (u : State), ∀ (s : State), s.ptpTakes h = true → s.time.ptpWait = some (h.source, t) → s.ptpParent h.source = true → u = { s with time := { s.time with ptpWait := none } } → u.get DTC.CTRL_MODE = 1 ∨ u.get DTC.CTRL_MODE = 2 → exec (.ptpMessage (.followUp h o)) s = .next (u.servoSample (t - o - signedOf (u.get DTC.MPD) 32))) ∧
  (∀ (h : PtpHdr), ∀ (o : Option Nat), ∀ (s : State), s.ptpTakes h = false → exec (.ptpMessage (.sync h o)) s = .next (s)) ∧
  (∀ (h : PtpHdr), ∀ (peer : Bool), ∀ (mpd : Int), ∀ (s : State), s.ptpTakes h = true → peer = s.flag DTC.PTPCFG_DELAYM → peer = true ∨ s.ptpParent h.source = true → exec (.ptpMessage (.delay h peer mpd)) s = .next (s.set DTC.MPD (patternOf (mpd + (s.tpRx - s.tpTx) / 2) 32))) ∧
  (∀ (h : PtpHdr), ∀ (s : State), s.ptpTakes h = true → s.flag DTC.PTPCFG_DELAYM = false → s.ptpMaster = true → exec (.ptpMessage (.delayReq h)) s = .next ((s.emit (.ptp (.delayResp h.source s.tpRxStamp))).used)) ∧
  (∀ (h : PtpHdr), ∀ (d : PtpDataset), ∀ (utc : Int), ∀ (valid : Bool), ∀ (t : State), ∀ (s : State), s.ptpTakes h = true → s.time.ptpBest = none → t = { s with time := { s.time with ptpBest := some (h.source, d) } } → t.ptpParent h.source = true → exec (.ptpMessage (.announce h d utc valid)) s = .next ((t.set DTC.UTCOFS (patternOf utc 16)).set DTC.UTCOFS_UTCVAL (if valid then 1 else 0))) ∧
  (∀ (s : State), s.get DTC.SSTAT_STATE = 2 → exec .servoHoldover s = .next ({ (s.setIncr s.holdIncr).servoState 3 with time := { s.time with incr := s.holdIncr, good := 0 } })) ∧
  (∀ (s : State), s.get DTC.SSTAT_STATE ≠ 2 → exec .servoHoldover s = .next (s)) ∧
  (∀ (s : State), s.time.ppsiHeld = false → s.get DTC.CTRL_MODE ≠ 3 → exec .ppsInEdge s = .next ((s.used.setStamp dtcPpsi (s.stampAt s.time.dtc 0)).set DTC.SSTAT_PPSSEEN 1)) ∧
  (∀ (s : State), s.time.ppsiHeld = true → s.get DTC.CTRL_MODE = 3 → exec .ppsInEdge s = .next ((s.used.set DTC.SSTAT_PPSSEEN 1).servoSample (ppsOffset (s.stampAt s.time.dtc 0)))) ∧
  (∀ (s : State), s.barred .DTC 0 = none → exec .ppsiCaptureStart s = .next (({ s with time := { s.time with ppsiHeld := true, ppsiRead := 0 } }).answerData (bytesLE 4 (s.get DTC.PPSI_FRAC)))) ∧
  (∀ (s : State), exec .ppsiCaptureTimeout s = .next ({ s with time := { s.time with ppsiHeld := false } })) ∧
  (∀ (s : State), s.flag DTC.CTRL_PPSOEN = true → s.get DTC.PPSO_OFS ≤ nsOf s.now → exec .ppsOutRise s = .next ({ s with time := { s.time with ppsOut := true } })) ∧
  (∀ (s : State), s.flag DTC.CTRL_PPSOEN = false → exec .ppsOutRise s = .next (s)) ∧
  (∀ (s : State), exec .ppsOutFall s = .next ({ s with time := { s.time with ppsOut := false } }))

/-- Bundles, confirmation, reversion and enrolment (R436, R446, R447, R448, R449, R452, R453, R454, R457). Each of these commands
completes, in every state and with all operands that meet the conditions of one of its clauses, with exactly the next state that
the clause writes, so that nothing else changes: bundleBegin, bundleData, bundlePartWritten, bundleEnd, abortStage, cancel,
confirm, trialWindowExpiry, settingsMigration, ownerEnrol. What the mailbox commands of a bundle, ABORT, CANCEL, CONFIRM, the end
of a trial window, migration and owner enrolment do (R436, R446 to R454, R457). -/
def Obligations.UpdateCommands : Prop :=
  (∀ (p : List Byte), ∀ (s : State), p.length = 10 → fieldAt p 8 2 ≤ 1023 → exec (.bundleBegin p) s = .next (s.bundleBegin (fieldAt p 0 8) (fieldAt p 8 2))) ∧
  (∀ (p : List Byte), ∀ (s : State), p.length ≠ 10 → exec (.bundleBegin p) s = .next (s.mailbox 2)) ∧
  (∀ (p : List Byte), ∀ (s : State), 9 ≤ p.length → p.length ≤ 8192 → s.get FWU.STAT_STATE = 1 → fieldAt p 0 8 = s.upd.rx.length → s.upd.rx.length + (p.length - 8) ≤ s.upd.total → let t : State := { s with upd := { s.upd with rx := s.upd.rx ++ p.drop 8 } }; exec (.bundleData p) s = .next (((t.set2 FWU.RX_LO FWU.RX_HI t.upd.rx.length).judgeBundle).mailbox 0)) ∧
  (∀ (ok : Bool), ∀ (s : State), (bunEntries s.upd.rx)[s.upd.done]? = none → exec (.bundlePartWritten ok) s = .next (s)) ∧
  (∀ (ok : Bool), ∀ (e : List Byte), ∀ (s : State), (bunEntries s.upd.rx)[s.upd.done]? = some e → s.get FWU.STAT_STATE = 1 → s.upd.manOk = true → entOffset e + entLength e ≤ s.upd.rx.length → (s.upd.done + 1 : Nat) ≠ (bunEntries s.upd.rx).length → let r := s.partError s.upd.rx e ok; let t := s.writePart (partOf e) r.2; let u : State := { t with upd := { t.upd with done := s.upd.done + 1 } }; exec (.bundlePartWritten ok) s = .next (if r.1 = 0 then u.opMove u.upd.entry 3 (1024 * (64 * plainBytes (bunEntries s.upd.rx) (s.upd.done + 1) / max 1 (plainBytes (bunEntries s.upd.rx) (bunEntries s.upd.rx).length))) [] else s.stageFail r.1 s.upd.done)) ∧
  (∀ (p : List Byte), ∀ (s : State), p.length = 2 → fieldAt p 0 2 ≤ 1023 → exec (.bundleEnd p) s = .next (s.bundleEnd (fieldAt p 0 2))) ∧
  (∀ (s : State), s.barred .FWU 0 = none → s.get FWU.STAT_STATE = 1 → exec .abortStage s = .next ((s.stageFail 0x070F 0xFF).answer .ok)) ∧
  (∀ (s : State), s.barred .FWU 0 = none → s.get FWU.STAT_STATE ≠ 1 → exec .abortStage s = .next (s.answer .ok)) ∧
  (∀ (s : State), s.barred .FWU 0 = none → exec .cancel s = .next (s.cancelBundle.answer .ok)) ∧
  (∀ (v : Word), ∀ (s : State), s.barred .FWU 0 = none → bitsOf v.toNat 0 16 ≠ 0xC0F1 → exec (.confirm v) s = .next ((s.set FWU.STAT_CFERR 1).answer .ok)) ∧
  (∀ (v : Word), ∀ (s : State), s.barred .FWU 0 = none → bitsOf v.toNat 0 16 = 0xC0F1 → s.get FWU.STAT_STATE = 5 → s.flag FWU.STAT_MIGFAIL = false → let t := ((s.set FWU.STAT_STATE 0).set FWU.STAT_PRIV 0).set FWU.WIN_REMAIN 0; let u := ({ t with upd := { t.upd with raise := raises t.upd.parts, parts := [], migs := [], migrated := [], done := 0 } }).raiseCounters; exec (.confirm v) s = .next (((u.logEvent 0x0704 8 u.bundleId).set FWU.STAT_LASTRES 1).answer .ok)) ∧
  (∀ (s : State), s.get FWU.STAT_STATE = 5 → s.boot.rolling = true → s.windowEnd ≤ s.now → exec .trialWindowExpiry s = .next ((s.revert 1).pkr 7)) ∧
  (∀ (s : State), s.get FWU.STAT_STATE ≠ 5 → exec .trialWindowExpiry s = .next (s)) ∧
  (∀ (ok : Bool), ∀ (t : State), ∀ (s : State), s.get FWU.STAT_STATE = 5 → s.upd.migDone = false → s.boot.inReset = false → s.migrateAll ok s.upd.migs = (t, none) → exec (.settingsMigration ok) s = .next (({ t.set FWU.STAT_MIGOK 1 with upd := { t.upd with migDone := true } }).headworksSettings false)) ∧
  (∀ (v : Word), ∀ (s : State), s.barred .HDG 0 = none → bitOf v.toNat 0 = true → s.get HDG.LCS = 1 → bitsOf v.toNat 16 16 = 0x4F57 → s.digest HDG.OKEY ≠ 0 → exec (.ownerEnrol v) s = .next (((((List.range 12).foldl (fun s i => s.set HDG.OWNH (s.get HDG.OKEY i) i) s).set HDG.LCS 2).logEvent 0x0709 8 0).answer .ok)) ∧
  (∀ (v : Word), ∀ (s : State), s.barred .HDG 0 = none → bitOf v.toNat 0 = true → bitsOf v.toNat 16 16 ≠ 0x4F57 → exec (.ownerEnrol v) s = .next ((s.set HDG.STAT_OCERR 1).answer .ok))
end

