-- ==== Sys2Proof/Laws/Store.lean ====
section
/-! SUPPORT. Laws of sparse keyed storage: reading after writing, and the canonical form that every operation keeps. -/
namespace Sys2Proof.Machine.Store

variable {α : Type}

theorem find_put_self (k : Nat) (v : α) (m : List (Nat × α)) : find k (put k v m) = some v := by
  induction m with
  | nil => simp [put, find]
  | cons e t ih =>
    obtain ⟨a, x⟩ := e
    by_cases h1 : k < a
    · simp [put, find, h1]
    · by_cases h2 : k = a
      · simp [put, find, h2]
      · simp [put, find, h1, h2, ih]

theorem find_put_ne {j k : Nat} (h : j ≠ k) (v : α) (m : List (Nat × α)) : find j (put k v m) = find j m := by
  induction m with
  | nil => simp [put, find, h]
  | cons e t ih =>
    obtain ⟨a, x⟩ := e
    by_cases h1 : k < a
    · simp [put, find, h1, h]
    · by_cases h2 : k = a
      · subst h2; simp [put, find, h]
      · simp [put, find, h1, h2, ih]

theorem find_drop_self (k : Nat) (m : List (Nat × α)) : find k (drop k m) = none := by
  induction m with
  | nil => rfl
  | cons e t ih =>
    obtain ⟨a, x⟩ := e
    by_cases h : k = a
    · simp [drop, h]; rw [← h]; exact ih
    · simp [drop, find, h, ih]

theorem find_drop_ne {j k : Nat} (h : j ≠ k) (m : List (Nat × α)) : find j (drop k m) = find j m := by
  induction m with
  | nil => rfl
  | cons e t ih =>
    obtain ⟨a, x⟩ := e
    by_cases hk : k = a
    · subst hk; simp [drop, find, h, ih]
    · simp [drop, find, hk, ih]

/-- A key reads as what was last stored under it. -/
@[simp] theorem get_set_self [DecidableEq α] (d : α) (k : Nat) (v : α) (m : List (Nat × α)) : get d k (set d k v m) = v := by
  by_cases h : v = d
  · simp [set, get, h, find_drop_self]
  · simp [set, get, h, find_put_self]

/-- Storing under one key leaves every other one alone. -/
theorem get_set_ne [DecidableEq α] {d e : α} {j k : Nat} (h : j ≠ k) (v : α) (m : List (Nat × α)) :
    get e j (set d k v m) = get e j m := by
  by_cases hv : v = d
  · simp [set, get, hv, find_drop_ne h]
  · simp [set, get, hv, find_put_ne h]

/-! The canonical form. -/

/-- Every key of a list is above a bound. -/
def above (b : Nat) (m : List (Nat × α)) : Prop := ∀ e ∈ m, b < e.1

theorem sorted_cons_iff {a : Nat} {x : α} {m : List (Nat × α)} :
    sorted ((a, x) :: m) = true ↔ above a m ∧ sorted m = true := by
  induction m generalizing a x with
  | nil => simp [sorted, above]
  | cons e t ih =>
    obtain ⟨b, y⟩ := e
    constructor
    · intro h
      simp only [sorted, Bool.and_eq_true, decide_eq_true_eq] at h
      refine ⟨?_, h.2⟩
      have h2 := (ih (a := b) (x := y)).1 h.2
      intro e he
      rcases List.mem_cons.1 he with rfl | he
      · exact h.1
      · exact Nat.lt_trans h.1 (h2.1 e he)
    · intro h
      simp only [sorted, Bool.and_eq_true, decide_eq_true_eq]
      exact ⟨h.1 (b, y) (by simp), h.2⟩

theorem above_put {b k : Nat} {v : α} {m : List (Nat × α)} (hb : b < k) (h : above b m) : above b (put k v m) := by
  induction m with
  | nil => simpa [put, above] using hb
  | cons e t ih =>
    obtain ⟨a, x⟩ := e
    have ha : b < a := h (a, x) (by simp)
    have ht : above b t := fun e he => h e (List.mem_cons_of_mem _ he)
    unfold put
    split
    · intro e he
      rcases List.mem_cons.1 he with rfl | he
      · exact hb
      · exact h e he
    · split
      · intro e he
        rcases List.mem_cons.1 he with rfl | he
        · exact hb
        · exact ht e he
      · intro e he
        rcases List.mem_cons.1 he with rfl | he
        · exact ha
        · exact ih ht e he

theorem sorted_put {k : Nat} {v : α} {m : List (Nat × α)} (h : sorted m = true) : sorted (put k v m) = true := by
  induction m with
  | nil => rfl
  | cons e t ih =>
    obtain ⟨a, x⟩ := e
    have hs := sorted_cons_iff.1 h
    unfold put
    split
    · rename_i hk
      refine sorted_cons_iff.2 ⟨?_, h⟩
      intro e he
      rcases List.mem_cons.1 he with rfl | he
      · exact hk
      · exact Nat.lt_trans hk (hs.1 e he)
    · split
      · rename_i hk; subst hk; exact sorted_cons_iff.2 hs
      · exact sorted_cons_iff.2 ⟨above_put (by omega) hs.1, ih hs.2⟩

theorem mem_drop {k : Nat} {m : List (Nat × α)} {e : Nat × α} (h : e ∈ drop k m) : e ∈ m := by
  induction m with
  | nil => exact h
  | cons f t ih =>
    obtain ⟨a, x⟩ := f
    unfold drop at h
    split at h
    · exact List.mem_cons_of_mem _ (ih h)
    · rcases List.mem_cons.1 h with rfl | h
      · exact List.mem_cons_self
      · exact List.mem_cons_of_mem _ (ih h)

theorem sorted_drop {k : Nat} {m : List (Nat × α)} (h : sorted m = true) : sorted (drop k m) = true := by
  induction m with
  | nil => rfl
  | cons e t ih =>
    obtain ⟨a, x⟩ := e
    have hs := sorted_cons_iff.1 h
    unfold drop
    split
    · exact ih hs.2
    · exact sorted_cons_iff.2 ⟨fun e he => hs.1 e (mem_drop he), ih hs.2⟩

theorem mem_clear {p : Nat → Bool} {m : List (Nat × α)} {e : Nat × α} (h : e ∈ clear p m) : e ∈ m ∧ p e.1 = false := by
  induction m with
  | nil => cases h
  | cons f t ih =>
    obtain ⟨a, x⟩ := f
    unfold clear at h
    split at h
    · exact ⟨List.mem_cons_of_mem _ (ih h).1, (ih h).2⟩
    · rename_i hp
      rcases List.mem_cons.1 h with rfl | h
      · exact ⟨List.mem_cons_self, by simpa using hp⟩
      · exact ⟨List.mem_cons_of_mem _ (ih h).1, (ih h).2⟩

theorem sorted_clear {p : Nat → Bool} {m : List (Nat × α)} (h : sorted m = true) : sorted (clear p m) = true := by
  induction m with
  | nil => rfl
  | cons e t ih =>
    obtain ⟨a, x⟩ := e
    have hs := sorted_cons_iff.1 h
    unfold clear
    split
    · exact ih hs.2
    · exact sorted_cons_iff.2 ⟨fun e he => hs.1 e (mem_clear he).1, ih hs.2⟩

theorem sorted_set [DecidableEq α] {d : α} {k : Nat} {v : α} {m : List (Nat × α)} (h : sorted m = true) :
    sorted (set d k v m) = true := by
  unfold set
  split
  · exact sorted_drop h
  · exact sorted_put h

theorem mem_put {k : Nat} {v : α} {m : List (Nat × α)} {e : Nat × α} (h : e ∈ put k v m) : e = (k, v) ∨ e ∈ m := by
  induction m with
  | nil => simpa [put] using h
  | cons f t ih =>
    obtain ⟨a, x⟩ := f
    unfold put at h
    split at h
    · rcases List.mem_cons.1 h with rfl | h
      · exact .inl rfl
      · exact .inr h
    · split at h
      · rcases List.mem_cons.1 h with rfl | h
        · exact .inl rfl
        · exact .inr (List.mem_cons_of_mem _ h)
      · rcases List.mem_cons.1 h with rfl | h
        · exact .inr List.mem_cons_self
        · rcases ih h with h | h
          · exact .inl h
          · exact .inr (List.mem_cons_of_mem _ h)

/-- The canonical form is kept by a store. -/
theorem wf_set [DecidableEq α] {d : α} {k : Nat} {v : α} {m : List (Nat × α)} (h : wf d m = true) : wf d (set d k v m) = true := by
  simp only [wf, Bool.and_eq_true, List.all_eq_true, decide_eq_true_eq] at h ⊢
  refine ⟨sorted_set h.1, ?_⟩
  intro e he
  unfold set at he
  split at he
  · exact h.2 e (mem_drop he)
  · rename_i hv
    rcases mem_put he with rfl | he
    · exact hv
    · exact h.2 e he

end Sys2Proof.Machine.Store
end

