-- ==== Sys2Proof/Laws/Kept.lean ====
section
/-! SUPPORT. What every operation of the model keeps: the queue of waiting commands, the part's population, the outputs sent
before, the count of event records, which never falls, and the invariant of the books (State.inv). The files Kept*.lean hold one such lemma for each operation and each meaning. -/
namespace Sys2Proof.Machine

/-- KeptC over the components that it speaks of. -/
def KeptC (s0 : State) (pending : List Instr) (part : Part) (out : List Out) (csr : List (Nat × Word)) (mem : List Host.Cell) (chk fog : List (Nat × Nat))
    (events : List Event) (evSeq : Nat) (tags : List (Nat × Tag)) : Prop :=
  (pending = s0.pending ∧ part = s0.part ∧ s0.out <+: out) ∧ s0.evSeq ≤ evSeq ∧
  (s0.inv = true → ({ pending, csr, mem, chk, fog, events, evSeq, tags } : State).inv = true)

/-- A state t reached from s0 has the same queue and part, at least its outputs and its count of records and, where s0 has it, the
invariant. -/
def Kept (s0 t : State) : Prop := KeptC s0 t.pending t.part t.out t.csr t.mem t.chk t.fog t.events t.evSeq t.tags

/-- A result that is a next state keeps them. -/
def KeptR (s0 : State) (r : Result) : Prop := ∀ t, r = .next t → Kept s0 t

/-- The state in an optional answer, read by v, keeps them. -/
def KeptO {α : Type} (v : α → State) (s0 : State) (o : Option α) : Prop := ∀ a, o = some a → Kept s0 (v a)

variable {s0 s t : State}

theorem Kept.of_core (h : KeptC s0 t.pending t.part t.out t.csr t.mem t.chk t.fog t.events t.evSeq t.tags) : Kept s0 t := h
theorem KeptC.of_state (h : Kept s0 s) : KeptC s0 s.pending s.part s.out s.csr s.mem s.chk s.fog s.events s.evSeq s.tags := h
theorem Kept.refl (s : State) : Kept s s := ⟨⟨rfl, rfl, List.prefix_rfl⟩, Nat.le_refl _, id⟩
theorem KeptR.next (h : Kept s0 t) : KeptR s0 (.next t) := by intro u e; cases e; exact h
theorem KeptO.none {α : Type} {v : α → State} : KeptO v s0 none := by intro a e; cases e
theorem KeptO.some {α : Type} {v : α → State} {a : α} (h : Kept s0 (v a)) : KeptO v s0 (some a) := by intro b e; cases e; exact h
theorem KeptO.some_id (h : Kept s0 t) : KeptO id s0 (Option.some t) := KeptO.some h
theorem KeptO.findSome {α β : Type} {v : β → State} {f : α → Option β} {l : List α} (h : ∀ x, KeptO v s0 (f x)) :
    KeptO v s0 (l.findSome? f) := by
  intro b e
  obtain ⟨x, -, hx⟩ := List.exists_of_findSome?_eq_some e
  exact h x b hx
theorem KeptO.map {α β : Type} {w : α → State} {v : β → State} {f : α → β} {o : Option α} (hf : ∀ a, Kept s0 (w a) → Kept s0 (v (f a)))
    (h : KeptO w s0 o) : KeptO v s0 (o.map f) := by
  intro b e
  obtain ⟨a, ha, rfl⟩ := Option.map_eq_some_iff.1 e
  exact hf a (h a ha)
theorem Kept.of_some {o : Option State} (e : o = Option.some t) (h : KeptO id s0 o) : Kept s0 t := h t e
theorem Kept.of_some_snd {α : Type} {o : Option (α × State)} {x : α} (e : o = Option.some (x, t)) (h : KeptO Prod.snd s0 o) : Kept s0 t := h _ e
theorem Kept.of_some_trd {α β : Type} {o : Option (α × β × State)} {x : α} {y : β} (e : o = Option.some (x, y, t))
    (h : KeptO (·.2.2) s0 o) : Kept s0 t := h _ e
theorem Kept.of_some_done {o : Option WmDone} {d : WmDone} (e : o = Option.some d) (h : KeptO WmDone.st s0 o) : Kept s0 d.st := h _ e
theorem Kept.of_fst {α : Type} {p : State × α} {x : α} (e : p = (t, x)) (h : Kept s0 p.1) : Kept s0 t := by subst e; exact h
theorem Kept.ite {c : Prop} [Decidable c] (ha : Kept s0 s) (hb : Kept s0 t) : Kept s0 (if c then s else t) := by split <;> assumption
theorem KeptR.ite {c : Prop} [Decidable c] {a b : Result} (ha : KeptR s0 a) (hb : KeptR s0 b) : KeptR s0 (if c then a else b) := by
  split <;> assumption
theorem Kept.ite_fst {α : Type} {c : Prop} [Decidable c] {a b : State × α} (ha : Kept s0 a.1) (hb : Kept s0 b.1) :
    Kept s0 (if c then a else b).1 := by split <;> assumption
theorem Kept.ite_st {c : Prop} [Decidable c] {a b : WmDone} (ha : Kept s0 a.st) (hb : Kept s0 b.st) :
    Kept s0 (if c then a else b).st := by split <;> assumption
theorem Kept.ite_s {c : Prop} [Decidable c] {a b : MoveOut} (ha : Kept s0 a.s) (hb : Kept s0 b.s) :
    Kept s0 (if c then a else b).s := by split <;> assumption
theorem Kept.getD {o : Option State} (ho : KeptO id s0 o) (h : Kept s0 s) : Kept s0 (o.getD s) := by
  cases o with
  | none => exact h
  | some t => exact ho t rfl
theorem Kept.of_some_fst {α : Type} {o : Option (State × α)} {x : α} (e : o = Option.some (t, x)) (h : KeptO Prod.fst s0 o) : Kept s0 t := h _ e
theorem KeptO.ite {α : Type} {v : α → State} {c : Prop} [Decidable c] {a b : Option α} (ha : KeptO v s0 a) (hb : KeptO v s0 b) :
    KeptO v s0 (if c then a else b) := by split <;> assumption

/-- A fold of a step that keeps them keeps them. -/
theorem Kept.foldl {α : Type} {f : State → α → State} {l : List α} (hf : ∀ s x, Kept s0 s → Kept s0 (f s x)) (h : Kept s0 s) :
    Kept s0 (l.foldl f s) := by
  induction l generalizing s with
  | nil => exact h
  | cons x l ih => exact ih (hf s x h)

/-- The same where the step also carries a value. -/
theorem Kept.foldl_fst {α β : Type} {f : State × β → α → State × β} {l : List α} {p : State × β}
    (hf : ∀ p x, Kept s0 p.1 → Kept s0 (f p x).1) (h : Kept s0 p.1) : Kept s0 (l.foldl f p).1 := by
  induction l generalizing p with
  | nil => exact h
  | cons x l ih => exact ih (hf p x h)

/-- A record update of the state is judged by the components of KeptC alone. -/
theorem Kept.mk_iff {pending : List Instr} {part : Part} {csr : List (Nat × Word)} {settings : List (Nat × Word)} {mem : List Host.Cell} {resp : Resp} {out : List Out} {free : Nat} {ledg : List (Nat × Op)} {events : List Event} {evSeq : Nat} {evBook : List (Nat × EvBook)} {cxl : CxlSt} {copy : CopySt} {time : TimeSt} {slaves : List (Nat × SlaveSt)} {lanes : List (Nat × LaneSt)} {ports : List (Nat × PortSt)} {fields : List (Nat × FieldSt)} {chan : List (Nat × Word)} {furs : List (Nat × FurSt)} {chk : List (Nat × Nat)} {fog : List (Nat × Nat)} {tags : List (Nat × Tag)} {nextOrd : Nat} {waiting : List Req} {ingress : List Held} {owed : List Owed} {unaudited : List Nat} {served : List (Nat × Nat)} {remain : List (Nat × Int)} {upSpent : List (Nat × Nat)} {walk : List Nat} {walkTag : Nat} {pcs : List (Nat × PcSt)} {qdrs : List (Nat × QdrSt)} {hmcs : List (Nat × HmcSt)} {walkers : List (Nat × WalkSt)} {ranges : List (Nat × RangeSt)} {autoInit : List (Nat × Nat)} {resv : List (Nat × Nat)} {basins : List (Nat × BasinSt)} {xbar : List Wire} {pipes : List (Nat × WireSt)} {fabs : List (Nat × FabSt)} {elapsed : Nat} {code : List (Nat × Nat)} {stores : List Host.Cell} {mods : List (Nat × ModSt)} {turns : List (Nat × TurnSt)} {swaps : List (Nat × SwapSt)} {boot : BootSt} {upd : UpdSt} {pow : PowSt} {engs : List (Nat × EngSt)} {patchRam : List (Nat × Nat)} {loaders : List (Nat × PatchLd)} {rings : List (Nat × RingSt)} {cfes : List (Nat × CfeSt)} {cists : List (Nat × CistSt)} {closed : List Closed} {nextClosed : Nat} {draining : List Closed} {flt : FltSt} {wm : WmSt} {gau : GauSt} {tap : TapSt} :
    Kept s0 (State.mk pending part csr settings mem resp out free ledg events evSeq evBook cxl copy time slaves lanes ports fields chan furs chk fog tags nextOrd waiting ingress owed unaudited served remain upSpent walk walkTag pcs qdrs hmcs walkers ranges autoInit resv basins xbar pipes fabs elapsed code stores mods turns swaps boot upd pow engs patchRam loaders rings cfes cists closed nextClosed draining flt wm gau tap) = KeptC s0 pending part out csr mem chk fog events evSeq tags := rfl

/-! The updates of the components themselves. -/

theorem inv_iff : s.inv = true ↔ Store.sorted s.csr = true ∧ Memory.wf s = true ∧ Store.wf 0 s.chk = true ∧
    logWf s.events s.evSeq = true ∧ Store.sorted s.tags = true := by
  simp [State.inv, Bool.and_eq_true, and_assoc]

theorem KeptC.csr {p a o m c f e n g} {r r' : List (Nat × Word)} (hr : Store.sorted r = true → Store.sorted r' = true)
    (h : KeptC s0 p a o r m c f e n g) : KeptC s0 p a o r' m c f e n g := by
  refine ⟨h.1, h.2.1, fun hi => ?_⟩
  have h' := inv_iff.1 (h.2.2 hi)
  exact inv_iff.2 ⟨hr h'.1, h'.2⟩

theorem KeptC.out_append {p a o r m c f e n g} {l : List Out} (h : KeptC s0 p a o r m c f e n g) :
    KeptC s0 p a (o ++ l) r m c f e n g :=
  ⟨⟨h.1.1, h.1.2.1, h.1.2.2.trans (List.prefix_append o l)⟩, h.2⟩

theorem KeptC.csr_set {p a o r m c f e n g} {d v : Word} {k : Nat} (h : KeptC s0 p a o r m c f e n g) :
    KeptC s0 p a o (Store.set d k v r) m c f e n g := h.csr Store.sorted_set

theorem KeptC.csr_clear {p a o r m c f e n g} {q : Nat → Bool} (h : KeptC s0 p a o r m c f e n g) :
    KeptC s0 p a o (Store.clear q r) m c f e n g := h.csr Store.sorted_clear

theorem KeptC.tags {p a o r m c f e n} {g g' : List (Nat × Tag)} (hg : Store.sorted g = true → Store.sorted g' = true)
    (h : KeptC s0 p a o r m c f e n g) : KeptC s0 p a o r m c f e n g' := by
  refine ⟨h.1, h.2.1, fun hi => ?_⟩
  have h' := inv_iff.1 (h.2.2 hi)
  exact inv_iff.2 ⟨h'.1, h'.2.1, h'.2.2.1, h'.2.2.2.1, hg h'.2.2.2.2⟩

theorem KeptC.tags_put {p a o r m c f e n g} {k : Nat} {v : Tag} (h : KeptC s0 p a o r m c f e n g) :
    KeptC s0 p a o r m c f e n (Store.put k v g) := h.tags Store.sorted_put

theorem KeptC.tags_drop {p a o r m c f e n g} {k : Nat} (h : KeptC s0 p a o r m c f e n g) :
    KeptC s0 p a o r m c f e n (Store.drop k g) := h.tags Store.sorted_drop

theorem KeptC.tags_none {p a o r m c f e n g} (h : KeptC s0 p a o r m c f e n g) : KeptC s0 p a o r m c f e n [] := h.tags fun _ => rfl

/-- Memory, check bits and tags of which nothing is left. -/
theorem KeptC.wiped {p a o r m c f e n g} (h : KeptC s0 p a o r m c f e n g) : KeptC s0 p a o r [] [] [] e n [] := by
  refine ⟨h.1, h.2.1, fun hi => ?_⟩
  have h' := inv_iff.1 (h.2.2 hi)
  exact inv_iff.2 ⟨h'.1, rfl, rfl, h'.2.2.2.1, rfl⟩

theorem KeptC.chk {p a o r m f e n g} {c c' : List (Nat × Nat)} (hc : Store.wf 0 c = true → Store.wf 0 c' = true)
    (h : KeptC s0 p a o r m c f e n g) : KeptC s0 p a o r m c' f e n g := by
  refine ⟨h.1, h.2.1, fun hi => ?_⟩
  have h' := inv_iff.1 (h.2.2 hi)
  exact inv_iff.2 ⟨h'.1, h'.2.1, hc h'.2.2.1, h'.2.2.2⟩

theorem KeptC.chk_set {p a o r m c f e n g} {k v : Nat} (h : KeptC s0 p a o r m c f e n g) :
    KeptC s0 p a o r m (Store.set 0 k v c) f e n g := h.chk Store.wf_set

theorem Store.wf_clear {α : Type} [DecidableEq α] {d : α} {q : Nat → Bool} {m : List (Nat × α)} (h : Store.wf d m = true) :
    Store.wf d (Store.clear q m) = true := by
  simp only [Store.wf, Bool.and_eq_true, List.all_eq_true, decide_eq_true_eq] at h ⊢
  exact ⟨Store.sorted_clear h.1, fun e he => h.2 e (Store.mem_clear he).1⟩

/-- Bytes of the memory and the marks of undefined regions change; the memory keeps its form. -/
theorem KeptC.memory {p a o r c e n g} {m m' : List Host.Cell} {f f' : List (Nat × Nat)}
    (hm : Memory.wf ({ mem := m, fog := f } : State) = true → Memory.wf ({ mem := m', fog := f' } : State) = true)
    (h : KeptC s0 p a o r m c f e n g) : KeptC s0 p a o r m' c f' e n g := by
  refine ⟨h.1, h.2.1, fun hi => ?_⟩
  have h' := inv_iff.1 (h.2.2 hi)
  exact inv_iff.2 ⟨h'.1, hm h'.2.1, h'.2.2⟩

theorem Memory.wf_iff : Memory.wf s = true ↔ Store.sorted s.mem = true ∧ ∀ e ∈ s.mem, e.2 ≠ s.memDefault e.1 := by
  simp [Memory.wf, List.all_eq_true]

/-- Storing a byte keeps the memory's form. -/
theorem Memory.wf_setByte {a : Nat} {b : Byte} (h : Memory.wf s = true) : Memory.wf (s.setByte a b) = true := by
  rw [Memory.wf_iff] at h ⊢
  refine ⟨Store.sorted_set h.1, fun e he => ?_⟩
  change e.2 ≠ s.memDefault e.1
  change e ∈ Store.set _ a b s.mem at he
  unfold Store.set at he
  split at he
  · exact h.2 e (Store.mem_drop he)
  · rcases Store.mem_put he with rfl | he
    · assumption
    · exact h.2 e he

theorem State.setByte_kept {a : Nat} {b : Byte} (h : Kept s0 s) : Kept s0 (s.setByte a b) :=
  KeptC.memory (fun hm => Memory.wf_setByte (s := s) hm) h

theorem State.memByte_setByte_self (a : Nat) (b : Byte) : (s.setByte a b).memByte a = b := Store.get_set_self _ _ _ _

theorem State.memByte_setByte_ne {a x : Nat} (h : x ≠ a) (b : Byte) : (s.setByte a b).memByte x = s.memByte x :=
  Store.get_set_ne h _ _

theorem Memory.wf_clear {q : Nat → Bool} {m : List Host.Cell} {f : List (Nat × Nat)}
    (h : Memory.wf ({ mem := m, fog := f } : State) = true) : Memory.wf ({ mem := Store.clear q m, fog := f } : State) = true := by
  rw [Memory.wf_iff] at h ⊢
  exact ⟨Store.sorted_clear h.1, fun e he => h.2 e (Store.mem_clear he).1⟩

/-- The addresses of each memory that has regions (R30). -/
theorem placeOf_hbm {a : Nat} (h : placeOf a = some .hbm) : a < 0x002400000000 := by
  unfold placeOf at h
  by_cases h0 : a < 0x002400000000
  · exact h0
  · rw [if_neg h0] at h
    split at h <;> (try split at h) <;> (try split at h) <;> (try split at h) <;> (try split at h) <;> (try split at h) <;> cases h

theorem placeOf_rsv {a i : Nat} (h : placeOf a = some (.rsv i)) :
    rsvBase ≤ a ∧ a < rsvBase + 0x20000000 ∧ (a - rsvBase) % 0x4000000 < 0x1000000 ∧
    i = (a - rsvBase) / 0x4000000 * 4 + (a - rsvBase) % 0x4000000 / 0x400000 := by
  unfold placeOf at h
  by_cases h0 : a < 0x002400000000
  · rw [if_pos h0] at h; cases h
  · rw [if_neg h0] at h
    by_cases h1 : rsvBase ≤ a ∧ a < rsvBase + 0x20000000
    · rw [if_pos h1] at h
      split at h
      · rename_i h2
        simp only [Option.some.injEq, Place.rsv.injEq] at h
        exact ⟨h1.1, h1.2, h2, h.symm⟩
      · cases h
    · rw [if_neg h1] at h
      split at h <;> (try split at h) <;> (try split at h) <;> (try split at h) <;> (try split at h) <;> cases h

theorem placeOf_qdr {a n : Nat} (h : placeOf a = some (.qdr n)) :
    qdrBase ≤ a ∧ a < qdrBase + 0x20000000 ∧ (a - qdrBase) % 0x4000000 < 0x2000000 ∧ n = (a - qdrBase) / 0x4000000 := by
  unfold placeOf at h
  by_cases h0 : a < 0x002400000000
  · rw [if_pos h0] at h; cases h
  · rw [if_neg h0] at h
    by_cases h1 : rsvBase ≤ a ∧ a < rsvBase + 0x20000000
    · rw [if_pos h1] at h
      split at h <;> cases h
    · rw [if_neg h1] at h
      by_cases h2 : qdrBase ≤ a ∧ a < qdrBase + 0x20000000
      · rw [if_pos h2] at h
        split at h
        · rename_i h3
          simp only [Option.some.injEq, Place.qdr.injEq] at h
          exact ⟨h2.1, h2.2, h3, h.symm⟩
        · cases h
      · rw [if_neg h2] at h
        split at h <;> (try split at h) <;> (try split at h) <;> (try split at h) <;> cases h

/-- A region's range holds every address of the region (R271). -/
theorem regionOf_range {a r : Nat} (h : regionOf a = some r) : (regionRange r).1 ≤ a ∧ a < (regionRange r).1 + (regionRange r).2 := by
  unfold regionOf at h
  split at h
  · rename_i hp
    have := placeOf_hbm hp
    cases h
    rw [regionRange, if_pos (by omega)]
    dsimp only; omega
  · rename_i i hp
    have := placeOf_rsv hp
    cases h
    unfold rsvBase at this
    rw [regionRange, if_neg (by omega), if_pos (by omega)]
    unfold rsvBase
    dsimp only; omega
  · rename_i n hp
    have := placeOf_qdr hp
    cases h
    unfold qdrBase at *
    rw [regionRange, if_neg (by omega), if_neg (by omega)]
    unfold qdrBase
    dsimp only; omega
  · cases h

/-- The memory keeps its form where a region that lists nothing changes what its bytes read as. -/
theorem Memory.wf_fog {m : List Host.Cell} {f f' : List (Nat × Nat)} {r : Nat}
    (hf : ∀ k, k ≠ r → Store.get 0 k f' = Store.get 0 k f)
    (h : Memory.wf ({ mem := m, fog := f } : State) = true) :
    Memory.wf ({ mem := Store.clear (fun x => decide ((regionRange r).1 ≤ x ∧ x < (regionRange r).1 + (regionRange r).2)) m, fog := f' } : State) = true := by
  rw [Memory.wf_iff] at h ⊢
  refine ⟨Store.sorted_clear h.1, fun e he => ?_⟩
  obtain ⟨hm, hq⟩ := Store.mem_clear he
  have h2 := h.2 e hm
  have hne : regionOf e.1 ≠ some r := fun hr => by simp [regionOf_range hr] at hq
  unfold State.memDefault at h2 ⊢
  split
  · rename_i k hk
    rw [hk] at h2
    simp only [hf k (fun e => hne (e ▸ hk))]
    exact h2
  · rename_i hk
    rw [hk] at h2
    exact h2

theorem numbered_append {n : Nat} {l : List Event} {e : Event} (hl : numbered n l = true) (he : e.seq = n + l.length) :
    numbered n (l ++ [e]) = true := by
  induction l generalizing n with
  | nil => simpa [numbered] using he
  | cons x l ih =>
    simp only [numbered, Bool.and_eq_true] at hl
    simp only [List.cons_append, numbered, Bool.and_eq_true]
    refine ⟨hl.1, ih hl.2 ?_⟩
    rw [he, List.length_cons]
    omega

theorem KeptC.zero {p a o r m c f e n g} {q q' : Nat → Bool} (h : KeptC s0 p a o r m c f e n g) :
    KeptC s0 p a o r (Store.clear q m) (Store.clear q' c) f e n g := (h.memory Memory.wf_clear).chk Store.wf_clear

/-- A region's bytes and check bits are cleared, and the mark of the region changes. -/
theorem KeptC.fog {p a o rs m c f f' e n g} {r : Nat} {q : Nat → Bool} (hf : ∀ k, k ≠ r → Store.get 0 k f' = Store.get 0 k f)
    (h : KeptC s0 p a o rs m c f e n g) :
    KeptC s0 p a o rs (Store.clear (fun x => decide ((regionRange r).1 ≤ x ∧ x < (regionRange r).1 + (regionRange r).2)) m)
      (Store.clear q c) f' e n g := (h.memory (Memory.wf_fog hf)).chk Store.wf_clear

/-- R479: writing a record keeps the log the newest records. -/
theorem logWf_write {l : List Event} {n : Nat} {e : Event} (h : logWf l n = true) (he : e.seq = n) :
    logWf (if logCapacity < (l ++ [e]).length then (l ++ [e]).drop 1 else l ++ [e]) (n + 1) = true := by
  simp only [logWf, Bool.and_eq_true, decide_eq_true_eq] at h ⊢
  obtain ⟨⟨h1, h2⟩, h3⟩ := h
  have hn := numbered_append (e := e) h3 (by omega)
  have hlen : (l ++ [e]).length = l.length + 1 := by simp
  split
  · rename_i hc
    rw [hlen] at hc
    obtain ⟨x, t, ht⟩ : ∃ x t, l ++ [e] = x :: t := by cases l <;> simp
    rw [ht] at hn hlen ⊢
    simp only [List.length_cons] at hlen
    simp only [numbered, Bool.and_eq_true] at hn
    simp only [List.drop_succ_cons, List.drop_zero]
    refine ⟨⟨by omega, by omega⟩, ?_⟩
    have : n + 1 - t.length = n - l.length + 1 := by omega
    rw [this]; exact hn.2
  · rename_i hc
    rw [hlen] at hc ⊢
    refine ⟨⟨by omega, by omega⟩, ?_⟩
    have : n + 1 - (l.length + 1) = n - l.length := by omega
    rw [this]; exact hn

theorem KeptC.log {p a o r m c f e n g e' n'} (hn : n ≤ n') (hl : logWf e n = true → logWf e' n' = true)
    (h : KeptC s0 p a o r m c f e n g) : KeptC s0 p a o r m c f e' n' g := by
  refine ⟨h.1, Nat.le_trans h.2.1 hn, fun hi => ?_⟩
  have h' := inv_iff.1 (h.2.2 hi)
  exact inv_iff.2 ⟨h'.1, h'.2.1, h'.2.2.1, hl h'.2.2.2.1, h'.2.2.2.2⟩

theorem State.logEvent_kept {code die arg : Nat} (h : Kept s0 s) : Kept s0 (s.logEvent code die arg) := by
  unfold State.logEvent
  dsimp only
  split
  · exact h
  · exact KeptC.log (Nat.le_succ _) (fun hl => logWf_write hl rfl) h

end Sys2Proof.Machine
end

