-- ==== Sys2Proof/Laws/KeptOps.lean ====
section
/-! SUPPORT. What every operation and meaning of Machine/Ops.lean keeps (Laws/Kept.lean says what that is): one lemma for each. -/
set_option maxRecDepth 4000
set_option linter.unusedVariables false
namespace Sys2Proof.Machine

theorem State.set_kept {s0 : State} {s : State} {f : Field} {v : Nat} {i : Nat} {j : Nat} {k : Nat} (hs : Kept s0 s) :
    Kept s0 (State.set s f v i j k) := by
  exact KeptC.csr_set hs

theorem State.raise_kept {s0 : State} {s : State} {f : Field} {i : Nat} {j : Nat} {k : Nat} (hs : Kept s0 s) :
    Kept s0 (State.raise s f i j k) := by
  unfold State.raise
  try dsimp only
  repeat' (first | with_reducible (first | assumption | apply State.set_kept))

theorem State.lower_kept {s0 : State} {s : State} {f : Field} {i : Nat} {j : Nat} {k : Nat} (hs : Kept s0 s) :
    Kept s0 (State.lower s f i j k) := by
  unfold State.lower
  try dsimp only
  repeat' (first | with_reducible (first | assumption | apply State.set_kept))

theorem State.setB_kept {s0 : State} {s : State} {f : Field} {b : Bool} {i : Nat} {j : Nat} {k : Nat} (hs : Kept s0 s) :
    Kept s0 (State.setB s f b i j k) := by
  unfold State.setB
  try dsimp only
  repeat' (first | with_reducible (first | assumption | apply Kept.ite_fst | apply Kept.ite | apply State.set_kept))

theorem State.clearField_kept {s0 : State} {s : State} {f : Field} {i : Nat} {j : Nat} {k : Nat} (hs : Kept s0 s) :
    Kept s0 (State.clearField s f i j k) := by
  unfold State.clearField
  try dsimp only
  repeat' (first | with_reducible (first | assumption | apply State.set_kept))

theorem State.count_kept {s0 : State} {s : State} {f : Field} {n : Nat} {i : Nat} {j : Nat} {k : Nat} (hs : Kept s0 s) :
    Kept s0 (State.count s f n i j k) := by
  unfold State.count
  try dsimp only
  repeat' (first | with_reducible (first | assumption | apply State.set_kept))

theorem State.wrap_kept {s0 : State} {s : State} {f : Field} {n : Nat} {i : Nat} {j : Nat} {k : Nat} (hs : Kept s0 s) :
    Kept s0 (State.wrap s f n i j k) := by
  unfold State.wrap
  try dsimp only
  repeat' (first | with_reducible (first | assumption | apply State.set_kept))

theorem State.set2_kept {s0 : State} {s : State} {lo : Field} {hi : Field} {v : Nat} {i : Nat} {j : Nat} {k : Nat} (hs : Kept s0 s) :
    Kept s0 (State.set2 s lo hi v i j k) := by
  unfold State.set2
  try dsimp only
  repeat' (first | with_reducible (first | assumption | apply State.set_kept))

theorem State.wrap2_kept {s0 : State} {s : State} {lo : Field} {hi : Field} {n : Nat} {i : Nat} {j : Nat} {k : Nat} (hs : Kept s0 s) :
    Kept s0 (State.wrap2 s lo hi n i j k) := by
  unfold State.wrap2
  try dsimp only
  repeat' (first | with_reducible (first | assumption | apply State.set2_kept))

theorem State.setBitOf_kept {s0 : State} {s : State} {f : Field} {b : Nat} {i : Nat} {j : Nat} {k : Nat} (hs : Kept s0 s) :
    Kept s0 (State.setBitOf s f b i j k) := by
  unfold State.setBitOf
  try dsimp only
  repeat' (first | with_reducible (first | assumption | apply State.set_kept))

theorem State.clearBitOf_kept {s0 : State} {s : State} {f : Field} {b : Nat} {i : Nat} {j : Nat} {k : Nat} (hs : Kept s0 s) :
    Kept s0 (State.clearBitOf s f b i j k) := by
  unfold State.clearBitOf
  try dsimp only
  repeat' (first | with_reducible (first | assumption | apply State.set_kept))

theorem State.wr_kept {s0 : State} {s : State} {v : Nat} {f : Field} {i : Nat} {j : Nat} {k : Nat} (hs : Kept s0 s) :
    Kept s0 (State.wr s v f i j k) := by
  unfold State.wr
  try dsimp only
  repeat' (first | with_reducible (first | assumption | apply Kept.ite_fst | apply Kept.ite | apply State.set_kept))

theorem State.wrAll_kept {s0 : State} {s : State} {v : Nat} {fs : List Field} {i : Nat} {j : Nat} {k : Nat} (hs : Kept s0 s) :
    Kept s0 (State.wrAll s v fs i j k) := by
  unfold State.wrAll
  try dsimp only
  repeat' (first | with_reducible (first | assumption | intro s x _ | intro s _ | intro x | apply Kept.foldl | apply Kept.foldl_fst | apply State.wr_kept))

theorem State.w1c_kept {s0 : State} {s : State} {v : Nat} {f : Field} {i : Nat} {j : Nat} {k : Nat} (hs : Kept s0 s) :
    Kept s0 (State.w1c s v f i j k) := by
  unfold State.w1c
  try dsimp only
  repeat' (first | with_reducible (first | assumption | apply State.set_kept))

theorem State.w1cAll_kept {s0 : State} {s : State} {v : Nat} {fs : List Field} {i : Nat} {j : Nat} {k : Nat} (hs : Kept s0 s) :
    Kept s0 (State.w1cAll s v fs i j k) := by
  unfold State.w1cAll
  try dsimp only
  repeat' (first | with_reducible (first | assumption | intro s x _ | intro s _ | intro x | apply Kept.foldl | apply Kept.foldl_fst | apply State.w1c_kept))

theorem State.used_kept {s0 : State} {s : State} (hs : Kept s0 s) :
    Kept s0 (State.used s) := by
  unfold State.used
  try dsimp only
  repeat' (first | with_reducible (first | assumption | apply KeptC.of_state | apply KeptC.csr_set | apply KeptC.tags_put | apply KeptC.tags_drop | apply KeptC.out_append) | simp only [Kept.mk_iff])

theorem State.answer_kept {s0 : State} {s : State} {st : RStat} (hs : Kept s0 s) :
    Kept s0 (State.answer s st) := by
  unfold State.answer
  try dsimp only
  repeat' (first | with_reducible (first | assumption | apply KeptC.of_state | apply KeptC.csr_set | apply KeptC.tags_put | apply KeptC.tags_drop | apply KeptC.out_append) | simp only [Kept.mk_iff])

theorem State.answerData_kept {s0 : State} {s : State} {d : List Byte} (hs : Kept s0 s) :
    Kept s0 (State.answerData s d) := by
  unfold State.answerData
  try dsimp only
  repeat' (first | with_reducible (first | assumption | apply KeptC.of_state | apply KeptC.csr_set | apply KeptC.tags_put | apply KeptC.tags_drop | apply KeptC.out_append) | simp only [Kept.mk_iff])

theorem State.emit_kept {s0 : State} {s : State} {o : Out} (hs : Kept s0 s) :
    Kept s0 (State.emit s o) := by
  exact KeptC.out_append hs

theorem State.setSwap_kept {s0 : State} {s : State} {n : Nat} {v : SwapSt} (hs : Kept s0 s) :
    Kept s0 (State.setSwap s n v) := by
  unfold State.setSwap
  try dsimp only
  repeat' (first | with_reducible (first | assumption | apply KeptC.of_state | apply KeptC.csr_set | apply KeptC.tags_put | apply KeptC.tags_drop | apply KeptC.out_append) | simp only [Kept.mk_iff])

theorem State.endSwap_kept {s0 : State} {s : State} {n : Nat} (hs : Kept s0 s) :
    Kept s0 (State.endSwap s n) := by
  unfold State.endSwap
  try dsimp only
  repeat' (first | with_reducible (first | assumption | apply KeptC.of_state | apply KeptC.csr_set | apply KeptC.tags_put | apply KeptC.tags_drop | apply KeptC.out_append) | simp only [Kept.mk_iff])

theorem State.setFab_kept {s0 : State} {s : State} {n : Nat} {f : FabSt} (hs : Kept s0 s) :
    Kept s0 (State.setFab s n f) := by
  unfold State.setFab
  try dsimp only
  repeat' (first | with_reducible (first | assumption | apply KeptC.of_state | apply KeptC.csr_set | apply KeptC.tags_put | apply KeptC.tags_drop | apply KeptC.out_append) | simp only [Kept.mk_iff])

theorem State.dropFab_kept {s0 : State} {s : State} {n : Nat} (hs : Kept s0 s) :
    Kept s0 (State.dropFab s n) := by
  unfold State.dropFab
  try dsimp only
  repeat' (first | with_reducible (first | assumption | apply KeptC.of_state | apply KeptC.csr_set | apply KeptC.tags_put | apply KeptC.tags_drop | apply KeptC.out_append) | simp only [Kept.mk_iff])

theorem State.fabFloats_kept {s0 : State} {s : State} {m : Nat} (hs : Kept s0 s) :
    Kept s0 (State.fabFloats s m) := by
  unfold State.fabFloats
  try dsimp only
  repeat' (first | with_reducible (first | assumption | apply KeptC.of_state | apply KeptC.csr_set | apply KeptC.tags_put | apply KeptC.tags_drop | apply KeptC.out_append) | simp only [Kept.mk_iff] | split)

theorem State.timedOut_kept {s0 : State} {s : State} {st : RStat} (hs : Kept s0 s) :
    Kept s0 (State.timedOut s st) := by
  unfold State.timedOut
  try dsimp only
  repeat' (first | with_reducible (first | assumption | apply Kept.ite_fst | apply Kept.ite | apply State.count_kept))

theorem State.access_kept {s0 : State} {s : State} {b : Blk} {n : Nat} {f : State → State} (hs : Kept s0 s) (hf : ∀ s, Kept s0 s → Kept s0 (f s)) :
    Kept s0 (State.access s b n f) := by
  unfold State.access
  try dsimp only
  repeat' (first | with_reducible (first | assumption | apply hf | apply KeptO.none | apply KeptO.some_id | apply KeptO.some | apply KeptO.ite | apply State.answer_kept | apply State.timedOut_kept) | split)

theorem State.setStamp_kept {s0 : State} {s : State} {r : StampRegs} {t : Nat} {i : Nat} (hs : Kept s0 s) :
    Kept s0 (State.setStamp s r t i) := by
  unfold State.setStamp
  try dsimp only
  repeat' (first | with_reducible (first | assumption | apply State.set_kept))

theorem State.setSlave_kept {s0 : State} {s : State} {n : Nat} {v : SlaveSt} (hs : Kept s0 s) :
    Kept s0 (State.setSlave s n v) := by
  unfold State.setSlave
  try dsimp only
  repeat' (first | with_reducible (first | assumption | apply KeptC.of_state | apply KeptC.csr_set | apply KeptC.tags_put | apply KeptC.tags_drop | apply KeptC.out_append) | simp only [Kept.mk_iff])

theorem State.keepAlive_kept {s0 : State} {s : State} {on : Bool} (hs : Kept s0 s) :
    Kept s0 (State.keepAlive s on) := by
  unfold State.keepAlive
  try dsimp only
  repeat' (first | with_reducible (first | assumption | apply Kept.ite_fst | apply Kept.ite | apply KeptC.of_state | apply KeptC.csr_set | apply KeptC.tags_put | apply KeptC.tags_drop | apply KeptC.out_append | apply State.raise_kept | apply State.used_kept) | simp only [Kept.mk_iff])

end Sys2Proof.Machine
end

