-- ==== Sys2Proof/Laws/KeptLedger.lean ====
section
/-! SUPPORT. What every operation and meaning of Machine/Ledger.lean keeps (Laws/Kept.lean says what that is): one lemma for each. -/
set_option maxRecDepth 4000
set_option linter.unusedVariables false
namespace Sys2Proof.Machine

theorem State.setOp_kept {s0 : State} {s : State} {i : Nat} {o : Op} (hs : Kept s0 s) :
    Kept s0 (State.setOp s i o) := by
  unfold State.setOp
  try dsimp only
  repeat' (first | with_reducible (first | assumption | apply KeptC.of_state | apply KeptC.csr_set | apply KeptC.tags_put | apply KeptC.tags_drop | apply KeptC.out_append) | simp only [Kept.mk_iff])

theorem State.opBegin_kept {s0 : State} {s : State} {i : Nat} {opcode : Nat} {state : Nat} {error : Nat} {src : Nat} {result : Nat} (hs : Kept s0 s) :
    Kept s0 (State.opBegin s i opcode state error src result) := by
  unfold State.opBegin
  try dsimp only
  repeat' (first | with_reducible (first | assumption | apply State.setOp_kept))

theorem State.opRefuse_kept {s0 : State} {s : State} {i : Nat} {opcode : Nat} {src : Nat} (hs : Kept s0 s) :
    Kept s0 (State.opRefuse s i opcode src) := by
  unfold State.opRefuse
  try dsimp only
  repeat' (first | with_reducible (first | assumption | apply State.opBegin_kept))

theorem State.opMove_kept {s0 : State} {s : State} {i : Nat} {state : Nat} {progress : Nat} {opspec : List Nat} (hs : Kept s0 s) :
    Kept s0 (State.opMove s i state progress opspec) := by
  unfold State.opMove
  try dsimp only
  repeat' (first | with_reducible (first | assumption | apply State.setOp_kept) | split)

theorem State.opDone_kept {s0 : State} {s : State} {i : Nat} (hs : Kept s0 s) :
    Kept s0 (State.opDone s i) := by
  unfold State.opDone
  try dsimp only
  repeat' (first | with_reducible (first | assumption | apply State.opMove_kept))

theorem State.opFail_kept {s0 : State} {s : State} {i : Nat} {error : Nat} (hs : Kept s0 s) :
    Kept s0 (State.opFail s i error) := by
  unfold State.opFail
  try dsimp only
  repeat' (first | with_reducible (first | assumption | apply State.setOp_kept))

theorem State.sendMsix_kept {s0 : State} {s : State} (hs : Kept s0 s) :
    Kept s0 (State.sendMsix s) := by
  unfold State.sendMsix
  try dsimp only
  repeat' (first | with_reducible (first | assumption | apply Kept.ite_fst | apply Kept.ite | apply KeptC.of_state | apply KeptC.csr_set | apply KeptC.tags_put | apply KeptC.tags_drop | apply KeptC.out_append | apply State.emit_kept) | simp only [Kept.mk_iff] | split)

theorem State.sendNow_kept {s0 : State} {s : State} (hs : Kept s0 s) :
    Kept s0 (State.sendNow s) := by
  unfold State.sendNow
  try dsimp only
  repeat' (first | with_reducible (first | assumption | apply KeptC.of_state | apply KeptC.csr_set | apply KeptC.tags_put | apply KeptC.tags_drop | apply KeptC.out_append | apply State.sendMsix_kept) | simp only [Kept.mk_iff])

theorem State.sendVector_kept {s0 : State} {s : State} (hs : Kept s0 s) :
    Kept s0 (State.sendVector s) := by
  unfold State.sendVector
  try dsimp only
  repeat' (first | with_reducible (first | assumption | apply Kept.ite_fst | apply Kept.ite | apply KeptC.of_state | apply KeptC.csr_set | apply KeptC.tags_put | apply KeptC.tags_drop | apply KeptC.out_append | apply State.sendNow_kept | apply State.lower_kept) | simp only [Kept.mk_iff])

theorem State.entryChanged_kept {s0 : State} {s : State} {i : Nat} (hs : Kept s0 s) :
    Kept s0 (State.entryChanged s i) := by
  unfold State.entryChanged
  try dsimp only
  repeat' (first | with_reducible (first | assumption | apply Kept.ite_fst | apply Kept.ite | apply State.sendVector_kept | apply State.setBitOf_kept))

theorem State.mirrorFail_kept {s0 : State} {s : State} (hs : Kept s0 s) :
    Kept s0 (State.mirrorFail s) := by
  unfold State.mirrorFail
  try dsimp only
  repeat' (first | with_reducible (first | assumption | apply State.raise_kept | apply State.lower_kept))

theorem State.mirrorEntry_kept {s0 : State} {s : State} {i : Nat} {ok : Bool} (hs : Kept s0 s) :
    Kept s0 (State.mirrorEntry s i ok) := by
  unfold State.mirrorEntry
  try dsimp only
  repeat' (first | with_reducible (first | assumption | apply Kept.ite_fst | apply Kept.ite | apply State.mirrorFail_kept | apply State.emit_kept))

theorem State.completionRecord_kept {s0 : State} {s : State} {i : Nat} {ok : Bool} (hs : Kept s0 s) :
    Kept s0 (State.completionRecord s i ok) := by
  unfold State.completionRecord
  try dsimp only
  repeat' (first | with_reducible (first | assumption | apply Kept.ite_fst | apply Kept.ite | apply State.mirrorFail_kept | apply State.raise_kept | apply State.count_kept | apply State.wrap_kept | apply State.emit_kept))

theorem State.writeEntry_kept {s0 : State} {s : State} {i : Nat} {o : Op} (hs : Kept s0 s) :
    Kept s0 (State.writeEntry s i o) := by
  unfold State.writeEntry
  try dsimp only
  repeat' (first | with_reducible (first | assumption | intro s x _ | intro s _ | intro x | apply Kept.foldl | apply Kept.foldl_fst | apply State.set_kept | apply State.wrap_kept | apply State.set2_kept))

theorem execLedgerEntryWrite_kept {s0 : State} {i : Fin 1024} {ok : Bool} {s : State} (hs : Kept s0 s) :
    KeptR s0 (execLedgerEntryWrite i ok s) := by
  unfold execLedgerEntryWrite
  try dsimp only
  repeat' (first | with_reducible (first | assumption | apply KeptR.next | apply KeptR.ite | apply Kept.ite_fst | apply Kept.ite | apply State.setOp_kept | apply State.entryChanged_kept | apply State.mirrorEntry_kept | apply State.completionRecord_kept | apply State.writeEntry_kept))

theorem State.releaseEntry_kept {s0 : State} {s : State} {i : Nat} (hs : Kept s0 s) :
    Kept s0 (State.releaseEntry s i) := by
  unfold State.releaseEntry
  try dsimp only
  repeat' (first | with_reducible (first | assumption | apply Kept.ite_fst | apply Kept.ite | apply State.setOp_kept | apply State.mirrorEntry_kept | apply State.writeEntry_kept | apply State.raise_kept | apply State.clearBitOf_kept))

theorem execLedgerRelease_kept {s0 : State} {v : Word} {s : State} (hs : Kept s0 s) :
    KeptR s0 (execLedgerRelease v s) := by
  unfold execLedgerRelease
  try dsimp only
  repeat' (first | with_reducible (first | assumption | intro s x _ | intro s _ | intro x | apply KeptR.next | apply KeptR.ite | apply Kept.ite_fst | apply Kept.ite | apply State.releaseEntry_kept | apply State.access_kept))

theorem State.writeLmirLo_kept {s0 : State} {s : State} {v : Nat} (hs : Kept s0 s) :
    Kept s0 (State.writeLmirLo s v) := by
  unfold State.writeLmirLo
  try dsimp only
  repeat' (first | with_reducible (first | assumption | apply Kept.ite_fst | apply Kept.ite | apply State.set_kept | apply State.raise_kept | apply State.lower_kept))

theorem State.writeLcrLo_kept {s0 : State} {s : State} {v : Nat} (hs : Kept s0 s) :
    Kept s0 (State.writeLcrLo s v) := by
  unfold State.writeLcrLo
  try dsimp only
  repeat' (first | with_reducible (first | assumption | apply Kept.ite_fst | apply Kept.ite | apply State.set_kept | apply State.raise_kept | apply State.lower_kept))

theorem State.writeLcrHi_kept {s0 : State} {s : State} {v : Nat} (hs : Kept s0 s) :
    Kept s0 (State.writeLcrHi s v) := by
  unfold State.writeLcrHi
  try dsimp only
  repeat' (first | with_reducible (first | assumption | apply State.set_kept | apply State.lower_kept))

theorem State.writeLcrCons_kept {s0 : State} {s : State} {v : Nat} (hs : Kept s0 s) :
    Kept s0 (State.writeLcrCons s v) := by
  unfold State.writeLcrCons
  try dsimp only
  repeat' (first | with_reducible (first | assumption | apply Kept.ite_fst | apply Kept.ite | apply State.set_kept))

theorem execMirrorEnable_kept {s0 : State} {ring : Bool} {v : Word} {s : State} (hs : Kept s0 s) :
    KeptR s0 (execMirrorEnable ring v s) := by
  unfold execMirrorEnable
  try dsimp only
  repeat' (first | with_reducible (first | assumption | intro s x _ | intro s _ | intro x | apply KeptR.next | apply KeptR.ite | apply Kept.ite_fst | apply Kept.ite | apply State.writeLmirLo_kept | apply State.writeLcrLo_kept | apply State.access_kept))

theorem execCompletionRingReset_kept {s0 : State} {hi : Bool} {v : Word} {s : State} (hs : Kept s0 s) :
    KeptR s0 (execCompletionRingReset hi v s) := by
  unfold execCompletionRingReset
  try dsimp only
  repeat' (first | with_reducible (first | assumption | intro s x _ | intro s _ | intro x | apply KeptR.next | apply KeptR.ite | apply Kept.ite_fst | apply Kept.ite | apply State.writeLcrLo_kept | apply State.writeLcrHi_kept | apply State.access_kept))

theorem execLedgerVector_kept {s0 : State} {i : Fin 1024} {s : State} (hs : Kept s0 s) :
    KeptR s0 (execLedgerVector i s) := by
  unfold execLedgerVector
  try dsimp only
  repeat' (first | with_reducible (first | assumption | apply KeptR.next | apply KeptR.ite | apply State.entryChanged_kept))

theorem State.writeLirq_kept {s0 : State} {s : State} {v : Nat} (hs : Kept s0 s) :
    Kept s0 (State.writeLirq s v) := by
  unfold State.writeLirq
  try dsimp only
  repeat' (first | with_reducible (first | assumption | apply Kept.ite_fst | apply Kept.ite | apply State.sendVector_kept | apply State.set_kept | apply State.raise_kept | apply State.setB_kept))

theorem execVectorArm_kept {s0 : State} {v : Word} {s : State} (hs : Kept s0 s) :
    KeptR s0 (execVectorArm v s) := by
  unfold execVectorArm
  try dsimp only
  repeat' (first | with_reducible (first | assumption | intro s x _ | intro s _ | intro x | apply KeptR.next | apply KeptR.ite | apply State.writeLirq_kept | apply State.access_kept))

theorem execHoldoffExpiry_kept {s0 : State} {s : State} (hs : Kept s0 s) :
    KeptR s0 (execHoldoffExpiry s) := by
  unfold execHoldoffExpiry
  try dsimp only
  repeat' (first | with_reducible (first | assumption | apply KeptR.next | apply KeptR.ite | apply Kept.ite_fst | apply Kept.ite | apply KeptC.of_state | apply KeptC.csr_set | apply KeptC.tags_put | apply KeptC.tags_drop | apply KeptC.out_append | apply State.sendNow_kept) | simp only [Kept.mk_iff])

end Sys2Proof.Machine
end

