-- ==== Sys2Proof/Laws/KeptHub.lean ====
section
/-! SUPPORT. What every operation and meaning of Machine/Hub.lean keeps (Laws/Kept.lean says what that is): one lemma for each. -/
set_option maxRecDepth 4000
set_option linter.unusedVariables false
namespace Sys2Proof.Machine

theorem State.setCfe_kept {s0 : State} {s : State} {l : Nat} {v : CfeSt} (hs : Kept s0 s) :
    Kept s0 (State.setCfe s l v) := by
  unfold State.setCfe
  try dsimp only
  repeat' (first | with_reducible (first | assumption | apply KeptC.of_state | apply KeptC.csr_set | apply KeptC.tags_put | apply KeptC.tags_drop | apply KeptC.out_append) | simp only [Kept.mk_iff])

theorem State.setCist_kept {s0 : State} {s : State} {c : Nat} {v : CistSt} (hs : Kept s0 s) :
    Kept s0 (State.setCist s c v) := by
  unfold State.setCist
  try dsimp only
  repeat' (first | with_reducible (first | assumption | apply KeptC.of_state | apply KeptC.csr_set | apply KeptC.tags_put | apply KeptC.tags_drop | apply KeptC.out_append) | simp only [Kept.mk_iff])

theorem State.setMod_kept {s0 : State} {s : State} {i : Nat} {m : Nat} {v : ModSt} (hs : Kept s0 s) :
    Kept s0 (State.setMod s i m v) := by
  unfold State.setMod
  try dsimp only
  repeat' (first | with_reducible (first | assumption | apply KeptC.of_state | apply KeptC.csr_set | apply KeptC.tags_put | apply KeptC.tags_drop | apply KeptC.out_append) | simp only [Kept.mk_iff])

theorem State.book_kept {s0 : State} {s : State} {f : Field} {d : Int} (hs : Kept s0 s) :
    Kept s0 (State.book s f d) := by
  unfold State.book
  try dsimp only
  repeat' (first | with_reducible (first | assumption | apply State.set_kept))

theorem State.poolFull_kept {s0 : State} {s : State} (hs : Kept s0 s) :
    Kept s0 (State.poolFull s) := by
  unfold State.poolFull
  try dsimp only
  repeat' (first | with_reducible (first | assumption | apply Kept.ite_fst | apply Kept.ite | apply State.raise_kept | apply State.lower_kept))

theorem State.lend_kept {s0 : State} {s : State} {l : Nat} (hs : Kept s0 s) :
    Kept s0 (State.lend s l) := by
  unfold State.lend
  try dsimp only
  repeat' (first | with_reducible (first | assumption | apply Kept.ite_fst | apply Kept.ite | apply State.setCfe_kept | apply State.book_kept | apply State.poolFull_kept))

theorem State.enqueueClosed_kept {s0 : State} {s : State} {reserve : Bool} {recs : List StRec} (hs : Kept s0 s) :
    Kept s0 (State.enqueueClosed s reserve recs) := by
  unfold State.enqueueClosed
  try dsimp only
  repeat' (first | with_reducible (first | assumption | apply KeptC.of_state | apply KeptC.csr_set | apply KeptC.tags_put | apply KeptC.tags_drop | apply KeptC.out_append) | simp only [Kept.mk_iff])

theorem State.closeFirst_kept {s0 : State} {s : State} {l : Nat} (hs : Kept s0 s) :
    Kept s0 (State.closeFirst s l) := by
  unfold State.closeFirst
  try dsimp only
  repeat' (first | with_reducible (first | assumption | apply Kept.ite_fst | apply Kept.ite | apply State.setCfe_kept | apply State.book_kept | apply State.enqueueClosed_kept) | split)

theorem State.closeAll_kept {s0 : State} {s : State} {l : Nat} (hs : Kept s0 s) :
    Kept s0 (State.closeAll s l) := by
  unfold State.closeAll
  try dsimp only
  repeat' (first | with_reducible (first | assumption | intro s x _ | intro s _ | intro x | apply Kept.foldl | apply Kept.foldl_fst | apply State.closeFirst_kept))

theorem State.returnSegs_kept {s0 : State} {s : State} {l : Nat} (hs : Kept s0 s) :
    Kept s0 (State.returnSegs s l) := by
  unfold State.returnSegs
  try dsimp only
  repeat' (first | with_reducible (first | assumption | apply State.setCfe_kept | apply State.book_kept | apply State.poolFull_kept))

theorem State.spend_kept {s0 : State} {s : State} {l : Nat} {b : Nat} (hs : Kept s0 s) :
    Kept s0 (State.spend s l b) := by
  unfold State.spend
  try dsimp only
  repeat' (first | with_reducible (first | assumption | apply State.setCfe_kept))

theorem State.snap_kept {s0 : State} {s : State} {c : Nat} (hs : Kept s0 s) :
    Kept s0 (State.snap s c) := by
  unfold State.snap
  try dsimp only
  repeat' (first | with_reducible (first | assumption | apply Kept.ite_fst | apply Kept.ite | apply State.setCist_kept))

theorem State.publish_kept {s0 : State} {s : State} {c : Nat} {state : Nat} {error : Nat} (hs : Kept s0 s) :
    Kept s0 (State.publish s c state error) := by
  unfold State.publish
  try dsimp only
  repeat' (first | with_reducible (first | assumption | apply Kept.ite_fst | apply Kept.ite | apply KeptO.none | apply KeptO.some_id | apply KeptO.some | apply KeptO.ite | apply State.snap_kept | apply State.setOp_kept | apply State.opMove_kept) | split)

theorem State.endCist_kept {s0 : State} {s : State} {c : Nat} {state : Nat} {error : Nat} (hs : Kept s0 s) :
    Kept s0 (State.endCist s c state error) := by
  unfold State.endCist
  try dsimp only
  repeat' (first | with_reducible (first | assumption | apply State.setCist_kept | apply State.publish_kept))

theorem State.maybeDone_kept {s0 : State} {s : State} {c : Nat} (hs : Kept s0 s) :
    Kept s0 (State.maybeDone s c) := by
  unfold State.maybeDone
  try dsimp only
  repeat' (first | with_reducible (first | assumption | apply Kept.ite_fst | apply Kept.ite | apply State.endCist_kept))

theorem State.arm_kept {s0 : State} {s : State} {c : Nat} {src : Nat} (hs : Kept s0 s) :
    Kept s0 (State.arm s c src) := by
  unfold State.arm
  try dsimp only
  repeat' (first | with_reducible (first | assumption | apply Kept.ite_fst | apply Kept.ite | apply KeptO.none | apply KeptO.some_id | apply KeptO.some | apply KeptO.ite | apply State.setCist_kept | apply State.publish_kept | apply State.endCist_kept | apply State.opBegin_kept | apply State.opRefuse_kept | apply State.set_kept | apply State.raise_kept | apply State.set2_kept))

theorem State.disarm_kept {s0 : State} {s : State} {c : Nat} (hs : Kept s0 s) :
    Kept s0 (State.disarm s c) := by
  unfold State.disarm
  try dsimp only
  repeat' (first | with_reducible (first | assumption | apply Kept.ite_fst | apply Kept.ite | apply KeptC.of_state | apply KeptC.csr_set | apply KeptC.tags_put | apply KeptC.tags_drop | apply KeptC.out_append | apply State.setCist_kept | apply State.endCist_kept | apply State.set_kept | apply State.count_kept) | simp only [Kept.mk_iff])

theorem State.mark_kept {s0 : State} {s : State} {c : Nat} {stamp : Nat} {from_ : Nat} {toSt : Nat} {cause : Nat} {acts : Nat} {count : Nat} (hs : Kept s0 s) :
    Kept s0 (State.mark s c stamp from_ toSt cause acts count) := by
  unfold State.mark
  try dsimp only
  repeat' (first | with_reducible (first | assumption | apply Kept.ite_fst | apply Kept.ite | apply State.setCist_kept | apply State.book_kept | apply State.enqueueClosed_kept | apply State.raise_kept))

theorem State.actOn_kept {s0 : State} {s : State} {c : Nat} {stamp : Nat} {from_ : Nat} {toSt : Nat} {cause : Nat} {acts : Nat} {count : Nat} (hs : Kept s0 s) :
    Kept s0 (State.actOn s c stamp from_ toSt cause acts count) := by
  unfold State.actOn
  try dsimp only
  repeat' (first | with_reducible (first | assumption | apply Kept.ite_fst | apply Kept.ite | apply KeptO.none | apply KeptO.some_id | apply KeptO.some | apply KeptO.ite | apply State.setCist_kept | apply State.publish_kept | apply State.maybeDone_kept | apply State.mark_kept | apply State.set_kept) | split)

theorem State.act_kept {s0 : State} {s : State} {groups : Nat} {stamp : Nat} {from_ : Nat} {toSt : Nat} {cause : Nat} {acts : Nat} {count : Nat} (hs : Kept s0 s) :
    Kept s0 (State.act s groups stamp from_ toSt cause acts count) := by
  unfold State.act
  try dsimp only
  repeat' (first | with_reducible (first | assumption | intro s x _ | intro s _ | intro x | apply Kept.ite_fst | apply Kept.ite | apply Kept.foldl | apply Kept.foldl_fst | apply State.actOn_kept))

theorem State.cistsFrozen_kept {s0 : State} {s : State} (hs : Kept s0 s) :
    Kept s0 (State.cistsFrozen s) := by
  unfold State.cistsFrozen
  try dsimp only
  repeat' (first | with_reducible (first | assumption | intro s x _ | intro s _ | intro x | apply Kept.ite_fst | apply Kept.ite | apply Kept.foldl | apply Kept.foldl_fst | apply State.setCist_kept | apply State.endCist_kept | apply State.set_kept))

theorem State.cistsLost_kept {s0 : State} {s : State} {n : Nat} (hs : Kept s0 s) :
    Kept s0 (State.cistsLost s n) := by
  unfold State.cistsLost
  try dsimp only
  repeat' (first | with_reducible (first | assumption | intro s x _ | intro s _ | intro x | apply Kept.ite_fst | apply Kept.ite | apply Kept.foldl | apply Kept.foldl_fst | apply State.setCfe_kept | apply State.setCist_kept | apply State.closeAll_kept | apply State.returnSegs_kept | apply State.maybeDone_kept | apply State.raise_kept))

theorem State.enterFlt_kept {s0 : State} {s : State} {q : Nat} (hs : Kept s0 s) :
    Kept s0 (State.enterFlt s q) := by
  unfold State.enterFlt
  try dsimp only
  repeat' (first | with_reducible (first | assumption | apply KeptC.of_state | apply KeptC.csr_set | apply KeptC.tags_put | apply KeptC.tags_drop | apply KeptC.out_append | apply State.set_kept) | simp only [Kept.mk_iff])

theorem State.transition_kept {s0 : State} {s : State} {cause : Nat} (hs : Kept s0 s) :
    Kept s0 (State.transition s cause) := by
  unfold State.transition
  try dsimp only
  repeat' (first | with_reducible (first | assumption | apply Kept.ite_fst | apply Kept.ite | apply KeptC.of_state | apply KeptC.csr_set | apply KeptC.tags_put | apply KeptC.tags_drop | apply KeptC.out_append | apply State.act_kept | apply State.enterFlt_kept | apply State.raise_kept | apply State.lower_kept | apply State.wrap_kept) | simp only [Kept.mk_iff])

theorem State.settleFlt_kept {s0 : State} {s : State} (hs : Kept s0 s) :
    Kept s0 (State.settleFlt s) := by
  unfold State.settleFlt
  try dsimp only
  repeat' (first | with_reducible (first | assumption | apply Kept.ite_fst | apply Kept.ite | apply State.transition_kept | apply State.raise_kept))

theorem State.countPulse_kept {s0 : State} {s : State} {m : Nat} (hs : Kept s0 s) :
    Kept s0 (State.countPulse s m) := by
  unfold State.countPulse
  try dsimp only
  repeat' (first | with_reducible (first | assumption | apply Kept.ite_fst | apply Kept.ite | apply KeptC.of_state | apply KeptC.csr_set | apply KeptC.tags_put | apply KeptC.tags_drop | apply KeptC.out_append | apply State.settleFlt_kept | apply State.set_kept | apply State.wrap_kept) | simp only [Kept.mk_iff] | split)

theorem State.wakeFurs_kept {s0 : State} {s : State} {m : Nat} (hs : Kept s0 s) :
    Kept s0 (State.wakeFurs s m) := by
  unfold State.wakeFurs
  try dsimp only
  repeat' (first | with_reducible (first | assumption | apply Kept.ite_fst | apply Kept.ite | apply KeptO.none | apply KeptO.some_id | apply KeptO.some | apply KeptO.ite | apply KeptC.of_state | apply KeptC.csr_set | apply KeptC.tags_put | apply KeptC.tags_drop | apply KeptC.out_append) | simp only [Kept.mk_iff] | split)

theorem State.pulse_kept {s0 : State} {s : State} {m : Nat} (hs : Kept s0 s) :
    Kept s0 (State.pulse s m) := by
  unfold State.pulse
  try dsimp only
  repeat' (first | with_reducible (first | assumption | intro s x _ | intro s _ | intro x | apply Kept.ite_fst | apply Kept.ite | apply Kept.foldl | apply Kept.foldl_fst | apply State.countPulse_kept | apply State.wakeFurs_kept | apply State.emit_kept | apply State.fabFloats_kept))

theorem State.runTimer_kept {s0 : State} {s : State} {ns : Nat} (hs : Kept s0 s) :
    Kept s0 (State.runTimer s ns) := by
  unfold State.runTimer
  try dsimp only
  repeat' (first | with_reducible (first | assumption | apply Kept.ite_fst | apply Kept.ite | apply KeptC.of_state | apply KeptC.csr_set | apply KeptC.tags_put | apply KeptC.tags_drop | apply KeptC.out_append | apply State.set_kept) | simp only [Kept.mk_iff])

end Sys2Proof.Machine
end

