-- ==== Sys2Proof/Laws/KeptMem.lean ====
section
/-! SUPPORT. What every operation and meaning of Machine/Mem.lean keeps (Laws/Kept.lean says what that is): one lemma for each. -/
set_option maxRecDepth 4000
set_option linter.unusedVariables false
namespace Sys2Proof.Machine

theorem State.setRegion_kept {s0 : State} {s : State} {r : Nat} {st : Nat} (hs : Kept s0 s) :
    Kept s0 (State.setRegion s r st) := by
  unfold State.setRegion
  try dsimp only
  repeat' (first | with_reducible (first | assumption | apply Kept.ite_fst | apply Kept.ite | apply State.set_kept))

theorem State.setBytes_kept {s0 : State} {s : State} {a : Nat} {x2 : List Byte} (hs : Kept s0 s) :
    Kept s0 (State.setBytes s a x2) := by
  revert hs
  induction x2 generalizing s a with
  | nil =>
    intro hs; unfold State.setBytes; try dsimp only
    repeat' (first | with_reducible (first | assumption | apply State.setByte_kept) | split)
  | cons y l ih =>
    intro hs; unfold State.setBytes; try dsimp only
    repeat' (first | with_reducible (first | assumption | apply ih | apply State.setByte_kept) | split)

theorem State.putWord_kept {s0 : State} {s : State} {w : Nat} {data : Nat} {syn : Nat} (hs : Kept s0 s) :
    Kept s0 (State.putWord s w data syn) := by
  unfold State.putWord
  try dsimp only
  repeat' (first | with_reducible (first | assumption | apply KeptC.of_state | apply KeptC.csr_set | apply KeptC.tags_put | apply KeptC.tags_drop | apply KeptC.out_append | apply KeptC.chk_set | apply State.setBytes_kept) | simp only [Kept.mk_iff])

theorem State.poisonWord_kept {s0 : State} {s : State} {w : Nat} (hs : Kept s0 s) :
    Kept s0 (State.poisonWord s w) := by
  unfold State.poisonWord
  try dsimp only
  repeat' (first | with_reducible (first | assumption | apply Kept.ite_fst | apply Kept.ite | apply State.putWord_kept) | split)

theorem State.eccSet_kept {s0 : State} {s : State} {u : EccMem} {h : Field} {f : Field} {v : Nat} (hs : Kept s0 s) :
    Kept s0 (State.eccSet s u h f v) := by
  unfold State.eccSet
  try dsimp only
  repeat' (first | with_reducible (first | assumption | apply State.set_kept) | split)

theorem State.eccCount_kept {s0 : State} {s : State} {u : EccMem} {h : Field} {f : Field} {k : Nat} (hs : Kept s0 s) :
    Kept s0 (State.eccCount s u h f k) := by
  unfold State.eccCount
  try dsimp only
  repeat' (first | with_reducible (first | assumption | apply State.count_kept) | split)

theorem State.eccLog_kept {s0 : State} {s : State} {field : Option Nat} {dpa : Nat} {src : Nat} {kind : Nat} (hs : Kept s0 s) :
    Kept s0 (State.eccLog s field dpa src kind) := by
  unfold State.eccLog
  try dsimp only
  repeat' (first | with_reducible (first | assumption | apply Kept.ite_fst | apply Kept.ite | apply KeptO.none | apply KeptO.some_id | apply KeptO.some | apply KeptO.ite | apply State.set_kept | apply State.raise_kept | apply State.setStamp_kept) | split)

theorem State.setWalker_kept {s0 : State} {s : State} {k : Nat} {v : WalkSt} (hs : Kept s0 s) :
    Kept s0 (State.setWalker s k v) := by
  unfold State.setWalker
  try dsimp only
  repeat' (first | with_reducible (first | assumption | apply KeptC.of_state | apply KeptC.csr_set | apply KeptC.tags_put | apply KeptC.tags_drop | apply KeptC.out_append) | simp only [Kept.mk_iff])

theorem State.enterRepair_kept {s0 : State} {s : State} {w : Nat} (hs : Kept s0 s) :
    Kept s0 (State.enterRepair s w) := by
  unfold State.enterRepair
  try dsimp only
  repeat' (first | with_reducible (first | assumption | apply Kept.ite_fst | apply Kept.ite | apply State.setWalker_kept | apply State.raise_kept))

theorem State.staleWrite_kept {s0 : State} {s : State} {w : Nat} (hs : Kept s0 s) :
    Kept s0 (State.staleWrite s w) := by
  unfold State.staleWrite
  try dsimp only
  repeat' (first | with_reducible (first | assumption | apply Kept.ite_fst | apply Kept.ite | apply State.setWalker_kept))

theorem State.clearResv_kept {s0 : State} {s : State} {w : Nat} {holder : Option Nat} (hs : Kept s0 s) :
    Kept s0 (State.clearResv s w holder) := by
  unfold State.clearResv
  try dsimp only
  repeat' (first | with_reducible (first | assumption | apply KeptO.none | apply KeptO.some_id | apply KeptO.some | apply KeptO.ite | apply KeptC.of_state | apply KeptC.csr_set | apply KeptC.tags_put | apply KeptC.tags_drop | apply KeptC.out_append) | simp only [Kept.mk_iff] | split)

theorem State.fullWrite_kept {s0 : State} {s : State} {w : Nat} {data : Nat} (hs : Kept s0 s) :
    Kept s0 (State.fullWrite s w data) := by
  unfold State.fullWrite
  try dsimp only
  repeat' (first | with_reducible (first | assumption | apply Kept.ite_fst | apply Kept.ite | apply State.putWord_kept | apply State.eccSet_kept))

theorem State.rsvViolate_kept {s0 : State} {s : State} {i : Nat} {p : Nat} {off : Nat} {kind : Nat} {src : Nat} (hs : Kept s0 s) :
    Kept s0 (State.rsvViolate s i p off kind src) := by
  unfold State.rsvViolate
  try dsimp only
  repeat' (first | with_reducible (first | assumption | apply Kept.ite_fst | apply Kept.ite | apply State.set_kept | apply State.raise_kept | apply State.count_kept))

theorem State.memoryDown_kept {s0 : State} {s : State} {a : Nat} (hs : Kept s0 s) :
    KeptO Prod.snd s0 (State.memoryDown s a) := by
  unfold State.memoryDown
  try dsimp only
  repeat' (first | with_reducible (first | assumption | apply KeptO.ite | apply Kept.ite_fst | apply Kept.ite | apply KeptO.none | apply KeptO.some_id | apply KeptO.some | apply State.count_kept) | split)

theorem State.reach_kept {s0 : State} {s : State} {src : Nat} {port : Option Nat} {a : Nat} {len : Nat} {kind : Nat} (hs : Kept s0 s) :
    KeptO Prod.snd s0 (State.reach s src port a len kind) := by
  unfold State.reach
  try dsimp only
  repeat' (first | with_reducible (first | assumption | apply KeptO.ite | apply Kept.ite_fst | apply Kept.ite | apply KeptO.none | apply KeptO.some_id | apply KeptO.some | apply State.rsvViolate_kept | apply State.memoryDown_kept | apply State.timedOut_kept | refine Kept.of_some_snd (by assumption) ?_) | split)

theorem State.wakeBank_kept {s0 : State} {s : State} {w : Nat} (hs : Kept s0 s) :
    Kept s0 (State.wakeBank s w) := by
  unfold State.wakeBank
  try dsimp only
  repeat' (first | with_reducible (first | assumption | apply Kept.ite_fst | apply Kept.ite | apply KeptO.none | apply KeptO.some_id | apply KeptO.some | apply KeptO.ite | apply State.clearBitOf_kept) | split)

theorem State.readWords_kept {s0 : State} {s : State} {src : Nat} {w : Nat} {x3 : Nat} (hs : Kept s0 s) :
    Kept s0 (State.readWords s src w x3).1 := by
  revert hs
  induction x3 generalizing s src w with
  | zero =>
    intro hs; unfold State.readWords; try dsimp only
    repeat' (first | with_reducible (first | assumption | apply KeptO.none | apply KeptO.some_id | apply KeptO.some | apply KeptO.ite | apply State.eccCount_kept | apply State.eccLog_kept | apply State.enterRepair_kept | apply State.wakeBank_kept) | split | dsimp only)
  | succ n ih =>
    intro hs; unfold State.readWords; try dsimp only
    repeat' (first | with_reducible (first | assumption | apply KeptO.none | apply KeptO.some_id | apply KeptO.some | apply KeptO.ite | apply ih | apply State.eccCount_kept | apply State.eccLog_kept | apply State.enterRepair_kept | apply State.wakeBank_kept) | split | dsimp only)

theorem State.setQdr_kept {s0 : State} {s : State} {n : Nat} {portB : Bool} {v : QdrSt} (hs : Kept s0 s) :
    Kept s0 (State.setQdr s n portB v) := by
  unfold State.setQdr
  try dsimp only
  repeat' (first | with_reducible (first | assumption | apply KeptC.of_state | apply KeptC.csr_set | apply KeptC.tags_put | apply KeptC.tags_drop | apply KeptC.out_append) | simp only [Kept.mk_iff])

theorem State.writeSlots_kept {s0 : State} {s : State} {n : Nat} {portB : Bool} {v : Nat} (hs : Kept s0 s) :
    Kept s0 (State.writeSlots s n portB v) := by
  unfold State.writeSlots
  try dsimp only
  repeat' (first | with_reducible (first | assumption | apply Kept.ite_fst | apply Kept.ite | apply State.setQdr_kept | apply State.set_kept))

theorem State.qdrAccess_kept {s0 : State} {s : State} {n : Nat} {portB : Bool} {client : Nat} {write : Bool} {ready : List (List (Fin 3))} (hs : Kept s0 s) :
    Kept s0 (State.qdrAccess s n portB client write ready) := by
  unfold State.qdrAccess
  try dsimp only
  repeat' (first | with_reducible (first | assumption | apply Kept.ite_fst | apply Kept.ite | apply State.setQdr_kept | apply State.count_kept | apply State.wrap2_kept))

theorem State.qdrIssues_kept {s0 : State} {s : State} {client : Nat} {n : Nat} {reads : Nat} {writes : Nat} {x5 : Nat} (hs : Kept s0 s) :
    Kept s0 (State.qdrIssues s client n reads writes x5) := by
  revert hs
  induction x5 generalizing s client n reads writes with
  | zero =>
    intro hs; unfold State.qdrIssues; try dsimp only
    repeat' (first | with_reducible (first | assumption | apply Kept.ite_fst | apply Kept.ite | apply State.qdrAccess_kept | apply State.used_kept) | split)
  | succ n ih =>
    intro hs; unfold State.qdrIssues; try dsimp only
    repeat' (first | with_reducible (first | assumption | apply Kept.ite_fst | apply Kept.ite | apply ih | apply State.qdrAccess_kept | apply State.used_kept) | split)

theorem State.qdrIssued_kept {s0 : State} {s : State} {client : Nat} {a : Nat} {reads : Nat} {writes : Nat} (hs : Kept s0 s) :
    Kept s0 (State.qdrIssued s client a reads writes) := by
  unfold State.qdrIssued
  try dsimp only
  repeat' (first | with_reducible (first | assumption | apply Kept.ite_fst | apply Kept.ite | apply KeptO.none | apply KeptO.some_id | apply KeptO.some | apply KeptO.ite | apply State.qdrIssues_kept) | split)

theorem State.readMem_kept {s0 : State} {s : State} {src : Nat} {port : Option Nat} {a : Nat} {len : Nat} {fetch : Bool} {client : Nat} (hs : Kept s0 s) :
    Kept s0 (State.readMem s src port a len fetch client).1 := by
  unfold State.readMem
  try dsimp only
  repeat' (first | with_reducible (first | assumption | apply Kept.ite_fst | apply Kept.ite | apply KeptO.none | apply KeptO.some_id | apply KeptO.some | apply KeptO.ite | apply State.eccCount_kept | apply State.reach_kept | apply State.readWords_kept | apply State.qdrIssued_kept | refine Kept.of_fst (by assumption) ?_ | refine Kept.of_some_snd (by assumption) ?_) | split | dsimp only)

theorem State.writeWord_kept {s0 : State} {s : State} {src : Nat} {holder : Option Nat} {w : Nat} {bytes : List (Option Byte)} {pois : Bool} (hs : Kept s0 s) :
    Kept s0 (State.writeWord s src holder w bytes pois).1 := by
  unfold State.writeWord
  try dsimp only
  repeat' (first | with_reducible (first | assumption | apply Kept.ite_fst | apply Kept.ite | apply State.putWord_kept | apply State.poisonWord_kept | apply State.eccCount_kept | apply State.eccLog_kept | apply State.staleWrite_kept | apply State.clearResv_kept | apply State.fullWrite_kept | apply State.wakeBank_kept) | split | dsimp only)

theorem State.writeWords_kept {s0 : State} {s : State} {src : Nat} {holder : Option Nat} {pois : Bool} {x4 : Nat} {x5 : Nat} {x6 : List (Option Byte)} (hs : Kept s0 s) :
    Kept s0 (State.writeWords s src holder pois x4 x5 x6).1 := by
  revert hs
  induction x5 generalizing s src holder pois x4 x6 with
  | zero =>
    intro hs; unfold State.writeWords; try dsimp only
    repeat' (first | with_reducible (first | assumption | apply State.writeWord_kept | refine Kept.of_fst (by assumption) ?_) | split | dsimp only)
  | succ n ih =>
    intro hs; unfold State.writeWords; try dsimp only
    repeat' (first | with_reducible (first | assumption | apply ih | apply State.writeWord_kept | refine Kept.of_fst (by assumption) ?_) | split | dsimp only)

theorem State.writeMem_kept {s0 : State} {s : State} {src : Nat} {port : Option Nat} {holder : Option Nat} {a : Nat} {bytes : List (Option Byte)} {pois : Bool} {client : Nat} (hs : Kept s0 s) :
    Kept s0 (State.writeMem s src port holder a bytes pois client).1 := by
  unfold State.writeMem
  try dsimp only
  repeat' (first | with_reducible (first | assumption | apply Kept.ite_fst | apply Kept.ite | apply State.reach_kept | apply State.qdrIssued_kept | apply State.writeWords_kept | refine Kept.of_fst (by assumption) ?_ | refine Kept.of_some_snd (by assumption) ?_) | split | dsimp only)

theorem State.storeMem_kept {s0 : State} {s : State} {src : Nat} {a : Nat} {bytes : List Byte} (hs : Kept s0 s) :
    Kept s0 (State.storeMem s src a bytes).1 := by
  unfold State.storeMem
  try dsimp only
  repeat' (first | with_reducible (first | assumption | apply KeptO.none | apply KeptO.some_id | apply KeptO.some | apply KeptO.ite | apply State.writeMem_kept) | dsimp only)

theorem State.atomicMem_kept {s0 : State} {s : State} {src : Nat} {a : Nat} {len : Nat} {aop : Nat} {data : List Byte} (hs : Kept s0 s) :
    Kept s0 (State.atomicMem s src a len aop data).1 := by
  unfold State.atomicMem
  try dsimp only
  repeat' (first | with_reducible (first | assumption | apply Kept.ite_fst | apply Kept.ite | apply State.putWord_kept | apply State.eccLog_kept | apply State.staleWrite_kept | apply State.clearResv_kept | apply State.reach_kept | apply State.wakeBank_kept | refine Kept.of_some_snd (by assumption) ?_) | split | dsimp only)

end Sys2Proof.Machine
end

