-- ==== Sys2Proof/Laws/KeptRings.lean ====
section
/-! SUPPORT. What every operation and meaning of Machine/Rings.lean keeps (Laws/Kept.lean says what that is): one lemma for each. -/
set_option maxRecDepth 4000
set_option linter.unusedVariables false
namespace Sys2Proof.Machine

theorem State.setRing_kept {s0 : State} {s : State} {u : Nat} {r : RingSt} (hs : Kept s0 s) :
    Kept s0 (State.setRing s u r) := by
  unfold State.setRing
  try dsimp only
  repeat' (first | with_reducible (first | assumption | apply KeptC.of_state | apply KeptC.csr_set | apply KeptC.tags_put | apply KeptC.tags_drop | apply KeptC.out_append) | simp only [Kept.mk_iff])

theorem State.traceDrop_kept {s0 : State} {s : State} {u : Nat} (hs : Kept s0 s) :
    Kept s0 (State.traceDrop s u) := by
  unfold State.traceDrop
  try dsimp only
  repeat' (first | with_reducible (first | assumption | apply State.count_kept | apply State.setRing_kept))

theorem State.trace_kept {s0 : State} {s : State} {u : Nat} {kind : Nat} {unit : Nat} {port : Nat} {size : Nat} {data : List Byte} (hs : Kept s0 s) :
    Kept s0 (State.trace s u kind unit port size data) := by
  unfold State.trace
  try dsimp only
  repeat' (first | with_reducible (first | assumption | apply Kept.ite_fst | apply Kept.ite | apply State.used_kept | apply State.setRing_kept | apply State.traceDrop_kept))

theorem State.stopRing_kept {s0 : State} {s : State} {u : Nat} (hs : Kept s0 s) :
    Kept s0 (State.stopRing s u) := by
  unfold State.stopRing
  try dsimp only
  repeat' (first | with_reducible (first | assumption | apply Kept.ite_fst | apply Kept.ite | apply State.set_kept | apply State.setRing_kept))

theorem State.stopRings_kept {s0 : State} {s : State} (hs : Kept s0 s) :
    Kept s0 (State.stopRings s) := by
  unfold State.stopRings
  try dsimp only
  repeat' (first | with_reducible (first | assumption | intro s x _ | intro s _ | intro x | apply Kept.foldl | apply Kept.foldl_fst | apply State.stopRing_kept))

theorem State.setBuf_kept {s0 : State} {s : State} {f : Field} {i : Nat} {x3 : List Byte} (hs : Kept s0 s) :
    Kept s0 (State.setBuf s f i x3) := by
  revert hs
  fun_induction State.setBuf s f i x3 with
  | case1 => exact id
  | case2 => exact State.set_kept
  | case3 => exact State.set_kept
  | case4 => exact State.set_kept
  | case5 _ _ _ _ _ _ _ ih => exact fun h => ih (State.set_kept h)

theorem State.sendEvent_kept {s0 : State} {s : State} {x : Bool} {sid : Nat} {cmd : Nat} {payload : List Byte} (hs : Kept s0 s) :
    Kept s0 (State.sendEvent s x sid cmd payload) := by
  unfold State.sendEvent
  try dsimp only
  repeat' (first | with_reducible (first | assumption | apply Kept.ite_fst | apply Kept.ite | apply KeptC.of_state | apply KeptC.csr_set | apply KeptC.tags_put | apply KeptC.tags_drop | apply KeptC.out_append | apply State.raise_kept | apply State.emit_kept | apply State.setBuf_kept) | simp only [Kept.mk_iff])

theorem State.nextEvent_kept {s0 : State} {s : State} (hs : Kept s0 s) :
    Kept s0 (State.nextEvent s) := by
  unfold State.nextEvent
  try dsimp only
  repeat' (first | with_reducible (first | assumption | apply Kept.ite_fst | apply Kept.ite | apply KeptC.of_state | apply KeptC.csr_set | apply KeptC.tags_put | apply KeptC.tags_drop | apply KeptC.out_append | apply State.sendEvent_kept) | simp only [Kept.mk_iff] | split)

theorem State.wmEvent_kept {s0 : State} {s : State} {cmd : Nat} {payload : List Byte} (hs : Kept s0 s) :
    Kept s0 (State.wmEvent s cmd payload) := by
  unfold State.wmEvent
  try dsimp only
  repeat' (first | with_reducible (first | assumption | apply Kept.ite_fst | apply Kept.ite | apply KeptC.of_state | apply KeptC.csr_set | apply KeptC.tags_put | apply KeptC.tags_drop | apply KeptC.out_append | apply State.sendEvent_kept) | simp only [Kept.mk_iff])

end Sys2Proof.Machine
end

