-- ==== Sys2Proof/Laws/KeptHbm.lean ====
section
/-! SUPPORT. What every operation and meaning of Machine/Hbm.lean keeps (Laws/Kept.lean says what that is): one lemma for each. -/
set_option maxRecDepth 4000
set_option linter.unusedVariables false
namespace Sys2Proof.Machine

theorem State.dropPosted_kept {s0 : State} {s : State} {r : Req} {st : RStat} (hs : Kept s0 s) :
    Kept s0 (State.dropPosted s r st) := by
  unfold State.dropPosted
  try dsimp only
  repeat' (first | with_reducible (first | assumption | apply Kept.ite_fst | apply Kept.ite | apply State.set_kept | apply State.raise_kept | apply State.count_kept) | split)

theorem State.respond_kept {s0 : State} {s : State} {r : Req} {st : RStat} {data : List Byte} (hs : Kept s0 s) :
    Kept s0 (State.respond s r st data) := by
  unfold State.respond
  try dsimp only
  repeat' (first | with_reducible (first | assumption | apply Kept.ite_fst | apply Kept.ite | apply KeptO.none | apply KeptO.some_id | apply KeptO.some | apply KeptO.ite | apply KeptC.of_state | apply KeptC.csr_set | apply KeptC.tags_put | apply KeptC.tags_drop | apply KeptC.out_append | apply State.dropPosted_kept) | simp only [Kept.mk_iff] | split)

theorem State.perform_kept {s0 : State} {s : State} {r : Req} (hs : Kept s0 s) :
    Kept s0 (State.perform s r) := by
  unfold State.perform
  try dsimp only
  repeat' (first | with_reducible (first | assumption | apply Kept.ite_fst | apply Kept.ite | apply KeptO.none | apply KeptO.some_id | apply KeptO.some | apply KeptO.ite | apply KeptC.of_state | apply KeptC.csr_set | apply KeptC.tags_put | apply KeptC.tags_drop | apply KeptC.out_append | apply State.respond_kept | apply State.readMem_kept | apply State.writeMem_kept | apply State.atomicMem_kept | refine Kept.of_fst (by assumption) ?_) | simp only [Kept.mk_iff] | split)

theorem State.setHmc_kept {s0 : State} {s : State} {m : Nat} {v : HmcSt} (hs : Kept s0 s) :
    Kept s0 (State.setHmc s m v) := by
  unfold State.setHmc
  try dsimp only
  repeat' (first | with_reducible (first | assumption | apply KeptC.of_state | apply KeptC.csr_set | apply KeptC.tags_put | apply KeptC.tags_drop | apply KeptC.out_append) | simp only [Kept.mk_iff])

theorem State.setPc_kept {s0 : State} {s : State} {k : Nat} {v : PcSt} (hs : Kept s0 s) :
    Kept s0 (State.setPc s k v) := by
  unfold State.setPc
  try dsimp only
  repeat' (first | with_reducible (first | assumption | apply KeptC.of_state | apply KeptC.csr_set | apply KeptC.tags_put | apply KeptC.tags_drop | apply KeptC.out_append | apply State.set_kept | apply State.setB_kept) | simp only [Kept.mk_iff])

theorem State.enqueue_kept {s0 : State} {s : State} {r : Req} (hs : Kept s0 s) :
    Kept s0 (State.enqueue s r) := by
  unfold State.enqueue
  try dsimp only
  repeat' (first | with_reducible (first | assumption | apply Kept.ite_fst | apply Kept.ite | apply State.setPc_kept))

theorem State.arrive_kept {s0 : State} {s : State} {r : Req} (hs : Kept s0 s) :
    Kept s0 (State.arrive s r) := by
  unfold State.arrive
  try dsimp only
  repeat' (first | with_reducible (first | assumption | apply Kept.ite_fst | apply Kept.ite | apply KeptO.none | apply KeptO.some_id | apply KeptO.some | apply KeptO.ite | apply State.perform_kept | apply State.enqueue_kept))

theorem State.activate_kept {s0 : State} {s : State} {k : Nat} {bank : Nat} {row : Nat} (hs : Kept s0 s) :
    Kept s0 (State.activate s k bank row) := by
  unfold State.activate
  try dsimp only
  repeat' (first | with_reducible (first | assumption | apply Kept.ite_fst | apply Kept.ite | apply State.setHmc_kept | apply State.setPc_kept | apply State.raise_kept | apply State.count_kept))

theorem State.closeRow_kept {s0 : State} {s : State} {k : Nat} {bank : Nat} (hs : Kept s0 s) :
    Kept s0 (State.closeRow s k bank) := by
  unfold State.closeRow
  try dsimp only
  repeat' (first | with_reducible (first | assumption | apply State.setPc_kept))

theorem State.openRow_kept {s0 : State} {s : State} {k : Nat} {r : Req} (hs : Kept s0 s) :
    Kept s0 (State.openRow s k r) := by
  unfold State.openRow
  try dsimp only
  repeat' (first | with_reducible (first | assumption | apply Kept.ite_fst | apply Kept.ite | apply KeptO.none | apply KeptO.some_id | apply KeptO.some | apply KeptO.ite | apply State.setPc_kept | apply State.activate_kept | apply State.closeRow_kept))

theorem State.issueAt_kept {s0 : State} {s : State} {k : Nat} {i : Nat} (hs : Kept s0 s) :
    Kept s0 (State.issueAt s k i) := by
  unfold State.issueAt
  try dsimp only
  repeat' (first | with_reducible (first | assumption | intro s x _ | intro s _ | intro x | apply Kept.ite_fst | apply Kept.ite | apply KeptO.none | apply KeptO.some_id | apply KeptO.some | apply KeptO.ite | apply Kept.foldl | apply Kept.foldl_fst | apply State.respond_kept | apply State.perform_kept | apply State.setPc_kept | apply State.openRow_kept | apply State.readMem_kept | refine Kept.of_fst (by assumption) ?_) | split)

theorem State.refresh_kept {s0 : State} {s : State} {k : Nat} (hs : Kept s0 s) :
    Kept s0 (State.refresh s k) := by
  unfold State.refresh
  try dsimp only
  repeat' (first | with_reducible (first | assumption | apply Kept.ite_fst | apply Kept.ite | apply State.setPc_kept | apply State.set_kept))

theorem State.serveNeighbour_kept {s0 : State} {s : State} {k : Nat} {e : Nat × Nat} (hs : Kept s0 s) :
    Kept s0 (State.serveNeighbour s k e) := by
  unfold State.serveNeighbour
  try dsimp only
  repeat' (first | with_reducible (first | assumption | intro s x _ | intro s _ | intro x | apply Kept.ite_fst | apply Kept.ite | apply Kept.foldl | apply Kept.foldl_fst | apply State.setPc_kept | apply State.activate_kept | apply State.count_kept))

theorem State.rfm_kept {s0 : State} {s : State} {k : Nat} {bank : Nat} (hs : Kept s0 s) :
    Kept s0 (State.rfm s k bank) := by
  unfold State.rfm
  try dsimp only
  repeat' (first | with_reducible (first | assumption | apply State.setPc_kept | apply State.closeRow_kept))

theorem State.issue_kept {s0 : State} {s : State} {k : Nat} {rfm : Option Nat} (hs : Kept s0 s) :
    Kept s0 (State.issue s k rfm) := by
  unfold State.issue
  try dsimp only
  repeat' (first | with_reducible (first | assumption | apply Kept.ite_fst | apply Kept.ite | apply KeptO.none | apply KeptO.some_id | apply KeptO.some | apply KeptO.ite | apply State.setPc_kept | apply State.issueAt_kept | apply State.refresh_kept | apply State.serveNeighbour_kept | apply State.rfm_kept) | split)

theorem State.retried_kept {s0 : State} {s : State} {old : State} {k : Nat} (hs : Kept s0 s) (hold : Kept s0 old) :
    Kept s0 (State.retried s old k) := by
  unfold State.retried
  try dsimp only
  repeat' (first | with_reducible (first | assumption | apply Kept.ite_fst | apply Kept.ite | apply State.count_kept))

theorem execHbmCommandIssue_kept {s0 : State} {m : HmcId} {p : Fin 32} {rfm : Option (Fin 48)} {retry : Bool} {s : State} (hs : Kept s0 s) :
    KeptR s0 (execHbmCommandIssue m p rfm retry s) := by
  unfold execHbmCommandIssue
  try dsimp only
  repeat' (first | with_reducible (first | assumption | apply KeptR.next | apply KeptR.ite | apply Kept.ite_fst | apply Kept.ite | apply KeptO.map | apply State.issue_kept | apply State.retried_kept))

theorem State.refreshDue_kept {s0 : State} {s : State} {k : Nat} (hs : Kept s0 s) :
    Kept s0 (State.refreshDue s k) := by
  unfold State.refreshDue
  try dsimp only
  repeat' (first | with_reducible (first | assumption | apply Kept.ite_fst | apply Kept.ite | apply State.setPc_kept | apply State.set_kept | apply State.raise_kept | apply State.count_kept))

theorem execRefreshDue_kept {s0 : State} {m : HmcId} {p : Fin 32} {s : State} (hs : Kept s0 s) :
    KeptR s0 (execRefreshDue m p s) := by
  unfold execRefreshDue
  try dsimp only
  repeat' (first | with_reducible (first | assumption | apply KeptR.next | apply KeptR.ite | apply Kept.ite_fst | apply Kept.ite | apply State.refreshDue_kept))

theorem execRowIdleClose_kept {s0 : State} {m : HmcId} {p : Fin 32} {b : Fin 48} {s : State} (hs : Kept s0 s) :
    KeptR s0 (execRowIdleClose m p b s) := by
  unfold execRowIdleClose
  try dsimp only
  repeat' (first | with_reducible (first | assumption | apply KeptR.next | apply KeptR.ite | apply Kept.ite_fst | apply Kept.ite | apply State.closeRow_kept))

theorem execHbmTempRead_kept {s0 : State} {m : HmcId} {t : Byte} {s : State} (hs : Kept s0 s) :
    KeptR s0 (execHbmTempRead m t s) := by
  unfold execHbmTempRead
  try dsimp only
  repeat' (first | with_reducible (first | assumption | apply KeptR.next | apply KeptR.ite | apply State.set_kept | apply State.setB_kept))

theorem State.writeShadow_kept {s0 : State} {s : State} {m : Nat} {r : Nat} {v : Nat} (hs : Kept s0 s) :
    Kept s0 (State.writeShadow s m r v) := by
  unfold State.writeShadow
  try dsimp only
  repeat' (first | with_reducible (first | assumption | apply State.raise_kept | apply State.wrAll_kept))

theorem execShadowWrite_kept {s0 : State} {m : HmcId} {r : Fin 4} {v : Word} {s : State} (hs : Kept s0 s) :
    KeptR s0 (execShadowWrite m r v s) := by
  unfold execShadowWrite
  try dsimp only
  repeat' (first | with_reducible (first | assumption | intro s x _ | intro s _ | intro x | apply KeptR.next | apply KeptR.ite | apply State.writeShadow_kept | apply State.access_kept))

theorem State.fchgStart_kept {s0 : State} {s : State} {m : Nat} (hs : Kept s0 s) :
    Kept s0 (State.fchgStart s m) := by
  unfold State.fchgStart
  try dsimp only
  repeat' (first | with_reducible (first | assumption | apply State.set_kept | apply State.raise_kept))

theorem State.writeFchg_kept {s0 : State} {s : State} {m : Nat} {v : Nat} (hs : Kept s0 s) :
    Kept s0 (State.writeFchg s m v) := by
  unfold State.writeFchg
  try dsimp only
  repeat' (first | with_reducible (first | assumption | intro s x _ | intro s _ | intro x | apply Kept.ite_fst | apply Kept.ite | apply Kept.foldl | apply Kept.foldl_fst | apply State.fchgStart_kept | apply State.raise_kept | apply State.w1c_kept))

theorem execFreqChange_kept {s0 : State} {m : HmcId} {v : Word} {s : State} (hs : Kept s0 s) :
    KeptR s0 (execFreqChange m v s) := by
  unfold execFreqChange
  try dsimp only
  repeat' (first | with_reducible (first | assumption | intro s x _ | intro s _ | intro x | apply KeptR.next | apply KeptR.ite | apply State.writeFchg_kept | apply State.access_kept))

theorem State.drainPc_kept {s0 : State} {s : State} {k : Nat} (hs : Kept s0 s) :
    Kept s0 (State.drainPc s k) := by
  unfold State.drainPc
  try dsimp only
  repeat' (first | with_reducible (first | assumption | intro s x _ | intro s _ | intro x | apply Kept.foldl | apply Kept.foldl_fst | apply State.issueAt_kept))

theorem State.drainAt_kept {s0 : State} {s : State} {a : Nat} {len : Nat} (hs : Kept s0 s) :
    Kept s0 (State.drainAt s a len) := by
  unfold State.drainAt
  try dsimp only
  repeat' (first | with_reducible (first | assumption | intro s x _ | intro s _ | intro x | apply Kept.ite_fst | apply Kept.ite | apply KeptO.none | apply KeptO.some_id | apply KeptO.some | apply KeptO.ite | apply Kept.foldl | apply Kept.foldl_fst | apply State.drainPc_kept))

theorem State.quiesce_kept {s0 : State} {s : State} {k : Nat} (hs : Kept s0 s) :
    Kept s0 (State.quiesce s k) := by
  unfold State.quiesce
  try dsimp only
  repeat' (first | with_reducible (first | assumption | apply Kept.ite_fst | apply Kept.ite | apply State.drainPc_kept | apply State.set_kept | apply State.raise_kept | apply State.count_kept))

theorem State.fchgEnd_kept {s0 : State} {s : State} {m : Nat} (hs : Kept s0 s) :
    Kept s0 (State.fchgEnd s m) := by
  unfold State.fchgEnd
  try dsimp only
  repeat' (first | with_reducible (first | assumption | intro s x _ | intro s _ | intro x | apply Kept.ite_fst | apply Kept.ite | apply Kept.foldl | apply Kept.foldl_fst | apply State.setPc_kept | apply State.quiesce_kept | apply State.set_kept | apply State.lower_kept))

theorem execFreqChangeDone_kept {s0 : State} {m : HmcId} {s : State} (hs : Kept s0 s) :
    KeptR s0 (execFreqChangeDone m s) := by
  unfold execFreqChangeDone
  try dsimp only
  repeat' (first | with_reducible (first | assumption | apply KeptR.next | apply KeptR.ite | apply Kept.ite_fst | apply Kept.ite | apply State.fchgEnd_kept))

theorem State.hbmUpdate_kept {s0 : State} {s : State} (hs : Kept s0 s) :
    Kept s0 (State.hbmUpdate s) := by
  unfold State.hbmUpdate
  try dsimp only
  repeat' (first | with_reducible (first | assumption | apply State.setB_kept))

theorem State.autoNext_kept {s0 : State} {s : State} {block : Nat} {r : Nat} {x3 : Nat} (hs : Kept s0 s) :
    Kept s0 (State.autoNext s block r x3) := by
  revert hs
  induction x3 generalizing s block r with
  | zero =>
    intro hs; unfold State.autoNext; try dsimp only
    repeat' (first | with_reducible (first | assumption | apply Kept.ite_fst | apply Kept.ite | apply KeptC.of_state | apply KeptC.csr_set | apply KeptC.tags_put | apply KeptC.tags_drop | apply KeptC.out_append | apply State.setRegion_kept | apply State.raise_kept) | simp only [Kept.mk_iff] | split)
  | succ n ih =>
    intro hs; unfold State.autoNext; try dsimp only
    repeat' (first | with_reducible (first | assumption | apply Kept.ite_fst | apply Kept.ite | apply KeptC.of_state | apply KeptC.csr_set | apply KeptC.tags_put | apply KeptC.tags_drop | apply KeptC.out_append | apply ih | apply State.setRegion_kept | apply State.raise_kept) | simp only [Kept.mk_iff] | split)

theorem State.uncheck_kept {s0 : State} {s : State} {first : Nat} {n : Nat} (hs : Kept s0 s) :
    Kept s0 (State.uncheck s first n) := by
  unfold State.uncheck
  try dsimp only
  repeat' (first | with_reducible (first | assumption | intro s x _ | intro s _ | intro x | apply Kept.ite_fst | apply Kept.ite | apply Kept.foldl | apply Kept.foldl_fst | apply State.setRegion_kept))

theorem State.hbmInit_kept {s0 : State} {s : State} (hs : Kept s0 s) :
    Kept s0 (State.hbmInit s) := by
  unfold State.hbmInit
  try dsimp only
  repeat' (first | with_reducible (first | assumption | apply Kept.ite_fst | apply Kept.ite | apply State.autoNext_kept | apply State.uncheck_kept))

theorem State.setDelay_kept {s0 : State} {s : State} {m : Nat} {r : Nat} {pc : Nat} {bit : Nat} {tx : Nat} {d : Nat} (hs : Kept s0 s) :
    Kept s0 (State.setDelay s m r pc bit tx d) := by
  unfold State.setDelay
  try dsimp only
  repeat' (first | with_reducible (first | assumption | apply State.setHmc_kept))

theorem State.sweepPc_kept {s0 : State} {s : State} {m : Nat} {r : Nat} {pc : Nat} (hs : Kept s0 s) :
    KeptO Prod.fst s0 (State.sweepPc s m r pc) := by
  unfold State.sweepPc
  try dsimp only
  repeat' (first | with_reducible (first | assumption | intro s x _ | intro s _ | intro x | apply KeptO.ite | apply Kept.ite_fst | apply Kept.ite | apply KeptO.none | apply KeptO.some_id | apply KeptO.some | apply Kept.foldl | apply Kept.foldl_fst | apply State.setDelay_kept) | split)

theorem State.trainPc_kept {s0 : State} {s : State} {m : Nat} {r : Nat} {pc : Nat} {again : Bool} (hs : Kept s0 s) :
    Kept s0 (State.trainPc s m r pc again).1 := by
  unfold State.trainPc
  try dsimp only
  repeat' (first | with_reducible (first | assumption | intro s x _ | intro s _ | intro x | apply Kept.ite_fst | apply Kept.ite | apply KeptO.none | apply KeptO.some_id | apply KeptO.some | apply KeptO.ite | apply Kept.foldl | apply Kept.foldl_fst | apply State.sweepPc_kept | apply State.set_kept | apply State.raise_kept | refine Kept.of_some_fst (by assumption) ?_) | split | dsimp only)

theorem State.trainPoint_kept {s0 : State} {s : State} {m : Nat} {r : Nat} {x3 : List Nat} (hs : Kept s0 s) :
    Kept s0 (State.trainPoint s m r x3).1 := by
  revert hs
  induction x3 generalizing s m r with
  | nil =>
    intro hs; unfold State.trainPoint; try dsimp only
    repeat' (first | with_reducible (first | assumption | apply Kept.ite_fst | apply Kept.ite | apply KeptO.none | apply KeptO.some_id | apply KeptO.some | apply KeptO.ite | apply State.trainPc_kept | refine Kept.of_fst (by assumption) ?_) | split | dsimp only)
  | cons y l ih =>
    intro hs; unfold State.trainPoint; try dsimp only
    repeat' (first | with_reducible (first | assumption | apply Kept.ite_fst | apply Kept.ite | apply KeptO.none | apply KeptO.some_id | apply KeptO.some | apply KeptO.ite | apply ih | apply State.trainPc_kept | refine Kept.of_fst (by assumption) ?_) | split | dsimp only)

theorem State.loadSet_kept {s0 : State} {s : State} {m : Nat} {r : Nat} (hs : Kept s0 s) :
    Kept s0 (State.loadSet s m r) := by
  unfold State.loadSet
  try dsimp only
  repeat' (first | with_reducible (first | assumption | intro s x _ | intro s _ | intro x | apply Kept.foldl | apply Kept.foldl_fst | apply State.set_kept))

theorem State.trainLost_kept {s0 : State} {s : State} {m : Nat} {pc : Nat} {bits : Nat} (hs : Kept s0 s) :
    Kept s0 (State.trainLost s m pc bits) := by
  unfold State.trainLost
  try dsimp only
  repeat' (first | with_reducible (first | assumption | apply State.set_kept | apply State.logEvent_kept))

theorem State.trained_kept {s0 : State} {s : State} {m : Nat} (hs : Kept s0 s) :
    Kept s0 (State.trained s m) := by
  unfold State.trained
  try dsimp only
  repeat' (first | with_reducible (first | assumption | apply Kept.ite_fst | apply Kept.ite | apply State.setHmc_kept | apply State.hbmUpdate_kept | apply State.hbmInit_kept | apply State.loadSet_kept | apply State.set_kept | apply State.setBitOf_kept))

theorem State.hbmTrain_kept {s0 : State} {s : State} {m : Nat} {t : HbmTrain} (hs : Kept s0 s) :
    Kept s0 (State.hbmTrain s m t) := by
  unfold State.hbmTrain
  try dsimp only
  repeat' (first | with_reducible (first | assumption | apply Kept.ite_fst | apply Kept.ite | apply KeptO.none | apply KeptO.some_id | apply KeptO.some | apply KeptO.ite | apply State.trainPoint_kept | apply State.loadSet_kept | apply State.trainLost_kept | apply State.trained_kept | apply State.set_kept | apply State.setBitOf_kept | refine Kept.of_fst (by assumption) ?_) | split)

theorem execHbmTrain_kept {s0 : State} {m : HmcId} {t : HbmTrain} {s : State} (hs : Kept s0 s) :
    KeptR s0 (execHbmTrain m t s) := by
  unfold execHbmTrain
  try dsimp only
  repeat' (first | with_reducible (first | assumption | apply KeptR.next | apply KeptR.ite | apply State.hbmTrain_kept))

theorem State.helper_kept {s0 : State} {s : State} {m : Nat} (hs : Kept s0 s) :
    Kept s0 (State.helper s m) := by
  unfold State.helper
  try dsimp only
  repeat' (first | with_reducible (first | assumption | apply Kept.ite_fst | apply Kept.ite | apply State.raise_kept | apply State.lower_kept))

theorem State.writeTcmd_kept {s0 : State} {s : State} {m : Nat} {v : Nat} (hs : Kept s0 s) :
    Kept s0 (State.writeTcmd s m v) := by
  unfold State.writeTcmd
  try dsimp only
  repeat' (first | with_reducible (first | assumption | apply Kept.ite_fst | apply Kept.ite | apply KeptC.of_state | apply KeptC.csr_set | apply KeptC.tags_put | apply KeptC.tags_drop | apply KeptC.out_append | apply State.helper_kept) | simp only [Kept.mk_iff])

theorem execHelperCa_kept {s0 : State} {m : HmcId} {pc : Fin 32} {all : Bool} {s : State} (hs : Kept s0 s) :
    KeptR s0 (execHelperCa m pc all s) := by
  unfold execHelperCa
  try dsimp only
  repeat' (first | with_reducible (first | assumption | intro s x _ | intro s _ | intro x | apply KeptR.next | apply KeptR.ite | apply State.writeTcmd_kept | apply State.access_kept))

theorem execHelperRd_kept {s0 : State} {m : HmcId} {pc : Fin 32} {all : Bool} {s : State} (hs : Kept s0 s) :
    KeptR s0 (execHelperRd m pc all s) := by
  unfold execHelperRd
  try dsimp only
  repeat' (first | with_reducible (first | assumption | intro s x _ | intro s _ | intro x | apply KeptR.next | apply KeptR.ite | apply State.writeTcmd_kept | apply State.access_kept))

theorem execHelperWrrd_kept {s0 : State} {m : HmcId} {pc : Fin 32} {all : Bool} {s : State} (hs : Kept s0 s) :
    KeptR s0 (execHelperWrrd m pc all s) := by
  unfold execHelperWrrd
  try dsimp only
  repeat' (first | with_reducible (first | assumption | intro s x _ | intro s _ | intro x | apply KeptR.next | apply KeptR.ite | apply State.writeTcmd_kept | apply State.access_kept))

theorem execHelperWdqs_kept {s0 : State} {m : HmcId} {pc : Fin 32} {all : Bool} {s : State} (hs : Kept s0 s) :
    KeptR s0 (execHelperWdqs m pc all s) := by
  unfold execHelperWdqs
  try dsimp only
  repeat' (first | with_reducible (first | assumption | intro s x _ | intro s _ | intro x | apply KeptR.next | apply KeptR.ite | apply State.writeTcmd_kept | apply State.access_kept))

theorem execHelperDone_kept {s0 : State} {m : HmcId} {dq : Word} {extra : Fin 128} {ca : Bool} {cnt : Word} {s : State} (hs : Kept s0 s) :
    KeptR s0 (execHelperDone m dq extra ca cnt s) := by
  unfold execHelperDone
  try dsimp only
  repeat' (first | with_reducible (first | assumption | apply KeptR.next | apply KeptR.ite | apply Kept.ite_fst | apply Kept.ite | apply State.set_kept | apply State.raise_kept | apply State.lower_kept | apply State.setB_kept))

theorem State.loseRange_kept {s0 : State} {s : State} {u : Nat} (hs : Kept s0 s) :
    Kept s0 (State.loseRange s u) := by
  unfold State.loseRange
  try dsimp only
  repeat' (first | with_reducible (first | assumption | apply KeptO.none | apply KeptO.some_id | apply KeptO.some | apply KeptO.ite | apply KeptC.of_state | apply KeptC.csr_set | apply KeptC.tags_put | apply KeptC.tags_drop | apply KeptC.out_append | apply State.opFail_kept) | simp only [Kept.mk_iff] | split)

theorem State.loseHbmRange_kept {s0 : State} {s : State} (hs : Kept s0 s) :
    Kept s0 (State.loseHbmRange s) := by
  unfold State.loseHbmRange
  try dsimp only
  repeat' (first | with_reducible (first | assumption | apply Kept.ite_fst | apply Kept.ite | apply State.loseRange_kept) | split)

theorem State.hbmFreeze_kept {s0 : State} {s : State} {m : Nat} {cause : Nat} {pc : Nat} {bank : Nat} {row : Nat} {qtr : Nat} {r : Option Req} (hs : Kept s0 s) :
    Kept s0 (State.hbmFreeze s m cause pc bank row qtr r) := by
  unfold State.hbmFreeze
  try dsimp only
  repeat' (first | with_reducible (first | assumption | intro s x _ | intro s _ | intro x | apply Kept.ite_fst | apply Kept.ite | apply KeptO.none | apply KeptO.some_id | apply KeptO.some | apply KeptO.ite | apply KeptO.map | apply Kept.foldl | apply Kept.foldl_fst | apply State.setPc_kept | apply State.hbmUpdate_kept | apply State.loseHbmRange_kept | apply State.cistsFrozen_kept | apply State.set_kept | apply State.raise_kept | apply State.lower_kept | apply State.setStamp_kept | apply State.logEvent_kept | apply State.stopRings_kept) | split)

theorem execHbmFreeze_kept {s0 : State} {m : HmcId} {cause : Fin 3} {p : Fin 32} {i : Option (Fin 32)} {bank : Fin 48} {row : Fin 24576} {s : State} (hs : Kept s0 s) :
    KeptR s0 (execHbmFreeze m cause p i bank row s) := by
  unfold execHbmFreeze
  try dsimp only
  repeat' (first | with_reducible (first | assumption | apply KeptR.next | apply KeptR.ite | apply Kept.ite_fst | apply Kept.ite | apply KeptO.none | apply KeptO.some_id | apply KeptO.some | apply KeptO.ite | apply State.hbmFreeze_kept) | split)

end Sys2Proof.Machine
end

