-- ==== Sys2Proof/Laws/KeptSieve.lean ====
section
/-! SUPPORT. What every operation and meaning of Machine/Sieve.lean keeps (Laws/Kept.lean says what that is): one lemma for each. -/
set_option maxRecDepth 4000
set_option linter.unusedVariables false
namespace Sys2Proof.Machine

theorem State.cfePulse_kept {s0 : State} {s : State} {l : Nat} (hs : Kept s0 s) :
    Kept s0 (State.cfePulse s l) := by
  unfold State.cfePulse
  try dsimp only
  repeat' (first | with_reducible (first | assumption | apply State.pulse_kept))

end Sys2Proof.Machine
end

