-- ==== Sys2Proof/Laws/KeptPorts.lean ====
section
/-! SUPPORT. What every operation and meaning of Machine/Ports.lean keeps (Laws/Kept.lean says what that is): one lemma for each. -/
set_option maxRecDepth 4000
set_option linter.unusedVariables false
namespace Sys2Proof.Machine

theorem State.setLane_kept {s0 : State} {s : State} {l : Nat} {v : LaneSt} (hs : Kept s0 s) :
    Kept s0 (State.setLane s l v) := by
  unfold State.setLane
  try dsimp only
  repeat' (first | with_reducible (first | assumption | apply KeptC.of_state | apply KeptC.csr_set | apply KeptC.tags_put | apply KeptC.tags_drop | apply KeptC.out_append) | simp only [Kept.mk_iff])

theorem State.setPort_kept {s0 : State} {s : State} {a : Nat} {v : PortSt} (hs : Kept s0 s) :
    Kept s0 (State.setPort s a v) := by
  unfold State.setPort
  try dsimp only
  repeat' (first | with_reducible (first | assumption | apply KeptC.of_state | apply KeptC.csr_set | apply KeptC.tags_put | apply KeptC.tags_drop | apply KeptC.out_append) | simp only [Kept.mk_iff])

theorem State.setField_kept {s0 : State} {s : State} {n : Nat} {v : FieldSt} (hs : Kept s0 s) :
    Kept s0 (State.setField s n v) := by
  unfold State.setField
  try dsimp only
  repeat' (first | with_reducible (first | assumption | apply KeptC.of_state | apply KeptC.csr_set | apply KeptC.tags_put | apply KeptC.tags_drop | apply KeptC.out_append) | simp only [Kept.mk_iff])

theorem State.setFur_kept {s0 : State} {s : State} {l : Nat} {v : FurSt} (hs : Kept s0 s) :
    Kept s0 (State.setFur s l v) := by
  unfold State.setFur
  try dsimp only
  repeat' (first | with_reducible (first | assumption | apply KeptC.of_state | apply KeptC.csr_set | apply KeptC.tags_put | apply KeptC.tags_drop | apply KeptC.out_append) | simp only [Kept.mk_iff])

theorem State.wakeQuad_kept {s0 : State} {s : State} {q : Nat} (hs : Kept s0 s) :
    Kept s0 (State.wakeQuad s q) := by
  unfold State.wakeQuad
  try dsimp only
  repeat' (first | with_reducible (first | assumption | apply Kept.ite_fst | apply Kept.ite | apply State.lower_kept | apply State.count_kept | apply State.setBitOf_kept | apply State.clearBitOf_kept))

theorem State.portCfgerr_kept {s0 : State} {s : State} {a : Nat} (hs : Kept s0 s) :
    Kept s0 (State.portCfgerr s a) := by
  unfold State.portCfgerr
  try dsimp only
  repeat' (first | with_reducible (first | assumption | apply State.setB_kept))

theorem State.dealFrame_kept {s0 : State} {s : State} {a : Nat} {f : RxFrame} (hs : Kept s0 s) :
    Kept s0 (State.dealFrame s a f) := by
  unfold State.dealFrame
  try dsimp only
  repeat' (first | with_reducible (first | assumption | apply Kept.ite_fst | apply Kept.ite | apply State.emit_kept | apply State.setLane_kept | apply State.setPort_kept))

theorem State.startFrame_kept {s0 : State} {s : State} {a : Nat} {bytes : List Byte} {ts : Nat} (hs : Kept s0 s) :
    Kept s0 (State.startFrame s a bytes ts) := by
  unfold State.startFrame
  try dsimp only
  repeat' (first | with_reducible (first | assumption | apply KeptO.none | apply KeptO.some_id | apply KeptO.some | apply KeptO.ite | apply State.setPort_kept))

theorem State.growFrame_kept {s0 : State} {s : State} {a : Nat} {bytes : List Byte} {ts : Nat} (hs : Kept s0 s) :
    Kept s0 (State.growFrame s a bytes ts) := by
  unfold State.growFrame
  try dsimp only
  repeat' (first | with_reducible (first | assumption | apply Kept.ite_fst | apply Kept.ite | apply KeptO.none | apply KeptO.some_id | apply KeptO.some | apply KeptO.ite | apply State.setPort_kept | apply State.cfePulse_kept))

theorem State.truncateRx_kept {s0 : State} {s : State} {a : Nat} (hs : Kept s0 s) :
    Kept s0 (State.truncateRx s a) := by
  unfold State.truncateRx
  try dsimp only
  repeat' (first | with_reducible (first | assumption | apply KeptO.none | apply KeptO.some_id | apply KeptO.some | apply KeptO.ite | apply State.dealFrame_kept) | split)

theorem State.lockFloats_kept {s0 : State} {s : State} {anchors : List Nat} (hs : Kept s0 s) :
    Kept s0 (State.lockFloats s anchors) := by
  unfold State.lockFloats
  try dsimp only
  repeat' (first | with_reducible (first | assumption | intro s x _ | intro s _ | intro x | apply Kept.ite_fst | apply Kept.ite | apply Kept.foldl | apply Kept.foldl_fst | apply State.pulse_kept) | split)

theorem State.lanesFloat_kept {s0 : State} {s : State} {ls : List Nat} (hs : Kept s0 s) :
    Kept s0 (State.lanesFloat s ls) := by
  unfold State.lanesFloat
  try dsimp only
  repeat' (first | with_reducible (first | assumption | apply Kept.ite_fst | apply Kept.ite | apply State.lockFloats_kept))

theorem State.linkSignal_kept {s0 : State} {s : State} {a : Nat} {on : Bool} (hs : Kept s0 s) :
    Kept s0 (State.linkSignal s a on) := by
  unfold State.linkSignal
  try dsimp only
  repeat' (first | with_reducible (first | assumption | apply Kept.ite_fst | apply Kept.ite | apply State.emit_kept))

theorem State.portUp_kept {s0 : State} {s : State} {a : Nat} (hs : Kept s0 s) :
    Kept s0 (State.portUp s a) := by
  unfold State.portUp
  try dsimp only
  repeat' (first | with_reducible (first | assumption | apply State.raise_kept | apply State.linkSignal_kept))

theorem State.bypassUp_kept {s0 : State} {s : State} {a : Nat} (hs : Kept s0 s) :
    Kept s0 (State.bypassUp s a) := by
  unfold State.bypassUp
  try dsimp only
  repeat' (first | with_reducible (first | assumption | apply Kept.ite_fst | apply Kept.ite | apply State.portUp_kept))

theorem State.portLost_kept {s0 : State} {s : State} {a : Nat} {quiet : Bool} (hs : Kept s0 s) :
    Kept s0 (State.portLost s a quiet) := by
  unfold State.portLost
  try dsimp only
  repeat' (first | with_reducible (first | assumption | intro s x _ | intro s _ | intro x | apply Kept.ite_fst | apply Kept.ite | apply Kept.foldl | apply Kept.foldl_fst | apply State.raise_kept | apply State.lower_kept | apply State.count_kept | apply State.setLane_kept | apply State.setPort_kept | apply State.truncateRx_kept | apply State.lockFloats_kept | apply State.linkSignal_kept))

theorem State.leaveReady_kept {s0 : State} {s : State} {l : Nat} {quiet : Bool} (hs : Kept s0 s) :
    Kept s0 (State.leaveReady s l quiet) := by
  unfold State.leaveReady
  try dsimp only
  repeat' (first | with_reducible (first | assumption | apply KeptO.none | apply KeptO.some_id | apply KeptO.some | apply KeptO.ite | apply State.opFail_kept | apply State.lower_kept | apply State.setLane_kept | apply State.portLost_kept) | split)

theorem State.furBreak_kept {s0 : State} {s : State} {l : Nat} (hs : Kept s0 s) :
    Kept s0 (State.furBreak s l) := by
  unfold State.furBreak
  try dsimp only
  repeat' (first | with_reducible (first | assumption | apply KeptO.none | apply KeptO.some_id | apply KeptO.some | apply KeptO.ite | apply State.count_kept | apply State.emit_kept | apply State.setPort_kept | apply State.setFur_kept) | split)

theorem State.furFault_kept {s0 : State} {s : State} {l : Nat} {err : Nat} (hs : Kept s0 s) :
    Kept s0 (State.furFault s l err) := by
  unfold State.furFault
  try dsimp only
  repeat' (first | with_reducible (first | assumption | apply Kept.ite_fst | apply Kept.ite | apply State.set_kept | apply State.furBreak_kept))

end Sys2Proof.Machine
end

