-- ==== Sys2Proof/Laws/KeptSwitch.lean ====
section
/-! SUPPORT. What every operation and meaning of Machine/Switch.lean keeps (Laws/Kept.lean says what that is): one lemma for each. -/
set_option maxRecDepth 4000
set_option linter.unusedVariables false
namespace Sys2Proof.Machine

theorem State.charge_kept {s0 : State} {s : State} {u : Nat} {src : Nat} {amount : Nat} (hs : Kept s0 s) :
    Kept s0 (State.charge s u src amount).1 := by
  unfold State.charge
  try dsimp only
  repeat' (first | with_reducible (first | assumption | apply Kept.ite_fst | apply Kept.ite | apply KeptC.of_state | apply KeptC.csr_set | apply KeptC.tags_put | apply KeptC.tags_drop | apply KeptC.out_append) | simp only [Kept.mk_iff] | dsimp only)

theorem State.sendPacket_kept {s0 : State} {s : State} {p : Nat} {src : Nat} {flits : Nat} {amount : Nat} (hs : Kept s0 s) :
    Kept s0 (State.sendPacket s p src flits amount) := by
  unfold State.sendPacket
  try dsimp only
  repeat' (first | with_reducible (first | assumption | apply Kept.ite_fst | apply Kept.ite | apply State.wrap2_kept | apply State.charge_kept))

theorem State.windowStart_kept {s0 : State} {s : State} {u : Nat} (hs : Kept s0 s) :
    Kept s0 (State.windowStart s u) := by
  unfold State.windowStart
  try dsimp only
  repeat' (first | with_reducible (first | assumption | intro s x _ | intro s _ | intro x | apply Kept.foldl | apply Kept.foldl_fst | apply KeptC.of_state | apply KeptC.csr_set | apply KeptC.tags_put | apply KeptC.tags_drop | apply KeptC.out_append) | simp only [Kept.mk_iff])

theorem execShareWindowStart_kept {s0 : State} {u : Fin 305} {s : State} (hs : Kept s0 s) :
    KeptR s0 (execShareWindowStart u s) := by
  unfold execShareWindowStart
  try dsimp only
  repeat' (first | with_reducible (first | assumption | apply KeptR.next | apply KeptR.ite | apply State.windowStart_kept))

theorem State.overcommit_kept {s0 : State} {s : State} {src : Nat} {port : Nat} (hs : Kept s0 s) :
    Kept s0 (State.overcommit s src port) := by
  unfold State.overcommit
  try dsimp only
  repeat' (first | with_reducible (first | assumption | apply State.set_kept | apply State.raise_kept))

theorem State.showShares_kept {s0 : State} {s : State} {p : Nat} (hs : Kept s0 s) :
    Kept s0 (State.showShares s p) := by
  unfold State.showShares
  try dsimp only
  repeat' (first | with_reducible (first | assumption | apply State.set_kept))

theorem State.writeShareTable_kept {s0 : State} {s : State} {p : Nat} {r : Nat} {v : Nat} (hs : Kept s0 s) :
    Kept s0 (State.writeShareTable s p r v) := by
  unfold State.writeShareTable
  try dsimp only
  repeat' (first | with_reducible (first | assumption | apply Kept.ite_fst | apply Kept.ite | apply State.wr_kept | apply State.overcommit_kept | apply State.showShares_kept))

theorem State.writeUplinkTable_kept {s0 : State} {s : State} {n : Nat} {r : Nat} {v : Nat} (hs : Kept s0 s) :
    Kept s0 (State.writeUplinkTable s n r v) := by
  unfold State.writeUplinkTable
  try dsimp only
  repeat' (first | with_reducible (first | assumption | apply Kept.ite_fst | apply Kept.ite | apply State.wr_kept | apply State.overcommit_kept))

theorem State.writeLaneShare_kept {s0 : State} {s : State} {l : Nat} {v : Nat} (hs : Kept s0 s) :
    Kept s0 (State.writeLaneShare s l v) := by
  unfold State.writeLaneShare
  try dsimp only
  repeat' (first | with_reducible (first | assumption | apply Kept.ite_fst | apply Kept.ite | apply State.spend_kept | apply State.set_kept | apply State.wr_kept | apply State.overcommit_kept))

theorem State.writeShareMap_kept {s0 : State} {s : State} {d : Nat} {i : Nat} {v : Nat} (hs : Kept s0 s) :
    Kept s0 (State.writeShareMap s d i v) := by
  unfold State.writeShareMap
  try dsimp only
  repeat' (first | with_reducible (first | assumption | intro s x _ | intro s _ | intro x | apply Kept.ite_fst | apply Kept.ite | apply Kept.foldl | apply Kept.foldl_fst | apply State.set_kept | apply State.raise_kept))

theorem execShareTableWrite_kept {s0 : State} {upl : Bool} {p : Fin 177} {r : Fin 16} {v : Word} {s : State} (hs : Kept s0 s) :
    KeptR s0 (execShareTableWrite upl p r v s) := by
  unfold execShareTableWrite
  try dsimp only
  repeat' (first | with_reducible (first | assumption | intro s x _ | intro s _ | intro x | apply KeptR.next | apply KeptR.ite | apply Kept.ite_fst | apply Kept.ite | apply State.access_kept | apply State.writeShareTable_kept | apply State.writeUplinkTable_kept))

theorem execLaneShareWrite_kept {s0 : State} {l : LaneId} {v : Word} {s : State} (hs : Kept s0 s) :
    KeptR s0 (execLaneShareWrite l v s) := by
  unfold execLaneShareWrite
  try dsimp only
  repeat' (first | with_reducible (first | assumption | intro s x _ | intro s _ | intro x | apply KeptR.next | apply KeptR.ite | apply State.access_kept | apply State.writeLaneShare_kept))

theorem execShareMapWrite_kept {s0 : State} {d : Fin 11} {i : Fin 64} {v : Word} {s : State} (hs : Kept s0 s) :
    KeptR s0 (execShareMapWrite d i v s) := by
  unfold execShareMapWrite
  try dsimp only
  repeat' (first | with_reducible (first | assumption | intro s x _ | intro s _ | intro x | apply KeptR.next | apply KeptR.ite | apply State.access_kept | apply State.writeShareMap_kept))

theorem State.writeQuota_kept {s0 : State} {s : State} {d : Nat} {v : Nat} (hs : Kept s0 s) :
    Kept s0 (State.writeQuota s d v) := by
  unfold State.writeQuota
  try dsimp only
  repeat' (first | with_reducible (first | assumption | apply Kept.ite_fst | apply Kept.ite | apply State.raise_kept | apply State.wr_kept))

theorem State.writeCnlCtrl_kept {s0 : State} {s : State} {v : Nat} (hs : Kept s0 s) :
    Kept s0 (State.writeCnlCtrl s v) := by
  unfold State.writeCnlCtrl
  try dsimp only
  repeat' (first | with_reducible (first | assumption | intro s x _ | intro s _ | intro x | apply Kept.ite_fst | apply Kept.ite | apply Kept.foldl | apply Kept.foldl_fst | apply State.set2_kept))

theorem execCanalCounterClear_kept {s0 : State} {v : Word} {s : State} (hs : Kept s0 s) :
    KeptR s0 (execCanalCounterClear v s) := by
  unfold execCanalCounterClear
  try dsimp only
  repeat' (first | with_reducible (first | assumption | intro s x _ | intro s _ | intro x | apply KeptR.next | apply KeptR.ite | apply State.access_kept | apply State.writeCnlCtrl_kept))

theorem State.dueAudits_kept {s0 : State} {s : State} {p : Nat} (hs : Kept s0 s) :
    Kept s0 (State.dueAudits s p) := by
  unfold State.dueAudits
  try dsimp only
  repeat' (first | with_reducible (first | assumption | apply KeptC.of_state | apply KeptC.csr_set | apply KeptC.tags_put | apply KeptC.tags_drop | apply KeptC.out_append) | simp only [Kept.mk_iff])

theorem State.spendCredit_kept {s0 : State} {s : State} {p : Nat} {vc : Nat} {flits : Nat} (hs : Kept s0 s) :
    Kept s0 (State.spendCredit s p vc flits) := by
  unfold State.spendCredit
  try dsimp only
  repeat' (first | with_reducible (first | assumption | apply State.set_kept))

theorem State.spendUp_kept {s0 : State} {s : State} {p : Nat} {vc : Nat} {flits : Nat} (hs : Kept s0 s) :
    Kept s0 (State.spendUp s p vc flits) := by
  unfold State.spendUp
  try dsimp only
  repeat' (first | with_reducible (first | assumption | apply KeptC.of_state | apply KeptC.csr_set | apply KeptC.tags_put | apply KeptC.tags_drop | apply KeptC.out_append) | simp only [Kept.mk_iff])

theorem State.creditBack_kept {s0 : State} {s : State} {up : Bool} {p : Nat} {vc : Nat} (hs : Kept s0 s) :
    Kept s0 (State.creditBack s up p vc) := by
  unfold State.creditBack
  try dsimp only
  repeat' (first | with_reducible (first | assumption | apply Kept.ite_fst | apply Kept.ite | apply KeptC.of_state | apply KeptC.csr_set | apply KeptC.tags_put | apply KeptC.tags_drop | apply KeptC.out_append | apply State.set_kept) | simp only [Kept.mk_iff] | split)

theorem State.auditPort_kept {s0 : State} {s : State} {p : Nat} {vc : Nat} {free : Nat} (hs : Kept s0 s) :
    Kept s0 (State.auditPort s p vc free) := by
  unfold State.auditPort
  try dsimp only
  repeat' (first | with_reducible (first | assumption | apply Kept.ite_fst | apply Kept.ite | apply KeptC.of_state | apply KeptC.csr_set | apply KeptC.tags_put | apply KeptC.tags_drop | apply KeptC.out_append | apply State.set_kept | apply State.raise_kept | apply State.count_kept) | simp only [Kept.mk_iff])

theorem State.countStalls_kept {s0 : State} {s : State} (hs : Kept s0 s) :
    Kept s0 (State.countStalls s) := by
  unfold State.countStalls
  try dsimp only
  repeat' (first | with_reducible (first | assumption | intro s x _ | intro s _ | intro x | apply Kept.ite_fst | apply Kept.ite | apply Kept.foldl | apply Kept.foldl_fst | apply State.count_kept))

theorem State.showTags_kept {s0 : State} {s : State} (hs : Kept s0 s) :
    Kept s0 (State.showTags s) := by
  unfold State.showTags
  try dsimp only
  repeat' (first | with_reducible (first | assumption | intro s x _ | intro s _ | intro x | apply Kept.foldl | apply Kept.foldl_fst | apply State.set_kept))

theorem State.chargeUp_kept {s0 : State} {s : State} {r : Req} (hs : Kept s0 s) :
    Kept s0 (State.chargeUp s r) := by
  unfold State.chargeUp
  try dsimp only
  repeat' (first | with_reducible (first | assumption | apply Kept.ite_fst | apply Kept.ite | apply State.charge_kept | refine Kept.of_fst (by assumption) ?_) | split)

theorem State.leavePort_kept {s0 : State} {s : State} {r : Req} {p : Nat} (hs : Kept s0 s) :
    Kept s0 (State.leavePort s r p) := by
  unfold State.leavePort
  try dsimp only
  repeat' (first | with_reducible (first | assumption | apply Kept.ite_fst | apply Kept.ite | apply State.wrap2_kept | apply State.sendPacket_kept))

theorem State.brushTag_kept {s0 : State} {s : State} (hs : Kept s0 s) :
    Kept s0 (State.brushTag s) := by
  unfold State.brushTag
  try dsimp only
  repeat' (first | with_reducible (first | assumption | apply State.set_kept))

theorem State.pass_kept {s0 : State} {s : State} {r : Req} (hs : Kept s0 s) :
    Kept s0 (State.pass s r) := by
  unfold State.pass
  try dsimp only
  repeat' (first | with_reducible (first | assumption | apply Kept.ite_fst | apply Kept.ite | apply State.wrap2_kept | apply State.chargeUp_kept | apply State.leavePort_kept | apply State.brushTag_kept) | split)

theorem State.passAll_kept {s0 : State} {s : State} {x1 : List Req} (hs : Kept s0 s) :
    KeptO id s0 (State.passAll s x1) := by
  revert hs
  induction x1 generalizing s with
  | nil =>
    intro hs; unfold State.passAll; try dsimp only
    repeat' (first | with_reducible (first | assumption | apply KeptO.ite | apply Kept.ite_fst | apply Kept.ite | apply KeptO.none | apply KeptO.some_id | apply KeptO.some | apply State.pass_kept) | split)
  | cons y l ih =>
    intro hs; unfold State.passAll; try dsimp only
    repeat' (first | with_reducible (first | assumption | apply KeptO.ite | apply Kept.ite_fst | apply Kept.ite | apply KeptO.none | apply KeptO.some_id | apply KeptO.some | apply ih | apply State.pass_kept) | split)

theorem State.netRead_kept {s0 : State} {s : State} {src : Nat} {oc : Nat} {port : Option Nat} {a : Nat} {len : Nat} {client : Nat} (hs : Kept s0 s) :
    Kept s0 (State.netRead s src oc port a len client).1 := by
  unfold State.netRead
  try dsimp only
  repeat' (first | with_reducible (first | assumption | apply Kept.ite_fst | apply Kept.ite | apply KeptO.none | apply KeptO.some_id | apply KeptO.some | apply KeptO.ite | apply State.drainAt_kept | apply State.readMem_kept | apply State.passAll_kept | refine Kept.of_some (by assumption) ?_ | refine Kept.of_fst (by assumption) ?_) | split | dsimp only)

theorem State.netStore_kept {s0 : State} {s : State} {op : ReqOp} {src : Nat} {oc : Nat} {a : Nat} {bytes : List Byte} (hs : Kept s0 s) :
    Kept s0 (State.netStore s op src oc a bytes).1 := by
  unfold State.netStore
  try dsimp only
  repeat' (first | with_reducible (first | assumption | apply State.drainAt_kept | apply State.storeMem_kept | apply State.passAll_kept | refine Kept.of_some (by assumption) ?_ | refine Kept.of_fst (by assumption) ?_) | split | dsimp only)

theorem State.netAtomic_kept {s0 : State} {s : State} {src : Nat} {oc : Nat} {a : Nat} {len : Nat} {aop : Nat} {data : List Byte} (hs : Kept s0 s) :
    Kept s0 (State.netAtomic s src oc a len aop data).1 := by
  unfold State.netAtomic
  try dsimp only
  repeat' (first | with_reducible (first | assumption | apply State.drainAt_kept | apply State.atomicMem_kept | apply State.passAll_kept | refine Kept.of_fst (by assumption) ?_ | refine Kept.of_some (by assumption) ?_) | split | dsimp only)

theorem State.setTurn_kept {s0 : State} {s : State} {t : Nat} {m : Nat} {v : TurnSt} (hs : Kept s0 s) :
    Kept s0 (State.setTurn s t m v) := by
  unfold State.setTurn
  try dsimp only
  repeat' (first | with_reducible (first | assumption | apply KeptC.of_state | apply KeptC.csr_set | apply KeptC.tags_put | apply KeptC.tags_drop | apply KeptC.out_append) | simp only [Kept.mk_iff])

theorem State.sendUnit_kept {s0 : State} {s : State} {t : Nat} {m : Nat} {nak : Bool} (hs : Kept s0 s) :
    Kept s0 (State.sendUnit s t m nak) := by
  unfold State.sendUnit
  try dsimp only
  repeat' (first | with_reducible (first | assumption | intro s x _ | intro s _ | intro x | apply Kept.foldl | apply Kept.foldl_fst | apply State.emit_kept | apply State.setTurn_kept))

theorem State.sendUnits_kept {s0 : State} {s : State} {t : Nat} {m : Nat} {x3 : Nat} (hs : Kept s0 s) :
    Kept s0 (State.sendUnits s t m x3) := by
  revert hs
  induction x3 generalizing s t m with
  | zero =>
    intro hs; unfold State.sendUnits; try dsimp only
    repeat' (first | with_reducible (first | assumption | apply Kept.ite_fst | apply Kept.ite | apply State.sendUnit_kept) | split)
  | succ n ih =>
    intro hs; unfold State.sendUnits; try dsimp only
    repeat' (first | with_reducible (first | assumption | apply Kept.ite_fst | apply Kept.ite | apply ih | apply State.sendUnit_kept) | split)

theorem State.toGuest_kept {s0 : State} {s : State} {p : Nat} {flits : List (List Byte)} (hs : Kept s0 s) :
    Kept s0 (State.toGuest s p flits) := by
  unfold State.toGuest
  try dsimp only
  repeat' (first | with_reducible (first | assumption | apply Kept.ite_fst | apply Kept.ite | apply State.setTurn_kept | apply State.sendUnits_kept))

end Sys2Proof.Machine
end

