-- ==== Sys2Proof/Laws/KeptCistern.lean ====
section
/-! SUPPORT. What every operation and meaning of Machine/Cistern.lean keeps (Laws/Kept.lean says what that is): one lemma for each. -/
set_option maxRecDepth 4000
set_option linter.unusedVariables false
namespace Sys2Proof.Machine

theorem State.stageRecord_kept {s0 : State} {s : State} {l : Nat} {r : StRec} (hs : Kept s0 s) :
    Kept s0 (State.stageRecord s l r) := by
  unfold State.stageRecord
  try dsimp only
  repeat' (first | with_reducible (first | assumption | intro s x _ | intro s _ | intro x | apply Kept.foldl | apply Kept.foldl_fst | apply State.setCfe_kept | apply State.lend_kept | apply State.wrap2_kept))

theorem State.dropRecord_kept {s0 : State} {s : State} {l : Nat} {r : PendRec} {cause : Nat} (hs : Kept s0 s) :
    Kept s0 (State.dropRecord s l r cause) := by
  unfold State.dropRecord
  try dsimp only
  repeat' (first | with_reducible (first | assumption | apply Kept.ite_fst | apply Kept.ite | apply KeptO.none | apply KeptO.some_id | apply KeptO.some | apply KeptO.ite | apply State.setCfe_kept | apply State.raise_kept | apply State.wrap2_kept) | split)

theorem State.sendCapture_kept {s0 : State} {s : State} {n : Nat} {x2 : List Nat} (hs : Kept s0 s) :
    Kept s0 (State.sendCapture s n x2).1 := by
  revert hs
  induction x2 generalizing s n with
  | nil =>
    intro hs; unfold State.sendCapture; try dsimp only
    repeat' (first | with_reducible (first | assumption | apply Kept.ite_fst | apply Kept.ite | apply KeptO.none | apply KeptO.some_id | apply KeptO.some | apply KeptO.ite | apply KeptC.of_state | apply KeptC.csr_set | apply KeptC.tags_put | apply KeptC.tags_drop | apply KeptC.out_append | apply State.spendUp_kept) | simp only [Kept.mk_iff] | split | dsimp only)
  | cons y l ih =>
    intro hs; unfold State.sendCapture; try dsimp only
    repeat' (first | with_reducible (first | assumption | apply Kept.ite_fst | apply Kept.ite | apply KeptO.none | apply KeptO.some_id | apply KeptO.some | apply KeptO.ite | apply KeptC.of_state | apply KeptC.csr_set | apply KeptC.tags_put | apply KeptC.tags_drop | apply KeptC.out_append | apply ih | apply State.spendUp_kept) | simp only [Kept.mk_iff] | split | dsimp only)

theorem State.pushHand_kept {s0 : State} {s : State} {l : Nat} (hs : Kept s0 s) :
    Kept s0 (State.pushHand s l) := by
  unfold State.pushHand
  try dsimp only
  repeat' (first | with_reducible (first | assumption | apply Kept.ite_fst | apply Kept.ite | apply KeptO.none | apply KeptO.some_id | apply KeptO.some | apply KeptO.ite | apply State.stageRecord_kept | apply State.dropRecord_kept | apply State.sendCapture_kept | apply State.setCfe_kept | refine Kept.of_fst (by assumption) ?_) | split)

theorem State.pushHands_kept {s0 : State} {s : State} (hs : Kept s0 s) :
    Kept s0 (State.pushHands s) := by
  unfold State.pushHands
  try dsimp only
  repeat' (first | with_reducible (first | assumption | intro s x _ | intro s _ | intro x | apply Kept.foldl | apply Kept.foldl_fst | apply State.pushHand_kept))

theorem State.dropHand_kept {s0 : State} {s : State} {l : Nat} (hs : Kept s0 s) :
    Kept s0 (State.dropHand s l) := by
  unfold State.dropHand
  try dsimp only
  repeat' (first | with_reducible (first | assumption | apply State.dropRecord_kept | apply State.setCfe_kept) | split)

theorem State.withdraw_kept {s0 : State} {s : State} {n : Nat} {m : Nat} (hs : Kept s0 s) :
    Kept s0 (State.withdraw s n m) := by
  unfold State.withdraw
  try dsimp only
  repeat' (first | with_reducible (first | assumption | intro s x _ | intro s _ | intro x | apply Kept.ite_fst | apply Kept.ite | apply Kept.foldl | apply Kept.foldl_fst | apply State.dropHand_kept))

theorem State.writeCfeCtrl_kept {s0 : State} {s : State} {l : Nat} {v : Nat} (hs : Kept s0 s) :
    Kept s0 (State.writeCfeCtrl s l v) := by
  unfold State.writeCfeCtrl
  try dsimp only
  repeat' (first | with_reducible (first | assumption | apply Kept.ite_fst | apply Kept.ite | apply State.dropHand_kept | apply State.setCfe_kept | apply State.closeAll_kept | apply State.returnSegs_kept | apply State.raise_kept | apply State.lower_kept | apply State.wrAll_kept | apply State.setLane_kept | apply State.wakeQuad_kept))

theorem execCfeEnable_kept {s0 : State} {l : LaneId} {v : Word} {s : State} (hs : Kept s0 s) :
    KeptR s0 (execCfeEnable l v s) := by
  unfold execCfeEnable
  try dsimp only
  repeat' (first | with_reducible (first | assumption | intro s x _ | intro s _ | intro x | apply KeptR.next | apply KeptR.ite | apply State.writeCfeCtrl_kept | apply State.access_kept))

theorem State.writeCfeStat_kept {s0 : State} {s : State} {l : Nat} {v : Nat} (hs : Kept s0 s) :
    Kept s0 (State.writeCfeStat s l v) := by
  unfold State.writeCfeStat
  try dsimp only
  repeat' (first | with_reducible (first | assumption | apply Kept.ite_fst | apply Kept.ite | apply State.set2_kept | apply State.w1cAll_kept))

theorem execCfeCounterClear_kept {s0 : State} {l : LaneId} {v : Word} {s : State} (hs : Kept s0 s) :
    KeptR s0 (execCfeCounterClear l v s) := by
  unfold execCfeCounterClear
  try dsimp only
  repeat' (first | with_reducible (first | assumption | intro s x _ | intro s _ | intro x | apply KeptR.next | apply KeptR.ite | apply State.writeCfeStat_kept | apply State.access_kept))

theorem State.takeFrame_kept {s0 : State} {s : State} {l : Nat} {f : RxFrame} (hs : Kept s0 s) :
    Kept s0 (State.takeFrame s l f) := by
  unfold State.takeFrame
  try dsimp only
  repeat' (first | with_reducible (first | assumption | apply Kept.ite_fst | apply Kept.ite | apply State.setCfe_kept | apply State.wrap2_kept | apply State.cfePulse_kept) | split)

theorem execCfeFrame_kept {s0 : State} {l : LaneId} {f : Option FabFrame} {s : State} (hs : Kept s0 s) :
    KeptR s0 (execCfeFrame l f s) := by
  unfold execCfeFrame
  try dsimp only
  repeat' (first | with_reducible (first | assumption | apply KeptR.next | apply KeptR.ite | apply Kept.ite_fst | apply Kept.ite | apply KeptO.none | apply KeptO.some_id | apply KeptO.some | apply KeptO.ite | apply State.takeFrame_kept | apply State.used_kept | apply State.setLane_kept) | split)

theorem State.emitGap_kept {s0 : State} {s : State} {l : Nat} (hs : Kept s0 s) :
    Kept s0 (State.emitGap s l) := by
  unfold State.emitGap
  try dsimp only
  repeat' (first | with_reducible (first | assumption | apply Kept.ite_fst | apply Kept.ite | apply KeptO.none | apply KeptO.some_id | apply KeptO.some | apply KeptO.ite | apply State.setCfe_kept | apply State.book_kept | apply State.enqueueClosed_kept | apply State.closeAll_kept | apply State.spend_kept | apply State.lower_kept | apply State.wrap2_kept) | split)

theorem State.handRecord_kept {s0 : State} {s : State} {l : Nat} {r : PendRec} (hs : Kept s0 s) :
    Kept s0 (State.handRecord s l r) := by
  unfold State.handRecord
  try dsimp only
  repeat' (first | with_reducible (first | assumption | apply KeptO.none | apply KeptO.some_id | apply KeptO.some | apply KeptO.ite | apply State.pushHand_kept | apply State.setCfe_kept))

theorem State.settleHand_kept {s0 : State} {s : State} {l : Nat} (hs : Kept s0 s) :
    Kept s0 (State.settleHand s l) := by
  unfold State.settleHand
  try dsimp only
  repeat' (first | with_reducible (first | assumption | apply State.pushHand_kept | apply State.dropHand_kept))

theorem State.judge_kept {s0 : State} {s : State} {l : Nat} {r : PendRec} (hs : Kept s0 s) :
    Kept s0 (State.judge s l r) := by
  unfold State.judge
  try dsimp only
  repeat' (first | with_reducible (first | assumption | apply Kept.ite_fst | apply Kept.ite | apply State.dropRecord_kept | apply State.emitGap_kept | apply State.handRecord_kept | apply State.settleHand_kept | apply State.spend_kept | apply State.wrap_kept) | split)

theorem execRecordJudge_kept {s0 : State} {l : LaneId} {s : State} (hs : Kept s0 s) :
    KeptR s0 (execRecordJudge l s) := by
  unfold execRecordJudge
  try dsimp only
  repeat' (first | with_reducible (first | assumption | apply KeptR.next | apply KeptR.ite | apply Kept.ite_fst | apply Kept.ite | apply State.judge_kept | apply State.setCfe_kept) | split)

theorem execGapEmit_kept {s0 : State} {l : LaneId} {s : State} (hs : Kept s0 s) :
    KeptR s0 (execGapEmit l s) := by
  unfold execGapEmit
  try dsimp only
  repeat' (first | with_reducible (first | assumption | apply KeptR.next | apply KeptR.ite | apply Kept.ite_fst | apply Kept.ite | apply State.emitGap_kept))

theorem execSegmentLend_kept {s0 : State} {l : LaneId} {s : State} (hs : Kept s0 s) :
    KeptR s0 (execSegmentLend l s) := by
  unfold execSegmentLend
  try dsimp only
  repeat' (first | with_reducible (first | assumption | apply KeptR.next | apply KeptR.ite | apply Kept.ite_fst | apply Kept.ite | apply State.lend_kept))

theorem execSegmentClose_kept {s0 : State} {l : LaneId} {s : State} (hs : Kept s0 s) :
    KeptR s0 (execSegmentClose l s) := by
  unfold execSegmentClose
  try dsimp only
  repeat' (first | with_reducible (first | assumption | apply KeptR.next | apply KeptR.ite | apply State.closeFirst_kept))

theorem State.drainSend_kept {s0 : State} {s : State} {r : Req} (hs : Kept s0 s) :
    Kept s0 (State.drainSend s r) := by
  unfold State.drainSend
  try dsimp only
  repeat' (first | with_reducible (first | assumption | apply Kept.ite_fst | apply Kept.ite | apply KeptC.of_state | apply KeptC.csr_set | apply KeptC.tags_put | apply KeptC.tags_drop | apply KeptC.out_append | apply State.arrive_kept | apply State.spendCredit_kept | apply State.leavePort_kept) | simp only [Kept.mk_iff] | split)

theorem State.drainWrite_kept {s0 : State} {s : State} {a : Nat} {bytes : List Byte} {job : Nat} (hs : Kept s0 s) :
    Kept s0 (State.drainWrite s a bytes job) := by
  unfold State.drainWrite
  try dsimp only
  repeat' (first | with_reducible (first | assumption | intro s x _ | intro s _ | intro x | apply Kept.foldl | apply Kept.foldl_fst | apply State.drainSend_kept))

theorem State.ringWrite_kept {s0 : State} {s : State} {c : Nat} {bytes : List Byte} {job : Nat} (hs : Kept s0 s) :
    Kept s0 (State.ringWrite s c bytes job) := by
  unfold State.ringWrite
  try dsimp only
  repeat' (first | with_reducible (first | assumption | apply KeptO.map | apply State.drainWrite_kept | apply State.setCist_kept | apply State.set2_kept))

theorem State.ringPut_kept {s0 : State} {s : State} {r : StRec} {job : Nat} (hs : Kept s0 s) :
    Kept s0 (State.ringPut s r job) := by
  unfold State.ringPut
  try dsimp only
  repeat' (first | with_reducible (first | assumption | apply Kept.ite_fst | apply Kept.ite | apply KeptO.none | apply KeptO.some_id | apply KeptO.some | apply KeptO.ite | apply State.ringWrite_kept | apply State.setCist_kept | apply State.publish_kept | apply State.set_kept | apply State.raise_kept | apply State.count_kept | apply State.set2_kept | apply State.wrap2_kept) | split)

theorem execSegmentDrain_kept {s0 : State} {s : State} (hs : Kept s0 s) :
    KeptR s0 (execSegmentDrain s) := by
  unfold execSegmentDrain
  try dsimp only
  repeat' (first | with_reducible (first | assumption | intro s x _ | intro s _ | intro x | apply KeptR.next | apply KeptR.ite | apply Kept.ite_fst | apply Kept.ite | apply Kept.foldl | apply Kept.foldl_fst | apply KeptC.of_state | apply KeptC.csr_set | apply KeptC.tags_put | apply KeptC.tags_drop | apply KeptC.out_append | apply State.ringPut_kept) | simp only [Kept.mk_iff] | split)

theorem execSegmentReturn_kept {s0 : State} {i : Fin 64} {s : State} (hs : Kept s0 s) :
    KeptR s0 (execSegmentReturn i s) := by
  unfold execSegmentReturn
  try dsimp only
  repeat' (first | with_reducible (first | assumption | intro s x _ | intro s _ | intro x | apply KeptR.next | apply KeptR.ite | apply Kept.ite_fst | apply Kept.ite | apply KeptO.none | apply KeptO.some_id | apply KeptO.some | apply KeptO.ite | apply Kept.foldl | apply Kept.foldl_fst | apply KeptC.of_state | apply KeptC.csr_set | apply KeptC.tags_put | apply KeptC.tags_drop | apply KeptC.out_append | apply State.book_kept | apply State.poolFull_kept | apply State.snap_kept | apply State.maybeDone_kept) | simp only [Kept.mk_iff] | split)

theorem State.writeCctrl_kept {s0 : State} {s : State} {c : Nat} {src : Nat} {v : Nat} (hs : Kept s0 s) :
    Kept s0 (State.writeCctrl s c src v) := by
  unfold State.writeCctrl
  try dsimp only
  repeat' (first | with_reducible (first | assumption | apply Kept.ite_fst | apply Kept.ite | apply State.arm_kept | apply State.disarm_kept | apply State.actOn_kept | apply State.raise_kept | apply State.wrAll_kept))

theorem execCisternArm_kept {s0 : State} {c : CistId} {src : Fin 4096} {v : Word} {s : State} (hs : Kept s0 s) :
    KeptR s0 (execCisternArm c src v s) := by
  unfold execCisternArm
  try dsimp only
  repeat' (first | with_reducible (first | assumption | intro s x _ | intro s _ | intro x | apply KeptR.next | apply KeptR.ite | apply State.writeCctrl_kept | apply State.access_kept))

theorem execCisternDisarm_kept {s0 : State} {c : CistId} {src : Fin 4096} {v : Word} {s : State} (hs : Kept s0 s) :
    KeptR s0 (execCisternDisarm c src v s) := by
  unfold execCisternDisarm
  try dsimp only
  repeat' (first | with_reducible (first | assumption | intro s x _ | intro s _ | intro x | apply KeptR.next | apply KeptR.ite | apply State.writeCctrl_kept | apply State.access_kept))

theorem execSwstart_kept {s0 : State} {c : CistId} {src : Fin 4096} {v : Word} {s : State} (hs : Kept s0 s) :
    KeptR s0 (execSwstart c src v s) := by
  unfold execSwstart
  try dsimp only
  repeat' (first | with_reducible (first | assumption | intro s x _ | intro s _ | intro x | apply KeptR.next | apply KeptR.ite | apply State.writeCctrl_kept | apply State.access_kept))

theorem execSwstop_kept {s0 : State} {c : CistId} {src : Fin 4096} {v : Word} {s : State} (hs : Kept s0 s) :
    KeptR s0 (execSwstop c src v s) := by
  unfold execSwstop
  try dsimp only
  repeat' (first | with_reducible (first | assumption | intro s x _ | intro s _ | intro x | apply KeptR.next | apply KeptR.ite | apply State.writeCctrl_kept | apply State.access_kept))

theorem execCfeStopAck_kept {s0 : State} {l : LaneId} {s : State} (hs : Kept s0 s) :
    KeptR s0 (execCfeStopAck l s) := by
  unfold execCfeStopAck
  try dsimp only
  repeat' (first | with_reducible (first | assumption | apply KeptR.next | apply KeptR.ite | apply Kept.ite_fst | apply Kept.ite | apply State.setCist_kept | apply State.maybeDone_kept) | split)

theorem execCisternPublish_kept {s0 : State} {c : CistId} {s : State} (hs : Kept s0 s) :
    KeptR s0 (execCisternPublish c s) := by
  unfold execCisternPublish
  try dsimp only
  repeat' (first | with_reducible (first | assumption | apply KeptR.next | apply KeptR.ite | apply Kept.ite_fst | apply Kept.ite | apply State.publish_kept))

theorem execFloatPulse_kept {s0 : State} {m : BitVec 64} {s : State} (hs : Kept s0 s) :
    KeptR s0 (execFloatPulse m s) := by
  unfold execFloatPulse
  try dsimp only
  repeat' (first | with_reducible (first | assumption | apply KeptR.next | apply KeptR.ite | apply State.pulse_kept))

theorem State.writeSwf_kept {s0 : State} {s : State} {hi : Bool} {v : Nat} (hs : Kept s0 s) :
    Kept s0 (State.writeSwf s hi v) := by
  unfold State.writeSwf
  try dsimp only
  repeat' (first | with_reducible (first | assumption | apply Kept.ite_fst | apply Kept.ite | apply State.countPulse_kept | apply State.wakeFurs_kept | apply State.emit_kept | apply State.fabFloats_kept))

theorem execSoftwareFloat_kept {s0 : State} {hi : Bool} {v : Word} {s : State} (hs : Kept s0 s) :
    KeptR s0 (execSoftwareFloat hi v s) := by
  unfold execSoftwareFloat
  try dsimp only
  repeat' (first | with_reducible (first | assumption | intro s x _ | intro s _ | intro x | apply KeptR.next | apply KeptR.ite | apply State.writeSwf_kept | apply State.access_kept))

theorem State.writeFltCtrl_kept {s0 : State} {s : State} {v : Nat} (hs : Kept s0 s) :
    Kept s0 (State.writeFltCtrl s v) := by
  unfold State.writeFltCtrl
  try dsimp only
  repeat' (first | with_reducible (first | assumption | apply Kept.ite_fst | apply Kept.ite | apply State.enterFlt_kept | apply State.raise_kept | apply State.lower_kept | apply State.wrAll_kept))

theorem execSequencerEnable_kept {s0 : State} {v : Word} {s : State} (hs : Kept s0 s) :
    KeptR s0 (execSequencerEnable v s) := by
  unfold execSequencerEnable
  try dsimp only
  repeat' (first | with_reducible (first | assumption | intro s x _ | intro s _ | intro x | apply KeptR.next | apply KeptR.ite | apply State.writeFltCtrl_kept | apply State.access_kept))

theorem execSequencerDisable_kept {s0 : State} {v : Word} {s : State} (hs : Kept s0 s) :
    KeptR s0 (execSequencerDisable v s) := by
  unfold execSequencerDisable
  try dsimp only
  repeat' (first | with_reducible (first | assumption | intro s x _ | intro s _ | intro x | apply KeptR.next | apply KeptR.ite | apply State.writeFltCtrl_kept | apply State.access_kept))

theorem execEventTransition_kept {s0 : State} {s : State} (hs : Kept s0 s) :
    KeptR s0 (execEventTransition s) := by
  unfold execEventTransition
  try dsimp only
  repeat' (first | with_reducible (first | assumption | apply KeptR.next | apply KeptR.ite | apply Kept.ite_fst | apply Kept.ite | apply State.settleFlt_kept))

theorem execTimerTransition_kept {s0 : State} {s : State} (hs : Kept s0 s) :
    KeptR s0 (execTimerTransition s) := by
  unfold execTimerTransition
  try dsimp only
  repeat' (first | with_reducible (first | assumption | apply KeptR.next | apply KeptR.ite | apply Kept.ite_fst | apply Kept.ite | apply KeptC.of_state | apply KeptC.csr_set | apply KeptC.tags_put | apply KeptC.tags_drop | apply KeptC.out_append | apply State.settleFlt_kept | apply State.set_kept) | simp only [Kept.mk_iff])

theorem State.readFltTs_kept {s0 : State} {s : State} (hs : Kept s0 s) :
    Kept s0 (State.readFltTs s) := by
  unfold State.readFltTs
  try dsimp only
  repeat' (first | with_reducible (first | assumption | apply State.set_kept | apply State.answerData_kept))

theorem execFloatStampCapture_kept {s0 : State} {s : State} (hs : Kept s0 s) :
    KeptR s0 (execFloatStampCapture s) := by
  unfold execFloatStampCapture
  try dsimp only
  repeat' (first | with_reducible (first | assumption | apply KeptR.next | apply KeptR.ite | apply KeptO.none | apply KeptO.some_id | apply KeptO.some | apply KeptO.ite | apply State.readFltTs_kept | apply State.answer_kept) | split)

end Sys2Proof.Machine
end

