-- ==== Sys2Proof/Laws/KeptEcc.lean ====
section
/-! SUPPORT. What every operation and meaning of Machine/Ecc.lean keeps (Laws/Kept.lean says what that is): one lemma for each. -/
set_option maxRecDepth 4000
set_option linter.unusedVariables false
namespace Sys2Proof.Machine

theorem State.wkSet_kept {s0 : State} {s : State} {k : Nat} {h : Field} {f : Field} {v : Nat} (hs : Kept s0 s) :
    Kept s0 (State.wkSet s k h f v) := by
  unfold State.wkSet
  try dsimp only
  repeat' (first | with_reducible (first | assumption | apply Kept.ite_fst | apply Kept.ite | apply State.set_kept))

theorem State.wkCount_kept {s0 : State} {s : State} {k : Nat} {h : Field} {f : Field} (hs : Kept s0 s) :
    Kept s0 (State.wkCount s k h f) := by
  unfold State.wkCount
  try dsimp only
  repeat' (first | with_reducible (first | assumption | apply Kept.ite_fst | apply Kept.ite | apply State.count_kept))

theorem State.setWalkPos_kept {s0 : State} {s : State} {k : Nat} {a : Nat} (hs : Kept s0 s) :
    Kept s0 (State.setWalkPos s k a) := by
  unfold State.setWalkPos
  try dsimp only
  repeat' (first | with_reducible (first | assumption | apply State.wkSet_kept))

theorem State.setCur_kept {s0 : State} {s : State} {k : Nat} {v : Nat} (hs : Kept s0 s) :
    Kept s0 (State.setCur s k v) := by
  unfold State.setCur
  try dsimp only
  repeat' (first | with_reducible (first | assumption | apply Kept.ite_fst | apply Kept.ite | apply State.wkSet_kept | apply State.used_kept))

theorem State.walkStart_kept {s0 : State} {s : State} {k : Nat} (hs : Kept s0 s) :
    Kept s0 (State.walkStart s k) := by
  unfold State.walkStart
  try dsimp only
  repeat' (first | with_reducible (first | assumption | apply Kept.ite_fst | apply Kept.ite | apply State.wkSet_kept | apply State.setWalkPos_kept | apply State.setCur_kept | apply State.setWalker_kept))

theorem State.walkWord_kept {s0 : State} {s : State} {k : Nat} {w : Nat} (hs : Kept s0 s) :
    Kept s0 (State.walkWord s k w) := by
  unfold State.walkWord
  try dsimp only
  repeat' (first | with_reducible (first | assumption | apply State.wkCount_kept | apply State.eccLog_kept | apply State.setWalker_kept | apply State.qdrIssued_kept) | split)

theorem State.walkOn1_kept {s0 : State} {s : State} {k : Nat} (hs : Kept s0 s) :
    Kept s0 (State.walkOn1 s k) := by
  unfold State.walkOn1
  try dsimp only
  repeat' (first | with_reducible (first | assumption | intro s x _ | intro s _ | intro x | apply Kept.foldl | apply Kept.foldl_fst | apply State.wkSet_kept | apply State.setWalkPos_kept | apply State.walkWord_kept | apply State.setWalker_kept) | split)

theorem State.walkStep_kept {s0 : State} {s : State} {k : Nat} (hs : Kept s0 s) :
    Kept s0 (State.walkStep s k) := by
  unfold State.walkStep
  try dsimp only
  repeat' (first | with_reducible (first | assumption | apply Kept.ite_fst | apply Kept.ite | apply State.walkStart_kept | apply State.walkWord_kept | apply State.walkOn1_kept | apply State.setWalker_kept) | split)

theorem execWalkStep_kept {s0 : State} {k : Fin 26} {s : State} (hs : Kept s0 s) :
    KeptR s0 (execWalkStep k s) := by
  unfold execWalkStep
  try dsimp only
  repeat' (first | with_reducible (first | assumption | apply KeptR.next | apply KeptR.ite | apply State.walkStep_kept))

theorem State.writeBack_kept {s0 : State} {s : State} {k : Nat} (hs : Kept s0 s) :
    Kept s0 (State.writeBack s k) := by
  unfold State.writeBack
  try dsimp only
  repeat' (first | with_reducible (first | assumption | apply State.putWord_kept | apply State.setWalker_kept | apply State.qdrIssued_kept) | split)

theorem execWalkerWriteBack_kept {s0 : State} {k : Fin 26} {s : State} (hs : Kept s0 s) :
    KeptR s0 (execWalkerWriteBack k s) := by
  unfold execWalkerWriteBack
  try dsimp only
  repeat' (first | with_reducible (first | assumption | apply KeptR.next | apply KeptR.ite | apply Kept.ite_fst | apply Kept.ite | apply State.writeBack_kept))

theorem State.walkEpoch_kept {s0 : State} {s : State} {k : Nat} (hs : Kept s0 s) :
    Kept s0 (State.walkEpoch s k) := by
  unfold State.walkEpoch
  try dsimp only
  repeat' (first | with_reducible (first | assumption | apply Kept.ite_fst | apply Kept.ite | apply State.wkSet_kept | apply State.wkCount_kept | apply State.setCur_kept | apply State.walkStart_kept | apply State.setWalker_kept))

theorem execWalkEpoch_kept {s0 : State} {k : Fin 26} {s : State} (hs : Kept s0 s) :
    KeptR s0 (execWalkEpoch k s) := by
  unfold execWalkEpoch
  try dsimp only
  repeat' (first | with_reducible (first | assumption | apply KeptR.next | apply KeptR.ite | apply Kept.ite_fst | apply Kept.ite | apply State.walkEpoch_kept | apply State.setWalker_kept))

theorem State.retryWaiting_kept {s0 : State} {s : State} (hs : Kept s0 s) :
    Kept s0 (State.retryWaiting s) := by
  unfold State.retryWaiting
  try dsimp only
  repeat' (first | with_reducible (first | assumption | intro s x _ | intro s _ | intro x | apply Kept.foldl | apply Kept.foldl_fst | apply KeptC.of_state | apply KeptC.csr_set | apply KeptC.tags_put | apply KeptC.tags_drop | apply KeptC.out_append | apply State.perform_kept) | simp only [Kept.mk_iff])

theorem State.zeroRange_kept {s0 : State} {s : State} {a : Nat} {b : Nat} (hs : Kept s0 s) :
    Kept s0 (State.zeroRange s a b) := by
  exact KeptC.zero hs

theorem State.finishRegion_kept {s0 : State} {s : State} {r : Nat} (hs : Kept s0 s) :
    Kept s0 (State.finishRegion s r) := by
  unfold State.finishRegion
  dsimp only
  apply State.retryWaiting_kept
  apply State.setRegion_kept
  exact KeptC.fog (f := s.fog) (f' := Store.drop r s.fog) (fun k hk => by simp [Store.get, Store.find_drop_ne hk]) hs

theorem execAutomaticInitRegionDone_kept {s0 : State} {b : Fin 17} {s : State} (hs : Kept s0 s) :
    KeptR s0 (execAutomaticInitRegionDone b s) := by
  unfold execAutomaticInitRegionDone
  try dsimp only
  repeat' (first | with_reducible (first | assumption | apply KeptR.next | apply KeptR.ite | apply State.finishRegion_kept | apply State.autoNext_kept | apply State.qdrIssued_kept) | split)

theorem State.rangePass_kept {s0 : State} {s : State} {u : Nat} {mode : Nat} {mem : Nat} {entry : Nat} {src : Nat} (hs : Kept s0 s) :
    Kept s0 (State.rangePass s u mode mem entry src) := by
  unfold State.rangePass
  try dsimp only
  repeat' (first | with_reducible (first | assumption | apply Kept.ite_fst | apply Kept.ite | apply KeptO.none | apply KeptO.some_id | apply KeptO.some | apply KeptO.ite | apply KeptC.of_state | apply KeptC.csr_set | apply KeptC.tags_put | apply KeptC.tags_drop | apply KeptC.out_append | apply State.opBegin_kept | apply State.opRefuse_kept | apply State.setRegion_kept | apply State.raise_kept) | simp only [Kept.mk_iff] | split)

theorem State.writeRp_kept {s0 : State} {s : State} {u : Nat} {v : Nat} {src : Nat} (hs : Kept s0 s) :
    Kept s0 (State.writeRp s u v src) := by
  unfold State.writeRp
  try dsimp only
  repeat' (first | with_reducible (first | assumption | apply Kept.ite_fst | apply Kept.ite | apply State.rangePass_kept))

theorem State.rangeCmd_kept {s0 : State} {s : State} {u : Fin 9} {mode : Nat} {mem : Fin 4} {e : Fin 1024} {src : Nat} (hs : Kept s0 s) :
    KeptR s0 (State.rangeCmd s u mode mem e src) := by
  unfold State.rangeCmd
  try dsimp only
  repeat' (first | with_reducible (first | assumption | intro s x _ | intro s _ | intro x | apply KeptR.next | apply KeptR.ite | apply Kept.ite_fst | apply Kept.ite | apply State.rangePass_kept | apply State.access_kept))

theorem execCheck_kept {s0 : State} {u : Fin 9} {mem : Fin 4} {e : Fin 1024} {src : Fin 4096} {s : State} (hs : Kept s0 s) :
    KeptR s0 (execCheck u mem e src s) := by
  unfold execCheck
  try dsimp only
  repeat' (first | with_reducible (first | assumption | apply KeptR.next | apply KeptR.ite | apply State.rangeCmd_kept))

theorem execScrub_kept {s0 : State} {u : Fin 9} {mem : Fin 4} {e : Fin 1024} {src : Fin 4096} {s : State} (hs : Kept s0 s) :
    KeptR s0 (execScrub u mem e src s) := by
  unfold execScrub
  try dsimp only
  repeat' (first | with_reducible (first | assumption | apply KeptR.next | apply KeptR.ite | apply State.rangeCmd_kept))

theorem execInit_kept {s0 : State} {u : Fin 9} {mem : Fin 4} {e : Fin 1024} {src : Fin 4096} {s : State} (hs : Kept s0 s) :
    KeptR s0 (execInit u mem e src s) := by
  unfold execInit
  try dsimp only
  repeat' (first | with_reducible (first | assumption | apply KeptR.next | apply KeptR.ite | apply State.rangeCmd_kept))

theorem State.rangeWord_kept {s0 : State} {s : State} {u : Nat} {w : Nat} {p : RangeSt} (hs : Kept s0 s) :
    Kept s0 (State.rangeWord s u w p).1 := by
  unfold State.rangeWord
  try dsimp only
  repeat' (first | with_reducible (first | assumption | apply Kept.ite_fst | apply Kept.ite | apply KeptO.none | apply KeptO.some_id | apply KeptO.some | apply KeptO.ite | apply State.wkCount_kept | apply State.putWord_kept | apply State.eccLog_kept | apply State.qdrIssued_kept) | split | dsimp only)

theorem State.rangeInit_kept {s0 : State} {s : State} {a : Nat} {b : Nat} (hs : Kept s0 s) :
    Kept s0 (State.rangeInit s a b) := by
  unfold State.rangeInit
  try dsimp only
  repeat' (first | with_reducible (first | assumption | intro s x _ | intro s _ | intro x | apply Kept.ite_fst | apply Kept.ite | apply KeptO.none | apply KeptO.some_id | apply KeptO.some | apply KeptO.ite | apply Kept.foldl | apply Kept.foldl_fst | apply State.zeroRange_kept | apply State.finishRegion_kept | apply State.setRegion_kept) | split)

theorem State.rangeStep_kept {s0 : State} {s : State} {u : Nat} {p : RangeSt} (hs : Kept s0 s) :
    Kept s0 (State.rangeStep s u p) := by
  unfold State.rangeStep
  try dsimp only
  repeat' (first | with_reducible (first | assumption | intro s x _ | intro s _ | intro x | apply Kept.ite_fst | apply Kept.ite | apply Kept.foldl | apply Kept.foldl_fst | apply KeptC.of_state | apply KeptC.csr_set | apply KeptC.tags_put | apply KeptC.tags_drop | apply KeptC.out_append | apply State.rangeWord_kept | apply State.rangeInit_kept | apply State.opMove_kept | apply State.qdrIssued_kept | refine Kept.of_fst (by assumption) ?_) | simp only [Kept.mk_iff] | split)

theorem execRangePassStep_kept {s0 : State} {u : Fin 9} {s : State} (hs : Kept s0 s) :
    KeptR s0 (execRangePassStep u s) := by
  unfold execRangePassStep
  try dsimp only
  repeat' (first | with_reducible (first | assumption | apply KeptR.next | apply KeptR.ite | apply KeptO.none | apply KeptO.some_id | apply KeptO.some | apply KeptO.ite | apply State.rangeStep_kept) | split)

theorem State.fogRegion_kept {s0 : State} {s : State} {r : Nat} (hs : Kept s0 s) :
    Kept s0 (State.fogRegion s r) := by
  exact KeptC.fog (f := s.fog) (f' := Store.put r (s.free + 1) s.fog)
    (fun k hk => by simp [Store.get, Store.find_put_ne hk]) hs

theorem State.setCode_kept {s0 : State} {s : State} {r : Nat} {c : Nat} (hs : Kept s0 s) :
    Kept s0 (State.setCode s r c) := by
  unfold State.setCode
  try dsimp only
  repeat' (first | with_reducible (first | assumption | apply Kept.ite_fst | apply Kept.ite | apply State.set_kept))

theorem State.writeCode_kept {s0 : State} {s : State} {b : Nat} {r : Nat} {c : Nat} (hs : Kept s0 s) :
    Kept s0 (State.writeCode s b r c) := by
  unfold State.writeCode
  try dsimp only
  repeat' (first | with_reducible (first | assumption | apply Kept.ite_fst | apply Kept.ite | apply State.fogRegion_kept | apply State.setCode_kept | apply State.setRegion_kept | apply State.raise_kept))

theorem State.writeRegion_kept {s0 : State} {s : State} {b : Nat} {i : Nat} {v : Nat} (hs : Kept s0 s) :
    Kept s0 (State.writeRegion s b i v) := by
  unfold State.writeRegion
  try dsimp only
  repeat' (first | with_reducible (first | assumption | intro s x _ | intro s _ | intro x | apply Kept.foldl | apply Kept.foldl_fst | apply State.writeCode_kept))

theorem execRegionCodeWrite_kept {s0 : State} {b : Fin 17} {i : Fin 288} {v : Word} {s : State} (hs : Kept s0 s) :
    KeptR s0 (execRegionCodeWrite b i v s) := by
  unfold execRegionCodeWrite
  try dsimp only
  repeat' (first | with_reducible (first | assumption | intro s x _ | intro s _ | intro x | apply KeptR.next | apply KeptR.ite | apply Kept.ite_fst | apply Kept.ite | apply State.writeRegion_kept | apply State.access_kept))

theorem State.frameScan_kept {s0 : State} {s : State} {n : Nat} {f : FrameFound} {p : Nat} (hs : Kept s0 s) :
    Kept s0 (State.frameScan s n f p) := by
  unfold State.frameScan
  try dsimp only
  repeat' (first | with_reducible (first | assumption | apply Kept.ite_fst | apply Kept.ite | apply State.set_kept | apply State.raise_kept | apply State.count_kept | apply State.wrap_kept | apply State.setBitOf_kept) | split)

theorem execFrameScan_kept {s0 : State} {n : FieldId} {f : FrameFound} {p : Fin 13} {s : State} (hs : Kept s0 s) :
    KeptR s0 (execFrameScan n f p s) := by
  unfold execFrameScan
  try dsimp only
  repeat' (first | with_reducible (first | assumption | apply KeptR.next | apply KeptR.ite | apply Kept.ite_fst | apply Kept.ite | apply KeptC.of_state | apply KeptC.csr_set | apply KeptC.tags_put | apply KeptC.tags_drop | apply KeptC.out_append | apply State.frameScan_kept) | simp only [Kept.mk_iff])

theorem State.reload_kept {s0 : State} {s : State} {fs : List Field} {n : Nat} {ofs : Nat} {lo : Nat} (hs : Kept s0 s) :
    Kept s0 (State.reload s fs n ofs lo) := by
  unfold State.reload
  try dsimp only
  repeat' (first | with_reducible (first | assumption | intro s x _ | intro s _ | intro x | apply Kept.ite_fst | apply Kept.ite | apply Kept.foldl | apply Kept.foldl_fst | apply State.set_kept))

theorem State.tmrVote_kept {s0 : State} {s : State} {u : Nat} {ofs : Nat} {lo : Option Nat} (hs : Kept s0 s) :
    Kept s0 (State.tmrVote s u ofs lo) := by
  unfold State.tmrVote
  try dsimp only
  repeat' (first | with_reducible (first | assumption | apply Kept.ite_fst | apply Kept.ite | apply State.reload_kept | apply State.set_kept | apply State.raise_kept | apply State.count_kept | apply State.logEvent_kept) | split)

theorem execTmrVote_kept {s0 : State} {u : Fin 9} {ofs : Fin 65536} {lo : Option (Fin 32)} {s : State} (hs : Kept s0 s) :
    KeptR s0 (execTmrVote u ofs lo s) := by
  unfold execTmrVote
  try dsimp only
  repeat' (first | with_reducible (first | assumption | apply KeptR.next | apply KeptR.ite | apply KeptO.map | apply State.tmrVote_kept))

end Sys2Proof.Machine
end

