-- ==== Sys2Proof/Laws/KeptFurrow.lean ====
section
/-! SUPPORT. What every operation and meaning of Machine/Furrow.lean keeps (Laws/Kept.lean says what that is): one lemma for each. -/
set_option maxRecDepth 4000
set_option linter.unusedVariables false
namespace Sys2Proof.Machine

theorem State.furRefuse_kept {s0 : State} {s : State} {l : Nat} (hs : Kept s0 s) :
    Kept s0 (State.furRefuse s l) := by
  unfold State.furRefuse
  try dsimp only
  repeat' (first | with_reducible (first | assumption | apply State.raise_kept))

theorem State.furOwn_kept {s0 : State} {s : State} {l : Nat} {own : Bool} (hs : Kept s0 s) :
    Kept s0 (State.furOwn s l own) := by
  unfold State.furOwn
  try dsimp only
  repeat' (first | with_reducible (first | assumption | apply Kept.ite_fst | apply Kept.ite | apply State.furRefuse_kept | apply State.setB_kept))

theorem State.furLoad_kept {s0 : State} {s : State} {l : Nat} (hs : Kept s0 s) :
    Kept s0 (State.furLoad s l) := by
  unfold State.furLoad
  try dsimp only
  repeat' (first | with_reducible (first | assumption | apply Kept.ite_fst | apply Kept.ite | apply State.furRefuse_kept | apply State.set_kept | apply State.wakeQuad_kept))

theorem State.furReset_kept {s0 : State} {s : State} {l : Nat} (hs : Kept s0 s) :
    Kept s0 (State.furReset s l) := by
  unfold State.furReset
  try dsimp only
  repeat' (first | with_reducible (first | assumption | intro s x _ | intro s _ | intro x | apply Kept.foldl | apply Kept.foldl_fst | apply State.set_kept | apply State.setFur_kept))

theorem State.furArm_kept {s0 : State} {s : State} {l : Nat} (hs : Kept s0 s) :
    Kept s0 (State.furArm s l) := by
  unfold State.furArm
  try dsimp only
  repeat' (first | with_reducible (first | assumption | apply Kept.ite_fst | apply Kept.ite | apply State.furRefuse_kept | apply State.furReset_kept | apply State.set_kept | apply State.wakeQuad_kept))

theorem State.furRun_kept {s0 : State} {s : State} {l : Nat} {launch : Nat} (hs : Kept s0 s) :
    Kept s0 (State.furRun s l launch) := by
  unfold State.furRun
  try dsimp only
  repeat' (first | with_reducible (first | assumption | apply State.set_kept | apply State.setFur_kept))

theorem State.furGo_kept {s0 : State} {s : State} {l : Nat} (hs : Kept s0 s) :
    Kept s0 (State.furGo s l) := by
  unfold State.furGo
  try dsimp only
  repeat' (first | with_reducible (first | assumption | apply Kept.ite_fst | apply Kept.ite | apply State.furRefuse_kept | apply State.furRun_kept))

theorem State.furEnd_kept {s0 : State} {s : State} {l : Nat} (hs : Kept s0 s) :
    Kept s0 (State.furEnd s l) := by
  unfold State.furEnd
  try dsimp only
  repeat' (first | with_reducible (first | assumption | apply State.set_kept | apply State.setFur_kept))

theorem State.furStop_kept {s0 : State} {s : State} {l : Nat} (hs : Kept s0 s) :
    Kept s0 (State.furStop s l) := by
  unfold State.furStop
  try dsimp only
  repeat' (first | with_reducible (first | assumption | apply Kept.ite_fst | apply Kept.ite | apply State.furRefuse_kept | apply State.furEnd_kept | apply State.setFur_kept))

theorem State.furAbort_kept {s0 : State} {s : State} {l : Nat} (hs : Kept s0 s) :
    Kept s0 (State.furAbort s l) := by
  unfold State.furAbort
  try dsimp only
  repeat' (first | with_reducible (first | assumption | apply Kept.ite_fst | apply Kept.ite | apply State.furRefuse_kept | apply State.furEnd_kept | apply State.furBreak_kept))

theorem State.furDisarm_kept {s0 : State} {s : State} {l : Nat} (hs : Kept s0 s) :
    Kept s0 (State.furDisarm s l) := by
  unfold State.furDisarm
  try dsimp only
  repeat' (first | with_reducible (first | assumption | apply Kept.ite_fst | apply Kept.ite | apply State.furRefuse_kept | apply State.set_kept))

theorem State.writeFurCtrl_kept {s0 : State} {s : State} {l : Nat} {v : Nat} (hs : Kept s0 s) :
    Kept s0 (State.writeFurCtrl s l v) := by
  unfold State.writeFurCtrl
  try dsimp only
  repeat' (first | with_reducible (first | assumption | apply Kept.ite_fst | apply Kept.ite | apply State.furRefuse_kept | apply State.furOwn_kept | apply State.furLoad_kept | apply State.furArm_kept | apply State.furGo_kept | apply State.furStop_kept | apply State.furAbort_kept | apply State.furDisarm_kept | apply State.setB_kept) | split)

theorem execFurrowOwnSelect_kept {s0 : State} {l : LaneId} {own : Bool} {s : State} (hs : Kept s0 s) :
    KeptR s0 (execFurrowOwnSelect l own s) := by
  unfold execFurrowOwnSelect
  try dsimp only
  repeat' (first | with_reducible (first | assumption | intro s x _ | intro s _ | intro x | apply KeptR.next | apply KeptR.ite | apply State.furOwn_kept | apply State.access_kept))

theorem execFurrowLoad_kept {s0 : State} {l : LaneId} {s : State} (hs : Kept s0 s) :
    KeptR s0 (execFurrowLoad l s) := by
  unfold execFurrowLoad
  try dsimp only
  repeat' (first | with_reducible (first | assumption | intro s x _ | intro s _ | intro x | apply KeptR.next | apply KeptR.ite | apply State.furLoad_kept | apply State.access_kept))

theorem execFurrowArm_kept {s0 : State} {l : LaneId} {s : State} (hs : Kept s0 s) :
    KeptR s0 (execFurrowArm l s) := by
  unfold execFurrowArm
  try dsimp only
  repeat' (first | with_reducible (first | assumption | intro s x _ | intro s _ | intro x | apply KeptR.next | apply KeptR.ite | apply State.furArm_kept | apply State.access_kept))

theorem execFurrowGo_kept {s0 : State} {l : LaneId} {s : State} (hs : Kept s0 s) :
    KeptR s0 (execFurrowGo l s) := by
  unfold execFurrowGo
  try dsimp only
  repeat' (first | with_reducible (first | assumption | intro s x _ | intro s _ | intro x | apply KeptR.next | apply KeptR.ite | apply State.furGo_kept | apply State.access_kept))

theorem execFurrowStop_kept {s0 : State} {l : LaneId} {s : State} (hs : Kept s0 s) :
    KeptR s0 (execFurrowStop l s) := by
  unfold execFurrowStop
  try dsimp only
  repeat' (first | with_reducible (first | assumption | intro s x _ | intro s _ | intro x | apply KeptR.next | apply KeptR.ite | apply State.furStop_kept | apply State.access_kept))

theorem execFurrowAbort_kept {s0 : State} {l : LaneId} {s : State} (hs : Kept s0 s) :
    KeptR s0 (execFurrowAbort l s) := by
  unfold execFurrowAbort
  try dsimp only
  repeat' (first | with_reducible (first | assumption | intro s x _ | intro s _ | intro x | apply KeptR.next | apply KeptR.ite | apply State.furAbort_kept | apply State.access_kept))

theorem execFurrowDisarm_kept {s0 : State} {l : LaneId} {s : State} (hs : Kept s0 s) :
    KeptR s0 (execFurrowDisarm l s) := by
  unfold execFurrowDisarm
  try dsimp only
  repeat' (first | with_reducible (first | assumption | intro s x _ | intro s _ | intro x | apply KeptR.next | apply KeptR.ite | apply State.furDisarm_kept | apply State.access_kept))

theorem State.furFetch_kept {s0 : State} {s : State} {l : Nat} {a : Nat} {x3 : Nat} (hs : Kept s0 s) :
    Kept s0 (State.furFetch s l a x3).1 := by
  revert hs
  induction x3 generalizing s l a with
  | zero =>
    intro hs; unfold State.furFetch; try dsimp only
    repeat' (first | with_reducible (first | assumption | apply Kept.ite_fst | apply Kept.ite | apply KeptO.none | apply KeptO.some_id | apply KeptO.some | apply KeptO.ite | apply State.netRead_kept | refine Kept.of_fst (by assumption) ?_) | split | dsimp only)
  | succ n ih =>
    intro hs; unfold State.furFetch; try dsimp only
    repeat' (first | with_reducible (first | assumption | apply Kept.ite_fst | apply Kept.ite | apply KeptO.none | apply KeptO.some_id | apply KeptO.some | apply KeptO.ite | apply ih | apply State.netRead_kept | refine Kept.of_fst (by assumption) ?_) | split | dsimp only)

theorem State.furLoadDone_kept {s0 : State} {s : State} {l : Nat} (hs : Kept s0 s) :
    Kept s0 (State.furLoadDone s l) := by
  unfold State.furLoadDone
  try dsimp only
  repeat' (first | with_reducible (first | assumption | apply Kept.ite_fst | apply Kept.ite | apply KeptO.none | apply KeptO.some_id | apply KeptO.some | apply KeptO.ite | apply State.furFetch_kept | apply State.set_kept | apply State.setFur_kept | refine Kept.of_fst (by assumption) ?_) | split)

theorem execFurrowLoadDone_kept {s0 : State} {l : LaneId} {s : State} (hs : Kept s0 s) :
    KeptR s0 (execFurrowLoadDone l s) := by
  unfold execFurrowLoadDone
  try dsimp only
  repeat' (first | with_reducible (first | assumption | apply KeptR.next | apply KeptR.ite | apply Kept.ite_fst | apply Kept.ite | apply State.furLoadDone_kept))

theorem execFurrowPrimed_kept {s0 : State} {l : LaneId} {s : State} (hs : Kept s0 s) :
    KeptR s0 (execFurrowPrimed l s) := by
  unfold execFurrowPrimed
  try dsimp only
  repeat' (first | with_reducible (first | assumption | apply KeptR.next | apply KeptR.ite | apply Kept.ite_fst | apply Kept.ite | apply State.set_kept))

theorem execFurrowLaunch_kept {s0 : State} {l : LaneId} {s : State} (hs : Kept s0 s) :
    KeptR s0 (execFurrowLaunch l s) := by
  unfold execFurrowLaunch
  try dsimp only
  repeat' (first | with_reducible (first | assumption | apply KeptR.next | apply KeptR.ite | apply Kept.ite_fst | apply Kept.ite | apply State.furRun_kept))

theorem execFurrowDone_kept {s0 : State} {l : LaneId} {s : State} (hs : Kept s0 s) :
    KeptR s0 (execFurrowDone l s) := by
  unfold execFurrowDone
  try dsimp only
  repeat' (first | with_reducible (first | assumption | apply KeptR.next | apply KeptR.ite | apply Kept.ite_fst | apply Kept.ite | apply State.furEnd_kept))

theorem execFurrowSourceError_kept {s0 : State} {l : LaneId} {s : State} (hs : Kept s0 s) :
    KeptR s0 (execFurrowSourceError l s) := by
  unfold execFurrowSourceError
  try dsimp only
  repeat' (first | with_reducible (first | assumption | apply KeptR.next | apply KeptR.ite | apply State.furFault_kept))

theorem State.furGoto_kept {s0 : State} {s : State} {l : Nat} {pc : Nat} (hs : Kept s0 s) :
    Kept s0 (State.furGoto s l pc) := by
  unfold State.furGoto
  try dsimp only
  repeat' (first | with_reducible (first | assumption | apply Kept.ite_fst | apply Kept.ite | apply State.set_kept | apply State.setFur_kept))

theorem State.furNext_kept {s0 : State} {s : State} {l : Nat} (hs : Kept s0 s) :
    Kept s0 (State.furNext s l) := by
  unfold State.furNext
  try dsimp only
  repeat' (first | with_reducible (first | assumption | apply Kept.ite_fst | apply Kept.ite | apply KeptO.none | apply KeptO.some_id | apply KeptO.some | apply KeptO.ite | apply State.furGoto_kept | apply State.setFur_kept) | split)

theorem State.furStep_kept {s0 : State} {s : State} {l : Nat} {f : FurInstr → Option State} {waits : Bool} (hs : Kept s0 s) (hf : ∀ i, KeptO id s0 (f i)) :
    KeptR s0 (State.furStep s l f waits) := by
  unfold State.furStep
  apply KeptR.next
  split
  · cases hi : State.furInstr s l with
    | none => exact hs
    | some i =>
      simp only [Option.bind_some]
      cases hj : f i with
      | none => exact hs
      | some t => exact hf i t hj
  · exact hs

theorem State.setFurRegs_kept {s0 : State} {s : State} {l : Nat} {r : FurRegs} (hs : Kept s0 s) :
    Kept s0 (State.setFurRegs s l r) := by
  unfold State.setFurRegs
  try dsimp only
  repeat' (first | with_reducible (first | assumption | apply State.setFur_kept))

theorem execFurNop_kept {s0 : State} {l : LaneId} {s : State} (hs : Kept s0 s) :
    KeptR s0 (execFurNop l s) := by
  unfold execFurNop
  try dsimp only
  repeat' (first | with_reducible (first | assumption | intro s x _ | intro s _ | intro x | apply KeptR.next | apply KeptR.ite | apply KeptO.none | apply KeptO.some_id | apply KeptO.some | apply KeptO.ite | apply State.furNext_kept | apply State.furStep_kept) | split)

theorem State.furPiece_kept {s0 : State} {s : State} {l : Nat} {d : Nat} {a : Nat} {len : Nat} (hs : Kept s0 s) :
    Kept s0 (State.furPiece s l d a len).1 := by
  unfold State.furPiece
  try dsimp only
  repeat' (first | with_reducible (first | assumption | apply Kept.ite_fst | apply Kept.ite | apply KeptO.none | apply KeptO.some_id | apply KeptO.some | apply KeptO.ite | apply State.netRead_kept) | dsimp only)

theorem State.furRead_kept {s0 : State} {s : State} {l : Nat} {d : Nat} {off : Nat} {len : Nat} {x5 : Nat} (hs : Kept s0 s) :
    Kept s0 (State.furRead s l d off len x5).1 := by
  revert hs
  induction x5 generalizing s l d off len with
  | zero =>
    intro hs; unfold State.furRead; try dsimp only
    repeat' (first | with_reducible (first | assumption | apply Kept.ite_fst | apply Kept.ite | apply State.furPiece_kept | refine Kept.of_fst (by assumption) ?_) | split | dsimp only)
  | succ n ih =>
    intro hs; unfold State.furRead; try dsimp only
    repeat' (first | with_reducible (first | assumption | apply Kept.ite_fst | apply Kept.ite | apply ih | apply State.furPiece_kept | refine Kept.of_fst (by assumption) ?_) | split | dsimp only)

theorem State.furPattern_kept {s0 : State} {s : State} {l : Nat} {d : Nat} {off : Nat} {n : Nat} (hs : Kept s0 s) :
    Kept s0 (State.furPattern s l d off n) := by
  unfold State.furPattern
  try dsimp only
  repeat' (first | with_reducible (first | assumption | apply Kept.ite_fst | apply Kept.ite | apply State.emit_kept))

theorem State.furSendAt_kept {s0 : State} {s : State} {l : Nat} {d : Nat} {more : Bool} {cur : Bool} {off : Nat} {len : Nat} {data : List Byte} (hs : Kept s0 s) :
    Kept s0 (State.furSendAt s l d more cur off len data) := by
  unfold State.furSendAt
  try dsimp only
  repeat' (first | with_reducible (first | assumption | apply Kept.ite_fst | apply Kept.ite | apply State.furNext_kept | apply State.furRead_kept | apply State.furPattern_kept | apply State.setFur_kept | apply State.furFault_kept | refine Kept.of_fst (by assumption) ?_) | split)

theorem execFurSend_kept {s0 : State} {l : LaneId} {data : List Byte} {s : State} (hs : Kept s0 s) :
    KeptR s0 (execFurSend l data s) := by
  unfold execFurSend
  try dsimp only
  repeat' (first | with_reducible (first | assumption | intro s x _ | intro s _ | intro x | apply KeptR.next | apply KeptR.ite | apply KeptO.none | apply KeptO.some_id | apply KeptO.some | apply KeptO.ite | apply State.furStep_kept | apply State.furSendAt_kept) | split)

theorem execFurRepeat_kept {s0 : State} {l : LaneId} {s : State} (hs : Kept s0 s) :
    KeptR s0 (execFurRepeat l s) := by
  unfold execFurRepeat
  try dsimp only
  repeat' (first | with_reducible (first | assumption | intro s x _ | intro s _ | intro x | apply KeptR.next | apply KeptR.ite | apply Kept.ite_fst | apply Kept.ite | apply KeptO.none | apply KeptO.some_id | apply KeptO.some | apply KeptO.ite | apply State.furGoto_kept | apply State.furStep_kept | apply State.setFur_kept) | split)

theorem execWaitTime_kept {s0 : State} {l : LaneId} {s : State} (hs : Kept s0 s) :
    KeptR s0 (execWaitTime l s) := by
  unfold execWaitTime
  try dsimp only
  repeat' (first | with_reducible (first | assumption | intro s x _ | intro s _ | intro x | apply KeptR.next | apply KeptR.ite | apply KeptO.none | apply KeptO.some_id | apply KeptO.some | apply KeptO.ite | apply State.furNext_kept | apply State.furStep_kept | apply State.setFur_kept) | split)

theorem execWaitTimeElapsed_kept {s0 : State} {l : LaneId} {s : State} (hs : Kept s0 s) :
    KeptR s0 (execWaitTimeElapsed l s) := by
  unfold execWaitTimeElapsed
  try dsimp only
  repeat' (first | with_reducible (first | assumption | apply KeptR.next | apply KeptR.ite | apply Kept.ite_fst | apply Kept.ite | apply KeptO.none | apply KeptO.some_id | apply KeptO.some | apply KeptO.ite | apply State.setFur_kept) | split)

theorem execWaitFloat_kept {s0 : State} {l : LaneId} {s : State} (hs : Kept s0 s) :
    KeptR s0 (execWaitFloat l s) := by
  unfold execWaitFloat
  try dsimp only
  repeat' (first | with_reducible (first | assumption | intro s x _ | intro s _ | intro x | apply KeptR.next | apply KeptR.ite | apply KeptO.none | apply KeptO.some_id | apply KeptO.some | apply KeptO.ite | apply State.furNext_kept | apply State.furStep_kept | apply State.setFur_kept) | split)

theorem execWaitFloatTimeout_kept {s0 : State} {l : LaneId} {s : State} (hs : Kept s0 s) :
    KeptR s0 (execWaitFloatTimeout l s) := by
  unfold execWaitFloatTimeout
  try dsimp only
  repeat' (first | with_reducible (first | assumption | intro s x _ | intro s _ | intro x | apply KeptR.next | apply KeptR.ite | apply Kept.ite_fst | apply Kept.ite | apply KeptO.none | apply KeptO.some_id | apply KeptO.some | apply KeptO.ite | apply Kept.foldl | apply Kept.foldl_fst | apply State.furGoto_kept | apply State.set_kept | apply State.raise_kept | apply State.setFur_kept) | split)

theorem execJump_kept {s0 : State} {l : LaneId} {s : State} (hs : Kept s0 s) :
    KeptR s0 (execJump l s) := by
  unfold execJump
  try dsimp only
  repeat' (first | with_reducible (first | assumption | intro s x _ | intro s _ | intro x | apply KeptR.next | apply KeptR.ite | apply KeptO.none | apply KeptO.some_id | apply KeptO.some | apply KeptO.ite | apply State.furGoto_kept | apply State.furStep_kept) | split)

theorem execLoop_kept {s0 : State} {l : LaneId} {s : State} (hs : Kept s0 s) :
    KeptR s0 (execLoop l s) := by
  unfold execLoop
  try dsimp only
  repeat' (first | with_reducible (first | assumption | intro s x _ | intro s _ | intro x | apply KeptR.next | apply KeptR.ite | apply Kept.ite_fst | apply Kept.ite | apply KeptO.none | apply KeptO.some_id | apply KeptO.some | apply KeptO.ite | apply State.furGoto_kept | apply State.furStep_kept | apply State.set_kept) | split)

theorem execInsertCounter_kept {s0 : State} {l : LaneId} {s : State} (hs : Kept s0 s) :
    KeptR s0 (execInsertCounter l s) := by
  unfold execInsertCounter
  try dsimp only
  repeat' (first | with_reducible (first | assumption | intro s x _ | intro s _ | intro x | apply KeptR.next | apply KeptR.ite | apply Kept.ite_fst | apply Kept.ite | apply KeptO.none | apply KeptO.some_id | apply KeptO.some | apply KeptO.ite | apply State.furNext_kept | apply State.furStep_kept | apply State.setFurRegs_kept) | split)

theorem execInsertTimestamp_kept {s0 : State} {l : LaneId} {s : State} (hs : Kept s0 s) :
    KeptR s0 (execInsertTimestamp l s) := by
  unfold execInsertTimestamp
  try dsimp only
  repeat' (first | with_reducible (first | assumption | intro s x _ | intro s _ | intro x | apply KeptR.next | apply KeptR.ite | apply KeptO.none | apply KeptO.some_id | apply KeptO.some | apply KeptO.ite | apply State.furNext_kept | apply State.furStep_kept | apply State.setFurRegs_kept) | split)

theorem execRecomputeFcs_kept {s0 : State} {l : LaneId} {s : State} (hs : Kept s0 s) :
    KeptR s0 (execRecomputeFcs l s) := by
  unfold execRecomputeFcs
  try dsimp only
  repeat' (first | with_reducible (first | assumption | intro s x _ | intro s _ | intro x | apply KeptR.next | apply KeptR.ite | apply KeptO.none | apply KeptO.some_id | apply KeptO.some | apply KeptO.ite | apply State.furNext_kept | apply State.furStep_kept | apply State.setFurRegs_kept) | split)

theorem execInject_kept {s0 : State} {l : LaneId} {s : State} (hs : Kept s0 s) :
    KeptR s0 (execInject l s) := by
  unfold execInject
  try dsimp only
  repeat' (first | with_reducible (first | assumption | intro s x _ | intro s _ | intro x | apply KeptR.next | apply KeptR.ite | apply Kept.ite_fst | apply Kept.ite | apply KeptO.none | apply KeptO.some_id | apply KeptO.some | apply KeptO.ite | apply State.furNext_kept | apply State.furStep_kept | apply State.setFurRegs_kept) | split)

theorem execFurHalt_kept {s0 : State} {l : LaneId} {s : State} (hs : Kept s0 s) :
    KeptR s0 (execFurHalt l s) := by
  unfold execFurHalt
  try dsimp only
  repeat' (first | with_reducible (first | assumption | intro s x _ | intro s _ | intro x | apply KeptR.next | apply KeptR.ite | apply KeptO.none | apply KeptO.some_id | apply KeptO.some | apply KeptO.ite | apply State.furStep_kept | apply State.setFur_kept) | split)

theorem State.furStart_kept {s0 : State} {s : State} {l : Nat} {mode : Nat} {t : Nat} (hs : Kept s0 s) :
    Kept s0 (State.furStart s l mode t) := by
  unfold State.furStart
  try dsimp only
  repeat' (first | with_reducible (first | assumption | apply Kept.ite_fst | apply Kept.ite | apply KeptO.none | apply KeptO.some_id | apply KeptO.some | apply KeptO.ite | apply State.raise_kept | apply State.count_kept | apply State.wrap2_kept | apply State.setFur_kept))

theorem execFrameStart_kept {s0 : State} {l : LaneId} {s : State} (hs : Kept s0 s) :
    KeptR s0 (execFrameStart l s) := by
  unfold execFrameStart
  try dsimp only
  repeat' (first | with_reducible (first | assumption | apply KeptR.next | apply KeptR.ite | apply Kept.ite_fst | apply Kept.ite | apply KeptO.none | apply KeptO.some_id | apply KeptO.some | apply KeptO.ite | apply State.furStart_kept | apply State.used_kept | apply State.setPort_kept) | split)

theorem State.furUnderrun_kept {s0 : State} {s : State} {l : Nat} {mid : Bool} (hs : Kept s0 s) :
    Kept s0 (State.furUnderrun s l mid) := by
  unfold State.furUnderrun
  try dsimp only
  repeat' (first | with_reducible (first | assumption | apply Kept.ite_fst | apply Kept.ite | apply State.raise_kept | apply State.count_kept | apply State.furBreak_kept))

theorem execUnderrun_kept {s0 : State} {l : LaneId} {mid : Bool} {s : State} (hs : Kept s0 s) :
    KeptR s0 (execUnderrun l mid s) := by
  unfold execUnderrun
  try dsimp only
  repeat' (first | with_reducible (first | assumption | apply KeptR.next | apply KeptR.ite | apply Kept.ite_fst | apply Kept.ite | apply State.furUnderrun_kept))

end Sys2Proof.Machine
end

