-- ==== Sys2Proof/Laws/KeptLanes.lean ====
section
/-! SUPPORT. What every operation and meaning of Machine/Lanes.lean keeps (Laws/Kept.lean says what that is): one lemma for each. -/
set_option maxRecDepth 4000
set_option linter.unusedVariables false
namespace Sys2Proof.Machine

theorem State.showEntry_kept {s0 : State} {s : State} {l : Nat} (hs : Kept s0 s) :
    Kept s0 (State.showEntry s l) := by
  unfold State.showEntry
  try dsimp only
  repeat' (first | with_reducible (first | assumption | intro s x _ | intro s _ | intro x | apply Kept.foldl | apply Kept.foldl_fst | apply State.set_kept))

theorem State.checkTable_kept {s0 : State} {s : State} {n : Nat} (hs : Kept s0 s) :
    Kept s0 (State.checkTable s n) := by
  unfold State.checkTable
  try dsimp only
  repeat' (first | with_reducible (first | assumption | intro s x _ | intro s _ | intro x | apply Kept.foldl | apply Kept.foldl_fst | apply State.showEntry_kept | apply State.setB_kept | apply State.setField_kept))

theorem State.waitPll_kept {s0 : State} {s : State} {l : Nat} {quiet : Bool} (hs : Kept s0 s) :
    Kept s0 (State.waitPll s l quiet) := by
  unfold State.waitPll
  try dsimp only
  repeat' (first | with_reducible (first | assumption | apply Kept.ite_fst | apply Kept.ite | apply State.set_kept | apply State.lower_kept | apply State.setLane_kept | apply State.leaveReady_kept))

theorem State.dropLanes_kept {s0 : State} {s : State} {q : Nat} {b : Bool} (hs : Kept s0 s) :
    Kept s0 (State.dropLanes s q b) := by
  unfold State.dropLanes
  try dsimp only
  repeat' (first | with_reducible (first | assumption | intro s x _ | intro s _ | intro x | apply Kept.foldl | apply Kept.foldl_fst | apply State.waitPll_kept | apply State.lanesFloat_kept))

theorem State.pllEnable_kept {s0 : State} {s : State} {q : Nat} {b : Bool} (hs : Kept s0 s) :
    Kept s0 (State.pllEnable s q b) := by
  unfold State.pllEnable
  try dsimp only
  repeat' (first | with_reducible (first | assumption | apply Kept.ite_fst | apply Kept.ite | apply State.raise_kept | apply State.setB_kept))

theorem State.pllDisable_kept {s0 : State} {s : State} {q : Nat} {b : Bool} (hs : Kept s0 s) :
    Kept s0 (State.pllDisable s q b) := by
  unfold State.pllDisable
  try dsimp only
  repeat' (first | with_reducible (first | assumption | apply Kept.ite_fst | apply Kept.ite | apply State.dropLanes_kept | apply State.lower_kept))

theorem State.pllUnlock_kept {s0 : State} {s : State} {q : Nat} {b : Bool} (hs : Kept s0 s) :
    Kept s0 (State.pllUnlock s q b) := by
  unfold State.pllUnlock
  try dsimp only
  repeat' (first | with_reducible (first | assumption | apply Kept.ite_fst | apply Kept.ite | apply State.dropLanes_kept | apply State.raise_kept | apply State.lower_kept))

theorem State.writeRef_kept {s0 : State} {s : State} {q : Nat} {b : Bool} {v : Bool} (hs : Kept s0 s) :
    Kept s0 (State.writeRef s q b v) := by
  unfold State.writeRef
  try dsimp only
  repeat' (first | with_reducible (first | assumption | apply Kept.ite_fst | apply Kept.ite | apply State.pllUnlock_kept | apply State.setB_kept))

theorem State.writeLnqCtrl_kept {s0 : State} {s : State} {q : Nat} {v : Nat} (hs : Kept s0 s) :
    Kept s0 (State.writeLnqCtrl s q v) := by
  unfold State.writeLnqCtrl
  try dsimp only
  repeat' (first | with_reducible (first | assumption | apply Kept.ite_fst | apply Kept.ite | apply State.pllEnable_kept | apply State.pllDisable_kept | apply State.writeRef_kept))

theorem State.writePllWord_kept {s0 : State} {s : State} {q : Nat} {b : Bool} {f : Bool} {v : Nat} (hs : Kept s0 s) :
    Kept s0 (State.writePllWord s q b f v) := by
  unfold State.writePllWord
  try dsimp only
  repeat' (first | with_reducible (first | assumption | apply Kept.ite_fst | apply Kept.ite | apply State.set_kept))

theorem execPllEnable_kept {s0 : State} {q : QuadId} {b : Bool} {s : State} (hs : Kept s0 s) :
    KeptR s0 (execPllEnable q b s) := by
  unfold execPllEnable
  try dsimp only
  repeat' (first | with_reducible (first | assumption | intro s x _ | intro s _ | intro x | apply KeptR.next | apply KeptR.ite | apply State.pllEnable_kept | apply State.access_kept))

theorem execPllDisable_kept {s0 : State} {q : QuadId} {b : Bool} {s : State} (hs : Kept s0 s) :
    KeptR s0 (execPllDisable q b s) := by
  unfold execPllDisable
  try dsimp only
  repeat' (first | with_reducible (first | assumption | intro s x _ | intro s _ | intro x | apply KeptR.next | apply KeptR.ite | apply State.pllDisable_kept | apply State.access_kept))

theorem execPllDividerWrite_kept {s0 : State} {q : QuadId} {b : Bool} {f : Bool} {v : Word} {s : State} (hs : Kept s0 s) :
    KeptR s0 (execPllDividerWrite q b f v s) := by
  unfold execPllDividerWrite
  try dsimp only
  repeat' (first | with_reducible (first | assumption | intro s x _ | intro s _ | intro x | apply KeptR.next | apply KeptR.ite | apply State.writePllWord_kept | apply State.access_kept))

theorem State.startWaiting_kept {s0 : State} {s : State} {q : Nat} {b : Bool} (hs : Kept s0 s) :
    Kept s0 (State.startWaiting s q b) := by
  unfold State.startWaiting
  try dsimp only
  repeat' (first | with_reducible (first | assumption | intro s x _ | intro s _ | intro x | apply Kept.ite_fst | apply Kept.ite | apply Kept.foldl | apply Kept.foldl_fst | apply State.set_kept | apply State.setLane_kept))

theorem execPllLock_kept {s0 : State} {q : QuadId} {b : Bool} {s : State} (hs : Kept s0 s) :
    KeptR s0 (execPllLock q b s) := by
  unfold execPllLock
  try dsimp only
  repeat' (first | with_reducible (first | assumption | apply KeptR.next | apply KeptR.ite | apply Kept.ite_fst | apply Kept.ite | apply State.startWaiting_kept | apply State.raise_kept))

theorem execPllUnlock_kept {s0 : State} {q : QuadId} {b : Bool} {s : State} (hs : Kept s0 s) :
    KeptR s0 (execPllUnlock q b s) := by
  unfold execPllUnlock
  try dsimp only
  repeat' (first | with_reducible (first | assumption | apply KeptR.next | apply KeptR.ite | apply State.pllUnlock_kept))

theorem State.loadTx_kept {s0 : State} {s : State} {l : Nat} (hs : Kept s0 s) :
    Kept s0 (State.loadTx s l) := by
  unfold State.loadTx
  try dsimp only
  repeat' (first | with_reducible (first | assumption | apply State.set_kept))

theorem State.loadRx_kept {s0 : State} {s : State} {l : Nat} (hs : Kept s0 s) :
    Kept s0 (State.loadRx s l) := by
  unfold State.loadRx
  try dsimp only
  repeat' (first | with_reducible (first | assumption | intro s x _ | intro s _ | intro x | apply Kept.ite_fst | apply Kept.ite | apply Kept.foldl | apply Kept.foldl_fst | apply State.set_kept))

theorem State.setTx_kept {s0 : State} {s : State} {l : Nat} {t : TxSet} (hs : Kept s0 s) :
    Kept s0 (State.setTx s l t) := by
  unfold State.setTx
  try dsimp only
  repeat' (first | with_reducible (first | assumption | apply State.set_kept))

theorem State.stageFir_kept {s0 : State} {s : State} {l : Nat} {v : Nat} (hs : Kept s0 s) :
    Kept s0 (State.stageFir s l v) := by
  unfold State.stageFir
  try dsimp only
  repeat' (first | with_reducible (first | assumption | apply Kept.ite_fst | apply Kept.ite | apply KeptO.none | apply KeptO.some_id | apply KeptO.some | apply KeptO.ite | apply State.raise_kept | apply State.setLane_kept))

theorem State.commitFir_kept {s0 : State} {s : State} {l : Nat} {v : Nat} (hs : Kept s0 s) :
    Kept s0 (State.commitFir s l v) := by
  unfold State.commitFir
  try dsimp only
  repeat' (first | with_reducible (first | assumption | apply Kept.ite_fst | apply Kept.ite | apply KeptO.none | apply KeptO.some_id | apply KeptO.some | apply KeptO.ite | apply State.setTx_kept | apply State.set_kept | apply State.raise_kept | apply State.setLane_kept) | split)

theorem execTxfirStage_kept {s0 : State} {l : LaneId} {v : Word} {s : State} (hs : Kept s0 s) :
    KeptR s0 (execTxfirStage l v s) := by
  unfold execTxfirStage
  try dsimp only
  repeat' (first | with_reducible (first | assumption | intro s x _ | intro s _ | intro x | apply KeptR.next | apply KeptR.ite | apply State.stageFir_kept | apply State.access_kept))

theorem execTxfirCommit_kept {s0 : State} {l : LaneId} {v : Word} {s : State} (hs : Kept s0 s) :
    KeptR s0 (execTxfirCommit l v s) := by
  unfold execTxfirCommit
  try dsimp only
  repeat' (first | with_reducible (first | assumption | intro s x _ | intro s _ | intro x | apply KeptR.next | apply KeptR.ite | apply State.commitFir_kept | apply State.access_kept))

theorem State.writeRx_kept {s0 : State} {s : State} {l : Nat} {r : Nat} {v : Nat} (hs : Kept s0 s) :
    Kept s0 (State.writeRx s l r v) := by
  unfold State.writeRx
  try dsimp only
  repeat' (first | with_reducible (first | assumption | intro s x _ | intro s _ | intro x | apply Kept.ite_fst | apply Kept.ite | apply Kept.foldl | apply Kept.foldl_fst | apply State.set_kept | apply State.raise_kept))

theorem execRxeqWrite_kept {s0 : State} {l : LaneId} {r : Fin 5} {v : Word} {s : State} (hs : Kept s0 s) :
    KeptR s0 (execRxeqWrite l r v s) := by
  unfold execRxeqWrite
  try dsimp only
  repeat' (first | with_reducible (first | assumption | intro s x _ | intro s _ | intro x | apply KeptR.next | apply KeptR.ite | apply State.writeRx_kept | apply State.access_kept))

theorem State.calHalf_kept {s0 : State} {s : State} {l : Nat} (hs : Kept s0 s) :
    Kept s0 (State.calHalf s l) := by
  unfold State.calHalf
  try dsimp only
  repeat' (first | with_reducible (first | assumption | apply Kept.ite_fst | apply Kept.ite | apply KeptO.none | apply KeptO.some_id | apply KeptO.some | apply KeptO.ite | apply State.opMove_kept) | split)

theorem State.laneReady_kept {s0 : State} {s : State} {l : Nat} (hs : Kept s0 s) :
    Kept s0 (State.laneReady s l) := by
  unfold State.laneReady
  try dsimp only
  repeat' (first | with_reducible (first | assumption | apply Kept.ite_fst | apply Kept.ite | apply State.opDone_kept | apply State.set_kept | apply State.setLane_kept | apply State.bypassUp_kept) | split)

theorem State.calFail_kept {s0 : State} {s : State} {l : Nat} {err : Nat} (hs : Kept s0 s) :
    Kept s0 (State.calFail s l err) := by
  unfold State.calFail
  try dsimp only
  repeat' (first | with_reducible (first | assumption | apply State.opFail_kept | apply State.setLane_kept) | split)

theorem State.startLane_kept {s0 : State} {s : State} {l : Nat} (hs : Kept s0 s) :
    Kept s0 (State.startLane s l) := by
  unfold State.startLane
  try dsimp only
  repeat' (first | with_reducible (first | assumption | apply Kept.ite_fst | apply Kept.ite | apply KeptO.none | apply KeptO.some_id | apply KeptO.some | apply KeptO.ite | apply State.set_kept | apply State.raise_kept | apply State.lower_kept | apply State.setLane_kept | apply State.wakeQuad_kept | apply State.portCfgerr_kept) | split)

theorem State.stopLane_kept {s0 : State} {s : State} {l : Nat} (hs : Kept s0 s) :
    Kept s0 (State.stopLane s l) := by
  unfold State.stopLane
  try dsimp only
  repeat' (first | with_reducible (first | assumption | apply Kept.ite_fst | apply Kept.ite | apply State.calFail_kept | apply State.set_kept | apply State.lower_kept | apply State.setLane_kept | apply State.portCfgerr_kept | apply State.leaveReady_kept) | split)

theorem State.writeRate_kept {s0 : State} {s : State} {l : Nat} {v : Nat} (hs : Kept s0 s) :
    Kept s0 (State.writeRate s l v) := by
  unfold State.writeRate
  try dsimp only
  repeat' (first | with_reducible (first | assumption | apply Kept.ite_fst | apply Kept.ite | apply State.showEntry_kept | apply State.set_kept | apply State.setB_kept))

theorem State.wantTrain_kept {s0 : State} {s : State} {l : Nat} (hs : Kept s0 s) :
    Kept s0 (State.wantTrain s l) := by
  unfold State.wantTrain
  try dsimp only
  repeat' (first | with_reducible (first | assumption | apply State.setLane_kept))

theorem State.loopChanged_kept {s0 : State} {s : State} {l : Nat} (hs : Kept s0 s) :
    Kept s0 (State.loopChanged s l) := by
  unfold State.loopChanged
  try dsimp only
  repeat' (first | with_reducible (first | assumption | apply Kept.ite_fst | apply Kept.ite | apply State.set_kept | apply State.setLane_kept | apply State.leaveReady_kept))

theorem State.writeLnCtrl_kept {s0 : State} {s : State} {l : Nat} {v : Nat} (hs : Kept s0 s) :
    Kept s0 (State.writeLnCtrl s l v) := by
  unfold State.writeLnCtrl
  try dsimp only
  repeat' (first | with_reducible (first | assumption | apply Kept.ite_fst | apply Kept.ite | apply State.startLane_kept | apply State.stopLane_kept | apply State.writeRate_kept | apply State.wantTrain_kept | apply State.loopChanged_kept | apply State.set_kept | apply State.setB_kept | apply State.leaveReady_kept))

theorem execLaneEnable_kept {s0 : State} {l : LaneId} {v : Word} {s : State} (hs : Kept s0 s) :
    KeptR s0 (execLaneEnable l v s) := by
  unfold execLaneEnable
  try dsimp only
  repeat' (first | with_reducible (first | assumption | intro s x _ | intro s _ | intro x | apply KeptR.next | apply KeptR.ite | apply State.writeLnCtrl_kept | apply State.access_kept))

theorem execLaneDisable_kept {s0 : State} {l : LaneId} {s : State} (hs : Kept s0 s) :
    KeptR s0 (execLaneDisable l s) := by
  unfold execLaneDisable
  try dsimp only
  repeat' (first | with_reducible (first | assumption | intro s x _ | intro s _ | intro x | apply KeptR.next | apply KeptR.ite | apply Kept.ite_fst | apply Kept.ite | apply State.stopLane_kept | apply State.lower_kept | apply State.access_kept))

theorem execTrainRequest_kept {s0 : State} {l : LaneId} {t : Bool} {s : State} (hs : Kept s0 s) :
    KeptR s0 (execTrainRequest l t s) := by
  unfold execTrainRequest
  try dsimp only
  repeat' (first | with_reducible (first | assumption | intro s x _ | intro s _ | intro x | apply KeptR.next | apply KeptR.ite | apply Kept.ite_fst | apply Kept.ite | apply State.wantTrain_kept | apply State.set_kept | apply State.setB_kept | apply State.access_kept | apply State.leaveReady_kept))

theorem execLoopSelect_kept {s0 : State} {l : LaneId} {m : Fin 4} {s : State} (hs : Kept s0 s) :
    KeptR s0 (execLoopSelect l m s) := by
  unfold execLoopSelect
  try dsimp only
  repeat' (first | with_reducible (first | assumption | intro s x _ | intro s _ | intro x | apply KeptR.next | apply KeptR.ite | apply Kept.ite_fst | apply Kept.ite | apply State.loopChanged_kept | apply State.set_kept | apply State.access_kept))

theorem execCalDone_kept {s0 : State} {l : LaneId} {s : State} (hs : Kept s0 s) :
    KeptR s0 (execCalDone l s) := by
  unfold execCalDone
  try dsimp only
  repeat' (first | with_reducible (first | assumption | apply KeptR.next | apply KeptR.ite | apply Kept.ite_fst | apply Kept.ite | apply State.loadTx_kept | apply State.loadRx_kept | apply State.calHalf_kept | apply State.laneReady_kept | apply State.set_kept))

theorem State.adapt_kept {s0 : State} {s : State} {l : Nat} {a : AdaptVals} (hs : Kept s0 s) :
    Kept s0 (State.adapt s l a) := by
  unfold State.adapt
  try dsimp only
  repeat' (first | with_reducible (first | assumption | intro s x _ | intro s _ | intro x | apply Kept.ite_fst | apply Kept.ite | apply Kept.foldl | apply Kept.foldl_fst | apply State.set_kept | apply State.raise_kept))

theorem execAcqComplete_kept {s0 : State} {l : LaneId} {a : AdaptVals} {s : State} (hs : Kept s0 s) :
    KeptR s0 (execAcqComplete l a s) := by
  unfold execAcqComplete
  try dsimp only
  repeat' (first | with_reducible (first | assumption | apply KeptR.next | apply KeptR.ite | apply Kept.ite_fst | apply Kept.ite | apply State.laneReady_kept | apply State.adapt_kept | apply State.set_kept | apply State.setLane_kept) | split)

theorem execAcqTimeout_kept {s0 : State} {l : LaneId} {s : State} (hs : Kept s0 s) :
    KeptR s0 (execAcqTimeout l s) := by
  unfold execAcqTimeout
  try dsimp only
  repeat' (first | with_reducible (first | assumption | apply KeptR.next | apply KeptR.ite | apply Kept.ite_fst | apply Kept.ite | apply State.loadRx_kept | apply State.calFail_kept | apply State.count_kept) | split)

theorem execLossOfSignal_kept {s0 : State} {l : LaneId} {clock : Bool} {s : State} (hs : Kept s0 s) :
    KeptR s0 (execLossOfSignal l clock s) := by
  unfold execLossOfSignal
  try dsimp only
  repeat' (first | with_reducible (first | assumption | apply KeptR.next | apply KeptR.ite | apply Kept.ite_fst | apply Kept.ite | apply State.set_kept | apply State.raise_kept | apply State.lower_kept | apply State.count_kept | apply State.leaveReady_kept))

theorem execAdaptLimitHold_kept {s0 : State} {l : LaneId} {s : State} (hs : Kept s0 s) :
    KeptR s0 (execAdaptLimitHold l s) := by
  unfold execAdaptLimitHold
  try dsimp only
  repeat' (first | with_reducible (first | assumption | apply KeptR.next | apply KeptR.ite | apply Kept.ite_fst | apply Kept.ite | apply State.raise_kept))

theorem State.echoPlaces_kept {s0 : State} {s : State} {l : Nat} {ps : List Nat} (hs : Kept s0 s) :
    Kept s0 (State.echoPlaces s l ps) := by
  unfold State.echoPlaces
  try dsimp only
  repeat' (first | with_reducible (first | assumption | apply Kept.ite_fst | apply Kept.ite | apply State.setLane_kept))

theorem State.echoBits_kept {s0 : State} {s : State} {l : Nat} {b : List Bool} (hs : Kept s0 s) :
    Kept s0 (State.echoBits s l b) := by
  unfold State.echoBits
  try dsimp only
  repeat' (first | with_reducible (first | assumption | apply Kept.ite_fst | apply Kept.ite | apply State.echoPlaces_kept | apply State.setLane_kept))

theorem State.runCal_kept {s0 : State} {s : State} {l : Nat} {kind : Nat} (hs : Kept s0 s) :
    Kept s0 (State.runCal s l kind) := by
  unfold State.runCal
  try dsimp only
  repeat' (first | with_reducible (first | assumption | apply Kept.ite_fst | apply Kept.ite | apply State.loadRx_kept | apply State.calHalf_kept | apply State.set_kept | apply State.raise_kept | apply State.setLane_kept | apply State.leaveReady_kept))

theorem State.requestCal_kept {s0 : State} {s : State} {l : Nat} {kind : Nat} {intr : Bool} {e : Nat} {src : Nat} (hs : Kept s0 s) :
    Kept s0 (State.requestCal s l kind intr e src) := by
  unfold State.requestCal
  try dsimp only
  repeat' (first | with_reducible (first | assumption | apply Kept.ite_fst | apply Kept.ite | apply KeptO.none | apply KeptO.some_id | apply KeptO.some | apply KeptO.ite | apply State.runCal_kept | apply State.opBegin_kept | apply State.opRefuse_kept | apply State.raise_kept | apply State.setLane_kept))

theorem State.writeLnCal_kept {s0 : State} {s : State} {l : Nat} {v : Nat} {src : Nat} (hs : Kept s0 s) :
    Kept s0 (State.writeLnCal s l v src) := by
  unfold State.writeLnCal
  try dsimp only
  repeat' (first | with_reducible (first | assumption | apply Kept.ite_fst | apply Kept.ite | apply State.requestCal_kept))

theorem execRxcal_kept {s0 : State} {l : LaneId} {src : Fin 4096} {intr : Bool} {e : Fin 1024} {s : State} (hs : Kept s0 s) :
    KeptR s0 (execRxcal l src intr e s) := by
  unfold execRxcal
  try dsimp only
  repeat' (first | with_reducible (first | assumption | intro s x _ | intro s _ | intro x | apply KeptR.next | apply KeptR.ite | apply State.requestCal_kept | apply State.access_kept))

theorem execFullCal_kept {s0 : State} {l : LaneId} {src : Fin 4096} {intr : Bool} {e : Fin 1024} {s : State} (hs : Kept s0 s) :
    KeptR s0 (execFullCal l src intr e s) := by
  unfold execFullCal
  try dsimp only
  repeat' (first | with_reducible (first | assumption | intro s x _ | intro s _ | intro x | apply KeptR.next | apply KeptR.ite | apply State.requestCal_kept | apply State.access_kept))

theorem execReadapt_kept {s0 : State} {l : LaneId} {src : Fin 4096} {intr : Bool} {e : Fin 1024} {s : State} (hs : Kept s0 s) :
    KeptR s0 (execReadapt l src intr e s) := by
  unfold execReadapt
  try dsimp only
  repeat' (first | with_reducible (first | assumption | intro s x _ | intro s _ | intro x | apply KeptR.next | apply KeptR.ite | apply State.requestCal_kept | apply State.access_kept))

theorem execQueuedCalStart_kept {s0 : State} {l : LaneId} {s : State} (hs : Kept s0 s) :
    KeptR s0 (execQueuedCalStart l s) := by
  unfold execQueuedCalStart
  try dsimp only
  repeat' (first | with_reducible (first | assumption | apply KeptR.next | apply KeptR.ite | apply Kept.ite_fst | apply Kept.ite | apply KeptO.none | apply KeptO.some_id | apply KeptO.some | apply KeptO.ite | apply State.runCal_kept | apply State.opMove_kept | apply State.setLane_kept) | split)

end Sys2Proof.Machine
end

