-- ==== Sys2Proof/Laws/KeptWires.lean ====
section
/-! SUPPORT. What every operation and meaning of Machine/Wires.lean keeps (Laws/Kept.lean says what that is): one lemma for each. -/
set_option maxRecDepth 4000
set_option linter.unusedVariables false
namespace Sys2Proof.Machine

theorem State.showWires_kept {s0 : State} {s : State} {n : Nat} {m : Nat} (hs : Kept s0 s) :
    Kept s0 (State.showWires s n m) := by
  unfold State.showWires
  try dsimp only
  repeat' (first | with_reducible (first | assumption | apply Kept.ite_fst | apply Kept.ite | apply State.setB_kept | apply State.setBitOf_kept | apply State.clearBitOf_kept))

theorem State.flushWires_kept {s0 : State} {s : State} (hs : Kept s0 s) :
    Kept s0 (State.flushWires s) := by
  unfold State.flushWires
  try dsimp only
  repeat' (first | with_reducible (first | assumption | apply Kept.ite_fst | apply Kept.ite | apply KeptC.of_state | apply KeptC.csr_set | apply KeptC.tags_put | apply KeptC.tags_drop | apply KeptC.out_append) | simp only [Kept.mk_iff])

theorem State.wires_kept {s0 : State} {s : State} (hs : Kept s0 s) :
    Kept s0 (State.wires s) := by
  unfold State.wires
  try dsimp only
  repeat' (first | with_reducible (first | assumption | intro s x _ | intro s _ | intro x | apply Kept.foldl | apply Kept.foldl_fst | apply State.showWires_kept | apply State.flushWires_kept))

end Sys2Proof.Machine
end

