-- ==== Sys2Proof/Laws/KeptFence.lean ====
section
/-! SUPPORT. What every operation and meaning of Machine/Fence.lean keeps (Laws/Kept.lean says what that is): one lemma for each. -/
set_option maxRecDepth 4000
set_option linter.unusedVariables false
namespace Sys2Proof.Machine

theorem State.relive_kept {s0 : State} {s : State} {n : Nat} (hs : Kept s0 s) :
    Kept s0 (State.relive s n) := by
  unfold State.relive
  try dsimp only
  repeat' (first | with_reducible (first | assumption | intro s x _ | intro s _ | intro x | apply Kept.ite_fst | apply Kept.ite | apply Kept.foldl | apply Kept.foldl_fst | apply State.set_kept))

theorem State.fieldLost_kept {s0 : State} {s : State} {n : Nat} (hs : Kept s0 s) :
    Kept s0 (State.fieldLost s n) := by
  unfold State.fieldLost
  try dsimp only
  repeat' (first | with_reducible (first | assumption | intro s x _ | intro s _ | intro x | apply KeptO.none | apply KeptO.some_id | apply KeptO.some | apply KeptO.ite | apply Kept.foldl | apply Kept.foldl_fst | apply KeptC.of_state | apply KeptC.csr_set | apply KeptC.tags_put | apply KeptC.tags_drop | apply KeptC.out_append | apply State.loseRange_kept | apply State.cistsLost_kept | apply State.calFail_kept | apply State.opFail_kept | apply State.endSwap_kept | apply State.stopRing_kept) | simp only [Kept.mk_iff] | split)

theorem State.startWalk_kept {s0 : State} {s : State} {die : Nat} (hs : Kept s0 s) :
    Kept s0 (State.startWalk s die) := by
  unfold State.startWalk
  try dsimp only
  repeat' (first | with_reducible (first | assumption | apply Kept.ite_fst | apply Kept.ite | apply KeptC.of_state | apply KeptC.csr_set | apply KeptC.tags_put | apply KeptC.tags_drop | apply KeptC.out_append | apply State.set_kept | apply State.raise_kept) | simp only [Kept.mk_iff])

theorem State.fenceModules_kept {s0 : State} {s : State} {n : Nat} (hs : Kept s0 s) :
    Kept s0 (State.fenceModules s n) := by
  unfold State.fenceModules
  try dsimp only
  repeat' (first | with_reducible (first | assumption | intro s x _ | intro s _ | intro x | apply Kept.ite_fst | apply Kept.ite | apply Kept.foldl | apply Kept.foldl_fst | apply State.relive_kept | apply State.setMod_kept | apply State.set_kept))

theorem State.fence_kept {s0 : State} {s : State} {i : Nat} {fail : Nat} (hs : Kept s0 s) :
    Kept s0 (State.fence s i fail) := by
  unfold State.fence
  try dsimp only
  repeat' (first | with_reducible (first | assumption | apply Kept.ite_fst | apply Kept.ite | apply State.retryWaiting_kept | apply State.fieldLost_kept | apply State.startWalk_kept | apply State.fenceModules_kept | apply State.set_kept | apply State.setBitOf_kept | apply State.clearBitOf_kept | apply State.setStamp_kept | apply State.logEvent_kept | apply State.wires_kept))

theorem State.fenceMessage_kept {s0 : State} {s : State} {n : Nat} (hs : Kept s0 s) :
    Kept s0 (State.fenceMessage s n) := by
  unfold State.fenceMessage
  try dsimp only
  repeat' (first | with_reducible (first | assumption | intro s x _ | intro s _ | intro x | apply Kept.ite_fst | apply Kept.ite | apply Kept.foldl | apply Kept.foldl_fst | apply State.furAbort_kept | apply State.furDisarm_kept | apply State.raise_kept))

end Sys2Proof.Machine
end

