-- ==== Sys2Proof/Laws/KeptImage.lean ====
section
/-! SUPPORT. What every operation and meaning of Machine/Image.lean keeps (Laws/Kept.lean says what that is): one lemma for each. -/
set_option maxRecDepth 4000
set_option linter.unusedVariables false
namespace Sys2Proof.Machine

theorem State.setStore_kept {s0 : State} {s : State} {die : Nat} {a : Nat} {b : Byte} (hs : Kept s0 s) :
    Kept s0 (State.setStore s die a b) := by
  unfold State.setStore
  try dsimp only
  repeat' (first | with_reducible (first | assumption | apply KeptC.of_state | apply KeptC.csr_set | apply KeptC.tags_put | apply KeptC.tags_drop | apply KeptC.out_append) | simp only [Kept.mk_iff] | split)

theorem State.setStores_kept {s0 : State} {s : State} {die : Nat} {a : Nat} {x3 : List Byte} (hs : Kept s0 s) :
    Kept s0 (State.setStores s die a x3) := by
  revert hs
  induction x3 generalizing s die a with
  | nil =>
    intro hs; unfold State.setStores; try dsimp only
    repeat' (first | with_reducible (first | assumption | apply State.setStore_kept) | split)
  | cons y l ih =>
    intro hs; unfold State.setStores; try dsimp only
    repeat' (first | with_reducible (first | assumption | apply ih | apply State.setStore_kept) | split)

theorem State.eraseStore_kept {s0 : State} {s : State} {die : Nat} {a : Nat} {len : Nat} (hs : Kept s0 s) :
    Kept s0 (State.eraseStore s die a len) := by
  unfold State.eraseStore
  try dsimp only
  repeat' (first | with_reducible (first | assumption | apply KeptC.of_state | apply KeptC.csr_set | apply KeptC.tags_put | apply KeptC.tags_drop | apply KeptC.out_append | apply KeptC.csr_clear) | simp only [Kept.mk_iff])

theorem State.loadCode_kept {s0 : State} {s : State} {n : Nat} {slot : Nat} (hs : Kept s0 s) :
    Kept s0 (State.loadCode s n slot) := by
  unfold State.loadCode
  try dsimp only
  repeat' (first | with_reducible (first | assumption | intro s x _ | intro s _ | intro x | apply Kept.foldl | apply Kept.foldl_fst | apply KeptC.of_state | apply KeptC.csr_set | apply KeptC.tags_put | apply KeptC.tags_drop | apply KeptC.out_append | apply KeptC.csr_clear) | simp only [Kept.mk_iff])

theorem State.atpkrRefused_kept {s0 : State} {s : State} (hs : Kept s0 s) :
    Kept s0 (State.atpkrRefused s) := by
  unfold State.atpkrRefused
  try dsimp only
  repeat' (first | with_reducible (first | assumption | apply State.set_kept | apply State.raise_kept))

theorem State.setNv_kept {s0 : State} {s : State} {e : Elem} {v : Nat} (hs : Kept s0 s) :
    Kept s0 (State.setNv s e v) := by
  unfold State.setNv
  try dsimp only
  repeat' (first | with_reducible (first | assumption | apply KeptC.of_state | apply KeptC.csr_set | apply KeptC.tags_put | apply KeptC.tags_drop | apply KeptC.out_append | apply State.set_kept) | simp only [Kept.mk_iff])

theorem State.applyReg_kept {s0 : State} {s : State} {die : Nat} {o : Nat} {v : Nat} {por : Bool} (hs : Kept s0 s) :
    KeptO id s0 (State.applyReg s die o v por) := by
  unfold State.applyReg
  try dsimp only
  repeat' (first | with_reducible (first | assumption | intro s x _ | intro s _ | intro x | apply KeptO.ite | apply Kept.ite_fst | apply Kept.ite | apply KeptO.none | apply KeptO.some_id | apply KeptO.some | apply Kept.foldl | apply Kept.foldl_fst | apply State.atpkrRefused_kept | apply State.setNv_kept) | split)

theorem State.applyChannel_kept {s0 : State} {s : State} {n : Nat} {a : Nat} (hs : Kept s0 s) :
    Kept s0 (State.applyChannel s n a) := by
  unfold State.applyChannel
  try dsimp only
  repeat' (first | with_reducible (first | assumption | intro s x _ | intro s _ | intro x | apply Kept.foldl | apply Kept.foldl_fst | apply KeptC.of_state | apply KeptC.csr_set | apply KeptC.tags_put | apply KeptC.tags_drop | apply KeptC.out_append) | simp only [Kept.mk_iff])

theorem State.applyRecords_kept {s0 : State} {s : State} {die : Nat} {por : Bool} {x3 : List (Nat × Nat × Nat)} (hs : Kept s0 s) :
    Kept s0 (State.applyRecords s die por x3).1 := by
  revert hs
  induction x3 generalizing s die por with
  | nil =>
    intro hs; unfold State.applyRecords; try dsimp only
    repeat' (first | with_reducible (first | assumption | apply Kept.ite_fst | apply Kept.ite | apply KeptO.none | apply KeptO.some_id | apply KeptO.some | apply KeptO.ite | apply State.applyReg_kept | apply State.applyChannel_kept | refine Kept.of_some (by assumption) ?_) | split | dsimp only)
  | cons y l ih =>
    intro hs; unfold State.applyRecords; try dsimp only
    repeat' (first | with_reducible (first | assumption | apply Kept.ite_fst | apply Kept.ite | apply KeptO.none | apply KeptO.some_id | apply KeptO.some | apply KeptO.ite | apply ih | apply State.applyReg_kept | apply State.applyChannel_kept | refine Kept.of_some (by assumption) ?_) | split | dsimp only)

theorem State.servoRestart_kept {s0 : State} {s : State} (hs : Kept s0 s) :
    Kept s0 (State.servoRestart s) := by
  unfold State.servoRestart
  try dsimp only
  repeat' (first | with_reducible (first | assumption | apply Kept.ite_fst | apply Kept.ite | apply State.set_kept | apply State.raise_kept))

theorem State.headworksSettings_kept {s0 : State} {s : State} {por : Bool} (hs : Kept s0 s) :
    Kept s0 (State.headworksSettings s por) := by
  unfold State.headworksSettings
  try dsimp only
  repeat' (first | with_reducible (first | assumption | apply KeptO.none | apply KeptO.some_id | apply KeptO.some | apply KeptO.ite | apply State.applyRecords_kept | apply State.servoRestart_kept | refine Kept.of_fst (by assumption) ?_) | split)

theorem State.fieldSettings_kept {s0 : State} {s : State} {n : Nat} (hs : Kept s0 s) :
    Kept s0 (State.fieldSettings s n) := by
  unfold State.fieldSettings
  try dsimp only
  repeat' (first | with_reducible (first | assumption | apply Kept.ite_fst | apply Kept.ite | apply KeptO.none | apply KeptO.some_id | apply KeptO.some | apply KeptO.ite | apply State.applyRecords_kept | apply State.checkTable_kept | apply State.set_kept | apply State.raise_kept | refine Kept.of_fst (by assumption) ?_) | split)

end Sys2Proof.Machine
end

