-- ==== Sys2Proof/Laws/KeptReset.lean ====
section
/-! SUPPORT. What every operation and meaning of Machine/Reset.lean keeps (Laws/Kept.lean says what that is): one lemma for each. -/
set_option maxRecDepth 4000
set_option linter.unusedVariables false
namespace Sys2Proof.Machine

theorem State.setMap_kept {s0 : State} {s : State} {m : SlotMap} (hs : Kept s0 s) :
    Kept s0 (State.setMap s m) := by
  unfold State.setMap
  try dsimp only
  repeat' (first | with_reducible (first | assumption | apply State.set_kept))

theorem State.revert_kept {s0 : State} {s : State} {cause : Nat} (hs : Kept s0 s) :
    Kept s0 (State.revert s cause) := by
  unfold State.revert
  try dsimp only
  repeat' (first | with_reducible (first | assumption | intro s x _ | intro s _ | intro x | apply Kept.foldl | apply Kept.foldl_fst | apply KeptC.of_state | apply KeptC.csr_set | apply KeptC.tags_put | apply KeptC.tags_drop | apply KeptC.out_append | apply State.eraseStore_kept | apply State.set_kept | apply State.lower_kept | apply State.logEvent_kept | apply State.setMap_kept) | simp only [Kept.mk_iff])

theorem State.invalidate_kept {s0 : State} {s : State} (hs : Kept s0 s) :
    Kept s0 (State.invalidate s) := by
  unfold State.invalidate
  try dsimp only
  repeat' (first | with_reducible (first | assumption | apply KeptC.of_state | apply KeptC.csr_set | apply KeptC.tags_put | apply KeptC.tags_drop | apply KeptC.out_append) | simp only [Kept.mk_iff])

theorem State.bundleLog_kept {s0 : State} {s : State} {err : Nat} {part : Nat} (hs : Kept s0 s) :
    Kept s0 (State.bundleLog s err part) := by
  unfold State.bundleLog
  try dsimp only
  repeat' (first | with_reducible (first | assumption | apply State.set_kept | apply State.logEvent_kept))

theorem State.readDirectory_kept {s0 : State} {s : State} (hs : Kept s0 s) :
    Kept s0 (State.readDirectory s) := by
  unfold State.readDirectory
  try dsimp only
  repeat' (first | with_reducible (first | assumption | intro s x _ | intro s _ | intro x | apply Kept.ite_fst | apply Kept.ite | apply Kept.foldl | apply Kept.foldl_fst | apply KeptC.of_state | apply KeptC.csr_set | apply KeptC.tags_put | apply KeptC.tags_drop | apply KeptC.out_append | apply State.set_kept | apply State.logEvent_kept | apply State.setMap_kept | apply State.revert_kept | apply State.invalidate_kept | apply State.bundleLog_kept) | simp only [Kept.mk_iff] | split)

theorem State.raiseCounter_kept {s0 : State} {s : State} {c : Nat} {v : Nat} (hs : Kept s0 s) :
    Kept s0 (State.raiseCounter s c v) := by
  unfold State.raiseCounter
  try dsimp only
  repeat' (first | with_reducible (first | assumption | apply Kept.ite_fst | apply Kept.ite | apply State.set_kept | apply State.logEvent_kept))

theorem State.raiseCounters_kept {s0 : State} {s : State} (hs : Kept s0 s) :
    Kept s0 (State.raiseCounters s) := by
  unfold State.raiseCounters
  try dsimp only
  repeat' (first | with_reducible (first | assumption | intro s x _ | intro s _ | intro x | apply Kept.foldl | apply Kept.foldl_fst | apply KeptC.of_state | apply KeptC.csr_set | apply KeptC.tags_put | apply KeptC.tags_drop | apply KeptC.out_append | apply State.raiseCounter_kept) | simp only [Kept.mk_iff])

theorem State.setDomains_kept {s0 : State} {s : State} {m : Nat} (hs : Kept s0 s) :
    Kept s0 (State.setDomains s m) := by
  unfold State.setDomains
  try dsimp only
  repeat' (first | with_reducible (first | assumption | apply State.set2_kept))

theorem State.startClock_kept {s0 : State} {s : State} {i : Nat} (hs : Kept s0 s) :
    Kept s0 (State.startClock s i) := by
  unfold State.startClock
  try dsimp only
  repeat' (first | with_reducible (first | assumption | apply State.setBitOf_kept))

theorem State.wiped_kept {s0 : State} {s : State} {por : Bool} (hs : Kept s0 s) :
    Kept s0 (State.wiped s por) := by
  unfold State.wiped
  simp only [Kept.mk_iff]
  exact KeptC.wiped (KeptC.csr_clear (KeptC.of_state hs))

theorem State.pkrRun_kept {s0 : State} {s : State} {src : Nat} (hs : Kept s0 s) :
    Kept s0 (State.pkrRun s src) := by
  unfold State.pkrRun
  try dsimp only
  repeat' (first | with_reducible (first | assumption | apply State.set_kept | apply State.count_kept | apply State.setStamp_kept | apply State.logEvent_kept | apply State.wiped_kept))

theorem State.restartTclk_kept {s0 : State} {s : State} (hs : Kept s0 s) :
    Kept s0 (State.restartTclk s) := by
  unfold State.restartTclk
  try dsimp only
  repeat' (first | with_reducible (first | assumption | apply Kept.ite_fst | apply Kept.ite | apply State.keepAlive_kept))

theorem State.pkr_kept {s0 : State} {s : State} {src : Nat} (hs : Kept s0 s) :
    Kept s0 (State.pkr s src) := by
  unfold State.pkr
  try dsimp only
  repeat' (first | with_reducible (first | assumption | apply Kept.ite_fst | apply Kept.ite | apply KeptO.none | apply KeptO.some_id | apply KeptO.some | apply KeptO.ite | apply State.pkrRun_kept | apply State.restartTclk_kept) | split)

theorem State.pkrHeld_kept {s0 : State} {s : State} {src : Nat} (hs : Kept s0 s) :
    Kept s0 (State.pkrHeld s src) := by
  unfold State.pkrHeld
  try dsimp only
  repeat' (first | with_reducible (first | assumption | apply Kept.ite_fst | apply Kept.ite | apply KeptC.of_state | apply KeptC.csr_set | apply KeptC.tags_put | apply KeptC.tags_drop | apply KeptC.out_append | apply State.pkr_kept) | simp only [Kept.mk_iff])

theorem State.unhold_kept {s0 : State} {s : State} {src : Nat} (hs : Kept s0 s) :
    Kept s0 (State.unhold s src) := by
  unfold State.unhold
  try dsimp only
  repeat' (first | with_reducible (first | assumption | apply KeptC.of_state | apply KeptC.csr_set | apply KeptC.tags_put | apply KeptC.tags_drop | apply KeptC.out_append) | simp only [Kept.mk_iff])

theorem State.rollEnd_kept {s0 : State} {s : State} (hs : Kept s0 s) :
    Kept s0 (State.rollEnd s) := by
  unfold State.rollEnd
  try dsimp only
  repeat' (first | with_reducible (first | assumption | apply Kept.ite_fst | apply Kept.ite | apply KeptO.none | apply KeptO.some_id | apply KeptO.some | apply KeptO.ite | apply KeptC.of_state | apply KeptC.csr_set | apply KeptC.tags_put | apply KeptC.tags_drop | apply KeptC.out_append | apply State.lower_kept | apply State.revert_kept | apply State.setDomains_kept | apply State.pkr_kept) | simp only [Kept.mk_iff] | split)

theorem State.rollFence_kept {s0 : State} {s : State} {n : Nat} {fail : Nat} (hs : Kept s0 s) :
    Kept s0 (State.rollFence s n fail) := by
  unfold State.rollFence
  try dsimp only
  repeat' (first | with_reducible (first | assumption | apply State.fence_kept | apply State.rollEnd_kept))

theorem State.por_kept {s0 : State} {s : State} {src : Nat} {slow : Bool} {reff : Bool} (hs : Kept s0 s) :
    Kept s0 (State.por s src slow reff) := by
  unfold State.por
  try dsimp only
  repeat' (first | with_reducible (first | assumption | apply State.set_kept | apply State.setB_kept | apply State.wiped_kept))

theorem State.headworksCopyIn_kept {s0 : State} {s : State} {loader : Bool} (hs : Kept s0 s) :
    Kept s0 (State.headworksCopyIn s loader) := by
  unfold State.headworksCopyIn
  try dsimp only
  repeat' (first | with_reducible (first | assumption | apply Kept.ite_fst | apply Kept.ite | apply KeptC.of_state | apply KeptC.csr_set | apply KeptC.tags_put | apply KeptC.tags_drop | apply KeptC.out_append | apply State.headworksSettings_kept | apply State.set_kept | apply State.raise_kept | apply State.revert_kept | apply State.readDirectory_kept | apply State.raiseCounters_kept) | simp only [Kept.mk_iff])

theorem State.pkrRelease_kept {s0 : State} {s : State} {loader : Bool} (hs : Kept s0 s) :
    Kept s0 (State.pkrRelease s loader) := by
  unfold State.pkrRelease
  try dsimp only
  repeat' (first | with_reducible (first | assumption | apply Kept.ite_fst | apply Kept.ite | apply KeptC.of_state | apply KeptC.csr_set | apply KeptC.tags_put | apply KeptC.tags_drop | apply KeptC.out_append | apply State.raise_kept | apply State.setB_kept | apply State.setBitOf_kept | apply State.setDomains_kept | apply State.startClock_kept | apply State.headworksCopyIn_kept) | simp only [Kept.mk_iff] | split)

end Sys2Proof.Machine
end

