-- ==== Sys2Proof/Laws/KeptReservoir.lean ====
section
/-! SUPPORT. What every operation and meaning of Machine/Reservoir.lean keeps (Laws/Kept.lean says what that is): one lemma for each. -/
set_option maxRecDepth 4000
set_option linter.unusedVariables false
namespace Sys2Proof.Machine

theorem State.basinOut_kept {s0 : State} {s : State} {k : Nat} {portB : Bool} {x3 : Option (List Nat × Bool × Bool × Bool)} (hs : Kept s0 s) :
    Kept s0 (State.basinOut s k portB x3) := by
  unfold State.basinOut
  try dsimp only
  repeat' (first | with_reducible (first | assumption | apply KeptO.none | apply KeptO.some_id | apply KeptO.some | apply KeptO.ite | apply State.emit_kept) | split)

theorem State.basinCycle_kept {s0 : State} {s : State} {k : Nat} {gated : Bool} {a : Option BasinPort} {b : Option BasinPort} (hs : Kept s0 s) :
    Kept s0 (State.basinCycle s k gated a b) := by
  unfold State.basinCycle
  try dsimp only
  repeat' (first | with_reducible (first | assumption | intro s x _ | intro s _ | intro x | apply Kept.ite_fst | apply Kept.ite | apply KeptO.map | apply Kept.foldl | apply Kept.foldl_fst | apply KeptC.of_state | apply KeptC.csr_set | apply KeptC.tags_put | apply KeptC.tags_drop | apply KeptC.out_append | apply State.basinOut_kept) | simp only [Kept.mk_iff])

theorem execBasinAccess_kept {s0 : State} {n : FieldId} {r : Fin 16} {i : Fin 84} {a : Option BasinPort} {b : Option BasinPort} {s : State} (hs : Kept s0 s) :
    KeptR s0 (execBasinAccess n r i a b s) := by
  unfold execBasinAccess
  try dsimp only
  repeat' (first | with_reducible (first | assumption | apply KeptR.next | apply KeptR.ite | apply Kept.ite_fst | apply Kept.ite | apply State.basinCycle_kept) | split)

theorem State.keepResp_kept {s0 : State} {s : State} {old : State} (hs : Kept s0 s) (hold : Kept s0 old) :
    Kept s0 (State.keepResp s old) := by
  unfold State.keepResp
  try dsimp only
  repeat' (first | with_reducible (first | assumption | apply KeptC.of_state | apply KeptC.csr_set | apply KeptC.tags_put | apply KeptC.tags_drop | apply KeptC.out_append) | simp only [Kept.mk_iff])

theorem State.rsvAnswer_kept {s0 : State} {s : State} {p : RsvPort} {st : RStat} {cause : Nat} {data : List Byte} (hs : Kept s0 s) :
    Kept s0 (State.rsvAnswer s p st cause data) := by
  unfold State.rsvAnswer
  try dsimp only
  repeat' (first | with_reducible (first | assumption | apply Kept.ite_fst | apply Kept.ite | apply KeptC.of_state | apply KeptC.csr_set | apply KeptC.tags_put | apply KeptC.tags_drop | apply KeptC.out_append) | simp only [Kept.mk_iff] | split)

theorem State.rsvStalls_kept {s0 : State} {s : State} {i : Nat} {p : Nat} {stalls : List Nat} (hs : Kept s0 s) :
    Kept s0 (State.rsvStalls s i p stalls) := by
  unfold State.rsvStalls
  try dsimp only
  repeat' (first | with_reducible (first | assumption | apply State.count_kept))

theorem State.rsvRead_kept {s0 : State} {s : State} {i : Nat} {p : RsvPort} {x : Nat} {len : Nat} {busy : List (List RsvBusy)} {fetch : Bool} (hs : Kept s0 s) :
    Kept s0 (State.rsvRead s i p x len busy fetch) := by
  unfold State.rsvRead
  try dsimp only
  repeat' (first | with_reducible (first | assumption | apply Kept.ite_fst | apply Kept.ite | apply State.readMem_kept | apply State.used_kept | apply State.answer_kept | apply State.rsvAnswer_kept | apply State.rsvStalls_kept))

theorem execReservoirRead_kept {s0 : State} {i : RsvId} {p : RsvPort} {x : Fin 4194304} {len : Fin 64} {busy : List (List RsvBusy)} {s : State} (hs : Kept s0 s) :
    KeptR s0 (execReservoirRead i p x len busy s) := by
  unfold execReservoirRead
  try dsimp only
  repeat' (first | with_reducible (first | assumption | apply KeptR.next | apply KeptR.ite | apply Kept.ite_fst | apply Kept.ite | apply State.rsvRead_kept))

theorem execReservoirFetch_kept {s0 : State} {i : RsvId} {p : RsvPort} {x : Fin 4194304} {len : Fin 64} {busy : List (List RsvBusy)} {s : State} (hs : Kept s0 s) :
    KeptR s0 (execReservoirFetch i p x len busy s) := by
  unfold execReservoirFetch
  try dsimp only
  repeat' (first | with_reducible (first | assumption | apply KeptR.next | apply KeptR.ite | apply Kept.ite_fst | apply Kept.ite | apply State.rsvRead_kept))

theorem State.rsvStop_kept {s0 : State} {s : State} {i : Nat} {w : RsvWrite} (hs : Kept s0 s) :
    KeptO (·.2.2) s0 (State.rsvStop s i w) := by
  unfold State.rsvStop
  try dsimp only
  repeat' (first | with_reducible (first | assumption | apply KeptO.ite | apply Kept.ite_fst | apply Kept.ite | apply KeptO.none | apply KeptO.some_id | apply KeptO.some | apply State.reach_kept | refine Kept.of_some_snd (by assumption) ?_) | split)

theorem State.rsvRespond_kept {s0 : State} {s : State} {i : Nat} {w : RsvWrite} {st : RStat} {cause : Nat} {wlost : Bool} (hs : Kept s0 s) :
    Kept s0 (State.rsvRespond s i w st cause wlost) := by
  unfold State.rsvRespond
  try dsimp only
  repeat' (first | with_reducible (first | assumption | apply Kept.ite_fst | apply Kept.ite | apply State.raise_kept | apply State.count_kept | apply State.emit_kept | apply State.rsvAnswer_kept))

theorem State.rsvMerge_kept {s0 : State} {s : State} {i : Nat} {joined : List RsvWrite} {k : Nat} (hs : Kept s0 s) :
    Kept s0 (State.rsvMerge s i joined k).1 := by
  unfold State.rsvMerge
  try dsimp only
  repeat' (first | with_reducible (first | assumption | apply State.writeWord_kept | refine Kept.of_fst (by assumption) ?_) | split | dsimp only)

theorem State.rsvWrites_kept {s0 : State} {s : State} {i : Nat} {l : List RsvWrite} {busy : List (List RsvBusy)} (hs : Kept s0 s) :
    Kept s0 (State.rsvWrites s i l busy) := by
  unfold State.rsvWrites
  try dsimp only
  repeat' (first | with_reducible (first | assumption | intro s x _ | intro s _ | intro x | apply Kept.ite_fst | apply Kept.ite | apply KeptO.none | apply KeptO.some_id | apply KeptO.some | apply KeptO.ite | apply KeptO.map | apply Kept.foldl | apply Kept.foldl_fst | apply State.rsvStalls_kept | apply State.rsvStop_kept | apply State.rsvRespond_kept | apply State.rsvMerge_kept | refine Kept.of_some_trd (by assumption) ?_ | refine Kept.of_fst (by assumption) ?_) | split)

theorem execReservoirWrite_kept {s0 : State} {i : RsvId} {c : RsvCycle} {s : State} (hs : Kept s0 s) :
    KeptR s0 (execReservoirWrite i c s) := by
  unfold execReservoirWrite
  try dsimp only
  repeat' (first | with_reducible (first | assumption | apply KeptR.next | apply KeptR.ite | apply State.used_kept | apply State.rsvWrites_kept))

theorem State.rsvLl_kept {s0 : State} {s : State} {i : Nat} {p : RsvPort} {w : Nat} {h : Fin 3} {busy : List (List RsvBusy)} (hs : Kept s0 s) :
    Kept s0 (State.rsvLl s i p w h busy) := by
  unfold State.rsvLl
  try dsimp only
  repeat' (first | with_reducible (first | assumption | apply Kept.ite_fst | apply Kept.ite | apply KeptO.none | apply KeptO.some_id | apply KeptO.some | apply KeptO.ite | apply KeptC.of_state | apply KeptC.csr_set | apply KeptC.tags_put | apply KeptC.tags_drop | apply KeptC.out_append | apply State.rsvAnswer_kept | apply State.rsvRead_kept) | simp only [Kept.mk_iff] | split)

theorem execReservoirLl_kept {s0 : State} {i : RsvId} {p : RsvPort} {w : Fin 524288} {h : Fin 3} {busy : List (List RsvBusy)} {s : State} (hs : Kept s0 s) :
    KeptR s0 (execReservoirLl i p w h busy s) := by
  unfold execReservoirLl
  try dsimp only
  repeat' (first | with_reducible (first | assumption | apply KeptR.next | apply KeptR.ite | apply Kept.ite_fst | apply Kept.ite | apply State.rsvLl_kept))

theorem State.rsvSc_kept {s0 : State} {s : State} {i : Nat} {p : RsvPort} {w : Nat} {h : Fin 3} {data : Nat} {busy : List (List RsvBusy)} (hs : Kept s0 s) :
    Kept s0 (State.rsvSc s i p w h data busy) := by
  unfold State.rsvSc
  try dsimp only
  repeat' (first | with_reducible (first | assumption | apply Kept.ite_fst | apply Kept.ite | apply KeptO.none | apply KeptO.some_id | apply KeptO.some | apply KeptO.ite | apply KeptC.of_state | apply KeptC.csr_set | apply KeptC.tags_put | apply KeptC.tags_drop | apply KeptC.out_append | apply State.reach_kept | apply State.writeMem_kept | apply State.count_kept | apply State.used_kept | apply State.answer_kept | apply State.rsvAnswer_kept | apply State.rsvStalls_kept | refine Kept.of_fst (by assumption) ?_ | refine Kept.of_some_snd (by assumption) ?_) | simp only [Kept.mk_iff] | split)

theorem execReservoirSc_kept {s0 : State} {i : RsvId} {p : RsvPort} {w : Fin 524288} {h : Fin 3} {data : BitVec 64} {busy : List (List RsvBusy)} {s : State} (hs : Kept s0 s) :
    KeptR s0 (execReservoirSc i p w h data busy s) := by
  unfold execReservoirSc
  try dsimp only
  repeat' (first | with_reducible (first | assumption | apply KeptR.next | apply KeptR.ite | apply Kept.ite_fst | apply Kept.ite | apply State.rsvSc_kept))

theorem execReservoirLock_kept {s0 : State} {i : RsvId} {s : State} (hs : Kept s0 s) :
    KeptR s0 (execReservoirLock i s) := by
  unfold execReservoirLock
  try dsimp only
  repeat' (first | with_reducible (first | assumption | intro s x _ | intro s _ | intro x | apply KeptR.next | apply KeptR.ite | apply State.raise_kept | apply State.access_kept))

end Sys2Proof.Machine
end

