-- ==== Sys2Proof/Laws/KeptRill.lean ====
section
/-! SUPPORT. What every operation and meaning of Machine/Rill.lean keeps (Laws/Kept.lean says what that is): one lemma for each. -/
set_option maxRecDepth 4000
set_option linter.unusedVariables false
namespace Sys2Proof.Machine

theorem State.setEng_kept {s0 : State} {s : State} {g : Nat} {e : EngSt} (hs : Kept s0 s) :
    Kept s0 (State.setEng s g e) := by
  unfold State.setEng
  try dsimp only
  repeat' (first | with_reducible (first | assumption | apply KeptC.of_state | apply KeptC.csr_set | apply KeptC.tags_put | apply KeptC.tags_drop | apply KeptC.out_append) | simp only [Kept.mk_iff])

theorem State.rset_kept {s0 : State} {s : State} {f : Field} {v : Nat} {g : Nat} (hs : Kept s0 s) :
    Kept s0 (State.rset s f v g) := by
  unfold State.rset
  try dsimp only
  repeat' (first | with_reducible (first | assumption | apply State.set_kept))

theorem State.setRilState_kept {s0 : State} {s : State} {g : Nat} {v : Nat} (hs : Kept s0 s) :
    Kept s0 (State.setRilState s g v) := by
  unfold State.setRilState
  try dsimp only
  repeat' (first | with_reducible (first | assumption | apply Kept.ite_fst | apply Kept.ite | apply State.setBitOf_kept | apply State.clearBitOf_kept | apply State.rset_kept))

theorem State.setHstat_kept {s0 : State} {s : State} {g : Nat} {state : Nat} {cause : Nat} {du : Nat} {pc : Nat} (hs : Kept s0 s) :
    Kept s0 (State.setHstat s g state cause du pc) := by
  unfold State.setHstat
  try dsimp only
  repeat' (first | with_reducible (first | assumption | apply Kept.ite_fst | apply Kept.ite | apply State.set_kept))

theorem State.clearHstat_kept {s0 : State} {s : State} {g : Nat} (hs : Kept s0 s) :
    Kept s0 (State.clearHstat s g) := by
  unfold State.clearHstat
  try dsimp only
  repeat' (first | with_reducible (first | assumption | apply Kept.ite_fst | apply Kept.ite | apply State.set_kept))

theorem State.rilFault_kept {s0 : State} {s : State} {g : Nat} {cause : Nat} {pc : Nat} {faddr : Nat} (hs : Kept s0 s) :
    Kept s0 (State.rilFault s g cause pc faddr) := by
  unfold State.rilFault
  try dsimp only
  repeat' (first | with_reducible (first | assumption | apply Kept.ite_fst | apply Kept.ite | apply State.setEng_kept | apply State.rset_kept | apply State.setRilState_kept | apply State.clearHstat_kept))

theorem State.enterHalted_kept {s0 : State} {s : State} {g : Nat} {h : Nat × Nat} (hs : Kept s0 s) :
    Kept s0 (State.enterHalted s g h) := by
  unfold State.enterHalted
  try dsimp only
  repeat' (first | with_reducible (first | assumption | apply State.setEng_kept | apply State.setRilState_kept | apply State.setHstat_kept | apply State.trace_kept | apply State.wmEvent_kept))

theorem State.drainHalt_kept {s0 : State} {s : State} {g : Nat} (hs : Kept s0 s) :
    Kept s0 (State.drainHalt s g) := by
  unfold State.drainHalt
  try dsimp only
  repeat' (first | with_reducible (first | assumption | apply Kept.ite_fst | apply Kept.ite | apply KeptO.none | apply KeptO.some_id | apply KeptO.some | apply KeptO.ite | apply State.enterHalted_kept) | split)

theorem State.tryHalt_kept {s0 : State} {s : State} {g : Nat} (hs : Kept s0 s) :
    Kept s0 (State.tryHalt s g) := by
  unfold State.tryHalt
  try dsimp only
  repeat' (first | with_reducible (first | assumption | apply Kept.ite_fst | apply Kept.ite | apply State.setEng_kept | apply State.setHstat_kept | apply State.drainHalt_kept) | split)

theorem State.requestHalt_kept {s0 : State} {s : State} {g : Nat} {cause : Nat} {du : Nat} (hs : Kept s0 s) :
    Kept s0 (State.requestHalt s g cause du) := by
  unfold State.requestHalt
  try dsimp only
  repeat' (first | with_reducible (first | assumption | apply Kept.ite_fst | apply Kept.ite | apply KeptO.none | apply KeptO.some_id | apply KeptO.some | apply KeptO.ite | apply State.set_kept | apply State.setEng_kept | apply State.tryHalt_kept))

theorem State.breakLock_kept {s0 : State} {s : State} {g : Nat} (hs : Kept s0 s) :
    Kept s0 (State.breakLock s g) := by
  unfold State.breakLock
  try dsimp only
  repeat' (first | with_reducible (first | assumption | apply Kept.ite_fst | apply Kept.ite | apply KeptC.of_state | apply KeptC.csr_set | apply KeptC.tags_put | apply KeptC.tags_drop | apply KeptC.out_append | apply State.raise_kept | apply State.enterHalted_kept) | simp only [Kept.mk_iff] | split)

theorem State.rilReload_kept {s0 : State} {s : State} {g : Nat} (hs : Kept s0 s) :
    Kept s0 (State.rilReload s g) := by
  unfold State.rilReload
  try dsimp only
  repeat' (first | with_reducible (first | assumption | apply State.setEng_kept | apply State.rset_kept))

theorem State.rilRun_kept {s0 : State} {s : State} {g : Nat} {pc : Nat} (hs : Kept s0 s) :
    Kept s0 (State.rilRun s g pc) := by
  unfold State.rilRun
  try dsimp only
  repeat' (first | with_reducible (first | assumption | apply State.setEng_kept | apply State.rset_kept | apply State.setRilState_kept | apply State.rilReload_kept))

theorem State.wakeCluster_kept {s0 : State} {s : State} {k : Nat} (hs : Kept s0 s) :
    Kept s0 (State.wakeCluster s k) := by
  unfold State.wakeCluster
  try dsimp only
  repeat' (first | with_reducible (first | assumption | apply Kept.ite_fst | apply Kept.ite | apply State.lower_kept | apply State.count_kept | apply State.clearBitOf_kept))

theorem State.rilClear_kept {s0 : State} {s : State} {g : Nat} (hs : Kept s0 s) :
    Kept s0 (State.rilClear s g) := by
  unfold State.rilClear
  try dsimp only
  repeat' (first | with_reducible (first | assumption | apply KeptC.of_state | apply KeptC.csr_set | apply KeptC.tags_put | apply KeptC.tags_drop | apply KeptC.out_append | apply State.setEng_kept | apply State.rset_kept | apply State.setRilState_kept | apply State.clearHstat_kept) | simp only [Kept.mk_iff])

theorem State.rilResetEnd_kept {s0 : State} {s : State} {g : Nat} (hs : Kept s0 s) :
    Kept s0 (State.rilResetEnd s g) := by
  unfold State.rilResetEnd
  try dsimp only
  repeat' (first | with_reducible (first | assumption | apply Kept.ite_fst | apply Kept.ite | apply State.rilClear_kept))

theorem State.rilReset_kept {s0 : State} {s : State} {g : Nat} (hs : Kept s0 s) :
    Kept s0 (State.rilReset s g) := by
  unfold State.rilReset
  try dsimp only
  repeat' (first | with_reducible (first | assumption | apply Kept.ite_fst | apply Kept.ite | apply State.setEng_kept | apply State.clearHstat_kept))

theorem State.rilStart_kept {s0 : State} {s : State} {g : Nat} (hs : Kept s0 s) :
    Kept s0 (State.rilStart s g) := by
  unfold State.rilStart
  try dsimp only
  repeat' (first | with_reducible (first | assumption | apply Kept.ite_fst | apply Kept.ite | apply State.rset_kept | apply State.rilRun_kept | apply State.wakeCluster_kept))

theorem State.writeEctrl_kept {s0 : State} {s : State} {g : Nat} {v : Nat} (hs : Kept s0 s) :
    Kept s0 (State.writeEctrl s g v) := by
  unfold State.writeEctrl
  try dsimp only
  repeat' (first | with_reducible (first | assumption | apply Kept.ite_fst | apply Kept.ite | apply State.rset_kept | apply State.rilReset_kept | apply State.rilStart_kept))

theorem State.moveLoad_kept {s0 : State} {s : State} {g : Nat} {a : Nat} (hs : Kept s0 s) :
    Kept s0 (State.moveLoad s g a).1 := by
  unfold State.moveLoad
  try dsimp only
  repeat' (first | with_reducible (first | assumption | apply KeptO.none | apply KeptO.some_id | apply KeptO.some | apply KeptO.ite | apply State.eccCount_kept | apply State.readWords_kept | refine Kept.of_fst (by assumption) ?_) | split | dsimp only)

theorem State.moveStore_kept {s0 : State} {s : State} {g : Nat} {a : Nat} {v : Nat} (hs : Kept s0 s) :
    Kept s0 (State.moveStore s g a v).1 := by
  unfold State.moveStore
  try dsimp only
  repeat' (first | with_reducible (first | assumption | apply KeptO.none | apply KeptO.some_id | apply KeptO.some | apply KeptO.ite | apply State.writeWord_kept) | dsimp only)

theorem MoveOut.loaded_kept {s0 : State} {o : MoveOut} {mem : Nat} {d : Nat} {p : Nat} {a : Nat} {r : State × Nat × Bool} (ho : Kept s0 o.s) (hr : Kept s0 r.1) :
    Kept s0 (MoveOut.loaded o mem d p a r).s := by
  unfold MoveOut.loaded
  try dsimp only
  repeat' (first | with_reducible (first | assumption | apply Kept.ite_s | apply Kept.ite_fst | apply Kept.ite | apply KeptO.none | apply KeptO.some_id | apply KeptO.some | apply KeptO.ite) | split)

theorem MoveOut.stored_kept {s0 : State} {o : MoveOut} {mem : Nat} {v : Nat} {p : Nat} {a : Nat} {r : State × Bool} (ho : Kept s0 o.s) (hr : Kept s0 r.1) :
    Kept s0 (MoveOut.stored o mem v p a r).s := by
  unfold MoveOut.stored
  try dsimp only
  repeat' (first | with_reducible (first | assumption | apply Kept.ite_s | apply Kept.ite_fst | apply Kept.ite | apply KeptO.none | apply KeptO.some_id | apply KeptO.some | apply KeptO.ite))

theorem State.setPtr_kept {s0 : State} {s : State} {g : Nat} {k : Nat} {v : Nat} (hs : Kept s0 s) :
    Kept s0 (State.setPtr s g k v) := by
  unfold State.setPtr
  try dsimp only
  repeat' (first | with_reducible (first | assumption | apply State.setEng_kept))

theorem MoveOut.access_kept {s0 : State} {o : MoveOut} {g : Nat} {mem : Nat} {m : RilMove} {old : EngSt} {s : State} {p : Nat} (ho : Kept s0 o.s) (hs : Kept s0 s) :
    Kept s0 (MoveOut.access o g mem m old s p).s := by
  unfold MoveOut.access
  try dsimp only
  repeat' (first | with_reducible (first | assumption | apply Kept.ite_s | apply Kept.ite_fst | apply Kept.ite | apply State.moveLoad_kept | apply State.moveStore_kept | apply MoveOut.loaded_kept | apply MoveOut.stored_kept))

theorem MoveOut.move_kept {s0 : State} {o : MoveOut} {g : Nat} {mem : Nat} {m : RilMove} {old : EngSt} (ho : Kept s0 o.s) :
    Kept s0 (MoveOut.move o g mem m old).s := by
  unfold MoveOut.move
  by_cases h : m.kind = 0
  · rw [if_pos h]; exact ho
  · rw [if_neg h]; exact MoveOut.access_kept ho (State.setPtr_kept ho)

theorem State.setRilReg_kept {s0 : State} {s : State} {g : Nat} {c : Nat} {v : Nat} (hs : Kept s0 s) :
    Kept s0 (State.setRilReg s g c v) := by
  unfold State.setRilReg
  try dsimp only
  repeat' (first | with_reducible (first | assumption | apply Kept.ite_fst | apply Kept.ite | apply State.setEng_kept | apply State.rset_kept))

theorem State.rsvDo_kept {s0 : State} {s : State} {g : Nat} {a : RilAcc} (hs : Kept s0 s) :
    Kept s0 (State.rsvDo s g a).1 := by
  unfold State.rsvDo
  try dsimp only
  repeat' (first | with_reducible (first | assumption | apply Kept.ite_fst | apply Kept.ite | apply KeptO.none | apply KeptO.some_id | apply KeptO.some | apply KeptO.ite | apply KeptC.of_state | apply KeptC.csr_set | apply KeptC.tags_put | apply KeptC.tags_drop | apply KeptC.out_append | apply State.used_kept | apply State.rsvRead_kept | apply State.rsvWrites_kept | apply State.rsvLl_kept | apply State.rsvSc_kept) | simp only [Kept.mk_iff] | split | dsimp only)

theorem State.settle_kept {s0 : State} {s : State} {g : Nat} {x2 : Nat} (hs : Kept s0 s) :
    Kept s0 (State.settle s g x2) := by
  revert hs
  induction x2 generalizing s g with
  | zero =>
    intro hs; unfold State.settle; try dsimp only
    repeat' (first | with_reducible (first | assumption | apply Kept.ite_fst | apply Kept.ite | apply KeptO.none | apply KeptO.some_id | apply KeptO.some | apply KeptO.ite | apply State.perform_kept | apply State.drainAt_kept | apply State.setEng_kept | apply State.rilFault_kept | apply State.rsvDo_kept | apply State.passAll_kept | refine Kept.of_some (by assumption) ?_ | refine Kept.of_fst (by assumption) ?_) | split)
  | succ n ih =>
    intro hs; unfold State.settle; try dsimp only
    repeat' (first | with_reducible (first | assumption | apply Kept.ite_fst | apply Kept.ite | apply KeptO.none | apply KeptO.some_id | apply KeptO.some | apply KeptO.ite | apply ih | apply State.perform_kept | apply State.drainAt_kept | apply State.setEng_kept | apply State.rilFault_kept | apply State.rsvDo_kept | apply State.passAll_kept | refine Kept.of_some (by assumption) ?_ | refine Kept.of_fst (by assumption) ?_) | split)

theorem State.duTrace_kept {s0 : State} {s : State} {g : Nat} {pc : Nat} {kind : Nat} {a : Nat} {data : Nat} {us : List Nat} (hs : Kept s0 s) :
    Kept s0 (State.duTrace s g pc kind a data us) := by
  unfold State.duTrace
  try dsimp only
  repeat' (first | with_reducible (first | assumption | intro s x _ | intro s _ | intro x | apply Kept.ite_fst | apply Kept.ite | apply Kept.foldl | apply Kept.foldl_fst | apply State.trace_kept))

theorem State.rilExpire_kept {s0 : State} {s : State} {g : Nat} (hs : Kept s0 s) :
    Kept s0 (State.rilExpire s g) := by
  unfold State.rilExpire
  try dsimp only
  repeat' (first | with_reducible (first | assumption | apply Kept.ite_fst | apply Kept.ite | apply State.rilFault_kept | apply State.breakLock_kept))

theorem State.rilCycles_kept {s0 : State} {s : State} {g : Nat} {n : Nat} (hs : Kept s0 s) :
    Kept s0 (State.rilCycles s g n) := by
  unfold State.rilCycles
  try dsimp only
  repeat' (first | with_reducible (first | assumption | apply Kept.ite_fst | apply Kept.ite | apply State.set_kept | apply State.wrap2_kept | apply State.setEng_kept | apply State.rset_kept))

theorem State.rilBreak_kept {s0 : State} {s : State} {g : Nat} (hs : Kept s0 s) :
    Kept s0 (State.rilBreak s g) := by
  unfold State.rilBreak
  try dsimp only
  repeat' (first | with_reducible (first | assumption | apply Kept.ite_fst | apply Kept.ite | apply State.breakLock_kept))

theorem State.rilDoCompute_kept {s0 : State} {s : State} {g : Nat} {w : Nat} (hs : Kept s0 s) :
    Kept s0 (State.rilDoCompute s g w).1 := by
  unfold State.rilDoCompute
  try dsimp only
  repeat' (first | with_reducible (first | assumption | intro s x _ | intro s _ | intro x | apply Kept.foldl | apply Kept.foldl_fst | apply State.setEng_kept | apply State.rset_kept | apply MoveOut.move_kept) | dsimp only)

theorem State.rilDo_kept {s0 : State} {s : State} {g : Nat} {w : Nat} {pc : Nat} {next : Nat} (hs : Kept s0 s) :
    Kept s0 (State.rilDo s g w pc next).1 := by
  unfold State.rilDo
  try dsimp only
  repeat' (first | with_reducible (first | assumption | apply Kept.ite_fst | apply Kept.ite | apply State.setEng_kept) | dsimp only)

theorem State.rilBlk_kept {s0 : State} {s : State} {g : Nat} {w : Nat} (hs : Kept s0 s) :
    KeptO id s0 (State.rilBlk s g w) := by
  unfold State.rilBlk
  try dsimp only
  repeat' (first | with_reducible (first | assumption | apply KeptO.ite | apply Kept.ite_fst | apply Kept.ite | apply KeptO.none | apply KeptO.some_id | apply KeptO.some | apply State.setEng_kept))

theorem State.rilMem_kept {s0 : State} {s : State} {g : Nat} {w : Nat} (hs : Kept s0 s) :
    KeptO id s0 (State.rilMem s g w) := by
  unfold State.rilMem
  try dsimp only
  repeat' (first | with_reducible (first | assumption | apply KeptO.ite | apply Kept.ite_fst | apply Kept.ite | apply KeptO.none | apply KeptO.some_id | apply KeptO.some | apply State.setEng_kept))

theorem State.rilDoControl_kept {s0 : State} {s : State} {g : Nat} {w : Nat} {pc : Nat} {next : Nat} (hs : Kept s0 s) :
    Kept s0 (State.rilDoControl s g w pc next).1 := by
  unfold State.rilDoControl
  try dsimp only
  repeat' (first | with_reducible (first | assumption | apply Kept.ite_fst | apply Kept.ite | apply KeptO.none | apply KeptO.some_id | apply KeptO.some | apply KeptO.ite | apply State.setEng_kept | apply State.rset_kept | apply State.setRilState_kept | apply State.rilReload_kept | apply State.setRilReg_kept | apply State.rilDo_kept | apply State.rilBlk_kept | apply State.rilMem_kept | refine Kept.of_some (by assumption) ?_ | refine Kept.of_fst (by assumption) ?_) | split | dsimp only)

theorem State.rilTaken_kept {s0 : State} {s : State} {g : Nat} {w : Nat} {pc : Nat} (hs : Kept s0 s) :
    Kept s0 (State.rilTaken s g w pc) := by
  unfold State.rilTaken
  try dsimp only
  repeat' (first | with_reducible (first | assumption | apply State.setEng_kept))

theorem State.rilExec_kept {s0 : State} {s : State} {g : Nat} {w : Nat} {pc : Nat} (hs : Kept s0 s) :
    Kept s0 (State.rilExec s g w pc).1 := by
  unfold State.rilExec
  try dsimp only
  repeat' (first | with_reducible (first | assumption | apply Kept.ite_fst | apply Kept.ite | apply State.rset_kept | apply State.rilFault_kept | apply State.settle_kept | apply State.rilDoCompute_kept | apply State.rilDoControl_kept | apply State.rilTaken_kept | refine Kept.of_fst (by assumption) ?_) | split | dsimp only)

theorem State.rilBoundary_kept {s0 : State} {s : State} {g : Nat} {pc : Nat} {seen : List (Nat × Nat × Nat)} (hs : Kept s0 s) :
    Kept s0 (State.rilBoundary s g pc seen) := by
  unfold State.rilBoundary
  try dsimp only
  repeat' (first | with_reducible (first | assumption | intro s x _ | intro s _ | intro x | apply Kept.ite_fst | apply Kept.ite | apply Kept.foldl | apply Kept.foldl_fst | apply State.setEng_kept | apply State.clearHstat_kept | apply State.tryHalt_kept | apply State.requestHalt_kept | apply State.duTrace_kept) | split)

theorem State.rilClose_kept {s0 : State} {s : State} {g : Nat} {pc : Nat} {n : Nat} {seen : List (Nat × Nat × Nat)} (hs : Kept s0 s) :
    Kept s0 (State.rilClose s g pc n seen) := by
  unfold State.rilClose
  try dsimp only
  repeat' (first | with_reducible (first | assumption | apply State.rilExpire_kept | apply State.rilCycles_kept | apply State.rilBreak_kept | apply State.rilBoundary_kept))

theorem State.rilIssue_kept {s0 : State} {s : State} {g : Nat} {op : Option Nat} {step : Bool} (hs : Kept s0 s) :
    Kept s0 (State.rilIssue s g op step) := by
  unfold State.rilIssue
  try dsimp only
  repeat' (first | with_reducible (first | assumption | intro s x _ | intro s _ | intro x | apply Kept.ite_fst | apply Kept.ite | apply Kept.foldl | apply Kept.foldl_fst | apply State.rilFault_kept | apply State.requestHalt_kept | apply State.duTrace_kept | apply State.rilExec_kept | apply State.rilClose_kept | refine Kept.of_fst (by assumption) ?_) | split)

theorem State.rilStep_kept {s0 : State} {s : State} {g : Nat} (hs : Kept s0 s) :
    Kept s0 (State.rilStep s g) := by
  unfold State.rilStep
  try dsimp only
  repeat' (first | with_reducible (first | assumption | apply Kept.ite_fst | apply Kept.ite | apply State.setEng_kept | apply State.setHstat_kept | apply State.clearHstat_kept | apply State.rilIssue_kept))

theorem State.rilAfter_kept {s0 : State} {s : State} {g : Nat} (hs : Kept s0 s) :
    Kept s0 (State.rilAfter s g) := by
  unfold State.rilAfter
  try dsimp only
  repeat' (first | with_reducible (first | assumption | apply Kept.ite_fst | apply Kept.ite | apply State.drainHalt_kept | apply State.tryHalt_kept | apply State.settle_kept | apply State.rilStep_kept))

theorem State.rilPaused_kept {s0 : State} {s : State} {g : Nat} {held : Nat} (hs : Kept s0 s) :
    Kept s0 (State.rilPaused s g held) := by
  unfold State.rilPaused
  try dsimp only
  repeat' (first | with_reducible (first | assumption | apply State.rilExpire_kept | apply State.rilCycles_kept | apply State.rilBreak_kept))

theorem State.rilRow_kept {s0 : State} {s : State} {g : Nat} {op : Nat} {held : Nat} (hs : Kept s0 s) :
    Kept s0 (State.rilRow s g op held) := by
  unfold State.rilRow
  try dsimp only
  repeat' (first | with_reducible (first | assumption | apply Kept.ite_fst | apply Kept.ite | apply KeptO.none | apply KeptO.some_id | apply KeptO.some | apply KeptO.ite | apply State.rilIssue_kept | apply State.rilPaused_kept))

end Sys2Proof.Machine
end

