-- ==== Sys2Proof/Laws/KeptDebug.lean ====
section
/-! SUPPORT. What every operation and meaning of Machine/Debug.lean keeps (Laws/Kept.lean says what that is): one lemma for each. -/
set_option maxRecDepth 4000
set_option linter.unusedVariables false
namespace Sys2Proof.Machine

theorem State.writeDu_kept {s0 : State} {s : State} {n : Nat} {c : Nat} {u : Nat} {r : Nat} {v : Nat} (hs : Kept s0 s) :
    Kept s0 (State.writeDu s n c u r v) := by
  unfold State.writeDu
  try dsimp only
  repeat' (first | with_reducible (first | assumption | apply Kept.ite_fst | apply Kept.ite | apply State.raise_kept | apply State.wr_kept | apply State.wrAll_kept) | split)

theorem execDebugUnitWrite_kept {s0 : State} {n : FieldId} {c : Fin 4} {u : Fin 8} {r : Fin 4} {v : Word} {s : State} (hs : Kept s0 s) :
    KeptR s0 (execDebugUnitWrite n c u r v s) := by
  unfold execDebugUnitWrite
  try dsimp only
  repeat' (first | with_reducible (first | assumption | intro s x _ | intro s _ | intro x | apply KeptR.next | apply KeptR.ite | apply State.writeDu_kept | apply State.access_kept))

theorem State.resumeEngine_kept {s0 : State} {s : State} {g : Nat} (hs : Kept s0 s) :
    Kept s0 (State.resumeEngine s g) := by
  unfold State.resumeEngine
  try dsimp only
  repeat' (first | with_reducible (first | assumption | apply State.used_kept | apply State.setEng_kept | apply State.setRilState_kept | apply State.clearHstat_kept | apply State.rilReload_kept | apply State.trace_kept))

theorem State.haltCommand_kept {s0 : State} {s : State} {g : Nat} {halt : Bool} {resume : Bool} {step : Bool} (hs : Kept s0 s) :
    Kept s0 (State.haltCommand s g halt resume step) := by
  unfold State.haltCommand
  try dsimp only
  repeat' (first | with_reducible (first | assumption | apply Kept.ite_fst | apply Kept.ite | apply State.resumeEngine_kept | apply State.raise_kept | apply State.requestHalt_kept | apply State.rilStep_kept))

theorem State.writeHcmd_kept {s0 : State} {s : State} {n : Nat} {c : Nat} {v : Nat} (hs : Kept s0 s) :
    Kept s0 (State.writeHcmd s n c v) := by
  unfold State.writeHcmd
  try dsimp only
  repeat' (first | with_reducible (first | assumption | intro s x _ | intro s _ | intro x | apply Kept.ite_fst | apply Kept.ite | apply Kept.foldl | apply Kept.foldl_fst | apply State.haltCommand_kept) | split)

theorem execEngineHalt_kept {s0 : State} {g : EngId} {s : State} (hs : Kept s0 s) :
    KeptR s0 (execEngineHalt g s) := by
  unfold execEngineHalt
  try dsimp only
  repeat' (first | with_reducible (first | assumption | intro s x _ | intro s _ | intro x | apply KeptR.next | apply KeptR.ite | apply State.writeHcmd_kept | apply State.access_kept))

theorem execEngineResume_kept {s0 : State} {g : EngId} {s : State} (hs : Kept s0 s) :
    KeptR s0 (execEngineResume g s) := by
  unfold execEngineResume
  try dsimp only
  repeat' (first | with_reducible (first | assumption | intro s x _ | intro s _ | intro x | apply KeptR.next | apply KeptR.ite | apply State.writeHcmd_kept | apply State.access_kept))

theorem execEngineStep_kept {s0 : State} {g : EngId} {s : State} (hs : Kept s0 s) :
    KeptR s0 (execEngineStep g s) := by
  unfold execEngineStep
  try dsimp only
  repeat' (first | with_reducible (first | assumption | intro s x _ | intro s _ | intro x | apply KeptR.next | apply KeptR.ite | apply State.writeHcmd_kept | apply State.access_kept))

theorem execHaltDeferTimeout_kept {s0 : State} {g : EngId} {s : State} (hs : Kept s0 s) :
    KeptR s0 (execHaltDeferTimeout g s) := by
  unfold execHaltDeferTimeout
  try dsimp only
  repeat' (first | with_reducible (first | assumption | apply KeptR.next | apply KeptR.ite | apply Kept.ite_fst | apply Kept.ite | apply State.rilCycles_kept | apply State.rilBreak_kept))

theorem State.writeSp_kept {s0 : State} {s : State} {n : Nat} {e : Nat} {p : Nat} {v : Nat} (hs : Kept s0 s) :
    Kept s0 (State.writeSp s n e p v) := by
  unfold State.writeSp
  try dsimp only
  repeat' (first | with_reducible (first | assumption | apply State.trace_kept))

theorem execStimulusWrite_kept {s0 : State} {n : FieldId} {e : Fin 32} {p : Fin 32} {v : Word} {s : State} (hs : Kept s0 s) :
    KeptR s0 (execStimulusWrite n e p v s) := by
  unfold execStimulusWrite
  try dsimp only
  repeat' (first | with_reducible (first | assumption | intro s x _ | intro s _ | intro x | apply KeptR.next | apply KeptR.ite | apply State.writeSp_kept | apply State.access_kept))

theorem execFabricStimulus_kept {s0 : State} {n : FieldId} {port : Fin 256} {size : Fin 16} {data : BitVec 128} {s : State} (hs : Kept s0 s) :
    KeptR s0 (execFabricStimulus n port size data s) := by
  unfold execFabricStimulus
  try dsimp only
  repeat' (first | with_reducible (first | assumption | apply KeptR.next | apply KeptR.ite | apply Kept.ite_fst | apply Kept.ite | apply State.trace_kept))

theorem State.writeTcfg_kept {s0 : State} {s : State} {u : Nat} {v : Nat} (hs : Kept s0 s) :
    Kept s0 (State.writeTcfg s u v) := by
  unfold State.writeTcfg
  try dsimp only
  repeat' (first | with_reducible (first | assumption | apply Kept.ite_fst | apply Kept.ite | apply State.set_kept | apply State.set2_kept | apply State.wrAll_kept | apply State.setRing_kept))

theorem execTraceEnable_kept {s0 : State} {u : Fin 9} {v : Word} {s : State} (hs : Kept s0 s) :
    KeptR s0 (execTraceEnable u v s) := by
  unfold execTraceEnable
  try dsimp only
  repeat' (first | with_reducible (first | assumption | intro s x _ | intro s _ | intro x | apply KeptR.next | apply KeptR.ite | apply Kept.ite_fst | apply Kept.ite | apply State.writeTcfg_kept | apply State.access_kept))

theorem State.ringAdvance_kept {s0 : State} {s : State} {u : Nat} {rest : List (List Byte)} (hs : Kept s0 s) :
    Kept s0 (State.ringAdvance s u rest) := by
  unfold State.ringAdvance
  try dsimp only
  repeat' (first | with_reducible (first | assumption | apply Kept.ite_fst | apply Kept.ite | apply State.set_kept | apply State.count_kept | apply State.set2_kept | apply State.setRing_kept))

theorem State.ringWritten_kept {s0 : State} {s : State} {u : Nat} {a : Nat} {rest : List (List Byte)} {w : State × RStat} (hs : Kept s0 s) (hw : Kept s0 w.1) :
    Kept s0 (State.ringWritten s u a rest w) := by
  unfold State.ringWritten
  try dsimp only
  repeat' (first | with_reducible (first | assumption | apply Kept.ite_fst | apply Kept.ite | apply State.ringAdvance_kept | apply State.dropPosted_kept))

theorem execTracePacketWrite_kept {s0 : State} {u : Fin 9} {s : State} (hs : Kept s0 s) :
    KeptR s0 (execTracePacketWrite u s) := by
  unfold execTracePacketWrite
  try dsimp only
  repeat' (first | with_reducible (first | assumption | apply KeptR.next | apply KeptR.ite | apply Kept.ite_fst | apply Kept.ite | apply State.ringWritten_kept | apply State.netStore_kept | refine Kept.of_fst (by assumption) ?_) | split)

theorem State.gaugeChallenge_kept {s0 : State} {s : State} (hs : Kept s0 s) :
    Kept s0 (State.gaugeChallenge s) := by
  unfold State.gaugeChallenge
  try dsimp only
  repeat' (first | with_reducible (first | assumption | intro s x _ | intro s _ | intro x | apply Kept.foldl | apply Kept.foldl_fst | apply KeptC.of_state | apply KeptC.csr_set | apply KeptC.tags_put | apply KeptC.tags_drop | apply KeptC.out_append | apply State.set_kept | apply State.used_kept) | simp only [Kept.mk_iff])

theorem execGaugeChallenge_kept {s0 : State} {s : State} (hs : Kept s0 s) :
    KeptR s0 (execGaugeChallenge s) := by
  unfold execGaugeChallenge
  try dsimp only
  repeat' (first | with_reducible (first | assumption | apply KeptR.next | apply KeptR.ite | apply KeptO.none | apply KeptO.some_id | apply KeptO.some | apply KeptO.ite | apply State.gaugeChallenge_kept | apply State.answer_kept | apply State.answerData_kept) | split)

theorem State.gaugeLock_kept {s0 : State} {s : State} (hs : Kept s0 s) :
    Kept s0 (State.gaugeLock s) := by
  unfold State.gaugeLock
  try dsimp only
  repeat' (first | with_reducible (first | assumption | intro s x _ | intro s _ | intro x | apply Kept.foldl | apply Kept.foldl_fst | apply State.set_kept | apply State.lower_kept))

theorem State.gaugeGo_kept {s0 : State} {s : State} (hs : Kept s0 s) :
    Kept s0 (State.gaugeGo s) := by
  unfold State.gaugeGo
  try dsimp only
  repeat' (first | with_reducible (first | assumption | apply Kept.ite_fst | apply Kept.ite | apply KeptC.of_state | apply KeptC.csr_set | apply KeptC.tags_put | apply KeptC.tags_drop | apply KeptC.out_append | apply State.set_kept | apply State.raise_kept | apply State.logEvent_kept) | simp only [Kept.mk_iff])

theorem State.writeGauCmd_kept {s0 : State} {s : State} {v : Nat} (hs : Kept s0 s) :
    Kept s0 (State.writeGauCmd s v) := by
  unfold State.writeGauCmd
  try dsimp only
  repeat' (first | with_reducible (first | assumption | apply Kept.ite_fst | apply Kept.ite | apply State.gaugeLock_kept | apply State.gaugeGo_kept | apply State.raise_kept))

theorem execGaugeUnlock_kept {s0 : State} {s : State} (hs : Kept s0 s) :
    KeptR s0 (execGaugeUnlock s) := by
  unfold execGaugeUnlock
  try dsimp only
  repeat' (first | with_reducible (first | assumption | intro s x _ | intro s _ | intro x | apply KeptR.next | apply KeptR.ite | apply State.writeGauCmd_kept | apply State.access_kept))

theorem execRelock_kept {s0 : State} {s : State} (hs : Kept s0 s) :
    KeptR s0 (execRelock s) := by
  unfold execRelock
  try dsimp only
  repeat' (first | with_reducible (first | assumption | intro s x _ | intro s _ | intro x | apply KeptR.next | apply KeptR.ite | apply State.writeGauCmd_kept | apply State.access_kept))

theorem execGaugeExpiry_kept {s0 : State} {s : State} (hs : Kept s0 s) :
    KeptR s0 (execGaugeExpiry s) := by
  unfold execGaugeExpiry
  try dsimp only
  repeat' (first | with_reducible (first | assumption | apply KeptR.next | apply KeptR.ite | apply Kept.ite_fst | apply Kept.ite | apply State.gaugeLock_kept))

theorem State.writeGauge_kept {s0 : State} {s : State} {i : Nat} {v : Nat} (hs : Kept s0 s) :
    Kept s0 (State.writeGauge s i v) := by
  unfold State.writeGauge
  try dsimp only
  repeat' (first | with_reducible (first | assumption | apply Kept.ite_fst | apply Kept.ite | apply State.raise_kept | apply State.wrAll_kept) | split)

theorem execGaugeSelect_kept {s0 : State} {i : Fin 48} {v : Word} {s : State} (hs : Kept s0 s) :
    KeptR s0 (execGaugeSelect i v s) := by
  unfold execGaugeSelect
  try dsimp only
  repeat' (first | with_reducible (first | assumption | intro s x _ | intro s _ | intro x | apply KeptR.next | apply KeptR.ite | apply State.writeGauge_kept | apply State.access_kept))

theorem State.gaugeCycle_kept {s0 : State} {s : State} (hs : Kept s0 s) :
    Kept s0 (State.gaugeCycle s) := by
  unfold State.gaugeCycle
  try dsimp only
  repeat' (first | with_reducible (first | assumption | intro s x _ | intro s _ | intro x | apply Kept.ite_fst | apply Kept.ite | apply Kept.foldl | apply Kept.foldl_fst | apply KeptC.of_state | apply KeptC.csr_set | apply KeptC.tags_put | apply KeptC.tags_drop | apply KeptC.out_append | apply State.emit_kept) | simp only [Kept.mk_iff])

theorem State.tapTakes_kept {s0 : State} {s : State} {die : Nat} {code : Nat} {needs : Bool} (hs : Kept s0 s) :
    Kept s0 (State.tapTakes s die code needs) := by
  unfold State.tapTakes
  try dsimp only
  repeat' (first | with_reducible (first | assumption | apply Kept.ite_fst | apply Kept.ite | apply KeptC.of_state | apply KeptC.csr_set | apply KeptC.tags_put | apply KeptC.tags_drop | apply KeptC.out_append) | simp only [Kept.mk_iff])

theorem State.tapRow_kept {s0 : State} {s : State} {die : Nat} {code : Nat} {needs : Bool} {f : State → State} (hs : Kept s0 s) (hf : ∀ s, Kept s0 s → Kept s0 (f s)) :
    Kept s0 (State.tapRow s die code needs f) := by
  unfold State.tapRow
  try dsimp only
  repeat' (first | with_reducible (first | assumption | apply hf | apply Kept.ite_fst | apply Kept.ite | apply State.tapTakes_kept | apply State.answer_kept))

theorem State.drive_kept {s0 : State} {s : State} {die : Nat} {code : Nat} (hs : Kept s0 s) :
    Kept s0 (State.drive s die code) := by
  unfold State.drive
  try dsimp only
  repeat' (first | with_reducible (first | assumption | apply State.emit_kept))

theorem execBypass_kept {s0 : State} {die : Fin 9} {s : State} (hs : Kept s0 s) :
    KeptR s0 (execBypass die s) := by
  unfold execBypass
  exact KeptR.next (State.tapRow_kept hs (fun _ h => h))

theorem execIdcode_kept {s0 : State} {die : Fin 9} {s : State} (hs : Kept s0 s) :
    KeptR s0 (execIdcode die s) := by
  unfold execIdcode
  try dsimp only
  repeat' (first | with_reducible (first | assumption | intro s x _ | intro s _ | intro x | apply KeptR.next | apply KeptR.ite | apply State.tapRow_kept | apply State.answerData_kept))

theorem execSamplePreload_kept {s0 : State} {die : Fin 9} {captured : List Bool} {shifted : List Bool} {s : State} (hs : Kept s0 s) :
    KeptR s0 (execSamplePreload die captured shifted s) := by
  unfold execSamplePreload
  try dsimp only
  repeat' (first | with_reducible (first | assumption | intro s x _ | intro s _ | intro x | apply KeptR.next | apply KeptR.ite | apply Kept.ite_fst | apply Kept.ite | apply KeptC.of_state | apply KeptC.csr_set | apply KeptC.tags_put | apply KeptC.tags_drop | apply KeptC.out_append | apply State.tapRow_kept | apply State.answerData_kept) | simp only [Kept.mk_iff])

theorem execExtest_kept {s0 : State} {die : Fin 9} {s : State} (hs : Kept s0 s) :
    KeptR s0 (execExtest die s) := by
  unfold execExtest
  try dsimp only
  repeat' (first | with_reducible (first | assumption | intro s x _ | intro s _ | intro x | apply KeptR.next | apply KeptR.ite | apply State.tapRow_kept | apply State.drive_kept))

theorem execExtestPulse_kept {s0 : State} {die : Fin 9} {s : State} (hs : Kept s0 s) :
    KeptR s0 (execExtestPulse die s) := by
  unfold execExtestPulse
  try dsimp only
  repeat' (first | with_reducible (first | assumption | intro s x _ | intro s _ | intro x | apply KeptR.next | apply KeptR.ite | apply State.tapRow_kept | apply State.drive_kept))

theorem execExtestTrain_kept {s0 : State} {die : Fin 9} {s : State} (hs : Kept s0 s) :
    KeptR s0 (execExtestTrain die s) := by
  unfold execExtestTrain
  try dsimp only
  repeat' (first | with_reducible (first | assumption | intro s x _ | intro s _ | intro x | apply KeptR.next | apply KeptR.ite | apply State.tapRow_kept | apply State.drive_kept))

theorem execClamp_kept {s0 : State} {die : Fin 9} {s : State} (hs : Kept s0 s) :
    KeptR s0 (execClamp die s) := by
  unfold execClamp
  try dsimp only
  repeat' (first | with_reducible (first | assumption | intro s x _ | intro s _ | intro x | apply KeptR.next | apply KeptR.ite | apply State.tapRow_kept | apply State.drive_kept))

theorem execHighz_kept {s0 : State} {die : Fin 9} {s : State} (hs : Kept s0 s) :
    KeptR s0 (execHighz die s) := by
  unfold execHighz
  try dsimp only
  repeat' (first | with_reducible (first | assumption | intro s x _ | intro s _ | intro x | apply KeptR.next | apply KeptR.ite | apply State.tapRow_kept | apply State.emit_kept))

theorem execStandalone_kept {s0 : State} {die : Fin 9} {s : State} (hs : Kept s0 s) :
    KeptR s0 (execStandalone die s) := by
  unfold execStandalone
  exact KeptR.next (State.tapRow_kept hs (fun _ h => h))

theorem execLbresult_kept {s0 : State} {die : Fin 9} {errs : List Word} {s : State} (hs : Kept s0 s) :
    KeptR s0 (execLbresult die errs s) := by
  unfold execLbresult
  try dsimp only
  repeat' (first | with_reducible (first | assumption | intro s x _ | intro s _ | intro x | apply KeptR.next | apply KeptR.ite | apply State.tapRow_kept | apply State.answerData_kept))

theorem execTestEnChange_kept {s0 : State} {level : Bool} {s : State} (hs : Kept s0 s) :
    KeptR s0 (execTestEnChange level s) := by
  unfold execTestEnChange
  try dsimp only
  repeat' (first | with_reducible (first | assumption | apply KeptR.next | apply KeptR.ite | apply Kept.ite_fst | apply Kept.ite | apply KeptC.of_state | apply KeptC.csr_set | apply KeptC.tags_put | apply KeptC.tags_drop | apply KeptC.out_append | apply State.pkr_kept | apply State.pkrHeld_kept | apply State.unhold_kept) | simp only [Kept.mk_iff])

end Sys2Proof.Machine
end

