-- ==== Sys2Proof/Laws/KeptEngine.lean ====
section
/-! SUPPORT. What every operation and meaning of Machine/Engine.lean keeps (Laws/Kept.lean says what that is): one lemma for each. -/
set_option maxRecDepth 4000
set_option linter.unusedVariables false
namespace Sys2Proof.Machine

theorem execEngineStart_kept {s0 : State} {g : EngId} {entry : Fin 32768} {s : State} (hs : Kept s0 s) :
    KeptR s0 (execEngineStart g entry s) := by
  unfold execEngineStart
  try dsimp only
  repeat' (first | with_reducible (first | assumption | intro s x _ | intro s _ | intro x | apply KeptR.next | apply KeptR.ite | apply State.access_kept | apply State.writeEctrl_kept))

theorem execEngineReset_kept {s0 : State} {g : EngId} {entry : Fin 32768} {s : State} (hs : Kept s0 s) :
    KeptR s0 (execEngineReset g entry s) := by
  unfold execEngineReset
  try dsimp only
  repeat' (first | with_reducible (first | assumption | intro s x _ | intro s _ | intro x | apply KeptR.next | apply KeptR.ite | apply State.access_kept | apply State.writeEctrl_kept))

theorem execEngineResetDone_kept {s0 : State} {g : EngId} {s : State} (hs : Kept s0 s) :
    KeptR s0 (execEngineResetDone g s) := by
  unfold execEngineResetDone
  try dsimp only
  repeat' (first | with_reducible (first | assumption | apply KeptR.next | apply KeptR.ite | apply State.rilResetEnd_kept))

theorem execEngineResetWedged_kept {s0 : State} {g : EngId} {s : State} (hs : Kept s0 s) :
    KeptR s0 (execEngineResetWedged g s) := by
  unfold execEngineResetWedged
  try dsimp only
  repeat' (first | with_reducible (first | assumption | apply KeptR.next | apply KeptR.ite | apply Kept.ite_fst | apply Kept.ite | apply State.setEng_kept | apply State.rset_kept | apply State.rilFault_kept))

theorem State.writePlcmd_kept {s0 : State} {s : State} {k : Nat} {v : Nat} (hs : Kept s0 s) :
    Kept s0 (State.writePlcmd s k v) := by
  unfold State.writePlcmd
  try dsimp only
  repeat' (first | with_reducible (first | assumption | apply Kept.ite_fst | apply Kept.ite | apply KeptC.of_state | apply KeptC.csr_set | apply KeptC.tags_put | apply KeptC.tags_drop | apply KeptC.out_append | apply State.raise_kept | apply State.wrAll_kept | apply State.w1c_kept) | simp only [Kept.mk_iff])

theorem execPatchLoad_kept {s0 : State} {k : ClusterId} {v : Word} {s : State} (hs : Kept s0 s) :
    KeptR s0 (execPatchLoad k v s) := by
  unfold execPatchLoad
  try dsimp only
  repeat' (first | with_reducible (first | assumption | intro s x _ | intro s _ | intro x | apply KeptR.next | apply KeptR.ite | apply State.writePlcmd_kept | apply State.access_kept))

theorem State.patchEnd_kept {s0 : State} {s : State} {k : Nat} {err : Bool} (hs : Kept s0 s) :
    Kept s0 (State.patchEnd s k err) := by
  unfold State.patchEnd
  try dsimp only
  repeat' (first | with_reducible (first | assumption | apply Kept.ite_fst | apply Kept.ite | apply KeptC.of_state | apply KeptC.csr_set | apply KeptC.tags_put | apply KeptC.tags_drop | apply KeptC.out_append | apply State.raise_kept | apply State.lower_kept) | simp only [Kept.mk_iff])

theorem State.patchWords_kept {s0 : State} {s : State} {k : Nat} {p : PatchLd} {x3 : Nat} (hs : Kept s0 s) :
    Kept s0 (State.patchWords s k p x3) := by
  revert hs
  induction x3 generalizing s k p with
  | zero =>
    intro hs; unfold State.patchWords; try dsimp only
    repeat' (first | with_reducible (first | assumption | apply Kept.ite_fst | apply Kept.ite | apply KeptC.of_state | apply KeptC.csr_set | apply KeptC.tags_put | apply KeptC.tags_drop | apply KeptC.out_append | apply State.patchEnd_kept | apply State.keepResp_kept | apply State.rsvRead_kept) | simp only [Kept.mk_iff] | split)
  | succ n ih =>
    intro hs; unfold State.patchWords; try dsimp only
    repeat' (first | with_reducible (first | assumption | apply Kept.ite_fst | apply Kept.ite | apply KeptC.of_state | apply KeptC.csr_set | apply KeptC.tags_put | apply KeptC.tags_drop | apply KeptC.out_append | apply ih | apply State.patchEnd_kept | apply State.keepResp_kept | apply State.rsvRead_kept) | simp only [Kept.mk_iff] | split)

theorem execPatchLoadDone_kept {s0 : State} {k : ClusterId} {s : State} (hs : Kept s0 s) :
    KeptR s0 (execPatchLoadDone k s) := by
  unfold execPatchLoadDone
  try dsimp only
  repeat' (first | with_reducible (first | assumption | apply KeptR.next | apply KeptR.ite | apply KeptO.none | apply KeptO.some_id | apply KeptO.some | apply KeptO.ite | apply State.patchWords_kept) | split)

theorem execWatchdogExpiry_kept {s0 : State} {g : EngId} {s : State} (hs : Kept s0 s) :
    KeptR s0 (execWatchdogExpiry g s) := by
  unfold execWatchdogExpiry
  try dsimp only
  repeat' (first | with_reducible (first | assumption | apply KeptR.next | apply KeptR.ite | apply Kept.ite_fst | apply Kept.ite | apply State.rilExpire_kept | apply State.rilCycles_kept))

theorem execClusterClockStop_kept {s0 : State} {k : ClusterId} {s : State} (hs : Kept s0 s) :
    KeptR s0 (execClusterClockStop k s) := by
  unfold execClusterClockStop
  try dsimp only
  repeat' (first | with_reducible (first | assumption | apply KeptR.next | apply KeptR.ite | apply Kept.ite_fst | apply Kept.ite | apply State.raise_kept | apply State.setBitOf_kept))

theorem execXyExternalAccess_kept {s0 : State} {g : EngId} {forced : Bool} {s : State} (hs : Kept s0 s) :
    KeptR s0 (execXyExternalAccess g forced s) := by
  unfold execXyExternalAccess
  try dsimp only
  repeat' (first | with_reducible (first | assumption | apply KeptR.next | apply KeptR.ite | apply Kept.ite_fst | apply Kept.ite | apply State.count_kept | apply State.wakeCluster_kept | apply State.rilExpire_kept | apply State.rilCycles_kept | apply State.rilBreak_kept))

theorem execRillNop_kept {s0 : State} {g : EngId} {held : Nat} {s : State} (hs : Kept s0 s) :
    KeptR s0 (execRillNop g held s) := by
  unfold execRillNop
  try dsimp only
  repeat' (first | with_reducible (first | assumption | apply KeptR.next | apply KeptR.ite | apply State.rilRow_kept))

theorem execCmac_kept {s0 : State} {g : EngId} {held : Nat} {s : State} (hs : Kept s0 s) :
    KeptR s0 (execCmac g held s) := by
  unfold execCmac
  try dsimp only
  repeat' (first | with_reducible (first | assumption | apply KeptR.next | apply KeptR.ite | apply State.rilRow_kept))

theorem execDmac_kept {s0 : State} {g : EngId} {held : Nat} {s : State} (hs : Kept s0 s) :
    KeptR s0 (execDmac g held s) := by
  unfold execDmac
  try dsimp only
  repeat' (first | with_reducible (first | assumption | apply KeptR.next | apply KeptR.ite | apply State.rilRow_kept))

theorem execBfly_kept {s0 : State} {g : EngId} {held : Nat} {s : State} (hs : Kept s0 s) :
    KeptR s0 (execBfly g held s) := by
  unfold execBfly
  try dsimp only
  repeat' (first | with_reducible (first | assumption | apply KeptR.next | apply KeptR.ite | apply State.rilRow_kept))

theorem execAop_kept {s0 : State} {g : EngId} {held : Nat} {s : State} (hs : Kept s0 s) :
    KeptR s0 (execAop g held s) := by
  unfold execAop
  try dsimp only
  repeat' (first | with_reducible (first | assumption | apply KeptR.next | apply KeptR.ite | apply State.rilRow_kept))

theorem execAst_kept {s0 : State} {g : EngId} {held : Nat} {s : State} (hs : Kept s0 s) :
    KeptR s0 (execAst g held s) := by
  unfold execAst
  try dsimp only
  repeat' (first | with_reducible (first | assumption | apply KeptR.next | apply KeptR.ite | apply State.rilRow_kept))

theorem execCalu_kept {s0 : State} {g : EngId} {held : Nat} {s : State} (hs : Kept s0 s) :
    KeptR s0 (execCalu g held s) := by
  unfold execCalu
  try dsimp only
  repeat' (first | with_reducible (first | assumption | apply KeptR.next | apply KeptR.ite | apply State.rilRow_kept))

theorem execRalu_kept {s0 : State} {g : EngId} {held : Nat} {s : State} (hs : Kept s0 s) :
    KeptR s0 (execRalu g held s) := by
  unfold execRalu
  try dsimp only
  repeat' (first | with_reducible (first | assumption | apply KeptR.next | apply KeptR.ite | apply State.rilRow_kept))

theorem execAcs_kept {s0 : State} {g : EngId} {held : Nat} {s : State} (hs : Kept s0 s) :
    KeptR s0 (execAcs g held s) := by
  unfold execAcs
  try dsimp only
  repeat' (first | with_reducible (first | assumption | apply KeptR.next | apply KeptR.ite | apply State.rilRow_kept))

theorem execBexp_kept {s0 : State} {g : EngId} {held : Nat} {s : State} (hs : Kept s0 s) :
    KeptR s0 (execBexp g held s) := by
  unfold execBexp
  try dsimp only
  repeat' (first | with_reducible (first | assumption | apply KeptR.next | apply KeptR.ite | apply State.rilRow_kept))

theorem execScale_kept {s0 : State} {g : EngId} {held : Nat} {s : State} (hs : Kept s0 s) :
    KeptR s0 (execScale g held s) := by
  unfold execScale
  try dsimp only
  repeat' (first | with_reducible (first | assumption | apply KeptR.next | apply KeptR.ite | apply State.rilRow_kept))

theorem execLdi_kept {s0 : State} {g : EngId} {held : Nat} {s : State} (hs : Kept s0 s) :
    KeptR s0 (execLdi g held s) := by
  unfold execLdi
  try dsimp only
  repeat' (first | with_reducible (first | assumption | apply KeptR.next | apply KeptR.ite | apply State.rilRow_kept))

theorem execMovr_kept {s0 : State} {g : EngId} {held : Nat} {s : State} (hs : Kept s0 s) :
    KeptR s0 (execMovr g held s) := by
  unfold execMovr
  try dsimp only
  repeat' (first | with_reducible (first | assumption | apply KeptR.next | apply KeptR.ite | apply State.rilRow_kept))

theorem execStb_kept {s0 : State} {g : EngId} {held : Nat} {s : State} (hs : Kept s0 s) :
    KeptR s0 (execStb g held s) := by
  unfold execStb
  try dsimp only
  repeat' (first | with_reducible (first | assumption | apply KeptR.next | apply KeptR.ite | apply State.rilRow_kept))

theorem execBr_kept {s0 : State} {g : EngId} {held : Nat} {s : State} (hs : Kept s0 s) :
    KeptR s0 (execBr g held s) := by
  unfold execBr
  try dsimp only
  repeat' (first | with_reducible (first | assumption | apply KeptR.next | apply KeptR.ite | apply State.rilRow_kept))

theorem execCall_kept {s0 : State} {g : EngId} {held : Nat} {s : State} (hs : Kept s0 s) :
    KeptR s0 (execCall g held s) := by
  unfold execCall
  try dsimp only
  repeat' (first | with_reducible (first | assumption | apply KeptR.next | apply KeptR.ite | apply State.rilRow_kept))

theorem execJmpr_kept {s0 : State} {g : EngId} {held : Nat} {s : State} (hs : Kept s0 s) :
    KeptR s0 (execJmpr g held s) := by
  unfold execJmpr
  try dsimp only
  repeat' (first | with_reducible (first | assumption | apply KeptR.next | apply KeptR.ite | apply State.rilRow_kept))

theorem execDo_kept {s0 : State} {g : EngId} {held : Nat} {s : State} (hs : Kept s0 s) :
    KeptR s0 (execDo g held s) := by
  unfold execDo
  try dsimp only
  repeat' (first | with_reducible (first | assumption | apply KeptR.next | apply KeptR.ite | apply State.rilRow_kept))

theorem execRillStop_kept {s0 : State} {g : EngId} {held : Nat} {s : State} (hs : Kept s0 s) :
    KeptR s0 (execRillStop g held s) := by
  unfold execRillStop
  try dsimp only
  repeat' (first | with_reducible (first | assumption | apply KeptR.next | apply KeptR.ite | apply State.rilRow_kept))

theorem execWdr_kept {s0 : State} {g : EngId} {held : Nat} {s : State} (hs : Kept s0 s) :
    KeptR s0 (execWdr g held s) := by
  unfold execWdr
  try dsimp only
  repeat' (first | with_reducible (first | assumption | apply KeptR.next | apply KeptR.ite | apply State.rilRow_kept))

theorem execRillLoad_kept {s0 : State} {g : EngId} {held : Nat} {s : State} (hs : Kept s0 s) :
    KeptR s0 (execRillLoad g held s) := by
  unfold execRillLoad
  try dsimp only
  repeat' (first | with_reducible (first | assumption | apply KeptR.next | apply KeptR.ite | apply State.rilRow_kept))

theorem execStore_kept {s0 : State} {g : EngId} {held : Nat} {s : State} (hs : Kept s0 s) :
    KeptR s0 (execStore g held s) := by
  unfold execStore
  try dsimp only
  repeat' (first | with_reducible (first | assumption | apply KeptR.next | apply KeptR.ite | apply State.rilRow_kept))

theorem execRillLl_kept {s0 : State} {g : EngId} {held : Nat} {s : State} (hs : Kept s0 s) :
    KeptR s0 (execRillLl g held s) := by
  unfold execRillLl
  try dsimp only
  repeat' (first | with_reducible (first | assumption | apply KeptR.next | apply KeptR.ite | apply State.rilRow_kept))

theorem execRillSc_kept {s0 : State} {g : EngId} {held : Nat} {s : State} (hs : Kept s0 s) :
    KeptR s0 (execRillSc g held s) := by
  unfold execRillSc
  try dsimp only
  repeat' (first | with_reducible (first | assumption | apply KeptR.next | apply KeptR.ite | apply State.rilRow_kept))

theorem execRillAmo_kept {s0 : State} {g : EngId} {held : Nat} {s : State} (hs : Kept s0 s) :
    KeptR s0 (execRillAmo g held s) := by
  unfold execRillAmo
  try dsimp only
  repeat' (first | with_reducible (first | assumption | apply KeptR.next | apply KeptR.ite | apply State.rilRow_kept))

theorem execBlk_kept {s0 : State} {g : EngId} {held : Nat} {s : State} (hs : Kept s0 s) :
    KeptR s0 (execBlk g held s) := by
  unfold execBlk
  try dsimp only
  repeat' (first | with_reducible (first | assumption | apply KeptR.next | apply KeptR.ite | apply State.rilRow_kept))

theorem execRillFlush_kept {s0 : State} {g : EngId} {held : Nat} {s : State} (hs : Kept s0 s) :
    KeptR s0 (execRillFlush g held s) := by
  unfold execRillFlush
  try dsimp only
  repeat' (first | with_reducible (first | assumption | apply KeptR.next | apply KeptR.ite | apply State.rilRow_kept))

theorem execBwait_kept {s0 : State} {g : EngId} {held : Nat} {s : State} (hs : Kept s0 s) :
    KeptR s0 (execBwait g held s) := by
  unfold execBwait
  try dsimp only
  repeat' (first | with_reducible (first | assumption | apply KeptR.next | apply KeptR.ite | apply State.rilRow_kept))

theorem State.putXy_kept {s0 : State} {s : State} {g : Nat} {a : Nat} {x3 : Nat} {x4 : List Byte} (hs : Kept s0 s) :
    Kept s0 (State.putXy s g a x3 x4) := by
  revert hs
  induction x3 generalizing s g a x4 with
  | zero =>
    intro hs; unfold State.putXy; try dsimp only
    repeat' (first | with_reducible (first | assumption | apply KeptO.none | apply KeptO.some_id | apply KeptO.some | apply KeptO.ite | apply State.writeWord_kept | refine Kept.of_fst (by assumption) ?_) | split)
  | succ n ih =>
    intro hs; unfold State.putXy; try dsimp only
    repeat' (first | with_reducible (first | assumption | apply KeptO.none | apply KeptO.some_id | apply KeptO.some | apply KeptO.ite | apply ih | apply State.writeWord_kept | refine Kept.of_fst (by assumption) ?_) | split)

theorem State.readLine_kept {s0 : State} {s : State} {src : Nat} {w : Nat} (hs : Kept s0 s) :
    Kept s0 (State.readLine s src w).1 := by
  unfold State.readLine
  try dsimp only
  repeat' (first | with_reducible (first | assumption | apply State.readWords_kept) | dsimp only)

theorem State.putLine_kept {s0 : State} {s : State} {g : Nat} {a : Nat} {l : List Byte} (hs : Kept s0 s) :
    Kept s0 (State.putLine s g a l) := by
  unfold State.putLine
  try dsimp only
  repeat' (first | with_reducible (first | assumption | apply State.putXy_kept))

theorem State.blockOut_kept {s0 : State} {s : State} {g : Nat} {xy : Nat} {i : Nat} {x : Nat} (hs : Kept s0 s) :
    Kept s0 (State.blockOut s g xy i x).1 := by
  unfold State.blockOut
  try dsimp only
  repeat' (first | with_reducible (first | assumption | apply KeptO.none | apply KeptO.some_id | apply KeptO.some | apply KeptO.ite | apply State.readLine_kept | apply State.eccCount_kept | apply State.used_kept | apply State.keepResp_kept | apply State.rsvWrites_kept | refine Kept.of_fst (by assumption) ?_) | split | dsimp only)

theorem State.blockIn_kept {s0 : State} {s : State} {g : Nat} {xy : Nat} {i : Nat} {x : Nat} (hs : Kept s0 s) :
    Kept s0 (State.blockIn s g xy i x).1 := by
  unfold State.blockIn
  try dsimp only
  repeat' (first | with_reducible (first | assumption | apply Kept.ite_fst | apply Kept.ite | apply State.putLine_kept | apply State.keepResp_kept | apply State.rsvRead_kept) | dsimp only)

theorem State.doBlock_kept {s0 : State} {s : State} {g : Nat} {b : RilBlk} (hs : Kept s0 s) :
    Kept s0 (State.doBlock s g b).1 := by
  unfold State.doBlock
  try dsimp only
  repeat' (first | with_reducible (first | assumption | apply Kept.ite_fst | apply Kept.ite | apply KeptO.none | apply KeptO.some_id | apply KeptO.some | apply KeptO.ite | apply State.blockOut_kept | apply State.blockIn_kept | refine Kept.of_fst (by assumption) ?_) | split | dsimp only)

theorem execBlockTransferDone_kept {s0 : State} {g : EngId} {s : State} (hs : Kept s0 s) :
    KeptR s0 (execBlockTransferDone g s) := by
  unfold execBlockTransferDone
  try dsimp only
  repeat' (first | with_reducible (first | assumption | apply KeptR.next | apply KeptR.ite | apply Kept.ite_fst | apply Kept.ite | apply State.doBlock_kept | apply State.setEng_kept | apply State.rilFault_kept | apply State.rilAfter_kept | refine Kept.of_fst (by assumption) ?_) | split)

end Sys2Proof.Machine
end

