-- ==== Sys2Proof/Laws/KeptTime.lean ====
section
/-! SUPPORT. What every operation and meaning of Machine/Time.lean keeps (Laws/Kept.lean says what that is): one lemma for each. -/
set_option maxRecDepth 4000
set_option linter.unusedVariables false
namespace Sys2Proof.Machine

theorem State.setDtc_kept {s0 : State} {s : State} {t : Int} (hs : Kept s0 s) :
    Kept s0 (State.setDtc s t) := by
  unfold State.setDtc
  try dsimp only
  repeat' (first | with_reducible (first | assumption | apply KeptC.of_state | apply KeptC.csr_set | apply KeptC.tags_put | apply KeptC.tags_drop | apply KeptC.out_append) | simp only [Kept.mk_iff])

theorem State.mapSlaves_kept {s0 : State} {s : State} {p : Nat → Bool} {f : SlaveSt → SlaveSt} (hs : Kept s0 s) :
    Kept s0 (State.mapSlaves s p f) := by
  unfold State.mapSlaves
  try dsimp only
  repeat' (first | with_reducible (first | assumption | intro s x _ | intro s _ | intro x | apply Kept.ite_fst | apply Kept.ite | apply Kept.foldl | apply Kept.foldl_fst | apply State.setSlave_kept))

theorem State.tick_kept {s0 : State} {s : State} (hs : Kept s0 s) :
    Kept s0 (State.tick s) := by
  unfold State.tick
  try dsimp only
  repeat' (first | with_reducible (first | assumption | apply Kept.ite_fst | apply Kept.ite | apply State.setDtc_kept | apply State.mapSlaves_kept))

theorem execTclkLost_kept {s0 : State} {s : State} (hs : Kept s0 s) :
    KeptR s0 (execTclkLost s) := by
  unfold execTclkLost
  try dsimp only
  repeat' (first | with_reducible (first | assumption | apply KeptR.next | apply KeptR.ite | apply Kept.ite_fst | apply Kept.ite | apply State.lower_kept | apply State.setBitOf_kept | apply State.clearBitOf_kept | apply State.keepAlive_kept))

theorem execTclkRestored_kept {s0 : State} {s : State} (hs : Kept s0 s) :
    KeptR s0 (execTclkRestored s) := by
  unfold execTclkRestored
  try dsimp only
  repeat' (first | with_reducible (first | assumption | apply KeptR.next | apply KeptR.ite | apply Kept.ite_fst | apply Kept.ite | apply State.raise_kept | apply State.setBitOf_kept | apply State.keepAlive_kept))

theorem State.snapshot_kept {s0 : State} {s : State} {mc : Bool} (hs : Kept s0 s) :
    Kept s0 (State.snapshot s mc) := by
  unfold State.snapshot
  try dsimp only
  repeat' (first | with_reducible (first | assumption | apply Kept.ite_fst | apply Kept.ite | apply State.setStamp_kept))

theorem State.slaveSnapshot_kept {s0 : State} {s : State} {n : Nat} (hs : Kept s0 s) :
    Kept s0 (State.slaveSnapshot s n) := by
  unfold State.slaveSnapshot
  try dsimp only
  repeat' (first | with_reducible (first | assumption | apply State.setStamp_kept))

theorem execDtcSnapshot_kept {s0 : State} {mc : Bool} {s : State} (hs : Kept s0 s) :
    KeptR s0 (execDtcSnapshot mc s) := by
  unfold execDtcSnapshot
  try dsimp only
  repeat' (first | with_reducible (first | assumption | apply KeptR.next | apply KeptR.ite | apply KeptO.none | apply KeptO.some_id | apply KeptO.some | apply KeptO.ite | apply State.answer_kept | apply State.answerData_kept | apply State.snapshot_kept) | split)

theorem State.dtcCommand_kept {s0 : State} {s : State} {c : DtcCmd} (hs : Kept s0 s) :
    Kept s0 (State.dtcCommand s c) := by
  unfold State.dtcCommand
  try dsimp only
  repeat' (first | with_reducible (first | assumption | apply Kept.ite_fst | apply Kept.ite | apply KeptO.none | apply KeptO.some_id | apply KeptO.some | apply KeptO.ite | apply KeptC.of_state | apply KeptC.csr_set | apply KeptC.tags_put | apply KeptC.tags_drop | apply KeptC.out_append | apply State.raise_kept) | simp only [Kept.mk_iff])

theorem State.writeDtcCmd_kept {s0 : State} {s : State} {v : Nat} (hs : Kept s0 s) :
    Kept s0 (State.writeDtcCmd s v) := by
  unfold State.writeDtcCmd
  try dsimp only
  repeat' (first | with_reducible (first | assumption | apply State.raise_kept | apply State.dtcCommand_kept) | split)

theorem execDtcSet_kept {s0 : State} {s : State} (hs : Kept s0 s) :
    KeptR s0 (execDtcSet s) := by
  unfold execDtcSet
  try dsimp only
  repeat' (first | with_reducible (first | assumption | intro s x _ | intro s _ | intro x | apply KeptR.next | apply KeptR.ite | apply State.access_kept | apply State.writeDtcCmd_kept))

theorem execDtcAdj_kept {s0 : State} {s : State} (hs : Kept s0 s) :
    KeptR s0 (execDtcAdj s) := by
  unfold execDtcAdj
  try dsimp only
  repeat' (first | with_reducible (first | assumption | intro s x _ | intro s _ | intro x | apply KeptR.next | apply KeptR.ite | apply State.access_kept | apply State.writeDtcCmd_kept))

theorem execDtcApply_kept {s0 : State} {s : State} (hs : Kept s0 s) :
    KeptR s0 (execDtcApply s) := by
  unfold execDtcApply
  try dsimp only
  repeat' (first | with_reducible (first | assumption | apply KeptR.next | apply KeptR.ite | apply Kept.ite_fst | apply Kept.ite | apply KeptO.none | apply KeptO.some_id | apply KeptO.some | apply KeptO.ite | apply KeptC.of_state | apply KeptC.csr_set | apply KeptC.tags_put | apply KeptC.tags_drop | apply KeptC.out_append | apply State.raise_kept | apply State.lower_kept | apply State.setStamp_kept | apply State.mapSlaves_kept) | simp only [Kept.mk_iff] | split)

theorem State.writeIncrHi_kept {s0 : State} {s : State} {v : Nat} (hs : Kept s0 s) :
    Kept s0 (State.writeIncrHi s v) := by
  unfold State.writeIncrHi
  try dsimp only
  repeat' (first | with_reducible (first | assumption | apply Kept.ite_fst | apply Kept.ite | apply KeptC.of_state | apply KeptC.csr_set | apply KeptC.tags_put | apply KeptC.tags_drop | apply KeptC.out_append | apply State.set_kept | apply State.raise_kept) | simp only [Kept.mk_iff])

theorem State.writeIncrLo_kept {s0 : State} {s : State} {v : Nat} (hs : Kept s0 s) :
    Kept s0 (State.writeIncrLo s v) := by
  unfold State.writeIncrLo
  try dsimp only
  repeat' (first | with_reducible (first | assumption | apply Kept.ite_fst | apply Kept.ite | apply State.set_kept | apply State.raise_kept))

theorem execDtcIncrCommit_kept {s0 : State} {v : Word} {s : State} (hs : Kept s0 s) :
    KeptR s0 (execDtcIncrCommit v s) := by
  unfold execDtcIncrCommit
  try dsimp only
  repeat' (first | with_reducible (first | assumption | intro s x _ | intro s _ | intro x | apply KeptR.next | apply KeptR.ite | apply State.access_kept | apply State.writeIncrHi_kept))

theorem State.writeDtcCtrl_kept {s0 : State} {s : State} {v : Nat} (hs : Kept s0 s) :
    Kept s0 (State.writeDtcCtrl s v) := by
  unfold State.writeDtcCtrl
  try dsimp only
  repeat' (first | with_reducible (first | assumption | apply Kept.ite_fst | apply Kept.ite | apply KeptC.of_state | apply KeptC.csr_set | apply KeptC.tags_put | apply KeptC.tags_drop | apply KeptC.out_append | apply State.set_kept | apply State.raise_kept | apply State.lower_kept | apply State.setB_kept) | simp only [Kept.mk_iff])

theorem State.writeTpll_kept {s0 : State} {s : State} {v : Nat} (hs : Kept s0 s) :
    Kept s0 (State.writeTpll s v) := by
  unfold State.writeTpll
  try dsimp only
  repeat' (first | with_reducible (first | assumption | apply Kept.ite_fst | apply Kept.ite | apply KeptC.of_state | apply KeptC.csr_set | apply KeptC.tags_put | apply KeptC.tags_drop | apply KeptC.out_append | apply State.set_kept | apply State.raise_kept | apply State.lower_kept | apply State.wr_kept) | simp only [Kept.mk_iff])

theorem State.beacon_kept {s0 : State} {s : State} {n : Nat} {flight : Nat} (hs : Kept s0 s) :
    Kept s0 (State.beacon s n flight) := by
  unfold State.beacon
  try dsimp only
  repeat' (first | with_reducible (first | assumption | apply Kept.ite_fst | apply Kept.ite | apply KeptO.none | apply KeptO.some_id | apply KeptO.some | apply KeptO.ite | apply State.set_kept | apply State.raise_kept | apply State.lower_kept | apply State.setSlave_kept) | split)

theorem State.badReply_kept {s0 : State} {s : State} {n : Nat} {bad : Bool} (hs : Kept s0 s) :
    Kept s0 (State.badReply s n bad) := by
  unfold State.badReply
  try dsimp only
  repeat' (first | with_reducible (first | assumption | apply Kept.ite_fst | apply Kept.ite | apply State.count_kept))

theorem execDelay_kept {s0 : State} {n : FieldId} {t1 : Nat} {s2 : Nat} {s3 : Nat} {t4 : Nat} {bad : Bool} {s : State} (hs : Kept s0 s) :
    KeptR s0 (execDelay n t1 s2 s3 t4 bad s) := by
  unfold execDelay
  try dsimp only
  repeat' (first | with_reducible (first | assumption | apply KeptR.next | apply KeptR.ite | apply Kept.ite_fst | apply Kept.ite | apply State.set_kept | apply State.badReply_kept))

theorem State.timeCal_kept {s0 : State} {s : State} {n : Nat} {v : Nat} {src : Nat} (hs : Kept s0 s) :
    Kept s0 (State.timeCal s n v src) := by
  unfold State.timeCal
  try dsimp only
  repeat' (first | with_reducible (first | assumption | apply Kept.ite_fst | apply Kept.ite | apply KeptO.none | apply KeptO.some_id | apply KeptO.some | apply KeptO.ite | apply State.opBegin_kept | apply State.opRefuse_kept | apply State.raise_kept | apply State.setSlave_kept))

theorem execTimeCalRequest_kept {s0 : State} {n : FieldId} {src : Fin 4096} {v : Word} {s : State} (hs : Kept s0 s) :
    KeptR s0 (execTimeCalRequest n src v s) := by
  unfold execTimeCalRequest
  try dsimp only
  repeat' (first | with_reducible (first | assumption | intro s x _ | intro s _ | intro x | apply KeptR.next | apply KeptR.ite | apply State.access_kept | apply State.timeCal_kept))

theorem execTimeCalDone_kept {s0 : State} {n : FieldId} {temp : Byte} {s : State} (hs : Kept s0 s) :
    KeptR s0 (execTimeCalDone n temp s) := by
  unfold execTimeCalDone
  try dsimp only
  repeat' (first | with_reducible (first | assumption | apply KeptR.next | apply KeptR.ite | apply KeptO.none | apply KeptO.some_id | apply KeptO.some | apply KeptO.ite | apply State.opDone_kept | apply State.set_kept | apply State.raise_kept | apply State.lower_kept | apply State.setSlave_kept) | split)

theorem State.setIncr_kept {s0 : State} {s : State} {v : Nat} (hs : Kept s0 s) :
    Kept s0 (State.setIncr s v) := by
  unfold State.setIncr
  try dsimp only
  repeat' (first | with_reducible (first | assumption | apply KeptC.of_state | apply KeptC.csr_set | apply KeptC.tags_put | apply KeptC.tags_drop | apply KeptC.out_append | apply State.set2_kept) | simp only [Kept.mk_iff])

theorem State.servoState_kept {s0 : State} {s : State} {st : Nat} (hs : Kept s0 s) :
    Kept s0 (State.servoState s st) := by
  unfold State.servoState
  try dsimp only
  repeat' (first | with_reducible (first | assumption | apply State.set_kept | apply State.setB_kept))

theorem State.servoRate_kept {s0 : State} {s : State} {off : Int} (hs : Kept s0 s) :
    Kept s0 (State.servoRate s off) := by
  unfold State.servoRate
  try dsimp only
  repeat' (first | with_reducible (first | assumption | apply KeptC.of_state | apply KeptC.csr_set | apply KeptC.tags_put | apply KeptC.tags_drop | apply KeptC.out_append | apply State.setIncr_kept) | simp only [Kept.mk_iff])

theorem State.servoSample_kept {s0 : State} {s : State} {off : Int} (hs : Kept s0 s) :
    Kept s0 (State.servoSample s off) := by
  unfold State.servoSample
  try dsimp only
  repeat' (first | with_reducible (first | assumption | apply Kept.ite_fst | apply Kept.ite | apply KeptC.of_state | apply KeptC.csr_set | apply KeptC.tags_put | apply KeptC.tags_drop | apply KeptC.out_append | apply State.set_kept | apply State.raise_kept | apply State.dtcCommand_kept | apply State.setIncr_kept | apply State.servoState_kept | apply State.servoRate_kept) | simp only [Kept.mk_iff])

theorem State.ptpSample_kept {s0 : State} {s : State} {arrive : Int} {origin : Nat} (hs : Kept s0 s) :
    Kept s0 (State.ptpSample s arrive origin) := by
  unfold State.ptpSample
  try dsimp only
  repeat' (first | with_reducible (first | assumption | apply Kept.ite_fst | apply Kept.ite | apply State.servoSample_kept))

theorem State.ptpAnnounce_kept {s0 : State} {s : State} {src : Nat} {d : PtpDataset} {utc : Int} {valid : Bool} (hs : Kept s0 s) :
    Kept s0 (State.ptpAnnounce s src d utc valid) := by
  unfold State.ptpAnnounce
  try dsimp only
  repeat' (first | with_reducible (first | assumption | apply Kept.ite_fst | apply Kept.ite | apply KeptO.none | apply KeptO.some_id | apply KeptO.some | apply KeptO.ite | apply KeptC.of_state | apply KeptC.csr_set | apply KeptC.tags_put | apply KeptC.tags_drop | apply KeptC.out_append | apply State.set_kept | apply State.setB_kept) | simp only [Kept.mk_iff] | split)

theorem State.ptpTake_kept {s0 : State} {s : State} {m : PtpMsg} (hs : Kept s0 s) :
    Kept s0 (State.ptpTake s m) := by
  unfold State.ptpTake
  try dsimp only
  repeat' (first | with_reducible (first | assumption | apply Kept.ite_fst | apply Kept.ite | apply KeptO.none | apply KeptO.some_id | apply KeptO.some | apply KeptO.ite | apply KeptC.of_state | apply KeptC.csr_set | apply KeptC.tags_put | apply KeptC.tags_drop | apply KeptC.out_append | apply State.set_kept | apply State.used_kept | apply State.emit_kept | apply State.ptpSample_kept | apply State.ptpAnnounce_kept) | simp only [Kept.mk_iff] | split)

theorem execPtpMessage_kept {s0 : State} {m : PtpMsg} {s : State} (hs : Kept s0 s) :
    KeptR s0 (execPtpMessage m s) := by
  unfold execPtpMessage
  try dsimp only
  repeat' (first | with_reducible (first | assumption | apply KeptR.next | apply KeptR.ite | apply Kept.ite_fst | apply Kept.ite | apply State.ptpTake_kept))

theorem State.ptpCycle_kept {s0 : State} {s : State} {was : Nat} (hs : Kept s0 s) :
    Kept s0 (State.ptpCycle s was) := by
  unfold State.ptpCycle
  try dsimp only
  repeat' (first | with_reducible (first | assumption | apply Kept.ite_fst | apply Kept.ite | apply KeptO.none | apply KeptO.some_id | apply KeptO.some | apply KeptO.ite | apply State.used_kept | apply State.emit_kept))

theorem execServoHoldover_kept {s0 : State} {s : State} (hs : Kept s0 s) :
    KeptR s0 (execServoHoldover s) := by
  unfold execServoHoldover
  try dsimp only
  repeat' (first | with_reducible (first | assumption | apply KeptR.next | apply KeptR.ite | apply Kept.ite_fst | apply Kept.ite | apply KeptC.of_state | apply KeptC.csr_set | apply KeptC.tags_put | apply KeptC.tags_drop | apply KeptC.out_append | apply State.setIncr_kept | apply State.servoState_kept) | simp only [Kept.mk_iff])

theorem execPpsInEdge_kept {s0 : State} {s : State} (hs : Kept s0 s) :
    KeptR s0 (execPpsInEdge s) := by
  unfold execPpsInEdge
  try dsimp only
  repeat' (first | with_reducible (first | assumption | apply KeptR.next | apply KeptR.ite | apply Kept.ite_fst | apply Kept.ite | apply State.raise_kept | apply State.used_kept | apply State.setStamp_kept | apply State.servoSample_kept))

theorem State.ppsiStart_kept {s0 : State} {s : State} (hs : Kept s0 s) :
    Kept s0 (State.ppsiStart s) := by
  unfold State.ppsiStart
  try dsimp only
  repeat' (first | with_reducible (first | assumption | apply KeptC.of_state | apply KeptC.csr_set | apply KeptC.tags_put | apply KeptC.tags_drop | apply KeptC.out_append) | simp only [Kept.mk_iff])

theorem State.ppsiReadPart_kept {s0 : State} {s : State} {k : Nat} (hs : Kept s0 s) :
    Kept s0 (State.ppsiReadPart s k) := by
  unfold State.ppsiReadPart
  try dsimp only
  repeat' (first | with_reducible (first | assumption | apply KeptC.of_state | apply KeptC.csr_set | apply KeptC.tags_put | apply KeptC.tags_drop | apply KeptC.out_append) | simp only [Kept.mk_iff])

theorem execPpsiCaptureStart_kept {s0 : State} {s : State} (hs : Kept s0 s) :
    KeptR s0 (execPpsiCaptureStart s) := by
  unfold execPpsiCaptureStart
  try dsimp only
  repeat' (first | with_reducible (first | assumption | apply KeptR.next | apply KeptR.ite | apply State.answer_kept | apply State.answerData_kept | apply State.ppsiStart_kept) | split)

theorem execPpsiCaptureTimeout_kept {s0 : State} {s : State} (hs : Kept s0 s) :
    KeptR s0 (execPpsiCaptureTimeout s) := by
  unfold execPpsiCaptureTimeout
  try dsimp only
  repeat' (first | with_reducible (first | assumption | apply KeptR.next | apply KeptR.ite | apply KeptC.of_state | apply KeptC.csr_set | apply KeptC.tags_put | apply KeptC.tags_drop | apply KeptC.out_append) | simp only [Kept.mk_iff])

theorem execPpsOutRise_kept {s0 : State} {s : State} (hs : Kept s0 s) :
    KeptR s0 (execPpsOutRise s) := by
  unfold execPpsOutRise
  try dsimp only
  repeat' (first | with_reducible (first | assumption | apply KeptR.next | apply KeptR.ite | apply Kept.ite_fst | apply Kept.ite | apply KeptC.of_state | apply KeptC.csr_set | apply KeptC.tags_put | apply KeptC.tags_drop | apply KeptC.out_append) | simp only [Kept.mk_iff])

theorem execPpsOutFall_kept {s0 : State} {s : State} (hs : Kept s0 s) :
    KeptR s0 (execPpsOutFall s) := by
  unfold execPpsOutFall
  try dsimp only
  repeat' (first | with_reducible (first | assumption | apply KeptR.next | apply KeptR.ite | apply KeptC.of_state | apply KeptC.csr_set | apply KeptC.tags_put | apply KeptC.tags_drop | apply KeptC.out_append) | simp only [Kept.mk_iff])

end Sys2Proof.Machine
end

