-- ==== Sys2Proof/Laws/KeptFlume.lean ====
section
/-! SUPPORT. What every operation and meaning of Machine/Flume.lean keeps (Laws/Kept.lean says what that is): one lemma for each. -/
set_option maxRecDepth 4000
set_option linter.unusedVariables false
namespace Sys2Proof.Machine

theorem State.moduleUp_kept {s0 : State} {s : State} {n : Nat} {m : Nat} {c : Nat} {hwFail : Nat} {fdFail : Nat} (hs : Kept s0 s) :
    Kept s0 (State.moduleUp s n m c hwFail fdFail) := by
  unfold State.moduleUp
  try dsimp only
  repeat' (first | with_reducible (first | assumption | apply State.set_kept))

theorem State.fenceModule_kept {s0 : State} {s : State} {n : Nat} {m : Nat} (hs : Kept s0 s) :
    Kept s0 (State.fenceModule s n m) := by
  unfold State.fenceModule
  try dsimp only
  repeat' (first | with_reducible (first | assumption | apply Kept.ite_fst | apply Kept.ite | apply State.withdraw_kept | apply State.relive_kept | apply State.setMod_kept | apply State.set_kept | apply State.logEvent_kept | apply State.rollFence_kept | apply State.wires_kept) | split)

theorem execReplay_kept {s0 : State} {n : FieldId} {m : Fin 8} {atField : Bool} {again : Bool} {s : State} (hs : Kept s0 s) :
    KeptR s0 (execReplay n m atField again s) := by
  unfold execReplay
  try dsimp only
  repeat' (first | with_reducible (first | assumption | apply KeptR.next | apply KeptR.ite | apply Kept.ite_fst | apply Kept.ite | apply State.setMod_kept | apply State.count_kept))

theorem State.retrain_kept {s0 : State} {s : State} {i : Nat} {m : Nat} (hs : Kept s0 s) :
    Kept s0 (State.retrain s i m) := by
  unfold State.retrain
  try dsimp only
  repeat' (first | with_reducible (first | assumption | apply Kept.ite_fst | apply Kept.ite | apply State.relive_kept | apply State.setMod_kept | apply State.set_kept | apply State.count_kept | apply State.clearBitOf_kept | apply State.dueAudits_kept | apply State.wires_kept))

theorem execModuleRetrain_kept {s0 : State} {i : SiteId} {m : Fin 8} {lost : Bool} {s : State} (hs : Kept s0 s) :
    KeptR s0 (execModuleRetrain i m lost s) := by
  unfold execModuleRetrain
  try dsimp only
  repeat' (first | with_reducible (first | assumption | apply KeptR.next | apply KeptR.ite | apply Kept.ite_fst | apply Kept.ite | apply State.retrain_kept) | split)

theorem State.loopStart_kept {s0 : State} {s : State} {i : Nat} {m : Nat} (hs : Kept s0 s) :
    Kept s0 (State.loopStart s i m) := by
  unfold State.loopStart
  try dsimp only
  repeat' (first | with_reducible (first | assumption | apply State.setMod_kept | apply State.set_kept | apply State.lower_kept))

theorem State.writeMctrl_kept {s0 : State} {s : State} {i : Nat} {m : Nat} {v : Nat} (hs : Kept s0 s) :
    Kept s0 (State.writeMctrl s i m v) := by
  unfold State.writeMctrl
  try dsimp only
  repeat' (first | with_reducible (first | assumption | apply Kept.ite_fst | apply Kept.ite | apply State.retrain_kept | apply State.loopStart_kept | apply State.raise_kept | apply State.setB_kept) | split)

theorem execRetrainCommand_kept {s0 : State} {i : SiteId} {m : Fin 8} {s : State} (hs : Kept s0 s) :
    KeptR s0 (execRetrainCommand i m s) := by
  unfold execRetrainCommand
  try dsimp only
  repeat' (first | with_reducible (first | assumption | intro s x _ | intro s _ | intro x | apply KeptR.next | apply KeptR.ite | apply State.writeMctrl_kept | apply State.access_kept))

theorem execRetrainLaneTestDone_kept {s0 : State} {n : FieldId} {m : Fin 8} {hw : BitVec 88} {fd : BitVec 88} {s : State} (hs : Kept s0 s) :
    KeptR s0 (execRetrainLaneTestDone n m hw fd s) := by
  unfold execRetrainLaneTestDone
  try dsimp only
  repeat' (first | with_reducible (first | assumption | apply KeptR.next | apply KeptR.ite | apply Kept.ite_fst | apply Kept.ite | apply State.setMod_kept | apply State.set_kept) | split)

theorem State.sendWidth_kept {s0 : State} {s : State} {n : Nat} {m : Nat} {c : Nat} {stage : Nat} (hs : Kept s0 s) :
    Kept s0 (State.sendWidth s n m c stage) := by
  unfold State.sendWidth
  try dsimp only
  repeat' (first | with_reducible (first | assumption | apply State.setMod_kept))

theorem State.choose_kept {s0 : State} {s : State} {n : Nat} {m : Nat} {mf : List Nat} (hs : Kept s0 s) :
    Kept s0 (State.choose s n m mf) := by
  unfold State.choose
  try dsimp only
  repeat' (first | with_reducible (first | assumption | apply Kept.ite_fst | apply Kept.ite | apply KeptO.none | apply KeptO.some_id | apply KeptO.some | apply KeptO.ite | apply State.fenceModule_kept | apply State.sendWidth_kept | apply State.setMod_kept) | split)

theorem execWreport_kept {s0 : State} {n : FieldId} {m : Fin 8} {s : State} (hs : Kept s0 s) :
    KeptR s0 (execWreport n m s) := by
  unfold execWreport
  try dsimp only
  repeat' (first | with_reducible (first | assumption | apply KeptR.next | apply KeptR.ite | apply Kept.ite_fst | apply Kept.ite | apply State.sendWidth_kept | apply State.choose_kept | apply State.raise_kept))

theorem execWidth_kept {s0 : State} {n : FieldId} {m : Fin 8} {s : State} (hs : Kept s0 s) :
    KeptR s0 (execWidth n m s) := by
  unfold execWidth
  try dsimp only
  repeat' (first | with_reducible (first | assumption | apply KeptR.next | apply KeptR.ite | apply Kept.ite_fst | apply Kept.ite | apply KeptO.none | apply KeptO.some_id | apply KeptO.some | apply KeptO.ite | apply State.setMod_kept | apply State.set_kept | apply State.raise_kept))

theorem State.adopt_kept {s0 : State} {s : State} {n : Nat} {m : Nat} (hs : Kept s0 s) :
    Kept s0 (State.adopt s n m) := by
  unfold State.adopt
  try dsimp only
  repeat' (first | with_reducible (first | assumption | apply Kept.ite_fst | apply Kept.ite | apply State.choose_kept | apply State.setMod_kept | apply State.set_kept | apply State.raise_kept | apply State.logEvent_kept))

theorem State.unable_kept {s0 : State} {s : State} {n : Nat} {m : Nat} (hs : Kept s0 s) :
    Kept s0 (State.unable s n m) := by
  unfold State.unable
  try dsimp only
  repeat' (first | with_reducible (first | assumption | apply Kept.ite_fst | apply Kept.ite | apply State.fenceModule_kept | apply State.choose_kept))

theorem execAdopt_kept {s0 : State} {n : FieldId} {m : Fin 8} {s : State} (hs : Kept s0 s) :
    KeptR s0 (execAdopt n m s) := by
  unfold execAdopt
  try dsimp only
  repeat' (first | with_reducible (first | assumption | apply KeptR.next | apply KeptR.ite | apply Kept.ite_fst | apply Kept.ite | apply KeptO.none | apply KeptO.some_id | apply KeptO.some | apply KeptO.ite | apply State.adopt_kept))

theorem execUnable_kept {s0 : State} {n : FieldId} {m : Fin 8} {s : State} (hs : Kept s0 s) :
    KeptR s0 (execUnable n m s) := by
  unfold execUnable
  try dsimp only
  repeat' (first | with_reducible (first | assumption | apply KeptR.next | apply KeptR.ite | apply Kept.ite_fst | apply Kept.ite | apply KeptO.none | apply KeptO.some_id | apply KeptO.some | apply KeptO.ite | apply State.unable_kept))

theorem execWidthReplyTimeout_kept {s0 : State} {n : FieldId} {m : Fin 8} {s : State} (hs : Kept s0 s) :
    KeptR s0 (execWidthReplyTimeout n m s) := by
  unfold execWidthReplyTimeout
  try dsimp only
  repeat' (first | with_reducible (first | assumption | apply KeptR.next | apply KeptR.ite | apply Kept.ite_fst | apply Kept.ite | apply State.unable_kept))

theorem execRetrainComplete_kept {s0 : State} {n : FieldId} {m : Fin 8} {s : State} (hs : Kept s0 s) :
    KeptR s0 (execRetrainComplete n m s) := by
  unfold execRetrainComplete
  try dsimp only
  repeat' (first | with_reducible (first | assumption | apply KeptR.next | apply KeptR.ite | apply Kept.ite_fst | apply Kept.ite | apply State.relive_kept | apply State.moduleUp_kept | apply State.setMod_kept | apply State.setBitOf_kept | apply State.wires_kept))

theorem execFlumeClockLost_kept {s0 : State} {i : SiteId} {s : State} (hs : Kept s0 s) :
    KeptR s0 (execFlumeClockLost i s) := by
  unfold execFlumeClockLost
  try dsimp only
  repeat' (first | with_reducible (first | assumption | intro s x _ | intro s _ | intro x | apply KeptR.next | apply KeptR.ite | apply Kept.ite_fst | apply Kept.ite | apply Kept.foldl | apply Kept.foldl_fst | apply State.retrain_kept | apply State.setBitOf_kept | apply State.clearBitOf_kept))

theorem State.hbeat_kept {s0 : State} {s : State} {n : Nat} {miss : Bool} (hs : Kept s0 s) :
    Kept s0 (State.hbeat s n miss) := by
  unfold State.hbeat
  try dsimp only
  repeat' (first | with_reducible (first | assumption | apply Kept.ite_fst | apply Kept.ite | apply State.raise_kept | apply State.setSlave_kept | apply State.rollFence_kept))

theorem execBeacon_kept {s0 : State} {n : FieldId} {flight : Nat} {bad : Bool} {s : State} (hs : Kept s0 s) :
    KeptR s0 (execBeacon n flight bad s) := by
  unfold execBeacon
  try dsimp only
  repeat' (first | with_reducible (first | assumption | apply KeptR.next | apply KeptR.ite | apply State.hbeat_kept | apply State.beacon_kept | apply State.badReply_kept))

theorem execHeartbeatLoss_kept {s0 : State} {n : FieldId} {s : State} (hs : Kept s0 s) :
    KeptR s0 (execHeartbeatLoss n s) := by
  unfold execHeartbeatLoss
  try dsimp only
  repeat' (first | with_reducible (first | assumption | apply KeptR.next | apply KeptR.ite | apply Kept.ite_fst | apply Kept.ite | apply State.raise_kept | apply State.rollFence_kept))

theorem execAlarmLow_kept {s0 : State} {n : FieldId} {s : State} (hs : Kept s0 s) :
    KeptR s0 (execAlarmLow n s) := by
  unfold execAlarmLow
  try dsimp only
  repeat' (first | with_reducible (first | assumption | apply KeptR.next | apply KeptR.ite | apply State.raise_kept | apply State.rollFence_kept))

theorem execAlarmCause_kept {s0 : State} {n : FieldId} {c : Fin 3} {s : State} (hs : Kept s0 s) :
    KeptR s0 (execAlarmCause n c s) := by
  unfold execAlarmCause
  try dsimp only
  repeat' (first | with_reducible (first | assumption | apply KeptR.next | apply KeptR.ite | apply Kept.ite_fst | apply Kept.ite | apply State.set_kept | apply State.lower_kept))

theorem execFence_kept {s0 : State} {n : FieldId} {s : State} (hs : Kept s0 s) :
    KeptR s0 (execFence n s) := by
  unfold execFence
  try dsimp only
  repeat' (first | with_reducible (first | assumption | apply KeptR.next | apply KeptR.ite | apply Kept.ite_fst | apply Kept.ite | apply State.fenceMessage_kept))

theorem State.writeFlhCtrl_kept {s0 : State} {s : State} {i : Nat} {v : Nat} (hs : Kept s0 s) :
    Kept s0 (State.writeFlhCtrl s i v) := by
  unfold State.writeFlhCtrl
  try dsimp only
  repeat' (first | with_reducible (first | assumption | apply Kept.ite_fst | apply Kept.ite | apply State.raise_kept | apply State.rollFence_kept))

theorem execSwFence_kept {s0 : State} {i : SiteId} {s : State} (hs : Kept s0 s) :
    KeptR s0 (execSwFence i s) := by
  unfold execSwFence
  try dsimp only
  repeat' (first | with_reducible (first | assumption | intro s x _ | intro s _ | intro x | apply KeptR.next | apply KeptR.ite | apply State.writeFlhCtrl_kept | apply State.access_kept))

theorem State.turnTrain_kept {s0 : State} {s : State} {t : Nat} {g : GuestTrain} (hs : Kept s0 s) :
    Kept s0 (State.turnTrain s t g) := by
  unfold State.turnTrain
  try dsimp only
  repeat' (first | with_reducible (first | assumption | intro s x _ | intro s _ | intro x | apply Kept.ite_fst | apply Kept.ite | apply Kept.foldl | apply Kept.foldl_fst | apply State.fence_kept | apply State.set_kept | apply State.raise_kept | apply State.set2_kept | apply State.setBitOf_kept) | split)

theorem execTurnoutTrain_kept {s0 : State} {t : Fin 2} {g : GuestTrain} {s : State} (hs : Kept s0 s) :
    KeptR s0 (execTurnoutTrain t g s) := by
  unfold execTurnoutTrain
  try dsimp only
  repeat' (first | with_reducible (first | assumption | apply KeptR.next | apply KeptR.ite | apply Kept.ite_fst | apply Kept.ite | apply State.turnTrain_kept))

theorem State.turnCredits_kept {s0 : State} {s : State} {t : Nat} {m : Nat} {w : Nat} (hs : Kept s0 s) :
    Kept s0 (State.turnCredits s t m w) := by
  unfold State.turnCredits
  try dsimp only
  repeat' (first | with_reducible (first | assumption | intro s x _ | intro s _ | intro x | apply Kept.ite_fst | apply Kept.ite | apply Kept.foldl | apply Kept.foldl_fst | apply State.set_kept))

theorem State.turnAck_kept {s0 : State} {s : State} {t : Nat} {m : Nat} {ack : Nat} {nak : Bool} (hs : Kept s0 s) :
    Kept s0 (State.turnAck s t m ack nak) := by
  unfold State.turnAck
  try dsimp only
  repeat' (first | with_reducible (first | assumption | intro s x _ | intro s _ | intro x | apply Kept.ite_fst | apply Kept.ite | apply Kept.foldl | apply Kept.foldl_fst | apply State.emit_kept | apply State.setTurn_kept | apply State.sendUnits_kept))

theorem State.turnUnit_kept {s0 : State} {s : State} {t : Nat} {m : Nat} {b : List Byte} (hs : Kept s0 s) :
    Kept s0 (State.turnUnit s t m b) := by
  unfold State.turnUnit
  try dsimp only
  repeat' (first | with_reducible (first | assumption | apply Kept.ite_fst | apply Kept.ite | apply KeptO.none | apply KeptO.some_id | apply KeptO.some | apply KeptO.ite | apply State.turnCredits_kept | apply State.turnAck_kept | apply State.count_kept | apply State.setTurn_kept | apply State.sendUnit_kept))

theorem execTurnoutUnit_kept {s0 : State} {t : Fin 2} {m : Fin 2} {b : List Byte} {s : State} (hs : Kept s0 s) :
    KeptR s0 (execTurnoutUnit t m b s) := by
  unfold execTurnoutUnit
  try dsimp only
  repeat' (first | with_reducible (first | assumption | apply KeptR.next | apply KeptR.ite | apply Kept.ite_fst | apply Kept.ite | apply State.turnUnit_kept))

theorem execTurnoutLinkTimeout_kept {s0 : State} {t : Fin 2} {s : State} (hs : Kept s0 s) :
    KeptR s0 (execTurnoutLinkTimeout t s) := by
  unfold execTurnoutLinkTimeout
  try dsimp only
  repeat' (first | with_reducible (first | assumption | apply KeptR.next | apply KeptR.ite | apply State.fence_kept))

theorem execLoopbackTest_kept {s0 : State} {n : FieldId} {m : Fin 8} {near : Bool} {s : State} (hs : Kept s0 s) :
    KeptR s0 (execLoopbackTest n m near s) := by
  unfold execLoopbackTest
  try dsimp only
  repeat' (first | with_reducible (first | assumption | intro s x _ | intro s _ | intro x | apply KeptR.next | apply KeptR.ite | apply State.writeMctrl_kept | apply State.access_kept))

theorem execLoopbackDone_kept {s0 : State} {n : FieldId} {m : Fin 8} {errs : Nat} {bad : BitVec 88} {s : State} (hs : Kept s0 s) :
    KeptR s0 (execLoopbackDone n m errs bad s) := by
  unfold execLoopbackDone
  try dsimp only
  repeat' (first | with_reducible (first | assumption | apply KeptR.next | apply KeptR.ite | apply Kept.ite_fst | apply Kept.ite | apply State.set_kept | apply State.raise_kept | apply State.count_kept))

end Sys2Proof.Machine
end

