-- ==== Sys2Proof/Laws/KeptHostPort.lean ====
section
/-! SUPPORT. What every operation and meaning of Machine/HostPort.lean keeps (Laws/Kept.lean says what that is): one lemma for each. -/
set_option maxRecDepth 4000
set_option linter.unusedVariables false
namespace Sys2Proof.Machine

theorem State.showLink_kept {s0 : State} {s : State} (hs : Kept s0 s) :
    Kept s0 (State.showLink s) := by
  unfold State.showLink
  try dsimp only
  repeat' (first | with_reducible (first | assumption | apply State.setB_kept))

theorem State.linkTrain_kept {s0 : State} {s : State} {widths : Nat} {rates : Nat} {alt : Bool} (hs : Kept s0 s) :
    Kept s0 (State.linkTrain s widths rates alt) := by
  unfold State.linkTrain
  try dsimp only
  repeat' (first | with_reducible (first | assumption | apply Kept.ite_fst | apply Kept.ite | apply KeptO.none | apply KeptO.some_id | apply KeptO.some | apply KeptO.ite | apply State.showLink_kept | apply State.set_kept | apply State.setB_kept) | split)

theorem execLinkTrain_kept {s0 : State} {widths : Fin 32} {rates : Fin 32} {alt : Bool} {s : State} (hs : Kept s0 s) :
    KeptR s0 (execLinkTrain widths rates alt s) := by
  unfold execLinkTrain
  try dsimp only
  repeat' (first | with_reducible (first | assumption | apply KeptR.next | apply KeptR.ite | apply State.linkTrain_kept))

theorem State.linkDown_kept {s0 : State} {s : State} (hs : Kept s0 s) :
    Kept s0 (State.linkDown s) := by
  unfold State.linkDown
  try dsimp only
  repeat' (first | with_reducible (first | assumption | apply Kept.ite_fst | apply Kept.ite | apply KeptC.of_state | apply KeptC.csr_set | apply KeptC.tags_put | apply KeptC.tags_drop | apply KeptC.out_append | apply State.showLink_kept | apply State.mirrorFail_kept | apply State.raise_kept | apply State.lower_kept) | simp only [Kept.mk_iff])

theorem execLinkDown_kept {s0 : State} {s : State} (hs : Kept s0 s) :
    KeptR s0 (execLinkDown s) := by
  unfold execLinkDown
  try dsimp only
  repeat' (first | with_reducible (first | assumption | apply KeptR.next | apply KeptR.ite | apply State.linkDown_kept))

theorem State.hostError_kept {s0 : State} {s : State} {kind : Nat} {st : RStat} {code : Nat} {a : Nat} (hs : Kept s0 s) :
    Kept s0 (State.hostError s kind st code a) := by
  unfold State.hostError
  try dsimp only
  repeat' (first | with_reducible (first | assumption | apply Kept.ite_fst | apply Kept.ite | apply State.set_kept | apply State.raise_kept | apply State.count_kept))

theorem State.hostReceive_kept {s0 : State} {s : State} {r : Req} {a : Resp} (hs : Kept s0 s) :
    Kept s0 (State.hostReceive s r a) := by
  unfold State.hostReceive
  try dsimp only
  repeat' (first | with_reducible (first | assumption | apply Kept.ite_fst | apply Kept.ite | apply KeptC.of_state | apply KeptC.csr_set | apply KeptC.tags_put | apply KeptC.tags_drop | apply KeptC.out_append | apply State.hostError_kept) | simp only [Kept.mk_iff])

theorem State.unmask_kept {s0 : State} {s : State} (hs : Kept s0 s) :
    Kept s0 (State.unmask s) := by
  unfold State.unmask
  try dsimp only
  repeat' (first | with_reducible (first | assumption | apply Kept.ite_fst | apply Kept.ite | apply State.sendMsix_kept))

theorem State.commit_kept {s0 : State} {s : State} (hs : Kept s0 s) :
    Kept s0 (State.commit s) := by
  unfold State.commit
  try dsimp only
  repeat' (first | with_reducible (first | assumption | apply Kept.ite_fst | apply Kept.ite | apply KeptC.of_state | apply KeptC.csr_set | apply KeptC.tags_put | apply KeptC.tags_drop | apply KeptC.out_append | apply State.showLink_kept) | simp only [Kept.mk_iff])

theorem State.writeComp_kept {s0 : State} {s : State} {o : Nat} {v : Nat} (hs : Kept s0 s) :
    Kept s0 (State.writeComp s o v) := by
  unfold State.writeComp
  try dsimp only
  repeat' (first | with_reducible (first | assumption | apply Kept.ite_fst | apply Kept.ite | apply KeptC.of_state | apply KeptC.csr_set | apply KeptC.tags_put | apply KeptC.tags_drop | apply KeptC.out_append | apply State.showLink_kept | apply State.unmask_kept | apply State.commit_kept) | simp only [Kept.mk_iff])

theorem execDecoderCommit_kept {s0 : State} {base : BitVec 64} {size : BitVec 64} {iw : Fin 16} {ttype : Bool} {lock : Bool} {s : State} (hs : Kept s0 s) :
    KeptR s0 (execDecoderCommit base size iw ttype lock s) := by
  unfold execDecoderCommit
  try dsimp only
  repeat' (first | with_reducible (first | assumption | intro s x _ | intro s _ | intro x | apply KeptR.next | apply KeptR.ite | apply Kept.ite_fst | apply Kept.ite | apply KeptC.of_state | apply KeptC.csr_set | apply KeptC.tags_put | apply KeptC.tags_drop | apply KeptC.out_append | apply State.showLink_kept | apply State.writeComp_kept | apply State.access_kept) | simp only [Kept.mk_iff])

theorem State.cfgWrite_kept {s0 : State} {s : State} {o : Nat} {v : Nat} (hs : Kept s0 s) :
    Kept s0 (State.cfgWrite s o v) := by
  unfold State.cfgWrite
  try dsimp only
  repeat' (first | with_reducible (first | assumption | apply Kept.ite_fst | apply Kept.ite | apply KeptC.of_state | apply KeptC.csr_set | apply KeptC.tags_put | apply KeptC.tags_drop | apply KeptC.out_append | apply State.showLink_kept | apply State.unmask_kept) | simp only [Kept.mk_iff] | split)

theorem execConfigRequest_kept {s0 : State} {ready : Bool} {w : Fin 1024} {write : Option (Fin 16 × Word)} {s : State} (hs : Kept s0 s) :
    KeptR s0 (execConfigRequest ready w write s) := by
  unfold execConfigRequest
  try dsimp only
  repeat' (first | with_reducible (first | assumption | apply KeptR.next | apply KeptR.ite | apply Kept.ite_fst | apply Kept.ite | apply KeptO.none | apply KeptO.some_id | apply KeptO.some | apply KeptO.ite | apply KeptC.of_state | apply KeptC.csr_set | apply KeptC.tags_put | apply KeptC.tags_drop | apply KeptC.out_append | apply State.cfgWrite_kept | apply State.answer_kept | apply State.answerData_kept) | simp only [Kept.mk_iff] | split)

end Sys2Proof.Machine
end

