-- ==== Sys2Proof/Laws/KeptPcs.lean ====
section
/-! SUPPORT. What every operation and meaning of Machine/Pcs.lean keeps (Laws/Kept.lean says what that is): one lemma for each. -/
set_option maxRecDepth 4000
set_option linter.unusedVariables false
namespace Sys2Proof.Machine

theorem State.pcsClear_kept {s0 : State} {s : State} {a : Nat} {l : Nat} (hs : Kept s0 s) :
    Kept s0 (State.pcsClear s a l) := by
  unfold State.pcsClear
  try dsimp only
  repeat' (first | with_reducible (first | assumption | apply Kept.ite_fst | apply Kept.ite | apply State.lower_kept | apply State.setLane_kept))

theorem State.advertise_kept {s0 : State} {s : State} {a : Nat} (hs : Kept s0 s) :
    Kept s0 (State.advertise s a) := by
  unfold State.advertise
  try dsimp only
  repeat' (first | with_reducible (first | assumption | apply Kept.ite_fst | apply Kept.ite | apply State.raise_kept))

theorem State.portStart_kept {s0 : State} {s : State} {a : Nat} (hs : Kept s0 s) :
    Kept s0 (State.portStart s a) := by
  unfold State.portStart
  try dsimp only
  repeat' (first | with_reducible (first | assumption | intro s x _ | intro s _ | intro x | apply Kept.ite_fst | apply Kept.ite | apply Kept.foldl | apply Kept.foldl_fst | apply State.raise_kept | apply State.pcsClear_kept | apply State.advertise_kept | apply State.setPort_kept | apply State.portCfgerr_kept | apply State.bypassUp_kept))

theorem State.writePort_kept {s0 : State} {s : State} {a : Nat} {v : Nat} (hs : Kept s0 s) :
    Kept s0 (State.writePort s a v) := by
  unfold State.writePort
  try dsimp only
  repeat' (first | with_reducible (first | assumption | apply State.wrAll_kept))

theorem State.portStop_kept {s0 : State} {s : State} {a : Nat} (hs : Kept s0 s) :
    Kept s0 (State.portStop s a) := by
  unfold State.portStop
  try dsimp only
  repeat' (first | with_reducible (first | assumption | intro s x _ | intro s _ | intro x | apply Kept.foldl | apply Kept.foldl_fst | apply State.lower_kept | apply State.pcsClear_kept | apply State.truncateRx_kept | apply State.furFault_kept))

theorem State.writePcsCtrl_kept {s0 : State} {s : State} {a : Nat} {v : Nat} (hs : Kept s0 s) :
    Kept s0 (State.writePcsCtrl s a v) := by
  unfold State.writePcsCtrl
  try dsimp only
  repeat' (first | with_reducible (first | assumption | apply Kept.ite_fst | apply Kept.ite | apply State.portStart_kept | apply State.writePort_kept | apply State.portStop_kept))

theorem execPortEnable_kept {s0 : State} {l : LaneId} {v : Word} {s : State} (hs : Kept s0 s) :
    KeptR s0 (execPortEnable l v s) := by
  unfold execPortEnable
  try dsimp only
  repeat' (first | with_reducible (first | assumption | intro s x _ | intro s _ | intro x | apply KeptR.next | apply KeptR.ite | apply State.access_kept | apply State.writePcsCtrl_kept))

theorem execPortDisable_kept {s0 : State} {l : LaneId} {s : State} (hs : Kept s0 s) :
    KeptR s0 (execPortDisable l s) := by
  unfold execPortDisable
  try dsimp only
  repeat' (first | with_reducible (first | assumption | intro s x _ | intro s _ | intro x | apply KeptR.next | apply KeptR.ite | apply Kept.ite_fst | apply Kept.ite | apply State.access_kept | apply State.portStop_kept))

theorem State.seeHeader_kept {s0 : State} {s : State} {l : Nat} {bad : Bool} (hs : Kept s0 s) :
    Kept s0 (State.seeHeader s l bad) := by
  unfold State.seeHeader
  try dsimp only
  repeat' (first | with_reducible (first | assumption | apply Kept.ite_fst | apply Kept.ite | apply State.setB_kept | apply State.count_kept | apply State.setLane_kept))

theorem State.blockLock_kept {s0 : State} {s : State} {a : Nat} {l : Nat} {bad : Bool} (hs : Kept s0 s) :
    Kept s0 (State.blockLock s a l bad) := by
  unfold State.blockLock
  try dsimp only
  repeat' (first | with_reducible (first | assumption | apply Kept.ite_fst | apply Kept.ite | apply State.raise_kept | apply State.lower_kept | apply State.setLane_kept | apply State.portLost_kept))

theorem State.violate_kept {s0 : State} {s : State} {a : Nat} (hs : Kept s0 s) :
    Kept s0 (State.violate s a) := by
  unfold State.violate
  try dsimp only
  repeat' (first | with_reducible (first | assumption | apply KeptO.none | apply KeptO.some_id | apply KeptO.some | apply KeptO.ite | apply State.dealFrame_kept) | split)

theorem State.wrawBlock_kept {s0 : State} {s : State} {a : Nat} {hdr : Nat} {payload : Nat} {ts : Nat} (hs : Kept s0 s) :
    Kept s0 (State.wrawBlock s a hdr payload ts) := by
  unfold State.wrawBlock
  try dsimp only
  repeat' (first | with_reducible (first | assumption | apply Kept.ite_fst | apply Kept.ite | apply State.emit_kept | apply State.violate_kept | apply State.dealFrame_kept | apply State.startFrame_kept | apply State.growFrame_kept) | split)

theorem State.takeBlocks_kept {s0 : State} {s : State} {a : Nat} {x2 : Nat} (hs : Kept s0 s) :
    Kept s0 (State.takeBlocks s a x2) := by
  revert hs
  induction x2 generalizing s a with
  | zero =>
    intro hs; unfold State.takeBlocks; try dsimp only
    repeat' (first | with_reducible (first | assumption | apply State.wrawBlock_kept | apply State.setLane_kept | apply State.setPort_kept) | split)
  | succ n ih =>
    intro hs; unfold State.takeBlocks; try dsimp only
    repeat' (first | with_reducible (first | assumption | apply ih | apply State.wrawBlock_kept | apply State.setLane_kept | apply State.setPort_kept) | split)

theorem State.tryAlign_kept {s0 : State} {s : State} {a : Nat} (hs : Kept s0 s) :
    Kept s0 (State.tryAlign s a) := by
  unfold State.tryAlign
  try dsimp only
  repeat' (first | with_reducible (first | assumption | apply Kept.ite_fst | apply Kept.ite | apply State.portUp_kept))

theorem State.deskew_kept {s0 : State} {s : State} {a : Nat} {l : Nat} {hdr : Nat} {payload : Nat} (hs : Kept s0 s) :
    Kept s0 (State.deskew s a l hdr payload) := by
  unfold State.deskew
  try dsimp only
  repeat' (first | with_reducible (first | assumption | apply Kept.ite_fst | apply Kept.ite | apply State.used_kept | apply State.takeBlocks_kept | apply State.tryAlign_kept | apply State.setLane_kept | apply State.portLost_kept))

theorem State.wrawReceive_kept {s0 : State} {s : State} {a : Nat} {l : Nat} {hdr : Nat} {payload : Nat} (hs : Kept s0 s) :
    Kept s0 (State.wrawReceive s a l hdr payload) := by
  unfold State.wrawReceive
  try dsimp only
  repeat' (first | with_reducible (first | assumption | apply Kept.ite_fst | apply Kept.ite | apply State.seeHeader_kept | apply State.blockLock_kept | apply State.deskew_kept | apply State.setLane_kept) | split)

theorem execWrawBlockReceive_kept {s0 : State} {l : LaneId} {hdr : Fin 4} {payload : BitVec 64} {s : State} (hs : Kept s0 s) :
    KeptR s0 (execWrawBlockReceive l hdr payload s) := by
  unfold execWrawBlockReceive
  try dsimp only
  repeat' (first | with_reducible (first | assumption | apply KeptR.next | apply KeptR.ite | apply Kept.ite_fst | apply Kept.ite | apply KeptO.none | apply KeptO.some_id | apply KeptO.some | apply KeptO.ite | apply State.echoBits_kept | apply State.wrawReceive_kept) | split)

theorem State.wrawStream_kept {s0 : State} {s : State} {a : Nat} {l : Nat} {x3 : Nat} (hs : Kept s0 s) :
    Kept s0 (State.wrawStream s a l x3) := by
  revert hs
  induction x3 generalizing s a l with
  | zero =>
    intro hs; unfold State.wrawStream; try dsimp only
    repeat' (first | with_reducible (first | assumption | apply Kept.ite_fst | apply Kept.ite | apply State.seeHeader_kept | apply State.blockLock_kept | apply State.wrawReceive_kept | apply State.setLane_kept) | split)
  | succ n ih =>
    intro hs; unfold State.wrawStream; try dsimp only
    repeat' (first | with_reducible (first | assumption | apply Kept.ite_fst | apply Kept.ite | apply ih | apply State.seeHeader_kept | apply State.blockLock_kept | apply State.wrawReceive_kept | apply State.setLane_kept) | split)

theorem State.ethReceive_kept {s0 : State} {s : State} {a : Nat} {l : Nat} {e : EthRx} (hs : Kept s0 s) :
    Kept s0 (State.ethReceive s a l e) := by
  unfold State.ethReceive
  try dsimp only
  repeat' (first | with_reducible (first | assumption | apply Kept.ite_fst | apply Kept.ite | apply State.raise_kept | apply State.lower_kept | apply State.setB_kept | apply State.count_kept | apply State.used_kept | apply State.emit_kept | apply State.violate_kept | apply State.dealFrame_kept | apply State.startFrame_kept | apply State.growFrame_kept | apply State.portUp_kept | apply State.portLost_kept) | split)

theorem execEthBlockReceive_kept {s0 : State} {l : LaneId} {e : EthRx} {s : State} (hs : Kept s0 s) :
    KeptR s0 (execEthBlockReceive l e s) := by
  unfold execEthBlockReceive
  try dsimp only
  repeat' (first | with_reducible (first | assumption | apply KeptR.next | apply KeptR.ite | apply Kept.ite_fst | apply Kept.ite | apply State.ethReceive_kept) | split)

theorem State.pcieReceive_kept {s0 : State} {s : State} {a : Nat} {l : Nat} {sync : Nat} {bytes : List Byte} (hs : Kept s0 s) :
    Kept s0 (State.pcieReceive s a l sync bytes) := by
  unfold State.pcieReceive
  try dsimp only
  repeat' (first | with_reducible (first | assumption | apply Kept.ite_fst | apply Kept.ite | apply State.count_kept | apply State.emit_kept | apply State.setLane_kept))

theorem execPcieBlockReceive_kept {s0 : State} {l : LaneId} {e : PcieRx} {s : State} (hs : Kept s0 s) :
    KeptR s0 (execPcieBlockReceive l e s) := by
  unfold execPcieBlockReceive
  try dsimp only
  repeat' (first | with_reducible (first | assumption | apply KeptR.next | apply KeptR.ite | apply Kept.ite_fst | apply Kept.ite | apply State.echoBits_kept | apply State.raise_kept | apply State.lower_kept | apply State.pcieReceive_kept | apply State.portUp_kept | apply State.portLost_kept) | split)

theorem State.relane_kept {s0 : State} {s : State} {l : Nat} {div : Nat} {mod : Nat} {cls : Nat} {pllB : Bool} {prec : Bool} (hs : Kept s0 s) :
    Kept s0 (State.relane s l div mod cls pllB prec) := by
  unfold State.relane
  try dsimp only
  repeat' (first | with_reducible (first | assumption | apply Kept.ite_fst | apply Kept.ite | apply State.showEntry_kept | apply State.startLane_kept | apply State.set_kept | apply State.setB_kept | apply State.leaveReady_kept))

theorem execPcieRateChange_kept {s0 : State} {a : LaneId} {r : Fin 3} {s : State} (hs : Kept s0 s) :
    KeptR s0 (execPcieRateChange a r s) := by
  unfold execPcieRateChange
  try dsimp only
  repeat' (first | with_reducible (first | assumption | intro s x _ | intro s _ | intro x | apply KeptR.next | apply KeptR.ite | apply Kept.ite_fst | apply Kept.ite | apply Kept.foldl | apply Kept.foldl_fst | apply State.relane_kept | apply State.lanesFloat_kept))

theorem State.autoneg_kept {s0 : State} {s : State} {a : Nat} {partner : Nat} {prec : Bool} (hs : Kept s0 s) :
    Kept s0 (State.autoneg s a partner prec) := by
  unfold State.autoneg
  try dsimp only
  repeat' (first | with_reducible (first | assumption | intro s x _ | intro s _ | intro x | apply KeptO.none | apply KeptO.some_id | apply KeptO.some | apply KeptO.ite | apply Kept.foldl | apply Kept.foldl_fst | apply State.set_kept | apply State.raise_kept | apply State.lower_kept | apply State.advertise_kept | apply State.relane_kept | apply State.lanesFloat_kept) | split)

theorem execAutonegResolved_kept {s0 : State} {a : LaneId} {partner : Fin 32768} {prec : Bool} {s : State} (hs : Kept s0 s) :
    KeptR s0 (execAutonegResolved a partner prec s) := by
  unfold execAutonegResolved
  try dsimp only
  repeat' (first | with_reducible (first | assumption | apply KeptR.next | apply KeptR.ite | apply Kept.ite_fst | apply Kept.ite | apply State.autoneg_kept))

theorem State.trainFail_kept {s0 : State} {s : State} {l : Nat} (hs : Kept s0 s) :
    Kept s0 (State.trainFail s l) := by
  unfold State.trainFail
  try dsimp only
  repeat' (first | with_reducible (first | assumption | apply State.loadTx_kept | apply State.set_kept | apply State.raise_kept | apply State.setLane_kept))

theorem State.trainDone_kept {s0 : State} {s : State} {l : Nat} {prec : Option (Bool × Bool)} (hs : Kept s0 s) :
    Kept s0 (State.trainDone s l prec) := by
  unfold State.trainDone
  try dsimp only
  repeat' (first | with_reducible (first | assumption | apply KeptO.map | apply State.set_kept | apply State.setLane_kept))

theorem State.trainSettle_kept {s0 : State} {s : State} {l : Nat} (hs : Kept s0 s) :
    Kept s0 (State.trainSettle s l) := by
  unfold State.trainSettle
  try dsimp only
  repeat' (first | with_reducible (first | assumption | apply Kept.ite_fst | apply Kept.ite | apply KeptO.none | apply KeptO.some_id | apply KeptO.some | apply KeptO.ite | apply State.trainDone_kept))

theorem State.setTrain_kept {s0 : State} {s : State} {l : Nat} {t : TrainSt} (hs : Kept s0 s) :
    Kept s0 (State.setTrain s l t) := by
  unfold State.setTrain
  try dsimp only
  repeat' (first | with_reducible (first | assumption | apply State.setLane_kept))

theorem State.actOnRequest_kept {s0 : State} {s : State} {l : Nat} {ctl : Nat} (hs : Kept s0 s) :
    Kept s0 (State.actOnRequest s l ctl) := by
  unfold State.actOnRequest
  try dsimp only
  repeat' (first | with_reducible (first | assumption | apply Kept.ite_fst | apply Kept.ite | apply KeptO.none | apply KeptO.some_id | apply KeptO.some | apply KeptO.ite | apply KeptO.map | apply State.setTrain_kept) | split)

theorem State.trainFrame_kept {s0 : State} {s : State} {l : Nat} {ctl : Nat} {st : Nat} (hs : Kept s0 s) :
    Kept s0 (State.trainFrame s l ctl st) := by
  unfold State.trainFrame
  try dsimp only
  repeat' (first | with_reducible (first | assumption | apply Kept.ite_fst | apply Kept.ite | apply State.set_kept | apply State.trainFail_kept | apply State.trainSettle_kept | apply State.setTrain_kept | apply State.actOnRequest_kept) | split)

theorem State.trainBad_kept {s0 : State} {s : State} {l : Nat} (hs : Kept s0 s) :
    Kept s0 (State.trainBad s l) := by
  unfold State.trainBad
  try dsimp only
  repeat' (first | with_reducible (first | assumption | apply Kept.ite_fst | apply Kept.ite | apply State.trainFail_kept | apply State.setTrain_kept))

theorem execTrainingFrameReceive_kept {s0 : State} {l : LaneId} {cell : BitVec 64} {marker : Bool} {s : State} (hs : Kept s0 s) :
    KeptR s0 (execTrainingFrameReceive l cell marker s) := by
  unfold execTrainingFrameReceive
  try dsimp only
  repeat' (first | with_reducible (first | assumption | apply KeptR.next | apply KeptR.ite | apply Kept.ite_fst | apply Kept.ite | apply KeptO.none | apply KeptO.some_id | apply KeptO.some | apply KeptO.ite | apply State.trainFrame_kept | apply State.trainBad_kept))

theorem State.trainEmit_kept {s0 : State} {s : State} {l : Nat} {ctl : Nat} {st : Nat} (hs : Kept s0 s) :
    Kept s0 (State.trainEmit s l ctl st) := by
  unfold State.trainEmit
  try dsimp only
  repeat' (first | with_reducible (first | assumption | apply Kept.ite_fst | apply Kept.ite | apply State.emit_kept | apply State.trainFrame_kept))

theorem State.trainCount_kept {s0 : State} {s : State} {l : Nat} (hs : Kept s0 s) :
    Kept s0 (State.trainCount s l) := by
  unfold State.trainCount
  try dsimp only
  repeat' (first | with_reducible (first | assumption | apply Kept.ite_fst | apply Kept.ite | apply KeptO.none | apply KeptO.some_id | apply KeptO.some | apply KeptO.ite | apply State.set_kept | apply State.setTrain_kept))

theorem State.trainSend_kept {s0 : State} {s : State} {l : Nat} {req : Option Nat} {ready : Bool} (hs : Kept s0 s) :
    Kept s0 (State.trainSend s l req ready) := by
  unfold State.trainSend
  try dsimp only
  repeat' (first | with_reducible (first | assumption | apply Kept.ite_fst | apply Kept.ite | apply KeptO.none | apply KeptO.some_id | apply KeptO.some | apply KeptO.ite | apply State.setTx_kept | apply State.trainSettle_kept | apply State.setTrain_kept | apply State.trainEmit_kept | apply State.trainCount_kept) | split)

theorem execTrainingFrameSend_kept {s0 : State} {l : LaneId} {req : Option (Fin 128)} {ready : Bool} {s : State} (hs : Kept s0 s) :
    KeptR s0 (execTrainingFrameSend l req ready s) := by
  unfold execTrainingFrameSend
  try dsimp only
  repeat' (first | with_reducible (first | assumption | apply KeptR.next | apply KeptR.ite | apply Kept.ite_fst | apply Kept.ite | apply KeptO.none | apply KeptO.some_id | apply KeptO.some | apply KeptO.ite | apply KeptO.map | apply State.trainSend_kept))

theorem execTrainNoFrameTimeout_kept {s0 : State} {l : LaneId} {s : State} (hs : Kept s0 s) :
    KeptR s0 (execTrainNoFrameTimeout l s) := by
  unfold execTrainNoFrameTimeout
  try dsimp only
  repeat' (first | with_reducible (first | assumption | apply KeptR.next | apply KeptR.ite | apply Kept.ite_fst | apply Kept.ite | apply KeptO.none | apply KeptO.some_id | apply KeptO.some | apply KeptO.ite | apply State.trainFail_kept))

theorem execTrainTmaxTimeout_kept {s0 : State} {l : LaneId} {s : State} (hs : Kept s0 s) :
    KeptR s0 (execTrainTmaxTimeout l s) := by
  unfold execTrainTmaxTimeout
  try dsimp only
  repeat' (first | with_reducible (first | assumption | apply KeptR.next | apply KeptR.ite | apply Kept.ite_fst | apply Kept.ite | apply KeptO.none | apply KeptO.some_id | apply KeptO.some | apply KeptO.ite | apply State.trainFail_kept))

theorem execFabricTrainStrobe_kept {s0 : State} {l : LaneId} {pre3 : Int} {pre2 : Int} {pre1 : Int} {main : Int} {post1 : Int} {post2 : Int} {s : State} (hs : Kept s0 s) :
    KeptR s0 (execFabricTrainStrobe l pre3 pre2 pre1 main post1 post2 s) := by
  unfold execFabricTrainStrobe
  try dsimp only
  repeat' (first | with_reducible (first | assumption | apply KeptR.next | apply KeptR.ite | apply Kept.ite_fst | apply Kept.ite | apply KeptO.none | apply KeptO.some_id | apply KeptO.some | apply KeptO.ite | apply State.setTx_kept | apply State.emit_kept))

theorem execFabricTrainDone_kept {s0 : State} {l : LaneId} {s : State} (hs : Kept s0 s) :
    KeptR s0 (execFabricTrainDone l s) := by
  unfold execFabricTrainDone
  try dsimp only
  repeat' (first | with_reducible (first | assumption | apply KeptR.next | apply KeptR.ite | apply Kept.ite_fst | apply Kept.ite | apply KeptO.none | apply KeptO.some_id | apply KeptO.some | apply KeptO.ite | apply State.trainDone_kept))

theorem execFabricTrainFail_kept {s0 : State} {l : LaneId} {s : State} (hs : Kept s0 s) :
    KeptR s0 (execFabricTrainFail l s) := by
  unfold execFabricTrainFail
  try dsimp only
  repeat' (first | with_reducible (first | assumption | apply KeptR.next | apply KeptR.ite | apply Kept.ite_fst | apply Kept.ite | apply KeptO.none | apply KeptO.some_id | apply KeptO.some | apply KeptO.ite | apply State.trainFail_kept))

theorem execIeeeTrainingFrameReceive_kept {s0 : State} {l : LaneId} {e : IeeeTrain} {s : State} (hs : Kept s0 s) :
    KeptR s0 (execIeeeTrainingFrameReceive l e s) := by
  unfold execIeeeTrainingFrameReceive
  try dsimp only
  repeat' (first | with_reducible (first | assumption | apply KeptR.next | apply KeptR.ite | apply Kept.ite_fst | apply Kept.ite | apply KeptO.none | apply KeptO.some_id | apply KeptO.some | apply KeptO.ite | apply State.setTx_kept | apply State.emit_kept | apply State.trainFail_kept | apply State.trainDone_kept) | split)

theorem State.prbsCount_kept {s0 : State} {s : State} {l : Nat} {err : Bool} (hs : Kept s0 s) :
    Kept s0 (State.prbsCount s l err) := by
  unfold State.prbsCount
  try dsimp only
  repeat' (first | with_reducible (first | assumption | apply Kept.ite_fst | apply Kept.ite | apply State.raise_kept | apply State.wrap2_kept))

theorem State.ssprqBit_kept {s0 : State} {s : State} {l : Nat} {b : Bool} (hs : Kept s0 s) :
    Kept s0 (State.ssprqBit s l b) := by
  unfold State.ssprqBit
  try dsimp only
  repeat' (first | with_reducible (first | assumption | apply Kept.ite_fst | apply Kept.ite | apply State.raise_kept | apply State.lower_kept | apply State.prbsCount_kept | apply State.setLane_kept))

theorem State.prbsBit_kept {s0 : State} {s : State} {l : Nat} {b : Bool} (hs : Kept s0 s) :
    Kept s0 (State.prbsBit s l b) := by
  unfold State.prbsBit
  try dsimp only
  repeat' (first | with_reducible (first | assumption | apply Kept.ite_fst | apply Kept.ite | apply State.raise_kept | apply State.lower_kept | apply State.prbsCount_kept | apply State.setLane_kept))

theorem State.fabricWords_kept {s0 : State} {s : State} {l : Nat} {x2 : Nat} (hs : Kept s0 s) :
    Kept s0 (State.fabricWords s l x2) := by
  revert hs
  induction x2 generalizing s l with
  | zero =>
    intro hs; unfold State.fabricWords; try dsimp only
    repeat' (first | with_reducible (first | assumption | apply Kept.ite_fst | apply Kept.ite | apply State.emit_kept | apply State.setLane_kept) | split)
  | succ n ih =>
    intro hs; unfold State.fabricWords; try dsimp only
    repeat' (first | with_reducible (first | assumption | apply Kept.ite_fst | apply Kept.ite | apply ih | apply State.emit_kept | apply State.setLane_kept) | split)

theorem State.hearPlaces_kept {s0 : State} {s : State} {l : Nat} {ps : List Nat} (hs : Kept s0 s) :
    Kept s0 (State.hearPlaces s l ps) := by
  unfold State.hearPlaces
  try dsimp only
  repeat' (first | with_reducible (first | assumption | intro s x _ | intro s _ | intro x | apply Kept.ite_fst | apply Kept.ite | apply Kept.foldl | apply Kept.foldl_fst | apply State.ssprqBit_kept | apply State.prbsBit_kept | apply State.fabricWords_kept | apply State.setLane_kept) | split)

theorem execPrbsCheck_kept {s0 : State} {l : LaneId} {v : List Int} {s : State} (hs : Kept s0 s) :
    KeptR s0 (execPrbsCheck l v s) := by
  unfold execPrbsCheck
  try dsimp only
  repeat' (first | with_reducible (first | assumption | apply KeptR.next | apply KeptR.ite | apply Kept.ite_fst | apply Kept.ite | apply State.echoPlaces_kept | apply State.hearPlaces_kept))

theorem State.prbsInject_kept {s0 : State} {s : State} {l : Nat} (hs : Kept s0 s) :
    Kept s0 (State.prbsInject s l) := by
  unfold State.prbsInject
  try dsimp only
  repeat' (first | with_reducible (first | assumption | apply Kept.ite_fst | apply Kept.ite | apply State.setLane_kept))

theorem State.prbsClear_kept {s0 : State} {s : State} {l : Nat} (hs : Kept s0 s) :
    Kept s0 (State.prbsClear s l) := by
  unfold State.prbsClear
  try dsimp only
  repeat' (first | with_reducible (first | assumption | apply State.lower_kept | apply State.set2_kept))

theorem State.writePrbs_kept {s0 : State} {s : State} {l : Nat} {v : Nat} (hs : Kept s0 s) :
    Kept s0 (State.writePrbs s l v) := by
  unfold State.writePrbs
  try dsimp only
  repeat' (first | with_reducible (first | assumption | apply Kept.ite_fst | apply Kept.ite | apply State.lower_kept | apply State.wrAll_kept | apply State.prbsInject_kept | apply State.prbsClear_kept | apply State.setLane_kept))

theorem execPrbsInject_kept {s0 : State} {l : LaneId} {s : State} (hs : Kept s0 s) :
    KeptR s0 (execPrbsInject l s) := by
  unfold execPrbsInject
  try dsimp only
  repeat' (first | with_reducible (first | assumption | intro s x _ | intro s _ | intro x | apply KeptR.next | apply KeptR.ite | apply State.access_kept | apply State.prbsInject_kept))

theorem execPrbsClear_kept {s0 : State} {l : LaneId} {s : State} (hs : Kept s0 s) :
    KeptR s0 (execPrbsClear l s) := by
  unfold execPrbsClear
  try dsimp only
  repeat' (first | with_reducible (first | assumption | intro s x _ | intro s _ | intro x | apply KeptR.next | apply KeptR.ite | apply State.access_kept | apply State.prbsClear_kept))

theorem State.eyeScan_kept {s0 : State} {s : State} {l : Nat} {e : Nat} {src : Nat} (hs : Kept s0 s) :
    Kept s0 (State.eyeScan s l e src) := by
  unfold State.eyeScan
  try dsimp only
  repeat' (first | with_reducible (first | assumption | apply Kept.ite_fst | apply Kept.ite | apply KeptO.none | apply KeptO.some_id | apply KeptO.some | apply KeptO.ite | apply State.opBegin_kept | apply State.opRefuse_kept | apply State.raise_kept | apply State.setLane_kept))

theorem State.writeEye_kept {s0 : State} {s : State} {l : Nat} {v : Nat} {src : Nat} (hs : Kept s0 s) :
    Kept s0 (State.writeEye s l v src) := by
  unfold State.writeEye
  try dsimp only
  repeat' (first | with_reducible (first | assumption | apply Kept.ite_fst | apply Kept.ite | apply State.eyeScan_kept))

theorem execEyeScanStart_kept {s0 : State} {l : LaneId} {src : Fin 4096} {v : Word} {s : State} (hs : Kept s0 s) :
    KeptR s0 (execEyeScanStart l src v s) := by
  unfold execEyeScanStart
  try dsimp only
  repeat' (first | with_reducible (first | assumption | intro s x _ | intro s _ | intro x | apply KeptR.next | apply KeptR.ite | apply State.access_kept | apply State.writeEye_kept))

theorem State.eyeColumn_kept {s0 : State} {s : State} {l : Nat} {counts : List Nat} (hs : Kept s0 s) :
    Kept s0 (State.eyeColumn s l counts) := by
  unfold State.eyeColumn
  try dsimp only
  repeat' (first | with_reducible (first | assumption | apply Kept.ite_fst | apply Kept.ite | apply KeptO.none | apply KeptO.some_id | apply KeptO.some | apply KeptO.ite | apply State.setOp_kept | apply State.opMove_kept | apply State.opFail_kept | apply State.setLane_kept | apply State.netStore_kept | refine Kept.of_fst (by assumption) ?_) | split)

theorem execEyeColumnDone_kept {s0 : State} {l : LaneId} {counts : List Nat} {s : State} (hs : Kept s0 s) :
    KeptR s0 (execEyeColumnDone l counts s) := by
  unfold execEyeColumnDone
  try dsimp only
  repeat' (first | with_reducible (first | assumption | apply KeptR.next | apply KeptR.ite | apply State.eyeColumn_kept))

theorem State.histClear_kept {s0 : State} {s : State} {l : Nat} (hs : Kept s0 s) :
    Kept s0 (State.histClear s l) := by
  unfold State.histClear
  try dsimp only
  repeat' (first | with_reducible (first | assumption | intro s x _ | intro s _ | intro x | apply Kept.foldl | apply Kept.foldl_fst | apply State.set_kept))

theorem State.writeHist_kept {s0 : State} {s : State} {l : Nat} {v : Nat} (hs : Kept s0 s) :
    Kept s0 (State.writeHist s l v) := by
  unfold State.writeHist
  try dsimp only
  repeat' (first | with_reducible (first | assumption | apply Kept.ite_fst | apply Kept.ite | apply State.wrAll_kept | apply State.histClear_kept))

theorem execHistClear_kept {s0 : State} {l : LaneId} {s : State} (hs : Kept s0 s) :
    KeptR s0 (execHistClear l s) := by
  unfold execHistClear
  try dsimp only
  repeat' (first | with_reducible (first | assumption | intro s x _ | intro s _ | intro x | apply KeptR.next | apply KeptR.ite | apply State.access_kept | apply State.histClear_kept))

theorem State.histSample_kept {s0 : State} {s : State} {l : Nat} {n : Nat} (hs : Kept s0 s) :
    Kept s0 (State.histSample s l n) := by
  unfold State.histSample
  try dsimp only
  repeat' (first | with_reducible (first | assumption | intro s x _ | intro s _ | intro x | apply Kept.ite_fst | apply Kept.ite | apply Kept.foldl | apply Kept.foldl_fst | apply State.count_kept | apply State.used_kept | apply State.setLane_kept))

end Sys2Proof.Machine
end

