-- ==== Sys2Proof/Laws/KeptFabric.lean ====
section
/-! SUPPORT. What every operation and meaning of Machine/Fabric.lean keeps (Laws/Kept.lean says what that is): one lemma for each. -/
set_option maxRecDepth 4000
set_option linter.unusedVariables false
namespace Sys2Proof.Machine

theorem State.showPins_kept {s0 : State} {s : State} {n : Nat} (hs : Kept s0 s) :
    Kept s0 (State.showPins s n) := by
  unfold State.showPins
  try dsimp only
  repeat' (first | with_reducible (first | assumption | intro s x _ | intro s _ | intro x | apply Kept.ite_fst | apply Kept.ite | apply Kept.foldl | apply Kept.foldl_fst | apply State.emit_kept | apply State.setFab_kept))

theorem State.floatOutput_kept {s0 : State} {s : State} {n : Nat} {j : Nat} (hs : Kept s0 s) :
    Kept s0 (State.floatOutput s n j) := by
  unfold State.floatOutput
  try dsimp only
  repeat' (first | with_reducible (first | assumption | apply State.pulse_kept | apply State.setBitOf_kept))

theorem State.sampleFloats_kept {s0 : State} {s : State} {n : Nat} (hs : Kept s0 s) :
    Kept s0 (State.sampleFloats s n) := by
  unfold State.sampleFloats
  try dsimp only
  repeat' (first | with_reducible (first | assumption | intro s x _ | intro s _ | intro x | apply Kept.ite_fst | apply Kept.ite | apply Kept.foldl | apply Kept.foldl_fst | apply State.floatOutput_kept | apply State.setFab_kept))

theorem State.instant_kept {s0 : State} {s : State} {g : List FabEvt} (hs : Kept s0 s) :
    Kept s0 (State.instant s g) := by
  unfold State.instant
  try dsimp only
  repeat' (first | with_reducible (first | assumption | intro s x _ | intro s _ | intro x | apply Kept.ite_fst | apply Kept.ite | apply Kept.foldl | apply Kept.foldl_fst | apply KeptC.of_state | apply KeptC.csr_set | apply KeptC.tags_put | apply KeptC.tags_drop | apply KeptC.out_append | apply State.showPins_kept | apply State.sampleFloats_kept | apply State.set_kept | apply State.wires_kept) | simp only [Kept.mk_iff])

theorem State.instants_kept {s0 : State} {s : State} {x1 : Nat} {x2 : List FabEvt} (hs : Kept s0 s) :
    Kept s0 (State.instants s x1 x2) := by
  induction x1 generalizing s x2 with
  | zero => exact hs
  | succ n ih =>
    cases x2 with
    | nil => exact hs
    | cons e t => exact ih (State.instant_kept (s := { s with elapsed := e.time }) hs)

theorem State.fabCycle_kept {s0 : State} {s : State} {ns : Nat} (hs : Kept s0 s) :
    Kept s0 (State.fabCycle s ns) := by
  unfold State.fabCycle
  try dsimp only
  repeat' (first | with_reducible (first | assumption | apply KeptC.of_state | apply KeptC.csr_set | apply KeptC.tags_put | apply KeptC.tags_drop | apply KeptC.out_append | apply State.instants_kept) | simp only [Kept.mk_iff])

theorem State.loadFab_kept {s0 : State} {s : State} {n : Nat} {c : FabCfg} (hs : Kept s0 s) :
    Kept s0 (State.loadFab s n c) := by
  unfold State.loadFab
  try dsimp only
  repeat' (first | with_reducible (first | assumption | apply State.setFab_kept))

theorem State.swapFab_kept {s0 : State} {s : State} {n : Nat} {p : Nat} {c : FabCfg} (hs : Kept s0 s) :
    Kept s0 (State.swapFab s n p c) := by
  unfold State.swapFab
  try dsimp only
  repeat' (first | with_reducible (first | assumption | apply State.setFab_kept))

theorem State.engage_kept {s0 : State} {s : State} {n : Nat} {p : Nat} (hs : Kept s0 s) :
    Kept s0 (State.engage s n p) := by
  unfold State.engage
  try dsimp only
  repeat' (first | with_reducible (first | assumption | intro s x _ | intro s _ | intro x | apply Kept.ite_fst | apply Kept.ite | apply Kept.foldl | apply Kept.foldl_fst | apply State.setFab_kept) | split)

theorem State.usrWritten_kept {s0 : State} {s : State} {n : Nat} {i : Nat} (hs : Kept s0 s) :
    Kept s0 (State.usrWritten s n i) := by
  unfold State.usrWritten
  try dsimp only
  repeat' (first | with_reducible (first | assumption | apply KeptO.none | apply KeptO.some_id | apply KeptO.some | apply KeptO.ite | apply State.setFab_kept) | split)

end Sys2Proof.Machine
end

