-- ==== Sys2Proof/Laws/KeptRegMap.lean ====
section
/-! SUPPORT. What every operation and meaning of Machine/RegMap.lean keeps (Laws/Kept.lean says what that is): one lemma for each. -/
set_option maxRecDepth 4000
set_option linter.unusedVariables false
namespace Sys2Proof.Machine

theorem State.resetField_kept {s0 : State} {s : State} {n : Nat} (hs : Kept s0 s) :
    Kept s0 (State.resetField s n) := by
  unfold State.resetField
  try dsimp only
  repeat' (first | with_reducible (first | assumption | apply Kept.ite_fst | apply Kept.ite | apply KeptC.of_state | apply KeptC.csr_set | apply KeptC.tags_put | apply KeptC.tags_drop | apply KeptC.out_append | apply KeptC.csr_clear) | simp only [Kept.mk_iff] | split)

end Sys2Proof.Machine
end

