-- ==== Sys2Proof/Laws/KeptRollCall.lean ====
section
/-! SUPPORT. What every operation and meaning of Machine/RollCall.lean keeps (Laws/Kept.lean says what that is): one lemma for each. -/
set_option maxRecDepth 4000
set_option linter.unusedVariables false
namespace Sys2Proof.Machine

theorem State.rollStart_kept {s0 : State} {s : State} (hs : Kept s0 s) :
    Kept s0 (State.rollStart s) := by
  unfold State.rollStart
  try dsimp only
  repeat' (first | with_reducible (first | assumption | intro s x _ | intro s _ | intro x | apply Kept.ite_fst | apply Kept.ite | apply Kept.foldl | apply Kept.foldl_fst | apply KeptC.of_state | apply KeptC.csr_set | apply KeptC.tags_put | apply KeptC.tags_drop | apply KeptC.out_append | apply State.set_kept | apply State.setBitOf_kept | apply State.setDomains_kept | apply State.startClock_kept | apply State.rollEnd_kept) | simp only [Kept.mk_iff] | split)

theorem execRollCallStart_kept {s0 : State} {s : State} (hs : Kept s0 s) :
    KeptR s0 (execRollCallStart s) := by
  unfold execRollCallStart
  try dsimp only
  repeat' (first | with_reducible (first | assumption | apply KeptR.next | apply KeptR.ite | apply Kept.ite_fst | apply Kept.ite | apply State.rollStart_kept) | split)

theorem execSidebandUp_kept {s0 : State} {n : FieldId} {ok : Bool} {s : State} (hs : Kept s0 s) :
    KeptR s0 (execSidebandUp n ok s) := by
  unfold execSidebandUp
  try dsimp only
  repeat' (first | with_reducible (first | assumption | apply KeptR.next | apply KeptR.ite | apply Kept.ite_fst | apply Kept.ite | apply State.set_kept | apply State.raise_kept | apply State.rollFence_kept))

theorem State.rollDie_kept {s0 : State} {s : State} {n : Nat} {dtype : Nat} {rev : Nat} {strap : Nat} {serial : Nat} {rep : List Word} (hs : Kept s0 s) :
    Kept s0 (State.rollDie s n dtype rev strap serial rep) := by
  unfold State.rollDie
  try dsimp only
  repeat' (first | with_reducible (first | assumption | intro s x _ | intro s _ | intro x | apply Kept.ite_fst | apply Kept.ite | apply Kept.foldl | apply Kept.foldl_fst | apply State.set_kept | apply State.setB_kept | apply State.set2_kept | apply State.rollFence_kept))

theorem execRoll_kept {s0 : State} {n : FieldId} {dtype : Fin 16} {rev : Fin 16} {strap : Fin 8} {serial : BitVec 64} {rep : List Word} {s : State} (hs : Kept s0 s) :
    KeptR s0 (execRoll n dtype rev strap serial rep s) := by
  unfold execRoll
  try dsimp only
  repeat' (first | with_reducible (first | assumption | apply KeptR.next | apply KeptR.ite | apply Kept.ite_fst | apply Kept.ite | apply State.rollDie_kept))

theorem State.trainModules_kept {s0 : State} {s : State} {n : Nat} {hw : List (BitVec 88)} {fd : List (BitVec 88)} (hs : Kept s0 s) :
    Kept s0 (State.trainModules s n hw fd) := by
  unfold State.trainModules
  try dsimp only
  repeat' (first | with_reducible (first | assumption | intro s x _ | intro s _ | intro x | apply Kept.ite_fst | apply Kept.ite | apply KeptO.none | apply KeptO.some_id | apply KeptO.some | apply KeptO.ite | apply Kept.foldl | apply Kept.foldl_fst | apply State.relive_kept | apply State.moduleUp_kept | apply State.set_kept | apply State.logEvent_kept | apply State.rollFence_kept | apply State.wires_kept) | split)

theorem execModulesTrained_kept {s0 : State} {n : FieldId} {hw : List (BitVec 88)} {fd : List (BitVec 88)} {s : State} (hs : Kept s0 s) :
    KeptR s0 (execModulesTrained n hw fd s) := by
  unfold execModulesTrained
  try dsimp only
  repeat' (first | with_reducible (first | assumption | apply KeptR.next | apply KeptR.ite | apply Kept.ite_fst | apply Kept.ite | apply State.trainModules_kept))

theorem execAdmitTimeout_kept {s0 : State} {n : FieldId} {s : State} (hs : Kept s0 s) :
    KeptR s0 (execAdmitTimeout n s) := by
  unfold execAdmitTimeout
  try dsimp only
  repeat' (first | with_reducible (first | assumption | apply KeptR.next | apply KeptR.ite | apply Kept.ite_fst | apply Kept.ite | apply State.rollFence_kept))

theorem State.clearBasins_kept {s0 : State} {s : State} {n : Nat} {first : Nat} {count : Nat} (hs : Kept s0 s) :
    Kept s0 (State.clearBasins s n first count) := by
  unfold State.clearBasins
  try dsimp only
  repeat' (first | with_reducible (first | assumption | apply KeptC.of_state | apply KeptC.csr_set | apply KeptC.tags_put | apply KeptC.tags_drop | apply KeptC.out_append | apply KeptC.csr_clear) | simp only [Kept.mk_iff])

theorem State.loadBasins_kept {s0 : State} {s : State} {n : Nat} {first : Nat} {count : Nat} {b : ImgBody} (hs : Kept s0 s) :
    Kept s0 (State.loadBasins s n first count b) := by
  unfold State.loadBasins
  try dsimp only
  repeat' (first | with_reducible (first | assumption | intro s x _ | intro s _ | intro x | apply Kept.foldl | apply Kept.foldl_fst | apply KeptC.of_state | apply KeptC.csr_set | apply KeptC.tags_put | apply KeptC.tags_drop | apply KeptC.out_append | apply State.clearBasins_kept) | simp only [Kept.mk_iff])

theorem State.copyInFail_kept {s0 : State} {s : State} {n : Nat} {err : Nat} (hs : Kept s0 s) :
    Kept s0 (State.copyInFail s n err) := by
  unfold State.copyInFail
  try dsimp only
  repeat' (first | with_reducible (first | assumption | apply KeptC.of_state | apply KeptC.csr_set | apply KeptC.tags_put | apply KeptC.tags_drop | apply KeptC.out_append | apply KeptC.csr_clear | apply State.set_kept | apply State.dropFab_kept | apply State.rollFence_kept | apply State.clearBasins_kept) | simp only [Kept.mk_iff])

theorem State.showSlots_kept {s0 : State} {s : State} {n : Nat} (hs : Kept s0 s) :
    Kept s0 (State.showSlots s n) := by
  unfold State.showSlots
  try dsimp only
  repeat' (first | with_reducible (first | assumption | intro s x _ | intro s _ | intro x | apply Kept.foldl | apply Kept.foldl_fst | apply State.set_kept | apply State.setB_kept))

theorem State.keyArrives_kept {s0 : State} {s : State} {n : Nat} {ok : Bool} (hs : Kept s0 s) :
    Kept s0 (State.keyArrives s n ok) := by
  unfold State.keyArrives
  try dsimp only
  repeat' (first | with_reducible (first | assumption | intro s x _ | intro s _ | intro x | apply Kept.ite_fst | apply Kept.ite | apply Kept.foldl | apply Kept.foldl_fst | apply State.set_kept | apply State.raise_kept | apply State.dropFab_kept | apply State.resetField_kept | apply State.copyInFail_kept | apply State.showSlots_kept))

theorem execKey_kept {s0 : State} {n : FieldId} {ok : Bool} {s : State} (hs : Kept s0 s) :
    KeptR s0 (execKey n ok s) := by
  unfold execKey
  try dsimp only
  repeat' (first | with_reducible (first | assumption | apply KeptR.next | apply KeptR.ite | apply Kept.ite_fst | apply Kept.ite | apply State.keyArrives_kept))

theorem State.applyBody_kept {s0 : State} {s : State} {n : Nat} {b : ImgBody} {det : List (Fin 8)} (hs : Kept s0 s) :
    Kept s0 (State.applyBody s n b det) := by
  unfold State.applyBody
  try dsimp only
  repeat' (first | with_reducible (first | assumption | intro s x _ | intro s _ | intro x | apply Kept.ite_fst | apply Kept.ite | apply Kept.foldl | apply Kept.foldl_fst | apply KeptC.of_state | apply KeptC.csr_set | apply KeptC.tags_put | apply KeptC.tags_drop | apply KeptC.out_append | apply State.loadFab_kept | apply State.set_kept | apply State.raise_kept | apply State.setB_kept | apply State.set2_kept | apply State.setBitOf_kept | apply State.loadBasins_kept) | simp only [Kept.mk_iff])

theorem State.fieldLoaded_kept {s0 : State} {s : State} {n : Nat} {us : Nat} {storeOk : Bool} {det : List (Fin 8)} (hs : Kept s0 s) :
    Kept s0 (State.fieldLoaded s n us storeOk det) := by
  unfold State.fieldLoaded
  try dsimp only
  repeat' (first | with_reducible (first | assumption | apply Kept.ite_fst | apply Kept.ite | apply State.autoNext_kept | apply State.uncheck_kept | apply State.loadCode_kept | apply State.fieldSettings_kept | apply State.set_kept | apply State.copyInFail_kept | apply State.applyBody_kept))

theorem execFieldLoadDone_kept {s0 : State} {n : FieldId} {us : Fin 65536} {storeOk : Bool} {det : List (Fin 8)} {s : State} (hs : Kept s0 s) :
    KeptR s0 (execFieldLoadDone n us storeOk det s) := by
  unfold execFieldLoadDone
  try dsimp only
  repeat' (first | with_reducible (first | assumption | apply KeptR.next | apply KeptR.ite | apply Kept.ite_fst | apply Kept.ite | apply State.fieldLoaded_kept))

theorem State.admitField_kept {s0 : State} {s : State} {n : Nat} (hs : Kept s0 s) :
    Kept s0 (State.admitField s n) := by
  unfold State.admitField
  try dsimp only
  repeat' (first | with_reducible (first | assumption | apply Kept.ite_fst | apply Kept.ite | apply KeptC.of_state | apply KeptC.csr_set | apply KeptC.tags_put | apply KeptC.tags_drop | apply KeptC.out_append | apply State.set_kept | apply State.raise_kept | apply State.lower_kept | apply State.setBitOf_kept | apply State.rollEnd_kept | apply State.wires_kept) | simp only [Kept.mk_iff])

theorem execFieldReady_kept {s0 : State} {n : FieldId} {s : State} (hs : Kept s0 s) :
    KeptR s0 (execFieldReady n s) := by
  unfold execFieldReady
  try dsimp only
  repeat' (first | with_reducible (first | assumption | apply KeptR.next | apply KeptR.ite | apply Kept.ite_fst | apply Kept.ite | apply State.admitField_kept))

theorem State.releaseAt_kept {s0 : State} {s : State} {t : Nat} (hs : Kept s0 s) :
    Kept s0 (State.releaseAt s t) := by
  unfold State.releaseAt
  try dsimp only
  repeat' (first | with_reducible (first | assumption | apply State.raise_kept | apply State.setStamp_kept))

theorem execReleasePoint_kept {s0 : State} {level : Bool} {s : State} (hs : Kept s0 s) :
    KeptR s0 (execReleasePoint level s) := by
  unfold execReleasePoint
  try dsimp only
  repeat' (first | with_reducible (first | assumption | apply KeptR.next | apply KeptR.ite | apply Kept.ite_fst | apply Kept.ite | apply State.setB_kept | apply State.releaseAt_kept))

theorem execSyncTimeout_kept {s0 : State} {s : State} (hs : Kept s0 s) :
    KeptR s0 (execSyncTimeout s) := by
  unfold execSyncTimeout
  try dsimp only
  repeat' (first | with_reducible (first | assumption | apply KeptR.next | apply KeptR.ite | apply Kept.ite_fst | apply Kept.ite | apply State.raise_kept | apply State.releaseAt_kept))

theorem State.stepDone_kept {s0 : State} {s : State} {n : Nat} (hs : Kept s0 s) :
    Kept s0 (State.stepDone s n) := by
  unfold State.stepDone
  try dsimp only
  repeat' (first | with_reducible (first | assumption | apply Kept.ite_fst | apply Kept.ite | apply KeptC.of_state | apply KeptC.csr_set | apply KeptC.tags_put | apply KeptC.tags_drop | apply KeptC.out_append | apply State.showPins_kept | apply State.set_kept | apply State.setBitOf_kept) | simp only [Kept.mk_iff])

theorem execStartupStep_kept {s0 : State} {n : FieldId} {s : State} (hs : Kept s0 s) :
    KeptR s0 (execStartupStep n s) := by
  unfold execStartupStep
  try dsimp only
  repeat' (first | with_reducible (first | assumption | apply KeptR.next | apply KeptR.ite | apply Kept.ite_fst | apply Kept.ite | apply KeptC.of_state | apply KeptC.csr_set | apply KeptC.tags_put | apply KeptC.tags_drop | apply KeptC.out_append | apply State.stepDone_kept) | simp only [Kept.mk_iff] | split)

theorem execFabricPllLock_kept {s0 : State} {n : FieldId} {i : Fin 6} {s : State} (hs : Kept s0 s) :
    KeptR s0 (execFabricPllLock n i s) := by
  unfold execFabricPllLock
  try dsimp only
  repeat' (first | with_reducible (first | assumption | apply KeptR.next | apply KeptR.ite | apply Kept.ite_fst | apply Kept.ite | apply State.set_kept | apply State.setBitOf_kept | apply State.stepDone_kept))

theorem execFabricPllLockTimeout_kept {s0 : State} {n : FieldId} {s : State} (hs : Kept s0 s) :
    KeptR s0 (execFabricPllLockTimeout n s) := by
  unfold execFabricPllLockTimeout
  try dsimp only
  repeat' (first | with_reducible (first | assumption | apply KeptR.next | apply KeptR.ite | apply Kept.ite_fst | apply Kept.ite | apply State.raise_kept | apply State.copyInFail_kept | apply State.stepDone_kept))

theorem execServiceEntry_kept {s0 : State} {s : State} (hs : Kept s0 s) :
    KeptR s0 (execServiceEntry s) := by
  unfold execServiceEntry
  try dsimp only
  repeat' (first | with_reducible (first | assumption | apply KeptR.next | apply KeptR.ite | apply Kept.ite_fst | apply Kept.ite | apply State.set_kept))

theorem execRecoveryAccessEntry_kept {s0 : State} {s : State} (hs : Kept s0 s) :
    KeptR s0 (execRecoveryAccessEntry s) := by
  unfold execRecoveryAccessEntry
  try dsimp only
  repeat' (first | with_reducible (first | assumption | apply KeptR.next | apply KeptR.ite | apply Kept.ite_fst | apply Kept.ite | apply State.set_kept))

theorem State.writePcmd_kept {s0 : State} {s : State} {n : Nat} {v : Nat} {src : Nat} (hs : Kept s0 s) :
    Kept s0 (State.writePcmd s n v src) := by
  unfold State.writePcmd
  try dsimp only
  repeat' (first | with_reducible (first | assumption | apply Kept.ite_fst | apply Kept.ite | apply KeptC.of_state | apply KeptC.csr_set | apply KeptC.tags_put | apply KeptC.tags_drop | apply KeptC.out_append | apply State.engage_kept | apply State.opBegin_kept | apply State.opRefuse_kept | apply State.opMove_kept | apply State.set_kept | apply State.raise_kept | apply State.setSwap_kept) | simp only [Kept.mk_iff] | split)

theorem execParcelSwap_kept {s0 : State} {n : FieldId} {v : Word} {src : Fin 4096} {s : State} (hs : Kept s0 s) :
    KeptR s0 (execParcelSwap n v src s) := by
  unfold execParcelSwap
  try dsimp only
  repeat' (first | with_reducible (first | assumption | intro s x _ | intro s _ | intro x | apply KeptR.next | apply KeptR.ite | apply State.access_kept | apply State.writePcmd_kept))

theorem State.swapBlank_kept {s0 : State} {s : State} {n : Nat} {w : SwapSt} {err : Nat} (hs : Kept s0 s) :
    Kept s0 (State.swapBlank s n w err) := by
  unfold State.swapBlank
  try dsimp only
  repeat' (first | with_reducible (first | assumption | apply State.swapFab_kept | apply State.opFail_kept | apply State.set_kept | apply State.endSwap_kept | apply State.clearBasins_kept))

theorem execParcelDrained_kept {s0 : State} {n : FieldId} {s : State} (hs : Kept s0 s) :
    KeptR s0 (execParcelDrained n s) := by
  unfold execParcelDrained
  try dsimp only
  repeat' (first | with_reducible (first | assumption | apply KeptR.next | apply KeptR.ite | apply Kept.ite_fst | apply Kept.ite | apply KeptO.none | apply KeptO.some_id | apply KeptO.some | apply KeptO.ite | apply State.opMove_kept | apply State.setSwap_kept | apply State.swapBlank_kept) | split)

theorem State.swapPiece_kept {s0 : State} {s : State} {n : Nat} {w : SwapSt} (hs : Kept s0 s) :
    Kept s0 (State.swapPiece s n w) := by
  unfold State.swapPiece
  try dsimp only
  repeat' (first | with_reducible (first | assumption | apply Kept.ite_fst | apply Kept.ite | apply State.opMove_kept | apply State.used_kept | apply State.setSwap_kept))

theorem State.swapCycle_kept {s0 : State} {s : State} (hs : Kept s0 s) :
    Kept s0 (State.swapCycle s) := by
  unfold State.swapCycle
  try dsimp only
  repeat' (first | with_reducible (first | assumption | intro s x _ | intro s _ | intro x | apply Kept.ite_fst | apply Kept.ite | apply Kept.foldl | apply Kept.foldl_fst | apply State.swapPiece_kept) | split)

theorem execParcelWritten_kept {s0 : State} {n : FieldId} {ok : Bool} {s : State} (hs : Kept s0 s) :
    KeptR s0 (execParcelWritten n ok s) := by
  unfold execParcelWritten
  try dsimp only
  repeat' (first | with_reducible (first | assumption | apply KeptR.next | apply KeptR.ite | apply Kept.ite_fst | apply Kept.ite | apply State.swapFab_kept | apply State.opMove_kept | apply State.setSwap_kept | apply State.loadBasins_kept | apply State.swapBlank_kept) | split)

theorem State.replace_kept {s0 : State} {s : State} {n : Nat} {p : Nat} {b : ImgBody} (hs : Kept s0 s) :
    Kept s0 (State.replace s n p b) := by
  unfold State.replace
  try dsimp only
  repeat' (first | with_reducible (first | assumption | intro s x _ | intro s _ | intro x | apply Kept.foldl | apply Kept.foldl_fst | apply KeptC.of_state | apply KeptC.csr_set | apply KeptC.tags_put | apply KeptC.tags_drop | apply KeptC.out_append) | simp only [Kept.mk_iff])

theorem execParcelActive_kept {s0 : State} {n : FieldId} {s : State} (hs : Kept s0 s) :
    KeptR s0 (execParcelActive n s) := by
  unfold execParcelActive
  try dsimp only
  repeat' (first | with_reducible (first | assumption | apply KeptR.next | apply KeptR.ite | apply Kept.ite_fst | apply Kept.ite | apply State.opDone_kept | apply State.set_kept | apply State.wrap_kept | apply State.endSwap_kept | apply State.replace_kept) | split)

theorem execParcelWedged_kept {s0 : State} {n : FieldId} {s : State} (hs : Kept s0 s) :
    KeptR s0 (execParcelWedged n s) := by
  unfold execParcelWedged
  try dsimp only
  repeat' (first | with_reducible (first | assumption | apply KeptR.next | apply KeptR.ite | apply Kept.ite_fst | apply Kept.ite | apply State.opFail_kept | apply State.set_kept | apply State.endSwap_kept) | split)

end Sys2Proof.Machine
end

