-- ==== Sys2Proof/Laws/KeptPower.lean ====
section
/-! SUPPORT. What every operation and meaning of Machine/Power.lean keeps (Laws/Kept.lean says what that is): one lemma for each. -/
set_option maxRecDepth 4000
set_option linter.unusedVariables false
namespace Sys2Proof.Machine

theorem State.enterDormant_kept {s0 : State} {s : State} {entry : Nat} (hs : Kept s0 s) :
    Kept s0 (State.enterDormant s entry) := by
  unfold State.enterDormant
  try dsimp only
  repeat' (first | with_reducible (first | assumption | apply Kept.ite_fst | apply Kept.ite | apply KeptO.none | apply KeptO.some_id | apply KeptO.some | apply KeptO.ite | apply KeptC.of_state | apply KeptC.csr_set | apply KeptC.tags_put | apply KeptC.tags_drop | apply KeptC.out_append | apply State.set_kept | apply State.raise_kept | apply State.keepAlive_kept | apply State.wiped_kept | apply State.wmEvent_kept) | simp only [Kept.mk_iff])

theorem State.wake_kept {s0 : State} {s : State} {src : Nat} (hs : Kept s0 s) :
    Kept s0 (State.wake s src) := by
  unfold State.wake
  try dsimp only
  repeat' (first | with_reducible (first | assumption | apply State.set_kept | apply State.pkrRun_kept | apply State.restartTclk_kept))

theorem State.wakeEvent_kept {s0 : State} {s : State} {src : Nat} (hs : Kept s0 s) :
    Kept s0 (State.wakeEvent s src) := by
  unfold State.wakeEvent
  try dsimp only
  repeat' (first | with_reducible (first | assumption | apply Kept.ite_fst | apply Kept.ite | apply KeptO.none | apply KeptO.some_id | apply KeptO.some | apply KeptO.ite | apply KeptC.of_state | apply KeptC.csr_set | apply KeptC.tags_put | apply KeptC.tags_drop | apply KeptC.out_append | apply State.wake_kept) | simp only [Kept.mk_iff] | split)

theorem execDwake_kept {s0 : State} {s : State} (hs : Kept s0 s) :
    KeptR s0 (execDwake s) := by
  unfold execDwake
  try dsimp only
  repeat' (first | with_reducible (first | assumption | apply KeptR.next | apply KeptR.ite | apply State.wakeEvent_kept))

theorem execWakeTimer_kept {s0 : State} {s : State} (hs : Kept s0 s) :
    KeptR s0 (execWakeTimer s) := by
  unfold execWakeTimer
  try dsimp only
  repeat' (first | with_reducible (first | assumption | apply KeptR.next | apply KeptR.ite | apply Kept.ite_fst | apply Kept.ite | apply State.wakeEvent_kept))

theorem execPerstAssert_kept {s0 : State} {s : State} (hs : Kept s0 s) :
    KeptR s0 (execPerstAssert s) := by
  unfold execPerstAssert
  try dsimp only
  repeat' (first | with_reducible (first | assumption | apply KeptR.next | apply KeptR.ite | apply Kept.ite_fst | apply Kept.ite | apply KeptC.of_state | apply KeptC.csr_set | apply KeptC.tags_put | apply KeptC.tags_drop | apply KeptC.out_append | apply State.wakeEvent_kept | apply State.pkr_kept) | simp only [Kept.mk_iff])

theorem execPerstRelease_kept {s0 : State} {loader : Bool} {s : State} (hs : Kept s0 s) :
    KeptR s0 (execPerstRelease loader s) := by
  unfold execPerstRelease
  try dsimp only
  repeat' (first | with_reducible (first | assumption | apply KeptR.next | apply KeptR.ite | apply KeptC.of_state | apply KeptC.csr_set | apply KeptC.tags_put | apply KeptC.tags_drop | apply KeptC.out_append | apply State.unhold_kept | apply State.pkrRelease_kept) | simp only [Kept.mk_iff])

theorem State.fieldOff_kept {s0 : State} {s : State} {n : Nat} (hs : Kept s0 s) :
    Kept s0 (State.fieldOff s n) := by
  unfold State.fieldOff
  try dsimp only
  repeat' (first | with_reducible (first | assumption | apply KeptC.of_state | apply KeptC.csr_set | apply KeptC.tags_put | apply KeptC.tags_drop | apply KeptC.out_append | apply KeptC.csr_clear | apply State.showPins_kept | apply State.dropFab_kept | apply State.resetField_kept | apply State.clearBasins_kept) | simp only [Kept.mk_iff])

theorem State.fallowEnd_kept {s0 : State} {s : State} (hs : Kept s0 s) :
    Kept s0 (State.fallowEnd s) := by
  unfold State.fallowEnd
  try dsimp only
  repeat' (first | with_reducible (first | assumption | apply Kept.ite_fst | apply Kept.ite | apply KeptC.of_state | apply KeptC.csr_set | apply KeptC.tags_put | apply KeptC.tags_drop | apply KeptC.out_append | apply State.lower_kept | apply State.setBitOf_kept | apply State.clearBitOf_kept | apply State.fieldOff_kept | apply State.setDomains_kept) | simp only [Kept.mk_iff] | split)

theorem State.pwrRefuse_kept {s0 : State} {s : State} {code : Nat} (hs : Kept s0 s) :
    Kept s0 (State.pwrRefuse s code) := by
  unfold State.pwrRefuse
  try dsimp only
  repeat' (first | with_reducible (first | assumption | apply State.set_kept | apply State.raise_kept))

theorem State.writePwrCmd_kept {s0 : State} {s : State} {v : Nat} (hs : Kept s0 s) :
    Kept s0 (State.writePwrCmd s v) := by
  unfold State.writePwrCmd
  try dsimp only
  repeat' (first | with_reducible (first | assumption | apply Kept.ite_fst | apply Kept.ite | apply KeptO.none | apply KeptO.some_id | apply KeptO.some | apply KeptO.ite | apply KeptC.of_state | apply KeptC.csr_set | apply KeptC.tags_put | apply KeptC.tags_drop | apply KeptC.out_append | apply State.writeFlhCtrl_kept | apply State.raise_kept | apply State.enterDormant_kept | apply State.fallowEnd_kept | apply State.pwrRefuse_kept) | simp only [Kept.mk_iff] | split)

theorem execDormant_kept {s0 : State} {key : BitVec 16} {s : State} (hs : Kept s0 s) :
    KeptR s0 (execDormant key s) := by
  unfold execDormant
  try dsimp only
  repeat' (first | with_reducible (first | assumption | intro s x _ | intro s _ | intro x | apply KeptR.next | apply KeptR.ite | apply State.access_kept | apply State.writePwrCmd_kept))

theorem execFallow_kept {s0 : State} {n : FieldId} {key : BitVec 16} {s : State} (hs : Kept s0 s) :
    KeptR s0 (execFallow n key s) := by
  unfold execFallow
  try dsimp only
  repeat' (first | with_reducible (first | assumption | intro s x _ | intro s _ | intro x | apply KeptR.next | apply KeptR.ite | apply State.access_kept | apply State.writePwrCmd_kept))

theorem State.writeAtpkr_kept {s0 : State} {s : State} {v : Nat} (hs : Kept s0 s) :
    Kept s0 (State.writeAtpkr s v) := by
  unfold State.writeAtpkr
  try dsimp only
  repeat' (first | with_reducible (first | assumption | apply Kept.ite_fst | apply Kept.ite | apply State.atpkrRefused_kept | apply State.set_kept))

theorem execFallowAtpkrWrite_kept {s0 : State} {v : Word} {s : State} (hs : Kept s0 s) :
    KeptR s0 (execFallowAtpkrWrite v s) := by
  unfold execFallowAtpkrWrite
  try dsimp only
  repeat' (first | with_reducible (first | assumption | intro s x _ | intro s _ | intro x | apply KeptR.next | apply KeptR.ite | apply State.access_kept | apply State.writeAtpkr_kept))

theorem State.writeHbmop_kept {s0 : State} {s : State} {v : Nat} (hs : Kept s0 s) :
    Kept s0 (State.writeHbmop s v) := by
  unfold State.writeHbmop
  try dsimp only
  repeat' (first | with_reducible (first | assumption | intro s x _ | intro s _ | intro x | apply Kept.ite_fst | apply Kept.ite | apply Kept.foldl | apply Kept.foldl_fst | apply State.writeShadow_kept | apply State.writeFchg_kept | apply State.set_kept | apply State.raise_kept | apply State.w1c_kept))

theorem execHbmOpChange_kept {s0 : State} {v : Word} {s : State} (hs : Kept s0 s) :
    KeptR s0 (execHbmOpChange v s) := by
  unfold execHbmOpChange
  try dsimp only
  repeat' (first | with_reducible (first | assumption | intro s x _ | intro s _ | intro x | apply KeptR.next | apply KeptR.ite | apply State.access_kept | apply State.writeHbmop_kept))

theorem execQuadGate_kept {s0 : State} {q : QuadId} {s : State} (hs : Kept s0 s) :
    KeptR s0 (execQuadGate q s) := by
  unfold execQuadGate
  try dsimp only
  repeat' (first | with_reducible (first | assumption | apply KeptR.next | apply KeptR.ite | apply Kept.ite_fst | apply Kept.ite | apply State.setBitOf_kept | apply State.clearBitOf_kept))

theorem execQuadWake_kept {s0 : State} {l : LaneId} {k : Fin 4} {v : Word} {s : State} (hs : Kept s0 s) :
    KeptR s0 (execQuadWake l k v s) := by
  unfold execQuadWake
  try dsimp only
  repeat' (first | with_reducible (first | assumption | intro s x _ | intro s _ | intro x | apply KeptR.next | apply KeptR.ite | apply Kept.ite_fst | apply Kept.ite | apply State.writeCfeCtrl_kept | apply State.writeFurCtrl_kept | apply State.writeLnCtrl_kept | apply State.access_kept | apply State.wakeQuad_kept) | split)

theorem execBankGate_kept {s0 : State} {i : RsvId} {b : Fin 16} {s : State} (hs : Kept s0 s) :
    KeptR s0 (execBankGate i b s) := by
  unfold execBankGate
  try dsimp only
  repeat' (first | with_reducible (first | assumption | apply KeptR.next | apply KeptR.ite | apply Kept.ite_fst | apply Kept.ite | apply State.setBitOf_kept))

theorem State.readTemp_kept {s0 : State} {s : State} {temp : Field} {peak : Field} {t : Byte} {i : Nat} {j : Nat} (hs : Kept s0 s) :
    Kept s0 (State.readTemp s temp peak t i j) := by
  unfold State.readTemp
  try dsimp only
  repeat' (first | with_reducible (first | assumption | apply Kept.ite_fst | apply Kept.ite | apply State.set_kept))

theorem State.dormantSensors_kept {s0 : State} {s : State} {r : Sensors} (hs : Kept s0 s) :
    Kept s0 (State.dormantSensors s r) := by
  unfold State.dormantSensors
  try dsimp only
  repeat' (first | with_reducible (first | assumption | apply Kept.ite_fst | apply Kept.ite | apply KeptC.of_state | apply KeptC.csr_set | apply KeptC.tags_put | apply KeptC.tags_drop | apply KeptC.out_append | apply State.wake_kept) | simp only [Kept.mk_iff] | split)

theorem State.showDrift_kept {s0 : State} {s : State} {n : Nat} (hs : Kept s0 s) :
    Kept s0 (State.showDrift s n) := by
  unfold State.showDrift
  try dsimp only
  repeat' (first | with_reducible (first | assumption | apply Kept.ite_fst | apply Kept.ite | apply State.setB_kept))

theorem State.readSensors_kept {s0 : State} {s : State} {r : Sensors} (hs : Kept s0 s) :
    Kept s0 (State.readSensors s r) := by
  unfold State.readSensors
  try dsimp only
  repeat' (first | with_reducible (first | assumption | intro s x _ | intro s _ | intro x | apply Kept.ite_fst | apply Kept.ite | apply Kept.foldl | apply Kept.foldl_fst | apply KeptC.of_state | apply KeptC.csr_set | apply KeptC.tags_put | apply KeptC.tags_drop | apply KeptC.out_append | apply State.set_kept | apply State.raise_kept | apply State.lower_kept | apply State.used_kept | apply State.logEvent_kept | apply State.readTemp_kept | apply State.showDrift_kept) | simp only [Kept.mk_iff])

theorem execSensorRead_kept {s0 : State} {r : Sensors} {s : State} (hs : Kept s0 s) :
    KeptR s0 (execSensorRead r s) := by
  unfold execSensorRead
  try dsimp only
  repeat' (first | with_reducible (first | assumption | apply KeptR.next | apply KeptR.ite | apply Kept.ite_fst | apply Kept.ite | apply State.dormantSensors_kept | apply State.readSensors_kept) | split)

theorem execFieldTrip_kept {s0 : State} {n : FieldId} {s : State} (hs : Kept s0 s) :
    KeptR s0 (execFieldTrip n s) := by
  unfold execFieldTrip
  try dsimp only
  repeat' (first | with_reducible (first | assumption | apply KeptR.next | apply KeptR.ite | apply Kept.ite_fst | apply Kept.ite | apply State.setBitOf_kept | apply State.used_kept | apply State.logEvent_kept | apply State.fieldOff_kept | apply State.rollFence_kept))

theorem execPackageTrip_kept {s0 : State} {s : State} (hs : Kept s0 s) :
    KeptR s0 (execPackageTrip s) := by
  unfold execPackageTrip
  try dsimp only
  repeat' (first | with_reducible (first | assumption | apply KeptR.next | apply KeptR.ite | apply Kept.ite_fst | apply Kept.ite | apply KeptC.of_state | apply KeptC.csr_set | apply KeptC.tags_put | apply KeptC.tags_drop | apply KeptC.out_append | apply State.set_kept | apply State.used_kept | apply State.logEvent_kept | apply State.enterDormant_kept) | simp only [Kept.mk_iff] | split)

theorem execPowerLimit_kept {s0 : State} {s : State} (hs : Kept s0 s) :
    KeptR s0 (execPowerLimit s) := by
  unfold execPowerLimit
  try dsimp only
  repeat' (first | with_reducible (first | assumption | apply KeptR.next | apply KeptR.ite | apply Kept.ite_fst | apply Kept.ite | apply State.raise_kept | apply State.used_kept | apply State.logEvent_kept))

theorem execSupplyWarn_kept {s0 : State} {die : Fin 9} {ch : Fin 6} {s : State} (hs : Kept s0 s) :
    KeptR s0 (execSupplyWarn die ch s) := by
  unfold execSupplyWarn
  try dsimp only
  repeat' (first | with_reducible (first | assumption | apply KeptR.next | apply KeptR.ite | apply Kept.ite_fst | apply Kept.ite | apply State.raise_kept | apply State.logEvent_kept))

theorem execBrownOut_kept {s0 : State} {die : Fin 9} {ch : Fin 6} {s : State} (hs : Kept s0 s) :
    KeptR s0 (execBrownOut die ch s) := by
  unfold execBrownOut
  try dsimp only
  repeat' (first | with_reducible (first | assumption | apply KeptR.next | apply KeptR.ite | apply Kept.ite_fst | apply Kept.ite | apply KeptC.of_state | apply KeptC.csr_set | apply KeptC.tags_put | apply KeptC.tags_drop | apply KeptC.out_append | apply State.raise_kept | apply State.fieldOff_kept | apply State.pkrHeld_kept | apply State.rollFence_kept | apply State.por_kept) | simp only [Kept.mk_iff])

theorem execPor_kept {s0 : State} {ball : Bool} {slow : Bool} {reff : Bool} {s : State} (hs : Kept s0 s) :
    KeptR s0 (execPor ball slow reff s) := by
  unfold execPor
  try dsimp only
  repeat' (first | with_reducible (first | assumption | apply KeptR.next | apply KeptR.ite | apply Kept.ite_fst | apply Kept.ite | apply State.unhold_kept | apply State.por_kept))

theorem execPkrRelease_kept {s0 : State} {loader : Bool} {ok : Bool} {s : State} (hs : Kept s0 s) :
    KeptR s0 (execPkrRelease loader ok s) := by
  unfold execPkrRelease
  try dsimp only
  repeat' (first | with_reducible (first | assumption | apply KeptR.next | apply KeptR.ite | apply Kept.ite_fst | apply Kept.ite | apply State.unhold_kept | apply State.pkrRelease_kept))

theorem State.writeRstCmd_kept {s0 : State} {s : State} {v : Nat} (hs : Kept s0 s) :
    Kept s0 (State.writeRstCmd s v) := by
  unfold State.writeRstCmd
  try dsimp only
  repeat' (first | with_reducible (first | assumption | apply Kept.ite_fst | apply Kept.ite | apply State.pkr_kept))

theorem execPackageResetCommand_kept {s0 : State} {v : Word} {s : State} (hs : Kept s0 s) :
    KeptR s0 (execPackageResetCommand v s) := by
  unfold execPackageResetCommand
  try dsimp only
  repeat' (first | with_reducible (first | assumption | intro s x _ | intro s _ | intro x | apply KeptR.next | apply KeptR.ite | apply State.access_kept | apply State.writeRstCmd_kept))

theorem execMcWatchdog_kept {s0 : State} {s : State} (hs : Kept s0 s) :
    KeptR s0 (execMcWatchdog s) := by
  unfold execMcWatchdog
  try dsimp only
  repeat' (first | with_reducible (first | assumption | apply KeptR.next | apply KeptR.ite | apply State.pkr_kept))

theorem execHotReset_kept {s0 : State} {s : State} (hs : Kept s0 s) :
    KeptR s0 (execHotReset s) := by
  unfold execHotReset
  try dsimp only
  repeat' (first | with_reducible (first | assumption | apply KeptR.next | apply KeptR.ite | apply State.pkr_kept))

theorem execRefclkLost_kept {s0 : State} {s : State} (hs : Kept s0 s) :
    KeptR s0 (execRefclkLost s) := by
  unfold execRefclkLost
  try dsimp only
  repeat' (first | with_reducible (first | assumption | apply KeptR.next | apply KeptR.ite | apply State.raise_kept | apply State.pkrHeld_kept))

theorem execHbmClockLost_kept {s0 : State} {m : HmcId} {p : Fin 32} {i : Option (Fin 32)} {bank : Fin 48} {row : Fin 24576} {s : State} (hs : Kept s0 s) :
    KeptR s0 (execHbmClockLost m p i bank row s) := by
  unfold execHbmClockLost
  try dsimp only
  repeat' (first | with_reducible (first | assumption | apply KeptR.next | apply KeptR.ite | apply Kept.ite_fst | apply Kept.ite | apply KeptO.none | apply KeptO.some_id | apply KeptO.some | apply KeptO.ite | apply State.hbmFreeze_kept | apply State.setBitOf_kept | apply State.clearBitOf_kept) | split)

end Sys2Proof.Machine
end

