-- ==== Sys2Proof/Laws/KeptQdr.lean ====
section
/-! SUPPORT. What every operation and meaning of Machine/Qdr.lean keeps (Laws/Kept.lean says what that is): one lemma for each. -/
set_option maxRecDepth 4000
set_option linter.unusedVariables false
namespace Sys2Proof.Machine

theorem State.initSettle_kept {s0 : State} {s : State} {n : Nat} (hs : Kept s0 s) :
    Kept s0 (State.initSettle s n) := by
  unfold State.initSettle
  try dsimp only
  repeat' (first | with_reducible (first | assumption | apply Kept.ite_fst | apply Kept.ite | apply State.raise_kept))

theorem State.qdrReady_kept {s0 : State} {s : State} {n : Nat} (hs : Kept s0 s) :
    Kept s0 (State.qdrReady s n) := by
  unfold State.qdrReady
  try dsimp only
  repeat' (first | with_reducible (first | assumption | apply Kept.ite_fst | apply Kept.ite | apply State.autoNext_kept | apply State.uncheck_kept | apply State.setQdr_kept | apply State.set_kept | apply State.setBitOf_kept))

theorem execQdrTrainDone_kept {s0 : State} {n : FieldId} {fail : Fin 6} {res : Word} {s : State} (hs : Kept s0 s) :
    KeptR s0 (execQdrTrainDone n fail res s) := by
  unfold execQdrTrainDone
  try dsimp only
  repeat' (first | with_reducible (first | assumption | apply KeptR.next | apply KeptR.ite | apply Kept.ite_fst | apply Kept.ite | apply State.set_kept | apply State.initSettle_kept | apply State.qdrReady_kept))

theorem State.loseFieldRange_kept {s0 : State} {s : State} {n : Nat} {mem : Nat} (hs : Kept s0 s) :
    Kept s0 (State.loseFieldRange s n mem) := by
  unfold State.loseFieldRange
  try dsimp only
  repeat' (first | with_reducible (first | assumption | apply Kept.ite_fst | apply Kept.ite | apply KeptO.none | apply KeptO.some_id | apply KeptO.some | apply KeptO.ite | apply State.loseRange_kept) | split)

theorem State.qdrFreeze_kept {s0 : State} {s : State} {n : Nat} {port : Nat} {op : Nat} {client : Nat} {addr : Nat} (hs : Kept s0 s) :
    Kept s0 (State.qdrFreeze s n port op client addr) := by
  unfold State.qdrFreeze
  try dsimp only
  repeat' (first | with_reducible (first | assumption | intro s x _ | intro s _ | intro x | apply Kept.ite_fst | apply Kept.ite | apply Kept.foldl | apply Kept.foldl_fst | apply KeptC.of_state | apply KeptC.csr_set | apply KeptC.tags_put | apply KeptC.tags_drop | apply KeptC.out_append | apply State.retryWaiting_kept | apply State.set_kept | apply State.raise_kept | apply State.clearBitOf_kept | apply State.setStamp_kept | apply State.furFault_kept | apply State.initSettle_kept | apply State.loseFieldRange_kept) | simp only [Kept.mk_iff])

theorem execQdrFreeze_kept {s0 : State} {n : FieldId} {portB : Bool} {write : Bool} {client : Fin 3} {addr : Fin 4194304} {s : State} (hs : Kept s0 s) :
    KeptR s0 (execQdrFreeze n portB write client addr s) := by
  unfold execQdrFreeze
  try dsimp only
  repeat' (first | with_reducible (first | assumption | apply KeptR.next | apply KeptR.ite | apply Kept.ite_fst | apply Kept.ite | apply State.qdrFreeze_kept))

theorem State.qdrUser_kept {s0 : State} {s : State} {n : Nat} {portB : Bool} {we : Bool} {addr : Nat} {data : Nat} {ready : List (List (Fin 3))} (hs : Kept s0 s) :
    Kept s0 (State.qdrUser s n portB we addr data ready) := by
  unfold State.qdrUser
  try dsimp only
  repeat' (first | with_reducible (first | assumption | apply Kept.ite_fst | apply Kept.ite | apply KeptO.none | apply KeptO.some_id | apply KeptO.some | apply KeptO.ite | apply KeptC.of_state | apply KeptC.csr_set | apply KeptC.tags_put | apply KeptC.tags_drop | apply KeptC.out_append | apply State.qdrAccess_kept | apply State.readMem_kept | apply State.writeMem_kept | apply State.used_kept | apply State.answer_kept) | simp only [Kept.mk_iff])

theorem State.holdB_kept {s0 : State} {s : State} {n : Nat} (hs : Kept s0 s) :
    Kept s0 (State.holdB s n) := by
  unfold State.holdB
  try dsimp only
  repeat' (first | with_reducible (first | assumption | apply State.setQdr_kept))

theorem State.qdrBoth_kept {s0 : State} {s : State} {n : Nat} {portB : Bool} {a : QdrAcc} {b : QdrAcc} {ra : List (List (Fin 3))} {rb : List (List (Fin 3))} (hs : Kept s0 s) :
    Kept s0 (State.qdrBoth s n portB a b ra rb) := by
  unfold State.qdrBoth
  try dsimp only
  repeat' (first | with_reducible (first | assumption | apply Kept.ite_fst | apply Kept.ite | apply KeptC.of_state | apply KeptC.csr_set | apply KeptC.tags_put | apply KeptC.tags_drop | apply KeptC.out_append | apply State.emit_kept | apply State.qdrUser_kept | apply State.holdB_kept) | simp only [Kept.mk_iff])

theorem execQdrUserRequest_kept {s0 : State} {n : FieldId} {portB : Bool} {we : Bool} {addr : Fin 4194304} {data : BitVec 64} {ready : List (List (Fin 3))} {other : Option QdrAcc} {s : State} (hs : Kept s0 s) :
    KeptR s0 (execQdrUserRequest n portB we addr data ready other s) := by
  unfold execQdrUserRequest
  try dsimp only
  repeat' (first | with_reducible (first | assumption | apply KeptR.next | apply KeptR.ite | apply Kept.ite_fst | apply Kept.ite | apply KeptO.none | apply KeptO.some_id | apply KeptO.some | apply KeptO.ite | apply State.qdrUser_kept | apply State.qdrBoth_kept) | split)

theorem execFabricFloatOut_kept {s0 : State} {n : FieldId} {j : Fin 8} {s : State} (hs : Kept s0 s) :
    KeptR s0 (execFabricFloatOut n j s) := by
  unfold execFabricFloatOut
  try dsimp only
  repeat' (first | with_reducible (first | assumption | apply KeptR.next | apply KeptR.ite | apply State.floatOutput_kept))

theorem State.writeUsrIn_kept {s0 : State} {s : State} {n : Nat} {i : Nat} {v : Nat} (hs : Kept s0 s) :
    Kept s0 (State.writeUsrIn s n i v) := by
  unfold State.writeUsrIn
  try dsimp only
  repeat' (first | with_reducible (first | assumption | apply State.usrWritten_kept | apply State.set_kept | apply State.emit_kept))

theorem execUserRegIn_kept {s0 : State} {n : FieldId} {i : Fin 16} {v : Word} {s : State} (hs : Kept s0 s) :
    KeptR s0 (execUserRegIn n i v s) := by
  unfold execUserRegIn
  try dsimp only
  repeat' (first | with_reducible (first | assumption | intro s x _ | intro s _ | intro x | apply KeptR.next | apply KeptR.ite | apply State.access_kept | apply State.writeUsrIn_kept))

theorem execUserRegOut_kept {s0 : State} {n : FieldId} {i : Fin 16} {v : Word} {p : Fin 13} {s : State} (hs : Kept s0 s) :
    KeptR s0 (execUserRegOut n i v p s) := by
  unfold execUserRegOut
  try dsimp only
  repeat' (first | with_reducible (first | assumption | apply KeptR.next | apply KeptR.ite | apply Kept.ite_fst | apply Kept.ite | apply State.set_kept))

theorem execFabricPllUnlock_kept {s0 : State} {n : FieldId} {i : Fin 6} {s : State} (hs : Kept s0 s) :
    KeptR s0 (execFabricPllUnlock n i s) := by
  unfold execFabricPllUnlock
  try dsimp only
  repeat' (first | with_reducible (first | assumption | apply KeptR.next | apply KeptR.ite | apply Kept.ite_fst | apply Kept.ite | apply State.raise_kept | apply State.setBitOf_kept | apply State.clearBitOf_kept))

theorem execWclkLoss_kept {s0 : State} {n : FieldId} {s : State} (hs : Kept s0 s) :
    KeptR s0 (execWclkLoss n s) := by
  unfold execWclkLoss
  try dsimp only
  repeat' (first | with_reducible (first | assumption | apply KeptR.next | apply KeptR.ite | apply Kept.ite_fst | apply Kept.ite | apply State.raise_kept | apply State.lower_kept | apply State.wires_kept))

theorem execWclkRestored_kept {s0 : State} {n : FieldId} {s : State} (hs : Kept s0 s) :
    KeptR s0 (execWclkRestored n s) := by
  unfold execWclkRestored
  try dsimp only
  repeat' (first | with_reducible (first | assumption | apply KeptR.next | apply KeptR.ite | apply Kept.ite_fst | apply Kept.ite | apply State.raise_kept | apply State.wires_kept))

end Sys2Proof.Machine
end

