-- ==== Sys2Proof/Laws/KeptUpdate.lean ====
section
/-! SUPPORT. What every operation and meaning of Machine/Update.lean keeps (Laws/Kept.lean says what that is): one lemma for each. -/
set_option maxRecDepth 4000
set_option linter.unusedVariables false
namespace Sys2Proof.Machine

theorem State.mailbox_kept {s0 : State} {s : State} {code : Nat} {data : List Byte} (hs : Kept s0 s) :
    Kept s0 (State.mailbox s code data) := by
  unfold State.mailbox
  try dsimp only
  repeat' (first | with_reducible (first | assumption | apply KeptC.of_state | apply KeptC.csr_set | apply KeptC.tags_put | apply KeptC.tags_drop | apply KeptC.out_append) | simp only [Kept.mk_iff])

theorem State.stageFail_kept {s0 : State} {s : State} {err : Nat} {part : Nat} (hs : Kept s0 s) :
    Kept s0 (State.stageFail s err part) := by
  unfold State.stageFail
  try dsimp only
  repeat' (first | with_reducible (first | assumption | apply KeptC.of_state | apply KeptC.csr_set | apply KeptC.tags_put | apply KeptC.tags_drop | apply KeptC.out_append | apply State.opFail_kept | apply State.set_kept | apply State.invalidate_kept | apply State.bundleLog_kept) | simp only [Kept.mk_iff])

theorem State.bundleBegin_kept {s0 : State} {s : State} {len : Nat} {e : Nat} (hs : Kept s0 s) :
    Kept s0 (State.bundleBegin s len e) := by
  unfold State.bundleBegin
  try dsimp only
  repeat' (first | with_reducible (first | assumption | apply Kept.ite_fst | apply Kept.ite | apply KeptC.of_state | apply KeptC.csr_set | apply KeptC.tags_put | apply KeptC.tags_drop | apply KeptC.out_append | apply State.opBegin_kept | apply State.set_kept | apply State.set2_kept | apply State.bundleLog_kept | apply State.mailbox_kept) | simp only [Kept.mk_iff])

theorem execBundleBegin_kept {s0 : State} {p : List Byte} {s : State} (hs : Kept s0 s) :
    KeptR s0 (execBundleBegin p s) := by
  unfold execBundleBegin
  try dsimp only
  repeat' (first | with_reducible (first | assumption | apply KeptR.next | apply KeptR.ite | apply Kept.ite_fst | apply Kept.ite | apply State.mailbox_kept | apply State.bundleBegin_kept))

theorem State.judgeBundle_kept {s0 : State} {s : State} (hs : Kept s0 s) :
    Kept s0 (State.judgeBundle s) := by
  unfold State.judgeBundle
  try dsimp only
  repeat' (first | with_reducible (first | assumption | apply Kept.ite_fst | apply Kept.ite | apply KeptC.of_state | apply KeptC.csr_set | apply KeptC.tags_put | apply KeptC.tags_drop | apply KeptC.out_append | apply State.set2_kept | apply State.stageFail_kept) | simp only [Kept.mk_iff] | split)

theorem execBundleData_kept {s0 : State} {p : List Byte} {s : State} (hs : Kept s0 s) :
    KeptR s0 (execBundleData p s) := by
  unfold execBundleData
  try dsimp only
  repeat' (first | with_reducible (first | assumption | apply KeptR.next | apply KeptR.ite | apply Kept.ite_fst | apply Kept.ite | apply KeptC.of_state | apply KeptC.csr_set | apply KeptC.tags_put | apply KeptC.tags_drop | apply KeptC.out_append | apply State.set2_kept | apply State.mailbox_kept | apply State.judgeBundle_kept) | simp only [Kept.mk_iff])

theorem State.writePart_kept {s0 : State} {s : State} {p : PartRec} {plain : List Byte} (hs : Kept s0 s) :
    Kept s0 (State.writePart s p plain) := by
  unfold State.writePart
  try dsimp only
  repeat' (first | with_reducible (first | assumption | apply Kept.ite_fst | apply Kept.ite | apply KeptC.of_state | apply KeptC.csr_set | apply KeptC.tags_put | apply KeptC.tags_drop | apply KeptC.out_append | apply State.setStores_kept | apply State.eraseStore_kept | apply State.used_kept | apply State.showSlots_kept) | simp only [Kept.mk_iff])

theorem execBundlePartWritten_kept {s0 : State} {ok : Bool} {s : State} (hs : Kept s0 s) :
    KeptR s0 (execBundlePartWritten ok s) := by
  unfold execBundlePartWritten
  try dsimp only
  repeat' (first | with_reducible (first | assumption | apply KeptR.next | apply KeptR.ite | apply Kept.ite_fst | apply Kept.ite | apply KeptO.none | apply KeptO.some_id | apply KeptO.some | apply KeptO.ite | apply KeptC.of_state | apply KeptC.csr_set | apply KeptC.tags_put | apply KeptC.tags_drop | apply KeptC.out_append | apply State.opMove_kept | apply State.opDone_kept | apply State.set_kept | apply State.setB_kept | apply State.logEvent_kept | apply State.stageFail_kept | apply State.writePart_kept) | simp only [Kept.mk_iff] | split)

theorem State.abortBundle_kept {s0 : State} {s : State} (hs : Kept s0 s) :
    Kept s0 (State.abortBundle s) := by
  unfold State.abortBundle
  try dsimp only
  repeat' (first | with_reducible (first | assumption | apply Kept.ite_fst | apply Kept.ite | apply State.stageFail_kept))

theorem State.cancelBundle_kept {s0 : State} {s : State} (hs : Kept s0 s) :
    Kept s0 (State.cancelBundle s) := by
  unfold State.cancelBundle
  try dsimp only
  repeat' (first | with_reducible (first | assumption | apply Kept.ite_fst | apply Kept.ite | apply KeptC.of_state | apply KeptC.csr_set | apply KeptC.tags_put | apply KeptC.tags_drop | apply KeptC.out_append | apply State.set_kept | apply State.lower_kept | apply State.logEvent_kept | apply State.invalidate_kept) | simp only [Kept.mk_iff])

theorem State.writeFwuCtrl_kept {s0 : State} {s : State} {v : Nat} (hs : Kept s0 s) :
    Kept s0 (State.writeFwuCtrl s v) := by
  unfold State.writeFwuCtrl
  try dsimp only
  repeat' (first | with_reducible (first | assumption | apply State.abortBundle_kept | apply State.cancelBundle_kept) | split)

theorem execCancel_kept {s0 : State} {s : State} (hs : Kept s0 s) :
    KeptR s0 (execCancel s) := by
  unfold execCancel
  try dsimp only
  repeat' (first | with_reducible (first | assumption | intro s x _ | intro s _ | intro x | apply KeptR.next | apply KeptR.ite | apply State.access_kept | apply State.writeFwuCtrl_kept))

theorem execAbort_kept {s0 : State} {s : State} (hs : Kept s0 s) :
    KeptR s0 (execAbort s) := by
  unfold execAbort
  try dsimp only
  repeat' (first | with_reducible (first | assumption | intro s x _ | intro s _ | intro x | apply KeptR.next | apply KeptR.ite | apply State.access_kept | apply State.writeFwuCtrl_kept))

theorem State.bundleEnd_kept {s0 : State} {s : State} {e : Nat} (hs : Kept s0 s) :
    Kept s0 (State.bundleEnd s e) := by
  unfold State.bundleEnd
  try dsimp only
  repeat' (first | with_reducible (first | assumption | apply Kept.ite_fst | apply Kept.ite | apply State.opBegin_kept | apply State.opDone_kept | apply State.set_kept | apply State.logEvent_kept | apply State.mailbox_kept))

theorem execBundleEnd_kept {s0 : State} {p : List Byte} {s : State} (hs : Kept s0 s) :
    KeptR s0 (execBundleEnd p s) := by
  unfold execBundleEnd
  try dsimp only
  repeat' (first | with_reducible (first | assumption | apply KeptR.next | apply KeptR.ite | apply Kept.ite_fst | apply Kept.ite | apply State.mailbox_kept | apply State.bundleEnd_kept))

theorem State.writeConfirm_kept {s0 : State} {s : State} {v : Nat} (hs : Kept s0 s) :
    Kept s0 (State.writeConfirm s v) := by
  unfold State.writeConfirm
  try dsimp only
  repeat' (first | with_reducible (first | assumption | apply Kept.ite_fst | apply Kept.ite | apply KeptC.of_state | apply KeptC.csr_set | apply KeptC.tags_put | apply KeptC.tags_drop | apply KeptC.out_append | apply State.set_kept | apply State.raise_kept | apply State.lower_kept | apply State.logEvent_kept | apply State.raiseCounters_kept) | simp only [Kept.mk_iff])

theorem execConfirm_kept {s0 : State} {v : Word} {s : State} (hs : Kept s0 s) :
    KeptR s0 (execConfirm v s) := by
  unfold execConfirm
  try dsimp only
  repeat' (first | with_reducible (first | assumption | intro s x _ | intro s _ | intro x | apply KeptR.next | apply KeptR.ite | apply State.access_kept | apply State.writeConfirm_kept))

theorem execTrialWindowExpiry_kept {s0 : State} {s : State} (hs : Kept s0 s) :
    KeptR s0 (execTrialWindowExpiry s) := by
  unfold execTrialWindowExpiry
  try dsimp only
  repeat' (first | with_reducible (first | assumption | apply KeptR.next | apply KeptR.ite | apply Kept.ite_fst | apply Kept.ite | apply State.revert_kept | apply State.pkr_kept))

theorem State.writeFwuStat_kept {s0 : State} {s : State} {v : Nat} (hs : Kept s0 s) :
    Kept s0 (State.writeFwuStat s v) := by
  unfold State.writeFwuStat
  try dsimp only
  repeat' (first | with_reducible (first | assumption | apply Kept.ite_fst | apply Kept.ite | apply State.raise_kept | apply State.w1c_kept | apply State.revert_kept | apply State.pkr_kept))

theorem State.writeOcmd_kept {s0 : State} {s : State} {v : Nat} (hs : Kept s0 s) :
    Kept s0 (State.writeOcmd s v) := by
  unfold State.writeOcmd
  try dsimp only
  repeat' (first | with_reducible (first | assumption | intro s x _ | intro s _ | intro x | apply Kept.ite_fst | apply Kept.ite | apply Kept.foldl | apply Kept.foldl_fst | apply State.set_kept | apply State.raise_kept | apply State.logEvent_kept))

theorem execOwnerEnrol_kept {s0 : State} {v : Word} {s : State} (hs : Kept s0 s) :
    KeptR s0 (execOwnerEnrol v s) := by
  unfold execOwnerEnrol
  try dsimp only
  repeat' (first | with_reducible (first | assumption | intro s x _ | intro s _ | intro x | apply KeptR.next | apply KeptR.ite | apply State.access_kept | apply State.writeOcmd_kept))

theorem State.migrateDie_kept {s0 : State} {s : State} {die : Nat} {m : List Byte} {ok : Bool} (hs : Kept s0 s) :
    KeptO id s0 (State.migrateDie s die m ok) := by
  unfold State.migrateDie
  try dsimp only
  repeat' (first | with_reducible (first | assumption | apply KeptO.ite | apply Kept.ite_fst | apply Kept.ite | apply KeptO.none | apply KeptO.some_id | apply KeptO.some | apply KeptC.of_state | apply KeptC.csr_set | apply KeptC.tags_put | apply KeptC.tags_drop | apply KeptC.out_append | apply State.setStores_kept | apply State.eraseStore_kept | apply State.set_kept | apply State.setBitOf_kept | apply State.clearBitOf_kept) | simp only [Kept.mk_iff] | split)

theorem State.migrateAll_kept {s0 : State} {s : State} {ok : Bool} {x2 : List (Nat × List Byte)} (hs : Kept s0 s) :
    Kept s0 (State.migrateAll s ok x2).1 := by
  revert hs
  induction x2 generalizing s ok with
  | nil =>
    intro hs; unfold State.migrateAll; try dsimp only
    repeat' (first | with_reducible (first | assumption | apply Kept.ite_fst | apply Kept.ite | apply KeptO.none | apply KeptO.some_id | apply KeptO.some | apply KeptO.ite | apply State.migrateDie_kept | refine Kept.of_some (by assumption) ?_) | split | dsimp only)
  | cons y l ih =>
    intro hs; unfold State.migrateAll; try dsimp only
    repeat' (first | with_reducible (first | assumption | apply Kept.ite_fst | apply Kept.ite | apply KeptO.none | apply KeptO.some_id | apply KeptO.some | apply KeptO.ite | apply ih | apply State.migrateDie_kept | refine Kept.of_some (by assumption) ?_) | split | dsimp only)

theorem execSettingsMigration_kept {s0 : State} {ok : Bool} {s : State} (hs : Kept s0 s) :
    KeptR s0 (execSettingsMigration ok s) := by
  unfold execSettingsMigration
  try dsimp only
  repeat' (first | with_reducible (first | assumption | apply KeptR.next | apply KeptR.ite | apply Kept.ite_fst | apply Kept.ite | apply KeptO.none | apply KeptO.some_id | apply KeptO.some | apply KeptO.ite | apply KeptC.of_state | apply KeptC.csr_set | apply KeptC.tags_put | apply KeptC.tags_drop | apply KeptC.out_append | apply State.headworksSettings_kept | apply State.raise_kept | apply State.logEvent_kept | apply State.revert_kept | apply State.pkr_kept | apply State.migrateAll_kept | refine Kept.of_fst (by assumption) ?_) | simp only [Kept.mk_iff] | split)

end Sys2Proof.Machine
end

