-- ==== Sys2Proof/Laws/KeptCsr.lean ====
section
/-! SUPPORT. What every operation and meaning of Machine/Csr.lean keeps (Laws/Kept.lean says what that is): one lemma for each. -/
set_option maxRecDepth 4000
set_option linter.unusedVariables false
namespace Sys2Proof.Machine

theorem State.peek_kept {s0 : State} {s : State} {die : Nat} {o : Nat} (hs : Kept s0 s) :
    Kept s0 (State.peek s die o).1 := by
  unfold State.peek
  try dsimp only
  repeat' (first | with_reducible (first | assumption | apply Kept.ite_fst | apply Kept.ite | apply State.raise_kept) | split | dsimp only)

theorem State.clearRead_kept {s0 : State} {s : State} {l : List Elem} (hs : Kept s0 s) :
    Kept s0 (State.clearRead s l) := by
  unfold State.clearRead
  try dsimp only
  repeat' (first | with_reducible (first | assumption | intro s x _ | intro s _ | intro x | apply Kept.ite_fst | apply Kept.ite | apply Kept.foldl | apply Kept.foldl_fst | apply State.set_kept))

theorem State.readReg_kept {s0 : State} {s : State} {die : Nat} {o : Nat} (hs : Kept s0 s) :
    Kept s0 (State.readReg s die o).1 := by
  unfold State.readReg
  try dsimp only
  repeat' (first | with_reducible (first | assumption | apply Kept.ite_fst | apply Kept.ite | apply KeptO.none | apply KeptO.some_id | apply KeptO.some | apply KeptO.ite | apply KeptC.of_state | apply KeptC.csr_set | apply KeptC.tags_put | apply KeptC.tags_drop | apply KeptC.out_append | apply State.readFltTs_kept | apply State.peek_kept | apply State.clearRead_kept | apply State.gaugeChallenge_kept | apply State.set_kept | apply State.snapshot_kept | apply State.slaveSnapshot_kept | apply State.ppsiStart_kept | apply State.ppsiReadPart_kept | refine Kept.of_fst (by assumption) ?_) | simp only [Kept.mk_iff] | split | dsimp only)

theorem State.writeElem_kept {s0 : State} {s : State} {v : Nat} {e : Elem} (hs : Kept s0 s) :
    Kept s0 (State.writeElem s v e) := by
  unfold State.writeElem
  try dsimp only
  repeat' (first | with_reducible (first | assumption | apply Kept.ite_fst | apply Kept.ite | apply State.set_kept) | split)

theorem State.writePlain_kept {s0 : State} {s : State} {die : Nat} {o : Nat} {v : Nat} (hs : Kept s0 s) :
    Kept s0 (State.writePlain s die o v) := by
  unfold State.writePlain
  try dsimp only
  repeat' (first | with_reducible (first | assumption | intro s x _ | intro s _ | intro x | apply Kept.foldl | apply Kept.foldl_fst | apply State.writeElem_kept))

theorem State.writeDelay_kept {s0 : State} {s : State} {m : Nat} {die : Nat} {o : Nat} {v : Nat} (hs : Kept s0 s) :
    Kept s0 (State.writeDelay s m die o v) := by
  unfold State.writeDelay
  try dsimp only
  repeat' (first | with_reducible (first | assumption | intro s x _ | intro s _ | intro x | apply Kept.foldl | apply Kept.foldl_fst | apply State.setHmc_kept))

theorem State.writeHmc_kept {s0 : State} {s : State} {m : Nat} {ofs : Nat} {o : Nat} {v : Nat} (hs : Kept s0 s) :
    Kept s0 (State.writeHmc s m ofs o v) := by
  unfold State.writeHmc
  try dsimp only
  repeat' (first | with_reducible (first | assumption | intro s x _ | intro s _ | intro x | apply Kept.ite_fst | apply Kept.ite | apply Kept.foldl | apply Kept.foldl_fst | apply State.writePlain_kept | apply State.writeDelay_kept | apply State.setPc_kept | apply State.writeShadow_kept | apply State.writeFchg_kept | apply State.writeTcmd_kept))

theorem State.writeLane_kept {s0 : State} {s : State} {b : Blk} {i : Nat} {ofs : Nat} {die : Nat} {o : Nat} {v : Nat} {src : Nat} (hs : Kept s0 s) :
    Kept s0 (State.writeLane s b i ofs die o v src) := by
  unfold State.writeLane
  try dsimp only
  repeat' (first | with_reducible (first | assumption | apply Kept.ite_fst | apply Kept.ite | apply State.writeCfeCtrl_kept | apply State.writeCfeStat_kept | apply State.writePlain_kept | apply State.furRefuse_kept | apply State.writeFurCtrl_kept | apply State.spend_kept | apply State.writeLnqCtrl_kept | apply State.writePllWord_kept | apply State.stageFir_kept | apply State.commitFir_kept | apply State.writeRx_kept | apply State.writeLnCtrl_kept | apply State.writeLnCal_kept | apply State.advertise_kept | apply State.writePcsCtrl_kept | apply State.writePrbs_kept | apply State.writeEye_kept | apply State.writeHist_kept) | split)

theorem State.writeCap_kept {s0 : State} {s : State} {ofs : Nat} {o : Nat} {v : Nat} {src : Nat} (hs : Kept s0 s) :
    Kept s0 (State.writeCap s ofs o v src) := by
  unfold State.writeCap
  try dsimp only
  repeat' (first | with_reducible (first | assumption | apply Kept.ite_fst | apply Kept.ite | apply State.writeCctrl_kept | apply State.writePlain_kept | apply State.writeLaneShare_kept))

theorem State.writeShr_kept {s0 : State} {s : State} {ofs : Nat} {o : Nat} {v : Nat} (hs : Kept s0 s) :
    Kept s0 (State.writeShr s ofs o v) := by
  unfold State.writeShr
  try dsimp only
  repeat' (first | with_reducible (first | assumption | apply Kept.ite_fst | apply Kept.ite | apply State.writePlain_kept | apply State.writeShareTable_kept | apply State.writeUplinkTable_kept | apply State.writeShareMap_kept))

theorem State.writeDbg_kept {s0 : State} {s : State} {b : Blk} {ofs : Nat} {die : Nat} {o : Nat} {v : Nat} (hs : Kept s0 s) :
    Kept s0 (State.writeDbg s b ofs die o v) := by
  unfold State.writeDbg
  try dsimp only
  repeat' (first | with_reducible (first | assumption | apply Kept.ite_fst | apply Kept.ite | apply State.writePlain_kept | apply State.writeDu_kept | apply State.writeHcmd_kept | apply State.writeSp_kept | apply State.writeTcfg_kept | apply State.writeGauCmd_kept | apply State.writeGauge_kept | apply State.setB_kept))

theorem State.writeHw_kept {s0 : State} {s : State} {b : Blk} {x2 : Nat} {ofs : Nat} {o : Nat} {v : Nat} {src : Nat} (hs : Kept s0 s) :
    Kept s0 (State.writeHw s b x2 ofs o v src) := by
  unfold State.writeHw
  try dsimp only
  repeat' (first | with_reducible (first | assumption | apply Kept.ite_fst | apply Kept.ite | apply State.writeSwf_kept | apply State.writeFltCtrl_kept | apply State.writePlain_kept | apply State.writeHmc_kept | apply State.writeCap_kept | apply State.writeShr_kept | apply State.writeDbg_kept | apply State.writeRp_kept | apply State.writeRegion_kept | apply State.writeMctrl_kept | apply State.writeFlhCtrl_kept | apply State.writeComp_kept | apply State.releaseEntry_kept | apply State.writeLmirLo_kept | apply State.writeLcrLo_kept | apply State.writeLcrHi_kept | apply State.writeLcrCons_kept | apply State.writeLirq_kept | apply State.writePwrCmd_kept | apply State.writeAtpkr_kept | apply State.writeHbmop_kept | apply State.writeRstCmd_kept | apply State.writeQuota_kept | apply State.writeCnlCtrl_kept | apply State.writeDtcCmd_kept | apply State.writeIncrHi_kept | apply State.writeIncrLo_kept | apply State.writeDtcCtrl_kept | apply State.writeTpll_kept | apply State.writeFwuCtrl_kept | apply State.writeConfirm_kept | apply State.writeFwuStat_kept | apply State.writeOcmd_kept) | split)

theorem State.writeField_kept {s0 : State} {s : State} {b : Blk} {i : Nat} {ofs : Nat} {die : Nat} {o : Nat} {v : Nat} {src : Nat} (hs : Kept s0 s) :
    Kept s0 (State.writeField s b i ofs die o v src) := by
  unfold State.writeField
  try dsimp only
  repeat' (first | with_reducible (first | assumption | apply Kept.ite_fst | apply Kept.ite | apply State.writePlain_kept | apply State.writeDbg_kept | apply State.writeRp_kept | apply State.writeRegion_kept | apply State.writePlcmd_kept | apply State.writeSlots_kept | apply State.writeUsrIn_kept | apply State.writeEctrl_kept | apply State.writePcmd_kept | apply State.timeCal_kept) | split)

theorem State.writeReg_kept {s0 : State} {s : State} {die : Nat} {o : Nat} {v : Nat} {src : Nat} (hs : Kept s0 s) :
    Kept s0 (State.writeReg s die o v src) := by
  unfold State.writeReg
  try dsimp only
  repeat' (first | with_reducible (first | assumption | apply Kept.ite_fst | apply Kept.ite | apply State.writeLane_kept | apply State.writeHw_kept | apply State.writeField_kept) | split)

theorem State.csrReadWord_kept {s0 : State} {s : State} {src : Nat} {x : Nat} {guest : Guest} (hs : Kept s0 s) :
    Kept s0 (State.csrReadWord s src x guest).1 := by
  unfold State.csrReadWord
  try dsimp only
  repeat' (first | with_reducible (first | assumption | apply Kept.ite_fst | apply Kept.ite | apply KeptO.none | apply KeptO.some_id | apply KeptO.some | apply KeptO.ite | apply State.readReg_kept | apply State.timedOut_kept | refine Kept.of_fst (by assumption) ?_) | split | dsimp only)

theorem State.csrRead_kept {s0 : State} {s : State} {src : Nat} {x : Nat} {len : Nat} {guest : Guest} (hs : Kept s0 s) :
    Kept s0 (State.csrRead s src x len guest).1 := by
  unfold State.csrRead
  try dsimp only
  repeat' (first | with_reducible (first | assumption | apply Kept.ite_fst | apply Kept.ite | apply State.csrReadWord_kept | refine Kept.of_fst (by assumption) ?_) | split | dsimp only)

theorem State.csrWriteWord_kept {s0 : State} {s : State} {src : Nat} {x : Nat} {v : Nat} {guest : Guest} (hs : Kept s0 s) :
    Kept s0 (State.csrWriteWord s src x v guest).1 := by
  unfold State.csrWriteWord
  try dsimp only
  repeat' (first | with_reducible (first | assumption | apply Kept.ite_fst | apply Kept.ite | apply State.writeReg_kept | apply State.timedOut_kept) | split | dsimp only)

theorem State.csrWrite_kept {s0 : State} {s : State} {src : Nat} {x : Nat} {bytes : List Byte} {guest : Guest} (hs : Kept s0 s) :
    Kept s0 (State.csrWrite s src x bytes guest).1 := by
  unfold State.csrWrite
  try dsimp only
  repeat' (first | with_reducible (first | assumption | apply Kept.ite_fst | apply Kept.ite | apply State.csrWriteWord_kept | refine Kept.of_fst (by assumption) ?_) | split | dsimp only)

theorem State.netCsrRead_kept {s0 : State} {s : State} {src : Nat} {x : Nat} {len : Nat} {guest : Guest} (hs : Kept s0 s) :
    Kept s0 (State.netCsrRead s src x len guest).1 := by
  unfold State.netCsrRead
  try dsimp only
  repeat' (first | with_reducible (first | assumption | apply KeptO.none | apply KeptO.some_id | apply KeptO.some | apply KeptO.ite | apply State.csrRead_kept | apply State.passAll_kept | refine Kept.of_fst (by assumption) ?_ | refine Kept.of_some (by assumption) ?_) | split | dsimp only)

theorem State.netCsrWrite_kept {s0 : State} {s : State} {src : Nat} {x : Nat} {bytes : List Byte} {guest : Guest} (hs : Kept s0 s) :
    Kept s0 (State.netCsrWrite s src x bytes guest).1 := by
  unfold State.netCsrWrite
  try dsimp only
  repeat' (first | with_reducible (first | assumption | apply State.csrWrite_kept | apply State.passAll_kept | refine Kept.of_fst (by assumption) ?_ | refine Kept.of_some (by assumption) ?_) | split | dsimp only)

theorem execBar4WindowSelect_kept {s0 : State} {v : Word} {s : State} (hs : Kept s0 s) :
    KeptR s0 (execBar4WindowSelect v s) := by
  unfold execBar4WindowSelect
  try dsimp only
  repeat' (first | with_reducible (first | assumption | intro s x _ | intro s _ | intro x | apply KeptR.next | apply KeptR.ite | apply State.wr_kept | apply State.access_kept))

theorem execPeekRead_kept {s0 : State} {die : Fin 9} {s : State} (hs : Kept s0 s) :
    KeptR s0 (execPeekRead die s) := by
  unfold execPeekRead
  try dsimp only
  repeat' (first | with_reducible (first | assumption | apply KeptR.next | apply KeptR.ite | apply Kept.ite_fst | apply Kept.ite | apply KeptC.of_state | apply KeptC.csr_set | apply KeptC.tags_put | apply KeptC.tags_drop | apply KeptC.out_append | apply State.csrReadWord_kept) | simp only [Kept.mk_iff])

end Sys2Proof.Machine
end

