-- ==== Sys2Proof/Laws/KeptCanal.lean ====
section
/-! SUPPORT. What every operation and meaning of Machine/Canal.lean keeps (Laws/Kept.lean says what that is): one lemma for each. -/
set_option maxRecDepth 4000
set_option linter.unusedVariables false
namespace Sys2Proof.Machine

theorem State.freeGuest_kept {s0 : State} {s : State} {t : Nat} {c : Nat} {vc : Nat} {n : Nat} (hs : Kept s0 s) :
    Kept s0 (State.freeGuest s t c vc n) := by
  unfold State.freeGuest
  try dsimp only
  repeat' (first | with_reducible (first | assumption | apply State.setTurn_kept))

theorem State.freeTag_kept {s0 : State} {s : State} {key : Nat} (hs : Kept s0 s) :
    Kept s0 (State.freeTag s key) := by
  unfold State.freeTag
  try dsimp only
  repeat' (first | with_reducible (first | assumption | apply KeptC.of_state | apply KeptC.csr_set | apply KeptC.tags_put | apply KeptC.tags_drop | apply KeptC.out_append | apply State.showTags_kept) | simp only [Kept.mk_iff])

theorem State.takeTag_kept {s0 : State} {s : State} {r : Req} {key : Nat} (hs : Kept s0 s) :
    Kept s0 (State.takeTag s r key) := by
  unfold State.takeTag
  try dsimp only
  repeat' (first | with_reducible (first | assumption | apply Kept.ite_fst | apply Kept.ite | apply KeptC.of_state | apply KeptC.csr_set | apply KeptC.tags_put | apply KeptC.tags_drop | apply KeptC.out_append | apply State.showTags_kept) | simp only [Kept.mk_iff])

theorem State.countHeader_kept {s0 : State} {s : State} {h : Hdr} (hs : Kept s0 s) :
    Kept s0 (State.countHeader s h) := by
  unfold State.countHeader
  try dsimp only
  repeat' (first | with_reducible (first | assumption | apply State.raise_kept | apply State.count_kept) | split)

theorem State.discard_kept {s0 : State} {s : State} {src : Nat} {vc : Nat} {port : Nat} (hs : Kept s0 s) :
    Kept s0 (State.discard s src vc port) := by
  unfold State.discard
  try dsimp only
  repeat' (first | with_reducible (first | assumption | apply Kept.ite_fst | apply Kept.ite | apply State.set_kept | apply State.raise_kept | apply State.count_kept))

theorem State.endpointSees_kept {s0 : State} {s : State} {src : Nat} {st : RStat} (hs : Kept s0 s) :
    Kept s0 (State.endpointSees s src st) := by
  unfold State.endpointSees
  try dsimp only
  repeat' (first | with_reducible (first | assumption | apply Kept.ite_fst | apply Kept.ite | apply State.setBitOf_kept))

theorem State.receive_kept {s0 : State} {s : State} {r : Req} {a : Resp} (hs : Kept s0 s) :
    Kept s0 (State.receive s r a) := by
  unfold State.receive
  try dsimp only
  repeat' (first | with_reducible (first | assumption | apply Kept.ite_fst | apply Kept.ite | apply KeptC.of_state | apply KeptC.csr_set | apply KeptC.tags_put | apply KeptC.tags_drop | apply KeptC.out_append | apply State.endpointSees_kept | apply State.hostReceive_kept) | simp only [Kept.mk_iff])

theorem State.freeKey_kept {s0 : State} {s : State} {key : Option Nat} (hs : Kept s0 s) :
    Kept s0 (State.freeKey s key) := by
  unfold State.freeKey
  try dsimp only
  repeat' (first | with_reducible (first | assumption | apply KeptO.none | apply KeptO.some_id | apply KeptO.some | apply KeptO.ite | apply State.freeTag_kept) | split)

theorem State.leaveRsp_kept {s0 : State} {s : State} {w : Owed} (hs : Kept s0 s) :
    Kept s0 (State.leaveRsp s w) := by
  unfold State.leaveRsp
  try dsimp only
  repeat' (first | with_reducible (first | assumption | apply State.receive_kept | apply State.freeKey_kept | apply State.wrap2_kept | apply State.spendCredit_kept | apply State.toGuest_kept))

theorem State.sendRsp_kept {s0 : State} {s : State} {r : Req} {a : Resp} {key : Option Nat} {inp : Option Nat} (hs : Kept s0 s) :
    Kept s0 (State.sendRsp s r a key inp) := by
  unfold State.sendRsp
  try dsimp only
  repeat' (first | with_reducible (first | assumption | apply Kept.ite_fst | apply Kept.ite | apply KeptO.none | apply KeptO.some_id | apply KeptO.some | apply KeptO.ite | apply KeptC.of_state | apply KeptC.csr_set | apply KeptC.tags_put | apply KeptC.tags_drop | apply KeptC.out_append | apply State.receive_kept | apply State.freeKey_kept | apply State.leaveRsp_kept) | simp only [Kept.mk_iff] | split)

theorem State.turnAway_kept {s0 : State} {s : State} {r : Req} (hs : Kept s0 s) :
    Kept s0 (State.turnAway s r) := by
  unfold State.turnAway
  try dsimp only
  repeat' (first | with_reducible (first | assumption | apply Kept.ite_fst | apply Kept.ite | apply State.receive_kept | apply State.sendRsp_kept | apply State.dropPosted_kept))

theorem State.deliver_kept {s0 : State} {s : State} {r : Req} (hs : Kept s0 s) :
    Kept s0 (State.deliver s r) := by
  unfold State.deliver
  try dsimp only
  repeat' (first | with_reducible (first | assumption | apply Kept.ite_fst | apply Kept.ite | apply State.csrRead_kept | apply State.csrWrite_kept | apply State.dropPosted_kept | apply State.respond_kept | apply State.arrive_kept | refine Kept.of_fst (by assumption) ?_) | split)

theorem State.enter_kept {s0 : State} {s : State} {r : Req} {t : Nat} (hs : Kept s0 s) :
    Kept s0 (State.enter s r t) := by
  unfold State.enter
  try dsimp only
  repeat' (first | with_reducible (first | assumption | apply Kept.ite_fst | apply Kept.ite | apply KeptO.none | apply KeptO.some_id | apply KeptO.some | apply KeptO.ite | apply State.takeTag_kept | apply State.deliver_kept))

theorem State.leave_kept {s0 : State} {s : State} {r : Req} {t : Nat} (hs : Kept s0 s) :
    KeptO id s0 (State.leave s r t) := by
  unfold State.leave
  try dsimp only
  repeat' (first | with_reducible (first | assumption | apply KeptO.ite | apply Kept.ite_fst | apply Kept.ite | apply KeptO.none | apply KeptO.some_id | apply KeptO.some | apply State.turnAway_kept | apply State.enter_kept | apply State.spendCredit_kept | apply State.leavePort_kept | apply State.toGuest_kept) | split)

theorem State.advance_kept {s0 : State} {s : State} {before : List Held} {h : Held} (hs : Kept s0 s) :
    KeptO id s0 (State.advance s before h) := by
  unfold State.advance
  try dsimp only
  repeat' (first | with_reducible (first | assumption | apply KeptO.ite | apply Kept.ite_fst | apply Kept.ite | apply KeptO.none | apply KeptO.some_id | apply KeptO.some | apply KeptC.of_state | apply KeptC.csr_set | apply KeptC.tags_put | apply KeptC.tags_drop | apply KeptC.out_append | apply State.leave_kept | apply State.spendUp_kept | apply State.chargeUp_kept | refine Kept.of_some (by assumption) ?_) | simp only [Kept.mk_iff] | split)

theorem State.firstOf_kept {s0 : State} {s : State} {a : State × Held} {b : State × Held} (hs : Kept s0 s) (ha : Kept s0 a.1) (hb : Kept s0 b.1) :
    Kept s0 (State.firstOf s a b).1 := by
  unfold State.firstOf
  try dsimp only
  repeat' (first | with_reducible (first | assumption | apply Kept.ite_fst | apply Kept.ite) | dsimp only)

theorem State.nextMove_kept {s0 : State} {s : State} (hs : Kept s0 s) :
    KeptO id s0 (State.nextMove s) := by
  unfold State.nextMove
  have hm : ∀ e ∈ (withBefore [] s.ingress).filterMap fun e => (s.advance e.1 e.2).map fun t => (t, e.2), Kept s0 e.1 := by
    intro e he
    obtain ⟨x, -, hx⟩ := List.mem_filterMap.1 he
    obtain ⟨t, ht, rfl⟩ := Option.map_eq_some_iff.1 hx
    exact State.advance_kept hs t ht
  generalize (withBefore [] s.ingress).filterMap (fun e => (s.advance e.1 e.2).map fun t => (t, e.2)) = l at hm
  cases l with
  | nil => exact KeptO.none
  | cons a l =>
    refine KeptO.some_id ?_
    have : ∀ (l : List (State × Held)) (b : State × Held), Kept s0 b.1 → (∀ e ∈ l, Kept s0 e.1) →
        Kept s0 (l.foldl (fun x y => s.firstOf x y) b).1 := by
      intro l
      induction l with
      | nil => exact fun b hb _ => hb
      | cons c l ih => exact fun b hb hl => ih _ (State.firstOf_kept hs hb (hl c (by simp))) fun e he => hl e (by simp [he])
    exact this l a (hm a (by simp)) fun e he => hm e (by simp [he])

theorem State.moveIngress_kept {s0 : State} {x0 : Nat} {x1 : State} (hx1 : Kept s0 x1) :
    Kept s0 (State.moveIngress x0 x1) := by
  revert hx1
  induction x0 generalizing x1 with
  | zero =>
    intro hx1; unfold State.moveIngress; try dsimp only
    repeat' (first | with_reducible (first | assumption | apply KeptO.none | apply KeptO.some_id | apply KeptO.some | apply KeptO.ite | apply State.nextMove_kept | refine Kept.of_some (by assumption) ?_) | split)
  | succ n ih =>
    intro hx1; unfold State.moveIngress; try dsimp only
    repeat' (first | with_reducible (first | assumption | apply KeptO.none | apply KeptO.some_id | apply KeptO.some | apply KeptO.ite | apply ih | apply State.nextMove_kept | refine Kept.of_some (by assumption) ?_) | split)

theorem State.moveOwed_kept {s0 : State} {s : State} (hs : Kept s0 s) :
    Kept s0 (State.moveOwed s) := by
  unfold State.moveOwed
  try dsimp only
  repeat' (first | with_reducible (first | assumption | intro s x _ | intro s _ | intro x | apply Kept.ite_fst | apply Kept.ite | apply Kept.foldl | apply Kept.foldl_fst | apply KeptC.of_state | apply KeptC.csr_set | apply KeptC.tags_put | apply KeptC.tags_drop | apply KeptC.out_append | apply State.leaveRsp_kept) | simp only [Kept.mk_iff])

theorem State.dropFenced_kept {s0 : State} {s : State} (hs : Kept s0 s) :
    Kept s0 (State.dropFenced s) := by
  unfold State.dropFenced
  try dsimp only
  repeat' (first | with_reducible (first | assumption | intro s x _ | intro s _ | intro x | apply Kept.ite_fst | apply Kept.ite | apply Kept.foldl | apply Kept.foldl_fst | apply KeptC.of_state | apply KeptC.csr_set | apply KeptC.tags_put | apply KeptC.tags_drop | apply KeptC.out_append | apply State.freeKey_kept | apply State.count_kept) | simp only [Kept.mk_iff])

theorem State.dropLost_kept {s0 : State} {s : State} (hs : Kept s0 s) :
    Kept s0 (State.dropLost s) := by
  unfold State.dropLost
  try dsimp only
  repeat' (first | with_reducible (first | assumption | intro s x _ | intro s _ | intro x | apply Kept.ite_fst | apply Kept.ite | apply KeptO.none | apply KeptO.some_id | apply KeptO.some | apply KeptO.ite | apply Kept.foldl | apply Kept.foldl_fst | apply KeptC.of_state | apply KeptC.csr_set | apply KeptC.tags_put | apply KeptC.tags_drop | apply KeptC.out_append | apply State.takeTag_kept | apply State.dropPosted_kept) | simp only [Kept.mk_iff])

theorem State.settleNet_kept {s0 : State} {s : State} (hs : Kept s0 s) :
    Kept s0 (State.settleNet s) := by
  unfold State.settleNet
  try dsimp only
  repeat' (first | with_reducible (first | assumption | apply State.moveIngress_kept | apply State.moveOwed_kept | apply State.dropFenced_kept | apply State.dropLost_kept))

theorem State.lose_kept {s0 : State} {s : State} {r : Req} {t : Nat} {p : Nat} (hs : Kept s0 s) :
    Kept s0 (State.lose s r t p) := by
  unfold State.lose
  try dsimp only
  repeat' (first | with_reducible (first | assumption | apply Kept.ite_fst | apply Kept.ite | apply KeptO.none | apply KeptO.some_id | apply KeptO.some | apply KeptO.ite | apply State.takeTag_kept | apply State.discard_kept | apply State.spendCredit_kept | apply State.spendUp_kept | apply State.chargeUp_kept | apply State.leavePort_kept) | split)

theorem State.submit_kept {s0 : State} {s : State} {r : Req} {t : Nat} (hs : Kept s0 s) :
    Kept s0 (State.submit s r t) := by
  unfold State.submit
  try dsimp only
  repeat' (first | with_reducible (first | assumption | apply Kept.ite_fst | apply Kept.ite | apply KeptC.of_state | apply KeptC.csr_set | apply KeptC.tags_put | apply KeptC.tags_drop | apply KeptC.out_append | apply State.turnAway_kept | apply State.enter_kept | apply State.settleNet_kept) | simp only [Kept.mk_iff])

theorem State.guestRequest_kept {s0 : State} {s : State} {r : Req} {t : Nat} {h : Hdr} (hs : Kept s0 s) :
    Kept s0 (State.guestRequest s r t h) := by
  unfold State.guestRequest
  try dsimp only
  repeat' (first | with_reducible (first | assumption | apply Kept.ite_fst | apply Kept.ite | apply KeptO.none | apply KeptO.some_id | apply KeptO.some | apply KeptO.ite | apply Kept.getD | apply State.freeGuest_kept | apply State.countHeader_kept | apply State.discard_kept | apply State.leave_kept | apply State.lose_kept | refine Kept.of_some (by assumption) ?_) | split)

theorem State.request_kept {s0 : State} {s : State} {r : Req} {t : Nat} {h : Hdr} (hs : Kept s0 s) :
    Kept s0 (State.request s r t h) := by
  unfold State.request
  try dsimp only
  repeat' (first | with_reducible (first | assumption | apply Kept.ite_fst | apply Kept.ite | apply KeptC.of_state | apply KeptC.csr_set | apply KeptC.tags_put | apply KeptC.tags_drop | apply KeptC.out_append | apply State.countHeader_kept | apply State.lose_kept | apply State.submit_kept | apply State.guestRequest_kept) | simp only [Kept.mk_iff] | split)

theorem State.takeAnswer_kept {s0 : State} {s : State} {key : Nat} {e : Tag} {guest : Guest} (hs : Kept s0 s) :
    Kept s0 (State.takeAnswer s key e guest) := by
  unfold State.takeAnswer
  try dsimp only
  repeat' (first | with_reducible (first | assumption | apply Kept.ite_fst | apply Kept.ite | apply State.freeGuest_kept) | split)

theorem State.reply_kept {s0 : State} {s : State} {key : Nat} {ops : List ReqOp} {h : Hdr} {guest : Guest} (hs : Kept s0 s) :
    Kept s0 (State.reply s key ops h guest) := by
  unfold State.reply
  try dsimp only
  repeat' (first | with_reducible (first | assumption | apply Kept.ite_fst | apply Kept.ite | apply KeptO.none | apply KeptO.some_id | apply KeptO.some | apply KeptO.ite | apply KeptC.of_state | apply KeptC.csr_set | apply KeptC.tags_put | apply KeptC.tags_drop | apply KeptC.out_append | apply State.freeTag_kept | apply State.countHeader_kept | apply State.discard_kept | apply State.receive_kept | apply State.sendRsp_kept | apply State.settleNet_kept | apply State.takeAnswer_kept | apply State.count_kept | apply State.spendUp_kept) | simp only [Kept.mk_iff] | split)

theorem execRd_kept {s0 : State} {t : Fin 262144} {src : Fin 4096} {oc : Fin 4} {addr : BitVec 48} {len : Fin 256} {h : Hdr} {s : State} (hs : Kept s0 s) :
    KeptR s0 (execRd t src oc addr len h s) := by
  unfold execRd
  try dsimp only
  repeat' (first | with_reducible (first | assumption | apply KeptR.next | apply KeptR.ite | apply State.request_kept))

theorem execWr_kept {s0 : State} {t : Fin 262144} {src : Fin 4096} {oc : Fin 4} {addr : BitVec 48} {len : Fin 256} {pois : Bool} {data : List Byte} {h : Hdr} {s : State} (hs : Kept s0 s) :
    KeptR s0 (execWr t src oc addr len pois data h s) := by
  unfold execWr
  try dsimp only
  repeat' (first | with_reducible (first | assumption | apply KeptR.next | apply KeptR.ite | apply State.request_kept))

theorem execAmo_kept {s0 : State} {t : Fin 262144} {src : Fin 4096} {oc : Fin 4} {addr : BitVec 48} {len : Fin 256} {aop : Fin 16} {data : List Byte} {h : Hdr} {s : State} (hs : Kept s0 s) :
    KeptR s0 (execAmo t src oc addr len aop data h s) := by
  unfold execAmo
  try dsimp only
  repeat' (first | with_reducible (first | assumption | apply KeptR.next | apply KeptR.ite | apply State.request_kept))

theorem execFlush_kept {s0 : State} {t : Fin 262144} {src : Fin 4096} {oc : Fin 4} {h : Hdr} {s : State} (hs : Kept s0 s) :
    KeptR s0 (execFlush t src oc h s) := by
  unfold execFlush
  try dsimp only
  repeat' (first | with_reducible (first | assumption | apply KeptR.next | apply KeptR.ite | apply State.request_kept))

theorem execPwr_kept {s0 : State} {src : Fin 4096} {oc : Fin 4} {addr : BitVec 48} {len : Fin 256} {pois : Bool} {data : List Byte} {h : Hdr} {s : State} (hs : Kept s0 s) :
    KeptR s0 (execPwr src oc addr len pois data h s) := by
  unfold execPwr
  try dsimp only
  repeat' (first | with_reducible (first | assumption | apply KeptR.next | apply KeptR.ite | apply State.request_kept))

theorem execCrd_kept {s0 : State} {t : Fin 262144} {src : Fin 4096} {x : Fin 268435456} {len : Fin 256} {h : Hdr} {s : State} (hs : Kept s0 s) :
    KeptR s0 (execCrd t src x len h s) := by
  unfold execCrd
  try dsimp only
  repeat' (first | with_reducible (first | assumption | apply KeptR.next | apply KeptR.ite | apply State.request_kept))

theorem execCwr_kept {s0 : State} {t : Fin 262144} {src : Fin 4096} {x : Fin 268435456} {len : Fin 256} {data : List Byte} {h : Hdr} {s : State} (hs : Kept s0 s) :
    KeptR s0 (execCwr t src x len data h s) := by
  unfold execCwr
  try dsimp only
  repeat' (first | with_reducible (first | assumption | apply KeptR.next | apply KeptR.ite | apply State.request_kept))

theorem execRdata_kept {s0 : State} {own : Option FieldId} {t : Fin 262144} {h : Hdr} {s : State} (hs : Kept s0 s) :
    KeptR s0 (execRdata own t h s) := by
  unfold execRdata
  try dsimp only
  repeat' (first | with_reducible (first | assumption | apply KeptR.next | apply KeptR.ite | apply State.reply_kept))

theorem execCpl_kept {s0 : State} {own : Option FieldId} {t : Fin 262144} {h : Hdr} {s : State} (hs : Kept s0 s) :
    KeptR s0 (execCpl own t h s) := by
  unfold execCpl
  try dsimp only
  repeat' (first | with_reducible (first | assumption | apply KeptR.next | apply KeptR.ite | apply State.reply_kept))

theorem execCrsp_kept {s0 : State} {own : Option FieldId} {t : Fin 262144} {guest : Guest} {h : Hdr} {s : State} (hs : Kept s0 s) :
    KeptR s0 (execCrsp own t guest h s) := by
  unfold execCrsp
  try dsimp only
  repeat' (first | with_reducible (first | assumption | apply KeptR.next | apply KeptR.ite | apply State.reply_kept))

theorem execCreditReturn_kept {s0 : State} {up : Bool} {p : Fin 177} {vc : Fin 4} {s : State} (hs : Kept s0 s) :
    KeptR s0 (execCreditReturn up p vc s) := by
  unfold execCreditReturn
  try dsimp only
  repeat' (first | with_reducible (first | assumption | apply KeptR.next | apply KeptR.ite | apply State.settleNet_kept | apply State.creditBack_kept))

theorem execAudit_kept {s0 : State} {p : Fin 177} {vc : Fin 4} {free : Byte} {s : State} (hs : Kept s0 s) :
    KeptR s0 (execAudit p vc free s) := by
  unfold execAudit
  try dsimp only
  repeat' (first | with_reducible (first | assumption | apply KeptR.next | apply KeptR.ite | apply Kept.ite_fst | apply Kept.ite | apply State.settleNet_kept | apply State.auditPort_kept) | split)

theorem execQuotaWrite_kept {s0 : State} {d : Fin 11} {v : Word} {s : State} (hs : Kept s0 s) :
    KeptR s0 (execQuotaWrite d v s) := by
  unfold execQuotaWrite
  try dsimp only
  repeat' (first | with_reducible (first | assumption | intro s x _ | intro s _ | intro x | apply KeptR.next | apply KeptR.ite | apply State.settleNet_kept | apply State.access_kept | apply State.writeQuota_kept))

theorem execTagTimeout_kept {s0 : State} {t : Fin 262144} {s : State} (hs : Kept s0 s) :
    KeptR s0 (execTagTimeout t s) := by
  unfold execTagTimeout
  try dsimp only
  repeat' (first | with_reducible (first | assumption | apply KeptR.next | apply KeptR.ite | apply Kept.ite_fst | apply Kept.ite | apply KeptO.none | apply KeptO.some_id | apply KeptO.some | apply KeptO.ite | apply KeptC.of_state | apply KeptC.csr_set | apply KeptC.tags_put | apply KeptC.tags_drop | apply KeptC.out_append | apply State.sendRsp_kept | apply State.settleNet_kept | apply State.count_kept) | simp only [Kept.mk_iff] | split)

theorem execQuarantineEnd_kept {s0 : State} {t : Fin 262144} {s : State} (hs : Kept s0 s) :
    KeptR s0 (execQuarantineEnd t s) := by
  unfold execQuarantineEnd
  try dsimp only
  repeat' (first | with_reducible (first | assumption | apply KeptR.next | apply KeptR.ite | apply Kept.ite_fst | apply Kept.ite | apply State.freeTag_kept | apply State.settleNet_kept) | split)

theorem State.walkOne_kept {s0 : State} {s : State} {d : Nat} {t : Nat} (hs : Kept s0 s) :
    Kept s0 (State.walkOne s d t) := by
  unfold State.walkOne
  try dsimp only
  repeat' (first | with_reducible (first | assumption | apply Kept.ite_fst | apply Kept.ite | apply KeptO.none | apply KeptO.some_id | apply KeptO.some | apply KeptO.ite | apply KeptC.of_state | apply KeptC.csr_set | apply KeptC.tags_put | apply KeptC.tags_drop | apply KeptC.out_append | apply State.freeTag_kept | apply State.sendRsp_kept | apply State.settleNet_kept | apply State.count_kept) | simp only [Kept.mk_iff] | split)

theorem State.walkEnd_kept {s0 : State} {s : State} {rest : List Nat} (hs : Kept s0 s) :
    Kept s0 (State.walkEnd s rest) := by
  unfold State.walkEnd
  try dsimp only
  repeat' (first | with_reducible (first | assumption | apply KeptC.of_state | apply KeptC.csr_set | apply KeptC.tags_put | apply KeptC.tags_drop | apply KeptC.out_append | apply State.settleNet_kept | apply State.set_kept | apply State.lower_kept | apply State.fallowEnd_kept) | simp only [Kept.mk_iff] | split)

theorem execFenceWalkStep_kept {s0 : State} {s : State} (hs : Kept s0 s) :
    KeptR s0 (execFenceWalkStep s) := by
  unfold execFenceWalkStep
  try dsimp only
  repeat' (first | with_reducible (first | assumption | apply KeptR.next | apply KeptR.ite | apply Kept.ite_fst | apply Kept.ite | apply KeptC.of_state | apply KeptC.csr_set | apply KeptC.tags_put | apply KeptC.tags_drop | apply KeptC.out_append | apply State.walkOne_kept | apply State.walkEnd_kept) | simp only [Kept.mk_iff] | split)

end Sys2Proof.Machine
end

