-- ==== Sys2Proof/Laws/KeptTransmit.lean ====
section
/-! SUPPORT. What every operation and meaning of Machine/Transmit.lean keeps (Laws/Kept.lean says what that is): one lemma for each. -/
set_option maxRecDepth 4000
set_option linter.unusedVariables false
namespace Sys2Proof.Machine

theorem State.putBits_kept {s0 : State} {s : State} {l : Nat} {b : TxBlk} {bits : List Bool} (hs : Kept s0 s) :
    Kept s0 (State.putBits s l b bits) := by
  unfold State.putBits
  try dsimp only
  repeat' (first | with_reducible (first | assumption | apply Kept.ite_fst | apply Kept.ite | apply KeptO.map | apply State.setLane_kept))

theorem State.frameOut_kept {s0 : State} {s : State} {l : Nat} {mode : Nat} {k : Nat} {f : TxFrame} (hs : Kept s0 s) :
    Kept s0 (State.frameOut s l mode k f) := by
  unfold State.frameOut
  try dsimp only
  repeat' (first | with_reducible (first | assumption | apply Kept.ite_fst | apply Kept.ite | apply KeptO.none | apply KeptO.some_id | apply KeptO.some | apply KeptO.ite | apply State.emit_kept | apply State.setPort_kept | apply State.setFur_kept) | split)

theorem State.takeBlock_kept {s0 : State} {s : State} {l : Nat} {mode : Nat} {f : TxFrame} (hs : Kept s0 s) :
    Kept s0 (State.takeBlock s l mode f).1 := by
  unfold State.takeBlock
  try dsimp only
  repeat' (first | with_reducible (first | assumption | apply Kept.ite_fst | apply Kept.ite | apply KeptO.none | apply KeptO.some_id | apply KeptO.some | apply KeptO.ite | apply State.furUnderrun_kept | apply State.wrap2_kept | apply State.setPort_kept | apply State.setFur_kept | apply State.frameOut_kept) | split | dsimp only)

theorem State.idleOrFabric_kept {s0 : State} {s : State} {l : Nat} {mode : Nat} (hs : Kept s0 s) :
    Kept s0 (State.idleOrFabric s l mode).1 := by
  unfold State.idleOrFabric
  try dsimp only
  repeat' (first | with_reducible (first | assumption | apply Kept.ite_fst | apply Kept.ite | apply State.used_kept) | dsimp only)

theorem State.nextBlock_kept {s0 : State} {s : State} {a : Nat} {mode : Nat} (hs : Kept s0 s) :
    Kept s0 (State.nextBlock s a mode).1 := by
  unfold State.nextBlock
  try dsimp only
  repeat' (first | with_reducible (first | assumption | apply KeptO.none | apply KeptO.some_id | apply KeptO.some | apply KeptO.ite | apply State.setPort_kept | apply State.takeBlock_kept | apply State.idleOrFabric_kept | refine Kept.of_fst (by assumption) ?_) | split | dsimp only)

theorem State.putWraw_kept {s0 : State} {s : State} {a : Nat} {l : Nat} {b : TxBlk} (hs : Kept s0 s) :
    Kept s0 (State.putWraw s a l b) := by
  unfold State.putWraw
  try dsimp only
  repeat' (first | with_reducible (first | assumption | apply Kept.ite_fst | apply Kept.ite | apply State.setLane_kept | apply State.putBits_kept))

theorem State.wrawRound_kept {s0 : State} {s : State} {a : Nat} (hs : Kept s0 s) :
    Kept s0 (State.wrawRound s a) := by
  unfold State.wrawRound
  try dsimp only
  repeat' (first | with_reducible (first | assumption | intro s x _ | intro s _ | intro x | apply Kept.ite_fst | apply Kept.ite | apply Kept.foldl | apply Kept.foldl_fst | apply State.setPort_kept | apply State.nextBlock_kept | apply State.putWraw_kept))

theorem State.wrawFill_kept {s0 : State} {s : State} {a : Nat} {l : Nat} {need : Nat} {x4 : Nat} (hs : Kept s0 s) :
    Kept s0 (State.wrawFill s a l need x4) := by
  revert hs
  induction x4 generalizing s a l need with
  | zero =>
    intro hs; unfold State.wrawFill; try dsimp only
    repeat' (first | with_reducible (first | assumption | apply Kept.ite_fst | apply Kept.ite | apply State.wrawRound_kept) | split)
  | succ n ih =>
    intro hs; unfold State.wrawFill; try dsimp only
    repeat' (first | with_reducible (first | assumption | apply Kept.ite_fst | apply Kept.ite | apply ih | apply State.wrawRound_kept) | split)

theorem State.ethBlocks_kept {s0 : State} {s : State} {a : Nat} {x2 : Nat} (hs : Kept s0 s) :
    Kept s0 (State.ethBlocks s a x2).1 := by
  revert hs
  induction x2 generalizing s a with
  | zero =>
    intro hs; unfold State.ethBlocks; try dsimp only
    repeat' (first | with_reducible (first | assumption | apply State.nextBlock_kept | refine Kept.of_fst (by assumption) ?_) | split | dsimp only)
  | succ n ih =>
    intro hs; unfold State.ethBlocks; try dsimp only
    repeat' (first | with_reducible (first | assumption | apply ih | apply State.nextBlock_kept | refine Kept.of_fst (by assumption) ?_) | split | dsimp only)

theorem State.ethTx_kept {s0 : State} {s : State} {a : Nat} {ns : Nat} {need : Nat} (hs : Kept s0 s) :
    Kept s0 (State.ethTx s a ns need) := by
  unfold State.ethTx
  try dsimp only
  repeat' (first | with_reducible (first | assumption | intro s x _ | intro s _ | intro x | apply Kept.ite_fst | apply Kept.ite | apply KeptO.none | apply KeptO.some_id | apply KeptO.some | apply KeptO.ite | apply Kept.foldl | apply Kept.foldl_fst | apply State.setLane_kept | apply State.setPort_kept | apply State.putBits_kept | apply State.ethBlocks_kept | refine Kept.of_fst (by assumption) ?_) | split)

theorem State.pcieFill_kept {s0 : State} {s : State} {a : Nat} {l : Nat} {need : Nat} {k : Nat} {x5 : Nat} (hs : Kept s0 s) :
    Kept s0 (State.pcieFill s a l need k x5) := by
  revert hs
  induction x5 generalizing s a l need k with
  | zero =>
    intro hs; unfold State.pcieFill; try dsimp only
    repeat' (first | with_reducible (first | assumption | apply Kept.ite_fst | apply Kept.ite | apply State.setLane_kept | apply State.setPort_kept | apply State.putBits_kept | apply State.idleOrFabric_kept | refine Kept.of_fst (by assumption) ?_) | split)
  | succ n ih =>
    intro hs; unfold State.pcieFill; try dsimp only
    repeat' (first | with_reducible (first | assumption | apply Kept.ite_fst | apply Kept.ite | apply ih | apply State.setLane_kept | apply State.setPort_kept | apply State.putBits_kept | apply State.idleOrFabric_kept | refine Kept.of_fst (by assumption) ?_) | split)

theorem State.bypassFill_kept {s0 : State} {s : State} {l : Nat} {need : Nat} {x3 : Nat} (hs : Kept s0 s) :
    Kept s0 (State.bypassFill s l need x3) := by
  revert hs
  induction x3 generalizing s l need with
  | zero =>
    intro hs; unfold State.bypassFill; try dsimp only
    repeat' (first | with_reducible (first | assumption | apply Kept.ite_fst | apply Kept.ite | apply State.putBits_kept | apply State.takeBlock_kept | apply State.idleOrFabric_kept | refine Kept.of_fst (by assumption) ?_) | split)
  | succ n ih =>
    intro hs; unfold State.bypassFill; try dsimp only
    repeat' (first | with_reducible (first | assumption | apply Kept.ite_fst | apply Kept.ite | apply ih | apply State.putBits_kept | apply State.takeBlock_kept | apply State.idleOrFabric_kept | refine Kept.of_fst (by assumption) ?_) | split)

theorem State.portTx_kept {s0 : State} {s : State} {ns : Nat} {a : Nat} (hs : Kept s0 s) :
    Kept s0 (State.portTx s ns a) := by
  unfold State.portTx
  try dsimp only
  repeat' (first | with_reducible (first | assumption | intro s x _ | intro s _ | intro x | apply Kept.ite_fst | apply Kept.ite | apply Kept.foldl | apply Kept.foldl_fst | apply State.wrawFill_kept | apply State.ethTx_kept | apply State.pcieFill_kept | apply State.bypassFill_kept) | split)

theorem State.pcsLevels_kept {s0 : State} {s : State} {l : Nat} {n : Nat} (hs : Kept s0 s) :
    Kept s0 (State.pcsLevels s l n).1 := by
  unfold State.pcsLevels
  try dsimp only
  repeat' (first | with_reducible (first | assumption | apply Kept.ite_fst | apply Kept.ite | apply State.setLane_kept) | dsimp only)

theorem State.genLevels_kept {s0 : State} {s : State} {l : Nat} {n : Nat} (hs : Kept s0 s) :
    Kept s0 (State.genLevels s l n).1 := by
  unfold State.genLevels
  try dsimp only
  repeat' (first | with_reducible (first | assumption | apply State.setLane_kept) | split | dsimp only)

theorem State.txLevels_kept {s0 : State} {s : State} {l : Nat} {n : Nat} (hs : Kept s0 s) :
    Kept s0 (State.txLevels s l n).1 := by
  unfold State.txLevels
  try dsimp only
  repeat' (first | with_reducible (first | assumption | apply Kept.ite_fst | apply Kept.ite | apply State.raise_kept | apply State.setLane_kept | apply State.pcsLevels_kept | apply State.genLevels_kept) | dsimp only)

theorem State.nearBack_kept {s0 : State} {s : State} {l : Nat} {lv : List Int} (hs : Kept s0 s) :
    Kept s0 (State.nearBack s l lv) := by
  unfold State.nearBack
  try dsimp only
  repeat' (first | with_reducible (first | assumption | apply Kept.ite_fst | apply Kept.ite | apply State.wrawStream_kept | apply State.hearPlaces_kept | apply State.setLane_kept) | split)

theorem State.keepAdapting_kept {s0 : State} {s : State} {l : Nat} (hs : Kept s0 s) :
    Kept s0 (State.keepAdapting s l) := by
  unfold State.keepAdapting
  try dsimp only
  repeat' (first | with_reducible (first | assumption | apply Kept.ite_fst | apply Kept.ite | apply State.adapt_kept | apply State.used_kept))

theorem State.laneCycle_kept {s0 : State} {s : State} {ns : Nat} {l : Nat} (hs : Kept s0 s) :
    Kept s0 (State.laneCycle s ns l) := by
  unfold State.laneCycle
  try dsimp only
  repeat' (first | with_reducible (first | assumption | apply Kept.ite_fst | apply Kept.ite | apply State.histSample_kept | apply State.setLane_kept | apply State.txLevels_kept | apply State.nearBack_kept | apply State.keepAdapting_kept))

theorem State.lineCycle_kept {s0 : State} {s : State} {ns : Nat} (hs : Kept s0 s) :
    Kept s0 (State.lineCycle s ns) := by
  unfold State.lineCycle
  try dsimp only
  repeat' (first | with_reducible (first | assumption | intro s x _ | intro s _ | intro x | apply Kept.foldl | apply Kept.foldl_fst | apply State.portTx_kept | apply State.laneCycle_kept))

end Sys2Proof.Machine
end

