-- ==== Sys2Proof/Laws/KeptMailbox.lean ====
section
/-! SUPPORT. What every operation and meaning of Machine/Mailbox.lean keeps (Laws/Kept.lean says what that is): one lemma for each. -/
set_option maxRecDepth 4000
set_option linter.unusedVariables false
namespace Sys2Proof.Machine

theorem execGetTimestamp_kept {s0 : State} {p : List Byte} {s : State} (hs : Kept s0 s) :
    KeptR s0 (execGetTimestamp p s) := by
  unfold execGetTimestamp
  try dsimp only
  repeat' (first | with_reducible (first | assumption | apply KeptR.next | apply KeptR.ite | apply Kept.ite_fst | apply Kept.ite | apply State.mailbox_kept))

theorem execSetTimestamp_kept {s0 : State} {_p : List Byte} {s : State} (hs : Kept s0 s) :
    KeptR s0 (execSetTimestamp _p s) := by
  unfold execSetTimestamp
  try dsimp only
  repeat' (first | with_reducible (first | assumption | apply KeptR.next | apply KeptR.ite | apply State.mailbox_kept))

theorem execGetSupportedLogs_kept {s0 : State} {p : List Byte} {s : State} (hs : Kept s0 s) :
    KeptR s0 (execGetSupportedLogs p s) := by
  unfold execGetSupportedLogs
  try dsimp only
  repeat' (first | with_reducible (first | assumption | apply KeptR.next | apply KeptR.ite | apply Kept.ite_fst | apply Kept.ite | apply State.mailbox_kept))

theorem execGetLog_kept {s0 : State} {p : List Byte} {s : State} (hs : Kept s0 s) :
    KeptR s0 (execGetLog p s) := by
  unfold execGetLog
  try dsimp only
  repeat' (first | with_reducible (first | assumption | apply KeptR.next | apply KeptR.ite | apply Kept.ite_fst | apply Kept.ite | apply State.mailbox_kept))

theorem execGetRollcall_kept {s0 : State} {p : List Byte} {s : State} (hs : Kept s0 s) :
    KeptR s0 (execGetRollcall p s) := by
  unfold execGetRollcall
  try dsimp only
  repeat' (first | with_reducible (first | assumption | apply KeptR.next | apply KeptR.ite | apply Kept.ite_fst | apply Kept.ite | apply State.mailbox_kept))

theorem execGetEvents_kept {s0 : State} {p : List Byte} {s : State} (hs : Kept s0 s) :
    KeptR s0 (execGetEvents p s) := by
  unfold execGetEvents
  try dsimp only
  repeat' (first | with_reducible (first | assumption | apply KeptR.next | apply KeptR.ite | apply Kept.ite_fst | apply Kept.ite | apply State.mailbox_kept))

theorem State.copyBegin_kept {s0 : State} {s : State} {src : Nat} {dst : Nat} {len : Nat} {e : Nat} (hs : Kept s0 s) :
    Kept s0 (State.copyBegin s src dst len e) := by
  unfold State.copyBegin
  try dsimp only
  repeat' (first | with_reducible (first | assumption | apply Kept.ite_fst | apply Kept.ite | apply KeptC.of_state | apply KeptC.csr_set | apply KeptC.tags_put | apply KeptC.tags_drop | apply KeptC.out_append | apply State.setOp_kept | apply State.opBegin_kept | apply State.opRefuse_kept) | simp only [Kept.mk_iff] | split)

theorem execCopy_kept {s0 : State} {p : List Byte} {s : State} (hs : Kept s0 s) :
    KeptR s0 (execCopy p s) := by
  unfold execCopy
  try dsimp only
  repeat' (first | with_reducible (first | assumption | apply KeptR.next | apply KeptR.ite | apply Kept.ite_fst | apply Kept.ite | apply State.copyBegin_kept | apply State.mailbox_kept))

theorem State.copyBytes_kept {s0 : State} {s : State} {x1 : Nat} {x2 : Nat} {x3 : Nat} {x4 : Nat} (hs : Kept s0 s) :
    Kept s0 (State.copyBytes s x1 x2 x3 x4).1 := by
  revert hs
  induction x1 generalizing s x2 x3 x4 with
  | zero =>
    intro hs; unfold State.copyBytes; try dsimp only
    repeat' (first | with_reducible (first | assumption | apply Kept.ite_fst | apply Kept.ite | apply KeptO.none | apply KeptO.some_id | apply KeptO.some | apply KeptO.ite | apply State.netRead_kept | apply State.netStore_kept | refine Kept.of_fst (by assumption) ?_) | split | dsimp only)
  | succ n ih =>
    intro hs; unfold State.copyBytes; try dsimp only
    repeat' (first | with_reducible (first | assumption | apply Kept.ite_fst | apply Kept.ite | apply KeptO.none | apply KeptO.some_id | apply KeptO.some | apply KeptO.ite | apply ih | apply State.netRead_kept | apply State.netStore_kept | refine Kept.of_fst (by assumption) ?_) | split | dsimp only)

theorem execCopyStep_kept {s0 : State} {s : State} (hs : Kept s0 s) :
    KeptR s0 (execCopyStep s) := by
  unfold execCopyStep
  try dsimp only
  repeat' (first | with_reducible (first | assumption | apply KeptR.next | apply KeptR.ite | apply Kept.ite_fst | apply Kept.ite | apply KeptO.none | apply KeptO.some_id | apply KeptO.some | apply KeptO.ite | apply KeptC.of_state | apply KeptC.csr_set | apply KeptC.tags_put | apply KeptC.tags_drop | apply KeptC.out_append | apply State.setOp_kept | apply State.opMove_kept | apply State.opFail_kept | apply State.copyBytes_kept | refine Kept.of_fst (by assumption) ?_) | simp only [Kept.mk_iff] | split)

theorem nextOr_kept {s0 : State} {s : State} {x1 : Result} (hs : Kept s0 s) (hx1 : KeptR s0 x1) :
    Kept s0 (nextOr s x1) := by
  unfold nextOr
  split
  · exact hx1 _ rfl
  · exact hs

theorem State.runMailbox_kept {s0 : State} {s : State} {code : Nat} {p : List Byte} (hs : Kept s0 s) :
    Kept s0 (State.runMailbox s code p) := by
  unfold State.runMailbox
  try dsimp only
  repeat' (first | with_reducible (first | assumption | apply Kept.ite_fst | apply Kept.ite | apply execGetTimestamp_kept | apply execSetTimestamp_kept | apply execGetSupportedLogs_kept | apply execGetLog_kept | apply execGetRollcall_kept | apply execGetEvents_kept | apply execCopy_kept | apply nextOr_kept | apply State.mailbox_kept | apply execBundleBegin_kept | apply execBundleData_kept | apply execBundleEnd_kept) | split)

theorem State.mailboxWord_kept {s0 : State} {s : State} {m : Nat} {v : Nat} (hs : Kept s0 s) :
    Kept s0 (State.mailboxWord s m v) := by
  unfold State.mailboxWord
  try dsimp only
  repeat' (first | with_reducible (first | assumption | apply Kept.ite_fst | apply Kept.ite | apply KeptC.of_state | apply KeptC.csr_set | apply KeptC.tags_put | apply KeptC.tags_drop | apply KeptC.out_append | apply State.runMailbox_kept) | simp only [Kept.mk_iff])

theorem State.mailboxWrite_kept {s0 : State} {s : State} {m : Nat} {bytes : List Byte} (hs : Kept s0 s) :
    Kept s0 (State.mailboxWrite s m bytes) := by
  unfold State.mailboxWrite
  try dsimp only
  repeat' (first | with_reducible (first | assumption | apply Kept.ite_fst | apply Kept.ite | apply State.mailboxWord_kept))

end Sys2Proof.Machine
end

