-- ==== Sys2Proof/Laws/KeptWatermaster.lean ====
section
/-! SUPPORT. What every operation and meaning of Machine/Watermaster.lean keeps (Laws/Kept.lean says what that is): one lemma for each. -/
set_option maxRecDepth 4000
set_option linter.unusedVariables false
namespace Sys2Proof.Machine

theorem State.wmCsrRead_kept {s0 : State} {s : State} {x : Nat} {guest : Guest} (hs : Kept s0 s) :
    Kept s0 (State.wmCsrRead s x guest).1 := by
  unfold State.wmCsrRead
  try dsimp only
  repeat' (first | with_reducible (first | assumption | apply State.netCsrRead_kept) | dsimp only)

theorem State.wmCsrWrite_kept {s0 : State} {s : State} {x : Nat} {v : Nat} {guest : Guest} (hs : Kept s0 s) :
    Kept s0 (State.wmCsrWrite s x v guest).1 := by
  unfold State.wmCsrWrite
  try dsimp only
  repeat' (first | with_reducible (first | assumption | apply State.netCsrWrite_kept) | dsimp only)

theorem State.peekData_kept {s0 : State} {w : State × RStat} {b : Nat} (hw : Kept s0 w.1) :
    Kept s0 (State.peekData w b).1 := by
  unfold State.peekData
  try dsimp only
  repeat' (first | with_reducible (first | assumption | apply Kept.ite_fst | apply Kept.ite | apply State.wmCsrRead_kept) | dsimp only)

theorem State.peekRead_kept {s0 : State} {s : State} {a : Nat} (hs : Kept s0 s) :
    Kept s0 (State.peekRead s a).1 := by
  unfold State.peekRead
  try dsimp only
  repeat' (first | with_reducible (first | assumption | apply Kept.ite_fst | apply Kept.ite | apply State.wmCsrRead_kept | apply State.wmCsrWrite_kept | apply State.peekData_kept) | dsimp only)

theorem State.wmReadWord_kept {s0 : State} {s : State} {a : Nat} {force : Bool} {guest : Guest} (hs : Kept s0 s) :
    Kept s0 (State.wmReadWord s a force guest).1 := by
  unfold State.wmReadWord
  try dsimp only
  repeat' (first | with_reducible (first | assumption | apply Kept.ite_fst | apply Kept.ite | apply State.netRead_kept | apply State.wmCsrRead_kept | apply State.peekRead_kept) | dsimp only)

theorem State.wmReadWords_kept {s0 : State} {s : State} {force : Bool} {guest : Guest} {x3 : Nat} {x4 : Nat} {x5 : List Byte} (hs : Kept s0 s) :
    KeptO WmDone.st s0 (State.wmReadWords s force guest x3 x4 x5) := by
  revert hs
  induction x3 generalizing s force guest x4 x5 with
  | zero =>
    intro hs; unfold State.wmReadWords; try dsimp only
    repeat' (first | with_reducible (first | assumption | apply KeptO.ite | apply Kept.ite_fst | apply Kept.ite | apply KeptO.none | apply KeptO.some_id | apply KeptO.some | apply State.wmReadWord_kept | refine Kept.of_fst (by assumption) ?_) | split)
  | succ n ih =>
    intro hs; unfold State.wmReadWords; try dsimp only
    repeat' (first | with_reducible (first | assumption | apply KeptO.ite | apply Kept.ite_fst | apply Kept.ite | apply KeptO.none | apply KeptO.some_id | apply KeptO.some | apply ih | apply State.wmReadWord_kept | refine Kept.of_fst (by assumption) ?_) | split)

theorem State.wmRd_kept {s0 : State} {s : State} {p : List Byte} {guest : Guest} (hs : Kept s0 s) :
    KeptO WmDone.st s0 (State.wmRd s p guest) := by
  unfold State.wmRd
  try dsimp only
  repeat' (first | with_reducible (first | assumption | apply KeptO.ite | apply Kept.ite_fst | apply Kept.ite | apply KeptO.none | apply KeptO.some_id | apply KeptO.some | apply State.wmReadWords_kept))

theorem State.wmWriteWord_kept {s0 : State} {s : State} {guest : Guest} {l : List Byte} {a : Nat} (hs : Kept s0 s) :
    Kept s0 (State.wmWriteWord s guest l a).1 := by
  unfold State.wmWriteWord
  try dsimp only
  repeat' (first | with_reducible (first | assumption | apply Kept.ite_fst | apply Kept.ite | apply State.netStore_kept | apply State.wmCsrWrite_kept) | dsimp only)

theorem State.wmWriteWords_kept {s0 : State} {s : State} {guest : Guest} {x2 : Nat} {x3 : List Byte} {x4 : Nat} (hs : Kept s0 s) :
    KeptO WmDone.st s0 (State.wmWriteWords s guest x2 x3 x4) := by
  revert hs
  induction x2 generalizing s guest x3 x4 with
  | zero =>
    intro hs; unfold State.wmWriteWords; try dsimp only
    repeat' (first | with_reducible (first | assumption | apply KeptO.ite | apply Kept.ite_fst | apply Kept.ite | apply KeptO.none | apply KeptO.some_id | apply KeptO.some | apply State.wmWriteWord_kept | refine Kept.of_fst (by assumption) ?_) | split)
  | succ n ih =>
    intro hs; unfold State.wmWriteWords; try dsimp only
    repeat' (first | with_reducible (first | assumption | apply KeptO.ite | apply Kept.ite_fst | apply Kept.ite | apply KeptO.none | apply KeptO.some_id | apply KeptO.some | apply ih | apply State.wmWriteWord_kept | refine Kept.of_fst (by assumption) ?_) | split)

theorem State.wmWr_kept {s0 : State} {s : State} {p : List Byte} {guest : Guest} (hs : Kept s0 s) :
    KeptO WmDone.st s0 (State.wmWr s p guest) := by
  unfold State.wmWr
  try dsimp only
  repeat' (first | with_reducible (first | assumption | apply KeptO.ite | apply Kept.ite_fst | apply Kept.ite | apply KeptO.none | apply KeptO.some_id | apply KeptO.some | apply State.wmWriteWords_kept))

theorem State.wmReadBytes_kept {s0 : State} {s : State} {x1 : Nat} {x2 : Nat} {x3 : Nat} {x4 : List Byte} (hs : Kept s0 s) :
    KeptO WmDone.st s0 (State.wmReadBytes s x1 x2 x3 x4) := by
  revert hs
  induction x1 generalizing s x2 x3 x4 with
  | zero =>
    intro hs; unfold State.wmReadBytes; try dsimp only
    repeat' (first | with_reducible (first | assumption | apply KeptO.ite | apply Kept.ite_fst | apply Kept.ite | apply KeptO.none | apply KeptO.some_id | apply KeptO.some | apply State.netRead_kept | refine Kept.of_fst (by assumption) ?_) | split)
  | succ n ih =>
    intro hs; unfold State.wmReadBytes; try dsimp only
    repeat' (first | with_reducible (first | assumption | apply KeptO.ite | apply Kept.ite_fst | apply Kept.ite | apply KeptO.none | apply KeptO.some_id | apply KeptO.some | apply ih | apply State.netRead_kept | refine Kept.of_fst (by assumption) ?_) | split)

theorem State.wmWriteBytes_kept {s0 : State} {s : State} {x1 : Nat} {x2 : Nat} {x3 : List Byte} (hs : Kept s0 s) :
    KeptO WmDone.st s0 (State.wmWriteBytes s x1 x2 x3) := by
  revert hs
  induction x1 generalizing s x2 x3 with
  | zero =>
    intro hs; unfold State.wmWriteBytes; try dsimp only
    repeat' (first | with_reducible (first | assumption | apply KeptO.ite | apply Kept.ite_fst | apply Kept.ite | apply KeptO.none | apply KeptO.some_id | apply KeptO.some | apply State.netStore_kept | refine Kept.of_fst (by assumption) ?_) | split)
  | succ n ih =>
    intro hs; unfold State.wmWriteBytes; try dsimp only
    repeat' (first | with_reducible (first | assumption | apply KeptO.ite | apply Kept.ite_fst | apply Kept.ite | apply KeptO.none | apply KeptO.some_id | apply KeptO.some | apply ih | apply State.netStore_kept | refine Kept.of_fst (by assumption) ?_) | split)

theorem State.wmMrd_kept {s0 : State} {s : State} {p : List Byte} (hs : Kept s0 s) :
    KeptO WmDone.st s0 (State.wmMrd s p) := by
  unfold State.wmMrd
  try dsimp only
  repeat' (first | with_reducible (first | assumption | apply KeptO.ite | apply Kept.ite_fst | apply Kept.ite | apply KeptO.none | apply KeptO.some_id | apply KeptO.some | apply State.wmReadBytes_kept | refine Kept.of_some_done (by assumption) ?_) | split)

theorem State.wmMwr_kept {s0 : State} {s : State} {p : List Byte} (hs : Kept s0 s) :
    KeptO WmDone.st s0 (State.wmMwr s p) := by
  unfold State.wmMwr
  try dsimp only
  repeat' (first | with_reducible (first | assumption | apply KeptO.ite | apply Kept.ite_fst | apply Kept.ite | apply KeptO.none | apply KeptO.some_id | apply KeptO.some | apply State.wmWriteBytes_kept | refine Kept.of_some_done (by assumption) ?_) | split)

theorem State.wmWritten_kept {s0 : State} {t : State × RStat} {x : Nat} (ht : Kept s0 t.1) :
    Kept s0 (State.wmWritten t x).st := by
  unfold State.wmWritten
  try dsimp only
  repeat' (first | with_reducible (first | assumption | apply Kept.ite_st | apply Kept.ite_fst | apply Kept.ite))

theorem State.wmHalt_kept {s0 : State} {s : State} {p : List Byte} {up : Nat} (hs : Kept s0 s) :
    Kept s0 (State.wmHalt s p up).st := by
  unfold State.wmHalt
  try dsimp only
  repeat' (first | with_reducible (first | assumption | apply Kept.ite_st | apply Kept.ite_fst | apply Kept.ite | apply State.wmCsrWrite_kept | apply State.wmWritten_kept))

theorem State.wmEngine_kept {s0 : State} {s : State} {good : Bool} {g : Nat} (hs : Kept s0 s) :
    KeptO WmDone.st s0 (State.wmEngine s good g) := by
  unfold State.wmEngine
  try dsimp only
  repeat' (first | with_reducible (first | assumption | apply KeptO.ite | apply Kept.ite_fst | apply Kept.ite | apply KeptO.none | apply KeptO.some_id | apply KeptO.some | apply State.timedOut_kept) | split)

theorem State.wmStep_kept {s0 : State} {s : State} {p : List Byte} (hs : Kept s0 s) :
    Kept s0 (State.wmStep s p).st := by
  unfold State.wmStep
  try dsimp only
  repeat' (first | with_reducible (first | assumption | apply KeptO.none | apply KeptO.some_id | apply KeptO.some | apply KeptO.ite | apply State.writeHcmd_kept | apply State.wmEngine_kept | refine Kept.of_some_done (by assumption) ?_) | split)

theorem State.wmRreg_kept {s0 : State} {s : State} {p : List Byte} (hs : Kept s0 s) :
    Kept s0 (State.wmRreg s p).st := by
  unfold State.wmRreg
  try dsimp only
  repeat' (first | with_reducible (first | assumption | apply Kept.ite_st | apply Kept.ite_fst | apply Kept.ite | apply State.wmEngine_kept | refine Kept.of_some_done (by assumption) ?_) | split)

theorem State.wmWreg_kept {s0 : State} {s : State} {p : List Byte} (hs : Kept s0 s) :
    Kept s0 (State.wmWreg s p).st := by
  unfold State.wmWreg
  try dsimp only
  repeat' (first | with_reducible (first | assumption | apply Kept.ite_st | apply Kept.ite_fst | apply Kept.ite | apply State.setEng_kept | apply State.setRilReg_kept | apply State.wmEngine_kept | refine Kept.of_some_done (by assumption) ?_) | split)

theorem State.wmLogRead_kept {s0 : State} {s : State} {p : List Byte} (hs : Kept s0 s) :
    Kept s0 (State.wmLogRead s p).st := by
  unfold State.wmLogRead
  try dsimp only
  repeat' (first | with_reducible (first | assumption | apply Kept.ite_st | apply Kept.ite_fst | apply Kept.ite))

theorem State.wmGunlock_kept {s0 : State} {s : State} {p : List Byte} (hs : Kept s0 s) :
    Kept s0 (State.wmGunlock s p).st := by
  unfold State.wmGunlock
  try dsimp only
  repeat' (first | with_reducible (first | assumption | intro s x _ | intro s _ | intro x | apply Kept.ite_st | apply Kept.ite_fst | apply Kept.ite | apply KeptO.none | apply KeptO.some_id | apply KeptO.some | apply KeptO.ite | apply Kept.foldl | apply Kept.foldl_fst | apply State.gaugeGo_kept | apply State.set_kept) | split)

theorem State.wmOpen_kept {s0 : State} {s : State} {x : Bool} {p : List Byte} (hs : Kept s0 s) :
    Kept s0 (State.wmOpen s x p).st := by
  unfold State.wmOpen
  try dsimp only
  repeat' (first | with_reducible (first | assumption | apply Kept.ite_st | apply Kept.ite_fst | apply Kept.ite | apply KeptC.of_state | apply KeptC.csr_set | apply KeptC.tags_put | apply KeptC.tags_drop | apply KeptC.out_append | apply State.set_kept | apply State.raise_kept | apply State.setB_kept | apply State.used_kept | apply State.logEvent_kept | apply State.wmEvent_kept) | simp only [Kept.mk_iff])

theorem State.wmClose_kept {s0 : State} {s : State} {p : List Byte} (hs : Kept s0 s) :
    Kept s0 (State.wmClose s p).st := by
  unfold State.wmClose
  try dsimp only
  repeat' (first | with_reducible (first | assumption | apply Kept.ite_st | apply Kept.ite_fst | apply Kept.ite | apply KeptC.of_state | apply KeptC.csr_set | apply KeptC.tags_put | apply KeptC.tags_drop | apply KeptC.out_append | apply State.lower_kept) | simp only [Kept.mk_iff])

theorem State.wmCommand_kept {s0 : State} {s : State} {x : Bool} {cmd : Nat} {p : List Byte} {guest : Guest} (hs : Kept s0 s) :
    KeptO WmDone.st s0 (State.wmCommand s x cmd p guest) := by
  unfold State.wmCommand
  try dsimp only
  repeat' (first | with_reducible (first | assumption | apply KeptO.ite | apply Kept.ite_fst | apply Kept.ite | apply KeptO.none | apply KeptO.some_id | apply KeptO.some | apply State.wmRd_kept | apply State.wmWr_kept | apply State.wmMrd_kept | apply State.wmMwr_kept | apply State.wmHalt_kept | apply State.wmStep_kept | apply State.wmRreg_kept | apply State.wmWreg_kept | apply State.wmLogRead_kept | apply State.wmGunlock_kept | apply State.wmOpen_kept | apply State.wmClose_kept | refine Kept.of_some_done (by assumption) ?_) | split)

theorem State.wmAnswer_kept {s0 : State} {s : State} {x : Bool} {b : List Byte} (hs : Kept s0 s) :
    Kept s0 (State.wmAnswer s x b) := by
  unfold State.wmAnswer
  try dsimp only
  repeat' (first | with_reducible (first | assumption | apply Kept.ite_fst | apply Kept.ite | apply KeptO.none | apply KeptO.some_id | apply KeptO.some | apply KeptO.ite | apply KeptC.of_state | apply KeptC.csr_set | apply KeptC.tags_put | apply KeptC.tags_drop | apply KeptC.out_append | apply State.raise_kept | apply State.lower_kept | apply State.emit_kept | apply State.setBuf_kept) | simp only [Kept.mk_iff])

theorem WmDone.report_kept {s0 : State} {d : WmDone} {x : Bool} {cmd : Nat} {seq : Nat} {sid : Nat} {p : List Byte} (hd : Kept s0 d.st) :
    Kept s0 (WmDone.report d x cmd seq sid p) := by
  unfold WmDone.report
  try dsimp only
  repeat' (first | with_reducible (first | assumption | apply Kept.ite_fst | apply Kept.ite | apply KeptO.none | apply KeptO.some_id | apply KeptO.some | apply KeptO.ite | apply KeptC.of_state | apply KeptC.csr_set | apply KeptC.tags_put | apply KeptC.tags_drop | apply KeptC.out_append | apply State.trace_kept | apply State.wmAnswer_kept) | simp only [Kept.mk_iff])

theorem State.wmRequest_kept {s0 : State} {s : State} {x : Bool} {cmd : Nat} {seq : Nat} {sid : Nat} {p : List Byte} {guest : Guest} (hs : Kept s0 s) :
    Kept s0 (State.wmRequest s x cmd seq sid p guest) := by
  unfold State.wmRequest
  try dsimp only
  repeat' (first | with_reducible (first | assumption | apply Kept.ite_fst | apply Kept.ite | apply KeptO.none | apply KeptO.some_id | apply KeptO.some | apply KeptO.ite | apply KeptO.map | apply KeptC.of_state | apply KeptC.csr_set | apply KeptC.tags_put | apply KeptC.tags_drop | apply KeptC.out_append | apply State.raise_kept | apply State.wmCommand_kept | apply State.wmAnswer_kept | apply WmDone.report_kept | refine Kept.of_some_done (by assumption) ?_) | simp only [Kept.mk_iff] | split)

theorem State.wmRetry_kept {s0 : State} {s : State} (hs : Kept s0 s) :
    Kept s0 (State.wmRetry s) := by
  unfold State.wmRetry
  try dsimp only
  repeat' (first | with_reducible (first | assumption | apply KeptO.none | apply KeptO.some_id | apply KeptO.some | apply KeptO.ite | apply KeptC.of_state | apply KeptC.csr_set | apply KeptC.tags_put | apply KeptC.tags_drop | apply KeptC.out_append | apply State.wmCommand_kept | apply WmDone.report_kept | refine Kept.of_some_done (by assumption) ?_) | simp only [Kept.mk_iff] | split)

theorem execOpen_kept {s0 : State} {x : Bool} {seq : Fin 65536} {p : List Byte} {s : State} (hs : Kept s0 s) :
    KeptR s0 (execOpen x seq p s) := by
  unfold execOpen
  try dsimp only
  repeat' (first | with_reducible (first | assumption | apply KeptR.next | apply KeptR.ite | apply State.wmRequest_kept))

theorem execClose_kept {s0 : State} {x : Bool} {seq : Fin 65536} {sid : Word} {p : List Byte} {s : State} (hs : Kept s0 s) :
    KeptR s0 (execClose x seq sid p s) := by
  unfold execClose
  try dsimp only
  repeat' (first | with_reducible (first | assumption | apply KeptR.next | apply KeptR.ite | apply State.wmRequest_kept))

theorem execPing_kept {s0 : State} {x : Bool} {seq : Fin 65536} {sid : Word} {p : List Byte} {s : State} (hs : Kept s0 s) :
    KeptR s0 (execPing x seq sid p s) := by
  unfold execPing
  try dsimp only
  repeat' (first | with_reducible (first | assumption | apply KeptR.next | apply KeptR.ite | apply State.wmRequest_kept))

theorem execWmRd_kept {s0 : State} {x : Bool} {seq : Fin 65536} {sid : Word} {p : List Byte} {guest : Guest} {s : State} (hs : Kept s0 s) :
    KeptR s0 (execWmRd x seq sid p guest s) := by
  unfold execWmRd
  try dsimp only
  repeat' (first | with_reducible (first | assumption | apply KeptR.next | apply KeptR.ite | apply State.wmRequest_kept))

theorem execWmWr_kept {s0 : State} {x : Bool} {seq : Fin 65536} {sid : Word} {p : List Byte} {guest : Guest} {s : State} (hs : Kept s0 s) :
    KeptR s0 (execWmWr x seq sid p guest s) := by
  unfold execWmWr
  try dsimp only
  repeat' (first | with_reducible (first | assumption | apply KeptR.next | apply KeptR.ite | apply State.wmRequest_kept))

theorem execMrd_kept {s0 : State} {x : Bool} {seq : Fin 65536} {sid : Word} {p : List Byte} {s : State} (hs : Kept s0 s) :
    KeptR s0 (execMrd x seq sid p s) := by
  unfold execMrd
  try dsimp only
  repeat' (first | with_reducible (first | assumption | apply KeptR.next | apply KeptR.ite | apply State.wmRequest_kept))

theorem execMwr_kept {s0 : State} {x : Bool} {seq : Fin 65536} {sid : Word} {p : List Byte} {s : State} (hs : Kept s0 s) :
    KeptR s0 (execMwr x seq sid p s) := by
  unfold execMwr
  try dsimp only
  repeat' (first | with_reducible (first | assumption | apply KeptR.next | apply KeptR.ite | apply State.wmRequest_kept))

theorem execWmHalt_kept {s0 : State} {x : Bool} {seq : Fin 65536} {sid : Word} {p : List Byte} {s : State} (hs : Kept s0 s) :
    KeptR s0 (execWmHalt x seq sid p s) := by
  unfold execWmHalt
  try dsimp only
  repeat' (first | with_reducible (first | assumption | apply KeptR.next | apply KeptR.ite | apply State.wmRequest_kept))

theorem execWmResume_kept {s0 : State} {x : Bool} {seq : Fin 65536} {sid : Word} {p : List Byte} {s : State} (hs : Kept s0 s) :
    KeptR s0 (execWmResume x seq sid p s) := by
  unfold execWmResume
  try dsimp only
  repeat' (first | with_reducible (first | assumption | apply KeptR.next | apply KeptR.ite | apply State.wmRequest_kept))

theorem execWmStep_kept {s0 : State} {x : Bool} {seq : Fin 65536} {sid : Word} {p : List Byte} {s : State} (hs : Kept s0 s) :
    KeptR s0 (execWmStep x seq sid p s) := by
  unfold execWmStep
  try dsimp only
  repeat' (first | with_reducible (first | assumption | apply KeptR.next | apply KeptR.ite | apply State.wmRequest_kept))

theorem execRreg_kept {s0 : State} {x : Bool} {seq : Fin 65536} {sid : Word} {p : List Byte} {s : State} (hs : Kept s0 s) :
    KeptR s0 (execRreg x seq sid p s) := by
  unfold execRreg
  try dsimp only
  repeat' (first | with_reducible (first | assumption | apply KeptR.next | apply KeptR.ite | apply State.wmRequest_kept))

theorem execWreg_kept {s0 : State} {x : Bool} {seq : Fin 65536} {sid : Word} {p : List Byte} {s : State} (hs : Kept s0 s) :
    KeptR s0 (execWreg x seq sid p s) := by
  unfold execWreg
  try dsimp only
  repeat' (first | with_reducible (first | assumption | apply KeptR.next | apply KeptR.ite | apply State.wmRequest_kept))

theorem execLog_kept {s0 : State} {x : Bool} {seq : Fin 65536} {sid : Word} {p : List Byte} {s : State} (hs : Kept s0 s) :
    KeptR s0 (execLog x seq sid p s) := by
  unfold execLog
  try dsimp only
  repeat' (first | with_reducible (first | assumption | apply KeptR.next | apply KeptR.ite | apply State.wmRequest_kept))

theorem execGunlock_kept {s0 : State} {x : Bool} {seq : Fin 65536} {sid : Word} {p : List Byte} {s : State} (hs : Kept s0 s) :
    KeptR s0 (execGunlock x seq sid p s) := by
  unfold execGunlock
  try dsimp only
  repeat' (first | with_reducible (first | assumption | apply KeptR.next | apply KeptR.ite | apply State.wmRequest_kept))

theorem State.mspReceive_kept {s0 : State} {s : State} {b : Byte} (hs : Kept s0 s) :
    Kept s0 (State.mspReceive s b) := by
  unfold State.mspReceive
  try dsimp only
  repeat' (first | with_reducible (first | assumption | apply Kept.ite_fst | apply Kept.ite | apply KeptC.of_state | apply KeptC.csr_set | apply KeptC.tags_put | apply KeptC.tags_drop | apply KeptC.out_append | apply State.wmRequest_kept) | simp only [Kept.mk_iff])

theorem State.wmCycle_kept {s0 : State} {s : State} (hs : Kept s0 s) :
    Kept s0 (State.wmCycle s) := by
  unfold State.wmCycle
  try dsimp only
  repeat' (first | with_reducible (first | assumption | apply Kept.ite_fst | apply Kept.ite | apply KeptO.none | apply KeptO.some_id | apply KeptO.some | apply KeptO.ite | apply State.wmRetry_kept | apply State.mspReceive_kept) | split)

theorem execMspGapTimeout_kept {s0 : State} {s : State} (hs : Kept s0 s) :
    KeptR s0 (execMspGapTimeout s) := by
  unfold execMspGapTimeout
  try dsimp only
  repeat' (first | with_reducible (first | assumption | apply KeptR.next | apply KeptR.ite | apply KeptC.of_state | apply KeptC.csr_set | apply KeptC.tags_put | apply KeptC.tags_drop | apply KeptC.out_append) | simp only [Kept.mk_iff])

theorem State.hostRequest_kept {s0 : State} {s : State} {guest : Guest} (hs : Kept s0 s) :
    Kept s0 (State.hostRequest s guest) := by
  unfold State.hostRequest
  try dsimp only
  repeat' (first | with_reducible (first | assumption | apply Kept.ite_fst | apply Kept.ite | apply State.wmRequest_kept))

theorem State.rspAck_kept {s0 : State} {s : State} (hs : Kept s0 s) :
    Kept s0 (State.rspAck s) := by
  unfold State.rspAck
  try dsimp only
  repeat' (first | with_reducible (first | assumption | apply KeptO.none | apply KeptO.some_id | apply KeptO.some | apply KeptO.ite | apply KeptC.of_state | apply KeptC.csr_set | apply KeptC.tags_put | apply KeptC.tags_drop | apply KeptC.out_append | apply State.lower_kept | apply State.wmAnswer_kept) | simp only [Kept.mk_iff] | split)

theorem State.evtAck_kept {s0 : State} {s : State} (hs : Kept s0 s) :
    Kept s0 (State.evtAck s) := by
  unfold State.evtAck
  try dsimp only
  repeat' (first | with_reducible (first | assumption | apply State.lower_kept | apply State.nextEvent_kept))

theorem State.writeWhc_kept {s0 : State} {s : State} {o : Nat} {v : Nat} {guest : Guest} (hs : Kept s0 s) :
    Kept s0 (State.writeWhc s o v guest) := by
  unfold State.writeWhc
  try dsimp only
  repeat' (first | with_reducible (first | assumption | apply Kept.ite_fst | apply Kept.ite | apply State.set_kept | apply State.hostRequest_kept | apply State.rspAck_kept | apply State.evtAck_kept))

theorem execWhcRequest_kept {s0 : State} {guest : Guest} {s : State} (hs : Kept s0 s) :
    KeptR s0 (execWhcRequest guest s) := by
  unfold execWhcRequest
  try dsimp only
  repeat' (first | with_reducible (first | assumption | apply KeptR.next | apply KeptR.ite | apply State.answer_kept | apply State.writeWhc_kept))

theorem execRspack_kept {s0 : State} {s : State} (hs : Kept s0 s) :
    KeptR s0 (execRspack s) := by
  unfold execRspack
  try dsimp only
  repeat' (first | with_reducible (first | assumption | apply KeptR.next | apply KeptR.ite | apply State.answer_kept | apply State.writeWhc_kept))

theorem execEvtack_kept {s0 : State} {s : State} (hs : Kept s0 s) :
    KeptR s0 (execEvtack s) := by
  unfold execEvtack
  try dsimp only
  repeat' (first | with_reducible (first | assumption | apply KeptR.next | apply KeptR.ite | apply State.answer_kept | apply State.writeWhc_kept))

theorem State.regWrite_kept {s0 : State} {s : State} {o : Nat} {bytes : List Byte} {src : Nat} {guest : Guest} (hs : Kept s0 s) :
    Kept s0 (State.regWrite s o bytes src guest).1 := by
  unfold State.regWrite
  try dsimp only
  repeat' (first | with_reducible (first | assumption | apply Kept.ite_fst | apply Kept.ite | apply State.csrWrite_kept | apply State.mailboxWrite_kept | apply State.writeWhc_kept) | dsimp only)

theorem execRegisterWrite_kept {s0 : State} {o : Fin 269484032} {bytes : List Byte} {src : Fin 4096} {guest : Guest} {s : State} (hs : Kept s0 s) :
    KeptR s0 (execRegisterWrite o bytes src guest s) := by
  unfold execRegisterWrite
  try dsimp only
  repeat' (first | with_reducible (first | assumption | apply KeptR.next | apply KeptR.ite | apply State.answer_kept | apply State.regWrite_kept))

end Sys2Proof.Machine
end

