-- ==== Sys2Proof/Laws/KeptClock.lean ====
section
/-! SUPPORT. What every operation and meaning of Machine/Clock.lean keeps (Laws/Kept.lean says what that is): one lemma for each. -/
set_option maxRecDepth 4000
set_option linter.unusedVariables false
namespace Sys2Proof.Machine

theorem State.netCycle_kept {s0 : State} {s : State} (hs : Kept s0 s) :
    Kept s0 (State.netCycle s) := by
  unfold State.netCycle
  try dsimp only
  repeat' (first | with_reducible (first | assumption | apply Kept.ite_fst | apply Kept.ite | apply State.settleNet_kept | apply State.pushHands_kept | apply State.countStalls_kept))

theorem State.cycle_kept {s0 : State} {s : State} (hs : Kept s0 s) :
    Kept s0 (State.cycle s) := by
  unfold State.cycle
  try dsimp only
  repeat' (first | with_reducible (first | assumption | apply Kept.ite_fst | apply Kept.ite | apply State.netCycle_kept | apply State.gaugeCycle_kept | apply State.fabCycle_kept | apply State.runTimer_kept | apply State.swapCycle_kept | apply State.tick_kept | apply State.ptpCycle_kept | apply State.lineCycle_kept | apply State.wmCycle_kept))

end Sys2Proof.Machine
end

