-- ==== Sys2Proof/Laws/KeptCxl.lean ====
section
/-! SUPPORT. What every operation and meaning of Machine/Cxl.lean keeps (Laws/Kept.lean says what that is): one lemma for each. -/
set_option maxRecDepth 4000
set_option linter.unusedVariables false
namespace Sys2Proof.Machine

theorem State.requests_kept {s0 : State} {s : State} {h : Hdr} {x2 : Nat} {x3 : List Req} (hs : Kept s0 s) :
    Kept s0 (State.requests s h x2 x3) := by
  revert hs
  induction x3 generalizing s h x2 with
  | nil =>
    intro hs; unfold State.requests; try dsimp only
    repeat' (first | with_reducible (first | assumption | apply State.request_kept) | split)
  | cons y l ih =>
    intro hs; unfold State.requests; try dsimp only
    repeat' (first | with_reducible (first | assumption | apply ih | apply State.request_kept) | split)

theorem State.refuseRead_kept {s0 : State} {s : State} (hs : Kept s0 s) :
    Kept s0 (State.refuseRead s) := by
  unfold State.refuseRead
  try dsimp only
  repeat' (first | with_reducible (first | assumption | apply KeptC.of_state | apply KeptC.csr_set | apply KeptC.tags_put | apply KeptC.tags_drop | apply KeptC.out_append) | simp only [Kept.mk_iff])

theorem State.refuseWrite_kept {s0 : State} {s : State} (hs : Kept s0 s) :
    Kept s0 (State.refuseWrite s) := by
  unfold State.refuseWrite
  try dsimp only
  repeat' (first | with_reducible (first | assumption | apply KeptC.of_state | apply KeptC.csr_set | apply KeptC.tags_put | apply KeptC.tags_drop | apply KeptC.out_append) | simp only [Kept.mk_iff])

theorem State.bar2Read_kept {s0 : State} {s : State} {x : Nat} {n : Nat} (hs : Kept s0 s) :
    Kept s0 (State.bar2Read s x n) := by
  unfold State.bar2Read
  try dsimp only
  repeat' (first | with_reducible (first | assumption | apply Kept.ite_fst | apply Kept.ite | apply State.refuseRead_kept | apply State.hostError_kept | apply State.answerData_kept))

theorem State.bar2Write_kept {s0 : State} {s : State} {x : Nat} {data : List Byte} (hs : Kept s0 s) :
    Kept s0 (State.bar2Write s x data) := by
  unfold State.bar2Write
  try dsimp only
  repeat' (first | with_reducible (first | assumption | apply Kept.ite_fst | apply Kept.ite | apply State.refuseWrite_kept | apply State.hostError_kept | apply State.answer_kept | apply State.regWrite_kept))

theorem execBar0Read_kept {s0 : State} {t : Fin 262144} {x : Fin 269484032} {len : Fin 4096} {h : Hdr} {s : State} (hs : Kept s0 s) :
    KeptR s0 (execBar0Read t x len h s) := by
  unfold execBar0Read
  try dsimp only
  repeat' (first | with_reducible (first | assumption | apply KeptR.next | apply KeptR.ite | apply Kept.ite_fst | apply Kept.ite | apply State.requests_kept | apply State.refuseRead_kept | apply State.bar2Read_kept | apply State.hostError_kept))

theorem execBar0Write_kept {s0 : State} {t : Fin 262144} {x : Fin 269484032} {data : List Byte} {h : Hdr} {s : State} (hs : Kept s0 s) :
    KeptR s0 (execBar0Write t x data h s) := by
  unfold execBar0Write
  try dsimp only
  repeat' (first | with_reducible (first | assumption | apply KeptR.next | apply KeptR.ite | apply Kept.ite_fst | apply Kept.ite | apply State.requests_kept | apply State.refuseWrite_kept | apply State.bar2Write_kept | apply State.hostError_kept) | split)

theorem execBar4Read_kept {s0 : State} {t : Fin 262144} {x : Fin 1073741824} {len : Fin 4096} {h : Hdr} {s : State} (hs : Kept s0 s) :
    KeptR s0 (execBar4Read t x len h s) := by
  unfold execBar4Read
  try dsimp only
  repeat' (first | with_reducible (first | assumption | apply KeptR.next | apply KeptR.ite | apply Kept.ite_fst | apply Kept.ite | apply State.requests_kept | apply State.refuseRead_kept))

theorem execBar4Write_kept {s0 : State} {x : Fin 1073741824} {data : List Byte} {h : Hdr} {s : State} (hs : Kept s0 s) :
    KeptR s0 (execBar4Write x data h s) := by
  unfold execBar4Write
  try dsimp only
  repeat' (first | with_reducible (first | assumption | apply KeptR.next | apply KeptR.ite | apply Kept.ite_fst | apply Kept.ite | apply State.requests_kept | apply State.refuseWrite_kept | apply State.answer_kept))

theorem State.memAccess_kept {s0 : State} {s : State} {r : Req} {t : Nat} {h : Hdr} (hs : Kept s0 s) :
    Kept s0 (State.memAccess s r t h) := by
  unfold State.memAccess
  try dsimp only
  repeat' (first | with_reducible (first | assumption | apply Kept.ite_fst | apply Kept.ite | apply KeptC.of_state | apply KeptC.csr_set | apply KeptC.tags_put | apply KeptC.tags_drop | apply KeptC.out_append | apply State.request_kept | apply State.hostError_kept) | simp only [Kept.mk_iff])

theorem execMemrd_kept {s0 : State} {t : Fin 262144} {l : Fin 2415919104} {h : Hdr} {s : State} (hs : Kept s0 s) :
    KeptR s0 (execMemrd t l h s) := by
  unfold execMemrd
  try dsimp only
  repeat' (first | with_reducible (first | assumption | apply KeptR.next | apply KeptR.ite | apply State.memAccess_kept))

theorem execMemwr_kept {s0 : State} {t : Fin 262144} {l : Fin 2415919104} {data : List Byte} {h : Hdr} {s : State} (hs : Kept s0 s) :
    KeptR s0 (execMemwr t l data h s) := by
  unfold execMemwr
  try dsimp only
  repeat' (first | with_reducible (first | assumption | apply KeptR.next | apply KeptR.ite | apply State.memAccess_kept))

end Sys2Proof.Machine
end

