-- ==== Sys2Proof/Laws/KeptRillMem.lean ====
section
/-! SUPPORT. What every operation and meaning of Machine/RillMem.lean keeps (Laws/Kept.lean says what that is): one lemma for each. -/
set_option maxRecDepth 4000
set_option linter.unusedVariables false
namespace Sys2Proof.Machine

theorem State.rilPerform_kept {s0 : State} {s : State} {g : Nat} {a : RilAcc} {guest : Guest} (hs : Kept s0 s) :
    Kept s0 (State.rilPerform s g a guest).1 := by
  unfold State.rilPerform
  try dsimp only
  repeat' (first | with_reducible (first | assumption | apply Kept.ite_fst | apply Kept.ite | apply State.netCsrRead_kept | apply State.netCsrWrite_kept | apply State.rsvDo_kept | apply State.netRead_kept | apply State.netStore_kept | apply State.netAtomic_kept | refine Kept.of_fst (by assumption) ?_) | split | dsimp only)

theorem State.rilLoaded_kept {s0 : State} {s : State} {g : Nat} {a : RilAcc} {data : List Byte} (hs : Kept s0 s) :
    Kept s0 (State.rilLoaded s g a data) := by
  unfold State.rilLoaded
  try dsimp only
  repeat' (first | with_reducible (first | assumption | apply Kept.ite_fst | apply Kept.ite | apply State.setEng_kept))

theorem State.rilReturn_kept {s0 : State} {s : State} {g : Nat} {k : Nat} {guest : Guest} (hs : Kept s0 s) :
    Kept s0 (State.rilReturn s g k guest) := by
  unfold State.rilReturn
  try dsimp only
  repeat' (first | with_reducible (first | assumption | apply Kept.ite_fst | apply Kept.ite | apply KeptO.none | apply KeptO.some_id | apply KeptO.some | apply KeptO.ite | apply State.setEng_kept | apply State.rset_kept | apply State.rilFault_kept | apply State.rilAfter_kept | apply State.rilPerform_kept | apply State.rilLoaded_kept | refine Kept.of_fst (by assumption) ?_) | split)

theorem execRillAccessReturn_kept {s0 : State} {g : EngId} {k : Fin 64} {guest : Guest} {s : State} (hs : Kept s0 s) :
    KeptR s0 (execRillAccessReturn g k guest s) := by
  unfold execRillAccessReturn
  try dsimp only
  repeat' (first | with_reducible (first | assumption | apply KeptR.next | apply KeptR.ite | apply Kept.ite_fst | apply Kept.ite | apply State.rilReturn_kept))

end Sys2Proof.Machine
end

