-- ==== Sys2Proof/Laws/KeptAll.lean ====
section
/-! SUPPORT. Every Kept file together. A command of the queue keeps what its meaning keeps; an empty queue gives a cycle. -/
namespace Sys2Proof.Machine

/-- The cycle that an empty queue gives keeps what a command keeps. -/
theorem cycle_kept (s : State) : Kept s s.cycle := State.cycle_kept (Kept.refl s)

end Sys2Proof.Machine
end

