-- ==== Sys2Proof/Laws/State.lean ====
section
/-! SUPPORT. Laws of the state: what each update of one part leaves of the others, and reading a register field after one is written. -/
namespace Sys2Proof.Machine

variable (s : State)

/-! What set leaves. -/
@[simp] theorem State.set_pending (f : Field) (v i j k : Nat) : (s.set f v i j k).pending = s.pending := rfl
@[simp] theorem State.set_part (f : Field) (v i j k : Nat) : (s.set f v i j k).part = s.part := rfl
@[simp] theorem State.set_ingress (f : Field) (v i j k : Nat) : (s.set f v i j k).ingress = s.ingress := rfl
@[simp] theorem State.set_owed (f : Field) (v i j k : Nat) : (s.set f v i j k).owed = s.owed := rfl
@[simp] theorem State.set_unaudited (f : Field) (v i j k : Nat) : (s.set f v i j k).unaudited = s.unaudited := rfl
@[simp] theorem State.set_served (f : Field) (v i j k : Nat) : (s.set f v i j k).served = s.served := rfl
@[simp] theorem State.set_qdrs (f : Field) (v i j k : Nat) : (s.set f v i j k).qdrs = s.qdrs := rfl
@[simp] theorem State.set_pipes (f : Field) (v i j k : Nat) : (s.set f v i j k).pipes = s.pipes := rfl
@[simp] theorem State.set_fabs (f : Field) (v i j k : Nat) : (s.set f v i j k).fabs = s.fabs := rfl
@[simp] theorem State.set_elapsed (f : Field) (v i j k : Nat) : (s.set f v i j k).elapsed = s.elapsed := rfl
@[simp] theorem State.set_settings (f : Field) (v i j k : Nat) : (s.set f v i j k).settings = s.settings := rfl
@[simp] theorem State.set_mem (f : Field) (v i j k : Nat) : (s.set f v i j k).mem = s.mem := rfl
@[simp] theorem State.set_resp (f : Field) (v i j k : Nat) : (s.set f v i j k).resp = s.resp := rfl
@[simp] theorem State.set_out (f : Field) (v i j k : Nat) : (s.set f v i j k).out = s.out := rfl
@[simp] theorem State.set_free (f : Field) (v i j k : Nat) : (s.set f v i j k).free = s.free := rfl
@[simp] theorem State.set_ledg (f : Field) (v i j k : Nat) : (s.set f v i j k).ledg = s.ledg := rfl
@[simp] theorem State.set_events (f : Field) (v i j k : Nat) : (s.set f v i j k).events = s.events := rfl
@[simp] theorem State.set_evSeq (f : Field) (v i j k : Nat) : (s.set f v i j k).evSeq = s.evSeq := rfl
@[simp] theorem State.set_evBook (f : Field) (v i j k : Nat) : (s.set f v i j k).evBook = s.evBook := rfl
@[simp] theorem State.set_cxl (f : Field) (v i j k : Nat) : (s.set f v i j k).cxl = s.cxl := rfl
@[simp] theorem State.set_copy (f : Field) (v i j k : Nat) : (s.set f v i j k).copy = s.copy := rfl
@[simp] theorem State.set_time (f : Field) (v i j k : Nat) : (s.set f v i j k).time = s.time := rfl
@[simp] theorem State.set_slaves (f : Field) (v i j k : Nat) : (s.set f v i j k).slaves = s.slaves := rfl
@[simp] theorem State.set_lanes (f : Field) (v i j k : Nat) : (s.set f v i j k).lanes = s.lanes := rfl
@[simp] theorem State.set_ports (f : Field) (v i j k : Nat) : (s.set f v i j k).ports = s.ports := rfl
@[simp] theorem State.set_fields (f : Field) (v i j k : Nat) : (s.set f v i j k).fields = s.fields := rfl
@[simp] theorem State.set_chan (f : Field) (v i j k : Nat) : (s.set f v i j k).chan = s.chan := rfl
@[simp] theorem State.set_furs (f : Field) (v i j k : Nat) : (s.set f v i j k).furs = s.furs := rfl
@[simp] theorem State.set_chk (f : Field) (v i j k : Nat) : (s.set f v i j k).chk = s.chk := rfl
@[simp] theorem State.set_fog (f : Field) (v i j k : Nat) : (s.set f v i j k).fog = s.fog := rfl
@[simp] theorem State.set_tags (f : Field) (v i j k : Nat) : (s.set f v i j k).tags = s.tags := rfl
@[simp] theorem State.set_nextOrd (f : Field) (v i j k : Nat) : (s.set f v i j k).nextOrd = s.nextOrd := rfl
@[simp] theorem State.set_waiting (f : Field) (v i j k : Nat) : (s.set f v i j k).waiting = s.waiting := rfl
@[simp] theorem State.set_remain (f : Field) (v i j k : Nat) : (s.set f v i j k).remain = s.remain := rfl
@[simp] theorem State.set_upSpent (f : Field) (v i j k : Nat) : (s.set f v i j k).upSpent = s.upSpent := rfl
@[simp] theorem State.set_walk (f : Field) (v i j k : Nat) : (s.set f v i j k).walk = s.walk := rfl
@[simp] theorem State.set_walkTag (f : Field) (v i j k : Nat) : (s.set f v i j k).walkTag = s.walkTag := rfl
@[simp] theorem State.set_pcs (f : Field) (v i j k : Nat) : (s.set f v i j k).pcs = s.pcs := rfl
@[simp] theorem State.set_hmcs (f : Field) (v i j k : Nat) : (s.set f v i j k).hmcs = s.hmcs := rfl
@[simp] theorem State.set_walkers (f : Field) (v i j k : Nat) : (s.set f v i j k).walkers = s.walkers := rfl
@[simp] theorem State.set_ranges (f : Field) (v i j k : Nat) : (s.set f v i j k).ranges = s.ranges := rfl
@[simp] theorem State.set_autoInit (f : Field) (v i j k : Nat) : (s.set f v i j k).autoInit = s.autoInit := rfl
@[simp] theorem State.set_resv (f : Field) (v i j k : Nat) : (s.set f v i j k).resv = s.resv := rfl
@[simp] theorem State.set_basins (f : Field) (v i j k : Nat) : (s.set f v i j k).basins = s.basins := rfl
@[simp] theorem State.set_xbar (f : Field) (v i j k : Nat) : (s.set f v i j k).xbar = s.xbar := rfl
@[simp] theorem State.set_code (f : Field) (v i j k : Nat) : (s.set f v i j k).code = s.code := rfl
@[simp] theorem State.set_stores (f : Field) (v i j k : Nat) : (s.set f v i j k).stores = s.stores := rfl
@[simp] theorem State.set_mods (f : Field) (v i j k : Nat) : (s.set f v i j k).mods = s.mods := rfl
@[simp] theorem State.set_turns (f : Field) (v i j k : Nat) : (s.set f v i j k).turns = s.turns := rfl
@[simp] theorem State.set_swaps (f : Field) (v i j k : Nat) : (s.set f v i j k).swaps = s.swaps := rfl
@[simp] theorem State.set_boot (f : Field) (v i j k : Nat) : (s.set f v i j k).boot = s.boot := rfl
@[simp] theorem State.set_upd (f : Field) (v i j k : Nat) : (s.set f v i j k).upd = s.upd := rfl
@[simp] theorem State.set_pow (f : Field) (v i j k : Nat) : (s.set f v i j k).pow = s.pow := rfl
@[simp] theorem State.set_engs (f : Field) (v i j k : Nat) : (s.set f v i j k).engs = s.engs := rfl
@[simp] theorem State.set_patchRam (f : Field) (v i j k : Nat) : (s.set f v i j k).patchRam = s.patchRam := rfl
@[simp] theorem State.set_loaders (f : Field) (v i j k : Nat) : (s.set f v i j k).loaders = s.loaders := rfl
@[simp] theorem State.set_rings (f : Field) (v i j k : Nat) : (s.set f v i j k).rings = s.rings := rfl
@[simp] theorem State.set_cfes (f : Field) (v i j k : Nat) : (s.set f v i j k).cfes = s.cfes := rfl
@[simp] theorem State.set_cists (f : Field) (v i j k : Nat) : (s.set f v i j k).cists = s.cists := rfl
@[simp] theorem State.set_closed (f : Field) (v i j k : Nat) : (s.set f v i j k).closed = s.closed := rfl
@[simp] theorem State.set_nextClosed (f : Field) (v i j k : Nat) : (s.set f v i j k).nextClosed = s.nextClosed := rfl
@[simp] theorem State.set_draining (f : Field) (v i j k : Nat) : (s.set f v i j k).draining = s.draining := rfl
@[simp] theorem State.set_flt (f : Field) (v i j k : Nat) : (s.set f v i j k).flt = s.flt := rfl
@[simp] theorem State.set_wm (f : Field) (v i j k : Nat) : (s.set f v i j k).wm = s.wm := rfl
@[simp] theorem State.set_gau (f : Field) (v i j k : Nat) : (s.set f v i j k).gau = s.gau := rfl
@[simp] theorem State.set_tap (f : Field) (v i j k : Nat) : (s.set f v i j k).tap = s.tap := rfl

/-! What emit leaves. -/
@[simp] theorem State.emit_pending (o : Out) : (s.emit o).pending = s.pending := rfl
@[simp] theorem State.emit_part (o : Out) : (s.emit o).part = s.part := rfl
@[simp] theorem State.emit_ingress (o : Out) : (s.emit o).ingress = s.ingress := rfl
@[simp] theorem State.emit_owed (o : Out) : (s.emit o).owed = s.owed := rfl
@[simp] theorem State.emit_unaudited (o : Out) : (s.emit o).unaudited = s.unaudited := rfl
@[simp] theorem State.emit_served (o : Out) : (s.emit o).served = s.served := rfl
@[simp] theorem State.emit_qdrs (o : Out) : (s.emit o).qdrs = s.qdrs := rfl
@[simp] theorem State.emit_pipes (o : Out) : (s.emit o).pipes = s.pipes := rfl
@[simp] theorem State.emit_fabs (o : Out) : (s.emit o).fabs = s.fabs := rfl
@[simp] theorem State.emit_elapsed (o : Out) : (s.emit o).elapsed = s.elapsed := rfl
@[simp] theorem State.emit_csr (o : Out) : (s.emit o).csr = s.csr := rfl
@[simp] theorem State.emit_settings (o : Out) : (s.emit o).settings = s.settings := rfl
@[simp] theorem State.emit_mem (o : Out) : (s.emit o).mem = s.mem := rfl
@[simp] theorem State.emit_resp (o : Out) : (s.emit o).resp = s.resp := rfl
@[simp] theorem State.emit_free (o : Out) : (s.emit o).free = s.free := rfl
@[simp] theorem State.emit_ledg (o : Out) : (s.emit o).ledg = s.ledg := rfl
@[simp] theorem State.emit_events (o : Out) : (s.emit o).events = s.events := rfl
@[simp] theorem State.emit_evSeq (o : Out) : (s.emit o).evSeq = s.evSeq := rfl
@[simp] theorem State.emit_evBook (o : Out) : (s.emit o).evBook = s.evBook := rfl
@[simp] theorem State.emit_cxl (o : Out) : (s.emit o).cxl = s.cxl := rfl
@[simp] theorem State.emit_copy (o : Out) : (s.emit o).copy = s.copy := rfl
@[simp] theorem State.emit_time (o : Out) : (s.emit o).time = s.time := rfl
@[simp] theorem State.emit_slaves (o : Out) : (s.emit o).slaves = s.slaves := rfl
@[simp] theorem State.emit_lanes (o : Out) : (s.emit o).lanes = s.lanes := rfl
@[simp] theorem State.emit_ports (o : Out) : (s.emit o).ports = s.ports := rfl
@[simp] theorem State.emit_fields (o : Out) : (s.emit o).fields = s.fields := rfl
@[simp] theorem State.emit_chan (o : Out) : (s.emit o).chan = s.chan := rfl
@[simp] theorem State.emit_furs (o : Out) : (s.emit o).furs = s.furs := rfl
@[simp] theorem State.emit_chk (o : Out) : (s.emit o).chk = s.chk := rfl
@[simp] theorem State.emit_fog (o : Out) : (s.emit o).fog = s.fog := rfl
@[simp] theorem State.emit_tags (o : Out) : (s.emit o).tags = s.tags := rfl
@[simp] theorem State.emit_nextOrd (o : Out) : (s.emit o).nextOrd = s.nextOrd := rfl
@[simp] theorem State.emit_waiting (o : Out) : (s.emit o).waiting = s.waiting := rfl
@[simp] theorem State.emit_remain (o : Out) : (s.emit o).remain = s.remain := rfl
@[simp] theorem State.emit_upSpent (o : Out) : (s.emit o).upSpent = s.upSpent := rfl
@[simp] theorem State.emit_walk (o : Out) : (s.emit o).walk = s.walk := rfl
@[simp] theorem State.emit_walkTag (o : Out) : (s.emit o).walkTag = s.walkTag := rfl
@[simp] theorem State.emit_pcs (o : Out) : (s.emit o).pcs = s.pcs := rfl
@[simp] theorem State.emit_hmcs (o : Out) : (s.emit o).hmcs = s.hmcs := rfl
@[simp] theorem State.emit_walkers (o : Out) : (s.emit o).walkers = s.walkers := rfl
@[simp] theorem State.emit_ranges (o : Out) : (s.emit o).ranges = s.ranges := rfl
@[simp] theorem State.emit_autoInit (o : Out) : (s.emit o).autoInit = s.autoInit := rfl
@[simp] theorem State.emit_resv (o : Out) : (s.emit o).resv = s.resv := rfl
@[simp] theorem State.emit_basins (o : Out) : (s.emit o).basins = s.basins := rfl
@[simp] theorem State.emit_xbar (o : Out) : (s.emit o).xbar = s.xbar := rfl
@[simp] theorem State.emit_code (o : Out) : (s.emit o).code = s.code := rfl
@[simp] theorem State.emit_stores (o : Out) : (s.emit o).stores = s.stores := rfl
@[simp] theorem State.emit_mods (o : Out) : (s.emit o).mods = s.mods := rfl
@[simp] theorem State.emit_turns (o : Out) : (s.emit o).turns = s.turns := rfl
@[simp] theorem State.emit_swaps (o : Out) : (s.emit o).swaps = s.swaps := rfl
@[simp] theorem State.emit_boot (o : Out) : (s.emit o).boot = s.boot := rfl
@[simp] theorem State.emit_upd (o : Out) : (s.emit o).upd = s.upd := rfl
@[simp] theorem State.emit_pow (o : Out) : (s.emit o).pow = s.pow := rfl
@[simp] theorem State.emit_engs (o : Out) : (s.emit o).engs = s.engs := rfl
@[simp] theorem State.emit_patchRam (o : Out) : (s.emit o).patchRam = s.patchRam := rfl
@[simp] theorem State.emit_loaders (o : Out) : (s.emit o).loaders = s.loaders := rfl
@[simp] theorem State.emit_rings (o : Out) : (s.emit o).rings = s.rings := rfl
@[simp] theorem State.emit_cfes (o : Out) : (s.emit o).cfes = s.cfes := rfl
@[simp] theorem State.emit_cists (o : Out) : (s.emit o).cists = s.cists := rfl
@[simp] theorem State.emit_closed (o : Out) : (s.emit o).closed = s.closed := rfl
@[simp] theorem State.emit_nextClosed (o : Out) : (s.emit o).nextClosed = s.nextClosed := rfl
@[simp] theorem State.emit_draining (o : Out) : (s.emit o).draining = s.draining := rfl
@[simp] theorem State.emit_flt (o : Out) : (s.emit o).flt = s.flt := rfl
@[simp] theorem State.emit_wm (o : Out) : (s.emit o).wm = s.wm := rfl
@[simp] theorem State.emit_gau (o : Out) : (s.emit o).gau = s.gau := rfl
@[simp] theorem State.emit_tap (o : Out) : (s.emit o).tap = s.tap := rfl
@[simp] theorem State.get_emit (o : Out) (f' : Field) (i' j' k' : Nat) : (s.emit o).get f' i' j' k' = s.get f' i' j' k' := rfl

/-! What answer leaves. -/
@[simp] theorem State.answer_pending (st : RStat) : (s.answer st).pending = s.pending := rfl
@[simp] theorem State.answer_part (st : RStat) : (s.answer st).part = s.part := rfl
@[simp] theorem State.answer_ingress (st : RStat) : (s.answer st).ingress = s.ingress := rfl
@[simp] theorem State.answer_owed (st : RStat) : (s.answer st).owed = s.owed := rfl
@[simp] theorem State.answer_unaudited (st : RStat) : (s.answer st).unaudited = s.unaudited := rfl
@[simp] theorem State.answer_served (st : RStat) : (s.answer st).served = s.served := rfl
@[simp] theorem State.answer_qdrs (st : RStat) : (s.answer st).qdrs = s.qdrs := rfl
@[simp] theorem State.answer_pipes (st : RStat) : (s.answer st).pipes = s.pipes := rfl
@[simp] theorem State.answer_fabs (st : RStat) : (s.answer st).fabs = s.fabs := rfl
@[simp] theorem State.answer_elapsed (st : RStat) : (s.answer st).elapsed = s.elapsed := rfl
@[simp] theorem State.answer_csr (st : RStat) : (s.answer st).csr = s.csr := rfl
@[simp] theorem State.answer_settings (st : RStat) : (s.answer st).settings = s.settings := rfl
@[simp] theorem State.answer_mem (st : RStat) : (s.answer st).mem = s.mem := rfl
@[simp] theorem State.answer_out (st : RStat) : (s.answer st).out = s.out := rfl
@[simp] theorem State.answer_free (st : RStat) : (s.answer st).free = s.free := rfl
@[simp] theorem State.answer_ledg (st : RStat) : (s.answer st).ledg = s.ledg := rfl
@[simp] theorem State.answer_events (st : RStat) : (s.answer st).events = s.events := rfl
@[simp] theorem State.answer_evSeq (st : RStat) : (s.answer st).evSeq = s.evSeq := rfl
@[simp] theorem State.answer_evBook (st : RStat) : (s.answer st).evBook = s.evBook := rfl
@[simp] theorem State.answer_cxl (st : RStat) : (s.answer st).cxl = s.cxl := rfl
@[simp] theorem State.answer_copy (st : RStat) : (s.answer st).copy = s.copy := rfl
@[simp] theorem State.answer_time (st : RStat) : (s.answer st).time = s.time := rfl
@[simp] theorem State.answer_slaves (st : RStat) : (s.answer st).slaves = s.slaves := rfl
@[simp] theorem State.answer_lanes (st : RStat) : (s.answer st).lanes = s.lanes := rfl
@[simp] theorem State.answer_ports (st : RStat) : (s.answer st).ports = s.ports := rfl
@[simp] theorem State.answer_fields (st : RStat) : (s.answer st).fields = s.fields := rfl
@[simp] theorem State.answer_chan (st : RStat) : (s.answer st).chan = s.chan := rfl
@[simp] theorem State.answer_furs (st : RStat) : (s.answer st).furs = s.furs := rfl
@[simp] theorem State.answer_chk (st : RStat) : (s.answer st).chk = s.chk := rfl
@[simp] theorem State.answer_fog (st : RStat) : (s.answer st).fog = s.fog := rfl
@[simp] theorem State.answer_tags (st : RStat) : (s.answer st).tags = s.tags := rfl
@[simp] theorem State.answer_nextOrd (st : RStat) : (s.answer st).nextOrd = s.nextOrd := rfl
@[simp] theorem State.answer_waiting (st : RStat) : (s.answer st).waiting = s.waiting := rfl
@[simp] theorem State.answer_remain (st : RStat) : (s.answer st).remain = s.remain := rfl
@[simp] theorem State.answer_upSpent (st : RStat) : (s.answer st).upSpent = s.upSpent := rfl
@[simp] theorem State.answer_walk (st : RStat) : (s.answer st).walk = s.walk := rfl
@[simp] theorem State.answer_walkTag (st : RStat) : (s.answer st).walkTag = s.walkTag := rfl
@[simp] theorem State.answer_pcs (st : RStat) : (s.answer st).pcs = s.pcs := rfl
@[simp] theorem State.answer_hmcs (st : RStat) : (s.answer st).hmcs = s.hmcs := rfl
@[simp] theorem State.answer_walkers (st : RStat) : (s.answer st).walkers = s.walkers := rfl
@[simp] theorem State.answer_ranges (st : RStat) : (s.answer st).ranges = s.ranges := rfl
@[simp] theorem State.answer_autoInit (st : RStat) : (s.answer st).autoInit = s.autoInit := rfl
@[simp] theorem State.answer_resv (st : RStat) : (s.answer st).resv = s.resv := rfl
@[simp] theorem State.answer_basins (st : RStat) : (s.answer st).basins = s.basins := rfl
@[simp] theorem State.answer_xbar (st : RStat) : (s.answer st).xbar = s.xbar := rfl
@[simp] theorem State.answer_code (st : RStat) : (s.answer st).code = s.code := rfl
@[simp] theorem State.answer_stores (st : RStat) : (s.answer st).stores = s.stores := rfl
@[simp] theorem State.answer_mods (st : RStat) : (s.answer st).mods = s.mods := rfl
@[simp] theorem State.answer_turns (st : RStat) : (s.answer st).turns = s.turns := rfl
@[simp] theorem State.answer_swaps (st : RStat) : (s.answer st).swaps = s.swaps := rfl
@[simp] theorem State.answer_boot (st : RStat) : (s.answer st).boot = s.boot := rfl
@[simp] theorem State.answer_upd (st : RStat) : (s.answer st).upd = s.upd := rfl
@[simp] theorem State.answer_pow (st : RStat) : (s.answer st).pow = s.pow := rfl
@[simp] theorem State.answer_engs (st : RStat) : (s.answer st).engs = s.engs := rfl
@[simp] theorem State.answer_patchRam (st : RStat) : (s.answer st).patchRam = s.patchRam := rfl
@[simp] theorem State.answer_loaders (st : RStat) : (s.answer st).loaders = s.loaders := rfl
@[simp] theorem State.answer_rings (st : RStat) : (s.answer st).rings = s.rings := rfl
@[simp] theorem State.answer_cfes (st : RStat) : (s.answer st).cfes = s.cfes := rfl
@[simp] theorem State.answer_cists (st : RStat) : (s.answer st).cists = s.cists := rfl
@[simp] theorem State.answer_closed (st : RStat) : (s.answer st).closed = s.closed := rfl
@[simp] theorem State.answer_nextClosed (st : RStat) : (s.answer st).nextClosed = s.nextClosed := rfl
@[simp] theorem State.answer_draining (st : RStat) : (s.answer st).draining = s.draining := rfl
@[simp] theorem State.answer_flt (st : RStat) : (s.answer st).flt = s.flt := rfl
@[simp] theorem State.answer_wm (st : RStat) : (s.answer st).wm = s.wm := rfl
@[simp] theorem State.answer_gau (st : RStat) : (s.answer st).gau = s.gau := rfl
@[simp] theorem State.answer_tap (st : RStat) : (s.answer st).tap = s.tap := rfl
@[simp] theorem State.get_answer (st : RStat) (f' : Field) (i' j' k' : Nat) : (s.answer st).get f' i' j' k' = s.get f' i' j' k' := rfl

/-! What answerData leaves. -/
@[simp] theorem State.answerData_pending (d : List Byte) : (s.answerData d).pending = s.pending := rfl
@[simp] theorem State.answerData_part (d : List Byte) : (s.answerData d).part = s.part := rfl
@[simp] theorem State.answerData_ingress (d : List Byte) : (s.answerData d).ingress = s.ingress := rfl
@[simp] theorem State.answerData_owed (d : List Byte) : (s.answerData d).owed = s.owed := rfl
@[simp] theorem State.answerData_unaudited (d : List Byte) : (s.answerData d).unaudited = s.unaudited := rfl
@[simp] theorem State.answerData_served (d : List Byte) : (s.answerData d).served = s.served := rfl
@[simp] theorem State.answerData_qdrs (d : List Byte) : (s.answerData d).qdrs = s.qdrs := rfl
@[simp] theorem State.answerData_pipes (d : List Byte) : (s.answerData d).pipes = s.pipes := rfl
@[simp] theorem State.answerData_fabs (d : List Byte) : (s.answerData d).fabs = s.fabs := rfl
@[simp] theorem State.answerData_elapsed (d : List Byte) : (s.answerData d).elapsed = s.elapsed := rfl
@[simp] theorem State.answerData_csr (d : List Byte) : (s.answerData d).csr = s.csr := rfl
@[simp] theorem State.answerData_settings (d : List Byte) : (s.answerData d).settings = s.settings := rfl
@[simp] theorem State.answerData_mem (d : List Byte) : (s.answerData d).mem = s.mem := rfl
@[simp] theorem State.answerData_out (d : List Byte) : (s.answerData d).out = s.out := rfl
@[simp] theorem State.answerData_free (d : List Byte) : (s.answerData d).free = s.free := rfl
@[simp] theorem State.answerData_ledg (d : List Byte) : (s.answerData d).ledg = s.ledg := rfl
@[simp] theorem State.answerData_events (d : List Byte) : (s.answerData d).events = s.events := rfl
@[simp] theorem State.answerData_evSeq (d : List Byte) : (s.answerData d).evSeq = s.evSeq := rfl
@[simp] theorem State.answerData_evBook (d : List Byte) : (s.answerData d).evBook = s.evBook := rfl
@[simp] theorem State.answerData_cxl (d : List Byte) : (s.answerData d).cxl = s.cxl := rfl
@[simp] theorem State.answerData_copy (d : List Byte) : (s.answerData d).copy = s.copy := rfl
@[simp] theorem State.answerData_time (d : List Byte) : (s.answerData d).time = s.time := rfl
@[simp] theorem State.answerData_slaves (d : List Byte) : (s.answerData d).slaves = s.slaves := rfl
@[simp] theorem State.answerData_lanes (d : List Byte) : (s.answerData d).lanes = s.lanes := rfl
@[simp] theorem State.answerData_ports (d : List Byte) : (s.answerData d).ports = s.ports := rfl
@[simp] theorem State.answerData_fields (d : List Byte) : (s.answerData d).fields = s.fields := rfl
@[simp] theorem State.answerData_chan (d : List Byte) : (s.answerData d).chan = s.chan := rfl
@[simp] theorem State.answerData_furs (d : List Byte) : (s.answerData d).furs = s.furs := rfl
@[simp] theorem State.answerData_chk (d : List Byte) : (s.answerData d).chk = s.chk := rfl
@[simp] theorem State.answerData_fog (d : List Byte) : (s.answerData d).fog = s.fog := rfl
@[simp] theorem State.answerData_tags (d : List Byte) : (s.answerData d).tags = s.tags := rfl
@[simp] theorem State.answerData_nextOrd (d : List Byte) : (s.answerData d).nextOrd = s.nextOrd := rfl
@[simp] theorem State.answerData_waiting (d : List Byte) : (s.answerData d).waiting = s.waiting := rfl
@[simp] theorem State.answerData_remain (d : List Byte) : (s.answerData d).remain = s.remain := rfl
@[simp] theorem State.answerData_upSpent (d : List Byte) : (s.answerData d).upSpent = s.upSpent := rfl
@[simp] theorem State.answerData_walk (d : List Byte) : (s.answerData d).walk = s.walk := rfl
@[simp] theorem State.answerData_walkTag (d : List Byte) : (s.answerData d).walkTag = s.walkTag := rfl
@[simp] theorem State.answerData_pcs (d : List Byte) : (s.answerData d).pcs = s.pcs := rfl
@[simp] theorem State.answerData_hmcs (d : List Byte) : (s.answerData d).hmcs = s.hmcs := rfl
@[simp] theorem State.answerData_walkers (d : List Byte) : (s.answerData d).walkers = s.walkers := rfl
@[simp] theorem State.answerData_ranges (d : List Byte) : (s.answerData d).ranges = s.ranges := rfl
@[simp] theorem State.answerData_autoInit (d : List Byte) : (s.answerData d).autoInit = s.autoInit := rfl
@[simp] theorem State.answerData_resv (d : List Byte) : (s.answerData d).resv = s.resv := rfl
@[simp] theorem State.answerData_basins (d : List Byte) : (s.answerData d).basins = s.basins := rfl
@[simp] theorem State.answerData_xbar (d : List Byte) : (s.answerData d).xbar = s.xbar := rfl
@[simp] theorem State.answerData_code (d : List Byte) : (s.answerData d).code = s.code := rfl
@[simp] theorem State.answerData_stores (d : List Byte) : (s.answerData d).stores = s.stores := rfl
@[simp] theorem State.answerData_mods (d : List Byte) : (s.answerData d).mods = s.mods := rfl
@[simp] theorem State.answerData_turns (d : List Byte) : (s.answerData d).turns = s.turns := rfl
@[simp] theorem State.answerData_swaps (d : List Byte) : (s.answerData d).swaps = s.swaps := rfl
@[simp] theorem State.answerData_boot (d : List Byte) : (s.answerData d).boot = s.boot := rfl
@[simp] theorem State.answerData_upd (d : List Byte) : (s.answerData d).upd = s.upd := rfl
@[simp] theorem State.answerData_pow (d : List Byte) : (s.answerData d).pow = s.pow := rfl
@[simp] theorem State.answerData_engs (d : List Byte) : (s.answerData d).engs = s.engs := rfl
@[simp] theorem State.answerData_patchRam (d : List Byte) : (s.answerData d).patchRam = s.patchRam := rfl
@[simp] theorem State.answerData_loaders (d : List Byte) : (s.answerData d).loaders = s.loaders := rfl
@[simp] theorem State.answerData_rings (d : List Byte) : (s.answerData d).rings = s.rings := rfl
@[simp] theorem State.answerData_cfes (d : List Byte) : (s.answerData d).cfes = s.cfes := rfl
@[simp] theorem State.answerData_cists (d : List Byte) : (s.answerData d).cists = s.cists := rfl
@[simp] theorem State.answerData_closed (d : List Byte) : (s.answerData d).closed = s.closed := rfl
@[simp] theorem State.answerData_nextClosed (d : List Byte) : (s.answerData d).nextClosed = s.nextClosed := rfl
@[simp] theorem State.answerData_draining (d : List Byte) : (s.answerData d).draining = s.draining := rfl
@[simp] theorem State.answerData_flt (d : List Byte) : (s.answerData d).flt = s.flt := rfl
@[simp] theorem State.answerData_wm (d : List Byte) : (s.answerData d).wm = s.wm := rfl
@[simp] theorem State.answerData_gau (d : List Byte) : (s.answerData d).gau = s.gau := rfl
@[simp] theorem State.answerData_tap (d : List Byte) : (s.answerData d).tap = s.tap := rfl
@[simp] theorem State.get_answerData (d : List Byte) (f' : Field) (i' j' k' : Nat) : (s.answerData d).get f' i' j' k' = s.get f' i' j' k' := rfl

/-! What used leaves. -/
@[simp] theorem State.used_pending  : (s.used).pending = s.pending := rfl
@[simp] theorem State.used_part  : (s.used).part = s.part := rfl
@[simp] theorem State.used_ingress  : (s.used).ingress = s.ingress := rfl
@[simp] theorem State.used_owed  : (s.used).owed = s.owed := rfl
@[simp] theorem State.used_unaudited  : (s.used).unaudited = s.unaudited := rfl
@[simp] theorem State.used_served  : (s.used).served = s.served := rfl
@[simp] theorem State.used_qdrs  : (s.used).qdrs = s.qdrs := rfl
@[simp] theorem State.used_pipes  : (s.used).pipes = s.pipes := rfl
@[simp] theorem State.used_fabs  : (s.used).fabs = s.fabs := rfl
@[simp] theorem State.used_elapsed  : (s.used).elapsed = s.elapsed := rfl
@[simp] theorem State.used_csr  : (s.used).csr = s.csr := rfl
@[simp] theorem State.used_settings  : (s.used).settings = s.settings := rfl
@[simp] theorem State.used_mem  : (s.used).mem = s.mem := rfl
@[simp] theorem State.used_resp  : (s.used).resp = s.resp := rfl
@[simp] theorem State.used_out  : (s.used).out = s.out := rfl
@[simp] theorem State.used_ledg  : (s.used).ledg = s.ledg := rfl
@[simp] theorem State.used_events  : (s.used).events = s.events := rfl
@[simp] theorem State.used_evSeq  : (s.used).evSeq = s.evSeq := rfl
@[simp] theorem State.used_evBook  : (s.used).evBook = s.evBook := rfl
@[simp] theorem State.used_cxl  : (s.used).cxl = s.cxl := rfl
@[simp] theorem State.used_copy  : (s.used).copy = s.copy := rfl
@[simp] theorem State.used_time  : (s.used).time = s.time := rfl
@[simp] theorem State.used_slaves  : (s.used).slaves = s.slaves := rfl
@[simp] theorem State.used_lanes  : (s.used).lanes = s.lanes := rfl
@[simp] theorem State.used_ports  : (s.used).ports = s.ports := rfl
@[simp] theorem State.used_fields  : (s.used).fields = s.fields := rfl
@[simp] theorem State.used_chan  : (s.used).chan = s.chan := rfl
@[simp] theorem State.used_furs  : (s.used).furs = s.furs := rfl
@[simp] theorem State.used_chk  : (s.used).chk = s.chk := rfl
@[simp] theorem State.used_fog  : (s.used).fog = s.fog := rfl
@[simp] theorem State.used_tags  : (s.used).tags = s.tags := rfl
@[simp] theorem State.used_nextOrd  : (s.used).nextOrd = s.nextOrd := rfl
@[simp] theorem State.used_waiting  : (s.used).waiting = s.waiting := rfl
@[simp] theorem State.used_remain  : (s.used).remain = s.remain := rfl
@[simp] theorem State.used_upSpent  : (s.used).upSpent = s.upSpent := rfl
@[simp] theorem State.used_walk  : (s.used).walk = s.walk := rfl
@[simp] theorem State.used_walkTag  : (s.used).walkTag = s.walkTag := rfl
@[simp] theorem State.used_pcs  : (s.used).pcs = s.pcs := rfl
@[simp] theorem State.used_hmcs  : (s.used).hmcs = s.hmcs := rfl
@[simp] theorem State.used_walkers  : (s.used).walkers = s.walkers := rfl
@[simp] theorem State.used_ranges  : (s.used).ranges = s.ranges := rfl
@[simp] theorem State.used_autoInit  : (s.used).autoInit = s.autoInit := rfl
@[simp] theorem State.used_resv  : (s.used).resv = s.resv := rfl
@[simp] theorem State.used_basins  : (s.used).basins = s.basins := rfl
@[simp] theorem State.used_xbar  : (s.used).xbar = s.xbar := rfl
@[simp] theorem State.used_code  : (s.used).code = s.code := rfl
@[simp] theorem State.used_stores  : (s.used).stores = s.stores := rfl
@[simp] theorem State.used_mods  : (s.used).mods = s.mods := rfl
@[simp] theorem State.used_turns  : (s.used).turns = s.turns := rfl
@[simp] theorem State.used_swaps  : (s.used).swaps = s.swaps := rfl
@[simp] theorem State.used_boot  : (s.used).boot = s.boot := rfl
@[simp] theorem State.used_upd  : (s.used).upd = s.upd := rfl
@[simp] theorem State.used_pow  : (s.used).pow = s.pow := rfl
@[simp] theorem State.used_engs  : (s.used).engs = s.engs := rfl
@[simp] theorem State.used_patchRam  : (s.used).patchRam = s.patchRam := rfl
@[simp] theorem State.used_loaders  : (s.used).loaders = s.loaders := rfl
@[simp] theorem State.used_rings  : (s.used).rings = s.rings := rfl
@[simp] theorem State.used_cfes  : (s.used).cfes = s.cfes := rfl
@[simp] theorem State.used_cists  : (s.used).cists = s.cists := rfl
@[simp] theorem State.used_closed  : (s.used).closed = s.closed := rfl
@[simp] theorem State.used_nextClosed  : (s.used).nextClosed = s.nextClosed := rfl
@[simp] theorem State.used_draining  : (s.used).draining = s.draining := rfl
@[simp] theorem State.used_flt  : (s.used).flt = s.flt := rfl
@[simp] theorem State.used_wm  : (s.used).wm = s.wm := rfl
@[simp] theorem State.used_gau  : (s.used).gau = s.gau := rfl
@[simp] theorem State.used_tap  : (s.used).tap = s.tap := rfl
@[simp] theorem State.get_used  (f' : Field) (i' j' k' : Nat) : (s.used).get f' i' j' k' = s.get f' i' j' k' := rfl

/-! What setByte leaves. -/
@[simp] theorem State.setByte_pending (a : Nat) (b : Byte) : (s.setByte a b).pending = s.pending := rfl
@[simp] theorem State.setByte_part (a : Nat) (b : Byte) : (s.setByte a b).part = s.part := rfl
@[simp] theorem State.setByte_ingress (a : Nat) (b : Byte) : (s.setByte a b).ingress = s.ingress := rfl
@[simp] theorem State.setByte_owed (a : Nat) (b : Byte) : (s.setByte a b).owed = s.owed := rfl
@[simp] theorem State.setByte_unaudited (a : Nat) (b : Byte) : (s.setByte a b).unaudited = s.unaudited := rfl
@[simp] theorem State.setByte_served (a : Nat) (b : Byte) : (s.setByte a b).served = s.served := rfl
@[simp] theorem State.setByte_qdrs (a : Nat) (b : Byte) : (s.setByte a b).qdrs = s.qdrs := rfl
@[simp] theorem State.setByte_pipes (a : Nat) (b : Byte) : (s.setByte a b).pipes = s.pipes := rfl
@[simp] theorem State.setByte_fabs (a : Nat) (b : Byte) : (s.setByte a b).fabs = s.fabs := rfl
@[simp] theorem State.setByte_elapsed (a : Nat) (b : Byte) : (s.setByte a b).elapsed = s.elapsed := rfl
@[simp] theorem State.setByte_csr (a : Nat) (b : Byte) : (s.setByte a b).csr = s.csr := rfl
@[simp] theorem State.setByte_settings (a : Nat) (b : Byte) : (s.setByte a b).settings = s.settings := rfl
@[simp] theorem State.setByte_resp (a : Nat) (b : Byte) : (s.setByte a b).resp = s.resp := rfl
@[simp] theorem State.setByte_out (a : Nat) (b : Byte) : (s.setByte a b).out = s.out := rfl
@[simp] theorem State.setByte_free (a : Nat) (b : Byte) : (s.setByte a b).free = s.free := rfl
@[simp] theorem State.setByte_ledg (a : Nat) (b : Byte) : (s.setByte a b).ledg = s.ledg := rfl
@[simp] theorem State.setByte_events (a : Nat) (b : Byte) : (s.setByte a b).events = s.events := rfl
@[simp] theorem State.setByte_evSeq (a : Nat) (b : Byte) : (s.setByte a b).evSeq = s.evSeq := rfl
@[simp] theorem State.setByte_evBook (a : Nat) (b : Byte) : (s.setByte a b).evBook = s.evBook := rfl
@[simp] theorem State.setByte_cxl (a : Nat) (b : Byte) : (s.setByte a b).cxl = s.cxl := rfl
@[simp] theorem State.setByte_copy (a : Nat) (b : Byte) : (s.setByte a b).copy = s.copy := rfl
@[simp] theorem State.setByte_time (a : Nat) (b : Byte) : (s.setByte a b).time = s.time := rfl
@[simp] theorem State.setByte_slaves (a : Nat) (b : Byte) : (s.setByte a b).slaves = s.slaves := rfl
@[simp] theorem State.setByte_lanes (a : Nat) (b : Byte) : (s.setByte a b).lanes = s.lanes := rfl
@[simp] theorem State.setByte_ports (a : Nat) (b : Byte) : (s.setByte a b).ports = s.ports := rfl
@[simp] theorem State.setByte_fields (a : Nat) (b : Byte) : (s.setByte a b).fields = s.fields := rfl
@[simp] theorem State.setByte_chan (a : Nat) (b : Byte) : (s.setByte a b).chan = s.chan := rfl
@[simp] theorem State.setByte_furs (a : Nat) (b : Byte) : (s.setByte a b).furs = s.furs := rfl
@[simp] theorem State.setByte_chk (a : Nat) (b : Byte) : (s.setByte a b).chk = s.chk := rfl
@[simp] theorem State.setByte_fog (a : Nat) (b : Byte) : (s.setByte a b).fog = s.fog := rfl
@[simp] theorem State.setByte_tags (a : Nat) (b : Byte) : (s.setByte a b).tags = s.tags := rfl
@[simp] theorem State.setByte_nextOrd (a : Nat) (b : Byte) : (s.setByte a b).nextOrd = s.nextOrd := rfl
@[simp] theorem State.setByte_waiting (a : Nat) (b : Byte) : (s.setByte a b).waiting = s.waiting := rfl
@[simp] theorem State.setByte_remain (a : Nat) (b : Byte) : (s.setByte a b).remain = s.remain := rfl
@[simp] theorem State.setByte_upSpent (a : Nat) (b : Byte) : (s.setByte a b).upSpent = s.upSpent := rfl
@[simp] theorem State.setByte_walk (a : Nat) (b : Byte) : (s.setByte a b).walk = s.walk := rfl
@[simp] theorem State.setByte_walkTag (a : Nat) (b : Byte) : (s.setByte a b).walkTag = s.walkTag := rfl
@[simp] theorem State.setByte_pcs (a : Nat) (b : Byte) : (s.setByte a b).pcs = s.pcs := rfl
@[simp] theorem State.setByte_hmcs (a : Nat) (b : Byte) : (s.setByte a b).hmcs = s.hmcs := rfl
@[simp] theorem State.setByte_walkers (a : Nat) (b : Byte) : (s.setByte a b).walkers = s.walkers := rfl
@[simp] theorem State.setByte_ranges (a : Nat) (b : Byte) : (s.setByte a b).ranges = s.ranges := rfl
@[simp] theorem State.setByte_autoInit (a : Nat) (b : Byte) : (s.setByte a b).autoInit = s.autoInit := rfl
@[simp] theorem State.setByte_resv (a : Nat) (b : Byte) : (s.setByte a b).resv = s.resv := rfl
@[simp] theorem State.setByte_basins (a : Nat) (b : Byte) : (s.setByte a b).basins = s.basins := rfl
@[simp] theorem State.setByte_xbar (a : Nat) (b : Byte) : (s.setByte a b).xbar = s.xbar := rfl
@[simp] theorem State.setByte_code (a : Nat) (b : Byte) : (s.setByte a b).code = s.code := rfl
@[simp] theorem State.setByte_stores (a : Nat) (b : Byte) : (s.setByte a b).stores = s.stores := rfl
@[simp] theorem State.setByte_mods (a : Nat) (b : Byte) : (s.setByte a b).mods = s.mods := rfl
@[simp] theorem State.setByte_turns (a : Nat) (b : Byte) : (s.setByte a b).turns = s.turns := rfl
@[simp] theorem State.setByte_swaps (a : Nat) (b : Byte) : (s.setByte a b).swaps = s.swaps := rfl
@[simp] theorem State.setByte_boot (a : Nat) (b : Byte) : (s.setByte a b).boot = s.boot := rfl
@[simp] theorem State.setByte_upd (a : Nat) (b : Byte) : (s.setByte a b).upd = s.upd := rfl
@[simp] theorem State.setByte_pow (a : Nat) (b : Byte) : (s.setByte a b).pow = s.pow := rfl
@[simp] theorem State.setByte_engs (a : Nat) (b : Byte) : (s.setByte a b).engs = s.engs := rfl
@[simp] theorem State.setByte_patchRam (a : Nat) (b : Byte) : (s.setByte a b).patchRam = s.patchRam := rfl
@[simp] theorem State.setByte_loaders (a : Nat) (b : Byte) : (s.setByte a b).loaders = s.loaders := rfl
@[simp] theorem State.setByte_rings (a : Nat) (b : Byte) : (s.setByte a b).rings = s.rings := rfl
@[simp] theorem State.setByte_cfes (a : Nat) (b : Byte) : (s.setByte a b).cfes = s.cfes := rfl
@[simp] theorem State.setByte_cists (a : Nat) (b : Byte) : (s.setByte a b).cists = s.cists := rfl
@[simp] theorem State.setByte_closed (a : Nat) (b : Byte) : (s.setByte a b).closed = s.closed := rfl
@[simp] theorem State.setByte_nextClosed (a : Nat) (b : Byte) : (s.setByte a b).nextClosed = s.nextClosed := rfl
@[simp] theorem State.setByte_draining (a : Nat) (b : Byte) : (s.setByte a b).draining = s.draining := rfl
@[simp] theorem State.setByte_flt (a : Nat) (b : Byte) : (s.setByte a b).flt = s.flt := rfl
@[simp] theorem State.setByte_wm (a : Nat) (b : Byte) : (s.setByte a b).wm = s.wm := rfl
@[simp] theorem State.setByte_gau (a : Nat) (b : Byte) : (s.setByte a b).gau = s.gau := rfl
@[simp] theorem State.setByte_tap (a : Nat) (b : Byte) : (s.setByte a b).tap = s.tap := rfl
@[simp] theorem State.get_setByte (a : Nat) (b : Byte) (f' : Field) (i' j' k' : Nat) : (s.setByte a b).get f' i' j' k' = s.get f' i' j' k' := rfl

/-! What setOp leaves. -/
@[simp] theorem State.setOp_pending (k : Nat) (v : Op) : (s.setOp k v).pending = s.pending := rfl
@[simp] theorem State.setOp_part (k : Nat) (v : Op) : (s.setOp k v).part = s.part := rfl
@[simp] theorem State.setOp_ingress (k : Nat) (v : Op) : (s.setOp k v).ingress = s.ingress := rfl
@[simp] theorem State.setOp_owed (k : Nat) (v : Op) : (s.setOp k v).owed = s.owed := rfl
@[simp] theorem State.setOp_unaudited (k : Nat) (v : Op) : (s.setOp k v).unaudited = s.unaudited := rfl
@[simp] theorem State.setOp_served (k : Nat) (v : Op) : (s.setOp k v).served = s.served := rfl
@[simp] theorem State.setOp_qdrs (k : Nat) (v : Op) : (s.setOp k v).qdrs = s.qdrs := rfl
@[simp] theorem State.setOp_pipes (k : Nat) (v : Op) : (s.setOp k v).pipes = s.pipes := rfl
@[simp] theorem State.setOp_fabs (k : Nat) (v : Op) : (s.setOp k v).fabs = s.fabs := rfl
@[simp] theorem State.setOp_elapsed (k : Nat) (v : Op) : (s.setOp k v).elapsed = s.elapsed := rfl
@[simp] theorem State.setOp_csr (k : Nat) (v : Op) : (s.setOp k v).csr = s.csr := rfl
@[simp] theorem State.setOp_settings (k : Nat) (v : Op) : (s.setOp k v).settings = s.settings := rfl
@[simp] theorem State.setOp_mem (k : Nat) (v : Op) : (s.setOp k v).mem = s.mem := rfl
@[simp] theorem State.setOp_resp (k : Nat) (v : Op) : (s.setOp k v).resp = s.resp := rfl
@[simp] theorem State.setOp_out (k : Nat) (v : Op) : (s.setOp k v).out = s.out := rfl
@[simp] theorem State.setOp_free (k : Nat) (v : Op) : (s.setOp k v).free = s.free := rfl
@[simp] theorem State.setOp_events (k : Nat) (v : Op) : (s.setOp k v).events = s.events := rfl
@[simp] theorem State.setOp_evSeq (k : Nat) (v : Op) : (s.setOp k v).evSeq = s.evSeq := rfl
@[simp] theorem State.setOp_evBook (k : Nat) (v : Op) : (s.setOp k v).evBook = s.evBook := rfl
@[simp] theorem State.setOp_cxl (k : Nat) (v : Op) : (s.setOp k v).cxl = s.cxl := rfl
@[simp] theorem State.setOp_copy (k : Nat) (v : Op) : (s.setOp k v).copy = s.copy := rfl
@[simp] theorem State.setOp_time (k : Nat) (v : Op) : (s.setOp k v).time = s.time := rfl
@[simp] theorem State.setOp_slaves (k : Nat) (v : Op) : (s.setOp k v).slaves = s.slaves := rfl
@[simp] theorem State.setOp_lanes (k : Nat) (v : Op) : (s.setOp k v).lanes = s.lanes := rfl
@[simp] theorem State.setOp_ports (k : Nat) (v : Op) : (s.setOp k v).ports = s.ports := rfl
@[simp] theorem State.setOp_fields (k : Nat) (v : Op) : (s.setOp k v).fields = s.fields := rfl
@[simp] theorem State.setOp_chan (k : Nat) (v : Op) : (s.setOp k v).chan = s.chan := rfl
@[simp] theorem State.setOp_furs (k : Nat) (v : Op) : (s.setOp k v).furs = s.furs := rfl
@[simp] theorem State.setOp_chk (k : Nat) (v : Op) : (s.setOp k v).chk = s.chk := rfl
@[simp] theorem State.setOp_fog (k : Nat) (v : Op) : (s.setOp k v).fog = s.fog := rfl
@[simp] theorem State.setOp_tags (k : Nat) (v : Op) : (s.setOp k v).tags = s.tags := rfl
@[simp] theorem State.setOp_nextOrd (k : Nat) (v : Op) : (s.setOp k v).nextOrd = s.nextOrd := rfl
@[simp] theorem State.setOp_waiting (k : Nat) (v : Op) : (s.setOp k v).waiting = s.waiting := rfl
@[simp] theorem State.setOp_remain (k : Nat) (v : Op) : (s.setOp k v).remain = s.remain := rfl
@[simp] theorem State.setOp_upSpent (k : Nat) (v : Op) : (s.setOp k v).upSpent = s.upSpent := rfl
@[simp] theorem State.setOp_walk (k : Nat) (v : Op) : (s.setOp k v).walk = s.walk := rfl
@[simp] theorem State.setOp_walkTag (k : Nat) (v : Op) : (s.setOp k v).walkTag = s.walkTag := rfl
@[simp] theorem State.setOp_pcs (k : Nat) (v : Op) : (s.setOp k v).pcs = s.pcs := rfl
@[simp] theorem State.setOp_hmcs (k : Nat) (v : Op) : (s.setOp k v).hmcs = s.hmcs := rfl
@[simp] theorem State.setOp_walkers (k : Nat) (v : Op) : (s.setOp k v).walkers = s.walkers := rfl
@[simp] theorem State.setOp_ranges (k : Nat) (v : Op) : (s.setOp k v).ranges = s.ranges := rfl
@[simp] theorem State.setOp_autoInit (k : Nat) (v : Op) : (s.setOp k v).autoInit = s.autoInit := rfl
@[simp] theorem State.setOp_resv (k : Nat) (v : Op) : (s.setOp k v).resv = s.resv := rfl
@[simp] theorem State.setOp_basins (k : Nat) (v : Op) : (s.setOp k v).basins = s.basins := rfl
@[simp] theorem State.setOp_xbar (k : Nat) (v : Op) : (s.setOp k v).xbar = s.xbar := rfl
@[simp] theorem State.setOp_code (k : Nat) (v : Op) : (s.setOp k v).code = s.code := rfl
@[simp] theorem State.setOp_stores (k : Nat) (v : Op) : (s.setOp k v).stores = s.stores := rfl
@[simp] theorem State.setOp_mods (k : Nat) (v : Op) : (s.setOp k v).mods = s.mods := rfl
@[simp] theorem State.setOp_turns (k : Nat) (v : Op) : (s.setOp k v).turns = s.turns := rfl
@[simp] theorem State.setOp_swaps (k : Nat) (v : Op) : (s.setOp k v).swaps = s.swaps := rfl
@[simp] theorem State.setOp_boot (k : Nat) (v : Op) : (s.setOp k v).boot = s.boot := rfl
@[simp] theorem State.setOp_upd (k : Nat) (v : Op) : (s.setOp k v).upd = s.upd := rfl
@[simp] theorem State.setOp_pow (k : Nat) (v : Op) : (s.setOp k v).pow = s.pow := rfl
@[simp] theorem State.setOp_engs (k : Nat) (v : Op) : (s.setOp k v).engs = s.engs := rfl
@[simp] theorem State.setOp_patchRam (k : Nat) (v : Op) : (s.setOp k v).patchRam = s.patchRam := rfl
@[simp] theorem State.setOp_loaders (k : Nat) (v : Op) : (s.setOp k v).loaders = s.loaders := rfl
@[simp] theorem State.setOp_rings (k : Nat) (v : Op) : (s.setOp k v).rings = s.rings := rfl
@[simp] theorem State.setOp_cfes (k : Nat) (v : Op) : (s.setOp k v).cfes = s.cfes := rfl
@[simp] theorem State.setOp_cists (k : Nat) (v : Op) : (s.setOp k v).cists = s.cists := rfl
@[simp] theorem State.setOp_closed (k : Nat) (v : Op) : (s.setOp k v).closed = s.closed := rfl
@[simp] theorem State.setOp_nextClosed (k : Nat) (v : Op) : (s.setOp k v).nextClosed = s.nextClosed := rfl
@[simp] theorem State.setOp_draining (k : Nat) (v : Op) : (s.setOp k v).draining = s.draining := rfl
@[simp] theorem State.setOp_flt (k : Nat) (v : Op) : (s.setOp k v).flt = s.flt := rfl
@[simp] theorem State.setOp_wm (k : Nat) (v : Op) : (s.setOp k v).wm = s.wm := rfl
@[simp] theorem State.setOp_gau (k : Nat) (v : Op) : (s.setOp k v).gau = s.gau := rfl
@[simp] theorem State.setOp_tap (k : Nat) (v : Op) : (s.setOp k v).tap = s.tap := rfl
@[simp] theorem State.get_setOp (k : Nat) (v : Op) (f' : Field) (i' j' k' : Nat) : (s.setOp k v).get f' i' j' k' = s.get f' i' j' k' := rfl

/-! What setLane leaves. -/
@[simp] theorem State.setLane_pending (k : Nat) (v : LaneSt) : (s.setLane k v).pending = s.pending := rfl
@[simp] theorem State.setLane_part (k : Nat) (v : LaneSt) : (s.setLane k v).part = s.part := rfl
@[simp] theorem State.setLane_ingress (k : Nat) (v : LaneSt) : (s.setLane k v).ingress = s.ingress := rfl
@[simp] theorem State.setLane_owed (k : Nat) (v : LaneSt) : (s.setLane k v).owed = s.owed := rfl
@[simp] theorem State.setLane_unaudited (k : Nat) (v : LaneSt) : (s.setLane k v).unaudited = s.unaudited := rfl
@[simp] theorem State.setLane_served (k : Nat) (v : LaneSt) : (s.setLane k v).served = s.served := rfl
@[simp] theorem State.setLane_qdrs (k : Nat) (v : LaneSt) : (s.setLane k v).qdrs = s.qdrs := rfl
@[simp] theorem State.setLane_pipes (k : Nat) (v : LaneSt) : (s.setLane k v).pipes = s.pipes := rfl
@[simp] theorem State.setLane_fabs (k : Nat) (v : LaneSt) : (s.setLane k v).fabs = s.fabs := rfl
@[simp] theorem State.setLane_elapsed (k : Nat) (v : LaneSt) : (s.setLane k v).elapsed = s.elapsed := rfl
@[simp] theorem State.setLane_csr (k : Nat) (v : LaneSt) : (s.setLane k v).csr = s.csr := rfl
@[simp] theorem State.setLane_settings (k : Nat) (v : LaneSt) : (s.setLane k v).settings = s.settings := rfl
@[simp] theorem State.setLane_mem (k : Nat) (v : LaneSt) : (s.setLane k v).mem = s.mem := rfl
@[simp] theorem State.setLane_resp (k : Nat) (v : LaneSt) : (s.setLane k v).resp = s.resp := rfl
@[simp] theorem State.setLane_out (k : Nat) (v : LaneSt) : (s.setLane k v).out = s.out := rfl
@[simp] theorem State.setLane_free (k : Nat) (v : LaneSt) : (s.setLane k v).free = s.free := rfl
@[simp] theorem State.setLane_ledg (k : Nat) (v : LaneSt) : (s.setLane k v).ledg = s.ledg := rfl
@[simp] theorem State.setLane_events (k : Nat) (v : LaneSt) : (s.setLane k v).events = s.events := rfl
@[simp] theorem State.setLane_evSeq (k : Nat) (v : LaneSt) : (s.setLane k v).evSeq = s.evSeq := rfl
@[simp] theorem State.setLane_evBook (k : Nat) (v : LaneSt) : (s.setLane k v).evBook = s.evBook := rfl
@[simp] theorem State.setLane_cxl (k : Nat) (v : LaneSt) : (s.setLane k v).cxl = s.cxl := rfl
@[simp] theorem State.setLane_copy (k : Nat) (v : LaneSt) : (s.setLane k v).copy = s.copy := rfl
@[simp] theorem State.setLane_time (k : Nat) (v : LaneSt) : (s.setLane k v).time = s.time := rfl
@[simp] theorem State.setLane_slaves (k : Nat) (v : LaneSt) : (s.setLane k v).slaves = s.slaves := rfl
@[simp] theorem State.setLane_ports (k : Nat) (v : LaneSt) : (s.setLane k v).ports = s.ports := rfl
@[simp] theorem State.setLane_fields (k : Nat) (v : LaneSt) : (s.setLane k v).fields = s.fields := rfl
@[simp] theorem State.setLane_chan (k : Nat) (v : LaneSt) : (s.setLane k v).chan = s.chan := rfl
@[simp] theorem State.setLane_furs (k : Nat) (v : LaneSt) : (s.setLane k v).furs = s.furs := rfl
@[simp] theorem State.setLane_chk (k : Nat) (v : LaneSt) : (s.setLane k v).chk = s.chk := rfl
@[simp] theorem State.setLane_fog (k : Nat) (v : LaneSt) : (s.setLane k v).fog = s.fog := rfl
@[simp] theorem State.setLane_tags (k : Nat) (v : LaneSt) : (s.setLane k v).tags = s.tags := rfl
@[simp] theorem State.setLane_nextOrd (k : Nat) (v : LaneSt) : (s.setLane k v).nextOrd = s.nextOrd := rfl
@[simp] theorem State.setLane_waiting (k : Nat) (v : LaneSt) : (s.setLane k v).waiting = s.waiting := rfl
@[simp] theorem State.setLane_remain (k : Nat) (v : LaneSt) : (s.setLane k v).remain = s.remain := rfl
@[simp] theorem State.setLane_upSpent (k : Nat) (v : LaneSt) : (s.setLane k v).upSpent = s.upSpent := rfl
@[simp] theorem State.setLane_walk (k : Nat) (v : LaneSt) : (s.setLane k v).walk = s.walk := rfl
@[simp] theorem State.setLane_walkTag (k : Nat) (v : LaneSt) : (s.setLane k v).walkTag = s.walkTag := rfl
@[simp] theorem State.setLane_pcs (k : Nat) (v : LaneSt) : (s.setLane k v).pcs = s.pcs := rfl
@[simp] theorem State.setLane_hmcs (k : Nat) (v : LaneSt) : (s.setLane k v).hmcs = s.hmcs := rfl
@[simp] theorem State.setLane_walkers (k : Nat) (v : LaneSt) : (s.setLane k v).walkers = s.walkers := rfl
@[simp] theorem State.setLane_ranges (k : Nat) (v : LaneSt) : (s.setLane k v).ranges = s.ranges := rfl
@[simp] theorem State.setLane_autoInit (k : Nat) (v : LaneSt) : (s.setLane k v).autoInit = s.autoInit := rfl
@[simp] theorem State.setLane_resv (k : Nat) (v : LaneSt) : (s.setLane k v).resv = s.resv := rfl
@[simp] theorem State.setLane_basins (k : Nat) (v : LaneSt) : (s.setLane k v).basins = s.basins := rfl
@[simp] theorem State.setLane_xbar (k : Nat) (v : LaneSt) : (s.setLane k v).xbar = s.xbar := rfl
@[simp] theorem State.setLane_code (k : Nat) (v : LaneSt) : (s.setLane k v).code = s.code := rfl
@[simp] theorem State.setLane_stores (k : Nat) (v : LaneSt) : (s.setLane k v).stores = s.stores := rfl
@[simp] theorem State.setLane_mods (k : Nat) (v : LaneSt) : (s.setLane k v).mods = s.mods := rfl
@[simp] theorem State.setLane_turns (k : Nat) (v : LaneSt) : (s.setLane k v).turns = s.turns := rfl
@[simp] theorem State.setLane_swaps (k : Nat) (v : LaneSt) : (s.setLane k v).swaps = s.swaps := rfl
@[simp] theorem State.setLane_boot (k : Nat) (v : LaneSt) : (s.setLane k v).boot = s.boot := rfl
@[simp] theorem State.setLane_upd (k : Nat) (v : LaneSt) : (s.setLane k v).upd = s.upd := rfl
@[simp] theorem State.setLane_pow (k : Nat) (v : LaneSt) : (s.setLane k v).pow = s.pow := rfl
@[simp] theorem State.setLane_engs (k : Nat) (v : LaneSt) : (s.setLane k v).engs = s.engs := rfl
@[simp] theorem State.setLane_patchRam (k : Nat) (v : LaneSt) : (s.setLane k v).patchRam = s.patchRam := rfl
@[simp] theorem State.setLane_loaders (k : Nat) (v : LaneSt) : (s.setLane k v).loaders = s.loaders := rfl
@[simp] theorem State.setLane_rings (k : Nat) (v : LaneSt) : (s.setLane k v).rings = s.rings := rfl
@[simp] theorem State.setLane_cfes (k : Nat) (v : LaneSt) : (s.setLane k v).cfes = s.cfes := rfl
@[simp] theorem State.setLane_cists (k : Nat) (v : LaneSt) : (s.setLane k v).cists = s.cists := rfl
@[simp] theorem State.setLane_closed (k : Nat) (v : LaneSt) : (s.setLane k v).closed = s.closed := rfl
@[simp] theorem State.setLane_nextClosed (k : Nat) (v : LaneSt) : (s.setLane k v).nextClosed = s.nextClosed := rfl
@[simp] theorem State.setLane_draining (k : Nat) (v : LaneSt) : (s.setLane k v).draining = s.draining := rfl
@[simp] theorem State.setLane_flt (k : Nat) (v : LaneSt) : (s.setLane k v).flt = s.flt := rfl
@[simp] theorem State.setLane_wm (k : Nat) (v : LaneSt) : (s.setLane k v).wm = s.wm := rfl
@[simp] theorem State.setLane_gau (k : Nat) (v : LaneSt) : (s.setLane k v).gau = s.gau := rfl
@[simp] theorem State.setLane_tap (k : Nat) (v : LaneSt) : (s.setLane k v).tap = s.tap := rfl
@[simp] theorem State.get_setLane (k : Nat) (v : LaneSt) (f' : Field) (i' j' k' : Nat) : (s.setLane k v).get f' i' j' k' = s.get f' i' j' k' := rfl

/-! What setPort leaves. -/
@[simp] theorem State.setPort_pending (k : Nat) (v : PortSt) : (s.setPort k v).pending = s.pending := rfl
@[simp] theorem State.setPort_part (k : Nat) (v : PortSt) : (s.setPort k v).part = s.part := rfl
@[simp] theorem State.setPort_ingress (k : Nat) (v : PortSt) : (s.setPort k v).ingress = s.ingress := rfl
@[simp] theorem State.setPort_owed (k : Nat) (v : PortSt) : (s.setPort k v).owed = s.owed := rfl
@[simp] theorem State.setPort_unaudited (k : Nat) (v : PortSt) : (s.setPort k v).unaudited = s.unaudited := rfl
@[simp] theorem State.setPort_served (k : Nat) (v : PortSt) : (s.setPort k v).served = s.served := rfl
@[simp] theorem State.setPort_qdrs (k : Nat) (v : PortSt) : (s.setPort k v).qdrs = s.qdrs := rfl
@[simp] theorem State.setPort_pipes (k : Nat) (v : PortSt) : (s.setPort k v).pipes = s.pipes := rfl
@[simp] theorem State.setPort_fabs (k : Nat) (v : PortSt) : (s.setPort k v).fabs = s.fabs := rfl
@[simp] theorem State.setPort_elapsed (k : Nat) (v : PortSt) : (s.setPort k v).elapsed = s.elapsed := rfl
@[simp] theorem State.setPort_csr (k : Nat) (v : PortSt) : (s.setPort k v).csr = s.csr := rfl
@[simp] theorem State.setPort_settings (k : Nat) (v : PortSt) : (s.setPort k v).settings = s.settings := rfl
@[simp] theorem State.setPort_mem (k : Nat) (v : PortSt) : (s.setPort k v).mem = s.mem := rfl
@[simp] theorem State.setPort_resp (k : Nat) (v : PortSt) : (s.setPort k v).resp = s.resp := rfl
@[simp] theorem State.setPort_out (k : Nat) (v : PortSt) : (s.setPort k v).out = s.out := rfl
@[simp] theorem State.setPort_free (k : Nat) (v : PortSt) : (s.setPort k v).free = s.free := rfl
@[simp] theorem State.setPort_ledg (k : Nat) (v : PortSt) : (s.setPort k v).ledg = s.ledg := rfl
@[simp] theorem State.setPort_events (k : Nat) (v : PortSt) : (s.setPort k v).events = s.events := rfl
@[simp] theorem State.setPort_evSeq (k : Nat) (v : PortSt) : (s.setPort k v).evSeq = s.evSeq := rfl
@[simp] theorem State.setPort_evBook (k : Nat) (v : PortSt) : (s.setPort k v).evBook = s.evBook := rfl
@[simp] theorem State.setPort_cxl (k : Nat) (v : PortSt) : (s.setPort k v).cxl = s.cxl := rfl
@[simp] theorem State.setPort_copy (k : Nat) (v : PortSt) : (s.setPort k v).copy = s.copy := rfl
@[simp] theorem State.setPort_time (k : Nat) (v : PortSt) : (s.setPort k v).time = s.time := rfl
@[simp] theorem State.setPort_slaves (k : Nat) (v : PortSt) : (s.setPort k v).slaves = s.slaves := rfl
@[simp] theorem State.setPort_lanes (k : Nat) (v : PortSt) : (s.setPort k v).lanes = s.lanes := rfl
@[simp] theorem State.setPort_fields (k : Nat) (v : PortSt) : (s.setPort k v).fields = s.fields := rfl
@[simp] theorem State.setPort_chan (k : Nat) (v : PortSt) : (s.setPort k v).chan = s.chan := rfl
@[simp] theorem State.setPort_furs (k : Nat) (v : PortSt) : (s.setPort k v).furs = s.furs := rfl
@[simp] theorem State.setPort_chk (k : Nat) (v : PortSt) : (s.setPort k v).chk = s.chk := rfl
@[simp] theorem State.setPort_fog (k : Nat) (v : PortSt) : (s.setPort k v).fog = s.fog := rfl
@[simp] theorem State.setPort_tags (k : Nat) (v : PortSt) : (s.setPort k v).tags = s.tags := rfl
@[simp] theorem State.setPort_nextOrd (k : Nat) (v : PortSt) : (s.setPort k v).nextOrd = s.nextOrd := rfl
@[simp] theorem State.setPort_waiting (k : Nat) (v : PortSt) : (s.setPort k v).waiting = s.waiting := rfl
@[simp] theorem State.setPort_remain (k : Nat) (v : PortSt) : (s.setPort k v).remain = s.remain := rfl
@[simp] theorem State.setPort_upSpent (k : Nat) (v : PortSt) : (s.setPort k v).upSpent = s.upSpent := rfl
@[simp] theorem State.setPort_walk (k : Nat) (v : PortSt) : (s.setPort k v).walk = s.walk := rfl
@[simp] theorem State.setPort_walkTag (k : Nat) (v : PortSt) : (s.setPort k v).walkTag = s.walkTag := rfl
@[simp] theorem State.setPort_pcs (k : Nat) (v : PortSt) : (s.setPort k v).pcs = s.pcs := rfl
@[simp] theorem State.setPort_hmcs (k : Nat) (v : PortSt) : (s.setPort k v).hmcs = s.hmcs := rfl
@[simp] theorem State.setPort_walkers (k : Nat) (v : PortSt) : (s.setPort k v).walkers = s.walkers := rfl
@[simp] theorem State.setPort_ranges (k : Nat) (v : PortSt) : (s.setPort k v).ranges = s.ranges := rfl
@[simp] theorem State.setPort_autoInit (k : Nat) (v : PortSt) : (s.setPort k v).autoInit = s.autoInit := rfl
@[simp] theorem State.setPort_resv (k : Nat) (v : PortSt) : (s.setPort k v).resv = s.resv := rfl
@[simp] theorem State.setPort_basins (k : Nat) (v : PortSt) : (s.setPort k v).basins = s.basins := rfl
@[simp] theorem State.setPort_xbar (k : Nat) (v : PortSt) : (s.setPort k v).xbar = s.xbar := rfl
@[simp] theorem State.setPort_code (k : Nat) (v : PortSt) : (s.setPort k v).code = s.code := rfl
@[simp] theorem State.setPort_stores (k : Nat) (v : PortSt) : (s.setPort k v).stores = s.stores := rfl
@[simp] theorem State.setPort_mods (k : Nat) (v : PortSt) : (s.setPort k v).mods = s.mods := rfl
@[simp] theorem State.setPort_turns (k : Nat) (v : PortSt) : (s.setPort k v).turns = s.turns := rfl
@[simp] theorem State.setPort_swaps (k : Nat) (v : PortSt) : (s.setPort k v).swaps = s.swaps := rfl
@[simp] theorem State.setPort_boot (k : Nat) (v : PortSt) : (s.setPort k v).boot = s.boot := rfl
@[simp] theorem State.setPort_upd (k : Nat) (v : PortSt) : (s.setPort k v).upd = s.upd := rfl
@[simp] theorem State.setPort_pow (k : Nat) (v : PortSt) : (s.setPort k v).pow = s.pow := rfl
@[simp] theorem State.setPort_engs (k : Nat) (v : PortSt) : (s.setPort k v).engs = s.engs := rfl
@[simp] theorem State.setPort_patchRam (k : Nat) (v : PortSt) : (s.setPort k v).patchRam = s.patchRam := rfl
@[simp] theorem State.setPort_loaders (k : Nat) (v : PortSt) : (s.setPort k v).loaders = s.loaders := rfl
@[simp] theorem State.setPort_rings (k : Nat) (v : PortSt) : (s.setPort k v).rings = s.rings := rfl
@[simp] theorem State.setPort_cfes (k : Nat) (v : PortSt) : (s.setPort k v).cfes = s.cfes := rfl
@[simp] theorem State.setPort_cists (k : Nat) (v : PortSt) : (s.setPort k v).cists = s.cists := rfl
@[simp] theorem State.setPort_closed (k : Nat) (v : PortSt) : (s.setPort k v).closed = s.closed := rfl
@[simp] theorem State.setPort_nextClosed (k : Nat) (v : PortSt) : (s.setPort k v).nextClosed = s.nextClosed := rfl
@[simp] theorem State.setPort_draining (k : Nat) (v : PortSt) : (s.setPort k v).draining = s.draining := rfl
@[simp] theorem State.setPort_flt (k : Nat) (v : PortSt) : (s.setPort k v).flt = s.flt := rfl
@[simp] theorem State.setPort_wm (k : Nat) (v : PortSt) : (s.setPort k v).wm = s.wm := rfl
@[simp] theorem State.setPort_gau (k : Nat) (v : PortSt) : (s.setPort k v).gau = s.gau := rfl
@[simp] theorem State.setPort_tap (k : Nat) (v : PortSt) : (s.setPort k v).tap = s.tap := rfl
@[simp] theorem State.get_setPort (k : Nat) (v : PortSt) (f' : Field) (i' j' k' : Nat) : (s.setPort k v).get f' i' j' k' = s.get f' i' j' k' := rfl

/-! What setField leaves. -/
@[simp] theorem State.setField_pending (k : Nat) (v : FieldSt) : (s.setField k v).pending = s.pending := rfl
@[simp] theorem State.setField_part (k : Nat) (v : FieldSt) : (s.setField k v).part = s.part := rfl
@[simp] theorem State.setField_ingress (k : Nat) (v : FieldSt) : (s.setField k v).ingress = s.ingress := rfl
@[simp] theorem State.setField_owed (k : Nat) (v : FieldSt) : (s.setField k v).owed = s.owed := rfl
@[simp] theorem State.setField_unaudited (k : Nat) (v : FieldSt) : (s.setField k v).unaudited = s.unaudited := rfl
@[simp] theorem State.setField_served (k : Nat) (v : FieldSt) : (s.setField k v).served = s.served := rfl
@[simp] theorem State.setField_qdrs (k : Nat) (v : FieldSt) : (s.setField k v).qdrs = s.qdrs := rfl
@[simp] theorem State.setField_pipes (k : Nat) (v : FieldSt) : (s.setField k v).pipes = s.pipes := rfl
@[simp] theorem State.setField_fabs (k : Nat) (v : FieldSt) : (s.setField k v).fabs = s.fabs := rfl
@[simp] theorem State.setField_elapsed (k : Nat) (v : FieldSt) : (s.setField k v).elapsed = s.elapsed := rfl
@[simp] theorem State.setField_csr (k : Nat) (v : FieldSt) : (s.setField k v).csr = s.csr := rfl
@[simp] theorem State.setField_settings (k : Nat) (v : FieldSt) : (s.setField k v).settings = s.settings := rfl
@[simp] theorem State.setField_mem (k : Nat) (v : FieldSt) : (s.setField k v).mem = s.mem := rfl
@[simp] theorem State.setField_resp (k : Nat) (v : FieldSt) : (s.setField k v).resp = s.resp := rfl
@[simp] theorem State.setField_out (k : Nat) (v : FieldSt) : (s.setField k v).out = s.out := rfl
@[simp] theorem State.setField_free (k : Nat) (v : FieldSt) : (s.setField k v).free = s.free := rfl
@[simp] theorem State.setField_ledg (k : Nat) (v : FieldSt) : (s.setField k v).ledg = s.ledg := rfl
@[simp] theorem State.setField_events (k : Nat) (v : FieldSt) : (s.setField k v).events = s.events := rfl
@[simp] theorem State.setField_evSeq (k : Nat) (v : FieldSt) : (s.setField k v).evSeq = s.evSeq := rfl
@[simp] theorem State.setField_evBook (k : Nat) (v : FieldSt) : (s.setField k v).evBook = s.evBook := rfl
@[simp] theorem State.setField_cxl (k : Nat) (v : FieldSt) : (s.setField k v).cxl = s.cxl := rfl
@[simp] theorem State.setField_copy (k : Nat) (v : FieldSt) : (s.setField k v).copy = s.copy := rfl
@[simp] theorem State.setField_time (k : Nat) (v : FieldSt) : (s.setField k v).time = s.time := rfl
@[simp] theorem State.setField_slaves (k : Nat) (v : FieldSt) : (s.setField k v).slaves = s.slaves := rfl
@[simp] theorem State.setField_lanes (k : Nat) (v : FieldSt) : (s.setField k v).lanes = s.lanes := rfl
@[simp] theorem State.setField_ports (k : Nat) (v : FieldSt) : (s.setField k v).ports = s.ports := rfl
@[simp] theorem State.setField_chan (k : Nat) (v : FieldSt) : (s.setField k v).chan = s.chan := rfl
@[simp] theorem State.setField_furs (k : Nat) (v : FieldSt) : (s.setField k v).furs = s.furs := rfl
@[simp] theorem State.setField_chk (k : Nat) (v : FieldSt) : (s.setField k v).chk = s.chk := rfl
@[simp] theorem State.setField_fog (k : Nat) (v : FieldSt) : (s.setField k v).fog = s.fog := rfl
@[simp] theorem State.setField_tags (k : Nat) (v : FieldSt) : (s.setField k v).tags = s.tags := rfl
@[simp] theorem State.setField_nextOrd (k : Nat) (v : FieldSt) : (s.setField k v).nextOrd = s.nextOrd := rfl
@[simp] theorem State.setField_waiting (k : Nat) (v : FieldSt) : (s.setField k v).waiting = s.waiting := rfl
@[simp] theorem State.setField_remain (k : Nat) (v : FieldSt) : (s.setField k v).remain = s.remain := rfl
@[simp] theorem State.setField_upSpent (k : Nat) (v : FieldSt) : (s.setField k v).upSpent = s.upSpent := rfl
@[simp] theorem State.setField_walk (k : Nat) (v : FieldSt) : (s.setField k v).walk = s.walk := rfl
@[simp] theorem State.setField_walkTag (k : Nat) (v : FieldSt) : (s.setField k v).walkTag = s.walkTag := rfl
@[simp] theorem State.setField_pcs (k : Nat) (v : FieldSt) : (s.setField k v).pcs = s.pcs := rfl
@[simp] theorem State.setField_hmcs (k : Nat) (v : FieldSt) : (s.setField k v).hmcs = s.hmcs := rfl
@[simp] theorem State.setField_walkers (k : Nat) (v : FieldSt) : (s.setField k v).walkers = s.walkers := rfl
@[simp] theorem State.setField_ranges (k : Nat) (v : FieldSt) : (s.setField k v).ranges = s.ranges := rfl
@[simp] theorem State.setField_autoInit (k : Nat) (v : FieldSt) : (s.setField k v).autoInit = s.autoInit := rfl
@[simp] theorem State.setField_resv (k : Nat) (v : FieldSt) : (s.setField k v).resv = s.resv := rfl
@[simp] theorem State.setField_basins (k : Nat) (v : FieldSt) : (s.setField k v).basins = s.basins := rfl
@[simp] theorem State.setField_xbar (k : Nat) (v : FieldSt) : (s.setField k v).xbar = s.xbar := rfl
@[simp] theorem State.setField_code (k : Nat) (v : FieldSt) : (s.setField k v).code = s.code := rfl
@[simp] theorem State.setField_stores (k : Nat) (v : FieldSt) : (s.setField k v).stores = s.stores := rfl
@[simp] theorem State.setField_mods (k : Nat) (v : FieldSt) : (s.setField k v).mods = s.mods := rfl
@[simp] theorem State.setField_turns (k : Nat) (v : FieldSt) : (s.setField k v).turns = s.turns := rfl
@[simp] theorem State.setField_swaps (k : Nat) (v : FieldSt) : (s.setField k v).swaps = s.swaps := rfl
@[simp] theorem State.setField_boot (k : Nat) (v : FieldSt) : (s.setField k v).boot = s.boot := rfl
@[simp] theorem State.setField_upd (k : Nat) (v : FieldSt) : (s.setField k v).upd = s.upd := rfl
@[simp] theorem State.setField_pow (k : Nat) (v : FieldSt) : (s.setField k v).pow = s.pow := rfl
@[simp] theorem State.setField_engs (k : Nat) (v : FieldSt) : (s.setField k v).engs = s.engs := rfl
@[simp] theorem State.setField_patchRam (k : Nat) (v : FieldSt) : (s.setField k v).patchRam = s.patchRam := rfl
@[simp] theorem State.setField_loaders (k : Nat) (v : FieldSt) : (s.setField k v).loaders = s.loaders := rfl
@[simp] theorem State.setField_rings (k : Nat) (v : FieldSt) : (s.setField k v).rings = s.rings := rfl
@[simp] theorem State.setField_cfes (k : Nat) (v : FieldSt) : (s.setField k v).cfes = s.cfes := rfl
@[simp] theorem State.setField_cists (k : Nat) (v : FieldSt) : (s.setField k v).cists = s.cists := rfl
@[simp] theorem State.setField_closed (k : Nat) (v : FieldSt) : (s.setField k v).closed = s.closed := rfl
@[simp] theorem State.setField_nextClosed (k : Nat) (v : FieldSt) : (s.setField k v).nextClosed = s.nextClosed := rfl
@[simp] theorem State.setField_draining (k : Nat) (v : FieldSt) : (s.setField k v).draining = s.draining := rfl
@[simp] theorem State.setField_flt (k : Nat) (v : FieldSt) : (s.setField k v).flt = s.flt := rfl
@[simp] theorem State.setField_wm (k : Nat) (v : FieldSt) : (s.setField k v).wm = s.wm := rfl
@[simp] theorem State.setField_gau (k : Nat) (v : FieldSt) : (s.setField k v).gau = s.gau := rfl
@[simp] theorem State.setField_tap (k : Nat) (v : FieldSt) : (s.setField k v).tap = s.tap := rfl
@[simp] theorem State.get_setField (k : Nat) (v : FieldSt) (f' : Field) (i' j' k' : Nat) : (s.setField k v).get f' i' j' k' = s.get f' i' j' k' := rfl

/-! What setFur leaves. -/
@[simp] theorem State.setFur_pending (k : Nat) (v : FurSt) : (s.setFur k v).pending = s.pending := rfl
@[simp] theorem State.setFur_part (k : Nat) (v : FurSt) : (s.setFur k v).part = s.part := rfl
@[simp] theorem State.setFur_ingress (k : Nat) (v : FurSt) : (s.setFur k v).ingress = s.ingress := rfl
@[simp] theorem State.setFur_owed (k : Nat) (v : FurSt) : (s.setFur k v).owed = s.owed := rfl
@[simp] theorem State.setFur_unaudited (k : Nat) (v : FurSt) : (s.setFur k v).unaudited = s.unaudited := rfl
@[simp] theorem State.setFur_served (k : Nat) (v : FurSt) : (s.setFur k v).served = s.served := rfl
@[simp] theorem State.setFur_qdrs (k : Nat) (v : FurSt) : (s.setFur k v).qdrs = s.qdrs := rfl
@[simp] theorem State.setFur_pipes (k : Nat) (v : FurSt) : (s.setFur k v).pipes = s.pipes := rfl
@[simp] theorem State.setFur_fabs (k : Nat) (v : FurSt) : (s.setFur k v).fabs = s.fabs := rfl
@[simp] theorem State.setFur_elapsed (k : Nat) (v : FurSt) : (s.setFur k v).elapsed = s.elapsed := rfl
@[simp] theorem State.setFur_csr (k : Nat) (v : FurSt) : (s.setFur k v).csr = s.csr := rfl
@[simp] theorem State.setFur_settings (k : Nat) (v : FurSt) : (s.setFur k v).settings = s.settings := rfl
@[simp] theorem State.setFur_mem (k : Nat) (v : FurSt) : (s.setFur k v).mem = s.mem := rfl
@[simp] theorem State.setFur_resp (k : Nat) (v : FurSt) : (s.setFur k v).resp = s.resp := rfl
@[simp] theorem State.setFur_out (k : Nat) (v : FurSt) : (s.setFur k v).out = s.out := rfl
@[simp] theorem State.setFur_free (k : Nat) (v : FurSt) : (s.setFur k v).free = s.free := rfl
@[simp] theorem State.setFur_ledg (k : Nat) (v : FurSt) : (s.setFur k v).ledg = s.ledg := rfl
@[simp] theorem State.setFur_events (k : Nat) (v : FurSt) : (s.setFur k v).events = s.events := rfl
@[simp] theorem State.setFur_evSeq (k : Nat) (v : FurSt) : (s.setFur k v).evSeq = s.evSeq := rfl
@[simp] theorem State.setFur_evBook (k : Nat) (v : FurSt) : (s.setFur k v).evBook = s.evBook := rfl
@[simp] theorem State.setFur_cxl (k : Nat) (v : FurSt) : (s.setFur k v).cxl = s.cxl := rfl
@[simp] theorem State.setFur_copy (k : Nat) (v : FurSt) : (s.setFur k v).copy = s.copy := rfl
@[simp] theorem State.setFur_time (k : Nat) (v : FurSt) : (s.setFur k v).time = s.time := rfl
@[simp] theorem State.setFur_slaves (k : Nat) (v : FurSt) : (s.setFur k v).slaves = s.slaves := rfl
@[simp] theorem State.setFur_lanes (k : Nat) (v : FurSt) : (s.setFur k v).lanes = s.lanes := rfl
@[simp] theorem State.setFur_ports (k : Nat) (v : FurSt) : (s.setFur k v).ports = s.ports := rfl
@[simp] theorem State.setFur_fields (k : Nat) (v : FurSt) : (s.setFur k v).fields = s.fields := rfl
@[simp] theorem State.setFur_chan (k : Nat) (v : FurSt) : (s.setFur k v).chan = s.chan := rfl
@[simp] theorem State.setFur_chk (k : Nat) (v : FurSt) : (s.setFur k v).chk = s.chk := rfl
@[simp] theorem State.setFur_fog (k : Nat) (v : FurSt) : (s.setFur k v).fog = s.fog := rfl
@[simp] theorem State.setFur_tags (k : Nat) (v : FurSt) : (s.setFur k v).tags = s.tags := rfl
@[simp] theorem State.setFur_nextOrd (k : Nat) (v : FurSt) : (s.setFur k v).nextOrd = s.nextOrd := rfl
@[simp] theorem State.setFur_waiting (k : Nat) (v : FurSt) : (s.setFur k v).waiting = s.waiting := rfl
@[simp] theorem State.setFur_remain (k : Nat) (v : FurSt) : (s.setFur k v).remain = s.remain := rfl
@[simp] theorem State.setFur_upSpent (k : Nat) (v : FurSt) : (s.setFur k v).upSpent = s.upSpent := rfl
@[simp] theorem State.setFur_walk (k : Nat) (v : FurSt) : (s.setFur k v).walk = s.walk := rfl
@[simp] theorem State.setFur_walkTag (k : Nat) (v : FurSt) : (s.setFur k v).walkTag = s.walkTag := rfl
@[simp] theorem State.setFur_pcs (k : Nat) (v : FurSt) : (s.setFur k v).pcs = s.pcs := rfl
@[simp] theorem State.setFur_hmcs (k : Nat) (v : FurSt) : (s.setFur k v).hmcs = s.hmcs := rfl
@[simp] theorem State.setFur_walkers (k : Nat) (v : FurSt) : (s.setFur k v).walkers = s.walkers := rfl
@[simp] theorem State.setFur_ranges (k : Nat) (v : FurSt) : (s.setFur k v).ranges = s.ranges := rfl
@[simp] theorem State.setFur_autoInit (k : Nat) (v : FurSt) : (s.setFur k v).autoInit = s.autoInit := rfl
@[simp] theorem State.setFur_resv (k : Nat) (v : FurSt) : (s.setFur k v).resv = s.resv := rfl
@[simp] theorem State.setFur_basins (k : Nat) (v : FurSt) : (s.setFur k v).basins = s.basins := rfl
@[simp] theorem State.setFur_xbar (k : Nat) (v : FurSt) : (s.setFur k v).xbar = s.xbar := rfl
@[simp] theorem State.setFur_code (k : Nat) (v : FurSt) : (s.setFur k v).code = s.code := rfl
@[simp] theorem State.setFur_stores (k : Nat) (v : FurSt) : (s.setFur k v).stores = s.stores := rfl
@[simp] theorem State.setFur_mods (k : Nat) (v : FurSt) : (s.setFur k v).mods = s.mods := rfl
@[simp] theorem State.setFur_turns (k : Nat) (v : FurSt) : (s.setFur k v).turns = s.turns := rfl
@[simp] theorem State.setFur_swaps (k : Nat) (v : FurSt) : (s.setFur k v).swaps = s.swaps := rfl
@[simp] theorem State.setFur_boot (k : Nat) (v : FurSt) : (s.setFur k v).boot = s.boot := rfl
@[simp] theorem State.setFur_upd (k : Nat) (v : FurSt) : (s.setFur k v).upd = s.upd := rfl
@[simp] theorem State.setFur_pow (k : Nat) (v : FurSt) : (s.setFur k v).pow = s.pow := rfl
@[simp] theorem State.setFur_engs (k : Nat) (v : FurSt) : (s.setFur k v).engs = s.engs := rfl
@[simp] theorem State.setFur_patchRam (k : Nat) (v : FurSt) : (s.setFur k v).patchRam = s.patchRam := rfl
@[simp] theorem State.setFur_loaders (k : Nat) (v : FurSt) : (s.setFur k v).loaders = s.loaders := rfl
@[simp] theorem State.setFur_rings (k : Nat) (v : FurSt) : (s.setFur k v).rings = s.rings := rfl
@[simp] theorem State.setFur_cfes (k : Nat) (v : FurSt) : (s.setFur k v).cfes = s.cfes := rfl
@[simp] theorem State.setFur_cists (k : Nat) (v : FurSt) : (s.setFur k v).cists = s.cists := rfl
@[simp] theorem State.setFur_closed (k : Nat) (v : FurSt) : (s.setFur k v).closed = s.closed := rfl
@[simp] theorem State.setFur_nextClosed (k : Nat) (v : FurSt) : (s.setFur k v).nextClosed = s.nextClosed := rfl
@[simp] theorem State.setFur_draining (k : Nat) (v : FurSt) : (s.setFur k v).draining = s.draining := rfl
@[simp] theorem State.setFur_flt (k : Nat) (v : FurSt) : (s.setFur k v).flt = s.flt := rfl
@[simp] theorem State.setFur_wm (k : Nat) (v : FurSt) : (s.setFur k v).wm = s.wm := rfl
@[simp] theorem State.setFur_gau (k : Nat) (v : FurSt) : (s.setFur k v).gau = s.gau := rfl
@[simp] theorem State.setFur_tap (k : Nat) (v : FurSt) : (s.setFur k v).tap = s.tap := rfl
@[simp] theorem State.get_setFur (k : Nat) (v : FurSt) (f' : Field) (i' j' k' : Nat) : (s.setFur k v).get f' i' j' k' = s.get f' i' j' k' := rfl

/-! What setEng leaves. -/
@[simp] theorem State.setEng_pending (k : Nat) (v : EngSt) : (s.setEng k v).pending = s.pending := rfl
@[simp] theorem State.setEng_part (k : Nat) (v : EngSt) : (s.setEng k v).part = s.part := rfl
@[simp] theorem State.setEng_ingress (k : Nat) (v : EngSt) : (s.setEng k v).ingress = s.ingress := rfl
@[simp] theorem State.setEng_owed (k : Nat) (v : EngSt) : (s.setEng k v).owed = s.owed := rfl
@[simp] theorem State.setEng_unaudited (k : Nat) (v : EngSt) : (s.setEng k v).unaudited = s.unaudited := rfl
@[simp] theorem State.setEng_served (k : Nat) (v : EngSt) : (s.setEng k v).served = s.served := rfl
@[simp] theorem State.setEng_qdrs (k : Nat) (v : EngSt) : (s.setEng k v).qdrs = s.qdrs := rfl
@[simp] theorem State.setEng_pipes (k : Nat) (v : EngSt) : (s.setEng k v).pipes = s.pipes := rfl
@[simp] theorem State.setEng_fabs (k : Nat) (v : EngSt) : (s.setEng k v).fabs = s.fabs := rfl
@[simp] theorem State.setEng_elapsed (k : Nat) (v : EngSt) : (s.setEng k v).elapsed = s.elapsed := rfl
@[simp] theorem State.setEng_csr (k : Nat) (v : EngSt) : (s.setEng k v).csr = s.csr := rfl
@[simp] theorem State.setEng_settings (k : Nat) (v : EngSt) : (s.setEng k v).settings = s.settings := rfl
@[simp] theorem State.setEng_mem (k : Nat) (v : EngSt) : (s.setEng k v).mem = s.mem := rfl
@[simp] theorem State.setEng_resp (k : Nat) (v : EngSt) : (s.setEng k v).resp = s.resp := rfl
@[simp] theorem State.setEng_out (k : Nat) (v : EngSt) : (s.setEng k v).out = s.out := rfl
@[simp] theorem State.setEng_free (k : Nat) (v : EngSt) : (s.setEng k v).free = s.free := rfl
@[simp] theorem State.setEng_ledg (k : Nat) (v : EngSt) : (s.setEng k v).ledg = s.ledg := rfl
@[simp] theorem State.setEng_events (k : Nat) (v : EngSt) : (s.setEng k v).events = s.events := rfl
@[simp] theorem State.setEng_evSeq (k : Nat) (v : EngSt) : (s.setEng k v).evSeq = s.evSeq := rfl
@[simp] theorem State.setEng_evBook (k : Nat) (v : EngSt) : (s.setEng k v).evBook = s.evBook := rfl
@[simp] theorem State.setEng_cxl (k : Nat) (v : EngSt) : (s.setEng k v).cxl = s.cxl := rfl
@[simp] theorem State.setEng_copy (k : Nat) (v : EngSt) : (s.setEng k v).copy = s.copy := rfl
@[simp] theorem State.setEng_time (k : Nat) (v : EngSt) : (s.setEng k v).time = s.time := rfl
@[simp] theorem State.setEng_slaves (k : Nat) (v : EngSt) : (s.setEng k v).slaves = s.slaves := rfl
@[simp] theorem State.setEng_lanes (k : Nat) (v : EngSt) : (s.setEng k v).lanes = s.lanes := rfl
@[simp] theorem State.setEng_ports (k : Nat) (v : EngSt) : (s.setEng k v).ports = s.ports := rfl
@[simp] theorem State.setEng_fields (k : Nat) (v : EngSt) : (s.setEng k v).fields = s.fields := rfl
@[simp] theorem State.setEng_chan (k : Nat) (v : EngSt) : (s.setEng k v).chan = s.chan := rfl
@[simp] theorem State.setEng_furs (k : Nat) (v : EngSt) : (s.setEng k v).furs = s.furs := rfl
@[simp] theorem State.setEng_chk (k : Nat) (v : EngSt) : (s.setEng k v).chk = s.chk := rfl
@[simp] theorem State.setEng_fog (k : Nat) (v : EngSt) : (s.setEng k v).fog = s.fog := rfl
@[simp] theorem State.setEng_tags (k : Nat) (v : EngSt) : (s.setEng k v).tags = s.tags := rfl
@[simp] theorem State.setEng_nextOrd (k : Nat) (v : EngSt) : (s.setEng k v).nextOrd = s.nextOrd := rfl
@[simp] theorem State.setEng_waiting (k : Nat) (v : EngSt) : (s.setEng k v).waiting = s.waiting := rfl
@[simp] theorem State.setEng_remain (k : Nat) (v : EngSt) : (s.setEng k v).remain = s.remain := rfl
@[simp] theorem State.setEng_upSpent (k : Nat) (v : EngSt) : (s.setEng k v).upSpent = s.upSpent := rfl
@[simp] theorem State.setEng_walk (k : Nat) (v : EngSt) : (s.setEng k v).walk = s.walk := rfl
@[simp] theorem State.setEng_walkTag (k : Nat) (v : EngSt) : (s.setEng k v).walkTag = s.walkTag := rfl
@[simp] theorem State.setEng_pcs (k : Nat) (v : EngSt) : (s.setEng k v).pcs = s.pcs := rfl
@[simp] theorem State.setEng_hmcs (k : Nat) (v : EngSt) : (s.setEng k v).hmcs = s.hmcs := rfl
@[simp] theorem State.setEng_walkers (k : Nat) (v : EngSt) : (s.setEng k v).walkers = s.walkers := rfl
@[simp] theorem State.setEng_ranges (k : Nat) (v : EngSt) : (s.setEng k v).ranges = s.ranges := rfl
@[simp] theorem State.setEng_autoInit (k : Nat) (v : EngSt) : (s.setEng k v).autoInit = s.autoInit := rfl
@[simp] theorem State.setEng_resv (k : Nat) (v : EngSt) : (s.setEng k v).resv = s.resv := rfl
@[simp] theorem State.setEng_basins (k : Nat) (v : EngSt) : (s.setEng k v).basins = s.basins := rfl
@[simp] theorem State.setEng_xbar (k : Nat) (v : EngSt) : (s.setEng k v).xbar = s.xbar := rfl
@[simp] theorem State.setEng_code (k : Nat) (v : EngSt) : (s.setEng k v).code = s.code := rfl
@[simp] theorem State.setEng_stores (k : Nat) (v : EngSt) : (s.setEng k v).stores = s.stores := rfl
@[simp] theorem State.setEng_mods (k : Nat) (v : EngSt) : (s.setEng k v).mods = s.mods := rfl
@[simp] theorem State.setEng_turns (k : Nat) (v : EngSt) : (s.setEng k v).turns = s.turns := rfl
@[simp] theorem State.setEng_swaps (k : Nat) (v : EngSt) : (s.setEng k v).swaps = s.swaps := rfl
@[simp] theorem State.setEng_boot (k : Nat) (v : EngSt) : (s.setEng k v).boot = s.boot := rfl
@[simp] theorem State.setEng_upd (k : Nat) (v : EngSt) : (s.setEng k v).upd = s.upd := rfl
@[simp] theorem State.setEng_pow (k : Nat) (v : EngSt) : (s.setEng k v).pow = s.pow := rfl
@[simp] theorem State.setEng_patchRam (k : Nat) (v : EngSt) : (s.setEng k v).patchRam = s.patchRam := rfl
@[simp] theorem State.setEng_loaders (k : Nat) (v : EngSt) : (s.setEng k v).loaders = s.loaders := rfl
@[simp] theorem State.setEng_rings (k : Nat) (v : EngSt) : (s.setEng k v).rings = s.rings := rfl
@[simp] theorem State.setEng_cfes (k : Nat) (v : EngSt) : (s.setEng k v).cfes = s.cfes := rfl
@[simp] theorem State.setEng_cists (k : Nat) (v : EngSt) : (s.setEng k v).cists = s.cists := rfl
@[simp] theorem State.setEng_closed (k : Nat) (v : EngSt) : (s.setEng k v).closed = s.closed := rfl
@[simp] theorem State.setEng_nextClosed (k : Nat) (v : EngSt) : (s.setEng k v).nextClosed = s.nextClosed := rfl
@[simp] theorem State.setEng_draining (k : Nat) (v : EngSt) : (s.setEng k v).draining = s.draining := rfl
@[simp] theorem State.setEng_flt (k : Nat) (v : EngSt) : (s.setEng k v).flt = s.flt := rfl
@[simp] theorem State.setEng_wm (k : Nat) (v : EngSt) : (s.setEng k v).wm = s.wm := rfl
@[simp] theorem State.setEng_gau (k : Nat) (v : EngSt) : (s.setEng k v).gau = s.gau := rfl
@[simp] theorem State.setEng_tap (k : Nat) (v : EngSt) : (s.setEng k v).tap = s.tap := rfl
@[simp] theorem State.get_setEng (k : Nat) (v : EngSt) (f' : Field) (i' j' k' : Nat) : (s.setEng k v).get f' i' j' k' = s.get f' i' j' k' := rfl

/-! What setSlave leaves. -/
@[simp] theorem State.setSlave_pending (k : Nat) (v : SlaveSt) : (s.setSlave k v).pending = s.pending := rfl
@[simp] theorem State.setSlave_part (k : Nat) (v : SlaveSt) : (s.setSlave k v).part = s.part := rfl
@[simp] theorem State.setSlave_ingress (k : Nat) (v : SlaveSt) : (s.setSlave k v).ingress = s.ingress := rfl
@[simp] theorem State.setSlave_owed (k : Nat) (v : SlaveSt) : (s.setSlave k v).owed = s.owed := rfl
@[simp] theorem State.setSlave_unaudited (k : Nat) (v : SlaveSt) : (s.setSlave k v).unaudited = s.unaudited := rfl
@[simp] theorem State.setSlave_served (k : Nat) (v : SlaveSt) : (s.setSlave k v).served = s.served := rfl
@[simp] theorem State.setSlave_qdrs (k : Nat) (v : SlaveSt) : (s.setSlave k v).qdrs = s.qdrs := rfl
@[simp] theorem State.setSlave_pipes (k : Nat) (v : SlaveSt) : (s.setSlave k v).pipes = s.pipes := rfl
@[simp] theorem State.setSlave_fabs (k : Nat) (v : SlaveSt) : (s.setSlave k v).fabs = s.fabs := rfl
@[simp] theorem State.setSlave_elapsed (k : Nat) (v : SlaveSt) : (s.setSlave k v).elapsed = s.elapsed := rfl
@[simp] theorem State.setSlave_csr (k : Nat) (v : SlaveSt) : (s.setSlave k v).csr = s.csr := rfl
@[simp] theorem State.setSlave_settings (k : Nat) (v : SlaveSt) : (s.setSlave k v).settings = s.settings := rfl
@[simp] theorem State.setSlave_mem (k : Nat) (v : SlaveSt) : (s.setSlave k v).mem = s.mem := rfl
@[simp] theorem State.setSlave_resp (k : Nat) (v : SlaveSt) : (s.setSlave k v).resp = s.resp := rfl
@[simp] theorem State.setSlave_out (k : Nat) (v : SlaveSt) : (s.setSlave k v).out = s.out := rfl
@[simp] theorem State.setSlave_free (k : Nat) (v : SlaveSt) : (s.setSlave k v).free = s.free := rfl
@[simp] theorem State.setSlave_ledg (k : Nat) (v : SlaveSt) : (s.setSlave k v).ledg = s.ledg := rfl
@[simp] theorem State.setSlave_events (k : Nat) (v : SlaveSt) : (s.setSlave k v).events = s.events := rfl
@[simp] theorem State.setSlave_evSeq (k : Nat) (v : SlaveSt) : (s.setSlave k v).evSeq = s.evSeq := rfl
@[simp] theorem State.setSlave_evBook (k : Nat) (v : SlaveSt) : (s.setSlave k v).evBook = s.evBook := rfl
@[simp] theorem State.setSlave_cxl (k : Nat) (v : SlaveSt) : (s.setSlave k v).cxl = s.cxl := rfl
@[simp] theorem State.setSlave_copy (k : Nat) (v : SlaveSt) : (s.setSlave k v).copy = s.copy := rfl
@[simp] theorem State.setSlave_time (k : Nat) (v : SlaveSt) : (s.setSlave k v).time = s.time := rfl
@[simp] theorem State.setSlave_lanes (k : Nat) (v : SlaveSt) : (s.setSlave k v).lanes = s.lanes := rfl
@[simp] theorem State.setSlave_ports (k : Nat) (v : SlaveSt) : (s.setSlave k v).ports = s.ports := rfl
@[simp] theorem State.setSlave_fields (k : Nat) (v : SlaveSt) : (s.setSlave k v).fields = s.fields := rfl
@[simp] theorem State.setSlave_chan (k : Nat) (v : SlaveSt) : (s.setSlave k v).chan = s.chan := rfl
@[simp] theorem State.setSlave_furs (k : Nat) (v : SlaveSt) : (s.setSlave k v).furs = s.furs := rfl
@[simp] theorem State.setSlave_chk (k : Nat) (v : SlaveSt) : (s.setSlave k v).chk = s.chk := rfl
@[simp] theorem State.setSlave_fog (k : Nat) (v : SlaveSt) : (s.setSlave k v).fog = s.fog := rfl
@[simp] theorem State.setSlave_tags (k : Nat) (v : SlaveSt) : (s.setSlave k v).tags = s.tags := rfl
@[simp] theorem State.setSlave_nextOrd (k : Nat) (v : SlaveSt) : (s.setSlave k v).nextOrd = s.nextOrd := rfl
@[simp] theorem State.setSlave_waiting (k : Nat) (v : SlaveSt) : (s.setSlave k v).waiting = s.waiting := rfl
@[simp] theorem State.setSlave_remain (k : Nat) (v : SlaveSt) : (s.setSlave k v).remain = s.remain := rfl
@[simp] theorem State.setSlave_upSpent (k : Nat) (v : SlaveSt) : (s.setSlave k v).upSpent = s.upSpent := rfl
@[simp] theorem State.setSlave_walk (k : Nat) (v : SlaveSt) : (s.setSlave k v).walk = s.walk := rfl
@[simp] theorem State.setSlave_walkTag (k : Nat) (v : SlaveSt) : (s.setSlave k v).walkTag = s.walkTag := rfl
@[simp] theorem State.setSlave_pcs (k : Nat) (v : SlaveSt) : (s.setSlave k v).pcs = s.pcs := rfl
@[simp] theorem State.setSlave_hmcs (k : Nat) (v : SlaveSt) : (s.setSlave k v).hmcs = s.hmcs := rfl
@[simp] theorem State.setSlave_walkers (k : Nat) (v : SlaveSt) : (s.setSlave k v).walkers = s.walkers := rfl
@[simp] theorem State.setSlave_ranges (k : Nat) (v : SlaveSt) : (s.setSlave k v).ranges = s.ranges := rfl
@[simp] theorem State.setSlave_autoInit (k : Nat) (v : SlaveSt) : (s.setSlave k v).autoInit = s.autoInit := rfl
@[simp] theorem State.setSlave_resv (k : Nat) (v : SlaveSt) : (s.setSlave k v).resv = s.resv := rfl
@[simp] theorem State.setSlave_basins (k : Nat) (v : SlaveSt) : (s.setSlave k v).basins = s.basins := rfl
@[simp] theorem State.setSlave_xbar (k : Nat) (v : SlaveSt) : (s.setSlave k v).xbar = s.xbar := rfl
@[simp] theorem State.setSlave_code (k : Nat) (v : SlaveSt) : (s.setSlave k v).code = s.code := rfl
@[simp] theorem State.setSlave_stores (k : Nat) (v : SlaveSt) : (s.setSlave k v).stores = s.stores := rfl
@[simp] theorem State.setSlave_mods (k : Nat) (v : SlaveSt) : (s.setSlave k v).mods = s.mods := rfl
@[simp] theorem State.setSlave_turns (k : Nat) (v : SlaveSt) : (s.setSlave k v).turns = s.turns := rfl
@[simp] theorem State.setSlave_swaps (k : Nat) (v : SlaveSt) : (s.setSlave k v).swaps = s.swaps := rfl
@[simp] theorem State.setSlave_boot (k : Nat) (v : SlaveSt) : (s.setSlave k v).boot = s.boot := rfl
@[simp] theorem State.setSlave_upd (k : Nat) (v : SlaveSt) : (s.setSlave k v).upd = s.upd := rfl
@[simp] theorem State.setSlave_pow (k : Nat) (v : SlaveSt) : (s.setSlave k v).pow = s.pow := rfl
@[simp] theorem State.setSlave_engs (k : Nat) (v : SlaveSt) : (s.setSlave k v).engs = s.engs := rfl
@[simp] theorem State.setSlave_patchRam (k : Nat) (v : SlaveSt) : (s.setSlave k v).patchRam = s.patchRam := rfl
@[simp] theorem State.setSlave_loaders (k : Nat) (v : SlaveSt) : (s.setSlave k v).loaders = s.loaders := rfl
@[simp] theorem State.setSlave_rings (k : Nat) (v : SlaveSt) : (s.setSlave k v).rings = s.rings := rfl
@[simp] theorem State.setSlave_cfes (k : Nat) (v : SlaveSt) : (s.setSlave k v).cfes = s.cfes := rfl
@[simp] theorem State.setSlave_cists (k : Nat) (v : SlaveSt) : (s.setSlave k v).cists = s.cists := rfl
@[simp] theorem State.setSlave_closed (k : Nat) (v : SlaveSt) : (s.setSlave k v).closed = s.closed := rfl
@[simp] theorem State.setSlave_nextClosed (k : Nat) (v : SlaveSt) : (s.setSlave k v).nextClosed = s.nextClosed := rfl
@[simp] theorem State.setSlave_draining (k : Nat) (v : SlaveSt) : (s.setSlave k v).draining = s.draining := rfl
@[simp] theorem State.setSlave_flt (k : Nat) (v : SlaveSt) : (s.setSlave k v).flt = s.flt := rfl
@[simp] theorem State.setSlave_wm (k : Nat) (v : SlaveSt) : (s.setSlave k v).wm = s.wm := rfl
@[simp] theorem State.setSlave_gau (k : Nat) (v : SlaveSt) : (s.setSlave k v).gau = s.gau := rfl
@[simp] theorem State.setSlave_tap (k : Nat) (v : SlaveSt) : (s.setSlave k v).tap = s.tap := rfl
@[simp] theorem State.get_setSlave (k : Nat) (v : SlaveSt) (f' : Field) (i' j' k' : Nat) : (s.setSlave k v).get f' i' j' k' = s.get f' i' j' k' := rfl

/-! What setCfe leaves. -/
@[simp] theorem State.setCfe_pending (k : Nat) (v : CfeSt) : (s.setCfe k v).pending = s.pending := rfl
@[simp] theorem State.setCfe_part (k : Nat) (v : CfeSt) : (s.setCfe k v).part = s.part := rfl
@[simp] theorem State.setCfe_ingress (k : Nat) (v : CfeSt) : (s.setCfe k v).ingress = s.ingress := rfl
@[simp] theorem State.setCfe_owed (k : Nat) (v : CfeSt) : (s.setCfe k v).owed = s.owed := rfl
@[simp] theorem State.setCfe_unaudited (k : Nat) (v : CfeSt) : (s.setCfe k v).unaudited = s.unaudited := rfl
@[simp] theorem State.setCfe_served (k : Nat) (v : CfeSt) : (s.setCfe k v).served = s.served := rfl
@[simp] theorem State.setCfe_qdrs (k : Nat) (v : CfeSt) : (s.setCfe k v).qdrs = s.qdrs := rfl
@[simp] theorem State.setCfe_pipes (k : Nat) (v : CfeSt) : (s.setCfe k v).pipes = s.pipes := rfl
@[simp] theorem State.setCfe_fabs (k : Nat) (v : CfeSt) : (s.setCfe k v).fabs = s.fabs := rfl
@[simp] theorem State.setCfe_elapsed (k : Nat) (v : CfeSt) : (s.setCfe k v).elapsed = s.elapsed := rfl
@[simp] theorem State.setCfe_csr (k : Nat) (v : CfeSt) : (s.setCfe k v).csr = s.csr := rfl
@[simp] theorem State.setCfe_settings (k : Nat) (v : CfeSt) : (s.setCfe k v).settings = s.settings := rfl
@[simp] theorem State.setCfe_mem (k : Nat) (v : CfeSt) : (s.setCfe k v).mem = s.mem := rfl
@[simp] theorem State.setCfe_resp (k : Nat) (v : CfeSt) : (s.setCfe k v).resp = s.resp := rfl
@[simp] theorem State.setCfe_out (k : Nat) (v : CfeSt) : (s.setCfe k v).out = s.out := rfl
@[simp] theorem State.setCfe_free (k : Nat) (v : CfeSt) : (s.setCfe k v).free = s.free := rfl
@[simp] theorem State.setCfe_ledg (k : Nat) (v : CfeSt) : (s.setCfe k v).ledg = s.ledg := rfl
@[simp] theorem State.setCfe_events (k : Nat) (v : CfeSt) : (s.setCfe k v).events = s.events := rfl
@[simp] theorem State.setCfe_evSeq (k : Nat) (v : CfeSt) : (s.setCfe k v).evSeq = s.evSeq := rfl
@[simp] theorem State.setCfe_evBook (k : Nat) (v : CfeSt) : (s.setCfe k v).evBook = s.evBook := rfl
@[simp] theorem State.setCfe_cxl (k : Nat) (v : CfeSt) : (s.setCfe k v).cxl = s.cxl := rfl
@[simp] theorem State.setCfe_copy (k : Nat) (v : CfeSt) : (s.setCfe k v).copy = s.copy := rfl
@[simp] theorem State.setCfe_time (k : Nat) (v : CfeSt) : (s.setCfe k v).time = s.time := rfl
@[simp] theorem State.setCfe_slaves (k : Nat) (v : CfeSt) : (s.setCfe k v).slaves = s.slaves := rfl
@[simp] theorem State.setCfe_lanes (k : Nat) (v : CfeSt) : (s.setCfe k v).lanes = s.lanes := rfl
@[simp] theorem State.setCfe_ports (k : Nat) (v : CfeSt) : (s.setCfe k v).ports = s.ports := rfl
@[simp] theorem State.setCfe_fields (k : Nat) (v : CfeSt) : (s.setCfe k v).fields = s.fields := rfl
@[simp] theorem State.setCfe_chan (k : Nat) (v : CfeSt) : (s.setCfe k v).chan = s.chan := rfl
@[simp] theorem State.setCfe_furs (k : Nat) (v : CfeSt) : (s.setCfe k v).furs = s.furs := rfl
@[simp] theorem State.setCfe_chk (k : Nat) (v : CfeSt) : (s.setCfe k v).chk = s.chk := rfl
@[simp] theorem State.setCfe_fog (k : Nat) (v : CfeSt) : (s.setCfe k v).fog = s.fog := rfl
@[simp] theorem State.setCfe_tags (k : Nat) (v : CfeSt) : (s.setCfe k v).tags = s.tags := rfl
@[simp] theorem State.setCfe_nextOrd (k : Nat) (v : CfeSt) : (s.setCfe k v).nextOrd = s.nextOrd := rfl
@[simp] theorem State.setCfe_waiting (k : Nat) (v : CfeSt) : (s.setCfe k v).waiting = s.waiting := rfl
@[simp] theorem State.setCfe_remain (k : Nat) (v : CfeSt) : (s.setCfe k v).remain = s.remain := rfl
@[simp] theorem State.setCfe_upSpent (k : Nat) (v : CfeSt) : (s.setCfe k v).upSpent = s.upSpent := rfl
@[simp] theorem State.setCfe_walk (k : Nat) (v : CfeSt) : (s.setCfe k v).walk = s.walk := rfl
@[simp] theorem State.setCfe_walkTag (k : Nat) (v : CfeSt) : (s.setCfe k v).walkTag = s.walkTag := rfl
@[simp] theorem State.setCfe_pcs (k : Nat) (v : CfeSt) : (s.setCfe k v).pcs = s.pcs := rfl
@[simp] theorem State.setCfe_hmcs (k : Nat) (v : CfeSt) : (s.setCfe k v).hmcs = s.hmcs := rfl
@[simp] theorem State.setCfe_walkers (k : Nat) (v : CfeSt) : (s.setCfe k v).walkers = s.walkers := rfl
@[simp] theorem State.setCfe_ranges (k : Nat) (v : CfeSt) : (s.setCfe k v).ranges = s.ranges := rfl
@[simp] theorem State.setCfe_autoInit (k : Nat) (v : CfeSt) : (s.setCfe k v).autoInit = s.autoInit := rfl
@[simp] theorem State.setCfe_resv (k : Nat) (v : CfeSt) : (s.setCfe k v).resv = s.resv := rfl
@[simp] theorem State.setCfe_basins (k : Nat) (v : CfeSt) : (s.setCfe k v).basins = s.basins := rfl
@[simp] theorem State.setCfe_xbar (k : Nat) (v : CfeSt) : (s.setCfe k v).xbar = s.xbar := rfl
@[simp] theorem State.setCfe_code (k : Nat) (v : CfeSt) : (s.setCfe k v).code = s.code := rfl
@[simp] theorem State.setCfe_stores (k : Nat) (v : CfeSt) : (s.setCfe k v).stores = s.stores := rfl
@[simp] theorem State.setCfe_mods (k : Nat) (v : CfeSt) : (s.setCfe k v).mods = s.mods := rfl
@[simp] theorem State.setCfe_turns (k : Nat) (v : CfeSt) : (s.setCfe k v).turns = s.turns := rfl
@[simp] theorem State.setCfe_swaps (k : Nat) (v : CfeSt) : (s.setCfe k v).swaps = s.swaps := rfl
@[simp] theorem State.setCfe_boot (k : Nat) (v : CfeSt) : (s.setCfe k v).boot = s.boot := rfl
@[simp] theorem State.setCfe_upd (k : Nat) (v : CfeSt) : (s.setCfe k v).upd = s.upd := rfl
@[simp] theorem State.setCfe_pow (k : Nat) (v : CfeSt) : (s.setCfe k v).pow = s.pow := rfl
@[simp] theorem State.setCfe_engs (k : Nat) (v : CfeSt) : (s.setCfe k v).engs = s.engs := rfl
@[simp] theorem State.setCfe_patchRam (k : Nat) (v : CfeSt) : (s.setCfe k v).patchRam = s.patchRam := rfl
@[simp] theorem State.setCfe_loaders (k : Nat) (v : CfeSt) : (s.setCfe k v).loaders = s.loaders := rfl
@[simp] theorem State.setCfe_rings (k : Nat) (v : CfeSt) : (s.setCfe k v).rings = s.rings := rfl
@[simp] theorem State.setCfe_cists (k : Nat) (v : CfeSt) : (s.setCfe k v).cists = s.cists := rfl
@[simp] theorem State.setCfe_closed (k : Nat) (v : CfeSt) : (s.setCfe k v).closed = s.closed := rfl
@[simp] theorem State.setCfe_nextClosed (k : Nat) (v : CfeSt) : (s.setCfe k v).nextClosed = s.nextClosed := rfl
@[simp] theorem State.setCfe_draining (k : Nat) (v : CfeSt) : (s.setCfe k v).draining = s.draining := rfl
@[simp] theorem State.setCfe_flt (k : Nat) (v : CfeSt) : (s.setCfe k v).flt = s.flt := rfl
@[simp] theorem State.setCfe_wm (k : Nat) (v : CfeSt) : (s.setCfe k v).wm = s.wm := rfl
@[simp] theorem State.setCfe_gau (k : Nat) (v : CfeSt) : (s.setCfe k v).gau = s.gau := rfl
@[simp] theorem State.setCfe_tap (k : Nat) (v : CfeSt) : (s.setCfe k v).tap = s.tap := rfl
@[simp] theorem State.get_setCfe (k : Nat) (v : CfeSt) (f' : Field) (i' j' k' : Nat) : (s.setCfe k v).get f' i' j' k' = s.get f' i' j' k' := rfl

/-! What setCist leaves. -/
@[simp] theorem State.setCist_pending (k : Nat) (v : CistSt) : (s.setCist k v).pending = s.pending := rfl
@[simp] theorem State.setCist_part (k : Nat) (v : CistSt) : (s.setCist k v).part = s.part := rfl
@[simp] theorem State.setCist_ingress (k : Nat) (v : CistSt) : (s.setCist k v).ingress = s.ingress := rfl
@[simp] theorem State.setCist_owed (k : Nat) (v : CistSt) : (s.setCist k v).owed = s.owed := rfl
@[simp] theorem State.setCist_unaudited (k : Nat) (v : CistSt) : (s.setCist k v).unaudited = s.unaudited := rfl
@[simp] theorem State.setCist_served (k : Nat) (v : CistSt) : (s.setCist k v).served = s.served := rfl
@[simp] theorem State.setCist_qdrs (k : Nat) (v : CistSt) : (s.setCist k v).qdrs = s.qdrs := rfl
@[simp] theorem State.setCist_pipes (k : Nat) (v : CistSt) : (s.setCist k v).pipes = s.pipes := rfl
@[simp] theorem State.setCist_fabs (k : Nat) (v : CistSt) : (s.setCist k v).fabs = s.fabs := rfl
@[simp] theorem State.setCist_elapsed (k : Nat) (v : CistSt) : (s.setCist k v).elapsed = s.elapsed := rfl
@[simp] theorem State.setCist_csr (k : Nat) (v : CistSt) : (s.setCist k v).csr = s.csr := rfl
@[simp] theorem State.setCist_settings (k : Nat) (v : CistSt) : (s.setCist k v).settings = s.settings := rfl
@[simp] theorem State.setCist_mem (k : Nat) (v : CistSt) : (s.setCist k v).mem = s.mem := rfl
@[simp] theorem State.setCist_resp (k : Nat) (v : CistSt) : (s.setCist k v).resp = s.resp := rfl
@[simp] theorem State.setCist_out (k : Nat) (v : CistSt) : (s.setCist k v).out = s.out := rfl
@[simp] theorem State.setCist_free (k : Nat) (v : CistSt) : (s.setCist k v).free = s.free := rfl
@[simp] theorem State.setCist_ledg (k : Nat) (v : CistSt) : (s.setCist k v).ledg = s.ledg := rfl
@[simp] theorem State.setCist_events (k : Nat) (v : CistSt) : (s.setCist k v).events = s.events := rfl
@[simp] theorem State.setCist_evSeq (k : Nat) (v : CistSt) : (s.setCist k v).evSeq = s.evSeq := rfl
@[simp] theorem State.setCist_evBook (k : Nat) (v : CistSt) : (s.setCist k v).evBook = s.evBook := rfl
@[simp] theorem State.setCist_cxl (k : Nat) (v : CistSt) : (s.setCist k v).cxl = s.cxl := rfl
@[simp] theorem State.setCist_copy (k : Nat) (v : CistSt) : (s.setCist k v).copy = s.copy := rfl
@[simp] theorem State.setCist_time (k : Nat) (v : CistSt) : (s.setCist k v).time = s.time := rfl
@[simp] theorem State.setCist_slaves (k : Nat) (v : CistSt) : (s.setCist k v).slaves = s.slaves := rfl
@[simp] theorem State.setCist_lanes (k : Nat) (v : CistSt) : (s.setCist k v).lanes = s.lanes := rfl
@[simp] theorem State.setCist_ports (k : Nat) (v : CistSt) : (s.setCist k v).ports = s.ports := rfl
@[simp] theorem State.setCist_fields (k : Nat) (v : CistSt) : (s.setCist k v).fields = s.fields := rfl
@[simp] theorem State.setCist_chan (k : Nat) (v : CistSt) : (s.setCist k v).chan = s.chan := rfl
@[simp] theorem State.setCist_furs (k : Nat) (v : CistSt) : (s.setCist k v).furs = s.furs := rfl
@[simp] theorem State.setCist_chk (k : Nat) (v : CistSt) : (s.setCist k v).chk = s.chk := rfl
@[simp] theorem State.setCist_fog (k : Nat) (v : CistSt) : (s.setCist k v).fog = s.fog := rfl
@[simp] theorem State.setCist_tags (k : Nat) (v : CistSt) : (s.setCist k v).tags = s.tags := rfl
@[simp] theorem State.setCist_nextOrd (k : Nat) (v : CistSt) : (s.setCist k v).nextOrd = s.nextOrd := rfl
@[simp] theorem State.setCist_waiting (k : Nat) (v : CistSt) : (s.setCist k v).waiting = s.waiting := rfl
@[simp] theorem State.setCist_remain (k : Nat) (v : CistSt) : (s.setCist k v).remain = s.remain := rfl
@[simp] theorem State.setCist_upSpent (k : Nat) (v : CistSt) : (s.setCist k v).upSpent = s.upSpent := rfl
@[simp] theorem State.setCist_walk (k : Nat) (v : CistSt) : (s.setCist k v).walk = s.walk := rfl
@[simp] theorem State.setCist_walkTag (k : Nat) (v : CistSt) : (s.setCist k v).walkTag = s.walkTag := rfl
@[simp] theorem State.setCist_pcs (k : Nat) (v : CistSt) : (s.setCist k v).pcs = s.pcs := rfl
@[simp] theorem State.setCist_hmcs (k : Nat) (v : CistSt) : (s.setCist k v).hmcs = s.hmcs := rfl
@[simp] theorem State.setCist_walkers (k : Nat) (v : CistSt) : (s.setCist k v).walkers = s.walkers := rfl
@[simp] theorem State.setCist_ranges (k : Nat) (v : CistSt) : (s.setCist k v).ranges = s.ranges := rfl
@[simp] theorem State.setCist_autoInit (k : Nat) (v : CistSt) : (s.setCist k v).autoInit = s.autoInit := rfl
@[simp] theorem State.setCist_resv (k : Nat) (v : CistSt) : (s.setCist k v).resv = s.resv := rfl
@[simp] theorem State.setCist_basins (k : Nat) (v : CistSt) : (s.setCist k v).basins = s.basins := rfl
@[simp] theorem State.setCist_xbar (k : Nat) (v : CistSt) : (s.setCist k v).xbar = s.xbar := rfl
@[simp] theorem State.setCist_code (k : Nat) (v : CistSt) : (s.setCist k v).code = s.code := rfl
@[simp] theorem State.setCist_stores (k : Nat) (v : CistSt) : (s.setCist k v).stores = s.stores := rfl
@[simp] theorem State.setCist_mods (k : Nat) (v : CistSt) : (s.setCist k v).mods = s.mods := rfl
@[simp] theorem State.setCist_turns (k : Nat) (v : CistSt) : (s.setCist k v).turns = s.turns := rfl
@[simp] theorem State.setCist_swaps (k : Nat) (v : CistSt) : (s.setCist k v).swaps = s.swaps := rfl
@[simp] theorem State.setCist_boot (k : Nat) (v : CistSt) : (s.setCist k v).boot = s.boot := rfl
@[simp] theorem State.setCist_upd (k : Nat) (v : CistSt) : (s.setCist k v).upd = s.upd := rfl
@[simp] theorem State.setCist_pow (k : Nat) (v : CistSt) : (s.setCist k v).pow = s.pow := rfl
@[simp] theorem State.setCist_engs (k : Nat) (v : CistSt) : (s.setCist k v).engs = s.engs := rfl
@[simp] theorem State.setCist_patchRam (k : Nat) (v : CistSt) : (s.setCist k v).patchRam = s.patchRam := rfl
@[simp] theorem State.setCist_loaders (k : Nat) (v : CistSt) : (s.setCist k v).loaders = s.loaders := rfl
@[simp] theorem State.setCist_rings (k : Nat) (v : CistSt) : (s.setCist k v).rings = s.rings := rfl
@[simp] theorem State.setCist_cfes (k : Nat) (v : CistSt) : (s.setCist k v).cfes = s.cfes := rfl
@[simp] theorem State.setCist_closed (k : Nat) (v : CistSt) : (s.setCist k v).closed = s.closed := rfl
@[simp] theorem State.setCist_nextClosed (k : Nat) (v : CistSt) : (s.setCist k v).nextClosed = s.nextClosed := rfl
@[simp] theorem State.setCist_draining (k : Nat) (v : CistSt) : (s.setCist k v).draining = s.draining := rfl
@[simp] theorem State.setCist_flt (k : Nat) (v : CistSt) : (s.setCist k v).flt = s.flt := rfl
@[simp] theorem State.setCist_wm (k : Nat) (v : CistSt) : (s.setCist k v).wm = s.wm := rfl
@[simp] theorem State.setCist_gau (k : Nat) (v : CistSt) : (s.setCist k v).gau = s.gau := rfl
@[simp] theorem State.setCist_tap (k : Nat) (v : CistSt) : (s.setCist k v).tap = s.tap := rfl
@[simp] theorem State.get_setCist (k : Nat) (v : CistSt) (f' : Field) (i' j' k' : Nat) : (s.setCist k v).get f' i' j' k' = s.get f' i' j' k' := rfl

/-! What setWalker leaves. -/
@[simp] theorem State.setWalker_pending (k : Nat) (v : WalkSt) : (s.setWalker k v).pending = s.pending := rfl
@[simp] theorem State.setWalker_part (k : Nat) (v : WalkSt) : (s.setWalker k v).part = s.part := rfl
@[simp] theorem State.setWalker_ingress (k : Nat) (v : WalkSt) : (s.setWalker k v).ingress = s.ingress := rfl
@[simp] theorem State.setWalker_owed (k : Nat) (v : WalkSt) : (s.setWalker k v).owed = s.owed := rfl
@[simp] theorem State.setWalker_unaudited (k : Nat) (v : WalkSt) : (s.setWalker k v).unaudited = s.unaudited := rfl
@[simp] theorem State.setWalker_served (k : Nat) (v : WalkSt) : (s.setWalker k v).served = s.served := rfl
@[simp] theorem State.setWalker_qdrs (k : Nat) (v : WalkSt) : (s.setWalker k v).qdrs = s.qdrs := rfl
@[simp] theorem State.setWalker_pipes (k : Nat) (v : WalkSt) : (s.setWalker k v).pipes = s.pipes := rfl
@[simp] theorem State.setWalker_fabs (k : Nat) (v : WalkSt) : (s.setWalker k v).fabs = s.fabs := rfl
@[simp] theorem State.setWalker_elapsed (k : Nat) (v : WalkSt) : (s.setWalker k v).elapsed = s.elapsed := rfl
@[simp] theorem State.setWalker_csr (k : Nat) (v : WalkSt) : (s.setWalker k v).csr = s.csr := rfl
@[simp] theorem State.setWalker_settings (k : Nat) (v : WalkSt) : (s.setWalker k v).settings = s.settings := rfl
@[simp] theorem State.setWalker_mem (k : Nat) (v : WalkSt) : (s.setWalker k v).mem = s.mem := rfl
@[simp] theorem State.setWalker_resp (k : Nat) (v : WalkSt) : (s.setWalker k v).resp = s.resp := rfl
@[simp] theorem State.setWalker_out (k : Nat) (v : WalkSt) : (s.setWalker k v).out = s.out := rfl
@[simp] theorem State.setWalker_free (k : Nat) (v : WalkSt) : (s.setWalker k v).free = s.free := rfl
@[simp] theorem State.setWalker_ledg (k : Nat) (v : WalkSt) : (s.setWalker k v).ledg = s.ledg := rfl
@[simp] theorem State.setWalker_events (k : Nat) (v : WalkSt) : (s.setWalker k v).events = s.events := rfl
@[simp] theorem State.setWalker_evSeq (k : Nat) (v : WalkSt) : (s.setWalker k v).evSeq = s.evSeq := rfl
@[simp] theorem State.setWalker_evBook (k : Nat) (v : WalkSt) : (s.setWalker k v).evBook = s.evBook := rfl
@[simp] theorem State.setWalker_cxl (k : Nat) (v : WalkSt) : (s.setWalker k v).cxl = s.cxl := rfl
@[simp] theorem State.setWalker_copy (k : Nat) (v : WalkSt) : (s.setWalker k v).copy = s.copy := rfl
@[simp] theorem State.setWalker_time (k : Nat) (v : WalkSt) : (s.setWalker k v).time = s.time := rfl
@[simp] theorem State.setWalker_slaves (k : Nat) (v : WalkSt) : (s.setWalker k v).slaves = s.slaves := rfl
@[simp] theorem State.setWalker_lanes (k : Nat) (v : WalkSt) : (s.setWalker k v).lanes = s.lanes := rfl
@[simp] theorem State.setWalker_ports (k : Nat) (v : WalkSt) : (s.setWalker k v).ports = s.ports := rfl
@[simp] theorem State.setWalker_fields (k : Nat) (v : WalkSt) : (s.setWalker k v).fields = s.fields := rfl
@[simp] theorem State.setWalker_chan (k : Nat) (v : WalkSt) : (s.setWalker k v).chan = s.chan := rfl
@[simp] theorem State.setWalker_furs (k : Nat) (v : WalkSt) : (s.setWalker k v).furs = s.furs := rfl
@[simp] theorem State.setWalker_chk (k : Nat) (v : WalkSt) : (s.setWalker k v).chk = s.chk := rfl
@[simp] theorem State.setWalker_fog (k : Nat) (v : WalkSt) : (s.setWalker k v).fog = s.fog := rfl
@[simp] theorem State.setWalker_tags (k : Nat) (v : WalkSt) : (s.setWalker k v).tags = s.tags := rfl
@[simp] theorem State.setWalker_nextOrd (k : Nat) (v : WalkSt) : (s.setWalker k v).nextOrd = s.nextOrd := rfl
@[simp] theorem State.setWalker_waiting (k : Nat) (v : WalkSt) : (s.setWalker k v).waiting = s.waiting := rfl
@[simp] theorem State.setWalker_remain (k : Nat) (v : WalkSt) : (s.setWalker k v).remain = s.remain := rfl
@[simp] theorem State.setWalker_upSpent (k : Nat) (v : WalkSt) : (s.setWalker k v).upSpent = s.upSpent := rfl
@[simp] theorem State.setWalker_walk (k : Nat) (v : WalkSt) : (s.setWalker k v).walk = s.walk := rfl
@[simp] theorem State.setWalker_walkTag (k : Nat) (v : WalkSt) : (s.setWalker k v).walkTag = s.walkTag := rfl
@[simp] theorem State.setWalker_pcs (k : Nat) (v : WalkSt) : (s.setWalker k v).pcs = s.pcs := rfl
@[simp] theorem State.setWalker_hmcs (k : Nat) (v : WalkSt) : (s.setWalker k v).hmcs = s.hmcs := rfl
@[simp] theorem State.setWalker_ranges (k : Nat) (v : WalkSt) : (s.setWalker k v).ranges = s.ranges := rfl
@[simp] theorem State.setWalker_autoInit (k : Nat) (v : WalkSt) : (s.setWalker k v).autoInit = s.autoInit := rfl
@[simp] theorem State.setWalker_resv (k : Nat) (v : WalkSt) : (s.setWalker k v).resv = s.resv := rfl
@[simp] theorem State.setWalker_basins (k : Nat) (v : WalkSt) : (s.setWalker k v).basins = s.basins := rfl
@[simp] theorem State.setWalker_xbar (k : Nat) (v : WalkSt) : (s.setWalker k v).xbar = s.xbar := rfl
@[simp] theorem State.setWalker_code (k : Nat) (v : WalkSt) : (s.setWalker k v).code = s.code := rfl
@[simp] theorem State.setWalker_stores (k : Nat) (v : WalkSt) : (s.setWalker k v).stores = s.stores := rfl
@[simp] theorem State.setWalker_mods (k : Nat) (v : WalkSt) : (s.setWalker k v).mods = s.mods := rfl
@[simp] theorem State.setWalker_turns (k : Nat) (v : WalkSt) : (s.setWalker k v).turns = s.turns := rfl
@[simp] theorem State.setWalker_swaps (k : Nat) (v : WalkSt) : (s.setWalker k v).swaps = s.swaps := rfl
@[simp] theorem State.setWalker_boot (k : Nat) (v : WalkSt) : (s.setWalker k v).boot = s.boot := rfl
@[simp] theorem State.setWalker_upd (k : Nat) (v : WalkSt) : (s.setWalker k v).upd = s.upd := rfl
@[simp] theorem State.setWalker_pow (k : Nat) (v : WalkSt) : (s.setWalker k v).pow = s.pow := rfl
@[simp] theorem State.setWalker_engs (k : Nat) (v : WalkSt) : (s.setWalker k v).engs = s.engs := rfl
@[simp] theorem State.setWalker_patchRam (k : Nat) (v : WalkSt) : (s.setWalker k v).patchRam = s.patchRam := rfl
@[simp] theorem State.setWalker_loaders (k : Nat) (v : WalkSt) : (s.setWalker k v).loaders = s.loaders := rfl
@[simp] theorem State.setWalker_rings (k : Nat) (v : WalkSt) : (s.setWalker k v).rings = s.rings := rfl
@[simp] theorem State.setWalker_cfes (k : Nat) (v : WalkSt) : (s.setWalker k v).cfes = s.cfes := rfl
@[simp] theorem State.setWalker_cists (k : Nat) (v : WalkSt) : (s.setWalker k v).cists = s.cists := rfl
@[simp] theorem State.setWalker_closed (k : Nat) (v : WalkSt) : (s.setWalker k v).closed = s.closed := rfl
@[simp] theorem State.setWalker_nextClosed (k : Nat) (v : WalkSt) : (s.setWalker k v).nextClosed = s.nextClosed := rfl
@[simp] theorem State.setWalker_draining (k : Nat) (v : WalkSt) : (s.setWalker k v).draining = s.draining := rfl
@[simp] theorem State.setWalker_flt (k : Nat) (v : WalkSt) : (s.setWalker k v).flt = s.flt := rfl
@[simp] theorem State.setWalker_wm (k : Nat) (v : WalkSt) : (s.setWalker k v).wm = s.wm := rfl
@[simp] theorem State.setWalker_gau (k : Nat) (v : WalkSt) : (s.setWalker k v).gau = s.gau := rfl
@[simp] theorem State.setWalker_tap (k : Nat) (v : WalkSt) : (s.setWalker k v).tap = s.tap := rfl
@[simp] theorem State.get_setWalker (k : Nat) (v : WalkSt) (f' : Field) (i' j' k' : Nat) : (s.setWalker k v).get f' i' j' k' = s.get f' i' j' k' := rfl

/-! What setHmc leaves. -/
@[simp] theorem State.setHmc_pending (k : Nat) (v : HmcSt) : (s.setHmc k v).pending = s.pending := rfl
@[simp] theorem State.setHmc_part (k : Nat) (v : HmcSt) : (s.setHmc k v).part = s.part := rfl
@[simp] theorem State.setHmc_ingress (k : Nat) (v : HmcSt) : (s.setHmc k v).ingress = s.ingress := rfl
@[simp] theorem State.setHmc_owed (k : Nat) (v : HmcSt) : (s.setHmc k v).owed = s.owed := rfl
@[simp] theorem State.setHmc_unaudited (k : Nat) (v : HmcSt) : (s.setHmc k v).unaudited = s.unaudited := rfl
@[simp] theorem State.setHmc_served (k : Nat) (v : HmcSt) : (s.setHmc k v).served = s.served := rfl
@[simp] theorem State.setHmc_qdrs (k : Nat) (v : HmcSt) : (s.setHmc k v).qdrs = s.qdrs := rfl
@[simp] theorem State.setHmc_pipes (k : Nat) (v : HmcSt) : (s.setHmc k v).pipes = s.pipes := rfl
@[simp] theorem State.setHmc_fabs (k : Nat) (v : HmcSt) : (s.setHmc k v).fabs = s.fabs := rfl
@[simp] theorem State.setHmc_elapsed (k : Nat) (v : HmcSt) : (s.setHmc k v).elapsed = s.elapsed := rfl
@[simp] theorem State.setHmc_csr (k : Nat) (v : HmcSt) : (s.setHmc k v).csr = s.csr := rfl
@[simp] theorem State.setHmc_settings (k : Nat) (v : HmcSt) : (s.setHmc k v).settings = s.settings := rfl
@[simp] theorem State.setHmc_mem (k : Nat) (v : HmcSt) : (s.setHmc k v).mem = s.mem := rfl
@[simp] theorem State.setHmc_resp (k : Nat) (v : HmcSt) : (s.setHmc k v).resp = s.resp := rfl
@[simp] theorem State.setHmc_out (k : Nat) (v : HmcSt) : (s.setHmc k v).out = s.out := rfl
@[simp] theorem State.setHmc_free (k : Nat) (v : HmcSt) : (s.setHmc k v).free = s.free := rfl
@[simp] theorem State.setHmc_ledg (k : Nat) (v : HmcSt) : (s.setHmc k v).ledg = s.ledg := rfl
@[simp] theorem State.setHmc_events (k : Nat) (v : HmcSt) : (s.setHmc k v).events = s.events := rfl
@[simp] theorem State.setHmc_evSeq (k : Nat) (v : HmcSt) : (s.setHmc k v).evSeq = s.evSeq := rfl
@[simp] theorem State.setHmc_evBook (k : Nat) (v : HmcSt) : (s.setHmc k v).evBook = s.evBook := rfl
@[simp] theorem State.setHmc_cxl (k : Nat) (v : HmcSt) : (s.setHmc k v).cxl = s.cxl := rfl
@[simp] theorem State.setHmc_copy (k : Nat) (v : HmcSt) : (s.setHmc k v).copy = s.copy := rfl
@[simp] theorem State.setHmc_time (k : Nat) (v : HmcSt) : (s.setHmc k v).time = s.time := rfl
@[simp] theorem State.setHmc_slaves (k : Nat) (v : HmcSt) : (s.setHmc k v).slaves = s.slaves := rfl
@[simp] theorem State.setHmc_lanes (k : Nat) (v : HmcSt) : (s.setHmc k v).lanes = s.lanes := rfl
@[simp] theorem State.setHmc_ports (k : Nat) (v : HmcSt) : (s.setHmc k v).ports = s.ports := rfl
@[simp] theorem State.setHmc_fields (k : Nat) (v : HmcSt) : (s.setHmc k v).fields = s.fields := rfl
@[simp] theorem State.setHmc_chan (k : Nat) (v : HmcSt) : (s.setHmc k v).chan = s.chan := rfl
@[simp] theorem State.setHmc_furs (k : Nat) (v : HmcSt) : (s.setHmc k v).furs = s.furs := rfl
@[simp] theorem State.setHmc_chk (k : Nat) (v : HmcSt) : (s.setHmc k v).chk = s.chk := rfl
@[simp] theorem State.setHmc_fog (k : Nat) (v : HmcSt) : (s.setHmc k v).fog = s.fog := rfl
@[simp] theorem State.setHmc_tags (k : Nat) (v : HmcSt) : (s.setHmc k v).tags = s.tags := rfl
@[simp] theorem State.setHmc_nextOrd (k : Nat) (v : HmcSt) : (s.setHmc k v).nextOrd = s.nextOrd := rfl
@[simp] theorem State.setHmc_waiting (k : Nat) (v : HmcSt) : (s.setHmc k v).waiting = s.waiting := rfl
@[simp] theorem State.setHmc_remain (k : Nat) (v : HmcSt) : (s.setHmc k v).remain = s.remain := rfl
@[simp] theorem State.setHmc_upSpent (k : Nat) (v : HmcSt) : (s.setHmc k v).upSpent = s.upSpent := rfl
@[simp] theorem State.setHmc_walk (k : Nat) (v : HmcSt) : (s.setHmc k v).walk = s.walk := rfl
@[simp] theorem State.setHmc_walkTag (k : Nat) (v : HmcSt) : (s.setHmc k v).walkTag = s.walkTag := rfl
@[simp] theorem State.setHmc_pcs (k : Nat) (v : HmcSt) : (s.setHmc k v).pcs = s.pcs := rfl
@[simp] theorem State.setHmc_walkers (k : Nat) (v : HmcSt) : (s.setHmc k v).walkers = s.walkers := rfl
@[simp] theorem State.setHmc_ranges (k : Nat) (v : HmcSt) : (s.setHmc k v).ranges = s.ranges := rfl
@[simp] theorem State.setHmc_autoInit (k : Nat) (v : HmcSt) : (s.setHmc k v).autoInit = s.autoInit := rfl
@[simp] theorem State.setHmc_resv (k : Nat) (v : HmcSt) : (s.setHmc k v).resv = s.resv := rfl
@[simp] theorem State.setHmc_basins (k : Nat) (v : HmcSt) : (s.setHmc k v).basins = s.basins := rfl
@[simp] theorem State.setHmc_xbar (k : Nat) (v : HmcSt) : (s.setHmc k v).xbar = s.xbar := rfl
@[simp] theorem State.setHmc_code (k : Nat) (v : HmcSt) : (s.setHmc k v).code = s.code := rfl
@[simp] theorem State.setHmc_stores (k : Nat) (v : HmcSt) : (s.setHmc k v).stores = s.stores := rfl
@[simp] theorem State.setHmc_mods (k : Nat) (v : HmcSt) : (s.setHmc k v).mods = s.mods := rfl
@[simp] theorem State.setHmc_turns (k : Nat) (v : HmcSt) : (s.setHmc k v).turns = s.turns := rfl
@[simp] theorem State.setHmc_swaps (k : Nat) (v : HmcSt) : (s.setHmc k v).swaps = s.swaps := rfl
@[simp] theorem State.setHmc_boot (k : Nat) (v : HmcSt) : (s.setHmc k v).boot = s.boot := rfl
@[simp] theorem State.setHmc_upd (k : Nat) (v : HmcSt) : (s.setHmc k v).upd = s.upd := rfl
@[simp] theorem State.setHmc_pow (k : Nat) (v : HmcSt) : (s.setHmc k v).pow = s.pow := rfl
@[simp] theorem State.setHmc_engs (k : Nat) (v : HmcSt) : (s.setHmc k v).engs = s.engs := rfl
@[simp] theorem State.setHmc_patchRam (k : Nat) (v : HmcSt) : (s.setHmc k v).patchRam = s.patchRam := rfl
@[simp] theorem State.setHmc_loaders (k : Nat) (v : HmcSt) : (s.setHmc k v).loaders = s.loaders := rfl
@[simp] theorem State.setHmc_rings (k : Nat) (v : HmcSt) : (s.setHmc k v).rings = s.rings := rfl
@[simp] theorem State.setHmc_cfes (k : Nat) (v : HmcSt) : (s.setHmc k v).cfes = s.cfes := rfl
@[simp] theorem State.setHmc_cists (k : Nat) (v : HmcSt) : (s.setHmc k v).cists = s.cists := rfl
@[simp] theorem State.setHmc_closed (k : Nat) (v : HmcSt) : (s.setHmc k v).closed = s.closed := rfl
@[simp] theorem State.setHmc_nextClosed (k : Nat) (v : HmcSt) : (s.setHmc k v).nextClosed = s.nextClosed := rfl
@[simp] theorem State.setHmc_draining (k : Nat) (v : HmcSt) : (s.setHmc k v).draining = s.draining := rfl
@[simp] theorem State.setHmc_flt (k : Nat) (v : HmcSt) : (s.setHmc k v).flt = s.flt := rfl
@[simp] theorem State.setHmc_wm (k : Nat) (v : HmcSt) : (s.setHmc k v).wm = s.wm := rfl
@[simp] theorem State.setHmc_gau (k : Nat) (v : HmcSt) : (s.setHmc k v).gau = s.gau := rfl
@[simp] theorem State.setHmc_tap (k : Nat) (v : HmcSt) : (s.setHmc k v).tap = s.tap := rfl
@[simp] theorem State.get_setHmc (k : Nat) (v : HmcSt) (f' : Field) (i' j' k' : Nat) : (s.setHmc k v).get f' i' j' k' = s.get f' i' j' k' := rfl

/-! What setRing leaves. -/
@[simp] theorem State.setRing_pending (k : Nat) (v : RingSt) : (s.setRing k v).pending = s.pending := rfl
@[simp] theorem State.setRing_part (k : Nat) (v : RingSt) : (s.setRing k v).part = s.part := rfl
@[simp] theorem State.setRing_ingress (k : Nat) (v : RingSt) : (s.setRing k v).ingress = s.ingress := rfl
@[simp] theorem State.setRing_owed (k : Nat) (v : RingSt) : (s.setRing k v).owed = s.owed := rfl
@[simp] theorem State.setRing_unaudited (k : Nat) (v : RingSt) : (s.setRing k v).unaudited = s.unaudited := rfl
@[simp] theorem State.setRing_served (k : Nat) (v : RingSt) : (s.setRing k v).served = s.served := rfl
@[simp] theorem State.setRing_qdrs (k : Nat) (v : RingSt) : (s.setRing k v).qdrs = s.qdrs := rfl
@[simp] theorem State.setRing_pipes (k : Nat) (v : RingSt) : (s.setRing k v).pipes = s.pipes := rfl
@[simp] theorem State.setRing_fabs (k : Nat) (v : RingSt) : (s.setRing k v).fabs = s.fabs := rfl
@[simp] theorem State.setRing_elapsed (k : Nat) (v : RingSt) : (s.setRing k v).elapsed = s.elapsed := rfl
@[simp] theorem State.setRing_csr (k : Nat) (v : RingSt) : (s.setRing k v).csr = s.csr := rfl
@[simp] theorem State.setRing_settings (k : Nat) (v : RingSt) : (s.setRing k v).settings = s.settings := rfl
@[simp] theorem State.setRing_mem (k : Nat) (v : RingSt) : (s.setRing k v).mem = s.mem := rfl
@[simp] theorem State.setRing_resp (k : Nat) (v : RingSt) : (s.setRing k v).resp = s.resp := rfl
@[simp] theorem State.setRing_out (k : Nat) (v : RingSt) : (s.setRing k v).out = s.out := rfl
@[simp] theorem State.setRing_free (k : Nat) (v : RingSt) : (s.setRing k v).free = s.free := rfl
@[simp] theorem State.setRing_ledg (k : Nat) (v : RingSt) : (s.setRing k v).ledg = s.ledg := rfl
@[simp] theorem State.setRing_events (k : Nat) (v : RingSt) : (s.setRing k v).events = s.events := rfl
@[simp] theorem State.setRing_evSeq (k : Nat) (v : RingSt) : (s.setRing k v).evSeq = s.evSeq := rfl
@[simp] theorem State.setRing_evBook (k : Nat) (v : RingSt) : (s.setRing k v).evBook = s.evBook := rfl
@[simp] theorem State.setRing_cxl (k : Nat) (v : RingSt) : (s.setRing k v).cxl = s.cxl := rfl
@[simp] theorem State.setRing_copy (k : Nat) (v : RingSt) : (s.setRing k v).copy = s.copy := rfl
@[simp] theorem State.setRing_time (k : Nat) (v : RingSt) : (s.setRing k v).time = s.time := rfl
@[simp] theorem State.setRing_slaves (k : Nat) (v : RingSt) : (s.setRing k v).slaves = s.slaves := rfl
@[simp] theorem State.setRing_lanes (k : Nat) (v : RingSt) : (s.setRing k v).lanes = s.lanes := rfl
@[simp] theorem State.setRing_ports (k : Nat) (v : RingSt) : (s.setRing k v).ports = s.ports := rfl
@[simp] theorem State.setRing_fields (k : Nat) (v : RingSt) : (s.setRing k v).fields = s.fields := rfl
@[simp] theorem State.setRing_chan (k : Nat) (v : RingSt) : (s.setRing k v).chan = s.chan := rfl
@[simp] theorem State.setRing_furs (k : Nat) (v : RingSt) : (s.setRing k v).furs = s.furs := rfl
@[simp] theorem State.setRing_chk (k : Nat) (v : RingSt) : (s.setRing k v).chk = s.chk := rfl
@[simp] theorem State.setRing_fog (k : Nat) (v : RingSt) : (s.setRing k v).fog = s.fog := rfl
@[simp] theorem State.setRing_tags (k : Nat) (v : RingSt) : (s.setRing k v).tags = s.tags := rfl
@[simp] theorem State.setRing_nextOrd (k : Nat) (v : RingSt) : (s.setRing k v).nextOrd = s.nextOrd := rfl
@[simp] theorem State.setRing_waiting (k : Nat) (v : RingSt) : (s.setRing k v).waiting = s.waiting := rfl
@[simp] theorem State.setRing_remain (k : Nat) (v : RingSt) : (s.setRing k v).remain = s.remain := rfl
@[simp] theorem State.setRing_upSpent (k : Nat) (v : RingSt) : (s.setRing k v).upSpent = s.upSpent := rfl
@[simp] theorem State.setRing_walk (k : Nat) (v : RingSt) : (s.setRing k v).walk = s.walk := rfl
@[simp] theorem State.setRing_walkTag (k : Nat) (v : RingSt) : (s.setRing k v).walkTag = s.walkTag := rfl
@[simp] theorem State.setRing_pcs (k : Nat) (v : RingSt) : (s.setRing k v).pcs = s.pcs := rfl
@[simp] theorem State.setRing_hmcs (k : Nat) (v : RingSt) : (s.setRing k v).hmcs = s.hmcs := rfl
@[simp] theorem State.setRing_walkers (k : Nat) (v : RingSt) : (s.setRing k v).walkers = s.walkers := rfl
@[simp] theorem State.setRing_ranges (k : Nat) (v : RingSt) : (s.setRing k v).ranges = s.ranges := rfl
@[simp] theorem State.setRing_autoInit (k : Nat) (v : RingSt) : (s.setRing k v).autoInit = s.autoInit := rfl
@[simp] theorem State.setRing_resv (k : Nat) (v : RingSt) : (s.setRing k v).resv = s.resv := rfl
@[simp] theorem State.setRing_basins (k : Nat) (v : RingSt) : (s.setRing k v).basins = s.basins := rfl
@[simp] theorem State.setRing_xbar (k : Nat) (v : RingSt) : (s.setRing k v).xbar = s.xbar := rfl
@[simp] theorem State.setRing_code (k : Nat) (v : RingSt) : (s.setRing k v).code = s.code := rfl
@[simp] theorem State.setRing_stores (k : Nat) (v : RingSt) : (s.setRing k v).stores = s.stores := rfl
@[simp] theorem State.setRing_mods (k : Nat) (v : RingSt) : (s.setRing k v).mods = s.mods := rfl
@[simp] theorem State.setRing_turns (k : Nat) (v : RingSt) : (s.setRing k v).turns = s.turns := rfl
@[simp] theorem State.setRing_swaps (k : Nat) (v : RingSt) : (s.setRing k v).swaps = s.swaps := rfl
@[simp] theorem State.setRing_boot (k : Nat) (v : RingSt) : (s.setRing k v).boot = s.boot := rfl
@[simp] theorem State.setRing_upd (k : Nat) (v : RingSt) : (s.setRing k v).upd = s.upd := rfl
@[simp] theorem State.setRing_pow (k : Nat) (v : RingSt) : (s.setRing k v).pow = s.pow := rfl
@[simp] theorem State.setRing_engs (k : Nat) (v : RingSt) : (s.setRing k v).engs = s.engs := rfl
@[simp] theorem State.setRing_patchRam (k : Nat) (v : RingSt) : (s.setRing k v).patchRam = s.patchRam := rfl
@[simp] theorem State.setRing_loaders (k : Nat) (v : RingSt) : (s.setRing k v).loaders = s.loaders := rfl
@[simp] theorem State.setRing_cfes (k : Nat) (v : RingSt) : (s.setRing k v).cfes = s.cfes := rfl
@[simp] theorem State.setRing_cists (k : Nat) (v : RingSt) : (s.setRing k v).cists = s.cists := rfl
@[simp] theorem State.setRing_closed (k : Nat) (v : RingSt) : (s.setRing k v).closed = s.closed := rfl
@[simp] theorem State.setRing_nextClosed (k : Nat) (v : RingSt) : (s.setRing k v).nextClosed = s.nextClosed := rfl
@[simp] theorem State.setRing_draining (k : Nat) (v : RingSt) : (s.setRing k v).draining = s.draining := rfl
@[simp] theorem State.setRing_flt (k : Nat) (v : RingSt) : (s.setRing k v).flt = s.flt := rfl
@[simp] theorem State.setRing_wm (k : Nat) (v : RingSt) : (s.setRing k v).wm = s.wm := rfl
@[simp] theorem State.setRing_gau (k : Nat) (v : RingSt) : (s.setRing k v).gau = s.gau := rfl
@[simp] theorem State.setRing_tap (k : Nat) (v : RingSt) : (s.setRing k v).tap = s.tap := rfl
@[simp] theorem State.get_setRing (k : Nat) (v : RingSt) (f' : Field) (i' j' k' : Nat) : (s.setRing k v).get f' i' j' k' = s.get f' i' j' k' := rfl

/-! What setSwap leaves. -/
@[simp] theorem State.setSwap_pending (n : Nat) (v : SwapSt) : (s.setSwap n v).pending = s.pending := rfl
@[simp] theorem State.setSwap_part (n : Nat) (v : SwapSt) : (s.setSwap n v).part = s.part := rfl
@[simp] theorem State.setSwap_csr (n : Nat) (v : SwapSt) : (s.setSwap n v).csr = s.csr := rfl
@[simp] theorem State.setSwap_settings (n : Nat) (v : SwapSt) : (s.setSwap n v).settings = s.settings := rfl
@[simp] theorem State.setSwap_mem (n : Nat) (v : SwapSt) : (s.setSwap n v).mem = s.mem := rfl
@[simp] theorem State.setSwap_resp (n : Nat) (v : SwapSt) : (s.setSwap n v).resp = s.resp := rfl
@[simp] theorem State.setSwap_out (n : Nat) (v : SwapSt) : (s.setSwap n v).out = s.out := rfl
@[simp] theorem State.setSwap_free (n : Nat) (v : SwapSt) : (s.setSwap n v).free = s.free := rfl
@[simp] theorem State.setSwap_ledg (n : Nat) (v : SwapSt) : (s.setSwap n v).ledg = s.ledg := rfl
@[simp] theorem State.setSwap_events (n : Nat) (v : SwapSt) : (s.setSwap n v).events = s.events := rfl
@[simp] theorem State.setSwap_evSeq (n : Nat) (v : SwapSt) : (s.setSwap n v).evSeq = s.evSeq := rfl
@[simp] theorem State.setSwap_evBook (n : Nat) (v : SwapSt) : (s.setSwap n v).evBook = s.evBook := rfl
@[simp] theorem State.setSwap_cxl (n : Nat) (v : SwapSt) : (s.setSwap n v).cxl = s.cxl := rfl
@[simp] theorem State.setSwap_copy (n : Nat) (v : SwapSt) : (s.setSwap n v).copy = s.copy := rfl
@[simp] theorem State.setSwap_time (n : Nat) (v : SwapSt) : (s.setSwap n v).time = s.time := rfl
@[simp] theorem State.setSwap_slaves (n : Nat) (v : SwapSt) : (s.setSwap n v).slaves = s.slaves := rfl
@[simp] theorem State.setSwap_lanes (n : Nat) (v : SwapSt) : (s.setSwap n v).lanes = s.lanes := rfl
@[simp] theorem State.setSwap_ports (n : Nat) (v : SwapSt) : (s.setSwap n v).ports = s.ports := rfl
@[simp] theorem State.setSwap_fields (n : Nat) (v : SwapSt) : (s.setSwap n v).fields = s.fields := rfl
@[simp] theorem State.setSwap_chan (n : Nat) (v : SwapSt) : (s.setSwap n v).chan = s.chan := rfl
@[simp] theorem State.setSwap_furs (n : Nat) (v : SwapSt) : (s.setSwap n v).furs = s.furs := rfl
@[simp] theorem State.setSwap_chk (n : Nat) (v : SwapSt) : (s.setSwap n v).chk = s.chk := rfl
@[simp] theorem State.setSwap_fog (n : Nat) (v : SwapSt) : (s.setSwap n v).fog = s.fog := rfl
@[simp] theorem State.setSwap_tags (n : Nat) (v : SwapSt) : (s.setSwap n v).tags = s.tags := rfl
@[simp] theorem State.setSwap_nextOrd (n : Nat) (v : SwapSt) : (s.setSwap n v).nextOrd = s.nextOrd := rfl
@[simp] theorem State.setSwap_waiting (n : Nat) (v : SwapSt) : (s.setSwap n v).waiting = s.waiting := rfl
@[simp] theorem State.setSwap_ingress (n : Nat) (v : SwapSt) : (s.setSwap n v).ingress = s.ingress := rfl
@[simp] theorem State.setSwap_owed (n : Nat) (v : SwapSt) : (s.setSwap n v).owed = s.owed := rfl
@[simp] theorem State.setSwap_unaudited (n : Nat) (v : SwapSt) : (s.setSwap n v).unaudited = s.unaudited := rfl
@[simp] theorem State.setSwap_served (n : Nat) (v : SwapSt) : (s.setSwap n v).served = s.served := rfl
@[simp] theorem State.setSwap_remain (n : Nat) (v : SwapSt) : (s.setSwap n v).remain = s.remain := rfl
@[simp] theorem State.setSwap_upSpent (n : Nat) (v : SwapSt) : (s.setSwap n v).upSpent = s.upSpent := rfl
@[simp] theorem State.setSwap_walk (n : Nat) (v : SwapSt) : (s.setSwap n v).walk = s.walk := rfl
@[simp] theorem State.setSwap_walkTag (n : Nat) (v : SwapSt) : (s.setSwap n v).walkTag = s.walkTag := rfl
@[simp] theorem State.setSwap_pcs (n : Nat) (v : SwapSt) : (s.setSwap n v).pcs = s.pcs := rfl
@[simp] theorem State.setSwap_qdrs (n : Nat) (v : SwapSt) : (s.setSwap n v).qdrs = s.qdrs := rfl
@[simp] theorem State.setSwap_hmcs (n : Nat) (v : SwapSt) : (s.setSwap n v).hmcs = s.hmcs := rfl
@[simp] theorem State.setSwap_walkers (n : Nat) (v : SwapSt) : (s.setSwap n v).walkers = s.walkers := rfl
@[simp] theorem State.setSwap_ranges (n : Nat) (v : SwapSt) : (s.setSwap n v).ranges = s.ranges := rfl
@[simp] theorem State.setSwap_autoInit (n : Nat) (v : SwapSt) : (s.setSwap n v).autoInit = s.autoInit := rfl
@[simp] theorem State.setSwap_resv (n : Nat) (v : SwapSt) : (s.setSwap n v).resv = s.resv := rfl
@[simp] theorem State.setSwap_basins (n : Nat) (v : SwapSt) : (s.setSwap n v).basins = s.basins := rfl
@[simp] theorem State.setSwap_xbar (n : Nat) (v : SwapSt) : (s.setSwap n v).xbar = s.xbar := rfl
@[simp] theorem State.setSwap_pipes (n : Nat) (v : SwapSt) : (s.setSwap n v).pipes = s.pipes := rfl
@[simp] theorem State.setSwap_fabs (n : Nat) (v : SwapSt) : (s.setSwap n v).fabs = s.fabs := rfl
@[simp] theorem State.setSwap_elapsed (n : Nat) (v : SwapSt) : (s.setSwap n v).elapsed = s.elapsed := rfl
@[simp] theorem State.setSwap_code (n : Nat) (v : SwapSt) : (s.setSwap n v).code = s.code := rfl
@[simp] theorem State.setSwap_stores (n : Nat) (v : SwapSt) : (s.setSwap n v).stores = s.stores := rfl
@[simp] theorem State.setSwap_mods (n : Nat) (v : SwapSt) : (s.setSwap n v).mods = s.mods := rfl
@[simp] theorem State.setSwap_turns (n : Nat) (v : SwapSt) : (s.setSwap n v).turns = s.turns := rfl
@[simp] theorem State.setSwap_boot (n : Nat) (v : SwapSt) : (s.setSwap n v).boot = s.boot := rfl
@[simp] theorem State.setSwap_upd (n : Nat) (v : SwapSt) : (s.setSwap n v).upd = s.upd := rfl
@[simp] theorem State.setSwap_pow (n : Nat) (v : SwapSt) : (s.setSwap n v).pow = s.pow := rfl
@[simp] theorem State.setSwap_engs (n : Nat) (v : SwapSt) : (s.setSwap n v).engs = s.engs := rfl
@[simp] theorem State.setSwap_patchRam (n : Nat) (v : SwapSt) : (s.setSwap n v).patchRam = s.patchRam := rfl
@[simp] theorem State.setSwap_loaders (n : Nat) (v : SwapSt) : (s.setSwap n v).loaders = s.loaders := rfl
@[simp] theorem State.setSwap_rings (n : Nat) (v : SwapSt) : (s.setSwap n v).rings = s.rings := rfl
@[simp] theorem State.setSwap_cfes (n : Nat) (v : SwapSt) : (s.setSwap n v).cfes = s.cfes := rfl
@[simp] theorem State.setSwap_cists (n : Nat) (v : SwapSt) : (s.setSwap n v).cists = s.cists := rfl
@[simp] theorem State.setSwap_closed (n : Nat) (v : SwapSt) : (s.setSwap n v).closed = s.closed := rfl
@[simp] theorem State.setSwap_nextClosed (n : Nat) (v : SwapSt) : (s.setSwap n v).nextClosed = s.nextClosed := rfl
@[simp] theorem State.setSwap_draining (n : Nat) (v : SwapSt) : (s.setSwap n v).draining = s.draining := rfl
@[simp] theorem State.setSwap_flt (n : Nat) (v : SwapSt) : (s.setSwap n v).flt = s.flt := rfl
@[simp] theorem State.setSwap_wm (n : Nat) (v : SwapSt) : (s.setSwap n v).wm = s.wm := rfl
@[simp] theorem State.setSwap_gau (n : Nat) (v : SwapSt) : (s.setSwap n v).gau = s.gau := rfl
@[simp] theorem State.setSwap_tap (n : Nat) (v : SwapSt) : (s.setSwap n v).tap = s.tap := rfl

/-! What setFab leaves. -/
@[simp] theorem State.setFab_pending (n : Nat) (v : FabSt) : (s.setFab n v).pending = s.pending := rfl
@[simp] theorem State.setFab_part (n : Nat) (v : FabSt) : (s.setFab n v).part = s.part := rfl
@[simp] theorem State.setFab_csr (n : Nat) (v : FabSt) : (s.setFab n v).csr = s.csr := rfl
@[simp] theorem State.setFab_settings (n : Nat) (v : FabSt) : (s.setFab n v).settings = s.settings := rfl
@[simp] theorem State.setFab_mem (n : Nat) (v : FabSt) : (s.setFab n v).mem = s.mem := rfl
@[simp] theorem State.setFab_resp (n : Nat) (v : FabSt) : (s.setFab n v).resp = s.resp := rfl
@[simp] theorem State.setFab_out (n : Nat) (v : FabSt) : (s.setFab n v).out = s.out := rfl
@[simp] theorem State.setFab_free (n : Nat) (v : FabSt) : (s.setFab n v).free = s.free := rfl
@[simp] theorem State.setFab_ledg (n : Nat) (v : FabSt) : (s.setFab n v).ledg = s.ledg := rfl
@[simp] theorem State.setFab_events (n : Nat) (v : FabSt) : (s.setFab n v).events = s.events := rfl
@[simp] theorem State.setFab_evSeq (n : Nat) (v : FabSt) : (s.setFab n v).evSeq = s.evSeq := rfl
@[simp] theorem State.setFab_evBook (n : Nat) (v : FabSt) : (s.setFab n v).evBook = s.evBook := rfl
@[simp] theorem State.setFab_cxl (n : Nat) (v : FabSt) : (s.setFab n v).cxl = s.cxl := rfl
@[simp] theorem State.setFab_copy (n : Nat) (v : FabSt) : (s.setFab n v).copy = s.copy := rfl
@[simp] theorem State.setFab_time (n : Nat) (v : FabSt) : (s.setFab n v).time = s.time := rfl
@[simp] theorem State.setFab_slaves (n : Nat) (v : FabSt) : (s.setFab n v).slaves = s.slaves := rfl
@[simp] theorem State.setFab_lanes (n : Nat) (v : FabSt) : (s.setFab n v).lanes = s.lanes := rfl
@[simp] theorem State.setFab_ports (n : Nat) (v : FabSt) : (s.setFab n v).ports = s.ports := rfl
@[simp] theorem State.setFab_fields (n : Nat) (v : FabSt) : (s.setFab n v).fields = s.fields := rfl
@[simp] theorem State.setFab_chan (n : Nat) (v : FabSt) : (s.setFab n v).chan = s.chan := rfl
@[simp] theorem State.setFab_furs (n : Nat) (v : FabSt) : (s.setFab n v).furs = s.furs := rfl
@[simp] theorem State.setFab_chk (n : Nat) (v : FabSt) : (s.setFab n v).chk = s.chk := rfl
@[simp] theorem State.setFab_fog (n : Nat) (v : FabSt) : (s.setFab n v).fog = s.fog := rfl
@[simp] theorem State.setFab_tags (n : Nat) (v : FabSt) : (s.setFab n v).tags = s.tags := rfl
@[simp] theorem State.setFab_nextOrd (n : Nat) (v : FabSt) : (s.setFab n v).nextOrd = s.nextOrd := rfl
@[simp] theorem State.setFab_waiting (n : Nat) (v : FabSt) : (s.setFab n v).waiting = s.waiting := rfl
@[simp] theorem State.setFab_ingress (n : Nat) (v : FabSt) : (s.setFab n v).ingress = s.ingress := rfl
@[simp] theorem State.setFab_owed (n : Nat) (v : FabSt) : (s.setFab n v).owed = s.owed := rfl
@[simp] theorem State.setFab_unaudited (n : Nat) (v : FabSt) : (s.setFab n v).unaudited = s.unaudited := rfl
@[simp] theorem State.setFab_served (n : Nat) (v : FabSt) : (s.setFab n v).served = s.served := rfl
@[simp] theorem State.setFab_remain (n : Nat) (v : FabSt) : (s.setFab n v).remain = s.remain := rfl
@[simp] theorem State.setFab_upSpent (n : Nat) (v : FabSt) : (s.setFab n v).upSpent = s.upSpent := rfl
@[simp] theorem State.setFab_walk (n : Nat) (v : FabSt) : (s.setFab n v).walk = s.walk := rfl
@[simp] theorem State.setFab_walkTag (n : Nat) (v : FabSt) : (s.setFab n v).walkTag = s.walkTag := rfl
@[simp] theorem State.setFab_pcs (n : Nat) (v : FabSt) : (s.setFab n v).pcs = s.pcs := rfl
@[simp] theorem State.setFab_qdrs (n : Nat) (v : FabSt) : (s.setFab n v).qdrs = s.qdrs := rfl
@[simp] theorem State.setFab_hmcs (n : Nat) (v : FabSt) : (s.setFab n v).hmcs = s.hmcs := rfl
@[simp] theorem State.setFab_walkers (n : Nat) (v : FabSt) : (s.setFab n v).walkers = s.walkers := rfl
@[simp] theorem State.setFab_ranges (n : Nat) (v : FabSt) : (s.setFab n v).ranges = s.ranges := rfl
@[simp] theorem State.setFab_autoInit (n : Nat) (v : FabSt) : (s.setFab n v).autoInit = s.autoInit := rfl
@[simp] theorem State.setFab_resv (n : Nat) (v : FabSt) : (s.setFab n v).resv = s.resv := rfl
@[simp] theorem State.setFab_basins (n : Nat) (v : FabSt) : (s.setFab n v).basins = s.basins := rfl
@[simp] theorem State.setFab_xbar (n : Nat) (v : FabSt) : (s.setFab n v).xbar = s.xbar := rfl
@[simp] theorem State.setFab_pipes (n : Nat) (v : FabSt) : (s.setFab n v).pipes = s.pipes := rfl
@[simp] theorem State.setFab_elapsed (n : Nat) (v : FabSt) : (s.setFab n v).elapsed = s.elapsed := rfl
@[simp] theorem State.setFab_code (n : Nat) (v : FabSt) : (s.setFab n v).code = s.code := rfl
@[simp] theorem State.setFab_stores (n : Nat) (v : FabSt) : (s.setFab n v).stores = s.stores := rfl
@[simp] theorem State.setFab_mods (n : Nat) (v : FabSt) : (s.setFab n v).mods = s.mods := rfl
@[simp] theorem State.setFab_turns (n : Nat) (v : FabSt) : (s.setFab n v).turns = s.turns := rfl
@[simp] theorem State.setFab_swaps (n : Nat) (v : FabSt) : (s.setFab n v).swaps = s.swaps := rfl
@[simp] theorem State.setFab_boot (n : Nat) (v : FabSt) : (s.setFab n v).boot = s.boot := rfl
@[simp] theorem State.setFab_upd (n : Nat) (v : FabSt) : (s.setFab n v).upd = s.upd := rfl
@[simp] theorem State.setFab_pow (n : Nat) (v : FabSt) : (s.setFab n v).pow = s.pow := rfl
@[simp] theorem State.setFab_engs (n : Nat) (v : FabSt) : (s.setFab n v).engs = s.engs := rfl
@[simp] theorem State.setFab_patchRam (n : Nat) (v : FabSt) : (s.setFab n v).patchRam = s.patchRam := rfl
@[simp] theorem State.setFab_loaders (n : Nat) (v : FabSt) : (s.setFab n v).loaders = s.loaders := rfl
@[simp] theorem State.setFab_rings (n : Nat) (v : FabSt) : (s.setFab n v).rings = s.rings := rfl
@[simp] theorem State.setFab_cfes (n : Nat) (v : FabSt) : (s.setFab n v).cfes = s.cfes := rfl
@[simp] theorem State.setFab_cists (n : Nat) (v : FabSt) : (s.setFab n v).cists = s.cists := rfl
@[simp] theorem State.setFab_closed (n : Nat) (v : FabSt) : (s.setFab n v).closed = s.closed := rfl
@[simp] theorem State.setFab_nextClosed (n : Nat) (v : FabSt) : (s.setFab n v).nextClosed = s.nextClosed := rfl
@[simp] theorem State.setFab_draining (n : Nat) (v : FabSt) : (s.setFab n v).draining = s.draining := rfl
@[simp] theorem State.setFab_flt (n : Nat) (v : FabSt) : (s.setFab n v).flt = s.flt := rfl
@[simp] theorem State.setFab_wm (n : Nat) (v : FabSt) : (s.setFab n v).wm = s.wm := rfl
@[simp] theorem State.setFab_gau (n : Nat) (v : FabSt) : (s.setFab n v).gau = s.gau := rfl
@[simp] theorem State.setFab_tap (n : Nat) (v : FabSt) : (s.setFab n v).tap = s.tap := rfl

/-! What setQdr leaves. -/
@[simp] theorem State.setQdr_pending (n : Nat) (b : Bool) (v : QdrSt) : (s.setQdr n b v).pending = s.pending := rfl
@[simp] theorem State.setQdr_part (n : Nat) (b : Bool) (v : QdrSt) : (s.setQdr n b v).part = s.part := rfl
@[simp] theorem State.setQdr_csr (n : Nat) (b : Bool) (v : QdrSt) : (s.setQdr n b v).csr = s.csr := rfl
@[simp] theorem State.setQdr_settings (n : Nat) (b : Bool) (v : QdrSt) : (s.setQdr n b v).settings = s.settings := rfl
@[simp] theorem State.setQdr_mem (n : Nat) (b : Bool) (v : QdrSt) : (s.setQdr n b v).mem = s.mem := rfl
@[simp] theorem State.setQdr_resp (n : Nat) (b : Bool) (v : QdrSt) : (s.setQdr n b v).resp = s.resp := rfl
@[simp] theorem State.setQdr_out (n : Nat) (b : Bool) (v : QdrSt) : (s.setQdr n b v).out = s.out := rfl
@[simp] theorem State.setQdr_free (n : Nat) (b : Bool) (v : QdrSt) : (s.setQdr n b v).free = s.free := rfl
@[simp] theorem State.setQdr_ledg (n : Nat) (b : Bool) (v : QdrSt) : (s.setQdr n b v).ledg = s.ledg := rfl
@[simp] theorem State.setQdr_events (n : Nat) (b : Bool) (v : QdrSt) : (s.setQdr n b v).events = s.events := rfl
@[simp] theorem State.setQdr_evSeq (n : Nat) (b : Bool) (v : QdrSt) : (s.setQdr n b v).evSeq = s.evSeq := rfl
@[simp] theorem State.setQdr_evBook (n : Nat) (b : Bool) (v : QdrSt) : (s.setQdr n b v).evBook = s.evBook := rfl
@[simp] theorem State.setQdr_cxl (n : Nat) (b : Bool) (v : QdrSt) : (s.setQdr n b v).cxl = s.cxl := rfl
@[simp] theorem State.setQdr_copy (n : Nat) (b : Bool) (v : QdrSt) : (s.setQdr n b v).copy = s.copy := rfl
@[simp] theorem State.setQdr_time (n : Nat) (b : Bool) (v : QdrSt) : (s.setQdr n b v).time = s.time := rfl
@[simp] theorem State.setQdr_slaves (n : Nat) (b : Bool) (v : QdrSt) : (s.setQdr n b v).slaves = s.slaves := rfl
@[simp] theorem State.setQdr_lanes (n : Nat) (b : Bool) (v : QdrSt) : (s.setQdr n b v).lanes = s.lanes := rfl
@[simp] theorem State.setQdr_ports (n : Nat) (b : Bool) (v : QdrSt) : (s.setQdr n b v).ports = s.ports := rfl
@[simp] theorem State.setQdr_fields (n : Nat) (b : Bool) (v : QdrSt) : (s.setQdr n b v).fields = s.fields := rfl
@[simp] theorem State.setQdr_chan (n : Nat) (b : Bool) (v : QdrSt) : (s.setQdr n b v).chan = s.chan := rfl
@[simp] theorem State.setQdr_furs (n : Nat) (b : Bool) (v : QdrSt) : (s.setQdr n b v).furs = s.furs := rfl
@[simp] theorem State.setQdr_chk (n : Nat) (b : Bool) (v : QdrSt) : (s.setQdr n b v).chk = s.chk := rfl
@[simp] theorem State.setQdr_fog (n : Nat) (b : Bool) (v : QdrSt) : (s.setQdr n b v).fog = s.fog := rfl
@[simp] theorem State.setQdr_tags (n : Nat) (b : Bool) (v : QdrSt) : (s.setQdr n b v).tags = s.tags := rfl
@[simp] theorem State.setQdr_nextOrd (n : Nat) (b : Bool) (v : QdrSt) : (s.setQdr n b v).nextOrd = s.nextOrd := rfl
@[simp] theorem State.setQdr_waiting (n : Nat) (b : Bool) (v : QdrSt) : (s.setQdr n b v).waiting = s.waiting := rfl
@[simp] theorem State.setQdr_ingress (n : Nat) (b : Bool) (v : QdrSt) : (s.setQdr n b v).ingress = s.ingress := rfl
@[simp] theorem State.setQdr_owed (n : Nat) (b : Bool) (v : QdrSt) : (s.setQdr n b v).owed = s.owed := rfl
@[simp] theorem State.setQdr_unaudited (n : Nat) (b : Bool) (v : QdrSt) : (s.setQdr n b v).unaudited = s.unaudited := rfl
@[simp] theorem State.setQdr_served (n : Nat) (b : Bool) (v : QdrSt) : (s.setQdr n b v).served = s.served := rfl
@[simp] theorem State.setQdr_remain (n : Nat) (b : Bool) (v : QdrSt) : (s.setQdr n b v).remain = s.remain := rfl
@[simp] theorem State.setQdr_upSpent (n : Nat) (b : Bool) (v : QdrSt) : (s.setQdr n b v).upSpent = s.upSpent := rfl
@[simp] theorem State.setQdr_walk (n : Nat) (b : Bool) (v : QdrSt) : (s.setQdr n b v).walk = s.walk := rfl
@[simp] theorem State.setQdr_walkTag (n : Nat) (b : Bool) (v : QdrSt) : (s.setQdr n b v).walkTag = s.walkTag := rfl
@[simp] theorem State.setQdr_pcs (n : Nat) (b : Bool) (v : QdrSt) : (s.setQdr n b v).pcs = s.pcs := rfl
@[simp] theorem State.setQdr_hmcs (n : Nat) (b : Bool) (v : QdrSt) : (s.setQdr n b v).hmcs = s.hmcs := rfl
@[simp] theorem State.setQdr_walkers (n : Nat) (b : Bool) (v : QdrSt) : (s.setQdr n b v).walkers = s.walkers := rfl
@[simp] theorem State.setQdr_ranges (n : Nat) (b : Bool) (v : QdrSt) : (s.setQdr n b v).ranges = s.ranges := rfl
@[simp] theorem State.setQdr_autoInit (n : Nat) (b : Bool) (v : QdrSt) : (s.setQdr n b v).autoInit = s.autoInit := rfl
@[simp] theorem State.setQdr_resv (n : Nat) (b : Bool) (v : QdrSt) : (s.setQdr n b v).resv = s.resv := rfl
@[simp] theorem State.setQdr_basins (n : Nat) (b : Bool) (v : QdrSt) : (s.setQdr n b v).basins = s.basins := rfl
@[simp] theorem State.setQdr_xbar (n : Nat) (b : Bool) (v : QdrSt) : (s.setQdr n b v).xbar = s.xbar := rfl
@[simp] theorem State.setQdr_pipes (n : Nat) (b : Bool) (v : QdrSt) : (s.setQdr n b v).pipes = s.pipes := rfl
@[simp] theorem State.setQdr_fabs (n : Nat) (b : Bool) (v : QdrSt) : (s.setQdr n b v).fabs = s.fabs := rfl
@[simp] theorem State.setQdr_elapsed (n : Nat) (b : Bool) (v : QdrSt) : (s.setQdr n b v).elapsed = s.elapsed := rfl
@[simp] theorem State.setQdr_code (n : Nat) (b : Bool) (v : QdrSt) : (s.setQdr n b v).code = s.code := rfl
@[simp] theorem State.setQdr_stores (n : Nat) (b : Bool) (v : QdrSt) : (s.setQdr n b v).stores = s.stores := rfl
@[simp] theorem State.setQdr_mods (n : Nat) (b : Bool) (v : QdrSt) : (s.setQdr n b v).mods = s.mods := rfl
@[simp] theorem State.setQdr_turns (n : Nat) (b : Bool) (v : QdrSt) : (s.setQdr n b v).turns = s.turns := rfl
@[simp] theorem State.setQdr_swaps (n : Nat) (b : Bool) (v : QdrSt) : (s.setQdr n b v).swaps = s.swaps := rfl
@[simp] theorem State.setQdr_boot (n : Nat) (b : Bool) (v : QdrSt) : (s.setQdr n b v).boot = s.boot := rfl
@[simp] theorem State.setQdr_upd (n : Nat) (b : Bool) (v : QdrSt) : (s.setQdr n b v).upd = s.upd := rfl
@[simp] theorem State.setQdr_pow (n : Nat) (b : Bool) (v : QdrSt) : (s.setQdr n b v).pow = s.pow := rfl
@[simp] theorem State.setQdr_engs (n : Nat) (b : Bool) (v : QdrSt) : (s.setQdr n b v).engs = s.engs := rfl
@[simp] theorem State.setQdr_patchRam (n : Nat) (b : Bool) (v : QdrSt) : (s.setQdr n b v).patchRam = s.patchRam := rfl
@[simp] theorem State.setQdr_loaders (n : Nat) (b : Bool) (v : QdrSt) : (s.setQdr n b v).loaders = s.loaders := rfl
@[simp] theorem State.setQdr_rings (n : Nat) (b : Bool) (v : QdrSt) : (s.setQdr n b v).rings = s.rings := rfl
@[simp] theorem State.setQdr_cfes (n : Nat) (b : Bool) (v : QdrSt) : (s.setQdr n b v).cfes = s.cfes := rfl
@[simp] theorem State.setQdr_cists (n : Nat) (b : Bool) (v : QdrSt) : (s.setQdr n b v).cists = s.cists := rfl
@[simp] theorem State.setQdr_closed (n : Nat) (b : Bool) (v : QdrSt) : (s.setQdr n b v).closed = s.closed := rfl
@[simp] theorem State.setQdr_nextClosed (n : Nat) (b : Bool) (v : QdrSt) : (s.setQdr n b v).nextClosed = s.nextClosed := rfl
@[simp] theorem State.setQdr_draining (n : Nat) (b : Bool) (v : QdrSt) : (s.setQdr n b v).draining = s.draining := rfl
@[simp] theorem State.setQdr_flt (n : Nat) (b : Bool) (v : QdrSt) : (s.setQdr n b v).flt = s.flt := rfl
@[simp] theorem State.setQdr_wm (n : Nat) (b : Bool) (v : QdrSt) : (s.setQdr n b v).wm = s.wm := rfl
@[simp] theorem State.setQdr_gau (n : Nat) (b : Bool) (v : QdrSt) : (s.setQdr n b v).gau = s.gau := rfl
@[simp] theorem State.setQdr_tap (n : Nat) (b : Bool) (v : QdrSt) : (s.setQdr n b v).tap = s.tap := rfl

/-! What setPc leaves. -/
@[simp] theorem State.setPc_pending (k : Nat) (v : PcSt) : (s.setPc k v).pending = s.pending := rfl
@[simp] theorem State.setPc_part (k : Nat) (v : PcSt) : (s.setPc k v).part = s.part := rfl
@[simp] theorem State.setPc_settings (k : Nat) (v : PcSt) : (s.setPc k v).settings = s.settings := rfl
@[simp] theorem State.setPc_mem (k : Nat) (v : PcSt) : (s.setPc k v).mem = s.mem := rfl
@[simp] theorem State.setPc_resp (k : Nat) (v : PcSt) : (s.setPc k v).resp = s.resp := rfl
@[simp] theorem State.setPc_out (k : Nat) (v : PcSt) : (s.setPc k v).out = s.out := rfl
@[simp] theorem State.setPc_free (k : Nat) (v : PcSt) : (s.setPc k v).free = s.free := rfl
@[simp] theorem State.setPc_ledg (k : Nat) (v : PcSt) : (s.setPc k v).ledg = s.ledg := rfl
@[simp] theorem State.setPc_events (k : Nat) (v : PcSt) : (s.setPc k v).events = s.events := rfl
@[simp] theorem State.setPc_evSeq (k : Nat) (v : PcSt) : (s.setPc k v).evSeq = s.evSeq := rfl
@[simp] theorem State.setPc_evBook (k : Nat) (v : PcSt) : (s.setPc k v).evBook = s.evBook := rfl
@[simp] theorem State.setPc_cxl (k : Nat) (v : PcSt) : (s.setPc k v).cxl = s.cxl := rfl
@[simp] theorem State.setPc_copy (k : Nat) (v : PcSt) : (s.setPc k v).copy = s.copy := rfl
@[simp] theorem State.setPc_time (k : Nat) (v : PcSt) : (s.setPc k v).time = s.time := rfl
@[simp] theorem State.setPc_slaves (k : Nat) (v : PcSt) : (s.setPc k v).slaves = s.slaves := rfl
@[simp] theorem State.setPc_lanes (k : Nat) (v : PcSt) : (s.setPc k v).lanes = s.lanes := rfl
@[simp] theorem State.setPc_ports (k : Nat) (v : PcSt) : (s.setPc k v).ports = s.ports := rfl
@[simp] theorem State.setPc_fields (k : Nat) (v : PcSt) : (s.setPc k v).fields = s.fields := rfl
@[simp] theorem State.setPc_chan (k : Nat) (v : PcSt) : (s.setPc k v).chan = s.chan := rfl
@[simp] theorem State.setPc_furs (k : Nat) (v : PcSt) : (s.setPc k v).furs = s.furs := rfl
@[simp] theorem State.setPc_chk (k : Nat) (v : PcSt) : (s.setPc k v).chk = s.chk := rfl
@[simp] theorem State.setPc_fog (k : Nat) (v : PcSt) : (s.setPc k v).fog = s.fog := rfl
@[simp] theorem State.setPc_tags (k : Nat) (v : PcSt) : (s.setPc k v).tags = s.tags := rfl
@[simp] theorem State.setPc_nextOrd (k : Nat) (v : PcSt) : (s.setPc k v).nextOrd = s.nextOrd := rfl
@[simp] theorem State.setPc_waiting (k : Nat) (v : PcSt) : (s.setPc k v).waiting = s.waiting := rfl
@[simp] theorem State.setPc_ingress (k : Nat) (v : PcSt) : (s.setPc k v).ingress = s.ingress := rfl
@[simp] theorem State.setPc_owed (k : Nat) (v : PcSt) : (s.setPc k v).owed = s.owed := rfl
@[simp] theorem State.setPc_unaudited (k : Nat) (v : PcSt) : (s.setPc k v).unaudited = s.unaudited := rfl
@[simp] theorem State.setPc_served (k : Nat) (v : PcSt) : (s.setPc k v).served = s.served := rfl
@[simp] theorem State.setPc_remain (k : Nat) (v : PcSt) : (s.setPc k v).remain = s.remain := rfl
@[simp] theorem State.setPc_upSpent (k : Nat) (v : PcSt) : (s.setPc k v).upSpent = s.upSpent := rfl
@[simp] theorem State.setPc_walk (k : Nat) (v : PcSt) : (s.setPc k v).walk = s.walk := rfl
@[simp] theorem State.setPc_walkTag (k : Nat) (v : PcSt) : (s.setPc k v).walkTag = s.walkTag := rfl
@[simp] theorem State.setPc_qdrs (k : Nat) (v : PcSt) : (s.setPc k v).qdrs = s.qdrs := rfl
@[simp] theorem State.setPc_hmcs (k : Nat) (v : PcSt) : (s.setPc k v).hmcs = s.hmcs := rfl
@[simp] theorem State.setPc_walkers (k : Nat) (v : PcSt) : (s.setPc k v).walkers = s.walkers := rfl
@[simp] theorem State.setPc_ranges (k : Nat) (v : PcSt) : (s.setPc k v).ranges = s.ranges := rfl
@[simp] theorem State.setPc_autoInit (k : Nat) (v : PcSt) : (s.setPc k v).autoInit = s.autoInit := rfl
@[simp] theorem State.setPc_resv (k : Nat) (v : PcSt) : (s.setPc k v).resv = s.resv := rfl
@[simp] theorem State.setPc_basins (k : Nat) (v : PcSt) : (s.setPc k v).basins = s.basins := rfl
@[simp] theorem State.setPc_xbar (k : Nat) (v : PcSt) : (s.setPc k v).xbar = s.xbar := rfl
@[simp] theorem State.setPc_pipes (k : Nat) (v : PcSt) : (s.setPc k v).pipes = s.pipes := rfl
@[simp] theorem State.setPc_fabs (k : Nat) (v : PcSt) : (s.setPc k v).fabs = s.fabs := rfl
@[simp] theorem State.setPc_elapsed (k : Nat) (v : PcSt) : (s.setPc k v).elapsed = s.elapsed := rfl
@[simp] theorem State.setPc_code (k : Nat) (v : PcSt) : (s.setPc k v).code = s.code := rfl
@[simp] theorem State.setPc_stores (k : Nat) (v : PcSt) : (s.setPc k v).stores = s.stores := rfl
@[simp] theorem State.setPc_mods (k : Nat) (v : PcSt) : (s.setPc k v).mods = s.mods := rfl
@[simp] theorem State.setPc_turns (k : Nat) (v : PcSt) : (s.setPc k v).turns = s.turns := rfl
@[simp] theorem State.setPc_swaps (k : Nat) (v : PcSt) : (s.setPc k v).swaps = s.swaps := rfl
@[simp] theorem State.setPc_boot (k : Nat) (v : PcSt) : (s.setPc k v).boot = s.boot := rfl
@[simp] theorem State.setPc_upd (k : Nat) (v : PcSt) : (s.setPc k v).upd = s.upd := rfl
@[simp] theorem State.setPc_pow (k : Nat) (v : PcSt) : (s.setPc k v).pow = s.pow := rfl
@[simp] theorem State.setPc_engs (k : Nat) (v : PcSt) : (s.setPc k v).engs = s.engs := rfl
@[simp] theorem State.setPc_patchRam (k : Nat) (v : PcSt) : (s.setPc k v).patchRam = s.patchRam := rfl
@[simp] theorem State.setPc_loaders (k : Nat) (v : PcSt) : (s.setPc k v).loaders = s.loaders := rfl
@[simp] theorem State.setPc_rings (k : Nat) (v : PcSt) : (s.setPc k v).rings = s.rings := rfl
@[simp] theorem State.setPc_cfes (k : Nat) (v : PcSt) : (s.setPc k v).cfes = s.cfes := rfl
@[simp] theorem State.setPc_cists (k : Nat) (v : PcSt) : (s.setPc k v).cists = s.cists := rfl
@[simp] theorem State.setPc_closed (k : Nat) (v : PcSt) : (s.setPc k v).closed = s.closed := rfl
@[simp] theorem State.setPc_nextClosed (k : Nat) (v : PcSt) : (s.setPc k v).nextClosed = s.nextClosed := rfl
@[simp] theorem State.setPc_draining (k : Nat) (v : PcSt) : (s.setPc k v).draining = s.draining := rfl
@[simp] theorem State.setPc_flt (k : Nat) (v : PcSt) : (s.setPc k v).flt = s.flt := rfl
@[simp] theorem State.setPc_wm (k : Nat) (v : PcSt) : (s.setPc k v).wm = s.wm := rfl
@[simp] theorem State.setPc_gau (k : Nat) (v : PcSt) : (s.setPc k v).gau = s.gau := rfl
@[simp] theorem State.setPc_tap (k : Nat) (v : PcSt) : (s.setPc k v).tap = s.tap := rfl

/-! What setMod leaves. -/
@[simp] theorem State.setMod_pending (i m : Nat) (v : ModSt) : (s.setMod i m v).pending = s.pending := rfl
@[simp] theorem State.setMod_part (i m : Nat) (v : ModSt) : (s.setMod i m v).part = s.part := rfl
@[simp] theorem State.setMod_csr (i m : Nat) (v : ModSt) : (s.setMod i m v).csr = s.csr := rfl
@[simp] theorem State.setMod_settings (i m : Nat) (v : ModSt) : (s.setMod i m v).settings = s.settings := rfl
@[simp] theorem State.setMod_mem (i m : Nat) (v : ModSt) : (s.setMod i m v).mem = s.mem := rfl
@[simp] theorem State.setMod_resp (i m : Nat) (v : ModSt) : (s.setMod i m v).resp = s.resp := rfl
@[simp] theorem State.setMod_out (i m : Nat) (v : ModSt) : (s.setMod i m v).out = s.out := rfl
@[simp] theorem State.setMod_free (i m : Nat) (v : ModSt) : (s.setMod i m v).free = s.free := rfl
@[simp] theorem State.setMod_ledg (i m : Nat) (v : ModSt) : (s.setMod i m v).ledg = s.ledg := rfl
@[simp] theorem State.setMod_events (i m : Nat) (v : ModSt) : (s.setMod i m v).events = s.events := rfl
@[simp] theorem State.setMod_evSeq (i m : Nat) (v : ModSt) : (s.setMod i m v).evSeq = s.evSeq := rfl
@[simp] theorem State.setMod_evBook (i m : Nat) (v : ModSt) : (s.setMod i m v).evBook = s.evBook := rfl
@[simp] theorem State.setMod_cxl (i m : Nat) (v : ModSt) : (s.setMod i m v).cxl = s.cxl := rfl
@[simp] theorem State.setMod_copy (i m : Nat) (v : ModSt) : (s.setMod i m v).copy = s.copy := rfl
@[simp] theorem State.setMod_time (i m : Nat) (v : ModSt) : (s.setMod i m v).time = s.time := rfl
@[simp] theorem State.setMod_slaves (i m : Nat) (v : ModSt) : (s.setMod i m v).slaves = s.slaves := rfl
@[simp] theorem State.setMod_lanes (i m : Nat) (v : ModSt) : (s.setMod i m v).lanes = s.lanes := rfl
@[simp] theorem State.setMod_ports (i m : Nat) (v : ModSt) : (s.setMod i m v).ports = s.ports := rfl
@[simp] theorem State.setMod_fields (i m : Nat) (v : ModSt) : (s.setMod i m v).fields = s.fields := rfl
@[simp] theorem State.setMod_chan (i m : Nat) (v : ModSt) : (s.setMod i m v).chan = s.chan := rfl
@[simp] theorem State.setMod_furs (i m : Nat) (v : ModSt) : (s.setMod i m v).furs = s.furs := rfl
@[simp] theorem State.setMod_chk (i m : Nat) (v : ModSt) : (s.setMod i m v).chk = s.chk := rfl
@[simp] theorem State.setMod_fog (i m : Nat) (v : ModSt) : (s.setMod i m v).fog = s.fog := rfl
@[simp] theorem State.setMod_tags (i m : Nat) (v : ModSt) : (s.setMod i m v).tags = s.tags := rfl
@[simp] theorem State.setMod_nextOrd (i m : Nat) (v : ModSt) : (s.setMod i m v).nextOrd = s.nextOrd := rfl
@[simp] theorem State.setMod_waiting (i m : Nat) (v : ModSt) : (s.setMod i m v).waiting = s.waiting := rfl
@[simp] theorem State.setMod_ingress (i m : Nat) (v : ModSt) : (s.setMod i m v).ingress = s.ingress := rfl
@[simp] theorem State.setMod_owed (i m : Nat) (v : ModSt) : (s.setMod i m v).owed = s.owed := rfl
@[simp] theorem State.setMod_unaudited (i m : Nat) (v : ModSt) : (s.setMod i m v).unaudited = s.unaudited := rfl
@[simp] theorem State.setMod_served (i m : Nat) (v : ModSt) : (s.setMod i m v).served = s.served := rfl
@[simp] theorem State.setMod_remain (i m : Nat) (v : ModSt) : (s.setMod i m v).remain = s.remain := rfl
@[simp] theorem State.setMod_upSpent (i m : Nat) (v : ModSt) : (s.setMod i m v).upSpent = s.upSpent := rfl
@[simp] theorem State.setMod_walk (i m : Nat) (v : ModSt) : (s.setMod i m v).walk = s.walk := rfl
@[simp] theorem State.setMod_walkTag (i m : Nat) (v : ModSt) : (s.setMod i m v).walkTag = s.walkTag := rfl
@[simp] theorem State.setMod_pcs (i m : Nat) (v : ModSt) : (s.setMod i m v).pcs = s.pcs := rfl
@[simp] theorem State.setMod_qdrs (i m : Nat) (v : ModSt) : (s.setMod i m v).qdrs = s.qdrs := rfl
@[simp] theorem State.setMod_hmcs (i m : Nat) (v : ModSt) : (s.setMod i m v).hmcs = s.hmcs := rfl
@[simp] theorem State.setMod_walkers (i m : Nat) (v : ModSt) : (s.setMod i m v).walkers = s.walkers := rfl
@[simp] theorem State.setMod_ranges (i m : Nat) (v : ModSt) : (s.setMod i m v).ranges = s.ranges := rfl
@[simp] theorem State.setMod_autoInit (i m : Nat) (v : ModSt) : (s.setMod i m v).autoInit = s.autoInit := rfl
@[simp] theorem State.setMod_resv (i m : Nat) (v : ModSt) : (s.setMod i m v).resv = s.resv := rfl
@[simp] theorem State.setMod_basins (i m : Nat) (v : ModSt) : (s.setMod i m v).basins = s.basins := rfl
@[simp] theorem State.setMod_xbar (i m : Nat) (v : ModSt) : (s.setMod i m v).xbar = s.xbar := rfl
@[simp] theorem State.setMod_pipes (i m : Nat) (v : ModSt) : (s.setMod i m v).pipes = s.pipes := rfl
@[simp] theorem State.setMod_fabs (i m : Nat) (v : ModSt) : (s.setMod i m v).fabs = s.fabs := rfl
@[simp] theorem State.setMod_elapsed (i m : Nat) (v : ModSt) : (s.setMod i m v).elapsed = s.elapsed := rfl
@[simp] theorem State.setMod_code (i m : Nat) (v : ModSt) : (s.setMod i m v).code = s.code := rfl
@[simp] theorem State.setMod_stores (i m : Nat) (v : ModSt) : (s.setMod i m v).stores = s.stores := rfl
@[simp] theorem State.setMod_turns (i m : Nat) (v : ModSt) : (s.setMod i m v).turns = s.turns := rfl
@[simp] theorem State.setMod_swaps (i m : Nat) (v : ModSt) : (s.setMod i m v).swaps = s.swaps := rfl
@[simp] theorem State.setMod_boot (i m : Nat) (v : ModSt) : (s.setMod i m v).boot = s.boot := rfl
@[simp] theorem State.setMod_upd (i m : Nat) (v : ModSt) : (s.setMod i m v).upd = s.upd := rfl
@[simp] theorem State.setMod_pow (i m : Nat) (v : ModSt) : (s.setMod i m v).pow = s.pow := rfl
@[simp] theorem State.setMod_engs (i m : Nat) (v : ModSt) : (s.setMod i m v).engs = s.engs := rfl
@[simp] theorem State.setMod_patchRam (i m : Nat) (v : ModSt) : (s.setMod i m v).patchRam = s.patchRam := rfl
@[simp] theorem State.setMod_loaders (i m : Nat) (v : ModSt) : (s.setMod i m v).loaders = s.loaders := rfl
@[simp] theorem State.setMod_rings (i m : Nat) (v : ModSt) : (s.setMod i m v).rings = s.rings := rfl
@[simp] theorem State.setMod_cfes (i m : Nat) (v : ModSt) : (s.setMod i m v).cfes = s.cfes := rfl
@[simp] theorem State.setMod_cists (i m : Nat) (v : ModSt) : (s.setMod i m v).cists = s.cists := rfl
@[simp] theorem State.setMod_closed (i m : Nat) (v : ModSt) : (s.setMod i m v).closed = s.closed := rfl
@[simp] theorem State.setMod_nextClosed (i m : Nat) (v : ModSt) : (s.setMod i m v).nextClosed = s.nextClosed := rfl
@[simp] theorem State.setMod_draining (i m : Nat) (v : ModSt) : (s.setMod i m v).draining = s.draining := rfl
@[simp] theorem State.setMod_flt (i m : Nat) (v : ModSt) : (s.setMod i m v).flt = s.flt := rfl
@[simp] theorem State.setMod_wm (i m : Nat) (v : ModSt) : (s.setMod i m v).wm = s.wm := rfl
@[simp] theorem State.setMod_gau (i m : Nat) (v : ModSt) : (s.setMod i m v).gau = s.gau := rfl
@[simp] theorem State.setMod_tap (i m : Nat) (v : ModSt) : (s.setMod i m v).tap = s.tap := rfl

/-! What setTurn leaves. -/
@[simp] theorem State.setTurn_pending (t m : Nat) (v : TurnSt) : (s.setTurn t m v).pending = s.pending := rfl
@[simp] theorem State.setTurn_part (t m : Nat) (v : TurnSt) : (s.setTurn t m v).part = s.part := rfl
@[simp] theorem State.setTurn_csr (t m : Nat) (v : TurnSt) : (s.setTurn t m v).csr = s.csr := rfl
@[simp] theorem State.setTurn_settings (t m : Nat) (v : TurnSt) : (s.setTurn t m v).settings = s.settings := rfl
@[simp] theorem State.setTurn_mem (t m : Nat) (v : TurnSt) : (s.setTurn t m v).mem = s.mem := rfl
@[simp] theorem State.setTurn_resp (t m : Nat) (v : TurnSt) : (s.setTurn t m v).resp = s.resp := rfl
@[simp] theorem State.setTurn_out (t m : Nat) (v : TurnSt) : (s.setTurn t m v).out = s.out := rfl
@[simp] theorem State.setTurn_free (t m : Nat) (v : TurnSt) : (s.setTurn t m v).free = s.free := rfl
@[simp] theorem State.setTurn_ledg (t m : Nat) (v : TurnSt) : (s.setTurn t m v).ledg = s.ledg := rfl
@[simp] theorem State.setTurn_events (t m : Nat) (v : TurnSt) : (s.setTurn t m v).events = s.events := rfl
@[simp] theorem State.setTurn_evSeq (t m : Nat) (v : TurnSt) : (s.setTurn t m v).evSeq = s.evSeq := rfl
@[simp] theorem State.setTurn_evBook (t m : Nat) (v : TurnSt) : (s.setTurn t m v).evBook = s.evBook := rfl
@[simp] theorem State.setTurn_cxl (t m : Nat) (v : TurnSt) : (s.setTurn t m v).cxl = s.cxl := rfl
@[simp] theorem State.setTurn_copy (t m : Nat) (v : TurnSt) : (s.setTurn t m v).copy = s.copy := rfl
@[simp] theorem State.setTurn_time (t m : Nat) (v : TurnSt) : (s.setTurn t m v).time = s.time := rfl
@[simp] theorem State.setTurn_slaves (t m : Nat) (v : TurnSt) : (s.setTurn t m v).slaves = s.slaves := rfl
@[simp] theorem State.setTurn_lanes (t m : Nat) (v : TurnSt) : (s.setTurn t m v).lanes = s.lanes := rfl
@[simp] theorem State.setTurn_ports (t m : Nat) (v : TurnSt) : (s.setTurn t m v).ports = s.ports := rfl
@[simp] theorem State.setTurn_fields (t m : Nat) (v : TurnSt) : (s.setTurn t m v).fields = s.fields := rfl
@[simp] theorem State.setTurn_chan (t m : Nat) (v : TurnSt) : (s.setTurn t m v).chan = s.chan := rfl
@[simp] theorem State.setTurn_furs (t m : Nat) (v : TurnSt) : (s.setTurn t m v).furs = s.furs := rfl
@[simp] theorem State.setTurn_chk (t m : Nat) (v : TurnSt) : (s.setTurn t m v).chk = s.chk := rfl
@[simp] theorem State.setTurn_fog (t m : Nat) (v : TurnSt) : (s.setTurn t m v).fog = s.fog := rfl
@[simp] theorem State.setTurn_tags (t m : Nat) (v : TurnSt) : (s.setTurn t m v).tags = s.tags := rfl
@[simp] theorem State.setTurn_nextOrd (t m : Nat) (v : TurnSt) : (s.setTurn t m v).nextOrd = s.nextOrd := rfl
@[simp] theorem State.setTurn_waiting (t m : Nat) (v : TurnSt) : (s.setTurn t m v).waiting = s.waiting := rfl
@[simp] theorem State.setTurn_ingress (t m : Nat) (v : TurnSt) : (s.setTurn t m v).ingress = s.ingress := rfl
@[simp] theorem State.setTurn_owed (t m : Nat) (v : TurnSt) : (s.setTurn t m v).owed = s.owed := rfl
@[simp] theorem State.setTurn_unaudited (t m : Nat) (v : TurnSt) : (s.setTurn t m v).unaudited = s.unaudited := rfl
@[simp] theorem State.setTurn_served (t m : Nat) (v : TurnSt) : (s.setTurn t m v).served = s.served := rfl
@[simp] theorem State.setTurn_remain (t m : Nat) (v : TurnSt) : (s.setTurn t m v).remain = s.remain := rfl
@[simp] theorem State.setTurn_upSpent (t m : Nat) (v : TurnSt) : (s.setTurn t m v).upSpent = s.upSpent := rfl
@[simp] theorem State.setTurn_walk (t m : Nat) (v : TurnSt) : (s.setTurn t m v).walk = s.walk := rfl
@[simp] theorem State.setTurn_walkTag (t m : Nat) (v : TurnSt) : (s.setTurn t m v).walkTag = s.walkTag := rfl
@[simp] theorem State.setTurn_pcs (t m : Nat) (v : TurnSt) : (s.setTurn t m v).pcs = s.pcs := rfl
@[simp] theorem State.setTurn_qdrs (t m : Nat) (v : TurnSt) : (s.setTurn t m v).qdrs = s.qdrs := rfl
@[simp] theorem State.setTurn_hmcs (t m : Nat) (v : TurnSt) : (s.setTurn t m v).hmcs = s.hmcs := rfl
@[simp] theorem State.setTurn_walkers (t m : Nat) (v : TurnSt) : (s.setTurn t m v).walkers = s.walkers := rfl
@[simp] theorem State.setTurn_ranges (t m : Nat) (v : TurnSt) : (s.setTurn t m v).ranges = s.ranges := rfl
@[simp] theorem State.setTurn_autoInit (t m : Nat) (v : TurnSt) : (s.setTurn t m v).autoInit = s.autoInit := rfl
@[simp] theorem State.setTurn_resv (t m : Nat) (v : TurnSt) : (s.setTurn t m v).resv = s.resv := rfl
@[simp] theorem State.setTurn_basins (t m : Nat) (v : TurnSt) : (s.setTurn t m v).basins = s.basins := rfl
@[simp] theorem State.setTurn_xbar (t m : Nat) (v : TurnSt) : (s.setTurn t m v).xbar = s.xbar := rfl
@[simp] theorem State.setTurn_pipes (t m : Nat) (v : TurnSt) : (s.setTurn t m v).pipes = s.pipes := rfl
@[simp] theorem State.setTurn_fabs (t m : Nat) (v : TurnSt) : (s.setTurn t m v).fabs = s.fabs := rfl
@[simp] theorem State.setTurn_elapsed (t m : Nat) (v : TurnSt) : (s.setTurn t m v).elapsed = s.elapsed := rfl
@[simp] theorem State.setTurn_code (t m : Nat) (v : TurnSt) : (s.setTurn t m v).code = s.code := rfl
@[simp] theorem State.setTurn_stores (t m : Nat) (v : TurnSt) : (s.setTurn t m v).stores = s.stores := rfl
@[simp] theorem State.setTurn_mods (t m : Nat) (v : TurnSt) : (s.setTurn t m v).mods = s.mods := rfl
@[simp] theorem State.setTurn_swaps (t m : Nat) (v : TurnSt) : (s.setTurn t m v).swaps = s.swaps := rfl
@[simp] theorem State.setTurn_boot (t m : Nat) (v : TurnSt) : (s.setTurn t m v).boot = s.boot := rfl
@[simp] theorem State.setTurn_upd (t m : Nat) (v : TurnSt) : (s.setTurn t m v).upd = s.upd := rfl
@[simp] theorem State.setTurn_pow (t m : Nat) (v : TurnSt) : (s.setTurn t m v).pow = s.pow := rfl
@[simp] theorem State.setTurn_engs (t m : Nat) (v : TurnSt) : (s.setTurn t m v).engs = s.engs := rfl
@[simp] theorem State.setTurn_patchRam (t m : Nat) (v : TurnSt) : (s.setTurn t m v).patchRam = s.patchRam := rfl
@[simp] theorem State.setTurn_loaders (t m : Nat) (v : TurnSt) : (s.setTurn t m v).loaders = s.loaders := rfl
@[simp] theorem State.setTurn_rings (t m : Nat) (v : TurnSt) : (s.setTurn t m v).rings = s.rings := rfl
@[simp] theorem State.setTurn_cfes (t m : Nat) (v : TurnSt) : (s.setTurn t m v).cfes = s.cfes := rfl
@[simp] theorem State.setTurn_cists (t m : Nat) (v : TurnSt) : (s.setTurn t m v).cists = s.cists := rfl
@[simp] theorem State.setTurn_closed (t m : Nat) (v : TurnSt) : (s.setTurn t m v).closed = s.closed := rfl
@[simp] theorem State.setTurn_nextClosed (t m : Nat) (v : TurnSt) : (s.setTurn t m v).nextClosed = s.nextClosed := rfl
@[simp] theorem State.setTurn_draining (t m : Nat) (v : TurnSt) : (s.setTurn t m v).draining = s.draining := rfl
@[simp] theorem State.setTurn_flt (t m : Nat) (v : TurnSt) : (s.setTurn t m v).flt = s.flt := rfl
@[simp] theorem State.setTurn_wm (t m : Nat) (v : TurnSt) : (s.setTurn t m v).wm = s.wm := rfl
@[simp] theorem State.setTurn_gau (t m : Nat) (v : TurnSt) : (s.setTurn t m v).gau = s.gau := rfl
@[simp] theorem State.setTurn_tap (t m : Nat) (v : TurnSt) : (s.setTurn t m v).tap = s.tap := rfl

/-! One entry read back after one is stored. -/

@[simp] theorem State.setLane_self (k : Nat) (v : LaneSt) : (s.setLane k v).lane k = v := Store.get_set_self ..
theorem State.setLane_ne {j k : Nat} (h : j ≠ k) (v : LaneSt) : (s.setLane k v).lane j = s.lane j := Store.get_set_ne h ..
@[simp] theorem State.setPort_self (k : Nat) (v : PortSt) : (s.setPort k v).port k = v := Store.get_set_self ..
theorem State.setPort_ne {j k : Nat} (h : j ≠ k) (v : PortSt) : (s.setPort k v).port j = s.port j := Store.get_set_ne h ..
@[simp] theorem State.setField_self (k : Nat) (v : FieldSt) : (s.setField k v).field k = v := Store.get_set_self ..
theorem State.setField_ne {j k : Nat} (h : j ≠ k) (v : FieldSt) : (s.setField k v).field j = s.field j := Store.get_set_ne h ..
@[simp] theorem State.setFur_self (k : Nat) (v : FurSt) : (s.setFur k v).fur k = v := Store.get_set_self ..
theorem State.setFur_ne {j k : Nat} (h : j ≠ k) (v : FurSt) : (s.setFur k v).fur j = s.fur j := Store.get_set_ne h ..
@[simp] theorem State.setEng_self (k : Nat) (v : EngSt) : (s.setEng k v).eng k = v := Store.get_set_self ..
theorem State.setEng_ne {j k : Nat} (h : j ≠ k) (v : EngSt) : (s.setEng k v).eng j = s.eng j := Store.get_set_ne h ..
@[simp] theorem State.setSlave_self (k : Nat) (v : SlaveSt) : (s.setSlave k v).slave k = v := Store.get_set_self ..
theorem State.setSlave_ne {j k : Nat} (h : j ≠ k) (v : SlaveSt) : (s.setSlave k v).slave j = s.slave j := Store.get_set_ne h ..
@[simp] theorem State.setCfe_self (k : Nat) (v : CfeSt) : (s.setCfe k v).cfe k = v := Store.get_set_self ..
theorem State.setCfe_ne {j k : Nat} (h : j ≠ k) (v : CfeSt) : (s.setCfe k v).cfe j = s.cfe j := Store.get_set_ne h ..
@[simp] theorem State.setCist_self (k : Nat) (v : CistSt) : (s.setCist k v).cist k = v := Store.get_set_self ..
theorem State.setCist_ne {j k : Nat} (h : j ≠ k) (v : CistSt) : (s.setCist k v).cist j = s.cist j := Store.get_set_ne h ..
@[simp] theorem State.setWalker_self (k : Nat) (v : WalkSt) : (s.setWalker k v).walker k = v := Store.get_set_self ..
theorem State.setWalker_ne {j k : Nat} (h : j ≠ k) (v : WalkSt) : (s.setWalker k v).walker j = s.walker j := Store.get_set_ne h ..
@[simp] theorem State.setHmc_self (k : Nat) (v : HmcSt) : (s.setHmc k v).hmc k = v := Store.get_set_self ..
theorem State.setHmc_ne {j k : Nat} (h : j ≠ k) (v : HmcSt) : (s.setHmc k v).hmc j = s.hmc j := Store.get_set_ne h ..
@[simp] theorem State.setRing_self (k : Nat) (v : RingSt) : (s.setRing k v).ring k = v := Store.get_set_self ..
theorem State.setRing_ne {j k : Nat} (h : j ≠ k) (v : RingSt) : (s.setRing k v).ring j = s.ring j := Store.get_set_ne h ..
@[simp] theorem State.setOp_self (k : Nat) (v : Op) : (s.setOp k v).op k = v := Store.get_set_self ..
theorem State.setOp_ne {j k : Nat} (h : j ≠ k) (v : Op) : (s.setOp k v).op j = s.op j := Store.get_set_ne h ..
@[simp] theorem State.setByte_self (a : Nat) (b : Byte) : (s.setByte a b).memByte a = b := Store.get_set_self ..

/-! Register fields. -/

@[simp] theorem State.raise_eq (f : Field) (i j k : Nat) : s.raise f i j k = s.set f 1 i j k := rfl
@[simp] theorem State.lower_eq (f : Field) (i j k : Nat) : s.lower f i j k = s.set f 0 i j k := rfl
@[simp] theorem State.setB_eq (f : Field) (b : Bool) (i j k : Nat) : s.setB f b i j k = s.set f (if b then 1 else 0) i j k := rfl
@[simp] theorem State.set2_eq (lo hi : Field) (v i j k : Nat) : s.set2 lo hi v i j k = (s.set lo v i j k).set hi (v / 2 ^ 32) i j k := rfl
@[simp] theorem State.count_eq (f : Field) (n i j k : Nat) :
    s.count f n i j k = s.set f (min (s.get f i j k + n) (2 ^ f.w - 1)) i j k := rfl
@[simp] theorem State.wrap_eq (f : Field) (n i j k : Nat) : s.wrap f n i j k = s.set f (s.get f i j k + n) i j k := rfl

/-- A field reads as what was written to it, cut to its width. -/
@[simp] theorem State.get_set_self (f : Field) (v i j k : Nat) (h : f.w ≤ 32 := by decide) :
    (s.set f v i j k).get f i j k = v % 2 ^ f.w := by
  have h1 : v % 2 ^ f.w < 2 ^ 32 :=
    Nat.lt_of_lt_of_le (Nat.mod_lt _ (Nat.two_pow_pos _)) (Nat.pow_le_pow_right (by decide) h)
  have h2 : (BitVec.ofNat 32 (v % 2 ^ f.w)).toNat = v % 2 ^ f.w := Nat.mod_eq_of_lt h1
  simpa only [State.get, State.set, Store.get_set_self] using h2

/-- A write of a field leaves every field at another bit address alone. -/
theorem State.get_set_ne {f g : Field} {i j k i' j' k' : Nat} (h : g.key i' j' k' ≠ f.key i j k) (v : Nat) :
    (s.set f v i j k).get g i' j' k' = s.get g i' j' k' := by
  simp [State.get, State.set, Store.get_set_ne h]

/-! Reading a field does not depend on the parts of the state beside csr. -/

theorem State.get_congr {s t : State} (h : t.csr = s.csr) (f : Field) (i j k : Nat) : t.get f i j k = s.get f i j k := by
  simp [State.get, h]

/-- A field of a reset machine holds the value of its Reset column. -/
theorem State.get_reset (f : Field) (i j k : Nat) : State.reset.get f i j k = f.resetAt i j k % 2 ^ 32 := by
  simp [State.get, State.reset, Store.get, Store.find]

/-! An access to a block. -/

/-- An access to a block that is reached has its effect and is answered OK. -/
theorem State.access_open {b : Blk} {n : Nat} (h : s.barred b n = none) (f : State → State) : s.access b n f = (f s).answer .ok := by
  simp [State.access, h]

/-- R32, R45, R195: an access that is barred only receives its error response, which the tracker counts where it is TIMEOUT. -/
theorem State.access_barred {b : Blk} {n : Nat} {st : RStat} (h : s.barred b n = some st) (f : State → State) :
    s.access b n f = (s.timedOut st).answer st := by
  simp [State.access, h]

/-! Open values are taken once: each use advances the counter. -/
@[simp] theorem State.used_free : s.used.free = s.free + 1 := rfl

end Sys2Proof.Machine
end

