-- ==== Sys2Proof/Laws/Keys.lean ====
section
/-! SUPPORT. The bit address of every register field, as a linear expression of its indices. -/
set_option Elab.async false
namespace Sys2Proof.Machine

theorem GLB.ID_HREV_key (i j k : Nat) : GLB.ID_HREV.key i j k = 0 + i * 0 + j * 0 := by first | rfl
theorem GLB.ID_PART_key (i j k : Nat) : GLB.ID_PART.key i j k = 8 + i * 0 + j * 0 := by first | rfl
theorem GLB.ID_FAMILY_key (i j k : Nat) : GLB.ID_FAMILY.key i j k = 16 + i * 0 + j * 0 := by first | rfl
theorem GLB.PART_FPRES_key (i j k : Nat) : GLB.PART_FPRES.key i j k = 32 + i * 0 + j * 0 := by first | rfl
theorem GLB.PART_TPRES_key (i j k : Nat) : GLB.PART_TPRES.key i j k = 40 + i * 0 + j * 0 := by first | rfl
theorem GLB.PART_GRADE_key (i j k : Nat) : GLB.PART_GRADE.key i j k = 44 + i * 0 + j * 0 := by first | rfl
theorem GLB.PART_TEMP_key (i j k : Nat) : GLB.PART_TEMP.key i j k = 46 + i * 0 + j * 0 := by first | rfl
theorem GLB.FREV_key (i j k : Nat) : GLB.FREV.key i j k = 64 + i * 0 + j * 0 := by first | rfl
theorem GLB.AVAIL_FREADY_key (i j k : Nat) : GLB.AVAIL_FREADY.key i j k = 96 + i * 0 + j * 0 := by first | rfl
theorem GLB.AVAIL_FFENCED_key (i j k : Nat) : GLB.AVAIL_FFENCED.key i j k = 104 + i * 0 + j * 0 := by first | rfl
theorem GLB.AVAIL_HBMTRN_key (i j k : Nat) : GLB.AVAIL_HBMTRN.key i j k = 112 + i * 0 + j * 0 := by first | rfl
theorem GLB.AVAIL_HBMUP_key (i j k : Nat) : GLB.AVAIL_HBMUP.key i j k = 116 + i * 0 + j * 0 := by first | rfl
theorem GLB.AVAIL_TPSYNC_key (i j k : Nat) : GLB.AVAIL_TPSYNC.key i j k = 117 + i * 0 + j * 0 := by first | rfl
theorem GLB.AVAIL_TRDY_key (i j k : Nat) : GLB.AVAIL_TRDY.key i j k = 118 + i * 0 + j * 0 := by first | rfl
theorem GLB.AVAIL_QDRUP_key (i j k : Nat) : GLB.AVAIL_QDRUP.key i j k = 120 + i * 0 + j * 0 := by first | rfl
theorem GLB.SERV_STATE_key (i j k : Nat) : GLB.SERV_STATE.key i j k = 128 + i * 0 + j * 0 := by first | rfl
theorem GLB.SERIAL_LO_key (i j k : Nat) : GLB.SERIAL_LO.key i j k = 160 + i * 0 + j * 0 := by first | rfl
theorem GLB.SERIAL_HI_key (i j k : Nat) : GLB.SERIAL_HI.key i j k = 192 + i * 0 + j * 0 := by first | rfl
theorem GLB.SCRATCH_key (i j k : Nat) : GLB.SCRATCH.key i j k = 224 + i * 0 + j * 0 := by first | rfl
theorem CNL.CTRL_CNTCLR_key (i j k : Nat) : CNL.CTRL_CNTCLR.key i j k = 524288 + i * 0 + j * 0 := by first | rfl
theorem CNL.STAT_HDRCOR_key (i j k : Nat) : CNL.STAT_HDRCOR.key i j k = 524320 + i * 0 + j * 0 := by first | rfl
theorem CNL.STAT_HDRUNC_key (i j k : Nat) : CNL.STAT_HDRUNC.key i j k = 524321 + i * 0 + j * 0 := by first | rfl
theorem CNL.STAT_AUDITFIX_key (i j k : Nat) : CNL.STAT_AUDITFIX.key i j k = 524322 + i * 0 + j * 0 := by first | rfl
theorem CNL.STAT_PWDROP_key (i j k : Nat) : CNL.STAT_PWDROP.key i j k = 524323 + i * 0 + j * 0 := by first | rfl
theorem CNL.ECNT_HDRCOR_key (i j k : Nat) : CNL.ECNT_HDRCOR.key i j k = 524352 + i * 0 + j * 0 := by first | rfl
theorem CNL.ECNT_HDRUNC_key (i j k : Nat) : CNL.ECNT_HDRUNC.key i j k = 524368 + i * 0 + j * 0 := by first | rfl
theorem CNL.PWDROP_key (i j k : Nat) : CNL.PWDROP.key i j k = 524384 + i * 0 + j * 0 := by first | rfl
theorem CNL.ELOG0_SRC_key (i j k : Nat) : CNL.ELOG0_SRC.key i j k = 524416 + i * 0 + j * 0 := by first | rfl
theorem CNL.ELOG0_PORT_key (i j k : Nat) : CNL.ELOG0_PORT.key i j k = 524428 + i * 0 + j * 0 := by first | rfl
theorem CNL.ELOG0_VC_key (i j k : Nat) : CNL.ELOG0_VC.key i j k = 524436 + i * 0 + j * 0 := by first | rfl
theorem CNL.ELOG0_KIND_key (i j k : Nat) : CNL.ELOG0_KIND.key i j k = 524438 + i * 0 + j * 0 := by first | rfl
theorem CNL.ELOG1_ADDR_LO_key (i j k : Nat) : CNL.ELOG1_ADDR_LO.key i j k = 524448 + i * 0 + j * 0 := by first | rfl
theorem CNL.ELOG2_ADDR_HI_key (i j k : Nat) : CNL.ELOG2_ADDR_HI.key i j k = 524480 + i * 0 + j * 0 := by first | rfl
theorem CNL.ELOG2_VALID_key (i j k : Nat) : CNL.ELOG2_VALID.key i j k = 524511 + i * 0 + j * 0 := by first | rfl
theorem CNL.FLITS_LO_key (i j k : Nat) : CNL.FLITS_LO.key i j k = 557056 + i * 256 + j * 0 := by first | rfl
theorem CNL.FLITS_HI_key (i j k : Nat) : CNL.FLITS_HI.key i j k = 557088 + i * 256 + j * 0 := by first | rfl
theorem CNL.BE_LO_key (i j k : Nat) : CNL.BE_LO.key i j k = 557120 + i * 256 + j * 0 := by first | rfl
theorem CNL.BE_HI_key (i j k : Nat) : CNL.BE_HI.key i j k = 557152 + i * 256 + j * 0 := by first | rfl
theorem CNL.STALL_key (i j k : Nat) : CNL.STALL.key i j k = 557184 + i * 256 + j * 0 := by first | rfl
theorem CNL.CREDIT_CRD_REQ_key (i j k : Nat) : CNL.CREDIT_CRD_REQ.key i j k = 557216 + i * 256 + j * 0 := by first | rfl
theorem CNL.CREDIT_CRD_RSP_key (i j k : Nat) : CNL.CREDIT_CRD_RSP.key i j k = 557224 + i * 256 + j * 0 := by first | rfl
theorem CNL.CREDIT_CRD_POST_key (i j k : Nat) : CNL.CREDIT_CRD_POST.key i j k = 557232 + i * 256 + j * 0 := by first | rfl
theorem CNL.CREDIT_CRD_MGT_key (i j k : Nat) : CNL.CREDIT_CRD_MGT.key i j k = 557240 + i * 256 + j * 0 := by first | rfl
theorem CNL.AUDCNT_key (i j k : Nat) : CNL.AUDCNT.key i j k = 557248 + i * 256 + j * 0 := by first | rfl
theorem SHR.STAT_OVERCOMMIT_key (i j k : Nat) : SHR.STAT_OVERCOMMIT.key i j k = 1048576 + i * 0 + j * 0 := by first | rfl
theorem SHR.STAT_MAPERR_key (i j k : Nat) : SHR.STAT_MAPERR.key i j k = 1048577 + i * 0 + j * 0 := by first | rfl
theorem SHR.STAT_OCPORT_key (i j k : Nat) : SHR.STAT_OCPORT.key i j k = 1048584 + i * 0 + j * 0 := by first | rfl
theorem SHR.STAT_OCSRC_key (i j k : Nat) : SHR.STAT_OCSRC.key i j k = 1048592 + i * 0 + j * 0 := by first | rfl
theorem SHR.DMIN_key (i j k : Nat) : SHR.DMIN.key i j k = 1048608 + i * 0 + j * 0 := by first | rfl
theorem SHR.LSUM_key (i j k : Nat) : SHR.LSUM.key i j k = 1048640 + i * 0 + j * 0 := by first | rfl
theorem SHR.FREE_key (i j k : Nat) : SHR.FREE.key i j k = 1056768 + i * 32 + j * 0 := by first | rfl
theorem SHR.TBL_SHA_key (i j k : Nat) : SHR.TBL_SHA.key i j k = 1081344 + i * 512 + j * 32 := by first | rfl
theorem SHR.TBL_SHB_key (i j k : Nat) : SHR.TBL_SHB.key i j k = 1081360 + i * 512 + j * 32 := by first | rfl
theorem SHR.UPL_SHA_key (i j k : Nat) : SHR.UPL_SHA.key i j k = 1179648 + i * 512 + j * 32 := by first | rfl
theorem SHR.UPL_SHB_key (i j k : Nat) : SHR.UPL_SHB.key i j k = 1179664 + i * 512 + j * 32 := by first | rfl
theorem SHR.MAP_key (i j k : Nat) : SHR.MAP.key i j k = 1310720 + i * 2048 + j * 8 := by first | rfl
theorem TRK.CTRL_CTO_key (i j k : Nat) : TRK.CTRL_CTO.key i j k = 1572864 + i * 0 + j * 0 := by first | rfl
theorem TRK.STAT_INUSE_key (i j k : Nat) : TRK.STAT_INUSE.key i j k = 1572896 + i * 0 + j * 0 := by first | rfl
theorem TRK.STAT_WALK_key (i j k : Nat) : TRK.STAT_WALK.key i j k = 1572915 + i * 0 + j * 0 := by first | rfl
theorem TRK.STAT_WALKDIE_key (i j k : Nat) : TRK.STAT_WALKDIE.key i j k = 1572916 + i * 0 + j * 0 := by first | rfl
theorem TRK.STAT_QERR_key (i j k : Nat) : TRK.STAT_QERR.key i j k = 1572920 + i * 0 + j * 0 := by first | rfl
theorem TRK.FREE_key (i j k : Nat) : TRK.FREE.key i j k = 1572928 + i * 0 + j * 0 := by first | rfl
theorem TRK.HWM_key (i j k : Nat) : TRK.HWM.key i j k = 1572960 + i * 0 + j * 0 := by first | rfl
theorem TRK.TOCNT_key (i j k : Nat) : TRK.TOCNT.key i j k = 1572992 + i * 0 + j * 0 := by first | rfl
theorem TRK.LATE_key (i j k : Nat) : TRK.LATE.key i j k = 1573024 + i * 0 + j * 0 := by first | rfl
theorem TRK.SYNTH_key (i j k : Nat) : TRK.SYNTH.key i j k = 1573056 + i * 0 + j * 0 := by first | rfl
theorem TRK.QUOTA_key (i j k : Nat) : TRK.QUOTA.key i j k = 1574912 + i * 32 + j * 0 := by first | rfl
theorem TRK.USED_key (i j k : Nat) : TRK.USED.key i j k = 1575424 + i * 32 + j * 0 := by first | rfl
theorem FLH.RC_STATUS_key (i j k : Nat) : FLH.RC_STATUS.key i j k = 8 * (262144 + i * 16384 + 0) + 0 + j * 0 + k * 0 := by first | rfl
theorem FLH.RC_FAIL_key (i j k : Nat) : FLH.RC_FAIL.key i j k = 8 * (262144 + i * 16384 + 0) + 4 + j * 0 + k * 0 := by first | rfl
theorem FLH.RC_IMGERR_key (i j k : Nat) : FLH.RC_IMGERR.key i j k = 8 * (262144 + i * 16384 + 0) + 12 + j * 0 + k * 0 := by first | rfl
theorem FLH.RC_DTYPE_key (i j k : Nat) : FLH.RC_DTYPE.key i j k = 8 * (262144 + i * 16384 + 0) + 20 + j * 0 + k * 0 := by first | rfl
theorem FLH.RC_REV_key (i j k : Nat) : FLH.RC_REV.key i j k = 8 * (262144 + i * 16384 + 0) + 24 + j * 0 + k * 0 := by first | rfl
theorem FLH.CTRL_FENCE_key (i j k : Nat) : FLH.CTRL_FENCE.key i j k = 8 * (262144 + i * 16384 + 4) + 0 + j * 0 + k * 0 := by first | rfl
theorem FLH.SERIAL_LO_key (i j k : Nat) : FLH.SERIAL_LO.key i j k = 8 * (262144 + i * 16384 + 8) + 0 + j * 0 + k * 0 := by first | rfl
theorem FLH.SERIAL_HI_key (i j k : Nat) : FLH.SERIAL_HI.key i j k = 8 * (262144 + i * 16384 + 12) + 0 + j * 0 + k * 0 := by first | rfl
theorem FLH.IMGVER_key (i j k : Nat) : FLH.IMGVER.key i j k = 8 * (262144 + i * 16384 + 16) + 0 + j * 0 + k * 0 := by first | rfl
theorem FLH.IMG_SCHEMA_key (i j k : Nat) : FLH.IMG_SCHEMA.key i j k = 8 * (262144 + i * 16384 + 20) + 0 + j * 0 + k * 0 := by first | rfl
theorem FLH.IMG_SLOT_key (i j k : Nat) : FLH.IMG_SLOT.key i j k = 8 * (262144 + i * 16384 + 20) + 16 + j * 0 + k * 0 := by first | rfl
theorem FLH.MODES_WMODE_key (i j k : Nat) : FLH.MODES_WMODE.key i j k = 8 * (262144 + i * 16384 + 24) + 0 + j * 0 + k * 0 := by first | rfl
theorem FLH.MODES_HCH_key (i j k : Nat) : FLH.MODES_HCH.key i j k = 8 * (262144 + i * 16384 + 24) + 8 + j * 0 + k * 0 := by first | rfl
theorem FLH.FENCE_TS_FRAC_key (i j k : Nat) : FLH.FENCE_TS_FRAC.key i j k = 8 * (262144 + i * 16384 + 32) + 0 + j * 0 + k * 0 := by first | rfl
theorem FLH.FENCE_TS_NS_key (i j k : Nat) : FLH.FENCE_TS_NS.key i j k = 8 * (262144 + i * 16384 + 36) + 0 + j * 0 + k * 0 := by first | rfl
theorem FLH.FENCE_TS_SECLO_key (i j k : Nat) : FLH.FENCE_TS_SECLO.key i j k = 8 * (262144 + i * 16384 + 40) + 0 + j * 0 + k * 0 := by first | rfl
theorem FLH.FENCE_TS_SECHI_key (i j k : Nat) : FLH.FENCE_TS_SECHI.key i j k = 8 * (262144 + i * 16384 + 44) + 0 + j * 0 + k * 0 := by first | rfl
theorem FLH.SB_UP_key (i j k : Nat) : FLH.SB_UP.key i j k = 8 * (262144 + i * 16384 + 48) + 0 + j * 0 + k * 0 := by first | rfl
theorem FLH.SB_HBLOST_key (i j k : Nat) : FLH.SB_HBLOST.key i j k = 8 * (262144 + i * 16384 + 48) + 1 + j * 0 + k * 0 := by first | rfl
theorem FLH.SB_ALARM_key (i j k : Nat) : FLH.SB_ALARM.key i j k = 8 * (262144 + i * 16384 + 48) + 2 + j * 0 + k * 0 := by first | rfl
theorem FLH.SB_SBERR_key (i j k : Nat) : FLH.SB_SBERR.key i j k = 8 * (262144 + i * 16384 + 48) + 16 + j * 0 + k * 0 := by first | rfl
theorem FLH.MCTRL_RETRAIN_key (i j k : Nat) : FLH.MCTRL_RETRAIN.key i j k = 8 * (262144 + i * 16384 + 4096) + 0 + j * 2048 + k * 0 := by first | rfl
theorem FLH.MCTRL_LBNEAR_key (i j k : Nat) : FLH.MCTRL_LBNEAR.key i j k = 8 * (262144 + i * 16384 + 4096) + 1 + j * 2048 + k * 0 := by first | rfl
theorem FLH.MCTRL_LBGO_key (i j k : Nat) : FLH.MCTRL_LBGO.key i j k = 8 * (262144 + i * 16384 + 4096) + 2 + j * 2048 + k * 0 := by first | rfl
theorem FLH.MSTAT_STATE_key (i j k : Nat) : FLH.MSTAT_STATE.key i j k = 8 * (262144 + i * 16384 + 4100) + 0 + j * 2048 + k * 0 := by first | rfl
theorem FLH.MSTAT_WIDTH_key (i j k : Nat) : FLH.MSTAT_WIDTH.key i j k = 8 * (262144 + i * 16384 + 4100) + 3 + j * 2048 + k * 0 := by first | rfl
theorem FLH.MSTAT_GROUP_key (i j k : Nat) : FLH.MSTAT_GROUP.key i j k = 8 * (262144 + i * 16384 + 4100) + 5 + j * 2048 + k * 0 := by first | rfl
theorem FLH.MSTAT_WIRE_key (i j k : Nat) : FLH.MSTAT_WIRE.key i j k = 8 * (262144 + i * 16384 + 4100) + 7 + j * 2048 + k * 0 := by first | rfl
theorem FLH.MSTAT_WIREDFLT_key (i j k : Nat) : FLH.MSTAT_WIREDFLT.key i j k = 8 * (262144 + i * 16384 + 4100) + 8 + j * 2048 + k * 0 := by first | rfl
theorem FLH.MSTAT_DISAGREE_key (i j k : Nat) : FLH.MSTAT_DISAGREE.key i j k = 8 * (262144 + i * 16384 + 4100) + 9 + j * 2048 + k * 0 := by first | rfl
theorem FLH.MSTAT_NARROWED_key (i j k : Nat) : FLH.MSTAT_NARROWED.key i j k = 8 * (262144 + i * 16384 + 4100) + 10 + j * 2048 + k * 0 := by first | rfl
theorem FLH.MSTAT_CMDERR_key (i j k : Nat) : FLH.MSTAT_CMDERR.key i j k = 8 * (262144 + i * 16384 + 4100) + 11 + j * 2048 + k * 0 := by first | rfl
theorem FLH.MSTAT_LBDONE_key (i j k : Nat) : FLH.MSTAT_LBDONE.key i j k = 8 * (262144 + i * 16384 + 4100) + 12 + j * 2048 + k * 0 := by first | rfl
theorem FLH.REPAIR_key (i j k : Nat) : FLH.REPAIR.key i j k = 8 * (262144 + i * 16384 + 4104) + 0 + j * 2048 + k * 0 := by first | rfl
theorem FLH.MCNT0_REPLAY_key (i j k : Nat) : FLH.MCNT0_REPLAY.key i j k = 8 * (262144 + i * 16384 + 4108) + 0 + j * 2048 + k * 0 := by first | rfl
theorem FLH.MCNT0_RETRN_key (i j k : Nat) : FLH.MCNT0_RETRN.key i j k = 8 * (262144 + i * 16384 + 4108) + 16 + j * 2048 + k * 0 := by first | rfl
theorem FLH.MCNT1_CRCERR_key (i j k : Nat) : FLH.MCNT1_CRCERR.key i j k = 8 * (262144 + i * 16384 + 4112) + 0 + j * 2048 + k * 0 := by first | rfl
theorem FLH.LBERR_key (i j k : Nat) : FLH.LBERR.key i j k = 8 * (262144 + i * 16384 + 4116) + 0 + j * 2048 + k * 0 := by first | rfl
theorem FLH.LBLANE0_key (i j k : Nat) : FLH.LBLANE0.key i j k = 8 * (262144 + i * 16384 + 4120) + 0 + j * 2048 + k * 0 := by first | rfl
theorem FLH.LBLANE1_key (i j k : Nat) : FLH.LBLANE1.key i j k = 8 * (262144 + i * 16384 + 4124) + 0 + j * 2048 + k * 0 := by first | rfl
theorem FLH.LBLANE2_key (i j k : Nat) : FLH.LBLANE2.key i j k = 8 * (262144 + i * 16384 + 4128) + 0 + j * 2048 + k * 0 := by first | rfl
theorem HMC.CTRL_RTPOST_key (i j k : Nat) : HMC.CTRL_RTPOST.key i j k = 8 * (524288 + i * 65536 + 0) + 0 + j * 0 + k * 0 := by first | rfl
theorem HMC.CTRL_NRREN_key (i j k : Nat) : HMC.CTRL_NRREN.key i j k = 8 * (524288 + i * 65536 + 0) + 1 + j * 0 + k * 0 := by first | rfl
theorem HMC.CTRL_NRRK_key (i j k : Nat) : HMC.CTRL_NRRK.key i j k = 8 * (524288 + i * 65536 + 0) + 2 + j * 0 + k * 0 := by first | rfl
theorem HMC.CTRL_OPMASK_key (i j k : Nat) : HMC.CTRL_OPMASK.key i j k = 8 * (524288 + i * 65536 + 0) + 6 + j * 0 + k * 0 := by first | rfl
theorem HMC.CTRL_START_key (i j k : Nat) : HMC.CTRL_START.key i j k = 8 * (524288 + i * 65536 + 0) + 10 + j * 0 + k * 0 := by first | rfl
theorem HMC.STAT_STATE_key (i j k : Nat) : HMC.STAT_STATE.key i j k = 8 * (524288 + i * 65536 + 4) + 0 + j * 0 + k * 0 := by first | rfl
theorem HMC.STAT_RATE_key (i j k : Nat) : HMC.STAT_RATE.key i j k = 8 * (524288 + i * 65536 + 4) + 3 + j * 0 + k * 0 := by first | rfl
theorem HMC.STAT_HOT_key (i j k : Nat) : HMC.STAT_HOT.key i j k = 8 * (524288 + i * 65536 + 4) + 5 + j * 0 + k * 0 := by first | rfl
theorem HMC.STAT_OPTRAINED_key (i j k : Nat) : HMC.STAT_OPTRAINED.key i j k = 8 * (524288 + i * 65536 + 4) + 6 + j * 0 + k * 0 := by first | rfl
theorem HMC.TEMP_key (i j k : Nat) : HMC.TEMP.key i j k = 8 * (524288 + i * 65536 + 8) + 0 + j * 0 + k * 0 := by first | rfl
theorem HMC.NRRSEED_key (i j k : Nat) : HMC.NRRSEED.key i j k = 8 * (524288 + i * 65536 + 12) + 0 + j * 0 + k * 0 := by first | rfl
theorem HMC.FCHG_GO_key (i j k : Nat) : HMC.FCHG_GO.key i j k = 8 * (524288 + i * 65536 + 16) + 0 + j * 0 + k * 0 := by first | rfl
theorem HMC.FCHG_ALL_key (i j k : Nat) : HMC.FCHG_ALL.key i j k = 8 * (524288 + i * 65536 + 16) + 1 + j * 0 + k * 0 := by first | rfl
theorem HMC.FCHG_BUSY_key (i j k : Nat) : HMC.FCHG_BUSY.key i j k = 8 * (524288 + i * 65536 + 16) + 2 + j * 0 + k * 0 := by first | rfl
theorem HMC.FCHG_SHVALID_key (i j k : Nat) : HMC.FCHG_SHVALID.key i j k = 8 * (524288 + i * 65536 + 16) + 3 + j * 0 + k * 0 := by first | rfl
theorem HMC.FCHG_ERR_key (i j k : Nat) : HMC.FCHG_ERR.key i j k = 8 * (524288 + i * 65536 + 16) + 4 + j * 0 + k * 0 := by first | rfl
theorem HMC.TIM0_RATE_key (i j k : Nat) : HMC.TIM0_RATE.key i j k = 8 * (524288 + i * 65536 + 32) + 0 + j * 0 + k * 0 := by first | rfl
theorem HMC.TIM0_CL_key (i j k : Nat) : HMC.TIM0_CL.key i j k = 8 * (524288 + i * 65536 + 32) + 2 + j * 0 + k * 0 := by first | rfl
theorem HMC.TIM0_WL_key (i j k : Nat) : HMC.TIM0_WL.key i j k = 8 * (524288 + i * 65536 + 32) + 8 + j * 0 + k * 0 := by first | rfl
theorem HMC.TIM0_TRCD_key (i j k : Nat) : HMC.TIM0_TRCD.key i j k = 8 * (524288 + i * 65536 + 32) + 14 + j * 0 + k * 0 := by first | rfl
theorem HMC.TIM0_TRP_key (i j k : Nat) : HMC.TIM0_TRP.key i j k = 8 * (524288 + i * 65536 + 32) + 20 + j * 0 + k * 0 := by first | rfl
theorem HMC.TIM0_TRTP_key (i j k : Nat) : HMC.TIM0_TRTP.key i j k = 8 * (524288 + i * 65536 + 32) + 26 + j * 0 + k * 0 := by first | rfl
theorem HMC.TIM1_TRAS_key (i j k : Nat) : HMC.TIM1_TRAS.key i j k = 8 * (524288 + i * 65536 + 36) + 0 + j * 0 + k * 0 := by first | rfl
theorem HMC.TIM1_TRC_key (i j k : Nat) : HMC.TIM1_TRC.key i j k = 8 * (524288 + i * 65536 + 36) + 8 + j * 0 + k * 0 := by first | rfl
theorem HMC.TIM1_TWR_key (i j k : Nat) : HMC.TIM1_TWR.key i j k = 8 * (524288 + i * 65536 + 36) + 16 + j * 0 + k * 0 := by first | rfl
theorem HMC.TIM1_TWTR_key (i j k : Nat) : HMC.TIM1_TWTR.key i j k = 8 * (524288 + i * 65536 + 36) + 22 + j * 0 + k * 0 := by first | rfl
theorem HMC.TIM1_TRRD_key (i j k : Nat) : HMC.TIM1_TRRD.key i j k = 8 * (524288 + i * 65536 + 36) + 28 + j * 0 + k * 0 := by first | rfl
theorem HMC.TIM2_TFAW_key (i j k : Nat) : HMC.TIM2_TFAW.key i j k = 8 * (524288 + i * 65536 + 40) + 0 + j * 0 + k * 0 := by first | rfl
theorem HMC.TIM2_TXS_key (i j k : Nat) : HMC.TIM2_TXS.key i j k = 8 * (524288 + i * 65536 + 40) + 8 + j * 0 + k * 0 := by first | rfl
theorem HMC.TIM2_TRREFD_key (i j k : Nat) : HMC.TIM2_TRREFD.key i j k = 8 * (524288 + i * 65536 + 40) + 20 + j * 0 + k * 0 := by first | rfl
theorem HMC.TIM3_TREFI_key (i j k : Nat) : HMC.TIM3_TREFI.key i j k = 8 * (524288 + i * 65536 + 44) + 0 + j * 0 + k * 0 := by first | rfl
theorem HMC.TIM3_TRFCPB_key (i j k : Nat) : HMC.TIM3_TRFCPB.key i j k = 8 * (524288 + i * 65536 + 44) + 16 + j * 0 + k * 0 := by first | rfl
theorem HMC.SHD0_RATE_key (i j k : Nat) : HMC.SHD0_RATE.key i j k = 8 * (524288 + i * 65536 + 64) + 0 + j * 0 + k * 0 := by first | rfl
theorem HMC.SHD0_CL_key (i j k : Nat) : HMC.SHD0_CL.key i j k = 8 * (524288 + i * 65536 + 64) + 2 + j * 0 + k * 0 := by first | rfl
theorem HMC.SHD0_WL_key (i j k : Nat) : HMC.SHD0_WL.key i j k = 8 * (524288 + i * 65536 + 64) + 8 + j * 0 + k * 0 := by first | rfl
theorem HMC.SHD0_TRCD_key (i j k : Nat) : HMC.SHD0_TRCD.key i j k = 8 * (524288 + i * 65536 + 64) + 14 + j * 0 + k * 0 := by first | rfl
theorem HMC.SHD0_TRP_key (i j k : Nat) : HMC.SHD0_TRP.key i j k = 8 * (524288 + i * 65536 + 64) + 20 + j * 0 + k * 0 := by first | rfl
theorem HMC.SHD0_TRTP_key (i j k : Nat) : HMC.SHD0_TRTP.key i j k = 8 * (524288 + i * 65536 + 64) + 26 + j * 0 + k * 0 := by first | rfl
theorem HMC.SHD1_TRAS_key (i j k : Nat) : HMC.SHD1_TRAS.key i j k = 8 * (524288 + i * 65536 + 68) + 0 + j * 0 + k * 0 := by first | rfl
theorem HMC.SHD1_TRC_key (i j k : Nat) : HMC.SHD1_TRC.key i j k = 8 * (524288 + i * 65536 + 68) + 8 + j * 0 + k * 0 := by first | rfl
theorem HMC.SHD1_TWR_key (i j k : Nat) : HMC.SHD1_TWR.key i j k = 8 * (524288 + i * 65536 + 68) + 16 + j * 0 + k * 0 := by first | rfl
theorem HMC.SHD1_TWTR_key (i j k : Nat) : HMC.SHD1_TWTR.key i j k = 8 * (524288 + i * 65536 + 68) + 22 + j * 0 + k * 0 := by first | rfl
theorem HMC.SHD1_TRRD_key (i j k : Nat) : HMC.SHD1_TRRD.key i j k = 8 * (524288 + i * 65536 + 68) + 28 + j * 0 + k * 0 := by first | rfl
theorem HMC.SHD2_TFAW_key (i j k : Nat) : HMC.SHD2_TFAW.key i j k = 8 * (524288 + i * 65536 + 72) + 0 + j * 0 + k * 0 := by first | rfl
theorem HMC.SHD2_TXS_key (i j k : Nat) : HMC.SHD2_TXS.key i j k = 8 * (524288 + i * 65536 + 72) + 8 + j * 0 + k * 0 := by first | rfl
theorem HMC.SHD2_TRREFD_key (i j k : Nat) : HMC.SHD2_TRREFD.key i j k = 8 * (524288 + i * 65536 + 72) + 20 + j * 0 + k * 0 := by first | rfl
theorem HMC.SHD3_TREFI_key (i j k : Nat) : HMC.SHD3_TREFI.key i j k = 8 * (524288 + i * 65536 + 76) + 0 + j * 0 + k * 0 := by first | rfl
theorem HMC.SHD3_TRFCPB_key (i j k : Nat) : HMC.SHD3_TRFCPB.key i j k = 8 * (524288 + i * 65536 + 76) + 16 + j * 0 + k * 0 := by first | rfl
theorem HMC.TPAT_MODE_key (i j k : Nat) : HMC.TPAT_MODE.key i j k = 8 * (524288 + i * 65536 + 512) + 0 + j * 0 + k * 0 := by first | rfl
theorem HMC.TSEED_key (i j k : Nat) : HMC.TSEED.key i j k = 8 * (524288 + i * 65536 + 516) + 0 + j * 0 + k * 0 := by first | rfl
theorem HMC.TCMD_GO_key (i j k : Nat) : HMC.TCMD_GO.key i j k = 8 * (524288 + i * 65536 + 520) + 0 + j * 0 + k * 0 := by first | rfl
theorem HMC.TCMD_OP_key (i j k : Nat) : HMC.TCMD_OP.key i j k = 8 * (524288 + i * 65536 + 520) + 1 + j * 0 + k * 0 := by first | rfl
theorem HMC.TCMD_PC_key (i j k : Nat) : HMC.TCMD_PC.key i j k = 8 * (524288 + i * 65536 + 520) + 3 + j * 0 + k * 0 := by first | rfl
theorem HMC.TCMD_ALLPC_key (i j k : Nat) : HMC.TCMD_ALLPC.key i j k = 8 * (524288 + i * 65536 + 520) + 8 + j * 0 + k * 0 := by first | rfl
theorem HMC.TCMD_DONE_key (i j k : Nat) : HMC.TCMD_DONE.key i j k = 8 * (524288 + i * 65536 + 520) + 9 + j * 0 + k * 0 := by first | rfl
theorem HMC.TCMD_BUSY_key (i j k : Nat) : HMC.TCMD_BUSY.key i j k = 8 * (524288 + i * 65536 + 520) + 10 + j * 0 + k * 0 := by first | rfl
theorem HMC.TLEN_BURSTS_key (i j k : Nat) : HMC.TLEN_BURSTS.key i j k = 8 * (524288 + i * 65536 + 524) + 0 + j * 0 + k * 0 := by first | rfl
theorem HMC.TERR0_DQ_key (i j k : Nat) : HMC.TERR0_DQ.key i j k = 8 * (524288 + i * 65536 + 528) + 0 + j * 0 + k * 0 := by first | rfl
theorem HMC.TERR1_EXTRA_key (i j k : Nat) : HMC.TERR1_EXTRA.key i j k = 8 * (524288 + i * 65536 + 532) + 0 + j * 0 + k * 0 := by first | rfl
theorem HMC.TERR1_CAERR_key (i j k : Nat) : HMC.TERR1_CAERR.key i j k = 8 * (524288 + i * 65536 + 532) + 7 + j * 0 + k * 0 := by first | rfl
theorem HMC.TCNT_key (i j k : Nat) : HMC.TCNT.key i j k = 8 * (524288 + i * 65536 + 536) + 0 + j * 0 + k * 0 := by first | rfl
theorem HMC.FRZ0_CAUSE_key (i j k : Nat) : HMC.FRZ0_CAUSE.key i j k = 8 * (524288 + i * 65536 + 768) + 0 + j * 0 + k * 0 := by first | rfl
theorem HMC.FRZ0_PC_key (i j k : Nat) : HMC.FRZ0_PC.key i j k = 8 * (524288 + i * 65536 + 768) + 3 + j * 0 + k * 0 := by first | rfl
theorem HMC.FRZ0_BANK_key (i j k : Nat) : HMC.FRZ0_BANK.key i j k = 8 * (524288 + i * 65536 + 768) + 8 + j * 0 + k * 0 := by first | rfl
theorem HMC.FRZ0_VALID_key (i j k : Nat) : HMC.FRZ0_VALID.key i j k = 8 * (524288 + i * 65536 + 768) + 31 + j * 0 + k * 0 := by first | rfl
theorem HMC.FRZ1_ROW_key (i j k : Nat) : HMC.FRZ1_ROW.key i j k = 8 * (524288 + i * 65536 + 772) + 0 + j * 0 + k * 0 := by first | rfl
theorem HMC.FRZ1_QTR_key (i j k : Nat) : HMC.FRZ1_QTR.key i j k = 8 * (524288 + i * 65536 + 772) + 15 + j * 0 + k * 0 := by first | rfl
theorem HMC.FRZ2_SRC_key (i j k : Nat) : HMC.FRZ2_SRC.key i j k = 8 * (524288 + i * 65536 + 776) + 0 + j * 0 + k * 0 := by first | rfl
theorem HMC.FRZ2_OP_key (i j k : Nat) : HMC.FRZ2_OP.key i j k = 8 * (524288 + i * 65536 + 776) + 12 + j * 0 + k * 0 := by first | rfl
theorem HMC.FRZ3_DPA_LO_key (i j k : Nat) : HMC.FRZ3_DPA_LO.key i j k = 8 * (524288 + i * 65536 + 780) + 0 + j * 0 + k * 0 := by first | rfl
theorem HMC.FRZ4_DPA_HI_key (i j k : Nat) : HMC.FRZ4_DPA_HI.key i j k = 8 * (524288 + i * 65536 + 784) + 0 + j * 0 + k * 0 := by first | rfl
theorem HMC.FRZ_TS_FRAC_key (i j k : Nat) : HMC.FRZ_TS_FRAC.key i j k = 8 * (524288 + i * 65536 + 800) + 0 + j * 0 + k * 0 := by first | rfl
theorem HMC.FRZ_TS_NS_key (i j k : Nat) : HMC.FRZ_TS_NS.key i j k = 8 * (524288 + i * 65536 + 804) + 0 + j * 0 + k * 0 := by first | rfl
theorem HMC.FRZ_TS_SECLO_key (i j k : Nat) : HMC.FRZ_TS_SECLO.key i j k = 8 * (524288 + i * 65536 + 808) + 0 + j * 0 + k * 0 := by first | rfl
theorem HMC.FRZ_TS_SECHI_key (i j k : Nat) : HMC.FRZ_TS_SECHI.key i j k = 8 * (524288 + i * 65536 + 812) + 0 + j * 0 + k * 0 := by first | rfl
theorem HMC.POISCNT_key (i j k : Nat) : HMC.POISCNT.key i j k = 8 * (524288 + i * 65536 + 816) + 0 + j * 0 + k * 0 := by first | rfl
theorem HMC.PCCFG_IDLE_key (i j k : Nat) : HMC.PCCFG_IDLE.key i j k = 8 * (524288 + i * 65536 + 4096) + 0 + j * 512 + k * 0 := by first | rfl
theorem HMC.PCSTAT_OWED_key (i j k : Nat) : HMC.PCSTAT_OWED.key i j k = 8 * (524288 + i * 65536 + 4100) + 0 + j * 512 + k * 0 := by first | rfl
theorem HMC.PCSTAT_HELD_key (i j k : Nat) : HMC.PCSTAT_HELD.key i j k = 8 * (524288 + i * 65536 + 4100) + 4 + j * 512 + k * 0 := by first | rfl
theorem HMC.PCSTAT_FORCED_key (i j k : Nat) : HMC.PCSTAT_FORCED.key i j k = 8 * (524288 + i * 65536 + 4100) + 5 + j * 512 + k * 0 := by first | rfl
theorem HMC.PCSTAT_NRRFULL_key (i j k : Nat) : HMC.PCSTAT_NRRFULL.key i j k = 8 * (524288 + i * 65536 + 4100) + 6 + j * 512 + k * 0 := by first | rfl
theorem HMC.PCCNT0_ACTS_key (i j k : Nat) : HMC.PCCNT0_ACTS.key i j k = 8 * (524288 + i * 65536 + 4104) + 0 + j * 512 + k * 0 := by first | rfl
theorem HMC.PCCNT1_NRROWS_key (i j k : Nat) : HMC.PCCNT1_NRROWS.key i j k = 8 * (524288 + i * 65536 + 4108) + 0 + j * 512 + k * 0 := by first | rfl
theorem HMC.PCCNT2_FBURST_key (i j k : Nat) : HMC.PCCNT2_FBURST.key i j k = 8 * (524288 + i * 65536 + 4112) + 0 + j * 512 + k * 0 := by first | rfl
theorem HMC.PCCNT2_PRETRY_key (i j k : Nat) : HMC.PCCNT2_PRETRY.key i j k = 8 * (524288 + i * 65536 + 4112) + 16 + j * 512 + k * 0 := by first | rfl
theorem HMC.PCREP_RD0_key (i j k : Nat) : HMC.PCREP_RD0.key i j k = 8 * (524288 + i * 65536 + 4116) + 0 + j * 512 + k * 0 := by first | rfl
theorem HMC.PCREP_V0_key (i j k : Nat) : HMC.PCREP_V0.key i j k = 8 * (524288 + i * 65536 + 4116) + 6 + j * 512 + k * 0 := by first | rfl
theorem HMC.PCREP_RD1_key (i j k : Nat) : HMC.PCREP_RD1.key i j k = 8 * (524288 + i * 65536 + 4116) + 8 + j * 512 + k * 0 := by first | rfl
theorem HMC.PCREP_V1_key (i j k : Nat) : HMC.PCREP_V1.key i j k = 8 * (524288 + i * 65536 + 4116) + 14 + j * 512 + k * 0 := by first | rfl
theorem HMC.PCQ_QOCC_key (i j k : Nat) : HMC.PCQ_QOCC.key i j k = 8 * (524288 + i * 65536 + 4120) + 0 + j * 512 + k * 0 := by first | rfl
theorem HMC.TDLY_RXDLY_key (i j k : Nat) : HMC.TDLY_RXDLY.key i j k = 8 * (524288 + i * 65536 + 8192) + 0 + j * 2048 + k * 32 := by first | rfl
theorem HMC.TDLY_TXDLY_key (i j k : Nat) : HMC.TDLY_TXDLY.key i j k = 8 * (524288 + i * 65536 + 8192) + 8 + j * 2048 + k * 32 := by first | rfl
theorem HMC.TDLY_CA_CADLY_key (i j k : Nat) : HMC.TDLY_CA_CADLY.key i j k = 8 * (524288 + i * 65536 + 8444) + 0 + j * 2048 + k * 0 := by first | rfl
theorem HMC.QDUMP_W0_key (i j k : Nat) : HMC.QDUMP_W0.key i j k = 8 * (524288 + i * 65536 + 32768) + 0 + j * 4096 + k * 128 := by first | rfl
theorem HMC.QDUMP_W1_key (i j k : Nat) : HMC.QDUMP_W1.key i j k = 8 * (524288 + i * 65536 + 32772) + 0 + j * 4096 + k * 128 := by first | rfl
theorem HMC.QDUMP_W2_key (i j k : Nat) : HMC.QDUMP_W2.key i j k = 8 * (524288 + i * 65536 + 32776) + 0 + j * 4096 + k * 128 := by first | rfl
theorem HMC.QDUMP_W3_key (i j k : Nat) : HMC.QDUMP_W3.key i j k = 8 * (524288 + i * 65536 + 32780) + 0 + j * 4096 + k * 128 := by first | rfl
theorem DRH.CTRL_AUTOINIT_key (i j k : Nat) : DRH.CTRL_AUTOINIT.key i j k = 6291456 + i * 0 + j * 0 := by first | rfl
theorem DRH.STAT_INITDONE_key (i j k : Nat) : DRH.STAT_INITDONE.key i j k = 6291488 + i * 0 + j * 0 := by first | rfl
theorem DRH.STAT_RPERR_key (i j k : Nat) : DRH.STAT_RPERR.key i j k = 6291489 + i * 0 + j * 0 := by first | rfl
theorem DRH.STAT_REGERR_key (i j k : Nat) : DRH.STAT_REGERR.key i j k = 6291490 + i * 0 + j * 0 := by first | rfl
theorem DRH.STAT_TMRFAIL_key (i j k : Nat) : DRH.STAT_TMRFAIL.key i j k = 6291491 + i * 0 + j * 0 := by first | rfl
theorem DRH.STAT_RQDROP_key (i j k : Nat) : DRH.STAT_RQDROP.key i j k = 6291492 + i * 0 + j * 0 := by first | rfl
theorem DRH.TMR_VOTES_key (i j k : Nat) : DRH.TMR_VOTES.key i j k = 6291520 + i * 0 + j * 0 := by first | rfl
theorem DRH.TMR_LASTOFS_key (i j k : Nat) : DRH.TMR_LASTOFS.key i j k = 6291536 + i * 0 + j * 0 := by first | rfl
theorem DRH.RPBASE_LO_key (i j k : Nat) : DRH.RPBASE_LO.key i j k = 6291584 + i * 0 + j * 0 := by first | rfl
theorem DRH.RPBASE_HI_key (i j k : Nat) : DRH.RPBASE_HI.key i j k = 6291616 + i * 0 + j * 0 := by first | rfl
theorem DRH.RPLEN_LO_key (i j k : Nat) : DRH.RPLEN_LO.key i j k = 6291648 + i * 0 + j * 0 := by first | rfl
theorem DRH.RPLEN_HI_key (i j k : Nat) : DRH.RPLEN_HI.key i j k = 6291680 + i * 0 + j * 0 := by first | rfl
theorem DRH.RP_GO_key (i j k : Nat) : DRH.RP_GO.key i j k = 6291712 + i * 0 + j * 0 := by first | rfl
theorem DRH.RP_MODE_key (i j k : Nat) : DRH.RP_MODE.key i j k = 6291713 + i * 0 + j * 0 := by first | rfl
theorem DRH.RP_MEM_key (i j k : Nat) : DRH.RP_MEM.key i j k = 6291715 + i * 0 + j * 0 := by first | rfl
theorem DRH.RP_ENTRY_key (i j k : Nat) : DRH.RP_ENTRY.key i j k = 6291728 + i * 0 + j * 0 := by first | rfl
theorem DRH.MC_RDCORR_key (i j k : Nat) : DRH.MC_RDCORR.key i j k = 6291968 + i * 128 + j * 0 := by first | rfl
theorem DRH.MC_RDUNC_key (i j k : Nat) : DRH.MC_RDUNC.key i j k = 6292000 + i * 128 + j * 0 := by first | rfl
theorem DRH.MC_PWMERGE_key (i j k : Nat) : DRH.MC_PWMERGE.key i j k = 6292032 + i * 128 + j * 0 := by first | rfl
theorem DRH.MC_PWREF_key (i j k : Nat) : DRH.MC_PWREF.key i j k = 6292064 + i * 128 + j * 0 := by first | rfl
theorem DRH.ELOG0_DPA_LO_key (i j k : Nat) : DRH.ELOG0_DPA_LO.key i j k = 6292608 + i * 0 + j * 0 := by first | rfl
theorem DRH.ELOG1_DPA_HI_key (i j k : Nat) : DRH.ELOG1_DPA_HI.key i j k = 6292640 + i * 0 + j * 0 := by first | rfl
theorem DRH.ELOG1_SRC_key (i j k : Nat) : DRH.ELOG1_SRC.key i j k = 6292656 + i * 0 + j * 0 := by first | rfl
theorem DRH.ELOG1_KIND_key (i j k : Nat) : DRH.ELOG1_KIND.key i j k = 6292668 + i * 0 + j * 0 := by first | rfl
theorem DRH.ELOG1_VALID_key (i j k : Nat) : DRH.ELOG1_VALID.key i j k = 6292671 + i * 0 + j * 0 := by first | rfl
theorem DRH.TS_FRAC_key (i j k : Nat) : DRH.TS_FRAC.key i j k = 6292672 + i * 0 + j * 0 := by first | rfl
theorem DRH.TS_NS_key (i j k : Nat) : DRH.TS_NS.key i j k = 6292704 + i * 0 + j * 0 := by first | rfl
theorem DRH.TS_SECLO_key (i j k : Nat) : DRH.TS_SECLO.key i j k = 6292736 + i * 0 + j * 0 := by first | rfl
theorem DRH.TS_SECHI_key (i j k : Nat) : DRH.TS_SECHI.key i j k = 6292768 + i * 0 + j * 0 := by first | rfl
theorem DRH.FM_DATA_LO_key (i j k : Nat) : DRH.FM_DATA_LO.key i j k = 6293504 + i * 256 + j * 0 := by first | rfl
theorem DRH.FM_DATA_HI_key (i j k : Nat) : DRH.FM_DATA_HI.key i j k = 6293536 + i * 256 + j * 0 := by first | rfl
theorem DRH.FM_CHK_key (i j k : Nat) : DRH.FM_CHK.key i j k = 6293568 + i * 256 + j * 0 := by first | rfl
theorem DRH.FM_ARM_key (i j k : Nat) : DRH.FM_ARM.key i j k = 6293584 + i * 256 + j * 0 := by first | rfl
theorem DRH.FM_MATCH_key (i j k : Nat) : DRH.FM_MATCH.key i j k = 6293585 + i * 256 + j * 0 := by first | rfl
theorem DRH.FM_ADDR_LO_key (i j k : Nat) : DRH.FM_ADDR_LO.key i j k = 6293600 + i * 256 + j * 0 := by first | rfl
theorem DRH.FM_ADDR_HI_key (i j k : Nat) : DRH.FM_ADDR_HI.key i j k = 6293632 + i * 256 + j * 0 := by first | rfl
theorem DRH.WK_EN_key (i j k : Nat) : DRH.WK_EN.key i j k = 6295552 + i * 512 + j * 0 := by first | rfl
theorem DRH.WK_MODE_key (i j k : Nat) : DRH.WK_MODE.key i j k = 6295553 + i * 512 + j * 0 := by first | rfl
theorem DRH.WK_ADAPT_key (i j k : Nat) : DRH.WK_ADAPT.key i j k = 6295554 + i * 512 + j * 0 := by first | rfl
theorem DRH.WK_IVAL_key (i j k : Nat) : DRH.WK_IVAL.key i j k = 6295584 + i * 512 + j * 0 := by first | rfl
theorem DRH.WK_PASS_key (i j k : Nat) : DRH.WK_PASS.key i j k = 6295616 + i * 512 + j * 0 := by first | rfl
theorem DRH.WK_CEIL_key (i j k : Nat) : DRH.WK_CEIL.key i j k = 6295648 + i * 512 + j * 0 := by first | rfl
theorem DRH.WK_RAISETHR_key (i j k : Nat) : DRH.WK_RAISETHR.key i j k = 6295680 + i * 512 + j * 0 := by first | rfl
theorem DRH.WK_CUR_key (i j k : Nat) : DRH.WK_CUR.key i j k = 6295712 + i * 512 + j * 0 := by first | rfl
theorem DRH.WK_POS_LO_key (i j k : Nat) : DRH.WK_POS_LO.key i j k = 6295744 + i * 512 + j * 0 := by first | rfl
theorem DRH.WK_POS_HI_key (i j k : Nat) : DRH.WK_POS_HI.key i j k = 6295776 + i * 512 + j * 0 := by first | rfl
theorem DRH.WK_PASSES_key (i j k : Nat) : DRH.WK_PASSES.key i j k = 6295808 + i * 512 + j * 0 := by first | rfl
theorem DRH.WK_CORR_key (i j k : Nat) : DRH.WK_CORR.key i j k = 6295840 + i * 512 + j * 0 := by first | rfl
theorem DRH.WK_UNC_key (i j k : Nat) : DRH.WK_UNC.key i j k = 6295872 + i * 512 + j * 0 := by first | rfl
theorem DRH.WK_POIS_key (i j k : Nat) : DRH.WK_POIS.key i j k = 6295904 + i * 512 + j * 0 := by first | rfl
theorem DRH.WK_RAISED_key (i j k : Nat) : DRH.WK_RAISED.key i j k = 6295936 + i * 512 + j * 0 := by first | rfl
theorem DRH.RTBL_CODE_key (i j k : Nat) : DRH.RTBL_CODE.key i j k = 6324224 + i * 4 + j * 0 := by first | rfl
theorem DRH.RTBL_STATE_key (i j k : Nat) : DRH.RTBL_STATE.key i j k = 6324226 + i * 4 + j * 0 := by first | rfl
theorem CAP.SCFG_LOAN_key (i j k : Nat) : CAP.SCFG_LOAN.key i j k = 6815744 + i * 0 + j * 0 := by first | rfl
theorem CAP.SBOOK0_LFREE_key (i j k : Nat) : CAP.SBOOK0_LFREE.key i j k = 6815776 + i * 0 + j * 0 := by first | rfl
theorem CAP.SBOOK0_LOANED_key (i j k : Nat) : CAP.SBOOK0_LOANED.key i j k = 6815792 + i * 0 + j * 0 := by first | rfl
theorem CAP.SBOOK1_FILLED_key (i j k : Nat) : CAP.SBOOK1_FILLED.key i j k = 6815808 + i * 0 + j * 0 := by first | rfl
theorem CAP.SBOOK1_RFREE_key (i j k : Nat) : CAP.SBOOK1_RFREE.key i j k = 6815824 + i * 0 + j * 0 := by first | rfl
theorem CAP.SBOOK2_RUSED_key (i j k : Nat) : CAP.SBOOK2_RUSED.key i j k = 6815840 + i * 0 + j * 0 := by first | rfl
theorem CAP.STAT_FULL_key (i j k : Nat) : CAP.STAT_FULL.key i j k = 6815872 + i * 0 + j * 0 := by first | rfl
theorem CAP.STAT_FULLEVT_key (i j k : Nat) : CAP.STAT_FULLEVT.key i j k = 6815873 + i * 0 + j * 0 := by first | rfl
theorem CAP.STAT_MARKLOST_key (i j k : Nat) : CAP.STAT_MARKLOST.key i j k = 6815874 + i * 0 + j * 0 := by first | rfl
theorem CAP.LSH_key (i j k : Nat) : CAP.LSH.key i j k = 6823936 + i * 32 + j * 0 := by first | rfl
theorem CAP.CCTRL_ARM_key (i j k : Nat) : CAP.CCTRL_ARM.key i j k = 6848512 + i * 2048 + j * 0 := by first | rfl
theorem CAP.CCTRL_DISARM_key (i j k : Nat) : CAP.CCTRL_DISARM.key i j k = 6848513 + i * 2048 + j * 0 := by first | rfl
theorem CAP.CCTRL_SWSTART_key (i j k : Nat) : CAP.CCTRL_SWSTART.key i j k = 6848514 + i * 2048 + j * 0 := by first | rfl
theorem CAP.CCTRL_SWSTOP_key (i j k : Nat) : CAP.CCTRL_SWSTOP.key i j k = 6848515 + i * 2048 + j * 0 := by first | rfl
theorem CAP.CCTRL_GRP_key (i j k : Nat) : CAP.CCTRL_GRP.key i j k = 6848516 + i * 2048 + j * 0 := by first | rfl
theorem CAP.CCTRL_FLTEN_key (i j k : Nat) : CAP.CCTRL_FLTEN.key i j k = 6848518 + i * 2048 + j * 0 := by first | rfl
theorem CAP.CCTRL_FULLACT_key (i j k : Nat) : CAP.CCTRL_FULLACT.key i j k = 6848519 + i * 2048 + j * 0 := by first | rfl
theorem CAP.CSTAT_STATE_key (i j k : Nat) : CAP.CSTAT_STATE.key i j k = 6848544 + i * 2048 + j * 0 := by first | rfl
theorem CAP.CSTAT_WRAPPED_key (i j k : Nat) : CAP.CSTAT_WRAPPED.key i j k = 6848547 + i * 2048 + j * 0 := by first | rfl
theorem CAP.CSTAT_LANELOST_key (i j k : Nat) : CAP.CSTAT_LANELOST.key i j k = 6848548 + i * 2048 + j * 0 := by first | rfl
theorem CAP.CSTAT_ARMERR_key (i j k : Nat) : CAP.CSTAT_ARMERR.key i j k = 6848549 + i * 2048 + j * 0 := by first | rfl
theorem CAP.CBASE_BASE_LO_key (i j k : Nat) : CAP.CBASE_BASE_LO.key i j k = 6848576 + i * 2048 + j * 0 := by first | rfl
theorem CAP.CBASE_BASE_HI_key (i j k : Nat) : CAP.CBASE_BASE_HI.key i j k = 6848608 + i * 2048 + j * 0 := by first | rfl
theorem CAP.CSIZE_LOG2_key (i j k : Nat) : CAP.CSIZE_LOG2.key i j k = 6848640 + i * 2048 + j * 0 := by first | rfl
theorem CAP.CENTRY_key (i j k : Nat) : CAP.CENTRY.key i j k = 6848672 + i * 2048 + j * 0 := by first | rfl
theorem CAP.CPRE_PRE_LO_key (i j k : Nat) : CAP.CPRE_PRE_LO.key i j k = 6848704 + i * 2048 + j * 0 := by first | rfl
theorem CAP.CPRE_PRE_HI_key (i j k : Nat) : CAP.CPRE_PRE_HI.key i j k = 6848736 + i * 2048 + j * 0 := by first | rfl
theorem CAP.CWPTR_WPTR_LO_key (i j k : Nat) : CAP.CWPTR_WPTR_LO.key i j k = 6848768 + i * 2048 + j * 0 := by first | rfl
theorem CAP.CWPTR_WPTR_HI_key (i j k : Nat) : CAP.CWPTR_WPTR_HI.key i j k = 6848800 + i * 2048 + j * 0 := by first | rfl
theorem CAP.CRCNT_RCNT_LO_key (i j k : Nat) : CAP.CRCNT_RCNT_LO.key i j k = 6848832 + i * 2048 + j * 0 := by first | rfl
theorem CAP.CRCNT_RCNT_HI_key (i j k : Nat) : CAP.CRCNT_RCNT_HI.key i j k = 6848864 + i * 2048 + j * 0 := by first | rfl
theorem CAP.CTRIG_TRIG_LO_key (i j k : Nat) : CAP.CTRIG_TRIG_LO.key i j k = 6848896 + i * 2048 + j * 0 := by first | rfl
theorem CAP.CTRIG_TRIG_HI_key (i j k : Nat) : CAP.CTRIG_TRIG_HI.key i j k = 6848928 + i * 2048 + j * 0 := by first | rfl
theorem CAP.COLD_OLD_LO_key (i j k : Nat) : CAP.COLD_OLD_LO.key i j k = 6848960 + i * 2048 + j * 0 := by first | rfl
theorem CAP.COLD_OLD_HI_key (i j k : Nat) : CAP.COLD_OLD_HI.key i j k = 6848992 + i * 2048 + j * 0 := by first | rfl
theorem CAP.CDISC_key (i j k : Nat) : CAP.CDISC.key i j k = 6849024 + i * 2048 + j * 0 := by first | rfl
theorem FLT.CTRL_EN_key (i j k : Nat) : FLT.CTRL_EN.key i j k = 7340032 + i * 0 + j * 0 := by first | rfl
theorem FLT.CTRL_INIT_key (i j k : Nat) : FLT.CTRL_INIT.key i j k = 7340033 + i * 0 + j * 0 := by first | rfl
theorem FLT.STAT_STATE_key (i j k : Nat) : FLT.STAT_STATE.key i j k = 7340064 + i * 0 + j * 0 := by first | rfl
theorem FLT.STAT_RUN_key (i j k : Nat) : FLT.STAT_RUN.key i j k = 7340067 + i * 0 + j * 0 := by first | rfl
theorem FLT.STAT_FROZEN_key (i j k : Nat) : FLT.STAT_FROZEN.key i j k = 7340068 + i * 0 + j * 0 := by first | rfl
theorem FLT.STAT_OVLAP_key (i j k : Nat) : FLT.STAT_OVLAP.key i j k = 7340069 + i * 0 + j * 0 := by first | rfl
theorem FLT.SWF_LO_key (i j k : Nat) : FLT.SWF_LO.key i j k = 7340096 + i * 0 + j * 0 := by first | rfl
theorem FLT.SWF_HI_key (i j k : Nat) : FLT.SWF_HI.key i j k = 7340128 + i * 0 + j * 0 := by first | rfl
theorem FLT.SEEN_LO_key (i j k : Nat) : FLT.SEEN_LO.key i j k = 7340160 + i * 0 + j * 0 := by first | rfl
theorem FLT.SEEN_HI_key (i j k : Nat) : FLT.SEEN_HI.key i j k = 7340192 + i * 0 + j * 0 := by first | rfl
theorem FLT.TS_LO_key (i j k : Nat) : FLT.TS_LO.key i j k = 7340224 + i * 0 + j * 0 := by first | rfl
theorem FLT.TS_MID_key (i j k : Nat) : FLT.TS_MID.key i j k = 7340256 + i * 0 + j * 0 := by first | rfl
theorem FLT.TS_HI_key (i j k : Nat) : FLT.TS_HI.key i j k = 7340288 + i * 0 + j * 0 := by first | rfl
theorem FLT.TCNT_key (i j k : Nat) : FLT.TCNT.key i j k = 7340320 + i * 0 + j * 0 := by first | rfl
theorem FLT.EVM_LO_key (i j k : Nat) : FLT.EVM_LO.key i j k = 7342080 + i * 512 + j * 0 := by first | rfl
theorem FLT.EVM_HI_key (i j k : Nat) : FLT.EVM_HI.key i j k = 7342112 + i * 512 + j * 0 := by first | rfl
theorem FLT.CMP_key (i j k : Nat) : FLT.CMP.key i j k = 7342144 + i * 512 + j * 0 := by first | rfl
theorem FLT.TLIM_key (i j k : Nat) : FLT.TLIM.key i j k = 7342176 + i * 512 + j * 0 := by first | rfl
theorem FLT.TRN_NEXT_EV_key (i j k : Nat) : FLT.TRN_NEXT_EV.key i j k = 7342208 + i * 512 + j * 0 := by first | rfl
theorem FLT.TRN_ACT_EV_key (i j k : Nat) : FLT.TRN_ACT_EV.key i j k = 7342212 + i * 512 + j * 0 := by first | rfl
theorem FLT.TRN_GRP_EV_key (i j k : Nat) : FLT.TRN_GRP_EV.key i j k = 7342216 + i * 512 + j * 0 := by first | rfl
theorem FLT.TRN_NEXT_TM_key (i j k : Nat) : FLT.TRN_NEXT_TM.key i j k = 7342224 + i * 512 + j * 0 := by first | rfl
theorem FLT.TRN_ACT_TM_key (i j k : Nat) : FLT.TRN_ACT_TM.key i j k = 7342228 + i * 512 + j * 0 := by first | rfl
theorem FLT.TRN_GRP_TM_key (i j k : Nat) : FLT.TRN_GRP_TM.key i j k = 7342232 + i * 512 + j * 0 := by first | rfl
theorem FLT.TRN_TUNIT_key (i j k : Nat) : FLT.TRN_TUNIT.key i j k = 7342236 + i * 512 + j * 0 := by first | rfl
theorem FLT.CNT_key (i j k : Nat) : FLT.CNT.key i j k = 7342240 + i * 512 + j * 0 := by first | rfl
theorem FLT.TMR_key (i j k : Nat) : FLT.TMR.key i j k = 7342272 + i * 512 + j * 0 := by first | rfl
theorem DTC.CTRL_MODE_key (i j k : Nat) : DTC.CTRL_MODE.key i j k = 7864320 + i * 0 + j * 0 := by first | rfl
theorem DTC.CTRL_STEPBUSY_key (i j k : Nat) : DTC.CTRL_STEPBUSY.key i j k = 7864322 + i * 0 + j * 0 := by first | rfl
theorem DTC.CTRL_PPSOEN_key (i j k : Nat) : DTC.CTRL_PPSOEN.key i j k = 7864323 + i * 0 + j * 0 := by first | rfl
theorem DTC.SSTAT_STATE_key (i j k : Nat) : DTC.SSTAT_STATE.key i j k = 7864352 + i * 0 + j * 0 := by first | rfl
theorem DTC.SSTAT_STEPPED_key (i j k : Nat) : DTC.SSTAT_STEPPED.key i j k = 7864354 + i * 0 + j * 0 := by first | rfl
theorem DTC.SSTAT_STEPHELD_key (i j k : Nat) : DTC.SSTAT_STEPHELD.key i j k = 7864355 + i * 0 + j * 0 := by first | rfl
theorem DTC.SSTAT_CMDERR_key (i j k : Nat) : DTC.SSTAT_CMDERR.key i j k = 7864356 + i * 0 + j * 0 := by first | rfl
theorem DTC.SSTAT_PPSSEEN_key (i j k : Nat) : DTC.SSTAT_PPSSEEN.key i j k = 7864357 + i * 0 + j * 0 := by first | rfl
theorem DTC.SSTAT_KALOG_key (i j k : Nat) : DTC.SSTAT_KALOG.key i j k = 7864358 + i * 0 + j * 0 := by first | rfl
theorem DTC.INCR_LO_key (i j k : Nat) : DTC.INCR_LO.key i j k = 7864384 + i * 0 + j * 0 := by first | rfl
theorem DTC.INCR_HI_key (i j k : Nat) : DTC.INCR_HI.key i j k = 7864416 + i * 0 + j * 0 := by first | rfl
theorem DTC.TPLL_REFSEL_key (i j k : Nat) : DTC.TPLL_REFSEL.key i j k = 7864448 + i * 0 + j * 0 := by first | rfl
theorem DTC.TPLL_LOCK_key (i j k : Nat) : DTC.TPLL_LOCK.key i j k = 7864450 + i * 0 + j * 0 := by first | rfl
theorem DTC.RD_FRAC_key (i j k : Nat) : DTC.RD_FRAC.key i j k = 7864576 + i * 0 + j * 0 := by first | rfl
theorem DTC.RD_NS_key (i j k : Nat) : DTC.RD_NS.key i j k = 7864608 + i * 0 + j * 0 := by first | rfl
theorem DTC.RD_SECLO_key (i j k : Nat) : DTC.RD_SECLO.key i j k = 7864640 + i * 0 + j * 0 := by first | rfl
theorem DTC.RD_SECHI_key (i j k : Nat) : DTC.RD_SECHI.key i j k = 7864672 + i * 0 + j * 0 := by first | rfl
theorem DTC.MCRD_FRAC_key (i j k : Nat) : DTC.MCRD_FRAC.key i j k = 7864704 + i * 0 + j * 0 := by first | rfl
theorem DTC.MCRD_NS_key (i j k : Nat) : DTC.MCRD_NS.key i j k = 7864736 + i * 0 + j * 0 := by first | rfl
theorem DTC.MCRD_SECLO_key (i j k : Nat) : DTC.MCRD_SECLO.key i j k = 7864768 + i * 0 + j * 0 := by first | rfl
theorem DTC.MCRD_SECHI_key (i j k : Nat) : DTC.MCRD_SECHI.key i j k = 7864800 + i * 0 + j * 0 := by first | rfl
theorem DTC.SET_FRAC_key (i j k : Nat) : DTC.SET_FRAC.key i j k = 7864832 + i * 0 + j * 0 := by first | rfl
theorem DTC.SET_NS_key (i j k : Nat) : DTC.SET_NS.key i j k = 7864864 + i * 0 + j * 0 := by first | rfl
theorem DTC.SET_SECLO_key (i j k : Nat) : DTC.SET_SECLO.key i j k = 7864896 + i * 0 + j * 0 := by first | rfl
theorem DTC.SET_SECHI_key (i j k : Nat) : DTC.SET_SECHI.key i j k = 7864928 + i * 0 + j * 0 := by first | rfl
theorem DTC.CMD_SET_key (i j k : Nat) : DTC.CMD_SET.key i j k = 7864960 + i * 0 + j * 0 := by first | rfl
theorem DTC.CMD_ADJ_key (i j k : Nat) : DTC.CMD_ADJ.key i j k = 7864961 + i * 0 + j * 0 := by first | rfl
theorem DTC.CMD_PEND_key (i j k : Nat) : DTC.CMD_PEND.key i j k = 7864962 + i * 0 + j * 0 := by first | rfl
theorem DTC.ADJ_LO_key (i j k : Nat) : DTC.ADJ_LO.key i j k = 7865024 + i * 0 + j * 0 := by first | rfl
theorem DTC.ADJ_HI_key (i j k : Nat) : DTC.ADJ_HI.key i j k = 7865056 + i * 0 + j * 0 := by first | rfl
theorem DTC.PPSO_OFS_key (i j k : Nat) : DTC.PPSO_OFS.key i j k = 7865088 + i * 0 + j * 0 := by first | rfl
theorem DTC.PPSO_WIDTH_key (i j k : Nat) : DTC.PPSO_WIDTH.key i j k = 7865120 + i * 0 + j * 0 := by first | rfl
theorem DTC.PPSI_FRAC_key (i j k : Nat) : DTC.PPSI_FRAC.key i j k = 7865152 + i * 0 + j * 0 := by first | rfl
theorem DTC.PPSI_NS_key (i j k : Nat) : DTC.PPSI_NS.key i j k = 7865184 + i * 0 + j * 0 := by first | rfl
theorem DTC.PPSI_SECLO_key (i j k : Nat) : DTC.PPSI_SECLO.key i j k = 7865216 + i * 0 + j * 0 := by first | rfl
theorem DTC.PPSI_SECHI_key (i j k : Nat) : DTC.PPSI_SECHI.key i j k = 7865248 + i * 0 + j * 0 := by first | rfl
theorem DTC.APPLY_FRAC_key (i j k : Nat) : DTC.APPLY_FRAC.key i j k = 7865280 + i * 0 + j * 0 := by first | rfl
theorem DTC.APPLY_NS_key (i j k : Nat) : DTC.APPLY_NS.key i j k = 7865312 + i * 0 + j * 0 := by first | rfl
theorem DTC.APPLY_SECLO_key (i j k : Nat) : DTC.APPLY_SECLO.key i j k = 7865344 + i * 0 + j * 0 := by first | rfl
theorem DTC.APPLY_SECHI_key (i j k : Nat) : DTC.APPLY_SECHI.key i j k = 7865376 + i * 0 + j * 0 := by first | rfl
theorem DTC.KP_key (i j k : Nat) : DTC.KP.key i j k = 7865408 + i * 0 + j * 0 := by first | rfl
theorem DTC.KI_key (i j k : Nat) : DTC.KI.key i j k = 7865440 + i * 0 + j * 0 := by first | rfl
theorem DTC.STEPTHR_key (i j k : Nat) : DTC.STEPTHR.key i j k = 7865472 + i * 0 + j * 0 := by first | rfl
theorem DTC.SERVO0_LOCKTHR_key (i j k : Nat) : DTC.SERVO0_LOCKTHR.key i j k = 7865504 + i * 0 + j * 0 := by first | rfl
theorem DTC.SERVO0_LOCKN_key (i j k : Nat) : DTC.SERVO0_LOCKN.key i j k = 7865520 + i * 0 + j * 0 := by first | rfl
theorem DTC.SERVO0_HOLDN_key (i j k : Nat) : DTC.SERVO0_HOLDN.key i j k = 7865528 + i * 0 + j * 0 := by first | rfl
theorem DTC.SERVO1_HOLDAVG_key (i j k : Nat) : DTC.SERVO1_HOLDAVG.key i j k = 7865536 + i * 0 + j * 0 := by first | rfl
theorem DTC.SERVO1_MAXADJ_key (i j k : Nat) : DTC.SERVO1_MAXADJ.key i j k = 7865552 + i * 0 + j * 0 := by first | rfl
theorem DTC.OFFS_key (i j k : Nat) : DTC.OFFS.key i j k = 7865600 + i * 0 + j * 0 := by first | rfl
theorem DTC.MPD_key (i j k : Nat) : DTC.MPD.key i j k = 7865632 + i * 0 + j * 0 := by first | rfl
theorem DTC.UTCOFS_key (i j k : Nat) : DTC.UTCOFS.key i j k = 7865664 + i * 0 + j * 0 := by first | rfl
theorem DTC.UTCOFS_UTCVAL_key (i j k : Nat) : DTC.UTCOFS_UTCVAL.key i j k = 7865680 + i * 0 + j * 0 := by first | rfl
theorem DTC.PTPCFG_DELAYM_key (i j k : Nat) : DTC.PTPCFG_DELAYM.key i j k = 7865856 + i * 0 + j * 0 := by first | rfl
theorem DTC.PTPCFG_TWOSTEP_key (i j k : Nat) : DTC.PTPCFG_TWOSTEP.key i j k = 7865857 + i * 0 + j * 0 := by first | rfl
theorem DTC.PTPCFG_UDP_key (i j k : Nat) : DTC.PTPCFG_UDP.key i j k = 7865858 + i * 0 + j * 0 := by first | rfl
theorem DTC.PTPCFG_SGMII_key (i j k : Nat) : DTC.PTPCFG_SGMII.key i j k = 7865859 + i * 0 + j * 0 := by first | rfl
theorem DTC.PTPCFG_MASTEROK_key (i j k : Nat) : DTC.PTPCFG_MASTEROK.key i j k = 7865860 + i * 0 + j * 0 := by first | rfl
theorem DTC.PTPCFG_DOMAIN_key (i j k : Nat) : DTC.PTPCFG_DOMAIN.key i j k = 7865861 + i * 0 + j * 0 := by first | rfl
theorem DTC.PTPCFG_PRIO1_key (i j k : Nat) : DTC.PTPCFG_PRIO1.key i j k = 7865868 + i * 0 + j * 0 := by first | rfl
theorem DTC.PTPCFG_PRIO2_key (i j k : Nat) : DTC.PTPCFG_PRIO2.key i j k = 7865876 + i * 0 + j * 0 := by first | rfl
theorem DTC.IPV4_key (i j k : Nat) : DTC.IPV4.key i j k = 7865888 + i * 0 + j * 0 := by first | rfl
theorem DTC.MAC_LO_key (i j k : Nat) : DTC.MAC_LO.key i j k = 7865920 + i * 0 + j * 0 := by first | rfl
theorem DTC.MAC_HI_key (i j k : Nat) : DTC.MAC_HI.key i j k = 7865952 + i * 0 + j * 0 := by first | rfl
theorem DTC.TPOFS_TX_key (i j k : Nat) : DTC.TPOFS_TX.key i j k = 7865984 + i * 0 + j * 0 := by first | rfl
theorem DTC.TPOFS_RX_key (i j k : Nat) : DTC.TPOFS_RX.key i j k = 7866000 + i * 0 + j * 0 := by first | rfl
theorem CXL.LSTAT_MODE_key (i j k : Nat) : CXL.LSTAT_MODE.key i j k = 8388608 + i * 0 + j * 0 := by first | rfl
theorem CXL.LSTAT_WIDTH_key (i j k : Nat) : CXL.LSTAT_WIDTH.key i j k = 8388610 + i * 0 + j * 0 := by first | rfl
theorem CXL.LSTAT_RATE_key (i j k : Nat) : CXL.LSTAT_RATE.key i j k = 8388613 + i * 0 + j * 0 := by first | rfl
theorem CXL.LSTAT_CACHE_key (i j k : Nat) : CXL.LSTAT_CACHE.key i j k = 8388616 + i * 0 + j * 0 := by first | rfl
theorem CXL.LSTAT_MEM_key (i j k : Nat) : CXL.LSTAT_MEM.key i j k = 8388617 + i * 0 + j * 0 := by first | rfl
theorem CXL.LSTAT_DEGRADED_key (i j k : Nat) : CXL.LSTAT_DEGRADED.key i j k = 8388618 + i * 0 + j * 0 := by first | rfl
theorem CXL.LCFG_MAXRATE_key (i j k : Nat) : CXL.LCFG_MAXRATE.key i j k = 8388640 + i * 0 + j * 0 := by first | rfl
theorem CXL.LCFG_MAXW_key (i j k : Nat) : CXL.LCFG_MAXW.key i j k = 8388643 + i * 0 + j * 0 := by first | rfl
theorem CXL.ERR_WRDROP_key (i j k : Nat) : CXL.ERR_WRDROP.key i j k = 8388672 + i * 0 + j * 0 := by first | rfl
theorem CXL.ERR_RDERR_key (i j k : Nat) : CXL.ERR_RDERR.key i j k = 8388673 + i * 0 + j * 0 := by first | rfl
theorem CXL.ERR_RDPOIS_key (i j k : Nat) : CXL.ERR_RDPOIS.key i j k = 8388674 + i * 0 + j * 0 := by first | rfl
theorem CXL.ERR_MEMPOIS_key (i j k : Nat) : CXL.ERR_MEMPOIS.key i j k = 8388675 + i * 0 + j * 0 := by first | rfl
theorem CXL.ERR_LNKDN_key (i j k : Nat) : CXL.ERR_LNKDN.key i j k = 8388676 + i * 0 + j * 0 := by first | rfl
theorem CXL.ECNT0_WRDROP_key (i j k : Nat) : CXL.ECNT0_WRDROP.key i j k = 8388704 + i * 0 + j * 0 := by first | rfl
theorem CXL.ECNT0_RDERR_key (i j k : Nat) : CXL.ECNT0_RDERR.key i j k = 8388720 + i * 0 + j * 0 := by first | rfl
theorem CXL.ECNT1_RDPOIS_key (i j k : Nat) : CXL.ECNT1_RDPOIS.key i j k = 8388736 + i * 0 + j * 0 := by first | rfl
theorem CXL.ECNT1_MEMPOIS_key (i j k : Nat) : CXL.ECNT1_MEMPOIS.key i j k = 8388752 + i * 0 + j * 0 := by first | rfl
theorem CXL.ELOG0_ADDR_LO_key (i j k : Nat) : CXL.ELOG0_ADDR_LO.key i j k = 8388768 + i * 0 + j * 0 := by first | rfl
theorem CXL.ELOG1_ADDR_HI_key (i j k : Nat) : CXL.ELOG1_ADDR_HI.key i j k = 8388800 + i * 0 + j * 0 := by first | rfl
theorem CXL.ELOG1_ST_key (i j k : Nat) : CXL.ELOG1_ST.key i j k = 8388816 + i * 0 + j * 0 := by first | rfl
theorem CXL.ELOG1_KIND_key (i j k : Nat) : CXL.ELOG1_KIND.key i j k = 8388819 + i * 0 + j * 0 := by first | rfl
theorem CXL.ELOG1_VALID_key (i j k : Nat) : CXL.ELOG1_VALID.key i j k = 8388831 + i * 0 + j * 0 := by first | rfl
theorem CXL.LIRQ_EN_key (i j k : Nat) : CXL.LIRQ_EN.key i j k = 8392704 + i * 0 + j * 0 := by first | rfl
theorem CXL.LIRQ_ARMED_key (i j k : Nat) : CXL.LIRQ_ARMED.key i j k = 8392705 + i * 0 + j * 0 := by first | rfl
theorem CXL.LIRQ_HOLDOFF_key (i j k : Nat) : CXL.LIRQ_HOLDOFF.key i j k = 8392720 + i * 0 + j * 0 := by first | rfl
theorem CXL.LREL_ENTRY_key (i j k : Nat) : CXL.LREL_ENTRY.key i j k = 8392736 + i * 0 + j * 0 := by first | rfl
theorem CXL.LREL_GO_key (i j k : Nat) : CXL.LREL_GO.key i j k = 8392746 + i * 0 + j * 0 := by first | rfl
theorem CXL.LGST_RELERR_key (i j k : Nat) : CXL.LGST_RELERR.key i j k = 8392768 + i * 0 + j * 0 := by first | rfl
theorem CXL.LGST_MIRERR_key (i j k : Nat) : CXL.LGST_MIRERR.key i j k = 8392769 + i * 0 + j * 0 := by first | rfl
theorem CXL.LGST_CROVF_key (i j k : Nat) : CXL.LGST_CROVF.key i j k = 8392770 + i * 0 + j * 0 := by first | rfl
theorem CXL.LCRDROP_key (i j k : Nat) : CXL.LCRDROP.key i j k = 8392800 + i * 0 + j * 0 := by first | rfl
theorem CXL.LMIR_EN_key (i j k : Nat) : CXL.LMIR_EN.key i j k = 8392960 + i * 0 + j * 0 := by first | rfl
theorem CXL.LMIR_BASE_key (i j k : Nat) : CXL.LMIR_BASE.key i j k = 8392976 + i * 0 + j * 0 := by first | rfl
theorem CXL.LMIR_BASE_HI_key (i j k : Nat) : CXL.LMIR_BASE_HI.key i j k = 8392992 + i * 0 + j * 0 := by first | rfl
theorem CXL.LCR_EN_key (i j k : Nat) : CXL.LCR_EN.key i j k = 8393088 + i * 0 + j * 0 := by first | rfl
theorem CXL.LCR_LOG2_key (i j k : Nat) : CXL.LCR_LOG2.key i j k = 8393089 + i * 0 + j * 0 := by first | rfl
theorem CXL.LCR_BASE_key (i j k : Nat) : CXL.LCR_BASE.key i j k = 8393100 + i * 0 + j * 0 := by first | rfl
theorem CXL.LCR_BASE_HI_key (i j k : Nat) : CXL.LCR_BASE_HI.key i j k = 8393120 + i * 0 + j * 0 := by first | rfl
theorem CXL.LCRPROD_key (i j k : Nat) : CXL.LCRPROD.key i j k = 8393152 + i * 0 + j * 0 := by first | rfl
theorem CXL.LCRCONS_key (i j k : Nat) : CXL.LCRCONS.key i j k = 8393184 + i * 0 + j * 0 := by first | rfl
theorem CXL.LCHG_key (i j k : Nat) : CXL.LCHG.key i j k = 8393728 + i * 32 + j * 0 := by first | rfl
theorem CXL.B4WIN_SEL_key (i j k : Nat) : CXL.B4WIN_SEL.key i j k = 8396800 + i * 0 + j * 0 := by first | rfl
theorem LGR.UPD_key (i j k : Nat) : LGR.UPD.key i j k = 8912896 + i * 512 + j * 0 := by first | rfl
theorem LGR.OPCODE_key (i j k : Nat) : LGR.OPCODE.key i j k = 8912912 + i * 512 + j * 0 := by first | rfl
theorem LGR.STATE_key (i j k : Nat) : LGR.STATE.key i j k = 8912928 + i * 512 + j * 0 := by first | rfl
theorem LGR.PHASE_key (i j k : Nat) : LGR.PHASE.key i j k = 8912936 + i * 512 + j * 0 := by first | rfl
theorem LGR.ERROR_key (i j k : Nat) : LGR.ERROR.key i j k = 8912944 + i * 512 + j * 0 := by first | rfl
theorem LGR.PROGRESS_key (i j k : Nat) : LGR.PROGRESS.key i j k = 8912960 + i * 512 + j * 0 := by first | rfl
theorem LGR.REQSRC_key (i j k : Nat) : LGR.REQSRC.key i j k = 8912992 + i * 512 + j * 0 := by first | rfl
theorem LGR.TS0_key (i j k : Nat) : LGR.TS0.key i j k = 8913008 + i * 512 + j * 0 := by first | rfl
theorem LGR.TS1_key (i j k : Nat) : LGR.TS1.key i j k = 8913024 + i * 512 + j * 0 := by first | rfl
theorem LGR.TS2_key (i j k : Nat) : LGR.TS2.key i j k = 8913056 + i * 512 + j * 0 := by first | rfl
theorem LGR.RESULT_LO_key (i j k : Nat) : LGR.RESULT_LO.key i j k = 8913088 + i * 512 + j * 0 := by first | rfl
theorem LGR.RESULT_HI_key (i j k : Nat) : LGR.RESULT_HI.key i j k = 8913120 + i * 512 + j * 0 := by first | rfl
theorem LGR.OPSPEC_key (i j k : Nat) : LGR.OPSPEC.key i j k = 8913152 + i * 512 + j * 32 := by first | rfl
theorem HDG.LCS_key (i j k : Nat) : HDG.LCS.key i j k = 9437184 + i * 0 + j * 0 := by first | rfl
theorem HDG.LCS_WELOK_key (i j k : Nat) : HDG.LCS_WELOK.key i j k = 9437186 + i * 0 + j * 0 := by first | rfl
theorem HDG.STAT_KEYOK_key (i j k : Nat) : HDG.STAT_KEYOK.key i j k = 9437216 + i * 0 + j * 0 := by first | rfl
theorem HDG.STAT_BOOTALT_key (i j k : Nat) : HDG.STAT_BOOTALT.key i j k = 9437217 + i * 0 + j * 0 := by first | rfl
theorem HDG.STAT_OCERR_key (i j k : Nat) : HDG.STAT_OCERR.key i j k = 9437218 + i * 0 + j * 0 := by first | rfl
theorem HDG.DPUB_key (i j k : Nat) : HDG.DPUB.key i j k = 9439232 + i * 32 + j * 0 := by first | rfl
theorem HDG.ROOTH_key (i j k : Nat) : HDG.ROOTH.key i j k = 9441280 + i * 32 + j * 0 := by first | rfl
theorem HDG.OWNH_key (i j k : Nat) : HDG.OWNH.key i j k = 9441792 + i * 32 + j * 0 := by first | rfl
theorem HDG.OKEY_key (i j k : Nat) : HDG.OKEY.key i j k = 9442304 + i * 32 + j * 0 := by first | rfl
theorem HDG.OCMD_GO_key (i j k : Nat) : HDG.OCMD_GO.key i j k = 9442688 + i * 0 + j * 0 := by first | rfl
theorem HDG.OCMD_CODE_key (i j k : Nat) : HDG.OCMD_CODE.key i j k = 9442704 + i * 0 + j * 0 := by first | rfl
theorem HDG.ARB_key (i j k : Nat) : HDG.ARB.key i j k = 9443328 + i * 32 + j * 0 := by first | rfl
theorem FWU.STAT_STATE_key (i j k : Nat) : FWU.STAT_STATE.key i j k = 9961472 + i * 0 + j * 0 := by first | rfl
theorem FWU.STAT_MIGOK_key (i j k : Nat) : FWU.STAT_MIGOK.key i j k = 9961475 + i * 0 + j * 0 := by first | rfl
theorem FWU.STAT_MIGFAIL_key (i j k : Nat) : FWU.STAT_MIGFAIL.key i j k = 9961476 + i * 0 + j * 0 := by first | rfl
theorem FWU.STAT_CFERR_key (i j k : Nat) : FWU.STAT_CFERR.key i j k = 9961477 + i * 0 + j * 0 := by first | rfl
theorem FWU.STAT_PRIV_key (i j k : Nat) : FWU.STAT_PRIV.key i j k = 9961478 + i * 0 + j * 0 := by first | rfl
theorem FWU.STAT_LASTRES_key (i j k : Nat) : FWU.STAT_LASTRES.key i j k = 9961480 + i * 0 + j * 0 := by first | rfl
theorem FWU.STAT_REVCAUSE_key (i j k : Nat) : FWU.STAT_REVCAUSE.key i j k = 9961482 + i * 0 + j * 0 := by first | rfl
theorem FWU.CONFIRM_KEY_key (i j k : Nat) : FWU.CONFIRM_KEY.key i j k = 9961504 + i * 0 + j * 0 := by first | rfl
theorem FWU.WIN_REMAIN_key (i j k : Nat) : FWU.WIN_REMAIN.key i j k = 9961536 + i * 0 + j * 0 := by first | rfl
theorem FWU.WINSET_LEN_key (i j k : Nat) : FWU.WINSET_LEN.key i j k = 9961568 + i * 0 + j * 0 := by first | rfl
theorem FWU.CTRL_CANCEL_key (i j k : Nat) : FWU.CTRL_CANCEL.key i j k = 9961600 + i * 0 + j * 0 := by first | rfl
theorem FWU.CTRL_ABORT_key (i j k : Nat) : FWU.CTRL_ABORT.key i j k = 9961601 + i * 0 + j * 0 := by first | rfl
theorem FWU.ACT_HWFW_key (i j k : Nat) : FWU.ACT_HWFW.key i j k = 9961728 + i * 0 + j * 0 := by first | rfl
theorem FWU.ACT_LOADER_key (i j k : Nat) : FWU.ACT_LOADER.key i j k = 9961729 + i * 0 + j * 0 := by first | rfl
theorem FWU.ACT_HBMFW_key (i j k : Nat) : FWU.ACT_HBMFW.key i j k = 9961730 + i * 0 + j * 0 := by first | rfl
theorem FWU.ACT_LANEMC_key (i j k : Nat) : FWU.ACT_LANEMC.key i j k = 9961731 + i * 0 + j * 0 := by first | rfl
theorem FWU.ACT_HWSET_key (i j k : Nat) : FWU.ACT_HWSET.key i j k = 9961732 + i * 0 + j * 0 := by first | rfl
theorem FWU.ACT_FIMG_key (i j k : Nat) : FWU.ACT_FIMG.key i j k = 9961736 + i * 0 + j * 0 := by first | rfl
theorem FWU.ACT_FSET_key (i j k : Nat) : FWU.ACT_FSET.key i j k = 9961744 + i * 0 + j * 0 := by first | rfl
theorem FWU.FWVER_key (i j k : Nat) : FWU.FWVER.key i j k = 9961856 + i * 0 + j * 0 := by first | rfl
theorem FWU.LDRVER_key (i j k : Nat) : FWU.LDRVER.key i j k = 9961888 + i * 0 + j * 0 := by first | rfl
theorem FWU.HBMVER_key (i j k : Nat) : FWU.HBMVER.key i j k = 9961920 + i * 0 + j * 0 := by first | rfl
theorem FWU.LANEVER_key (i j k : Nat) : FWU.LANEVER.key i j k = 9961952 + i * 0 + j * 0 := by first | rfl
theorem FWU.BID_LO_key (i j k : Nat) : FWU.BID_LO.key i j k = 9961984 + i * 0 + j * 0 := by first | rfl
theorem FWU.BID_HI_key (i j k : Nat) : FWU.BID_HI.key i j k = 9962016 + i * 0 + j * 0 := by first | rfl
theorem FWU.RX_LO_key (i j k : Nat) : FWU.RX_LO.key i j k = 9962048 + i * 0 + j * 0 := by first | rfl
theorem FWU.RX_HI_key (i j k : Nat) : FWU.RX_HI.key i j k = 9962080 + i * 0 + j * 0 := by first | rfl
theorem FWU.ERR_CODE_key (i j k : Nat) : FWU.ERR_CODE.key i j k = 9962112 + i * 0 + j * 0 := by first | rfl
theorem FWU.ERR_PART_key (i j k : Nat) : FWU.ERR_PART.key i j k = 9962128 + i * 0 + j * 0 := by first | rfl
theorem PWR.STAT_TWARN_key (i j k : Nat) : PWR.STAT_TWARN.key i j k = 10485760 + i * 0 + j * 0 := by first | rfl
theorem PWR.STAT_TWARNEVT_key (i j k : Nat) : PWR.STAT_TWARNEVT.key i j k = 10485761 + i * 0 + j * 0 := by first | rfl
theorem PWR.STAT_PLIM_key (i j k : Nat) : PWR.STAT_PLIM.key i j k = 10485762 + i * 0 + j * 0 := by first | rfl
theorem PWR.STAT_PLIMEVT_key (i j k : Nat) : PWR.STAT_PLIMEVT.key i j k = 10485763 + i * 0 + j * 0 := by first | rfl
theorem PWR.STAT_SUPWARN_key (i j k : Nat) : PWR.STAT_SUPWARN.key i j k = 10485764 + i * 0 + j * 0 := by first | rfl
theorem PWR.STAT_FTRIP_key (i j k : Nat) : PWR.STAT_FTRIP.key i j k = 10485768 + i * 0 + j * 0 := by first | rfl
theorem PWR.CMD_OP_key (i j k : Nat) : PWR.CMD_OP.key i j k = 10485792 + i * 0 + j * 0 := by first | rfl
theorem PWR.CMD_FIELD_key (i j k : Nat) : PWR.CMD_FIELD.key i j k = 10485794 + i * 0 + j * 0 := by first | rfl
theorem PWR.CMD_KEY_key (i j k : Nat) : PWR.CMD_KEY.key i j k = 10485808 + i * 0 + j * 0 := by first | rfl
theorem PWR.CSTAT_CODE_key (i j k : Nat) : PWR.CSTAT_CODE.key i j k = 10485824 + i * 0 + j * 0 := by first | rfl
theorem PWR.CSTAT_CMDERR_key (i j k : Nat) : PWR.CSTAT_CMDERR.key i j k = 10485827 + i * 0 + j * 0 := by first | rfl
theorem PWR.CSTAT_BUSY_key (i j k : Nat) : PWR.CSTAT_BUSY.key i j k = 10485828 + i * 0 + j * 0 := by first | rfl
theorem PWR.FALLOW_ATPKR_key (i j k : Nat) : PWR.FALLOW_ATPKR.key i j k = 10485856 + i * 0 + j * 0 := by first | rfl
theorem PWR.FALLOW_key (i j k : Nat) : PWR.FALLOW.key i j k = 10485864 + i * 0 + j * 0 := by first | rfl
theorem PWR.POL_QGATE_key (i j k : Nat) : PWR.POL_QGATE.key i j k = 10485888 + i * 0 + j * 0 := by first | rfl
theorem PWR.POL_CGATE_key (i j k : Nat) : PWR.POL_CGATE.key i j k = 10485889 + i * 0 + j * 0 := by first | rfl
theorem PWR.POL_BGATE_key (i j k : Nat) : PWR.POL_BGATE.key i j k = 10485890 + i * 0 + j * 0 := by first | rfl
theorem PWR.POL_CHOLD_key (i j k : Nat) : PWR.POL_CHOLD.key i j k = 10485896 + i * 0 + j * 0 := by first | rfl
theorem PWR.POL_BHOLD_key (i j k : Nat) : PWR.POL_BHOLD.key i j k = 10485904 + i * 0 + j * 0 := by first | rfl
theorem PWR.POL_QHOLD_key (i j k : Nat) : PWR.POL_QHOLD.key i j k = 10485912 + i * 0 + j * 0 := by first | rfl
theorem PWR.HBMOP_RATE_key (i j k : Nat) : PWR.HBMOP_RATE.key i j k = 10485920 + i * 0 + j * 0 := by first | rfl
theorem PWR.HBMOP_GO_key (i j k : Nat) : PWR.HBMOP_GO.key i j k = 10485922 + i * 0 + j * 0 := by first | rfl
theorem PWR.HBMOP_BUSY_key (i j k : Nat) : PWR.HBMOP_BUSY.key i j k = 10485923 + i * 0 + j * 0 := by first | rfl
theorem PWR.HBMOP_ERR_key (i j k : Nat) : PWR.HBMOP_ERR.key i j k = 10485924 + i * 0 + j * 0 := by first | rfl
theorem PWR.TLIM_WARN_key (i j k : Nat) : PWR.TLIM_WARN.key i j k = 10485952 + i * 0 + j * 0 := by first | rfl
theorem PWR.TLIM_TRIP_key (i j k : Nat) : PWR.TLIM_TRIP.key i j k = 10485960 + i * 0 + j * 0 := by first | rfl
theorem PWR.LIMIT_key (i j k : Nat) : PWR.LIMIT.key i j k = 10485984 + i * 0 + j * 0 := by first | rfl
theorem PWR.PKG_key (i j k : Nat) : PWR.PKG.key i j k = 10486016 + i * 0 + j * 0 := by first | rfl
theorem PWR.WAKE_key (i j k : Nat) : PWR.WAKE.key i j k = 10486048 + i * 0 + j * 0 := by first | rfl
theorem PWR.WAKE_ENTRY_key (i j k : Nat) : PWR.WAKE_ENTRY.key i j k = 10486050 + i * 0 + j * 0 := by first | rfl
theorem PWR.WTMR_key (i j k : Nat) : PWR.WTMR.key i j k = 10486080 + i * 0 + j * 0 := by first | rfl
theorem PWR.TSENS_TEMP_key (i j k : Nat) : PWR.TSENS_TEMP.key i j k = 10487808 + i * 32 + j * 0 := by first | rfl
theorem PWR.TSENS_PEAK_key (i j k : Nat) : PWR.TSENS_PEAK.key i j k = 10487816 + i * 32 + j * 0 := by first | rfl
theorem PWR.SUPV_MV_key (i j k : Nat) : PWR.SUPV_MV.key i j k = 10489856 + i * 32 + j * 0 := by first | rfl
theorem PWR.SUPV_CUR_key (i j k : Nat) : PWR.SUPV_CUR.key i j k = 10489872 + i * 32 + j * 0 := by first | rfl
theorem PWR.DON_LO_key (i j k : Nat) : PWR.DON_LO.key i j k = 10491904 + i * 0 + j * 0 := by first | rfl
theorem PWR.DON_HI_key (i j k : Nat) : PWR.DON_HI.key i j k = 10491936 + i * 0 + j * 0 := by first | rfl
theorem CLK.STAT_REFF_key (i j k : Nat) : CLK.STAT_REFF.key i j k = 11010048 + i * 0 + j * 0 := by first | rfl
theorem CLK.STAT_SLOWINT_key (i j k : Nat) : CLK.STAT_SLOWINT.key i j k = 11010049 + i * 0 + j * 0 := by first | rfl
theorem CLK.STAT_REFLOST_key (i j k : Nat) : CLK.STAT_REFLOST.key i j k = 11010050 + i * 0 + j * 0 := by first | rfl
theorem CLK.LOCK_key (i j k : Nat) : CLK.LOCK.key i j k = 11010080 + i * 0 + j * 0 := by first | rfl
theorem CLK.UNLK_key (i j k : Nat) : CLK.UNLK.key i j k = 11010112 + i * 0 + j * 0 := by first | rfl
theorem CLK.ON_key (i j k : Nat) : CLK.ON.key i j k = 11010144 + i * 0 + j * 0 := by first | rfl
theorem CLK.WCLK_WMHZ_key (i j k : Nat) : CLK.WCLK_WMHZ.key i j k = 11010176 + i * 0 + j * 0 := by first | rfl
theorem RST.CAUSE_SRC_key (i j k : Nat) : RST.CAUSE_SRC.key i j k = 11534336 + i * 0 + j * 0 := by first | rfl
theorem RST.CNT_COUNT_key (i j k : Nat) : RST.CNT_COUNT.key i j k = 11534368 + i * 0 + j * 0 := by first | rfl
theorem RST.TS_FRAC_key (i j k : Nat) : RST.TS_FRAC.key i j k = 11534464 + i * 0 + j * 0 := by first | rfl
theorem RST.TS_NS_key (i j k : Nat) : RST.TS_NS.key i j k = 11534496 + i * 0 + j * 0 := by first | rfl
theorem RST.TS_SECLO_key (i j k : Nat) : RST.TS_SECLO.key i j k = 11534528 + i * 0 + j * 0 := by first | rfl
theorem RST.TS_SECHI_key (i j k : Nat) : RST.TS_SECHI.key i j k = 11534560 + i * 0 + j * 0 := by first | rfl
theorem RST.CMD_PKR_key (i j k : Nat) : RST.CMD_PKR.key i j k = 11534592 + i * 0 + j * 0 := by first | rfl
theorem RST.CMD_KEY_key (i j k : Nat) : RST.CMD_KEY.key i j k = 11534608 + i * 0 + j * 0 := by first | rfl
theorem RST.SYNC_SYNCEN_key (i j k : Nat) : RST.SYNC_SYNCEN.key i j k = 11550720 + i * 0 + j * 0 := by first | rfl
theorem RST.SYNC_LEVEL_key (i j k : Nat) : RST.SYNC_LEVEL.key i j k = 11550721 + i * 0 + j * 0 := by first | rfl
theorem RST.SYNC_DRIVE_key (i j k : Nat) : RST.SYNC_DRIVE.key i j k = 11550722 + i * 0 + j * 0 := by first | rfl
theorem RST.SYNC_RELEASED_key (i j k : Nat) : RST.SYNC_RELEASED.key i j k = 11550723 + i * 0 + j * 0 := by first | rfl
theorem RST.SYNC_SYNCTMO_key (i j k : Nat) : RST.SYNC_SYNCTMO.key i j k = 11550724 + i * 0 + j * 0 := by first | rfl
theorem RST.SYNC_TIMEOUT_key (i j k : Nat) : RST.SYNC_TIMEOUT.key i j k = 11550736 + i * 0 + j * 0 := by first | rfl
theorem RST.RELTS_FRAC_key (i j k : Nat) : RST.RELTS_FRAC.key i j k = 11550848 + i * 0 + j * 0 := by first | rfl
theorem RST.RELTS_NS_key (i j k : Nat) : RST.RELTS_NS.key i j k = 11550880 + i * 0 + j * 0 := by first | rfl
theorem RST.RELTS_SECLO_key (i j k : Nat) : RST.RELTS_SECLO.key i j k = 11550912 + i * 0 + j * 0 := by first | rfl
theorem RST.RELTS_SECHI_key (i j k : Nat) : RST.RELTS_SECHI.key i j k = 11550944 + i * 0 + j * 0 := by first | rfl
theorem DBG.CTRL_MSPEN_key (i j k : Nat) : DBG.CTRL_MSPEN.key i j k = 12058624 + i * 0 + j * 0 := by first | rfl
theorem DBG.CTRL_HCEN_key (i j k : Nat) : DBG.CTRL_HCEN.key i j k = 12058625 + i * 0 + j * 0 := by first | rfl
theorem DBG.MSP_DIV_key (i j k : Nat) : DBG.MSP_DIV.key i j k = 12058656 + i * 0 + j * 0 := by first | rfl
theorem DBG.SESS_ACTIVE_key (i j k : Nat) : DBG.SESS_ACTIVE.key i j k = 12058688 + i * 0 + j * 0 := by first | rfl
theorem DBG.SESS_XPORT_key (i j k : Nat) : DBG.SESS_XPORT.key i j k = 12058689 + i * 0 + j * 0 := by first | rfl
theorem DBG.SID_key (i j k : Nat) : DBG.SID.key i j k = 12058720 + i * 0 + j * 0 := by first | rfl
theorem DBG.PEEKA_key (i j k : Nat) : DBG.PEEKA.key i j k = 12058752 + i * 0 + j * 0 := by first | rfl
theorem DBG.PEEKD_key (i j k : Nat) : DBG.PEEKD.key i j k = 12058784 + i * 0 + j * 0 := by first | rfl
theorem DBG.PSTAT_NOPEEK_key (i j k : Nat) : DBG.PSTAT_NOPEEK.key i j k = 12058816 + i * 0 + j * 0 := by first | rfl
theorem DBG.TBASE_LO_key (i j k : Nat) : DBG.TBASE_LO.key i j k = 12060672 + i * 0 + j * 0 := by first | rfl
theorem DBG.TBASE_HI_key (i j k : Nat) : DBG.TBASE_HI.key i j k = 12060704 + i * 0 + j * 0 := by first | rfl
theorem DBG.TCFG_EN_key (i j k : Nat) : DBG.TCFG_EN.key i j k = 12060736 + i * 0 + j * 0 := by first | rfl
theorem DBG.TCFG_WRAP_key (i j k : Nat) : DBG.TCFG_WRAP.key i j k = 12060737 + i * 0 + j * 0 := by first | rfl
theorem DBG.TCFG_LOG2_key (i j k : Nat) : DBG.TCFG_LOG2.key i j k = 12060738 + i * 0 + j * 0 := by first | rfl
theorem DBG.TSTAT_STATE_key (i j k : Nat) : DBG.TSTAT_STATE.key i j k = 12060768 + i * 0 + j * 0 := by first | rfl
theorem DBG.TWPTR_WPTR_LO_key (i j k : Nat) : DBG.TWPTR_WPTR_LO.key i j k = 12060800 + i * 0 + j * 0 := by first | rfl
theorem DBG.TWPTR_WPTR_HI_key (i j k : Nat) : DBG.TWPTR_WPTR_HI.key i j k = 12060832 + i * 0 + j * 0 := by first | rfl
theorem DBG.TDROP_key (i j k : Nat) : DBG.TDROP.key i j k = 12060864 + i * 0 + j * 0 := by first | rfl
theorem DBG.HSTAT_STATE_key (i j k : Nat) : DBG.HSTAT_STATE.key i j k = 12091392 + i * 32 + j * 0 := by first | rfl
theorem DBG.HSTAT_CAUSE_key (i j k : Nat) : DBG.HSTAT_CAUSE.key i j k = 12091394 + i * 32 + j * 0 := by first | rfl
theorem DBG.HSTAT_DU_key (i j k : Nat) : DBG.HSTAT_DU.key i j k = 12091397 + i * 32 + j * 0 := by first | rfl
theorem DBG.HSTAT_LOCKBROKEN_key (i j k : Nat) : DBG.HSTAT_LOCKBROKEN.key i j k = 12091400 + i * 32 + j * 0 := by first | rfl
theorem DBG.HSTAT_DEFERCYC_key (i j k : Nat) : DBG.HSTAT_DEFERCYC.key i j k = 12091401 + i * 32 + j * 0 := by first | rfl
theorem DBG.HSTAT_PC_key (i j k : Nat) : DBG.HSTAT_PC.key i j k = 12091408 + i * 32 + j * 0 := by first | rfl
theorem TRN.CTRL_EN_key (i j k : Nat) : TRN.CTRL_EN.key i j k = 12582912 + i * 2048 + j * 0 := by first | rfl
theorem TRN.CTRL_X16OK_key (i j k : Nat) : TRN.CTRL_X16OK.key i j k = 12582913 + i * 2048 + j * 0 := by first | rfl
theorem TRN.CTRL_MAXRATE_key (i j k : Nat) : TRN.CTRL_MAXRATE.key i j k = 12582914 + i * 2048 + j * 0 := by first | rfl
theorem TRN.STAT_STATE_key (i j k : Nat) : TRN.STAT_STATE.key i j k = 12582944 + i * 2048 + j * 0 := by first | rfl
theorem TRN.STAT_RATE_key (i j k : Nat) : TRN.STAT_RATE.key i j k = 12582947 + i * 2048 + j * 0 := by first | rfl
theorem TRN.STAT_W0_key (i j k : Nat) : TRN.STAT_W0.key i j k = 12582950 + i * 2048 + j * 0 := by first | rfl
theorem TRN.STAT_W1_key (i j k : Nat) : TRN.STAT_W1.key i j k = 12582952 + i * 2048 + j * 0 := by first | rfl
theorem TRN.STAT_IDERR_key (i j k : Nat) : TRN.STAT_IDERR.key i j k = 12582954 + i * 2048 + j * 0 := by first | rfl
theorem TRN.GID_VENDOR_key (i j k : Nat) : TRN.GID_VENDOR.key i j k = 12582976 + i * 2048 + j * 0 := by first | rfl
theorem TRN.GID_DESIGN_key (i j k : Nat) : TRN.GID_DESIGN.key i j k = 12582992 + i * 2048 + j * 0 := by first | rfl
theorem TRN.GID_REV_key (i j k : Nat) : TRN.GID_REV.key i j k = 12583000 + i * 2048 + j * 0 := by first | rfl
theorem TRN.GSER_LO_key (i j k : Nat) : TRN.GSER_LO.key i j k = 12583008 + i * 2048 + j * 0 := by first | rfl
theorem TRN.GSER_HI_key (i j k : Nat) : TRN.GSER_HI.key i j k = 12583040 + i * 2048 + j * 0 := by first | rfl
theorem TRN.ALLOW_VENDOR_key (i j k : Nat) : TRN.ALLOW_VENDOR.key i j k = 12583072 + i * 2048 + j * 0 := by first | rfl
theorem TRN.ALLOW_DESIGN_key (i j k : Nat) : TRN.ALLOW_DESIGN.key i j k = 12583088 + i * 2048 + j * 0 := by first | rfl
theorem TRN.CNT_RETRN_key (i j k : Nat) : TRN.CNT_RETRN.key i j k = 12583104 + i * 2048 + j * 0 := by first | rfl
theorem TRN.CNT_CRCERR_key (i j k : Nat) : TRN.CNT_CRCERR.key i j k = 12583120 + i * 2048 + j * 0 := by first | rfl
theorem TRN.REPAIR_REP0_key (i j k : Nat) : TRN.REPAIR_REP0.key i j k = 12583136 + i * 2048 + j * 0 := by first | rfl
theorem TRN.REPAIR_REP1_key (i j k : Nat) : TRN.REPAIR_REP1.key i j k = 12583144 + i * 2048 + j * 0 := by first | rfl
theorem GAU.STAT_UNLOCKED_key (i j k : Nat) : GAU.STAT_UNLOCKED.key i j k = 13107200 + i * 0 + j * 0 := by first | rfl
theorem GAU.STAT_LOCKERR_key (i j k : Nat) : GAU.STAT_LOCKERR.key i j k = 13107201 + i * 0 + j * 0 := by first | rfl
theorem GAU.STAT_TOKERR_key (i j k : Nat) : GAU.STAT_TOKERR.key i j k = 13107202 + i * 0 + j * 0 := by first | rfl
theorem GAU.STAT_SCOPE_key (i j k : Nat) : GAU.STAT_SCOPE.key i j k = 13107203 + i * 0 + j * 0 := by first | rfl
theorem GAU.REMAIN_key (i j k : Nat) : GAU.REMAIN.key i j k = 13107232 + i * 0 + j * 0 := by first | rfl
theorem GAU.CHAL_key (i j k : Nat) : GAU.CHAL.key i j k = 13107328 + i * 32 + j * 0 := by first | rfl
theorem GAU.TOK_key (i j k : Nat) : GAU.TOK.key i j k = 13109248 + i * 32 + j * 0 := by first | rfl
theorem GAU.CMD_GO_key (i j k : Nat) : GAU.CMD_GO.key i j k = 13111296 + i * 0 + j * 0 := by first | rfl
theorem GAU.CMD_RELOCK_key (i j k : Nat) : GAU.CMD_RELOCK.key i j k = 13111297 + i * 0 + j * 0 := by first | rfl
theorem GAU.SEL_EN_key (i j k : Nat) : GAU.SEL_EN.key i j k = 13113344 + i * 32 + j * 0 := by first | rfl
theorem GAU.SEL_PROBE_key (i j k : Nat) : GAU.SEL_PROBE.key i j k = 13113345 + i * 32 + j * 0 := by first | rfl
theorem GAU.FSEL_EN_key (i j k : Nat) : GAU.FSEL_EN.key i j k = 13115392 + i * 128 + j * 32 := by first | rfl
theorem GAU.FSEL_PROBE_key (i j k : Nat) : GAU.FSEL_PROBE.key i j k = 13115393 + i * 128 + j * 32 := by first | rfl
theorem WHC.DOOR_REQ_key (i j k : Nat) : WHC.DOOR_REQ.key i j k = 2148532224 + i * 0 + j * 0 := by first | rfl
theorem WHC.DOOR_RSPACK_key (i j k : Nat) : WHC.DOOR_RSPACK.key i j k = 2148532225 + i * 0 + j * 0 := by first | rfl
theorem WHC.DOOR_EVTACK_key (i j k : Nat) : WHC.DOOR_EVTACK.key i j k = 2148532226 + i * 0 + j * 0 := by first | rfl
theorem WHC.STAT_UP_key (i j k : Nat) : WHC.STAT_UP.key i j k = 2148532256 + i * 0 + j * 0 := by first | rfl
theorem WHC.STAT_REQBUSY_key (i j k : Nat) : WHC.STAT_REQBUSY.key i j k = 2148532257 + i * 0 + j * 0 := by first | rfl
theorem WHC.STAT_RSPV_key (i j k : Nat) : WHC.STAT_RSPV.key i j k = 2148532258 + i * 0 + j * 0 := by first | rfl
theorem WHC.STAT_EVTV_key (i j k : Nat) : WHC.STAT_EVTV.key i j k = 2148532259 + i * 0 + j * 0 := by first | rfl
theorem WHC.REQBUF_key (i j k : Nat) : WHC.REQBUF.key i j k = 2148564992 + i * 32 + j * 0 := by first | rfl
theorem WHC.RSPBUF_key (i j k : Nat) : WHC.RSPBUF.key i j k = 2148597760 + i * 32 + j * 0 := by first | rfl
theorem WHC.EVTBUF_key (i j k : Nat) : WHC.EVTBUF.key i j k = 2148630528 + i * 32 + j * 0 := by first | rfl
theorem FLD.ID_REV_key (i j k : Nat) : FLD.ID_REV.key i j k = 8 * ((i / 1 + 1) * 16777216 + 0 + i % 1 * 65536 + 0) + 0 + j * 0 + k * 0 := by first | rfl
theorem FLD.ID_SITE_key (i j k : Nat) : FLD.ID_SITE.key i j k = 8 * ((i / 1 + 1) * 16777216 + 0 + i % 1 * 65536 + 0) + 8 + j * 0 + k * 0 := by first | rfl
theorem FLD.ID_FAMILY_key (i j k : Nat) : FLD.ID_FAMILY.key i j k = 8 * ((i / 1 + 1) * 16777216 + 0 + i % 1 * 65536 + 0) + 16 + j * 0 + k * 0 := by first | rfl
theorem FLD.STAT_IOBERR_key (i j k : Nat) : FLD.STAT_IOBERR.key i j k = 8 * ((i / 1 + 1) * 16777216 + 0 + i % 1 * 65536 + 4) + 0 + j * 0 + k * 0 := by first | rfl
theorem FLD.STAT_PLLUNLK_key (i j k : Nat) : FLD.STAT_PLLUNLK.key i j k = 8 * ((i / 1 + 1) * 16777216 + 0 + i % 1 * 65536 + 4) + 1 + j * 0 + k * 0 := by first | rfl
theorem FLD.STAT_WCLKLOCK_key (i j k : Nat) : FLD.STAT_WCLKLOCK.key i j k = 8 * ((i / 1 + 1) * 16777216 + 0 + i % 1 * 65536 + 4) + 2 + j * 0 + k * 0 := by first | rfl
theorem FLD.STAT_WCLKLOST_key (i j k : Nat) : FLD.STAT_WCLKLOST.key i j k = 8 * ((i / 1 + 1) * 16777216 + 0 + i % 1 * 65536 + 4) + 3 + j * 0 + k * 0 := by first | rfl
theorem FLD.PLL_LOCK_key (i j k : Nat) : FLD.PLL_LOCK.key i j k = 8 * ((i / 1 + 1) * 16777216 + 0 + i % 1 * 65536 + 8) + 0 + j * 0 + k * 0 := by first | rfl
theorem FLD.PLL_UNLK_key (i j k : Nat) : FLD.PLL_UNLK.key i j k = 8 * ((i / 1 + 1) * 16777216 + 0 + i % 1 * 65536 + 8) + 8 + j * 0 + k * 0 := by first | rfl
theorem FLD.PLL_USED_key (i j k : Nat) : FLD.PLL_USED.key i j k = 8 * ((i / 1 + 1) * 16777216 + 0 + i % 1 * 65536 + 8) + 16 + j * 0 + k * 0 := by first | rfl
theorem FLD.IOB_DECL_key (i j k : Nat) : FLD.IOB_DECL.key i j k = 8 * ((i / 1 + 1) * 16777216 + 0 + i % 1 * 65536 + 16) + 0 + j * 32 + k * 0 := by first | rfl
theorem FLD.IOB_DET_key (i j k : Nat) : FLD.IOB_DET.key i j k = 8 * ((i / 1 + 1) * 16777216 + 0 + i % 1 * 65536 + 16) + 3 + j * 32 + k * 0 := by first | rfl
theorem FLD.IOB_HIZ_key (i j k : Nat) : FLD.IOB_HIZ.key i j k = 8 * ((i / 1 + 1) * 16777216 + 0 + i % 1 * 65536 + 16) + 6 + j * 32 + k * 0 := by first | rfl
theorem FLD.WSTAT_WMODE_key (i j k : Nat) : FLD.WSTAT_WMODE.key i j k = 8 * ((i / 1 + 1) * 16777216 + 0 + i % 1 * 65536 + 32) + 0 + j * 0 + k * 0 := by first | rfl
theorem FLD.WSTAT_WOK_key (i j k : Nat) : FLD.WSTAT_WOK.key i j k = 8 * ((i / 1 + 1) * 16777216 + 0 + i % 1 * 65536 + 32) + 8 + j * 0 + k * 0 := by first | rfl
theorem FLD.WSTAT_WDFLT_key (i j k : Nat) : FLD.WSTAT_WDFLT.key i j k = 8 * ((i / 1 + 1) * 16777216 + 0 + i % 1 * 65536 + 32) + 16 + j * 0 + k * 0 := by first | rfl
theorem FLD.FLOAT_FOUT_key (i j k : Nat) : FLD.FLOAT_FOUT.key i j k = 8 * ((i / 1 + 1) * 16777216 + 0 + i % 1 * 65536 + 36) + 0 + j * 0 + k * 0 := by first | rfl
theorem FLD.CEPEN_LO_key (i j k : Nat) : FLD.CEPEN_LO.key i j k = 8 * ((i / 1 + 1) * 16777216 + 0 + i % 1 * 65536 + 40) + 0 + j * 0 + k * 0 := by first | rfl
theorem FLD.CEPEN_HI_key (i j k : Nat) : FLD.CEPEN_HI.key i j k = 8 * ((i / 1 + 1) * 16777216 + 0 + i % 1 * 65536 + 44) + 0 + j * 0 + k * 0 := by first | rfl
theorem FLD.CEPERR_LO_key (i j k : Nat) : FLD.CEPERR_LO.key i j k = 8 * ((i / 1 + 1) * 16777216 + 0 + i % 1 * 65536 + 48) + 0 + j * 0 + k * 0 := by first | rfl
theorem FLD.CEPERR_HI_key (i j k : Nat) : FLD.CEPERR_HI.key i j k = 8 * ((i / 1 + 1) * 16777216 + 0 + i % 1 * 65536 + 52) + 0 + j * 0 + k * 0 := by first | rfl
theorem FLD.USRIN_key (i j k : Nat) : FLD.USRIN.key i j k = 8 * ((i / 1 + 1) * 16777216 + 0 + i % 1 * 65536 + 256) + 0 + j * 32 + k * 0 := by first | rfl
theorem FLD.USROUT_key (i j k : Nat) : FLD.USROUT.key i j k = 8 * ((i / 1 + 1) * 16777216 + 0 + i % 1 * 65536 + 320) + 0 + j * 32 + k * 0 := by first | rfl
theorem FLF.MSTAT_STATE_key (i j k : Nat) : FLF.MSTAT_STATE.key i j k = 8 * ((i / 8 + 1) * 16777216 + 65536 + i % 8 * 8192 + 0) + 0 + j * 0 + k * 0 := by first | rfl
theorem FLF.MSTAT_WIDTH_key (i j k : Nat) : FLF.MSTAT_WIDTH.key i j k = 8 * ((i / 8 + 1) * 16777216 + 65536 + i % 8 * 8192 + 0) + 3 + j * 0 + k * 0 := by first | rfl
theorem FLF.MSTAT_GROUP_key (i j k : Nat) : FLF.MSTAT_GROUP.key i j k = 8 * ((i / 8 + 1) * 16777216 + 65536 + i % 8 * 8192 + 0) + 5 + j * 0 + k * 0 := by first | rfl
theorem FLF.MSTAT_WIRE_key (i j k : Nat) : FLF.MSTAT_WIRE.key i j k = 8 * ((i / 8 + 1) * 16777216 + 65536 + i % 8 * 8192 + 0) + 7 + j * 0 + k * 0 := by first | rfl
theorem FLF.MSTAT_ADOPTFAIL_key (i j k : Nat) : FLF.MSTAT_ADOPTFAIL.key i j k = 8 * ((i / 8 + 1) * 16777216 + 65536 + i % 8 * 8192 + 0) + 8 + j * 0 + k * 0 := by first | rfl
theorem FLF.CAP_MAXW_key (i j k : Nat) : FLF.CAP_MAXW.key i j k = 8 * ((i / 8 + 1) * 16777216 + 65536 + i % 8 * 8192 + 4) + 0 + j * 0 + k * 0 := by first | rfl
theorem FLF.REPAIR_key (i j k : Nat) : FLF.REPAIR.key i j k = 8 * ((i / 8 + 1) * 16777216 + 65536 + i % 8 * 8192 + 8) + 0 + j * 0 + k * 0 := by first | rfl
theorem FLF.MCNT0_REPLAY_key (i j k : Nat) : FLF.MCNT0_REPLAY.key i j k = 8 * ((i / 8 + 1) * 16777216 + 65536 + i % 8 * 8192 + 12) + 0 + j * 0 + k * 0 := by first | rfl
theorem FLF.MCNT0_RETRN_key (i j k : Nat) : FLF.MCNT0_RETRN.key i j k = 8 * ((i / 8 + 1) * 16777216 + 65536 + i % 8 * 8192 + 12) + 16 + j * 0 + k * 0 := by first | rfl
theorem FLF.MCNT1_CRCERR_key (i j k : Nat) : FLF.MCNT1_CRCERR.key i j k = 8 * ((i / 8 + 1) * 16777216 + 65536 + i % 8 * 8192 + 16) + 0 + j * 0 + k * 0 := by first | rfl
theorem FLF.LIVE_key (i j k : Nat) : FLF.LIVE.key i j k = 8 * ((i / 8 + 1) * 16777216 + 65536 + i % 8 * 8192 + 4096) + 0 + j * 0 + k * 0 := by first | rfl
theorem FLF.LIVE_HCH_key (i j k : Nat) : FLF.LIVE_HCH.key i j k = 8 * ((i / 8 + 1) * 16777216 + 65536 + i % 8 * 8192 + 4096) + 16 + j * 0 + k * 0 := by first | rfl
theorem FLF.FSTAT_FENCED_key (i j k : Nat) : FLF.FSTAT_FENCED.key i j k = 8 * ((i / 8 + 1) * 16777216 + 65536 + i % 8 * 8192 + 4100) + 0 + j * 0 + k * 0 := by first | rfl
theorem LNQ.CTRL_PLLA_EN_key (i j k : Nat) : LNQ.CTRL_PLLA_EN.key i j k = 8 * ((i / 4 + 1) * 16777216 + 131072 + i % 4 * 16384 + 0) + 0 + j * 0 + k * 0 := by first | rfl
theorem LNQ.CTRL_PLLB_EN_key (i j k : Nat) : LNQ.CTRL_PLLB_EN.key i j k = 8 * ((i / 4 + 1) * 16777216 + 131072 + i % 4 * 16384 + 0) + 1 + j * 0 + k * 0 := by first | rfl
theorem LNQ.CTRL_REFA_key (i j k : Nat) : LNQ.CTRL_REFA.key i j k = 8 * ((i / 4 + 1) * 16777216 + 131072 + i % 4 * 16384 + 0) + 2 + j * 0 + k * 0 := by first | rfl
theorem LNQ.CTRL_REFB_key (i j k : Nat) : LNQ.CTRL_REFB.key i j k = 8 * ((i / 4 + 1) * 16777216 + 131072 + i % 4 * 16384 + 0) + 3 + j * 0 + k * 0 := by first | rfl
theorem LNQ.PLLA_N_NINT_key (i j k : Nat) : LNQ.PLLA_N_NINT.key i j k = 8 * ((i / 4 + 1) * 16777216 + 131072 + i % 4 * 16384 + 4) + 0 + j * 0 + k * 0 := by first | rfl
theorem LNQ.PLLA_F_NNUM_key (i j k : Nat) : LNQ.PLLA_F_NNUM.key i j k = 8 * ((i / 4 + 1) * 16777216 + 131072 + i % 4 * 16384 + 8) + 0 + j * 0 + k * 0 := by first | rfl
theorem LNQ.PLLA_F_NDEN_key (i j k : Nat) : LNQ.PLLA_F_NDEN.key i j k = 8 * ((i / 4 + 1) * 16777216 + 131072 + i % 4 * 16384 + 8) + 16 + j * 0 + k * 0 := by first | rfl
theorem LNQ.PLLB_N_NINT_key (i j k : Nat) : LNQ.PLLB_N_NINT.key i j k = 8 * ((i / 4 + 1) * 16777216 + 131072 + i % 4 * 16384 + 12) + 0 + j * 0 + k * 0 := by first | rfl
theorem LNQ.PLLB_F_NNUM_key (i j k : Nat) : LNQ.PLLB_F_NNUM.key i j k = 8 * ((i / 4 + 1) * 16777216 + 131072 + i % 4 * 16384 + 16) + 0 + j * 0 + k * 0 := by first | rfl
theorem LNQ.PLLB_F_NDEN_key (i j k : Nat) : LNQ.PLLB_F_NDEN.key i j k = 8 * ((i / 4 + 1) * 16777216 + 131072 + i % 4 * 16384 + 16) + 16 + j * 0 + k * 0 := by first | rfl
theorem LNQ.STAT_LOCKA_key (i j k : Nat) : LNQ.STAT_LOCKA.key i j k = 8 * ((i / 4 + 1) * 16777216 + 131072 + i % 4 * 16384 + 20) + 0 + j * 0 + k * 0 := by first | rfl
theorem LNQ.STAT_LOCKB_key (i j k : Nat) : LNQ.STAT_LOCKB.key i j k = 8 * ((i / 4 + 1) * 16777216 + 131072 + i % 4 * 16384 + 20) + 1 + j * 0 + k * 0 := by first | rfl
theorem LNQ.STAT_UNLKA_key (i j k : Nat) : LNQ.STAT_UNLKA.key i j k = 8 * ((i / 4 + 1) * 16777216 + 131072 + i % 4 * 16384 + 20) + 2 + j * 0 + k * 0 := by first | rfl
theorem LNQ.STAT_UNLKB_key (i j k : Nat) : LNQ.STAT_UNLKB.key i j k = 8 * ((i / 4 + 1) * 16777216 + 131072 + i % 4 * 16384 + 20) + 3 + j * 0 + k * 0 := by first | rfl
theorem LNQ.STAT_RANGEA_key (i j k : Nat) : LNQ.STAT_RANGEA.key i j k = 8 * ((i / 4 + 1) * 16777216 + 131072 + i % 4 * 16384 + 20) + 4 + j * 0 + k * 0 := by first | rfl
theorem LNQ.STAT_RANGEB_key (i j k : Nat) : LNQ.STAT_RANGEB.key i j k = 8 * ((i / 4 + 1) * 16777216 + 131072 + i % 4 * 16384 + 20) + 5 + j * 0 + k * 0 := by first | rfl
theorem LN.CTRL_EN_key (i j k : Nat) : LN.CTRL_EN.key i j k = 8 * ((i / 16 + 1) * 16777216 + 196608 + i % 16 * 4096 + 0) + 0 + j * 0 + k * 0 := by first | rfl
theorem LN.CTRL_TXEN_key (i j k : Nat) : LN.CTRL_TXEN.key i j k = 8 * ((i / 16 + 1) * 16777216 + 196608 + i % 16 * 4096 + 0) + 1 + j * 0 + k * 0 := by first | rfl
theorem LN.CTRL_RXEN_key (i j k : Nat) : LN.CTRL_RXEN.key i j k = 8 * ((i / 16 + 1) * 16777216 + 196608 + i % 16 * 4096 + 0) + 2 + j * 0 + k * 0 := by first | rfl
theorem LN.CTRL_PLLSEL_key (i j k : Nat) : LN.CTRL_PLLSEL.key i j k = 8 * ((i / 16 + 1) * 16777216 + 196608 + i % 16 * 4096 + 0) + 3 + j * 0 + k * 0 := by first | rfl
theorem LN.CTRL_DIV_key (i j k : Nat) : LN.CTRL_DIV.key i j k = 8 * ((i / 16 + 1) * 16777216 + 196608 + i % 16 * 4096 + 0) + 4 + j * 0 + k * 0 := by first | rfl
theorem LN.CTRL_MOD_key (i j k : Nat) : LN.CTRL_MOD.key i j k = 8 * ((i / 16 + 1) * 16777216 + 196608 + i % 16 * 4096 + 0) + 7 + j * 0 + k * 0 := by first | rfl
theorem LN.CTRL_RCLASS_key (i j k : Nat) : LN.CTRL_RCLASS.key i j k = 8 * ((i / 16 + 1) * 16777216 + 196608 + i % 16 * 4096 + 0) + 8 + j * 0 + k * 0 := by first | rfl
theorem LN.CTRL_ADAPT_key (i j k : Nat) : LN.CTRL_ADAPT.key i j k = 8 * ((i / 16 + 1) * 16777216 + 196608 + i % 16 * 4096 + 0) + 11 + j * 0 + k * 0 := by first | rfl
theorem LN.CTRL_MLSE_DIS_key (i j k : Nat) : LN.CTRL_MLSE_DIS.key i j k = 8 * ((i / 16 + 1) * 16777216 + 196608 + i % 16 * 4096 + 0) + 13 + j * 0 + k * 0 := by first | rfl
theorem LN.CTRL_TRAIN_key (i j k : Nat) : LN.CTRL_TRAIN.key i j k = 8 * ((i / 16 + 1) * 16777216 + 196608 + i % 16 * 4096 + 0) + 14 + j * 0 + k * 0 := by first | rfl
theorem LN.CTRL_PRECODE_key (i j k : Nat) : LN.CTRL_PRECODE.key i j k = 8 * ((i / 16 + 1) * 16777216 + 196608 + i % 16 * 4096 + 0) + 15 + j * 0 + k * 0 := by first | rfl
theorem LN.CTRL_LOOP_key (i j k : Nat) : LN.CTRL_LOOP.key i j k = 8 * ((i / 16 + 1) * 16777216 + 196608 + i % 16 * 4096 + 0) + 16 + j * 0 + k * 0 := by first | rfl
theorem LN.STAT_STATE_key (i j k : Nat) : LN.STAT_STATE.key i j k = 8 * ((i / 16 + 1) * 16777216 + 196608 + i % 16 * 4096 + 4) + 0 + j * 0 + k * 0 := by first | rfl
theorem LN.STAT_SIGDET_key (i j k : Nat) : LN.STAT_SIGDET.key i j k = 8 * ((i / 16 + 1) * 16777216 + 196608 + i % 16 * 4096 + 4) + 3 + j * 0 + k * 0 := by first | rfl
theorem LN.STAT_CDRLOCK_key (i j k : Nat) : LN.STAT_CDRLOCK.key i j k = 8 * ((i / 16 + 1) * 16777216 + 196608 + i % 16 * 4096 + 4) + 4 + j * 0 + k * 0 := by first | rfl
theorem LN.STAT_DPACT_key (i j k : Nat) : LN.STAT_DPACT.key i j k = 8 * ((i / 16 + 1) * 16777216 + 196608 + i % 16 * 4096 + 4) + 5 + j * 0 + k * 0 := by first | rfl
theorem LN.STAT_CFGERR_key (i j k : Nat) : LN.STAT_CFGERR.key i j k = 8 * ((i / 16 + 1) * 16777216 + 196608 + i % 16 * 4096 + 4) + 6 + j * 0 + k * 0 := by first | rfl
theorem LN.STAT_TBLDEF_key (i j k : Nat) : LN.STAT_TBLDEF.key i j k = 8 * ((i / 16 + 1) * 16777216 + 196608 + i % 16 * 4096 + 4) + 7 + j * 0 + k * 0 := by first | rfl
theorem LN.STAT_TRAIN_FALLBACK_key (i j k : Nat) : LN.STAT_TRAIN_FALLBACK.key i j k = 8 * ((i / 16 + 1) * 16777216 + 196608 + i % 16 * 4096 + 4) + 8 + j * 0 + k * 0 := by first | rfl
theorem LN.STAT_ADPLIM_key (i j k : Nat) : LN.STAT_ADPLIM.key i j k = 8 * ((i / 16 + 1) * 16777216 + 196608 + i % 16 * 4096 + 4) + 9 + j * 0 + k * 0 := by first | rfl
theorem LN.STAT_LOS_EVT_key (i j k : Nat) : LN.STAT_LOS_EVT.key i j k = 8 * ((i / 16 + 1) * 16777216 + 196608 + i % 16 * 4096 + 4) + 10 + j * 0 + k * 0 := by first | rfl
theorem LN.STAT_CALDISC_key (i j k : Nat) : LN.STAT_CALDISC.key i j k = 8 * ((i / 16 + 1) * 16777216 + 196608 + i % 16 * 4096 + 4) + 11 + j * 0 + k * 0 := by first | rfl
theorem LN.STAT_FIRERR_key (i j k : Nat) : LN.STAT_FIRERR.key i j k = 8 * ((i / 16 + 1) * 16777216 + 196608 + i % 16 * 4096 + 4) + 12 + j * 0 + k * 0 := by first | rfl
theorem LN.STAT_CALERR_key (i j k : Nat) : LN.STAT_CALERR.key i j k = 8 * ((i / 16 + 1) * 16777216 + 196608 + i % 16 * 4096 + 4) + 13 + j * 0 + k * 0 := by first | rfl
theorem LN.TXFIR0_PRE3_key (i j k : Nat) : LN.TXFIR0_PRE3.key i j k = 8 * ((i / 16 + 1) * 16777216 + 196608 + i % 16 * 4096 + 8) + 0 + j * 0 + k * 0 := by first | rfl
theorem LN.TXFIR0_PRE2_key (i j k : Nat) : LN.TXFIR0_PRE2.key i j k = 8 * ((i / 16 + 1) * 16777216 + 196608 + i % 16 * 4096 + 8) + 8 + j * 0 + k * 0 := by first | rfl
theorem LN.TXFIR0_PRE1_key (i j k : Nat) : LN.TXFIR0_PRE1.key i j k = 8 * ((i / 16 + 1) * 16777216 + 196608 + i % 16 * 4096 + 8) + 16 + j * 0 + k * 0 := by first | rfl
theorem LN.TXFIR0_MAIN_key (i j k : Nat) : LN.TXFIR0_MAIN.key i j k = 8 * ((i / 16 + 1) * 16777216 + 196608 + i % 16 * 4096 + 8) + 24 + j * 0 + k * 0 := by first | rfl
theorem LN.TXFIR1_POST1_key (i j k : Nat) : LN.TXFIR1_POST1.key i j k = 8 * ((i / 16 + 1) * 16777216 + 196608 + i % 16 * 4096 + 12) + 0 + j * 0 + k * 0 := by first | rfl
theorem LN.TXFIR1_POST2_key (i j k : Nat) : LN.TXFIR1_POST2.key i j k = 8 * ((i / 16 + 1) * 16777216 + 196608 + i % 16 * 4096 + 12) + 8 + j * 0 + k * 0 := by first | rfl
theorem LN.TXFIR1_AMP_key (i j k : Nat) : LN.TXFIR1_AMP.key i j k = 8 * ((i / 16 + 1) * 16777216 + 196608 + i % 16 * 4096 + 12) + 16 + j * 0 + k * 0 := by first | rfl
theorem LN.RXEQ_CTLE_key (i j k : Nat) : LN.RXEQ_CTLE.key i j k = 8 * ((i / 16 + 1) * 16777216 + 196608 + i % 16 * 4096 + 16) + 0 + j * 0 + k * 0 := by first | rfl
theorem LN.RXEQ_VGA_key (i j k : Nat) : LN.RXEQ_VGA.key i j k = 8 * ((i / 16 + 1) * 16777216 + 196608 + i % 16 * 4096 + 16) + 8 + j * 0 + k * 0 := by first | rfl
theorem LN.DFE0_TAP1_key (i j k : Nat) : LN.DFE0_TAP1.key i j k = 8 * ((i / 16 + 1) * 16777216 + 196608 + i % 16 * 4096 + 20) + 0 + j * 0 + k * 0 := by first | rfl
theorem LN.DFE0_TAP2_key (i j k : Nat) : LN.DFE0_TAP2.key i j k = 8 * ((i / 16 + 1) * 16777216 + 196608 + i % 16 * 4096 + 20) + 8 + j * 0 + k * 0 := by first | rfl
theorem LN.DFE0_TAP3_key (i j k : Nat) : LN.DFE0_TAP3.key i j k = 8 * ((i / 16 + 1) * 16777216 + 196608 + i % 16 * 4096 + 20) + 16 + j * 0 + k * 0 := by first | rfl
theorem LN.DFE0_TAP4_key (i j k : Nat) : LN.DFE0_TAP4.key i j k = 8 * ((i / 16 + 1) * 16777216 + 196608 + i % 16 * 4096 + 20) + 24 + j * 0 + k * 0 := by first | rfl
theorem LN.DFE1_TAP5_key (i j k : Nat) : LN.DFE1_TAP5.key i j k = 8 * ((i / 16 + 1) * 16777216 + 196608 + i % 16 * 4096 + 24) + 0 + j * 0 + k * 0 := by first | rfl
theorem LN.DFE1_TAP6_key (i j k : Nat) : LN.DFE1_TAP6.key i j k = 8 * ((i / 16 + 1) * 16777216 + 196608 + i % 16 * 4096 + 24) + 8 + j * 0 + k * 0 := by first | rfl
theorem LN.DFE1_TAP7_key (i j k : Nat) : LN.DFE1_TAP7.key i j k = 8 * ((i / 16 + 1) * 16777216 + 196608 + i % 16 * 4096 + 24) + 16 + j * 0 + k * 0 := by first | rfl
theorem LN.DFE1_TAP8_key (i j k : Nat) : LN.DFE1_TAP8.key i j k = 8 * ((i / 16 + 1) * 16777216 + 196608 + i % 16 * 4096 + 24) + 24 + j * 0 + k * 0 := by first | rfl
theorem LN.DFE2_TAP9_key (i j k : Nat) : LN.DFE2_TAP9.key i j k = 8 * ((i / 16 + 1) * 16777216 + 196608 + i % 16 * 4096 + 28) + 0 + j * 0 + k * 0 := by first | rfl
theorem LN.DFE2_TAP10_key (i j k : Nat) : LN.DFE2_TAP10.key i j k = 8 * ((i / 16 + 1) * 16777216 + 196608 + i % 16 * 4096 + 28) + 8 + j * 0 + k * 0 := by first | rfl
theorem LN.DFE2_TAP11_key (i j k : Nat) : LN.DFE2_TAP11.key i j k = 8 * ((i / 16 + 1) * 16777216 + 196608 + i % 16 * 4096 + 28) + 16 + j * 0 + k * 0 := by first | rfl
theorem LN.DFE2_TAP12_key (i j k : Nat) : LN.DFE2_TAP12.key i j k = 8 * ((i / 16 + 1) * 16777216 + 196608 + i % 16 * 4096 + 28) + 24 + j * 0 + k * 0 := by first | rfl
theorem LN.MLSE_ALPHA_key (i j k : Nat) : LN.MLSE_ALPHA.key i j k = 8 * ((i / 16 + 1) * 16777216 + 196608 + i % 16 * 4096 + 32) + 0 + j * 0 + k * 0 := by first | rfl
theorem LN.MLSE_BETA_key (i j k : Nat) : LN.MLSE_BETA.key i j k = 8 * ((i / 16 + 1) * 16777216 + 196608 + i % 16 * 4096 + 32) + 8 + j * 0 + k * 0 := by first | rfl
theorem LN.CDR_PPM_key (i j k : Nat) : LN.CDR_PPM.key i j k = 8 * ((i / 16 + 1) * 16777216 + 196608 + i % 16 * 4096 + 36) + 0 + j * 0 + k * 0 := by first | rfl
theorem LN.CAL_GO_key (i j k : Nat) : LN.CAL_GO.key i j k = 8 * ((i / 16 + 1) * 16777216 + 196608 + i % 16 * 4096 + 40) + 0 + j * 0 + k * 0 := by first | rfl
theorem LN.CAL_INTR_key (i j k : Nat) : LN.CAL_INTR.key i j k = 8 * ((i / 16 + 1) * 16777216 + 196608 + i % 16 * 4096 + 40) + 1 + j * 0 + k * 0 := by first | rfl
theorem LN.CAL_KIND_key (i j k : Nat) : LN.CAL_KIND.key i j k = 8 * ((i / 16 + 1) * 16777216 + 196608 + i % 16 * 4096 + 40) + 2 + j * 0 + k * 0 := by first | rfl
theorem LN.CAL_ENTRY_key (i j k : Nat) : LN.CAL_ENTRY.key i j k = 8 * ((i / 16 + 1) * 16777216 + 196608 + i % 16 * 4096 + 40) + 16 + j * 0 + k * 0 := by first | rfl
theorem LN.EVCNT_LOSCNT_key (i j k : Nat) : LN.EVCNT_LOSCNT.key i j k = 8 * ((i / 16 + 1) * 16777216 + 196608 + i % 16 * 4096 + 44) + 0 + j * 0 + k * 0 := by first | rfl
theorem LN.EVCNT_ACQFAIL_key (i j k : Nat) : LN.EVCNT_ACQFAIL.key i j k = 8 * ((i / 16 + 1) * 16777216 + 196608 + i % 16 * 4096 + 44) + 16 + j * 0 + k * 0 := by first | rfl
theorem LN.TBL_ENT_key (i j k : Nat) : LN.TBL_ENT.key i j k = 8 * ((i / 16 + 1) * 16777216 + 196608 + i % 16 * 4096 + 256) + 0 + j * 32 + k * 0 := by first | rfl
theorem PCS.CTRL_EN_key (i j k : Nat) : PCS.CTRL_EN.key i j k = 8 * ((i / 16 + 1) * 16777216 + 262144 + i % 16 * 4096 + 0) + 0 + j * 0 + k * 0 := by first | rfl
theorem PCS.CTRL_MODE_key (i j k : Nat) : PCS.CTRL_MODE.key i j k = 8 * ((i / 16 + 1) * 16777216 + 262144 + i % 16 * 4096 + 0) + 1 + j * 0 + k * 0 := by first | rfl
theorem PCS.CTRL_WIDTH_key (i j k : Nat) : PCS.CTRL_WIDTH.key i j k = 8 * ((i / 16 + 1) * 16777216 + 262144 + i % 16 * 4096 + 0) + 3 + j * 0 + k * 0 := by first | rfl
theorem PCS.CTRL_ETHPHY_key (i j k : Nat) : PCS.CTRL_ETHPHY.key i j k = 8 * ((i / 16 + 1) * 16777216 + 262144 + i % 16 * 4096 + 0) + 8 + j * 0 + k * 0 := by first | rfl
theorem PCS.CTRL_FECBYP_key (i j k : Nat) : PCS.CTRL_FECBYP.key i j k = 8 * ((i / 16 + 1) * 16777216 + 262144 + i % 16 * 4096 + 0) + 12 + j * 0 + k * 0 := by first | rfl
theorem PCS.CTRL_AN_key (i j k : Nat) : PCS.CTRL_AN.key i j k = 8 * ((i / 16 + 1) * 16777216 + 262144 + i % 16 * 4096 + 0) + 13 + j * 0 + k * 0 := by first | rfl
theorem PCS.CTRL_TPROTO_key (i j k : Nat) : PCS.CTRL_TPROTO.key i j k = 8 * ((i / 16 + 1) * 16777216 + 262144 + i % 16 * 4096 + 0) + 14 + j * 0 + k * 0 := by first | rfl
theorem PCS.CTRL_SCRBYP_key (i j k : Nat) : PCS.CTRL_SCRBYP.key i j k = 8 * ((i / 16 + 1) * 16777216 + 262144 + i % 16 * 4096 + 0) + 16 + j * 0 + k * 0 := by first | rfl
theorem PCS.STAT_BLOCK_LOCK_key (i j k : Nat) : PCS.STAT_BLOCK_LOCK.key i j k = 8 * ((i / 16 + 1) * 16777216 + 262144 + i % 16 * 4096 + 4) + 0 + j * 0 + k * 0 := by first | rfl
theorem PCS.STAT_ALIGN_key (i j k : Nat) : PCS.STAT_ALIGN.key i j k = 8 * ((i / 16 + 1) * 16777216 + 262144 + i % 16 * 4096 + 4) + 1 + j * 0 + k * 0 := by first | rfl
theorem PCS.STAT_LINK_key (i j k : Nat) : PCS.STAT_LINK.key i j k = 8 * ((i / 16 + 1) * 16777216 + 262144 + i % 16 * 4096 + 4) + 2 + j * 0 + k * 0 := by first | rfl
theorem PCS.STAT_CFGERR_key (i j k : Nat) : PCS.STAT_CFGERR.key i j k = 8 * ((i / 16 + 1) * 16777216 + 262144 + i % 16 * 4096 + 4) + 3 + j * 0 + k * 0 := by first | rfl
theorem PCS.STAT_LOCKLOST_key (i j k : Nat) : PCS.STAT_LOCKLOST.key i j k = 8 * ((i / 16 + 1) * 16777216 + 262144 + i % 16 * 4096 + 4) + 4 + j * 0 + k * 0 := by first | rfl
theorem PCS.STAT_HIBER_key (i j k : Nat) : PCS.STAT_HIBER.key i j k = 8 * ((i / 16 + 1) * 16777216 + 262144 + i % 16 * 4096 + 4) + 5 + j * 0 + k * 0 := by first | rfl
theorem PCS.STAT_AN_DONE_key (i j k : Nat) : PCS.STAT_AN_DONE.key i j k = 8 * ((i / 16 + 1) * 16777216 + 262144 + i % 16 * 4096 + 4) + 6 + j * 0 + k * 0 := by first | rfl
theorem PCS.STAT_AN_NOCOMMON_key (i j k : Nat) : PCS.STAT_AN_NOCOMMON.key i j k = 8 * ((i / 16 + 1) * 16777216 + 262144 + i % 16 * 4096 + 4) + 7 + j * 0 + k * 0 := by first | rfl
theorem PCS.STAT_ADVDROP_key (i j k : Nat) : PCS.STAT_ADVDROP.key i j k = 8 * ((i / 16 + 1) * 16777216 + 262144 + i % 16 * 4096 + 4) + 8 + j * 0 + k * 0 := by first | rfl
theorem PCS.STAT_EYEERR_key (i j k : Nat) : PCS.STAT_EYEERR.key i j k = 8 * ((i / 16 + 1) * 16777216 + 262144 + i % 16 * 4096 + 4) + 9 + j * 0 + k * 0 := by first | rfl
theorem PCS.STAT_TRNST_key (i j k : Nat) : PCS.STAT_TRNST.key i j k = 8 * ((i / 16 + 1) * 16777216 + 262144 + i % 16 * 4096 + 4) + 12 + j * 0 + k * 0 := by first | rfl
theorem PCS.STAT_RES_PHY_key (i j k : Nat) : PCS.STAT_RES_PHY.key i j k = 8 * ((i / 16 + 1) * 16777216 + 262144 + i % 16 * 4096 + 4) + 16 + j * 0 + k * 0 := by first | rfl
theorem PCS.ANADV_key (i j k : Nat) : PCS.ANADV.key i j k = 8 * ((i / 16 + 1) * 16777216 + 262144 + i % 16 * 4096 + 8) + 0 + j * 0 + k * 0 := by first | rfl
theorem PCS.CNT0_FECCOR_key (i j k : Nat) : PCS.CNT0_FECCOR.key i j k = 8 * ((i / 16 + 1) * 16777216 + 262144 + i % 16 * 4096 + 12) + 0 + j * 0 + k * 0 := by first | rfl
theorem PCS.CNT1_FECUNC_key (i j k : Nat) : PCS.CNT1_FECUNC.key i j k = 8 * ((i / 16 + 1) * 16777216 + 262144 + i % 16 * 4096 + 16) + 0 + j * 0 + k * 0 := by first | rfl
theorem PCS.CNT2_BADHDR_key (i j k : Nat) : PCS.CNT2_BADHDR.key i j k = 8 * ((i / 16 + 1) * 16777216 + 262144 + i % 16 * 4096 + 20) + 0 + j * 0 + k * 0 := by first | rfl
theorem PCS.CNT2_LOCKCNT_key (i j k : Nat) : PCS.CNT2_LOCKCNT.key i j k = 8 * ((i / 16 + 1) * 16777216 + 262144 + i % 16 * 4096 + 20) + 16 + j * 0 + k * 0 := by first | rfl
theorem PCS.TRNCFG_TMAX_key (i j k : Nat) : PCS.TRNCFG_TMAX.key i j k = 8 * ((i / 16 + 1) * 16777216 + 262144 + i % 16 * 4096 + 24) + 0 + j * 0 + k * 0 := by first | rfl
theorem PCS.TRNCFG_PRECREQ_key (i j k : Nat) : PCS.TRNCFG_PRECREQ.key i j k = 8 * ((i / 16 + 1) * 16777216 + 262144 + i % 16 * 4096 + 24) + 16 + j * 0 + k * 0 := by first | rfl
theorem PCS.PRBS_GENPAT_key (i j k : Nat) : PCS.PRBS_GENPAT.key i j k = 8 * ((i / 16 + 1) * 16777216 + 262144 + i % 16 * 4096 + 32) + 0 + j * 0 + k * 0 := by first | rfl
theorem PCS.PRBS_GENEN_key (i j k : Nat) : PCS.PRBS_GENEN.key i j k = 8 * ((i / 16 + 1) * 16777216 + 262144 + i % 16 * 4096 + 32) + 3 + j * 0 + k * 0 := by first | rfl
theorem PCS.PRBS_CHKPAT_key (i j k : Nat) : PCS.PRBS_CHKPAT.key i j k = 8 * ((i / 16 + 1) * 16777216 + 262144 + i % 16 * 4096 + 32) + 4 + j * 0 + k * 0 := by first | rfl
theorem PCS.PRBS_CHKEN_key (i j k : Nat) : PCS.PRBS_CHKEN.key i j k = 8 * ((i / 16 + 1) * 16777216 + 262144 + i % 16 * 4096 + 32) + 7 + j * 0 + k * 0 := by first | rfl
theorem PCS.PRBS_INJ_key (i j k : Nat) : PCS.PRBS_INJ.key i j k = 8 * ((i / 16 + 1) * 16777216 + 262144 + i % 16 * 4096 + 32) + 8 + j * 0 + k * 0 := by first | rfl
theorem PCS.PRBS_CLR_key (i j k : Nat) : PCS.PRBS_CLR.key i j k = 8 * ((i / 16 + 1) * 16777216 + 262144 + i % 16 * 4096 + 32) + 9 + j * 0 + k * 0 := by first | rfl
theorem PCS.PRBSST_SYNC_key (i j k : Nat) : PCS.PRBSST_SYNC.key i j k = 8 * ((i / 16 + 1) * 16777216 + 262144 + i % 16 * 4096 + 36) + 0 + j * 0 + k * 0 := by first | rfl
theorem PCS.PRBSST_SAT_key (i j k : Nat) : PCS.PRBSST_SAT.key i j k = 8 * ((i / 16 + 1) * 16777216 + 262144 + i % 16 * 4096 + 36) + 1 + j * 0 + k * 0 := by first | rfl
theorem PCS.PRBSST_SYNCLOST_key (i j k : Nat) : PCS.PRBSST_SYNCLOST.key i j k = 8 * ((i / 16 + 1) * 16777216 + 262144 + i % 16 * 4096 + 36) + 2 + j * 0 + k * 0 := by first | rfl
theorem PCS.PERR_LO_key (i j k : Nat) : PCS.PERR_LO.key i j k = 8 * ((i / 16 + 1) * 16777216 + 262144 + i % 16 * 4096 + 40) + 0 + j * 0 + k * 0 := by first | rfl
theorem PCS.PERR_HI_key (i j k : Nat) : PCS.PERR_HI.key i j k = 8 * ((i / 16 + 1) * 16777216 + 262144 + i % 16 * 4096 + 44) + 0 + j * 0 + k * 0 := by first | rfl
theorem PCS.PBIT_LO_key (i j k : Nat) : PCS.PBIT_LO.key i j k = 8 * ((i / 16 + 1) * 16777216 + 262144 + i % 16 * 4096 + 48) + 0 + j * 0 + k * 0 := by first | rfl
theorem PCS.PBIT_HI_key (i j k : Nat) : PCS.PBIT_HI.key i j k = 8 * ((i / 16 + 1) * 16777216 + 262144 + i % 16 * 4096 + 52) + 0 + j * 0 + k * 0 := by first | rfl
theorem PCS.EYE_GO_key (i j k : Nat) : PCS.EYE_GO.key i j k = 8 * ((i / 16 + 1) * 16777216 + 262144 + i % 16 * 4096 + 64) + 0 + j * 0 + k * 0 := by first | rfl
theorem PCS.EYE_key (i j k : Nat) : PCS.EYE.key i j k = 8 * ((i / 16 + 1) * 16777216 + 262144 + i % 16 * 4096 + 64) + 1 + j * 0 + k * 0 := by first | rfl
theorem PCS.EYE_DWELL_key (i j k : Nat) : PCS.EYE_DWELL.key i j k = 8 * ((i / 16 + 1) * 16777216 + 262144 + i % 16 * 4096 + 64) + 4 + j * 0 + k * 0 := by first | rfl
theorem PCS.EYE_ENTRY_key (i j k : Nat) : PCS.EYE_ENTRY.key i j k = 8 * ((i / 16 + 1) * 16777216 + 262144 + i % 16 * 4096 + 64) + 16 + j * 0 + k * 0 := by first | rfl
theorem PCS.EYEBUF_BUF_LO_key (i j k : Nat) : PCS.EYEBUF_BUF_LO.key i j k = 8 * ((i / 16 + 1) * 16777216 + 262144 + i % 16 * 4096 + 68) + 0 + j * 0 + k * 0 := by first | rfl
theorem PCS.EYEBUF_BUF_HI_key (i j k : Nat) : PCS.EYEBUF_BUF_HI.key i j k = 8 * ((i / 16 + 1) * 16777216 + 262144 + i % 16 * 4096 + 72) + 0 + j * 0 + k * 0 := by first | rfl
theorem PCS.HIST_EN_key (i j k : Nat) : PCS.HIST_EN.key i j k = 8 * ((i / 16 + 1) * 16777216 + 262144 + i % 16 * 4096 + 80) + 0 + j * 0 + k * 0 := by first | rfl
theorem PCS.HIST_FRZ_key (i j k : Nat) : PCS.HIST_FRZ.key i j k = 8 * ((i / 16 + 1) * 16777216 + 262144 + i % 16 * 4096 + 80) + 1 + j * 0 + k * 0 := by first | rfl
theorem PCS.HIST_CLR_key (i j k : Nat) : PCS.HIST_CLR.key i j k = 8 * ((i / 16 + 1) * 16777216 + 262144 + i % 16 * 4096 + 80) + 2 + j * 0 + k * 0 := by first | rfl
theorem PCS.HBIN_key (i j k : Nat) : PCS.HBIN.key i j k = 8 * ((i / 16 + 1) * 16777216 + 262144 + i % 16 * 4096 + 128) + 0 + j * 32 + k * 0 := by first | rfl
theorem CFE.CTRL_EN_key (i j k : Nat) : CFE.CTRL_EN.key i j k = 8 * ((i / 16 + 1) * 16777216 + 327680 + i % 16 * 4096 + 0) + 0 + j * 0 + k * 0 := by first | rfl
theorem CFE.CTRL_CIST_key (i j k : Nat) : CFE.CTRL_CIST.key i j k = 8 * ((i / 16 + 1) * 16777216 + 327680 + i % 16 * 4096 + 0) + 1 + j * 0 + k * 0 := by first | rfl
theorem CFE.CTRL_SLICE_key (i j k : Nat) : CFE.CTRL_SLICE.key i j k = 8 * ((i / 16 + 1) * 16777216 + 327680 + i % 16 * 4096 + 0) + 7 + j * 0 + k * 0 := by first | rfl
theorem CFE.CTRL_DEFACC_key (i j k : Nat) : CFE.CTRL_DEFACC.key i j k = 8 * ((i / 16 + 1) * 16777216 + 327680 + i % 16 * 4096 + 0) + 16 + j * 0 + k * 0 := by first | rfl
theorem CFE.CTRL_SRC_key (i j k : Nat) : CFE.CTRL_SRC.key i j k = 8 * ((i / 16 + 1) * 16777216 + 327680 + i % 16 * 4096 + 0) + 17 + j * 0 + k * 0 := by first | rfl
theorem CFE.CTRL_FLINE_key (i j k : Nat) : CFE.CTRL_FLINE.key i j k = 8 * ((i / 16 + 1) * 16777216 + 327680 + i % 16 * 4096 + 0) + 18 + j * 0 + k * 0 := by first | rfl
theorem CFE.CTRL_FLTFCS_key (i j k : Nat) : CFE.CTRL_FLTFCS.key i j k = 8 * ((i / 16 + 1) * 16777216 + 327680 + i % 16 * 4096 + 0) + 21 + j * 0 + k * 0 := by first | rfl
theorem CFE.CTRL_FLTLOCK_key (i j k : Nat) : CFE.CTRL_FLTLOCK.key i j k = 8 * ((i / 16 + 1) * 16777216 + 327680 + i % 16 * 4096 + 0) + 22 + j * 0 + k * 0 := by first | rfl
theorem CFE.CTRL_KEEPERR_key (i j k : Nat) : CFE.CTRL_KEEPERR.key i j k = 8 * ((i / 16 + 1) * 16777216 + 327680 + i % 16 * 4096 + 0) + 23 + j * 0 + k * 0 := by first | rfl
theorem CFE.STAT_CFGERR_key (i j k : Nat) : CFE.STAT_CFGERR.key i j k = 8 * ((i / 16 + 1) * 16777216 + 327680 + i % 16 * 4096 + 4) + 0 + j * 0 + k * 0 := by first | rfl
theorem CFE.STAT_SHRDROP_key (i j k : Nat) : CFE.STAT_SHRDROP.key i j k = 8 * ((i / 16 + 1) * 16777216 + 327680 + i % 16 * 4096 + 4) + 1 + j * 0 + k * 0 := by first | rfl
theorem CFE.STAT_STGDROP_key (i j k : Nat) : CFE.STAT_STGDROP.key i j k = 8 * ((i / 16 + 1) * 16777216 + 327680 + i % 16 * 4096 + 4) + 2 + j * 0 + k * 0 := by first | rfl
theorem CFE.STAT_GAPPEND_key (i j k : Nat) : CFE.STAT_GAPPEND.key i j k = 8 * ((i / 16 + 1) * 16777216 + 327680 + i % 16 * 4096 + 4) + 3 + j * 0 + k * 0 := by first | rfl
theorem CFE.STAT_CNTCLR_key (i j k : Nat) : CFE.STAT_CNTCLR.key i j k = 8 * ((i / 16 + 1) * 16777216 + 327680 + i % 16 * 4096 + 4) + 8 + j * 0 + k * 0 := by first | rfl
theorem CFE.METER_DEPTH_key (i j k : Nat) : CFE.METER_DEPTH.key i j k = 8 * ((i / 16 + 1) * 16777216 + 327680 + i % 16 * 4096 + 8) + 0 + j * 0 + k * 0 := by first | rfl
theorem CFE.SEQ_key (i j k : Nat) : CFE.SEQ.key i j k = 8 * ((i / 16 + 1) * 16777216 + 327680 + i % 16 * 4096 + 12) + 0 + j * 0 + k * 0 := by first | rfl
theorem CFE.FRAMES_LO_key (i j k : Nat) : CFE.FRAMES_LO.key i j k = 8 * ((i / 16 + 1) * 16777216 + 327680 + i % 16 * 4096 + 16) + 0 + j * 0 + k * 0 := by first | rfl
theorem CFE.FRAMES_HI_key (i j k : Nat) : CFE.FRAMES_HI.key i j k = 8 * ((i / 16 + 1) * 16777216 + 327680 + i % 16 * 4096 + 20) + 0 + j * 0 + k * 0 := by first | rfl
theorem CFE.RECS_LO_key (i j k : Nat) : CFE.RECS_LO.key i j k = 8 * ((i / 16 + 1) * 16777216 + 327680 + i % 16 * 4096 + 24) + 0 + j * 0 + k * 0 := by first | rfl
theorem CFE.RECS_HI_key (i j k : Nat) : CFE.RECS_HI.key i j k = 8 * ((i / 16 + 1) * 16777216 + 327680 + i % 16 * 4096 + 28) + 0 + j * 0 + k * 0 := by first | rfl
theorem CFE.DROPS_LO_key (i j k : Nat) : CFE.DROPS_LO.key i j k = 8 * ((i / 16 + 1) * 16777216 + 327680 + i % 16 * 4096 + 32) + 0 + j * 0 + k * 0 := by first | rfl
theorem CFE.DROPS_HI_key (i j k : Nat) : CFE.DROPS_HI.key i j k = 8 * ((i / 16 + 1) * 16777216 + 327680 + i % 16 * 4096 + 36) + 0 + j * 0 + k * 0 := by first | rfl
theorem CFE.DBYTES_LO_key (i j k : Nat) : CFE.DBYTES_LO.key i j k = 8 * ((i / 16 + 1) * 16777216 + 327680 + i % 16 * 4096 + 40) + 0 + j * 0 + k * 0 := by first | rfl
theorem CFE.DBYTES_HI_key (i j k : Nat) : CFE.DBYTES_HI.key i j k = 8 * ((i / 16 + 1) * 16777216 + 327680 + i % 16 * 4096 + 44) + 0 + j * 0 + k * 0 := by first | rfl
theorem CFE.SV_VALUE_key (i j k : Nat) : CFE.SV_VALUE.key i j k = 8 * ((i / 16 + 1) * 16777216 + 327680 + i % 16 * 4096 + 2048) + 0 + j * 128 + k * 0 := by first | rfl
theorem CFE.SV_MASK_key (i j k : Nat) : CFE.SV_MASK.key i j k = 8 * ((i / 16 + 1) * 16777216 + 327680 + i % 16 * 4096 + 2052) + 0 + j * 128 + k * 0 := by first | rfl
theorem CFE.SV_OFFSET_key (i j k : Nat) : CFE.SV_OFFSET.key i j k = 8 * ((i / 16 + 1) * 16777216 + 327680 + i % 16 * 4096 + 2056) + 0 + j * 128 + k * 0 := by first | rfl
theorem CFE.SV_V_key (i j k : Nat) : CFE.SV_V.key i j k = 8 * ((i / 16 + 1) * 16777216 + 327680 + i % 16 * 4096 + 2056) + 7 + j * 128 + k * 0 := by first | rfl
theorem CFE.SV_LINK_key (i j k : Nat) : CFE.SV_LINK.key i j k = 8 * ((i / 16 + 1) * 16777216 + 327680 + i % 16 * 4096 + 2056) + 8 + j * 128 + k * 0 := by first | rfl
theorem CFE.SV_DISP_key (i j k : Nat) : CFE.SV_DISP.key i j k = 8 * ((i / 16 + 1) * 16777216 + 327680 + i % 16 * 4096 + 2056) + 9 + j * 128 + k * 0 := by first | rfl
theorem CFE.SV_FLOAT_key (i j k : Nat) : CFE.SV_FLOAT.key i j k = 8 * ((i / 16 + 1) * 16777216 + 327680 + i % 16 * 4096 + 2056) + 10 + j * 128 + k * 0 := by first | rfl
theorem CFE.SV_SLICEOV_key (i j k : Nat) : CFE.SV_SLICEOV.key i j k = 8 * ((i / 16 + 1) * 16777216 + 327680 + i % 16 * 4096 + 2056) + 16 + j * 128 + k * 0 := by first | rfl
theorem CFE.SV_TAG_key (i j k : Nat) : CFE.SV_TAG.key i j k = 8 * ((i / 16 + 1) * 16777216 + 327680 + i % 16 * 4096 + 2060) + 0 + j * 128 + k * 0 := by first | rfl
theorem FUR.CTRL_LOAD_key (i j k : Nat) : FUR.CTRL_LOAD.key i j k = 8 * ((i / 16 + 1) * 16777216 + 393216 + i % 16 * 4096 + 0) + 0 + j * 0 + k * 0 := by first | rfl
theorem FUR.CTRL_ARM_key (i j k : Nat) : FUR.CTRL_ARM.key i j k = 8 * ((i / 16 + 1) * 16777216 + 393216 + i % 16 * 4096 + 0) + 1 + j * 0 + k * 0 := by first | rfl
theorem FUR.CTRL_GO_key (i j k : Nat) : FUR.CTRL_GO.key i j k = 8 * ((i / 16 + 1) * 16777216 + 393216 + i % 16 * 4096 + 0) + 2 + j * 0 + k * 0 := by first | rfl
theorem FUR.CTRL_STOP_key (i j k : Nat) : FUR.CTRL_STOP.key i j k = 8 * ((i / 16 + 1) * 16777216 + 393216 + i % 16 * 4096 + 0) + 3 + j * 0 + k * 0 := by first | rfl
theorem FUR.CTRL_ABORT_key (i j k : Nat) : FUR.CTRL_ABORT.key i j k = 8 * ((i / 16 + 1) * 16777216 + 393216 + i % 16 * 4096 + 0) + 4 + j * 0 + k * 0 := by first | rfl
theorem FUR.CTRL_DISARM_key (i j k : Nat) : FUR.CTRL_DISARM.key i j k = 8 * ((i / 16 + 1) * 16777216 + 393216 + i % 16 * 4096 + 0) + 5 + j * 0 + k * 0 := by first | rfl
theorem FUR.CTRL_TIMED_key (i j k : Nat) : FUR.CTRL_TIMED.key i j k = 8 * ((i / 16 + 1) * 16777216 + 393216 + i % 16 * 4096 + 0) + 8 + j * 0 + k * 0 := by first | rfl
theorem FUR.CTRL_OWN_key (i j k : Nat) : FUR.CTRL_OWN.key i j k = 8 * ((i / 16 + 1) * 16777216 + 393216 + i % 16 * 4096 + 0) + 9 + j * 0 + k * 0 := by first | rfl
theorem FUR.STAT_STATE_key (i j k : Nat) : FUR.STAT_STATE.key i j k = 8 * ((i / 16 + 1) * 16777216 + 393216 + i % 16 * 4096 + 4) + 0 + j * 0 + k * 0 := by first | rfl
theorem FUR.STAT_ERR_key (i j k : Nat) : FUR.STAT_ERR.key i j k = 8 * ((i / 16 + 1) * 16777216 + 393216 + i % 16 * 4096 + 4) + 3 + j * 0 + k * 0 := by first | rfl
theorem FUR.STAT_UNDERRUN_key (i j k : Nat) : FUR.STAT_UNDERRUN.key i j k = 8 * ((i / 16 + 1) * 16777216 + 393216 + i % 16 * 4096 + 4) + 7 + j * 0 + k * 0 := by first | rfl
theorem FUR.STAT_CMDERR_key (i j k : Nat) : FUR.STAT_CMDERR.key i j k = 8 * ((i / 16 + 1) * 16777216 + 393216 + i % 16 * 4096 + 4) + 8 + j * 0 + k * 0 := by first | rfl
theorem FUR.STAT_INJNA_key (i j k : Nat) : FUR.STAT_INJNA.key i j k = 8 * ((i / 16 + 1) * 16777216 + 393216 + i % 16 * 4096 + 4) + 9 + j * 0 + k * 0 := by first | rfl
theorem FUR.STAT_WFTO_key (i j k : Nat) : FUR.STAT_WFTO.key i j k = 8 * ((i / 16 + 1) * 16777216 + 393216 + i % 16 * 4096 + 4) + 10 + j * 0 + k * 0 := by first | rfl
theorem FUR.PF_STARTTH_key (i j k : Nat) : FUR.PF_STARTTH.key i j k = 8 * ((i / 16 + 1) * 16777216 + 393216 + i % 16 * 4096 + 8) + 0 + j * 0 + k * 0 := by first | rfl
theorem FUR.PC_key (i j k : Nat) : FUR.PC.key i j k = 8 * ((i / 16 + 1) * 16777216 + 393216 + i % 16 * 4096 + 12) + 0 + j * 0 + k * 0 := by first | rfl
theorem FUR.PSRC_LO_key (i j k : Nat) : FUR.PSRC_LO.key i j k = 8 * ((i / 16 + 1) * 16777216 + 393216 + i % 16 * 4096 + 16) + 0 + j * 0 + k * 0 := by first | rfl
theorem FUR.PSRC_HI_key (i j k : Nat) : FUR.PSRC_HI.key i j k = 8 * ((i / 16 + 1) * 16777216 + 393216 + i % 16 * 4096 + 20) + 0 + j * 0 + k * 0 := by first | rfl
theorem FUR.PLEN_key (i j k : Nat) : FUR.PLEN.key i j k = 8 * ((i / 16 + 1) * 16777216 + 393216 + i % 16 * 4096 + 24) + 0 + j * 0 + k * 0 := by first | rfl
theorem FUR.LT_FRAC_key (i j k : Nat) : FUR.LT_FRAC.key i j k = 8 * ((i / 16 + 1) * 16777216 + 393216 + i % 16 * 4096 + 32) + 0 + j * 0 + k * 0 := by first | rfl
theorem FUR.LT_NS_key (i j k : Nat) : FUR.LT_NS.key i j k = 8 * ((i / 16 + 1) * 16777216 + 393216 + i % 16 * 4096 + 36) + 0 + j * 0 + k * 0 := by first | rfl
theorem FUR.LT_SEC_LO_key (i j k : Nat) : FUR.LT_SEC_LO.key i j k = 8 * ((i / 16 + 1) * 16777216 + 393216 + i % 16 * 4096 + 40) + 0 + j * 0 + k * 0 := by first | rfl
theorem FUR.LT_SEC_HI_key (i j k : Nat) : FUR.LT_SEC_HI.key i j k = 8 * ((i / 16 + 1) * 16777216 + 393216 + i % 16 * 4096 + 44) + 0 + j * 0 + k * 0 := by first | rfl
theorem FUR.FRAMES_LO_key (i j k : Nat) : FUR.FRAMES_LO.key i j k = 8 * ((i / 16 + 1) * 16777216 + 393216 + i % 16 * 4096 + 48) + 0 + j * 0 + k * 0 := by first | rfl
theorem FUR.FRAMES_HI_key (i j k : Nat) : FUR.FRAMES_HI.key i j k = 8 * ((i / 16 + 1) * 16777216 + 393216 + i % 16 * 4096 + 52) + 0 + j * 0 + k * 0 := by first | rfl
theorem FUR.BYTES_LO_key (i j k : Nat) : FUR.BYTES_LO.key i j k = 8 * ((i / 16 + 1) * 16777216 + 393216 + i % 16 * 4096 + 56) + 0 + j * 0 + k * 0 := by first | rfl
theorem FUR.BYTES_HI_key (i j k : Nat) : FUR.BYTES_HI.key i j k = 8 * ((i / 16 + 1) * 16777216 + 393216 + i % 16 * 4096 + 60) + 0 + j * 0 + k * 0 := by first | rfl
theorem FUR.EVCNT_UNDR_key (i j k : Nat) : FUR.EVCNT_UNDR.key i j k = 8 * ((i / 16 + 1) * 16777216 + 393216 + i % 16 * 4096 + 64) + 0 + j * 0 + k * 0 := by first | rfl
theorem FUR.EVCNT_BROKEN_key (i j k : Nat) : FUR.EVCNT_BROKEN.key i j k = 8 * ((i / 16 + 1) * 16777216 + 393216 + i % 16 * 4096 + 64) + 16 + j * 0 + k * 0 := by first | rfl
theorem FUR.SKIP_INSSKIP_key (i j k : Nat) : FUR.SKIP_INSSKIP.key i j k = 8 * ((i / 16 + 1) * 16777216 + 393216 + i % 16 * 4096 + 68) + 0 + j * 0 + k * 0 := by first | rfl
theorem FUR.SKIP_INJSKIP_key (i j k : Nat) : FUR.SKIP_INJSKIP.key i j k = 8 * ((i / 16 + 1) * 16777216 + 393216 + i % 16 * 4096 + 68) + 16 + j * 0 + k * 0 := by first | rfl
theorem FUR.LC_key (i j k : Nat) : FUR.LC.key i j k = 8 * ((i / 16 + 1) * 16777216 + 393216 + i % 16 * 4096 + 80) + 0 + j * 32 + k * 0 := by first | rfl
theorem FUR.CINIT_LO_key (i j k : Nat) : FUR.CINIT_LO.key i j k = 8 * ((i / 16 + 1) * 16777216 + 393216 + i % 16 * 4096 + 96) + 0 + j * 64 + k * 0 := by first | rfl
theorem FUR.CINIT_HI_key (i j k : Nat) : FUR.CINIT_HI.key i j k = 8 * ((i / 16 + 1) * 16777216 + 393216 + i % 16 * 4096 + 100) + 0 + j * 64 + k * 0 := by first | rfl
theorem FUR.DESC_BASE_LO_key (i j k : Nat) : FUR.DESC_BASE_LO.key i j k = 8 * ((i / 16 + 1) * 16777216 + 393216 + i % 16 * 4096 + 256) + 0 + j * 128 + k * 0 := by first | rfl
theorem FUR.DESC_BASE_HI_key (i j k : Nat) : FUR.DESC_BASE_HI.key i j k = 8 * ((i / 16 + 1) * 16777216 + 393216 + i % 16 * 4096 + 260) + 0 + j * 128 + k * 0 := by first | rfl
theorem FUR.DESC_KIND_key (i j k : Nat) : FUR.DESC_KIND.key i j k = 8 * ((i / 16 + 1) * 16777216 + 393216 + i % 16 * 4096 + 260) + 16 + j * 128 + k * 0 := by first | rfl
theorem FUR.DESC_LEN_LO_key (i j k : Nat) : FUR.DESC_LEN_LO.key i j k = 8 * ((i / 16 + 1) * 16777216 + 393216 + i % 16 * 4096 + 264) + 0 + j * 128 + k * 0 := by first | rfl
theorem FUR.DESC_LEN_HI_key (i j k : Nat) : FUR.DESC_LEN_HI.key i j k = 8 * ((i / 16 + 1) * 16777216 + 393216 + i % 16 * 4096 + 268) + 0 + j * 128 + k * 0 := by first | rfl
theorem QDR.CFG_PRESENT_key (i j k : Nat) : QDR.CFG_PRESENT.key i j k = 8 * ((i / 1 + 1) * 16777216 + 458752 + i % 1 * 65536 + 0) + 0 + j * 0 + k * 0 := by first | rfl
theorem QDR.CFG_FREQ_key (i j k : Nat) : QDR.CFG_FREQ.key i j k = 8 * ((i / 1 + 1) * 16777216 + 458752 + i % 1 * 65536 + 0) + 1 + j * 0 + k * 0 := by first | rfl
theorem QDR.CFG_RL_key (i j k : Nat) : QDR.CFG_RL.key i j k = 8 * ((i / 1 + 1) * 16777216 + 458752 + i % 1 * 65536 + 0) + 3 + j * 0 + k * 0 := by first | rfl
theorem QDR.CFG_WL_key (i j k : Nat) : QDR.CFG_WL.key i j k = 8 * ((i / 1 + 1) * 16777216 + 458752 + i % 1 * 65536 + 0) + 7 + j * 0 + k * 0 := by first | rfl
theorem QDR.CFG_DINV_key (i j k : Nat) : QDR.CFG_DINV.key i j k = 8 * ((i / 1 + 1) * 16777216 + 458752 + i % 1 * 65536 + 0) + 11 + j * 0 + k * 0 := by first | rfl
theorem QDR.CFG_ODT_key (i j k : Nat) : QDR.CFG_ODT.key i j k = 8 * ((i / 1 + 1) * 16777216 + 458752 + i % 1 * 65536 + 0) + 12 + j * 0 + k * 0 := by first | rfl
theorem QDR.STAT_STATE_key (i j k : Nat) : QDR.STAT_STATE.key i j k = 8 * ((i / 1 + 1) * 16777216 + 458752 + i % 1 * 65536 + 4) + 0 + j * 0 + k * 0 := by first | rfl
theorem QDR.STAT_FAIL_key (i j k : Nat) : QDR.STAT_FAIL.key i j k = 8 * ((i / 1 + 1) * 16777216 + 458752 + i % 1 * 65536 + 4) + 3 + j * 0 + k * 0 := by first | rfl
theorem QDR.SLOTA_key (i j k : Nat) : QDR.SLOTA.key i j k = 8 * ((i / 1 + 1) * 16777216 + 458752 + i % 1 * 65536 + 8) + 0 + j * 0 + k * 0 := by first | rfl
theorem QDR.SLOTB_key (i j k : Nat) : QDR.SLOTB.key i j k = 8 * ((i / 1 + 1) * 16777216 + 458752 + i % 1 * 65536 + 12) + 0 + j * 0 + k * 0 := by first | rfl
theorem QDR.ACCA_LO_key (i j k : Nat) : QDR.ACCA_LO.key i j k = 8 * ((i / 1 + 1) * 16777216 + 458752 + i % 1 * 65536 + 16) + 0 + j * 0 + k * 0 := by first | rfl
theorem QDR.ACCA_HI_key (i j k : Nat) : QDR.ACCA_HI.key i j k = 8 * ((i / 1 + 1) * 16777216 + 458752 + i % 1 * 65536 + 20) + 0 + j * 0 + k * 0 := by first | rfl
theorem QDR.ACCB_LO_key (i j k : Nat) : QDR.ACCB_LO.key i j k = 8 * ((i / 1 + 1) * 16777216 + 458752 + i % 1 * 65536 + 24) + 0 + j * 0 + k * 0 := by first | rfl
theorem QDR.ACCB_HI_key (i j k : Nat) : QDR.ACCB_HI.key i j k = 8 * ((i / 1 + 1) * 16777216 + 458752 + i % 1 * 65536 + 28) + 0 + j * 0 + k * 0 := by first | rfl
theorem QDR.STFUR_key (i j k : Nat) : QDR.STFUR.key i j k = 8 * ((i / 1 + 1) * 16777216 + 458752 + i % 1 * 65536 + 32) + 0 + j * 0 + k * 0 := by first | rfl
theorem QDR.STFAB_key (i j k : Nat) : QDR.STFAB.key i j k = 8 * ((i / 1 + 1) * 16777216 + 458752 + i % 1 * 65536 + 36) + 0 + j * 0 + k * 0 := by first | rfl
theorem QDR.STCNL_key (i j k : Nat) : QDR.STCNL.key i j k = 8 * ((i / 1 + 1) * 16777216 + 458752 + i % 1 * 65536 + 40) + 0 + j * 0 + k * 0 := by first | rfl
theorem QDR.TURN_key (i j k : Nat) : QDR.TURN.key i j k = 8 * ((i / 1 + 1) * 16777216 + 458752 + i % 1 * 65536 + 44) + 0 + j * 0 + k * 0 := by first | rfl
theorem QDR.FRZ_PORT_key (i j k : Nat) : QDR.FRZ_PORT.key i j k = 8 * ((i / 1 + 1) * 16777216 + 458752 + i % 1 * 65536 + 48) + 0 + j * 0 + k * 0 := by first | rfl
theorem QDR.FRZ_OP_key (i j k : Nat) : QDR.FRZ_OP.key i j k = 8 * ((i / 1 + 1) * 16777216 + 458752 + i % 1 * 65536 + 48) + 1 + j * 0 + k * 0 := by first | rfl
theorem QDR.FRZ_CLIENT_key (i j k : Nat) : QDR.FRZ_CLIENT.key i j k = 8 * ((i / 1 + 1) * 16777216 + 458752 + i % 1 * 65536 + 48) + 2 + j * 0 + k * 0 := by first | rfl
theorem QDR.FRZ_ADDR_key (i j k : Nat) : QDR.FRZ_ADDR.key i j k = 8 * ((i / 1 + 1) * 16777216 + 458752 + i % 1 * 65536 + 48) + 4 + j * 0 + k * 0 := by first | rfl
theorem QDR.FRZ_VALID_key (i j k : Nat) : QDR.FRZ_VALID.key i j k = 8 * ((i / 1 + 1) * 16777216 + 458752 + i % 1 * 65536 + 48) + 31 + j * 0 + k * 0 := by first | rfl
theorem QDR.FRZ_TS_FRAC_key (i j k : Nat) : QDR.FRZ_TS_FRAC.key i j k = 8 * ((i / 1 + 1) * 16777216 + 458752 + i % 1 * 65536 + 52) + 0 + j * 0 + k * 0 := by first | rfl
theorem QDR.FRZ_TS_NS_key (i j k : Nat) : QDR.FRZ_TS_NS.key i j k = 8 * ((i / 1 + 1) * 16777216 + 458752 + i % 1 * 65536 + 56) + 0 + j * 0 + k * 0 := by first | rfl
theorem QDR.FRZ_TS_SECLO_key (i j k : Nat) : QDR.FRZ_TS_SECLO.key i j k = 8 * ((i / 1 + 1) * 16777216 + 458752 + i % 1 * 65536 + 60) + 0 + j * 0 + k * 0 := by first | rfl
theorem QDR.FRZ_TS_SECHI_key (i j k : Nat) : QDR.FRZ_TS_SECHI.key i j k = 8 * ((i / 1 + 1) * 16777216 + 458752 + i % 1 * 65536 + 64) + 0 + j * 0 + k * 0 := by first | rfl
theorem QDR.POISCNT_key (i j k : Nat) : QDR.POISCNT.key i j k = 8 * ((i / 1 + 1) * 16777216 + 458752 + i % 1 * 65536 + 68) + 0 + j * 0 + k * 0 := by first | rfl
theorem QDR.TRES_RXEYEA_key (i j k : Nat) : QDR.TRES_RXEYEA.key i j k = 8 * ((i / 1 + 1) * 16777216 + 458752 + i % 1 * 65536 + 80) + 0 + j * 0 + k * 0 := by first | rfl
theorem QDR.TRES_TXEYEA_key (i j k : Nat) : QDR.TRES_TXEYEA.key i j k = 8 * ((i / 1 + 1) * 16777216 + 458752 + i % 1 * 65536 + 80) + 8 + j * 0 + k * 0 := by first | rfl
theorem QDR.TRES_RXEYEB_key (i j k : Nat) : QDR.TRES_RXEYEB.key i j k = 8 * ((i / 1 + 1) * 16777216 + 458752 + i % 1 * 65536 + 80) + 16 + j * 0 + k * 0 := by first | rfl
theorem QDR.TRES_TXEYEB_key (i j k : Nat) : QDR.TRES_TXEYEB.key i j k = 8 * ((i / 1 + 1) * 16777216 + 458752 + i % 1 * 65536 + 80) + 24 + j * 0 + k * 0 := by first | rfl
theorem RSV.CTRL_LOCK_key (i j k : Nat) : RSV.CTRL_LOCK.key i j k = 8 * ((i / 4 + 1) * 16777216 + 524288 + i % 4 * 16384 + 0) + 0 + j * 0 + k * 0 := by first | rfl
theorem RSV.STAT_VIOL_key (i j k : Nat) : RSV.STAT_VIOL.key i j k = 8 * ((i / 4 + 1) * 16777216 + 524288 + i % 4 * 16384 + 4) + 0 + j * 0 + k * 0 := by first | rfl
theorem RSV.STAT_WLOST_key (i j k : Nat) : RSV.STAT_WLOST.key i j k = 8 * ((i / 4 + 1) * 16777216 + 524288 + i % 4 * 16384 + 4) + 1 + j * 0 + k * 0 := by first | rfl
theorem RSV.VIOLCNT_key (i j k : Nat) : RSV.VIOLCNT.key i j k = 8 * ((i / 4 + 1) * 16777216 + 524288 + i % 4 * 16384 + 8) + 0 + j * 0 + k * 0 := by first | rfl
theorem RSV.ELOG0_OFS_key (i j k : Nat) : RSV.ELOG0_OFS.key i j k = 8 * ((i / 4 + 1) * 16777216 + 524288 + i % 4 * 16384 + 16) + 0 + j * 0 + k * 0 := by first | rfl
theorem RSV.ELOG0_KIND_key (i j k : Nat) : RSV.ELOG0_KIND.key i j k = 8 * ((i / 4 + 1) * 16777216 + 524288 + i % 4 * 16384 + 16) + 22 + j * 0 + k * 0 := by first | rfl
theorem RSV.ELOG0_PORT_key (i j k : Nat) : RSV.ELOG0_PORT.key i j k = 8 * ((i / 4 + 1) * 16777216 + 524288 + i % 4 * 16384 + 16) + 24 + j * 0 + k * 0 := by first | rfl
theorem RSV.ELOG0_VALID_key (i j k : Nat) : RSV.ELOG0_VALID.key i j k = 8 * ((i / 4 + 1) * 16777216 + 524288 + i % 4 * 16384 + 16) + 31 + j * 0 + k * 0 := by first | rfl
theorem RSV.ELOG1_SRC_key (i j k : Nat) : RSV.ELOG1_SRC.key i j k = 8 * ((i / 4 + 1) * 16777216 + 524288 + i % 4 * 16384 + 20) + 0 + j * 0 + k * 0 := by first | rfl
theorem RSV.PCFG_ROT_key (i j k : Nat) : RSV.PCFG_ROT.key i j k = 8 * ((i / 4 + 1) * 16777216 + 524288 + i % 4 * 16384 + 32) + 0 + j * 32 + k * 0 := by first | rfl
theorem RSV.STALL_key (i j k : Nat) : RSV.STALL.key i j k = 8 * ((i / 4 + 1) * 16777216 + 524288 + i % 4 * 16384 + 64) + 0 + j * 32 + k * 0 := by first | rfl
theorem RSV.PCNT_WLOST_key (i j k : Nat) : RSV.PCNT_WLOST.key i j k = 8 * ((i / 4 + 1) * 16777216 + 524288 + i % 4 * 16384 + 96) + 0 + j * 32 + k * 0 := by first | rfl
theorem RSV.PCNT_SCFAIL_key (i j k : Nat) : RSV.PCNT_SCFAIL.key i j k = 8 * ((i / 4 + 1) * 16777216 + 524288 + i % 4 * 16384 + 96) + 16 + j * 32 + k * 0 := by first | rfl
theorem RSV.RGN_BASE_key (i j k : Nat) : RSV.RGN_BASE.key i j k = 8 * ((i / 4 + 1) * 16777216 + 524288 + i % 4 * 16384 + 1024) + 8 + j * 2048 + k * 128 := by first | rfl
theorem RSV.RGN_LIMIT_key (i j k : Nat) : RSV.RGN_LIMIT.key i j k = 8 * ((i / 4 + 1) * 16777216 + 524288 + i % 4 * 16384 + 1028) + 8 + j * 2048 + k * 128 := by first | rfl
theorem RSV.RGN_V_key (i j k : Nat) : RSV.RGN_V.key i j k = 8 * ((i / 4 + 1) * 16777216 + 524288 + i % 4 * 16384 + 1032) + 0 + j * 2048 + k * 128 := by first | rfl
theorem RSV.RGN_R_key (i j k : Nat) : RSV.RGN_R.key i j k = 8 * ((i / 4 + 1) * 16777216 + 524288 + i % 4 * 16384 + 1032) + 1 + j * 2048 + k * 128 := by first | rfl
theorem RSV.RGN_W_key (i j k : Nat) : RSV.RGN_W.key i j k = 8 * ((i / 4 + 1) * 16777216 + 524288 + i % 4 * 16384 + 1032) + 2 + j * 2048 + k * 128 := by first | rfl
theorem RSV.RGN_XN_key (i j k : Nat) : RSV.RGN_XN.key i j k = 8 * ((i / 4 + 1) * 16777216 + 524288 + i % 4 * 16384 + 1032) + 3 + j * 2048 + k * 128 := by first | rfl
theorem RIL.CSTAT_RUN_key (i j k : Nat) : RIL.CSTAT_RUN.key i j k = 8 * ((i / 4 + 1) * 16777216 + 589824 + i % 4 * 16384 + 0) + 0 + j * 0 + k * 0 := by first | rfl
theorem RIL.CSTAT_FAULT_key (i j k : Nat) : RIL.CSTAT_FAULT.key i j k = 8 * ((i / 4 + 1) * 16777216 + 589824 + i % 4 * 16384 + 0) + 8 + j * 0 + k * 0 := by first | rfl
theorem RIL.CSTAT_CLKOFF_key (i j k : Nat) : RIL.CSTAT_CLKOFF.key i j k = 8 * ((i / 4 + 1) * 16777216 + 589824 + i % 4 * 16384 + 0) + 16 + j * 0 + k * 0 := by first | rfl
theorem RIL.PLSRC_OFFSET_key (i j k : Nat) : RIL.PLSRC_OFFSET.key i j k = 8 * ((i / 4 + 1) * 16777216 + 589824 + i % 4 * 16384 + 16) + 3 + j * 0 + k * 0 := by first | rfl
theorem RIL.PLSRC_RSV_key (i j k : Nat) : RIL.PLSRC_RSV.key i j k = 8 * ((i / 4 + 1) * 16777216 + 589824 + i % 4 * 16384 + 16) + 22 + j * 0 + k * 0 := by first | rfl
theorem RIL.PLCMD_GO_key (i j k : Nat) : RIL.PLCMD_GO.key i j k = 8 * ((i / 4 + 1) * 16777216 + 589824 + i % 4 * 16384 + 20) + 0 + j * 0 + k * 0 := by first | rfl
theorem RIL.PLCMD_ENG_key (i j k : Nat) : RIL.PLCMD_ENG.key i j k = 8 * ((i / 4 + 1) * 16777216 + 589824 + i % 4 * 16384 + 20) + 1 + j * 0 + k * 0 := by first | rfl
theorem RIL.PLCMD_COUNT_key (i j k : Nat) : RIL.PLCMD_COUNT.key i j k = 8 * ((i / 4 + 1) * 16777216 + 589824 + i % 4 * 16384 + 20) + 8 + j * 0 + k * 0 := by first | rfl
theorem RIL.PLCMD_DEST_key (i j k : Nat) : RIL.PLCMD_DEST.key i j k = 8 * ((i / 4 + 1) * 16777216 + 589824 + i % 4 * 16384 + 20) + 16 + j * 0 + k * 0 := by first | rfl
theorem RIL.PLCMD_BUSY_key (i j k : Nat) : RIL.PLCMD_BUSY.key i j k = 8 * ((i / 4 + 1) * 16777216 + 589824 + i % 4 * 16384 + 20) + 24 + j * 0 + k * 0 := by first | rfl
theorem RIL.PLCMD_PLERR_key (i j k : Nat) : RIL.PLCMD_PLERR.key i j k = 8 * ((i / 4 + 1) * 16777216 + 589824 + i % 4 * 16384 + 20) + 25 + j * 0 + k * 0 := by first | rfl
theorem RIL.ECTRL_START_key (i j k : Nat) : RIL.ECTRL_START.key i j k = 8 * ((i / 4 + 1) * 16777216 + 589824 + i % 4 * 16384 + 256) + 0 + j * 1024 + k * 0 := by first | rfl
theorem RIL.ECTRL_ENR_key (i j k : Nat) : RIL.ECTRL_ENR.key i j k = 8 * ((i / 4 + 1) * 16777216 + 589824 + i % 4 * 16384 + 256) + 1 + j * 1024 + k * 0 := by first | rfl
theorem RIL.ECTRL_ENTRY_key (i j k : Nat) : RIL.ECTRL_ENTRY.key i j k = 8 * ((i / 4 + 1) * 16777216 + 589824 + i % 4 * 16384 + 256) + 16 + j * 1024 + k * 0 := by first | rfl
theorem RIL.ESTAT_STATE_key (i j k : Nat) : RIL.ESTAT_STATE.key i j k = 8 * ((i / 4 + 1) * 16777216 + 589824 + i % 4 * 16384 + 260) + 0 + j * 1024 + k * 0 := by first | rfl
theorem RIL.ESTAT_CMDERR_key (i j k : Nat) : RIL.ESTAT_CMDERR.key i j k = 8 * ((i / 4 + 1) * 16777216 + 589824 + i % 4 * 16384 + 260) + 3 + j * 1024 + k * 0 := by first | rfl
theorem RIL.ESTAT_CAUSE_key (i j k : Nat) : RIL.ESTAT_CAUSE.key i j k = 8 * ((i / 4 + 1) * 16777216 + 589824 + i % 4 * 16384 + 260) + 4 + j * 1024 + k * 0 := by first | rfl
theorem RIL.ESTAT_WEDGED_key (i j k : Nat) : RIL.ESTAT_WEDGED.key i j k = 8 * ((i / 4 + 1) * 16777216 + 589824 + i % 4 * 16384 + 260) + 8 + j * 1024 + k * 0 := by first | rfl
theorem RIL.EPC_key (i j k : Nat) : RIL.EPC.key i j k = 8 * ((i / 4 + 1) * 16777216 + 589824 + i % 4 * 16384 + 264) + 0 + j * 1024 + k * 0 := by first | rfl
theorem RIL.EST_key (i j k : Nat) : RIL.EST.key i j k = 8 * ((i / 4 + 1) * 16777216 + 589824 + i % 4 * 16384 + 268) + 0 + j * 1024 + k * 0 := by first | rfl
theorem RIL.EBE_key (i j k : Nat) : RIL.EBE.key i j k = 8 * ((i / 4 + 1) * 16777216 + 589824 + i % 4 * 16384 + 272) + 0 + j * 1024 + k * 0 := by first | rfl
theorem RIL.WDRL_RELOAD_key (i j k : Nat) : RIL.WDRL_RELOAD.key i j k = 8 * ((i / 4 + 1) * 16777216 + 589824 + i % 4 * 16384 + 276) + 0 + j * 1024 + k * 0 := by first | rfl
theorem RIL.WDRL_WDEN_key (i j k : Nat) : RIL.WDRL_WDEN.key i j k = 8 * ((i / 4 + 1) * 16777216 + 589824 + i % 4 * 16384 + 276) + 31 + j * 1024 + k * 0 := by first | rfl
theorem RIL.WDCNT_key (i j k : Nat) : RIL.WDCNT.key i j k = 8 * ((i / 4 + 1) * 16777216 + 589824 + i % 4 * 16384 + 280) + 0 + j * 1024 + k * 0 := by first | rfl
theorem RIL.ECNT_XYSTALL_key (i j k : Nat) : RIL.ECNT_XYSTALL.key i j k = 8 * ((i / 4 + 1) * 16777216 + 589824 + i % 4 * 16384 + 284) + 0 + j * 1024 + k * 0 := by first | rfl
theorem RIL.CYC_LO_key (i j k : Nat) : RIL.CYC_LO.key i j k = 8 * ((i / 4 + 1) * 16777216 + 589824 + i % 4 * 16384 + 288) + 0 + j * 1024 + k * 0 := by first | rfl
theorem RIL.CYC_HI_key (i j k : Nat) : RIL.CYC_HI.key i j k = 8 * ((i / 4 + 1) * 16777216 + 589824 + i % 4 * 16384 + 292) + 0 + j * 1024 + k * 0 := by first | rfl
theorem RIL.FADDR_LO_key (i j k : Nat) : RIL.FADDR_LO.key i j k = 8 * ((i / 4 + 1) * 16777216 + 589824 + i % 4 * 16384 + 296) + 0 + j * 1024 + k * 0 := by first | rfl
theorem RIL.FADDR_HI_key (i j k : Nat) : RIL.FADDR_HI.key i j k = 8 * ((i / 4 + 1) * 16777216 + 589824 + i % 4 * 16384 + 300) + 0 + j * 1024 + k * 0 := by first | rfl
theorem FCC.STAT_PHASE_key (i j k : Nat) : FCC.STAT_PHASE.key i j k = 8 * ((i / 1 + 1) * 16777216 + 655360 + i % 1 * 65536 + 0) + 0 + j * 0 + k * 0 := by first | rfl
theorem FCC.STAT_IMGERR_key (i j k : Nat) : FCC.STAT_IMGERR.key i j k = 8 * ((i / 1 + 1) * 16777216 + 655360 + i % 1 * 65536 + 0) + 4 + j * 0 + k * 0 := by first | rfl
theorem FCC.STAT_SLOT_key (i j k : Nat) : FCC.STAT_SLOT.key i j k = 8 * ((i / 1 + 1) * 16777216 + 655360 + i % 1 * 65536 + 0) + 12 + j * 0 + k * 0 := by first | rfl
theorem FCC.STAT_SETDEF_key (i j k : Nat) : FCC.STAT_SETDEF.key i j k = 8 * ((i / 1 + 1) * 16777216 + 655360 + i % 1 * 65536 + 0) + 13 + j * 0 + k * 0 := by first | rfl
theorem FCC.STAT_LOCKLATE_key (i j k : Nat) : FCC.STAT_LOCKLATE.key i j k = 8 * ((i / 1 + 1) * 16777216 + 655360 + i % 1 * 65536 + 0) + 14 + j * 0 + k * 0 := by first | rfl
theorem FCC.STAT_PCMDERR_key (i j k : Nat) : FCC.STAT_PCMDERR.key i j k = 8 * ((i / 1 + 1) * 16777216 + 655360 + i % 1 * 65536 + 0) + 15 + j * 0 + k * 0 := by first | rfl
theorem FCC.STEP_DONE_key (i j k : Nat) : FCC.STEP_DONE.key i j k = 8 * ((i / 1 + 1) * 16777216 + 655360 + i % 1 * 65536 + 4) + 0 + j * 0 + k * 0 := by first | rfl
theorem FCC.STEP_ORDER_key (i j k : Nat) : FCC.STEP_ORDER.key i j k = 8 * ((i / 1 + 1) * 16777216 + 655360 + i % 1 * 65536 + 4) + 8 + j * 0 + k * 0 := by first | rfl
theorem FCC.IMGVER_key (i j k : Nat) : FCC.IMGVER.key i j k = 8 * ((i / 1 + 1) * 16777216 + 655360 + i % 1 * 65536 + 8) + 0 + j * 0 + k * 0 := by first | rfl
theorem FCC.SCHEMA_key (i j k : Nat) : FCC.SCHEMA.key i j k = 8 * ((i / 1 + 1) * 16777216 + 655360 + i % 1 * 65536 + 12) + 0 + j * 0 + k * 0 := by first | rfl
theorem FCC.SCHEMA_SETSCHEMA_key (i j k : Nat) : FCC.SCHEMA_SETSCHEMA.key i j k = 8 * ((i / 1 + 1) * 16777216 + 655360 + i % 1 * 65536 + 12) + 16 + j * 0 + k * 0 := by first | rfl
theorem FCC.SETCNT_APPLIED_key (i j k : Nat) : FCC.SETCNT_APPLIED.key i j k = 8 * ((i / 1 + 1) * 16777216 + 655360 + i % 1 * 65536 + 16) + 0 + j * 0 + k * 0 := by first | rfl
theorem FCC.SETCNT_IGNORED_key (i j k : Nat) : FCC.SETCNT_IGNORED.key i j k = 8 * ((i / 1 + 1) * 16777216 + 655360 + i % 1 * 65536 + 16) + 16 + j * 0 + k * 0 := by first | rfl
theorem FCC.LOADT_LOADUS_key (i j k : Nat) : FCC.LOADT_LOADUS.key i j k = 8 * ((i / 1 + 1) * 16777216 + 655360 + i % 1 * 65536 + 20) + 0 + j * 0 + k * 0 := by first | rfl
theorem FCC.PCMD_GO_key (i j k : Nat) : FCC.PCMD_GO.key i j k = 8 * ((i / 1 + 1) * 16777216 + 655360 + i % 1 * 65536 + 32) + 0 + j * 0 + k * 0 := by first | rfl
theorem FCC.PCMD_PARCEL_key (i j k : Nat) : FCC.PCMD_PARCEL.key i j k = 8 * ((i / 1 + 1) * 16777216 + 655360 + i % 1 * 65536 + 32) + 1 + j * 0 + k * 0 := by first | rfl
theorem FCC.PCMD_SRC_key (i j k : Nat) : FCC.PCMD_SRC.key i j k = 8 * ((i / 1 + 1) * 16777216 + 655360 + i % 1 * 65536 + 32) + 5 + j * 0 + k * 0 := by first | rfl
theorem FCC.PCMD_ENTRY_key (i j k : Nat) : FCC.PCMD_ENTRY.key i j k = 8 * ((i / 1 + 1) * 16777216 + 655360 + i % 1 * 65536 + 32) + 16 + j * 0 + k * 0 := by first | rfl
theorem FCC.PSTAT_STATE_key (i j k : Nat) : FCC.PSTAT_STATE.key i j k = 8 * ((i / 1 + 1) * 16777216 + 655360 + i % 1 * 65536 + 64) + 0 + j * 32 + k * 0 := by first | rfl
theorem FCC.PSTAT_SRC_key (i j k : Nat) : FCC.PSTAT_SRC.key i j k = 8 * ((i / 1 + 1) * 16777216 + 655360 + i % 1 * 65536 + 64) + 2 + j * 32 + k * 0 := by first | rfl
theorem FCC.PSTAT_SWAPS_key (i j k : Nat) : FCC.PSTAT_SWAPS.key i j k = 8 * ((i / 1 + 1) * 16777216 + 655360 + i % 1 * 65536 + 64) + 16 + j * 32 + k * 0 := by first | rfl
theorem FCC.PVER_key (i j k : Nat) : FCC.PVER.key i j k = 8 * ((i / 1 + 1) * 16777216 + 655360 + i % 1 * 65536 + 128) + 0 + j * 32 + k * 0 := by first | rfl
theorem FCC.SLOT_PARCEL_key (i j k : Nat) : FCC.SLOT_PARCEL.key i j k = 8 * ((i / 1 + 1) * 16777216 + 655360 + i % 1 * 65536 + 192) + 0 + j * 32 + k * 0 := by first | rfl
theorem FCC.SLOT_VALID_key (i j k : Nat) : FCC.SLOT_VALID.key i j k = 8 * ((i / 1 + 1) * 16777216 + 655360 + i % 1 * 65536 + 192) + 4 + j * 32 + k * 0 := by first | rfl
theorem FCC.SVER_key (i j k : Nat) : FCC.SVER.key i j k = 8 * ((i / 1 + 1) * 16777216 + 655360 + i % 1 * 65536 + 256) + 0 + j * 32 + k * 0 := by first | rfl
theorem DRF.CTRL_AUTOINIT_key (i j k : Nat) : DRF.CTRL_AUTOINIT.key i j k = 8 * ((i / 1 + 1) * 16777216 + 720896 + i % 1 * 65536 + 0) + 0 + j * 0 + k * 0 := by first | rfl
theorem DRF.STAT_INITDONE_key (i j k : Nat) : DRF.STAT_INITDONE.key i j k = 8 * ((i / 1 + 1) * 16777216 + 720896 + i % 1 * 65536 + 4) + 0 + j * 0 + k * 0 := by first | rfl
theorem DRF.STAT_RPERR_key (i j k : Nat) : DRF.STAT_RPERR.key i j k = 8 * ((i / 1 + 1) * 16777216 + 720896 + i % 1 * 65536 + 4) + 1 + j * 0 + k * 0 := by first | rfl
theorem DRF.STAT_REGERR_key (i j k : Nat) : DRF.STAT_REGERR.key i j k = 8 * ((i / 1 + 1) * 16777216 + 720896 + i % 1 * 65536 + 4) + 2 + j * 0 + k * 0 := by first | rfl
theorem DRF.STAT_TMRFAIL_key (i j k : Nat) : DRF.STAT_TMRFAIL.key i j k = 8 * ((i / 1 + 1) * 16777216 + 720896 + i % 1 * 65536 + 4) + 3 + j * 0 + k * 0 := by first | rfl
theorem DRF.STAT_RQDROP_key (i j k : Nat) : DRF.STAT_RQDROP.key i j k = 8 * ((i / 1 + 1) * 16777216 + 720896 + i % 1 * 65536 + 4) + 4 + j * 0 + k * 0 := by first | rfl
theorem DRF.TMR_VOTES_key (i j k : Nat) : DRF.TMR_VOTES.key i j k = 8 * ((i / 1 + 1) * 16777216 + 720896 + i % 1 * 65536 + 8) + 0 + j * 0 + k * 0 := by first | rfl
theorem DRF.TMR_LASTOFS_key (i j k : Nat) : DRF.TMR_LASTOFS.key i j k = 8 * ((i / 1 + 1) * 16777216 + 720896 + i % 1 * 65536 + 8) + 16 + j * 0 + k * 0 := by first | rfl
theorem DRF.RPBASE_LO_key (i j k : Nat) : DRF.RPBASE_LO.key i j k = 8 * ((i / 1 + 1) * 16777216 + 720896 + i % 1 * 65536 + 16) + 0 + j * 0 + k * 0 := by first | rfl
theorem DRF.RPBASE_HI_key (i j k : Nat) : DRF.RPBASE_HI.key i j k = 8 * ((i / 1 + 1) * 16777216 + 720896 + i % 1 * 65536 + 20) + 0 + j * 0 + k * 0 := by first | rfl
theorem DRF.RPLEN_LO_key (i j k : Nat) : DRF.RPLEN_LO.key i j k = 8 * ((i / 1 + 1) * 16777216 + 720896 + i % 1 * 65536 + 24) + 0 + j * 0 + k * 0 := by first | rfl
theorem DRF.RPLEN_HI_key (i j k : Nat) : DRF.RPLEN_HI.key i j k = 8 * ((i / 1 + 1) * 16777216 + 720896 + i % 1 * 65536 + 28) + 0 + j * 0 + k * 0 := by first | rfl
theorem DRF.RP_GO_key (i j k : Nat) : DRF.RP_GO.key i j k = 8 * ((i / 1 + 1) * 16777216 + 720896 + i % 1 * 65536 + 32) + 0 + j * 0 + k * 0 := by first | rfl
theorem DRF.RP_MODE_key (i j k : Nat) : DRF.RP_MODE.key i j k = 8 * ((i / 1 + 1) * 16777216 + 720896 + i % 1 * 65536 + 32) + 1 + j * 0 + k * 0 := by first | rfl
theorem DRF.RP_MEM_key (i j k : Nat) : DRF.RP_MEM.key i j k = 8 * ((i / 1 + 1) * 16777216 + 720896 + i % 1 * 65536 + 32) + 3 + j * 0 + k * 0 := by first | rfl
theorem DRF.RP_ENTRY_key (i j k : Nat) : DRF.RP_ENTRY.key i j k = 8 * ((i / 1 + 1) * 16777216 + 720896 + i % 1 * 65536 + 32) + 16 + j * 0 + k * 0 := by first | rfl
theorem DRF.MC_RDCORR_key (i j k : Nat) : DRF.MC_RDCORR.key i j k = 8 * ((i / 1 + 1) * 16777216 + 720896 + i % 1 * 65536 + 64) + 0 + j * 128 + k * 0 := by first | rfl
theorem DRF.MC_RDUNC_key (i j k : Nat) : DRF.MC_RDUNC.key i j k = 8 * ((i / 1 + 1) * 16777216 + 720896 + i % 1 * 65536 + 68) + 0 + j * 128 + k * 0 := by first | rfl
theorem DRF.MC_PWMERGE_key (i j k : Nat) : DRF.MC_PWMERGE.key i j k = 8 * ((i / 1 + 1) * 16777216 + 720896 + i % 1 * 65536 + 72) + 0 + j * 128 + k * 0 := by first | rfl
theorem DRF.MC_PWREF_key (i j k : Nat) : DRF.MC_PWREF.key i j k = 8 * ((i / 1 + 1) * 16777216 + 720896 + i % 1 * 65536 + 76) + 0 + j * 128 + k * 0 := by first | rfl
theorem DRF.ELOG0_DPA_LO_key (i j k : Nat) : DRF.ELOG0_DPA_LO.key i j k = 8 * ((i / 1 + 1) * 16777216 + 720896 + i % 1 * 65536 + 160) + 0 + j * 0 + k * 0 := by first | rfl
theorem DRF.ELOG1_DPA_HI_key (i j k : Nat) : DRF.ELOG1_DPA_HI.key i j k = 8 * ((i / 1 + 1) * 16777216 + 720896 + i % 1 * 65536 + 164) + 0 + j * 0 + k * 0 := by first | rfl
theorem DRF.ELOG1_SRC_key (i j k : Nat) : DRF.ELOG1_SRC.key i j k = 8 * ((i / 1 + 1) * 16777216 + 720896 + i % 1 * 65536 + 164) + 16 + j * 0 + k * 0 := by first | rfl
theorem DRF.ELOG1_KIND_key (i j k : Nat) : DRF.ELOG1_KIND.key i j k = 8 * ((i / 1 + 1) * 16777216 + 720896 + i % 1 * 65536 + 164) + 28 + j * 0 + k * 0 := by first | rfl
theorem DRF.ELOG1_VALID_key (i j k : Nat) : DRF.ELOG1_VALID.key i j k = 8 * ((i / 1 + 1) * 16777216 + 720896 + i % 1 * 65536 + 164) + 31 + j * 0 + k * 0 := by first | rfl
theorem DRF.TS_FRAC_key (i j k : Nat) : DRF.TS_FRAC.key i j k = 8 * ((i / 1 + 1) * 16777216 + 720896 + i % 1 * 65536 + 168) + 0 + j * 0 + k * 0 := by first | rfl
theorem DRF.TS_NS_key (i j k : Nat) : DRF.TS_NS.key i j k = 8 * ((i / 1 + 1) * 16777216 + 720896 + i % 1 * 65536 + 172) + 0 + j * 0 + k * 0 := by first | rfl
theorem DRF.TS_SECLO_key (i j k : Nat) : DRF.TS_SECLO.key i j k = 8 * ((i / 1 + 1) * 16777216 + 720896 + i % 1 * 65536 + 176) + 0 + j * 0 + k * 0 := by first | rfl
theorem DRF.TS_SECHI_key (i j k : Nat) : DRF.TS_SECHI.key i j k = 8 * ((i / 1 + 1) * 16777216 + 720896 + i % 1 * 65536 + 180) + 0 + j * 0 + k * 0 := by first | rfl
theorem DRF.FM_DATA_LO_key (i j k : Nat) : DRF.FM_DATA_LO.key i j k = 8 * ((i / 1 + 1) * 16777216 + 720896 + i % 1 * 65536 + 256) + 0 + j * 256 + k * 0 := by first | rfl
theorem DRF.FM_DATA_HI_key (i j k : Nat) : DRF.FM_DATA_HI.key i j k = 8 * ((i / 1 + 1) * 16777216 + 720896 + i % 1 * 65536 + 260) + 0 + j * 256 + k * 0 := by first | rfl
theorem DRF.FM_CHK_key (i j k : Nat) : DRF.FM_CHK.key i j k = 8 * ((i / 1 + 1) * 16777216 + 720896 + i % 1 * 65536 + 264) + 0 + j * 256 + k * 0 := by first | rfl
theorem DRF.FM_ARM_key (i j k : Nat) : DRF.FM_ARM.key i j k = 8 * ((i / 1 + 1) * 16777216 + 720896 + i % 1 * 65536 + 264) + 16 + j * 256 + k * 0 := by first | rfl
theorem DRF.FM_MATCH_key (i j k : Nat) : DRF.FM_MATCH.key i j k = 8 * ((i / 1 + 1) * 16777216 + 720896 + i % 1 * 65536 + 264) + 17 + j * 256 + k * 0 := by first | rfl
theorem DRF.FM_ADDR_LO_key (i j k : Nat) : DRF.FM_ADDR_LO.key i j k = 8 * ((i / 1 + 1) * 16777216 + 720896 + i % 1 * 65536 + 268) + 0 + j * 256 + k * 0 := by first | rfl
theorem DRF.FM_ADDR_HI_key (i j k : Nat) : DRF.FM_ADDR_HI.key i j k = 8 * ((i / 1 + 1) * 16777216 + 720896 + i % 1 * 65536 + 272) + 0 + j * 256 + k * 0 := by first | rfl
theorem DRF.WK_EN_key (i j k : Nat) : DRF.WK_EN.key i j k = 8 * ((i / 1 + 1) * 16777216 + 720896 + i % 1 * 65536 + 512) + 0 + j * 512 + k * 0 := by first | rfl
theorem DRF.WK_MODE_key (i j k : Nat) : DRF.WK_MODE.key i j k = 8 * ((i / 1 + 1) * 16777216 + 720896 + i % 1 * 65536 + 512) + 1 + j * 512 + k * 0 := by first | rfl
theorem DRF.WK_ADAPT_key (i j k : Nat) : DRF.WK_ADAPT.key i j k = 8 * ((i / 1 + 1) * 16777216 + 720896 + i % 1 * 65536 + 512) + 2 + j * 512 + k * 0 := by first | rfl
theorem DRF.WK_IVAL_key (i j k : Nat) : DRF.WK_IVAL.key i j k = 8 * ((i / 1 + 1) * 16777216 + 720896 + i % 1 * 65536 + 516) + 0 + j * 512 + k * 0 := by first | rfl
theorem DRF.WK_PASS_key (i j k : Nat) : DRF.WK_PASS.key i j k = 8 * ((i / 1 + 1) * 16777216 + 720896 + i % 1 * 65536 + 520) + 0 + j * 512 + k * 0 := by first | rfl
theorem DRF.WK_CEIL_key (i j k : Nat) : DRF.WK_CEIL.key i j k = 8 * ((i / 1 + 1) * 16777216 + 720896 + i % 1 * 65536 + 524) + 0 + j * 512 + k * 0 := by first | rfl
theorem DRF.WK_RAISETHR_key (i j k : Nat) : DRF.WK_RAISETHR.key i j k = 8 * ((i / 1 + 1) * 16777216 + 720896 + i % 1 * 65536 + 528) + 0 + j * 512 + k * 0 := by first | rfl
theorem DRF.WK_CUR_key (i j k : Nat) : DRF.WK_CUR.key i j k = 8 * ((i / 1 + 1) * 16777216 + 720896 + i % 1 * 65536 + 532) + 0 + j * 512 + k * 0 := by first | rfl
theorem DRF.WK_POS_LO_key (i j k : Nat) : DRF.WK_POS_LO.key i j k = 8 * ((i / 1 + 1) * 16777216 + 720896 + i % 1 * 65536 + 536) + 0 + j * 512 + k * 0 := by first | rfl
theorem DRF.WK_POS_HI_key (i j k : Nat) : DRF.WK_POS_HI.key i j k = 8 * ((i / 1 + 1) * 16777216 + 720896 + i % 1 * 65536 + 540) + 0 + j * 512 + k * 0 := by first | rfl
theorem DRF.WK_PASSES_key (i j k : Nat) : DRF.WK_PASSES.key i j k = 8 * ((i / 1 + 1) * 16777216 + 720896 + i % 1 * 65536 + 544) + 0 + j * 512 + k * 0 := by first | rfl
theorem DRF.WK_CORR_key (i j k : Nat) : DRF.WK_CORR.key i j k = 8 * ((i / 1 + 1) * 16777216 + 720896 + i % 1 * 65536 + 548) + 0 + j * 512 + k * 0 := by first | rfl
theorem DRF.WK_UNC_key (i j k : Nat) : DRF.WK_UNC.key i j k = 8 * ((i / 1 + 1) * 16777216 + 720896 + i % 1 * 65536 + 552) + 0 + j * 512 + k * 0 := by first | rfl
theorem DRF.WK_POIS_key (i j k : Nat) : DRF.WK_POIS.key i j k = 8 * ((i / 1 + 1) * 16777216 + 720896 + i % 1 * 65536 + 556) + 0 + j * 512 + k * 0 := by first | rfl
theorem DRF.WK_RAISED_key (i j k : Nat) : DRF.WK_RAISED.key i j k = 8 * ((i / 1 + 1) * 16777216 + 720896 + i % 1 * 65536 + 560) + 0 + j * 512 + k * 0 := by first | rfl
theorem DRF.FS_IVAL_key (i j k : Nat) : DRF.FS_IVAL.key i j k = 8 * ((i / 1 + 1) * 16777216 + 720896 + i % 1 * 65536 + 708) + 0 + j * 0 + k * 0 := by first | rfl
theorem DRF.FS_CUR_key (i j k : Nat) : DRF.FS_CUR.key i j k = 8 * ((i / 1 + 1) * 16777216 + 720896 + i % 1 * 65536 + 724) + 0 + j * 0 + k * 0 := by first | rfl
theorem DRF.FS_POS_key (i j k : Nat) : DRF.FS_POS.key i j k = 8 * ((i / 1 + 1) * 16777216 + 720896 + i % 1 * 65536 + 728) + 0 + j * 0 + k * 0 := by first | rfl
theorem DRF.FS_PASSES_key (i j k : Nat) : DRF.FS_PASSES.key i j k = 8 * ((i / 1 + 1) * 16777216 + 720896 + i % 1 * 65536 + 736) + 0 + j * 0 + k * 0 := by first | rfl
theorem DRF.FS_CORRFR_key (i j k : Nat) : DRF.FS_CORRFR.key i j k = 8 * ((i / 1 + 1) * 16777216 + 720896 + i % 1 * 65536 + 740) + 0 + j * 0 + k * 0 := by first | rfl
theorem DRF.FS_UNCFR_key (i j k : Nat) : DRF.FS_UNCFR.key i j k = 8 * ((i / 1 + 1) * 16777216 + 720896 + i % 1 * 65536 + 744) + 0 + j * 0 + k * 0 := by first | rfl
theorem DRF.FS_UNCPARCEL_key (i j k : Nat) : DRF.FS_UNCPARCEL.key i j k = 8 * ((i / 1 + 1) * 16777216 + 720896 + i % 1 * 65536 + 748) + 0 + j * 0 + k * 0 := by first | rfl
theorem DRF.FS_FIRSTUNC_key (i j k : Nat) : DRF.FS_FIRSTUNC.key i j k = 8 * ((i / 1 + 1) * 16777216 + 720896 + i % 1 * 65536 + 752) + 0 + j * 0 + k * 0 := by first | rfl
theorem DRF.FS_VALID_key (i j k : Nat) : DRF.FS_VALID.key i j k = 8 * ((i / 1 + 1) * 16777216 + 720896 + i % 1 * 65536 + 752) + 31 + j * 0 + k * 0 := by first | rfl
theorem DRF.RTBL_CODE_key (i j k : Nat) : DRF.RTBL_CODE.key i j k = 8 * ((i / 1 + 1) * 16777216 + 720896 + i % 1 * 65536 + 4096) + 0 + j * 4 + k * 0 := by first | rfl
theorem DRF.RTBL_STATE_key (i j k : Nat) : DRF.RTBL_STATE.key i j k = 8 * ((i / 1 + 1) * 16777216 + 720896 + i % 1 * 65536 + 4096) + 2 + j * 4 + k * 0 := by first | rfl
theorem DRF.QTBL_CODE_key (i j k : Nat) : DRF.QTBL_CODE.key i j k = 8 * ((i / 1 + 1) * 16777216 + 720896 + i % 1 * 65536 + 4352) + 0 + j * 4 + k * 0 := by first | rfl
theorem DRF.QTBL_STATE_key (i j k : Nat) : DRF.QTBL_STATE.key i j k = 8 * ((i / 1 + 1) * 16777216 + 720896 + i % 1 * 65536 + 4352) + 2 + j * 4 + k * 0 := by first | rfl
theorem FPW.DON_key (i j k : Nat) : FPW.DON.key i j k = 8 * ((i / 1 + 1) * 16777216 + 786432 + i % 1 * 65536 + 0) + 0 + j * 0 + k * 0 := by first | rfl
theorem FPW.GATE_QOFF_key (i j k : Nat) : FPW.GATE_QOFF.key i j k = 8 * ((i / 1 + 1) * 16777216 + 786432 + i % 1 * 65536 + 4) + 0 + j * 0 + k * 0 := by first | rfl
theorem FPW.GATE_COFF_key (i j k : Nat) : FPW.GATE_COFF.key i j k = 8 * ((i / 1 + 1) * 16777216 + 786432 + i % 1 * 65536 + 4) + 4 + j * 0 + k * 0 := by first | rfl
theorem FPW.BGATE_BOFF_LO_key (i j k : Nat) : FPW.BGATE_BOFF_LO.key i j k = 8 * ((i / 1 + 1) * 16777216 + 786432 + i % 1 * 65536 + 8) + 0 + j * 0 + k * 0 := by first | rfl
theorem FPW.BGATE_BOFF_HI_key (i j k : Nat) : FPW.BGATE_BOFF_HI.key i j k = 8 * ((i / 1 + 1) * 16777216 + 786432 + i % 1 * 65536 + 12) + 0 + j * 0 + k * 0 := by first | rfl
theorem FPW.TEMP_key (i j k : Nat) : FPW.TEMP.key i j k = 8 * ((i / 1 + 1) * 16777216 + 786432 + i % 1 * 65536 + 16) + 0 + j * 32 + k * 0 := by first | rfl
theorem FPW.TEMP_PEAK_key (i j k : Nat) : FPW.TEMP_PEAK.key i j k = 8 * ((i / 1 + 1) * 16777216 + 786432 + i % 1 * 65536 + 16) + 8 + j * 32 + k * 0 := by first | rfl
theorem FPW.CLK_ADPLOCK_key (i j k : Nat) : FPW.CLK_ADPLOCK.key i j k = 8 * ((i / 1 + 1) * 16777216 + 786432 + i % 1 * 65536 + 32) + 0 + j * 0 + k * 0 := by first | rfl
theorem FPW.CLK_RSVLOCK_key (i j k : Nat) : FPW.CLK_RSVLOCK.key i j k = 8 * ((i / 1 + 1) * 16777216 + 786432 + i % 1 * 65536 + 32) + 1 + j * 0 + k * 0 := by first | rfl
theorem FPW.CLK_RILLOCK_key (i j k : Nat) : FPW.CLK_RILLOCK.key i j k = 8 * ((i / 1 + 1) * 16777216 + 786432 + i % 1 * 65536 + 32) + 2 + j * 0 + k * 0 := by first | rfl
theorem FPW.CLK_LOST_key (i j k : Nat) : FPW.CLK_LOST.key i j k = 8 * ((i / 1 + 1) * 16777216 + 786432 + i % 1 * 65536 + 32) + 8 + j * 0 + k * 0 := by first | rfl
theorem FPW.SUPV_MV_key (i j k : Nat) : FPW.SUPV_MV.key i j k = 8 * ((i / 1 + 1) * 16777216 + 786432 + i % 1 * 65536 + 48) + 0 + j * 32 + k * 0 := by first | rfl
theorem FPW.SUPV_CUR_key (i j k : Nat) : FPW.SUPV_CUR.key i j k = 8 * ((i / 1 + 1) * 16777216 + 786432 + i % 1 * 65536 + 48) + 16 + j * 32 + k * 0 := by first | rfl
theorem FPW.WAKE_QWAKE_key (i j k : Nat) : FPW.WAKE_QWAKE.key i j k = 8 * ((i / 1 + 1) * 16777216 + 786432 + i % 1 * 65536 + 80) + 0 + j * 0 + k * 0 := by first | rfl
theorem FPW.WAKE_CWAKE_key (i j k : Nat) : FPW.WAKE_CWAKE.key i j k = 8 * ((i / 1 + 1) * 16777216 + 786432 + i % 1 * 65536 + 80) + 16 + j * 0 + k * 0 := by first | rfl
theorem FDB.STAT_DUERR_key (i j k : Nat) : FDB.STAT_DUERR.key i j k = 8 * ((i / 1 + 1) * 16777216 + 851968 + i % 1 * 65536 + 0) + 0 + j * 0 + k * 0 := by first | rfl
theorem FDB.STAT_HCMDERR_key (i j k : Nat) : FDB.STAT_HCMDERR.key i j k = 8 * ((i / 1 + 1) * 16777216 + 851968 + i % 1 * 65536 + 0) + 1 + j * 0 + k * 0 := by first | rfl
theorem FDB.HCMD_HALT_key (i j k : Nat) : FDB.HCMD_HALT.key i j k = 8 * ((i / 1 + 1) * 16777216 + 851968 + i % 1 * 65536 + 16) + 0 + j * 32 + k * 0 := by first | rfl
theorem FDB.HCMD_RESUME_key (i j k : Nat) : FDB.HCMD_RESUME.key i j k = 8 * ((i / 1 + 1) * 16777216 + 851968 + i % 1 * 65536 + 16) + 8 + j * 32 + k * 0 := by first | rfl
theorem FDB.HCMD_STEP_key (i j k : Nat) : FDB.HCMD_STEP.key i j k = 8 * ((i / 1 + 1) * 16777216 + 851968 + i % 1 * 65536 + 16) + 16 + j * 32 + k * 0 := by first | rfl
theorem FDB.PEEKA_key (i j k : Nat) : FDB.PEEKA.key i j k = 8 * ((i / 1 + 1) * 16777216 + 851968 + i % 1 * 65536 + 32) + 0 + j * 0 + k * 0 := by first | rfl
theorem FDB.PEEKD_key (i j k : Nat) : FDB.PEEKD.key i j k = 8 * ((i / 1 + 1) * 16777216 + 851968 + i % 1 * 65536 + 36) + 0 + j * 0 + k * 0 := by first | rfl
theorem FDB.PSTAT_NOPEEK_key (i j k : Nat) : FDB.PSTAT_NOPEEK.key i j k = 8 * ((i / 1 + 1) * 16777216 + 851968 + i % 1 * 65536 + 40) + 0 + j * 0 + k * 0 := by first | rfl
theorem FDB.TBASE_LO_key (i j k : Nat) : FDB.TBASE_LO.key i j k = 8 * ((i / 1 + 1) * 16777216 + 851968 + i % 1 * 65536 + 256) + 0 + j * 0 + k * 0 := by first | rfl
theorem FDB.TBASE_HI_key (i j k : Nat) : FDB.TBASE_HI.key i j k = 8 * ((i / 1 + 1) * 16777216 + 851968 + i % 1 * 65536 + 260) + 0 + j * 0 + k * 0 := by first | rfl
theorem FDB.TCFG_EN_key (i j k : Nat) : FDB.TCFG_EN.key i j k = 8 * ((i / 1 + 1) * 16777216 + 851968 + i % 1 * 65536 + 264) + 0 + j * 0 + k * 0 := by first | rfl
theorem FDB.TCFG_WRAP_key (i j k : Nat) : FDB.TCFG_WRAP.key i j k = 8 * ((i / 1 + 1) * 16777216 + 851968 + i % 1 * 65536 + 264) + 1 + j * 0 + k * 0 := by first | rfl
theorem FDB.TCFG_LOG2_key (i j k : Nat) : FDB.TCFG_LOG2.key i j k = 8 * ((i / 1 + 1) * 16777216 + 851968 + i % 1 * 65536 + 264) + 2 + j * 0 + k * 0 := by first | rfl
theorem FDB.TSTAT_STATE_key (i j k : Nat) : FDB.TSTAT_STATE.key i j k = 8 * ((i / 1 + 1) * 16777216 + 851968 + i % 1 * 65536 + 268) + 0 + j * 0 + k * 0 := by first | rfl
theorem FDB.TWPTR_WPTR_LO_key (i j k : Nat) : FDB.TWPTR_WPTR_LO.key i j k = 8 * ((i / 1 + 1) * 16777216 + 851968 + i % 1 * 65536 + 272) + 0 + j * 0 + k * 0 := by first | rfl
theorem FDB.TWPTR_WPTR_HI_key (i j k : Nat) : FDB.TWPTR_WPTR_HI.key i j k = 8 * ((i / 1 + 1) * 16777216 + 851968 + i % 1 * 65536 + 276) + 0 + j * 0 + k * 0 := by first | rfl
theorem FDB.TDROP_key (i j k : Nat) : FDB.TDROP.key i j k = 8 * ((i / 1 + 1) * 16777216 + 851968 + i % 1 * 65536 + 280) + 0 + j * 0 + k * 0 := by first | rfl
theorem FDB.DU_EN_key (i j k : Nat) : FDB.DU_EN.key i j k = 8 * ((i / 1 + 1) * 16777216 + 851968 + i % 1 * 65536 + 1024) + 0 + j * 1024 + k * 128 := by first | rfl
theorem FDB.DU_MODE_key (i j k : Nat) : FDB.DU_MODE.key i j k = 8 * ((i / 1 + 1) * 16777216 + 851968 + i % 1 * 65536 + 1024) + 1 + j * 1024 + k * 128 := by first | rfl
theorem FDB.DU_ENG_key (i j k : Nat) : FDB.DU_ENG.key i j k = 8 * ((i / 1 + 1) * 16777216 + 851968 + i % 1 * 65536 + 1024) + 2 + j * 1024 + k * 128 := by first | rfl
theorem FDB.DU_KIND_key (i j k : Nat) : FDB.DU_KIND.key i j k = 8 * ((i / 1 + 1) * 16777216 + 851968 + i % 1 * 65536 + 1024) + 5 + j * 1024 + k * 128 := by first | rfl
theorem FDB.DU_HALT_key (i j k : Nat) : FDB.DU_HALT.key i j k = 8 * ((i / 1 + 1) * 16777216 + 851968 + i % 1 * 65536 + 1024) + 8 + j * 1024 + k * 128 := by first | rfl
theorem FDB.DU_TRACE_key (i j k : Nat) : FDB.DU_TRACE.key i j k = 8 * ((i / 1 + 1) * 16777216 + 851968 + i % 1 * 65536 + 1024) + 9 + j * 1024 + k * 128 := by first | rfl
theorem FDB.DU_DCEN_key (i j k : Nat) : FDB.DU_DCEN.key i j k = 8 * ((i / 1 + 1) * 16777216 + 851968 + i % 1 * 65536 + 1024) + 10 + j * 1024 + k * 128 := by first | rfl
theorem FDB.DU_ADDR_key (i j k : Nat) : FDB.DU_ADDR.key i j k = 8 * ((i / 1 + 1) * 16777216 + 851968 + i % 1 * 65536 + 1028) + 0 + j * 1024 + k * 128 := by first | rfl
theorem FDB.DU_MASK_key (i j k : Nat) : FDB.DU_MASK.key i j k = 8 * ((i / 1 + 1) * 16777216 + 851968 + i % 1 * 65536 + 1032) + 0 + j * 1024 + k * 128 := by first | rfl
theorem FDB.DU_DATA_key (i j k : Nat) : FDB.DU_DATA.key i j k = 8 * ((i / 1 + 1) * 16777216 + 851968 + i % 1 * 65536 + 1036) + 0 + j * 1024 + k * 128 := by first | rfl
theorem FDB.SP_key (i j k : Nat) : FDB.SP.key i j k = 8 * ((i / 1 + 1) * 16777216 + 851968 + i % 1 * 65536 + 32768) + 0 + j * 1024 + k * 32 := by first | rfl
theorem FTS.STAT_LOCK_key (i j k : Nat) : FTS.STAT_LOCK.key i j k = 8 * ((i / 1 + 1) * 16777216 + 917504 + i % 1 * 65536 + 0) + 0 + j * 0 + k * 0 := by first | rfl
theorem FTS.STAT_LOCKLOST_key (i j k : Nat) : FTS.STAT_LOCKLOST.key i j k = 8 * ((i / 1 + 1) * 16777216 + 917504 + i % 1 * 65536 + 0) + 1 + j * 0 + k * 0 := by first | rfl
theorem FTS.STAT_TDRIFT_key (i j k : Nat) : FTS.STAT_TDRIFT.key i j k = 8 * ((i / 1 + 1) * 16777216 + 917504 + i % 1 * 65536 + 0) + 2 + j * 0 + k * 0 := by first | rfl
theorem FTS.STAT_CALDONE_key (i j k : Nat) : FTS.STAT_CALDONE.key i j k = 8 * ((i / 1 + 1) * 16777216 + 917504 + i % 1 * 65536 + 0) + 3 + j * 0 + k * 0 := by first | rfl
theorem FTS.STAT_CALERR_key (i j k : Nat) : FTS.STAT_CALERR.key i j k = 8 * ((i / 1 + 1) * 16777216 + 917504 + i % 1 * 65536 + 0) + 4 + j * 0 + k * 0 := by first | rfl
theorem FTS.OFFS_key (i j k : Nat) : FTS.OFFS.key i j k = 8 * ((i / 1 + 1) * 16777216 + 917504 + i % 1 * 65536 + 4) + 0 + j * 0 + k * 0 := by first | rfl
theorem FTS.LDLY_key (i j k : Nat) : FTS.LDLY.key i j k = 8 * ((i / 1 + 1) * 16777216 + 917504 + i % 1 * 65536 + 8) + 0 + j * 0 + k * 0 := by first | rfl
theorem FTS.CAL_GO_key (i j k : Nat) : FTS.CAL_GO.key i j k = 8 * ((i / 1 + 1) * 16777216 + 917504 + i % 1 * 65536 + 12) + 0 + j * 0 + k * 0 := by first | rfl
theorem FTS.CAL_ENTRY_key (i j k : Nat) : FTS.CAL_ENTRY.key i j k = 8 * ((i / 1 + 1) * 16777216 + 917504 + i % 1 * 65536 + 12) + 16 + j * 0 + k * 0 := by first | rfl
theorem FTS.CALTEMP_key (i j k : Nat) : FTS.CALTEMP.key i j k = 8 * ((i / 1 + 1) * 16777216 + 917504 + i % 1 * 65536 + 16) + 0 + j * 0 + k * 0 := by first | rfl
theorem FTS.RD_FRAC_key (i j k : Nat) : FTS.RD_FRAC.key i j k = 8 * ((i / 1 + 1) * 16777216 + 917504 + i % 1 * 65536 + 32) + 0 + j * 0 + k * 0 := by first | rfl
theorem FTS.RD_NS_key (i j k : Nat) : FTS.RD_NS.key i j k = 8 * ((i / 1 + 1) * 16777216 + 917504 + i % 1 * 65536 + 36) + 0 + j * 0 + k * 0 := by first | rfl
theorem FTS.RD_SECLO_key (i j k : Nat) : FTS.RD_SECLO.key i j k = 8 * ((i / 1 + 1) * 16777216 + 917504 + i % 1 * 65536 + 40) + 0 + j * 0 + k * 0 := by first | rfl
theorem FTS.RD_SECHI_key (i j k : Nat) : FTS.RD_SECHI.key i j k = 8 * ((i / 1 + 1) * 16777216 + 917504 + i % 1 * 65536 + 44) + 0 + j * 0 + k * 0 := by first | rfl
theorem FTS.FABOFS_key (i j k : Nat) : FTS.FABOFS.key i j k = 8 * ((i / 1 + 1) * 16777216 + 917504 + i % 1 * 65536 + 64) + 0 + j * 0 + k * 0 := by first | rfl
theorem FTS.TXOFS_key (i j k : Nat) : FTS.TXOFS.key i j k = 8 * ((i / 1 + 1) * 16777216 + 917504 + i % 1 * 65536 + 128) + 0 + j * 64 + k * 0 := by first | rfl
theorem FTS.RXOFS_key (i j k : Nat) : FTS.RXOFS.key i j k = 8 * ((i / 1 + 1) * 16777216 + 917504 + i % 1 * 65536 + 132) + 0 + j * 64 + k * 0 := by first | rfl

end Sys2Proof.Machine
end

