-- ==== Sys2Proof/Laws/Rill.lean ====
section
/-! SUPPORT. What one Rill row does where nothing intervenes, said once. -/
namespace Sys2Proof.Machine

/-- R382, R384, R386: the row of the operation at the pc runs it, then closes the instruction, where no halt, watchpoint, fence or
interlock takes its cycle. -/
theorem State.rilRow_plain {s p : State} {g held pc w : Nat} (h : s.rilPlain g pc w = true) (hp : p = s.rilPaused g held) (h2 : p.rilPlain g pc w = true) :
    s.rilRow g (rilOp w) held = (p.rilExec g w pc).1.rilClose g pc (p.rilExec g w pc).2.2 (p.rilExec g w pc).2.1 := by
  simp only [State.rilPlain, Bool.and_eq_true, beq_iff_eq, Bool.not_eq_true', decide_eq_true_eq] at h h2
  obtain ⟨⟨⟨⟨⟨⟨⟨a1,a2⟩,a3⟩,a4⟩,a5⟩,a6⟩,a7⟩,a8⟩ := h
  obtain ⟨⟨⟨⟨⟨⟨⟨b1,b2⟩,b3⟩,b4⟩,b5⟩,b6⟩,b7⟩,b8⟩ := h2
  have bd : (p.eng g).draining = false := by
    have := b6; unfold State.rilBlocked at this; simp at this; exact this.1.2
  unfold State.rilRow
  rw [if_pos ⟨a1, a6, Or.inl (by rw [a2, a4])⟩]
  simp only [← hp, b1, if_true]
  unfold State.rilIssue
  simp only [b2, b4, b6, b5, b7]
  have hus : (if (p.eng g).skip = true then [] else p.duHits g 0 pc 0) = [] := by
    split
    · rfl
    · cases hh : p.duHits g 0 pc 0 <;> simp_all
  rw [if_neg (by simp), if_neg (by omega), if_neg (by simp), if_neg (by simp), hus]
  simp [State.duTrace, State.duHalt, bd, b1]

end Sys2Proof.Machine
end

