-- ==== Sys2Proof/Laws/Same.lean ====
section
/-! SUPPORT. The frame of every operation and every meaning: the kinds of state (StateKind) that it leaves as they are. The files Same*.lean hold one
such lemma for each that does not reach every kind; its hypotheses name the kinds that it may change. -/
namespace Sys2Proof.Machine

variable {kd : StateKind} {s0 s t : State}

/-- A result that is a next state has the state of a kind. -/
def SameR (kd : StateKind) (s0 : State) (r : Result) : Prop := ∀ t, r = .next t → s0.same kd t

/-- The state in an optional answer, read by v, has the state of a kind. -/
def SameO {α : Type} (kd : StateKind) (v : α → State) (s0 : State) (o : Option α) : Prop := ∀ a, o = some a → s0.same kd (v a)

/-- State.same, of a state written as a record. -/
def State.sameRec (kd : StateKind) (s t : State) : Prop := s.same kd t

theorem State.same_refl (s : State) : s.same kd s := by cases kd <;> rfl
theorem SameR.next (h : s0.same kd t) : SameR kd s0 (.next t) := by intro u e; cases e; exact h
theorem SameO.none {α : Type} {v : α → State} : SameO kd v s0 none := by intro a e; cases e
theorem SameO.some {α : Type} {v : α → State} {a : α} (h : s0.same kd (v a)) : SameO kd v s0 (some a) := by intro b e; cases e; exact h
theorem SameO.some_id (h : s0.same kd t) : SameO kd id s0 (Option.some t) := SameO.some h
theorem SameO.findSome {α β : Type} {v : β → State} {f : α → Option β} {l : List α} (h : ∀ x, SameO kd v s0 (f x)) :
    SameO kd v s0 (l.findSome? f) := by
  intro b e
  obtain ⟨x, -, hx⟩ := List.exists_of_findSome?_eq_some e
  exact h x b hx
theorem State.same_of_some {o : Option State} (e : o = Option.some t) (h : SameO kd id s0 o) : s0.same kd t := h t e
theorem State.same_of_some_snd {α : Type} {o : Option (α × State)} {x : α} (e : o = Option.some (x, t)) (h : SameO kd Prod.snd s0 o) :
    s0.same kd t := h _ e
theorem State.same_of_some_trd {α β : Type} {o : Option (α × β × State)} {x : α} {y : β} (e : o = Option.some (x, y, t))
    (h : SameO kd (·.2.2) s0 o) : s0.same kd t := h _ e
theorem State.same_of_some_done {o : Option WmDone} {d : WmDone} (e : o = Option.some d) (h : SameO kd WmDone.st s0 o) : s0.same kd d.st :=
  h _ e
theorem State.same_of_fst {α : Type} {p : State × α} {x : α} (e : p = (t, x)) (h : s0.same kd p.1) : s0.same kd t := by subst e; exact h
theorem State.same_ite {c : Prop} [Decidable c] (ha : s0.same kd s) (hb : s0.same kd t) : s0.same kd (if c then s else t) := by
  split <;> assumption
theorem SameR.ite {c : Prop} [Decidable c] {a b : Result} (ha : SameR kd s0 a) (hb : SameR kd s0 b) : SameR kd s0 (if c then a else b) := by
  split <;> assumption
theorem State.same_ite_fst {α : Type} {c : Prop} [Decidable c] {a b : State × α} (ha : s0.same kd a.1) (hb : s0.same kd b.1) :
    s0.same kd (if c then a else b).1 := by split <;> assumption
theorem State.same_ite_st {c : Prop} [Decidable c] {a b : WmDone} (ha : s0.same kd a.st) (hb : s0.same kd b.st) :
    s0.same kd (if c then a else b).st := by split <;> assumption
theorem State.same_ite_s {c : Prop} [Decidable c] {a b : MoveOut} (ha : s0.same kd a.s) (hb : s0.same kd b.s) :
    s0.same kd (if c then a else b).s := by split <;> assumption
theorem State.same_getD {o : Option State} (ho : SameO kd id s0 o) (h : s0.same kd s) : s0.same kd (o.getD s) := by
  cases o with
  | none => exact h
  | some t => exact ho t rfl
theorem State.same_of_some_fst {α : Type} {o : Option (State × α)} {x : α} (e : o = Option.some (t, x)) (h : SameO kd Prod.fst s0 o) :
    s0.same kd t := h _ e
theorem SameO.map {α β : Type} {w : α → State} {v : β → State} {f : α → β} {o : Option α} (hf : ∀ a, s0.same kd (w a) → s0.same kd (v (f a)))
    (h : SameO kd w s0 o) : SameO kd v s0 (o.map f) := by
  intro b e
  obtain ⟨a, ha, rfl⟩ := Option.map_eq_some_iff.1 e
  exact hf a (h a ha)
theorem SameO.ite {α : Type} {v : α → State} {c : Prop} [Decidable c] {a b : Option α} (ha : SameO kd v s0 a) (hb : SameO kd v s0 b) :
    SameO kd v s0 (if c then a else b) := by split <;> assumption

/-- A fold of a step that has the state of a kind has it. -/
theorem State.same_foldl {α : Type} {f : State → α → State} {l : List α} (hf : ∀ s x, s0.same kd s → s0.same kd (f s x)) (h : s0.same kd s) :
    s0.same kd (l.foldl f s) := by
  induction l generalizing s with
  | nil => exact h
  | cons x l ih => exact ih (hf s x h)

/-- The same where the step also carries a value. -/
theorem State.same_foldl_fst {α β : Type} {f : State × β → α → State × β} {l : List α} {p : State × β}
    (hf : ∀ p x, s0.same kd p.1 → s0.same kd (f p x).1) (h : s0.same kd p.1) : s0.same kd (l.foldl f p).1 := by
  induction l generalizing p with
  | nil => exact h
  | cons x l ih => exact ih (hf p x h)

/-- A state written as a record, told apart from one that an operation gives. -/
theorem State.same_mk {pending : List Instr} {part : Part} {csr : List (Nat × Word)} {settings : List (Nat × Word)} {mem : List Host.Cell} {resp : Resp} {out : List Out} {free : Nat} {ledg : List (Nat × Op)} {events : List Event} {evSeq : Nat} {evBook : List (Nat × EvBook)} {cxl : CxlSt} {copy : CopySt} {time : TimeSt} {slaves : List (Nat × SlaveSt)} {lanes : List (Nat × LaneSt)} {ports : List (Nat × PortSt)} {fields : List (Nat × FieldSt)} {chan : List (Nat × Word)} {furs : List (Nat × FurSt)} {chk : List (Nat × Nat)} {fog : List (Nat × Nat)} {tags : List (Nat × Tag)} {nextOrd : Nat} {waiting : List Req} {ingress : List Held} {owed : List Owed} {unaudited : List Nat} {served : List (Nat × Nat)} {remain : List (Nat × Int)} {upSpent : List (Nat × Nat)} {walk : List Nat} {walkTag : Nat} {pcs : List (Nat × PcSt)} {qdrs : List (Nat × QdrSt)} {hmcs : List (Nat × HmcSt)} {walkers : List (Nat × WalkSt)} {ranges : List (Nat × RangeSt)} {autoInit : List (Nat × Nat)} {resv : List (Nat × Nat)} {basins : List (Nat × BasinSt)} {xbar : List Wire} {pipes : List (Nat × WireSt)} {fabs : List (Nat × FabSt)} {elapsed : Nat} {code : List (Nat × Nat)} {stores : List Host.Cell} {mods : List (Nat × ModSt)} {turns : List (Nat × TurnSt)} {swaps : List (Nat × SwapSt)} {boot : BootSt} {upd : UpdSt} {pow : PowSt} {engs : List (Nat × EngSt)} {patchRam : List (Nat × Nat)} {loaders : List (Nat × PatchLd)} {rings : List (Nat × RingSt)} {cfes : List (Nat × CfeSt)} {cists : List (Nat × CistSt)} {closed : List Closed} {nextClosed : Nat} {draining : List Closed} {flt : FltSt} {wm : WmSt} {gau : GauSt} {tap : TapSt} :
    s0.same kd (State.mk pending part csr settings mem resp out free ledg events evSeq evBook cxl copy time slaves lanes ports fields chan furs chk fog tags nextOrd waiting ingress owed unaudited served remain upSpent walk walkTag pcs qdrs hmcs walkers ranges autoInit resv basins xbar pipes fabs elapsed code stores mods turns swaps boot upd pow engs patchRam loaders rings cfes cists closed nextClosed draining flt wm gau tap) =
    s0.sameRec kd (State.mk pending part csr settings mem resp out free ledg events evSeq evBook cxl copy time slaves lanes ports fields chan furs chk fog tags nextOrd waiting ingress owed unaudited served remain upSpent walk walkTag pcs qdrs hmcs walkers ranges autoInit resv basins xbar pipes fabs elapsed code stores mods turns swaps boot upd pow engs patchRam loaders rings cfes cists closed nextClosed draining flt wm gau tap) := rfl

/-! Record updates, by the fields that they give a value. -/

theorem State.same_upd_autoInit {v0 : List (Nat × Nat)} (h_walkers : kd ≠ .walkers) (h : s0.same kd s) :
    s0.sameRec kd { s with autoInit := v0 } := by
  cases kd <;> first | contradiction | exact h
theorem State.same_upd_autoInit_resv {v0 : List (Nat × Nat)} {v1 : List (Nat × Nat)} (h_reservations : kd ≠ .reservations) (h_walkers : kd ≠ .walkers) (h : s0.same kd s) :
    s0.sameRec kd { s with autoInit := v0, resv := v1 } := by
  cases kd <;> first | contradiction | exact h
theorem State.same_upd_basins {v0 : List (Nat × BasinSt)} (h_fabric : kd ≠ .fabric) (h : s0.same kd s) :
    s0.sameRec kd { s with basins := v0 } := by
  cases kd <;> first | contradiction | exact h
theorem State.same_upd_boot {v0 : BootSt} (h_management : kd ≠ .management) (h : s0.same kd s) :
    s0.sameRec kd { s with boot := v0 } := by
  cases kd <;> first | contradiction | exact h
theorem State.same_upd_cfes {v0 : List (Nat × CfeSt)} (h_capture : kd ≠ .capture) (h : s0.same kd s) :
    s0.sameRec kd { s with cfes := v0 } := by
  cases kd <;> first | contradiction | exact h
theorem State.same_upd_cfes_chan_code_engs_furs_lanes_loaders_patchRam_ports_rings_slaves {v0 : List (Nat × CfeSt)} {v1 : List (Nat × Word)} {v2 : List (Nat × Nat)} {v3 : List (Nat × EngSt)} {v4 : List (Nat × FurSt)} {v5 : List (Nat × LaneSt)} {v6 : List (Nat × PatchLd)} {v7 : List (Nat × Nat)} {v8 : List (Nat × PortSt)} {v9 : List (Nat × RingSt)} {v10 : List (Nat × SlaveSt)} (h_programs : kd ≠ .programs) (h_engines : kd ≠ .engines) (h_lanes : kd ≠ .lanes) (h_capture : kd ≠ .capture) (h_sequencers : kd ≠ .sequencers) (h_clocks : kd ≠ .clocks) (h_debug : kd ≠ .debug) (h : s0.same kd s) :
    s0.sameRec kd { s with cfes := v0, chan := v1, code := v2, engs := v3, furs := v4, lanes := v5, loaders := v6, patchRam := v7, ports := v8, rings := v9, slaves := v10 } := by
  cases kd <;> first | contradiction | exact h
theorem State.same_upd_cfes_closed {v0 : List (Nat × CfeSt)} {v1 : List Closed} (h_capture : kd ≠ .capture) (h : s0.same kd s) :
    s0.sameRec kd { s with cfes := v0, closed := v1 } := by
  cases kd <;> first | contradiction | exact h
theorem State.same_upd_chan {v0 : List (Nat × Word)} (h_capture : kd ≠ .capture) (h : s0.same kd s) :
    s0.sameRec kd { s with chan := v0 } := by
  cases kd <;> first | contradiction | exact h
theorem State.same_upd_chk {v0 : List (Nat × Nat)} (h_memory : kd ≠ .memory) (h : s0.same kd s) :
    s0.sameRec kd { s with chk := v0 } := by
  cases kd <;> first | contradiction | exact h
theorem State.same_upd_chk_fog_free_mem {v0 : List (Nat × Nat)} {v1 : List (Nat × Nat)} {v2 : Nat} {v3 : List Host.Cell} (h_memory : kd ≠ .memory) (h_counter : kd ≠ .counter) (h : s0.same kd s) :
    s0.sameRec kd { s with chk := v0, fog := v1, free := v2, mem := v3 } := by
  cases kd <;> first | contradiction | exact h
theorem State.same_upd_chk_mem_resv {v0 : List (Nat × Nat)} {v1 : List Host.Cell} {v2 : List (Nat × Nat)} (h_memory : kd ≠ .memory) (h_reservations : kd ≠ .reservations) (h : s0.same kd s) :
    s0.sameRec kd { s with chk := v0, mem := v1, resv := v2 } := by
  cases kd <;> first | contradiction | exact h
theorem State.same_upd_cists {v0 : List (Nat × CistSt)} (h_capture : kd ≠ .capture) (h : s0.same kd s) :
    s0.sameRec kd { s with cists := v0 } := by
  cases kd <;> first | contradiction | exact h
theorem State.same_upd_closed_draining {v0 : List Closed} {v1 : List Closed} (h_fabric : kd ≠ .fabric) (h_capture : kd ≠ .capture) (h : s0.same kd s) :
    s0.sameRec kd { s with closed := v0, draining := v1 } := by
  cases kd <;> first | contradiction | exact h
theorem State.same_upd_closed_nextClosed {v0 : List Closed} {v1 : Nat} (h_capture : kd ≠ .capture) (h : s0.same kd s) :
    s0.sameRec kd { s with closed := v0, nextClosed := v1 } := by
  cases kd <;> first | contradiction | exact h
theorem State.same_upd_code {v0 : List (Nat × Nat)} (h_programs : kd ≠ .programs) (h : s0.same kd s) :
    s0.sameRec kd { s with code := v0 } := by
  cases kd <;> first | contradiction | exact h
theorem State.same_upd_copy {v0 : CopySt} (h_host : kd ≠ .host) (h : s0.same kd s) :
    s0.sameRec kd { s with copy := v0 } := by
  cases kd <;> first | contradiction | exact h
theorem State.same_upd_csr {v0 : List (Nat × Word)}  (h : s0.same kd s) :
    s0.sameRec kd { s with csr := v0 } := by
  cases kd <;> first | contradiction | exact h
theorem State.same_upd_cxl {v0 : CxlSt} (h_host : kd ≠ .host) (h : s0.same kd s) :
    s0.sameRec kd { s with cxl := v0 } := by
  cases kd <;> first | contradiction | exact h
theorem State.same_upd_cxl_resp {v0 : CxlSt} {v1 : Resp} (h_host : kd ≠ .host) (h_answer : kd ≠ .answer) (h : s0.same kd s) :
    s0.sameRec kd { s with cxl := v0, resp := v1 } := by
  cases kd <;> first | contradiction | exact h
theorem State.same_upd_draining {v0 : List Closed} (h_fabric : kd ≠ .fabric) (h : s0.same kd s) :
    s0.sameRec kd { s with draining := v0 } := by
  cases kd <;> first | contradiction | exact h
theorem State.same_upd_elapsed {v0 : Nat} (h_clocks : kd ≠ .clocks) (h : s0.same kd s) :
    s0.sameRec kd { s with elapsed := v0 } := by
  cases kd <;> first | contradiction | exact h
theorem State.same_upd_engs {v0 : List (Nat × EngSt)} (h_engines : kd ≠ .engines) (h : s0.same kd s) :
    s0.sameRec kd { s with engs := v0 } := by
  cases kd <;> first | contradiction | exact h
theorem State.same_upd_evBook {v0 : List (Nat × EvBook)} (h_log : kd ≠ .log) (h : s0.same kd s) :
    s0.sameRec kd { s with evBook := v0 } := by
  cases kd <;> first | contradiction | exact h
theorem State.same_upd_evBook_evSeq_events {v0 : List (Nat × EvBook)} {v1 : Nat} {v2 : List Event} (h_log : kd ≠ .log) (h : s0.same kd s) :
    s0.sameRec kd { s with evBook := v0, evSeq := v1, events := v2 } := by
  cases kd <;> first | contradiction | exact h
theorem State.same_upd_fabs {v0 : List (Nat × FabSt)} (h_fabric : kd ≠ .fabric) (h : s0.same kd s) :
    s0.sameRec kd { s with fabs := v0 } := by
  cases kd <;> first | contradiction | exact h
theorem State.same_upd_fabs_pipes {v0 : List (Nat × FabSt)} {v1 : List (Nat × WireSt)} (h_fabric : kd ≠ .fabric) (h : s0.same kd s) :
    s0.sameRec kd { s with fabs := v0, pipes := v1 } := by
  cases kd <;> first | contradiction | exact h
theorem State.same_upd_fields {v0 : List (Nat × FieldSt)} (h_fabric : kd ≠ .fabric) (h : s0.same kd s) :
    s0.sameRec kd { s with fields := v0 } := by
  cases kd <;> first | contradiction | exact h
theorem State.same_upd_flt {v0 : FltSt} (h_capture : kd ≠ .capture) (h : s0.same kd s) :
    s0.sameRec kd { s with flt := v0 } := by
  cases kd <;> first | contradiction | exact h
theorem State.same_upd_fog {v0 : List (Nat × Nat)} (h_memory : kd ≠ .memory) (h : s0.same kd s) :
    s0.sameRec kd { s with fog := v0 } := by
  cases kd <;> first | contradiction | exact h
theorem State.same_upd_free {v0 : Nat} (h_counter : kd ≠ .counter) (h : s0.same kd s) :
    s0.sameRec kd { s with free := v0 } := by
  cases kd <;> first | contradiction | exact h
theorem State.same_upd_furs {v0 : List (Nat × FurSt)} (h_sequencers : kd ≠ .sequencers) (h : s0.same kd s) :
    s0.sameRec kd { s with furs := v0 } := by
  cases kd <;> first | contradiction | exact h
theorem State.same_upd_gau {v0 : GauSt} (h_debug : kd ≠ .debug) (h : s0.same kd s) :
    s0.sameRec kd { s with gau := v0 } := by
  cases kd <;> first | contradiction | exact h
theorem State.same_upd_hmcs {v0 : List (Nat × HmcSt)} (h_hbm : kd ≠ .hbm) (h : s0.same kd s) :
    s0.sameRec kd { s with hmcs := v0 } := by
  cases kd <;> first | contradiction | exact h
theorem State.same_upd_ingress {v0 : List Held} (h_ingress : kd ≠ .ingress) (h : s0.same kd s) :
    s0.sameRec kd { s with ingress := v0 } := by
  cases kd <;> first | contradiction | exact h
theorem State.same_upd_lanes {v0 : List (Nat × LaneSt)} (h_lanes : kd ≠ .lanes) (h : s0.same kd s) :
    s0.sameRec kd { s with lanes := v0 } := by
  cases kd <;> first | contradiction | exact h
theorem State.same_upd_ledg {v0 : List (Nat × Op)} (h_ledger : kd ≠ .ledger) (h : s0.same kd s) :
    s0.sameRec kd { s with ledg := v0 } := by
  cases kd <;> first | contradiction | exact h
theorem State.same_upd_loaders {v0 : List (Nat × PatchLd)} (h_programs : kd ≠ .programs) (h : s0.same kd s) :
    s0.sameRec kd { s with loaders := v0 } := by
  cases kd <;> first | contradiction | exact h
theorem State.same_upd_mem {v0 : List Host.Cell} (h_memory : kd ≠ .memory) (h : s0.same kd s) :
    s0.sameRec kd { s with mem := v0 } := by
  cases kd <;> first | contradiction | exact h
theorem State.same_upd_mods {v0 : List (Nat × ModSt)} (h_flume : kd ≠ .flume) (h : s0.same kd s) :
    s0.sameRec kd { s with mods := v0 } := by
  cases kd <;> first | contradiction | exact h
theorem State.same_upd_out {v0 : List Out} (h_outputs : kd ≠ .outputs) (h : s0.same kd s) :
    s0.sameRec kd { s with out := v0 } := by
  cases kd <;> first | contradiction | exact h
theorem State.same_upd_owed {v0 : List Owed} (h_requests : kd ≠ .requests) (h : s0.same kd s) :
    s0.sameRec kd { s with owed := v0 } := by
  cases kd <;> first | contradiction | exact h
theorem State.same_upd_patchRam {v0 : List (Nat × Nat)} (h_programs : kd ≠ .programs) (h : s0.same kd s) :
    s0.sameRec kd { s with patchRam := v0 } := by
  cases kd <;> first | contradiction | exact h
theorem State.same_upd_pcs {v0 : List (Nat × PcSt)} (h_lanes : kd ≠ .lanes) (h : s0.same kd s) :
    s0.sameRec kd { s with pcs := v0 } := by
  cases kd <;> first | contradiction | exact h
theorem State.same_upd_pipes {v0 : List (Nat × WireSt)} (h_fabric : kd ≠ .fabric) (h : s0.same kd s) :
    s0.sameRec kd { s with pipes := v0 } := by
  cases kd <;> first | contradiction | exact h
theorem State.same_upd_ports {v0 : List (Nat × PortSt)} (h_lanes : kd ≠ .lanes) (h : s0.same kd s) :
    s0.sameRec kd { s with ports := v0 } := by
  cases kd <;> first | contradiction | exact h
theorem State.same_upd_pow {v0 : PowSt} (h_management : kd ≠ .management) (h : s0.same kd s) :
    s0.sameRec kd { s with pow := v0 } := by
  cases kd <;> first | contradiction | exact h
theorem State.same_upd_qdrs {v0 : List (Nat × QdrSt)} (h_qdr : kd ≠ .qdr) (h : s0.same kd s) :
    s0.sameRec kd { s with qdrs := v0 } := by
  cases kd <;> first | contradiction | exact h
theorem State.same_upd_ranges {v0 : List (Nat × RangeSt)} (h_walkers : kd ≠ .walkers) (h : s0.same kd s) :
    s0.sameRec kd { s with ranges := v0 } := by
  cases kd <;> first | contradiction | exact h
theorem State.same_upd_remain {v0 : List (Nat × Int)} (h_shares : kd ≠ .shares) (h : s0.same kd s) :
    s0.sameRec kd { s with remain := v0 } := by
  cases kd <;> first | contradiction | exact h
theorem State.same_upd_remain_served {v0 : List (Nat × Int)} {v1 : List (Nat × Nat)} (h_shares : kd ≠ .shares) (h : s0.same kd s) :
    s0.sameRec kd { s with remain := v0, served := v1 } := by
  cases kd <;> first | contradiction | exact h
theorem State.same_upd_resp {v0 : Resp} (h_answer : kd ≠ .answer) (h : s0.same kd s) :
    s0.sameRec kd { s with resp := v0 } := by
  cases kd <;> first | contradiction | exact h
theorem State.same_upd_resv {v0 : List (Nat × Nat)} (h_reservations : kd ≠ .reservations) (h : s0.same kd s) :
    s0.sameRec kd { s with resv := v0 } := by
  cases kd <;> first | contradiction | exact h
theorem State.same_upd_rings {v0 : List (Nat × RingSt)} (h_debug : kd ≠ .debug) (h : s0.same kd s) :
    s0.sameRec kd { s with rings := v0 } := by
  cases kd <;> first | contradiction | exact h
theorem State.same_upd_served {v0 : List (Nat × Nat)} (h_shares : kd ≠ .shares) (h : s0.same kd s) :
    s0.sameRec kd { s with served := v0 } := by
  cases kd <;> first | contradiction | exact h
theorem State.same_upd_settings {v0 : List (Nat × Word)} (h_stores : kd ≠ .stores) (h : s0.same kd s) :
    s0.sameRec kd { s with settings := v0 } := by
  cases kd <;> first | contradiction | exact h
theorem State.same_upd_slaves {v0 : List (Nat × SlaveSt)} (h_clocks : kd ≠ .clocks) (h : s0.same kd s) :
    s0.sameRec kd { s with slaves := v0 } := by
  cases kd <;> first | contradiction | exact h
theorem State.same_upd_stores {v0 : List Host.Cell} (h_stores : kd ≠ .stores) (h : s0.same kd s) :
    s0.sameRec kd { s with stores := v0 } := by
  cases kd <;> first | contradiction | exact h
theorem State.same_upd_swaps {v0 : List (Nat × SwapSt)} (h_flume : kd ≠ .flume) (h : s0.same kd s) :
    s0.sameRec kd { s with swaps := v0 } := by
  cases kd <;> first | contradiction | exact h
theorem State.same_upd_tags {v0 : List (Nat × Tag)} (h_requests : kd ≠ .requests) (h : s0.same kd s) :
    s0.sameRec kd { s with tags := v0 } := by
  cases kd <;> first | contradiction | exact h
theorem State.same_upd_tap {v0 : TapSt} (h_debug : kd ≠ .debug) (h : s0.same kd s) :
    s0.sameRec kd { s with tap := v0 } := by
  cases kd <;> first | contradiction | exact h
theorem State.same_upd_time {v0 : TimeSt} (h_clocks : kd ≠ .clocks) (h : s0.same kd s) :
    s0.sameRec kd { s with time := v0 } := by
  cases kd <;> first | contradiction | exact h
theorem State.same_upd_turns {v0 : List (Nat × TurnSt)} (h_flume : kd ≠ .flume) (h : s0.same kd s) :
    s0.sameRec kd { s with turns := v0 } := by
  cases kd <;> first | contradiction | exact h
theorem State.same_upd_unaudited {v0 : List Nat} (h_requests : kd ≠ .requests) (h : s0.same kd s) :
    s0.sameRec kd { s with unaudited := v0 } := by
  cases kd <;> first | contradiction | exact h
theorem State.same_upd_unaudited_upSpent {v0 : List Nat} {v1 : List (Nat × Nat)} (h_requests : kd ≠ .requests) (h_shares : kd ≠ .shares) (h : s0.same kd s) :
    s0.sameRec kd { s with unaudited := v0, upSpent := v1 } := by
  cases kd <;> first | contradiction | exact h
theorem State.same_upd_upSpent {v0 : List (Nat × Nat)} (h_shares : kd ≠ .shares) (h : s0.same kd s) :
    s0.sameRec kd { s with upSpent := v0 } := by
  cases kd <;> first | contradiction | exact h
theorem State.same_upd_upd {v0 : UpdSt} (h_management : kd ≠ .management) (h : s0.same kd s) :
    s0.sameRec kd { s with upd := v0 } := by
  cases kd <;> first | contradiction | exact h
theorem State.same_upd_waiting {v0 : List Req} (h_requests : kd ≠ .requests) (h : s0.same kd s) :
    s0.sameRec kd { s with waiting := v0 } := by
  cases kd <;> first | contradiction | exact h
theorem State.same_upd_walk_walkTag {v0 : List Nat} {v1 : Nat} (h_requests : kd ≠ .requests) (h : s0.same kd s) :
    s0.sameRec kd { s with walk := v0, walkTag := v1 } := by
  cases kd <;> first | contradiction | exact h
theorem State.same_upd_walkers {v0 : List (Nat × WalkSt)} (h_walkers : kd ≠ .walkers) (h : s0.same kd s) :
    s0.sameRec kd { s with walkers := v0 } := by
  cases kd <;> first | contradiction | exact h
theorem State.same_upd_wm {v0 : WmSt} (h_debug : kd ≠ .debug) (h : s0.same kd s) :
    s0.sameRec kd { s with wm := v0 } := by
  cases kd <;> first | contradiction | exact h
theorem State.same_upd_xbar {v0 : List Wire} (h_flume : kd ≠ .flume) (h : s0.same kd s) :
    s0.sameRec kd { s with xbar := v0 } := by
  cases kd <;> first | contradiction | exact h

end Sys2Proof.Machine
end

