-- ==== Sys2Proof/Laws/SameOps.lean ====
section
/-! SUPPORT. The kinds of state that every operation and meaning of Machine/Ops.lean leaves as they are (Laws/Same.lean). -/
set_option maxRecDepth 4000
set_option linter.unusedVariables false
namespace Sys2Proof.Machine

theorem State.set_same {kd : StateKind} {s0 : State} {s : State} {f : Field} {v : Nat} {i : Nat} {j : Nat} {k : Nat} (hs : s0.same kd s) :
    s0.same kd (State.set s f v i j k) := by
  unfold State.set
  try dsimp only
  repeat' (first | with_reducible (first | assumption) | (simp only [State.same_mk]; refine State.same_upd_csr ?_))

theorem State.raise_same {kd : StateKind} {s0 : State} {s : State} {f : Field} {i : Nat} {j : Nat} {k : Nat} (hs : s0.same kd s) :
    s0.same kd (State.raise s f i j k) := by
  unfold State.raise
  try dsimp only
  repeat' (first | with_reducible (first | assumption | apply State.set_same))

theorem State.lower_same {kd : StateKind} {s0 : State} {s : State} {f : Field} {i : Nat} {j : Nat} {k : Nat} (hs : s0.same kd s) :
    s0.same kd (State.lower s f i j k) := by
  unfold State.lower
  try dsimp only
  repeat' (first | with_reducible (first | assumption | apply State.set_same))

theorem State.setB_same {kd : StateKind} {s0 : State} {s : State} {f : Field} {b : Bool} {i : Nat} {j : Nat} {k : Nat} (hs : s0.same kd s) :
    s0.same kd (State.setB s f b i j k) := by
  unfold State.setB
  try dsimp only
  repeat' (first | with_reducible (first | assumption | apply State.same_ite_fst | apply State.same_ite | apply State.set_same))

theorem State.clearField_same {kd : StateKind} {s0 : State} {s : State} {f : Field} {i : Nat} {j : Nat} {k : Nat} (hs : s0.same kd s) :
    s0.same kd (State.clearField s f i j k) := by
  unfold State.clearField
  try dsimp only
  repeat' (first | with_reducible (first | assumption | apply State.set_same))

theorem State.count_same {kd : StateKind} {s0 : State} {s : State} {f : Field} {n : Nat} {i : Nat} {j : Nat} {k : Nat} (hs : s0.same kd s) :
    s0.same kd (State.count s f n i j k) := by
  unfold State.count
  try dsimp only
  repeat' (first | with_reducible (first | assumption | apply State.set_same))

theorem State.wrap_same {kd : StateKind} {s0 : State} {s : State} {f : Field} {n : Nat} {i : Nat} {j : Nat} {k : Nat} (hs : s0.same kd s) :
    s0.same kd (State.wrap s f n i j k) := by
  unfold State.wrap
  try dsimp only
  repeat' (first | with_reducible (first | assumption | apply State.set_same))

theorem State.set2_same {kd : StateKind} {s0 : State} {s : State} {lo : Field} {hi : Field} {v : Nat} {i : Nat} {j : Nat} {k : Nat} (hs : s0.same kd s) :
    s0.same kd (State.set2 s lo hi v i j k) := by
  unfold State.set2
  try dsimp only
  repeat' (first | with_reducible (first | assumption | apply State.set_same))

theorem State.wrap2_same {kd : StateKind} {s0 : State} {s : State} {lo : Field} {hi : Field} {n : Nat} {i : Nat} {j : Nat} {k : Nat} (hs : s0.same kd s) :
    s0.same kd (State.wrap2 s lo hi n i j k) := by
  unfold State.wrap2
  try dsimp only
  repeat' (first | with_reducible (first | assumption | apply State.set2_same))

theorem State.setBitOf_same {kd : StateKind} {s0 : State} {s : State} {f : Field} {b : Nat} {i : Nat} {j : Nat} {k : Nat} (hs : s0.same kd s) :
    s0.same kd (State.setBitOf s f b i j k) := by
  unfold State.setBitOf
  try dsimp only
  repeat' (first | with_reducible (first | assumption | apply State.set_same))

theorem State.clearBitOf_same {kd : StateKind} {s0 : State} {s : State} {f : Field} {b : Nat} {i : Nat} {j : Nat} {k : Nat} (hs : s0.same kd s) :
    s0.same kd (State.clearBitOf s f b i j k) := by
  unfold State.clearBitOf
  try dsimp only
  repeat' (first | with_reducible (first | assumption | apply State.set_same))

theorem State.wr_same {kd : StateKind} {s0 : State} {s : State} {v : Nat} {f : Field} {i : Nat} {j : Nat} {k : Nat} (hs : s0.same kd s) :
    s0.same kd (State.wr s v f i j k) := by
  unfold State.wr
  try dsimp only
  repeat' (first | with_reducible (first | assumption | apply State.same_ite_fst | apply State.same_ite | apply State.set_same))

theorem State.wrAll_same {kd : StateKind} {s0 : State} {s : State} {v : Nat} {fs : List Field} {i : Nat} {j : Nat} {k : Nat} (hs : s0.same kd s) :
    s0.same kd (State.wrAll s v fs i j k) := by
  unfold State.wrAll
  try dsimp only
  repeat' (first | with_reducible (first | assumption | intro s x _ | intro s _ | intro x | apply State.same_foldl | apply State.same_foldl_fst | apply State.wr_same))

theorem State.w1c_same {kd : StateKind} {s0 : State} {s : State} {v : Nat} {f : Field} {i : Nat} {j : Nat} {k : Nat} (hs : s0.same kd s) :
    s0.same kd (State.w1c s v f i j k) := by
  unfold State.w1c
  try dsimp only
  repeat' (first | with_reducible (first | assumption | apply State.set_same))

theorem State.w1cAll_same {kd : StateKind} {s0 : State} {s : State} {v : Nat} {fs : List Field} {i : Nat} {j : Nat} {k : Nat} (hs : s0.same kd s) :
    s0.same kd (State.w1cAll s v fs i j k) := by
  unfold State.w1cAll
  try dsimp only
  repeat' (first | with_reducible (first | assumption | intro s x _ | intro s _ | intro x | apply State.same_foldl | apply State.same_foldl_fst | apply State.w1c_same))

theorem State.used_same {kd : StateKind} {s0 : State} {s : State} (h_counter : kd ≠ .counter) (hs : s0.same kd s) :
    s0.same kd (State.used s) := by
  unfold State.used
  try dsimp only
  repeat' (first | with_reducible (first | assumption) | (simp only [State.same_mk]; refine State.same_upd_free ?_ ?_))

theorem State.answer_same {kd : StateKind} {s0 : State} {s : State} {st : RStat} (h_answer : kd ≠ .answer) (hs : s0.same kd s) :
    s0.same kd (State.answer s st) := by
  unfold State.answer
  try dsimp only
  repeat' (first | with_reducible (first | assumption) | (simp only [State.same_mk]; refine State.same_upd_resp ?_ ?_))

theorem State.answerData_same {kd : StateKind} {s0 : State} {s : State} {d : List Byte} (h_answer : kd ≠ .answer) (hs : s0.same kd s) :
    s0.same kd (State.answerData s d) := by
  unfold State.answerData
  try dsimp only
  repeat' (first | with_reducible (first | assumption) | (simp only [State.same_mk]; refine State.same_upd_resp ?_ ?_))

theorem State.emit_same {kd : StateKind} {s0 : State} {s : State} {o : Out} (h_outputs : kd ≠ .outputs) (hs : s0.same kd s) :
    s0.same kd (State.emit s o) := by
  unfold State.emit
  try dsimp only
  repeat' (first | with_reducible (first | assumption) | (simp only [State.same_mk]; refine State.same_upd_out ?_ ?_))

theorem State.setSwap_same {kd : StateKind} {s0 : State} {s : State} {n : Nat} {v : SwapSt} (h_flume : kd ≠ .flume) (hs : s0.same kd s) :
    s0.same kd (State.setSwap s n v) := by
  unfold State.setSwap
  try dsimp only
  repeat' (first | with_reducible (first | assumption) | (simp only [State.same_mk]; refine State.same_upd_swaps ?_ ?_))

theorem State.endSwap_same {kd : StateKind} {s0 : State} {s : State} {n : Nat} (h_flume : kd ≠ .flume) (hs : s0.same kd s) :
    s0.same kd (State.endSwap s n) := by
  unfold State.endSwap
  try dsimp only
  repeat' (first | with_reducible (first | assumption) | (simp only [State.same_mk]; refine State.same_upd_swaps ?_ ?_))

theorem State.setFab_same {kd : StateKind} {s0 : State} {s : State} {n : Nat} {f : FabSt} (h_fabric : kd ≠ .fabric) (hs : s0.same kd s) :
    s0.same kd (State.setFab s n f) := by
  unfold State.setFab
  try dsimp only
  repeat' (first | with_reducible (first | assumption) | (simp only [State.same_mk]; refine State.same_upd_fabs ?_ ?_))

theorem State.dropFab_same {kd : StateKind} {s0 : State} {s : State} {n : Nat} (h_fabric : kd ≠ .fabric) (hs : s0.same kd s) :
    s0.same kd (State.dropFab s n) := by
  unfold State.dropFab
  try dsimp only
  repeat' (first | with_reducible (first | assumption) | (simp only [State.same_mk]; refine State.same_upd_fabs ?_ ?_))

theorem State.fabFloats_same {kd : StateKind} {s0 : State} {s : State} {m : Nat} (h_fabric : kd ≠ .fabric) (hs : s0.same kd s) :
    s0.same kd (State.fabFloats s m) := by
  unfold State.fabFloats
  try dsimp only
  repeat' (first | with_reducible (first | assumption) | (simp only [State.same_mk]; refine State.same_upd_fabs ?_ ?_) | split)

theorem State.timedOut_same {kd : StateKind} {s0 : State} {s : State} {st : RStat} (hs : s0.same kd s) :
    s0.same kd (State.timedOut s st) := by
  unfold State.timedOut
  try dsimp only
  repeat' (first | with_reducible (first | assumption | apply State.same_ite_fst | apply State.same_ite | apply State.count_same))

theorem State.access_same {kd : StateKind} {s0 : State} {s : State} {b : Blk} {n : Nat} {f : State → State} (h_answer : kd ≠ .answer) (hs : s0.same kd s) (hf : ∀ s, s0.same kd s → s0.same kd (f s)) :
    s0.same kd (State.access s b n f) := by
  unfold State.access
  try dsimp only
  repeat' (first | with_reducible (first | assumption | apply hf | apply SameO.none | apply SameO.some_id | apply SameO.some | apply SameO.ite | apply State.answer_same | apply State.timedOut_same) | split)

theorem State.setStamp_same {kd : StateKind} {s0 : State} {s : State} {r : StampRegs} {t : Nat} {i : Nat} (hs : s0.same kd s) :
    s0.same kd (State.setStamp s r t i) := by
  unfold State.setStamp
  try dsimp only
  repeat' (first | with_reducible (first | assumption | apply State.set_same))

theorem State.setSlave_same {kd : StateKind} {s0 : State} {s : State} {n : Nat} {v : SlaveSt} (h_clocks : kd ≠ .clocks) (hs : s0.same kd s) :
    s0.same kd (State.setSlave s n v) := by
  unfold State.setSlave
  try dsimp only
  repeat' (first | with_reducible (first | assumption) | (simp only [State.same_mk]; refine State.same_upd_slaves ?_ ?_))

theorem State.keepAlive_same {kd : StateKind} {s0 : State} {s : State} {on : Bool} (h_clocks : kd ≠ .clocks) (h_counter : kd ≠ .counter) (hs : s0.same kd s) :
    s0.same kd (State.keepAlive s on) := by
  unfold State.keepAlive
  try dsimp only
  repeat' (first | with_reducible (first | assumption | apply State.same_ite_fst | apply State.same_ite | apply State.raise_same | apply State.used_same) | (simp only [State.same_mk]; refine State.same_upd_time ?_ ?_))

theorem State.logEvent_same {kd : StateKind} {s0 : State} {s : State} {code : Nat} {die : Nat} {arg : Nat} (h_log : kd ≠ .log) (hs : s0.same kd s) :
    s0.same kd (State.logEvent s code die arg) := by
  unfold State.logEvent
  try dsimp only
  repeat' (first | with_reducible (first | assumption | apply State.same_ite_fst | apply State.same_ite) | (simp only [State.same_mk]; first | refine State.same_upd_evBook ?_ ?_ | refine State.same_upd_evBook_evSeq_events ?_ ?_))

end Sys2Proof.Machine
end

