-- ==== Sys2Proof/Laws/SameLedger.lean ====
section
/-! SUPPORT. The kinds of state that every operation and meaning of Machine/Ledger.lean leaves as they are (Laws/Same.lean). -/
set_option maxRecDepth 4000
set_option linter.unusedVariables false
namespace Sys2Proof.Machine

theorem State.setOp_same {kd : StateKind} {s0 : State} {s : State} {i : Nat} {o : Op} (h_ledger : kd ≠ .ledger) (hs : s0.same kd s) :
    s0.same kd (State.setOp s i o) := by
  unfold State.setOp
  try dsimp only
  repeat' (first | with_reducible (first | assumption) | (simp only [State.same_mk]; refine State.same_upd_ledg ?_ ?_))

theorem State.opBegin_same {kd : StateKind} {s0 : State} {s : State} {i : Nat} {opcode : Nat} {state : Nat} {error : Nat} {src : Nat} {result : Nat} (h_ledger : kd ≠ .ledger) (hs : s0.same kd s) :
    s0.same kd (State.opBegin s i opcode state error src result) := by
  unfold State.opBegin
  try dsimp only
  repeat' (first | with_reducible (first | assumption | apply State.setOp_same))

theorem State.opRefuse_same {kd : StateKind} {s0 : State} {s : State} {i : Nat} {opcode : Nat} {src : Nat} (h_ledger : kd ≠ .ledger) (hs : s0.same kd s) :
    s0.same kd (State.opRefuse s i opcode src) := by
  unfold State.opRefuse
  try dsimp only
  repeat' (first | with_reducible (first | assumption | apply State.opBegin_same))

theorem State.opMove_same {kd : StateKind} {s0 : State} {s : State} {i : Nat} {state : Nat} {progress : Nat} {opspec : List Nat} (h_ledger : kd ≠ .ledger) (hs : s0.same kd s) :
    s0.same kd (State.opMove s i state progress opspec) := by
  unfold State.opMove
  try dsimp only
  repeat' (first | with_reducible (first | assumption | apply State.setOp_same) | split)

theorem State.opDone_same {kd : StateKind} {s0 : State} {s : State} {i : Nat} (h_ledger : kd ≠ .ledger) (hs : s0.same kd s) :
    s0.same kd (State.opDone s i) := by
  unfold State.opDone
  try dsimp only
  repeat' (first | with_reducible (first | assumption | apply State.opMove_same))

theorem State.opFail_same {kd : StateKind} {s0 : State} {s : State} {i : Nat} {error : Nat} (h_ledger : kd ≠ .ledger) (hs : s0.same kd s) :
    s0.same kd (State.opFail s i error) := by
  unfold State.opFail
  try dsimp only
  repeat' (first | with_reducible (first | assumption | apply State.setOp_same))

theorem State.sendMsix_same {kd : StateKind} {s0 : State} {s : State} (h_host : kd ≠ .host) (h_outputs : kd ≠ .outputs) (hs : s0.same kd s) :
    s0.same kd (State.sendMsix s) := by
  unfold State.sendMsix
  try dsimp only
  repeat' (first | with_reducible (first | assumption | apply State.same_ite_fst | apply State.same_ite | apply State.emit_same) | (simp only [State.same_mk]; refine State.same_upd_cxl ?_ ?_) | split)

theorem State.sendNow_same {kd : StateKind} {s0 : State} {s : State} (h_host : kd ≠ .host) (h_outputs : kd ≠ .outputs) (hs : s0.same kd s) :
    s0.same kd (State.sendNow s) := by
  unfold State.sendNow
  try dsimp only
  repeat' (first | with_reducible (first | assumption | apply State.sendMsix_same) | (simp only [State.same_mk]; refine State.same_upd_cxl ?_ ?_))

theorem State.sendVector_same {kd : StateKind} {s0 : State} {s : State} (h_host : kd ≠ .host) (h_outputs : kd ≠ .outputs) (hs : s0.same kd s) :
    s0.same kd (State.sendVector s) := by
  unfold State.sendVector
  try dsimp only
  repeat' (first | with_reducible (first | assumption | apply State.same_ite_fst | apply State.same_ite | apply State.sendNow_same | apply State.lower_same) | (simp only [State.same_mk]; refine State.same_upd_cxl ?_ ?_))

theorem State.entryChanged_same {kd : StateKind} {s0 : State} {s : State} {i : Nat} (h_host : kd ≠ .host) (h_outputs : kd ≠ .outputs) (hs : s0.same kd s) :
    s0.same kd (State.entryChanged s i) := by
  unfold State.entryChanged
  try dsimp only
  repeat' (first | with_reducible (first | assumption | apply State.same_ite_fst | apply State.same_ite | apply State.sendVector_same | apply State.setBitOf_same))

theorem State.mirrorFail_same {kd : StateKind} {s0 : State} {s : State} (hs : s0.same kd s) :
    s0.same kd (State.mirrorFail s) := by
  unfold State.mirrorFail
  try dsimp only
  repeat' (first | with_reducible (first | assumption | apply State.raise_same | apply State.lower_same))

theorem State.mirrorEntry_same {kd : StateKind} {s0 : State} {s : State} {i : Nat} {ok : Bool} (h_outputs : kd ≠ .outputs) (hs : s0.same kd s) :
    s0.same kd (State.mirrorEntry s i ok) := by
  unfold State.mirrorEntry
  try dsimp only
  repeat' (first | with_reducible (first | assumption | apply State.same_ite_fst | apply State.same_ite | apply State.mirrorFail_same | apply State.emit_same))

theorem State.completionRecord_same {kd : StateKind} {s0 : State} {s : State} {i : Nat} {ok : Bool} (h_outputs : kd ≠ .outputs) (hs : s0.same kd s) :
    s0.same kd (State.completionRecord s i ok) := by
  unfold State.completionRecord
  try dsimp only
  repeat' (first | with_reducible (first | assumption | apply State.same_ite_fst | apply State.same_ite | apply State.mirrorFail_same | apply State.raise_same | apply State.count_same | apply State.wrap_same | apply State.emit_same))

theorem State.writeEntry_same {kd : StateKind} {s0 : State} {s : State} {i : Nat} {o : Op} (hs : s0.same kd s) :
    s0.same kd (State.writeEntry s i o) := by
  unfold State.writeEntry
  try dsimp only
  repeat' (first | with_reducible (first | assumption | intro s x _ | intro s _ | intro x | apply State.same_foldl | apply State.same_foldl_fst | apply State.set_same | apply State.wrap_same | apply State.set2_same))

theorem execLedgerEntryWrite_same {kd : StateKind} {s0 : State} {i : Fin 1024} {ok : Bool} {s : State} (h_ledger : kd ≠ .ledger) (h_host : kd ≠ .host) (h_outputs : kd ≠ .outputs) (hs : s0.same kd s) :
    SameR kd s0 (execLedgerEntryWrite i ok s) := by
  unfold execLedgerEntryWrite
  try dsimp only
  repeat' (first | with_reducible (first | assumption | apply SameR.next | apply SameR.ite | apply State.same_ite_fst | apply State.same_ite | apply State.setOp_same | apply State.entryChanged_same | apply State.mirrorEntry_same | apply State.completionRecord_same | apply State.writeEntry_same))

theorem State.releaseEntry_same {kd : StateKind} {s0 : State} {s : State} {i : Nat} (h_ledger : kd ≠ .ledger) (h_outputs : kd ≠ .outputs) (hs : s0.same kd s) :
    s0.same kd (State.releaseEntry s i) := by
  unfold State.releaseEntry
  try dsimp only
  repeat' (first | with_reducible (first | assumption | apply State.same_ite_fst | apply State.same_ite | apply State.setOp_same | apply State.mirrorEntry_same | apply State.writeEntry_same | apply State.raise_same | apply State.clearBitOf_same))

theorem execLedgerRelease_same {kd : StateKind} {s0 : State} {v : Word} {s : State} (h_ledger : kd ≠ .ledger) (h_outputs : kd ≠ .outputs) (h_answer : kd ≠ .answer) (hs : s0.same kd s) :
    SameR kd s0 (execLedgerRelease v s) := by
  unfold execLedgerRelease
  try dsimp only
  repeat' (first | with_reducible (first | assumption | intro s x _ | intro s _ | intro x | apply SameR.next | apply SameR.ite | apply State.same_ite_fst | apply State.same_ite | apply State.releaseEntry_same | apply State.access_same))

theorem State.writeLmirLo_same {kd : StateKind} {s0 : State} {s : State} {v : Nat} (hs : s0.same kd s) :
    s0.same kd (State.writeLmirLo s v) := by
  unfold State.writeLmirLo
  try dsimp only
  repeat' (first | with_reducible (first | assumption | apply State.same_ite_fst | apply State.same_ite | apply State.set_same | apply State.raise_same | apply State.lower_same))

theorem State.writeLcrLo_same {kd : StateKind} {s0 : State} {s : State} {v : Nat} (hs : s0.same kd s) :
    s0.same kd (State.writeLcrLo s v) := by
  unfold State.writeLcrLo
  try dsimp only
  repeat' (first | with_reducible (first | assumption | apply State.same_ite_fst | apply State.same_ite | apply State.set_same | apply State.raise_same | apply State.lower_same))

theorem State.writeLcrHi_same {kd : StateKind} {s0 : State} {s : State} {v : Nat} (hs : s0.same kd s) :
    s0.same kd (State.writeLcrHi s v) := by
  unfold State.writeLcrHi
  try dsimp only
  repeat' (first | with_reducible (first | assumption | apply State.set_same | apply State.lower_same))

theorem State.writeLcrCons_same {kd : StateKind} {s0 : State} {s : State} {v : Nat} (hs : s0.same kd s) :
    s0.same kd (State.writeLcrCons s v) := by
  unfold State.writeLcrCons
  try dsimp only
  repeat' (first | with_reducible (first | assumption | apply State.same_ite_fst | apply State.same_ite | apply State.set_same))

theorem execMirrorEnable_same {kd : StateKind} {s0 : State} {ring : Bool} {v : Word} {s : State} (h_answer : kd ≠ .answer) (hs : s0.same kd s) :
    SameR kd s0 (execMirrorEnable ring v s) := by
  unfold execMirrorEnable
  try dsimp only
  repeat' (first | with_reducible (first | assumption | intro s x _ | intro s _ | intro x | apply SameR.next | apply SameR.ite | apply State.same_ite_fst | apply State.same_ite | apply State.writeLmirLo_same | apply State.writeLcrLo_same | apply State.access_same))

theorem execCompletionRingReset_same {kd : StateKind} {s0 : State} {hi : Bool} {v : Word} {s : State} (h_answer : kd ≠ .answer) (hs : s0.same kd s) :
    SameR kd s0 (execCompletionRingReset hi v s) := by
  unfold execCompletionRingReset
  try dsimp only
  repeat' (first | with_reducible (first | assumption | intro s x _ | intro s _ | intro x | apply SameR.next | apply SameR.ite | apply State.same_ite_fst | apply State.same_ite | apply State.writeLcrLo_same | apply State.writeLcrHi_same | apply State.access_same))

theorem execLedgerVector_same {kd : StateKind} {s0 : State} {i : Fin 1024} {s : State} (h_host : kd ≠ .host) (h_outputs : kd ≠ .outputs) (hs : s0.same kd s) :
    SameR kd s0 (execLedgerVector i s) := by
  unfold execLedgerVector
  try dsimp only
  repeat' (first | with_reducible (first | assumption | apply SameR.next | apply SameR.ite | apply State.entryChanged_same))

theorem State.writeLirq_same {kd : StateKind} {s0 : State} {s : State} {v : Nat} (h_host : kd ≠ .host) (h_outputs : kd ≠ .outputs) (hs : s0.same kd s) :
    s0.same kd (State.writeLirq s v) := by
  unfold State.writeLirq
  try dsimp only
  repeat' (first | with_reducible (first | assumption | apply State.same_ite_fst | apply State.same_ite | apply State.sendVector_same | apply State.set_same | apply State.raise_same | apply State.setB_same))

theorem execVectorArm_same {kd : StateKind} {s0 : State} {v : Word} {s : State} (h_host : kd ≠ .host) (h_outputs : kd ≠ .outputs) (h_answer : kd ≠ .answer) (hs : s0.same kd s) :
    SameR kd s0 (execVectorArm v s) := by
  unfold execVectorArm
  try dsimp only
  repeat' (first | with_reducible (first | assumption | intro s x _ | intro s _ | intro x | apply SameR.next | apply SameR.ite | apply State.writeLirq_same | apply State.access_same))

theorem execHoldoffExpiry_same {kd : StateKind} {s0 : State} {s : State} (h_host : kd ≠ .host) (h_outputs : kd ≠ .outputs) (hs : s0.same kd s) :
    SameR kd s0 (execHoldoffExpiry s) := by
  unfold execHoldoffExpiry
  try dsimp only
  repeat' (first | with_reducible (first | assumption | apply SameR.next | apply SameR.ite | apply State.same_ite_fst | apply State.same_ite | apply State.sendNow_same) | (simp only [State.same_mk]; refine State.same_upd_cxl ?_ ?_))

end Sys2Proof.Machine
end

