-- ==== Sys2Proof/Laws/SameHub.lean ====
section
/-! SUPPORT. The kinds of state that every operation and meaning of Machine/Hub.lean leaves as they are (Laws/Same.lean). -/
set_option maxRecDepth 4000
set_option linter.unusedVariables false
namespace Sys2Proof.Machine

theorem State.setCfe_same {kd : StateKind} {s0 : State} {s : State} {l : Nat} {v : CfeSt} (h_capture : kd ≠ .capture) (hs : s0.same kd s) :
    s0.same kd (State.setCfe s l v) := by
  unfold State.setCfe
  try dsimp only
  repeat' (first | with_reducible (first | assumption) | (simp only [State.same_mk]; refine State.same_upd_cfes ?_ ?_))

theorem State.setCist_same {kd : StateKind} {s0 : State} {s : State} {c : Nat} {v : CistSt} (h_capture : kd ≠ .capture) (hs : s0.same kd s) :
    s0.same kd (State.setCist s c v) := by
  unfold State.setCist
  try dsimp only
  repeat' (first | with_reducible (first | assumption) | (simp only [State.same_mk]; refine State.same_upd_cists ?_ ?_))

theorem State.setMod_same {kd : StateKind} {s0 : State} {s : State} {i : Nat} {m : Nat} {v : ModSt} (h_flume : kd ≠ .flume) (hs : s0.same kd s) :
    s0.same kd (State.setMod s i m v) := by
  unfold State.setMod
  try dsimp only
  repeat' (first | with_reducible (first | assumption) | (simp only [State.same_mk]; refine State.same_upd_mods ?_ ?_))

theorem State.book_same {kd : StateKind} {s0 : State} {s : State} {f : Field} {d : Int} (hs : s0.same kd s) :
    s0.same kd (State.book s f d) := by
  unfold State.book
  try dsimp only
  repeat' (first | with_reducible (first | assumption | apply State.set_same))

theorem State.poolFull_same {kd : StateKind} {s0 : State} {s : State} (hs : s0.same kd s) :
    s0.same kd (State.poolFull s) := by
  unfold State.poolFull
  try dsimp only
  repeat' (first | with_reducible (first | assumption | apply State.same_ite_fst | apply State.same_ite | apply State.raise_same | apply State.lower_same))

theorem State.lend_same {kd : StateKind} {s0 : State} {s : State} {l : Nat} (h_capture : kd ≠ .capture) (hs : s0.same kd s) :
    s0.same kd (State.lend s l) := by
  unfold State.lend
  try dsimp only
  repeat' (first | with_reducible (first | assumption | apply State.same_ite_fst | apply State.same_ite | apply State.setCfe_same | apply State.book_same | apply State.poolFull_same))

theorem State.enqueueClosed_same {kd : StateKind} {s0 : State} {s : State} {reserve : Bool} {recs : List StRec} (h_capture : kd ≠ .capture) (hs : s0.same kd s) :
    s0.same kd (State.enqueueClosed s reserve recs) := by
  unfold State.enqueueClosed
  try dsimp only
  repeat' (first | with_reducible (first | assumption) | (simp only [State.same_mk]; refine State.same_upd_closed_nextClosed ?_ ?_))

theorem State.closeFirst_same {kd : StateKind} {s0 : State} {s : State} {l : Nat} (h_capture : kd ≠ .capture) (hs : s0.same kd s) :
    s0.same kd (State.closeFirst s l) := by
  unfold State.closeFirst
  try dsimp only
  repeat' (first | with_reducible (first | assumption | apply State.same_ite_fst | apply State.same_ite | apply State.setCfe_same | apply State.book_same | apply State.enqueueClosed_same) | split)

theorem State.closeAll_same {kd : StateKind} {s0 : State} {s : State} {l : Nat} (h_capture : kd ≠ .capture) (hs : s0.same kd s) :
    s0.same kd (State.closeAll s l) := by
  unfold State.closeAll
  try dsimp only
  repeat' (first | with_reducible (first | assumption | intro s x _ | intro s _ | intro x | apply State.same_foldl | apply State.same_foldl_fst | apply State.closeFirst_same))

theorem State.returnSegs_same {kd : StateKind} {s0 : State} {s : State} {l : Nat} (h_capture : kd ≠ .capture) (hs : s0.same kd s) :
    s0.same kd (State.returnSegs s l) := by
  unfold State.returnSegs
  try dsimp only
  repeat' (first | with_reducible (first | assumption | apply State.setCfe_same | apply State.book_same | apply State.poolFull_same))

theorem State.spend_same {kd : StateKind} {s0 : State} {s : State} {l : Nat} {b : Nat} (h_capture : kd ≠ .capture) (hs : s0.same kd s) :
    s0.same kd (State.spend s l b) := by
  unfold State.spend
  try dsimp only
  repeat' (first | with_reducible (first | assumption | apply State.setCfe_same))

theorem State.snap_same {kd : StateKind} {s0 : State} {s : State} {c : Nat} (h_capture : kd ≠ .capture) (hs : s0.same kd s) :
    s0.same kd (State.snap s c) := by
  unfold State.snap
  try dsimp only
  repeat' (first | with_reducible (first | assumption | apply State.same_ite_fst | apply State.same_ite | apply State.setCist_same))

theorem State.publish_same {kd : StateKind} {s0 : State} {s : State} {c : Nat} {state : Nat} {error : Nat} (h_capture : kd ≠ .capture) (h_ledger : kd ≠ .ledger) (hs : s0.same kd s) :
    s0.same kd (State.publish s c state error) := by
  unfold State.publish
  try dsimp only
  repeat' (first | with_reducible (first | assumption | apply State.same_ite_fst | apply State.same_ite | apply SameO.none | apply SameO.some_id | apply SameO.some | apply SameO.ite | apply State.snap_same | apply State.setOp_same | apply State.opMove_same) | split)

theorem State.endCist_same {kd : StateKind} {s0 : State} {s : State} {c : Nat} {state : Nat} {error : Nat} (h_capture : kd ≠ .capture) (h_ledger : kd ≠ .ledger) (hs : s0.same kd s) :
    s0.same kd (State.endCist s c state error) := by
  unfold State.endCist
  try dsimp only
  repeat' (first | with_reducible (first | assumption | apply State.setCist_same | apply State.publish_same))

theorem State.maybeDone_same {kd : StateKind} {s0 : State} {s : State} {c : Nat} (h_capture : kd ≠ .capture) (h_ledger : kd ≠ .ledger) (hs : s0.same kd s) :
    s0.same kd (State.maybeDone s c) := by
  unfold State.maybeDone
  try dsimp only
  repeat' (first | with_reducible (first | assumption | apply State.same_ite_fst | apply State.same_ite | apply State.endCist_same))

theorem State.arm_same {kd : StateKind} {s0 : State} {s : State} {c : Nat} {src : Nat} (h_capture : kd ≠ .capture) (h_ledger : kd ≠ .ledger) (hs : s0.same kd s) :
    s0.same kd (State.arm s c src) := by
  unfold State.arm
  try dsimp only
  repeat' (first | with_reducible (first | assumption | apply State.same_ite_fst | apply State.same_ite | apply SameO.none | apply SameO.some_id | apply SameO.some | apply SameO.ite | apply State.setCist_same | apply State.publish_same | apply State.endCist_same | apply State.opBegin_same | apply State.opRefuse_same | apply State.set_same | apply State.raise_same | apply State.set2_same))

theorem State.disarm_same {kd : StateKind} {s0 : State} {s : State} {c : Nat} (h_capture : kd ≠ .capture) (h_ledger : kd ≠ .ledger) (hs : s0.same kd s) :
    s0.same kd (State.disarm s c) := by
  unfold State.disarm
  try dsimp only
  repeat' (first | with_reducible (first | assumption | apply State.same_ite_fst | apply State.same_ite | apply State.setCist_same | apply State.endCist_same | apply State.set_same | apply State.count_same) | (simp only [State.same_mk]; refine State.same_upd_cfes_closed ?_ ?_))

theorem State.mark_same {kd : StateKind} {s0 : State} {s : State} {c : Nat} {stamp : Nat} {from_ : Nat} {toSt : Nat} {cause : Nat} {acts : Nat} {count : Nat} (h_capture : kd ≠ .capture) (hs : s0.same kd s) :
    s0.same kd (State.mark s c stamp from_ toSt cause acts count) := by
  unfold State.mark
  try dsimp only
  repeat' (first | with_reducible (first | assumption | apply State.same_ite_fst | apply State.same_ite | apply State.setCist_same | apply State.book_same | apply State.enqueueClosed_same | apply State.raise_same))

theorem State.actOn_same {kd : StateKind} {s0 : State} {s : State} {c : Nat} {stamp : Nat} {from_ : Nat} {toSt : Nat} {cause : Nat} {acts : Nat} {count : Nat} (h_capture : kd ≠ .capture) (h_ledger : kd ≠ .ledger) (hs : s0.same kd s) :
    s0.same kd (State.actOn s c stamp from_ toSt cause acts count) := by
  unfold State.actOn
  try dsimp only
  repeat' (first | with_reducible (first | assumption | apply State.same_ite_fst | apply State.same_ite | apply SameO.none | apply SameO.some_id | apply SameO.some | apply SameO.ite | apply State.setCist_same | apply State.publish_same | apply State.maybeDone_same | apply State.mark_same | apply State.set_same) | split)

theorem State.act_same {kd : StateKind} {s0 : State} {s : State} {groups : Nat} {stamp : Nat} {from_ : Nat} {toSt : Nat} {cause : Nat} {acts : Nat} {count : Nat} (h_capture : kd ≠ .capture) (h_ledger : kd ≠ .ledger) (hs : s0.same kd s) :
    s0.same kd (State.act s groups stamp from_ toSt cause acts count) := by
  unfold State.act
  try dsimp only
  repeat' (first | with_reducible (first | assumption | intro s x _ | intro s _ | intro x | apply State.same_ite_fst | apply State.same_ite | apply State.same_foldl | apply State.same_foldl_fst | apply State.actOn_same))

theorem State.cistsFrozen_same {kd : StateKind} {s0 : State} {s : State} (h_capture : kd ≠ .capture) (h_ledger : kd ≠ .ledger) (hs : s0.same kd s) :
    s0.same kd (State.cistsFrozen s) := by
  unfold State.cistsFrozen
  try dsimp only
  repeat' (first | with_reducible (first | assumption | intro s x _ | intro s _ | intro x | apply State.same_ite_fst | apply State.same_ite | apply State.same_foldl | apply State.same_foldl_fst | apply State.setCist_same | apply State.endCist_same | apply State.set_same))

theorem State.cistsLost_same {kd : StateKind} {s0 : State} {s : State} {n : Nat} (h_capture : kd ≠ .capture) (h_ledger : kd ≠ .ledger) (hs : s0.same kd s) :
    s0.same kd (State.cistsLost s n) := by
  unfold State.cistsLost
  try dsimp only
  repeat' (first | with_reducible (first | assumption | intro s x _ | intro s _ | intro x | apply State.same_ite_fst | apply State.same_ite | apply State.same_foldl | apply State.same_foldl_fst | apply State.setCfe_same | apply State.setCist_same | apply State.closeAll_same | apply State.returnSegs_same | apply State.maybeDone_same | apply State.raise_same))

theorem State.enterFlt_same {kd : StateKind} {s0 : State} {s : State} {q : Nat} (h_capture : kd ≠ .capture) (hs : s0.same kd s) :
    s0.same kd (State.enterFlt s q) := by
  unfold State.enterFlt
  try dsimp only
  repeat' (first | with_reducible (first | assumption | apply State.set_same) | (simp only [State.same_mk]; refine State.same_upd_flt ?_ ?_))

theorem State.transition_same {kd : StateKind} {s0 : State} {s : State} {cause : Nat} (h_capture : kd ≠ .capture) (h_ledger : kd ≠ .ledger) (hs : s0.same kd s) :
    s0.same kd (State.transition s cause) := by
  unfold State.transition
  try dsimp only
  repeat' (first | with_reducible (first | assumption | apply State.same_ite_fst | apply State.same_ite | apply State.act_same | apply State.enterFlt_same | apply State.raise_same | apply State.lower_same | apply State.wrap_same) | (simp only [State.same_mk]; refine State.same_upd_flt ?_ ?_))

theorem State.settleFlt_same {kd : StateKind} {s0 : State} {s : State} (h_capture : kd ≠ .capture) (h_ledger : kd ≠ .ledger) (hs : s0.same kd s) :
    s0.same kd (State.settleFlt s) := by
  unfold State.settleFlt
  try dsimp only
  repeat' (first | with_reducible (first | assumption | apply State.same_ite_fst | apply State.same_ite | apply State.transition_same | apply State.raise_same))

theorem State.countPulse_same {kd : StateKind} {s0 : State} {s : State} {m : Nat} (h_capture : kd ≠ .capture) (h_ledger : kd ≠ .ledger) (hs : s0.same kd s) :
    s0.same kd (State.countPulse s m) := by
  unfold State.countPulse
  try dsimp only
  repeat' (first | with_reducible (first | assumption | apply State.same_ite_fst | apply State.same_ite | apply State.settleFlt_same | apply State.set_same | apply State.wrap_same) | (simp only [State.same_mk]; refine State.same_upd_flt ?_ ?_) | split)

theorem State.wakeFurs_same {kd : StateKind} {s0 : State} {s : State} {m : Nat} (h_sequencers : kd ≠ .sequencers) (hs : s0.same kd s) :
    s0.same kd (State.wakeFurs s m) := by
  unfold State.wakeFurs
  try dsimp only
  repeat' (first | with_reducible (first | assumption | apply State.same_ite_fst | apply State.same_ite | apply SameO.none | apply SameO.some_id | apply SameO.some | apply SameO.ite) | (simp only [State.same_mk]; refine State.same_upd_furs ?_ ?_) | split)

theorem State.pulse_same {kd : StateKind} {s0 : State} {s : State} {m : Nat} (h_fabric : kd ≠ .fabric) (h_capture : kd ≠ .capture) (h_sequencers : kd ≠ .sequencers) (h_ledger : kd ≠ .ledger) (h_outputs : kd ≠ .outputs) (hs : s0.same kd s) :
    s0.same kd (State.pulse s m) := by
  unfold State.pulse
  try dsimp only
  repeat' (first | with_reducible (first | assumption | intro s x _ | intro s _ | intro x | apply State.same_ite_fst | apply State.same_ite | apply State.same_foldl | apply State.same_foldl_fst | apply State.countPulse_same | apply State.wakeFurs_same | apply State.emit_same | apply State.fabFloats_same))

theorem State.runTimer_same {kd : StateKind} {s0 : State} {s : State} {ns : Nat} (h_capture : kd ≠ .capture) (hs : s0.same kd s) :
    s0.same kd (State.runTimer s ns) := by
  unfold State.runTimer
  try dsimp only
  repeat' (first | with_reducible (first | assumption | apply State.same_ite_fst | apply State.same_ite | apply State.set_same) | (simp only [State.same_mk]; refine State.same_upd_flt ?_ ?_))

end Sys2Proof.Machine
end

