-- ==== Sys2Proof/Laws/SameMem.lean ====
section
/-! SUPPORT. The kinds of state that every operation and meaning of Machine/Mem.lean leaves as they are (Laws/Same.lean). -/
set_option maxRecDepth 4000
set_option linter.unusedVariables false
namespace Sys2Proof.Machine

theorem State.setRegion_same {kd : StateKind} {s0 : State} {s : State} {r : Nat} {st : Nat} (hs : s0.same kd s) :
    s0.same kd (State.setRegion s r st) := by
  unfold State.setRegion
  try dsimp only
  repeat' (first | with_reducible (first | assumption | apply State.same_ite_fst | apply State.same_ite | apply State.set_same))

theorem State.setByte_same {kd : StateKind} {s0 : State} {s : State} {a : Nat} {b : Byte} (h_memory : kd ≠ .memory) (hs : s0.same kd s) :
    s0.same kd (State.setByte s a b) := by
  unfold State.setByte
  try dsimp only
  repeat' (first | with_reducible (first | assumption) | (simp only [State.same_mk]; refine State.same_upd_mem ?_ ?_))

theorem State.setBytes_same {kd : StateKind} {s0 : State} {s : State} {a : Nat} {x2 : List Byte} (h_memory : kd ≠ .memory) (hs : s0.same kd s) :
    s0.same kd (State.setBytes s a x2) := by
  revert hs
  induction x2 generalizing s a with
  | nil =>
    intro hs; unfold State.setBytes; try dsimp only
    repeat' (first | with_reducible (first | assumption | apply State.setByte_same) | split)
  | cons y l ih =>
    intro hs; unfold State.setBytes; try dsimp only
    repeat' (first | with_reducible (first | assumption | apply ih | apply State.setByte_same) | split)

theorem State.putWord_same {kd : StateKind} {s0 : State} {s : State} {w : Nat} {data : Nat} {syn : Nat} (h_memory : kd ≠ .memory) (hs : s0.same kd s) :
    s0.same kd (State.putWord s w data syn) := by
  unfold State.putWord
  try dsimp only
  repeat' (first | with_reducible (first | assumption | apply State.setBytes_same) | (simp only [State.same_mk]; refine State.same_upd_chk ?_ ?_))

theorem State.poisonWord_same {kd : StateKind} {s0 : State} {s : State} {w : Nat} (h_memory : kd ≠ .memory) (hs : s0.same kd s) :
    s0.same kd (State.poisonWord s w) := by
  unfold State.poisonWord
  try dsimp only
  repeat' (first | with_reducible (first | assumption | apply State.same_ite_fst | apply State.same_ite | apply State.putWord_same) | split)

theorem State.eccSet_same {kd : StateKind} {s0 : State} {s : State} {u : EccMem} {h : Field} {f : Field} {v : Nat} (hs : s0.same kd s) :
    s0.same kd (State.eccSet s u h f v) := by
  unfold State.eccSet
  try dsimp only
  repeat' (first | with_reducible (first | assumption | apply State.set_same) | split)

theorem State.eccCount_same {kd : StateKind} {s0 : State} {s : State} {u : EccMem} {h : Field} {f : Field} {k : Nat} (hs : s0.same kd s) :
    s0.same kd (State.eccCount s u h f k) := by
  unfold State.eccCount
  try dsimp only
  repeat' (first | with_reducible (first | assumption | apply State.count_same) | split)

theorem State.eccLog_same {kd : StateKind} {s0 : State} {s : State} {field : Option Nat} {dpa : Nat} {src : Nat} {kind : Nat} (hs : s0.same kd s) :
    s0.same kd (State.eccLog s field dpa src kind) := by
  unfold State.eccLog
  try dsimp only
  repeat' (first | with_reducible (first | assumption | apply State.same_ite_fst | apply State.same_ite | apply SameO.none | apply SameO.some_id | apply SameO.some | apply SameO.ite | apply State.set_same | apply State.raise_same | apply State.setStamp_same) | split)

theorem State.setWalker_same {kd : StateKind} {s0 : State} {s : State} {k : Nat} {v : WalkSt} (h_walkers : kd ≠ .walkers) (hs : s0.same kd s) :
    s0.same kd (State.setWalker s k v) := by
  unfold State.setWalker
  try dsimp only
  repeat' (first | with_reducible (first | assumption) | (simp only [State.same_mk]; refine State.same_upd_walkers ?_ ?_))

theorem State.enterRepair_same {kd : StateKind} {s0 : State} {s : State} {w : Nat} (h_walkers : kd ≠ .walkers) (hs : s0.same kd s) :
    s0.same kd (State.enterRepair s w) := by
  unfold State.enterRepair
  try dsimp only
  repeat' (first | with_reducible (first | assumption | apply State.same_ite_fst | apply State.same_ite | apply State.setWalker_same | apply State.raise_same))

theorem State.staleWrite_same {kd : StateKind} {s0 : State} {s : State} {w : Nat} (h_walkers : kd ≠ .walkers) (hs : s0.same kd s) :
    s0.same kd (State.staleWrite s w) := by
  unfold State.staleWrite
  try dsimp only
  repeat' (first | with_reducible (first | assumption | apply State.same_ite_fst | apply State.same_ite | apply State.setWalker_same))

theorem State.clearResv_same {kd : StateKind} {s0 : State} {s : State} {w : Nat} {holder : Option Nat} (h_reservations : kd ≠ .reservations) (hs : s0.same kd s) :
    s0.same kd (State.clearResv s w holder) := by
  unfold State.clearResv
  try dsimp only
  repeat' (first | with_reducible (first | assumption | apply SameO.none | apply SameO.some_id | apply SameO.some | apply SameO.ite) | (simp only [State.same_mk]; refine State.same_upd_resv ?_ ?_) | split)

theorem State.fullWrite_same {kd : StateKind} {s0 : State} {s : State} {w : Nat} {data : Nat} (h_memory : kd ≠ .memory) (hs : s0.same kd s) :
    s0.same kd (State.fullWrite s w data) := by
  unfold State.fullWrite
  try dsimp only
  repeat' (first | with_reducible (first | assumption | apply State.same_ite_fst | apply State.same_ite | apply State.putWord_same | apply State.eccSet_same))

theorem State.rsvViolate_same {kd : StateKind} {s0 : State} {s : State} {i : Nat} {p : Nat} {off : Nat} {kind : Nat} {src : Nat} (hs : s0.same kd s) :
    s0.same kd (State.rsvViolate s i p off kind src) := by
  unfold State.rsvViolate
  try dsimp only
  repeat' (first | with_reducible (first | assumption | apply State.same_ite_fst | apply State.same_ite | apply State.set_same | apply State.raise_same | apply State.count_same))

theorem State.memoryDown_same {kd : StateKind} {s0 : State} {s : State} {a : Nat} (hs : s0.same kd s) :
    SameO kd Prod.snd s0 (State.memoryDown s a) := by
  unfold State.memoryDown
  try dsimp only
  repeat' (first | with_reducible (first | assumption | apply SameO.ite | apply State.same_ite_fst | apply State.same_ite | apply SameO.none | apply SameO.some_id | apply SameO.some | apply State.count_same) | split)

theorem State.reach_same {kd : StateKind} {s0 : State} {s : State} {src : Nat} {port : Option Nat} {a : Nat} {len : Nat} {kind : Nat} (hs : s0.same kd s) :
    SameO kd Prod.snd s0 (State.reach s src port a len kind) := by
  unfold State.reach
  try dsimp only
  repeat' (first | with_reducible (first | assumption | apply SameO.ite | apply State.same_ite_fst | apply State.same_ite | apply SameO.none | apply SameO.some_id | apply SameO.some | apply State.rsvViolate_same | apply State.memoryDown_same | apply State.timedOut_same | refine State.same_of_some_snd (by assumption) ?_) | split)

theorem State.wakeBank_same {kd : StateKind} {s0 : State} {s : State} {w : Nat} (hs : s0.same kd s) :
    s0.same kd (State.wakeBank s w) := by
  unfold State.wakeBank
  try dsimp only
  repeat' (first | with_reducible (first | assumption | apply State.same_ite_fst | apply State.same_ite | apply SameO.none | apply SameO.some_id | apply SameO.some | apply SameO.ite | apply State.clearBitOf_same) | split)

theorem State.readWords_same {kd : StateKind} {s0 : State} {s : State} {src : Nat} {w : Nat} {x3 : Nat} (h_walkers : kd ≠ .walkers) (hs : s0.same kd s) :
    s0.same kd (State.readWords s src w x3).1 := by
  revert hs
  induction x3 generalizing s src w with
  | zero =>
    intro hs; unfold State.readWords; try dsimp only
    repeat' (first | with_reducible (first | assumption | apply SameO.none | apply SameO.some_id | apply SameO.some | apply SameO.ite | apply State.eccCount_same | apply State.eccLog_same | apply State.enterRepair_same | apply State.wakeBank_same) | split | dsimp only)
  | succ n ih =>
    intro hs; unfold State.readWords; try dsimp only
    repeat' (first | with_reducible (first | assumption | apply SameO.none | apply SameO.some_id | apply SameO.some | apply SameO.ite | apply ih | apply State.eccCount_same | apply State.eccLog_same | apply State.enterRepair_same | apply State.wakeBank_same) | split | dsimp only)

theorem State.setQdr_same {kd : StateKind} {s0 : State} {s : State} {n : Nat} {portB : Bool} {v : QdrSt} (h_qdr : kd ≠ .qdr) (hs : s0.same kd s) :
    s0.same kd (State.setQdr s n portB v) := by
  unfold State.setQdr
  try dsimp only
  repeat' (first | with_reducible (first | assumption) | (simp only [State.same_mk]; refine State.same_upd_qdrs ?_ ?_))

theorem State.writeSlots_same {kd : StateKind} {s0 : State} {s : State} {n : Nat} {portB : Bool} {v : Nat} (h_qdr : kd ≠ .qdr) (hs : s0.same kd s) :
    s0.same kd (State.writeSlots s n portB v) := by
  unfold State.writeSlots
  try dsimp only
  repeat' (first | with_reducible (first | assumption | apply State.same_ite_fst | apply State.same_ite | apply State.setQdr_same | apply State.set_same))

theorem State.qdrAccess_same {kd : StateKind} {s0 : State} {s : State} {n : Nat} {portB : Bool} {client : Nat} {write : Bool} {ready : List (List (Fin 3))} (h_qdr : kd ≠ .qdr) (hs : s0.same kd s) :
    s0.same kd (State.qdrAccess s n portB client write ready) := by
  unfold State.qdrAccess
  try dsimp only
  repeat' (first | with_reducible (first | assumption | apply State.same_ite_fst | apply State.same_ite | apply State.setQdr_same | apply State.count_same | apply State.wrap2_same))

theorem State.qdrIssues_same {kd : StateKind} {s0 : State} {s : State} {client : Nat} {n : Nat} {reads : Nat} {writes : Nat} {x5 : Nat} (h_qdr : kd ≠ .qdr) (h_counter : kd ≠ .counter) (hs : s0.same kd s) :
    s0.same kd (State.qdrIssues s client n reads writes x5) := by
  revert hs
  induction x5 generalizing s client n reads writes with
  | zero =>
    intro hs; unfold State.qdrIssues; try dsimp only
    repeat' (first | with_reducible (first | assumption | apply State.same_ite_fst | apply State.same_ite | apply State.qdrAccess_same | apply State.used_same) | split)
  | succ n ih =>
    intro hs; unfold State.qdrIssues; try dsimp only
    repeat' (first | with_reducible (first | assumption | apply State.same_ite_fst | apply State.same_ite | apply ih | apply State.qdrAccess_same | apply State.used_same) | split)

theorem State.qdrIssued_same {kd : StateKind} {s0 : State} {s : State} {client : Nat} {a : Nat} {reads : Nat} {writes : Nat} (h_qdr : kd ≠ .qdr) (h_counter : kd ≠ .counter) (hs : s0.same kd s) :
    s0.same kd (State.qdrIssued s client a reads writes) := by
  unfold State.qdrIssued
  try dsimp only
  repeat' (first | with_reducible (first | assumption | apply State.same_ite_fst | apply State.same_ite | apply SameO.none | apply SameO.some_id | apply SameO.some | apply SameO.ite | apply State.qdrIssues_same) | split)

theorem State.readMem_same {kd : StateKind} {s0 : State} {s : State} {src : Nat} {port : Option Nat} {a : Nat} {len : Nat} {fetch : Bool} {client : Nat} (h_qdr : kd ≠ .qdr) (h_walkers : kd ≠ .walkers) (h_counter : kd ≠ .counter) (hs : s0.same kd s) :
    s0.same kd (State.readMem s src port a len fetch client).1 := by
  unfold State.readMem
  try dsimp only
  repeat' (first | with_reducible (first | assumption | apply State.same_ite_fst | apply State.same_ite | apply SameO.none | apply SameO.some_id | apply SameO.some | apply SameO.ite | apply State.eccCount_same | apply State.reach_same | apply State.readWords_same | apply State.qdrIssued_same | refine State.same_of_fst (by assumption) ?_ | refine State.same_of_some_snd (by assumption) ?_) | split | dsimp only)

theorem State.writeWord_same {kd : StateKind} {s0 : State} {s : State} {src : Nat} {holder : Option Nat} {w : Nat} {bytes : List (Option Byte)} {pois : Bool} (h_memory : kd ≠ .memory) (h_reservations : kd ≠ .reservations) (h_walkers : kd ≠ .walkers) (hs : s0.same kd s) :
    s0.same kd (State.writeWord s src holder w bytes pois).1 := by
  unfold State.writeWord
  try dsimp only
  repeat' (first | with_reducible (first | assumption | apply State.same_ite_fst | apply State.same_ite | apply State.putWord_same | apply State.poisonWord_same | apply State.eccCount_same | apply State.eccLog_same | apply State.staleWrite_same | apply State.clearResv_same | apply State.fullWrite_same | apply State.wakeBank_same) | split | dsimp only)

theorem State.writeWords_same {kd : StateKind} {s0 : State} {s : State} {src : Nat} {holder : Option Nat} {pois : Bool} {x4 : Nat} {x5 : Nat} {x6 : List (Option Byte)} (h_memory : kd ≠ .memory) (h_reservations : kd ≠ .reservations) (h_walkers : kd ≠ .walkers) (hs : s0.same kd s) :
    s0.same kd (State.writeWords s src holder pois x4 x5 x6).1 := by
  revert hs
  induction x5 generalizing s src holder pois x4 x6 with
  | zero =>
    intro hs; unfold State.writeWords; try dsimp only
    repeat' (first | with_reducible (first | assumption | apply State.writeWord_same | refine State.same_of_fst (by assumption) ?_) | split | dsimp only)
  | succ n ih =>
    intro hs; unfold State.writeWords; try dsimp only
    repeat' (first | with_reducible (first | assumption | apply ih | apply State.writeWord_same | refine State.same_of_fst (by assumption) ?_) | split | dsimp only)

theorem State.writeMem_same {kd : StateKind} {s0 : State} {s : State} {src : Nat} {port : Option Nat} {holder : Option Nat} {a : Nat} {bytes : List (Option Byte)} {pois : Bool} {client : Nat} (h_memory : kd ≠ .memory) (h_reservations : kd ≠ .reservations) (h_qdr : kd ≠ .qdr) (h_walkers : kd ≠ .walkers) (h_counter : kd ≠ .counter) (hs : s0.same kd s) :
    s0.same kd (State.writeMem s src port holder a bytes pois client).1 := by
  unfold State.writeMem
  try dsimp only
  repeat' (first | with_reducible (first | assumption | apply State.same_ite_fst | apply State.same_ite | apply State.reach_same | apply State.qdrIssued_same | apply State.writeWords_same | refine State.same_of_fst (by assumption) ?_ | refine State.same_of_some_snd (by assumption) ?_) | split | dsimp only)

theorem State.storeMem_same {kd : StateKind} {s0 : State} {s : State} {src : Nat} {a : Nat} {bytes : List Byte} (h_memory : kd ≠ .memory) (h_reservations : kd ≠ .reservations) (h_qdr : kd ≠ .qdr) (h_walkers : kd ≠ .walkers) (h_counter : kd ≠ .counter) (hs : s0.same kd s) :
    s0.same kd (State.storeMem s src a bytes).1 := by
  unfold State.storeMem
  try dsimp only
  repeat' (first | with_reducible (first | assumption | apply SameO.none | apply SameO.some_id | apply SameO.some | apply SameO.ite | apply State.writeMem_same) | dsimp only)

theorem State.atomicMem_same {kd : StateKind} {s0 : State} {s : State} {src : Nat} {a : Nat} {len : Nat} {aop : Nat} {data : List Byte} (h_memory : kd ≠ .memory) (h_reservations : kd ≠ .reservations) (h_walkers : kd ≠ .walkers) (hs : s0.same kd s) :
    s0.same kd (State.atomicMem s src a len aop data).1 := by
  unfold State.atomicMem
  try dsimp only
  repeat' (first | with_reducible (first | assumption | apply State.same_ite_fst | apply State.same_ite | apply State.putWord_same | apply State.eccLog_same | apply State.staleWrite_same | apply State.clearResv_same | apply State.reach_same | apply State.wakeBank_same | refine State.same_of_some_snd (by assumption) ?_) | split | dsimp only)

end Sys2Proof.Machine
end

