-- ==== Sys2Proof/Laws/SameRings.lean ====
section
/-! SUPPORT. The kinds of state that every operation and meaning of Machine/Rings.lean leaves as they are (Laws/Same.lean). -/
set_option maxRecDepth 4000
set_option linter.unusedVariables false
namespace Sys2Proof.Machine

theorem State.setRing_same {kd : StateKind} {s0 : State} {s : State} {u : Nat} {r : RingSt} (h_debug : kd ≠ .debug) (hs : s0.same kd s) :
    s0.same kd (State.setRing s u r) := by
  unfold State.setRing
  try dsimp only
  repeat' (first | with_reducible (first | assumption) | (simp only [State.same_mk]; refine State.same_upd_rings ?_ ?_))

theorem State.traceDrop_same {kd : StateKind} {s0 : State} {s : State} {u : Nat} (h_debug : kd ≠ .debug) (hs : s0.same kd s) :
    s0.same kd (State.traceDrop s u) := by
  unfold State.traceDrop
  try dsimp only
  repeat' (first | with_reducible (first | assumption | apply State.count_same | apply State.setRing_same))

theorem State.trace_same {kd : StateKind} {s0 : State} {s : State} {u : Nat} {kind : Nat} {unit : Nat} {port : Nat} {size : Nat} {data : List Byte} (h_debug : kd ≠ .debug) (h_counter : kd ≠ .counter) (hs : s0.same kd s) :
    s0.same kd (State.trace s u kind unit port size data) := by
  unfold State.trace
  try dsimp only
  repeat' (first | with_reducible (first | assumption | apply State.same_ite_fst | apply State.same_ite | apply State.used_same | apply State.setRing_same | apply State.traceDrop_same))

theorem State.stopRing_same {kd : StateKind} {s0 : State} {s : State} {u : Nat} (h_debug : kd ≠ .debug) (hs : s0.same kd s) :
    s0.same kd (State.stopRing s u) := by
  unfold State.stopRing
  try dsimp only
  repeat' (first | with_reducible (first | assumption | apply State.same_ite_fst | apply State.same_ite | apply State.set_same | apply State.setRing_same))

theorem State.stopRings_same {kd : StateKind} {s0 : State} {s : State} (h_debug : kd ≠ .debug) (hs : s0.same kd s) :
    s0.same kd (State.stopRings s) := by
  unfold State.stopRings
  try dsimp only
  repeat' (first | with_reducible (first | assumption | intro s x _ | intro s _ | intro x | apply State.same_foldl | apply State.same_foldl_fst | apply State.stopRing_same))

theorem State.setBuf_same {kd : StateKind} {s0 : State} {s : State} {f : Field} {i : Nat} {x3 : List Byte} (hs : s0.same kd s) :
    s0.same kd (State.setBuf s f i x3) := by
  revert hs
  fun_induction State.setBuf s f i x3 with
  | case1 => exact id
  | case2 => exact State.set_same
  | case3 => exact State.set_same
  | case4 => exact State.set_same
  | case5 _ _ _ _ _ _ _ ih => exact fun h => ih (State.set_same h)

theorem State.sendEvent_same {kd : StateKind} {s0 : State} {s : State} {x : Bool} {sid : Nat} {cmd : Nat} {payload : List Byte} (h_debug : kd ≠ .debug) (h_outputs : kd ≠ .outputs) (hs : s0.same kd s) :
    s0.same kd (State.sendEvent s x sid cmd payload) := by
  unfold State.sendEvent
  try dsimp only
  repeat' (first | with_reducible (first | assumption | apply State.same_ite_fst | apply State.same_ite | apply State.raise_same | apply State.emit_same | apply State.setBuf_same) | (simp only [State.same_mk]; refine State.same_upd_wm ?_ ?_))

theorem State.nextEvent_same {kd : StateKind} {s0 : State} {s : State} (h_debug : kd ≠ .debug) (h_outputs : kd ≠ .outputs) (hs : s0.same kd s) :
    s0.same kd (State.nextEvent s) := by
  unfold State.nextEvent
  try dsimp only
  repeat' (first | with_reducible (first | assumption | apply State.same_ite_fst | apply State.same_ite | apply State.sendEvent_same) | (simp only [State.same_mk]; refine State.same_upd_wm ?_ ?_) | split)

theorem State.wmEvent_same {kd : StateKind} {s0 : State} {s : State} {cmd : Nat} {payload : List Byte} (h_debug : kd ≠ .debug) (h_outputs : kd ≠ .outputs) (hs : s0.same kd s) :
    s0.same kd (State.wmEvent s cmd payload) := by
  unfold State.wmEvent
  try dsimp only
  repeat' (first | with_reducible (first | assumption | apply State.same_ite_fst | apply State.same_ite | apply State.sendEvent_same) | (simp only [State.same_mk]; refine State.same_upd_wm ?_ ?_))

end Sys2Proof.Machine
end

