-- ==== Sys2Proof/Laws/SameHbm.lean ====
section
/-! SUPPORT. The kinds of state that every operation and meaning of Machine/Hbm.lean leaves as they are (Laws/Same.lean). -/
set_option maxRecDepth 4000
set_option linter.unusedVariables false
namespace Sys2Proof.Machine

theorem State.dropPosted_same {kd : StateKind} {s0 : State} {s : State} {r : Req} {st : RStat} (hs : s0.same kd s) :
    s0.same kd (State.dropPosted s r st) := by
  unfold State.dropPosted
  try dsimp only
  repeat' (first | with_reducible (first | assumption | apply State.same_ite_fst | apply State.same_ite | apply State.set_same | apply State.raise_same | apply State.count_same) | split)

theorem State.respond_same {kd : StateKind} {s0 : State} {s : State} {r : Req} {st : RStat} {data : List Byte} (h_requests : kd ≠ .requests) (hs : s0.same kd s) :
    s0.same kd (State.respond s r st data) := by
  unfold State.respond
  try dsimp only
  repeat' (first | with_reducible (first | assumption | apply State.same_ite_fst | apply State.same_ite | apply SameO.none | apply SameO.some_id | apply SameO.some | apply SameO.ite | apply State.dropPosted_same) | (simp only [State.same_mk]; refine State.same_upd_tags ?_ ?_) | split)

theorem State.perform_same {kd : StateKind} {s0 : State} {s : State} {r : Req} (h_memory : kd ≠ .memory) (h_reservations : kd ≠ .reservations) (h_requests : kd ≠ .requests) (h_qdr : kd ≠ .qdr) (h_walkers : kd ≠ .walkers) (h_counter : kd ≠ .counter) (hs : s0.same kd s) :
    s0.same kd (State.perform s r) := by
  unfold State.perform
  try dsimp only
  repeat' (first | with_reducible (first | assumption | apply State.same_ite_fst | apply State.same_ite | apply SameO.none | apply SameO.some_id | apply SameO.some | apply SameO.ite | apply State.respond_same | apply State.readMem_same | apply State.writeMem_same | apply State.atomicMem_same | refine State.same_of_fst (by assumption) ?_) | (simp only [State.same_mk]; refine State.same_upd_waiting ?_ ?_) | split)

theorem State.setHmc_same {kd : StateKind} {s0 : State} {s : State} {m : Nat} {v : HmcSt} (h_hbm : kd ≠ .hbm) (hs : s0.same kd s) :
    s0.same kd (State.setHmc s m v) := by
  unfold State.setHmc
  try dsimp only
  repeat' (first | with_reducible (first | assumption) | (simp only [State.same_mk]; refine State.same_upd_hmcs ?_ ?_))

theorem State.setPc_same {kd : StateKind} {s0 : State} {s : State} {k : Nat} {v : PcSt} (h_lanes : kd ≠ .lanes) (hs : s0.same kd s) :
    s0.same kd (State.setPc s k v) := by
  unfold State.setPc
  try dsimp only
  repeat' (first | with_reducible (first | assumption | apply State.set_same | apply State.setB_same) | (simp only [State.same_mk]; refine State.same_upd_pcs ?_ ?_))

theorem State.enqueue_same {kd : StateKind} {s0 : State} {s : State} {r : Req} (h_lanes : kd ≠ .lanes) (hs : s0.same kd s) :
    s0.same kd (State.enqueue s r) := by
  unfold State.enqueue
  try dsimp only
  repeat' (first | with_reducible (first | assumption | apply State.same_ite_fst | apply State.same_ite | apply State.setPc_same))

theorem State.arrive_same {kd : StateKind} {s0 : State} {s : State} {r : Req} (h_memory : kd ≠ .memory) (h_reservations : kd ≠ .reservations) (h_requests : kd ≠ .requests) (h_qdr : kd ≠ .qdr) (h_walkers : kd ≠ .walkers) (h_lanes : kd ≠ .lanes) (h_counter : kd ≠ .counter) (hs : s0.same kd s) :
    s0.same kd (State.arrive s r) := by
  unfold State.arrive
  try dsimp only
  repeat' (first | with_reducible (first | assumption | apply State.same_ite_fst | apply State.same_ite | apply SameO.none | apply SameO.some_id | apply SameO.some | apply SameO.ite | apply State.perform_same | apply State.enqueue_same))

theorem State.activate_same {kd : StateKind} {s0 : State} {s : State} {k : Nat} {bank : Nat} {row : Nat} (h_hbm : kd ≠ .hbm) (h_lanes : kd ≠ .lanes) (hs : s0.same kd s) :
    s0.same kd (State.activate s k bank row) := by
  unfold State.activate
  try dsimp only
  repeat' (first | with_reducible (first | assumption | apply State.same_ite_fst | apply State.same_ite | apply State.setHmc_same | apply State.setPc_same | apply State.raise_same | apply State.count_same))

theorem State.closeRow_same {kd : StateKind} {s0 : State} {s : State} {k : Nat} {bank : Nat} (h_lanes : kd ≠ .lanes) (hs : s0.same kd s) :
    s0.same kd (State.closeRow s k bank) := by
  unfold State.closeRow
  try dsimp only
  repeat' (first | with_reducible (first | assumption | apply State.setPc_same))

theorem State.openRow_same {kd : StateKind} {s0 : State} {s : State} {k : Nat} {r : Req} (h_hbm : kd ≠ .hbm) (h_lanes : kd ≠ .lanes) (hs : s0.same kd s) :
    s0.same kd (State.openRow s k r) := by
  unfold State.openRow
  try dsimp only
  repeat' (first | with_reducible (first | assumption | apply State.same_ite_fst | apply State.same_ite | apply SameO.none | apply SameO.some_id | apply SameO.some | apply SameO.ite | apply State.setPc_same | apply State.activate_same | apply State.closeRow_same))

theorem State.issueAt_same {kd : StateKind} {s0 : State} {s : State} {k : Nat} {i : Nat} (h_memory : kd ≠ .memory) (h_reservations : kd ≠ .reservations) (h_requests : kd ≠ .requests) (h_hbm : kd ≠ .hbm) (h_qdr : kd ≠ .qdr) (h_walkers : kd ≠ .walkers) (h_lanes : kd ≠ .lanes) (h_counter : kd ≠ .counter) (hs : s0.same kd s) :
    s0.same kd (State.issueAt s k i) := by
  unfold State.issueAt
  try dsimp only
  repeat' (first | with_reducible (first | assumption | intro s x _ | intro s _ | intro x | apply State.same_ite_fst | apply State.same_ite | apply SameO.none | apply SameO.some_id | apply SameO.some | apply SameO.ite | apply State.same_foldl | apply State.same_foldl_fst | apply State.respond_same | apply State.perform_same | apply State.setPc_same | apply State.openRow_same | apply State.readMem_same | refine State.same_of_fst (by assumption) ?_) | split)

theorem State.refresh_same {kd : StateKind} {s0 : State} {s : State} {k : Nat} (h_lanes : kd ≠ .lanes) (hs : s0.same kd s) :
    s0.same kd (State.refresh s k) := by
  unfold State.refresh
  try dsimp only
  repeat' (first | with_reducible (first | assumption | apply State.same_ite_fst | apply State.same_ite | apply State.setPc_same | apply State.set_same))

theorem State.serveNeighbour_same {kd : StateKind} {s0 : State} {s : State} {k : Nat} {e : Nat × Nat} (h_hbm : kd ≠ .hbm) (h_lanes : kd ≠ .lanes) (hs : s0.same kd s) :
    s0.same kd (State.serveNeighbour s k e) := by
  unfold State.serveNeighbour
  try dsimp only
  repeat' (first | with_reducible (first | assumption | intro s x _ | intro s _ | intro x | apply State.same_ite_fst | apply State.same_ite | apply State.same_foldl | apply State.same_foldl_fst | apply State.setPc_same | apply State.activate_same | apply State.count_same))

theorem State.rfm_same {kd : StateKind} {s0 : State} {s : State} {k : Nat} {bank : Nat} (h_lanes : kd ≠ .lanes) (hs : s0.same kd s) :
    s0.same kd (State.rfm s k bank) := by
  unfold State.rfm
  try dsimp only
  repeat' (first | with_reducible (first | assumption | apply State.setPc_same | apply State.closeRow_same))

theorem State.issue_same {kd : StateKind} {s0 : State} {s : State} {k : Nat} {rfm : Option Nat} (h_memory : kd ≠ .memory) (h_reservations : kd ≠ .reservations) (h_requests : kd ≠ .requests) (h_hbm : kd ≠ .hbm) (h_qdr : kd ≠ .qdr) (h_walkers : kd ≠ .walkers) (h_lanes : kd ≠ .lanes) (h_counter : kd ≠ .counter) (hs : s0.same kd s) :
    s0.same kd (State.issue s k rfm) := by
  unfold State.issue
  try dsimp only
  repeat' (first | with_reducible (first | assumption | apply State.same_ite_fst | apply State.same_ite | apply SameO.none | apply SameO.some_id | apply SameO.some | apply SameO.ite | apply State.setPc_same | apply State.issueAt_same | apply State.refresh_same | apply State.serveNeighbour_same | apply State.rfm_same) | split)

theorem State.retried_same {kd : StateKind} {s0 : State} {s : State} {old : State} {k : Nat} (hs : s0.same kd s) (hold : s0.same kd old) :
    s0.same kd (State.retried s old k) := by
  unfold State.retried
  try dsimp only
  repeat' (first | with_reducible (first | assumption | apply State.same_ite_fst | apply State.same_ite | apply State.count_same))

theorem execHbmCommandIssue_same {kd : StateKind} {s0 : State} {m : HmcId} {p : Fin 32} {rfm : Option (Fin 48)} {retry : Bool} {s : State} (h_memory : kd ≠ .memory) (h_reservations : kd ≠ .reservations) (h_requests : kd ≠ .requests) (h_hbm : kd ≠ .hbm) (h_qdr : kd ≠ .qdr) (h_walkers : kd ≠ .walkers) (h_lanes : kd ≠ .lanes) (h_counter : kd ≠ .counter) (hs : s0.same kd s) :
    SameR kd s0 (execHbmCommandIssue m p rfm retry s) := by
  unfold execHbmCommandIssue
  try dsimp only
  repeat' (first | with_reducible (first | assumption | apply SameR.next | apply SameR.ite | apply State.same_ite_fst | apply State.same_ite | apply SameO.map | apply State.issue_same | apply State.retried_same))

theorem State.refreshDue_same {kd : StateKind} {s0 : State} {s : State} {k : Nat} (h_lanes : kd ≠ .lanes) (hs : s0.same kd s) :
    s0.same kd (State.refreshDue s k) := by
  unfold State.refreshDue
  try dsimp only
  repeat' (first | with_reducible (first | assumption | apply State.same_ite_fst | apply State.same_ite | apply State.setPc_same | apply State.set_same | apply State.raise_same | apply State.count_same))

theorem execRefreshDue_same {kd : StateKind} {s0 : State} {m : HmcId} {p : Fin 32} {s : State} (h_lanes : kd ≠ .lanes) (hs : s0.same kd s) :
    SameR kd s0 (execRefreshDue m p s) := by
  unfold execRefreshDue
  try dsimp only
  repeat' (first | with_reducible (first | assumption | apply SameR.next | apply SameR.ite | apply State.same_ite_fst | apply State.same_ite | apply State.refreshDue_same))

theorem execRowIdleClose_same {kd : StateKind} {s0 : State} {m : HmcId} {p : Fin 32} {b : Fin 48} {s : State} (h_lanes : kd ≠ .lanes) (hs : s0.same kd s) :
    SameR kd s0 (execRowIdleClose m p b s) := by
  unfold execRowIdleClose
  try dsimp only
  repeat' (first | with_reducible (first | assumption | apply SameR.next | apply SameR.ite | apply State.same_ite_fst | apply State.same_ite | apply State.closeRow_same))

theorem execHbmTempRead_same {kd : StateKind} {s0 : State} {m : HmcId} {t : Byte} {s : State} (hs : s0.same kd s) :
    SameR kd s0 (execHbmTempRead m t s) := by
  unfold execHbmTempRead
  try dsimp only
  repeat' (first | with_reducible (first | assumption | apply SameR.next | apply SameR.ite | apply State.set_same | apply State.setB_same))

theorem State.writeShadow_same {kd : StateKind} {s0 : State} {s : State} {m : Nat} {r : Nat} {v : Nat} (hs : s0.same kd s) :
    s0.same kd (State.writeShadow s m r v) := by
  unfold State.writeShadow
  try dsimp only
  repeat' (first | with_reducible (first | assumption | apply State.raise_same | apply State.wrAll_same))

theorem execShadowWrite_same {kd : StateKind} {s0 : State} {m : HmcId} {r : Fin 4} {v : Word} {s : State} (h_answer : kd ≠ .answer) (hs : s0.same kd s) :
    SameR kd s0 (execShadowWrite m r v s) := by
  unfold execShadowWrite
  try dsimp only
  repeat' (first | with_reducible (first | assumption | intro s x _ | intro s _ | intro x | apply SameR.next | apply SameR.ite | apply State.writeShadow_same | apply State.access_same))

theorem State.fchgStart_same {kd : StateKind} {s0 : State} {s : State} {m : Nat} (hs : s0.same kd s) :
    s0.same kd (State.fchgStart s m) := by
  unfold State.fchgStart
  try dsimp only
  repeat' (first | with_reducible (first | assumption | apply State.set_same | apply State.raise_same))

theorem State.writeFchg_same {kd : StateKind} {s0 : State} {s : State} {m : Nat} {v : Nat} (hs : s0.same kd s) :
    s0.same kd (State.writeFchg s m v) := by
  unfold State.writeFchg
  try dsimp only
  repeat' (first | with_reducible (first | assumption | intro s x _ | intro s _ | intro x | apply State.same_ite_fst | apply State.same_ite | apply State.same_foldl | apply State.same_foldl_fst | apply State.fchgStart_same | apply State.raise_same | apply State.w1c_same))

theorem execFreqChange_same {kd : StateKind} {s0 : State} {m : HmcId} {v : Word} {s : State} (h_answer : kd ≠ .answer) (hs : s0.same kd s) :
    SameR kd s0 (execFreqChange m v s) := by
  unfold execFreqChange
  try dsimp only
  repeat' (first | with_reducible (first | assumption | intro s x _ | intro s _ | intro x | apply SameR.next | apply SameR.ite | apply State.writeFchg_same | apply State.access_same))

theorem State.drainPc_same {kd : StateKind} {s0 : State} {s : State} {k : Nat} (h_memory : kd ≠ .memory) (h_reservations : kd ≠ .reservations) (h_requests : kd ≠ .requests) (h_hbm : kd ≠ .hbm) (h_qdr : kd ≠ .qdr) (h_walkers : kd ≠ .walkers) (h_lanes : kd ≠ .lanes) (h_counter : kd ≠ .counter) (hs : s0.same kd s) :
    s0.same kd (State.drainPc s k) := by
  unfold State.drainPc
  try dsimp only
  repeat' (first | with_reducible (first | assumption | intro s x _ | intro s _ | intro x | apply State.same_foldl | apply State.same_foldl_fst | apply State.issueAt_same))

theorem State.drainAt_same {kd : StateKind} {s0 : State} {s : State} {a : Nat} {len : Nat} (h_memory : kd ≠ .memory) (h_reservations : kd ≠ .reservations) (h_requests : kd ≠ .requests) (h_hbm : kd ≠ .hbm) (h_qdr : kd ≠ .qdr) (h_walkers : kd ≠ .walkers) (h_lanes : kd ≠ .lanes) (h_counter : kd ≠ .counter) (hs : s0.same kd s) :
    s0.same kd (State.drainAt s a len) := by
  unfold State.drainAt
  try dsimp only
  repeat' (first | with_reducible (first | assumption | intro s x _ | intro s _ | intro x | apply State.same_ite_fst | apply State.same_ite | apply SameO.none | apply SameO.some_id | apply SameO.some | apply SameO.ite | apply State.same_foldl | apply State.same_foldl_fst | apply State.drainPc_same))

theorem State.quiesce_same {kd : StateKind} {s0 : State} {s : State} {k : Nat} (h_memory : kd ≠ .memory) (h_reservations : kd ≠ .reservations) (h_requests : kd ≠ .requests) (h_hbm : kd ≠ .hbm) (h_qdr : kd ≠ .qdr) (h_walkers : kd ≠ .walkers) (h_lanes : kd ≠ .lanes) (h_counter : kd ≠ .counter) (hs : s0.same kd s) :
    s0.same kd (State.quiesce s k) := by
  unfold State.quiesce
  try dsimp only
  repeat' (first | with_reducible (first | assumption | apply State.same_ite_fst | apply State.same_ite | apply State.drainPc_same | apply State.set_same | apply State.raise_same | apply State.count_same))

theorem State.fchgEnd_same {kd : StateKind} {s0 : State} {s : State} {m : Nat} (h_memory : kd ≠ .memory) (h_reservations : kd ≠ .reservations) (h_requests : kd ≠ .requests) (h_hbm : kd ≠ .hbm) (h_qdr : kd ≠ .qdr) (h_walkers : kd ≠ .walkers) (h_lanes : kd ≠ .lanes) (h_counter : kd ≠ .counter) (hs : s0.same kd s) :
    s0.same kd (State.fchgEnd s m) := by
  unfold State.fchgEnd
  try dsimp only
  repeat' (first | with_reducible (first | assumption | intro s x _ | intro s _ | intro x | apply State.same_ite_fst | apply State.same_ite | apply State.same_foldl | apply State.same_foldl_fst | apply State.setPc_same | apply State.quiesce_same | apply State.set_same | apply State.lower_same))

theorem execFreqChangeDone_same {kd : StateKind} {s0 : State} {m : HmcId} {s : State} (h_memory : kd ≠ .memory) (h_reservations : kd ≠ .reservations) (h_requests : kd ≠ .requests) (h_hbm : kd ≠ .hbm) (h_qdr : kd ≠ .qdr) (h_walkers : kd ≠ .walkers) (h_lanes : kd ≠ .lanes) (h_counter : kd ≠ .counter) (hs : s0.same kd s) :
    SameR kd s0 (execFreqChangeDone m s) := by
  unfold execFreqChangeDone
  try dsimp only
  repeat' (first | with_reducible (first | assumption | apply SameR.next | apply SameR.ite | apply State.same_ite_fst | apply State.same_ite | apply State.fchgEnd_same))

theorem State.hbmUpdate_same {kd : StateKind} {s0 : State} {s : State} (hs : s0.same kd s) :
    s0.same kd (State.hbmUpdate s) := by
  unfold State.hbmUpdate
  try dsimp only
  repeat' (first | with_reducible (first | assumption | apply State.setB_same))

theorem State.autoNext_same {kd : StateKind} {s0 : State} {s : State} {block : Nat} {r : Nat} {x3 : Nat} (h_walkers : kd ≠ .walkers) (hs : s0.same kd s) :
    s0.same kd (State.autoNext s block r x3) := by
  revert hs
  induction x3 generalizing s block r with
  | zero =>
    intro hs; unfold State.autoNext; try dsimp only
    repeat' (first | with_reducible (first | assumption | apply State.same_ite_fst | apply State.same_ite | apply State.setRegion_same | apply State.raise_same) | (simp only [State.same_mk]; refine State.same_upd_autoInit ?_ ?_) | split)
  | succ n ih =>
    intro hs; unfold State.autoNext; try dsimp only
    repeat' (first | with_reducible (first | assumption | apply State.same_ite_fst | apply State.same_ite | apply ih | apply State.setRegion_same | apply State.raise_same) | (simp only [State.same_mk]; refine State.same_upd_autoInit ?_ ?_) | split)

theorem State.uncheck_same {kd : StateKind} {s0 : State} {s : State} {first : Nat} {n : Nat} (hs : s0.same kd s) :
    s0.same kd (State.uncheck s first n) := by
  unfold State.uncheck
  try dsimp only
  repeat' (first | with_reducible (first | assumption | intro s x _ | intro s _ | intro x | apply State.same_ite_fst | apply State.same_ite | apply State.same_foldl | apply State.same_foldl_fst | apply State.setRegion_same))

theorem State.hbmInit_same {kd : StateKind} {s0 : State} {s : State} (h_walkers : kd ≠ .walkers) (hs : s0.same kd s) :
    s0.same kd (State.hbmInit s) := by
  unfold State.hbmInit
  try dsimp only
  repeat' (first | with_reducible (first | assumption | apply State.same_ite_fst | apply State.same_ite | apply State.autoNext_same | apply State.uncheck_same))

theorem State.setDelay_same {kd : StateKind} {s0 : State} {s : State} {m : Nat} {r : Nat} {pc : Nat} {bit : Nat} {tx : Nat} {d : Nat} (h_hbm : kd ≠ .hbm) (hs : s0.same kd s) :
    s0.same kd (State.setDelay s m r pc bit tx d) := by
  unfold State.setDelay
  try dsimp only
  repeat' (first | with_reducible (first | assumption | apply State.setHmc_same))

theorem State.sweepPc_same {kd : StateKind} {s0 : State} {s : State} {m : Nat} {r : Nat} {pc : Nat} (h_hbm : kd ≠ .hbm) (hs : s0.same kd s) :
    SameO kd Prod.fst s0 (State.sweepPc s m r pc) := by
  unfold State.sweepPc
  try dsimp only
  repeat' (first | with_reducible (first | assumption | intro s x _ | intro s _ | intro x | apply SameO.ite | apply State.same_ite_fst | apply State.same_ite | apply SameO.none | apply SameO.some_id | apply SameO.some | apply State.same_foldl | apply State.same_foldl_fst | apply State.setDelay_same) | split)

theorem State.trainPc_same {kd : StateKind} {s0 : State} {s : State} {m : Nat} {r : Nat} {pc : Nat} {again : Bool} (h_hbm : kd ≠ .hbm) (hs : s0.same kd s) :
    s0.same kd (State.trainPc s m r pc again).1 := by
  unfold State.trainPc
  try dsimp only
  repeat' (first | with_reducible (first | assumption | intro s x _ | intro s _ | intro x | apply State.same_ite_fst | apply State.same_ite | apply SameO.none | apply SameO.some_id | apply SameO.some | apply SameO.ite | apply State.same_foldl | apply State.same_foldl_fst | apply State.sweepPc_same | apply State.set_same | apply State.raise_same | refine State.same_of_some_fst (by assumption) ?_) | split | dsimp only)

theorem State.trainPoint_same {kd : StateKind} {s0 : State} {s : State} {m : Nat} {r : Nat} {x3 : List Nat} (h_hbm : kd ≠ .hbm) (hs : s0.same kd s) :
    s0.same kd (State.trainPoint s m r x3).1 := by
  revert hs
  induction x3 generalizing s m r with
  | nil =>
    intro hs; unfold State.trainPoint; try dsimp only
    repeat' (first | with_reducible (first | assumption | apply State.same_ite_fst | apply State.same_ite | apply SameO.none | apply SameO.some_id | apply SameO.some | apply SameO.ite | apply State.trainPc_same | refine State.same_of_fst (by assumption) ?_) | split | dsimp only)
  | cons y l ih =>
    intro hs; unfold State.trainPoint; try dsimp only
    repeat' (first | with_reducible (first | assumption | apply State.same_ite_fst | apply State.same_ite | apply SameO.none | apply SameO.some_id | apply SameO.some | apply SameO.ite | apply ih | apply State.trainPc_same | refine State.same_of_fst (by assumption) ?_) | split | dsimp only)

theorem State.loadSet_same {kd : StateKind} {s0 : State} {s : State} {m : Nat} {r : Nat} (hs : s0.same kd s) :
    s0.same kd (State.loadSet s m r) := by
  unfold State.loadSet
  try dsimp only
  repeat' (first | with_reducible (first | assumption | intro s x _ | intro s _ | intro x | apply State.same_foldl | apply State.same_foldl_fst | apply State.set_same))

theorem State.trainLost_same {kd : StateKind} {s0 : State} {s : State} {m : Nat} {pc : Nat} {bits : Nat} (h_log : kd ≠ .log) (hs : s0.same kd s) :
    s0.same kd (State.trainLost s m pc bits) := by
  unfold State.trainLost
  try dsimp only
  repeat' (first | with_reducible (first | assumption | apply State.set_same | apply State.logEvent_same))

theorem State.trained_same {kd : StateKind} {s0 : State} {s : State} {m : Nat} (h_hbm : kd ≠ .hbm) (h_walkers : kd ≠ .walkers) (hs : s0.same kd s) :
    s0.same kd (State.trained s m) := by
  unfold State.trained
  try dsimp only
  repeat' (first | with_reducible (first | assumption | apply State.same_ite_fst | apply State.same_ite | apply State.setHmc_same | apply State.hbmUpdate_same | apply State.hbmInit_same | apply State.loadSet_same | apply State.set_same | apply State.setBitOf_same))

theorem State.hbmTrain_same {kd : StateKind} {s0 : State} {s : State} {m : Nat} {t : HbmTrain} (h_hbm : kd ≠ .hbm) (h_walkers : kd ≠ .walkers) (h_log : kd ≠ .log) (hs : s0.same kd s) :
    s0.same kd (State.hbmTrain s m t) := by
  unfold State.hbmTrain
  try dsimp only
  repeat' (first | with_reducible (first | assumption | apply State.same_ite_fst | apply State.same_ite | apply SameO.none | apply SameO.some_id | apply SameO.some | apply SameO.ite | apply State.trainPoint_same | apply State.loadSet_same | apply State.trainLost_same | apply State.trained_same | apply State.set_same | apply State.setBitOf_same | refine State.same_of_fst (by assumption) ?_) | split)

theorem execHbmTrain_same {kd : StateKind} {s0 : State} {m : HmcId} {t : HbmTrain} {s : State} (h_hbm : kd ≠ .hbm) (h_walkers : kd ≠ .walkers) (h_log : kd ≠ .log) (hs : s0.same kd s) :
    SameR kd s0 (execHbmTrain m t s) := by
  unfold execHbmTrain
  try dsimp only
  repeat' (first | with_reducible (first | assumption | apply SameR.next | apply SameR.ite | apply State.hbmTrain_same))

theorem State.helper_same {kd : StateKind} {s0 : State} {s : State} {m : Nat} (hs : s0.same kd s) :
    s0.same kd (State.helper s m) := by
  unfold State.helper
  try dsimp only
  repeat' (first | with_reducible (first | assumption | apply State.same_ite_fst | apply State.same_ite | apply State.raise_same | apply State.lower_same))

theorem State.writeTcmd_same {kd : StateKind} {s0 : State} {s : State} {m : Nat} {v : Nat} (h_hbm : kd ≠ .hbm) (hs : s0.same kd s) :
    s0.same kd (State.writeTcmd s m v) := by
  unfold State.writeTcmd
  try dsimp only
  repeat' (first | with_reducible (first | assumption | apply State.same_ite_fst | apply State.same_ite | apply State.helper_same) | (simp only [State.same_mk]; refine State.same_upd_hmcs ?_ ?_))

theorem execHelperCa_same {kd : StateKind} {s0 : State} {m : HmcId} {pc : Fin 32} {all : Bool} {s : State} (h_hbm : kd ≠ .hbm) (h_answer : kd ≠ .answer) (hs : s0.same kd s) :
    SameR kd s0 (execHelperCa m pc all s) := by
  unfold execHelperCa
  try dsimp only
  repeat' (first | with_reducible (first | assumption | intro s x _ | intro s _ | intro x | apply SameR.next | apply SameR.ite | apply State.writeTcmd_same | apply State.access_same))

theorem execHelperRd_same {kd : StateKind} {s0 : State} {m : HmcId} {pc : Fin 32} {all : Bool} {s : State} (h_hbm : kd ≠ .hbm) (h_answer : kd ≠ .answer) (hs : s0.same kd s) :
    SameR kd s0 (execHelperRd m pc all s) := by
  unfold execHelperRd
  try dsimp only
  repeat' (first | with_reducible (first | assumption | intro s x _ | intro s _ | intro x | apply SameR.next | apply SameR.ite | apply State.writeTcmd_same | apply State.access_same))

theorem execHelperWrrd_same {kd : StateKind} {s0 : State} {m : HmcId} {pc : Fin 32} {all : Bool} {s : State} (h_hbm : kd ≠ .hbm) (h_answer : kd ≠ .answer) (hs : s0.same kd s) :
    SameR kd s0 (execHelperWrrd m pc all s) := by
  unfold execHelperWrrd
  try dsimp only
  repeat' (first | with_reducible (first | assumption | intro s x _ | intro s _ | intro x | apply SameR.next | apply SameR.ite | apply State.writeTcmd_same | apply State.access_same))

theorem execHelperWdqs_same {kd : StateKind} {s0 : State} {m : HmcId} {pc : Fin 32} {all : Bool} {s : State} (h_hbm : kd ≠ .hbm) (h_answer : kd ≠ .answer) (hs : s0.same kd s) :
    SameR kd s0 (execHelperWdqs m pc all s) := by
  unfold execHelperWdqs
  try dsimp only
  repeat' (first | with_reducible (first | assumption | intro s x _ | intro s _ | intro x | apply SameR.next | apply SameR.ite | apply State.writeTcmd_same | apply State.access_same))

theorem execHelperDone_same {kd : StateKind} {s0 : State} {m : HmcId} {dq : Word} {extra : Fin 128} {ca : Bool} {cnt : Word} {s : State} (hs : s0.same kd s) :
    SameR kd s0 (execHelperDone m dq extra ca cnt s) := by
  unfold execHelperDone
  try dsimp only
  repeat' (first | with_reducible (first | assumption | apply SameR.next | apply SameR.ite | apply State.same_ite_fst | apply State.same_ite | apply State.set_same | apply State.raise_same | apply State.lower_same | apply State.setB_same))

theorem State.loseRange_same {kd : StateKind} {s0 : State} {s : State} {u : Nat} (h_walkers : kd ≠ .walkers) (h_ledger : kd ≠ .ledger) (hs : s0.same kd s) :
    s0.same kd (State.loseRange s u) := by
  unfold State.loseRange
  try dsimp only
  repeat' (first | with_reducible (first | assumption | apply SameO.none | apply SameO.some_id | apply SameO.some | apply SameO.ite | apply State.opFail_same) | (simp only [State.same_mk]; refine State.same_upd_ranges ?_ ?_) | split)

theorem State.loseHbmRange_same {kd : StateKind} {s0 : State} {s : State} (h_walkers : kd ≠ .walkers) (h_ledger : kd ≠ .ledger) (hs : s0.same kd s) :
    s0.same kd (State.loseHbmRange s) := by
  unfold State.loseHbmRange
  try dsimp only
  repeat' (first | with_reducible (first | assumption | apply State.same_ite_fst | apply State.same_ite | apply State.loseRange_same) | split)

theorem State.hbmFreeze_same {kd : StateKind} {s0 : State} {s : State} {m : Nat} {cause : Nat} {pc : Nat} {bank : Nat} {row : Nat} {qtr : Nat} {r : Option Req} (h_walkers : kd ≠ .walkers) (h_lanes : kd ≠ .lanes) (h_capture : kd ≠ .capture) (h_ledger : kd ≠ .ledger) (h_log : kd ≠ .log) (h_debug : kd ≠ .debug) (hs : s0.same kd s) :
    s0.same kd (State.hbmFreeze s m cause pc bank row qtr r) := by
  unfold State.hbmFreeze
  try dsimp only
  repeat' (first | with_reducible (first | assumption | intro s x _ | intro s _ | intro x | apply State.same_ite_fst | apply State.same_ite | apply SameO.none | apply SameO.some_id | apply SameO.some | apply SameO.ite | apply SameO.map | apply State.same_foldl | apply State.same_foldl_fst | apply State.setPc_same | apply State.hbmUpdate_same | apply State.loseHbmRange_same | apply State.cistsFrozen_same | apply State.set_same | apply State.raise_same | apply State.lower_same | apply State.setStamp_same | apply State.logEvent_same | apply State.stopRings_same) | split)

theorem execHbmFreeze_same {kd : StateKind} {s0 : State} {m : HmcId} {cause : Fin 3} {p : Fin 32} {i : Option (Fin 32)} {bank : Fin 48} {row : Fin 24576} {s : State} (h_walkers : kd ≠ .walkers) (h_lanes : kd ≠ .lanes) (h_capture : kd ≠ .capture) (h_ledger : kd ≠ .ledger) (h_log : kd ≠ .log) (h_debug : kd ≠ .debug) (hs : s0.same kd s) :
    SameR kd s0 (execHbmFreeze m cause p i bank row s) := by
  unfold execHbmFreeze
  try dsimp only
  repeat' (first | with_reducible (first | assumption | apply SameR.next | apply SameR.ite | apply State.same_ite_fst | apply State.same_ite | apply SameO.none | apply SameO.some_id | apply SameO.some | apply SameO.ite | apply State.hbmFreeze_same) | split)

end Sys2Proof.Machine
end

