-- ==== Sys2Proof/Laws/SameSieve.lean ====
section
/-! SUPPORT. The kinds of state that every operation and meaning of Machine/Sieve.lean leaves as they are (Laws/Same.lean). -/
set_option maxRecDepth 4000
set_option linter.unusedVariables false
namespace Sys2Proof.Machine

theorem State.cfePulse_same {kd : StateKind} {s0 : State} {s : State} {l : Nat} (h_fabric : kd ≠ .fabric) (h_capture : kd ≠ .capture) (h_sequencers : kd ≠ .sequencers) (h_ledger : kd ≠ .ledger) (h_outputs : kd ≠ .outputs) (hs : s0.same kd s) :
    s0.same kd (State.cfePulse s l) := by
  unfold State.cfePulse
  try dsimp only
  repeat' (first | with_reducible (first | assumption | apply State.pulse_same))

end Sys2Proof.Machine
end

