-- ==== Sys2Proof/Laws/SamePorts.lean ====
section
/-! SUPPORT. The kinds of state that every operation and meaning of Machine/Ports.lean leaves as they are (Laws/Same.lean). -/
set_option maxRecDepth 4000
set_option linter.unusedVariables false
namespace Sys2Proof.Machine

theorem State.setLane_same {kd : StateKind} {s0 : State} {s : State} {l : Nat} {v : LaneSt} (h_lanes : kd ≠ .lanes) (hs : s0.same kd s) :
    s0.same kd (State.setLane s l v) := by
  unfold State.setLane
  try dsimp only
  repeat' (first | with_reducible (first | assumption) | (simp only [State.same_mk]; refine State.same_upd_lanes ?_ ?_))

theorem State.setPort_same {kd : StateKind} {s0 : State} {s : State} {a : Nat} {v : PortSt} (h_lanes : kd ≠ .lanes) (hs : s0.same kd s) :
    s0.same kd (State.setPort s a v) := by
  unfold State.setPort
  try dsimp only
  repeat' (first | with_reducible (first | assumption) | (simp only [State.same_mk]; refine State.same_upd_ports ?_ ?_))

theorem State.setField_same {kd : StateKind} {s0 : State} {s : State} {n : Nat} {v : FieldSt} (h_fabric : kd ≠ .fabric) (hs : s0.same kd s) :
    s0.same kd (State.setField s n v) := by
  unfold State.setField
  try dsimp only
  repeat' (first | with_reducible (first | assumption) | (simp only [State.same_mk]; refine State.same_upd_fields ?_ ?_))

theorem State.setFur_same {kd : StateKind} {s0 : State} {s : State} {l : Nat} {v : FurSt} (h_sequencers : kd ≠ .sequencers) (hs : s0.same kd s) :
    s0.same kd (State.setFur s l v) := by
  unfold State.setFur
  try dsimp only
  repeat' (first | with_reducible (first | assumption) | (simp only [State.same_mk]; refine State.same_upd_furs ?_ ?_))

theorem State.wakeQuad_same {kd : StateKind} {s0 : State} {s : State} {q : Nat} (hs : s0.same kd s) :
    s0.same kd (State.wakeQuad s q) := by
  unfold State.wakeQuad
  try dsimp only
  repeat' (first | with_reducible (first | assumption | apply State.same_ite_fst | apply State.same_ite | apply State.lower_same | apply State.count_same | apply State.setBitOf_same | apply State.clearBitOf_same))

theorem State.portCfgerr_same {kd : StateKind} {s0 : State} {s : State} {a : Nat} (hs : s0.same kd s) :
    s0.same kd (State.portCfgerr s a) := by
  unfold State.portCfgerr
  try dsimp only
  repeat' (first | with_reducible (first | assumption | apply State.setB_same))

theorem State.dealFrame_same {kd : StateKind} {s0 : State} {s : State} {a : Nat} {f : RxFrame} (h_lanes : kd ≠ .lanes) (h_outputs : kd ≠ .outputs) (hs : s0.same kd s) :
    s0.same kd (State.dealFrame s a f) := by
  unfold State.dealFrame
  try dsimp only
  repeat' (first | with_reducible (first | assumption | apply State.same_ite_fst | apply State.same_ite | apply State.emit_same | apply State.setLane_same | apply State.setPort_same))

theorem State.startFrame_same {kd : StateKind} {s0 : State} {s : State} {a : Nat} {bytes : List Byte} {ts : Nat} (h_lanes : kd ≠ .lanes) (hs : s0.same kd s) :
    s0.same kd (State.startFrame s a bytes ts) := by
  unfold State.startFrame
  try dsimp only
  repeat' (first | with_reducible (first | assumption | apply SameO.none | apply SameO.some_id | apply SameO.some | apply SameO.ite | apply State.setPort_same))

theorem State.growFrame_same {kd : StateKind} {s0 : State} {s : State} {a : Nat} {bytes : List Byte} {ts : Nat} (h_fabric : kd ≠ .fabric) (h_lanes : kd ≠ .lanes) (h_capture : kd ≠ .capture) (h_sequencers : kd ≠ .sequencers) (h_ledger : kd ≠ .ledger) (h_outputs : kd ≠ .outputs) (hs : s0.same kd s) :
    s0.same kd (State.growFrame s a bytes ts) := by
  unfold State.growFrame
  try dsimp only
  repeat' (first | with_reducible (first | assumption | apply State.same_ite_fst | apply State.same_ite | apply SameO.none | apply SameO.some_id | apply SameO.some | apply SameO.ite | apply State.setPort_same | apply State.cfePulse_same))

theorem State.truncateRx_same {kd : StateKind} {s0 : State} {s : State} {a : Nat} (h_lanes : kd ≠ .lanes) (h_outputs : kd ≠ .outputs) (hs : s0.same kd s) :
    s0.same kd (State.truncateRx s a) := by
  unfold State.truncateRx
  try dsimp only
  repeat' (first | with_reducible (first | assumption | apply SameO.none | apply SameO.some_id | apply SameO.some | apply SameO.ite | apply State.dealFrame_same) | split)

theorem State.lockFloats_same {kd : StateKind} {s0 : State} {s : State} {anchors : List Nat} (h_fabric : kd ≠ .fabric) (h_capture : kd ≠ .capture) (h_sequencers : kd ≠ .sequencers) (h_ledger : kd ≠ .ledger) (h_outputs : kd ≠ .outputs) (hs : s0.same kd s) :
    s0.same kd (State.lockFloats s anchors) := by
  unfold State.lockFloats
  try dsimp only
  repeat' (first | with_reducible (first | assumption | intro s x _ | intro s _ | intro x | apply State.same_ite_fst | apply State.same_ite | apply State.same_foldl | apply State.same_foldl_fst | apply State.pulse_same) | split)

theorem State.lanesFloat_same {kd : StateKind} {s0 : State} {s : State} {ls : List Nat} (h_fabric : kd ≠ .fabric) (h_capture : kd ≠ .capture) (h_sequencers : kd ≠ .sequencers) (h_ledger : kd ≠ .ledger) (h_outputs : kd ≠ .outputs) (hs : s0.same kd s) :
    s0.same kd (State.lanesFloat s ls) := by
  unfold State.lanesFloat
  try dsimp only
  repeat' (first | with_reducible (first | assumption | apply State.same_ite_fst | apply State.same_ite | apply State.lockFloats_same))

theorem State.linkSignal_same {kd : StateKind} {s0 : State} {s : State} {a : Nat} {on : Bool} (h_outputs : kd ≠ .outputs) (hs : s0.same kd s) :
    s0.same kd (State.linkSignal s a on) := by
  unfold State.linkSignal
  try dsimp only
  repeat' (first | with_reducible (first | assumption | apply State.same_ite_fst | apply State.same_ite | apply State.emit_same))

theorem State.portUp_same {kd : StateKind} {s0 : State} {s : State} {a : Nat} (h_outputs : kd ≠ .outputs) (hs : s0.same kd s) :
    s0.same kd (State.portUp s a) := by
  unfold State.portUp
  try dsimp only
  repeat' (first | with_reducible (first | assumption | apply State.raise_same | apply State.linkSignal_same))

theorem State.bypassUp_same {kd : StateKind} {s0 : State} {s : State} {a : Nat} (h_outputs : kd ≠ .outputs) (hs : s0.same kd s) :
    s0.same kd (State.bypassUp s a) := by
  unfold State.bypassUp
  try dsimp only
  repeat' (first | with_reducible (first | assumption | apply State.same_ite_fst | apply State.same_ite | apply State.portUp_same))

theorem State.portLost_same {kd : StateKind} {s0 : State} {s : State} {a : Nat} {quiet : Bool} (h_fabric : kd ≠ .fabric) (h_lanes : kd ≠ .lanes) (h_capture : kd ≠ .capture) (h_sequencers : kd ≠ .sequencers) (h_ledger : kd ≠ .ledger) (h_outputs : kd ≠ .outputs) (hs : s0.same kd s) :
    s0.same kd (State.portLost s a quiet) := by
  unfold State.portLost
  try dsimp only
  repeat' (first | with_reducible (first | assumption | intro s x _ | intro s _ | intro x | apply State.same_ite_fst | apply State.same_ite | apply State.same_foldl | apply State.same_foldl_fst | apply State.raise_same | apply State.lower_same | apply State.count_same | apply State.setLane_same | apply State.setPort_same | apply State.truncateRx_same | apply State.lockFloats_same | apply State.linkSignal_same))

theorem State.leaveReady_same {kd : StateKind} {s0 : State} {s : State} {l : Nat} {quiet : Bool} (h_fabric : kd ≠ .fabric) (h_lanes : kd ≠ .lanes) (h_capture : kd ≠ .capture) (h_sequencers : kd ≠ .sequencers) (h_ledger : kd ≠ .ledger) (h_outputs : kd ≠ .outputs) (hs : s0.same kd s) :
    s0.same kd (State.leaveReady s l quiet) := by
  unfold State.leaveReady
  try dsimp only
  repeat' (first | with_reducible (first | assumption | apply SameO.none | apply SameO.some_id | apply SameO.some | apply SameO.ite | apply State.opFail_same | apply State.lower_same | apply State.setLane_same | apply State.portLost_same) | split)

theorem State.furBreak_same {kd : StateKind} {s0 : State} {s : State} {l : Nat} (h_lanes : kd ≠ .lanes) (h_sequencers : kd ≠ .sequencers) (h_outputs : kd ≠ .outputs) (hs : s0.same kd s) :
    s0.same kd (State.furBreak s l) := by
  unfold State.furBreak
  try dsimp only
  repeat' (first | with_reducible (first | assumption | apply SameO.none | apply SameO.some_id | apply SameO.some | apply SameO.ite | apply State.count_same | apply State.emit_same | apply State.setPort_same | apply State.setFur_same) | split)

theorem State.furFault_same {kd : StateKind} {s0 : State} {s : State} {l : Nat} {err : Nat} (h_lanes : kd ≠ .lanes) (h_sequencers : kd ≠ .sequencers) (h_outputs : kd ≠ .outputs) (hs : s0.same kd s) :
    s0.same kd (State.furFault s l err) := by
  unfold State.furFault
  try dsimp only
  repeat' (first | with_reducible (first | assumption | apply State.same_ite_fst | apply State.same_ite | apply State.set_same | apply State.furBreak_same))

end Sys2Proof.Machine
end

