-- ==== Sys2Proof/Laws/SameSwitch.lean ====
section
/-! SUPPORT. The kinds of state that every operation and meaning of Machine/Switch.lean leaves as they are (Laws/Same.lean). -/
set_option maxRecDepth 4000
set_option linter.unusedVariables false
namespace Sys2Proof.Machine

theorem State.charge_same {kd : StateKind} {s0 : State} {s : State} {u : Nat} {src : Nat} {amount : Nat} (h_shares : kd ≠ .shares) (hs : s0.same kd s) :
    s0.same kd (State.charge s u src amount).1 := by
  unfold State.charge
  try dsimp only
  repeat' (first | with_reducible (first | assumption | apply State.same_ite_fst | apply State.same_ite) | (simp only [State.same_mk]; first | refine State.same_upd_served ?_ ?_ | refine State.same_upd_remain_served ?_ ?_) | dsimp only)

theorem State.sendPacket_same {kd : StateKind} {s0 : State} {s : State} {p : Nat} {src : Nat} {flits : Nat} {amount : Nat} (h_shares : kd ≠ .shares) (hs : s0.same kd s) :
    s0.same kd (State.sendPacket s p src flits amount) := by
  unfold State.sendPacket
  try dsimp only
  repeat' (first | with_reducible (first | assumption | apply State.same_ite_fst | apply State.same_ite | apply State.wrap2_same | apply State.charge_same))

theorem State.windowStart_same {kd : StateKind} {s0 : State} {s : State} {u : Nat} (h_shares : kd ≠ .shares) (hs : s0.same kd s) :
    s0.same kd (State.windowStart s u) := by
  unfold State.windowStart
  try dsimp only
  repeat' (first | with_reducible (first | assumption | intro s x _ | intro s _ | intro x | apply State.same_foldl | apply State.same_foldl_fst) | (simp only [State.same_mk]; refine State.same_upd_remain ?_ ?_))

theorem execShareWindowStart_same {kd : StateKind} {s0 : State} {u : Fin 305} {s : State} (h_shares : kd ≠ .shares) (hs : s0.same kd s) :
    SameR kd s0 (execShareWindowStart u s) := by
  unfold execShareWindowStart
  try dsimp only
  repeat' (first | with_reducible (first | assumption | apply SameR.next | apply SameR.ite | apply State.windowStart_same))

theorem State.overcommit_same {kd : StateKind} {s0 : State} {s : State} {src : Nat} {port : Nat} (hs : s0.same kd s) :
    s0.same kd (State.overcommit s src port) := by
  unfold State.overcommit
  try dsimp only
  repeat' (first | with_reducible (first | assumption | apply State.set_same | apply State.raise_same))

theorem State.showShares_same {kd : StateKind} {s0 : State} {s : State} {p : Nat} (hs : s0.same kd s) :
    s0.same kd (State.showShares s p) := by
  unfold State.showShares
  try dsimp only
  repeat' (first | with_reducible (first | assumption | apply State.set_same))

theorem State.writeShareTable_same {kd : StateKind} {s0 : State} {s : State} {p : Nat} {r : Nat} {v : Nat} (hs : s0.same kd s) :
    s0.same kd (State.writeShareTable s p r v) := by
  unfold State.writeShareTable
  try dsimp only
  repeat' (first | with_reducible (first | assumption | apply State.same_ite_fst | apply State.same_ite | apply State.wr_same | apply State.overcommit_same | apply State.showShares_same))

theorem State.writeUplinkTable_same {kd : StateKind} {s0 : State} {s : State} {n : Nat} {r : Nat} {v : Nat} (hs : s0.same kd s) :
    s0.same kd (State.writeUplinkTable s n r v) := by
  unfold State.writeUplinkTable
  try dsimp only
  repeat' (first | with_reducible (first | assumption | apply State.same_ite_fst | apply State.same_ite | apply State.wr_same | apply State.overcommit_same))

theorem State.writeLaneShare_same {kd : StateKind} {s0 : State} {s : State} {l : Nat} {v : Nat} (h_capture : kd ≠ .capture) (hs : s0.same kd s) :
    s0.same kd (State.writeLaneShare s l v) := by
  unfold State.writeLaneShare
  try dsimp only
  repeat' (first | with_reducible (first | assumption | apply State.same_ite_fst | apply State.same_ite | apply State.spend_same | apply State.set_same | apply State.wr_same | apply State.overcommit_same))

theorem State.writeShareMap_same {kd : StateKind} {s0 : State} {s : State} {d : Nat} {i : Nat} {v : Nat} (hs : s0.same kd s) :
    s0.same kd (State.writeShareMap s d i v) := by
  unfold State.writeShareMap
  try dsimp only
  repeat' (first | with_reducible (first | assumption | intro s x _ | intro s _ | intro x | apply State.same_ite_fst | apply State.same_ite | apply State.same_foldl | apply State.same_foldl_fst | apply State.set_same | apply State.raise_same))

theorem execShareTableWrite_same {kd : StateKind} {s0 : State} {upl : Bool} {p : Fin 177} {r : Fin 16} {v : Word} {s : State} (h_answer : kd ≠ .answer) (hs : s0.same kd s) :
    SameR kd s0 (execShareTableWrite upl p r v s) := by
  unfold execShareTableWrite
  try dsimp only
  repeat' (first | with_reducible (first | assumption | intro s x _ | intro s _ | intro x | apply SameR.next | apply SameR.ite | apply State.same_ite_fst | apply State.same_ite | apply State.access_same | apply State.writeShareTable_same | apply State.writeUplinkTable_same))

theorem execLaneShareWrite_same {kd : StateKind} {s0 : State} {l : LaneId} {v : Word} {s : State} (h_capture : kd ≠ .capture) (h_answer : kd ≠ .answer) (hs : s0.same kd s) :
    SameR kd s0 (execLaneShareWrite l v s) := by
  unfold execLaneShareWrite
  try dsimp only
  repeat' (first | with_reducible (first | assumption | intro s x _ | intro s _ | intro x | apply SameR.next | apply SameR.ite | apply State.access_same | apply State.writeLaneShare_same))

theorem execShareMapWrite_same {kd : StateKind} {s0 : State} {d : Fin 11} {i : Fin 64} {v : Word} {s : State} (h_answer : kd ≠ .answer) (hs : s0.same kd s) :
    SameR kd s0 (execShareMapWrite d i v s) := by
  unfold execShareMapWrite
  try dsimp only
  repeat' (first | with_reducible (first | assumption | intro s x _ | intro s _ | intro x | apply SameR.next | apply SameR.ite | apply State.access_same | apply State.writeShareMap_same))

theorem State.writeQuota_same {kd : StateKind} {s0 : State} {s : State} {d : Nat} {v : Nat} (hs : s0.same kd s) :
    s0.same kd (State.writeQuota s d v) := by
  unfold State.writeQuota
  try dsimp only
  repeat' (first | with_reducible (first | assumption | apply State.same_ite_fst | apply State.same_ite | apply State.raise_same | apply State.wr_same))

theorem State.writeCnlCtrl_same {kd : StateKind} {s0 : State} {s : State} {v : Nat} (hs : s0.same kd s) :
    s0.same kd (State.writeCnlCtrl s v) := by
  unfold State.writeCnlCtrl
  try dsimp only
  repeat' (first | with_reducible (first | assumption | intro s x _ | intro s _ | intro x | apply State.same_ite_fst | apply State.same_ite | apply State.same_foldl | apply State.same_foldl_fst | apply State.set2_same))

theorem execCanalCounterClear_same {kd : StateKind} {s0 : State} {v : Word} {s : State} (h_answer : kd ≠ .answer) (hs : s0.same kd s) :
    SameR kd s0 (execCanalCounterClear v s) := by
  unfold execCanalCounterClear
  try dsimp only
  repeat' (first | with_reducible (first | assumption | intro s x _ | intro s _ | intro x | apply SameR.next | apply SameR.ite | apply State.access_same | apply State.writeCnlCtrl_same))

theorem State.dueAudits_same {kd : StateKind} {s0 : State} {s : State} {p : Nat} (h_requests : kd ≠ .requests) (hs : s0.same kd s) :
    s0.same kd (State.dueAudits s p) := by
  unfold State.dueAudits
  try dsimp only
  repeat' (first | with_reducible (first | assumption) | (simp only [State.same_mk]; refine State.same_upd_unaudited ?_ ?_))

theorem State.spendCredit_same {kd : StateKind} {s0 : State} {s : State} {p : Nat} {vc : Nat} {flits : Nat} (hs : s0.same kd s) :
    s0.same kd (State.spendCredit s p vc flits) := by
  unfold State.spendCredit
  try dsimp only
  repeat' (first | with_reducible (first | assumption | apply State.set_same))

theorem State.spendUp_same {kd : StateKind} {s0 : State} {s : State} {p : Nat} {vc : Nat} {flits : Nat} (h_shares : kd ≠ .shares) (hs : s0.same kd s) :
    s0.same kd (State.spendUp s p vc flits) := by
  unfold State.spendUp
  try dsimp only
  repeat' (first | with_reducible (first | assumption) | (simp only [State.same_mk]; refine State.same_upd_upSpent ?_ ?_))

theorem State.creditBack_same {kd : StateKind} {s0 : State} {s : State} {up : Bool} {p : Nat} {vc : Nat} (h_shares : kd ≠ .shares) (hs : s0.same kd s) :
    s0.same kd (State.creditBack s up p vc) := by
  unfold State.creditBack
  try dsimp only
  repeat' (first | with_reducible (first | assumption | apply State.same_ite_fst | apply State.same_ite | apply State.set_same) | (simp only [State.same_mk]; refine State.same_upd_upSpent ?_ ?_) | split)

theorem State.auditPort_same {kd : StateKind} {s0 : State} {s : State} {p : Nat} {vc : Nat} {free : Nat} (h_requests : kd ≠ .requests) (h_shares : kd ≠ .shares) (hs : s0.same kd s) :
    s0.same kd (State.auditPort s p vc free) := by
  unfold State.auditPort
  try dsimp only
  repeat' (first | with_reducible (first | assumption | apply State.same_ite_fst | apply State.same_ite | apply State.set_same | apply State.raise_same | apply State.count_same) | (simp only [State.same_mk]; refine State.same_upd_unaudited_upSpent ?_ ?_ ?_))

theorem State.countStalls_same {kd : StateKind} {s0 : State} {s : State} (hs : s0.same kd s) :
    s0.same kd (State.countStalls s) := by
  unfold State.countStalls
  try dsimp only
  repeat' (first | with_reducible (first | assumption | intro s x _ | intro s _ | intro x | apply State.same_ite_fst | apply State.same_ite | apply State.same_foldl | apply State.same_foldl_fst | apply State.count_same))

theorem State.showTags_same {kd : StateKind} {s0 : State} {s : State} (hs : s0.same kd s) :
    s0.same kd (State.showTags s) := by
  unfold State.showTags
  try dsimp only
  repeat' (first | with_reducible (first | assumption | intro s x _ | intro s _ | intro x | apply State.same_foldl | apply State.same_foldl_fst | apply State.set_same))

theorem State.chargeUp_same {kd : StateKind} {s0 : State} {s : State} {r : Req} (h_shares : kd ≠ .shares) (hs : s0.same kd s) :
    s0.same kd (State.chargeUp s r) := by
  unfold State.chargeUp
  try dsimp only
  repeat' (first | with_reducible (first | assumption | apply State.same_ite_fst | apply State.same_ite | apply State.charge_same | refine State.same_of_fst (by assumption) ?_) | split)

theorem State.leavePort_same {kd : StateKind} {s0 : State} {s : State} {r : Req} {p : Nat} (h_shares : kd ≠ .shares) (hs : s0.same kd s) :
    s0.same kd (State.leavePort s r p) := by
  unfold State.leavePort
  try dsimp only
  repeat' (first | with_reducible (first | assumption | apply State.same_ite_fst | apply State.same_ite | apply State.wrap2_same | apply State.sendPacket_same))

theorem State.brushTag_same {kd : StateKind} {s0 : State} {s : State} (hs : s0.same kd s) :
    s0.same kd (State.brushTag s) := by
  unfold State.brushTag
  try dsimp only
  repeat' (first | with_reducible (first | assumption | apply State.set_same))

theorem State.pass_same {kd : StateKind} {s0 : State} {s : State} {r : Req} (h_shares : kd ≠ .shares) (hs : s0.same kd s) :
    s0.same kd (State.pass s r) := by
  unfold State.pass
  try dsimp only
  repeat' (first | with_reducible (first | assumption | apply State.same_ite_fst | apply State.same_ite | apply State.wrap2_same | apply State.chargeUp_same | apply State.leavePort_same | apply State.brushTag_same) | split)

theorem State.passAll_same {kd : StateKind} {s0 : State} {s : State} {x1 : List Req} (h_shares : kd ≠ .shares) (hs : s0.same kd s) :
    SameO kd id s0 (State.passAll s x1) := by
  revert hs
  induction x1 generalizing s with
  | nil =>
    intro hs; unfold State.passAll; try dsimp only
    repeat' (first | with_reducible (first | assumption | apply SameO.ite | apply State.same_ite_fst | apply State.same_ite | apply SameO.none | apply SameO.some_id | apply SameO.some | apply State.pass_same) | split)
  | cons y l ih =>
    intro hs; unfold State.passAll; try dsimp only
    repeat' (first | with_reducible (first | assumption | apply SameO.ite | apply State.same_ite_fst | apply State.same_ite | apply SameO.none | apply SameO.some_id | apply SameO.some | apply ih | apply State.pass_same) | split)

theorem State.netRead_same {kd : StateKind} {s0 : State} {s : State} {src : Nat} {oc : Nat} {port : Option Nat} {a : Nat} {len : Nat} {client : Nat} (h_memory : kd ≠ .memory) (h_reservations : kd ≠ .reservations) (h_requests : kd ≠ .requests) (h_shares : kd ≠ .shares) (h_hbm : kd ≠ .hbm) (h_qdr : kd ≠ .qdr) (h_walkers : kd ≠ .walkers) (h_lanes : kd ≠ .lanes) (h_counter : kd ≠ .counter) (hs : s0.same kd s) :
    s0.same kd (State.netRead s src oc port a len client).1 := by
  unfold State.netRead
  try dsimp only
  repeat' (first | with_reducible (first | assumption | apply State.same_ite_fst | apply State.same_ite | apply SameO.none | apply SameO.some_id | apply SameO.some | apply SameO.ite | apply State.drainAt_same | apply State.readMem_same | apply State.passAll_same | refine State.same_of_some (by assumption) ?_ | refine State.same_of_fst (by assumption) ?_) | split | dsimp only)

theorem State.netStore_same {kd : StateKind} {s0 : State} {s : State} {op : ReqOp} {src : Nat} {oc : Nat} {a : Nat} {bytes : List Byte} (h_memory : kd ≠ .memory) (h_reservations : kd ≠ .reservations) (h_requests : kd ≠ .requests) (h_shares : kd ≠ .shares) (h_hbm : kd ≠ .hbm) (h_qdr : kd ≠ .qdr) (h_walkers : kd ≠ .walkers) (h_lanes : kd ≠ .lanes) (h_counter : kd ≠ .counter) (hs : s0.same kd s) :
    s0.same kd (State.netStore s op src oc a bytes).1 := by
  unfold State.netStore
  try dsimp only
  repeat' (first | with_reducible (first | assumption | apply State.drainAt_same | apply State.storeMem_same | apply State.passAll_same | refine State.same_of_some (by assumption) ?_ | refine State.same_of_fst (by assumption) ?_) | split | dsimp only)

theorem State.netAtomic_same {kd : StateKind} {s0 : State} {s : State} {src : Nat} {oc : Nat} {a : Nat} {len : Nat} {aop : Nat} {data : List Byte} (h_memory : kd ≠ .memory) (h_reservations : kd ≠ .reservations) (h_requests : kd ≠ .requests) (h_shares : kd ≠ .shares) (h_hbm : kd ≠ .hbm) (h_qdr : kd ≠ .qdr) (h_walkers : kd ≠ .walkers) (h_lanes : kd ≠ .lanes) (h_counter : kd ≠ .counter) (hs : s0.same kd s) :
    s0.same kd (State.netAtomic s src oc a len aop data).1 := by
  unfold State.netAtomic
  try dsimp only
  repeat' (first | with_reducible (first | assumption | apply State.drainAt_same | apply State.atomicMem_same | apply State.passAll_same | refine State.same_of_fst (by assumption) ?_ | refine State.same_of_some (by assumption) ?_) | split | dsimp only)

theorem State.setTurn_same {kd : StateKind} {s0 : State} {s : State} {t : Nat} {m : Nat} {v : TurnSt} (h_flume : kd ≠ .flume) (hs : s0.same kd s) :
    s0.same kd (State.setTurn s t m v) := by
  unfold State.setTurn
  try dsimp only
  repeat' (first | with_reducible (first | assumption) | (simp only [State.same_mk]; refine State.same_upd_turns ?_ ?_))

theorem State.sendUnit_same {kd : StateKind} {s0 : State} {s : State} {t : Nat} {m : Nat} {nak : Bool} (h_flume : kd ≠ .flume) (h_outputs : kd ≠ .outputs) (hs : s0.same kd s) :
    s0.same kd (State.sendUnit s t m nak) := by
  unfold State.sendUnit
  try dsimp only
  repeat' (first | with_reducible (first | assumption | intro s x _ | intro s _ | intro x | apply State.same_foldl | apply State.same_foldl_fst | apply State.emit_same | apply State.setTurn_same))

theorem State.sendUnits_same {kd : StateKind} {s0 : State} {s : State} {t : Nat} {m : Nat} {x3 : Nat} (h_flume : kd ≠ .flume) (h_outputs : kd ≠ .outputs) (hs : s0.same kd s) :
    s0.same kd (State.sendUnits s t m x3) := by
  revert hs
  induction x3 generalizing s t m with
  | zero =>
    intro hs; unfold State.sendUnits; try dsimp only
    repeat' (first | with_reducible (first | assumption | apply State.same_ite_fst | apply State.same_ite | apply State.sendUnit_same) | split)
  | succ n ih =>
    intro hs; unfold State.sendUnits; try dsimp only
    repeat' (first | with_reducible (first | assumption | apply State.same_ite_fst | apply State.same_ite | apply ih | apply State.sendUnit_same) | split)

theorem State.toGuest_same {kd : StateKind} {s0 : State} {s : State} {p : Nat} {flits : List (List Byte)} (h_flume : kd ≠ .flume) (h_outputs : kd ≠ .outputs) (hs : s0.same kd s) :
    s0.same kd (State.toGuest s p flits) := by
  unfold State.toGuest
  try dsimp only
  repeat' (first | with_reducible (first | assumption | apply State.same_ite_fst | apply State.same_ite | apply State.setTurn_same | apply State.sendUnits_same))

end Sys2Proof.Machine
end

