-- ==== Sys2Proof/Laws/SameCistern.lean ====
section
/-! SUPPORT. The kinds of state that every operation and meaning of Machine/Cistern.lean leaves as they are (Laws/Same.lean). -/
set_option maxRecDepth 4000
set_option linter.unusedVariables false
namespace Sys2Proof.Machine

theorem State.stageRecord_same {kd : StateKind} {s0 : State} {s : State} {l : Nat} {r : StRec} (h_capture : kd ≠ .capture) (hs : s0.same kd s) :
    s0.same kd (State.stageRecord s l r) := by
  unfold State.stageRecord
  try dsimp only
  repeat' (first | with_reducible (first | assumption | intro s x _ | intro s _ | intro x | apply State.same_foldl | apply State.same_foldl_fst | apply State.setCfe_same | apply State.lend_same | apply State.wrap2_same))

theorem State.dropRecord_same {kd : StateKind} {s0 : State} {s : State} {l : Nat} {r : PendRec} {cause : Nat} (h_capture : kd ≠ .capture) (hs : s0.same kd s) :
    s0.same kd (State.dropRecord s l r cause) := by
  unfold State.dropRecord
  try dsimp only
  repeat' (first | with_reducible (first | assumption | apply State.same_ite_fst | apply State.same_ite | apply SameO.none | apply SameO.some_id | apply SameO.some | apply SameO.ite | apply State.setCfe_same | apply State.raise_same | apply State.wrap2_same) | split)

theorem State.sendCapture_same {kd : StateKind} {s0 : State} {s : State} {n : Nat} {x2 : List Nat} (h_shares : kd ≠ .shares) (hs : s0.same kd s) :
    s0.same kd (State.sendCapture s n x2).1 := by
  revert hs
  induction x2 generalizing s n with
  | nil =>
    intro hs; unfold State.sendCapture; try dsimp only
    repeat' (first | with_reducible (first | assumption | apply State.same_ite_fst | apply State.same_ite | apply SameO.none | apply SameO.some_id | apply SameO.some | apply SameO.ite | apply State.spendUp_same) | (simp only [State.same_mk]; refine State.same_upd_served ?_ ?_) | split | dsimp only)
  | cons y l ih =>
    intro hs; unfold State.sendCapture; try dsimp only
    repeat' (first | with_reducible (first | assumption | apply State.same_ite_fst | apply State.same_ite | apply SameO.none | apply SameO.some_id | apply SameO.some | apply SameO.ite | apply ih | apply State.spendUp_same) | (simp only [State.same_mk]; refine State.same_upd_served ?_ ?_) | split | dsimp only)

theorem State.pushHand_same {kd : StateKind} {s0 : State} {s : State} {l : Nat} (h_shares : kd ≠ .shares) (h_capture : kd ≠ .capture) (hs : s0.same kd s) :
    s0.same kd (State.pushHand s l) := by
  unfold State.pushHand
  try dsimp only
  repeat' (first | with_reducible (first | assumption | apply State.same_ite_fst | apply State.same_ite | apply SameO.none | apply SameO.some_id | apply SameO.some | apply SameO.ite | apply State.stageRecord_same | apply State.dropRecord_same | apply State.sendCapture_same | apply State.setCfe_same | refine State.same_of_fst (by assumption) ?_) | split)

theorem State.pushHands_same {kd : StateKind} {s0 : State} {s : State} (h_shares : kd ≠ .shares) (h_capture : kd ≠ .capture) (hs : s0.same kd s) :
    s0.same kd (State.pushHands s) := by
  unfold State.pushHands
  try dsimp only
  repeat' (first | with_reducible (first | assumption | intro s x _ | intro s _ | intro x | apply State.same_foldl | apply State.same_foldl_fst | apply State.pushHand_same))

theorem State.dropHand_same {kd : StateKind} {s0 : State} {s : State} {l : Nat} (h_capture : kd ≠ .capture) (hs : s0.same kd s) :
    s0.same kd (State.dropHand s l) := by
  unfold State.dropHand
  try dsimp only
  repeat' (first | with_reducible (first | assumption | apply State.dropRecord_same | apply State.setCfe_same) | split)

theorem State.withdraw_same {kd : StateKind} {s0 : State} {s : State} {n : Nat} {m : Nat} (h_capture : kd ≠ .capture) (hs : s0.same kd s) :
    s0.same kd (State.withdraw s n m) := by
  unfold State.withdraw
  try dsimp only
  repeat' (first | with_reducible (first | assumption | intro s x _ | intro s _ | intro x | apply State.same_ite_fst | apply State.same_ite | apply State.same_foldl | apply State.same_foldl_fst | apply State.dropHand_same))

theorem State.writeCfeCtrl_same {kd : StateKind} {s0 : State} {s : State} {l : Nat} {v : Nat} (h_lanes : kd ≠ .lanes) (h_capture : kd ≠ .capture) (hs : s0.same kd s) :
    s0.same kd (State.writeCfeCtrl s l v) := by
  unfold State.writeCfeCtrl
  try dsimp only
  repeat' (first | with_reducible (first | assumption | apply State.same_ite_fst | apply State.same_ite | apply State.dropHand_same | apply State.setCfe_same | apply State.closeAll_same | apply State.returnSegs_same | apply State.raise_same | apply State.lower_same | apply State.wrAll_same | apply State.setLane_same | apply State.wakeQuad_same))

theorem execCfeEnable_same {kd : StateKind} {s0 : State} {l : LaneId} {v : Word} {s : State} (h_lanes : kd ≠ .lanes) (h_capture : kd ≠ .capture) (h_answer : kd ≠ .answer) (hs : s0.same kd s) :
    SameR kd s0 (execCfeEnable l v s) := by
  unfold execCfeEnable
  try dsimp only
  repeat' (first | with_reducible (first | assumption | intro s x _ | intro s _ | intro x | apply SameR.next | apply SameR.ite | apply State.writeCfeCtrl_same | apply State.access_same))

theorem State.writeCfeStat_same {kd : StateKind} {s0 : State} {s : State} {l : Nat} {v : Nat} (hs : s0.same kd s) :
    s0.same kd (State.writeCfeStat s l v) := by
  unfold State.writeCfeStat
  try dsimp only
  repeat' (first | with_reducible (first | assumption | apply State.same_ite_fst | apply State.same_ite | apply State.set2_same | apply State.w1cAll_same))

theorem execCfeCounterClear_same {kd : StateKind} {s0 : State} {l : LaneId} {v : Word} {s : State} (h_answer : kd ≠ .answer) (hs : s0.same kd s) :
    SameR kd s0 (execCfeCounterClear l v s) := by
  unfold execCfeCounterClear
  try dsimp only
  repeat' (first | with_reducible (first | assumption | intro s x _ | intro s _ | intro x | apply SameR.next | apply SameR.ite | apply State.writeCfeStat_same | apply State.access_same))

theorem State.takeFrame_same {kd : StateKind} {s0 : State} {s : State} {l : Nat} {f : RxFrame} (h_fabric : kd ≠ .fabric) (h_capture : kd ≠ .capture) (h_sequencers : kd ≠ .sequencers) (h_ledger : kd ≠ .ledger) (h_outputs : kd ≠ .outputs) (hs : s0.same kd s) :
    s0.same kd (State.takeFrame s l f) := by
  unfold State.takeFrame
  try dsimp only
  repeat' (first | with_reducible (first | assumption | apply State.same_ite_fst | apply State.same_ite | apply State.setCfe_same | apply State.wrap2_same | apply State.cfePulse_same) | split)

theorem execCfeFrame_same {kd : StateKind} {s0 : State} {l : LaneId} {f : Option FabFrame} {s : State} (h_fabric : kd ≠ .fabric) (h_lanes : kd ≠ .lanes) (h_capture : kd ≠ .capture) (h_sequencers : kd ≠ .sequencers) (h_ledger : kd ≠ .ledger) (h_outputs : kd ≠ .outputs) (h_counter : kd ≠ .counter) (hs : s0.same kd s) :
    SameR kd s0 (execCfeFrame l f s) := by
  unfold execCfeFrame
  try dsimp only
  repeat' (first | with_reducible (first | assumption | apply SameR.next | apply SameR.ite | apply State.same_ite_fst | apply State.same_ite | apply SameO.none | apply SameO.some_id | apply SameO.some | apply SameO.ite | apply State.takeFrame_same | apply State.used_same | apply State.setLane_same) | split)

theorem State.emitGap_same {kd : StateKind} {s0 : State} {s : State} {l : Nat} (h_capture : kd ≠ .capture) (hs : s0.same kd s) :
    s0.same kd (State.emitGap s l) := by
  unfold State.emitGap
  try dsimp only
  repeat' (first | with_reducible (first | assumption | apply State.same_ite_fst | apply State.same_ite | apply SameO.none | apply SameO.some_id | apply SameO.some | apply SameO.ite | apply State.setCfe_same | apply State.book_same | apply State.enqueueClosed_same | apply State.closeAll_same | apply State.spend_same | apply State.lower_same | apply State.wrap2_same) | split)

theorem State.handRecord_same {kd : StateKind} {s0 : State} {s : State} {l : Nat} {r : PendRec} (h_shares : kd ≠ .shares) (h_capture : kd ≠ .capture) (hs : s0.same kd s) :
    s0.same kd (State.handRecord s l r) := by
  unfold State.handRecord
  try dsimp only
  repeat' (first | with_reducible (first | assumption | apply SameO.none | apply SameO.some_id | apply SameO.some | apply SameO.ite | apply State.pushHand_same | apply State.setCfe_same))

theorem State.settleHand_same {kd : StateKind} {s0 : State} {s : State} {l : Nat} (h_shares : kd ≠ .shares) (h_capture : kd ≠ .capture) (hs : s0.same kd s) :
    s0.same kd (State.settleHand s l) := by
  unfold State.settleHand
  try dsimp only
  repeat' (first | with_reducible (first | assumption | apply State.pushHand_same | apply State.dropHand_same))

theorem State.judge_same {kd : StateKind} {s0 : State} {s : State} {l : Nat} {r : PendRec} (h_shares : kd ≠ .shares) (h_capture : kd ≠ .capture) (hs : s0.same kd s) :
    s0.same kd (State.judge s l r) := by
  unfold State.judge
  try dsimp only
  repeat' (first | with_reducible (first | assumption | apply State.same_ite_fst | apply State.same_ite | apply State.dropRecord_same | apply State.emitGap_same | apply State.handRecord_same | apply State.settleHand_same | apply State.spend_same | apply State.wrap_same) | split)

theorem execRecordJudge_same {kd : StateKind} {s0 : State} {l : LaneId} {s : State} (h_shares : kd ≠ .shares) (h_capture : kd ≠ .capture) (hs : s0.same kd s) :
    SameR kd s0 (execRecordJudge l s) := by
  unfold execRecordJudge
  try dsimp only
  repeat' (first | with_reducible (first | assumption | apply SameR.next | apply SameR.ite | apply State.same_ite_fst | apply State.same_ite | apply State.judge_same | apply State.setCfe_same) | split)

theorem execGapEmit_same {kd : StateKind} {s0 : State} {l : LaneId} {s : State} (h_capture : kd ≠ .capture) (hs : s0.same kd s) :
    SameR kd s0 (execGapEmit l s) := by
  unfold execGapEmit
  try dsimp only
  repeat' (first | with_reducible (first | assumption | apply SameR.next | apply SameR.ite | apply State.same_ite_fst | apply State.same_ite | apply State.emitGap_same))

theorem execSegmentLend_same {kd : StateKind} {s0 : State} {l : LaneId} {s : State} (h_capture : kd ≠ .capture) (hs : s0.same kd s) :
    SameR kd s0 (execSegmentLend l s) := by
  unfold execSegmentLend
  try dsimp only
  repeat' (first | with_reducible (first | assumption | apply SameR.next | apply SameR.ite | apply State.same_ite_fst | apply State.same_ite | apply State.lend_same))

theorem execSegmentClose_same {kd : StateKind} {s0 : State} {l : LaneId} {s : State} (h_capture : kd ≠ .capture) (hs : s0.same kd s) :
    SameR kd s0 (execSegmentClose l s) := by
  unfold execSegmentClose
  try dsimp only
  repeat' (first | with_reducible (first | assumption | apply SameR.next | apply SameR.ite | apply State.closeFirst_same))

theorem State.drainSend_same {kd : StateKind} {s0 : State} {s : State} {r : Req} (h_memory : kd ≠ .memory) (h_reservations : kd ≠ .reservations) (h_requests : kd ≠ .requests) (h_ingress : kd ≠ .ingress) (h_shares : kd ≠ .shares) (h_qdr : kd ≠ .qdr) (h_walkers : kd ≠ .walkers) (h_lanes : kd ≠ .lanes) (h_counter : kd ≠ .counter) (hs : s0.same kd s) :
    s0.same kd (State.drainSend s r) := by
  unfold State.drainSend
  try dsimp only
  repeat' (first | with_reducible (first | assumption | apply State.same_ite_fst | apply State.same_ite | apply State.arrive_same | apply State.spendCredit_same | apply State.leavePort_same) | (simp only [State.same_mk]; refine State.same_upd_ingress ?_ ?_) | split)

theorem State.drainWrite_same {kd : StateKind} {s0 : State} {s : State} {a : Nat} {bytes : List Byte} {job : Nat} (h_memory : kd ≠ .memory) (h_reservations : kd ≠ .reservations) (h_requests : kd ≠ .requests) (h_ingress : kd ≠ .ingress) (h_shares : kd ≠ .shares) (h_qdr : kd ≠ .qdr) (h_walkers : kd ≠ .walkers) (h_lanes : kd ≠ .lanes) (h_counter : kd ≠ .counter) (hs : s0.same kd s) :
    s0.same kd (State.drainWrite s a bytes job) := by
  unfold State.drainWrite
  try dsimp only
  repeat' (first | with_reducible (first | assumption | intro s x _ | intro s _ | intro x | apply State.same_foldl | apply State.same_foldl_fst | apply State.drainSend_same))

theorem State.ringWrite_same {kd : StateKind} {s0 : State} {s : State} {c : Nat} {bytes : List Byte} {job : Nat} (h_memory : kd ≠ .memory) (h_reservations : kd ≠ .reservations) (h_requests : kd ≠ .requests) (h_ingress : kd ≠ .ingress) (h_shares : kd ≠ .shares) (h_qdr : kd ≠ .qdr) (h_walkers : kd ≠ .walkers) (h_lanes : kd ≠ .lanes) (h_capture : kd ≠ .capture) (h_counter : kd ≠ .counter) (hs : s0.same kd s) :
    s0.same kd (State.ringWrite s c bytes job) := by
  unfold State.ringWrite
  try dsimp only
  repeat' (first | with_reducible (first | assumption | apply SameO.map | apply State.drainWrite_same | apply State.setCist_same | apply State.set2_same))

theorem State.ringPut_same {kd : StateKind} {s0 : State} {s : State} {r : StRec} {job : Nat} (h_memory : kd ≠ .memory) (h_reservations : kd ≠ .reservations) (h_requests : kd ≠ .requests) (h_ingress : kd ≠ .ingress) (h_shares : kd ≠ .shares) (h_qdr : kd ≠ .qdr) (h_walkers : kd ≠ .walkers) (h_lanes : kd ≠ .lanes) (h_capture : kd ≠ .capture) (h_ledger : kd ≠ .ledger) (h_counter : kd ≠ .counter) (hs : s0.same kd s) :
    s0.same kd (State.ringPut s r job) := by
  unfold State.ringPut
  try dsimp only
  repeat' (first | with_reducible (first | assumption | apply State.same_ite_fst | apply State.same_ite | apply SameO.none | apply SameO.some_id | apply SameO.some | apply SameO.ite | apply State.ringWrite_same | apply State.setCist_same | apply State.publish_same | apply State.set_same | apply State.raise_same | apply State.count_same | apply State.set2_same | apply State.wrap2_same) | split)

theorem execSegmentDrain_same {kd : StateKind} {s0 : State} {s : State} (h_memory : kd ≠ .memory) (h_reservations : kd ≠ .reservations) (h_requests : kd ≠ .requests) (h_ingress : kd ≠ .ingress) (h_shares : kd ≠ .shares) (h_qdr : kd ≠ .qdr) (h_walkers : kd ≠ .walkers) (h_fabric : kd ≠ .fabric) (h_lanes : kd ≠ .lanes) (h_capture : kd ≠ .capture) (h_ledger : kd ≠ .ledger) (h_counter : kd ≠ .counter) (hs : s0.same kd s) :
    SameR kd s0 (execSegmentDrain s) := by
  unfold execSegmentDrain
  try dsimp only
  repeat' (first | with_reducible (first | assumption | intro s x _ | intro s _ | intro x | apply SameR.next | apply SameR.ite | apply State.same_ite_fst | apply State.same_ite | apply State.same_foldl | apply State.same_foldl_fst | apply State.ringPut_same) | (simp only [State.same_mk]; refine State.same_upd_closed_draining ?_ ?_ ?_) | split)

theorem execSegmentReturn_same {kd : StateKind} {s0 : State} {i : Fin 64} {s : State} (h_fabric : kd ≠ .fabric) (h_capture : kd ≠ .capture) (h_ledger : kd ≠ .ledger) (hs : s0.same kd s) :
    SameR kd s0 (execSegmentReturn i s) := by
  unfold execSegmentReturn
  try dsimp only
  repeat' (first | with_reducible (first | assumption | intro s x _ | intro s _ | intro x | apply SameR.next | apply SameR.ite | apply State.same_ite_fst | apply State.same_ite | apply SameO.none | apply SameO.some_id | apply SameO.some | apply SameO.ite | apply State.same_foldl | apply State.same_foldl_fst | apply State.book_same | apply State.poolFull_same | apply State.snap_same | apply State.maybeDone_same) | (simp only [State.same_mk]; refine State.same_upd_draining ?_ ?_) | split)

theorem State.writeCctrl_same {kd : StateKind} {s0 : State} {s : State} {c : Nat} {src : Nat} {v : Nat} (h_capture : kd ≠ .capture) (h_ledger : kd ≠ .ledger) (hs : s0.same kd s) :
    s0.same kd (State.writeCctrl s c src v) := by
  unfold State.writeCctrl
  try dsimp only
  repeat' (first | with_reducible (first | assumption | apply State.same_ite_fst | apply State.same_ite | apply State.arm_same | apply State.disarm_same | apply State.actOn_same | apply State.raise_same | apply State.wrAll_same))

theorem execCisternArm_same {kd : StateKind} {s0 : State} {c : CistId} {src : Fin 4096} {v : Word} {s : State} (h_capture : kd ≠ .capture) (h_ledger : kd ≠ .ledger) (h_answer : kd ≠ .answer) (hs : s0.same kd s) :
    SameR kd s0 (execCisternArm c src v s) := by
  unfold execCisternArm
  try dsimp only
  repeat' (first | with_reducible (first | assumption | intro s x _ | intro s _ | intro x | apply SameR.next | apply SameR.ite | apply State.writeCctrl_same | apply State.access_same))

theorem execCisternDisarm_same {kd : StateKind} {s0 : State} {c : CistId} {src : Fin 4096} {v : Word} {s : State} (h_capture : kd ≠ .capture) (h_ledger : kd ≠ .ledger) (h_answer : kd ≠ .answer) (hs : s0.same kd s) :
    SameR kd s0 (execCisternDisarm c src v s) := by
  unfold execCisternDisarm
  try dsimp only
  repeat' (first | with_reducible (first | assumption | intro s x _ | intro s _ | intro x | apply SameR.next | apply SameR.ite | apply State.writeCctrl_same | apply State.access_same))

theorem execSwstart_same {kd : StateKind} {s0 : State} {c : CistId} {src : Fin 4096} {v : Word} {s : State} (h_capture : kd ≠ .capture) (h_ledger : kd ≠ .ledger) (h_answer : kd ≠ .answer) (hs : s0.same kd s) :
    SameR kd s0 (execSwstart c src v s) := by
  unfold execSwstart
  try dsimp only
  repeat' (first | with_reducible (first | assumption | intro s x _ | intro s _ | intro x | apply SameR.next | apply SameR.ite | apply State.writeCctrl_same | apply State.access_same))

theorem execSwstop_same {kd : StateKind} {s0 : State} {c : CistId} {src : Fin 4096} {v : Word} {s : State} (h_capture : kd ≠ .capture) (h_ledger : kd ≠ .ledger) (h_answer : kd ≠ .answer) (hs : s0.same kd s) :
    SameR kd s0 (execSwstop c src v s) := by
  unfold execSwstop
  try dsimp only
  repeat' (first | with_reducible (first | assumption | intro s x _ | intro s _ | intro x | apply SameR.next | apply SameR.ite | apply State.writeCctrl_same | apply State.access_same))

theorem execCfeStopAck_same {kd : StateKind} {s0 : State} {l : LaneId} {s : State} (h_capture : kd ≠ .capture) (h_ledger : kd ≠ .ledger) (hs : s0.same kd s) :
    SameR kd s0 (execCfeStopAck l s) := by
  unfold execCfeStopAck
  try dsimp only
  repeat' (first | with_reducible (first | assumption | apply SameR.next | apply SameR.ite | apply State.same_ite_fst | apply State.same_ite | apply State.setCist_same | apply State.maybeDone_same) | split)

theorem execCisternPublish_same {kd : StateKind} {s0 : State} {c : CistId} {s : State} (h_capture : kd ≠ .capture) (h_ledger : kd ≠ .ledger) (hs : s0.same kd s) :
    SameR kd s0 (execCisternPublish c s) := by
  unfold execCisternPublish
  try dsimp only
  repeat' (first | with_reducible (first | assumption | apply SameR.next | apply SameR.ite | apply State.same_ite_fst | apply State.same_ite | apply State.publish_same))

theorem execFloatPulse_same {kd : StateKind} {s0 : State} {m : BitVec 64} {s : State} (h_fabric : kd ≠ .fabric) (h_capture : kd ≠ .capture) (h_sequencers : kd ≠ .sequencers) (h_ledger : kd ≠ .ledger) (h_outputs : kd ≠ .outputs) (hs : s0.same kd s) :
    SameR kd s0 (execFloatPulse m s) := by
  unfold execFloatPulse
  try dsimp only
  repeat' (first | with_reducible (first | assumption | apply SameR.next | apply SameR.ite | apply State.pulse_same))

theorem State.writeSwf_same {kd : StateKind} {s0 : State} {s : State} {hi : Bool} {v : Nat} (h_fabric : kd ≠ .fabric) (h_capture : kd ≠ .capture) (h_sequencers : kd ≠ .sequencers) (h_ledger : kd ≠ .ledger) (h_outputs : kd ≠ .outputs) (hs : s0.same kd s) :
    s0.same kd (State.writeSwf s hi v) := by
  unfold State.writeSwf
  try dsimp only
  repeat' (first | with_reducible (first | assumption | apply State.same_ite_fst | apply State.same_ite | apply State.countPulse_same | apply State.wakeFurs_same | apply State.emit_same | apply State.fabFloats_same))

theorem execSoftwareFloat_same {kd : StateKind} {s0 : State} {hi : Bool} {v : Word} {s : State} (h_fabric : kd ≠ .fabric) (h_capture : kd ≠ .capture) (h_sequencers : kd ≠ .sequencers) (h_ledger : kd ≠ .ledger) (h_outputs : kd ≠ .outputs) (h_answer : kd ≠ .answer) (hs : s0.same kd s) :
    SameR kd s0 (execSoftwareFloat hi v s) := by
  unfold execSoftwareFloat
  try dsimp only
  repeat' (first | with_reducible (first | assumption | intro s x _ | intro s _ | intro x | apply SameR.next | apply SameR.ite | apply State.writeSwf_same | apply State.access_same))

theorem State.writeFltCtrl_same {kd : StateKind} {s0 : State} {s : State} {v : Nat} (h_capture : kd ≠ .capture) (hs : s0.same kd s) :
    s0.same kd (State.writeFltCtrl s v) := by
  unfold State.writeFltCtrl
  try dsimp only
  repeat' (first | with_reducible (first | assumption | apply State.same_ite_fst | apply State.same_ite | apply State.enterFlt_same | apply State.raise_same | apply State.lower_same | apply State.wrAll_same))

theorem execSequencerEnable_same {kd : StateKind} {s0 : State} {v : Word} {s : State} (h_capture : kd ≠ .capture) (h_answer : kd ≠ .answer) (hs : s0.same kd s) :
    SameR kd s0 (execSequencerEnable v s) := by
  unfold execSequencerEnable
  try dsimp only
  repeat' (first | with_reducible (first | assumption | intro s x _ | intro s _ | intro x | apply SameR.next | apply SameR.ite | apply State.writeFltCtrl_same | apply State.access_same))

theorem execSequencerDisable_same {kd : StateKind} {s0 : State} {v : Word} {s : State} (h_capture : kd ≠ .capture) (h_answer : kd ≠ .answer) (hs : s0.same kd s) :
    SameR kd s0 (execSequencerDisable v s) := by
  unfold execSequencerDisable
  try dsimp only
  repeat' (first | with_reducible (first | assumption | intro s x _ | intro s _ | intro x | apply SameR.next | apply SameR.ite | apply State.writeFltCtrl_same | apply State.access_same))

theorem execEventTransition_same {kd : StateKind} {s0 : State} {s : State} (h_capture : kd ≠ .capture) (h_ledger : kd ≠ .ledger) (hs : s0.same kd s) :
    SameR kd s0 (execEventTransition s) := by
  unfold execEventTransition
  try dsimp only
  repeat' (first | with_reducible (first | assumption | apply SameR.next | apply SameR.ite | apply State.same_ite_fst | apply State.same_ite | apply State.settleFlt_same))

theorem execTimerTransition_same {kd : StateKind} {s0 : State} {s : State} (h_capture : kd ≠ .capture) (h_ledger : kd ≠ .ledger) (hs : s0.same kd s) :
    SameR kd s0 (execTimerTransition s) := by
  unfold execTimerTransition
  try dsimp only
  repeat' (first | with_reducible (first | assumption | apply SameR.next | apply SameR.ite | apply State.same_ite_fst | apply State.same_ite | apply State.settleFlt_same | apply State.set_same) | (simp only [State.same_mk]; refine State.same_upd_flt ?_ ?_))

theorem State.readFltTs_same {kd : StateKind} {s0 : State} {s : State} (h_answer : kd ≠ .answer) (hs : s0.same kd s) :
    s0.same kd (State.readFltTs s) := by
  unfold State.readFltTs
  try dsimp only
  repeat' (first | with_reducible (first | assumption | apply State.set_same | apply State.answerData_same))

theorem execFloatStampCapture_same {kd : StateKind} {s0 : State} {s : State} (h_answer : kd ≠ .answer) (hs : s0.same kd s) :
    SameR kd s0 (execFloatStampCapture s) := by
  unfold execFloatStampCapture
  try dsimp only
  repeat' (first | with_reducible (first | assumption | apply SameR.next | apply SameR.ite | apply SameO.none | apply SameO.some_id | apply SameO.some | apply SameO.ite | apply State.readFltTs_same | apply State.answer_same) | split)

end Sys2Proof.Machine
end

