-- ==== Sys2Proof/Laws/SameEcc.lean ====
section
/-! SUPPORT. The kinds of state that every operation and meaning of Machine/Ecc.lean leaves as they are (Laws/Same.lean). -/
set_option maxRecDepth 4000
set_option linter.unusedVariables false
namespace Sys2Proof.Machine

theorem State.wkSet_same {kd : StateKind} {s0 : State} {s : State} {k : Nat} {h : Field} {f : Field} {v : Nat} (hs : s0.same kd s) :
    s0.same kd (State.wkSet s k h f v) := by
  unfold State.wkSet
  try dsimp only
  repeat' (first | with_reducible (first | assumption | apply State.same_ite_fst | apply State.same_ite | apply State.set_same))

theorem State.wkCount_same {kd : StateKind} {s0 : State} {s : State} {k : Nat} {h : Field} {f : Field} (hs : s0.same kd s) :
    s0.same kd (State.wkCount s k h f) := by
  unfold State.wkCount
  try dsimp only
  repeat' (first | with_reducible (first | assumption | apply State.same_ite_fst | apply State.same_ite | apply State.count_same))

theorem State.setWalkPos_same {kd : StateKind} {s0 : State} {s : State} {k : Nat} {a : Nat} (hs : s0.same kd s) :
    s0.same kd (State.setWalkPos s k a) := by
  unfold State.setWalkPos
  try dsimp only
  repeat' (first | with_reducible (first | assumption | apply State.wkSet_same))

theorem State.setCur_same {kd : StateKind} {s0 : State} {s : State} {k : Nat} {v : Nat} (h_counter : kd ≠ .counter) (hs : s0.same kd s) :
    s0.same kd (State.setCur s k v) := by
  unfold State.setCur
  try dsimp only
  repeat' (first | with_reducible (first | assumption | apply State.same_ite_fst | apply State.same_ite | apply State.wkSet_same | apply State.used_same))

theorem State.walkStart_same {kd : StateKind} {s0 : State} {s : State} {k : Nat} (h_walkers : kd ≠ .walkers) (h_counter : kd ≠ .counter) (hs : s0.same kd s) :
    s0.same kd (State.walkStart s k) := by
  unfold State.walkStart
  try dsimp only
  repeat' (first | with_reducible (first | assumption | apply State.same_ite_fst | apply State.same_ite | apply State.wkSet_same | apply State.setWalkPos_same | apply State.setCur_same | apply State.setWalker_same))

theorem State.walkWord_same {kd : StateKind} {s0 : State} {s : State} {k : Nat} {w : Nat} (h_qdr : kd ≠ .qdr) (h_walkers : kd ≠ .walkers) (h_counter : kd ≠ .counter) (hs : s0.same kd s) :
    s0.same kd (State.walkWord s k w) := by
  unfold State.walkWord
  try dsimp only
  repeat' (first | with_reducible (first | assumption | apply State.wkCount_same | apply State.eccLog_same | apply State.setWalker_same | apply State.qdrIssued_same) | split)

theorem State.walkOn1_same {kd : StateKind} {s0 : State} {s : State} {k : Nat} (h_qdr : kd ≠ .qdr) (h_walkers : kd ≠ .walkers) (h_counter : kd ≠ .counter) (hs : s0.same kd s) :
    s0.same kd (State.walkOn1 s k) := by
  unfold State.walkOn1
  try dsimp only
  repeat' (first | with_reducible (first | assumption | intro s x _ | intro s _ | intro x | apply State.same_foldl | apply State.same_foldl_fst | apply State.wkSet_same | apply State.setWalkPos_same | apply State.walkWord_same | apply State.setWalker_same) | split)

theorem State.walkStep_same {kd : StateKind} {s0 : State} {s : State} {k : Nat} (h_qdr : kd ≠ .qdr) (h_walkers : kd ≠ .walkers) (h_counter : kd ≠ .counter) (hs : s0.same kd s) :
    s0.same kd (State.walkStep s k) := by
  unfold State.walkStep
  try dsimp only
  repeat' (first | with_reducible (first | assumption | apply State.same_ite_fst | apply State.same_ite | apply State.walkStart_same | apply State.walkWord_same | apply State.walkOn1_same | apply State.setWalker_same) | split)

theorem execWalkStep_same {kd : StateKind} {s0 : State} {k : Fin 26} {s : State} (h_qdr : kd ≠ .qdr) (h_walkers : kd ≠ .walkers) (h_counter : kd ≠ .counter) (hs : s0.same kd s) :
    SameR kd s0 (execWalkStep k s) := by
  unfold execWalkStep
  try dsimp only
  repeat' (first | with_reducible (first | assumption | apply SameR.next | apply SameR.ite | apply State.walkStep_same))

theorem State.writeBack_same {kd : StateKind} {s0 : State} {s : State} {k : Nat} (h_memory : kd ≠ .memory) (h_qdr : kd ≠ .qdr) (h_walkers : kd ≠ .walkers) (h_counter : kd ≠ .counter) (hs : s0.same kd s) :
    s0.same kd (State.writeBack s k) := by
  unfold State.writeBack
  try dsimp only
  repeat' (first | with_reducible (first | assumption | apply State.putWord_same | apply State.setWalker_same | apply State.qdrIssued_same) | split)

theorem execWalkerWriteBack_same {kd : StateKind} {s0 : State} {k : Fin 26} {s : State} (h_memory : kd ≠ .memory) (h_qdr : kd ≠ .qdr) (h_walkers : kd ≠ .walkers) (h_counter : kd ≠ .counter) (hs : s0.same kd s) :
    SameR kd s0 (execWalkerWriteBack k s) := by
  unfold execWalkerWriteBack
  try dsimp only
  repeat' (first | with_reducible (first | assumption | apply SameR.next | apply SameR.ite | apply State.same_ite_fst | apply State.same_ite | apply State.writeBack_same))

theorem State.walkEpoch_same {kd : StateKind} {s0 : State} {s : State} {k : Nat} (h_walkers : kd ≠ .walkers) (h_counter : kd ≠ .counter) (hs : s0.same kd s) :
    s0.same kd (State.walkEpoch s k) := by
  unfold State.walkEpoch
  try dsimp only
  repeat' (first | with_reducible (first | assumption | apply State.same_ite_fst | apply State.same_ite | apply State.wkSet_same | apply State.wkCount_same | apply State.setCur_same | apply State.walkStart_same | apply State.setWalker_same))

theorem execWalkEpoch_same {kd : StateKind} {s0 : State} {k : Fin 26} {s : State} (h_walkers : kd ≠ .walkers) (h_counter : kd ≠ .counter) (hs : s0.same kd s) :
    SameR kd s0 (execWalkEpoch k s) := by
  unfold execWalkEpoch
  try dsimp only
  repeat' (first | with_reducible (first | assumption | apply SameR.next | apply SameR.ite | apply State.same_ite_fst | apply State.same_ite | apply State.walkEpoch_same | apply State.setWalker_same))

theorem State.retryWaiting_same {kd : StateKind} {s0 : State} {s : State} (h_memory : kd ≠ .memory) (h_reservations : kd ≠ .reservations) (h_requests : kd ≠ .requests) (h_qdr : kd ≠ .qdr) (h_walkers : kd ≠ .walkers) (h_counter : kd ≠ .counter) (hs : s0.same kd s) :
    s0.same kd (State.retryWaiting s) := by
  unfold State.retryWaiting
  try dsimp only
  repeat' (first | with_reducible (first | assumption | intro s x _ | intro s _ | intro x | apply State.same_foldl | apply State.same_foldl_fst | apply State.perform_same) | (simp only [State.same_mk]; refine State.same_upd_waiting ?_ ?_))

theorem State.zeroRange_same {kd : StateKind} {s0 : State} {s : State} {a : Nat} {b : Nat} (h_memory : kd ≠ .memory) (h_reservations : kd ≠ .reservations) (hs : s0.same kd s) :
    s0.same kd (State.zeroRange s a b) := by
  unfold State.zeroRange
  try dsimp only
  repeat' (first | with_reducible (first | assumption) | (simp only [State.same_mk]; refine State.same_upd_chk_mem_resv ?_ ?_ ?_))

theorem State.finishRegion_same {kd : StateKind} {s0 : State} {s : State} {r : Nat} (h_memory : kd ≠ .memory) (h_reservations : kd ≠ .reservations) (h_requests : kd ≠ .requests) (h_qdr : kd ≠ .qdr) (h_walkers : kd ≠ .walkers) (h_counter : kd ≠ .counter) (hs : s0.same kd s) :
    s0.same kd (State.finishRegion s r) := by
  unfold State.finishRegion
  try dsimp only
  repeat' (first | with_reducible (first | assumption | apply State.retryWaiting_same | apply State.zeroRange_same | apply State.setRegion_same) | (simp only [State.same_mk]; refine State.same_upd_fog ?_ ?_))

theorem execAutomaticInitRegionDone_same {kd : StateKind} {s0 : State} {b : Fin 17} {s : State} (h_memory : kd ≠ .memory) (h_reservations : kd ≠ .reservations) (h_requests : kd ≠ .requests) (h_qdr : kd ≠ .qdr) (h_walkers : kd ≠ .walkers) (h_counter : kd ≠ .counter) (hs : s0.same kd s) :
    SameR kd s0 (execAutomaticInitRegionDone b s) := by
  unfold execAutomaticInitRegionDone
  try dsimp only
  repeat' (first | with_reducible (first | assumption | apply SameR.next | apply SameR.ite | apply State.finishRegion_same | apply State.autoNext_same | apply State.qdrIssued_same) | split)

theorem State.rangePass_same {kd : StateKind} {s0 : State} {s : State} {u : Nat} {mode : Nat} {mem : Nat} {entry : Nat} {src : Nat} (h_walkers : kd ≠ .walkers) (h_ledger : kd ≠ .ledger) (hs : s0.same kd s) :
    s0.same kd (State.rangePass s u mode mem entry src) := by
  unfold State.rangePass
  try dsimp only
  repeat' (first | with_reducible (first | assumption | apply State.same_ite_fst | apply State.same_ite | apply SameO.none | apply SameO.some_id | apply SameO.some | apply SameO.ite | apply State.opBegin_same | apply State.opRefuse_same | apply State.setRegion_same | apply State.raise_same) | (simp only [State.same_mk]; refine State.same_upd_ranges ?_ ?_) | split)

theorem State.writeRp_same {kd : StateKind} {s0 : State} {s : State} {u : Nat} {v : Nat} {src : Nat} (h_walkers : kd ≠ .walkers) (h_ledger : kd ≠ .ledger) (hs : s0.same kd s) :
    s0.same kd (State.writeRp s u v src) := by
  unfold State.writeRp
  try dsimp only
  repeat' (first | with_reducible (first | assumption | apply State.same_ite_fst | apply State.same_ite | apply State.rangePass_same))

theorem State.rangeCmd_same {kd : StateKind} {s0 : State} {s : State} {u : Fin 9} {mode : Nat} {mem : Fin 4} {e : Fin 1024} {src : Nat} (h_walkers : kd ≠ .walkers) (h_ledger : kd ≠ .ledger) (h_answer : kd ≠ .answer) (hs : s0.same kd s) :
    SameR kd s0 (State.rangeCmd s u mode mem e src) := by
  unfold State.rangeCmd
  try dsimp only
  repeat' (first | with_reducible (first | assumption | intro s x _ | intro s _ | intro x | apply SameR.next | apply SameR.ite | apply State.same_ite_fst | apply State.same_ite | apply State.rangePass_same | apply State.access_same))

theorem execCheck_same {kd : StateKind} {s0 : State} {u : Fin 9} {mem : Fin 4} {e : Fin 1024} {src : Fin 4096} {s : State} (h_walkers : kd ≠ .walkers) (h_ledger : kd ≠ .ledger) (h_answer : kd ≠ .answer) (hs : s0.same kd s) :
    SameR kd s0 (execCheck u mem e src s) := by
  unfold execCheck
  try dsimp only
  repeat' (first | with_reducible (first | assumption | apply SameR.next | apply SameR.ite | apply State.rangeCmd_same))

theorem execScrub_same {kd : StateKind} {s0 : State} {u : Fin 9} {mem : Fin 4} {e : Fin 1024} {src : Fin 4096} {s : State} (h_walkers : kd ≠ .walkers) (h_ledger : kd ≠ .ledger) (h_answer : kd ≠ .answer) (hs : s0.same kd s) :
    SameR kd s0 (execScrub u mem e src s) := by
  unfold execScrub
  try dsimp only
  repeat' (first | with_reducible (first | assumption | apply SameR.next | apply SameR.ite | apply State.rangeCmd_same))

theorem execInit_same {kd : StateKind} {s0 : State} {u : Fin 9} {mem : Fin 4} {e : Fin 1024} {src : Fin 4096} {s : State} (h_walkers : kd ≠ .walkers) (h_ledger : kd ≠ .ledger) (h_answer : kd ≠ .answer) (hs : s0.same kd s) :
    SameR kd s0 (execInit u mem e src s) := by
  unfold execInit
  try dsimp only
  repeat' (first | with_reducible (first | assumption | apply SameR.next | apply SameR.ite | apply State.rangeCmd_same))

theorem State.rangeWord_same {kd : StateKind} {s0 : State} {s : State} {u : Nat} {w : Nat} {p : RangeSt} (h_memory : kd ≠ .memory) (h_qdr : kd ≠ .qdr) (h_counter : kd ≠ .counter) (hs : s0.same kd s) :
    s0.same kd (State.rangeWord s u w p).1 := by
  unfold State.rangeWord
  try dsimp only
  repeat' (first | with_reducible (first | assumption | apply State.same_ite_fst | apply State.same_ite | apply SameO.none | apply SameO.some_id | apply SameO.some | apply SameO.ite | apply State.wkCount_same | apply State.putWord_same | apply State.eccLog_same | apply State.qdrIssued_same) | split | dsimp only)

theorem State.rangeInit_same {kd : StateKind} {s0 : State} {s : State} {a : Nat} {b : Nat} (h_memory : kd ≠ .memory) (h_reservations : kd ≠ .reservations) (h_requests : kd ≠ .requests) (h_qdr : kd ≠ .qdr) (h_walkers : kd ≠ .walkers) (h_counter : kd ≠ .counter) (hs : s0.same kd s) :
    s0.same kd (State.rangeInit s a b) := by
  unfold State.rangeInit
  try dsimp only
  repeat' (first | with_reducible (first | assumption | intro s x _ | intro s _ | intro x | apply State.same_ite_fst | apply State.same_ite | apply SameO.none | apply SameO.some_id | apply SameO.some | apply SameO.ite | apply State.same_foldl | apply State.same_foldl_fst | apply State.zeroRange_same | apply State.finishRegion_same | apply State.setRegion_same) | split)

theorem State.rangeStep_same {kd : StateKind} {s0 : State} {s : State} {u : Nat} {p : RangeSt} (h_memory : kd ≠ .memory) (h_reservations : kd ≠ .reservations) (h_requests : kd ≠ .requests) (h_qdr : kd ≠ .qdr) (h_walkers : kd ≠ .walkers) (h_ledger : kd ≠ .ledger) (h_counter : kd ≠ .counter) (hs : s0.same kd s) :
    s0.same kd (State.rangeStep s u p) := by
  unfold State.rangeStep
  try dsimp only
  repeat' (first | with_reducible (first | assumption | intro s x _ | intro s _ | intro x | apply State.same_ite_fst | apply State.same_ite | apply State.same_foldl | apply State.same_foldl_fst | apply State.rangeWord_same | apply State.rangeInit_same | apply State.opMove_same | apply State.qdrIssued_same | refine State.same_of_fst (by assumption) ?_) | (simp only [State.same_mk]; refine State.same_upd_ranges ?_ ?_) | split)

theorem execRangePassStep_same {kd : StateKind} {s0 : State} {u : Fin 9} {s : State} (h_memory : kd ≠ .memory) (h_reservations : kd ≠ .reservations) (h_requests : kd ≠ .requests) (h_qdr : kd ≠ .qdr) (h_walkers : kd ≠ .walkers) (h_ledger : kd ≠ .ledger) (h_counter : kd ≠ .counter) (hs : s0.same kd s) :
    SameR kd s0 (execRangePassStep u s) := by
  unfold execRangePassStep
  try dsimp only
  repeat' (first | with_reducible (first | assumption | apply SameR.next | apply SameR.ite | apply SameO.none | apply SameO.some_id | apply SameO.some | apply SameO.ite | apply State.rangeStep_same) | split)

theorem State.fogRegion_same {kd : StateKind} {s0 : State} {s : State} {r : Nat} (h_memory : kd ≠ .memory) (h_counter : kd ≠ .counter) (hs : s0.same kd s) :
    s0.same kd (State.fogRegion s r) := by
  unfold State.fogRegion
  try dsimp only
  repeat' (first | with_reducible (first | assumption) | (simp only [State.same_mk]; refine State.same_upd_chk_fog_free_mem ?_ ?_ ?_))

theorem State.setCode_same {kd : StateKind} {s0 : State} {s : State} {r : Nat} {c : Nat} (hs : s0.same kd s) :
    s0.same kd (State.setCode s r c) := by
  unfold State.setCode
  try dsimp only
  repeat' (first | with_reducible (first | assumption | apply State.same_ite_fst | apply State.same_ite | apply State.set_same))

theorem State.writeCode_same {kd : StateKind} {s0 : State} {s : State} {b : Nat} {r : Nat} {c : Nat} (h_memory : kd ≠ .memory) (h_counter : kd ≠ .counter) (hs : s0.same kd s) :
    s0.same kd (State.writeCode s b r c) := by
  unfold State.writeCode
  try dsimp only
  repeat' (first | with_reducible (first | assumption | apply State.same_ite_fst | apply State.same_ite | apply State.fogRegion_same | apply State.setCode_same | apply State.setRegion_same | apply State.raise_same))

theorem State.writeRegion_same {kd : StateKind} {s0 : State} {s : State} {b : Nat} {i : Nat} {v : Nat} (h_memory : kd ≠ .memory) (h_counter : kd ≠ .counter) (hs : s0.same kd s) :
    s0.same kd (State.writeRegion s b i v) := by
  unfold State.writeRegion
  try dsimp only
  repeat' (first | with_reducible (first | assumption | intro s x _ | intro s _ | intro x | apply State.same_foldl | apply State.same_foldl_fst | apply State.writeCode_same))

theorem execRegionCodeWrite_same {kd : StateKind} {s0 : State} {b : Fin 17} {i : Fin 288} {v : Word} {s : State} (h_memory : kd ≠ .memory) (h_answer : kd ≠ .answer) (h_counter : kd ≠ .counter) (hs : s0.same kd s) :
    SameR kd s0 (execRegionCodeWrite b i v s) := by
  unfold execRegionCodeWrite
  try dsimp only
  repeat' (first | with_reducible (first | assumption | intro s x _ | intro s _ | intro x | apply SameR.next | apply SameR.ite | apply State.same_ite_fst | apply State.same_ite | apply State.writeRegion_same | apply State.access_same))

theorem State.frameScan_same {kd : StateKind} {s0 : State} {s : State} {n : Nat} {f : FrameFound} {p : Nat} (hs : s0.same kd s) :
    s0.same kd (State.frameScan s n f p) := by
  unfold State.frameScan
  try dsimp only
  repeat' (first | with_reducible (first | assumption | apply State.same_ite_fst | apply State.same_ite | apply State.set_same | apply State.raise_same | apply State.count_same | apply State.wrap_same | apply State.setBitOf_same) | split)

theorem execFrameScan_same {kd : StateKind} {s0 : State} {n : FieldId} {f : FrameFound} {p : Fin 13} {s : State} (h_fabric : kd ≠ .fabric) (hs : s0.same kd s) :
    SameR kd s0 (execFrameScan n f p s) := by
  unfold execFrameScan
  try dsimp only
  repeat' (first | with_reducible (first | assumption | apply SameR.next | apply SameR.ite | apply State.same_ite_fst | apply State.same_ite | apply State.frameScan_same) | (simp only [State.same_mk]; refine State.same_upd_fields ?_ ?_))

theorem State.reload_same {kd : StateKind} {s0 : State} {s : State} {fs : List Field} {n : Nat} {ofs : Nat} {lo : Nat} (hs : s0.same kd s) :
    s0.same kd (State.reload s fs n ofs lo) := by
  unfold State.reload
  try dsimp only
  repeat' (first | with_reducible (first | assumption | intro s x _ | intro s _ | intro x | apply State.same_ite_fst | apply State.same_ite | apply State.same_foldl | apply State.same_foldl_fst | apply State.set_same))

theorem State.tmrVote_same {kd : StateKind} {s0 : State} {s : State} {u : Nat} {ofs : Nat} {lo : Option Nat} (h_log : kd ≠ .log) (hs : s0.same kd s) :
    s0.same kd (State.tmrVote s u ofs lo) := by
  unfold State.tmrVote
  try dsimp only
  repeat' (first | with_reducible (first | assumption | apply State.same_ite_fst | apply State.same_ite | apply State.reload_same | apply State.set_same | apply State.raise_same | apply State.count_same | apply State.logEvent_same) | split)

theorem execTmrVote_same {kd : StateKind} {s0 : State} {u : Fin 9} {ofs : Fin 65536} {lo : Option (Fin 32)} {s : State} (h_log : kd ≠ .log) (hs : s0.same kd s) :
    SameR kd s0 (execTmrVote u ofs lo s) := by
  unfold execTmrVote
  try dsimp only
  repeat' (first | with_reducible (first | assumption | apply SameR.next | apply SameR.ite | apply SameO.map | apply State.tmrVote_same))

end Sys2Proof.Machine
end

