-- ==== Sys2Proof/Laws/SameFurrow.lean ====
section
/-! SUPPORT. The kinds of state that every operation and meaning of Machine/Furrow.lean leaves as they are (Laws/Same.lean). -/
set_option maxRecDepth 4000
set_option linter.unusedVariables false
namespace Sys2Proof.Machine

theorem State.furRefuse_same {kd : StateKind} {s0 : State} {s : State} {l : Nat} (hs : s0.same kd s) :
    s0.same kd (State.furRefuse s l) := by
  unfold State.furRefuse
  try dsimp only
  repeat' (first | with_reducible (first | assumption | apply State.raise_same))

theorem State.furOwn_same {kd : StateKind} {s0 : State} {s : State} {l : Nat} {own : Bool} (hs : s0.same kd s) :
    s0.same kd (State.furOwn s l own) := by
  unfold State.furOwn
  try dsimp only
  repeat' (first | with_reducible (first | assumption | apply State.same_ite_fst | apply State.same_ite | apply State.furRefuse_same | apply State.setB_same))

theorem State.furLoad_same {kd : StateKind} {s0 : State} {s : State} {l : Nat} (hs : s0.same kd s) :
    s0.same kd (State.furLoad s l) := by
  unfold State.furLoad
  try dsimp only
  repeat' (first | with_reducible (first | assumption | apply State.same_ite_fst | apply State.same_ite | apply State.furRefuse_same | apply State.set_same | apply State.wakeQuad_same))

theorem State.furReset_same {kd : StateKind} {s0 : State} {s : State} {l : Nat} (h_sequencers : kd ≠ .sequencers) (hs : s0.same kd s) :
    s0.same kd (State.furReset s l) := by
  unfold State.furReset
  try dsimp only
  repeat' (first | with_reducible (first | assumption | intro s x _ | intro s _ | intro x | apply State.same_foldl | apply State.same_foldl_fst | apply State.set_same | apply State.setFur_same))

theorem State.furArm_same {kd : StateKind} {s0 : State} {s : State} {l : Nat} (h_sequencers : kd ≠ .sequencers) (hs : s0.same kd s) :
    s0.same kd (State.furArm s l) := by
  unfold State.furArm
  try dsimp only
  repeat' (first | with_reducible (first | assumption | apply State.same_ite_fst | apply State.same_ite | apply State.furRefuse_same | apply State.furReset_same | apply State.set_same | apply State.wakeQuad_same))

theorem State.furRun_same {kd : StateKind} {s0 : State} {s : State} {l : Nat} {launch : Nat} (h_sequencers : kd ≠ .sequencers) (hs : s0.same kd s) :
    s0.same kd (State.furRun s l launch) := by
  unfold State.furRun
  try dsimp only
  repeat' (first | with_reducible (first | assumption | apply State.set_same | apply State.setFur_same))

theorem State.furGo_same {kd : StateKind} {s0 : State} {s : State} {l : Nat} (h_sequencers : kd ≠ .sequencers) (hs : s0.same kd s) :
    s0.same kd (State.furGo s l) := by
  unfold State.furGo
  try dsimp only
  repeat' (first | with_reducible (first | assumption | apply State.same_ite_fst | apply State.same_ite | apply State.furRefuse_same | apply State.furRun_same))

theorem State.furEnd_same {kd : StateKind} {s0 : State} {s : State} {l : Nat} (h_sequencers : kd ≠ .sequencers) (hs : s0.same kd s) :
    s0.same kd (State.furEnd s l) := by
  unfold State.furEnd
  try dsimp only
  repeat' (first | with_reducible (first | assumption | apply State.set_same | apply State.setFur_same))

theorem State.furStop_same {kd : StateKind} {s0 : State} {s : State} {l : Nat} (h_sequencers : kd ≠ .sequencers) (hs : s0.same kd s) :
    s0.same kd (State.furStop s l) := by
  unfold State.furStop
  try dsimp only
  repeat' (first | with_reducible (first | assumption | apply State.same_ite_fst | apply State.same_ite | apply State.furRefuse_same | apply State.furEnd_same | apply State.setFur_same))

theorem State.furAbort_same {kd : StateKind} {s0 : State} {s : State} {l : Nat} (h_lanes : kd ≠ .lanes) (h_sequencers : kd ≠ .sequencers) (h_outputs : kd ≠ .outputs) (hs : s0.same kd s) :
    s0.same kd (State.furAbort s l) := by
  unfold State.furAbort
  try dsimp only
  repeat' (first | with_reducible (first | assumption | apply State.same_ite_fst | apply State.same_ite | apply State.furRefuse_same | apply State.furEnd_same | apply State.furBreak_same))

theorem State.furDisarm_same {kd : StateKind} {s0 : State} {s : State} {l : Nat} (hs : s0.same kd s) :
    s0.same kd (State.furDisarm s l) := by
  unfold State.furDisarm
  try dsimp only
  repeat' (first | with_reducible (first | assumption | apply State.same_ite_fst | apply State.same_ite | apply State.furRefuse_same | apply State.set_same))

theorem State.writeFurCtrl_same {kd : StateKind} {s0 : State} {s : State} {l : Nat} {v : Nat} (h_lanes : kd ≠ .lanes) (h_sequencers : kd ≠ .sequencers) (h_outputs : kd ≠ .outputs) (hs : s0.same kd s) :
    s0.same kd (State.writeFurCtrl s l v) := by
  unfold State.writeFurCtrl
  try dsimp only
  repeat' (first | with_reducible (first | assumption | apply State.same_ite_fst | apply State.same_ite | apply State.furRefuse_same | apply State.furOwn_same | apply State.furLoad_same | apply State.furArm_same | apply State.furGo_same | apply State.furStop_same | apply State.furAbort_same | apply State.furDisarm_same | apply State.setB_same) | split)

theorem execFurrowOwnSelect_same {kd : StateKind} {s0 : State} {l : LaneId} {own : Bool} {s : State} (h_answer : kd ≠ .answer) (hs : s0.same kd s) :
    SameR kd s0 (execFurrowOwnSelect l own s) := by
  unfold execFurrowOwnSelect
  try dsimp only
  repeat' (first | with_reducible (first | assumption | intro s x _ | intro s _ | intro x | apply SameR.next | apply SameR.ite | apply State.furOwn_same | apply State.access_same))

theorem execFurrowLoad_same {kd : StateKind} {s0 : State} {l : LaneId} {s : State} (h_answer : kd ≠ .answer) (hs : s0.same kd s) :
    SameR kd s0 (execFurrowLoad l s) := by
  unfold execFurrowLoad
  try dsimp only
  repeat' (first | with_reducible (first | assumption | intro s x _ | intro s _ | intro x | apply SameR.next | apply SameR.ite | apply State.furLoad_same | apply State.access_same))

theorem execFurrowArm_same {kd : StateKind} {s0 : State} {l : LaneId} {s : State} (h_sequencers : kd ≠ .sequencers) (h_answer : kd ≠ .answer) (hs : s0.same kd s) :
    SameR kd s0 (execFurrowArm l s) := by
  unfold execFurrowArm
  try dsimp only
  repeat' (first | with_reducible (first | assumption | intro s x _ | intro s _ | intro x | apply SameR.next | apply SameR.ite | apply State.furArm_same | apply State.access_same))

theorem execFurrowGo_same {kd : StateKind} {s0 : State} {l : LaneId} {s : State} (h_sequencers : kd ≠ .sequencers) (h_answer : kd ≠ .answer) (hs : s0.same kd s) :
    SameR kd s0 (execFurrowGo l s) := by
  unfold execFurrowGo
  try dsimp only
  repeat' (first | with_reducible (first | assumption | intro s x _ | intro s _ | intro x | apply SameR.next | apply SameR.ite | apply State.furGo_same | apply State.access_same))

theorem execFurrowStop_same {kd : StateKind} {s0 : State} {l : LaneId} {s : State} (h_sequencers : kd ≠ .sequencers) (h_answer : kd ≠ .answer) (hs : s0.same kd s) :
    SameR kd s0 (execFurrowStop l s) := by
  unfold execFurrowStop
  try dsimp only
  repeat' (first | with_reducible (first | assumption | intro s x _ | intro s _ | intro x | apply SameR.next | apply SameR.ite | apply State.furStop_same | apply State.access_same))

theorem execFurrowAbort_same {kd : StateKind} {s0 : State} {l : LaneId} {s : State} (h_lanes : kd ≠ .lanes) (h_sequencers : kd ≠ .sequencers) (h_outputs : kd ≠ .outputs) (h_answer : kd ≠ .answer) (hs : s0.same kd s) :
    SameR kd s0 (execFurrowAbort l s) := by
  unfold execFurrowAbort
  try dsimp only
  repeat' (first | with_reducible (first | assumption | intro s x _ | intro s _ | intro x | apply SameR.next | apply SameR.ite | apply State.furAbort_same | apply State.access_same))

theorem execFurrowDisarm_same {kd : StateKind} {s0 : State} {l : LaneId} {s : State} (h_answer : kd ≠ .answer) (hs : s0.same kd s) :
    SameR kd s0 (execFurrowDisarm l s) := by
  unfold execFurrowDisarm
  try dsimp only
  repeat' (first | with_reducible (first | assumption | intro s x _ | intro s _ | intro x | apply SameR.next | apply SameR.ite | apply State.furDisarm_same | apply State.access_same))

theorem State.furFetch_same {kd : StateKind} {s0 : State} {s : State} {l : Nat} {a : Nat} {x3 : Nat} (h_memory : kd ≠ .memory) (h_reservations : kd ≠ .reservations) (h_requests : kd ≠ .requests) (h_shares : kd ≠ .shares) (h_hbm : kd ≠ .hbm) (h_qdr : kd ≠ .qdr) (h_walkers : kd ≠ .walkers) (h_lanes : kd ≠ .lanes) (h_counter : kd ≠ .counter) (hs : s0.same kd s) :
    s0.same kd (State.furFetch s l a x3).1 := by
  revert hs
  induction x3 generalizing s l a with
  | zero =>
    intro hs; unfold State.furFetch; try dsimp only
    repeat' (first | with_reducible (first | assumption | apply State.same_ite_fst | apply State.same_ite | apply SameO.none | apply SameO.some_id | apply SameO.some | apply SameO.ite | apply State.netRead_same | refine State.same_of_fst (by assumption) ?_) | split | dsimp only)
  | succ n ih =>
    intro hs; unfold State.furFetch; try dsimp only
    repeat' (first | with_reducible (first | assumption | apply State.same_ite_fst | apply State.same_ite | apply SameO.none | apply SameO.some_id | apply SameO.some | apply SameO.ite | apply ih | apply State.netRead_same | refine State.same_of_fst (by assumption) ?_) | split | dsimp only)

theorem State.furLoadDone_same {kd : StateKind} {s0 : State} {s : State} {l : Nat} (h_memory : kd ≠ .memory) (h_reservations : kd ≠ .reservations) (h_requests : kd ≠ .requests) (h_shares : kd ≠ .shares) (h_hbm : kd ≠ .hbm) (h_qdr : kd ≠ .qdr) (h_walkers : kd ≠ .walkers) (h_lanes : kd ≠ .lanes) (h_sequencers : kd ≠ .sequencers) (h_counter : kd ≠ .counter) (hs : s0.same kd s) :
    s0.same kd (State.furLoadDone s l) := by
  unfold State.furLoadDone
  try dsimp only
  repeat' (first | with_reducible (first | assumption | apply State.same_ite_fst | apply State.same_ite | apply SameO.none | apply SameO.some_id | apply SameO.some | apply SameO.ite | apply State.furFetch_same | apply State.set_same | apply State.setFur_same | refine State.same_of_fst (by assumption) ?_) | split)

theorem execFurrowLoadDone_same {kd : StateKind} {s0 : State} {l : LaneId} {s : State} (h_memory : kd ≠ .memory) (h_reservations : kd ≠ .reservations) (h_requests : kd ≠ .requests) (h_shares : kd ≠ .shares) (h_hbm : kd ≠ .hbm) (h_qdr : kd ≠ .qdr) (h_walkers : kd ≠ .walkers) (h_lanes : kd ≠ .lanes) (h_sequencers : kd ≠ .sequencers) (h_counter : kd ≠ .counter) (hs : s0.same kd s) :
    SameR kd s0 (execFurrowLoadDone l s) := by
  unfold execFurrowLoadDone
  try dsimp only
  repeat' (first | with_reducible (first | assumption | apply SameR.next | apply SameR.ite | apply State.same_ite_fst | apply State.same_ite | apply State.furLoadDone_same))

theorem execFurrowPrimed_same {kd : StateKind} {s0 : State} {l : LaneId} {s : State} (hs : s0.same kd s) :
    SameR kd s0 (execFurrowPrimed l s) := by
  unfold execFurrowPrimed
  try dsimp only
  repeat' (first | with_reducible (first | assumption | apply SameR.next | apply SameR.ite | apply State.same_ite_fst | apply State.same_ite | apply State.set_same))

theorem execFurrowLaunch_same {kd : StateKind} {s0 : State} {l : LaneId} {s : State} (h_sequencers : kd ≠ .sequencers) (hs : s0.same kd s) :
    SameR kd s0 (execFurrowLaunch l s) := by
  unfold execFurrowLaunch
  try dsimp only
  repeat' (first | with_reducible (first | assumption | apply SameR.next | apply SameR.ite | apply State.same_ite_fst | apply State.same_ite | apply State.furRun_same))

theorem execFurrowDone_same {kd : StateKind} {s0 : State} {l : LaneId} {s : State} (h_sequencers : kd ≠ .sequencers) (hs : s0.same kd s) :
    SameR kd s0 (execFurrowDone l s) := by
  unfold execFurrowDone
  try dsimp only
  repeat' (first | with_reducible (first | assumption | apply SameR.next | apply SameR.ite | apply State.same_ite_fst | apply State.same_ite | apply State.furEnd_same))

theorem execFurrowSourceError_same {kd : StateKind} {s0 : State} {l : LaneId} {s : State} (h_lanes : kd ≠ .lanes) (h_sequencers : kd ≠ .sequencers) (h_outputs : kd ≠ .outputs) (hs : s0.same kd s) :
    SameR kd s0 (execFurrowSourceError l s) := by
  unfold execFurrowSourceError
  try dsimp only
  repeat' (first | with_reducible (first | assumption | apply SameR.next | apply SameR.ite | apply State.furFault_same))

theorem State.furGoto_same {kd : StateKind} {s0 : State} {s : State} {l : Nat} {pc : Nat} (h_sequencers : kd ≠ .sequencers) (hs : s0.same kd s) :
    s0.same kd (State.furGoto s l pc) := by
  unfold State.furGoto
  try dsimp only
  repeat' (first | with_reducible (first | assumption | apply State.same_ite_fst | apply State.same_ite | apply State.set_same | apply State.setFur_same))

theorem State.furNext_same {kd : StateKind} {s0 : State} {s : State} {l : Nat} (h_sequencers : kd ≠ .sequencers) (hs : s0.same kd s) :
    s0.same kd (State.furNext s l) := by
  unfold State.furNext
  try dsimp only
  repeat' (first | with_reducible (first | assumption | apply State.same_ite_fst | apply State.same_ite | apply SameO.none | apply SameO.some_id | apply SameO.some | apply SameO.ite | apply State.furGoto_same | apply State.setFur_same) | split)

theorem State.furStep_same {kd : StateKind} {s0 : State} {s : State} {l : Nat} {f : FurInstr → Option State} {waits : Bool} (hs : s0.same kd s) (hf : ∀ i, SameO kd id s0 (f i)) :
    SameR kd s0 (State.furStep s l f waits) := by
  unfold State.furStep
  apply SameR.next
  split
  · cases hi : State.furInstr s l with
    | none => exact hs
    | some i =>
      simp only [Option.bind_some]
      cases hj : f i with
      | none => exact hs
      | some t => exact hf i t hj
  · exact hs

theorem State.setFurRegs_same {kd : StateKind} {s0 : State} {s : State} {l : Nat} {r : FurRegs} (h_sequencers : kd ≠ .sequencers) (hs : s0.same kd s) :
    s0.same kd (State.setFurRegs s l r) := by
  unfold State.setFurRegs
  try dsimp only
  repeat' (first | with_reducible (first | assumption | apply State.setFur_same))

theorem execFurNop_same {kd : StateKind} {s0 : State} {l : LaneId} {s : State} (h_sequencers : kd ≠ .sequencers) (hs : s0.same kd s) :
    SameR kd s0 (execFurNop l s) := by
  unfold execFurNop
  try dsimp only
  repeat' (first | with_reducible (first | assumption | intro s x _ | intro s _ | intro x | apply SameR.next | apply SameR.ite | apply SameO.none | apply SameO.some_id | apply SameO.some | apply SameO.ite | apply State.furNext_same | apply State.furStep_same) | split)

theorem State.furPiece_same {kd : StateKind} {s0 : State} {s : State} {l : Nat} {d : Nat} {a : Nat} {len : Nat} (h_memory : kd ≠ .memory) (h_reservations : kd ≠ .reservations) (h_requests : kd ≠ .requests) (h_shares : kd ≠ .shares) (h_hbm : kd ≠ .hbm) (h_qdr : kd ≠ .qdr) (h_walkers : kd ≠ .walkers) (h_lanes : kd ≠ .lanes) (h_counter : kd ≠ .counter) (hs : s0.same kd s) :
    s0.same kd (State.furPiece s l d a len).1 := by
  unfold State.furPiece
  try dsimp only
  repeat' (first | with_reducible (first | assumption | apply State.same_ite_fst | apply State.same_ite | apply SameO.none | apply SameO.some_id | apply SameO.some | apply SameO.ite | apply State.netRead_same) | dsimp only)

theorem State.furRead_same {kd : StateKind} {s0 : State} {s : State} {l : Nat} {d : Nat} {off : Nat} {len : Nat} {x5 : Nat} (h_memory : kd ≠ .memory) (h_reservations : kd ≠ .reservations) (h_requests : kd ≠ .requests) (h_shares : kd ≠ .shares) (h_hbm : kd ≠ .hbm) (h_qdr : kd ≠ .qdr) (h_walkers : kd ≠ .walkers) (h_lanes : kd ≠ .lanes) (h_counter : kd ≠ .counter) (hs : s0.same kd s) :
    s0.same kd (State.furRead s l d off len x5).1 := by
  revert hs
  induction x5 generalizing s l d off len with
  | zero =>
    intro hs; unfold State.furRead; try dsimp only
    repeat' (first | with_reducible (first | assumption | apply State.same_ite_fst | apply State.same_ite | apply State.furPiece_same | refine State.same_of_fst (by assumption) ?_) | split | dsimp only)
  | succ n ih =>
    intro hs; unfold State.furRead; try dsimp only
    repeat' (first | with_reducible (first | assumption | apply State.same_ite_fst | apply State.same_ite | apply ih | apply State.furPiece_same | refine State.same_of_fst (by assumption) ?_) | split | dsimp only)

theorem State.furPattern_same {kd : StateKind} {s0 : State} {s : State} {l : Nat} {d : Nat} {off : Nat} {n : Nat} (h_outputs : kd ≠ .outputs) (hs : s0.same kd s) :
    s0.same kd (State.furPattern s l d off n) := by
  unfold State.furPattern
  try dsimp only
  repeat' (first | with_reducible (first | assumption | apply State.same_ite_fst | apply State.same_ite | apply State.emit_same))

theorem State.furSendAt_same {kd : StateKind} {s0 : State} {s : State} {l : Nat} {d : Nat} {more : Bool} {cur : Bool} {off : Nat} {len : Nat} {data : List Byte} (h_memory : kd ≠ .memory) (h_reservations : kd ≠ .reservations) (h_requests : kd ≠ .requests) (h_shares : kd ≠ .shares) (h_hbm : kd ≠ .hbm) (h_qdr : kd ≠ .qdr) (h_walkers : kd ≠ .walkers) (h_lanes : kd ≠ .lanes) (h_sequencers : kd ≠ .sequencers) (h_outputs : kd ≠ .outputs) (h_counter : kd ≠ .counter) (hs : s0.same kd s) :
    s0.same kd (State.furSendAt s l d more cur off len data) := by
  unfold State.furSendAt
  try dsimp only
  repeat' (first | with_reducible (first | assumption | apply State.same_ite_fst | apply State.same_ite | apply State.furNext_same | apply State.furRead_same | apply State.furPattern_same | apply State.setFur_same | apply State.furFault_same | refine State.same_of_fst (by assumption) ?_) | split)

theorem execFurSend_same {kd : StateKind} {s0 : State} {l : LaneId} {data : List Byte} {s : State} (h_memory : kd ≠ .memory) (h_reservations : kd ≠ .reservations) (h_requests : kd ≠ .requests) (h_shares : kd ≠ .shares) (h_hbm : kd ≠ .hbm) (h_qdr : kd ≠ .qdr) (h_walkers : kd ≠ .walkers) (h_lanes : kd ≠ .lanes) (h_sequencers : kd ≠ .sequencers) (h_outputs : kd ≠ .outputs) (h_counter : kd ≠ .counter) (hs : s0.same kd s) :
    SameR kd s0 (execFurSend l data s) := by
  unfold execFurSend
  try dsimp only
  repeat' (first | with_reducible (first | assumption | intro s x _ | intro s _ | intro x | apply SameR.next | apply SameR.ite | apply SameO.none | apply SameO.some_id | apply SameO.some | apply SameO.ite | apply State.furStep_same | apply State.furSendAt_same) | split)

theorem execFurRepeat_same {kd : StateKind} {s0 : State} {l : LaneId} {s : State} (h_sequencers : kd ≠ .sequencers) (hs : s0.same kd s) :
    SameR kd s0 (execFurRepeat l s) := by
  unfold execFurRepeat
  try dsimp only
  repeat' (first | with_reducible (first | assumption | intro s x _ | intro s _ | intro x | apply SameR.next | apply SameR.ite | apply State.same_ite_fst | apply State.same_ite | apply SameO.none | apply SameO.some_id | apply SameO.some | apply SameO.ite | apply State.furGoto_same | apply State.furStep_same | apply State.setFur_same) | split)

theorem execWaitTime_same {kd : StateKind} {s0 : State} {l : LaneId} {s : State} (h_sequencers : kd ≠ .sequencers) (hs : s0.same kd s) :
    SameR kd s0 (execWaitTime l s) := by
  unfold execWaitTime
  try dsimp only
  repeat' (first | with_reducible (first | assumption | intro s x _ | intro s _ | intro x | apply SameR.next | apply SameR.ite | apply SameO.none | apply SameO.some_id | apply SameO.some | apply SameO.ite | apply State.furNext_same | apply State.furStep_same | apply State.setFur_same) | split)

theorem execWaitTimeElapsed_same {kd : StateKind} {s0 : State} {l : LaneId} {s : State} (h_sequencers : kd ≠ .sequencers) (hs : s0.same kd s) :
    SameR kd s0 (execWaitTimeElapsed l s) := by
  unfold execWaitTimeElapsed
  try dsimp only
  repeat' (first | with_reducible (first | assumption | apply SameR.next | apply SameR.ite | apply State.same_ite_fst | apply State.same_ite | apply SameO.none | apply SameO.some_id | apply SameO.some | apply SameO.ite | apply State.setFur_same) | split)

theorem execWaitFloat_same {kd : StateKind} {s0 : State} {l : LaneId} {s : State} (h_sequencers : kd ≠ .sequencers) (hs : s0.same kd s) :
    SameR kd s0 (execWaitFloat l s) := by
  unfold execWaitFloat
  try dsimp only
  repeat' (first | with_reducible (first | assumption | intro s x _ | intro s _ | intro x | apply SameR.next | apply SameR.ite | apply SameO.none | apply SameO.some_id | apply SameO.some | apply SameO.ite | apply State.furNext_same | apply State.furStep_same | apply State.setFur_same) | split)

theorem execWaitFloatTimeout_same {kd : StateKind} {s0 : State} {l : LaneId} {s : State} (h_sequencers : kd ≠ .sequencers) (hs : s0.same kd s) :
    SameR kd s0 (execWaitFloatTimeout l s) := by
  unfold execWaitFloatTimeout
  try dsimp only
  repeat' (first | with_reducible (first | assumption | intro s x _ | intro s _ | intro x | apply SameR.next | apply SameR.ite | apply State.same_ite_fst | apply State.same_ite | apply SameO.none | apply SameO.some_id | apply SameO.some | apply SameO.ite | apply State.same_foldl | apply State.same_foldl_fst | apply State.furGoto_same | apply State.set_same | apply State.raise_same | apply State.setFur_same) | split)

theorem execJump_same {kd : StateKind} {s0 : State} {l : LaneId} {s : State} (h_sequencers : kd ≠ .sequencers) (hs : s0.same kd s) :
    SameR kd s0 (execJump l s) := by
  unfold execJump
  try dsimp only
  repeat' (first | with_reducible (first | assumption | intro s x _ | intro s _ | intro x | apply SameR.next | apply SameR.ite | apply SameO.none | apply SameO.some_id | apply SameO.some | apply SameO.ite | apply State.furGoto_same | apply State.furStep_same) | split)

theorem execLoop_same {kd : StateKind} {s0 : State} {l : LaneId} {s : State} (h_sequencers : kd ≠ .sequencers) (hs : s0.same kd s) :
    SameR kd s0 (execLoop l s) := by
  unfold execLoop
  try dsimp only
  repeat' (first | with_reducible (first | assumption | intro s x _ | intro s _ | intro x | apply SameR.next | apply SameR.ite | apply State.same_ite_fst | apply State.same_ite | apply SameO.none | apply SameO.some_id | apply SameO.some | apply SameO.ite | apply State.furGoto_same | apply State.furStep_same | apply State.set_same) | split)

theorem execInsertCounter_same {kd : StateKind} {s0 : State} {l : LaneId} {s : State} (h_sequencers : kd ≠ .sequencers) (hs : s0.same kd s) :
    SameR kd s0 (execInsertCounter l s) := by
  unfold execInsertCounter
  try dsimp only
  repeat' (first | with_reducible (first | assumption | intro s x _ | intro s _ | intro x | apply SameR.next | apply SameR.ite | apply State.same_ite_fst | apply State.same_ite | apply SameO.none | apply SameO.some_id | apply SameO.some | apply SameO.ite | apply State.furNext_same | apply State.furStep_same | apply State.setFurRegs_same) | split)

theorem execInsertTimestamp_same {kd : StateKind} {s0 : State} {l : LaneId} {s : State} (h_sequencers : kd ≠ .sequencers) (hs : s0.same kd s) :
    SameR kd s0 (execInsertTimestamp l s) := by
  unfold execInsertTimestamp
  try dsimp only
  repeat' (first | with_reducible (first | assumption | intro s x _ | intro s _ | intro x | apply SameR.next | apply SameR.ite | apply SameO.none | apply SameO.some_id | apply SameO.some | apply SameO.ite | apply State.furNext_same | apply State.furStep_same | apply State.setFurRegs_same) | split)

theorem execRecomputeFcs_same {kd : StateKind} {s0 : State} {l : LaneId} {s : State} (h_sequencers : kd ≠ .sequencers) (hs : s0.same kd s) :
    SameR kd s0 (execRecomputeFcs l s) := by
  unfold execRecomputeFcs
  try dsimp only
  repeat' (first | with_reducible (first | assumption | intro s x _ | intro s _ | intro x | apply SameR.next | apply SameR.ite | apply SameO.none | apply SameO.some_id | apply SameO.some | apply SameO.ite | apply State.furNext_same | apply State.furStep_same | apply State.setFurRegs_same) | split)

theorem execInject_same {kd : StateKind} {s0 : State} {l : LaneId} {s : State} (h_sequencers : kd ≠ .sequencers) (hs : s0.same kd s) :
    SameR kd s0 (execInject l s) := by
  unfold execInject
  try dsimp only
  repeat' (first | with_reducible (first | assumption | intro s x _ | intro s _ | intro x | apply SameR.next | apply SameR.ite | apply State.same_ite_fst | apply State.same_ite | apply SameO.none | apply SameO.some_id | apply SameO.some | apply SameO.ite | apply State.furNext_same | apply State.furStep_same | apply State.setFurRegs_same) | split)

theorem execFurHalt_same {kd : StateKind} {s0 : State} {l : LaneId} {s : State} (h_sequencers : kd ≠ .sequencers) (hs : s0.same kd s) :
    SameR kd s0 (execFurHalt l s) := by
  unfold execFurHalt
  try dsimp only
  repeat' (first | with_reducible (first | assumption | intro s x _ | intro s _ | intro x | apply SameR.next | apply SameR.ite | apply SameO.none | apply SameO.some_id | apply SameO.some | apply SameO.ite | apply State.furStep_same | apply State.setFur_same) | split)

theorem State.furStart_same {kd : StateKind} {s0 : State} {s : State} {l : Nat} {mode : Nat} {t : Nat} (h_sequencers : kd ≠ .sequencers) (hs : s0.same kd s) :
    s0.same kd (State.furStart s l mode t) := by
  unfold State.furStart
  try dsimp only
  repeat' (first | with_reducible (first | assumption | apply State.same_ite_fst | apply State.same_ite | apply SameO.none | apply SameO.some_id | apply SameO.some | apply SameO.ite | apply State.raise_same | apply State.count_same | apply State.wrap2_same | apply State.setFur_same))

theorem execFrameStart_same {kd : StateKind} {s0 : State} {l : LaneId} {s : State} (h_lanes : kd ≠ .lanes) (h_sequencers : kd ≠ .sequencers) (h_counter : kd ≠ .counter) (hs : s0.same kd s) :
    SameR kd s0 (execFrameStart l s) := by
  unfold execFrameStart
  try dsimp only
  repeat' (first | with_reducible (first | assumption | apply SameR.next | apply SameR.ite | apply State.same_ite_fst | apply State.same_ite | apply SameO.none | apply SameO.some_id | apply SameO.some | apply SameO.ite | apply State.furStart_same | apply State.used_same | apply State.setPort_same) | split)

theorem State.furUnderrun_same {kd : StateKind} {s0 : State} {s : State} {l : Nat} {mid : Bool} (h_lanes : kd ≠ .lanes) (h_sequencers : kd ≠ .sequencers) (h_outputs : kd ≠ .outputs) (hs : s0.same kd s) :
    s0.same kd (State.furUnderrun s l mid) := by
  unfold State.furUnderrun
  try dsimp only
  repeat' (first | with_reducible (first | assumption | apply State.same_ite_fst | apply State.same_ite | apply State.raise_same | apply State.count_same | apply State.furBreak_same))

theorem execUnderrun_same {kd : StateKind} {s0 : State} {l : LaneId} {mid : Bool} {s : State} (h_lanes : kd ≠ .lanes) (h_sequencers : kd ≠ .sequencers) (h_outputs : kd ≠ .outputs) (hs : s0.same kd s) :
    SameR kd s0 (execUnderrun l mid s) := by
  unfold execUnderrun
  try dsimp only
  repeat' (first | with_reducible (first | assumption | apply SameR.next | apply SameR.ite | apply State.same_ite_fst | apply State.same_ite | apply State.furUnderrun_same))

end Sys2Proof.Machine
end

