-- ==== Sys2Proof/Laws/SameLanes.lean ====
section
/-! SUPPORT. The kinds of state that every operation and meaning of Machine/Lanes.lean leaves as they are (Laws/Same.lean). -/
set_option maxRecDepth 4000
set_option linter.unusedVariables false
namespace Sys2Proof.Machine

theorem State.showEntry_same {kd : StateKind} {s0 : State} {s : State} {l : Nat} (hs : s0.same kd s) :
    s0.same kd (State.showEntry s l) := by
  unfold State.showEntry
  try dsimp only
  repeat' (first | with_reducible (first | assumption | intro s x _ | intro s _ | intro x | apply State.same_foldl | apply State.same_foldl_fst | apply State.set_same))

theorem State.checkTable_same {kd : StateKind} {s0 : State} {s : State} {n : Nat} (h_fabric : kd ≠ .fabric) (hs : s0.same kd s) :
    s0.same kd (State.checkTable s n) := by
  unfold State.checkTable
  try dsimp only
  repeat' (first | with_reducible (first | assumption | intro s x _ | intro s _ | intro x | apply State.same_foldl | apply State.same_foldl_fst | apply State.showEntry_same | apply State.setB_same | apply State.setField_same))

theorem State.waitPll_same {kd : StateKind} {s0 : State} {s : State} {l : Nat} {quiet : Bool} (h_fabric : kd ≠ .fabric) (h_lanes : kd ≠ .lanes) (h_capture : kd ≠ .capture) (h_sequencers : kd ≠ .sequencers) (h_ledger : kd ≠ .ledger) (h_outputs : kd ≠ .outputs) (hs : s0.same kd s) :
    s0.same kd (State.waitPll s l quiet) := by
  unfold State.waitPll
  try dsimp only
  repeat' (first | with_reducible (first | assumption | apply State.same_ite_fst | apply State.same_ite | apply State.set_same | apply State.lower_same | apply State.setLane_same | apply State.leaveReady_same))

theorem State.dropLanes_same {kd : StateKind} {s0 : State} {s : State} {q : Nat} {b : Bool} (h_fabric : kd ≠ .fabric) (h_lanes : kd ≠ .lanes) (h_capture : kd ≠ .capture) (h_sequencers : kd ≠ .sequencers) (h_ledger : kd ≠ .ledger) (h_outputs : kd ≠ .outputs) (hs : s0.same kd s) :
    s0.same kd (State.dropLanes s q b) := by
  unfold State.dropLanes
  try dsimp only
  repeat' (first | with_reducible (first | assumption | intro s x _ | intro s _ | intro x | apply State.same_foldl | apply State.same_foldl_fst | apply State.waitPll_same | apply State.lanesFloat_same))

theorem State.pllEnable_same {kd : StateKind} {s0 : State} {s : State} {q : Nat} {b : Bool} (hs : s0.same kd s) :
    s0.same kd (State.pllEnable s q b) := by
  unfold State.pllEnable
  try dsimp only
  repeat' (first | with_reducible (first | assumption | apply State.same_ite_fst | apply State.same_ite | apply State.raise_same | apply State.setB_same))

theorem State.pllDisable_same {kd : StateKind} {s0 : State} {s : State} {q : Nat} {b : Bool} (h_fabric : kd ≠ .fabric) (h_lanes : kd ≠ .lanes) (h_capture : kd ≠ .capture) (h_sequencers : kd ≠ .sequencers) (h_ledger : kd ≠ .ledger) (h_outputs : kd ≠ .outputs) (hs : s0.same kd s) :
    s0.same kd (State.pllDisable s q b) := by
  unfold State.pllDisable
  try dsimp only
  repeat' (first | with_reducible (first | assumption | apply State.same_ite_fst | apply State.same_ite | apply State.dropLanes_same | apply State.lower_same))

theorem State.pllUnlock_same {kd : StateKind} {s0 : State} {s : State} {q : Nat} {b : Bool} (h_fabric : kd ≠ .fabric) (h_lanes : kd ≠ .lanes) (h_capture : kd ≠ .capture) (h_sequencers : kd ≠ .sequencers) (h_ledger : kd ≠ .ledger) (h_outputs : kd ≠ .outputs) (hs : s0.same kd s) :
    s0.same kd (State.pllUnlock s q b) := by
  unfold State.pllUnlock
  try dsimp only
  repeat' (first | with_reducible (first | assumption | apply State.same_ite_fst | apply State.same_ite | apply State.dropLanes_same | apply State.raise_same | apply State.lower_same))

theorem State.writeRef_same {kd : StateKind} {s0 : State} {s : State} {q : Nat} {b : Bool} {v : Bool} (h_fabric : kd ≠ .fabric) (h_lanes : kd ≠ .lanes) (h_capture : kd ≠ .capture) (h_sequencers : kd ≠ .sequencers) (h_ledger : kd ≠ .ledger) (h_outputs : kd ≠ .outputs) (hs : s0.same kd s) :
    s0.same kd (State.writeRef s q b v) := by
  unfold State.writeRef
  try dsimp only
  repeat' (first | with_reducible (first | assumption | apply State.same_ite_fst | apply State.same_ite | apply State.pllUnlock_same | apply State.setB_same))

theorem State.writeLnqCtrl_same {kd : StateKind} {s0 : State} {s : State} {q : Nat} {v : Nat} (h_fabric : kd ≠ .fabric) (h_lanes : kd ≠ .lanes) (h_capture : kd ≠ .capture) (h_sequencers : kd ≠ .sequencers) (h_ledger : kd ≠ .ledger) (h_outputs : kd ≠ .outputs) (hs : s0.same kd s) :
    s0.same kd (State.writeLnqCtrl s q v) := by
  unfold State.writeLnqCtrl
  try dsimp only
  repeat' (first | with_reducible (first | assumption | apply State.same_ite_fst | apply State.same_ite | apply State.pllEnable_same | apply State.pllDisable_same | apply State.writeRef_same))

theorem State.writePllWord_same {kd : StateKind} {s0 : State} {s : State} {q : Nat} {b : Bool} {f : Bool} {v : Nat} (hs : s0.same kd s) :
    s0.same kd (State.writePllWord s q b f v) := by
  unfold State.writePllWord
  try dsimp only
  repeat' (first | with_reducible (first | assumption | apply State.same_ite_fst | apply State.same_ite | apply State.set_same))

theorem execPllEnable_same {kd : StateKind} {s0 : State} {q : QuadId} {b : Bool} {s : State} (h_answer : kd ≠ .answer) (hs : s0.same kd s) :
    SameR kd s0 (execPllEnable q b s) := by
  unfold execPllEnable
  try dsimp only
  repeat' (first | with_reducible (first | assumption | intro s x _ | intro s _ | intro x | apply SameR.next | apply SameR.ite | apply State.pllEnable_same | apply State.access_same))

theorem execPllDisable_same {kd : StateKind} {s0 : State} {q : QuadId} {b : Bool} {s : State} (h_fabric : kd ≠ .fabric) (h_lanes : kd ≠ .lanes) (h_capture : kd ≠ .capture) (h_sequencers : kd ≠ .sequencers) (h_ledger : kd ≠ .ledger) (h_outputs : kd ≠ .outputs) (h_answer : kd ≠ .answer) (hs : s0.same kd s) :
    SameR kd s0 (execPllDisable q b s) := by
  unfold execPllDisable
  try dsimp only
  repeat' (first | with_reducible (first | assumption | intro s x _ | intro s _ | intro x | apply SameR.next | apply SameR.ite | apply State.pllDisable_same | apply State.access_same))

theorem execPllDividerWrite_same {kd : StateKind} {s0 : State} {q : QuadId} {b : Bool} {f : Bool} {v : Word} {s : State} (h_answer : kd ≠ .answer) (hs : s0.same kd s) :
    SameR kd s0 (execPllDividerWrite q b f v s) := by
  unfold execPllDividerWrite
  try dsimp only
  repeat' (first | with_reducible (first | assumption | intro s x _ | intro s _ | intro x | apply SameR.next | apply SameR.ite | apply State.writePllWord_same | apply State.access_same))

theorem State.startWaiting_same {kd : StateKind} {s0 : State} {s : State} {q : Nat} {b : Bool} (h_lanes : kd ≠ .lanes) (hs : s0.same kd s) :
    s0.same kd (State.startWaiting s q b) := by
  unfold State.startWaiting
  try dsimp only
  repeat' (first | with_reducible (first | assumption | intro s x _ | intro s _ | intro x | apply State.same_ite_fst | apply State.same_ite | apply State.same_foldl | apply State.same_foldl_fst | apply State.set_same | apply State.setLane_same))

theorem execPllLock_same {kd : StateKind} {s0 : State} {q : QuadId} {b : Bool} {s : State} (h_lanes : kd ≠ .lanes) (hs : s0.same kd s) :
    SameR kd s0 (execPllLock q b s) := by
  unfold execPllLock
  try dsimp only
  repeat' (first | with_reducible (first | assumption | apply SameR.next | apply SameR.ite | apply State.same_ite_fst | apply State.same_ite | apply State.startWaiting_same | apply State.raise_same))

theorem execPllUnlock_same {kd : StateKind} {s0 : State} {q : QuadId} {b : Bool} {s : State} (h_fabric : kd ≠ .fabric) (h_lanes : kd ≠ .lanes) (h_capture : kd ≠ .capture) (h_sequencers : kd ≠ .sequencers) (h_ledger : kd ≠ .ledger) (h_outputs : kd ≠ .outputs) (hs : s0.same kd s) :
    SameR kd s0 (execPllUnlock q b s) := by
  unfold execPllUnlock
  try dsimp only
  repeat' (first | with_reducible (first | assumption | apply SameR.next | apply SameR.ite | apply State.pllUnlock_same))

theorem State.loadTx_same {kd : StateKind} {s0 : State} {s : State} {l : Nat} (hs : s0.same kd s) :
    s0.same kd (State.loadTx s l) := by
  unfold State.loadTx
  try dsimp only
  repeat' (first | with_reducible (first | assumption | apply State.set_same))

theorem State.loadRx_same {kd : StateKind} {s0 : State} {s : State} {l : Nat} (hs : s0.same kd s) :
    s0.same kd (State.loadRx s l) := by
  unfold State.loadRx
  try dsimp only
  repeat' (first | with_reducible (first | assumption | intro s x _ | intro s _ | intro x | apply State.same_ite_fst | apply State.same_ite | apply State.same_foldl | apply State.same_foldl_fst | apply State.set_same))

theorem State.setTx_same {kd : StateKind} {s0 : State} {s : State} {l : Nat} {t : TxSet} (hs : s0.same kd s) :
    s0.same kd (State.setTx s l t) := by
  unfold State.setTx
  try dsimp only
  repeat' (first | with_reducible (first | assumption | apply State.set_same))

theorem State.stageFir_same {kd : StateKind} {s0 : State} {s : State} {l : Nat} {v : Nat} (h_lanes : kd ≠ .lanes) (hs : s0.same kd s) :
    s0.same kd (State.stageFir s l v) := by
  unfold State.stageFir
  try dsimp only
  repeat' (first | with_reducible (first | assumption | apply State.same_ite_fst | apply State.same_ite | apply SameO.none | apply SameO.some_id | apply SameO.some | apply SameO.ite | apply State.raise_same | apply State.setLane_same))

theorem State.commitFir_same {kd : StateKind} {s0 : State} {s : State} {l : Nat} {v : Nat} (h_lanes : kd ≠ .lanes) (hs : s0.same kd s) :
    s0.same kd (State.commitFir s l v) := by
  unfold State.commitFir
  try dsimp only
  repeat' (first | with_reducible (first | assumption | apply State.same_ite_fst | apply State.same_ite | apply SameO.none | apply SameO.some_id | apply SameO.some | apply SameO.ite | apply State.setTx_same | apply State.set_same | apply State.raise_same | apply State.setLane_same) | split)

theorem execTxfirStage_same {kd : StateKind} {s0 : State} {l : LaneId} {v : Word} {s : State} (h_lanes : kd ≠ .lanes) (h_answer : kd ≠ .answer) (hs : s0.same kd s) :
    SameR kd s0 (execTxfirStage l v s) := by
  unfold execTxfirStage
  try dsimp only
  repeat' (first | with_reducible (first | assumption | intro s x _ | intro s _ | intro x | apply SameR.next | apply SameR.ite | apply State.stageFir_same | apply State.access_same))

theorem execTxfirCommit_same {kd : StateKind} {s0 : State} {l : LaneId} {v : Word} {s : State} (h_lanes : kd ≠ .lanes) (h_answer : kd ≠ .answer) (hs : s0.same kd s) :
    SameR kd s0 (execTxfirCommit l v s) := by
  unfold execTxfirCommit
  try dsimp only
  repeat' (first | with_reducible (first | assumption | intro s x _ | intro s _ | intro x | apply SameR.next | apply SameR.ite | apply State.commitFir_same | apply State.access_same))

theorem State.writeRx_same {kd : StateKind} {s0 : State} {s : State} {l : Nat} {r : Nat} {v : Nat} (hs : s0.same kd s) :
    s0.same kd (State.writeRx s l r v) := by
  unfold State.writeRx
  try dsimp only
  repeat' (first | with_reducible (first | assumption | intro s x _ | intro s _ | intro x | apply State.same_ite_fst | apply State.same_ite | apply State.same_foldl | apply State.same_foldl_fst | apply State.set_same | apply State.raise_same))

theorem execRxeqWrite_same {kd : StateKind} {s0 : State} {l : LaneId} {r : Fin 5} {v : Word} {s : State} (h_answer : kd ≠ .answer) (hs : s0.same kd s) :
    SameR kd s0 (execRxeqWrite l r v s) := by
  unfold execRxeqWrite
  try dsimp only
  repeat' (first | with_reducible (first | assumption | intro s x _ | intro s _ | intro x | apply SameR.next | apply SameR.ite | apply State.writeRx_same | apply State.access_same))

theorem State.calHalf_same {kd : StateKind} {s0 : State} {s : State} {l : Nat} (h_ledger : kd ≠ .ledger) (hs : s0.same kd s) :
    s0.same kd (State.calHalf s l) := by
  unfold State.calHalf
  try dsimp only
  repeat' (first | with_reducible (first | assumption | apply State.same_ite_fst | apply State.same_ite | apply SameO.none | apply SameO.some_id | apply SameO.some | apply SameO.ite | apply State.opMove_same) | split)

theorem State.laneReady_same {kd : StateKind} {s0 : State} {s : State} {l : Nat} (h_lanes : kd ≠ .lanes) (h_ledger : kd ≠ .ledger) (h_outputs : kd ≠ .outputs) (hs : s0.same kd s) :
    s0.same kd (State.laneReady s l) := by
  unfold State.laneReady
  try dsimp only
  repeat' (first | with_reducible (first | assumption | apply State.same_ite_fst | apply State.same_ite | apply State.opDone_same | apply State.set_same | apply State.setLane_same | apply State.bypassUp_same) | split)

theorem State.calFail_same {kd : StateKind} {s0 : State} {s : State} {l : Nat} {err : Nat} (h_lanes : kd ≠ .lanes) (h_ledger : kd ≠ .ledger) (hs : s0.same kd s) :
    s0.same kd (State.calFail s l err) := by
  unfold State.calFail
  try dsimp only
  repeat' (first | with_reducible (first | assumption | apply State.opFail_same | apply State.setLane_same) | split)

theorem State.startLane_same {kd : StateKind} {s0 : State} {s : State} {l : Nat} (h_lanes : kd ≠ .lanes) (hs : s0.same kd s) :
    s0.same kd (State.startLane s l) := by
  unfold State.startLane
  try dsimp only
  repeat' (first | with_reducible (first | assumption | apply State.same_ite_fst | apply State.same_ite | apply SameO.none | apply SameO.some_id | apply SameO.some | apply SameO.ite | apply State.set_same | apply State.raise_same | apply State.lower_same | apply State.setLane_same | apply State.wakeQuad_same | apply State.portCfgerr_same) | split)

theorem State.stopLane_same {kd : StateKind} {s0 : State} {s : State} {l : Nat} (h_fabric : kd ≠ .fabric) (h_lanes : kd ≠ .lanes) (h_capture : kd ≠ .capture) (h_sequencers : kd ≠ .sequencers) (h_ledger : kd ≠ .ledger) (h_outputs : kd ≠ .outputs) (hs : s0.same kd s) :
    s0.same kd (State.stopLane s l) := by
  unfold State.stopLane
  try dsimp only
  repeat' (first | with_reducible (first | assumption | apply State.same_ite_fst | apply State.same_ite | apply State.calFail_same | apply State.set_same | apply State.lower_same | apply State.setLane_same | apply State.portCfgerr_same | apply State.leaveReady_same) | split)

theorem State.writeRate_same {kd : StateKind} {s0 : State} {s : State} {l : Nat} {v : Nat} (hs : s0.same kd s) :
    s0.same kd (State.writeRate s l v) := by
  unfold State.writeRate
  try dsimp only
  repeat' (first | with_reducible (first | assumption | apply State.same_ite_fst | apply State.same_ite | apply State.showEntry_same | apply State.set_same | apply State.setB_same))

theorem State.wantTrain_same {kd : StateKind} {s0 : State} {s : State} {l : Nat} (h_lanes : kd ≠ .lanes) (hs : s0.same kd s) :
    s0.same kd (State.wantTrain s l) := by
  unfold State.wantTrain
  try dsimp only
  repeat' (first | with_reducible (first | assumption | apply State.setLane_same))

theorem State.loopChanged_same {kd : StateKind} {s0 : State} {s : State} {l : Nat} (h_fabric : kd ≠ .fabric) (h_lanes : kd ≠ .lanes) (h_capture : kd ≠ .capture) (h_sequencers : kd ≠ .sequencers) (h_ledger : kd ≠ .ledger) (h_outputs : kd ≠ .outputs) (hs : s0.same kd s) :
    s0.same kd (State.loopChanged s l) := by
  unfold State.loopChanged
  try dsimp only
  repeat' (first | with_reducible (first | assumption | apply State.same_ite_fst | apply State.same_ite | apply State.set_same | apply State.setLane_same | apply State.leaveReady_same))

theorem State.writeLnCtrl_same {kd : StateKind} {s0 : State} {s : State} {l : Nat} {v : Nat} (h_fabric : kd ≠ .fabric) (h_lanes : kd ≠ .lanes) (h_capture : kd ≠ .capture) (h_sequencers : kd ≠ .sequencers) (h_ledger : kd ≠ .ledger) (h_outputs : kd ≠ .outputs) (hs : s0.same kd s) :
    s0.same kd (State.writeLnCtrl s l v) := by
  unfold State.writeLnCtrl
  try dsimp only
  repeat' (first | with_reducible (first | assumption | apply State.same_ite_fst | apply State.same_ite | apply State.startLane_same | apply State.stopLane_same | apply State.writeRate_same | apply State.wantTrain_same | apply State.loopChanged_same | apply State.set_same | apply State.setB_same | apply State.leaveReady_same))

theorem execLaneEnable_same {kd : StateKind} {s0 : State} {l : LaneId} {v : Word} {s : State} (h_fabric : kd ≠ .fabric) (h_lanes : kd ≠ .lanes) (h_capture : kd ≠ .capture) (h_sequencers : kd ≠ .sequencers) (h_ledger : kd ≠ .ledger) (h_outputs : kd ≠ .outputs) (h_answer : kd ≠ .answer) (hs : s0.same kd s) :
    SameR kd s0 (execLaneEnable l v s) := by
  unfold execLaneEnable
  try dsimp only
  repeat' (first | with_reducible (first | assumption | intro s x _ | intro s _ | intro x | apply SameR.next | apply SameR.ite | apply State.writeLnCtrl_same | apply State.access_same))

theorem execLaneDisable_same {kd : StateKind} {s0 : State} {l : LaneId} {s : State} (h_fabric : kd ≠ .fabric) (h_lanes : kd ≠ .lanes) (h_capture : kd ≠ .capture) (h_sequencers : kd ≠ .sequencers) (h_ledger : kd ≠ .ledger) (h_outputs : kd ≠ .outputs) (h_answer : kd ≠ .answer) (hs : s0.same kd s) :
    SameR kd s0 (execLaneDisable l s) := by
  unfold execLaneDisable
  try dsimp only
  repeat' (first | with_reducible (first | assumption | intro s x _ | intro s _ | intro x | apply SameR.next | apply SameR.ite | apply State.same_ite_fst | apply State.same_ite | apply State.stopLane_same | apply State.lower_same | apply State.access_same))

theorem execTrainRequest_same {kd : StateKind} {s0 : State} {l : LaneId} {t : Bool} {s : State} (h_fabric : kd ≠ .fabric) (h_lanes : kd ≠ .lanes) (h_capture : kd ≠ .capture) (h_sequencers : kd ≠ .sequencers) (h_ledger : kd ≠ .ledger) (h_outputs : kd ≠ .outputs) (h_answer : kd ≠ .answer) (hs : s0.same kd s) :
    SameR kd s0 (execTrainRequest l t s) := by
  unfold execTrainRequest
  try dsimp only
  repeat' (first | with_reducible (first | assumption | intro s x _ | intro s _ | intro x | apply SameR.next | apply SameR.ite | apply State.same_ite_fst | apply State.same_ite | apply State.wantTrain_same | apply State.set_same | apply State.setB_same | apply State.access_same | apply State.leaveReady_same))

theorem execLoopSelect_same {kd : StateKind} {s0 : State} {l : LaneId} {m : Fin 4} {s : State} (h_fabric : kd ≠ .fabric) (h_lanes : kd ≠ .lanes) (h_capture : kd ≠ .capture) (h_sequencers : kd ≠ .sequencers) (h_ledger : kd ≠ .ledger) (h_outputs : kd ≠ .outputs) (h_answer : kd ≠ .answer) (hs : s0.same kd s) :
    SameR kd s0 (execLoopSelect l m s) := by
  unfold execLoopSelect
  try dsimp only
  repeat' (first | with_reducible (first | assumption | intro s x _ | intro s _ | intro x | apply SameR.next | apply SameR.ite | apply State.same_ite_fst | apply State.same_ite | apply State.loopChanged_same | apply State.set_same | apply State.access_same))

theorem execCalDone_same {kd : StateKind} {s0 : State} {l : LaneId} {s : State} (h_lanes : kd ≠ .lanes) (h_ledger : kd ≠ .ledger) (h_outputs : kd ≠ .outputs) (hs : s0.same kd s) :
    SameR kd s0 (execCalDone l s) := by
  unfold execCalDone
  try dsimp only
  repeat' (first | with_reducible (first | assumption | apply SameR.next | apply SameR.ite | apply State.same_ite_fst | apply State.same_ite | apply State.loadTx_same | apply State.loadRx_same | apply State.calHalf_same | apply State.laneReady_same | apply State.set_same))

theorem State.adapt_same {kd : StateKind} {s0 : State} {s : State} {l : Nat} {a : AdaptVals} (hs : s0.same kd s) :
    s0.same kd (State.adapt s l a) := by
  unfold State.adapt
  try dsimp only
  repeat' (first | with_reducible (first | assumption | intro s x _ | intro s _ | intro x | apply State.same_ite_fst | apply State.same_ite | apply State.same_foldl | apply State.same_foldl_fst | apply State.set_same | apply State.raise_same))

theorem execAcqComplete_same {kd : StateKind} {s0 : State} {l : LaneId} {a : AdaptVals} {s : State} (h_lanes : kd ≠ .lanes) (h_ledger : kd ≠ .ledger) (h_outputs : kd ≠ .outputs) (hs : s0.same kd s) :
    SameR kd s0 (execAcqComplete l a s) := by
  unfold execAcqComplete
  try dsimp only
  repeat' (first | with_reducible (first | assumption | apply SameR.next | apply SameR.ite | apply State.same_ite_fst | apply State.same_ite | apply State.laneReady_same | apply State.adapt_same | apply State.set_same | apply State.setLane_same) | split)

theorem execAcqTimeout_same {kd : StateKind} {s0 : State} {l : LaneId} {s : State} (h_lanes : kd ≠ .lanes) (h_ledger : kd ≠ .ledger) (hs : s0.same kd s) :
    SameR kd s0 (execAcqTimeout l s) := by
  unfold execAcqTimeout
  try dsimp only
  repeat' (first | with_reducible (first | assumption | apply SameR.next | apply SameR.ite | apply State.same_ite_fst | apply State.same_ite | apply State.loadRx_same | apply State.calFail_same | apply State.count_same) | split)

theorem execLossOfSignal_same {kd : StateKind} {s0 : State} {l : LaneId} {clock : Bool} {s : State} (h_fabric : kd ≠ .fabric) (h_lanes : kd ≠ .lanes) (h_capture : kd ≠ .capture) (h_sequencers : kd ≠ .sequencers) (h_ledger : kd ≠ .ledger) (h_outputs : kd ≠ .outputs) (hs : s0.same kd s) :
    SameR kd s0 (execLossOfSignal l clock s) := by
  unfold execLossOfSignal
  try dsimp only
  repeat' (first | with_reducible (first | assumption | apply SameR.next | apply SameR.ite | apply State.same_ite_fst | apply State.same_ite | apply State.set_same | apply State.raise_same | apply State.lower_same | apply State.count_same | apply State.leaveReady_same))

theorem execAdaptLimitHold_same {kd : StateKind} {s0 : State} {l : LaneId} {s : State} (hs : s0.same kd s) :
    SameR kd s0 (execAdaptLimitHold l s) := by
  unfold execAdaptLimitHold
  try dsimp only
  repeat' (first | with_reducible (first | assumption | apply SameR.next | apply SameR.ite | apply State.same_ite_fst | apply State.same_ite | apply State.raise_same))

theorem State.echoPlaces_same {kd : StateKind} {s0 : State} {s : State} {l : Nat} {ps : List Nat} (h_lanes : kd ≠ .lanes) (hs : s0.same kd s) :
    s0.same kd (State.echoPlaces s l ps) := by
  unfold State.echoPlaces
  try dsimp only
  repeat' (first | with_reducible (first | assumption | apply State.same_ite_fst | apply State.same_ite | apply State.setLane_same))

theorem State.echoBits_same {kd : StateKind} {s0 : State} {s : State} {l : Nat} {b : List Bool} (h_lanes : kd ≠ .lanes) (hs : s0.same kd s) :
    s0.same kd (State.echoBits s l b) := by
  unfold State.echoBits
  try dsimp only
  repeat' (first | with_reducible (first | assumption | apply State.same_ite_fst | apply State.same_ite | apply State.echoPlaces_same | apply State.setLane_same))

theorem State.runCal_same {kd : StateKind} {s0 : State} {s : State} {l : Nat} {kind : Nat} (h_fabric : kd ≠ .fabric) (h_lanes : kd ≠ .lanes) (h_capture : kd ≠ .capture) (h_sequencers : kd ≠ .sequencers) (h_ledger : kd ≠ .ledger) (h_outputs : kd ≠ .outputs) (hs : s0.same kd s) :
    s0.same kd (State.runCal s l kind) := by
  unfold State.runCal
  try dsimp only
  repeat' (first | with_reducible (first | assumption | apply State.same_ite_fst | apply State.same_ite | apply State.loadRx_same | apply State.calHalf_same | apply State.set_same | apply State.raise_same | apply State.setLane_same | apply State.leaveReady_same))

theorem State.requestCal_same {kd : StateKind} {s0 : State} {s : State} {l : Nat} {kind : Nat} {intr : Bool} {e : Nat} {src : Nat} (h_fabric : kd ≠ .fabric) (h_lanes : kd ≠ .lanes) (h_capture : kd ≠ .capture) (h_sequencers : kd ≠ .sequencers) (h_ledger : kd ≠ .ledger) (h_outputs : kd ≠ .outputs) (hs : s0.same kd s) :
    s0.same kd (State.requestCal s l kind intr e src) := by
  unfold State.requestCal
  try dsimp only
  repeat' (first | with_reducible (first | assumption | apply State.same_ite_fst | apply State.same_ite | apply SameO.none | apply SameO.some_id | apply SameO.some | apply SameO.ite | apply State.runCal_same | apply State.opBegin_same | apply State.opRefuse_same | apply State.raise_same | apply State.setLane_same))

theorem State.writeLnCal_same {kd : StateKind} {s0 : State} {s : State} {l : Nat} {v : Nat} {src : Nat} (h_fabric : kd ≠ .fabric) (h_lanes : kd ≠ .lanes) (h_capture : kd ≠ .capture) (h_sequencers : kd ≠ .sequencers) (h_ledger : kd ≠ .ledger) (h_outputs : kd ≠ .outputs) (hs : s0.same kd s) :
    s0.same kd (State.writeLnCal s l v src) := by
  unfold State.writeLnCal
  try dsimp only
  repeat' (first | with_reducible (first | assumption | apply State.same_ite_fst | apply State.same_ite | apply State.requestCal_same))

theorem execRxcal_same {kd : StateKind} {s0 : State} {l : LaneId} {src : Fin 4096} {intr : Bool} {e : Fin 1024} {s : State} (h_fabric : kd ≠ .fabric) (h_lanes : kd ≠ .lanes) (h_capture : kd ≠ .capture) (h_sequencers : kd ≠ .sequencers) (h_ledger : kd ≠ .ledger) (h_outputs : kd ≠ .outputs) (h_answer : kd ≠ .answer) (hs : s0.same kd s) :
    SameR kd s0 (execRxcal l src intr e s) := by
  unfold execRxcal
  try dsimp only
  repeat' (first | with_reducible (first | assumption | intro s x _ | intro s _ | intro x | apply SameR.next | apply SameR.ite | apply State.requestCal_same | apply State.access_same))

theorem execFullCal_same {kd : StateKind} {s0 : State} {l : LaneId} {src : Fin 4096} {intr : Bool} {e : Fin 1024} {s : State} (h_fabric : kd ≠ .fabric) (h_lanes : kd ≠ .lanes) (h_capture : kd ≠ .capture) (h_sequencers : kd ≠ .sequencers) (h_ledger : kd ≠ .ledger) (h_outputs : kd ≠ .outputs) (h_answer : kd ≠ .answer) (hs : s0.same kd s) :
    SameR kd s0 (execFullCal l src intr e s) := by
  unfold execFullCal
  try dsimp only
  repeat' (first | with_reducible (first | assumption | intro s x _ | intro s _ | intro x | apply SameR.next | apply SameR.ite | apply State.requestCal_same | apply State.access_same))

theorem execReadapt_same {kd : StateKind} {s0 : State} {l : LaneId} {src : Fin 4096} {intr : Bool} {e : Fin 1024} {s : State} (h_fabric : kd ≠ .fabric) (h_lanes : kd ≠ .lanes) (h_capture : kd ≠ .capture) (h_sequencers : kd ≠ .sequencers) (h_ledger : kd ≠ .ledger) (h_outputs : kd ≠ .outputs) (h_answer : kd ≠ .answer) (hs : s0.same kd s) :
    SameR kd s0 (execReadapt l src intr e s) := by
  unfold execReadapt
  try dsimp only
  repeat' (first | with_reducible (first | assumption | intro s x _ | intro s _ | intro x | apply SameR.next | apply SameR.ite | apply State.requestCal_same | apply State.access_same))

theorem execQueuedCalStart_same {kd : StateKind} {s0 : State} {l : LaneId} {s : State} (h_fabric : kd ≠ .fabric) (h_lanes : kd ≠ .lanes) (h_capture : kd ≠ .capture) (h_sequencers : kd ≠ .sequencers) (h_ledger : kd ≠ .ledger) (h_outputs : kd ≠ .outputs) (hs : s0.same kd s) :
    SameR kd s0 (execQueuedCalStart l s) := by
  unfold execQueuedCalStart
  try dsimp only
  repeat' (first | with_reducible (first | assumption | apply SameR.next | apply SameR.ite | apply State.same_ite_fst | apply State.same_ite | apply SameO.none | apply SameO.some_id | apply SameO.some | apply SameO.ite | apply State.runCal_same | apply State.opMove_same | apply State.setLane_same) | split)

end Sys2Proof.Machine
end

