-- ==== Sys2Proof/Laws/SameWires.lean ====
section
/-! SUPPORT. The kinds of state that every operation and meaning of Machine/Wires.lean leaves as they are (Laws/Same.lean). -/
set_option maxRecDepth 4000
set_option linter.unusedVariables false
namespace Sys2Proof.Machine

theorem State.showWires_same {kd : StateKind} {s0 : State} {s : State} {n : Nat} {m : Nat} (hs : s0.same kd s) :
    s0.same kd (State.showWires s n m) := by
  unfold State.showWires
  try dsimp only
  repeat' (first | with_reducible (first | assumption | apply State.same_ite_fst | apply State.same_ite | apply State.setB_same | apply State.setBitOf_same | apply State.clearBitOf_same))

theorem State.flushWires_same {kd : StateKind} {s0 : State} {s : State} (h_fabric : kd ≠ .fabric) (hs : s0.same kd s) :
    s0.same kd (State.flushWires s) := by
  unfold State.flushWires
  try dsimp only
  repeat' (first | with_reducible (first | assumption | apply State.same_ite_fst | apply State.same_ite) | (simp only [State.same_mk]; refine State.same_upd_pipes ?_ ?_))

theorem State.wires_same {kd : StateKind} {s0 : State} {s : State} (h_fabric : kd ≠ .fabric) (hs : s0.same kd s) :
    s0.same kd (State.wires s) := by
  unfold State.wires
  try dsimp only
  repeat' (first | with_reducible (first | assumption | intro s x _ | intro s _ | intro x | apply State.same_foldl | apply State.same_foldl_fst | apply State.showWires_same | apply State.flushWires_same))

end Sys2Proof.Machine
end

