-- ==== Sys2Proof/Laws/SameFence.lean ====
section
/-! SUPPORT. The kinds of state that every operation and meaning of Machine/Fence.lean leaves as they are (Laws/Same.lean). -/
set_option maxRecDepth 4000
set_option linter.unusedVariables false
namespace Sys2Proof.Machine

theorem State.relive_same {kd : StateKind} {s0 : State} {s : State} {n : Nat} (hs : s0.same kd s) :
    s0.same kd (State.relive s n) := by
  unfold State.relive
  try dsimp only
  repeat' (first | with_reducible (first | assumption | intro s x _ | intro s _ | intro x | apply State.same_ite_fst | apply State.same_ite | apply State.same_foldl | apply State.same_foldl_fst | apply State.set_same))

theorem State.fieldLost_same {kd : StateKind} {s0 : State} {s : State} {n : Nat} (h_reservations : kd ≠ .reservations) (h_walkers : kd ≠ .walkers) (h_flume : kd ≠ .flume) (h_lanes : kd ≠ .lanes) (h_capture : kd ≠ .capture) (h_ledger : kd ≠ .ledger) (h_debug : kd ≠ .debug) (hs : s0.same kd s) :
    s0.same kd (State.fieldLost s n) := by
  unfold State.fieldLost
  try dsimp only
  repeat' (first | with_reducible (first | assumption | intro s x _ | intro s _ | intro x | apply SameO.none | apply SameO.some_id | apply SameO.some | apply SameO.ite | apply State.same_foldl | apply State.same_foldl_fst | apply State.loseRange_same | apply State.cistsLost_same | apply State.calFail_same | apply State.opFail_same | apply State.endSwap_same | apply State.stopRing_same) | (simp only [State.same_mk]; refine State.same_upd_autoInit_resv ?_ ?_ ?_) | split)

theorem State.startWalk_same {kd : StateKind} {s0 : State} {s : State} {die : Nat} (h_requests : kd ≠ .requests) (hs : s0.same kd s) :
    s0.same kd (State.startWalk s die) := by
  unfold State.startWalk
  try dsimp only
  repeat' (first | with_reducible (first | assumption | apply State.same_ite_fst | apply State.same_ite | apply State.set_same | apply State.raise_same) | (simp only [State.same_mk]; refine State.same_upd_walk_walkTag ?_ ?_))

theorem State.fenceModules_same {kd : StateKind} {s0 : State} {s : State} {n : Nat} (h_flume : kd ≠ .flume) (hs : s0.same kd s) :
    s0.same kd (State.fenceModules s n) := by
  unfold State.fenceModules
  try dsimp only
  repeat' (first | with_reducible (first | assumption | intro s x _ | intro s _ | intro x | apply State.same_ite_fst | apply State.same_ite | apply State.same_foldl | apply State.same_foldl_fst | apply State.relive_same | apply State.setMod_same | apply State.set_same))

theorem State.fence_same {kd : StateKind} {s0 : State} {s : State} {i : Nat} {fail : Nat} (h_memory : kd ≠ .memory) (h_reservations : kd ≠ .reservations) (h_requests : kd ≠ .requests) (h_qdr : kd ≠ .qdr) (h_walkers : kd ≠ .walkers) (h_flume : kd ≠ .flume) (h_fabric : kd ≠ .fabric) (h_lanes : kd ≠ .lanes) (h_capture : kd ≠ .capture) (h_ledger : kd ≠ .ledger) (h_log : kd ≠ .log) (h_debug : kd ≠ .debug) (h_counter : kd ≠ .counter) (hs : s0.same kd s) :
    s0.same kd (State.fence s i fail) := by
  unfold State.fence
  try dsimp only
  repeat' (first | with_reducible (first | assumption | apply State.same_ite_fst | apply State.same_ite | apply State.retryWaiting_same | apply State.fieldLost_same | apply State.startWalk_same | apply State.fenceModules_same | apply State.set_same | apply State.setBitOf_same | apply State.clearBitOf_same | apply State.setStamp_same | apply State.logEvent_same | apply State.wires_same))

theorem State.fenceMessage_same {kd : StateKind} {s0 : State} {s : State} {n : Nat} (h_lanes : kd ≠ .lanes) (h_sequencers : kd ≠ .sequencers) (h_outputs : kd ≠ .outputs) (hs : s0.same kd s) :
    s0.same kd (State.fenceMessage s n) := by
  unfold State.fenceMessage
  try dsimp only
  repeat' (first | with_reducible (first | assumption | intro s x _ | intro s _ | intro x | apply State.same_ite_fst | apply State.same_ite | apply State.same_foldl | apply State.same_foldl_fst | apply State.furAbort_same | apply State.furDisarm_same | apply State.raise_same))

end Sys2Proof.Machine
end

