-- ==== Sys2Proof/Laws/SameImage.lean ====
section
/-! SUPPORT. The kinds of state that every operation and meaning of Machine/Image.lean leaves as they are (Laws/Same.lean). -/
set_option maxRecDepth 4000
set_option linter.unusedVariables false
namespace Sys2Proof.Machine

theorem State.setStore_same {kd : StateKind} {s0 : State} {s : State} {die : Nat} {a : Nat} {b : Byte} (h_stores : kd ≠ .stores) (hs : s0.same kd s) :
    s0.same kd (State.setStore s die a b) := by
  unfold State.setStore
  try dsimp only
  repeat' (first | with_reducible (first | assumption) | (simp only [State.same_mk]; refine State.same_upd_stores ?_ ?_) | split)

theorem State.setStores_same {kd : StateKind} {s0 : State} {s : State} {die : Nat} {a : Nat} {x3 : List Byte} (h_stores : kd ≠ .stores) (hs : s0.same kd s) :
    s0.same kd (State.setStores s die a x3) := by
  revert hs
  induction x3 generalizing s die a with
  | nil =>
    intro hs; unfold State.setStores; try dsimp only
    repeat' (first | with_reducible (first | assumption | apply State.setStore_same) | split)
  | cons y l ih =>
    intro hs; unfold State.setStores; try dsimp only
    repeat' (first | with_reducible (first | assumption | apply ih | apply State.setStore_same) | split)

theorem State.eraseStore_same {kd : StateKind} {s0 : State} {s : State} {die : Nat} {a : Nat} {len : Nat} (h_stores : kd ≠ .stores) (hs : s0.same kd s) :
    s0.same kd (State.eraseStore s die a len) := by
  unfold State.eraseStore
  try dsimp only
  repeat' (first | with_reducible (first | assumption) | (simp only [State.same_mk]; refine State.same_upd_stores ?_ ?_))

theorem State.loadCode_same {kd : StateKind} {s0 : State} {s : State} {n : Nat} {slot : Nat} (h_programs : kd ≠ .programs) (hs : s0.same kd s) :
    s0.same kd (State.loadCode s n slot) := by
  unfold State.loadCode
  try dsimp only
  repeat' (first | with_reducible (first | assumption | intro s x _ | intro s _ | intro x | apply State.same_foldl | apply State.same_foldl_fst) | (simp only [State.same_mk]; refine State.same_upd_code ?_ ?_))

theorem State.atpkrRefused_same {kd : StateKind} {s0 : State} {s : State} (hs : s0.same kd s) :
    s0.same kd (State.atpkrRefused s) := by
  unfold State.atpkrRefused
  try dsimp only
  repeat' (first | with_reducible (first | assumption | apply State.set_same | apply State.raise_same))

theorem State.setNv_same {kd : StateKind} {s0 : State} {s : State} {e : Elem} {v : Nat} (h_stores : kd ≠ .stores) (hs : s0.same kd s) :
    s0.same kd (State.setNv s e v) := by
  unfold State.setNv
  try dsimp only
  repeat' (first | with_reducible (first | assumption | apply State.set_same) | (simp only [State.same_mk]; refine State.same_upd_settings ?_ ?_))

theorem State.applyReg_same {kd : StateKind} {s0 : State} {s : State} {die : Nat} {o : Nat} {v : Nat} {por : Bool} (h_stores : kd ≠ .stores) (hs : s0.same kd s) :
    SameO kd id s0 (State.applyReg s die o v por) := by
  unfold State.applyReg
  try dsimp only
  repeat' (first | with_reducible (first | assumption | intro s x _ | intro s _ | intro x | apply SameO.ite | apply State.same_ite_fst | apply State.same_ite | apply SameO.none | apply SameO.some_id | apply SameO.some | apply State.same_foldl | apply State.same_foldl_fst | apply State.atpkrRefused_same | apply State.setNv_same) | split)

theorem State.applyChannel_same {kd : StateKind} {s0 : State} {s : State} {n : Nat} {a : Nat} (h_capture : kd ≠ .capture) (hs : s0.same kd s) :
    s0.same kd (State.applyChannel s n a) := by
  unfold State.applyChannel
  try dsimp only
  repeat' (first | with_reducible (first | assumption | intro s x _ | intro s _ | intro x | apply State.same_foldl | apply State.same_foldl_fst) | (simp only [State.same_mk]; refine State.same_upd_chan ?_ ?_))

theorem State.applyRecords_same {kd : StateKind} {s0 : State} {s : State} {die : Nat} {por : Bool} {x3 : List (Nat × Nat × Nat)} (h_stores : kd ≠ .stores) (h_capture : kd ≠ .capture) (hs : s0.same kd s) :
    s0.same kd (State.applyRecords s die por x3).1 := by
  revert hs
  induction x3 generalizing s die por with
  | nil =>
    intro hs; unfold State.applyRecords; try dsimp only
    repeat' (first | with_reducible (first | assumption | apply State.same_ite_fst | apply State.same_ite | apply SameO.none | apply SameO.some_id | apply SameO.some | apply SameO.ite | apply State.applyReg_same | apply State.applyChannel_same | refine State.same_of_some (by assumption) ?_) | split | dsimp only)
  | cons y l ih =>
    intro hs; unfold State.applyRecords; try dsimp only
    repeat' (first | with_reducible (first | assumption | apply State.same_ite_fst | apply State.same_ite | apply SameO.none | apply SameO.some_id | apply SameO.some | apply SameO.ite | apply ih | apply State.applyReg_same | apply State.applyChannel_same | refine State.same_of_some (by assumption) ?_) | split | dsimp only)

theorem State.servoRestart_same {kd : StateKind} {s0 : State} {s : State} (hs : s0.same kd s) :
    s0.same kd (State.servoRestart s) := by
  unfold State.servoRestart
  try dsimp only
  repeat' (first | with_reducible (first | assumption | apply State.same_ite_fst | apply State.same_ite | apply State.set_same | apply State.raise_same))

theorem State.headworksSettings_same {kd : StateKind} {s0 : State} {s : State} {por : Bool} (h_stores : kd ≠ .stores) (h_capture : kd ≠ .capture) (hs : s0.same kd s) :
    s0.same kd (State.headworksSettings s por) := by
  unfold State.headworksSettings
  try dsimp only
  repeat' (first | with_reducible (first | assumption | apply SameO.none | apply SameO.some_id | apply SameO.some | apply SameO.ite | apply State.applyRecords_same | apply State.servoRestart_same | refine State.same_of_fst (by assumption) ?_) | split)

theorem State.fieldSettings_same {kd : StateKind} {s0 : State} {s : State} {n : Nat} (h_stores : kd ≠ .stores) (h_fabric : kd ≠ .fabric) (h_capture : kd ≠ .capture) (hs : s0.same kd s) :
    s0.same kd (State.fieldSettings s n) := by
  unfold State.fieldSettings
  try dsimp only
  repeat' (first | with_reducible (first | assumption | apply State.same_ite_fst | apply State.same_ite | apply SameO.none | apply SameO.some_id | apply SameO.some | apply SameO.ite | apply State.applyRecords_same | apply State.checkTable_same | apply State.set_same | apply State.raise_same | refine State.same_of_fst (by assumption) ?_) | split)

end Sys2Proof.Machine
end

