-- ==== Sys2Proof/Laws/SameReset.lean ====
section
/-! SUPPORT. The kinds of state that every operation and meaning of Machine/Reset.lean leaves as they are (Laws/Same.lean). -/
set_option maxRecDepth 4000
set_option linter.unusedVariables false
namespace Sys2Proof.Machine

theorem State.setMap_same {kd : StateKind} {s0 : State} {s : State} {m : SlotMap} (hs : s0.same kd s) :
    s0.same kd (State.setMap s m) := by
  unfold State.setMap
  try dsimp only
  repeat' (first | with_reducible (first | assumption | apply State.set_same))

theorem State.revert_same {kd : StateKind} {s0 : State} {s : State} {cause : Nat} (h_stores : kd ≠ .stores) (h_log : kd ≠ .log) (h_management : kd ≠ .management) (hs : s0.same kd s) :
    s0.same kd (State.revert s cause) := by
  unfold State.revert
  try dsimp only
  repeat' (first | with_reducible (first | assumption | intro s x _ | intro s _ | intro x | apply State.same_foldl | apply State.same_foldl_fst | apply State.eraseStore_same | apply State.set_same | apply State.lower_same | apply State.logEvent_same | apply State.setMap_same) | (simp only [State.same_mk]; refine State.same_upd_upd ?_ ?_))

theorem State.invalidate_same {kd : StateKind} {s0 : State} {s : State} (h_management : kd ≠ .management) (hs : s0.same kd s) :
    s0.same kd (State.invalidate s) := by
  unfold State.invalidate
  try dsimp only
  repeat' (first | with_reducible (first | assumption) | (simp only [State.same_mk]; refine State.same_upd_upd ?_ ?_))

theorem State.bundleLog_same {kd : StateKind} {s0 : State} {s : State} {err : Nat} {part : Nat} (h_log : kd ≠ .log) (hs : s0.same kd s) :
    s0.same kd (State.bundleLog s err part) := by
  unfold State.bundleLog
  try dsimp only
  repeat' (first | with_reducible (first | assumption | apply State.set_same | apply State.logEvent_same))

theorem State.readDirectory_same {kd : StateKind} {s0 : State} {s : State} (h_stores : kd ≠ .stores) (h_log : kd ≠ .log) (h_management : kd ≠ .management) (hs : s0.same kd s) :
    s0.same kd (State.readDirectory s) := by
  unfold State.readDirectory
  try dsimp only
  repeat' (first | with_reducible (first | assumption | intro s x _ | intro s _ | intro x | apply State.same_ite_fst | apply State.same_ite | apply State.same_foldl | apply State.same_foldl_fst | apply State.set_same | apply State.logEvent_same | apply State.setMap_same | apply State.revert_same | apply State.invalidate_same | apply State.bundleLog_same) | (simp only [State.same_mk]; refine State.same_upd_upd ?_ ?_) | split)

theorem State.raiseCounter_same {kd : StateKind} {s0 : State} {s : State} {c : Nat} {v : Nat} (h_log : kd ≠ .log) (hs : s0.same kd s) :
    s0.same kd (State.raiseCounter s c v) := by
  unfold State.raiseCounter
  try dsimp only
  repeat' (first | with_reducible (first | assumption | apply State.same_ite_fst | apply State.same_ite | apply State.set_same | apply State.logEvent_same))

theorem State.raiseCounters_same {kd : StateKind} {s0 : State} {s : State} (h_log : kd ≠ .log) (h_management : kd ≠ .management) (hs : s0.same kd s) :
    s0.same kd (State.raiseCounters s) := by
  unfold State.raiseCounters
  try dsimp only
  repeat' (first | with_reducible (first | assumption | intro s x _ | intro s _ | intro x | apply State.same_foldl | apply State.same_foldl_fst | apply State.raiseCounter_same) | (simp only [State.same_mk]; refine State.same_upd_upd ?_ ?_))

theorem State.setDomains_same {kd : StateKind} {s0 : State} {s : State} {m : Nat} (hs : s0.same kd s) :
    s0.same kd (State.setDomains s m) := by
  unfold State.setDomains
  try dsimp only
  repeat' (first | with_reducible (first | assumption | apply State.set2_same))

theorem State.startClock_same {kd : StateKind} {s0 : State} {s : State} {i : Nat} (hs : s0.same kd s) :
    s0.same kd (State.startClock s i) := by
  unfold State.startClock
  try dsimp only
  repeat' (first | with_reducible (first | assumption | apply State.setBitOf_same))

theorem State.restartTclk_same {kd : StateKind} {s0 : State} {s : State} (h_clocks : kd ≠ .clocks) (h_counter : kd ≠ .counter) (hs : s0.same kd s) :
    s0.same kd (State.restartTclk s) := by
  unfold State.restartTclk
  try dsimp only
  repeat' (first | with_reducible (first | assumption | apply State.same_ite_fst | apply State.same_ite | apply State.keepAlive_same))

theorem State.unhold_same {kd : StateKind} {s0 : State} {s : State} {src : Nat} (h_management : kd ≠ .management) (hs : s0.same kd s) :
    s0.same kd (State.unhold s src) := by
  unfold State.unhold
  try dsimp only
  repeat' (first | with_reducible (first | assumption) | (simp only [State.same_mk]; refine State.same_upd_boot ?_ ?_))

theorem State.headworksCopyIn_same {kd : StateKind} {s0 : State} {s : State} {loader : Bool} (h_stores : kd ≠ .stores) (h_flume : kd ≠ .flume) (h_capture : kd ≠ .capture) (h_log : kd ≠ .log) (h_management : kd ≠ .management) (hs : s0.same kd s) :
    s0.same kd (State.headworksCopyIn s loader) := by
  unfold State.headworksCopyIn
  try dsimp only
  repeat' (first | with_reducible (first | assumption | apply State.same_ite_fst | apply State.same_ite | apply State.headworksSettings_same | apply State.set_same | apply State.raise_same | apply State.revert_same | apply State.readDirectory_same | apply State.raiseCounters_same) | (simp only [State.same_mk]; first | refine State.same_upd_boot ?_ ?_ | refine State.same_upd_xbar ?_ ?_))

theorem State.pkrRelease_same {kd : StateKind} {s0 : State} {s : State} {loader : Bool} (h_stores : kd ≠ .stores) (h_flume : kd ≠ .flume) (h_capture : kd ≠ .capture) (h_log : kd ≠ .log) (h_management : kd ≠ .management) (hs : s0.same kd s) :
    s0.same kd (State.pkrRelease s loader) := by
  unfold State.pkrRelease
  try dsimp only
  repeat' (first | with_reducible (first | assumption | apply State.same_ite_fst | apply State.same_ite | apply State.raise_same | apply State.setB_same | apply State.setBitOf_same | apply State.setDomains_same | apply State.startClock_same | apply State.headworksCopyIn_same) | (simp only [State.same_mk]; refine State.same_upd_boot ?_ ?_) | split)

end Sys2Proof.Machine
end

