-- ==== Sys2Proof/Laws/SameReservoir.lean ====
section
/-! SUPPORT. The kinds of state that every operation and meaning of Machine/Reservoir.lean leaves as they are (Laws/Same.lean). -/
set_option maxRecDepth 4000
set_option linter.unusedVariables false
namespace Sys2Proof.Machine

theorem State.basinOut_same {kd : StateKind} {s0 : State} {s : State} {k : Nat} {portB : Bool} {x3 : Option (List Nat × Bool × Bool × Bool)} (h_outputs : kd ≠ .outputs) (hs : s0.same kd s) :
    s0.same kd (State.basinOut s k portB x3) := by
  unfold State.basinOut
  try dsimp only
  repeat' (first | with_reducible (first | assumption | apply SameO.none | apply SameO.some_id | apply SameO.some | apply SameO.ite | apply State.emit_same) | split)

theorem State.basinCycle_same {kd : StateKind} {s0 : State} {s : State} {k : Nat} {gated : Bool} {a : Option BasinPort} {b : Option BasinPort} (h_fabric : kd ≠ .fabric) (h_outputs : kd ≠ .outputs) (hs : s0.same kd s) :
    s0.same kd (State.basinCycle s k gated a b) := by
  unfold State.basinCycle
  try dsimp only
  repeat' (first | with_reducible (first | assumption | intro s x _ | intro s _ | intro x | apply State.same_ite_fst | apply State.same_ite | apply SameO.map | apply State.same_foldl | apply State.same_foldl_fst | apply State.basinOut_same) | (simp only [State.same_mk]; refine State.same_upd_basins ?_ ?_))

theorem execBasinAccess_same {kd : StateKind} {s0 : State} {n : FieldId} {r : Fin 16} {i : Fin 84} {a : Option BasinPort} {b : Option BasinPort} {s : State} (h_fabric : kd ≠ .fabric) (h_outputs : kd ≠ .outputs) (hs : s0.same kd s) :
    SameR kd s0 (execBasinAccess n r i a b s) := by
  unfold execBasinAccess
  try dsimp only
  repeat' (first | with_reducible (first | assumption | apply SameR.next | apply SameR.ite | apply State.same_ite_fst | apply State.same_ite | apply State.basinCycle_same) | split)

theorem State.keepResp_same {kd : StateKind} {s0 : State} {s : State} {old : State} (h_answer : kd ≠ .answer) (hs : s0.same kd s) (hold : s0.same kd old) :
    s0.same kd (State.keepResp s old) := by
  unfold State.keepResp
  try dsimp only
  repeat' (first | with_reducible (first | assumption) | (simp only [State.same_mk]; refine State.same_upd_resp ?_ ?_))

theorem State.rsvAnswer_same {kd : StateKind} {s0 : State} {s : State} {p : RsvPort} {st : RStat} {cause : Nat} {data : List Byte} (h_answer : kd ≠ .answer) (hs : s0.same kd s) :
    s0.same kd (State.rsvAnswer s p st cause data) := by
  unfold State.rsvAnswer
  try dsimp only
  repeat' (first | with_reducible (first | assumption | apply State.same_ite_fst | apply State.same_ite) | (simp only [State.same_mk]; refine State.same_upd_resp ?_ ?_) | split)

theorem State.rsvStalls_same {kd : StateKind} {s0 : State} {s : State} {i : Nat} {p : Nat} {stalls : List Nat} (hs : s0.same kd s) :
    s0.same kd (State.rsvStalls s i p stalls) := by
  unfold State.rsvStalls
  try dsimp only
  repeat' (first | with_reducible (first | assumption | apply State.count_same))

theorem State.rsvRead_same {kd : StateKind} {s0 : State} {s : State} {i : Nat} {p : RsvPort} {x : Nat} {len : Nat} {busy : List (List RsvBusy)} {fetch : Bool} (h_qdr : kd ≠ .qdr) (h_walkers : kd ≠ .walkers) (h_answer : kd ≠ .answer) (h_counter : kd ≠ .counter) (hs : s0.same kd s) :
    s0.same kd (State.rsvRead s i p x len busy fetch) := by
  unfold State.rsvRead
  try dsimp only
  repeat' (first | with_reducible (first | assumption | apply State.same_ite_fst | apply State.same_ite | apply State.readMem_same | apply State.used_same | apply State.answer_same | apply State.rsvAnswer_same | apply State.rsvStalls_same))

theorem execReservoirRead_same {kd : StateKind} {s0 : State} {i : RsvId} {p : RsvPort} {x : Fin 4194304} {len : Fin 64} {busy : List (List RsvBusy)} {s : State} (h_qdr : kd ≠ .qdr) (h_walkers : kd ≠ .walkers) (h_answer : kd ≠ .answer) (h_counter : kd ≠ .counter) (hs : s0.same kd s) :
    SameR kd s0 (execReservoirRead i p x len busy s) := by
  unfold execReservoirRead
  try dsimp only
  repeat' (first | with_reducible (first | assumption | apply SameR.next | apply SameR.ite | apply State.same_ite_fst | apply State.same_ite | apply State.rsvRead_same))

theorem execReservoirFetch_same {kd : StateKind} {s0 : State} {i : RsvId} {p : RsvPort} {x : Fin 4194304} {len : Fin 64} {busy : List (List RsvBusy)} {s : State} (h_qdr : kd ≠ .qdr) (h_walkers : kd ≠ .walkers) (h_answer : kd ≠ .answer) (h_counter : kd ≠ .counter) (hs : s0.same kd s) :
    SameR kd s0 (execReservoirFetch i p x len busy s) := by
  unfold execReservoirFetch
  try dsimp only
  repeat' (first | with_reducible (first | assumption | apply SameR.next | apply SameR.ite | apply State.same_ite_fst | apply State.same_ite | apply State.rsvRead_same))

theorem State.rsvStop_same {kd : StateKind} {s0 : State} {s : State} {i : Nat} {w : RsvWrite} (hs : s0.same kd s) :
    SameO kd (·.2.2) s0 (State.rsvStop s i w) := by
  unfold State.rsvStop
  try dsimp only
  repeat' (first | with_reducible (first | assumption | apply SameO.ite | apply State.same_ite_fst | apply State.same_ite | apply SameO.none | apply SameO.some_id | apply SameO.some | apply State.reach_same | refine State.same_of_some_snd (by assumption) ?_) | split)

theorem State.rsvRespond_same {kd : StateKind} {s0 : State} {s : State} {i : Nat} {w : RsvWrite} {st : RStat} {cause : Nat} {wlost : Bool} (h_outputs : kd ≠ .outputs) (h_answer : kd ≠ .answer) (hs : s0.same kd s) :
    s0.same kd (State.rsvRespond s i w st cause wlost) := by
  unfold State.rsvRespond
  try dsimp only
  repeat' (first | with_reducible (first | assumption | apply State.same_ite_fst | apply State.same_ite | apply State.raise_same | apply State.count_same | apply State.emit_same | apply State.rsvAnswer_same))

theorem State.rsvMerge_same {kd : StateKind} {s0 : State} {s : State} {i : Nat} {joined : List RsvWrite} {k : Nat} (h_memory : kd ≠ .memory) (h_reservations : kd ≠ .reservations) (h_walkers : kd ≠ .walkers) (hs : s0.same kd s) :
    s0.same kd (State.rsvMerge s i joined k).1 := by
  unfold State.rsvMerge
  try dsimp only
  repeat' (first | with_reducible (first | assumption | apply State.writeWord_same | refine State.same_of_fst (by assumption) ?_) | split | dsimp only)

theorem State.rsvWrites_same {kd : StateKind} {s0 : State} {s : State} {i : Nat} {l : List RsvWrite} {busy : List (List RsvBusy)} (h_memory : kd ≠ .memory) (h_reservations : kd ≠ .reservations) (h_walkers : kd ≠ .walkers) (h_outputs : kd ≠ .outputs) (h_answer : kd ≠ .answer) (hs : s0.same kd s) :
    s0.same kd (State.rsvWrites s i l busy) := by
  unfold State.rsvWrites
  try dsimp only
  repeat' (first | with_reducible (first | assumption | intro s x _ | intro s _ | intro x | apply State.same_ite_fst | apply State.same_ite | apply SameO.none | apply SameO.some_id | apply SameO.some | apply SameO.ite | apply SameO.map | apply State.same_foldl | apply State.same_foldl_fst | apply State.rsvStalls_same | apply State.rsvStop_same | apply State.rsvRespond_same | apply State.rsvMerge_same | refine State.same_of_some_trd (by assumption) ?_ | refine State.same_of_fst (by assumption) ?_) | split)

theorem execReservoirWrite_same {kd : StateKind} {s0 : State} {i : RsvId} {c : RsvCycle} {s : State} (h_memory : kd ≠ .memory) (h_reservations : kd ≠ .reservations) (h_walkers : kd ≠ .walkers) (h_outputs : kd ≠ .outputs) (h_answer : kd ≠ .answer) (h_counter : kd ≠ .counter) (hs : s0.same kd s) :
    SameR kd s0 (execReservoirWrite i c s) := by
  unfold execReservoirWrite
  try dsimp only
  repeat' (first | with_reducible (first | assumption | apply SameR.next | apply SameR.ite | apply State.used_same | apply State.rsvWrites_same))

theorem State.rsvLl_same {kd : StateKind} {s0 : State} {s : State} {i : Nat} {p : RsvPort} {w : Nat} {h : Fin 3} {busy : List (List RsvBusy)} (h_reservations : kd ≠ .reservations) (h_qdr : kd ≠ .qdr) (h_walkers : kd ≠ .walkers) (h_answer : kd ≠ .answer) (h_counter : kd ≠ .counter) (hs : s0.same kd s) :
    s0.same kd (State.rsvLl s i p w h busy) := by
  unfold State.rsvLl
  try dsimp only
  repeat' (first | with_reducible (first | assumption | apply State.same_ite_fst | apply State.same_ite | apply SameO.none | apply SameO.some_id | apply SameO.some | apply SameO.ite | apply State.rsvAnswer_same | apply State.rsvRead_same) | (simp only [State.same_mk]; refine State.same_upd_resv ?_ ?_) | split)

theorem execReservoirLl_same {kd : StateKind} {s0 : State} {i : RsvId} {p : RsvPort} {w : Fin 524288} {h : Fin 3} {busy : List (List RsvBusy)} {s : State} (h_reservations : kd ≠ .reservations) (h_qdr : kd ≠ .qdr) (h_walkers : kd ≠ .walkers) (h_answer : kd ≠ .answer) (h_counter : kd ≠ .counter) (hs : s0.same kd s) :
    SameR kd s0 (execReservoirLl i p w h busy s) := by
  unfold execReservoirLl
  try dsimp only
  repeat' (first | with_reducible (first | assumption | apply SameR.next | apply SameR.ite | apply State.same_ite_fst | apply State.same_ite | apply State.rsvLl_same))

theorem State.rsvSc_same {kd : StateKind} {s0 : State} {s : State} {i : Nat} {p : RsvPort} {w : Nat} {h : Fin 3} {data : Nat} {busy : List (List RsvBusy)} (h_memory : kd ≠ .memory) (h_reservations : kd ≠ .reservations) (h_qdr : kd ≠ .qdr) (h_walkers : kd ≠ .walkers) (h_answer : kd ≠ .answer) (h_counter : kd ≠ .counter) (hs : s0.same kd s) :
    s0.same kd (State.rsvSc s i p w h data busy) := by
  unfold State.rsvSc
  try dsimp only
  repeat' (first | with_reducible (first | assumption | apply State.same_ite_fst | apply State.same_ite | apply SameO.none | apply SameO.some_id | apply SameO.some | apply SameO.ite | apply State.reach_same | apply State.writeMem_same | apply State.count_same | apply State.used_same | apply State.answer_same | apply State.rsvAnswer_same | apply State.rsvStalls_same | refine State.same_of_fst (by assumption) ?_ | refine State.same_of_some_snd (by assumption) ?_) | (simp only [State.same_mk]; refine State.same_upd_resv ?_ ?_) | split)

theorem execReservoirSc_same {kd : StateKind} {s0 : State} {i : RsvId} {p : RsvPort} {w : Fin 524288} {h : Fin 3} {data : BitVec 64} {busy : List (List RsvBusy)} {s : State} (h_memory : kd ≠ .memory) (h_reservations : kd ≠ .reservations) (h_qdr : kd ≠ .qdr) (h_walkers : kd ≠ .walkers) (h_answer : kd ≠ .answer) (h_counter : kd ≠ .counter) (hs : s0.same kd s) :
    SameR kd s0 (execReservoirSc i p w h data busy s) := by
  unfold execReservoirSc
  try dsimp only
  repeat' (first | with_reducible (first | assumption | apply SameR.next | apply SameR.ite | apply State.same_ite_fst | apply State.same_ite | apply State.rsvSc_same))

theorem execReservoirLock_same {kd : StateKind} {s0 : State} {i : RsvId} {s : State} (h_answer : kd ≠ .answer) (hs : s0.same kd s) :
    SameR kd s0 (execReservoirLock i s) := by
  unfold execReservoirLock
  try dsimp only
  repeat' (first | with_reducible (first | assumption | intro s x _ | intro s _ | intro x | apply SameR.next | apply SameR.ite | apply State.raise_same | apply State.access_same))

end Sys2Proof.Machine
end

