-- ==== Sys2Proof/Laws/SameRill.lean ====
section
/-! SUPPORT. The kinds of state that every operation and meaning of Machine/Rill.lean leaves as they are (Laws/Same.lean). -/
set_option maxRecDepth 4000
set_option linter.unusedVariables false
namespace Sys2Proof.Machine

theorem State.setEng_same {kd : StateKind} {s0 : State} {s : State} {g : Nat} {e : EngSt} (h_engines : kd ≠ .engines) (hs : s0.same kd s) :
    s0.same kd (State.setEng s g e) := by
  unfold State.setEng
  try dsimp only
  repeat' (first | with_reducible (first | assumption) | (simp only [State.same_mk]; refine State.same_upd_engs ?_ ?_))

theorem State.rset_same {kd : StateKind} {s0 : State} {s : State} {f : Field} {v : Nat} {g : Nat} (hs : s0.same kd s) :
    s0.same kd (State.rset s f v g) := by
  unfold State.rset
  try dsimp only
  repeat' (first | with_reducible (first | assumption | apply State.set_same))

theorem State.setRilState_same {kd : StateKind} {s0 : State} {s : State} {g : Nat} {v : Nat} (hs : s0.same kd s) :
    s0.same kd (State.setRilState s g v) := by
  unfold State.setRilState
  try dsimp only
  repeat' (first | with_reducible (first | assumption | apply State.same_ite_fst | apply State.same_ite | apply State.setBitOf_same | apply State.clearBitOf_same | apply State.rset_same))

theorem State.setHstat_same {kd : StateKind} {s0 : State} {s : State} {g : Nat} {state : Nat} {cause : Nat} {du : Nat} {pc : Nat} (hs : s0.same kd s) :
    s0.same kd (State.setHstat s g state cause du pc) := by
  unfold State.setHstat
  try dsimp only
  repeat' (first | with_reducible (first | assumption | apply State.same_ite_fst | apply State.same_ite | apply State.set_same))

theorem State.clearHstat_same {kd : StateKind} {s0 : State} {s : State} {g : Nat} (hs : s0.same kd s) :
    s0.same kd (State.clearHstat s g) := by
  unfold State.clearHstat
  try dsimp only
  repeat' (first | with_reducible (first | assumption | apply State.same_ite_fst | apply State.same_ite | apply State.set_same))

theorem State.rilFault_same {kd : StateKind} {s0 : State} {s : State} {g : Nat} {cause : Nat} {pc : Nat} {faddr : Nat} (h_engines : kd ≠ .engines) (hs : s0.same kd s) :
    s0.same kd (State.rilFault s g cause pc faddr) := by
  unfold State.rilFault
  try dsimp only
  repeat' (first | with_reducible (first | assumption | apply State.same_ite_fst | apply State.same_ite | apply State.setEng_same | apply State.rset_same | apply State.setRilState_same | apply State.clearHstat_same))

theorem State.enterHalted_same {kd : StateKind} {s0 : State} {s : State} {g : Nat} {h : Nat × Nat} (h_engines : kd ≠ .engines) (h_debug : kd ≠ .debug) (h_outputs : kd ≠ .outputs) (h_counter : kd ≠ .counter) (hs : s0.same kd s) :
    s0.same kd (State.enterHalted s g h) := by
  unfold State.enterHalted
  try dsimp only
  repeat' (first | with_reducible (first | assumption | apply State.setEng_same | apply State.setRilState_same | apply State.setHstat_same | apply State.trace_same | apply State.wmEvent_same))

theorem State.drainHalt_same {kd : StateKind} {s0 : State} {s : State} {g : Nat} (h_engines : kd ≠ .engines) (h_debug : kd ≠ .debug) (h_outputs : kd ≠ .outputs) (h_counter : kd ≠ .counter) (hs : s0.same kd s) :
    s0.same kd (State.drainHalt s g) := by
  unfold State.drainHalt
  try dsimp only
  repeat' (first | with_reducible (first | assumption | apply State.same_ite_fst | apply State.same_ite | apply SameO.none | apply SameO.some_id | apply SameO.some | apply SameO.ite | apply State.enterHalted_same) | split)

theorem State.tryHalt_same {kd : StateKind} {s0 : State} {s : State} {g : Nat} (h_engines : kd ≠ .engines) (h_debug : kd ≠ .debug) (h_outputs : kd ≠ .outputs) (h_counter : kd ≠ .counter) (hs : s0.same kd s) :
    s0.same kd (State.tryHalt s g) := by
  unfold State.tryHalt
  try dsimp only
  repeat' (first | with_reducible (first | assumption | apply State.same_ite_fst | apply State.same_ite | apply State.setEng_same | apply State.setHstat_same | apply State.drainHalt_same) | split)

theorem State.requestHalt_same {kd : StateKind} {s0 : State} {s : State} {g : Nat} {cause : Nat} {du : Nat} (h_engines : kd ≠ .engines) (h_debug : kd ≠ .debug) (h_outputs : kd ≠ .outputs) (h_counter : kd ≠ .counter) (hs : s0.same kd s) :
    s0.same kd (State.requestHalt s g cause du) := by
  unfold State.requestHalt
  try dsimp only
  repeat' (first | with_reducible (first | assumption | apply State.same_ite_fst | apply State.same_ite | apply SameO.none | apply SameO.some_id | apply SameO.some | apply SameO.ite | apply State.set_same | apply State.setEng_same | apply State.tryHalt_same))

theorem State.breakLock_same {kd : StateKind} {s0 : State} {s : State} {g : Nat} (h_reservations : kd ≠ .reservations) (h_engines : kd ≠ .engines) (h_debug : kd ≠ .debug) (h_outputs : kd ≠ .outputs) (h_counter : kd ≠ .counter) (hs : s0.same kd s) :
    s0.same kd (State.breakLock s g) := by
  unfold State.breakLock
  try dsimp only
  repeat' (first | with_reducible (first | assumption | apply State.same_ite_fst | apply State.same_ite | apply State.raise_same | apply State.enterHalted_same) | (simp only [State.same_mk]; refine State.same_upd_resv ?_ ?_) | split)

theorem State.rilReload_same {kd : StateKind} {s0 : State} {s : State} {g : Nat} (h_engines : kd ≠ .engines) (hs : s0.same kd s) :
    s0.same kd (State.rilReload s g) := by
  unfold State.rilReload
  try dsimp only
  repeat' (first | with_reducible (first | assumption | apply State.setEng_same | apply State.rset_same))

theorem State.rilRun_same {kd : StateKind} {s0 : State} {s : State} {g : Nat} {pc : Nat} (h_engines : kd ≠ .engines) (hs : s0.same kd s) :
    s0.same kd (State.rilRun s g pc) := by
  unfold State.rilRun
  try dsimp only
  repeat' (first | with_reducible (first | assumption | apply State.setEng_same | apply State.rset_same | apply State.setRilState_same | apply State.rilReload_same))

theorem State.wakeCluster_same {kd : StateKind} {s0 : State} {s : State} {k : Nat} (hs : s0.same kd s) :
    s0.same kd (State.wakeCluster s k) := by
  unfold State.wakeCluster
  try dsimp only
  repeat' (first | with_reducible (first | assumption | apply State.same_ite_fst | apply State.same_ite | apply State.lower_same | apply State.count_same | apply State.clearBitOf_same))

theorem State.rilClear_same {kd : StateKind} {s0 : State} {s : State} {g : Nat} (h_reservations : kd ≠ .reservations) (h_engines : kd ≠ .engines) (hs : s0.same kd s) :
    s0.same kd (State.rilClear s g) := by
  unfold State.rilClear
  try dsimp only
  repeat' (first | with_reducible (first | assumption | apply State.setEng_same | apply State.rset_same | apply State.setRilState_same | apply State.clearHstat_same) | (simp only [State.same_mk]; refine State.same_upd_resv ?_ ?_))

theorem State.rilResetEnd_same {kd : StateKind} {s0 : State} {s : State} {g : Nat} (h_reservations : kd ≠ .reservations) (h_engines : kd ≠ .engines) (hs : s0.same kd s) :
    s0.same kd (State.rilResetEnd s g) := by
  unfold State.rilResetEnd
  try dsimp only
  repeat' (first | with_reducible (first | assumption | apply State.same_ite_fst | apply State.same_ite | apply State.rilClear_same))

theorem State.rilReset_same {kd : StateKind} {s0 : State} {s : State} {g : Nat} (h_engines : kd ≠ .engines) (hs : s0.same kd s) :
    s0.same kd (State.rilReset s g) := by
  unfold State.rilReset
  try dsimp only
  repeat' (first | with_reducible (first | assumption | apply State.same_ite_fst | apply State.same_ite | apply State.setEng_same | apply State.clearHstat_same))

theorem State.rilStart_same {kd : StateKind} {s0 : State} {s : State} {g : Nat} (h_engines : kd ≠ .engines) (hs : s0.same kd s) :
    s0.same kd (State.rilStart s g) := by
  unfold State.rilStart
  try dsimp only
  repeat' (first | with_reducible (first | assumption | apply State.same_ite_fst | apply State.same_ite | apply State.rset_same | apply State.rilRun_same | apply State.wakeCluster_same))

theorem State.writeEctrl_same {kd : StateKind} {s0 : State} {s : State} {g : Nat} {v : Nat} (h_engines : kd ≠ .engines) (hs : s0.same kd s) :
    s0.same kd (State.writeEctrl s g v) := by
  unfold State.writeEctrl
  try dsimp only
  repeat' (first | with_reducible (first | assumption | apply State.same_ite_fst | apply State.same_ite | apply State.rset_same | apply State.rilReset_same | apply State.rilStart_same))

theorem State.moveLoad_same {kd : StateKind} {s0 : State} {s : State} {g : Nat} {a : Nat} (h_walkers : kd ≠ .walkers) (hs : s0.same kd s) :
    s0.same kd (State.moveLoad s g a).1 := by
  unfold State.moveLoad
  try dsimp only
  repeat' (first | with_reducible (first | assumption | apply SameO.none | apply SameO.some_id | apply SameO.some | apply SameO.ite | apply State.eccCount_same | apply State.readWords_same | refine State.same_of_fst (by assumption) ?_) | split | dsimp only)

theorem State.moveStore_same {kd : StateKind} {s0 : State} {s : State} {g : Nat} {a : Nat} {v : Nat} (h_memory : kd ≠ .memory) (h_reservations : kd ≠ .reservations) (h_walkers : kd ≠ .walkers) (hs : s0.same kd s) :
    s0.same kd (State.moveStore s g a v).1 := by
  unfold State.moveStore
  try dsimp only
  repeat' (first | with_reducible (first | assumption | apply SameO.none | apply SameO.some_id | apply SameO.some | apply SameO.ite | apply State.writeWord_same) | dsimp only)

theorem MoveOut.loaded_same {kd : StateKind} {s0 : State} {o : MoveOut} {mem : Nat} {d : Nat} {p : Nat} {a : Nat} {r : State × Nat × Bool} (ho : s0.same kd o.s) (hr : s0.same kd r.1) :
    s0.same kd (MoveOut.loaded o mem d p a r).s := by
  unfold MoveOut.loaded
  try dsimp only
  repeat' (first | with_reducible (first | assumption | apply State.same_ite_s | apply State.same_ite_fst | apply State.same_ite | apply SameO.none | apply SameO.some_id | apply SameO.some | apply SameO.ite) | split)

theorem MoveOut.stored_same {kd : StateKind} {s0 : State} {o : MoveOut} {mem : Nat} {v : Nat} {p : Nat} {a : Nat} {r : State × Bool} (ho : s0.same kd o.s) (hr : s0.same kd r.1) :
    s0.same kd (MoveOut.stored o mem v p a r).s := by
  unfold MoveOut.stored
  try dsimp only
  repeat' (first | with_reducible (first | assumption | apply State.same_ite_s | apply State.same_ite_fst | apply State.same_ite | apply SameO.none | apply SameO.some_id | apply SameO.some | apply SameO.ite))

theorem State.setPtr_same {kd : StateKind} {s0 : State} {s : State} {g : Nat} {k : Nat} {v : Nat} (h_engines : kd ≠ .engines) (hs : s0.same kd s) :
    s0.same kd (State.setPtr s g k v) := by
  unfold State.setPtr
  try dsimp only
  repeat' (first | with_reducible (first | assumption | apply State.setEng_same))

theorem MoveOut.access_same {kd : StateKind} {s0 : State} {o : MoveOut} {g : Nat} {mem : Nat} {m : RilMove} {old : EngSt} {s : State} {p : Nat} (h_memory : kd ≠ .memory) (h_reservations : kd ≠ .reservations) (h_walkers : kd ≠ .walkers) (ho : s0.same kd o.s) (hs : s0.same kd s) :
    s0.same kd (MoveOut.access o g mem m old s p).s := by
  unfold MoveOut.access
  try dsimp only
  repeat' (first | with_reducible (first | assumption | apply State.same_ite_s | apply State.same_ite_fst | apply State.same_ite | apply State.moveLoad_same | apply State.moveStore_same | apply MoveOut.loaded_same | apply MoveOut.stored_same))

theorem MoveOut.move_same {kd : StateKind} {s0 : State} {o : MoveOut} {g : Nat} {mem : Nat} {m : RilMove} {old : EngSt} (h_memory : kd ≠ .memory) (h_reservations : kd ≠ .reservations) (h_engines : kd ≠ .engines) (h_walkers : kd ≠ .walkers) (ho : s0.same kd o.s) :
    s0.same kd (MoveOut.move o g mem m old).s := by
  unfold MoveOut.move
  by_cases h : m.kind = 0
  · rw [if_pos h]; exact ho
  · rw [if_neg h]; exact MoveOut.access_same h_memory h_reservations h_walkers ho (State.setPtr_same h_engines ho)

theorem State.setRilReg_same {kd : StateKind} {s0 : State} {s : State} {g : Nat} {c : Nat} {v : Nat} (h_engines : kd ≠ .engines) (hs : s0.same kd s) :
    s0.same kd (State.setRilReg s g c v) := by
  unfold State.setRilReg
  try dsimp only
  repeat' (first | with_reducible (first | assumption | apply State.same_ite_fst | apply State.same_ite | apply State.setEng_same | apply State.rset_same))

theorem State.rsvDo_same {kd : StateKind} {s0 : State} {s : State} {g : Nat} {a : RilAcc} (h_memory : kd ≠ .memory) (h_reservations : kd ≠ .reservations) (h_qdr : kd ≠ .qdr) (h_walkers : kd ≠ .walkers) (h_outputs : kd ≠ .outputs) (h_answer : kd ≠ .answer) (h_counter : kd ≠ .counter) (hs : s0.same kd s) :
    s0.same kd (State.rsvDo s g a).1 := by
  unfold State.rsvDo
  try dsimp only
  repeat' (first | with_reducible (first | assumption | apply State.same_ite_fst | apply State.same_ite | apply SameO.none | apply SameO.some_id | apply SameO.some | apply SameO.ite | apply State.used_same | apply State.rsvRead_same | apply State.rsvWrites_same | apply State.rsvLl_same | apply State.rsvSc_same) | (simp only [State.same_mk]; refine State.same_upd_resp ?_ ?_) | split | dsimp only)

theorem State.settle_same {kd : StateKind} {s0 : State} {s : State} {g : Nat} {x2 : Nat} (h_memory : kd ≠ .memory) (h_reservations : kd ≠ .reservations) (h_engines : kd ≠ .engines) (h_requests : kd ≠ .requests) (h_shares : kd ≠ .shares) (h_hbm : kd ≠ .hbm) (h_qdr : kd ≠ .qdr) (h_walkers : kd ≠ .walkers) (h_lanes : kd ≠ .lanes) (h_outputs : kd ≠ .outputs) (h_answer : kd ≠ .answer) (h_counter : kd ≠ .counter) (hs : s0.same kd s) :
    s0.same kd (State.settle s g x2) := by
  revert hs
  induction x2 generalizing s g with
  | zero =>
    intro hs; unfold State.settle; try dsimp only
    repeat' (first | with_reducible (first | assumption | apply State.same_ite_fst | apply State.same_ite | apply SameO.none | apply SameO.some_id | apply SameO.some | apply SameO.ite | apply State.perform_same | apply State.drainAt_same | apply State.setEng_same | apply State.rilFault_same | apply State.rsvDo_same | apply State.passAll_same | refine State.same_of_some (by assumption) ?_ | refine State.same_of_fst (by assumption) ?_) | split)
  | succ n ih =>
    intro hs; unfold State.settle; try dsimp only
    repeat' (first | with_reducible (first | assumption | apply State.same_ite_fst | apply State.same_ite | apply SameO.none | apply SameO.some_id | apply SameO.some | apply SameO.ite | apply ih | apply State.perform_same | apply State.drainAt_same | apply State.setEng_same | apply State.rilFault_same | apply State.rsvDo_same | apply State.passAll_same | refine State.same_of_some (by assumption) ?_ | refine State.same_of_fst (by assumption) ?_) | split)

theorem State.duTrace_same {kd : StateKind} {s0 : State} {s : State} {g : Nat} {pc : Nat} {kind : Nat} {a : Nat} {data : Nat} {us : List Nat} (h_debug : kd ≠ .debug) (h_counter : kd ≠ .counter) (hs : s0.same kd s) :
    s0.same kd (State.duTrace s g pc kind a data us) := by
  unfold State.duTrace
  try dsimp only
  repeat' (first | with_reducible (first | assumption | intro s x _ | intro s _ | intro x | apply State.same_ite_fst | apply State.same_ite | apply State.same_foldl | apply State.same_foldl_fst | apply State.trace_same))

theorem State.rilExpire_same {kd : StateKind} {s0 : State} {s : State} {g : Nat} (h_reservations : kd ≠ .reservations) (h_engines : kd ≠ .engines) (h_debug : kd ≠ .debug) (h_outputs : kd ≠ .outputs) (h_counter : kd ≠ .counter) (hs : s0.same kd s) :
    s0.same kd (State.rilExpire s g) := by
  unfold State.rilExpire
  try dsimp only
  repeat' (first | with_reducible (first | assumption | apply State.same_ite_fst | apply State.same_ite | apply State.rilFault_same | apply State.breakLock_same))

theorem State.rilCycles_same {kd : StateKind} {s0 : State} {s : State} {g : Nat} {n : Nat} (h_engines : kd ≠ .engines) (hs : s0.same kd s) :
    s0.same kd (State.rilCycles s g n) := by
  unfold State.rilCycles
  try dsimp only
  repeat' (first | with_reducible (first | assumption | apply State.same_ite_fst | apply State.same_ite | apply State.set_same | apply State.wrap2_same | apply State.setEng_same | apply State.rset_same))

theorem State.rilBreak_same {kd : StateKind} {s0 : State} {s : State} {g : Nat} (h_reservations : kd ≠ .reservations) (h_engines : kd ≠ .engines) (h_debug : kd ≠ .debug) (h_outputs : kd ≠ .outputs) (h_counter : kd ≠ .counter) (hs : s0.same kd s) :
    s0.same kd (State.rilBreak s g) := by
  unfold State.rilBreak
  try dsimp only
  repeat' (first | with_reducible (first | assumption | apply State.same_ite_fst | apply State.same_ite | apply State.breakLock_same))

theorem State.rilDoCompute_same {kd : StateKind} {s0 : State} {s : State} {g : Nat} {w : Nat} (h_memory : kd ≠ .memory) (h_reservations : kd ≠ .reservations) (h_engines : kd ≠ .engines) (h_walkers : kd ≠ .walkers) (hs : s0.same kd s) :
    s0.same kd (State.rilDoCompute s g w).1 := by
  unfold State.rilDoCompute
  try dsimp only
  repeat' (first | with_reducible (first | assumption | intro s x _ | intro s _ | intro x | apply State.same_foldl | apply State.same_foldl_fst | apply State.setEng_same | apply State.rset_same | apply MoveOut.move_same) | dsimp only)

theorem State.rilDo_same {kd : StateKind} {s0 : State} {s : State} {g : Nat} {w : Nat} {pc : Nat} {next : Nat} (h_engines : kd ≠ .engines) (hs : s0.same kd s) :
    s0.same kd (State.rilDo s g w pc next).1 := by
  unfold State.rilDo
  try dsimp only
  repeat' (first | with_reducible (first | assumption | apply State.same_ite_fst | apply State.same_ite | apply State.setEng_same) | dsimp only)

theorem State.rilBlk_same {kd : StateKind} {s0 : State} {s : State} {g : Nat} {w : Nat} (h_engines : kd ≠ .engines) (hs : s0.same kd s) :
    SameO kd id s0 (State.rilBlk s g w) := by
  unfold State.rilBlk
  try dsimp only
  repeat' (first | with_reducible (first | assumption | apply SameO.ite | apply State.same_ite_fst | apply State.same_ite | apply SameO.none | apply SameO.some_id | apply SameO.some | apply State.setEng_same))

theorem State.rilMem_same {kd : StateKind} {s0 : State} {s : State} {g : Nat} {w : Nat} (h_engines : kd ≠ .engines) (hs : s0.same kd s) :
    SameO kd id s0 (State.rilMem s g w) := by
  unfold State.rilMem
  try dsimp only
  repeat' (first | with_reducible (first | assumption | apply SameO.ite | apply State.same_ite_fst | apply State.same_ite | apply SameO.none | apply SameO.some_id | apply SameO.some | apply State.setEng_same))

theorem State.rilDoControl_same {kd : StateKind} {s0 : State} {s : State} {g : Nat} {w : Nat} {pc : Nat} {next : Nat} (h_engines : kd ≠ .engines) (hs : s0.same kd s) :
    s0.same kd (State.rilDoControl s g w pc next).1 := by
  unfold State.rilDoControl
  try dsimp only
  repeat' (first | with_reducible (first | assumption | apply State.same_ite_fst | apply State.same_ite | apply SameO.none | apply SameO.some_id | apply SameO.some | apply SameO.ite | apply State.setEng_same | apply State.rset_same | apply State.setRilState_same | apply State.rilReload_same | apply State.setRilReg_same | apply State.rilDo_same | apply State.rilBlk_same | apply State.rilMem_same | refine State.same_of_some (by assumption) ?_ | refine State.same_of_fst (by assumption) ?_) | split | dsimp only)

theorem State.rilTaken_same {kd : StateKind} {s0 : State} {s : State} {g : Nat} {w : Nat} {pc : Nat} (h_engines : kd ≠ .engines) (hs : s0.same kd s) :
    s0.same kd (State.rilTaken s g w pc) := by
  unfold State.rilTaken
  try dsimp only
  repeat' (first | with_reducible (first | assumption | apply State.setEng_same))

theorem State.rilExec_same {kd : StateKind} {s0 : State} {s : State} {g : Nat} {w : Nat} {pc : Nat} (h_memory : kd ≠ .memory) (h_reservations : kd ≠ .reservations) (h_engines : kd ≠ .engines) (h_requests : kd ≠ .requests) (h_shares : kd ≠ .shares) (h_hbm : kd ≠ .hbm) (h_qdr : kd ≠ .qdr) (h_walkers : kd ≠ .walkers) (h_lanes : kd ≠ .lanes) (h_outputs : kd ≠ .outputs) (h_answer : kd ≠ .answer) (h_counter : kd ≠ .counter) (hs : s0.same kd s) :
    s0.same kd (State.rilExec s g w pc).1 := by
  unfold State.rilExec
  try dsimp only
  repeat' (first | with_reducible (first | assumption | apply State.same_ite_fst | apply State.same_ite | apply State.rset_same | apply State.rilFault_same | apply State.settle_same | apply State.rilDoCompute_same | apply State.rilDoControl_same | apply State.rilTaken_same | refine State.same_of_fst (by assumption) ?_) | split | dsimp only)

theorem State.rilBoundary_same {kd : StateKind} {s0 : State} {s : State} {g : Nat} {pc : Nat} {seen : List (Nat × Nat × Nat)} (h_engines : kd ≠ .engines) (h_debug : kd ≠ .debug) (h_outputs : kd ≠ .outputs) (h_counter : kd ≠ .counter) (hs : s0.same kd s) :
    s0.same kd (State.rilBoundary s g pc seen) := by
  unfold State.rilBoundary
  try dsimp only
  repeat' (first | with_reducible (first | assumption | intro s x _ | intro s _ | intro x | apply State.same_ite_fst | apply State.same_ite | apply State.same_foldl | apply State.same_foldl_fst | apply State.setEng_same | apply State.clearHstat_same | apply State.tryHalt_same | apply State.requestHalt_same | apply State.duTrace_same) | split)

theorem State.rilClose_same {kd : StateKind} {s0 : State} {s : State} {g : Nat} {pc : Nat} {n : Nat} {seen : List (Nat × Nat × Nat)} (h_reservations : kd ≠ .reservations) (h_engines : kd ≠ .engines) (h_debug : kd ≠ .debug) (h_outputs : kd ≠ .outputs) (h_counter : kd ≠ .counter) (hs : s0.same kd s) :
    s0.same kd (State.rilClose s g pc n seen) := by
  unfold State.rilClose
  try dsimp only
  repeat' (first | with_reducible (first | assumption | apply State.rilExpire_same | apply State.rilCycles_same | apply State.rilBreak_same | apply State.rilBoundary_same))

theorem State.rilIssue_same {kd : StateKind} {s0 : State} {s : State} {g : Nat} {op : Option Nat} {step : Bool} (h_memory : kd ≠ .memory) (h_reservations : kd ≠ .reservations) (h_engines : kd ≠ .engines) (h_requests : kd ≠ .requests) (h_shares : kd ≠ .shares) (h_hbm : kd ≠ .hbm) (h_qdr : kd ≠ .qdr) (h_walkers : kd ≠ .walkers) (h_lanes : kd ≠ .lanes) (h_debug : kd ≠ .debug) (h_outputs : kd ≠ .outputs) (h_answer : kd ≠ .answer) (h_counter : kd ≠ .counter) (hs : s0.same kd s) :
    s0.same kd (State.rilIssue s g op step) := by
  unfold State.rilIssue
  try dsimp only
  repeat' (first | with_reducible (first | assumption | intro s x _ | intro s _ | intro x | apply State.same_ite_fst | apply State.same_ite | apply State.same_foldl | apply State.same_foldl_fst | apply State.rilFault_same | apply State.requestHalt_same | apply State.duTrace_same | apply State.rilExec_same | apply State.rilClose_same | refine State.same_of_fst (by assumption) ?_) | split)

theorem State.rilStep_same {kd : StateKind} {s0 : State} {s : State} {g : Nat} (h_memory : kd ≠ .memory) (h_reservations : kd ≠ .reservations) (h_engines : kd ≠ .engines) (h_requests : kd ≠ .requests) (h_shares : kd ≠ .shares) (h_hbm : kd ≠ .hbm) (h_qdr : kd ≠ .qdr) (h_walkers : kd ≠ .walkers) (h_lanes : kd ≠ .lanes) (h_debug : kd ≠ .debug) (h_outputs : kd ≠ .outputs) (h_answer : kd ≠ .answer) (h_counter : kd ≠ .counter) (hs : s0.same kd s) :
    s0.same kd (State.rilStep s g) := by
  unfold State.rilStep
  try dsimp only
  repeat' (first | with_reducible (first | assumption | apply State.same_ite_fst | apply State.same_ite | apply State.setEng_same | apply State.setHstat_same | apply State.clearHstat_same | apply State.rilIssue_same))

theorem State.rilAfter_same {kd : StateKind} {s0 : State} {s : State} {g : Nat} (h_memory : kd ≠ .memory) (h_reservations : kd ≠ .reservations) (h_engines : kd ≠ .engines) (h_requests : kd ≠ .requests) (h_shares : kd ≠ .shares) (h_hbm : kd ≠ .hbm) (h_qdr : kd ≠ .qdr) (h_walkers : kd ≠ .walkers) (h_lanes : kd ≠ .lanes) (h_debug : kd ≠ .debug) (h_outputs : kd ≠ .outputs) (h_answer : kd ≠ .answer) (h_counter : kd ≠ .counter) (hs : s0.same kd s) :
    s0.same kd (State.rilAfter s g) := by
  unfold State.rilAfter
  try dsimp only
  repeat' (first | with_reducible (first | assumption | apply State.same_ite_fst | apply State.same_ite | apply State.drainHalt_same | apply State.tryHalt_same | apply State.settle_same | apply State.rilStep_same))

theorem State.rilPaused_same {kd : StateKind} {s0 : State} {s : State} {g : Nat} {held : Nat} (h_reservations : kd ≠ .reservations) (h_engines : kd ≠ .engines) (h_debug : kd ≠ .debug) (h_outputs : kd ≠ .outputs) (h_counter : kd ≠ .counter) (hs : s0.same kd s) :
    s0.same kd (State.rilPaused s g held) := by
  unfold State.rilPaused
  try dsimp only
  repeat' (first | with_reducible (first | assumption | apply State.rilExpire_same | apply State.rilCycles_same | apply State.rilBreak_same))

theorem State.rilRow_same {kd : StateKind} {s0 : State} {s : State} {g : Nat} {op : Nat} {held : Nat} (h_memory : kd ≠ .memory) (h_reservations : kd ≠ .reservations) (h_engines : kd ≠ .engines) (h_requests : kd ≠ .requests) (h_shares : kd ≠ .shares) (h_hbm : kd ≠ .hbm) (h_qdr : kd ≠ .qdr) (h_walkers : kd ≠ .walkers) (h_lanes : kd ≠ .lanes) (h_debug : kd ≠ .debug) (h_outputs : kd ≠ .outputs) (h_answer : kd ≠ .answer) (h_counter : kd ≠ .counter) (hs : s0.same kd s) :
    s0.same kd (State.rilRow s g op held) := by
  unfold State.rilRow
  try dsimp only
  repeat' (first | with_reducible (first | assumption | apply State.same_ite_fst | apply State.same_ite | apply SameO.none | apply SameO.some_id | apply SameO.some | apply SameO.ite | apply State.rilIssue_same | apply State.rilPaused_same))

end Sys2Proof.Machine
end

