-- ==== Sys2Proof/Laws/SameDebug.lean ====
section
/-! SUPPORT. The kinds of state that every operation and meaning of Machine/Debug.lean leaves as they are (Laws/Same.lean). -/
set_option maxRecDepth 4000
set_option linter.unusedVariables false
namespace Sys2Proof.Machine

theorem State.writeDu_same {kd : StateKind} {s0 : State} {s : State} {n : Nat} {c : Nat} {u : Nat} {r : Nat} {v : Nat} (hs : s0.same kd s) :
    s0.same kd (State.writeDu s n c u r v) := by
  unfold State.writeDu
  try dsimp only
  repeat' (first | with_reducible (first | assumption | apply State.same_ite_fst | apply State.same_ite | apply State.raise_same | apply State.wr_same | apply State.wrAll_same) | split)

theorem execDebugUnitWrite_same {kd : StateKind} {s0 : State} {n : FieldId} {c : Fin 4} {u : Fin 8} {r : Fin 4} {v : Word} {s : State} (h_answer : kd ≠ .answer) (hs : s0.same kd s) :
    SameR kd s0 (execDebugUnitWrite n c u r v s) := by
  unfold execDebugUnitWrite
  try dsimp only
  repeat' (first | with_reducible (first | assumption | intro s x _ | intro s _ | intro x | apply SameR.next | apply SameR.ite | apply State.writeDu_same | apply State.access_same))

theorem State.resumeEngine_same {kd : StateKind} {s0 : State} {s : State} {g : Nat} (h_engines : kd ≠ .engines) (h_debug : kd ≠ .debug) (h_counter : kd ≠ .counter) (hs : s0.same kd s) :
    s0.same kd (State.resumeEngine s g) := by
  unfold State.resumeEngine
  try dsimp only
  repeat' (first | with_reducible (first | assumption | apply State.used_same | apply State.setEng_same | apply State.setRilState_same | apply State.clearHstat_same | apply State.rilReload_same | apply State.trace_same))

theorem State.haltCommand_same {kd : StateKind} {s0 : State} {s : State} {g : Nat} {halt : Bool} {resume : Bool} {step : Bool} (h_memory : kd ≠ .memory) (h_reservations : kd ≠ .reservations) (h_engines : kd ≠ .engines) (h_requests : kd ≠ .requests) (h_shares : kd ≠ .shares) (h_hbm : kd ≠ .hbm) (h_qdr : kd ≠ .qdr) (h_walkers : kd ≠ .walkers) (h_lanes : kd ≠ .lanes) (h_debug : kd ≠ .debug) (h_outputs : kd ≠ .outputs) (h_answer : kd ≠ .answer) (h_counter : kd ≠ .counter) (hs : s0.same kd s) :
    s0.same kd (State.haltCommand s g halt resume step) := by
  unfold State.haltCommand
  try dsimp only
  repeat' (first | with_reducible (first | assumption | apply State.same_ite_fst | apply State.same_ite | apply State.resumeEngine_same | apply State.raise_same | apply State.requestHalt_same | apply State.rilStep_same))

theorem State.writeHcmd_same {kd : StateKind} {s0 : State} {s : State} {n : Nat} {c : Nat} {v : Nat} (h_memory : kd ≠ .memory) (h_reservations : kd ≠ .reservations) (h_engines : kd ≠ .engines) (h_requests : kd ≠ .requests) (h_shares : kd ≠ .shares) (h_hbm : kd ≠ .hbm) (h_qdr : kd ≠ .qdr) (h_walkers : kd ≠ .walkers) (h_lanes : kd ≠ .lanes) (h_debug : kd ≠ .debug) (h_outputs : kd ≠ .outputs) (h_answer : kd ≠ .answer) (h_counter : kd ≠ .counter) (hs : s0.same kd s) :
    s0.same kd (State.writeHcmd s n c v) := by
  unfold State.writeHcmd
  try dsimp only
  repeat' (first | with_reducible (first | assumption | intro s x _ | intro s _ | intro x | apply State.same_ite_fst | apply State.same_ite | apply State.same_foldl | apply State.same_foldl_fst | apply State.haltCommand_same) | split)

theorem execEngineHalt_same {kd : StateKind} {s0 : State} {g : EngId} {s : State} (h_memory : kd ≠ .memory) (h_reservations : kd ≠ .reservations) (h_engines : kd ≠ .engines) (h_requests : kd ≠ .requests) (h_shares : kd ≠ .shares) (h_hbm : kd ≠ .hbm) (h_qdr : kd ≠ .qdr) (h_walkers : kd ≠ .walkers) (h_lanes : kd ≠ .lanes) (h_debug : kd ≠ .debug) (h_outputs : kd ≠ .outputs) (h_answer : kd ≠ .answer) (h_counter : kd ≠ .counter) (hs : s0.same kd s) :
    SameR kd s0 (execEngineHalt g s) := by
  unfold execEngineHalt
  try dsimp only
  repeat' (first | with_reducible (first | assumption | intro s x _ | intro s _ | intro x | apply SameR.next | apply SameR.ite | apply State.writeHcmd_same | apply State.access_same))

theorem execEngineResume_same {kd : StateKind} {s0 : State} {g : EngId} {s : State} (h_memory : kd ≠ .memory) (h_reservations : kd ≠ .reservations) (h_engines : kd ≠ .engines) (h_requests : kd ≠ .requests) (h_shares : kd ≠ .shares) (h_hbm : kd ≠ .hbm) (h_qdr : kd ≠ .qdr) (h_walkers : kd ≠ .walkers) (h_lanes : kd ≠ .lanes) (h_debug : kd ≠ .debug) (h_outputs : kd ≠ .outputs) (h_answer : kd ≠ .answer) (h_counter : kd ≠ .counter) (hs : s0.same kd s) :
    SameR kd s0 (execEngineResume g s) := by
  unfold execEngineResume
  try dsimp only
  repeat' (first | with_reducible (first | assumption | intro s x _ | intro s _ | intro x | apply SameR.next | apply SameR.ite | apply State.writeHcmd_same | apply State.access_same))

theorem execEngineStep_same {kd : StateKind} {s0 : State} {g : EngId} {s : State} (h_memory : kd ≠ .memory) (h_reservations : kd ≠ .reservations) (h_engines : kd ≠ .engines) (h_requests : kd ≠ .requests) (h_shares : kd ≠ .shares) (h_hbm : kd ≠ .hbm) (h_qdr : kd ≠ .qdr) (h_walkers : kd ≠ .walkers) (h_lanes : kd ≠ .lanes) (h_debug : kd ≠ .debug) (h_outputs : kd ≠ .outputs) (h_answer : kd ≠ .answer) (h_counter : kd ≠ .counter) (hs : s0.same kd s) :
    SameR kd s0 (execEngineStep g s) := by
  unfold execEngineStep
  try dsimp only
  repeat' (first | with_reducible (first | assumption | intro s x _ | intro s _ | intro x | apply SameR.next | apply SameR.ite | apply State.writeHcmd_same | apply State.access_same))

theorem execHaltDeferTimeout_same {kd : StateKind} {s0 : State} {g : EngId} {s : State} (h_reservations : kd ≠ .reservations) (h_engines : kd ≠ .engines) (h_debug : kd ≠ .debug) (h_outputs : kd ≠ .outputs) (h_counter : kd ≠ .counter) (hs : s0.same kd s) :
    SameR kd s0 (execHaltDeferTimeout g s) := by
  unfold execHaltDeferTimeout
  try dsimp only
  repeat' (first | with_reducible (first | assumption | apply SameR.next | apply SameR.ite | apply State.same_ite_fst | apply State.same_ite | apply State.rilCycles_same | apply State.rilBreak_same))

theorem State.writeSp_same {kd : StateKind} {s0 : State} {s : State} {n : Nat} {e : Nat} {p : Nat} {v : Nat} (h_debug : kd ≠ .debug) (h_counter : kd ≠ .counter) (hs : s0.same kd s) :
    s0.same kd (State.writeSp s n e p v) := by
  unfold State.writeSp
  try dsimp only
  repeat' (first | with_reducible (first | assumption | apply State.trace_same))

theorem execStimulusWrite_same {kd : StateKind} {s0 : State} {n : FieldId} {e : Fin 32} {p : Fin 32} {v : Word} {s : State} (h_debug : kd ≠ .debug) (h_answer : kd ≠ .answer) (h_counter : kd ≠ .counter) (hs : s0.same kd s) :
    SameR kd s0 (execStimulusWrite n e p v s) := by
  unfold execStimulusWrite
  try dsimp only
  repeat' (first | with_reducible (first | assumption | intro s x _ | intro s _ | intro x | apply SameR.next | apply SameR.ite | apply State.writeSp_same | apply State.access_same))

theorem execFabricStimulus_same {kd : StateKind} {s0 : State} {n : FieldId} {port : Fin 256} {size : Fin 16} {data : BitVec 128} {s : State} (h_debug : kd ≠ .debug) (h_counter : kd ≠ .counter) (hs : s0.same kd s) :
    SameR kd s0 (execFabricStimulus n port size data s) := by
  unfold execFabricStimulus
  try dsimp only
  repeat' (first | with_reducible (first | assumption | apply SameR.next | apply SameR.ite | apply State.same_ite_fst | apply State.same_ite | apply State.trace_same))

theorem State.writeTcfg_same {kd : StateKind} {s0 : State} {s : State} {u : Nat} {v : Nat} (h_debug : kd ≠ .debug) (hs : s0.same kd s) :
    s0.same kd (State.writeTcfg s u v) := by
  unfold State.writeTcfg
  try dsimp only
  repeat' (first | with_reducible (first | assumption | apply State.same_ite_fst | apply State.same_ite | apply State.set_same | apply State.set2_same | apply State.wrAll_same | apply State.setRing_same))

theorem execTraceEnable_same {kd : StateKind} {s0 : State} {u : Fin 9} {v : Word} {s : State} (h_debug : kd ≠ .debug) (h_answer : kd ≠ .answer) (hs : s0.same kd s) :
    SameR kd s0 (execTraceEnable u v s) := by
  unfold execTraceEnable
  try dsimp only
  repeat' (first | with_reducible (first | assumption | intro s x _ | intro s _ | intro x | apply SameR.next | apply SameR.ite | apply State.same_ite_fst | apply State.same_ite | apply State.writeTcfg_same | apply State.access_same))

theorem State.ringAdvance_same {kd : StateKind} {s0 : State} {s : State} {u : Nat} {rest : List (List Byte)} (h_debug : kd ≠ .debug) (hs : s0.same kd s) :
    s0.same kd (State.ringAdvance s u rest) := by
  unfold State.ringAdvance
  try dsimp only
  repeat' (first | with_reducible (first | assumption | apply State.same_ite_fst | apply State.same_ite | apply State.set_same | apply State.count_same | apply State.set2_same | apply State.setRing_same))

theorem State.ringWritten_same {kd : StateKind} {s0 : State} {s : State} {u : Nat} {a : Nat} {rest : List (List Byte)} {w : State × RStat} (h_debug : kd ≠ .debug) (hs : s0.same kd s) (hw : s0.same kd w.1) :
    s0.same kd (State.ringWritten s u a rest w) := by
  unfold State.ringWritten
  try dsimp only
  repeat' (first | with_reducible (first | assumption | apply State.same_ite_fst | apply State.same_ite | apply State.ringAdvance_same | apply State.dropPosted_same))

theorem execTracePacketWrite_same {kd : StateKind} {s0 : State} {u : Fin 9} {s : State} (h_memory : kd ≠ .memory) (h_reservations : kd ≠ .reservations) (h_requests : kd ≠ .requests) (h_shares : kd ≠ .shares) (h_hbm : kd ≠ .hbm) (h_qdr : kd ≠ .qdr) (h_walkers : kd ≠ .walkers) (h_lanes : kd ≠ .lanes) (h_debug : kd ≠ .debug) (h_counter : kd ≠ .counter) (hs : s0.same kd s) :
    SameR kd s0 (execTracePacketWrite u s) := by
  unfold execTracePacketWrite
  try dsimp only
  repeat' (first | with_reducible (first | assumption | apply SameR.next | apply SameR.ite | apply State.same_ite_fst | apply State.same_ite | apply State.ringWritten_same | apply State.netStore_same | refine State.same_of_fst (by assumption) ?_) | split)

theorem State.gaugeChallenge_same {kd : StateKind} {s0 : State} {s : State} (h_debug : kd ≠ .debug) (h_counter : kd ≠ .counter) (hs : s0.same kd s) :
    s0.same kd (State.gaugeChallenge s) := by
  unfold State.gaugeChallenge
  try dsimp only
  repeat' (first | with_reducible (first | assumption | intro s x _ | intro s _ | intro x | apply State.same_foldl | apply State.same_foldl_fst | apply State.set_same | apply State.used_same) | (simp only [State.same_mk]; refine State.same_upd_gau ?_ ?_))

theorem execGaugeChallenge_same {kd : StateKind} {s0 : State} {s : State} (h_debug : kd ≠ .debug) (h_answer : kd ≠ .answer) (h_counter : kd ≠ .counter) (hs : s0.same kd s) :
    SameR kd s0 (execGaugeChallenge s) := by
  unfold execGaugeChallenge
  try dsimp only
  repeat' (first | with_reducible (first | assumption | apply SameR.next | apply SameR.ite | apply SameO.none | apply SameO.some_id | apply SameO.some | apply SameO.ite | apply State.gaugeChallenge_same | apply State.answer_same | apply State.answerData_same) | split)

theorem State.gaugeLock_same {kd : StateKind} {s0 : State} {s : State} (hs : s0.same kd s) :
    s0.same kd (State.gaugeLock s) := by
  unfold State.gaugeLock
  try dsimp only
  repeat' (first | with_reducible (first | assumption | intro s x _ | intro s _ | intro x | apply State.same_foldl | apply State.same_foldl_fst | apply State.set_same | apply State.lower_same))

theorem State.gaugeGo_same {kd : StateKind} {s0 : State} {s : State} (h_log : kd ≠ .log) (h_debug : kd ≠ .debug) (hs : s0.same kd s) :
    s0.same kd (State.gaugeGo s) := by
  unfold State.gaugeGo
  try dsimp only
  repeat' (first | with_reducible (first | assumption | apply State.same_ite_fst | apply State.same_ite | apply State.set_same | apply State.raise_same | apply State.logEvent_same) | (simp only [State.same_mk]; refine State.same_upd_gau ?_ ?_))

theorem State.writeGauCmd_same {kd : StateKind} {s0 : State} {s : State} {v : Nat} (h_log : kd ≠ .log) (h_debug : kd ≠ .debug) (hs : s0.same kd s) :
    s0.same kd (State.writeGauCmd s v) := by
  unfold State.writeGauCmd
  try dsimp only
  repeat' (first | with_reducible (first | assumption | apply State.same_ite_fst | apply State.same_ite | apply State.gaugeLock_same | apply State.gaugeGo_same | apply State.raise_same))

theorem execGaugeUnlock_same {kd : StateKind} {s0 : State} {s : State} (h_log : kd ≠ .log) (h_debug : kd ≠ .debug) (h_answer : kd ≠ .answer) (hs : s0.same kd s) :
    SameR kd s0 (execGaugeUnlock s) := by
  unfold execGaugeUnlock
  try dsimp only
  repeat' (first | with_reducible (first | assumption | intro s x _ | intro s _ | intro x | apply SameR.next | apply SameR.ite | apply State.writeGauCmd_same | apply State.access_same))

theorem execRelock_same {kd : StateKind} {s0 : State} {s : State} (h_log : kd ≠ .log) (h_debug : kd ≠ .debug) (h_answer : kd ≠ .answer) (hs : s0.same kd s) :
    SameR kd s0 (execRelock s) := by
  unfold execRelock
  try dsimp only
  repeat' (first | with_reducible (first | assumption | intro s x _ | intro s _ | intro x | apply SameR.next | apply SameR.ite | apply State.writeGauCmd_same | apply State.access_same))

theorem execGaugeExpiry_same {kd : StateKind} {s0 : State} {s : State} (hs : s0.same kd s) :
    SameR kd s0 (execGaugeExpiry s) := by
  unfold execGaugeExpiry
  try dsimp only
  repeat' (first | with_reducible (first | assumption | apply SameR.next | apply SameR.ite | apply State.same_ite_fst | apply State.same_ite | apply State.gaugeLock_same))

theorem State.writeGauge_same {kd : StateKind} {s0 : State} {s : State} {i : Nat} {v : Nat} (hs : s0.same kd s) :
    s0.same kd (State.writeGauge s i v) := by
  unfold State.writeGauge
  try dsimp only
  repeat' (first | with_reducible (first | assumption | apply State.same_ite_fst | apply State.same_ite | apply State.raise_same | apply State.wrAll_same) | split)

theorem execGaugeSelect_same {kd : StateKind} {s0 : State} {i : Fin 48} {v : Word} {s : State} (h_answer : kd ≠ .answer) (hs : s0.same kd s) :
    SameR kd s0 (execGaugeSelect i v s) := by
  unfold execGaugeSelect
  try dsimp only
  repeat' (first | with_reducible (first | assumption | intro s x _ | intro s _ | intro x | apply SameR.next | apply SameR.ite | apply State.writeGauge_same | apply State.access_same))

theorem State.gaugeCycle_same {kd : StateKind} {s0 : State} {s : State} (h_debug : kd ≠ .debug) (h_outputs : kd ≠ .outputs) (hs : s0.same kd s) :
    s0.same kd (State.gaugeCycle s) := by
  unfold State.gaugeCycle
  try dsimp only
  repeat' (first | with_reducible (first | assumption | intro s x _ | intro s _ | intro x | apply State.same_ite_fst | apply State.same_ite | apply State.same_foldl | apply State.same_foldl_fst | apply State.emit_same) | (simp only [State.same_mk]; refine State.same_upd_gau ?_ ?_))

theorem State.tapTakes_same {kd : StateKind} {s0 : State} {s : State} {die : Nat} {code : Nat} {needs : Bool} (h_debug : kd ≠ .debug) (hs : s0.same kd s) :
    s0.same kd (State.tapTakes s die code needs) := by
  unfold State.tapTakes
  try dsimp only
  repeat' (first | with_reducible (first | assumption | apply State.same_ite_fst | apply State.same_ite) | (simp only [State.same_mk]; refine State.same_upd_tap ?_ ?_))

theorem State.tapRow_same {kd : StateKind} {s0 : State} {s : State} {die : Nat} {code : Nat} {needs : Bool} {f : State → State} (h_debug : kd ≠ .debug) (h_answer : kd ≠ .answer) (hs : s0.same kd s) (hf : ∀ s, s0.same kd s → s0.same kd (f s)) :
    s0.same kd (State.tapRow s die code needs f) := by
  unfold State.tapRow
  try dsimp only
  repeat' (first | with_reducible (first | assumption | apply hf | apply State.same_ite_fst | apply State.same_ite | apply State.tapTakes_same | apply State.answer_same))

theorem State.drive_same {kd : StateKind} {s0 : State} {s : State} {die : Nat} {code : Nat} (h_outputs : kd ≠ .outputs) (hs : s0.same kd s) :
    s0.same kd (State.drive s die code) := by
  unfold State.drive
  try dsimp only
  repeat' (first | with_reducible (first | assumption | apply State.emit_same))

theorem execBypass_same {kd : StateKind} {s0 : State} {die : Fin 9} {s : State} (h_debug : kd ≠ .debug) (h_answer : kd ≠ .answer) (hs : s0.same kd s) :
    SameR kd s0 (execBypass die s) := by
  unfold execBypass
  exact SameR.next (State.tapRow_same h_debug h_answer hs (fun _ h => h))

theorem execIdcode_same {kd : StateKind} {s0 : State} {die : Fin 9} {s : State} (h_debug : kd ≠ .debug) (h_answer : kd ≠ .answer) (hs : s0.same kd s) :
    SameR kd s0 (execIdcode die s) := by
  unfold execIdcode
  try dsimp only
  repeat' (first | with_reducible (first | assumption | intro s x _ | intro s _ | intro x | apply SameR.next | apply SameR.ite | apply State.tapRow_same | apply State.answerData_same))

theorem execSamplePreload_same {kd : StateKind} {s0 : State} {die : Fin 9} {captured : List Bool} {shifted : List Bool} {s : State} (h_debug : kd ≠ .debug) (h_answer : kd ≠ .answer) (hs : s0.same kd s) :
    SameR kd s0 (execSamplePreload die captured shifted s) := by
  unfold execSamplePreload
  try dsimp only
  repeat' (first | with_reducible (first | assumption | intro s x _ | intro s _ | intro x | apply SameR.next | apply SameR.ite | apply State.same_ite_fst | apply State.same_ite | apply State.tapRow_same | apply State.answerData_same) | (simp only [State.same_mk]; refine State.same_upd_tap ?_ ?_))

theorem execExtest_same {kd : StateKind} {s0 : State} {die : Fin 9} {s : State} (h_debug : kd ≠ .debug) (h_outputs : kd ≠ .outputs) (h_answer : kd ≠ .answer) (hs : s0.same kd s) :
    SameR kd s0 (execExtest die s) := by
  unfold execExtest
  try dsimp only
  repeat' (first | with_reducible (first | assumption | intro s x _ | intro s _ | intro x | apply SameR.next | apply SameR.ite | apply State.tapRow_same | apply State.drive_same))

theorem execExtestPulse_same {kd : StateKind} {s0 : State} {die : Fin 9} {s : State} (h_debug : kd ≠ .debug) (h_outputs : kd ≠ .outputs) (h_answer : kd ≠ .answer) (hs : s0.same kd s) :
    SameR kd s0 (execExtestPulse die s) := by
  unfold execExtestPulse
  try dsimp only
  repeat' (first | with_reducible (first | assumption | intro s x _ | intro s _ | intro x | apply SameR.next | apply SameR.ite | apply State.tapRow_same | apply State.drive_same))

theorem execExtestTrain_same {kd : StateKind} {s0 : State} {die : Fin 9} {s : State} (h_debug : kd ≠ .debug) (h_outputs : kd ≠ .outputs) (h_answer : kd ≠ .answer) (hs : s0.same kd s) :
    SameR kd s0 (execExtestTrain die s) := by
  unfold execExtestTrain
  try dsimp only
  repeat' (first | with_reducible (first | assumption | intro s x _ | intro s _ | intro x | apply SameR.next | apply SameR.ite | apply State.tapRow_same | apply State.drive_same))

theorem execClamp_same {kd : StateKind} {s0 : State} {die : Fin 9} {s : State} (h_debug : kd ≠ .debug) (h_outputs : kd ≠ .outputs) (h_answer : kd ≠ .answer) (hs : s0.same kd s) :
    SameR kd s0 (execClamp die s) := by
  unfold execClamp
  try dsimp only
  repeat' (first | with_reducible (first | assumption | intro s x _ | intro s _ | intro x | apply SameR.next | apply SameR.ite | apply State.tapRow_same | apply State.drive_same))

theorem execHighz_same {kd : StateKind} {s0 : State} {die : Fin 9} {s : State} (h_debug : kd ≠ .debug) (h_outputs : kd ≠ .outputs) (h_answer : kd ≠ .answer) (hs : s0.same kd s) :
    SameR kd s0 (execHighz die s) := by
  unfold execHighz
  try dsimp only
  repeat' (first | with_reducible (first | assumption | intro s x _ | intro s _ | intro x | apply SameR.next | apply SameR.ite | apply State.tapRow_same | apply State.emit_same))

theorem execStandalone_same {kd : StateKind} {s0 : State} {die : Fin 9} {s : State} (h_debug : kd ≠ .debug) (h_answer : kd ≠ .answer) (hs : s0.same kd s) :
    SameR kd s0 (execStandalone die s) := by
  unfold execStandalone
  exact SameR.next (State.tapRow_same h_debug h_answer hs (fun _ h => h))

theorem execLbresult_same {kd : StateKind} {s0 : State} {die : Fin 9} {errs : List Word} {s : State} (h_debug : kd ≠ .debug) (h_answer : kd ≠ .answer) (hs : s0.same kd s) :
    SameR kd s0 (execLbresult die errs s) := by
  unfold execLbresult
  try dsimp only
  repeat' (first | with_reducible (first | assumption | intro s x _ | intro s _ | intro x | apply SameR.next | apply SameR.ite | apply State.tapRow_same | apply State.answerData_same))

end Sys2Proof.Machine
end

