-- ==== Sys2Proof/Laws/SameEngine.lean ====
section
/-! SUPPORT. The kinds of state that every operation and meaning of Machine/Engine.lean leaves as they are (Laws/Same.lean). -/
set_option maxRecDepth 4000
set_option linter.unusedVariables false
namespace Sys2Proof.Machine

theorem execEngineStart_same {kd : StateKind} {s0 : State} {g : EngId} {entry : Fin 32768} {s : State} (h_engines : kd ≠ .engines) (h_answer : kd ≠ .answer) (hs : s0.same kd s) :
    SameR kd s0 (execEngineStart g entry s) := by
  unfold execEngineStart
  try dsimp only
  repeat' (first | with_reducible (first | assumption | intro s x _ | intro s _ | intro x | apply SameR.next | apply SameR.ite | apply State.access_same | apply State.writeEctrl_same))

theorem execEngineReset_same {kd : StateKind} {s0 : State} {g : EngId} {entry : Fin 32768} {s : State} (h_engines : kd ≠ .engines) (h_answer : kd ≠ .answer) (hs : s0.same kd s) :
    SameR kd s0 (execEngineReset g entry s) := by
  unfold execEngineReset
  try dsimp only
  repeat' (first | with_reducible (first | assumption | intro s x _ | intro s _ | intro x | apply SameR.next | apply SameR.ite | apply State.access_same | apply State.writeEctrl_same))

theorem execEngineResetDone_same {kd : StateKind} {s0 : State} {g : EngId} {s : State} (h_reservations : kd ≠ .reservations) (h_engines : kd ≠ .engines) (hs : s0.same kd s) :
    SameR kd s0 (execEngineResetDone g s) := by
  unfold execEngineResetDone
  try dsimp only
  repeat' (first | with_reducible (first | assumption | apply SameR.next | apply SameR.ite | apply State.rilResetEnd_same))

theorem execEngineResetWedged_same {kd : StateKind} {s0 : State} {g : EngId} {s : State} (h_engines : kd ≠ .engines) (hs : s0.same kd s) :
    SameR kd s0 (execEngineResetWedged g s) := by
  unfold execEngineResetWedged
  try dsimp only
  repeat' (first | with_reducible (first | assumption | apply SameR.next | apply SameR.ite | apply State.same_ite_fst | apply State.same_ite | apply State.setEng_same | apply State.rset_same | apply State.rilFault_same))

theorem State.writePlcmd_same {kd : StateKind} {s0 : State} {s : State} {k : Nat} {v : Nat} (h_programs : kd ≠ .programs) (hs : s0.same kd s) :
    s0.same kd (State.writePlcmd s k v) := by
  unfold State.writePlcmd
  try dsimp only
  repeat' (first | with_reducible (first | assumption | apply State.same_ite_fst | apply State.same_ite | apply State.raise_same | apply State.wrAll_same | apply State.w1c_same) | (simp only [State.same_mk]; refine State.same_upd_loaders ?_ ?_))

theorem execPatchLoad_same {kd : StateKind} {s0 : State} {k : ClusterId} {v : Word} {s : State} (h_programs : kd ≠ .programs) (h_answer : kd ≠ .answer) (hs : s0.same kd s) :
    SameR kd s0 (execPatchLoad k v s) := by
  unfold execPatchLoad
  try dsimp only
  repeat' (first | with_reducible (first | assumption | intro s x _ | intro s _ | intro x | apply SameR.next | apply SameR.ite | apply State.writePlcmd_same | apply State.access_same))

theorem State.patchEnd_same {kd : StateKind} {s0 : State} {s : State} {k : Nat} {err : Bool} (h_programs : kd ≠ .programs) (hs : s0.same kd s) :
    s0.same kd (State.patchEnd s k err) := by
  unfold State.patchEnd
  try dsimp only
  repeat' (first | with_reducible (first | assumption | apply State.same_ite_fst | apply State.same_ite | apply State.raise_same | apply State.lower_same) | (simp only [State.same_mk]; refine State.same_upd_loaders ?_ ?_))

theorem State.patchWords_same {kd : StateKind} {s0 : State} {s : State} {k : Nat} {p : PatchLd} {x3 : Nat} (h_programs : kd ≠ .programs) (h_qdr : kd ≠ .qdr) (h_walkers : kd ≠ .walkers) (h_answer : kd ≠ .answer) (h_counter : kd ≠ .counter) (hs : s0.same kd s) :
    s0.same kd (State.patchWords s k p x3) := by
  revert hs
  induction x3 generalizing s k p with
  | zero =>
    intro hs; unfold State.patchWords; try dsimp only
    repeat' (first | with_reducible (first | assumption | apply State.same_ite_fst | apply State.same_ite | apply State.patchEnd_same | apply State.keepResp_same | apply State.rsvRead_same) | (simp only [State.same_mk]; first | refine State.same_upd_loaders ?_ ?_ | refine State.same_upd_patchRam ?_ ?_) | split)
  | succ n ih =>
    intro hs; unfold State.patchWords; try dsimp only
    repeat' (first | with_reducible (first | assumption | apply State.same_ite_fst | apply State.same_ite | apply ih | apply State.patchEnd_same | apply State.keepResp_same | apply State.rsvRead_same) | (simp only [State.same_mk]; first | refine State.same_upd_loaders ?_ ?_ | refine State.same_upd_patchRam ?_ ?_) | split)

theorem execPatchLoadDone_same {kd : StateKind} {s0 : State} {k : ClusterId} {s : State} (h_programs : kd ≠ .programs) (h_qdr : kd ≠ .qdr) (h_walkers : kd ≠ .walkers) (h_answer : kd ≠ .answer) (h_counter : kd ≠ .counter) (hs : s0.same kd s) :
    SameR kd s0 (execPatchLoadDone k s) := by
  unfold execPatchLoadDone
  try dsimp only
  repeat' (first | with_reducible (first | assumption | apply SameR.next | apply SameR.ite | apply SameO.none | apply SameO.some_id | apply SameO.some | apply SameO.ite | apply State.patchWords_same) | split)

theorem execWatchdogExpiry_same {kd : StateKind} {s0 : State} {g : EngId} {s : State} (h_reservations : kd ≠ .reservations) (h_engines : kd ≠ .engines) (h_debug : kd ≠ .debug) (h_outputs : kd ≠ .outputs) (h_counter : kd ≠ .counter) (hs : s0.same kd s) :
    SameR kd s0 (execWatchdogExpiry g s) := by
  unfold execWatchdogExpiry
  try dsimp only
  repeat' (first | with_reducible (first | assumption | apply SameR.next | apply SameR.ite | apply State.same_ite_fst | apply State.same_ite | apply State.rilExpire_same | apply State.rilCycles_same))

theorem execClusterClockStop_same {kd : StateKind} {s0 : State} {k : ClusterId} {s : State} (hs : s0.same kd s) :
    SameR kd s0 (execClusterClockStop k s) := by
  unfold execClusterClockStop
  try dsimp only
  repeat' (first | with_reducible (first | assumption | apply SameR.next | apply SameR.ite | apply State.same_ite_fst | apply State.same_ite | apply State.raise_same | apply State.setBitOf_same))

theorem execXyExternalAccess_same {kd : StateKind} {s0 : State} {g : EngId} {forced : Bool} {s : State} (h_reservations : kd ≠ .reservations) (h_engines : kd ≠ .engines) (h_debug : kd ≠ .debug) (h_outputs : kd ≠ .outputs) (h_counter : kd ≠ .counter) (hs : s0.same kd s) :
    SameR kd s0 (execXyExternalAccess g forced s) := by
  unfold execXyExternalAccess
  try dsimp only
  repeat' (first | with_reducible (first | assumption | apply SameR.next | apply SameR.ite | apply State.same_ite_fst | apply State.same_ite | apply State.count_same | apply State.wakeCluster_same | apply State.rilExpire_same | apply State.rilCycles_same | apply State.rilBreak_same))

theorem execRillNop_same {kd : StateKind} {s0 : State} {g : EngId} {held : Nat} {s : State} (h_memory : kd ≠ .memory) (h_reservations : kd ≠ .reservations) (h_engines : kd ≠ .engines) (h_requests : kd ≠ .requests) (h_shares : kd ≠ .shares) (h_hbm : kd ≠ .hbm) (h_qdr : kd ≠ .qdr) (h_walkers : kd ≠ .walkers) (h_lanes : kd ≠ .lanes) (h_debug : kd ≠ .debug) (h_outputs : kd ≠ .outputs) (h_answer : kd ≠ .answer) (h_counter : kd ≠ .counter) (hs : s0.same kd s) :
    SameR kd s0 (execRillNop g held s) := by
  unfold execRillNop
  try dsimp only
  repeat' (first | with_reducible (first | assumption | apply SameR.next | apply SameR.ite | apply State.rilRow_same))

theorem execCmac_same {kd : StateKind} {s0 : State} {g : EngId} {held : Nat} {s : State} (h_memory : kd ≠ .memory) (h_reservations : kd ≠ .reservations) (h_engines : kd ≠ .engines) (h_requests : kd ≠ .requests) (h_shares : kd ≠ .shares) (h_hbm : kd ≠ .hbm) (h_qdr : kd ≠ .qdr) (h_walkers : kd ≠ .walkers) (h_lanes : kd ≠ .lanes) (h_debug : kd ≠ .debug) (h_outputs : kd ≠ .outputs) (h_answer : kd ≠ .answer) (h_counter : kd ≠ .counter) (hs : s0.same kd s) :
    SameR kd s0 (execCmac g held s) := by
  unfold execCmac
  try dsimp only
  repeat' (first | with_reducible (first | assumption | apply SameR.next | apply SameR.ite | apply State.rilRow_same))

theorem execDmac_same {kd : StateKind} {s0 : State} {g : EngId} {held : Nat} {s : State} (h_memory : kd ≠ .memory) (h_reservations : kd ≠ .reservations) (h_engines : kd ≠ .engines) (h_requests : kd ≠ .requests) (h_shares : kd ≠ .shares) (h_hbm : kd ≠ .hbm) (h_qdr : kd ≠ .qdr) (h_walkers : kd ≠ .walkers) (h_lanes : kd ≠ .lanes) (h_debug : kd ≠ .debug) (h_outputs : kd ≠ .outputs) (h_answer : kd ≠ .answer) (h_counter : kd ≠ .counter) (hs : s0.same kd s) :
    SameR kd s0 (execDmac g held s) := by
  unfold execDmac
  try dsimp only
  repeat' (first | with_reducible (first | assumption | apply SameR.next | apply SameR.ite | apply State.rilRow_same))

theorem execBfly_same {kd : StateKind} {s0 : State} {g : EngId} {held : Nat} {s : State} (h_memory : kd ≠ .memory) (h_reservations : kd ≠ .reservations) (h_engines : kd ≠ .engines) (h_requests : kd ≠ .requests) (h_shares : kd ≠ .shares) (h_hbm : kd ≠ .hbm) (h_qdr : kd ≠ .qdr) (h_walkers : kd ≠ .walkers) (h_lanes : kd ≠ .lanes) (h_debug : kd ≠ .debug) (h_outputs : kd ≠ .outputs) (h_answer : kd ≠ .answer) (h_counter : kd ≠ .counter) (hs : s0.same kd s) :
    SameR kd s0 (execBfly g held s) := by
  unfold execBfly
  try dsimp only
  repeat' (first | with_reducible (first | assumption | apply SameR.next | apply SameR.ite | apply State.rilRow_same))

theorem execAop_same {kd : StateKind} {s0 : State} {g : EngId} {held : Nat} {s : State} (h_memory : kd ≠ .memory) (h_reservations : kd ≠ .reservations) (h_engines : kd ≠ .engines) (h_requests : kd ≠ .requests) (h_shares : kd ≠ .shares) (h_hbm : kd ≠ .hbm) (h_qdr : kd ≠ .qdr) (h_walkers : kd ≠ .walkers) (h_lanes : kd ≠ .lanes) (h_debug : kd ≠ .debug) (h_outputs : kd ≠ .outputs) (h_answer : kd ≠ .answer) (h_counter : kd ≠ .counter) (hs : s0.same kd s) :
    SameR kd s0 (execAop g held s) := by
  unfold execAop
  try dsimp only
  repeat' (first | with_reducible (first | assumption | apply SameR.next | apply SameR.ite | apply State.rilRow_same))

theorem execAst_same {kd : StateKind} {s0 : State} {g : EngId} {held : Nat} {s : State} (h_memory : kd ≠ .memory) (h_reservations : kd ≠ .reservations) (h_engines : kd ≠ .engines) (h_requests : kd ≠ .requests) (h_shares : kd ≠ .shares) (h_hbm : kd ≠ .hbm) (h_qdr : kd ≠ .qdr) (h_walkers : kd ≠ .walkers) (h_lanes : kd ≠ .lanes) (h_debug : kd ≠ .debug) (h_outputs : kd ≠ .outputs) (h_answer : kd ≠ .answer) (h_counter : kd ≠ .counter) (hs : s0.same kd s) :
    SameR kd s0 (execAst g held s) := by
  unfold execAst
  try dsimp only
  repeat' (first | with_reducible (first | assumption | apply SameR.next | apply SameR.ite | apply State.rilRow_same))

theorem execCalu_same {kd : StateKind} {s0 : State} {g : EngId} {held : Nat} {s : State} (h_memory : kd ≠ .memory) (h_reservations : kd ≠ .reservations) (h_engines : kd ≠ .engines) (h_requests : kd ≠ .requests) (h_shares : kd ≠ .shares) (h_hbm : kd ≠ .hbm) (h_qdr : kd ≠ .qdr) (h_walkers : kd ≠ .walkers) (h_lanes : kd ≠ .lanes) (h_debug : kd ≠ .debug) (h_outputs : kd ≠ .outputs) (h_answer : kd ≠ .answer) (h_counter : kd ≠ .counter) (hs : s0.same kd s) :
    SameR kd s0 (execCalu g held s) := by
  unfold execCalu
  try dsimp only
  repeat' (first | with_reducible (first | assumption | apply SameR.next | apply SameR.ite | apply State.rilRow_same))

theorem execRalu_same {kd : StateKind} {s0 : State} {g : EngId} {held : Nat} {s : State} (h_memory : kd ≠ .memory) (h_reservations : kd ≠ .reservations) (h_engines : kd ≠ .engines) (h_requests : kd ≠ .requests) (h_shares : kd ≠ .shares) (h_hbm : kd ≠ .hbm) (h_qdr : kd ≠ .qdr) (h_walkers : kd ≠ .walkers) (h_lanes : kd ≠ .lanes) (h_debug : kd ≠ .debug) (h_outputs : kd ≠ .outputs) (h_answer : kd ≠ .answer) (h_counter : kd ≠ .counter) (hs : s0.same kd s) :
    SameR kd s0 (execRalu g held s) := by
  unfold execRalu
  try dsimp only
  repeat' (first | with_reducible (first | assumption | apply SameR.next | apply SameR.ite | apply State.rilRow_same))

theorem execAcs_same {kd : StateKind} {s0 : State} {g : EngId} {held : Nat} {s : State} (h_memory : kd ≠ .memory) (h_reservations : kd ≠ .reservations) (h_engines : kd ≠ .engines) (h_requests : kd ≠ .requests) (h_shares : kd ≠ .shares) (h_hbm : kd ≠ .hbm) (h_qdr : kd ≠ .qdr) (h_walkers : kd ≠ .walkers) (h_lanes : kd ≠ .lanes) (h_debug : kd ≠ .debug) (h_outputs : kd ≠ .outputs) (h_answer : kd ≠ .answer) (h_counter : kd ≠ .counter) (hs : s0.same kd s) :
    SameR kd s0 (execAcs g held s) := by
  unfold execAcs
  try dsimp only
  repeat' (first | with_reducible (first | assumption | apply SameR.next | apply SameR.ite | apply State.rilRow_same))

theorem execBexp_same {kd : StateKind} {s0 : State} {g : EngId} {held : Nat} {s : State} (h_memory : kd ≠ .memory) (h_reservations : kd ≠ .reservations) (h_engines : kd ≠ .engines) (h_requests : kd ≠ .requests) (h_shares : kd ≠ .shares) (h_hbm : kd ≠ .hbm) (h_qdr : kd ≠ .qdr) (h_walkers : kd ≠ .walkers) (h_lanes : kd ≠ .lanes) (h_debug : kd ≠ .debug) (h_outputs : kd ≠ .outputs) (h_answer : kd ≠ .answer) (h_counter : kd ≠ .counter) (hs : s0.same kd s) :
    SameR kd s0 (execBexp g held s) := by
  unfold execBexp
  try dsimp only
  repeat' (first | with_reducible (first | assumption | apply SameR.next | apply SameR.ite | apply State.rilRow_same))

theorem execScale_same {kd : StateKind} {s0 : State} {g : EngId} {held : Nat} {s : State} (h_memory : kd ≠ .memory) (h_reservations : kd ≠ .reservations) (h_engines : kd ≠ .engines) (h_requests : kd ≠ .requests) (h_shares : kd ≠ .shares) (h_hbm : kd ≠ .hbm) (h_qdr : kd ≠ .qdr) (h_walkers : kd ≠ .walkers) (h_lanes : kd ≠ .lanes) (h_debug : kd ≠ .debug) (h_outputs : kd ≠ .outputs) (h_answer : kd ≠ .answer) (h_counter : kd ≠ .counter) (hs : s0.same kd s) :
    SameR kd s0 (execScale g held s) := by
  unfold execScale
  try dsimp only
  repeat' (first | with_reducible (first | assumption | apply SameR.next | apply SameR.ite | apply State.rilRow_same))

theorem execLdi_same {kd : StateKind} {s0 : State} {g : EngId} {held : Nat} {s : State} (h_memory : kd ≠ .memory) (h_reservations : kd ≠ .reservations) (h_engines : kd ≠ .engines) (h_requests : kd ≠ .requests) (h_shares : kd ≠ .shares) (h_hbm : kd ≠ .hbm) (h_qdr : kd ≠ .qdr) (h_walkers : kd ≠ .walkers) (h_lanes : kd ≠ .lanes) (h_debug : kd ≠ .debug) (h_outputs : kd ≠ .outputs) (h_answer : kd ≠ .answer) (h_counter : kd ≠ .counter) (hs : s0.same kd s) :
    SameR kd s0 (execLdi g held s) := by
  unfold execLdi
  try dsimp only
  repeat' (first | with_reducible (first | assumption | apply SameR.next | apply SameR.ite | apply State.rilRow_same))

theorem execMovr_same {kd : StateKind} {s0 : State} {g : EngId} {held : Nat} {s : State} (h_memory : kd ≠ .memory) (h_reservations : kd ≠ .reservations) (h_engines : kd ≠ .engines) (h_requests : kd ≠ .requests) (h_shares : kd ≠ .shares) (h_hbm : kd ≠ .hbm) (h_qdr : kd ≠ .qdr) (h_walkers : kd ≠ .walkers) (h_lanes : kd ≠ .lanes) (h_debug : kd ≠ .debug) (h_outputs : kd ≠ .outputs) (h_answer : kd ≠ .answer) (h_counter : kd ≠ .counter) (hs : s0.same kd s) :
    SameR kd s0 (execMovr g held s) := by
  unfold execMovr
  try dsimp only
  repeat' (first | with_reducible (first | assumption | apply SameR.next | apply SameR.ite | apply State.rilRow_same))

theorem execStb_same {kd : StateKind} {s0 : State} {g : EngId} {held : Nat} {s : State} (h_memory : kd ≠ .memory) (h_reservations : kd ≠ .reservations) (h_engines : kd ≠ .engines) (h_requests : kd ≠ .requests) (h_shares : kd ≠ .shares) (h_hbm : kd ≠ .hbm) (h_qdr : kd ≠ .qdr) (h_walkers : kd ≠ .walkers) (h_lanes : kd ≠ .lanes) (h_debug : kd ≠ .debug) (h_outputs : kd ≠ .outputs) (h_answer : kd ≠ .answer) (h_counter : kd ≠ .counter) (hs : s0.same kd s) :
    SameR kd s0 (execStb g held s) := by
  unfold execStb
  try dsimp only
  repeat' (first | with_reducible (first | assumption | apply SameR.next | apply SameR.ite | apply State.rilRow_same))

theorem execBr_same {kd : StateKind} {s0 : State} {g : EngId} {held : Nat} {s : State} (h_memory : kd ≠ .memory) (h_reservations : kd ≠ .reservations) (h_engines : kd ≠ .engines) (h_requests : kd ≠ .requests) (h_shares : kd ≠ .shares) (h_hbm : kd ≠ .hbm) (h_qdr : kd ≠ .qdr) (h_walkers : kd ≠ .walkers) (h_lanes : kd ≠ .lanes) (h_debug : kd ≠ .debug) (h_outputs : kd ≠ .outputs) (h_answer : kd ≠ .answer) (h_counter : kd ≠ .counter) (hs : s0.same kd s) :
    SameR kd s0 (execBr g held s) := by
  unfold execBr
  try dsimp only
  repeat' (first | with_reducible (first | assumption | apply SameR.next | apply SameR.ite | apply State.rilRow_same))

theorem execCall_same {kd : StateKind} {s0 : State} {g : EngId} {held : Nat} {s : State} (h_memory : kd ≠ .memory) (h_reservations : kd ≠ .reservations) (h_engines : kd ≠ .engines) (h_requests : kd ≠ .requests) (h_shares : kd ≠ .shares) (h_hbm : kd ≠ .hbm) (h_qdr : kd ≠ .qdr) (h_walkers : kd ≠ .walkers) (h_lanes : kd ≠ .lanes) (h_debug : kd ≠ .debug) (h_outputs : kd ≠ .outputs) (h_answer : kd ≠ .answer) (h_counter : kd ≠ .counter) (hs : s0.same kd s) :
    SameR kd s0 (execCall g held s) := by
  unfold execCall
  try dsimp only
  repeat' (first | with_reducible (first | assumption | apply SameR.next | apply SameR.ite | apply State.rilRow_same))

theorem execJmpr_same {kd : StateKind} {s0 : State} {g : EngId} {held : Nat} {s : State} (h_memory : kd ≠ .memory) (h_reservations : kd ≠ .reservations) (h_engines : kd ≠ .engines) (h_requests : kd ≠ .requests) (h_shares : kd ≠ .shares) (h_hbm : kd ≠ .hbm) (h_qdr : kd ≠ .qdr) (h_walkers : kd ≠ .walkers) (h_lanes : kd ≠ .lanes) (h_debug : kd ≠ .debug) (h_outputs : kd ≠ .outputs) (h_answer : kd ≠ .answer) (h_counter : kd ≠ .counter) (hs : s0.same kd s) :
    SameR kd s0 (execJmpr g held s) := by
  unfold execJmpr
  try dsimp only
  repeat' (first | with_reducible (first | assumption | apply SameR.next | apply SameR.ite | apply State.rilRow_same))

theorem execDo_same {kd : StateKind} {s0 : State} {g : EngId} {held : Nat} {s : State} (h_memory : kd ≠ .memory) (h_reservations : kd ≠ .reservations) (h_engines : kd ≠ .engines) (h_requests : kd ≠ .requests) (h_shares : kd ≠ .shares) (h_hbm : kd ≠ .hbm) (h_qdr : kd ≠ .qdr) (h_walkers : kd ≠ .walkers) (h_lanes : kd ≠ .lanes) (h_debug : kd ≠ .debug) (h_outputs : kd ≠ .outputs) (h_answer : kd ≠ .answer) (h_counter : kd ≠ .counter) (hs : s0.same kd s) :
    SameR kd s0 (execDo g held s) := by
  unfold execDo
  try dsimp only
  repeat' (first | with_reducible (first | assumption | apply SameR.next | apply SameR.ite | apply State.rilRow_same))

theorem execRillStop_same {kd : StateKind} {s0 : State} {g : EngId} {held : Nat} {s : State} (h_memory : kd ≠ .memory) (h_reservations : kd ≠ .reservations) (h_engines : kd ≠ .engines) (h_requests : kd ≠ .requests) (h_shares : kd ≠ .shares) (h_hbm : kd ≠ .hbm) (h_qdr : kd ≠ .qdr) (h_walkers : kd ≠ .walkers) (h_lanes : kd ≠ .lanes) (h_debug : kd ≠ .debug) (h_outputs : kd ≠ .outputs) (h_answer : kd ≠ .answer) (h_counter : kd ≠ .counter) (hs : s0.same kd s) :
    SameR kd s0 (execRillStop g held s) := by
  unfold execRillStop
  try dsimp only
  repeat' (first | with_reducible (first | assumption | apply SameR.next | apply SameR.ite | apply State.rilRow_same))

theorem execWdr_same {kd : StateKind} {s0 : State} {g : EngId} {held : Nat} {s : State} (h_memory : kd ≠ .memory) (h_reservations : kd ≠ .reservations) (h_engines : kd ≠ .engines) (h_requests : kd ≠ .requests) (h_shares : kd ≠ .shares) (h_hbm : kd ≠ .hbm) (h_qdr : kd ≠ .qdr) (h_walkers : kd ≠ .walkers) (h_lanes : kd ≠ .lanes) (h_debug : kd ≠ .debug) (h_outputs : kd ≠ .outputs) (h_answer : kd ≠ .answer) (h_counter : kd ≠ .counter) (hs : s0.same kd s) :
    SameR kd s0 (execWdr g held s) := by
  unfold execWdr
  try dsimp only
  repeat' (first | with_reducible (first | assumption | apply SameR.next | apply SameR.ite | apply State.rilRow_same))

theorem execRillLoad_same {kd : StateKind} {s0 : State} {g : EngId} {held : Nat} {s : State} (h_memory : kd ≠ .memory) (h_reservations : kd ≠ .reservations) (h_engines : kd ≠ .engines) (h_requests : kd ≠ .requests) (h_shares : kd ≠ .shares) (h_hbm : kd ≠ .hbm) (h_qdr : kd ≠ .qdr) (h_walkers : kd ≠ .walkers) (h_lanes : kd ≠ .lanes) (h_debug : kd ≠ .debug) (h_outputs : kd ≠ .outputs) (h_answer : kd ≠ .answer) (h_counter : kd ≠ .counter) (hs : s0.same kd s) :
    SameR kd s0 (execRillLoad g held s) := by
  unfold execRillLoad
  try dsimp only
  repeat' (first | with_reducible (first | assumption | apply SameR.next | apply SameR.ite | apply State.rilRow_same))

theorem execStore_same {kd : StateKind} {s0 : State} {g : EngId} {held : Nat} {s : State} (h_memory : kd ≠ .memory) (h_reservations : kd ≠ .reservations) (h_engines : kd ≠ .engines) (h_requests : kd ≠ .requests) (h_shares : kd ≠ .shares) (h_hbm : kd ≠ .hbm) (h_qdr : kd ≠ .qdr) (h_walkers : kd ≠ .walkers) (h_lanes : kd ≠ .lanes) (h_debug : kd ≠ .debug) (h_outputs : kd ≠ .outputs) (h_answer : kd ≠ .answer) (h_counter : kd ≠ .counter) (hs : s0.same kd s) :
    SameR kd s0 (execStore g held s) := by
  unfold execStore
  try dsimp only
  repeat' (first | with_reducible (first | assumption | apply SameR.next | apply SameR.ite | apply State.rilRow_same))

theorem execRillLl_same {kd : StateKind} {s0 : State} {g : EngId} {held : Nat} {s : State} (h_memory : kd ≠ .memory) (h_reservations : kd ≠ .reservations) (h_engines : kd ≠ .engines) (h_requests : kd ≠ .requests) (h_shares : kd ≠ .shares) (h_hbm : kd ≠ .hbm) (h_qdr : kd ≠ .qdr) (h_walkers : kd ≠ .walkers) (h_lanes : kd ≠ .lanes) (h_debug : kd ≠ .debug) (h_outputs : kd ≠ .outputs) (h_answer : kd ≠ .answer) (h_counter : kd ≠ .counter) (hs : s0.same kd s) :
    SameR kd s0 (execRillLl g held s) := by
  unfold execRillLl
  try dsimp only
  repeat' (first | with_reducible (first | assumption | apply SameR.next | apply SameR.ite | apply State.rilRow_same))

theorem execRillSc_same {kd : StateKind} {s0 : State} {g : EngId} {held : Nat} {s : State} (h_memory : kd ≠ .memory) (h_reservations : kd ≠ .reservations) (h_engines : kd ≠ .engines) (h_requests : kd ≠ .requests) (h_shares : kd ≠ .shares) (h_hbm : kd ≠ .hbm) (h_qdr : kd ≠ .qdr) (h_walkers : kd ≠ .walkers) (h_lanes : kd ≠ .lanes) (h_debug : kd ≠ .debug) (h_outputs : kd ≠ .outputs) (h_answer : kd ≠ .answer) (h_counter : kd ≠ .counter) (hs : s0.same kd s) :
    SameR kd s0 (execRillSc g held s) := by
  unfold execRillSc
  try dsimp only
  repeat' (first | with_reducible (first | assumption | apply SameR.next | apply SameR.ite | apply State.rilRow_same))

theorem execRillAmo_same {kd : StateKind} {s0 : State} {g : EngId} {held : Nat} {s : State} (h_memory : kd ≠ .memory) (h_reservations : kd ≠ .reservations) (h_engines : kd ≠ .engines) (h_requests : kd ≠ .requests) (h_shares : kd ≠ .shares) (h_hbm : kd ≠ .hbm) (h_qdr : kd ≠ .qdr) (h_walkers : kd ≠ .walkers) (h_lanes : kd ≠ .lanes) (h_debug : kd ≠ .debug) (h_outputs : kd ≠ .outputs) (h_answer : kd ≠ .answer) (h_counter : kd ≠ .counter) (hs : s0.same kd s) :
    SameR kd s0 (execRillAmo g held s) := by
  unfold execRillAmo
  try dsimp only
  repeat' (first | with_reducible (first | assumption | apply SameR.next | apply SameR.ite | apply State.rilRow_same))

theorem execBlk_same {kd : StateKind} {s0 : State} {g : EngId} {held : Nat} {s : State} (h_memory : kd ≠ .memory) (h_reservations : kd ≠ .reservations) (h_engines : kd ≠ .engines) (h_requests : kd ≠ .requests) (h_shares : kd ≠ .shares) (h_hbm : kd ≠ .hbm) (h_qdr : kd ≠ .qdr) (h_walkers : kd ≠ .walkers) (h_lanes : kd ≠ .lanes) (h_debug : kd ≠ .debug) (h_outputs : kd ≠ .outputs) (h_answer : kd ≠ .answer) (h_counter : kd ≠ .counter) (hs : s0.same kd s) :
    SameR kd s0 (execBlk g held s) := by
  unfold execBlk
  try dsimp only
  repeat' (first | with_reducible (first | assumption | apply SameR.next | apply SameR.ite | apply State.rilRow_same))

theorem execRillFlush_same {kd : StateKind} {s0 : State} {g : EngId} {held : Nat} {s : State} (h_memory : kd ≠ .memory) (h_reservations : kd ≠ .reservations) (h_engines : kd ≠ .engines) (h_requests : kd ≠ .requests) (h_shares : kd ≠ .shares) (h_hbm : kd ≠ .hbm) (h_qdr : kd ≠ .qdr) (h_walkers : kd ≠ .walkers) (h_lanes : kd ≠ .lanes) (h_debug : kd ≠ .debug) (h_outputs : kd ≠ .outputs) (h_answer : kd ≠ .answer) (h_counter : kd ≠ .counter) (hs : s0.same kd s) :
    SameR kd s0 (execRillFlush g held s) := by
  unfold execRillFlush
  try dsimp only
  repeat' (first | with_reducible (first | assumption | apply SameR.next | apply SameR.ite | apply State.rilRow_same))

theorem execBwait_same {kd : StateKind} {s0 : State} {g : EngId} {held : Nat} {s : State} (h_memory : kd ≠ .memory) (h_reservations : kd ≠ .reservations) (h_engines : kd ≠ .engines) (h_requests : kd ≠ .requests) (h_shares : kd ≠ .shares) (h_hbm : kd ≠ .hbm) (h_qdr : kd ≠ .qdr) (h_walkers : kd ≠ .walkers) (h_lanes : kd ≠ .lanes) (h_debug : kd ≠ .debug) (h_outputs : kd ≠ .outputs) (h_answer : kd ≠ .answer) (h_counter : kd ≠ .counter) (hs : s0.same kd s) :
    SameR kd s0 (execBwait g held s) := by
  unfold execBwait
  try dsimp only
  repeat' (first | with_reducible (first | assumption | apply SameR.next | apply SameR.ite | apply State.rilRow_same))

theorem State.putXy_same {kd : StateKind} {s0 : State} {s : State} {g : Nat} {a : Nat} {x3 : Nat} {x4 : List Byte} (h_memory : kd ≠ .memory) (h_reservations : kd ≠ .reservations) (h_walkers : kd ≠ .walkers) (hs : s0.same kd s) :
    s0.same kd (State.putXy s g a x3 x4) := by
  revert hs
  induction x3 generalizing s g a x4 with
  | zero =>
    intro hs; unfold State.putXy; try dsimp only
    repeat' (first | with_reducible (first | assumption | apply SameO.none | apply SameO.some_id | apply SameO.some | apply SameO.ite | apply State.writeWord_same | refine State.same_of_fst (by assumption) ?_) | split)
  | succ n ih =>
    intro hs; unfold State.putXy; try dsimp only
    repeat' (first | with_reducible (first | assumption | apply SameO.none | apply SameO.some_id | apply SameO.some | apply SameO.ite | apply ih | apply State.writeWord_same | refine State.same_of_fst (by assumption) ?_) | split)

theorem State.readLine_same {kd : StateKind} {s0 : State} {s : State} {src : Nat} {w : Nat} (h_walkers : kd ≠ .walkers) (hs : s0.same kd s) :
    s0.same kd (State.readLine s src w).1 := by
  unfold State.readLine
  try dsimp only
  repeat' (first | with_reducible (first | assumption | apply State.readWords_same) | dsimp only)

theorem State.putLine_same {kd : StateKind} {s0 : State} {s : State} {g : Nat} {a : Nat} {l : List Byte} (h_memory : kd ≠ .memory) (h_reservations : kd ≠ .reservations) (h_walkers : kd ≠ .walkers) (hs : s0.same kd s) :
    s0.same kd (State.putLine s g a l) := by
  unfold State.putLine
  try dsimp only
  repeat' (first | with_reducible (first | assumption | apply State.putXy_same))

theorem State.blockOut_same {kd : StateKind} {s0 : State} {s : State} {g : Nat} {xy : Nat} {i : Nat} {x : Nat} (h_memory : kd ≠ .memory) (h_reservations : kd ≠ .reservations) (h_walkers : kd ≠ .walkers) (h_outputs : kd ≠ .outputs) (h_answer : kd ≠ .answer) (h_counter : kd ≠ .counter) (hs : s0.same kd s) :
    s0.same kd (State.blockOut s g xy i x).1 := by
  unfold State.blockOut
  try dsimp only
  repeat' (first | with_reducible (first | assumption | apply SameO.none | apply SameO.some_id | apply SameO.some | apply SameO.ite | apply State.readLine_same | apply State.eccCount_same | apply State.used_same | apply State.keepResp_same | apply State.rsvWrites_same | refine State.same_of_fst (by assumption) ?_) | split | dsimp only)

theorem State.blockIn_same {kd : StateKind} {s0 : State} {s : State} {g : Nat} {xy : Nat} {i : Nat} {x : Nat} (h_memory : kd ≠ .memory) (h_reservations : kd ≠ .reservations) (h_qdr : kd ≠ .qdr) (h_walkers : kd ≠ .walkers) (h_answer : kd ≠ .answer) (h_counter : kd ≠ .counter) (hs : s0.same kd s) :
    s0.same kd (State.blockIn s g xy i x).1 := by
  unfold State.blockIn
  try dsimp only
  repeat' (first | with_reducible (first | assumption | apply State.same_ite_fst | apply State.same_ite | apply State.putLine_same | apply State.keepResp_same | apply State.rsvRead_same) | dsimp only)

theorem State.doBlock_same {kd : StateKind} {s0 : State} {s : State} {g : Nat} {b : RilBlk} (h_memory : kd ≠ .memory) (h_reservations : kd ≠ .reservations) (h_qdr : kd ≠ .qdr) (h_walkers : kd ≠ .walkers) (h_outputs : kd ≠ .outputs) (h_answer : kd ≠ .answer) (h_counter : kd ≠ .counter) (hs : s0.same kd s) :
    s0.same kd (State.doBlock s g b).1 := by
  unfold State.doBlock
  try dsimp only
  repeat' (first | with_reducible (first | assumption | apply State.same_ite_fst | apply State.same_ite | apply SameO.none | apply SameO.some_id | apply SameO.some | apply SameO.ite | apply State.blockOut_same | apply State.blockIn_same | refine State.same_of_fst (by assumption) ?_) | split | dsimp only)

theorem execBlockTransferDone_same {kd : StateKind} {s0 : State} {g : EngId} {s : State} (h_memory : kd ≠ .memory) (h_reservations : kd ≠ .reservations) (h_engines : kd ≠ .engines) (h_requests : kd ≠ .requests) (h_shares : kd ≠ .shares) (h_hbm : kd ≠ .hbm) (h_qdr : kd ≠ .qdr) (h_walkers : kd ≠ .walkers) (h_lanes : kd ≠ .lanes) (h_debug : kd ≠ .debug) (h_outputs : kd ≠ .outputs) (h_answer : kd ≠ .answer) (h_counter : kd ≠ .counter) (hs : s0.same kd s) :
    SameR kd s0 (execBlockTransferDone g s) := by
  unfold execBlockTransferDone
  try dsimp only
  repeat' (first | with_reducible (first | assumption | apply SameR.next | apply SameR.ite | apply State.same_ite_fst | apply State.same_ite | apply State.doBlock_same | apply State.setEng_same | apply State.rilFault_same | apply State.rilAfter_same | refine State.same_of_fst (by assumption) ?_) | split)

end Sys2Proof.Machine
end

