-- ==== Sys2Proof/Laws/SameTime.lean ====
section
/-! SUPPORT. The kinds of state that every operation and meaning of Machine/Time.lean leaves as they are (Laws/Same.lean). -/
set_option maxRecDepth 4000
set_option linter.unusedVariables false
namespace Sys2Proof.Machine

theorem State.setDtc_same {kd : StateKind} {s0 : State} {s : State} {t : Int} (h_clocks : kd ≠ .clocks) (hs : s0.same kd s) :
    s0.same kd (State.setDtc s t) := by
  unfold State.setDtc
  try dsimp only
  repeat' (first | with_reducible (first | assumption) | (simp only [State.same_mk]; refine State.same_upd_time ?_ ?_))

theorem State.mapSlaves_same {kd : StateKind} {s0 : State} {s : State} {p : Nat → Bool} {f : SlaveSt → SlaveSt} (h_clocks : kd ≠ .clocks) (hs : s0.same kd s) :
    s0.same kd (State.mapSlaves s p f) := by
  unfold State.mapSlaves
  try dsimp only
  repeat' (first | with_reducible (first | assumption | intro s x _ | intro s _ | intro x | apply State.same_ite_fst | apply State.same_ite | apply State.same_foldl | apply State.same_foldl_fst | apply State.setSlave_same))

theorem State.tick_same {kd : StateKind} {s0 : State} {s : State} (h_clocks : kd ≠ .clocks) (hs : s0.same kd s) :
    s0.same kd (State.tick s) := by
  unfold State.tick
  try dsimp only
  repeat' (first | with_reducible (first | assumption | apply State.same_ite_fst | apply State.same_ite | apply State.setDtc_same | apply State.mapSlaves_same))

theorem execTclkLost_same {kd : StateKind} {s0 : State} {s : State} (h_clocks : kd ≠ .clocks) (h_counter : kd ≠ .counter) (hs : s0.same kd s) :
    SameR kd s0 (execTclkLost s) := by
  unfold execTclkLost
  try dsimp only
  repeat' (first | with_reducible (first | assumption | apply SameR.next | apply SameR.ite | apply State.same_ite_fst | apply State.same_ite | apply State.lower_same | apply State.setBitOf_same | apply State.clearBitOf_same | apply State.keepAlive_same))

theorem execTclkRestored_same {kd : StateKind} {s0 : State} {s : State} (h_clocks : kd ≠ .clocks) (h_counter : kd ≠ .counter) (hs : s0.same kd s) :
    SameR kd s0 (execTclkRestored s) := by
  unfold execTclkRestored
  try dsimp only
  repeat' (first | with_reducible (first | assumption | apply SameR.next | apply SameR.ite | apply State.same_ite_fst | apply State.same_ite | apply State.raise_same | apply State.setBitOf_same | apply State.keepAlive_same))

theorem State.snapshot_same {kd : StateKind} {s0 : State} {s : State} {mc : Bool} (hs : s0.same kd s) :
    s0.same kd (State.snapshot s mc) := by
  unfold State.snapshot
  try dsimp only
  repeat' (first | with_reducible (first | assumption | apply State.same_ite_fst | apply State.same_ite | apply State.setStamp_same))

theorem State.slaveSnapshot_same {kd : StateKind} {s0 : State} {s : State} {n : Nat} (hs : s0.same kd s) :
    s0.same kd (State.slaveSnapshot s n) := by
  unfold State.slaveSnapshot
  try dsimp only
  repeat' (first | with_reducible (first | assumption | apply State.setStamp_same))

theorem execDtcSnapshot_same {kd : StateKind} {s0 : State} {mc : Bool} {s : State} (h_answer : kd ≠ .answer) (hs : s0.same kd s) :
    SameR kd s0 (execDtcSnapshot mc s) := by
  unfold execDtcSnapshot
  try dsimp only
  repeat' (first | with_reducible (first | assumption | apply SameR.next | apply SameR.ite | apply SameO.none | apply SameO.some_id | apply SameO.some | apply SameO.ite | apply State.answer_same | apply State.answerData_same | apply State.snapshot_same) | split)

theorem State.dtcCommand_same {kd : StateKind} {s0 : State} {s : State} {c : DtcCmd} (h_clocks : kd ≠ .clocks) (hs : s0.same kd s) :
    s0.same kd (State.dtcCommand s c) := by
  unfold State.dtcCommand
  try dsimp only
  repeat' (first | with_reducible (first | assumption | apply State.same_ite_fst | apply State.same_ite | apply SameO.none | apply SameO.some_id | apply SameO.some | apply SameO.ite | apply State.raise_same) | (simp only [State.same_mk]; refine State.same_upd_time ?_ ?_))

theorem State.writeDtcCmd_same {kd : StateKind} {s0 : State} {s : State} {v : Nat} (h_clocks : kd ≠ .clocks) (hs : s0.same kd s) :
    s0.same kd (State.writeDtcCmd s v) := by
  unfold State.writeDtcCmd
  try dsimp only
  repeat' (first | with_reducible (first | assumption | apply State.raise_same | apply State.dtcCommand_same) | split)

theorem execDtcSet_same {kd : StateKind} {s0 : State} {s : State} (h_clocks : kd ≠ .clocks) (h_answer : kd ≠ .answer) (hs : s0.same kd s) :
    SameR kd s0 (execDtcSet s) := by
  unfold execDtcSet
  try dsimp only
  repeat' (first | with_reducible (first | assumption | intro s x _ | intro s _ | intro x | apply SameR.next | apply SameR.ite | apply State.access_same | apply State.writeDtcCmd_same))

theorem execDtcAdj_same {kd : StateKind} {s0 : State} {s : State} (h_clocks : kd ≠ .clocks) (h_answer : kd ≠ .answer) (hs : s0.same kd s) :
    SameR kd s0 (execDtcAdj s) := by
  unfold execDtcAdj
  try dsimp only
  repeat' (first | with_reducible (first | assumption | intro s x _ | intro s _ | intro x | apply SameR.next | apply SameR.ite | apply State.access_same | apply State.writeDtcCmd_same))

theorem execDtcApply_same {kd : StateKind} {s0 : State} {s : State} (h_clocks : kd ≠ .clocks) (hs : s0.same kd s) :
    SameR kd s0 (execDtcApply s) := by
  unfold execDtcApply
  try dsimp only
  repeat' (first | with_reducible (first | assumption | apply SameR.next | apply SameR.ite | apply State.same_ite_fst | apply State.same_ite | apply SameO.none | apply SameO.some_id | apply SameO.some | apply SameO.ite | apply State.raise_same | apply State.lower_same | apply State.setStamp_same | apply State.mapSlaves_same) | (simp only [State.same_mk]; refine State.same_upd_time ?_ ?_) | split)

theorem State.writeIncrHi_same {kd : StateKind} {s0 : State} {s : State} {v : Nat} (h_clocks : kd ≠ .clocks) (hs : s0.same kd s) :
    s0.same kd (State.writeIncrHi s v) := by
  unfold State.writeIncrHi
  try dsimp only
  repeat' (first | with_reducible (first | assumption | apply State.same_ite_fst | apply State.same_ite | apply State.set_same | apply State.raise_same) | (simp only [State.same_mk]; refine State.same_upd_time ?_ ?_))

theorem State.writeIncrLo_same {kd : StateKind} {s0 : State} {s : State} {v : Nat} (hs : s0.same kd s) :
    s0.same kd (State.writeIncrLo s v) := by
  unfold State.writeIncrLo
  try dsimp only
  repeat' (first | with_reducible (first | assumption | apply State.same_ite_fst | apply State.same_ite | apply State.set_same | apply State.raise_same))

theorem execDtcIncrCommit_same {kd : StateKind} {s0 : State} {v : Word} {s : State} (h_clocks : kd ≠ .clocks) (h_answer : kd ≠ .answer) (hs : s0.same kd s) :
    SameR kd s0 (execDtcIncrCommit v s) := by
  unfold execDtcIncrCommit
  try dsimp only
  repeat' (first | with_reducible (first | assumption | intro s x _ | intro s _ | intro x | apply SameR.next | apply SameR.ite | apply State.access_same | apply State.writeIncrHi_same))

theorem State.writeDtcCtrl_same {kd : StateKind} {s0 : State} {s : State} {v : Nat} (h_clocks : kd ≠ .clocks) (hs : s0.same kd s) :
    s0.same kd (State.writeDtcCtrl s v) := by
  unfold State.writeDtcCtrl
  try dsimp only
  repeat' (first | with_reducible (first | assumption | apply State.same_ite_fst | apply State.same_ite | apply State.set_same | apply State.raise_same | apply State.lower_same | apply State.setB_same) | (simp only [State.same_mk]; refine State.same_upd_time ?_ ?_))

theorem State.writeTpll_same {kd : StateKind} {s0 : State} {s : State} {v : Nat} (h_clocks : kd ≠ .clocks) (hs : s0.same kd s) :
    s0.same kd (State.writeTpll s v) := by
  unfold State.writeTpll
  try dsimp only
  repeat' (first | with_reducible (first | assumption | apply State.same_ite_fst | apply State.same_ite | apply State.set_same | apply State.raise_same | apply State.lower_same | apply State.wr_same) | (simp only [State.same_mk]; refine State.same_upd_time ?_ ?_))

theorem State.beacon_same {kd : StateKind} {s0 : State} {s : State} {n : Nat} {flight : Nat} (h_clocks : kd ≠ .clocks) (hs : s0.same kd s) :
    s0.same kd (State.beacon s n flight) := by
  unfold State.beacon
  try dsimp only
  repeat' (first | with_reducible (first | assumption | apply State.same_ite_fst | apply State.same_ite | apply SameO.none | apply SameO.some_id | apply SameO.some | apply SameO.ite | apply State.set_same | apply State.raise_same | apply State.lower_same | apply State.setSlave_same) | split)

theorem State.badReply_same {kd : StateKind} {s0 : State} {s : State} {n : Nat} {bad : Bool} (hs : s0.same kd s) :
    s0.same kd (State.badReply s n bad) := by
  unfold State.badReply
  try dsimp only
  repeat' (first | with_reducible (first | assumption | apply State.same_ite_fst | apply State.same_ite | apply State.count_same))

theorem execDelay_same {kd : StateKind} {s0 : State} {n : FieldId} {t1 : Nat} {s2 : Nat} {s3 : Nat} {t4 : Nat} {bad : Bool} {s : State} (hs : s0.same kd s) :
    SameR kd s0 (execDelay n t1 s2 s3 t4 bad s) := by
  unfold execDelay
  try dsimp only
  repeat' (first | with_reducible (first | assumption | apply SameR.next | apply SameR.ite | apply State.same_ite_fst | apply State.same_ite | apply State.set_same | apply State.badReply_same))

theorem State.timeCal_same {kd : StateKind} {s0 : State} {s : State} {n : Nat} {v : Nat} {src : Nat} (h_clocks : kd ≠ .clocks) (h_ledger : kd ≠ .ledger) (hs : s0.same kd s) :
    s0.same kd (State.timeCal s n v src) := by
  unfold State.timeCal
  try dsimp only
  repeat' (first | with_reducible (first | assumption | apply State.same_ite_fst | apply State.same_ite | apply SameO.none | apply SameO.some_id | apply SameO.some | apply SameO.ite | apply State.opBegin_same | apply State.opRefuse_same | apply State.raise_same | apply State.setSlave_same))

theorem execTimeCalRequest_same {kd : StateKind} {s0 : State} {n : FieldId} {src : Fin 4096} {v : Word} {s : State} (h_clocks : kd ≠ .clocks) (h_ledger : kd ≠ .ledger) (h_answer : kd ≠ .answer) (hs : s0.same kd s) :
    SameR kd s0 (execTimeCalRequest n src v s) := by
  unfold execTimeCalRequest
  try dsimp only
  repeat' (first | with_reducible (first | assumption | intro s x _ | intro s _ | intro x | apply SameR.next | apply SameR.ite | apply State.access_same | apply State.timeCal_same))

theorem execTimeCalDone_same {kd : StateKind} {s0 : State} {n : FieldId} {temp : Byte} {s : State} (h_clocks : kd ≠ .clocks) (h_ledger : kd ≠ .ledger) (hs : s0.same kd s) :
    SameR kd s0 (execTimeCalDone n temp s) := by
  unfold execTimeCalDone
  try dsimp only
  repeat' (first | with_reducible (first | assumption | apply SameR.next | apply SameR.ite | apply SameO.none | apply SameO.some_id | apply SameO.some | apply SameO.ite | apply State.opDone_same | apply State.set_same | apply State.raise_same | apply State.lower_same | apply State.setSlave_same) | split)

theorem State.setIncr_same {kd : StateKind} {s0 : State} {s : State} {v : Nat} (h_clocks : kd ≠ .clocks) (hs : s0.same kd s) :
    s0.same kd (State.setIncr s v) := by
  unfold State.setIncr
  try dsimp only
  repeat' (first | with_reducible (first | assumption | apply State.set2_same) | (simp only [State.same_mk]; refine State.same_upd_time ?_ ?_))

theorem State.servoState_same {kd : StateKind} {s0 : State} {s : State} {st : Nat} (hs : s0.same kd s) :
    s0.same kd (State.servoState s st) := by
  unfold State.servoState
  try dsimp only
  repeat' (first | with_reducible (first | assumption | apply State.set_same | apply State.setB_same))

theorem State.servoRate_same {kd : StateKind} {s0 : State} {s : State} {off : Int} (h_clocks : kd ≠ .clocks) (hs : s0.same kd s) :
    s0.same kd (State.servoRate s off) := by
  unfold State.servoRate
  try dsimp only
  repeat' (first | with_reducible (first | assumption | apply State.setIncr_same) | (simp only [State.same_mk]; refine State.same_upd_time ?_ ?_))

theorem State.servoSample_same {kd : StateKind} {s0 : State} {s : State} {off : Int} (h_clocks : kd ≠ .clocks) (hs : s0.same kd s) :
    s0.same kd (State.servoSample s off) := by
  unfold State.servoSample
  try dsimp only
  repeat' (first | with_reducible (first | assumption | apply State.same_ite_fst | apply State.same_ite | apply State.set_same | apply State.raise_same | apply State.dtcCommand_same | apply State.setIncr_same | apply State.servoState_same | apply State.servoRate_same) | (simp only [State.same_mk]; refine State.same_upd_time ?_ ?_))

theorem State.ptpSample_same {kd : StateKind} {s0 : State} {s : State} {arrive : Int} {origin : Nat} (h_clocks : kd ≠ .clocks) (hs : s0.same kd s) :
    s0.same kd (State.ptpSample s arrive origin) := by
  unfold State.ptpSample
  try dsimp only
  repeat' (first | with_reducible (first | assumption | apply State.same_ite_fst | apply State.same_ite | apply State.servoSample_same))

theorem State.ptpAnnounce_same {kd : StateKind} {s0 : State} {s : State} {src : Nat} {d : PtpDataset} {utc : Int} {valid : Bool} (h_clocks : kd ≠ .clocks) (hs : s0.same kd s) :
    s0.same kd (State.ptpAnnounce s src d utc valid) := by
  unfold State.ptpAnnounce
  try dsimp only
  repeat' (first | with_reducible (first | assumption | apply State.same_ite_fst | apply State.same_ite | apply SameO.none | apply SameO.some_id | apply SameO.some | apply SameO.ite | apply State.set_same | apply State.setB_same) | (simp only [State.same_mk]; refine State.same_upd_time ?_ ?_) | split)

theorem State.ptpTake_same {kd : StateKind} {s0 : State} {s : State} {m : PtpMsg} (h_clocks : kd ≠ .clocks) (h_outputs : kd ≠ .outputs) (h_counter : kd ≠ .counter) (hs : s0.same kd s) :
    s0.same kd (State.ptpTake s m) := by
  unfold State.ptpTake
  try dsimp only
  repeat' (first | with_reducible (first | assumption | apply State.same_ite_fst | apply State.same_ite | apply SameO.none | apply SameO.some_id | apply SameO.some | apply SameO.ite | apply State.set_same | apply State.used_same | apply State.emit_same | apply State.ptpSample_same | apply State.ptpAnnounce_same) | (simp only [State.same_mk]; refine State.same_upd_time ?_ ?_) | split)

theorem execPtpMessage_same {kd : StateKind} {s0 : State} {m : PtpMsg} {s : State} (h_clocks : kd ≠ .clocks) (h_outputs : kd ≠ .outputs) (h_counter : kd ≠ .counter) (hs : s0.same kd s) :
    SameR kd s0 (execPtpMessage m s) := by
  unfold execPtpMessage
  try dsimp only
  repeat' (first | with_reducible (first | assumption | apply SameR.next | apply SameR.ite | apply State.same_ite_fst | apply State.same_ite | apply State.ptpTake_same))

theorem State.ptpCycle_same {kd : StateKind} {s0 : State} {s : State} {was : Nat} (h_outputs : kd ≠ .outputs) (h_counter : kd ≠ .counter) (hs : s0.same kd s) :
    s0.same kd (State.ptpCycle s was) := by
  unfold State.ptpCycle
  try dsimp only
  repeat' (first | with_reducible (first | assumption | apply State.same_ite_fst | apply State.same_ite | apply SameO.none | apply SameO.some_id | apply SameO.some | apply SameO.ite | apply State.used_same | apply State.emit_same))

theorem execServoHoldover_same {kd : StateKind} {s0 : State} {s : State} (h_clocks : kd ≠ .clocks) (hs : s0.same kd s) :
    SameR kd s0 (execServoHoldover s) := by
  unfold execServoHoldover
  try dsimp only
  repeat' (first | with_reducible (first | assumption | apply SameR.next | apply SameR.ite | apply State.same_ite_fst | apply State.same_ite | apply State.setIncr_same | apply State.servoState_same) | (simp only [State.same_mk]; refine State.same_upd_time ?_ ?_))

theorem execPpsInEdge_same {kd : StateKind} {s0 : State} {s : State} (h_clocks : kd ≠ .clocks) (h_counter : kd ≠ .counter) (hs : s0.same kd s) :
    SameR kd s0 (execPpsInEdge s) := by
  unfold execPpsInEdge
  try dsimp only
  repeat' (first | with_reducible (first | assumption | apply SameR.next | apply SameR.ite | apply State.same_ite_fst | apply State.same_ite | apply State.raise_same | apply State.used_same | apply State.setStamp_same | apply State.servoSample_same))

theorem State.ppsiStart_same {kd : StateKind} {s0 : State} {s : State} (h_clocks : kd ≠ .clocks) (hs : s0.same kd s) :
    s0.same kd (State.ppsiStart s) := by
  unfold State.ppsiStart
  try dsimp only
  repeat' (first | with_reducible (first | assumption) | (simp only [State.same_mk]; refine State.same_upd_time ?_ ?_))

theorem State.ppsiReadPart_same {kd : StateKind} {s0 : State} {s : State} {k : Nat} (h_clocks : kd ≠ .clocks) (hs : s0.same kd s) :
    s0.same kd (State.ppsiReadPart s k) := by
  unfold State.ppsiReadPart
  try dsimp only
  repeat' (first | with_reducible (first | assumption) | (simp only [State.same_mk]; refine State.same_upd_time ?_ ?_))

theorem execPpsiCaptureStart_same {kd : StateKind} {s0 : State} {s : State} (h_clocks : kd ≠ .clocks) (h_answer : kd ≠ .answer) (hs : s0.same kd s) :
    SameR kd s0 (execPpsiCaptureStart s) := by
  unfold execPpsiCaptureStart
  try dsimp only
  repeat' (first | with_reducible (first | assumption | apply SameR.next | apply SameR.ite | apply State.answer_same | apply State.answerData_same | apply State.ppsiStart_same) | split)

theorem execPpsiCaptureTimeout_same {kd : StateKind} {s0 : State} {s : State} (h_clocks : kd ≠ .clocks) (hs : s0.same kd s) :
    SameR kd s0 (execPpsiCaptureTimeout s) := by
  unfold execPpsiCaptureTimeout
  try dsimp only
  repeat' (first | with_reducible (first | assumption | apply SameR.next | apply SameR.ite) | (simp only [State.same_mk]; refine State.same_upd_time ?_ ?_))

theorem execPpsOutRise_same {kd : StateKind} {s0 : State} {s : State} (h_clocks : kd ≠ .clocks) (hs : s0.same kd s) :
    SameR kd s0 (execPpsOutRise s) := by
  unfold execPpsOutRise
  try dsimp only
  repeat' (first | with_reducible (first | assumption | apply SameR.next | apply SameR.ite | apply State.same_ite_fst | apply State.same_ite) | (simp only [State.same_mk]; refine State.same_upd_time ?_ ?_))

theorem execPpsOutFall_same {kd : StateKind} {s0 : State} {s : State} (h_clocks : kd ≠ .clocks) (hs : s0.same kd s) :
    SameR kd s0 (execPpsOutFall s) := by
  unfold execPpsOutFall
  try dsimp only
  repeat' (first | with_reducible (first | assumption | apply SameR.next | apply SameR.ite) | (simp only [State.same_mk]; refine State.same_upd_time ?_ ?_))

end Sys2Proof.Machine
end

