-- ==== Sys2Proof/Laws/SameFlume.lean ====
section
/-! SUPPORT. The kinds of state that every operation and meaning of Machine/Flume.lean leaves as they are (Laws/Same.lean). -/
set_option maxRecDepth 4000
set_option linter.unusedVariables false
namespace Sys2Proof.Machine

theorem State.moduleUp_same {kd : StateKind} {s0 : State} {s : State} {n : Nat} {m : Nat} {c : Nat} {hwFail : Nat} {fdFail : Nat} (hs : s0.same kd s) :
    s0.same kd (State.moduleUp s n m c hwFail fdFail) := by
  unfold State.moduleUp
  try dsimp only
  repeat' (first | with_reducible (first | assumption | apply State.set_same))

theorem execReplay_same {kd : StateKind} {s0 : State} {n : FieldId} {m : Fin 8} {atField : Bool} {again : Bool} {s : State} (h_flume : kd ≠ .flume) (hs : s0.same kd s) :
    SameR kd s0 (execReplay n m atField again s) := by
  unfold execReplay
  try dsimp only
  repeat' (first | with_reducible (first | assumption | apply SameR.next | apply SameR.ite | apply State.same_ite_fst | apply State.same_ite | apply State.setMod_same | apply State.count_same))

theorem State.retrain_same {kd : StateKind} {s0 : State} {s : State} {i : Nat} {m : Nat} (h_requests : kd ≠ .requests) (h_flume : kd ≠ .flume) (h_fabric : kd ≠ .fabric) (hs : s0.same kd s) :
    s0.same kd (State.retrain s i m) := by
  unfold State.retrain
  try dsimp only
  repeat' (first | with_reducible (first | assumption | apply State.same_ite_fst | apply State.same_ite | apply State.relive_same | apply State.setMod_same | apply State.set_same | apply State.count_same | apply State.clearBitOf_same | apply State.dueAudits_same | apply State.wires_same))

theorem execModuleRetrain_same {kd : StateKind} {s0 : State} {i : SiteId} {m : Fin 8} {lost : Bool} {s : State} (h_requests : kd ≠ .requests) (h_flume : kd ≠ .flume) (h_fabric : kd ≠ .fabric) (hs : s0.same kd s) :
    SameR kd s0 (execModuleRetrain i m lost s) := by
  unfold execModuleRetrain
  try dsimp only
  repeat' (first | with_reducible (first | assumption | apply SameR.next | apply SameR.ite | apply State.same_ite_fst | apply State.same_ite | apply State.retrain_same) | split)

theorem State.loopStart_same {kd : StateKind} {s0 : State} {s : State} {i : Nat} {m : Nat} (h_flume : kd ≠ .flume) (hs : s0.same kd s) :
    s0.same kd (State.loopStart s i m) := by
  unfold State.loopStart
  try dsimp only
  repeat' (first | with_reducible (first | assumption | apply State.setMod_same | apply State.set_same | apply State.lower_same))

theorem State.writeMctrl_same {kd : StateKind} {s0 : State} {s : State} {i : Nat} {m : Nat} {v : Nat} (h_requests : kd ≠ .requests) (h_flume : kd ≠ .flume) (h_fabric : kd ≠ .fabric) (hs : s0.same kd s) :
    s0.same kd (State.writeMctrl s i m v) := by
  unfold State.writeMctrl
  try dsimp only
  repeat' (first | with_reducible (first | assumption | apply State.same_ite_fst | apply State.same_ite | apply State.retrain_same | apply State.loopStart_same | apply State.raise_same | apply State.setB_same) | split)

theorem execRetrainCommand_same {kd : StateKind} {s0 : State} {i : SiteId} {m : Fin 8} {s : State} (h_requests : kd ≠ .requests) (h_flume : kd ≠ .flume) (h_fabric : kd ≠ .fabric) (h_answer : kd ≠ .answer) (hs : s0.same kd s) :
    SameR kd s0 (execRetrainCommand i m s) := by
  unfold execRetrainCommand
  try dsimp only
  repeat' (first | with_reducible (first | assumption | intro s x _ | intro s _ | intro x | apply SameR.next | apply SameR.ite | apply State.writeMctrl_same | apply State.access_same))

theorem execRetrainLaneTestDone_same {kd : StateKind} {s0 : State} {n : FieldId} {m : Fin 8} {hw : BitVec 88} {fd : BitVec 88} {s : State} (h_flume : kd ≠ .flume) (hs : s0.same kd s) :
    SameR kd s0 (execRetrainLaneTestDone n m hw fd s) := by
  unfold execRetrainLaneTestDone
  try dsimp only
  repeat' (first | with_reducible (first | assumption | apply SameR.next | apply SameR.ite | apply State.same_ite_fst | apply State.same_ite | apply State.setMod_same | apply State.set_same) | split)

theorem State.sendWidth_same {kd : StateKind} {s0 : State} {s : State} {n : Nat} {m : Nat} {c : Nat} {stage : Nat} (h_flume : kd ≠ .flume) (hs : s0.same kd s) :
    s0.same kd (State.sendWidth s n m c stage) := by
  unfold State.sendWidth
  try dsimp only
  repeat' (first | with_reducible (first | assumption | apply State.setMod_same))

theorem execWidth_same {kd : StateKind} {s0 : State} {n : FieldId} {m : Fin 8} {s : State} (h_flume : kd ≠ .flume) (hs : s0.same kd s) :
    SameR kd s0 (execWidth n m s) := by
  unfold execWidth
  try dsimp only
  repeat' (first | with_reducible (first | assumption | apply SameR.next | apply SameR.ite | apply State.same_ite_fst | apply State.same_ite | apply SameO.none | apply SameO.some_id | apply SameO.some | apply SameO.ite | apply State.setMod_same | apply State.set_same | apply State.raise_same))

theorem execRetrainComplete_same {kd : StateKind} {s0 : State} {n : FieldId} {m : Fin 8} {s : State} (h_flume : kd ≠ .flume) (h_fabric : kd ≠ .fabric) (hs : s0.same kd s) :
    SameR kd s0 (execRetrainComplete n m s) := by
  unfold execRetrainComplete
  try dsimp only
  repeat' (first | with_reducible (first | assumption | apply SameR.next | apply SameR.ite | apply State.same_ite_fst | apply State.same_ite | apply State.relive_same | apply State.moduleUp_same | apply State.setMod_same | apply State.setBitOf_same | apply State.wires_same))

theorem execFlumeClockLost_same {kd : StateKind} {s0 : State} {i : SiteId} {s : State} (h_requests : kd ≠ .requests) (h_flume : kd ≠ .flume) (h_fabric : kd ≠ .fabric) (hs : s0.same kd s) :
    SameR kd s0 (execFlumeClockLost i s) := by
  unfold execFlumeClockLost
  try dsimp only
  repeat' (first | with_reducible (first | assumption | intro s x _ | intro s _ | intro x | apply SameR.next | apply SameR.ite | apply State.same_ite_fst | apply State.same_ite | apply State.same_foldl | apply State.same_foldl_fst | apply State.retrain_same | apply State.setBitOf_same | apply State.clearBitOf_same))

theorem execAlarmCause_same {kd : StateKind} {s0 : State} {n : FieldId} {c : Fin 3} {s : State} (hs : s0.same kd s) :
    SameR kd s0 (execAlarmCause n c s) := by
  unfold execAlarmCause
  try dsimp only
  repeat' (first | with_reducible (first | assumption | apply SameR.next | apply SameR.ite | apply State.same_ite_fst | apply State.same_ite | apply State.set_same | apply State.lower_same))

theorem execFence_same {kd : StateKind} {s0 : State} {n : FieldId} {s : State} (h_lanes : kd ≠ .lanes) (h_sequencers : kd ≠ .sequencers) (h_outputs : kd ≠ .outputs) (hs : s0.same kd s) :
    SameR kd s0 (execFence n s) := by
  unfold execFence
  try dsimp only
  repeat' (first | with_reducible (first | assumption | apply SameR.next | apply SameR.ite | apply State.same_ite_fst | apply State.same_ite | apply State.fenceMessage_same))

theorem State.turnTrain_same {kd : StateKind} {s0 : State} {s : State} {t : Nat} {g : GuestTrain} (h_memory : kd ≠ .memory) (h_reservations : kd ≠ .reservations) (h_requests : kd ≠ .requests) (h_qdr : kd ≠ .qdr) (h_walkers : kd ≠ .walkers) (h_flume : kd ≠ .flume) (h_fabric : kd ≠ .fabric) (h_lanes : kd ≠ .lanes) (h_capture : kd ≠ .capture) (h_ledger : kd ≠ .ledger) (h_log : kd ≠ .log) (h_debug : kd ≠ .debug) (h_counter : kd ≠ .counter) (hs : s0.same kd s) :
    s0.same kd (State.turnTrain s t g) := by
  unfold State.turnTrain
  try dsimp only
  repeat' (first | with_reducible (first | assumption | intro s x _ | intro s _ | intro x | apply State.same_ite_fst | apply State.same_ite | apply State.same_foldl | apply State.same_foldl_fst | apply State.fence_same | apply State.set_same | apply State.raise_same | apply State.set2_same | apply State.setBitOf_same) | split)

theorem execTurnoutTrain_same {kd : StateKind} {s0 : State} {t : Fin 2} {g : GuestTrain} {s : State} (h_memory : kd ≠ .memory) (h_reservations : kd ≠ .reservations) (h_requests : kd ≠ .requests) (h_qdr : kd ≠ .qdr) (h_walkers : kd ≠ .walkers) (h_flume : kd ≠ .flume) (h_fabric : kd ≠ .fabric) (h_lanes : kd ≠ .lanes) (h_capture : kd ≠ .capture) (h_ledger : kd ≠ .ledger) (h_log : kd ≠ .log) (h_debug : kd ≠ .debug) (h_counter : kd ≠ .counter) (hs : s0.same kd s) :
    SameR kd s0 (execTurnoutTrain t g s) := by
  unfold execTurnoutTrain
  try dsimp only
  repeat' (first | with_reducible (first | assumption | apply SameR.next | apply SameR.ite | apply State.same_ite_fst | apply State.same_ite | apply State.turnTrain_same))

theorem State.turnCredits_same {kd : StateKind} {s0 : State} {s : State} {t : Nat} {m : Nat} {w : Nat} (hs : s0.same kd s) :
    s0.same kd (State.turnCredits s t m w) := by
  unfold State.turnCredits
  try dsimp only
  repeat' (first | with_reducible (first | assumption | intro s x _ | intro s _ | intro x | apply State.same_ite_fst | apply State.same_ite | apply State.same_foldl | apply State.same_foldl_fst | apply State.set_same))

theorem State.turnAck_same {kd : StateKind} {s0 : State} {s : State} {t : Nat} {m : Nat} {ack : Nat} {nak : Bool} (h_flume : kd ≠ .flume) (h_outputs : kd ≠ .outputs) (hs : s0.same kd s) :
    s0.same kd (State.turnAck s t m ack nak) := by
  unfold State.turnAck
  try dsimp only
  repeat' (first | with_reducible (first | assumption | intro s x _ | intro s _ | intro x | apply State.same_ite_fst | apply State.same_ite | apply State.same_foldl | apply State.same_foldl_fst | apply State.emit_same | apply State.setTurn_same | apply State.sendUnits_same))

theorem State.turnUnit_same {kd : StateKind} {s0 : State} {s : State} {t : Nat} {m : Nat} {b : List Byte} (h_flume : kd ≠ .flume) (h_outputs : kd ≠ .outputs) (hs : s0.same kd s) :
    s0.same kd (State.turnUnit s t m b) := by
  unfold State.turnUnit
  try dsimp only
  repeat' (first | with_reducible (first | assumption | apply State.same_ite_fst | apply State.same_ite | apply SameO.none | apply SameO.some_id | apply SameO.some | apply SameO.ite | apply State.turnCredits_same | apply State.turnAck_same | apply State.count_same | apply State.setTurn_same | apply State.sendUnit_same))

theorem execTurnoutUnit_same {kd : StateKind} {s0 : State} {t : Fin 2} {m : Fin 2} {b : List Byte} {s : State} (h_flume : kd ≠ .flume) (h_outputs : kd ≠ .outputs) (hs : s0.same kd s) :
    SameR kd s0 (execTurnoutUnit t m b s) := by
  unfold execTurnoutUnit
  try dsimp only
  repeat' (first | with_reducible (first | assumption | apply SameR.next | apply SameR.ite | apply State.same_ite_fst | apply State.same_ite | apply State.turnUnit_same))

theorem execTurnoutLinkTimeout_same {kd : StateKind} {s0 : State} {t : Fin 2} {s : State} (h_memory : kd ≠ .memory) (h_reservations : kd ≠ .reservations) (h_requests : kd ≠ .requests) (h_qdr : kd ≠ .qdr) (h_walkers : kd ≠ .walkers) (h_flume : kd ≠ .flume) (h_fabric : kd ≠ .fabric) (h_lanes : kd ≠ .lanes) (h_capture : kd ≠ .capture) (h_ledger : kd ≠ .ledger) (h_log : kd ≠ .log) (h_debug : kd ≠ .debug) (h_counter : kd ≠ .counter) (hs : s0.same kd s) :
    SameR kd s0 (execTurnoutLinkTimeout t s) := by
  unfold execTurnoutLinkTimeout
  try dsimp only
  repeat' (first | with_reducible (first | assumption | apply SameR.next | apply SameR.ite | apply State.fence_same))

theorem execLoopbackTest_same {kd : StateKind} {s0 : State} {n : FieldId} {m : Fin 8} {near : Bool} {s : State} (h_requests : kd ≠ .requests) (h_flume : kd ≠ .flume) (h_fabric : kd ≠ .fabric) (h_answer : kd ≠ .answer) (hs : s0.same kd s) :
    SameR kd s0 (execLoopbackTest n m near s) := by
  unfold execLoopbackTest
  try dsimp only
  repeat' (first | with_reducible (first | assumption | intro s x _ | intro s _ | intro x | apply SameR.next | apply SameR.ite | apply State.writeMctrl_same | apply State.access_same))

theorem execLoopbackDone_same {kd : StateKind} {s0 : State} {n : FieldId} {m : Fin 8} {errs : Nat} {bad : BitVec 88} {s : State} (hs : s0.same kd s) :
    SameR kd s0 (execLoopbackDone n m errs bad s) := by
  unfold execLoopbackDone
  try dsimp only
  repeat' (first | with_reducible (first | assumption | apply SameR.next | apply SameR.ite | apply State.same_ite_fst | apply State.same_ite | apply State.set_same | apply State.raise_same | apply State.count_same))

end Sys2Proof.Machine
end

