-- ==== Sys2Proof/Laws/SameHostPort.lean ====
section
/-! SUPPORT. The kinds of state that every operation and meaning of Machine/HostPort.lean leaves as they are (Laws/Same.lean). -/
set_option maxRecDepth 4000
set_option linter.unusedVariables false
namespace Sys2Proof.Machine

theorem State.showLink_same {kd : StateKind} {s0 : State} {s : State} (hs : s0.same kd s) :
    s0.same kd (State.showLink s) := by
  unfold State.showLink
  try dsimp only
  repeat' (first | with_reducible (first | assumption | apply State.setB_same))

theorem State.linkTrain_same {kd : StateKind} {s0 : State} {s : State} {widths : Nat} {rates : Nat} {alt : Bool} (hs : s0.same kd s) :
    s0.same kd (State.linkTrain s widths rates alt) := by
  unfold State.linkTrain
  try dsimp only
  repeat' (first | with_reducible (first | assumption | apply State.same_ite_fst | apply State.same_ite | apply SameO.none | apply SameO.some_id | apply SameO.some | apply SameO.ite | apply State.showLink_same | apply State.set_same | apply State.setB_same) | split)

theorem execLinkTrain_same {kd : StateKind} {s0 : State} {widths : Fin 32} {rates : Fin 32} {alt : Bool} {s : State} (hs : s0.same kd s) :
    SameR kd s0 (execLinkTrain widths rates alt s) := by
  unfold execLinkTrain
  try dsimp only
  repeat' (first | with_reducible (first | assumption | apply SameR.next | apply SameR.ite | apply State.linkTrain_same))

theorem State.linkDown_same {kd : StateKind} {s0 : State} {s : State} (h_host : kd ≠ .host) (hs : s0.same kd s) :
    s0.same kd (State.linkDown s) := by
  unfold State.linkDown
  try dsimp only
  repeat' (first | with_reducible (first | assumption | apply State.same_ite_fst | apply State.same_ite | apply State.showLink_same | apply State.mirrorFail_same | apply State.raise_same | apply State.lower_same) | (simp only [State.same_mk]; refine State.same_upd_cxl ?_ ?_))

theorem execLinkDown_same {kd : StateKind} {s0 : State} {s : State} (h_host : kd ≠ .host) (hs : s0.same kd s) :
    SameR kd s0 (execLinkDown s) := by
  unfold execLinkDown
  try dsimp only
  repeat' (first | with_reducible (first | assumption | apply SameR.next | apply SameR.ite | apply State.linkDown_same))

theorem State.hostError_same {kd : StateKind} {s0 : State} {s : State} {kind : Nat} {st : RStat} {code : Nat} {a : Nat} (hs : s0.same kd s) :
    s0.same kd (State.hostError s kind st code a) := by
  unfold State.hostError
  try dsimp only
  repeat' (first | with_reducible (first | assumption | apply State.same_ite_fst | apply State.same_ite | apply State.set_same | apply State.raise_same | apply State.count_same))

theorem State.hostReceive_same {kd : StateKind} {s0 : State} {s : State} {r : Req} {a : Resp} (h_host : kd ≠ .host) (h_answer : kd ≠ .answer) (hs : s0.same kd s) :
    s0.same kd (State.hostReceive s r a) := by
  unfold State.hostReceive
  try dsimp only
  repeat' (first | with_reducible (first | assumption | apply State.same_ite_fst | apply State.same_ite | apply State.hostError_same) | (simp only [State.same_mk]; first | refine State.same_upd_cxl ?_ ?_ | refine State.same_upd_resp ?_ ?_))

theorem State.unmask_same {kd : StateKind} {s0 : State} {s : State} (h_host : kd ≠ .host) (h_outputs : kd ≠ .outputs) (hs : s0.same kd s) :
    s0.same kd (State.unmask s) := by
  unfold State.unmask
  try dsimp only
  repeat' (first | with_reducible (first | assumption | apply State.same_ite_fst | apply State.same_ite | apply State.sendMsix_same))

theorem State.commit_same {kd : StateKind} {s0 : State} {s : State} (h_host : kd ≠ .host) (hs : s0.same kd s) :
    s0.same kd (State.commit s) := by
  unfold State.commit
  try dsimp only
  repeat' (first | with_reducible (first | assumption | apply State.same_ite_fst | apply State.same_ite | apply State.showLink_same) | (simp only [State.same_mk]; refine State.same_upd_cxl ?_ ?_))

theorem State.writeComp_same {kd : StateKind} {s0 : State} {s : State} {o : Nat} {v : Nat} (h_host : kd ≠ .host) (h_outputs : kd ≠ .outputs) (hs : s0.same kd s) :
    s0.same kd (State.writeComp s o v) := by
  unfold State.writeComp
  try dsimp only
  repeat' (first | with_reducible (first | assumption | apply State.same_ite_fst | apply State.same_ite | apply State.showLink_same | apply State.unmask_same | apply State.commit_same) | (simp only [State.same_mk]; refine State.same_upd_cxl ?_ ?_))

theorem execDecoderCommit_same {kd : StateKind} {s0 : State} {base : BitVec 64} {size : BitVec 64} {iw : Fin 16} {ttype : Bool} {lock : Bool} {s : State} (h_host : kd ≠ .host) (h_outputs : kd ≠ .outputs) (h_answer : kd ≠ .answer) (hs : s0.same kd s) :
    SameR kd s0 (execDecoderCommit base size iw ttype lock s) := by
  unfold execDecoderCommit
  try dsimp only
  repeat' (first | with_reducible (first | assumption | intro s x _ | intro s _ | intro x | apply SameR.next | apply SameR.ite | apply State.same_ite_fst | apply State.same_ite | apply State.showLink_same | apply State.writeComp_same | apply State.access_same) | (simp only [State.same_mk]; refine State.same_upd_cxl ?_ ?_))

theorem State.cfgWrite_same {kd : StateKind} {s0 : State} {s : State} {o : Nat} {v : Nat} (h_host : kd ≠ .host) (h_outputs : kd ≠ .outputs) (hs : s0.same kd s) :
    s0.same kd (State.cfgWrite s o v) := by
  unfold State.cfgWrite
  try dsimp only
  repeat' (first | with_reducible (first | assumption | apply State.same_ite_fst | apply State.same_ite | apply State.showLink_same | apply State.unmask_same) | (simp only [State.same_mk]; refine State.same_upd_cxl ?_ ?_) | split)

theorem execConfigRequest_same {kd : StateKind} {s0 : State} {ready : Bool} {w : Fin 1024} {write : Option (Fin 16 × Word)} {s : State} (h_host : kd ≠ .host) (h_outputs : kd ≠ .outputs) (h_answer : kd ≠ .answer) (hs : s0.same kd s) :
    SameR kd s0 (execConfigRequest ready w write s) := by
  unfold execConfigRequest
  try dsimp only
  repeat' (first | with_reducible (first | assumption | apply SameR.next | apply SameR.ite | apply State.same_ite_fst | apply State.same_ite | apply SameO.none | apply SameO.some_id | apply SameO.some | apply SameO.ite | apply State.cfgWrite_same | apply State.answer_same | apply State.answerData_same) | (simp only [State.same_mk]; first | refine State.same_upd_cxl ?_ ?_ | refine State.same_upd_resp ?_ ?_) | split)

end Sys2Proof.Machine
end

