-- ==== Sys2Proof/Laws/SamePcs.lean ====
section
/-! SUPPORT. The kinds of state that every operation and meaning of Machine/Pcs.lean leaves as they are (Laws/Same.lean). -/
set_option maxRecDepth 4000
set_option linter.unusedVariables false
namespace Sys2Proof.Machine

theorem State.pcsClear_same {kd : StateKind} {s0 : State} {s : State} {a : Nat} {l : Nat} (h_lanes : kd ≠ .lanes) (hs : s0.same kd s) :
    s0.same kd (State.pcsClear s a l) := by
  unfold State.pcsClear
  try dsimp only
  repeat' (first | with_reducible (first | assumption | apply State.same_ite_fst | apply State.same_ite | apply State.lower_same | apply State.setLane_same))

theorem State.advertise_same {kd : StateKind} {s0 : State} {s : State} {a : Nat} (hs : s0.same kd s) :
    s0.same kd (State.advertise s a) := by
  unfold State.advertise
  try dsimp only
  repeat' (first | with_reducible (first | assumption | apply State.same_ite_fst | apply State.same_ite | apply State.raise_same))

theorem State.portStart_same {kd : StateKind} {s0 : State} {s : State} {a : Nat} (h_lanes : kd ≠ .lanes) (h_outputs : kd ≠ .outputs) (hs : s0.same kd s) :
    s0.same kd (State.portStart s a) := by
  unfold State.portStart
  try dsimp only
  repeat' (first | with_reducible (first | assumption | intro s x _ | intro s _ | intro x | apply State.same_ite_fst | apply State.same_ite | apply State.same_foldl | apply State.same_foldl_fst | apply State.raise_same | apply State.pcsClear_same | apply State.advertise_same | apply State.setPort_same | apply State.portCfgerr_same | apply State.bypassUp_same))

theorem State.writePort_same {kd : StateKind} {s0 : State} {s : State} {a : Nat} {v : Nat} (hs : s0.same kd s) :
    s0.same kd (State.writePort s a v) := by
  unfold State.writePort
  try dsimp only
  repeat' (first | with_reducible (first | assumption | apply State.wrAll_same))

theorem State.portStop_same {kd : StateKind} {s0 : State} {s : State} {a : Nat} (h_lanes : kd ≠ .lanes) (h_sequencers : kd ≠ .sequencers) (h_outputs : kd ≠ .outputs) (hs : s0.same kd s) :
    s0.same kd (State.portStop s a) := by
  unfold State.portStop
  try dsimp only
  repeat' (first | with_reducible (first | assumption | intro s x _ | intro s _ | intro x | apply State.same_foldl | apply State.same_foldl_fst | apply State.lower_same | apply State.pcsClear_same | apply State.truncateRx_same | apply State.furFault_same))

theorem State.writePcsCtrl_same {kd : StateKind} {s0 : State} {s : State} {a : Nat} {v : Nat} (h_lanes : kd ≠ .lanes) (h_sequencers : kd ≠ .sequencers) (h_outputs : kd ≠ .outputs) (hs : s0.same kd s) :
    s0.same kd (State.writePcsCtrl s a v) := by
  unfold State.writePcsCtrl
  try dsimp only
  repeat' (first | with_reducible (first | assumption | apply State.same_ite_fst | apply State.same_ite | apply State.portStart_same | apply State.writePort_same | apply State.portStop_same))

theorem execPortEnable_same {kd : StateKind} {s0 : State} {l : LaneId} {v : Word} {s : State} (h_lanes : kd ≠ .lanes) (h_sequencers : kd ≠ .sequencers) (h_outputs : kd ≠ .outputs) (h_answer : kd ≠ .answer) (hs : s0.same kd s) :
    SameR kd s0 (execPortEnable l v s) := by
  unfold execPortEnable
  try dsimp only
  repeat' (first | with_reducible (first | assumption | intro s x _ | intro s _ | intro x | apply SameR.next | apply SameR.ite | apply State.access_same | apply State.writePcsCtrl_same))

theorem execPortDisable_same {kd : StateKind} {s0 : State} {l : LaneId} {s : State} (h_lanes : kd ≠ .lanes) (h_sequencers : kd ≠ .sequencers) (h_outputs : kd ≠ .outputs) (h_answer : kd ≠ .answer) (hs : s0.same kd s) :
    SameR kd s0 (execPortDisable l s) := by
  unfold execPortDisable
  try dsimp only
  repeat' (first | with_reducible (first | assumption | intro s x _ | intro s _ | intro x | apply SameR.next | apply SameR.ite | apply State.same_ite_fst | apply State.same_ite | apply State.access_same | apply State.portStop_same))

theorem State.seeHeader_same {kd : StateKind} {s0 : State} {s : State} {l : Nat} {bad : Bool} (h_lanes : kd ≠ .lanes) (hs : s0.same kd s) :
    s0.same kd (State.seeHeader s l bad) := by
  unfold State.seeHeader
  try dsimp only
  repeat' (first | with_reducible (first | assumption | apply State.same_ite_fst | apply State.same_ite | apply State.setB_same | apply State.count_same | apply State.setLane_same))

theorem State.blockLock_same {kd : StateKind} {s0 : State} {s : State} {a : Nat} {l : Nat} {bad : Bool} (h_fabric : kd ≠ .fabric) (h_lanes : kd ≠ .lanes) (h_capture : kd ≠ .capture) (h_sequencers : kd ≠ .sequencers) (h_ledger : kd ≠ .ledger) (h_outputs : kd ≠ .outputs) (hs : s0.same kd s) :
    s0.same kd (State.blockLock s a l bad) := by
  unfold State.blockLock
  try dsimp only
  repeat' (first | with_reducible (first | assumption | apply State.same_ite_fst | apply State.same_ite | apply State.raise_same | apply State.lower_same | apply State.setLane_same | apply State.portLost_same))

theorem State.violate_same {kd : StateKind} {s0 : State} {s : State} {a : Nat} (h_lanes : kd ≠ .lanes) (h_outputs : kd ≠ .outputs) (hs : s0.same kd s) :
    s0.same kd (State.violate s a) := by
  unfold State.violate
  try dsimp only
  repeat' (first | with_reducible (first | assumption | apply SameO.none | apply SameO.some_id | apply SameO.some | apply SameO.ite | apply State.dealFrame_same) | split)

theorem State.wrawBlock_same {kd : StateKind} {s0 : State} {s : State} {a : Nat} {hdr : Nat} {payload : Nat} {ts : Nat} (h_fabric : kd ≠ .fabric) (h_lanes : kd ≠ .lanes) (h_capture : kd ≠ .capture) (h_sequencers : kd ≠ .sequencers) (h_ledger : kd ≠ .ledger) (h_outputs : kd ≠ .outputs) (hs : s0.same kd s) :
    s0.same kd (State.wrawBlock s a hdr payload ts) := by
  unfold State.wrawBlock
  try dsimp only
  repeat' (first | with_reducible (first | assumption | apply State.same_ite_fst | apply State.same_ite | apply State.emit_same | apply State.violate_same | apply State.dealFrame_same | apply State.startFrame_same | apply State.growFrame_same) | split)

theorem State.takeBlocks_same {kd : StateKind} {s0 : State} {s : State} {a : Nat} {x2 : Nat} (h_fabric : kd ≠ .fabric) (h_lanes : kd ≠ .lanes) (h_capture : kd ≠ .capture) (h_sequencers : kd ≠ .sequencers) (h_ledger : kd ≠ .ledger) (h_outputs : kd ≠ .outputs) (hs : s0.same kd s) :
    s0.same kd (State.takeBlocks s a x2) := by
  revert hs
  induction x2 generalizing s a with
  | zero =>
    intro hs; unfold State.takeBlocks; try dsimp only
    repeat' (first | with_reducible (first | assumption | apply State.wrawBlock_same | apply State.setLane_same | apply State.setPort_same) | split)
  | succ n ih =>
    intro hs; unfold State.takeBlocks; try dsimp only
    repeat' (first | with_reducible (first | assumption | apply ih | apply State.wrawBlock_same | apply State.setLane_same | apply State.setPort_same) | split)

theorem State.tryAlign_same {kd : StateKind} {s0 : State} {s : State} {a : Nat} (h_outputs : kd ≠ .outputs) (hs : s0.same kd s) :
    s0.same kd (State.tryAlign s a) := by
  unfold State.tryAlign
  try dsimp only
  repeat' (first | with_reducible (first | assumption | apply State.same_ite_fst | apply State.same_ite | apply State.portUp_same))

theorem State.deskew_same {kd : StateKind} {s0 : State} {s : State} {a : Nat} {l : Nat} {hdr : Nat} {payload : Nat} (h_fabric : kd ≠ .fabric) (h_lanes : kd ≠ .lanes) (h_capture : kd ≠ .capture) (h_sequencers : kd ≠ .sequencers) (h_ledger : kd ≠ .ledger) (h_outputs : kd ≠ .outputs) (h_counter : kd ≠ .counter) (hs : s0.same kd s) :
    s0.same kd (State.deskew s a l hdr payload) := by
  unfold State.deskew
  try dsimp only
  repeat' (first | with_reducible (first | assumption | apply State.same_ite_fst | apply State.same_ite | apply State.used_same | apply State.takeBlocks_same | apply State.tryAlign_same | apply State.setLane_same | apply State.portLost_same))

theorem State.wrawReceive_same {kd : StateKind} {s0 : State} {s : State} {a : Nat} {l : Nat} {hdr : Nat} {payload : Nat} (h_fabric : kd ≠ .fabric) (h_lanes : kd ≠ .lanes) (h_capture : kd ≠ .capture) (h_sequencers : kd ≠ .sequencers) (h_ledger : kd ≠ .ledger) (h_outputs : kd ≠ .outputs) (h_counter : kd ≠ .counter) (hs : s0.same kd s) :
    s0.same kd (State.wrawReceive s a l hdr payload) := by
  unfold State.wrawReceive
  try dsimp only
  repeat' (first | with_reducible (first | assumption | apply State.same_ite_fst | apply State.same_ite | apply State.seeHeader_same | apply State.blockLock_same | apply State.deskew_same | apply State.setLane_same) | split)

theorem execWrawBlockReceive_same {kd : StateKind} {s0 : State} {l : LaneId} {hdr : Fin 4} {payload : BitVec 64} {s : State} (h_fabric : kd ≠ .fabric) (h_lanes : kd ≠ .lanes) (h_capture : kd ≠ .capture) (h_sequencers : kd ≠ .sequencers) (h_ledger : kd ≠ .ledger) (h_outputs : kd ≠ .outputs) (h_counter : kd ≠ .counter) (hs : s0.same kd s) :
    SameR kd s0 (execWrawBlockReceive l hdr payload s) := by
  unfold execWrawBlockReceive
  try dsimp only
  repeat' (first | with_reducible (first | assumption | apply SameR.next | apply SameR.ite | apply State.same_ite_fst | apply State.same_ite | apply SameO.none | apply SameO.some_id | apply SameO.some | apply SameO.ite | apply State.echoBits_same | apply State.wrawReceive_same) | split)

theorem State.wrawStream_same {kd : StateKind} {s0 : State} {s : State} {a : Nat} {l : Nat} {x3 : Nat} (h_fabric : kd ≠ .fabric) (h_lanes : kd ≠ .lanes) (h_capture : kd ≠ .capture) (h_sequencers : kd ≠ .sequencers) (h_ledger : kd ≠ .ledger) (h_outputs : kd ≠ .outputs) (h_counter : kd ≠ .counter) (hs : s0.same kd s) :
    s0.same kd (State.wrawStream s a l x3) := by
  revert hs
  induction x3 generalizing s a l with
  | zero =>
    intro hs; unfold State.wrawStream; try dsimp only
    repeat' (first | with_reducible (first | assumption | apply State.same_ite_fst | apply State.same_ite | apply State.seeHeader_same | apply State.blockLock_same | apply State.wrawReceive_same | apply State.setLane_same) | split)
  | succ n ih =>
    intro hs; unfold State.wrawStream; try dsimp only
    repeat' (first | with_reducible (first | assumption | apply State.same_ite_fst | apply State.same_ite | apply ih | apply State.seeHeader_same | apply State.blockLock_same | apply State.wrawReceive_same | apply State.setLane_same) | split)

theorem State.ethReceive_same {kd : StateKind} {s0 : State} {s : State} {a : Nat} {l : Nat} {e : EthRx} (h_fabric : kd ≠ .fabric) (h_lanes : kd ≠ .lanes) (h_capture : kd ≠ .capture) (h_sequencers : kd ≠ .sequencers) (h_ledger : kd ≠ .ledger) (h_outputs : kd ≠ .outputs) (h_counter : kd ≠ .counter) (hs : s0.same kd s) :
    s0.same kd (State.ethReceive s a l e) := by
  unfold State.ethReceive
  try dsimp only
  repeat' (first | with_reducible (first | assumption | apply State.same_ite_fst | apply State.same_ite | apply State.raise_same | apply State.lower_same | apply State.setB_same | apply State.count_same | apply State.used_same | apply State.emit_same | apply State.violate_same | apply State.dealFrame_same | apply State.startFrame_same | apply State.growFrame_same | apply State.portUp_same | apply State.portLost_same) | split)

theorem execEthBlockReceive_same {kd : StateKind} {s0 : State} {l : LaneId} {e : EthRx} {s : State} (h_fabric : kd ≠ .fabric) (h_lanes : kd ≠ .lanes) (h_capture : kd ≠ .capture) (h_sequencers : kd ≠ .sequencers) (h_ledger : kd ≠ .ledger) (h_outputs : kd ≠ .outputs) (h_counter : kd ≠ .counter) (hs : s0.same kd s) :
    SameR kd s0 (execEthBlockReceive l e s) := by
  unfold execEthBlockReceive
  try dsimp only
  repeat' (first | with_reducible (first | assumption | apply SameR.next | apply SameR.ite | apply State.same_ite_fst | apply State.same_ite | apply State.ethReceive_same) | split)

theorem State.pcieReceive_same {kd : StateKind} {s0 : State} {s : State} {a : Nat} {l : Nat} {sync : Nat} {bytes : List Byte} (h_lanes : kd ≠ .lanes) (h_outputs : kd ≠ .outputs) (hs : s0.same kd s) :
    s0.same kd (State.pcieReceive s a l sync bytes) := by
  unfold State.pcieReceive
  try dsimp only
  repeat' (first | with_reducible (first | assumption | apply State.same_ite_fst | apply State.same_ite | apply State.count_same | apply State.emit_same | apply State.setLane_same))

theorem execPcieBlockReceive_same {kd : StateKind} {s0 : State} {l : LaneId} {e : PcieRx} {s : State} (h_fabric : kd ≠ .fabric) (h_lanes : kd ≠ .lanes) (h_capture : kd ≠ .capture) (h_sequencers : kd ≠ .sequencers) (h_ledger : kd ≠ .ledger) (h_outputs : kd ≠ .outputs) (hs : s0.same kd s) :
    SameR kd s0 (execPcieBlockReceive l e s) := by
  unfold execPcieBlockReceive
  try dsimp only
  repeat' (first | with_reducible (first | assumption | apply SameR.next | apply SameR.ite | apply State.same_ite_fst | apply State.same_ite | apply State.echoBits_same | apply State.raise_same | apply State.lower_same | apply State.pcieReceive_same | apply State.portUp_same | apply State.portLost_same) | split)

theorem State.relane_same {kd : StateKind} {s0 : State} {s : State} {l : Nat} {div : Nat} {mod : Nat} {cls : Nat} {pllB : Bool} {prec : Bool} (h_fabric : kd ≠ .fabric) (h_lanes : kd ≠ .lanes) (h_capture : kd ≠ .capture) (h_sequencers : kd ≠ .sequencers) (h_ledger : kd ≠ .ledger) (h_outputs : kd ≠ .outputs) (hs : s0.same kd s) :
    s0.same kd (State.relane s l div mod cls pllB prec) := by
  unfold State.relane
  try dsimp only
  repeat' (first | with_reducible (first | assumption | apply State.same_ite_fst | apply State.same_ite | apply State.showEntry_same | apply State.startLane_same | apply State.set_same | apply State.setB_same | apply State.leaveReady_same))

theorem execPcieRateChange_same {kd : StateKind} {s0 : State} {a : LaneId} {r : Fin 3} {s : State} (h_fabric : kd ≠ .fabric) (h_lanes : kd ≠ .lanes) (h_capture : kd ≠ .capture) (h_sequencers : kd ≠ .sequencers) (h_ledger : kd ≠ .ledger) (h_outputs : kd ≠ .outputs) (hs : s0.same kd s) :
    SameR kd s0 (execPcieRateChange a r s) := by
  unfold execPcieRateChange
  try dsimp only
  repeat' (first | with_reducible (first | assumption | intro s x _ | intro s _ | intro x | apply SameR.next | apply SameR.ite | apply State.same_ite_fst | apply State.same_ite | apply State.same_foldl | apply State.same_foldl_fst | apply State.relane_same | apply State.lanesFloat_same))

theorem State.autoneg_same {kd : StateKind} {s0 : State} {s : State} {a : Nat} {partner : Nat} {prec : Bool} (h_fabric : kd ≠ .fabric) (h_lanes : kd ≠ .lanes) (h_capture : kd ≠ .capture) (h_sequencers : kd ≠ .sequencers) (h_ledger : kd ≠ .ledger) (h_outputs : kd ≠ .outputs) (hs : s0.same kd s) :
    s0.same kd (State.autoneg s a partner prec) := by
  unfold State.autoneg
  try dsimp only
  repeat' (first | with_reducible (first | assumption | intro s x _ | intro s _ | intro x | apply SameO.none | apply SameO.some_id | apply SameO.some | apply SameO.ite | apply State.same_foldl | apply State.same_foldl_fst | apply State.set_same | apply State.raise_same | apply State.lower_same | apply State.advertise_same | apply State.relane_same | apply State.lanesFloat_same) | split)

theorem execAutonegResolved_same {kd : StateKind} {s0 : State} {a : LaneId} {partner : Fin 32768} {prec : Bool} {s : State} (h_fabric : kd ≠ .fabric) (h_lanes : kd ≠ .lanes) (h_capture : kd ≠ .capture) (h_sequencers : kd ≠ .sequencers) (h_ledger : kd ≠ .ledger) (h_outputs : kd ≠ .outputs) (hs : s0.same kd s) :
    SameR kd s0 (execAutonegResolved a partner prec s) := by
  unfold execAutonegResolved
  try dsimp only
  repeat' (first | with_reducible (first | assumption | apply SameR.next | apply SameR.ite | apply State.same_ite_fst | apply State.same_ite | apply State.autoneg_same))

theorem State.trainFail_same {kd : StateKind} {s0 : State} {s : State} {l : Nat} (h_lanes : kd ≠ .lanes) (hs : s0.same kd s) :
    s0.same kd (State.trainFail s l) := by
  unfold State.trainFail
  try dsimp only
  repeat' (first | with_reducible (first | assumption | apply State.loadTx_same | apply State.set_same | apply State.raise_same | apply State.setLane_same))

theorem State.trainDone_same {kd : StateKind} {s0 : State} {s : State} {l : Nat} {prec : Option (Bool × Bool)} (h_lanes : kd ≠ .lanes) (hs : s0.same kd s) :
    s0.same kd (State.trainDone s l prec) := by
  unfold State.trainDone
  try dsimp only
  repeat' (first | with_reducible (first | assumption | apply SameO.map | apply State.set_same | apply State.setLane_same))

theorem State.trainSettle_same {kd : StateKind} {s0 : State} {s : State} {l : Nat} (h_lanes : kd ≠ .lanes) (hs : s0.same kd s) :
    s0.same kd (State.trainSettle s l) := by
  unfold State.trainSettle
  try dsimp only
  repeat' (first | with_reducible (first | assumption | apply State.same_ite_fst | apply State.same_ite | apply SameO.none | apply SameO.some_id | apply SameO.some | apply SameO.ite | apply State.trainDone_same))

theorem State.setTrain_same {kd : StateKind} {s0 : State} {s : State} {l : Nat} {t : TrainSt} (h_lanes : kd ≠ .lanes) (hs : s0.same kd s) :
    s0.same kd (State.setTrain s l t) := by
  unfold State.setTrain
  try dsimp only
  repeat' (first | with_reducible (first | assumption | apply State.setLane_same))

theorem State.actOnRequest_same {kd : StateKind} {s0 : State} {s : State} {l : Nat} {ctl : Nat} (h_lanes : kd ≠ .lanes) (hs : s0.same kd s) :
    s0.same kd (State.actOnRequest s l ctl) := by
  unfold State.actOnRequest
  try dsimp only
  repeat' (first | with_reducible (first | assumption | apply State.same_ite_fst | apply State.same_ite | apply SameO.none | apply SameO.some_id | apply SameO.some | apply SameO.ite | apply SameO.map | apply State.setTrain_same) | split)

theorem State.trainFrame_same {kd : StateKind} {s0 : State} {s : State} {l : Nat} {ctl : Nat} {st : Nat} (h_lanes : kd ≠ .lanes) (hs : s0.same kd s) :
    s0.same kd (State.trainFrame s l ctl st) := by
  unfold State.trainFrame
  try dsimp only
  repeat' (first | with_reducible (first | assumption | apply State.same_ite_fst | apply State.same_ite | apply State.set_same | apply State.trainFail_same | apply State.trainSettle_same | apply State.setTrain_same | apply State.actOnRequest_same) | split)

theorem State.trainBad_same {kd : StateKind} {s0 : State} {s : State} {l : Nat} (h_lanes : kd ≠ .lanes) (hs : s0.same kd s) :
    s0.same kd (State.trainBad s l) := by
  unfold State.trainBad
  try dsimp only
  repeat' (first | with_reducible (first | assumption | apply State.same_ite_fst | apply State.same_ite | apply State.trainFail_same | apply State.setTrain_same))

theorem execTrainingFrameReceive_same {kd : StateKind} {s0 : State} {l : LaneId} {cell : BitVec 64} {marker : Bool} {s : State} (h_lanes : kd ≠ .lanes) (hs : s0.same kd s) :
    SameR kd s0 (execTrainingFrameReceive l cell marker s) := by
  unfold execTrainingFrameReceive
  try dsimp only
  repeat' (first | with_reducible (first | assumption | apply SameR.next | apply SameR.ite | apply State.same_ite_fst | apply State.same_ite | apply SameO.none | apply SameO.some_id | apply SameO.some | apply SameO.ite | apply State.trainFrame_same | apply State.trainBad_same))

theorem State.trainEmit_same {kd : StateKind} {s0 : State} {s : State} {l : Nat} {ctl : Nat} {st : Nat} (h_lanes : kd ≠ .lanes) (h_outputs : kd ≠ .outputs) (hs : s0.same kd s) :
    s0.same kd (State.trainEmit s l ctl st) := by
  unfold State.trainEmit
  try dsimp only
  repeat' (first | with_reducible (first | assumption | apply State.same_ite_fst | apply State.same_ite | apply State.emit_same | apply State.trainFrame_same))

theorem State.trainCount_same {kd : StateKind} {s0 : State} {s : State} {l : Nat} (h_lanes : kd ≠ .lanes) (hs : s0.same kd s) :
    s0.same kd (State.trainCount s l) := by
  unfold State.trainCount
  try dsimp only
  repeat' (first | with_reducible (first | assumption | apply State.same_ite_fst | apply State.same_ite | apply SameO.none | apply SameO.some_id | apply SameO.some | apply SameO.ite | apply State.set_same | apply State.setTrain_same))

theorem State.trainSend_same {kd : StateKind} {s0 : State} {s : State} {l : Nat} {req : Option Nat} {ready : Bool} (h_lanes : kd ≠ .lanes) (h_outputs : kd ≠ .outputs) (hs : s0.same kd s) :
    s0.same kd (State.trainSend s l req ready) := by
  unfold State.trainSend
  try dsimp only
  repeat' (first | with_reducible (first | assumption | apply State.same_ite_fst | apply State.same_ite | apply SameO.none | apply SameO.some_id | apply SameO.some | apply SameO.ite | apply State.setTx_same | apply State.trainSettle_same | apply State.setTrain_same | apply State.trainEmit_same | apply State.trainCount_same) | split)

theorem execTrainingFrameSend_same {kd : StateKind} {s0 : State} {l : LaneId} {req : Option (Fin 128)} {ready : Bool} {s : State} (h_lanes : kd ≠ .lanes) (h_outputs : kd ≠ .outputs) (hs : s0.same kd s) :
    SameR kd s0 (execTrainingFrameSend l req ready s) := by
  unfold execTrainingFrameSend
  try dsimp only
  repeat' (first | with_reducible (first | assumption | apply SameR.next | apply SameR.ite | apply State.same_ite_fst | apply State.same_ite | apply SameO.none | apply SameO.some_id | apply SameO.some | apply SameO.ite | apply SameO.map | apply State.trainSend_same))

theorem execTrainNoFrameTimeout_same {kd : StateKind} {s0 : State} {l : LaneId} {s : State} (h_lanes : kd ≠ .lanes) (hs : s0.same kd s) :
    SameR kd s0 (execTrainNoFrameTimeout l s) := by
  unfold execTrainNoFrameTimeout
  try dsimp only
  repeat' (first | with_reducible (first | assumption | apply SameR.next | apply SameR.ite | apply State.same_ite_fst | apply State.same_ite | apply SameO.none | apply SameO.some_id | apply SameO.some | apply SameO.ite | apply State.trainFail_same))

theorem execTrainTmaxTimeout_same {kd : StateKind} {s0 : State} {l : LaneId} {s : State} (h_lanes : kd ≠ .lanes) (hs : s0.same kd s) :
    SameR kd s0 (execTrainTmaxTimeout l s) := by
  unfold execTrainTmaxTimeout
  try dsimp only
  repeat' (first | with_reducible (first | assumption | apply SameR.next | apply SameR.ite | apply State.same_ite_fst | apply State.same_ite | apply SameO.none | apply SameO.some_id | apply SameO.some | apply SameO.ite | apply State.trainFail_same))

theorem execFabricTrainStrobe_same {kd : StateKind} {s0 : State} {l : LaneId} {pre3 : Int} {pre2 : Int} {pre1 : Int} {main : Int} {post1 : Int} {post2 : Int} {s : State} (h_outputs : kd ≠ .outputs) (hs : s0.same kd s) :
    SameR kd s0 (execFabricTrainStrobe l pre3 pre2 pre1 main post1 post2 s) := by
  unfold execFabricTrainStrobe
  try dsimp only
  repeat' (first | with_reducible (first | assumption | apply SameR.next | apply SameR.ite | apply State.same_ite_fst | apply State.same_ite | apply SameO.none | apply SameO.some_id | apply SameO.some | apply SameO.ite | apply State.setTx_same | apply State.emit_same))

theorem execFabricTrainDone_same {kd : StateKind} {s0 : State} {l : LaneId} {s : State} (h_lanes : kd ≠ .lanes) (hs : s0.same kd s) :
    SameR kd s0 (execFabricTrainDone l s) := by
  unfold execFabricTrainDone
  try dsimp only
  repeat' (first | with_reducible (first | assumption | apply SameR.next | apply SameR.ite | apply State.same_ite_fst | apply State.same_ite | apply SameO.none | apply SameO.some_id | apply SameO.some | apply SameO.ite | apply State.trainDone_same))

theorem execFabricTrainFail_same {kd : StateKind} {s0 : State} {l : LaneId} {s : State} (h_lanes : kd ≠ .lanes) (hs : s0.same kd s) :
    SameR kd s0 (execFabricTrainFail l s) := by
  unfold execFabricTrainFail
  try dsimp only
  repeat' (first | with_reducible (first | assumption | apply SameR.next | apply SameR.ite | apply State.same_ite_fst | apply State.same_ite | apply SameO.none | apply SameO.some_id | apply SameO.some | apply SameO.ite | apply State.trainFail_same))

theorem execIeeeTrainingFrameReceive_same {kd : StateKind} {s0 : State} {l : LaneId} {e : IeeeTrain} {s : State} (h_lanes : kd ≠ .lanes) (h_outputs : kd ≠ .outputs) (hs : s0.same kd s) :
    SameR kd s0 (execIeeeTrainingFrameReceive l e s) := by
  unfold execIeeeTrainingFrameReceive
  try dsimp only
  repeat' (first | with_reducible (first | assumption | apply SameR.next | apply SameR.ite | apply State.same_ite_fst | apply State.same_ite | apply SameO.none | apply SameO.some_id | apply SameO.some | apply SameO.ite | apply State.setTx_same | apply State.emit_same | apply State.trainFail_same | apply State.trainDone_same) | split)

theorem State.prbsCount_same {kd : StateKind} {s0 : State} {s : State} {l : Nat} {err : Bool} (hs : s0.same kd s) :
    s0.same kd (State.prbsCount s l err) := by
  unfold State.prbsCount
  try dsimp only
  repeat' (first | with_reducible (first | assumption | apply State.same_ite_fst | apply State.same_ite | apply State.raise_same | apply State.wrap2_same))

theorem State.ssprqBit_same {kd : StateKind} {s0 : State} {s : State} {l : Nat} {b : Bool} (h_lanes : kd ≠ .lanes) (hs : s0.same kd s) :
    s0.same kd (State.ssprqBit s l b) := by
  unfold State.ssprqBit
  try dsimp only
  repeat' (first | with_reducible (first | assumption | apply State.same_ite_fst | apply State.same_ite | apply State.raise_same | apply State.lower_same | apply State.prbsCount_same | apply State.setLane_same))

theorem State.prbsBit_same {kd : StateKind} {s0 : State} {s : State} {l : Nat} {b : Bool} (h_lanes : kd ≠ .lanes) (hs : s0.same kd s) :
    s0.same kd (State.prbsBit s l b) := by
  unfold State.prbsBit
  try dsimp only
  repeat' (first | with_reducible (first | assumption | apply State.same_ite_fst | apply State.same_ite | apply State.raise_same | apply State.lower_same | apply State.prbsCount_same | apply State.setLane_same))

theorem State.fabricWords_same {kd : StateKind} {s0 : State} {s : State} {l : Nat} {x2 : Nat} (h_lanes : kd ≠ .lanes) (h_outputs : kd ≠ .outputs) (hs : s0.same kd s) :
    s0.same kd (State.fabricWords s l x2) := by
  revert hs
  induction x2 generalizing s l with
  | zero =>
    intro hs; unfold State.fabricWords; try dsimp only
    repeat' (first | with_reducible (first | assumption | apply State.same_ite_fst | apply State.same_ite | apply State.emit_same | apply State.setLane_same) | split)
  | succ n ih =>
    intro hs; unfold State.fabricWords; try dsimp only
    repeat' (first | with_reducible (first | assumption | apply State.same_ite_fst | apply State.same_ite | apply ih | apply State.emit_same | apply State.setLane_same) | split)

theorem State.hearPlaces_same {kd : StateKind} {s0 : State} {s : State} {l : Nat} {ps : List Nat} (h_lanes : kd ≠ .lanes) (h_outputs : kd ≠ .outputs) (hs : s0.same kd s) :
    s0.same kd (State.hearPlaces s l ps) := by
  unfold State.hearPlaces
  try dsimp only
  repeat' (first | with_reducible (first | assumption | intro s x _ | intro s _ | intro x | apply State.same_ite_fst | apply State.same_ite | apply State.same_foldl | apply State.same_foldl_fst | apply State.ssprqBit_same | apply State.prbsBit_same | apply State.fabricWords_same | apply State.setLane_same) | split)

theorem execPrbsCheck_same {kd : StateKind} {s0 : State} {l : LaneId} {v : List Int} {s : State} (h_lanes : kd ≠ .lanes) (h_outputs : kd ≠ .outputs) (hs : s0.same kd s) :
    SameR kd s0 (execPrbsCheck l v s) := by
  unfold execPrbsCheck
  try dsimp only
  repeat' (first | with_reducible (first | assumption | apply SameR.next | apply SameR.ite | apply State.same_ite_fst | apply State.same_ite | apply State.echoPlaces_same | apply State.hearPlaces_same))

theorem State.prbsInject_same {kd : StateKind} {s0 : State} {s : State} {l : Nat} (h_lanes : kd ≠ .lanes) (hs : s0.same kd s) :
    s0.same kd (State.prbsInject s l) := by
  unfold State.prbsInject
  try dsimp only
  repeat' (first | with_reducible (first | assumption | apply State.same_ite_fst | apply State.same_ite | apply State.setLane_same))

theorem State.prbsClear_same {kd : StateKind} {s0 : State} {s : State} {l : Nat} (hs : s0.same kd s) :
    s0.same kd (State.prbsClear s l) := by
  unfold State.prbsClear
  try dsimp only
  repeat' (first | with_reducible (first | assumption | apply State.lower_same | apply State.set2_same))

theorem State.writePrbs_same {kd : StateKind} {s0 : State} {s : State} {l : Nat} {v : Nat} (h_lanes : kd ≠ .lanes) (hs : s0.same kd s) :
    s0.same kd (State.writePrbs s l v) := by
  unfold State.writePrbs
  try dsimp only
  repeat' (first | with_reducible (first | assumption | apply State.same_ite_fst | apply State.same_ite | apply State.lower_same | apply State.wrAll_same | apply State.prbsInject_same | apply State.prbsClear_same | apply State.setLane_same))

theorem execPrbsInject_same {kd : StateKind} {s0 : State} {l : LaneId} {s : State} (h_lanes : kd ≠ .lanes) (h_answer : kd ≠ .answer) (hs : s0.same kd s) :
    SameR kd s0 (execPrbsInject l s) := by
  unfold execPrbsInject
  try dsimp only
  repeat' (first | with_reducible (first | assumption | intro s x _ | intro s _ | intro x | apply SameR.next | apply SameR.ite | apply State.access_same | apply State.prbsInject_same))

theorem execPrbsClear_same {kd : StateKind} {s0 : State} {l : LaneId} {s : State} (h_answer : kd ≠ .answer) (hs : s0.same kd s) :
    SameR kd s0 (execPrbsClear l s) := by
  unfold execPrbsClear
  try dsimp only
  repeat' (first | with_reducible (first | assumption | intro s x _ | intro s _ | intro x | apply SameR.next | apply SameR.ite | apply State.access_same | apply State.prbsClear_same))

theorem State.eyeScan_same {kd : StateKind} {s0 : State} {s : State} {l : Nat} {e : Nat} {src : Nat} (h_lanes : kd ≠ .lanes) (h_ledger : kd ≠ .ledger) (hs : s0.same kd s) :
    s0.same kd (State.eyeScan s l e src) := by
  unfold State.eyeScan
  try dsimp only
  repeat' (first | with_reducible (first | assumption | apply State.same_ite_fst | apply State.same_ite | apply SameO.none | apply SameO.some_id | apply SameO.some | apply SameO.ite | apply State.opBegin_same | apply State.opRefuse_same | apply State.raise_same | apply State.setLane_same))

theorem State.writeEye_same {kd : StateKind} {s0 : State} {s : State} {l : Nat} {v : Nat} {src : Nat} (h_lanes : kd ≠ .lanes) (h_ledger : kd ≠ .ledger) (hs : s0.same kd s) :
    s0.same kd (State.writeEye s l v src) := by
  unfold State.writeEye
  try dsimp only
  repeat' (first | with_reducible (first | assumption | apply State.same_ite_fst | apply State.same_ite | apply State.eyeScan_same))

theorem execEyeScanStart_same {kd : StateKind} {s0 : State} {l : LaneId} {src : Fin 4096} {v : Word} {s : State} (h_lanes : kd ≠ .lanes) (h_ledger : kd ≠ .ledger) (h_answer : kd ≠ .answer) (hs : s0.same kd s) :
    SameR kd s0 (execEyeScanStart l src v s) := by
  unfold execEyeScanStart
  try dsimp only
  repeat' (first | with_reducible (first | assumption | intro s x _ | intro s _ | intro x | apply SameR.next | apply SameR.ite | apply State.access_same | apply State.writeEye_same))

theorem State.eyeColumn_same {kd : StateKind} {s0 : State} {s : State} {l : Nat} {counts : List Nat} (h_memory : kd ≠ .memory) (h_reservations : kd ≠ .reservations) (h_requests : kd ≠ .requests) (h_shares : kd ≠ .shares) (h_hbm : kd ≠ .hbm) (h_qdr : kd ≠ .qdr) (h_walkers : kd ≠ .walkers) (h_lanes : kd ≠ .lanes) (h_ledger : kd ≠ .ledger) (h_counter : kd ≠ .counter) (hs : s0.same kd s) :
    s0.same kd (State.eyeColumn s l counts) := by
  unfold State.eyeColumn
  try dsimp only
  repeat' (first | with_reducible (first | assumption | apply State.same_ite_fst | apply State.same_ite | apply SameO.none | apply SameO.some_id | apply SameO.some | apply SameO.ite | apply State.setOp_same | apply State.opMove_same | apply State.opFail_same | apply State.setLane_same | apply State.netStore_same | refine State.same_of_fst (by assumption) ?_) | split)

theorem execEyeColumnDone_same {kd : StateKind} {s0 : State} {l : LaneId} {counts : List Nat} {s : State} (h_memory : kd ≠ .memory) (h_reservations : kd ≠ .reservations) (h_requests : kd ≠ .requests) (h_shares : kd ≠ .shares) (h_hbm : kd ≠ .hbm) (h_qdr : kd ≠ .qdr) (h_walkers : kd ≠ .walkers) (h_lanes : kd ≠ .lanes) (h_ledger : kd ≠ .ledger) (h_counter : kd ≠ .counter) (hs : s0.same kd s) :
    SameR kd s0 (execEyeColumnDone l counts s) := by
  unfold execEyeColumnDone
  try dsimp only
  repeat' (first | with_reducible (first | assumption | apply SameR.next | apply SameR.ite | apply State.eyeColumn_same))

theorem State.histClear_same {kd : StateKind} {s0 : State} {s : State} {l : Nat} (hs : s0.same kd s) :
    s0.same kd (State.histClear s l) := by
  unfold State.histClear
  try dsimp only
  repeat' (first | with_reducible (first | assumption | intro s x _ | intro s _ | intro x | apply State.same_foldl | apply State.same_foldl_fst | apply State.set_same))

theorem State.writeHist_same {kd : StateKind} {s0 : State} {s : State} {l : Nat} {v : Nat} (hs : s0.same kd s) :
    s0.same kd (State.writeHist s l v) := by
  unfold State.writeHist
  try dsimp only
  repeat' (first | with_reducible (first | assumption | apply State.same_ite_fst | apply State.same_ite | apply State.wrAll_same | apply State.histClear_same))

theorem execHistClear_same {kd : StateKind} {s0 : State} {l : LaneId} {s : State} (h_answer : kd ≠ .answer) (hs : s0.same kd s) :
    SameR kd s0 (execHistClear l s) := by
  unfold execHistClear
  try dsimp only
  repeat' (first | with_reducible (first | assumption | intro s x _ | intro s _ | intro x | apply SameR.next | apply SameR.ite | apply State.access_same | apply State.histClear_same))

theorem State.histSample_same {kd : StateKind} {s0 : State} {s : State} {l : Nat} {n : Nat} (h_lanes : kd ≠ .lanes) (h_counter : kd ≠ .counter) (hs : s0.same kd s) :
    s0.same kd (State.histSample s l n) := by
  unfold State.histSample
  try dsimp only
  repeat' (first | with_reducible (first | assumption | intro s x _ | intro s _ | intro x | apply State.same_ite_fst | apply State.same_ite | apply State.same_foldl | apply State.same_foldl_fst | apply State.count_same | apply State.used_same | apply State.setLane_same))

end Sys2Proof.Machine
end

