-- ==== Sys2Proof/Laws/SameFabric.lean ====
section
/-! SUPPORT. The kinds of state that every operation and meaning of Machine/Fabric.lean leaves as they are (Laws/Same.lean). -/
set_option maxRecDepth 4000
set_option linter.unusedVariables false
namespace Sys2Proof.Machine

theorem State.showPins_same {kd : StateKind} {s0 : State} {s : State} {n : Nat} (h_fabric : kd ≠ .fabric) (h_outputs : kd ≠ .outputs) (hs : s0.same kd s) :
    s0.same kd (State.showPins s n) := by
  unfold State.showPins
  try dsimp only
  repeat' (first | with_reducible (first | assumption | intro s x _ | intro s _ | intro x | apply State.same_ite_fst | apply State.same_ite | apply State.same_foldl | apply State.same_foldl_fst | apply State.emit_same | apply State.setFab_same))

theorem State.floatOutput_same {kd : StateKind} {s0 : State} {s : State} {n : Nat} {j : Nat} (h_fabric : kd ≠ .fabric) (h_capture : kd ≠ .capture) (h_sequencers : kd ≠ .sequencers) (h_ledger : kd ≠ .ledger) (h_outputs : kd ≠ .outputs) (hs : s0.same kd s) :
    s0.same kd (State.floatOutput s n j) := by
  unfold State.floatOutput
  try dsimp only
  repeat' (first | with_reducible (first | assumption | apply State.pulse_same | apply State.setBitOf_same))

theorem State.sampleFloats_same {kd : StateKind} {s0 : State} {s : State} {n : Nat} (h_fabric : kd ≠ .fabric) (h_capture : kd ≠ .capture) (h_sequencers : kd ≠ .sequencers) (h_ledger : kd ≠ .ledger) (h_outputs : kd ≠ .outputs) (hs : s0.same kd s) :
    s0.same kd (State.sampleFloats s n) := by
  unfold State.sampleFloats
  try dsimp only
  repeat' (first | with_reducible (first | assumption | intro s x _ | intro s _ | intro x | apply State.same_ite_fst | apply State.same_ite | apply State.same_foldl | apply State.same_foldl_fst | apply State.floatOutput_same | apply State.setFab_same))

theorem State.instant_same {kd : StateKind} {s0 : State} {s : State} {g : List FabEvt} (h_fabric : kd ≠ .fabric) (h_capture : kd ≠ .capture) (h_sequencers : kd ≠ .sequencers) (h_ledger : kd ≠ .ledger) (h_outputs : kd ≠ .outputs) (hs : s0.same kd s) :
    s0.same kd (State.instant s g) := by
  unfold State.instant
  try dsimp only
  repeat' (first | with_reducible (first | assumption | intro s x _ | intro s _ | intro x | apply State.same_ite_fst | apply State.same_ite | apply State.same_foldl | apply State.same_foldl_fst | apply State.showPins_same | apply State.sampleFloats_same | apply State.set_same | apply State.wires_same) | (simp only [State.same_mk]; first | refine State.same_upd_fabs ?_ ?_ | refine State.same_upd_fabs_pipes ?_ ?_))

theorem State.instants_same {kd : StateKind} {s0 : State} {s : State} {x1 : Nat} {x2 : List FabEvt} (h_fabric : kd ≠ .fabric) (h_capture : kd ≠ .capture) (h_sequencers : kd ≠ .sequencers) (h_clocks : kd ≠ .clocks) (h_ledger : kd ≠ .ledger) (h_outputs : kd ≠ .outputs) (hs : s0.same kd s) :
    s0.same kd (State.instants s x1 x2) := by
  induction x1 generalizing s x2 with
  | zero => exact hs
  | succ n ih =>
    cases x2 with
    | nil => exact hs
    | cons e t => exact ih (State.instant_same h_fabric h_capture h_sequencers h_ledger h_outputs (State.same_upd_elapsed h_clocks hs))

theorem State.fabCycle_same {kd : StateKind} {s0 : State} {s : State} {ns : Nat} (h_fabric : kd ≠ .fabric) (h_capture : kd ≠ .capture) (h_sequencers : kd ≠ .sequencers) (h_clocks : kd ≠ .clocks) (h_ledger : kd ≠ .ledger) (h_outputs : kd ≠ .outputs) (hs : s0.same kd s) :
    s0.same kd (State.fabCycle s ns) := by
  unfold State.fabCycle
  try dsimp only
  repeat' (first | with_reducible (first | assumption | apply State.instants_same) | (simp only [State.same_mk]; refine State.same_upd_elapsed ?_ ?_))

theorem State.loadFab_same {kd : StateKind} {s0 : State} {s : State} {n : Nat} {c : FabCfg} (h_fabric : kd ≠ .fabric) (hs : s0.same kd s) :
    s0.same kd (State.loadFab s n c) := by
  unfold State.loadFab
  try dsimp only
  repeat' (first | with_reducible (first | assumption | apply State.setFab_same))

theorem State.swapFab_same {kd : StateKind} {s0 : State} {s : State} {n : Nat} {p : Nat} {c : FabCfg} (h_fabric : kd ≠ .fabric) (hs : s0.same kd s) :
    s0.same kd (State.swapFab s n p c) := by
  unfold State.swapFab
  try dsimp only
  repeat' (first | with_reducible (first | assumption | apply State.setFab_same))

theorem State.engage_same {kd : StateKind} {s0 : State} {s : State} {n : Nat} {p : Nat} (h_fabric : kd ≠ .fabric) (hs : s0.same kd s) :
    s0.same kd (State.engage s n p) := by
  unfold State.engage
  try dsimp only
  repeat' (first | with_reducible (first | assumption | intro s x _ | intro s _ | intro x | apply State.same_ite_fst | apply State.same_ite | apply State.same_foldl | apply State.same_foldl_fst | apply State.setFab_same) | split)

theorem State.usrWritten_same {kd : StateKind} {s0 : State} {s : State} {n : Nat} {i : Nat} (h_fabric : kd ≠ .fabric) (hs : s0.same kd s) :
    s0.same kd (State.usrWritten s n i) := by
  unfold State.usrWritten
  try dsimp only
  repeat' (first | with_reducible (first | assumption | apply SameO.none | apply SameO.some_id | apply SameO.some | apply SameO.ite | apply State.setFab_same) | split)

end Sys2Proof.Machine
end

