-- ==== Sys2Proof/Laws/SameRegMap.lean ====
section
/-! SUPPORT. The kinds of state that every operation and meaning of Machine/RegMap.lean leaves as they are (Laws/Same.lean). -/
set_option maxRecDepth 4000
set_option linter.unusedVariables false
namespace Sys2Proof.Machine

theorem State.resetField_same {kd : StateKind} {s0 : State} {s : State} {n : Nat} (hs : s0.same kd s) :
    s0.same kd (State.resetField s n) := by
  unfold State.resetField
  try dsimp only
  repeat' (first | with_reducible (first | assumption | apply State.same_ite_fst | apply State.same_ite) | (simp only [State.same_mk]; refine State.same_upd_csr ?_) | split)

end Sys2Proof.Machine
end

