-- ==== Sys2Proof/Laws/SameRollCall.lean ====
section
/-! SUPPORT. The kinds of state that every operation and meaning of Machine/RollCall.lean leaves as they are (Laws/Same.lean). -/
set_option maxRecDepth 4000
set_option linter.unusedVariables false
namespace Sys2Proof.Machine

theorem State.clearBasins_same {kd : StateKind} {s0 : State} {s : State} {n : Nat} {first : Nat} {count : Nat} (h_fabric : kd ≠ .fabric) (hs : s0.same kd s) :
    s0.same kd (State.clearBasins s n first count) := by
  unfold State.clearBasins
  try dsimp only
  repeat' (first | with_reducible (first | assumption) | (simp only [State.same_mk]; refine State.same_upd_basins ?_ ?_))

theorem State.loadBasins_same {kd : StateKind} {s0 : State} {s : State} {n : Nat} {first : Nat} {count : Nat} {b : ImgBody} (h_fabric : kd ≠ .fabric) (hs : s0.same kd s) :
    s0.same kd (State.loadBasins s n first count b) := by
  unfold State.loadBasins
  try dsimp only
  repeat' (first | with_reducible (first | assumption | intro s x _ | intro s _ | intro x | apply State.same_foldl | apply State.same_foldl_fst | apply State.clearBasins_same) | (simp only [State.same_mk]; refine State.same_upd_basins ?_ ?_))

theorem State.showSlots_same {kd : StateKind} {s0 : State} {s : State} {n : Nat} (hs : s0.same kd s) :
    s0.same kd (State.showSlots s n) := by
  unfold State.showSlots
  try dsimp only
  repeat' (first | with_reducible (first | assumption | intro s x _ | intro s _ | intro x | apply State.same_foldl | apply State.same_foldl_fst | apply State.set_same | apply State.setB_same))

theorem State.applyBody_same {kd : StateKind} {s0 : State} {s : State} {n : Nat} {b : ImgBody} {det : List (Fin 8)} (h_fabric : kd ≠ .fabric) (hs : s0.same kd s) :
    s0.same kd (State.applyBody s n b det) := by
  unfold State.applyBody
  try dsimp only
  repeat' (first | with_reducible (first | assumption | intro s x _ | intro s _ | intro x | apply State.same_ite_fst | apply State.same_ite | apply State.same_foldl | apply State.same_foldl_fst | apply State.loadFab_same | apply State.set_same | apply State.raise_same | apply State.setB_same | apply State.set2_same | apply State.setBitOf_same | apply State.loadBasins_same) | (simp only [State.same_mk]; refine State.same_upd_fields ?_ ?_))

theorem State.releaseAt_same {kd : StateKind} {s0 : State} {s : State} {t : Nat} (hs : s0.same kd s) :
    s0.same kd (State.releaseAt s t) := by
  unfold State.releaseAt
  try dsimp only
  repeat' (first | with_reducible (first | assumption | apply State.raise_same | apply State.setStamp_same))

theorem execReleasePoint_same {kd : StateKind} {s0 : State} {level : Bool} {s : State} (hs : s0.same kd s) :
    SameR kd s0 (execReleasePoint level s) := by
  unfold execReleasePoint
  try dsimp only
  repeat' (first | with_reducible (first | assumption | apply SameR.next | apply SameR.ite | apply State.same_ite_fst | apply State.same_ite | apply State.setB_same | apply State.releaseAt_same))

theorem execSyncTimeout_same {kd : StateKind} {s0 : State} {s : State} (hs : s0.same kd s) :
    SameR kd s0 (execSyncTimeout s) := by
  unfold execSyncTimeout
  try dsimp only
  repeat' (first | with_reducible (first | assumption | apply SameR.next | apply SameR.ite | apply State.same_ite_fst | apply State.same_ite | apply State.raise_same | apply State.releaseAt_same))

theorem State.stepDone_same {kd : StateKind} {s0 : State} {s : State} {n : Nat} (h_fabric : kd ≠ .fabric) (h_management : kd ≠ .management) (h_outputs : kd ≠ .outputs) (hs : s0.same kd s) :
    s0.same kd (State.stepDone s n) := by
  unfold State.stepDone
  try dsimp only
  repeat' (first | with_reducible (first | assumption | apply State.same_ite_fst | apply State.same_ite | apply State.showPins_same | apply State.set_same | apply State.setBitOf_same) | (simp only [State.same_mk]; refine State.same_upd_boot ?_ ?_))

theorem execStartupStep_same {kd : StateKind} {s0 : State} {n : FieldId} {s : State} (h_fabric : kd ≠ .fabric) (h_management : kd ≠ .management) (h_outputs : kd ≠ .outputs) (hs : s0.same kd s) :
    SameR kd s0 (execStartupStep n s) := by
  unfold execStartupStep
  try dsimp only
  repeat' (first | with_reducible (first | assumption | apply SameR.next | apply SameR.ite | apply State.same_ite_fst | apply State.same_ite | apply State.stepDone_same) | (simp only [State.same_mk]; refine State.same_upd_boot ?_ ?_) | split)

theorem execFabricPllLock_same {kd : StateKind} {s0 : State} {n : FieldId} {i : Fin 6} {s : State} (h_fabric : kd ≠ .fabric) (h_management : kd ≠ .management) (h_outputs : kd ≠ .outputs) (hs : s0.same kd s) :
    SameR kd s0 (execFabricPllLock n i s) := by
  unfold execFabricPllLock
  try dsimp only
  repeat' (first | with_reducible (first | assumption | apply SameR.next | apply SameR.ite | apply State.same_ite_fst | apply State.same_ite | apply State.set_same | apply State.setBitOf_same | apply State.stepDone_same))

theorem execServiceEntry_same {kd : StateKind} {s0 : State} {s : State} (hs : s0.same kd s) :
    SameR kd s0 (execServiceEntry s) := by
  unfold execServiceEntry
  try dsimp only
  repeat' (first | with_reducible (first | assumption | apply SameR.next | apply SameR.ite | apply State.same_ite_fst | apply State.same_ite | apply State.set_same))

theorem execRecoveryAccessEntry_same {kd : StateKind} {s0 : State} {s : State} (hs : s0.same kd s) :
    SameR kd s0 (execRecoveryAccessEntry s) := by
  unfold execRecoveryAccessEntry
  try dsimp only
  repeat' (first | with_reducible (first | assumption | apply SameR.next | apply SameR.ite | apply State.same_ite_fst | apply State.same_ite | apply State.set_same))

theorem State.writePcmd_same {kd : StateKind} {s0 : State} {s : State} {n : Nat} {v : Nat} {src : Nat} (h_reservations : kd ≠ .reservations) (h_flume : kd ≠ .flume) (h_fabric : kd ≠ .fabric) (h_ledger : kd ≠ .ledger) (hs : s0.same kd s) :
    s0.same kd (State.writePcmd s n v src) := by
  unfold State.writePcmd
  try dsimp only
  repeat' (first | with_reducible (first | assumption | apply State.same_ite_fst | apply State.same_ite | apply State.engage_same | apply State.opBegin_same | apply State.opRefuse_same | apply State.opMove_same | apply State.set_same | apply State.raise_same | apply State.setSwap_same) | (simp only [State.same_mk]; refine State.same_upd_resv ?_ ?_) | split)

theorem execParcelSwap_same {kd : StateKind} {s0 : State} {n : FieldId} {v : Word} {src : Fin 4096} {s : State} (h_reservations : kd ≠ .reservations) (h_flume : kd ≠ .flume) (h_fabric : kd ≠ .fabric) (h_ledger : kd ≠ .ledger) (h_answer : kd ≠ .answer) (hs : s0.same kd s) :
    SameR kd s0 (execParcelSwap n v src s) := by
  unfold execParcelSwap
  try dsimp only
  repeat' (first | with_reducible (first | assumption | intro s x _ | intro s _ | intro x | apply SameR.next | apply SameR.ite | apply State.access_same | apply State.writePcmd_same))

theorem State.swapBlank_same {kd : StateKind} {s0 : State} {s : State} {n : Nat} {w : SwapSt} {err : Nat} (h_flume : kd ≠ .flume) (h_fabric : kd ≠ .fabric) (h_ledger : kd ≠ .ledger) (hs : s0.same kd s) :
    s0.same kd (State.swapBlank s n w err) := by
  unfold State.swapBlank
  try dsimp only
  repeat' (first | with_reducible (first | assumption | apply State.swapFab_same | apply State.opFail_same | apply State.set_same | apply State.endSwap_same | apply State.clearBasins_same))

theorem execParcelDrained_same {kd : StateKind} {s0 : State} {n : FieldId} {s : State} (h_flume : kd ≠ .flume) (h_fabric : kd ≠ .fabric) (h_ledger : kd ≠ .ledger) (hs : s0.same kd s) :
    SameR kd s0 (execParcelDrained n s) := by
  unfold execParcelDrained
  try dsimp only
  repeat' (first | with_reducible (first | assumption | apply SameR.next | apply SameR.ite | apply State.same_ite_fst | apply State.same_ite | apply SameO.none | apply SameO.some_id | apply SameO.some | apply SameO.ite | apply State.opMove_same | apply State.setSwap_same | apply State.swapBlank_same) | split)

theorem State.swapPiece_same {kd : StateKind} {s0 : State} {s : State} {n : Nat} {w : SwapSt} (h_flume : kd ≠ .flume) (h_ledger : kd ≠ .ledger) (h_counter : kd ≠ .counter) (hs : s0.same kd s) :
    s0.same kd (State.swapPiece s n w) := by
  unfold State.swapPiece
  try dsimp only
  repeat' (first | with_reducible (first | assumption | apply State.same_ite_fst | apply State.same_ite | apply State.opMove_same | apply State.used_same | apply State.setSwap_same))

theorem State.swapCycle_same {kd : StateKind} {s0 : State} {s : State} (h_flume : kd ≠ .flume) (h_ledger : kd ≠ .ledger) (h_counter : kd ≠ .counter) (hs : s0.same kd s) :
    s0.same kd (State.swapCycle s) := by
  unfold State.swapCycle
  try dsimp only
  repeat' (first | with_reducible (first | assumption | intro s x _ | intro s _ | intro x | apply State.same_ite_fst | apply State.same_ite | apply State.same_foldl | apply State.same_foldl_fst | apply State.swapPiece_same) | split)

theorem execParcelWritten_same {kd : StateKind} {s0 : State} {n : FieldId} {ok : Bool} {s : State} (h_flume : kd ≠ .flume) (h_fabric : kd ≠ .fabric) (h_ledger : kd ≠ .ledger) (hs : s0.same kd s) :
    SameR kd s0 (execParcelWritten n ok s) := by
  unfold execParcelWritten
  try dsimp only
  repeat' (first | with_reducible (first | assumption | apply SameR.next | apply SameR.ite | apply State.same_ite_fst | apply State.same_ite | apply State.swapFab_same | apply State.opMove_same | apply State.setSwap_same | apply State.loadBasins_same | apply State.swapBlank_same) | split)

theorem State.replace_same {kd : StateKind} {s0 : State} {s : State} {n : Nat} {p : Nat} {b : ImgBody} (h_fabric : kd ≠ .fabric) (hs : s0.same kd s) :
    s0.same kd (State.replace s n p b) := by
  unfold State.replace
  try dsimp only
  repeat' (first | with_reducible (first | assumption | intro s x _ | intro s _ | intro x | apply State.same_foldl | apply State.same_foldl_fst) | (simp only [State.same_mk]; refine State.same_upd_fields ?_ ?_))

theorem execParcelActive_same {kd : StateKind} {s0 : State} {n : FieldId} {s : State} (h_flume : kd ≠ .flume) (h_fabric : kd ≠ .fabric) (h_ledger : kd ≠ .ledger) (hs : s0.same kd s) :
    SameR kd s0 (execParcelActive n s) := by
  unfold execParcelActive
  try dsimp only
  repeat' (first | with_reducible (first | assumption | apply SameR.next | apply SameR.ite | apply State.same_ite_fst | apply State.same_ite | apply State.opDone_same | apply State.set_same | apply State.wrap_same | apply State.endSwap_same | apply State.replace_same) | split)

theorem execParcelWedged_same {kd : StateKind} {s0 : State} {n : FieldId} {s : State} (h_flume : kd ≠ .flume) (h_ledger : kd ≠ .ledger) (hs : s0.same kd s) :
    SameR kd s0 (execParcelWedged n s) := by
  unfold execParcelWedged
  try dsimp only
  repeat' (first | with_reducible (first | assumption | apply SameR.next | apply SameR.ite | apply State.same_ite_fst | apply State.same_ite | apply State.opFail_same | apply State.set_same | apply State.endSwap_same) | split)

end Sys2Proof.Machine
end

