-- ==== Sys2Proof/Laws/SamePower.lean ====
section
/-! SUPPORT. The kinds of state that every operation and meaning of Machine/Power.lean leaves as they are (Laws/Same.lean). -/
set_option maxRecDepth 4000
set_option linter.unusedVariables false
namespace Sys2Proof.Machine

theorem execPerstRelease_same {kd : StateKind} {s0 : State} {loader : Bool} {s : State} (h_stores : kd ≠ .stores) (h_flume : kd ≠ .flume) (h_capture : kd ≠ .capture) (h_log : kd ≠ .log) (h_host : kd ≠ .host) (h_management : kd ≠ .management) (hs : s0.same kd s) :
    SameR kd s0 (execPerstRelease loader s) := by
  unfold execPerstRelease
  try dsimp only
  repeat' (first | with_reducible (first | assumption | apply SameR.next | apply SameR.ite | apply State.unhold_same | apply State.pkrRelease_same) | (simp only [State.same_mk]; refine State.same_upd_cxl ?_ ?_))

theorem State.fieldOff_same {kd : StateKind} {s0 : State} {s : State} {n : Nat} (h_programs : kd ≠ .programs) (h_engines : kd ≠ .engines) (h_fabric : kd ≠ .fabric) (h_lanes : kd ≠ .lanes) (h_capture : kd ≠ .capture) (h_sequencers : kd ≠ .sequencers) (h_clocks : kd ≠ .clocks) (h_debug : kd ≠ .debug) (h_outputs : kd ≠ .outputs) (hs : s0.same kd s) :
    s0.same kd (State.fieldOff s n) := by
  unfold State.fieldOff
  try dsimp only
  repeat' (first | with_reducible (first | assumption | apply State.showPins_same | apply State.dropFab_same | apply State.resetField_same | apply State.clearBasins_same) | (simp only [State.same_mk]; refine State.same_upd_cfes_chan_code_engs_furs_lanes_loaders_patchRam_ports_rings_slaves ?_ ?_ ?_ ?_ ?_ ?_ ?_ ?_))

theorem State.fallowEnd_same {kd : StateKind} {s0 : State} {s : State} (h_programs : kd ≠ .programs) (h_engines : kd ≠ .engines) (h_fabric : kd ≠ .fabric) (h_lanes : kd ≠ .lanes) (h_capture : kd ≠ .capture) (h_sequencers : kd ≠ .sequencers) (h_clocks : kd ≠ .clocks) (h_debug : kd ≠ .debug) (h_management : kd ≠ .management) (h_outputs : kd ≠ .outputs) (hs : s0.same kd s) :
    s0.same kd (State.fallowEnd s) := by
  unfold State.fallowEnd
  try dsimp only
  repeat' (first | with_reducible (first | assumption | apply State.same_ite_fst | apply State.same_ite | apply State.lower_same | apply State.setBitOf_same | apply State.clearBitOf_same | apply State.fieldOff_same | apply State.setDomains_same) | (simp only [State.same_mk]; refine State.same_upd_pow ?_ ?_) | split)

theorem State.pwrRefuse_same {kd : StateKind} {s0 : State} {s : State} {code : Nat} (hs : s0.same kd s) :
    s0.same kd (State.pwrRefuse s code) := by
  unfold State.pwrRefuse
  try dsimp only
  repeat' (first | with_reducible (first | assumption | apply State.set_same | apply State.raise_same))

theorem State.writeAtpkr_same {kd : StateKind} {s0 : State} {s : State} {v : Nat} (hs : s0.same kd s) :
    s0.same kd (State.writeAtpkr s v) := by
  unfold State.writeAtpkr
  try dsimp only
  repeat' (first | with_reducible (first | assumption | apply State.same_ite_fst | apply State.same_ite | apply State.atpkrRefused_same | apply State.set_same))

theorem execFallowAtpkrWrite_same {kd : StateKind} {s0 : State} {v : Word} {s : State} (h_answer : kd ≠ .answer) (hs : s0.same kd s) :
    SameR kd s0 (execFallowAtpkrWrite v s) := by
  unfold execFallowAtpkrWrite
  try dsimp only
  repeat' (first | with_reducible (first | assumption | intro s x _ | intro s _ | intro x | apply SameR.next | apply SameR.ite | apply State.access_same | apply State.writeAtpkr_same))

theorem State.writeHbmop_same {kd : StateKind} {s0 : State} {s : State} {v : Nat} (hs : s0.same kd s) :
    s0.same kd (State.writeHbmop s v) := by
  unfold State.writeHbmop
  try dsimp only
  repeat' (first | with_reducible (first | assumption | intro s x _ | intro s _ | intro x | apply State.same_ite_fst | apply State.same_ite | apply State.same_foldl | apply State.same_foldl_fst | apply State.writeShadow_same | apply State.writeFchg_same | apply State.set_same | apply State.raise_same | apply State.w1c_same))

theorem execHbmOpChange_same {kd : StateKind} {s0 : State} {v : Word} {s : State} (h_answer : kd ≠ .answer) (hs : s0.same kd s) :
    SameR kd s0 (execHbmOpChange v s) := by
  unfold execHbmOpChange
  try dsimp only
  repeat' (first | with_reducible (first | assumption | intro s x _ | intro s _ | intro x | apply SameR.next | apply SameR.ite | apply State.access_same | apply State.writeHbmop_same))

theorem execQuadGate_same {kd : StateKind} {s0 : State} {q : QuadId} {s : State} (hs : s0.same kd s) :
    SameR kd s0 (execQuadGate q s) := by
  unfold execQuadGate
  try dsimp only
  repeat' (first | with_reducible (first | assumption | apply SameR.next | apply SameR.ite | apply State.same_ite_fst | apply State.same_ite | apply State.setBitOf_same | apply State.clearBitOf_same))

theorem execQuadWake_same {kd : StateKind} {s0 : State} {l : LaneId} {k : Fin 4} {v : Word} {s : State} (h_fabric : kd ≠ .fabric) (h_lanes : kd ≠ .lanes) (h_capture : kd ≠ .capture) (h_sequencers : kd ≠ .sequencers) (h_ledger : kd ≠ .ledger) (h_outputs : kd ≠ .outputs) (h_answer : kd ≠ .answer) (hs : s0.same kd s) :
    SameR kd s0 (execQuadWake l k v s) := by
  unfold execQuadWake
  try dsimp only
  repeat' (first | with_reducible (first | assumption | intro s x _ | intro s _ | intro x | apply SameR.next | apply SameR.ite | apply State.same_ite_fst | apply State.same_ite | apply State.writeCfeCtrl_same | apply State.writeFurCtrl_same | apply State.writeLnCtrl_same | apply State.access_same | apply State.wakeQuad_same) | split)

theorem execBankGate_same {kd : StateKind} {s0 : State} {i : RsvId} {b : Fin 16} {s : State} (hs : s0.same kd s) :
    SameR kd s0 (execBankGate i b s) := by
  unfold execBankGate
  try dsimp only
  repeat' (first | with_reducible (first | assumption | apply SameR.next | apply SameR.ite | apply State.same_ite_fst | apply State.same_ite | apply State.setBitOf_same))

theorem State.readTemp_same {kd : StateKind} {s0 : State} {s : State} {temp : Field} {peak : Field} {t : Byte} {i : Nat} {j : Nat} (hs : s0.same kd s) :
    s0.same kd (State.readTemp s temp peak t i j) := by
  unfold State.readTemp
  try dsimp only
  repeat' (first | with_reducible (first | assumption | apply State.same_ite_fst | apply State.same_ite | apply State.set_same))

theorem State.showDrift_same {kd : StateKind} {s0 : State} {s : State} {n : Nat} (hs : s0.same kd s) :
    s0.same kd (State.showDrift s n) := by
  unfold State.showDrift
  try dsimp only
  repeat' (first | with_reducible (first | assumption | apply State.same_ite_fst | apply State.same_ite | apply State.setB_same))

theorem State.readSensors_same {kd : StateKind} {s0 : State} {s : State} {r : Sensors} (h_log : kd ≠ .log) (h_management : kd ≠ .management) (h_counter : kd ≠ .counter) (hs : s0.same kd s) :
    s0.same kd (State.readSensors s r) := by
  unfold State.readSensors
  try dsimp only
  repeat' (first | with_reducible (first | assumption | intro s x _ | intro s _ | intro x | apply State.same_ite_fst | apply State.same_ite | apply State.same_foldl | apply State.same_foldl_fst | apply State.set_same | apply State.raise_same | apply State.lower_same | apply State.used_same | apply State.logEvent_same | apply State.readTemp_same | apply State.showDrift_same) | (simp only [State.same_mk]; refine State.same_upd_pow ?_ ?_))

theorem execPowerLimit_same {kd : StateKind} {s0 : State} {s : State} (h_log : kd ≠ .log) (h_counter : kd ≠ .counter) (hs : s0.same kd s) :
    SameR kd s0 (execPowerLimit s) := by
  unfold execPowerLimit
  try dsimp only
  repeat' (first | with_reducible (first | assumption | apply SameR.next | apply SameR.ite | apply State.same_ite_fst | apply State.same_ite | apply State.raise_same | apply State.used_same | apply State.logEvent_same))

theorem execSupplyWarn_same {kd : StateKind} {s0 : State} {die : Fin 9} {ch : Fin 6} {s : State} (h_log : kd ≠ .log) (hs : s0.same kd s) :
    SameR kd s0 (execSupplyWarn die ch s) := by
  unfold execSupplyWarn
  try dsimp only
  repeat' (first | with_reducible (first | assumption | apply SameR.next | apply SameR.ite | apply State.same_ite_fst | apply State.same_ite | apply State.raise_same | apply State.logEvent_same))

theorem execPkrRelease_same {kd : StateKind} {s0 : State} {loader : Bool} {ok : Bool} {s : State} (h_stores : kd ≠ .stores) (h_flume : kd ≠ .flume) (h_capture : kd ≠ .capture) (h_log : kd ≠ .log) (h_management : kd ≠ .management) (hs : s0.same kd s) :
    SameR kd s0 (execPkrRelease loader ok s) := by
  unfold execPkrRelease
  try dsimp only
  repeat' (first | with_reducible (first | assumption | apply SameR.next | apply SameR.ite | apply State.same_ite_fst | apply State.same_ite | apply State.unhold_same | apply State.pkrRelease_same))

theorem execHbmClockLost_same {kd : StateKind} {s0 : State} {m : HmcId} {p : Fin 32} {i : Option (Fin 32)} {bank : Fin 48} {row : Fin 24576} {s : State} (h_walkers : kd ≠ .walkers) (h_lanes : kd ≠ .lanes) (h_capture : kd ≠ .capture) (h_ledger : kd ≠ .ledger) (h_log : kd ≠ .log) (h_debug : kd ≠ .debug) (hs : s0.same kd s) :
    SameR kd s0 (execHbmClockLost m p i bank row s) := by
  unfold execHbmClockLost
  try dsimp only
  repeat' (first | with_reducible (first | assumption | apply SameR.next | apply SameR.ite | apply State.same_ite_fst | apply State.same_ite | apply SameO.none | apply SameO.some_id | apply SameO.some | apply SameO.ite | apply State.hbmFreeze_same | apply State.setBitOf_same | apply State.clearBitOf_same) | split)

end Sys2Proof.Machine
end

