-- ==== Sys2Proof/Laws/SameQdr.lean ====
section
/-! SUPPORT. The kinds of state that every operation and meaning of Machine/Qdr.lean leaves as they are (Laws/Same.lean). -/
set_option maxRecDepth 4000
set_option linter.unusedVariables false
namespace Sys2Proof.Machine

theorem State.initSettle_same {kd : StateKind} {s0 : State} {s : State} {n : Nat} (hs : s0.same kd s) :
    s0.same kd (State.initSettle s n) := by
  unfold State.initSettle
  try dsimp only
  repeat' (first | with_reducible (first | assumption | apply State.same_ite_fst | apply State.same_ite | apply State.raise_same))

theorem State.qdrReady_same {kd : StateKind} {s0 : State} {s : State} {n : Nat} (h_qdr : kd ≠ .qdr) (h_walkers : kd ≠ .walkers) (hs : s0.same kd s) :
    s0.same kd (State.qdrReady s n) := by
  unfold State.qdrReady
  try dsimp only
  repeat' (first | with_reducible (first | assumption | apply State.same_ite_fst | apply State.same_ite | apply State.autoNext_same | apply State.uncheck_same | apply State.setQdr_same | apply State.set_same | apply State.setBitOf_same))

theorem execQdrTrainDone_same {kd : StateKind} {s0 : State} {n : FieldId} {fail : Fin 6} {res : Word} {s : State} (h_qdr : kd ≠ .qdr) (h_walkers : kd ≠ .walkers) (hs : s0.same kd s) :
    SameR kd s0 (execQdrTrainDone n fail res s) := by
  unfold execQdrTrainDone
  try dsimp only
  repeat' (first | with_reducible (first | assumption | apply SameR.next | apply SameR.ite | apply State.same_ite_fst | apply State.same_ite | apply State.set_same | apply State.initSettle_same | apply State.qdrReady_same))

theorem State.loseFieldRange_same {kd : StateKind} {s0 : State} {s : State} {n : Nat} {mem : Nat} (h_walkers : kd ≠ .walkers) (h_ledger : kd ≠ .ledger) (hs : s0.same kd s) :
    s0.same kd (State.loseFieldRange s n mem) := by
  unfold State.loseFieldRange
  try dsimp only
  repeat' (first | with_reducible (first | assumption | apply State.same_ite_fst | apply State.same_ite | apply SameO.none | apply SameO.some_id | apply SameO.some | apply SameO.ite | apply State.loseRange_same) | split)

theorem State.qdrFreeze_same {kd : StateKind} {s0 : State} {s : State} {n : Nat} {port : Nat} {op : Nat} {client : Nat} {addr : Nat} (h_memory : kd ≠ .memory) (h_reservations : kd ≠ .reservations) (h_requests : kd ≠ .requests) (h_qdr : kd ≠ .qdr) (h_walkers : kd ≠ .walkers) (h_lanes : kd ≠ .lanes) (h_sequencers : kd ≠ .sequencers) (h_ledger : kd ≠ .ledger) (h_outputs : kd ≠ .outputs) (h_counter : kd ≠ .counter) (hs : s0.same kd s) :
    s0.same kd (State.qdrFreeze s n port op client addr) := by
  unfold State.qdrFreeze
  try dsimp only
  repeat' (first | with_reducible (first | assumption | intro s x _ | intro s _ | intro x | apply State.same_ite_fst | apply State.same_ite | apply State.same_foldl | apply State.same_foldl_fst | apply State.retryWaiting_same | apply State.set_same | apply State.raise_same | apply State.clearBitOf_same | apply State.setStamp_same | apply State.furFault_same | apply State.initSettle_same | apply State.loseFieldRange_same) | (simp only [State.same_mk]; refine State.same_upd_autoInit ?_ ?_))

theorem execQdrFreeze_same {kd : StateKind} {s0 : State} {n : FieldId} {portB : Bool} {write : Bool} {client : Fin 3} {addr : Fin 4194304} {s : State} (h_memory : kd ≠ .memory) (h_reservations : kd ≠ .reservations) (h_requests : kd ≠ .requests) (h_qdr : kd ≠ .qdr) (h_walkers : kd ≠ .walkers) (h_lanes : kd ≠ .lanes) (h_sequencers : kd ≠ .sequencers) (h_ledger : kd ≠ .ledger) (h_outputs : kd ≠ .outputs) (h_counter : kd ≠ .counter) (hs : s0.same kd s) :
    SameR kd s0 (execQdrFreeze n portB write client addr s) := by
  unfold execQdrFreeze
  try dsimp only
  repeat' (first | with_reducible (first | assumption | apply SameR.next | apply SameR.ite | apply State.same_ite_fst | apply State.same_ite | apply State.qdrFreeze_same))

theorem State.qdrUser_same {kd : StateKind} {s0 : State} {s : State} {n : Nat} {portB : Bool} {we : Bool} {addr : Nat} {data : Nat} {ready : List (List (Fin 3))} (h_memory : kd ≠ .memory) (h_reservations : kd ≠ .reservations) (h_qdr : kd ≠ .qdr) (h_walkers : kd ≠ .walkers) (h_answer : kd ≠ .answer) (h_counter : kd ≠ .counter) (hs : s0.same kd s) :
    s0.same kd (State.qdrUser s n portB we addr data ready) := by
  unfold State.qdrUser
  try dsimp only
  repeat' (first | with_reducible (first | assumption | apply State.same_ite_fst | apply State.same_ite | apply SameO.none | apply SameO.some_id | apply SameO.some | apply SameO.ite | apply State.qdrAccess_same | apply State.readMem_same | apply State.writeMem_same | apply State.used_same | apply State.answer_same) | (simp only [State.same_mk]; refine State.same_upd_resp ?_ ?_))

theorem State.holdB_same {kd : StateKind} {s0 : State} {s : State} {n : Nat} (h_qdr : kd ≠ .qdr) (hs : s0.same kd s) :
    s0.same kd (State.holdB s n) := by
  unfold State.holdB
  try dsimp only
  repeat' (first | with_reducible (first | assumption | apply State.setQdr_same))

theorem State.qdrBoth_same {kd : StateKind} {s0 : State} {s : State} {n : Nat} {portB : Bool} {a : QdrAcc} {b : QdrAcc} {ra : List (List (Fin 3))} {rb : List (List (Fin 3))} (h_memory : kd ≠ .memory) (h_reservations : kd ≠ .reservations) (h_qdr : kd ≠ .qdr) (h_walkers : kd ≠ .walkers) (h_outputs : kd ≠ .outputs) (h_answer : kd ≠ .answer) (h_counter : kd ≠ .counter) (hs : s0.same kd s) :
    s0.same kd (State.qdrBoth s n portB a b ra rb) := by
  unfold State.qdrBoth
  try dsimp only
  repeat' (first | with_reducible (first | assumption | apply State.same_ite_fst | apply State.same_ite | apply State.emit_same | apply State.qdrUser_same | apply State.holdB_same) | (simp only [State.same_mk]; refine State.same_upd_resp ?_ ?_))

theorem execQdrUserRequest_same {kd : StateKind} {s0 : State} {n : FieldId} {portB : Bool} {we : Bool} {addr : Fin 4194304} {data : BitVec 64} {ready : List (List (Fin 3))} {other : Option QdrAcc} {s : State} (h_memory : kd ≠ .memory) (h_reservations : kd ≠ .reservations) (h_qdr : kd ≠ .qdr) (h_walkers : kd ≠ .walkers) (h_outputs : kd ≠ .outputs) (h_answer : kd ≠ .answer) (h_counter : kd ≠ .counter) (hs : s0.same kd s) :
    SameR kd s0 (execQdrUserRequest n portB we addr data ready other s) := by
  unfold execQdrUserRequest
  try dsimp only
  repeat' (first | with_reducible (first | assumption | apply SameR.next | apply SameR.ite | apply State.same_ite_fst | apply State.same_ite | apply SameO.none | apply SameO.some_id | apply SameO.some | apply SameO.ite | apply State.qdrUser_same | apply State.qdrBoth_same) | split)

theorem execFabricFloatOut_same {kd : StateKind} {s0 : State} {n : FieldId} {j : Fin 8} {s : State} (h_fabric : kd ≠ .fabric) (h_capture : kd ≠ .capture) (h_sequencers : kd ≠ .sequencers) (h_ledger : kd ≠ .ledger) (h_outputs : kd ≠ .outputs) (hs : s0.same kd s) :
    SameR kd s0 (execFabricFloatOut n j s) := by
  unfold execFabricFloatOut
  try dsimp only
  repeat' (first | with_reducible (first | assumption | apply SameR.next | apply SameR.ite | apply State.floatOutput_same))

theorem State.writeUsrIn_same {kd : StateKind} {s0 : State} {s : State} {n : Nat} {i : Nat} {v : Nat} (h_fabric : kd ≠ .fabric) (h_outputs : kd ≠ .outputs) (hs : s0.same kd s) :
    s0.same kd (State.writeUsrIn s n i v) := by
  unfold State.writeUsrIn
  try dsimp only
  repeat' (first | with_reducible (first | assumption | apply State.usrWritten_same | apply State.set_same | apply State.emit_same))

theorem execUserRegIn_same {kd : StateKind} {s0 : State} {n : FieldId} {i : Fin 16} {v : Word} {s : State} (h_fabric : kd ≠ .fabric) (h_outputs : kd ≠ .outputs) (h_answer : kd ≠ .answer) (hs : s0.same kd s) :
    SameR kd s0 (execUserRegIn n i v s) := by
  unfold execUserRegIn
  try dsimp only
  repeat' (first | with_reducible (first | assumption | intro s x _ | intro s _ | intro x | apply SameR.next | apply SameR.ite | apply State.access_same | apply State.writeUsrIn_same))

theorem execUserRegOut_same {kd : StateKind} {s0 : State} {n : FieldId} {i : Fin 16} {v : Word} {p : Fin 13} {s : State} (hs : s0.same kd s) :
    SameR kd s0 (execUserRegOut n i v p s) := by
  unfold execUserRegOut
  try dsimp only
  repeat' (first | with_reducible (first | assumption | apply SameR.next | apply SameR.ite | apply State.same_ite_fst | apply State.same_ite | apply State.set_same))

theorem execFabricPllUnlock_same {kd : StateKind} {s0 : State} {n : FieldId} {i : Fin 6} {s : State} (hs : s0.same kd s) :
    SameR kd s0 (execFabricPllUnlock n i s) := by
  unfold execFabricPllUnlock
  try dsimp only
  repeat' (first | with_reducible (first | assumption | apply SameR.next | apply SameR.ite | apply State.same_ite_fst | apply State.same_ite | apply State.raise_same | apply State.setBitOf_same | apply State.clearBitOf_same))

theorem execWclkLoss_same {kd : StateKind} {s0 : State} {n : FieldId} {s : State} (h_fabric : kd ≠ .fabric) (hs : s0.same kd s) :
    SameR kd s0 (execWclkLoss n s) := by
  unfold execWclkLoss
  try dsimp only
  repeat' (first | with_reducible (first | assumption | apply SameR.next | apply SameR.ite | apply State.same_ite_fst | apply State.same_ite | apply State.raise_same | apply State.lower_same | apply State.wires_same))

theorem execWclkRestored_same {kd : StateKind} {s0 : State} {n : FieldId} {s : State} (h_fabric : kd ≠ .fabric) (hs : s0.same kd s) :
    SameR kd s0 (execWclkRestored n s) := by
  unfold execWclkRestored
  try dsimp only
  repeat' (first | with_reducible (first | assumption | apply SameR.next | apply SameR.ite | apply State.same_ite_fst | apply State.same_ite | apply State.raise_same | apply State.wires_same))

end Sys2Proof.Machine
end

