-- ==== Sys2Proof/Laws/SameUpdate.lean ====
section
/-! SUPPORT. The kinds of state that every operation and meaning of Machine/Update.lean leaves as they are (Laws/Same.lean). -/
set_option maxRecDepth 4000
set_option linter.unusedVariables false
namespace Sys2Proof.Machine

theorem State.mailbox_same {kd : StateKind} {s0 : State} {s : State} {code : Nat} {data : List Byte} (h_host : kd ≠ .host) (h_answer : kd ≠ .answer) (hs : s0.same kd s) :
    s0.same kd (State.mailbox s code data) := by
  unfold State.mailbox
  try dsimp only
  repeat' (first | with_reducible (first | assumption) | (simp only [State.same_mk]; refine State.same_upd_cxl_resp ?_ ?_ ?_))

theorem State.stageFail_same {kd : StateKind} {s0 : State} {s : State} {err : Nat} {part : Nat} (h_ledger : kd ≠ .ledger) (h_log : kd ≠ .log) (h_management : kd ≠ .management) (hs : s0.same kd s) :
    s0.same kd (State.stageFail s err part) := by
  unfold State.stageFail
  try dsimp only
  repeat' (first | with_reducible (first | assumption | apply State.opFail_same | apply State.set_same | apply State.invalidate_same | apply State.bundleLog_same) | (simp only [State.same_mk]; refine State.same_upd_upd ?_ ?_))

theorem State.bundleBegin_same {kd : StateKind} {s0 : State} {s : State} {len : Nat} {e : Nat} (h_ledger : kd ≠ .ledger) (h_log : kd ≠ .log) (h_host : kd ≠ .host) (h_management : kd ≠ .management) (h_answer : kd ≠ .answer) (hs : s0.same kd s) :
    s0.same kd (State.bundleBegin s len e) := by
  unfold State.bundleBegin
  try dsimp only
  repeat' (first | with_reducible (first | assumption | apply State.same_ite_fst | apply State.same_ite | apply State.opBegin_same | apply State.set_same | apply State.set2_same | apply State.bundleLog_same | apply State.mailbox_same) | (simp only [State.same_mk]; refine State.same_upd_upd ?_ ?_))

theorem execBundleBegin_same {kd : StateKind} {s0 : State} {p : List Byte} {s : State} (h_ledger : kd ≠ .ledger) (h_log : kd ≠ .log) (h_host : kd ≠ .host) (h_management : kd ≠ .management) (h_answer : kd ≠ .answer) (hs : s0.same kd s) :
    SameR kd s0 (execBundleBegin p s) := by
  unfold execBundleBegin
  try dsimp only
  repeat' (first | with_reducible (first | assumption | apply SameR.next | apply SameR.ite | apply State.same_ite_fst | apply State.same_ite | apply State.mailbox_same | apply State.bundleBegin_same))

theorem State.judgeBundle_same {kd : StateKind} {s0 : State} {s : State} (h_ledger : kd ≠ .ledger) (h_log : kd ≠ .log) (h_management : kd ≠ .management) (hs : s0.same kd s) :
    s0.same kd (State.judgeBundle s) := by
  unfold State.judgeBundle
  try dsimp only
  repeat' (first | with_reducible (first | assumption | apply State.same_ite_fst | apply State.same_ite | apply State.set2_same | apply State.stageFail_same) | (simp only [State.same_mk]; refine State.same_upd_upd ?_ ?_) | split)

theorem execBundleData_same {kd : StateKind} {s0 : State} {p : List Byte} {s : State} (h_ledger : kd ≠ .ledger) (h_log : kd ≠ .log) (h_host : kd ≠ .host) (h_management : kd ≠ .management) (h_answer : kd ≠ .answer) (hs : s0.same kd s) :
    SameR kd s0 (execBundleData p s) := by
  unfold execBundleData
  try dsimp only
  repeat' (first | with_reducible (first | assumption | apply SameR.next | apply SameR.ite | apply State.same_ite_fst | apply State.same_ite | apply State.set2_same | apply State.mailbox_same | apply State.judgeBundle_same) | (simp only [State.same_mk]; refine State.same_upd_upd ?_ ?_))

theorem State.writePart_same {kd : StateKind} {s0 : State} {s : State} {p : PartRec} {plain : List Byte} (h_stores : kd ≠ .stores) (h_management : kd ≠ .management) (h_counter : kd ≠ .counter) (hs : s0.same kd s) :
    s0.same kd (State.writePart s p plain) := by
  unfold State.writePart
  try dsimp only
  repeat' (first | with_reducible (first | assumption | apply State.same_ite_fst | apply State.same_ite | apply State.setStores_same | apply State.eraseStore_same | apply State.used_same | apply State.showSlots_same) | (simp only [State.same_mk]; refine State.same_upd_upd ?_ ?_))

theorem execBundlePartWritten_same {kd : StateKind} {s0 : State} {ok : Bool} {s : State} (h_stores : kd ≠ .stores) (h_ledger : kd ≠ .ledger) (h_log : kd ≠ .log) (h_management : kd ≠ .management) (h_counter : kd ≠ .counter) (hs : s0.same kd s) :
    SameR kd s0 (execBundlePartWritten ok s) := by
  unfold execBundlePartWritten
  try dsimp only
  repeat' (first | with_reducible (first | assumption | apply SameR.next | apply SameR.ite | apply State.same_ite_fst | apply State.same_ite | apply SameO.none | apply SameO.some_id | apply SameO.some | apply SameO.ite | apply State.opMove_same | apply State.opDone_same | apply State.set_same | apply State.setB_same | apply State.logEvent_same | apply State.stageFail_same | apply State.writePart_same) | (simp only [State.same_mk]; refine State.same_upd_upd ?_ ?_) | split)

theorem State.abortBundle_same {kd : StateKind} {s0 : State} {s : State} (h_ledger : kd ≠ .ledger) (h_log : kd ≠ .log) (h_management : kd ≠ .management) (hs : s0.same kd s) :
    s0.same kd (State.abortBundle s) := by
  unfold State.abortBundle
  try dsimp only
  repeat' (first | with_reducible (first | assumption | apply State.same_ite_fst | apply State.same_ite | apply State.stageFail_same))

theorem State.cancelBundle_same {kd : StateKind} {s0 : State} {s : State} (h_log : kd ≠ .log) (h_management : kd ≠ .management) (hs : s0.same kd s) :
    s0.same kd (State.cancelBundle s) := by
  unfold State.cancelBundle
  try dsimp only
  repeat' (first | with_reducible (first | assumption | apply State.same_ite_fst | apply State.same_ite | apply State.set_same | apply State.lower_same | apply State.logEvent_same | apply State.invalidate_same) | (simp only [State.same_mk]; refine State.same_upd_upd ?_ ?_))

theorem State.writeFwuCtrl_same {kd : StateKind} {s0 : State} {s : State} {v : Nat} (h_ledger : kd ≠ .ledger) (h_log : kd ≠ .log) (h_management : kd ≠ .management) (hs : s0.same kd s) :
    s0.same kd (State.writeFwuCtrl s v) := by
  unfold State.writeFwuCtrl
  try dsimp only
  repeat' (first | with_reducible (first | assumption | apply State.abortBundle_same | apply State.cancelBundle_same) | split)

theorem execCancel_same {kd : StateKind} {s0 : State} {s : State} (h_ledger : kd ≠ .ledger) (h_log : kd ≠ .log) (h_management : kd ≠ .management) (h_answer : kd ≠ .answer) (hs : s0.same kd s) :
    SameR kd s0 (execCancel s) := by
  unfold execCancel
  try dsimp only
  repeat' (first | with_reducible (first | assumption | intro s x _ | intro s _ | intro x | apply SameR.next | apply SameR.ite | apply State.access_same | apply State.writeFwuCtrl_same))

theorem execAbort_same {kd : StateKind} {s0 : State} {s : State} (h_ledger : kd ≠ .ledger) (h_log : kd ≠ .log) (h_management : kd ≠ .management) (h_answer : kd ≠ .answer) (hs : s0.same kd s) :
    SameR kd s0 (execAbort s) := by
  unfold execAbort
  try dsimp only
  repeat' (first | with_reducible (first | assumption | intro s x _ | intro s _ | intro x | apply SameR.next | apply SameR.ite | apply State.access_same | apply State.writeFwuCtrl_same))

theorem State.bundleEnd_same {kd : StateKind} {s0 : State} {s : State} {e : Nat} (h_ledger : kd ≠ .ledger) (h_log : kd ≠ .log) (h_host : kd ≠ .host) (h_answer : kd ≠ .answer) (hs : s0.same kd s) :
    s0.same kd (State.bundleEnd s e) := by
  unfold State.bundleEnd
  try dsimp only
  repeat' (first | with_reducible (first | assumption | apply State.same_ite_fst | apply State.same_ite | apply State.opBegin_same | apply State.opDone_same | apply State.set_same | apply State.logEvent_same | apply State.mailbox_same))

theorem execBundleEnd_same {kd : StateKind} {s0 : State} {p : List Byte} {s : State} (h_ledger : kd ≠ .ledger) (h_log : kd ≠ .log) (h_host : kd ≠ .host) (h_answer : kd ≠ .answer) (hs : s0.same kd s) :
    SameR kd s0 (execBundleEnd p s) := by
  unfold execBundleEnd
  try dsimp only
  repeat' (first | with_reducible (first | assumption | apply SameR.next | apply SameR.ite | apply State.same_ite_fst | apply State.same_ite | apply State.mailbox_same | apply State.bundleEnd_same))

theorem State.writeConfirm_same {kd : StateKind} {s0 : State} {s : State} {v : Nat} (h_log : kd ≠ .log) (h_management : kd ≠ .management) (hs : s0.same kd s) :
    s0.same kd (State.writeConfirm s v) := by
  unfold State.writeConfirm
  try dsimp only
  repeat' (first | with_reducible (first | assumption | apply State.same_ite_fst | apply State.same_ite | apply State.set_same | apply State.raise_same | apply State.lower_same | apply State.logEvent_same | apply State.raiseCounters_same) | (simp only [State.same_mk]; refine State.same_upd_upd ?_ ?_))

theorem execConfirm_same {kd : StateKind} {s0 : State} {v : Word} {s : State} (h_log : kd ≠ .log) (h_management : kd ≠ .management) (h_answer : kd ≠ .answer) (hs : s0.same kd s) :
    SameR kd s0 (execConfirm v s) := by
  unfold execConfirm
  try dsimp only
  repeat' (first | with_reducible (first | assumption | intro s x _ | intro s _ | intro x | apply SameR.next | apply SameR.ite | apply State.access_same | apply State.writeConfirm_same))

theorem State.writeOcmd_same {kd : StateKind} {s0 : State} {s : State} {v : Nat} (h_log : kd ≠ .log) (hs : s0.same kd s) :
    s0.same kd (State.writeOcmd s v) := by
  unfold State.writeOcmd
  try dsimp only
  repeat' (first | with_reducible (first | assumption | intro s x _ | intro s _ | intro x | apply State.same_ite_fst | apply State.same_ite | apply State.same_foldl | apply State.same_foldl_fst | apply State.set_same | apply State.raise_same | apply State.logEvent_same))

theorem execOwnerEnrol_same {kd : StateKind} {s0 : State} {v : Word} {s : State} (h_log : kd ≠ .log) (h_answer : kd ≠ .answer) (hs : s0.same kd s) :
    SameR kd s0 (execOwnerEnrol v s) := by
  unfold execOwnerEnrol
  try dsimp only
  repeat' (first | with_reducible (first | assumption | intro s x _ | intro s _ | intro x | apply SameR.next | apply SameR.ite | apply State.access_same | apply State.writeOcmd_same))

theorem State.migrateDie_same {kd : StateKind} {s0 : State} {s : State} {die : Nat} {m : List Byte} {ok : Bool} (h_stores : kd ≠ .stores) (h_management : kd ≠ .management) (hs : s0.same kd s) :
    SameO kd id s0 (State.migrateDie s die m ok) := by
  unfold State.migrateDie
  try dsimp only
  repeat' (first | with_reducible (first | assumption | apply SameO.ite | apply State.same_ite_fst | apply State.same_ite | apply SameO.none | apply SameO.some_id | apply SameO.some | apply State.setStores_same | apply State.eraseStore_same | apply State.set_same | apply State.setBitOf_same | apply State.clearBitOf_same) | (simp only [State.same_mk]; refine State.same_upd_upd ?_ ?_) | split)

theorem State.migrateAll_same {kd : StateKind} {s0 : State} {s : State} {ok : Bool} {x2 : List (Nat × List Byte)} (h_stores : kd ≠ .stores) (h_management : kd ≠ .management) (hs : s0.same kd s) :
    s0.same kd (State.migrateAll s ok x2).1 := by
  revert hs
  induction x2 generalizing s ok with
  | nil =>
    intro hs; unfold State.migrateAll; try dsimp only
    repeat' (first | with_reducible (first | assumption | apply State.same_ite_fst | apply State.same_ite | apply SameO.none | apply SameO.some_id | apply SameO.some | apply SameO.ite | apply State.migrateDie_same | refine State.same_of_some (by assumption) ?_) | split | dsimp only)
  | cons y l ih =>
    intro hs; unfold State.migrateAll; try dsimp only
    repeat' (first | with_reducible (first | assumption | apply State.same_ite_fst | apply State.same_ite | apply SameO.none | apply SameO.some_id | apply SameO.some | apply SameO.ite | apply ih | apply State.migrateDie_same | refine State.same_of_some (by assumption) ?_) | split | dsimp only)

end Sys2Proof.Machine
end

