-- ==== Sys2Proof/Laws/SameCsr.lean ====
section
/-! SUPPORT. The kinds of state that every operation and meaning of Machine/Csr.lean leaves as they are (Laws/Same.lean). -/
set_option maxRecDepth 4000
set_option linter.unusedVariables false
namespace Sys2Proof.Machine

theorem State.peek_same {kd : StateKind} {s0 : State} {s : State} {die : Nat} {o : Nat} (hs : s0.same kd s) :
    s0.same kd (State.peek s die o).1 := by
  unfold State.peek
  try dsimp only
  repeat' (first | with_reducible (first | assumption | apply State.same_ite_fst | apply State.same_ite | apply State.raise_same) | split | dsimp only)

theorem State.clearRead_same {kd : StateKind} {s0 : State} {s : State} {l : List Elem} (hs : s0.same kd s) :
    s0.same kd (State.clearRead s l) := by
  unfold State.clearRead
  try dsimp only
  repeat' (first | with_reducible (first | assumption | intro s x _ | intro s _ | intro x | apply State.same_ite_fst | apply State.same_ite | apply State.same_foldl | apply State.same_foldl_fst | apply State.set_same))

theorem State.readReg_same {kd : StateKind} {s0 : State} {s : State} {die : Nat} {o : Nat} (h_clocks : kd ≠ .clocks) (h_debug : kd ≠ .debug) (h_answer : kd ≠ .answer) (h_counter : kd ≠ .counter) (hs : s0.same kd s) :
    s0.same kd (State.readReg s die o).1 := by
  unfold State.readReg
  try dsimp only
  repeat' (first | with_reducible (first | assumption | apply State.same_ite_fst | apply State.same_ite | apply SameO.none | apply SameO.some_id | apply SameO.some | apply SameO.ite | apply State.readFltTs_same | apply State.peek_same | apply State.clearRead_same | apply State.gaugeChallenge_same | apply State.set_same | apply State.snapshot_same | apply State.slaveSnapshot_same | apply State.ppsiStart_same | apply State.ppsiReadPart_same | refine State.same_of_fst (by assumption) ?_) | (simp only [State.same_mk]; refine State.same_upd_resp ?_ ?_) | split | dsimp only)

theorem State.writeElem_same {kd : StateKind} {s0 : State} {s : State} {v : Nat} {e : Elem} (hs : s0.same kd s) :
    s0.same kd (State.writeElem s v e) := by
  unfold State.writeElem
  try dsimp only
  repeat' (first | with_reducible (first | assumption | apply State.same_ite_fst | apply State.same_ite | apply State.set_same) | split)

theorem State.writePlain_same {kd : StateKind} {s0 : State} {s : State} {die : Nat} {o : Nat} {v : Nat} (hs : s0.same kd s) :
    s0.same kd (State.writePlain s die o v) := by
  unfold State.writePlain
  try dsimp only
  repeat' (first | with_reducible (first | assumption | intro s x _ | intro s _ | intro x | apply State.same_foldl | apply State.same_foldl_fst | apply State.writeElem_same))

theorem State.writeDelay_same {kd : StateKind} {s0 : State} {s : State} {m : Nat} {die : Nat} {o : Nat} {v : Nat} (h_hbm : kd ≠ .hbm) (hs : s0.same kd s) :
    s0.same kd (State.writeDelay s m die o v) := by
  unfold State.writeDelay
  try dsimp only
  repeat' (first | with_reducible (first | assumption | intro s x _ | intro s _ | intro x | apply State.same_foldl | apply State.same_foldl_fst | apply State.setHmc_same))

theorem State.writeHmc_same {kd : StateKind} {s0 : State} {s : State} {m : Nat} {ofs : Nat} {o : Nat} {v : Nat} (h_hbm : kd ≠ .hbm) (h_lanes : kd ≠ .lanes) (hs : s0.same kd s) :
    s0.same kd (State.writeHmc s m ofs o v) := by
  unfold State.writeHmc
  try dsimp only
  repeat' (first | with_reducible (first | assumption | intro s x _ | intro s _ | intro x | apply State.same_ite_fst | apply State.same_ite | apply State.same_foldl | apply State.same_foldl_fst | apply State.writePlain_same | apply State.writeDelay_same | apply State.setPc_same | apply State.writeShadow_same | apply State.writeFchg_same | apply State.writeTcmd_same))

theorem State.writeLane_same {kd : StateKind} {s0 : State} {s : State} {b : Blk} {i : Nat} {ofs : Nat} {die : Nat} {o : Nat} {v : Nat} {src : Nat} (h_fabric : kd ≠ .fabric) (h_lanes : kd ≠ .lanes) (h_capture : kd ≠ .capture) (h_sequencers : kd ≠ .sequencers) (h_ledger : kd ≠ .ledger) (h_outputs : kd ≠ .outputs) (hs : s0.same kd s) :
    s0.same kd (State.writeLane s b i ofs die o v src) := by
  unfold State.writeLane
  try dsimp only
  repeat' (first | with_reducible (first | assumption | apply State.same_ite_fst | apply State.same_ite | apply State.writeCfeCtrl_same | apply State.writeCfeStat_same | apply State.writePlain_same | apply State.furRefuse_same | apply State.writeFurCtrl_same | apply State.spend_same | apply State.writeLnqCtrl_same | apply State.writePllWord_same | apply State.stageFir_same | apply State.commitFir_same | apply State.writeRx_same | apply State.writeLnCtrl_same | apply State.writeLnCal_same | apply State.advertise_same | apply State.writePcsCtrl_same | apply State.writePrbs_same | apply State.writeEye_same | apply State.writeHist_same) | split)

theorem State.writeCap_same {kd : StateKind} {s0 : State} {s : State} {ofs : Nat} {o : Nat} {v : Nat} {src : Nat} (h_capture : kd ≠ .capture) (h_ledger : kd ≠ .ledger) (hs : s0.same kd s) :
    s0.same kd (State.writeCap s ofs o v src) := by
  unfold State.writeCap
  try dsimp only
  repeat' (first | with_reducible (first | assumption | apply State.same_ite_fst | apply State.same_ite | apply State.writeCctrl_same | apply State.writePlain_same | apply State.writeLaneShare_same))

theorem State.writeShr_same {kd : StateKind} {s0 : State} {s : State} {ofs : Nat} {o : Nat} {v : Nat} (hs : s0.same kd s) :
    s0.same kd (State.writeShr s ofs o v) := by
  unfold State.writeShr
  try dsimp only
  repeat' (first | with_reducible (first | assumption | apply State.same_ite_fst | apply State.same_ite | apply State.writePlain_same | apply State.writeShareTable_same | apply State.writeUplinkTable_same | apply State.writeShareMap_same))

theorem State.writeDbg_same {kd : StateKind} {s0 : State} {s : State} {b : Blk} {ofs : Nat} {die : Nat} {o : Nat} {v : Nat} (h_memory : kd ≠ .memory) (h_reservations : kd ≠ .reservations) (h_engines : kd ≠ .engines) (h_requests : kd ≠ .requests) (h_shares : kd ≠ .shares) (h_hbm : kd ≠ .hbm) (h_qdr : kd ≠ .qdr) (h_walkers : kd ≠ .walkers) (h_lanes : kd ≠ .lanes) (h_log : kd ≠ .log) (h_debug : kd ≠ .debug) (h_outputs : kd ≠ .outputs) (h_answer : kd ≠ .answer) (h_counter : kd ≠ .counter) (hs : s0.same kd s) :
    s0.same kd (State.writeDbg s b ofs die o v) := by
  unfold State.writeDbg
  try dsimp only
  repeat' (first | with_reducible (first | assumption | apply State.same_ite_fst | apply State.same_ite | apply State.writePlain_same | apply State.writeDu_same | apply State.writeHcmd_same | apply State.writeSp_same | apply State.writeTcfg_same | apply State.writeGauCmd_same | apply State.writeGauge_same | apply State.setB_same))

theorem State.writeField_same {kd : StateKind} {s0 : State} {s : State} {b : Blk} {i : Nat} {ofs : Nat} {die : Nat} {o : Nat} {v : Nat} {src : Nat} (h_memory : kd ≠ .memory) (h_reservations : kd ≠ .reservations) (h_programs : kd ≠ .programs) (h_engines : kd ≠ .engines) (h_requests : kd ≠ .requests) (h_shares : kd ≠ .shares) (h_hbm : kd ≠ .hbm) (h_qdr : kd ≠ .qdr) (h_walkers : kd ≠ .walkers) (h_flume : kd ≠ .flume) (h_fabric : kd ≠ .fabric) (h_lanes : kd ≠ .lanes) (h_clocks : kd ≠ .clocks) (h_ledger : kd ≠ .ledger) (h_log : kd ≠ .log) (h_debug : kd ≠ .debug) (h_outputs : kd ≠ .outputs) (h_answer : kd ≠ .answer) (h_counter : kd ≠ .counter) (hs : s0.same kd s) :
    s0.same kd (State.writeField s b i ofs die o v src) := by
  unfold State.writeField
  try dsimp only
  repeat' (first | with_reducible (first | assumption | apply State.same_ite_fst | apply State.same_ite | apply State.writePlain_same | apply State.writeDbg_same | apply State.writeRp_same | apply State.writeRegion_same | apply State.writePlcmd_same | apply State.writeSlots_same | apply State.writeUsrIn_same | apply State.writeEctrl_same | apply State.writePcmd_same | apply State.timeCal_same) | split)

theorem State.csrReadWord_same {kd : StateKind} {s0 : State} {s : State} {src : Nat} {x : Nat} {guest : Guest} (h_clocks : kd ≠ .clocks) (h_debug : kd ≠ .debug) (h_answer : kd ≠ .answer) (h_counter : kd ≠ .counter) (hs : s0.same kd s) :
    s0.same kd (State.csrReadWord s src x guest).1 := by
  unfold State.csrReadWord
  try dsimp only
  repeat' (first | with_reducible (first | assumption | apply State.same_ite_fst | apply State.same_ite | apply SameO.none | apply SameO.some_id | apply SameO.some | apply SameO.ite | apply State.readReg_same | apply State.timedOut_same | refine State.same_of_fst (by assumption) ?_) | split | dsimp only)

theorem State.csrRead_same {kd : StateKind} {s0 : State} {s : State} {src : Nat} {x : Nat} {len : Nat} {guest : Guest} (h_clocks : kd ≠ .clocks) (h_debug : kd ≠ .debug) (h_answer : kd ≠ .answer) (h_counter : kd ≠ .counter) (hs : s0.same kd s) :
    s0.same kd (State.csrRead s src x len guest).1 := by
  unfold State.csrRead
  try dsimp only
  repeat' (first | with_reducible (first | assumption | apply State.same_ite_fst | apply State.same_ite | apply State.csrReadWord_same | refine State.same_of_fst (by assumption) ?_) | split | dsimp only)

theorem State.netCsrRead_same {kd : StateKind} {s0 : State} {s : State} {src : Nat} {x : Nat} {len : Nat} {guest : Guest} (h_shares : kd ≠ .shares) (h_clocks : kd ≠ .clocks) (h_debug : kd ≠ .debug) (h_answer : kd ≠ .answer) (h_counter : kd ≠ .counter) (hs : s0.same kd s) :
    s0.same kd (State.netCsrRead s src x len guest).1 := by
  unfold State.netCsrRead
  try dsimp only
  repeat' (first | with_reducible (first | assumption | apply SameO.none | apply SameO.some_id | apply SameO.some | apply SameO.ite | apply State.csrRead_same | apply State.passAll_same | refine State.same_of_fst (by assumption) ?_ | refine State.same_of_some (by assumption) ?_) | split | dsimp only)

theorem execBar4WindowSelect_same {kd : StateKind} {s0 : State} {v : Word} {s : State} (h_answer : kd ≠ .answer) (hs : s0.same kd s) :
    SameR kd s0 (execBar4WindowSelect v s) := by
  unfold execBar4WindowSelect
  try dsimp only
  repeat' (first | with_reducible (first | assumption | intro s x _ | intro s _ | intro x | apply SameR.next | apply SameR.ite | apply State.wr_same | apply State.access_same))

theorem execPeekRead_same {kd : StateKind} {s0 : State} {die : Fin 9} {s : State} (h_clocks : kd ≠ .clocks) (h_debug : kd ≠ .debug) (h_answer : kd ≠ .answer) (h_counter : kd ≠ .counter) (hs : s0.same kd s) :
    SameR kd s0 (execPeekRead die s) := by
  unfold execPeekRead
  try dsimp only
  repeat' (first | with_reducible (first | assumption | apply SameR.next | apply SameR.ite | apply State.same_ite_fst | apply State.same_ite | apply State.csrReadWord_same) | (simp only [State.same_mk]; refine State.same_upd_resp ?_ ?_))

end Sys2Proof.Machine
end

