-- ==== Sys2Proof/Laws/SameCanal.lean ====
section
/-! SUPPORT. The kinds of state that every operation and meaning of Machine/Canal.lean leaves as they are (Laws/Same.lean). -/
set_option maxRecDepth 4000
set_option linter.unusedVariables false
namespace Sys2Proof.Machine

theorem State.freeGuest_same {kd : StateKind} {s0 : State} {s : State} {t : Nat} {c : Nat} {vc : Nat} {n : Nat} (h_flume : kd ≠ .flume) (hs : s0.same kd s) :
    s0.same kd (State.freeGuest s t c vc n) := by
  unfold State.freeGuest
  try dsimp only
  repeat' (first | with_reducible (first | assumption | apply State.setTurn_same))

theorem State.freeTag_same {kd : StateKind} {s0 : State} {s : State} {key : Nat} (h_requests : kd ≠ .requests) (hs : s0.same kd s) :
    s0.same kd (State.freeTag s key) := by
  unfold State.freeTag
  try dsimp only
  repeat' (first | with_reducible (first | assumption | apply State.showTags_same) | (simp only [State.same_mk]; refine State.same_upd_tags ?_ ?_))

theorem State.takeTag_same {kd : StateKind} {s0 : State} {s : State} {r : Req} {key : Nat} (h_requests : kd ≠ .requests) (hs : s0.same kd s) :
    s0.same kd (State.takeTag s r key) := by
  unfold State.takeTag
  try dsimp only
  repeat' (first | with_reducible (first | assumption | apply State.same_ite_fst | apply State.same_ite | apply State.showTags_same) | (simp only [State.same_mk]; refine State.same_upd_tags ?_ ?_))

theorem State.countHeader_same {kd : StateKind} {s0 : State} {s : State} {h : Hdr} (hs : s0.same kd s) :
    s0.same kd (State.countHeader s h) := by
  unfold State.countHeader
  try dsimp only
  repeat' (first | with_reducible (first | assumption | apply State.raise_same | apply State.count_same) | split)

theorem State.discard_same {kd : StateKind} {s0 : State} {s : State} {src : Nat} {vc : Nat} {port : Nat} (hs : s0.same kd s) :
    s0.same kd (State.discard s src vc port) := by
  unfold State.discard
  try dsimp only
  repeat' (first | with_reducible (first | assumption | apply State.same_ite_fst | apply State.same_ite | apply State.set_same | apply State.raise_same | apply State.count_same))

theorem State.endpointSees_same {kd : StateKind} {s0 : State} {s : State} {src : Nat} {st : RStat} (hs : s0.same kd s) :
    s0.same kd (State.endpointSees s src st) := by
  unfold State.endpointSees
  try dsimp only
  repeat' (first | with_reducible (first | assumption | apply State.same_ite_fst | apply State.same_ite | apply State.setBitOf_same))

theorem State.receive_same {kd : StateKind} {s0 : State} {s : State} {r : Req} {a : Resp} (h_host : kd ≠ .host) (h_answer : kd ≠ .answer) (hs : s0.same kd s) :
    s0.same kd (State.receive s r a) := by
  unfold State.receive
  try dsimp only
  repeat' (first | with_reducible (first | assumption | apply State.same_ite_fst | apply State.same_ite | apply State.endpointSees_same | apply State.hostReceive_same) | (simp only [State.same_mk]; refine State.same_upd_resp ?_ ?_))

theorem State.freeKey_same {kd : StateKind} {s0 : State} {s : State} {key : Option Nat} (h_requests : kd ≠ .requests) (hs : s0.same kd s) :
    s0.same kd (State.freeKey s key) := by
  unfold State.freeKey
  try dsimp only
  repeat' (first | with_reducible (first | assumption | apply SameO.none | apply SameO.some_id | apply SameO.some | apply SameO.ite | apply State.freeTag_same) | split)

theorem State.leaveRsp_same {kd : StateKind} {s0 : State} {s : State} {w : Owed} (h_requests : kd ≠ .requests) (h_flume : kd ≠ .flume) (h_host : kd ≠ .host) (h_outputs : kd ≠ .outputs) (h_answer : kd ≠ .answer) (hs : s0.same kd s) :
    s0.same kd (State.leaveRsp s w) := by
  unfold State.leaveRsp
  try dsimp only
  repeat' (first | with_reducible (first | assumption | apply State.receive_same | apply State.freeKey_same | apply State.wrap2_same | apply State.spendCredit_same | apply State.toGuest_same))

theorem State.sendRsp_same {kd : StateKind} {s0 : State} {s : State} {r : Req} {a : Resp} {key : Option Nat} {inp : Option Nat} (h_requests : kd ≠ .requests) (h_flume : kd ≠ .flume) (h_host : kd ≠ .host) (h_outputs : kd ≠ .outputs) (h_answer : kd ≠ .answer) (hs : s0.same kd s) :
    s0.same kd (State.sendRsp s r a key inp) := by
  unfold State.sendRsp
  try dsimp only
  repeat' (first | with_reducible (first | assumption | apply State.same_ite_fst | apply State.same_ite | apply SameO.none | apply SameO.some_id | apply SameO.some | apply SameO.ite | apply State.receive_same | apply State.freeKey_same | apply State.leaveRsp_same) | (simp only [State.same_mk]; refine State.same_upd_owed ?_ ?_) | split)

theorem State.turnAway_same {kd : StateKind} {s0 : State} {s : State} {r : Req} (h_requests : kd ≠ .requests) (h_flume : kd ≠ .flume) (h_host : kd ≠ .host) (h_outputs : kd ≠ .outputs) (h_answer : kd ≠ .answer) (hs : s0.same kd s) :
    s0.same kd (State.turnAway s r) := by
  unfold State.turnAway
  try dsimp only
  repeat' (first | with_reducible (first | assumption | apply State.same_ite_fst | apply State.same_ite | apply State.receive_same | apply State.sendRsp_same | apply State.dropPosted_same))

theorem State.firstOf_same {kd : StateKind} {s0 : State} {s : State} {a : State × Held} {b : State × Held} (hs : s0.same kd s) (ha : s0.same kd a.1) (hb : s0.same kd b.1) :
    s0.same kd (State.firstOf s a b).1 := by
  unfold State.firstOf
  try dsimp only
  repeat' (first | with_reducible (first | assumption | apply State.same_ite_fst | apply State.same_ite) | dsimp only)

theorem State.moveOwed_same {kd : StateKind} {s0 : State} {s : State} (h_requests : kd ≠ .requests) (h_flume : kd ≠ .flume) (h_host : kd ≠ .host) (h_outputs : kd ≠ .outputs) (h_answer : kd ≠ .answer) (hs : s0.same kd s) :
    s0.same kd (State.moveOwed s) := by
  unfold State.moveOwed
  try dsimp only
  repeat' (first | with_reducible (first | assumption | intro s x _ | intro s _ | intro x | apply State.same_ite_fst | apply State.same_ite | apply State.same_foldl | apply State.same_foldl_fst | apply State.leaveRsp_same) | (simp only [State.same_mk]; refine State.same_upd_owed ?_ ?_))

theorem State.dropFenced_same {kd : StateKind} {s0 : State} {s : State} (h_requests : kd ≠ .requests) (h_ingress : kd ≠ .ingress) (hs : s0.same kd s) :
    s0.same kd (State.dropFenced s) := by
  unfold State.dropFenced
  try dsimp only
  repeat' (first | with_reducible (first | assumption | intro s x _ | intro s _ | intro x | apply State.same_ite_fst | apply State.same_ite | apply State.same_foldl | apply State.same_foldl_fst | apply State.freeKey_same | apply State.count_same) | (simp only [State.same_mk]; first | refine State.same_upd_owed ?_ ?_ | refine State.same_upd_ingress ?_ ?_))

theorem State.dropLost_same {kd : StateKind} {s0 : State} {s : State} (h_requests : kd ≠ .requests) (h_ingress : kd ≠ .ingress) (hs : s0.same kd s) :
    s0.same kd (State.dropLost s) := by
  unfold State.dropLost
  try dsimp only
  repeat' (first | with_reducible (first | assumption | intro s x _ | intro s _ | intro x | apply State.same_ite_fst | apply State.same_ite | apply SameO.none | apply SameO.some_id | apply SameO.some | apply SameO.ite | apply State.same_foldl | apply State.same_foldl_fst | apply State.takeTag_same | apply State.dropPosted_same) | (simp only [State.same_mk]; refine State.same_upd_ingress ?_ ?_))

theorem State.lose_same {kd : StateKind} {s0 : State} {s : State} {r : Req} {t : Nat} {p : Nat} (h_requests : kd ≠ .requests) (h_shares : kd ≠ .shares) (hs : s0.same kd s) :
    s0.same kd (State.lose s r t p) := by
  unfold State.lose
  try dsimp only
  repeat' (first | with_reducible (first | assumption | apply State.same_ite_fst | apply State.same_ite | apply SameO.none | apply SameO.some_id | apply SameO.some | apply SameO.ite | apply State.takeTag_same | apply State.discard_same | apply State.spendCredit_same | apply State.spendUp_same | apply State.chargeUp_same | apply State.leavePort_same) | split)

theorem State.takeAnswer_same {kd : StateKind} {s0 : State} {s : State} {key : Nat} {e : Tag} {guest : Guest} (h_flume : kd ≠ .flume) (hs : s0.same kd s) :
    s0.same kd (State.takeAnswer s key e guest) := by
  unfold State.takeAnswer
  try dsimp only
  repeat' (first | with_reducible (first | assumption | apply State.same_ite_fst | apply State.same_ite | apply State.freeGuest_same) | split)

end Sys2Proof.Machine
end

