-- ==== Sys2Proof/Laws/SameMailbox.lean ====
section
/-! SUPPORT. The kinds of state that every operation and meaning of Machine/Mailbox.lean leaves as they are (Laws/Same.lean). -/
set_option maxRecDepth 4000
set_option linter.unusedVariables false
namespace Sys2Proof.Machine

theorem execGetTimestamp_same {kd : StateKind} {s0 : State} {p : List Byte} {s : State} (h_host : kd ≠ .host) (h_answer : kd ≠ .answer) (hs : s0.same kd s) :
    SameR kd s0 (execGetTimestamp p s) := by
  unfold execGetTimestamp
  try dsimp only
  repeat' (first | with_reducible (first | assumption | apply SameR.next | apply SameR.ite | apply State.same_ite_fst | apply State.same_ite | apply State.mailbox_same))

theorem execSetTimestamp_same {kd : StateKind} {s0 : State} {_p : List Byte} {s : State} (h_host : kd ≠ .host) (h_answer : kd ≠ .answer) (hs : s0.same kd s) :
    SameR kd s0 (execSetTimestamp _p s) := by
  unfold execSetTimestamp
  try dsimp only
  repeat' (first | with_reducible (first | assumption | apply SameR.next | apply SameR.ite | apply State.mailbox_same))

theorem execGetSupportedLogs_same {kd : StateKind} {s0 : State} {p : List Byte} {s : State} (h_host : kd ≠ .host) (h_answer : kd ≠ .answer) (hs : s0.same kd s) :
    SameR kd s0 (execGetSupportedLogs p s) := by
  unfold execGetSupportedLogs
  try dsimp only
  repeat' (first | with_reducible (first | assumption | apply SameR.next | apply SameR.ite | apply State.same_ite_fst | apply State.same_ite | apply State.mailbox_same))

theorem execGetLog_same {kd : StateKind} {s0 : State} {p : List Byte} {s : State} (h_host : kd ≠ .host) (h_answer : kd ≠ .answer) (hs : s0.same kd s) :
    SameR kd s0 (execGetLog p s) := by
  unfold execGetLog
  try dsimp only
  repeat' (first | with_reducible (first | assumption | apply SameR.next | apply SameR.ite | apply State.same_ite_fst | apply State.same_ite | apply State.mailbox_same))

theorem execGetRollcall_same {kd : StateKind} {s0 : State} {p : List Byte} {s : State} (h_host : kd ≠ .host) (h_answer : kd ≠ .answer) (hs : s0.same kd s) :
    SameR kd s0 (execGetRollcall p s) := by
  unfold execGetRollcall
  try dsimp only
  repeat' (first | with_reducible (first | assumption | apply SameR.next | apply SameR.ite | apply State.same_ite_fst | apply State.same_ite | apply State.mailbox_same))

theorem execGetEvents_same {kd : StateKind} {s0 : State} {p : List Byte} {s : State} (h_host : kd ≠ .host) (h_answer : kd ≠ .answer) (hs : s0.same kd s) :
    SameR kd s0 (execGetEvents p s) := by
  unfold execGetEvents
  try dsimp only
  repeat' (first | with_reducible (first | assumption | apply SameR.next | apply SameR.ite | apply State.same_ite_fst | apply State.same_ite | apply State.mailbox_same))

theorem State.copyBegin_same {kd : StateKind} {s0 : State} {s : State} {src : Nat} {dst : Nat} {len : Nat} {e : Nat} (h_ledger : kd ≠ .ledger) (h_host : kd ≠ .host) (hs : s0.same kd s) :
    s0.same kd (State.copyBegin s src dst len e) := by
  unfold State.copyBegin
  try dsimp only
  repeat' (first | with_reducible (first | assumption | apply State.same_ite_fst | apply State.same_ite | apply State.setOp_same | apply State.opBegin_same | apply State.opRefuse_same) | (simp only [State.same_mk]; refine State.same_upd_copy ?_ ?_) | split)

theorem execCopy_same {kd : StateKind} {s0 : State} {p : List Byte} {s : State} (h_ledger : kd ≠ .ledger) (h_host : kd ≠ .host) (h_answer : kd ≠ .answer) (hs : s0.same kd s) :
    SameR kd s0 (execCopy p s) := by
  unfold execCopy
  try dsimp only
  repeat' (first | with_reducible (first | assumption | apply SameR.next | apply SameR.ite | apply State.same_ite_fst | apply State.same_ite | apply State.copyBegin_same | apply State.mailbox_same))

theorem State.copyBytes_same {kd : StateKind} {s0 : State} {s : State} {x1 : Nat} {x2 : Nat} {x3 : Nat} {x4 : Nat} (h_memory : kd ≠ .memory) (h_reservations : kd ≠ .reservations) (h_requests : kd ≠ .requests) (h_shares : kd ≠ .shares) (h_hbm : kd ≠ .hbm) (h_qdr : kd ≠ .qdr) (h_walkers : kd ≠ .walkers) (h_lanes : kd ≠ .lanes) (h_counter : kd ≠ .counter) (hs : s0.same kd s) :
    s0.same kd (State.copyBytes s x1 x2 x3 x4).1 := by
  revert hs
  induction x1 generalizing s x2 x3 x4 with
  | zero =>
    intro hs; unfold State.copyBytes; try dsimp only
    repeat' (first | with_reducible (first | assumption | apply State.same_ite_fst | apply State.same_ite | apply SameO.none | apply SameO.some_id | apply SameO.some | apply SameO.ite | apply State.netRead_same | apply State.netStore_same | refine State.same_of_fst (by assumption) ?_) | split | dsimp only)
  | succ n ih =>
    intro hs; unfold State.copyBytes; try dsimp only
    repeat' (first | with_reducible (first | assumption | apply State.same_ite_fst | apply State.same_ite | apply SameO.none | apply SameO.some_id | apply SameO.some | apply SameO.ite | apply ih | apply State.netRead_same | apply State.netStore_same | refine State.same_of_fst (by assumption) ?_) | split | dsimp only)

theorem execCopyStep_same {kd : StateKind} {s0 : State} {s : State} (h_memory : kd ≠ .memory) (h_reservations : kd ≠ .reservations) (h_requests : kd ≠ .requests) (h_shares : kd ≠ .shares) (h_hbm : kd ≠ .hbm) (h_qdr : kd ≠ .qdr) (h_walkers : kd ≠ .walkers) (h_lanes : kd ≠ .lanes) (h_ledger : kd ≠ .ledger) (h_host : kd ≠ .host) (h_counter : kd ≠ .counter) (hs : s0.same kd s) :
    SameR kd s0 (execCopyStep s) := by
  unfold execCopyStep
  try dsimp only
  repeat' (first | with_reducible (first | assumption | apply SameR.next | apply SameR.ite | apply State.same_ite_fst | apply State.same_ite | apply SameO.none | apply SameO.some_id | apply SameO.some | apply SameO.ite | apply State.setOp_same | apply State.opMove_same | apply State.opFail_same | apply State.copyBytes_same | refine State.same_of_fst (by assumption) ?_) | (simp only [State.same_mk]; refine State.same_upd_copy ?_ ?_) | split)

theorem nextOr_same {kd : StateKind} {s0 : State} {s : State} {x1 : Result} (hs : s0.same kd s) (hx1 : SameR kd s0 x1) :
    s0.same kd (nextOr s x1) := by
  unfold nextOr
  split
  · exact hx1 _ rfl
  · exact hs

theorem State.runMailbox_same {kd : StateKind} {s0 : State} {s : State} {code : Nat} {p : List Byte} (h_ledger : kd ≠ .ledger) (h_log : kd ≠ .log) (h_host : kd ≠ .host) (h_management : kd ≠ .management) (h_answer : kd ≠ .answer) (hs : s0.same kd s) :
    s0.same kd (State.runMailbox s code p) := by
  unfold State.runMailbox
  try dsimp only
  repeat' (first | with_reducible (first | assumption | apply State.same_ite_fst | apply State.same_ite | apply execGetTimestamp_same | apply execSetTimestamp_same | apply execGetSupportedLogs_same | apply execGetLog_same | apply execGetRollcall_same | apply execGetEvents_same | apply execCopy_same | apply nextOr_same | apply State.mailbox_same | apply execBundleBegin_same | apply execBundleData_same | apply execBundleEnd_same) | split)

theorem State.mailboxWord_same {kd : StateKind} {s0 : State} {s : State} {m : Nat} {v : Nat} (h_ledger : kd ≠ .ledger) (h_log : kd ≠ .log) (h_host : kd ≠ .host) (h_management : kd ≠ .management) (h_answer : kd ≠ .answer) (hs : s0.same kd s) :
    s0.same kd (State.mailboxWord s m v) := by
  unfold State.mailboxWord
  try dsimp only
  repeat' (first | with_reducible (first | assumption | apply State.same_ite_fst | apply State.same_ite | apply State.runMailbox_same) | (simp only [State.same_mk]; refine State.same_upd_cxl ?_ ?_))

theorem State.mailboxWrite_same {kd : StateKind} {s0 : State} {s : State} {m : Nat} {bytes : List Byte} (h_ledger : kd ≠ .ledger) (h_log : kd ≠ .log) (h_host : kd ≠ .host) (h_management : kd ≠ .management) (h_answer : kd ≠ .answer) (hs : s0.same kd s) :
    s0.same kd (State.mailboxWrite s m bytes) := by
  unfold State.mailboxWrite
  try dsimp only
  repeat' (first | with_reducible (first | assumption | apply State.same_ite_fst | apply State.same_ite | apply State.mailboxWord_same))

end Sys2Proof.Machine
end

