-- ==== Sys2Proof/Laws/SameWatermaster.lean ====
section
/-! SUPPORT. The kinds of state that every operation and meaning of Machine/Watermaster.lean leaves as they are (Laws/Same.lean). -/
set_option maxRecDepth 4000
set_option linter.unusedVariables false
namespace Sys2Proof.Machine

theorem State.wmCsrRead_same {kd : StateKind} {s0 : State} {s : State} {x : Nat} {guest : Guest} (h_shares : kd ≠ .shares) (h_clocks : kd ≠ .clocks) (h_debug : kd ≠ .debug) (h_answer : kd ≠ .answer) (h_counter : kd ≠ .counter) (hs : s0.same kd s) :
    s0.same kd (State.wmCsrRead s x guest).1 := by
  unfold State.wmCsrRead
  try dsimp only
  repeat' (first | with_reducible (first | assumption | apply State.netCsrRead_same) | dsimp only)

theorem State.peekData_same {kd : StateKind} {s0 : State} {w : State × RStat} {b : Nat} (h_shares : kd ≠ .shares) (h_clocks : kd ≠ .clocks) (h_debug : kd ≠ .debug) (h_answer : kd ≠ .answer) (h_counter : kd ≠ .counter) (hw : s0.same kd w.1) :
    s0.same kd (State.peekData w b).1 := by
  unfold State.peekData
  try dsimp only
  repeat' (first | with_reducible (first | assumption | apply State.same_ite_fst | apply State.same_ite | apply State.wmCsrRead_same) | dsimp only)

theorem State.wmReadBytes_same {kd : StateKind} {s0 : State} {s : State} {x1 : Nat} {x2 : Nat} {x3 : Nat} {x4 : List Byte} (h_memory : kd ≠ .memory) (h_reservations : kd ≠ .reservations) (h_requests : kd ≠ .requests) (h_shares : kd ≠ .shares) (h_hbm : kd ≠ .hbm) (h_qdr : kd ≠ .qdr) (h_walkers : kd ≠ .walkers) (h_lanes : kd ≠ .lanes) (h_counter : kd ≠ .counter) (hs : s0.same kd s) :
    SameO kd WmDone.st s0 (State.wmReadBytes s x1 x2 x3 x4) := by
  revert hs
  induction x1 generalizing s x2 x3 x4 with
  | zero =>
    intro hs; unfold State.wmReadBytes; try dsimp only
    repeat' (first | with_reducible (first | assumption | apply SameO.ite | apply State.same_ite_fst | apply State.same_ite | apply SameO.none | apply SameO.some_id | apply SameO.some | apply State.netRead_same | refine State.same_of_fst (by assumption) ?_) | split)
  | succ n ih =>
    intro hs; unfold State.wmReadBytes; try dsimp only
    repeat' (first | with_reducible (first | assumption | apply SameO.ite | apply State.same_ite_fst | apply State.same_ite | apply SameO.none | apply SameO.some_id | apply SameO.some | apply ih | apply State.netRead_same | refine State.same_of_fst (by assumption) ?_) | split)

theorem State.wmWriteBytes_same {kd : StateKind} {s0 : State} {s : State} {x1 : Nat} {x2 : Nat} {x3 : List Byte} (h_memory : kd ≠ .memory) (h_reservations : kd ≠ .reservations) (h_requests : kd ≠ .requests) (h_shares : kd ≠ .shares) (h_hbm : kd ≠ .hbm) (h_qdr : kd ≠ .qdr) (h_walkers : kd ≠ .walkers) (h_lanes : kd ≠ .lanes) (h_counter : kd ≠ .counter) (hs : s0.same kd s) :
    SameO kd WmDone.st s0 (State.wmWriteBytes s x1 x2 x3) := by
  revert hs
  induction x1 generalizing s x2 x3 with
  | zero =>
    intro hs; unfold State.wmWriteBytes; try dsimp only
    repeat' (first | with_reducible (first | assumption | apply SameO.ite | apply State.same_ite_fst | apply State.same_ite | apply SameO.none | apply SameO.some_id | apply SameO.some | apply State.netStore_same | refine State.same_of_fst (by assumption) ?_) | split)
  | succ n ih =>
    intro hs; unfold State.wmWriteBytes; try dsimp only
    repeat' (first | with_reducible (first | assumption | apply SameO.ite | apply State.same_ite_fst | apply State.same_ite | apply SameO.none | apply SameO.some_id | apply SameO.some | apply ih | apply State.netStore_same | refine State.same_of_fst (by assumption) ?_) | split)

theorem State.wmMrd_same {kd : StateKind} {s0 : State} {s : State} {p : List Byte} (h_memory : kd ≠ .memory) (h_reservations : kd ≠ .reservations) (h_requests : kd ≠ .requests) (h_shares : kd ≠ .shares) (h_hbm : kd ≠ .hbm) (h_qdr : kd ≠ .qdr) (h_walkers : kd ≠ .walkers) (h_lanes : kd ≠ .lanes) (h_counter : kd ≠ .counter) (hs : s0.same kd s) :
    SameO kd WmDone.st s0 (State.wmMrd s p) := by
  unfold State.wmMrd
  try dsimp only
  repeat' (first | with_reducible (first | assumption | apply SameO.ite | apply State.same_ite_fst | apply State.same_ite | apply SameO.none | apply SameO.some_id | apply SameO.some | apply State.wmReadBytes_same | refine State.same_of_some_done (by assumption) ?_) | split)

theorem State.wmMwr_same {kd : StateKind} {s0 : State} {s : State} {p : List Byte} (h_memory : kd ≠ .memory) (h_reservations : kd ≠ .reservations) (h_requests : kd ≠ .requests) (h_shares : kd ≠ .shares) (h_hbm : kd ≠ .hbm) (h_qdr : kd ≠ .qdr) (h_walkers : kd ≠ .walkers) (h_lanes : kd ≠ .lanes) (h_counter : kd ≠ .counter) (hs : s0.same kd s) :
    SameO kd WmDone.st s0 (State.wmMwr s p) := by
  unfold State.wmMwr
  try dsimp only
  repeat' (first | with_reducible (first | assumption | apply SameO.ite | apply State.same_ite_fst | apply State.same_ite | apply SameO.none | apply SameO.some_id | apply SameO.some | apply State.wmWriteBytes_same | refine State.same_of_some_done (by assumption) ?_) | split)

theorem State.wmWritten_same {kd : StateKind} {s0 : State} {t : State × RStat} {x : Nat} (ht : s0.same kd t.1) :
    s0.same kd (State.wmWritten t x).st := by
  unfold State.wmWritten
  try dsimp only
  repeat' (first | with_reducible (first | assumption | apply State.same_ite_st | apply State.same_ite_fst | apply State.same_ite))

theorem State.wmEngine_same {kd : StateKind} {s0 : State} {s : State} {good : Bool} {g : Nat} (hs : s0.same kd s) :
    SameO kd WmDone.st s0 (State.wmEngine s good g) := by
  unfold State.wmEngine
  try dsimp only
  repeat' (first | with_reducible (first | assumption | apply SameO.ite | apply State.same_ite_fst | apply State.same_ite | apply SameO.none | apply SameO.some_id | apply SameO.some | apply State.timedOut_same) | split)

theorem State.wmStep_same {kd : StateKind} {s0 : State} {s : State} {p : List Byte} (h_memory : kd ≠ .memory) (h_reservations : kd ≠ .reservations) (h_engines : kd ≠ .engines) (h_requests : kd ≠ .requests) (h_shares : kd ≠ .shares) (h_hbm : kd ≠ .hbm) (h_qdr : kd ≠ .qdr) (h_walkers : kd ≠ .walkers) (h_lanes : kd ≠ .lanes) (h_debug : kd ≠ .debug) (h_outputs : kd ≠ .outputs) (h_answer : kd ≠ .answer) (h_counter : kd ≠ .counter) (hs : s0.same kd s) :
    s0.same kd (State.wmStep s p).st := by
  unfold State.wmStep
  try dsimp only
  repeat' (first | with_reducible (first | assumption | apply SameO.none | apply SameO.some_id | apply SameO.some | apply SameO.ite | apply State.writeHcmd_same | apply State.wmEngine_same | refine State.same_of_some_done (by assumption) ?_) | split)

theorem State.wmRreg_same {kd : StateKind} {s0 : State} {s : State} {p : List Byte} (hs : s0.same kd s) :
    s0.same kd (State.wmRreg s p).st := by
  unfold State.wmRreg
  try dsimp only
  repeat' (first | with_reducible (first | assumption | apply State.same_ite_st | apply State.same_ite_fst | apply State.same_ite | apply State.wmEngine_same | refine State.same_of_some_done (by assumption) ?_) | split)

theorem State.wmWreg_same {kd : StateKind} {s0 : State} {s : State} {p : List Byte} (h_engines : kd ≠ .engines) (hs : s0.same kd s) :
    s0.same kd (State.wmWreg s p).st := by
  unfold State.wmWreg
  try dsimp only
  repeat' (first | with_reducible (first | assumption | apply State.same_ite_st | apply State.same_ite_fst | apply State.same_ite | apply State.setEng_same | apply State.setRilReg_same | apply State.wmEngine_same | refine State.same_of_some_done (by assumption) ?_) | split)

theorem State.wmLogRead_same {kd : StateKind} {s0 : State} {s : State} {p : List Byte} (hs : s0.same kd s) :
    s0.same kd (State.wmLogRead s p).st := by
  unfold State.wmLogRead
  try dsimp only
  repeat' (first | with_reducible (first | assumption | apply State.same_ite_st | apply State.same_ite_fst | apply State.same_ite))

theorem State.wmGunlock_same {kd : StateKind} {s0 : State} {s : State} {p : List Byte} (h_log : kd ≠ .log) (h_debug : kd ≠ .debug) (hs : s0.same kd s) :
    s0.same kd (State.wmGunlock s p).st := by
  unfold State.wmGunlock
  try dsimp only
  repeat' (first | with_reducible (first | assumption | intro s x _ | intro s _ | intro x | apply State.same_ite_st | apply State.same_ite_fst | apply State.same_ite | apply SameO.none | apply SameO.some_id | apply SameO.some | apply SameO.ite | apply State.same_foldl | apply State.same_foldl_fst | apply State.gaugeGo_same | apply State.set_same) | split)

theorem State.wmOpen_same {kd : StateKind} {s0 : State} {s : State} {x : Bool} {p : List Byte} (h_log : kd ≠ .log) (h_debug : kd ≠ .debug) (h_outputs : kd ≠ .outputs) (h_counter : kd ≠ .counter) (hs : s0.same kd s) :
    s0.same kd (State.wmOpen s x p).st := by
  unfold State.wmOpen
  try dsimp only
  repeat' (first | with_reducible (first | assumption | apply State.same_ite_st | apply State.same_ite_fst | apply State.same_ite | apply State.set_same | apply State.raise_same | apply State.setB_same | apply State.used_same | apply State.logEvent_same | apply State.wmEvent_same) | (simp only [State.same_mk]; refine State.same_upd_wm ?_ ?_))

theorem State.wmClose_same {kd : StateKind} {s0 : State} {s : State} {p : List Byte} (h_debug : kd ≠ .debug) (hs : s0.same kd s) :
    s0.same kd (State.wmClose s p).st := by
  unfold State.wmClose
  try dsimp only
  repeat' (first | with_reducible (first | assumption | apply State.same_ite_st | apply State.same_ite_fst | apply State.same_ite | apply State.lower_same) | (simp only [State.same_mk]; refine State.same_upd_wm ?_ ?_))

theorem State.wmAnswer_same {kd : StateKind} {s0 : State} {s : State} {x : Bool} {b : List Byte} (h_debug : kd ≠ .debug) (h_outputs : kd ≠ .outputs) (hs : s0.same kd s) :
    s0.same kd (State.wmAnswer s x b) := by
  unfold State.wmAnswer
  try dsimp only
  repeat' (first | with_reducible (first | assumption | apply State.same_ite_fst | apply State.same_ite | apply SameO.none | apply SameO.some_id | apply SameO.some | apply SameO.ite | apply State.raise_same | apply State.lower_same | apply State.emit_same | apply State.setBuf_same) | (simp only [State.same_mk]; refine State.same_upd_wm ?_ ?_))

theorem WmDone.report_same {kd : StateKind} {s0 : State} {d : WmDone} {x : Bool} {cmd : Nat} {seq : Nat} {sid : Nat} {p : List Byte} (h_debug : kd ≠ .debug) (h_outputs : kd ≠ .outputs) (h_counter : kd ≠ .counter) (hd : s0.same kd d.st) :
    s0.same kd (WmDone.report d x cmd seq sid p) := by
  unfold WmDone.report
  try dsimp only
  repeat' (first | with_reducible (first | assumption | apply State.same_ite_fst | apply State.same_ite | apply SameO.none | apply SameO.some_id | apply SameO.some | apply SameO.ite | apply State.trace_same | apply State.wmAnswer_same) | (simp only [State.same_mk]; refine State.same_upd_wm ?_ ?_))

theorem execMspGapTimeout_same {kd : StateKind} {s0 : State} {s : State} (h_debug : kd ≠ .debug) (hs : s0.same kd s) :
    SameR kd s0 (execMspGapTimeout s) := by
  unfold execMspGapTimeout
  try dsimp only
  repeat' (first | with_reducible (first | assumption | apply SameR.next | apply SameR.ite) | (simp only [State.same_mk]; refine State.same_upd_wm ?_ ?_))

theorem State.rspAck_same {kd : StateKind} {s0 : State} {s : State} (h_debug : kd ≠ .debug) (h_outputs : kd ≠ .outputs) (hs : s0.same kd s) :
    s0.same kd (State.rspAck s) := by
  unfold State.rspAck
  try dsimp only
  repeat' (first | with_reducible (first | assumption | apply SameO.none | apply SameO.some_id | apply SameO.some | apply SameO.ite | apply State.lower_same | apply State.wmAnswer_same) | (simp only [State.same_mk]; refine State.same_upd_wm ?_ ?_) | split)

theorem State.evtAck_same {kd : StateKind} {s0 : State} {s : State} (h_debug : kd ≠ .debug) (h_outputs : kd ≠ .outputs) (hs : s0.same kd s) :
    s0.same kd (State.evtAck s) := by
  unfold State.evtAck
  try dsimp only
  repeat' (first | with_reducible (first | assumption | apply State.lower_same | apply State.nextEvent_same))

end Sys2Proof.Machine
end

