-- ==== Sys2Proof/Laws/SameCxl.lean ====
section
/-! SUPPORT. The kinds of state that every operation and meaning of Machine/Cxl.lean leaves as they are (Laws/Same.lean). -/
set_option maxRecDepth 4000
set_option linter.unusedVariables false
namespace Sys2Proof.Machine

theorem State.refuseRead_same {kd : StateKind} {s0 : State} {s : State} (h_answer : kd ≠ .answer) (hs : s0.same kd s) :
    s0.same kd (State.refuseRead s) := by
  unfold State.refuseRead
  try dsimp only
  repeat' (first | with_reducible (first | assumption) | (simp only [State.same_mk]; refine State.same_upd_resp ?_ ?_))

theorem State.refuseWrite_same {kd : StateKind} {s0 : State} {s : State} (h_answer : kd ≠ .answer) (hs : s0.same kd s) :
    s0.same kd (State.refuseWrite s) := by
  unfold State.refuseWrite
  try dsimp only
  repeat' (first | with_reducible (first | assumption) | (simp only [State.same_mk]; refine State.same_upd_resp ?_ ?_))

theorem State.bar2Read_same {kd : StateKind} {s0 : State} {s : State} {x : Nat} {n : Nat} (h_answer : kd ≠ .answer) (hs : s0.same kd s) :
    s0.same kd (State.bar2Read s x n) := by
  unfold State.bar2Read
  try dsimp only
  repeat' (first | with_reducible (first | assumption | apply State.same_ite_fst | apply State.same_ite | apply State.refuseRead_same | apply State.hostError_same | apply State.answerData_same))

end Sys2Proof.Machine
end

