-- ==== Sys2Proof/Laws/SameRillMem.lean ====
section
/-! SUPPORT. The kinds of state that every operation and meaning of Machine/RillMem.lean leaves as they are (Laws/Same.lean). -/
set_option maxRecDepth 4000
set_option linter.unusedVariables false
namespace Sys2Proof.Machine

theorem State.rilLoaded_same {kd : StateKind} {s0 : State} {s : State} {g : Nat} {a : RilAcc} {data : List Byte} (h_engines : kd ≠ .engines) (hs : s0.same kd s) :
    s0.same kd (State.rilLoaded s g a data) := by
  unfold State.rilLoaded
  try dsimp only
  repeat' (first | with_reducible (first | assumption | apply State.same_ite_fst | apply State.same_ite | apply State.setEng_same))

end Sys2Proof.Machine
end

