-- ==== Sys2Proof/Laws/SameTransmit.lean ====
section
/-! SUPPORT. The kinds of state that every operation and meaning of Machine/Transmit.lean leaves as they are (Laws/Same.lean). -/
set_option maxRecDepth 4000
set_option linter.unusedVariables false
namespace Sys2Proof.Machine

theorem State.putBits_same {kd : StateKind} {s0 : State} {s : State} {l : Nat} {b : TxBlk} {bits : List Bool} (h_lanes : kd ≠ .lanes) (hs : s0.same kd s) :
    s0.same kd (State.putBits s l b bits) := by
  unfold State.putBits
  try dsimp only
  repeat' (first | with_reducible (first | assumption | apply State.same_ite_fst | apply State.same_ite | apply SameO.map | apply State.setLane_same))

theorem State.frameOut_same {kd : StateKind} {s0 : State} {s : State} {l : Nat} {mode : Nat} {k : Nat} {f : TxFrame} (h_lanes : kd ≠ .lanes) (h_sequencers : kd ≠ .sequencers) (h_outputs : kd ≠ .outputs) (hs : s0.same kd s) :
    s0.same kd (State.frameOut s l mode k f) := by
  unfold State.frameOut
  try dsimp only
  repeat' (first | with_reducible (first | assumption | apply State.same_ite_fst | apply State.same_ite | apply SameO.none | apply SameO.some_id | apply SameO.some | apply SameO.ite | apply State.emit_same | apply State.setPort_same | apply State.setFur_same) | split)

theorem State.takeBlock_same {kd : StateKind} {s0 : State} {s : State} {l : Nat} {mode : Nat} {f : TxFrame} (h_lanes : kd ≠ .lanes) (h_sequencers : kd ≠ .sequencers) (h_outputs : kd ≠ .outputs) (hs : s0.same kd s) :
    s0.same kd (State.takeBlock s l mode f).1 := by
  unfold State.takeBlock
  try dsimp only
  repeat' (first | with_reducible (first | assumption | apply State.same_ite_fst | apply State.same_ite | apply SameO.none | apply SameO.some_id | apply SameO.some | apply SameO.ite | apply State.furUnderrun_same | apply State.wrap2_same | apply State.setPort_same | apply State.setFur_same | apply State.frameOut_same) | split | dsimp only)

theorem State.idleOrFabric_same {kd : StateKind} {s0 : State} {s : State} {l : Nat} {mode : Nat} (h_counter : kd ≠ .counter) (hs : s0.same kd s) :
    s0.same kd (State.idleOrFabric s l mode).1 := by
  unfold State.idleOrFabric
  try dsimp only
  repeat' (first | with_reducible (first | assumption | apply State.same_ite_fst | apply State.same_ite | apply State.used_same) | dsimp only)

theorem State.nextBlock_same {kd : StateKind} {s0 : State} {s : State} {a : Nat} {mode : Nat} (h_lanes : kd ≠ .lanes) (h_sequencers : kd ≠ .sequencers) (h_outputs : kd ≠ .outputs) (h_counter : kd ≠ .counter) (hs : s0.same kd s) :
    s0.same kd (State.nextBlock s a mode).1 := by
  unfold State.nextBlock
  try dsimp only
  repeat' (first | with_reducible (first | assumption | apply SameO.none | apply SameO.some_id | apply SameO.some | apply SameO.ite | apply State.setPort_same | apply State.takeBlock_same | apply State.idleOrFabric_same | refine State.same_of_fst (by assumption) ?_) | split | dsimp only)

theorem State.putWraw_same {kd : StateKind} {s0 : State} {s : State} {a : Nat} {l : Nat} {b : TxBlk} (h_lanes : kd ≠ .lanes) (hs : s0.same kd s) :
    s0.same kd (State.putWraw s a l b) := by
  unfold State.putWraw
  try dsimp only
  repeat' (first | with_reducible (first | assumption | apply State.same_ite_fst | apply State.same_ite | apply State.setLane_same | apply State.putBits_same))

theorem State.wrawRound_same {kd : StateKind} {s0 : State} {s : State} {a : Nat} (h_lanes : kd ≠ .lanes) (h_sequencers : kd ≠ .sequencers) (h_outputs : kd ≠ .outputs) (h_counter : kd ≠ .counter) (hs : s0.same kd s) :
    s0.same kd (State.wrawRound s a) := by
  unfold State.wrawRound
  try dsimp only
  repeat' (first | with_reducible (first | assumption | intro s x _ | intro s _ | intro x | apply State.same_ite_fst | apply State.same_ite | apply State.same_foldl | apply State.same_foldl_fst | apply State.setPort_same | apply State.nextBlock_same | apply State.putWraw_same))

theorem State.wrawFill_same {kd : StateKind} {s0 : State} {s : State} {a : Nat} {l : Nat} {need : Nat} {x4 : Nat} (h_lanes : kd ≠ .lanes) (h_sequencers : kd ≠ .sequencers) (h_outputs : kd ≠ .outputs) (h_counter : kd ≠ .counter) (hs : s0.same kd s) :
    s0.same kd (State.wrawFill s a l need x4) := by
  revert hs
  induction x4 generalizing s a l need with
  | zero =>
    intro hs; unfold State.wrawFill; try dsimp only
    repeat' (first | with_reducible (first | assumption | apply State.same_ite_fst | apply State.same_ite | apply State.wrawRound_same) | split)
  | succ n ih =>
    intro hs; unfold State.wrawFill; try dsimp only
    repeat' (first | with_reducible (first | assumption | apply State.same_ite_fst | apply State.same_ite | apply ih | apply State.wrawRound_same) | split)

theorem State.ethBlocks_same {kd : StateKind} {s0 : State} {s : State} {a : Nat} {x2 : Nat} (h_lanes : kd ≠ .lanes) (h_sequencers : kd ≠ .sequencers) (h_outputs : kd ≠ .outputs) (h_counter : kd ≠ .counter) (hs : s0.same kd s) :
    s0.same kd (State.ethBlocks s a x2).1 := by
  revert hs
  induction x2 generalizing s a with
  | zero =>
    intro hs; unfold State.ethBlocks; try dsimp only
    repeat' (first | with_reducible (first | assumption | apply State.nextBlock_same | refine State.same_of_fst (by assumption) ?_) | split | dsimp only)
  | succ n ih =>
    intro hs; unfold State.ethBlocks; try dsimp only
    repeat' (first | with_reducible (first | assumption | apply ih | apply State.nextBlock_same | refine State.same_of_fst (by assumption) ?_) | split | dsimp only)

theorem State.ethTx_same {kd : StateKind} {s0 : State} {s : State} {a : Nat} {ns : Nat} {need : Nat} (h_lanes : kd ≠ .lanes) (h_sequencers : kd ≠ .sequencers) (h_outputs : kd ≠ .outputs) (h_counter : kd ≠ .counter) (hs : s0.same kd s) :
    s0.same kd (State.ethTx s a ns need) := by
  unfold State.ethTx
  try dsimp only
  repeat' (first | with_reducible (first | assumption | intro s x _ | intro s _ | intro x | apply State.same_ite_fst | apply State.same_ite | apply SameO.none | apply SameO.some_id | apply SameO.some | apply SameO.ite | apply State.same_foldl | apply State.same_foldl_fst | apply State.setLane_same | apply State.setPort_same | apply State.putBits_same | apply State.ethBlocks_same | refine State.same_of_fst (by assumption) ?_) | split)

theorem State.pcieFill_same {kd : StateKind} {s0 : State} {s : State} {a : Nat} {l : Nat} {need : Nat} {k : Nat} {x5 : Nat} (h_lanes : kd ≠ .lanes) (h_counter : kd ≠ .counter) (hs : s0.same kd s) :
    s0.same kd (State.pcieFill s a l need k x5) := by
  revert hs
  induction x5 generalizing s a l need k with
  | zero =>
    intro hs; unfold State.pcieFill; try dsimp only
    repeat' (first | with_reducible (first | assumption | apply State.same_ite_fst | apply State.same_ite | apply State.setLane_same | apply State.setPort_same | apply State.putBits_same | apply State.idleOrFabric_same | refine State.same_of_fst (by assumption) ?_) | split)
  | succ n ih =>
    intro hs; unfold State.pcieFill; try dsimp only
    repeat' (first | with_reducible (first | assumption | apply State.same_ite_fst | apply State.same_ite | apply ih | apply State.setLane_same | apply State.setPort_same | apply State.putBits_same | apply State.idleOrFabric_same | refine State.same_of_fst (by assumption) ?_) | split)

theorem State.bypassFill_same {kd : StateKind} {s0 : State} {s : State} {l : Nat} {need : Nat} {x3 : Nat} (h_lanes : kd ≠ .lanes) (h_sequencers : kd ≠ .sequencers) (h_outputs : kd ≠ .outputs) (h_counter : kd ≠ .counter) (hs : s0.same kd s) :
    s0.same kd (State.bypassFill s l need x3) := by
  revert hs
  induction x3 generalizing s l need with
  | zero =>
    intro hs; unfold State.bypassFill; try dsimp only
    repeat' (first | with_reducible (first | assumption | apply State.same_ite_fst | apply State.same_ite | apply State.putBits_same | apply State.takeBlock_same | apply State.idleOrFabric_same | refine State.same_of_fst (by assumption) ?_) | split)
  | succ n ih =>
    intro hs; unfold State.bypassFill; try dsimp only
    repeat' (first | with_reducible (first | assumption | apply State.same_ite_fst | apply State.same_ite | apply ih | apply State.putBits_same | apply State.takeBlock_same | apply State.idleOrFabric_same | refine State.same_of_fst (by assumption) ?_) | split)

theorem State.portTx_same {kd : StateKind} {s0 : State} {s : State} {ns : Nat} {a : Nat} (h_lanes : kd ≠ .lanes) (h_sequencers : kd ≠ .sequencers) (h_outputs : kd ≠ .outputs) (h_counter : kd ≠ .counter) (hs : s0.same kd s) :
    s0.same kd (State.portTx s ns a) := by
  unfold State.portTx
  try dsimp only
  repeat' (first | with_reducible (first | assumption | intro s x _ | intro s _ | intro x | apply State.same_ite_fst | apply State.same_ite | apply State.same_foldl | apply State.same_foldl_fst | apply State.wrawFill_same | apply State.ethTx_same | apply State.pcieFill_same | apply State.bypassFill_same) | split)

theorem State.pcsLevels_same {kd : StateKind} {s0 : State} {s : State} {l : Nat} {n : Nat} (h_lanes : kd ≠ .lanes) (hs : s0.same kd s) :
    s0.same kd (State.pcsLevels s l n).1 := by
  unfold State.pcsLevels
  try dsimp only
  repeat' (first | with_reducible (first | assumption | apply State.same_ite_fst | apply State.same_ite | apply State.setLane_same) | dsimp only)

theorem State.genLevels_same {kd : StateKind} {s0 : State} {s : State} {l : Nat} {n : Nat} (h_lanes : kd ≠ .lanes) (hs : s0.same kd s) :
    s0.same kd (State.genLevels s l n).1 := by
  unfold State.genLevels
  try dsimp only
  repeat' (first | with_reducible (first | assumption | apply State.setLane_same) | split | dsimp only)

theorem State.txLevels_same {kd : StateKind} {s0 : State} {s : State} {l : Nat} {n : Nat} (h_lanes : kd ≠ .lanes) (hs : s0.same kd s) :
    s0.same kd (State.txLevels s l n).1 := by
  unfold State.txLevels
  try dsimp only
  repeat' (first | with_reducible (first | assumption | apply State.same_ite_fst | apply State.same_ite | apply State.raise_same | apply State.setLane_same | apply State.pcsLevels_same | apply State.genLevels_same) | dsimp only)

theorem State.nearBack_same {kd : StateKind} {s0 : State} {s : State} {l : Nat} {lv : List Int} (h_fabric : kd ≠ .fabric) (h_lanes : kd ≠ .lanes) (h_capture : kd ≠ .capture) (h_sequencers : kd ≠ .sequencers) (h_ledger : kd ≠ .ledger) (h_outputs : kd ≠ .outputs) (h_counter : kd ≠ .counter) (hs : s0.same kd s) :
    s0.same kd (State.nearBack s l lv) := by
  unfold State.nearBack
  try dsimp only
  repeat' (first | with_reducible (first | assumption | apply State.same_ite_fst | apply State.same_ite | apply State.wrawStream_same | apply State.hearPlaces_same | apply State.setLane_same) | split)

theorem State.keepAdapting_same {kd : StateKind} {s0 : State} {s : State} {l : Nat} (h_counter : kd ≠ .counter) (hs : s0.same kd s) :
    s0.same kd (State.keepAdapting s l) := by
  unfold State.keepAdapting
  try dsimp only
  repeat' (first | with_reducible (first | assumption | apply State.same_ite_fst | apply State.same_ite | apply State.adapt_same | apply State.used_same))

theorem State.laneCycle_same {kd : StateKind} {s0 : State} {s : State} {ns : Nat} {l : Nat} (h_fabric : kd ≠ .fabric) (h_lanes : kd ≠ .lanes) (h_capture : kd ≠ .capture) (h_sequencers : kd ≠ .sequencers) (h_ledger : kd ≠ .ledger) (h_outputs : kd ≠ .outputs) (h_counter : kd ≠ .counter) (hs : s0.same kd s) :
    s0.same kd (State.laneCycle s ns l) := by
  unfold State.laneCycle
  try dsimp only
  repeat' (first | with_reducible (first | assumption | apply State.same_ite_fst | apply State.same_ite | apply State.histSample_same | apply State.setLane_same | apply State.txLevels_same | apply State.nearBack_same | apply State.keepAdapting_same))

theorem State.lineCycle_same {kd : StateKind} {s0 : State} {s : State} {ns : Nat} (h_fabric : kd ≠ .fabric) (h_lanes : kd ≠ .lanes) (h_capture : kd ≠ .capture) (h_sequencers : kd ≠ .sequencers) (h_ledger : kd ≠ .ledger) (h_outputs : kd ≠ .outputs) (h_counter : kd ≠ .counter) (hs : s0.same kd s) :
    s0.same kd (State.lineCycle s ns) := by
  unfold State.lineCycle
  try dsimp only
  repeat' (first | with_reducible (first | assumption | intro s x _ | intro s _ | intro x | apply State.same_foldl | apply State.same_foldl_fst | apply State.portTx_same | apply State.laneCycle_same))

end Sys2Proof.Machine
end

