-- ==== Sys2Proof/Laws/SameAll.lean ====
section
/-! SUPPORT. Every Same file together. Where the memory's kind is as it was, every byte reads as it did. -/
namespace Sys2Proof.Machine

theorem State.same_memByte {s t : State} (h : s.same .memory t) (a : Nat) : t.memByte a = s.memByte a := by
  simp only [State.same, Prod.mk.injEq] at h
  simp [State.memByte, State.memDefault, h.1, h.2.2]

end Sys2Proof.Machine
end

