-- ==== Sys2Proof/WellFormed.lean ====
section
/-! DEFINITION. Which operands a command can have (spec/07_canal.md R176, R180, spec/16_cxl.md R405, spec/19_debug.md R462): what no form
of the command carries. The meanings do not rest on it: a command that it refuses has a meaning too, which the spec does not
speak of. -/
namespace Sys2Proof

/-- Does the command have operands that a form of it carries? -/
def Instr.wf (i : Instr) : Bool :=
  match i with
  -- R14: at most a 64-bit access
  | .registerWrite _ bytes _ _ => decide (1 ≤ bytes.length ∧ bytes.length ≤ 8)
  -- R176: within one 256-byte block
  | .rd _ _ _ addr len _ => decide (addr.toNat % 256 + len + 1 ≤ 256)
  -- R176, R180: within one block, a byte of data for each place
  | .wr _ _ _ addr len _ data _ => decide (addr.toNat % 256 + len + 1 ≤ 256) && data.length == len.val + 1
  -- R189: the operand and the swap value in one flit
  | .amo _ _ _ addr len _ data _ => decide (addr.toNat % 256 + len + 1 ≤ 256) && data.length == 64
  -- R176, R180
  | .pwrPost _ _ addr len _ data _ => decide (addr.toNat % 256 + len + 1 ≤ 256) && data.length == len.val + 1
  -- R176
  | .crd _ _ x len _ => decide (x.val % 256 + len + 1 ≤ 256)
  -- R176, R180
  | .cwr _ _ x len data _ => decide (x.val % 256 + len + 1 ≤ 256) && data.length == len.val + 1
  -- R213: a repair map for each module
  | .roll _ _ _ _ _ rep => rep.length == 8
  -- R208: a result for each module
  | .modulesTrained _ hw fd => hw.length == 8 && fd.length == 8
  -- R227: a unit of 336 bytes
  | .turnoutUnit _ _ b => b.length == 336
  -- R335: an access of 1 to 64 bytes
  | .reservoirWrite _ c => (c.writes.map fun w => w.bytes.length).all fun n => decide (1 ≤ n ∧ n ≤ 64)
  -- a write has data
  | .bar0Write _ _ data _ => decide (1 ≤ data.length)
  -- R390: Max_Payload_Size
  | .bar4Write _ data _ => decide (1 ≤ data.length ∧ data.length ≤ 512)
  -- R391: a line
  | .memwr _ _ data _ => data.length == 64
  -- R405: the payload area
  | .getTimestamp p => decide (p.length ≤ 8192)
  -- R405: the payload area
  | .setTimestamp p => decide (p.length ≤ 8192)
  -- R405: the payload area
  | .getSupportedLogs p => decide (p.length ≤ 8192)
  -- R405: the payload area
  | .getLog p => decide (p.length ≤ 8192)
  -- R405: the payload area
  | .getRollcall p => decide (p.length ≤ 8192)
  -- R405: the payload area
  | .getEvents p => decide (p.length ≤ 8192)
  -- R405: the payload area
  | .copyCmd p => decide (p.length ≤ 8192)
  -- R405: the payload area
  | .bundleBegin p => decide (p.length ≤ 8192)
  -- R405: the payload area
  | .bundleData p => decide (p.length ≤ 8192)
  -- R405: the payload area
  | .bundleEnd p => decide (p.length ≤ 8192)
  -- R462: LEN
  | .wmClose _ _ _ p => decide (p.length ≤ 4072)
  -- R462: LEN
  | .wmPing _ _ _ p => decide (p.length ≤ 4072)
  -- R462: LEN
  | .mrd _ _ _ p => decide (p.length ≤ 4072)
  -- R462: LEN
  | .mwr _ _ _ p => decide (p.length ≤ 4072)
  -- R462: LEN
  | .wmHalt _ _ _ p => decide (p.length ≤ 4072)
  -- R462: LEN
  | .wmResume _ _ _ p => decide (p.length ≤ 4072)
  -- R462: LEN
  | .wmStep _ _ _ p => decide (p.length ≤ 4072)
  -- R462: LEN
  | .rreg _ _ _ p => decide (p.length ≤ 4072)
  -- R462: LEN
  | .wreg _ _ _ p => decide (p.length ≤ 4072)
  -- R462: LEN
  | .wmLog _ _ _ p => decide (p.length ≤ 4072)
  -- R462: LEN
  | .gunlock _ _ _ p => decide (p.length ≤ 4072)
  -- R462: LEN
  | .wmOpen _ _ p => decide (p.length ≤ 4072)
  -- R462: LEN
  | .wmRd _ _ _ p _ => decide (p.length ≤ 4072)
  -- R462: LEN
  | .wmWr _ _ _ p _ => decide (p.length ≤ 4072)
  -- R484: a count for each link
  | .lbresult _ errs => errs.length == 10
  | .bar4WindowSelect _ | .serviceEntry | .recoveryAccessEntry | .pllEnable _ _ | .pllDisable _ _
  | .pllDividerWrite _ _ _ _ | .pllLock _ _ | .pllUnlock _ _ | .laneEnable _ _ | .laneDisable _ | .calDone _
  | .acqComplete _ _ | .acqTimeout _ | .lossOfSignal _ _ | .adaptLimitHold _ | .txfirStage _ _ | .txfirCommit _ _
  | .rxeqWrite _ _ _ | .trainRequest _ _ | .rxcal _ _ _ _ | .fullCal _ _ _ _ | .readapt _ _ _ _ | .queuedCalStart _
  | .loopSelect _ _ | .portEnable _ _ | .portDisable _ | .wrawBlockReceive _ _ _ | .autonegResolved _ _ _
  | .pcieRateChange _ _ | .trainingFrameReceive _ _ _ | .trainingFrameSend _ _ _ | .trainNoFrameTimeout _
  | .trainTmaxTimeout _ | .fabricTrainStrobe _ _ _ _ _ _ _ | .fabricTrainDone _ | .fabricTrainFail _ | .prbsInject _
  | .prbsClear _ | .prbsCheck _ _ | .eyeScanStart _ _ _ | .eyeColumnDone _ _ | .histClear _ | .cfeEnable _ _
  | .cfeCounterClear _ _ | .cfeFrame _ _ | .recordJudge _ | .gapEmit _ | .segmentLend _ | .segmentClose _
  | .segmentDrain | .segmentReturn _ | .laneShareWrite _ _ | .cisternArm _ _ _ | .cisternDisarm _ _ _
  | .swstart _ _ _ | .swstop _ _ _ | .floatPulse _ | .softwareFloat _ _ | .sequencerEnable _ | .sequencerDisable _
  | .eventTransition | .timerTransition | .cfeStopAck _ | .cisternPublish _ | .floatStampCapture
  | .furrowOwnSelect _ _ | .furrowLoad _ | .furrowLoadDone _ | .furrowArm _ | .furrowPrimed _ | .furrowGo _
  | .furrowStop _ | .furrowAbort _ | .furrowDisarm _ | .furrowLaunch _ | .furrowDone _ | .furrowSourceError _
  | .furNop _ | .furSend _ _ | .furRepeat _ | .waitTime _ | .waitTimeElapsed _ | .waitFloat _ | .waitFloatTimeout _
  | .jump _ | .loop _ | .insertCounter _ | .insertTimestamp _ | .recomputeFcs _ | .inject _ | .furHalt _
  | .frameStart _ | .underrun _ _ | .tclkLost | .tclkRestored | .dtcSnapshot _ | .dtcSet | .dtcAdj | .dtcApply
  | .dtcIncrCommit _ | .beacon _ _ _ | .delay _ _ _ _ _ _ | .timeCalRequest _ _ _ | .timeCalDone _ _ | .ptpMessage _
  | .servoHoldover | .ppsInEdge | .ppsiCaptureStart | .ppsiCaptureTimeout | .ppsOutRise | .ppsOutFall
  | .flush _ _ _ _ | .rdata _ _ _ | .cpl _ _ _ | .crsp _ _ _ _ | .audit _ _ _ | .creditReturn _ _ _ | .tagTimeout _
  | .quarantineEnd _ | .fenceWalkStep | .shareWindowStart _ | .shareTableWrite _ _ _ _ | .shareMapWrite _ _ _
  | .quotaWrite _ _ | .canalCounterClear _ | .replay _ _ _ _ | .moduleRetrain _ _ _ | .retrainCommand _ _
  | .retrainLaneTestDone _ _ _ _ | .wreport _ _ | .width _ _ | .adopt _ _ | .unable _ _ | .widthReplyTimeout _ _
  | .retrainComplete _ _ | .rollCallStart | .sidebandUp _ _ | .key _ _ | .fieldReady _ | .admitTimeout _
  | .heartbeatLoss _ | .alarmLow _ | .alarmCause _ _ | .fence _ | .swFence _ | .turnoutTrain _ _
  | .turnoutLinkTimeout _ | .loopbackTest _ _ _ | .loopbackDone _ _ _ _ | .hbmCommandIssue _ _ _ _ | .refreshDue _ _
  | .rowIdleClose _ _ _ | .hbmTempRead _ _ | .shadowWrite _ _ _ | .freqChange _ _ | .freqChangeDone _ | .hbmTrain _ _
  | .helperCa _ _ _ | .helperRd _ _ _ | .helperWrrd _ _ _ | .helperWdqs _ _ _ | .helperDone _ _ _ _ _
  | .hbmFreeze _ _ _ _ _ _ | .qdrTrainDone _ _ _ | .qdrFreeze _ _ _ _ _ | .qdrUserRequest _ _ _ _ _ _ _ | .walkStep _
  | .walkerWriteBack _ | .walkEpoch _ | .check _ _ _ _ | .scrub _ _ _ _ | .init _ _ _ _ | .rangePassStep _
  | .regionCodeWrite _ _ _ | .frameScan _ _ _ | .tmrVote _ _ _ | .fabricFloatOut _ _ | .userRegIn _ _ _
  | .userRegOut _ _ _ _ | .fabricPllUnlock _ _ | .wclkLoss _ | .basinAccess _ _ _ _ _ | .reservoirRead _ _ _ _ _
  | .reservoirLl _ _ _ _ _ | .reservoirSc _ _ _ _ _ _ | .reservoirFetch _ _ _ _ _ | .reservoirLock _
  | .engineStart _ _ | .engineReset _ _ | .engineResetDone _ | .engineResetWedged _ | .patchLoad _ _
  | .patchLoadDone _ | .watchdogExpiry _ | .clusterClockStop _ | .xyExternalAccess _ _ | .rillNop _ _ | .cmac _ _
  | .dmac _ _ | .bfly _ _ | .aop _ _ | .ast _ _ | .calu _ _ | .ralu _ _ | .acs _ _ | .bexp _ _ | .scale _ _
  | .ldi _ _ | .movr _ _ | .stb _ _ | .br _ _ | .call _ _ | .jmpr _ _ | .doLoop _ _ | .rillStop _ _ | .wdr _ _
  | .rillLoad _ _ | .store _ _ | .rillLl _ _ | .rillSc _ _ | .rillAmo _ _ | .blk _ _ | .rillFlush _ _ | .bwait _ _
  | .rillAccessReturn _ _ _ | .blockTransferDone _ | .linkTrain _ _ _ | .linkDown | .perstAssert | .perstRelease _
  | .hotReset | .configRequest _ _ _ | .decoderCommit _ _ _ _ _ | .bar0Read _ _ _ _ | .bar4Read _ _ _ _
  | .memrd _ _ _ | .ledgerEntryWrite _ _ | .ledgerRelease _ | .mirrorEnable _ _ | .completionRingReset _ _
  | .ledgerVector _ | .vectorArm _ | .copyStep | .bundlePartWritten _ | .fieldLoadDone _ _ _ _ | .releasePoint _
  | .syncTimeout | .startupStep _ | .parcelSwap _ _ _ | .parcelDrained _ | .parcelWritten _ _ | .parcelActive _
  | .parcelWedged _ | .ownerEnrol _ | .cancel | .abortStage | .settingsMigration _ | .confirm _ | .trialWindowExpiry
  | .mspGapTimeout | .whcRequest _ | .rspack | .evtack | .peekRead _ | .debugUnitWrite _ _ _ _ _ | .engineHalt _
  | .engineResume _ | .engineStep _ | .haltDeferTimeout _ | .stimulusWrite _ _ _ _ | .fabricStimulus _ _ _ _
  | .tracePacketWrite _ | .traceEnable _ _ | .gaugeChallenge | .gaugeUnlock | .relock | .gaugeExpiry
  | .gaugeSelect _ _ | .bypass _ | .idcode _ | .samplePreload _ _ _ | .extest _ | .extestPulse _ | .extestTrain _
  | .clamp _ | .highz _ | .standalone _ | .testEnChange _ | .dormant _ | .fallow _ _ | .fallowAtpkrWrite _ | .dwake
  | .wakeTimer | .hbmOpChange _ | .quadGate _ | .quadWake _ _ _ | .bankGate _ _ | .sensorRead _ | .fieldTrip _
  | .packageTrip | .powerLimit | .supplyWarn _ _ | .brownOut _ _ | .por _ _ _ | .pkrRelease _ _
  | .packageResetCommand _ | .mcWatchdog | .refclkLost | .hbmClockLost _ _ _ _ _ | .flumeClockLost _
  | .ethBlockReceive _ _ | .pcieBlockReceive _ _ | .ieeeTrainingFrameReceive _ _ | .holdoffExpiry
  | .automaticInitRegionDone _ | .fabricPllLock _ _ | .fabricPllLockTimeout _ | .wclkRestored _ => true

end Sys2Proof
end

