-- ==== Sys2Proof/Tests/Slice0.lean ====
section
/-! SUPPORT. Tests: what WellFormed refuses, the worked examples of the spec, and for every clause of a statement with hypotheses a state and
operands that meet them. -/
set_option maxRecDepth 8000
set_option Elab.async false
set_option linter.unusedVariables false
namespace Sys2Proof.Tests
open Sys2Proof.Machine

/-! Ill-formed terms, each of which its check refuses. -/

theorem test_wf_registerWrite : (Instr.registerWrite 0 [] 0 {}).wf = false := by decide
theorem test_wf_registerWrite_long : (Instr.registerWrite 0 [1, 2, 3, 4, 5, 6, 7, 8, 9] 0 {}).wf = false := by decide
theorem test_wf_rd : (Instr.rd 0 0 0 0xFF#48 1 .good).wf = false := by decide
theorem test_wf_wr : (Instr.wr 0 0 0 0#48 1 false [7] .good).wf = false := by decide
theorem test_wf_wr_block : (Instr.wr 0 0 0 0xFF#48 1 false [7, 8] .good).wf = false := by decide
theorem test_wf_amo : (Instr.amo 0 0 0 0#48 7 0 [1] .good).wf = false := by decide
theorem test_wf_pwrPost : (Instr.pwrPost 0 0 0#48 3 false [1] .good).wf = false := by decide
theorem test_wf_crd : (Instr.crd 0 0 0xFE 3 .good).wf = false := by decide
theorem test_wf_cwr : (Instr.cwr 0 0 0 3 [1] .good).wf = false := by decide
theorem test_wf_roll : (Instr.roll 0 0 0 0 0#64 []).wf = false := by decide
theorem test_wf_modulesTrained : (Instr.modulesTrained 0 [] []).wf = false := by decide
theorem test_wf_turnoutUnit : (Instr.turnoutUnit 0 0 [1]).wf = false := by decide
theorem test_wf_reservoirWrite : (Instr.reservoirWrite 0 ⟨[⟨.canal 0, 0, []⟩], []⟩).wf = false := by decide
theorem test_wf_bar0Write : (Instr.bar0Write 0 0 [] .good).wf = false := by decide
theorem test_wf_bar4Write : (Instr.bar4Write 0 [] .good).wf = false := by decide
theorem test_wf_memwr : (Instr.memwr 0 0 [1] .good).wf = false := by decide
theorem test_wf_lbresult : (Instr.lbresult 0 [1]).wf = false := by decide
theorem test_long_payload (n : Nat) : (List.replicate n (0 : Byte)).length = n := List.length_replicate
theorem test_wf_getTimestamp (p : List Byte) (h : p.length = 8193) : (Instr.getTimestamp p).wf = false := decide_eq_false (by omega)
theorem test_wf_setTimestamp (p : List Byte) (h : p.length = 8193) : (Instr.setTimestamp p).wf = false := decide_eq_false (by omega)
theorem test_wf_getSupportedLogs (p : List Byte) (h : p.length = 8193) : (Instr.getSupportedLogs p).wf = false := decide_eq_false (by omega)
theorem test_wf_getLog (p : List Byte) (h : p.length = 8193) : (Instr.getLog p).wf = false := decide_eq_false (by omega)
theorem test_wf_getRollcall (p : List Byte) (h : p.length = 8193) : (Instr.getRollcall p).wf = false := decide_eq_false (by omega)
theorem test_wf_getEvents (p : List Byte) (h : p.length = 8193) : (Instr.getEvents p).wf = false := decide_eq_false (by omega)
theorem test_wf_copyCmd (p : List Byte) (h : p.length = 8193) : (Instr.copyCmd p).wf = false := decide_eq_false (by omega)
theorem test_wf_bundleBegin (p : List Byte) (h : p.length = 8193) : (Instr.bundleBegin p).wf = false := decide_eq_false (by omega)
theorem test_wf_bundleData (p : List Byte) (h : p.length = 8193) : (Instr.bundleData p).wf = false := decide_eq_false (by omega)
theorem test_wf_bundleEnd (p : List Byte) (h : p.length = 8193) : (Instr.bundleEnd p).wf = false := decide_eq_false (by omega)
theorem test_wf_wmClose (p : List Byte) (h : p.length = 4073) : (Instr.wmClose true 0 0#32 p).wf = false := decide_eq_false (by omega)
theorem test_wf_wmPing (p : List Byte) (h : p.length = 4073) : (Instr.wmPing true 0 0#32 p).wf = false := decide_eq_false (by omega)
theorem test_wf_mrd (p : List Byte) (h : p.length = 4073) : (Instr.mrd true 0 0#32 p).wf = false := decide_eq_false (by omega)
theorem test_wf_mwr (p : List Byte) (h : p.length = 4073) : (Instr.mwr true 0 0#32 p).wf = false := decide_eq_false (by omega)
theorem test_wf_wmHalt (p : List Byte) (h : p.length = 4073) : (Instr.wmHalt true 0 0#32 p).wf = false := decide_eq_false (by omega)
theorem test_wf_wmResume (p : List Byte) (h : p.length = 4073) : (Instr.wmResume true 0 0#32 p).wf = false := decide_eq_false (by omega)
theorem test_wf_wmStep (p : List Byte) (h : p.length = 4073) : (Instr.wmStep true 0 0#32 p).wf = false := decide_eq_false (by omega)
theorem test_wf_rreg (p : List Byte) (h : p.length = 4073) : (Instr.rreg true 0 0#32 p).wf = false := decide_eq_false (by omega)
theorem test_wf_wreg (p : List Byte) (h : p.length = 4073) : (Instr.wreg true 0 0#32 p).wf = false := decide_eq_false (by omega)
theorem test_wf_wmLog (p : List Byte) (h : p.length = 4073) : (Instr.wmLog true 0 0#32 p).wf = false := decide_eq_false (by omega)
theorem test_wf_gunlock (p : List Byte) (h : p.length = 4073) : (Instr.gunlock true 0 0#32 p).wf = false := decide_eq_false (by omega)
theorem test_wf_wmOpen (p : List Byte) (h : p.length = 4073) : (Instr.wmOpen true 0 p).wf = false := decide_eq_false (by omega)
theorem test_wf_wmRd (p : List Byte) (h : p.length = 4073) : (Instr.wmRd true 0 0#32 p {}).wf = false := decide_eq_false (by omega)
theorem test_wf_wmWr (p : List Byte) (h : p.length = 4073) : (Instr.wmWr true 0 0#32 p {}).wf = false := decide_eq_false (by omega)
/-! Worked examples of the spec. -/

/-- spec/01_package_architecture.md, addressing field 5. -/
theorem test_reservoir_address : rsvAddr (4 * 5 + 2) 0x12340 = 0x004014812340 := by decide
theorem test_register_address : Blk.base .CFE (16 * 5 + 3) + 0x10 = 0x06053010 := by decide
/-- spec/09_hbm.md, where one address goes. -/
theorem test_hbm_channel : hbmChannel 0x001234567800 = 0x15 ∧ hbmStack 0x001234567800 = 0 := by decide
theorem test_hbm_local : hbmLocal 0x001234567800 = 0x2468AC00 := by decide
theorem test_hbm_bank : hbmBank 0x001234567800 = 27 ∧ hbmRow 0x001234567800 = 12427 ∧ hbmPort 0x001234567800 = 134 := by decide
theorem test_hbm_next_block : hbmChannel 0x001234567900 = 20 ∧ hbmPort 0x001234567900 = 135 := by decide
/-- R273: the first columns of each weight and the last of weight 3. -/
theorem test_columns_l : columnsL.take 5 = [0x07, 0x0B, 0x0D, 0x0E, 0x13] ∧ columnsL.getD 55 0 = 0xE0 := by decide
theorem test_columns_l_five : columnsL.drop 56 = [0x1F, 0x2F, 0x37, 0x3B, 0x3D, 0x3E, 0x4F, 0x57] := by decide
/-- spec/15_rill_isa.md, the two worked programs: I0, I1 and J0 are legal, and their opcodes are 0x03, 0x05 and 0x08. -/
theorem test_rill_words : rilLegal 0x0C0210180B49 0 = true ∧ rilLegal 0x16C016194C91 1 = true ∧ rilLegal 0x200628190800 0 = true := by decide
theorem test_rill_opcodes : rilOp 0x0C0210180B49 = 3 ∧ rilOp 0x16C016194C91 = 5 ∧ rilOp 0x200628190800 = 8 := by decide
/-- spec/19_debug.md, a halt that breaks a reservation. -/
theorem test_halt_register : haltReg 3 1 = 0x040D0014 := by decide
theorem test_hstat_register : DBG.HSTAT_STATE.key 109 0 0 = 8 * 0x001711B4 := by decide
/-- R53: 0b00 to -3, 0b01 to -1, 0b11 to +1, 0b10 to +3, the first bit the more significant. -/
theorem test_gray : (places true [false, false, false, true, true, true, true, false]).map (levelOf true) = [-3, -1, 1, 3] := by decide
/-- R308, R309: a result beyond 2^57 - 1 is clamped with SATEN and wraps modulo 2^58 without; OVF is 1 in both. -/
theorem test_mac_saturates : macResult true (2 ^ 57) = (2 ^ 57 - 1, true) := by decide
theorem test_mac_wraps : macResult false (2 ^ 57) = (-2 ^ 57, true) := by decide
/-- The check value of the IEEE 802.3 CRC-32 over the digits 1 to 9. -/
theorem test_crc32 : crc32 [0x31, 0x32, 0x33, 0x34, 0x35, 0x36, 0x37, 0x38, 0x39] = 0xCBF43926 := by decide

/-- Every field ready. -/
def up : State := State.reset.set GLB.AVAIL_FREADY 255

/-- Engine 5 of field 0 in RUN at PC 0 with word w there. -/
def rilAt (w : Nat) (e : EngSt := { m := [(0, 1)] }) : State :=
  { up.rset RIL.ESTAT_STATE 1 5 with code := [(81920, w)], engs := [(5, e)] }

/-- The sequencer of lane 17 in a state. -/
def furIn (st : Nat) (v : FurSt := {}) : State := (up.set FUR.STAT_STATE st 17).setFur 17 v

/-- Lane 17 a port of its own in READY with its receiver on. -/
def laneRx (mode : Nat) : State :=
  (((up.set PCS.CTRL_EN 1 17).set PCS.CTRL_MODE mode 17).set LN.STAT_STATE 5 17).set LN.CTRL_RXEN 1 17

/-! Witnesses: theorem wit_N_i meets the hypotheses of clause i (counted from 0) of statement N, wit_x those of a clause of another statement. -/

theorem wit_step_front : ({ State.reset with pending := [Instr.linkDown] } : State).pending = Instr.linkDown :: [] := by decide
theorem wit_step_empty : State.reset.pending = [] := by decide
theorem wit_inv_step : State.reset.inv = true ∧ step State.reset = .next State.reset.cycle := ⟨by decide, rfl⟩
theorem wit_keeps_queue : exec .linkDown State.reset = .next State.reset := rfl
theorem wit_log_record : State.reset.events.length ≤ 131072 ∧ State.reset.logLimited 0x0703 8 = false := by decide
theorem wit_log_limited : (State.reset.logEvent 0x0703 8 0).logLimited 0x0703 8 = true := by decide
theorem wit_fields_width : GLB.SCRATCH.w ≤ 32 := by decide
theorem wit_fields_other : GLB.SCRATCH.key 0 0 0 ≠ LN.STAT_STATE.key 3 0 0 := by decide
theorem wit_undefined_alone : LN.CTRL_LOOP.dom.allows (bitsOf 0x30000 LN.CTRL_LOOP.lo LN.CTRL_LOOP.w) = false := by decide
theorem wit_undefined_among : LN.CTRL_LOOP.dom.allows (bitsOf 0x30000 LN.CTRL_LOOP.lo LN.CTRL_LOOP.w) = false := by decide
theorem wit_defined : LN.CTRL_LOOP.w ≤ 32 ∧ LN.CTRL_LOOP.dom.allows (bitsOf 0 LN.CTRL_LOOP.lo LN.CTRL_LOOP.w) = true := by decide
theorem wit_csr_headworks : (0xFFFFFF : Nat) < 0x1000000 := by decide
theorem wit_csr_field : (7 : Nat) < 8 ∧ (7 + 1) * 0x1000000 ≤ 0x8FFFFFF ∧ 0x8FFFFFF < (7 + 2) * 0x1000000 := by decide
theorem wit_csr_turnout0 : (0x9000000 : Nat) ≤ 0x9FFFFFF ∧ 0x9FFFFFF < 0xA000000 := by decide
theorem wit_csr_turnout1 : (0xA000000 : Nat) ≤ 0xA000000 ∧ 0xA000000 < 0xB000000 := by decide
theorem wit_csr_unmapped : (0xB000000 : Nat) ≤ 0xB000000 := by decide
theorem wit_usrin : (State.reset.set GLB.AVAIL_FREADY 255).barred .FLD 3 = none := by decide
theorem wit_hbm_one_to_one : (0x1234567800 : Nat) / 2 ^ 15 % 2 ^ 23 = 0x1234567801 / 2 ^ 15 % 2 ^ 23 ∧ hbmChannel 0x1234567800 = hbmChannel 0x1234567801 := by decide
theorem wit_hbm_cover : (127 : Nat) < 128 := by decide
theorem wit_hbm_local : (0x23FFFFFFFF : Nat) < 0x2400000000 := by decide
theorem wit_code_clean : (2 : Nat) ≤ 2 ∧ 0xFFFFFFFFFFFFFFFF < 2 ^ 64 := by decide
theorem wit_code_l_one : 0xFFFFFFFFFFFFFFFF < 2 ^ 64 ∧ 71 < 72 := by decide
theorem wit_code_l_two : 0x5 < 2 ^ 64 ∧ 63 < 64 ∧ 64 < 72 := by decide
theorem wit_code_s_one : 0x5 < 2 ^ 64 ∧ 78 < 79 := by decide
theorem wit_code_s_two : 0x5 < 2 ^ 64 ∧ 0 < 78 ∧ 78 < 79 := by decide
theorem wit_code_s_three : 0x5 < 2 ^ 64 ∧ 0 < 63 ∧ 63 < 64 ∧ 64 < 79 := by decide
theorem wit_bytes_outside : (5 : Nat) < 7 ∨ 7 + ([1, 2] : List Byte).length ≤ 5 := by decide
theorem wit_write_outside : (15 : Nat) / 8 < 17 / 8 ∨ 17 / 8 + wordSpan 17 ([some 1] : List (Option Byte)).length ≤ 15 / 8 := by decide
theorem wit_poison_any : ([some 1] : List (Option Byte)).any Option.isSome = true := by decide
theorem wit_poison_checked : ([some 1] : List (Option Byte)).any Option.isSome = true ∧ (State.reset.writeWord 0 none 0xF00000000 [some 1] true).1.checkCode (8 * 0xF00000000) ≠ 0 := by decide
theorem wit_word_data : (0xFFFFFFFFFFFFFFFF : Nat) < 2 ^ 64 := by decide
theorem wit_word_clean : (0xFFFFFFFFFFFFFFFF : Nat) < 2 ^ 64 ∧ State.reset.checkCode (8 * 0xF00000000) ≤ 2 := by decide
theorem wit_word_other : (4 : Nat) ≠ 5 := by decide
theorem wit_CommandFrames_0 : (fun (g : StateKind) (c : Instr) (s : State) (t : State) => (mayChange g c = false) ∧ (exec c s = .next t)) (.ledger) (.linkDown) (State.reset) (State.reset) := ⟨rfl, rfl⟩
theorem wit_CommandFrames_1 : (fun (g : StateKind) (c : Instr) (s : State) (t : State) => (quietChange g c = false) ∧ (s.ingress = []) ∧ (s.boot.rolling = false) ∧ (exec c s = .next t)) (.walkers) (.linkDown) (State.reset) (State.reset) := ⟨rfl, rfl, rfl, rfl⟩
theorem wit_CommandFrames_2 : (fun (c : Instr) (s : State) (t : State) (a : Nat) => (mayChange .memory c = false) ∧ (exec c s = .next t)) (.linkDown) (State.reset) (State.reset) (5) := ⟨rfl, rfl⟩
theorem wit_CaptureCommands_0 : (fun (l : LaneId) (v : Word) (s : State) => (s.barred .CFE (l.val / 16) = none)) (17) (1#32) (State.reset.set GLB.AVAIL_FREADY 255) := by decide
theorem wit_CaptureCommands_1 : (fun (l : LaneId) (v : Word) (s : State) => (s.barred .CFE (l.val / 16) = none) ∧ (bitOf v.toNat 8 = true)) (17) (0x100#32) (State.reset.set GLB.AVAIL_FREADY 255) := by decide
theorem wit_CaptureCommands_2 : (fun (l : LaneId) (v : Word) (s : State) => (s.barred .CFE (l.val / 16) = none) ∧ (bitOf v.toNat 8 = false)) (17) (0x3#32) (State.reset.set GLB.AVAIL_FREADY 255) := by decide
theorem wit_CaptureCommands_3 : (fun (l : LaneId) (g : FabFrame) (s : State) => (s.flag CFE.CTRL_SRC l = true) ∧ (s.cfeOn l = true) ∧ (s.time.tclk = true)) (17) ({ bytes := [], err := false }) (((State.reset.set GLB.AVAIL_FREADY 255).set CFE.CTRL_SRC 1 17).set CFE.CTRL_EN 1 17) := by decide
theorem wit_CaptureCommands_4 : (fun (l : LaneId) (f : Option FabFrame) (r : RxFrame) (t : List RxFrame) (s : State) => (s.flag CFE.CTRL_SRC l = false) ∧ ((s.lane l).rx = r :: t) ∧ (s.cfeOn l = true) ∧ (s.time.tclk = true)) (17) (none) ({ bytes := [] }) ([]) (((((up.set CFE.CTRL_EN 1 17).set PCS.CTRL_EN 1 17).set PCS.CTRL_MODE 1 17).setLane 17 { rx := [{ bytes := [] }] })) := by decide
theorem wit_CaptureCommands_5 : (fun (l : LaneId) (f : Option FabFrame) (s : State) => (s.time.tclk = false)) (17) (none) ({ State.reset with time := { tclk := false } }) := by decide
theorem wit_CaptureCommands_6 : (fun (l : LaneId) (r : PendRec) (t : List PendRec) (s : State) => ((s.cfe l).pend = r :: t) ∧ (r.ts + decisionDelay < s.fieldNow (l / 16)) ∧ (s.time.tclk = true)) (17) ({ cist := 3, ts := 0, length := 64, sieve := 0x80, flags := 0, anchor := 17, mode := 1, tag := 0, data := [] }) ([]) ((State.reset.setCfe 17 { pend := [{ cist := 3, ts := 0, length := 64, sieve := 0x80, flags := 0, anchor := 17, mode := 1, tag := 0, data := [] }] }).setSlave 1 { t := 49 * 2 ^ 32 }) := by decide
theorem wit_CaptureCommands_7 : (fun (l : LaneId) (s : State) => ((s.cfe l).pend = [])) (17) (State.reset) := by decide
theorem wit_CaptureCommands_8 : (fun (l : LaneId) (s : State) => (s.cfeOn l = true) ∧ ((s.cfe l).gap.isSome = true) ∧ (s.gapReady l = true) ∧ (s.time.tclk = true)) (17) ((((State.reset.set GLB.AVAIL_FREADY 255).set CFE.CTRL_EN 1 17).set CAP.SBOOK1_RFREE 9).setCfe 17 { meter := 64 * 2 ^ 33, gap := some ⟨1, 64, 0, 0, 1⟩ }) := by decide
theorem wit_CaptureCommands_9 : (fun (l : LaneId) (s : State) => (s.cfeOn l = true) ∧ ((s.cfe l).segs.length < s.get CAP.SCFG_LOAN)) (17) ((State.reset.set GLB.AVAIL_FREADY 255).set CFE.CTRL_EN 1 17) := by decide
theorem wit_CaptureCommands_11 : (fun (d : Closed) (t : List Closed) (s : State) => (s.closed = d :: t) ∧ (s.draining.length < 64)) (⟨1, false, []⟩) ([]) ({ State.reset with closed := [⟨1, false, []⟩] }) := by decide
theorem wit_CaptureCommands_12 : (fun (s : State) => (s.closed = [])) (State.reset) := by decide
theorem wit_CaptureCommands_13 : (fun (i : Fin 64) (d : Closed) (s : State) => (s.draining[i.val]? = some d) ∧ (s.jobOpen (d.id + 1) = true)) (0) (⟨1, false, []⟩) ({ State.reset with draining := [⟨1, false, []⟩], waiting := [{ op := .pwr, src := 0x804, oc := 0, addr := 0, len := 1, job := 2 }] }) := by decide
theorem wit_CaptureCommands_14 : (fun (i : Fin 64) (d : Closed) (s : State) => (s.draining[i.val]? = some d) ∧ (s.jobOpen (d.id + 1) = false) ∧ (d.reserve = true)) (0) (⟨1, true, []⟩) ({ State.reset with draining := [⟨1, true, []⟩] }) := by decide
theorem wit_CaptureCommands_15 : (fun (l : LaneId) (t : Nat) (s : State) => ((s.cist (s.get CFE.CTRL_CIST l)).stop = some t) ∧ (l.val ∈ (s.cist (s.get CFE.CTRL_CIST l)).acks) ∧ (t + decisionDelay < s.fieldNow (l / 16)) ∧ ((s.cfe l).pend.all (fun r => decide (t ≤ r.ts)) = true)) (17) (5) ((State.reset.setCist 0 { stop := some 5, acks := [17] }).setSlave 1 { t := 49 * 2 ^ 32 }) := by decide
theorem wit_CisternAndFloatCommands_0 : (fun (c : CistId) (src : Fin 4096) (v : Word) (s : State) => (s.barred .CAP 0 = none) ∧ (countBits (actionWord v 0) 4 = 1) ∧ (bitOf (actionWord v 0) 0 = true)) (3) (5) (0#32) (State.reset) := by decide
theorem wit_CisternAndFloatCommands_1 : (fun (c : CistId) (src : Fin 4096) (v : Word) (s : State) => (s.barred .CAP 0 = none) ∧ (countBits (actionWord v 1) 4 = 1) ∧ (bitOf (actionWord v 1) 0 = false) ∧ (bitOf (actionWord v 1) 1 = true)) (3) (5) (0#32) (State.reset) := by decide
theorem wit_CisternAndFloatCommands_2 : (fun (c : CistId) (src : Fin 4096) (v : Word) (s : State) => (s.barred .CAP 0 = none)) (3) (5) (0#32) (State.reset) := by decide
theorem wit_CisternAndFloatCommands_3 : (fun (c : CistId) (src : Fin 4096) (v : Word) (s : State) => (s.barred .CAP 0 = none)) (3) (5) (0#32) (State.reset) := by decide
theorem wit_CisternAndFloatCommands_4 : (fun (c : CistId) (s : State) => (s.get CAP.CSTAT_STATE c = 1)) (3) (State.reset.set CAP.CSTAT_STATE 1 3) := by decide
theorem wit_CisternAndFloatCommands_5 : (fun (c : CistId) (s : State) => (s.get CAP.CSTAT_STATE c = 2)) (3) (State.reset.set CAP.CSTAT_STATE 2 3) := by decide
theorem wit_CisternAndFloatCommands_7 : (fun (hi : Bool) (v : Word) (m : Nat) (s : State) => (s.barred .FLT 0 = none) ∧ (v.toNat ≠ 0) ∧ (m = (if hi then v.toNat * 2 ^ 32 else v.toNat))) (true) (5#32) (5 * 2 ^ 32) (State.reset) := by decide
theorem wit_CisternAndFloatCommands_8 : (fun (hi : Bool) (v : Word) (s : State) => (s.barred .FLT 0 = none) ∧ (v.toNat = 0)) (true) (0#32) (State.reset) := by decide
theorem wit_CisternAndFloatCommands_9 : (fun (v : Word) (s : State) => (s.barred .FLT 0 = none) ∧ (s.flag FLT.CTRL_EN = false) ∧ (bitOf (setBit v.toNat 0) 0 = true)) (0#32) (State.reset) := by decide
theorem wit_CisternAndFloatCommands_10 : (fun (v : Word) (s : State) => (s.barred .FLT 0 = none) ∧ (bitOf (clearBit v.toNat 0) 0 = false)) (1#32) (State.reset) := by decide
theorem wit_CisternAndFloatCommands_11 : (fun (s : State) => (s.flag FLT.STAT_RUN = true) ∧ (s.flt.evDue = true)) ({ State.reset.set FLT.STAT_RUN 1 with flt := { evDue := true } }) := by decide
theorem wit_CisternAndFloatCommands_12 : (fun (s : State) => (s.flt.evDue = false)) (State.reset) := by decide
theorem wit_CisternAndFloatCommands_13 : (fun (s : State) => (s.flag FLT.STAT_RUN = true) ∧ (s.get FLT.TLIM (s.get FLT.STAT_STATE) ≠ 0)) ((State.reset.set FLT.STAT_RUN 1).set FLT.TLIM 9 0) := by decide
theorem wit_CisternAndFloatCommands_14 : (fun (s : State) => (s.barred .FLT 0 = none)) (State.reset) := by decide
theorem wit_WalkAndRegionCommands_0 : (fun (k : Fin 26) (s : State) => (s.walkOn k = false)) (1) (State.reset.set DRH.WK_EN 0 1) := by decide
theorem wit_WalkAndRegionCommands_1 : (fun (k : Fin 26) (w : Nat) (rest : List Nat) (s : State) => (s.walkOn k = true) ∧ ((s.walker k).repair = w :: rest)) (1) (5) ([]) ((State.reset.set DRH.WK_EN 1 1).setWalker 1 { repair := [5] }) := by decide
theorem wit_WalkAndRegionCommands_2 : (fun (k : Fin 26) (s : State) => (s.walkOn k = true) ∧ ((s.walker k).repair = []) ∧ ((s.walker k).running = true)) (1) ((State.reset.set DRH.WK_EN 1 1).setWalker 1 { running := true }) := by decide
theorem wit_WalkAndRegionCommands_3 : (fun (k : Fin 26) (s : State) => (s.walkOn k = true)) (1) (State.reset.set DRH.WK_EN 1 1) := by decide
theorem wit_WalkAndRegionCommands_4 : (fun (k : Fin 26) (s : State) => (s.walkOn k = true) ∧ ((s.walker k).epochAt ≤ s.elapsed)) (1) (State.reset.set DRH.WK_EN 1 1) := by decide
theorem wit_WalkAndRegionCommands_5 : (fun (k : Fin 26) (s : State) => (s.elapsed < (s.walker k).epochAt)) (1) (State.reset.setWalker 1 { epochAt := 9 }) := by decide
theorem wit_WalkAndRegionCommands_6 : (fun (u : Fin 9) (m : Fin 4) (e : Fin 1024) (src : Fin 4096) (s : State) => (s.barred (if u.val = 0 then .DRH else .DRF) (u.val - 1) = none)) (2) (1) (7) (0x900) (State.reset.set GLB.AVAIL_FREADY 255) := by decide
theorem wit_WalkAndRegionCommands_7 : (fun (u : Fin 9) (m : Fin 4) (e : Fin 1024) (src : Fin 4096) (s : State) => (s.barred (if u.val = 0 then .DRH else .DRF) (u.val - 1) = none)) (2) (1) (7) (0x900) (State.reset.set GLB.AVAIL_FREADY 255) := by decide
theorem wit_WalkAndRegionCommands_8 : (fun (u : Fin 9) (m : Fin 4) (e : Fin 1024) (src : Fin 4096) (s : State) => (s.barred (if u.val = 0 then .DRH else .DRF) (u.val - 1) = none)) (2) (1) (7) (0x900) (State.reset.set GLB.AVAIL_FREADY 255) := by decide
theorem wit_WalkAndRegionCommands_9 : (fun (u : Fin 9) (p : RangeSt) (s : State) => (Store.find u.val s.ranges = some p)) (0) ({ entry := 0, mode := 0, mem := 0, base := 0, len := 64 }) ({ State.reset with ranges := [(0, { entry := 0, mode := 0, mem := 0, base := 0, len := 64 })] }) := by decide
theorem wit_WalkAndRegionCommands_10 : (fun (b : Fin 17) (r : Nat) (s : State) => (Store.find b.val s.autoInit = some r)) (0) (7) ({ State.reset with autoInit := [(0, 7)] }) := by decide
theorem wit_WalkAndRegionCommands_11 : (fun (b : Fin 17) (i : Fin 288) (v : Word) (s : State) => (s.barred (if b.val = 0 then .DRH else .DRF) ((b.val - 1) % 8) = none)) (3) (2) (1#32) (State.reset.set GLB.AVAIL_FREADY 255) := by decide
theorem wit_WalkAndRegionCommands_12 : (fun (n : FieldId) (f : FrameFound) (p : Fin 13) (s : State) => (s.serves n = true) ∧ ((Store.get {} n.val s.fields).scanAt ≤ s.elapsed)) (3) (.bad) (4) (up) := by decide
theorem wit_WalkAndRegionCommands_13 : (fun (n : FieldId) (f : FrameFound) (p : Fin 13) (s : State) => (s.serves n = false)) (3) (.bad) (4) (State.reset) := by decide
theorem wit_WalkAndRegionCommands_14 : (fun (n : FieldId) (f : FrameFound) (p : Fin 13) (s : State) => (s.elapsed < (Store.get {} n.val s.fields).scanAt)) (3) (.bad) (4) (State.reset.setField 3 { scanAt := 9 }) := by decide
theorem wit_WalkAndRegionCommands_15 : (fun (u : Fin 9) (ofs : Fin 65536) (s : State) => (u.val = 0)) (0) (4) (State.reset) := by decide
theorem wit_WalkAndRegionCommands_16 : (fun (u : Fin 9) (ofs : Fin 65536) (s : State) => (u.val ≠ 0)) (3) (4) (State.reset) := by decide
theorem wit_WalkAndRegionCommands_17 : (fun (u : Fin 9) (ofs : Fin 65536) (b : Fin 32) (s : State) => (u.val = 0)) (0) (4) (3) (State.reset) := by decide
theorem wit_WalkAndRegionCommands_18 : (fun (u : Fin 9) (ofs : Fin 65536) (b : Fin 32) (s : State) => (u.val ≠ 0)) (3) (4) (3) (State.reset) := by decide
theorem wit_ReservoirAndBasinCommands_0 : (fun (n : FieldId) (r : Fin 16) (i : Fin 84) (a : Option BasinPort) (b : Option BasinPort) (s : State) => (s.stepRun n 0 = true) ∧ (s.clocksRun n r = true) ∧ ((regionGated s n r || !s.bit FCC.STEP_DONE 3 n) = false)) (3) (2) (5) (none) (none) (State.reset.set FCC.STEP_DONE 9 3) := by decide
theorem wit_ReservoirAndBasinCommands_1 : (fun (n : FieldId) (r : Fin 16) (i : Fin 84) (a : Option BasinPort) (b : Option BasinPort) (s : State) => (s.stepRun n 0 = true) ∧ (s.clocksRun n r = true) ∧ ((regionGated s n r || !s.bit FCC.STEP_DONE 3 n) = true)) (3) (2) (5) (none) (none) (State.reset.set FCC.STEP_DONE 1 3) := by decide
theorem wit_ReservoirAndBasinCommands_2 : (fun (n : FieldId) (r : Fin 16) (i : Fin 84) (a : Option BasinPort) (b : Option BasinPort) (s : State) => (s.clocksRun n r = false)) (3) (6) (5) (none) (none) (State.reset.set FCC.PSTAT_STATE 2 3 2) := by decide
theorem wit_ReservoirAndBasinCommands_3 : (fun (i : RsvId) (p : RsvPort) (x : Fin 4194304) (len : Fin 64) (st : List (List RsvBusy)) (s : State) => (s.rsvTakes i p = true)) (5) (.ril 1 2) (64) (7) ([]) (State.reset) := by decide
theorem wit_ReservoirAndBasinCommands_4 : (fun (i : RsvId) (p : RsvPort) (x : Fin 4194304) (len : Fin 64) (st : List (List RsvBusy)) (s : State) => (s.rsvTakes i p = true)) (5) (.ril 1 2) (64) (7) ([]) (State.reset) := by decide
theorem wit_ReservoirAndBasinCommands_6 : (fun (i : RsvId) (p : RsvPort) (w : Fin 524288) (h : Fin 3) (st : List (List RsvBusy)) (s : State) => (s.rsvTakes i p = true)) (5) (.ril 1 2) (64) (0) ([]) (State.reset) := by decide
theorem wit_ReservoirAndBasinCommands_7 : (fun (i : RsvId) (p : RsvPort) (w : Fin 524288) (h : Fin 3) (d : BitVec 64) (st : List (List RsvBusy)) (s : State) => (s.rsvTakes i p = true)) (5) (.ril 1 2) (64) (0) (7#64) ([]) (State.reset) := by decide
theorem wit_ReservoirAndBasinCommands_8 : (fun (i : RsvId) (s : State) => (s.barred .RSV (i.val / 4) = none)) (5) (State.reset.set GLB.AVAIL_FREADY 255) := by decide
theorem wit_DebugCommands_0 : (fun (n : FieldId) (c : Fin 4) (u : Fin 8) (r : Fin 4) (v : Word) (s : State) => (s.barred .FDB n = none)) (3) (1) (2) (0) (1#32) ((State.reset.set GLB.AVAIL_FREADY 255)) := by decide
theorem wit_DebugCommands_1 : (fun (g : EngId) (s : State) => (s.barred .FDB (g.val / 32) = none)) (5) ((State.reset.set GLB.AVAIL_FREADY 255)) := by decide
theorem wit_DebugCommands_2 : (fun (g : EngId) (s : State) => (s.barred .FDB (g.val / 32) = none)) (5) ((State.reset.set GLB.AVAIL_FREADY 255)) := by decide
theorem wit_DebugCommands_3 : (fun (g : EngId) (s : State) => (s.barred .FDB (g.val / 32) = none)) (5) ((State.reset.set GLB.AVAIL_FREADY 255)) := by decide
theorem wit_DebugCommands_4 : (fun (g : EngId) (t : State) (s : State) => (s.rget RIL.ESTAT_STATE g = 1) ∧ ((s.eng g).halt.isSome = true) ∧ ((s.eng g).draining = false) ∧ (s.haltDeferred g = true) ∧ (t = s.rilCycles g (64 - (s.eng g).defer)) ∧ (t.rget RIL.ESTAT_STATE g = 1) ∧ ((t.eng g).halt.isSome = true) ∧ ((t.eng g).draining = false) ∧ (t.haltDeferred g = true) ∧ ((t.eng g).defer = 64)) (5) (({ (rilAt 0 { halt := some (0, 0) }) with resv := [(5, 9)] }).rilCycles 5 64) ({ (rilAt 0 { halt := some (0, 0) }) with resv := [(5, 9)] }) := ⟨by decide, by decide, by decide, by decide, rfl, by decide, by decide, by decide, by decide, by decide⟩
theorem wit_DebugCommands_5 : (fun (g : EngId) (s : State) => ((s.eng g).halt = none)) (5) (State.reset) := by decide
theorem wit_DebugCommands_6 : (fun (n : FieldId) (e : Fin 32) (p : Fin 32) (v : Word) (s : State) => (s.barred .FDB n = none)) (3) (1) (2) (5#32) ((State.reset.set GLB.AVAIL_FREADY 255)) := by decide
theorem wit_DebugCommands_7 : (fun (n : FieldId) (p : Fin 256) (k : Fin 16) (d : BitVec 128) (s : State) => (s.fabricOpen n 18 = true) ∧ (k.val ≠ 0)) (3) (7) (4) (5#128) (State.reset.set FCC.STEP_DONE 8 3) := by decide
theorem wit_DebugCommands_8 : (fun (n : FieldId) (p : Fin 256) (d : BitVec 128) (s : State) => (s.fabricOpen n 18 = true)) (3) (7) (5#128) (State.reset.set FCC.STEP_DONE 8 3) := by decide
theorem wit_DebugCommands_9 : (fun (u : Fin 9) (v : Word) (s : State) => (s.barred (if u.val < 8 then .FDB else .DBG) u = none)) (8) (1#32) (State.reset) := by decide
theorem wit_DebugCommands_10 : (fun (u : Fin 9) (s : State) => ((s.ring u).fifo = [])) (8) (State.reset) := by decide
theorem wit_DebugCommands_11 : (fun (u : Fin 9) (p : List Byte) (rest : List (List Byte)) (s : State) => (s.get (ringRegs u).state (ringIx u) = 1) ∧ ((s.ring u).fifo = p :: rest) ∧ ((s.netStore .pwr (ringSrc u) 0 (s.ringBase u + s.ringPtr u) p).2 = .ok)) (8) (List.replicate 32 0) ([]) (((State.reset.set DBG.TBASE_HI 0x78).set DBG.TSTAT_STATE 1).setRing 8 { fifo := [List.replicate 32 0] }) := by decide
theorem wit_DebugCommands_12 : (fun (u : Fin 9) (p : List Byte) (rest : List (List Byte)) (s : State) => (s.get (ringRegs u).state (ringIx u) = 1) ∧ ((s.ring u).fifo = p :: rest) ∧ ((s.netStore .pwr (ringSrc u) 0 (s.ringBase u + s.ringPtr u) p).2 = .waits)) (8) (List.replicate 32 0) ([]) (((State.reset.set DBG.TSTAT_STATE 1).setRing 8 { fifo := [List.replicate 32 0] }).set CNL.CREDIT_CRD_POST 0 (hbmPort 0)) := by decide
theorem wit_GaugeCommands_0 : (fun (s : State) => (s.barred .GAU 0 = none)) (State.reset) := by decide
theorem wit_GaugeCommands_1 : (fun (s : State) => (s.barred .GAU 0 = none)) (State.reset) := by decide
theorem wit_GaugeCommands_2 : (fun (s : State) => (s.barred .GAU 0 = none)) (State.reset) := by decide
theorem wit_GaugeCommands_3 : (fun (s : State) => (s.flag GAU.STAT_UNLOCKED = true) ∧ (s.gau.ends ≤ s.now)) (State.reset.set GAU.STAT_UNLOCKED 1) := by decide
theorem wit_GaugeCommands_4 : (fun (s : State) => (s.flag GAU.STAT_UNLOCKED = false)) (State.reset) := by decide
theorem wit_GaugeCommands_5 : (fun (i : Fin 48) (v : Word) (s : State) => (s.barred .GAU 0 = none) ∧ (s.flag GAU.STAT_UNLOCKED = false)) (3) (5#32) (State.reset) := by decide
theorem wit_GaugeCommands_6 : (fun (i : Fin 48) (v : Word) (s : State) => (s.barred .GAU 0 = none) ∧ (s.flag GAU.STAT_UNLOCKED = true) ∧ (s.bit GAU.STAT_SCOPE 0 = true) ∧ (i.val < 16)) (3) (5#32) ((State.reset.set GAU.STAT_UNLOCKED 1).set GAU.STAT_SCOPE 1) := by decide
theorem wit_TestAccessCommands_0 : (fun (d : Fin 9) (s : State) => (s.inChain d = true)) (3) (State.reset) := by decide
theorem wit_TestAccessCommands_1 : (fun (d : Fin 9) (s : State) => (s.inChain d = true)) (3) (State.reset) := by decide
theorem wit_TestAccessCommands_2 : (fun (d : Fin 9) (a : List Bool) (b : List Bool) (s : State) => (s.inChain d = true)) (3) ([true]) ([false]) (State.reset) := by decide
theorem wit_TestAccessCommands_3 : (fun (d : Fin 9) (s : State) => (s.inChain d = true) ∧ (s.tap.testEn = true)) (3) ({ State.reset with tap := { testEn := true } }) := by decide
theorem wit_TestAccessCommands_4 : (fun (d : Fin 9) (s : State) => (s.inChain d = true) ∧ (s.tap.testEn = false)) (3) (State.reset) := by decide
theorem wit_TestAccessCommands_5 : (fun (d : Fin 9) (s : State) => (s.inChain d = true) ∧ (s.tap.testEn = true)) (3) ({ State.reset with tap := { testEn := true } }) := by decide
theorem wit_TestAccessCommands_6 : (fun (d : Fin 9) (s : State) => (s.inChain d = true) ∧ (s.tap.testEn = false)) (3) (State.reset) := by decide
theorem wit_TestAccessCommands_7 : (fun (d : Fin 9) (s : State) => (s.inChain d = true) ∧ (s.tap.testEn = true)) (3) ({ State.reset with tap := { testEn := true } }) := by decide
theorem wit_TestAccessCommands_8 : (fun (d : Fin 9) (s : State) => (s.inChain d = true) ∧ (s.tap.testEn = false)) (3) (State.reset) := by decide
theorem wit_TestAccessCommands_9 : (fun (d : Fin 9) (s : State) => (s.inChain d = true) ∧ (s.tap.testEn = true)) (3) ({ State.reset with tap := { testEn := true } }) := by decide
theorem wit_TestAccessCommands_10 : (fun (d : Fin 9) (s : State) => (s.inChain d = true) ∧ (s.tap.testEn = false)) (3) (State.reset) := by decide
theorem wit_TestAccessCommands_11 : (fun (d : Fin 9) (s : State) => (s.inChain d = true) ∧ (s.tap.testEn = true)) (3) ({ State.reset with tap := { testEn := true } }) := by decide
theorem wit_TestAccessCommands_12 : (fun (d : Fin 9) (s : State) => (s.inChain d = true) ∧ (s.tap.testEn = false)) (3) (State.reset) := by decide
theorem wit_TestAccessCommands_13 : (fun (d : Fin 9) (s : State) => (s.inChain d = true) ∧ (s.tap.testEn = true)) (3) ({ State.reset with tap := { testEn := true } }) := by decide
theorem wit_TestAccessCommands_14 : (fun (d : Fin 9) (s : State) => (s.inChain d = true) ∧ (s.tap.testEn = false)) (3) (State.reset) := by decide
theorem wit_TestAccessCommands_15 : (fun (d : Fin 9) (e : List Word) (s : State) => (s.inChain d = true) ∧ (s.tap.testEn = true)) (3) ([]) ({ State.reset with tap := { testEn := true } }) := by decide
theorem wit_TestAccessCommands_16 : (fun (d : Fin 9) (e : List Word) (s : State) => (s.inChain d = true) ∧ (s.tap.testEn = false)) (3) ([]) (State.reset) := by decide
theorem wit_TestAccessCommands_17 : (fun (d : Fin 9) (s : State) => (s.inChain d = false)) (3) ({ State.reset with part := { State.reset.part with pop := 4 } }) := by decide
theorem wit_FlumeModuleCommands_0 : (fun (n : FieldId) (m : Fin 8) (again : Bool) (s : State) => (s.get FLH.MSTAT_STATE n m = 2)) (3) (2) (true) ((State.reset.set FLH.MSTAT_STATE 2 3 2)) := by decide
theorem wit_FlumeModuleCommands_1 : (fun (n : FieldId) (m : Fin 8) (again : Bool) (s : State) => (s.get FLH.MSTAT_STATE n m = 2)) (3) (2) (true) ((State.reset.set FLH.MSTAT_STATE 2 3 2)) := by decide
theorem wit_FlumeModuleCommands_2 : (fun (i : SiteId) (m : Fin 8) (lost : Bool) (s : State) => (lost = true ∨ 8 ≤ (s.mod i m).failed)) (3) (2) (true) ((State.reset.set FLH.MSTAT_STATE 2 3 2)) := by decide
theorem wit_FlumeModuleCommands_3 : (fun (i : SiteId) (m : Fin 8) (s : State) => ((s.mod i m).failed < 8)) (3) (2) ((State.reset.set FLH.MSTAT_STATE 2 3 2)) := by decide
theorem wit_FlumeModuleCommands_4 : (fun (i : SiteId) (m : Fin 8) (s : State) => (s.barred .FLH 0 = none)) (3) (2) ((State.reset.set FLH.MSTAT_STATE 2 3 2)) := by decide
theorem wit_FlumeModuleCommands_5 : (fun (n : FieldId) (m : Fin 8) (hw : BitVec 88) (fd : BitVec 88) (s : State) => (s.get FLH.MSTAT_STATE n m = 3) ∧ ((s.mod n m).stage = 0)) (3) (2) (0#88) (1#88) ((State.reset.set FLH.MSTAT_STATE 3 3 2)) := by decide
theorem wit_FlumeModuleCommands_6 : (fun (n : FieldId) (m : Fin 8) (s : State) => (s.get FLH.MSTAT_STATE n m = 3) ∧ ((s.mod n m).stage = 1) ∧ (s.get FLF.CAP_MAXW (8 * n.val + m) = s.get FLH.MSTAT_WIDTH n m)) (3) (2) (((State.reset.set FLH.MSTAT_STATE 3 3 2).setMod 3 2 { stage := 1 }).set FLH.MSTAT_WIDTH (State.reset.get FLF.CAP_MAXW 26) 3 2) := by decide
theorem wit_FlumeModuleCommands_7 : (fun (n : FieldId) (m : Fin 8) (s : State) => (s.get FLH.MSTAT_STATE n m = 3) ∧ ((s.mod n m).stage = 1) ∧ (s.get FLF.CAP_MAXW (8 * n.val + m) ≠ s.get FLH.MSTAT_WIDTH n m)) (3) (2) (((State.reset.set FLH.MSTAT_STATE 3 3 2).setMod 3 2 { stage := 1 }).set FLF.CAP_MAXW 2 26) := by decide
theorem wit_FlumeModuleCommands_8 : (fun (n : FieldId) (m : Fin 8) (s : State) => (s.asking n m = true) ∧ ((s.mod n m).reply = none) ∧ ((s.mod n m).fd.contains (s.mod n m).asked = true)) (3) (2) ((State.reset.set FLH.MSTAT_STATE 3 3 2).setMod 3 2 { stage := 3, fd := [1], asked := 1 }) := by decide
theorem wit_FlumeModuleCommands_9 : (fun (n : FieldId) (m : Fin 8) (s : State) => (s.asking n m = true) ∧ ((s.mod n m).reply = none) ∧ ((s.mod n m).fd.contains (s.mod n m).asked = false)) (3) (2) ((State.reset.set FLH.MSTAT_STATE 3 3 2).setMod 3 2 { stage := 3, fd := [1], asked := 0 }) := by decide
theorem wit_FlumeModuleCommands_10 : (fun (n : FieldId) (m : Fin 8) (s : State) => (s.asking n m = true) ∧ ((s.mod n m).reply = some true)) (3) (2) ((State.reset.set FLH.MSTAT_STATE 3 3 2).setMod 3 2 { stage := 3, reply := some true }) := by decide
theorem wit_FlumeModuleCommands_11 : (fun (n : FieldId) (m : Fin 8) (s : State) => (s.asking n m = true) ∧ ((s.mod n m).reply = some false)) (3) (2) ((State.reset.set FLH.MSTAT_STATE 3 3 2).setMod 3 2 { stage := 3, reply := some false }) := by decide
theorem wit_FlumeModuleCommands_12 : (fun (n : FieldId) (m : Fin 8) (s : State) => (s.asking n m = true)) (3) (2) ((State.reset.set FLH.MSTAT_STATE 3 3 2).setMod 3 2 { stage := 2 }) := by decide
theorem wit_FlumeModuleCommands_13 : (fun (n : FieldId) (m : Fin 8) (s : State) => (s.asking n m = false)) (3) (2) ((State.reset.set FLH.MSTAT_STATE 2 3 2)) := by decide
theorem wit_FlumeModuleCommands_14 : (fun (n : FieldId) (m : Fin 8) (s : State) => (s.get FLH.MSTAT_STATE n m = 3) ∧ ((s.mod n m).stage = 4)) (3) (2) ((State.reset.set FLH.MSTAT_STATE 3 3 2).setMod 3 2 { stage := 4 }) := by decide
theorem wit_FlumeModuleCommands_16 : (fun (n : FieldId) (m : Fin 8) (near : Bool) (s : State) => (s.barred .FLH 0 = none)) (3) (2) (true) (State.reset) := by decide
theorem wit_FlumeModuleCommands_17 : (fun (n : FieldId) (m : Fin 8) (errs : Nat) (bad : BitVec 88) (s : State) => (s.get FLH.MSTAT_STATE n m = 5)) (3) (2) (5) (1#88) ((State.reset.set FLH.MSTAT_STATE 5 3 2)) := by decide
theorem wit_FenceAndTurnoutCommands_0 : (fun (n : FieldId) (s : State) => (s.siteLive n = true)) (3) ((State.reset.set FLH.RC_STATUS 5 3)) := by decide
theorem wit_FenceAndTurnoutCommands_1 : (fun (n : FieldId) (s : State) => (s.siteLive n = false)) (3) (State.reset) := by decide
theorem wit_FenceAndTurnoutCommands_3 : (fun (n : FieldId) (c : Fin 3) (s : State) => (c.val < 2) ∧ (s.get FLH.RC_STATUS n = 8) ∧ (s.get FLH.RC_FAIL n = 0x0C) ∧ (s.now / 2 ^ 16 ≤ s.stampOf fenceTs n / 2 ^ 16 + 2000 * 2 ^ 16)) (3) (1) ((State.reset.set FLH.RC_STATUS 8 3).set FLH.RC_FAIL 12 3) := by decide
theorem wit_FenceAndTurnoutCommands_5 : (fun (n : FieldId) (c : Fin 3) (s : State) => (c.val < 2) ∧ (s.get FLH.RC_FAIL n ≠ 0x0C)) (3) (1) (State.reset) := by decide
theorem wit_FenceAndTurnoutCommands_6 : (fun (n : FieldId) (s : State) => (s.get FLH.RC_STATUS n = 8)) (3) (State.reset.set FLH.RC_STATUS 8 3) := by decide
theorem wit_FenceAndTurnoutCommands_7 : (fun (n : FieldId) (s : State) => (s.get FLH.RC_STATUS n ≠ 8)) (3) ((State.reset.set FLH.RC_STATUS 5 3)) := by decide
theorem wit_FenceAndTurnoutCommands_8 : (fun (i : SiteId) (s : State) => (s.barred .FLH 0 = none) ∧ (i.val < 8)) (3) ((State.reset.set FLH.RC_STATUS 5 3)) := by decide
theorem wit_FenceAndTurnoutCommands_11 : (fun (t : Fin 2) (g : GuestTrain) (s : State) => (s.get TRN.STAT_STATE t = 1 ∨ s.get TRN.STAT_STATE t = 2 ∨ s.get TRN.STAT_STATE t = 4) ∧ (s.siteLive (8 + t.val) = true)) (1) (⟨7, 3, 3, 0, 0, 5, 6, 1, 9⟩) ((State.reset.set FLH.RC_STATUS 3 9).set TRN.STAT_STATE 1 1) := by decide
theorem wit_FenceAndTurnoutCommands_12 : (fun (t : Fin 2) (m : Fin 2) (b : List Byte) (s : State) => (s.get TRN.STAT_STATE t = 3)) (1) (0) ([]) (State.reset.set TRN.STAT_STATE 3 1) := by decide
theorem wit_FenceAndTurnoutCommands_13 : (fun (t : Fin 2) (m : Fin 2) (b : List Byte) (s : State) => (s.get TRN.STAT_STATE t ≠ 3)) (1) (0) ([]) (State.reset) := by decide
theorem wit_RollCallCommands_0 : (fun (s : State) => (s.hostReady = true) ∧ (s.boot.admitted = true)) ({ ((State.reset.set HDG.STAT_KEYOK 1).set CXL.LSTAT_MODE 1) with boot := { rolling := true, admitted := true } }) := by decide
theorem wit_RollCallCommands_1 : (fun (s : State) => (s.hostReady = false)) (State.reset) := by decide
theorem wit_RollCallCommands_2 : (fun (s : State) => (s.hostReady = true) ∧ (s.boot.ended = true) ∧ (s.boot.admitted = false)) ({ ((State.reset.set HDG.STAT_KEYOK 1).set CXL.LSTAT_MODE 1) with boot := { rolling := true, ended := true } }) := by decide
theorem wit_RollCallCommands_3 : (fun (n : FieldId) (s : State) => (s.get FLH.RC_STATUS n = 1)) (3) (State.reset.set FLH.RC_STATUS 1 3) := by decide
theorem wit_RollCallCommands_4 : (fun (n : FieldId) (s : State) => (s.get FLH.RC_STATUS n = 1)) (3) (State.reset.set FLH.RC_STATUS 1 3) := by decide
theorem wit_RollCallCommands_5 : (fun (s : State) => (s.boot.rolling = true)) ({ State.reset with boot := { rolling := true } }) := by decide
theorem wit_RollCallCommands_6 : (fun (s : State) => (s.boot.inReset = false) ∧ (s.boot.rolling = false)) ({ State.reset with boot := { inReset := false } }) := by decide
theorem wit_RollCallCommands_7 : (fun (n : FieldId) (d : Fin 16) (r : Fin 16) (st : Fin 8) (ser : BitVec 64) (rep : List Word) (s : State) => (s.get FLH.RC_STATUS n = 2)) (3) (2) (4) (3) (9#64) ([]) (State.reset.set FLH.RC_STATUS 2 3) := by decide
theorem wit_RollCallCommands_8 : (fun (n : FieldId) (hw : List (BitVec 88)) (fd : List (BitVec 88)) (s : State) => (s.get FLH.RC_STATUS n = 3) ∧ (countBits (s.get FLH.MODES_WMODE n) 8 ≤ 6)) (3) ([]) ([]) (State.reset.set FLH.RC_STATUS 3 3) := by decide
theorem wit_RollCallCommands_9 : (fun (n : FieldId) (ok : Bool) (s : State) => (s.get FLH.RC_STATUS n = 4) ∧ (s.get FCC.STAT_PHASE n = 0) ∧ (s.get FWU.STAT_STATE ≠ 5)) (3) (true) (State.reset.set FLH.RC_STATUS 4 3) := by decide
theorem wit_RollCallCommands_10 : (fun (n : FieldId) (us : Fin 65536) (ok : Bool) (det : List (Fin 8)) (s : State) => (s.get FCC.STAT_PHASE n = 2) ∧ (s.flag FLF.FSTAT_FENCED (8 * n.val) = false)) (3) (7) (true) ([]) (State.reset.set FCC.STAT_PHASE 2 3) := by decide
theorem wit_RollCallCommands_11 : (fun (n : FieldId) (s : State) => (s.get FLH.RC_STATUS n = 4) ∧ (s.get FCC.STAT_PHASE n = 4) ∧ (s.flag FTS.STAT_LOCK n = true) ∧ (s.flag FTS.STAT_CALDONE n = true)) (3) ((((State.reset.set FLH.RC_STATUS 4 3).set FCC.STAT_PHASE 4 3).set FTS.STAT_LOCK 1 3).set FTS.STAT_CALDONE 1 3) := by decide
theorem wit_RollCallCommands_12 : (fun (n : FieldId) (s : State) => (1 ≤ s.get FLH.RC_STATUS n) ∧ (s.get FLH.RC_STATUS n ≤ 4)) (3) (State.reset.set FLH.RC_STATUS 3 3) := by decide
theorem wit_RollCallCommands_13 : (fun (n : FieldId) (s : State) => (s.get FLH.RC_STATUS n ≠ 4)) (3) (State.reset) := by decide
theorem wit_RollCallCommands_14 : (fun (level : Bool) (s : State) => ((s.setB RST.SYNC_LEVEL level).mayRelease = false)) (true) (State.reset) := by decide
theorem wit_RollCallCommands_15 : (fun (level : Bool) (s : State) => ((s.setB RST.SYNC_LEVEL level).mayRelease = true) ∧ ((s.setB RST.SYNC_LEVEL level).flag RST.SYNC_SYNCEN = false)) (true) ({ (State.reset.set GLB.AVAIL_FREADY 255).set RST.SYNC_SYNCEN 0 with boot := { readyAt := some 5 } }) := by decide
theorem wit_RollCallCommands_16 : (fun (s : State) => ((s.setB RST.SYNC_LEVEL true).mayRelease = true) ∧ ((s.setB RST.SYNC_LEVEL true).flag RST.SYNC_SYNCEN = true)) ({ (State.reset.set GLB.AVAIL_FREADY 255).set RST.SYNC_SYNCEN 1 with boot := { readyAt := some 5 } }) := by decide
theorem wit_RollCallCommands_17 : (fun (s : State) => (s.mayRelease = true) ∧ (s.flag RST.SYNC_SYNCEN = true) ∧ (s.get RST.SYNC_TIMEOUT ≠ 0) ∧ (s.boot.readyAt.getD 0 + s.get RST.SYNC_TIMEOUT * msUnits ≤ s.now)) ({ ((State.reset.set GLB.AVAIL_FREADY 255).set RST.SYNC_SYNCEN 1).set RST.SYNC_TIMEOUT 1 with boot := { readyAt := some 0 }, time := { State.reset.time with dtc := 2 * msUnits } }) := by decide
theorem wit_RollCallCommands_18 : (fun (n : FieldId) (s : State) => (s.flag RST.SYNC_RELEASED = false)) (3) (State.reset) := by decide
theorem wit_RollCallCommands_19 : (fun (n : FieldId) (s : State) => (s.flag RST.SYNC_RELEASED = true) ∧ (s.bit FPW.DON 0 n = true) ∧ (s.get FCC.STAT_PHASE n = 6) ∧ (s.stepsDone n ≠ 0) ∧ (Store.get 0 n s.boot.stepAt + usUnits ≤ s.fieldNow n) ∧ (s.boot.lockWait.contains n.val = false) ∧ (stepCode (s.get FCC.STEP_ORDER n) (s.stepsDone n) ≠ 0)) (3) ({ (((State.reset.set RST.SYNC_RELEASED 1).set FPW.DON 1 3).set FCC.STAT_PHASE 6 3).set FCC.STEP_ORDER 0xE4 3 with boot := { steps := [(3, 1)] }, slaves := [(3, { t := usUnits })] }) := by decide
theorem wit_RollCallCommands_20 : (fun (n : FieldId) (i : Fin 6) (s : State) => (s.bit FLD.PLL_USED i n = true) ∧ (s.get FCC.STAT_PHASE n = 3) ∧ ((s.setBitOf FLD.PLL_LOCK i n).pllsLocked n = true) ∧ ((s.setBitOf FLD.PLL_LOCK i n).get FCC.STAT_PHASE n = 3)) (3) (2) ((State.reset.set FLD.PLL_USED 4 3).set FCC.STAT_PHASE 3 3) := by decide
theorem wit_RollCallCommands_21 : (fun (n : FieldId) (i : Fin 6) (s : State) => (s.bit FLD.PLL_USED i n = true) ∧ (3 ≤ s.get FCC.STAT_PHASE n) ∧ (s.get FCC.STAT_PHASE n ≤ 7) ∧ ((s.setBitOf FLD.PLL_LOCK i n).pllsLocked n = false)) (3) (2) ((State.reset.set FLD.PLL_USED 5 3).set FCC.STAT_PHASE 3 3) := by decide
theorem wit_RollCallCommands_22 : (fun (n : FieldId) (s : State) => (s.pllsLocked n = true)) (3) (State.reset) := by decide
theorem wit_RollCallCommands_23 : (fun (n : FieldId) (s : State) => (s.pllsLocked n = false) ∧ (s.get FCC.STAT_PHASE n = 3)) (3) ((State.reset.set FLD.PLL_USED 5 3).set FCC.STAT_PHASE 3 3) := by decide
theorem wit_RollCallCommands_24 : (fun (n : FieldId) (s : State) => (s.pllsLocked n = false) ∧ (s.get FCC.STAT_PHASE n ≠ 3) ∧ (s.boot.lockWait.contains n.val = true)) (3) ({ State.reset.set FLD.PLL_USED 5 3 with boot := { lockWait := [3] } }) := by decide
theorem wit_ParcelCommands_0 : (fun (n : FieldId) (v : Word) (src : Fin 4096) (s : State) => (s.barred .FCC n = none)) (3) (1#32) (5) ((State.reset.set GLB.AVAIL_FREADY 255)) := by decide
theorem wit_ParcelCommands_1 : (fun (n : FieldId) (w : SwapSt) (s : State) => (s.swap n = some w) ∧ (w.drained = none) ∧ (w.t0 + usFs ≤ s.elapsed) ∧ (s.parcelQuiet n w.parcel = true)) (3) ({ parcel := 2, src := 15, entry := 0, t0 := 0 }) ({ State.reset.setSwap 3 { parcel := 2, src := 15, entry := 0, t0 := 0 } with elapsed := usFs }) := by decide
theorem wit_ParcelCommands_2 : (fun (n : FieldId) (w : SwapSt) (s : State) => (s.swap n = some w) ∧ (w.drained.isSome = true) ∧ (w.written = false) ∧ (w.drainedAt + 10 * usFs ≤ s.elapsed)) (3) ({ parcel := 2, src := 15, entry := 0, t0 := 0, drained := some 1 }) ({ State.reset.setSwap 3 { parcel := 2, src := 15, entry := 0, t0 := 0, drained := some 1 } with elapsed := 10 * usFs }) := by decide
theorem wit_ParcelCommands_3 : (fun (n : FieldId) (w : SwapSt) (s : State) => (s.swap n = some w) ∧ (w.drained.isSome = true) ∧ (w.written = false) ∧ (w.drainedAt + 10 * usFs ≤ s.elapsed)) (3) ({ parcel := 2, src := 15, entry := 0, t0 := 0, drained := some 1 }) ({ State.reset.setSwap 3 { parcel := 2, src := 15, entry := 0, t0 := 0, drained := some 1 } with elapsed := 10 * usFs }) := by decide
theorem wit_ParcelCommands_4 : (fun (n : FieldId) (w : SwapSt) (s : State) => (s.swap n = some w) ∧ (w.written = true) ∧ (w.writtenAt + 2 * usFs ≤ s.elapsed)) (3) ({ parcel := 2, src := 15, entry := 0, t0 := 0, drained := some 1, written := true }) ({ State.reset.setSwap 3 { parcel := 2, src := 15, entry := 0, t0 := 0, drained := some 1, written := true } with elapsed := 2 * usFs }) := by decide
theorem wit_ParcelCommands_5 : (fun (n : FieldId) (w : SwapSt) (s : State) => (s.swap n = some w) ∧ (w.drained = none) ∧ (w.t0 + 1000 * usFs ≤ s.elapsed)) (3) ({ parcel := 2, src := 15, entry := 0, t0 := 0 }) ({ State.reset.setSwap 3 { parcel := 2, src := 15, entry := 0, t0 := 0 } with elapsed := 1000 * usFs }) := by decide
theorem wit_FurrowCommands_0 : (fun (l : LaneId) (own : Bool) (s : State) => (s.barred .FUR (fieldOf l) = none) ∧ (own ≠ s.flag FUR.CTRL_OWN l) ∧ (¬ (s.get FUR.STAT_STATE l = 2 ∨ s.get FUR.STAT_STATE l = 3 ∨ s.get FUR.STAT_STATE l = 4))) (17) (true) ((State.reset.set GLB.AVAIL_FREADY 255)) := by decide
theorem wit_FurrowCommands_1 : (fun (l : LaneId) (own : Bool) (s : State) => (s.barred .FUR (fieldOf l) = none) ∧ (own ≠ s.flag FUR.CTRL_OWN l) ∧ (s.get FUR.STAT_STATE l = 4)) (17) (true) (((State.reset.set GLB.AVAIL_FREADY 255).set FUR.STAT_STATE 4 17)) := by decide
theorem wit_FurrowCommands_2 : (fun (l : LaneId) (s : State) => (s.barred .FUR (fieldOf l) = none) ∧ ((s.wakeQuad (quadOf l)).get FUR.STAT_STATE l = 0)) (17) ((State.reset.set GLB.AVAIL_FREADY 255)) := by decide
theorem wit_FurrowCommands_3 : (fun (l : LaneId) (s : State) => (s.barred .FUR (fieldOf l) = none) ∧ ((s.wakeQuad (quadOf l)).get FUR.STAT_STATE l = 4)) (17) (((State.reset.set GLB.AVAIL_FREADY 255).set FUR.STAT_STATE 4 17)) := by decide
theorem wit_FurrowCommands_4 : (fun (l : LaneId) (s : State) => (s.barred .FUR (fieldOf l) = none) ∧ ((s.wakeQuad (quadOf l)).flag FLF.FSTAT_FENCED (8 * fieldOf l) = false) ∧ (furRested ((s.wakeQuad (quadOf l)).get FUR.STAT_STATE l) = true) ∧ ((s.wakeQuad (quadOf l)).furCheckArm l = 0)) (17) (((up.set FUR.STAT_STATE 1 17).set PCS.CTRL_EN 1 17).set PCS.CTRL_MODE 1 17) := by decide
theorem wit_FurrowCommands_5 : (fun (l : LaneId) (s : State) => (s.barred .FUR (fieldOf l) = none) ∧ ((s.wakeQuad (quadOf l)).flag FLF.FSTAT_FENCED (8 * fieldOf l) = false) ∧ (furRested ((s.wakeQuad (quadOf l)).get FUR.STAT_STATE l) = true) ∧ ((s.wakeQuad (quadOf l)).furCheckArm l ≠ 0)) (17) (up.set FUR.STAT_STATE 1 17) := by decide
theorem wit_FurrowCommands_6 : (fun (l : LaneId) (s : State) => (s.barred .FUR (fieldOf l) = none) ∧ ((s.wakeQuad (quadOf l)).flag FLF.FSTAT_FENCED (8 * fieldOf l) = false) ∧ (furRested ((s.wakeQuad (quadOf l)).get FUR.STAT_STATE l) = false)) (17) (up.set FUR.STAT_STATE 4 17) := by decide
theorem wit_FurrowCommands_7 : (fun (l : LaneId) (s : State) => (s.barred .FUR (fieldOf l) = none) ∧ ((s.wakeQuad (quadOf l)).flag FLF.FSTAT_FENCED (8 * fieldOf l) = true)) (17) (up.set FLF.FSTAT_FENCED 1 8) := by decide
theorem wit_FurrowCommands_8 : (fun (l : LaneId) (s : State) => (s.barred .FUR (fieldOf l) = none) ∧ (s.get FUR.STAT_STATE l = 3) ∧ (s.flag FUR.CTRL_TIMED l = false)) (17) (((State.reset.set GLB.AVAIL_FREADY 255).set FUR.STAT_STATE 3 17)) := by decide
theorem wit_FurrowCommands_9 : (fun (l : LaneId) (s : State) => (s.barred .FUR (fieldOf l) = none) ∧ (s.get FUR.STAT_STATE l ≠ 3)) (17) ((State.reset.set GLB.AVAIL_FREADY 255)) := by decide
theorem wit_FurrowCommands_10 : (fun (l : LaneId) (s : State) => (s.barred .FUR (fieldOf l) = none) ∧ (s.get FUR.STAT_STATE l = 4) ∧ ((s.fur l).sending = none)) (17) (((State.reset.set GLB.AVAIL_FREADY 255).set FUR.STAT_STATE 4 17)) := by decide
theorem wit_FurrowCommands_11 : (fun (l : LaneId) (s : State) => (s.barred .FUR (fieldOf l) = none) ∧ (s.get FUR.STAT_STATE l = 4) ∧ ((s.fur l).sending.isSome = true)) (17) (furIn 4 { sending := some { bytes := [], whole := true } }) := by decide
theorem wit_FurrowCommands_12 : (fun (l : LaneId) (s : State) => (s.barred .FUR (fieldOf l) = none) ∧ (s.get FUR.STAT_STATE l ≠ 4)) (17) ((State.reset.set GLB.AVAIL_FREADY 255)) := by decide
theorem wit_FurrowCommands_13 : (fun (l : LaneId) (s : State) => (s.barred .FUR (fieldOf l) = none) ∧ (s.get FUR.STAT_STATE l = 4)) (17) (((State.reset.set GLB.AVAIL_FREADY 255).set FUR.STAT_STATE 4 17)) := by decide
theorem wit_FurrowCommands_14 : (fun (l : LaneId) (s : State) => (s.barred .FUR (fieldOf l) = none) ∧ (s.get FUR.STAT_STATE l ≠ 4)) (17) ((State.reset.set GLB.AVAIL_FREADY 255)) := by decide
theorem wit_FurrowCommands_15 : (fun (l : LaneId) (s : State) => (s.barred .FUR (fieldOf l) = none) ∧ (s.get FUR.STAT_STATE l = 2 ∨ s.get FUR.STAT_STATE l = 3 ∨ s.get FUR.STAT_STATE l = 5 ∨ s.get FUR.STAT_STATE l = 6)) (17) (((State.reset.set GLB.AVAIL_FREADY 255).set FUR.STAT_STATE 5 17)) := by decide
theorem wit_FurrowCommands_16 : (fun (l : LaneId) (s : State) => (s.barred .FUR (fieldOf l) = none) ∧ (¬ (s.get FUR.STAT_STATE l = 2 ∨ s.get FUR.STAT_STATE l = 3 ∨ s.get FUR.STAT_STATE l = 5 ∨ s.get FUR.STAT_STATE l = 6))) (17) ((State.reset.set GLB.AVAIL_FREADY 255)) := by decide
theorem wit_FurrowCommands_17 : (fun (l : LaneId) (s : State) => (s.get FUR.STAT_STATE l = 7)) (17) (((State.reset.set GLB.AVAIL_FREADY 255).set FUR.STAT_STATE 7 17)) := by decide
theorem wit_FurrowCommands_18 : (fun (l : LaneId) (s : State) => (s.get FUR.STAT_STATE l = 2) ∧ (s.furCheckPrimed l = 0)) (17) (up.set FUR.STAT_STATE 2 17) := by decide
theorem wit_FurrowCommands_19 : (fun (l : LaneId) (s : State) => (s.get FUR.STAT_STATE l = 2) ∧ (s.furCheckPrimed l = 8)) (17) ((up.set FUR.STAT_STATE 2 17).set FUR.CTRL_TIMED 1 17) := by decide
theorem wit_FurrowCommands_20 : (fun (l : LaneId) (s : State) => (s.get FUR.STAT_STATE l = 3) ∧ (s.flag FUR.CTRL_TIMED l = true) ∧ (s.furLaunch l ≤ s.fieldNow (fieldOf l))) (17) (((State.reset.set GLB.AVAIL_FREADY 255).set FUR.STAT_STATE 3 17).set FUR.CTRL_TIMED 1 17) := by decide
theorem wit_FurrowCommands_21 : (fun (l : LaneId) (s : State) => (s.get FUR.STAT_STATE l = 4) ∧ ((s.fur l).sending = none) ∧ ((s.fur l).stop = true ∨ (s.fur l).ended = true)) (17) (furIn 4 { stop := true }) := by decide
theorem wit_FurrowCommands_22 : (fun (l : LaneId) (f : TxFrame) (s : State) => ((s.fur l).sending = some f)) (17) ({ bytes := [], whole := true }) (furIn 4 { sending := some { bytes := [], whole := true } }) := by decide
theorem wit_FurrowCommands_23 : (fun (l : LaneId) (s : State) => (s.get FUR.STAT_STATE l = 4)) (17) (((State.reset.set GLB.AVAIL_FREADY 255).set FUR.STAT_STATE 4 17)) := by decide
theorem wit_FurrowInstructions_0 : (fun (l : LaneId) (s : State) => (s.furReady l false = true) ∧ (s.furInstr l = some (.nop))) (17) (furIn 4 { prog := [0, 0] }) := by decide
theorem wit_FurrowInstructions_1 : (fun (l : LaneId) (data : List Byte) (d : Nat) (more : Bool) (cur : Bool) (off : Nat) (len : Nat) (s : State) => (s.furReady l false = true) ∧ (s.furInstr l = some (.send d more cur off len))) (17) ([]) (2) (false) (false) (0) (5) (furIn 4 { prog := [324259173170675717, 0] }) := by decide
theorem wit_FurrowInstructions_2 : (fun (l : LaneId) (c : Nat) (s : State) => (s.furReady l false = true) ∧ (s.furInstr l = some (.repeat_ c))) (17) (7) (furIn 4 { prog := [576460752303423495, 0] }) := by decide
theorem wit_FurrowInstructions_3 : (fun (l : LaneId) (abs : Bool) (dur : Nat) (s : State) => (s.furReady l true = true) ∧ (s.furInstr l = some (.waitTime abs dur))) (17) (false) (7) (furIn 4 { prog := [864691128455135239, 0] }) := by decide
theorem wit_FurrowInstructions_4 : (fun (l : LaneId) (line : Nat) (goal : Nat) (tm : Nat) (s : State) => (s.furReady l true = true) ∧ (s.furInstr l = some (.waitFloat line goal tm))) (17) (3) (0) (7) (furIn 4 { prog := [1156299204327374855, 0] }) := by decide
theorem wit_FurrowInstructions_5 : (fun (l : LaneId) (t : Nat) (s : State) => (s.furReady l false = true) ∧ (s.furInstr l = some (.jump t))) (17) (1) (furIn 4 { prog := [1441151885053526016, 0] }) := by decide
theorem wit_FurrowInstructions_6 : (fun (l : LaneId) (c : Nat) (t : Nat) (s : State) => (s.furReady l false = true) ∧ (s.furInstr l = some (.loop c t 0))) (17) (2) (1) (furIn 4 { prog := [1873497449281093632, 0] }) := by decide
theorem wit_FurrowInstructions_7 : (fun (l : LaneId) (c : Nat) (t : Nat) (n : Nat) (s : State) => (s.furReady l false = true) ∧ (s.furInstr l = some (.loop c t n)) ∧ (n ≠ 0) ∧ ((if s.get FUR.LC l c = 0 then n else s.get FUR.LC l c) - 1 ≠ 0)) (17) (2) (1) (5) (furIn 4 { prog := [1873497449281093637, 0] }) := by decide
theorem wit_FurrowInstructions_8 : (fun (l : LaneId) (c : Nat) (t : Nat) (n : Nat) (s : State) => (s.furReady l false = true) ∧ (s.furInstr l = some (.loop c t n)) ∧ (n ≠ 0) ∧ ((if s.get FUR.LC l c = 0 then n else s.get FUR.LC l c) - 1 = 0)) (17) (2) (1) (1) (furIn 4 { prog := [1873497449281093633, 0] }) := by decide
theorem wit_FurrowInstructions_9 : (fun (l : LaneId) (k : Nat) (en : Bool) (w : Nat) (be : Bool) (off : Nat) (sp : Nat) (s : State) => (s.furReady l false = true) ∧ (s.furInstr l = some (.insertCounter k en true w be off sp))) (17) (2) (true) (1) (false) (0) (7) (furIn 4 { prog := [2218022816479969287, 0] }) := by decide
theorem wit_FurrowInstructions_10 : (fun (l : LaneId) (k : Nat) (en : Bool) (w : Nat) (be : Bool) (off : Nat) (sp : Nat) (s : State) => (s.furReady l false = true) ∧ (s.furInstr l = some (.insertCounter k en false w be off sp))) (17) (2) (true) (1) (false) (0) (7) (furIn 4 { prog := [2200008417970487303, 0] }) := by decide
theorem wit_FurrowInstructions_11 : (fun (l : LaneId) (en : Bool) (f : Nat) (off : Nat) (s : State) => (s.furReady l false = true) ∧ (s.furInstr l = some (.insertTs en f off))) (17) (true) (1) (9) (furIn 4 { prog := [2450239710920966144, 0] }) := by decide
theorem wit_FurrowInstructions_12 : (fun (l : LaneId) (m : Nat) (s : State) => (s.furReady l false = true) ∧ (s.furInstr l = some (.fcs m))) (17) (2) (furIn 4 { prog := [2738188573441261568, 0] }) := by decide
theorem wit_FurrowInstructions_13 : (fun (l : LaneId) (p : Nat) (n : Nat) (b : Nat) (k : Nat) (s : State) => (s.furReady l false = true) ∧ (s.furInstr l = some (.inject 0 p n b k))) (17) (5) (1) (3) (3) (furIn 4 { prog := [2882303761601069059, 0] }) := by decide
theorem wit_FurrowInstructions_14 : (fun (l : LaneId) (p : Nat) (n : Nat) (b : Nat) (k : Nat) (s : State) => (s.furReady l false = true) ∧ (s.furInstr l = some (.inject 3 p n b k))) (17) (0) (0) (3) (3) (furIn 4 { prog := [2990390152574009347, 0] }) := by decide
theorem wit_FurrowInstructions_15 : (fun (l : LaneId) (s : State) => (s.furReady l false = true) ∧ (s.furInstr l = some (.halt))) (17) (furIn 4 { prog := [18158513697557839872, 0] }) := by decide
theorem wit_FurrowInstructions_16 : (fun (l : LaneId) (abs : Bool) (dur : Nat) (s : State) => ((s.fur l).waitTime = some (abs, dur)) ∧ (s.waitOver l abs dur = true) ∧ (s.get FUR.STAT_STATE l = 4)) (17) (true) (0) (furIn 4 { waitTime := some (true, 0) }) := by decide
theorem wit_FurrowInstructions_17 : (fun (l : LaneId) (abs : Bool) (dur : Nat) (s : State) => ((s.fur l).waitTime = some (abs, dur)) ∧ (s.fieldNow (fieldOf l) < (if abs then (s.fur l).launch else (s.fur l).prevEnd) + dur * 2 ^ 24)) (17) (true) (9) (furIn 4 { waitTime := some (true, 9) }) := by decide
theorem wit_FurrowInstructions_18 : (fun (l : LaneId) (a : Nat) (t : Nat) (r : FurRegs) (lcs : List Nat) (s : State) => ((s.fur l).waitFloat = some (a, t, true)) ∧ ((s.fur l).save = some (r, lcs)) ∧ (s.get FUR.STAT_STATE l = 4)) (17) (3) (1) ({}) ([]) (furIn 4 { waitFloat := some (3, 1, true), save := some ({}, []) }) := by decide
theorem wit_FurrowInstructions_19 : (fun (l : LaneId) (s : State) => (s.anchorOf l = none)) (17) (State.reset) := by decide
theorem wit_FurrowInstructions_20 : (fun (l : LaneId) (a : Nat) (t : State) (s : State) => (s.anchorOf l = some a) ∧ (s.furTurn a = some l.val) ∧ (s.lineFree a = true) ∧ (s.get PCS.CTRL_MODE a ≠ 3) ∧ (s.time.tclk = true) ∧ (t = s.setPort a { s.port a with txTurn := (l - a + 1) % s.portSize a })) (17) (17) ((((((up.set FUR.STAT_STATE 4 17).set PCS.CTRL_EN 1 17).set PCS.CTRL_MODE 1 17).set FUR.CTRL_OWN 1 17).setFur 17 { build := [1], whole := true }).setPort 17 { ((((((up.set FUR.STAT_STATE 4 17).set PCS.CTRL_EN 1 17).set PCS.CTRL_MODE 1 17).set FUR.CTRL_OWN 1 17).setFur 17 { build := [1], whole := true }).port 17) with txTurn := 0 }) (((((up.set FUR.STAT_STATE 4 17).set PCS.CTRL_EN 1 17).set PCS.CTRL_MODE 1 17).set FUR.CTRL_OWN 1 17).setFur 17 { build := [1], whole := true }) := ⟨by decide, by decide, by decide, by decide, by decide, rfl⟩
theorem wit_FurrowInstructions_21 : (fun (l : LaneId) (s : State) => (s.startLate l = true)) (17) (((((up.set FUR.STAT_STATE 4 17).set PCS.CTRL_EN 1 17).set PCS.CTRL_MODE 1 17).set FUR.CTRL_OWN 1 17).setFur 17 { prog := [324259173170675717, 0] }) := by decide
theorem wit_FurrowInstructions_22 : (fun (l : LaneId) (s : State) => (s.midLate l = true)) (17) (((((up.set FUR.STAT_STATE 4 17).set PCS.CTRL_EN 1 17).set PCS.CTRL_MODE 1 17).set FUR.CTRL_OWN 1 17).setFur 17 { sending := some { bytes := [], whole := false } }) := by decide
theorem wit_FurrowInstructions_23 : (fun (l : LaneId) (s : State) => (s.furReady l false = false)) (17) (State.reset) := by decide
theorem wit_FurrowInstructions_24 : (fun (l : LaneId) (a : Nat) (s : State) => (s.anchorOf l = some a) ∧ (s.time.tclk = false)) (17) (17) ({ (up.set PCS.CTRL_EN 1 17).set PCS.CTRL_MODE 1 17 with time := { tclk := false } }) := by decide
theorem wit_HbmServiceCommands_0 : (fun (m : HmcId) (p : Fin 32) (rfm : Option (Fin 48)) (retry : Bool) (s : State) => (s.get HMC.STAT_STATE m = 2)) (1) (3) (none) (true) ((State.reset.set HMC.STAT_STATE 2 1)) := by decide
theorem wit_HbmServiceCommands_1 : (fun (m : HmcId) (p : Fin 32) (rfm : Option (Fin 48)) (retry : Bool) (s : State) => (s.get HMC.STAT_STATE m = 4)) (1) (3) (none) (true) (State.reset.set HMC.STAT_STATE 4 1) := by decide
theorem wit_HbmServiceCommands_2 : (fun (m : HmcId) (p : Fin 32) (t : State) (s : State) => (s.get HMC.STAT_STATE m = 2) ∧ ((s.pc (32 * m + p)).dueAt ≤ s.elapsed) ∧ (t = s.setPc (32 * m + p) { s.pc (32 * m + p) with dueAt := (s.pc (32 * m + p)).dueAt + s.refreshInterval m }) ∧ ((t.pc (32 * m + p)).burst = false) ∧ (t.pcHeld (32 * m + p) (t.pc (32 * m + p)) = false)) (1) (3) (((State.reset.set HMC.STAT_STATE 2 1)).setPc 35 { ((State.reset.set HMC.STAT_STATE 2 1)).pc 35 with dueAt := (((State.reset.set HMC.STAT_STATE 2 1)).pc 35).dueAt + ((State.reset.set HMC.STAT_STATE 2 1)).refreshInterval 1 }) ((State.reset.set HMC.STAT_STATE 2 1)) := ⟨by decide, by decide, rfl, by decide, by decide⟩
theorem wit_HbmServiceCommands_3 : (fun (m : HmcId) (p : Fin 32) (t : State) (s : State) => (s.get HMC.STAT_STATE m = 2) ∧ ((s.pc (32 * m + p)).dueAt ≤ s.elapsed) ∧ (t = s.setPc (32 * m + p) { s.pc (32 * m + p) with dueAt := (s.pc (32 * m + p)).dueAt + s.refreshInterval m }) ∧ ((t.pc (32 * m + p)).burst = false) ∧ (t.pcHeld (32 * m + p) (t.pc (32 * m + p)) = true) ∧ (t.get HMC.PCSTAT_OWED m p + 1 < 8)) (1) (3) ((((State.reset.set HMC.STAT_STATE 2 1).set HMC.CTRL_RTPOST 1 1).setPc 35 { q := [{ req := { op := .pwr, src := 0x804, oc := 1, addr := 0, len := 32 }, since := 0 }] }).setPc 35 { (((State.reset.set HMC.STAT_STATE 2 1).set HMC.CTRL_RTPOST 1 1).setPc 35 { q := [{ req := { op := .pwr, src := 0x804, oc := 1, addr := 0, len := 32 }, since := 0 }] }).pc 35 with dueAt := ((((State.reset.set HMC.STAT_STATE 2 1).set HMC.CTRL_RTPOST 1 1).setPc 35 { q := [{ req := { op := .pwr, src := 0x804, oc := 1, addr := 0, len := 32 }, since := 0 }] }).pc 35).dueAt + (((State.reset.set HMC.STAT_STATE 2 1).set HMC.CTRL_RTPOST 1 1).setPc 35 { q := [{ req := { op := .pwr, src := 0x804, oc := 1, addr := 0, len := 32 }, since := 0 }] }).refreshInterval 1 }) (((State.reset.set HMC.STAT_STATE 2 1).set HMC.CTRL_RTPOST 1 1).setPc 35 { q := [{ req := { op := .pwr, src := 0x804, oc := 1, addr := 0, len := 32 }, since := 0 }] }) := ⟨by decide, by decide, rfl, by decide, by decide, by decide⟩
theorem wit_HbmServiceCommands_4 : (fun (m : HmcId) (p : Fin 32) (t : State) (s : State) => (s.get HMC.STAT_STATE m = 2) ∧ ((s.pc (32 * m + p)).dueAt ≤ s.elapsed) ∧ (t = s.setPc (32 * m + p) { s.pc (32 * m + p) with dueAt := (s.pc (32 * m + p)).dueAt + s.refreshInterval m }) ∧ ((t.pc (32 * m + p)).burst = false) ∧ (t.pcHeld (32 * m + p) (t.pc (32 * m + p)) = true) ∧ (t.get HMC.PCSTAT_OWED m p = 7)) (1) (3) (((((State.reset.set HMC.STAT_STATE 2 1).set HMC.CTRL_RTPOST 1 1).setPc 35 { q := [{ req := { op := .pwr, src := 0x804, oc := 1, addr := 0, len := 32 }, since := 0 }] }).set HMC.PCSTAT_OWED 7 1 3).setPc 35 { ((((State.reset.set HMC.STAT_STATE 2 1).set HMC.CTRL_RTPOST 1 1).setPc 35 { q := [{ req := { op := .pwr, src := 0x804, oc := 1, addr := 0, len := 32 }, since := 0 }] }).set HMC.PCSTAT_OWED 7 1 3).pc 35 with dueAt := (((((State.reset.set HMC.STAT_STATE 2 1).set HMC.CTRL_RTPOST 1 1).setPc 35 { q := [{ req := { op := .pwr, src := 0x804, oc := 1, addr := 0, len := 32 }, since := 0 }] }).set HMC.PCSTAT_OWED 7 1 3).pc 35).dueAt + ((((State.reset.set HMC.STAT_STATE 2 1).set HMC.CTRL_RTPOST 1 1).setPc 35 { q := [{ req := { op := .pwr, src := 0x804, oc := 1, addr := 0, len := 32 }, since := 0 }] }).set HMC.PCSTAT_OWED 7 1 3).refreshInterval 1 }) ((((State.reset.set HMC.STAT_STATE 2 1).set HMC.CTRL_RTPOST 1 1).setPc 35 { q := [{ req := { op := .pwr, src := 0x804, oc := 1, addr := 0, len := 32 }, since := 0 }] }).set HMC.PCSTAT_OWED 7 1 3) := ⟨by decide, by decide, rfl, by decide, by decide, by decide⟩
theorem wit_HbmServiceCommands_5 : (fun (m : HmcId) (p : Fin 32) (b : Fin 48) (s : State) => (s.get HMC.PCCFG_IDLE m p ≠ 0xFFF) ∧ (Store.get 0 b (s.pc (32 * m + p)).used + s.get HMC.PCCFG_IDLE m p * 16 * 10 ^ 9 / ckMhz (s.get HMC.STAT_RATE m) ≤ s.elapsed)) (1) (3) (7) (State.reset.set HMC.PCCFG_IDLE 0 1 3) := by decide
theorem wit_HbmServiceCommands_6 : (fun (m : HmcId) (p : Fin 32) (b : Fin 48) (s : State) => (s.get HMC.PCCFG_IDLE m p = 0xFFF)) (1) (3) (7) (State.reset.set HMC.PCCFG_IDLE 0xFFF 1 3) := by decide
theorem wit_HbmServiceCommands_8 : (fun (m : HmcId) (c : Fin 3) (p : Fin 32) (b : Fin 48) (r : Fin 24576) (s : State) => (s.get HMC.STAT_STATE m = 2)) (1) (0) (3) (7) (9) ((State.reset.set HMC.STAT_STATE 2 1)) := by decide
theorem wit_HbmServiceCommands_9 : (fun (m : HmcId) (c : Fin 3) (p : Fin 32) (i : Fin 32) (b : Fin 48) (r : Fin 24576) (e : QReq) (s : State) => (s.get HMC.STAT_STATE m = 2) ∧ ((s.pc (32 * m + p)).q[i.val]? = some e)) (1) (0) (3) (0) (7) (9) ({ req := { op := .pwr, src := 0x804, oc := 1, addr := 0, len := 32 }, since := 0 }) ((State.reset.set HMC.STAT_STATE 2 1).setPc 35 { q := [{ req := { op := .pwr, src := 0x804, oc := 1, addr := 0, len := 32 }, since := 0 }] }) := by decide
theorem wit_HbmChangeAndTraining_0 : (fun (m : HmcId) (r : Fin 4) (v : Word) (s : State) => (s.barred .HMC 0 = none)) (1) (0) (5#32) (State.reset) := by decide
theorem wit_HbmChangeAndTraining_1 : (fun (m : HmcId) (v : Word) (s : State) => (s.barred .HMC 0 = none) ∧ (bitOf v.toNat 0 = true) ∧ (bitOf v.toNat 1 = false) ∧ ((s.w1c v.toNat HMC.FCHG_ERR m).fchgOk m = true)) (1) (1#32) (((State.reset.set HMC.FCHG_SHVALID 1 1).set HMC.STAT_OPTRAINED 15 1).set HMC.STAT_STATE 2 1) := by decide
theorem wit_HbmChangeAndTraining_2 : (fun (m : HmcId) (v : Word) (s : State) => (s.barred .HMC 0 = none) ∧ (bitOf v.toNat 0 = true) ∧ (bitOf v.toNat 1 = false) ∧ ((s.w1c v.toNat HMC.FCHG_ERR m).fchgOk m = false)) (1) (1#32) (State.reset) := by decide
theorem wit_HbmChangeAndTraining_3 : (fun (m : HmcId) (s : State) => (s.get HMC.STAT_STATE m = 3)) (1) (State.reset.set HMC.STAT_STATE 3 1) := by decide
theorem wit_HbmChangeAndTraining_4 : (fun (m : HmcId) (s : State) => (s.get HMC.STAT_STATE m = 0)) (1) (State.reset) := by decide
theorem wit_HbmChangeAndTraining_5 : (fun (m : HmcId) (r : Fin 4) (t : State × Option (Nat × Nat)) (s : State) => (s.get HMC.STAT_STATE m = 1) ∧ (s.bit HMC.CTRL_OPMASK r m = true) ∧ (t = ((s.loadSet m r).set HMC.TPAT_MODE 1 m).trainPoint m r (List.range 32))) (1) (2) ((((((State.reset.set HMC.STAT_STATE 1 1).set HMC.CTRL_OPMASK 15 1)).loadSet 1 2).set HMC.TPAT_MODE 1 1).trainPoint 1 2 (List.range 32)) (((State.reset.set HMC.STAT_STATE 1 1).set HMC.CTRL_OPMASK 15 1)) := ⟨by decide, by decide, rfl⟩
theorem wit_HbmChangeAndTraining_6 : (fun (m : HmcId) (pc : Fin 32) (bits : BitVec 39) (s : State) => (s.get HMC.STAT_STATE m = 1)) (1) (2) (1#39) (((State.reset.set HMC.STAT_STATE 1 1).set HMC.CTRL_OPMASK 15 1)) := by decide
theorem wit_HbmChangeAndTraining_7 : (fun (m : HmcId) (pc : Fin 32) (all : Bool) (s : State) => (s.barred .HMC 0 = none)) (1) (2) (true) (State.reset) := by decide
theorem wit_HbmChangeAndTraining_8 : (fun (m : HmcId) (pc : Fin 32) (all : Bool) (s : State) => (s.barred .HMC 0 = none)) (1) (2) (true) (State.reset) := by decide
theorem wit_HbmChangeAndTraining_9 : (fun (m : HmcId) (pc : Fin 32) (all : Bool) (s : State) => (s.barred .HMC 0 = none)) (1) (2) (true) (State.reset) := by decide
theorem wit_HbmChangeAndTraining_10 : (fun (m : HmcId) (pc : Fin 32) (all : Bool) (s : State) => (s.barred .HMC 0 = none)) (1) (2) (true) (State.reset) := by decide
theorem wit_HbmChangeAndTraining_11 : (fun (m : HmcId) (dq : Word) (extra : Fin 128) (ca : Bool) (cnt : Word) (s : State) => (s.flag HMC.TCMD_BUSY m = true)) (1) (1#32) (0) (true) (1#32) (State.reset.set HMC.TCMD_BUSY 1 1) := by decide
theorem wit_CanalShareCommands_1 : (fun (p : Fin 177) (r : Fin 16) (v : Word) (s : State) => (s.barred .SHR 0 = none)) (3) (2) (5#32) (State.reset) := by decide
theorem wit_CanalShareCommands_2 : (fun (p : Fin 177) (r : Fin 16) (v : Word) (s : State) => (s.barred .SHR 0 = none)) (3) (2) (5#32) (State.reset) := by decide
theorem wit_CanalShareCommands_3 : (fun (l : LaneId) (v : Word) (s : State) => (s.barred .CAP 0 = none)) (3) (5#32) (State.reset) := by decide
theorem wit_CanalShareCommands_4 : (fun (d : Fin 11) (i : Fin 64) (v : Word) (s : State) => (s.barred .SHR 0 = none)) (3) (2) (5#32) (State.reset) := by decide
theorem wit_CanalShareCommands_5 : (fun (d : Fin 11) (v : Word) (s : State) => (s.barred .TRK 0 = none) ∧ ((s.wr v.toNat TRK.QUOTA d).quotaSum ≤ 261120)) (3) (0#32) (State.reset) := by decide
theorem wit_CanalShareCommands_6 : (fun (d : Fin 11) (v : Word) (s : State) => (s.barred .TRK 0 = none) ∧ (261120 < (s.wr v.toNat TRK.QUOTA d).quotaSum)) (3) (0x3FFFF#32) (State.reset.set TRK.QUOTA 0x3FFFF 4) := by decide
theorem wit_CanalShareCommands_7 : (fun (v : Word) (s : State) => (s.barred .CNL 0 = none) ∧ (bitOf v.toNat 0 = true)) (1#32) (State.reset) := by decide
theorem wit_CanalShareCommands_8 : (fun (v : Word) (s : State) => (s.barred .CNL 0 = none) ∧ (bitOf v.toNat 0 = false)) (2#32) (State.reset) := by decide
theorem wit_CanalShareCommands_9 : (fun (p : Fin 177) (vc : Fin 4) (s : State) => (s.portFrozen p = false) ∧ (s.auditDue p vc = false) ∧ (s.retDown p vc ≠ 0)) (3) (2) (State.reset.set CNL.CREDIT_CRD_POST 5 3) := by decide
theorem wit_CanalShareCommands_10 : (fun (p : Fin 177) (vc : Fin 4) (s : State) => (s.portFrozen p = false) ∧ (s.auditDue p vc = false) ∧ (s.retUp p vc ≠ 0)) (3) (2) ({ State.reset with upSpent := [(14, 3)] }) := by decide
theorem wit_CanalShareCommands_11 : (fun (up : Bool) (p : Fin 177) (vc : Fin 4) (s : State) => (s.portFrozen p = true ∨ s.auditDue p vc = true)) (true) (3) (2) ({ State.reset with unaudited := [14] }) := by decide
theorem wit_CanalShareCommands_12 : (fun (p : Fin 177) (vc : Fin 4) (f : Byte) (s : State) => (s.portFrozen p = false) ∧ (s.auditDue p vc = true)) (3) (2) (0#8) ({ State.reset with unaudited := [14] }) := by decide
theorem wit_CanalShareCommands_14 : (fun (p : Fin 177) (vc : Fin 4) (f : Byte) (s : State) => (s.auditDue p vc = false)) (3) (2) (0#8) (State.reset) := by decide
theorem wit_QdrAndFabricCommands_0 : (fun (n : FieldId) (w : Word) (s : State) => (s.get QDR.STAT_STATE n = 1)) (3) (5#32) (State.reset.set QDR.STAT_STATE 1 3) := by decide
theorem wit_QdrAndFabricCommands_1 : (fun (n : FieldId) (f : Fin 6) (w : Word) (s : State) => (s.get QDR.STAT_STATE n = 1) ∧ (f.val ≠ 0)) (3) (2) (5#32) (State.reset.set QDR.STAT_STATE 1 3) := by decide
theorem wit_QdrAndFabricCommands_2 : (fun (n : FieldId) (b : Bool) (w : Bool) (c : Fin 3) (a : Fin 4194304) (s : State) => (s.get QDR.STAT_STATE n = 2)) (3) (true) (false) (1) (5) (State.reset.set QDR.STAT_STATE 2 3) := by decide
theorem wit_QdrAndFabricCommands_3 : (fun (n : FieldId) (b : Bool) (we : Bool) (a : Fin 4194304) (d : BitVec 64) (r : List (List (Fin 3))) (s : State) => (s.fabricOpen n (16 + b.toNat) = true)) (3) (false) (false) (0) (0#64) ([]) (State.reset.set FCC.STEP_DONE 8 3) := by decide
theorem wit_QdrAndFabricCommands_4 : (fun (n : FieldId) (we : Bool) (a : Fin 4194304) (d : BitVec 64) (r : List (List (Fin 3))) (x : QdrAcc) (s : State) => (s.fabricOpen n 16 = true) ∧ (s.fabricOpen n 17 = true)) (3) (false) (0) (0#64) ([]) (⟨false, 0, 0#64⟩) (State.reset.set FCC.STEP_DONE 8 3) := by decide
theorem wit_QdrAndFabricCommands_6 : (fun (n : FieldId) (i : Fin 16) (v : Word) (s : State) => (s.barred .FLD n = none)) (3) (2) (5#32) (State.reset.set GLB.AVAIL_FREADY 255) := by decide
theorem wit_QdrAndFabricCommands_7 : (fun (n : FieldId) (i : Fin 16) (v : Word) (p : Fin 13) (s : State) => (¬ (p.val < 12 ∧ s.gated n p = true))) (3) (2) (5#32) (12) (State.reset) := by decide
theorem wit_QdrAndFabricCommands_8 : (fun (n : FieldId) (i : Fin 16) (v : Word) (p : Fin 13) (s : State) => (p.val < 12) ∧ (s.gated n p = true)) (3) (2) (5#32) (4) (State.reset.set FCC.PSTAT_STATE 1 3 4) := by decide
theorem wit_QdrAndFabricCommands_9 : (fun (n : FieldId) (i : Fin 6) (s : State) => (s.bit FLD.PLL_LOCK i n = true)) (3) (2) (State.reset.set FLD.PLL_LOCK 63 3) := by decide
theorem wit_QdrAndFabricCommands_10 : (fun (n : FieldId) (s : State) => (s.flag FLD.STAT_WCLKLOCK n = true)) (3) (State.reset.set FLD.STAT_WCLKLOCK 1 3) := by decide
theorem wit_QdrAndFabricCommands_11 : (fun (n : FieldId) (s : State) => (s.flag FLD.STAT_WCLKLOCK n = false)) (3) (State.reset) := by decide
theorem wit_QdrAndFabricCommands_12 : (fun (n : FieldId) (f : FabSt) (b : BlkCfg) (i : Fin 16) (s : State) => (s.stepRun n 2 = false)) (3) ({}) ({ blk := 0, region := 5 }) (5) (State.reset) := by decide
theorem wit_QdrAndFabricCommands_13 : (fun (n : FieldId) (f : FabSt) (b : BlkCfg) (i : Fin 16) (s : State) => (s.stepRun n 2 = true) ∧ (s.sig n f b.sr = true)) (3) ({}) ({ blk := 0, region := 5, sr := .const true }) (5) (State.reset.set FCC.STEP_DONE 4 3) := by decide
theorem wit_QdrAndFabricCommands_14 : (fun (n : FieldId) (f : FabSt) (b : BlkCfg) (i : Fin 16) (s : State) => (s.stepRun n 2 = true) ∧ (s.sig n f b.sr = false) ∧ (s.sig n f (if i.val < 8 then b.ce0 else b.ce1) = false)) (3) ({}) ({ blk := 0, region := 5, ce0 := .const false }) (5) (State.reset.set FCC.STEP_DONE 4 3) := by decide
theorem wit_QdrAndFabricCommands_15 : (fun (sat : Bool) (v : Int) => (-2 ^ 57 ≤ v) ∧ (v < 2 ^ 57)) (true) (2 ^ 57 - 1) := by decide
theorem wit_QdrAndFabricCommands_16 : (fun (v : Int) => (v < -2 ^ 57 ∨ 2 ^ 57 ≤ v)) (2 ^ 57) := by decide
theorem wit_CanalCommands_10 : (fun (t : Fin 262144) (e : Tag) (s : State) => (s.tagAt t = some e) ∧ (e.quar = none) ∧ (e.orphan = false) ∧ (e.since + s.cto < s.now) ∧ (s.owed.any (fun w => w.key == some t.val) = false)) (7) ({ req := { op := .rd, src := 0x805, oc := 0, addr := 0, len := 8, tag := some 7 }, die := 8, since := 0 }) ({ State.reset with tags := [(7, { req := { op := .rd, src := 0x805, oc := 0, addr := 0, len := 8, tag := some 7 }, die := 8, since := 0 })], time := { dtc := 2 ^ 64 } }) := by decide
theorem wit_CanalCommands_11 : (fun (t : Fin 262144) (e : Tag) (s : State) => (s.tagAt t = some e) ∧ (e.quar = none) ∧ (e.orphan = true) ∧ (e.since + s.cto < s.now) ∧ (s.owed.any (fun w => w.key == some t.val) = false)) (7) ({ req := { op := .rd, src := 0x805, oc := 0, addr := 0, len := 8, tag := some 7 }, die := 8, since := 0, orphan := true }) ({ State.reset with tags := [(7, { req := { op := .rd, src := 0x805, oc := 0, addr := 0, len := 8, tag := some 7 }, die := 8, since := 0, orphan := true })], time := { dtc := 2 ^ 64 } }) := by decide
theorem wit_CanalCommands_12 : (fun (t : Fin 262144) (s : State) => (s.tagAt t = none)) (7) (State.reset) := by decide
theorem wit_CanalCommands_13 : (fun (t : Fin 262144) (e : Tag) (q : Nat) (s : State) => (s.tagAt t = some e) ∧ (e.quar = some q) ∧ (q + s.cto ≤ s.now)) (7) ({ req := { op := .rd, src := 0x805, oc := 0, addr := 0, len := 8, tag := some 7 }, die := 8, since := 0, quar := some 0 }) (0) ({ State.reset with tags := [(7, { req := { op := .rd, src := 0x805, oc := 0, addr := 0, len := 8, tag := some 7 }, die := 8, since := 0, quar := some 0 })], time := { State.reset.time with dtc := 2 ^ 64 } }) := by decide
theorem wit_CanalCommands_14 : (fun (t : Fin 262144) (s : State) => (s.tagAt t = none)) (7) (State.reset) := by decide
theorem wit_CanalCommands_15 : (fun (s : State) => (s.walk = [])) (State.reset) := by decide
theorem wit_CanalCommands_16 : (fun (d : Nat) (r : List Nat) (s : State) => (s.walk = d :: r) ∧ (s.walkTag + 1 < 2 ^ 18)) (3) ([]) ({ State.reset with walk := [3] }) := by decide
theorem wit_CanalCommands_17 : (fun (d : Nat) (r : List Nat) (s : State) => (s.walk = d :: r) ∧ (s.walkTag + 1 = 2 ^ 18)) (3) ([]) ({ State.reset with walk := [3], walkTag := 2 ^ 18 - 1 }) := by decide
theorem wit_CanalRequestPath_0 : (fun (t : Fin 262144) (a : Fin 4096) (oc : Fin 4) (x : BitVec 48) (len : Fin 256) (h : Hdr) (s : State) => (({ op := .rd, src := a, oc := oc, addr := x.toNat, len := len + 1 } : Req).wf = false)) (7) (0x805) (1) (0xFF#48) (7) (.good) (State.reset) := by decide
theorem wit_CanalRequestPath_1 : (fun (t : Fin 262144) (a : Fin 4096) (oc : Fin 4) (x : BitVec 48) (len : Fin 256) (r : Req) (s : State) => (r = { op := .rd, src := a, oc := oc, addr := x.toNat, len := len + 1 }) ∧ (r.wf = true) ∧ (dieOf a ≤ 8) ∧ (s.sourceSends r = true) ∧ (s.adapterRoom r = true)) (7) (0x805) (1) (0x007800000000#48) (7) ({ op := .rd, src := 0x805, oc := 1, addr := 0x007800000000, len := 8 }) (State.reset) := by decide
theorem wit_CanalRequestPath_2 : (fun (t : Fin 262144) (a : Fin 4096) (oc : Fin 4) (x : BitVec 48) (len : Fin 256) (p : Bool) (d : List Byte) (r : Req) (s : State) => (r = { op := .wr, src := a, oc := oc, addr := x.toNat, len := len + 1, pois := p, data := payload d (len + 1) }) ∧ (r.wf = true) ∧ (dieOf a ≤ 8) ∧ (s.sourceSends r = true) ∧ (s.adapterRoom r = true)) (7) (0x805) (1) (0x007800000000#48) (7) (false) ([1]) ({ op := .wr, src := 0x805, oc := 1, addr := 0x007800000000, len := 8, data := payload [1] 8 }) (State.reset) := by decide
theorem wit_CanalRequestPath_3 : (fun (t : Nat) (r : Req) (s : State) => (r.own = true)) (7) ({ op := .rd, src := 0x300, oc := 1, addr := rsvBase + 3 * 0x4000000, len := 8 }) (up) := by decide
theorem wit_CanalRequestPath_4 : (fun (t : Nat) (r : Req) (s : State) => (r.own = false) ∧ (s.cutOff r = true)) (7) ({ op := .rd, src := 0x300, oc := 1, addr := rsvBase, len := 8 }) (up.set FLF.FSTAT_FENCED 1 24) := by decide
theorem wit_CanalRequestPath_5 : (fun (t : Nat) (r : Req) (s : State) => (r.own = false) ∧ (s.cutOff r = false)) (7) ({ op := .rd, src := 0x300, oc := 1, addr := rsvBase, len := 8 }) (up) := by decide
theorem wit_CanalRequestPath_6 : (fun (t : Nat) (r : Req) (s : State) => (s.targetDead r = true)) (7) ({ op := .rd, src := 0x300, oc := 1, addr := rsvBase, len := 8 }) (State.reset) := by decide
theorem wit_CanalRequestPath_7 : (fun (t : Nat) (r : Req) (s : State) => (s.targetDead r = false) ∧ (r.op ≠ .pwr) ∧ (s.trackerRoom r = false)) (7) ({ op := .rd, src := 0x300, oc := 1, addr := rsvBase, len := 8 }) (up.set TRK.QUOTA 0 3) := by decide
theorem wit_CanalRequestPath_8 : (fun (t : Nat) (r : Req) (s : State) => (s.targetDead r = false) ∧ (r.op ≠ .pwr) ∧ (s.trackerRoom r = true) ∧ (s.reqPort r = none)) (7) ({ op := .rd, src := 0x805, oc := 1, addr := 0x007800000000, len := 8 }) (State.reset) := by decide
theorem wit_CanalRequestPath_9 : (fun (t : Nat) (p : Nat) (r : Req) (s : State) => (s.targetDead r = false) ∧ (r.op ≠ .pwr) ∧ (s.trackerRoom r = true) ∧ (s.reqPort r = some p) ∧ (s.creditFree p r.vc r.flits = false)) (7) (up.fieldChannel 0 0x300 1) ({ op := .rd, src := 0x300, oc := 1, addr := rsvBase, len := 8 }) (up.set CNL.CREDIT_CRD_REQ 0 (up.fieldChannel 0 0x300 1)) := by decide
theorem wit_HostAccessCommands_0 : (fun (t : Fin 262144) (x : Fin 0x10100000) (len : Fin 4096) (h : Hdr) (s : State) => (s.linkUp = true) ∧ (s.decodes = true) ∧ (x.val < 0x10000000) ∧ (len.val + 1 ≤ 8)) (7) (0x100) (3) (.good) ((State.reset.set CXL.LSTAT_MODE 2)) := by decide
theorem wit_HostAccessCommands_1 : (fun (t : Fin 262144) (x : Fin 0x10100000) (len : Fin 4096) (h : Hdr) (s : State) => (s.linkUp = false)) (7) (0x100) (3) (.good) (State.reset) := by decide
theorem wit_HostAccessCommands_2 : (fun (t : Fin 262144) (x : Fin 0x10100000) (len : Fin 4096) (h : Hdr) (s : State) => (s.linkUp = true) ∧ (s.decodes = true) ∧ (0x10000000 ≤ x.val)) (7) (0x10000000) (3) (.good) ((State.reset.set CXL.LSTAT_MODE 2)) := by decide
theorem wit_HostAccessCommands_3 : (fun (t : Fin 262144) (x : Fin 0x10100000) (d : List Byte) (h : Hdr) (s : State) => (s.linkUp = true) ∧ (s.decodes = true) ∧ (x.val < 0x10000000) ∧ (d.length = 4)) (7) (0x100) ([1, 2, 3, 4]) (.good) ((State.reset.set CXL.LSTAT_MODE 2)) := by decide
theorem wit_HostAccessCommands_4 : (fun (t : Fin 262144) (x : Fin 0x10100000) (d : List Byte) (h : Hdr) (s : State) => (s.linkUp = true) ∧ (s.decodes = true) ∧ (0x10000000 ≤ x.val) ∧ (d ≠ [])) (7) (0x10000000) ([1, 2, 3, 4]) (.good) ((State.reset.set CXL.LSTAT_MODE 2)) := by decide
theorem wit_HostAccessCommands_5 : (fun (t : Fin 262144) (x : Fin 0x40000000) (len : Fin 4096) (h : Hdr) (s : State) => (s.linkUp = true) ∧ (s.decodes = true)) (7) (0x100) (3) (.good) ((State.reset.set CXL.LSTAT_MODE 2)) := by decide
theorem wit_HostAccessCommands_6 : (fun (x : Fin 0x40000000) (d : List Byte) (h : Hdr) (s : State) => (s.linkUp = true) ∧ (s.decodes = true)) (0x100) ([1]) (.good) ((State.reset.set CXL.LSTAT_MODE 2)) := by decide
theorem wit_HostAccessCommands_7 : (fun (t : Fin 262144) (l : Fin 0x90000000) (h : Hdr) (s : State) => (s.get CXL.LSTAT_MODE = 2) ∧ (s.flag CXL.LSTAT_MEM = true)) (7) (5) (.good) ((State.reset.set CXL.LSTAT_MODE 2).set CXL.LSTAT_MEM 1) := by decide
theorem wit_HostAccessCommands_8 : (fun (t : Fin 262144) (l : Fin 0x90000000) (h : Hdr) (s : State) => (s.get CXL.LSTAT_MODE ≠ 2)) (7) (5) (.good) (State.reset) := by decide
theorem wit_HostAccessCommands_9 : (fun (t : Fin 262144) (l : Fin 0x90000000) (d : List Byte) (h : Hdr) (s : State) => (s.get CXL.LSTAT_MODE = 2) ∧ (s.flag CXL.LSTAT_MEM = true)) (7) (5) ([]) (.good) ((State.reset.set CXL.LSTAT_MODE 2).set CXL.LSTAT_MEM 1) := by decide
theorem wit_HostAccessCommands_10 : (fun (w : Fin 32) (r : Fin 32) (alt : Bool) (i : Nat) (j : Nat) (s : State) => (s.get CXL.LSTAT_MODE = 0) ∧ (s.boot.inReset = false) ∧ (s.cxl.perst = false) ∧ (s.pow.dormant = none) ∧ (highestOf w (s.get CXL.LCFG_MAXW) = some i) ∧ (highestOf r (s.get CXL.LCFG_MAXRATE) = some j) ∧ (2 ≤ i)) (31) (31) (true) (4) (4) ({ (State.reset.set CXL.LCFG_MAXW 4).set CXL.LCFG_MAXRATE 4 with boot := { inReset := false }, cxl := { State.reset.cxl with perst := false } }) := by decide
theorem wit_HostAccessCommands_11 : (fun (s : State) => (s.get CXL.LSTAT_MODE = 0)) (State.reset) := by decide
theorem wit_HostAccessCommands_12 : (fun (s : State) => (s.get CXL.LSTAT_MODE ≠ 0)) ((State.reset.set CXL.LSTAT_MODE 2)) := by decide
theorem wit_HostAccessCommands_13 : (fun (rd : Bool) (w : Fin 1024) (s : State) => (s.get CXL.LSTAT_MODE ≠ 0) ∧ ((s.cxl.crs && !rd) = false)) (true) (0) ((State.reset.set CXL.LSTAT_MODE 2)) := by decide
theorem wit_HostAccessCommands_14 : (fun (rd : Bool) (w : Fin 1024) (be : Fin 16) (v : Word) (s : State) => (s.get CXL.LSTAT_MODE ≠ 0) ∧ ((s.cxl.crs && !rd) = false)) (true) (0) (15) (5#32) ((State.reset.set CXL.LSTAT_MODE 2)) := by decide
theorem wit_HostAccessCommands_15 : (fun (b : BitVec 64) (z : BitVec 64) (iw : Fin 16) (tt : Bool) (lk : Bool) (s : State) => (s.barred .CXL 0 = none) ∧ (b.toNat % 2 ^ 28 = 0) ∧ (z.toNat % 2 ^ 28 = 0)) (0#64) (0x2400000000#64) (0) (false) (true) (State.reset) := by decide
theorem wit_HostAccessCommands_16 : (fun (v : Word) (s : State) => (s.barred .CXL 0 = none)) (2#32) (State.reset) := by decide
theorem wit_MailboxCommands_3 : (fun (p : List Byte) (s : State) => (p.length = 24) ∧ (p.take 16 = effectsUuid) ∧ (fieldAt p 16 4 + fieldAt p 20 4 ≤ effectsLog.length)) (effectsUuid ++ List.replicate 8 0#8) (State.reset) := by decide
theorem wit_MailboxCommands_5 : (fun (p : List Byte) (s : State) => (p.length = 10) ∧ (fieldAt p 8 2 ≠ 0) ∧ (fieldAt p 8 2 ≤ 127)) (List.replicate 8 0#8 ++ [5, 0]) (State.reset) := by decide
theorem wit_MailboxCommands_6 : (fun (p : List Byte) (s : State) => (p.length = 32) ∧ (fieldAt p 16 8 ≠ 0) ∧ (fieldAt p 16 8 ≤ 2 ^ 40) ∧ (fieldAt p 24 2 ≤ 1023) ∧ (fieldAt p 26 6 = 0) ∧ (s.opBusy (fieldAt p 24 2) = false)) (List.replicate 16 0#8 ++ [8] ++ List.replicate 15 0#8) (State.reset) := by decide
theorem wit_MailboxCommands_7 : (fun (p : List Byte) (s : State) => (p.length ≠ 32)) ([]) (State.reset) := by decide
theorem wit_MailboxCommands_8 : (fun (s : State) => (s.copy.active = false)) (State.reset) := by decide
theorem wit_MailboxCommands_9 : (fun (s : State) => (s.copy.active = true) ∧ (s.copy.step < 63) ∧ ((s.copyBytes (s.copy.len * (s.copy.step + 1) / 64 - s.copy.len * s.copy.step / 64) (s.copy.src + s.copy.len * s.copy.step / 64) (s.copy.dst + s.copy.len * s.copy.step / 64) (s.copy.len * (s.copy.step + 1) / 64 - s.copy.len * s.copy.step / 64)).2 = (s.copy.len * (s.copy.step + 1) / 64 - s.copy.len * s.copy.step / 64, none))) ({ State.reset with copy := { active := true, entry := 0, src := 0x007800000000, dst := 0x007800001000, len := 512, step := 0 } }) := by decide
theorem wit_WatermasterCommands_18 : (fun (o : Fin 0x10100000) (b : List Byte) (a : Fin 4096) (g : Guest) (s : State) => (o.val < 0x10000000)) (5) ([]) (0x802) ({}) (State.reset) := by decide
theorem wit_WatermasterCommands_19 : (fun (o : Fin 0x10100000) (b : List Byte) (a : Fin 4096) (g : Guest) (s : State) => (0x10000000 ≤ o.val) ∧ (o.val < 0x10010000) ∧ (b.length = 4 ∨ b.length = 8) ∧ (o.val % 4 = 0)) (0x1000FFFC) ([1, 2, 3, 4]) (0x802) ({}) (State.reset) := by decide
theorem wit_WatermasterCommands_20 : (fun (o : Fin 0x10100000) (b : List Byte) (a : Fin 4096) (g : Guest) (s : State) => (0x10010000 ≤ o.val) ∧ (o.val < 0x10020000) ∧ (b.length = 4 ∨ b.length = 8) ∧ (o.val % 4 = 0)) (0x10010000) ([1, 2, 3, 4]) (0x802) ({}) (State.reset) := by decide
theorem wit_WatermasterCommands_21 : (fun (o : Fin 0x10100000) (b : List Byte) (a : Fin 4096) (g : Guest) (s : State) => (0x10020000 ≤ o.val) ∧ (o.val < 0x10030000) ∧ (b.length = 4) ∧ (o.val % 4 = 0)) (0x10020000) ([1, 2, 3, 4]) (0x802) ({}) (State.reset) := by decide
theorem wit_WatermasterCommands_22 : (fun (o : Fin 0x10100000) (b : List Byte) (a : Fin 4096) (g : Guest) (s : State) => (0x10020000 ≤ o.val) ∧ (o.val < 0x10030000) ∧ (b.length = 8) ∧ (o.val % 4 = 0)) (0x1002FFF8) ([1, 2, 3, 4, 5, 6, 7, 8]) (0x802) ({}) (State.reset) := by decide
theorem wit_WatermasterCommands_23 : (fun (o : Fin 0x10100000) (b : List Byte) (a : Fin 4096) (g : Guest) (s : State) => (0x10030000 ≤ o.val ∨ (0x10000000 ≤ o.val ∧ (o.val % 4 ≠ 0 ∨ (b.length ≠ 4 ∧ b.length ≠ 8))))) (0x10030000) ([1, 2, 3, 4]) (0x802) ({}) (State.reset) := by decide
theorem wit_WatermasterSession_0 : (fun (q : Fin 65536) (i : Word) (p : List Byte) (s : State) => (s.wmListens false = true) ∧ (p.length ≤ 4072) ∧ (s.flag WHC.STAT_REQBUSY = false) ∧ (s.wm.pend = none) ∧ (s.flag DBG.SESS_ACTIVE = true) ∧ (i.toNat = s.get DBG.SID) ∧ (s.wm.last = none)) (5) (9#32) ([1]) ({ (((State.reset.set DBG.SESS_ACTIVE 1).set DBG.SID 9).set DBG.CTRL_MSPEN 1) with boot := { inReset := false } }) := by decide
theorem wit_WatermasterSession_1 : (fun (q : Fin 65536) (i : Word) (p : List Byte) (s : State) => (s.wmListens false = true) ∧ (p.length ≤ 4072) ∧ (s.flag WHC.STAT_REQBUSY = false) ∧ (s.wm.pend = none) ∧ (s.flag DBG.SESS_ACTIVE = false)) (5) (9#32) ([1]) ({ State.reset.set DBG.CTRL_MSPEN 1 with boot := { inReset := false } }) := by decide
theorem wit_WatermasterSession_2 : (fun (q : Fin 65536) (i : Word) (p : List Byte) (b : List Byte) (s : State) => (s.wmListens false = true) ∧ (p.length ≤ 4072) ∧ (s.flag WHC.STAT_REQBUSY = false) ∧ (s.wm.pend = none) ∧ (s.flag DBG.SESS_ACTIVE = true) ∧ (i.toNat = s.get DBG.SID) ∧ (s.wm.last = some (q.val, b))) (5) (9#32) ([1]) ([7]) ({ (((State.reset.set DBG.SESS_ACTIVE 1).set DBG.SID 9).set DBG.CTRL_MSPEN 1) with boot := { inReset := false }, wm := { last := some (5, [7]) } }) := by decide
theorem wit_WatermasterSession_3 : (fun (q : Fin 65536) (i : Word) (p : List Byte) (s : State) => (s.wmListens false = true) ∧ (p.length ≤ 4072) ∧ (s.wm.pend.isSome = true)) (5) (9#32) ([1]) ({ (((State.reset.set DBG.SESS_ACTIVE 1).set DBG.SID 9).set DBG.CTRL_MSPEN 1) with boot := { inReset := false }, wm := { pend := some { chan := false, cmd := 5, seq := 4, sid := 9, payload := [], guest := {} } } }) := by decide
theorem wit_WatermasterSession_4 : (fun (q : Fin 65536) (i : Word) (p : List Byte) (s : State) => (s.wmListens true = true) ∧ (p.length ≤ 4072) ∧ (s.flag WHC.STAT_REQBUSY = true)) (5) (9#32) ([1]) ({ (State.reset.set DBG.CTRL_HCEN 1).set WHC.STAT_REQBUSY 1 with boot := { inReset := false } }) := by decide
theorem wit_WatermasterSession_5 : (fun (x : Bool) (q : Fin 65536) (i : Word) (p : List Byte) (s : State) => (s.wmListens x = false)) (false) (5) (9#32) ([1]) (State.reset) := by decide
theorem wit_WatermasterSession_6 : (fun (w : WmReq) (d : WmDone) (s : State) => (s.wm.pend = some w) ∧ (s.wmCommand w.chan w.cmd w.payload w.guest = some d)) ({ chan := false, cmd := 3, seq := 4, sid := 9, payload := [], guest := {} }) ((({ State.reset with wm := { pend := some { chan := false, cmd := 3, seq := 4, sid := 9, payload := [], guest := {} } } } : State).wmCommand false 3 [] {}).getD { st := State.reset }) (({ State.reset with wm := { pend := some { chan := false, cmd := 3, seq := 4, sid := 9, payload := [], guest := {} } } } : State)) := ⟨rfl, rfl⟩
theorem wit_PllAndEqualiserCommands_0 : (fun (q : QuadId) (b : Bool) (s : State) => (s.barred .LNQ (q.val / 4) = none) ∧ (s.flag (pllRegs b).en q = false)) (3) (true) (State.reset.set GLB.AVAIL_FREADY 255) := by decide
theorem wit_PllAndEqualiserCommands_1 : (fun (q : QuadId) (b : Bool) (s : State) => (s.barred .LNQ (q.val / 4) = none) ∧ (s.flag (pllRegs b).en q = true)) (3) (true) ((State.reset.set GLB.AVAIL_FREADY 255).set LNQ.CTRL_PLLB_EN 1 3) := by decide
theorem wit_PllAndEqualiserCommands_2 : (fun (q : QuadId) (b : Bool) (s : State) => (s.barred .LNQ (q.val / 4) = none) ∧ (s.flag (pllRegs b).en q = true)) (3) (true) ((State.reset.set GLB.AVAIL_FREADY 255).set LNQ.CTRL_PLLB_EN 1 3) := by decide
theorem wit_PllAndEqualiserCommands_3 : (fun (q : QuadId) (b : Bool) (f : Bool) (v : Word) (s : State) => (s.barred .LNQ (q.val / 4) = none) ∧ (s.flag (pllRegs b).en q = true)) (3) (true) (false) (7#32) ((State.reset.set GLB.AVAIL_FREADY 255).set LNQ.CTRL_PLLB_EN 1 3) := by decide
theorem wit_PllAndEqualiserCommands_4 : (fun (q : QuadId) (b : Bool) (v : Word) (s : State) => (s.barred .LNQ (q.val / 4) = none) ∧ (s.flag (pllRegs b).en q = false)) (3) (true) (7#32) (State.reset.set GLB.AVAIL_FREADY 255) := by decide
theorem wit_PllAndEqualiserCommands_5 : (fun (q : QuadId) (b : Bool) (s : State) => (s.flag (pllRegs b).en q = true) ∧ (s.flag (pllRegs b).range q = false)) (3) (true) ((State.reset.set GLB.AVAIL_FREADY 255).set LNQ.CTRL_PLLB_EN 1 3) := by decide
theorem wit_PllAndEqualiserCommands_6 : (fun (q : QuadId) (b : Bool) (s : State) => (s.flag (pllRegs b).range q = true)) (3) (true) ((State.reset.set GLB.AVAIL_FREADY 255).set LNQ.STAT_RANGEB 1 3) := by decide
theorem wit_PllAndEqualiserCommands_7 : (fun (q : QuadId) (b : Bool) (s : State) => (s.flag (pllRegs b).en q = true) ∧ (s.flag (pllRegs b).lock q = true)) (3) (true) (((State.reset.set GLB.AVAIL_FREADY 255).set LNQ.CTRL_PLLB_EN 1 3).set LNQ.STAT_LOCKB 1 3) := by decide
theorem wit_PllAndEqualiserCommands_8 : (fun (l : LaneId) (v : Word) (s : State) => (s.barred .LN (fieldOf l) = none) ∧ (s.get LN.STAT_STATE l ≠ 4)) (17) (5#32) (State.reset.set GLB.AVAIL_FREADY 255) := by decide
theorem wit_PllAndEqualiserCommands_9 : (fun (l : LaneId) (v : Word) (s : State) => (s.barred .LN (fieldOf l) = none) ∧ (s.get LN.STAT_STATE l = 4)) (17) (5#32) ((State.reset.set GLB.AVAIL_FREADY 255).set LN.STAT_STATE 4 17) := by decide
theorem wit_PllAndEqualiserCommands_10 : (fun (l : LaneId) (v : Word) (w : Nat) (s : State) => (s.barred .LN (fieldOf l) = none) ∧ (s.get LN.STAT_STATE l ≠ 4) ∧ ((s.lane l).stage0 = some w) ∧ (s.txOk l { txStart w v.toNat with post1 := signedOf (bitsOf v.toNat 0 8) 8, post2 := signedOf (bitsOf v.toNat 8 8) 8 } = true)) (17) (0#32) (64 * 2 ^ 24) ((State.reset.set GLB.AVAIL_FREADY 255).setLane 17 { stage0 := some (64 * 2 ^ 24) }) := by decide
theorem wit_PllAndEqualiserCommands_11 : (fun (l : LaneId) (r : Fin 5) (v : Word) (s : State) => (s.barred .LN (fieldOf l) = none) ∧ (s.get LN.CTRL_ADAPT l ≠ 2)) (17) (0) (5#32) (State.reset.set GLB.AVAIL_FREADY 255) := by decide
theorem wit_PllAndEqualiserCommands_12 : (fun (l : LaneId) (v : Word) (s : State) => (s.barred .LN (fieldOf l) = none) ∧ (s.get LN.CTRL_ADAPT l = 2) ∧ (bitsOf v.toNat 0 8 ≤ bitsOf (s.entryWord l (s.get LN.CTRL_RCLASS l) 5) 24 8) ∧ (bitsOf v.toNat 0 8 ≤ 192) ∧ ((signedOf (bitsOf v.toNat 8 8) 8).natAbs ≤ bitsOf (s.entryWord l (s.get LN.CTRL_RCLASS l) 5) 8 8) ∧ ((signedOf (bitsOf v.toNat 8 8) 8).natAbs ≤ 63)) (17) (5#32) (up.set LN.CTRL_ADAPT 2 17) := by decide
theorem wit_PllAndEqualiserCommands_13 : (fun (l : LaneId) (v : Word) (s : State) => (s.barred .LN (fieldOf l) = none) ∧ (s.get LN.CTRL_ADAPT l = 2) ∧ (192 < bitsOf v.toNat 0 8)) (17) (193#32) (up.set LN.CTRL_ADAPT 2 17) := by decide
theorem wit_PllAndEqualiserCommands_14 : (fun (l : LaneId) (s : State) => (s.get LN.CTRL_ADAPT l ≠ 2) ∧ (s.get LN.STAT_STATE l = 3)) (17) ((State.reset.set GLB.AVAIL_FREADY 255).set LN.STAT_STATE 3 17) := by decide
theorem wit_LaneStateCommands_0 : (fun (l : LaneId) (s : State) => (s.barred .LN (fieldOf l) = none) ∧ (s.flag LN.CTRL_EN l = true)) (17) ((State.reset.set GLB.AVAIL_FREADY 255).set LN.CTRL_EN 1 17) := by decide
theorem wit_LaneStateCommands_1 : (fun (l : LaneId) (v : Word) (s : State) => (s.barred .LN (fieldOf l) = none)) (17) (1#32) (State.reset.set GLB.AVAIL_FREADY 255) := by decide
theorem wit_LaneStateCommands_2 : (fun (l : LaneId) (t : Bool) (s : State) => (s.barred .LN (fieldOf l) = none) ∧ (t = false ∨ s.flag LN.CTRL_TRAIN l = true)) (17) (false) (up) := by decide
theorem wit_LaneStateCommands_3 : (fun (l : LaneId) (u : State) (s : State) => (s.barred .LN (fieldOf l) = none) ∧ (s.flag LN.CTRL_TRAIN l = false) ∧ (u = (s.set LN.CTRL_TRAIN 1 l).setLane l { (s.set LN.CTRL_TRAIN 1 l).lane l with trained := false })) (17) ((up.set LN.CTRL_TRAIN 1 17).setLane 17 { (up.set LN.CTRL_TRAIN 1 17).lane 17 with trained := false }) (up) := ⟨by decide, by decide, rfl⟩
theorem wit_LaneStateCommands_4 : (fun (l : LaneId) (m : Fin 4) (u : State) (s : State) => (s.barred .LN (fieldOf l) = none) ∧ (m.val ≠ 3) ∧ (m.val ≠ s.get LN.CTRL_LOOP l) ∧ (u = s.set LN.CTRL_LOOP m l) ∧ (u.get LN.STAT_STATE l < 3) ∧ (m.val ≠ 2) ∧ (u.get LN.CTRL_LOOP l = m.val)) (17) (1) (up.set LN.CTRL_LOOP 1 17) (up) := ⟨by decide, by decide, by decide, rfl, by decide, by decide, by decide⟩
theorem wit_LaneStateCommands_5 : (fun (l : LaneId) (m : Fin 4) (u : State) (s : State) => (s.barred .LN (fieldOf l) = none) ∧ (m.val ≠ 3) ∧ (m.val ≠ s.get LN.CTRL_LOOP l) ∧ (u = ((s.set LN.CTRL_LOOP m l).leaveReady l).set LN.STAT_STATE 3 l) ∧ ((s.set LN.CTRL_LOOP m l).get LN.STAT_STATE l = 5) ∧ (u.get LN.CTRL_LOOP l = m.val)) (17) (1) ((((up.set LN.STAT_STATE 5 17).set LN.CTRL_LOOP 1 17).leaveReady 17).set LN.STAT_STATE 3 17) ((up.set LN.STAT_STATE 5 17)) := ⟨by decide, by decide, by decide, rfl, by decide, by decide⟩
theorem wit_LaneStateCommands_6 : (fun (l : LaneId) (m : Fin 4) (s : State) => (s.barred .LN (fieldOf l) = none) ∧ (m.val = 3)) (17) (3) (State.reset.set GLB.AVAIL_FREADY 255) := by decide
theorem wit_LaneStateCommands_7 : (fun (l : LaneId) (s : State) => (s.get LN.STAT_STATE l = 2) ∧ ((s.lane l).calMode = 2) ∧ ((s.calHalf l).flag LN.CTRL_RXEN l = true)) (17) ((((State.reset.set GLB.AVAIL_FREADY 255).set LN.STAT_STATE 2 17).set LN.CTRL_RXEN 1 17).setLane 17 { calMode := 2 }) := by decide
theorem wit_LaneStateCommands_8 : (fun (l : LaneId) (s : State) => (s.get LN.STAT_STATE l ≠ 2)) (17) (State.reset.set GLB.AVAIL_FREADY 255) := by decide
theorem wit_LaneStateCommands_9 : (fun (l : LaneId) (a : AdaptVals) (s : State) => (s.get LN.STAT_STATE l = 3) ∧ ((s.adapt l a).flag LN.CTRL_TRAIN l = false)) (17) (⟨1, 2, 3, 4, [], 5⟩) (((State.reset.set GLB.AVAIL_FREADY 255).set LN.STAT_STATE 3 17).set LN.CTRL_ADAPT 2 17) := by decide
theorem wit_LaneStateCommands_10 : (fun (l : LaneId) (s : State) => (s.get LN.STAT_STATE l = 3) ∧ (s.get LN.CTRL_ADAPT l = 2) ∧ ((s.lane l).cal = none)) (17) (((State.reset.set GLB.AVAIL_FREADY 255).set LN.STAT_STATE 3 17).set LN.CTRL_ADAPT 2 17) := by decide
theorem wit_LaneStateCommands_11 : (fun (l : LaneId) (s : State) => (s.get LN.STAT_STATE l = 5)) (17) ((State.reset.set GLB.AVAIL_FREADY 255).set LN.STAT_STATE 5 17) := by decide
theorem wit_LaneStateCommands_12 : (fun (l : LaneId) (s : State) => (s.get LN.STAT_STATE l ≠ 5)) (17) (State.reset.set GLB.AVAIL_FREADY 255) := by decide
theorem wit_LaneCalibrationCommands_0 : (fun (l : LaneId) (src : Fin 4096) (intr : Bool) (e : Fin 1024) (s : State) => (s.barred .LN (fieldOf l) = none) ∧ (s.opBusy e = true)) (17) (0x802) (true) (4) ((State.reset.set GLB.AVAIL_FREADY 255).setOp 4 { state := 2 }) := by decide
theorem wit_LaneCalibrationCommands_1 : (fun (l : LaneId) (src : Fin 4096) (intr : Bool) (e : Fin 1024) (s : State) => (s.barred .LN (fieldOf l) = none) ∧ (s.opBusy e = false) ∧ ((s.lane l).cal = none) ∧ (s.dpact l = false) ∧ (s.get LN.STAT_STATE l = 4)) (17) (0x802) (true) (4) ((State.reset.set GLB.AVAIL_FREADY 255).set LN.STAT_STATE 4 17) := by decide
theorem wit_LaneCalibrationCommands_2 : (fun (l : LaneId) (src : Fin 4096) (intr : Bool) (e : Fin 1024) (s : State) => (s.barred .LN (fieldOf l) = none) ∧ (s.opBusy e = true)) (17) (0x802) (true) (4) ((State.reset.set GLB.AVAIL_FREADY 255).setOp 4 { state := 2 }) := by decide
theorem wit_LaneCalibrationCommands_3 : (fun (l : LaneId) (src : Fin 4096) (intr : Bool) (e : Fin 1024) (s : State) => (s.barred .LN (fieldOf l) = none) ∧ (s.opBusy e = false) ∧ ((s.lane l).cal = none) ∧ (s.dpact l = false) ∧ (s.get LN.STAT_STATE l = 4)) (17) (0x802) (true) (4) ((State.reset.set GLB.AVAIL_FREADY 255).set LN.STAT_STATE 4 17) := by decide
theorem wit_LaneCalibrationCommands_4 : (fun (l : LaneId) (src : Fin 4096) (intr : Bool) (e : Fin 1024) (s : State) => (s.barred .LN (fieldOf l) = none) ∧ (s.opBusy e = true)) (17) (0x802) (true) (4) ((State.reset.set GLB.AVAIL_FREADY 255).setOp 4 { state := 2 }) := by decide
theorem wit_LaneCalibrationCommands_5 : (fun (l : LaneId) (src : Fin 4096) (intr : Bool) (e : Fin 1024) (s : State) => (s.barred .LN (fieldOf l) = none) ∧ (s.opBusy e = false) ∧ ((s.lane l).cal = none) ∧ (s.dpact l = false) ∧ (s.get LN.STAT_STATE l = 4)) (17) (0x802) (true) (4) ((State.reset.set GLB.AVAIL_FREADY 255).set LN.STAT_STATE 4 17) := by decide
theorem wit_LaneCalibrationCommands_6 : (fun (l : LaneId) (c : CalReq) (s : State) => ((s.lane l).cal = some c) ∧ (c.queued = true) ∧ (s.get LN.STAT_STATE l = 5)) (17) (⟨0, 4, true⟩) (((State.reset.set GLB.AVAIL_FREADY 255).setLane 17 { cal := some ⟨0, 4, true⟩ }).set LN.STAT_STATE 5 17) := by decide
theorem wit_LedgerCommands_0 : (fun (i : Fin 1024) (ok : Bool) (s : State) => ((s.op i).due = false)) (0) (true) (State.reset) := by decide
theorem wit_LedgerCommands_1 : (fun (i : Fin 1024) (ok : Bool) (s : State) => ((s.op i).due = true) ∧ ((s.op i).notBefore ≤ s.elapsed) ∧ ((s.op i).stateDue = false)) (0) (true) (State.reset.setOp 0 { due := true }) := by decide
theorem wit_LedgerCommands_2 : (fun (i : Fin 1024) (ok : Bool) (s : State) => ((s.op i).due = true) ∧ ((s.op i).notBefore ≤ s.elapsed) ∧ ((s.op i).stateDue = true) ∧ ((s.op i).state < 4)) (0) (true) (State.reset.setOp 0 { due := true, stateDue := true }) := by decide
theorem wit_LedgerCommands_3 : (fun (i : Fin 1024) (ok : Bool) (s : State) => (s.elapsed < (s.op i).notBefore)) (0) (true) (State.reset.setOp 0 { notBefore := 9 }) := by decide
theorem wit_LedgerCommands_4 : (fun (i : Fin 1024) (v : Word) (s : State) => (s.barred .CXL 0 = none) ∧ (bitOf v.toNat 10 = true) ∧ (bitsOf v.toNat 0 10 = i.val) ∧ (4 ≤ s.get LGR.STATE i) ∧ (4 ≤ (s.op i).state)) (0) (0x400#32) ((State.reset.setOp 0 { state := 4 }).set LGR.STATE 4) := by decide
theorem wit_LedgerCommands_5 : (fun (i : Fin 1024) (v : Word) (s : State) => (s.barred .CXL 0 = none) ∧ (bitOf v.toNat 10 = true) ∧ (bitsOf v.toNat 0 10 = i.val) ∧ (s.get LGR.STATE i < 4)) (0) (0x400#32) (State.reset) := by decide
theorem wit_LedgerCommands_6 : (fun (v : Word) (s : State) => (s.barred .CXL 0 = none) ∧ (bitOf v.toNat 0 = true) ∧ (s.cxl.cacheEn = true) ∧ (s.get CXL.LSTAT_MODE = 2)) (1#32) ({ State.reset.set CXL.LSTAT_MODE 2 with cxl := { cacheEn := true } }) := by decide
theorem wit_LedgerCommands_7 : (fun (v : Word) (s : State) => (s.barred .CXL 0 = none) ∧ (bitOf v.toNat 0 = true) ∧ (s.cxl.cacheEn = false)) (1#32) (State.reset) := by decide
theorem wit_LedgerCommands_8 : (fun (v : Word) (s : State) => (s.barred .CXL 0 = none)) (0#32) (State.reset) := by decide
theorem wit_LedgerCommands_9 : (fun (i : Fin 1024) (s : State) => ((s.setBitOf CXL.LCHG (i % 32) (i / 32)).flag CXL.LIRQ_EN = false)) (0) (State.reset) := by decide
theorem wit_LedgerCommands_10 : (fun (i : Fin 1024) (s : State) => ((s.setBitOf CXL.LCHG (i % 32) (i / 32)).flag CXL.LIRQ_EN = true) ∧ ((s.setBitOf CXL.LCHG (i % 32) (i / 32)).flag CXL.LIRQ_ARMED = true)) (0) ((State.reset.set CXL.LIRQ_EN 1).set CXL.LIRQ_ARMED 1) := by decide
theorem wit_LedgerCommands_11 : (fun (v : Word) (s : State) => (s.barred .CXL 0 = none) ∧ (bitOf v.toNat 0 = false)) (2#32) (State.reset) := by decide
theorem wit_LedgerCommands_12 : (fun (s : State) => (s.cxl.held = false)) (State.reset) := by decide
theorem wit_LedgerCommands_13 : (fun (s : State) => (s.cxl.held = true)) ({ State.reset with cxl := { held := true } }) := by decide
theorem wit_PortAndReceiveCommands_0 : (fun (l : LaneId) (v : Word) (s : State) => (s.barred .PCS (fieldOf l) = none)) (17) (1#32) ((State.reset.set GLB.AVAIL_FREADY 255)) := by decide
theorem wit_PortAndReceiveCommands_1 : (fun (l : LaneId) (s : State) => (s.barred .PCS (fieldOf l) = none) ∧ (s.flag PCS.CTRL_EN l = true)) (17) ((State.reset.set GLB.AVAIL_FREADY 255).set PCS.CTRL_EN 1 17) := by decide
theorem wit_PortAndReceiveCommands_2 : (fun (l : LaneId) (s : State) => (s.barred .PCS (fieldOf l) = none) ∧ (s.flag PCS.CTRL_EN l = false)) (17) ((State.reset.set GLB.AVAIL_FREADY 255)) := by decide
theorem wit_PortAndReceiveCommands_3 : (fun (l : LaneId) (h : Fin 4) (p : BitVec 64) (a : Nat) (s : State) => (s.anchorOf l = some a) ∧ (s.get PCS.CTRL_MODE a = 1) ∧ (s.get LN.STAT_STATE l = 5) ∧ (s.flag LN.CTRL_RXEN l = true) ∧ (s.get LN.CTRL_LOOP l ≠ 1)) (17) (1) (0#64) (17) (laneRx 1) := by decide
theorem wit_PortAndReceiveCommands_4 : (fun (l : LaneId) (h : Fin 4) (p : BitVec 64) (s : State) => (s.anchorOf l = none)) (17) (1) (0#64) (State.reset) := by decide
theorem wit_PortAndReceiveCommands_5 : (fun (l : LaneId) (e : EthRx) (a : Nat) (s : State) => (s.anchorOf l = some a) ∧ (s.get PCS.CTRL_MODE a = 2) ∧ (s.get LN.STAT_STATE l = 5) ∧ (s.flag LN.CTRL_RXEN l = true)) (17) (.lock true) (17) (laneRx 2) := by decide
theorem wit_PortAndReceiveCommands_6 : (fun (l : LaneId) (sync : Fin 4) (b : List Byte) (a : Nat) (s : State) => (s.anchorOf l = some a) ∧ (s.get PCS.CTRL_MODE a = 3) ∧ (s.get LN.STAT_STATE l = 5) ∧ (s.flag LN.CTRL_RXEN l = true) ∧ (s.get LN.CTRL_LOOP l ≠ 1)) (17) (1) ([]) (17) (laneRx 3) := by decide
theorem wit_PortAndReceiveCommands_7 : (fun (l : LaneId) (a : Nat) (s : State) => (s.anchorOf l = some a) ∧ (s.get PCS.CTRL_MODE a = 3) ∧ (s.get LN.STAT_STATE l = 5) ∧ (s.flag LN.CTRL_RXEN l = true) ∧ (s.flag PCS.STAT_BLOCK_LOCK l = true)) (17) (17) ((laneRx 3).set PCS.STAT_BLOCK_LOCK 1 17) := by decide
theorem wit_PortAndReceiveCommands_8 : (fun (a : LaneId) (r : Fin 3) (s : State) => (s.flag PCS.CTRL_EN a = true) ∧ (s.get PCS.CTRL_MODE a = 3)) (17) (2) ((((State.reset.set GLB.AVAIL_FREADY 255).set PCS.CTRL_EN 1 17).set PCS.CTRL_MODE 3 17).set LN.STAT_STATE 5 17) := by decide
theorem wit_PortAndReceiveCommands_9 : (fun (a : LaneId) (p : Fin 32768) (prec : Bool) (s : State) => (s.flag PCS.CTRL_EN a = true) ∧ (s.get PCS.CTRL_MODE a = 2) ∧ (s.flag PCS.CTRL_AN a = true)) (17) (2) (false) (((((State.reset.set GLB.AVAIL_FREADY 255).set PCS.CTRL_EN 1 17).set PCS.CTRL_MODE 2 17).set LN.STAT_STATE 5 17).set PCS.CTRL_AN 1 17) := by decide
theorem wit_PortAndReceiveCommands_10 : (fun (l : LaneId) (s : State) => (s.barred .PCS (fieldOf l) = none) ∧ (s.genOn l = true) ∧ (s.get LN.STAT_STATE l ≠ 4)) (17) (up.set PCS.PRBS_GENEN 1 17) := by decide
theorem wit_PortAndReceiveCommands_11 : (fun (l : LaneId) (s : State) => (s.barred .PCS (fieldOf l) = none) ∧ (s.flag PCS.PRBS_GENEN l = false)) (17) ((State.reset.set GLB.AVAIL_FREADY 255)) := by decide
theorem wit_PortAndReceiveCommands_12 : (fun (l : LaneId) (s : State) => (s.barred .PCS (fieldOf l) = none)) (17) ((State.reset.set GLB.AVAIL_FREADY 255)) := by decide
theorem wit_PortAndReceiveCommands_13 : (fun (l : LaneId) (v : List Int) (s : State) => (s.get LN.STAT_STATE l = 5) ∧ (s.flag LN.CTRL_RXEN l = true) ∧ (s.get LN.CTRL_LOOP l = 0) ∧ (s.prbsOn l = true) ∧ (s.get PCS.PRBS_CHKPAT l ≠ 6) ∧ (s.anchorOf l = none)) (17) ([1]) (((laneRx 1).set PCS.CTRL_EN 0 17).set PCS.PRBS_CHKEN 1 17) := by decide
theorem wit_PortAndReceiveCommands_14 : (fun (l : LaneId) (v : List Int) (s : State) => (s.get LN.STAT_STATE l ≠ 5 ∨ s.flag LN.CTRL_RXEN l = false ∨ s.get LN.CTRL_LOOP l = 1)) (17) ([1]) (up) := by decide
theorem wit_PortAndReceiveCommands_15 : (fun (l : LaneId) (src : Fin 4096) (v : Word) (s : State) => (s.barred .PCS (fieldOf l) = none)) (17) (5) (1#32) ((State.reset.set GLB.AVAIL_FREADY 255)) := by decide
theorem wit_PortAndReceiveCommands_16 : (fun (l : LaneId) (c : List Nat) (s : State) => ((s.lane l).eye = none)) (17) ([]) (State.reset) := by decide
theorem wit_PortAndReceiveCommands_17 : (fun (l : LaneId) (c : List Nat) (e : Nat) (k : Nat) (buf : Nat) (s : State) => ((s.lane l).eye = some (e, k, buf)) ∧ (k < 63) ∧ ((s.netStore .wr (fieldOf l * 256 + 0x80) 0 (buf + 256 * k) ((List.range 64).flatMap fun v => bytesLE 4 (min 0xFFFFFF (c.getD v 0)))).2 = .ok)) (17) ([]) (0) (3) (0x007800000000) (State.reset.setLane 17 { eye := some (0, 3, 0x007800000000) }) := by decide
theorem wit_PortAndReceiveCommands_18 : (fun (l : LaneId) (s : State) => (s.barred .PCS (fieldOf l) = none)) (17) ((State.reset.set GLB.AVAIL_FREADY 255)) := by decide
theorem wit_TrainingCommands_0 : (fun (l : LaneId) (cell : BitVec 64) (s : State) => (s.trainProto l = some 1) ∧ (trainCell (bitsOf cell.toNat 0 24) (bitsOf cell.toNat 24 24) = cell.toNat)) (17) (BitVec.ofNat 64 (trainCell 0 8192)) ((up.set LN.STAT_STATE 4 17).setLane 17 { train := { proto := 1 } }) := by decide
theorem wit_TrainingCommands_1 : (fun (l : LaneId) (cell : BitVec 64) (s : State) => (s.trainProto l = some 1)) (17) (0#64) ((up.set LN.STAT_STATE 4 17).setLane 17 { train := { proto := 1 } }) := by decide
theorem wit_TrainingCommands_2 : (fun (l : LaneId) (r : Option (Fin 128)) (d : Bool) (s : State) => (s.trainProto l = some 1)) (17) (some 3) (true) ((up.set LN.STAT_STATE 4 17).setLane 17 { train := { proto := 1 } }) := by decide
theorem wit_TrainingCommands_3 : (fun (l : LaneId) (s : State) => (s.trainProto l = some 1) ∧ ((s.lane l).train.seen = false)) (17) ((up.set LN.STAT_STATE 4 17).setLane 17 { train := { proto := 1 } }) := by decide
theorem wit_TrainingCommands_4 : (fun (l : LaneId) (s : State) => (s.trainProto l = some 1 ∨ s.trainProto l = some 2)) (17) ((up.set LN.STAT_STATE 4 17).setLane 17 { train := { proto := 2 } }) := by decide
theorem wit_TrainingCommands_5 : (fun (l : LaneId) (s : State) => (s.trainProto l = none)) (17) (State.reset) := by decide
theorem wit_TrainingCommands_6 : (fun (l : LaneId) (a : Int) (b : Int) (c : Int) (d : Int) (e : Int) (f : Int) (s : State) => (s.trainProto l = some 2) ∧ (s.txOk l ⟨a, b, c, d, e, f⟩ = true)) (17) (0) (0) (0) (64) (0) (0) ((up.set LN.STAT_STATE 4 17).setLane 17 { train := { proto := 2 } }) := by decide
theorem wit_TrainingCommands_7 : (fun (l : LaneId) (a : Int) (b : Int) (c : Int) (d : Int) (e : Int) (f : Int) (s : State) => (s.trainProto l = some 2) ∧ (s.txOk l ⟨a, b, c, d, e, f⟩ = false)) (17) (0) (0) (0) (99) (0) (0) ((up.set LN.STAT_STATE 4 17).setLane 17 { train := { proto := 2 } }) := by decide
theorem wit_TrainingCommands_8 : (fun (l : LaneId) (s : State) => (s.trainProto l = some 2)) (17) ((up.set LN.STAT_STATE 4 17).setLane 17 { train := { proto := 2 } }) := by decide
theorem wit_TrainingCommands_9 : (fun (l : LaneId) (s : State) => (s.trainProto l = some 2)) (17) ((up.set LN.STAT_STATE 4 17).setLane 17 { train := { proto := 2 } }) := by decide
theorem wit_TrainingCommands_10 : (fun (l : LaneId) (s : State) => (s.trainProto l = some 0)) (17) ((((State.reset.set GLB.AVAIL_FREADY 255).set PCS.CTRL_EN 1 17).set LN.STAT_STATE 4 17).set PCS.CTRL_TPROTO 0 17) := by decide
theorem wit_TrainingCommands_11 : (fun (l : LaneId) (s : State) => (s.trainProto l = some 0)) (17) ((((State.reset.set GLB.AVAIL_FREADY 255).set PCS.CTRL_EN 1 17).set LN.STAT_STATE 4 17).set PCS.CTRL_TPROTO 0 17) := by decide
theorem wit_TrainingCommands_12 : (fun (l : LaneId) (a : Int) (b : Int) (c : Int) (d : Int) (e : Int) (s : State) => (s.trainProto l = some 0) ∧ (s.txOk l ⟨a, b, c, d, e, (txStart (s.entryWord l (s.get LN.CTRL_RCLASS l) 1) (s.entryWord l (s.get LN.CTRL_RCLASS l) 2)).post2⟩ = true)) (17) (0) (0) (0) (64) (0) ((((State.reset.set GLB.AVAIL_FREADY 255).set PCS.CTRL_EN 1 17).set LN.STAT_STATE 4 17).set PCS.CTRL_TPROTO 0 17) := by decide
theorem wit_ResetCommands_2 : (fun (s : State) => (s.pow.dormant = none) ∧ (s.boot.inReset = false)) ({ State.reset with boot := { inReset := false } }) := by decide
theorem wit_ResetCommands_3 : (fun (s : State) => (s.pow.dormant = none) ∧ (s.boot.inReset = true)) (State.reset) := by decide
theorem wit_ResetCommands_4 : (fun (s : State) => (s.pow.dormant = none) ∧ (s.boot.inReset = false)) ({ State.reset with boot := { inReset := false } }) := by decide
theorem wit_ResetCommands_5 : (fun (v : Word) (s : State) => (s.barred .RST 0 = none) ∧ (bitOf v.toNat 0 = true) ∧ (bitsOf v.toNat 16 16 = 0x524B) ∧ (s.pow.dormant = none) ∧ (s.boot.inReset = false)) (0x524B0001#32) ({ State.reset with boot := { inReset := false } }) := by decide
theorem wit_ResetCommands_6 : (fun (v : Word) (s : State) => (s.barred .RST 0 = none) ∧ (bitsOf v.toNat 16 16 ≠ 0x524B)) (1#32) (State.reset) := by decide
theorem wit_ResetCommands_11 : (fun (m : HmcId) (p : Fin 32) (b : Fin 48) (r : Fin 24576) (s : State) => (((s.clearBitOf CLK.LOCK (4 + m)).setBitOf CLK.UNLK (4 + m)).get HMC.STAT_STATE m = 2)) (1) (3) (4) (5) (State.reset.set HMC.STAT_STATE 2 1) := by decide
theorem wit_ResetCommands_12 : (fun (m : HmcId) (p : Fin 32) (i : Option (Fin 32)) (b : Fin 48) (r : Fin 24576) (s : State) => (((s.clearBitOf CLK.LOCK (4 + m)).setBitOf CLK.UNLK (4 + m)).get HMC.STAT_STATE m = 4)) (1) (3) (none) (4) (5) (State.reset.set HMC.STAT_STATE 4 1) := by decide
theorem wit_ResetCommands_13 : (fun (s : State) => (s.tap.testEn = false)) (State.reset) := by decide
theorem wit_ResetCommands_14 : (fun (s : State) => (s.tap.testEn = true)) ({ State.reset with tap := { testEn := true } }) := by decide
theorem wit_ResetCommands_15 : (fun (b : Bool) (s : State) => (b = s.tap.testEn)) (false) (State.reset) := by decide
theorem wit_PowerStateCommands_0 : (fun (s : State) => (s.barred .PWR 0 = none) ∧ (s.flag PWR.CSTAT_BUSY = false) ∧ (s.get FWU.STAT_STATE = 0)) (State.reset) := by decide
theorem wit_PowerStateCommands_1 : (fun (k : BitVec 16) (s : State) => (s.barred .PWR 0 = none) ∧ (k ≠ 0x5057#16)) (1#16) (State.reset) := by decide
theorem wit_PowerStateCommands_2 : (fun (n : FieldId) (k : BitVec 16) (s : State) => (s.barred .PWR 0 = none)) (3) (0x5057#16) ((State.reset.set GLB.AVAIL_FREADY 255)) := by decide
theorem wit_PowerStateCommands_3 : (fun (v : Word) (s : State) => (s.barred .PWR 0 = none) ∧ (s.lastField (bitsOf v.toNat 0 8) = false)) (0#32) (State.reset) := by decide
theorem wit_PowerStateCommands_4 : (fun (t : Nat) (s : State) => (s.pow.dormant = some t) ∧ (t + msUnits ≤ s.now) ∧ (s.pow.tripped = false)) (0) ({ State.reset with pow := { dormant := some 0 }, time := { State.reset.time with dtc := 2 * msUnits } }) := by decide
theorem wit_PowerStateCommands_5 : (fun (s : State) => (s.pow.dormant = none)) (State.reset) := by decide
theorem wit_PowerStateCommands_6 : (fun (t : Nat) (s : State) => (s.get PWR.WTMR ≠ 0) ∧ (s.pow.dormant = some t) ∧ (t + msUnits ≤ s.now) ∧ (s.pow.tripped = false)) (0) ({ State.reset.set PWR.WTMR 5 with pow := { dormant := some 0 }, time := { State.reset.time with dtc := 2 * msUnits } }) := by decide
theorem wit_PowerStateCommands_7 : (fun (v : Word) (s : State) => (s.barred .PWR 0 = none)) (5#32) (State.reset) := by decide
theorem wit_PowerStateCommands_8 : (fun (q : QuadId) (s : State) => (s.flag PWR.POL_QGATE = true) ∧ (s.serves (q.val / 4) = true) ∧ (s.quadIdle q = true)) (5) ((State.reset.set GLB.AVAIL_FREADY 255).set PWR.POL_QGATE 1) := by decide
theorem wit_PowerStateCommands_9 : (fun (l : LaneId) (v : Word) (s : State) => (s.bit FPW.GATE_QOFF (quadOf l % 4) (fieldOf l) = true) ∧ (s.barred .LN (fieldOf l) = none)) (17) (0#32) ((State.reset.set GLB.AVAIL_FREADY 255).set FPW.GATE_QOFF 15 1) := by decide
theorem wit_PowerStateCommands_10 : (fun (l : LaneId) (k : Fin 4) (v : Word) (s : State) => (s.bit FPW.GATE_QOFF (quadOf l % 4) (fieldOf l) = false)) (17) (1) (0#32) ((State.reset.set GLB.AVAIL_FREADY 255)) := by decide
theorem wit_PowerStateCommands_11 : (fun (i : RsvId) (b : Fin 16) (s : State) => (s.flag PWR.POL_BGATE = true) ∧ (s.serves (i.val / 4) = true) ∧ (i.val % 4 < 2)) (5) (3) ((State.reset.set GLB.AVAIL_FREADY 255).set PWR.POL_BGATE 1) := by decide
theorem wit_PowerStateCommands_12 : (fun (i : RsvId) (b : Fin 16) (s : State) => (s.flag PWR.POL_BGATE = true) ∧ (s.serves (i.val / 4) = true) ∧ (2 ≤ i.val % 4)) (7) (3) ((State.reset.set GLB.AVAIL_FREADY 255).set PWR.POL_BGATE 1) := by decide
theorem wit_TelemetryCommands_0 : (fun (r : Sensors) (s : State) => (s.pow.dormant = none) ∧ (s.boot.inReset = false)) ({ hw := [], hwSup := [], fld := [], fldSup := [] }) ({ State.reset with boot := { inReset := false } }) := by decide
theorem wit_TelemetryCommands_1 : (fun (r : Sensors) (t : Nat) (s : State) => (s.pow.dormant = some t)) ({ hw := [], hwSup := [], fld := [], fldSup := [] }) (0) ({ State.reset with pow := { dormant := some 0 }, time := { State.reset.time with dtc := 2 * msUnits } }) := by decide
theorem wit_TelemetryCommands_2 : (fun (n : FieldId) (s : State) => (s.powered n = true) ∧ ((List.range 4).any (fun j => decide ((s.get PWR.TLIM_TRIP : Int) ≤ signedOf (s.get FPW.TEMP n j) 8)) = true)) (3) ((State.reset.set FPW.DON 1 3).set FPW.TEMP 120 3 2) := by decide
theorem wit_TelemetryCommands_3 : (fun (n : FieldId) (s : State) => (s.powered n = false)) (3) (State.reset) := by decide
theorem wit_TelemetryCommands_4 : (fun (s : State) => (s.pow.dormant = none) ∧ ((List.range 8).any (fun i => decide ((s.get PWR.TLIM_TRIP : Int) ≤ signedOf (s.get PWR.TSENS_TEMP i) 8)) = true)) (State.reset.set PWR.TSENS_TEMP 120 2) := by decide
theorem wit_TelemetryCommands_5 : (fun (s : State) => (s.get PWR.LIMIT < s.get PWR.PKG) ∧ (s.flag PWR.STAT_PLIM = false)) ((State.reset.set PWR.PKG 9).set PWR.LIMIT 5) := by decide
theorem wit_TelemetryCommands_6 : (fun (d : Fin 9) (c : Fin 6) (s : State) => (channelOk d c = true)) (8) (2) (State.reset) := by decide
theorem wit_TelemetryCommands_7 : (fun (d : Fin 9) (c : Fin 6) (s : State) => (channelOk d c = false)) (3) (5) (State.reset) := by decide
theorem wit_TelemetryCommands_8 : (fun (d : Fin 9) (c : Fin 6) (s : State) => (channelOk d c = true) ∧ (d.val = 8) ∧ (c.val ≠ 0)) (8) (2) (State.reset) := by decide
theorem wit_TelemetryCommands_9 : (fun (d : Fin 9) (c : Fin 6) (s : State) => (channelOk d c = true) ∧ (d.val = 8) ∧ (c.val = 0)) (8) (0) (State.reset) := by decide
theorem wit_TelemetryCommands_10 : (fun (d : Fin 9) (c : Fin 6) (s : State) => (channelOk d c = true) ∧ (d.val ≠ 8) ∧ (s.powered d = true) ∧ (s.monitored d c = true)) (3) (0) (State.reset.set FPW.DON 1 3) := by decide
theorem wit_RillEngineCommands_0 : (fun (g : EngId) (e : Fin 32768) (s : State) => (s.barred .RIL (g.val / 32) = none)) (5) (7) ((State.reset.set GLB.AVAIL_FREADY 255)) := by decide
theorem wit_RillEngineCommands_1 : (fun (g : EngId) (e : Fin 32768) (s : State) => (s.barred .RIL (g.val / 32) = none)) (5) (7) ((State.reset.set GLB.AVAIL_FREADY 255)) := by decide
theorem wit_RillEngineCommands_2 : (fun (g : EngId) (s : State) => ((s.eng g).resetting = true) ∧ (s.rilQuiet g = true)) (5) ({ ((State.reset.set GLB.AVAIL_FREADY 255).rset RIL.ESTAT_STATE 1 5) with engs := [(5, { m := [(0, 1)], resetting := true })] }) := by decide
theorem wit_RillEngineCommands_3 : (fun (g : EngId) (s : State) => ((s.eng g).resetting = true) ∧ (s.rilQuiet g = false)) (5) ({ ((State.reset.set GLB.AVAIL_FREADY 255).rset RIL.ESTAT_STATE 1 5) with engs := [(5, { m := [(0, 1)], resetting := true, outs := [⟨0, 0, 0, 4, 0, 0, 0, 0⟩] })] }) := by decide
theorem wit_RillEngineCommands_4 : (fun (k : ClusterId) (v : Word) (s : State) => (s.barred .RIL (k.val / 4) = none)) (5) (1#32) ((State.reset.set GLB.AVAIL_FREADY 255)) := by decide
theorem wit_RillEngineCommands_5 : (fun (k : ClusterId) (p : PatchLd) (s : State) => (Store.find k.val s.loaders = some p)) (5) (⟨40, 0, 1, 4, 0⟩) ({ State.reset with loaders := [(5, ⟨40, 0, 1, 4, 0⟩)] }) := by decide
theorem wit_RillEngineCommands_6 : (fun (g : EngId) (t : State) (s : State) => (s.rget RIL.ESTAT_STATE g = 1) ∧ (s.rget RIL.WDRL_WDEN g = 1) ∧ (t = s.rilCycles g (1024 * s.rget RIL.WDCNT g - (s.eng g).wdSub)) ∧ (t.rget RIL.ESTAT_STATE g = 1) ∧ (t.rget RIL.WDRL_WDEN g = 1) ∧ (t.rget RIL.WDCNT g = 0) ∧ ((t.eng g).halt = none)) (5) (((rilAt 0).rset RIL.WDRL_WDEN 1 5).rilCycles 5 0) (((rilAt 0).rset RIL.WDRL_WDEN 1 5)) := ⟨by decide, by decide, rfl, by decide, by decide, by decide, by decide⟩
theorem wit_RillEngineCommands_7 : (fun (g : EngId) (t : State) (s : State) => (s.rget RIL.ESTAT_STATE g = 1) ∧ (s.rget RIL.WDRL_WDEN g = 1) ∧ (t = s.rilCycles g (1024 * s.rget RIL.WDCNT g - (s.eng g).wdSub)) ∧ (t.rget RIL.ESTAT_STATE g = 1) ∧ (t.rget RIL.WDRL_WDEN g = 1) ∧ (t.rget RIL.WDCNT g = 0) ∧ ((t.eng g).halt.isSome = true)) (5) (((rilAt 0 { halt := some (0, 0) }).rset RIL.WDRL_WDEN 1 5).rilCycles 5 0) (((rilAt 0 { halt := some (0, 0) }).rset RIL.WDRL_WDEN 1 5)) := ⟨by decide, by decide, rfl, by decide, by decide, by decide, by decide⟩
theorem wit_RillEngineCommands_8 : (fun (g : EngId) (s : State) => (s.rget RIL.ESTAT_STATE g ≠ 1)) (5) (State.reset) := by decide
theorem wit_RillEngineCommands_9 : (fun (k : ClusterId) (s : State) => (s.flag PWR.POL_CGATE = true) ∧ (s.clusterIdle k = true) ∧ (Store.find k.val s.loaders = none) ∧ (s.flag RIL.CSTAT_CLKOFF k = false)) (5) (State.reset.set PWR.POL_CGATE 1) := by decide
theorem wit_RillEngineCommands_11 : (fun (g : EngId) (s : State) => ((s.wakeCluster (g / 8)).rget RIL.ESTAT_STATE g = 1)) (5) ({ ((State.reset.set GLB.AVAIL_FREADY 255).rset RIL.ESTAT_STATE 1 5) with engs := [(5, { m := [(0, 1)] })] }) := by decide
theorem wit_RillEngineCommands_12 : (fun (g : EngId) (s : State) => ((s.eng g).blks = [])) (5) (State.reset) := by decide
theorem wit_RillEngineCommands_13 : (fun (g : EngId) (b : RilBlk) (t : List RilBlk) (s : State) => ((s.eng g).blks = b :: t) ∧ ((s.doBlock g b).2 = .ok)) (5) (⟨false, 0, 0, 0x4000000000⟩) ([]) ({ ((State.reset.set GLB.AVAIL_FREADY 255).rset RIL.ESTAT_STATE 1 5) with engs := [(5, { m := [(0, 1)], blks := [⟨false, 0, 0, 0x4000000000⟩] })] }) := by decide
theorem wit_RillEngineCommands_14 : (fun (g : EngId) (k : Fin 64) (gu : Guest) (s : State) => (s.time.tclk = true)) (5) (0) ({}) (State.reset) := by decide
theorem wit_RillInstructionRows_28 : (fun (g : EngId) (held : Nat) (op : Nat) (i : Instr) (s : State) => (rilRowOf i = some (g, held, op)) ∧ (s.rget RIL.ESTAT_STATE g ≠ 1 ∨ s.rilBlocked g = true)) (5) (0) (0) (.rillNop 5 0) (State.reset) := by decide
theorem wit_RillInstructionRows_29 : (fun (g : EngId) (held : Nat) (op : Nat) (w : Nat) (p : State) (i : Instr) (s : State) => (rilRowOf i = some (g, held, op)) ∧ (s.rget RIL.ESTAT_STATE g = 1) ∧ (s.rilBlocked g = false) ∧ (s.rget RIL.EPC g < 0x4100) ∧ (w = s.fetch g (s.rget RIL.EPC g)) ∧ (rilOp w = op) ∧ (rilLegal w (s.rget RIL.EPC g) = false) ∧ (p = s.rilPaused g held) ∧ (p.rget RIL.ESTAT_STATE g = 1) ∧ (p.rilBlocked g = false) ∧ (p.rget RIL.EPC g = s.rget RIL.EPC g) ∧ (p.fetch g (p.rget RIL.EPC g) = w)) (5) (0) (35) (158329674399743) ((rilAt 158329674399743).rilPaused 5 0) (.br 5 0) (rilAt 158329674399743) := ⟨by decide, by decide, by decide, by decide, by decide, by decide, by decide, rfl, by decide, by decide, by decide, by decide⟩
theorem wit_RillInstructionRows_30 : (fun (g : EngId) (held : Nat) (op : Nat) (p : State) (i : Instr) (s : State) => (rilRowOf i = some (g, held, op)) ∧ (s.rget RIL.ESTAT_STATE g = 1) ∧ (s.rilBlocked g = false) ∧ (0x4100 ≤ s.rget RIL.EPC g) ∧ (p = s.rilPaused g held) ∧ (p.rget RIL.ESTAT_STATE g = 1) ∧ (p.rilBlocked g = false) ∧ (p.rget RIL.EPC g = s.rget RIL.EPC g)) (5) (0) (0) (((rilAt 0).rset RIL.EPC 0x4100 5).rilPaused 5 0) (.rillNop 5 0) (((rilAt 0).rset RIL.EPC 0x4100 5)) := ⟨by decide, by decide, by decide, by decide, rfl, by decide, by decide, by decide⟩
theorem wit_RillComputeResults_0 : (fun (g : EngId) (held : Nat) (pc : Nat) (w : Nat) (p : State) (q : State) (s : State) => (s.rilPlain g pc w = true) ∧ (p = s.rilPaused g held) ∧ (p.rilPlain g pc w = true) ∧ (q = p.rilTaken g w pc) ∧ (rilOp w = 0) ∧ (rilNoMoves w = true)) (5) (0) (0) (0) ((rilAt 0).rilPaused 5 0) (((rilAt 0).rilPaused 5 0).rilTaken 5 0 0) (rilAt 0) := ⟨by decide, rfl, by decide, rfl, by decide, by decide⟩
theorem wit_RillComputeResults_1 : (fun (g : EngId) (held : Nat) (pc : Nat) (w : Nat) (p : State) (q : State) (s : State) => (s.rilPlain g pc w = true) ∧ (p = s.rilPaused g held) ∧ (p.rilPlain g pc w = true) ∧ (q = p.rilTaken g w pc) ∧ (rilOp w = 1) ∧ (rilNoMoves w = true)) (5) (0) (0) (4398046511104) ((rilAt 4398046511104).rilPaused 5 0) (((rilAt 4398046511104).rilPaused 5 0).rilTaken 5 4398046511104 0) (rilAt 4398046511104) := ⟨by decide, rfl, by decide, rfl, by decide, by decide⟩
theorem wit_RillComputeResults_2 : (fun (g : EngId) (held : Nat) (pc : Nat) (w : Nat) (p : State) (q : State) (s : State) => (s.rilPlain g pc w = true) ∧ (p = s.rilPaused g held) ∧ (p.rilPlain g pc w = true) ∧ (q = p.rilTaken g w pc) ∧ (rilOp w = 2) ∧ (rilNoMoves w = true)) (5) (0) (0) (8796093022208) ((rilAt 8796093022208).rilPaused 5 0) (((rilAt 8796093022208).rilPaused 5 0).rilTaken 5 8796093022208 0) (rilAt 8796093022208) := ⟨by decide, rfl, by decide, rfl, by decide, by decide⟩
theorem wit_RillComputeResults_3 : (fun (g : EngId) (held : Nat) (pc : Nat) (w : Nat) (p : State) (q : State) (s : State) => (s.rilPlain g pc w = true) ∧ (p = s.rilPaused g held) ∧ (p.rilPlain g pc w = true) ∧ (q = p.rilTaken g w pc) ∧ (rilOp w = 3) ∧ (rilNoMoves w = true)) (5) (0) (0) (13194139533312) ((rilAt 13194139533312).rilPaused 5 0) (((rilAt 13194139533312).rilPaused 5 0).rilTaken 5 13194139533312 0) (rilAt 13194139533312) := ⟨by decide, rfl, by decide, rfl, by decide, by decide⟩
theorem wit_RillComputeResults_4 : (fun (g : EngId) (held : Nat) (pc : Nat) (w : Nat) (p : State) (q : State) (s : State) => (s.rilPlain g pc w = true) ∧ (p = s.rilPaused g held) ∧ (p.rilPlain g pc w = true) ∧ (q = p.rilTaken g w pc) ∧ (rilOp w = 4) ∧ (rilNoMoves w = true)) (5) (0) (0) (17592186044416) ((rilAt 17592186044416).rilPaused 5 0) (((rilAt 17592186044416).rilPaused 5 0).rilTaken 5 17592186044416 0) (rilAt 17592186044416) := ⟨by decide, rfl, by decide, rfl, by decide, by decide⟩
theorem wit_RillComputeResults_5 : (fun (g : EngId) (held : Nat) (pc : Nat) (w : Nat) (p : State) (q : State) (s : State) => (s.rilPlain g pc w = true) ∧ (p = s.rilPaused g held) ∧ (p.rilPlain g pc w = true) ∧ (q = p.rilTaken g w pc) ∧ (rilOp w = 5) ∧ (rilNoMoves w = true)) (5) (0) (0) (21990232555520) ((rilAt 21990232555520).rilPaused 5 0) (((rilAt 21990232555520).rilPaused 5 0).rilTaken 5 21990232555520 0) (rilAt 21990232555520) := ⟨by decide, rfl, by decide, rfl, by decide, by decide⟩
theorem wit_RillComputeResults_6 : (fun (g : EngId) (held : Nat) (pc : Nat) (w : Nat) (p : State) (q : State) (s : State) => (s.rilPlain g pc w = true) ∧ (p = s.rilPaused g held) ∧ (p.rilPlain g pc w = true) ∧ (q = p.rilTaken g w pc) ∧ (rilOp w = 6) ∧ (rilNoMoves w = true)) (5) (0) (0) (26388279066624) ((rilAt 26388279066624).rilPaused 5 0) (((rilAt 26388279066624).rilPaused 5 0).rilTaken 5 26388279066624 0) (rilAt 26388279066624) := ⟨by decide, rfl, by decide, rfl, by decide, by decide⟩
theorem wit_RillComputeResults_7 : (fun (g : EngId) (held : Nat) (pc : Nat) (w : Nat) (p : State) (q : State) (s : State) => (s.rilPlain g pc w = true) ∧ (p = s.rilPaused g held) ∧ (p.rilPlain g pc w = true) ∧ (q = p.rilTaken g w pc) ∧ (rilOp w = 7) ∧ (rilNoMoves w = true)) (5) (0) (0) (30786325577728) ((rilAt 30786325577728).rilPaused 5 0) (((rilAt 30786325577728).rilPaused 5 0).rilTaken 5 30786325577728 0) (rilAt 30786325577728) := ⟨by decide, rfl, by decide, rfl, by decide, by decide⟩
theorem wit_RillComputeResults_8 : (fun (g : EngId) (held : Nat) (pc : Nat) (w : Nat) (p : State) (q : State) (s : State) => (s.rilPlain g pc w = true) ∧ (p = s.rilPaused g held) ∧ (p.rilPlain g pc w = true) ∧ (q = p.rilTaken g w pc) ∧ (rilOp w = 8) ∧ (rilNoMoves w = true)) (5) (0) (0) (35493609734144) ((rilAt 35493609734144).rilPaused 5 0) (((rilAt 35493609734144).rilPaused 5 0).rilTaken 5 35493609734144 0) (rilAt 35493609734144) := ⟨by decide, rfl, by decide, rfl, by decide, by decide⟩
theorem wit_RillComputeResults_9 : (fun (g : EngId) (held : Nat) (pc : Nat) (w : Nat) (p : State) (q : State) (s : State) => (s.rilPlain g pc w = true) ∧ (p = s.rilPaused g held) ∧ (p.rilPlain g pc w = true) ∧ (q = p.rilTaken g w pc) ∧ (rilOp w = 9) ∧ (rilNoMoves w = true)) (5) (0) (0) (39582418599936) ((rilAt 39582418599936).rilPaused 5 0) (((rilAt 39582418599936).rilPaused 5 0).rilTaken 5 39582418599936 0) (rilAt 39582418599936) := ⟨by decide, rfl, by decide, rfl, by decide, by decide⟩
theorem wit_RillComputeResults_10 : (fun (g : EngId) (held : Nat) (pc : Nat) (w : Nat) (p : State) (q : State) (s : State) => (s.rilPlain g pc w = true) ∧ (p = s.rilPaused g held) ∧ (p.rilPlain g pc w = true) ∧ (q = p.rilTaken g w pc) ∧ (rilOp w = 10) ∧ (rilNoMoves w = true)) (5) (0) (0) (43980465111040) ((rilAt 43980465111040).rilPaused 5 0) (((rilAt 43980465111040).rilPaused 5 0).rilTaken 5 43980465111040 0) (rilAt 43980465111040) := ⟨by decide, rfl, by decide, rfl, by decide, by decide⟩
theorem wit_RillComputeResults_11 : (fun (g : EngId) (held : Nat) (pc : Nat) (w : Nat) (i : Instr) (p : State) (q : State) (s : State) => (rilRowOf i = some (g, held, rilOp w)) ∧ (rilOp w ≤ 0x0A) ∧ (s.rilPlain g pc w = true) ∧ (p = s.rilPaused g held) ∧ (p.rilPlain g pc w = true) ∧ (q = p.rilTaken g w pc) ∧ ((q.rilDoCompute g w).2.1 = none)) (5) (0) (0) (0) (.rillNop 5 0) ((rilAt 0).rilPaused 5 0) (((rilAt 0).rilPaused 5 0).rilTaken 5 0 0) (rilAt 0) := ⟨by decide, by decide, by decide, rfl, by decide, rfl, by decide⟩
theorem wit_RillComputeResults_12 : (fun (g : EngId) (held : Nat) (pc : Nat) (w : Nat) (i : Instr) (p : State) (q : State) (f : Nat × Nat) (s : State) => (rilRowOf i = some (g, held, rilOp w)) ∧ (rilOp w ≤ 0x0A) ∧ (s.rilPlain g pc w = true) ∧ (p = s.rilPaused g held) ∧ (p.rilPlain g pc w = true) ∧ (q = p.rilTaken g w pc) ∧ ((q.rilDoCompute g w).2.1 = some f)) (5) (0) (0) (1048576) (.rillNop 5 0) ((((rilAt 1048576).writeWord 0 none (xyAddr 5 0 0 / 8) [some 1] true).1).rilPaused 5 0) (((((rilAt 1048576).writeWord 0 none (xyAddr 5 0 0 / 8) [some 1] true).1).rilPaused 5 0).rilTaken 5 1048576 0) ((3, xyAddr 5 0 0)) ((((rilAt 1048576).writeWord 0 none (xyAddr 5 0 0 / 8) [some 1] true).1)) := ⟨by decide, by decide, by decide, rfl, by decide, rfl, by decide⟩
theorem wit_RillControlResults_0 : (fun (g : EngId) (held : Nat) (pc : Nat) (w : Nat) (p : State) (q : State) (s : State) => (s.rilPlain g pc w = true) ∧ (p = s.rilPaused g held) ∧ (p.rilPlain g pc w = true) ∧ (q = p.rilTaken g w pc) ∧ (rilOp w = 32)) (5) (0) (0) (141562122076237) ((rilAt 141562122076237).rilPaused 5 0) (((rilAt 141562122076237).rilPaused 5 0).rilTaken 5 141562122076237 0) (rilAt 141562122076237) := ⟨by decide, rfl, by decide, rfl, by decide⟩
theorem wit_RillControlResults_1 : (fun (g : EngId) (held : Nat) (pc : Nat) (w : Nat) (p : State) (q : State) (s : State) => (s.rilPlain g pc w = true) ∧ (p = s.rilPaused g held) ∧ (p.rilPlain g pc w = true) ∧ (q = p.rilTaken g w pc) ∧ (rilOp w = 33)) (5) (0) (0) (145650930941952) ((rilAt 145650930941952).rilPaused 5 0) (((rilAt 145650930941952).rilPaused 5 0).rilTaken 5 145650930941952 0) (rilAt 145650930941952) := ⟨by decide, rfl, by decide, rfl, by decide⟩
theorem wit_RillControlResults_2 : (fun (g : EngId) (held : Nat) (pc : Nat) (w : Nat) (p : State) (q : State) (s : State) => (s.rilPlain g pc w = true) ∧ (p = s.rilPaused g held) ∧ (p.rilPlain g pc w = true) ∧ (q = p.rilTaken g w pc) ∧ (rilOp w = 34)) (5) (0) (0) (149533581377569) ((rilAt 149533581377569).rilPaused 5 0) (((rilAt 149533581377569).rilPaused 5 0).rilTaken 5 149533581377569 0) (rilAt 149533581377569) := ⟨by decide, rfl, by decide, rfl, by decide⟩
theorem wit_RillControlResults_3 : (fun (g : EngId) (held : Nat) (pc : Nat) (w : Nat) (p : State) (q : State) (s : State) => (s.rilPlain g pc w = true) ∧ (p = s.rilPaused g held) ∧ (p.rilPlain g pc w = true) ∧ (q = p.rilTaken g w pc) ∧ (rilOp w = 35) ∧ (q.rilCond g w = true)) (5) (0) (0) (153931627888649) ((rilAt 153931627888649).rilPaused 5 0) (((rilAt 153931627888649).rilPaused 5 0).rilTaken 5 153931627888649 0) (rilAt 153931627888649) := ⟨by decide, rfl, by decide, rfl, by decide, by decide⟩
theorem wit_RillControlResults_4 : (fun (g : EngId) (held : Nat) (pc : Nat) (w : Nat) (p : State) (q : State) (s : State) => (s.rilPlain g pc w = true) ∧ (p = s.rilPaused g held) ∧ (p.rilPlain g pc w = true) ∧ (q = p.rilTaken g w pc) ∧ (rilOp w = 35) ∧ (q.rilCond g w = false)) (5) (0) (0) (155306017423369) ((rilAt 155306017423369).rilPaused 5 0) (((rilAt 155306017423369).rilPaused 5 0).rilTaken 5 155306017423369 0) (rilAt 155306017423369) := ⟨by decide, rfl, by decide, rfl, by decide, by decide⟩
theorem wit_RillControlResults_5 : (fun (g : EngId) (held : Nat) (pc : Nat) (w : Nat) (p : State) (q : State) (s : State) => (s.rilPlain g pc w = true) ∧ (p = s.rilPaused g held) ∧ (p.rilPlain g pc w = true) ∧ (q = p.rilTaken g w pc) ∧ (rilOp w = 36)) (5) (0) (0) (158329674399753) ((rilAt 158329674399753).rilPaused 5 0) (((rilAt 158329674399753).rilPaused 5 0).rilTaken 5 158329674399753 0) (rilAt 158329674399753) := ⟨by decide, rfl, by decide, rfl, by decide⟩
theorem wit_RillControlResults_6 : (fun (g : EngId) (held : Nat) (pc : Nat) (w : Nat) (p : State) (q : State) (s : State) => (s.rilPlain g pc w = true) ∧ (p = s.rilPaused g held) ∧ (p.rilPlain g pc w = true) ∧ (q = p.rilTaken g w pc) ∧ (rilOp w = 37)) (5) (0) (0) (163552354631680) ((rilAt 163552354631680).rilPaused 5 0) (((rilAt 163552354631680).rilPaused 5 0).rilTaken 5 163552354631680 0) (rilAt 163552354631680) := ⟨by decide, rfl, by decide, rfl, by decide⟩
theorem wit_RillControlResults_7 : (fun (g : EngId) (held : Nat) (pc : Nat) (w : Nat) (n : Nat) (p : State) (q : State) (s : State) => (s.rilPlain g pc w = true) ∧ (p = s.rilPaused g held) ∧ (p.rilPlain g pc w = true) ∧ (q = p.rilTaken g w pc) ∧ (rilOp w = 38) ∧ (n = (if bitOf w 40 then (q.eng g).reg (bitsOf w 36 4) % 2 ^ 16 else bitsOf w 16 16)) ∧ (n ≠ 0)) (5) (0) (0) (167125767749635) (5) ((rilAt 167125767749635).rilPaused 5 0) (((rilAt 167125767749635).rilPaused 5 0).rilTaken 5 167125767749635 0) (rilAt 167125767749635) := ⟨by decide, rfl, by decide, rfl, by decide, by decide, by decide⟩
theorem wit_RillControlResults_8 : (fun (g : EngId) (held : Nat) (pc : Nat) (w : Nat) (n : Nat) (p : State) (q : State) (s : State) => (s.rilPlain g pc w = true) ∧ (p = s.rilPaused g held) ∧ (p.rilPlain g pc w = true) ∧ (q = p.rilTaken g w pc) ∧ (rilOp w = 38) ∧ (n = (if bitOf w 40 then (q.eng g).reg (bitsOf w 36 4) % 2 ^ 16 else bitsOf w 16 16)) ∧ (n = 0) ∧ (bitsOf w 0 15 + 1 ≠ p.rilNext g pc)) (5) (0) (0) (167125767421955) (0) ((rilAt 167125767421955).rilPaused 5 0) (((rilAt 167125767421955).rilPaused 5 0).rilTaken 5 167125767421955 0) (rilAt 167125767421955) := ⟨by decide, rfl, by decide, rfl, by decide, by decide, by decide, by decide⟩
theorem wit_RillControlResults_9 : (fun (g : EngId) (held : Nat) (pc : Nat) (w : Nat) (p : State) (q : State) (s : State) => (s.rilPlain g pc w = true) ∧ (p = s.rilPaused g held) ∧ (p.rilPlain g pc w = true) ∧ (q = p.rilTaken g w pc) ∧ (rilOp w = 39)) (5) (0) (0) (171523813933056) ((rilAt 171523813933056).rilPaused 5 0) (((rilAt 171523813933056).rilPaused 5 0).rilTaken 5 171523813933056 0) (rilAt 171523813933056) := ⟨by decide, rfl, by decide, rfl, by decide⟩
theorem wit_RillControlResults_10 : (fun (g : EngId) (held : Nat) (pc : Nat) (w : Nat) (p : State) (q : State) (s : State) => (s.rilPlain g pc w = true) ∧ (p = s.rilPaused g held) ∧ (p.rilPlain g pc w = true) ∧ (q = p.rilTaken g w pc) ∧ (rilOp w = 40)) (5) (0) (0) (175921860444160) ((rilAt 175921860444160).rilPaused 5 0) (((rilAt 175921860444160).rilPaused 5 0).rilTaken 5 175921860444160 0) (rilAt 175921860444160) := ⟨by decide, rfl, by decide, rfl, by decide⟩
theorem wit_RillMemoryIssue_0 : (fun (g : EngId) (held : Nat) (pc : Nat) (w : Nat) (p : State) (q : State) (s : State) => (s.rilPlain g pc w = true) ∧ (p = s.rilPaused g held) ∧ (p.rilPlain g pc w = true) ∧ (q = p.rilTaken g w pc) ∧ (rilOp w = 41)) (5) (0) (0) (181145614417920) ((rilAt 181145614417920 { m := [(0, 1)], d := [(1, 0x40)] }).rilPaused 5 0) (((rilAt 181145614417920 { m := [(0, 1)], d := [(1, 0x40)] }).rilPaused 5 0).rilTaken 5 181145614417920 0) (rilAt 181145614417920 { m := [(0, 1)], d := [(1, 0x40)] }) := ⟨by decide, rfl, by decide, rfl, by decide⟩
theorem wit_RillMemoryIssue_1 : (fun (g : EngId) (held : Nat) (pc : Nat) (w : Nat) (p : State) (q : State) (s : State) => (s.rilPlain g pc w = true) ∧ (p = s.rilPaused g held) ∧ (p.rilPlain g pc w = true) ∧ (q = p.rilTaken g w pc) ∧ (rilOp w = 42)) (5) (0) (0) (185543660929024) ((rilAt 185543660929024 { m := [(0, 1)], d := [(1, 0x40)] }).rilPaused 5 0) (((rilAt 185543660929024 { m := [(0, 1)], d := [(1, 0x40)] }).rilPaused 5 0).rilTaken 5 185543660929024 0) (rilAt 185543660929024 { m := [(0, 1)], d := [(1, 0x40)] }) := ⟨by decide, rfl, by decide, rfl, by decide⟩
theorem wit_RillMemoryIssue_2 : (fun (g : EngId) (held : Nat) (pc : Nat) (w : Nat) (p : State) (q : State) (s : State) => (s.rilPlain g pc w = true) ∧ (p = s.rilPaused g held) ∧ (p.rilPlain g pc w = true) ∧ (q = p.rilTaken g w pc) ∧ (rilOp w = 43) ∧ ((q.rilAccess g w).stream = 4)) (5) (0) (0) (189940633698304) ((rilAt 189940633698304 { m := [(0, 1)], d := [(1, 0x40)] }).rilPaused 5 0) (((rilAt 189940633698304 { m := [(0, 1)], d := [(1, 0x40)] }).rilPaused 5 0).rilTaken 5 189940633698304 0) (rilAt 189940633698304 { m := [(0, 1)], d := [(1, 0x40)] }) := ⟨by decide, rfl, by decide, rfl, by decide, by decide⟩
theorem wit_RillMemoryIssue_3 : (fun (g : EngId) (held : Nat) (pc : Nat) (w : Nat) (p : State) (q : State) (s : State) => (s.rilPlain g pc w = true) ∧ (p = s.rilPaused g held) ∧ (p.rilPlain g pc w = true) ∧ (q = p.rilTaken g w pc) ∧ (rilOp w = 43) ∧ ((q.rilAccess g w).stream ≠ 4)) (5) (0) (0) (189940633698304) ((rilAt 189940633698304 { m := [(0, 1)], d := [(1, 0x78)] }).rilPaused 5 0) (((rilAt 189940633698304 { m := [(0, 1)], d := [(1, 0x78)] }).rilPaused 5 0).rilTaken 5 189940633698304 0) (rilAt 189940633698304 { m := [(0, 1)], d := [(1, 0x78)] }) := ⟨by decide, rfl, by decide, rfl, by decide, by decide⟩
theorem wit_RillMemoryIssue_4 : (fun (g : EngId) (held : Nat) (pc : Nat) (w : Nat) (p : State) (q : State) (s : State) => (s.rilPlain g pc w = true) ∧ (p = s.rilPaused g held) ∧ (p.rilPlain g pc w = true) ∧ (q = p.rilTaken g w pc) ∧ (rilOp w = 44) ∧ ((q.rilAccess g w).stream = 4)) (5) (0) (0) (194338680209408) ((rilAt 194338680209408 { m := [(0, 1)], d := [(1, 0x40)] }).rilPaused 5 0) (((rilAt 194338680209408 { m := [(0, 1)], d := [(1, 0x40)] }).rilPaused 5 0).rilTaken 5 194338680209408 0) (rilAt 194338680209408 { m := [(0, 1)], d := [(1, 0x40)] }) := ⟨by decide, rfl, by decide, rfl, by decide, by decide⟩
theorem wit_RillMemoryIssue_5 : (fun (g : EngId) (held : Nat) (pc : Nat) (w : Nat) (p : State) (q : State) (s : State) => (s.rilPlain g pc w = true) ∧ (p = s.rilPaused g held) ∧ (p.rilPlain g pc w = true) ∧ (q = p.rilTaken g w pc) ∧ (rilOp w = 44) ∧ ((q.rilAccess g w).stream ≠ 4)) (5) (0) (0) (194338680209408) ((rilAt 194338680209408 { m := [(0, 1)], d := [(1, 0x78)] }).rilPaused 5 0) (((rilAt 194338680209408 { m := [(0, 1)], d := [(1, 0x78)] }).rilPaused 5 0).rilTaken 5 194338680209408 0) (rilAt 194338680209408 { m := [(0, 1)], d := [(1, 0x78)] }) := ⟨by decide, rfl, by decide, rfl, by decide, by decide⟩
theorem wit_RillMemoryIssue_6 : (fun (g : EngId) (held : Nat) (pc : Nat) (w : Nat) (p : State) (q : State) (s : State) => (s.rilPlain g pc w = true) ∧ (p = s.rilPaused g held) ∧ (p.rilPlain g pc w = true) ∧ (q = p.rilTaken g w pc) ∧ (rilOp w = 45)) (5) (0) (0) (198736726720512) ((rilAt 198736726720512 { m := [(0, 1)], d := [(1, 0x40)] }).rilPaused 5 0) (((rilAt 198736726720512 { m := [(0, 1)], d := [(1, 0x40)] }).rilPaused 5 0).rilTaken 5 198736726720512 0) (rilAt 198736726720512 { m := [(0, 1)], d := [(1, 0x40)] }) := ⟨by decide, rfl, by decide, rfl, by decide⟩
theorem wit_RillMemoryIssue_7 : (fun (g : EngId) (held : Nat) (pc : Nat) (w : Nat) (p : State) (q : State) (s : State) => (s.rilPlain g pc w = true) ∧ (p = s.rilPaused g held) ∧ (p.rilPlain g pc w = true) ∧ (q = p.rilTaken g w pc) ∧ (rilOp w = 47)) (5) (0) (0) (206712480989184) ((rilAt 206712480989184 { m := [(0, 1)], d := [(1, 0x40)] }).rilPaused 5 0) (((rilAt 206712480989184 { m := [(0, 1)], d := [(1, 0x40)] }).rilPaused 5 0).rilTaken 5 206712480989184 0) (rilAt 206712480989184 { m := [(0, 1)], d := [(1, 0x40)] }) := ⟨by decide, rfl, by decide, rfl, by decide⟩
theorem wit_RillMemoryIssue_8 : (fun (g : EngId) (held : Nat) (pc : Nat) (w : Nat) (p : State) (q : State) (s : State) => (s.rilPlain g pc w = true) ∧ (p = s.rilPaused g held) ∧ (p.rilPlain g pc w = true) ∧ (q = p.rilTaken g w pc) ∧ (rilOp w = 48)) (5) (0) (0) (211106232532992) ((rilAt 211106232532992 { m := [(0, 1)], d := [(1, 0x40)] }).rilPaused 5 0) (((rilAt 211106232532992 { m := [(0, 1)], d := [(1, 0x40)] }).rilPaused 5 0).rilTaken 5 211106232532992 0) (rilAt 211106232532992 { m := [(0, 1)], d := [(1, 0x40)] }) := ⟨by decide, rfl, by decide, rfl, by decide⟩
theorem wit_RillMemoryIssue_9 : (fun (g : EngId) (held : Nat) (pc : Nat) (w : Nat) (p : State) (q : State) (s : State) => (s.rilPlain g pc w = true) ∧ (p = s.rilPaused g held) ∧ (p.rilPlain g pc w = true) ∧ (q = p.rilTaken g w pc) ∧ (rilOp w = 46) ∧ (ownRsv g (rilAddr w (q.eng g) / 64 * 64) = true) ∧ (bitOf w 33 = false) ∧ (bitOf w 30 = false)) (5) (0) (0) (204509162766336) ((rilAt 204509162766336 { m := [(0, 1)], d := [(1, 0x40)] }).rilPaused 5 0) (((rilAt 204509162766336 { m := [(0, 1)], d := [(1, 0x40)] }).rilPaused 5 0).rilTaken 5 204509162766336 0) (rilAt 204509162766336 { m := [(0, 1)], d := [(1, 0x40)] }) := ⟨by decide, rfl, by decide, rfl, by decide, by decide, by decide, by decide⟩
theorem wit_RillMemoryIssue_10 : (fun (g : EngId) (held : Nat) (pc : Nat) (w : Nat) (p : State) (q : State) (s : State) => (s.rilPlain g pc w = true) ∧ (p = s.rilPaused g held) ∧ (p.rilPlain g pc w = true) ∧ (q = p.rilTaken g w pc) ∧ (rilOp w = 46) ∧ (ownRsv g (rilAddr w (q.eng g) / 64 * 64) = true)) (5) (0) (0) (204509162766336) ((rilAt 204509162766336 { m := [(0, 1)], d := [(1, 0x40)] }).rilPaused 5 0) (((rilAt 204509162766336 { m := [(0, 1)], d := [(1, 0x40)] }).rilPaused 5 0).rilTaken 5 204509162766336 0) (rilAt 204509162766336 { m := [(0, 1)], d := [(1, 0x40)] }) := ⟨by decide, rfl, by decide, rfl, by decide, by decide⟩
theorem wit_RillMemoryIssue_11 : (fun (g : EngId) (held : Nat) (pc : Nat) (w : Nat) (p : State) (q : State) (s : State) => (s.rilPlain g pc w = true) ∧ (p = s.rilPaused g held) ∧ (p.rilPlain g pc w = true) ∧ (q = p.rilTaken g w pc) ∧ (rilOp w = 46) ∧ (ownRsv g (rilAddr w (q.eng g) / 64 * 64) = false)) (5) (0) (0) (204509162766336) ((rilAt 204509162766336 { m := [(0, 1)], d := [(1, 0x78)] }).rilPaused 5 0) (((rilAt 204509162766336 { m := [(0, 1)], d := [(1, 0x78)] }).rilPaused 5 0).rilTaken 5 204509162766336 0) (rilAt 204509162766336 { m := [(0, 1)], d := [(1, 0x78)] }) := ⟨by decide, rfl, by decide, rfl, by decide, by decide⟩
theorem wit_TimeCommands_0 : (fun (s : State) => (s.time.tclk = true)) (State.reset) := by decide
theorem wit_TimeCommands_1 : (fun (s : State) => (s.time.tclk = false)) ({ State.reset with time := { tclk := false } }) := by decide
theorem wit_TimeCommands_2 : (fun (mc : Bool) (s : State) => (s.barred .DTC 0 = none)) (true) (State.reset) := by decide
theorem wit_TimeCommands_3 : (fun (s : State) => (s.barred .DTC 0 = none) ∧ (s.flag DTC.CMD_PEND = false)) (State.reset) := by decide
theorem wit_TimeCommands_4 : (fun (s : State) => (s.barred .DTC 0 = none) ∧ (s.flag DTC.CMD_PEND = false)) (State.reset) := by decide
theorem wit_TimeCommands_5 : (fun (s : State) => (s.barred .DTC 0 = none) ∧ (s.flag DTC.CMD_PEND = true)) (State.reset.set DTC.CMD_PEND 1) := by decide
theorem wit_TimeCommands_6 : (fun (c : DtcCmd) (s : State) => (s.time.pend = some c) ∧ (s.time.tclk = true)) (.set 5) ({ State.reset with time := { pend := some (.set 5) } }) := by decide
theorem wit_TimeCommands_7 : (fun (s : State) => (s.time.tclk = false)) ({ State.reset with time := { tclk := false } }) := by decide
theorem wit_TimeCommands_8 : (fun (v : Word) (s : State) => (s.barred .DTC 0 = none) ∧ (s.get DTC.CTRL_MODE = 0)) (4#32) (State.reset) := by decide
theorem wit_TimeCommands_9 : (fun (v : Word) (s : State) => (s.barred .DTC 0 = none) ∧ (s.get DTC.CTRL_MODE ≠ 0)) (4#32) (State.reset.set DTC.CTRL_MODE 1) := by decide
theorem wit_SlaveTimeCommands_0 : (fun (n : FieldId) (flight : Nat) (t : State) (s : State) => (s.present n = true) ∧ (s.bit GLB.AVAIL_FFENCED n = false) ∧ (s.time.tclk = true) ∧ (s.fieldTimed n = true) ∧ ((s.slave n).loaded = false) ∧ (t = s.setSlave n { s.slave n with t := wrapTime ((s.time.dtc : Int) + (signedOf (s.get FTS.LDLY n) 32 - flight) * 2 ^ 24), loaded := true, good := 0, slewN := 0, cal := some none }) ∧ (t.siteLive n = true)) (0) (7) (((State.reset.set FCC.STAT_PHASE 4).set FLH.RC_STATUS 5).setSlave 0 { ((State.reset.set FCC.STAT_PHASE 4).set FLH.RC_STATUS 5).slave 0 with t := wrapTime ((((State.reset.set FCC.STAT_PHASE 4).set FLH.RC_STATUS 5).time.dtc : Int) + (signedOf (((State.reset.set FCC.STAT_PHASE 4).set FLH.RC_STATUS 5).get FTS.LDLY 0) 32 - 7) * 2 ^ 24), loaded := true, good := 0, slewN := 0, cal := some none }) (((State.reset.set FCC.STAT_PHASE 4).set FLH.RC_STATUS 5)) := ⟨by decide, by decide, by decide, by decide, by decide, rfl, by decide⟩
theorem wit_SlaveTimeCommands_1 : (fun (n : FieldId) (flight : Nat) (t : State) (s : State) => ((s.beacon n flight).bit GLB.AVAIL_FFENCED n = false) ∧ ((s.beacon n flight).present n = true) ∧ (t = (s.beacon n flight).count FLH.SB_SBERR 1 n) ∧ (t.siteLive n = true) ∧ ((t.slave n).missed < 3)) (0) (7) (((State.reset.set FLH.RC_STATUS 5).beacon 0 7).count FLH.SB_SBERR 1 0) ((State.reset.set FLH.RC_STATUS 5)) := ⟨by decide, by decide, rfl, by decide, by decide⟩
theorem wit_SlaveTimeCommands_2 : (fun (n : FieldId) (flight : Nat) (t : State) (s : State) => ((s.beacon n flight).bit GLB.AVAIL_FFENCED n = false) ∧ ((s.beacon n flight).present n = true) ∧ (t = (s.beacon n flight).count FLH.SB_SBERR 1 n) ∧ (t.siteLive n = true) ∧ (3 ≤ (t.slave n).missed)) (0) (7) ((((State.reset.set FLH.RC_STATUS 5).setSlave 0 { missed := 3 }).beacon 0 7).count FLH.SB_SBERR 1 0) (((State.reset.set FLH.RC_STATUS 5).setSlave 0 { missed := 3 })) := ⟨by decide, by decide, rfl, by decide, by decide⟩
theorem wit_SlaveTimeCommands_3 : (fun (n : FieldId) (flight : Nat) (bad : Bool) (s : State) => (s.bit GLB.AVAIL_FFENCED n = true) ∧ (s.siteLive n = false)) (0) (7) (false) (State.reset.set GLB.AVAIL_FFENCED 1) := by decide
theorem wit_SlaveTimeCommands_4 : (fun (n : FieldId) (t1 : Nat) (s2 : Nat) (s3 : Nat) (t4 : Nat) (s : State) => (s.present n = true) ∧ (s.bit GLB.AVAIL_FFENCED n = false)) (3) (0) (5) (6) (12) (State.reset) := by decide
theorem wit_SlaveTimeCommands_5 : (fun (n : FieldId) (t1 : Nat) (s2 : Nat) (s3 : Nat) (t4 : Nat) (s : State) => (s.present n = true) ∧ (s.bit GLB.AVAIL_FFENCED n = false) ∧ (s.time.tclk = true)) (0) (1) (2) (3) (4) (State.reset) := by decide
theorem wit_SlaveTimeCommands_6 : (fun (n : FieldId) (t1 : Nat) (s2 : Nat) (s3 : Nat) (t4 : Nat) (s : State) => (s.time.tclk = false)) (0) (1) (2) (3) (4) ({ State.reset with time := { tclk := false } }) := by decide
theorem wit_SlaveTimeCommands_7 : (fun (n : FieldId) (src : Fin 4096) (v : Word) (s : State) => (s.barred .FTS n = none) ∧ (bitOf v.toNat 0 = true) ∧ (s.opBusy (bitsOf v.toNat 16 10) = false) ∧ ((s.slave n).cal = none)) (2) (0x802) (1#32) (State.reset.set GLB.AVAIL_FREADY 255) := by decide
theorem wit_SlaveTimeCommands_8 : (fun (n : FieldId) (src : Fin 4096) (v : Word) (s : State) => (s.barred .FTS n = none) ∧ (bitOf v.toNat 0 = true) ∧ (s.opBusy (bitsOf v.toNat 16 10) = true)) (2) (0x802) (1#32) ((State.reset.set GLB.AVAIL_FREADY 255).setOp 0 { state := 2 }) := by decide
theorem wit_SlaveTimeCommands_9 : (fun (n : FieldId) (temp : Byte) (s : State) => ((s.slave n).cal = some none)) (1) (40#8) (State.reset.setSlave 1 { cal := some none }) := by decide
theorem wit_SlaveTimeCommands_10 : (fun (n : FieldId) (temp : Byte) (e : Nat) (s : State) => ((s.slave n).cal = some (some e))) (1) (40#8) (9) (State.reset.setSlave 1 { cal := some (some 9) }) := by decide
theorem wit_ServoCommands_0 : (fun (h : PtpHdr) (o : Nat) (s : State) => (s.ptpTakes h = true) ∧ (s.used.ptpParent h.source = true) ∧ (s.used.get DTC.CTRL_MODE = 1 ∨ s.used.get DTC.CTRL_MODE = 2)) ({ udp := false, domain := 0, source := 5, log := 0 }) (300) ((State.reset.set DTC.CTRL_MODE 1)) := by decide
theorem wit_ServoCommands_1 : (fun (h : PtpHdr) (s : State) => (s.ptpTakes h = true) ∧ (s.used.ptpParent h.source = true)) ({ udp := false, domain := 0, source := 5, log := 0 }) ((State.reset.set DTC.CTRL_MODE 1)) := by decide
theorem wit_ServoCommands_2 : (fun (h : PtpHdr) (o : Nat) (t : Int) (u : State) (s : State) => (s.ptpTakes h = true) ∧ (s.time.ptpWait = some (h.source, t)) ∧ (s.ptpParent h.source = true) ∧ (u = { s with time := { s.time with ptpWait := none } }) ∧ (u.get DTC.CTRL_MODE = 1 ∨ u.get DTC.CTRL_MODE = 2)) ({ udp := false, domain := 0, source := 5, log := 0 }) (300) (9) ({ ({ (State.reset.set DTC.CTRL_MODE 1) with time := { ptpWait := some (5, 9) } }) with time := { ({ (State.reset.set DTC.CTRL_MODE 1) with time := { ptpWait := some (5, 9) } }).time with ptpWait := none } }) ({ (State.reset.set DTC.CTRL_MODE 1) with time := { ptpWait := some (5, 9) } }) := ⟨by decide, by decide, by decide, rfl, by decide⟩
theorem wit_ServoCommands_3 : (fun (h : PtpHdr) (o : Option Nat) (s : State) => (s.ptpTakes h = false)) ({ udp := true, domain := 0, source := 5, log := 0 }) (none) (State.reset) := by decide
theorem wit_ServoCommands_4 : (fun (h : PtpHdr) (peer : Bool) (mpd : Int) (s : State) => (s.ptpTakes h = true) ∧ (peer = s.flag DTC.PTPCFG_DELAYM) ∧ (peer = true ∨ s.ptpParent h.source = true)) ({ udp := false, domain := 0, source := 5, log := 0 }) (false) (9) ((State.reset.set DTC.CTRL_MODE 1)) := by decide
theorem wit_ServoCommands_5 : (fun (h : PtpHdr) (s : State) => (s.ptpTakes h = true) ∧ (s.flag DTC.PTPCFG_DELAYM = false) ∧ (s.ptpMaster = true)) ({ udp := false, domain := 0, source := 5, log := 0 }) ((State.reset.set DTC.CTRL_MODE 1).set DTC.PTPCFG_MASTEROK 1) := by decide
theorem wit_ServoCommands_6 : (fun (h : PtpHdr) (d : PtpDataset) (utc : Int) (valid : Bool) (t : State) (s : State) => (s.ptpTakes h = true) ∧ (s.time.ptpBest = none) ∧ (t = { s with time := { s.time with ptpBest := some (h.source, d) } }) ∧ (t.ptpParent h.source = true)) ({ udp := false, domain := 0, source := 5, log := 0 }) ({ prio1 := 1, quality := 1, prio2 := 1, identity := 1, steps := 0 }) (37) (true) ({ (State.reset.set DTC.CTRL_MODE 1) with time := { (State.reset.set DTC.CTRL_MODE 1).time with ptpBest := some (5, { prio1 := 1, quality := 1, prio2 := 1, identity := 1, steps := 0 }) } }) ((State.reset.set DTC.CTRL_MODE 1)) := ⟨by decide, by decide, rfl, by decide⟩
theorem wit_ServoCommands_7 : (fun (s : State) => (s.get DTC.SSTAT_STATE = 2)) (State.reset.set DTC.SSTAT_STATE 2) := by decide
theorem wit_ServoCommands_8 : (fun (s : State) => (s.get DTC.SSTAT_STATE ≠ 2)) (State.reset) := by decide
theorem wit_ServoCommands_9 : (fun (s : State) => (s.time.ppsiHeld = false) ∧ (s.get DTC.CTRL_MODE ≠ 3)) (State.reset) := by decide
theorem wit_ServoCommands_10 : (fun (s : State) => (s.time.ppsiHeld = true) ∧ (s.get DTC.CTRL_MODE = 3)) ({ State.reset.set DTC.CTRL_MODE 3 with time := { ppsiHeld := true } }) := by decide
theorem wit_ServoCommands_11 : (fun (s : State) => (s.barred .DTC 0 = none)) (State.reset) := by decide
theorem wit_ServoCommands_13 : (fun (s : State) => (s.flag DTC.CTRL_PPSOEN = true) ∧ (s.get DTC.PPSO_OFS ≤ nsOf s.now)) (State.reset.set DTC.CTRL_PPSOEN 1) := by decide
theorem wit_ServoCommands_14 : (fun (s : State) => (s.flag DTC.CTRL_PPSOEN = false)) (State.reset) := by decide
theorem wit_UpdateCommands_0 : (fun (p : List Byte) (s : State) => (p.length = 10) ∧ (fieldAt p 8 2 ≤ 1023)) (List.replicate 9 1#8 ++ [0#8]) (State.reset) := by decide
theorem wit_UpdateCommands_1 : (fun (p : List Byte) (s : State) => (p.length ≠ 10)) ([]) (State.reset) := by decide
theorem wit_UpdateCommands_2 : (fun (p : List Byte) (s : State) => (9 ≤ p.length) ∧ (p.length ≤ 8192) ∧ (s.get FWU.STAT_STATE = 1) ∧ (fieldAt p 0 8 = s.upd.rx.length) ∧ (s.upd.rx.length + (p.length - 8) ≤ s.upd.total)) (List.replicate 9 0#8) ({ State.reset.set FWU.STAT_STATE 1 with upd := { total := 600 } }) := by decide
theorem wit_UpdateCommands_3 : (fun (ok : Bool) (s : State) => ((bunEntries s.upd.rx)[s.upd.done]? = none)) (true) (State.reset) := by decide
theorem wit_UpdateCommands_4 : (fun (ok : Bool) (e : List Byte) (s : State) => ((bunEntries s.upd.rx)[s.upd.done]? = some e) ∧ (s.get FWU.STAT_STATE = 1) ∧ (s.upd.manOk = true) ∧ (entOffset e + entLength e ≤ s.upd.rx.length) ∧ ((s.upd.done + 1 : Nat) ≠ (bunEntries s.upd.rx).length)) (true) ([]) ({ State.reset.set FWU.STAT_STATE 1 with upd := { manOk := true, rx := [0, 0, 0, 0, 0, 0, 2, 0] } }) := by decide
theorem wit_UpdateCommands_5 : (fun (p : List Byte) (s : State) => (p.length = 2) ∧ (fieldAt p 0 2 ≤ 1023)) ([1, 0]) (State.reset) := by decide
theorem wit_UpdateCommands_6 : (fun (s : State) => (s.barred .FWU 0 = none) ∧ (s.get FWU.STAT_STATE = 1)) ({ State.reset.set FWU.STAT_STATE 1 with upd := {  } }) := by decide
theorem wit_UpdateCommands_7 : (fun (s : State) => (s.barred .FWU 0 = none) ∧ (s.get FWU.STAT_STATE ≠ 1)) (State.reset) := by decide
theorem wit_UpdateCommands_8 : (fun (s : State) => (s.barred .FWU 0 = none)) (State.reset) := by decide
theorem wit_UpdateCommands_9 : (fun (v : Word) (s : State) => (s.barred .FWU 0 = none) ∧ (bitsOf v.toNat 0 16 ≠ 0xC0F1)) (1#32) (State.reset) := by decide
theorem wit_UpdateCommands_10 : (fun (v : Word) (s : State) => (s.barred .FWU 0 = none) ∧ (bitsOf v.toNat 0 16 = 0xC0F1) ∧ (s.get FWU.STAT_STATE = 5) ∧ (s.flag FWU.STAT_MIGFAIL = false)) (0xC0F1#32) ({ State.reset.set FWU.STAT_STATE 5 with upd := {  } }) := by decide
theorem wit_UpdateCommands_11 : (fun (s : State) => (s.get FWU.STAT_STATE = 5) ∧ (s.boot.rolling = true) ∧ (s.windowEnd ≤ s.now)) ({ State.reset.set FWU.STAT_STATE 5 with boot := { rolling := true }, time := { State.reset.time with dtc := 120 * secUnits } }) := by decide
theorem wit_UpdateCommands_12 : (fun (s : State) => (s.get FWU.STAT_STATE ≠ 5)) (State.reset) := by decide
theorem wit_UpdateCommands_13 : (fun (ok : Bool) (t : State) (s : State) => (s.get FWU.STAT_STATE = 5) ∧ (s.upd.migDone = false) ∧ (s.boot.inReset = false) ∧ (s.migrateAll ok s.upd.migs = (t, none))) (true) ({ State.reset.set FWU.STAT_STATE 5 with boot := { inReset := false } }) ({ State.reset.set FWU.STAT_STATE 5 with boot := { inReset := false } }) := by decide
theorem wit_UpdateCommands_14 : (fun (v : Word) (s : State) => (s.barred .HDG 0 = none) ∧ (bitOf v.toNat 0 = true) ∧ (s.get HDG.LCS = 1) ∧ (bitsOf v.toNat 16 16 = 0x4F57) ∧ (s.digest HDG.OKEY ≠ 0)) (0x4F570001#32) ((State.reset.set HDG.LCS 1).set HDG.OKEY 5 2) := by decide
theorem wit_UpdateCommands_15 : (fun (v : Word) (s : State) => (s.barred .HDG 0 = none) ∧ (bitOf v.toNat 0 = true) ∧ (bitsOf v.toNat 16 16 ≠ 0x4F57)) (1#32) (State.reset) := by decide

end Sys2Proof.Tests
end

section
/-! PROOFS. What reset leaves, what every command keeps, the register fields, and the stored bytes and words (spec/00_scope.md). -/
namespace Sys2Proof.Machine

/-! What every command keeps. -/

/-- A command keeps what its meaning keeps: exec has one arm for each command, and each meaning has its Kept lemma. -/
theorem exec_kept {s0 s : State} (h : Kept s0 s) (c : Instr) : KeptR s0 (exec c s) :=
  match c with
  | .registerWrite .. => execRegisterWrite_kept h | .bar4WindowSelect .. => execBar4WindowSelect_kept h
  | .serviceEntry => execServiceEntry_kept h | .recoveryAccessEntry => execRecoveryAccessEntry_kept h
  | .pllEnable .. => execPllEnable_kept h | .pllDisable .. => execPllDisable_kept h | .pllDividerWrite .. => execPllDividerWrite_kept h
  | .pllLock .. => execPllLock_kept h | .pllUnlock .. => execPllUnlock_kept h | .laneEnable .. => execLaneEnable_kept h
  | .laneDisable .. => execLaneDisable_kept h | .calDone .. => execCalDone_kept h | .acqComplete .. => execAcqComplete_kept h
  | .acqTimeout .. => execAcqTimeout_kept h | .lossOfSignal .. => execLossOfSignal_kept h | .adaptLimitHold .. => execAdaptLimitHold_kept h
  | .txfirStage .. => execTxfirStage_kept h | .txfirCommit .. => execTxfirCommit_kept h | .rxeqWrite .. => execRxeqWrite_kept h
  | .trainRequest .. => execTrainRequest_kept h | .rxcal .. => execRxcal_kept h | .fullCal .. => execFullCal_kept h
  | .readapt .. => execReadapt_kept h | .queuedCalStart .. => execQueuedCalStart_kept h | .loopSelect .. => execLoopSelect_kept h
  | .portEnable .. => execPortEnable_kept h | .portDisable .. => execPortDisable_kept h
  | .wrawBlockReceive .. => execWrawBlockReceive_kept h | .autonegResolved .. => execAutonegResolved_kept h
  | .pcieRateChange .. => execPcieRateChange_kept h | .trainingFrameReceive .. => execTrainingFrameReceive_kept h
  | .trainingFrameSend .. => execTrainingFrameSend_kept h | .trainNoFrameTimeout .. => execTrainNoFrameTimeout_kept h
  | .trainTmaxTimeout .. => execTrainTmaxTimeout_kept h | .fabricTrainStrobe .. => execFabricTrainStrobe_kept h
  | .fabricTrainDone .. => execFabricTrainDone_kept h | .fabricTrainFail .. => execFabricTrainFail_kept h
  | .prbsInject .. => execPrbsInject_kept h | .prbsClear .. => execPrbsClear_kept h | .prbsCheck .. => execPrbsCheck_kept h
  | .eyeScanStart .. => execEyeScanStart_kept h | .eyeColumnDone .. => execEyeColumnDone_kept h | .histClear .. => execHistClear_kept h
  | .cfeEnable .. => execCfeEnable_kept h | .cfeCounterClear .. => execCfeCounterClear_kept h | .cfeFrame .. => execCfeFrame_kept h
  | .recordJudge .. => execRecordJudge_kept h | .gapEmit .. => execGapEmit_kept h | .segmentLend .. => execSegmentLend_kept h
  | .segmentClose .. => execSegmentClose_kept h | .segmentDrain => execSegmentDrain_kept h | .segmentReturn .. => execSegmentReturn_kept h
  | .laneShareWrite .. => execLaneShareWrite_kept h | .cisternArm .. => execCisternArm_kept h
  | .cisternDisarm .. => execCisternDisarm_kept h | .swstart .. => execSwstart_kept h | .swstop .. => execSwstop_kept h
  | .floatPulse .. => execFloatPulse_kept h | .softwareFloat .. => execSoftwareFloat_kept h
  | .sequencerEnable .. => execSequencerEnable_kept h | .sequencerDisable .. => execSequencerDisable_kept h
  | .eventTransition => execEventTransition_kept h | .timerTransition => execTimerTransition_kept h
  | .cfeStopAck .. => execCfeStopAck_kept h | .cisternPublish .. => execCisternPublish_kept h
  | .floatStampCapture => execFloatStampCapture_kept h | .furrowOwnSelect .. => execFurrowOwnSelect_kept h
  | .furrowLoad .. => execFurrowLoad_kept h | .furrowLoadDone .. => execFurrowLoadDone_kept h | .furrowArm .. => execFurrowArm_kept h
  | .furrowPrimed .. => execFurrowPrimed_kept h | .furrowGo .. => execFurrowGo_kept h | .furrowStop .. => execFurrowStop_kept h
  | .furrowAbort .. => execFurrowAbort_kept h | .furrowDisarm .. => execFurrowDisarm_kept h | .furrowLaunch .. => execFurrowLaunch_kept h
  | .furrowDone .. => execFurrowDone_kept h | .furrowSourceError .. => execFurrowSourceError_kept h | .furNop .. => execFurNop_kept h
  | .furSend .. => execFurSend_kept h | .furRepeat .. => execFurRepeat_kept h | .waitTime .. => execWaitTime_kept h
  | .waitTimeElapsed .. => execWaitTimeElapsed_kept h | .waitFloat .. => execWaitFloat_kept h
  | .waitFloatTimeout .. => execWaitFloatTimeout_kept h | .jump .. => execJump_kept h | .loop .. => execLoop_kept h
  | .insertCounter .. => execInsertCounter_kept h | .insertTimestamp .. => execInsertTimestamp_kept h
  | .recomputeFcs .. => execRecomputeFcs_kept h | .inject .. => execInject_kept h | .furHalt .. => execFurHalt_kept h
  | .frameStart .. => execFrameStart_kept h | .underrun .. => execUnderrun_kept h | .tclkLost => execTclkLost_kept h
  | .tclkRestored => execTclkRestored_kept h | .dtcSnapshot .. => execDtcSnapshot_kept h | .dtcSet => execDtcSet_kept h
  | .dtcAdj => execDtcAdj_kept h | .dtcApply => execDtcApply_kept h | .dtcIncrCommit .. => execDtcIncrCommit_kept h
  | .beacon .. => execBeacon_kept h | .delay .. => execDelay_kept h | .timeCalRequest .. => execTimeCalRequest_kept h
  | .timeCalDone .. => execTimeCalDone_kept h | .ptpMessage .. => execPtpMessage_kept h | .servoHoldover => execServoHoldover_kept h
  | .ppsInEdge => execPpsInEdge_kept h | .ppsiCaptureStart => execPpsiCaptureStart_kept h
  | .ppsiCaptureTimeout => execPpsiCaptureTimeout_kept h | .ppsOutRise => execPpsOutRise_kept h | .ppsOutFall => execPpsOutFall_kept h
  | .rd .. => execRd_kept h | .wr .. => execWr_kept h | .amo .. => execAmo_kept h | .flush .. => execFlush_kept h
  | .pwrPost .. => execPwr_kept h | .rdata .. => execRdata_kept h | .cpl .. => execCpl_kept h | .crd .. => execCrd_kept h
  | .cwr .. => execCwr_kept h | .crsp .. => execCrsp_kept h | .audit .. => execAudit_kept h | .creditReturn .. => execCreditReturn_kept h
  | .tagTimeout .. => execTagTimeout_kept h | .quarantineEnd .. => execQuarantineEnd_kept h | .fenceWalkStep => execFenceWalkStep_kept h
  | .shareWindowStart .. => execShareWindowStart_kept h | .shareTableWrite .. => execShareTableWrite_kept h
  | .shareMapWrite .. => execShareMapWrite_kept h | .quotaWrite .. => execQuotaWrite_kept h
  | .canalCounterClear .. => execCanalCounterClear_kept h | .replay .. => execReplay_kept h | .moduleRetrain .. => execModuleRetrain_kept h
  | .retrainCommand .. => execRetrainCommand_kept h | .retrainLaneTestDone .. => execRetrainLaneTestDone_kept h
  | .wreport .. => execWreport_kept h | .width .. => execWidth_kept h | .adopt .. => execAdopt_kept h | .unable .. => execUnable_kept h
  | .widthReplyTimeout .. => execWidthReplyTimeout_kept h | .retrainComplete .. => execRetrainComplete_kept h
  | .rollCallStart => execRollCallStart_kept h | .sidebandUp .. => execSidebandUp_kept h | .roll .. => execRoll_kept h
  | .modulesTrained .. => execModulesTrained_kept h | .key .. => execKey_kept h | .fieldReady .. => execFieldReady_kept h
  | .admitTimeout .. => execAdmitTimeout_kept h | .heartbeatLoss .. => execHeartbeatLoss_kept h | .alarmLow .. => execAlarmLow_kept h
  | .alarmCause .. => execAlarmCause_kept h | .fence .. => execFence_kept h | .swFence .. => execSwFence_kept h
  | .turnoutTrain .. => execTurnoutTrain_kept h | .turnoutUnit .. => execTurnoutUnit_kept h
  | .turnoutLinkTimeout .. => execTurnoutLinkTimeout_kept h | .loopbackTest .. => execLoopbackTest_kept h
  | .loopbackDone .. => execLoopbackDone_kept h | .hbmCommandIssue .. => execHbmCommandIssue_kept h
  | .refreshDue .. => execRefreshDue_kept h | .rowIdleClose .. => execRowIdleClose_kept h | .hbmTempRead .. => execHbmTempRead_kept h
  | .shadowWrite .. => execShadowWrite_kept h | .freqChange .. => execFreqChange_kept h | .freqChangeDone .. => execFreqChangeDone_kept h
  | .hbmTrain .. => execHbmTrain_kept h | .helperCa .. => execHelperCa_kept h | .helperRd .. => execHelperRd_kept h
  | .helperWrrd .. => execHelperWrrd_kept h | .helperWdqs .. => execHelperWdqs_kept h | .helperDone .. => execHelperDone_kept h
  | .hbmFreeze .. => execHbmFreeze_kept h | .qdrTrainDone .. => execQdrTrainDone_kept h | .qdrFreeze .. => execQdrFreeze_kept h
  | .qdrUserRequest .. => execQdrUserRequest_kept h | .walkStep .. => execWalkStep_kept h
  | .walkerWriteBack .. => execWalkerWriteBack_kept h | .walkEpoch .. => execWalkEpoch_kept h | .check .. => execCheck_kept h
  | .scrub .. => execScrub_kept h | .init .. => execInit_kept h | .rangePassStep .. => execRangePassStep_kept h
  | .regionCodeWrite .. => execRegionCodeWrite_kept h | .frameScan .. => execFrameScan_kept h | .tmrVote .. => execTmrVote_kept h
  | .fabricFloatOut .. => execFabricFloatOut_kept h | .userRegIn .. => execUserRegIn_kept h | .userRegOut .. => execUserRegOut_kept h
  | .fabricPllUnlock .. => execFabricPllUnlock_kept h | .wclkLoss .. => execWclkLoss_kept h | .basinAccess .. => execBasinAccess_kept h
  | .reservoirRead .. => execReservoirRead_kept h | .reservoirWrite .. => execReservoirWrite_kept h
  | .reservoirLl .. => execReservoirLl_kept h | .reservoirSc .. => execReservoirSc_kept h | .reservoirFetch .. => execReservoirFetch_kept h
  | .reservoirLock .. => execReservoirLock_kept h | .engineStart .. => execEngineStart_kept h | .engineReset .. => execEngineReset_kept h
  | .engineResetDone .. => execEngineResetDone_kept h | .engineResetWedged .. => execEngineResetWedged_kept h
  | .patchLoad .. => execPatchLoad_kept h | .patchLoadDone .. => execPatchLoadDone_kept h | .watchdogExpiry .. => execWatchdogExpiry_kept h
  | .clusterClockStop .. => execClusterClockStop_kept h | .xyExternalAccess .. => execXyExternalAccess_kept h
  | .rillNop .. => execRillNop_kept h | .cmac .. => execCmac_kept h | .dmac .. => execDmac_kept h | .bfly .. => execBfly_kept h
  | .aop .. => execAop_kept h | .ast .. => execAst_kept h | .calu .. => execCalu_kept h | .ralu .. => execRalu_kept h
  | .acs .. => execAcs_kept h | .bexp .. => execBexp_kept h | .scale .. => execScale_kept h | .ldi .. => execLdi_kept h
  | .movr .. => execMovr_kept h | .stb .. => execStb_kept h | .br .. => execBr_kept h | .call .. => execCall_kept h
  | .jmpr .. => execJmpr_kept h | .doLoop .. => execDo_kept h | .rillStop .. => execRillStop_kept h | .wdr .. => execWdr_kept h
  | .rillLoad .. => execRillLoad_kept h | .store .. => execStore_kept h | .rillLl .. => execRillLl_kept h | .rillSc .. => execRillSc_kept h
  | .rillAmo .. => execRillAmo_kept h | .blk .. => execBlk_kept h | .rillFlush .. => execRillFlush_kept h | .bwait .. => execBwait_kept h
  | .rillAccessReturn .. => execRillAccessReturn_kept h | .blockTransferDone .. => execBlockTransferDone_kept h
  | .linkTrain .. => execLinkTrain_kept h | .linkDown => execLinkDown_kept h | .perstAssert => execPerstAssert_kept h
  | .perstRelease .. => execPerstRelease_kept h | .hotReset => execHotReset_kept h | .configRequest .. => execConfigRequest_kept h
  | .decoderCommit .. => execDecoderCommit_kept h | .bar0Read .. => execBar0Read_kept h | .bar0Write .. => execBar0Write_kept h
  | .bar4Read .. => execBar4Read_kept h | .bar4Write .. => execBar4Write_kept h | .memrd .. => execMemrd_kept h
  | .memwr .. => execMemwr_kept h | .ledgerEntryWrite .. => execLedgerEntryWrite_kept h | .ledgerRelease .. => execLedgerRelease_kept h
  | .mirrorEnable .. => execMirrorEnable_kept h | .completionRingReset .. => execCompletionRingReset_kept h
  | .ledgerVector .. => execLedgerVector_kept h | .vectorArm .. => execVectorArm_kept h | .getTimestamp .. => execGetTimestamp_kept h
  | .setTimestamp .. => execSetTimestamp_kept (_p := []) h | .getSupportedLogs .. => execGetSupportedLogs_kept h
  | .getLog .. => execGetLog_kept h | .getRollcall .. => execGetRollcall_kept h | .getEvents .. => execGetEvents_kept h
  | .copyCmd .. => execCopy_kept h | .copyStep => execCopyStep_kept h | .bundleBegin .. => execBundleBegin_kept h
  | .bundleData .. => execBundleData_kept h | .bundlePartWritten .. => execBundlePartWritten_kept h | .bundleEnd .. => execBundleEnd_kept h
  | .fieldLoadDone .. => execFieldLoadDone_kept h | .releasePoint .. => execReleasePoint_kept h | .syncTimeout => execSyncTimeout_kept h
  | .startupStep .. => execStartupStep_kept h | .parcelSwap .. => execParcelSwap_kept h | .parcelDrained .. => execParcelDrained_kept h
  | .parcelWritten .. => execParcelWritten_kept h | .parcelActive .. => execParcelActive_kept h
  | .parcelWedged .. => execParcelWedged_kept h | .ownerEnrol .. => execOwnerEnrol_kept h | .cancel => execCancel_kept h
  | .abortStage => execAbort_kept h | .settingsMigration .. => execSettingsMigration_kept h | .confirm .. => execConfirm_kept h
  | .trialWindowExpiry => execTrialWindowExpiry_kept h | .wmOpen .. => execOpen_kept h | .wmClose .. => execClose_kept h
  | .wmPing .. => execPing_kept h | .wmRd .. => execWmRd_kept h | .wmWr .. => execWmWr_kept h | .mrd .. => execMrd_kept h
  | .mwr .. => execMwr_kept h | .wmHalt .. => execWmHalt_kept h | .wmResume .. => execWmResume_kept h | .wmStep .. => execWmStep_kept h
  | .rreg .. => execRreg_kept h | .wreg .. => execWreg_kept h | .wmLog .. => execLog_kept h | .gunlock .. => execGunlock_kept h
  | .mspGapTimeout => execMspGapTimeout_kept h | .whcRequest .. => execWhcRequest_kept h | .rspack => execRspack_kept h
  | .evtack => execEvtack_kept h | .peekRead .. => execPeekRead_kept h | .debugUnitWrite .. => execDebugUnitWrite_kept h
  | .engineHalt .. => execEngineHalt_kept h | .engineResume .. => execEngineResume_kept h | .engineStep .. => execEngineStep_kept h
  | .haltDeferTimeout .. => execHaltDeferTimeout_kept h | .stimulusWrite .. => execStimulusWrite_kept h
  | .fabricStimulus .. => execFabricStimulus_kept h | .tracePacketWrite .. => execTracePacketWrite_kept h
  | .traceEnable .. => execTraceEnable_kept h | .gaugeChallenge => execGaugeChallenge_kept h | .gaugeUnlock => execGaugeUnlock_kept h
  | .relock => execRelock_kept h | .gaugeExpiry => execGaugeExpiry_kept h | .gaugeSelect .. => execGaugeSelect_kept h
  | .bypass .. => execBypass_kept h | .idcode .. => execIdcode_kept h | .samplePreload .. => execSamplePreload_kept h
  | .extest .. => execExtest_kept h | .extestPulse .. => execExtestPulse_kept h | .extestTrain .. => execExtestTrain_kept h
  | .clamp .. => execClamp_kept h | .highz .. => execHighz_kept h | .standalone .. => execStandalone_kept h
  | .lbresult .. => execLbresult_kept h | .testEnChange .. => execTestEnChange_kept h | .dormant .. => execDormant_kept h
  | .fallow .. => execFallow_kept h | .fallowAtpkrWrite .. => execFallowAtpkrWrite_kept h | .dwake => execDwake_kept h
  | .wakeTimer => execWakeTimer_kept h | .hbmOpChange .. => execHbmOpChange_kept h | .quadGate .. => execQuadGate_kept h
  | .quadWake .. => execQuadWake_kept h | .bankGate .. => execBankGate_kept h | .sensorRead .. => execSensorRead_kept h
  | .fieldTrip .. => execFieldTrip_kept h | .packageTrip => execPackageTrip_kept h | .powerLimit => execPowerLimit_kept h
  | .supplyWarn .. => execSupplyWarn_kept h | .brownOut .. => execBrownOut_kept h | .por .. => execPor_kept h
  | .pkrRelease .. => execPkrRelease_kept h | .packageResetCommand .. => execPackageResetCommand_kept h
  | .mcWatchdog => execMcWatchdog_kept h | .refclkLost => execRefclkLost_kept h | .hbmClockLost .. => execHbmClockLost_kept h
  | .flumeClockLost .. => execFlumeClockLost_kept h | .ethBlockReceive .. => execEthBlockReceive_kept h
  | .pcieBlockReceive .. => execPcieBlockReceive_kept h | .ieeeTrainingFrameReceive .. => execIeeeTrainingFrameReceive_kept h
  | .holdoffExpiry => execHoldoffExpiry_kept h | .automaticInitRegionDone .. => execAutomaticInitRegionDone_kept h
  | .fabricPllLock .. => execFabricPllLock_kept h | .fabricPllLockTimeout .. => execFabricPllLockTimeout_kept h
  | .wclkRestored .. => execWclkRestored_kept h

/-- Settles O5: the components that O5 speaks of are the first ones that Kept compares. -/
theorem commandsKeepQueueAndPart : Obligations.CommandsKeepQueueAndPart := by
  intro c s t ht
  obtain ⟨⟨hpending, hpart, hout⟩, hevSeq, -⟩ := exec_kept (Kept.refl s) c t ht
  exact ⟨hpending, hpart, hout, hevSeq⟩

/-- Settles O7: every meaning, with furStep and rangeCmd that some of them share, is by definition the outcome `.next` of a state. -/
theorem commandsComplete : Obligations.CommandsComplete := by
  intro c s
  cases c <;> exact ⟨_, rfl⟩

/-! Reset. -/

/-- Settles O2: a reset machine lists nothing, and each field holds the value of its Reset column. -/
theorem resetState : Obligations.ResetState := by
  refine ⟨State.get_reset, ?_, rfl, rfl, rfl, rfl, rfl, rfl⟩
  simp only [State.get_reset]
  decide

/-- Settles O3: each book of a reset machine is empty. -/
theorem resetHasInvariant : Obligations.ResetHasInvariant :=
  inv_iff.2 ⟨rfl, rfl, rfl, rfl, rfl⟩

/-! Register fields. -/

/-- Settles O9, by the laws of reading a field after a write; a write gives the state with another register store. -/
theorem registerFields : Obligations.RegisterFields :=
  ⟨fun s f v i j k hw => State.get_set_self s f v i j k hw, fun s _ _ v _ _ _ _ _ _ hkey => State.get_set_ne s hkey v,
    fun _ _ _ _ _ _ => rfl⟩

/-- R16: a write of an encoding that the field's table does not define leaves the state as it is. -/
theorem State.wr_undefined (s : State) {v : Nat} {f : Field} (h : f.dom.allows (bitsOf v f.lo f.w) = false) (i j k : Nat) :
    s.wr v f i j k = s := by
  simp [State.wr, h]

/-- R16: a write of an encoding that the field's table defines sets the field. -/
theorem State.wr_defined (s : State) {v : Nat} {f : Field} (h : f.dom.allows (bitsOf v f.lo f.w) = true) (i j k : Nat) :
    s.wr v f i j k = s.set f (bitsOf v f.lo f.w) i j k := by
  simp [State.wr, h]

/-- A write of several fields writes the first of them and then the others. -/
theorem State.wrAll_cons (s : State) (v : Nat) (f : Field) (l : List Field) (i j k : Nat) :
    s.wrAll v (f :: l) i j k = (s.wr v f i j k).wrAll v l i j k := rfl

theorem State.wrAll_append (s : State) (v : Nat) (l m : List Field) (i j k : Nat) :
    s.wrAll v (l ++ m) i j k = (s.wrAll v l i j k).wrAll v m i j k := List.foldl_append

/-- Bits cut from a word fit the width they are cut to. -/
theorem bitsOf_mod (v lo w : Nat) : bitsOf v lo w % 2 ^ w = bitsOf v lo w := Nat.mod_mod _ _

/-- Settles O10: the write of one field acts only where its encoding is defined, and a write of several goes field by field. -/
theorem undefinedEncodings : Obligations.UndefinedEncodings := by
  refine ⟨fun s v f i j k h => s.wr_undefined h i j k, fun s v f l m i j k h => ?_, fun s v f i j k hw h => ?_⟩
  · rw [State.wrAll_append, State.wrAll_cons, State.wr_undefined _ h, State.wrAll_append]
  · rw [State.wr_defined s h, State.get_set_self _ _ _ _ _ _ hw, bitsOf_mod]

/-! Bytes of memory. -/

/-- Bytes stored at consecutive addresses leave every byte outside them alone. -/
theorem State.memByte_setBytes_outside {s : State} {a x : Nat} {l : List Byte} (h : x < a ∨ a + l.length ≤ x) :
    (s.setBytes a l).memByte x = s.memByte x := by
  induction l generalizing s a with
  | nil => rfl
  | cons b t ih =>
    rw [List.length_cons] at h
    calc ((s.setByte a b).setBytes (a + 1) t).memByte x
        = (s.setByte a b).memByte x := ih (by omega)
      _ = s.memByte x := State.memByte_setByte_ne (by omega) b

/-- Bytes stored at consecutive addresses read back: the first is outside the others, so their store leaves it. -/
theorem State.memBytes_setBytes_self (s : State) (a : Nat) (l : List Byte) : (s.setBytes a l).memBytes a l.length = l := by
  induction l generalizing s a with
  | nil => rfl
  | cons b t ih =>
    have hfirst : ((s.setByte a b).setBytes (a + 1) t).memByte a = b := by
      rw [State.memByte_setBytes_outside (by omega), State.setByte_self]
    show ((s.setByte a b).setBytes (a + 1) t).memByte a :: ((s.setByte a b).setBytes (a + 1) t).memBytes (a + 1) t.length = b :: t
    rw [hfirst, ih]

/-- Bytes read alike in two states whose bytes at their addresses are the same. -/
theorem State.memBytes_congr {s t : State} {a n : Nat} (h : ∀ x, a ≤ x → x < a + n → t.memByte x = s.memByte x) :
    t.memBytes a n = s.memBytes a n := by
  induction n generalizing a with
  | zero => rfl
  | succ n ih =>
    have hfirst : t.memByte a = s.memByte a := h a (by omega) (by omega)
    have hrest : t.memBytes (a + 1) n = s.memBytes (a + 1) n := ih fun x hlo hhi => h x (by omega) (by omega)
    show t.memByte a :: t.memBytes (a + 1) n = s.memByte a :: s.memBytes (a + 1) n
    rw [hfirst, hrest]

/-- Settles O16, by induction on the bytes stored. -/
theorem bytesReadBack : Obligations.BytesReadBack :=
  ⟨State.memBytes_setBytes_self, fun _ _ _ _ h => State.memByte_setBytes_outside h⟩

/-! Words of memory. -/

@[simp] theorem length_bytesLE (n v : Nat) : (bytesLE n v).length = n := by
  induction n generalizing v with
  | zero => rfl
  | succ n ih => simp [bytesLE, ih]

/-- R13: the n little-endian bytes of a number spell it, cut to n bytes. -/
theorem natLE_bytesLE (n v : Nat) : natLE (bytesLE n v) = v % 256 ^ n := by
  induction n generalizing v with
  | zero => simp [bytesLE, natLE, Nat.mod_one]
  | succ n ih =>
    have hbyte : (BitVec.ofNat 8 v).toNat = v % 256 := rfl
    rw [bytesLE, natLE, ih, hbyte, Nat.pow_succ', Nat.mod_mul]

/-- Storing bytes changes nothing but the memory. -/
theorem State.setBytes_eq (s : State) (a : Nat) (l : List Byte) : s.setBytes a l = { s with mem := (s.setBytes a l).mem } := by
  induction l generalizing s a with
  | nil => rfl
  | cons b t ih => exact ih (s.setByte a b) (a + 1)

@[simp] theorem State.setBytes_csr (s : State) (a : Nat) (l : List Byte) : (s.setBytes a l).csr = s.csr :=
  (congrArg State.csr (s.setBytes_eq a l) :)

@[simp] theorem State.setBytes_chk (s : State) (a : Nat) (l : List Byte) : (s.setBytes a l).chk = s.chk :=
  (congrArg State.chk (s.setBytes_eq a l) :)

/-- Check bits lie beside the bytes of the memory. -/
theorem State.memByte_chk (s : State) (c : List (Nat × Nat)) (x : Nat) : ({ s with chk := c } : State).memByte x = s.memByte x := rfl

theorem State.memByte_putWord (s : State) (w data syn x : Nat) :
    (s.putWord w data syn).memByte x = (s.setBytes (8 * w) (bytesLE 8 data)).memByte x := State.memByte_chk ..

/-- A word that is stored reads back, cut to its 64 bits. -/
theorem State.wordData_putWord_self (s : State) (w data syn : Nat) : (s.putWord w data syn).wordData w = data % 2 ^ 64 := by
  have hbytes : (s.putWord w data syn).memBytes (8 * w) 8 = bytesLE 8 data := calc
    _ = (s.setBytes (8 * w) (bytesLE 8 data)).memBytes (8 * w) 8 := State.memBytes_congr fun x _ _ => s.memByte_putWord w data syn x
    _ = bytesLE 8 data := by simpa only [length_bytesLE] using s.memBytes_setBytes_self (8 * w) (bytesLE 8 data)
  have hwidth : 256 ^ 8 = 2 ^ 64 := by decide
  rw [State.wordData, hbytes, natLE_bytesLE, hwidth]

/-- A stored word leaves the data of every other word alone. -/
theorem State.wordData_putWord_ne (s : State) {w x : Nat} (h : x ≠ w) (data syn : Nat) :
    (s.putWord w data syn).wordData x = s.wordData x := by
  refine congrArg natLE (State.memBytes_congr fun y hlo hhi => ?_)
  rw [State.memByte_putWord]
  exact State.memByte_setBytes_outside (by rw [length_bytesLE]; omega)

@[simp] theorem State.wordSyn_putWord_self (s : State) (w data syn : Nat) : (s.putWord w data syn).wordSyn w = syn :=
  Store.get_set_self ..

/-- A stored word leaves the check bits of every other word alone. -/
theorem State.wordSyn_putWord_ne (s : State) {w x : Nat} (h : x ≠ w) (data syn : Nat) :
    (s.putWord w data syn).wordSyn x = s.wordSyn x := calc
  _ = Store.get 0 x (s.setBytes (8 * w) (bytesLE 8 data)).chk := Store.get_set_ne h _ _
  _ = s.wordSyn x := by rw [State.setBytes_chk]; rfl

/-- A region's CODE and STATE are read from the registers. -/
theorem State.regionGet_congr {s t : State} (h : t.csr = s.csr) : t.regionGet = s.regionGet := by
  funext r
  simp only [State.regionGet, State.get_congr h]

/-- The code that an address is checked under is read from the registers. -/
theorem State.checkCode_congr {s t : State} (h : t.csr = s.csr) (a : Nat) : t.checkCode a = s.checkCode a := by
  unfold State.checkCode
  rw [State.regionGet_congr h]

@[simp] theorem State.putWord_csr (s : State) (w data syn : Nat) : (s.putWord w data syn).csr = s.csr := by
  simp [State.putWord]

/-- R270, R275: under the codes N, L and S a word with the check field of its data decodes as clean; the poison pattern of L or S has
another check field than its data. -/
theorem decodeWord_clean {code : Nat} (h : code ≤ 2) (data : Nat) : decodeWord code data 0 = (.clean, data) := by
  rcases (by omega : code = 0 ∨ code = 1 ∨ code = 2) with rfl | rfl | rfl
  · rfl
  · simp [decodeWord, poisonCheck, checkBits]
  · simp [decodeWord, poisonCheck, checkBits]

/-- Settles O19: the bytes of a word read back, its region's registers are those before, and a word with the check field of its data is
clean. -/
theorem fullWordsReadBack : Obligations.FullWordsReadBack := by
  have hself (s : State) (w data : Nat) (hdata : data < 2 ^ 64) : (s.putWord w data 0).wordData w = data := by
    rw [State.wordData_putWord_self, Nat.mod_eq_of_lt hdata]
  refine ⟨hself, fun s w data hdata hcode => ?_, fun s w x data syn hx => ?_⟩
  · rw [State.readWord, hself s w data hdata, State.wordSyn_putWord_self, State.checkCode_congr (s.putWord_csr w data 0)]
    exact decodeWord_clean hcode data
  · exact ⟨s.wordData_putWord_ne hx data syn, s.wordSyn_putWord_ne hx data syn⟩

end Sys2Proof.Machine
end

section
/-! PROOFS. The windows of the CSR region, the steps of roll call, and a link lost under a waiting request (spec/01_package_architecture.md). -/
namespace Sys2Proof.Machine

/-! The windows of the CSR region (R33). -/

/-- R33: an offset between two multiples of 16 MiB has the window that the first of them numbers. -/
theorem csrDie_window {k x : Nat} (hlo : k * 0x1000000 ≤ x) (hhi : x < (k + 1) * 0x1000000) :
    csrDie x = if k = 0 then 8 else if k ≤ 8 then k - 1 else if k ≤ 10 then k else 11 := by
  have hk : x / 0x1000000 = k := Nat.div_eq_of_lt_le hlo hhi
  rw [csrDie, hk]

/-- R33: from 0x0B00_0000 up there is no window. -/
theorem csrDie_beyond {x : Nat} (h : 0xB000000 ≤ x) : csrDie x = 11 := by
  have hk : 11 ≤ x / 0x1000000 := by omega
  simp only [csrDie]
  rw [if_neg (by omega), if_neg (by omega), if_neg (by omega)]

/-- Settles O11: each window starts at a multiple of 16 MiB. -/
theorem csrWindows : Obligations.CsrWindows := by
  refine ⟨fun x h => ?_, fun n x hn hlo hhi => ?_, fun x hlo hhi => ?_, fun x hlo hhi => ?_, fun x => csrDie_beyond, rfl⟩
  · exact csrDie_window (k := 0) (by omega) (by omega)
  · rw [csrDie_window hlo (by omega), if_neg (by omega), if_pos (by omega), Nat.add_sub_cancel]
  · exact csrDie_window (k := 9) (by omega) (by omega)
  · exact csrDie_window (k := 10) (by omega) (by omega)

/-! Roll call, copy-in, release and start-up. -/

/-- Settles O29, clause by clause: the conditions of a clause pick one branch of its command's meaning. -/
theorem rollCallCommands : Obligations.RollCallCommands := by
  refine ⟨?service, ?noService, ?recovery, ?sidebandUp, ?sidebandSilent, ?rolling, ?rollStart, ?roll, ?trained, ?key, ?loaded, ?ready,
    ?late, ?notReady, ?noRelease, ?freeRelease, ?syncRelease, ?syncTimeout, ?notReleased, ?step, ?allLocked, ?someLocked, ?inTime,
    ?copyInLate, ?stepLate⟩
  case service => intro s hhost hadmitted; simp [exec, execServiceEntry, hhost, hadmitted]
  case noService => intro s hhost; simp [exec, execServiceEntry, hhost]
  case recovery => intro s hhost hended hnone; simp [exec, execRecoveryAccessEntry, hhost, hended, hnone]
  case sidebandUp => intro n s hst; simp [exec, execSidebandUp, State.raise, hst]
  case sidebandSilent => intro n s hst; simp [exec, execSidebandUp, State.rollFence, hst]
  case rolling => intro s hroll; simp [exec, execRollCallStart, hroll]
  case rollStart => intro s hreset hroll; simp [exec, execRollCallStart, hreset, hroll]
  case roll => intro n d r st ser rep s hst; simp [exec, execRoll, hst]
  case trained => intro n hw fd s hst _; simp [exec, execModulesTrained, hst]
  case key => intro n ok s hst hphase hupd; simp [exec, execKey, hst, hphase, hupd]
  case loaded => intro n us ok det s hphase hfence; simp [exec, execFieldLoadDone, hphase, hfence]
  case ready => intro n s hst hphase hlock hcal; simp [exec, execFieldReady, hst, hphase, hlock, hcal]
  case late => intro n s hlo hhi; simp [exec, execAdmitTimeout, State.rollFence, hlo, hhi]
  case notReady => intro n s hst; simp [exec, execFieldReady, hst]
  case noRelease => intro level s hmay; simp_all [exec, execReleasePoint]
  case freeRelease => intro level s hmay hsync; simp_all [exec, execReleasePoint]
  case syncRelease =>
    intro s hmay hsync
    have hnow : (s.set RST.SYNC_LEVEL 1).now = s.now := rfl
    simp_all [exec, execReleasePoint]
  case syncTimeout => intro s hmay hsync hlimit hdue; simp [exec, execSyncTimeout, State.raise, hmay, hsync, hlimit, hdue]
  case notReleased => intro n s hrel; simp [exec, execStartupStep, hrel]
  case step =>
    intro n s hrel hon hphase hsteps hdue hwait hcode
    have hnotFirst : ¬ (stepCode (s.get FCC.STEP_ORDER n) (s.stepsDone n) = 0 ∧ s.pllsLocked n = false) := fun h => hcode h.1
    have hfree : n.val ∉ s.boot.lockWait := by simpa using hwait
    simp [exec, execStartupStep, hrel, hon, hphase, hsteps, hdue, hfree, hnotFirst]
  case allLocked => intro n i s hused hphase hlock hphase'; simp [exec, execFabricPllLock, hused, hphase, hlock, hphase']
  case someLocked => intro n i s hused hlo hhi hlock; simp [exec, execFabricPllLock, hused, hlo, hhi, hlock]
  case inTime => intro n s hlock; simp [exec, execFabricPllLockTimeout, hlock]
  case copyInLate => intro n s hlock hphase; simp [exec, execFabricPllLockTimeout, hlock, hphase]
  case stepLate =>
    intro n s hlock hphase hwait
    have hheld : n.val ∈ s.boot.lockWait := by simpa using hwait
    simp [exec, execFabricPllLockTimeout, State.raise, hlock, hphase, hheld]

/-! A lost link. -/

/-- R395: the requests of the host that a loss of the link leaves without a response: those that have a tag, and those that still wait
for one at ingress. -/
theorem State.linkDown_lost {s : State} (h : s.get CXL.LSTAT_MODE ≠ 0) :
    s.linkDown.cxl.lost = ((s.tags.filter fun e => isHost e.2.req.src && e.2.quar.isNone).map fun e => e.2.req.ord) ++
      (s.ingress.filter fun h => isHost h.req.src && h.req.op != .pwr).map fun h => h.req.ord := by
  rw [State.linkDown, if_neg h]
  rfl

/-- A trained link, with a register read of the host that waits at ingress and has no tag yet (R183, R194). -/
def readAtIngress : State :=
  { State.reset.set CXL.LSTAT_MODE 2 with
    ingress := [{ req := { op := .crd, src := 0x802, oc := 0, addr := csrBase, len := 4, ord := 1 }, t := 0 }] }

/-- Refutes O39: its clause for a loss of the link counts only the requests that have a tag as lost, and in readAtIngress, where no tag
is in use, the read that waits at ingress is lost too. -/
theorem not_hostAccessCommands : ¬ Obligations.HostAccessCommands := by
  rintro ⟨-, -, -, -, -, -, -, -, -, -, -, -, hdown, -⟩
  have hup : readAtIngress.get CXL.LSTAT_MODE ≠ 0 := by decide
  have hnone : readAtIngress.linkDown.cxl.lost = [] := by
    rw [Host.Outcome.next.inj (hdown readAtIngress hup)]
    rfl
  rw [State.linkDown_lost hup] at hnone
  exact absurd hnone (by decide)

end Sys2Proof.Machine
end

section
/-! PROOFS. What each command leaves unchanged (spec/95_what_each_step_holds.md, R30): the frames of Laws/Same.lean put together, and those of the
commands that free a tag or a credit or fence a die while nothing waits at ingress and no roll call runs (State.sameBut). -/
namespace Sys2Proof.Machine

variable {kd : StateKind} {s0 s t u : State} {ks ls : List StateKind}

/-! A kind of state outside a list. -/

/-- A statement about a kind of state, for a kind that is none of a list: the hypotheses of a frame lemma, one by one. -/
def Outside (kd : StateKind) : List StateKind → Prop → Prop
  | [], p => p
  | k :: ks, p => kd ≠ k → Outside kd ks p

theorem Outside.elim {p : Prop} (h : Outside kd ks p) (hk : kd ∉ ks) : p := by
  induction ks with
  | nil => exact h
  | cons k ks ih => exact ih (h (List.ne_of_not_mem_cons hk)) (List.not_mem_of_not_mem_cons hk)

/-- A kind outside a list is none of its kinds. -/
theorem ne_of_outside {k : StateKind} (hk : kd ∉ ks) (hmem : ks.contains k = true) : kd ≠ k :=
  fun e => hk (e ▸ List.contains_iff_mem.1 hmem)

theorem mem_of_all {k : StateKind} (hsub : ls.all ks.contains = true) (hk : k ∈ ls) : k ∈ ks :=
  List.contains_iff_mem.1 (List.all_eq_true.1 hsub k hk)

theorem not_mem_of_contains (h : ks.contains kd = false) : kd ∉ ks :=
  fun hk => Bool.false_ne_true (h.symm.trans (List.contains_iff_mem.2 hk))

/-- A kind outside a list is outside every part of it. -/
theorem outside_of_contains (h : ks.contains kd = false) (hsub : ls.all ks.contains = true) : kd ∉ ls :=
  fun hk => not_mem_of_contains h (mem_of_all hsub hk)

/-- A frame lemma where its kinds are those of a list that a command may change. -/
theorem frame_of_list {p q : Prop} (h : ks.contains kd = false) (hs : p) (hframe : Outside kd ks (p → q)) : q :=
  hframe.elim (not_mem_of_contains h) hs

/-- A frame lemma where a command may change one kind. -/
theorem frame_of_kind {k : StateKind} {p q : Prop} (h : (kd == k) = false) (hs : p) (hframe : kd ≠ k → p → q) : q :=
  hframe (beq_eq_false_iff_ne.1 h) hs

/-! States that differ in the kinds of a list alone. -/

/-- t has the state of every kind outside a list that s has. -/
structure State.sameBut (s : State) (ks : List StateKind) (t : State) : Prop where
  same : ∀ {kd}, kd ∉ ks → s.same kd t

theorem State.same_trans (h : s.same kd t) (h' : t.same kd u) : s.same kd u := by
  cases kd <;> exact Eq.trans h' h

theorem State.sameBut_refl : s.sameBut ks s := ⟨fun _ => s.same_refl⟩

theorem State.sameBut.trans (h : s.sameBut ks t) (h' : t.sameBut ls u) (hsub : ls.all ks.contains = true) : s.sameBut ks u :=
  ⟨fun hk => State.same_trans (h.same hk) (h'.same fun hl => hk (mem_of_all hsub hl))⟩

/-- What is the same but for some kinds is the same but for more of them. -/
theorem State.sameBut.mono (h : s.sameBut ls t) (hsub : ls.all ks.contains = true) : s.sameBut ks t :=
  State.sameBut_refl.trans h hsub

theorem State.sameBut_ite {c : Prop} [Decidable c] (ht : s.sameBut ks t) (hu : s.sameBut ks u) : s.sameBut ks (if c then t else u) := by
  split <;> assumption

/-- A frame lemma, read as what an operation changes. -/
theorem State.sameBut_of_frame (h : ∀ kd, Outside kd ks (s.same kd s → s.same kd t)) : s.sameBut ks t :=
  ⟨fun hk => (h _).elim hk s.same_refl⟩

theorem State.sameBut.boot_eq (h : s.sameBut ks t) (hk : ks.contains .management = false) : t.boot = s.boot :=
  congrArg (fun x : BootSt × UpdSt × PowSt => x.1) (h.same (not_mem_of_contains hk))

theorem State.sameBut.ingress_eq (h : s.sameBut ks t) (hk : ks.contains .ingress = false) : t.ingress = s.ingress :=
  h.same (not_mem_of_contains hk)

/-- An access to a register block changes what the access itself changes, and the answer. -/
theorem State.sameBut.access {b : Blk} {n : Nat} {f : State → State} (h : s.sameBut ks (f s)) (ha : ks.contains .answer = true) :
    s.sameBut ks (s.access b n f) := by
  refine ⟨fun hk => ?_⟩
  unfold State.access
  split
  · exact State.answer_same (ne_of_outside hk ha) (State.timedOut_same s.same_refl)
  · exact State.answer_same (ne_of_outside hk ha) (h.same hk)

/-! What waits in the network, while nothing waits at ingress (R183, R194). -/

/-- What the responses change that leave the switch. -/
def replyKinds : List StateKind := [.requests, .flume, .host, .outputs, .answer]

theorem State.dropFenced_sameBut (h : s.ingress = []) : s.sameBut [.requests] s.dropFenced := by
  refine ⟨fun hk => ?_⟩
  have hnone : ({ s with ingress := [] } : State) = s := by rw [← h]
  unfold State.dropFenced
  simp only [h, List.filter_nil, hnone]
  refine State.same_foldl (fun u w hu => State.same_ite ?_ ?_) s.same_refl
  · exact State.count_same (State.freeKey_same (ne_of_outside hk rfl) (State.same_upd_owed (ne_of_outside hk rfl) hu))
  · exact State.same_upd_owed (ne_of_outside hk rfl) hu

theorem State.dropLost_of_noIngress (h : s.ingress = []) : s.dropLost = s := by
  rw [State.dropLost, h]
  rfl

/-- R183, R194, R201: where nothing waits at ingress, only responses move on. -/
theorem State.settleNet_of_noIngress (h : s.ingress = []) : s.settleNet = s.dropFenced.moveOwed := by
  have hdrop : s.dropFenced.ingress = [] := ((State.dropFenced_sameBut h).ingress_eq rfl).trans h
  have hmove : s.dropFenced.moveOwed.ingress = s.dropFenced.ingress :=
    State.moveOwed_same (kd := .ingress) (by decide) (by decide) (by decide) (by decide) (by decide) rfl
  rw [State.settleNet, State.dropLost_of_noIngress hdrop]
  simp only [hmove, hdrop]
  rfl

theorem State.settleNet_sameBut (h : s.ingress = []) : s.sameBut replyKinds s.settleNet := by
  rw [State.settleNet_of_noIngress h]
  exact ((State.dropFenced_sameBut h).mono rfl).trans (State.sameBut_of_frame (ks := replyKinds) fun _ => State.moveOwed_same) rfl

/-- What moves on after an operation that leaves ingress alone. -/
theorem State.sameBut.settleNet (h : s.sameBut ks t) (hin : s.ingress = []) (hk : ks.contains .ingress = false)
    (hsub : replyKinds.all ks.contains = true) : s.sameBut ks t.settleNet :=
  h.trans (State.settleNet_sameBut ((h.ingress_eq hk).trans hin)) hsub

/-- R183, R190, R195: a response reaches its source or waits at its port. -/
theorem State.sameBut.sendRsp {r : Req} {a : Resp} {key inp : Option Nat} (h : s.sameBut ks t)
    (hsub : replyKinds.all ks.contains = true) : s.sameBut ks (t.sendRsp r a key inp) :=
  h.trans (State.sameBut_of_frame (ks := replyKinds) fun _ => State.sendRsp_same) hsub

/-! Commands that free a tag or a credit (R183-R185, R190, R194-R196). -/

/-- What a response changes on its way from its target: replyKinds, and the credits of the ports that it passes. -/
def creditKinds : List StateKind := [.requests, .shares, .flume, .host, .outputs, .answer]

/-- R183: a response spends the credits of the port by which it enters the switch. -/
theorem State.same_spendRsp {r : Req} (p : Option Nat) (hk : kd ≠ .shares) (h : s0.same kd t) :
    s0.same kd (match p with
      | some u => if r.own then t else t.spendUp u r.rspVc r.rspFlits
      | none => t) := by
  cases p with
  | none => exact h
  | some u => exact State.same_ite h (State.spendUp_same hk h)

theorem State.reply_sameBut {key : Nat} {ops : List ReqOp} {h : Hdr} {guest : Guest} (hin : s.ingress = []) :
    s.sameBut creditKinds (s.reply key ops h guest) := by
  unfold State.reply
  split
  · exact State.sameBut_refl
  next e _ =>
  extract_lets r crosses viaUp s'
  have hway : s.sameBut creditKinds (viaUp (s.takeAnswer key e guest)) :=
    ⟨fun hk => State.same_spendRsp _ (ne_of_outside hk rfl) (State.takeAnswer_same (ne_of_outside hk rfl) s.same_refl)⟩
  refine State.sameBut_ite State.sameBut_refl ?_
  split
  · exact State.sameBut_refl
  refine State.sameBut_ite State.sameBut_refl ?_
  split
  · exact State.sameBut.settleNet ⟨fun hk => State.discard_same (State.same_upd_tags (ne_of_outside hk rfl) (hway.same hk))⟩ hin rfl rfl
  refine State.sameBut_ite ?late (State.sameBut_ite State.sameBut_refl (State.sameBut_ite ?own ?tracked))
  case late =>
    exact State.sameBut.settleNet ⟨fun hk =>
      State.count_same (State.freeTag_same (ne_of_outside hk rfl) (State.countHeader_same (hway.same hk)))⟩ hin rfl rfl
  case own =>
    exact State.sameBut.settleNet ⟨fun hk => State.receive_same (ne_of_outside hk rfl) (ne_of_outside hk rfl)
      (State.freeTag_same (ne_of_outside hk rfl) (State.countHeader_same s.same_refl))⟩ hin rfl rfl
  case tracked => exact (State.sameBut.sendRsp ⟨fun hk => State.countHeader_same (hway.same hk)⟩ rfl).settleNet hin rfl rfl

theorem execRdata_quiet {own : Option FieldId} {t : Fin 262144} {h : Hdr} (hin : s.ingress = []) (hk : kd ∉ creditKinds) :
    SameR kd s (execRdata own t h s) := SameR.next ((State.reply_sameBut hin).same hk)

theorem execCpl_quiet {own : Option FieldId} {t : Fin 262144} {h : Hdr} (hin : s.ingress = []) (hk : kd ∉ creditKinds) :
    SameR kd s (execCpl own t h s) := SameR.next ((State.reply_sameBut hin).same hk)

theorem execCrsp_quiet {own : Option FieldId} {t : Fin 262144} {guest : Guest} {h : Hdr} (hin : s.ingress = []) (hk : kd ∉ creditKinds) :
    SameR kd s (execCrsp own t guest h s) := SameR.next ((State.reply_sameBut hin).same hk)

theorem execAudit_quiet {p : Fin 177} {vc : Fin 4} {free : Byte} (hin : s.ingress = []) (hk : kd ∉ creditKinds) :
    SameR kd s (execAudit p vc free s) :=
  have haudit : s.sameBut creditKinds (s.auditPort p vc free.toNat) :=
    ⟨fun hk => State.auditPort_same (ne_of_outside hk rfl) (ne_of_outside hk rfl) s.same_refl⟩
  SameR.next (State.same_ite s.same_refl ((haudit.settleNet hin rfl rfl).same hk))

theorem execCreditReturn_quiet {up : Bool} {p : Fin 177} {vc : Fin 4} (hin : s.ingress = []) (hk : kd ∉ creditKinds) :
    SameR kd s (execCreditReturn up p vc s) :=
  have hback : s.sameBut creditKinds (s.creditBack up p vc) := ⟨fun hk => State.creditBack_same (ne_of_outside hk rfl) s.same_refl⟩
  SameR.next ((hback.settleNet hin rfl rfl).same hk)

theorem execTagTimeout_quiet {t : Fin 262144} (hin : s.ingress = []) (hk : kd ∉ replyKinds) : SameR kd s (execTagTimeout t s) := by
  refine SameR.next ?_
  split
  · exact s.same_refl
  next e _ =>
  have hquar : s.sameBut replyKinds (({ s with tags := Store.put t.val { e with quar := some s.now } s.tags } : State).count TRK.TOCNT) :=
    ⟨fun hk => State.count_same (State.same_upd_tags (ne_of_outside hk rfl) s.same_refl)⟩
  exact State.same_ite (State.same_ite (hquar.same hk) (((hquar.sendRsp rfl).settleNet hin rfl rfl).same hk)) s.same_refl

theorem State.freeTag_sameBut {key : Nat} : s.sameBut replyKinds (s.freeTag key) :=
  ⟨fun hk => State.freeTag_same (ne_of_outside hk rfl) s.same_refl⟩

theorem execQuarantineEnd_quiet {t : Fin 262144} (hin : s.ingress = []) (hk : kd ∉ replyKinds) :
    SameR kd s (execQuarantineEnd t s) := by
  refine SameR.next ?_
  split
  · exact s.same_refl
  split
  · exact State.same_ite ((State.freeTag_sameBut.settleNet hin rfl rfl).same hk) s.same_refl
  · exact s.same_refl

theorem execQuotaWrite_quiet {d : Fin 11} {v : Word} (hin : s.ingress = []) (hk : kd ∉ replyKinds) : SameR kd s (execQuotaWrite d v s) :=
  have hquota : s.sameBut replyKinds (s.writeQuota d v.toNat) := ⟨fun _ => State.writeQuota_same s.same_refl⟩
  SameR.next ((State.sameBut.access (f := fun s => (s.writeQuota d v.toNat).settleNet) (hquota.settleNet hin rfl rfl) rfl).same hk)

/-- R196: one tag of a walk. -/
theorem State.walkOne_sameBut {d t : Nat} (hin : s.ingress = []) : s.sameBut replyKinds (s.walkOne d t) := by
  unfold State.walkOne
  split
  · exact State.sameBut_refl
  extract_lets s'
  have hfree : s.sameBut replyKinds s' := State.freeTag_sameBut
  have hcount : s.sameBut replyKinds (s'.count TRK.SYNTH) := ⟨fun hk => State.count_same (hfree.same hk)⟩
  refine State.sameBut_ite (State.sameBut_ite State.sameBut_refl ?_) (State.sameBut_ite ?_ State.sameBut_refl)
  · exact State.sameBut_ite (hfree.settleNet hin rfl rfl) ((hcount.sendRsp rfl).settleNet hin rfl rfl)
  · exact State.sameBut.settleNet ⟨fun hk => State.same_upd_tags (ne_of_outside hk rfl) s.same_refl⟩ hin rfl rfl

/-- What a field changes that is switched off at the end of its walk (R497). -/
def fallowKinds : List StateKind :=
  [.programs, .engines, .fabric, .lanes, .capture, .sequencers, .clocks, .debug, .management, .outputs]

/-- What a walk changes: fallowKinds and replyKinds. -/
def walkKinds : List StateKind := fallowKinds ++ replyKinds

theorem State.walkEnd_sameBut {rest : List Nat} (hin : s.ingress = []) : s.sameBut walkKinds (s.walkEnd rest) := by
  unfold State.walkEnd
  extract_lets s1 s2
  have hnext : s.sameBut walkKinds s2 := by
    refine ⟨fun hk => ?_⟩
    have hwalk : s.same _ s1 := State.same_upd_walk_walkTag (ne_of_outside hk rfl) s.same_refl
    unfold s2
    split
    · exact State.lower_same hwalk
    · exact State.set_same hwalk
  exact (hnext.trans (State.sameBut_of_frame (ks := fallowKinds) fun _ => State.fallowEnd_same) rfl).settleNet hin rfl rfl

theorem execFenceWalkStep_quiet (hin : s.ingress = []) (hk : kd ∉ walkKinds) : SameR kd s (execFenceWalkStep s) := by
  refine SameR.next ?_
  split
  · exact s.same_refl
  next d rest _ =>
  have hone : s.sameBut walkKinds (s.walkOne d s.walkTag) := (State.walkOne_sameBut hin).mono rfl
  refine State.same_ite (State.same_upd_walk_walkTag (ne_of_outside hk rfl) (hone.same hk)) ?_
  exact (hone.trans (State.walkEnd_sameBut ((hone.ingress_eq rfl).trans hin)) rfl).same hk

/-! Commands that fence a die, while no roll call runs (R161, R212-R216, R221-R225, R416-R421, R504). -/

/-- What the fence of a die changes (R223). -/
def fenceKinds : List StateKind :=
  [.memory, .reservations, .requests, .qdr, .walkers, .flume, .fabric, .lanes, .capture, .ledger, .log, .debug, .counter]

/-- R213: where no roll call runs, none ends. -/
theorem State.rollEnd_of_notRolling (h : s.boot.rolling = false) : s.rollEnd = s := by
  simp [State.rollEnd, h]

theorem State.sameBut.rollEnd (h : s.sameBut ks t) (hroll : s.boot.rolling = false) (hk : ks.contains .management = false) :
    s.sameBut ks t.rollEnd := by
  rwa [State.rollEnd_of_notRolling (by rw [h.boot_eq hk, hroll])]

/-- R213, R223: what a fence changes while no roll call runs. -/
theorem State.sameBut.rollFence {i fail : Nat} (h : s.sameBut ks t) (hroll : s.boot.rolling = false)
    (hk : ks.contains .management = false) (hsub : fenceKinds.all ks.contains = true) : s.sameBut ks (t.rollFence i fail) :=
  (h.trans (State.sameBut_of_frame (ks := fenceKinds) fun _ => State.fence_same) hsub).rollEnd hroll hk

theorem State.fenceModule_sameBut {n m : Nat} (hroll : s.boot.rolling = false) : s.sameBut fenceKinds (s.fenceModule n m) := by
  unfold State.fenceModule
  extract_lets s1 s2
  have hmod : s.sameBut fenceKinds s2 := ⟨fun hk => State.wires_same (ne_of_outside hk rfl) (State.relive_same
    (State.logEvent_same (ne_of_outside hk rfl) (State.withdraw_same (ne_of_outside hk rfl)
    (State.setMod_same (ne_of_outside hk rfl) (State.set_same (State.set_same s.same_refl))))))⟩
  exact State.sameBut_ite (hmod.rollFence hroll rfl rfl) hmod

/-- R221: what Headworks chooses for a module, or its fence. -/
theorem State.choose_sameBut {n m : Nat} {mf : List Nat} (hroll : s.boot.rolling = false) : s.sameBut fenceKinds (s.choose n m mf) := by
  unfold State.choose
  extract_lets rec_ c
  clear_value c
  cases c with
  | none => exact State.fenceModule_sameBut hroll
  | some c =>
    refine State.sameBut_ite (State.fenceModule_sameBut hroll) (State.sameBut_ite ?_ ?_)
    · exact ⟨fun hk => State.setMod_same (ne_of_outside hk rfl) s.same_refl⟩
    · exact ⟨fun hk => State.sendWidth_same (ne_of_outside hk rfl) (State.setMod_same (ne_of_outside hk rfl) s.same_refl)⟩

theorem State.unable_sameBut {n m : Nat} (hroll : s.boot.rolling = false) : s.sameBut fenceKinds (s.unable n m) :=
  State.sameBut_ite (State.choose_sameBut hroll) (State.fenceModule_sameBut hroll)

theorem State.adopt_sameBut {n m : Nat} (hroll : s.boot.rolling = false) : s.sameBut fenceKinds (s.adopt n m) :=
  State.sameBut_ite (State.choose_sameBut hroll) ⟨fun hk => State.setMod_same (ne_of_outside hk rfl)
    (State.logEvent_same (ne_of_outside hk rfl) (State.raise_same (State.set_same (State.set_same s.same_refl))))⟩

theorem execWreport_quiet {n : FieldId} {m : Fin 8} (hroll : s.boot.rolling = false) (hk : kd ∉ fenceKinds) : SameR kd s (execWreport n m s) :=
  SameR.next (State.same_ite (State.same_ite ((State.choose_sameBut hroll).same hk)
    (State.sendWidth_same (ne_of_outside hk rfl) (State.raise_same s.same_refl))) s.same_refl)

theorem execAdopt_quiet {n : FieldId} {m : Fin 8} (hroll : s.boot.rolling = false) (hk : kd ∉ fenceKinds) : SameR kd s (execAdopt n m s) :=
  SameR.next (State.same_ite ((State.adopt_sameBut hroll).same hk) s.same_refl)

theorem execUnable_quiet {n : FieldId} {m : Fin 8} (hroll : s.boot.rolling = false) (hk : kd ∉ fenceKinds) : SameR kd s (execUnable n m s) :=
  SameR.next (State.same_ite ((State.unable_sameBut hroll).same hk) s.same_refl)

theorem execWidthReplyTimeout_quiet {n : FieldId} {m : Fin 8} (hroll : s.boot.rolling = false) (hk : kd ∉ fenceKinds) :
    SameR kd s (execWidthReplyTimeout n m s) :=
  SameR.next (State.same_ite ((State.unable_sameBut hroll).same hk) s.same_refl)

theorem execSidebandUp_quiet {n : FieldId} {ok : Bool} (hroll : s.boot.rolling = false) (hk : kd ∉ fenceKinds) :
    SameR kd s (execSidebandUp n ok s) :=
  SameR.next (State.same_ite (State.same_ite (State.raise_same (State.set_same s.same_refl))
    ((State.sameBut_refl.rollFence hroll rfl rfl).same hk)) s.same_refl)

theorem execAdmitTimeout_quiet {n : FieldId} (hroll : s.boot.rolling = false) (hk : kd ∉ fenceKinds) :
    SameR kd s (execAdmitTimeout n s) :=
  SameR.next (State.same_ite ((State.sameBut_refl.rollFence hroll rfl rfl).same hk) s.same_refl)

/-- A field's flag raised, and the field fenced. -/
theorem State.raise_rollFence_sameBut {f : Field} {n i fail : Nat} (hroll : s.boot.rolling = false) :
    s.sameBut fenceKinds ((s.raise f n).rollFence i fail) :=
  State.sameBut.rollFence ⟨fun _ => State.raise_same s.same_refl⟩ hroll rfl rfl

theorem execHeartbeatLoss_quiet {n : FieldId} (hroll : s.boot.rolling = false) (hk : kd ∉ fenceKinds) :
    SameR kd s (execHeartbeatLoss n s) :=
  SameR.next (State.same_ite ((State.raise_rollFence_sameBut hroll).same hk) s.same_refl)

theorem execAlarmLow_quiet {n : FieldId} (hroll : s.boot.rolling = false) (hk : kd ∉ fenceKinds) : SameR kd s (execAlarmLow n s) :=
  SameR.next ((State.raise_rollFence_sameBut hroll).same hk)

theorem State.writeFlhCtrl_sameBut {i v : Nat} (hroll : s.boot.rolling = false) : s.sameBut fenceKinds (s.writeFlhCtrl i v) :=
  State.sameBut_ite (State.sameBut_ite (State.raise_rollFence_sameBut hroll) ⟨fun _ => State.raise_same s.same_refl⟩) State.sameBut_refl

theorem execSwFence_quiet {i : SiteId} (hroll : s.boot.rolling = false) (hk : kd ∉ .answer :: fenceKinds) : SameR kd s (execSwFence i s) :=
  SameR.next ((State.sameBut.access (f := fun s => s.writeFlhCtrl i 1) ((State.writeFlhCtrl_sameBut hroll).mono rfl) rfl).same hk)

/-- R161, R212: without a bad reply a beacon changes the clocks alone. -/
theorem execBeacon_good_same {n : FieldId} {flight : Nat} (hk : kd ≠ .clocks) (hs : s0.same kd s) :
    SameR kd s0 (execBeacon n flight false s) :=
  SameR.next (State.same_ite (State.badReply_same (State.beacon_same hk hs))
    (State.setSlave_same hk (State.badReply_same (State.beacon_same hk hs))))

theorem State.hbeat_sameBut {n : Nat} {miss : Bool} (hroll : s.boot.rolling = false) : s.sameBut (.clocks :: fenceKinds) (s.hbeat n miss) := by
  unfold State.hbeat
  extract_lets k v s1 s2
  have hslave : s.sameBut (.clocks :: fenceKinds) s1 := ⟨fun hk => State.setSlave_same (ne_of_outside hk rfl) s.same_refl⟩
  have hlost : s.sameBut (.clocks :: fenceKinds) s2 := ⟨fun hk => State.raise_same (hslave.same hk)⟩
  exact State.sameBut_ite State.sameBut_refl (State.sameBut_ite (State.sameBut_ite (hlost.rollFence hroll rfl rfl) hlost) hslave)

theorem execBeacon_quiet {n : FieldId} {flight : Nat} {bad : Bool} (hroll : s.boot.rolling = false) (hk : kd ∉ .clocks :: fenceKinds) :
    SameR kd s (execBeacon n flight bad s) :=
  have hbeacon : s.sameBut (.clocks :: fenceKinds) ((s.beacon n flight).badReply n bad) :=
    ⟨fun hk => State.badReply_same (State.beacon_same (ne_of_outside hk rfl) s.same_refl)⟩
  SameR.next ((hbeacon.trans (State.hbeat_sameBut (hbeacon.boot_eq rfl ▸ hroll)) rfl).same hk)

theorem State.rollDie_sameBut {n dtype rev strap serial : Nat} {rep : List Word} (hroll : s.boot.rolling = false) :
    s.sameBut fenceKinds (s.rollDie n dtype rev strap serial rep) := by
  unfold State.rollDie
  extract_lets a s1 s2 s3 s4
  have hid : s.sameBut fenceKinds s4 := ⟨fun _ => State.same_foldl (fun _ _ h => State.set_same (State.setB_same (State.setB_same h)))
    (State.set_same (State.set_same (State.set_same (State.set_same (State.set_same (State.set2_same (State.set_same
    (State.set_same s.same_refl))))))))⟩
  have hfence {f : Nat} : s.sameBut fenceKinds (s4.rollFence n f) := hid.rollFence hroll rfl rfl
  refine State.sameBut_ite hfence (State.sameBut_ite hfence (State.sameBut_ite hfence ?_))
  exact ⟨fun hk => State.same_foldl (fun _ _ h => State.set_same (State.set_same h)) (State.set_same (hid.same hk))⟩

theorem execRoll_quiet {n : FieldId} {dtype rev : Fin 16} {strap : Fin 8} {serial : BitVec 64} {rep : List Word}
    (hroll : s.boot.rolling = false) (hk : kd ∉ fenceKinds) : SameR kd s (execRoll n dtype rev strap serial rep s) :=
  SameR.next (State.same_ite ((State.rollDie_sameBut hroll).same hk) s.same_refl)

theorem State.trainModules_sameBut {n : Nat} {hw fd : List (BitVec 88)} (hroll : s.boot.rolling = false) :
    s.sameBut fenceKinds (s.trainModules n hw fd) := by
  unfold State.trainModules
  extract_lets s1
  have hmods : s.sameBut fenceKinds s1 := by
    refine ⟨fun hk => State.same_foldl (fun w m h => ?_) s.same_refl⟩
    dsimp only
    split
    · exact State.moduleUp_same (State.set_same h)
    · exact State.logEvent_same (ne_of_outside hk rfl) (State.set_same (State.set_same (State.set_same h)))
  refine State.sameBut_ite (State.sameBut_refl.rollFence hroll rfl rfl) (State.sameBut_ite ?_ (hmods.rollFence hroll rfl rfl))
  exact ⟨fun hk => State.wires_same (ne_of_outside hk rfl) (State.relive_same (State.set_same (hmods.same hk)))⟩

theorem execModulesTrained_quiet {n : FieldId} {hw fd : List (BitVec 88)} (hroll : s.boot.rolling = false) (hk : kd ∉ fenceKinds) :
    SameR kd s (execModulesTrained n hw fd s) :=
  SameR.next (State.same_ite ((State.trainModules_sameBut hroll).same hk) s.same_refl)

/-! Copy-in (R416-R421). -/

theorem State.copyInFail_sameBut {n err : Nat} (hroll : s.boot.rolling = false) :
    s.sameBut (.programs :: fenceKinds) (s.copyInFail n err) :=
  State.sameBut.rollFence ⟨fun hk => State.same_upd_code (ne_of_outside hk rfl) (State.dropFab_same (ne_of_outside hk rfl)
    (State.clearBasins_same (ne_of_outside hk rfl) (State.set_same (State.set_same (State.set_same s.same_refl)))))⟩ hroll rfl rfl

/-- R417: a copy-in that fails after what it has done so far. -/
theorem State.sameBut.copyInFail {n err : Nat} (h : s.sameBut ks t) (hroll : s.boot.rolling = false)
    (hk : ks.contains .management = false) (hsub : (.programs :: fenceKinds).all ks.contains = true) : s.sameBut ks (t.copyInFail n err) :=
  h.trans (State.copyInFail_sameBut (by rw [h.boot_eq hk, hroll])) hsub

theorem State.keyArrives_sameBut {n : Nat} {ok : Bool} (hroll : s.boot.rolling = false) :
    s.sameBut (.programs :: fenceKinds) (s.keyArrives n ok) := by
  unfold State.keyArrives
  extract_lets slot a s1 s2 e s3 s4
  have hreset : s.sameBut (.programs :: fenceKinds) s2 := ⟨fun hk => State.set_same (State.set_same (State.set_same (State.raise_same
    (State.raise_same (State.set_same (State.dropFab_same (ne_of_outside hk rfl) (State.resetField_same s.same_refl)))))))⟩
  refine State.sameBut_ite (hreset.copyInFail hroll rfl rfl) (State.sameBut_ite (hreset.copyInFail hroll rfl rfl) ⟨fun hk => ?_⟩)
  exact State.set_same (State.showSlots_same (State.same_foldl (fun _ _ h => State.set_same h)
    (State.set_same (State.set_same (State.set_same (hreset.same hk))))))

theorem execKey_quiet {n : FieldId} {ok : Bool} (hroll : s.boot.rolling = false) (hk : kd ∉ .programs :: fenceKinds) :
    SameR kd s (execKey n ok s) :=
  SameR.next (State.same_ite ((State.keyArrives_sameBut hroll).same hk) s.same_refl)

/-- What the copy-in of a field changes: fenceKinds, its code and its settings. -/
def loadKinds : List StateKind := .stores :: .programs :: fenceKinds

theorem State.fieldLoaded_sameBut {n us : Nat} {ok : Bool} {det : List (Fin 8)} (hroll : s.boot.rolling = false) :
    s.sameBut loadKinds (s.fieldLoaded n us ok det) := by
  unfold State.fieldLoaded
  extract_lets slot a s1 s2 s3
  have htime : s.sameBut loadKinds s1 := ⟨fun _ => State.set_same s.same_refl⟩
  have hbody : s.sameBut loadKinds s2 := ⟨fun hk => State.uncheck_same (State.fieldSettings_same
    (ne_of_outside hk rfl) (ne_of_outside hk rfl) (ne_of_outside hk rfl) (State.applyBody_same (ne_of_outside hk rfl)
    (State.loadCode_same (ne_of_outside hk rfl) (htime.same hk))))⟩
  refine State.sameBut_ite (htime.copyInFail hroll rfl rfl) (State.sameBut_ite (htime.copyInFail hroll rfl rfl)
    (State.sameBut_ite (htime.copyInFail hroll rfl rfl) ⟨fun hk => ?_⟩))
  exact State.set_same (State.same_ite (State.autoNext_same (ne_of_outside hk rfl) (hbody.same hk)) (hbody.same hk))

theorem execFieldLoadDone_quiet {n : FieldId} {us : Fin 65536} {ok : Bool} {det : List (Fin 8)} (hroll : s.boot.rolling = false)
    (hk : kd ∉ loadKinds) : SameR kd s (execFieldLoadDone n us ok det s) :=
  SameR.next (State.same_ite ((State.fieldLoaded_sameBut hroll).same hk) s.same_refl)

/-- What the loss of a field changes that is switched off (R504): its fence, and what its units hold. -/
def tripKinds : List StateKind :=
  [.memory, .reservations, .programs, .engines, .requests, .qdr, .walkers, .flume, .fabric, .lanes, .capture, .sequencers, .clocks, .ledger,
    .log, .debug, .outputs, .counter]

theorem execFieldTrip_quiet {n : FieldId} (hroll : s.boot.rolling = false) (hk : kd ∉ tripKinds) : SameR kd s (execFieldTrip n s) := by
  refine SameR.next ?_
  extract_lets s'
  have hlog : s.sameBut tripKinds s' :=
    ⟨fun hk => State.logEvent_same (ne_of_outside hk rfl) (State.used_same (ne_of_outside hk rfl) (State.setBitOf_same s.same_refl))⟩
  have hoff : (s'.rollFence n 9).sameBut [.programs, .engines, .fabric, .lanes, .capture, .sequencers, .clocks, .debug, .outputs]
      ((s'.rollFence n 9).fieldOff n) := State.sameBut_of_frame fun _ => State.fieldOff_same
  exact State.same_ite (((hlog.rollFence hroll rfl rfl).trans hoff rfl).same hk) s.same_refl

/-! Every command. -/

/-- A command leaves every kind of state as it was that mayChange does not give it: exec has one arm for each command, and each meaning that
does not reach every kind has its frame. -/
theorem exec_same (hs : s0.same kd s) (c : Instr) (h : mayChange kd c = false) : SameR kd s0 (exec c s) :=
  match c, h with
  | .bar4WindowSelect .., h => frame_of_kind h hs execBar4WindowSelect_same | .serviceEntry, _ => execServiceEntry_same hs
  | .recoveryAccessEntry, _ => execRecoveryAccessEntry_same hs | .pllEnable .., h => frame_of_kind h hs execPllEnable_same
  | .pllDisable .., h => frame_of_list h hs execPllDisable_same | .pllDividerWrite .., h => frame_of_kind h hs execPllDividerWrite_same
  | .pllLock .., h => frame_of_kind h hs execPllLock_same | .pllUnlock .., h => frame_of_list h hs execPllUnlock_same
  | .laneEnable .., h => frame_of_list h hs execLaneEnable_same | .laneDisable .., h => frame_of_list h hs execLaneDisable_same
  | .calDone .., h => frame_of_list h hs execCalDone_same | .acqComplete .., h => frame_of_list h hs execAcqComplete_same
  | .acqTimeout .., h => frame_of_list h hs execAcqTimeout_same | .lossOfSignal .., h => frame_of_list h hs execLossOfSignal_same
  | .adaptLimitHold .., _ => execAdaptLimitHold_same hs | .txfirStage .., h => frame_of_list h hs execTxfirStage_same
  | .txfirCommit .., h => frame_of_list h hs execTxfirCommit_same | .rxeqWrite .., h => frame_of_kind h hs execRxeqWrite_same
  | .trainRequest .., h => frame_of_list h hs execTrainRequest_same | .rxcal .., h => frame_of_list h hs execRxcal_same
  | .fullCal .., h => frame_of_list h hs execFullCal_same | .readapt .., h => frame_of_list h hs execReadapt_same
  | .queuedCalStart .., h => frame_of_list h hs execQueuedCalStart_same | .loopSelect .., h => frame_of_list h hs execLoopSelect_same
  | .portEnable .., h => frame_of_list h hs execPortEnable_same | .portDisable .., h => frame_of_list h hs execPortDisable_same
  | .wrawBlockReceive .., h => frame_of_list h hs execWrawBlockReceive_same | .autonegResolved .., h => frame_of_list h hs execAutonegResolved_same
  | .pcieRateChange .., h => frame_of_list h hs execPcieRateChange_same
  | .trainingFrameReceive .., h => frame_of_kind h hs execTrainingFrameReceive_same
  | .trainingFrameSend .., h => frame_of_list h hs execTrainingFrameSend_same
  | .trainNoFrameTimeout .., h => frame_of_kind h hs execTrainNoFrameTimeout_same
  | .trainTmaxTimeout .., h => frame_of_kind h hs execTrainTmaxTimeout_same
  | .fabricTrainStrobe .., h => frame_of_kind h hs execFabricTrainStrobe_same
  | .fabricTrainDone .., h => frame_of_kind h hs execFabricTrainDone_same | .fabricTrainFail .., h => frame_of_kind h hs execFabricTrainFail_same
  | .prbsInject .., h => frame_of_list h hs execPrbsInject_same | .prbsClear .., h => frame_of_kind h hs execPrbsClear_same
  | .prbsCheck .., h => frame_of_list h hs execPrbsCheck_same | .eyeScanStart .., h => frame_of_list h hs execEyeScanStart_same
  | .eyeColumnDone .., h => frame_of_list h hs execEyeColumnDone_same | .histClear .., h => frame_of_kind h hs execHistClear_same
  | .cfeEnable .., h => frame_of_list h hs execCfeEnable_same | .cfeCounterClear .., h => frame_of_kind h hs execCfeCounterClear_same
  | .cfeFrame .., h => frame_of_list h hs execCfeFrame_same | .recordJudge .., h => frame_of_list h hs execRecordJudge_same
  | .gapEmit .., h => frame_of_kind h hs execGapEmit_same | .segmentLend .., h => frame_of_kind h hs execSegmentLend_same
  | .segmentClose .., h => frame_of_kind h hs execSegmentClose_same | .segmentDrain, h => frame_of_list h hs execSegmentDrain_same
  | .segmentReturn .., h => frame_of_list h hs execSegmentReturn_same | .laneShareWrite .., h => frame_of_list h hs execLaneShareWrite_same
  | .cisternArm .., h => frame_of_list h hs execCisternArm_same | .cisternDisarm .., h => frame_of_list h hs execCisternDisarm_same
  | .swstart .., h => frame_of_list h hs execSwstart_same | .swstop .., h => frame_of_list h hs execSwstop_same
  | .floatPulse .., h => frame_of_list h hs execFloatPulse_same | .softwareFloat .., h => frame_of_list h hs execSoftwareFloat_same
  | .sequencerEnable .., h => frame_of_list h hs execSequencerEnable_same | .sequencerDisable .., h => frame_of_list h hs execSequencerDisable_same
  | .eventTransition, h => frame_of_list h hs execEventTransition_same | .timerTransition, h => frame_of_list h hs execTimerTransition_same
  | .cfeStopAck .., h => frame_of_list h hs execCfeStopAck_same | .cisternPublish .., h => frame_of_list h hs execCisternPublish_same
  | .floatStampCapture, h => frame_of_kind h hs execFloatStampCapture_same | .furrowOwnSelect .., h => frame_of_kind h hs execFurrowOwnSelect_same
  | .furrowLoad .., h => frame_of_kind h hs execFurrowLoad_same | .furrowLoadDone .., h => frame_of_list h hs execFurrowLoadDone_same
  | .furrowArm .., h => frame_of_list h hs execFurrowArm_same | .furrowPrimed .., _ => execFurrowPrimed_same hs
  | .furrowGo .., h => frame_of_list h hs execFurrowGo_same | .furrowStop .., h => frame_of_list h hs execFurrowStop_same
  | .furrowAbort .., h => frame_of_list h hs execFurrowAbort_same | .furrowDisarm .., h => frame_of_kind h hs execFurrowDisarm_same
  | .furrowLaunch .., h => frame_of_kind h hs execFurrowLaunch_same | .furrowDone .., h => frame_of_kind h hs execFurrowDone_same
  | .furrowSourceError .., h => frame_of_list h hs execFurrowSourceError_same | .furNop .., h => frame_of_kind h hs execFurNop_same
  | .furSend .., h => frame_of_list h hs execFurSend_same | .furRepeat .., h => frame_of_kind h hs execFurRepeat_same
  | .waitTime .., h => frame_of_kind h hs execWaitTime_same | .waitTimeElapsed .., h => frame_of_kind h hs execWaitTimeElapsed_same
  | .waitFloat .., h => frame_of_kind h hs execWaitFloat_same | .waitFloatTimeout .., h => frame_of_kind h hs execWaitFloatTimeout_same
  | .jump .., h => frame_of_kind h hs execJump_same | .loop .., h => frame_of_kind h hs execLoop_same
  | .insertCounter .., h => frame_of_kind h hs execInsertCounter_same | .insertTimestamp .., h => frame_of_kind h hs execInsertTimestamp_same
  | .recomputeFcs .., h => frame_of_kind h hs execRecomputeFcs_same | .inject .., h => frame_of_kind h hs execInject_same
  | .furHalt .., h => frame_of_kind h hs execFurHalt_same | .frameStart .., h => frame_of_list h hs execFrameStart_same
  | .underrun .., h => frame_of_list h hs execUnderrun_same | .tclkLost, h => frame_of_list h hs execTclkLost_same
  | .tclkRestored, h => frame_of_list h hs execTclkRestored_same | .dtcSnapshot .., h => frame_of_kind h hs execDtcSnapshot_same
  | .dtcSet, h => frame_of_list h hs execDtcSet_same | .dtcAdj, h => frame_of_list h hs execDtcAdj_same
  | .dtcApply, h => frame_of_kind h hs execDtcApply_same | .dtcIncrCommit .., h => frame_of_list h hs execDtcIncrCommit_same
  | .beacon _ _ false, h => frame_of_kind h hs execBeacon_good_same | .beacon _ _ true, h => nomatch h | .delay .., _ => execDelay_same hs
  | .timeCalRequest .., h => frame_of_list h hs execTimeCalRequest_same | .timeCalDone .., h => frame_of_list h hs execTimeCalDone_same
  | .ptpMessage .., h => frame_of_list h hs execPtpMessage_same | .servoHoldover, h => frame_of_kind h hs execServoHoldover_same
  | .ppsInEdge, h => frame_of_list h hs execPpsInEdge_same | .ppsiCaptureStart, h => frame_of_list h hs execPpsiCaptureStart_same
  | .ppsiCaptureTimeout, h => frame_of_kind h hs execPpsiCaptureTimeout_same | .ppsOutRise, h => frame_of_kind h hs execPpsOutRise_same
  | .ppsOutFall, h => frame_of_kind h hs execPpsOutFall_same | .shareWindowStart .., h => frame_of_kind h hs execShareWindowStart_same
  | .shareTableWrite .., h => frame_of_kind h hs execShareTableWrite_same | .shareMapWrite .., h => frame_of_kind h hs execShareMapWrite_same
  | .canalCounterClear .., h => frame_of_kind h hs execCanalCounterClear_same | .replay .., h => frame_of_kind h hs execReplay_same
  | .moduleRetrain .., h => frame_of_list h hs execModuleRetrain_same | .retrainCommand .., h => frame_of_list h hs execRetrainCommand_same
  | .retrainLaneTestDone .., h => frame_of_kind h hs execRetrainLaneTestDone_same | .width .., h => frame_of_kind h hs execWidth_same
  | .retrainComplete .., h => frame_of_list h hs execRetrainComplete_same | .alarmCause .., _ => execAlarmCause_same hs
  | .fence .., h => frame_of_list h hs execFence_same | .turnoutTrain .., h => frame_of_list h hs execTurnoutTrain_same
  | .turnoutUnit .., h => frame_of_list h hs execTurnoutUnit_same | .turnoutLinkTimeout .., h => frame_of_list h hs execTurnoutLinkTimeout_same
  | .loopbackTest .., h => frame_of_list h hs execLoopbackTest_same | .loopbackDone .., _ => execLoopbackDone_same hs
  | .hbmCommandIssue .., h => frame_of_list h hs execHbmCommandIssue_same | .refreshDue .., h => frame_of_kind h hs execRefreshDue_same
  | .rowIdleClose .., h => frame_of_kind h hs execRowIdleClose_same | .hbmTempRead .., _ => execHbmTempRead_same hs
  | .shadowWrite .., h => frame_of_kind h hs execShadowWrite_same | .freqChange .., h => frame_of_kind h hs execFreqChange_same
  | .freqChangeDone .., h => frame_of_list h hs execFreqChangeDone_same | .hbmTrain .., h => frame_of_list h hs execHbmTrain_same
  | .helperCa .., h => frame_of_list h hs execHelperCa_same | .helperRd .., h => frame_of_list h hs execHelperRd_same
  | .helperWrrd .., h => frame_of_list h hs execHelperWrrd_same | .helperWdqs .., h => frame_of_list h hs execHelperWdqs_same
  | .helperDone .., _ => execHelperDone_same hs | .hbmFreeze .., h => frame_of_list h hs execHbmFreeze_same
  | .qdrTrainDone .., h => frame_of_list h hs execQdrTrainDone_same | .qdrFreeze .., h => frame_of_list h hs execQdrFreeze_same
  | .qdrUserRequest .., h => frame_of_list h hs execQdrUserRequest_same | .walkStep .., h => frame_of_list h hs execWalkStep_same
  | .walkerWriteBack .., h => frame_of_list h hs execWalkerWriteBack_same | .walkEpoch .., h => frame_of_list h hs execWalkEpoch_same
  | .check .., h => frame_of_list h hs execCheck_same | .scrub .., h => frame_of_list h hs execScrub_same
  | .init .., h => frame_of_list h hs execInit_same | .rangePassStep .., h => frame_of_list h hs execRangePassStep_same
  | .regionCodeWrite .., h => frame_of_list h hs execRegionCodeWrite_same | .frameScan .., h => frame_of_kind h hs execFrameScan_same
  | .tmrVote .., h => frame_of_kind h hs execTmrVote_same | .fabricFloatOut .., h => frame_of_list h hs execFabricFloatOut_same
  | .userRegIn .., h => frame_of_list h hs execUserRegIn_same | .userRegOut .., _ => execUserRegOut_same hs
  | .fabricPllUnlock .., _ => execFabricPllUnlock_same hs | .wclkLoss .., h => frame_of_kind h hs execWclkLoss_same
  | .basinAccess .., h => frame_of_list h hs execBasinAccess_same | .reservoirRead .., h => frame_of_list h hs execReservoirRead_same
  | .reservoirWrite .., h => frame_of_list h hs execReservoirWrite_same | .reservoirLl .., h => frame_of_list h hs execReservoirLl_same
  | .reservoirSc .., h => frame_of_list h hs execReservoirSc_same | .reservoirFetch .., h => frame_of_list h hs execReservoirFetch_same
  | .reservoirLock .., h => frame_of_kind h hs execReservoirLock_same | .engineStart .., h => frame_of_list h hs execEngineStart_same
  | .engineReset .., h => frame_of_list h hs execEngineReset_same | .engineResetDone .., h => frame_of_list h hs execEngineResetDone_same
  | .engineResetWedged .., h => frame_of_kind h hs execEngineResetWedged_same | .patchLoad .., h => frame_of_list h hs execPatchLoad_same
  | .patchLoadDone .., h => frame_of_list h hs execPatchLoadDone_same | .watchdogExpiry .., h => frame_of_list h hs execWatchdogExpiry_same
  | .clusterClockStop .., _ => execClusterClockStop_same hs | .xyExternalAccess .., h => frame_of_list h hs execXyExternalAccess_same
  | .rillNop .., h => frame_of_list h hs execRillNop_same | .cmac .., h => frame_of_list h hs execCmac_same
  | .dmac .., h => frame_of_list h hs execDmac_same | .bfly .., h => frame_of_list h hs execBfly_same
  | .aop .., h => frame_of_list h hs execAop_same | .ast .., h => frame_of_list h hs execAst_same | .calu .., h => frame_of_list h hs execCalu_same
  | .ralu .., h => frame_of_list h hs execRalu_same | .acs .., h => frame_of_list h hs execAcs_same
  | .bexp .., h => frame_of_list h hs execBexp_same | .scale .., h => frame_of_list h hs execScale_same
  | .ldi .., h => frame_of_list h hs execLdi_same | .movr .., h => frame_of_list h hs execMovr_same | .stb .., h => frame_of_list h hs execStb_same
  | .br .., h => frame_of_list h hs execBr_same | .call .., h => frame_of_list h hs execCall_same | .jmpr .., h => frame_of_list h hs execJmpr_same
  | .doLoop .., h => frame_of_list h hs execDo_same | .rillStop .., h => frame_of_list h hs execRillStop_same
  | .wdr .., h => frame_of_list h hs execWdr_same | .rillLoad .., h => frame_of_list h hs execRillLoad_same
  | .store .., h => frame_of_list h hs execStore_same | .rillLl .., h => frame_of_list h hs execRillLl_same
  | .rillSc .., h => frame_of_list h hs execRillSc_same | .rillAmo .., h => frame_of_list h hs execRillAmo_same
  | .blk .., h => frame_of_list h hs execBlk_same | .rillFlush .., h => frame_of_list h hs execRillFlush_same
  | .bwait .., h => frame_of_list h hs execBwait_same | .blockTransferDone .., h => frame_of_list h hs execBlockTransferDone_same
  | .linkTrain .., _ => execLinkTrain_same hs | .linkDown, h => frame_of_kind h hs execLinkDown_same
  | .perstRelease .., h => frame_of_list h hs execPerstRelease_same | .configRequest .., h => frame_of_list h hs execConfigRequest_same
  | .decoderCommit .., h => frame_of_list h hs execDecoderCommit_same | .ledgerEntryWrite .., h => frame_of_list h hs execLedgerEntryWrite_same
  | .ledgerRelease .., h => frame_of_list h hs execLedgerRelease_same | .mirrorEnable .., h => frame_of_kind h hs execMirrorEnable_same
  | .completionRingReset .., h => frame_of_kind h hs execCompletionRingReset_same | .ledgerVector .., h => frame_of_list h hs execLedgerVector_same
  | .vectorArm .., h => frame_of_list h hs execVectorArm_same | .getTimestamp .., h => frame_of_list h hs execGetTimestamp_same
  | .setTimestamp .., h => frame_of_list h hs (execSetTimestamp_same (_p := []))
  | .getSupportedLogs .., h => frame_of_list h hs execGetSupportedLogs_same | .getLog .., h => frame_of_list h hs execGetLog_same
  | .getRollcall .., h => frame_of_list h hs execGetRollcall_same | .getEvents .., h => frame_of_list h hs execGetEvents_same
  | .copyCmd .., h => frame_of_list h hs execCopy_same | .copyStep, h => frame_of_list h hs execCopyStep_same
  | .bundleBegin .., h => frame_of_list h hs execBundleBegin_same | .bundleData .., h => frame_of_list h hs execBundleData_same
  | .bundlePartWritten .., h => frame_of_list h hs execBundlePartWritten_same | .bundleEnd .., h => frame_of_list h hs execBundleEnd_same
  | .releasePoint .., _ => execReleasePoint_same hs | .syncTimeout, _ => execSyncTimeout_same hs
  | .startupStep .., h => frame_of_list h hs execStartupStep_same | .parcelSwap .., h => frame_of_list h hs execParcelSwap_same
  | .parcelDrained .., h => frame_of_list h hs execParcelDrained_same | .parcelWritten .., h => frame_of_list h hs execParcelWritten_same
  | .parcelActive .., h => frame_of_list h hs execParcelActive_same | .parcelWedged .., h => frame_of_list h hs execParcelWedged_same
  | .ownerEnrol .., h => frame_of_list h hs execOwnerEnrol_same | .cancel, h => frame_of_list h hs execCancel_same
  | .abortStage, h => frame_of_list h hs execAbort_same | .confirm .., h => frame_of_list h hs execConfirm_same
  | .mspGapTimeout, h => frame_of_kind h hs execMspGapTimeout_same | .peekRead .., h => frame_of_list h hs execPeekRead_same
  | .debugUnitWrite .., h => frame_of_kind h hs execDebugUnitWrite_same | .engineHalt .., h => frame_of_list h hs execEngineHalt_same
  | .engineResume .., h => frame_of_list h hs execEngineResume_same | .engineStep .., h => frame_of_list h hs execEngineStep_same
  | .haltDeferTimeout .., h => frame_of_list h hs execHaltDeferTimeout_same | .stimulusWrite .., h => frame_of_list h hs execStimulusWrite_same
  | .fabricStimulus .., h => frame_of_list h hs execFabricStimulus_same | .tracePacketWrite .., h => frame_of_list h hs execTracePacketWrite_same
  | .traceEnable .., h => frame_of_list h hs execTraceEnable_same | .gaugeChallenge, h => frame_of_list h hs execGaugeChallenge_same
  | .gaugeUnlock, h => frame_of_list h hs execGaugeUnlock_same | .relock, h => frame_of_list h hs execRelock_same
  | .gaugeExpiry, _ => execGaugeExpiry_same hs | .gaugeSelect .., h => frame_of_kind h hs execGaugeSelect_same
  | .bypass .., h => frame_of_list h hs execBypass_same | .idcode .., h => frame_of_list h hs execIdcode_same
  | .samplePreload .., h => frame_of_list h hs execSamplePreload_same | .extest .., h => frame_of_list h hs execExtest_same
  | .extestPulse .., h => frame_of_list h hs execExtestPulse_same | .extestTrain .., h => frame_of_list h hs execExtestTrain_same
  | .clamp .., h => frame_of_list h hs execClamp_same | .highz .., h => frame_of_list h hs execHighz_same
  | .standalone .., h => frame_of_list h hs execStandalone_same | .lbresult .., h => frame_of_list h hs execLbresult_same
  | .fallowAtpkrWrite .., h => frame_of_kind h hs execFallowAtpkrWrite_same | .hbmOpChange .., h => frame_of_kind h hs execHbmOpChange_same
  | .quadGate .., _ => execQuadGate_same hs | .quadWake .., h => frame_of_list h hs execQuadWake_same | .bankGate .., _ => execBankGate_same hs
  | .powerLimit, h => frame_of_list h hs execPowerLimit_same | .supplyWarn .., h => frame_of_kind h hs execSupplyWarn_same
  | .pkrRelease .., h => frame_of_list h hs execPkrRelease_same | .hbmClockLost .., h => frame_of_list h hs execHbmClockLost_same
  | .flumeClockLost .., h => frame_of_list h hs execFlumeClockLost_same | .ethBlockReceive .., h => frame_of_list h hs execEthBlockReceive_same
  | .pcieBlockReceive .., h => frame_of_list h hs execPcieBlockReceive_same
  | .ieeeTrainingFrameReceive .., h => frame_of_list h hs execIeeeTrainingFrameReceive_same
  | .holdoffExpiry, h => frame_of_list h hs execHoldoffExpiry_same
  | .automaticInitRegionDone .., h => frame_of_list h hs execAutomaticInitRegionDone_same
  | .fabricPllLock .., h => frame_of_list h hs execFabricPllLock_same | .wclkRestored .., h => frame_of_kind h hs execWclkRestored_same
  | .registerWrite .., h | .rd .., h | .wr .., h | .amo .., h | .flush .., h | .pwrPost .., h | .rdata .., h | .cpl .., h | .crd .., h | .cwr .., h
  | .crsp .., h | .audit .., h | .creditReturn .., h | .tagTimeout .., h | .quarantineEnd .., h | .fenceWalkStep, h | .quotaWrite .., h
  | .wreport .., h | .adopt .., h | .unable .., h | .widthReplyTimeout .., h | .rollCallStart, h | .sidebandUp .., h | .roll .., h
  | .modulesTrained .., h | .key .., h | .fieldReady .., h | .admitTimeout .., h | .heartbeatLoss .., h | .alarmLow .., h | .swFence .., h
  | .rillAccessReturn .., h | .perstAssert, h | .hotReset, h | .bar0Read .., h | .bar0Write .., h | .bar4Read .., h | .bar4Write .., h
  | .memrd .., h | .memwr .., h | .fieldLoadDone .., h | .settingsMigration .., h | .trialWindowExpiry, h | .wmOpen .., h | .wmClose .., h
  | .wmPing .., h | .wmRd .., h | .wmWr .., h | .mrd .., h | .mwr .., h | .wmHalt .., h | .wmResume .., h | .wmStep .., h | .rreg .., h
  | .wreg .., h | .wmLog .., h | .gunlock .., h | .whcRequest .., h | .rspack, h | .evtack, h | .testEnChange .., h | .dormant .., h
  | .fallow .., h | .dwake, h | .wakeTimer, h | .sensorRead .., h | .fieldTrip .., h | .packageTrip, h | .brownOut .., h | .por .., h
  | .packageResetCommand .., h | .mcWatchdog, h | .refclkLost, h | .fabricPllLockTimeout .., h => nomatch h

/-- The same of what quietChange does not give it, while nothing waits at ingress and no roll call runs. -/
theorem exec_quiet (c : Instr) (h : quietChange kd c = false) (hin : s.ingress = []) (hroll : s.boot.rolling = false) :
    SameR kd s (exec c s) := by
  cases c
  case beacon n flight bad =>
    cases bad with
    | false => exact frame_of_kind h s.same_refl execBeacon_good_same
    | true => exact execBeacon_quiet hroll (outside_of_contains h rfl)
  case rdata => exact execRdata_quiet hin (outside_of_contains h rfl)
  case cpl => exact execCpl_quiet hin (outside_of_contains h rfl)
  case crsp => exact execCrsp_quiet hin (outside_of_contains h rfl)
  case audit => exact execAudit_quiet hin (outside_of_contains h rfl)
  case creditReturn => exact execCreditReturn_quiet hin (outside_of_contains h rfl)
  case tagTimeout => exact execTagTimeout_quiet hin (outside_of_contains h rfl)
  case quarantineEnd => exact execQuarantineEnd_quiet hin (outside_of_contains h rfl)
  case fenceWalkStep => exact execFenceWalkStep_quiet hin (outside_of_contains h rfl)
  case quotaWrite => exact execQuotaWrite_quiet hin (outside_of_contains h rfl)
  case wreport => exact execWreport_quiet hroll (outside_of_contains h rfl)
  case adopt => exact execAdopt_quiet hroll (outside_of_contains h rfl)
  case unable => exact execUnable_quiet hroll (outside_of_contains h rfl)
  case widthReplyTimeout => exact execWidthReplyTimeout_quiet hroll (outside_of_contains h rfl)
  case sidebandUp => exact execSidebandUp_quiet hroll (outside_of_contains h rfl)
  case roll => exact execRoll_quiet hroll (outside_of_contains h rfl)
  case modulesTrained => exact execModulesTrained_quiet hroll (outside_of_contains h rfl)
  case key => exact execKey_quiet hroll (outside_of_contains h rfl)
  case admitTimeout => exact execAdmitTimeout_quiet hroll (outside_of_contains h rfl)
  case heartbeatLoss => exact execHeartbeatLoss_quiet hroll (outside_of_contains h rfl)
  case alarmLow => exact execAlarmLow_quiet hroll (outside_of_contains h rfl)
  case swFence => exact execSwFence_quiet hroll (outside_of_contains h rfl)
  case fieldLoadDone => exact execFieldLoadDone_quiet hroll (outside_of_contains h rfl)
  case fieldTrip => exact execFieldTrip_quiet hroll (outside_of_contains h rfl)
  all_goals exact exec_same s.same_refl _ h

/-- Settles O6, by the frame of each command (exec_same), that of each command while nothing waits (exec_quiet), and what a same memory
reads. -/
theorem commandFrames : Obligations.CommandFrames :=
  ⟨fun _ c s t h ht => exec_same s.same_refl c h t ht, fun _ c _ t h hin hroll ht => exec_quiet c h hin hroll t ht,
    fun c s t a h ht => State.same_memByte (exec_same s.same_refl c h t ht) a⟩

end Sys2Proof.Machine
end

section
/-! PROOFS. PLLs, lanes and their calibration (spec/02_lanes.md), and training (spec/03_lane_coding.md): each command's clauses pick the branches
of its meaning, and a command by registers acts where its block is reached. -/
namespace Sys2Proof.Machine

variable {s t : State}

/-- A command by an access to a block that is reached completes with the access's effect, answered OK. -/
theorem next_access_open {b : Blk} {n : Nat} {f : State → State} (hopen : s.barred b n = none) (hf : f s = t) :
    (.next (s.access b n f) : Result) = .next (t.answer .ok) := by
  rw [s.access_open hopen f, hf]

/-! PLLs (R49, R72). -/

/-- Each field from which a PLL's range is judged lies apart from its enable bit. -/
theorem pllRegs_key_ne_en (b : Bool) (q : Nat) {g : Field}
    (hg : g ∈ [(pllRegs b).ref, (pllRegs b).nint, (pllRegs b).nnum, (pllRegs b).nden]) : g.key q 0 0 ≠ (pllRegs b).en.key q 0 0 := by
  simp only [List.mem_cons, List.not_mem_nil, or_false] at hg
  rcases hg with rfl | rfl | rfl | rfl <;> cases b <;>
    simp only [pllRegs, if_true, Bool.false_eq_true, if_false, LNQ.CTRL_PLLA_EN_key, LNQ.CTRL_PLLB_EN_key, LNQ.CTRL_REFA_key,
      LNQ.CTRL_REFB_key, LNQ.PLLA_N_NINT_key, LNQ.PLLB_N_NINT_key, LNQ.PLLA_F_NNUM_key, LNQ.PLLB_F_NNUM_key, LNQ.PLLA_F_NDEN_key,
      LNQ.PLLB_F_NDEN_key] <;> omega

/-- R49: a PLL's range is judged alike before and after its enable bit is written. -/
theorem State.pllInRange_set_en (s : State) (q : Nat) (b : Bool) (v : Nat) :
    (s.set (pllRegs b).en v q).pllInRange q b = s.pllInRange q b := by
  have hget {g : Field} (hg : g ∈ [(pllRegs b).ref, (pllRegs b).nint, (pllRegs b).nnum, (pllRegs b).nden]) :
      (s.set (pllRegs b).en v q).get g q = s.get g q := s.get_set_ne (pllRegs_key_ne_en b q hg) v
  have hden : (s.set (pllRegs b).en v q).get (pllRegs b).nden q = s.get (pllRegs b).nden q := hget (by simp)
  have hkhz (i : Nat) : (s.set (pllRegs b).en v q).refKhz (q / 4) i = s.refKhz (q / 4) i := rfl
  have hfreq : (s.set (pllRegs b).en v q).pllFreq q b = s.pllFreq q b := by simp [State.pllFreq, hget, hkhz]
  unfold State.pllInRange
  rw [hfreq, hden]

/-- R49, R72: a PLL that is enabled is judged against its range. -/
theorem State.pllEnable_of_off {q : Nat} {b : Bool} (hoff : s.flag (pllRegs b).en q = false) :
    s.pllEnable q b =
      (s.set (pllRegs b).en 1 q).set (pllRegs b).range (if (s.set (pllRegs b).en 1 q).pllInRange q b then 0 else 1) q := by
  rw [State.pllInRange_set_en, State.pllEnable, hoff]
  cases s.pllInRange q b <;> rfl

/-- Setting the enable bit of an enabled PLL changes nothing. -/
theorem State.pllEnable_of_on {q : Nat} {b : Bool} (hon : s.flag (pllRegs b).en q = true) : s.pllEnable q b = s := if_pos hon

/-- R72: a PLL that is disabled loses its lock, and the lanes that use it wait for it. -/
theorem State.pllDisable_of_on {q : Nat} {b : Bool} (hon : s.flag (pllRegs b).en q = true) :
    s.pllDisable q b = ((s.set (pllRegs b).en 0 q).set (pllRegs b).lock 0 q).dropLanes q b := if_pos hon

/-- R72: the divider registers of an enabled PLL ignore writes. -/
theorem State.writePllWord_of_on {q : Nat} {b : Bool} (hon : s.flag (pllRegs b).en q = true) (f : Bool) (v : Nat) :
    s.writePllWord q b f v = s := if_pos hon

/-- R72: the integer multiplier of a disabled PLL takes what is written. -/
theorem State.writePllWord_nint {q : Nat} {b : Bool} (hoff : s.flag (pllRegs b).en q = false) (v : Nat) :
    s.writePllWord q b false v = s.set (pllRegs b).nint (bitsOf v 0 10) q := if_neg (Bool.eq_false_iff.1 hoff)

/-- R72: an enabled PLL that has locked loses its lock with UNLK, and the lanes that use it wait for it. -/
theorem State.pllUnlock_of_locked {q : Nat} {b : Bool} (hon : s.flag (pllRegs b).en q = true) (hlock : s.flag (pllRegs b).lock q = true) :
    s.pllUnlock q b = ((s.set (pllRegs b).lock 0 q).set (pllRegs b).unlk 1 q).dropLanes q b :=
  if_pos (Bool.and_eq_true_iff.2 ⟨hon, hlock⟩)

/-! Transmit and receive sets (R55, R56, R60). -/

/-- R55: LN_TXFIR0 stages what is written, but in TRAIN. -/
theorem State.stageFir_staged {l : Nat} (htrain : s.get LN.STAT_STATE l ≠ 4) (v : Nat) :
    s.stageFir l v = s.setLane l { s.lane l with stage0 := some v } := if_neg htrain

/-- R55: in TRAIN a write of LN_TXFIR0 is ignored with FIRERR. -/
theorem State.stageFir_inTrain {l : Nat} (htrain : s.get LN.STAT_STATE l = 4) (v : Nat) :
    s.stageFir l v = s.set LN.STAT_FIRERR 1 l := if_pos htrain

/-- The transmit set that a write of v to LN_TXFIR1 commits with the staged word w. -/
def stagedSet (w v : Nat) : TxSet :=
  { txStart w v with post1 := signedOf (bitsOf v 0 8) 8, post2 := signedOf (bitsOf v 8 8) 8 }

/-- R55: a write of LN_TXFIR1 puts a valid set in force with what was staged, which is staged no longer. -/
theorem State.commitFir_staged {l v w : Nat} (htrain : s.get LN.STAT_STATE l ≠ 4) (hstage : (s.lane l).stage0 = some w)
    (hvalid : s.txOk l (stagedSet w v) = true) :
    s.commitFir l v =
      ((s.setTx l (stagedSet w v)).set LN.TXFIR1_AMP (bitsOf v 16 3) l).setLane l { s.lane l with stage0 := none } := by
  rw [State.commitFir, if_neg htrain]
  simp only [hstage]
  exact if_pos hvalid

/-- R60: outside FIXED a write of a receive register is ignored. -/
theorem State.writeRx_adapting {l : Nat} (hadapt : s.get LN.CTRL_ADAPT l ≠ 2) (r v : Nat) : s.writeRx l r v = s := if_pos hadapt

/-- R56, R60: in FIXED a write of LN_MLSE acts within the limits of the entry and of the hardware, and sets FIRERR outside them. -/
theorem State.writeRx_mlse {l : Nat} (hfixed : s.get LN.CTRL_ADAPT l = 2) (v : Nat) :
    s.writeRx l 4 v =
      if bitsOf v 0 8 ≤ min (bitsOf (s.entryWord l (s.get LN.CTRL_RCLASS l) 5) 24 8) 192 ∧
          (signedOf (bitsOf v 8 8) 8).natAbs ≤ min (bitsOf (s.entryWord l (s.get LN.CTRL_RCLASS l) 5) 8 8) 63 then
        (s.set LN.MLSE_ALPHA (bitsOf v 0 8) l).set LN.MLSE_BETA (bitsOf v 8 8) l
      else s.set LN.STAT_FIRERR 1 l := by
  rw [State.writeRx, if_neg (not_not_intro hfixed)]
  rfl

/-- Settles O43, clause by clause: the conditions of a clause pick one branch of its command's operation. -/
theorem pllAndEqualiserCommands : Obligations.PllAndEqualiserCommands := by
  refine ⟨?enable, ?enabled, ?disable, ?dividerHeld, ?divider, ?lock, ?noLock, ?unlock, ?stage, ?stageInTrain, ?commit, ?adapting, ?mlse,
    ?mlseLimit, ?atLimit⟩
  case enable => intro q b s hopen hoff; exact next_access_open hopen (State.pllEnable_of_off hoff)
  case enabled => intro q b s hopen hon; exact next_access_open hopen (State.pllEnable_of_on hon)
  case disable => intro q b s hopen hon; exact next_access_open hopen (State.pllDisable_of_on hon)
  case dividerHeld => intro q b f v s hopen hon; exact next_access_open hopen (State.writePllWord_of_on hon f v.toNat)
  case divider => intro q b v s hopen hoff; exact next_access_open hopen (State.writePllWord_nint hoff v.toNat)
  case lock => intro q b s hon hrange; simp [exec, execPllLock, hon, hrange]
  case noLock => intro q b s hrange; simp [exec, execPllLock, hrange]
  case unlock => intro q b s hon hlock; exact congrArg Host.Outcome.next (State.pllUnlock_of_locked hon hlock)
  case stage => intro l v s hopen htrain; exact next_access_open hopen (State.stageFir_staged htrain v.toNat)
  case stageInTrain => intro l v s hopen htrain; exact next_access_open hopen (State.stageFir_inTrain htrain v.toNat)
  case commit =>
    intro l v w s hopen htrain hstage hvalid
    exact next_access_open hopen (State.commitFir_staged htrain hstage hvalid)
  case adapting => intro l r v s hopen hadapt; exact next_access_open hopen (State.writeRx_adapting hadapt r v.toNat)
  case mlse =>
    intro l v s hopen hfixed halpha halphaMax hbeta hbetaMax
    have hwithin := And.intro (Nat.le_min.2 ⟨halpha, halphaMax⟩) (Nat.le_min.2 ⟨hbeta, hbetaMax⟩)
    exact next_access_open hopen ((State.writeRx_mlse hfixed v.toNat).trans (if_pos hwithin))
  case mlseLimit =>
    intro l v s hopen hfixed hbeyond
    exact next_access_open hopen ((State.writeRx_mlse hfixed v.toNat).trans (if_neg fun h => by omega))
  case atLimit => intro l s hadapt hacq; simp [exec, execAdaptLimitHold, hadapt, hacq]

/-! Bring-up and loss of a lane (R67 to R71, R77). -/

/-- R77: a lane below ACQ whose LOOP changes to other than FAR has nothing to retransmit. -/
theorem State.loopChanged_below {l : Nat} (hst : s.get LN.STAT_STATE l < 3) (hfar : s.get LN.CTRL_LOOP l ≠ 2) :
    s.loopChanged l = s.setLane l { s.lane l with rxBits := [], echo := [] } := by
  have hacq : ¬ (3 ≤ s.get LN.STAT_STATE l ∧ s.get LN.STAT_STATE l ≤ 5) := fun h => by omega
  simp only [State.loopChanged, if_neg hacq, if_neg hfar]

/-- R77: a READY lane whose LOOP changes re-enters ACQ; in FAR it retransmits after its latency. -/
theorem State.loopChanged_ready {l : Nat} (hst : s.get LN.STAT_STATE l = 5) (ht : t = (s.leaveReady l).set LN.STAT_STATE 3 l) :
    s.loopChanged l = t.setLane l { t.lane l with
      rxBits := [], echo := if t.get LN.CTRL_LOOP l = 2 then List.replicate (t.rxLatency l + 24) 0 else [] } := by
  subst ht
  simp [State.loopChanged, hst]

/-- A LOOP that is defined and new is set, and the lane follows it. -/
theorem exec_loopSelect_new {l : LaneId} {m : Fin 4} (hopen : s.barred .LN (fieldOf l) = none) (hdefined : m.val ≠ 3)
    (hnew : m.val ≠ s.get LN.CTRL_LOOP l) (ht : (s.set LN.CTRL_LOOP m l).loopChanged l = t) :
    exec (.loopSelect l m) s = .next (t.answer .ok) :=
  next_access_open hopen ((if_neg (not_or.2 ⟨hdefined, hnew⟩)).trans ht)

/-- R68: in FIXED, and with no calibration to fail, an ACQ that does not end in time is counted and loads no receive set. -/
theorem exec_acqTimeout_fixed {l : LaneId} (hacq : s.get LN.STAT_STATE l = 3) (hfixed : s.get LN.CTRL_ADAPT l = 2)
    (hcal : (s.lane l).cal = none) : exec (.acqTimeout l) s = .next (s.count LN.EVCNT_ACQFAIL 1 l) := by
  have hload : s.loadRx l = s := if_pos hfixed
  have hlane : ((s.count LN.EVCNT_ACQFAIL 1 l).lane l).cal = none := hcal
  simp only [exec, execAcqTimeout, if_pos hacq, hload, hlane]

/-- R67, R71: an ACQ of a lane that is not to train ends in READY, in a port or in none. -/
theorem exec_acqComplete_ready {l : LaneId} {a : AdaptVals} (hacq : s.get LN.STAT_STATE l = 3)
    (htrain : (s.adapt l a).flag LN.CTRL_TRAIN l = false) : exec (.acqComplete l a) s = .next ((s.adapt l a).laneReady l) := by
  simp only [exec, execAcqComplete, if_pos hacq, htrain, Bool.false_and, Bool.false_eq_true, if_false]
  split <;> rfl

/-- Settles O44, clause by clause. -/
theorem laneStateCommands : Obligations.LaneStateCommands := by
  refine ⟨?disable, ?enable, ?trainKept, ?trainSet, ?loopBelow, ?loopReady, ?loopUndefined, ?calDone, ?notInCal, ?acqDone, ?acqLate, ?lost,
    ?notReady⟩
  case disable => intro l s hopen hon; exact next_access_open hopen (if_pos hon)
  case enable => intro l v s hopen; exact next_access_open hopen rfl
  case trainKept =>
    intro l t s hopen hkept
    refine next_access_open hopen ?_
    rcases hkept with rfl | hold
    · simp
    · simp [hold]
  case trainSet =>
    intro l u s hopen hold hu
    have hwant : u = (s.set LN.CTRL_TRAIN 1 l).wantTrain l := hu
    refine next_access_open hopen ?_
    simp [hold, hwant]
  case loopBelow =>
    rintro l m _ s hopen hdefined hnew rfl hst hfar hloop
    exact exec_loopSelect_new hopen hdefined hnew (State.loopChanged_below hst fun hfarLoop => hfar (hloop.symm.trans hfarLoop))
  case loopReady =>
    intro l m u s hopen hdefined hnew hu hst hloop
    have hchanged := State.loopChanged_ready hst hu
    rw [hloop] at hchanged
    exact exec_loopSelect_new hopen hdefined hnew hchanged
  case loopUndefined => intro l m s hopen hundefined; exact next_access_open hopen (if_pos (.inl hundefined))
  case calDone => intro l s hcal hmode hrx; simp [exec, execCalDone, hcal, hmode, hrx]
  case notInCal => intro l s hcal; simp [exec, execCalDone, hcal]
  case acqDone => intro l a s hacq htrain; exact exec_acqComplete_ready hacq htrain
  case acqLate => intro l s hacq hfixed hcal; exact exec_acqTimeout_fixed hacq hfixed hcal
  case lost => intro l s hready; simp [exec, execLossOfSignal, hready]
  case notReady => intro l s hready; simp [exec, execLossOfSignal, hready]

/-! Calibration (R74, R75). -/

/-- R74: a request whose ledger entry is busy sets CALERR. -/
theorem State.requestCal_busy {e : Nat} (hbusy : s.opBusy e = true) (l kind : Nat) (intr : Bool) (src : Nat) :
    s.requestCal l kind intr e src = s.set LN.STAT_CALERR 1 l := if_pos hbusy

/-- R74: a request for a lane in TRAIN that has no other calibration is queued. -/
theorem State.requestCal_inTrain {l e : Nat} (hfree : s.opBusy e = false) (hcal : (s.lane l).cal = none) (hdp : s.dpact l = false)
    (htrain : s.get LN.STAT_STATE l = 4) (kind : Nat) (intr : Bool) (src : Nat) :
    s.requestCal l kind intr e src =
      (s.opBegin e 0x0102 1 0 src noResult).setLane l { s.lane l with cal := some ⟨kind, e, true⟩ } := by
  simp [State.requestCal, hfree, hcal, hdp, htrain]

/-- Settles O45: the three kinds of request share one decision at the write, and a queued calibration starts in READY. -/
theorem laneCalibrationCommands : Obligations.LaneCalibrationCommands := by
  refine ⟨?rxcalBusy, ?rxcalQueued, ?fullBusy, ?fullQueued, ?readaptBusy, ?readaptQueued, ?start⟩
  case rxcalBusy | fullBusy | readaptBusy =>
    intro l src intr e s hopen hbusy
    exact next_access_open hopen (State.requestCal_busy hbusy ..)
  case rxcalQueued | fullQueued | readaptQueued =>
    intro l src intr e s hopen hfree hcal hdp htrain
    exact next_access_open hopen (State.requestCal_inTrain hfree hcal hdp htrain ..)
  case start => intro l c s hcal hqueued hready; simp [exec, execQueuedCalStart, hcal, hqueued, hready]

/-! Training (R86, R89, R92 to R94). -/

/-- R86: fabric strobes a set that is valid for the lane. -/
theorem exec_fabricTrainStrobe {l : LaneId} (hproto : s.trainProto l = some 2) (a b c d e f : Int) :
    exec (.fabricTrainStrobe l a b c d e f) s =
      .next (if s.txOk l ⟨a, b, c, d, e, f⟩ then s.setTx l ⟨a, b, c, d, e, f⟩ else s.emit (.trainReject l)) :=
  congrArg Host.Outcome.next (if_pos hproto)

/-- Settles O48: each command acts where its protocol trains the lane. -/
theorem trainingCommands : Obligations.TrainingCommands := by
  refine ⟨?frame, ?badFrame, ?send, ?noFrame, ?tmax, ?tmaxNone, ?strobe, ?strobeBad, ?done, ?fail, ?ieeeDone, ?ieeeFail, ?ieeeRequest⟩
  case frame => intro l cell s hproto hcell; simp [exec, execTrainingFrameReceive, hproto, hcell]
  case badFrame => intro l cell s hproto; simp [exec, execTrainingFrameReceive, hproto]
  case send => intro l r d s hproto; exact congrArg Host.Outcome.next (if_pos hproto)
  case noFrame => intro l s hproto hseen; exact congrArg Host.Outcome.next (if_pos ⟨hproto, hseen⟩)
  case tmax | done | fail | ieeeDone | ieeeFail => intro l s hproto; exact congrArg Host.Outcome.next (if_pos hproto)
  case tmaxNone => intro l s hproto; simp [exec, execTrainTmaxTimeout, hproto]
  case strobe => intro l a b c d e f s hproto hvalid; rw [exec_fabricTrainStrobe hproto, if_pos hvalid]
  case strobeBad => intro l a b c d e f s hproto hvalid; rw [exec_fabricTrainStrobe hproto, hvalid]; rfl
  case ieeeRequest => intro l a b c d e s hproto hvalid; exact congrArg Host.Outcome.next ((if_pos hproto).trans (if_pos hvalid))

end Sys2Proof.Machine
end

section
/-! PROOFS. Ports and their receivers (spec/03_lane_coding.md): the conditions of each clause pick one branch of its command's meaning, and a
command by registers acts where its block is reached. -/
namespace Sys2Proof.Machine

variable {s t : State} {l : Nat}

/-! What a lane hears (R53, R67, R77). -/

/-- R66, R67: a READY lane with its receiver on delivers what it receives. -/
theorem State.hears_ready (hready : s.get LN.STAT_STATE l = 5) (hrx : s.flag LN.CTRL_RXEN l = true) : s.hears l = true :=
  Bool.and_eq_true_iff.2 ⟨beq_iff_eq.2 hready, hrx⟩

/-- R77: outside NEAR it takes that from its receive balls. -/
theorem State.fromBalls_ready (hready : s.get LN.STAT_STATE l = 5) (hrx : s.flag LN.CTRL_RXEN l = true) (hnear : s.get LN.CTRL_LOOP l ≠ 1) :
    s.fromBalls l = true := Bool.and_eq_true_iff.2 ⟨State.hears_ready hready hrx, bne_iff_ne.2 hnear⟩

/-- R67, R77: a lane that is not READY, has its receiver off or is in NEAR takes nothing from its receive balls. -/
theorem State.fromBalls_deaf (hdeaf : s.get LN.STAT_STATE l ≠ 5 ∨ s.flag LN.CTRL_RXEN l = false ∨ s.get LN.CTRL_LOOP l = 1) :
    s.fromBalls l = false := by
  refine Bool.eq_false_iff.2 fun hballs => ?_
  obtain ⟨hhears, hnotNear⟩ := Bool.and_eq_true_iff.1 hballs
  obtain ⟨hready, hrx⟩ := Bool.and_eq_true_iff.1 hhears
  rcases hdeaf with hnotReady | hoff | hnear
  · exact hnotReady (beq_iff_eq.1 hready)
  · exact Bool.eq_false_iff.1 hoff hrx
  · exact bne_iff_ne.1 hnotNear hnear

/-- R77: outside FAR nothing is retransmitted. -/
theorem State.echoPlaces_notFar (hfar : s.get LN.CTRL_LOOP l ≠ 2) (ps : List Nat) : s.echoPlaces l ps = s := if_neg hfar

/-! Received blocks (R83, R84, R87). -/

/-- R67, R83: a WRAW port takes a block that a lane of it hears by the balls. -/
theorem exec_wrawBlockReceive_heard {l : LaneId} {a : Nat} (hport : s.anchorOf l = some a) (hmode : s.get PCS.CTRL_MODE a = 1)
    (hballs : s.fromBalls l = true) (h : Fin 4) (p : BitVec 64) :
    exec (.wrawBlockReceive l h p) s =
      .next ((s.echoBits l (bitList h 0 2 ++ bitList p.toNat 0 64)).wrawReceive a l h p.toNat) := by
  simp only [exec, execWrawBlockReceive, hport]
  rw [if_pos ⟨hmode, hballs⟩]

/-- R84: an ETH port takes what a lane of it hears. -/
theorem exec_ethBlockReceive_heard {l : LaneId} {a : Nat} (hport : s.anchorOf l = some a) (hmode : s.get PCS.CTRL_MODE a = 2)
    (hhears : s.hears l = true) (e : EthRx) : exec (.ethBlockReceive l e) s = .next (s.ethReceive a l e) := by
  simp only [exec, execEthBlockReceive, hport]
  rw [if_pos ⟨hmode, hhears⟩]

/-- R87: a PCIE port takes a block that a lane of it hears. -/
theorem exec_pcieBlockReceive_block {l : LaneId} {a : Nat} (hport : s.anchorOf l = some a) (hmode : s.get PCS.CTRL_MODE a = 3)
    (hhears : s.hears l = true) (sync : Fin 4) (b : List Byte) :
    exec (.pcieBlockReceive l (.block sync b)) s =
      .next ((s.echoBits l (bitList sync 0 2 ++ bitList (natLE b) 0 128)).pcieReceive a l sync b) := by
  simp only [exec, execPcieBlockReceive, hport]
  rw [if_pos ⟨hmode, hhears⟩]

/-- R87: a lane of a PCIE port that loses its block lock takes the port's link down. -/
theorem exec_pcieBlockReceive_unlock {l : LaneId} {a : Nat} (hport : s.anchorOf l = some a) (hmode : s.get PCS.CTRL_MODE a = 3)
    (hhears : s.hears l = true) (hlock : s.flag PCS.STAT_BLOCK_LOCK l = true) :
    exec (.pcieBlockReceive l (.lock false)) s = .next ((s.lower PCS.STAT_BLOCK_LOCK l).portLost a) := by
  simp only [exec, execPcieBlockReceive, hport]
  rw [if_pos ⟨hmode, hhears⟩, if_pos hlock]

/-! PRBS (R95). -/

/-- R95: INJ acts where the generator sends. -/
theorem State.prbsInject_sending (hgen : s.genOn l = true) (htrain : s.get LN.STAT_STATE l ≠ 4) :
    s.prbsInject l = s.setLane l { s.lane l with genInj := true } :=
  if_pos (Bool.and_eq_true_iff.2 ⟨hgen, bne_iff_ne.2 htrain⟩)

/-- R95: without a generator INJ does nothing. -/
theorem State.prbsInject_noGen (hgen : s.flag PCS.PRBS_GENEN l = false) : s.prbsInject l = s := by
  simp only [State.prbsInject, State.genOn, hgen, Bool.false_and, Bool.false_eq_true, if_false]

/-- R95: outside a port, symbols go to the checker, and no further. -/
theorem State.hearPlaces_noPort {ps : List Nat} (hcheck : s.prbsOn l = true)
    (ht : (bitsOfPlaces (s.flag LN.CTRL_MOD l) ps).foldl
      (fun s b => if s.get PCS.PRBS_CHKPAT l = 6 then s.ssprqBit l b else s.prbsBit l b) s = t)
    (hport : t.anchorOf l = none) : s.hearPlaces l ps = t := by
  simp only [State.hearPlaces, hcheck, if_true, ht, hport]

/-- R53, R77, R95: outside FAR, symbols that come by the balls are decided and delivered. -/
theorem exec_prbsCheck_heard {l : LaneId} (hballs : s.fromBalls l = true) (hfar : s.get LN.CTRL_LOOP l ≠ 2) (v : List Int) :
    exec (.prbsCheck l v) s =
      .next (s.hearPlaces l (v.map fun x => placeOfLevel (s.flag LN.CTRL_MOD l) (if s.rxInv l then -x else x))) := by
  simp only [exec, execPrbsCheck, if_pos hballs, State.echoPlaces_notFar hfar]

/-- R67, R77: symbols that do not come by the balls are not received. -/
theorem exec_prbsCheck_deaf {l : LaneId} (hballs : s.fromBalls l = false) (v : List Int) : exec (.prbsCheck l v) s = .next s :=
  congrArg Host.Outcome.next (if_neg (Bool.eq_false_iff.1 hballs))

/-! The eye scan (R96). -/

/-- R96: without a scan a column leaves the lane as it is. -/
theorem State.eyeColumn_none (hscan : (s.lane l).eye = none) (c : List Nat) : s.eyeColumn l c = s := by
  simp only [State.eyeColumn, hscan]

/-- R96: a column before the last, once its counts are stored, shows the scan's progress, and the scan goes on. -/
theorem State.eyeColumn_stored {e k buf : Nat} {c : List Nat} (hscan : (s.lane l).eye = some (e, k, buf)) (hlast : k < 63)
    (hstored : s.netStore .wr (fieldOf l * 256 + 0x80) 0 (buf + 256 * k)
      ((List.range 64).flatMap fun v => bytesLE 4 (min 0xFFFFFF (c.getD v 0))) = (t, .ok)) :
    s.eyeColumn l c =
      let u := (t.opMove e 3 (1024 * (k + 1)) []).setOp e { (t.opMove e 3 (1024 * (k + 1)) []).op e with result := buf }
      u.setLane l { u.lane l with eye := some (e, k + 1, buf) } := by
  have hmore : k ≠ 63 := Nat.ne_of_lt hlast
  simp only [State.eyeColumn, hscan, hstored, hmore, if_false, reduceCtorEq, ne_eq, not_true_eq_false]

/-- Settles O47, clause by clause: each by what the lane hears, and by the branch of its operation that the conditions pick. -/
theorem portAndReceiveCommands : Obligations.PortAndReceiveCommands := by
  refine ⟨?enable, ?disable, ?disabled, ?wraw, ?noPort, ?eth, ?pcie, ?pcieUnlock, ?rate, ?autoneg, ?inject, ?noGen, ?clear, ?check, ?deaf,
    ?scan, ?noScan, ?column, ?hist⟩
  case enable => intro l v s hopen; exact next_access_open hopen rfl
  case scan => intro l src v s hopen; exact next_access_open hopen rfl
  case clear | hist => intro l s hopen; exact next_access_open hopen rfl
  case disable => intro l s hopen hon; exact next_access_open hopen (if_pos hon)
  case disabled => intro l s hopen hoff; exact next_access_open hopen (if_neg (Bool.eq_false_iff.1 hoff))
  case wraw =>
    intro l h p a s hport hmode hready hrx hnear
    exact exec_wrawBlockReceive_heard hport hmode (State.fromBalls_ready hready hrx hnear) h p
  case noPort => intro l h p s hport; simp only [exec, execWrawBlockReceive, hport]
  case eth => intro l e a s hport hmode hready hrx; exact exec_ethBlockReceive_heard hport hmode (State.hears_ready hready hrx) e
  case pcie =>
    intro l sync b a s hport hmode hready hrx _
    exact exec_pcieBlockReceive_block hport hmode (State.hears_ready hready hrx) sync b
  case pcieUnlock =>
    intro l a s hport hmode hready hrx hlock
    exact exec_pcieBlockReceive_unlock hport hmode (State.hears_ready hready hrx) hlock
  case rate =>
    intro a r s hon hmode
    have hpcie := Bool.and_eq_true_iff.2 ⟨hon, beq_iff_eq.2 hmode⟩
    exact congrArg Host.Outcome.next (if_pos hpcie)
  case autoneg =>
    intro a p prec s hon hmode han
    have heth := Bool.and_eq_true_iff.2 ⟨hon, beq_iff_eq.2 hmode⟩
    exact congrArg Host.Outcome.next (if_pos (Bool.and_eq_true_iff.2 ⟨heth, han⟩))
  case inject => intro l s hopen hgen htrain; exact next_access_open hopen (State.prbsInject_sending hgen htrain)
  case noGen => intro l s hopen hgen; exact next_access_open hopen (State.prbsInject_noGen hgen)
  case check =>
    intro l v s hready hrx hloop hcheck _ _ ps t hport
    have hnear : s.get LN.CTRL_LOOP l ≠ 1 := by omega
    have hfar : s.get LN.CTRL_LOOP l ≠ 2 := by omega
    rw [exec_prbsCheck_heard (State.fromBalls_ready hready hrx hnear) hfar v, State.hearPlaces_noPort hcheck rfl hport]
  case deaf => intro l v s hdeaf; exact exec_prbsCheck_deaf (State.fromBalls_deaf hdeaf) v
  case noScan => intro l c s hscan; exact congrArg Host.Outcome.next (State.eyeColumn_none hscan c)
  case column =>
    intro l c e k buf s hscan hlast hok
    exact congrArg Host.Outcome.next (State.eyeColumn_stored hscan hlast (Prod.ext rfl hok))

end Sys2Proof.Machine
end

section
/-! PROOFS. Capture front-ends, cisterns and the float sequencer (spec/04_cistern.md): the conditions of each clause pick one branch of its
command's meaning, and a command by registers acts where its block is reached. -/
namespace Sys2Proof.Machine

variable {s : State}

/-! Frames and records (R99, R100, R105, R157). -/

/-- R99, R100: with SRC = 0 a running CFE takes the oldest frame that the PCS has dealt to it, and what the fabric gives is not looked at. -/
theorem exec_cfeFrame_dealt {l : LaneId} {r : RxFrame} {t : List RxFrame} (hsrc : s.flag CFE.CTRL_SRC l = false)
    (hrx : (s.lane l).rx = r :: t) (hon : s.cfeOn l = true) (htclk : s.time.tclk = true) (f : Option FabFrame) :
    exec (.cfeFrame l f) s = .next ((s.setLane l { s.lane l with rx := t }).takeFrame l r) := by
  simp only [exec, execCfeFrame, hsrc, hrx, Bool.false_eq_true, if_false]
  rw [if_pos (Bool.and_eq_true_iff.2 ⟨hon, htclk⟩)]

/-- R157: while TCLK is stopped a CFE takes no frame, from neither of its sources. -/
theorem exec_cfeFrame_stopped (hstop : s.time.tclk = false) (l : LaneId) (f : Option FabFrame) : exec (.cfeFrame l f) s = .next s := by
  have hidle : ¬ (s.cfeOn l && s.time.tclk) = true := by rw [hstop, Bool.and_false]; exact Bool.false_ne_true
  cases hsrc : s.flag CFE.CTRL_SRC l with
  | true =>
    cases f with
    | some g => exact congrArg Host.Outcome.next ((if_pos hsrc).trans (if_neg hidle))
    | none => exact congrArg Host.Outcome.next (if_pos hsrc)
  | false =>
    simp only [exec, execCfeFrame, hsrc, Bool.false_eq_true, if_false]
    cases (s.lane l).rx with
    | nil => rfl
    | cons r t => exact congrArg Host.Outcome.next (if_neg hidle)

/-- R105: the oldest record that waits is judged once its decision delay has passed. -/
theorem exec_recordJudge_due {l : LaneId} {r : PendRec} {t : List PendRec} (hpend : (s.cfe l).pend = r :: t)
    (hdue : r.ts + decisionDelay < s.fieldNow (l / 16)) (htclk : s.time.tclk = true) :
    exec (.recordJudge l) s = .next ((s.setCfe l { s.cfe l with pend := t }).judge l r) := by
  simp only [exec, execRecordJudge, hpend]
  rw [if_pos ⟨hdue, htclk⟩]

/-! Segments and the STOP of a cistern (R111, R125). -/

/-- R111: the drain takes the oldest closed segment while the write pipeline has room. -/
theorem exec_segmentDrain_room {d : Closed} {t : List Closed} (hclosed : s.closed = d :: t) (hroom : s.draining.length < 64) :
    exec .segmentDrain s =
      .next (d.recs.foldl (fun s r => s.ringPut r (d.id + 1)) { s with closed := t, draining := s.draining ++ [d] }) := by
  simp only [exec, execSegmentDrain, hclosed]
  rw [if_pos hroom]

/-- R111: a segment with HBM writes that remain stays in the write pipeline. -/
theorem exec_segmentReturn_open {i : Fin 64} {d : Closed} (hplace : s.draining[i.val]? = some d) (hopen : s.jobOpen (d.id + 1) = true) :
    exec (.segmentReturn i) s = .next s := by
  simp only [exec, execSegmentReturn, hplace]
  rw [if_pos hopen]

/-- R111: a segment of the reserve whose HBM writes have completed returns to the reserve. -/
theorem exec_segmentReturn_reserve {i : Fin 64} {d : Closed} (hplace : s.draining[i.val]? = some d)
    (hdone : s.jobOpen (d.id + 1) = false) (hreserve : d.reserve = true) :
    exec (.segmentReturn i) s =
      .next (d.recs.foldl (fun s r => (s.snap r.cist).maybeDone r.cist)
        (({ s with draining := s.draining.eraseIdx i }.book CAP.SBOOK1_RFREE 1).book CAP.SBOOK2_RUSED (-1))) := by
  simp only [exec, execSegmentReturn, hplace, hdone, hreserve, Bool.false_eq_true, if_false, if_true]

/-- R125: a CFE acknowledges the STOP of its cistern when its DTC is past the stamp and no record from before it waits. -/
theorem exec_cfeStopAck_passed {l : LaneId} {t : Nat} (hstop : (s.cist (s.get CFE.CTRL_CIST l)).stop = some t)
    (hack : l.val ∈ (s.cist (s.get CFE.CTRL_CIST l)).acks) (hpast : t + decisionDelay < s.fieldNow (l / 16))
    (hnone : (s.cfe l).pend.all (fun r => decide (t ≤ r.ts)) = true) :
    exec (.cfeStopAck l) s =
      .next ((s.setCist (s.get CFE.CTRL_CIST l) { s.cist (s.get CFE.CTRL_CIST l) with
        acks := (s.cist (s.get CFE.CTRL_CIST l)).acks.filter fun x => x != l.val }).maybeDone (s.get CFE.CTRL_CIST l)) := by
  simp only [exec, execCfeStopAck, hstop]
  rw [if_pos ⟨hack, hpast, hnone⟩]

/-- Settles O20, clause by clause: each by the branch of its command that the conditions pick. -/
theorem captureCommands : Obligations.CaptureCommands := by
  refine ⟨?enable, ?clear, ?keep, ?fabric, ?dealt, ?stopped, ?judge, ?noRecord, ?gap, ?lend, ?close, ?drain, ?noClosed, ?writesOpen,
    ?reserve, ?ack⟩
  case enable => intro l v s hopen; exact next_access_open hopen rfl
  case clear => intro l v s hopen hclear; exact next_access_open hopen (if_pos hclear)
  case keep => intro l v s hopen hkeep; exact next_access_open hopen (if_neg (Bool.eq_false_iff.1 hkeep))
  case fabric =>
    intro l g s hsrc hon htclk
    exact congrArg Host.Outcome.next ((if_pos hsrc).trans (if_pos (Bool.and_eq_true_iff.2 ⟨hon, htclk⟩)))
  case dealt => intro l f r t s hsrc hrx hon htclk; exact exec_cfeFrame_dealt hsrc hrx hon htclk f
  case stopped => intro l f s hstop; exact exec_cfeFrame_stopped hstop l f
  case judge => intro l r t s hpend hdue htclk; exact exec_recordJudge_due hpend hdue htclk
  case noRecord => intro l s hpend; simp only [exec, execRecordJudge, hpend]
  case gap =>
    intro l s hon hgap hready htclk
    have hemit : (s.cfeOn l && (s.cfe l).gap.isSome && s.gapReady l && s.time.tclk) = true := by rw [hon, hgap, hready, htclk]; rfl
    exact congrArg Host.Outcome.next (if_pos hemit)
  case lend => intro l s hon hloan; exact congrArg Host.Outcome.next (if_pos ⟨hon, hloan⟩)
  case close => intro l s; rfl
  case drain => intro d t s hclosed hroom; exact exec_segmentDrain_room hclosed hroom
  case noClosed => intro s hclosed; simp only [exec, execSegmentDrain, hclosed]
  case writesOpen => intro i d s hplace hopen; exact exec_segmentReturn_open hplace hopen
  case reserve => intro i d s hplace hdone hreserve; exact exec_segmentReturn_reserve hplace hdone hreserve
  case ack => intro l t s hstop hack hpast hnone; exact exec_cfeStopAck_passed hstop hack hpast hnone

/-! The commands of a cistern (R118, R119, R131). -/

/-- R118, R131: a write of CAP_CCTRL whose one action is ARM arms the cistern. -/
theorem State.writeCctrl_arm {v : Nat} (hone : countBits v 4 = 1) (harm : bitOf v 0 = true) (c src : Nat) :
    s.writeCctrl c src v = (s.wrAll v [CAP.CCTRL_GRP, CAP.CCTRL_FLTEN, CAP.CCTRL_FULLACT] c).arm c src :=
  (if_neg (by omega)).trans (if_pos harm)

/-- R119, R131: a write of CAP_CCTRL whose one action is DISARM disarms it. -/
theorem State.writeCctrl_disarm {v : Nat} (hone : countBits v 4 = 1) (hnoArm : bitOf v 0 = false) (hdisarm : bitOf v 1 = true)
    (c src : Nat) : s.writeCctrl c src v = (s.wrAll v [CAP.CCTRL_GRP, CAP.CCTRL_FLTEN, CAP.CCTRL_FULLACT] c).disarm c :=
  (if_neg (by omega)).trans ((if_neg (Bool.eq_false_iff.1 hnoArm)).trans (if_pos hdisarm))

/-! Floats and the sequencer (R123, R124, R132). -/

/-- R123: a software pulse on some floats of a half counts, wakes the sequencers and reaches fabric. -/
theorem State.writeSwf_pulse {v m : Nat} {hi : Bool} (hsome : v ≠ 0) (hm : m = if hi then v * 2 ^ 32 else v) :
    s.writeSwf hi v = (((s.countPulse m).wakeFurs m).fabFloats m).emit (.floats m) := by
  have hpulse : (if hi then v * 2 ^ 32 else v) ≠ 0 := by
    cases hi with
    | true => exact Nat.mul_ne_zero hsome (by decide)
    | false => exact hsome
  rw [hm]
  exact if_neg hpulse

/-- R123: a write that names no float pulses none. -/
theorem State.writeSwf_zero {v : Nat} (hnone : v = 0) (hi : Bool) : s.writeSwf hi v = s := by
  have hmask : (if hi then v * 2 ^ 32 else v) = 0 := by rw [hnone, Nat.zero_mul, ite_self]
  exact if_pos hmask

/-- R124, R126: a write that sets EN of a sequencer that is off starts it in INIT, frozen no longer. -/
theorem State.writeFltCtrl_start {v : Nat} (hoff : s.flag FLT.CTRL_EN = false) (hen : bitOf v 0 = true) :
    s.writeFltCtrl v =
      (((s.wrAll v [FLT.CTRL_EN, FLT.CTRL_INIT]).enterFlt ((s.wrAll v [FLT.CTRL_EN, FLT.CTRL_INIT]).get FLT.CTRL_INIT)).set FLT.STAT_RUN 1).set
        FLT.STAT_FROZEN 0 :=
  (if_pos hen).trans (if_neg (Bool.eq_false_iff.1 hoff))

/-- R132: a read of FLT_TS_LO that reaches its block captures the stamp. -/
theorem exec_floatStampCapture_open (hopen : s.barred .FLT 0 = none) : exec .floatStampCapture s = .next s.readFltTs := by
  simp only [exec, execFloatStampCapture, hopen]

/-- Settles O21, clause by clause: each by the branch of its command that the conditions pick. -/
theorem cisternAndFloatCommands : Obligations.CisternAndFloatCommands := by
  refine ⟨?arm, ?disarm, ?start, ?stop, ?armed, ?running, ?pulse, ?software, ?noFloat, ?enable, ?disable, ?event, ?noEvent, ?timer, ?stamp⟩
  case arm => intro c src v s hopen hone harm; exact next_access_open hopen (State.writeCctrl_arm hone harm c src)
  case disarm =>
    intro c src v s hopen hone hnoArm hdisarm
    exact next_access_open hopen (State.writeCctrl_disarm hone hnoArm hdisarm c src)
  case start | stop => intro c src v s hopen; exact next_access_open hopen rfl
  case armed => intro c s harmed; exact congrArg Host.Outcome.next (if_pos harmed)
  case running =>
    intro c s hrunning
    have hnotArmed : s.get CAP.CSTAT_STATE c ≠ 1 := by omega
    exact congrArg Host.Outcome.next ((if_neg hnotArmed).trans (if_pos hrunning))
  case pulse => intro m s; rfl
  case software => intro hi v m s hopen hsome hm; exact next_access_open hopen (State.writeSwf_pulse hsome hm)
  case noFloat => intro hi v s hopen hzero; exact next_access_open hopen (State.writeSwf_zero hzero hi)
  case enable => intro v s hopen hoff hen; exact next_access_open hopen (State.writeFltCtrl_start hoff hen)
  case disable => intro v s hopen hclear; exact next_access_open hopen (if_neg (Bool.eq_false_iff.1 hclear))
  case event => intro s hrun hdue; exact congrArg Host.Outcome.next (if_pos (Bool.and_eq_true_iff.2 ⟨hrun, hdue⟩))
  case noEvent =>
    intro s hnotDue
    have hidle : ¬ (s.flag FLT.STAT_RUN && s.flt.evDue) = true := by rw [hnotDue, Bool.and_false]; exact Bool.false_ne_true
    exact congrArg Host.Outcome.next (if_neg hidle)
  case timer => intro s hrun hlimit; exact congrArg Host.Outcome.next (if_pos ⟨hrun, hlimit⟩)
  case stamp => intro s hopen; exact exec_floatStampCapture_open hopen

end Sys2Proof.Machine
end

section
/-! PROOFS. Shares, quotas and credits of the Canal (spec/07_canal.md): what a port that is frozen or awaits an AUDIT takes, and the branch that
the conditions of each clause pick. -/
namespace Sys2Proof.Machine

variable {s : State} {p vc : Nat}

/-- R194: a quota that keeps the sum within the tags is written. -/
theorem State.writeQuota_within {d v : Nat} (hsum : (s.wr v TRK.QUOTA d).quotaSum ≤ 261120) : s.writeQuota d v = s.wr v TRK.QUOTA d :=
  if_neg (Nat.not_lt.2 hsum)

/-- R194: a quota that takes the sum past the tags is refused with QERR. -/
theorem State.writeQuota_beyond {d v : Nat} (hsum : 261120 < (s.wr v TRK.QUOTA d).quotaSum) : s.writeQuota d v = s.set TRK.STAT_QERR 1 :=
  if_pos hsum

/-- R185: where the port is frozen or an AUDIT is due, a returned credit leaves the credits as they are. -/
theorem State.creditBack_held (hheld : s.portFrozen p = true ∨ s.auditDue p vc = true) (up : Bool) : s.creditBack up p vc = s :=
  if_pos (Bool.or_eq_true_iff.2 hheld)

/-- A port that is not frozen and awaits no AUDIT passes the guard of a returned credit. -/
theorem State.not_frozen_or_due (hfree : s.portFrozen p = false) (haudited : s.auditDue p vc = false) :
    ¬ (s.portFrozen p || s.auditDue p vc) = true := by
  rw [hfree, haudited]
  exact Bool.false_ne_true

/-- R183: a credit of a freed entry comes back to the sender toward the port. -/
theorem State.creditBack_down (hfree : s.portFrozen p = false) (haudited : s.auditDue p vc = false) (hret : s.retDown p vc ≠ 0) :
    s.creditBack false p vc = s.set (creditField vc) (s.get (creditField vc) p + 1) p :=
  (if_neg (State.not_frozen_or_due hfree haudited)).trans ((if_neg Bool.false_ne_true).trans (if_neg hret))

/-- R183: a credit of a freed entry comes back to the sender at the port. -/
theorem State.creditBack_up (hfree : s.portFrozen p = false) (haudited : s.auditDue p vc = false) (hret : s.retUp p vc ≠ 0) :
    s.creditBack true p vc = { s with upSpent := Store.set 0 (4 * p + vc) (s.spentUp p vc - 1) s.upSpent } :=
  (if_neg (State.not_frozen_or_due hfree haudited)).trans ((if_pos rfl).trans (if_neg hret))

/-- R185: an AUDIT that is due at a port that is not frozen is made, and what waits moves on. -/
theorem exec_audit_due {p : Fin 177} {vc : Fin 4} (hfree : s.portFrozen p = false) (hdue : s.auditDue p vc = true) (f : Byte) :
    exec (.audit p vc f) s = .next (s.auditPort p vc f.toNat).settleNet := by
  have hmade : ¬ (s.portFrozen p || !s.auditDue p vc) = true := by rw [hfree, hdue]; exact Bool.false_ne_true
  exact congrArg Host.Outcome.next (if_neg hmade)

/-- R185: an AUDIT that is not due changes nothing. -/
theorem exec_audit_notDue {p : Fin 177} {vc : Fin 4} (hnotDue : s.auditDue p vc = false) (f : Byte) : exec (.audit p vc f) s = .next s := by
  have hignored : (s.portFrozen p || !s.auditDue p vc) = true := by rw [hnotDue]; exact Bool.or_true _
  exact congrArg Host.Outcome.next (if_pos hignored)

/-- Settles O35, clause by clause: each by the rule of its operation that the conditions pick. -/
theorem canalShareCommands : Obligations.CanalShareCommands := by
  refine ⟨?window, ?port, ?uplink, ?lane, ?map, ?within, ?beyond, ?clear, ?keep, ?down, ?up, ?held, ?audit, ?fix, ?notDue⟩
  case window => intro u s; rfl
  case port | uplink => intro p r v s hopen; exact next_access_open hopen rfl
  case lane => intro l v s hopen; exact next_access_open hopen rfl
  case map => intro d i v s hopen; exact next_access_open hopen rfl
  case within => intro d v s hopen hsum; exact next_access_open hopen (congrArg State.settleNet (State.writeQuota_within hsum))
  case beyond => intro d v s hopen hsum; exact next_access_open hopen (congrArg State.settleNet (State.writeQuota_beyond hsum))
  case clear => intro v s hopen hclear; exact next_access_open hopen (if_pos hclear)
  case keep => intro v s hopen hkeep; exact next_access_open hopen (if_neg (Bool.eq_false_iff.1 hkeep))
  case down =>
    intro p vc s hfree haudited hret
    exact congrArg (fun t => Host.Outcome.next t.settleNet) (State.creditBack_down hfree haudited hret)
  case up =>
    intro p vc s hfree haudited hret
    exact congrArg (fun t => Host.Outcome.next t.settleNet) (State.creditBack_up hfree haudited hret)
  case held => intro up p vc s hheld; exact congrArg (fun t => Host.Outcome.next t.settleNet) (State.creditBack_held hheld up)
  case audit => intro p vc f s hfree hdue; exact exec_audit_due hfree hdue f
  case fix => intro p vc f s t hdiffers; exact if_neg hdiffers
  case notDue => intro p vc f s hnotDue; exact exec_audit_notDue hnotDue f

end Sys2Proof.Machine
end

section
/-! PROOFS. Furrow sequencers (spec/05_furrow.md): the state that a command finds picks one branch of its operation, and a pattern instruction
acts where its sequencer is ready and it stands at PC. -/
namespace Sys2Proof.Machine

variable {s t : State} {l : Nat}

/-! The state that a command finds (R133, R137, R138). -/

/-- R133: while the sequencer is priming, armed or running a new value of OWN is refused. -/
theorem State.furOwn_held {own : Bool} (hnew : own ≠ s.flag FUR.CTRL_OWN l)
    (hheld : s.get FUR.STAT_STATE l = 2 ∨ s.get FUR.STAT_STATE l = 3 ∨ s.get FUR.STAT_STATE l = 4) :
    s.furOwn l own = s.set FUR.STAT_CMDERR 1 l := (if_neg hnew).trans (if_pos hheld)

/-- R133: in the other states OWN takes it. -/
theorem State.furOwn_free {own : Bool} (hnew : own ≠ s.flag FUR.CTRL_OWN l)
    (hfree : ¬ (s.get FUR.STAT_STATE l = 2 ∨ s.get FUR.STAT_STATE l = 3 ∨ s.get FUR.STAT_STATE l = 4)) :
    s.furOwn l own = s.setB FUR.CTRL_OWN own l := (if_neg hnew).trans (if_neg hfree)

/-- R138: LOAD, once the quad is awake, starts LOADING from IDLE, LOADED, DONE and FAULT. -/
theorem State.furLoad_listed (ht : s.wakeQuad (quadOf l) = t) (hlisted : t.get FUR.STAT_STATE l = 0 ∨ furRested (t.get FUR.STAT_STATE l)) :
    s.furLoad l = (t.set FUR.STAT_STATE 7 l).set FUR.STAT_ERR 0 l := by
  subst ht
  exact if_pos hlisted

/-- R137, R138: LOAD is refused in the other states. -/
theorem State.furLoad_refused (ht : s.wakeQuad (quadOf l) = t)
    (hother : ¬ (t.get FUR.STAT_STATE l = 0 ∨ furRested (t.get FUR.STAT_STATE l))) : s.furLoad l = t.set FUR.STAT_CMDERR 1 l := by
  subst ht
  exact if_neg hother

/-- R224: ARM wakes the quad of a fenced field's sequencer, and does no more. -/
theorem State.furArm_fenced (ht : s.wakeQuad (quadOf l) = t) (hfenced : t.flag FLF.FSTAT_FENCED (8 * fieldOf l) = true) :
    s.furArm l = t := by
  subst ht
  exact if_pos hfenced

/-- R138: ARM where no fence holds it: what the state found, and in LOADED, DONE and FAULT the checks, lead to. -/
theorem State.furArm_unfenced (ht : s.wakeQuad (quadOf l) = t) (hopen : t.flag FLF.FSTAT_FENCED (8 * fieldOf l) = false) :
    s.furArm l =
      if furRested (t.get FUR.STAT_STATE l) then
        if t.furCheckArm l = 0 then ((t.set FUR.STAT_STATE 2 l).set FUR.STAT_ERR 0 l).furReset l
        else (t.set FUR.STAT_STATE 1 l).set FUR.STAT_ERR (t.furCheckArm l) l
      else t.set FUR.STAT_CMDERR 1 l := by
  subst ht
  exact if_neg (Bool.eq_false_iff.1 hopen)

/-- R137: STOP with no frame on the line leads to DONE at once. -/
theorem State.furStop_between (hrun : s.get FUR.STAT_STATE l = 4) (hnone : (s.fur l).sending = none) : s.furStop l = s.furEnd l :=
  (if_pos hrun).trans (if_pos (Option.isNone_iff_eq_none.2 hnone))

/-- R137: STOP with a frame on the line waits for its end. -/
theorem State.furStop_inFrame (hrun : s.get FUR.STAT_STATE l = 4) (hsome : (s.fur l).sending.isSome = true) :
    s.furStop l = s.setFur l { s.fur l with stop := true } := by
  have hframe : ¬ (s.fur l).sending.isNone = true := by rw [Option.isNone_iff_eq_none]; exact Option.isSome_iff_ne_none.1 hsome
  exact (if_pos hrun).trans (if_neg hframe)

/-- R138, R139: PRIMING ends in ARMED, or in LOADED with the code of the check that failed. -/
theorem exec_furrowPrimed_priming {l : LaneId} (hprime : s.get FUR.STAT_STATE l = 2) :
    exec (.furrowPrimed l) s =
      .next ((s.set FUR.STAT_STATE (if s.furCheckPrimed l = 0 then 3 else 1) l).set FUR.STAT_ERR (s.furCheckPrimed l) l) :=
  congrArg Host.Outcome.next (if_pos hprime)

/-- Settles O31, clause by clause: each by the branch of its operation that the sequencer's state picks. -/
theorem furrowCommands : Obligations.FurrowCommands := by
  refine ⟨?own, ?ownHeld, ?load, ?loadRefused, ?arm, ?armFailed, ?armRefused, ?armFenced, ?go, ?goRefused, ?stop, ?stopInFrame, ?stopRefused,
    ?abort, ?abortRefused, ?disarm, ?disarmRefused, ?loaded, ?armed, ?late, ?launch, ?done, ?notDone, ?source⟩
  case own => intro l own s hopen hnew hfree; exact next_access_open hopen (State.furOwn_free hnew hfree)
  case ownHeld => intro l own s hopen hnew hrun; exact next_access_open hopen (State.furOwn_held hnew (.inr (.inr hrun)))
  case load => intro l s hopen hidle; exact next_access_open hopen (State.furLoad_listed rfl (.inl hidle))
  case loadRefused =>
    intro l s hopen hrun
    exact next_access_open hopen (State.furLoad_refused rfl (by rw [hrun]; decide))
  case arm =>
    intro l s hopen hunfenced hrested hcheck
    exact next_access_open hopen ((State.furArm_unfenced rfl hunfenced).trans ((if_pos hrested).trans (if_pos hcheck)))
  case armFailed =>
    intro l s hopen hunfenced hrested hcheck
    exact next_access_open hopen ((State.furArm_unfenced rfl hunfenced).trans ((if_pos hrested).trans (if_neg hcheck)))
  case armRefused =>
    intro l s hopen hunfenced hbusy
    exact next_access_open hopen ((State.furArm_unfenced rfl hunfenced).trans (if_neg (Bool.eq_false_iff.1 hbusy)))
  case armFenced => intro l s hopen hfenced; exact next_access_open hopen (State.furArm_fenced rfl hfenced)
  case go => intro l s hopen harmed huntimed; exact next_access_open hopen (if_pos ⟨harmed, huntimed⟩)
  case goRefused => intro l s hopen hother; exact next_access_open hopen (if_neg fun ⟨harmed, _⟩ => hother harmed)
  case stop => intro l s hopen hrun hnone; exact next_access_open hopen (State.furStop_between hrun hnone)
  case stopInFrame => intro l s hopen hrun hsome; exact next_access_open hopen (State.furStop_inFrame hrun hsome)
  case abort | disarm => intro l s hopen hlisted; exact next_access_open hopen (if_pos hlisted)
  case stopRefused | abortRefused | disarmRefused => intro l s hopen hother; exact next_access_open hopen (if_neg hother)
  case loaded | source => intro l s hstate; exact congrArg Host.Outcome.next (if_pos hstate)
  case armed | late => intro l s hprime hcheck; rw [exec_furrowPrimed_priming hprime, hcheck]; rfl
  case launch => intro l s harmed htimed hdue; exact congrArg Host.Outcome.next (if_pos ⟨harmed, htimed, hdue⟩)
  case done => intro l s hrun hnone hended; exact congrArg Host.Outcome.next (if_pos ⟨hrun, hnone, hended⟩)
  case notDone =>
    intro l f s hframe
    exact congrArg Host.Outcome.next (if_neg fun ⟨_, hnone, _⟩ => Option.some_ne_none f (hframe.symm.trans hnone))

/-! Pattern instructions (R141 to R150). -/

/-- R138, R152: a sequencer that is ready executes the instruction at PC where the command takes it. -/
theorem State.furStep_ready {waits : Bool} {i : FurInstr} {f : FurInstr → Option State} (hready : s.furReady l waits = true)
    (hinstr : s.furInstr l = some i) (hf : f i = some t) : s.furStep l f waits = .next t := by
  simp only [State.furStep, hready, hinstr, if_true, Option.bind_some, hf, Option.getD_some]

/-- A sequencer that is not ready executes nothing. -/
theorem State.furStep_idle {waits : Bool} (hidle : s.furReady l waits = false) (f : FurInstr → Option State) :
    s.furStep l f waits = .next s := congrArg Host.Outcome.next (if_neg (Bool.eq_false_iff.1 hidle))

/-- R144: LOOP with a COUNT leaves its counter one lower and branches, until the counter is 0. -/
theorem exec_loop_counted {l : LaneId} {c target n k : Nat} (hready : s.furReady l false = true)
    (hinstr : s.furInstr l = some (.loop c target n)) (hcount : n ≠ 0)
    (hk : (if s.get FUR.LC l c = 0 then n else s.get FUR.LC l c) - 1 = k) :
    exec (.loop l) s =
      .next (if k ≠ 0 then (s.set FUR.LC k l c).furGoto l target
        else (s.set FUR.LC k l c).furGoto l ((s.set FUR.LC k l c).get FUR.PC l + 1)) := by
  subst hk
  exact State.furStep_ready hready hinstr (if_neg hcount)

/-! Waits (R146). -/

/-- R146: a WAIT-TIME is not over while the DTC has not reached its instant. -/
theorem State.waitOver_early {abs : Bool} {dur : Nat}
    (hearly : s.fieldNow (fieldOf l) < (if abs then (s.fur l).launch else (s.fur l).prevEnd) + dur * 2 ^ 24) :
    s.waitOver l abs dur = false := by
  rw [State.waitOver, decide_eq_false (Nat.not_le.2 hearly), Bool.and_false]

/-- R146: a sequencer that waits goes on where it runs and the wait is over. -/
theorem exec_waitTimeElapsed_waiting {l : LaneId} {abs : Bool} {dur : Nat} (hwait : (s.fur l).waitTime = some (abs, dur)) :
    exec (.waitTimeElapsed l) s =
      .next (if s.waitOver l abs dur ∧ s.get FUR.STAT_STATE l = 4 then s.setFur l { s.fur l with waitTime := none } else s) := by
  simp only [exec, execWaitTimeElapsed, hwait]

/-- R146, R152: a WAIT-FLOAT that times out discards what was executed beyond it, sets WFTO and continues at TOADDR. -/
theorem exec_waitFloatTimeout_waiting {l : LaneId} {line toaddr : Nat} {r : FurRegs} {lcs : List Nat}
    (hwait : (s.fur l).waitFloat = some (line, toaddr, true)) (hsave : (s.fur l).save = some (r, lcs))
    (hrun : s.get FUR.STAT_STATE l = 4) :
    exec (.waitFloatTimeout l) s =
      .next (((((List.range 4).foldl (fun s c => s.set FUR.LC (lcs.getD c 0) l c) s).setFur l { s.fur l with
        regs := r, waitFloat := none, save := none, halted := false, build := [], whole := false, got := 0, rep := none }).set
          FUR.STAT_WFTO 1 l).furGoto l toaddr) := by
  simp only [exec, execWaitFloatTimeout, hwait, hsave, Option.getD_some, State.raise_eq]
  rw [if_pos hrun]

/-! Frames (R135, R152, R157). -/

/-- R135, R152: where it is the sequencer's turn and the line is free, its frame starts and the turn passes on. -/
theorem exec_frameStart_turn {l : LaneId} {a : Nat} (hport : s.anchorOf l = some a) (hturn : s.furTurn a = some l.val)
    (hfree : s.lineFree a = true) (hmode : s.get PCS.CTRL_MODE a ≠ 3) (htclk : s.time.tclk = true)
    (ht : t = s.setPort a { s.port a with txTurn := (l - a + 1) % s.portSize a }) :
    exec (.frameStart l) s =
      .next (t.used.furStart l (t.get PCS.CTRL_MODE a) (t.startStamp l (a + t.openValue .txLane % t.portSize a))) := by
  subst ht
  simp only [exec, execFrameStart, hport]
  rw [if_pos ⟨hturn, hfree, hmode, htclk⟩]

/-- R157: while TCLK is stopped no frame starts. -/
theorem exec_frameStart_stopped {l : LaneId} {a : Nat} (hport : s.anchorOf l = some a) (hstop : s.time.tclk = false) :
    exec (.frameStart l) s = .next s := by
  simp only [exec, execFrameStart, hport]
  rw [if_neg fun ⟨_, _, _, htclk⟩ => Bool.eq_false_iff.1 hstop htclk]

/-- Settles O32, clause by clause: an instruction by the step of a ready sequencer, and what befalls a wait or a frame by the branch that the
conditions pick. -/
theorem furrowInstructions : Obligations.FurrowInstructions := by
  refine ⟨?nop, ?send, ?repeat_, ?waitTime, ?waitFloat, ?jump, ?loopEndless, ?loopTaken, ?loopLast, ?counterLoad, ?counterKeep, ?stamp, ?fcs,
    ?injectBit, ?injectSkew, ?halt, ?waitElapsed, ?waitEarly, ?floatTimeout, ?noPort, ?start, ?lateStart, ?lateInFrame, ?idle, ?stopped⟩
  case nop | halt => intro l s hready hinstr; exact State.furStep_ready hready hinstr rfl
  case send => intro l data d more cur off len s hready hinstr; exact State.furStep_ready hready hinstr rfl
  case repeat_ | jump | fcs => intro l v s hready hinstr; exact State.furStep_ready hready hinstr rfl
  case waitTime => intro l abs dur s hready hinstr; exact State.furStep_ready hready hinstr rfl
  case waitFloat => intro l line goal tm s hready hinstr; exact State.furStep_ready hready hinstr rfl
  case loopEndless => intro l c t s hready hinstr; exact State.furStep_ready hready hinstr (if_pos rfl)
  case loopTaken =>
    intro l c t n s hready hinstr hcount hmore
    exact (exec_loop_counted hready hinstr hcount rfl).trans (congrArg Host.Outcome.next (if_pos hmore))
  case loopLast =>
    intro l c t n s hready hinstr hcount hlast
    exact exec_loop_counted hready hinstr hcount hlast
  case counterLoad | counterKeep => intro l k en w be off sp s hready hinstr; exact State.furStep_ready hready hinstr rfl
  case stamp => intro l en f off s hready hinstr; exact State.furStep_ready hready hinstr rfl
  case injectBit | injectSkew => intro l p n b k s hready hinstr; exact State.furStep_ready hready hinstr rfl
  case waitElapsed =>
    intro l abs dur s hwait hover hrun
    rw [exec_waitTimeElapsed_waiting hwait, if_pos ⟨hover, hrun⟩]
  case waitEarly =>
    intro l abs dur s hwait hearly
    rw [exec_waitTimeElapsed_waiting hwait, if_neg fun ⟨hover, _⟩ => Bool.eq_false_iff.1 (State.waitOver_early hearly) hover]
  case floatTimeout => intro l line t r lcs s hwait hsave hrun; exact exec_waitFloatTimeout_waiting hwait hsave hrun
  case noPort => intro l s hport; simp only [exec, execFrameStart, hport]
  case start => intro l a t s hport hturn hfree hmode htclk ht; exact exec_frameStart_turn hport hturn hfree hmode htclk ht
  case lateStart | lateInFrame => intro l s hlate; exact congrArg Host.Outcome.next (if_pos hlate)
  case idle =>
    intro l s hidle
    exact ⟨State.furStep_idle hidle _, State.furStep_idle hidle _, State.furStep_idle hidle _, State.furStep_idle hidle _⟩
  case stopped => intro l a s hport hstop; exact exec_frameStart_stopped hport hstop

end Sys2Proof.Machine
end

section
/-! PROOFS. The step and device time (spec/06_time.md): the master DTC, the slaves of the fields, the servo and the pulse per second. The
conditions of each clause pick one branch of its command's operation. -/
namespace Sys2Proof.Machine

variable {s t : State}

/-! One step. -/

/-- A step takes the command at the front of the queue and runs it. -/
theorem step_front {c : Instr} {l : List Instr} (hfront : s.pending = c :: l) : step s = exec c { s with pending := l } := by
  simp only [step, hfront]

/-- On an empty queue a step is one cycle. -/
theorem step_idle (hidle : s.pending = []) : step s = .next s.cycle := by
  simp only [step, hidle]

/-- Settles O1, by the two forms of the queue. -/
theorem stepRunsTheFrontCommand : Obligations.StepRunsTheFrontCommand :=
  ⟨fun _ _ _ hfront => step_front hfront, fun _ hidle => step_idle hidle⟩

/-! The master DTC (R157 to R160, R167). -/

/-- R158: a read of RD_FRAC that reaches the DTC captures it and reads the fraction. -/
theorem exec_dtcSnapshot_open (hopen : s.barred .DTC 0 = none) (mc : Bool) :
    exec (.dtcSnapshot mc) s = .next ((s.snapshot mc).answerData (bytesLE 4 (fracOf s.now))) := by
  simp only [exec, execDtcSnapshot, hopen]

/-- R159: a command is accepted where none is pending. -/
theorem State.dtcCommand_free (hfree : s.flag DTC.CMD_PEND = false) (c : DtcCmd) :
    s.dtcCommand c = { s.set DTC.CMD_PEND 1 with time := { s.time with pend := some c } } := if_neg (Bool.eq_false_iff.1 hfree)

/-- R159: while a command is pending another one only sets CMDERR. -/
theorem State.dtcCommand_pending (hpend : s.flag DTC.CMD_PEND = true) (c : DtcCmd) :
    s.dtcCommand c = s.set DTC.SSTAT_CMDERR 1 := if_pos hpend

/-- R159: DTC_CMD with SET alone asks for the time in DTC_SET. -/
theorem State.writeDtcCmd_set (s : State) : s.writeDtcCmd 1 = s.dtcCommand (.set (s.stampOf dtcSetRegs % dtcModulus)) := rfl

/-- R159: DTC_CMD with ADJ alone asks for the correction in DTC_ADJ. -/
theorem State.writeDtcCmd_adj (s : State) : s.writeDtcCmd 2 = s.dtcCommand (.adj s.adjValue) := rfl

/-- R159, R160: at the apply instant the DTC is stamped, and it and the slaves of the fields that serve take the command. -/
theorem exec_dtcApply_running {c : DtcCmd} (hpend : s.time.pend = some c) (htclk : s.time.tclk = true)
    (ht : t = { ((s.setStamp dtcApplyRegs s.now).set DTC.CMD_PEND 0).set DTC.SSTAT_STEPPED 1 with
      time := { s.time with dtc := c.apply s.time.dtc, pend := none } }) :
    exec .dtcApply s = .next (t.mapSlaves t.serves fun v => { v with t := c.apply v.t }) := by
  subst ht
  simp only [exec, execDtcApply, hpend]
  exact congrArg Host.Outcome.next (if_neg (by rw [htclk]; decide))

/-- R160: while TCLK is stopped there is no apply instant. -/
theorem exec_dtcApply_stopped (hstop : s.time.tclk = false) : exec .dtcApply s = .next s := by
  cases hpend : s.time.pend with
  | none => simp only [exec, execDtcApply, hpend]
  | some c => simp only [exec, execDtcApply, hpend, hstop, Bool.not_false, if_true]

/-- Settles O57, clause by clause. -/
theorem timeCommands : Obligations.TimeCommands := by
  refine ⟨?lost, ?restored, ?snapshot, ?set, ?adj, ?adjPending, ?apply, ?applyStopped, ?increment, ?incrementServo⟩
  case lost => intro s hrun; exact congrArg Host.Outcome.next (if_pos hrun)
  case restored => intro s hstop; exact congrArg Host.Outcome.next (if_neg (Bool.eq_false_iff.1 hstop))
  case snapshot => intro mc s hopen; exact exec_dtcSnapshot_open hopen mc
  case set => intro s hopen hfree; exact next_access_open hopen (s.writeDtcCmd_set.trans (State.dtcCommand_free hfree _))
  case adj => intro s hopen hfree; exact next_access_open hopen (s.writeDtcCmd_adj.trans (State.dtcCommand_free hfree _))
  case adjPending => intro s hopen hpend; exact next_access_open hopen (s.writeDtcCmd_adj.trans (State.dtcCommand_pending hpend _))
  case apply => intro c s hpend hrun; exact exec_dtcApply_running hpend hrun rfl
  case applyStopped => intro s hstop; exact exec_dtcApply_stopped hstop
  case increment => intro v s hopen hfree; exact next_access_open hopen (if_pos hfree)
  case incrementServo => intro v s hopen hservo; exact next_access_open hopen (if_neg hservo)

/-! Beacons and delay measurements (R161, R212). -/

/-- R161: a fenced field receives no beacons. -/
theorem State.beacon_fenced {n : Nat} (hfenced : s.bit GLB.AVAIL_FFENCED n = true) (flight : Nat) : s.beacon n flight = s :=
  if_pos (by simp only [hfenced, Bool.or_true, Bool.true_or])

/-- R161: the first beacon that reaches a field loads its slave and starts a time calibration. -/
theorem State.beacon_first {n : Nat} (hsite : s.present n = true) (hfree : s.bit GLB.AVAIL_FFENCED n = false)
    (htclk : s.time.tclk = true) (htimed : s.fieldTimed n = true) (hnew : (s.slave n).loaded = false) (flight : Nat) :
    s.beacon n flight = s.setSlave n { s.slave n with
      t := wrapTime ((s.now : Int) + (signedOf (s.get FTS.LDLY n) 32 - flight) * 2 ^ 24), loaded := true, good := 0, slewN := 0
      cal := some none } := by
  simp only [State.beacon, hsite, hfree, htclk, htimed, hnew, Bool.not_true, Bool.not_false, Bool.or_false, Bool.false_eq_true, if_false,
    if_true]

/-- R231: a good reply is not counted. -/
theorem State.badReply_good (s : State) (n : Nat) : s.badReply n false = s := rfl

/-- R212, R231: a reply of a field that is there and not fenced is counted where its check is bad. -/
theorem State.badReply_counted {n : Nat} (hsite : s.present n = true) (hfree : s.bit GLB.AVAIL_FFENCED n = false) :
    s.badReply n true = s.count FLH.SB_SBERR 1 n :=
  if_pos (by simp only [hsite, hfree, Bool.not_false, Bool.and_self])

/-- R212, R231: the replies of a fenced field are not counted. -/
theorem State.badReply_fenced {n : Nat} (hfenced : s.bit GLB.AVAIL_FFENCED n = true) (bad : Bool) : s.badReply n bad = s :=
  if_neg (by simp only [hfenced, Bool.not_true, Bool.and_false, Bool.false_eq_true, not_false_eq_true])

/-- R212: no heartbeat is expected of a site that is not live. -/
theorem State.hbeat_notLive {n : Nat} (hdead : s.siteLive n = false) (miss : Bool) : s.hbeat n miss = s :=
  if_pos (by simp only [hdead, Bool.not_false])

/-- R212: a heartbeat that comes ends the row of misses. -/
theorem State.hbeat_heard {n : Nat} (hlive : s.siteLive n = true) : s.hbeat n false = s.setSlave n { s.slave n with missed := 0 } := by
  simp only [State.hbeat, hlive, Bool.not_true, Bool.false_eq_true, if_false]

/-- R212: a heartbeat that is missed lengthens the row and sets HBLOST; the fourth in a row fences the field. -/
theorem State.hbeat_missed {n : Nat} (hlive : s.siteLive n = true)
    (ht : t = (s.setSlave n { s.slave n with missed := (s.slave n).missed + 1 }).set FLH.SB_HBLOST 1 n) :
    s.hbeat n true = if 4 ≤ (s.slave n).missed + 1 then t.rollFence n 0x0D else t := by
  subst ht
  simp only [State.hbeat, hlive, Bool.not_true, Bool.false_eq_true, if_false, if_true, State.raise_eq]

/-- R212: a beacon whose reply has a bad check is counted and missed. -/
theorem exec_beacon_bad {n : FieldId} {flight : Nat} (hsite : (s.beacon n flight).present n = true)
    (hfree : (s.beacon n flight).bit GLB.AVAIL_FFENCED n = false) (ht : t = (s.beacon n flight).count FLH.SB_SBERR 1 n) :
    exec (.beacon n flight true) s = .next (t.hbeat n true) := by
  subst ht
  exact congrArg (fun u : State => Host.Outcome.next (u.hbeat n true)) (State.badReply_counted hsite hfree)

/-- R165: a time calibration asked for with a busy ledger entry sets CALERR. -/
theorem State.timeCal_busy {v : Nat} (hgo : bitOf v 0 = true) (hbusy : s.opBusy (bitsOf v 16 10) = true) (n src : Nat) :
    s.timeCal n v src = s.set FTS.STAT_CALERR 1 n := by
  simp only [State.timeCal, hgo, hbusy, Bool.not_true, Bool.false_eq_true, if_false, if_true, State.raise_eq]

/-- R165: a time calibration begins where its ledger entry is free and the field makes no other. -/
theorem State.timeCal_begin {v n : Nat} (hgo : bitOf v 0 = true) (hfree : s.opBusy (bitsOf v 16 10) = false)
    (hnone : (s.slave n).cal = none) (src : Nat) :
    s.timeCal n v src =
      (s.opBegin (bitsOf v 16 10) 0x0301 2 0 src noResult).setSlave n { s.slave n with cal := some (some (bitsOf v 16 10)) } := by
  simp only [State.timeCal, hgo, hfree, hnone, Bool.not_true, Option.isSome_none, Bool.false_eq_true, if_false]

/-- R165: the end of a time calibration, and of its ledger operation where it has one. -/
theorem exec_timeCalDone_running {n : FieldId} {op : Option Nat} (hcal : (s.slave n).cal = some op) (temp : Byte)
    (ht : t = (((s.setSlave n { s.slave n with cal := none }).set FTS.STAT_CALDONE 1 n).set FTS.STAT_TDRIFT 0 n).set
      FTS.CALTEMP temp.toNat n) :
    exec (.timeCalDone n temp) s = .next (match op with | some e => t.opDone e | none => t) := by
  subst ht
  simp only [exec, execTimeCalDone, hcal]
  cases op <;> rfl

/-- Settles O58, clause by clause: a beacon by what it does to the slave, by its reply, and by the row of missed heartbeats. -/
theorem slaveTimeCommands : Obligations.SlaveTimeCommands := by
  refine ⟨?first, ?missed, ?fourthMiss, ?fenced, ?delayBad, ?delay, ?delayStopped, ?calBegin, ?calBusy, ?calDone, ?calOpDone⟩
  case first =>
    intro n flight t s hsite hfree htclk htimed hnew ht hlive
    have hload : s.beacon n flight = t := (State.beacon_first hsite hfree htclk htimed hnew flight).trans ht.symm
    exact congrArg Host.Outcome.next (by rw [hload, State.badReply_good, State.hbeat_heard hlive])
  case missed =>
    intro n flight t s hfree hsite ht hlive hfew
    rw [exec_beacon_bad hsite hfree ht, State.hbeat_missed hlive rfl, if_neg (by omega)]
  case fourthMiss =>
    intro n flight t s hfree hsite ht hlive hmany
    rw [exec_beacon_bad hsite hfree ht, State.hbeat_missed hlive rfl, if_pos (by omega), State.rollFence]
  case fenced =>
    intro n flight bad s hfenced hdead
    exact congrArg Host.Outcome.next (by rw [State.beacon_fenced hfenced, State.badReply_fenced hfenced, State.hbeat_notLive hdead])
  case delayBad => intro n t1 s2 s3 t4 s hsite hfree; exact congrArg Host.Outcome.next (State.badReply_counted hsite hfree)
  case delay =>
    intro n t1 s2 s3 t4 s hsite hfree htclk
    have hreached : (s.present n && !s.bit GLB.AVAIL_FFENCED n && s.time.tclk) = true := by rw [hsite, hfree, htclk]; rfl
    exact congrArg Host.Outcome.next ((if_neg Bool.false_ne_true).trans (if_pos hreached))
  case delayStopped =>
    intro n t1 s2 s3 t4 s hstop
    have hnotReached : ¬ (s.present n && !s.bit GLB.AVAIL_FFENCED n && s.time.tclk) = true := by rw [hstop, Bool.and_false]; decide
    exact congrArg Host.Outcome.next ((if_neg Bool.false_ne_true).trans (if_neg hnotReached))
  case calBegin => intro n src v s hopen hgo hfree hnone; exact next_access_open hopen (State.timeCal_begin hgo hfree hnone src)
  case calBusy => intro n src v s hopen hgo hbusy; exact next_access_open hopen (State.timeCal_busy hgo hbusy n src)
  case calDone => intro n temp s hcal; exact exec_timeCalDone_running hcal temp rfl
  case calOpDone => intro n temp e s hcal; exact exec_timeCalDone_running hcal temp rfl

/-! The time port (R166, R168). -/

/-- R166: the port takes a message of its transport, domain and interval. -/
theorem exec_ptpMessage_taken {m : PtpMsg} {h : PtpHdr} (hhdr : ptpHdr m = some h) (htakes : s.ptpTakes h = true) :
    exec (.ptpMessage m) s = .next (s.ptpTake m) :=
  congrArg Host.Outcome.next (if_pos (by rw [hhdr]; exact htakes))

/-- R166: the port ignores every other message. -/
theorem exec_ptpMessage_ignored {m : PtpMsg} {h : PtpHdr} (hhdr : ptpHdr m = some h) (hother : s.ptpTakes h = false) :
    exec (.ptpMessage m) s = .next s :=
  congrArg Host.Outcome.next (if_neg (by rw [hhdr]; exact Bool.eq_false_iff.1 hother))

/-- R168: in a PTP mode the servo takes a sample: arrival less departure less the mean path delay. -/
theorem State.ptpSample_ptp (hmode : s.get DTC.CTRL_MODE = 1 ∨ s.get DTC.CTRL_MODE = 2) (arrive : Int) (origin : Nat) :
    s.ptpSample arrive origin = s.servoSample (arrive - origin - signedOf (s.get DTC.MPD) 32) := if_pos hmode

/-- R166: a Sync of the clock followed that carries its departure is a sample. -/
theorem State.ptpTake_sync {h : PtpHdr} (hparent : s.used.ptpParent h.source = true) (o : Nat) :
    s.ptpTake (.sync h (some o)) = s.used.ptpSample ((s.tpRxStamp : Int) / 2 ^ 24) o := if_pos hparent

/-- R166: one that does not waits for its Follow_Up. -/
theorem State.ptpTake_syncTwoStep {h : PtpHdr} (hparent : s.used.ptpParent h.source = true) :
    s.ptpTake (.sync h none) =
      { s.used with time := { s.used.time with ptpWait := some (h.source, (s.tpRxStamp : Int) / 2 ^ 24) } } := if_pos hparent

/-- R166: the Follow_Up of the Sync that waits makes the sample, and none waits any longer. -/
theorem State.ptpTake_followUp {h : PtpHdr} {arrive : Int} (hwait : s.time.ptpWait = some (h.source, arrive))
    (hparent : s.ptpParent h.source = true) (o : Nat) :
    s.ptpTake (.followUp h o) = ({ s with time := { s.time with ptpWait := none } } : State).ptpSample arrive o := by
  simp only [State.ptpTake, hwait, hparent, and_self, if_true]

/-- R166: an Announce where no clock has been heard yet: its clock is the best, and its UTC offset counts where it is followed. -/
theorem State.ptpAnnounce_first {src : Nat} {d : PtpDataset} (hnone : s.time.ptpBest = none)
    (ht : t = { s with time := { s.time with ptpBest := some (src, d) } }) (hparent : t.ptpParent src = true) (utc : Int) (valid : Bool) :
    s.ptpAnnounce src d utc valid = (t.set DTC.UTCOFS (patternOf utc 16)).set DTC.UTCOFS_UTCVAL (if valid then 1 else 0) := by
  subst ht
  simp only [State.ptpAnnounce, hnone, if_true, hparent, State.setB_eq]

/-! The pulse per second (R170). -/

/-- The mode of the servo lies apart from the register set of PPS_IN. -/
theorem State.get_mode_setStamp_ppsi (s : State) (x : Nat) : (s.setStamp dtcPpsi x).get DTC.CTRL_MODE = s.get DTC.CTRL_MODE := by
  simp only [State.setStamp, dtcPpsi]
  rw [State.get_set_ne, State.get_set_ne, State.get_set_ne, State.get_set_ne] <;> decide

/-- The mode of the servo lies apart from PPSSEEN. -/
theorem State.get_mode_set_ppsSeen (s : State) : (s.set DTC.SSTAT_PPSSEEN 1).get DTC.CTRL_MODE = s.get DTC.CTRL_MODE :=
  s.get_set_ne (by decide) 1

/-- R162, R170: an edge of PPS_IN is stamped unless a capture is held, is seen, and is a sample in PPS mode. -/
theorem exec_ppsInEdge_eq (ht : t = if s.time.ppsiHeld then s.used else s.used.setStamp dtcPpsi (s.stampAt s.now 0)) :
    exec .ppsInEdge s =
      .next (if s.get DTC.CTRL_MODE = 3 then (t.set DTC.SSTAT_PPSSEEN 1).servoSample (ppsOffset (s.stampAt s.now 0))
        else t.set DTC.SSTAT_PPSSEEN 1) := by
  have hmode : (t.set DTC.SSTAT_PPSSEEN 1).get DTC.CTRL_MODE = s.get DTC.CTRL_MODE := by
    rw [State.get_mode_set_ppsSeen, ht]
    cases s.time.ppsiHeld with
    | true => rfl
    | false => exact s.used.get_mode_setStamp_ppsi _
  rw [← hmode, ht]
  rfl

/-- R170: a read of DTC_PPSI_FRAC that reaches the DTC starts a capture. -/
theorem exec_ppsiCaptureStart_open (hopen : s.barred .DTC 0 = none) :
    exec .ppsiCaptureStart s = .next (s.ppsiStart.answerData (bytesLE 4 (s.get DTC.PPSI_FRAC))) := by
  simp only [exec, execPpsiCaptureStart, hopen]

/-- Settles O59, clause by clause: a message by its kind, the servo and the PPS by the branch that the conditions pick. -/
theorem servoCommands : Obligations.ServoCommands := by
  refine ⟨?sync, ?syncTwoStep, ?followUp, ?ignored, ?delay, ?delayReq, ?announce, ?holdover, ?notLocked, ?edge, ?edgeSample, ?capture,
    ?captureEnd, ?rise, ?off, ?fall⟩
  case sync =>
    intro h o s htakes hparent hmode
    rw [exec_ptpMessage_taken rfl htakes, State.ptpTake_sync hparent, State.ptpSample_ptp hmode]
  case syncTwoStep =>
    intro h s htakes hparent
    rw [exec_ptpMessage_taken rfl htakes, State.ptpTake_syncTwoStep hparent]
  case followUp =>
    rintro h o arrive _ s htakes hwait hparent rfl hmode
    rw [exec_ptpMessage_taken rfl htakes, State.ptpTake_followUp hwait hparent, State.ptpSample_ptp hmode]
  case ignored => intro h o s hother; exact exec_ptpMessage_ignored rfl hother
  case delay =>
    intro h peer mpd s htakes hpeer hfollowed
    exact (exec_ptpMessage_taken rfl htakes).trans (congrArg Host.Outcome.next (if_pos ⟨hpeer, hfollowed⟩))
  case delayReq =>
    intro h s htakes hendToEnd hmaster
    exact (exec_ptpMessage_taken rfl htakes).trans (congrArg Host.Outcome.next (if_pos ⟨hendToEnd, hmaster⟩))
  case announce =>
    intro h d utc valid t s htakes hnone ht hparent
    exact (exec_ptpMessage_taken rfl htakes).trans (congrArg Host.Outcome.next (State.ptpAnnounce_first hnone ht hparent utc valid))
  case holdover => intro s hlocked; exact congrArg Host.Outcome.next (if_pos hlocked)
  case notLocked => intro s hfree; exact congrArg Host.Outcome.next (if_neg hfree)
  case edge =>
    intro s hfree hmode
    rw [exec_ppsInEdge_eq rfl, if_neg hmode, hfree]
    rfl
  case edgeSample =>
    intro s hheld hmode
    rw [exec_ppsInEdge_eq rfl, if_pos hmode, hheld]
    rfl
  case capture => intro s hopen; exact exec_ppsiCaptureStart_open hopen
  case captureEnd => intro s; rfl
  case rise =>
    intro s hon hpassed
    exact congrArg Host.Outcome.next (if_pos (Bool.and_eq_true_iff.2 ⟨hon, decide_eq_true hpassed⟩))
  case off =>
    intro s hoff
    exact congrArg Host.Outcome.next (if_neg fun hrise => Bool.eq_false_iff.1 hoff (Bool.and_eq_true_iff.1 hrise).1)
  case fall => intro s; rfl

end Sys2Proof.Machine
end

section
/-! PROOFS. Requests of the Canal, the timeout of a tag and the walk of a fenced die (spec/07_canal.md): the conditions of each clause pick one
branch of the path that a request takes, of what its tag meets, or of the walk. That a request waits at ingress, that tags age on the DTC and
that a command whose condition is not met changes nothing are choices of the model (log entries 43 and 7). -/
namespace Sys2Proof.Machine

variable {s u : State} {r : Req} {t : Nat}

/-! A request through its adapter and the switch (R174, R175, R193, R194, R196, R224). -/

/-- R176: no source sends a request that is not well formed. -/
theorem State.request_illFormed (hbad : r.wf = false) (t : Nat) (h : Hdr) : s.request r t h = s :=
  if_pos (by rw [hbad]; rfl)

/-- R175, R193: a request that its source sends takes the next place in the order of arrival and its source tag, and is submitted. -/
theorem State.request_sent (hwf : r.wf = true) (hdie : dieOf r.src ≤ 8) (hsends : s.sourceSends r = true)
    (hroom : s.adapterRoom r = true) (t : Nat) :
    s.request r t .good =
      ({ s with nextOrd := s.nextOrd + 1 } : State).submit { r with ord := s.nextOrd + 1, stag := s.sourceTag r t } t :=
  have hgoes : ¬ (!r.wf || !s.sourceSends r || !(r.op == .pwr || s.adapterRoom r)) = true := by
    rw [hwf, hsends, hroom, Bool.or_true]
    exact Bool.false_ne_true
  (if_neg hgoes).trans (if_neg (Nat.not_le.2 (Nat.lt_succ_of_le hdie)))

/-- R175: a request for its source's own field is turned round in the adapter. -/
theorem State.submit_own (hown : r.own = true) (t : Nat) : s.submit r t = s.enter r t := if_pos hown

/-- R224: behind a fence the adapter turns away what lies beyond its field. -/
theorem State.submit_cutOff (hbeyond : r.own = false) (hcut : s.cutOff r = true) (t : Nat) : s.submit r t = s.turnAway r :=
  (if_neg (Bool.eq_false_iff.1 hbeyond)).trans (if_pos hcut)

/-- R183: any other request waits at ingress, and what waits moves on as far as it can. -/
theorem State.submit_ingress (hbeyond : r.own = false) (hpasses : s.cutOff r = false) (t : Nat) :
    s.submit r t = ({ s with ingress := s.ingress ++ [({ req := r, t := t } : Held)] } : State).settleNet :=
  (if_neg (Bool.eq_false_iff.1 hbeyond)).trans (if_neg (Bool.eq_false_iff.1 hpasses))

/-- R196: a request for a dead target is turned away as it leaves ingress. -/
theorem State.leave_dead (hdead : s.targetDead r = true) (t : Nat) : s.leave r t = some (s.turnAway r) := if_pos hdead

/-- R194: a request that takes a tag waits where the tracker has none for it. -/
theorem State.leave_noTag (hlive : s.targetDead r = false) (hop : r.op ≠ .pwr) (hfull : s.trackerRoom r = false) (t : Nat) :
    s.leave r t = none :=
  have hwaits : (r.op != .pwr && !s.trackerRoom r) = true := by rw [hfull, bne_iff_ne.2 hop]; rfl
  (if_neg (Bool.eq_false_iff.1 hlive)).trans (if_pos hwaits)

/-- R174: with a tag, a request for a target in Headworks enters it. -/
theorem State.leave_headworks (hlive : s.targetDead r = false) (htag : s.trackerRoom r = true) (hport : s.reqPort r = none) (t : Nat) :
    s.leave r t = some (s.enter r t) := by
  simp only [State.leave, hlive, htag, hport, Bool.not_true, Bool.and_false, Bool.false_eq_true, if_false]

/-- R183: with a tag, a request waits where its port does not have the credits. -/
theorem State.leave_noCredit {p : Nat} (hlive : s.targetDead r = false) (htag : s.trackerRoom r = true) (hport : s.reqPort r = some p)
    (hspent : s.creditFree p r.vc r.flits = false) (t : Nat) : s.leave r t = none := by
  simp only [State.leave, hlive, htag, hport, hspent, Bool.not_true, Bool.and_false, Bool.false_eq_true, if_false]

/-- R193: a request that is not a posted write is delivered under the tag that it takes. -/
theorem State.enter_tagged (hop : r.op ≠ .pwr) (t : Nat) :
    s.enter r t =
      (s.takeTag { r with tag := some (s.keyFor r t) } (s.keyFor r t)).deliver { r with tag := some (s.keyFor r t) } := by
  simp only [State.enter, if_neg hop]

/-- Settles O38: a request by the branches of request, submit and leave that the conditions pick. -/
theorem canalRequestPath : Obligations.CanalRequestPath := by
  refine ⟨?illFormed, ?read, ?write, ?own, ?cutOff, ?ingress, ?dead, ?noTag, ?headworks, ?noCredit⟩
  case illFormed => intro t a oc x len h s hbad; exact congrArg Host.Outcome.next (State.request_illFormed hbad t h)
  case read =>
    rintro t a oc x len _ s rfl hwf hdie hsends hroom
    exact congrArg Host.Outcome.next (State.request_sent hwf hdie hsends hroom t)
  case write =>
    rintro t a oc x len p d _ s rfl hwf hdie hsends hroom
    exact congrArg Host.Outcome.next (State.request_sent hwf hdie hsends hroom t)
  case own => intro t r s hown; exact State.submit_own hown t
  case cutOff => intro t r s hbeyond hcut; exact State.submit_cutOff hbeyond hcut t
  case ingress => intro t r s hbeyond hpasses; exact State.submit_ingress hbeyond hpasses t
  case dead => intro t r s hdead; exact State.leave_dead hdead t
  case noTag => intro t r s hlive hop hfull; exact State.leave_noTag hlive hop hfull t
  case headworks =>
    intro t r s hlive hop htag hport
    rw [State.leave_headworks hlive htag hport, State.enter_tagged hop]
  case noCredit => intro t p r s hlive _ htag hport hspent; exact State.leave_noCredit hlive htag hport hspent t

/-! Timeout, quarantine and fence walk (R195, R196). -/

/-- R195: a tag that is not in use has no timeout. -/
theorem exec_tagTimeout_unused {t : Fin 262144} (hunused : s.tagAt t = none) : exec (.tagTimeout t) s = .next s := by
  simp only [exec, execTagTimeout, hunused]

/-- R195: a tag that times out is quarantined and counted; its source is answered with TIMEOUT unless the request is an orphan. -/
theorem exec_tagTimeout_late {t : Fin 262144} {e : Tag} (htag : s.tagAt t = some e) (hquar : e.quar = none)
    (hlate : e.since + s.cto < s.now) (howed : s.owed.any (fun w => w.key == some t.val) = false)
    (hu : u = ({ s with tags := Store.put t.val { e with quar := some s.now } s.tags } : State).count TRK.TOCNT) :
    exec (.tagTimeout t) s = .next (if e.orphan then u else (u.sendRsp e.req { st := .timeout } none none).settleNet) := by
  have hdue : (e.quar.isNone && decide (e.since + s.cto < s.now) && !s.owed.any fun w => w.key == some t.val) = true := by
    rw [hquar, decide_eq_true hlate, howed]
    rfl
  subst hu
  simp only [exec, execTagTimeout, htag]
  exact congrArg Host.Outcome.next (if_pos hdue)

/-- R195: a tag that is not in use is in no quarantine. -/
theorem exec_quarantineEnd_unused {t : Fin 262144} (hunused : s.tagAt t = none) : exec (.quarantineEnd t) s = .next s := by
  simp only [exec, execQuarantineEnd, hunused]

/-- R195: a tag is freed when it has been in quarantine for CTO, and what waits for one moves on. -/
theorem exec_quarantineEnd_over {t : Fin 262144} {e : Tag} {q : Nat} (htag : s.tagAt t = some e) (hquar : e.quar = some q)
    (hover : q + s.cto ≤ s.now) : exec (.quarantineEnd t) s = .next (s.freeTag t).settleNet := by
  simp only [exec, execQuarantineEnd, htag, hquar, if_pos hover]

/-- R196: without a fenced die to walk nothing is walked. -/
theorem exec_fenceWalkStep_idle (hidle : s.walk = []) : exec .fenceWalkStep s = .next s := by
  simp only [exec, execFenceWalkStep, hidle]

/-- R196: the walk of a die takes one tag; after the last one it ends. -/
theorem exec_fenceWalkStep_walking {d : Nat} {rest : List Nat} (hwalk : s.walk = d :: rest) :
    exec .fenceWalkStep s =
      .next (if s.walkTag + 1 < 2 ^ 18 then { s.walkOne d s.walkTag with walkTag := s.walkTag + 1 }
        else (s.walkOne d s.walkTag).walkEnd rest) := by
  simp only [exec, execFenceWalkStep, hwalk]

/-- Settles O37: a packet is the request or the response that its fields name; a timeout, a quarantine and a walk by what they find. -/
theorem canalCommands : Obligations.CanalCommands := by
  refine ⟨?rd, ?wr, ?amo, ?flush, ?pwrPost, ?crd, ?cwr, ?rdata, ?cpl, ?crsp, ?timeout, ?orphanTimeout, ?timeoutUnused, ?quarantineOver,
    ?quarantineUnused, ?walkIdle, ?walkTag, ?walkLastTag⟩
  case rd | wr | amo | flush | pwrPost | crd | cwr | rdata | cpl | crsp => intros; rfl
  case timeout =>
    intro t e s htag hquar hkept hlate howed
    rw [exec_tagTimeout_late htag hquar hlate howed rfl, if_neg (Bool.eq_false_iff.1 hkept)]
  case orphanTimeout =>
    intro t e s htag hquar horphan hlate howed
    rw [exec_tagTimeout_late htag hquar hlate howed rfl, if_pos horphan]
  case timeoutUnused => intro t s hunused; exact exec_tagTimeout_unused hunused
  case quarantineOver => intro t e q s htag hquar hover; exact exec_quarantineEnd_over htag hquar hover
  case quarantineUnused => intro t s hunused; exact exec_quarantineEnd_unused hunused
  case walkIdle => intro s hidle; exact exec_fenceWalkStep_idle hidle
  case walkTag => intro d r s hwalk hmore; rw [exec_fenceWalkStep_walking hwalk, if_pos hmore]
  case walkLastTag => intro d r s hwalk hlast; rw [exec_fenceWalkStep_walking hwalk, if_neg (Nat.not_lt.2 (Nat.le_of_eq hlast.symm))]

end Sys2Proof.Machine
end

section
/-! PROOFS. The modules of a Flume, fences and turnouts (spec/08_flume.md), and test access (spec/19_debug.md): the conditions of each clause
pick one branch of its command's meaning. The operands of a TAP (log entry 41), the two ends of a replay and the events of an alarm or a
turnout (log entry 29), the generator's lock after a retrain (log entry 37), and that a command whose condition is not met changes nothing
(log entry 7) are choices of the model. -/
namespace Sys2Proof.Machine

variable {s t : State}

/-! Test access (R230, R483, R484). -/

/-- R483: a die outside the chain takes no instruction. -/
theorem State.tapRow_outside {die : Nat} (hout : s.inChain die = false) (code : Nat) (needs : Bool) (f : State → State) :
    s.tapRow die code needs f = s := if_pos (by rw [hout]; rfl)

/-- R484: an instruction that does not need TEST_EN has its effect in every die of the chain. -/
theorem State.tapRow_free {die : Nat} (hin : s.inChain die = true) (code : Nat) (f : State → State) :
    s.tapRow die code false f = f ((s.tapTakes die code false).answer .ok) := if_neg (by rw [hin]; decide)

/-- R484: with TEST_EN an instruction that needs it has its effect. -/
theorem State.tapRow_testEn {die : Nat} (hin : s.inChain die = true) (hen : s.tap.testEn = true) (code : Nat) (f : State → State) :
    s.tapRow die code true f = f ((s.tapTakes die code true).answer .ok) :=
  (if_neg (by rw [hin]; decide)).trans (if_neg (by rw [hen]; decide))

/-- R484: without TEST_EN an instruction that needs it is only taken. -/
theorem State.tapRow_noTestEn {die : Nat} (hin : s.inChain die = true) (hoff : s.tap.testEn = false) (code : Nat) (f : State → State) :
    s.tapRow die code true f = (s.tapTakes die code true).answer .ok :=
  (if_neg (by rw [hin]; decide)).trans (if_pos (by rw [hoff]; rfl))

/-- Settles O26: an instruction by whether its die is in the chain, whether it needs TEST_EN, and whether TEST_EN is high. -/
theorem testAccessCommands : Obligations.TestAccessCommands := by
  refine ⟨?bypass, ?idcode, ?samplePreload, ?extest, ?extestOff, ?extestPulse, ?extestPulseOff, ?extestTrain, ?extestTrainOff, ?clamp,
    ?clampOff, ?highz, ?highzOff, ?standalone, ?standaloneOff, ?lbresult, ?lbresultOff, ?outside⟩
  case bypass | idcode => intro d s hin; exact congrArg Host.Outcome.next (State.tapRow_free hin _ _)
  case samplePreload => intro d captured shifted s hin; exact congrArg Host.Outcome.next (State.tapRow_free hin _ _)
  case extest | extestPulse | extestTrain | clamp | highz | standalone =>
    intro d s hin hen
    exact congrArg Host.Outcome.next (State.tapRow_testEn hin hen _ _)
  case extestOff | extestPulseOff | extestTrainOff | clampOff | highzOff | standaloneOff =>
    intro d s hin hoff
    exact congrArg Host.Outcome.next (State.tapRow_noTestEn hin hoff _ _)
  case lbresult => intro d errs s hin hen; exact congrArg Host.Outcome.next (State.tapRow_testEn hin hen _ _)
  case lbresultOff => intro d errs s hin hoff; exact congrArg Host.Outcome.next (State.tapRow_noTestEn hin hoff _ _)
  case outside => intro d s hout; exact congrArg Host.Outcome.next (State.tapRow_outside hout _ _ _)

/-! Replays, retrains and the width authority (R209, R220, R221). -/

/-- R209: eight failed replays of a slot, or a lane that is lost, make a module retrain. -/
theorem exec_moduleRetrain_due {i : SiteId} {m : Fin 8} {lost : Bool} (hdue : lost = true ∨ 8 ≤ (s.mod i m).failed) :
    exec (.moduleRetrain i m lost) s = .next (s.retrain i m) :=
  congrArg Host.Outcome.next (if_pos (Bool.or_eq_true_iff.2 (hdue.imp_right decide_eq_true)))

/-- R209: without a lost lane a module with fewer failed replays stays as it is. -/
theorem exec_moduleRetrain_early {i : SiteId} {m : Fin 8} (hfew : (s.mod i m).failed < 8) :
    exec (.moduleRetrain i m false) s = .next s :=
  congrArg Host.Outcome.next (if_neg (by rw [Bool.false_or, decide_eq_true_iff]; exact Nat.not_le.2 hfew))

/-- R221: where the field's widest width is that of the record, the widest combination that both ends pass is chosen. -/
theorem exec_wreport_agrees {n : FieldId} {m : Fin 8} (hretrain : s.get FLH.MSTAT_STATE n m = 3) (htested : (s.mod n m).stage = 1)
    (hsame : s.get FLF.CAP_MAXW (8 * n.val + m) = s.get FLH.MSTAT_WIDTH n m) :
    exec (.wreport n m) s = .next (s.choose n m (s.mod n m).fd) :=
  congrArg Host.Outcome.next ((if_pos ⟨hretrain, htested⟩).trans (if_pos hsame))

/-- R221: where the widths differ DISAGREE is set, and Headworks asks the field whether it adopts the record. -/
theorem exec_wreport_disagrees {n : FieldId} {m : Fin 8} (hretrain : s.get FLH.MSTAT_STATE n m = 3) (htested : (s.mod n m).stage = 1)
    (hother : s.get FLF.CAP_MAXW (8 * n.val + m) ≠ s.get FLH.MSTAT_WIDTH n m) :
    exec (.wreport n m) s = .next ((s.set FLH.MSTAT_DISAGREE 1 n m).sendWidth n m (s.record n m) 2) :=
  congrArg Host.Outcome.next ((if_pos ⟨hretrain, htested⟩).trans (if_neg hother))

/-- R221: a WIDTH that the field has not answered is answered by whether its combination passed at the field's receivers. -/
theorem exec_width_asked {n : FieldId} {m : Fin 8} (hask : s.asking n m = true) (hnew : (s.mod n m).reply = none) :
    exec (.width n m) s =
      .next (if (s.mod n m).fd.contains (s.mod n m).asked then
          ((s.setMod n m { s.mod n m with reply := some true }).set FLF.MSTAT_WIDTH (comboWidth (s.mod n m).asked) (8 * n.val + m)).set
            FLF.MSTAT_GROUP (comboGroup (s.mod n m).asked) (8 * n.val + m)
        else (s.setMod n m { s.mod n m with reply := some false }).set FLF.MSTAT_ADOPTFAIL 1 (8 * n.val + m)) :=
  congrArg Host.Outcome.next (if_pos (by rw [hask, hnew]; rfl))

/-- Settles O27, clause by clause: a replay, a retrain and each message of the width authority by the stage that the module is in. -/
theorem flumeModuleCommands : Obligations.FlumeModuleCommands := by
  refine ⟨?replayAtField, ?replayAtHeadworks, ?retrain, ?noRetrain, ?retrainCommand, ?laneTest, ?reportAgrees, ?reportDisagrees, ?widthPassed,
    ?widthFailed, ?adopt, ?unable, ?noReply, ?notAsking, ?complete, ?clockLost, ?loopbackTest, ?loopbackDone⟩
  case replayAtField | replayAtHeadworks => intro n m again s hup; exact congrArg Host.Outcome.next (if_pos hup)
  case retrain => intro i m lost s hdue; exact exec_moduleRetrain_due hdue
  case noRetrain => intro i m s hfew; exact exec_moduleRetrain_early hfew
  case retrainCommand => intro i m s hopen; exact next_access_open hopen rfl
  case laneTest =>
    intro n m hw fd s hretrain hstage
    exact congrArg Host.Outcome.next (if_pos ⟨hretrain, hstage⟩)
  case reportAgrees => intro n m s hretrain htested hsame; exact exec_wreport_agrees hretrain htested hsame
  case reportDisagrees => intro n m s hretrain htested hother; exact exec_wreport_disagrees hretrain htested hother
  case widthPassed => intro n m s hask hnew hpassed; rw [exec_width_asked hask hnew, if_pos hpassed]
  case widthFailed => intro n m s hask hnew hfailed; rw [exec_width_asked hask hnew, if_neg (Bool.eq_false_iff.1 hfailed)]
  case adopt | unable =>
    intro n m s hask hreply
    exact congrArg Host.Outcome.next (if_pos (by rw [hask, hreply]; rfl))
  case noReply => intro n m s hask; exact congrArg Host.Outcome.next (if_pos hask)
  case notAsking => intro n m s hnot; exact congrArg Host.Outcome.next (if_neg (Bool.eq_false_iff.1 hnot))
  case complete => intro n m s hretrain hagreed; exact congrArg Host.Outcome.next (if_pos ⟨hretrain, hagreed⟩)
  case clockLost => intro i s; rfl
  case loopbackTest => intro n m near s hopen; exact next_access_open hopen rfl
  case loopbackDone => intro n m errs bad s htest; exact congrArg Host.Outcome.next (if_pos htest)

/-! Fences, the alarm line and turnouts (R212, R215, R222 to R228). -/

/-- R215: the cause of an alarm is recorded while the fence is one for ALARM and no older than 2 µs; a cause other than a brown-out
leaves the alarm line as it is. -/
theorem exec_alarmCause_noBrownOut {n : FieldId} {c : Fin 3} (hc : c.val < 2) :
    exec (.alarmCause n c) s =
      .next (if s.get FLH.RC_STATUS n = 8 ∧ s.get FLH.RC_FAIL n = 0x0C ∧ s.now / 2 ^ 16 ≤ s.stampOf fenceTs n / 2 ^ 16 + 2000 * 2 ^ 16 then
        s.set FLH.RC_FAIL (9 + c.val) n else s) := by
  simp only [exec, execAlarmCause, if_neg (Nat.ne_of_lt hc)]

/-- R225: a write of 1 to FLH_CTRL.FENCE fences a field, or a turnout that is not OFF (State.fence leaves one that is not live as it is). -/
theorem State.writeFlhCtrl_fences {i : Nat} (ht : t = s.set FLH.CTRL_FENCE 1 i) (hlinked : i < 8 ∨ t.get TRN.STAT_STATE (i - 8) ≠ 0) :
    s.writeFlhCtrl i 1 = t.rollFence i 0x0E := by
  subst ht
  exact if_pos hlinked

/-- R225: a write of 1 to FLH_CTRL.FENCE of a turnout that is OFF is only recorded. -/
theorem State.writeFlhCtrl_turnoutOff {i : Nat} (ht : t = s.set FLH.CTRL_FENCE 1 i) (hturnout : 8 ≤ i)
    (hoff : t.get TRN.STAT_STATE (i - 8) = 0) : s.writeFlhCtrl i 1 = t := by
  subst ht
  exact if_neg (not_or.2 ⟨Nat.not_lt.2 hturnout, not_not_intro hoff⟩)

/-- Settles O28, clause by clause: an event by the roll-call status of its site, or by the state of its turnout. -/
theorem fenceAndTurnoutCommands : Obligations.FenceAndTurnoutCommands := by
  refine ⟨?heartbeat, ?notLive, ?alarm, ?cause, ?brownOut, ?otherFence, ?message, ?noMessage, ?field, ?turnout, ?turnoutOff, ?train, ?unit,
    ?noUnit, ?linkTimeout⟩
  case heartbeat => intro n s hlive; exact congrArg Host.Outcome.next (if_pos hlive)
  case notLive => intro n s hdead; exact congrArg Host.Outcome.next (if_neg (Bool.eq_false_iff.1 hdead))
  case alarm => intro n s; rfl
  case cause => intro n c s hc hfenced halarm hsoon; rw [exec_alarmCause_noBrownOut hc, if_pos ⟨hfenced, halarm, hsoon⟩]
  case brownOut => intro n s t hfenced halarm hsoon; exact congrArg Host.Outcome.next (if_pos ⟨hfenced, halarm, hsoon⟩)
  case otherFence =>
    intro n c s hc hother
    rw [exec_alarmCause_noBrownOut hc, if_neg fun ⟨_, halarm, _⟩ => hother halarm]
  case message => intro n s hfenced; exact congrArg Host.Outcome.next (if_pos hfenced)
  case noMessage => intro n s hfree; exact congrArg Host.Outcome.next (if_neg hfree)
  case field => intro i s hopen hfield; exact next_access_open hopen (State.writeFlhCtrl_fences rfl (.inl hfield))
  case turnout => intro i s t hopen _ htrains; exact next_access_open hopen (State.writeFlhCtrl_fences rfl (.inr htrains))
  case turnoutOff => intro i s t hopen hturnout hoff; exact next_access_open hopen (State.writeFlhCtrl_turnoutOff rfl hturnout hoff)
  case train => intro t g s hstate hlive; exact congrArg Host.Outcome.next (if_pos ⟨hstate, hlive⟩)
  case unit => intro t m b s hup; exact congrArg Host.Outcome.next (if_pos hup)
  case noUnit => intro t m b s hdown; exact congrArg Host.Outcome.next (if_neg hdown)
  case linkTimeout => intro t s; rfl

end Sys2Proof.Machine
end

section
/-! PROOFS. The placement of HBM addresses, and the commands of an HBM controller (spec/09_hbm.md): the conditions of each clause pick one branch
of its command's meaning. Refreshes and idle timers counted on State.elapsed (log entries 4 and 9), the issue of a request and training
(log entry 26), the open trained set (log entry 5), and that a command whose condition is not met changes nothing (log entry 7) are choices
of the model. -/
namespace Sys2Proof.Machine

variable {s t : State}

/-! The place of an address in HBM (R236, R237). -/

/-- Bits cut from bits are bits of the word. -/
theorem bitsOf_bitsOf (x lo : Nat) {n lo' n' : Nat} (h : lo' + n' ≤ n) : bitsOf (bitsOf x lo n) lo' n' = bitsOf x (lo + lo') n' := by
  refine Nat.eq_of_testBit_eq fun i => ?_
  simp only [bitsOf, Nat.testBit_mod_two_pow, Nat.testBit_div_two_pow, Nat.add_assoc, Nat.add_comm lo' lo]
  by_cases hi : i < n'
  · rw [decide_eq_true (by omega : i + lo' < n), Bool.true_and]
  · rw [decide_eq_false hi, Bool.false_and, Bool.false_and]

/-- R236: the exclusive-or of the slices of b[29:7], which the pseudo-channel adds to b[6:0]. -/
def hbmFold (x : Nat) : Nat := bitsOf x 0 7 ^^^ bitsOf x 7 7 ^^^ bitsOf x 14 7 ^^^ bitsOf x 21 2

/-- R236: the five slices of an address that the pseudo-channel is made of. -/
theorem hbmChannel_eq_slices (a : Nat) :
    hbmChannel a = bitsOf a 8 7 ^^^ bitsOf a 15 7 ^^^ bitsOf a 22 7 ^^^ bitsOf a 29 7 ^^^ bitsOf a 36 2 := by
  simp [hbmChannel, bitsOf_bitsOf]

/-- R236: the pseudo-channel is b[6:0], turned over by the fold of b[29:7]. -/
theorem hbmChannel_eq_xor_fold (a : Nat) : hbmChannel a = bitsOf a 8 7 ^^^ hbmFold (bitsOf a 15 23) := by
  simp [hbmChannel_eq_slices, hbmFold, bitsOf_bitsOf, Nat.xor_assoc]

/-- R236: the fold of b[29:7] turns the pseudo-channel back into b[6:0]. -/
theorem hbmChannel_xor_fold (a : Nat) : hbmChannel a ^^^ hbmFold (bitsOf a 15 23) = bitsOf a 8 7 := by
  rw [hbmChannel_eq_xor_fold, Nat.xor_assoc, Nat.xor_self, Nat.xor_zero]

theorem bitsOf_lt (x lo n : Nat) : bitsOf x lo n < 2 ^ n := Nat.mod_lt _ (Nat.two_pow_pos n)

theorem hbmFold_lt (x : Nat) : hbmFold x < 2 ^ 7 :=
  Nat.xor_lt_two_pow (Nat.xor_lt_two_pow (Nat.xor_lt_two_pow (bitsOf_lt x 0 7) (bitsOf_lt x 7 7)) (bitsOf_lt x 14 7))
    (Nat.lt_trans (bitsOf_lt x 21 2) (by decide))

/-- R236: block i of the aligned 32 KiB number k lies in the pseudo-channel i, turned over by the fold of k. -/
theorem hbmChannel_block (k : Nat) {i : Nat} (hi : i < 2 ^ 7) :
    hbmChannel (k * 2 ^ 15 + i * 2 ^ 8) = i ^^^ hbmFold (k % 2 ^ 23) := by
  have hlow : bitsOf (k * 2 ^ 15 + i * 2 ^ 8) 8 7 = i := by simp only [bitsOf]; omega
  have hhigh : bitsOf (k * 2 ^ 15 + i * 2 ^ 8) 15 23 = k % 2 ^ 23 := by simp only [bitsOf]; omega
  rw [hbmChannel_eq_xor_fold, hlow, hhigh]

/-- R236: the local address of an address of HBM, the first 144 GiB, lies below 1.125 GiB. -/
theorem hbmLocal_lt {a : Nat} (ha : a < 0x2400000000) : hbmLocal a < 1207959552 := by
  simp only [hbmLocal, bitsOf]
  omega

/-- Settles O13: for a fixed fold, turning over by it is its own inverse. -/
theorem hbmPlacement : Obligations.HbmPlacement := by
  refine ⟨hbmChannel_eq_slices, fun a => ⟨rfl, rfl⟩, fun a b hhigh hchannel => ?oneToOne, fun k p hp => ?cover, fun a => hbmLocal_lt⟩
  case oneToOne =>
    change bitsOf a 15 23 = bitsOf b 15 23 at hhigh
    change bitsOf a 8 7 = bitsOf b 8 7
    rw [← hbmChannel_xor_fold a, ← hbmChannel_xor_fold b, hhigh, hchannel]
  case cover =>
    have hi : p ^^^ hbmFold (k % 2 ^ 23) < 2 ^ 7 := Nat.xor_lt_two_pow hp (hbmFold_lt _)
    refine ⟨p ^^^ hbmFold (k % 2 ^ 23), hi, ?_, fun j hj hchannel => ?_⟩
    · rw [hbmChannel_block k hi, Nat.xor_assoc, Nat.xor_self, Nat.xor_zero]
    · rw [← hchannel, hbmChannel_block k hj, Nat.xor_assoc, Nat.xor_self, Nat.xor_zero]

/-- Settles O14: the number of the block in its pseudo-channel, cut where the quarter, the bank, the bank group and Q begin. -/
theorem hbmBankAndRow : Obligations.HbmBankAndRow := by
  refine ⟨fun a => rfl, fun a => ?bank, fun a => ?row⟩
  case bank =>
    simp only [hbmBank, bitsOf]
    omega
  case row =>
    simp only [hbmRow]
    omega

/-! Refresh and rows (R241, R243 to R245). -/

/-- The number of a pseudo-channel of a controller names the two. -/
theorem channel_div (m : HmcId) (p : Fin 32) : (32 * m + p : Nat) / 32 = m := by omega
theorem channel_mod (m : HmcId) (p : Fin 32) : (32 * m + p : Nat) % 32 = p := by omega

/-- R244: the count of owed refreshes lies apart from the fields that show a pseudo-channel's queue. -/
theorem State.get_owed_setPc (m : HmcId) (p : Fin 32) (v : PcSt) :
    (s.setPc (32 * m + p) v).get HMC.PCSTAT_OWED m p = s.get HMC.PCSTAT_OWED m p := by
  have hheld : HMC.PCSTAT_OWED.key m p 0 ≠ HMC.PCSTAT_HELD.key m p 0 := by
    rw [HMC.PCSTAT_OWED_key, HMC.PCSTAT_HELD_key]
    omega
  have hocc : HMC.PCSTAT_OWED.key m p 0 ≠ HMC.PCQ_QOCC.key m p 0 := by
    rw [HMC.PCSTAT_OWED_key, HMC.PCQ_QOCC_key]
    omega
  simp only [State.setPc, channel_div, channel_mod, State.setB_eq]
  rw [State.get_set_ne _ hheld, State.get_set_ne _ hocc]
  rfl

/-- R244: a refresh that is due in a running controller falls due. -/
theorem exec_refreshDue_due {m : HmcId} {p : Fin 32} (hactive : s.get HMC.STAT_STATE m = 2) (hdue : (s.pc (32 * m + p)).dueAt ≤ s.elapsed) :
    exec (.refreshDue m p) s = .next (s.refreshDue (32 * m + p)) := congrArg Host.Outcome.next (if_pos ⟨hactive, hdue⟩)

/-- R244, R245: outside a forced burst, a refresh is issued in its turn, or a held pseudo-channel owes it; the eighth that it owes begins a
forced burst. -/
theorem State.refreshDue_noBurst {m : HmcId} {p : Fin 32}
    (ht : t = s.setPc (32 * m + p) { s.pc (32 * m + p) with dueAt := (s.pc (32 * m + p)).dueAt + s.refreshInterval m })
    (hburst : (t.pc (32 * m + p)).burst = false) :
    s.refreshDue (32 * m + p) =
      if t.pcHeld (32 * m + p) (t.pc (32 * m + p)) then
        if t.get HMC.PCSTAT_OWED m p + 1 < 8 then t.set HMC.PCSTAT_OWED (t.get HMC.PCSTAT_OWED m p + 1) m p
        else
          let u := ((t.set HMC.PCSTAT_OWED (t.get HMC.PCSTAT_OWED m p + 1) m p).set HMC.PCSTAT_FORCED 1 m p).count HMC.PCCNT2_FBURST 1 m p
          u.setPc (32 * m + p) { u.pc (32 * m + p) with burst := true }
      else t.setPc (32 * m + p) { t.pc (32 * m + p) with due := (t.pc (32 * m + p)).due + 1 } := by
  have howed : t.get HMC.PCSTAT_OWED m p = s.get HMC.PCSTAT_OWED m p := by rw [ht, State.get_owed_setPc]
  rw [howed]
  simp only [State.refreshDue, channel_div, channel_mod, State.raise_eq, ← ht]
  exact if_neg (Bool.eq_false_iff.1 hburst)

/-- R243: without IDLE = 0xFFF the timer of a bank has expired after IDLE units of 16 CK without an access. -/
theorem State.idleOver_expired {m : HmcId} {p : Fin 32} {b : Nat} (htimed : s.get HMC.PCCFG_IDLE m p ≠ 0xFFF)
    (hlate : Store.get 0 b (s.pc (32 * m + p)).used + s.get HMC.PCCFG_IDLE m p * 16 * 10 ^ 9 / ckMhz (s.get HMC.STAT_RATE m) ≤ s.elapsed) :
    s.idleOver (32 * m + p) b = true := by
  simp only [State.idleOver, channel_div, channel_mod]
  rw [bne_iff_ne.2 htimed, decide_eq_true hlate]
  rfl

/-- R243: with IDLE = 0xFFF no timer expires. -/
theorem State.idleOver_untimed {m : HmcId} {p : Fin 32} (hnever : s.get HMC.PCCFG_IDLE m p = 0xFFF) (b : Nat) :
    s.idleOver (32 * m + p) b = false := by
  simp only [State.idleOver, channel_div, channel_mod]
  rw [hnever]
  rfl

/-- R253: a parity error on a queued request freezes a running controller with the place of the request. -/
theorem exec_hbmFreeze_queued {m : HmcId} {p i : Fin 32} {e : QReq} (hactive : s.get HMC.STAT_STATE m = 2)
    (hqueued : (s.pc (32 * m + p)).q[i.val]? = some e) (c : Fin 3) (b : Fin 48) (r : Fin 24576) :
    exec (.hbmFreeze m c p (some i) b r) s =
      .next (s.hbmFreeze m (c + 1) p (hbmBank e.req.addr) (hbmRow e.req.addr) (hbmQuarter e.req.addr) (some e.req)) := by
  simp only [exec, execHbmFreeze, hactive, true_or, if_true, Option.bind_some, hqueued]

/-- Settles O33, clause by clause: a command by the state of its controller, a refresh by its pseudo-channel, a timer by IDLE. -/
theorem hbmServiceCommands : Obligations.HbmServiceCommands := by
  refine ⟨?issue, ?frozen, ?refresh, ?postponed, ?forced, ?idle, ?untimed, ?temperature, ?freeze, ?freezeRequest⟩
  case issue => intro m p rfm retry s hactive; exact congrArg Host.Outcome.next (if_pos (.inl hactive))
  case frozen =>
    intro m p rfm retry s hfrozen
    exact congrArg Host.Outcome.next (if_neg (by rw [hfrozen]; decide))
  case refresh =>
    intro m p t s hactive hdue ht hburst hfree
    rw [exec_refreshDue_due hactive hdue, State.refreshDue_noBurst ht hburst, if_neg (Bool.eq_false_iff.1 hfree)]
  case postponed =>
    intro m p t s hactive hdue ht hburst hheld hfew
    rw [exec_refreshDue_due hactive hdue, State.refreshDue_noBurst ht hburst, if_pos hheld, if_pos hfew]
  case forced =>
    intro m p t s hactive hdue ht hburst hheld hseven
    rw [exec_refreshDue_due hactive hdue, State.refreshDue_noBurst ht hburst, if_pos hheld, hseven, if_neg (by decide)]
  case idle =>
    intro m p b s htimed hlate
    exact congrArg Host.Outcome.next (if_pos (State.idleOver_expired htimed hlate))
  case untimed =>
    intro m p b s hnever
    exact congrArg Host.Outcome.next (if_neg (Bool.eq_false_iff.1 (State.idleOver_untimed hnever b)))
  case temperature => intro m t s; rfl
  case freeze => intro m c p b r s hactive; exact congrArg Host.Outcome.next (if_pos (.inl hactive))
  case freezeRequest => intro m c p i b r e s hactive hqueued; exact exec_hbmFreeze_queued hactive hqueued c b r

/-! Change of operating point and training (R248 to R252). -/

/-- R249: START of one controller starts its change, or sets ERR where the change is not allowed. -/
theorem State.writeFchg_start {v : Nat} (hstart : bitOf v 0 = true) (hone : bitOf v 1 = false) (m : Nat) :
    s.writeFchg m v =
      if (s.w1c v HMC.FCHG_ERR m).fchgOk m then (s.w1c v HMC.FCHG_ERR m).fchgStart m else (s.w1c v HMC.FCHG_ERR m).set HMC.FCHG_ERR 1 m :=
  (if_pos hstart).trans (if_neg (Bool.eq_false_iff.1 hone))

/-- R251: in training, an operating point of OPMASK is trained from its set: it is trained in every pseudo-channel, or training fails. -/
theorem State.hbmTrain_point {m : HmcId} {r : Fin 4} {u : State × Option (Nat × Nat)} (htraining : s.get HMC.STAT_STATE m = 1)
    (hmask : s.bit HMC.CTRL_OPMASK r m = true) (hu : u = ((s.loadSet m r).set HMC.TPAT_MODE 1 m).trainPoint m r (List.range 32)) :
    s.hbmTrain m (.point r) =
      match u.2 with
      | none => u.1.setBitOf HMC.STAT_OPTRAINED r m
      | some e => u.1.trainLost m e.1 e.2 := by
  subst hu
  refine (if_pos ⟨htraining, .inl hmask⟩).trans ?_
  obtain ⟨v, failed⟩ := ((s.loadSet m r).set HMC.TPAT_MODE 1 m).trainPoint m r (List.range 32)
  cases failed <;> rfl

/-- Settles O34, clause by clause: a register access by its word where the block is reached, a report by the state of its controller. -/
theorem hbmChangeAndTraining : Obligations.HbmChangeAndTraining := by
  refine ⟨?shadow, ?change, ?noChange, ?changeDone, ?start, ?point, ?fail, ?ca, ?rd, ?wrrd, ?wdqs, ?done⟩
  case shadow => intro m r v s hopen; exact next_access_open hopen rfl
  case change =>
    intro m v s hopen hstart hone hok
    exact next_access_open hopen ((State.writeFchg_start hstart hone m).trans (if_pos hok))
  case noChange =>
    intro m v s hopen hstart hone hnot
    exact next_access_open hopen ((State.writeFchg_start hstart hone m).trans (if_neg (Bool.eq_false_iff.1 hnot)))
  case changeDone => intro m s hchanging; exact congrArg Host.Outcome.next (if_pos hchanging)
  case start => intro m s hidle; exact congrArg Host.Outcome.next (if_pos hidle)
  case point => intro m r t s htraining hmask ht; exact congrArg Host.Outcome.next (State.hbmTrain_point htraining hmask ht)
  case fail => intro m pc bits s htraining; exact congrArg Host.Outcome.next (if_pos htraining)
  case ca | rd | wrrd | wdqs => intro m pc all s hopen; exact next_access_open hopen rfl
  case done => intro m dq extra ca cnt s hbusy; exact congrArg Host.Outcome.next (if_pos hbusy)

end Sys2Proof.Machine
end

section
/-! PROOFS. The QDR ports (spec/10_qdr.md), and the user registers, floats, clocks, flip-flops and MAC slices of a fabric (spec/12_fabric.md):
the conditions of each clause pick one branch of its command's meaning. What the freeze of a port does beyond R268 is a choice of the model
(log entry 27). -/
namespace Sys2Proof.Machine

variable {s : State}

/-! User ports of a QDR memory (R264, R314). -/

/-- R314: a request alone in its cycle, on a user port that takes requests, is that port's access. -/
theorem exec_qdrUserRequest_alone {n : FieldId} {b : Bool} (hopen : s.fabricOpen n (16 + b.toNat) = true) (we : Bool) (a : Fin 4194304)
    (d : BitVec 64) (r : List (List (Fin 3))) :
    exec (.qdrUserRequest n b we a d r none) s = .next (s.qdrUser n b we a d.toNat r) :=
  congrArg Host.Outcome.next (if_pos hopen)

/-- R264: with a request on the other user port in the same cycle, and both ports taking requests, both access, port A first. -/
theorem exec_qdrUserRequest_both {n : FieldId} (hA : s.fabricOpen n 16 = true) (hB : s.fabricOpen n 17 = true) (b we : Bool)
    (a : Fin 4194304) (d : BitVec 64) (r : List (List (Fin 3))) (x : QdrAcc) :
    exec (.qdrUserRequest n b we a d r (some x)) s =
      .next (if b then s.qdrBoth n true x ⟨we, a, d⟩ [] r else s.qdrBoth n false ⟨we, a, d⟩ x r []) := by
  have hport : ∀ c : Bool, s.fabricOpen n (16 + c.toNat) = true
    | false => hA
    | true => hB
  have hother : (some x).filter (fun _ => s.fabricOpen n (16 + (!b).toNat)) = some x := Option.filter_some_pos (hport (!b))
  simp only [exec, execQdrUserRequest, if_pos (hport b), hother]

/-! Flip-flops of a cell block (R299). -/

/-- R299: before global set/reset is released, a flip-flop takes its initial value. -/
theorem State.ffNext_globalReset {n : Nat} (hheld : s.stepRun n 2 = false) (f : FabSt) (b : BlkCfg) (i : Nat) :
    s.ffNext n f b i = (b.ffs.getD i {}).init := if_pos hheld

/-- R299: once global set/reset is released, a flip-flop whose SR is asserted takes its SR value, whatever CE is. -/
theorem State.ffNext_setReset {n : Nat} {f : FabSt} {b : BlkCfg} (hreleased : s.stepRun n 2 = true) (hsr : s.sig n f b.sr = true) (i : Nat) :
    s.ffNext n f b i = (b.ffs.getD i {}).srval := (if_neg (Bool.ne_false_iff.2 hreleased)).trans (if_pos hsr)

/-- R299: without SR, a flip-flop whose CE is 0 keeps its value. -/
theorem State.ffNext_noEnable {n : Nat} {f : FabSt} {b : BlkCfg} {i : Nat} (hreleased : s.stepRun n 2 = true) (hsr : s.sig n f b.sr = false)
    (hce : s.sig n f (if i < 8 then b.ce0 else b.ce1) = false) : s.ffNext n f b i = s.sig n f (.q b.blk i) := by
  simp [State.ffNext, hreleased, hsr, hce]

/-! The result of a MAC slice (R309). -/

/-- R309: an exact result of 58 bits is P, without overflow. -/
theorem macResult_fits (sat : Bool) {v : Int} (hlow : -2 ^ 57 ≤ v) (hhigh : v < 2 ^ 57) : macResult sat v = (v, false) := by
  rw [macResult, if_neg (Int.not_lt.2 hlow), if_neg (Int.not_le.2 hhigh)]

/-- R309: an exact result that 58 bits do not hold overflows: P is the nearer end of the range where the slice saturates, else it wraps. -/
theorem macResult_overflows {v : Int} (hover : v < -2 ^ 57 ∨ 2 ^ 57 ≤ v) (sat : Bool) :
    macResult sat v = (if sat then if v < 0 then -2 ^ 57 else 2 ^ 57 - 1 else wrapInt 58 v, true) := by
  rcases hover with hbelow | habove
  · rw [macResult, if_pos hbelow, if_pos (by omega : v < 0)]
  · rw [macResult, if_neg (by omega : ¬ v < -2 ^ 57), if_pos habove, if_neg (by omega : ¬ v < 0)]

/-- Settles O36, clause by clause: a command by the state of its port, register gate or clock, a flip-flop by what it sees at the edge, and a
MAC result by whether 58 bits hold it. -/
theorem qdrAndFabricCommands : Obligations.QdrAndFabricCommands := by
  refine ⟨?trained, ?untrained, ?freeze, ?request, ?bothRequests, ?floatOut, ?userIn, ?userOut, ?userOutGated, ?pllUnlock, ?clockLost,
    ?clockBack, ?globalReset, ?setReset, ?noEnable, ?fits, ?overflows⟩
  case trained => intro n w s htraining; exact congrArg Host.Outcome.next ((if_pos htraining).trans (if_pos rfl))
  case untrained => intro n f w s htraining hfail; exact congrArg Host.Outcome.next ((if_pos htraining).trans (if_neg hfail))
  case freeze => intro n b w c a s hready; exact congrArg Host.Outcome.next (if_pos hready)
  case request => intro n b we a d r s hopen; exact exec_qdrUserRequest_alone hopen we a d r
  case bothRequests =>
    intro n we a d r x s hA hB
    constructor
    · rw [exec_qdrUserRequest_both hA hB, if_neg Bool.false_ne_true]
    · rw [exec_qdrUserRequest_both hA hB, if_pos rfl]
  case floatOut => intro n j s; rfl
  case userIn => intro n i v s hopen; exact next_access_open hopen rfl
  case userOut => intro n i v p s hheld; exact congrArg Host.Outcome.next (if_neg hheld)
  case userOutGated => intro n i v p s hparcel hgated; exact congrArg Host.Outcome.next (if_pos ⟨hparcel, hgated⟩)
  case pllUnlock => intro n i s hlocked; exact congrArg Host.Outcome.next (if_pos hlocked)
  case clockLost => intro n s hlocked; exact congrArg Host.Outcome.next (if_pos hlocked)
  case clockBack => intro n s hlost; exact congrArg Host.Outcome.next (if_neg (Bool.eq_false_iff.1 hlost))
  case globalReset => intro n f b i s hheld; exact State.ffNext_globalReset hheld f b i
  case setReset => intro n f b i s hreleased hsr; exact State.ffNext_setReset hreleased hsr i
  case noEnable => intro n f b i s hreleased hsr hce; exact State.ffNext_noEnable hreleased hsr hce
  case fits => intro sat v hlow hhigh; exact macResult_fits sat hlow hhigh
  case overflows =>
    intro v hover
    constructor
    · rw [macResult_overflows hover, if_pos rfl]
    · rw [macResult_overflows hover, if_neg Bool.false_ne_true, wrapInt]

end Sys2Proof.Machine
end

section
/-! PROOFS. What every step keeps of the books (R30, R193, R270, R479), from what every command and the idle cycle keep. -/
namespace Sys2Proof.Machine

/-- A state that Kept relates to one with the invariant of the books has it too. -/
theorem Kept.inv {s t : State} (h : Kept s t) (hinv : s.inv = true) : t.inv = true := h.2.2 hinv

/-- Settles O4: the step is an idle cycle, or the command at the front on a state that differs in the queue alone, and both keep the
invariant. -/
theorem stepKeepsInvariant : Obligations.StepKeepsInvariant := by
  intro s t hinv hstep
  cases hqueue : s.pending with
  | nil =>
    have hcycle : s.cycle = t := Host.Outcome.next.inj ((step_idle hqueue).symm.trans hstep)
    exact hcycle ▸ (cycle_kept s).inv hinv
  | cons c l =>
    have hexec : exec c { s with pending := l } = .next t := (step_front hqueue).symm.trans hstep
    exact (exec_kept (Kept.refl { s with pending := l }) c t hexec).inv hinv

end Sys2Proof.Machine
end

section
/-! PROOFS. What the codes L and S correct and detect (spec/11_ecc.md R270, R273, R274). The columns of a code are those of its data bits, then
one for each check bit; a damaged word shows the XOR of the columns of its flipped bits. That flips of at most as many bits as a code tells
apart show different values rests on the parity of the columns, which is odd, and under Code S on the XORs of two columns, all different. -/
namespace Sys2Proof.Machine

/-! Bits and parity. -/

theorem bitOf_eq_testBit (x b : Nat) : bitOf x b = x.testBit b := by
  rw [bitOf, Nat.testBit_eq_decide_div_mod_eq]
  rfl

theorem bitOf_xor (x y b : Nat) : bitOf (x ^^^ y) b = (bitOf x b ^^ bitOf y b) := by
  simp only [bitOf_eq_testBit, Nat.testBit_xor]

/-- Turning over bit i turns over bit i alone. -/
theorem bitOf_xor_two_pow (x i b : Nat) : bitOf (x ^^^ 2 ^ i) b = (bitOf x b ^^ decide (i = b)) := by
  rw [bitOf_xor, bitOf_eq_testBit (2 ^ i), Nat.testBit_two_pow]

/-- How many bits are set is odd in an XOR where it is odd in one of the two. -/
theorem countBits_xor_mod_two (x y n : Nat) : countBits (x ^^^ y) n % 2 = (countBits x n + countBits y n) % 2 := by
  induction n with
  | zero => rfl
  | succ n ih =>
    simp only [countBits, bitOf_xor]
    cases bitOf x n <;> cases bitOf y n <;> simp only [Bool.xor_false, Bool.false_xor, Bool.xor_self, Bool.false_eq_true, if_false, if_true] <;>
      omega

theorem countBits_zero (n : Nat) : countBits 0 n = 0 := by
  induction n with
  | zero => rfl
  | succ n ih => simp [countBits, bitOf, ih]

/-! The columns of a code (R273, R274). -/

/-- The columns of all the bits of a code: of the data bits, then of the check bits. -/
def codeColumns (code : Nat) : List Nat := columnsOf code ++ (List.range (checkBits code)).map fun j => 2 ^ j

/-- The column of bit i of a code. -/
def columnAt (code i : Nat) : Nat := (codeColumns code).getD i 0

/-- What bit i of a word adds to its data. -/
def dataBit (i : Nat) : Nat := if i < 64 then 2 ^ i else 0

theorem length_columnsOf {code : Nat} (h : code = 1 ∨ code = 2) : (columnsOf code).length = 64 := by
  rcases h with rfl | rfl <;> decide

theorem length_codeColumns {code : Nat} (h : code = 1 ∨ code = 2) : (codeColumns code).length = 64 + checkBits code := by
  rw [codeColumns, List.length_append, length_columnsOf h, List.length_map, List.length_range]

theorem columnAt_data {code i : Nat} (h : code = 1 ∨ code = 2) (hi : i < 64) : columnAt code i = (columnsOf code).getD i 0 :=
  List.getD_append _ _ _ _ (by rwa [length_columnsOf h])

theorem columnAt_check {code i : Nat} (h : code = 1 ∨ code = 2) (hlo : 64 ≤ i) (hhi : i < 64 + checkBits code) :
    columnAt code i = 2 ^ (i - 64) := by
  rw [columnAt, codeColumns, List.getD_append_right _ _ _ _ (by rwa [length_columnsOf h]), length_columnsOf h,
    List.getD_eq_getElem _ _ (by rw [List.length_map, List.length_range]; omega), List.getElem_map, List.getElem_range]

theorem columnAt_eq_getElem {code i : Nat} (hi : i < (codeColumns code).length) : columnAt code i = (codeColumns code)[i] :=
  List.getD_eq_getElem _ _ hi

/-! A damaged word. -/

/-- The check field of the first n data bits of a word. -/
def checkPart (code d n : Nat) : Nat :=
  (List.range n).foldl (fun c i => if bitOf d i then c ^^^ (columnsOf code).getD i 0 else c) 0

theorem checkPart_succ (code d n : Nat) :
    checkPart code d (n + 1) = if bitOf d n then checkPart code d n ^^^ (columnsOf code).getD n 0 else checkPart code d n := by
  rw [checkPart, List.range_succ, List.foldl_append]
  rfl

/-- Turning over bit i turns over its column in the check field of the bits up to one above it. -/
theorem checkPart_flip (code d i n : Nat) :
    checkPart code (d ^^^ 2 ^ i) n = checkPart code d n ^^^ if i < n then (columnsOf code).getD i 0 else 0 := by
  induction n with
  | zero => simp [checkPart]
  | succ n ih =>
    rw [checkPart_succ, checkPart_succ, ih, bitOf_xor_two_pow]
    rcases Nat.lt_trichotomy i n with hlt | rfl | hgt
    · cases bitOf d n <;> simp [hlt, hlt.ne, Nat.lt_succ_of_lt hlt, Nat.xor_right_comm]
    · cases bitOf d i <;> simp
    · simp [hgt.ne', Nat.not_lt.2 hgt.le, Nat.not_lt.2 (Nat.succ_le_of_lt hgt)]

/-- The check field of a word with data bit i turned over: that of the word, with the column of the bit turned over. -/
theorem checkOf_flip (code d : Nat) {i : Nat} (hi : i < 64) : checkOf code (d ^^^ 2 ^ i) = checkOf code d ^^^ (columnsOf code).getD i 0 :=
  (checkPart_flip code d i 64).trans (by rw [if_pos hi]; rfl)

/-- The data and the syndrome of a damaged word: each flipped bit adds itself to the data and its column to the syndrome. -/
theorem damaged_eq {code : Nat} (h : code = 1 ∨ code = 2) (data : Nat) {flips : List Nat} (hflips : ∀ i ∈ flips, i < 64 + checkBits code) :
    damaged code data flips =
      (flips.foldl (fun d i => d ^^^ dataBit i) data, flips.foldl (fun c i => c ^^^ columnAt code i) 0) := by
  have hgen : ∀ (l : List Nat) (d c : Nat), (∀ i ∈ l, i < 64 + checkBits code) →
      (l.foldl (fun d i => if i < 64 then d ^^^ 2 ^ i else d) d = l.foldl (fun d i => d ^^^ dataBit i) d) ∧
      (l.foldl (fun c i => if i < 64 then c else c ^^^ 2 ^ (i - 64)) c ^^^
          checkOf code (l.foldl (fun d i => if i < 64 then d ^^^ 2 ^ i else d) d) =
        l.foldl (fun c i => c ^^^ columnAt code i) (c ^^^ checkOf code d)) := by
    intro l
    induction l with
    | nil => exact fun d c _ => ⟨rfl, rfl⟩
    | cons i l ih =>
      intro d c hl
      have hi := hl i List.mem_cons_self
      have hrest := fun j hj => hl j (List.mem_cons_of_mem _ hj)
      simp only [List.foldl_cons]
      by_cases hdata : i < 64
      · have hcol : c ^^^ checkOf code (d ^^^ 2 ^ i) = c ^^^ checkOf code d ^^^ columnAt code i := by
          rw [checkOf_flip code d hdata, columnAt_data h hdata, Nat.xor_assoc]
        simp only [if_pos hdata, dataBit, ← hcol]
        exact ih (d ^^^ 2 ^ i) c hrest
      · have hcol : c ^^^ 2 ^ (i - 64) ^^^ checkOf code d = c ^^^ checkOf code d ^^^ columnAt code i := by
          rw [columnAt_check h (Nat.le_of_not_lt hdata) hi, Nat.xor_assoc, Nat.xor_comm (2 ^ _), ← Nat.xor_assoc]
        simp only [if_neg hdata, dataBit, Nat.xor_zero, ← hcol]
        exact ih d (c ^^^ 2 ^ (i - 64)) hrest
  obtain ⟨hdata, hsyn⟩ := hgen flips data (checkOf code data) hflips
  rw [Nat.xor_self] at hsyn
  exact Prod.ext hdata hsyn

/-! The syndromes of flipped bits. -/

/-- The XORs of two entries of a list, the earlier with the later. -/
def pairXors : List Nat → List Nat
  | [] => []
  | a :: l => l.map (a ^^^ ·) ++ pairXors l

/-- Are the numbers of a list different from each other and from those whose bits are set in seen? -/
def allNew (seen : Nat) : List Nat → Bool
  | [] => true
  | a :: l => !seen.testBit a && allNew (seen ||| 1 <<< a) l

theorem nodup_of_allNew {seen : Nat} {l : List Nat} (h : allNew seen l = true) : l.Nodup ∧ ∀ a ∈ l, seen.testBit a = false := by
  induction l generalizing seen with
  | nil => simp
  | cons a l ih =>
    simp only [allNew, Bool.and_eq_true, Bool.not_eq_true'] at h
    obtain ⟨hnew, hrest⟩ := h
    obtain ⟨hnodup, hunseen⟩ := ih hrest
    simp only [Nat.testBit_or, Nat.one_shiftLeft, Nat.testBit_two_pow, Bool.or_eq_false_iff, decide_eq_false_iff_not] at hunseen
    refine ⟨List.nodup_cons.2 ⟨fun hmem => (hunseen a hmem).2 rfl, hnodup⟩, fun b hb => ?_⟩
    rcases List.mem_cons.1 hb with rfl | hb
    · exact hnew
    · exact (hunseen b hb).1

theorem xor_mem_pairXors {l : List Nat} {i j : Nat} (hij : i < j) (hj : j < l.length) : l[i] ^^^ l[j] ∈ pairXors l := by
  induction l generalizing i j with
  | nil => exact absurd hj (Nat.not_lt_zero _)
  | cons a l ih =>
    obtain ⟨j, rfl⟩ := Nat.exists_eq_succ_of_ne_zero (Nat.ne_zero_of_lt hij)
    rw [pairXors, List.mem_append]
    cases i with
    | zero => exact .inl (List.mem_map_of_mem (List.getElem_mem _))
    | succ i => exact .inr (ih (Nat.lt_of_succ_lt_succ hij) (Nat.lt_of_succ_lt_succ hj))

/-- Where the XORs of two entries are all different, each tells its two entries. -/
theorem pairXors_inj {l : List Nat} (h : (pairXors l).Nodup) {i j k m : Nat} (hij : i < j) (hj : j < l.length) (hkm : k < m)
    (hm : m < l.length) (heq : l[i] ^^^ l[j] = l[k] ^^^ l[m]) : i = k ∧ j = m := by
  induction l generalizing i j k m with
  | nil => exact absurd hj (Nat.not_lt_zero _)
  | cons a l ih =>
    obtain ⟨j, rfl⟩ := Nat.exists_eq_succ_of_ne_zero (Nat.ne_zero_of_lt hij)
    obtain ⟨m, rfl⟩ := Nat.exists_eq_succ_of_ne_zero (Nat.ne_zero_of_lt hkm)
    obtain ⟨hfirst, hrest, hdisjoint⟩ := List.nodup_append.1 h
    rw [List.length_cons, Nat.succ_lt_succ_iff] at hj hm
    have hmem : ∀ n (hn : n < l.length), a ^^^ l[n] ∈ l.map (a ^^^ ·) := fun n hn => List.mem_map_of_mem (List.getElem_mem hn)
    cases i with
    | zero =>
      cases k with
      | zero =>
        have hnodup : l.Nodup := hfirst.of_map _
        exact ⟨rfl, congrArg _ ((hnodup.getElem_inj_iff).1 (Nat.xor_right_injective heq))⟩
      | succ k => exact absurd heq (hdisjoint _ (hmem j hj) _ (xor_mem_pairXors (Nat.lt_of_succ_lt_succ hkm) hm))
    | succ i =>
      cases k with
      | zero => exact absurd heq.symm (hdisjoint _ (hmem m hm) _ (xor_mem_pairXors (Nat.lt_of_succ_lt_succ hij) hj))
      | succ k =>
        obtain ⟨rfl, rfl⟩ := ih hrest (Nat.lt_of_succ_lt_succ hij) hj (Nat.lt_of_succ_lt_succ hkm) hm heq
        exact ⟨rfl, rfl⟩

/-- R273, R274: the columns of a code are all different. -/
theorem codeColumns_nodup {code : Nat} (h : code = 1 ∨ code = 2) : (codeColumns code).Nodup := by
  rcases h with rfl | rfl <;> decide +kernel

/-- R273, R274: each column of a code has an odd number of bits set. -/
theorem codeColumns_odd {code : Nat} (h : code = 1 ∨ code = 2) : ∀ c ∈ codeColumns code, countBits c 15 % 2 = 1 := by
  rcases h with rfl | rfl <;> decide +kernel

/-- R274: under Code S the XORs of two columns are all different. -/
theorem pairXors_codeColumns_nodup : (pairXors (codeColumns 2)).Nodup :=
  (nodup_of_allNew (seen := 0) (by decide +kernel)).1

variable {code i j k : Nat}

theorem columnAt_mem (h : code = 1 ∨ code = 2) (hi : i < 64 + checkBits code) : columnAt code i ∈ codeColumns code := by
  rw [← length_codeColumns h] at hi
  exact columnAt_eq_getElem hi ▸ List.getElem_mem hi

theorem columnAt_inj (h : code = 1 ∨ code = 2) (hi : i < 64 + checkBits code) (hj : j < 64 + checkBits code)
    (heq : columnAt code i = columnAt code j) : i = j := by
  rw [← length_codeColumns h] at hi hj
  rw [columnAt_eq_getElem hi, columnAt_eq_getElem hj] at heq
  exact (codeColumns_nodup h).getElem_inj_iff.1 heq

/-- Under Code S two flipped bits are told by the XOR of their columns. -/
theorem columnAt_xor_inj {m : Nat} (hij : i < j) (hj : j < 79) (hkm : k < m) (hm : m < 79)
    (heq : columnAt 2 i ^^^ columnAt 2 j = columnAt 2 k ^^^ columnAt 2 m) : i = k ∧ j = m := by
  have hlen : (codeColumns 2).length = 79 := length_codeColumns (.inr rfl)
  rw [← hlen] at hj hm
  rw [columnAt_eq_getElem (hij.trans hj), columnAt_eq_getElem hj, columnAt_eq_getElem (hkm.trans hm), columnAt_eq_getElem hm] at heq
  exact pairXors_inj pairXors_codeColumns_nodup hij hj hkm hm heq

/-! Parity of syndromes. -/

theorem columnAt_odd (h : code = 1 ∨ code = 2) (hi : i < 64 + checkBits code) : countBits (columnAt code i) 15 % 2 = 1 :=
  codeColumns_odd h _ (columnAt_mem h hi)

theorem columnAt_xor_even (h : code = 1 ∨ code = 2) (hi : i < 64 + checkBits code) (hj : j < 64 + checkBits code) :
    countBits (columnAt code i ^^^ columnAt code j) 15 % 2 = 0 := by
  have := columnAt_odd h hi
  have := columnAt_odd h hj
  rw [countBits_xor_mod_two]
  omega

theorem columnAt_xor_xor_odd (h : code = 1 ∨ code = 2) (hi : i < 64 + checkBits code) (hj : j < 64 + checkBits code)
    (hk : k < 64 + checkBits code) : countBits (columnAt code i ^^^ columnAt code j ^^^ columnAt code k) 15 % 2 = 1 := by
  have := columnAt_xor_even h hi hj
  have := columnAt_odd h hk
  rw [countBits_xor_mod_two]
  omega

theorem ne_zero_of_odd {x : Nat} (hodd : countBits x 15 % 2 = 1) : x ≠ 0 := by
  rintro rfl
  rw [countBits_zero] at hodd
  exact absurd hodd (by decide)

/-! What a syndrome corrects (R270). -/

/-- The entries of a code's table of columns: a bit and its column. -/
theorem mem_zipIdx_codeColumns (h : code = 1 ∨ code = 2) {c : Nat × Nat} (hc : c ∈ (codeColumns code).zipIdx) :
    c.2 < 64 + checkBits code ∧ c.1 = columnAt code c.2 := by
  obtain ⟨-, hlt, hval⟩ := List.mem_zipIdx hc
  rw [Nat.zero_add] at hlt
  simp only [Nat.sub_zero] at hval
  exact ⟨length_codeColumns h ▸ hlt, hval.trans (columnAt_eq_getElem hlt).symm⟩

theorem columnAt_mem_zipIdx (h : code = 1 ∨ code = 2) (hi : i < 64 + checkBits code) : (columnAt code i, i) ∈ (codeColumns code).zipIdx := by
  rw [← length_codeColumns h] at hi
  rw [List.mem_zipIdx_iff_getElem?, List.getElem?_eq_getElem hi, columnAt_eq_getElem hi]

/-- A syndrome that is no column of a code. -/
theorem find_column_none {syn : Nat} (h : code = 1 ∨ code = 2) (hne : ∀ i, i < 64 + checkBits code → columnAt code i ≠ syn) :
    (codeColumns code).zipIdx.find? (fun c => c.1 == syn) = none := by
  refine List.find?_eq_none.2 fun c hc heq => ?_
  obtain ⟨hlt, hval⟩ := mem_zipIdx_codeColumns h hc
  exact hne c.2 hlt (hval.symm.trans (beq_iff_eq.1 heq))

/-- The column of bit i is found as bit i. -/
theorem find_column_self (h : code = 1 ∨ code = 2) (hi : i < 64 + checkBits code) :
    (codeColumns code).zipIdx.find? (fun c => c.1 == columnAt code i) = some (columnAt code i, i) := by
  cases hfind : (codeColumns code).zipIdx.find? (fun c => c.1 == columnAt code i) with
  | none => exact absurd (beq_self_eq_true _) (List.find?_eq_none.1 hfind _ (columnAt_mem_zipIdx h hi))
  | some c =>
    obtain ⟨hlt, hval⟩ := mem_zipIdx_codeColumns h (List.mem_of_find?_eq_some hfind)
    have heq : c.1 = columnAt code i := beq_iff_eq.1 (List.find?_some (p := fun c : Nat × Nat => c.1 == columnAt code i) hfind)
    exact congrArg some (Prod.ext heq (columnAt_inj h hlt hi (hval.symm.trans heq)))

/-- R270: the column of one bit corrects that bit. -/
theorem correctOf_column (h : code = 1 ∨ code = 2) (hi : i < 64 + checkBits code) : correctOf code (columnAt code i) = some (dataBit i) := by
  simp only [correctOf, ← codeColumns.eq_1, find_column_self h hi, dataBit]

/-- R270: Code L corrects no other syndrome than a column. -/
theorem correctOf_one_none {syn : Nat} (hne : ∀ i, i < 72 → columnAt 1 i ≠ syn) : correctOf 1 syn = none := by
  simp only [correctOf, ← codeColumns.eq_1, find_column_none (.inl rfl) hne]
  exact if_neg (by decide)

/-- R274: the search of Code S for two bits that explain a syndrome. -/
def twoBitSearch (syn : Nat) : Option Nat :=
  (codeColumns 2).zipIdx.findSome? fun c =>
    ((codeColumns 2).zipIdx.find? fun d => c.2 < d.2 && (c.1 ^^^ d.1) == syn).map fun d => dataBit c.2 ^^^ dataBit d.2

theorem correctOf_two_search {syn : Nat} (hne : ∀ i, i < 79 → columnAt 2 i ≠ syn) : correctOf 2 syn = twoBitSearch syn := by
  simp only [correctOf, ← codeColumns.eq_1, find_column_none (.inr rfl) hne, twoBitSearch, dataBit, if_true]

/-- What the search finds are two bits whose columns have the syndrome as their XOR. -/
theorem twoBitSearch_sound {syn m : Nat} (h : twoBitSearch syn = some m) :
    ∃ i j, i < j ∧ j < 79 ∧ columnAt 2 i ^^^ columnAt 2 j = syn ∧ m = dataBit i ^^^ dataBit j := by
  obtain ⟨c, hc, hfound⟩ := List.exists_of_findSome?_eq_some h
  obtain ⟨d, hd, rfl⟩ := Option.map_eq_some_iff.1 hfound
  have hpair := List.find?_some (p := fun d : Nat × Nat => c.2 < d.2 && (c.1 ^^^ d.1) == syn) hd
  simp only [Bool.and_eq_true, decide_eq_true_eq, beq_iff_eq] at hpair
  obtain ⟨-, hcval⟩ := mem_zipIdx_codeColumns (.inr rfl) hc
  obtain ⟨hdlt, hdval⟩ := mem_zipIdx_codeColumns (.inr rfl) (List.mem_of_find?_eq_some hd)
  exact ⟨c.2, d.2, hpair.1, hdlt, hcval ▸ hdval ▸ hpair.2, rfl⟩

/-- The search finds something for the XOR of two columns. -/
theorem twoBitSearch_ne_none (hij : i < j) (hj : j < 79) : twoBitSearch (columnAt 2 i ^^^ columnAt 2 j) ≠ none := by
  intro hnone
  have hrow := List.findSome?_eq_none_iff.1 hnone _ (columnAt_mem_zipIdx (.inr rfl) (hij.trans hj))
  have hcell := List.find?_eq_none.1 (Option.map_eq_none_iff.1 hrow) _ (columnAt_mem_zipIdx (.inr rfl) hj)
  exact hcell (by simp [hij])

/-- R270: under Code S the XOR of the columns of two bits corrects those two. -/
theorem correctOf_two_columns (hij : i < j) (hj : j < 79) :
    correctOf 2 (columnAt 2 i ^^^ columnAt 2 j) = some (dataBit i ^^^ dataBit j) := by
  have heven := columnAt_xor_even (.inr rfl) (hij.trans hj) hj
  rw [correctOf_two_search fun k hk heq => by have := columnAt_odd (.inr rfl) hk; rw [heq] at this; omega]
  obtain ⟨m, hm⟩ := Option.ne_none_iff_exists'.1 (twoBitSearch_ne_none hij hj)
  obtain ⟨k, l, hkl, hl, hxor, rfl⟩ := twoBitSearch_sound hm
  obtain ⟨rfl, rfl⟩ := columnAt_xor_inj hkl hl hij hj hxor
  exact hm

/-- R270: under Code S the XOR of the columns of three bits is neither a column nor the XOR of two: it corrects nothing. -/
theorem correctOf_three_columns (hij : i < j) (hjk : j < k) (hk : k < 79) :
    correctOf 2 (columnAt 2 i ^^^ columnAt 2 j ^^^ columnAt 2 k) = none := by
  have hj := hjk.trans hk
  have hodd := columnAt_xor_xor_odd (.inr rfl) (hij.trans hj) hj hk
  have hcolumn : ∀ m, m < 79 → columnAt 2 m ≠ columnAt 2 i ^^^ columnAt 2 j ^^^ columnAt 2 k := by
    intro m hm heq
    have hpairs : columnAt 2 i ^^^ columnAt 2 j = columnAt 2 m ^^^ columnAt 2 k := by rw [heq, Nat.xor_xor_cancel_right]
    rcases Nat.lt_trichotomy m k with hlt | rfl | hgt
    · exact hjk.ne (columnAt_xor_inj hij hj hlt hk hpairs).2
    · rw [Nat.xor_self, Nat.xor_eq_zero_iff] at hpairs
      exact hij.ne (columnAt_inj (.inr rfl) (hij.trans hj) hj hpairs)
    · exact (hij.trans hjk).ne (columnAt_xor_inj hij hj hgt hm (hpairs.trans (Nat.xor_comm _ _))).1
  rw [correctOf_two_search hcolumn]
  refine Option.eq_none_iff_forall_ne_some.2 fun m hm => ?_
  obtain ⟨l, n, hln, hn, hxor, -⟩ := twoBitSearch_sound hm
  have := columnAt_xor_even (.inr rfl) (hln.trans hn) hn
  rw [hxor] at this
  omega

/-! Decoding (R270, R275). -/

/-- A syndrome that corrects something, and is not that of the poison pattern, decodes as correctable. -/
theorem decodeWord_correctable {syn m : Nat} (hcode : code ≠ 0) (hne : syn ≠ 0) (hpoison : syn ≠ poisonCheck code)
    (hcorrect : correctOf code syn = some m) (data : Nat) : decodeWord code data syn = (.correctable, data ^^^ m) := by
  simp [decodeWord, hcode, hne, hpoison, hcorrect]

/-- A syndrome that corrects nothing decodes as uncorrectable, or as the poison pattern. -/
theorem decodeWord_detected {syn : Nat} (hcode : code ≠ 0) (hne : syn ≠ 0) (hnone : correctOf code syn = none) (data : Nat) :
    (decodeWord code data syn).1 ∈ [WordState.uncorrectable, .poisoned] := by
  rw [decodeWord, if_neg hcode, if_neg hne, hnone]
  split
  · exact .tail _ (.head _)
  · exact .head _

/-- R270: under Codes L and S a word with one bit turned over is corrected; its syndrome has an odd number of bits, and that of the poison
pattern of Code L an even one. -/
theorem decodeWord_oneFlip (h : code = 1 ∨ code = 2) (data : Nat) (hi : i < 64 + checkBits code) :
    decodeWord code (damaged code data [i]).1 (damaged code data [i]).2 = (.correctable, data) := by
  have hcode : code ≠ 0 := by rcases h with rfl | rfl <;> decide
  have hpoison : poisonCheck code ∉ codeColumns code := by rcases h with rfl | rfl <;> decide
  have hmem := columnAt_mem h hi
  simp only [damaged_eq h data (List.forall_mem_singleton.2 hi), List.foldl_cons, List.foldl_nil, Nat.zero_xor]
  rw [decodeWord_correctable hcode (ne_zero_of_odd (columnAt_odd h hi)) (fun heq => hpoison (heq ▸ hmem)) (correctOf_column h hi),
    Nat.xor_xor_cancel_right]

theorem columnAt_xor_ne_zero (h : code = 1 ∨ code = 2) (hij : i < j) (hj : j < 64 + checkBits code) :
    columnAt code i ^^^ columnAt code j ≠ 0 :=
  fun hzero => hij.ne (columnAt_inj h (hij.trans hj) hj (Nat.xor_eq_zero_iff.1 hzero))

/-- R270: under Code L two bits turned over are detected: the XOR of two columns is not zero, and no column. -/
theorem decodeWord_twoFlips_detected (data : Nat) (hij : i < j) (hj : j < 72) :
    (decodeWord 1 (damaged 1 data [i, j]).1 (damaged 1 data [i, j]).2).1 ∈ [WordState.uncorrectable, .poisoned] := by
  have hflips : ∀ x ∈ [i, j], x < 64 + checkBits 1 := by simpa using ⟨hij.trans hj, hj⟩
  have heven := columnAt_xor_even (.inl rfl) (hij.trans hj) hj
  simp only [damaged_eq (.inl rfl) data hflips, List.foldl_cons, List.foldl_nil, Nat.zero_xor]
  refine decodeWord_detected (by decide) (columnAt_xor_ne_zero (.inl rfl) hij hj) (correctOf_one_none fun k hk heq => ?_) _
  have := columnAt_odd (.inl rfl) hk
  rw [heq] at this
  omega

/-- R270: under Code S two bits turned over are corrected. -/
theorem decodeWord_twoFlips_corrected (data : Nat) (hij : i < j) (hj : j < 79) :
    decodeWord 2 (damaged 2 data [i, j]).1 (damaged 2 data [i, j]).2 = (.correctable, data) := by
  have hflips : ∀ x ∈ [i, j], x < 64 + checkBits 2 := by simpa using ⟨hij.trans hj, hj⟩
  have heven := columnAt_xor_even (.inr rfl) (hij.trans hj) hj
  have hpoison : columnAt 2 i ^^^ columnAt 2 j ≠ poisonCheck 2 := by
    intro heq
    rw [heq] at heven
    exact absurd heven (by decide)
  simp only [damaged_eq (.inr rfl) data hflips, List.foldl_cons, List.foldl_nil, Nat.zero_xor]
  rw [decodeWord_correctable (by decide) (columnAt_xor_ne_zero (.inr rfl) hij hj) hpoison (correctOf_two_columns hij hj),
    Nat.xor_assoc data, Nat.xor_xor_cancel_right]

/-- R270: under Code S three bits turned over are detected. -/
theorem decodeWord_threeFlips_detected (data : Nat) (hij : i < j) (hjk : j < k) (hk : k < 79) :
    (decodeWord 2 (damaged 2 data [i, j, k]).1 (damaged 2 data [i, j, k]).2).1 ∈ [WordState.uncorrectable, .poisoned] := by
  have hj := hjk.trans hk
  have hflips : ∀ x ∈ [i, j, k], x < 64 + checkBits 2 := by simpa using ⟨hij.trans hj, hj, hk⟩
  simp only [damaged_eq (.inr rfl) data hflips, List.foldl_cons, List.foldl_nil, Nat.zero_xor]
  exact decodeWord_detected (by decide) (ne_zero_of_odd (columnAt_xor_xor_odd (.inr rfl) (hij.trans hj) hj hk))
    (correctOf_three_columns hij hjk hk) _

/-- R270: a word whose bits are as stored reads clean. -/
theorem decodeWord_noFlip (h : code ≤ 2) (data : Nat) :
    decodeWord code (damaged code data []).1 (damaged code data []).2 = (.clean, data) := by
  simp only [damaged, List.foldl_nil, Nat.xor_self, decodeWord_clean h]

/-- Settles O15: a syndrome is the XOR of the columns of the flipped bits, and tells as many of them as the code corrects. -/
theorem codesCorrectAndDetect : Obligations.CodesCorrectAndDetect :=
  ⟨⟨rfl, rfl, rfl⟩, fun _ data hcode _ => decodeWord_noFlip hcode data, fun data _ _ hi => decodeWord_oneFlip (.inl rfl) data hi,
    fun data _ _ _ hij hj => decodeWord_twoFlips_detected data hij hj, fun data _ _ hi => decodeWord_oneFlip (.inr rfl) data hi,
    fun data _ _ _ hij hj => decodeWord_twoFlips_corrected data hij hj,
    fun data _ _ _ _ hij hjk hk => decodeWord_threeFlips_detected data hij hjk hk, fun _ _ => rfl⟩

end Sys2Proof.Machine
end

section
/-! PROOFS. What reads and writes of the memories leave unchanged, and the poison pattern (spec/11_ecc.md R275 to R277): from the frames of the
operations of a read, and word by word for a write. -/
namespace Sys2Proof.Machine

variable {s t : State}

/-! Reads (R276). -/

/-- A state with the memories of another has the same check bits. -/
theorem State.same_wordSyn (h : s.same .memory t) (w : Nat) : t.wordSyn w = s.wordSyn w :=
  congrArg (fun m : List Host.Cell × List (Nat × Nat) × List (Nat × Nat) => Store.get 0 w m.2.1) h

/-- R276: a read, performed or not, leaves the memories as they are. -/
theorem State.readMem_same_memory (s : State) (src : Nat) (port : Option Nat) (a len : Nat) (fetch : Bool) (client : Nat) :
    s.same .memory (s.readMem src port a len fetch client).1 :=
  State.readMem_same (by decide) (by decide) (by decide) s.same_refl

/-! Writes (R275, R277, R288). -/

/-- A stored word leaves the bytes outside it alone. -/
theorem State.memByte_putWord_outside (s : State) {w x : Nat} (hx : x / 8 ≠ w) (data syn : Nat) :
    (s.putWord w data syn).memByte x = s.memByte x := by
  rw [State.memByte_putWord, State.memByte_setBytes_outside (by rw [length_bytesLE]; omega)]

theorem State.memByte_poisonWord_outside (s : State) {w x : Nat} (hx : x / 8 ≠ w) : (s.poisonWord w).memByte x = s.memByte x :=
  s.memByte_putWord_outside hx _ _

/-- R288: the flip mask of a full write acts on its own word, and is spent in a register. -/
theorem State.memByte_fullWrite_outside (s : State) {w x : Nat} (hx : x / 8 ≠ w) (data : Nat) :
    (s.fullWrite w data).memByte x = s.memByte x := by
  simp only [State.fullWrite]
  split
  · rw [State.same_memByte (State.eccSet_same (State.same_refl _)), s.memByte_putWord_outside hx]
  · exact s.memByte_putWord_outside hx data 0

/-- A performed write, which then overtakes write-backs and ends reservations, has the memories of the store alone. -/
theorem State.landed_same (t : State) (w : Nat) (holder : Option Nat) : t.same .memory ((t.staleWrite w).clearResv w holder) :=
  State.clearResv_same (by decide) (State.staleWrite_same (by decide) t.same_refl)

/-- R277: the write of one word, whole, partial, poisoned or refused, leaves every byte outside it alone. -/
theorem State.memByte_writeWord_outside (s : State) (src : Nat) (holder : Option Nat) {w x : Nat} (hx : x / 8 ≠ w) (l : List (Option Byte))
    (pois : Bool) : (s.writeWord src holder w l pois).1.memByte x = s.memByte x := by
  have hlanded : ∀ t : State, t.memByte x = s.memByte x → ((t.staleWrite w).clearResv w holder).memByte x = s.memByte x :=
    fun t ht => (State.same_memByte (t.landed_same w holder) x).trans ht
  have hwake : (s.wakeBank w).memByte x = s.memByte x := State.same_memByte (State.wakeBank_same s.same_refl) x
  simp only [State.writeWord]
  split
  · rfl
  split
  · exact hlanded _ ((State.memByte_poisonWord_outside _ hx).trans hwake)
  split
  · exact hlanded _ ((State.memByte_fullWrite_outside _ hx _).trans hwake)
  split
  · exact hlanded _ ((State.memByte_putWord_outside _ hx _ _).trans hwake)
  · refine hlanded _ ((State.memByte_putWord_outside _ hx _ _).trans ?_)
    exact State.same_memByte (State.eccCount_same (State.eccCount_same (State.wakeBank_same s.same_refl))) x
  · exact State.same_memByte (State.eccLog_same (State.eccCount_same (State.wakeBank_same s.same_refl))) x

/-- R277: the writes of n words from w on leave every byte outside them alone. -/
theorem State.memByte_writeWords_outside (s : State) (src : Nat) (holder : Option Nat) (pois : Bool) {w n x : Nat}
    (hx : x / 8 < w ∨ w + n ≤ x / 8) (l : List (Option Byte)) : (s.writeWords src holder pois w n l).1.memByte x = s.memByte x := by
  induction n generalizing s w l with
  | zero => rfl
  | succ n ih => exact (ih _ (by omega) _).trans (s.memByte_writeWord_outside src holder (by omega) _ pois)

/-- R277: a write that is performed leaves every byte outside its words alone, and one that is not leaves the memories as they are. -/
theorem State.memByte_writeMem_outside (s : State) (src : Nat) (port holder : Option Nat) {a x : Nat} {l : List (Option Byte)}
    (hx : x / 8 < a / 8 ∨ a / 8 + wordSpan a l.length ≤ x / 8) (pois : Bool) (client : Nat) :
    (s.writeMem src port holder a l pois client).1.memByte x = s.memByte x := by
  rw [State.writeMem]
  cases hreach : s.reach src port a l.length 1 with
  | some r => exact State.same_memByte (State.reach_same s.same_refl r hreach) x
  | none =>
    refine (State.memByte_writeWords_outside _ src holder pois hx _).trans ?_
    exact State.same_memByte (State.qdrIssued_same (by decide) (by decide) s.same_refl) x

/-- Settles O17: a read has a frame of all memories, and a write is one of its words. -/
theorem memoryFrames : Obligations.MemoryFrames :=
  ⟨fun s src a len x client port fetch =>
      ⟨State.same_memByte (s.readMem_same_memory src port a len fetch client) x, State.same_wordSyn (s.readMem_same_memory src port a len fetch client) x⟩,
    fun s src _ _ client port holder _ pois hx => s.memByte_writeMem_outside src port holder hx pois client⟩

/-! The poison pattern (R275). -/

/-- R275: a word that matches the pattern of its code reads as poisoned. -/
theorem decodeWord_poison {code : Nat} (hcode : code ≠ 0) : decodeWord code 0 (poisonCheck code) = (.poisoned, 0) := by
  rw [decodeWord, if_neg hcode, if_pos ⟨rfl, rfl⟩]

/-- R271: where an address is checked, it is under the code of its region. -/
theorem State.checkCode_eq_codeAt (s : State) {a : Nat} (h : s.checkCode a ≠ 0) : s.checkCode a = s.codeAt a := by
  simp only [State.checkCode, State.codeAt] at h ⊢
  split
  · rfl
  · rfl
  · split
    · simp_all
    · rfl

theorem State.codeAt_congr (h : t.csr = s.csr) (a : Nat) : t.codeAt a = s.codeAt a := by
  unfold State.codeAt
  rw [State.regionGet_congr h]

/-- A performed write, which then overtakes write-backs and ends reservations, has the registers of the store. -/
theorem State.landed_csr (t : State) (w : Nat) (holder : Option Nat) : ((t.staleWrite w).clearResv w holder).csr = t.csr := by
  show (t.staleWrite w).csr = t.csr
  simp only [State.staleWrite]
  split <;> rfl

/-- R275: the poison pattern is stored under the code of the region. -/
theorem State.poisonWord_eq (s : State) (w : Nat) :
    s.poisonWord w = s.putWord w 0 (if s.codeAt (8 * w) = 0 then 0 else poisonCheck (s.codeAt (8 * w))) := rfl

/-- R275: a write with POIS = 1 that touches a word. -/
theorem State.writeWord_poison (s : State) (src : Nat) (holder : Option Nat) (w : Nat) {l : List (Option Byte)} (h : l.any Option.isSome = true) :
    (s.writeWord src holder w l true).1 = (((s.wakeBank w).poisonWord w).staleWrite w).clearResv w holder := by
  have htouched : ¬ l.all (·.isNone) = true := by
    obtain ⟨b, hb, hsome⟩ := List.any_eq_true.1 h
    exact fun hall => Option.isSome_iff_ne_none.1 hsome (Option.isNone_iff_eq_none.1 (List.all_eq_true.1 hall b hb))
  rw [State.writeWord, if_neg htouched]
  rfl

/-- R275: what such a write leaves in the word. -/
theorem State.writeWord_poison_leaves (s : State) (src : Nat) (holder : Option Nat) (w : Nat) {l : List (Option Byte)}
    (h : l.any Option.isSome = true) (ht : t = (s.writeWord src holder w l true).1) :
    t.wordData w = 0 ∧ t.wordSyn w = if t.codeAt (8 * w) = 0 then 0 else poisonCheck (t.codeAt (8 * w)) := by
  rw [State.writeWord_poison s src holder w h] at ht
  have hmem : ((s.wakeBank w).poisonWord w).same .memory t := ht ▸ State.landed_same _ w holder
  have hcsr : t.csr = (s.wakeBank w).csr := ht ▸ (State.landed_csr _ w holder).trans (by rw [State.poisonWord_eq, State.putWord_csr])
  refine ⟨?_, ?_⟩
  · calc t.wordData w = ((s.wakeBank w).poisonWord w).wordData w := congrArg natLE (State.memBytes_congr fun x _ _ => State.same_memByte hmem x)
      _ = 0 := State.wordData_putWord_self ..
  · rw [State.same_wordSyn hmem, State.codeAt_congr hcsr, State.poisonWord_eq, State.wordSyn_putWord_self]

/-- Settles O18: a poisoned write stores the pattern under its region's code, and a word that is checked is checked under that code. -/
theorem poisonPattern : Obligations.PoisonPattern := by
  refine ⟨⟨rfl, rfl⟩, ⟨decodeWord_poison (by decide), decodeWord_poison (by decide)⟩,
    fun s src w holder l h => State.writeWord_poison_leaves s src holder w h rfl, fun s src w holder l h hchecked => ?_⟩
  obtain ⟨hdata, hsyn⟩ := State.writeWord_poison_leaves s src holder w h rfl
  have hcode := State.checkCode_eq_codeAt _ hchecked
  rw [State.readWord, hdata, hsyn, ← hcode, if_neg hchecked, decodeWord_poison hchecked]

end Sys2Proof.Machine
end

section
/-! PROOFS. Walkers (spec/11_ecc.md R284, R286), the user registers of a fabric (spec/12_fabric.md R322), and basin blocks and reservoirs
(spec/13_basins_reservoirs.md): the conditions of each clause pick one branch of its command's meaning. -/
namespace Sys2Proof.Machine

variable {s : State}

/-! The walk between two steps (R284, R286). -/

/-- R286: in a pass, with nothing to repair, a walker does nothing before the interval in force has passed. -/
theorem State.walkStep_early {k : Nat} (hrepair : (s.walker k).repair = []) (hrunning : (s.walker k).running = true)
    (hearly : s.elapsed < (s.walker k).nextAt) : s.walkStep k = s := by
  simp [State.walkStep, hrepair, hrunning, hearly]

/-- Walker 1 in the midst of a pass, at the first word of the scratch memory; its next step is due after 10^-15 s. -/
def walkBetweenSteps : State :=
  (((State.reset.set DRH.WK_EN 1 1).set DRH.WK_POS_LO scratchBase 1).set DRH.WK_POS_HI (scratchBase / 2 ^ 32) 1).setWalker 1
    { running := true, nextAt := 1 }

/-- Refutes O22: its clause for a step of a pass does not ask whether the interval in force has passed. In walkBetweenSteps it has not: the
walker stays at its word, where the clause has it go on to the next. -/
theorem not_walkAndRegionCommands : ¬ Obligations.WalkAndRegionCommands := by
  rintro ⟨-, -, hstep, -⟩
  have hnext := hstep 1 walkBetweenSteps (by decide) (by decide) (by decide)
  have hstays : exec (.walkStep 1) walkBetweenSteps = .next walkBetweenSteps :=
    congrArg Host.Outcome.next (State.walkStep_early (by decide) (by decide) (by decide))
  have heq : walkBetweenSteps = walkBetweenSteps.walkOn1 1 := Host.Outcome.next.inj (hstays.symm.trans hnext)
  have hpos : walkBetweenSteps.walkPos 1 ≠ (walkBetweenSteps.walkOn1 1).walkPos 1 := by decide
  exact hpos (congrArg (State.walkPos · 1) heq)

/-! User registers (R322). -/

/-- R322: a strobe changes the fabric alone. -/
theorem State.usrWritten_eq (s : State) (n i : Nat) : s.usrWritten n i = { s with fabs := (s.usrWritten n i).fabs } := by
  unfold State.usrWritten
  split <;> rfl

/-- R322: the register reads what was written, and the fabric is given it whole. -/
theorem State.writeUsrIn_spec (s : State) (n i : Nat) (v : Word) :
    ((s.writeUsrIn n i v.toNat).answer .ok).get FLD.USRIN n i = v.toNat ∧
      ((s.writeUsrIn n i v.toNat).answer .ok).out = s.out ++ [.usrIn n i v.toNat] := by
  rw [State.writeUsrIn, State.usrWritten_eq]
  refine ⟨?_, rfl⟩
  calc _ = (s.set FLD.USRIN v.toNat n i).get FLD.USRIN n i := rfl
    _ = v.toNat % 2 ^ 32 := State.get_set_self s _ _ _ _ _ (by decide)
    _ = v.toNat := Nat.mod_eq_of_lt v.isLt

/-- Settles O12: the access is open, and the write gives the register and the fabric the value. -/
theorem userRegisterIn : Obligations.UserRegisterIn :=
  fun n i v s hopen => ⟨_, next_access_open hopen rfl, s.writeUsrIn_spec n i v⟩

/-! Basin blocks and reservoirs (R325, R335 to R345). -/

/-- R325: with a clock of its region running, a basin block takes a cycle, in which gates may hold its writes. -/
theorem exec_basinAccess_clocked {n : FieldId} {r : Fin 16} {gated : Bool} (hrun : s.stepRun n 0 = true) (hclock : s.clocksRun n r = true)
    (hgate : (regionGated s n r || !s.bit FCC.STEP_DONE 3 n) = gated) (i : Fin 84) (a b : Option BasinPort) :
    exec (.basinAccess n r i a b) s = .next (s.basinCycle (1344 * n.val + 84 * r.val + i.val) gated a b) :=
  hgate ▸ congrArg Host.Outcome.next (if_pos ⟨hrun, hclock⟩)

/-- Settles O23, clause by clause: a basin block by whether a clock of its region runs, a reservoir port by whether it takes a request. -/
theorem reservoirAndBasinCommands : Obligations.ReservoirAndBasinCommands := by
  refine ⟨?basin, ?basinGated, ?basinStopped, ?read, ?fetch, ?write, ?ll, ?sc, ?lock⟩
  case basin | basinGated => intro n r i a b s hrun hclock hgate; exact exec_basinAccess_clocked hrun hclock hgate i a b
  case basinStopped => intro n r i a b s hstop; exact congrArg Host.Outcome.next (if_neg fun hrun => Bool.eq_false_iff.1 hstop hrun.2)
  case read | fetch => intro i p x len st s htakes; exact congrArg Host.Outcome.next (if_pos htakes)
  case write => intro i c s; rfl
  case ll => intro i p w h st s htakes; exact congrArg Host.Outcome.next (if_pos htakes)
  case sc => intro i p w h d st s htakes; exact congrArg Host.Outcome.next (if_pos htakes)
  case lock => intro i s hopen; exact next_access_open hopen rfl

end Sys2Proof.Machine
end

section
/-! PROOFS. The instructions of a Rill engine (spec/15_rill_isa.md): each row is the issue of its opcode; where nothing intervenes the issue runs
the instruction (Laws/Rill.lean), and an instruction has one result or one fault. -/
namespace Sys2Proof.Machine

variable {s p q t : State} {g held pc w : Nat}

/-! Rows (R365, R369). -/

/-- R369: the row of a Rill instruction is the issue of its opcode on its engine. -/
theorem exec_of_rilRowOf {i : Instr} {g : EngId} {held op : Nat} (h : rilRowOf i = some (g, held, op)) (s : State) :
    exec i s = .next (s.rilRow g op held) := by
  unfold rilRowOf at h
  split at h <;> cases h <;> rfl

/-- R365: an engine that does not run, or must wait, issues nothing. -/
theorem State.rilRow_idle {op : Nat} (h : s.rget RIL.ESTAT_STATE g ≠ 1 ∨ s.rilBlocked g = true) : s.rilRow g op held = s :=
  if_neg fun ⟨hrun, hfree, _⟩ => h.elim (· hrun) fun hblocked => Bool.eq_false_iff.1 hfree hblocked

/-- R365, R370: a word that is not legal faults with cause 1. -/
theorem State.rilIssue_illegal (hfree : p.rilBlocked g = false) (hpc : p.rget RIL.EPC g < 0x4100)
    (hlegal : rilLegal (p.fetch g (p.rget RIL.EPC g)) (p.rget RIL.EPC g) = false) :
    p.rilIssue g (some (rilOp (p.fetch g (p.rget RIL.EPC g)))) false = p.rilFault g 1 (p.rget RIL.EPC g) 0 := by
  simp [State.rilIssue, hfree, Nat.not_le.2 hpc, hlegal]

/-- R349, R365: a PC beyond the patch memory faults with cause 2. -/
theorem State.rilIssue_beyond (hfree : p.rilBlocked g = false) (hpc : 0x4100 ≤ p.rget RIL.EPC g) (op : Option Nat) :
    p.rilIssue g op false = p.rilFault g 2 (p.rget RIL.EPC g) 0 := by
  simp [State.rilIssue, hfree, hpc]

/-- R386: an engine that still runs, its stall cycles over, issues the instruction at its PC. -/
theorem State.rilRow_issue {op : Nat} (hrun : s.rget RIL.ESTAT_STATE g = 1) (hfree : s.rilBlocked g = false)
    (hop : rilOp (s.fetch g (s.rget RIL.EPC g)) = op ∨ 0x4100 ≤ s.rget RIL.EPC g) (hp : p = s.rilPaused g held)
    (hruns : p.rget RIL.ESTAT_STATE g = 1) : s.rilRow g op held = p.rilIssue g (some op) false := by
  subst hp
  rw [State.rilRow, if_pos ⟨hrun, hfree, hop.imp_right .inr⟩]
  exact if_pos hruns

/-- Settles O53: each row is its issue, and the last three clauses say which branch of the issue is taken. -/
theorem rillInstructionRows : Obligations.RillInstructionRows := by
  refine ⟨?_, ?_, ?_, ?_, ?_, ?_, ?_, ?_, ?_, ?_, ?_, ?_, ?_, ?_, ?_, ?_, ?_, ?_, ?_, ?_, ?_, ?_, ?_, ?_, ?_, ?_, ?_, ?_, ?idle, ?illegal, ?beyond⟩
  case idle => intro g held op i s hrow h; rw [exec_of_rilRowOf hrow, State.rilRow_idle h]
  case illegal =>
    intro g held op w p i s hrow hrun hfree hpc hw hop hlegal hp hruns hfree' hpc' hw'
    have hissue := State.rilRow_issue (op := op) hrun hfree (.inl (hw ▸ hop)) hp hruns
    have hillegal : rilLegal (p.fetch g (p.rget RIL.EPC g)) (p.rget RIL.EPC g) = false := by rw [hw', hpc', hlegal]
    rw [exec_of_rilRowOf hrow, hissue, ← hop, ← hw', State.rilIssue_illegal hfree' (hpc' ▸ hpc) hillegal]
  case beyond =>
    intro g held op p i s hrow hrun hfree hpc hp hruns hfree' hpc'
    have hissue := State.rilRow_issue (op := op) hrun hfree (.inr hpc) hp hruns
    rw [exec_of_rilRowOf hrow, hissue, State.rilIssue_beyond hfree' (hpc' ▸ hpc)]
  all_goals intro g st s; exact exec_of_rilRowOf rfl s

/-! An instruction that runs (R374, R376, R381, R384, R385). -/

section
variable (h : s.rilPlain g pc w = true) (hp : p = s.rilPaused g held) (h2 : p.rilPlain g pc w = true) (hq : q = p.rilTaken g w pc)
include h hp h2 hq

/-- R374, R384: a compute word whose moves do not fault. -/
theorem State.rilRow_compute (hop : rilOp w ≤ 0x0A) (hmoves : (q.rilDoCompute g w).2.1 = none) :
    s.rilRow g (rilOp w) held = ((q.rilDoCompute g w).1.rset RIL.EPC (p.rilNext g pc) g).rilClose g pc 1 (q.rilDoCompute g w).2.2 := by
  subst hq
  simp only [State.rilRow_plain h hp h2, State.rilExec, if_pos hop, hmoves]

/-- R365, R371: a compute word with a move that faults. -/
theorem State.rilRow_compute_fault (hop : rilOp w ≤ 0x0A) {f : Nat × Nat} (hmoves : (q.rilDoCompute g w).2.1 = some f) :
    s.rilRow g (rilOp w) held = ((q.rilDoCompute g w).1.rilFault g f.1 pc f.2).rilClose g pc 1 (q.rilDoCompute g w).2.2 := by
  subst hq
  simp only [State.rilRow_plain h hp h2, State.rilExec, if_pos hop, hmoves]

/-- R376, R381: a control or memory word that has its effect. -/
theorem State.rilRow_control (hop : 0x0A < rilOp w) {next n : Nat}
    (hdone : q.rilDoControl g w pc (p.rilNext g pc) = (t, next, n, none)) : s.rilRow g (rilOp w) held = t.rilWent g pc next n := by
  subst hq
  simp only [State.rilRow_plain h hp h2, State.rilExec, if_neg (Nat.not_le.2 hop), hdone, State.rilWent]

/-- R365, R381: a memory word that faults before any effect. -/
theorem State.rilRow_control_fault (hop : 0x0A < rilOp w) {next n cause faddr : Nat}
    (hfault : q.rilDoControl g w pc (p.rilNext g pc) = (t, next, n, some (cause, faddr))) :
    s.rilRow g (rilOp w) held = (p.rilFault g cause pc faddr).rilClose g pc 1 [] := by
  subst hq
  simp only [State.rilRow_plain h hp h2, State.rilExec, if_neg (Nat.not_le.2 hop), hfault]

/-- R374: a compute word without moves writes what its operation gives. -/
theorem State.rilRow_noMoves (hop : rilOp w ≤ 0x0A) (hnone : rilNoMoves w = true) :
    s.rilRow g (rilOp w) held =
      q.rilWrote g pc (p.rilNext g pc) (rilComputeOp w (q.eng g) (q.rget RIL.EST g) (q.rget RIL.EBE g)) := by
  have hkinds : (rilMove w 11).kind = 0 ∧ (rilMove w 0).kind = 0 := by simpa [rilNoMoves, rilMove] using hnone
  obtain ⟨hx, hy⟩ := hkinds
  have hmoves : q.rilDoCompute g w =
      ((rilComputeOp w (q.eng g) (q.rget RIL.EST g) (q.rget RIL.EBE g)).d.foldl (fun s x => s.setEng g ((s.eng g).setReg x.1 x.2))
        (((q.setEng g (rilComputeOp w (q.eng g) (q.rget RIL.EST g) (q.rget RIL.EBE g)).eng).rset RIL.EST
          (rilComputeOp w (q.eng g) (q.rget RIL.EST g) (q.rget RIL.EBE g)).st g).rset RIL.EBE
          (rilComputeOp w (q.eng g) (q.rget RIL.EST g) (q.rget RIL.EBE g)).be g), none, []) := by
    simp only [State.rilDoCompute, MoveOut.move, hx, hy, if_true, List.append_nil]
  rw [State.rilRow_compute h hp h2 hq hop (by rw [hmoves]), hmoves, State.rilWrote]
end

/-! Results by row. -/

section
variable {g : EngId} {i : Instr} {op : Nat} (hrow : rilRowOf i = some (g, held, op)) (h : s.rilPlain g pc w = true)
  (hp : p = s.rilPaused g held) (h2 : p.rilPlain g pc w = true) (hq : q = p.rilTaken g w pc) (hop : rilOp w = op)
include hrow h hp h2 hq hop

/-- The row of a compute word without moves, by the result of its operation. -/
theorem exec_rilCompute (hcompute : op ≤ 0x0A) (hnone : rilNoMoves w = true) {r : RilOut}
    (hr : rilComputeOp w (q.eng g) (q.rget RIL.EST g) (q.rget RIL.EBE g) = r) :
    exec i s = .next (q.rilWrote g pc (p.rilNext g pc) r) := by
  subst hop
  rw [exec_of_rilRowOf hrow, State.rilRow_noMoves h hp h2 hq hcompute hnone, hr]

/-- The row of a control or memory word that has its effect. -/
theorem exec_rilControl (hcontrol : 0x0A < op) {next n : Nat} (hdone : q.rilDoControl g w pc (p.rilNext g pc) = (t, next, n, none)) :
    exec i s = .next (t.rilWent g pc next n) := by
  subst hop
  rw [exec_of_rilRowOf hrow, State.rilRow_control h hp h2 hq hcontrol hdone]

/-- The row of a memory word that faults before any effect. -/
theorem exec_rilControl_fault (hcontrol : 0x0A < op) {next n cause faddr : Nat}
    (hfault : q.rilDoControl g w pc (p.rilNext g pc) = (t, next, n, some (cause, faddr))) :
    exec i s = .next ((p.rilFault g cause pc faddr).rilClose g pc 1 []) := by
  subst hop
  rw [exec_of_rilRowOf hrow, State.rilRow_control_fault h hp h2 hq hcontrol hfault]
end

/-- Settles O54: a compute word without moves by its operation, one with moves by whether they fault. -/
theorem rillComputeResults : Obligations.RillComputeResults := by
  refine ⟨?nop, ?cmac, ?dmac, ?bfly, ?aop, ?ast, ?calu, ?ralu, ?acs, ?bexp, ?scale, ?moves, ?movesFault⟩
  case moves =>
    intro g held pc w i p q s hrow hop h hp h2 hq hmoves
    rw [exec_of_rilRowOf hrow, State.rilRow_compute h hp h2 hq hop hmoves]
  case movesFault =>
    intro g held pc w i p q f s hrow hop h hp h2 hq hmoves
    rw [exec_of_rilRowOf hrow, State.rilRow_compute_fault h hp h2 hq hop hmoves]
  all_goals
    intro g held pc w p q s h hp h2 hq hop hnone
    exact exec_rilCompute rfl h hp h2 hq hop (by decide) hnone (by simp only [rilComputeOp, hop])

/-! Control instructions (R376 to R379). -/

/-- R377: BR by its condition: a taken branch leaves the loops that do not hold its target, and takes 3 cycles. -/
theorem State.rilDoControl_br {next : Nat} (hop : rilOp w = 0x23) :
    q.rilDoControl g w pc next = if q.rilCond g w then (q.setEng g ((q.eng g).branch (bitsOf w 0 15)), bitsOf w 0 15, 3, none)
      else (q, next, 1, none) := by
  simp only [State.rilDoControl, hop]

/-- R378: DO with a count starts a loop. -/
theorem State.rilDo_count {n next : Nat} (hn : n = if bitOf w 40 then (q.eng g).reg (bitsOf w 36 4) % 2 ^ 16 else bitsOf w 16 16) (hne : n ≠ 0) :
    q.rilDo g w pc next =
      (q.setEng g { q.eng g with lc := Store.set 0 (bitsOf w 41 1) n (q.eng g).lc, loops := ⟨bitsOf w 41 1, pc + 1, bitsOf w 0 15⟩ :: (q.eng g).loops.filter fun l => l.lc != bitsOf w 41 1 }, next) := by
  simp only [State.rilDo, ← hn, if_neg hne]

/-- R378: DO with a count of 0 is a taken branch behind the loop. -/
theorem State.rilDo_zero {next : Nat} (hn : (if bitOf w 40 then (q.eng g).reg (bitsOf w 36 4) % 2 ^ 16 else bitsOf w 16 16) = 0) :
    q.rilDo g w pc next = (q.setEng g ((q.eng g).branch (bitsOf w 0 15 + 1)), bitsOf w 0 15 + 1) := by
  simp only [State.rilDo, hn, if_true]

/-- R378, R385: DO takes one cycle where it goes on to the next word, and else 3. -/
theorem State.rilDoControl_do {next next' : Nat} (hop : rilOp w = 0x26) (hdo : q.rilDo g w pc next = (t, next')) :
    q.rilDoControl g w pc next = (t, next', if next' = next then 1 else 3, none) := by
  simp only [State.rilDoControl, hop, hdo]

/-- Settles O55, instruction by instruction: each has one result; BR by its condition, and DO by its count. -/
theorem rillControlResults : Obligations.RillControlResults := by
  refine ⟨?ldi, ?movr, ?stb, ?taken, ?notTaken, ?call, ?jmpr, ?loop, ?noLoop, ?stop, ?wdr⟩
  case taken =>
    intro g held pc w p q s h hp h2 hq hop hcond
    exact exec_rilControl rfl h hp h2 hq hop (by decide) ((State.rilDoControl_br hop).trans (if_pos hcond))
  case notTaken =>
    intro g held pc w p q s h hp h2 hq hop hcond
    exact exec_rilControl rfl h hp h2 hq hop (by decide) ((State.rilDoControl_br hop).trans (if_neg (Bool.eq_false_iff.1 hcond)))
  case loop =>
    intro g held pc w n p q s h hp h2 hq hop hn hne
    exact exec_rilControl rfl h hp h2 hq hop (by decide) (by rw [State.rilDoControl_do hop (State.rilDo_count hn hne), if_pos rfl])
  case noLoop =>
    intro g held pc w n p q s h hp h2 hq hop hn hzero hjump
    exact exec_rilControl rfl h hp h2 hq hop (by decide)
      (by rw [State.rilDoControl_do hop (State.rilDo_zero (hn ▸ hzero)), if_neg hjump])
  all_goals
    intro g held pc w p q s h hp h2 hq hop
    exact exec_rilControl rfl h hp h2 hq hop (by decide) (by simp only [State.rilDoControl, hop])

/-! Memory instructions (R362 to R364, R380 to R382). -/

/-- R381: an access that is issued takes one cycle. -/
theorem State.rilDoControl_mem {next : Nat} (hop : 0x29 ≤ rilOp w ∧ rilOp w ≤ 0x2D) (hissued : q.rilMem g w = some t) :
    q.rilDoControl g w pc next = (t, next, 1, none) := by
  obtain ⟨hlo, hhi⟩ := hop
  rcases (by omega : rilOp w = 0x29 ∨ rilOp w = 0x2A ∨ rilOp w = 0x2B ∨ rilOp w = 0x2C ∨ rilOp w = 0x2D) with e | e | e | e | e <;>
    simp only [State.rilDoControl, e, hissued]

/-- R381: an LL or SC that is not issued faults with cause 5. -/
theorem State.rilDoControl_mem_fault {next : Nat} (hop : rilOp w = 0x2B ∨ rilOp w = 0x2C) (hnot : q.rilMem g w = none) :
    q.rilDoControl g w pc next = (q, pc, 1, some (5, (q.rilAccess g w).addr)) := by
  rcases hop with e | e <;> simp only [State.rilDoControl, e, hnot]

theorem State.rilAccess_kind : (q.rilAccess g w).kind = rilOp w - 0x29 := rfl

/-- R362, R380: LOAD and STORE join what the engine has outstanding, and may move the base pair on. -/
theorem State.rilMem_loadStore (hop : rilOp w = 0x29 ∨ rilOp w = 0x2A) : q.rilMem g w =
    some (q.setEng g (if bitOf w 30 then EngSt.incBase { q.eng g with outs := (q.eng g).outs ++ [q.rilAccess g w] } (bitsOf w 34 4) (q.rilAccess g w).len
      else { q.eng g with outs := (q.eng g).outs ++ [q.rilAccess g w] })) := by
  have hkind : (q.rilAccess g w).kind ≤ 1 := by rw [State.rilAccess_kind]; omega
  have hne : ¬ (((q.rilAccess g w).kind = 2 ∨ (q.rilAccess g w).kind = 3) ∧ (q.rilAccess g w).stream ≠ 4) := by omega
  simp only [State.rilMem, if_neg hne, hkind, true_and]

/-- R380: LL and SC inside the own window, and AMO, join what the engine has outstanding. -/
theorem State.rilMem_atomic (hop : 0x2B ≤ rilOp w ∧ rilOp w ≤ 0x2D) (hown : rilOp w = 0x2D ∨ (q.rilAccess g w).stream = 4) :
    q.rilMem g w = some (q.setEng g { q.eng g with outs := (q.eng g).outs ++ [q.rilAccess g w] }) := by
  have hkind : ¬ ((q.rilAccess g w).kind ≤ 1 ∧ bitOf w 30 = true) := by rw [State.rilAccess_kind]; omega
  have hne : ¬ (((q.rilAccess g w).kind = 2 ∨ (q.rilAccess g w).kind = 3) ∧ (q.rilAccess g w).stream ≠ 4) := by
    rw [State.rilAccess_kind]; omega
  simp only [State.rilMem, if_neg hne, if_neg hkind]

/-- R381: LL and SC outside the own window are not issued. -/
theorem State.rilMem_outside (hop : rilOp w = 0x2B ∨ rilOp w = 0x2C) (hout : (q.rilAccess g w).stream ≠ 4) : q.rilMem g w = none :=
  if_pos ⟨by rw [State.rilAccess_kind]; omega, hout⟩

/-- R382: a block transfer that is issued takes one cycle. -/
theorem State.rilDoControl_blk {next : Nat} (hop : rilOp w = 0x2E) (hissued : q.rilBlk g w = some t) :
    q.rilDoControl g w pc next = (t, next, 1, none) := by
  simp only [State.rilDoControl, hop, hissued]

/-- R382: a block transfer outside the own window faults with cause 5. -/
theorem State.rilDoControl_blk_fault {next : Nat} (hop : rilOp w = 0x2E) (hnot : q.rilBlk g w = none) :
    q.rilDoControl g w pc next = (q, pc, 1, some (5, rilAddr w (q.eng g) / 64 * 64)) := by
  simp only [State.rilDoControl, hop, hnot]

/-- R382: BLK inside the own window is issued. -/
theorem State.rilBlk_isSome (hown : ownRsv g (rilAddr w (q.eng g) / 64 * 64) = true) : q.rilBlk g w = some ((q.rilBlk g w).getD q) := by
  simp only [State.rilBlk, hown, Bool.true_eq_false, if_false, Option.getD_some]

/-- R382: BLK that moves neither its pointer nor its base pair on. -/
theorem State.rilBlk_plain (hown : ownRsv g (rilAddr w (q.eng g) / 64 * 64) = true) (hptr : bitOf w 33 = false) (hbase : bitOf w 30 = false) :
    q.rilBlk g w = some (q.setEng g { q.eng g with blks := (q.eng g).blks ++ [⟨bitOf w 41, bitsOf w 40 1,
      Store.get 0 (4 * bitsOf w 40 1 + bitsOf w 38 2) (q.eng g).ptr / 16 * 16, rilAddr w (q.eng g) / 64 * 64⟩] }) := by
  simp only [State.rilBlk, hown, hptr, hbase, Bool.true_eq_false, Bool.false_eq_true, if_false]

/-- Settles O56, instruction by instruction: an access or transfer that is issued, or one outside the own window. -/
theorem rillMemoryIssue : Obligations.RillMemoryIssue := by
  refine ⟨?load, ?store, ?ll, ?llOutside, ?sc, ?scOutside, ?amo, ?flush, ?bwait, ?blkPlain, ?blk, ?blkOutside⟩
  case load | store =>
    intro g held pc w p q s h hp h2 hq hop
    exact exec_rilControl rfl h hp h2 hq hop (by decide) (State.rilDoControl_mem (by omega) (State.rilMem_loadStore (by omega)))
  case ll | sc =>
    intro g held pc w p q s h hp h2 hq hop hown
    exact exec_rilControl rfl h hp h2 hq hop (by decide) (State.rilDoControl_mem (by omega) (State.rilMem_atomic (by omega) (.inr hown)))
  case llOutside | scOutside =>
    intro g held pc w p q s h hp h2 hq hop hout
    exact exec_rilControl_fault rfl h hp h2 hq hop (by decide)
      (State.rilDoControl_mem_fault (by omega) (State.rilMem_outside (by omega) hout))
  case amo =>
    intro g held pc w p q s h hp h2 hq hop
    exact exec_rilControl rfl h hp h2 hq hop (by decide) (State.rilDoControl_mem (by omega) (State.rilMem_atomic (by omega) (.inl hop)))
  case flush | bwait =>
    intro g held pc w p q s h hp h2 hq hop
    exact exec_rilControl rfl h hp h2 hq hop (by decide) (by simp only [State.rilDoControl, hop])
  case blkPlain =>
    intro g held pc w p q s h hp h2 hq hop hown hptr hbase
    have hissued := State.rilBlk_plain (q := q) hown hptr hbase
    exact exec_rilControl rfl h hp h2 hq hop (by decide) (State.rilDoControl_blk hop hissued)
  case blk =>
    intro g held pc w p q s h hp h2 hq hop hown
    exact exec_rilControl rfl h hp h2 hq hop (by decide) (State.rilDoControl_blk hop (State.rilBlk_isSome hown))
  case blkOutside =>
    intro g held pc w p q s h hp h2 hq hop hout
    have hnone : q.rilBlk g w = none := if_pos hout
    exact exec_rilControl_fault rfl h hp h2 hq hop (by decide) (State.rilDoControl_blk_fault hop hnone)

end Sys2Proof.Machine
end

section
/-! PROOFS. Rill engines beside their instructions (spec/14_rill_engine.md): starting and resetting them, the patch loader, the watchdog, the
cluster clock, external accesses and block transfers. The conditions of each clause pick one branch of its command's meaning. -/
namespace Sys2Proof.Machine

variable {s t : State}

/-- R366: requests still outstanding when the wait for them ends wedge the engine. -/
theorem exec_engineResetWedged_busy {g : EngId} (hreset : (s.eng g).resetting = true) (hbusy : s.rilQuiet g = false)
    (ht : t = s.setEng g { s.eng g with resetting := false }) :
    exec (.engineResetWedged g) s = .next ((t.rilFault g 8 (t.rget RIL.EPC g) 0).rset RIL.ESTAT_WEDGED 1 g) := by
  subst ht
  simp only [exec, execEngineResetWedged, hreset, hbusy, Bool.not_false, Bool.and_self, if_true]

/-- R350: the end of a load in progress copies what is left. -/
theorem exec_patchLoadDone_loading {k : ClusterId} {p : PatchLd} (hload : Store.find k.val s.loaders = some p) :
    exec (.patchLoadDone k) s = .next (s.patchWords k p p.words) := by
  simp only [exec, execPatchLoadDone, hload]

/-- R367: the watchdog count of a running engine passes, and the watchdog expires if it has reached 0. -/
theorem exec_watchdogExpiry_counting {g : EngId} (hrun : s.rget RIL.ESTAT_STATE g = 1) (hen : s.rget RIL.WDRL_WDEN g = 1)
    (ht : t = s.rilCycles g (1024 * s.rget RIL.WDCNT g - (s.eng g).wdSub)) : exec (.watchdogExpiry g) s = .next (t.rilExpire g) :=
  ht ▸ congrArg Host.Outcome.next (if_pos ⟨hrun, hen⟩)

/-- R367: an expiry faults with cause 7 where no halt is due. -/
theorem State.rilExpire_fault {g : Nat} (hrun : t.rget RIL.ESTAT_STATE g = 1) (hen : t.rget RIL.WDRL_WDEN g = 1)
    (hzero : t.rget RIL.WDCNT g = 0) (hnone : (t.eng g).halt = none) : t.rilExpire g = t.rilFault g 7 (t.rget RIL.EPC g) 0 := by
  rw [State.rilExpire, if_pos ⟨hrun, hen, hzero⟩, hnone]
  rfl

/-- R474: in its place a halt that is due is taken. -/
theorem State.rilExpire_halt {g : Nat} (hrun : t.rget RIL.ESTAT_STATE g = 1) (hen : t.rget RIL.WDRL_WDEN g = 1)
    (hzero : t.rget RIL.WDCNT g = 0) (hhalt : (t.eng g).halt.isSome = true) : t.rilExpire g = t.breakLock g := by
  rw [State.rilExpire, if_pos ⟨hrun, hen, hzero⟩, if_pos hhalt]

/-- R347, R501: the clock of an idle cluster without a loader at work stops. -/
theorem exec_clusterClockStop_idle {k : ClusterId} (hgate : s.flag PWR.POL_CGATE = true) (hidle : s.clusterIdle k = true)
    (hload : Store.find k.val s.loaders = none) (hon : s.flag RIL.CSTAT_CLKOFF k = false) :
    exec (.clusterClockStop k) s = .next ((s.raise RIL.CSTAT_CLKOFF k).setBitOf FPW.GATE_COFF (k % 4) (k / 4)) := by
  simp only [exec, execClusterClockStop, hgate, hidle, hload, hon, Option.isNone_none, Bool.not_false, Bool.and_self, if_true]

/-- R351: a forced access takes a cycle of a running engine. -/
theorem exec_xyExternalAccess_forced {g : EngId} (hrun : (s.wakeCluster (g / 8)).rget RIL.ESTAT_STATE g = 1) :
    exec (.xyExternalAccess g true) s =
      .next (((s.wakeCluster (g / 8)).count RIL.ECNT_XYSTALL 1 (g / 8) (g % 8)).rilCycles g 1 |>.rilBreak g |>.rilExpire g) := by
  simp only [exec, execXyExternalAccess, hrun, beq_self_eq_true, Bool.and_self, if_true]

/-- R363: without a block transfer none completes. -/
theorem exec_blockTransferDone_none {g : EngId} (hnone : (s.eng g).blks = []) : exec (.blockTransferDone g) s = .next s := by
  simp only [exec, execBlockTransferDone, hnone]

/-- R363: the oldest block transfer completes; a BWAIT for the last one ends. -/
theorem exec_blockTransferDone_ok {g : EngId} {b : RilBlk} {l : List RilBlk} {r : State} (hblks : (s.eng g).blks = b :: l)
    (hdone : s.doBlock g b = (r, .ok)) :
    exec (.blockTransferDone g) s =
      .next ((r.setEng g { r.eng g with blks := l, wait := if (r.eng g).wait = 2 ∧ l.isEmpty = true then 0 else (r.eng g).wait }).rilAfter g) := by
  simp only [exec, execBlockTransferDone, hblks, hdone, reduceCtorEq, ne_eq, not_true_eq_false, false_and, if_false]

/-- Settles O52, clause by clause. -/
theorem rillEngineCommands : Obligations.RillEngineCommands := by
  refine ⟨?start, ?reset, ?resetDone, ?wedged, ?load, ?loadDone, ?expired, ?expiredHalt, ?notRunning, ?clockStop, ?xy, ?xyForced, ?noBlock,
    ?block, ?accessReturn⟩
  case start | reset => intro g e s hopen; exact next_access_open hopen rfl
  case resetDone =>
    intro g s hreset hquiet
    exact congrArg Host.Outcome.next (if_pos (Bool.and_eq_true_iff.2 ⟨hreset, hquiet⟩))
  case wedged => intro g s hreset hbusy; exact exec_engineResetWedged_busy hreset hbusy rfl
  case load => intro k v s hopen; exact next_access_open hopen rfl
  case loadDone => intro k p s hload; exact exec_patchLoadDone_loading hload
  case expired =>
    intro g t s hrun hen ht hrun' hen' hzero hnone
    rw [exec_watchdogExpiry_counting hrun hen ht, State.rilExpire_fault hrun' hen' hzero hnone]
  case expiredHalt =>
    intro g t s hrun hen ht hrun' hen' hzero hhalt
    rw [exec_watchdogExpiry_counting hrun hen ht, State.rilExpire_halt hrun' hen' hzero hhalt]
  case notRunning => intro g s hrun; exact congrArg Host.Outcome.next (if_neg fun h => hrun h.1)
  case clockStop => intro k s hgate hidle hload hon; exact exec_clusterClockStop_idle hgate hidle hload hon
  case xy => intro g s; rfl
  case xyForced => intro g s hrun; exact exec_xyExternalAccess_forced hrun
  case noBlock => intro g s hnone; exact exec_blockTransferDone_none hnone
  case block => intro g b l s hblks hok; exact exec_blockTransferDone_ok hblks (Prod.ext rfl hok)
  case accessReturn => intro g k gu s htclk; exact congrArg Host.Outcome.next (if_pos htclk)

end Sys2Proof.Machine
end

section
/-! PROOFS. Mailbox commands and the ledger (spec/16_cxl.md R398 to R408): the conditions of each clause pick one branch of its command's
meaning, and a command by registers acts where its block is reached. -/
namespace Sys2Proof.Machine

variable {s t : State}

/-! The mailbox (R406 to R408). -/

/-- R406: Get Log inside the Command Effects Log. -/
theorem exec_getLog_inside {p : List Byte} (hlen : p.length = 24) (hid : p.take 16 = effectsUuid)
    (hin : fieldAt p 16 4 + fieldAt p 20 4 ≤ effectsLog.length) :
    exec (.getLog p) s = .next (s.mailbox 0 ((effectsLog.drop (fieldAt p 16 4)).take (fieldAt p 20 4))) := by
  have hgood : ¬ (p.length ≠ 24 ∨ p.take 16 ≠ effectsUuid ∨ effectsLog.length < fieldAt p 16 4 + fieldAt p 20 4) :=
    not_or_intro (not_not_intro hlen) (not_or_intro (not_not_intro hid) (Nat.not_lt.2 hin))
  exact congrArg Host.Outcome.next (if_neg hgood)

/-- R407: GET_EVENTS for 1 to 127 records. -/
theorem exec_getEvents_good {p : List Byte} (hlen : p.length = 10) (hsome : fieldAt p 8 2 ≠ 0) (hmost : fieldAt p 8 2 ≤ 127) :
    exec (.getEvents p) s = .next (s.mailbox 0 (s.eventList (fieldAt p 0 8) (fieldAt p 8 2))) := by
  have hgood : ¬ (p.length ≠ 10 ∨ fieldAt p 8 2 = 0 ∨ 127 < fieldAt p 8 2) := by omega
  exact congrArg Host.Outcome.next (if_neg hgood)

/-- R408: a good COPY whose ledger entry is free. -/
theorem exec_copyCmd_good {p : List Byte} (hlen : p.length = 32) (hsome : fieldAt p 16 8 ≠ 0) (hmost : fieldAt p 16 8 ≤ 2 ^ 40)
    (hentry : fieldAt p 24 2 ≤ 1023) (hzero : fieldAt p 26 6 = 0) (hfree : s.opBusy (fieldAt p 24 2) = false) :
    exec (.copyCmd p) s = .next ((s.copyBegin (fieldAt p 0 8) (fieldAt p 8 8) (fieldAt p 16 8) (fieldAt p 24 2)).mailbox 0) := by
  have hgood : ¬ (p.length ≠ 32 ∨ fieldAt p 16 8 = 0 ∨ 2 ^ 40 < fieldAt p 16 8 ∨ 1023 < fieldAt p 24 2 ∨ fieldAt p 26 6 ≠ 0) := by omega
  simp only [exec, execCopy, if_neg hgood, hfree, Bool.false_eq_true, if_false]
  rfl

/-- R408: a step of a copy before the last, all of whose bytes are copied. -/
theorem exec_copyStep_copied {lo hi : Nat} (hactive : s.copy.active = true) (hlast : s.copy.step < 63)
    (hlo : s.copy.len * s.copy.step / 64 = lo) (hhi : s.copy.len * (s.copy.step + 1) / 64 = hi)
    (hcopied : s.copyBytes (hi - lo) (s.copy.src + lo) (s.copy.dst + lo) (hi - lo) = (t, hi - lo, none)) :
    exec .copyStep s = .next { (t.opMove s.copy.entry 3 (1024 * (s.copy.step + 1)) (copyWords hi noResult)) with
      copy := { s.copy with step := s.copy.step + 1 } } := by
  simp only [exec, execCopyStep, hactive, hlo, hhi, hcopied, Nat.ne_of_lt hlast, Nat.lt_irrefl, Bool.not_true, Bool.false_eq_true, if_false]

/-- Settles O40, clause by clause. -/
theorem mailboxCommands : Obligations.MailboxCommands := by
  refine ⟨?timestamp, ?setTimestamp, ?logs, ?log, ?rollcall, ?events, ?copy, ?copyLength, ?idle, ?step⟩
  case timestamp | logs | rollcall => intro s; rfl
  case setTimestamp => intro p s; rfl
  case log => intro p s hlen hid hin; exact exec_getLog_inside hlen hid hin
  case events => intro p s hlen hsome hmost; exact exec_getEvents_good hlen hsome hmost
  case copy => intro p s hlen hsome hmost hentry hzero hfree; exact exec_copyCmd_good hlen hsome hmost hentry hzero hfree
  case copyLength => intro p s hlen; exact congrArg Host.Outcome.next (if_pos (.inl hlen))
  case idle => intro s hidle; simp only [exec, execCopyStep, hidle, Bool.not_false, if_true]
  case step => intro s hactive hlast hcopied; exact exec_copyStep_copied hactive hlast rfl rfl (Prod.ext rfl hcopied)

/-! The entries of the ledger (R399, R400, R402). -/

/-- R400: an entry of which nothing is due, or that was written less than 4 us ago, is not written. -/
theorem exec_ledgerEntryWrite_notDue {i : Fin 1024} (h : (s.op i).due = false ∨ s.elapsed < (s.op i).notBefore) (ok : Bool) :
    exec (.ledgerEntryWrite i ok) s = .next s :=
  congrArg Host.Outcome.next (if_neg fun ⟨hdue, hgap⟩ => h.elim (Bool.eq_false_iff.1 · hdue) (Nat.not_lt.2 hgap))

/-- R400, R402: an entry that is due is written, and mirrored. -/
def State.entryWritten (s : State) (i : Fin 1024) (ok : Bool) : State :=
  ((s.setOp i { s.op i with due := false, stateDue := false, notBefore := s.elapsed + entryGap }).writeEntry i (s.op i)).mirrorEntry i ok

/-- R400: the write of an entry whose STATE has not changed. -/
theorem exec_ledgerEntryWrite_sameState {i : Fin 1024} (hdue : (s.op i).due = true) (hgap : (s.op i).notBefore ≤ s.elapsed)
    (hsame : (s.op i).stateDue = false) (ok : Bool) : exec (.ledgerEntryWrite i ok) s = .next (s.entryWritten i ok) := by
  simp only [exec, execLedgerEntryWrite, hdue, hgap, hsame, and_self, Bool.false_eq_true, if_true, if_false, State.entryWritten]

/-- R400, R404: the write of an entry that has moved to a state before its end. -/
theorem exec_ledgerEntryWrite_moved {i : Fin 1024} (hdue : (s.op i).due = true) (hgap : (s.op i).notBefore ≤ s.elapsed)
    (hmoved : (s.op i).stateDue = true) (hrunning : (s.op i).state < 4) (ok : Bool) :
    exec (.ledgerEntryWrite i ok) s = .next ((s.entryWritten i ok).entryChanged i) := by
  simp only [exec, execLedgerEntryWrite, hdue, hgap, hmoved, Nat.not_le.2 hrunning, and_self, if_true, if_false, State.entryWritten]

/-- R399: an operation that has ended leaves its entry to IDLE. -/
theorem State.releaseEntry_ended {i : Nat} (hshown : 4 ≤ s.get LGR.STATE i) (hended : 4 ≤ (s.op i).state) :
    s.releaseEntry i =
      (((s.setOp i { notBefore := s.elapsed + entryGap }).writeEntry i {}).clearBitOf CXL.LCHG (i % 32) (i / 32)).mirrorEntry i true :=
  if_pos (Bool.and_eq_true_iff.2 ⟨decide_eq_true hshown, decide_eq_true hended⟩)

/-- R399: an entry that has not ended is not released. -/
theorem State.releaseEntry_notEnded {i : Nat} (hshown : s.get LGR.STATE i < 4) : s.releaseEntry i = s.raise CXL.LGST_RELERR :=
  if_neg fun h => Nat.not_lt.2 (of_decide_eq_true (Bool.and_eq_true_iff.1 h).1) hshown

/-- R399: a write of CXL_LREL asks for the entry that it names. -/
theorem exec_ledgerRelease_open {i : Nat} {v : Word} (hopen : s.barred .CXL 0 = none) (hgo : bitOf v.toNat 10 = true)
    (hentry : bitsOf v.toNat 0 10 = i) : exec (.ledgerRelease v) s = .next ((s.releaseEntry i).answer .ok) :=
  next_access_open hopen (by rw [if_pos hgo, hentry])

/-- R402: the base of the mirror does not tell whether the mirror may run. -/
theorem State.copiesAllowed_set_base (s : State) (v : Nat) : (s.set CXL.LMIR_BASE v).copiesAllowed = s.copiesAllowed :=
  congrArg (fun m => s.cxl.cacheEn && m == 2) (s.get_set_ne (by decide) v)

/-- R402: EN is set where the copies may run. -/
theorem State.writeLmirLo_allowed {v : Nat} (hen : bitOf v 0 = true) (hallowed : s.copiesAllowed = true) :
    s.writeLmirLo v = (s.set CXL.LMIR_BASE (bitsOf v 16 16)).raise CXL.LMIR_EN := by
  simp only [State.writeLmirLo, hen, State.copiesAllowed_set_base, hallowed, if_true]

/-- R402: where they may not, EN stays 0 and MIRERR is set. -/
theorem State.writeLmirLo_barred {v : Nat} (hen : bitOf v 0 = true) (hbarred : s.copiesAllowed = false) :
    s.writeLmirLo v = ((s.set CXL.LMIR_BASE (bitsOf v 16 16)).lower CXL.LMIR_EN).raise CXL.LGST_MIRERR := by
  simp only [State.writeLmirLo, hen, State.copiesAllowed_set_base, hbarred, if_true, Bool.false_eq_true, if_false]

/-! The ledger-changed vector (R404). -/

/-- R404: a change while the vector is disabled only sets its bit. -/
theorem State.entryChanged_disabled {i : Nat} (ht : t = s.setBitOf CXL.LCHG (i % 32) (i / 32)) (hoff : t.flag CXL.LIRQ_EN = false) :
    s.entryChanged i = t := by
  simp only [State.entryChanged, ← ht, hoff, Bool.false_and, Bool.false_eq_true, if_false]

/-- R404: a change sends an armed vector. -/
theorem State.entryChanged_armed {i : Nat} (ht : t = s.setBitOf CXL.LCHG (i % 32) (i / 32)) (hon : t.flag CXL.LIRQ_EN = true)
    (harmed : t.flag CXL.LIRQ_ARMED = true) : s.entryChanged i = t.sendVector := by
  simp only [State.entryChanged, ← ht, hon, harmed, Bool.and_self, if_true]

/-- R404: a write of CXL_LIRQ with EN = 0 sends nothing. -/
theorem State.writeLirq_disable {v : Nat} (hoff : bitOf v 0 = false) (ht : t = (s.set CXL.LIRQ_EN 0).set CXL.LIRQ_HOLDOFF (bitsOf v 16 16)) :
    s.writeLirq v = if bitOf v 1 then t.set CXL.LIRQ_ARMED 1 else t := by
  have hset : (s.setB CXL.LIRQ_EN (bitOf v 0)).set CXL.LIRQ_HOLDOFF (bitsOf v 16 16) = t := by rw [hoff, ht]; rfl
  have hen : (t.set CXL.LIRQ_ARMED 1).get CXL.LIRQ_EN = 0 := by
    calc (t.set CXL.LIRQ_ARMED 1).get CXL.LIRQ_EN = t.get CXL.LIRQ_EN := t.get_set_ne (f := CXL.LIRQ_ARMED) (by decide) 1
      _ = (s.set CXL.LIRQ_EN 0).get CXL.LIRQ_EN := ht ▸ (s.set CXL.LIRQ_EN 0).get_set_ne (f := CXL.LIRQ_HOLDOFF) (by decide) _
      _ = 0 := s.get_set_self CXL.LIRQ_EN 0 0 0 0
  have hnot : (0 == 1) = false := rfl
  simp only [State.writeLirq, hset, State.raise, State.flag, hen, hnot, Bool.false_and, Bool.false_eq_true, if_false]

/-- Settles O46, clause by clause. -/
theorem ledgerCommands : Obligations.LedgerCommands := by
  refine ⟨?notDue, ?sameState, ?moved, ?early, ?release, ?releaseErr, ?mirror, ?mirrorErr, ?ring, ?vectorOff, ?vector, ?disarm, ?notHeld, ?held⟩
  case notDue => intro i ok s hdue; exact exec_ledgerEntryWrite_notDue (.inl hdue) ok
  case early => intro i ok s hgap; exact exec_ledgerEntryWrite_notDue (.inr hgap) ok
  case sameState => intro i ok s hdue hgap hsame; exact exec_ledgerEntryWrite_sameState hdue hgap hsame ok
  case moved => intro i ok s hdue hgap hmoved hrunning; exact exec_ledgerEntryWrite_moved hdue hgap hmoved hrunning ok
  case release =>
    intro i v s hopen hgo hentry hshown hended
    rw [exec_ledgerRelease_open hopen hgo hentry, State.releaseEntry_ended hshown hended]
  case releaseErr =>
    intro i v s hopen hgo hentry hshown
    rw [exec_ledgerRelease_open hopen hgo hentry, State.releaseEntry_notEnded hshown]
    rfl
  case mirror =>
    intro v s hopen hen hcache hmode
    have hallowed : s.copiesAllowed = true := Bool.and_eq_true_iff.2 ⟨hcache, beq_iff_eq.2 hmode⟩
    exact next_access_open hopen (State.writeLmirLo_allowed hen hallowed)
  case mirrorErr =>
    intro v s hopen hen hcache
    have hbarred : s.copiesAllowed = false := by rw [State.copiesAllowed, hcache, Bool.false_and]
    exact next_access_open hopen (State.writeLmirLo_barred hen hbarred)
  case ring => intro v s hopen; exact next_access_open hopen rfl
  case vectorOff => intro i s hoff; exact congrArg Host.Outcome.next (State.entryChanged_disabled rfl hoff)
  case vector => intro i s hon harmed; exact congrArg Host.Outcome.next (State.entryChanged_armed rfl hon harmed)
  case disarm => intro v s hopen hoff; exact next_access_open hopen (State.writeLirq_disable hoff rfl)
  case notHeld => intro s hheld; simp only [exec, execHoldoffExpiry, hheld, Bool.false_eq_true, if_false]
  case held => intro s hheld; simp only [exec, execHoldoffExpiry, hheld, if_true]

end Sys2Proof.Machine
end

section
/-! PROOFS. The sources of package resets and their end (R395, R397, R495, R506-R508, R513), and the swaps of a parcel
(R429-R432). -/
namespace Sys2Proof.Machine

variable {s : State}

/-- R507: outside Dormant a source that comes with no reset going on causes a PKR. -/
theorem State.pkr_awake {src : Nat} (hawake : s.pow.dormant = none) (hout : s.boot.inReset = false) : s.pkr src = s.pkrRun src := by
  simp only [State.pkr, hawake, hout, Bool.false_eq_true, if_false]

/-- R507: several sources give one PKR. -/
theorem State.pkr_inReset {src : Nat} (hawake : s.pow.dormant = none) (hin : s.boot.inReset = true) : s.pkr src = s := by
  simp only [State.pkr, hawake, hin, if_true]

/-- R513: a write of RST_CMD with GO and the key causes a PKR of source 5. -/
theorem State.writeRstCmd_go {v : Nat} (hgo : bitOf v 0 = true) (hkey : bitsOf v 16 16 = 0x524B) : s.writeRstCmd v = s.pkr 5 := by
  simp only [State.writeRstCmd, hgo, hkey, beq_self_eq_true, Bool.and_self, if_true]

/-- R513: one without the key is ignored. -/
theorem State.writeRstCmd_noKey {v : Nat} (hkey : bitsOf v 16 16 ≠ 0x524B) : s.writeRstCmd v = s := by
  simp only [State.writeRstCmd, beq_eq_false_iff_ne.mpr hkey, Bool.and_false, Bool.false_eq_true, if_false]

/-- Settles O49, clause by clause. -/
theorem resetCommands : Obligations.ResetCommands := by
  refine ⟨?perst, ?perstEnd, ?hot, ?hotInReset, ?watchdog, ?command, ?commandKey, ?por, ?releaseOk, ?release, ?refclk, ?hbm, ?hbmOther,
    ?testRise, ?testFall, ?testSame⟩
  case perst => intro s; rfl
  case perstEnd => intro ld s; rfl
  case hot => intro s hawake hout; exact congrArg Host.Outcome.next (State.pkr_awake hawake hout)
  case hotInReset => intro s hawake hin; exact congrArg Host.Outcome.next (State.pkr_inReset hawake hin)
  case watchdog => intro s hawake hout; exact congrArg Host.Outcome.next (State.pkr_awake hawake hout)
  case command =>
    intro v s hopen hgo hkey hawake hout
    exact next_access_open hopen ((State.writeRstCmd_go hgo hkey).trans (State.pkr_awake hawake hout))
  case commandKey => intro v s hopen hkey; exact next_access_open hopen (State.writeRstCmd_noKey hkey)
  case por => intro ball slow reff s; rfl
  case releaseOk => intro ld s; rfl
  case release => intro ld s; rfl
  case refclk => intro s; rfl
  case hbm => intro m p b r s hactive; exact congrArg Host.Outcome.next (if_pos (.inl hactive))
  case hbmOther =>
    intro m p i b r s hstate
    exact congrArg Host.Outcome.next (if_neg fun h => by rw [hstate] at h; omega)
  case testRise => intro s htest; simp only [exec, execTestEnChange, htest, Bool.true_eq_false, if_false, if_true]
  case testFall => intro s htest; simp only [exec, execTestEnChange, htest, Bool.false_eq_true, if_false]
  case testSame => intro b s hsame; exact congrArg Host.Outcome.next (if_pos hsame)

section
variable {n : FieldId} {w : SwapSt}

/-- R430: a drained parcel goes on to be written, or ends BLANK where its header is bad now. -/
theorem exec_parcelDrained (hswap : s.swap n = some w) (hnot : w.drained = none) (hquiet : s.parcelQuiet n w.parcel = true)
    (hdue : w.t0 + usFs ≤ s.elapsed) {us : Nat} (hus : us = (s.elapsed - w.t0 - usFs) / usFs) {t : State}
    (ht : t = s.opMove w.entry 2 0 [(s.op w.entry).opspec.getD 0 0, (s.op w.entry).opspec.getD 1 0, us]) :
    exec (.parcelDrained n) s = .next (if t.swapError n w.parcel w.src ≠ 0 then t.swapBlank n w (t.swapError n w.parcel w.src)
      else t.setSwap n { w with drained := some us, drainedAt := s.elapsed, pieceAt := s.elapsed + 10 * usFs }) := by
  have hgo : (w.drained.isSome || decide (s.elapsed < w.t0 + usFs) || !s.parcelQuiet n w.parcel) = false := by
    simp [hnot, hquiet, hdue]
  subst hus ht
  simp only [exec, execParcelDrained, hswap, hgo, Bool.false_eq_true, if_false]
  rfl

/-- R432: the end of the write is judged once its time has come. -/
theorem parcelWritten_due (hdrained : w.drained.isSome = true) (hnot : w.written = false) (hdue : w.drainedAt + 10 * usFs ≤ s.elapsed) :
    (w.drained.isNone || w.written || decide (s.elapsed < w.drainedAt + 10 * usFs)) = false := by
  have hsome : w.drained.isNone = false := by rw [Option.isNone_eq_false_iff]; exact hdrained
  simp [hsome, hnot, hdue]

/-- R432: a failed read of the store leaves the parcel BLANK. -/
theorem exec_parcelWritten_failed (hswap : s.swap n = some w) (hdrained : w.drained.isSome = true) (hnot : w.written = false)
    (hdue : w.drainedAt + 10 * usFs ≤ s.elapsed) : exec (.parcelWritten n false) s = .next (s.swapBlank n w 0x0605) := by
  simp only [exec, execParcelWritten, hswap, parcelWritten_due hdrained hnot hdue, Bool.false_eq_true, if_false, Bool.not_false, if_true]

/-- R430, R432: a parcel that was written whole is in place, or BLANK where its tag is bad. -/
theorem exec_parcelWritten_whole (hswap : s.swap n = some w) (hdrained : w.drained.isSome = true) (hnot : w.written = false)
    (hdue : w.drainedAt + 10 * usFs ≤ s.elapsed) {q : Nat × Nat × Nat × Nat} (hq : q = s.swapSource n w.src) {t : State}
    (ht : t = (s.loadBasins n (84 * (4 + w.parcel)) 84 (s.bodyAt n q.1)).swapFab n w.parcel (s.bodyAt n q.1).fab) :
    exec (.parcelWritten n true) s = .next (if s.tagOk n q.1 q.2.1 q.2.2.1 then
      (t.opMove w.entry 2 65536 (s.op w.entry).opspec).setSwap n { w with written := true, writtenAt := s.elapsed }
      else s.swapBlank n w 0x0606) := by
  subst hq ht
  simp only [exec, execParcelWritten, hswap, parcelWritten_due hdrained hnot hdue, Bool.false_eq_true, if_false, Bool.not_true]
  by_cases htag : s.tagOk n (s.swapSource n w.src).1 (s.swapSource n w.src).2.1 (s.swapSource n w.src).2.2.1
  · simp only [htag, Bool.not_true, Bool.false_eq_true, if_false, if_true]
  · simp only [htag, Bool.not_false, Bool.false_eq_true, if_false, if_true]

/-- R430: the parcel runs and the swap ends DONE. -/
theorem exec_parcelActive (hswap : s.swap n = some w) (hwritten : w.written = true) (hdue : w.writtenAt + 2 * usFs ≤ s.elapsed)
    {a : Nat} (ha : a = (s.swapSource n w.src).1) {t : State}
    (ht : t = (s.replace n w.parcel (s.bodyAt n a)).set FCC.PVER (s.hdrVer n a) n w.parcel) :
    exec (.parcelActive n) s = .next (((((t.set FCC.PSTAT_STATE 0 n w.parcel).set FCC.PSTAT_SRC w.src n w.parcel).wrap FCC.PSTAT_SWAPS 1 n
      w.parcel).endSwap n).opDone w.entry) := by
  have hgo : (!w.written || decide (s.elapsed < w.writtenAt + 2 * usFs)) = false := by simp [hwritten, hdue]
  subst ha ht
  simp only [exec, execParcelActive, hswap, hgo, Bool.false_eq_true, if_false]

/-- R431: a drain that takes 1 ms leaves the parcel WEDGED and the swap FAILED. -/
theorem exec_parcelWedged (hswap : s.swap n = some w) (hnot : w.drained = none) (hdue : w.t0 + 1000 * usFs ≤ s.elapsed) :
    exec (.parcelWedged n) s = .next (((s.set FCC.PSTAT_STATE 3 n w.parcel).endSwap n).opFail w.entry 0x0602) := by
  simp only [exec, execParcelWedged, hswap, hnot, hdue, Option.isNone_none, decide_true, Bool.and_self, if_true]

end

/-- Settles O30, clause by clause. -/
theorem parcelCommands : Obligations.ParcelCommands := by
  refine ⟨?swap, ?drained, ?failed, ?written, ?active, ?wedged⟩
  case swap => intro n v src s hopen; exact next_access_open hopen rfl
  case drained => intro n w s hswap hnot hdue hquiet; exact exec_parcelDrained hswap hnot hquiet hdue rfl rfl
  case failed => intro n w s hswap hdrained hnot hdue; exact exec_parcelWritten_failed hswap hdrained hnot hdue
  case written => intro n w s hswap hdrained hnot hdue; exact exec_parcelWritten_whole hswap hdrained hnot hdue rfl rfl
  case active => intro n w s hswap hwritten hdue; exact exec_parcelActive hswap hwritten hdue rfl rfl
  case wedged => intro n w s hswap hnot hdue; exact exec_parcelWedged hswap hnot hdue

end Sys2Proof.Machine
end

section
/-! PROOFS. The debug hardware (spec/19_debug.md): the deferred halt, stimulus ports, trace rings and the gauge mux. -/
namespace Sys2Proof.Machine

variable {s t : State}

/-- R474: a halt that has been deferred for 64 cycles breaks the lock. -/
theorem State.rilBreak_due {g : Nat} (hrun : t.rget RIL.ESTAT_STATE g = 1) (hhalt : (t.eng g).halt.isSome = true)
    (hdrain : (t.eng g).draining = false) (hdefer : t.haltDeferred g = true) (hfull : (t.eng g).defer = 64) :
    t.rilBreak g = t.breakLock g :=
  if_pos ⟨hrun, hhalt, hdrain, hdefer, hfull⟩

/-- R474: the cycles for which a halt may be deferred pass. -/
theorem exec_haltDeferTimeout_deferred {g : EngId} (hrun : s.rget RIL.ESTAT_STATE g = 1) (hhalt : (s.eng g).halt.isSome = true)
    (hdrain : (s.eng g).draining = false) (hdefer : s.haltDeferred g = true) :
    exec (.haltDeferTimeout g) s = .next ((s.rilCycles g (64 - (s.eng g).defer)).rilBreak g) := by
  simp only [exec, execHaltDeferTimeout, hrun, hhalt, hdrain, hdefer, beq_self_eq_true, Bool.not_false, Bool.and_self, if_true]

/-- R474: no halt is deferred where none was asked for. -/
theorem exec_haltDeferTimeout_none {g : EngId} (hnone : (s.eng g).halt = none) : exec (.haltDeferTimeout g) s = .next s := by
  simp only [exec, execHaltDeferTimeout, hnone, Option.isSome_none, Bool.and_false, Bool.false_and, Bool.false_eq_true, if_false]

/-- R428, R476: a packet that fabric presents at an open port is traced with its size. -/
theorem exec_fabricStimulus_open {n : FieldId} {p : Fin 256} {k : Fin 16} {d : BitVec 128} {len : Nat} (hopen : s.fabricOpen n 18 = true)
    (hlen : len = if k = 0 then 16 else k.val) :
    exec (.fabricStimulus n p k d) s = .next (s.trace n 1 0 p len ((bytesLE 16 d.toNat).take len)) := by
  subst hlen
  exact congrArg Host.Outcome.next (if_pos hopen)

section
variable {u : Fin 9} {p : List Byte} {rest : List (List Byte)}

/-- R478: an empty FIFO writes nothing. -/
theorem exec_tracePacketWrite_empty (hempty : (s.ring u).fifo = []) : exec (.tracePacketWrite u) s = .next s := by
  simp only [exec, execTracePacketWrite, hempty, ite_self]

/-- R478: a running ring tries to write its oldest packet. -/
theorem exec_tracePacketWrite_oldest (hrun : s.get (ringRegs u).state (ringIx u) = 1) (hfifo : (s.ring u).fifo = p :: rest) :
    exec (.tracePacketWrite u) s = .next (s.ringWritten u (s.ringBase u + s.ringPtr u) rest
      (s.netStore .pwr (ringSrc u) 0 (s.ringBase u + s.ringPtr u) p)) := by
  simp only [exec, execTracePacketWrite, hrun, if_true, hfifo]

/-- R478: the ring advances past a packet that was written. -/
theorem State.ringWritten_ok {u a : Nat} {w : State × RStat} (hok : w.2 = .ok) : s.ringWritten u a rest w = w.1.ringAdvance u rest :=
  if_pos hok

/-- R478: a packet that has to wait stays where it is. -/
theorem State.ringWritten_waits {u a : Nat} {w : State × RStat} (hwaits : w.2 = .waits) : s.ringWritten u a rest w = s := by
  have hnot : w.2 ≠ .ok := by rw [hwaits]; decide
  rw [State.ringWritten, if_neg hnot, if_pos hwaits]

end

/-- Settles O24, clause by clause. -/
theorem debugCommands : Obligations.DebugCommands := by
  refine ⟨?unit, ?halt, ?resume, ?step, ?deferred, ?notHalted, ?stimulus, ?fabric, ?fabricWhole, ?enable, ?empty, ?written, ?waits⟩
  case unit => intro n c u r v s hopen; exact next_access_open hopen rfl
  case halt => intro g s hopen; exact next_access_open hopen rfl
  case resume => intro g s hopen; exact next_access_open hopen rfl
  case step => intro g s hopen; exact next_access_open hopen rfl
  case deferred =>
    intro g t s hrun hhalt hdrain hdefer ht hrun' hhalt' hdrain' hdefer' hfull
    subst ht
    exact (exec_haltDeferTimeout_deferred hrun hhalt hdrain hdefer).trans
      (congrArg Host.Outcome.next (State.rilBreak_due hrun' hhalt' hdrain' hdefer' hfull))
  case notHalted => intro g s hnone; exact exec_haltDeferTimeout_none hnone
  case stimulus => intro n e p v s hopen; exact next_access_open hopen rfl
  case fabric =>
    intro n p k d s hopen hk
    exact exec_fabricStimulus_open hopen (if_neg fun h => hk (congrArg Fin.val h)).symm
  case fabricWhole => intro n p d s hopen; exact exec_fabricStimulus_open hopen rfl
  case enable => intro u v s hopen; exact next_access_open hopen rfl
  case empty => intro u s hempty; exact exec_tracePacketWrite_empty hempty
  case written =>
    intro u p rest s hrun hfifo hok
    exact (exec_tracePacketWrite_oldest hrun hfifo).trans (congrArg Host.Outcome.next (State.ringWritten_ok hok))
  case waits =>
    intro u p rest s hrun hfifo hwaits
    exact (exec_tracePacketWrite_oldest hrun hfifo).trans (congrArg Host.Outcome.next (State.ringWritten_waits hwaits))

/-- R482: a challenge that is answered. -/
theorem exec_gaugeChallenge_open (hopen : s.barred .GAU 0 = none) :
    exec .gaugeChallenge s = .next (s.gaugeChallenge.answerData (bytesLE 4 (s.gaugeChallenge.get GAU.CHAL 0))) := by
  simp only [exec, execGaugeChallenge, hopen]

/-- R482: GO alone checks the token. -/
theorem State.writeGauCmd_go : s.writeGauCmd 1 = s.gaugeGo := by
  have hgo : bitOf 1 0 = true := by decide
  have hrelock : bitOf 1 1 = false := by decide
  simp only [State.writeGauCmd, hgo, hrelock, Bool.and_false, Bool.false_eq_true, if_false, if_true]

/-- R482: a good token unlocks for its scope and its life, a bad one is refused; either way the nonce is spent. -/
theorem State.gaugeGo_eq {u : State} {scope : Nat} (ht : t = { s with gau := { s.gau with nonce := false } }) (hscope : scope = fieldAt s.token 41 1 % 4)
    (hu : u = (((t.set GAU.STAT_UNLOCKED 1).set GAU.STAT_SCOPE scope).set GAU.REMAIN (fieldAt s.token 44 4)).logEvent 0x0902 8
      (fieldAt s.token 40 1 + scope * 2 ^ 8)) :
    s.gaugeGo = if s.tokenOk then { u with gau := { u.gau with ends := u.now + fieldAt s.token 44 4 * secUnits } }
      else (t.set GAU.STAT_TOKERR 1).logEvent 0x0903 8 (fieldAt s.token 40 1) := by
  simp only [State.gaugeGo, State.raise, ← hscope, ← ht, ← hu]

/-- R482: no expiry without an unlock. -/
theorem exec_gaugeExpiry_locked (hlocked : s.flag GAU.STAT_UNLOCKED = false) : exec .gaugeExpiry s = .next s :=
  congrArg Host.Outcome.next (if_neg fun h => Bool.false_ne_true (hlocked ▸ h.1))

/-- R481: without an unlock a selection is refused. -/
theorem State.writeGauge_locked {i v : Nat} (hlocked : s.flag GAU.STAT_UNLOCKED = false) : s.writeGauge i v = s.set GAU.STAT_LOCKERR 1 := by
  rw [State.writeGauge, hlocked]
  rfl

/-- R481: an unlock in scope lets a Headworks pin be selected. -/
theorem State.writeGauge_headworks {i v : Nat} (hopen : s.flag GAU.STAT_UNLOCKED = true) (hscope : s.bit GAU.STAT_SCOPE 0 = true)
    (hi : i < 16) : s.writeGauge i v = s.wrAll v [GAU.SEL_EN, GAU.SEL_PROBE] i := by
  simp only [State.writeGauge, hopen, hi, hscope, Bool.not_true, Bool.or_self, Bool.false_eq_true, if_false, if_true]

/-- Settles O25, clause by clause. -/
theorem gaugeCommands : Obligations.GaugeCommands := by
  refine ⟨?challenge, ?unlock, ?relock, ?expiry, ?noExpiry, ?locked, ?select⟩
  case challenge => intro s hopen; exact exec_gaugeChallenge_open hopen
  case unlock => intro s hopen t scope u; exact next_access_open hopen (State.writeGauCmd_go.trans (State.gaugeGo_eq rfl rfl rfl))
  case relock => intro s hopen; exact next_access_open hopen rfl
  case expiry => intro s hunlocked hdue; exact congrArg Host.Outcome.next (if_pos ⟨hunlocked, hdue⟩)
  case noExpiry => intro s hlocked; exact exec_gaugeExpiry_locked hlocked
  case locked => intro i v s hopen hlocked; exact next_access_open hopen (State.writeGauge_locked hlocked)
  case select => intro i v s hopen hunlocked hscope hi; exact next_access_open hopen (State.writeGauge_headworks hunlocked hscope hi)

end Sys2Proof.Machine
end

section
/-! PROOFS. Power states, wake events, gating, telemetry and protection (R496-R505, R517). -/
namespace Sys2Proof.Machine

variable {s : State}

/-! The power commands (R497-R499). -/

/-- R498: a command with a wrong key is refused with code 1. -/
theorem State.writePwrCmd_wrongKey {v : Nat} (hkey : bitsOf v 16 16 ≠ 0x5057) :
    s.writePwrCmd v = (s.set PWR.CSTAT_CODE 1).set PWR.CSTAT_CMDERR 1 :=
  if_pos (.inl hkey)

/-- R499: DORMANT with its key, while no other command and no bundle is under way, enters Dormant. -/
theorem State.writePwrCmd_dormant {v : Nat} (hop : bitsOf v 0 2 = 1) (hkey : bitsOf v 16 16 = 0x5057) (hidle : s.flag PWR.CSTAT_BUSY = false)
    (hstage : s.get FWU.STAT_STATE = 0) : s.writePwrCmd v = s.enterDormant 1 := by
  simp [State.writePwrCmd, hop, hkey, hidle, hstage]

/-- The KEY of a DORMANT command stands in the upper half of its word. -/
theorem bitsOf_dormantKey (k : BitVec 16) : bitsOf (1 + k.toNat * 2 ^ 16) 16 16 = k.toNat := by
  have hk := k.isLt
  simp only [bitsOf]
  omega

/-- R497: a write of PWR_FALLOW that leaves a field. -/
theorem State.writeAtpkr_taken {v : Nat} (hleft : s.lastField (bitsOf v 0 8) = false) :
    s.writeAtpkr v = s.set PWR.FALLOW_ATPKR (bitsOf v 0 8) := by
  simp only [State.writeAtpkr, hleft, Bool.false_eq_true, if_false]

/-! Wake (R500). -/

/-- R500: 1 ms after the entry to Dormant a wake event ends it, unless a package trip holds the wake. -/
theorem State.wakeEvent_armed {src t : Nat} (hdormant : s.pow.dormant = some t) (harmed : t + msUnits ≤ s.now) (hcool : s.pow.tripped = false) :
    s.wakeEvent src = s.wake src := by
  simp only [State.wakeEvent, hdormant, if_neg (Nat.not_lt.mpr harmed), hcool, Bool.false_eq_true, if_false]

/-- R500: outside Dormant a wake event does nothing. -/
theorem State.wakeEvent_awake {src : Nat} (hawake : s.pow.dormant = none) : s.wakeEvent src = s := by
  simp only [State.wakeEvent, hawake]

/-! Gating (R501). -/

/-- R501: an idle quad of a serving field is gated where the policy lets it. -/
theorem exec_quadGate_idle {q : QuadId} (hpolicy : s.flag PWR.POL_QGATE = true) (hserves : s.serves (q.val / 4) = true)
    (hidle : s.quadIdle q = true) :
    exec (.quadGate q) s = .next ((s.setBitOf FPW.GATE_QOFF (q % 4) (q / 4)).clearBitOf FPW.DON (5 + q % 4) (q / 4)) := by
  simp only [exec, execQuadGate, hpolicy, hserves, hidle, Bool.and_self, if_true]

/-- R501: a waking write to a gated quad switches its domain on and is then performed. -/
theorem exec_quadWake_gated {l : LaneId} {v : Word} (hgated : s.bit FPW.GATE_QOFF (quadOf l % 4) (fieldOf l) = true)
    (hopen : s.barred .LN (fieldOf l) = none) :
    exec (.quadWake l 0 v) s = .next (((s.wakeQuad (quadOf l)).writeLnCtrl l (setBit v.toNat 0)).answer .ok) :=
  congrArg Host.Outcome.next ((if_pos hgated).trans (s.access_open hopen _))

/-- R501: a quad that is not gated is not woken. -/
theorem exec_quadWake_on {l : LaneId} {k : Fin 4} {v : Word} (hon : s.bit FPW.GATE_QOFF (quadOf l % 4) (fieldOf l) = false) :
    exec (.quadWake l k v) s = .next s := by
  simp only [exec, execQuadWake, hon, Bool.false_eq_true, if_false]

/-- R501: a bank of a serving field is gated where the policy lets it. -/
theorem exec_bankGate_on {i : RsvId} {b : Fin 16} (hpolicy : s.flag PWR.POL_BGATE = true) (hserves : s.serves (i.val / 4) = true) :
    exec (.bankGate i b) s = .next (if i.val % 4 < 2 then s.setBitOf FPW.BGATE_BOFF_LO (16 * (i % 4) + b) (i / 4)
      else s.setBitOf FPW.BGATE_BOFF_HI (16 * (i % 4 - 2) + b) (i / 4)) := by
  have hblock : i % 4 < 2 ↔ i.val % 4 < 2 := Iff.rfl
  simp only [exec, execBankGate, hpolicy, hserves, hblock, Bool.and_self, if_true]

/-- Settles O50, clause by clause. -/
theorem powerStateCommands : Obligations.PowerStateCommands := by
  refine ⟨?dormant, ?wrongKey, ?fallow, ?atPkr, ?dwake, ?dwakeAwake, ?timer, ?hbmop, ?gate, ?wake, ?wakeOn, ?bankLow, ?bankHigh⟩
  case dormant => intro s hopen hidle hstage; exact next_access_open hopen (State.writePwrCmd_dormant (by decide) (by decide) hidle hstage)
  case wrongKey =>
    intro k s hopen hk
    refine next_access_open hopen (State.writePwrCmd_wrongKey fun h => hk (BitVec.eq_of_toNat_eq ?_))
    exact (bitsOf_dormantKey k).symm.trans h
  case fallow => intro n k s hopen; exact next_access_open hopen rfl
  case atPkr => intro v s hopen hleft; exact next_access_open hopen (State.writeAtpkr_taken hleft)
  case dwake => intro t s hdormant harmed hcool; exact congrArg Host.Outcome.next (State.wakeEvent_armed hdormant harmed hcool)
  case dwakeAwake => intro s hawake; exact congrArg Host.Outcome.next (State.wakeEvent_awake hawake)
  case timer =>
    intro t s hset hdormant harmed hcool
    exact congrArg Host.Outcome.next ((if_neg hset).trans (State.wakeEvent_armed hdormant harmed hcool))
  case hbmop => intro v s hopen; exact next_access_open hopen rfl
  case gate => intro q s hpolicy hserves hidle; exact exec_quadGate_idle hpolicy hserves hidle
  case wake => intro l v s hgated hopen; exact exec_quadWake_gated hgated hopen
  case wakeOn => intro l k v s hon; exact exec_quadWake_on hon
  case bankLow =>
    intro i b s hpolicy hserves hlow
    exact (exec_bankGate_on hpolicy hserves).trans (congrArg Host.Outcome.next (if_pos hlow))
  case bankHigh =>
    intro i b s hpolicy hserves hhigh
    exact (exec_bankGate_on hpolicy hserves).trans (congrArg Host.Outcome.next (if_neg (Nat.not_lt.mpr hhigh)))

/-! Telemetry and protection (R503-R505, R517). -/

/-- R504: a powered field with a sensor at the trip temperature is fenced and switched off. -/
theorem exec_fieldTrip_hot {n : FieldId} (hpower : s.powered n = true)
    (hhot : (List.range 4).any (fun j => decide ((s.get PWR.TLIM_TRIP : Int) ≤ signedOf (s.get FPW.TEMP n j) 8)) = true) :
    exec (.fieldTrip n) s =
      .next ((((s.setBitOf PWR.STAT_FTRIP n).used.logEvent 0x0A02 n (s.openValue .eventArg % 2 ^ 64)).fence n 9).rollEnd.fieldOff n) :=
  congrArg Host.Outcome.next (if_pos (by rw [hpower, hhot]; rfl))

/-- R504: a field without power does not trip. -/
theorem exec_fieldTrip_off {n : FieldId} (hoff : s.powered n = false) : exec (.fieldTrip n) s = .next s := by
  simp only [exec, execFieldTrip, hoff, Bool.false_and, Bool.false_eq_true, if_false]

/-- R504, R509: a Headworks sensor over its limit enters Dormant. -/
theorem exec_packageTrip_hot (hawake : s.pow.dormant = none)
    (hhot : (List.range 8).any (fun i => decide ((s.get PWR.TLIM_TRIP : Int) ≤ signedOf (s.get PWR.TSENS_TEMP i) 8)) = true) :
    exec .packageTrip s = .next ((s.used.logEvent 0x0A03 8 (s.openValue .eventArg % 2 ^ 64)).enterDormant 2) := by
  simp only [exec, execPackageTrip, hawake, hhot, Bool.true_or, if_true]

/-- R517: the POR of the island lasts until the POR command. -/
theorem exec_brownOut_island {d : Fin 9} {c : Fin 6} (hchannel : channelOk d c = true) (hhead : d.val = 8) (hisland : c.val = 0) :
    exec (.brownOut d c) s = .next { s.por 1 false false with boot := { (s.por 1 false false).boot with hold := [1] } } := by
  simp only [exec, execBrownOut, hchannel, Bool.not_true, Bool.false_eq_true, if_false]
  simp only [hhead, hisland, if_true]

/-- R505: another Headworks supply holds the package in a PKR. -/
theorem exec_brownOut_headworks {d : Fin 9} {c : Fin 6} (hchannel : channelOk d c = true) (hhead : d.val = 8) (hisland : c.val ≠ 0) :
    exec (.brownOut d c) s = .next (s.pkrHeld 9) := by
  simp only [exec, execBrownOut, hchannel, Bool.not_true, Bool.false_eq_true, if_false]
  simp only [hhead, hisland, if_true, if_false]

/-- R505, R517: a supply of a field that is monitored fences it and switches it off. -/
theorem exec_brownOut_field {d : Fin 9} {c : Fin 6} (hchannel : channelOk d c = true) (hfield : d.val ≠ 8) (hpower : s.powered d = true)
    (hmonitored : s.monitored d c = true) :
    exec (.brownOut d c) s = .next (((s.set FLH.SB_ALARM 1 d).fence d 0x0C).rollEnd.fieldOff d) := by
  simp only [exec, execBrownOut, hchannel, Bool.not_true, Bool.false_eq_true, if_false, hfield, hpower, hmonitored, Bool.and_self, if_true]
  rfl

/-- Settles O51, clause by clause. -/
theorem telemetryCommands : Obligations.TelemetryCommands := by
  refine ⟨?sensors, ?dormantSensors, ?trip, ?tripOff, ?package, ?limit, ?warn, ?warnNone, ?brownHead, ?brownIsland, ?brownField⟩
  case sensors => intro r s hawake hout; simp only [exec, execSensorRead, hawake, hout, Bool.false_eq_true, if_false]
  case dormantSensors => intro r t s hdormant; simp only [exec, execSensorRead, hdormant]
  case trip => intro n s hpower hhot; exact exec_fieldTrip_hot hpower hhot
  case tripOff => intro n s hoff; exact exec_fieldTrip_off hoff
  case package => intro s hawake hhot; exact exec_packageTrip_hot hawake hhot
  case limit => intro s habove hnot; exact congrArg Host.Outcome.next (if_pos ⟨habove, hnot⟩)
  case warn => intro d c s hchannel; exact congrArg Host.Outcome.next (if_pos hchannel)
  case warnNone =>
    intro d c s hchannel
    exact congrArg Host.Outcome.next (if_neg fun h => Bool.false_ne_true (hchannel ▸ h))
  case brownHead => intro d c s hchannel hhead hisland; exact exec_brownOut_headworks hchannel hhead hisland
  case brownIsland => intro d c s hchannel hhead hisland; exact exec_brownOut_island hchannel hhead hisland
  case brownField => intro d c s hchannel hfield hpower hmonitored; exact exec_brownOut_field hchannel hfield hpower hmonitored

end Sys2Proof.Machine
end

section
/-! PROOFS. Watermaster's sessions, requests, host channel and register writes (spec/19_debug.md R461-R469, R485). -/
namespace Sys2Proof.Machine

variable {s : State}

/-! What the trace of the debugger leaves. -/

/-- R478: a dropped packet of Headworks changes no session. -/
theorem State.flag_sessActive_traceDrop : (s.traceDrop 8).flag DBG.SESS_ACTIVE = s.flag DBG.SESS_ACTIVE :=
  congrArg (· == 1) (s.get_set_ne (f := DBG.TDROP) (g := DBG.SESS_ACTIVE) (i := 0) (j := 0) (k := 0) (by decide) _)

/-- R478: tracing in Headworks changes no session. -/
theorem State.flag_sessActive_trace {kind unit port size : Nat} {data : List Byte} :
    (s.trace 8 kind unit port size data).flag DBG.SESS_ACTIVE = s.flag DBG.SESS_ACTIVE := by
  have hdrop : (s.used.traceDrop 8).flag DBG.SESS_ACTIVE = s.flag DBG.SESS_ACTIVE := State.flag_sessActive_traceDrop
  unfold State.trace
  dsimp only
  split
  · split
    · split
      · rfl
      · exact hdrop
    · split
      · rfl
      · exact hdrop
  · split
    · exact State.flag_sessActive_traceDrop
    · rfl

/-! Requests (R463). -/

section
variable {x : Bool} {cmd q sid : Nat} {p : List Byte} {g : Guest}

/-- R461: a transport that is off takes nothing. -/
theorem State.wmRequest_deaf (hdeaf : s.wmListens x = false) : s.wmRequest x cmd q sid p g = s := by
  simp only [State.wmRequest, hdeaf, Bool.not_false, Bool.true_or, if_true]

/-- R485: the host channel ignores a request while it holds a response. -/
theorem State.wmRequest_held (hlistens : s.wmListens true = true) (hp : p.length ≤ 4072) (hbusy : s.flag WHC.STAT_REQBUSY = true) :
    s.wmRequest true cmd q sid p g = s := by
  simp only [State.wmRequest, hlistens, Bool.not_true, Bool.false_or, decide_eq_true_eq, Nat.not_lt.mpr hp, if_false, hbusy, Bool.true_or,
    Bool.and_self, if_true]

/-- R463: a request on the MSP while another one waits is answered BUSY. -/
theorem State.wmRequest_busy (hlistens : s.wmListens false = true) (hp : p.length ≤ 4072) (hpend : s.wm.pend.isSome = true) :
    s.wmRequest false cmd q sid p g = s.wmAnswer false (wmFrame 2 q cmd wmBusy sid []) := by
  simp only [State.wmRequest, hlistens, Bool.not_true, Bool.false_or, decide_eq_true_eq, Nat.not_lt.mpr hp, if_false, hpend, Bool.or_true,
    Bool.false_and, Bool.false_eq_true, if_true]

/-- Is the request a repeat of the last one (R464)? -/
def State.wmRepeats (s : State) (cmd q sid : Nat) : Bool :=
  s.wm.last.elim false fun l => l.1 == q && (sid == s.get DBG.SID || (cmd == 1 && fieldAt l.2 6 2 == 1))

/-- R463: a request that is taken: a repeat gets the kept response, one outside the session BADSESSION, any other is performed. -/
theorem State.wmRequest_taken {d : WmDone} (hlistens : s.wmListens x = true) (hp : p.length ≤ 4072) (hfree : s.flag WHC.STAT_REQBUSY = false)
    (hpend : s.wm.pend = none) (hcmd : s.wmCommand x cmd p g = some d) :
    s.wmRequest x cmd q sid p g =
      if s.flag DBG.SESS_ACTIVE && s.wmRepeats cmd q sid then s.wmAnswer x ((s.wm.last.map (·.2)).getD [])
      else if cmd ≠ 1 ∧ (s.flag DBG.SESS_ACTIVE = false ∨ sid ≠ s.get DBG.SID) then s.wmAnswer x (wmFrame 2 q cmd wmBadSession sid [])
      else d.report x cmd q sid p := by
  cases hlast : s.wm.last with
  | none =>
    simp only [State.wmRequest, hlistens, Bool.not_true, Bool.false_or, decide_eq_true_eq, Nat.not_lt.mpr hp, if_false, hfree, hpend,
      Option.isSome_none, Bool.or_self, Bool.false_eq_true, hcmd, State.wmRepeats, hlast, Option.elim_none]
  | some l =>
    simp only [State.wmRequest, hlistens, Bool.not_true, Bool.false_or, decide_eq_true_eq, Nat.not_lt.mpr hp, if_false, hfree, hpend,
      Option.isSome_none, Bool.or_self, Bool.false_eq_true, hcmd, State.wmRepeats, hlast, Option.elim_some]

/-- R464: with no kept response nothing is a repeat. -/
theorem State.wmRepeats_none (hlast : s.wm.last = none) : s.wmRepeats cmd q sid = false := by
  rw [State.wmRepeats, hlast, Option.elim_none]

/-- R464: a request of the session with the SEQ of the kept response is one. -/
theorem State.wmRepeats_same {b : List Byte} (hlast : s.wm.last = some (q, b)) (hsid : sid = s.get DBG.SID) :
    s.wmRepeats cmd q sid = true := by
  rw [State.wmRepeats, hlast, Option.elim_some, beq_self_eq_true, hsid, beq_self_eq_true, Bool.true_or, Bool.and_self]

end

section
variable {q : Fin 65536} {i : Word} {p : List Byte}

/-- R463: PING in a session with no kept response is answered with its payload. -/
theorem State.wmRequest_ping (hlistens : s.wmListens false = true) (hp : p.length ≤ 4072) (hfree : s.flag WHC.STAT_REQBUSY = false)
    (hpend : s.wm.pend = none) (hactive : s.flag DBG.SESS_ACTIVE = true) (hsid : i.toNat = s.get DBG.SID) (hlast : s.wm.last = none) :
    s.wmRequest false 3 q i.toNat p {} = (WmDone.mk s wmOk p).report false 3 q i.toNat p := by
  have hin : ¬(3 ≠ 1 ∧ (s.flag DBG.SESS_ACTIVE = false ∨ i.toNat ≠ s.get DBG.SID)) := by simp [hactive, hsid]
  rw [State.wmRequest_taken hlistens hp hfree hpend rfl, State.wmRepeats_none hlast, Bool.and_false, if_neg Bool.false_ne_true, if_neg hin]

/-- R463: PING outside a session is answered BADSESSION. -/
theorem State.wmRequest_ping_noSession (hlistens : s.wmListens false = true) (hp : p.length ≤ 4072) (hfree : s.flag WHC.STAT_REQBUSY = false)
    (hpend : s.wm.pend = none) (hclosed : s.flag DBG.SESS_ACTIVE = false) :
    s.wmRequest false 3 q i.toNat p {} = s.wmAnswer false (wmFrame 2 q 3 wmBadSession i.toNat []) := by
  rw [State.wmRequest_taken hlistens hp hfree hpend rfl, hclosed, Bool.false_and, if_neg Bool.false_ne_true, if_pos ⟨by decide, .inl rfl⟩]

/-- R464: a repeated PING gets the kept response again. -/
theorem State.wmRequest_ping_repeat {b : List Byte} (hlistens : s.wmListens false = true) (hp : p.length ≤ 4072)
    (hfree : s.flag WHC.STAT_REQBUSY = false) (hpend : s.wm.pend = none) (hactive : s.flag DBG.SESS_ACTIVE = true)
    (hsid : i.toNat = s.get DBG.SID) (hlast : s.wm.last = some (q.val, b)) :
    s.wmRequest false 3 q i.toNat p {} = s.wmAnswer false b := by
  rw [State.wmRequest_taken hlistens hp hfree hpend rfl, State.wmRepeats_same hlast hsid, hactive, Bool.and_self, if_pos rfl, hlast]
  rfl

/-- R464, R477: the report of a PING in the session: traced, kept for a repeat, and sent on the MSP. -/
theorem report_ping {b : List Byte} {t : State} (hactive : s.flag DBG.SESS_ACTIVE = true) (hb : b = wmFrame 2 q 3 wmOk i.toNat p)
    (ht : t = s.trace 8 6 0 0 12 (bytesLE 2 3 ++ bytesLE 2 q ++ bytesLE 8 0)) :
    (WmDone.mk s wmOk p).report false 3 q i.toNat p = ({ t with wm := { t.wm with last := some (q.val, b) } }).emit (.msp b) := by
  have htraced : t.flag DBG.SESS_ACTIVE = true := by rw [ht, State.flag_sessActive_trace, hactive]
  have hgood : ¬wmOk = wmBadCmd := by decide
  have hnotOpen : (3 = 1) = False := by decide
  have hkept : (wmOk != wmBusy) = true := by decide
  have hnames : wmNames 3 p = 0 := rfl
  simp only [WmDone.report, if_neg hgood, hnames, ← ht, hnotOpen, false_and, if_false, ← hb, htraced, hkept, Bool.and_self, if_true, State.wmAnswer,
    Bool.not_false]

end

/-- R463: a request that waited is performed and answered. -/
theorem State.wmRetry_done {w : WmReq} {d : WmDone} (hpend : s.wm.pend = some w) (hcmd : s.wmCommand w.chan w.cmd w.payload w.guest = some d) :
    s.wmRetry = ({ d with st := { d.st with wm := { d.st.wm with pend := none } } } : WmDone).report w.chan w.cmd w.seq w.sid w.payload := by
  simp only [State.wmRetry, hpend, hcmd]

/-- Settles O42, clause by clause. -/
theorem watermasterSession : Obligations.WatermasterSession := by
  refine ⟨?ping, ?noSession, ?repeated, ?busy, ?held, ?deaf, ?retry⟩
  case ping =>
    intro q i p s hlistens hp hfree hpend hactive hsid hlast b t
    exact congrArg Host.Outcome.next ((State.wmRequest_ping hlistens hp hfree hpend hactive hsid hlast).trans (report_ping hactive rfl rfl))
  case noSession =>
    intro q i p s hlistens hp hfree hpend hclosed
    exact congrArg Host.Outcome.next (State.wmRequest_ping_noSession hlistens hp hfree hpend hclosed)
  case repeated =>
    intro q i p b s hlistens hp hfree hpend hactive hsid hlast
    exact congrArg Host.Outcome.next (State.wmRequest_ping_repeat hlistens hp hfree hpend hactive hsid hlast)
  case busy => intro q i p s hlistens hp hpend; exact congrArg Host.Outcome.next (State.wmRequest_busy hlistens hp hpend)
  case held => intro q i p s hlistens hp hbusy; exact congrArg Host.Outcome.next (State.wmRequest_held hlistens hp hbusy)
  case deaf => intro x q i p s hdeaf; exact congrArg Host.Outcome.next (State.wmRequest_deaf hdeaf)
  case retry => intro w d s hpend hcmd; exact State.wmRetry_done hpend hcmd

/-! The doorbells of the host channel and writes of registers (R14-R17, R485). -/

section
variable {v : Nat} {g : Guest}

/-- R485: the doorbell REQ alone. -/
theorem State.writeWhc_req (hreq : bitOf v 0 = true) (hack : bitOf v 1 = false) (hevt : bitOf v 2 = false) :
    s.writeWhc 0 v g = s.hostRequest g := by
  simp only [State.writeWhc, hreq, hack, hevt, Bool.false_eq_true, if_false, if_true]

/-- R485: the doorbell RSPACK alone. -/
theorem State.writeWhc_rspAck (hreq : bitOf v 0 = false) (hack : bitOf v 1 = true) (hevt : bitOf v 2 = false) :
    s.writeWhc 0 v g = s.rspAck := by
  simp only [State.writeWhc, hreq, hack, hevt, Bool.false_eq_true, if_false, if_true]

/-- R485: the doorbell EVTACK alone. -/
theorem State.writeWhc_evtAck (hreq : bitOf v 0 = false) (hack : bitOf v 1 = false) (hevt : bitOf v 2 = true) :
    s.writeWhc 0 v g = s.evtAck := by
  simp only [State.writeWhc, hreq, hack, hevt, Bool.false_eq_true, if_false, if_true]

end

section
variable {o a : Nat} {b : List Byte} {g : Guest}

/-- R38: below 0x10000000 the write is one of the CSR region. -/
theorem State.regWrite_csr (ho : o < 0x10000000) : s.regWrite o b a g = s.csrWrite a o b g := if_pos ho

/-- R39: from there on a write of another size, unaligned, or beyond the host channel is refused. -/
theorem State.regWrite_refused (ho : ¬o < 0x10000000)
    (hbad : 0x30000 ≤ o - 0x10000000 ∨ ¬(b.length = 4 ∨ b.length = 8) ∨ (o - 0x10000000) % 4 ≠ 0) : s.regWrite o b a g = (s, .err) := by
  simp only [State.regWrite, if_neg ho, if_pos hbad]

/-- R39: a word or two at an aligned offset of BAR2 reaches the host channel, the mailbox, or the ledger, which ignores it. -/
theorem State.regWrite_bar2 (ho : 0x10000000 ≤ o) (hend : o < 0x10030000) (hlen : b.length = 4 ∨ b.length = 8) (halign : o % 4 = 0) :
    s.regWrite o b a g =
      if 0x20000 ≤ o - 0x10000000 then
        (if b.length = 8 then (s.writeWhc (o - 0x10000000 - 0x20000) (fieldAt b 0 4) g).writeWhc (o - 0x10000000 + 4 - 0x20000) (fieldAt b 4 4) g
          else s.writeWhc (o - 0x10000000 - 0x20000) (fieldAt b 0 4) g, .ok)
      else if 0x10000 ≤ o - 0x10000000 then (s.mailboxWrite (o - 0x10000000 - 0x10000) b, .ok)
      else (s, .ok) := by
  have hgood : ¬(0x30000 ≤ o - 0x10000000 ∨ ¬(b.length = 4 ∨ b.length = 8) ∨ (o - 0x10000000) % 4 ≠ 0) := by omega
  simp only [State.regWrite, if_neg (Nat.not_lt.mpr ho), if_neg hgood]

/-- R410: the ledger ignores writes. -/
theorem State.regWrite_ledger (ho : 0x10000000 ≤ o) (hend : o < 0x10010000) (hlen : b.length = 4 ∨ b.length = 8) (halign : o % 4 = 0) :
    s.regWrite o b a g = (s, .ok) := by
  rw [State.regWrite_bar2 ho (by omega) hlen halign, if_neg (by omega), if_neg (by omega)]

/-- R405: the mailbox. -/
theorem State.regWrite_mailbox (ho : 0x10010000 ≤ o) (hend : o < 0x10020000) (hlen : b.length = 4 ∨ b.length = 8) (halign : o % 4 = 0) :
    s.regWrite o b a g = (s.mailboxWrite (o - 0x10010000) b, .ok) := by
  rw [State.regWrite_bar2 (by omega) (by omega) hlen halign, if_neg (by omega), if_pos (by omega), Nat.sub_sub]

/-- R485: a word of the host channel. -/
theorem State.regWrite_whc (ho : 0x10020000 ≤ o) (hend : o < 0x10030000) (hlen : b.length = 4) (halign : o % 4 = 0) :
    s.regWrite o b a g = (s.writeWhc (o - 0x10020000) (fieldAt b 0 4) g, .ok) := by
  rw [State.regWrite_bar2 (by omega) hend (.inl hlen) halign, if_pos (by omega), if_neg (by omega), Nat.sub_sub]

/-- R485: two words of the host channel. -/
theorem State.regWrite_whc_two (ho : 0x10020000 ≤ o) (hend : o < 0x10030000) (hlen : b.length = 8) (halign : o % 4 = 0) :
    s.regWrite o b a g = ((s.writeWhc (o - 0x10020000) (fieldAt b 0 4) g).writeWhc (o - 0x1001FFFC) (fieldAt b 4 4) g, .ok) := by
  have hsecond : o - 0x10000000 + 4 - 0x20000 = o - 0x1001FFFC := by omega
  rw [State.regWrite_bar2 (by omega) hend (.inr hlen) halign, if_pos (by omega), if_pos hlen, Nat.sub_sub, hsecond]

end

/-- A write of a register answers what its write came to. -/
theorem exec_registerWrite {o : Fin 0x10100000} {b : List Byte} {a : Fin 4096} {g : Guest} {t : State} {st : RStat}
    (ht : s.regWrite o b a g = (t, st)) : exec (.registerWrite o b a g) s = .next (t.answer st) := by
  simp only [exec, execRegisterWrite, ht]

/-- Settles O41, clause by clause: the commands are requests of their CMD, and the writes go by their offset. -/
theorem watermasterCommands : Obligations.WatermasterCommands := by
  refine ⟨?wmOpen, ?wmClose, ?wmPing, ?mrd, ?mwr, ?wmHalt, ?wmResume, ?wmStep, ?rreg, ?wreg, ?wmLog, ?gunlock, ?wmRd, ?wmWr, ?gap, ?whc,
    ?rspack, ?evtack, ?csr, ?ledger, ?mailbox, ?hostWord, ?hostWords, ?refused⟩
  case wmOpen => intro x q p s; rfl
  case wmClose => intro x q i p s; rfl
  case wmPing => intro x q i p s; rfl
  case mrd => intro x q i p s; rfl
  case mwr => intro x q i p s; rfl
  case wmHalt => intro x q i p s; rfl
  case wmResume => intro x q i p s; rfl
  case wmStep => intro x q i p s; rfl
  case rreg => intro x q i p s; rfl
  case wreg => intro x q i p s; rfl
  case wmLog => intro x q i p s; rfl
  case gunlock => intro x q i p s; rfl
  case wmRd => intro x q i p g s; rfl
  case wmWr => intro x q i p g s; rfl
  case gap => intro s; rfl
  case whc => intro g s; exact congrArg (fun t => Host.Outcome.next (t.answer .ok)) (State.writeWhc_req (v := 1) (by decide) (by decide) (by decide))
  case rspack => intro s; exact congrArg (fun t => Host.Outcome.next (t.answer .ok)) (State.writeWhc_rspAck (v := 2) (by decide) (by decide) (by decide))
  case evtack => intro s; exact congrArg (fun t => Host.Outcome.next (t.answer .ok)) (State.writeWhc_evtAck (v := 4) (by decide) (by decide) (by decide))
  case csr => intro o b a g s ho; exact exec_registerWrite (State.regWrite_csr ho)
  case ledger => intro o b a g s ho hend hlen halign; exact exec_registerWrite (State.regWrite_ledger ho hend hlen halign)
  case mailbox => intro o b a g s ho hend hlen halign; exact exec_registerWrite (State.regWrite_mailbox ho hend hlen halign)
  case hostWord => intro o b a g s ho hend hlen halign; exact exec_registerWrite (State.regWrite_whc ho hend hlen halign)
  case hostWords => intro o b a g s ho hend hlen halign; exact exec_registerWrite (State.regWrite_whc_two ho hend hlen halign)
  case refused =>
    intro o b a g s hbad
    exact exec_registerWrite (State.regWrite_refused (by omega) (by omega))

end Sys2Proof.Machine
end

section
/-! PROOFS. Bundles, confirmation, the end of a trial, migration and owner enrolment (R436, R446-R454, R457). -/
namespace Sys2Proof.Machine

variable {s : State}

/-! Receiving and staging (R446, R447). -/

section
variable {p : List Byte}

/-- R446: BUNDLE_DATA of the next bytes, within the announced length, appends them. -/
theorem exec_bundleData_taken {t : State} (hshort : 9 ≤ p.length) (hlong : p.length ≤ 8192) (hstate : s.get FWU.STAT_STATE = 1)
    (hoffset : fieldAt p 0 8 = s.upd.rx.length) (htotal : s.upd.rx.length + (p.length - 8) ≤ s.upd.total)
    (ht : t = { s with upd := { s.upd with rx := s.upd.rx ++ p.drop 8 } }) :
    exec (.bundleData p) s = .next (((t.set2 FWU.RX_LO FWU.RX_HI t.upd.rx.length).judgeBundle).mailbox 0) := by
  subst ht
  have hgood : ¬(p.length < 9 ∨ 8192 < p.length ∨ s.get FWU.STAT_STATE ≠ 1 ∨ fieldAt p 0 8 ≠ s.upd.rx.length ∨
      s.upd.total < s.upd.rx.length + (p.length - 8)) := by omega
  exact congrArg Host.Outcome.next (if_neg hgood)

/-- R446: a good BUNDLE_BEGIN. -/
theorem exec_bundleBegin_good (hlen : p.length = 10) (hentry : fieldAt p 8 2 ≤ 1023) :
    exec (.bundleBegin p) s = .next (s.bundleBegin (fieldAt p 0 8) (fieldAt p 8 2)) :=
  congrArg Host.Outcome.next (if_neg (by omega))

/-- R448: a good BUNDLE_END. -/
theorem exec_bundleEnd_good (hlen : p.length = 2) (hentry : fieldAt p 0 2 ≤ 1023) :
    exec (.bundleEnd p) s = .next (s.bundleEnd (fieldAt p 0 2)) :=
  congrArg Host.Outcome.next (if_neg (by omega))

end

/-- R446: a part that goes into a store leaves the book of updates as it was. -/
theorem State.upd_writePart_store {p : PartRec} {plain : List Byte} (hstored : p.kind ≠ 8) : (s.writePart p plain).upd = s.upd := by
  have hwritten : ∀ a n b die bytes, s.same .management ((s.used.eraseStore die a n).setStores die b bytes) := fun _ _ _ _ _ =>
    State.setStores_same (by decide) (State.eraseStore_same (by decide) (State.used_same (by decide) rfl))
  have hsame : s.same .management (s.writePart p plain) := by
    simp only [State.writePart, if_neg hstored]
    split
    · exact State.showSlots_same (hwritten ..)
    · exact hwritten ..
  exact (Prod.ext_iff.mp (Prod.ext_iff.mp hsame).2).1

/-- R446: writing a part counts none as done. -/
theorem State.done_writePart {p : PartRec} {plain : List Byte} : (s.writePart p plain).upd.done = s.upd.done := by
  by_cases hmigration : p.kind = 8
  · rw [State.writePart, if_pos hmigration]
  · rw [State.upd_writePart_store hmigration]

section
variable {ok : Bool} {e : List Byte}

/-- R446: no part is left to be written. -/
theorem exec_bundlePartWritten_none (hnone : (bunEntries s.upd.rx)[s.upd.done]? = none) : exec (.bundlePartWritten ok) s = .next s := by
  simp only [exec, execBundlePartWritten, hnone]

section
variable (hentry : (bunEntries s.upd.rx)[s.upd.done]? = some e) (hstate : s.get FWU.STAT_STATE = 1) (hman : s.upd.manOk = true)
  (hrx : entOffset e + entLength e ≤ s.upd.rx.length)
include hentry hstate hman hrx

/-- R447: a part whose check fails fails the bundle. -/
theorem exec_bundlePartWritten_bad {err : Nat} {plain : List Byte} (herr : s.partError s.upd.rx e ok = (err, plain)) (hbad : err ≠ 0) :
    exec (.bundlePartWritten ok) s = .next (s.stageFail err s.upd.done) := by
  have hgo : ¬(s.get FWU.STAT_STATE ≠ 1 ∨ s.upd.manOk = false ∨ s.upd.rx.length < entOffset e + entLength e) := by simp [hstate, hman, hrx]
  simp only [exec, execBundlePartWritten, hentry, if_neg hgo, herr]

/-- R446: a good part that is not the last moves the operation on. -/
theorem exec_bundlePartWritten_more {plain : List Byte} {u : State} (hgood : s.partError s.upd.rx e ok = (0, plain))
    (hmore : s.upd.done + 1 ≠ (bunEntries s.upd.rx).length)
    (hu : u = { s.writePart (partOf e) plain with upd := { (s.writePart (partOf e) plain).upd with done := s.upd.done + 1 } }) :
    exec (.bundlePartWritten ok) s = .next (u.opMove u.upd.entry 3 (1024 * (64 * plainBytes (bunEntries s.upd.rx) (s.upd.done + 1) /
      max 1 (plainBytes (bunEntries s.upd.rx) (bunEntries s.upd.rx).length))) []) := by
  have hgo : ¬(s.get FWU.STAT_STATE ≠ 1 ∨ s.upd.manOk = false ∨ s.upd.rx.length < entOffset e + entLength e) := by simp [hstate, hman, hrx]
  subst hu
  simp only [exec, execBundlePartWritten, hentry, if_neg hgo, hgood, State.done_writePart, if_neg hmore]

end

end

/-! The commands of FWU_CTRL, FWU_CONFIRM and the trial's window (R447-R454). -/

/-- R447: FWU_CTRL with ABORT alone. -/
theorem State.writeFwuCtrl_abort : s.writeFwuCtrl 2 = s.abortBundle := by
  have hcancel : bitOf 2 0 = false := by decide
  have habort : bitOf 2 1 = true := by decide
  simp only [State.writeFwuCtrl, hcancel, habort]

/-- R449: FWU_CTRL with CANCEL alone. -/
theorem State.writeFwuCtrl_cancel : s.writeFwuCtrl 1 = s.cancelBundle := by
  have hcancel : bitOf 1 0 = true := by decide
  have habort : bitOf 1 1 = false := by decide
  simp only [State.writeFwuCtrl, hcancel, habort]

/-- R452: a wrong confirmation word. -/
theorem State.writeConfirm_wrong {v : Nat} (hkey : bitsOf v 0 16 ≠ 0xC0F1) : s.writeConfirm v = s.set FWU.STAT_CFERR 1 :=
  if_neg fun h => hkey h.1

/-- R452: a trial whose settings migrated is confirmed: the counters rise, the event follows. -/
theorem State.writeConfirm_trial {v : Nat} {t u : State} (hkey : bitsOf v 0 16 = 0xC0F1) (htrial : s.get FWU.STAT_STATE = 5)
    (hmig : s.flag FWU.STAT_MIGFAIL = false) (ht : t = ((s.set FWU.STAT_STATE 0).set FWU.STAT_PRIV 0).set FWU.WIN_REMAIN 0)
    (hu : u = ({ t with upd := { t.upd with raise := raises t.upd.parts, parts := [], migs := [], migrated := [], done := 0 } }).raiseCounters) :
    s.writeConfirm v = (u.logEvent 0x0704 8 u.bundleId).set FWU.STAT_LASTRES 1 := by
  subst ht hu
  exact if_pos ⟨hkey, htrial, hmig⟩

/-- R457: a migration that succeeds is shown, and the migrated settings are taken. -/
theorem exec_settingsMigration_done {ok : Bool} {t : State} (htrial : s.get FWU.STAT_STATE = 5) (hnot : s.upd.migDone = false)
    (hout : s.boot.inReset = false) (hmig : s.migrateAll ok s.upd.migs = (t, none)) :
    exec (.settingsMigration ok) s =
      .next (({ t.set FWU.STAT_MIGOK 1 with upd := { t.upd with migDone := true } }).headworksSettings false) := by
  have hgo : s.get FWU.STAT_STATE = 5 ∧ s.upd.migDone = false ∧ s.boot.inReset = false := ⟨htrial, hnot, hout⟩
  simp only [exec, execSettingsMigration, if_pos hgo, hmig]
  rfl

/-! Owner enrolment (R436). -/

/-- R436: a part with no owner yet, a key and the command word enrols the owner. -/
theorem State.writeOcmd_enrol {v : Nat} (hgo : bitOf v 0 = true) (hlife : s.get HDG.LCS = 1) (hkey : bitsOf v 16 16 = 0x4F57)
    (howner : s.digest HDG.OKEY ≠ 0) :
    s.writeOcmd v = (((List.range 12).foldl (fun s i => s.set HDG.OWNH (s.get HDG.OKEY i) i) s).set HDG.LCS 2).logEvent 0x0709 8 0 := by
  have hgood : ¬(s.get HDG.LCS ≠ 1 ∨ bitsOf v 16 16 ≠ 0x4F57 ∨ s.digest HDG.OKEY = 0) := by simp [hlife, hkey, howner]
  simp only [State.writeOcmd, hgo, Bool.not_true, Bool.false_eq_true, if_false, if_neg hgood]

/-- R436: another command word is refused. -/
theorem State.writeOcmd_wrong {v : Nat} (hgo : bitOf v 0 = true) (hkey : bitsOf v 16 16 ≠ 0x4F57) : s.writeOcmd v = s.set HDG.STAT_OCERR 1 := by
  have hbad : s.get HDG.LCS ≠ 1 ∨ bitsOf v 16 16 ≠ 0x4F57 ∨ s.digest HDG.OKEY = 0 := .inr (.inl hkey)
  simp only [State.writeOcmd, hgo, Bool.not_true, Bool.false_eq_true, if_false, if_pos hbad, State.raise]

/-- Settles O60, clause by clause. -/
theorem updateCommands : Obligations.UpdateCommands := by
  refine ⟨?begin, ?beginBad, ?data, ?partNone, ?partNext, ?bundleEnd, ?abort, ?abortIdle, ?cancel, ?confirmWrong, ?confirm, ?expiry, ?noTrial,
    ?migration, ?enrol, ?enrolWrong⟩
  case begin => intro p s hlen hentry; exact exec_bundleBegin_good hlen hentry
  case beginBad => intro p s hlen; exact congrArg Host.Outcome.next (if_pos (.inl hlen))
  case data => intro p s hshort hlong hstate hoffset htotal; exact exec_bundleData_taken hshort hlong hstate hoffset htotal rfl
  case partNone => intro ok s hnone; exact exec_bundlePartWritten_none hnone
  case partNext =>
    intro ok e s hentry hstate hman hrx hmore r t u
    by_cases herr : r.1 = 0
    · exact (exec_bundlePartWritten_more hentry hstate hman hrx (Prod.ext herr rfl) hmore rfl).trans (congrArg Host.Outcome.next (if_pos herr).symm)
    · exact (exec_bundlePartWritten_bad hentry hstate hman hrx rfl herr).trans (congrArg Host.Outcome.next (if_neg herr).symm)
  case bundleEnd => intro p s hlen hentry; exact exec_bundleEnd_good hlen hentry
  case abort => intro s hopen hstate; exact next_access_open hopen (State.writeFwuCtrl_abort.trans (if_pos hstate))
  case abortIdle => intro s hopen hstate; exact next_access_open hopen (State.writeFwuCtrl_abort.trans (if_neg hstate))
  case cancel => intro s hopen; exact next_access_open hopen State.writeFwuCtrl_cancel
  case confirmWrong => intro v s hopen hkey; exact next_access_open hopen (State.writeConfirm_wrong hkey)
  case confirm => intro v s hopen hkey htrial hmig t u; exact next_access_open hopen (State.writeConfirm_trial hkey htrial hmig rfl rfl)
  case expiry => intro s htrial hrolling hdue; exact congrArg Host.Outcome.next (if_pos ⟨htrial, hrolling, hdue⟩)
  case noTrial => intro s hno; exact congrArg Host.Outcome.next (if_neg fun h => hno h.1)
  case migration => intro ok t s htrial hnot hout hmig; exact exec_settingsMigration_done htrial hnot hout hmig
  case enrol => intro v s hopen hgo hlife hkey howner; exact next_access_open hopen (State.writeOcmd_enrol hgo hlife hkey howner)
  case enrolWrong => intro v s hopen hgo hkey; exact next_access_open hopen (State.writeOcmd_wrong hgo hkey)

end Sys2Proof.Machine
end
